-- ==== Sys2Proof/Word.lean ====
section
/-! DEFINITION. Word.lean: the word types of the device (R2, R8) and the small types that commands name. -/

namespace Sys2Proof

/-- A byte. -/
abbrev Byte := BitVec 8

/-- A register, SRAM word or Mill word (R2). -/
abbrev Word := BitVec 32

/-- COUNT, a stamp or a total (R31). -/
abbrev Dword := BitVec 64

/-- The world a master acts in (R362): bit WORLD of a packet (R324). -/
inductive World where
  | nonSecure
  | secure
  deriving DecidableEq, Repr

/-- The two command links (R321, R322). -/
inductive Link where
  | spi
  | uart
  deriving DecidableEq, Repr

/-- The two ports and the two rings of the Pelkin ring (R264). -/
inductive Port where
  | a
  | b
  deriving DecidableEq, Repr

/-- What makes a port's input count as lost (R286): its block lock fails, hi_ber is reported, LOS or ABS is high, or a remote fault
arrives. -/
inductive PortLoss where
  | blockLock
  | hiBer
  | los
  | absent
  | remoteFault
  deriving DecidableEq, Repr

/-- How a message of the gap arrives: the port, and whether its CRC is right (R274). -/
structure Arrival where
  port : Port
  ok : Bool
  deriving DecidableEq, Repr

/-- How SDCA or SDCB has stood over the last `time` µs of its mirror: the least and the greatest voltage in µV (R304). -/
structure SdcRun where
  least : Nat
  most : Nat
  time : Nat
  deriving DecidableEq, Repr

/-- A change at a port's input: condition `cause` of a lost input holds at `port` when `on`, or holds no longer (R286, R287). -/
structure PortInput where
  port : Port
  cause : PortLoss
  on : Bool
  deriving DecidableEq, Repr

/-- Whom a message of the ring names: a unique ID, and the node slot that it holds (R277). -/
structure NodeId where
  uid : Dword
  slot : Fin 1024
  deriving DecidableEq, Repr

/-- A scan of the test access port: the code shifted into its instruction register, and the bits then shifted into its data register, the
first at its least significant end (R361). -/
structure TapScan where
  code : BitVec 8
  dr : List Bool
  deriving DecidableEq, Repr

/-- The rails as their monitors release them at a power-up: VDRV above its threshold, and which of the banks P, H and E (bits 0 to 2) run at
1.8 V (R393). -/
structure Rails where
  vdrv : Bool
  low : BitVec 3
  deriving DecidableEq, Repr

/-- Where a sensed gate-source voltage lies: in the off range, between the ranges, or in the on range (R198, R399). -/
inductive GateLevel where
  | off
  | between
  | on
  deriving DecidableEq, Repr

/-- The two mirrors of the safety island (R294). -/
inductive Mirror where
  | a
  | b
  deriving DecidableEq, Repr

/-- The header fields of a command packet that its opcode and payload leave to the host: WORLD, SEQ, ACK, CTR and the tag, present when
FLAGS.TAG is 1 (R324). -/
structure Hdr where
  world : World
  seq : BitVec 16
  ack : BitVec 16
  ctr : Word
  tag : Option (List Byte)
  deriving DecidableEq, Repr

end Sys2Proof
end

