-- ==== Sys2Proof/Syntax.lean ====
section
/-! DEFINITION. Syntax.lean: the commands of the block, one constructor for each row of spec/opcode_table.json, with
what the outside decides as operands. -/

namespace Sys2Proof

/-- The commands and events of the WN7440 (spec/95, the table of operations and events). -/
inductive Instr where
  /-- REGISTER_WRITE (R2): A bus write to a register that has no behaviour of its own stores the written fields according to their access codes, subject to world, lock and mode rules. -/
  | registerWrite (w : World) (a v : Word)
  /-- BLOCK_LOCK (R5): A write of 1 to a block's LOCK bit stores the written RWL fields first and then freezes them until the reset of the block's domain. -/
  | blockLock (w : World) (b : Fin 17) (v : Word)
  /-- REF_LOST (R30): After 4 monitor cycles with no reference edge the clock monitor sets REF_LOST, clears both lock flags, blocks every leg and GD output, switches clocks to the monitor oscillator and sends the device to LIMP. -/
  | refLost
  /-- SYN0_LOST (R30): SYN0 phase error beyond four times the window for 4 reference cycles sets SYN0_LOST, blocks outputs, switches CORE, CONV and HOST to the monitor oscillator and sends the device to LIMP. -/
  | syn0Lost
  /-- SYN1_LOST (R30): SYN1 loss of lock switches the STEW domain to the monitor oscillator and is logged, while switching continues. -/
  | syn1Lost
  /-- SYN0_LOCK (R22): SYN0 declares lock after its phase error has stayed within the window for N consecutive reference cycles. -/
  | syn0Lock
  /-- TRIM_WRITE (R23): A write to CLK_SYN0_TRIM retunes SYN0 at the next reference edge when it stays within ±30,000 and within 500 of the applied trim; otherwise it is refused and TRIM_REFUSED is set. -/
  | trimWrite (w : World) (v : Word)
  /-- RAMP_START (R26): A write of 1 to CLK_RAMP_CTRL.START begins segment 0 of the ramp profile, or is refused with RAMP_REFUSED. -/
  | rampStart (w : World) (v : Word)
  /-- RAMP_ABORT (R26): A write of 1 to CLK_RAMP_CTRL.ABORT stops the ramp profile and holds the current trim. -/
  | rampAbort (w : World) (v : Word)
  /-- RAMP_TICK (R26): Once per ms a running ramp segment adds its clamped slope to the trim, clamping the trim at ±30,000. -/
  | rampTick
  /-- RAMP_SEGMENT_END (R26): When a segment's duration elapses the profile moves to the next segment or, after segment NSEG, holds, returns or loops as END selects. -/
  | rampSegmentEnd
  /-- SSC_WRITE (R28): A write to CLK_SYNx_SSC enables or changes spread spectrum, or is refused with SSC_REFUSED for DEPTH 3 or a conflict on SYN0. -/
  | sscWrite (w : World) (syn1 : Bool) (v : Word)
  /-- TB_LO_READ (R34): A read of CLK_TB_LO returns COUNT[31:0] and latches COUNT[63:32], FINE and EPOCH into shadows. -/
  | tbLoRead (w : World)
  /-- COMPARE_TARGET_LOAD (R35): A write to CLK_CMPn_HI loads the held LO half and the HI half together as the compare target, setting MISSED and clearing EN if the target is already past. -/
  | compareTargetLoad (w : World) (n : Fin 16) (v : Word)
  /-- COMPARE_ENABLE (R36): A write setting CLK_CMPn_CTRL.EN arms the unit, or sets MISSED and clears EN when the target lies at or before COUNT. -/
  | compareEnable (w : World) (n : Fin 16) (v : Word)
  /-- COMPARE_MATCH (R35): When COUNT equals a compare unit's target the unit emits its event, then advances the target by PER or clears EN for a one-shot. -/
  | compareMatch (n : Fin 16)
  /-- CAPTURE_LO_READ (R37): A read of CLK_CAPn_LO latches the HI half of the captured count. -/
  | captureLoRead (w : World) (n : Fin 8)
  /-- CAPTURE_HI_READ (R37): A read of CLK_CAPn_HI returns the latched half and clears VALID. -/
  | captureHiRead (w : World) (n : Fin 8)
  /-- RTC_SET (R38): A write to CLK_RTC_SEC_HI loads the 48-bit seconds value with the held LO half, restarts SUB and clears RTC_BAD. -/
  | rtcSet (w : World) (v : Word)
  /-- RTC_LO_READ (R38): A read of CLK_RTC_SEC_LO latches SEC_HI and SUB. -/
  | rtcLoRead (w : World)
  /-- RTC_TB_LO_READ (R40): A read of CLK_RTC_TB_LO latches the HI half of the COUNT recorded at the last RTC second. -/
  | rtcTbLoRead (w : World)
  /-- RTC_SECOND (R40): At each RTC second boundary the RTC advances its seconds and, while CORE runs, records COUNT in CLK_RTC_TB. -/
  | rtcSecond
  /-- RTC_TRIM_INTERVAL (R39): At the end of each 32 s interval the RTC adds or removes CLK_RTC_TRIM ticks. -/
  | rtcTrimInterval
  /-- PERT_ENABLE (R59): A write of TST_CTRL.PERT_EN from 0 to 1 in SERVICE seeds every target's LFSR and starts perturbation. -/
  | pertEnable (w : World) (v : Word)
  /-- RPL_START (R60): A write of 1 to TST_RPL_CTRL.START is refused with an ERR reason, or reloads data memory, resets Weathervane sets, zeroes replay accumulators and arms the engine. -/
  | rplStart (w : World) (v : Word)
  /-- RPL_ABORT (R60): A write of 1 to TST_RPL_CTRL.ABORT stops record or replay at the end of the current slot without setting DONE. -/
  | rplAbort (w : World) (v : Word)
  /-- RPL_ENGINE_START (R60): An armed recording starts at the first valley of the anchor carrier, fixing slot 0 and the phase. -/
  | rplEngineStart
  /-- RPL_REPLAY_MATCH (R62): An armed replay starts at the first valley whose slot phase equals TST_RPL_PHASE. -/
  | rplReplayMatch
  /-- RPL_PHASE_TIMEOUT (R62): When no valley with the recorded phase occurs within 32 valleys the replay stops with PHASE. -/
  | rplPhaseTimeout
  /-- RPL_RECORD_SLOT (R61): In record mode each conversion slot writes one record per selected slice, setting DONE and storing the phase after the last slot. -/
  | rplRecordSlot
  /-- RPL_REPLAY_SLOT (R62): In replay mode each slot presents the recorded values to the intake with that slot's stamp, stopping with CHAN_MISMATCH on a channel difference. -/
  | rplReplaySlot
  /-- CONVERSION_SLOT (R67): At every 32-cycle slot boundary each active slice and SX samples its scheduled channel and converts it, applying correction, averaging and open-wire judgement. -/
  | conversionSlot (raw : List Int)
  /-- INTAKE_ARRIVAL (R67): A corrected value reaches the Prism intake with its slot stamp, is written to ACQ_DATAn and is assigned to windows, streams and sets by stamp. -/
  | intakeArrival
  /-- ACQ_DATA_READ (R74): A read of ACQ_DATAn clears VALID and latches the value's stamp into ACQ_STAMPn. -/
  | acqDataRead (w : World) (n : Fin 16)
  /-- ACQ_ENABLE_WRITE (R70): A write of ACQ_CTRL.EN from 0 to 1 arms acquisition to start at the first slot boundary after the next valley of SYNC_CAR. -/
  | acqEnableWrite (w : World) (v : Word)
  /-- ACQ_START (R70): Acquisition starts at the chosen slot boundary once CAL_DONE is set, with tables at their START entries and averaging groups fresh. -/
  | acqStart
  /-- ACQ_STOP (R70): At the slot boundary after a write of 0 to ACQ_CTRL.EN no slice starts a conversion and open averaging groups are discarded. -/
  | acqStop
  /-- CONFIG_SYNC_INSTANT (R70): At the first slot boundary after the sync valley following commit phase two, the new ACQ, PRISM, WVN, MILL and other block configuration applies together and tables restart. -/
  | configSyncInstant
  /-- ACQ_CAL_DONE (R75): After 16,256 slots of initial calibration all converters set CAL_DONE and the spare rotation begins at S00. -/
  | acqCalDone
  /-- SPARE_BLOCK_END (R77): At the end of a 1,024-slot agreement block the sum D is judged; a failing block loads a match trim and a passing block hands delivery over at the slot boundary. -/
  | spareBlockEnd (refOk : Bool)
  /-- SLICE_CAL_END (R78): After 16,256 slots in SUBST the served slice finishes calibrating and RETURN begins, or a slice fault is declared. -/
  | sliceCalEnd (ok : Bool)
  /-- TRIM_DECAY (R78): Every 1,024 slots a returned slice moves its match trim one 1/16-LSB unit towards 0. -/
  | trimDecay (n : Fin 16)
  /-- SPARE_REFERENCE_END (R76): After the 2,048-slot reference interval the spare returns to S00. -/
  | spareReferenceEnd
  /-- SPARE_ROTATION_WRITE (R80): A write to ACQ_SPARE.EN stops the rotation at the end of the current turn or resumes it at the next slice. -/
  | spareRotationWrite (w : World) (v : Word)
  /-- WINDOW_OPEN (R81): A Prism window opens at its resolved START phase. -/
  | windowOpen (w : Fin 64)
  /-- WINDOW_CLOSE (R81): A Prism window closes at its resolved END phase and its reductions are finalised for publication. -/
  | windowClose (w : Fin 64)
  /-- WINDOW_PUBLISH (R83): 64 cycles after a close the Prism publishes all results of the window with VALID, AGE, FROZEN and OPEN tags, updates STAMP and INFO and emits event 0x20 + w. -/
  | windowPublish (w : Fin 64)
  /-- PRISM_SNAPSHOT (R88): A write of 1 to PRISM_SNAP_CTRL.GO copies the last published results of window WIN and its stamp in one cycle. -/
  | prismSnapshot (w : World) (v : Word)
  /-- STREAM_INTERVAL_END (R89): At each 12,500-cycle boundary every enabled stream averages the valid values of the ended interval. -/
  | streamIntervalEnd
  /-- STREAM_PUBLISH (R89): 64 cycles after the interval ends the Prism publishes stream results to the Granary and PRISM_STRDk and emits event 0x36. -/
  | streamPublish
  /-- WVN_SAMPLE_END (R92): At each 5,000-cycle boundary every set forms its sample from the valid intake values of the ended interval. -/
  | wvnSampleEnd
  /-- WVN_SAMPLE_OUTPUT (R93): 2,048 cycles after an interval the Weathervane processes sample k of every set, updating loops, sequences, harmonics, pickups and shadow state. -/
  | wvnSampleOutput
  /-- WVN_LOCK (R98): LOCKED is set after LOCK_N consecutive valid samples inside LOCKWIN, and cleared after ceil(LOCK_N/4) samples outside, with event 0x48 + s. -/
  | wvnLock (k : Fin 4)
  /-- WVN_VALID_LOSS (R93): After LOSS_N consecutive invalid samples a set clears VALID. -/
  | wvnValidLoss (k : Fin 4)
  /-- PHASE_JUMP (R100): After JN samples with |e| at or above JTHR the set stores JUMP, sets STATE.JUMP, counts it, emits event 0x48 + s and reseeds ANGLE when RESEED is 1. -/
  | phaseJump (k : Fin 4)
  /-- SHADOW_RESYNC_WRITE (R103): A write of WVN_SETs_SHD.RESYNC moves the shadow to RESYNC, or is ignored and sets CLR_REF. -/
  | shadowResyncWrite (w : World) (k : Fin 4) (v : Word)
  /-- SHADOW_RESYNC_DONE (R103): After LOCK_N samples with the shadow angle within 0.5° of ANGLE the shadow returns to TRACK. -/
  | shadowResyncDone (k : Fin 4)
  /-- VS_PICKUP_HOLD_END (R105): VS_HOLD ms after a vector-shift pickup the PU_VS bit clears. -/
  | vsPickupHoldEnd (k : Fin 4)
  /-- ISLAND_DECLARE (R106): When a pickup has held its time the set declares ISLAND, records stamp and cause, sets WVN_STAT.ISLAND and emits event 0x40 + s. -/
  | islandDeclare (k : Fin 4)
  /-- ACTIVE_ESTIMATE (R107): At each injection period's end the set forms the impedance estimate Z and counts it towards the active pickup. -/
  | activeEstimate (k : Fin 4)
  /-- ISLAND_CLEAR (R109): A write of 1 to WVN_SETs_ISLA.CLR clears ISLAND when every pickup is 0, or sets CLR_REF. -/
  | islandClear (w : World) (k : Fin 4) (v : Word)
  /-- FRT_TRANSITION (R113): After DET_N samples outside or inside the bands, or a profile breach, the ride-through state moves and emits event 0x44 + s, and 0x4C on TRIP. -/
  | frtTransition (k : Fin 4)
  /-- FRT_CONFIRM_ELAPSED (R113): CONFIRM after entry into DISTURBED the state moves to RIDE. -/
  | frtConfirmElapsed (k : Fin 4)
  /-- FRT_RECOVER_ELAPSED (R113): REC_TIME after entry into RECOVER the state returns to NORMAL. -/
  | frtRecoverElapsed (k : Fin 4)
  /-- FRT_CLEAR (R113): A write of WVN_SETs_FRT.CLR leaves TRIP while VMAG is in the recovery band, or sets CLR_REF. -/
  | frtClear (w : World) (k : Fin 4) (v : Word)
  /-- FRT_DISABLE (R113): A write of 0 to WVN_SETs_FRT.EN returns the ride-through state to NORMAL. -/
  | frtDisable (w : World) (k : Fin 4) (v : Word)
  /-- MPPT_DITHER_END (R117): At the end of a dither period the channel computes the gradient and updates VREF, or starts a due global scan. -/
  | mpptDitherEnd (m : Fin 8)
  /-- MPPT_SCAN_REQUEST (R118): A write of 1 to WVN_MPPm_CFG.SCAN_NOW requests a global scan at the end of the dither period. -/
  | mpptScanRequest (w : World) (m : Fin 8) (v : Word)
  /-- MPPT_SCAN_STEP (R118): After DWELL periods a scan step averages P and moves VREF_OUT to the next of 64 voltages. -/
  | mpptScanStep (m : Fin 8)
  /-- CARRIER_VALLEY (R168): A carrier counter reaches 0, emitting the valley event and serving as bound event, reload point and stop point. -/
  | carrierValley (c : Fin 8)
  /-- CARRIER_PEAK (R168): A carrier counter reaches PER, emitting the peak event and serving as bound event and reload point. -/
  | carrierPeak (c : Fin 8)
  /-- LOOM_COMMIT_INSTANT (R169): At the commit phase of each carrier period the commit event is emitted and committing tasks load their staged words. -/
  | loomCommitInstant (c : Fin 8)
  /-- CARRIER_CONTROL_WRITE (R170): A write of LOOM_CARc enables a carrier into WAITING or running, stops it at the next valley or at once when WAITING, changes HOLD, or is refused with MODE_CONFLICT. -/
  | carrierControlWrite (w : World) (c : Fin 8) (v : Word)
  /-- CARRIER_START (R170): A WAITING carrier starts at its first valley, immediately for FREE or at the TB phase, and its legs resume. -/
  | carrierStart (c : Fin 8)
  /-- COMPARE_SHADOW_WRITE (R180): A host write to LOOM_LEGl_CMPU or CMPD loads the shadow at once unless an enabled task owns the word. -/
  | compareShadowWrite (w : World) (l : Fin 24) (down : Bool) (v : Word)
  /-- PULSE_OPENING_EDGE (R181): At a pulse's opening edge the Loom judges its on-time against M and the policy drops, extends or carries it. -/
  | pulseOpeningEdge (l : Fin 24)
  /-- PULSE_CLOSING_EDGE (R181): At the closing edge, as commanded or moved by EXTEND, CARRY or R182, the output turns off. -/
  | pulseClosingEdge (l : Fin 24)
  /-- DEAD_TIME_END (R175): DTH or DTL after a reference change the corresponding output turns on. -/
  | deadTimeEnd (l : Fin 24) (high : Bool)
  /-- DLL_LOCKED (R177): Within 100 µs of the CONV start all delay lines are calibrated and LOOM_DLL.LOCKED is set. -/
  | dllLocked
  /-- DLL_TRIM_STEP (R177): Every 1,024 CORE cycles an idle delay line may move its trim one step. -/
  | dllTrimStep (o : Fin 48) (up inRange : Bool)
  /-- INTERLOCK (R187): Both outputs of a leg seen on at the I/O ring are forced off within 60 ns and the leg is blocked with cause INTERLOCK. -/
  | interlock (l : Fin 24) (seen : Bool)
  /-- TRIP_LINE_ACT (R188): A pin or comparator trip line asserted for FILT + 1 cycles acts, blocking its mask with cause TL unless blanked. -/
  | tripLineAct (k : Fin 8) (on : Bool)
  /-- BLANK_CLOSE (R189): When a blanking window closes with its line still acting the line blocks its mask; a line that stopped inside sets BLANKED. -/
  | blankClose (k : Fin 8)
  /-- TRIP_LINE_CFG_WRITE (R188): A write to LOOM_TLk_CFG takes effect next cycle and restarts the filter count. -/
  | tripLineCfgWrite (w : World) (k : Fin 16) (v : Word)
  /-- TRIP_LINE_MASK_WRITE (R188): A write to LOOM_TLk_MASK takes effect next cycle, blocking added legs while the line acts. -/
  | tripLineMaskWrite (w : World) (k : Fin 16) (v : Word)
  /-- UNBLOCK_REQUEST (R191): A write of 1 to a LOOM_UNBLOCK bit sets PENDING when no cause source is asserted, or sets REL_REF. -/
  | unblockRequest (w : World) (v : Word)
  /-- LEG_RESUME (R191): At the first valley after an accepted release the cause bits and BLOCKED clear, the carries reset and the leg resumes switching. -/
  | legResume (l : Fin 24)
  /-- GD_CTRL_WRITE (R196): A write of GDP_GDn_CTRL.ON commands a REGISTER-sourced driver on or off. -/
  | gdCtrlWrite (w : World) (n : Fin 8) (v : Word)
  /-- CP_OK_CHANGE (R197): A change of a high-side driver's GDP_CP.OK turns on a held command or latches CPLOW while on. -/
  | cpOkChange (k : Fin 4) (ok : Bool)
  /-- GD_FAULT (R198): A UVLO, CPLOW or MISMATCH cause latches a driver fault, turns the driver off within 2 cycles and emits event 0xDD. -/
  | gdFault (n : Fin 8)
  /-- GD_MISMATCH (R198): MON_T µs after an edge the gate monitor finds the gate voltage not following and latches MISMATCH. -/
  | gdMismatch (n : Fin 8) (gate : GateLevel)
  /-- GD_FAULT_CLEAR (R198): A write of 1 to a driver fault flag clears it only when its cause has gone, turning the driver on again if commanded. -/
  | gdFaultClear (w : World) (n : Fin 8) (v : Word)
  /-- FLT_ASSERT (R200): An FLT pin at its active level beyond the glitch time latches the leg fault, blocks the leg with cause FLT and emits event 0xD8. -/
  | fltAssert (l : Fin 24) (on : Bool)
  /-- GROUP_STAGGER_BLOCK (R203): k × STAGGER cycles after the latch is seen the k-th other leg is blocked with cause GRP. -/
  | groupStaggerBlock (g : Fin 8)
  /-- FLT_LATCH_CLEAR (R201): A write of 1 to a GDP_FLT_LATCH bit clears the latch only while FLT is deasserted, else sets CLR_REF. -/
  | fltLatchClear (w : World) (v : Word)
  /-- GROUP_TRIP_CLEAR (R205): A write of 1 to a TRIPPED bit clears the group trip only when no member latch is set, else sets CLR_REF. -/
  | groupTripClear (w : World) (v : Word)
  /-- VTRIP_CLEAR (R206): A write of 1 to LINKn_STAT.VTRIP clears it only while CEIL is inactive, else sets CLR_REF. -/
  | vtripClear (w : World) (n : Fin 2) (v : Word)
  /-- BRK_MIN_TIME_ELAPSED (R207): When T_on or T_off elapses the chopper takes a transition whose comparator condition already holds. -/
  | brkMinTimeElapsed (n : Fin 2)
  /-- RESISTOR_MODEL_TICK (R208): Every 1 ms the resistor model updates θ and sets or clears LIMIT and the conduction budget B. -/
  | resistorModelTick (n : Fin 2)
  /-- BRK_BUDGET_SPENT (R208): When the limited chopper has used its budget B within a tick it turns off for the rest of the tick. -/
  | brkBudgetSpent (n : Fin 2)
  /-- BRK_TEST_GO (R209): A write of 1 to TEST_GO in TEST mode in SERVICE turns BRKn on for TESTLEN ms. -/
  | brkTestGo (w : World) (n : Fin 2) (v : Word)
  /-- BRK_TEST_END (R209): TESTLEN ms after TEST_GO the test pulse ends and BRKn turns off. -/
  | brkTestEnd (n : Fin 2)
  /-- CEIL_CROSSING (R217): A CEIL comparator becoming active blocks the legs of its mask with cause CEIL and acts as V_trip for a naming link. -/
  | ceilCrossing (w : Fin 48) (v : Int)
  /-- COMPARATOR_CHANGE (R213): A continuous LO, HI or CEIL comparator changes state across its threshold and hysteresis, driving trip lines, the chopper and events. -/
  | comparatorChange (w : Fin 48) (k : Fin 3) (v : Int)
  /-- SAMPLING_TICK (R214): At each sampling tick every sampled window powers its comparators for 800 cycles. -/
  | samplingTick
  /-- SAMPLED_DECISION (R214): 800 cycles after a tick a sampled window decides each comparator against its previous state. -/
  | sampledDecision (w : Fin 48) (v : Int)
  /-- WINDOW_MONITOR_START (R216): A window starting takes its power-up states and begins settling for 800 cycles. -/
  | windowMonitorStart (w : Fin 48)
  /-- SETTLING_END (R216): At the end of settling each comparator takes its R213 state or stays in its power-up state with UNRESOLVED set. -/
  | settlingEnd (w : Fin 48) (v : Int)
  /-- WAKE_SAMPLE (R222): Every SPER a WAKE comparator samples its pin and asserts after DEB + 1 samples, booting from KEEP or setting LIVE. -/
  | wakeSample (n : Fin 2) (v : Int)
  /-- GRANARY_INTERVAL (R226): The Granary processes a published stream interval for every meter in order, filtering, detecting crossings and summing valid samples. -/
  | granaryInterval
  /-- ZX_TIMEOUT (R229): After ZXTO × 32 samples without an accepted crossing the meter closes its cycle, sets NOZX and emits event 0xAA. -/
  | zxTimeout (m : Fin 4)
  /-- NOZX_CYCLE_CLOSE (R229): While NOZX is set the meter closes a cycle every 640 or 533 samples. -/
  | nozxCycleClose (m : Fin 4)
  /-- DC_BLOCK_CLOSE (R235): At the end of each 320-sample block a DC meter forms E and Q and adds them to its totals, emitting event 0xA4 + m. -/
  | dcBlockClose (m : Fin 4)
  /-- EPO_PULSE_START (R243): A queued pulse starts at the first ms tick after the output has been idle for PW ms. -/
  | epoPulseStart (k : Fin 4)
  /-- EPO_PULSE_END (R243): PW ms after its start a pulse ends and the output returns to idle. -/
  | epoPulseEnd (k : Fin 4)
  /-- GRANARY_SNAP_GO (R240): A write of 1 to GRN_SNAP_CTRL.GO requests a snapshot, a reference snapshot when REF is 1. -/
  | granarySnapGo (w : World) (v : Word)
  /-- GRANARY_SNAPSHOT_TAKEN (R240): After the interval in progress is processed the snapshot copies totals, counters and gaps, sets STAMP, CNT and DONE, and clears OVR_STATE for a reference. -/
  | granarySnapshotTaken
  /-- GRANARY_LO_READ (R238): A read of the LO word of a total, snapshot stamp or replay accumulator latches its HI word. -/
  | granaryLoRead (w : World) (a : Word)
  /-- JOURNAL_PERIOD (R244): Every JPER seconds after the first meter enable a journal record is requested. -/
  | journalPeriod
  /-- JOURNAL_COMMIT_WRITE (R244): A write of 1 to GRN_JRN.COMMIT requests a journal record. -/
  | journalCommitWrite (w : World) (v : Word)
  /-- JOURNAL_RECORD_DONE (R244): A journal record write completes with read-back verification, emitting event 0xA8 or, on failure, 0xA9 and JSTAT.FAIL. -/
  | journalRecordDone (ok : Bool)
  /-- QUADRATURE_STEP (R253): A filtered transition of one quadrature line counts POS up or down and adjusts TURNS at a wrap. -/
  | quadratureStep (n : Fin 2) (qb : Bool)
  /-- ILLEGAL_TRANSITION (R254): Both filtered lines changing in one cycle set ILL, count it, emit event 0xB2 + n and trip after ILLN in a run. -/
  | illegalTransition (n : Fin 2)
  /-- INDEX (R255): A rising index edge homes POS, or is judged against IDXPOS and handled by the index policy, emitting event 0xB0 + n. -/
  | index (n : Fin 2)
  /-- SSI_READ_DONE (R257): At the end of an SSI frame the read is decoded into POS and TURNS or fails with SSIERR. -/
  | ssiReadDone (n : Fin 2) (data : Word) (parity idleHigh : Bool)
  /-- SHF_DEPOSIT (R261): 8 cycles after a latching valley the SHF writes L0 to L3 into Mill data memory. -/
  | shfDeposit (n : Fin 2)
  /-- STILL_TIMEOUT (R260): STILL ms after the last counted edge SPEED becomes 0 and STILL is set. -/
  | stillTimeout (n : Fin 2)
  /-- EMULATION_STEP (R262): After at least MINE cycles the emulation moves one quadrature state towards its target, setting LAG when far behind. -/
  | emulationStep
  /-- ROUND_ISSUE (R268): At every (DIV + 1)-th valley the Reeve issues a round on both rings with header, slots and the issue stamp. -/
  | roundIssue
  /-- INSERTION_LATCH (R271): 64 cycles before an issue stamp the node takes its insertion latches for the round, setting INS_LATE if they cannot reach LINK in time. -/
  | insertionLatch
  /-- COPY_PASSAGE (R271): A copy passing a node is forwarded, has the node's slots inserted, HOPS and DACC updated and HCRC rewritten, and has its slot words captured and its offset measured. -/
  | copyPassage (p : Port) (b : List Byte) (frac res : Nat)
  /-- ROUND_DELIVERY (R272): 32 cycles after the round ends the node delivers captures and valid bits to its receive view and emits event 0xB8. -/
  | roundDelivery
  /-- PROBE (R280): A PROBE received from the neighbour is answered with ECHO carrying the turnaround time. -/
  | probe (p : Port) (ok : Bool) (u : Nat)
  /-- ECHO (R280): An ECHO received completes a round-trip measurement and updates the port's input link delay d_in. -/
  | echo (p : Port) (ok : Bool) (r u : Nat)
  /-- KNOCK (R277): The Reeve answers a KNOCK once with ADMIT after admission, or REFUSE with a reason. -/
  | knock (via : Arrival) (uid : Dword) (slot : Fin 1024) (standby : Bool) (streams : List Word) (rper dinA dinB pos : Nat)
  /-- ADMIT (R277): A knocking node receiving ADMIT for its ID becomes MEMBER and steps its timebase to ring time. -/
  | admitted (via : Arrival) (node : NodeId) (gen gapAt : Nat)
  /-- REFUSE (R277): A knocking node receiving REFUSE returns to LISTEN with the reason in RING_STAT.REFUSE. -/
  | refuse (via : Arrival) (uid : Dword) (reason : Nat)
  /-- LEAVE (R278): The Reeve receiving LEAVE drops the member from the next generation. -/
  | leave (via : Arrival) (slot : Fin 1024)
  /-- LINKS (R274): The Reeve receiving LINKS updates its record of the member's input link delays. -/
  | links (via : Arrival) (slot : Fin 1024) (dinA dinB : Nat)
  /-- ROSTER (R275): A node receiving ROSTER stores 16 Roster entries of the announced generation. -/
  | roster (via : Arrival) (gen first : Nat) (entries : List Word)
  /-- PRESENT (R275): A node receiving PRESENT stores half of the present map and T_need of the announced generation. -/
  | present (via : Arrival) (gen half : Nat) (map : BitVec 512) (need : Nat)
  /-- GENERATION_CHANGE (R275): At round NGEN_AT every node switches to the new layout, or inserts nothing and delivers invalid words while its copy is incomplete, emitting event 0xBF. -/
  | generationChange
  /-- MEMBER_LOST (R278): After LOST_N rounds with every slot of a member empty the Reeve drops it from the next generation. -/
  | memberLost (slot : Fin 1024)
  /-- STANDBY_TAKEOVER (R279): After 3 round periods without a valid header a LOCKED standby becomes Reeve and issues rounds, emitting event 0xC6. -/
  | standbyTakeover
  /-- RING_LOCK_GAIN (R283): After LOCK_N rounds as MEMBER within LOCKWIN the node becomes LOCKED and emits event 0xC4. -/
  | ringLockGain
  /-- RING_LOCK_LOSS (R283): After 3 rounds without a header or 4 rounds beyond 4 × LOCKWIN the node leaves LOCKED, voids with scope STATE and emits event 0xC5. -/
  | ringLockLoss
  /-- PORT_INPUT_LOST (R286): A port losing its input wraps copies into the other ring, sends remote fault, sets WRAP and emits event 0xBD. -/
  | portInputLost (x : PortInput)
  /-- UNWRAP (R287): At the first issue after 1 ms free of loss conditions a wrapped port unwraps and emits event 0xBE. -/
  | unwrap (p : Port)
  /-- PORT_ENABLE_WRITE (R276): A write of RING_CTRL.EN_A or EN_B enables or disables a port, moving the node state or being refused under spread spectrum. -/
  | portEnableWrite (w : World) (v : Word)
  /-- JOIN_WRITE (R276): A write of 1 to RING_CTRL.JOIN moves a LISTEN node with a locked port to KNOCKING. -/
  | joinWrite (w : World) (v : Word)
  /-- LEAVE_WRITE (R278): A write of 1 to RING_CTRL.LEAVE makes a member send LEAVE. -/
  | leaveWrite (w : World) (v : Word)
  /-- TX_LATCH_WRITE (R273): A host write to RING_TXWw loads the insertion latch unless an enabled task owns the staged word. -/
  | txLatchWrite (w : World) (k : Fin 128) (v : Word)
  /-- INPUT_INSTANT (R132): 64 cycles after frame start the task's input view is fixed, its bank is decided and its input checks are evaluated. -/
  | inputInstant (t : Fin 8)
  /-- POLICY_HOLD (R142): With L at LOSS_N under HOLD the task does not run, HOLDING is set and event 0x5C is emitted. -/
  | policyHold (t : Fin 8)
  /-- POLICY_FALLBACK (R142): With L at LOSS_N under FALLBACK the task runs from FB_BANK, FALLBACK is set and event 0x5C is emitted. -/
  | policyFallback (t : Fin 8)
  /-- POLICY_TRIP (R142): With L at LOSS_N under TRIP the task does not run, its legs are blocked with cause MILL, TRIPPED is set and event 0x5D is emitted. -/
  | policyTrip (t : Fin 8)
  /-- TASK_START (R133): At frame start + OFFSET the task clears its lane state and fetches its entry bundle, or does not run if another task executes. -/
  | taskStart (t : Fin 8)
  /-- PROGRAM_END_REACHED (R133): A task that executed bundle 4,095 without END stops, sets ILL and commits nothing. -/
  | programEndReached
  /-- MILL_ECC_FATAL (R138): An uncorrectable error in a Mill memory stops every task, blocks owned legs, sets ECC_FATAL and sends the device to LIMP. -/
  | millEccFatal
  /-- NOP (R126): Does nothing. -/
  | opNop (ln : Fin 4)
  /-- ADD (R126): Writes A + B to D in single precision or Q1.31. -/
  | opAdd (ln : Fin 4)
  /-- SUB (R126): Writes A − B to D. -/
  | opSub (ln : Fin 4)
  /-- MUL (R126): Writes A × B to D. -/
  | opMul (ln : Fin 4)
  /-- MIN (R126): Writes the smaller of A and B to D. -/
  | opMin (ln : Fin 4)
  /-- MAX (R126): Writes the larger of A and B to D. -/
  | opMax (ln : Fin 4)
  /-- ABS (R126): Writes |A| to D. -/
  | opAbs (ln : Fin 4)
  /-- NEG (R126): Writes −A to D. -/
  | opNeg (ln : Fin 4)
  /-- SAT (R126): Writes A clamped between B and B+1 to D. -/
  | opSat (ln : Fin 4)
  /-- CVTQF (R126): Converts A from Q1.31 to single precision into D. -/
  | opCvtqf (ln : Fin 4)
  /-- CVTFQ (R126): Converts A from single precision to saturated Q1.31 into D. -/
  | opCvtfq (ln : Fin 4)
  /-- AND (R126): Writes the bitwise AND of A and B to D. -/
  | opAnd (ln : Fin 4)
  /-- OR (R126): Writes the bitwise OR of A and B to D. -/
  | opOr (ln : Fin 4)
  /-- XOR (R126): Writes the bitwise XOR of A and B to D. -/
  | opXor (ln : Fin 4)
  /-- SHL (R126): Writes A shifted left by B[4:0] to D. -/
  | opShl (ln : Fin 4)
  /-- SHRA (R126): Writes A shifted right arithmetically by B[4:0] to D. -/
  | opShra (ln : Fin 4)
  /-- CMPLT (R126): Sets flag C[D[2:0]] to A < B. -/
  | opCmplt (ln : Fin 4)
  /-- CMPLE (R126): Sets flag C[D[2:0]] to A ≤ B. -/
  | opCmple (ln : Fin 4)
  /-- CMPEQ (R126): Sets flag C[D[2:0]] to A = B. -/
  | opCmpeq (ln : Fin 4)
  /-- SEL (R126): Writes A to D when flag C[k] is 1, else B. -/
  | opSel (ln : Fin 4)
  /-- MOVX (R126): Writes register A of another lane to D. -/
  | opMovx (ln : Fin 4)
  /-- MOVACC (R126): Writes the accumulator, rounded to the slot format, to D. -/
  | opMovacc (ln : Fin 4)
  /-- LDIL (R126): Writes the zero-extended 16-bit immediate to D. -/
  | opLdil (ln : Fin 4)
  /-- LDIH (R126): Writes the immediate to D[31:16], keeping D[15:0]. -/
  | opLdih (ln : Fin 4)
  /-- SETA (R126): Loads address register a(D[1:0]) with the immediate. -/
  | opSeta (ln : Fin 4)
  /-- CLARKE (R126): Writes the amplitude-invariant α and β of A..A+2 to D..D+1. -/
  | opClarke (ln : Fin 4)
  /-- PARK (R126): Writes d and q of α, β by the given sine and cosine to D..D+1. -/
  | opPark (ln : Fin 4)
  /-- IPARK (R126): Writes α and β of d, q by the given sine and cosine to D..D+1. -/
  | opIpark (ln : Fin 4)
  /-- SINCOS (R126): Writes the sine and cosine of angle A in turns to D and D+1. -/
  | opSincos (ln : Fin 4)
  /-- BIQ (R128): Computes one direct-form-II-transposed biquad step from bank coefficients, updating the two states and writing y to D. -/
  | opBiq (ln : Fin 4)
  /-- INTC (R129): Adds A to D clamped between B and B+1, setting C6 or C7 at the limits. -/
  | opIntc (ln : Fin 4)
  /-- INTERP (R130): Reads a bank table and writes the linear interpolation at A to D. -/
  | opInterp (ln : Fin 4)
  /-- DIV (R126): Writes A / B to D after 24 cycles. -/
  | opDiv (ln : Fin 4)
  /-- SQRT (R126): Writes √A to D after 20 cycles. -/
  | opSqrt (ln : Fin 4)
  /-- END (R136): Ends the task for the frame, marking its staged outputs complete and emitting event 0x50 + t in the next cycle. -/
  | opEnd (ln : Fin 4)
  /-- SEV (R126): Raises event 0x5E. -/
  | opSev (ln : Fin 4)
  /-- BSWP (R139): Requests a bank swap for the task at its next input instant. -/
  | opBswp (ln : Fin 4)
  /-- ILLEGAL_OP (R126): A reserved OP code executes as NOP and sets ILL. -/
  | illegalOp (ln : Fin 4)
  /-- MAC_ACCUMULATE (R123): MAC mode 1 adds A × B to the accumulator. -/
  | macAccumulate (ln : Fin 4)
  /-- MAC_SET (R123): MAC mode 2 loads the accumulator with A × B. -/
  | macSet (ln : Fin 4)
  /-- MAC_SUBTRACT (R123): MAC mode 3 subtracts A × B from the accumulator. -/
  | macSubtract (ln : Fin 4)
  /-- LOAD (R131): Loads register L from the word addressed by a(AR), post-incrementing when PI is 1. -/
  | opLoad (ln : Fin 4)
  /-- STORE (R131): Stores register L to the word addressed by a(AR), staging outputs or setting ILL for a non-writable or unowned word. -/
  | opStore (ln : Fin 4)
  /-- SWAP_WRITE (R139): A write of 1 to MILL_TASKt_CTRL.SWAP requests a bank swap at the next input instant. -/
  | swapWrite (w : World) (t : Fin 8) (v : Word)
  /-- RESUME_WRITE (R142): A write of 1 to MILL_TASKt_CTRL.RESUME ends TRIP at the next input instant with L = 0. -/
  | resumeWrite (w : World) (t : Fin 8) (v : Word)
  /-- REVERT_WRITE (R142): A write of 1 to MILL_TASKt_CTRL.REVERT ends FALLBACK and restores the previous bank at the next input instant. -/
  | revertWrite (w : World) (t : Fin 8) (v : Word)
  /-- SCRUB_CYCLE (R347): Every 128 CORE cycles the scrubber reads and corrects the next SRAM word. -/
  | scrubCycle (wrong : Nat)
  /-- MRAM_REFRESH (R352): Once every 24 h the Steward reads every MRAM line and rewrites corrected ones. -/
  | mramRefresh (corrected worn bad : List Nat)
  /-- DMA_GO (R367): A write of 1 to DMA_CHn_CTRL.GO starts a transfer on an armed channel, or sets TOVR while one runs. -/
  | dmaGo (w : World) (n : Fin 16) (v : Word)
  /-- DMA_ABORT (R369): A write of 1 to DMA_CHn_CTRL.ABORT stops the channel after the current beat and clears EN. -/
  | dmaAbort (w : World) (n : Fin 16) (v : Word)
  /-- DMA_CFG_WRITE (R371): A write to DMA_CHn_CFG configures an idle channel, or clears EN as an abort while the channel is enabled. -/
  | dmaCfgWrite (w : World) (n : Fin 16) (v : Word)
  /-- DMA_BEAT (R368): A granted DMA beat reads or writes one word, stopping the channel with ERR and CAUSE on a refused access. -/
  | dmaBeat (n : Fin 16) (wrong : Nat)
  /-- EVENT_DELIVERY (R372): Two cycles after an event is raised it reaches every enabled sink that names it. -/
  | eventDelivery
  /-- EVENT_FORCE (R374): A write of EVT_FORCE with GO in SERVICE delivers one event to the named sink in the next cycle. -/
  | eventForce (w : World) (v : Word)
  /-- SPI_WRITE (R321): A Quad-SPI WRITE transaction delivers one command packet, or is discarded or answered BAD_LEN. -/
  | spiWrite (b : List Byte)
  /-- SPI_READ (R321): A Quad-SPI READ transaction sends the oldest queued packet, removing it only when its last byte is delivered. -/
  | spiRead (n : Nat)
  /-- SPI_STATUS (R321): A Quad-SPI STATUS transaction returns RX_SPACE, TX_READY, ATTN and the length of the oldest queued packet. -/
  | spiStatus
  /-- UART_PACKET (R322): The UART receiver assembles a packet from SOF to CRC, discarding bad types, lengths and gaps. -/
  | uartPacket (b : List Byte)
  /-- BAUD_CHANGE (R322): Once the PORT_SET reply has left the UART the new rate takes effect. -/
  | baudChange
  /-- SESSION_TIMEOUT (R335): 600 s without a tagged command closes the link's session. -/
  | sessionTimeout (l : Link)
  /-- SESSION_BLOCK_END (R335): 1 s after a session closed by three AUTH_FAIL answers SESSION_OPEN is no longer answered BUSY. -/
  | sessionBlockEnd (l : Link)
  /-- CRIER_TELEMETRY (R340): Once each period the Crier queues a telemetry packet on its link, dropping it with event 0xFE when the queue is full. -/
  | crierTelemetry
  /-- HELLO (R329): Sets L to its SEQ, closes the session, empties the history and replies with device identity. -/
  | hello (l : Link) (h : Hdr) (p : List Byte)
  /-- SYNC (R329): Reports L, reply SEQs, LAST_ACK and the state block with its digest without changing L. -/
  | sync (l : Link) (h : Hdr) (p : List Byte)
  /-- REPLAY (R329): Sends held replies again with REPEAT set from FIRST, then its own reply. -/
  | replay (l : Link) (h : Hdr) (p : List Byte)
  /-- OP_STATUS (R336): Reports the running or last long operation and its final status. -/
  | opStatus (l : Link) (h : Hdr) (p : List Byte)
  /-- SESSION_OPEN (R335): Derives a session key from a key slot and nonces and replies with the device nonce and proof. -/
  | sessionOpen (l : Link) (h : Hdr) (p : List Byte)
  /-- SESSION_CLOSE (R335): Closes the link's session. -/
  | sessionClose (l : Link) (h : Hdr) (p : List Byte)
  /-- PORT_SET (R322): Sets the UART baud rate and reports the rate achieved. -/
  | portSet (l : Link) (h : Hdr) (p : List Byte)
  /-- REG_READ (R345): Returns COUNT register words from ADDR, refusing unaligned, unmapped or world-denied ranges. -/
  | regRead (l : Link) (h : Hdr) (p : List Byte)
  /-- REG_WRITE (R337): Applies address-value pairs in order as bus writes, returning a result byte for each and stopping at a refusal. -/
  | regWrite (l : Link) (h : Hdr) (p : List Byte)
  /-- STATUS (R333): Returns the state block, L, the last reply SEQ and the digest, accepted with any SEQ in LIMP. -/
  | status (l : Link) (h : Hdr) (p : List Byte)
  /-- MODE_SET (R376): Moves the device to READY, RUN or SERVICE along a permitted transition, or is refused with MODE_CONFLICT. -/
  | modeSet (l : Link) (h : Hdr) (p : List Byte)
  /-- LTR_SET (R379): Writes SYS_LTR and replies with the mode the latency policy selects and the vetoes. -/
  | ltrSet (l : Link) (h : Hdr) (p : List Byte)
  /-- HOLD_END (R379): HOLD seconds after entry into READY from boot or DOZE the latency policy may decide again. -/
  | holdEnd
  /-- RESET (R384): Requests a system reset, which takes effect 1 ms after its reply is queued. -/
  | reset (l : Link) (h : Hdr) (p : List Byte)
  /-- COMMAND_RESET (R384): 1 ms after a RESET reply is queued the device performs a COMMAND reset. -/
  | commandReset
  /-- CFG_WRITE (R338): Writes bytes into the configuration staging area at an offset. -/
  | cfgWrite (l : Link) (h : Hdr) (p : List Byte)
  /-- CFG_COMMIT (R338): Runs phase one checks and admission on the staged image, writes it to the inactive slot and replies ACCEPTED or refuses. -/
  | cfgCommit (l : Link) (h : Hdr) (p : List Byte)
  /-- CFG_COMMIT_COMPLETE (R338): Phase two rejudges the state rules, writes the commit record that makes the generation live, emits event 0xFA and queues the final reply. -/
  | cfgCommitComplete
  /-- CFG_ABORT (R338): Discards the staged configuration image. -/
  | cfgAbort (l : Link) (h : Hdr) (p : List Byte)
  /-- CFG_INFO (R338): Returns the live generation, the staged length and CRC and the commit phase. -/
  | cfgInfo (l : Link) (h : Hdr) (p : List Byte)
  /-- CFG_READ (R338): Returns bytes of the live configuration image. -/
  | cfgRead (l : Link) (h : Hdr) (p : List Byte)
  /-- PROG_WRITE (R148): Writes bundles into the Steward's program image at a bundle offset. -/
  | progWrite (l : Link) (h : Hdr) (p : List Byte)
  /-- PROG_COMMIT (R148): Verifies and admits the program image as a new generation and replies ACCEPTED. -/
  | progCommit (l : Link) (h : Hdr) (p : List Byte)
  /-- PROG_COMMIT_COMPLETE (R148): Tasks stop, the image is copied into the program store, data memory is reloaded and tasks restart, with the final reply queued. -/
  | progCommitComplete
  /-- DMEM_IMAGE_WRITE (R146): Writes words of the initial data-memory image. -/
  | dmemImageWrite (l : Link) (h : Hdr) (p : List Byte)
  /-- COEF_WRITE (R140): Writes coefficient words to an inactive bank as a new generation, replying ACCEPTED or BUSY. -/
  | coefWrite (l : Link) (h : Hdr) (p : List Byte)
  /-- COEF_WRITE_COMPLETE (R140): After admission and the commit record the bank words are written, event 0xFA is emitted and the final reply carries the new generation. -/
  | coefWriteComplete
  /-- BANK_SWAP (R139): Requests a bank swap for every task in the mask. -/
  | bankSwap (l : Link) (h : Hdr) (p : List Byte)
  /-- TASK_RESUME (R147): Writes RESUME for every task in the mask. -/
  | taskResume (l : Link) (h : Hdr) (p : List Byte)
  /-- GRANARY_READ (R250): Takes a snapshot and returns its stamp, count, totals and window counters. -/
  | granaryRead (l : Link) (h : Hdr) (p : List Byte)
  /-- GRANARY_SNAPSHOT (R250): Takes a reference snapshot, clearing OVR_STATE, and returns it. -/
  | granarySnapshot (l : Link) (h : Hdr) (p : List Byte)
  /-- JOURNAL_COMMIT (R250): Requests a journal record and replies ACCEPTED, with the final reply at its completion. -/
  | journalCommit (l : Link) (h : Hdr) (p : List Byte)
  /-- JOURNAL_READ (R250): Returns half of a journal slot as stored with its validity. -/
  | journalRead (l : Link) (h : Hdr) (p : List Byte)
  /-- GRANARY_PRESET (R250): Loads the totals and fractions of one disabled meter and writes a PRESET record. -/
  | granaryPreset (l : Link) (h : Hdr) (p : List Byte)
  /-- UNCLEAN_READ (R250): Returns the unclean-stop interval, energy bounds and restored SEQ. -/
  | uncleanRead (l : Link) (h : Hdr) (p : List Byte)
  /-- LOG_READ (R339): Returns event-log records from a first SEQ. -/
  | logRead (l : Link) (h : Hdr) (p : List Byte)
  /-- LOG_INFO (R339): Returns the oldest and newest log SEQ, boot discards and Crier drops. -/
  | logInfo (l : Link) (h : Hdr) (p : List Byte)
  /-- CRIER_SET (R340): Sets the Crier's link, item mask and period. -/
  | crierSet (l : Link) (h : Hdr) (p : List Byte)
  /-- ATTN_READ (R341): Returns the attention word and clears the latched bits in the mask. -/
  | attnRead (l : Link) (h : Hdr) (p : List Byte)
  /-- ATTN_MASK (R341): Sets the HIRQ mask and the log-severity threshold for attention. -/
  | attnMask (l : Link) (h : Hdr) (p : List Byte)
  /-- FW_INFO (R356): Returns both firmware slots' states, steps and versions and the remaining counter steps. -/
  | fwInfo (l : Link) (h : Hdr) (p : List Byte)
  /-- FW_WRITE (R342): Writes image bytes into the inactive slot, erasing its commit record on the first write after an installation. -/
  | fwWrite (l : Link) (h : Hdr) (p : List Byte)
  /-- FW_INSTALL (R358): Starts verification of the written image and replies ACCEPTED. -/
  | fwInstall (l : Link) (h : Hdr) (p : List Byte)
  /-- FW_INSTALL_COMPLETE (R358): The image checks finish and the COMMITTED record is written or the final reply carries INVALID_PARAM with its detail. -/
  | fwInstallComplete
  /-- RING_STATUS (R276): Returns the ring status registers. -/
  | ringStatus (l : Link) (h : Hdr) (p : List Byte)
  /-- RING_JOIN (R276): Acts as a write of JOIN, moving a LISTEN node to KNOCKING. -/
  | ringJoin (l : Link) (h : Hdr) (p : List Byte)
  /-- RING_LEAVE (R278): Acts as a write of LEAVE, making a member send LEAVE. -/
  | ringLeave (l : Link) (h : Hdr) (p : List Byte)
  /-- ROSTER_READ (R275): Returns the generation and a range of Roster entries. -/
  | rosterRead (l : Link) (h : Hdr) (p : List Byte)
  /-- PRESENT_READ (R275): Returns the generation and the present map. -/
  | presentRead (l : Link) (h : Hdr) (p : List Byte)
  /-- SAFE_STATUS (R316): Returns the SAFE status registers. -/
  | safeStatus (l : Link) (h : Hdr) (p : List Byte)
  /-- SAFE_PARAM_WRITE (R316): Writes bytes of the safety parameter staging block in SERVICE. -/
  | safeParamWrite (l : Link) (h : Hdr) (p : List Byte)
  /-- SAFE_PARAM_COMMIT (R317): Checks the staged safety block, passes it to both mirrors and replies ACCEPTED or refuses. -/
  | safeParamCommit (l : Link) (h : Hdr) (p : List Byte)
  /-- SAFE_PARAM_COMMIT_COMPLETE (R317): Both mirrors have checked, written and read back the block and enter BOOT, or the commit ends with INVALID_PARAM; event 0xF1 and the final reply follow. -/
  | safeParamCommitComplete
  /-- SAFE_PARAM_READ (R316): Returns the live safety block and each mirror's CRC. -/
  | safeParamRead (l : Link) (h : Hdr) (p : List Byte)
  /-- SAFE_DIAG_READ (R308): Returns both mirrors' diagnostic histories oldest first. -/
  | safeDiagRead (l : Link) (h : Hdr) (p : List Byte)
  /-- SAFE_RESTART (R295): Sends both mirrors to BOOT, keeping input faults and diagnostic history. -/
  | safeRestart (l : Link) (h : Hdr) (p : List Byte)
  /-- PERT_SET (R56): Writes TST_SEED, TST_DLY0–7 and TST_CTRL together in SERVICE. -/
  | pertSet (l : Link) (h : Hdr) (p : List Byte)
  /-- LOUPE_ARM (R375): Restarts Loupe trace capture with a source mask, trigger and pre-trigger count in SERVICE. -/
  | loupeArm (l : Link) (h : Hdr) (p : List Byte)
  /-- LOUPE_READ (R375): Returns the Loupe state and trace records. -/
  | loupeRead (l : Link) (h : Hdr) (p : List Byte)
  /-- INPUT_SAMPLE (R301): Every 32 mirror cycles a mirror samples its input channels and updates filtered levels after DEB. -/
  | inputSample (m : Mirror) (levels : BitVec 12)
  /-- TEST_PULSE_START (R300): At its phase of TPP a test-pulse output goes low for TPW and channels tested by it are held and judged. -/
  | testPulseStart (m : Mirror) (k : Fin 2)
  /-- TEST_PULSE_END (R300): After TPW the test-pulse output returns high and a channel that did not read low takes a test-pulse fault. -/
  | testPulseEnd (m : Mirror) (k : Fin 2)
  /-- MIRROR_SCAN (R305): At the end of every 1,024-cycle scan a mirror evaluates demands, outputs, connections and readback, exchanges data over the cross-link and rebuilds its safety frame. -/
  | mirrorScan (m : Mirror) (rb : BitVec 6) (link coded cut : Bool)
  /-- DISCREPANCY_FAULT (R301): Filtered channels of a pair disagreeing for DISC × 10 ms give the pair a discrepancy fault. -/
  | discrepancyFault (m : Mirror) (n : Fin 12)
  /-- INPUT_FAULT_CLEAR (R303): A RESET or EDM pair's fault clears after its channels agree for 1 s. -/
  | inputFaultClear (m : Mirror) (n : Fin 12)
  /-- SDC_OVERVOLTAGE (R304): SDCA or SDCB above its threshold for OVDEB µs starts an over-voltage demand of that mirror, ended after OVDEB µs below. -/
  | sdcOvervoltage (m : Mirror) (x : SdcRun)
  /-- OUTPUT_DELAY_EXPIRY (R305): DLY ms after entering DELAY the mirror switches the output off. -/
  | outputDelayExpiry (m : Mirror) (k : Fin 5)
  /-- EDM_TIMEOUT (R306): EDMT × 100 ms after switching an output whose EDM pair does not match, the output takes an output fault. -/
  | edmTimeout (m : Mirror) (k : Fin 5)
  /-- OUTPUT_READBACK_FAULT (R307): A ball reading against its command for 3 scans is a stuck-on fault or an output fault. -/
  | outputReadbackFault (m : Mirror) (k : Fin 5)
  /-- COMMAND_DISAGREEMENT (R308): The mirrors' output commands differing for longer than CMPT sends both to FAULT with code 0x04. -/
  | commandDisagreement (m : Mirror)
  /-- CROSS_LINK_FAULT (R308): Four missed cross-link heartbeats send the mirror to FAULT with code 0x02. -/
  | crossLinkFault (m : Mirror)
  /-- OSC_CHECK (R308): After 32,768 own cycles a mirror judges the other's clock count and enters FAULT out of range. -/
  | oscCheck (m : Mirror) (n : Nat)
  /-- PARAM_CRC_CHECK (R308): Every 10 s a mirror checks its live parameter slot's CRC, entering FAULT with code 0x06 on error. -/
  | paramCrcCheck (m : Mirror)
  /-- ROM_CRC_CHECK (R308): Every 10 s Mirror B checks its program ROM CRC, entering FAULT on error. -/
  | romCrcCheck (ok : Bool)
  /-- MIRROR_SUPPLY_FAULT (R308): A mirror's regulator or VDD outside its window turns that mirror's outputs off at once with code 0x05. -/
  | mirrorSupplyFault (m : Mirror)
  /-- CONNECTION_WATCHDOG (R312): A connection watchdog expiring makes the connection demand on its MAP, or enters degraded operation. -/
  | connectionWatchdog (m : Mirror) (c : Fin 8)
  /-- CONNECTION_FAULT (R312): The mirrors' accepted D of a connection differing longer than CMPT sets CFLT and raises event 0xF5. -/
  | connectionFault (c : Fin 8)
  /-- CONNECTION_FAULT_CLEAR (R312): After both mirrors accept equal D for 1 s the connection fault clears. -/
  | connectionFaultClear (c : Fin 8)
  /-- DEGRADED_TIMEOUT (R313): After WRAP_T seconds of degraded operation the connection demands as though its watchdog had expired. -/
  | degradedTimeout (m : Mirror) (c : Fin 8)
  /-- ISLAND_BOOT_END (R298): At the end of the BOOT self-tests each mirror enters ACTIVE, UNPARAM or FAULT. -/
  | islandBootEnd (codeA codeB : BitVec 8)
  /-- PIN_RESET (R384): RST_N low for at least 1 µs resets the device and starts a boot. -/
  | pinReset
  /-- WATCHDOG_RESET (R384): A Steward watchdog not served for 100 ms resets the device. -/
  | watchdogReset
  /-- LOCKSTEP_RESET (R384): Disagreement of the Steward's two cores resets the device within 1 µs. -/
  | lockstepReset
  /-- BROWN_OUT (R388): A main supply below its threshold for 1 µs turns outputs off within 100 ns, asserts a POWER reset and places the device in KEEP. -/
  | brownOut (vbak : Bool)
  /-- SUPPLY_RETURN (R387): The last main supply entering its range starts a COLD or POWER boot. -/
  | supplyReturn
  /-- VBAK_LOSS (R383): VBAK below 1.6 V with main supplies absent loses KEEP content and sets RTC_BAD. -/
  | vbakLoss
  /-- BOOT_COMPLETE (R387): The boot sequence finishes, entering READY or LIMP, writing the BOOT record, emitting event 0xFB and setting attention bit 7. -/
  | bootComplete (rails : Rails) (vbak : Bool)
  /-- PFAIL_ASSERT (R389): PFAIL low for 1 µs sets PF_SEEN, starts the Granary final record, logs PFAIL and moves RUN to READY with PF_STOP. -/
  | pfailAssert
  /-- PFAIL_DEASSERT (R389): PFAIL high for 1 µs with supplies present writes a journal record and a PFAIL record. -/
  | pfailDeassert
  /-- SYN1_LOCK (R22): SYN1 declares lock after its phase error has stayed within ±312 ps for 256 consecutive reference cycles and SYN1_LOCKED is set. -/
  | syn1Lock
  /-- METER_ENABLE_WRITE (R247): A write of GRN_CTRL enables or disables meters, is refused with SSC_REF under R28, triggers the OPEN or DISABLE journal record and changes the metering veto. -/
  | meterEnableWrite (w : World) (v : Word)
  /-- SYS_LTR_WRITE (R379): A bus write of SYS_LTR sets the latency tolerance and makes the latency policy decide again, which may drop to DOZE or KEEP or wake from DOZE. -/
  | sysLtrWrite (w : World) (v : Word)
  /-- UART_PACKET_SENT (R323): The UART finishes sending a queued packet, which leaves the transmit queue and frees space so that received packets are taken again. -/
  | uartPacketSent
  /-- MIRROR_REGULATOR_POWER_ON (R295): Power-on of one mirror's own regulator, after a supply fault of that mirror alone, resets that mirror into BOOT with its input faults and history cleared. -/
  | mirrorRegulatorPowerOn (m : Mirror)
  /-- VDRV_UNDERVOLTAGE (R198): VDRV falling below its undervoltage threshold stops the charge pump, sets GDP_STAT.UVLO and raises event 0xDE, whether or not a driver is commanded on. -/
  | vdrvUndervoltage (low : Bool)
  /-- KEY_LOAD (R361): At Update-DR of the KEY_LOAD instruction before provisioning, the key is burned into an unwritten OTP key slot, and ignored for a written one. -/
  | keyLoad (slot : Fin 8) (key : List Byte)
  /-- PROVISION (R361): At Update-DR of the PROVISION instruction with 0xA5 the PROVISIONED bit is burned, after which secure keys become usable and test instructions act as BYPASS. -/
  | provision (v : Byte)
  /-- EXTEST (R361): Before provisioning the EXTEST instruction drives the boundary cells onto the balls, inside the gate-enable cut of R296. -/
  | extest (x : TapScan)
  deriving DecidableEq, Repr

end Sys2Proof
end

