-- ==== Sys2Proof/Machine/Bits.lean ====
section
/-! DEFINITION. Machine/Bits.lean: bit fields, byte strings, sparse stores in canonical form, and the checksum and
saturation helpers that several blocks share. -/

namespace Sys2Proof.Machine

/-! ### Bit fields -/

/-- The field of `width` bits whose least significant bit is `lo`. -/
def getBits (v : Word) (lo width : Nat) : Nat := v.toNat / 2 ^ lo % 2 ^ width

/-- `v` with that field replaced by the low `width` bits of `n`. -/
def setBits (v : Word) (lo width n : Nat) : Word :=
  BitVec.ofNat 32 (v.toNat - getBits v lo width * 2 ^ lo + n % 2 ^ width * 2 ^ lo)

/-- Bit `i` of a word. -/
def bitAt (v : Word) (i : Nat) : Bool := v.toNat.testBit i

/-- One bit as a number. -/
def bit1 (b : Bool) : Nat := if b then 1 else 0

/-- A number from bits, bit 0 first. -/
def ofBits (l : List Bool) : Nat := l.foldr (fun b n => bit1 b + 2 * n) 0

/-- The `n` low bits of a number, bit 0 first. -/
def bitsOf (n v : Nat) : List Bool := (List.range n).map v.testBit

/-- The two's-complement value of the low `w` bits of `n` (R9). -/
def signed (w n : Nat) : Int :=
  let m := n % 2 ^ w
  if m < 2 ^ (w - 1) then m else (m : Int) - 2 ^ w

/-- An integer as a `w`-bit two's-complement pattern, wrapping. -/
def wrapTo (w : Nat) (x : Int) : Nat := (x % (2 ^ w : Int)).toNat

/-- An integer saturated to signed `w` bits. -/
def satTo (w : Nat) (x : Int) : Int := max (-(2 ^ (w - 1) : Int)) (min (2 ^ (w - 1) - 1) x)

/-- An integer clamped into a closed range. -/
def clampInt (lo hi x : Int) : Int := if x < lo then lo else if hi < x then hi else x

/-- A counter of `w` bits that saturates at all ones (R42). -/
def satInc (w n : Nat) : Nat := min (n + 1) (2 ^ w - 1)

/-- Serial-number comparison of `w` bits: `a` is newer than `b` (R41). -/
def newer (w a b : Nat) : Bool :=
  let d := (a + 2 ^ w - b % 2 ^ w) % 2 ^ w
  0 < d && d < 2 ^ (w - 1)

/-- Division rounded to nearest, halves away from zero. -/
def divRound (a : Int) (b : Nat) : Int :=
  if a < 0 then -((2 * a.natAbs + b) / (2 * b) : Nat) else ((2 * a.natAbs + b) / (2 * b) : Nat)

/-! ### Lists of fixed length -/

/-- Element `i` of a list, or a default past its end. -/
def nth {α : Type} (l : List α) (i : Nat) (d : α) : α := l.getD i d

/-- A list with element `i` changed; unchanged when `i` is past its end. -/
def upd {α : Type} (l : List α) (i : Nat) (f : α → α) : List α := l.modify i f

/-! ### Sparse stores

A store is a list of (key, value) pairs with strictly rising keys, and lists no entry equal to what its key reads as
when unlisted, which the function `d` gives. -/

/-- Read a sparse store. -/
def cellGet {α : Type} (d : Nat → α) : List (Nat × α) → Nat → α
  | [], a => d a
  | (k, v) :: rest, a => if k = a then v else cellGet d rest a

/-- Put an entry in its place by key. -/
def cellInsert {α : Type} : List (Nat × α) → Nat → α → List (Nat × α)
  | [], a, v => [(a, v)]
  | (k, w) :: rest, a, v => if a < k then (a, v) :: (k, w) :: rest else (k, w) :: cellInsert rest a v

/-- Take every entry of a key away. -/
def cellDrop {α : Type} : List (Nat × α) → Nat → List (Nat × α)
  | [], _ => []
  | (k, w) :: rest, a => if k = a then cellDrop rest a else (k, w) :: cellDrop rest a

/-- Write a sparse store, keeping its canonical form. -/
def cellSet {α : Type} [DecidableEq α] (d : Nat → α) (m : List (Nat × α)) (a : Nat) (v : α) : List (Nat × α) :=
  if v = d a then cellDrop m a else cellInsert (cellDrop m a) a v

/-- The canonical form: keys strictly rising from `lo`, and no entry equal to its key's unlisted value. -/
def cellWf {α : Type} [DecidableEq α] (d : Nat → α) : Nat → List (Nat × α) → Bool
  | _, [] => true
  | lo, (k, v) :: rest => decide (lo ≤ k) && decide (v ≠ d k) && cellWf d (k + 1) rest

/-! ### Byte strings -/

/-- The low `n` bytes of a number, least significant first (R324). -/
def leBytes : Nat → Nat → List Byte
  | 0, _ => []
  | n + 1, x => BitVec.ofNat 8 x :: leBytes n (x / 256)

/-- The number a byte string spells, least significant byte first. -/
def ofLe : List Byte → Nat
  | [] => 0
  | b :: rest => b.toNat + 256 * ofLe rest

/-- The number a byte string spells, most significant byte first. -/
def ofBe (l : List Byte) : Nat := l.foldl (fun n b => n * 256 + b.toNat) 0

/-- `n` little-endian bytes of a string from offset `o`, as a number; bytes past its end count as 0. -/
def fieldLe (l : List Byte) (o n : Nat) : Nat := ofLe ((l.drop o).take n)

/-- One byte of a string as a number; 0 past its end. -/
def byteAt (l : List Byte) (o : Nat) : Nat := (l.getD o 0).toNat

/-- `n` zero bytes. -/
def zeros (n : Nat) : List Byte := List.replicate n 0

/-- Text as its ASCII bytes (R335). -/
def ascii (t : String) : List Byte := t.toList.map (fun c => BitVec.ofNat 8 c.toNat)

/-! ### CRC-32C

Initialised to all ones and complemented at the end (R324); the reflected polynomial is 0x82F63B78. -/

/-- Eight shifts of the CRC register. -/
def crcShift : Nat → Word → Word
  | 0, c => c
  | n + 1, c => crcShift n (if c.getLsbD 0 then (c >>> 1) ^^^ 0x82F63B78 else c >>> 1)

/-- The CRC register after one more byte. -/
def crcByte (c : Word) (b : Byte) : Word := crcShift 8 (c ^^^ b.setWidth 32)

/-- The CRC register after a byte string. -/
def crcRun (c : Word) (l : List Byte) : Word := l.foldl crcByte c

/-- The CRC-32C of a byte string (R324). -/
def crc32c (l : List Byte) : Word := ~~~ crcRun 0xFFFFFFFF l

end Sys2Proof.Machine
end

