-- ==== Sys2Proof/Machine/Crypto.lean ====
section
/-! DEFINITION. Machine/Crypto.lean: SHA-256, HMAC-SHA-256 and the verification of an ECDSA P-256 signature, which R335 and R358 name
and the spec does not define: taken from FIPS 180-4, FIPS 198-1 and FIPS 186-4 (PRESUMED, log entry 36). -/

namespace Sys2Proof.Machine

/-! ### SHA-256 -/

/-- The round constants. -/
def shaK : List Word :=
  [0x428a2f98, 0x71374491, 0xb5c0fbcf, 0xe9b5dba5, 0x3956c25b, 0x59f111f1, 0x923f82a4, 0xab1c5ed5] ++
  [0xd807aa98, 0x12835b01, 0x243185be, 0x550c7dc3, 0x72be5d74, 0x80deb1fe, 0x9bdc06a7, 0xc19bf174] ++
  [0xe49b69c1, 0xefbe4786, 0x0fc19dc6, 0x240ca1cc, 0x2de92c6f, 0x4a7484aa, 0x5cb0a9dc, 0x76f988da] ++
  [0x983e5152, 0xa831c66d, 0xb00327c8, 0xbf597fc7, 0xc6e00bf3, 0xd5a79147, 0x06ca6351, 0x14292967] ++
  [0x27b70a85, 0x2e1b2138, 0x4d2c6dfc, 0x53380d13, 0x650a7354, 0x766a0abb, 0x81c2c92e, 0x92722c85] ++
  [0xa2bfe8a1, 0xa81a664b, 0xc24b8b70, 0xc76c51a3, 0xd192e819, 0xd6990624, 0xf40e3585, 0x106aa070] ++
  [0x19a4c116, 0x1e376c08, 0x2748774c, 0x34b0bcb5, 0x391c0cb3, 0x4ed8aa4a, 0x5b9cca4f, 0x682e6ff3] ++
  [0x748f82ee, 0x78a5636f, 0x84c87814, 0x8cc70208, 0x90befffa, 0xa4506ceb, 0xbef9a3f7, 0xc67178f2]

/-- The eight words of the hash state. -/
structure Sha where
  a : Word := 0x6a09e667
  b : Word := 0xbb67ae85
  c : Word := 0x3c6ef372
  d : Word := 0xa54ff53a
  e : Word := 0x510e527f
  f : Word := 0x9b05688c
  g : Word := 0x1f83d9ab
  h : Word := 0x5be0cd19
  deriving DecidableEq, Repr

/-- One round with a constant and a schedule word. -/
def Sha.round (x : Sha) (k w : Word) : Sha :=
  let s1 := x.e.rotateRight 6 ^^^ x.e.rotateRight 11 ^^^ x.e.rotateRight 25
  let ch := (x.e &&& x.f) ^^^ (~~~ x.e &&& x.g)
  let t1 := x.h + s1 + ch + k + w
  let s0 := x.a.rotateRight 2 ^^^ x.a.rotateRight 13 ^^^ x.a.rotateRight 22
  let maj := (x.a &&& x.b) ^^^ (x.a &&& x.c) ^^^ (x.b &&& x.c)
  ⟨t1 + (s0 + maj), x.a, x.b, x.c, x.d + t1, x.e, x.f, x.g⟩

/-- The rounds over the constants that are left; `w` is the window of the next sixteen schedule words. -/
def Sha.rounds : List Word → List Word → Sha → Sha
  | [], _, x => x
  | k :: ks, w, x =>
    let w0 := w.headD 0
    let s0 := fun (v : Word) => v.rotateRight 7 ^^^ v.rotateRight 18 ^^^ (v >>> 3)
    let s1 := fun (v : Word) => v.rotateRight 17 ^^^ v.rotateRight 19 ^^^ (v >>> 10)
    let next := s1 (w.getD 14 0) + w.getD 9 0 + s0 (w.getD 1 0) + w0
    Sha.rounds ks (w.drop 1 ++ [next]) (x.round k w0)

/-- One 64-byte block. -/
def Sha.block (x : Sha) (b : List Byte) : Sha :=
  let w := (List.range 16).map (fun i => BitVec.ofNat 32 (ofBe ((b.drop (4 * i)).take 4)))
  let y := Sha.rounds shaK w x
  ⟨x.a + y.a, x.b + y.b, x.c + y.c, x.d + y.d, x.e + y.e, x.f + y.f, x.g + y.g, x.h + y.h⟩

/-- Blocks from a padded message. -/
def Sha.blocks : Nat → List Byte → Sha → Sha
  | 0, _, x => x
  | n + 1, b, x => Sha.blocks n (b.drop 64) (x.block (b.take 64))

/-- The `n` bytes of a number, most significant first. -/
def beBytes (n x : Nat) : List Byte := (leBytes n x).reverse

/-- SHA-256 of a byte string. PRESUMED: log entry 36. -/
def sha256 (m : List Byte) : List Byte :=
  let pad := m ++ [0x80] ++ zeros ((119 - m.length % 64) % 64) ++ beBytes 8 (8 * m.length)
  let x := Sha.blocks (pad.length / 64) pad {}
  ([x.a, x.b, x.c, x.d, x.e, x.f, x.g, x.h].map (fun w => beBytes 4 w.toNat)).flatten

/-- HMAC-SHA-256. PRESUMED: log entry 36. -/
def hmac256 (key m : List Byte) : List Byte :=
  let k := if 64 < key.length then sha256 key else key
  let k := k ++ zeros (64 - k.length)
  sha256 (k.map (· ^^^ 0x5C) ++ sha256 (k.map (· ^^^ 0x36) ++ m))

/-! ### ECDSA over P-256 -/

/-- The field prime, the group order, the curve's b and its base point. -/
def p256 : Nat := 0xffffffff00000001000000000000000000000000ffffffffffffffffffffffff
def n256 : Nat := 0xffffffff00000000ffffffffffffffffbce6faada7179e84f3b9cac2fc632551
def b256 : Nat := 0x5ac635d8aa3a93e7b3ebbd55769886bc651d06b0cc53b0f63bce3c3e27d2604b
def gx256 : Nat := 0x6b17d1f2e12c4247f8bce6e563a440f277037d812deb33a0f4a13945d898c296
def gy256 : Nat := 0x4fe342e2fe1a7f9b8ee7eb4a7c0f9e162bce33576b315ececbb6406837bf51f5

/-- Power modulo `m`, over the low `k` bytes of the exponent. -/
def powMod (m : Nat) : Nat → Nat → Nat → Nat
  | 0, _, _ => 1 % m
  | k + 1, b, e => powMod m k b (e / 256) ^ 256 * b ^ (e % 256) % m

/-- The inverse modulo a prime of at most 256 bits. -/
def invMod (m x : Nat) : Nat := powMod m 32 (x % m) (m - 2)

/-- The difference modulo `m` of two residues. -/
def subMod (m a b : Nat) : Nat := (a + (m - b % m)) % m

/-- A point of the curve; `none` is the point at infinity. -/
abbrev CurvePoint := Option (Nat × Nat)

/-- The sum of two points. -/
def addPoints (x y : CurvePoint) : CurvePoint :=
  match x, y with
  | none, _ => y
  | _, none => x
  | some (x1, y1), some (x2, y2) =>
    if x1 = x2 ∧ (y1 + y2) % p256 = 0 then none
    else
      let l := if x1 = x2 then subMod p256 (3 * x1 * x1) 3 * invMod p256 (2 * y1) % p256
        else subMod p256 y2 y1 * invMod p256 (subMod p256 x2 x1) % p256
      let x3 := subMod p256 (l * l) (x1 + x2)
      some (x3, subMod p256 (l * subMod p256 x1 x3) y1)

/-- A multiple of a point, over the low `k` bits of the factor. -/
def mulPoint : Nat → Nat → CurvePoint → CurvePoint
  | 0, _, _ => none
  | k + 1, e, q =>
    let r := mulPoint k (e / 2) (addPoints q q)
    if e % 2 = 1 then addPoints r q else r

/-- A point lies on the curve. -/
def onCurve (x y : Nat) : Bool :=
  x < p256 && y < p256 && y * y % p256 == (x * x * x + (p256 - 3) * x + b256) % p256

/-- A signature r, s over a SHA-256 digest verifies under a public key. PRESUMED: log entry 36. -/
def ecdsaVerify (x y : Nat) (digest : List Byte) (r s : Nat) : Bool :=
  0 < r && r < n256 && 0 < s && s < n256 && onCurve x y &&
    (let w := invMod n256 s
     let z := ofBe digest
     match addPoints (mulPoint 256 (z * w % n256) (some (gx256, gy256))) (mulPoint 256 (r * w % n256) (some (x, y))) with
     | some (px, _) => px % n256 == r
     | none => false)

end Sys2Proof.Machine
end

