-- ==== Sys2Proof/Config.lean ====
section
/-! DEFINITION. Config.lean: what one device fixes (its unique ID) and the free values: every constant here has no
body, so that no proof can see what it is. -/

namespace Sys2Proof

/-- The unique 64-bit device ID, set in production (spec/13 RING_IDLO and RING_IDHI, spec/16 OTP table). Log entry 3. -/
opaque Config.uniqueId : Dword

/-- How a random disturbance of 0 to DLY comes from the LFSR's value (R59 gives the LFSR and a uniform draw, not the map);
it is used reduced modulo DLY + 1. Log entry 20. -/
opaque Config.lfsrDraw (lfsr : BitVec 16) (dly : Nat) : Nat

/-- The loop error e = atan2(VPQ, VPD) where the operands have no angle: both zero, or not finite (R97 states no value). Log entry 21. -/
opaque Config.atan2 (y x : Word) : Word

/-- What R97 leaves open of the loop's discrete-time form: the part of its input that a decoupling filter of this corner takes in at a sample, used
between the bounds of `cornerPart`; whether FREQ holds the proportional part of the loop or its integral alone; and the CORE cycle of a
sample interval at which its frames stand. Log entry 21. -/
opaque Config.wvnPart (corner : Word) : Word
opaque Config.wvnFreqWhole : Bool
opaque Config.wvnPoint : Nat

/-- The shadow's next frequency from how far ANGLE leads it in turns, FREQ and its own: in TRACK with bandwidth `bw`, and in RESYNC (R103 gives
no discrete-time form). The frequency of a steer word that is no number (R104). Log entry 21. -/
opaque Config.shdTrack (bw : Nat) (gap freq shdFreq : Word) : Word
opaque Config.shdResync (gap freq : Word) : Word
opaque Config.nanFreq (w : Word) : Word

/-- The accumulator's bits read in the other format than the one written (R127 gives no common layout). Log entry 22. -/
opaque Config.accAsSingle (bits : Dword) : Word
opaque Config.accAsFixed (w : Word) : Dword

/-- SINCOS before the bound of 2^-22 is put on it (R127): `cosine` false for the sine. Log entry 23. -/
opaque Config.sincos (fixed cosine : Bool) (angle : Word) : Word

/-- The word of the Mill memories that an idle cycle scrubs (R138 gives no order). Log entry 61. -/
opaque Config.millScrub (draw : Nat) : Nat

/-- A register that one BIQ writes twice in one cycle (R124, R128 give no order). Log entry 24. -/
opaque Config.biqClash (first later : Word) : Word

/-- Whether a filter of the Granary rounds up the bits below its 16 fractional bits, and its 48-bit state when that
overflows (R227 gives neither). Log entry 25. -/
opaque Config.filterUp (exactNum : Int) : Bool
opaque Config.filterOverflow (exact : Int) : Int

/-- Whether T_int is rounded up to whole ms (R246 gives no rounding). Log entry 27. -/
opaque Config.uncUp (num : Int) : Bool

/-- Intervals that the Granary's intake buffer holds beyond one (R53, R241 give no depth). Log entry 26. -/
opaque Config.grnDepth : Nat

/-- What a close of a meter yields where the spec states no value: FREQ at a first crossing, from the detector's inputs at it and before
it (R228); the factor that a scale constant which is not a finite number gives (R231, R235). Log entry 27. -/
opaque Config.grnFirst (v lastV : Int) : Word
opaque Config.grnScale (w : Word) : Int

/-- Whether SX passes its check, from its codes of the internal references in a reference interval (R76 gives no limits). Log entry 11. -/
opaque Config.spareCheck (codes : List Nat) : Bool

/-- How much of an abandoned or failed journal record stands in its slot (R244, R245). Log entry 28. -/
opaque Config.tornCut (draw : Nat) : Nat

/-- SPEED at a latch without a stamp of the latch before (R260), and the way round when both are equally long (R255, R262).
Log entry 29. -/
opaque Config.firstSpeed (cpr : Nat) (net : Int) (since : Nat) : Word
opaque Config.goUp (m a b : Nat) : Bool

/-- Ticks of the 32.768 kHz crystal since the RTC's last second: the crystal's phase against COUNT is nowhere fixed (R38). The
offset of the COUNT recorded at an RTC second, ±1 cycle (R40). Log entry 32. -/
opaque Config.rtcTicks (draw : Nat) : Nat
opaque Config.rtcOffset (draw : Nat) : Nat

/-- CODE, severity and DATA of a log record that the spec asks for and whose code its table does not give: the alarm outside DOZE
and KEEP (kind 0, R382) a WAKE comparator (kind 1, R222) and GRANARY_PRESET (kind 2). Log entry 33. -/
opaque Config.logOpen (kind i : Nat) : Nat

/-- The Reeve's fixed transmit latency in 39 ps units (R268). Rounds by which the Reeve announces a generation earlier than it
must (R275). Whether a mean that RING_THETA, RING_DLYA or RING_DLYB shows is rounded up, and the same of the trim step that
follows a measured frequency (R280, R281, R282). The residence, within its bounds, of a copy that the Reeve itself turns back (R286). Log
entry 31. -/
opaque Config.ringTxLatency : Nat
opaque Config.ringLead (round : Nat) : Nat
opaque Config.ringUp (mean : Rat) : Bool
opaque Config.ringTurn (round : Nat) : Nat

/-- The bytes of the nonce that the device draws for a session (R335). Log entry 37. -/
opaque Config.nonce (draw i : Nat) : Byte

/-- STATUS (item 0) and DETAIL (item 1) of the final reply of a JOURNAL_COMMIT whose record failed or was never asked for, at a draw
(R250 gives none). Byte `i` of the live safety block while no mirror runs one (R316). The running firmware version in the recovery
state (R330). Whether PORT_SET's reply
rounds a rate that lies halfway up (R322). Log entry 40. -/
opaque Config.journalEnd (draw i : Nat) : Nat
opaque Config.noBlock (i : Nat) : Byte
opaque Config.noFirmware : Nat
opaque Config.baudUp (baud : Nat) : Bool

/-- The place in the boundary register of the cell that drives an output ball, the balls numbered as `Ball` lists them (R361 gives no
order). Log entry 64. -/
opaque Config.cellOf (ball : Nat) : Nat

/-- The level of a boundary cell that drives no output ball, at a draw. Log entry 64. -/
opaque Config.cellIn (draw i : Nat) : Bool

/-- The vendor key hashes in OTP, written in production, all zero where unwritten (spec/16, OTP table). Log entry 3. -/
opaque Config.vendorKeyHash (i : Nat) : List Byte

end Sys2Proof
end

