-- ==== Sys2Proof/Machine/RegNames.lean ====
section
/-! DEFINITION. Machine/RegNames.lean: the address of every register (namespace R) and the place of every named field (namespace F), as the register descriptions of spec/02 to spec/17 give them (R2, R6, R345). -/

namespace Sys2Proof.Machine

/-- A field of a register: the register's address, its least significant bit and its width (R2). -/
structure Fld where
  addr : Nat
  lo : Nat
  width : Nat
  deriving DecidableEq, Repr

/-- The base of peripheral block `i` (R345). -/
abbrev blockBase (i : Nat) : Nat := 0x40000000 + 0x10000 * i

/-! ### SYS, block index 0 (spec/17) -/

/-- SYS_CTRL, offset 0x0, reset 0x0. -/
abbrev R.SYS_CTRL : Nat := 0x40000000
abbrev F.SYS_CTRL_LOCK : Fld := ⟨R.SYS_CTRL, 31, 1⟩

/-- SYS_MODE, offset 0x4, reset 0x22. -/
abbrev R.SYS_MODE : Nat := 0x40000004
abbrev F.SYS_MODE_MODE : Fld := ⟨R.SYS_MODE, 0, 3⟩
abbrev F.SYS_MODE_PREV : Fld := ⟨R.SYS_MODE, 4, 3⟩
abbrev F.SYS_MODE_LIMP_CAUSE : Fld := ⟨R.SYS_MODE, 8, 4⟩
abbrev F.SYS_MODE_CHANGES : Fld := ⟨R.SYS_MODE, 16, 16⟩

/-- SYS_LTR, offset 0x8, reset 0x0. -/
abbrev R.SYS_LTR : Nat := 0x40000008
abbrev F.SYS_LTR_LTR : Fld := ⟨R.SYS_LTR, 0, 32⟩

/-- SYS_PWR_CFG, offset 0xC, reset 0xA. -/
abbrev R.SYS_PWR_CFG : Nat := 0x4000000C
abbrev F.SYS_PWR_CFG_HOLD : Fld := ⟨R.SYS_PWR_CFG, 0, 8⟩
abbrev F.SYS_PWR_CFG_PF_STOP : Fld := ⟨R.SYS_PWR_CFG, 8, 1⟩

/-- SYS_PWR_STAT, offset 0x10, reset 0x2. -/
abbrev R.SYS_PWR_STAT : Nat := 0x40000010
abbrev F.SYS_PWR_STAT_TARGET : Fld := ⟨R.SYS_PWR_STAT, 0, 3⟩
abbrev F.SYS_PWR_STAT_VETO : Fld := ⟨R.SYS_PWR_STAT, 8, 4⟩
abbrev F.SYS_PWR_STAT_HOLDING : Fld := ⟨R.SYS_PWR_STAT, 12, 1⟩
abbrev F.SYS_PWR_STAT_WAITING : Fld := ⟨R.SYS_PWR_STAT, 13, 1⟩

/-- SYS_BOOT, offset 0x14, reset see regReset. -/
abbrev R.SYS_BOOT : Nat := 0x40000014
abbrev F.SYS_BOOT_CAUSE : Fld := ⟨R.SYS_BOOT, 0, 4⟩
abbrev F.SYS_BOOT_WAKESRC : Fld := ⟨R.SYS_BOOT, 8, 4⟩
abbrev F.SYS_BOOT_SLOT : Fld := ⟨R.SYS_BOOT, 16, 1⟩
abbrev F.SYS_BOOT_NOCFG : Fld := ⟨R.SYS_BOOT, 17, 1⟩

/-- SYS_SUPPLY, offset 0x18, reset 0x0. -/
abbrev R.SYS_SUPPLY : Nat := 0x40000018
abbrev F.SYS_SUPPLY_VDD_OK : Fld := ⟨R.SYS_SUPPLY, 0, 1⟩
abbrev F.SYS_SUPPLY_VDDA_OK : Fld := ⟨R.SYS_SUPPLY, 1, 1⟩
abbrev F.SYS_SUPPLY_VDDA18_OK : Fld := ⟨R.SYS_SUPPLY, 2, 1⟩
abbrev F.SYS_SUPPLY_VDDIO_OK : Fld := ⟨R.SYS_SUPPLY, 3, 1⟩
abbrev F.SYS_SUPPLY_VDRV_OK : Fld := ⟨R.SYS_SUPPLY, 4, 1⟩
abbrev F.SYS_SUPPLY_VBAK_OK : Fld := ⟨R.SYS_SUPPLY, 5, 1⟩
abbrev F.SYS_SUPPLY_PFAIL : Fld := ⟨R.SYS_SUPPLY, 6, 1⟩
abbrev F.SYS_SUPPLY_PF_SEEN : Fld := ⟨R.SYS_SUPPLY, 8, 1⟩

/-- SYS_ALARM, offset 0x20, reset 0x0. -/
abbrev R.SYS_ALARM : Nat := 0x40000020
abbrev F.SYS_ALARM_SEC : Fld := ⟨R.SYS_ALARM, 0, 32⟩

/-- SYS_KCTL, offset 0x24, reset 0x100. -/
abbrev R.SYS_KCTL : Nat := 0x40000024
abbrev F.SYS_KCTL_ALARM_EN : Fld := ⟨R.SYS_KCTL, 0, 1⟩
abbrev F.SYS_KCTL_RTC_BAD : Fld := ⟨R.SYS_KCTL, 8, 1⟩
abbrev F.SYS_KCTL_BOOTS : Fld := ⟨R.SYS_KCTL, 16, 16⟩

/-! ### CLK, block index 1 (spec/02) -/

/-- CLK_CTRL, offset 0x0, reset 0x3. -/
abbrev R.CLK_CTRL : Nat := 0x40010000
abbrev F.CLK_CTRL_DOZE_DIV : Fld := ⟨R.CLK_CTRL, 0, 3⟩
abbrev F.CLK_CTRL_LOCK : Fld := ⟨R.CLK_CTRL, 31, 1⟩

/-- CLK_STAT, offset 0x4, reset 0x0. -/
abbrev R.CLK_STAT : Nat := 0x40010004
abbrev F.CLK_STAT_SYN0_LOCKED : Fld := ⟨R.CLK_STAT, 0, 1⟩
abbrev F.CLK_STAT_SYN1_LOCKED : Fld := ⟨R.CLK_STAT, 1, 1⟩
abbrev F.CLK_STAT_DISC_ACTIVE : Fld := ⟨R.CLK_STAT, 2, 1⟩
abbrev F.CLK_STAT_RAMP_BUSY : Fld := ⟨R.CLK_STAT, 3, 1⟩
abbrev F.CLK_STAT_SSC0_ON : Fld := ⟨R.CLK_STAT, 4, 1⟩
abbrev F.CLK_STAT_SSC1_ON : Fld := ⟨R.CLK_STAT, 5, 1⟩
abbrev F.CLK_STAT_SYN0_LOST : Fld := ⟨R.CLK_STAT, 8, 1⟩
abbrev F.CLK_STAT_SYN1_LOST : Fld := ⟨R.CLK_STAT, 9, 1⟩
abbrev F.CLK_STAT_REF_LOST : Fld := ⟨R.CLK_STAT, 10, 1⟩
abbrev F.CLK_STAT_TRIM_REFUSED : Fld := ⟨R.CLK_STAT, 11, 1⟩
abbrev F.CLK_STAT_SSC_REFUSED : Fld := ⟨R.CLK_STAT, 12, 1⟩
abbrev F.CLK_STAT_TB_STEPPED : Fld := ⟨R.CLK_STAT, 13, 1⟩
abbrev F.CLK_STAT_RAMP_REFUSED : Fld := ⟨R.CLK_STAT, 14, 1⟩

/-- CLK_SYN0_LOCK, offset 0x10, reset 0x10100. -/
abbrev R.CLK_SYN0_LOCK : Nat := 0x40010010
abbrev F.CLK_SYN0_LOCK_N : Fld := ⟨R.CLK_SYN0_LOCK, 0, 13⟩
abbrev F.CLK_SYN0_LOCK_WIN : Fld := ⟨R.CLK_SYN0_LOCK, 16, 2⟩

/-- CLK_SYN0_TRIM, offset 0x14, reset 0x0. -/
abbrev R.CLK_SYN0_TRIM : Nat := 0x40010014
abbrev F.CLK_SYN0_TRIM_TRIM : Fld := ⟨R.CLK_SYN0_TRIM, 0, 16⟩

/-- CLK_SYN0_DISC, offset 0x18, reset 0x0. -/
abbrev R.CLK_SYN0_DISC : Nat := 0x40010018
abbrev F.CLK_SYN0_DISC_SRC : Fld := ⟨R.CLK_SYN0_DISC, 0, 2⟩

/-- CLK_SYN0_SSC, offset 0x1C, reset 0x0. -/
abbrev R.CLK_SYN0_SSC : Nat := 0x4001001C
abbrev F.CLK_SYN0_SSC_EN : Fld := ⟨R.CLK_SYN0_SSC, 0, 1⟩
abbrev F.CLK_SYN0_SSC_MODE : Fld := ⟨R.CLK_SYN0_SSC, 1, 1⟩
abbrev F.CLK_SYN0_SSC_DEPTH : Fld := ⟨R.CLK_SYN0_SSC, 2, 2⟩

/-- CLK_SYN1_SSC, offset 0x20, reset 0x0. -/
abbrev R.CLK_SYN1_SSC : Nat := 0x40010020
abbrev F.CLK_SYN1_SSC_EN : Fld := ⟨R.CLK_SYN1_SSC, 0, 1⟩
abbrev F.CLK_SYN1_SSC_MODE : Fld := ⟨R.CLK_SYN1_SSC, 1, 1⟩
abbrev F.CLK_SYN1_SSC_DEPTH : Fld := ⟨R.CLK_SYN1_SSC, 2, 2⟩

/-- CLK_RAMP_CTRL, offset 0x30, reset 0x0. -/
abbrev R.CLK_RAMP_CTRL : Nat := 0x40010030
abbrev F.CLK_RAMP_CTRL_START : Fld := ⟨R.CLK_RAMP_CTRL, 0, 1⟩
abbrev F.CLK_RAMP_CTRL_ABORT : Fld := ⟨R.CLK_RAMP_CTRL, 1, 1⟩
abbrev F.CLK_RAMP_CTRL_NSEG : Fld := ⟨R.CLK_RAMP_CTRL, 4, 4⟩
abbrev F.CLK_RAMP_CTRL_END : Fld := ⟨R.CLK_RAMP_CTRL, 8, 2⟩

/-- CLK_RAMPSEGn, offset 0x40, reset 0x0. -/
abbrev R.CLK_RAMPSEGn (n : Nat) : Nat := 0x40010040 + 4 * n
abbrev F.CLK_RAMPSEGn_SLOPE (n : Nat) : Fld := ⟨R.CLK_RAMPSEGn n, 0, 16⟩
abbrev F.CLK_RAMPSEGn_DUR (n : Nat) : Fld := ⟨R.CLK_RAMPSEGn n, 16, 16⟩

/-- CLK_TB_LO, offset 0x80, reset 0x0. -/
abbrev R.CLK_TB_LO : Nat := 0x40010080
abbrev F.CLK_TB_LO_COUNT : Fld := ⟨R.CLK_TB_LO, 0, 32⟩

/-- CLK_TB_HI, offset 0x84, reset 0x0. -/
abbrev R.CLK_TB_HI : Nat := 0x40010084
abbrev F.CLK_TB_HI_COUNT : Fld := ⟨R.CLK_TB_HI, 0, 32⟩

/-- CLK_TB_FINE, offset 0x88, reset 0x0. -/
abbrev R.CLK_TB_FINE : Nat := 0x40010088
abbrev F.CLK_TB_FINE_FINE : Fld := ⟨R.CLK_TB_FINE, 0, 6⟩
abbrev F.CLK_TB_FINE_EPOCH : Fld := ⟨R.CLK_TB_FINE, 16, 16⟩

/-- CLK_RTC_SEC_LO, offset 0xA0, reset 0x0. -/
abbrev R.CLK_RTC_SEC_LO : Nat := 0x400100A0
abbrev F.CLK_RTC_SEC_LO_SEC : Fld := ⟨R.CLK_RTC_SEC_LO, 0, 32⟩

/-- CLK_RTC_SEC_HI, offset 0xA4, reset 0x0. -/
abbrev R.CLK_RTC_SEC_HI : Nat := 0x400100A4
abbrev F.CLK_RTC_SEC_HI_SEC : Fld := ⟨R.CLK_RTC_SEC_HI, 0, 32⟩

/-- CLK_RTC_SUB, offset 0xA8, reset 0x0. -/
abbrev R.CLK_RTC_SUB : Nat := 0x400100A8
abbrev F.CLK_RTC_SUB_SUB : Fld := ⟨R.CLK_RTC_SUB, 0, 15⟩

/-- CLK_RTC_TRIM, offset 0xAC, reset 0x0. -/
abbrev R.CLK_RTC_TRIM : Nat := 0x400100AC
abbrev F.CLK_RTC_TRIM_TRIM : Fld := ⟨R.CLK_RTC_TRIM, 0, 8⟩

/-- CLK_RTC_TB_LO, offset 0xB0, reset 0x0. -/
abbrev R.CLK_RTC_TB_LO : Nat := 0x400100B0
abbrev F.CLK_RTC_TB_LO_COUNT : Fld := ⟨R.CLK_RTC_TB_LO, 0, 32⟩

/-- CLK_RTC_TB_HI, offset 0xB4, reset 0x0. -/
abbrev R.CLK_RTC_TB_HI : Nat := 0x400100B4
abbrev F.CLK_RTC_TB_HI_COUNT : Fld := ⟨R.CLK_RTC_TB_HI, 0, 32⟩

/-- CLK_CMPn_LO, offset 0x100, reset 0x0. -/
abbrev R.CLK_CMPn_LO (n : Nat) : Nat := 0x40010100 + 0x10 * n
abbrev F.CLK_CMPn_LO_TARGET (n : Nat) : Fld := ⟨R.CLK_CMPn_LO n, 0, 32⟩

/-- CLK_CMPn_HI, offset 0x104, reset 0x0. -/
abbrev R.CLK_CMPn_HI (n : Nat) : Nat := 0x40010104 + 0x10 * n
abbrev F.CLK_CMPn_HI_TARGET (n : Nat) : Fld := ⟨R.CLK_CMPn_HI n, 0, 32⟩

/-- CLK_CMPn_PER, offset 0x108, reset 0x0. -/
abbrev R.CLK_CMPn_PER (n : Nat) : Nat := 0x40010108 + 0x10 * n
abbrev F.CLK_CMPn_PER_PER (n : Nat) : Fld := ⟨R.CLK_CMPn_PER n, 0, 32⟩

/-- CLK_CMPn_CTRL, offset 0x10C, reset 0x0. -/
abbrev R.CLK_CMPn_CTRL (n : Nat) : Nat := 0x4001010C + 0x10 * n
abbrev F.CLK_CMPn_CTRL_EN (n : Nat) : Fld := ⟨R.CLK_CMPn_CTRL n, 0, 1⟩
abbrev F.CLK_CMPn_CTRL_MISSED (n : Nat) : Fld := ⟨R.CLK_CMPn_CTRL n, 8, 1⟩
abbrev F.CLK_CMPn_CTRL_FIRED (n : Nat) : Fld := ⟨R.CLK_CMPn_CTRL n, 9, 1⟩

/-- CLK_CAPn_LO, offset 0x200, reset 0x0. -/
abbrev R.CLK_CAPn_LO (n : Nat) : Nat := 0x40010200 + 0x10 * n
abbrev F.CLK_CAPn_LO_COUNT (n : Nat) : Fld := ⟨R.CLK_CAPn_LO n, 0, 32⟩

/-- CLK_CAPn_HI, offset 0x204, reset 0x0. -/
abbrev R.CLK_CAPn_HI (n : Nat) : Nat := 0x40010204 + 0x10 * n
abbrev F.CLK_CAPn_HI_COUNT (n : Nat) : Fld := ⟨R.CLK_CAPn_HI n, 0, 32⟩

/-- CLK_CAPn_CTRL, offset 0x20C, reset 0x0. -/
abbrev R.CLK_CAPn_CTRL (n : Nat) : Nat := 0x4001020C + 0x10 * n
abbrev F.CLK_CAPn_CTRL_EN (n : Nat) : Fld := ⟨R.CLK_CAPn_CTRL n, 0, 1⟩
abbrev F.CLK_CAPn_CTRL_OVR (n : Nat) : Fld := ⟨R.CLK_CAPn_CTRL n, 8, 1⟩
abbrev F.CLK_CAPn_CTRL_VALID (n : Nat) : Fld := ⟨R.CLK_CAPn_CTRL n, 9, 1⟩
abbrev F.CLK_CAPn_CTRL_FINE (n : Nat) : Fld := ⟨R.CLK_CAPn_CTRL n, 16, 6⟩

/-! ### ACQ, block index 2 (spec/04) -/

/-- ACQ_CTRL, offset 0x0, reset 0x10000. -/
abbrev R.ACQ_CTRL : Nat := 0x40020000
abbrev F.ACQ_CTRL_EN : Fld := ⟨R.ACQ_CTRL, 0, 1⟩
abbrev F.ACQ_CTRL_SYNC_CAR : Fld := ⟨R.ACQ_CTRL, 4, 3⟩
abbrev F.ACQ_CTRL_OWTHR : Fld := ⟨R.ACQ_CTRL, 8, 16⟩

/-- ACQ_STAT, offset 0x4, reset 0x0. -/
abbrev R.ACQ_STAT : Nat := 0x40020004
abbrev F.ACQ_STAT_SPARE_STATE : Fld := ⟨R.ACQ_STAT, 0, 3⟩
abbrev F.ACQ_STAT_SPARE_SLICE : Fld := ⟨R.ACQ_STAT, 4, 4⟩
abbrev F.ACQ_STAT_CAL_DONE : Fld := ⟨R.ACQ_STAT, 8, 1⟩
abbrev F.ACQ_STAT_SPARE_FAULT : Fld := ⟨R.ACQ_STAT, 9, 1⟩
abbrev F.ACQ_STAT_SLICE_FAULT : Fld := ⟨R.ACQ_STAT, 10, 1⟩
abbrev F.ACQ_STAT_FAULT_SLICE : Fld := ⟨R.ACQ_STAT, 12, 4⟩
abbrev F.ACQ_STAT_FORCED : Fld := ⟨R.ACQ_STAT, 16, 1⟩
abbrev F.ACQ_STAT_OVR_ANY : Fld := ⟨R.ACQ_STAT, 17, 1⟩
abbrev F.ACQ_STAT_OW_ANY : Fld := ⟨R.ACQ_STAT, 18, 1⟩

/-- ACQ_SPARE, offset 0x8, reset 0x1041. -/
abbrev R.ACQ_SPARE : Nat := 0x40020008
abbrev F.ACQ_SPARE_EN : Fld := ⟨R.ACQ_SPARE, 0, 1⟩
abbrev F.ACQ_SPARE_TOL : Fld := ⟨R.ACQ_SPARE, 4, 4⟩
abbrev F.ACQ_SPARE_TRIES : Fld := ⟨R.ACQ_SPARE, 8, 8⟩

/-- ACQ_SPARE_CNT, offset 0xC, reset 0x0. -/
abbrev R.ACQ_SPARE_CNT : Nat := 0x4002000C
abbrev F.ACQ_SPARE_CNT_HANDOVERS : Fld := ⟨R.ACQ_SPARE_CNT, 0, 16⟩
abbrev F.ACQ_SPARE_CNT_FORCED : Fld := ⟨R.ACQ_SPARE_CNT, 16, 16⟩

/-- ACQ_DIFF0, offset 0x10, reset 0x0. -/
abbrev R.ACQ_DIFF0 : Nat := 0x40020010
abbrev F.ACQ_DIFF0_PAIR : Fld := ⟨R.ACQ_DIFF0, 0, 32⟩

/-- ACQ_DIFF1, offset 0x14, reset 0x0. -/
abbrev R.ACQ_DIFF1 : Nat := 0x40020014
abbrev F.ACQ_DIFF1_PAIR : Fld := ⟨R.ACQ_DIFF1, 0, 32⟩

/-- ACQ_OWSTATj, offset 0x20, reset 0x0. -/
abbrev R.ACQ_OWSTATj (j : Nat) : Nat := 0x40020020 + 4 * j
abbrev F.ACQ_OWSTATj_OPEN (j : Nat) : Fld := ⟨R.ACQ_OWSTATj j, 0, 32⟩

/-- ACQ_SLCn, offset 0x40, reset 0x0. -/
abbrev R.ACQ_SLCn (n : Nat) : Nat := 0x40020040 + 4 * n
abbrev F.ACQ_SLCn_MODE (n : Nat) : Fld := ⟨R.ACQ_SLCn n, 0, 2⟩
abbrev F.ACQ_SLCn_CHAN (n : Nat) : Fld := ⟨R.ACQ_SLCn n, 8, 7⟩
abbrev F.ACQ_SLCn_START (n : Nat) : Fld := ⟨R.ACQ_SLCn n, 16, 10⟩

/-- ACQ_DATAn, offset 0x80, reset 0x0. -/
abbrev R.ACQ_DATAn (n : Nat) : Nat := 0x40020080 + 8 * n
abbrev F.ACQ_DATAn_VALUE (n : Nat) : Fld := ⟨R.ACQ_DATAn n, 0, 16⟩
abbrev F.ACQ_DATAn_CHAN (n : Nat) : Fld := ⟨R.ACQ_DATAn n, 16, 7⟩
abbrev F.ACQ_DATAn_OPEN (n : Nat) : Fld := ⟨R.ACQ_DATAn n, 24, 1⟩
abbrev F.ACQ_DATAn_SPARE (n : Nat) : Fld := ⟨R.ACQ_DATAn n, 25, 1⟩
abbrev F.ACQ_DATAn_STAMP_BAD (n : Nat) : Fld := ⟨R.ACQ_DATAn n, 26, 1⟩
abbrev F.ACQ_DATAn_OVR (n : Nat) : Fld := ⟨R.ACQ_DATAn n, 30, 1⟩
abbrev F.ACQ_DATAn_VALID (n : Nat) : Fld := ⟨R.ACQ_DATAn n, 31, 1⟩

/-- ACQ_STAMPn, offset 0x84, reset 0x0. -/
abbrev R.ACQ_STAMPn (n : Nat) : Nat := 0x40020084 + 8 * n
abbrev F.ACQ_STAMPn_STAMP (n : Nat) : Fld := ⟨R.ACQ_STAMPn n, 0, 32⟩

/-- ACQ_CHc, offset 0x100, reset 0x0. -/
abbrev R.ACQ_CHc (c : Nat) : Nat := 0x40020100 + 4 * c
abbrev F.ACQ_CHc_CORR (c : Nat) : Fld := ⟨R.ACQ_CHc c, 0, 1⟩
abbrev F.ACQ_CHc_OW (c : Nat) : Fld := ⟨R.ACQ_CHc c, 1, 3⟩
abbrev F.ACQ_CHc_AVG (c : Nat) : Fld := ⟨R.ACQ_CHc c, 8, 8⟩
abbrev F.ACQ_CHc_SHIFT (c : Nat) : Fld := ⟨R.ACQ_CHc c, 16, 4⟩

/-- ACQ_CORc, offset 0x300, reset 0x40000000. -/
abbrev R.ACQ_CORc (c : Nat) : Nat := 0x40020300 + 4 * c
abbrev F.ACQ_CORc_OFFS (c : Nat) : Fld := ⟨R.ACQ_CORc c, 0, 16⟩
abbrev F.ACQ_CORc_GAIN (c : Nat) : Fld := ⟨R.ACQ_CORc c, 16, 16⟩

/-- ACQ_SEQi, offset 0x1000, reset 0x80000000. -/
abbrev R.ACQ_SEQi (i : Nat) : Nat := 0x40021000 + 4 * i
abbrev F.ACQ_SEQi_CHAN (i : Nat) : Fld := ⟨R.ACQ_SEQi i, 0, 7⟩
abbrev F.ACQ_SEQi_REP (i : Nat) : Fld := ⟨R.ACQ_SEQi i, 8, 8⟩
abbrev F.ACQ_SEQi_DELAY (i : Nat) : Fld := ⟨R.ACQ_SEQi i, 16, 10⟩
abbrev F.ACQ_SEQi_LAST (i : Nat) : Fld := ⟨R.ACQ_SEQi i, 31, 1⟩

/-! ### PRISM, block index 3 (spec/04) -/

/-- PRISM_CTRL, offset 0x0, reset 0x0. -/
abbrev R.PRISM_CTRL : Nat := 0x40030000
abbrev F.PRISM_CTRL_EN : Fld := ⟨R.PRISM_CTRL, 0, 1⟩

/-- PRISM_STAT, offset 0x4, reset 0x0. -/
abbrev R.PRISM_STAT : Nat := 0x40030004
abbrev F.PRISM_STAT_LATE_ANY : Fld := ⟨R.PRISM_STAT, 0, 1⟩
abbrev F.PRISM_STAT_FRZ_ANY : Fld := ⟨R.PRISM_STAT, 1, 1⟩
abbrev F.PRISM_STAT_OPEN_ANY : Fld := ⟨R.PRISM_STAT, 2, 1⟩

/-- PRISM_LATE0, offset 0x8, reset 0x0. -/
abbrev R.PRISM_LATE0 : Nat := 0x40030008
abbrev F.PRISM_LATE0_WIN : Fld := ⟨R.PRISM_LATE0, 0, 32⟩

/-- PRISM_LATE1, offset 0xC, reset 0x0. -/
abbrev R.PRISM_LATE1 : Nat := 0x4003000C
abbrev F.PRISM_LATE1_WIN : Fld := ⟨R.PRISM_LATE1, 0, 32⟩

/-- PRISM_FRZ0, offset 0x10, reset 0x0. -/
abbrev R.PRISM_FRZ0 : Nat := 0x40030010
abbrev F.PRISM_FRZ0_WIN : Fld := ⟨R.PRISM_FRZ0, 0, 32⟩

/-- PRISM_FRZ1, offset 0x14, reset 0x0. -/
abbrev R.PRISM_FRZ1 : Nat := 0x40030014
abbrev F.PRISM_FRZ1_WIN : Fld := ⟨R.PRISM_FRZ1, 0, 32⟩

/-- PRISM_SNAP_CTRL, offset 0x20, reset 0x0. -/
abbrev R.PRISM_SNAP_CTRL : Nat := 0x40030020
abbrev F.PRISM_SNAP_CTRL_WIN : Fld := ⟨R.PRISM_SNAP_CTRL, 0, 6⟩
abbrev F.PRISM_SNAP_CTRL_GO : Fld := ⟨R.PRISM_SNAP_CTRL, 8, 1⟩

/-- PRISM_SNAP_STAMP, offset 0x24, reset 0x0. -/
abbrev R.PRISM_SNAP_STAMP : Nat := 0x40030024
abbrev F.PRISM_SNAP_STAMP_STAMP : Fld := ⟨R.PRISM_SNAP_STAMP, 0, 32⟩

/-- PRISM_SNAPm, offset 0x40, reset 0xFF00000. -/
abbrev R.PRISM_SNAPm (m : Nat) : Nat := 0x40030040 + 4 * m
abbrev F.PRISM_SNAPm_VALUE (m : Nat) : Fld := ⟨R.PRISM_SNAPm m, 0, 20⟩
abbrev F.PRISM_SNAPm_AGE (m : Nat) : Fld := ⟨R.PRISM_SNAPm m, 20, 8⟩
abbrev F.PRISM_SNAPm_VALID (m : Nat) : Fld := ⟨R.PRISM_SNAPm m, 28, 1⟩
abbrev F.PRISM_SNAPm_FROZEN (m : Nat) : Fld := ⟨R.PRISM_SNAPm m, 29, 1⟩
abbrev F.PRISM_SNAPm_OPEN (m : Nat) : Fld := ⟨R.PRISM_SNAPm m, 30, 1⟩
abbrev F.PRISM_SNAPm_LATE (m : Nat) : Fld := ⟨R.PRISM_SNAPm m, 31, 1⟩

/-- PRISM_WINw_CFG, offset 0x100, reset 0x0. -/
abbrev R.PRISM_WINw_CFG (w : Nat) : Nat := 0x40030100 + 0x20 * w
abbrev F.PRISM_WINw_CFG_EN (w : Nat) : Fld := ⟨R.PRISM_WINw_CFG w, 0, 1⟩
abbrev F.PRISM_WINw_CFG_CAR (w : Nat) : Fld := ⟨R.PRISM_WINw_CFG w, 4, 3⟩
abbrev F.PRISM_WINw_CFG_RED (w : Nat) : Fld := ⟨R.PRISM_WINw_CFG w, 8, 2⟩
abbrev F.PRISM_WINw_CFG_NCH (w : Nat) : Fld := ⟨R.PRISM_WINw_CFG w, 16, 5⟩
abbrev F.PRISM_WINw_CFG_FRZ_N (w : Nat) : Fld := ⟨R.PRISM_WINw_CFG w, 24, 8⟩

/-- PRISM_WINw_PH, offset 0x104, reset 0x0. -/
abbrev R.PRISM_WINw_PH (w : Nat) : Nat := 0x40030104 + 0x20 * w
abbrev F.PRISM_WINw_PH_START (w : Nat) : Fld := ⟨R.PRISM_WINw_PH w, 0, 16⟩
abbrev F.PRISM_WINw_PH_END (w : Nat) : Fld := ⟨R.PRISM_WINw_PH w, 16, 16⟩

/-- PRISM_WINw_CHA, offset 0x108, reset 0x0. -/
abbrev R.PRISM_WINw_CHA (w : Nat) : Nat := 0x40030108 + 0x20 * w
abbrev F.PRISM_WINw_CHA_CH0 (w : Nat) : Fld := ⟨R.PRISM_WINw_CHA w, 0, 8⟩
abbrev F.PRISM_WINw_CHA_CH1 (w : Nat) : Fld := ⟨R.PRISM_WINw_CHA w, 8, 8⟩
abbrev F.PRISM_WINw_CHA_CH2 (w : Nat) : Fld := ⟨R.PRISM_WINw_CHA w, 16, 8⟩
abbrev F.PRISM_WINw_CHA_CH3 (w : Nat) : Fld := ⟨R.PRISM_WINw_CHA w, 24, 8⟩

/-- PRISM_WINw_CHB, offset 0x10C, reset 0x0. -/
abbrev R.PRISM_WINw_CHB (w : Nat) : Nat := 0x4003010C + 0x20 * w
abbrev F.PRISM_WINw_CHB_CH0 (w : Nat) : Fld := ⟨R.PRISM_WINw_CHB w, 0, 8⟩
abbrev F.PRISM_WINw_CHB_CH1 (w : Nat) : Fld := ⟨R.PRISM_WINw_CHB w, 8, 8⟩
abbrev F.PRISM_WINw_CHB_CH2 (w : Nat) : Fld := ⟨R.PRISM_WINw_CHB w, 16, 8⟩
abbrev F.PRISM_WINw_CHB_CH3 (w : Nat) : Fld := ⟨R.PRISM_WINw_CHB w, 24, 8⟩

/-- PRISM_WINw_CHC, offset 0x110, reset 0x0. -/
abbrev R.PRISM_WINw_CHC (w : Nat) : Nat := 0x40030110 + 0x20 * w
abbrev F.PRISM_WINw_CHC_CH0 (w : Nat) : Fld := ⟨R.PRISM_WINw_CHC w, 0, 8⟩
abbrev F.PRISM_WINw_CHC_CH1 (w : Nat) : Fld := ⟨R.PRISM_WINw_CHC w, 8, 8⟩
abbrev F.PRISM_WINw_CHC_CH2 (w : Nat) : Fld := ⟨R.PRISM_WINw_CHC w, 16, 8⟩
abbrev F.PRISM_WINw_CHC_CH3 (w : Nat) : Fld := ⟨R.PRISM_WINw_CHC w, 24, 8⟩

/-- PRISM_WINw_CHD, offset 0x114, reset 0x0. -/
abbrev R.PRISM_WINw_CHD (w : Nat) : Nat := 0x40030114 + 0x20 * w
abbrev F.PRISM_WINw_CHD_CH0 (w : Nat) : Fld := ⟨R.PRISM_WINw_CHD w, 0, 8⟩
abbrev F.PRISM_WINw_CHD_CH1 (w : Nat) : Fld := ⟨R.PRISM_WINw_CHD w, 8, 8⟩
abbrev F.PRISM_WINw_CHD_CH2 (w : Nat) : Fld := ⟨R.PRISM_WINw_CHD w, 16, 8⟩
abbrev F.PRISM_WINw_CHD_CH3 (w : Nat) : Fld := ⟨R.PRISM_WINw_CHD w, 24, 8⟩

/-- PRISM_WINw_STAMP, offset 0x118, reset 0x0. -/
abbrev R.PRISM_WINw_STAMP (w : Nat) : Nat := 0x40030118 + 0x20 * w
abbrev F.PRISM_WINw_STAMP_STAMP (w : Nat) : Fld := ⟨R.PRISM_WINw_STAMP w, 0, 32⟩

/-- PRISM_WINw_INFO, offset 0x11C, reset 0x0. -/
abbrev R.PRISM_WINw_INFO (w : Nat) : Nat := 0x4003011C + 0x20 * w
abbrev F.PRISM_WINw_INFO_COUNT (w : Nat) : Fld := ⟨R.PRISM_WINw_INFO w, 0, 16⟩
abbrev F.PRISM_WINw_INFO_CLOSES (w : Nat) : Fld := ⟨R.PRISM_WINw_INFO w, 16, 16⟩

/-- PRISM_STRk, offset 0xA00, reset 0x0. -/
abbrev R.PRISM_STRk (k : Nat) : Nat := 0x40030A00 + 4 * k
abbrev F.PRISM_STRk_EN (k : Nat) : Fld := ⟨R.PRISM_STRk k, 0, 1⟩
abbrev F.PRISM_STRk_CHAN (k : Nat) : Fld := ⟨R.PRISM_STRk k, 8, 7⟩

/-- PRISM_STRDk, offset 0xB00, reset 0x0. -/
abbrev R.PRISM_STRDk (k : Nat) : Nat := 0x40030B00 + 4 * k
abbrev F.PRISM_STRDk_VALUE (k : Nat) : Fld := ⟨R.PRISM_STRDk k, 0, 20⟩
abbrev F.PRISM_STRDk_VALID (k : Nat) : Fld := ⟨R.PRISM_STRDk k, 31, 1⟩

/-- PRISM_RESw_m, offset 0x1000, reset 0xFF00000. -/
abbrev R.PRISM_RESw_m (w : Nat) (m : Nat) : Nat := 0x40031000 + 0x40 * w + 4 * m
abbrev F.PRISM_RESw_m_VALUE (w : Nat) (m : Nat) : Fld := ⟨R.PRISM_RESw_m w m, 0, 20⟩
abbrev F.PRISM_RESw_m_AGE (w : Nat) (m : Nat) : Fld := ⟨R.PRISM_RESw_m w m, 20, 8⟩
abbrev F.PRISM_RESw_m_VALID (w : Nat) (m : Nat) : Fld := ⟨R.PRISM_RESw_m w m, 28, 1⟩
abbrev F.PRISM_RESw_m_FROZEN (w : Nat) (m : Nat) : Fld := ⟨R.PRISM_RESw_m w m, 29, 1⟩
abbrev F.PRISM_RESw_m_OPEN (w : Nat) (m : Nat) : Fld := ⟨R.PRISM_RESw_m w m, 30, 1⟩
abbrev F.PRISM_RESw_m_LATE (w : Nat) (m : Nat) : Fld := ⟨R.PRISM_RESw_m w m, 31, 1⟩

/-! ### WVN, block index 4 (spec/05) -/

/-- WVN_CTRL, offset 0x0, reset 0x0. -/
abbrev R.WVN_CTRL : Nat := 0x40040000
abbrev F.WVN_CTRL_SET_EN : Fld := ⟨R.WVN_CTRL, 0, 4⟩
abbrev F.WVN_CTRL_MPP_EN : Fld := ⟨R.WVN_CTRL, 8, 8⟩

/-- WVN_STAT, offset 0x4, reset 0x0. -/
abbrev R.WVN_STAT : Nat := 0x40040004
abbrev F.WVN_STAT_LATE : Fld := ⟨R.WVN_STAT, 0, 4⟩
abbrev F.WVN_STAT_ISLAND : Fld := ⟨R.WVN_STAT, 4, 4⟩
abbrev F.WVN_STAT_TRIP : Fld := ⟨R.WVN_STAT, 8, 4⟩

/-- WVN_SETs_CFG, offset 0x100, reset 0x1E0800. -/
abbrev R.WVN_SETs_CFG (s : Nat) : Nat := 0x40040100 + 0x100 * s
abbrev F.WVN_SETs_CFG_CAR (s : Nat) : Fld := ⟨R.WVN_SETs_CFG s, 0, 3⟩
abbrev F.WVN_SETs_CFG_FNOM (s : Nat) : Fld := ⟨R.WVN_SETs_CFG s, 3, 1⟩
abbrev F.WVN_SETs_CFG_CUR_EN (s : Nat) : Fld := ⟨R.WVN_SETs_CFG s, 4, 1⟩
abbrev F.WVN_SETs_CFG_RESEED (s : Nat) : Fld := ⟨R.WVN_SETs_CFG s, 5, 1⟩
abbrev F.WVN_SETs_CFG_LOSS_N (s : Nat) : Fld := ⟨R.WVN_SETs_CFG s, 8, 8⟩
abbrev F.WVN_SETs_CFG_BW (s : Nat) : Fld := ⟨R.WVN_SETs_CFG s, 16, 7⟩

/-- WVN_SETs_CHV, offset 0x104, reset 0x0. -/
abbrev R.WVN_SETs_CHV (s : Nat) : Nat := 0x40040104 + 0x100 * s
abbrev F.WVN_SETs_CHV_A (s : Nat) : Fld := ⟨R.WVN_SETs_CHV s, 0, 7⟩
abbrev F.WVN_SETs_CHV_B (s : Nat) : Fld := ⟨R.WVN_SETs_CHV s, 8, 7⟩
abbrev F.WVN_SETs_CHV_C (s : Nat) : Fld := ⟨R.WVN_SETs_CHV s, 16, 7⟩

/-- WVN_SETs_CHI, offset 0x108, reset 0x0. -/
abbrev R.WVN_SETs_CHI (s : Nat) : Nat := 0x40040108 + 0x100 * s
abbrev F.WVN_SETs_CHI_A (s : Nat) : Fld := ⟨R.WVN_SETs_CHI s, 0, 7⟩
abbrev F.WVN_SETs_CHI_B (s : Nat) : Fld := ⟨R.WVN_SETs_CHI s, 8, 7⟩
abbrev F.WVN_SETs_CHI_C (s : Nat) : Fld := ⟨R.WVN_SETs_CHI s, 16, 7⟩

/-- WVN_SETs_NOM, offset 0x10C, reset 0x40004000. -/
abbrev R.WVN_SETs_NOM (s : Nat) : Nat := 0x4004010C + 0x100 * s
abbrev F.WVN_SETs_NOM_VNOM (s : Nat) : Fld := ⟨R.WVN_SETs_NOM s, 0, 16⟩
abbrev F.WVN_SETs_NOM_INOM (s : Nat) : Fld := ⟨R.WVN_SETs_NOM s, 16, 16⟩

/-- WVN_SETs_LOCK, offset 0x110, reset 0x64014. -/
abbrev R.WVN_SETs_LOCK (s : Nat) : Nat := 0x40040110 + 0x100 * s
abbrev F.WVN_SETs_LOCK_LOCKWIN (s : Nat) : Fld := ⟨R.WVN_SETs_LOCK s, 0, 8⟩
abbrev F.WVN_SETs_LOCK_LOCK_N (s : Nat) : Fld := ⟨R.WVN_SETs_LOCK s, 8, 16⟩

/-- WVN_SETs_JUMP, offset 0x114, reset 0x2808040A. -/
abbrev R.WVN_SETs_JUMP (s : Nat) : Nat := 0x40040114 + 0x100 * s
abbrev F.WVN_SETs_JUMP_JTHR (s : Nat) : Fld := ⟨R.WVN_SETs_JUMP s, 0, 6⟩
abbrev F.WVN_SETs_JUMP_JN (s : Nat) : Fld := ⟨R.WVN_SETs_JUMP s, 8, 4⟩
abbrev F.WVN_SETs_JUMP_VS_THR (s : Nat) : Fld := ⟨R.WVN_SETs_JUMP s, 16, 6⟩
abbrev F.WVN_SETs_JUMP_VS_HOLD (s : Nat) : Fld := ⟨R.WVN_SETs_JUMP s, 24, 8⟩

/-- WVN_SETs_SHD, offset 0x118, reset 0xA02. -/
abbrev R.WVN_SETs_SHD (s : Nat) : Nat := 0x40040118 + 0x100 * s
abbrev F.WVN_SETs_SHD_BW (s : Nat) : Fld := ⟨R.WVN_SETs_SHD s, 0, 4⟩
abbrev F.WVN_SETs_SHD_SLEW (s : Nat) : Fld := ⟨R.WVN_SETs_SHD s, 8, 8⟩
abbrev F.WVN_SETs_SHD_RESYNC (s : Nat) : Fld := ⟨R.WVN_SETs_SHD s, 16, 1⟩

/-- WVN_SETs_ISLV, offset 0x11C, reset 0x499A3333. -/
abbrev R.WVN_SETs_ISLV (s : Nat) : Nat := 0x4004011C + 0x100 * s
abbrev F.WVN_SETs_ISLV_LO (s : Nat) : Fld := ⟨R.WVN_SETs_ISLV s, 0, 16⟩
abbrev F.WVN_SETs_ISLV_HI (s : Nat) : Fld := ⟨R.WVN_SETs_ISLV s, 16, 16⟩

/-- WVN_SETs_ISLF, offset 0x120, reset 0xC8FF06. -/
abbrev R.WVN_SETs_ISLF (s : Nat) : Nat := 0x40040120 + 0x100 * s
abbrev F.WVN_SETs_ISLF_FLO (s : Nat) : Fld := ⟨R.WVN_SETs_ISLF s, 0, 16⟩
abbrev F.WVN_SETs_ISLF_FHI (s : Nat) : Fld := ⟨R.WVN_SETs_ISLF s, 16, 16⟩

/-- WVN_SETs_ISLT, offset 0x124, reset 0x205014. -/
abbrev R.WVN_SETs_ISLT (s : Nat) : Nat := 0x40040124 + 0x100 * s
abbrev F.WVN_SETs_ISLT_T_V (s : Nat) : Fld := ⟨R.WVN_SETs_ISLT s, 0, 10⟩
abbrev F.WVN_SETs_ISLT_T_F (s : Nat) : Fld := ⟨R.WVN_SETs_ISLT s, 10, 10⟩
abbrev F.WVN_SETs_ISLT_T_R (s : Nat) : Fld := ⟨R.WVN_SETs_ISLT s, 20, 10⟩

/-- WVN_SETs_ISLR, offset 0x128, reset 0x1400C8. -/
abbrev R.WVN_SETs_ISLR (s : Nat) : Nat := 0x40040128 + 0x100 * s
abbrev F.WVN_SETs_ISLR_RLIM (s : Nat) : Fld := ⟨R.WVN_SETs_ISLR s, 0, 16⟩
abbrev F.WVN_SETs_ISLR_RWIN (s : Nat) : Fld := ⟨R.WVN_SETs_ISLR s, 16, 9⟩

/-- WVN_SETs_ISLA, offset 0x12C, reset 0x2038003F. -/
abbrev R.WVN_SETs_ISLA (s : Nat) : Nat := 0x4004012C + 0x100 * s
abbrev F.WVN_SETs_ISLA_USE_V (s : Nat) : Fld := ⟨R.WVN_SETs_ISLA s, 0, 1⟩
abbrev F.WVN_SETs_ISLA_USE_F (s : Nat) : Fld := ⟨R.WVN_SETs_ISLA s, 1, 1⟩
abbrev F.WVN_SETs_ISLA_USE_R (s : Nat) : Fld := ⟨R.WVN_SETs_ISLA s, 2, 1⟩
abbrev F.WVN_SETs_ISLA_USE_VS (s : Nat) : Fld := ⟨R.WVN_SETs_ISLA s, 3, 1⟩
abbrev F.WVN_SETs_ISLA_RVS (s : Nat) : Fld := ⟨R.WVN_SETs_ISLA s, 4, 1⟩
abbrev F.WVN_SETs_ISLA_USE_ACT (s : Nat) : Fld := ⟨R.WVN_SETs_ISLA s, 5, 1⟩
abbrev F.WVN_SETs_ISLA_CLR (s : Nat) : Fld := ⟨R.WVN_SETs_ISLA s, 8, 1⟩
abbrev F.WVN_SETs_ISLA_ACT_N (s : Nat) : Fld := ⟨R.WVN_SETs_ISLA s, 16, 4⟩
abbrev F.WVN_SETs_ISLA_ACT_CONF (s : Nat) : Fld := ⟨R.WVN_SETs_ISLA s, 20, 4⟩
abbrev F.WVN_SETs_ISLA_ZLIM (s : Nat) : Fld := ⟨R.WVN_SETs_ISLA s, 24, 8⟩

/-- WVN_SETs_INJ, offset 0x130, reset 0x148012C. -/
abbrev R.WVN_SETs_INJ (s : Nat) : Nat := 0x40040130 + 0x100 * s
abbrev F.WVN_SETs_INJ_FINJ (s : Nat) : Fld := ⟨R.WVN_SETs_INJ s, 0, 10⟩
abbrev F.WVN_SETs_INJ_AMP (s : Nat) : Fld := ⟨R.WVN_SETs_INJ s, 16, 16⟩

/-- WVN_SETs_FRTB, offset 0x134, reset 0x4666399A. -/
abbrev R.WVN_SETs_FRTB (s : Nat) : Nat := 0x40040134 + 0x100 * s
abbrev F.WVN_SETs_FRTB_LO (s : Nat) : Fld := ⟨R.WVN_SETs_FRTB s, 0, 16⟩
abbrev F.WVN_SETs_FRTB_HI (s : Nat) : Fld := ⟨R.WVN_SETs_FRTB s, 16, 16⟩

/-- WVN_SETs_FRTR, offset 0x138, reset 0x451F3AE1. -/
abbrev R.WVN_SETs_FRTR (s : Nat) : Nat := 0x40040138 + 0x100 * s
abbrev F.WVN_SETs_FRTR_LO (s : Nat) : Fld := ⟨R.WVN_SETs_FRTR s, 0, 16⟩
abbrev F.WVN_SETs_FRTR_HI (s : Nat) : Fld := ⟨R.WVN_SETs_FRTR s, 16, 16⟩

/-- WVN_SETs_FRT, offset 0x13C, reset 0xA881. -/
abbrev R.WVN_SETs_FRT (s : Nat) : Nat := 0x4004013C + 0x100 * s
abbrev F.WVN_SETs_FRT_EN (s : Nat) : Fld := ⟨R.WVN_SETs_FRT s, 0, 1⟩
abbrev F.WVN_SETs_FRT_SRC (s : Nat) : Fld := ⟨R.WVN_SETs_FRT s, 1, 1⟩
abbrev F.WVN_SETs_FRT_CLR (s : Nat) : Fld := ⟨R.WVN_SETs_FRT s, 2, 1⟩
abbrev F.WVN_SETs_FRT_FILT_N (s : Nat) : Fld := ⟨R.WVN_SETs_FRT s, 4, 4⟩
abbrev F.WVN_SETs_FRT_DET_N (s : Nat) : Fld := ⟨R.WVN_SETs_FRT s, 8, 4⟩
abbrev F.WVN_SETs_FRT_CONFIRM (s : Nat) : Fld := ⟨R.WVN_SETs_FRT s, 12, 8⟩

/-- WVN_SETs_FRT2, offset 0x140, reset 0x40401F4. -/
abbrev R.WVN_SETs_FRT2 (s : Nat) : Nat := 0x40040140 + 0x100 * s
abbrev F.WVN_SETs_FRT2_REC_TIME (s : Nat) : Fld := ⟨R.WVN_SETs_FRT2 s, 0, 16⟩
abbrev F.WVN_SETs_FRT2_NLV (s : Nat) : Fld := ⟨R.WVN_SETs_FRT2 s, 16, 5⟩
abbrev F.WVN_SETs_FRT2_NHV (s : Nat) : Fld := ⟨R.WVN_SETs_FRT2 s, 24, 5⟩

/-- WVN_SETs_STAT, offset 0x144, reset 0x0. -/
abbrev R.WVN_SETs_STAT (s : Nat) : Nat := 0x40040144 + 0x100 * s
abbrev F.WVN_SETs_STAT_VALID (s : Nat) : Fld := ⟨R.WVN_SETs_STAT s, 0, 1⟩
abbrev F.WVN_SETs_STAT_LOCKED (s : Nat) : Fld := ⟨R.WVN_SETs_STAT s, 1, 1⟩
abbrev F.WVN_SETs_STAT_RANGE (s : Nat) : Fld := ⟨R.WVN_SETs_STAT s, 2, 1⟩
abbrev F.WVN_SETs_STAT_COAST (s : Nat) : Fld := ⟨R.WVN_SETs_STAT s, 3, 1⟩
abbrev F.WVN_SETs_STAT_HARM_VALID (s : Nat) : Fld := ⟨R.WVN_SETs_STAT s, 4, 1⟩
abbrev F.WVN_SETs_STAT_CURR_VALID (s : Nat) : Fld := ⟨R.WVN_SETs_STAT s, 5, 1⟩
abbrev F.WVN_SETs_STAT_JUMP (s : Nat) : Fld := ⟨R.WVN_SETs_STAT s, 6, 1⟩
abbrev F.WVN_SETs_STAT_LATE (s : Nat) : Fld := ⟨R.WVN_SETs_STAT s, 7, 1⟩
abbrev F.WVN_SETs_STAT_FRT (s : Nat) : Fld := ⟨R.WVN_SETs_STAT s, 8, 3⟩
abbrev F.WVN_SETs_STAT_FRT_DIR (s : Nat) : Fld := ⟨R.WVN_SETs_STAT s, 11, 1⟩
abbrev F.WVN_SETs_STAT_ISLAND (s : Nat) : Fld := ⟨R.WVN_SETs_STAT s, 12, 1⟩
abbrev F.WVN_SETs_STAT_PU_V (s : Nat) : Fld := ⟨R.WVN_SETs_STAT s, 13, 1⟩
abbrev F.WVN_SETs_STAT_PU_F (s : Nat) : Fld := ⟨R.WVN_SETs_STAT s, 14, 1⟩
abbrev F.WVN_SETs_STAT_PU_R (s : Nat) : Fld := ⟨R.WVN_SETs_STAT s, 15, 1⟩
abbrev F.WVN_SETs_STAT_PU_VS (s : Nat) : Fld := ⟨R.WVN_SETs_STAT s, 16, 1⟩
abbrev F.WVN_SETs_STAT_PU_ACT (s : Nat) : Fld := ⟨R.WVN_SETs_STAT s, 17, 1⟩
abbrev F.WVN_SETs_STAT_SHD (s : Nat) : Fld := ⟨R.WVN_SETs_STAT s, 18, 2⟩
abbrev F.WVN_SETs_STAT_TBL_ERR (s : Nat) : Fld := ⟨R.WVN_SETs_STAT s, 20, 1⟩
abbrev F.WVN_SETs_STAT_CLR_REF (s : Nat) : Fld := ⟨R.WVN_SETs_STAT s, 21, 1⟩
abbrev F.WVN_SETs_STAT_STEER_IGN (s : Nat) : Fld := ⟨R.WVN_SETs_STAT s, 22, 1⟩

/-- WVN_SETs_ISL_STAMP, offset 0x148, reset 0x0. -/
abbrev R.WVN_SETs_ISL_STAMP (s : Nat) : Nat := 0x40040148 + 0x100 * s
abbrev F.WVN_SETs_ISL_STAMP_STAMP (s : Nat) : Fld := ⟨R.WVN_SETs_ISL_STAMP s, 0, 32⟩

/-- WVN_SETs_ISL_CAUSE, offset 0x14C, reset 0x0. -/
abbrev R.WVN_SETs_ISL_CAUSE (s : Nat) : Nat := 0x4004014C + 0x100 * s
abbrev F.WVN_SETs_ISL_CAUSE_CAUSE (s : Nat) : Fld := ⟨R.WVN_SETs_ISL_CAUSE s, 0, 5⟩

/-- WVN_SETs_FRT_STAMP, offset 0x150, reset 0x0. -/
abbrev R.WVN_SETs_FRT_STAMP (s : Nat) : Nat := 0x40040150 + 0x100 * s
abbrev F.WVN_SETs_FRT_STAMP_STAMP (s : Nat) : Fld := ⟨R.WVN_SETs_FRT_STAMP s, 0, 32⟩

/-- WVN_SETs_CNT, offset 0x154, reset 0x0. -/
abbrev R.WVN_SETs_CNT (s : Nat) : Nat := 0x40040154 + 0x100 * s
abbrev F.WVN_SETs_CNT_DIPS (s : Nat) : Fld := ⟨R.WVN_SETs_CNT s, 0, 16⟩
abbrev F.WVN_SETs_CNT_JUMPS (s : Nat) : Fld := ⟨R.WVN_SETs_CNT s, 16, 16⟩

/-- WVN_SETs_LCNT, offset 0x158, reset 0x0. -/
abbrev R.WVN_SETs_LCNT (s : Nat) : Nat := 0x40040158 + 0x100 * s
abbrev F.WVN_SETs_LCNT_LCNT (s : Nat) : Fld := ⟨R.WVN_SETs_LCNT s, 0, 32⟩

/-- WVN_MPPm_CFG, offset 0x500, reset 0x0. -/
abbrev R.WVN_MPPm_CFG (m : Nat) : Nat := 0x40040500 + 0x40 * m
abbrev F.WVN_MPPm_CFG_CAR (m : Nat) : Fld := ⟨R.WVN_MPPm_CFG m, 0, 3⟩
abbrev F.WVN_MPPm_CFG_WIN (m : Nat) : Fld := ⟨R.WVN_MPPm_CFG m, 8, 6⟩
abbrev F.WVN_MPPm_CFG_VPOS (m : Nat) : Fld := ⟨R.WVN_MPPm_CFG m, 16, 4⟩
abbrev F.WVN_MPPm_CFG_IPOS (m : Nat) : Fld := ⟨R.WVN_MPPm_CFG m, 20, 4⟩
abbrev F.WVN_MPPm_CFG_LIM_EN (m : Nat) : Fld := ⟨R.WVN_MPPm_CFG m, 24, 1⟩
abbrev F.WVN_MPPm_CFG_HOLD (m : Nat) : Fld := ⟨R.WVN_MPPm_CFG m, 25, 1⟩
abbrev F.WVN_MPPm_CFG_SCAN_NOW (m : Nat) : Fld := ⟨R.WVN_MPPm_CFG m, 26, 1⟩

/-- WVN_MPPm_TIM, offset 0x504, reset 0x408. -/
abbrev R.WVN_MPPm_TIM (m : Nat) : Nat := 0x40040504 + 0x40 * m
abbrev F.WVN_MPPm_TIM_HALF (m : Nat) : Fld := ⟨R.WVN_MPPm_TIM m, 0, 8⟩
abbrev F.WVN_MPPm_TIM_SETTLE (m : Nat) : Fld := ⟨R.WVN_MPPm_TIM m, 8, 8⟩
abbrev F.WVN_MPPm_TIM_DWELL (m : Nat) : Fld := ⟨R.WVN_MPPm_TIM m, 16, 12⟩

/-- WVN_MPPm_VLIM, offset 0x508, reset 0xFFFF0000. -/
abbrev R.WVN_MPPm_VLIM (m : Nat) : Nat := 0x40040508 + 0x40 * m
abbrev F.WVN_MPPm_VLIM_LO (m : Nat) : Fld := ⟨R.WVN_MPPm_VLIM m, 0, 16⟩
abbrev F.WVN_MPPm_VLIM_HI (m : Nat) : Fld := ⟨R.WVN_MPPm_VLIM m, 16, 16⟩

/-- WVN_MPPm_STEP, offset 0x50C, reset 0x1000040. -/
abbrev R.WVN_MPPm_STEP (m : Nat) : Nat := 0x4004050C + 0x40 * m
abbrev F.WVN_MPPm_STEP_LO (m : Nat) : Fld := ⟨R.WVN_MPPm_STEP m, 0, 16⟩
abbrev F.WVN_MPPm_STEP_HI (m : Nat) : Fld := ⟨R.WVN_MPPm_STEP m, 16, 16⟩

/-- WVN_MPPm_K, offset 0x510, reset 0x0. -/
abbrev R.WVN_MPPm_K (m : Nat) : Nat := 0x40040510 + 0x40 * m
abbrev F.WVN_MPPm_K_VAL (m : Nat) : Fld := ⟨R.WVN_MPPm_K m, 0, 32⟩

/-- WVN_MPPm_LIM, offset 0x514, reset 0x0. -/
abbrev R.WVN_MPPm_LIM (m : Nat) : Nat := 0x40040514 + 0x40 * m
abbrev F.WVN_MPPm_LIM_VAL (m : Nat) : Fld := ⟨R.WVN_MPPm_LIM m, 0, 32⟩

/-- WVN_MPPm_SCAN, offset 0x518, reset 0xA003C. -/
abbrev R.WVN_MPPm_SCAN (m : Nat) : Nat := 0x40040518 + 0x40 * m
abbrev F.WVN_MPPm_SCAN_SCAN_INT (m : Nat) : Fld := ⟨R.WVN_MPPm_SCAN m, 0, 12⟩
abbrev F.WVN_MPPm_SCAN_GAIN (m : Nat) : Fld := ⟨R.WVN_MPPm_SCAN m, 16, 8⟩

/-- WVN_MPPm_STAT, offset 0x51C, reset 0x0. -/
abbrev R.WVN_MPPm_STAT (m : Nat) : Nat := 0x4004051C + 0x40 * m
abbrev F.WVN_MPPm_STAT_VALID (m : Nat) : Fld := ⟨R.WVN_MPPm_STAT m, 0, 1⟩
abbrev F.WVN_MPPm_STAT_HIGH (m : Nat) : Fld := ⟨R.WVN_MPPm_STAT m, 1, 1⟩
abbrev F.WVN_MPPm_STAT_SCAN (m : Nat) : Fld := ⟨R.WVN_MPPm_STAT m, 2, 1⟩
abbrev F.WVN_MPPm_STAT_LIMITED (m : Nat) : Fld := ⟨R.WVN_MPPm_STAT m, 3, 1⟩
abbrev F.WVN_MPPm_STAT_HOLD (m : Nat) : Fld := ⟨R.WVN_MPPm_STAT m, 4, 1⟩
abbrev F.WVN_MPPm_STAT_AT_VMIN (m : Nat) : Fld := ⟨R.WVN_MPPm_STAT m, 5, 1⟩
abbrev F.WVN_MPPm_STAT_AT_VMAX (m : Nat) : Fld := ⟨R.WVN_MPPm_STAT m, 6, 1⟩
abbrev F.WVN_MPPm_STAT_DWELL_CLAMPED (m : Nat) : Fld := ⟨R.WVN_MPPm_STAT m, 7, 1⟩

/-- WVN_Ls_n, offset 0x1000, reset 0x0. -/
abbrev R.WVN_Ls_n (s : Nat) (n : Nat) : Nat := 0x40041000 + 0x80 * s + 4 * n
abbrev F.WVN_Ls_n_WORD (s : Nat) (n : Nat) : Fld := ⟨R.WVN_Ls_n s n, 0, 32⟩

/-- WVN_Mm_n, offset 0x1200, reset 0x0. -/
abbrev R.WVN_Mm_n (m : Nat) (n : Nat) : Nat := 0x40041200 + 0x10 * m + 4 * n
abbrev F.WVN_Mm_n_WORD (m : Nat) (n : Nat) : Fld := ⟨R.WVN_Mm_n m n, 0, 32⟩

/-- WVN_Hs_p_h, offset 0x2000, reset 0x0. -/
abbrev R.WVN_Hs_p_h (s : Nat) (p : Nat) (h : Nat) : Nat := 0x40042000 + 0x400 * s + 0x100 * p + 4 * h
abbrev F.WVN_Hs_p_h_AMP (s : Nat) (p : Nat) (h : Nat) : Fld := ⟨R.WVN_Hs_p_h s p h, 0, 32⟩

/-- WVN_LVs_i, offset 0x3000, reset see regReset. -/
abbrev R.WVN_LVs_i (s : Nat) (i : Nat) : Nat := 0x40043000 + 0x100 * s + 4 * i
abbrev F.WVN_LVs_i_TIME (s : Nat) (i : Nat) : Fld := ⟨R.WVN_LVs_i s i, 0, 16⟩
abbrev F.WVN_LVs_i_VOLT (s : Nat) (i : Nat) : Fld := ⟨R.WVN_LVs_i s i, 16, 16⟩

/-- WVN_HVs_i, offset 0x3080, reset see regReset. -/
abbrev R.WVN_HVs_i (s : Nat) (i : Nat) : Nat := 0x40043080 + 0x100 * s + 4 * i
abbrev F.WVN_HVs_i_TIME (s : Nat) (i : Nat) : Fld := ⟨R.WVN_HVs_i s i, 0, 16⟩
abbrev F.WVN_HVs_i_VOLT (s : Nat) (i : Nat) : Fld := ⟨R.WVN_HVs_i s i, 16, 16⟩

/-! ### MILL, block index 5 (spec/06) -/

/-- MILL_CTRL, offset 0x0, reset 0x0. -/
abbrev R.MILL_CTRL : Nat := 0x40050000
abbrev F.MILL_CTRL_EN : Fld := ⟨R.MILL_CTRL, 0, 1⟩
abbrev F.MILL_CTRL_LOCK : Fld := ⟨R.MILL_CTRL, 31, 1⟩

/-- MILL_STAT, offset 0x4, reset 0x0. -/
abbrev R.MILL_STAT : Nat := 0x40050004
abbrev F.MILL_STAT_TASK : Fld := ⟨R.MILL_STAT, 0, 3⟩
abbrev F.MILL_STAT_BUSY : Fld := ⟨R.MILL_STAT, 3, 1⟩
abbrev F.MILL_STAT_ECC_CORR : Fld := ⟨R.MILL_STAT, 4, 1⟩
abbrev F.MILL_STAT_ECC_FATAL : Fld := ⟨R.MILL_STAT, 5, 1⟩
abbrev F.MILL_STAT_CHK_ERR : Fld := ⟨R.MILL_STAT, 6, 1⟩
abbrev F.MILL_STAT_CORR_CNT : Fld := ⟨R.MILL_STAT, 16, 16⟩

/-- MILL_TASKt_BIND, offset 0x100, reset 0x0. -/
abbrev R.MILL_TASKt_BIND (t : Nat) : Nat := 0x40050100 + 0x20 * t
abbrev F.MILL_TASKt_BIND_EN (t : Nat) : Fld := ⟨R.MILL_TASKt_BIND t, 0, 1⟩
abbrev F.MILL_TASKt_BIND_CAR (t : Nat) : Fld := ⟨R.MILL_TASKt_BIND t, 1, 3⟩
abbrev F.MILL_TASKt_BIND_EDGE (t : Nat) : Fld := ⟨R.MILL_TASKt_BIND t, 4, 1⟩
abbrev F.MILL_TASKt_BIND_DIV (t : Nat) : Fld := ⟨R.MILL_TASKt_BIND t, 8, 8⟩
abbrev F.MILL_TASKt_BIND_PHASE (t : Nat) : Fld := ⟨R.MILL_TASKt_BIND t, 16, 8⟩

/-- MILL_TASKt_TIME, offset 0x104, reset 0x40. -/
abbrev R.MILL_TASKt_TIME (t : Nat) : Nat := 0x40050104 + 0x20 * t
abbrev F.MILL_TASKt_TIME_OFFSET (t : Nat) : Fld := ⟨R.MILL_TASKt_TIME t, 0, 16⟩
abbrev F.MILL_TASKt_TIME_CPER (t : Nat) : Fld := ⟨R.MILL_TASKt_TIME t, 16, 8⟩

/-- MILL_TASKt_ENTRY, offset 0x108, reset 0x0. -/
abbrev R.MILL_TASKt_ENTRY (t : Nat) : Nat := 0x40050108 + 0x20 * t
abbrev F.MILL_TASKt_ENTRY_ENTRY (t : Nat) : Fld := ⟨R.MILL_TASKt_ENTRY t, 0, 12⟩

/-- MILL_TASKt_WCET, offset 0x10C, reset 0x0. -/
abbrev R.MILL_TASKt_WCET (t : Nat) : Nat := 0x4005010C + 0x20 * t
abbrev F.MILL_TASKt_WCET_WCET (t : Nat) : Fld := ⟨R.MILL_TASKt_WCET t, 0, 32⟩

/-- MILL_TASKt_POL, offset 0x110, reset 0x202. -/
abbrev R.MILL_TASKt_POL (t : Nat) : Nat := 0x40050110 + 0x20 * t
abbrev F.MILL_TASKt_POL_POLICY (t : Nat) : Fld := ⟨R.MILL_TASKt_POL t, 0, 2⟩
abbrev F.MILL_TASKt_POL_FB_BANK (t : Nat) : Fld := ⟨R.MILL_TASKt_POL t, 2, 1⟩
abbrev F.MILL_TASKt_POL_FLAG_EV (t : Nat) : Fld := ⟨R.MILL_TASKt_POL t, 3, 1⟩
abbrev F.MILL_TASKt_POL_LOSS_N (t : Nat) : Fld := ⟨R.MILL_TASKt_POL t, 8, 8⟩

/-- MILL_TASKt_STAT, offset 0x114, reset 0x0. -/
abbrev R.MILL_TASKt_STAT (t : Nat) : Nat := 0x40050114 + 0x20 * t
abbrev F.MILL_TASKt_STAT_ACTIVE (t : Nat) : Fld := ⟨R.MILL_TASKt_STAT t, 0, 1⟩
abbrev F.MILL_TASKt_STAT_BANK (t : Nat) : Fld := ⟨R.MILL_TASKt_STAT t, 1, 1⟩
abbrev F.MILL_TASKt_STAT_HOLDING (t : Nat) : Fld := ⟨R.MILL_TASKt_STAT t, 2, 1⟩
abbrev F.MILL_TASKt_STAT_FALLBACK (t : Nat) : Fld := ⟨R.MILL_TASKt_STAT t, 3, 1⟩
abbrev F.MILL_TASKt_STAT_TRIPPED (t : Nat) : Fld := ⟨R.MILL_TASKt_STAT t, 4, 1⟩
abbrev F.MILL_TASKt_STAT_OVR (t : Nat) : Fld := ⟨R.MILL_TASKt_STAT t, 5, 1⟩
abbrev F.MILL_TASKt_STAT_OVR_STATE (t : Nat) : Fld := ⟨R.MILL_TASKt_STAT t, 6, 1⟩
abbrev F.MILL_TASKt_STAT_LOSS (t : Nat) : Fld := ⟨R.MILL_TASKt_STAT t, 7, 1⟩
abbrev F.MILL_TASKt_STAT_NAN (t : Nat) : Fld := ⟨R.MILL_TASKt_STAT t, 8, 1⟩
abbrev F.MILL_TASKt_STAT_INF (t : Nat) : Fld := ⟨R.MILL_TASKt_STAT t, 9, 1⟩
abbrev F.MILL_TASKt_STAT_QSAT (t : Nat) : Fld := ⟨R.MILL_TASKt_STAT t, 10, 1⟩
abbrev F.MILL_TASKt_STAT_DIV0 (t : Nat) : Fld := ⟨R.MILL_TASKt_STAT t, 11, 1⟩
abbrev F.MILL_TASKt_STAT_ILL (t : Nat) : Fld := ⟨R.MILL_TASKt_STAT t, 12, 1⟩
abbrev F.MILL_TASKt_STAT_L (t : Nat) : Fld := ⟨R.MILL_TASKt_STAT t, 16, 8⟩
abbrev F.MILL_TASKt_STAT_OVRCNT (t : Nat) : Fld := ⟨R.MILL_TASKt_STAT t, 24, 8⟩

/-- MILL_TASKt_LOSS, offset 0x118, reset 0x0. -/
abbrev R.MILL_TASKt_LOSS (t : Nat) : Nat := 0x40050118 + 0x20 * t
abbrev F.MILL_TASKt_LOSS_CHECK (t : Nat) : Fld := ⟨R.MILL_TASKt_LOSS t, 0, 6⟩
abbrev F.MILL_TASKt_LOSS_CAUSE (t : Nat) : Fld := ⟨R.MILL_TASKt_LOSS t, 8, 5⟩
abbrev F.MILL_TASKt_LOSS_FRAMES (t : Nat) : Fld := ⟨R.MILL_TASKt_LOSS t, 16, 16⟩

/-- MILL_TASKt_CTRL, offset 0x11C, reset 0x0. -/
abbrev R.MILL_TASKt_CTRL (t : Nat) : Nat := 0x4005011C + 0x20 * t
abbrev F.MILL_TASKt_CTRL_RESUME (t : Nat) : Fld := ⟨R.MILL_TASKt_CTRL t, 0, 1⟩
abbrev F.MILL_TASKt_CTRL_SWAP (t : Nat) : Fld := ⟨R.MILL_TASKt_CTRL t, 1, 1⟩
abbrev F.MILL_TASKt_CTRL_REVERT (t : Nat) : Fld := ⟨R.MILL_TASKt_CTRL t, 2, 1⟩

/-- MILL_CHKk, offset 0x200, reset 0x0. -/
abbrev R.MILL_CHKk (k : Nat) : Nat := 0x40050200 + 4 * k
abbrev F.MILL_CHKk_ADDR (k : Nat) : Fld := ⟨R.MILL_CHKk k, 0, 16⟩
abbrev F.MILL_CHKk_TASK (k : Nat) : Fld := ⟨R.MILL_CHKk k, 16, 3⟩
abbrev F.MILL_CHKk_EN (k : Nat) : Fld := ⟨R.MILL_CHKk k, 19, 1⟩
abbrev F.MILL_CHKk_AGE_MAX (k : Nat) : Fld := ⟨R.MILL_CHKk k, 20, 8⟩
abbrev F.MILL_CHKk_FRZ (k : Nat) : Fld := ⟨R.MILL_CHKk k, 28, 1⟩
abbrev F.MILL_CHKk_OPEN (k : Nat) : Fld := ⟨R.MILL_CHKk k, 29, 1⟩
abbrev F.MILL_CHKk_LATE (k : Nat) : Fld := ⟨R.MILL_CHKk k, 30, 1⟩

/-- MILL_STGOWNj, offset 0x300, reset 0x0. -/
abbrev R.MILL_STGOWNj (j : Nat) : Nat := 0x40050300 + 4 * j
abbrev F.MILL_STGOWNj_OWN (j : Nat) : Fld := ⟨R.MILL_STGOWNj j, 0, 32⟩

/-- MILL_OUTn, offset 0x400, reset 0x0. -/
abbrev R.MILL_OUTn (n : Nat) : Nat := 0x40050400 + 4 * n
abbrev F.MILL_OUTn_VALUE (n : Nat) : Fld := ⟨R.MILL_OUTn n, 0, 32⟩

/-! ### LOOM, block index 6 (spec/08) -/

/-- LOOM_CTRL, offset 0x0, reset 0x0. -/
abbrev R.LOOM_CTRL : Nat := 0x40060000
abbrev F.LOOM_CTRL_LOCK : Fld := ⟨R.LOOM_CTRL, 31, 1⟩

/-- LOOM_STAT, offset 0x4, reset 0x0. -/
abbrev R.LOOM_STAT : Nat := 0x40060004
abbrev F.LOOM_STAT_BLOCKED : Fld := ⟨R.LOOM_STAT, 0, 24⟩
abbrev F.LOOM_STAT_GEN : Fld := ⟨R.LOOM_STAT, 24, 1⟩
abbrev F.LOOM_STAT_OUT_EN : Fld := ⟨R.LOOM_STAT, 25, 1⟩
abbrev F.LOOM_STAT_ILK_ANY : Fld := ⟨R.LOOM_STAT, 26, 1⟩
abbrev F.LOOM_STAT_DLL_FAIL : Fld := ⟨R.LOOM_STAT, 27, 1⟩

/-- LOOM_UNBLOCK, offset 0x8, reset 0x0. -/
abbrev R.LOOM_UNBLOCK : Nat := 0x40060008
abbrev F.LOOM_UNBLOCK_REL : Fld := ⟨R.LOOM_UNBLOCK, 0, 24⟩

/-- LOOM_DLL, offset 0xC, reset 0x0. -/
abbrev R.LOOM_DLL : Nat := 0x4006000C
abbrev F.LOOM_DLL_LOCKED : Fld := ⟨R.LOOM_DLL, 0, 1⟩
abbrev F.LOOM_DLL_FAIL : Fld := ⟨R.LOOM_DLL, 1, 1⟩
abbrev F.LOOM_DLL_FAIL_OUT : Fld := ⟨R.LOOM_DLL, 8, 6⟩
abbrev F.LOOM_DLL_UPDATES : Fld := ⟨R.LOOM_DLL, 16, 16⟩

/-- LOOM_PERc, offset 0x40, reset 0x0. -/
abbrev R.LOOM_PERc (c : Nat) : Nat := 0x40060040 + 0x20 * c
abbrev F.LOOM_PERc_PER (c : Nat) : Fld := ⟨R.LOOM_PERc c, 0, 20⟩
abbrev F.LOOM_PERc_PRE (c : Nat) : Fld := ⟨R.LOOM_PERc c, 20, 4⟩

/-- LOOM_CARc, offset 0x44, reset 0x4. -/
abbrev R.LOOM_CARc (c : Nat) : Nat := 0x40060044 + 0x20 * c
abbrev F.LOOM_CARc_EN (c : Nat) : Fld := ⟨R.LOOM_CARc c, 0, 1⟩
abbrev F.LOOM_CARc_RELOAD (c : Nat) : Fld := ⟨R.LOOM_CARc c, 1, 2⟩
abbrev F.LOOM_CARc_SYNC (c : Nat) : Fld := ⟨R.LOOM_CARc c, 3, 1⟩
abbrev F.LOOM_CARc_HOLD (c : Nat) : Fld := ⟨R.LOOM_CARc c, 4, 1⟩

/-- LOOM_CPHc, offset 0x48, reset 0xC000. -/
abbrev R.LOOM_CPHc (c : Nat) : Nat := 0x40060048 + 0x20 * c
abbrev F.LOOM_CPHc_CPH (c : Nat) : Fld := ⟨R.LOOM_CPHc c, 0, 16⟩

/-- LOOM_PHOFFc, offset 0x4C, reset 0x0. -/
abbrev R.LOOM_PHOFFc (c : Nat) : Nat := 0x4006004C + 0x20 * c
abbrev F.LOOM_PHOFFc_PHOFF (c : Nat) : Fld := ⟨R.LOOM_PHOFFc c, 0, 25⟩

/-- LOOM_CSTATc, offset 0x50, reset 0x0. -/
abbrev R.LOOM_CSTATc (c : Nat) : Nat := 0x40060050 + 0x20 * c
abbrev F.LOOM_CSTATc_CNT (c : Nat) : Fld := ⟨R.LOOM_CSTATc c, 0, 20⟩
abbrev F.LOOM_CSTATc_STATE (c : Nat) : Fld := ⟨R.LOOM_CSTATc c, 20, 2⟩
abbrev F.LOOM_CSTATc_DIR (c : Nat) : Fld := ⟨R.LOOM_CSTATc c, 22, 1⟩

/-- LOOM_LEGl_CFG, offset 0x200, reset 0x200. -/
abbrev R.LOOM_LEGl_CFG (l : Nat) : Nat := 0x40060200 + 0x20 * l
abbrev F.LOOM_LEGl_CFG_EN (l : Nat) : Fld := ⟨R.LOOM_LEGl_CFG l, 0, 1⟩
abbrev F.LOOM_LEGl_CFG_CAR (l : Nat) : Fld := ⟨R.LOOM_LEGl_CFG l, 1, 3⟩
abbrev F.LOOM_LEGl_CFG_MODE (l : Nat) : Fld := ⟨R.LOOM_LEGl_CFG l, 4, 2⟩
abbrev F.LOOM_LEGl_CFG_POLH (l : Nat) : Fld := ⟨R.LOOM_LEGl_CFG l, 6, 1⟩
abbrev F.LOOM_LEGl_CFG_POLL (l : Nat) : Fld := ⟨R.LOOM_LEGl_CFG l, 7, 1⟩
abbrev F.LOOM_LEGl_CFG_POLICY (l : Nat) : Fld := ⟨R.LOOM_LEGl_CFG l, 8, 2⟩

/-- LOOM_LEGl_DTH, offset 0x204, reset 0x6400. -/
abbrev R.LOOM_LEGl_DTH (l : Nat) : Nat := 0x40060204 + 0x20 * l
abbrev F.LOOM_LEGl_DTH_DT (l : Nat) : Fld := ⟨R.LOOM_LEGl_DTH l, 0, 18⟩

/-- LOOM_LEGl_DTL, offset 0x208, reset 0x6400. -/
abbrev R.LOOM_LEGl_DTL (l : Nat) : Nat := 0x40060208 + 0x20 * l
abbrev F.LOOM_LEGl_DTL_DT (l : Nat) : Fld := ⟨R.LOOM_LEGl_DTL l, 0, 18⟩

/-- LOOM_LEGl_MINP, offset 0x20C, reset 0x100. -/
abbrev R.LOOM_LEGl_MINP (l : Nat) : Nat := 0x4006020C + 0x20 * l
abbrev F.LOOM_LEGl_MINP_MINP (l : Nat) : Fld := ⟨R.LOOM_LEGl_MINP l, 0, 17⟩

/-- LOOM_LEGl_CMPU, offset 0x210, reset 0x0. -/
abbrev R.LOOM_LEGl_CMPU (l : Nat) : Nat := 0x40060210 + 0x20 * l
abbrev F.LOOM_LEGl_CMPU_POS (l : Nat) : Fld := ⟨R.LOOM_LEGl_CMPU l, 0, 26⟩

/-- LOOM_LEGl_CMPD, offset 0x214, reset 0x0. -/
abbrev R.LOOM_LEGl_CMPD (l : Nat) : Nat := 0x40060214 + 0x20 * l
abbrev F.LOOM_LEGl_CMPD_POS (l : Nat) : Fld := ⟨R.LOOM_LEGl_CMPD l, 0, 26⟩

/-- LOOM_LEGl_STAT, offset 0x218, reset 0x0. -/
abbrev R.LOOM_LEGl_STAT (l : Nat) : Nat := 0x40060218 + 0x20 * l
abbrev F.LOOM_LEGl_STAT_BLOCKED (l : Nat) : Fld := ⟨R.LOOM_LEGl_STAT l, 0, 1⟩
abbrev F.LOOM_LEGl_STAT_CEIL (l : Nat) : Fld := ⟨R.LOOM_LEGl_STAT l, 1, 1⟩
abbrev F.LOOM_LEGl_STAT_FLT (l : Nat) : Fld := ⟨R.LOOM_LEGl_STAT l, 2, 1⟩
abbrev F.LOOM_LEGl_STAT_VTRIP (l : Nat) : Fld := ⟨R.LOOM_LEGl_STAT l, 3, 1⟩
abbrev F.LOOM_LEGl_STAT_INTERLOCK (l : Nat) : Fld := ⟨R.LOOM_LEGl_STAT l, 4, 1⟩
abbrev F.LOOM_LEGl_STAT_GRP (l : Nat) : Fld := ⟨R.LOOM_LEGl_STAT l, 5, 1⟩
abbrev F.LOOM_LEGl_STAT_TL (l : Nat) : Fld := ⟨R.LOOM_LEGl_STAT l, 6, 1⟩
abbrev F.LOOM_LEGl_STAT_MILL (l : Nat) : Fld := ⟨R.LOOM_LEGl_STAT l, 7, 1⟩
abbrev F.LOOM_LEGl_STAT_CLK (l : Nat) : Fld := ⟨R.LOOM_LEGl_STAT l, 8, 1⟩
abbrev F.LOOM_LEGl_STAT_SAFE (l : Nat) : Fld := ⟨R.LOOM_LEGl_STAT l, 9, 1⟩
abbrev F.LOOM_LEGl_STAT_DLL (l : Nat) : Fld := ⟨R.LOOM_LEGl_STAT l, 10, 1⟩
abbrev F.LOOM_LEGl_STAT_PENDING (l : Nat) : Fld := ⟨R.LOOM_LEGl_STAT l, 11, 1⟩
abbrev F.LOOM_LEGl_STAT_REL_REF (l : Nat) : Fld := ⟨R.LOOM_LEGl_STAT l, 12, 1⟩
abbrev F.LOOM_LEGl_STAT_CARRY_H (l : Nat) : Fld := ⟨R.LOOM_LEGl_STAT l, 13, 1⟩
abbrev F.LOOM_LEGl_STAT_CARRY_L (l : Nat) : Fld := ⟨R.LOOM_LEGl_STAT l, 14, 1⟩

/-- LOOM_LEGl_CNT, offset 0x21C, reset 0x0. -/
abbrev R.LOOM_LEGl_CNT (l : Nat) : Nat := 0x4006021C + 0x20 * l
abbrev F.LOOM_LEGl_CNT_INTERLOCK (l : Nat) : Fld := ⟨R.LOOM_LEGl_CNT l, 0, 16⟩
abbrev F.LOOM_LEGl_CNT_SHORT (l : Nat) : Fld := ⟨R.LOOM_LEGl_CNT l, 16, 16⟩

/-- LOOM_TLk_CFG, offset 0x600, reset 0x0. -/
abbrev R.LOOM_TLk_CFG (k : Nat) : Nat := 0x40060600 + 0x10 * k
abbrev F.LOOM_TLk_CFG_EN (k : Nat) : Fld := ⟨R.LOOM_TLk_CFG k, 0, 1⟩
abbrev F.LOOM_TLk_CFG_BLANKABLE (k : Nat) : Fld := ⟨R.LOOM_TLk_CFG k, 1, 1⟩
abbrev F.LOOM_TLk_CFG_POL (k : Nat) : Fld := ⟨R.LOOM_TLk_CFG k, 2, 1⟩
abbrev F.LOOM_TLk_CFG_FILT (k : Nat) : Fld := ⟨R.LOOM_TLk_CFG k, 8, 8⟩
abbrev F.LOOM_TLk_CFG_BLANK (k : Nat) : Fld := ⟨R.LOOM_TLk_CFG k, 16, 11⟩

/-- LOOM_TLk_MASK, offset 0x604, reset 0x0. -/
abbrev R.LOOM_TLk_MASK (k : Nat) : Nat := 0x40060604 + 0x10 * k
abbrev F.LOOM_TLk_MASK_LEGS (k : Nat) : Fld := ⟨R.LOOM_TLk_MASK k, 0, 24⟩

/-- LOOM_TLk_STAT, offset 0x608, reset 0x0. -/
abbrev R.LOOM_TLk_STAT (k : Nat) : Nat := 0x40060608 + 0x10 * k
abbrev F.LOOM_TLk_STAT_LIVE (k : Nat) : Fld := ⟨R.LOOM_TLk_STAT k, 0, 1⟩
abbrev F.LOOM_TLk_STAT_HIT (k : Nat) : Fld := ⟨R.LOOM_TLk_STAT k, 1, 1⟩
abbrev F.LOOM_TLk_STAT_BLANKED (k : Nat) : Fld := ⟨R.LOOM_TLk_STAT k, 2, 1⟩
abbrev F.LOOM_TLk_STAT_HITS (k : Nat) : Fld := ⟨R.LOOM_TLk_STAT k, 16, 16⟩

/-! ### GDP, block index 7 (spec/09) -/

/-- GDP_CTRL, offset 0x0, reset 0x0. -/
abbrev R.GDP_CTRL : Nat := 0x40070000
abbrev F.GDP_CTRL_LOCK : Fld := ⟨R.GDP_CTRL, 31, 1⟩

/-- GDP_STAT, offset 0x4, reset 0x0. -/
abbrev R.GDP_STAT : Nat := 0x40070004
abbrev F.GDP_STAT_FLT_ANY : Fld := ⟨R.GDP_STAT, 0, 1⟩
abbrev F.GDP_STAT_VTRIP0 : Fld := ⟨R.GDP_STAT, 1, 1⟩
abbrev F.GDP_STAT_VTRIP1 : Fld := ⟨R.GDP_STAT, 2, 1⟩
abbrev F.GDP_STAT_UVLO : Fld := ⟨R.GDP_STAT, 3, 1⟩
abbrev F.GDP_STAT_DRV_FAULT : Fld := ⟨R.GDP_STAT, 4, 1⟩
abbrev F.GDP_STAT_BRK0_ON : Fld := ⟨R.GDP_STAT, 5, 1⟩
abbrev F.GDP_STAT_BRK1_ON : Fld := ⟨R.GDP_STAT, 6, 1⟩
abbrev F.GDP_STAT_CLR_REF : Fld := ⟨R.GDP_STAT, 7, 1⟩
abbrev F.GDP_STAT_GRP : Fld := ⟨R.GDP_STAT, 8, 8⟩

/-- GDP_FLT_EN, offset 0x10, reset 0x0. -/
abbrev R.GDP_FLT_EN : Nat := 0x40070010
abbrev F.GDP_FLT_EN_LEG : Fld := ⟨R.GDP_FLT_EN, 0, 24⟩

/-- GDP_FLT_POL, offset 0x14, reset 0xFFFFFF. -/
abbrev R.GDP_FLT_POL : Nat := 0x40070014
abbrev F.GDP_FLT_POL_LEG : Fld := ⟨R.GDP_FLT_POL, 0, 24⟩

/-- GDP_FLT_GLITCH, offset 0x18, reset 0x1. -/
abbrev R.GDP_FLT_GLITCH : Nat := 0x40070018
abbrev F.GDP_FLT_GLITCH_GL : Fld := ⟨R.GDP_FLT_GLITCH, 0, 2⟩

/-- GDP_FLT_LATCH, offset 0x1C, reset 0x0. -/
abbrev R.GDP_FLT_LATCH : Nat := 0x4007001C
abbrev F.GDP_FLT_LATCH_LEG : Fld := ⟨R.GDP_FLT_LATCH, 0, 24⟩

/-- GDP_FLT_PIN, offset 0x20, reset 0x0. -/
abbrev R.GDP_FLT_PIN : Nat := 0x40070020
abbrev F.GDP_FLT_PIN_LEG : Fld := ⟨R.GDP_FLT_PIN, 0, 24⟩

/-- GDP_GRPMAPj, offset 0x30, reset 0x0. -/
abbrev R.GDP_GRPMAPj (j : Nat) : Nat := 0x40070030 + 4 * j
abbrev F.GDP_GRPMAPj_MAP (j : Nat) : Fld := ⟨R.GDP_GRPMAPj j, 0, 32⟩

/-- GDP_GRPg_CFG, offset 0x40, reset 0x5001. -/
abbrev R.GDP_GRPg_CFG (g : Nat) : Nat := 0x40070040 + 4 * g
abbrev F.GDP_GRPg_CFG_POLICY (g : Nat) : Fld := ⟨R.GDP_GRPg_CFG g, 0, 2⟩
abbrev F.GDP_GRPg_CFG_STAGGER (g : Nat) : Fld := ⟨R.GDP_GRPg_CFG g, 8, 8⟩

/-- GDP_GRP_STAT, offset 0x60, reset 0x0. -/
abbrev R.GDP_GRP_STAT : Nat := 0x40070060
abbrev F.GDP_GRP_STAT_TRIPPED : Fld := ⟨R.GDP_GRP_STAT, 0, 8⟩
abbrev F.GDP_GRP_STAT_CLR_REF : Fld := ⟨R.GDP_GRP_STAT, 8, 1⟩

/-- GDP_LINKn_CFG, offset 0x80, reset 0x0. -/
abbrev R.GDP_LINKn_CFG (n : Nat) : Nat := 0x40070080 + 0x20 * n
abbrev F.GDP_LINKn_CFG_EN (n : Nat) : Fld := ⟨R.GDP_LINKn_CFG n, 0, 1⟩
abbrev F.GDP_LINKn_CFG_WIN (n : Nat) : Fld := ⟨R.GDP_LINKn_CFG n, 8, 6⟩
abbrev F.GDP_LINKn_CFG_BRKMODE (n : Nat) : Fld := ⟨R.GDP_LINKn_CFG n, 16, 2⟩
abbrev F.GDP_LINKn_CFG_BRKPOL (n : Nat) : Fld := ⟨R.GDP_LINKn_CFG n, 18, 1⟩
abbrev F.GDP_LINKn_CFG_TEST_GO (n : Nat) : Fld := ⟨R.GDP_LINKn_CFG n, 19, 1⟩
abbrev F.GDP_LINKn_CFG_TESTLEN (n : Nat) : Fld := ⟨R.GDP_LINKn_CFG n, 24, 8⟩

/-- GDP_LINKn_MASK, offset 0x84, reset 0x0. -/
abbrev R.GDP_LINKn_MASK (n : Nat) : Nat := 0x40070084 + 0x20 * n
abbrev F.GDP_LINKn_MASK_LEGS (n : Nat) : Fld := ⟨R.GDP_LINKn_MASK n, 0, 24⟩

/-- GDP_LINKn_TMIN, offset 0x88, reset 0x640064. -/
abbrev R.GDP_LINKn_TMIN (n : Nat) : Nat := 0x40070088 + 0x20 * n
abbrev F.GDP_LINKn_TMIN_TON (n : Nat) : Fld := ⟨R.GDP_LINKn_TMIN n, 0, 16⟩
abbrev F.GDP_LINKn_TMIN_TOFF (n : Nat) : Fld := ⟨R.GDP_LINKn_TMIN n, 16, 16⟩

/-- GDP_LINKn_PON, offset 0x8C, reset 0x0. -/
abbrev R.GDP_LINKn_PON (n : Nat) : Nat := 0x4007008C + 0x20 * n
abbrev F.GDP_LINKn_PON_VAL (n : Nat) : Fld := ⟨R.GDP_LINKn_PON n, 0, 32⟩

/-- GDP_LINKn_TAU, offset 0x90, reset 0x0. -/
abbrev R.GDP_LINKn_TAU (n : Nat) : Nat := 0x40070090 + 0x20 * n
abbrev F.GDP_LINKn_TAU_TAU (n : Nat) : Fld := ⟨R.GDP_LINKn_TAU n, 0, 16⟩

/-- GDP_LINKn_EMAX, offset 0x94, reset 0x0. -/
abbrev R.GDP_LINKn_EMAX (n : Nat) : Nat := 0x40070094 + 0x20 * n
abbrev F.GDP_LINKn_EMAX_VAL (n : Nat) : Fld := ⟨R.GDP_LINKn_EMAX n, 0, 32⟩

/-- GDP_LINKn_THETA, offset 0x98, reset 0x0. -/
abbrev R.GDP_LINKn_THETA (n : Nat) : Nat := 0x40070098 + 0x20 * n
abbrev F.GDP_LINKn_THETA_THETA (n : Nat) : Fld := ⟨R.GDP_LINKn_THETA n, 0, 32⟩

/-- GDP_LINKn_STAT, offset 0x9C, reset 0x0. -/
abbrev R.GDP_LINKn_STAT (n : Nat) : Nat := 0x4007009C + 0x20 * n
abbrev F.GDP_LINKn_STAT_VTRIP (n : Nat) : Fld := ⟨R.GDP_LINKn_STAT n, 0, 1⟩
abbrev F.GDP_LINKn_STAT_BRK_ON (n : Nat) : Fld := ⟨R.GDP_LINKn_STAT n, 1, 1⟩
abbrev F.GDP_LINKn_STAT_LIMIT (n : Nat) : Fld := ⟨R.GDP_LINKn_STAT n, 2, 1⟩
abbrev F.GDP_LINKn_STAT_HARD (n : Nat) : Fld := ⟨R.GDP_LINKn_STAT n, 3, 1⟩
abbrev F.GDP_LINKn_STAT_CFG_ERR (n : Nat) : Fld := ⟨R.GDP_LINKn_STAT n, 4, 1⟩
abbrev F.GDP_LINKn_STAT_CLR_REF (n : Nat) : Fld := ⟨R.GDP_LINKn_STAT n, 5, 1⟩
abbrev F.GDP_LINKn_STAT_ONCNT (n : Nat) : Fld := ⟨R.GDP_LINKn_STAT n, 16, 16⟩

/-- GDP_GDn_CFG, offset 0x100, reset 0x0. -/
abbrev R.GDP_GDn_CFG (n : Nat) : Nat := 0x40070100 + 0x10 * n
abbrev F.GDP_GDn_CFG_EN (n : Nat) : Fld := ⟨R.GDP_GDn_CFG n, 0, 1⟩
abbrev F.GDP_GDn_CFG_SRC (n : Nat) : Fld := ⟨R.GDP_GDn_CFG n, 1, 2⟩
abbrev F.GDP_GDn_CFG_LEG (n : Nat) : Fld := ⟨R.GDP_GDn_CFG n, 8, 5⟩
abbrev F.GDP_GDn_CFG_ISRC (n : Nat) : Fld := ⟨R.GDP_GDn_CFG n, 16, 4⟩
abbrev F.GDP_GDn_CFG_ISNK (n : Nat) : Fld := ⟨R.GDP_GDn_CFG n, 20, 4⟩
abbrev F.GDP_GDn_CFG_GRPMASK (n : Nat) : Fld := ⟨R.GDP_GDn_CFG n, 24, 8⟩

/-- GDP_GDn_CTRL, offset 0x104, reset 0x0. -/
abbrev R.GDP_GDn_CTRL (n : Nat) : Nat := 0x40070104 + 0x10 * n
abbrev F.GDP_GDn_CTRL_ON (n : Nat) : Fld := ⟨R.GDP_GDn_CTRL n, 0, 1⟩

/-- GDP_GDn_MON, offset 0x108, reset 0xA01. -/
abbrev R.GDP_GDn_MON (n : Nat) : Nat := 0x40070108 + 0x10 * n
abbrev F.GDP_GDn_MON_EN (n : Nat) : Fld := ⟨R.GDP_GDn_MON n, 0, 1⟩
abbrev F.GDP_GDn_MON_MON_T (n : Nat) : Fld := ⟨R.GDP_GDn_MON n, 8, 8⟩

/-- GDP_GDn_STAT, offset 0x10C, reset 0x0. -/
abbrev R.GDP_GDn_STAT (n : Nat) : Nat := 0x4007010C + 0x10 * n
abbrev F.GDP_GDn_STAT_CMD (n : Nat) : Fld := ⟨R.GDP_GDn_STAT n, 0, 1⟩
abbrev F.GDP_GDn_STAT_OUT (n : Nat) : Fld := ⟨R.GDP_GDn_STAT n, 1, 1⟩
abbrev F.GDP_GDn_STAT_GATE (n : Nat) : Fld := ⟨R.GDP_GDn_STAT n, 2, 1⟩
abbrev F.GDP_GDn_STAT_HELD (n : Nat) : Fld := ⟨R.GDP_GDn_STAT n, 3, 1⟩
abbrev F.GDP_GDn_STAT_UVLO (n : Nat) : Fld := ⟨R.GDP_GDn_STAT n, 4, 1⟩
abbrev F.GDP_GDn_STAT_CPLOW (n : Nat) : Fld := ⟨R.GDP_GDn_STAT n, 5, 1⟩
abbrev F.GDP_GDn_STAT_MISMATCH (n : Nat) : Fld := ⟨R.GDP_GDn_STAT n, 6, 1⟩

/-- GDP_CP, offset 0x180, reset 0x0. -/
abbrev R.GDP_CP : Nat := 0x40070180
abbrev F.GDP_CP_EN : Fld := ⟨R.GDP_CP, 0, 1⟩
abbrev F.GDP_CP_OK : Fld := ⟨R.GDP_CP, 4, 4⟩

/-! ### CMP, block index 8 (spec/10) -/

/-- CMP_CTRL, offset 0x0, reset 0x180064. -/
abbrev R.CMP_CTRL : Nat := 0x40080000
abbrev F.CMP_CTRL_TICK : Fld := ⟨R.CMP_CTRL, 0, 16⟩
abbrev F.CMP_CTRL_RBTOL : Fld := ⟨R.CMP_CTRL, 16, 8⟩
abbrev F.CMP_CTRL_LOCK : Fld := ⟨R.CMP_CTRL, 31, 1⟩

/-- CMP_STAT, offset 0x4, reset 0x0. -/
abbrev R.CMP_STAT : Nat := 0x40080004
abbrev F.CMP_STAT_RB_FAULT : Fld := ⟨R.CMP_STAT, 0, 1⟩
abbrev F.CMP_STAT_UNRES_ANY : Fld := ⟨R.CMP_STAT, 1, 1⟩
abbrev F.CMP_STAT_SETTLE_ANY : Fld := ⟨R.CMP_STAT, 2, 1⟩

/-- CMP_IRQSTATj, offset 0x10, reset 0x0. -/
abbrev R.CMP_IRQSTATj (j : Nat) : Nat := 0x40080010 + 4 * j
abbrev F.CMP_IRQSTATj_WIN (j : Nat) : Fld := ⟨R.CMP_IRQSTATj j, 0, 32⟩

/-- CMP_WINw_CFG, offset 0x100, reset 0x0. -/
abbrev R.CMP_WINw_CFG (w : Nat) : Nat := 0x40080100 + 0x10 * w
abbrev F.CMP_WINw_CFG_MODE (w : Nat) : Fld := ⟨R.CMP_WINw_CFG w, 0, 2⟩
abbrev F.CMP_WINw_CFG_CEIL_DIR (w : Nat) : Fld := ⟨R.CMP_WINw_CFG w, 2, 1⟩
abbrev F.CMP_WINw_CFG_PUS (w : Nat) : Fld := ⟨R.CMP_WINw_CFG w, 4, 3⟩
abbrev F.CMP_WINw_CFG_HYS (w : Nat) : Fld := ⟨R.CMP_WINw_CFG w, 8, 4⟩
abbrev F.CMP_WINw_CFG_EV_EN (w : Nat) : Fld := ⟨R.CMP_WINw_CFG w, 16, 3⟩
abbrev F.CMP_WINw_CFG_EV_BOTH (w : Nat) : Fld := ⟨R.CMP_WINw_CFG w, 19, 1⟩
abbrev F.CMP_WINw_CFG_IRQ (w : Nat) : Fld := ⟨R.CMP_WINw_CFG w, 20, 1⟩
abbrev F.CMP_WINw_CFG_WAKE (w : Nat) : Fld := ⟨R.CMP_WINw_CFG w, 21, 1⟩
abbrev F.CMP_WINw_CFG_LO_TL (w : Nat) : Fld := ⟨R.CMP_WINw_CFG w, 22, 2⟩
abbrev F.CMP_WINw_CFG_LO_TLEN (w : Nat) : Fld := ⟨R.CMP_WINw_CFG w, 24, 1⟩
abbrev F.CMP_WINw_CFG_HI_TL (w : Nat) : Fld := ⟨R.CMP_WINw_CFG w, 25, 2⟩
abbrev F.CMP_WINw_CFG_HI_TLEN (w : Nat) : Fld := ⟨R.CMP_WINw_CFG w, 27, 1⟩

/-- CMP_WINw_TH, offset 0x104, reset 0x0. -/
abbrev R.CMP_WINw_TH (w : Nat) : Nat := 0x40080104 + 0x10 * w
abbrev F.CMP_WINw_TH_LO (w : Nat) : Fld := ⟨R.CMP_WINw_TH w, 0, 10⟩
abbrev F.CMP_WINw_TH_HI (w : Nat) : Fld := ⟨R.CMP_WINw_TH w, 10, 10⟩
abbrev F.CMP_WINw_TH_CEIL (w : Nat) : Fld := ⟨R.CMP_WINw_TH w, 20, 10⟩

/-- CMP_WINw_MASK, offset 0x108, reset 0x0. -/
abbrev R.CMP_WINw_MASK (w : Nat) : Nat := 0x40080108 + 0x10 * w
abbrev F.CMP_WINw_MASK_LEGS (w : Nat) : Fld := ⟨R.CMP_WINw_MASK w, 0, 24⟩

/-- CMP_WINw_STAT, offset 0x10C, reset 0x0. -/
abbrev R.CMP_WINw_STAT (w : Nat) : Nat := 0x4008010C + 0x10 * w
abbrev F.CMP_WINw_STAT_LO (w : Nat) : Fld := ⟨R.CMP_WINw_STAT w, 0, 1⟩
abbrev F.CMP_WINw_STAT_HI (w : Nat) : Fld := ⟨R.CMP_WINw_STAT w, 1, 1⟩
abbrev F.CMP_WINw_STAT_CEIL (w : Nat) : Fld := ⟨R.CMP_WINw_STAT w, 2, 1⟩
abbrev F.CMP_WINw_STAT_SETTLING (w : Nat) : Fld := ⟨R.CMP_WINw_STAT w, 3, 1⟩
abbrev F.CMP_WINw_STAT_UNRESOLVED (w : Nat) : Fld := ⟨R.CMP_WINw_STAT w, 4, 3⟩
abbrev F.CMP_WINw_STAT_FORCED (w : Nat) : Fld := ⟨R.CMP_WINw_STAT w, 7, 1⟩
abbrev F.CMP_WINw_STAT_RB_ERR (w : Nat) : Fld := ⟨R.CMP_WINw_STAT w, 8, 3⟩

/-- CMP_WINw_RB, offset 0x400, reset 0x0. -/
abbrev R.CMP_WINw_RB (w : Nat) : Nat := 0x40080400 + 4 * w
abbrev F.CMP_WINw_RB_DLO (w : Nat) : Fld := ⟨R.CMP_WINw_RB w, 0, 8⟩
abbrev F.CMP_WINw_RB_DHI (w : Nat) : Fld := ⟨R.CMP_WINw_RB w, 8, 8⟩
abbrev F.CMP_WINw_RB_DCEIL (w : Nat) : Fld := ⟨R.CMP_WINw_RB w, 16, 8⟩
abbrev F.CMP_WINw_RB_ROUNDS (w : Nat) : Fld := ⟨R.CMP_WINw_RB w, 24, 8⟩

/-- CMP_WAKEn, offset 0x500, reset 0x0. -/
abbrev R.CMP_WAKEn (n : Nat) : Nat := 0x40080500 + 4 * n
abbrev F.CMP_WAKEn_EN (n : Nat) : Fld := ⟨R.CMP_WAKEn n, 0, 1⟩
abbrev F.CMP_WAKEn_POL (n : Nat) : Fld := ⟨R.CMP_WAKEn n, 1, 1⟩
abbrev F.CMP_WAKEn_TH (n : Nat) : Fld := ⟨R.CMP_WAKEn n, 2, 4⟩
abbrev F.CMP_WAKEn_SPER (n : Nat) : Fld := ⟨R.CMP_WAKEn n, 6, 2⟩
abbrev F.CMP_WAKEn_DEB (n : Nat) : Fld := ⟨R.CMP_WAKEn n, 8, 2⟩

/-- CMP_WAKE_STAT, offset 0x508, reset 0x0. -/
abbrev R.CMP_WAKE_STAT : Nat := 0x40080508
abbrev F.CMP_WAKE_STAT_LIVE0 : Fld := ⟨R.CMP_WAKE_STAT, 0, 1⟩
abbrev F.CMP_WAKE_STAT_LIVE1 : Fld := ⟨R.CMP_WAKE_STAT, 1, 1⟩
abbrev F.CMP_WAKE_STAT_CAUSE0 : Fld := ⟨R.CMP_WAKE_STAT, 2, 1⟩
abbrev F.CMP_WAKE_STAT_CAUSE1 : Fld := ⟨R.CMP_WAKE_STAT, 3, 1⟩

/-! ### GRN, block index 9 (spec/11) -/

/-- GRN_CTRL, offset 0x0, reset 0x0. -/
abbrev R.GRN_CTRL : Nat := 0x40090000
abbrev F.GRN_CTRL_AC_EN : Fld := ⟨R.GRN_CTRL, 0, 4⟩
abbrev F.GRN_CTRL_DC_EN : Fld := ⟨R.GRN_CTRL, 4, 4⟩
abbrev F.GRN_CTRL_LOCK : Fld := ⟨R.GRN_CTRL, 31, 1⟩

/-- GRN_STAT, offset 0x4, reset 0x0. -/
abbrev R.GRN_STAT : Nat := 0x40090004
abbrev F.GRN_STAT_OVR : Fld := ⟨R.GRN_STAT, 0, 1⟩
abbrev F.GRN_STAT_OVR_STATE : Fld := ⟨R.GRN_STAT, 1, 1⟩
abbrev F.GRN_STAT_SSC_REF : Fld := ⟨R.GRN_STAT, 2, 1⟩
abbrev F.GRN_STAT_CLKSTOP : Fld := ⟨R.GRN_STAT, 3, 1⟩
abbrev F.GRN_STAT_UNCLEAN : Fld := ⟨R.GRN_STAT, 4, 1⟩
abbrev F.GRN_STAT_RPL : Fld := ⟨R.GRN_STAT, 5, 1⟩

/-- GRN_JRN, offset 0x10, reset 0xA. -/
abbrev R.GRN_JRN : Nat := 0x40090010
abbrev F.GRN_JRN_JPER : Fld := ⟨R.GRN_JRN, 0, 12⟩
abbrev F.GRN_JRN_COMMIT : Fld := ⟨R.GRN_JRN, 16, 1⟩

/-- GRN_JSTAT, offset 0x14, reset 0x0. -/
abbrev R.GRN_JSTAT : Nat := 0x40090014
abbrev F.GRN_JSTAT_BUSY : Fld := ⟨R.GRN_JSTAT, 0, 1⟩
abbrev F.GRN_JSTAT_FAIL : Fld := ⟨R.GRN_JSTAT, 1, 1⟩
abbrev F.GRN_JSTAT_QUEUED : Fld := ⟨R.GRN_JSTAT, 2, 1⟩
abbrev F.GRN_JSTAT_SLOT : Fld := ⟨R.GRN_JSTAT, 8, 5⟩
abbrev F.GRN_JSTAT_FAILS : Fld := ⟨R.GRN_JSTAT, 16, 16⟩

/-- GRN_JSEQ, offset 0x18, reset 0x0. -/
abbrev R.GRN_JSEQ : Nat := 0x40090018
abbrev F.GRN_JSEQ_VALUE : Fld := ⟨R.GRN_JSEQ, 0, 32⟩

/-- GRN_UNC_T, offset 0x1C, reset 0x0. -/
abbrev R.GRN_UNC_T : Nat := 0x4009001C
abbrev F.GRN_UNC_T_VALUE : Fld := ⟨R.GRN_UNC_T, 0, 32⟩

/-- GRN_SNAP_CTRL, offset 0x20, reset 0x0. -/
abbrev R.GRN_SNAP_CTRL : Nat := 0x40090020
abbrev F.GRN_SNAP_CTRL_GO : Fld := ⟨R.GRN_SNAP_CTRL, 0, 1⟩
abbrev F.GRN_SNAP_CTRL_REF : Fld := ⟨R.GRN_SNAP_CTRL, 1, 1⟩
abbrev F.GRN_SNAP_CTRL_DONE : Fld := ⟨R.GRN_SNAP_CTRL, 2, 1⟩

/-- GRN_SNAP_STAMP_LO, offset 0x24, reset 0x0. -/
abbrev R.GRN_SNAP_STAMP_LO : Nat := 0x40090024
abbrev F.GRN_SNAP_STAMP_LO_COUNT : Fld := ⟨R.GRN_SNAP_STAMP_LO, 0, 32⟩

/-- GRN_SNAP_STAMP_HI, offset 0x28, reset 0x0. -/
abbrev R.GRN_SNAP_STAMP_HI : Nat := 0x40090028
abbrev F.GRN_SNAP_STAMP_HI_COUNT : Fld := ⟨R.GRN_SNAP_STAMP_HI, 0, 32⟩

/-- GRN_SNAP_CNT, offset 0x2C, reset 0x0. -/
abbrev R.GRN_SNAP_CNT : Nat := 0x4009002C
abbrev F.GRN_SNAP_CNT_VALUE : Fld := ⟨R.GRN_SNAP_CNT, 0, 32⟩

/-- GRN_UNC_En, offset 0x40, reset 0x0. -/
abbrev R.GRN_UNC_En (n : Nat) : Nat := 0x40090040 + 4 * n
abbrev F.GRN_UNC_En_VALUE (n : Nat) : Fld := ⟨R.GRN_UNC_En n, 0, 32⟩

/-- GRN_GAPn, offset 0x60, reset 0x0. -/
abbrev R.GRN_GAPn (n : Nat) : Nat := 0x40090060 + 4 * n
abbrev F.GRN_GAPn_VALUE (n : Nat) : Fld := ⟨R.GRN_GAPn n, 0, 32⟩

/-- GRN_EPOk_CFG, offset 0x80, reset 0x0. -/
abbrev R.GRN_EPOk_CFG (k : Nat) : Nat := 0x40090080 + 0x10 * k
abbrev F.GRN_EPOk_CFG_EN (k : Nat) : Fld := ⟨R.GRN_EPOk_CFG k, 0, 1⟩
abbrev F.GRN_EPOk_CFG_METER (k : Nat) : Fld := ⟨R.GRN_EPOk_CFG k, 1, 3⟩
abbrev F.GRN_EPOk_CFG_QTY (k : Nat) : Fld := ⟨R.GRN_EPOk_CFG k, 4, 4⟩
abbrev F.GRN_EPOk_CFG_PHASE (k : Nat) : Fld := ⟨R.GRN_EPOk_CFG k, 8, 2⟩
abbrev F.GRN_EPOk_CFG_POL (k : Nat) : Fld := ⟨R.GRN_EPOk_CFG k, 10, 1⟩
abbrev F.GRN_EPOk_CFG_PW (k : Nat) : Fld := ⟨R.GRN_EPOk_CFG k, 16, 7⟩

/-- GRN_EPOk_CONST, offset 0x84, reset 0x1. -/
abbrev R.GRN_EPOk_CONST (k : Nat) : Nat := 0x40090084 + 0x10 * k
abbrev F.GRN_EPOk_CONST_C (k : Nat) : Fld := ⟨R.GRN_EPOk_CONST k, 0, 17⟩

/-- GRN_EPOk_STAT, offset 0x88, reset 0x0. -/
abbrev R.GRN_EPOk_STAT (k : Nat) : Nat := 0x40090088 + 0x10 * k
abbrev F.GRN_EPOk_STAT_PENDING (k : Nat) : Fld := ⟨R.GRN_EPOk_STAT k, 0, 16⟩
abbrev F.GRN_EPOk_STAT_LOST (k : Nat) : Fld := ⟨R.GRN_EPOk_STAT k, 16, 14⟩
abbrev F.GRN_EPOk_STAT_OVF (k : Nat) : Fld := ⟨R.GRN_EPOk_STAT k, 30, 1⟩
abbrev F.GRN_EPOk_STAT_ACTIVE (k : Nat) : Fld := ⟨R.GRN_EPOk_STAT k, 31, 1⟩

/-- GRN_ACm_CFG, offset 0x100, reset 0x10. -/
abbrev R.GRN_ACm_CFG (m : Nat) : Nat := 0x40090100 + 0x80 * m
abbrev F.GRN_ACm_CFG_FNOM (m : Nat) : Fld := ⟨R.GRN_ACm_CFG m, 0, 1⟩
abbrev F.GRN_ACm_CFG_DIR (m : Nat) : Fld := ⟨R.GRN_ACm_CFG m, 1, 1⟩
abbrev F.GRN_ACm_CFG_ZXSRC (m : Nat) : Fld := ⟨R.GRN_ACm_CFG m, 2, 2⟩
abbrev F.GRN_ACm_CFG_DCB (m : Nat) : Fld := ⟨R.GRN_ACm_CFG m, 4, 1⟩
abbrev F.GRN_ACm_CFG_INTG (m : Nat) : Fld := ⟨R.GRN_ACm_CFG m, 5, 3⟩

/-- GRN_ACm_STRV, offset 0x104, reset 0x0. -/
abbrev R.GRN_ACm_STRV (m : Nat) : Nat := 0x40090104 + 0x80 * m
abbrev F.GRN_ACm_STRV_S0 (m : Nat) : Fld := ⟨R.GRN_ACm_STRV m, 0, 6⟩
abbrev F.GRN_ACm_STRV_S1 (m : Nat) : Fld := ⟨R.GRN_ACm_STRV m, 8, 6⟩
abbrev F.GRN_ACm_STRV_S2 (m : Nat) : Fld := ⟨R.GRN_ACm_STRV m, 16, 6⟩

/-- GRN_ACm_STRI, offset 0x108, reset 0x0. -/
abbrev R.GRN_ACm_STRI (m : Nat) : Nat := 0x40090108 + 0x80 * m
abbrev F.GRN_ACm_STRI_S0 (m : Nat) : Fld := ⟨R.GRN_ACm_STRI m, 0, 6⟩
abbrev F.GRN_ACm_STRI_S1 (m : Nat) : Fld := ⟨R.GRN_ACm_STRI m, 8, 6⟩
abbrev F.GRN_ACm_STRI_S2 (m : Nat) : Fld := ⟨R.GRN_ACm_STRI m, 16, 6⟩

/-- GRN_ACm_ZX, offset 0x10C, reset 0x320400. -/
abbrev R.GRN_ACm_ZX (m : Nat) : Nat := 0x4009010C + 0x80 * m
abbrev F.GRN_ACm_ZX_ZXHYS (m : Nat) : Fld := ⟨R.GRN_ACm_ZX m, 0, 16⟩
abbrev F.GRN_ACm_ZX_ZXTO (m : Nat) : Fld := ⟨R.GRN_ACm_ZX m, 16, 10⟩

/-- GRN_ACm_NL, offset 0x110, reset 0x0. -/
abbrev R.GRN_ACm_NL (m : Nat) : Nat := 0x40090110 + 0x80 * m
abbrev F.GRN_ACm_NL_NL_I (m : Nat) : Fld := ⟨R.GRN_ACm_NL m, 0, 16⟩

/-- GRN_ACm_PHCA, offset 0x114, reset 0x0. -/
abbrev R.GRN_ACm_PHCA (m : Nat) : Nat := 0x40090114 + 0x80 * m
abbrev F.GRN_ACm_PHCA_D0 (m : Nat) : Fld := ⟨R.GRN_ACm_PHCA m, 0, 16⟩
abbrev F.GRN_ACm_PHCA_D1 (m : Nat) : Fld := ⟨R.GRN_ACm_PHCA m, 16, 16⟩

/-- GRN_ACm_PHCC, offset 0x118, reset 0x0. -/
abbrev R.GRN_ACm_PHCC (m : Nat) : Nat := 0x40090118 + 0x80 * m
abbrev F.GRN_ACm_PHCC_D0 (m : Nat) : Fld := ⟨R.GRN_ACm_PHCC m, 0, 16⟩
abbrev F.GRN_ACm_PHCC_D1 (m : Nat) : Fld := ⟨R.GRN_ACm_PHCC m, 16, 16⟩

/-- GRN_ACm_STAT, offset 0x11C, reset 0x0. -/
abbrev R.GRN_ACm_STAT (m : Nat) : Nat := 0x4009011C + 0x80 * m
abbrev F.GRN_ACm_STAT_NOLOAD (m : Nat) : Fld := ⟨R.GRN_ACm_STAT m, 0, 3⟩
abbrev F.GRN_ACm_STAT_NOZX (m : Nat) : Fld := ⟨R.GRN_ACm_STAT m, 3, 1⟩
abbrev F.GRN_ACm_STAT_FUND (m : Nat) : Fld := ⟨R.GRN_ACm_STAT m, 4, 1⟩
abbrev F.GRN_ACm_STAT_GAP (m : Nat) : Fld := ⟨R.GRN_ACm_STAT m, 5, 1⟩
abbrev F.GRN_ACm_STAT_CLOSES (m : Nat) : Fld := ⟨R.GRN_ACm_STAT m, 8, 24⟩

/-- GRN_ACm_KVp, offset 0x120, reset 0x0. -/
abbrev R.GRN_ACm_KVp (m : Nat) (p : Nat) : Nat := 0x40090120 + 0x80 * m + 4 * p
abbrev F.GRN_ACm_KVp_VAL (m : Nat) (p : Nat) : Fld := ⟨R.GRN_ACm_KVp m p, 0, 32⟩

/-- GRN_ACm_KIp, offset 0x12C, reset 0x0. -/
abbrev R.GRN_ACm_KIp (m : Nat) (p : Nat) : Nat := 0x4009012C + 0x80 * m + 4 * p
abbrev F.GRN_ACm_KIp_VAL (m : Nat) (p : Nat) : Fld := ⟨R.GRN_ACm_KIp m p, 0, 32⟩

/-- GRN_ACm_KEp, offset 0x138, reset 0x0. -/
abbrev R.GRN_ACm_KEp (m : Nat) (p : Nat) : Nat := 0x40090138 + 0x80 * m + 4 * p
abbrev F.GRN_ACm_KEp_VAL (m : Nat) (p : Nat) : Fld := ⟨R.GRN_ACm_KEp m p, 0, 32⟩

/-- GRN_ACm_LIVEn, offset 0x144, reset 0x0. -/
abbrev R.GRN_ACm_LIVEn (m : Nat) (n : Nat) : Nat := 0x40090144 + 0x80 * m + 4 * n
abbrev F.GRN_ACm_LIVEn_WORD (m : Nat) (n : Nat) : Fld := ⟨R.GRN_ACm_LIVEn m n, 0, 32⟩

/-- GRN_DCm_CFG, offset 0x300, reset 0x0. -/
abbrev R.GRN_DCm_CFG (m : Nat) : Nat := 0x40090300 + 0x20 * m
abbrev F.GRN_DCm_CFG_DIR (m : Nat) : Fld := ⟨R.GRN_DCm_CFG m, 1, 1⟩

/-- GRN_DCm_STR, offset 0x304, reset 0x0. -/
abbrev R.GRN_DCm_STR (m : Nat) : Nat := 0x40090304 + 0x20 * m
abbrev F.GRN_DCm_STR_S0 (m : Nat) : Fld := ⟨R.GRN_DCm_STR m, 0, 6⟩
abbrev F.GRN_DCm_STR_S1 (m : Nat) : Fld := ⟨R.GRN_DCm_STR m, 8, 6⟩
abbrev F.GRN_DCm_STR_S2 (m : Nat) : Fld := ⟨R.GRN_DCm_STR m, 16, 6⟩

/-- GRN_DCm_NL, offset 0x308, reset 0x0. -/
abbrev R.GRN_DCm_NL (m : Nat) : Nat := 0x40090308 + 0x20 * m
abbrev F.GRN_DCm_NL_NL_I (m : Nat) : Fld := ⟨R.GRN_DCm_NL m, 0, 16⟩

/-- GRN_DCm_KE, offset 0x30C, reset 0x0. -/
abbrev R.GRN_DCm_KE (m : Nat) : Nat := 0x4009030C + 0x20 * m
abbrev F.GRN_DCm_KE_VAL (m : Nat) : Fld := ⟨R.GRN_DCm_KE m, 0, 32⟩

/-- GRN_DCm_KQ, offset 0x310, reset 0x0. -/
abbrev R.GRN_DCm_KQ (m : Nat) : Nat := 0x40090310 + 0x20 * m
abbrev F.GRN_DCm_KQ_VAL (m : Nat) : Fld := ⟨R.GRN_DCm_KQ m, 0, 32⟩

/-- GRN_DCm_STAT, offset 0x314, reset 0x0. -/
abbrev R.GRN_DCm_STAT (m : Nat) : Nat := 0x40090314 + 0x20 * m
abbrev F.GRN_DCm_STAT_NOLOAD (m : Nat) : Fld := ⟨R.GRN_DCm_STAT m, 0, 3⟩
abbrev F.GRN_DCm_STAT_NOZX (m : Nat) : Fld := ⟨R.GRN_DCm_STAT m, 3, 1⟩
abbrev F.GRN_DCm_STAT_FUND (m : Nat) : Fld := ⟨R.GRN_DCm_STAT m, 4, 1⟩
abbrev F.GRN_DCm_STAT_GAP (m : Nat) : Fld := ⟨R.GRN_DCm_STAT m, 5, 1⟩
abbrev F.GRN_DCm_STAT_CLOSES (m : Nat) : Fld := ⟨R.GRN_DCm_STAT m, 8, 24⟩

/-- GRN_DCm_PMAX, offset 0x318, reset 0x0. -/
abbrev R.GRN_DCm_PMAX (m : Nat) : Nat := 0x40090318 + 0x20 * m
abbrev F.GRN_DCm_PMAX_WORD (m : Nat) : Fld := ⟨R.GRN_DCm_PMAX m, 0, 32⟩

/-- GRN_RPLn_LO, offset 0x600, reset 0x0. -/
abbrev R.GRN_RPLn_LO (n : Nat) : Nat := 0x40090600 + 8 * n
abbrev F.GRN_RPLn_LO_ACC (n : Nat) : Fld := ⟨R.GRN_RPLn_LO n, 0, 32⟩

/-- GRN_RPLn_HI, offset 0x604, reset 0x0. -/
abbrev R.GRN_RPLn_HI (n : Nat) : Nat := 0x40090604 + 8 * n
abbrev F.GRN_RPLn_HI_ACC (n : Nat) : Fld := ⟨R.GRN_RPLn_HI n, 0, 32⟩

/-- GRN_WCk_CFG, offset 0x700, reset 0x0. -/
abbrev R.GRN_WCk_CFG (k : Nat) : Nat := 0x40090700 + 0x10 * k
abbrev F.GRN_WCk_CFG_EN (k : Nat) : Fld := ⟨R.GRN_WCk_CFG k, 0, 1⟩
abbrev F.GRN_WCk_CFG_METER (k : Nat) : Fld := ⟨R.GRN_WCk_CFG k, 1, 3⟩
abbrev F.GRN_WCk_CFG_QTY (k : Nat) : Fld := ⟨R.GRN_WCk_CFG k, 4, 4⟩
abbrev F.GRN_WCk_CFG_PHASE (k : Nat) : Fld := ⟨R.GRN_WCk_CFG k, 8, 2⟩
abbrev F.GRN_WCk_CFG_POL (k : Nat) : Fld := ⟨R.GRN_WCk_CFG k, 10, 1⟩
abbrev F.GRN_WCk_CFG_PW (k : Nat) : Fld := ⟨R.GRN_WCk_CFG k, 16, 7⟩

/-- GRN_WCk_CNT, offset 0x704, reset 0x0. -/
abbrev R.GRN_WCk_CNT (k : Nat) : Nat := 0x40090704 + 0x10 * k
abbrev F.GRN_WCk_CNT_VAL (k : Nat) : Fld := ⟨R.GRN_WCk_CNT k, 0, 32⟩

/-- GRN_WCk_WRAP, offset 0x708, reset 0x0. -/
abbrev R.GRN_WCk_WRAP (k : Nat) : Nat := 0x40090708 + 0x10 * k
abbrev F.GRN_WCk_WRAP_VAL (k : Nat) : Fld := ⟨R.GRN_WCk_WRAP k, 0, 32⟩

/-- GRN_ACm_p_q_LO, offset 0x1000, reset 0x0. -/
abbrev R.GRN_ACm_p_q_LO (m : Nat) (p : Nat) (q : Nat) : Nat := 0x40091000 + 0x200 * m + 0x80 * p + 8 * q
abbrev F.GRN_ACm_p_q_LO_TOTAL (m : Nat) (p : Nat) (q : Nat) : Fld := ⟨R.GRN_ACm_p_q_LO m p q, 0, 32⟩

/-- GRN_ACm_p_q_HI, offset 0x1004, reset 0x0. -/
abbrev R.GRN_ACm_p_q_HI (m : Nat) (p : Nat) (q : Nat) : Nat := 0x40091004 + 0x200 * m + 0x80 * p + 8 * q
abbrev F.GRN_ACm_p_q_HI_TOTAL (m : Nat) (p : Nat) (q : Nat) : Fld := ⟨R.GRN_ACm_p_q_HI m p q, 0, 32⟩

/-- GRN_DCm_q_LO, offset 0x1800, reset 0x0. -/
abbrev R.GRN_DCm_q_LO (m : Nat) (q : Nat) : Nat := 0x40091800 + 0x20 * m + 8 * q
abbrev F.GRN_DCm_q_LO_TOTAL (m : Nat) (q : Nat) : Fld := ⟨R.GRN_DCm_q_LO m q, 0, 32⟩

/-- GRN_DCm_q_HI, offset 0x1804, reset 0x0. -/
abbrev R.GRN_DCm_q_HI (m : Nat) (q : Nat) : Nat := 0x40091804 + 0x20 * m + 8 * q
abbrev F.GRN_DCm_q_HI_TOTAL (m : Nat) (q : Nat) : Fld := ⟨R.GRN_DCm_q_HI m q, 0, 32⟩

/-- GRN_S_ACm_p_q_LO, offset 0x2000, reset 0x0. -/
abbrev R.GRN_S_ACm_p_q_LO (m : Nat) (p : Nat) (q : Nat) : Nat := 0x40092000 + 0x200 * m + 0x80 * p + 8 * q
abbrev F.GRN_S_ACm_p_q_LO_TOTAL (m : Nat) (p : Nat) (q : Nat) : Fld := ⟨R.GRN_S_ACm_p_q_LO m p q, 0, 32⟩

/-- GRN_S_ACm_p_q_HI, offset 0x2004, reset 0x0. -/
abbrev R.GRN_S_ACm_p_q_HI (m : Nat) (p : Nat) (q : Nat) : Nat := 0x40092004 + 0x200 * m + 0x80 * p + 8 * q
abbrev F.GRN_S_ACm_p_q_HI_TOTAL (m : Nat) (p : Nat) (q : Nat) : Fld := ⟨R.GRN_S_ACm_p_q_HI m p q, 0, 32⟩

/-- GRN_S_DCm_q_LO, offset 0x2800, reset 0x0. -/
abbrev R.GRN_S_DCm_q_LO (m : Nat) (q : Nat) : Nat := 0x40092800 + 0x20 * m + 8 * q
abbrev F.GRN_S_DCm_q_LO_TOTAL (m : Nat) (q : Nat) : Fld := ⟨R.GRN_S_DCm_q_LO m q, 0, 32⟩

/-- GRN_S_DCm_q_HI, offset 0x2804, reset 0x0. -/
abbrev R.GRN_S_DCm_q_HI (m : Nat) (q : Nat) : Nat := 0x40092804 + 0x20 * m + 8 * q
abbrev F.GRN_S_DCm_q_HI_TOTAL (m : Nat) (q : Nat) : Fld := ⟨R.GRN_S_DCm_q_HI m q, 0, 32⟩

/-- GRN_S_WCk_CNT, offset 0x2900, reset 0x0. -/
abbrev R.GRN_S_WCk_CNT (k : Nat) : Nat := 0x40092900 + 8 * k
abbrev F.GRN_S_WCk_CNT_TOTAL (k : Nat) : Fld := ⟨R.GRN_S_WCk_CNT k, 0, 32⟩

/-- GRN_S_WCk_WRAP, offset 0x2904, reset 0x0. -/
abbrev R.GRN_S_WCk_WRAP (k : Nat) : Nat := 0x40092904 + 8 * k
abbrev F.GRN_S_WCk_WRAP_TOTAL (k : Nat) : Fld := ⟨R.GRN_S_WCk_WRAP k, 0, 32⟩

/-! ### SHF, block index 10 (spec/12) -/

/-- SHF_CTRL, offset 0x0, reset 0x0. -/
abbrev R.SHF_CTRL : Nat := 0x400A0000
abbrev F.SHF_CTRL_EN : Fld := ⟨R.SHF_CTRL, 0, 2⟩
abbrev F.SHF_CTRL_EMU_EN : Fld := ⟨R.SHF_CTRL, 2, 1⟩
abbrev F.SHF_CTRL_LOCK : Fld := ⟨R.SHF_CTRL, 31, 1⟩

/-- SHF_ENCn_CFG, offset 0x100, reset 0x0. -/
abbrev R.SHF_ENCn_CFG (n : Nat) : Nat := 0x400A0100 + 0x40 * n
abbrev F.SHF_ENCn_CFG_MODE (n : Nat) : Fld := ⟨R.SHF_ENCn_CFG n, 0, 2⟩
abbrev F.SHF_ENCn_CFG_CAR (n : Nat) : Fld := ⟨R.SHF_ENCn_CFG n, 2, 3⟩
abbrev F.SHF_ENCn_CFG_DIR (n : Nat) : Fld := ⟨R.SHF_ENCn_CFG n, 5, 1⟩
abbrev F.SHF_ENCn_CFG_IDXGATE (n : Nat) : Fld := ⟨R.SHF_ENCn_CFG n, 6, 1⟩
abbrev F.SHF_ENCn_CFG_POLICY (n : Nat) : Fld := ⟨R.SHF_ENCn_CFG n, 8, 2⟩
abbrev F.SHF_ENCn_CFG_FILT (n : Nat) : Fld := ⟨R.SHF_ENCn_CFG n, 16, 8⟩
abbrev F.SHF_ENCn_CFG_ILLN (n : Nat) : Fld := ⟨R.SHF_ENCn_CFG n, 24, 8⟩

/-- SHF_ENCn_CPR, offset 0x104, reset 0x1000. -/
abbrev R.SHF_ENCn_CPR (n : Nat) : Nat := 0x400A0104 + 0x40 * n
abbrev F.SHF_ENCn_CPR_VAL (n : Nat) : Fld := ⟨R.SHF_ENCn_CPR n, 0, 24⟩
abbrev F.SHF_ENCn_CPR_TOL (n : Nat) : Fld := ⟨R.SHF_ENCn_CPR n, 24, 8⟩

/-- SHF_ENCn_IDX, offset 0x108, reset 0x0. -/
abbrev R.SHF_ENCn_IDX (n : Nat) : Nat := 0x400A0108 + 0x40 * n
abbrev F.SHF_ENCn_IDX_VAL (n : Nat) : Fld := ⟨R.SHF_ENCn_IDX n, 0, 24⟩
abbrev F.SHF_ENCn_IDX_TOL (n : Nat) : Fld := ⟨R.SHF_ENCn_IDX n, 24, 8⟩

/-- SHF_ENCn_SPD, offset 0x10C, reset 0x64. -/
abbrev R.SHF_ENCn_SPD (n : Nat) : Nat := 0x400A010C + 0x40 * n
abbrev F.SHF_ENCn_SPD_STILL (n : Nat) : Fld := ⟨R.SHF_ENCn_SPD n, 0, 16⟩

/-- SHF_ENCn_SSI, offset 0x110, reset 0xA130D19. -/
abbrev R.SHF_ENCn_SSI (n : Nat) : Nat := 0x400A0110 + 0x40 * n
abbrev F.SHF_ENCn_SSI_NBITS (n : Nat) : Fld := ⟨R.SHF_ENCn_SSI n, 0, 6⟩
abbrev F.SHF_ENCn_SSI_POSBITS (n : Nat) : Fld := ⟨R.SHF_ENCn_SSI n, 8, 5⟩
abbrev F.SHF_ENCn_SSI_GRAY (n : Nat) : Fld := ⟨R.SHF_ENCn_SSI n, 13, 1⟩
abbrev F.SHF_ENCn_SSI_PAR (n : Nat) : Fld := ⟨R.SHF_ENCn_SSI n, 14, 1⟩
abbrev F.SHF_ENCn_SSI_DIV (n : Nat) : Fld := ⟨R.SHF_ENCn_SSI n, 16, 8⟩
abbrev F.SHF_ENCn_SSI_TM (n : Nat) : Fld := ⟨R.SHF_ENCn_SSI n, 24, 8⟩

/-- SHF_ENCn_DEP, offset 0x114, reset 0x0. -/
abbrev R.SHF_ENCn_DEP (n : Nat) : Nat := 0x400A0114 + 0x40 * n
abbrev F.SHF_ENCn_DEP_ADDR (n : Nat) : Fld := ⟨R.SHF_ENCn_DEP n, 0, 13⟩
abbrev F.SHF_ENCn_DEP_EN (n : Nat) : Fld := ⟨R.SHF_ENCn_DEP n, 16, 1⟩

/-- SHF_ENCn_STAT, offset 0x118, reset 0x0. -/
abbrev R.SHF_ENCn_STAT (n : Nat) : Nat := 0x400A0118 + 0x40 * n
abbrev F.SHF_ENCn_STAT_HOMED (n : Nat) : Fld := ⟨R.SHF_ENCn_STAT n, 0, 1⟩
abbrev F.SHF_ENCn_STAT_STILL (n : Nat) : Fld := ⟨R.SHF_ENCn_STAT n, 1, 1⟩
abbrev F.SHF_ENCn_STAT_ILL (n : Nat) : Fld := ⟨R.SHF_ENCn_STAT n, 2, 1⟩
abbrev F.SHF_ENCn_STAT_IDXERR (n : Nat) : Fld := ⟨R.SHF_ENCn_STAT n, 3, 1⟩
abbrev F.SHF_ENCn_STAT_SSIERR (n : Nat) : Fld := ⟨R.SHF_ENCn_STAT n, 4, 1⟩
abbrev F.SHF_ENCn_STAT_SKIP (n : Nat) : Fld := ⟨R.SHF_ENCn_STAT n, 5, 1⟩
abbrev F.SHF_ENCn_STAT_TRIP (n : Nat) : Fld := ⟨R.SHF_ENCn_STAT n, 6, 1⟩
abbrev F.SHF_ENCn_STAT_CFG_ERR (n : Nat) : Fld := ⟨R.SHF_ENCn_STAT n, 7, 1⟩

/-- SHF_ENCn_POS, offset 0x11C, reset 0x0. -/
abbrev R.SHF_ENCn_POS (n : Nat) : Nat := 0x400A011C + 0x40 * n
abbrev F.SHF_ENCn_POS_POS (n : Nat) : Fld := ⟨R.SHF_ENCn_POS n, 0, 24⟩

/-- SHF_ENCn_IDXCAP, offset 0x120, reset 0x0. -/
abbrev R.SHF_ENCn_IDXCAP (n : Nat) : Nat := 0x400A0120 + 0x40 * n
abbrev F.SHF_ENCn_IDXCAP_POS (n : Nat) : Fld := ⟨R.SHF_ENCn_IDXCAP n, 0, 24⟩

/-- SHF_ENCn_CNT, offset 0x124, reset 0x0. -/
abbrev R.SHF_ENCn_CNT (n : Nat) : Nat := 0x400A0124 + 0x40 * n
abbrev F.SHF_ENCn_CNT_ILLCNT (n : Nat) : Fld := ⟨R.SHF_ENCn_CNT n, 0, 16⟩
abbrev F.SHF_ENCn_CNT_IDXERRCNT (n : Nat) : Fld := ⟨R.SHF_ENCn_CNT n, 16, 16⟩

/-- SHF_ENCn_Li, offset 0x130, reset 0x0. -/
abbrev R.SHF_ENCn_Li (n : Nat) (i : Nat) : Nat := 0x400A0130 + 0x40 * n + 4 * i
abbrev F.SHF_ENCn_Li_WORD (n : Nat) (i : Nat) : Fld := ⟨R.SHF_ENCn_Li n i, 0, 32⟩

/-- SHF_EMU_CFG, offset 0x200, reset 0x3FF1400. -/
abbrev R.SHF_EMU_CFG : Nat := 0x400A0200
abbrev F.SHF_EMU_CFG_SRC : Fld := ⟨R.SHF_EMU_CFG, 0, 1⟩
abbrev F.SHF_EMU_CFG_MINE : Fld := ⟨R.SHF_EMU_CFG, 8, 8⟩
abbrev F.SHF_EMU_CFG_EPPR_M1 : Fld := ⟨R.SHF_EMU_CFG, 16, 16⟩

/-- SHF_EMU_STAT, offset 0x204, reset 0x0. -/
abbrev R.SHF_EMU_STAT : Nat := 0x400A0204
abbrev F.SHF_EMU_STAT_ECNT : Fld := ⟨R.SHF_EMU_STAT, 0, 18⟩
abbrev F.SHF_EMU_STAT_LAG : Fld := ⟨R.SHF_EMU_STAT, 31, 1⟩

/-! ### RING, block index 11 (spec/13) -/

/-- RING_CTRL, offset 0x0, reset 0x0. -/
abbrev R.RING_CTRL : Nat := 0x400B0000
abbrev F.RING_CTRL_EN_A : Fld := ⟨R.RING_CTRL, 0, 1⟩
abbrev F.RING_CTRL_EN_B : Fld := ⟨R.RING_CTRL, 1, 1⟩
abbrev F.RING_CTRL_JOIN : Fld := ⟨R.RING_CTRL, 2, 1⟩
abbrev F.RING_CTRL_LEAVE : Fld := ⟨R.RING_CTRL, 3, 1⟩
abbrev F.RING_CTRL_LOCK : Fld := ⟨R.RING_CTRL, 31, 1⟩

/-- RING_CFG, offset 0x4, reset 0x0. -/
abbrev R.RING_CFG : Nat := 0x400B0004
abbrev F.RING_CFG_ROLE : Fld := ⟨R.RING_CFG, 0, 2⟩
abbrev F.RING_CFG_BRKTOL : Fld := ⟨R.RING_CFG, 2, 1⟩
abbrev F.RING_CFG_DOZE_UP : Fld := ⟨R.RING_CFG, 3, 1⟩
abbrev F.RING_CFG_AUTOJOIN : Fld := ⟨R.RING_CFG, 4, 1⟩
abbrev F.RING_CFG_SLOT : Fld := ⟨R.RING_CFG, 8, 10⟩

/-- RING_RND, offset 0x8, reset 0x0. -/
abbrev R.RING_RND : Nat := 0x400B0008
abbrev F.RING_RND_CAR : Fld := ⟨R.RING_RND, 0, 3⟩
abbrev F.RING_RND_DIV : Fld := ⟨R.RING_RND, 8, 8⟩

/-- RING_TIM, offset 0xC, reset 0xFF821003. -/
abbrev R.RING_TIM : Nat := 0x400B000C
abbrev F.RING_TIM_LOCKWIN : Fld := ⟨R.RING_TIM, 0, 8⟩
abbrev F.RING_TIM_LOCK_N : Fld := ⟨R.RING_TIM, 8, 8⟩
abbrev F.RING_TIM_DFILT : Fld := ⟨R.RING_TIM, 16, 4⟩
abbrev F.RING_TIM_LOST_N : Fld := ⟨R.RING_TIM, 20, 4⟩
abbrev F.RING_TIM_SLEWMAX : Fld := ⟨R.RING_TIM, 24, 8⟩

/-- RING_ASYMA, offset 0x10, reset 0x0. -/
abbrev R.RING_ASYMA : Nat := 0x400B0010
abbrev F.RING_ASYMA_ASYM : Fld := ⟨R.RING_ASYMA, 0, 16⟩

/-- RING_ASYMB, offset 0x14, reset 0x0. -/
abbrev R.RING_ASYMB : Nat := 0x400B0014
abbrev F.RING_ASYMB_ASYM : Fld := ⟨R.RING_ASYMB, 0, 16⟩

/-- RING_STAT, offset 0x20, reset 0x0. -/
abbrev R.RING_STAT : Nat := 0x400B0020
abbrev F.RING_STAT_STATE : Fld := ⟨R.RING_STAT, 0, 3⟩
abbrev F.RING_STAT_LOCKED : Fld := ⟨R.RING_STAT, 3, 1⟩
abbrev F.RING_STAT_LOCK_A : Fld := ⟨R.RING_STAT, 4, 1⟩
abbrev F.RING_STAT_LOCK_B : Fld := ⟨R.RING_STAT, 5, 1⟩
abbrev F.RING_STAT_WRAP_A : Fld := ⟨R.RING_STAT, 6, 1⟩
abbrev F.RING_STAT_WRAP_B : Fld := ⟨R.RING_STAT, 7, 1⟩
abbrev F.RING_STAT_WRAPPED : Fld := ⟨R.RING_STAT, 8, 1⟩
abbrev F.RING_STAT_REFUSE : Fld := ⟨R.RING_STAT, 9, 3⟩
abbrev F.RING_STAT_NODES : Fld := ⟨R.RING_STAT, 16, 11⟩

/-- RING_ERR, offset 0x24, reset 0x0. -/
abbrev R.RING_ERR : Nat := 0x400B0024
abbrev F.RING_ERR_LATE : Fld := ⟨R.RING_ERR, 0, 1⟩
abbrev F.RING_ERR_SLOT_CRC : Fld := ⟨R.RING_ERR, 1, 1⟩
abbrev F.RING_ERR_HDR_CRC : Fld := ⟨R.RING_ERR, 2, 1⟩
abbrev F.RING_ERR_REFUSED : Fld := ⟨R.RING_ERR, 3, 1⟩
abbrev F.RING_ERR_REMOVED : Fld := ⟨R.RING_ERR, 4, 1⟩
abbrev F.RING_ERR_ABANDONED : Fld := ⟨R.RING_ERR, 5, 1⟩
abbrev F.RING_ERR_SSC_REF : Fld := ⟨R.RING_ERR, 6, 1⟩
abbrev F.RING_ERR_DISC : Fld := ⟨R.RING_ERR, 7, 1⟩
abbrev F.RING_ERR_INS_LATE : Fld := ⟨R.RING_ERR, 8, 1⟩
abbrev F.RING_ERR_SLEW_FAIL : Fld := ⟨R.RING_ERR, 9, 1⟩
abbrev F.RING_ERR_CFG_ERR : Fld := ⟨R.RING_ERR, 10, 1⟩
abbrev F.RING_ERR_DUP_REEVE : Fld := ⟨R.RING_ERR, 11, 1⟩

/-- RING_ROUND, offset 0x28, reset 0x0. -/
abbrev R.RING_ROUND : Nat := 0x400B0028
abbrev F.RING_ROUND_VALUE : Fld := ⟨R.RING_ROUND, 0, 32⟩

/-- RING_GEN, offset 0x2C, reset 0x0. -/
abbrev R.RING_GEN : Nat := 0x400B002C
abbrev F.RING_GEN_GEN : Fld := ⟨R.RING_GEN, 0, 16⟩
abbrev F.RING_GEN_NGEN : Fld := ⟨R.RING_GEN, 16, 16⟩

/-- RING_THETA, offset 0x30, reset 0x0. -/
abbrev R.RING_THETA : Nat := 0x400B0030
abbrev F.RING_THETA_VALUE : Fld := ⟨R.RING_THETA, 0, 32⟩

/-- RING_DLYA, offset 0x34, reset 0x0. -/
abbrev R.RING_DLYA : Nat := 0x400B0034
abbrev F.RING_DLYA_VALUE : Fld := ⟨R.RING_DLYA, 0, 32⟩

/-- RING_DLYB, offset 0x38, reset 0x0. -/
abbrev R.RING_DLYB : Nat := 0x400B0038
abbrev F.RING_DLYB_VALUE : Fld := ⟨R.RING_DLYB, 0, 32⟩

/-- RING_PATH, offset 0x3C, reset 0x0. -/
abbrev R.RING_PATH : Nat := 0x400B003C
abbrev F.RING_PATH_VALUE : Fld := ⟨R.RING_PATH, 0, 32⟩

/-- RING_HOPS, offset 0x40, reset 0x0. -/
abbrev R.RING_HOPS : Nat := 0x400B0040
abbrev F.RING_HOPS_HOPS_A : Fld := ⟨R.RING_HOPS, 0, 16⟩
abbrev F.RING_HOPS_HOPS_B : Fld := ⟨R.RING_HOPS, 16, 16⟩

/-- RING_TNEED, offset 0x44, reset 0x0. -/
abbrev R.RING_TNEED : Nat := 0x400B0044
abbrev F.RING_TNEED_VALUE : Fld := ⟨R.RING_TNEED, 0, 32⟩

/-- RING_CNT, offset 0x48, reset 0x0. -/
abbrev R.RING_CNT : Nat := 0x400B0048
abbrev F.RING_CNT_CRCERR : Fld := ⟨R.RING_CNT, 0, 16⟩
abbrev F.RING_CNT_LATES : Fld := ⟨R.RING_CNT, 16, 16⟩

/-- RING_IDLO, offset 0x50, reset see regReset. -/
abbrev R.RING_IDLO : Nat := 0x400B0050
abbrev F.RING_IDLO_ID : Fld := ⟨R.RING_IDLO, 0, 32⟩

/-- RING_IDHI, offset 0x54, reset see regReset. -/
abbrev R.RING_IDHI : Nat := 0x400B0054
abbrev F.RING_IDHI_ID : Fld := ⟨R.RING_IDHI, 0, 32⟩

/-- RING_TXs, offset 0x80, reset 0x0. -/
abbrev R.RING_TXs (s : Nat) : Nat := 0x400B0080 + 4 * s
abbrev F.RING_TXs_EN (s : Nat) : Fld := ⟨R.RING_TXs s, 0, 1⟩
abbrev F.RING_TXs_SIZE (s : Nat) : Fld := ⟨R.RING_TXs s, 1, 4⟩
abbrev F.RING_TXs_SRC (s : Nat) : Fld := ⟨R.RING_TXs s, 5, 7⟩
abbrev F.RING_TXs_SAFE (s : Nat) : Fld := ⟨R.RING_TXs s, 12, 1⟩

/-- RING_RXk, offset 0x100, reset 0x0. -/
abbrev R.RING_RXk (k : Nat) : Nat := 0x400B0100 + 4 * k
abbrev F.RING_RXk_EN (k : Nat) : Fld := ⟨R.RING_RXk k, 0, 1⟩
abbrev F.RING_RXk_STREAM (k : Nat) : Fld := ⟨R.RING_RXk k, 1, 3⟩
abbrev F.RING_RXk_NODE (k : Nat) : Fld := ⟨R.RING_RXk k, 4, 10⟩
abbrev F.RING_RXk_FIRST (k : Nat) : Fld := ⟨R.RING_RXk k, 14, 4⟩
abbrev F.RING_RXk_LEN (k : Nat) : Fld := ⟨R.RING_RXk k, 18, 4⟩
abbrev F.RING_RXk_DST (k : Nat) : Fld := ⟨R.RING_RXk k, 22, 8⟩

/-- RING_RXWr, offset 0x400, reset 0x0. -/
abbrev R.RING_RXWr (r : Nat) : Nat := 0x400B0400 + 4 * r
abbrev F.RING_RXWr_VALUE (r : Nat) : Fld := ⟨R.RING_RXWr r, 0, 32⟩

/-- RING_RXVj, offset 0x800, reset 0x0. -/
abbrev R.RING_RXVj (j : Nat) : Nat := 0x400B0800 + 4 * j
abbrev F.RING_RXVj_VALUE (j : Nat) : Fld := ⟨R.RING_RXVj j, 0, 32⟩

/-- RING_TXWw, offset 0xA00, reset 0x0. -/
abbrev R.RING_TXWw (w : Nat) : Nat := 0x400B0A00 + 4 * w
abbrev F.RING_TXWw_VALUE (w : Nat) : Fld := ⟨R.RING_TXWw w, 0, 32⟩

/-- RING_ROSTERe, offset 0x4000, reset 0x0. -/
abbrev R.RING_ROSTERe (e : Nat) : Nat := 0x400B4000 + 4 * e
abbrev F.RING_ROSTERe_EN (e : Nat) : Fld := ⟨R.RING_ROSTERe e, 0, 1⟩
abbrev F.RING_ROSTERe_SIZE (e : Nat) : Fld := ⟨R.RING_ROSTERe e, 1, 4⟩
abbrev F.RING_ROSTERe_SAFE (e : Nat) : Fld := ⟨R.RING_ROSTERe e, 5, 1⟩

/-! ### SAFE, block index 12 (spec/14) -/

/-- SAFE_STAT, offset 0x0, reset 0x0. -/
abbrev R.SAFE_STAT : Nat := 0x400C0000
abbrev F.SAFE_STAT_STATE_A : Fld := ⟨R.SAFE_STAT, 0, 2⟩
abbrev F.SAFE_STAT_STATE_B : Fld := ⟨R.SAFE_STAT, 2, 2⟩
abbrev F.SAFE_STAT_PMATCH : Fld := ⟨R.SAFE_STAT, 4, 1⟩
abbrev F.SAFE_STAT_DEGRADED : Fld := ⟨R.SAFE_STAT, 5, 1⟩
abbrev F.SAFE_STAT_DEMAND : Fld := ⟨R.SAFE_STAT, 6, 1⟩
abbrev F.SAFE_STAT_INFLT : Fld := ⟨R.SAFE_STAT, 7, 1⟩
abbrev F.SAFE_STAT_OFLT : Fld := ⟨R.SAFE_STAT, 8, 1⟩
abbrev F.SAFE_STAT_DELAY : Fld := ⟨R.SAFE_STAT, 9, 1⟩
abbrev F.SAFE_STAT_VETO : Fld := ⟨R.SAFE_STAT, 10, 1⟩

/-- SAFE_PGEN, offset 0x4, reset 0x0. -/
abbrev R.SAFE_PGEN : Nat := 0x400C0004
abbrev F.SAFE_PGEN_VALUE : Fld := ⟨R.SAFE_PGEN, 0, 32⟩

/-- SAFE_PCRC, offset 0x8, reset 0x0. -/
abbrev R.SAFE_PCRC : Nat := 0x400C0008
abbrev F.SAFE_PCRC_VALUE : Fld := ⟨R.SAFE_PCRC, 0, 32⟩

/-- SAFE_INA, offset 0x10, reset 0x0. -/
abbrev R.SAFE_INA : Nat := 0x400C0010
abbrev F.SAFE_INA_LEVEL : Fld := ⟨R.SAFE_INA, 0, 12⟩
abbrev F.SAFE_INA_OV : Fld := ⟨R.SAFE_INA, 12, 1⟩
abbrev F.SAFE_INA_DEM : Fld := ⟨R.SAFE_INA, 16, 12⟩
abbrev F.SAFE_INA_STP : Fld := ⟨R.SAFE_INA, 28, 2⟩

/-- SAFE_INB, offset 0x14, reset 0x0. -/
abbrev R.SAFE_INB : Nat := 0x400C0014
abbrev F.SAFE_INB_LEVEL : Fld := ⟨R.SAFE_INB, 0, 12⟩
abbrev F.SAFE_INB_OV : Fld := ⟨R.SAFE_INB, 12, 1⟩
abbrev F.SAFE_INB_DEM : Fld := ⟨R.SAFE_INB, 16, 12⟩
abbrev F.SAFE_INB_STP : Fld := ⟨R.SAFE_INB, 28, 2⟩

/-- SAFE_INFLT, offset 0x18, reset 0x0. -/
abbrev R.SAFE_INFLT : Nat := 0x400C0018
abbrev F.SAFE_INFLT_TPF : Fld := ⟨R.SAFE_INFLT, 0, 12⟩
abbrev F.SAFE_INFLT_DISCF : Fld := ⟨R.SAFE_INFLT, 16, 12⟩

/-- SAFE_GUARD, offset 0x1C, reset 0x0. -/
abbrev R.SAFE_GUARD : Nat := 0x400C001C
abbrev F.SAFE_GUARD_PEND : Fld := ⟨R.SAFE_GUARD, 0, 12⟩
abbrev F.SAFE_GUARD_DISCF : Fld := ⟨R.SAFE_GUARD, 16, 12⟩

/-- SAFE_OUT, offset 0x20, reset 0x0. -/
abbrev R.SAFE_OUT : Nat := 0x400C0020
abbrev F.SAFE_OUT_CMDA : Fld := ⟨R.SAFE_OUT, 0, 5⟩
abbrev F.SAFE_OUT_CMDB : Fld := ⟨R.SAFE_OUT, 8, 5⟩
abbrev F.SAFE_OUT_RBA : Fld := ⟨R.SAFE_OUT, 16, 5⟩
abbrev F.SAFE_OUT_RBB : Fld := ⟨R.SAFE_OUT, 24, 5⟩

/-- SAFE_OSTATE, offset 0x24, reset 0x0. -/
abbrev R.SAFE_OSTATE : Nat := 0x400C0024
abbrev F.SAFE_OSTATE_STATE : Fld := ⟨R.SAFE_OSTATE, 0, 15⟩

/-- SAFE_CONN, offset 0x28, reset 0x0. -/
abbrev R.SAFE_CONN : Nat := 0x400C0028
abbrev F.SAFE_CONN_VALA : Fld := ⟨R.SAFE_CONN, 0, 8⟩
abbrev F.SAFE_CONN_VALB : Fld := ⟨R.SAFE_CONN, 8, 8⟩
abbrev F.SAFE_CONN_DEG : Fld := ⟨R.SAFE_CONN, 16, 8⟩
abbrev F.SAFE_CONN_CFLT : Fld := ⟨R.SAFE_CONN, 24, 8⟩

/-- SAFE_DIAG, offset 0x2C, reset 0x0. -/
abbrev R.SAFE_DIAG : Nat := 0x400C002C
abbrev F.SAFE_DIAG_CODEA : Fld := ⟨R.SAFE_DIAG, 0, 8⟩
abbrev F.SAFE_DIAG_CODEB : Fld := ⟨R.SAFE_DIAG, 8, 8⟩

/-- SAFE_STAMP, offset 0x30, reset 0x0. -/
abbrev R.SAFE_STAMP : Nat := 0x400C0030
abbrev F.SAFE_STAMP_STAMP : Fld := ⟨R.SAFE_STAMP, 0, 32⟩

/-- SAFE_CNT, offset 0x34, reset 0x0. -/
abbrev R.SAFE_CNT : Nat := 0x400C0034
abbrev F.SAFE_CNT_DEMANDS : Fld := ⟨R.SAFE_CNT, 0, 16⟩
abbrev F.SAFE_CNT_FAULTS : Fld := ⟨R.SAFE_CNT, 16, 16⟩

/-! ### DMA, block index 13 (spec/16) -/

/-- DMA_CTRL, offset 0x0, reset 0x0. -/
abbrev R.DMA_CTRL : Nat := 0x400D0000
abbrev F.DMA_CTRL_LOCK : Fld := ⟨R.DMA_CTRL, 31, 1⟩

/-- DMA_STAT, offset 0x4, reset 0x0. -/
abbrev R.DMA_STAT : Nat := 0x400D0004
abbrev F.DMA_STAT_ERR : Fld := ⟨R.DMA_STAT, 0, 16⟩
abbrev F.DMA_STAT_TOVR : Fld := ⟨R.DMA_STAT, 16, 16⟩

/-- DMA_CHn_SRC, offset 0x100, reset 0x0. -/
abbrev R.DMA_CHn_SRC (n : Nat) : Nat := 0x400D0100 + 0x20 * n
abbrev F.DMA_CHn_SRC_ADDR (n : Nat) : Fld := ⟨R.DMA_CHn_SRC n, 0, 32⟩

/-- DMA_CHn_DST, offset 0x104, reset 0x0. -/
abbrev R.DMA_CHn_DST (n : Nat) : Nat := 0x400D0104 + 0x20 * n
abbrev F.DMA_CHn_DST_ADDR (n : Nat) : Fld := ⟨R.DMA_CHn_DST n, 0, 32⟩

/-- DMA_CHn_LEN, offset 0x108, reset 0x0. -/
abbrev R.DMA_CHn_LEN (n : Nat) : Nat := 0x400D0108 + 0x20 * n
abbrev F.DMA_CHn_LEN_LEN_M1 (n : Nat) : Fld := ⟨R.DMA_CHn_LEN n, 0, 16⟩

/-- DMA_CHn_CFG, offset 0x10C, reset 0x0. -/
abbrev R.DMA_CHn_CFG (n : Nat) : Nat := 0x400D010C + 0x20 * n
abbrev F.DMA_CHn_CFG_EN (n : Nat) : Fld := ⟨R.DMA_CHn_CFG n, 0, 1⟩
abbrev F.DMA_CHn_CFG_SINC (n : Nat) : Fld := ⟨R.DMA_CHn_CFG n, 1, 1⟩
abbrev F.DMA_CHn_CFG_DINC (n : Nat) : Fld := ⟨R.DMA_CHn_CFG n, 2, 1⟩
abbrev F.DMA_CHn_CFG_REARM (n : Nat) : Fld := ⟨R.DMA_CHn_CFG n, 3, 1⟩
abbrev F.DMA_CHn_CFG_TRIG (n : Nat) : Fld := ⟨R.DMA_CHn_CFG n, 4, 1⟩
abbrev F.DMA_CHn_CFG_DRING (n : Nat) : Fld := ⟨R.DMA_CHn_CFG n, 8, 4⟩
abbrev F.DMA_CHn_CFG_WORLD (n : Nat) : Fld := ⟨R.DMA_CHn_CFG n, 16, 1⟩

/-- DMA_CHn_CTRL, offset 0x110, reset 0x0. -/
abbrev R.DMA_CHn_CTRL (n : Nat) : Nat := 0x400D0110 + 0x20 * n
abbrev F.DMA_CHn_CTRL_GO (n : Nat) : Fld := ⟨R.DMA_CHn_CTRL n, 0, 1⟩
abbrev F.DMA_CHn_CTRL_ABORT (n : Nat) : Fld := ⟨R.DMA_CHn_CTRL n, 1, 1⟩

/-- DMA_CHn_STAT, offset 0x114, reset 0x0. -/
abbrev R.DMA_CHn_STAT (n : Nat) : Nat := 0x400D0114 + 0x20 * n
abbrev F.DMA_CHn_STAT_ERR (n : Nat) : Fld := ⟨R.DMA_CHn_STAT n, 0, 1⟩
abbrev F.DMA_CHn_STAT_CAUSE (n : Nat) : Fld := ⟨R.DMA_CHn_STAT n, 1, 3⟩
abbrev F.DMA_CHn_STAT_TOVR (n : Nat) : Fld := ⟨R.DMA_CHn_STAT n, 4, 1⟩

/-- DMA_CHn_EADDR, offset 0x118, reset 0x0. -/
abbrev R.DMA_CHn_EADDR (n : Nat) : Nat := 0x400D0118 + 0x20 * n
abbrev F.DMA_CHn_EADDR_ADDR (n : Nat) : Fld := ⟨R.DMA_CHn_EADDR n, 0, 32⟩

/-! ### EVT, block index 14 (spec/16) -/

/-- EVT_CTRL, offset 0x0, reset 0x0. -/
abbrev R.EVT_CTRL : Nat := 0x400E0000
abbrev F.EVT_CTRL_LOCK : Fld := ⟨R.EVT_CTRL, 31, 1⟩

/-- EVT_FORCE, offset 0x4, reset 0x0. -/
abbrev R.EVT_FORCE : Nat := 0x400E0004
abbrev F.EVT_FORCE_SINK : Fld := ⟨R.EVT_FORCE, 0, 7⟩
abbrev F.EVT_FORCE_GO : Fld := ⟨R.EVT_FORCE, 7, 1⟩

/-- EVT_SINKk, offset 0x100, reset 0x0. -/
abbrev R.EVT_SINKk (k : Nat) : Nat := 0x400E0100 + 4 * k
abbrev F.EVT_SINKk_SRC (k : Nat) : Fld := ⟨R.EVT_SINKk k, 0, 8⟩
abbrev F.EVT_SINKk_EN (k : Nat) : Fld := ⟨R.EVT_SINKk k, 8, 1⟩

/-! ### WLD, block index 15 (spec/16) -/

/-- WLD_CTRL, offset 0x0, reset 0x0. -/
abbrev R.WLD_CTRL : Nat := 0x400F0000
abbrev F.WLD_CTRL_LOCK : Fld := ⟨R.WLD_CTRL, 31, 1⟩

/-- WLD_BLKWORLD, offset 0x4, reset 0x9000. -/
abbrev R.WLD_BLKWORLD : Nat := 0x400F0004
abbrev F.WLD_BLKWORLD_SEC : Fld := ⟨R.WLD_BLKWORLD, 0, 17⟩

/-- WLD_FAULT_ADDR, offset 0x10, reset 0x0. -/
abbrev R.WLD_FAULT_ADDR : Nat := 0x400F0010
abbrev F.WLD_FAULT_ADDR_ADDR : Fld := ⟨R.WLD_FAULT_ADDR, 0, 32⟩

/-- WLD_FAULT_INFO, offset 0x14, reset 0x0. -/
abbrev R.WLD_FAULT_INFO : Nat := 0x400F0014
abbrev F.WLD_FAULT_INFO_MASTER : Fld := ⟨R.WLD_FAULT_INFO, 0, 5⟩
abbrev F.WLD_FAULT_INFO_WORLD : Fld := ⟨R.WLD_FAULT_INFO, 5, 1⟩
abbrev F.WLD_FAULT_INFO_WRITE : Fld := ⟨R.WLD_FAULT_INFO, 6, 1⟩
abbrev F.WLD_FAULT_INFO_REASON : Fld := ⟨R.WLD_FAULT_INFO, 8, 3⟩
abbrev F.WLD_FAULT_INFO_OVR : Fld := ⟨R.WLD_FAULT_INFO, 30, 1⟩
abbrev F.WLD_FAULT_INFO_VALID : Fld := ⟨R.WLD_FAULT_INFO, 31, 1⟩

/-- WLD_ECC, offset 0x20, reset 0x0. -/
abbrev R.WLD_ECC : Nat := 0x400F0020
abbrev F.WLD_ECC_CE : Fld := ⟨R.WLD_ECC, 0, 16⟩
abbrev F.WLD_ECC_UE : Fld := ⟨R.WLD_ECC, 16, 1⟩
abbrev F.WLD_ECC_PASSES : Fld := ⟨R.WLD_ECC, 24, 8⟩

/-- WLD_ECC_ADDR, offset 0x24, reset 0x0. -/
abbrev R.WLD_ECC_ADDR : Nat := 0x400F0024
abbrev F.WLD_ECC_ADDR_ADDR : Fld := ⟨R.WLD_ECC_ADDR, 0, 32⟩

/-- WLD_MRAM, offset 0x30, reset 0x0. -/
abbrev R.WLD_MRAM : Nat := 0x400F0030
abbrev F.WLD_MRAM_SPARES : Fld := ⟨R.WLD_MRAM, 0, 10⟩
abbrev F.WLD_MRAM_EXHAUSTED : Fld := ⟨R.WLD_MRAM, 16, 1⟩
abbrev F.WLD_MRAM_REFRESH : Fld := ⟨R.WLD_MRAM, 24, 8⟩

/-- WLD_OTP, offset 0x38, reset see regReset. -/
abbrev R.WLD_OTP : Nat := 0x400F0038
abbrev F.WLD_OTP_PROVISIONED : Fld := ⟨R.WLD_OTP, 0, 1⟩
abbrev F.WLD_OTP_ARB : Fld := ⟨R.WLD_OTP, 8, 7⟩
abbrev F.WLD_OTP_KEYS : Fld := ⟨R.WLD_OTP, 16, 8⟩
abbrev F.WLD_OTP_FWKEYS : Fld := ⟨R.WLD_OTP, 24, 4⟩

/-- WLD_IDCODE, offset 0x3C, reset 0x174405E3. -/
abbrev R.WLD_IDCODE : Nat := 0x400F003C
abbrev F.WLD_IDCODE_IDCODE : Fld := ⟨R.WLD_IDCODE, 0, 32⟩

/-- WLD_RGNr_BASE, offset 0x100, reset 0x0. -/
abbrev R.WLD_RGNr_BASE (r : Nat) : Nat := 0x400F0100 + 0x10 * r
abbrev F.WLD_RGNr_BASE_LINE (r : Nat) : Fld := ⟨R.WLD_RGNr_BASE r, 8, 24⟩

/-- WLD_RGNr_LIMIT, offset 0x104, reset 0x0. -/
abbrev R.WLD_RGNr_LIMIT (r : Nat) : Nat := 0x400F0104 + 0x10 * r
abbrev F.WLD_RGNr_LIMIT_LINE (r : Nat) : Fld := ⟨R.WLD_RGNr_LIMIT r, 8, 24⟩

/-- WLD_RGNr_ATTR, offset 0x108, reset 0x0. -/
abbrev R.WLD_RGNr_ATTR (r : Nat) : Nat := 0x400F0108 + 0x10 * r
abbrev F.WLD_RGNr_ATTR_EN (r : Nat) : Fld := ⟨R.WLD_RGNr_ATTR r, 0, 1⟩
abbrev F.WLD_RGNr_ATTR_NSR (r : Nat) : Fld := ⟨R.WLD_RGNr_ATTR r, 1, 1⟩
abbrev F.WLD_RGNr_ATTR_NSW (r : Nat) : Fld := ⟨R.WLD_RGNr_ATTR r, 2, 1⟩
abbrev F.WLD_RGNr_ATTR_SR (r : Nat) : Fld := ⟨R.WLD_RGNr_ATTR r, 3, 1⟩
abbrev F.WLD_RGNr_ATTR_SW (r : Nat) : Fld := ⟨R.WLD_RGNr_ATTR r, 4, 1⟩

/-! ### TST, block index 16 (spec/03) -/

/-- TST_CTRL, offset 0x0, reset 0x0. -/
abbrev R.TST_CTRL : Nat := 0x40100000
abbrev F.TST_CTRL_PERT_EN : Fld := ⟨R.TST_CTRL, 0, 1⟩
abbrev F.TST_CTRL_LOCK : Fld := ⟨R.TST_CTRL, 31, 1⟩

/-- TST_SEED, offset 0x4, reset 0xACE1. -/
abbrev R.TST_SEED : Nat := 0x40100004
abbrev F.TST_SEED_SEED : Fld := ⟨R.TST_SEED, 0, 16⟩

/-- TST_DLYk, offset 0x10, reset 0x0. -/
abbrev R.TST_DLYk (k : Nat) : Nat := 0x40100010 + 4 * k
abbrev F.TST_DLYk_DLY (k : Nat) : Fld := ⟨R.TST_DLYk k, 0, 8⟩
abbrev F.TST_DLYk_RAND (k : Nat) : Fld := ⟨R.TST_DLYk k, 8, 1⟩
abbrev F.TST_DLYk_EN (k : Nat) : Fld := ⟨R.TST_DLYk k, 9, 1⟩

/-- TST_VOID_STAT, offset 0x40, reset 0x0. -/
abbrev R.TST_VOID_STAT : Nat := 0x40100040
abbrev F.TST_VOID_STAT_MILL : Fld := ⟨R.TST_VOID_STAT, 0, 1⟩
abbrev F.TST_VOID_STAT_PRISM : Fld := ⟨R.TST_VOID_STAT, 1, 1⟩
abbrev F.TST_VOID_STAT_WVN : Fld := ⟨R.TST_VOID_STAT, 2, 1⟩
abbrev F.TST_VOID_STAT_RING : Fld := ⟨R.TST_VOID_STAT, 3, 1⟩
abbrev F.TST_VOID_STAT_GRN : Fld := ⟨R.TST_VOID_STAT, 4, 1⟩
abbrev F.TST_VOID_STAT_STATE : Fld := ⟨R.TST_VOID_STAT, 8, 1⟩

/-- TST_VOID_CNT, offset 0x44, reset 0x0. -/
abbrev R.TST_VOID_CNT : Nat := 0x40100044
abbrev F.TST_VOID_CNT_CNT : Fld := ⟨R.TST_VOID_CNT, 0, 32⟩

/-- TST_VOID_FIRST, offset 0x48, reset 0x0. -/
abbrev R.TST_VOID_FIRST : Nat := 0x40100048
abbrev F.TST_VOID_FIRST_STAMP : Fld := ⟨R.TST_VOID_FIRST, 0, 32⟩

/-- TST_VOID_LAST, offset 0x4C, reset 0x0. -/
abbrev R.TST_VOID_LAST : Nat := 0x4010004C
abbrev F.TST_VOID_LAST_STAMP : Fld := ⟨R.TST_VOID_LAST, 0, 32⟩

/-- TST_RPL_CTRL, offset 0x60, reset 0x0. -/
abbrev R.TST_RPL_CTRL : Nat := 0x40100060
abbrev F.TST_RPL_CTRL_MODE : Fld := ⟨R.TST_RPL_CTRL, 0, 2⟩
abbrev F.TST_RPL_CTRL_START : Fld := ⟨R.TST_RPL_CTRL, 2, 1⟩
abbrev F.TST_RPL_CTRL_ABORT : Fld := ⟨R.TST_RPL_CTRL, 3, 1⟩
abbrev F.TST_RPL_CTRL_CAR : Fld := ⟨R.TST_RPL_CTRL, 4, 3⟩
abbrev F.TST_RPL_CTRL_SLICES : Fld := ⟨R.TST_RPL_CTRL, 16, 16⟩

/-- TST_RPL_BASE, offset 0x64, reset 0x10000000. -/
abbrev R.TST_RPL_BASE : Nat := 0x40100064
abbrev F.TST_RPL_BASE_BASE : Fld := ⟨R.TST_RPL_BASE, 2, 30⟩

/-- TST_RPL_LEN, offset 0x68, reset 0x0. -/
abbrev R.TST_RPL_LEN : Nat := 0x40100068
abbrev F.TST_RPL_LEN_SLOTS : Fld := ⟨R.TST_RPL_LEN, 0, 20⟩

/-- TST_RPL_STAT, offset 0x6C, reset 0x0. -/
abbrev R.TST_RPL_STAT : Nat := 0x4010006C
abbrev F.TST_RPL_STAT_BUSY : Fld := ⟨R.TST_RPL_STAT, 0, 1⟩
abbrev F.TST_RPL_STAT_DONE : Fld := ⟨R.TST_RPL_STAT, 1, 1⟩
abbrev F.TST_RPL_STAT_ERR : Fld := ⟨R.TST_RPL_STAT, 4, 3⟩

/-- TST_DIGEST, offset 0x70, reset 0x0. -/
abbrev R.TST_DIGEST : Nat := 0x40100070
abbrev F.TST_DIGEST_CRC : Fld := ⟨R.TST_DIGEST, 0, 32⟩

/-- TST_RPL_PHASE, offset 0x74, reset 0x0. -/
abbrev R.TST_RPL_PHASE : Nat := 0x40100074
abbrev F.TST_RPL_PHASE_PHASE : Fld := ⟨R.TST_RPL_PHASE, 0, 5⟩

/-- TST_RPL_POS, offset 0x78, reset 0x0. -/
abbrev R.TST_RPL_POS : Nat := 0x40100078
abbrev F.TST_RPL_POS_POS : Fld := ⟨R.TST_RPL_POS, 0, 20⟩

end Sys2Proof.Machine
end

