-- ==== Sys2Proof/Machine/RegTable.lean ====
section
/-! DEFINITION. Machine/RegTable.lean: one row per register family: where it lies, its reset value, which bits each access code of R2 covers, and the World column (R2, R5, R6, R362). Generated from the register tables of spec/. -/

namespace Sys2Proof.Machine

/-- A register description. `dims` lists (stride, count) from the widest stride down. `rw`, `w1c`, `w1s`, `rwl`
and `rws` are the bits with that access code (R2); `action` the bits with code WO; `secure` is the World column
(R362); `lockRws` says that the block's lock freezes the RWS bits too (R5, the LOCK fields of GRN and TST). -/
structure RegRow where
  base : Nat
  dims : List (Nat × Nat)
  reset : Word
  rw : Word := 0
  w1c : Word := 0
  w1s : Word := 0
  rwl : Word := 0
  rws : Word := 0
  action : Word := 0
  secure : Bool := false
  lockRws : Bool := false
  deriving DecidableEq, Repr

/-- Whether the distance `d` from a row's base is a member of the row's array. -/
def dimsHit (d : Nat) : List (Nat × Nat) → Bool
  | [] => d == 0
  | (stride, count) :: rest => d / stride < count && dimsHit (d % stride) rest

/-- Whether the row covers the address. -/
def RegRow.covers (r : RegRow) (a : Nat) : Bool := r.base ≤ a && dimsHit (a - r.base) r.dims

/-- Register rows of SYS (spec/17). -/
def rowsSYS : List RegRow :=
  [{ base := 0x40000000, dims := [], reset := 0x0, w1s := 0x80000000, secure := true },  -- SYS_CTRL
   { base := 0x40000004, dims := [], reset := 0x22 },  -- SYS_MODE
   { base := 0x40000008, dims := [], reset := 0x0, rw := 0xFFFFFFFF },  -- SYS_LTR
   { base := 0x4000000C, dims := [], reset := 0xA, rwl := 0x1FF },  -- SYS_PWR_CFG
   { base := 0x40000010, dims := [], reset := 0x2 },  -- SYS_PWR_STAT
   { base := 0x40000014, dims := [], reset := 0x0 },  -- SYS_BOOT
   { base := 0x40000018, dims := [], reset := 0x0, w1c := 0x100 },  -- SYS_SUPPLY
   { base := 0x40000020, dims := [], reset := 0x0, rw := 0xFFFFFFFF },  -- SYS_ALARM
   { base := 0x40000024, dims := [], reset := 0x100, rw := 0x1 } ]  -- SYS_KCTL

/-- Register rows of CLK (spec/02), part 1. -/
def rowsCLK1 : List RegRow :=
  [{ base := 0x40010000, dims := [], reset := 0x3, w1s := 0x80000000, rwl := 0x7, secure := true },  -- CLK_CTRL
   { base := 0x40010004, dims := [], reset := 0x0, w1c := 0x7F00 },  -- CLK_STAT
   { base := 0x40010010, dims := [], reset := 0x10100, rwl := 0x31FFF, secure := true },  -- CLK_SYN0_LOCK
   { base := 0x40010014, dims := [], reset := 0x0, rws := 0xFFFF, secure := true },  -- CLK_SYN0_TRIM
   { base := 0x40010018, dims := [], reset := 0x0, rws := 0x3, secure := true },  -- CLK_SYN0_DISC
   { base := 0x4001001C, dims := [], reset := 0x0, rwl := 0xF, secure := true },  -- CLK_SYN0_SSC
   { base := 0x40010020, dims := [], reset := 0x0, rwl := 0xF, secure := true },  -- CLK_SYN1_SSC
   { base := 0x40010030, dims := [], reset := 0x0, rws := 0x3F0, action := 0x3, secure := true },  -- CLK_RAMP_CTRL
   { base := 0x40010040, dims := [(0x4, 16)], reset := 0x0, rws := 0xFFFFFFFF, secure := true },  -- CLK_RAMPSEGn
   { base := 0x40010080, dims := [], reset := 0x0 },  -- CLK_TB_LO
   { base := 0x40010084, dims := [], reset := 0x0 },  -- CLK_TB_HI
   { base := 0x40010088, dims := [], reset := 0x0 },  -- CLK_TB_FINE
   { base := 0x400100A0, dims := [], reset := 0x0, rws := 0xFFFFFFFF, secure := true },  -- CLK_RTC_SEC_LO
   { base := 0x400100A4, dims := [], reset := 0x0, rws := 0xFFFF, secure := true },  -- CLK_RTC_SEC_HI
   { base := 0x400100A8, dims := [], reset := 0x0 },  -- CLK_RTC_SUB
   { base := 0x400100AC, dims := [], reset := 0x0, rws := 0xFF, secure := true },  -- CLK_RTC_TRIM
   { base := 0x400100B0, dims := [], reset := 0x0 },  -- CLK_RTC_TB_LO
   { base := 0x400100B4, dims := [], reset := 0x0 },  -- CLK_RTC_TB_HI
   { base := 0x40010100, dims := [(0x10, 16)], reset := 0x0, rw := 0xFFFFFFFF },  -- CLK_CMPn_LO
   { base := 0x40010104, dims := [(0x10, 16)], reset := 0x0, rw := 0xFFFFFFFF },  -- CLK_CMPn_HI
   { base := 0x40010108, dims := [(0x10, 16)], reset := 0x0, rw := 0xFFFFFFFF },  -- CLK_CMPn_PER
   { base := 0x4001010C, dims := [(0x10, 16)], reset := 0x0, rw := 0x1, w1c := 0x300 },  -- CLK_CMPn_CTRL
   { base := 0x40010200, dims := [(0x10, 8)], reset := 0x0 },  -- CLK_CAPn_LO
   { base := 0x40010204, dims := [(0x10, 8)], reset := 0x0 } ]  -- CLK_CAPn_HI

/-- Register rows of CLK (spec/02), part 2. -/
def rowsCLK2 : List RegRow :=
  [{ base := 0x4001020C, dims := [(0x10, 8)], reset := 0x0, rw := 0x1, w1c := 0x100 } ]  -- CLK_CAPn_CTRL

/-- Register rows of CLK (spec/02). -/
def rowsCLK : List RegRow := rowsCLK1 ++ rowsCLK2

/-- Register rows of ACQ (spec/04). -/
def rowsACQ : List RegRow :=
  [{ base := 0x40020000, dims := [], reset := 0x10000, rw := 0xFFFF71 },  -- ACQ_CTRL
   { base := 0x40020004, dims := [], reset := 0x0, w1c := 0x10000 },  -- ACQ_STAT
   { base := 0x40020008, dims := [], reset := 0x1041, rw := 0xFFF1 },  -- ACQ_SPARE
   { base := 0x4002000C, dims := [], reset := 0x0 },  -- ACQ_SPARE_CNT
   { base := 0x40020010, dims := [], reset := 0x0, rw := 0xFFFFFFFF },  -- ACQ_DIFF0
   { base := 0x40020014, dims := [], reset := 0x0, rw := 0xFFFF },  -- ACQ_DIFF1
   { base := 0x40020020, dims := [(0x4, 3)], reset := 0x0, w1c := 0xFFFFFFFF },  -- ACQ_OWSTATj
   { base := 0x40020040, dims := [(0x4, 16)], reset := 0x0, rw := 0x3FF7F03 },  -- ACQ_SLCn
   { base := 0x40020080, dims := [(0x8, 16)], reset := 0x0, w1c := 0x40000000 },  -- ACQ_DATAn
   { base := 0x40020084, dims := [(0x8, 16)], reset := 0x0 },  -- ACQ_STAMPn
   { base := 0x40020100, dims := [(0x4, 96)], reset := 0x0, rw := 0xFFF0F },  -- ACQ_CHc
   { base := 0x40020300, dims := [(0x4, 96)], reset := 0x40000000, rw := 0xFFFFFFFF },  -- ACQ_CORc
   { base := 0x40021000, dims := [(0x4, 1024)], reset := 0x80000000, rw := 0x83FFFF7F } ]  -- ACQ_SEQi

/-- Register rows of PRISM (spec/04). -/
def rowsPRISM : List RegRow :=
  [{ base := 0x40030000, dims := [], reset := 0x0, rw := 0x1 },  -- PRISM_CTRL
   { base := 0x40030004, dims := [], reset := 0x0 },  -- PRISM_STAT
   { base := 0x40030008, dims := [], reset := 0x0, w1c := 0xFFFFFFFF },  -- PRISM_LATE0
   { base := 0x4003000C, dims := [], reset := 0x0, w1c := 0xFFFFFFFF },  -- PRISM_LATE1
   { base := 0x40030010, dims := [], reset := 0x0 },  -- PRISM_FRZ0
   { base := 0x40030014, dims := [], reset := 0x0 },  -- PRISM_FRZ1
   { base := 0x40030020, dims := [], reset := 0x0, rw := 0x3F, action := 0x100 },  -- PRISM_SNAP_CTRL
   { base := 0x40030024, dims := [], reset := 0x0 },  -- PRISM_SNAP_STAMP
   { base := 0x40030040, dims := [(0x4, 16)], reset := 0xFF00000 },  -- PRISM_SNAPm
   { base := 0x40030100, dims := [(0x20, 64)], reset := 0x0, rw := 0xFF1F0371 },  -- PRISM_WINw_CFG
   { base := 0x40030104, dims := [(0x20, 64)], reset := 0x0, rw := 0xFFFFFFFF },  -- PRISM_WINw_PH
   { base := 0x40030108, dims := [(0x20, 64)], reset := 0x0, rw := 0xFFFFFFFF },  -- PRISM_WINw_CHA
   { base := 0x4003010C, dims := [(0x20, 64)], reset := 0x0, rw := 0xFFFFFFFF },  -- PRISM_WINw_CHB
   { base := 0x40030110, dims := [(0x20, 64)], reset := 0x0, rw := 0xFFFFFFFF },  -- PRISM_WINw_CHC
   { base := 0x40030114, dims := [(0x20, 64)], reset := 0x0, rw := 0xFFFFFFFF },  -- PRISM_WINw_CHD
   { base := 0x40030118, dims := [(0x20, 64)], reset := 0x0 },  -- PRISM_WINw_STAMP
   { base := 0x4003011C, dims := [(0x20, 64)], reset := 0x0 },  -- PRISM_WINw_INFO
   { base := 0x40030A00, dims := [(0x4, 40)], reset := 0x0, rw := 0x7F01 },  -- PRISM_STRk
   { base := 0x40030B00, dims := [(0x4, 40)], reset := 0x0 },  -- PRISM_STRDk
   { base := 0x40031000, dims := [(0x40, 64), (0x4, 16)], reset := 0xFF00000 } ]  -- PRISM_RESw_m

/-- Register rows of WVN (spec/05), part 1. -/
def rowsWVN1 : List RegRow :=
  [{ base := 0x40040000, dims := [], reset := 0x0, rw := 0xFF0F },  -- WVN_CTRL
   { base := 0x40040004, dims := [], reset := 0x0, w1c := 0xF },  -- WVN_STAT
   { base := 0x40040100, dims := [(0x100, 4)], reset := 0x1E0800, rw := 0x7FFF3F },  -- WVN_SETs_CFG
   { base := 0x40040104, dims := [(0x100, 4)], reset := 0x0, rw := 0x7F7F7F },  -- WVN_SETs_CHV
   { base := 0x40040108, dims := [(0x100, 4)], reset := 0x0, rw := 0x7F7F7F },  -- WVN_SETs_CHI
   { base := 0x4004010C, dims := [(0x100, 4)], reset := 0x40004000, rw := 0xFFFFFFFF },  -- WVN_SETs_NOM
   { base := 0x40040110, dims := [(0x100, 4)], reset := 0x64014, rw := 0xFFFFFF },  -- WVN_SETs_LOCK
   { base := 0x40040114, dims := [(0x100, 4)], reset := 0x2808040A, rw := 0xFF3F0F3F },  -- WVN_SETs_JUMP
   { base := 0x40040118, dims := [(0x100, 4)], reset := 0xA02, rw := 0xFF0F, action := 0x10000 },  -- WVN_SETs_SHD
   { base := 0x4004011C, dims := [(0x100, 4)], reset := 0x499A3333, rw := 0xFFFFFFFF },  -- WVN_SETs_ISLV
   { base := 0x40040120, dims := [(0x100, 4)], reset := 0xC8FF06, rw := 0xFFFFFFFF },  -- WVN_SETs_ISLF
   { base := 0x40040124, dims := [(0x100, 4)], reset := 0x205014, rw := 0x3FFFFFFF },  -- WVN_SETs_ISLT
   { base := 0x40040128, dims := [(0x100, 4)], reset := 0x1400C8, rw := 0x1FFFFFF },  -- WVN_SETs_ISLR
   { base := 0x4004012C, dims := [(0x100, 4)], reset := 0x2038003F, rw := 0xFFFF003F, action := 0x100 },  -- WVN_SETs_ISLA
   { base := 0x40040130, dims := [(0x100, 4)], reset := 0x148012C, rw := 0xFFFF03FF },  -- WVN_SETs_INJ
   { base := 0x40040134, dims := [(0x100, 4)], reset := 0x4666399A, rw := 0xFFFFFFFF },  -- WVN_SETs_FRTB
   { base := 0x40040138, dims := [(0x100, 4)], reset := 0x451F3AE1, rw := 0xFFFFFFFF },  -- WVN_SETs_FRTR
   { base := 0x4004013C, dims := [(0x100, 4)], reset := 0xA881, rw := 0xFFFF3, action := 0x4 },  -- WVN_SETs_FRT
   { base := 0x40040140, dims := [(0x100, 4)], reset := 0x40401F4, rw := 0x1F1FFFFF },  -- WVN_SETs_FRT2
   { base := 0x40040144, dims := [(0x100, 4)], reset := 0x0, w1c := 0x600000 },  -- WVN_SETs_STAT
   { base := 0x40040148, dims := [(0x100, 4)], reset := 0x0 },  -- WVN_SETs_ISL_STAMP
   { base := 0x4004014C, dims := [(0x100, 4)], reset := 0x0 },  -- WVN_SETs_ISL_CAUSE
   { base := 0x40040150, dims := [(0x100, 4)], reset := 0x0 },  -- WVN_SETs_FRT_STAMP
   { base := 0x40040154, dims := [(0x100, 4)], reset := 0x0 } ]  -- WVN_SETs_CNT

/-- Register rows of WVN (spec/05), part 2. -/
def rowsWVN2 : List RegRow :=
  [{ base := 0x40040158, dims := [(0x100, 4)], reset := 0x0 },  -- WVN_SETs_LCNT
   { base := 0x40040500, dims := [(0x40, 8)], reset := 0x0, rw := 0x3FF3F07, action := 0x4000000 },  -- WVN_MPPm_CFG
   { base := 0x40040504, dims := [(0x40, 8)], reset := 0x408, rw := 0xFFFFFFF },  -- WVN_MPPm_TIM
   { base := 0x40040508, dims := [(0x40, 8)], reset := 0xFFFF0000, rw := 0xFFFFFFFF },  -- WVN_MPPm_VLIM
   { base := 0x4004050C, dims := [(0x40, 8)], reset := 0x1000040, rw := 0xFFFFFFFF },  -- WVN_MPPm_STEP
   { base := 0x40040510, dims := [(0x40, 8)], reset := 0x0, rw := 0xFFFFFFFF },  -- WVN_MPPm_K
   { base := 0x40040514, dims := [(0x40, 8)], reset := 0x0, rw := 0xFFFFFFFF },  -- WVN_MPPm_LIM
   { base := 0x40040518, dims := [(0x40, 8)], reset := 0xA003C, rw := 0xFF0FFF },  -- WVN_MPPm_SCAN
   { base := 0x4004051C, dims := [(0x40, 8)], reset := 0x0 },  -- WVN_MPPm_STAT
   { base := 0x40041000, dims := [(0x80, 4), (0x4, 24)], reset := 0x0 },  -- WVN_Ls_n
   { base := 0x40041200, dims := [(0x10, 8), (0x4, 4)], reset := 0x0 },  -- WVN_Mm_n
   { base := 0x40042000, dims := [(0x400, 4), (0x100, 3), (0x4, 64)], reset := 0x0 },  -- WVN_Hs_p_h
   { base := 0x40043000, dims := [(0x100, 4), (0x4, 32)], reset := 0x0, rw := 0xFFFFFFFF },  -- WVN_LVs_i
   { base := 0x40043080, dims := [(0x100, 4), (0x4, 32)], reset := 0x0, rw := 0xFFFFFFFF } ]  -- WVN_HVs_i

/-- Register rows of WVN (spec/05). -/
def rowsWVN : List RegRow := rowsWVN1 ++ rowsWVN2

/-- Register rows of MILL (spec/06). -/
def rowsMILL : List RegRow :=
  [{ base := 0x40050000, dims := [], reset := 0x0, rw := 0x1, w1s := 0x80000000 },  -- MILL_CTRL
   { base := 0x40050004, dims := [], reset := 0x0, w1c := 0x50 },  -- MILL_STAT
   { base := 0x40050100, dims := [(0x20, 8)], reset := 0x0, rwl := 0xFFFF1F },  -- MILL_TASKt_BIND
   { base := 0x40050104, dims := [(0x20, 8)], reset := 0x40, rwl := 0xFFFFFF },  -- MILL_TASKt_TIME
   { base := 0x40050108, dims := [(0x20, 8)], reset := 0x0, rwl := 0xFFF },  -- MILL_TASKt_ENTRY
   { base := 0x4005010C, dims := [(0x20, 8)], reset := 0x0 },  -- MILL_TASKt_WCET
   { base := 0x40050110, dims := [(0x20, 8)], reset := 0x202, rwl := 0xFF0F },  -- MILL_TASKt_POL
   { base := 0x40050114, dims := [(0x20, 8)], reset := 0x0, w1c := 0x1F60 },  -- MILL_TASKt_STAT
   { base := 0x40050118, dims := [(0x20, 8)], reset := 0x0 },  -- MILL_TASKt_LOSS
   { base := 0x4005011C, dims := [(0x20, 8)], reset := 0x0, action := 0x7 },  -- MILL_TASKt_CTRL
   { base := 0x40050200, dims := [(0x4, 64)], reset := 0x0, rwl := 0x7FFFFFFF },  -- MILL_CHKk
   { base := 0x40050300, dims := [(0x4, 32)], reset := 0x0, rwl := 0xFFFFFFFF },  -- MILL_STGOWNj
   { base := 0x40050400, dims := [(0x4, 64)], reset := 0x0 } ]  -- MILL_OUTn

/-- Register rows of LOOM (spec/08). -/
def rowsLOOM : List RegRow :=
  [{ base := 0x40060000, dims := [], reset := 0x0, w1s := 0x80000000 },  -- LOOM_CTRL
   { base := 0x40060004, dims := [], reset := 0x0 },  -- LOOM_STAT
   { base := 0x40060008, dims := [], reset := 0x0, action := 0xFFFFFF },  -- LOOM_UNBLOCK
   { base := 0x4006000C, dims := [], reset := 0x0 },  -- LOOM_DLL
   { base := 0x40060040, dims := [(0x20, 8)], reset := 0x0, rwl := 0xFFFFFF },  -- LOOM_PERc
   { base := 0x40060044, dims := [(0x20, 8)], reset := 0x4, rw := 0x10, rwl := 0xF },  -- LOOM_CARc
   { base := 0x40060048, dims := [(0x20, 8)], reset := 0xC000, rwl := 0xFFFF },  -- LOOM_CPHc
   { base := 0x4006004C, dims := [(0x20, 8)], reset := 0x0, rwl := 0x1FFFFFF },  -- LOOM_PHOFFc
   { base := 0x40060050, dims := [(0x20, 8)], reset := 0x0 },  -- LOOM_CSTATc
   { base := 0x40060200, dims := [(0x20, 24)], reset := 0x200, rwl := 0x3FF },  -- LOOM_LEGl_CFG
   { base := 0x40060204, dims := [(0x20, 24)], reset := 0x6400, rwl := 0x3FFFF },  -- LOOM_LEGl_DTH
   { base := 0x40060208, dims := [(0x20, 24)], reset := 0x6400, rwl := 0x3FFFF },  -- LOOM_LEGl_DTL
   { base := 0x4006020C, dims := [(0x20, 24)], reset := 0x100, rwl := 0x1FFFF },  -- LOOM_LEGl_MINP
   { base := 0x40060210, dims := [(0x20, 24)], reset := 0x0, rw := 0x3FFFFFF },  -- LOOM_LEGl_CMPU
   { base := 0x40060214, dims := [(0x20, 24)], reset := 0x0, rw := 0x3FFFFFF },  -- LOOM_LEGl_CMPD
   { base := 0x40060218, dims := [(0x20, 24)], reset := 0x0, w1c := 0x1000 },  -- LOOM_LEGl_STAT
   { base := 0x4006021C, dims := [(0x20, 24)], reset := 0x0 },  -- LOOM_LEGl_CNT
   { base := 0x40060600, dims := [(0x10, 16)], reset := 0x0, rwl := 0x7FFFF07 },  -- LOOM_TLk_CFG
   { base := 0x40060604, dims := [(0x10, 16)], reset := 0x0, rwl := 0xFFFFFF },  -- LOOM_TLk_MASK
   { base := 0x40060608, dims := [(0x10, 16)], reset := 0x0, w1c := 0x6 } ]  -- LOOM_TLk_STAT

/-- Register rows of GDP (spec/09). -/
def rowsGDP : List RegRow :=
  [{ base := 0x40070000, dims := [], reset := 0x0, w1s := 0x80000000 },  -- GDP_CTRL
   { base := 0x40070004, dims := [], reset := 0x0, w1c := 0x80 },  -- GDP_STAT
   { base := 0x40070010, dims := [], reset := 0x0, rwl := 0xFFFFFF },  -- GDP_FLT_EN
   { base := 0x40070014, dims := [], reset := 0xFFFFFF, rwl := 0xFFFFFF },  -- GDP_FLT_POL
   { base := 0x40070018, dims := [], reset := 0x1, rwl := 0x3 },  -- GDP_FLT_GLITCH
   { base := 0x4007001C, dims := [], reset := 0x0, w1c := 0xFFFFFF },  -- GDP_FLT_LATCH
   { base := 0x40070020, dims := [], reset := 0x0 },  -- GDP_FLT_PIN
   { base := 0x40070030, dims := [(0x4, 3)], reset := 0x0, rwl := 0xFFFFFFFF },  -- GDP_GRPMAPj
   { base := 0x40070040, dims := [(0x4, 8)], reset := 0x5001, rwl := 0xFF03 },  -- GDP_GRPg_CFG
   { base := 0x40070060, dims := [], reset := 0x0, w1c := 0x1FF },  -- GDP_GRP_STAT
   { base := 0x40070080, dims := [(0x20, 2)], reset := 0x0, rwl := 0xFF073F01, action := 0x80000 },  -- GDP_LINKn_CFG
   { base := 0x40070084, dims := [(0x20, 2)], reset := 0x0, rwl := 0xFFFFFF },  -- GDP_LINKn_MASK
   { base := 0x40070088, dims := [(0x20, 2)], reset := 0x640064, rwl := 0xFFFFFFFF },  -- GDP_LINKn_TMIN
   { base := 0x4007008C, dims := [(0x20, 2)], reset := 0x0, rwl := 0xFFFFFFFF },  -- GDP_LINKn_PON
   { base := 0x40070090, dims := [(0x20, 2)], reset := 0x0, rwl := 0xFFFF },  -- GDP_LINKn_TAU
   { base := 0x40070094, dims := [(0x20, 2)], reset := 0x0, rwl := 0xFFFFFFFF },  -- GDP_LINKn_EMAX
   { base := 0x40070098, dims := [(0x20, 2)], reset := 0x0 },  -- GDP_LINKn_THETA
   { base := 0x4007009C, dims := [(0x20, 2)], reset := 0x0, w1c := 0x29 },  -- GDP_LINKn_STAT
   { base := 0x40070100, dims := [(0x10, 8)], reset := 0x0, rwl := 0xFFFF1F07 },  -- GDP_GDn_CFG
   { base := 0x40070104, dims := [(0x10, 8)], reset := 0x0, rw := 0x1 },  -- GDP_GDn_CTRL
   { base := 0x40070108, dims := [(0x10, 8)], reset := 0xA01, rwl := 0xFF01 },  -- GDP_GDn_MON
   { base := 0x4007010C, dims := [(0x10, 8)], reset := 0x0, w1c := 0x70 },  -- GDP_GDn_STAT
   { base := 0x40070180, dims := [], reset := 0x0, rw := 0x1 } ]  -- GDP_CP

/-- Register rows of CMP (spec/10). -/
def rowsCMP : List RegRow :=
  [{ base := 0x40080000, dims := [], reset := 0x180064, w1s := 0x80000000, rwl := 0xFFFFFF },  -- CMP_CTRL
   { base := 0x40080004, dims := [], reset := 0x0 },  -- CMP_STAT
   { base := 0x40080010, dims := [(0x4, 2)], reset := 0x0, w1c := 0xFFFFFFFF },  -- CMP_IRQSTATj
   { base := 0x40080100, dims := [(0x10, 48)], reset := 0x0, rwl := 0xFFF0F77 },  -- CMP_WINw_CFG
   { base := 0x40080104, dims := [(0x10, 48)], reset := 0x0, rwl := 0x3FFFFFFF },  -- CMP_WINw_TH
   { base := 0x40080108, dims := [(0x10, 48)], reset := 0x0, rwl := 0xFFFFFF },  -- CMP_WINw_MASK
   { base := 0x4008010C, dims := [(0x10, 48)], reset := 0x0, w1c := 0x700 },  -- CMP_WINw_STAT
   { base := 0x40080400, dims := [(0x4, 48)], reset := 0x0 },  -- CMP_WINw_RB
   { base := 0x40080500, dims := [(0x4, 2)], reset := 0x0, rw := 0x3FF },  -- CMP_WAKEn
   { base := 0x40080508, dims := [], reset := 0x0, w1c := 0xC } ]  -- CMP_WAKE_STAT

/-- Register rows of GRN (spec/11), part 1. -/
def rowsGRN1 : List RegRow :=
  [{ base := 0x40090000, dims := [], reset := 0x0, w1s := 0x80000000, rws := 0xFF, secure := true, lockRws := true },  -- GRN_CTRL
   { base := 0x40090004, dims := [], reset := 0x0, w1c := 0x5 },  -- GRN_STAT
   { base := 0x40090010, dims := [], reset := 0xA, rws := 0xFFF, action := 0x10000, secure := true, lockRws := true },  -- GRN_JRN
   { base := 0x40090014, dims := [], reset := 0x0, w1c := 0x2 },  -- GRN_JSTAT
   { base := 0x40090018, dims := [], reset := 0x0 },  -- GRN_JSEQ
   { base := 0x4009001C, dims := [], reset := 0x0 },  -- GRN_UNC_T
   { base := 0x40090020, dims := [], reset := 0x0, rw := 0x2, w1c := 0x4, action := 0x1 },  -- GRN_SNAP_CTRL
   { base := 0x40090024, dims := [], reset := 0x0 },  -- GRN_SNAP_STAMP_LO
   { base := 0x40090028, dims := [], reset := 0x0 },  -- GRN_SNAP_STAMP_HI
   { base := 0x4009002C, dims := [], reset := 0x0 },  -- GRN_SNAP_CNT
   { base := 0x40090040, dims := [(0x4, 8)], reset := 0x0 },  -- GRN_UNC_En
   { base := 0x40090060, dims := [(0x4, 8)], reset := 0x0 },  -- GRN_GAPn
   { base := 0x40090080, dims := [(0x10, 4)], reset := 0x0, rws := 0x7F07FF, secure := true, lockRws := true },  -- GRN_EPOk_CFG
   { base := 0x40090084, dims := [(0x10, 4)], reset := 0x1, rws := 0x1FFFF, secure := true, lockRws := true },  -- GRN_EPOk_CONST
   { base := 0x40090088, dims := [(0x10, 4)], reset := 0x0, w1c := 0x40000000 },  -- GRN_EPOk_STAT
   { base := 0x40090100, dims := [(0x80, 4)], reset := 0x10, rws := 0xFF, secure := true, lockRws := true },  -- GRN_ACm_CFG
   { base := 0x40090104, dims := [(0x80, 4)], reset := 0x0, rws := 0x3F3F3F, secure := true, lockRws := true },  -- GRN_ACm_STRV
   { base := 0x40090108, dims := [(0x80, 4)], reset := 0x0, rws := 0x3F3F3F, secure := true, lockRws := true },  -- GRN_ACm_STRI
   { base := 0x4009010C, dims := [(0x80, 4)], reset := 0x320400, rws := 0x3FFFFFF, secure := true, lockRws := true },  -- GRN_ACm_ZX
   { base := 0x40090110, dims := [(0x80, 4)], reset := 0x0, rws := 0xFFFF, secure := true, lockRws := true },  -- GRN_ACm_NL
   { base := 0x40090114, dims := [(0x80, 4)], reset := 0x0, rws := 0xFFFFFFFF, secure := true, lockRws := true },  -- GRN_ACm_PHCA
   { base := 0x40090118, dims := [(0x80, 4)], reset := 0x0, rws := 0xFFFF, secure := true, lockRws := true },  -- GRN_ACm_PHCC
   { base := 0x4009011C, dims := [(0x80, 4)], reset := 0x0, w1c := 0x20 },  -- GRN_ACm_STAT
   { base := 0x40090120, dims := [(0x80, 4), (0x4, 3)], reset := 0x0, rws := 0xFFFFFFFF, secure := true, lockRws := true } ]  -- GRN_ACm_KVp

/-- Register rows of GRN (spec/11), part 2. -/
def rowsGRN2 : List RegRow :=
  [{ base := 0x4009012C, dims := [(0x80, 4), (0x4, 3)], reset := 0x0, rws := 0xFFFFFFFF, secure := true, lockRws := true },  -- GRN_ACm_KIp
   { base := 0x40090138, dims := [(0x80, 4), (0x4, 3)], reset := 0x0, rws := 0xFFFFFFFF, secure := true, lockRws := true },  -- GRN_ACm_KEp
   { base := 0x40090144, dims := [(0x80, 4), (0x4, 8)], reset := 0x0 },  -- GRN_ACm_LIVEn
   { base := 0x40090300, dims := [(0x20, 4)], reset := 0x0, rws := 0x2, secure := true, lockRws := true },  -- GRN_DCm_CFG
   { base := 0x40090304, dims := [(0x20, 4)], reset := 0x0, rws := 0x3F3F, secure := true, lockRws := true },  -- GRN_DCm_STR
   { base := 0x40090308, dims := [(0x20, 4)], reset := 0x0, rws := 0xFFFF, secure := true, lockRws := true },  -- GRN_DCm_NL
   { base := 0x4009030C, dims := [(0x20, 4)], reset := 0x0, rws := 0xFFFFFFFF, secure := true, lockRws := true },  -- GRN_DCm_KE
   { base := 0x40090310, dims := [(0x20, 4)], reset := 0x0, rws := 0xFFFFFFFF, secure := true, lockRws := true },  -- GRN_DCm_KQ
   { base := 0x40090314, dims := [(0x20, 4)], reset := 0x0, w1c := 0x20 },  -- GRN_DCm_STAT
   { base := 0x40090318, dims := [(0x20, 4)], reset := 0x0 },  -- GRN_DCm_PMAX
   { base := 0x40090600, dims := [(0x8, 8)], reset := 0x0 },  -- GRN_RPLn_LO
   { base := 0x40090604, dims := [(0x8, 8)], reset := 0x0 },  -- GRN_RPLn_HI
   { base := 0x40090700, dims := [(0x10, 16)], reset := 0x0, rws := 0x3FF, secure := true, lockRws := true },  -- GRN_WCk_CFG
   { base := 0x40090704, dims := [(0x10, 16)], reset := 0x0 },  -- GRN_WCk_CNT
   { base := 0x40090708, dims := [(0x10, 16)], reset := 0x0 },  -- GRN_WCk_WRAP
   { base := 0x40091000, dims := [(0x200, 4), (0x80, 4), (0x8, 10)], reset := 0x0 },  -- GRN_ACm_p_q_LO
   { base := 0x40091004, dims := [(0x200, 4), (0x80, 4), (0x8, 10)], reset := 0x0 },  -- GRN_ACm_p_q_HI
   { base := 0x40091800, dims := [(0x20, 4), (0x8, 4)], reset := 0x0 },  -- GRN_DCm_q_LO
   { base := 0x40091804, dims := [(0x20, 4), (0x8, 4)], reset := 0x0 },  -- GRN_DCm_q_HI
   { base := 0x40092000, dims := [(0x200, 4), (0x80, 4), (0x8, 10)], reset := 0x0 },  -- GRN_S_ACm_p_q_LO
   { base := 0x40092004, dims := [(0x200, 4), (0x80, 4), (0x8, 10)], reset := 0x0 },  -- GRN_S_ACm_p_q_HI
   { base := 0x40092800, dims := [(0x20, 4), (0x8, 4)], reset := 0x0 },  -- GRN_S_DCm_q_LO
   { base := 0x40092804, dims := [(0x20, 4), (0x8, 4)], reset := 0x0 },  -- GRN_S_DCm_q_HI
   { base := 0x40092900, dims := [(0x8, 16)], reset := 0x0 } ]  -- GRN_S_WCk_CNT

/-- Register rows of GRN (spec/11), part 3. -/
def rowsGRN3 : List RegRow :=
  [{ base := 0x40092904, dims := [(0x8, 16)], reset := 0x0 } ]  -- GRN_S_WCk_WRAP

/-- Register rows of GRN (spec/11). -/
def rowsGRN : List RegRow := rowsGRN1 ++ rowsGRN2 ++ rowsGRN3

/-- Register rows of SHF (spec/12). -/
def rowsSHF : List RegRow :=
  [{ base := 0x400A0000, dims := [], reset := 0x0, rw := 0x7, w1s := 0x80000000 },  -- SHF_CTRL
   { base := 0x400A0100, dims := [(0x40, 2)], reset := 0x0, rwl := 0xFFFF037F },  -- SHF_ENCn_CFG
   { base := 0x400A0104, dims := [(0x40, 2)], reset := 0x1000, rwl := 0xFFFFFF },  -- SHF_ENCn_CPR
   { base := 0x400A0108, dims := [(0x40, 2)], reset := 0x0, rwl := 0xFFFFFFFF },  -- SHF_ENCn_IDX
   { base := 0x400A010C, dims := [(0x40, 2)], reset := 0x64, rwl := 0xFFFF },  -- SHF_ENCn_SPD
   { base := 0x400A0110, dims := [(0x40, 2)], reset := 0xA130D19, rwl := 0xFFFF7F3F },  -- SHF_ENCn_SSI
   { base := 0x400A0114, dims := [(0x40, 2)], reset := 0x0, rwl := 0x11FFF },  -- SHF_ENCn_DEP
   { base := 0x400A0118, dims := [(0x40, 2)], reset := 0x0, w1c := 0x7C },  -- SHF_ENCn_STAT
   { base := 0x400A011C, dims := [(0x40, 2)], reset := 0x0 },  -- SHF_ENCn_POS
   { base := 0x400A0120, dims := [(0x40, 2)], reset := 0x0 },  -- SHF_ENCn_IDXCAP
   { base := 0x400A0124, dims := [(0x40, 2)], reset := 0x0 },  -- SHF_ENCn_CNT
   { base := 0x400A0130, dims := [(0x40, 2), (0x4, 4)], reset := 0x0 },  -- SHF_ENCn_Li
   { base := 0x400A0200, dims := [], reset := 0x3FF1400, rwl := 0xFFFFFF01 },  -- SHF_EMU_CFG
   { base := 0x400A0204, dims := [], reset := 0x0, w1c := 0x80000000 } ]  -- SHF_EMU_STAT

/-- Register rows of RING (spec/13), part 1. -/
def rowsRING1 : List RegRow :=
  [{ base := 0x400B0000, dims := [], reset := 0x0, rw := 0x3, w1s := 0x80000000, action := 0xC },  -- RING_CTRL
   { base := 0x400B0004, dims := [], reset := 0x0, rwl := 0x3FF1F },  -- RING_CFG
   { base := 0x400B0008, dims := [], reset := 0x0, rwl := 0xFF07 },  -- RING_RND
   { base := 0x400B000C, dims := [], reset := 0xFF821003, rwl := 0xFFFFFFFF },  -- RING_TIM
   { base := 0x400B0010, dims := [], reset := 0x0, rwl := 0xFFFF },  -- RING_ASYMA
   { base := 0x400B0014, dims := [], reset := 0x0, rwl := 0xFFFF },  -- RING_ASYMB
   { base := 0x400B0020, dims := [], reset := 0x0 },  -- RING_STAT
   { base := 0x400B0024, dims := [], reset := 0x0, w1c := 0xFFF },  -- RING_ERR
   { base := 0x400B0028, dims := [], reset := 0x0 },  -- RING_ROUND
   { base := 0x400B002C, dims := [], reset := 0x0 },  -- RING_GEN
   { base := 0x400B0030, dims := [], reset := 0x0 },  -- RING_THETA
   { base := 0x400B0034, dims := [], reset := 0x0 },  -- RING_DLYA
   { base := 0x400B0038, dims := [], reset := 0x0 },  -- RING_DLYB
   { base := 0x400B003C, dims := [], reset := 0x0 },  -- RING_PATH
   { base := 0x400B0040, dims := [], reset := 0x0 },  -- RING_HOPS
   { base := 0x400B0044, dims := [], reset := 0x0 },  -- RING_TNEED
   { base := 0x400B0048, dims := [], reset := 0x0 },  -- RING_CNT
   { base := 0x400B0050, dims := [], reset := 0x0 },  -- RING_IDLO
   { base := 0x400B0054, dims := [], reset := 0x0 },  -- RING_IDHI
   { base := 0x400B0080, dims := [(0x4, 6)], reset := 0x0, rwl := 0x1FFF },  -- RING_TXs
   { base := 0x400B0100, dims := [(0x4, 64)], reset := 0x0, rwl := 0x3FFFFFFF },  -- RING_RXk
   { base := 0x400B0400, dims := [(0x4, 256)], reset := 0x0 },  -- RING_RXWr
   { base := 0x400B0800, dims := [(0x4, 8)], reset := 0x0 },  -- RING_RXVj
   { base := 0x400B0A00, dims := [(0x4, 128)], reset := 0x0, rw := 0xFFFFFFFF } ]  -- RING_TXWw

/-- Register rows of RING (spec/13), part 2. -/
def rowsRING2 : List RegRow :=
  [{ base := 0x400B4000, dims := [(0x4, 6144)], reset := 0x0, rwl := 0x3F } ]  -- RING_ROSTERe

/-- Register rows of RING (spec/13). -/
def rowsRING : List RegRow := rowsRING1 ++ rowsRING2

/-- Register rows of SAFE (spec/14). -/
def rowsSAFE : List RegRow :=
  [{ base := 0x400C0000, dims := [], reset := 0x0 },  -- SAFE_STAT
   { base := 0x400C0004, dims := [], reset := 0x0 },  -- SAFE_PGEN
   { base := 0x400C0008, dims := [], reset := 0x0 },  -- SAFE_PCRC
   { base := 0x400C0010, dims := [], reset := 0x0 },  -- SAFE_INA
   { base := 0x400C0014, dims := [], reset := 0x0 },  -- SAFE_INB
   { base := 0x400C0018, dims := [], reset := 0x0 },  -- SAFE_INFLT
   { base := 0x400C001C, dims := [], reset := 0x0 },  -- SAFE_GUARD
   { base := 0x400C0020, dims := [], reset := 0x0 },  -- SAFE_OUT
   { base := 0x400C0024, dims := [], reset := 0x0 },  -- SAFE_OSTATE
   { base := 0x400C0028, dims := [], reset := 0x0 },  -- SAFE_CONN
   { base := 0x400C002C, dims := [], reset := 0x0 },  -- SAFE_DIAG
   { base := 0x400C0030, dims := [], reset := 0x0 },  -- SAFE_STAMP
   { base := 0x400C0034, dims := [], reset := 0x0 } ]  -- SAFE_CNT

/-- Register rows of DMA (spec/16). -/
def rowsDMA : List RegRow :=
  [{ base := 0x400D0000, dims := [], reset := 0x0, w1s := 0x80000000 },  -- DMA_CTRL
   { base := 0x400D0004, dims := [], reset := 0x0 },  -- DMA_STAT
   { base := 0x400D0100, dims := [(0x20, 16)], reset := 0x0, rwl := 0xFFFFFFFF },  -- DMA_CHn_SRC
   { base := 0x400D0104, dims := [(0x20, 16)], reset := 0x0, rwl := 0xFFFFFFFF },  -- DMA_CHn_DST
   { base := 0x400D0108, dims := [(0x20, 16)], reset := 0x0, rwl := 0xFFFF },  -- DMA_CHn_LEN
   { base := 0x400D010C, dims := [(0x20, 16)], reset := 0x0, rw := 0x1, rwl := 0xF1E, rws := 0x10000 },  -- DMA_CHn_CFG
   { base := 0x400D0110, dims := [(0x20, 16)], reset := 0x0, action := 0x3 },  -- DMA_CHn_CTRL
   { base := 0x400D0114, dims := [(0x20, 16)], reset := 0x0, w1c := 0x11 },  -- DMA_CHn_STAT
   { base := 0x400D0118, dims := [(0x20, 16)], reset := 0x0 } ]  -- DMA_CHn_EADDR

/-- Register rows of EVT (spec/16). -/
def rowsEVT : List RegRow :=
  [{ base := 0x400E0000, dims := [], reset := 0x0, w1s := 0x80000000 },  -- EVT_CTRL
   { base := 0x400E0004, dims := [], reset := 0x0, action := 0xFF },  -- EVT_FORCE
   { base := 0x400E0100, dims := [(0x4, 128)], reset := 0x0, rwl := 0x1FF } ]  -- EVT_SINKk

/-- Register rows of WLD (spec/16). -/
def rowsWLD : List RegRow :=
  [{ base := 0x400F0000, dims := [], reset := 0x0, w1s := 0x80000000, secure := true },  -- WLD_CTRL
   { base := 0x400F0004, dims := [], reset := 0x9000, rwl := 0x1FFFF, secure := true },  -- WLD_BLKWORLD
   { base := 0x400F0010, dims := [], reset := 0x0 },  -- WLD_FAULT_ADDR
   { base := 0x400F0014, dims := [], reset := 0x0, w1c := 0xC0000000, secure := true },  -- WLD_FAULT_INFO
   { base := 0x400F0020, dims := [], reset := 0x0 },  -- WLD_ECC
   { base := 0x400F0024, dims := [], reset := 0x0 },  -- WLD_ECC_ADDR
   { base := 0x400F0030, dims := [], reset := 0x0 },  -- WLD_MRAM
   { base := 0x400F0038, dims := [], reset := 0x0 },  -- WLD_OTP
   { base := 0x400F003C, dims := [], reset := 0x174405E3 },  -- WLD_IDCODE
   { base := 0x400F0100, dims := [(0x10, 32)], reset := 0x0, rwl := 0xFFFFFF00, secure := true },  -- WLD_RGNr_BASE
   { base := 0x400F0104, dims := [(0x10, 32)], reset := 0x0, rwl := 0xFFFFFF00, secure := true },  -- WLD_RGNr_LIMIT
   { base := 0x400F0108, dims := [(0x10, 32)], reset := 0x0, rwl := 0x1F, secure := true } ]  -- WLD_RGNr_ATTR

/-- Register rows of TST (spec/03). -/
def rowsTST : List RegRow :=
  [{ base := 0x40100000, dims := [], reset := 0x0, w1s := 0x80000000, rws := 0x1, secure := true, lockRws := true },  -- TST_CTRL
   { base := 0x40100004, dims := [], reset := 0xACE1, rws := 0xFFFF, secure := true, lockRws := true },  -- TST_SEED
   { base := 0x40100010, dims := [(0x4, 8)], reset := 0x0, rws := 0x3FF, secure := true, lockRws := true },  -- TST_DLYk
   { base := 0x40100040, dims := [], reset := 0x0, w1c := 0x11F },  -- TST_VOID_STAT
   { base := 0x40100044, dims := [], reset := 0x0 },  -- TST_VOID_CNT
   { base := 0x40100048, dims := [], reset := 0x0 },  -- TST_VOID_FIRST
   { base := 0x4010004C, dims := [], reset := 0x0 },  -- TST_VOID_LAST
   { base := 0x40100060, dims := [], reset := 0x0, rws := 0xFFFF0073, action := 0xC, secure := true, lockRws := true },  -- TST_RPL_CTRL
   { base := 0x40100064, dims := [], reset := 0x10000000, rws := 0xFFFFFFFC, secure := true, lockRws := true },  -- TST_RPL_BASE
   { base := 0x40100068, dims := [], reset := 0x0, rws := 0xFFFFF, secure := true, lockRws := true },  -- TST_RPL_LEN
   { base := 0x4010006C, dims := [], reset := 0x0, w1c := 0x2 },  -- TST_RPL_STAT
   { base := 0x40100070, dims := [], reset := 0x0 },  -- TST_DIGEST
   { base := 0x40100074, dims := [], reset := 0x0, rws := 0x1F, secure := true, lockRws := true },  -- TST_RPL_PHASE
   { base := 0x40100078, dims := [], reset := 0x0 } ]  -- TST_RPL_POS

/-- The rows of block `i`, in the block order of R345. -/
def blockRows : Nat → List RegRow
  | 0 => rowsSYS
  | 1 => rowsCLK
  | 2 => rowsACQ
  | 3 => rowsPRISM
  | 4 => rowsWVN
  | 5 => rowsMILL
  | 6 => rowsLOOM
  | 7 => rowsGDP
  | 8 => rowsCMP
  | 9 => rowsGRN
  | 10 => rowsSHF
  | 11 => rowsRING
  | 12 => rowsSAFE
  | 13 => rowsDMA
  | 14 => rowsEVT
  | 15 => rowsWLD
  | 16 => rowsTST
  | _ => []

/-- The block index of an address (R326, R345); 17 or more is no block. -/
def blockIndex (a : Nat) : Nat := (a - 0x40000000) / 0x10000

/-- The row that describes the register at an address, if the block's address table lists it (R6). -/
def regRow? (a : Nat) : Option RegRow :=
  if a < 0x40000000 then none else (blockRows (blockIndex a)).find? (fun r => r.covers a)

/-- Reset values of the profile points 0 to 4 (spec/05, the list after WVN_LVs_i). -/
def profileReset (high : Bool) : Nat → Word
  | 0 => if high then 0x53330000 else 0x00000000
  | 1 => if high then 0x533303E8 else 0x000005DC
  | 2 => if high then 0x4CCD03E8 else 0x133305DC
  | 3 => if high then 0x4CCD2710 else 0x36663A98
  | 4 => if high then 0x46662710 else 0x399A7530
  | _ => 0

/-- The value an address of the peripheral blocks reads as while nothing has been stored there: the reset value of its
register, or 0 where no register is listed (R6). The unique ID is the device's own (spec/13). -/
def regReset (a : Nat) : Word :=
  if 0x40043000 ≤ a ∧ a < 0x40043400 then
    (let d := a - 0x40043000; if d % 4 = 0 then profileReset (0x80 ≤ d % 0x100) (d % 0x80 / 4) else 0)
  else if a = 0x400B0050 then Config.uniqueId.setWidth 32
  else if a = 0x400B0054 then (Config.uniqueId >>> 32).setWidth 32
  else match regRow? a with
    | some r => r.reset
    | none => 0

end Sys2Proof.Machine
end

