-- ==== Sys2Proof/Machine/State.lean ====
section
/-! DEFINITION. Machine/State.lean: the state of the block, as plain data. Every register of the address tables is held
in `regs` (a canonical sparse store over the reset values of Machine/RegTable.lean); what the spec gives the machine beside
its registers is held in one structure for each subsystem. Every field's default is its value right after reset. -/

namespace Sys2Proof.Machine

/-- Why the machine stops with a fault. No command of the spec stops the block: nobody raises this, which is safe. -/
inductive Fault where
  /-- Raised by nobody: the spec gives every command an effect. Safe. -/
  | unreachable
  deriving DecidableEq, Repr

/-- Why a command is refused by the model. -/
inductive Refusal where
  /-- Raised by an arm of `exec` whose command has no meaning yet. Safe: nothing is claimed of it. -/
  | notModelled (mnemonic : String)
  deriving DecidableEq, Repr

/-- The registers of the peripheral blocks that differ from their reset values (R2). -/
abbrev RegStore := List (Nat × Word)

/-- A byte memory: the bytes that differ from 0, in canonical form. -/
abbrev Memory := List Host.Cell

/-- A memory of 32-bit words: the words that differ from 0, in canonical form. -/
abbrev WordStore := List (Nat × Word)

/-- The ramp-profile engine (R26). -/
structure Ramp where
  running : Bool := false
  seg : Nat := 0
  msLeft : Nat := 0
  /-- COUNT of the next ms tick. -/
  nextAt : Nat := 0
  startTrim : Int := 0
  returning : Bool := false
  deriving DecidableEq, Repr

/-- Clocks, timebase, RTC and the halves that compare and capture units hold (R19 to R40). -/
structure Clk where
  /-- COUNT (R31). -/
  count : Dword := 0
  /-- FINE (R32). -/
  fine : BitVec 6 := 0
  /-- A borrow out of FINE holds COUNT for its next cycle (R32). -/
  hold : Bool := false
  /-- EPOCH (R33). -/
  epoch : BitVec 16 := 0
  ramp : Ramp := {}
  /-- RTC seconds (R38). -/
  rtcSec : BitVec 48 := 0
  /-- RTC sub-second count as last shown, or as a second, load or trim interval left it (R38, R39). -/
  rtcSub : BitVec 15 := 0
  /-- COUNT at the last second or load, while COUNT has measured the time since, and the sub-second count there: trim ticks are added
  to it or removed from it (R39). -/
  rtcAt : Option Nat := none
  rtcBase : Int := 0
  /-- Held LO half of an RTC write (R38). -/
  rtcHeldLo : Word := 0
  /-- Seconds gone in the 32 s trim interval (R39). -/
  rtcInterval : Nat := 0
  /-- COUNT at the last RTC second (R40). -/
  rtcTb : Dword := 0
  /-- Held LO half of each compare target (R35). -/
  cmpHeldLo : List Word := List.replicate 16 0
  /-- HI half of each captured COUNT, before a LO read latches it (R37). -/
  capHi : List Word := List.replicate 8 0
  /-- CORE, CONV and HOST run on the monitor oscillator (R30). -/
  coreOnMonitor : Bool := false
  /-- STEW runs on the monitor oscillator (R30). -/
  stewOnMonitor : Bool := false
  /-- The 25 MHz reference is missing (R30). -/
  refMissing : Bool := false
  /-- An accepted trim that the next reference edge applies (R23), and CORE cycles before that edge: one comes every 16. -/
  trimNext : Option Int := none
  refIn : Nat := 0
  deriving DecidableEq, Repr

/-- How far the device has come since its last reset. -/
inductive Phase where
  /-- The power-up sequence runs (R387). -/
  | boot
  /-- A boot is complete. -/
  | run
  /-- The boot ROM's recovery state (R359). -/
  | recovery
  /-- KEEP: only the KEEP domain runs (R383). -/
  | keep
  deriving DecidableEq, Repr

/-- Modes, power and reset beside the SYS registers (R375 to R390). -/
structure Sys where
  phase : Phase := .boot
  /-- COUNT at which HOLD ends (R379). -/
  holdEnd : Nat := 0
  /-- COUNT at which a requested COMMAND reset takes effect (R384). -/
  resetDue : Option Nat := none
  /-- KEEP was entered through a brown-out (R388). -/
  brownOut : Bool := false
  /-- The KEEP domain has lost its content, and no boot has begun since (R383, R384). -/
  keepLost : Bool := false
  /-- SYS_LTR has been written, and the latency policy has not decided on it yet (R377, R379). -/
  ltrWritten : Bool := false
  /-- The banks P, H and E (bits 0 to 2) that took 1.8 V at the last power-up (R393). -/
  bankLow : BitVec 3 := 0
  deriving DecidableEq, Repr

/-- OTP and test access (R357 to R361). -/
structure Otp where
  /-- SHA-256 hashes of the vendor keys, all zero while unwritten. -/
  keyHash : List (List Byte) := (List.range 4).map Config.vendorKeyHash
  /-- The anti-rollback counter C. -/
  arb : Nat := 0
  /-- The host session key slots, `none` while unwritten. -/
  keySlots : List (Option (List Byte)) := List.replicate 8 none
  provisioned : Bool := false
  deriving DecidableEq, Repr

/-- The test access port (R361): its instruction register, the update latches of its boundary cells, and what its last scan of BYPASS,
IDCODE, SAMPLE/PRELOAD or EXTEST has shifted out. After power-up the instruction is IDCODE (IEEE 1149.1). PRESUMED: log entry 64. -/
structure Tap where
  ir : BitVec 8 := 0x01
  cells : List Bool := []
  out : List Bool := []
  deriving DecidableEq, Repr

/-- Memories and their error marks (R346 to R353). -/
structure Mem where
  /-- SRAM by offset from 0x1000_0000 (cleared by the boot ROM, R385). -/
  sram : Memory := []
  /-- Offsets of SRAM words that hold one wrong bit (R346). -/
  sramCorrectable : List Nat := []
  /-- Offsets of SRAM words that cannot be corrected (R348). -/
  sramBad : List Nat := []
  /-- The scrubber's next word, 0 to 524,287 (R347). -/
  scrubNext : Nat := 0
  /-- MRAM by offset from 0x2000_0000 (R350). -/
  mram : Memory := []
  /-- Offsets of MRAM 64-bit words that read as uncorrectable (R352). -/
  mramBad : List Nat := []
  /-- MRAM lines whose writes fail verification, and the spare lines used (R353). -/
  worn : List Nat := []
  spares : Nat := 0
  /-- COUNT from which the next refresh is due: 24 h of operation (R352). -/
  refreshAt : Nat := 34560000000000
  deriving DecidableEq, Repr

/-- A transfer in progress on a DMA channel (R366 to R370). -/
structure DmaXfer where
  /-- The transfer's source and destination addresses. -/
  src : Nat
  dst : Nat
  /-- Bytes to move, after the rounding of R366. -/
  len : Nat
  /-- Read beats done and write beats done. -/
  reads : Nat
  writes : Nat
  /-- Words read, oldest first, and the COUNT at which each was read. -/
  words : List Word
  readAt : List Nat := []
  /-- COUNT of the last write beat, and the cycles for which perturbation withholds the next one (R58). -/
  wroteAt : Option Nat := none
  hold : Nat := 0
  /-- An ABORT has come: nothing more is read, and the channel stops when the words that it has read are written (R369). -/
  stopping : Bool := false
  deriving DecidableEq, Repr

/-- DMA channel state beside its registers: the running transfer and where a re-armed ring stands (R367). -/
structure DmaCh where
  xfer : Option DmaXfer := none
  /-- The destination the next transfer starts at, when it is not the base (DRING). -/
  ringNext : Option Nat := none
  /-- The first COUNT at which the next word may be read: the cycle after the trigger or the word before, later while perturbation
  withholds the bus grant (R58, R368). -/
  grantAt : Nat := 0
  /-- COUNT of the last trigger (R367). -/
  trigAt : Option Nat := none
  /-- A transfer has completed its last write in this cycle: its event is raised in the next one (R370). -/
  ended : Bool := false
  deriving DecidableEq, Repr

/-- An event on its way through the matrix: its source, the sinks that named it when it was raised, and the COUNT and FINE
of that cycle (R372). -/
structure Raised where
  src : Nat
  sinks : List Nat
  count : Dword
  fine : BitVec 6
  deriving DecidableEq, Repr

/-- One Loupe record (spec/15, group 0x0A). -/
structure LoupeRec where
  count : Dword
  fine : BitVec 6
  src : Nat
  value : Word
  deriving DecidableEq, Repr

/-- The Loupe's capture state: 0 idle, 1 armed, 2 triggered, 3 full. -/
structure Loupe where
  state : Nat := 0
  mask : List Byte := List.replicate 32 0
  trigger : Nat := 0
  pre : Nat := 0
  addr : Nat := 0
  recs : List LoupeRec := []
  deriving DecidableEq, Repr

/-- A packet in a transmit queue. -/
structure TxPacket where
  bytes : List Byte
  telemetry : Bool
  final : Bool
  deriving DecidableEq, Repr

/-- What a reply takes from its command: opcode, WORLD, SEQ and CTR, whether it was tagged, and its CRC. -/
structure Asked where
  opcode : Nat := 0
  world : Nat := 0
  seq : BitVec 16 := 0
  ctr : Word := 0
  tagged : Bool := false
  crc : Word := 0
  deriving DecidableEq, Repr

/-- A reply in a link's history: the SEQ of the command it answered and, when that command was executed or refused with 0x0020 or
above, its CRC; the reply's SEQ; its header and payload as first sent, without TAG, REPEAT and ATTN; and whether it is tagged
(R327, R328). -/
structure HistEntry where
  cmdSeq : BitVec 16
  ran : Option Word
  replySeq : BitVec 16
  body : List Byte
  tagged : Bool
  deriving DecidableEq, Repr

/-- An open session (R335): its key, the last CTR accepted, and COUNT at the last tagged command. -/
structure Session where
  ks : List Byte
  ctr : Word := 0
  touched : Nat := 0
  deriving DecidableEq, Repr

/-- The state of one command link (R321 to R341). -/
structure LinkSt where
  /-- A HELLO has been executed since boot. -/
  hello : Bool := false
  /-- L, the SEQ of the last executed command. -/
  last : BitVec 16 := 0
  /-- The next reply SEQ. -/
  nextReply : BitVec 16 := 0
  lastAck : BitVec 16 := 0
  history : List HistEntry := []
  session : Option Session := none
  authFails : Nat := 0
  /-- SESSION_OPEN is answered BUSY since this COUNT (R335). -/
  blockedAt : Option Nat := none
  tx : List TxPacket := []
  /-- Replies for which the queue of 8 has no room yet, oldest first (R323). -/
  later : List TxPacket := []
  telSeq : BitVec 16 := 0
  /-- Latched attention bits 3 to 7, the mask and the log threshold (R341). -/
  attn : BitVec 8 := 0
  mask : BitVec 8 := 0xFE
  threshold : Nat := 1
  /-- Packets discarded unanswered (R321). -/
  discards : Nat := 0
  deriving DecidableEq, Repr

/-- The running or last long operation (R336). -/
structure LongOp where
  asked : Asked := {}
  link : Link := .spi
  payload : List Byte := []
  /-- 0 none, 1 running, 2 done. -/
  state : Nat := 0
  /-- 0 idle, 1 phase one, 2 phase two (CFG_INFO); of JOURNAL_COMMIT the records still to be written. -/
  phase : Nat := 0
  status : Nat := 0
  detail : Nat := 0
  /-- A ramp profile ran when its phase one judged the image: the image's trim is neither checked nor loaded (R24). -/
  keepTrim : Bool := false
  deriving DecidableEq, Repr

/-- The Crier (R340). -/
structure Crier where
  /-- 0 SPI, 1 UART, 2 off. -/
  link : Nat := 2
  mask : BitVec 8 := 0
  period : Nat := 1000
  /-- COUNT from which the next packet is due. -/
  nextAt : Nat := 0
  drops : Nat := 0
  /-- SEQ after the newest record that a LOG item has carried. -/
  logFrom : Word := 0
  deriving DecidableEq, Repr

/-- The Steward's command side: links, long operation, staging areas, log and attention (spec/15). -/
structure Steward where
  spi : LinkSt := {}
  uart : LinkSt := {}
  baud : Nat := 115200
  /-- A rate that takes effect once the PORT_SET reply has left (R322), with that reply's link and SEQ. -/
  baudNext : Option (Nat × Link × BitVec 16) := none
  longOp : LongOp := {}
  cfgStage : Memory := []
  /-- One past the highest byte written by CFG_WRITE since the last commit or abort. -/
  cfgLen : Nat := 0
  progImage : Memory := []
  dmemImage : WordStore := []
  safeStage : Memory := []
  /-- SEQ of the next log record, records held and records discarded at boot (R339). -/
  logNext : Word := 0
  logHeld : Nat := 0
  logDiscarded : Nat := 0
  crier : Crier := {}
  loupe : Loupe := {}
  deriving DecidableEq, Repr

/-- A committed image that waits for the instant of R70: its records, its REINIT, and whether its trim is left out because the commit was
made while a ramp profile ran (R24). -/
structure Waiting where
  recs : List (Nat × Word)
  reinit : Bool
  keepTrim : Bool
  deriving DecidableEq, Repr

/-- The live configuration and firmware as the Steward knows them (R355, R356). -/
structure Cfg where
  /-- Live generation; 0 with no valid record. -/
  gen : Nat := 0
  /-- The configuration slot that holds the live image. -/
  slot : Nat := 0
  /-- Length of the live image. -/
  len : Nat := 0
  /-- Index of the next line of the configuration record ring. -/
  ringNext : Nat := 0
  /-- A committed image waiting for the instant of R70. -/
  waiting : Option Waiting := none
  /-- The valley that the waiting image waits for has come; the same for the enables of PRISM, WVN, MILL, GRN and SHF (bits 0 to 4) as
  last written. -/
  valleySeen : Bool := false
  enSeen : BitVec 5 := 0
  /-- The Mill program length of the live generation, in bundles (R354). -/
  progLen : Nat := 0
  /-- Firmware slot running, and the highest RSEQ and next line of the firmware ring. -/
  fwRunning : Nat := 0
  fwRingNext : Nat := 0
  /-- The slot that FW_WRITE has begun to write since the last installation, and the slots begun since boot (R342). -/
  fwWriting : Option Nat := none
  fwTouched : List Nat := []
  /-- A slot whose installation a reset abandoned, not yet answered by a HELLO (R342). -/
  fwAborted : Option Nat := none
  deriving DecidableEq, Repr

/-- What the record and replay engine does (R60 to R62). -/
inductive RplPhase where
  | idle
  | armedRecord
  | armedReplay
  | recording
  | replaying
  deriving DecidableEq, Repr

/-- A carrier period that has been voided (R55): its carrier, the short stamp of the valley that began it, and COUNT at its last
overrun. -/
structure Voided where
  car : Nat
  stamp : Word
  at_ : Nat
  deriving DecidableEq, Repr

/-- The determinism monitor, the perturbation targets and the replay engine beside the TST registers. -/
structure Tst where
  /-- The LFSR of each perturbation target (R59). -/
  lfsr : List (BitVec 16) := List.replicate 8 0
  rpl : RplPhase := .idle
  /-- COUNT at the start of slot 0. -/
  slot0 : Nat := 0
  /-- COUNT mod 32 at the valley that started the run (R60). -/
  phase : Nat := 0
  /-- Valleys of the anchor carrier seen since the engine was armed for replay (R62). -/
  valleys : Nat := 0
  /-- ABORT was written: stop at the end of the slot (R60). -/
  abort : Bool := false
  /-- The CRC register of TST_DIGEST, before the final complement (R63). -/
  crc : Word := 0xFFFFFFFF
  /-- What commits and latches of this cycle give the digest: the carrier, or 8 and the set, or 12 and the channel, and the words (R63). -/
  parts : List (Nat × List Word) := []
  /-- The last disturbance drawn for each perturbation target, in its unit (R58, R59). -/
  held : List Nat := List.replicate 8 0
  /-- COUNT up to which target 5 holds the ports' receive FIFOs full and their transmit FIFOs empty (R58). -/
  fifoUntil : Nat := 0
  /-- The periods voided in the last 2^31 cycles, oldest first (R55). -/
  voids : List Voided := []
  deriving DecidableEq, Repr

/-- A conversion on its way to the Prism intake (R67): values of single-ended channels count from 0 to 65,535, those of
pairs from −32,768 to 32,767 (R64). -/
structure Conv where
  slice : Nat
  /-- COUNT at the start of its slot. -/
  stamp : Nat
  /-- COUNT from which it reaches the intake. -/
  due : Nat
  chan : Nat
  value : Int
  diff : Bool
  opened : Bool
  bad : Bool
  spare : Bool
  deriving DecidableEq, Repr

/-- What one slice did in the last slot, for the replay engine (R61, R62): the channel converted and the value presented. -/
structure SlotOut where
  chan : Option Nat := none
  value : Option Int := none
  deriving DecidableEq, Repr

/-- A slice beside its registers (R68, R69, R73, R78). -/
structure SliceSt where
  /-- The table entry it stands at, `none` before the first slot of a run. -/
  entry : Option Nat := none
  idleLeft : Nat := 0
  convLeft : Nat := 0
  /-- The open averaging group: conversions and their sum. -/
  grpCount : Nat := 0
  grpSum : Int := 0
  /-- Match trim in 1/16 LSB and the slots since its last decay step. -/
  trim : Int := 0
  decay : Nat := 0
  deriving DecidableEq, Repr

/-- The spare rotation beside ACQ_STAT (R75 to R80). -/
structure SpareSt where
  /-- Slots of the calibration or reference interval in hand. -/
  slots : Nat := 0
  /-- Slots and sum D of the agreement block in hand. -/
  blockSlots : Nat := 0
  d : Int := 0
  /-- Blocks failed in this handover, and RETURN handovers failed in this turn. -/
  fails : Nat := 0
  failedReturns : Nat := 0
  /-- The served slice has loaded a match trim in this RETURN. -/
  matched : Bool := false
  /-- SX's match trim. -/
  trim : Int := 0
  /-- SX's codes of the internal references in the reference interval in hand, latest first (R76). -/
  refs : List Nat := []
  /-- Where a rotation stopped by ACQ_SPARE.EN goes on; 16 is the reference interval. -/
  next : Nat := 0
  deriving DecidableEq, Repr

/-- Acquisition beside the ACQ registers. -/
structure Acq where
  running : Bool := false
  /-- EN has gone to 1 and acquisition has not started (R70). -/
  armed : Bool := false
  /-- EN has gone to 0, and the slot boundary at which acquisition stops has not come. -/
  stopping : Bool := false
  /-- The valley of SYNC_CAR that the start waits for has come. -/
  valleySeen : Bool := false
  /-- COUNT of the last slot boundary handled. -/
  slotAt : Option Nat := none
  slices : List SliceSt := List.replicate 16 {}
  outs : List SlotOut := List.replicate 16 {}
  spare : SpareSt := {}
  /-- Values on their way to the intake, in the order in which it takes them: by slot, and in a slot by slice (R67). -/
  flight : List Conv := []
  /-- Stamp of the value in each ACQ_DATAn (R74). -/
  dataStamps : List Word := List.replicate 16 0
  deriving DecidableEq, Repr

/-- What a window has gathered for one list position (R82). -/
structure ChanAcc where
  sum : Int := 0
  count : Nat := 0
  least : Int := 0
  most : Int := 0
  last : Int := 0
  /-- Stamp × 32 + slice of the value in `last`. -/
  lastKey : Nat := 0
  opened : Bool := false
  deriving DecidableEq, Repr

/-- An open or closed capture window (R81). -/
structure WinAcc where
  openAt : Nat
  /-- COUNT at the valley of the period it opened in. -/
  valley : Nat
  closeAt : Nat := 0
  chans : List ChanAcc := List.replicate 16 {}
  deriving DecidableEq, Repr

/-- A published window, kept for late values (R86). -/
structure PubWin where
  openAt : Nat
  closeAt : Nat
  /-- Short stamp of the valley that began the period of the publication. -/
  valley : Word
  deriving DecidableEq, Repr

/-- A Prism window beside its registers (R81 to R87). -/
structure PrismWin where
  open_ : Option WinAcc := none
  closed : Option WinAcc := none
  published : Option PubWin := none
  /-- The last valid value each list position took, and its consecutive still publications (R85). -/
  lastVal : List (Option Int) := List.replicate 16 none
  still : List Nat := List.replicate 16 0
  /-- Positions with a late value since the last publication (R86). -/
  late : BitVec 16 := 0
  deriving DecidableEq, Repr

/-- A metering stream (R89): the running interval and the ended one. -/
structure StreamSt where
  sum : Int := 0
  count : Nat := 0
  endSum : Int := 0
  endCount : Nat := 0
  deriving DecidableEq, Repr

/-- The Prism beside its registers. -/
structure Prism where
  /-- PRISM_CTRL.EN as applied at the instant of R70. -/
  active : Bool := false
  wins : List PrismWin := List.replicate 64 {}
  /-- The running stream interval, COUNT / 12,500, and COUNT at the end of the ended one not yet published. -/
  interval : Nat := 0
  ended : Option Nat := none
  streams : List StreamSt := List.replicate 40 {}
  deriving DecidableEq, Repr

/-- What an injection period has gathered: whether CURR_VALID was 0 in a sample, the valid samples, and the sums of the positive-sequence
voltage and current turned back by INJ_ANGLE (R107). -/
structure InjSum where
  bad : Bool := false
  n : Nat := 0
  vr : Word := 0
  vi : Word := 0
  ir : Word := 0
  ii : Word := 0
  deriving DecidableEq, Repr

/-- One set of the Weathervane beside its registers (R91 to R115). Angles are exact, in turns. -/
structure SetSt where
  /-- Sum, in per-unit, and count of the valid values of VA, VB, VC, IA, IB, IC: the running interval and the ended one. -/
  acc : List (Word × Nat) := List.replicate 6 (0, 0)
  endAcc : List (Word × Nat) := List.replicate 6 (0, 0)
  /-- The ended sample is marked late, so is the last one output, and so was one since the previous latch (R92, R95). -/
  endLate : Bool := false
  lastLate : Bool := false
  lateSince : Bool := false
  /-- STATE, SHD_FREQ, ZRE and ZIM at the end of the ended interval, and as a latch of the last sample output shows them (R94). -/
  endState : Word := 0
  endFreq : Word := 0
  endZ : Word × Word := (0, 0)
  keepState : Word := 0
  keepFreq : Word := 0
  keepZ : Word × Word := (0, 0)
  /-- A sample has been output; the end of its interval, its validity, and the angle that its frames stood at. -/
  seen : Bool := false
  lastEnd : Nat := 0
  sampleValid : Bool := false
  theta : Rat := 0
  angle : Rat := 0
  freq : Word := 0
  /-- The loop's integrator, and the decoupling filters of the voltages and the currents (R97). -/
  integ : Word := 0
  filtV : List Word := List.replicate 4 0
  filtI : List Word := List.replicate 4 0
  /-- VPD, VPQ, VND, VNQ and IPD, IPQ, IND, INQ. -/
  seqV : List Word := List.replicate 4 0
  seqI : List Word := List.replicate 4 0
  /-- The loop error e in radians and |V+|. -/
  err : Word := 0
  vpos : Word := 0
  /-- The last FILT_N magnitudes, newest first, and VMAG. -/
  vmags : List Word := []
  vmag : Word := 0
  /-- FREQ of earlier samples, newest first, and ROCOF. -/
  freqs : List Word := []
  rocof : Word := 0
  lossRun : Nat := 0
  lockRun : Nat := 0
  unlockRun : Nat := 0
  jumpRun : Nat := 0
  /-- A jump may be detected; samples with |e| below JTHR / 2 in a row since the last one. -/
  jumpArmed : Bool := true
  quietRun : Nat := 0
  jump : Word := 0
  vsRun : Nat := 0
  vsEnd : Nat := 0
  /-- Samples for which PU_V, PU_F and PU_R have stood, counted from their first sample. -/
  heldV : Option Nat := none
  heldF : Option Nat := none
  heldR : Option Nat := none
  /-- Valid samples in a row outside the normal band, the end of the first of them, and inside the recovery band. -/
  frtOut : Nat := 0
  frtRunStart : Nat := 0
  frtIn : Nat := 0
  onset : Option Nat := none
  frtEntry : Nat := 0
  /-- The last sample has caused its transition (R113). -/
  frtMoved : Bool := false
  /-- The shadow's angle at a COUNT, and its frequency (R103). -/
  shdAngle : Rat := 0
  shdAt : Nat := 0
  shdFreq : Word := 0
  resyncRun : Nat := 0
  zre : Word := 0
  zim : Word := 0
  actRun : Nat := 0
  /-- The past injection periods, newest first, and the running one (R107). -/
  periods : List InjSum := []
  inj : InjSum := {}
  wraps : Nat := 0
  /-- The running injection period began at a wrap of INJ_ANGLE (R107). -/
  injWhole : Bool := false
  /-- ISLAND was cleared: the shadow leaves HOLD by RESYNC alone (R109). -/
  byResync : Bool := false
  /-- The last valid sample's angle and phases while LOCKED, and the last 256 points of the three phases, newest first (R102). -/
  prevPhase : Option (Rat × List Word) := none
  points : List (List Word) := []
  thd : List Word := List.replicate 3 0
  harm : List Word := List.replicate 192 0
  deriving DecidableEq, Repr

/-- An MPPT channel beside its registers (R116 to R119). Voltages are single precision, in codes. -/
structure MppSt where
  vref : Word := 0
  /-- Publications not yet taken: COUNT of the window's close and P, if it gave one. -/
  pubs : List (Nat × Option Word) := []
  prevValley : Option Nat := none
  /-- COUNT of the valley up to which the channel has advanced. -/
  doneAt : Option Nat := none
  idx : Nat := 0
  high : Bool := false
  sumLow : Rat := 0
  cntLow : Nat := 0
  sumHigh : Rat := 0
  cntHigh : Nat := 0
  /-- Mean P of the last dither period or scan step, and of the last dither period. -/
  mean : Word := 0
  ditherMean : Option Word := none
  /-- The running scan's step. -/
  scan : Option Nat := none
  scanReq : Bool := false
  scanStart : Nat := 0
  stepSum : Rat := 0
  stepCnt : Nat := 0
  /-- The best step so far: its mean P and its voltage. -/
  best : Option (Word × Nat) := none
  vbest : Word := 0
  deriving DecidableEq, Repr

/-- The Weathervane beside its registers. -/
structure Wvn where
  /-- WVN_CTRL as applied at the instant of R70. -/
  active : Word := 0
  /-- The running sample interval, COUNT / 5,000, and COUNT at the end of the ended one not yet output. -/
  interval : Nat := 0
  ended : Option Nat := none
  sets : List SetSt := List.replicate 4 {}
  mpps : List MppSt := List.replicate 8 {}
  deriving DecidableEq, Repr

/-- An accumulator (R123, R127): the format it was last written in, and its bits. Zero bits are 0 in either format. -/
structure Acc where
  fixed : Bool := false
  bits : Dword := 0
  deriving DecidableEq, Repr

/-- The registers of one lane (R123, R133). -/
structure Lane where
  v : List Word := List.replicate 16 0
  /-- ACC as MOVACC sees it, and as it is forwarded to the next MAC (R126). -/
  acc : Acc := {}
  accNext : Acc := {}
  a : List (BitVec 16) := List.replicate 4 0
  c : BitVec 8 := 0
  /-- The first cycles at which the BIQ, DIV and SQRT units may issue again (R124). -/
  free : List Nat := List.replicate 3 0
  deriving DecidableEq, Repr

/-- Where a result goes. -/
inductive Dest where
  | reg (r : Nat)
  | acc
  | accNext
  | addr (r : Nat)
  | flag (i : Nat)
  deriving DecidableEq, Repr

/-- A result on its way (R124): the lane cycle from which bundles read it, and its rank among results of one cycle. -/
structure Result where
  cycle : Nat
  lane : Nat
  dest : Dest
  val : Dword
  /-- The accumulator's format, for ACC. -/
  fixed : Bool := false
  load : Bool := false
  /-- The unit it comes from: 0 BIQ, 1 DIV, 2 SQRT. -/
  unit : Option Nat := none
  deriving DecidableEq, Repr

/-- A store that takes effect at the end of its cycle (R125, R126). -/
structure PendStore where
  lane : Nat
  addr : Nat
  val : Word
  deriving DecidableEq, Repr

/-- A task beside its registers (R132 to R143). -/
structure TaskSt where
  /-- A frame is in hand; its number, start and short stamp. -/
  inFrame : Bool := false
  frameNo : Word := 0
  nextNo : Word := 0
  start : Nat := 0
  stamp : Word := 0
  /-- The valley that began the carrier period of the frame start, and that of the period its overrun voided, as short stamps. -/
  valley : Word := 0
  voided : Word := 0
  inputDone : Bool := false
  /-- The task has started, or its start cycle has passed without it. -/
  started : Bool := false
  /-- END has executed in this frame. -/
  ended : Bool := false
  /-- The commit instant of the frame has passed. -/
  committed : Bool := false
  /-- An overrun of this frame is already recorded. -/
  overran : Bool := false
  /-- The policy has acted in this frame; the task does not run in it (HOLD, TRIP). -/
  acted : Bool := false
  skipped : Bool := false
  /-- The first numeric flag of the frame has been set. -/
  flagged : Bool := false
  fails : Dword := 0
  /-- The registers as they stood at the input instant and, for ring words, at frame start (R132). -/
  view : RegStore := []
  ringView : RegStore := []
  /-- Requests, by the COUNT at which they arrived: the first input instant after that takes them (R139, R142). -/
  swap : List Nat := []
  resume : List Nat := []
  revert : List Nat := []
  /-- The bank in use before a fallback. -/
  savedBank : Nat := 0
  deriving DecidableEq, Repr

/-- The Mill beside its registers. -/
structure Mill where
  /-- MILL_CTRL.EN as applied at the instant of R70. -/
  active : Bool := false
  /-- Program store: bundle address and bundle; unlisted bundles are 0. -/
  prog : List (Nat × BitVec 128) := []
  dmem : WordStore := []
  bankA : WordStore := []
  bankB : WordStore := []
  /-- Staged words by index from 0x3800, and the indices written in the frames in hand (R135). -/
  staged : WordStore := []
  written : List Nat := []
  lanes : List Lane := List.replicate 4 {}
  /-- The task that executes, and the address of the bundle it issues in this cycle. -/
  running : Option Nat := none
  pc : Nat := 0
  /-- Lane cycles so far: the clock of the results on their way. -/
  cycle : Nat := 0
  results : List Result := []
  stores : List PendStore := []
  /-- A task whose END executes in this cycle (R136). -/
  ending : Option Nat := none
  /-- A program commit stops each task at its next frame start, until the copy (R148). -/
  halted : Bool := false
  /-- Words of the memories that hold an error of one bit, by `progWord` to `bankWord`; the CORE cycles for which corrections still stall the
  lanes, and those that corrections of the bundle in hand add after it (R138). -/
  correctable : List Nat := []
  stall : Nat := 0
  owed : Nat := 0
  deriving DecidableEq, Repr

/-- A pulse of a leg's reference (R181). Times are in 39 ps units of node time (COUNT × 64 + FINE). -/
structure Pulse where
  high : Bool
  openAt : Nat
  emitted : Bool
  /-- The closing edge as it stands; `none` when it never comes. -/
  closeAt : Option Nat
  /-- How much later CARRY moved the closing edge. -/
  moved : Nat
  deriving DecidableEq, Repr

/-- A leg of the Loom beside its registers; the shadows are LOOM_LEGl_CMPU and CMPD (R178). -/
structure LegSt where
  actU : Nat := 0
  actD : Nat := 0
  carryH : Nat := 0
  carryL : Nat := 0
  /-- The reference, after the pulse policy. -/
  ref : Bool := false
  outH : Bool := false
  outL : Bool := false
  /-- When a dead time ends and the output turns on (R175). -/
  onH : Option Nat := none
  onL : Option Nat := none
  pulse : Option Pulse := none
  /-- The leg switches: it has resumed at a valley since it last stopped (R192). -/
  live : Bool := false
  deriving DecidableEq, Repr

/-- A carrier beside its registers (R167 to R172). -/
structure CarSt where
  /-- COUNT at which EN took effect, and at the last valley. -/
  startAt : Dword := 0
  valley : Dword := 0
  /-- Number of the next bound event; the first valley after a start is event 0 (R168). -/
  events : Nat := 0
  /-- The commit instant of the running period has passed (R169). -/
  committed : Bool := true
  /-- Its peak has passed (R168). -/
  peaked : Bool := true
  /-- Committed register values that apply at the carrier's next valley (R172). -/
  pendingCfg : List (Nat × Word) := []
  deriving DecidableEq, Repr

/-- A trip line beside its registers (R188, R189). -/
structure TlSt where
  /-- The level of a pin line's pin: high or low. At reset it is the level that is not active (R188). -/
  level : Bool := false
  /-- The line's input, after synchronisation: a pin at its active level, or a comparator active. -/
  input : Bool := false
  /-- COUNT from which the filter counts the present assertion. -/
  since : Nat := 0
  /-- The end of the open blanking window. -/
  blankEnd : Option Nat := none
  /-- The line has acted inside the open window. -/
  acted : Bool := false
  deriving DecidableEq, Repr

/-- The Loom beside its registers. -/
structure Loom where
  legs : List LegSt := List.replicate 24 {}
  cars : List CarSt := List.replicate 8 {}
  tls : List TlSt := List.replicate 16 {}
  /-- Legs whose two outputs the interlock sees on (R187). -/
  ilkSeen : BitVec 24 := 0
  /-- Trim of each output's delay line, in trim steps from its calibrated value (R177). -/
  trims : List Int := List.replicate 48 0
  /-- COUNT at the last edge that each output's line placed, and at its last trim step (R177). -/
  lineEdge : List (Option Nat) := List.replicate 48 none
  lineStep : List (Option Nat) := List.replicate 48 none
  deriving DecidableEq, Repr

/-- An integrated driver beside its registers (R196, R197). -/
structure GdSt where
  /-- The EVENT command. -/
  evt : Bool := false
  /-- COUNT of the output's last edge (R198). -/
  edgeAt : Nat := 0
  /-- COUNT from which the sensed gate has not been where the output is, and whether it has been seen there since that edge (R198). -/
  awayAt : Option Nat := none
  followed : Bool := false
  /-- The source and sink currents in force, coded as ISRC and ISNK: those of the output's last edge (R195). -/
  isrc : Nat := 0
  isnk : Nat := 0
  deriving DecidableEq, Repr

/-- A group's shutdown sequence (R203, R204, R205). -/
structure GroupSt where
  /-- The legs still queued, with the COUNT at which each is blocked. -/
  queue : List (Nat × Nat) := []
  /-- The legs that the standing trip has blocked (R205). -/
  legs : BitVec 24 := 0
  /-- COUNT of the CORE cycle in which the latch that began the sequence set (R204). -/
  since : Option Nat := none
  deriving DecidableEq, Repr

/-- A DC link's chopper and resistor model (R207 to R209). -/
structure LinkBrk where
  lastOn : Nat := 0
  /-- COUNT of the last turn-off; the chopper may turn on at any time before its first turn-off. -/
  lastOff : Option Nat := none
  /-- θ in joules. -/
  theta : Rat := 0
  /-- Cycles BRKn was on in the present tick, up to `lastOn` when it is on. -/
  onCycles : Nat := 0
  /-- COUNT at the start of the present tick. -/
  tickStart : Nat := 0
  /-- The conduction budget of the present tick, while LIMIT acts. -/
  budget : Option Nat := none
  /-- COUNT at which a TEST pulse ends (R209). -/
  testEnd : Option Nat := none
  deriving DecidableEq, Repr

/-- Gate drive beside its registers. -/
structure Gdp where
  gds : List GdSt := List.replicate 8 {}
  groups : List GroupSt := List.replicate 8 {}
  brks : List LinkBrk := List.replicate 2 {}
  deriving DecidableEq, Repr

/-- A window monitor beside its registers (R213 to R216). -/
structure CmpWin where
  running : Bool := false
  /-- COUNT at the end of settling. -/
  settleEnd : Nat := 0
  /-- COUNT at which a powered sampled window decides. -/
  decideAt : Option Nat := none
  deriving DecidableEq, Repr

/-- A WAKE comparator beside its registers (R222): the state its hysteresis holds and the run of samples. -/
structure WakeSt where
  above : Bool := false
  run : Nat := 0
  deriving DecidableEq, Repr

/-- A change of a comparator on its way into CORE (R219): the window, the comparator, its new state, and the CORE cycles left. -/
structure CmpChange where
  win : Nat
  cmp : Nat
  active : Bool
  wait : Nat
  deriving DecidableEq, Repr

/-- The window monitors beside their registers. -/
structure Cmp where
  wins : List CmpWin := List.replicate 48 {}
  /-- Changes that CORE has not seen yet (R219). -/
  changes : List CmpChange := []
  wakes : List WakeSt := List.replicate 2 {}
  /-- The next threshold DAC of the readback round (window × 3 + comparator), its conversions and their sum (R221). -/
  rbNext : Nat := 0
  rbCount : Nat := 0
  rbSum : Nat := 0
  deriving DecidableEq, Repr

/-- One channel of an AC meter before its cycle sums (R227): the last input taken, the filter state (16 fractional bits)
and the last outputs w, newest first. -/
structure GrnChan where
  x : Int := 0
  y : Int := 0
  w : List Int := []
  deriving DecidableEq, Repr

/-- One sample of an open cycle: the voltages and currents of the three phases after R227, and its validity. -/
structure GrnSample where
  v : List Int
  i : List Int
  valid : Bool
  deriving DecidableEq, Repr

/-- An AC meter beside its registers (R226 to R229): voltages A to C, then currents A to C. -/
structure AcMeter where
  chans : List GrnChan := List.replicate 6 {}
  armed : Bool := false
  /-- The detector's input at the last sample, with 16 fractional bits. -/
  lastV : Int := 0
  /-- Samples taken so far: the position of the next one. -/
  pos : Nat := 0
  /-- Position of the last accepted crossing. -/
  tPrev : Option Rat := none
  /-- The running cycle, newest sample first, and whether it began at an accepted crossing. -/
  cycle : List GrnSample := []
  began : Bool := false
  /-- FREQ of the last accepted crossing, which a close shows (R228, R236). -/
  freq : Word := 0
  /-- The last sample was invalid. -/
  gapRun : Bool := false
  deriving DecidableEq, Repr

/-- A DC meter beside its registers (R230, R235): samples of the open block and its sums over the valid ones. -/
structure DcMeter where
  /-- A block is open: it began with the interval of its boundary. -/
  open_ : Bool := false
  count : Nat := 0
  svi : Int := 0
  si : Int := 0
  gapRun : Bool := false
  deriving DecidableEq, Repr

/-- A stream interval at the Granary's intake: COUNT at its end and the published words, `none` when it was dropped (R241). -/
structure GrnInterval where
  stop : Nat
  words : Option (List Word)
  deriving DecidableEq, Repr

/-- A snapshot asked for and not yet taken (R240): a reference one; a journal record's flags; the final one of R245; whether an
interval was in progress that is still to be processed; and whether only a record is left of it, which a running replay holds back (R248). -/
structure SnapReq where
  ref : Bool := false
  journal : Option Nat := none
  final : Bool := false
  waits : Bool := false
  held : Bool := false
  deriving DecidableEq, Repr

/-- A journal record being written (R244). -/
structure JournalWrite where
  flags : Nat
  final : Bool
  bytes : List Byte
  /-- The PMAX of the eight meters that it holds. -/
  pmax : List Word
  deriving DecidableEq, Repr

/-- The Granary beside its registers. -/
structure Grn where
  /-- GRN_CTRL.AC_EN and DC_EN as applied at the instant of R70. -/
  active : BitVec 8 := 0
  ac : List AcMeter := List.replicate 4 {}
  dc : List DcMeter := List.replicate 4 {}
  queue : List GrnInterval := []
  /-- COUNT at the end of the last processed interval. -/
  lastEnd : Dword := 0
  /-- The 96-bit totals: AC in the order m, p, q, then DC in the order m, q (R234). -/
  totals : List Nat := List.replicate 176 0
  /-- The integer parts and the gap counts in the last snapshot, and its stamp. -/
  snapTotals : List Dword := List.replicate 176 0
  snapGaps : List Word := List.replicate 8 0
  snapStamp : Dword := 0
  /-- Replay accumulators (R248). -/
  rpl : List Dword := List.replicate 8 0
  /-- Pulse outputs: accumulators A_k (R242), COUNT at the start of the present pulse, and COUNT since which the output is
  idle. -/
  epoAcc : List Nat := List.replicate 4 0
  epoStart : List Nat := List.replicate 4 0
  epoIdle : List Nat := List.replicate 4 0
  snap : Option SnapReq := none
  /-- Journal: the write in hand, flags of the queued request and of a failed one, next slot and SEQ, next period (R244). -/
  write : Option JournalWrite := none
  queued : Option Nat := none
  failedFlags : Nat := 0
  nextSlot : Nat := 0
  nextSeq : Word := 0
  period : Option Nat := none
  /-- A meter has been enabled since boot. -/
  opened : Bool := false
  /-- SEQ of the restored record (R246). -/
  restoredSeq : Word := 0
  deriving DecidableEq, Repr

/-- Where an interface stands: POS, TURNS, the net count since the last latch, and the stamp of the last counted edge or good read. -/
structure EncRead where
  pos : Nat := 0
  turns : Word := 0
  net : Int := 0
  te : Option Nat := none
  deriving DecidableEq, Repr

/-- A shaft interface beside its registers (R252 to R261). -/
structure EncSt where
  /-- The filtered lines, and the COUNT of the last change of each and of the last rising edge of QI (R252). -/
  qa : Bool := false
  qb : Bool := false
  qaAt : Option Nat := none
  qbAt : Option Nat := none
  qiAt : Option Nat := none
  turns : Word := 0
  /-- POS above the 24 bits of its register, which only an SSI position reaches (R257). -/
  high : Nat := 0
  /-- Illegal transitions of the present run, and whether the interval since the last latch held one. -/
  illRun : Nat := 0
  illSince : Bool := false
  /-- Net count since the last latch, the stamp of the last counted edge or good read, and that stamp at the last latch. -/
  net : Int := 0
  te : Option Nat := none
  teRef : Option Nat := none
  speed : Word := 0
  /-- STILL at the last latch. -/
  stillWas : Bool := false
  /-- COUNT at the interface's start. -/
  startAt : Nat := 0
  /-- Stamp of the SSI read that runs, and the COUNT until which the pause of the last one lasts. -/
  reading : Option Nat := none
  pauseEnd : Nat := 0
  /-- A good SSI read has been taken since the start. -/
  good : Bool := false
  /-- COUNT of the last good read's completion, and where the interface stood before it: a latch of that cycle takes this (R259). -/
  readAt : Option Nat := none
  before : EncRead := {}
  /-- COUNT of the last latch (R256). -/
  latchAt : Option Nat := none
  /-- COUNT of the pending deposit (R261). -/
  depositAt : Option Nat := none
  deriving DecidableEq, Repr

/-- Shaft feedback beside its registers. -/
structure Shf where
  /-- SHF_CTRL.EN as applied at the instant of R70. -/
  active : BitVec 2 := 0
  encs : List EncSt := List.replicate 2 {}
  /-- COUNT of the emulation's last state change (R262). -/
  emuAt : Nat := 0
  /-- COUNT at which CORE last stopped for DOZE, and sampling with it (R19, R252). -/
  stopAt : Nat := 0
  deriving DecidableEq, Repr

/-- A member as the Reeve knows it (R277, R278, R288): its node slot, unique ID, whether it is a STANDBY, its input link
delays, the rounds in a row in which all its slots came back empty on both copies, and its streams as Roster entries. -/
structure RingMember where
  slot : Nat
  uid : Dword
  standby : Bool := false
  streams : List Word := List.replicate 6 0
  dinA : Nat := 0
  dinB : Nat := 0
  lost : Nat := 0
  deriving DecidableEq, Repr

/-- What fixes the layout of a round (R275): Roster entries that are not 0, the present map, and T_need. -/
structure Layout where
  roster : List (Nat × Word) := []
  present : BitVec 1024 := 0
  tneed : Nat := 0
  deriving DecidableEq, Repr

/-- A message in the gap as this node sends it (R274). -/
inductive RingMsg where
  /-- PROBE, with its transmit stamp. -/
  | probe (stamp : Nat)
  /-- ECHO, with the turnaround time. -/
  | echo (turnaround : Nat)
  | knock (uid : Dword) (slot role : Nat) (streams : List Word) (rper dinA dinB : Nat)
  /-- The Reeve's answers to a KNOCK. -/
  | admitted (uid : Dword) (slot gen gapAt : Nat)
  | refuse (uid : Dword) (reason : Nat)
  | leave (slot : Nat)
  | links (slot dinA dinB : Nat)
  | roster (gen first : Nat) (entries : List Word)
  | present (gen half : Nat) (map : BitVec 512) (tneed : Nat)
  deriving DecidableEq, Repr

/-- The timing of a copy that arrived with a correct HCRC (R281): HOPS, the path delay δ and the offset θ. -/
structure CopyTime where
  hops : Nat
  delta : Nat
  theta : Int
  deriving DecidableEq, Repr

/-- A round at this node (R272): its number and issue stamp, which copies have passed, the slots captured from either
copy by Roster entry, the nodes of which a slot has come that was not empty, and when it ended. -/
structure RingRound where
  no : Word
  issue : Nat
  passA : Bool := false
  passB : Bool := false
  wrapped : Bool := false
  headA : Option CopyTime := none
  headB : Option CopyTime := none
  /-- The timing of the copy with a correct header that arrived at each port (R25, R283). -/
  atA : Option CopyTime := none
  atB : Option CopyTime := none
  /-- The slots of copy A and of copy B have been read. -/
  readA : Bool := false
  readB : Bool := false
  capA : List (Nat × List Word) := []
  capB : List (Nat × List Word) := []
  alive : List Nat := []
  /-- COUNT from which the round is delivered, once it has ended. -/
  deliverAt : Option Nat := none
  deriving DecidableEq, Repr

/-- A frame of a task that began while a round which it should have consumed had not ended: the round's issue stamp, the task, and the short
stamp of the valley that began its carrier period (R17, R53). -/
structure LateFrame where
  issue : Nat
  task : Nat
  valley : Word
  deriving DecidableEq, Repr

/-- The ring node beside its registers (R268 to R292). -/
structure Ring where
  /-- The number of the next round, and the issue stamp of the last round of which a header came, or that was issued. -/
  round : Word := 0
  lastIssue : Option Nat := none
  /-- Node slot of the Reeve in the last header that began a round; 1,024 before any. -/
  issuer : Nat := 1024
  /-- The issue valley has come and the round is still to be issued (R268). -/
  issueDue : Bool := false
  /-- Insertion latches as taken for a round: the words, the round's issue stamp, and COUNT at which they reach LINK. -/
  ins : List Word := List.replicate 128 0
  insFor : Option Nat := none
  insAt : Nat := 0
  /-- The live layout and whether this node's copy of it is complete (R275). -/
  live : Layout := {}
  liveOk : Bool := false
  /-- The announced layout as far as it is known, the generation it belongs to, the Roster chunks and the halves of the
  present map received, and the round it takes effect at. -/
  next : Layout := {}
  nextGen : Nat := 0
  chunks : List Nat := []
  halves : List Nat := []
  nextAt : BitVec 16 := 0
  /-- The Reeve's members in the order of ring A from its port A, of the next generation; the round of the last
  announcement, what was answered in this gap, and the next ROSTER or PRESENT message to send. -/
  members : List RingMember := []
  /-- The members of the live layout, on the Reeve (R288). -/
  liveMembers : List RingMember := []
  announcedIn : Option Word := none
  answered : List Dword := []
  sendNext : Nat := 0
  /-- This node has sent LEAVE. -/
  leaving : Bool := false
  /-- The round in hand, and those that ended and are not yet delivered, oldest first. -/
  cur : Option RingRound := none
  done : List RingRound := []
  /-- The frames that have begun without a round in hand that they should have consumed. -/
  lateFrames : List LateFrame := []
  /-- Stored θ and link-delay measurements, newest first (R280, R281). -/
  thetas : List Int := []
  dinsA : List Rat := []
  dinsB : List Rat := []
  /-- The θ of the copies at each port, newest first, and their mean at the round before, if that brought one (R25, R282). -/
  thetasA : List Int := []
  thetasB : List Int := []
  lastA : Option Rat := none
  lastB : Option Rat := none
  /-- Rounds in a row with a correct header on a port, without one on either, inside the lock window and far outside it. -/
  runA : Nat := 0
  runB : Nat := 0
  noHeader : Nat := 0
  inWin : Nat := 0
  outWin : Nat := 0
  /-- The node was LOCKED when its headers stopped, and it has taken over and issued no round yet (R279). -/
  wasLocked : Bool := false
  tookOver : Bool := false
  /-- LOCKED was lost in RUN or SERVICE; the offset then went beyond SLEWMAX, and the node stays unlocked till it is admitted anew
  (R284). -/
  slewWatch : Bool := false
  slewHeld : Bool := false
  /-- The conditions that hold each port's input lost, and COUNT since which there has been none (R286, R287). -/
  lossA : List PortLoss := []
  lossB : List PortLoss := []
  /-- The ports that brought no header with a correct HCRC in the round that has ended, and may still bring one before the next (R283). -/
  lateHeads : List Port := []
  clearA : Nat := 0
  clearB : Nat := 0
  /-- Both ports have stopped transmitting after a clock failure (R292). -/
  silent : Bool := false
  /-- The copies sent on each port in the round, in order, and the messages sent in the last gap. -/
  outA : List (List Byte) := []
  outB : List (List Byte) := []
  sent : List (Port × RingMsg) := []
  deriving DecidableEq, Repr

/-- The states of a mirror (R297). -/
inductive MirState where
  | boot
  | unparam
  | active
  | fault
  deriving DecidableEq, Repr

/-- The states of an output in one mirror (R305, R306); an output fault is held beside it. -/
inductive OutSt where
  | off
  | delay
  | waitReset
  | on
  deriving DecidableEq, Repr

/-- An output in one mirror. Times are in samples of the mirror's clock, 1 µs nominal. -/
structure MirOut where
  st : OutSt := .off
  delayAt : Nat := 0
  /-- When the output was last switched, until its EDM pair is judged. -/
  switchedAt : Option Nat := none
  /-- Scans in a row in which the ball read on while commanded off, and off while commanded on. -/
  strayOn : Nat := 0
  strayOff : Nat := 0
  /-- A demand stood at the last scan. -/
  dem : Bool := false
  deriving DecidableEq, Repr

/-- A receive connection in one mirror (R311 to R313). -/
structure MirConn where
  /-- When its watchdog expires; `none` when it is timed out. -/
  wd : Option Nat := none
  /-- The last accepted D, in Mirror A's form, the frame it came in, and its SEQ. -/
  d : BitVec 16 := 0
  words : List Word := []
  /-- The other mirror's accepted frame, while its watchdog ran, as the last intact exchange brought it (R313). -/
  peer : Option (List Word) := none
  seq : Option (BitVec 16) := none
  /-- Degraded operation since. -/
  degraded : Option Nat := none
  /-- Since when the mirrors' D have differed, or been equal, as this mirror has seen it. -/
  differs : Option Nat := none
  equal : Option Nat := none
  /-- Captured frames that failed a check. -/
  rejects : Nat := 0
  deriving DecidableEq, Repr

/-- A capture of a SAFE slot, handed to a mirror (R291, R311). -/
structure SafeRx where
  node : Nat
  stream : Nat
  words : List Word
  valid : Bool
  deriving DecidableEq, Repr

/-- A mirror of the safety island (R295 to R313). -/
structure MirrorSt where
  state : MirState := .boot
  /-- Its regulator is off, or it has taken a supply fault (R308). -/
  dead : Bool := false
  /-- Samples since power-on: the mirror's own time in µs nominal (R301), and that time at its last scan. -/
  time : Nat := 0
  scanAt : Nat := 0
  raw : BitVec 12 := 0
  filt : BitVec 12 := 0
  counts : List Nat := List.replicate 12 0
  /-- Its filtered levels as exchanged after its last scan. -/
  shown : BitVec 12 := 0
  /-- Start of the running pulse of its two test-pulse outputs, and the end of the hold of the last one (R300). -/
  pulses : List (Option Nat) := List.replicate 2 none
  holds : List Nat := List.replicate 2 0
  /-- Channels judged by the running pulse, and those that read high in it. -/
  judged : BitVec 12 := 0
  high : BitVec 12 := 0
  tpf : BitVec 12 := 0
  discf : BitVec 12 := 0
  pend : BitVec 12 := 0xFFF
  /-- Pairs whose two channels have been in demand together since BOOT (R302), and since the last fault of the pair (R303). -/
  opened : BitVec 12 := 0
  cycled : BitVec 12 := 0
  /-- Pairs that have then returned to no demand, and channels of which a pulse has been seen low since (R303). -/
  returned : BitVec 12 := 0
  seenLow : BitVec 12 := 0
  /-- Since when the two channels of a pair have disagreed with its rule, stood at one level, and been high together. -/
  disagree : List (Option Nat) := List.replicate 12 none
  agree : List (Option Nat) := List.replicate 12 none
  pressed : List (Option Nat) := List.replicate 12 none
  ov : Bool := false
  outs : List MirOut := List.replicate 5 {}
  /-- Since when the two mirrors' commands have differed (R308). -/
  cmdDiffers : Option Nat := none
  conns : List MirConn := List.replicate 8 {}
  rx : List SafeRx := []
  /-- The other mirror's heartbeat has come since the last scan, and the scans in a row without one. -/
  beat : Bool := true
  missed : Nat := 0
  /-- Diagnostic history, oldest first (R308). -/
  hist : List (Nat × Word) := List.replicate 32 (0, 0)
  /-- The two slots of its parameter store (R315), and the slot it runs from. -/
  store : List (List Byte) := List.replicate 2 []
  live : Option Nat := none
  seq : BitVec 16 := 0
  frame : List Word := List.replicate 4 0
  /-- Its time at the last check of its parameter slot, its ROM and the other's oscillator. -/
  paramAt : Nat := 0
  romAt : Nat := 0
  oscAt : Nat := 0
  deriving DecidableEq, Repr

/-- The safety island. -/
structure Safe where
  a : MirrorSt := {}
  b : MirrorSt := {}
  /-- Outputs that have been on in both mirrors since their last event 0xF3 (R305). -/
  armed : BitVec 5 := 0
  /-- Outputs, and connections, of which one mirror's action has raised its event while the other mirror's still stands: what the other then does
  belongs to the same occurrence (R305, R320). -/
  spent : BitVec 5 := 0
  told : BitVec 8 := 0
  /-- Output faults (R307) and connection faults (R312). -/
  ofault : BitVec 5 := 0
  cflt : BitVec 8 := 0
  /-- The standing FAULT has raised event 0xF6; the device's own entry into LIMP for it is still to come (R309). -/
  faultSaid : Bool := false
  limpDue : Bool := false
  deriving DecidableEq, Repr

/-- What the present CORE cycle has already done, which settles two events of one cycle: bits of registers that hardware has set in it
and RW, RWL and RWS bits that software has written in it (R3, R4), the words of data memory that a shaft has deposited (R261), and the peripheral
blocks, 17 for the SRAM, that have granted a master an access (R349), and the registers written in it whose values stand until it ends
(R188, R365). The
model's own fields, emptied when the cycle ends. -/
structure Cycle where
  hwSet : RegStore := []
  swSet : RegStore := []
  deposits : List Nat := []
  ports : List Nat := []
  old : RegStore := []
  deriving DecidableEq, Repr

/-- The state of the block. -/
structure State where
  regs : RegStore := []
  cycle : Cycle := {}
  sys : Sys := {}
  clk : Clk := {}
  otp : Otp := {}
  tap : Tap := {}
  mem : Mem := {}
  dma : List DmaCh := List.replicate 16 {}
  /-- Events raised and not yet delivered, oldest first (R372). -/
  events : List Raised := []
  stew : Steward := {}
  cfg : Cfg := {}
  tst : Tst := {}
  loom : Loom := {}
  gdp : Gdp := {}
  cmp : Cmp := {}
  acq : Acq := {}
  prism : Prism := {}
  wvn : Wvn := {}
  mill : Mill := {}
  tasks : List TaskSt := List.replicate 8 {}
  grn : Grn := {}
  shf : Shf := {}
  safe : Safe := {}
  ring : Ring := {}
  /-- Numbers the free values drawn so far: the model's own field, not the spec's. -/
  draws : Nat := 0
  /-- Commands waiting, first in, first out. -/
  pending : List Instr := []
  deriving DecidableEq, Repr

/-- The machine right after reset: every register at its reset value, and the boot sequence not yet complete (R385, R387). -/
def State.reset : State := {}

end Sys2Proof.Machine
end

