-- ==== Sys2Proof/Machine/Ops.lean ====
section
/-! DEFINITION. Machine/Ops.lean: the named operations over registers, memories, events, the event log and attention
that every family uses. -/

namespace Sys2Proof.Machine

/-! ### Registers (R2) -/

/-- The present value of the register at an address. -/
def State.rd (s : State) (a : Nat) : Word := cellGet regReset s.regs a

/-- Store a register whole. -/
def State.wr (s : State) (a : Nat) (v : Word) : State := { s with regs := cellSet regReset s.regs a v }

/-- A field of a register, as a number. -/
def State.get (s : State) (f : Fld) : Nat := getBits (s.rd f.addr) f.lo f.width

/-- The marks of this cycle on a register. -/
def marksAt (m : RegStore) (a : Nat) : Word := cellGet (fun _ => 0) m a

/-- Add marks to a register. -/
def markBits (m : RegStore) (a : Nat) (v : Word) : RegStore := cellSet (fun _ => 0) m a (marksAt m a ||| v)

/-- Hardware has set these bits in this cycle: a W1C bit among them outlasts a clearing write of the cycle (R3). -/
def State.markSet (s : State) (a : Nat) (v : Word) : State := { s with cycle := { s.cycle with hwSet := markBits s.cycle.hwSet a v } }

/-- Hardware loads a register whole; its set bits count as set in this cycle (R3). -/
def State.load (s : State) (a : Nat) (v : Word) : State := (s.wr a v).markSet a v

/-- Software has written these bits in this cycle: they outlast a hardware update of the cycle (R4). -/
def State.markWritten (s : State) (a : Nat) (v : Word) : State := { s with cycle := { s.cycle with swSet := markBits s.cycle.swSet a v } }

/-- The bits of a register that hardware has set in this cycle (R3). -/
def State.setNow (s : State) (a : Nat) : Word := marksAt s.cycle.hwSet a

/-- Software has written a bit of this field in this cycle (R4). -/
def State.writtenNow (s : State) (f : Fld) : Bool := getBits (marksAt s.cycle.swSet f.addr) f.lo f.width != 0

/-- Store a field of a register. -/
def State.put (s : State) (f : Fld) (n : Nat) : State :=
  (s.wr f.addr (setBits (s.rd f.addr) f.lo f.width n)).markSet f.addr (setBits 0 f.lo f.width n)

/-- Hardware updates a field that software can write: a write of the same cycle stands (R4). DEDUCED: log entry 9. -/
def State.update (s : State) (f : Fld) (n : Nat) : State := if s.writtenNow f then s else s.put f n

/-- Whether a field is not 0. -/
def State.on (s : State) (f : Fld) : Bool := s.get f != 0

/-- Set a one-bit field. -/
def State.set1 (s : State) (f : Fld) : State := s.put f 1

/-- Clear a field. -/
def State.clr (s : State) (f : Fld) : State := s.put f 0

/-- A one-bit field made equal to a condition. -/
def State.putB (s : State) (f : Fld) (b : Bool) : State := s.put f (bit1 b)

/-- Advance a wrapping counter field. -/
def State.incW (s : State) (f : Fld) : State := s.put f (s.get f + 1)

/-- Advance a saturating counter field (R42). -/
def State.incS (s : State) (f : Fld) : State := s.put f (satInc f.width (s.get f))

/-- Bit `i` of a register. -/
def State.bit (s : State) (a i : Nat) : Bool := s.get ⟨a, i, 1⟩ != 0

/-- Store bit `i` of a register. -/
def State.putBit (s : State) (a i : Nat) (b : Bool) : State := s.put ⟨a, i, 1⟩ (bit1 b)

/-- A field read as two's complement (R9). -/
def State.getI (s : State) (f : Fld) : Int := signed f.width (s.get f)

/-- A register is about to be written whose new value takes effect in the next cycle: what it holds stands until this one ends (R188, R365). -/
def State.keepOld (s : State) (a : Nat) : State :=
  if s.cycle.old.any (fun x => x.1 == a) then s else { s with cycle := { s.cycle with old := (a, s.rd a) :: s.cycle.old } }

/-- The value of a register in force in this cycle (R188, R365). -/
def State.nowRd (s : State) (a : Nat) : Word := ((s.cycle.old.find? (fun x => x.1 == a)).map (·.2)).getD (s.rd a)

/-- A field as it is in force in this cycle. -/
def State.nowGet (s : State) (f : Fld) : Nat := getBits (s.nowRd f.addr) f.lo f.width
def State.nowOn (s : State) (f : Fld) : Bool := s.nowGet f != 0

/-- Apply a step to every index below `n`, in ascending order. -/
def State.forAll (s : State) (n : Nat) (f : Nat → State → State) : State :=
  (List.range n).foldl (fun t i => f i t) s

/-- Apply a step when a condition holds. -/
def State.whenB (s : State) (b : Bool) (f : State → State) : State := if b then f s else s

/-! ### Time -/

/-- COUNT as a number (R31). -/
def State.count (s : State) : Nat := s.clk.count.toNat

/-- Node time in 39 ps units: COUNT × 64 + FINE (R31). -/
def State.now (s : State) : Nat := s.count * 64 + s.clk.fine.toNat

/-- The short stamp, COUNT[31:0]. -/
def State.shortStamp (s : State) : Word := s.clk.count.setWidth 32

/-- A deadline in COUNT has come. DESIGN CHOICE: log entry 4. -/
def State.due (s : State) (t : Nat) : Bool := t ≤ s.count

/-! ### Free values

Each draw reads a constant without a body at the next draw number, so that no two draws are known to be equal. -/

/-- Advance the number of the next free value. DESIGN CHOICE: log entry 68. -/
def State.drawn (s : State) : State := { s with draws := s.draws + 1 }

/-- COUNT from which the RTC's sub-second count is measured, while COUNT runs on SYN0 (R30, R38). -/
def State.rtcAnchor (s : State) : Option Nat := if s.clk.coreOnMonitor then none else s.clk.rtcAt

/-- The sub-second count that a crystal of exactly 32,768 Hz would have reached (R38). -/
def State.rtcNominal (s : State) (t : Nat) : Int := s.clk.rtcBase + ((s.count - t) * 32768 / 400000000 : Nat)

/-- The RTC's sub-second count at this instant (R38): never before the count last shown, within the second, and while COUNT measures the
crystal within 8 ticks of its nominal rate. DESIGN CHOICE: log entry 32. -/
def State.rtcSubNow (s : State) : Nat :=
  let known := s.clk.rtcSub.toNat
  match s.rtcAnchor with
  | none => known + Config.rtcTicks s.draws % (32768 - known)
  | some t =>
    if s.count = t then known
    else
      let lo := min 32767 (max known (s.rtcNominal t - 8).toNat)
      let hi := min 32767 (s.rtcNominal t + 8).toNat
      lo + Config.rtcTicks s.draws % (hi - lo + 1)

/-- The RTC shows its sub-second count: from here on it is known (R38). -/
def State.rtcShown (s : State) : State := { s.drawn with clk := { s.clk with rtcSub := BitVec.ofNat 15 s.rtcSubNow } }

/-- The crystal may have reached the end of its second (R38, R39). DESIGN CHOICE: log entry 32. -/
def State.rtcDue (s : State) : Bool :=
  match s.rtcAnchor with
  | none => true
  | some t => 32768 ≤ s.rtcNominal t + 8

/-- What `exec` answers. -/
abbrev Out : Type := Host.Outcome State Fault Refusal

/-! ### Modes (R375) -/

/-- The six modes and their codes (R330). -/
inductive Mode where
  | keep
  | doze
  | ready
  | run
  | limp
  | service
  deriving DecidableEq, Repr

/-- The code of a mode (R330). -/
def Mode.code : Mode → Nat
  | .keep => 0
  | .doze => 1
  | .ready => 2
  | .run => 3
  | .limp => 4
  | .service => 5

/-- The mode a code names; the codes 6 and 7 name none and never arise. -/
def modeOf : Nat → Mode
  | 0 => .keep
  | 1 => .doze
  | 3 => .run
  | 4 => .limp
  | 5 => .service
  | _ => .ready

/-- The present mode (SYS_MODE.MODE). -/
def State.mode (s : State) : Mode := modeOf (s.get F.SYS_MODE_MODE)

/-- The device is in SERVICE. -/
def State.inService (s : State) : Bool := s.mode == .service

/-- The outputs may switch (R18). -/
def State.switching (s : State) : Bool := s.mode == .run || s.mode == .service

/-- The CORE domain runs whole: not in DOZE, where only the timebase and the sampling ticks do, and not in KEEP (R19).
DEDUCED: log entry 5. -/
def State.coreRuns (s : State) : Bool :=
  s.sys.phase == .run && (s.mode == .ready || s.mode == .run || s.mode == .limp || s.mode == .service)

/-- The timebase counts: not in KEEP, and during a boot from the lock of SYN0 (R19, R31, R387). DEDUCED: log entry 5. -/
def State.timebaseRuns (s : State) : Bool :=
  match s.sys.phase with
  | .keep => false
  | .run => true
  | _ => s.on F.CLK_STAT_SYN0_LOCKED || s.clk.coreOnMonitor

/-! ### Memories (R345 to R353) -/

/-- A byte of a memory; an unlisted byte is 0. -/
def memGet (m : Memory) (a : Nat) : Byte := cellGet (fun _ => 0) m a

/-- Store a byte. -/
def memSet (m : Memory) (a : Nat) (b : Byte) : Memory := cellSet (fun _ => 0) m a b

/-- Store a byte string from an address up. -/
def memSetBytes (m : Memory) (a : Nat) : List Byte → Memory
  | [] => m
  | b :: rest => memSetBytes (memSet m a b) (a + 1) rest

/-- The `n` bytes from address `a`, of the cells that lie at or above it. -/
def fillBytes : Nat → Nat → Memory → List Byte
  | 0, _, _ => []
  | n + 1, a, [] => 0 :: fillBytes n (a + 1) []
  | n + 1, a, (k, v) :: rest => if k = a then v :: fillBytes n (a + 1) rest else 0 :: fillBytes n (a + 1) ((k, v) :: rest)

/-- A byte string of a memory. -/
def memBytes (m : Memory) (a n : Nat) : List Byte := fillBytes n a (m.dropWhile (fun c => c.1 < a))

/-- A little-endian word of a memory (R2). -/
def memWord (m : Memory) (a : Nat) : Word := BitVec.ofNat 32 (ofLe (memBytes m a 4))

/-- Store a little-endian word. -/
def memSetWord (m : Memory) (a : Nat) (v : Word) : Memory := memSetBytes m a (leBytes 4 v.toNat)

/-- The canonical form of a memory whose addresses lie below `size`: addresses strictly rising, no byte 0 listed. -/
def Memory.wf (size : Nat) (m : Memory) : Bool :=
  cellWf (fun _ => (0 : Byte)) 0 m && m.all (fun c => c.1 < size)

/-- A word of a word store; an unlisted word is 0. -/
def wordGet (m : WordStore) (a : Nat) : Word := cellGet (fun _ => 0) m a

/-- Store a word. -/
def wordSet (m : WordStore) (a : Nat) (v : Word) : WordStore := cellSet (fun _ => 0) m a v

/-- Store words from an index up. -/
def wordSetAll (m : WordStore) (a : Nat) : List Word → WordStore
  | [] => m
  | w :: rest => wordSetAll (wordSet m a w) (a + 1) rest

/-- The worn lines that a write of `n` bytes from `a` touches (R353). -/
def Mem.wornIn (m : Mem) (a n : Nat) : List Nat := m.worn.filter (fun l => a < 256 * l + 256 && 256 * l < a + n)

/-- The MRAM takes the content `new` in a range: worn lines of it go to the spare pool while that lasts, and a line for which no spare is left
keeps its old content (R353). A word that is written reads without error again (R352). -/
def Mem.rewrite (m : Mem) (a n : Nat) (new : Memory) : Mem :=
  let hit := m.wornIn a n
  let moved := hit.take (512 - m.spares)
  let failed := hit.drop (512 - m.spares)
  { m with
    mram := failed.foldl (fun x l => memSetBytes x (256 * l) (memBytes m.mram (256 * l) 256)) new
    mramBad := m.mramBad.filter (fun o => failed.contains (o / 256) || !(a < o + 8 && o < a + n))
    worn := m.worn.filter (fun l => !moved.contains l)
    spares := m.spares + moved.length }

/-- A write of `n` bytes from `a` fails on some line: the spare pool does not hold enough lines (R353). -/
def State.mramFails (s : State) (a n : Nat) : Bool := 512 - s.mem.spares < (s.mem.wornIn a n).length

/-- Write bytes into the MRAM, as the Steward and the journal engine do (R350). -/
def State.mramWrite (s : State) (a : Nat) (l : List Byte) : State :=
  { s with mem := s.mem.rewrite a l.length (memSetBytes s.mem.mram a l) }

/-- Some word of a range of the MRAM reads as uncorrectable (R352). -/
def State.mramErr (s : State) (a n : Nat) : Bool := s.mem.mramBad.any (fun o => a < o + 8 && o < a + n)

/-- Bytes of the MRAM; a range that holds an uncorrectable word gives none of its content, so that a record or image in it is invalid
(R352). DESIGN CHOICE: log entry 61. -/
def State.mramRead (s : State) (a n : Nat) : List Byte := if s.mramErr a n then zeros n else memBytes s.mem.mram a n

/-! ### Links and attention (R341) -/

/-- The state of a link. -/
def State.link (s : State) : Link → LinkSt
  | .spi => s.stew.spi
  | .uart => s.stew.uart

/-- Change the state of a link. -/
def State.modLink (s : State) (l : Link) (f : LinkSt → LinkSt) : State :=
  match l with
  | .spi => { s with stew := { s.stew with spi := f s.stew.spi } }
  | .uart => { s with stew := { s.stew with uart := f s.stew.uart } }

/-! ### Events (R372) -/

/-- The sinks that name a source while enabled. -/
def State.sinksOf (s : State) (src : Nat) : List Nat :=
  (List.range 128).filter (fun k => s.on (F.EVT_SINKk_EN k) && s.get (F.EVT_SINKk_SRC k) == src)

/-- Put an event into the matrix, once a cycle for one source; none is routed where CORE does not run the matrix (R372). -/
def State.route (s : State) (src : Nat) : State :=
  if s.coreRuns && !(s.events.any (fun e => e.src == src && e.count == s.clk.count)) then
    { s with events := s.events ++ [⟨src, s.sinksOf src, s.clk.count, s.clk.fine⟩] }
  else s

/-- Whether bit `src` of the Loupe's source mask is set. -/
def Loupe.takes (l : Loupe) (src : Nat) : Bool := bitAt ((l.mask.getD (src / 8) 0).setWidth 32) (src % 8)

/-- The Loupe records an event of its mask in SERVICE; the trigger starts the last part of the capture, which is full at
4,096 records (spec/15, group 0x0A). -/
def Loupe.capture (l : Loupe) (src : Nat) (r : LoupeRec) : Loupe :=
  if (l.state == 1 || l.state == 2) && l.takes src then
    let state := if l.state == 1 && src == l.trigger then 2 else l.state
    let recs := l.recs ++ [r]
    let kept := if state == 1 then recs.drop (recs.length - l.pre) else
      if l.state == 1 then recs.drop (recs.length - (l.pre + 1)) else recs
    { l with state := if state == 2 && 4096 ≤ kept.length then 3 else state, recs := kept }
  else l

/-- The Loupe's view of an event. DEDUCED: log entry 59. -/
def State.loupeSee (s : State) (src : Nat) : State :=
  if s.inService then
    { s with stew := { s.stew with loupe := s.stew.loupe.capture src ⟨s.clk.count, s.clk.fine, src, s.rd s.stew.loupe.addr⟩ } }
  else s

/-- An event as the matrix and the Loupe see it. -/
def State.emit (s : State) (src : Nat) : State := (s.route src).loupeSee src

/-- Set latched attention bits, `f` giving those of each link; event 0xFD when a bit newly sets (R341, R343). DEDUCED: log entry 49. -/
def State.attendBy (s : State) (f : LinkSt → BitVec 8) : State :=
  let fresh := (f s.stew.spi &&& ~~~ s.stew.spi.attn) ||| (f s.stew.uart &&& ~~~ s.stew.uart.attn)
  let set := fun (l : LinkSt) => { l with attn := l.attn ||| f l }
  let t := (s.modLink .spi set).modLink .uart set
  if fresh = 0 then t else t.emit 0xFD

/-- Set latched attention bits on both links. -/
def State.attend (s : State) (bits : BitVec 8) : State := s.attendBy (fun _ => bits)

/-- CMP_IRQSTAT0 or CMP_IRQSTAT1 is not 0: attention bit 2 (R341). -/
def State.cmpIrq (s : State) : Bool := s.rd (R.CMP_IRQSTATj 0) != 0 || s.rd (R.CMP_IRQSTATj 1) != 0

/-- Raise event `src`: routing, Loupe, and attention bit 5 for the safety events 0xF0 and 0xF6 (R341, R372). -/
def State.raise (s : State) (src : Nat) : State :=
  let t := s.emit src
  if src = 0xF0 ∨ src = 0xF6 then t.attend 0x20 else t

/-! ### The event log (R339) -/

/-- Severities of log records. -/
inductive Severity where
  | info
  | warn
  | error
  | fault
  deriving DecidableEq, Repr

/-- The code of a severity (R339, byte 19). -/
def Severity.code : Severity → Nat
  | .info => 0
  | .warn => 1
  | .error => 2
  | .fault => 3

/-- The offset in MRAM of the log record with a SEQ (R350, R339). -/
def logOffset (seq : Word) : Nat := 0x490000 + 32 * (seq.toNat % 4096)

/-- The 32 bytes of a log record (R339). -/
def State.logBytes (s : State) (code block sev : Nat) (data : List Byte) : List Byte :=
  let body := leBytes 4 s.stew.logNext.toNat ++ leBytes 6 s.clk.rtcSec.toNat ++ leBytes 2 s.rtcSubNow
    ++ leBytes 4 (if s.clk.coreOnMonitor then 0xFFFFFFFF else s.shortStamp.toNat) ++ leBytes 2 code
    ++ [BitVec.ofNat 8 block, BitVec.ofNat 8 sev] ++ (data ++ zeros 10).take 10
  body ++ leBytes 2 (crc32c body).toNat

/-- Write a log record: its 32 bytes in MRAM, event 0xF8, and attention bit 3 at or above the threshold (R339, R341). -/
def State.log (s : State) (code block : Nat) (sev : Severity) (data : List Byte) : State :=
  let t := s.rtcShown.mramWrite (logOffset s.stew.logNext) (s.logBytes code block sev.code data)
  let u := { t with stew := { t.stew with logNext := t.stew.logNext + 1, logHeld := min 4096 (t.stew.logHeld + 1) } }
  let v := u.raise 0xF8
  v.attendBy (fun l => if l.threshold ≤ sev.code then 0x08 else 0)

end Sys2Proof.Machine
end

