-- ==== Sys2Proof/Machine/LoomOps.lean ====
section
/-! DEFINITION. Machine/LoomOps.lean: the shared operations of the Loom and of the integrated drivers: outputs, blocks,
the pulse policy, carriers and trip lines (R167 to R199), and the determinism monitor's void record (R55). -/

namespace Sys2Proof.Machine

/-! ### Access to the parts -/

def State.leg (s : State) (l : Nat) : LegSt := nth s.loom.legs l {}
def State.modLeg (s : State) (l : Nat) (f : LegSt → LegSt) : State :=
  { s with loom := { s.loom with legs := upd s.loom.legs l f } }
def State.car (s : State) (c : Nat) : CarSt := nth s.loom.cars c {}
def State.modCar (s : State) (c : Nat) (f : CarSt → CarSt) : State :=
  { s with loom := { s.loom with cars := upd s.loom.cars c f } }
def State.tl (s : State) (k : Nat) : TlSt := nth s.loom.tls k {}
def State.modTl (s : State) (k : Nat) (f : TlSt → TlSt) : State :=
  { s with loom := { s.loom with tls := upd s.loom.tls k f } }
def State.gd (s : State) (n : Nat) : GdSt := nth s.gdp.gds n {}
def State.modGd (s : State) (n : Nat) (f : GdSt → GdSt) : State :=
  { s with gdp := { s.gdp with gds := upd s.gdp.gds n f } }
def State.group (s : State) (g : Nat) : GroupSt := nth s.gdp.groups g {}
def State.modGroup (s : State) (g : Nat) (f : GroupSt → GroupSt) : State :=
  { s with gdp := { s.gdp with groups := upd s.gdp.groups g f } }
def State.brk (s : State) (n : Nat) : LinkBrk := nth s.gdp.brks n {}
def State.modBrk (s : State) (n : Nat) (f : LinkBrk → LinkBrk) : State :=
  { s with gdp := { s.gdp with brks := upd s.gdp.brks n f } }

/-- The carrier a leg is bound to. -/
def State.legCar (s : State) (l : Nat) : Nat := s.get (F.LOOM_LEGl_CFG_CAR l)

/-- Replay runs: every PWM and GD output is held off (R62). -/
def State.replayHolds (s : State) : Bool := s.tst.rpl == .replaying

/-- The outputs may be on: a mode that switches, no replay (R18, R62). -/
def State.outputsAllowed (s : State) : Bool := s.switching && !s.replayHolds

/-! ### The void record (R53 to R55) -/

/-- The sources of an overrun, as the flags of TST_VOID_STAT. -/
inductive VoidSrc where
  | mill
  | prism
  | wvn
  | ring
  | grn
  deriving DecidableEq, Repr

/-- The bit of a source in TST_VOID_STAT. -/
def VoidSrc.bit : VoidSrc → Nat
  | .mill => 0
  | .prism => 1
  | .wvn => 2
  | .ring => 3
  | .grn => 4

/-- The period of carrier `c` that began at a short stamp is voided already. -/
def State.voidedBefore (s : State) (c : Nat) (stamp : Word) : Bool := s.tst.voids.any (fun x => x.car == c && x.stamp == stamp)

/-- Keep a voided period in mind, and forget those before the last 2^31 cycles: a later period may have their stamps. -/
def State.noteVoid (s : State) (c : Nat) (stamp : Word) : State :=
  let kept := s.tst.voids.filter (fun x => !(x.car == c && x.stamp == stamp) && s.count < x.at_ + 2 ^ 31)
  { s with tst := { s.tst with voids := kept ++ [⟨c, stamp, s.count⟩] } }

/-- Record an overrun of the period of carrier `c` that began at short stamp `stamp`; `state` is scope STATE (R55). A period
is counted and logged once. DEDUCED: log entry 60. The flags that must be clear for TST_VOID_FIRST are those of the five sources, not
STATE. DESIGN CHOICE: log entry 72. -/
def State.void (s : State) (src : VoidSrc) (state : Bool) (c : Nat) (stamp : Word) : State :=
  let clean := (s.rd R.TST_VOID_STAT).toNat % 32 = 0
  let again := s.voidedBefore c stamp
  let t := (s.putBit R.TST_VOID_STAT src.bit true).whenB state (fun u => u.set1 F.TST_VOID_STAT_STATE)
  let t := t.wr R.TST_VOID_LAST stamp
  let t := if clean then t.wr R.TST_VOID_FIRST stamp else t
  let t := if again then t else t.incS F.TST_VOID_CNT_CNT
  let t := t.noteVoid c stamp
  if again then t else t.log 0x0006 16 .warn (leBytes 4 (t.rd R.TST_VOID_STAT).toNat ++ leBytes 4 stamp.toNat)

/-- The short stamp of the valley that began the running period of carrier `c`. DEDUCED: log entry 60. -/
def State.valleyStamp (s : State) (c : Nat) : Word := (s.car c).valley.setWidth 32

/-! ### Integrated drivers (R194 to R199) -/

/-- The command of driver `n` from its selected source (R196). -/
def State.gdCommand (s : State) (n : Nat) : Bool :=
  match s.get (F.GDP_GDn_CFG_SRC n) with
  | 1 => (s.gd n).evt
  | 2 => (s.leg (min 23 (s.get (F.GDP_GDn_CFG_LEG n)))).outH
  | _ => s.on (F.GDP_GDn_CTRL_ON n)

/-- A driver fault of R198 is latched. -/
def State.gdFaulted (s : State) (n : Nat) : Bool :=
  s.on (F.GDP_GDn_STAT_UVLO n) || s.on (F.GDP_GDn_STAT_CPLOW n) || s.on (F.GDP_GDn_STAT_MISMATCH n)

/-- A tripped group of the driver's GRPMASK holds it off (R199). -/
def State.gdGroupHeld (s : State) (n : Nat) : Bool :=
  (List.range 8).any (fun g => s.bit R.GDP_GRP_STAT g && bitAt (BitVec.ofNat 32 (s.get (F.GDP_GDn_CFG_GRPMASK n))) g)

/-- The driver is held off by R18, the gate-enable, a group trip or a fault (R194, GDP_GDn_STAT.HELD). -/
def State.gdHeld (s : State) (n : Nat) : Bool :=
  !s.outputsAllowed || !s.on F.LOOM_STAT_GEN || s.gdGroupHeld n || s.gdFaulted n

/-- The summary bit of latched driver faults. -/
def State.gdSummary (s : State) : State :=
  s.putB F.GDP_STAT_DRV_FAULT ((List.range 8).any s.gdFaulted)

/-- Latch a driver fault: the flag, event 0xDD and the log record when it was not latched before (R198). -/
def State.gdLatch (s : State) (n : Nat) (flag : Fld) : State :=
  if s.on flag then s else
    let t := ((s.set1 flag).gdSummary).raise 0xDD
    t.log 0x0040 7 .error (BitVec.ofNat 8 n :: leBytes 4 (t.rd (R.GDP_GDn_STAT n)).toNat)

/-- Set the output of driver `n`, noting the instant of an edge, from which the currents then set are in force (R195). The sensed
gate follows the command; where it does not, the gate monitor's commands say so (R198). -/
def State.gdDrive (s : State) (n : Nat) (on : Bool) : State :=
  if s.on (F.GDP_GDn_STAT_OUT n) == on then s
  else
    let t := s.modGd n (fun g => { g with
      edgeAt := s.count, awayAt := none, followed := false, isrc := s.get (F.GDP_GDn_CFG_ISRC n), isnk := s.get (F.GDP_GDn_CFG_ISNK n) })
    (t.putB (F.GDP_GDn_STAT_OUT n) on).putB (F.GDP_GDn_STAT_GATE n) on

/-- Bring the output of driver `n` in line with its command and its holds. A high-side driver commanded on while its gate
supply is not OK stays off and sets CPLOW (R194, R196, R197). -/
def State.gdRefresh (s : State) (n : Nat) : State :=
  let cmd := s.gdCommand n
  let wants := cmd && s.on (F.GDP_GDn_CFG_EN n) && !s.gdHeld n
  let low := 4 ≤ n && wants && !s.on (F.GDP_GDn_STAT_OUT n) && !bitAt (BitVec.ofNat 32 (s.get F.GDP_CP_OK)) (n - 4)
  let t := s.putB (F.GDP_GDn_STAT_CMD n) cmd
  let t := if low then t.gdLatch n (F.GDP_GDn_STAT_CPLOW n) else t
  (t.gdDrive n (wants && !low)).putB (F.GDP_GDn_STAT_HELD n) (t.gdHeld n)

/-- Refresh every driver. -/
def State.gdRefreshAll (s : State) : State := s.forAll 8 (fun n t => t.gdRefresh n)

/-- Refresh the drivers that follow leg `l`. -/
def State.gdFollow (s : State) (l : Nat) : State :=
  s.forAll 8 (fun n t => if t.get (F.GDP_GDn_CFG_SRC n) = 2 ∧ min 23 (t.get (F.GDP_GDn_CFG_LEG n)) = l then t.gdRefresh n else t)

/-- Latch a driver fault and turn the driver off (R198). -/
def State.gdFault (s : State) (n : Nat) (flag : Fld) : State := (s.gdLatch n flag).gdRefresh n

/-! ### Leg outputs and blocks (R175, R185) -/

/-- An edge of leg `l` opens the blanking window of every blankable line whose mask holds the leg (R189). -/
def State.openBlanking (s : State) (l : Nat) : State :=
  s.forAll 16 (fun k t =>
    if 8 ≤ k ∧ t.nowOn (F.LOOM_TLk_CFG_BLANKABLE k) ∧ bitAt (t.nowRd (R.LOOM_TLk_MASK k)) l then
      t.modTl k (fun x => { x with blankEnd := some (t.count + min 1600 (t.nowGet (F.LOOM_TLk_CFG_BLANK k))) })
    else t)

/-- The delay line of output `o` (2l for PWMHl, 2l + 1 for PWMLl) places an edge, where `b` holds (R177). -/
def State.lineEdges (s : State) (o : Nat) (b : Bool) : State :=
  if b then { s with loom := { s.loom with lineEdge := upd s.loom.lineEdge o (fun _ => some s.count) } } else s

/-- Give the two outputs of a leg their on states; `edge` says that the change opens blanking windows (R189). -/
def State.setOuts (s : State) (l : Nat) (h lo edge : Bool) : State :=
  let changed := (s.leg l).outH != h || (s.leg l).outL != lo
  let t := (s.lineEdges (2 * l) ((s.leg l).outH != h)).lineEdges (2 * l + 1) ((s.leg l).outL != lo)
  let t := t.modLeg l (fun x => { x with outH := h, outL := lo })
  let t := if changed && edge then t.openBlanking l else t
  if changed then t.gdFollow l else t

/-- Clear both carries of a leg (R183). -/
def State.clearCarries (s : State) (l : Nat) : State :=
  ((s.modLeg l (fun x => { x with carryH := 0, carryL := 0 })).clr (F.LOOM_LEGl_STAT_CARRY_H l)).clr (F.LOOM_LEGl_STAT_CARRY_L l)

/-- Rest a leg: both outputs off, no dead time running, no pulse, until it resumes at a valley (R175, R192). The turn-off opens blanking
windows unless a block causes it (R189). DEDUCED: log entry 67. -/
def State.restLeg (s : State) (l : Nat) (edge : Bool) : State :=
  (s.setOuts l false false edge).modLeg l (fun x => { x with onH := none, onL := none, pulse := none, live := false })

/-- The causes that block a leg (R185). -/
inductive Cause where
  | ceil
  | flt
  | vtrip
  | interlock
  | grp
  | tl
  | mill
  | clk
  | safe
  | dll
  deriving DecidableEq, Repr

/-- The bit of a cause in LOOM_LEGl_STAT. -/
def Cause.bit : Cause → Nat
  | .ceil => 1
  | .flt => 2
  | .vtrip => 3
  | .interlock => 4
  | .grp => 5
  | .tl => 6
  | .mill => 7
  | .clk => 8
  | .safe => 9
  | .dll => 10

/-- Block leg `l` with a cause: the cause bit and BLOCKED, a pending release cancelled, both outputs off, both carries 0, and
event 0x18 + c when the cause is new (R183, R185, R186, R191). -/
def State.blockLeg (s : State) (cause : Cause) (l : Nat) : State :=
  let fresh := !s.bit (R.LOOM_LEGl_STAT l) cause.bit
  let t := (s.putBit (R.LOOM_LEGl_STAT l) cause.bit true).set1 (F.LOOM_LEGl_STAT_BLOCKED l)
  let t := (t.clr (F.LOOM_LEGl_STAT_PENDING l)).putBit R.LOOM_STAT l true
  let t := if cause = .interlock then t.set1 F.LOOM_STAT_ILK_ANY else t
  let t := (t.restLeg l false).clearCarries l
  if fresh then t.raise (0x18 + t.legCar l) else t

/-- Block every leg of a mask (R186). -/
def State.blockLegs (s : State) (cause : Cause) (mask : Nat) : State :=
  s.forAll 24 (fun l t => if mask.testBit l then t.blockLeg cause l else t)

/-! ### Carriers (R167 to R172, R178) -/

/-- The carrier period P in CORE cycles (R167). -/
def State.carPeriod (s : State) (c : Nat) : Nat := 2 * s.get (F.LOOM_PERc_PER c) * (s.get (F.LOOM_PERc_PRE c) + 1)

/-- The cycle of the commit instant after a valley (R169). -/
def State.commitCycle (s : State) (c : Nat) : Nat := s.get (F.LOOM_CPHc_CPH c) * s.carPeriod c / 65536

/-- STATE of a carrier: 0 STOPPED, 1 WAITING, 2 RUNNING. -/
def State.carState (s : State) (c : Nat) : Nat := s.get (F.LOOM_CSTATc_STATE c)

/-- The carrier runs. -/
def State.carRunning (s : State) (c : Nat) : Bool := s.coreRuns && s.carState c == 2

/-- CORE cycles since the last valley of a carrier. -/
def State.carElapsed (s : State) (c : Nat) : Nat := (s.clk.count - (s.car c).valley).toNat

/-- What LOOM_CSTATc reads: counter, state and direction (R167). -/
def State.carStatus (s : State) (c : Nat) : Word :=
  let step := s.get (F.LOOM_PERc_PRE c) + 1
  let n := s.carElapsed c / step
  let per := s.get (F.LOOM_PERc_PER c)
  let down := per ≤ n
  if s.carState c = 2 then
    BitVec.ofNat 32 ((if down then 2 * per - n else n) % 2 ^ 20 + 2 ^ 20 * 2 + 2 ^ 22 * bit1 down)
  else BitVec.ofNat 32 (2 ^ 20 * s.carState c)

/-- The carrier may start in this cycle: FREE at once, TB when (COUNT − PHOFF) mod P is 0 (R170). -/
def State.carPhaseHit (s : State) (c : Nat) : Bool :=
  let p := s.carPeriod c
  !s.on (F.LOOM_CARc_SYNC c) || (s.count + (p - s.get (F.LOOM_PHOFFc_PHOFF c) % p)) % p == 0

/-! ### Pulses (R173, R181, R182) -/

/-- Half a carrier period in 39 ps units. -/
def State.halfSpan (s : State) (c : Nat) : Nat := s.carPeriod c * 32

/-- A compare value of a leg in 39 ps units from its valley. -/
def State.edgeSpan (s : State) (c : Nat) (v : Nat) : Nat := v * (s.get (F.LOOM_PERc_PRE c) + 1)

/-- The node time of the last valley of a carrier, in 39 ps units (R176). -/
def State.valleyTime (s : State) (c : Nat) : Nat := (s.car c).valley.toNat * 64 + s.clk.fine.toNat

/-- An enabled reload copies at the valley (bit 0 of RELOAD) or the peak (bit 1), HOLD clear. -/
def State.reloads (s : State) (c bit : Nat) : Bool :=
  !s.on (F.LOOM_CARc_HOLD c) && (s.get (F.LOOM_CARc_RELOAD c)).testBit bit

/-- The closing edge of a high pulse of leg `l` that opens at time `t0`: the next fall of the reference (R173, R181).
DEDUCED: log entry 15. -/
def State.closeHigh (s : State) (l t0 : Nat) : Option Nat :=
  let c := s.legCar l
  let half := s.halfSpan c
  let v0 := s.valleyTime c
  let up := t0 < v0 + half
  let u := if !up && s.reloads c 0 then s.get (F.LOOM_LEGl_CMPU_POS l) else (s.leg l).actU
  let span := s.edgeSpan c u
  if half ≤ span then none else some ((if up then v0 else v0 + 2 * half) + span)

/-- The closing edge of a low pulse of leg `l` that opens at time `t0`: the next rise of the reference (R173, R181).
DEDUCED: log entry 15. -/
def State.closeLow (s : State) (l t0 : Nat) : Option Nat :=
  let c := s.legCar l
  let half := s.halfSpan c
  let v0 := s.valleyTime c
  let up := t0 < v0 + half
  let d := if up && s.reloads c 1 then s.get (F.LOOM_LEGl_CMPD_POS l) else (s.leg l).actD
  let span := s.edgeSpan c d
  let nextU := if (up && s.reloads c 1) || s.reloads c 0 then s.get (F.LOOM_LEGl_CMPU_POS l) else (s.leg l).actU
  if half ≤ span then some (v0 + half)
  else if d = 0 then (if nextU = 0 then none else some (v0 + 2 * half))
  else some (v0 + 2 * half - span)

/-- The dead time that governs a pulse of a kind; 0 for the kind that drives no output (R175, R181). -/
def State.deadTime (s : State) (l : Nat) (high : Bool) : Nat :=
  match high, s.get (F.LOOM_LEGl_CFG_MODE l) with
  | true, 2 => 0
  | false, 1 => 0
  | true, _ => s.get (F.LOOM_LEGl_DTH_DT l)
  | false, _ => s.get (F.LOOM_LEGl_DTL_DT l)

/-- The effective minimum pulse M (R181). -/
def State.minPulse (s : State) (l : Nat) : Nat := max (s.get (F.LOOM_LEGl_MINP_MINP l)) 256

/-- The output of a kind is driven in the leg's MODE (R175). -/
def State.drives (s : State) (l : Nat) (high : Bool) : Bool :=
  match high, s.get (F.LOOM_LEGl_CFG_MODE l) with
  | true, 2 => false
  | false, 1 => false
  | _, _ => true

/-- Store a carry and its flag. -/
def State.putCarry (s : State) (l : Nat) (high : Bool) (n : Nat) : State :=
  if high then (s.modLeg l (fun x => { x with carryH := n })).putB (F.LOOM_LEGl_STAT_CARRY_H l) (n != 0)
  else (s.modLeg l (fun x => { x with carryL := n })).putB (F.LOOM_LEGl_STAT_CARRY_L l) (n != 0)

/-- What the policy decides of a pulse: emitted or not, its closing edge, how far CARRY moved it, and the new carry. -/
structure Verdict where
  emitted : Bool
  closeAt : Option Nat
  moved : Nat
  carry : Nat
  short : Bool
  deriving DecidableEq, Repr

/-- Judge a pulse that opens at `t0` and closes at `close` with dead time `dt`, minimum `m`, policy and carry (R181).
DEDUCED: log entry 15. -/
def judgePulse (policy t0 : Nat) (close : Option Nat) (dt m carry : Nat) : Verdict :=
  let c := if 2 ≤ policy then carry else 0
  match close with
  | none => ⟨true, none, c, 0, false⟩
  | some t1 =>
    let o := t1 - t0 - dt
    if m ≤ o + c then ⟨true, some (t1 + c), c, 0, o < m⟩
    else match policy with
      | 0 => ⟨false, some t1, 0, carry, o < m⟩
      | 1 => ⟨true, some (t0 + dt + m), 0, carry, o < m⟩
      | _ => ⟨false, some t1, 0, carry + o, o < m⟩

/-- Open a pulse of a kind at time `t0`: count it when short, and either emit it (the reference takes its level, and the
driven output's dead time starts) or leave the reference as it is (R181). -/
def State.openPulse (s : State) (l : Nat) (high : Bool) (t0 : Nat) : State :=
  let leg := s.leg l
  let policy := s.get (F.LOOM_LEGl_CFG_POLICY l)
  let dt := s.deadTime l high
  let v := judgePulse policy t0 (if high then s.closeHigh l t0 else s.closeLow l t0) dt (s.minPulse l)
    (if high then leg.carryH else leg.carryL)
  let t := if v.short then s.incS (F.LOOM_LEGl_CNT_SHORT l) else s
  let t := if 2 ≤ policy then t.putCarry l high v.carry else t
  let due := if t.drives l high then some (t0 + dt) else none
  t.modLeg l (fun x =>
    if v.emitted then { x with ref := high, pulse := some ⟨high, t0, true, v.closeAt, v.moved⟩,
                               onH := if high then due else none, onL := if high then none else due }
    else { x with pulse := some ⟨high, t0, false, v.closeAt, 0⟩ })

/-- The next opening edge of a leg: a pulse of the other level, or, after a pulse that was not emitted, the rest of the
merged pulse, which takes its commanded closing edge; the part before it has served the minimum (R181, R182). DEDUCED: log entry 15. -/
def State.pulseOpens (s : State) (l : Nat) : State :=
  let leg := s.leg l
  match leg.pulse with
  | some p =>
    let t0 := p.closeAt.getD s.now
    if p.emitted then s.openPulse l (!leg.ref) t0
    else s.modLeg l (fun x => { x with pulse := some ⟨leg.ref, 0, true,
      if leg.ref then s.closeHigh l t0 else s.closeLow l t0, 0⟩ })
  | none => s.openPulse l (!leg.ref) s.now

/-- The reference of leg `l` at this instant of its carrier, before the pulse policy (R173). -/
def State.rawRef (s : State) (l : Nat) : Bool :=
  let c := s.legCar l
  let half := s.halfSpan c
  let x := s.now - s.valleyTime c
  let v := s.edgeSpan c (if x < half then (s.leg l).actU else (s.leg l).actD)
  half ≤ v || (if x < half then x else 2 * half - x) < v

/-- An edge at a time in 39 ps units falls in this CORE cycle, or has passed (R176). DESIGN CHOICE: log entry 4. -/
def State.edgeDue (s : State) (t : Nat) : Bool := s.due (t / 64)

/-- The closing edge of a pulse in progress follows the values that govern it now; that of an emitted one is never earlier than its
opening edge + DT + M (R182). An edge already reached stays, and an extended one is moved no later. -/
def State.followShadow (s : State) (l : Nat) : State :=
  match (s.leg l).pulse with
  | some p =>
    let least := p.openAt + s.deadTime l p.high + s.minPulse l
    let bound := fun t => if p.emitted then max (t + p.moved) least else t
    let close := if s.rawRef l == p.high then ((if p.high then s.closeHigh l s.now else s.closeLow l s.now).map bound)
      else some (min (bound s.now) (p.closeAt.getD (bound s.now)))
    if (p.closeAt.map s.edgeDue).getD false then s
    else s.modLeg l (fun x => { x with pulse := some { p with closeAt := close } })
  | none => s

/-- Reload: every leg of the carrier copies its shadows into its active values, unless HOLD is set (R178, R179). Pulses in progress
follow what governs them from here (R182). -/
def State.reload (s : State) (c : Nat) : State :=
  if s.on (F.LOOM_CARc_HOLD c) then s else
    s.forAll 24 (fun l t => if t.legCar l = c then
      (t.modLeg l (fun x => { x with actU := t.get (F.LOOM_LEGl_CMPU_POS l), actD := t.get (F.LOOM_LEGl_CMPD_POS l) })).followShadow l
    else t)

/-- What closes the pulses of a carrier's legs has changed (R172, R179): each closing edge follows. -/
def State.followLegs (s : State) (c : Nat) : State := s.forAll 24 (fun l t => if t.legCar l = c then t.followShadow l else t)

/-- Load the shadow U (`down` false) or D of a leg with a compare word (R174, R178, R180). -/
def State.loadShadow (s : State) (l : Nat) (down : Bool) (v : Word) : State :=
  (s.put (if down then F.LOOM_LEGl_CMPD_POS l else F.LOOM_LEGl_CMPU_POS l) (v.toNat % 2 ^ 26)).followShadow l

/-- Leg `l` may switch: enabled, its carrier running, not blocked, and the mode one that switches (R175). During replay its edges
are placed with both outputs off (R62). -/
def State.legMay (s : State) (l : Nat) : Bool :=
  s.on (F.LOOM_LEGl_CFG_EN l) && s.carRunning (s.legCar l) && !s.on (F.LOOM_LEGl_STAT_BLOCKED l) && s.switching

/-- Leg `l` resumes switching at a valley: both carries 0, and the reference treated as though it had just taken its present
level (R183, R192). DEDUCED: log entry 15. -/
def State.resumeLeg (s : State) (l : Nat) : State :=
  let t := s.clearCarries l
  if t.legMay l then
    let high := 0 < (t.leg l).actU
    (t.modLeg l (fun x => { x with live := true, ref := !high })).openPulse l high t.now
  else t

/-! ### Trip lines (R188 to R190) -/

/-- A line blocks its mask: cause TL, HIT and HITS (R188). -/
def State.tlBlock (s : State) (k : Nat) : State :=
  ((s.blockLegs .tl (s.nowGet (F.LOOM_TLk_MASK_LEGS k))).set1 (F.LOOM_TLk_STAT_HIT k)).incS (F.LOOM_TLk_STAT_HITS k)

/-- The active level of a pin line is high: POL 0 (R188). -/
def State.tlHigh (s : State) (k : Nat) : Bool := !s.nowOn (F.LOOM_TLk_CFG_POL k)

/-- The line's blanking window is open (R189). -/
def State.tlBlanked (s : State) (k : Nat) : Bool :=
  8 ≤ k && s.nowOn (F.LOOM_TLk_CFG_BLANKABLE k) &&
    (match (s.tl k).blankEnd with | some e => s.count < e | none => false)

/-- An enabled line acts: LIVE for a pin or comparator line, and a block unless blanking masks it (R188, R189). DEDUCED: log entry 67. -/
def State.tlAct (s : State) (k : Nat) : State :=
  if s.nowOn (F.LOOM_TLk_CFG_EN k) then
    let t := if 8 ≤ k then s.set1 (F.LOOM_TLk_STAT_LIVE k) else s
    if t.tlBlanked k then t.modTl k (fun x => { x with acted := true }) else t.tlBlock k
  else s

/-- A line stops acting; when it acted only inside the open window, BLANKED is set (R189). -/
def State.tlRest (s : State) (k : Nat) : State :=
  let t := s.clr (F.LOOM_TLk_STAT_LIVE k)
  let t := if (t.tl k).acted then t.set1 (F.LOOM_TLk_STAT_BLANKED k) else t
  t.modTl k (fun x => { x with acted := false, input := false })

/-- A cycle begins in which what the cycle before it, `was`, has written of a line's CFG or MASK takes effect: a new CFG restarts the filter
count, so that the line acts no longer, and acts again FILT + 1 cycles after the write when its input is asserted and EN is 1, a pin being
judged by the level that POL now makes active; while the line acts unblanked, the legs that a new MASK adds are blocked (R188). -/
def State.tlWritten (s : State) (was : State) (k : Nat) : State :=
  let new := fun (a : Nat) => was.cycle.old.any (fun x => x.1 == a)
  let t := if new (R.LOOM_TLk_CFG k) then (s.clr (F.LOOM_TLk_STAT_LIVE k)).modTl k (fun x => { x with
      since := was.count, acted := false, input := if 8 ≤ k ∧ k < 12 then x.level == s.tlHigh k else x.input })
    else s
  if new (R.LOOM_TLk_MASK k) && t.on (F.LOOM_TLk_STAT_LIVE k) && !t.tlBlanked k then
    t.blockLegs .tl (ofBits ((List.range 24).map (fun l => t.bit (R.LOOM_TLk_MASK k) l && !bitAt (was.nowRd (R.LOOM_TLk_MASK k)) l)))
  else t

/-! ### Releases (R191) -/

/-- The staged word of LOOM_LEGl_CMPU (`down` false) or CMPD is owned by an enabled task (R180); OWN nibbles as in
MILL_STGOWNj. -/
def State.stagedOwner (s : State) (i : Nat) : Option Nat :=
  let nib := s.get ⟨R.MILL_STGOWNj (i / 8), 4 * (i % 8), 4⟩
  if 8 ≤ nib then some (nib % 8) else none

/-- An enabled task owns staged word `i` (R135, R180). -/
def State.stagedOwned (s : State) (i : Nat) : Bool :=
  match s.stagedOwner i with
  | some t => s.on (F.MILL_TASKt_BIND_EN t)
  | none => false

/-- The Mill holds its block input of leg `l`: an owning task is TRIPPED, or ECC_FATAL is set (R191). -/
def State.millHolds (s : State) (l : Nat) : Bool :=
  s.on F.MILL_STAT_ECC_FATAL ||
    [2 * l, 2 * l + 1].any (fun i => match s.stagedOwner i with
      | some t => s.on (F.MILL_TASKt_STAT_TRIPPED t)
      | none => false)

/-- No cause source of leg `l` is still asserted (R191). -/
def State.releasable (s : State) (l : Nat) : Bool :=
  !((List.range 48).any (fun w => s.bit (R.CMP_WINw_MASK w) l && s.on (F.CMP_WINw_STAT_CEIL w))) &&
  !s.bit R.GDP_FLT_LATCH l &&
  !((List.range 2).any (fun n => s.bit (R.GDP_LINKn_MASK n) l && s.on (F.GDP_LINKn_STAT_VTRIP n))) &&
  !((List.range 16).any (fun k => bitAt (s.nowRd (R.LOOM_TLk_MASK k)) l && s.on (F.LOOM_TLk_STAT_LIVE k))) &&
  !s.millHolds l &&
  !((List.range 8).any (fun g => s.bit R.GDP_GRP_STAT g && (s.group g).legs.getLsbD l)) &&
  s.on F.LOOM_STAT_GEN &&
  !s.on F.CLK_STAT_REF_LOST && !s.on F.CLK_STAT_SYN0_LOST && !s.on F.CLK_STAT_SYN1_LOST && !s.clk.coreOnMonitor &&
  !(s.on F.LOOM_DLL_FAIL && s.on (F.LOOM_LEGl_STAT_DLL l)) &&
  !s.loom.ilkSeen.getLsbD l

/-- Request release of every leg of a mask (R191). -/
def State.unblock (s : State) (mask : Nat) : State :=
  s.forAll 24 (fun l t =>
    if mask.testBit l && t.on (F.LOOM_LEGl_STAT_BLOCKED l) then
      (if t.releasable l then t.set1 (F.LOOM_LEGl_STAT_PENDING l) else t.set1 (F.LOOM_LEGl_STAT_REL_REF l))
    else t)

/-- At a valley an accepted release takes effect: cause bits and BLOCKED clear and the leg resumes (R191). -/
def State.releaseLeg (s : State) (l : Nat) : State :=
  let t := s.wr (R.LOOM_LEGl_STAT l) (setBits (setBits (s.rd (R.LOOM_LEGl_STAT l)) 0 12 0) 13 2 0)
  let t := t.putBit R.LOOM_STAT l false
  t.putB F.LOOM_STAT_ILK_ANY ((List.range 24).any (fun k => t.on (F.LOOM_LEGl_STAT_INTERLOCK k)))

/-- A delay line cannot hold its trim: FAIL, FAIL_OUT, the leg blocked with cause DLL, and the log record (R177). -/
def State.dllFail (s : State) (o : Nat) : State :=
  let t := ((s.set1 F.LOOM_DLL_FAIL).put F.LOOM_DLL_FAIL_OUT o).set1 F.LOOM_STAT_DLL_FAIL
  let t := t.blockLeg .dll (o / 2)
  t.log 0x0041 6 .fault (leBytes 4 (t.rd R.LOOM_DLL).toNat)

end Sys2Proof.Machine
end

