-- ==== Sys2Proof/Machine/GdpOps.lean ====
section
/-! DEFINITION. Machine/GdpOps.lean: leg faults and group policies, the DC-link trip, the brake chopper and its resistor
model (R200 to R210), and the window comparators that drive them (R213 to R222). -/

namespace Sys2Proof.Machine

/-! ### Leg faults and groups (R200 to R205) -/

/-- The GRPMAP nibble of leg `l`: bit 3 IN, bits 2:0 the group (R202). -/
def State.grpNibble (s : State) (l : Nat) : Nat := s.get ⟨R.GDP_GRPMAPj (l / 8), 4 * (l % 8), 4⟩

/-- Leg `l` belongs to group `g` (R202). -/
def State.inGroup (s : State) (g l : Nat) : Bool := s.grpNibble l == 8 + g

/-- The legs a trip of group `g` shuts down besides the faulted ones, in ascending order (R202). -/
def State.grpChosen (s : State) (g : Nat) : List Nat :=
  (List.range 24).filter (fun l =>
    s.on (F.LOOM_LEGl_CFG_EN l) && !s.bit R.GDP_FLT_LATCH l &&
    (match s.get (F.GDP_GRPg_CFG_POLICY g) with
     | 0 => false
     | 2 => true
     | _ => s.inGroup g l))

/-- STAGGER of a group, limited to 200 cycles (R203). -/
def State.stagger (s : State) (g : Nat) : Nat := min 200 (s.get (F.GDP_GRPg_CFG_STAGGER g))

/-- Give the k-th chosen leg its instant, k × STAGGER after the cycle `seen` (R203). -/
def staggered (seen step : Nat) : Nat → List Nat → List (Nat × Nat)
  | _, [] => []
  | k, l :: rest => (l, seen + k * step) :: staggered seen step (k + 1) rest

/-- A mask with the bits of a list of legs. -/
def legMask (ls : List Nat) : BitVec 24 := BitVec.ofNat 24 (ls.foldl (fun m l => m ||| 2 ^ l) 0)

/-- The copies of TRIPPED, FLT_ANY and VTRIP in GDP_STAT. -/
def State.gdpSummary (s : State) : State :=
  let t := s.putB F.GDP_STAT_FLT_ANY (s.get F.GDP_FLT_LATCH_LEG != 0)
  let t := t.put F.GDP_STAT_GRP (t.get F.GDP_GRP_STAT_TRIPPED)
  (t.putB F.GDP_STAT_VTRIP0 (t.on (F.GDP_LINKn_STAT_VTRIP 0))).putB F.GDP_STAT_VTRIP1 (t.on (F.GDP_LINKn_STAT_VTRIP 1))

/-- Group `g` trips: TRIPPED, event 0xD0 + g, a sequence unless one of an earlier cycle runs, and the drivers of its mask off (R199, R202
to R204). The latch is seen in CORE 5 cycles after it sets (R200). -/
def State.groupTrip (s : State) (g : Nat) : State :=
  let t := (s.putBit R.GDP_GRP_STAT g true).raise (0xD0 + g)
  let t := if (t.group g).queue = [] ∨ (t.group g).since = some t.count then
      t.modGroup g (fun x => { x with queue := staggered (t.count + 5) (t.stagger g) 1 (t.grpChosen g), since := some t.count })
    else t
  t.gdpSummary.gdRefreshAll

/-- A leg that faults leaves the sequence of group `g`: the other queued legs keep their instants, but a sequence that began in this cycle
runs over the legs that remain (R204). -/
def State.leaveQueue (s : State) (g l : Nat) : State :=
  s.modGroup g (fun x =>
    if x.since = some s.count then { x with queue := staggered (s.count + 5) (s.stagger g) 1 (s.grpChosen g) }
    else { x with queue := x.queue.filter (fun q => q.1 != l) })

/-- The FLT latch of leg `l` sets: the leg blocked at once, out of every queue, event 0xD8, and its group trips (R200, R204).
DEDUCED: log entry 10. -/
def State.fltLatch (s : State) (l : Nat) : State :=
  let t := s.putBit R.GDP_FLT_LATCH l true
  let t := (t.blockLeg .flt l).raise 0xD8
  let t := t.forAll 8 (fun g u => u.leaveQueue g l)
  let nib := t.grpNibble l
  if 8 ≤ nib then t.groupTrip (nib - 8) else t.gdpSummary

/-- Block the queued legs of group `g` whose instants have come: the standing trip holds them from here on (R203, R205). -/
def State.staggerBlock (s : State) (g : Nat) : State :=
  let q := (s.group g).queue
  let now := q.filter (fun x => s.due x.2)
  let t := s.modGroup g (fun x => { x with queue := q.filter (fun y => !s.due y.2), legs := x.legs ||| legMask (now.map (·.1)) })
  now.foldl (fun u x => u.blockLeg .grp x.1) t

/-- A write of the FLT latches: a bit clears only while its FLT is not asserted, else CLR_REF (R201). -/
def State.fltClear (s : State) (mask : Nat) : State :=
  let pins := s.get F.GDP_FLT_PIN_LEG
  let latch := s.get F.GDP_FLT_LATCH_LEG
  let asked := latch &&& mask
  let t := s.put F.GDP_FLT_LATCH_LEG (latch - (asked - (asked &&& pins)))
  (if asked &&& pins = 0 then t else t.set1 F.GDP_STAT_CLR_REF).gdpSummary

/-- No member of group `g` has its FLT latch set (R205). -/
def State.grpQuiet (s : State) (g : Nat) : Bool :=
  (List.range 24).all (fun l => !(s.inGroup g l && s.bit R.GDP_FLT_LATCH l))

/-- A write of TRIPPED bits: a trip clears only while no member latch is set, else CLR_REF (R205). -/
def State.grpClear (s : State) (mask : Nat) : State :=
  (s.forAll 8 (fun g t =>
    if mask.testBit g && t.bit R.GDP_GRP_STAT g then
      (if t.grpQuiet g then (t.putBit R.GDP_GRP_STAT g false).modGroup g (fun _ => {})
       else t.set1 F.GDP_GRP_STAT_CLR_REF)
    else t)).gdpSummary.gdRefreshAll

/-! ### The charge pump (R197, R198) -/

/-- The pump runs: EN is 1 and VDRV lies above its undervoltage threshold (R197). -/
def State.pumpRuns (s : State) : Bool := s.on F.GDP_CP_EN && s.on F.SYS_SUPPLY_VDRV_OK

/-- OK of high-side driver 4 + `k` takes a state: a held command turns on, or a driver that is on takes CPLOW (R197, R198). -/
def State.cpOk (s : State) (k : Nat) (ok : Bool) : State :=
  let t := s.putBit R.GDP_CP (4 + k) ok
  if !ok && t.on (F.GDP_GDn_STAT_OUT (4 + k)) then t.gdFault (4 + k) (F.GDP_GDn_STAT_CPLOW (4 + k)) else t.gdRefresh (4 + k)

/-- Without the pump no gate supply stands: OK of every high-side driver is 0 (R197). DEDUCED: log entry 10. -/
def State.pumpFollow (s : State) : State :=
  if s.pumpRuns then s else s.forAll 4 (fun k t => if (t.get F.GDP_CP_OK).testBit k then t.cpOk k false else t)

/-! ### The brake chopper (R207 to R209) -/

/-- The window a link watches (GDP_LINKn_CFG.WIN, at most 47). -/
def State.linkWin (s : State) (n : Nat) : Nat := min 47 (s.get (F.GDP_LINKn_CFG_WIN n))

/-- BRKMODE in effect: 0 OFF, 1 AUTO, 2 TEST; TEST outside SERVICE and 3 are OFF (R209). -/
def State.brkMode (s : State) (n : Nat) : Nat :=
  match s.get (F.GDP_LINKn_CFG_BRKMODE n) with
  | 1 => 1
  | 2 => if s.inService then 2 else 0
  | _ => 0

/-- The chopper and V_trip act: READY, RUN, LIMP and SERVICE (R210). -/
def State.brkActs (s : State) : Bool := s.coreRuns

/-- PON, TAU and EMAX are all given (R209). -/
def State.brkConfigured (s : State) (n : Nat) : Bool :=
  s.get (F.GDP_LINKn_PON_VAL n) != 0 && s.get (F.GDP_LINKn_TAU_TAU n) != 0 && s.get (F.GDP_LINKn_EMAX_VAL n) != 0

/-- Cycles BRKn has been on in the present tick (R208). -/
def State.brkUsed (s : State) (n : Nat) : Nat :=
  let b := s.brk n
  b.onCycles + (if s.on (F.GDP_LINKn_STAT_BRK_ON n) then s.count - max b.lastOn b.tickStart else 0)

/-- The thermal limit allows conduction: no budget acts, or it is not spent (R208). -/
def State.brkAllowed (s : State) (n : Nat) : Bool :=
  match (s.brk n).budget with
  | some b => s.brkUsed n < b
  | none => true

/-- θ ≥ 1.25 × EMAX (R207). -/
def State.brkHard (s : State) (n : Nat) : Bool := (5 * s.get (F.GDP_LINKn_EMAX_VAL n) : Rat) / 4 ≤ (s.brk n).theta

/-- Turn BRKn on: event 0xDA + n and ONCNT (R207). -/
def State.brkOn (s : State) (n : Nat) : State :=
  if s.on (F.GDP_LINKn_STAT_BRK_ON n) then s else
    let t := (s.set1 (F.GDP_LINKn_STAT_BRK_ON n)).putBit R.GDP_STAT (5 + n) true
    let t := t.modBrk n (fun b => { b with lastOn := t.count })
    (t.incW (F.GDP_LINKn_STAT_ONCNT n)).raise (0xDA + n)

/-- Turn BRKn off, keeping the cycles it was on. -/
def State.brkOff (s : State) (n : Nat) : State :=
  if s.on (F.GDP_LINKn_STAT_BRK_ON n) then
    let used := s.brkUsed n
    let t := (s.clr (F.GDP_LINKn_STAT_BRK_ON n)).putBit R.GDP_STAT (5 + n) false
    t.modBrk n (fun b => { b with lastOff := some t.count, onCycles := used })
  else s

/-- What moves the chopper in the present cycle: `some true` turn on, `some false` turn off, `none` stay (R207, R209). -/
def State.brkWants (s : State) (n : Nat) : Option Bool :=
  let w := s.linkWin n
  let on := s.on (F.GDP_LINKn_STAT_BRK_ON n)
  let ceil := s.on (F.CMP_WINw_STAT_CEIL w)
  if !s.brkActs then (if on then some false else none) else
  match s.brkMode n with
  | 1 =>
    if !s.brkConfigured n then (if on then some false else none)
    else if on then
      (if s.brkHard n then some false
       else if ceil then none
       else if !s.brkAllowed n then some false
       else if s.on (F.CMP_WINw_STAT_LO w) && (s.brk n).lastOn + 40 * s.get (F.GDP_LINKn_TMIN_TON n) ≤ s.count then some false
       else none)
    else if ceil && !s.brkHard n then some true
    else if s.on (F.CMP_WINw_STAT_HI w) && s.brkAllowed n &&
        (match (s.brk n).lastOff with
         | some t => t + 40 * s.get (F.GDP_LINKn_TMIN_TOFF n) ≤ s.count
         | none => true) then some true
    else none
  | 2 =>
    match (s.brk n).testEnd with
    | some _ => if on == s.brkAllowed n then none else some (s.brkAllowed n)
    | none => if on then some false else none
  | _ => if on then some false else none

/-- Take the chopper's transition, if one is due (R207). HARD is set when θ ends conduction. -/
def State.brkStep (s : State) (n : Nat) : State :=
  let t := s.putB (F.GDP_LINKn_STAT_CFG_ERR n) (s.get (F.GDP_LINKn_CFG_BRKMODE n) == 1 && !s.brkConfigured n)
  match t.brkWants n with
  | some true => t.brkOn n
  | some false =>
    let u := t.brkOff n
    if t.brkMode n = 1 ∧ t.brkConfigured n ∧ t.brkHard n then u.set1 (F.GDP_LINKn_STAT_HARD n) else u
  | none => t

/-- Step both choppers. -/
def State.brkStepAll (s : State) : State := (s.brkStep 0).brkStep 1

/-- The resistor model at a tick (R208): θ, LIMIT, the budget B of the next tick and event 0xDC. With PON or TAU 0 there is no B, and
LIMIT stays 0. DEDUCED: log entry 10. -/
def State.brkTick (s : State) (n : Nat) : State :=
  let pon := s.get (F.GDP_LINKn_PON_VAL n)
  let tau := s.get (F.GDP_LINKn_TAU_TAU n)
  let emax := s.get (F.GDP_LINKn_EMAX_VAL n)
  let theta := (s.brk n).theta
  let heat : Rat := (pon : Rat) * (s.brkUsed n : Rat) / 400000000
  let cool : Rat := if tau = 0 then 0 else theta / (100 * tau : Rat)
  let theta' := theta + heat - cool
  let limit := pon != 0 && tau != 0 && decide ((emax : Rat) ≤ theta')
  let fresh := limit && !s.on (F.GDP_LINKn_STAT_LIMIT n)
  let budget := if limit then some (400000 * emax * 10 / (pon * tau)) else none
  let t := s.modBrk n (fun b => { b with theta := theta', onCycles := 0, tickStart := s.count, budget := budget })
  let t := (t.putB (F.GDP_LINKn_STAT_LIMIT n) limit).wr (R.GDP_LINKn_THETA n)
    (BitVec.ofNat 32 (min (2 ^ 32 - 1) theta'.floor.toNat))
  (if fresh then t.raise 0xDC else t).brkStep n

/-- CEIL of the window of an enabled link: VTRIP, its legs blocked, event 0xD9 (R206). -/
def State.vtrip (s : State) (n : Nat) : State :=
  let t := ((s.set1 (F.GDP_LINKn_STAT_VTRIP n)).gdpSummary).blockLegs .vtrip (s.get (F.GDP_LINKn_MASK_LEGS n))
  t.raise 0xD9

/-! ### Window comparators (R213 to R219) -/

def State.win (s : State) (w : Nat) : CmpWin := nth s.cmp.wins w {}
def State.modWin (s : State) (w : Nat) (f : CmpWin → CmpWin) : State :=
  { s with cmp := { s.cmp with wins := upd s.cmp.wins w f } }

/-- The three comparators of a window, numbered as the bits of CMP_WINw_STAT: 0 LO, 1 HI, 2 CEIL. -/
def State.cmpActive (s : State) (w i : Nat) : Bool := s.bit (R.CMP_WINw_STAT w) i

/-- What R213 says of a comparator at an input voltage in µV: `some` its state, or `none` inside its band. Voltages are
compared in units of 1/1,024 µV, so that T = code × 3 V / 1,024 is exact. -/
def State.cmpJudge (s : State) (w i : Nat) (v : Int) : Option Bool :=
  let code := match i with
    | 0 => s.get (F.CMP_WINw_TH_LO w)
    | 1 => s.get (F.CMP_WINw_TH_HI w)
    | _ => s.get (F.CMP_WINw_TH_CEIL w)
  let below := i == 0 || (i == 2 && s.on (F.CMP_WINw_CFG_CEIL_DIR w))
  let t : Int := code * 3000000
  let h : Int := s.get (F.CMP_WINw_CFG_HYS w) * 2000 * 1024
  let x := v * 1024
  if below then (if x < t then some true else if t + h < x then some false else none)
  else (if t < x then some true else if x < t - h then some false else none)

/-- Trip line `k` (12 to 15) is fed by an active comparator (R218). -/
def State.lineFed (s : State) (k : Nat) : Bool :=
  (List.range 48).any (fun w =>
    (s.on (F.CMP_WINw_CFG_LO_TLEN w) && 12 + s.get (F.CMP_WINw_CFG_LO_TL w) == k && s.cmpActive w 0) ||
    (s.on (F.CMP_WINw_CFG_HI_TLEN w) && 12 + s.get (F.CMP_WINw_CFG_HI_TL w) == k && s.cmpActive w 1))

/-- Bring the inputs of the comparator trip lines in line with the comparators; an assertion starts its filter count (R188).
DEDUCED: log entry 67. -/
def State.feedLines (s : State) : State :=
  s.forAll 16 (fun k t => if k < 12 then t else
    let fed := t.lineFed k
    if fed == (t.tl k).input then t
    else if fed then t.modTl k (fun x => { x with input := true, since := t.count })
    else t.tlRest k)

/-- Event 0x60 + w, and with IRQ the attention flag (R219); attention bit 2 newly set raises 0xFD (R341, R343). -/
def State.winEvent (s : State) (w : Nat) : State :=
  let t := s.raise (0x60 + w)
  if t.on (F.CMP_WINw_CFG_IRQ w) then
    let u := t.putBit (R.CMP_IRQSTATj (w / 32)) (w % 32) true
    if t.cmpIrq then u else u.emit 0xFD
  else t

/-- A comparator's change enters the synchroniser: CORE sees it 2 cycles later (R219). -/
def State.cmpChanges (s : State) (w i : Nat) (b : Bool) : State :=
  { s with cmp := { s.cmp with changes := s.cmp.changes ++ [⟨w, i, b, 2⟩] } }

/-- A change that CORE sees raises the event of its window: EV_EN selects the comparator, and EV_BOTH takes the change to inactive too
(R219). -/
def State.selects (s : State) (x : CmpChange) : Bool :=
  s.bit (R.CMP_WINw_CFG x.win) (16 + x.cmp) && (x.active || s.on (F.CMP_WINw_CFG_EV_BOTH x.win))

/-- The synchronisers in a CORE cycle: each window raises one event for the changes that CORE sees in it (R219). -/
def State.winTick (s : State) : State :=
  if s.cmp.changes = [] then s else
    let seen := (s.cmp.changes.filter (fun x => x.wait == 1 && s.selects x)).map (·.win)
    let left := (s.cmp.changes.filter (fun x => 1 < x.wait)).map (fun x => { x with wait := x.wait - 1 })
    seen.eraseDups.foldl (fun t w => t.winEvent w) { s with cmp := { s.cmp with changes := left } }

/-- CEIL of window `w` has become active: its legs blocked, and V_trip of every enabled link that names the window (R206,
R217). -/
def State.ceilActs (s : State) (w : Nat) : State :=
  let t := s.blockLegs .ceil (s.get (F.CMP_WINw_MASK_LEGS w))
  t.forAll 2 (fun n u => if u.on (F.GDP_LINKn_CFG_EN n) ∧ u.linkWin n = w ∧ u.brkActs then u.vtrip n else u)

/-- Comparator `i` of window `w` takes a state; `counts` says that an unchanged active state counts as a change (R216). -/
def State.setCmp (s : State) (w i : Nat) (b counts : Bool) : State :=
  let changed := s.cmpActive w i != b || (counts && b)
  let t := s.putBit (R.CMP_WINw_STAT w) i b
  if changed then
    let t := if i = 2 ∧ b then t.ceilActs w else t
    let t := t.feedLines.cmpChanges w i b
    t.forAll 2 (fun n u => if u.linkWin n = w then u.brkStep n else u)
  else t

/-- Judge one comparator at a voltage; an unresolved one resolves when its input leaves the band (R213, R216). -/
def State.judgeCmp (s : State) (w : Nat) (v : Int) (i : Nat) : State :=
  match s.cmpJudge w i v with
  | some b => (s.setCmp w i b false).putBit (R.CMP_WINw_STAT w) (4 + i) false
  | none => s

/-- Judge the three comparators of a window at a voltage. -/
def State.judgeWin (s : State) (w : Nat) (v : Int) : State := ((s.judgeCmp w v 0).judgeCmp w v 1).judgeCmp w v 2

/-- The summaries of CMP_STAT. -/
def State.cmpSummary (s : State) : State :=
  let t := s.putB F.CMP_STAT_UNRES_ANY ((List.range 48).any (fun w => s.get (F.CMP_WINw_STAT_UNRESOLVED w) != 0))
  let t := t.putB F.CMP_STAT_SETTLE_ANY ((List.range 48).any (fun w => s.on (F.CMP_WINw_STAT_SETTLING w)))
  t.putB F.CMP_STAT_RB_FAULT ((List.range 48).any (fun w => s.get (F.CMP_WINw_STAT_RB_ERR w) != 0))

/-- R215 forces a sampled window to continuous operation in RUN and SERVICE. -/
def State.winForced (s : State) (w : Nat) : Bool :=
  s.switching && 2 ≤ s.get (F.CMP_WINw_CFG_MODE w) &&
    (s.get (F.CMP_WINw_MASK_LEGS w) != 0 ||
      (List.range 2).any (fun n => s.on (F.GDP_LINKn_CFG_EN n) && s.linkWin n == w))

/-- The window operates continuously (R214, R215). -/
def State.winContinuous (s : State) (w : Nat) : Bool :=
  match s.get (F.CMP_WINw_CFG_MODE w) with
  | 0 => false
  | 1 => s.mode != .keep
  | 2 => s.winForced w
  | _ => s.mode != .keep && s.mode != .doze

/-- The window operates at sampling ticks (R214). -/
def State.winSampled (s : State) (w : Nat) : Bool :=
  s.get (F.CMP_WINw_CFG_MODE w) != 0 && s.mode != .keep && !s.winContinuous w

/-- A window starts: 800 cycles of settling in its power-up states (R216). -/
def State.winStart (s : State) (w : Nat) : State :=
  let t := s.modWin w (fun _ => { running := true, settleEnd := s.count + 800, decideAt := none })
  let t := (t.set1 (F.CMP_WINw_STAT_SETTLING w)).clr (F.CMP_WINw_STAT_UNRESOLVED w)
  let pus := t.get (F.CMP_WINw_CFG_PUS w)
  ((((t.setCmp w 0 (pus.testBit 0) true).setCmp w 1 (pus.testBit 1) true).setCmp w 2 (pus.testBit 2) true)).cmpSummary

/-- A window goes off: its comparators become inactive, which CORE sees as any other change (R214, R219). -/
def State.winOff (s : State) (w : Nat) : State :=
  let t := s.modWin w (fun _ => {})
  let t := ((t.setCmp w 0 false false).setCmp w 1 false false).setCmp w 2 false false
  let t := t.wr (R.CMP_WINw_STAT w) (setBits (t.rd (R.CMP_WINw_STAT w)) 0 7 0)
  t.cmpSummary

/-- The end of settling for one comparator (R216). -/
def State.settleCmp (s : State) (w : Nat) (v : Int) (i : Nat) : State :=
  match s.cmpJudge w i v with
  | some b => s.setCmp w i b false
  | none => s.putBit (R.CMP_WINw_STAT w) (4 + i) true

end Sys2Proof.Machine
end

