-- ==== Sys2Proof/Machine/AcqOps.lean ====
section
/-! DEFINITION. Machine/AcqOps.lean: conversion slots, correction and averaging, the spare rotation, the Prism's windows,
streams and snapshot (R64 to R90, R221). -/

namespace Sys2Proof.Machine

/-! ### Access to the parts -/

def State.modAcq (s : State) (f : Acq → Acq) : State := { s with acq := f s.acq }
def State.modPrism (s : State) (f : Prism → Prism) : State := { s with prism := f s.prism }
def State.slice (s : State) (n : Nat) : SliceSt := nth s.acq.slices n {}
def State.modSlice (s : State) (n : Nat) (f : SliceSt → SliceSt) : State :=
  s.modAcq (fun a => { a with slices := upd a.slices n f })
def State.modSpare (s : State) (f : SpareSt → SpareSt) : State := s.modAcq (fun a => { a with spare := f a.spare })
def State.prismWin (s : State) (w : Nat) : PrismWin := nth s.prism.wins w {}
def State.modPrismWin (s : State) (w : Nat) (f : PrismWin → PrismWin) : State :=
  s.modPrism (fun p => { p with wins := upd p.wins w f })

/-- Stamps are invalid after REF_LOST or SYN0_LOST, until a reset (R30, R71). -/
def State.stampsBad (s : State) : Bool := s.clk.coreOnMonitor

/-! ### Perturbation (R56 to R59) -/

/-- One step of the 16-bit LFSR of x^16 + x^14 + x^13 + x^11 + 1 (R59; shifting right is PRESUMED, log entry 20). -/
def lfsrStep (x : BitVec 16) : BitVec 16 :=
  let b := (x ^^^ (x >>> 2) ^^^ (x >>> 3) ^^^ (x >>> 5)) &&& 1
  (x >>> 1) ||| (b <<< 15)

/-- Perturbation target `k` acts (R56, R58). -/
def State.perturbs (s : State) (k : Nat) : Bool := s.inService && s.on F.TST_CTRL_PERT_EN && s.on (F.TST_DLYk_EN k)

/-- The disturbance of one transaction of target `k`, in its unit, and the state after it (R58, R59).
PRESUMED: log entry 20. DEDUCED: log entry 58. -/
def State.disturb (s : State) (k : Nat) : Nat × State :=
  if s.perturbs k then
    let d := s.get (F.TST_DLYk_DLY k)
    let x := if s.on (F.TST_DLYk_RAND k) then lfsrStep (nth s.tst.lfsr k 0) else nth s.tst.lfsr k 0
    let y := if s.on (F.TST_DLYk_RAND k) then Config.lfsrDraw x d % (d + 1) else d
    (y, { s with tst := { s.tst with lfsr := upd s.tst.lfsr k (fun _ => x), held := upd s.tst.held k (fun _ => y) } })
  else (0, s)

/-- A command from outside has led from `s` to `t` with `n` transactions of target `k`: each draws its disturbance, which moves the
instant at which the command comes (R58, R59). DESIGN CHOICE: log entry 58. -/
def State.transact (s t : State) (k n : Nat) : State := if s.perturbs k then (List.range n).foldl (fun u _ => (u.disturb k).2) t else t

/-- `n` words have moved through a port's FIFO since `s`: after each, target 5 holds the receive FIFO full and the transmit FIFO empty
for its disturbance in HOST cycles, of four CORE cycles each (R58, R59). DESIGN CHOICE: log entry 58. -/
def State.fifoMoves (s t : State) (n : Nat) : State :=
  if s.perturbs 5 then (List.range n).foldl (fun u _ =>
      let (d, v) := u.disturb 5
      { v with tst := { v.tst with fifoUntil := max v.tst.fifoUntil v.count + 4 * d } }) t
  else t

/-- The FIFOs of the ports are held now (R58). -/
def State.fifoHeld (s : State) : Bool := s.perturbs 5 && decide (s.count < s.tst.fifoUntil)

/-! ### Channels (R64 to R66, R72) -/

/-- Pair `p` is enabled (R65). -/
def State.pairOn (s : State) (p : Nat) : Bool := if p < 32 then s.bit R.ACQ_DIFF0 p else p < 48 && s.bit R.ACQ_DIFF1 (p - 32)

/-- The channel number reported for a named input, and whether it is a pair (R65). -/
def State.resolve (s : State) (c : Nat) : Nat × Bool := if s.pairOn (c / 2) then (c / 2 * 2, true) else (c, false)

/-- The least and greatest code of a channel (R64). -/
def codeLeast (diff : Bool) : Int := if diff then -32768 else 0
def codeMost (diff : Bool) : Int := if diff then 32767 else 65535

/-- A code from a converter's result in 1/16 LSB, its match trim already added (R64, R77). -/
def codeOf (diff : Bool) (x : Int) : Int := clampInt (codeLeast diff) (codeMost diff) (divRound x 16)

/-- A conversion is flagged OPEN (R66). -/
def State.openConv (s : State) (c : Nat) (diff : Bool) (x : Int) : Bool :=
  let thr : Int := s.get F.ACQ_CTRL_OWTHR
  match s.get (F.ACQ_CHc_OW c) with
  | 1 => codeMost diff - x < thr
  | 3 => codeMost diff - x < thr
  | 2 => x - codeLeast diff < thr
  | 4 => x - codeLeast diff < thr
  | _ => false

/-- Offset and gain correction (R72). -/
def State.correct (s : State) (c : Nat) (diff : Bool) (x : Int) : Int :=
  if s.on (F.ACQ_CHc_CORR c) then
    let y := (x + s.getI (F.ACQ_CORc_OFFS c)) * (s.get (F.ACQ_CORc_GAIN c) : Int)
    clampInt (codeLeast diff) (codeMost diff) ((y + 8192) / 16384)
  else x

/-- The rounded and shifted sum of a complete group (R73). -/
def State.groupMean (s : State) (c : Nat) (diff : Bool) (sum : Int) : Int :=
  let sh := min 8 (s.get (F.ACQ_CHc_SHIFT c))
  clampInt (codeLeast diff) (codeMost diff) (if sh = 0 then sum else (sum + 2 ^ (sh - 1)) / 2 ^ sh)

/-! ### The schedule (R68, R69) -/

/-- The entry after `e` in the loop of slice `n`. -/
def State.nextEntry (s : State) (n e : Nat) : Nat :=
  if s.on (F.ACQ_SEQi_LAST e) || 1023 ≤ e then s.get (F.ACQ_SLCn_START n) else e + 1

/-- A slice moves to a table entry; moving to another number ends its averaging group (R69, R73). -/
def State.enterEntry (s : State) (n e : Nat) : State :=
  s.modSlice n (fun x => { x with
    grpCount := if x.entry = some e then x.grpCount else 0
    grpSum := if x.entry = some e then x.grpSum else 0
    entry := some e
    idleLeft := (s.get (F.ACQ_SEQi_DELAY e) + 31) / 32
    convLeft := s.get (F.ACQ_SEQi_REP e) + 1 })

/-- The entry that slice `n` works on in this slot, entered if the one before is finished. -/
def State.standEntry (s : State) (n : Nat) : State :=
  match (s.slice n).entry with
  | none => s.enterEntry n (s.get (F.ACQ_SLCn_START n))
  | some e => if (s.slice n).idleLeft = 0 ∧ (s.slice n).convLeft = 0 then s.enterEntry n (s.nextEntry n e) else s

/-- Take slice `n` one slot along its schedule: the input it converts, if any (R68, R69). -/
def State.schedule (s : State) (n : Nat) : State × Option Nat :=
  let real := fun c => if c ≤ 95 then some c else none
  match s.get (F.ACQ_SLCn_MODE n) with
  | 1 => (s, real (s.get (F.ACQ_SLCn_CHAN n)))
  | 2 =>
    let t := s.standEntry n
    if 0 < (t.slice n).idleLeft then (t.modSlice n (fun x => { x with idleLeft := x.idleLeft - 1 }), none)
    else (t.modSlice n (fun x => { x with convLeft := x.convLeft - 1 }),
      real (t.get (F.ACQ_SEQi_CHAN ((t.slice n).entry.getD 0))))
  | _ => (s, none)

/-! ### A slot of one slice (R66, R67, R73, R77) -/

/-- STATE and slice of the rotation (R76). -/
def State.spareState (s : State) : Nat := s.get F.ACQ_STAT_SPARE_STATE
def State.spareSlice (s : State) : Nat := s.get F.ACQ_STAT_SPARE_SLICE

/-- SX delivers for slice `n` (R76). -/
def State.bySpare (s : State) (n : Nat) : Bool :=
  s.spareSlice == n && (s.spareState == 2 || s.spareState == 3)

/-- The slice's result is replaced by a recorded one (R62). -/
def State.replaced (s : State) (n : Nat) : Bool := s.replayHolds && s.bit R.TST_RPL_CTRL (16 + n)

/-- Put a value behind those of earlier slots and of lower slices of its slot (R67). -/
def insertConv (v : Conv) : List Conv → List Conv
  | [] => [v]
  | x :: rest => if v.stamp < x.stamp ∨ (v.stamp = x.stamp ∧ v.slice < x.slice) then v :: x :: rest else x :: insertConv v rest

/-- A value sets out for the intake, where target 6 stalls it (R58, R67). -/
def State.send (s : State) (v : Conv) : State :=
  let (d, t) := s.disturb 6
  t.modAcq (fun a => { a with flight := insertConv { v with due := v.due + d } a.flight })

/-- Present a value of slice `n` in the present slot: it reaches the intake 40 cycles after its stamp (R67). -/
def State.present (s : State) (n c : Nat) (v : Int) (diff opened : Bool) : State :=
  let t := s.modAcq (fun a => { a with outs := upd a.outs n (fun o => { o with value := some v }) })
  if t.replaced n then t else t.send ⟨n, s.count, s.count + 40, c, v, diff, opened, s.stampsBad, s.bySpare n⟩

/-- Average a corrected conversion, or present it alone (R66, R73). -/
def State.average (s : State) (n c : Nat) (v : Int) (diff opened : Bool) : State :=
  let k := s.get (F.ACQ_CHc_AVG c) + 1
  if opened || s.stampsBad then
    (s.modSlice n (fun x => { x with grpCount := 0, grpSum := 0 })).present n c v diff opened
  else if k = 1 then s.present n c v diff false
  else
    let cnt := (s.slice n).grpCount + 1
    let sum := (s.slice n).grpSum + v
    if cnt = k then
      (s.modSlice n (fun x => { x with grpCount := 0, grpSum := 0 })).present n c (s.groupMean c diff sum) diff false
    else s.modSlice n (fun x => { x with grpCount := cnt, grpSum := sum })

/-- Count a pair of codes towards the agreement block: `own` of the slice, `sx` of the spare (R77). -/
def State.accrue (s : State) (n : Nat) (own sx : Int) : State :=
  if s.spareSlice = n ∧ s.acq.spare.blockSlots < 1024 then
    match s.spareState with
    | 1 => s.modSpare (fun p => { p with blockSlots := p.blockSlots + 1, d := p.d + (sx - own) })
    | 3 => s.modSpare (fun p => { p with blockSlots := p.blockSlots + 1, d := p.d + (own - sx) })
    | _ => s
  else s

/-- An OPEN conversion sets its flags (R66). -/
def State.flagOpen (s : State) (c : Nat) : State :=
  (((s.putBit (R.ACQ_OWSTATj (c / 32)) (c % 32) true).set1 F.ACQ_STAT_OW_ANY).raise 0x35)

/-- Slice `n` in one slot; `raw` lists what the seventeen converters give, in 1/16 LSB before their match trims. DEDUCED: log entry 11. -/
def State.slotSlice (s : State) (raw : List Int) (n : Nat) : State :=
  let (t, c?) := s.schedule n
  match c? with
  | none => t.modAcq (fun a => { a with outs := upd a.outs n (fun _ => {}) })
  | some c0 =>
    let (c, diff) := t.resolve c0
    let own := codeOf diff (nth raw n 0 + (t.slice n).trim)
    let sx := codeOf diff (nth raw 16 0 + t.acq.spare.trim)
    let t := (t.accrue n own sx).modAcq (fun a => { a with outs := upd a.outs n (fun _ => { chan := some c }) })
    let x := if t.bySpare n then sx else own
    let opened := t.openConv c diff x
    let t := if opened then t.flagOpen c else t
    t.average n c (t.correct c diff x) diff opened

/-! ### Threshold readback (R221) -/

/-- Judge a threshold DAC after its 8 conversions. -/
def State.readback (s : State) (i : Nat) (sum : Nat) : State :=
  let w := i / 3
  let code := match i % 3 with
    | 0 => s.get (F.CMP_WINw_TH_LO w)
    | 1 => s.get (F.CMP_WINw_TH_HI w)
    | _ => s.get (F.CMP_WINw_TH_CEIL w)
  let d := clampInt (-127) 127 (divRound ((sum : Int) - 512 * code) 64)
  let f := match i % 3 with
    | 0 => F.CMP_WINw_RB_DLO w
    | 1 => F.CMP_WINw_RB_DHI w
    | _ => F.CMP_WINw_RB_DCEIL w
  let t := (s.put f (wrapTo 8 d)).incW (F.CMP_WINw_RB_ROUNDS w)
  if s.get F.CMP_CTRL_RBTOL < d.natAbs then
    let t := (t.putBit (R.CMP_WINw_STAT w) (8 + i % 3) true).cmpSummary
    t.log 0x0021 8 .error (BitVec.ofNat 8 w :: BitVec.ofNat 8 (t.get (F.CMP_WINw_STAT_RB_ERR w)) ::
      leBytes 4 (t.rd (R.CMP_WINw_RB w)).toNat)
  else t

/-- One readback conversion of SX. -/
def State.readbackSlot (s : State) (code : Nat) : State :=
  match (List.range 144).find? (fun i => s.cmp.rbNext ≤ i && s.get (F.CMP_WINw_CFG_MODE (i / 3)) != 0) with
  | none => s
  | some i =>
    let sum := (if i = s.cmp.rbNext then s.cmp.rbSum else 0) + code
    let cnt := (if i = s.cmp.rbNext then s.cmp.rbCount else 0) + 1
    if cnt = 8 then
      { s with cmp := { s.cmp with rbNext := i + 1, rbCount := 0, rbSum := 0 } }.readback i sum
    else { s with cmp := { s.cmp with rbNext := i, rbCount := cnt, rbSum := sum } }

/-! ### The spare rotation (R75 to R80) -/

/-- A slice converts: FIXED or TABLE. -/
def State.sliceActive (s : State) (n : Nat) : Bool :=
  s.get (F.ACQ_SLCn_MODE n) == 1 || s.get (F.ACQ_SLCn_MODE n) == 2

/-- A fresh agreement block. -/
def State.freshBlock (s : State) : State := s.modSpare (fun p => { p with blockSlots := 0, d := 0 })

/-- The rotation goes to slice `n`, or to the reference interval for 16 (R76). -/
def State.spareTo (s : State) (n : Nat) : State :=
  let t := s.modSpare (fun p => { p with
    slots := 0, blockSlots := 0, d := 0, fails := 0, failedReturns := 0, matched := false, trim := 0, refs := [] })
  if 16 ≤ n then
    { (t.put F.ACQ_STAT_SPARE_STATE 4) with cmp := { t.cmp with rbNext := 0, rbCount := 0, rbSum := 0 } }
  else (t.put F.ACQ_STAT_SPARE_SLICE n).put F.ACQ_STAT_SPARE_STATE (if s.sliceActive n then 1 else 2)

/-- A turn ends: the rotation goes on to `n`, or stops while ACQ_SPARE.EN is 0 (R80). -/
def State.spareNext (s : State) (n : Nat) : State :=
  if s.on F.ACQ_SPARE_EN then s.spareTo n
  else (s.modSpare (fun p => { p with next := n, trim := 0 })).put F.ACQ_STAT_SPARE_STATE 5

/-- The log record of a row of R79 (R339). -/
def State.logSpare (s : State) (row n : Nat) : State :=
  s.log 0x0020 2 (if row = 1 ∨ row = 3 then .error else .warn) [BitVec.ofNat 8 row, BitVec.ofNat 8 n]

/-- SX takes over from slice `n`, which calibrates (R77, R78). -/
def State.takeOver (s : State) : State :=
  let t := (s.put F.ACQ_STAT_SPARE_STATE 2).modSpare (fun p => { p with slots := 0, blockSlots := 0, d := 0, fails := 0 })
  (t.incS F.ACQ_SPARE_CNT_HANDOVERS).raise 0x31

/-- SX delivers for slice `n` for good (R79). -/
def State.sliceFault (s : State) (n : Nat) : State :=
  let t := ((s.set1 F.ACQ_STAT_SLICE_FAULT).put F.ACQ_STAT_FAULT_SLICE n).put F.ACQ_STAT_SPARE_STATE 2
  (t.raise 0x37).logSpare 3 n

/-- SX fails its reference check: the rotation stops, and the slices keep their last calibration (R79). -/
def State.spareFault (s : State) (n : Nat) : State :=
  (((s.set1 F.ACQ_STAT_SPARE_FAULT).put F.ACQ_STAT_SPARE_STATE 5).raise 0x37).logSpare 1 n

/-- The handover of slice `n` has failed TRIES blocks; `refOk` is SX's reference check (R79). -/
def State.triesExhausted (s : State) (n : Nat) (refOk : Bool) : State :=
  if s.spareState = 1 then
    if refOk then
      let t := ((s.set1 F.ACQ_STAT_FORCED).incS F.ACQ_SPARE_CNT_FORCED).takeOver
      t.logSpare 2 n
    else s.spareFault n
  else if s.acq.spare.failedReturns = 0 then
    let t := s.modSpare (fun p => { p with slots := 0, blockSlots := 0, d := 0, fails := 0, failedReturns := 1, matched := false })
    (t.put F.ACQ_STAT_SPARE_STATE 2).logSpare 4 n
  else s.sliceFault n

/-- Load the match trim of a failed block into the differing converter (R77). -/
def State.loadTrim (s : State) (n : Nat) (d : Int) : State :=
  let trim := clampInt (-1024) 1024 (-(divRound d 64))
  if s.spareState = 1 then s.modSpare (fun p => { p with trim := trim })
  else (s.modSlice n (fun x => { x with trim := trim, decay := 0 })).modSpare (fun p => { p with matched := true })

/-- The end of an agreement block (R77, R79). -/
def State.blockEnd (s : State) (refOk : Bool) : State :=
  let n := s.spareSlice
  let d := s.acq.spare.d
  let tol := max 1 (s.get F.ACQ_SPARE_TOL)
  let inHandover := s.spareState = 1 ∨ s.spareState = 3
  if inHandover ∧ 1024 ≤ s.acq.spare.blockSlots then
    if d.natAbs ≤ 64 * tol then
      if s.spareState = 1 then s.takeOver
      else
        (s.spareNext (n + 1)).raise 0x32
    else
      let t := ((s.loadTrim n d).freshBlock).modSpare (fun p => { p with fails := p.fails + 1 })
      if max 1 (s.get F.ACQ_SPARE_TRIES) ≤ t.acq.spare.fails then t.triesExhausted n refOk else t
  else s

/-- The served slice's calibration ends; `ok` says that its result is within limits (R76, R78, R79). -/
def State.sliceCalEnd (s : State) (ok : Bool) : State :=
  let n := s.spareSlice
  if s.spareState = 2 ∧ !s.on F.ACQ_STAT_SLICE_FAULT ∧ 16256 ≤ s.acq.spare.slots then
    if !ok then s.sliceFault n
    else if s.sliceActive n then
      ((s.put F.ACQ_STAT_SPARE_STATE 3).freshBlock).modSpare (fun p => { p with fails := 0, matched := false })
    else s.spareNext (n + 1)
  else s

/-- A returned slice moves its match trim one unit towards 0 every 1,024 slots (R78). -/
def State.trimDecay (s : State) (n : Nat) : State :=
  if 1024 ≤ (s.slice n).decay then
    s.modSlice n (fun x => { x with decay := x.decay - 1024, trim := if x.trim < 0 then x.trim + 1 else if 0 < x.trim then x.trim - 1 else 0 })
  else s

/-- SX's conversion of a slot of the reference interval: of a reference in the first 896, of a threshold DAC from there on (R76). -/
def State.referenceSlot (s : State) (code : Nat) : State :=
  if s.acq.spare.slots < 896 then s.modSpare (fun p => { p with refs := code :: p.refs })
  else if s.acq.spare.slots < 2048 then s.readbackSlot code else s

/-- What a slot counts for the rotation: calibration and reference slots, the decay of trims but of one loaded in the RETURN in hand
(R78), and SX's own conversion in the reference interval. DEDUCED: log entry 11. -/
def State.spareSlot (s : State) (raw : List Int) : State :=
  let st := s.spareState
  let t := if st = 4 then s.referenceSlot (codeOf false (nth raw 16 0)).toNat else s
  let t := if st = 0 ∨ st = 2 ∨ st = 4 ∨ !s.on F.ACQ_STAT_CAL_DONE then t.modSpare (fun p => { p with slots := p.slots + 1 }) else t
  t.forAll 16 (fun n u =>
    if (u.slice n).trim ≠ 0 ∧ !(u.spareSlice = n ∧ st = 3 ∧ u.acq.spare.matched) then u.modSlice n (fun x => { x with decay := x.decay + 1 })
    else u)

/-- A conversion slot of all seventeen converters (R67); after a write of 0 to EN no slice starts a conversion (R70).
DEDUCED: log entry 11. -/
def State.conversionSlot (s : State) (raw : List Int) : State :=
  if s.coreRuns && s.count % 32 == 0 && s.acq.slotAt != some s.count then
    let t := (s.modAcq (fun a => { a with slotAt := some s.count })).spareSlot raw
    if t.acq.running && !t.acq.stopping then t.forAll 16 (fun n u => u.slotSlice raw n)
    else t.modAcq (fun a => { a with outs := List.replicate 16 {} })
  else s

/-! ### Starting and stopping (R70) -/

/-- Every table restarts at its START entry and every averaging group afresh. -/
def State.restartTables (s : State) : State :=
  s.forAll 16 (fun n u => u.modSlice n (fun x =>
    { x with entry := none, idleLeft := 0, convLeft := 0, grpCount := 0, grpSum := 0 }))

/-- A commit discards and restarts a running agreement block (R80). -/
def State.restartBlock (s : State) : State := if s.spareState = 1 ∨ s.spareState = 3 then s.freshBlock else s

/-- The carrier that sets the start and commit instant. -/
def State.syncCar (s : State) : Nat := s.get F.ACQ_CTRL_SYNC_CAR

/-- The instant of R70 has come: a slot boundary, at or after the awaited valley or with the carrier stopped. -/
def State.syncInstant (s : State) (seen : Bool) : Bool :=
  s.coreRuns && s.count % 32 == 0 && (seen || s.carState s.syncCar == 0)

/-- Acquisition starts at the instant of R70, once calibrated (R75). A valley seen before then counts. DESIGN CHOICE: log entry 82. -/
def State.acqStart (s : State) : State :=
  if s.acq.armed && s.on F.ACQ_STAT_CAL_DONE && s.syncInstant s.acq.valleySeen then
    (s.modAcq (fun a => { a with running := true, armed := false, stopping := false, valleySeen := false })).restartTables
  else s

/-- Acquisition stops at the slot boundary after EN went to 0; open averaging groups are dropped. -/
def State.acqStop (s : State) : State :=
  if s.coreRuns && s.acq.running && s.acq.stopping && s.count % 32 == 0 then
    (s.modAcq (fun a => { a with running := false, stopping := false })).forAll 16 (fun n u =>
      u.modSlice n (fun x => { x with grpCount := 0, grpSum := 0 }))
  else s

/-- The initial calibration ends after 16,256 slots, and the rotation begins at S00 (R75). -/
def State.acqCalDone (s : State) : State :=
  if s.coreRuns && !s.on F.ACQ_STAT_CAL_DONE && decide (16256 ≤ s.acq.spare.slots) then
    let t := s.set1 F.ACQ_STAT_CAL_DONE
    if t.spareState = 0 then t.spareNext 0 else t.modSpare (fun p => { p with slots := 0 })
  else s

/-- The reference interval ends after 2,048 slots: SX returns to S00 when it has passed its check against the references, else it
stops (R76, R79). DEDUCED: log entry 11. -/
def State.spareReferenceEnd (s : State) : State :=
  if s.coreRuns && s.spareState == 4 && decide (2048 ≤ s.acq.spare.slots) then
    if Config.spareCheck s.acq.spare.refs then s.spareNext 0 else s.spareFault 16
  else s

/-! ### Windows (R81 to R87) -/

/-- NCH of a window, 1 to 16 (R82). -/
def State.winNch (s : State) (w : Nat) : Nat := max 1 (min 16 (s.get (F.PRISM_WINw_CFG_NCH w)))

/-- List position `m` of a window. -/
def State.winChan (s : State) (w m : Nat) : Nat := s.get ⟨R.PRISM_WINw_CHA w + 4 * (m / 4), 8 * (m % 4), 8⟩

/-- A window takes part: enabled, and the Prism active. -/
def State.winOn (s : State) (w : Nat) : Bool := s.prism.active && s.on (F.PRISM_WINw_CFG_EN w)

/-- The CORE cycle, counted from the valley, to which a phase resolves (R81). -/
def State.phaseCycle (s : State) (c phase : Nat) : Nat := phase * s.carPeriod c / 65536

/-- COUNT now lies at phase `phase` of the carrier's running period, or at its valley. -/
def State.atPhase (s : State) (c phase : Nat) : Bool :=
  s.carElapsed c == s.phaseCycle c phase && (s.carRunning c || s.carElapsed c == 0)

/-- The window opened in this cycle and has closed in it. -/
def State.openedNow (s : State) (w : Nat) : Bool :=
  match (s.prismWin w).closed with
  | some a => a.openAt == s.count
  | none => false

/-- A window opens at its START phase, once in a period (R81). -/
def State.windowOpen (s : State) (w : Nat) : State :=
  let c := s.get (F.PRISM_WINw_CFG_CAR w)
  if s.winOn w && s.carRunning c && (s.prismWin w).open_.isNone && s.atPhase c (s.get (F.PRISM_WINw_PH_START w)) && !s.openedNow w then
    s.modPrismWin w (fun p => { p with open_ := some { openAt := s.count, valley := (s.car c).valley.toNat } })
  else s

/-- A window closes at its END phase: of the same period when END > START, else of a following one (R81). -/
def State.windowClose (s : State) (w : Nat) : State :=
  let c := s.get (F.PRISM_WINw_CFG_CAR w)
  match (s.prismWin w).open_ with
  | none => s
  | some acc =>
    let same := s.get (F.PRISM_WINw_PH_START w) < s.get (F.PRISM_WINw_PH_END w)
    if s.coreRuns && s.atPhase c (s.get (F.PRISM_WINw_PH_END w)) && acc.openAt ≤ s.count &&
        (if same then acc.valley == (s.car c).valley.toNat else acc.valley < (s.car c).valley.toNat) then
      s.modPrismWin w (fun p => { p with open_ := none, closed := some { acc with closeAt := s.count } })
    else s

/-- Every window of a carrier abandons an open window unpublished (R81). -/
def State.abandonWindows (s : State) (c : Nat) : State :=
  s.forAll 64 (fun w t => if t.get (F.PRISM_WINw_CFG_CAR w) = c then t.modPrismWin w (fun p => { p with open_ := none }) else t)

/-- A window after enable or a change: nothing open, results never published (R84, R87). -/
def State.freshWindow (s : State) (w : Nat) : State :=
  let t := (s.modPrismWin w (fun _ => {})).forAll 16 (fun m u => u.wr (R.PRISM_RESw_m w m) 0x0FF00000)
  t.putBit (if w < 32 then R.PRISM_FRZ0 else R.PRISM_FRZ1) (w % 32) false

/-- The summary bits of PRISM_STAT. -/
def State.prismSummary (s : State) : State :=
  let t := s.putB F.PRISM_STAT_LATE_ANY (s.rd R.PRISM_LATE0 != 0 || s.rd R.PRISM_LATE1 != 0)
  let t := t.putB F.PRISM_STAT_FRZ_ANY (s.rd R.PRISM_FRZ0 != 0 || s.rd R.PRISM_FRZ1 != 0)
  t.putB F.PRISM_STAT_OPEN_ANY ((List.range 64).any (fun w => (List.range 16).any (fun m => s.on (F.PRISM_RESw_m_OPEN w m))))

/-- PRISM_CTRL.EN as written takes effect (R70, R87). -/
def State.applyPrism (s : State) : State :=
  let on := s.on F.PRISM_CTRL_EN
  if on == s.prism.active then s else
    let t := s.modPrism (fun p => { p with active := on })
    if on then (t.forAll 64 (fun w u => if u.on (F.PRISM_WINw_CFG_EN w) then u.freshWindow w else u)).prismSummary
    else t.forAll 64 (fun w u => u.modPrismWin w (fun p => { p with open_ := none }))

/-- Add one intake value to what a list position has gathered (R82, R84). -/
def ChanAcc.add (a : ChanAcc) (v : Conv) : ChanAcc :=
  if v.opened then { a with opened := true }
  else if v.bad then a
  else
    let key := v.stamp * 32 + v.slice
    { a with
      sum := a.sum + v.value
      count := a.count + 1
      least := if a.count = 0 then v.value else min a.least v.value
      most := if a.count = 0 then v.value else max a.most v.value
      last := if a.count = 0 ∨ a.lastKey ≤ key then v.value else a.last
      lastKey := if a.count = 0 then key else max a.lastKey key }

/-- Add a value to the positions of a window that list its channel. -/
def State.gather (s : State) (w : Nat) (acc : WinAcc) (v : Conv) : WinAcc :=
  { acc with chans := (List.range 16).zipWith (fun m a =>
      if m < s.winNch w ∧ s.winChan w m = v.chan then a.add v else a) acc.chans }

/-- VALUE of a result, in 1/16 LSB (R82). -/
def ChanAcc.result (red : Nat) (a : ChanAcc) : Int :=
  match red with
  | 0 => divRound (16 * a.sum) a.count
  | 1 => 16 * a.least
  | 2 => 16 * a.most
  | _ => 16 * a.last

/-- Publish list position `m` of window `w` (R84 to R86); the state and whether FROZEN has newly set. -/
def State.publishChan (s : State) (w m : Nat) (a : ChanAcc) : State × Bool :=
  let p := s.prismWin w
  let old := s.rd (R.PRISM_RESw_m w m)
  let has := 0 < a.count
  let prev := nth p.lastVal m none
  let isStill := has && prev == some a.least && prev == some a.most
  let still := if !has then nth p.still m 0 else if isStill then nth p.still m 0 + 1 else 0
  let frzN := s.get (F.PRISM_WINw_CFG_FRZ_N w)
  let frozen := frzN != 0 && frzN ≤ still
  let value := if has then wrapTo 20 (a.result (s.get (F.PRISM_WINw_CFG_RED w))) else getBits old 0 20
  let age := if has then 0 else min 255 (getBits old 20 8 + 1)
  let t := s.wr (R.PRISM_RESw_m w m) (BitVec.ofNat 32 (value + 2 ^ 20 * age + 2 ^ 28 * bit1 has + 2 ^ 29 * bit1 frozen +
    2 ^ 30 * bit1 a.opened + 2 ^ 31 * bit1 (p.late.getLsbD m)))
  let t := t.modPrismWin w (fun x => { x with
    still := upd x.still m (fun _ => still)
    lastVal := if has then upd x.lastVal m (fun _ => some a.last) else x.lastVal })
  (t, frozen && !bitAt old 29)

/-- Publish a closed window (R83). -/
def State.publish (s : State) (w : Nat) (acc : WinAcc) : State :=
  let n := s.winNch w
  let (t, froze) := (List.range n).foldl (fun (x : State × Bool) m =>
    let (u, f) := x.1.publishChan w m (nth acc.chans m {})
    (u, x.2 || f)) (s, false)
  let total := ((List.range n).map (fun m => (nth acc.chans m {}).count)).sum
  let t := t.put (F.PRISM_WINw_INFO_COUNT w) (min 65535 total)
  let t := (t.incW (F.PRISM_WINw_INFO_CLOSES w)).wr (R.PRISM_WINw_STAMP w) (BitVec.ofNat 32 acc.closeAt)
  let t := t.putBit (if w < 32 then R.PRISM_FRZ0 else R.PRISM_FRZ1) (w % 32)
    ((List.range n).any (fun m => t.on (F.PRISM_RESw_m_FROZEN w m)))
  let c := s.get (F.PRISM_WINw_CFG_CAR w)
  let t := t.modPrismWin w (fun x => { x with closed := none, late := 0,
                                              published := some ⟨acc.openAt, acc.closeAt, s.valleyStamp c⟩ })
  let t := t.prismSummary
  let t := if w < 16 then t.raise (0x20 + w) else t
  if froze then t.raise 0x34 else t

/-- A window's publication is due, 64 cycles after its close (R83). DESIGN CHOICE: log entry 4. -/
def State.publishDue (s : State) (w : Nat) : Option WinAcc :=
  match (s.prismWin w).closed with
  | some acc => if s.coreRuns && s.due (acc.closeAt + 64) then some acc else none
  | none => none

/-- A value that arrives after its window's publication (R86). -/
def State.lateValue (s : State) (w : Nat) (v : Conv) (p : PubWin) : State :=
  let hit := (List.range 16).filter (fun m => m < s.winNch w ∧ s.winChan w m = v.chan)
  if hit = [] then s else
    let t := s.modPrismWin w (fun x => { x with late := hit.foldl (fun b m => b ||| (1#16 <<< m)) x.late })
    let t := t.putBit (if w < 32 then R.PRISM_LATE0 else R.PRISM_LATE1) (w % 32) true
    ((t.set1 F.PRISM_STAT_LATE_ANY).raise 0x33).void .prism false (s.get (F.PRISM_WINw_CFG_CAR w)) p.valley

/-- The value belongs to the window published last. -/
def State.takePublished (s : State) (v : Conv) (w : Nat) : State :=
  match (s.prismWin w).published with
  | some p => if p.openAt ≤ v.stamp ∧ v.stamp < p.closeAt then s.lateValue w v p else s
  | none => s

/-- The value belongs to the closed window, or to the one published last. From the cycle of its publication on the window takes no more: it
is published before the value is discarded (R83, R86). -/
def State.takeClosed (s : State) (v : Conv) (w : Nat) : State :=
  match (s.prismWin w).closed with
  | some a =>
    if a.openAt ≤ v.stamp ∧ v.stamp < a.closeAt then
      if (s.publishDue w).isSome then (s.publish w a).takePublished v w
      else s.modPrismWin w (fun x => { x with closed := some (s.gather w a v) })
    else s.takePublished v w
  | none => s.takePublished v w

/-- One window takes an intake value by its stamp (R81, R86). -/
def State.windowTake (s : State) (v : Conv) (w : Nat) : State :=
  if s.winOn w then
    match (s.prismWin w).open_ with
    | some a =>
      if a.openAt ≤ v.stamp then s.modPrismWin w (fun x => { x with open_ := some (s.gather w a v) })
      else s.takeClosed v w
    | none => s.takeClosed v w
  else s

/-- The streams take an intake value by its stamp (R89). -/
def State.streamTake (s : State) (v : Conv) : State :=
  let i := v.stamp / 12500
  if v.opened || v.bad || !s.prism.active then s else
    s.modPrism (fun p =>
      let take := fun (k : Nat) (x : StreamSt) =>
        if s.on (F.PRISM_STRk_EN k) ∧ s.get (F.PRISM_STRk_CHAN k) = v.chan then
          (if i = p.interval then { x with sum := x.sum + v.value, count := x.count + 1 }
           else if p.ended.any (fun e => e - 12500 ≤ v.stamp && v.stamp < e) then { x with endSum := x.endSum + v.value, endCount := x.endCount + 1 } else x)
        else x
      { p with streams := (List.range 40).zipWith take p.streams })

/-- ACQ_DATAn takes a presented value (R74). -/
def State.dataTake (s : State) (v : Conv) : State :=
  let n := v.slice
  let old := s.on (F.ACQ_DATAn_VALID n)
  let w := BitVec.ofNat 32 (wrapTo 16 v.value + 2 ^ 16 * v.chan + 2 ^ 24 * bit1 v.opened + 2 ^ 25 * bit1 v.spare +
    2 ^ 26 * bit1 v.bad + 2 ^ 30 * bit1 (old || s.on (F.ACQ_DATAn_OVR n)) + 2 ^ 31)
  let t := (s.load (R.ACQ_DATAn n) w).modAcq (fun a => { a with dataStamps := upd a.dataStamps n (fun _ => BitVec.ofNat 32 v.stamp) })
  if old then (t.set1 F.ACQ_STAT_OVR_ANY).raise 0x30 else t

/-- A value reaches the intake: ACQ_DATAn, the windows and the streams (R67, R74, R82, R89). -/
def State.intake (s : State) (v : Conv) : State :=
  let t := s.dataTake v
  (t.forAll 64 (fun w u => u.windowTake v w)).streamTake v

/-- Copy a window's published results into the snapshot (R88). -/
def State.snapshot (s : State) : State :=
  let w := s.get F.PRISM_SNAP_CTRL_WIN
  (s.forAll 16 (fun m t => t.wr (R.PRISM_SNAPm m) (t.rd (R.PRISM_RESw_m w m)))).wr R.PRISM_SNAP_STAMP (s.rd (R.PRISM_WINw_STAMP w))

/-! ### Metering streams (R89) -/

/-- A stream interval ends. -/
def State.streamEnd (s : State) : State :=
  if s.coreRuns && s.count % 12500 == 0 && s.prism.interval < s.count / 12500 then
    s.modPrism (fun p => { p with
      interval := s.count / 12500
      ended := some s.count
      streams := p.streams.map (fun x => { sum := 0, count := 0, endSum := x.sum, endCount := x.count }) })
  else s

/-- A stream publication is due, 64 cycles after its interval ended. DESIGN CHOICE: log entry 4. -/
def State.streamDue (s : State) : Bool :=
  match s.prism.ended with
  | some e => s.coreRuns && s.due (e + 64)
  | none => false

/-- What stream `k` publishes: VALUE and VALID. -/
def StreamSt.word (x : StreamSt) : Word :=
  if x.endCount = 0 then 0 else BitVec.ofNat 32 (wrapTo 20 (divRound (16 * x.endSum) x.endCount) + 2 ^ 31)

/-- Write PRISM_STRDk of every enabled stream and raise event 0x36 (R89). An invalid result keeps VALUE 0. -/
def State.streamPublish (s : State) : State :=
  let t := s.forAll 40 (fun k u =>
    if u.on (F.PRISM_STRk_EN k) then u.wr (R.PRISM_STRDk k) (nth u.prism.streams k {}).word else u)
  (t.modPrism (fun p => { p with ended := none })).raise 0x36

end Sys2Proof.Machine
end

