-- ==== Sys2Proof/Machine/Float.lean ====
section
/-! DEFINITION. Machine/Float.lean: the arithmetic of the Mill and of the Weathervane: IEEE 754 single precision with
flush-to-zero and round-to-nearest-even (R91, R127), Q1.31 (R127), and the double precision of the Granary (R235). Every value is
computed exactly as a rational number and rounded once. -/

namespace Sys2Proof.Machine

/-! ### Exact values -/

/-- A floating value: not a number, an infinity of a sign, or a finite value; `neg` is the sign of a zero. -/
inductive Flt where
  | nan
  | inf (neg : Bool)
  | fin (q : Rat) (neg : Bool)
  deriving DecidableEq, Repr

/-- What an operation yields beside its value: the flags of R127 and of R126. -/
structure Flags where
  nan : Bool := false
  inf : Bool := false
  qsat : Bool := false
  div0 : Bool := false
  ill : Bool := false
  deriving DecidableEq, Repr

/-- Flags of two results together. -/
def Flags.or (a b : Flags) : Flags :=
  ⟨a.nan || b.nan, a.inf || b.inf, a.qsat || b.qsat, a.div0 || b.div0, a.ill || b.ill⟩

/-- A power of two, as a rational number. -/
def pow2 (e : Int) : Rat := if e < 0 then 1 / ((2 ^ e.natAbs : Nat) : Rat) else ((2 ^ e.natAbs : Nat) : Rat)

/-- The sign of a finite value. -/
def Flt.isNeg : Flt → Bool
  | .nan => false
  | .inf n => n
  | .fin q n => if q = 0 then n else q < 0

/-- A finite value without a negative zero. -/
def Flt.ofRat (q : Rat) : Flt := .fin q false

/-- The rational value, 0 for what is not finite. -/
def Flt.toRat : Flt → Rat
  | .fin q _ => q
  | _ => 0

/-! ### Rounding -/

/-- Nearest integer of a non-negative fraction `n / d`, ties to even. -/
def roundEven (n d : Nat) : Nat :=
  let q := n / d
  let r := 2 * (n % d)
  if r < d then q else if d < r then q + 1 else q + q % 2

/-- Nearest integer of a rational number, ties to even. -/
def ratRoundEven (q : Rat) : Int :=
  let m := roundEven q.num.natAbs q.den
  if q.num < 0 then -(m : Int) else m

/-- Nearest integer of a rational number, halves away from zero. -/
def ratRoundAway (q : Rat) : Int :=
  let m := (2 * q.num.natAbs + q.den) / (2 * q.den)
  if q.num < 0 then -(m : Int) else m

/-- The exponent `e` with 2^e ≤ n / d < 2^(e+1), for positive `n` and `d`. -/
def exponentOf (n d : Nat) : Int :=
  let g : Int := (Nat.log2 n : Int) - (Nat.log2 d : Int)
  let least := if g < 0 then n * 2 ^ g.natAbs < d else n < d * 2 ^ g.natAbs
  if least then g - 1 else g

/-- A binary format: explicit fraction bits, and the least and greatest exponents of normal numbers. -/
structure Fmt where
  frac : Nat
  eMin : Int
  eMax : Int
  deriving DecidableEq, Repr

/-- Single precision. -/
def single : Fmt := ⟨23, -126, 127⟩

/-- The significand of `n / d` at exponent `e`, rounded to nearest even. -/
def significand (f : Fmt) (n d : Nat) (e : Int) : Nat :=
  let s : Int := (f.frac : Int) - e
  if s < 0 then roundEven n (d * 2 ^ s.natAbs) else roundEven (n * 2 ^ s.natAbs) d

/-- The pattern of a single from sign, biased exponent and fraction. -/
def packSingle (neg : Bool) (e f : Nat) : Word := BitVec.ofNat 32 (bit1 neg * 2 ^ 31 + e * 2 ^ 23 + f)

/-- The canonical NaN (R127). -/
def canonNaN : Word := 0x7FC00000

/-- Round an exact value to single precision with flush-to-zero, tininess judged before rounding; the flags of the result
(R127). -/
def roundSingle : Flt → Word × Flags
  | .nan => (canonNaN, { nan := true })
  | .inf n => (packSingle n 255 0, {})
  | .fin q n =>
    if q = 0 then (packSingle n 0 0, {})
    else
      let neg := decide (q < 0)
      let a := q.num.natAbs
      let e := exponentOf a q.den
      if e < -126 then (packSingle neg 0 0, {})
      else
        let m := significand single a q.den e
        let e' := if 2 ^ 24 ≤ m then e + 1 else e
        let m' := if 2 ^ 24 ≤ m then m / 2 else m
        if 127 < e' then (packSingle neg 255 0, { inf := true })
        else (packSingle neg (e' + 127).toNat (m' - 2 ^ 23), {})

/-- The value of a single; subnormal patterns read as zero of their sign (R127). -/
def ofSingle (w : Word) : Flt :=
  let neg := bitAt w 31
  let e := getBits w 23 8
  let f := getBits w 0 23
  if e = 255 then (if f = 0 then .inf neg else .nan)
  else if e = 0 then .fin 0 neg
  else
    let v : Rat := ((2 ^ 23 + f : Nat) : Rat) * pow2 ((e : Int) - 150)
    .fin (if neg then -v else v) neg

/-- A rational number rounded to single precision. -/
def toSingle (q : Rat) : Word := (roundSingle (.ofRat q)).1

/-- The rational value of a single; 0 for what is not finite. -/
def singleRat (w : Word) : Rat := (ofSingle w).toRat

/-! ### Operations on exact values -/

/-- The sum of two values. -/
def Flt.add : Flt → Flt → Flt
  | .nan, _ => .nan
  | _, .nan => .nan
  | .inf a, .inf b => if a = b then .inf a else .nan
  | .inf a, _ => .inf a
  | _, .inf b => .inf b
  | .fin p m, .fin q n => .fin (p + q) (p = 0 && q = 0 && m && n)

/-- The negative of a value. -/
def Flt.neg : Flt → Flt
  | .nan => .nan
  | .inf a => .inf (!a)
  | .fin q n => .fin (-q) (q = 0 && !n)

/-- The magnitude of a value. -/
def Flt.abs : Flt → Flt
  | .nan => .nan
  | .inf _ => .inf false
  | .fin q _ => .fin (if q < 0 then -q else q) false

/-- The product of two values. -/
def Flt.mul (a b : Flt) : Flt :=
  match a, b with
  | .nan, _ => .nan
  | _, .nan => .nan
  | .inf n, y => if y = .fin 0 false ∨ y = .fin 0 true then .nan else .inf (n != y.isNeg)
  | x, .inf n => if x = .fin 0 false ∨ x = .fin 0 true then .nan else .inf (n != x.isNeg)
  | .fin p m, .fin q n => .fin (p * q) (p * q = 0 && (Flt.fin p m).isNeg != (Flt.fin q n).isNeg)

/-- The quotient of two values; the flag says division by zero (R127). -/
def Flt.div (a b : Flt) : Flt × Bool :=
  match a, b with
  | .nan, _ => (.nan, false)
  | _, .nan => (.nan, false)
  | .inf _, .inf _ => (.nan, false)
  | .inf n, y => (.inf (n != y.isNeg), false)
  | x, .inf n => (.fin 0 (n != x.isNeg), false)
  | .fin p m, .fin q n =>
    let s := (Flt.fin p m).isNeg != (Flt.fin q n).isNeg
    if q = 0 then (if p = 0 then (.nan, false) else (.inf s, true)) else (.fin (p / q) (p = 0 && s), false)

/-- Whether the first value is below the second; false with a NaN. -/
def Flt.lt : Flt → Flt → Bool
  | .nan, _ => false
  | _, .nan => false
  | .inf a, .inf b => a && !b
  | .inf a, _ => a
  | _, .inf b => !b
  | .fin p _, .fin q _ => p < q

/-- Whether two values are equal; zeros are, whatever their signs. -/
def Flt.eq : Flt → Flt → Bool
  | .nan, _ => false
  | _, .nan => false
  | .inf a, .inf b => a == b
  | .fin p _, .fin q _ => p = q
  | _, _ => false

/-- The smaller value; NaN with a NaN, and −0 of two zeros of different sign (R127). -/
def Flt.min (a b : Flt) : Flt :=
  if a = .nan ∨ b = .nan then .nan
  else if a.lt b then a else if b.lt a then b
  else if a.isNeg then a else b

/-- The larger value; NaN with a NaN, and +0 of two zeros of different sign (R127). -/
def Flt.max (a b : Flt) : Flt :=
  if a = .nan ∨ b = .nan then .nan
  else if b.lt a then a else if a.lt b then b
  else if a.isNeg then b else a

/-- The sum of a list of values, from a first one on. -/
def Flt.sum (a : Flt) (l : List Flt) : Flt := l.foldl Flt.add a

/-! ### Square roots -/

/-- One step of the integer square root from bit `n` down. -/
def isqrtGo (x : Nat) : Nat → Nat → Nat
  | 0, r => r
  | n + 1, r => let c := r + 2 ^ n; isqrtGo x n (if c * c ≤ x then c else r)

/-- The floor of the square root. -/
def isqrt (x : Nat) : Nat := isqrtGo x (Nat.log2 x / 2 + 1) 0

/-- A rational number that rounds in single precision as √q does, for q ≥ 0: a square root with 64 more bits and a sticky
bit. -/
def sqrtRat (q : Rat) : Rat :=
  if q ≤ 0 then 0 else
    let e := exponentOf q.num.natAbs q.den
    let k : Nat := (64 - e / 2).toNat
    let n := q.num.natAbs * 4 ^ k / q.den
    let exact := q.num.natAbs * 4 ^ k % q.den = 0
    let r := isqrt n
    let sticky := !(exact && r * r == n)
    ((2 * r + bit1 sticky : Nat) : Rat) / ((2 ^ (k + 1) : Nat) : Rat)

/-- The square root of a value. -/
def Flt.sqrt : Flt → Flt
  | .nan => .nan
  | .inf n => if n then .nan else .inf false
  | .fin q n => if q = 0 then .fin 0 n else if q < 0 then .nan else .fin (sqrtRat q) false

/-! ### Q1.31 (R127) -/

/-- Saturate an exact value in units of 2^−31 to Q1.31. -/
def satQ (x : Int) : Word × Flags :=
  let y := satTo 32 x
  (BitVec.ofNat 32 (wrapTo 32 y), { qsat := y != x })

/-- Round an exact rational number to Q1.31, ties to even, and saturate. -/
def roundQ (q : Rat) : Word × Flags := satQ (ratRoundEven (q * (2 ^ 31 : Nat)))

/-- The integer of a Q1.31 pattern, in units of 2^−31. -/
def qInt (w : Word) : Int := w.toInt

/-- The value of a Q1.31 pattern. -/
def qRat (w : Word) : Rat := (w.toInt : Rat) / ((2 ^ 31 : Nat) : Rat)

/-- Single to Q1.31: out-of-range values and infinities saturate, NaN gives 0 and NAN (R127). -/
def cvtFQ (w : Word) : Word × Flags :=
  match ofSingle w with
  | .nan => (0, { nan := true })
  | .inf n => (if n then 0x80000000 else 0x7FFFFFFF, { qsat := true })
  | .fin q _ => roundQ q

/-! ### Angles -/

/-- π to 30 decimals. -/
def piRat : Rat := 3141592653589793238462643383279 / 1000000000000000000000000000000

/-- Sine or cosine terms in units of 2^−64: `t` is the last term, `x2` the square of the angle, `k` its order. -/
def trigGo (x2 : Int) : Nat → Int → Int → Nat → Int
  | 0, _, acc, _ => acc
  | n + 1, t, acc, k =>
    let t' := -(t * x2 / 2 ^ 64) / ((k + 1) * (k + 2) : Nat)
    trigGo x2 n t' (acc + t') (k + 2)

/-- sin and cos of an angle of the first quarter turn, `r` in units of 2^−32 turns below 2^30, in units of 2^−64. -/
def quarterTrig (r : Nat) : Int × Int :=
  let x : Int := ((r : Rat) * 2 * piRat * ((2 ^ 32 : Nat) : Rat)).floor
  let x2 := x * x / 2 ^ 64
  (trigGo x2 12 x x 1, trigGo x2 12 (2 ^ 64) (2 ^ 64) 0)

/-- sin and cos of a UQ0.32 angle in turns, within 2^−50. -/
def trigTurns (a : Word) : Rat × Rat :=
  let (s, c) := quarterTrig (a.toNat % 2 ^ 30)
  let u : Rat := 1 / ((2 ^ 64 : Nat) : Rat)
  match a.toNat / 2 ^ 30 with
  | 0 => (s * u, c * u)
  | 1 => (c * u, -s * u)
  | 2 => (-s * u, -c * u)
  | _ => (-c * u, s * u)

/-- A free value held to a bound: `free` when it lies within `bound` of `exact`, else the rounded exact value.
DESIGN CHOICE: log entry 23. -/
def within (exact bound : Rat) (free : Word) (value : Rat) (fallback : Word) : Word :=
  if value - exact ≤ bound ∧ exact - value ≤ bound then free else fallback

end Sys2Proof.Machine
end

