-- ==== Sys2Proof/Machine/GrnOps.lean ====
section
/-! DEFINITION. Machine/GrnOps.lean: the Granary: samples, cycles and blocks, energies, totals, window counters, pulse
outputs, snapshots and the journal (R225 to R251). -/

namespace Sys2Proof.Machine

/-! ### Access to the parts -/

def State.modGrn (s : State) (f : Grn → Grn) : State := { s with grn := f s.grn }
def State.acMeter (s : State) (m : Nat) : AcMeter := nth s.grn.ac m {}
def State.modAc (s : State) (m : Nat) (f : AcMeter → AcMeter) : State := s.modGrn (fun g => { g with ac := upd g.ac m f })
def State.dcMeter (s : State) (m : Nat) : DcMeter := nth s.grn.dc m {}
def State.modDc (s : State) (m : Nat) (f : DcMeter → DcMeter) : State := s.modGrn (fun g => { g with dc := upd g.dc m f })

/-- Some meter is enabled in GRN_CTRL. -/
def State.anyMeter (s : State) : Bool := s.rd R.GRN_CTRL &&& 0xFF != 0

/-- Meter `n` (0 to 3 AC, 4 to 7 DC) accumulates: enabled at the instant of R70, in a mode of R247. -/
def State.meterOn (s : State) (n : Nat) : Bool := s.grn.active.getLsbD n && s.coreRuns && !s.on F.GRN_STAT_CLKSTOP

/-- Replay has frozen what R248 names. -/
def State.grnFrozen (s : State) : Bool := s.replayHolds

/-! ### Double precision (R231) -/

/-- Double precision's format. -/
def double : Fmt := ⟨52, -1022, 1023⟩

/-- A rational number rounded to double precision, for the range that R231 needs. -/
def toDouble (q : Rat) : Rat :=
  if q = 0 then 0 else
    let e := exponentOf q.num.natAbs q.den
    let m : Rat := ((significand double q.num.natAbs q.den e : Nat) : Rat) * pow2 (e - 52)
    if q < 0 then -m else m

/-! ### Sines and cosines (R231) -/

/-- sin and cos of `x` in units of 2^−96 for an angle of the first quarter turn, `n / d` turns. -/
def quarterTrigFine (n d : Nat) : Int × Int :=
  let u : Nat := 2 ^ 96
  let x : Int := ((n : Rat) / (d : Rat) * 2 * piRat * (u : Rat)).floor
  let x2 := x * x / (u : Int)
  let go := fun (acc : Int × Int) (k : Nat) =>
    let t := -(acc.1 * x2 / (u : Int)) / (((k + 1) * (k + 2) : Nat) : Int)
    (t, acc.2 + t)
  (((List.range 16).map (fun j => 2 * j + 1)).foldl go (x, x) |>.2,
   ((List.range 16).map (fun j => 2 * j)).foldl go ((u : Int), (u : Int)) |>.2)

/-- round(2^31 cos(2πn/N)) and round(2^31 sin(2πn/N)). -/
def cosSin31 (n N : Nat) : Int × Int :=
  let q := 4 * n / N
  let (s, c) := quarterTrigFine (4 * n - q * N) (4 * N)
  let r := fun (x : Int) => divRound x (2 ^ 65)
  match q % 4 with
  | 0 => (r c, r s)
  | 1 => (-(r s), r c)
  | 2 => (-(r c), -(r s))
  | _ => (r s, -(r c))

/-! ### From stream to sample (R225 to R227) -/

/-- Stream number of channel `c` of AC meter `m`: voltages A to C, then currents A to C. -/
def State.acStream (s : State) (m c : Nat) : Nat :=
  if c < 3 then s.get ⟨R.GRN_ACm_STRV m, 8 * c, 6⟩ else s.get ⟨R.GRN_ACm_STRI m, 8 * (c - 3), 6⟩

/-- A stream's published value in an interval, if it was valid: in an AC meter a single-ended channel is read less 524,288. -/
def State.grnInput (s : State) (e : GrnInterval) (k : Nat) (ac : Bool) : Option Int :=
  match e.words with
  | none => none
  | some ws =>
    let w := nth ws k 0
    if bitAt w 31 then
      let diff := (s.resolve (s.get (F.PRISM_STRk_CHAN k))).2
      some (if diff then signed 20 (getBits w 0 20) else (getBits w 0 20 : Int) - (if ac then 524288 else 0))
    else none

/-- A filter's state after one step: exact in units of 2^−25 of its 16 fractional bits, rounded by a free value and held in 48
bits. DESIGN CHOICE: log entry 25. -/
def filterState (num : Int) : Int :=
  let q : Int := num / (2 ^ 25 : Int)
  let y : Int := if num % 2 ^ 25 = 0 then q else q + (bit1 (Config.filterUp num) : Nat)
  if -(2 ^ 47 : Int) ≤ y ∧ y < 2 ^ 47 then y else signed 48 (wrapTo 48 (Config.filterOverflow y))

/-- One step of a channel: DC block, integrator or neither, then rounding (R227, steps 1 to 3). DESIGN CHOICE: log entry 25. -/
def GrnChan.step (c : GrnChan) (integ dcb : Bool) (x : Int) : GrnChan :=
  let keep := c.y * (2 ^ 25 - 3217)
  let y := if integ then filterState (keep + (x + c.x) * 2 ^ 40)
    else if dcb then filterState (keep + (x - c.x) * 2 ^ 41)
    else x * 2 ^ 16
  let out := ratRoundEven ((y : Rat) / ((2 ^ 16 : Nat) : Rat))
  { x := x, y := y, w := (out :: c.w).take 5 }

/-- The output of a channel delayed by `d` / 1,024 samples (R227, step 4). -/
def GrnChan.delayed (c : GrnChan) (d : Nat) : Int :=
  let k := d / 1024
  let f := d % 1024
  ratRoundEven (((nth c.w k 0 * (1024 - f : Nat) + nth c.w (k + 1) 0 * (f : Nat) : Int) : Rat) / 1024)

/-- The signed delay of a phase, clamped. -/
def State.phaseDelay (s : State) (m p : Nat) : Int :=
  clampInt (-4095) 4095 (s.getI (match p with
    | 0 => F.GRN_ACm_PHCA_D0 m
    | 1 => F.GRN_ACm_PHCA_D1 m
    | _ => F.GRN_ACm_PHCC_D0 m))

/-- An invalid sample of meter `n` (R226); `first` when the sample before was valid. -/
def State.grnGap (s : State) (n : Nat) (first : Bool) : State :=
  let t := if s.grnFrozen then s else s.incS (F.GRN_GAPn_VALUE n)
  let t := t.set1 (if n < 4 then F.GRN_ACm_STAT_GAP n else F.GRN_DCm_STAT_GAP (n - 4))
  if first then t.raise 0xAB else t

/-! ### Totals and what follows them (R232 to R234, R239, R242) -/

/-- The index of AC meter `m`'s total of phase `p` and quantity `q`, and of a DC meter's. -/
def acTotal (m p q : Nat) : Nat := (m * 4 + p) * 10 + q
def dcTotal (m q : Nat) : Nat := 160 + m * 4 + q

/-- The address of the LO word of a total. -/
def totalAddr (i : Nat) : Nat :=
  if i < 160 then R.GRN_ACm_p_q_LO (i / 40) (i / 10 % 4) (i % 10) else R.GRN_DCm_q_LO ((i - 160) / 4) ((i - 160) % 4)

/-- The total that a binding word names (GRN_EPOk_CFG, GRN_WCk_CFG). -/
def boundTotal (w : Word) : Nat :=
  let n := getBits w 1 3
  let q := getBits w 4 4
  if n < 4 then acTotal n (getBits w 8 2) (if q ≤ 9 then q else 0) else dcTotal (n - 4) (if q ≤ 3 then q else 0)

/-- A total takes a value; its LO word shows it. -/
def State.setTotal (s : State) (i v : Nat) : State :=
  (s.modGrn (fun g => { g with totals := upd g.totals i (fun _ => v) })).wr (totalAddr i) (BitVec.ofNat 32 (v / 2 ^ 32))

/-- Queue `n` pulses of output `k` (R243). -/
def State.queuePulses (s : State) (k n : Nat) : State :=
  let room := 65535 - s.get (F.GRN_EPOk_STAT_PENDING k)
  let t := s.put (F.GRN_EPOk_STAT_PENDING k) (s.get (F.GRN_EPOk_STAT_PENDING k) + min n room)
  if room < n then
    ((t.put (F.GRN_EPOk_STAT_LOST k) (min 16383 (t.get (F.GRN_EPOk_STAT_LOST k) + (n - room)))).set1 (F.GRN_EPOk_STAT_OVF k)).raise 0xAD
  else t

/-- Pulse output `k` takes an increment `e` of total `i` (R242). -/
def State.epoAdd (s : State) (i e k : Nat) : State :=
  let cfg := s.rd (R.GRN_EPOk_CFG k)
  if bitAt cfg 0 && boundTotal cfg == i then
    let c := max 1 (min 100000 (s.get (F.GRN_EPOk_CONST_C k)))
    let a := (nth s.grn.epoAcc k 0 + e * c) % 2 ^ 96
    let unit := 10 ^ 6 * 2 ^ 32
    (s.modGrn (fun g => { g with epoAcc := upd g.epoAcc k (fun _ => a % unit) })).queuePulses k (a / unit)
  else s

/-- Window counter `k` takes an increase `d` of the integer part of total `i` (R239). -/
def State.wcAdd (s : State) (i d k : Nat) : State :=
  let cfg := s.rd (R.GRN_WCk_CFG k)
  if bitAt cfg 0 && boundTotal cfg == i then
    let n := s.get (F.GRN_WCk_CNT_VAL k) + d
    let t := s.put (F.GRN_WCk_CNT_VAL k) n
    t.put (F.GRN_WCk_WRAP_VAL k) ((t.get (F.GRN_WCk_WRAP_VAL k) + n / 2 ^ 32) % 65536)
  else s

/-- Add an energy in u to a total, with its window counters and pulse outputs; frozen while replay runs (R234, R248). -/
def State.addTotal (s : State) (i : Nat) (e : Int) : State :=
  if s.grnFrozen then s else
    let old := nth s.grn.totals i 0
    let new := (old + e.toNat) % 2 ^ 96
    let t := s.setTotal i new
    let t := t.forAll 16 (fun k u => u.wcAdd i (new / 2 ^ 32 - old / 2 ^ 32) k)
    t.forAll 4 (fun k u => u.epoAdd i e.toNat k)

/-- Add a signed energy to the import or the export total (R232). -/
def State.addDirected (s : State) (imp exp : Nat) (e : Int) : State :=
  if 0 ≤ e then s.addTotal imp e else s.addTotal exp (-e)

/-- Add a reactive energy by its quadrant (R232). -/
def State.addReactive (s : State) (m p : Nat) (ep eq : Int) : State :=
  if 0 ≤ ep ∧ 0 ≤ eq then s.addTotal (acTotal m p 4) eq
  else if ep < 0 ∧ 0 ≤ eq then s.addTotal (acTotal m p 5) eq
  else if ep < 0 then s.addTotal (acTotal m p 6) (-eq)
  else s.addTotal (acTotal m p 7) (-eq)

/-- The replay accumulator of meter `n` takes a signed energy while record or replay runs (R248). -/
def State.rplAdd (s : State) (n : Nat) (e : Int) : State :=
  if s.tst.rpl == .recording || s.tst.rpl == .replaying then
    let v := nth s.grn.rpl n 0 + BitVec.ofInt 64 e
    (s.modGrn (fun g => { g with rpl := upd g.rpl n (fun _ => v) })).wr (R.GRN_RPLn_LO n) (v.setWidth 32)
  else s

/-- The largest power since the last journal record, in whole watts rounded up (R236). -/
def State.pmaxTake (s : State) (f : Fld) (e : Nat) (n : Nat) : State :=
  if s.grnFrozen then s else
    let p := (((e : Rat) * (36 / 10) / ((2 ^ 32 : Nat) : Rat)) / ((n : Rat) * (1 / 32000))).ceil.toNat
    s.put f (max (s.get f) (min p (2 ^ 32 - 1)))

/-! ### Energies (R231) -/

/-- A scale constant as an exact number; the spec states no result for one that is not finite, and none is known then. -/
def State.scale (s : State) (a : Nat) : Rat :=
  match ofSingle (s.rd a) with
  | .fin q _ => q
  | _ => (Config.grnScale (s.rd a) : Rat)

/-- Round half to even to an integer. -/
def roundU (q : Rat) : Int := ratRoundEven q

/-- The sums of one phase of a cycle. -/
structure PhaseSums where
  svv : Int := 0
  sii : Int := 0
  svi : Int := 0
  vr : Int := 0
  vi : Int := 0
  ir : Int := 0
  ii : Int := 0
  deriving DecidableEq, Repr

/-- Add sample `n` of a cycle of `N` to the sums of phase `p`; currents are negated when `dir`. -/
def PhaseSums.add (a : PhaseSums) (p n N : Nat) (dir : Bool) (x : GrnSample) : PhaseSums :=
  if x.valid then
    let v := nth x.v p 0
    let i := if dir then -(nth x.i p 0) else nth x.i p 0
    let (c, sn) := cosSin31 n N
    { svv := a.svv + v * v, sii := a.sii + i * i, svi := a.svi + v * i,
      vr := a.vr + v * c, vi := a.vi - v * sn, ir := a.ir + i * c, ii := a.ii - i * sn }
  else a

/-- The sums of phase `p` of a cycle, oldest sample first. -/
def phaseSums (cycle : List GrnSample) (p : Nat) (dir : Bool) : PhaseSums :=
  ((List.range cycle.length).zip cycle).foldl (fun a x => a.add p x.1 cycle.length dir x.2) {}

/-- The cycle energies of one phase, in u (R231). -/
structure PhaseEnergy where
  ap : Int := 0
  ap1 : Int := 0
  rq : Int := 0
  ss : Int := 0
  s1 : Int := 0
  deriving DecidableEq, Repr

/-- The double-precision tail of rows 2 to 7 and 9: (2/N) × x × 2^−62 × KE × 2^32, each step rounded. -/
def fundTail (N : Nat) (x ke : Rat) : Int :=
  roundU (toDouble (toDouble (toDouble (toDouble (toDouble (2 / (N : Rat)) * x) * pow2 (-62)) * ke) * pow2 32))

/-- The energies of a phase with sums `a` over `N` samples; `fund` when the cycle is a fundamental cycle. -/
def PhaseSums.energy (a : PhaseSums) (N : Nat) (ke : Rat) (fund : Bool) : PhaseEnergy :=
  let d := toDouble
  let vr := d a.vr
  let vi := d a.vi
  let ir := d a.ir
  let ii := d a.ii
  let re := d (d (vr * ir) + d (vi * ii))
  let im := d (d (vi * ir) - d (vr * ii))
  let mag := fun (x y : Rat) => d (sqrtRat (d (d (x * x) + d (y * y))))
  { ap := roundU ((a.svi : Rat) * ke * pow2 32)
    ap1 := if fund then fundTail N re ke else 0
    rq := if fund then fundTail N im ke else 0
    ss := roundU ((isqrt (a.svv * a.sii).toNat : Rat) * ke * pow2 32)
    s1 := if fund then roundU (d (d (d (d (d (d (2 / (N : Rat)) * mag vr vi) * mag ir ii) * pow2 (-62)) * ke) * pow2 32)) else 0 }

/-- Energies of two phases together. -/
def PhaseEnergy.add (a b : PhaseEnergy) : PhaseEnergy :=
  ⟨a.ap + b.ap, a.ap1 + b.ap1, a.rq + b.rq, a.ss + b.ss, a.s1 + b.s1⟩

/-- Add a phase's energies to its totals (R232); the fundamental ones only in a fundamental cycle. -/
def State.addPhase (s : State) (m p : Nat) (e : PhaseEnergy) (fund : Bool) : State :=
  let t := s.addDirected (acTotal m p 0) (acTotal m p 1) e.ap
  let t := if fund then (t.addDirected (acTotal m p 2) (acTotal m p 3) e.ap1).addReactive m p e.ap1 e.rq else t
  let t := t.addTotal (acTotal m p 8) e.ss
  if fund then t.addTotal (acTotal m p 9) e.s1 else t

/-- K × √(S / N) in single precision (R236). -/
def rmsWord (k : Word) (sum : Int) (N : Nat) : Word :=
  match ofSingle k with
  | .fin q _ =>
    let r := sqrtRat (q * q * (sum : Rat) / (N : Rat))
    toSingle (if q < 0 then -r else r)
  | x => (roundSingle (x.mul (.ofRat (sqrtRat ((sum : Rat) / (N : Rat)))))).1

/-- An AC meter closes its running cycle; `ends` when it ends at an accepted crossing (R231 to R236). DESIGN CHOICE: log entry 27. -/
def State.acClose (s : State) (m : Nat) (ends : Bool) : State :=
  let mt := s.acMeter m
  let cycle := mt.cycle.reverse
  let N := cycle.length
  let fund := mt.began && ends && cycle.all (fun x => x.valid)
  let dir := s.on (F.GRN_ACm_CFG_DIR m)
  let nl := s.get (F.GRN_ACm_NL_NL_I m)
  let sums := (List.range 3).map (fun p => phaseSums cycle p dir)
  let pass := fun p => decide (((nl * nl * N : Nat) : Int) ≤ (nth sums p {}).sii)
  let en := fun p => (nth sums p {}).energy N (s.scale (R.GRN_ACm_KEp m p)) fund
  let sigma := ((List.range 3).filter pass).foldl (fun a p => a.add (en p)) ({} : PhaseEnergy)
  let t := s.forAll 3 (fun p u => if pass p then u.addPhase m p (en p) fund else u)
  let t := t.addPhase m 3 sigma fund
  let t := t.put (F.GRN_ACm_STAT_NOLOAD m) (((List.range 3).filter (fun p => !pass p)).foldl (fun a p => a + 2 ^ p) 0)
  let t := ((t.putB (F.GRN_ACm_STAT_FUND m) fund).incW (F.GRN_ACm_STAT_CLOSES m))
  let t := t.wr (R.GRN_ACm_LIVEn m 0) (if t.on (F.GRN_ACm_STAT_NOZX m) then 0 else mt.freq)
  let t := t.forAll 3 (fun p u =>
    (u.wr (R.GRN_ACm_LIVEn m (1 + p)) (rmsWord (u.rd (R.GRN_ACm_KVp m p)) (nth sums p {}).svv N)).wr
      (R.GRN_ACm_LIVEn m (4 + p)) (rmsWord (u.rd (R.GRN_ACm_KIp m p)) (nth sums p {}).sii N))
  let t := t.pmaxTake (F.GRN_ACm_LIVEn_WORD m 7) sigma.ss.toNat N
  let t := t.rplAdd m sigma.ap
  (t.modAc m (fun x => { x with cycle := [], began := ends })).raise (0xA0 + m)

/-- A DC meter closes its block (R235, R236). DESIGN CHOICE: log entry 27. PRESUMED: log entry 55. -/
def State.dcClose (s : State) (m : Nat) : State :=
  let mt := s.dcMeter m
  let idle := decide (mt.si.natAbs < s.get (F.GRN_DCm_NL_NL_I m) * 320)
  let e := roundU ((mt.svi : Rat) * s.scale (R.GRN_DCm_KE m) * pow2 32)
  let q := roundU ((mt.si : Rat) * s.scale (R.GRN_DCm_KQ m) * pow2 32)
  let t := if idle then s else
    let t := s.addDirected (dcTotal m 0) (dcTotal m 1) e
    if 0 ≤ mt.si then t.addTotal (dcTotal m 2) q else t.addTotal (dcTotal m 3) (-q)
  let t := (t.putB (F.GRN_DCm_STAT_NOLOAD m) idle).incW (F.GRN_DCm_STAT_CLOSES m)
  let t := t.pmaxTake (F.GRN_DCm_PMAX_WORD m) (if idle then 0 else e.natAbs) mt.count
  let t := t.rplAdd (4 + m) (if idle then 0 else e)
  (t.modDc m (fun x => { x with open_ := false, count := 0, svi := 0, si := 0 })).raise (0xA4 + m)

/-! ### Samples (R226, R228, R230) -/

/-- An accepted crossing at this sample: FREQ, and the running cycle closes (R228, R229).
DESIGN CHOICE: log entry 27. DEDUCED: log entry 56. -/
def State.acCrossing (s : State) (m : Nat) (v : Int) : State :=
  let mt := s.acMeter m
  let tc : Rat := (mt.pos : Rat) - (v : Rat) / ((v - mt.lastV : Int) : Rat)
  let freq := match mt.tPrev with
    | some tp => toSingle (32000 / (tc - tp))
    | none => Config.grnFirst v mt.lastV
  let t := (s.modAc m (fun x => { x with freq := freq, tPrev := some tc })).clr (F.GRN_ACm_STAT_NOZX m)
  t.acClose m true

/-- One interval of AC meter `m`. -/
def State.acSample (s : State) (m : Nat) (e : GrnInterval) : State :=
  let ins := (List.range 6).map (fun c => s.grnInput e (s.acStream m c) true)
  let valid := ins.all (fun x => x.isSome)
  let mt := s.acMeter m
  let dcb := s.on (F.GRN_ACm_CFG_DCB m)
  let chans := (List.range 6).map (fun c =>
    let ch := nth mt.chans c {}
    let integ := 3 ≤ c && bitAt (s.rd (R.GRN_ACm_CFG m)) (5 + (c - 3))
    ch.step integ dcb (if valid then (nth ins c none).getD 0 else ch.x))
  let z := fun (p : Nat) =>
    let d := s.phaseDelay m p
    ((nth chans p {}).delayed (if d < 0 then d.natAbs else 0), (nth chans (3 + p) {}).delayed (if 0 < d then d.natAbs else 0))
  let src := if s.get (F.GRN_ACm_CFG_ZXSRC m) = 3 then 0 else s.get (F.GRN_ACm_CFG_ZXSRC m)
  let v := (nth chans src {}).y
  let armed := mt.armed || decide (v < -((s.get (F.GRN_ACm_ZX_ZXHYS m) : Int) * 65536))
  let crossing := armed && decide (0 ≤ v)
  let t := if valid then s else s.grnGap m (!mt.gapRun)
  let t := t.modAc m (fun x => { x with chans := chans, armed := armed && !crossing, gapRun := !valid })
  let t := if crossing && decide (427 ≤ mt.cycle.length) then t.acCrossing m v else t
  t.modAc m (fun x => { x with
    lastV := v
    pos := x.pos + 1
    cycle := ⟨(List.range 3).map (fun p => (z p).1), (List.range 3).map (fun p => (z p).2), valid⟩ :: x.cycle })

/-- An interval opens a block of DC meter `m` where it starts at a block boundary (R230). DEDUCED: log entry 56. -/
def State.dcOpen (s : State) (m : Nat) (e : GrnInterval) : State :=
  if e.stop % 4000000 = 12500 then s.modDc m (fun x => { x with open_ := true }) else s

/-- One interval of DC meter `m`: its sample enters the open block (R226, R230). -/
def State.dcSample (s : State) (m : Nat) (e : GrnInterval) : State :=
  let s := s.dcOpen m e
  let add := fun (x : DcMeter) (svi si : Int) => if x.open_ then { x with count := x.count + 1, svi := x.svi + svi, si := x.si + si } else x
  match s.grnInput e (s.get (F.GRN_DCm_STR_S0 m)) false, s.grnInput e (s.get (F.GRN_DCm_STR_S1 m)) false with
  | some v, some i0 =>
    let i := if s.on (F.GRN_DCm_CFG_DIR m) then -i0 else i0
    s.modDc m (fun x => { add x (v * i) i with gapRun := false })
  | _, _ => (s.grnGap (4 + m) (!(s.dcMeter m).gapRun)).modDc m (fun x => { add x 0 0 with gapRun := true })

/-- The samples after which a cycle without an accepted crossing is closed (R229). DEDUCED: log entry 56. -/
def State.zxLimit (s : State) (m : Nat) : Nat := max 30 (min 1000 (s.get (F.GRN_ACm_ZX_ZXTO m))) * 32

/-- The samples of a cycle while NOZX is set (R229). -/
def State.nozxLimit (s : State) (m : Nat) : Nat := if s.on (F.GRN_ACm_CFG_FNOM m) then 533 else 640

/-- AC meter `m` has reached its timeout (R229). -/
def State.zxTimeoutDue (s : State) (m : Nat) : Bool :=
  s.meterOn m && !s.on (F.GRN_ACm_STAT_NOZX m) && decide (s.zxLimit m ≤ (s.acMeter m).cycle.length)

/-- AC meter `m` has reached the end of a cycle of fixed length (R229). -/
def State.nozxDue (s : State) (m : Nat) : Bool :=
  s.meterOn m && s.on (F.GRN_ACm_STAT_NOZX m) && decide (s.nozxLimit m ≤ (s.acMeter m).cycle.length)

/-- DC meter `m` has reached the end of a block: the last processed interval was the last of 320 (R230). -/
def State.blockDue (s : State) (m : Nat) : Bool :=
  s.meterOn (4 + m) && 0 < (s.dcMeter m).count && s.grn.lastEnd.toNat % 4000000 == 0

/-- The timeout of R229. -/
def State.zxTimeout (s : State) (m : Nat) : State :=
  if s.zxTimeoutDue m then ((s.set1 (F.GRN_ACm_STAT_NOZX m)).acClose m false).raise 0xAA else s

/-- A cycle of fixed length ends (R229). -/
def State.nozxClose (s : State) (m : Nat) : State := if s.nozxDue m then s.acClose m false else s

/-- A DC block ends (R235). DEDUCED: log entry 56. -/
def State.blockClose (s : State) (m : Nat) : State := if s.blockDue m then s.dcClose m else s

/-- A close of R229 or R230 is due. -/
def State.closeDue (s : State) : Bool :=
  (List.range 4).any (fun m => s.zxTimeoutDue m || s.nozxDue m || s.blockDue m)

/-! ### Snapshots (R240) -/

/-- Where PMAX of meter `n` stands, and PMAX of the eight meters (R236). -/
def pmaxAddr (n : Nat) : Nat := if n < 4 then R.GRN_ACm_LIVEn n 7 else R.GRN_DCm_PMAX (n - 4)
def State.pmaxWords (s : State) : List Word := (List.range 8).map (fun n => s.rd (pmaxAddr n))

/-- Bytes of a journal record from the snapshot just taken. -/
def State.journalBytes (s : State) (seq : Word) (flags : Nat) : List Byte :=
  let ints := s.grn.totals.map (fun v => leBytes 8 (v / 2 ^ 32))
  let fracs := s.grn.totals.map (fun v => leBytes 4 v)
  let wcs := (List.range 16).map (fun k =>
    leBytes 4 (s.get (F.GRN_WCk_CNT_VAL k)) ++ leBytes 2 (s.get (F.GRN_WCk_WRAP_VAL k)) ++ zeros 2)
  let body := leBytes 4 0x47524E4A ++ leBytes 4 seq.toNat ++ leBytes 4 (flags % 64) ++ leBytes 4 s.cfg.gen
    ++ leBytes 6 s.clk.rtcSec.toNat ++ leBytes 2 s.rtcSubNow ++ leBytes 8 s.grn.snapStamp.toNat
    ++ ints.flatten ++ fracs.flatten ++ wcs.flatten
    ++ (s.grn.epoAcc.map (fun a => leBytes 16 a)).flatten
    ++ (s.grn.snapGaps.map (fun v => leBytes 4 v.toNat)).flatten
    ++ (s.pmaxWords.map (fun v => leBytes 4 v.toNat)).flatten
    ++ zeros 1692
  body ++ leBytes 4 (crc32c body).toNat

/-- The offset of a journal slot in MRAM (R350). -/
def journalOffset (slot : Nat) : Nat := 0x4B0000 + 4096 * slot

/-- Copy totals, counters and gaps into the snapshot (R240); the gaps have no register there. DEDUCED: log entry 78. -/
def State.takeSnapshot (s : State) (ref : Bool) : State :=
  let t := s.modGrn (fun g => { g with 
    snapTotals := g.totals.map (fun v => BitVec.ofNat 64 (v / 2 ^ 32)), snapStamp := g.lastEnd
    snapGaps := (List.range 8).map (fun n => s.rd (R.GRN_GAPn n)) })
  let t := t.forAll 176 (fun i u => u.wr (totalAddr i + 0x1000) (BitVec.ofNat 32 (nth u.grn.totals i 0 / 2 ^ 32)))
  let t := t.forAll 16 (fun k u =>
    (u.wr (R.GRN_S_WCk_CNT k) (u.rd (R.GRN_WCk_CNT k))).wr (R.GRN_S_WCk_WRAP k) (u.rd (R.GRN_WCk_WRAP k)))
  let t := t.wr R.GRN_SNAP_STAMP_LO (t.grn.snapStamp.setWidth 32)
  let t := (t.incW F.GRN_SNAP_CNT_VALUE).set1 F.GRN_SNAP_CTRL_DONE
  if ref then t.clr F.GRN_STAT_OVR_STATE else t

/-- Ask for a snapshot, merged into one that is pending; it waits for an interval in progress (R240). -/
def State.askSnapshot (s : State) (ref : Bool) (journal : Option Nat) (final : Bool) : State :=
  let old := s.grn.snap.getD {}
  let flags := match old.journal, journal with
    | some a, some b => some (a ||| b)
    | some a, none => some a
    | none, b => b
  s.modGrn (fun g => { g with snap := some {
    ref := old.ref || ref, journal := flags, final := old.final || final, waits := if g.snap.isSome then old.waits else g.queue != [] } })

/-- Close every open cycle and block; none of them is a fundamental cycle (R245). -/
def State.closeOpen (s : State) : State :=
  let t := s.forAll 4 (fun m u => if u.meterOn m && (u.acMeter m).cycle != [] then u.acClose m false else u)
  t.forAll 4 (fun m u => if u.meterOn (4 + m) && 0 < (u.dcMeter m).count then u.dcClose m else u)

/-- A record of a slot that was not written to its end. DESIGN CHOICE: log entry 28. -/
def State.tearSlot (s : State) (bytes : List Byte) : State :=
  let cut := 8 + Config.tornCut s.draws % 4084
  (s.mramWrite (journalOffset s.grn.nextSlot) (bytes.take cut)).drawn

/-- The largest powers of a record that was not written stay in PMAX (R236). -/
def State.keepPmax (s : State) (w : JournalWrite) : State :=
  s.forAll 8 (fun n t => let a := pmaxAddr n; t.wr a (if (t.rd a).toNat < (nth w.pmax n 0).toNat then nth w.pmax n 0 else t.rd a))

/-- A write in progress is abandoned: its slot is left torn, and the next record goes into the slot after it (R245). -/
def State.abandonWrite (s : State) : State :=
  match s.grn.write with
  | some w =>
    ((s.tearSlot w.bytes).keepPmax w).modGrn (fun g => { g with
      write := none, nextSlot := (g.nextSlot + 1) % 32, failedFlags := g.failedFlags ||| (w.flags / 2 * 2) })
  | none => s

/-- Take the pending snapshot; a record that waits for it is begun, the final one abandoning a write in progress (R240, R244, R245). While
replay runs the journal is frozen: the record waits for its end, with a snapshot of its own (R248). DEDUCED: log entry 54. -/
def State.snapshotNow (s : State) : State :=
  match s.grn.snap with
  | none => s
  | some r =>
    let t := if r.final && !s.grnFrozen then s.closeOpen else s
    let t := (t.modGrn (fun g => { g with snap := none })).takeSnapshot r.ref
    match r.journal with
    | none => t
    | some f =>
      if s.grnFrozen then t.modGrn (fun g => { g with snap := some { r with ref := false, waits := false, held := true } }) else
      let t := if r.final then t.abandonWrite else t
      let flags := f ||| (if r.final then t.grn.failedFlags else 0) ||| bit1 (!t.anyMeter)
      let w : JournalWrite := ⟨flags, r.final, t.journalBytes t.grn.nextSeq flags, t.pmaxWords⟩
      let t := t.modGrn (fun g => { g with write := some w })
      let t := t.forAll 8 (fun n u => u.wr (pmaxAddr n) 0)
      if r.final && flags / 4 % 2 = 1 then t.set1 F.GRN_STAT_CLKSTOP else t

/-- The pending snapshot is taken once the interval that was in progress is processed, closes and all (R240). -/
def State.snapshotTaken (s : State) : State :=
  if s.grn.snap.any (fun r => !r.waits && !(r.held && s.grnFrozen)) ∧ !s.closeDue then s.snapshotNow else s

/-! ### The intervals in turn (R226) and the journal (R244) -/

/-- Process the oldest published interval: AC0 to AC3, then DC0 to DC3 (R226). A snapshot that is due is taken before it (R240). -/
def State.grnInterval (s : State) : State :=
  match s.grn.queue with
  | [] => s
  | e :: rest =>
    if s.coreRuns && !s.closeDue then
      let t := s.snapshotTaken.modGrn (fun g => { g with queue := rest })
      let t := t.forAll 4 (fun m u => if u.meterOn m then u.acSample m e else u)
      let t := t.forAll 4 (fun m u => if u.meterOn (4 + m) then u.dcSample m e else u)
      t.modGrn (fun g => { g with
        lastEnd := BitVec.ofNat 64 e.stop, snap := g.snap.map (fun r => { r with waits := false }) })
    else s

/-- Every close that is due, in the order of the meters. -/
def State.grnCloses (s : State) : State :=
  (s.forAll 4 (fun m t => (t.zxTimeout m).nozxClose m)).forAll 4 (fun m t => t.blockClose m)

/-- Process the interval in progress to its end, the closes that it brings among it. -/
def State.grnFinish (s : State) : State := s.grnCloses.grnInterval.grnCloses

/-- The Granary's intake takes the published interval that ended at `e`, or drops it when its buffer is full (R53, R241). DESIGN CHOICE:
log entry 26. Streams have no carrier of their own: the period voided is that of ACQ_CTRL.SYNC_CAR. DESIGN CHOICE: log entry 72. -/
def State.grnTake (s : State) (e : Nat) : State :=
  if s.on F.GRN_STAT_CLKSTOP || s.grn.active == 0 then s else
    let held := (s.grn.queue.filter (fun e => e.words.isSome)).length
    if held ≤ Config.grnDepth then
      s.modGrn (fun g => { g with queue := g.queue ++
        [⟨e, some ((List.range 40).map (fun k => if s.on (F.PRISM_STRk_EN k) then s.rd (R.PRISM_STRDk k) else 0))⟩] })
    else
      let t := s.modGrn (fun g => { g with queue := g.queue ++ [⟨e, none⟩] })
      let t := ((t.set1 F.GRN_STAT_OVR).set1 F.GRN_STAT_OVR_STATE).raise 0xAC
      t.void .grn true t.syncCar (t.valleyStamp t.syncCar)

/-! ### Pulse outputs (R243) -/

/-- Pulse width of an output, in CORE cycles. -/
def State.epoWidth (s : State) (k : Nat) : Nat := max 1 (min 100 (s.get (F.GRN_EPOk_CFG_PW k))) * 400000

/-- A queued pulse starts. DEDUCED: log entry 56. -/
def State.epoPulseStart (s : State) (k : Nat) : State :=
  if s.coreRuns && !s.grnFrozen && s.on (F.GRN_EPOk_CFG_EN k) && s.count % 400000 == 0 && s.on (F.GRN_EPOk_STAT_PENDING k) &&
      !s.on (F.GRN_EPOk_STAT_ACTIVE k) && s.due (nth s.grn.epoIdle k 0 + s.epoWidth k) then
    ((s.put (F.GRN_EPOk_STAT_PENDING k) (s.get (F.GRN_EPOk_STAT_PENDING k) - 1)).set1 (F.GRN_EPOk_STAT_ACTIVE k)).modGrn
      (fun g => { g with epoStart := upd g.epoStart k (fun _ => s.count) })
  else s

/-- An output returns to its idle level. -/
def State.epoRest (s : State) (k : Nat) : State :=
  if s.on (F.GRN_EPOk_STAT_ACTIVE k) then
    (s.clr (F.GRN_EPOk_STAT_ACTIVE k)).modGrn (fun g => { g with epoIdle := upd g.epoIdle k (fun _ => s.count) })
  else s

/-- A pulse ends. -/
def State.epoPulseEnd (s : State) (k : Nat) : State :=
  if s.coreRuns && !s.grnFrozen && s.on (F.GRN_EPOk_STAT_ACTIVE k) && s.due (nth s.grn.epoStart k 0 + s.epoWidth k) then s.epoRest k
  else s

/-- A journal record is asked for with some flags: at once, or queued behind the one being written (R244). -/
def State.journalAsk (s : State) (flags : Nat) : State :=
  if s.grnFrozen then s
  else if s.on F.GRN_JSTAT_BUSY then
    (s.modGrn (fun g => { g with queued := some (g.queued.getD 0 ||| flags) })).set1 F.GRN_JSTAT_QUEUED
  else (s.set1 F.GRN_JSTAT_BUSY).askSnapshot false (some (flags ||| s.grn.failedFlags)) false

/-- The final record of R245 is asked for: its snapshot closes every open cycle and block, and it takes the flags of the requests that are
queued or have failed. DEDUCED: log entry 54. -/
def State.finalAsk (s : State) (flags : Nat) : State :=
  let all := flags ||| 1 ||| s.grn.queued.getD 0 ||| s.grn.failedFlags
  let t := (s.modGrn (fun g => { g with queued := none })).clr F.GRN_JSTAT_QUEUED
  (t.set1 F.GRN_JSTAT_BUSY).askSnapshot false (some all) true

/-- Take a snapshot for a host command: the interval in progress is processed first (R240, R250). -/
def State.hostSnapshot (s : State) (ref : Bool) : State := (s.grnFinish.askSnapshot ref none false).snapshotNow

/-- The record being written completes; `ok` is its read-back verification, which fails where a line of the slot cannot be written (R244,
R245, R353). The final record may still wait for its snapshot, and a running replay holds a write (R248). DEDUCED: log entry 54. -/
def State.journalDone (s : State) (ok : Bool) : State :=
  match s.grn.write with
  | none => s
  | some w =>
    if s.grnFrozen then s else
    let slot := s.grn.nextSlot
    let t := s.modGrn (fun g => { g with write := none })
    let t := if ok && !t.mramFails (journalOffset slot) w.bytes.length then
        let t := t.mramWrite (journalOffset slot) w.bytes
        let t := (t.put F.GRN_JSTAT_SLOT slot).wr R.GRN_JSEQ t.grn.nextSeq
        let t := t.modGrn (fun g => { g with nextSlot := (slot + 1) % 32, nextSeq := g.nextSeq + 1, failedFlags := 0 })
        let t := t.raise 0xA8
        if w.final then t.raise 0xAE else t
      else
        let t := (t.tearSlot w.bytes).keepPmax w
        let t := t.modGrn (fun g => { g with failedFlags := w.flags / 2 * 2 })
        ((t.set1 F.GRN_JSTAT_FAIL).incS F.GRN_JSTAT_FAILS).raise 0xA9
    if t.grn.snap.any (·.journal.isSome) then t else
    let t := t.clr F.GRN_JSTAT_BUSY
    match t.grn.queued with
    | none => t
    | some f => ((t.modGrn (fun g => { g with queued := none })).clr F.GRN_JSTAT_QUEUED).journalAsk f

/-- The journal period in CORE cycles (GRN_JRN.JPER). DEDUCED: log entry 54. -/
def State.journalPeriod (s : State) : Nat := max 1 (min 3600 (s.get F.GRN_JRN_JPER)) * 400000000

/-- A journal period ends (R244). -/
def State.journalTick (s : State) : State :=
  match s.grn.period with
  | none => s
  | some t0 =>
    if s.coreRuns && s.due (t0 + s.journalPeriod) then
      (s.modGrn (fun g => { g with period := some (t0 + s.journalPeriod) })).journalAsk 0
    else s

/-! ### Meter enables (R244, R247, R249) -/

/-- A write of GRN_CTRL: enables refused under R28, the OPEN and DISABLE records, and the metering veto. DEDUCED: log entry 56. -/
def State.writeMeters (s : State) (v : Word) : State :=
  let old := s.rd R.GRN_CTRL
  let ssc := s.on F.CLK_SYN0_SSC_EN && (v &&& ~~~ old &&& 0xFF != 0)
  let new := if ssc then (v &&& ~~~ 0xFF) ||| (v &&& old &&& 0xFF) else v
  let t := (s.wr R.GRN_CTRL ((old &&& 0x80000000) ||| (new &&& 0x800000FF))).whenB ssc (fun u => u.set1 F.GRN_STAT_SSC_REF)
  let first := t.anyMeter && !t.grn.opened
  let off := old &&& ~~~ new &&& 0xFF != 0
  let t := if first then
      (t.modGrn (fun g => { g with opened := true, period := some t.count })).journalAsk 8
    else t
  if off then t.journalAsk 16 else t

/-- A meter starts: filters, detector and open cycle or block begin afresh. -/
def State.meterFresh (s : State) (n : Nat) : State :=
  if n < 4 then s.modAc n (fun _ => {}) else s.modDc (n - 4) (fun _ => {})

/-- The meter enables as written take effect (R70): a meter that starts begins afresh, a meter that stops drops its open
cycle or block. DEDUCED: log entry 56. -/
def State.applyMeters (s : State) : State :=
  let on : BitVec 8 := (s.rd R.GRN_CTRL).setWidth 8
  let changed := on ^^^ s.grn.active
  (s.forAll 8 (fun n u => if changed.getLsbD n then u.meterFresh n else u)).modGrn (fun g => { g with active := on })

/-- A window counter's binding is written: a counter that is bound or rebound starts at 0 (R239), unless replay has frozen it (R248). -/
def State.bindWc (s : State) (k : Nat) (v : Word) : State :=
  let old := s.rd (R.GRN_WCk_CFG k)
  let t := s.wr (R.GRN_WCk_CFG k) (v &&& 0x3FF)
  if bitAt v 0 && t.rd (R.GRN_WCk_CFG k) != old && !s.grnFrozen then (t.wr (R.GRN_WCk_CNT k) 0).wr (R.GRN_WCk_WRAP k) 0 else t

/-! ### HI words (R238) -/

/-- The HI word that a read of a Granary LO word latches, with its address. -/
def State.grnHi (s : State) (a : Nat) : Option Word :=
  if a = R.GRN_SNAP_STAMP_LO then some (s.grn.snapStamp >>> 32 |>.setWidth 32)
  else match (List.range 8).find? (fun n => R.GRN_RPLn_LO n == a) with
    | some n => some (nth s.grn.rpl n 0 >>> 32 |>.setWidth 32)
    | none =>
      match (List.range 176).find? (fun i => totalAddr i == a || totalAddr i + 0x1000 == a) with
      | some i =>
        some (if totalAddr i = a then BitVec.ofNat 32 (nth s.grn.totals i 0 / 2 ^ 64)
          else (nth s.grn.snapTotals i 0 >>> 32).setWidth 32)
      | none => none

/-- A read of a LO word of the Granary latches its HI word, four bytes above (R238). -/
def State.grnLoRead (s : State) (a : Nat) : State :=
  match s.grnHi a with
  | some h => s.wr (a + 4) h
  | none => s

/-! ### Restore (R246) -/

/-- A journal slot's record is valid. -/
def journalValid (b : List Byte) : Bool :=
  fieldLe b 0 4 == 0x47524E4A && fieldLe b 4092 4 == (crc32c (b.take 4092)).toNat

/-- The newest valid record, with its slot. DEDUCED: log entry 54. -/
def State.newestRecord (s : State) : Option (Nat × List Byte) :=
  (List.range 32).foldl (fun best i =>
    let b := s.mramRead (journalOffset i) 4096
    if journalValid b then
      match best with
      | some (_, c) => if newer 32 (fieldLe b 4 4) (fieldLe c 4 4) then some (i, b) else best
      | none => some (i, b)
    else best) none

/-- Restore totals, counters, accumulators and gaps from a record. -/
def State.restoreFrom (s : State) (b : List Byte) : State :=
  let t := s.forAll 176 (fun i u =>
    let v := fieldLe b (32 + 8 * i) 8 * 2 ^ 32 + fieldLe b (1440 + 4 * i) 4
    (u.setTotal i v).wr (totalAddr i + 4) (BitVec.ofNat 32 (v / 2 ^ 64)))
  let t := t.forAll 16 (fun k u =>
    (u.wr (R.GRN_WCk_CNT k) (BitVec.ofNat 32 (fieldLe b (2144 + 8 * k) 4))).wr (R.GRN_WCk_WRAP k)
      (BitVec.ofNat 32 (fieldLe b (2148 + 8 * k) 2)))
  let t := t.modGrn (fun g => { g with epoAcc := (List.range 4).map (fun k => fieldLe b (2272 + 16 * k) 16 % 2 ^ 96) })
  t.forAll 8 (fun n u => u.wr (R.GRN_GAPn n) (BitVec.ofNat 32 (fieldLe b (2336 + 4 * n) 4)))

/-- The RTC of a record, or the present one, in 1/32,768 s. -/
def rtcTicks (sec sub : Nat) : Int := ((sec * 32768 + sub : Nat) : Int)

/-- An unclean stop (R246): the interval in ms, the bounds in Wh and the log record. DESIGN CHOICE: log entry 27. DEDUCED: log entry 54. -/
def State.unclean (s : State) (b : List Byte) : State :=
  let d := rtcTicks s.clk.rtcSec.toNat s.rtcSubNow - rtcTicks (fieldLe b 16 6) (fieldLe b 22 2 % 32768)
  let cap : Rat := (s.journalPeriod / 400000000 + 1 : Nat)
  let t : Rat := if d ≤ 0 then cap else min ((d : Rat) / 32768) cap
  let ms := (t * 1000).floor.toNat + bit1 ((t * 1000).den != 1 && Config.uncUp (t * 1000).num)
  let u := (s.set1 F.GRN_STAT_UNCLEAN).wr R.GRN_UNC_T (BitVec.ofNat 32 ms)
  let u := u.forAll 8 (fun n w =>
    w.wr (R.GRN_UNC_En n) (BitVec.ofNat 32 (((fieldLe b (2368 + 4 * n) 4 : Rat) * t / 3600).ceil.toNat)))
  u.log 0x0032 9 .warn (leBytes 4 ms ++ leBytes 4 (fieldLe b 4 4))

/-- The Granary's restore at boot (R246). -/
def State.grnRestore (s : State) : State :=
  let t := s.forAll 32 (fun i u =>
    let b := u.mramRead (journalOffset i) 4096
    if !journalValid b && b.any (fun x => x != 0) then u.log 0x0030 9 .warn (BitVec.ofNat 8 i :: leBytes 4 (fieldLe b 4 4)) else u)
  match t.newestRecord with
  | none => t.log 0x0031 9 .warn []
  | some (i, b) =>
    let u := (t.restoreFrom b).modGrn (fun g => { g with
      nextSlot := (i + 1) % 32, nextSeq := BitVec.ofNat 32 (fieldLe b 4 4 + 1), restoredSeq := BitVec.ofNat 32 (fieldLe b 4 4) })
    if fieldLe b 8 4 % 2 = 0 then u.unclean b else u

end Sys2Proof.Machine
end

