-- ==== Sys2Proof/Machine/Rebase.lean ====
section
/-! DEFINITION. Machine/Rebase.lean: what the step of the timebase does to the instants that the machine keeps (R33). They are held as
COUNT, and what lies a number of CORE cycles from the step lies as many cycles from it in the new count; an instant that would lie
before 0 stands at 0. Stamps in registers and in log records stay: they are of their own epoch. DESIGN CHOICE: log entry 74. -/

namespace Sys2Proof.Machine

/-- An instant moved by `d` cycles. DESIGN CHOICE: log entry 74. -/
def moved (d : Int) (t : Nat) : Nat := ((t : Int) + d).toNat

/-- A COUNT and a short stamp moved by `d` cycles, in their own widths. -/
def movedCount (d : Int) (c : Dword) : Dword := c + BitVec.ofInt 64 d
def movedStamp (d : Int) (c : Word) : Word := c + BitVec.ofInt 32 d

/-! ### The parts of the state -/

/-- The clocks' own instants: the ramp's next ms and the RTC's last second. -/
def Clk.rebase (d : Int) (c : Clk) : Clk :=
  { c with ramp := { c.ramp with nextAt := moved d c.ramp.nextAt }, rtcAt := c.rtcAt.map (moved d) }

/-- A link's session and its block. -/
def LinkSt.rebase (d : Int) (l : LinkSt) : LinkSt :=
  { l with session := l.session.map (fun x => { x with touched := moved d x.touched }), blockedAt := l.blockedAt.map (moved d) }

def Steward.rebase (d : Int) (x : Steward) : Steward :=
  { x with spi := x.spi.rebase d, uart := x.uart.rebase d, crier := { x.crier with nextAt := moved d x.crier.nextAt } }

/-- The periods voided, and the slots of a run. -/
def Tst.rebase (d : Int) (x : Tst) : Tst :=
  { x with slot0 := moved d x.slot0, fifoUntil := moved d x.fifoUntil,
           voids := x.voids.map (fun v => { v with stamp := movedStamp d v.stamp, at_ := moved d v.at_ }) }

/-- Values on their way to the intake. -/
def Acq.rebase (d : Int) (x : Acq) : Acq :=
  { x with slotAt := x.slotAt.map (moved d),
           flight := x.flight.map (fun c => { c with stamp := moved d c.stamp, due := moved d c.due }) }

def WinAcc.rebase (d : Int) (x : WinAcc) : WinAcc :=
  { x with openAt := moved d x.openAt, valley := moved d x.valley, closeAt := moved d x.closeAt }

def PrismWin.rebase (d : Int) (x : PrismWin) : PrismWin :=
  { x with open_ := x.open_.map (·.rebase d), closed := x.closed.map (·.rebase d),
           published := x.published.map (fun p => ⟨moved d p.openAt, moved d p.closeAt, movedStamp d p.valley⟩) }

/-- The Prism: its windows move, and its streams begin an interval afresh. DESIGN CHOICE: log entry 74. -/
def Prism.rebase (d : Int) (x : Prism) : Prism :=
  { x with wins := x.wins.map (·.rebase d), ended := x.ended.map (moved d),
           streams := x.streams.map (fun y => { y with sum := 0, count := 0 }) }

/-- FNOM in Hz. -/
def State.fnom (s : State) (k : Nat) : Nat := if s.on (F.WVN_SETs_CFG_FNOM k) then 60 else 50

/-- FINJ in effect, in 0.25 Hz (WVN_SETs_INJ). -/
def State.finj (s : State) (k : Nat) : Nat :=
  let f := s.get (F.WVN_SETs_INJ_FINJ k)
  let nom := 4 * s.fnom k
  if f < 220 ∨ 380 < f ∨ (nom < f + 20 ∧ f < nom + 20) then 300 else f

/-- Wraps of INJ_ANGLE up to now (R108). -/
def State.injWraps (s : State) (k : Nat) : Nat := s.count * s.finj k / 1600000000

/-- The step of the timebase moves INJ_ANGLE: the injection period in hand is no whole one, and the periods begin anew (R107). DESIGN CHOICE: log
entry 74. -/
def State.injAnew (s : State) : State :=
  { s with wvn := { s.wvn with sets := s.wvn.sets.zipIdx.map (fun p =>
      { p.1 with wraps := s.injWraps p.2, injWhole := false, inj := {}, periods := [] }) } }

/-- A set: its instants move, and its sample begins afresh. DESIGN CHOICE: log entry 74. -/
def SetSt.rebase (d : Int) (x : SetSt) : SetSt :=
  { x with acc := List.replicate 6 (0, 0), lastEnd := moved d x.lastEnd, vsEnd := moved d x.vsEnd, frtRunStart := moved d x.frtRunStart,
           onset := x.onset.map (moved d), frtEntry := moved d x.frtEntry, shdAt := moved d x.shdAt }

def MppSt.rebase (d : Int) (x : MppSt) : MppSt :=
  { x with pubs := x.pubs.map (fun p => (moved d p.1, p.2)), prevValley := x.prevValley.map (moved d),
           doneAt := x.doneAt.map (moved d), scanStart := moved d x.scanStart }

def Wvn.rebase (d : Int) (x : Wvn) : Wvn :=
  { x with ended := x.ended.map (moved d), sets := x.sets.map (·.rebase d), mpps := x.mpps.map (·.rebase d) }

def TaskSt.rebase (d : Int) (x : TaskSt) : TaskSt :=
  { x with start := moved d x.start, valley := movedStamp d x.valley, voided := movedStamp d x.voided,
           swap := x.swap.map (moved d), resume := x.resume.map (moved d), revert := x.revert.map (moved d) }

/-- A leg's edges, in 39 ps units of the same cycles. -/
def LegSt.rebase (d : Int) (x : LegSt) : LegSt :=
  { x with onH := x.onH.map (moved (64 * d)), onL := x.onL.map (moved (64 * d)),
           pulse := x.pulse.map (fun p => { p with openAt := moved (64 * d) p.openAt, closeAt := p.closeAt.map (moved (64 * d)) }) }

def CarSt.rebase (d : Int) (x : CarSt) : CarSt :=
  { x with startAt := movedCount d x.startAt, valley := movedCount d x.valley }

def TlSt.rebase (d : Int) (x : TlSt) : TlSt :=
  { x with since := moved d x.since, blankEnd := x.blankEnd.map (moved d) }

def Loom.rebase (d : Int) (x : Loom) : Loom :=
  { x with legs := x.legs.map (·.rebase d), cars := x.cars.map (·.rebase d), tls := x.tls.map (·.rebase d),
           lineEdge := x.lineEdge.map (·.map (moved d)), lineStep := x.lineStep.map (·.map (moved d)) }

def GdSt.rebase (d : Int) (x : GdSt) : GdSt := { x with edgeAt := moved d x.edgeAt, awayAt := x.awayAt.map (moved d) }

def GroupSt.rebase (d : Int) (x : GroupSt) : GroupSt :=
  { x with queue := x.queue.map (fun q => (q.1, moved d q.2)), since := x.since.map (moved d) }

def LinkBrk.rebase (d : Int) (x : LinkBrk) : LinkBrk :=
  { x with lastOn := moved d x.lastOn, lastOff := x.lastOff.map (moved d), tickStart := moved d x.tickStart,
           testEnd := x.testEnd.map (moved d) }

def Gdp.rebase (d : Int) (x : Gdp) : Gdp :=
  { x with gds := x.gds.map (·.rebase d), groups := x.groups.map (·.rebase d), brks := x.brks.map (·.rebase d) }

def Cmp.rebase (d : Int) (x : Cmp) : Cmp :=
  { x with wins := x.wins.map (fun w => { w with settleEnd := moved d w.settleEnd, decideAt := w.decideAt.map (moved d) }) }

/-- The Granary: its pulse outputs and its journal period; intervals at its intake keep the stamps they were published with. -/
def Grn.rebase (d : Int) (x : Grn) : Grn :=
  { x with epoStart := x.epoStart.map (moved d), epoIdle := x.epoIdle.map (moved d), period := x.period.map (moved d) }

def EncSt.rebase (d : Int) (x : EncSt) : EncSt :=
  { x with qaAt := x.qaAt.map (moved d), qbAt := x.qbAt.map (moved d), qiAt := x.qiAt.map (moved d), readAt := x.readAt.map (moved d),
           latchAt := x.latchAt.map (moved d), before := { x.before with te := x.before.te.map (moved d) },
           te := x.te.map (moved d), teRef := x.teRef.map (moved d), startAt := moved d x.startAt, reading := x.reading.map (moved d),
           pauseEnd := moved d x.pauseEnd, depositAt := x.depositAt.map (moved d) }

def Shf.rebase (d : Int) (x : Shf) : Shf := { x with
  encs := x.encs.map (·.rebase d), emuAt := moved d x.emuAt, stopAt := moved d x.stopAt }

/-- A port that has lost its input; rounds and insertion latches are dated in ring time, which does not step. -/
def Ring.rebase (d : Int) (x : Ring) : Ring := { x with clearA := moved d x.clearA, clearB := moved d x.clearB }

/-- Every instant that the machine keeps, moved by `d` cycles. DESIGN CHOICE: log entry 74. -/
def State.rebase (s : State) (d : Int) : State :=
  { s with
    sys := { s.sys with holdEnd := moved d s.sys.holdEnd, resetDue := s.sys.resetDue.map (moved d) }
    clk := s.clk.rebase d
    mem := { s.mem with refreshAt := moved d s.mem.refreshAt }
    dma := s.dma.map (fun c => { c with
      grantAt := moved d c.grantAt, trigAt := c.trigAt.map (moved d)
      xfer := c.xfer.map (fun x => { x with readAt := x.readAt.map (moved d), wroteAt := x.wroteAt.map (moved d) }) })
    events := s.events.map (fun e => { e with count := movedCount d e.count })
    stew := s.stew.rebase d
    tst := s.tst.rebase d
    loom := s.loom.rebase d
    gdp := s.gdp.rebase d
    cmp := s.cmp.rebase d
    acq := s.acq.rebase d
    prism := s.prism.rebase d
    wvn := s.wvn.rebase d
    tasks := s.tasks.map (·.rebase d)
    grn := s.grn.rebase d
    shf := s.shf.rebase d
    ring := s.ring.rebase d }

end Sys2Proof.Machine
end

