-- ==== Sys2Proof/Machine/WvnOps.lean ====
section
/-! DEFINITION. Machine/WvnOps.lean: the Weathervane: samples, the loop, islanding, ride-through, the shadow oscillator, the
latch (R91 to R115), and the maximum-power-point trackers (R116 to R119); the digest of R63. -/

namespace Sys2Proof.Machine

/-! ### The digest (R63) -/

/-- The engine records or replays. -/
def State.rplRuns (s : State) : Bool := s.tst.rpl == .recording || s.tst.rpl == .replaying

/-- The digest accumulates: from the first cycle of slot 0 of a recording or a replay. -/
def State.digesting (s : State) : Bool := s.rplRuns && decide (s.tst.slot0 ≤ s.count)

/-- Words that a commit or latch of this cycle gives TST_DIGEST, if the engine turns out to run in it: `key` is the carrier, or 8 and the set, or 12 and the channel (R63). -/
def State.digest (s : State) (key : Nat) (ws : List Word) : State :=
  if s.tst.rpl = .idle then s else { s with tst := { s.tst with parts := s.tst.parts ++ [(key, ws)] } }

/-- Take words into TST_DIGEST. -/
def State.digestWords (s : State) (ws : List Word) : State :=
  let c := crcRun s.tst.crc (ws.flatMap (fun w => leBytes 4 w.toNat))
  { s.wr R.TST_DIGEST c with tst := { s.tst with crc := c } }

/-- A cycle ends: its words enter TST_DIGEST while that accumulates, commits in ascending carrier order, then latches in ascending order of set and channel
(R63, R116). -/
def State.digestFlush (s : State) : State :=
  let t := if s.digesting then (List.range 20).foldl (fun (u : State) k =>
      (s.tst.parts.filter (fun p => p.1 == k)).foldl (fun v p => v.digestWords p.2) u) s
    else s
  { t with tst := { t.tst with parts := [] } }

/-! ### Access -/

def State.modWvn (s : State) (f : Wvn → Wvn) : State := { s with wvn := f s.wvn }
def State.wset (s : State) (k : Nat) : SetSt := nth s.wvn.sets k {}
def State.modSet (s : State) (k : Nat) (f : SetSt → SetSt) : State :=
  s.modWvn (fun w => { w with sets := upd w.sets k f })
def State.mpp (s : State) (m : Nat) : MppSt := nth s.wvn.mpps m {}
def State.modMpp (s : State) (m : Nat) (f : MppSt → MppSt) : State :=
  s.modWvn (fun w => { w with mpps := upd w.mpps m f })

/-- Set `k` runs. -/
def State.setOn (s : State) (k : Nat) : Bool := s.coreRuns && bitAt s.wvn.active k

/-- Channel `m` runs. -/
def State.mppOn (s : State) (m : Nat) : Bool := s.coreRuns && bitAt s.wvn.active (8 + m)

/-- The fractional part of an angle in turns. -/
def fracTurn (q : Rat) : Rat := q - (q.floor : Rat)

/-- An angle in turns as UQ0.32, truncated. -/
def turnWord (q : Rat) : Word := BitVec.ofNat 32 (fracTurn q * (2 ^ 32 : Nat)).floor.toNat

/-- A frequency clamped to 40 to 70 Hz (R97, R103); what is no number stands at the lower limit. -/
def clampFreq (w : Word) : Word :=
  match ofSingle w with
  | .nan => toSingle 40
  | x => if x.lt (.ofRat 40) then toSingle 40 else if (Flt.ofRat 70).lt x then toSingle 70 else w

/-- A frequency lies outside 40 to 70 Hz, or is no number. -/
def freqOut (w : Word) : Bool := match ofSingle w with
  | .nan => true
  | x => x.lt (.ofRat 40) || (Flt.ofRat 70).lt x

/-- Turns gained in `n` CORE cycles at a frequency. -/
def turnsIn (freq : Word) (n : Nat) : Rat := singleRat freq * (n : Rat) / 400000000

/-- A UQ2.14 field in per-unit. DEDUCED: log entry 13. -/
def perUnit (n : Nat) : Rat := (n : Rat) / 16384

/-! ### Single-precision steps

All set arithmetic is single precision (R91). Where a rule gives a formula, the model rounds after every operation, in the order in which the
formula is written. DEDUCED: log entry 13. -/

def sAdd (a b : Word) : Word := (roundSingle ((ofSingle a).add (ofSingle b))).1
def sSub (a b : Word) : Word := (roundSingle ((ofSingle a).add (ofSingle b).neg)).1
def sMul (a b : Word) : Word := (roundSingle ((ofSingle a).mul (ofSingle b))).1
def sDiv (a b : Word) : Word := (roundSingle ((ofSingle a).div (ofSingle b)).1).1
def sSqrt (a : Word) : Word := (roundSingle (ofSingle a).sqrt).1
def sNeg (a : Word) : Word := a ^^^ 0x80000000
def sNat (n : Nat) : Word := toSingle (n : Rat)
def sAbs (a : Word) : Word := a &&& 0x7FFFFFFF
def sLt (a b : Word) : Bool := (ofSingle a).lt (ofSingle b)

/-- A value held between two limits. -/
def sClamp (lo hi a : Word) : Word := if sLt a lo then lo else if sLt hi a then hi else a

/-- The running sum of a list of singles. -/
def sSum (l : List Word) : Word := l.foldl sAdd 0

/-- √(x² + y²). -/
def hypot (x y : Word) : Word := sSqrt (sAdd (sMul x x) (sMul y y))

/-- The mean of a list of singles. -/
def meanSingle (l : List Word) : Word := if l = [] then 0 else sDiv (sSum l) (sNat l.length)

/-- Sine and cosine of an angle in turns. -/
def unitAt (q : Rat) : Word × Word :=
  let (s, c) := trigTurns (turnWord q)
  (toSingle s, toSingle c)

/-- A vector as a frame sees it that stands at the angle of this sine and cosine. -/
def turnBack (sc : Word × Word) (v : Word × Word) : Word × Word :=
  (sAdd (sMul v.1 sc.2) (sMul v.2 sc.1), sSub (sMul v.2 sc.2) (sMul v.1 sc.1))

/-- Terms of the arctangent series of `u / 2^96`, in units of 2^−96: `t` is the next odd power, `k` its order. -/
def atanGo (u2 : Nat) : Nat → Nat → Nat → Int → Int
  | 0, _, _, acc => acc
  | n + 1, t, k, acc => atanGo u2 n (t * u2 / 2 ^ 96) (k + 2) (acc + (if k % 4 = 1 then 1 else -1) * ((t / k : Nat) : Int))

/-- Half the angle of a tangent, in units of 2^−96. -/
def halfTan (u : Nat) : Nat := u * 2 ^ 96 / (2 ^ 96 + isqrt (2 ^ 192 + u * u))

/-- The arctangent of a ratio of 0 to 1, within 2^−80 of it. -/
def atanUnit (t : Rat) : Rat :=
  if t * 8192 < 1 then t - t * t * t / 3 + t * t * t * t * t / 5
  else
    let u := halfTan (halfTan (halfTan (t * (2 ^ 96 : Nat)).floor.toNat))
    ((8 * atanGo (u * u / 2 ^ 96) 20 u 1 0 : Int) : Rat) / (2 ^ 96 : Nat)

/-- The loop error atan2(y, x) rounded to single precision (R97); of operands that have no angle it is a free value. -/
def loopError (y x : Word) : Word :=
  match ofSingle y, ofSingle x with
  | .fin b n, .fin a _ =>
    let ya := if b < 0 then -b else b
    let xa := if a < 0 then -a else a
    if a = 0 ∧ b = 0 then Config.atan2 y x
    else
      let r := if ya ≤ xa then atanUnit (ya / xa) else piRat / 2 - atanUnit (xa / ya)
      let r := if a < 0 then piRat - r else r
      toSingle (if b < 0 ∨ (b = 0 ∧ n) then -r else r)
  | _, _ => Config.atan2 y x

/-! ### Samples (R91, R92) -/

/-- The channel of role `i`: 0 to 2 the phase voltages, 3 to 5 the phase currents. -/
def State.setChan (s : State) (k i : Nat) : Nat :=
  s.get ⟨if i < 3 then R.WVN_SETs_CHV k else R.WVN_SETs_CHI k, 8 * (i % 3), 7⟩

/-- The set takes an intake value in role `i` (R91). -/
def State.roleTakes (s : State) (k i : Nat) (v : Conv) : Bool :=
  s.setChan k i == v.chan && (i < 3 || s.on (F.WVN_SETs_CFG_CUR_EN k))

/-- A value's code as a set takes it: a single-ended one less 32,768 (R91). -/
def Conv.setCode (v : Conv) : Int := if v.diff then v.value else v.value - 32768

/-- A value converted for role `i`: its code over VNOM or INOM, 0 counting as 1 (R91). -/
def State.setValue (s : State) (k i : Nat) (v : Conv) : Word :=
  toSingle ((v.setCode : Rat) / (max 1 (s.get (if i < 3 then F.WVN_SETs_NOM_VNOM k else F.WVN_SETs_NOM_INOM k)) : Nat))

/-- Sum and count of each role with a value taken in (R91, R92). -/
def State.setAdd (s : State) (k : Nat) (v : Conv) (l : List (Word × Nat)) : List (Word × Nat) :=
  (List.range 6).zipWith (fun r (x : Word × Nat) =>
    if s.roleTakes k r v && !v.opened && !v.bad then (sAdd x.1 (s.setValue k r v), x.2 + 1) else x) l

/-- One set takes an intake value, or marks a sample late (R92). -/
def State.setTake (s : State) (v : Conv) (k : Nat) : State :=
  let falls := fun (e : Nat) => decide (v.stamp < e ∧ e ≤ v.stamp + 5000)
  if s.setOn k && (List.range 6).any (fun r => s.roleTakes k r v) then
    if v.stamp / 5000 = s.wvn.interval then s.modSet k (fun x => { x with acc := s.setAdd k v x.acc })
    else match s.wvn.ended with
      | some e =>
        if falls e then
          (if s.count ≤ e + 64 then s.modSet k (fun x => { x with endAcc := s.setAdd k v x.endAcc })
           else s.modSet k (fun x => { x with endLate := true }))
        else s
      | none =>
        if (s.wset k).seen && falls (s.wset k).lastEnd then
          (s.modSet k (fun x => { x with lastLate := true })).set1 (F.WVN_SETs_STAT_LATE k)
        else s
  else s

/-- Every set takes an intake value. -/
def State.wvnTake (s : State) (v : Conv) : State := s.forAll 4 (fun k t => t.setTake v k)

/-- The end of a sample interval (R92). What R94 holds at this instant is noted: STATE, SHD_FREQ, ZRE and ZIM. -/
def State.sampleEnd (s : State) : State :=
  if s.coreRuns && s.count % 5000 == 0 && s.wvn.interval < s.count / 5000 then
    let t := s.modWvn (fun w => { w with
      interval := s.count / 5000
      ended := some s.count
      sets := w.sets.map (fun x => { x with
        acc := List.replicate 6 (0, 0), endAcc := x.acc, endLate := false, endFreq := x.shdFreq, endZ := (x.zre, x.zim) }) })
    t.forAll 4 (fun k u => u.modSet k (fun x => { x with endState := s.rd (R.WVN_SETs_STAT k) }))
  else s

/-- A phase sample in per-unit: the mean of the valid values (R91, R92). -/
def State.phaseSample (s : State) (k i : Nat) : Word :=
  let (sum, n) := nth (s.wset k).endAcc i (0, 0)
  if n = 0 then 0 else sDiv sum (sNat n)

/-- Three roles from `i` on have each a valid value. -/
def State.partValid (s : State) (k i : Nat) : Bool :=
  [i, i + 1, i + 2].all (fun r => (nth (s.wset k).endAcc r (0, 0)).2 != 0)

/-- A change that sample `k` itself causes shows in what R94 latches of the sample; a change by anything else after the end of its
interval does not. -/
def State.sampled (s : State) (k : Nat) (f : State → State) : State :=
  let t := f s
  let old := s.rd (R.WVN_SETs_STAT k)
  let new := t.rd (R.WVN_SETs_STAT k)
  let d := old ^^^ new
  let moved := (s.wset k).shdFreq ≠ (t.wset k).shdFreq
  t.modSet k (fun x => { x with
    keepState := (x.keepState &&& ~~~d) ||| (new &&& d)
    keepFreq := if moved then x.shdFreq else x.keepFreq })

/-! ### The loop (R97 to R101) -/

/-- |e| reaches an angle of `n` units, `per` of them to half a turn. -/
def errAtLeast (e : Word) (n per : Nat) : Bool :=
  match ofSingle e with
  | .fin _ _ => !sLt (sAbs e) (toSingle ((n : Rat) * piRat / (per : Rat)))
  | _ => false

/-- A degree field: 0 counts as 1, above 60 as 60. -/
def degField (n : Nat) : Nat := max 1 (min 60 n)

/-- The amplitude-invariant Clarke transform of three phase samples (R101). DEDUCED: log entry 13. -/
def phaseClarke (a b c : Word) : Word × Word :=
  (sDiv (sSub (sSub (sMul (sNat 2) a) b) c) (sNat 3), sDiv (sSub b c) (sSqrt (sNat 3)))

/-- The decoupled positive sequence in the frame at +θ and negative sequence in the frame at −θ, d and q of each: each frame less
what the other's filtered sequence puts into it (R97, R101). -/
def frames (theta : Rat) (ab : Word × Word) (filt : List Word) : List Word :=
  let sc := unitAt theta
  let sc2 := unitAt (2 * theta)
  let p := turnBack sc ab
  let n := turnBack (sNeg sc.1, sc.2) ab
  let fromN := turnBack sc2 (nth filt 2 0, nth filt 3 0)
  let fromP := turnBack (sNeg sc2.1, sc2.2) (nth filt 0 0, nth filt 1 0)
  [sSub p.1 fromN.1, sSub p.2 fromN.2, sSub n.1 fromP.1, sSub n.2 fromP.2]

/-- The corner ω/√2 of the decoupling filters, in radians a second, at a tracked frequency in Hz (R97). -/
def cornerOf (freq : Word) : Word := sDiv (sMul (toSingle (2 * piRat)) freq) (sSqrt (sNat 2))

/-- The part of its input that a filter of this corner takes in at a sample of 1/80,000 s: a free value from the backward to the forward difference
of the filter's equation, between which the exact step lies (R97 gives no discrete-time form). DESIGN CHOICE: log entry 21. -/
def cornerPart (corner : Word) : Word :=
  let a := sDiv corner (sNat 80000)
  let lo := sDiv a (sAdd (sNat 1) a)
  let w := Config.wvnPart corner
  if sLt lo w && sLt w a then w else lo

/-- The decoupling filters, each of the first order, take new inputs (R97). -/
def filterStep (freq : Word) (new old : List Word) : List Word :=
  let w := cornerPart (cornerOf freq)
  new.zipWith (fun x y => sAdd y (sMul w (sSub x y))) old

/-- The gains of the proportional-integral loop of natural frequency BW and damping 0.707 with FREQ in Hz and e in radians (R97):
2 × 0.707 × ωn / 2π for e, and ωn² / 2π for its integral, over a sample of 1/80,000 s. -/
def propGain (bw : Nat) : Word := sMul (toSingle (1414 / 1000)) (sNat bw)
def integGain (bw : Nat) : Word := sDiv (sMul (toSingle (2 * piRat)) (sNat (bw * bw))) (sNat 80000)

/-- RWIN in ms, 5 to 500. -/
def State.rwin (s : State) (k : Nat) : Nat := max 5 (min 500 (s.get (F.WVN_SETs_ISLR_RWIN k)))

/-- ROCOF from FREQ of this sample and earlier ones, newest first, the last of them FNOM at the start; RWIN is in ms (R99). -/
def State.rocofOf (s : State) (k : Nat) (freqs : List Word) : Word :=
  if 80 * s.rwin k < freqs.length then
    sDiv (sMul (sSub (nth freqs 0 0) (nth freqs (80 * s.rwin k) 0)) (sNat 1000)) (sNat (s.rwin k))
  else 0

/-- Clear LOCKED, with event 0x48 + k when it was set; the counts for a lock begin again (R98, R102). DESIGN CHOICE: log entry 21. -/
def State.unlock (s : State) (k : Nat) : State :=
  let s := s.modSet k (fun x => { x with lockRun := 0, unlockRun := 0 })
  if s.on (F.WVN_SETs_STAT_LOCKED k) then
    (((s.modSet k (fun x => { x with points := [], prevPhase := none })).clr (F.WVN_SETs_STAT_LOCKED k)).clr
      (F.WVN_SETs_STAT_HARM_VALID k)).raise (0x48 + k)
  else s

/-- LOCK_N, 0 counting as 1. -/
def State.lockN (s : State) (k : Nat) : Nat := max 1 (s.get (F.WVN_SETs_LOCK_LOCK_N k))

/-- JN, 0 counting as 16. -/
def State.jumpN (s : State) (k : Nat) : Nat :=
  if s.get (F.WVN_SETs_JUMP_JN k) = 0 then 16 else s.get (F.WVN_SETs_JUMP_JN k)

/-- A field of 4 bits in which 0 counts as 16. -/
def zero16 (n : Nat) : Nat := if n = 0 then 16 else n

/-- One more in a row, or none. -/
def run (b : Bool) (n : Nat) : Nat := if b then n + 1 else 0

/-! ### Harmonics (R102) -/

/-- The points of 1/256 turn that lie after angle `a` and up to `gap` turns on, with the values that a line between two samples gives
there, oldest first; where the angle has moved back, none. -/
def resample (a gap : Rat) (old new : List Word) : List (List Word) :=
  if 1 / 2 < gap then [] else
  let first := (a * 256).floor.toNat
  let last := ((a + gap) * 256).floor.toNat
  (List.range (last - first)).map (fun i =>
    let part := toSingle ((((first + 1 + i : Nat) : Rat) / 256 - a) / gap)
    old.zipWith (fun x y => sAdd x (sMul (sSub y x) part)) new)

/-- While LOCKED, a valid sample gives the DFT bank its points; `theta` is the angle of the sample (R102). -/
def State.harmTake (s : State) (k : Nat) (theta : Rat) : State :=
  let now := [0, 1, 2].map (s.phaseSample k)
  if s.on (F.WVN_SETs_STAT_LOCKED k) then
    s.modSet k (fun x => { x with
      prevPhase := some (theta, now)
      points := match x.prevPhase with
        | some (a, old) => ((resample a (fracTurn (theta - a)) old now).reverse ++ x.points).take 256
        | none => x.points })
  else s

/-- The amplitude of harmonic `h` that the bank holds for a phase: the DFT of its last 256 points (R102). -/
def harmAmp (points : List Word) (h : Nat) : Word :=
  let terms := points.zipIdx.map (fun (x, i) =>
    let sc := trigTurns (BitVec.ofNat 32 (h * i % 256 * 2 ^ 24))
    (sMul x (toSingle sc.2), sMul x (toSingle sc.1)))
  sDiv (hypot (sSum (terms.map (·.1))) (sSum (terms.map (·.2)))) (sNat (if h = 0 then 256 else 128))

/-- The harmonic table of three phases (R102). -/
def harmTable (points : List (List Word)) : List Word :=
  (List.range 192).map (fun i => harmAmp (points.map (fun p => nth p (i / 64) 0)) (i % 64))

/-- THD of a phase: √(Σ H_h², h = 2 to 63) / H_1, and 0 when H_1 is below 0.05 (R102). -/
def thdOf (table : List Word) (p : Nat) : Word :=
  let h := fun i => nth table (64 * p + i) 0
  if (ofSingle (h 1)).lt (.ofRat (1 / 20)) then 0
  else sDiv (sSqrt (sSum ((List.range 62).map (fun i => sMul (h (i + 2)) (h (i + 2)))))) (h 1)

/-- ANGLE advances from `before` by `d` turns: when it passes a whole turn forwards while LOCKED, the bank's state is published (R102). -/
def State.harmPublish (s : State) (k : Nat) (before d : Rat) : State :=
  if s.on (F.WVN_SETs_STAT_LOCKED k) && 1 ≤ before + d then
    let t := harmTable (s.wset k).points
    (s.modSet k (fun x => { x with harm := t, thd := [thdOf t 0, thdOf t 1, thdOf t 2] })).set1 (F.WVN_SETs_STAT_HARM_VALID k)
  else s

/-! ### One sample of the loop -/

/-- BW in Hz, 5 to 100. -/
def State.loopBw (s : State) (k : Nat) : Nat := max 5 (min 100 (s.get (F.WVN_SETs_CFG_BW k)))

/-- The current part of the sample is valid and in use (R92, R101). -/
def State.currentsIn (s : State) (k : Nat) : Bool := s.on (F.WVN_SETs_CFG_CUR_EN k) && s.partValid k 3

/-- The frames, the error and the loop at a valid sample: sequence components, COAST, RANGE, FREQ and ANGLE (R97, R101). The loop's integral
stands where FREQ is clamped, and ANGLE advances by the integral and the proportional part. DESIGN CHOICE: log entry 21. -/
def State.loopStep (s : State) (k : Nat) : State :=
  let x := s.wset k
  let theta := fracTurn (x.angle + turnsIn x.freq Config.wvnPoint)
  let v := frames theta (phaseClarke (s.phaseSample k 0) (s.phaseSample k 1) (s.phaseSample k 2)) x.filtV
  let i := frames theta (phaseClarke (s.phaseSample k 3) (s.phaseSample k 4) (s.phaseSample k 5)) x.filtI
  let err := loopError (nth v 1 0) (nth v 0 0)
  let vpos := hypot (nth v 0 0) (nth v 1 0)
  let coast := (ofSingle vpos).lt (.ofRat (1 / 10))
  let prop := sMul (propGain (s.loopBw k)) err
  let sum := sAdd x.integ (sMul (integGain (s.loopBw k)) err)
  let integ := if coast then x.integ else clampFreq sum
  let raw := if coast then x.freq else if Config.wvnFreqWhole then sAdd sum prop else sum
  let range := !coast && freqOut raw
  let freq := if coast then x.freq else clampFreq raw
  let rate := if coast || Config.wvnFreqWhole then freq else sAdd freq prop
  let angle := fracTurn (x.angle + turnsIn rate 5000)
  let useI := s.currentsIn k
  let t := s.modSet k (fun y => { y with
    seqV := v, filtV := filterStep x.freq v y.filtV
    seqI := if useI then i else y.seqI
    filtI := if useI then filterStep x.freq i y.filtI else y.filtI
    theta := theta, err := err, vpos := vpos, integ := integ, freq := freq, angle := angle })
  let t := (t.putB (F.WVN_SETs_STAT_COAST k) coast).putB (F.WVN_SETs_STAT_RANGE k) range
  let t := (if range then t.unlock k else t).harmTake k theta
  t.harmPublish k x.angle (turnsIn rate 5000)

/-- The consecutive samples that R98, R100, R105 and R113 count, at a valid sample, and VMAG (R101). -/
def State.countRuns (s : State) (k : Nat) : State :=
  let err := (s.wset k).err
  let ab := phaseClarke (s.phaseSample k 0) (s.phaseSample k 1) (s.phaseSample k 2)
  let vmags := (hypot ab.1 ab.2 :: (s.wset k).vmags).take (zero16 (s.get (F.WVN_SETs_FRT_FILT_N k)))
  let vmag := meanSingle vmags
  let v := singleRat vmag
  let out := v < perUnit (s.get (F.WVN_SETs_FRTB_LO k)) || perUnit (s.get (F.WVN_SETs_FRTB_HI k)) < v
  let inside := perUnit (s.get (F.WVN_SETs_FRTR_LO k)) ≤ v && v ≤ perUnit (s.get (F.WVN_SETs_FRTR_HI k))
  let jthr := degField (s.get (F.WVN_SETs_JUMP_JTHR k))
  let inLock := !errAtLeast err (max 1 (s.get (F.WVN_SETs_LOCK_LOCKWIN k))) 1800
  s.modSet k (fun y =>
    let quiet := run (!errAtLeast err jthr 360) y.quietRun
    { y with
      vmags := vmags, vmag := vmag, lossRun := 0, sampleValid := true
      lockRun := if s.on (F.WVN_SETs_STAT_RANGE k) then 0 else run inLock y.lockRun
      unlockRun := run (!inLock) y.unlockRun
      jumpRun := run (errAtLeast err jthr 180) y.jumpRun
      quietRun := quiet, jumpArmed := y.jumpArmed || s.jumpN k ≤ quiet
      vsRun := run (errAtLeast err (degField (s.get (F.WVN_SETs_JUMP_VS_THR k))) 180) y.vsRun
      frtRunStart := if out && y.frtOut == 0 then y.lastEnd else y.frtRunStart
      frtOut := run out y.frtOut, frtIn := run inside y.frtIn })

/-- A valid sample (R93, R97, R101). -/
def State.loopValid (s : State) (k : Nat) : State :=
  let t := (s.set1 (F.WVN_SETs_STAT_VALID k)).loopStep k
  (t.putB (F.WVN_SETs_STAT_CURR_VALID k) (s.currentsIn k)).countRuns k

/-- An invalid sample: integrators and frequencies held, angles advance, nothing new taken in, runs of consecutive samples broken (R93). -/
def State.loopInvalid (s : State) (k : Nat) : State :=
  let x := s.wset k
  let angle := fracTurn (x.angle + turnsIn x.freq 5000)
  let t := s.modSet k (fun y => { y with
    angle := angle, lossRun := y.lossRun + 1, sampleValid := false, prevPhase := none
    lockRun := 0, unlockRun := 0, jumpRun := 0, quietRun := 0, vsRun := 0 })
  (t.putB (F.WVN_SETs_STAT_CURR_VALID k) (s.currentsIn k)).harmPublish k x.angle (turnsIn x.freq 5000)

/-! ### Islanding (R105 to R107) -/

/-- One more sample for which a pickup has stood. -/
def held (b : Bool) (n : Option Nat) : Option Nat := if b then some (match n with | some i => i + 1 | none => 0) else none

/-- FREQ relative to FNOM lies outside the frequency window (R105). -/
def State.freqPick (s : State) (k : Nat) : Bool :=
  let edge := fun (fld : Fld) => sAdd (sNat (s.fnom k)) (toSingle ((s.getI fld : Rat) / 100))
  sLt (s.wset k).freq (edge (F.WVN_SETs_ISLF_FLO k)) || sLt (edge (F.WVN_SETs_ISLF_FHI k)) (s.wset k).freq

/-- The voltage window's raw condition, held at 0 in DISTURBED and RIDE (R105). -/
def State.voltPick (s : State) (k : Nat) : Bool :=
  let frt := s.get (F.WVN_SETs_STAT_FRT k)
  let vp := (s.wset k).vpos
  s.on (F.WVN_SETs_ISLA_USE_V k) && frt != 1 && frt != 2 &&
    (sLt vp (toSingle (perUnit (s.get (F.WVN_SETs_ISLV_LO k)))) || sLt (toSingle (perUnit (s.get (F.WVN_SETs_ISLV_HI k)))) vp)

/-- The pickups of a sample (R105). PU_VS holds VS_HOLD from the sample that ends the run's first JN samples, as the section's example has it.
DEDUCED: log entry 13. -/
def State.pickups (s : State) (k : Nat) : State :=
  let x := s.wset k
  let valid := s.on (F.WVN_SETs_STAT_VALID k)
  let puV := s.voltPick k
  let puF := s.on (F.WVN_SETs_ISLA_USE_F k) && valid && s.freqPick k
  let puR := s.on (F.WVN_SETs_ISLA_USE_R k) && valid && sLt (toSingle ((s.get (F.WVN_SETs_ISLR_RLIM k) : Rat) / 100)) (sAbs x.rocof)
  let hit := s.on (F.WVN_SETs_ISLA_USE_VS k) && valid && x.vsRun == s.jumpN k && x.sampleValid
  let puVS := s.on (F.WVN_SETs_ISLA_USE_VS k) && valid && (hit || s.on (F.WVN_SETs_STAT_PU_VS k))
  let t := (s.putB (F.WVN_SETs_STAT_PU_V k) puV).putB (F.WVN_SETs_STAT_PU_F k) puF
  let t := (t.putB (F.WVN_SETs_STAT_PU_R k) puR).putB (F.WVN_SETs_STAT_PU_VS k) puVS
  t.modSet k (fun y => { y with
    heldV := held puV y.heldV, heldF := held puF y.heldF, heldR := held puR y.heldR
    vsEnd := if hit then y.lastEnd + 400000 * s.get (F.WVN_SETs_JUMP_VS_HOLD k) else y.vsEnd })

/-- A pickup has stood for a hold time in ms. -/
def heldFor (n : Option Nat) (ms : Nat) : Bool := match n with | some i => 80 * ms ≤ i | none => false

/-- The criteria whose declaring condition holds, as ISL_CAUSE bits (R106). -/
def State.islandCause (s : State) (k : Nat) : Nat :=
  let x := s.wset k
  let vs := s.on (F.WVN_SETs_STAT_PU_VS k)
  let rvs := s.on (F.WVN_SETs_ISLA_RVS k)
  let r := heldFor x.heldR (s.get (F.WVN_SETs_ISLT_T_R k)) && (vs || !rvs)
  bit1 (heldFor x.heldV (s.get (F.WVN_SETs_ISLT_T_V k))) + 2 * bit1 (heldFor x.heldF (s.get (F.WVN_SETs_ISLT_T_F k))) +
    4 * bit1 r + 8 * bit1 (vs && (!rvs || r)) + 16 * bit1 (s.on (F.WVN_SETs_STAT_PU_ACT k))

/-- Any pickup bit is 1. -/
def State.anyPickup (s : State) (k : Nat) : Bool := s.get ⟨R.WVN_SETs_STAT k, 13, 5⟩ != 0

/-- The ride-through state takes a value, with event 0x44 + k when it changes and 0x4C on TRIP (R113); DISTURBED and RIDE hold PU_V and
its timer at 0, and in the sample that leaves them PU_V shows its condition again (R105). -/
def State.frtTo (s : State) (k dest : Nat) : State :=
  let t := (s.put (F.WVN_SETs_STAT_FRT k) dest).putBit R.WVN_STAT (8 + k) (dest == 4)
  let t := t.modSet k (fun x => { x with frtEntry := x.lastEnd, frtMoved := true })
  let old := s.get (F.WVN_SETs_STAT_FRT k)
  let t := if dest = 1 ∨ dest = 2 ∨ old = 1 ∨ old = 2 then
      (t.modSet k (fun x => { x with heldV := held (t.voltPick k) none })).putB (F.WVN_SETs_STAT_PU_V k) (t.voltPick k) else t
  let t := if s.get (F.WVN_SETs_STAT_FRT k) = dest then t else t.raise (0x44 + k)
  if dest = 4 then t.raise 0x4C else t

/-! ### The shadow oscillator (R103, R104) -/

/-- Advance the shadow's angle to a COUNT at its frequency. -/
def State.shadowTo (s : State) (k c : Nat) : State :=
  s.modSet k (fun x =>
    if x.shdAt < c then { x with shdAngle := fracTurn (x.shdAngle + turnsIn x.shdFreq (c - x.shdAt)), shdAt := c } else x)

/-- The shadow's moves that follow from pickups, the ride-through state and ISLAND (R103); after a clear of ISLAND the return to TRACK is
by RESYNC (R109). -/
def State.shadowHold (s : State) (k : Nat) : State :=
  let calm := !s.anyPickup k && s.get (F.WVN_SETs_STAT_FRT k) == 0
  match s.get (F.WVN_SETs_STAT_SHD k) with
  | 0 => if calm then s else s.put (F.WVN_SETs_STAT_SHD k) 1
  | 1 =>
    if calm && !s.on (F.WVN_SETs_STAT_ISLAND k) && !(s.wset k).byResync then s.put (F.WVN_SETs_STAT_SHD k) 0 else s
  | _ => s

/-- The distance of two angles in turns, 0 to a half. -/
def turnGap (a b : Rat) : Rat := let d := fracTurn (a - b); if 1 / 2 < d then 1 - d else d

/-- SLEW in Hz (R103). -/
def State.slew (s : State) (k : Nat) : Word := toSingle ((max 1 (min 100 (s.get (F.WVN_SETs_SHD_SLEW k))) : Nat) / 100)

/-- The shadow over one sample (R103): its angle advances at its frequency. In TRACK its frequency follows by a type-2 loop of bandwidth
SHD.BW, in RESYNC it is steered within FREQ ± SLEW; the discrete-time forms are free functions of their inputs, and at an invalid sample the
frequency is held (R93). DESIGN CHOICE: log entry 21. -/
def State.shadowSample (s : State) (k : Nat) : State :=
  let t := s.shadowTo k (s.wset k).lastEnd
  let x := t.wset k
  let gap := turnWord (x.angle - x.shdAngle)
  match s.get (F.WVN_SETs_STAT_SHD k) with
  | 0 =>
    if x.sampleValid then
      let bw := max 1 (min 10 (s.get (F.WVN_SETs_SHD_BW k)))
      t.modSet k (fun y => { y with shdFreq := clampFreq (Config.shdTrack bw gap x.freq x.shdFreq) })
    else t
  | 3 =>
    let near := turnGap x.shdAngle x.angle * 720 < 1
    let u := t.modSet k (fun y => { y with resyncRun := run near y.resyncRun })
    if x.sampleValid then
      let held := sClamp (sSub x.freq (s.slew k)) (sAdd x.freq (s.slew k)) (Config.shdResync gap x.freq)
      u.modSet k (fun y => { y with shdFreq := clampFreq held })
    else u
  | _ => t

/-- A committed steer word (R104). -/
def State.steer (s : State) (k : Nat) (w : Word) : State :=
  let t := s.shadowTo k s.count
  let take := fun (u : State) => match ofSingle w with
    | .nan => u.modSet k (fun x => { x with shdFreq := clampFreq (Config.nanFreq w) })
    | _ => u.modSet k (fun x => { x with shdFreq := clampFreq w })
  match s.get (F.WVN_SETs_STAT_SHD k) with
  | 1 => if s.on (F.WVN_SETs_STAT_ISLAND k) then (take t).put (F.WVN_SETs_STAT_SHD k) 2 else s
  | 2 => take t
  | _ => s.set1 (F.WVN_SETs_STAT_STEER_IGN k)

/-! ### The injection (R107, R108) -/

/-- INJ_ANGLE, truncated to UQ0.32 (R108). -/
def State.injAngle (s : State) (k : Nat) : Word :=
  BitVec.ofNat 32 (s.count * s.finj k % 1600000000 * 2 ^ 32 / 1600000000)

/-- INJ_AMP (R108). -/
def State.injAmp (s : State) (k : Nat) : Word :=
  if s.on (F.WVN_SETs_ISLA_USE_ACT k) then toSingle ((s.get (F.WVN_SETs_INJ_AMP k) : Rat) / 65536) else 0

/-- ACT_N: 0 counts as 16, 1 as 2. -/
def State.actN (s : State) (k : Nat) : Nat :=
  let n := s.get (F.WVN_SETs_ISLA_ACT_N k)
  if n = 0 then 16 else max 2 n

/-! ### Output of a sample (R93) -/

/-- COUNT at which the values of the last sample stand. -/
def SetSt.point (x : SetSt) : Nat := x.lastEnd - 5000 + Config.wvnPoint

/-- A valid sample enters the components at FINJ of the running injection period (R107). DEDUCED: log entry 13. -/
def State.injTake (s : State) (k : Nat) : State :=
  let x := s.wset k
  let bad := !s.on (F.WVN_SETs_STAT_CURR_VALID k)
  if x.sampleValid then
    let sc := unitAt (((x.point * s.finj k % 1600000000 : Nat) : Rat) / 1600000000 - x.theta)
    let v := turnBack sc (nth x.seqV 0 0, nth x.seqV 1 0)
    let i := turnBack sc (nth x.seqI 0 0, nth x.seqI 1 0)
    s.modSet k (fun y => { y with inj := {
      bad := y.inj.bad || bad, n := y.inj.n + 1
      vr := sAdd y.inj.vr v.1, vi := sAdd y.inj.vi v.2, ir := sAdd y.inj.ir i.1, ii := sAdd y.inj.ii i.2 } })
  else s.modSet k (fun y => { y with inj := { y.inj with bad := y.inj.bad || bad } })

/-- Process the ended sample of set `k`, whose interval ended at COUNT `e` (R93). DESIGN CHOICE: log entry 21. -/
def State.setSample (s : State) (e k : Nat) : State :=
  let t := s.modSet k (fun x => { x with
    seen := true, lastEnd := e, lastLate := x.endLate, lateSince := x.lateSince || x.endLate, frtMoved := false })
  let t := if (s.wset k).endLate then t.set1 (F.WVN_SETs_STAT_LATE k) else t
  let t := if s.partValid k 0 then t.loopValid k else t.loopInvalid k
  let t := t.modSet k (fun x =>
    let fs := (x.freq :: x.freqs).take (80 * t.rwin k + 1)
    { x with freqs := fs, rocof := t.rocofOf k fs })
  ((((t.injTake k).pickups k).shadowHold k).shadowSample k)

/-- Process the ended sample of every set that runs, 2,048 cycles after its interval (R93). -/
def State.sampleOutput (s : State) : State :=
  match s.wvn.ended with
  | some e =>
    if s.coreRuns && s.due (e + 2048) then
      (s.forAll 4 (fun k t =>
        if t.setOn k then
          (t.modSet k (fun x => { x with keepState := x.endState, keepFreq := x.endFreq, keepZ := x.endZ })).sampled k (·.setSample e k)
        else t)).modWvn (fun w => { w with ended := none })
    else s
  | none => s

/-! ### Events of a sample -/

/-- LOCKED sets or clears by its counts (R98). -/
def State.wvnLock (s : State) (k : Nat) : State :=
  let x := s.wset k
  if s.setOn k then
    if s.on (F.WVN_SETs_STAT_LOCKED k) then (if (s.lockN k + 3) / 4 ≤ x.unlockRun then s.unlock k else s)
    else if s.lockN k ≤ x.lockRun && !s.on (F.WVN_SETs_STAT_RANGE k) then s.set1 (F.WVN_SETs_STAT_LOCKED k) else s
  else s

/-- VALID clears after LOSS_N invalid samples, LOCKED with it, and the pickups that it inhibits (R93, R98, R105). -/
def State.validLoss (s : State) (k : Nat) : State :=
  if s.setOn k && s.on (F.WVN_SETs_STAT_VALID k) && max 1 (s.get (F.WVN_SETs_CFG_LOSS_N k)) ≤ (s.wset k).lossRun then
    let t := (s.clr (F.WVN_SETs_STAT_VALID k)).unlock k
    let t := t.modSet k (fun x => { x with heldF := none, heldR := none })
    (((t.clr (F.WVN_SETs_STAT_PU_F k)).clr (F.WVN_SETs_STAT_PU_R k)).clr (F.WVN_SETs_STAT_PU_VS k)).shadowHold k
  else s

/-- A phase jump (R100). -/
def State.phaseJump (s : State) (k : Nat) : State :=
  let x := s.wset k
  if s.setOn k && x.jumpArmed && s.jumpN k ≤ x.jumpRun then
    let reseed := s.on (F.WVN_SETs_CFG_RESEED k)
    let t := s.modSet k (fun y => { y with
      jump := y.err, jumpArmed := false, quietRun := 0
      prevPhase := if reseed then none else y.prevPhase
      angle := if reseed then fracTurn (y.angle + singleRat y.err / (2 * piRat)) else y.angle })
    let t := if reseed then t.harmPublish k x.angle (singleRat x.err / (2 * piRat)) else t
    ((t.set1 (F.WVN_SETs_STAT_JUMP k)).incS (F.WVN_SETs_CNT_JUMPS k)).raise (0x48 + k)
  else s

/-- A host's RESYNC request (R103). -/
def State.resync (s : State) (k : Nat) : State :=
  let st := s.get (F.WVN_SETs_STAT_SHD k)
  if s.on (F.WVN_SETs_STAT_ISLAND k) || !s.on (F.WVN_SETs_STAT_LOCKED k) then s.set1 (F.WVN_SETs_STAT_CLR_REF k)
  else if st = 1 ∨ st = 2 then
    ((s.shadowTo k s.count).modSet k (fun x => { x with resyncRun := 0, byResync := false })).put (F.WVN_SETs_STAT_SHD k) 3
  else s

/-- RESYNC is complete (R103). -/
def State.resyncDone (s : State) (k : Nat) : State :=
  if s.setOn k && s.get (F.WVN_SETs_STAT_SHD k) == 3 && s.lockN k ≤ (s.wset k).resyncRun then
    (s.put (F.WVN_SETs_STAT_SHD k) 0).shadowHold k
  else s

/-- PU_VS clears at the output of the first sample that ends VS_HOLD or more after the run that set it (R93, R105). -/
def State.vsHoldEnd (s : State) (k : Nat) : State :=
  if s.setOn k && s.on (F.WVN_SETs_STAT_PU_VS k) && (s.wset k).vsEnd ≤ (s.wset k).lastEnd then
    (s.clr (F.WVN_SETs_STAT_PU_VS k)).shadowHold k
  else s

/-- ISLAND is declared (R106, R109). -/
def State.islandDeclare (s : State) (k : Nat) : State :=
  let cause := s.islandCause k
  if s.setOn k && !s.on (F.WVN_SETs_STAT_ISLAND k) && cause != 0 then
    let t := (s.set1 (F.WVN_SETs_STAT_ISLAND k)).wr (R.WVN_SETs_ISL_STAMP k) (BitVec.ofNat 32 (s.wset k).lastEnd)
    let t := (t.put (F.WVN_SETs_ISL_CAUSE_CAUSE k) cause).putBit R.WVN_STAT (4 + k) true
    ((t.put (F.WVN_SETs_STAT_FRT k) 0).putBit R.WVN_STAT (8 + k) false).raise (0x40 + k)
  else s

/-- A component over some injection periods: the mean of what they gathered (R107). -/
def injMean (ps : List InjSum) (f : InjSum → Word) : Word :=
  sDiv (sSum (ps.map f)) (sNat ((ps.map (·.n)).foldl (· + ·) 0))

/-- An invalid estimate (R107): CURR_VALID was 0 in a sample, or |I_h| lies below 0.001. -/
def injInvalid (ps : List InjSum) : Bool :=
  ps.any (·.bad) || ps.all (fun p => p.n == 0) || (ofSingle (hypot (injMean ps (·.ir)) (injMean ps (·.ii)))).lt (.ofRat (1 / 1000))

/-- The end of an injection period: the impedance estimate over the last ACT_N of them; a part of a period, which did not begin at a wrap, is none
(R105, R107). -/
def State.activeEstimate (s : State) (k : Nat) : State :=
  let x := s.wset k
  if s.setOn k && s.on (F.WVN_SETs_ISLA_USE_ACT k) && x.wraps < s.injWraps k then
    let ps := (x.inj :: x.periods).take (s.actN k)
    let t := s.modSet k (fun y => { y with
      wraps := s.injWraps k, inj := {}, injWhole := true, periods := if x.injWhole then ps else y.periods })
    if !x.injWhole || ps.length < s.actN k then t
    else if injInvalid ps then
      ((t.modSet k (fun y => { y with actRun := 0 })).clr (F.WVN_SETs_STAT_PU_ACT k)).shadowHold k
    else
      let vr := injMean ps (·.vr)
      let vi := injMean ps (·.vi)
      let ir := injMean ps (·.ir)
      let ii := injMean ps (·.ii)
      let i2 := sAdd (sMul ir ir) (sMul ii ii)
      let zre := sDiv (sAdd (sMul vr ir) (sMul vi ii)) i2
      let zim := sDiv (sSub (sMul vi ir) (sMul vr ii)) i2
      let n := run ((Flt.ofRat ((s.get (F.WVN_SETs_ISLA_ZLIM k) : Rat) / 64)).lt (ofSingle (hypot zre zim))) x.actRun
      let conf := max 1 (min 8 (s.get (F.WVN_SETs_ISLA_ACT_CONF k)))
      let t := t.modSet k (fun y => { y with zre := zre, zim := zim, actRun := n })
      (t.putB (F.WVN_SETs_STAT_PU_ACT k) (conf ≤ n)).shadowHold k
  else s

/-- A write of CLR clears ISLAND only while every pickup is 0; the shadow then leaves HOLD by RESYNC (R109). -/
def State.islandClear (s : State) (k : Nat) : State :=
  if s.anyPickup k then s.set1 (F.WVN_SETs_STAT_CLR_REF k)
  else
    let t := (s.clr (F.WVN_SETs_STAT_ISLAND k)).putBit R.WVN_STAT (4 + k) false
    if s.on (F.WVN_SETs_STAT_ISLAND k) then t.modSet k (fun x => { x with byResync := x.byResync || s.get (F.WVN_SETs_STAT_SHD k) == 1 })
    else t

/-! ### Ride-through (R112 to R114) -/

/-- The points of a profile, cut at the first whose time lies below the one before; whether it was cut (R114). -/
def cutProfile : List (Nat × Nat) → List (Nat × Nat) × Bool
  | [] => ([], false)
  | [p] => ([p], false)
  | p :: q :: rest => if q.1 < p.1 then ([p], true) else let (l, b) := cutProfile (q :: rest); (p :: l, b)

/-- The points of the low (`high` false) or high profile. -/
def State.profile (s : State) (k : Nat) (high : Bool) : List (Nat × Nat) :=
  (List.range (1 + s.get (if high then F.WVN_SETs_FRT2_NHV k else F.WVN_SETs_FRT2_NLV k))).map (fun i =>
    if high then (s.get (F.WVN_HVs_i_TIME k i), s.get (F.WVN_HVs_i_VOLT k i))
    else (s.get (F.WVN_LVs_i_TIME k i), s.get (F.WVN_LVs_i_VOLT k i)))

/-- The voltage of a cut profile at a time in 0.1 ms, in UQ2.14 units (R114). -/
def profileAt : List (Nat × Nat) → Word → Word
  | [], _ => 0
  | [p], _ => sNat p.2
  | p :: q :: rest, t =>
    if sLt t (sNat p.1) then sNat p.2
    else if sLt t (sNat q.1) then
      sAdd (sNat p.2) (sMul (sDiv (sSub t (sNat p.1)) (sSub (sNat q.1) (sNat p.1))) (sSub (sNat q.2) (sNat p.2)))
    else profileAt (q :: rest) t

/-- The compared quantity lies below LV(t) or above HV(t) (R114). -/
def State.breach (s : State) (k : Nat) : Bool :=
  let x := s.wset k
  let v := sMul (if s.on (F.WVN_SETs_FRT_SRC k) then x.vpos else x.vmag) (sNat 16384)
  let t := toSingle (((x.lastEnd - x.onset.getD 0 : Nat) : Rat) / 40000)
  sLt v (profileAt (cutProfile (s.profile k false)).1 t) || sLt (profileAt (cutProfile (s.profile k true)).1 t) v

/-- The ride-through detector works: enabled, not islanded, and no transition at this sample yet (R109, R113). -/
def State.frtWorks (s : State) (k : Nat) : Bool :=
  s.setOn k && s.on (F.WVN_SETs_FRT_EN k) && !s.on (F.WVN_SETs_STAT_ISLAND k) && !(s.wset k).frtMoved

/-- DET_N, 0 counting as 16. -/
def State.detN (s : State) (k : Nat) : Nat := zero16 (s.get (F.WVN_SETs_FRT_DET_N k))

/-- Entry into DISTURBED: direction, onset, its stamp and DIPS (R112, R113). -/
def State.disturbed (s : State) (k : Nat) : State :=
  let x := s.wset k
  let hi := perUnit (s.get (F.WVN_SETs_FRTB_HI k)) < singleRat x.vmag
  let t := s.modSet k (fun y => { y with onset := some y.frtRunStart })
  let t := (t.putB (F.WVN_SETs_STAT_FRT_DIR k) hi).wr (R.WVN_SETs_FRT_STAMP k) (BitVec.ofNat 32 x.frtRunStart)
  (t.incS (F.WVN_SETs_CNT_DIPS k)).frtTo k 1

/-- CONFIRM has elapsed since entry into DISTURBED. -/
def State.confirmed (s : State) (k : Nat) : Bool :=
  (s.wset k).frtEntry + 40000 * s.get (F.WVN_SETs_FRT_CONFIRM k) ≤ (s.wset k).lastEnd

/-- The transition that a valid sample causes, TRIP first (R113). -/
def State.frtTransition (s : State) (k : Nat) : State :=
  let x := s.wset k
  if s.frtWorks k && x.sampleValid then
    let t := match s.get (F.WVN_SETs_STAT_FRT k) with
      | 0 => if s.detN k ≤ x.frtOut then s.disturbed k else s
      | 1 => if s.breach k then s.frtTo k 4 else if s.detN k ≤ x.frtIn && !s.confirmed k then s.frtTo k 0 else s
      | 2 => if s.breach k then s.frtTo k 4 else if s.detN k ≤ x.frtIn then s.frtTo k 3 else s
      | 3 => if s.detN k ≤ x.frtOut then s.disturbed k else s
      | _ => s
    t.shadowHold k
  else s

/-- CONFIRM elapsed: DISTURBED to RIDE, unless the sample breaches a profile (R113). -/
def State.frtConfirm (s : State) (k : Nat) : State :=
  if s.frtWorks k && s.get (F.WVN_SETs_STAT_FRT k) == 1 && s.confirmed k && !((s.wset k).sampleValid && s.breach k) then
    s.frtTo k 2
  else s

/-- REC_TIME elapsed: RECOVER to NORMAL (R113). -/
def State.frtRecover (s : State) (k : Nat) : State :=
  if s.frtWorks k && s.get (F.WVN_SETs_STAT_FRT k) == 3 &&
      (s.wset k).frtEntry + 400000 * s.get (F.WVN_SETs_FRT2_REC_TIME k) ≤ (s.wset k).lastEnd then
    (s.frtTo k 0).shadowHold k
  else s

/-- A write of FRT.CLR leaves TRIP inside the recovery band (R113). -/
def State.frtClear (s : State) (k : Nat) : State :=
  if s.get (F.WVN_SETs_STAT_FRT k) = 4 then
    let v := singleRat (s.wset k).vmag
    if perUnit (s.get (F.WVN_SETs_FRTR_LO k)) ≤ v && v ≤ perUnit (s.get (F.WVN_SETs_FRTR_HI k)) then
      (s.frtTo k 0).shadowHold k
    else s.set1 (F.WVN_SETs_STAT_CLR_REF k)
  else s

/-! ### Start and latch (R94 to R96) -/

/-- A set starts in its power-up state. -/
def State.setStart (s : State) (k : Nat) : State :=
  let f := toSingle (s.fnom k)
  let cut := (cutProfile (s.profile k false)).2 || (cutProfile (s.profile k true)).2
  let t := s.modSet k (fun _ => {
    freq := f, integ := f, freqs := [f], shdFreq := f, keepFreq := f, endFreq := f, shdAt := s.count
    wraps := s.injWraps k, injWhole := decide (s.count * s.finj k % 1600000000 < s.finj k) })
  let t := t.wr (R.WVN_SETs_STAT k) (setBits (setBits (t.rd (R.WVN_SETs_STAT k)) 0 20 0) 20 1 (bit1 cut))
  let t := (t.putBit R.WVN_STAT (4 + k) false).putBit R.WVN_STAT (8 + k) false
  let t := t.forAll 24 (fun n u => u.wr (R.WVN_Ls_n k n) 0)
  t.forAll 192 (fun i u => u.wr (R.WVN_Hs_p_h k (i / 64) (i % 64)) 0)

/-- FRT_T: sample intervals since the onset, saturating (R112). -/
def SetSt.frtT (x : SetSt) : Word :=
  match x.onset with
  | some o => BitVec.ofNat 32 (min (2 ^ 32 - 1) ((x.lastEnd - o) / 5000))
  | none => 0

/-- STATE as latched: as of the sample, with JUMP and LATE since the previous latch, and LATE when the sample is late (R94, R95, R100). -/
def State.latchState (s : State) (k : Nat) : Word :=
  let x := s.wset k
  (x.keepState &&& 0xFFF3F) ||| (s.rd (R.WVN_SETs_STAT k) &&& 0xC0) ||| (if x.lastLate then 0x80 else 0)

/-- The 24 words a set latches now (R94). DEDUCED: log entry 13. -/
def State.latchWords (s : State) (k : Nat) : List Word :=
  let x := s.wset k
  let v := s.count
  [turnWord (x.angle + turnsIn x.freq (v - x.lastEnd)), turnWord (x.shdAngle + turnsIn x.shdFreq (v - x.shdAt)),
   x.freq, x.keepFreq, x.rocof] ++ x.seqV ++ [x.vmag] ++ x.seqI ++ [x.keepZ.1, x.keepZ.2] ++ x.thd ++
  [x.jump, s.latchState k, x.frtT, s.injAmp k, s.injAngle k]

/-- Set `k` latches at a valley of its carrier (R94 to R96). DEDUCED: log entry 13. -/
def State.setLatch (s : State) (k : Nat) : State :=
  let x := s.wset k
  if !x.seen then s else
    let ws := s.latchWords k
    let t := s.forAll 24 (fun n u => u.wr (R.WVN_Ls_n k n) (nth ws n 0))
    let t := t.forAll 192 (fun i u => u.wr (R.WVN_Hs_p_h k (i / 64) (i % 64)) (nth x.harm i 0))
    let t := (t.incW (F.WVN_SETs_LCNT_LCNT k)).digest (8 + k) (ws ++ x.harm)
    let c := s.get (F.WVN_SETs_CFG_CAR k)
    let t := if x.lastLate || x.lateSince then
        ((t.putBit R.WVN_STAT k true).raise 0x4E).void .wvn true c (s.valleyStamp c)
      else t
    let t := t.modSet k (fun y => { y with lateSince := false })
    (t.clr (F.WVN_SETs_STAT_JUMP k)).clr (F.WVN_SETs_STAT_LATE k)

/-! ### Maximum-power-point tracking (R116 to R119) -/

/-- A result's VALUE as a number, signed for a pair. -/
def State.resultValue (s : State) (w m : Nat) : Int :=
  if (s.resolve (s.winChan w m)).2 then s.getI (F.PRISM_RESw_m_VALUE w m) else s.get (F.PRISM_RESw_m_VALUE w m)

/-- At a publication of window `w` every channel that reads it forms P, or marks that none came (R116). -/
def State.mppPublish (s : State) (w : Nat) : State :=
  s.forAll 8 (fun m t =>
    if t.mppOn m && t.get (F.WVN_MPPm_CFG_WIN m) == w then
      let vp := t.get (F.WVN_MPPm_CFG_VPOS m)
      let ip := t.get (F.WVN_MPPm_CFG_IPOS m)
      let ok := t.on (F.PRISM_RESw_m_VALID w vp) && t.on (F.PRISM_RESw_m_VALID w ip)
      let p := if ok then some (toSingle ((t.resultValue w vp * t.resultValue w ip : Int) : Rat)) else none
      let closed := match (t.prismWin w).published with | some q => q.closeAt | none => t.count
      (t.modMpp m (fun x => { x with pubs := x.pubs ++ [(closed, p)] })).putB (F.WVN_MPPm_STAT_VALID m) ok
    else t)

/-- The publication of a window, when it is due; channels of the Weathervane that read the window take it (R83, R116). -/
def State.windowPublish (s : State) (w : Nat) : State :=
  match s.publishDue w with
  | some acc => (s.publish w acc).mppPublish w
  | none => s

/-- Every publication that is due, before its readers look (R47). -/
def State.publishWindows (s : State) : State := s.forAll 64 (fun w t => t.windowPublish w)

/-- HALF, SETTLE as a half of `n` periods takes it, and DWELL in effect (R117, R119). -/
def State.mppHalf (s : State) (m : Nat) : Nat := max 1 (s.get (F.WVN_MPPm_TIM_HALF m))
def State.mppSettle (s : State) (m n : Nat) : Nat := min (s.get (F.WVN_MPPm_TIM_SETTLE m)) (n - 1)
def State.mppDwell (s : State) (m : Nat) : Nat :=
  let p := s.carPeriod (s.get (F.WVN_MPPm_CFG_CAR m))
  let d := s.get (F.WVN_MPPm_TIM_DWELL m)
  if d = 0 ∨ 80000000 < 64 * d * p then max 1 (80000000 / (64 * max 1 p)) else d

/-- DWELL is reduced (R119). -/
def State.dwellClamped (s : State) (m : Nat) : Bool :=
  let d := s.get (F.WVN_MPPm_TIM_DWELL m)
  d != 0 && 80000000 < 64 * d * s.carPeriod (s.get (F.WVN_MPPm_CFG_CAR m))

/-- The voltage of scan step `j`, in codes (R118). -/
def State.scanVolt (s : State) (m j : Nat) : Int :=
  let hi : Int := s.get (F.WVN_MPPm_VLIM_HI m)
  let lo : Int := s.get (F.WVN_MPPm_VLIM_LO m)
  hi - ratRoundAway (((j : Int) * (hi - lo) : Int) / (63 : Rat))

/-- Clamp VREF to VMIN to VMAX and store it with its flags (R117). -/
def State.putVref (s : State) (m : Nat) (v : Flt) : State :=
  let lo : Rat := s.get (F.WVN_MPPm_VLIM_LO m)
  let hi : Rat := s.get (F.WVN_MPPm_VLIM_HI m)
  let atLo := v.lt (.ofRat lo)
  let atHi := (Flt.ofRat hi).lt v
  let w := if atLo then toSingle lo else if atHi then toSingle hi else (roundSingle v).1
  let t := s.modMpp m (fun x => { x with vref := w })
  (t.putB (F.WVN_MPPm_STAT_AT_VMIN m) (decide (singleRat w ≤ lo))).putB (F.WVN_MPPm_STAT_AT_VMAX m) (decide (hi ≤ singleRat w))

/-- The update at the end of a dither period (R117). DESIGN CHOICE: log entry 14. -/
def State.ditherUpdate (s : State) (m : Nat) : State :=
  let x := s.mpp m
  if x.cntLow = 0 ∨ x.cntHigh = 0 then s else
    let low := toSingle (x.sumLow / x.cntLow)
    let high := toSingle (x.sumHigh / x.cntHigh)
    let mean := toSingle ((singleRat low + singleRat high) / 2)
    let g := (roundSingle (Flt.ofRat (singleRat high - singleRat low))).1
    let step : Rat := s.get (F.WVN_MPPm_STEP_HI m)
    let limited := s.on (F.WVN_MPPm_CFG_LIM_EN m) && (ofSingle (s.rd (R.WVN_MPPm_LIM m))).lt (ofSingle mean)
    let dv := (roundSingle ((ofSingle (s.rd (R.WVN_MPPm_K m))).mul (ofSingle g))).1
    let dv := if limited then Flt.ofRat step
      else if (ofSingle dv).lt (.ofRat (-step)) then .ofRat (-step)
      else if (Flt.ofRat step).lt (ofSingle dv) then .ofRat step else ofSingle dv
    let t := s.modMpp m (fun y => { y with mean := mean, ditherMean := some mean })
    (t.putB (F.WVN_MPPm_STAT_LIMITED m) limited).putVref m ((ofSingle x.vref).add dv)

/-- A scan is due (R118). -/
def State.scanDue (s : State) (m : Nat) : Bool :=
  let x := s.mpp m
  let int := s.get (F.WVN_MPPm_SCAN_SCAN_INT m)
  (x.scanReq || (int != 0 && x.scanStart + int * 400000000 ≤ s.count)) &&
    !s.on (F.WVN_MPPm_CFG_HOLD m) && !s.on (F.WVN_MPPm_STAT_LIMITED m)

/-- The end of a dither period: the update, and the start of a due scan (R117, R118). -/
def State.ditherEnd (s : State) (m : Nat) : State :=
  let t := (s.ditherUpdate m).modMpp m (fun x => { x with idx := 0, high := false, sumLow := 0, cntLow := 0, sumHigh := 0, cntHigh := 0 })
  if t.scanDue m then
    (t.modMpp m (fun x => { x with scan := some 0, scanReq := false, scanStart := t.count, stepSum := 0, stepCnt := 0, best := none })).set1
      (F.WVN_MPPm_STAT_SCAN m)
  else t

/-- The end of a global scan (R118). -/
def State.scanEnd (s : State) (m : Nat) : State :=
  let x := s.mpp m
  let gain : Rat := 1 + (s.get (F.WVN_MPPm_SCAN_GAIN m) : Rat) / 1000
  let t := match x.best with
    | some (p, v) =>
      let u := s.modMpp m (fun y => { y with vbest := toSingle (v : Rat) })
      (match x.ditherMean with
       | some d => if singleRat d * gain < singleRat p ∧ !s.on (F.WVN_MPPm_CFG_HOLD m) then u.putVref m (.ofRat v) else u
       | none => u)
    | none => s
  let t := t.modMpp m (fun y => { y with scan := none, idx := 0, high := false, stepSum := 0, stepCnt := 0 })
  (t.clr (F.WVN_MPPm_STAT_SCAN m)).raise 0x4D

/-- The end of scan step `j` (R118). -/
def State.scanStep (s : State) (m j : Nat) : State :=
  let x := s.mpp m
  let v := (s.scanVolt m j).toNat
  let t := if x.stepCnt = 0 then s else
    let p := toSingle (x.stepSum / x.stepCnt)
    let better : Bool := match x.best with
      | some (q, _) => singleRat q < singleRat p
      | none => true
    s.modMpp m (fun y => { y with mean := p, best := if better then some (p, v) else y.best })
  if 63 ≤ j then t.scanEnd m
  else t.modMpp m (fun y => { y with scan := some (j + 1), idx := 0, stepSum := 0, stepCnt := 0 })

/-- The publications that a valley takes: of windows closed at or before the previous valley `u` (R116). -/
def MppSt.taken (x : MppSt) (u : Nat) : List Rat :=
  x.pubs.filterMap (fun p => if p.1 ≤ u then p.2.map singleRat else none)

/-- The carrier stands at a valley, its command taken or about to be. -/
def State.atValley (s : State) (c : Nat) : Bool := s.carRunning c && (s.carElapsed c == s.carPeriod c || s.carElapsed c == 0)

/-- The period in hand is the last of a dither period. -/
def State.ditherLast (s : State) (m : Nat) : Bool :=
  (s.mpp m).scan.isNone && !s.on (F.WVN_MPPm_CFG_HOLD m) && (s.mpp m).high && s.mppHalf m ≤ (s.mpp m).idx + 1

/-- The period in hand is the last of a scan step. -/
def State.scanLast (s : State) (m : Nat) : Bool := (s.mpp m).scan.isSome && s.mppDwell m ≤ (s.mpp m).idx + 1

/-- Count one more period, or end the half, the dither period or the scan step. -/
def State.mppTurn (s : State) (m : Nat) : State :=
  let x := s.mpp m
  match x.scan with
  | some j => if s.scanLast m then s.scanStep m j else s.modMpp m (fun y => { y with idx := y.idx + 1 })
  | none =>
    if s.on (F.WVN_MPPm_CFG_HOLD m) then
      s.modMpp m (fun y => { y with idx := 0, high := false, sumLow := 0, cntLow := 0, sumHigh := 0, cntHigh := 0 })
    else if s.ditherLast m then s.ditherEnd m
    else if s.mppHalf m ≤ x.idx + 1 then s.modMpp m (fun y => { y with idx := 0, high := true })
    else s.modMpp m (fun y => { y with idx := y.idx + 1 })

/-- Take the publications into the averages of the period in hand (R117, R118). DESIGN CHOICE: log entry 14. -/
def State.mppGather (s : State) (m : Nat) (ps : List Rat) : State :=
  let x := s.mpp m
  let sum := ps.foldl (· + ·) 0
  match x.scan with
  | some _ =>
    if s.get (F.WVN_MPPm_TIM_SETTLE m) ≤ x.idx then
      s.modMpp m (fun y => { y with stepSum := y.stepSum + sum, stepCnt := y.stepCnt + ps.length })
    else s
  | none =>
    if s.mppSettle m (s.mppHalf m) ≤ x.idx then
      (if x.high then s.modMpp m (fun y => { y with sumHigh := y.sumHigh + sum, cntHigh := y.cntHigh + ps.length })
       else s.modMpp m (fun y => { y with sumLow := y.sumLow + sum, cntLow := y.cntLow + ps.length }))
    else s

/-- A carrier period of channel `m` ends at the present valley. DESIGN CHOICE: log entry 14. -/
def State.mppPeriod (s : State) (m : Nat) : State :=
  let x := s.mpp m
  if x.doneAt = some s.count then s else
    let t := match x.prevValley with
      | none => s
      | some u =>
        let v := (s.mppGather m (x.taken u)).modMpp m (fun y => { y with pubs := y.pubs.filter (fun p => u < p.1) })
        v.mppTurn m
    let t := t.modMpp m (fun y => { y with prevValley := some s.count, doneAt := some s.count })
    let t := (t.putB (F.WVN_MPPm_STAT_HIGH m) (t.mpp m).high).putB (F.WVN_MPPm_STAT_HOLD m) (t.on (F.WVN_MPPm_CFG_HOLD m))
    t.putB (F.WVN_MPPm_STAT_DWELL_CLAMPED m) (t.dwellClamped m)

/-- VREF_OUT in codes (R117, R118). -/
def State.vrefOut (s : State) (m : Nat) : Rat :=
  let x := s.mpp m
  let dith : Rat := s.get (F.WVN_MPPm_STEP_LO m)
  if s.on (F.WVN_MPPm_CFG_HOLD m) then singleRat x.vref
  else match x.scan with
  | some j => s.scanVolt m j
  | none =>
    if x.high then singleRat x.vref + dith else singleRat x.vref - dith

/-- Channel `m` latches its words at a valley (R116). -/
def State.mppLatch (s : State) (m : Nat) : State :=
  let ws := [toSingle (16 * s.vrefOut m), (s.mpp m).mean, s.rd (R.WVN_MPPm_STAT m) &&& 0xFF, toSingle (16 * singleRat (s.mpp m).vbest)]
  (s.forAll 4 (fun n u => u.wr (R.WVN_Mm_n m n) (nth ws n 0))).digest (12 + m) ws

/-- Channel `m` starts in its power-up state; its first scan interval counts from here. -/
def State.mppStart (s : State) (m : Nat) : State :=
  let t := s.modMpp m (fun _ => { scanStart := s.count })
  (t.wr (R.WVN_MPPm_STAT m) 0).forAll 4 (fun n u => u.wr (R.WVN_Mm_n m n) 0)

/-- Everything that the sample output in this cycle causes in set `k`. -/
def State.sampleEvents (s : State) (k : Nat) : State :=
  if s.setOn k && (s.wset k).seen && (s.wset k).lastEnd + 2048 == s.count then
    [State.wvnLock, State.validLoss, State.phaseJump, State.frtTransition, State.frtConfirm, State.frtRecover, State.vsHoldEnd,
      State.islandDeclare, State.resyncDone].foldl (fun t f => t.sampled k (f · k)) s
  else s

/-- The sets and channels of carrier `c` latch at its valley (R94, R116). Outputs that are available at this instant are in the latch, with what
they cause (R94, R160). -/
def State.wvnLatch (s : State) (c : Nat) : State :=
  let s := s.sampleOutput.forAll 4 (fun k u => u.sampleEvents k)
  let t := s.forAll 4 (fun k u => if u.setOn k && u.get (F.WVN_SETs_CFG_CAR k) == c then u.setLatch k else u)
  t.forAll 8 (fun m u => if u.mppOn m && u.get (F.WVN_MPPm_CFG_CAR m) == c then (u.mppPeriod m).mppLatch m else u)

/-- WVN_CTRL as written takes effect: what it newly enables starts (R70, R121). -/
def State.applyWvn (s : State) : State :=
  let old := s.wvn.active
  let new := s.rd R.WVN_CTRL
  let t := s.modWvn (fun w => { w with active := new })
  let t := t.forAll 4 (fun k u => if bitAt new k && !bitAt old k then u.setStart k else u)
  t.forAll 8 (fun m u => if bitAt new (8 + m) && !bitAt old (8 + m) then u.mppStart m else u)

end Sys2Proof.Machine
end

