-- ==== Sys2Proof/Machine/MillOps.lean ====
section
/-! DEFINITION. Machine/MillOps.lean: the Mill: bundles and slots, lanes and results on their way, the memory a lane sees, tasks,
frames, input checks, policies and the commit (R123 to R148). -/

namespace Sys2Proof.Machine

/-! ### Access -/

def State.modMill (s : State) (f : Mill → Mill) : State := { s with mill := f s.mill }

/-- Task `t` beside its registers. -/
def State.task (s : State) (t : Nat) : TaskSt := nth s.tasks t {}
def State.modTask (s : State) (t : Nat) (f : TaskSt → TaskSt) : State := { s with tasks := upd s.tasks t f }
def State.lane (s : State) (ln : Nat) : Lane := nth s.mill.lanes ln {}
def State.modLane (s : State) (ln : Nat) (f : Lane → Lane) : State := s.modMill (fun m => { m with lanes := upd m.lanes ln f })

/-- Register `r` of a lane; numbers wrap past v15 (R126). -/
def Lane.get (x : Lane) (r : Nat) : Word := nth x.v (r % 16) 0

/-! ### Slots (R123) -/

/-- The fields of a lane slot. -/
structure Slot where
  op : Nat
  d : Nat
  a : Nat
  b : Nat
  mac : Nat
  fixed : Bool
  ls : Nat
  ar : Nat
  pi : Bool
  l : Nat
  imm : Nat
  flag : Nat
  deriving DecidableEq, Repr

/-- The operations that exist in single precision only: INTERP, DIV and SQRT (R126). -/
def singleOnly (op : Nat) : Bool := op == 0x1F || op == 0x20 || op == 0x21

/-- Read a slot: LDIL, LDIH and SETA carry no MAC and no load or store, SEL no MAC, BIQ and INTERP no load or store. -/
def slotOf (w : Word) : Slot :=
  let op := getBits w 26 6
  let imm := op == 0x16 || op == 0x17 || op == 0x18
  let coef := op == 0x1D || op == 0x1F
  let ls := getBits w 9 2
  { op := op, d := getBits w 22 4, a := getBits w 18 4, b := getBits w 14 4
    mac := if imm || op == 0x13 then 0 else getBits w 12 2
    fixed := op != 0x13 && bitAt w 11
    ls := if imm || coef || ls == 3 then 0 else ls
    ar := getBits w 7 2, pi := bitAt w 6, l := getBits w 2 4, imm := getBits w 6 16, flag := getBits w 11 3 }

/-- A slot of a single-only operation with M = 1: it executes as NOP and sets ILL (R126). -/
def Slot.void (x : Slot) : Bool := x.fixed && singleOnly x.op

/-- A bundle of the program store. -/
def State.bundle (s : State) (a : Nat) : BitVec 128 := cellGet (fun _ => 0) s.mill.prog a

/-- The slot that a lane issues in this cycle, with the task that executes (R133). DEDUCED: log entry 2. -/
def State.issuing (s : State) (ln : Nat) : Option (Nat × Slot) :=
  match s.mill.running with
  | some t =>
    if s.coreRuns && s.mill.pc < 4096 && s.mill.stall == 0 then some (t, slotOf (((s.bundle s.mill.pc) >>> (32 * ln)).setWidth 32))
    else none
  | none => none

/-! ### Corrections (R138)

The words of the program store, of data memory and of the banks, numbered in one row. -/

def progWord (a : Nat) : Nat := a
def dmemWord (a : Nat) : Nat := 0x2000 + a
def bankWord (bank a : Nat) : Nat := 0x4000 + 2048 * bank + a % 2048

/-- An access or a scrub meets a word with an error of one bit: it is corrected and counted, and the lanes stall for 2 CORE cycles after
the bundle in hand. DESIGN CHOICE: log entry 61. -/
def State.correctWord (s : State) (k : Nat) : State :=
  if s.mill.correctable.contains k then
    let t := s.modMill (fun m => { m with correctable := m.correctable.filter (· != k), owed := m.owed + 2 })
    (t.set1 F.MILL_STAT_ECC_CORR).incS F.MILL_STAT_CORR_CNT
  else s

/-- The executing task fetches the bundle that it issues next, and the lanes stall for the corrections so far (R138). -/
def State.fetchBundle (s : State) : State :=
  (if s.mill.running.isSome then s.correctWord (progWord s.mill.pc) else s).modMill (fun m => { m with stall := m.stall + m.owed, owed := 0 })

/-- In an idle cycle, in which no task executes, the background scrub reads a word (R138). Which one is free. DESIGN CHOICE: log entry 61. -/
def State.millScrub (s : State) : State :=
  if s.mill.running.isSome || s.mill.correctable.isEmpty then s else s.drawn.correctWord (Config.millScrub s.draws)

/-! ### Flags of a task (R144) -/

/-- Set the sticky flags; the first setting of a frame raises event 0x5E with FLAG_EV. -/
def State.taskFlags (s : State) (t : Nat) (f : Flags) : State :=
  if f = {} then s else
    let u := (s.whenB f.nan (·.set1 (F.MILL_TASKt_STAT_NAN t))).whenB f.inf (·.set1 (F.MILL_TASKt_STAT_INF t))
    let u := (u.whenB f.qsat (·.set1 (F.MILL_TASKt_STAT_QSAT t))).whenB f.div0 (·.set1 (F.MILL_TASKt_STAT_DIV0 t))
    let u := u.whenB f.ill (·.set1 (F.MILL_TASKt_STAT_ILL t))
    let first := !(s.task t).flagged
    let u := u.modTask t (fun x => { x with flagged := true })
    if first && s.on (F.MILL_TASKt_POL_FLAG_EV t) then u.raise 0x5E else u

/-- ILL alone. -/
def illegal : Flags := { ill := true }

/-! ### Results (R124) -/

/-- Put a result on its way: a bundle issued `latency` cycles later reads it. DEDUCED: log entry 2. -/
def State.post (s : State) (ln latency : Nat) (dest : Dest) (val : Nat) (fixed load : Bool) (unit : Option Nat) : State :=
  s.modMill (fun m => { m with results := m.results ++
    [⟨m.cycle + latency, ln, dest, BitVec.ofNat 64 val, fixed, load, unit⟩] })

/-- Put a register result of the ALU on its way. -/
def State.postReg (s : State) (ln latency r : Nat) (w : Word) : State :=
  s.post ln latency (.reg (r % 16)) w.toNat false false none

/-- Write a result into its lane. -/
def Lane.take (x : Lane) (r : Result) : Lane :=
  match r.dest with
  | .reg i => { x with v := upd x.v i (fun _ => r.val.setWidth 32) }
  | .acc => { x with acc := ⟨r.fixed, r.val⟩ }
  | .accNext => { x with accNext := ⟨r.fixed, r.val⟩ }
  | .addr i => { x with a := upd x.a i (fun _ => r.val.setWidth 16) }
  | .flag i => { x with c := if r.val = 0 then x.c &&& ~~~(1#8 <<< i) else x.c ||| (1#8 <<< i) }

/-- Write the results of one kind that are due at the present lane cycle, in the order of their issue. -/
def State.retire (s : State) (load : Bool) : State :=
  (s.mill.results.filter (fun r => r.cycle = s.mill.cycle && r.load == load)).foldl
    (fun t r => t.modLane r.lane (fun x => x.take r)) s

/-- A store reaches data memory or the staging area (R131, R135); a word deposited in this cycle is kept (R261). -/
def State.storeNow (s : State) (p : PendStore) : State :=
  if p.addr ∈ s.cycle.deposits then s
  else if p.addr < 0x2000 then s.modMill (fun m => { m with
    dmem := wordSet m.dmem p.addr p.val, correctable := m.correctable.filter (· != dmemWord p.addr) })
  else
    let i := p.addr - 0x3800
    s.modMill (fun m => { m with
      staged := wordSet m.staged i p.val
      written := if i ∈ m.written then m.written else m.written ++ [i] })

/-- The end of a lane cycle: stores in ascending lane order, then results, loads last; the next bundle (R124, R125, R133). A cycle in which a
correction stalls the lanes passes without them (R138). DESIGN CHOICE: log entry 1. DEDUCED: log entry 2. -/
def State.laneCycle (s : State) : State :=
  if s.mill.stall ≠ 0 then s.modMill (fun m => { m with stall := m.stall - 1 }) else
  let t := [0, 1, 2, 3].foldl (fun u ln => (s.mill.stores.filter (fun p => p.lane == ln)).foldl State.storeNow u) s
  let t := t.modMill (fun m => { m with stores := [], cycle := m.cycle + 1 })
  let t := (t.retire false).retire true
  let t := t.modMill (fun m => { m with results := m.results.filter (fun r => m.cycle < r.cycle)
                                        pc := if m.running.isSome then min 4096 (m.pc + 1) else m.pc })
  if t.mill.ending.isNone then t.fetchBundle else t

/-- The end of a CORE cycle for the Mill: the lane cycle and the scrub, and the end of a task whose END has executed (R136, R138).
DEDUCED: log entry 2. -/
def State.millTick (s : State) : State :=
  let t := s.millScrub.laneCycle
  if t.mill.ending.isSome then (t.modMill (fun m => { m with running := none, ending := none })).clr F.MILL_STAT_BUSY else t

/-- A cycle begins: the event of a task whose END executed in the cycle `was` before it (R136). -/
def State.endEvent (s : State) (was : State) : State :=
  match was.mill.ending with
  | some k => if was.coreRuns then s.raise (0x50 + k) else s
  | none => s

/-- Issue on a unit (0 BIQ, 1 DIV, 2 SQRT): one still within its issue interval drops its earlier operation and sets ILL.
DEDUCED: log entry 17. -/
def State.claim (s : State) (t ln unit interval latency : Nat) : State :=
  let now := s.mill.cycle
  let busy := now < nth (s.lane ln).free unit 0
  let u := if busy then
      (s.modMill (fun m => { m with results := m.results.filter (fun r =>
        !(r.lane == ln && r.unit == some unit && now + latency < r.cycle + interval)) })).taskFlags t illegal
    else s
  u.modLane ln (fun x => { x with free := upd x.free unit (fun _ => now + interval) })

/-! ### Arithmetic of a slot (R126, R127) -/

/-- The value of a register in the slot's format. -/
def valueOf (fixed : Bool) (w : Word) : Flt := if fixed then .ofRat (qRat w) else ofSingle w

/-- A result rounded to the slot's format. -/
def roundTo (fixed : Bool) (x : Flt) : Word × Flags :=
  if fixed then
    (match x with
     | .fin q _ => roundQ q
     | _ => (0, {}))
  else roundSingle x

/-- Issue an ALU operation of code `code` on a lane: nothing when the slot holds another code, ILL when the slot is void, else
the operation's own effect. DEDUCED: log entry 2. -/
def State.alu (s : State) (ln code : Nat) (f : Nat → Lane → Slot → State) : State :=
  match s.issuing ln with
  | some (t, x) => if x.op = code then (if x.void then s.taskFlags t illegal else f t (s.lane ln) x) else s
  | none => s

/-- An operation with one result in the slot's format. -/
def State.aluArith (s : State) (ln code latency : Nat) (f : (Nat → Flt) → Slot → Flt) : State :=
  s.alu ln code (fun t l x =>
    let (w, fl) := roundTo x.fixed (f (fun r => valueOf x.fixed (l.get r)) x)
    (s.taskFlags t fl).postReg ln latency x.d w)

/-- An operation with two results in the slot's format, to D and D+1. DEDUCED: log entry 17. -/
def State.aluPair (s : State) (ln code latency : Nat) (f : (Nat → Flt) → Slot → Flt × Flt) : State :=
  s.alu ln code (fun t l x =>
    let (p, q) := f (fun r => valueOf x.fixed (l.get r)) x
    let (w0, f0) := roundTo x.fixed p
    let (w1, f1) := roundTo x.fixed q
    ((s.taskFlags t (f0.or f1)).postReg ln latency x.d w0).postReg ln latency (x.d + 1) w1)

/-- An operation on bits with one result after one cycle. -/
def State.aluBits (s : State) (ln code : Nat) (f : Lane → Slot → Word) : State :=
  s.alu ln code (fun _ l x => s.postReg ln 1 x.d (f l x))

/-- A comparison: flag C[D[2:0]] after one cycle. -/
def State.aluCmp (s : State) (ln code : Nat) (f : Flt → Flt → Bool) : State :=
  s.alu ln code (fun _ l x =>
    s.post ln 1 (.flag (x.d % 8)) (bit1 (f (valueOf x.fixed (l.get x.a)) (valueOf x.fixed (l.get x.b)))) false false none)

/-- A value clamped between two, low limit first. -/
def Flt.clamp (x lo hi : Flt) : Flt := (x.max lo).min hi

/-- x / √3, rounding in single precision and in Q1.31 as the exact value does. -/
def Flt.overRoot3 (x : Flt) : Flt :=
  match x with
  | .fin q n => if q = 0 then .fin 0 n else .fin (if q < 0 then -(sqrtRat (q * q / 3)) else sqrtRat (q * q / 3)) false
  | y => y

/-- The amplitude-invariant Clarke transform (R126). DEDUCED: log entry 17. -/
def clarke (a b c : Flt) : Flt × Flt :=
  (((((Flt.ofRat 2).mul a).add b.neg).add c.neg).mul (.ofRat (1 / 3)), (b.add c.neg).overRoot3)

/-- SINCOS of one angle: within 2^−22 of the exact value, otherwise free (R127). DESIGN CHOICE: log entry 23. -/
def sincosOf (fixed cosine : Bool) (a : Word) : Word × Flags :=
  let exact := if cosine then (trigTurns a).2 else (trigTurns a).1
  let free := Config.sincos fixed cosine a
  let (w, f) := if fixed then roundQ exact else roundSingle (.ofRat exact)
  let value := if fixed then some (qRat free) else match ofSingle free with | .fin q _ => some q | _ => none
  match value with
  | some v => (within exact (1 / (2 ^ 22 : Nat) - 1 / (2 ^ 48 : Nat)) free v w, f)
  | none => (w, f)

/-- The bank a task has in use. -/
def State.bankOf (s : State) (t : Nat) : WordStore := if s.on (F.MILL_TASKt_STAT_BANK t) then s.mill.bankB else s.mill.bankA

/-- A word of the task's bank; offsets wrap at 2,048 (R128). -/
def State.coef (s : State) (t a : Nat) : Word := wordGet (s.bankOf t) (a % 2048)

/-- A read of a bank word meets an error of one bit, or none (R138). -/
def State.readCoef (s : State) (t a : Nat) : State := s.correctWord (bankWord (s.get (F.MILL_TASKt_STAT_BANK t)) a)

/-- Address register `r` of a lane. -/
def Lane.ptr (x : Lane) (r : Nat) : Nat := (nth x.a r 0).toNat

/-- Add to an address register when PI is 1; the next bundle reads the new value. -/
def State.bump (s : State) (ln : Nat) (x : Slot) (n : Nat) : State :=
  if x.pi then s.post ln 1 (.addr x.ar) (((s.lane ln).ptr x.ar + n) % 65536) false false none else s

/-- A biquad step (R128). DESIGN CHOICE: log entry 24. -/
def State.biquad (s : State) (t ln : Nat) (l : Lane) (x : Slot) : State :=
  let u := ((List.range 5).foldl (fun v i => v.readCoef t ((l.ptr x.ar) + i)) s).claim t ln 0 2 8
  let p := l.ptr x.ar
  let c := fun i => valueOf x.fixed (s.coef t (p + i))
  let xin := valueOf x.fixed (l.get x.a)
  let s1 := valueOf x.fixed (l.get x.b)
  let s2 := valueOf x.fixed (l.get (x.b + 1))
  let (yw, fy) := roundTo x.fixed (((c 0).mul xin).add s1)
  let y := valueOf x.fixed yw
  let (w1, f1) := roundTo x.fixed ((((c 1).mul xin).add ((c 3).mul y).neg).add s2)
  let (w2, f2) := roundTo x.fixed (((c 2).mul xin).add ((c 4).mul y).neg)
  let put := fun (v : State) (r : Nat) (w : Word) => v.post ln 8 (.reg (r % 16)) w.toNat false false (some 0)
  let u := u.taskFlags t (fy.or (f1.or f2))
  let u := put (put (put u x.d yw) x.b w1) (x.b + 1) w2
  let clash := x.d % 16 = x.b % 16 ∨ x.d % 16 = (x.b + 1) % 16
  let u := if clash then put u x.d (Config.biqClash yw (if x.d % 16 = x.b % 16 then w1 else w2)) else u
  u.bump ln x 5

/-- A clamped integrator step (R129). -/
def State.integrate (s : State) (t ln : Nat) (l : Lane) (x : Slot) : State :=
  let v := fun r => valueOf x.fixed (l.get r)
  let lo := v x.b
  let hi := v (x.b + 1)
  let (w, f) := roundTo x.fixed (((v x.d).add (v x.a)).clamp lo hi)
  let r := valueOf x.fixed w
  let u := (s.taskFlags t f).postReg ln 3 x.d w
  (u.post ln 3 (.flag 6) (bit1 (r.eq hi)) false false none).post ln 3 (.flag 7) (bit1 (r.eq lo)) false false none

/-- Linear interpolation in a bank table (R130). -/
def State.interpolate (s : State) (t ln : Nat) (l : Lane) (x : Slot) : State :=
  let p := l.ptr x.ar
  let n := max 2 (min 2045 (s.coef t (p + 2)).toNat)
  let u := ((ofSingle (l.get x.a)).add (ofSingle (s.coef t p)).neg).mul (ofSingle (s.coef t (p + 1)))
  let val := fun i => ofSingle (s.coef t (p + 3 + i))
  let at_ := match u.clamp (.ofRat 0) (.ofRat ((n - 1 : Nat) : Rat)) with
    | .fin q _ => q.floor.toNat
    | _ => 0
  let s := [p, p + 1, p + 2, p + 3 + at_, p + 4 + at_].foldl (fun v a => v.readCoef t a) s
  let y := match u.clamp (.ofRat 0) (.ofRat ((n - 1 : Nat) : Rat)) with
    | .fin q _ =>
      let i := q.floor.toNat
      let f := q - (i : Rat)
      if f = 0 then val i else (val i).mul (.ofRat (1 - f)) |>.add ((val (i + 1)).mul (.ofRat f))
    | other => other
  let (w, fl) := roundSingle y
  ((s.taskFlags t fl).postReg ln 6 x.d w).bump ln x (n + 3)

/-- A quotient on the iterative divider (R126, R127). -/
def State.divide (s : State) (t ln : Nat) (l : Lane) (x : Slot) : State :=
  let u := s.claim t ln 1 24 24
  let (q, by0) := (ofSingle (l.get x.a)).div (ofSingle (l.get x.b))
  let (w, f) := roundSingle q
  (u.taskFlags t (f.or { div0 := by0 })).post ln 24 (.reg x.d) w.toNat false false (some 1)

/-- A square root on the iterative unit (R126, R127). -/
def State.squareRoot (s : State) (t ln : Nat) (l : Lane) (x : Slot) : State :=
  let u := s.claim t ln 2 20 20
  let (w, f) := roundSingle (ofSingle (l.get x.a)).sqrt
  (u.taskFlags t f).post ln 20 (.reg x.d) w.toNat false false (some 2)

/-! ### The accumulator (R126, R127) -/

/-- The accumulator in single precision. -/
def Acc.single (x : Acc) : Flt :=
  if x.bits = 0 then .ofRat 0 else if x.fixed then ofSingle (Config.accAsSingle x.bits) else ofSingle (x.bits.setWidth 32)

/-- The accumulator in Q17.47, in units of 2^−47. -/
def Acc.q47 (x : Acc) : Int :=
  if x.bits = 0 then 0 else if x.fixed then x.bits.toInt else (Config.accAsFixed (x.bits.setWidth 32)).toInt

/-- A multiply-accumulate of mode `mode` (R123): the sum is forwarded to the next bundle's MAC and reaches MOVACC after four
cycles. -/
def State.mac (s : State) (ln mode : Nat) : State :=
  match s.issuing ln with
  | some (t, x) =>
    if x.mac = mode ∧ !x.void then
      let l := s.lane ln
      let a := l.get x.a
      let b := l.get x.b
      let (bits, f) : Nat × Flags :=
        if x.fixed then
          let p := ratRoundEven (((qInt a * qInt b : Int) : Rat) / ((2 ^ 15 : Nat) : Rat))
          let sum := match mode with
            | 1 => l.accNext.q47 + p
            | 2 => p
            | _ => l.accNext.q47 - p
          let y := satTo 64 sum
          (wrapTo 64 y, { qsat := y != sum })
        else
          let p := (ofSingle a).mul (ofSingle b)
          let (w, g) := roundSingle (match mode with
            | 1 => l.accNext.single.add p
            | 2 => p
            | _ => l.accNext.single.add p.neg)
          (w.toNat, g)
      ((s.taskFlags t f).post ln 1 .accNext bits x.fixed false none).post ln 4 .acc bits x.fixed false none
    else s
  | none => s

/-- MOVACC: the accumulator rounded to the slot's format. DESIGN CHOICE: log entry 22. -/
def Acc.read (fixed : Bool) (x : Acc) : Word × Flags :=
  if fixed then satQ (ratRoundEven ((x.q47 : Rat) / (65536 : Rat))) else roundSingle x.single

/-! ### Memory seen by a lane (R131, R132) -/

/-- A register as an input view holds it. -/
def viewRd (v : RegStore) (a : Nat) : Word := cellGet regReset v a

/-- A staged word exists at this address: compare, steer, ring or user word. -/
def stagedAddr (a : Nat) : Bool := (0x3800 ≤ a && a < 0x3834) || (0x3840 ≤ a && a < 0x3900)

/-- What a load of the executing task reads. -/
def State.loadWord (s : State) (t a : Nat) : Word :=
  let x := s.task t
  if a < 0x2000 then wordGet s.mill.dmem a
  else if a < 0x2800 then s.coef t (a - 0x2000)
  else if a < 0x3000 then 0
  else if a < 0x3400 then viewRd x.view (R.PRISM_RESw_m ((a - 0x3000) / 16) (a % 16))
  else if a < 0x3480 then (if a % 32 < 24 then viewRd x.view (R.WVN_Ls_n ((a - 0x3400) / 32) (a % 32)) else 0)
  else if a < 0x34A0 then viewRd x.view (R.WVN_Mm_n ((a - 0x3480) / 4) (a % 4))
  else if a < 0x3500 then 0
  else if a < 0x3600 then viewRd x.ringView (R.RING_RXWr (a - 0x3500))
  else if a = 0x3600 then x.frameNo
  else if a = 0x3601 then x.fails.setWidth 32
  else if a = 0x3602 then (x.fails >>> 32).setWidth 32
  else if a = 0x3603 then BitVec.ofNat 32 (s.get (F.MILL_TASKt_STAT_L t))
  else if a = 0x3604 then x.stamp
  else if 0x3610 ≤ a ∧ a < 0x3618 then viewRd x.ringView (R.RING_RXVj (a - 0x3610))
  else if stagedAddr a then wordGet s.mill.staged (a - 0x3800)
  else if 0x3C00 ≤ a ∧ a < 0x3F00 then
    viewRd x.view (R.WVN_Hs_p_h ((a - 0x3C00) / 192) ((a - 0x3C00) % 192 / 64) ((a - 0x3C00) % 64))
  else 0

/-- The executing task may write this address: data memory, or a staged word it owns (R131, R135). -/
def State.mayStore (s : State) (t a : Nat) : Bool :=
  a < 0x2000 || (stagedAddr a && s.stagedOwner (a - 0x3800) == some t)

/-- A load (R131). -/
def State.laneLoad (s : State) (ln : Nat) : State :=
  match s.issuing ln with
  | some (t, x) =>
    if x.ls = 1 ∧ !x.void then
      let a := (s.lane ln).ptr x.ar
      let u := if a < 0x2000 then s.correctWord (dmemWord a) else if a < 0x2800 then s.readCoef t (a - 0x2000) else s
      (u.post ln 3 (.reg x.l) (s.loadWord t a).toNat false true none).bump ln x 1
    else s
  | none => s

/-- A store (R131). -/
def State.laneStore (s : State) (ln : Nat) : State :=
  match s.issuing ln with
  | some (t, x) =>
    if x.ls = 2 ∧ !x.void then
      let a := (s.lane ln).ptr x.ar
      let u := if s.mayStore t a then
          s.modMill (fun m => { m with stores := m.stores ++ [⟨ln, a, (s.lane ln).get x.l⟩] })
        else s.taskFlags t illegal
      u.bump ln x 1
    else s
  | none => s

/-! ### Frames (R133 to R137, R143) -/

/-- Rate divisor, phase and commit period of a task. -/
def State.taskDiv (s : State) (t : Nat) : Nat := s.get (F.MILL_TASKt_BIND_DIV t) + 1
def State.taskPhase (s : State) (t : Nat) : Nat := s.get (F.MILL_TASKt_BIND_PHASE t) % s.taskDiv t
def State.taskCper (s : State) (t : Nat) : Nat := min (s.get (F.MILL_TASKt_TIME_CPER t)) (s.taskDiv t - 1)
def State.taskOffset (s : State) (t : Nat) : Nat := max 64 (s.get (F.MILL_TASKt_TIME_OFFSET t))
def State.taskCar (s : State) (t : Nat) : Nat := s.get (F.MILL_TASKt_BIND_CAR t)
def State.lossN (s : State) (t : Nat) : Nat := max 1 (s.get (F.MILL_TASKt_POL_LOSS_N t))

/-- The Mill executes: READY, RUN or SERVICE, enabled, no fatal error (R138, R145). -/
def State.millRuns (s : State) : Bool :=
  s.coreRuns && s.mode != .limp && s.mill.active && !s.on F.MILL_STAT_ECC_FATAL

/-- An overrun of task `t` in the frame in hand (R143); `state` is scope STATE. The period voided is the running one of its carrier when
the overrun occurs: at the missed commit phase, or where the task could not start (R53). An overrun that only turns out to be of scope
STATE when the next frame begins keeps that period. DEDUCED: log entry 60. -/
def State.overrun (s : State) (t : Nat) (state : Bool) : State :=
  let x := s.task t
  let stamp := if x.overran then x.voided else s.valleyStamp (s.taskCar t)
  let u := if x.overran then s else
    (((s.modTask t (fun y => { y with overran := true, voided := stamp })).set1 (F.MILL_TASKt_STAT_OVR t)).incS
      (F.MILL_TASKt_STAT_OVRCNT t)).raise 0x59
  let u := if state then u.set1 (F.MILL_TASKt_STAT_OVR_STATE t) else u
  u.void .mill state (s.taskCar t) stamp

/-- The executing task stops: nothing of it remains in the lanes. -/
def State.millHalt (s : State) : State :=
  (s.modMill (fun m => { m with running := none, ending := none, results := [], stores := [] })).clr F.MILL_STAT_BUSY

/-- Every task stops and leaves its frame (R138, R145). -/
def State.millStop (s : State) : State :=
  s.millHalt.forAll 8 (fun t u => (u.modTask t (fun x => { x with inFrame := false })).clr (F.MILL_TASKt_STAT_ACTIVE t))

/-- The round period that RING_RND gives (R268). -/
def State.ringPeriod (s : State) : Nat := (s.get F.RING_RND_DIV + 1) * s.carPeriod (s.get F.RING_RND_CAR)

/-- The issue stamps of the rounds that have begun and are not delivered at a MEMBER or REEVE: those in hand, and one of which no
copy has come although its issue stamp is reached (R272). -/
def State.ringUndelivered (s : State) : List Nat :=
  let inHand := s.ring.done.map (·.issue) ++ (s.ring.cur.map (·.issue)).toList
  let due :=
    match s.ring.cur, s.ring.lastIssue with
    | none, some i => if i + s.ringPeriod ≤ s.count then [i + s.ringPeriod] else []
    | _, _ => []
  if 3 ≤ s.get F.RING_STAT_STATE then inHand ++ due else []

/-- The undelivered rounds that a frame which starts now should have consumed (R17, R289). -/
def State.roundsMissed (s : State) : List Nat := s.ringUndelivered.filter (fun i => i < s.count && i + s.get F.RING_TNEED_VALUE ≤ s.count)

/-- The ring words a frame that starts now sees: those of the last delivery, all invalid while a round that should have ended has
not (R17, R132). -/
def State.ringSeen (s : State) : RegStore :=
  if s.ringUndelivered.any (fun i => i + s.get F.RING_TNEED_VALUE ≤ s.count) then
    (s.forAll 8 (fun j u => u.wr (R.RING_RXVj j) 0)).regs
  else s.regs

/-- A frame of task `t` begins: a task still executing is stopped (R54, R133, R137). DEDUCED: log entry 17. -/
def State.frameStart (s : State) (t : Nat) : State :=
  let u := if s.mill.running = some t ∧ s.mill.ending ≠ some t then s.millHalt.overrun t true else s
  if s.mill.halted then (u.modTask t (fun x => { x with inFrame := false })).clr (F.MILL_TASKt_STAT_ACTIVE t)
  else
    let u := u.modMill (fun m => { m with written := m.written.filter (fun i => s.stagedOwner i != some t) })
    let u := u.modTask t (fun x => { x with
      inFrame := true, frameNo := x.nextNo, nextNo := x.nextNo + 1, start := s.count, stamp := s.shortStamp
      valley := s.valleyStamp (s.taskCar t), inputDone := false, started := false, ended := false, committed := false
      overran := false, acted := false, skipped := false, flagged := false, ringView := s.ringSeen })
    let u := { u with ring := { u.ring with
      lateFrames := u.ring.lateFrames ++ s.roundsMissed.map (fun i => LateFrame.mk i t (s.valleyStamp (s.taskCar t))) } }
    (u.set1 (F.MILL_TASKt_STAT_ACTIVE t)).raise 0x58

/-- The frames that a bound event of carrier `c` begins: `peak` says which event, `e` its number (R133). -/
def State.frames (s : State) (c : Nat) (peak : Bool) (e : Nat) : State :=
  if s.millRuns then
    s.forAll 8 (fun t u =>
      if u.on (F.MILL_TASKt_BIND_EN t) && u.taskCar t == c && u.on (F.MILL_TASKt_BIND_EDGE t) == peak &&
          (e + (u.taskDiv t - u.taskPhase t)) % u.taskDiv t == 0 then u.frameStart t else u)
  else s

/-- A swap of the task's bank (R139). -/
def State.setBank (s : State) (t : Nat) (b : Bool) : State :=
  if s.on (F.MILL_TASKt_STAT_BANK t) == b then s else (s.putB (F.MILL_TASKt_STAT_BANK t) b).raise 0x5A

/-- A check's address lies in a checked region (R141). -/
def checkedAddr (a : Nat) : Bool := (0x3000 ≤ a && a < 0x34A0) || (0x3500 ≤ a && a < 0x3600)

/-- The causes with which check `k` fails, as LOSS.CAUSE bits; 0 when it passes (R141). -/
def State.checkCause (s : State) (t k : Nat) : Nat :=
  let a := s.get (F.MILL_CHKk_ADDR k)
  let x := s.task t
  let late := s.on (F.MILL_CHKk_LATE k)
  if a < 0x3000 then 0
  else if a < 0x3400 then
    let w := viewRd x.view (R.PRISM_RESw_m ((a - 0x3000) / 16) (a % 16))
    bit1 (s.get (F.MILL_CHKk_AGE_MAX k) < getBits w 20 8) + 2 * bit1 (s.on (F.MILL_CHKk_FRZ k) && bitAt w 29) +
      4 * bit1 (s.on (F.MILL_CHKk_OPEN k) && bitAt w 30) + 8 * bit1 (late && bitAt w 31)
  else if a < 0x3480 then
    let w := viewRd x.view (R.WVN_Ls_n ((a - 0x3400) / 32) 20)
    8 * bit1 (late && bitAt w 7) + 16 * bit1 (!bitAt w 0)
  else if a < 0x34A0 then 16 * bit1 (!bitAt (viewRd x.view (R.WVN_Mm_n ((a - 0x3480) / 4) 2)) 0)
  else if 0x3500 ≤ a ∧ a < 0x3600 then
    16 * bit1 (!bitAt (viewRd x.ringView (R.RING_RXVj ((a - 0x3500) / 32))) ((a - 0x3500) % 32))
  else 0

/-- The enabled checks that guard task `t`. -/
def State.checksOf (s : State) (t : Nat) : List Nat :=
  (List.range 64).filter (fun k => s.on (F.MILL_CHKk_EN k) && s.get (F.MILL_CHKk_TASK k) == t)

/-- Evaluate the checks of task `t`: failing bits, LOSS and the loss count L (R141, R142). -/
def State.evaluate (s : State) (t : Nat) : State :=
  let ks := s.checksOf t
  let bad := ks.filter (fun k => s.checkCause t k != 0)
  let u := if ks.any (fun k => !checkedAddr (s.get (F.MILL_CHKk_ADDR k))) then s.set1 F.MILL_STAT_CHK_ERR else s
  let u := u.modTask t (fun x => { x with fails := bad.foldl (fun b k => b ||| (1#64 <<< k)) 0 })
  let was := s.get (F.MILL_TASKt_STAT_L t)
  match bad with
  | [] => (u.put (F.MILL_TASKt_STAT_L t) 0).clr (F.MILL_TASKt_STAT_LOSS t)
  | k :: _ =>
    let cause := s.checkCause t k
    let u := (u.put (F.MILL_TASKt_LOSS_CHECK t) k).put (F.MILL_TASKt_LOSS_CAUSE t) cause
    let u := (u.incS (F.MILL_TASKt_LOSS_FRAMES t)).put (F.MILL_TASKt_STAT_L t) (min 255 (was + 1))
    let u := u.set1 (F.MILL_TASKt_STAT_LOSS t)
    if was = 0 then (u.raise 0x5B).log 0x0010 5 .warn [BitVec.ofNat 8 t, BitVec.ofNat 8 k, BitVec.ofNat 8 cause] else u

/-- The input instant of task `t`: the view, with what is published by then, the requests that arrived before, the checks, and the ends of HOLD
and TRIP (R132, R139, R141, R142, R160). DEDUCED: log entry 9. -/
def State.inputInstant (s : State) (t : Nat) : State :=
  let s := s.publishWindows
  let x := s.task t
  let late := fun (l : List Nat) => l.filter (fun a => s.count ≤ a)
  let taken := fun (l : List Nat) => l.any (fun a => a < s.count)
  if s.millRuns && x.inFrame && !x.inputDone && s.due (x.start + 64) then
    let u := s.modTask t (fun y => { y with inputDone := true, view := s.regs, swap := late y.swap, revert := late y.revert })
    let u := if taken x.swap then u.setBank t (!s.on (F.MILL_TASKt_STAT_BANK t)) else u
    let u := if taken x.revert && s.on (F.MILL_TASKt_STAT_FALLBACK t) then
        (u.clr (F.MILL_TASKt_STAT_FALLBACK t)).setBank t (x.savedBank == 1)
      else u
    let u := u.evaluate t
    if u.get (F.MILL_TASKt_STAT_L t) = 0 then
      let u := u.clr (F.MILL_TASKt_STAT_HOLDING t)
      if taken x.resume then (u.clr (F.MILL_TASKt_STAT_TRIPPED t)).modTask t (fun y => { y with resume := late y.resume }) else u
    else u
  else s

/-- The policy in effect: 0 HOLD, 1 FALLBACK, 2 TRIP. -/
def State.policyOf (s : State) (t : Nat) : Nat := min 2 (s.get (F.MILL_TASKt_POL_POLICY t))

/-- The policy is due to act at this input instant (R142). -/
def State.policyDue (s : State) (t : Nat) : Bool :=
  let x := s.task t
  s.millRuns && x.inFrame && x.inputDone && !x.acted && !x.started && s.lossN t ≤ s.get (F.MILL_TASKt_STAT_L t)

/-- The legs whose compare words task `t` owns. -/
def State.legsOf (s : State) (t : Nat) : Nat :=
  (List.range 24).foldl (fun m l =>
    if s.stagedOwner (2 * l) == some t || s.stagedOwner (2 * l + 1) == some t then m + 2 ^ l else m) 0

/-- HOLD acts (R142). -/
def State.policyHold (s : State) (t : Nat) : State :=
  if s.policyDue t && s.policyOf t == 0 then
    let u := s.modTask t (fun x => { x with acted := true, skipped := true })
    if s.on (F.MILL_TASKt_STAT_HOLDING t) then u else (u.set1 (F.MILL_TASKt_STAT_HOLDING t)).raise 0x5C
  else s

/-- FALLBACK acts (R142). -/
def State.policyFallback (s : State) (t : Nat) : State :=
  if s.policyDue t && s.policyOf t == 1 then
    let u := s.modTask t (fun x => { x with acted := true })
    let u := if s.on (F.MILL_TASKt_STAT_FALLBACK t) then u else
      ((u.modTask t (fun x => { x with savedBank := s.get (F.MILL_TASKt_STAT_BANK t) })).set1 (F.MILL_TASKt_STAT_FALLBACK t)).raise 0x5C
    u.setBank t (s.on (F.MILL_TASKt_POL_FB_BANK t))
  else s

/-- TRIP acts (R142). -/
def State.policyTrip (s : State) (t : Nat) : State :=
  if s.policyDue t && s.policyOf t == 2 then
    let u := (s.modTask t (fun x => { x with acted := true, skipped := true })).blockLegs .mill (s.legsOf t)
    if s.on (F.MILL_TASKt_STAT_TRIPPED t) then u else
      let v := (u.set1 (F.MILL_TASKt_STAT_TRIPPED t)).raise 0x5D
      v.log 0x0011 5 .error (BitVec.ofNat 8 t :: leBytes 4 (v.rd (R.MILL_TASKt_LOSS t)).toNat)
  else s

/-- No policy keeps task `t` from running in this frame. -/
def State.mayRun (s : State) (t : Nat) : Bool :=
  !s.on (F.MILL_TASKt_STAT_HOLDING t) && !s.on (F.MILL_TASKt_STAT_TRIPPED t) &&
    (s.get (F.MILL_TASKt_STAT_L t) < s.lossN t || s.policyOf t == 1)

/-- The start cycle of task `t` (R133, R137). -/
def State.taskStart (s : State) (t : Nat) : State :=
  let x := s.task t
  if s.millRuns && x.inFrame && x.inputDone && !x.started && s.due (x.start + s.taskOffset t) then
    let u := s.modTask t (fun y => { y with started := true })
    if !s.mayRun t then u.modTask t (fun y => { y with skipped := true })
    else if s.mill.running.isSome then (u.overrun t false).modTask t (fun y => { y with skipped := true })
    else
      let u := u.modMill (fun m => { m with
        lanes := List.replicate 4 {}, results := [], stores := [], running := some t
        pc := s.get (F.MILL_TASKt_ENTRY_ENTRY t) })
      let u := u.fetchBundle
      (u.put F.MILL_STAT_TASK t).set1 F.MILL_STAT_BUSY
  else s

/-- END executes (R136). DEDUCED: log entry 18. -/
def State.taskEnd (s : State) (t : Nat) : State :=
  ((s.modMill (fun m => { m with ending := some t })).modTask t (fun x => { x with ended := true })).clr (F.MILL_TASKt_STAT_ACTIVE t)

/-- The executing task has passed bundle 4,095 without END (R133). -/
def State.programEnd (s : State) : State :=
  match s.mill.running with
  | some t => if 4096 ≤ s.mill.pc ∧ s.mill.ending = none then s.millHalt.taskFlags t illegal else s
  | none => s

/-- A staged word takes effect at its destination (R135). -/
def State.commitWord (s : State) (i : Nat) : State :=
  let w := wordGet s.mill.staged i
  if i < 48 then s.loadShadow (i / 2) (i % 2 == 1) w
  else if i < 52 then s.steer (i - 48) w
  else if i < 192 then s.wr (R.RING_TXWw (i - 64)) w
  else s.wr (R.MILL_OUTn (i - 192)) w

/-- The frame of task `t` has its commit instant at the present commit phase of its carrier (R134).
DESIGN CHOICE: log entry 4. DEDUCED: log entry 18. -/
def State.commitDue (s : State) (t c : Nat) : Bool :=
  let x := s.task t
  x.inFrame && !x.committed && s.taskCar t == c && s.due (x.start + s.taskCper t * s.carPeriod c)

/-- The words that task `t` commits, ascending. -/
def State.committing (s : State) (t : Nat) : List Nat :=
  (List.range 256).filter (fun i => i ∈ s.mill.written && s.stagedOwner i == some t)

/-- The commit of task `t`: its words, or an overrun when END has not executed (R16, R135, R143). DEDUCED: log entry 18. -/
def State.taskCommit (s : State) (t c : Nat) : State :=
  if s.commitDue t c then
    let x := s.task t
    let u := s.modTask t (fun y => { y with committed := true })
    if x.skipped then u
    else if x.ended then (s.committing t).foldl State.commitWord u
    else u.overrun t false
  else s

/-- The compare words that tasks commit at the present commit phase of carrier `c`, in ascending leg order. -/
def State.committedCompares (s : State) (c : Nat) : List Word :=
  ((List.range 48).filter (fun i => (List.range 8).any (fun t =>
    s.commitDue t c && (s.task t).ended && !(s.task t).skipped && (s.committing t).contains i))).map
      (fun i => wordGet s.mill.staged i)

/-- The commit instant of carrier `c` for the Mill, and the digest of it (R63, R135). -/
def State.millCommit (s : State) (c : Nat) : State :=
  if s.millRuns then
    let ws := s.committedCompares c
    (s.forAll 8 (fun t u => u.taskCommit t c)).digest c ws
  else s

/-- An uncorrectable error in a Mill memory (R138). DEDUCED: log entry 18. -/
def State.millFatal (s : State) : State :=
  let legs := (List.range 24).foldl (fun m l =>
    if (s.stagedOwner (2 * l)).isSome || (s.stagedOwner (2 * l + 1)).isSome then m + 2 ^ l else m) 0
  (s.millStop.blockLegs .mill legs).set1 F.MILL_STAT_ECC_FATAL

/-! ### Requests (R139, R142) -/

/-- A swap is requested of every task of a mask. -/
def State.requestSwap (s : State) (mask : Nat) : State :=
  s.forAll 8 (fun t u => if mask.testBit t then u.modTask t (fun x => { x with swap := x.swap ++ [s.count] }) else u)

/-- RESUME is written for every task of a mask. -/
def State.requestResume (s : State) (mask : Nat) : State :=
  s.forAll 8 (fun t u => if mask.testBit t then u.modTask t (fun x => { x with resume := x.resume ++ [s.count] }) else u)

/-- A write of MILL_TASKt_CTRL. -/
def State.taskCtrl (s : State) (t : Nat) (v : Word) : State :=
  s.modTask t (fun x => { x with
    resume := if bitAt v 0 then x.resume ++ [s.count] else x.resume
    swap := if bitAt v 1 then x.swap ++ [s.count] else x.swap
    revert := if bitAt v 2 then x.revert ++ [s.count] else x.revert })

end Sys2Proof.Machine
end

