-- ==== Sys2Proof/Machine/Admission.lean ====
section
/-! DEFINITION. Machine/Admission.lean: the checks of R51 on a candidate: a state whose registers, program and coefficient
banks are those that would become live. Each check answers the index of the offending item, or `none`. -/

namespace Sys2Proof.Machine

/-- The lowest number below `n` that fails a test. -/
def firstFail (n : Nat) (fails : Nat → Bool) : Option Nat := (List.range n).find? fails

/-! ### What a program does in every run (R133, R136)

A program has no branches and its address registers start at 0 and change by immediates, table lengths and fixed steps, so the
bundle that ends it and every address it loads from are known before it runs. -/

/-- One bundle: the address registers of the lanes after it, the addresses it loads from, and whether it holds END. -/
def scanBundle (bank : WordStore) (b : BitVec 128) (regs : List (List Nat)) : List (List Nat) × List Nat × Bool :=
  let step := fun ln =>
    let x := slotOf ((b >>> (32 * ln)).setWidth 32)
    let ptr := fun r => nth (nth regs ln []) r 0
    let bump := fun n => upd (nth regs ln []) x.ar (fun p => (p + n) % 65536)
    let table := max 2 (min 2045 (wordGet bank ((ptr x.ar + 2) % 2048)).toNat)
    let next :=
      if x.void then nth regs ln []
      else if x.op = 0x18 then upd (nth regs ln []) (x.d % 4) (fun _ => x.imm)
      else if x.pi ∧ x.op = 0x1D then bump 5
      else if x.pi ∧ x.op = 0x1F then bump (table + 3)
      else if x.pi ∧ x.ls ≠ 0 then bump 1
      else nth regs ln []
    (next, if x.ls = 1 ∧ !x.void then [ptr x.ar] else [], x.op == 0x22)
  let all := [0, 1, 2, 3].map step
  (all.map (·.1), all.flatMap (·.2.1), all.any (·.2.2))

/-- The bundle at which a program entered at `pc` ends, counted from its first as 0, and the addresses it loads from; `none` when
no END comes. -/
def scanProgram (prog : List (Nat × BitVec 128)) (bank : WordStore) :
    Nat → Nat → Nat → List (List Nat) → List Nat → Option (Nat × List Nat)
  | 0, _, _, _, _ => none
  | fuel + 1, pc, k, regs, reads =>
    let (next, more, stop) := scanBundle bank (cellGet (fun _ => 0) prog pc) regs
    let all := reads ++ more.filter (fun a => !reads.contains a)
    if stop then some (k, all) else scanProgram prog bank fuel (pc + 1) (k + 1) next all

/-- The program of task `t` with one bank. -/
def State.scan (s : State) (t : Nat) (bank : WordStore) : Option (Nat × List Nat) :=
  let entry := s.get (F.MILL_TASKt_ENTRY_ENTRY t)
  scanProgram s.mill.prog bank (4096 - entry) entry 0 (List.replicate 4 [0, 0, 0, 0]) []

/-- The bundle that ends task `t`. -/
def State.lastBundle (s : State) (t : Nat) : Option Nat := (s.scan t s.mill.bankA).map (·.1)

/-- WCET of task `t`: the cycle of its END, counted from frame start (R136). DEDUCED: log entry 12. -/
def State.wcet (s : State) (t : Nat) : Option Nat := (s.lastBundle t).map (fun k => s.taskOffset t + k)

/-- The addresses task `t` loads from, with either bank, and those its enabled checks name. -/
def State.taskReads (s : State) (t : Nat) : List Nat :=
  let loads := fun bank => match s.scan t bank with
    | some x => x.2
    | none => []
  loads s.mill.bankA ++ loads s.mill.bankB ++
    (s.checksOf t).map (fun k => s.get (F.MILL_CHKk_ADDR k))

/-- Task `t` is enabled. -/
def State.taskOn (s : State) (t : Nat) : Bool := s.on (F.MILL_TASKt_BIND_EN t)

/-- The carrier is enabled. -/
def State.carOn (s : State) (c : Nat) : Bool := s.on (F.LOOM_CARc_EN c)

/-! ### Check 0x01: task deadline -/

/-- The distance from frame start to the commit instant (R134). -/
def State.commitDistance (s : State) (t : Nat) : Nat :=
  let p := s.carPeriod (s.taskCar t)
  let base := if s.on (F.MILL_TASKt_BIND_EDGE t) then p / 2 else 0
  let co := s.commitCycle (s.taskCar t)
  let goal := base + s.taskCper t * p
  let k := if goal ≤ co then 0 else (goal - co + p - 1) / p
  co + k * p - base

/-- Check 0x01 of R51. DEDUCED: log entry 12. -/
def State.deadlineFails (s : State) (t : Nat) : Bool :=
  s.taskOn t && match s.wcet t with
    | some w => decide (s.commitDistance t < w + 8)
    | none => true

/-! ### Check 0x02: Mill schedule (R138) -/

/-- When a carrier's EN took effect; `none` for one that the candidate itself starts. -/
def State.carEpoch (s : State) (c : Nat) : Option Nat := if s.carState c = 0 then none else some (s.car c).startAt.toNat

/-- The Loom fixes the relative phase of two carriers. -/
def State.phaseFixed (s : State) (c d : Nat) : Bool :=
  c == d || (s.on (F.LOOM_CARc_SYNC c) && s.on (F.LOOM_CARc_SYNC d)) ||
    (!s.on (F.LOOM_CARc_SYNC c) && !s.on (F.LOOM_CARc_SYNC d) && s.carEpoch c == s.carEpoch d)

/-- Where event 0 of a carrier stands, on the common count of carriers with a fixed relative phase. -/
def State.carBase (s : State) (c : Nat) : Nat :=
  if s.on (F.LOOM_CARc_SYNC c) then s.get (F.LOOM_PHOFFc_PHOFF c) % s.carPeriod c else 0

/-- The first frame start of task `t`, on the same count, and the time from one frame start to the next. DEDUCED: log entry 11. -/
def State.frameBase (s : State) (t : Nat) : Nat :=
  let p := s.carPeriod (s.taskCar t)
  s.carBase (s.taskCar t) + (if s.on (F.MILL_TASKt_BIND_EDGE t) then p / 2 else 0) + s.taskPhase t * p
def State.framePeriod (s : State) (t : Nat) : Nat := s.taskDiv t * s.carPeriod (s.taskCar t)

/-- Cycles task `t` executes for. -/
def State.taskLength (s : State) (t : Nat) : Nat :=
  match s.lastBundle t with
  | some k => k + 1
  | none => 4096

/-- Two tasks execute in one cycle somewhere in the hyperperiod: the differences of their start cycles are all the numbers
congruent to one difference modulo the greatest common divisor of their frame periods. -/
def State.overlap (s : State) (t u : Nat) : Bool :=
  let g := Nat.gcd (s.framePeriod t) (s.framePeriod u)
  let r := (((s.frameBase u + s.taskOffset u : Nat) : Int) - ((s.frameBase t + s.taskOffset t : Nat) : Int)) % (g : Int)
  decide (r < s.taskLength t) || decide ((g : Int) - r < s.taskLength u)

/-- Task `t` owns a compare word of a leg of another carrier, or a steer word of a set of another carrier. -/
def State.ownsForeign (s : State) (t : Nat) : Bool :=
  let owns := fun i => s.stagedOwner i == some t
  (List.range 24).any (fun l => (owns (2 * l) || owns (2 * l + 1)) && s.legCar l != s.taskCar t) ||
    (List.range 4).any (fun k => owns (0x30 + k) && s.get (F.WVN_SETs_CFG_CAR k) != s.taskCar t)

/-- Check 0x02 of R51. A word has one owner, so its third condition always holds. -/
def State.scheduleFails (s : State) (t : Nat) : Bool :=
  s.taskOn t &&
    (s.ownsForeign t || decide (s.framePeriod t < s.taskLength t) ||
      (List.range 8).any (fun u => u != t && s.taskOn u &&
        (!s.phaseFixed (s.taskCar t) (s.taskCar u) || s.overlap t u)))

/-! ### Check 0x03: window coverage -/

/-- A task reads window `w`. -/
def State.windowRead (s : State) (w : Nat) : Bool :=
  (List.range 8).any (fun t => s.taskOn t && (s.taskReads t).any (fun a => 0x3000 ≤ a && a < 0x3400 && (a - 0x3000) / 16 == w))

/-- Cycles from the open to the close of window `w` (R81). -/
def State.windowSpan (s : State) (w : Nat) : Nat :=
  let c := s.get (F.PRISM_WINw_CFG_CAR w)
  let a := s.get (F.PRISM_WINw_PH_START w)
  let b := s.get (F.PRISM_WINw_PH_END w)
  if a < b then s.phaseCycle c b - s.phaseCycle c a else s.carPeriod c - s.phaseCycle c a + s.phaseCycle c b

/-- Window `w` is enabled in the candidate. -/
def State.winEnabled (s : State) (w : Nat) : Bool := s.on F.PRISM_CTRL_EN && s.on (F.PRISM_WINw_CFG_EN w)

/-- Check 0x03 of R51: a window that never closes has not closed by frame start. DEDUCED: log entry 12. -/
def State.windowFails (s : State) (w : Nat) : Bool :=
  s.windowRead w && !(s.winEnabled w && s.carOn (s.get (F.PRISM_WINw_CFG_CAR w)) && 32 ≤ s.windowSpan w)

/-! ### Check 0x04: acquisition schedule -/

/-- The entries of a TABLE loop from `e` (R68, R69). -/
def State.loopFrom (s : State) : Nat → Nat → List Nat
  | 0, _ => []
  | fuel + 1, e => e :: (if s.on (F.ACQ_SEQi_LAST e) || e = 1023 then [] else State.loopFrom s fuel (e + 1))

/-- The channels slice `n` converts, resolved under R65. -/
def State.sliceChans (s : State) (n : Nat) : List Nat :=
  let named :=
    match s.get (F.ACQ_SLCn_MODE n) with
    | 1 => [s.get (F.ACQ_SLCn_CHAN n)]
    | 2 => (s.loopFrom 1024 (s.get (F.ACQ_SLCn_START n))).map (fun e => s.get (F.ACQ_SEQi_CHAN e))
    | _ => []
  (named.filter (· < 96)).map (fun c => (s.resolve c).1)

/-- Some slice converts channel `c`; none does while EN is 0. DESIGN CHOICE: log entry 72. -/
def State.converted (s : State) (c : Nat) : Bool :=
  s.on F.ACQ_CTRL_EN && (List.range 16).any (fun n => (s.sliceChans n).contains c)

/-- The streams a meter uses: 0 to 3 an AC meter, 4 to 7 a DC meter. -/
def State.meterStreams (s : State) (n : Nat) : List Nat :=
  if n < 4 then (List.range 6).map (fun c =>
    if c < 3 then s.get ⟨R.GRN_ACm_STRV n, 8 * c, 6⟩ else s.get ⟨R.GRN_ACm_STRI n, 8 * (c - 3), 6⟩)
  else [s.get (F.GRN_DCm_STR_S0 (n - 4)), s.get (F.GRN_DCm_STR_S1 (n - 4))]

/-- A set and a meter are enabled in the candidate. -/
def State.setEnabled (s : State) (k : Nat) : Bool := s.bit R.WVN_CTRL k
def State.meterEnabled (s : State) (n : Nat) : Bool := s.bit R.GRN_CTRL n

/-- Check 0x04 of R51: windows, then sets, then meters, then slices. DESIGN CHOICE: log entry 81. -/
def State.acquisitionFails (s : State) : Option Nat :=
  let win := firstFail 64 (fun w => s.winEnabled w && (List.range (s.winNch w)).any (fun m => !s.converted (s.winChan w m)))
  let set := firstFail 4 (fun k => s.setEnabled k &&
    (List.range 6).any (fun r => (r < 3 || s.on (F.WVN_SETs_CFG_CUR_EN k)) && !s.converted (s.setChan k r)))
  let meter := firstFail 8 (fun n => s.meterEnabled n &&
    (s.meterStreams n).any (fun k => k < 40 && s.on (F.PRISM_STRk_EN k) && !s.converted (s.get (F.PRISM_STRk_CHAN k))))
  let slice := firstFail 16 (fun n => s.get (F.ACQ_SLCn_MODE n) == 2 && (s.sliceChans n).isEmpty)
  ((win.or set).or meter).or slice

/-! ### Checks 0x05 and 0x06: observer binding, Loom consistency -/

/-- Check 0x05 of R51: sets by number, then meters. -/
def State.bindingFails (s : State) : Option Nat :=
  (firstFail 4 (fun k => s.setEnabled k && !s.carOn (s.get (F.WVN_SETs_CFG_CAR k)))).or
    (firstFail 8 (fun n => s.meterEnabled n &&
      (s.meterStreams n).any (fun k => !(k < 40 && s.on F.PRISM_CTRL_EN && s.on (F.PRISM_STRk_EN k)))))

/-- An enabled carrier breaks R184. -/
def State.carrierFails (s : State) (c : Nat) : Bool :=
  let per := s.get (F.LOOM_PERc_PER c)
  let p := s.carPeriod c
  s.carOn c && !(200 ≤ per && per ≤ 1048575 && 1 ≤ s.commitCycle c && s.commitCycle c < p &&
    s.on (F.LOOM_CARc_RELOAD c) && (!s.on (F.LOOM_CARc_SYNC c) || p ≤ 33554432))

/-- An enabled leg breaks R184. -/
def State.legFails (s : State) (l : Nat) : Bool :=
  let dead := s.get (F.LOOM_LEGl_DTH_DT l) + s.get (F.LOOM_LEGl_DTL_DT l)
  s.on (F.LOOM_LEGl_CFG_EN l) && !(s.get (F.LOOM_LEGl_MINP_MINP l) ≤ 128000 &&
    dead + 2 * s.minPulse l ≤ s.halfSpan (s.legCar l))

/-- Check 0x06 of R51: carriers, then legs. DESIGN CHOICE: log entry 81. -/
def State.loomFails (s : State) : Option Nat := (firstFail 8 s.carrierFails).or (firstFail 24 s.legFails)

/-! ### Checks 0x07 and 0x08: the ring (R288 to R290) -/

/-- Size in words of a stream, with SIZE 0 as 1. -/
def streamSize (w : Word) : Nat := max 1 (getBits w 1 4)

/-- Roster entry `e` of a layout. -/
def Layout.entry (x : Layout) (e : Nat) : Word := wordGet x.roster e

/-- Node slot `n` is present. -/
def Layout.has (x : Layout) (n : Nat) : Bool := x.present.getLsbD n

/-- The present node slots, ascending. -/
def Layout.nodes (x : Layout) : List Nat := (List.range 1024).filter x.has

/-- The Roster entries that make up a round, in order (R270). -/
def Layout.slots (x : Layout) : List Nat :=
  x.nodes.flatMap (fun n => ((List.range 6).map (fun k => 6 * n + k)).filter (fun e => bitAt (x.entry e) 0))

/-- B: the bytes of one copy (R288). -/
def Layout.bytes (x : Layout) : Nat :=
  (40 + (x.slots.map (fun e => 4 * (streamSize (x.entry e) + 1))).sum + 7) / 8 * 8

/-- The delays of the links along ring A from the Reeve's port A, in 39 ps units: the larger of the two ends (R288). -/
def ringLinks (reeveA reeveB : Nat) (ms : List RingMember) : List Nat :=
  let outs := reeveA :: ms.map (·.dinA)
  let ins := ms.map (·.dinB) ++ [reeveB]
  List.zipWith max outs ins

/-- The path out to a break and back (R288): residences and link delay with `n` members on it. -/
def breakPath (links : List Nat) (n : Nat) : Rat :=
  ((2 * n - 1 : Nat) : Rat) * 40 + 2 * ((links.take n).sum : Rat) * 5 / 128

/-- T_need in CORE cycles, rounded up (R288). -/
def ringTneed (x : Layout) (reeveA reeveB : Nat) (ms : List RingMember) (brktol : Bool) : Nat :=
  let links := ringLinks reeveA reeveB ms
  let wire := (x.bytes : Rat) * 4 / 5
  let m := ms.length
  let path : Rat :=
    if brktol then
      (List.range (m + 1)).foldl (fun b j => max b (max (breakPath links j) (breakPath links.reverse (m - j)))) 0
    else (m : Rat) * 40 + (links.sum : Rat) * 5 / 128
  ((wire + path + 80) * 2 / 5).ceil.toNat

/-- A ring port is enabled. -/
def State.portOn (s : State) : Port → Bool
  | .a => s.on F.RING_CTRL_EN_A
  | .b => s.on F.RING_CTRL_EN_B
def State.ringOn (s : State) : Bool := s.portOn .a || s.portOn .b

/-- This node's slot and role; role 3 is 0. -/
def State.ringSlot (s : State) : Nat := s.get F.RING_CFG_SLOT
def State.ringRole (s : State) : Nat := s.get F.RING_CFG_ROLE % 3

/-- A task of the candidate reads a receive word, or holds a check on one. -/
def State.ringReader (s : State) (t : Nat) : Bool :=
  s.taskOn t && (s.taskReads t).any (fun a => 0x3500 ≤ a && a < 0x3600)

/-- Frames of task `t` begin strictly between an issue stamp and `need` cycles later (R289): the differences are all the numbers
congruent to one modulo the greatest common divisor of the two periods. -/
def State.frameInRound (s : State) (t need : Nat) : Bool :=
  let c := s.get F.RING_RND_CAR
  let g := if s.phaseFixed c (s.taskCar t) then Nat.gcd (s.framePeriod t) s.ringPeriod else 1
  let r := ((s.frameBase t : Int) - (s.carBase c : Int)) % (g : Int)
  decide ((if r = 0 then (g : Int) else r) < need)

/-- Check 0x07 of R51 with the round time `need`: on the Reeve the round must fit its period; on every node no reading task's
frame begins inside a round. DEDUCED: log entry 12. -/
def State.roundFails (s : State) (need : Nat) : Option Nat :=
  if s.ringRole = 1 ∧ (s.ringPeriod < 1000 ∨ 4 * s.ringPeriod < 5 * need) then some 0
  else firstFail 8 (fun t => s.ringReader t && s.frameInRound t need)

/-- A RING_TXs word as a Roster entry: EN, SIZE and SAFE; a disabled stream is 0. -/
def txEntry (w : Word) : Word := if bitAt w 0 then setBits (setBits 0 0 5 (getBits w 0 5)) 5 1 (getBits w 12 1) else 0

/-- A Roster word as it counts: a disabled entry is 0, and SIZE 0 is 1. -/
def rosterEntry (w : Word) : Word :=
  if bitAt w 0 then setBits (setBits (setBits 0 0 1 1) 1 4 (streamSize w)) 5 1 (getBits w 5 1) else 0

/-- This node's own streams as Roster entries. -/
def State.ownStreams (s : State) : List Word := (List.range 6).map (fun k => rosterEntry (txEntry (s.rd (R.RING_TXs k))))

/-- Check 0x08 of R51 for a layout (R290), with the members in `ms`; its index is a stream, a Roster entry or a node slot. A member's
copy of the layout carries the live generation when it is complete. DEDUCED: log entry 12. DESIGN CHOICE: log entry 81. -/
def State.rosterFails (s : State) (x : Layout) (ms : List RingMember) : Option Nat :=
  let tx := firstFail 6 (fun k => s.on (F.RING_TXs_EN k) && !s.on (F.RING_TXs_SAFE k) &&
    128 < s.get (F.RING_TXs_SRC k) + streamSize (s.rd (R.RING_TXs k)))
  tx.or (
    let sizes := (x.roster.find? (fun p => bitAt p.2 0 && bitAt p.2 5 && streamSize p.2 != 4)).map (·.1)
    let own := firstFail 6 (fun k => x.has s.ringSlot &&
      rosterEntry (x.entry (6 * s.ringSlot + k)) != s.ownStreams.getD k 0)
    let rx := firstFail 64 (fun k => s.on (F.RING_RXk_EN k) && s.get (F.RING_RXk_STREAM k) < 6 &&
      let e := x.entry (6 * s.get (F.RING_RXk_NODE k) + s.get (F.RING_RXk_STREAM k))
      bitAt e 0 && bitAt e 5)
    let empty := (ms.find? (fun m => m.standby && (List.range 6).all (fun k => !bitAt (x.entry (6 * m.slot + k)) 0))).map (·.slot)
    let slots := s.ringSlot :: ms.map (·.slot)
    let twice := slots.find? (fun n => 1 < slots.count n)
    let theirs := (ms.find? (fun m => m.streams != (List.range 6).map (fun k => rosterEntry (x.entry (6 * m.slot + k))))).map (·.slot)
    let standbys := ((ms.filter (·.standby)).drop 1).head?.map (·.slot)
    let stale := if s.get F.RING_STAT_STATE = 3 && !s.ring.liveOk then some 0 else none
    (((((((sizes.or own).or theirs).or rx).or empty).or twice).or standbys).or stale))

/-! ### Checks 0x09 to 0x0B -/

/-- Check 0x09 of R51: R28, DEPTH 3, and the image's trim against the applied one while it would be loaded. -/
def State.clockFails (s : State) (applied : Int) : Bool :=
  let trim := s.getI F.CLK_SYN0_TRIM_TRIM
  (s.on F.CLK_SYN0_SSC_EN && (s.ringOn || s.rd R.GRN_CTRL &&& 0xFF != 0 || s.clk.ramp.running)) ||
    s.get F.CLK_SYN0_SSC_DEPTH == 3 || s.get F.CLK_SYN1_SSC_DEPTH == 3 ||
    (s.get F.CLK_SYN0_DISC_SRC == 0 && !s.clk.ramp.running &&
      !(decide (-30000 ≤ trim) && decide (trim ≤ 30000) && (trim - applied).natAbs ≤ 500))

/-- The DMA channels that the completion of channel `n` triggers (R373). -/
def State.dmaNext (s : State) (n : Nat) : List Nat :=
  (List.range 16).filter (fun m => s.on (F.EVT_SINKk_EN (0x28 + m)) && s.get (F.EVT_SINKk_SRC (0x28 + m)) == 0x90 + n)

/-- The channels reached from a set of channels in at most `fuel` steps. -/
def State.dmaReach (s : State) : Nat → List Nat → List Nat
  | 0, l => l
  | fuel + 1, l => State.dmaReach s fuel (l ++ (l.flatMap s.dmaNext).filter (fun m => !l.contains m))

/-- Channel `n` is on a loop of completions and triggers. -/
def State.dmaLoop (s : State) (n : Nat) : Bool := (s.dmaReach 16 (s.dmaNext n)).contains n

/-- Check 0x0B of R51: a reserved sink enabled, or the lowest sink on a loop through DMA (R373). -/
def State.routingFails (s : State) : Option Nat :=
  ((firstFail 16 s.dmaLoop).map (0x28 + ·)).or (firstFail 128 (fun k => 0x39 ≤ k && s.on (F.EVT_SINKk_EN k)))

/-! ### The verdict (R51, R52) -/

/-- What a candidate is judged by beside itself: the ring layout and members it would have, T_need, the live generation and the
applied trim. -/
structure Judged where
  layout : Layout
  members : List RingMember
  need : Nat
  liveGen : Nat
  applied : Int
  deriving DecidableEq, Repr

/-- The detail word of the first check that fails, 0 when admission passes (R51, R52). DEDUCED: log entry 12. -/
def State.admission (s : State) (j : Judged) : Nat :=
  let fail := fun (code : Nat) (x : Option Nat) => x.map (fun i => code + 65536 * i)
  let flag := fun (b : Bool) => if b then some 0 else none
  let all : List (Option Nat) :=
    [fail 1 (firstFail 8 s.deadlineFails), fail 2 (firstFail 8 s.scheduleFails), fail 3 (firstFail 64 s.windowFails),
     fail 4 s.acquisitionFails, fail 5 s.bindingFails, fail 6 s.loomFails, fail 7 (s.roundFails j.need),
     fail 8 (s.rosterFails j.layout j.members), fail 9 (flag (s.clockFails j.applied)),
     fail 10 (flag (j.liveGen + 1 == 2 ^ 32)), fail 11 s.routingFails]
  (all.findSome? id).getD 0

end Sys2Proof.Machine
end

