-- ==== Sys2Proof/Machine/Guard.lean ====
section
/-! DEFINITION. Machine/Guard.lean: what stands between a bus master and a peripheral register: listing (R6), world (R362),
the blocks' mode rules (R71 and the rules like it) and the block lock (R5), and the store that R2 gives the rest. -/

namespace Sys2Proof.Machine

/-- The bus masters (R349, WLD_FAULT_INFO.MASTER). -/
inductive Master where
  | steward
  | replay
  | dma (ch : Nat)
  deriving DecidableEq, Repr

/-- The code of a master in WLD_FAULT_INFO (R364). -/
def Master.code : Master → Nat
  | .steward => 0
  | .replay => 1
  | .dma n => 16 + n

/-- What becomes of a bus write (R337, R364, R369). -/
inductive WriteResult where
  | written
  | locked
  | unlisted
  | world
  | mode
  | region
  | fixed
  | unmapped
  | mramWrite
  | ecc
  deriving DecidableEq, Repr

/-- The member of an address array that an address is. -/
def idx? (a base stride n : Nat) : Option Nat :=
  if base ≤ a ∧ (a - base) % stride = 0 ∧ (a - base) / stride < n then some ((a - base) / stride) else none

/-- An address is a member of an address array. -/
def isIn (a base stride n : Nat) : Bool := (idx? a base stride n).isSome

/-- Bits of `v` and `old` that differ within a mask. -/
def differs (v old : Word) (mask : Word) : Bool := (v ^^^ old) &&& mask != 0

/-! ### Locks and worlds -/

/-- The LOCK bit of a block is set (R5); PRISM, WVN, ACQ and SAFE have none. -/
def State.blockLocked (s : State) (i : Nat) : Bool :=
  match regRow? (blockBase i) with
  | some r => bitAt r.w1s 31 && bitAt (s.rd (blockBase i)) 31
  | none => false

/-- The bits of a register that its block's set lock freezes (R5). DESIGN CHOICE: log entry 70. -/
def State.frozenBits (s : State) (r : RegRow) : Word :=
  if s.blockLocked (blockIndex r.base) then (if r.lockRws then r.rwl ||| r.rws else r.rwl) else 0

/-- The WLD_BLKWORLD bit of an address's block, as it is in force. -/
def State.blockSecure (s : State) (a : Nat) : Bool := bitAt (s.nowRd R.WLD_BLKWORLD) (blockIndex a)

/-- A non-secure write of `v` is refused by world: the register is Secure, its block's WLD_BLKWORLD bit is set, or an RWS field
would change (R362). -/
def State.worldDenies (s : State) (w : World) (r : RegRow) (a : Nat) (v : Word) : Bool :=
  w == .nonSecure && (r.secure || s.blockSecure a || differs v (s.rd a) r.rws)

/-! ### Mode rules -/

/-- ACQ and PRISM (R71). -/
def State.modeAcq (s : State) (a : Nat) (v : Word) : Bool :=
  let acq := !(s.inService && !s.on F.ACQ_CTRL_EN)
  let prism := !(s.inService && !s.on F.PRISM_CTRL_EN)
  (acq && ((a = R.ACQ_CTRL ∧ differs v (s.rd a) 0xFFFFFFFE) || a = R.ACQ_DIFF0 || a = R.ACQ_DIFF1 ||
    isIn a (R.ACQ_SLCn 0) 4 16 || isIn a (R.ACQ_CHc 0) 4 96 || isIn a (R.ACQ_CORc 0) 4 96 || isIn a (R.ACQ_SEQi 0) 4 1024)) ||
  (prism && ((R.PRISM_WINw_CFG 0 ≤ a && a < R.PRISM_WINw_CFG 64 && (a - R.PRISM_WINw_CFG 0) % 0x20 < 0x18) ||
    isIn a (R.PRISM_STRk 0) 4 40))

/-- The bits of a Weathervane register that R121 exempts: CLR, RESYNC, SCAN_NOW and HOLD. -/
def wvnExempt (a : Nat) : Word :=
  if isIn a (R.WVN_SETs_ISLA 0) 0x100 4 then 0x100
  else if isIn a (R.WVN_SETs_FRT 0) 0x100 4 then 0x4
  else if isIn a (R.WVN_SETs_SHD 0) 0x100 4 then 0x10000
  else if isIn a (R.WVN_MPPm_CFG 0) 0x40 8 then 0x6000000
  else 0

/-- WVN (R121). A write that changes only exempt bits is accepted in any mode. -/
def State.modeWvn (s : State) (a : Nat) (v : Word) : Bool :=
  let touches := wvnExempt a = 0 ∨ differs v (s.rd a) (~~~ wvnExempt a)
  let set := (a - R.WVN_SETs_CFG 0) / 0x100
  let isSet := R.WVN_SETs_CFG 0 ≤ a && a < R.WVN_SETs_CFG 4 && (a - R.WVN_SETs_CFG 0) % 0x100 ≤ 0x40
  let prof := (a - R.WVN_LVs_i 0 0) / 0x100
  let isProf := R.WVN_LVs_i 0 0 ≤ a && a < R.WVN_LVs_i 4 0
  let ch := (a - R.WVN_MPPm_CFG 0) / 0x40
  let isCh := R.WVN_MPPm_CFG 0 ≤ a && a < R.WVN_MPPm_CFG 8 && (a - R.WVN_MPPm_CFG 0) % 0x40 ≤ 0x18
  (isSet && touches && !(s.inService && !s.bit R.WVN_CTRL set)) ||
  (isProf && !(s.inService && !s.bit R.WVN_CTRL prof)) ||
  (isCh && touches && !(s.inService && !s.bit R.WVN_CTRL (8 + ch)))

/-- MILL (R147). -/
def State.modeMill (s : State) (a : Nat) : Bool :=
  !(s.inService && !s.on F.MILL_CTRL_EN) &&
    (isIn a (R.MILL_TASKt_BIND 0) 0x20 8 || isIn a (R.MILL_TASKt_TIME 0) 0x20 8 || isIn a (R.MILL_TASKt_ENTRY 0) 0x20 8 ||
      isIn a (R.MILL_TASKt_POL 0) 0x20 8 || isIn a (R.MILL_CHKk 0) 4 64 || isIn a (R.MILL_STGOWNj 0) 4 32)

/-- LOOM (R170, R172, R180). -/
def State.modeLoom (s : State) (a : Nat) (v : Word) : Bool :=
  let free := fun c => s.inService && !s.on (F.LOOM_CARc_EN c)
  match idx? a (R.LOOM_CARc 0) 0x20 8 with
  | some c =>
    differs v (s.rd a) 0xF &&
      (!free c || (bitAt v 0 && !(200 ≤ s.get (F.LOOM_PERc_PER c) && s.get (F.LOOM_PERc_PER c) ≤ 1048575)))
  | none =>
    if R.LOOM_PERc 0 ≤ a ∧ a < R.LOOM_PERc 8 then !free ((a - R.LOOM_PERc 0) / 0x20)
    else if R.LOOM_LEGl_CFG 0 ≤ a ∧ a < R.LOOM_LEGl_CFG 24 then
      let l := (a - R.LOOM_LEGl_CFG 0) / 0x20
      let o := (a - R.LOOM_LEGl_CFG 0) % 0x20
      if o < 0x10 then !free (s.legCar l)
      else if o = 0x10 then s.stagedOwned (2 * l)
      else if o = 0x14 then s.stagedOwned (2 * l + 1)
      else false
    else false

/-- GDP (R209, R211): TEST is accepted only in SERVICE. -/
def State.modeGdp (s : State) (a : Nat) (v : Word) : Bool :=
  if a = R.GDP_FLT_EN ∨ a = R.GDP_FLT_POL ∨ a = R.GDP_FLT_GLITCH ∨ isIn a (R.GDP_GRPMAPj 0) 4 3 ∨ isIn a (R.GDP_GRPg_CFG 0) 4 8
  then !s.inService
  else match idx? a (R.GDP_GDn_CFG 0) 0x10 8 with
    | some n => !(s.inService && !s.on (F.GDP_GDn_CFG_EN n))
    | none =>
      if R.GDP_LINKn_CFG 0 ≤ a ∧ a < R.GDP_LINKn_CFG 2 then
        let o := (a - R.GDP_LINKn_CFG 0) % 0x20
        if o = 0 then
          (!s.inService && differs v (s.rd a) 0xFF043F01) ||
            (differs v (s.rd a) 0x30000 && !(s.inService || (s.mode == .ready && getBits v 16 2 != 2)))
        else if o = 0x1C then false
        else !s.inService
      else false

/-- CMP (R223). -/
def State.modeCmp (s : State) (a : Nat) (v : Word) : Bool :=
  if a = R.CMP_CTRL then !s.inService && differs v (s.rd a) 0xFFFFFF
  else if isIn a (R.CMP_WINw_CFG 0) 0x10 48 then !s.inService
  else match idx? a (R.CMP_WINw_TH 0) 0x10 48, idx? a (R.CMP_WINw_MASK 0) 0x10 48 with
    | some w, _ => !(s.inService && s.get (F.CMP_WINw_CFG_MODE w) == 0)
    | none, some w => !(s.inService && s.get (F.CMP_WINw_CFG_MODE w) == 0)
    | none, none => false

/-- GRN (R249). -/
def State.modeGrn (s : State) (a : Nat) : Bool :=
  if a = R.GRN_CTRL then !(s.mode == .ready || s.switching)
  else match idx? a (R.GRN_EPOk_CFG 0) 0x10 4, idx? a (R.GRN_EPOk_CONST 0) 0x10 4, idx? a (R.GRN_WCk_CFG 0) 0x10 16 with
    | some k, _, _ => !(s.inService && !s.bit (R.GRN_EPOk_CFG k) 0)
    | none, some k, _ => !(s.inService && !s.bit (R.GRN_EPOk_CFG k) 0)
    | none, none, some k => !(s.inService && !s.bit (R.GRN_WCk_CFG k) 0)
    | none, none, none =>
      if R.GRN_ACm_CFG 0 ≤ a ∧ a < R.GRN_ACm_CFG 4 then
        (a - R.GRN_ACm_CFG 0) % 0x80 != 0x1C && (a - R.GRN_ACm_CFG 0) % 0x80 < 0x44 && !(s.inService && !s.bit R.GRN_CTRL ((a - R.GRN_ACm_CFG 0) / 0x80))
      else if R.GRN_DCm_CFG 0 ≤ a ∧ a < R.GRN_DCm_CFG 4 then
        (a - R.GRN_DCm_CFG 0) % 0x20 < 0x14 && !(s.inService && !s.bit R.GRN_CTRL (4 + (a - R.GRN_DCm_CFG 0) / 0x20))
      else false

/-- SHF (R263). -/
def State.modeShf (s : State) (a : Nat) : Bool :=
  if R.SHF_ENCn_CFG 0 ≤ a ∧ a < R.SHF_ENCn_CFG 2 then
    (a - R.SHF_ENCn_CFG 0) % 0x40 != 0x18 && !(s.inService && !s.bit R.SHF_CTRL ((a - R.SHF_ENCn_CFG 0) / 0x40))
  else if a = R.SHF_EMU_CFG then s.on F.SHF_CTRL_EMU_EN
  else false

/-- RING (R273, R293). -/
def State.modeRing (s : State) (a : Nat) : Bool :=
  let quiet := s.inService && !s.on F.RING_CTRL_EN_A && !s.on F.RING_CTRL_EN_B
  if isIn a R.RING_CFG 4 5 ∨ isIn a (R.RING_TXs 0) 4 6 ∨ isIn a (R.RING_RXk 0) 4 64 then !quiet
  else if isIn a (R.RING_ROSTERe 0) 4 6144 then !(quiet && s.get F.RING_CFG_ROLE == 1)
  else match idx? a (R.RING_TXWw 0) 4 128 with
    | some w => s.stagedOwned (0x40 + w)
    | none => false

/-- The block's mode rule refuses a write of `v` at `a` (R71 and the rules like it; R374 for EVT_SINKk). -/
def State.modeRefuses (s : State) (a : Nat) (v : Word) : Bool :=
  match blockIndex a with
  | 2 => s.modeAcq a v
  | 3 => s.modeAcq a v
  | 4 => s.modeWvn a v
  | 5 => s.modeMill a
  | 6 => s.modeLoom a v
  | 7 => s.modeGdp a v
  | 8 => s.modeCmp a v
  | 9 => s.modeGrn a
  | 10 => s.modeShf a
  | 11 => s.modeRing a
  | 14 => isIn a (R.EVT_SINKk 0) 4 128 && !s.inService
  | _ => false

/-! ### Refused accesses (R364) -/

/-- The REASON code of a refused access. -/
def WriteResult.reason : WriteResult → Nat
  | .world => 1
  | .region => 2
  | .fixed => 3
  | .unmapped => 4
  | .mramWrite => 5
  | .ecc => 6
  | _ => 0

/-- Capture a refused access: the first one loads WLD_FAULT_ADDR and INFO, a later one sets OVR (R364). -/
def State.faultAt (s : State) (m : Master) (w : World) (write : Bool) (a : Nat) (why : WriteResult) : State :=
  if s.on F.WLD_FAULT_INFO_VALID then s.set1 F.WLD_FAULT_INFO_OVR
  else (s.wr R.WLD_FAULT_ADDR (BitVec.ofNat 32 (a / 4 * 4))).load R.WLD_FAULT_INFO
    (BitVec.ofNat 32 (m.code + 32 * bit1 (w == .secure) + 64 * bit1 write + 256 * why.reason + 2 ^ 31))

/-- The Steward meets the uncorrectable words of a range of the MRAM: each is captured (R352, R364). -/
def State.mramMeet (s : State) (a n : Nat) : State :=
  (s.mem.mramBad.filter (fun o => a < o + 8 && o < a + n)).foldl (fun t o => t.faultAt .steward .secure false (0x20000000 + o) .ecc) s

/-! ### The guarded register write -/

/-- What the checks say of a write of `v` at register address `a` (R6, R71, R362), in the order world, listing, mode, lock. -/
def State.checkWrite (s : State) (w : World) (a : Nat) (v : Word) : WriteResult :=
  match regRow? a with
  | none => if w == .nonSecure && s.blockSecure a then .world else .unlisted
  | some r =>
    if s.worldDenies w r a v then .world
    else if s.modeRefuses a v then .mode
    else if differs v (s.rd a) (s.frozenBits r) then .locked
    else .written

/-- The value a write of `v` presents: a set lock keeps the frozen bits as they are (R5), and a W1C bit that hardware has set in this
cycle is not cleared (R3). DEDUCED: log entry 9. DESIGN CHOICE: log entry 70. -/
def State.presented (s : State) (a : Nat) (v : Word) : Word :=
  match regRow? a with
  | none => v
  | some r => let z := s.frozenBits r; ((v &&& ~~~ z) ||| (s.rd a &&& z)) &&& ~~~ (r.w1c &&& s.setNow a)

/-- A set lock freezes all that software can still change of a register, whose LOCK bit may stand in it: its writes have no effect at all
(R2, R5). DESIGN CHOICE: log entry 70. -/
def State.frozenWhole (s : State) (a : Nat) : Bool :=
  match regRow? a with
  | none => false
  | some r =>
    let z := s.frozenBits r
    z != 0 && (r.rw ||| r.rws ||| r.rwl ||| r.w1c ||| (r.w1s &&& ~~~ s.rd a) ||| r.action) &&& ~~~ z == 0

/-- The bits of a register that a write stores (R2): those with code RW, RWL or RWS that no set lock freezes. -/
def State.writable (s : State) (a : Nat) : Word :=
  match regRow? a with
  | none => 0
  | some r => (r.rw ||| r.rwl ||| r.rws) &&& ~~~ s.frozenBits r

/-- The store that the access codes give a write (R2): RW, RWL and RWS bits take the value, W1C bits clear and W1S bits set where
it is 1, RO and WO bits stay. -/
def mergeWrite (r : RegRow) (old v : Word) : Word :=
  let m := r.rw ||| r.rwl ||| r.rws
  (((old &&& ~~~ m) ||| (v &&& m)) &&& ~~~ (v &&& r.w1c)) ||| (v &&& r.w1s)

/-- Store a write by the access codes alone, the W1C failure flags of CLK_STAT among them. DESIGN CHOICE: log entry 79. -/
def State.storePlain (s : State) (a : Nat) (v : Word) : State :=
  match regRow? a with
  | none => s
  | some r => s.wr a (mergeWrite r (s.rd a) v)

/-- What a write that has passed its checks does: nothing at a register that a set lock freezes whole (R2), else the register's own
behaviour `f` on the value presented, and the bits it stores count as written in this cycle (R4). -/
def State.writeThrough (s : State) (a : Nat) (v : Word) (f : State → Word → State) : State :=
  if s.frozenWhole a then s else (f s (s.presented a v)).markWritten a (s.writable a)

/-- A register write by a master: the checks, and then the register's own behaviour `f` on the value that passes. A refusal by
world is captured (R364) and changes nothing else. A write under a set lock that would change frozen bits still stores the free bits
of the same register. DESIGN CHOICE: log entry 70. -/
def State.busReg (s : State) (m : Master) (w : World) (a : Nat) (v : Word) (f : State → Word → State) : State × WriteResult :=
  match s.checkWrite w a v with
  | .written => (s.writeThrough a v f, .written)
  | .locked => (s.writeThrough a v f, .locked)
  | .world => (s.faultAt m w true a .world, .world)
  | r => (s, r)

end Sys2Proof.Machine
end

