-- ==== Sys2Proof/Machine/ClkOps.lean ====
section
/-! DEFINITION. Machine/ClkOps.lean: SYN0 trim, ramp profile and spread spectrum, the timebase's fine steps and its one jump, the
compare and capture units, and the RTC (R22 to R40). -/

namespace Sys2Proof.Machine

/-- Change the clock state. -/
def State.modClk (s : State) (f : Clk → Clk) : State := { s with clk := f s.clk }

/-- Change the ramp engine. -/
def State.modRamp (s : State) (f : Ramp → Ramp) : State := s.modClk (fun c => { c with ramp := f c.ramp })

/-! ### SYN0 (R22 to R29) -/

/-- A write of CLK_SYN0_LOCK: N is stored as the nearer limit of 16 to 4,096 (R22). -/
def State.synLockWrite (s : State) (v : Word) : State :=
  let t := s.storePlain R.CLK_SYN0_LOCK v
  t.put F.CLK_SYN0_LOCK_N (max 16 (min 4096 (t.get F.CLK_SYN0_LOCK_N)))

/-- The applied trim, in 0.01 ppm. -/
def State.trim (s : State) : Int := s.getI F.CLK_SYN0_TRIM_TRIM

/-- Apply a trim. -/
def State.putTrim (s : State) (x : Int) : State := s.put F.CLK_SYN0_TRIM_TRIM (wrapTo 16 x)

/-- The hardware's own trim write: a step of at most 5 ppm, held within ±300 ppm (R24), applied at once.
DESIGN CHOICE: log entry 79. -/
def State.stepTrim (s : State) (d : Int) : State := s.putTrim (clampInt (-30000) 30000 (s.trim + clampInt (-500) 500 d))

/-- A write of CLK_SYN0_TRIM (R23, R24): an accepted trim waits for the next reference edge. DEDUCED: log entry 57. -/
def State.trimWrite (s : State) (v : Word) : State :=
  let x := signed 16 v.toNat
  if s.get F.CLK_SYN0_DISC_SRC = 0 ∧ !s.clk.ramp.running ∧ -30000 ≤ x ∧ x ≤ 30000 ∧ (x - s.trim).natAbs ≤ 500 then
    s.modClk (fun c => { c with trimNext := some x })
  else s.set1 F.CLK_STAT_TRIM_REFUSED

/-- A reference edge applies the trim that waits (R23). -/
def State.refEdge (s : State) : State :=
  match s.clk.trimNext with
  | some x => (s.putTrim x).modClk (fun c => { c with trimNext := none })
  | none => s

/-- A CORE cycle of the reference: an edge comes every 16 cycles while the reference is present (R22, R23). DESIGN CHOICE: log
entry 57. DESIGN CHOICE: log entry 1. DEDUCED: log entry 57. -/
def State.refTick (s : State) : State :=
  if s.clk.refMissing then s
  else if s.clk.refIn = 0 then s.refEdge.modClk (fun c => { c with refIn := 15 })
  else s.modClk (fun c => { c with refIn := c.refIn - 1 })

/-- A ring port is enabled, a Granary meter is enabled (R28). -/
def State.ringEnabled (s : State) : Bool := s.on F.RING_CTRL_EN_A || s.on F.RING_CTRL_EN_B
def State.metersEnabled (s : State) : Bool := s.rd R.GRN_CTRL &&& 0xFF != 0

/-- CLK_SYN0_SSC or CLK_SYN1_SSC takes a value that its check, or admission, has passed (R27, R28). -/
def State.sscStore (s : State) (syn1 : Bool) (v : Word) : State :=
  if syn1 then (s.storePlain R.CLK_SYN1_SSC v).putB F.CLK_STAT_SSC1_ON (bitAt v 0)
  else (s.storePlain R.CLK_SYN0_SSC v).putB F.CLK_STAT_SSC0_ON (bitAt v 0)

/-- A write of CLK_SYN0_SSC or CLK_SYN1_SSC (R27 to R29): refused with DEPTH 3, and on SYN0 when it sets EN against R28. -/
def State.sscWrite (s : State) (syn1 : Bool) (v : Word) : State :=
  let blocked := !syn1 && bitAt v 0 && (s.ringEnabled || s.metersEnabled || s.clk.ramp.running)
  if getBits v 2 2 = 3 ∨ blocked then s.set1 F.CLK_STAT_SSC_REFUSED else s.sscStore syn1 v

/-! ### The ramp profile (R26) -/

/-- The profile stops and the trim stays. -/
def State.rampStop (s : State) : State :=
  (s.modRamp (fun r => { r with running := false, returning := false })).clr F.CLK_STAT_RAMP_BUSY

/-- The profile enters a segment. -/
def State.rampEnter (s : State) (n : Nat) : State :=
  s.modRamp (fun r => { r with seg := n, msLeft := s.get (F.CLK_RAMPSEGn_DUR n) })

/-- START: begin segment 0, or refuse. A profile that runs already begins again, with the present trim as its start trim. DESIGN CHOICE:
log entry 71. -/
def State.rampStart (s : State) : State :=
  if s.get F.CLK_SYN0_DISC_SRC = 0 ∧ !s.on F.CLK_STAT_SSC0_ON then
    let t := s.modRamp (fun _ => { running := true, nextAt := s.count + 400000, startTrim := s.trim })
    (t.rampEnter 0).set1 F.CLK_STAT_RAMP_BUSY
  else s.set1 F.CLK_STAT_RAMP_REFUSED

/-- A write of CLK_RAMP_CTRL: NSEG and END are stored, then START and ABORT act. -/
def State.rampWrite (s : State) (v : Word) : State :=
  let t := s.storePlain R.CLK_RAMP_CTRL v
  let t := t.whenB (bitAt v 0) State.rampStart
  t.whenB (bitAt v 1) State.rampStop

/-- A running segment's ms: its slope within ±500, the trim held at ±30,000 with TRIM_REFUSED (R26). The step is applied at once.
DESIGN CHOICE: log entry 79. -/
def State.rampSlope (s : State) : State :=
  let x := s.trim + clampInt (-500) 500 (s.getI (F.CLK_RAMPSEGn_SLOPE s.clk.ramp.seg))
  let t := (s.putTrim (clampInt (-30000) 30000 x)).modRamp (fun r => { r with msLeft := r.msLeft - 1 })
  t.whenB (decide (x ≤ -30000) || decide (30000 ≤ x)) (·.set1 F.CLK_STAT_TRIM_REFUSED)

/-- A ms of the return to the start trim. -/
def State.rampBack (s : State) : State :=
  let t := s.stepTrim (s.clk.ramp.startTrim - s.trim)
  if t.trim = s.clk.ramp.startTrim then t.rampStop else t

/-- The ms tick of a running profile (R26). -/
def State.rampTick (s : State) : State :=
  let r := s.clk.ramp
  if r.running ∧ s.coreRuns ∧ s.due r.nextAt ∧ (r.returning ∨ 0 < r.msLeft) then
    let t := s.modRamp (fun r => { r with nextAt := r.nextAt + 400000 })
    if r.returning then t.rampBack else t.rampSlope
  else s

/-- The end of a segment, which a segment with DUR 0 reaches at once: the next one, or END (R26). -/
def State.rampSegmentEnd (s : State) : State :=
  let r := s.clk.ramp
  if r.running ∧ s.coreRuns ∧ !r.returning ∧ r.msLeft = 0 then
    if r.seg < s.get F.CLK_RAMP_CTRL_NSEG then s.rampEnter (r.seg + 1)
    else match s.get F.CLK_RAMP_CTRL_END with
      | 1 => if s.trim = r.startTrim then s.rampStop else s.modRamp (fun r => { r with returning := true })
      | 2 => s.rampEnter 0
      | _ => s.rampStop
  else s

/-! ### The timebase (R31 to R34) -/

/-- FINE one unit later; a carry advances COUNT by one extra cycle (R32). -/
def State.fineUp (s : State) : State :=
  if s.clk.fine = 63 then s.modClk (fun c => { c with fine := 0, count := c.count + 1 })
  else s.modClk (fun c => { c with fine := c.fine + 1 })

/-- FINE one unit earlier; a borrow holds COUNT for one cycle (R32). -/
def State.fineDown (s : State) : State :=
  if s.clk.fine = 0 then s.modClk (fun c => { c with fine := 63, hold := true })
  else s.modClk (fun c => { c with fine := c.fine - 1 })

/-- The next CORE cycle: COUNT advances unless a borrow holds it. DESIGN CHOICE: log entry 1. -/
def State.countTick (s : State) : State :=
  if s.clk.hold then s.modClk (fun c => { c with hold := false }) else s.modClk (fun c => { c with count := c.count + 1 })

/-- The latches of a read of CLK_TB_LO (R34). -/
def State.latchTimebase (s : State) : State :=
  (s.wr R.CLK_TB_HI (BitVec.ofNat 32 (s.count / 2 ^ 32))).wr R.CLK_TB_FINE
    (BitVec.ofNat 32 (s.clk.fine.toNat + 65536 * s.clk.epoch.toNat))

/-! ### Compare units (R35, R36) -/

/-- The target of a compare unit. -/
def State.cmpTarget (s : State) (n : Nat) : Nat := (s.rd (R.CLK_CMPn_LO n)).toNat + 2 ^ 32 * (s.rd (R.CLK_CMPn_HI n)).toNat

/-- Store a target. -/
def State.putTarget (s : State) (n t : Nat) : State :=
  (s.wr (R.CLK_CMPn_LO n) (BitVec.ofNat 32 t)).wr (R.CLK_CMPn_HI n) (BitVec.ofNat 32 (t / 2 ^ 32))

/-- A target at or before COUNT: MISSED is set and EN clears (R36). -/
def State.cmpLate (s : State) (n : Nat) : State :=
  if s.cmpTarget n ≤ s.count then (s.set1 (F.CLK_CMPn_CTRL_MISSED n)).clr (F.CLK_CMPn_CTRL_EN n) else s

/-- A write of CLK_CMPn_LO is held until HI is written (R35). -/
def State.cmpHold (s : State) (n : Nat) (v : Word) : State := s.modClk (fun c => { c with cmpHeldLo := upd c.cmpHeldLo n (fun _ => v) })

/-- A write of CLK_CMPn_HI loads both halves (R35, R36): the LO half that was written last, however long ago. DESIGN CHOICE: log
entry 71. -/
def State.cmpLoad (s : State) (n : Nat) (v : Word) : State :=
  ((s.wr (R.CLK_CMPn_LO n) (nth s.clk.cmpHeldLo n 0)).wr (R.CLK_CMPn_HI n) v).cmpLate n

/-- A write of CLK_CMPn_CTRL (R36). A match of this cycle has gone before it, and the 1 that it writes to EN stands, as it does when it
goes first (R4). -/
def State.cmpCtrl (s : State) (n : Nat) (v : Word) : State :=
  let t := s.storePlain (R.CLK_CMPn_CTRL n) v
  let fired := bitAt (s.setNow (R.CLK_CMPn_CTRL n)) 9
  if bitAt v 0 ∧ !s.on (F.CLK_CMPn_CTRL_EN n) ∧ !fired then t.cmpLate n else t

/-- COUNT equals the target: the event, FIRED, and the next target or EN cleared, unless software writes EN in this cycle (R4, R35). A
target that passes while CORE does not run leaves EN set and MISSED clear. DESIGN CHOICE: log entry 71. -/
def State.cmpMatch (s : State) (n : Nat) : State :=
  if s.coreRuns ∧ s.on (F.CLK_CMPn_CTRL_EN n) ∧ s.cmpTarget n = s.count then
    let t := (s.raise (0xE0 + n)).set1 (F.CLK_CMPn_CTRL_FIRED n)
    let per := (s.rd (R.CLK_CMPn_PER n)).toNat
    if per = 0 then t.update (F.CLK_CMPn_CTRL_EN n) 0
    else if marksAt s.cycle.swSet (R.CLK_CMPn_HI n) != 0 then t
    else t.putTarget n (s.cmpTarget n + max 4 per)
  else s

/-! ### Capture units (R37) -/

/-- A capture unit receives an event raised at a COUNT and FINE. -/
def State.capture (s : State) (n : Nat) (e : Raised) : State :=
  if s.on (F.CLK_CAPn_CTRL_EN n) then
    let t := s.whenB (s.on (F.CLK_CAPn_CTRL_VALID n)) (·.set1 (F.CLK_CAPn_CTRL_OVR n))
    let t := (t.wr (R.CLK_CAPn_LO n) (e.count.setWidth 32)).modClk (fun c =>
      { c with capHi := upd c.capHi n (fun _ => (e.count >>> 32).setWidth 32) })
    (t.put (F.CLK_CAPn_CTRL_FINE n) e.fine.toNat).set1 (F.CLK_CAPn_CTRL_VALID n)
  else s

/-- A read of CLK_CAPn_LO latches HI. -/
def State.latchCapture (s : State) (n : Nat) : State := s.wr (R.CLK_CAPn_HI n) (nth s.clk.capHi n 0)

/-- A read of CLK_CAPn_HI clears VALID. -/
def State.takeCapture (s : State) (n : Nat) : State := s.clr (F.CLK_CAPn_CTRL_VALID n)

/-! ### The step at admission to a ring (R33, R171) -/

/-- A running TB carrier stops in the cycle of the step and waits; its legs rest (R171). -/
def State.carrierWaits (s : State) (c : Nat) : State :=
  if s.carState c = 2 ∧ s.on (F.LOOM_CARc_SYNC c) then
    let t := s.put (F.LOOM_CSTATc_STATE c) 1
    (t.forAll 24 (fun l u => if u.legCar l = c then u.restLeg l true else u)).abandonWindows c
  else s

/-- The ring hardware loads COUNT and FINE with a node time in 39 ps units: EPOCH, TB_STEPPED, every capture's VALID, late compare
targets, TB carriers; what else runs keeps its distance from this cycle (`State.rebase`), and running intervals of streams and samples
begin afresh. DESIGN CHOICE: log entry 74. -/
def State.timebaseStep (s : State) (t : Nat) : State :=
  let u := (s.rebase ((t / 64 : Nat) - s.count)).modClk (fun c => { c with
    count := BitVec.ofNat 64 (t / 64), fine := BitVec.ofNat 6 t, epoch := c.epoch + 1, hold := false })
  let u := u.injAnew.set1 F.CLK_STAT_TB_STEPPED
  let u := u.forAll 8 (fun n v => v.takeCapture n)
  let u := u.forAll 16 (fun n v => if v.on (F.CLK_CMPn_CTRL_EN n) then v.cmpLate n else v)
  let u := u.forAll 8 (fun c v => v.carrierWaits c)
  { u with prism := { u.prism with interval := u.count / 12500 }, wvn := { u.wvn with interval := u.count / 5000 } }

/-! ### The RTC (R38 to R40) -/

/-- A write of CLK_RTC_SEC_LO is held (R38). -/
def State.rtcHold (s : State) (v : Word) : State := s.modClk (fun c => { c with rtcHeldLo := v })

/-- Where COUNT stands, while it measures time (R19, R30). -/
def State.rtcMark (s : State) : Option Nat := if s.timebaseRuns then some s.count else none

/-- A write of CLK_RTC_SEC_HI loads the seconds, restarts SUB and clears RTC_BAD (R38, R383). -/
def State.rtcLoad (s : State) (v : Word) : State :=
  (s.modClk (fun c => { c with
    rtcSec := BitVec.ofNat 48 (v.toNat % 65536 * 2 ^ 32 + c.rtcHeldLo.toNat), rtcSub := 0, rtcBase := 0
    rtcAt := s.rtcMark })).clr F.SYS_KCTL_RTC_BAD

/-- A read of CLK_RTC_SEC_LO latches SEC_HI and SUB (R38). -/
def State.latchRtc (s : State) : State :=
  ((s.wr R.CLK_RTC_SEC_HI (BitVec.ofNat 32 (s.clk.rtcSec.toNat / 2 ^ 32))).wr R.CLK_RTC_SUB (BitVec.ofNat 32 s.rtcSubNow)).rtcShown

/-- A read of CLK_RTC_TB_LO latches HI (R40). -/
def State.latchRtcTb (s : State) : State := s.wr R.CLK_RTC_TB_HI (BitVec.ofNat 32 (s.clk.rtcTb.toNat / 2 ^ 32))

/-- The RTC's second boundary: seconds advance, and while CORE runs COUNT is recorded within ±1 cycle (R40). The seconds of the 32 s
interval count from reset, and a load of the RTC leaves them. DESIGN CHOICE: log entries 32 and 71. -/
def State.rtcSecond (s : State) : State :=
  let t := s.modClk (fun c => { c with
    rtcSec := c.rtcSec + 1, rtcSub := 0, rtcBase := 0, rtcAt := s.rtcMark, rtcInterval := c.rtcInterval + 1 })
  if s.coreRuns then
    let at_ := BitVec.ofNat 64 (s.count + Config.rtcOffset s.draws % 3 - 1)
    ((t.modClk (fun c => { c with rtcTb := at_ })).wr R.CLK_RTC_TB_LO (at_.setWidth 32)).drawn
  else t

/-- The end of a 32 s interval: the trim's ticks are added to the sub-second count of the running second, which ends that much earlier,
or removed from it, and it ends that much later (R39). A trim of −128 lies outside the range of the field and counts as −127. DESIGN
CHOICE: log entry 71. -/
def State.rtcTrimInterval (s : State) : State :=
  if 32 ≤ s.clk.rtcInterval then
    let x := max (-127) (s.getI F.CLK_RTC_TRIM_TRIM)
    s.modClk (fun c => { c with
      rtcInterval := 0, rtcBase := c.rtcBase + x, rtcSub := BitVec.ofNat 15 (min 32767 (c.rtcSub.toNat + x.toNat)) })
  else s

end Sys2Proof.Machine
end

