-- ==== Sys2Proof/Machine/SafeOps.lean ====
section
/-! DEFINITION. Machine/SafeOps.lean: the safety island: its two mirrors, inputs, outputs, connections, diagnostics and
parameters (R295 to R320). Times of a mirror are counted in samples of its own clock, 1 µs nominal (R301). -/

namespace Sys2Proof.Machine

def State.modSafe (s : State) (f : Safe → Safe) : State := { s with safe := f s.safe }

/-- The other mirror. -/
def otherMirror : Mirror → Mirror
  | .a => .b
  | .b => .a

def State.mir (s : State) : Mirror → MirrorSt
  | .a => s.safe.a
  | .b => s.safe.b

def State.modMir (s : State) (m : Mirror) (f : MirrorSt → MirrorSt) : State :=
  match m with
  | .a => s.modSafe (fun x => { x with a := f x.a })
  | .b => s.modSafe (fun x => { x with b := f x.b })

/-! ### Parameters (R315) -/

/-- A parameter block is valid: its MAGIC and CRC (R315). -/
def blockValid (b : List Byte) : Bool :=
  b.length == 256 && fieldLe b 0 4 == 0x53464150 && fieldLe b 252 4 == (crc32c (b.take 252)).toNat

/-- PGEN of a block. -/
def blockGen (b : List Byte) : Nat := fieldLe b 4 4

/-- The block a mirror runs from; empty without one. -/
def MirrorSt.block (m : MirrorSt) : List Byte :=
  match m.live with
  | some i => nth m.store i []
  | none => []

def pairType (b : List Byte) (n : Nat) : Nat := byteAt b (20 + 4 * n) % 8
def pairDeb (b : List Byte) (n : Nat) : Nat := byteAt b (21 + 4 * n)
def pairDisc (b : List Byte) (n : Nat) : Nat := byteAt b (22 + 4 * n)
def pairMap (b : List Byte) (n : Nat) : Nat := byteAt b (23 + 4 * n)

/-- The channel of pair `n` is test-pulsed in a mirror, and by which of its two outputs (R300). -/
def pairPulsed (b : List Byte) (m : Mirror) (n : Nat) : Bool := (byteAt b (20 + 4 * n)).testBit (if m = .a then 3 else 4)
def pairPulse (b : List Byte) (m : Mirror) (n : Nat) : Nat := bit1 ((byteAt b (20 + 4 * n)).testBit (if m = .a then 5 else 6))

def outDly (b : List Byte) (k : Nat) : Nat := fieldLe b (68 + 4 * k) 2
def outManual (b : List Byte) (k : Nat) : Bool := (byteAt b (70 + 4 * k)).testBit 0
def outReset (b : List Byte) (k : Nat) : Nat := byteAt b (70 + 4 * k) / 16
def outEdm (b : List Byte) (k : Nat) : Nat := byteAt b (71 + 4 * k) % 16
def outEdmt (b : List Byte) (k : Nat) : Nat := byteAt b (71 + 4 * k) / 16

def connWord (b : List Byte) (c : Nat) : Nat := fieldLe b (96 + 12 * c) 2
def connOn (b : List Byte) (c : Nat) : Bool := (connWord b c).testBit 15
def connNode (b : List Byte) (c : Nat) : Nat := connWord b c % 1024
def connStream (b : List Byte) (c : Nat) : Nat := connWord b c / 1024 % 8
def connCid (b : List Byte) (c : Nat) : Nat := fieldLe b (98 + 12 * c) 2
def connWd (b : List Byte) (c : Nat) : Nat := fieldLe b (100 + 12 * c) 2
def connBits (b : List Byte) (c : Nat) : Nat := fieldLe b (102 + 12 * c) 2 % 8192
def connMap (b : List Byte) (c : Nat) : Nat := byteAt b (104 + 12 * c)

def blockCmpt (b : List Byte) : Nat := byteAt b 14 * 1000
def blockTpw (b : List Byte) : Nat := byteAt b 16 * 10
def blockTpp (b : List Byte) : Nat := fieldLe b 18 2 * 1000
def blockWrapT (b : List Byte) : Nat := fieldLe b 92 2 * 1000000
def blockOvdeb (b : List Byte) : Nat := byteAt b 90

/-- The over-voltage threshold of a mirror in units of 3.0 V / 256: THA or THB (R304). -/
def blockTh (b : List Byte) (m : Mirror) : Nat := byteAt b (if m = .a then 88 else 89)

/-- The mirrors place their frames in own stream `k` (R310). -/
def blockSends (b : List Byte) (k : Nat) : Bool := (byteAt b 10).testBit 7 && byteAt b 10 % 8 == k

/-! ### Commands and the gate-enable (R296, R297) -/

/-- A mirror commands output `k` on: ACTIVE, and the output ON or in DELAY. -/
def MirrorSt.cmd (m : MirrorSt) (k : Nat) : Bool :=
  !m.dead && m.state == .active && ((nth m.outs k {}).st == .on || (nth m.outs k {}).st == .delay)

/-- Output `k` is on in both mirrors. -/
def State.bothOn (s : State) (k : Nat) : Bool := s.safe.a.cmd k && s.safe.b.cmd k

/-- Output `k` stands in ON, not in DELAY, in both mirrors: a demand on it raises 0xF3 again (R305). DEDUCED: log entry 41. -/
def State.bothHold (s : State) (k : Nat) : Bool :=
  s.bothOn k && (nth s.safe.a.outs k {}).st == .on && (nth s.safe.b.outs k {}).st == .on

/-- The gate-enable stands (R296). -/
def State.genOn (s : State) : Bool := s.bothOn 0

/-- Change output `k` of a mirror. -/
def MirrorSt.modOut (m : MirrorSt) (k : Nat) (f : MirOut → MirOut) : MirrorSt := { m with outs := upd m.outs k f }

/-! ### The status window (R320, SAFE registers) -/

def MirState.code : MirState → Nat
  | .boot => 0
  | .unparam => 1
  | .active => 2
  | .fault => 3

def OutSt.code : OutSt → Nat
  | .off => 0
  | .delay => 1
  | .waitReset => 2
  | .on => 3

/-- Restrictiveness in the order OFF, WAIT_RESET, DELAY, ON (R307). -/
def OutSt.rank : OutSt → Nat
  | .off => 0
  | .waitReset => 1
  | .delay => 2
  | .on => 3

/-- The state shown for output `k`. DESIGN CHOICE: log entry 64. -/
def State.outShown (s : State) (k : Nat) : Nat :=
  if s.safe.ofault.getLsbD k then 4 else
    let x := (nth s.safe.a.outs k {}).st
    let y := (nth s.safe.b.outs k {}).st
    if x.rank ≤ y.rank then x.code else y.code

/-- Input fault of pair `n` as a mirror holds it. -/
def MirrorSt.inFault (m : MirrorSt) (n : Nat) : Bool := m.tpf.getLsbD n || m.discf.getLsbD n

/-- Pair `n` demands in mirror `m` (R299, R302, R303). -/
def MirrorSt.pairDemand (x : MirrorSt) (m : Mirror) (n : Nat) : Bool :=
  let ty := pairType x.block n
  let level := x.filt.getLsbD n
  let own := if ty = 2 ∧ m = .b then level else !level
  (ty == 1 || ty == 2 || ty == 3) && (own || x.inFault n || (ty == 3 && x.pend.getLsbD n))

/-- A test-pulse output's level: low in its pulse, and while the supply is absent (R300, R309). -/
def MirrorSt.stp (m : MirrorSt) (k : Nat) : Bool := !m.dead && (nth m.pulses k none).isNone

/-- Any output in DELAY (R319). -/
def State.islandDelay (s : State) : Bool :=
  (List.range 5).any (fun k => (nth s.safe.a.outs k {}).st == .delay || (nth s.safe.b.outs k {}).st == .delay)

/-- SAFE_INA or SAFE_INB. -/
def MirrorSt.window (x : MirrorSt) (m : Mirror) : Word :=
  BitVec.ofNat 32 (x.filt.toNat + 2 ^ 12 * bit1 x.ov + 2 ^ 16 * ofBits ((List.range 12).map (x.pairDemand m)) +
    2 ^ 28 * ofBits [x.stp 0, x.stp 1])

/-- Both mirrors run the same PGEN and CRC. -/
def State.paramMatch (s : State) : Bool :=
  s.safe.a.live.isSome && s.safe.b.live.isSome && s.safe.a.block == s.safe.b.block

/-- Bring the status window in line with the island; the readback bits are written by the scans. DEDUCED: log entry 41. -/
def State.safeShow (s : State) : State :=
  let a := s.safe.a
  let b := s.safe.b
  let any := fun (f : MirOut → Bool) => (a.outs ++ b.outs).any f
  let stat := a.state.code + 4 * b.state.code + 16 * bit1 s.paramMatch +
    32 * bit1 ((a.conns ++ b.conns).any (fun c => c.degraded.isSome)) +
    64 * bit1 (any (fun o => o.dem && (o.st == .off || o.st == .delay))) +
    128 * bit1 ((List.range 12).any (fun n => a.inFault n || b.inFault n)) +
    256 * bit1 (s.safe.ofault != 0) + 512 * bit1 s.islandDelay + 1024 * bit1 s.islandDelay
  let blk := if a.live.isSome then a.block else b.block
  let guard := ofBits ((List.range 12).map (fun n =>
    (pairType a.block n == 3 && a.pend.getLsbD n) || (pairType b.block n == 3 && b.pend.getLsbD n)))
  let conn := fun (f : MirConn → Bool) (m : MirrorSt) => ofBits (m.conns.map f)
  let t := s.wr R.SAFE_STAT (BitVec.ofNat 32 stat)
  let t := (t.wr R.SAFE_PGEN (BitVec.ofNat 32 (blockGen blk))).wr R.SAFE_PCRC (BitVec.ofNat 32 (fieldLe blk 252 4))
  let t := (t.wr R.SAFE_INA (a.window .a)).wr R.SAFE_INB (b.window .b)
  let t := t.wr R.SAFE_INFLT (((a.tpf ||| b.tpf).setWidth 32) ||| ((a.discf ||| b.discf).setWidth 32 <<< 16))
  let t := t.wr R.SAFE_GUARD (BitVec.ofNat 32 guard)
  let t := (t.put F.SAFE_OUT_CMDA (ofBits ((List.range 5).map a.cmd))).put F.SAFE_OUT_CMDB (ofBits ((List.range 5).map b.cmd))
  let t := t.wr R.SAFE_OSTATE (BitVec.ofNat 32 ((List.range 5).foldr (fun k n => n * 8 + t.outShown k) 0))
  let t := t.wr R.SAFE_CONN (BitVec.ofNat 32 (conn (fun c => c.wd.isSome) a + 2 ^ 8 * conn (fun c => c.wd.isSome) b +
    2 ^ 16 * ofBits ((a.conns.zip b.conns).map (fun p => p.1.degraded.isSome || p.2.degraded.isSome)) + 2 ^ 24 * s.safe.cflt.toNat))
  t.wr R.SAFE_DIAG (BitVec.ofNat 32 ((nth a.hist 31 (0, 0)).1 % 256 + 256 * ((nth b.hist 31 (0, 0)).1 % 256)))

/-! ### What follows a change of the commands (R296, R305, R320) -/

/-- What the two mirrors command of output `k`. -/
def State.cmds (s : State) (k : Nat) : Bool × Bool := (s.safe.a.cmd k, s.safe.b.cmd k)

/-- Since `was` a mirror has switched its side of output `k` off, and it is the first to act on the occurrence (R305). -/
def State.outFell (s : State) (was : State) (k : Nat) : Bool :=
  ((was.safe.a.cmd k && !s.safe.a.cmd k) || (was.safe.b.cmd k && !s.safe.b.cmd k)) && (was.bothOn k || !s.safe.spent.getLsbD k)

/-- The bit of a set of numbers below its width. -/
def pick (n : Nat) (f : Nat → Bool) : BitVec n := BitVec.ofNat n (ofBits ((List.range n).map f))

/-- Compare the outputs with what the mirrors had on before: events 0xF0 and 0xF2 for the mirror that acts first, 0xF1, LOOM_STAT.GEN and the cause
SAFE (R305, R320). -/
def State.settleOuts (s : State) (was : State) : State :=
  let gen := s.genOn
  let t := if was.genOn && !gen then (((s.clr F.LOOM_STAT_GEN).blockLegs .safe 0xFFFFFF).gdRefreshAll)
    else if !was.genOn && gen then ((s.set1 F.LOOM_STAT_GEN).gdRefreshAll).raise 0xF1
    else s
  let t := (List.range 5).foldl (fun u k => if s.outFell was k then u.raise (if k = 0 then 0xF0 else 0xF2) else u) t
  let one := fun k => s.safe.a.cmd k != s.safe.b.cmd k
  (t.modSafe (fun x => { x with
    armed := x.armed ||| pick 5 s.bothHold
    spent := pick 5 (fun k => one k && (s.outFell was k || x.spent.getLsbD k)) })).safeShow

/-- Run an island operation and settle what it changed. -/
def State.island (s : State) (f : State → State) : State := (f s).settleOuts s

/-- Event 0xF3: SAFE_STAMP and the demand count (R305). -/
def State.demandEvent (s : State) : State :=
  ((s.wr R.SAFE_STAMP s.shortStamp).incS F.SAFE_CNT_DEMANDS).raise 0xF3

/-! ### Faults (R303, R307, R308) -/

/-- Enter a code in a mirror's history (R308). DEDUCED: log entry 41. -/
def State.diag (s : State) (m : Mirror) (code : Nat) : State :=
  s.modMir m (fun x => { x with hist := (x.hist ++ [(code, s.shortStamp)]).drop (x.hist.length + 1 - 32) })

/-- A mirror's outputs go off, as in every state but ACTIVE; a pulse under way ends unjudged (R297, R309). -/
def MirrorSt.rest (x : MirrorSt) : MirrorSt :=
  { x with outs := List.replicate 5 {}, pulses := List.replicate 2 none, judged := 0, high := 0, cmdDiffers := none }

/-- A FAULT diagnostic: from BOOT or ACTIVE the mirror enters FAULT with its code; the first on the island raises 0xF6, is logged
and sends the device to LIMP (R297, R308, R309). -/
def State.mirrorFault (s : State) (m : Mirror) (code : Nat) : State :=
  let x := s.mir m
  if !x.dead && (x.state == .boot || x.state == .active) then
    let t := (s.diag m code).modMir m (fun x => { x.rest with state := .fault })
    let t := t.modSafe (fun z => { z with armed := 0 })
    if t.safe.faultSaid then t else
      let t := (t.modSafe (fun z => { z with faultSaid := true, limpDue := true })).raise 0xF6
      t.log 0x0050 12 .fault ([BitVec.ofNat 8 (nth t.safe.a.hist 31 (0, 0)).1, BitVec.ofNat 8 (nth t.safe.b.hist 31 (0, 0)).1] ++
        leBytes 4 t.shortStamp.toNat)
  else s

/-- An input fault of pair `n`: both mirrors hold it; a new one is counted and raises 0xF4 (R303). DEDUCED: log entry 41. -/
def State.inputFault (s : State) (n : Nat) (pulse : Bool) : State :=
  let bitN : BitVec 12 := 1#12 <<< n
  let fresh := !(if pulse then s.safe.a.tpf.getLsbD n || s.safe.b.tpf.getLsbD n
    else s.safe.a.discf.getLsbD n || s.safe.b.discf.getLsbD n)
  let f := fun (x : MirrorSt) => { x with
    tpf := if pulse then x.tpf ||| bitN else x.tpf
    discf := if pulse then x.discf else x.discf ||| bitN
    cycled := x.cycled &&& ~~~ bitN, returned := x.returned &&& ~~~ bitN }
  let t := (s.modMir .a f).modMir .b f
  if fresh then (t.incS F.SAFE_CNT_FAULTS).raise 0xF4 else t

/-- The input faults of pair `n` clear on both mirrors. -/
def State.inputClear (s : State) (n : Nat) : State :=
  let bitN : BitVec 12 := 1#12 <<< n
  let f := fun (x : MirrorSt) => { x with
    tpf := x.tpf &&& ~~~ bitN, discf := x.discf &&& ~~~ bitN, returned := x.returned &&& ~~~ bitN }
  (s.modMir .a f).modMir .b f

/-- An output fault of output `k`: both mirrors switch it off (R306, R307). -/
def State.outputFault (s : State) (k : Nat) : State :=
  if s.safe.ofault.getLsbD k then s else
    let bitK : BitVec 5 := 1#5 <<< k
    let off := fun (x : MirrorSt) => x.modOut k (fun o => { o with st := .off, switchedAt := none })
    let t := (s.modMir .a off).modMir .b off
    (t.modSafe (fun z => { z with ofault := z.ofault ||| bitK, armed := z.armed &&& ~~~ bitK })).incS F.SAFE_CNT_FAULTS

/-! ### Inputs (R299 to R304) -/

/-- A mirror that has supply samples and scans. -/
def State.mirRuns (s : State) (m : Mirror) : Bool := !(s.mir m).dead && s.sys.phase != .keep

/-- A sample of one channel: the filtered level changes DEB × 100 µs after the first sample that differed, and with DEB 0 at that one
(R301). DEDUCED: log entry 41. -/
def MirrorSt.sampleChannel (x : MirrorSt) (m : Mirror) (level : Bool) (n : Nat) : MirrorSt :=
  let bitN : BitVec 12 := 1#12 <<< n
  let k := pairPulse x.block m n
  let pulsed := pairPulsed x.block m n
  let high := pulsed && (nth x.pulses k none).isSome && x.judged.getLsbD n && level
  let held := pulsed && decide (x.time < nth x.holds k 0)
  let x := { x with high := if high then x.high ||| bitN else x.high,
                    raw := if level then x.raw ||| bitN else x.raw &&& ~~~ bitN }
  let cnt := if held || level == x.filt.getLsbD n then 0 else nth x.counts n 0 + 1
  if pairDeb x.block n * 100 < cnt then
    { x with filt := if level then x.filt ||| bitN else x.filt &&& ~~~ bitN, counts := upd x.counts n (fun _ => 0) }
  else { x with counts := upd x.counts n (fun _ => cnt) }

/-- A sample of a mirror's twelve channels (R301). -/
def State.inputSample (s : State) (m : Mirror) (levels : BitVec 12) : State :=
  if s.mirRuns m then
    (s.modMir m (fun x =>
      let y := { x with time := x.time + 1 }
      (List.range 12).foldl (fun z n => z.sampleChannel m (levels.getLsbD n) n) y)).safeShow
  else s

/-- A test pulse starts at its phase of TPP (R300). -/
def State.pulseStart (s : State) (m : Mirror) (k : Nat) : State :=
  let x := s.mir m
  let b := x.block
  let phase := if k = 0 then 0 else blockTpp b / 2
  if s.mirRuns m && x.state == .active && blockTpp b != 0 && x.time % blockTpp b == phase && (nth x.pulses k none).isNone then
    (s.modMir m (fun y =>
      let mine := (List.range 12).filter (fun n => pairPulsed b m n && pairPulse b m n == k && pairType b n != 0)
      let mask : BitVec 12 := mine.foldl (fun w n => w ||| (1#12 <<< n)) 0
      { y with
        pulses := upd y.pulses k (fun _ => some y.time)
        holds := upd y.holds k (fun _ => y.time + blockTpw b + 100)
        judged := (y.judged &&& ~~~ mask) ||| (y.raw &&& mask)
        high := y.high &&& ~~~ mask })).safeShow
  else s

/-- A test pulse ends: a judged channel that has not read low takes a test-pulse fault (R300). DEDUCED: log entry 41. -/
def State.pulseEnd (s : State) (m : Mirror) (k : Nat) : State :=
  let x := s.mir m
  let b := x.block
  match nth x.pulses k none with
  | none => s
  | some t0 =>
    if s.mirRuns m && decide (t0 + blockTpw b ≤ x.time) then
      let mine := fun n => pairPulsed b m n && pairPulse b m n == k
      let t := s.modMir m (fun y => { y with
        pulses := upd y.pulses k (fun _ => none), seenLow := y.seenLow ||| pick 12 (fun n => mine n && !x.high.getLsbD n) })
      (t.forAll 12 (fun n u =>
        if mine n && x.judged.getLsbD n && x.high.getLsbD n then u.inputFault n true
        else u)).safeShow
    else s

/-- The mirror's over-voltage comparator: a voltage above the threshold for OVDEB µs is a demand, which ends when it has stood below the threshold
less 30 mV for OVDEB µs (R304). -/
def State.overVoltage (s : State) (m : Mirror) (x : SdcRun) : State :=
  let b := (s.mir m).block
  let th := blockTh b m * 3000000
  let ov := if x.time < blockOvdeb b then (s.mir m).ov
    else if th < x.least * 256 then true
    else if x.most * 256 + 30000 * 256 < th then false
    else (s.mir m).ov
  if s.mirRuns m && (s.mir m).live.isSome then (s.modMir m (fun y => { y with ov := ov })).safeShow else s

/-- Start, keep or end a timer that runs while a condition holds. -/
def timer (on : Bool) (now : Nat) (old : Option Nat) : Option Nat :=
  if on then (match old with | some t => some t | none => some now) else none

/-- The two filtered channels of pair `n` as a mirror sees them after the exchange: A's, then B's. -/
def State.levelsOf (s : State) (m : Mirror) (n : Nat) : Bool × Bool :=
  match m with
  | .a => (s.safe.a.filt.getLsbD n, s.safe.b.shown.getLsbD n)
  | .b => (s.safe.a.shown.getLsbD n, s.safe.b.filt.getLsbD n)

/-- Both channels of pair `n` have been in demand together and have returned: what its faults still wait for begins, in both mirrors (R303). -/
def State.pairReturns (s : State) (n : Nat) : State :=
  let bitN : BitVec 12 := 1#12 <<< n
  let f := fun (x : MirrorSt) => { x with
    cycled := x.cycled &&& ~~~ bitN, returned := x.returned ||| bitN, seenLow := x.seenLow &&& ~~~ bitN }
  (s.modMir .a f).modMir .b f

/-- Every test-pulsed channel of pair `n` has had its pulses seen low since the return, one at the least (R303). DEDUCED: log entry 41. -/
def State.pulsesSeen (s : State) (m : Mirror) (n : Nat) : Bool :=
  let b := (s.mir m).block
  (!pairPulsed b .a n || s.safe.a.seenLow.getLsbD n) && (!pairPulsed b .b n || s.safe.b.seenLow.getLsbD n)

/-- A pair that has returned, its pulses seen low, loses its input faults in this scan (R303). -/
def State.pairHeals (s : State) (m : Mirror) (n : Nat) : State :=
  if (s.mir m).returned.getLsbD n && s.pulsesSeen m n then s.inputClear n else s

/-- Judge pair `n` in a scan of an ACTIVE mirror: discrepancy and agreement timers, reset presses, the open-close cycle
(R301, R302, R303, R306). The result says that the pair has given a reset pulse. -/
def State.judgePair (s : State) (m : Mirror) (n : Nat) : State × Bool :=
  let x := s.mir m
  let ty := pairType x.block n
  let (la, lb) := s.levelsOf m n
  if ty = 0 then (s, false) else
    let bad := if ty = 2 then la == lb else la != lb
    let t := s.modMir m (fun y => { y with
      disagree := upd y.disagree n (timer bad y.time)
      agree := upd y.agree n (timer (!bad) y.time) })
    if ty = 4 then
      let high := la && lb
      let press := match nth x.pressed n none with
        | some t0 => !high && decide (100000 ≤ x.time - t0) && decide (x.time - t0 ≤ 5000000) && !x.inFault n
        | none => false
      (t.modMir m (fun y => { y with pressed := upd y.pressed n (timer high y.time) }), press)
    else if ty = 5 then (t, false)
    else
      let da := !la
      let db := if ty = 2 then lb else !lb
      let bitN : BitVec 12 := 1#12 <<< n
      if da && db then (t.modMir m (fun y => { y with cycled := y.cycled ||| bitN, opened := y.opened ||| bitN }), false)
      else if !da && !db then
        let t := if x.opened.getLsbD n then
            t.modMir m (fun y => { y with opened := y.opened &&& ~~~ bitN, pend := y.pend &&& ~~~ bitN }) else t
        ((if x.cycled.getLsbD n then t.pairReturns n else t).pairHeals m n, false)
      else (t.pairHeals m n, false)

/-- A discrepancy has lasted longer than DISC × 10 ms (R301). -/
def State.discrepancy (s : State) (m : Mirror) (n : Nat) : State :=
  let x := s.mir m
  match nth x.disagree n none with
  | some t0 =>
    if s.mirRuns m && x.state == .active && decide (pairDisc x.block n * 10000 < x.time - t0) then (s.inputFault n false).safeShow else s
  | none => s

/-- A RESET or EDM pair's fault clears after 1 s at one level (R303). -/
def State.faultClear (s : State) (m : Mirror) (n : Nat) : State :=
  let x := s.mir m
  let ty := pairType x.block n
  match nth x.agree n none with
  | some t0 =>
    if s.mirRuns m && x.state == .active && (ty == 4 || ty == 5) && decide (1000000 ≤ x.time - t0) then (s.inputClear n).safeShow else s
  | none => s

/-! ### Connections (R310 to R313) -/

/-- Bytes of words, little-endian. -/
def wordsLe (l : List Word) : List Byte := (l.map (fun w => leBytes 4 w.toNat)).flatten

/-- The CRC word of a safety frame (R310). -/
def frameCrc (cid : Nat) (w : List Word) : Word := crc32c (leBytes 4 (0x53460000 + cid % 65536) ++ wordsLe (w.take 3))

/-- D of a captured frame in Mirror A's form, when connection `c` accepts the frame (R311). -/
def MirConn.accept (x : MirConn) (b : List Byte) (m : Mirror) (c : Nat) (f : SafeRx) : Option (BitVec 16 × BitVec 16) :=
  let w0 := nth f.words 0 0
  let w1 := nth f.words 1 0
  let w2 := nth f.words 2 0
  let lo : BitVec 16 := w1.setWidth 16
  let d := if m = .b then ~~~ lo else lo
  let seq : BitVec 16 := w0.setWidth 16
  let fresh := match x.seq with
    | none => true
    | some q => newer 16 seq.toNat q.toNat
  if f.valid && nth f.words 3 0 == frameCrc (connCid b c) f.words && getBits w0 16 16 == connCid b c &&
      getBits w2 0 10 == connNode b c && bitAt w2 10 == (m == .b) && getBits w1 16 16 == (~~~ lo).toNat && d >>> 14 == 0 && fresh then
    some (d, seq)
  else none

/-- Take the captures handed over since the last scan (R311). -/
def MirrorSt.takeFrames (x : MirrorSt) (m : Mirror) : MirrorSt :=
  let b := x.block
  let take := fun (c : Nat) (k : MirConn) =>
    if connOn b c then
      x.rx.foldl (fun (k : MirConn) f =>
        if f.node == connNode b c && f.stream == connStream b c then
          (match k.accept b m c f with
          | some (d, q) => { k with
              wd := some (x.time + connWd b c * 100), d := d, words := f.words, seq := some q, degraded := none }
          | none => { k with rejects := k.rejects + 1 })
        else k) k
    else k
  { x with conns := (List.range 8).zipWith take x.conns, rx := [] }

/-- D of a frame that the other mirror accepted for connection `c`, as this mirror re-checks it: the CRC, and D with its complement in the form of the
other mirror (R313). -/
def peerD (b : List Byte) (m : Mirror) (c : Nat) (words : List Word) : Option (BitVec 16) :=
  let w1 := nth words 1 0
  let lo : BitVec 16 := w1.setWidth 16
  let d := if m = .a then ~~~ lo else lo
  if nth words 3 0 == frameCrc (connCid b c) words && getBits w1 16 16 == (~~~ lo).toNat && d >>> 14 == 0 then some d else none

/-- The D that a mirror uses for connection `c`: its own, or the other mirror's in degraded operation, re-checked (R313). -/
def State.connD (s : State) (m : Mirror) (c : Nat) : Option (BitVec 16) :=
  let own := nth (s.mir m).conns c {}
  if own.wd.isSome then some own.d
  else if own.degraded.isSome then own.peer.bind (peerD (s.mir m).block m c)
  else none

/-- An intact exchange of a scan brings the other mirror's accepted frames (R313). -/
def State.takePeer (s : State) (m : Mirror) (link : Bool) : State :=
  let oth := (s.mir (otherMirror m)).conns
  if link then s.modMir m (fun x => { x with conns := (List.range 8).zipWith (fun c k =>
    let o := nth oth c {}
    { k with peer := if o.wd.isSome then some o.words else none }) x.conns })
  else s

/-- Connections that both mirrors hold again: their next timeout is a new occurrence (R320). -/
def State.connsBack (s : State) : State :=
  let live := fun (x : MirrorSt) c => (nth x.conns c {}).wd.isSome
  s.modSafe (fun z => { z with told := z.told &&& ~~~ pick 8 (fun c => live z.a c && live z.b c) })

/-- Connection `c` demands in a mirror (R312). -/
def State.connDemand (s : State) (m : Mirror) (c : Nat) : Bool :=
  let b := (s.mir m).block
  connOn b c && (s.safe.cflt.getLsbD c ||
    (match s.connD m c with
    | none => true
    | some d => d.toNat &&& connBits b c != 0 || d.getLsbD 13))

/-- Compare the two mirrors' accepted D of every connection, at a scan (R312). -/
def State.compareConns (s : State) (m : Mirror) : State :=
  let own := (s.mir m).conns
  let oth := (s.mir (otherMirror m)).conns
  let now := (s.mir m).time
  s.modMir m (fun x => { x with conns := (List.range 8).zipWith (fun c k =>
    let o := nth oth c {}
    let both := (nth own c {}).wd.isSome && o.wd.isSome && connOn x.block c
    { k with differs := timer (both && k.d != o.d) now k.differs, equal := timer (both && k.d == o.d) now k.equal }) x.conns })

/-- Connection `c` times out in a mirror: event 0xF5, unless the other mirror, no longer `was`, has raised it for this occurrence; `still` says that the
other's watchdog runs on (R320). -/
def State.connTimesOut (s : State) (c : Nat) (was still : Bool) : State :=
  let bitC : BitVec 8 := 1#8 <<< c
  let t := if was || !s.safe.told.getLsbD c then s.raise 0xF5 else s
  t.modSafe (fun z => { z with told := if still then z.told ||| bitC else z.told &&& ~~~ bitC })

/-- A connection's watchdog expires: degraded operation while the other mirror's runs, else event 0xF5 once, and
degraded operation of the other mirror on this one's D ends (R312, R313). -/
def State.connExpire (s : State) (m : Mirror) (c : Nat) : State :=
  let x := s.mir m
  let k := nth x.conns c {}
  let o := nth (s.mir (otherMirror m)).conns c {}
  match k.wd with
  | some e =>
    if s.mirRuns m && decide (e ≤ x.time) then
      let deg := o.wd.isSome && blockWrapT x.block != 0
      let t := s.modMir m (fun y => { y with conns := upd y.conns c (fun k =>
        { k with wd := none, degraded := if deg then some x.time else none }) })
      let u := t.modMir (otherMirror m) (fun y => { y with conns := upd y.conns c (fun k => { k with degraded := none }) })
      (if deg then t.raise 0xF7 else u.connTimesOut c (o.wd.isSome || o.degraded.isSome) o.wd.isSome).safeShow
    else s
  | none => s

/-- Degraded operation has lasted WRAP_T seconds (R313). -/
def State.connDegradedEnd (s : State) (m : Mirror) (c : Nat) : State :=
  let x := s.mir m
  match (nth x.conns c {}).degraded with
  | some t0 =>
    if s.mirRuns m && decide (t0 + blockWrapT x.block ≤ x.time) then
      let o := nth (s.mir (otherMirror m)).conns c {}
      ((s.modMir m (fun y => { y with conns := upd y.conns c (fun k => { k with degraded := none }) })).connTimesOut c true o.wd.isSome).safeShow
    else s
  | none => s

/-- The mirrors' D have differed for longer than CMPT (R312). -/
def State.connFault (s : State) (c : Nat) : State :=
  let long := fun (x : MirrorSt) => match (nth x.conns c {}).differs with
    | some t0 => decide (blockCmpt x.block < x.time - t0)
    | none => false
  if (long s.safe.a || long s.safe.b) && !s.safe.cflt.getLsbD c then
    (((s.modSafe (fun z => { z with cflt := z.cflt ||| (1#8 <<< c) })).incS F.SAFE_CNT_FAULTS).raise 0xF5).safeShow
  else s

/-- Both mirrors have accepted equal D for 1 s (R312). -/
def State.connFaultClear (s : State) (c : Nat) : State :=
  let long := fun (x : MirrorSt) => match (nth x.conns c {}).equal with
    | some t0 => decide (1000000 ≤ x.time - t0)
    | none => false
  if long s.safe.a && long s.safe.b then (s.modSafe (fun z => { z with cflt := z.cflt &&& ~~~(1#8 <<< c) })).safeShow else s

/-- The safety frame of a mirror, rebuilt at the end of a scan (R310). DEDUCED: log entry 42. -/
def State.buildFrame (s : State) (m : Mirror) : State :=
  let x := s.mir m
  let b := x.block
  let demand := ofBits ((List.range 12).map (x.pairDemand m)) + 2 ^ 12 * bit1 x.ov + 2 ^ 13 * bit1 (x.state == .fault)
  let d : BitVec 16 := if x.state == .active then BitVec.ofNat 16 demand else 0x3FFF
  let d := if m = .b then ~~~ d else d
  let w0 : Word := (x.seq + 1).setWidth 32 ||| BitVec.ofNat 32 (fieldLe b 12 2 * 65536)
  let w1 : Word := d.setWidth 32 ||| ((~~~ d).setWidth 32 <<< 16)
  let w2 : Word := BitVec.ofNat 32 (fieldLe b 8 2 % 1024 + 1024 * bit1 (m == .b))
  s.modMir m (fun y => { y with seq := y.seq + 1, frame := [w0, w1, w2, frameCrc (fieldLe b 12 2) [w0, w1, w2]] })

/-! ### Outputs (R305 to R307) -/

/-- A demand stands on output `k` in a mirror (R305). -/
def State.outDemand (s : State) (m : Mirror) (k : Nat) : Bool :=
  let x := s.mir m
  let b := x.block
  (List.range 12).any (fun n => (pairMap b n).testBit k && x.pairDemand m n) || (x.ov && (byteAt b 91).testBit k) ||
    (List.range 8).any (fun c => (connMap b c).testBit k && s.connDemand m c)

/-- The EDM pair of output `k` is high on both channels and without an input fault, or none is named (R306). -/
def State.edmHigh (s : State) (m : Mirror) (k : Nat) : Bool :=
  let b := (s.mir m).block
  let e := outEdm b k
  e == 15 || (let (la, lb) := s.levelsOf m e; la && lb && !(s.mir m).inFault e)

/-- Output `k` takes a state in a mirror; a change of its command starts the EDM judgement (R306). -/
def State.setOut (s : State) (m : Mirror) (k : Nat) (st : OutSt) : State :=
  let was := (s.mir m).cmd k
  let t := s.modMir m (fun x => x.modOut k (fun o => { o with st := st, delayAt := if st = .delay then x.time else o.delayAt }))
  if (t.mir m).cmd k == was then t else t.modMir m (fun x => x.modOut k (fun o => { o with switchedAt := some x.time }))

/-- One output at the end of a scan of an ACTIVE mirror: `presses` are the pairs that gave a reset pulse, `cut` says that the
cut-path test of a turn-on of GEN passes. The result says that a demand acted on an output that was on in both (R305, R306,
R307, R308). -/
def State.stepOut (s : State) (m : Mirror) (presses : List Nat) (cut : Bool) (k : Nat) : State × Bool :=
  let b := (s.mir m).block
  let dem := s.outDemand m k
  let t := s.modMir m (fun x => x.modOut k (fun o => { o with dem := dem }))
  let press := presses.contains (outReset b k)
  let turnOn := fun (u : State) => if k = 0 ∧ !cut then u.mirrorFault m 0x09 else u.setOut m k .on
  if t.safe.ofault.getLsbD k then
    (if press then t.modSafe (fun z => { z with ofault := z.ofault &&& ~~~(1#5 <<< k) }) else t, false)
  else match (nth (t.mir m).outs k {}).st with
    | .on =>
      if dem then (t.setOut m k (if outDly b k = 0 then .off else .delay), t.safe.armed.getLsbD k) else (t, false)
    | .delay => (t, false)
    | .off =>
      if dem || !t.edmHigh m k then (t, false)
      else if outManual b k then (t.setOut m k .waitReset, false) else (turnOn t, false)
    | .waitReset =>
      if dem || !t.edmHigh m k then (t.setOut m k .off, false)
      else if press then (turnOn t, false) else (t, false)

/-- The five outputs at the end of a scan (R305). DEDUCED: log entry 42. -/
def State.stepOuts (s : State) (m : Mirror) (presses : List Nat) (cut : Bool) : State :=
  let (t, hits) := (List.range 5).foldl (fun (p : State × BitVec 5) k =>
    let (u, hit) := p.1.stepOut m presses cut k
    (u, if hit then p.2 ||| (1#5 <<< k) else p.2)) (s, 0)
  let t := t.modSafe (fun z => { z with armed := z.armed &&& ~~~ hits })
  if hits = 0 then t else t.demandEvent

/-- DLY ms after an output entered DELAY it goes off (R305). -/
def State.delayExpiry (s : State) (m : Mirror) (k : Nat) : State :=
  let x := s.mir m
  let o := nth x.outs k {}
  if s.mirRuns m && x.state == .active && o.st == .delay && decide (o.delayAt + outDly x.block k * 1000 ≤ x.time) then
    s.island (fun t => t.setOut m k .off)
  else s

/-- EDMT × 100 ms after a switching the EDM pair is judged (R306). -/
def State.edmTimeout (s : State) (m : Mirror) (k : Nat) : State :=
  let x := s.mir m
  let b := x.block
  match (nth x.outs k {}).switchedAt with
  | some t0 =>
    if s.mirRuns m && x.state == .active && outEdm b k != 15 && decide (t0 + outEdmt b k * 100000 ≤ x.time) then
      s.island (fun t =>
        let t := t.modMir m (fun y => y.modOut k (fun o => { o with switchedAt := none }))
        let want := !x.cmd k
        let (la, lb) := s.levelsOf m (outEdm b k)
        if la == want && lb == want && !x.inFault (outEdm b k) then t else t.outputFault k)
    else s
  | none => s

/-- Count the scans in which a ball disagrees with its command; bit 5 of `rb` is the internal enable, read with GEN (R307). -/
def State.readBack (s : State) (m : Mirror) (rb : BitVec 6) : State :=
  let x := s.mir m
  let t := s.modMir m (fun y => { y with outs := (List.range 5).zipWith (fun k o =>
    let on := rb.getLsbD k || (k == 0 && rb.getLsbD 5)
    let off := !rb.getLsbD k || (k == 0 && !rb.getLsbD 5)
    { o with strayOn := if on && !x.cmd k then o.strayOn + 1 else 0, strayOff := if off && x.cmd k then o.strayOff + 1 else 0 }) y.outs })
  t.put (if m = .a then F.SAFE_OUT_RBA else F.SAFE_OUT_RBB) (rb.toNat % 32)

/-- A ball has disagreed for 3 scans: stuck on is a FAULT, stuck off an output fault (R307). -/
def State.readbackFault (s : State) (m : Mirror) (k : Nat) : State :=
  let o := nth (s.mir m).outs k {}
  if s.mirRuns m && decide (3 ≤ o.strayOn) then s.island (fun t => t.mirrorFault m 0x03)
  else if s.mirRuns m && (s.mir m).state == .active && decide (3 ≤ o.strayOff) then s.island (fun t => t.outputFault k)
  else s

/-! ### Scans and diagnostics (R305, R308) -/

/-- The end of a scan: heartbeat, the other mirror's FAULT, frames, inputs, outputs, comparisons, readback, exchange and the
mirror's own frame. `link` says that the exchange came intact, `coded` that Mirror A's states are one-hot. DEDUCED: log entry 42. -/
def State.mirrorScan (s : State) (m : Mirror) (rb : BitVec 6) (link coded cut : Bool) : State :=
  let o := otherMirror m
  if s.mirRuns m && decide ((s.mir m).scanAt + 32 ≤ (s.mir m).time) then
    s.island (fun t =>
      let heard := link && (t.mir m).beat
      let t := t.modMir m (fun x => { x with scanAt := x.time, beat := false, missed := if heard then 0 else x.missed + 1 })
      let t := if heard && !(t.mir o).dead && (t.mir o).state == .fault then t.mirrorFault m 0x0C else t
      let t := if m = .a ∧ !coded then t.mirrorFault m 0x08 else t
      let t := (((t.modMir m (fun x => x.takeFrames m)).connsBack).takePeer m link).compareConns m
      let t := if (t.mir m).state == .active then
          let (u, presses) := (List.range 12).foldl (fun (p : State × List Nat) n =>
            let (w, hit) := p.1.judgePair m n
            (w, if hit then n :: p.2 else p.2)) (t, [])
          u.stepOuts m presses cut
        else t
      let differ := (List.range 5).any (fun k => t.safe.a.cmd k != t.safe.b.cmd k) && (t.mir m).state == .active
      let t := t.modMir m (fun x => { x with cmdDiffers := timer differ x.time x.cmdDiffers, shown := x.filt })
      let t := (t.readBack m rb).buildFrame m
      t.modMir o (fun x => { x with beat := true }))
  else s

/-- The mirrors' commands have differed for longer than CMPT (R308). -/
def State.commandDisagree (s : State) (m : Mirror) : State :=
  let x := s.mir m
  match x.cmdDiffers with
  | some t0 =>
    if s.mirRuns m && decide (blockCmpt x.block < x.time - t0) then s.island (fun t => t.mirrorFault m 0x04) else s
  | none => s

/-- Four scans without the other's heartbeat (R308). -/
def State.crossLinkFault (s : State) (m : Mirror) : State :=
  if s.mirRuns m && decide (4 ≤ (s.mir m).missed) then s.island (fun t => t.mirrorFault m 0x02) else s

/-- The other's clock counted over 32,768 own cycles (R308). -/
def State.oscCheck (s : State) (m : Mirror) (n : Nat) : State :=
  let x := s.mir m
  if s.mirRuns m && decide (x.oscAt + 1024 ≤ x.time) then
    let t := s.modMir m (fun y => { y with oscAt := y.time })
    if 29491 ≤ n ∧ n ≤ 36045 then t else t.island (fun u => u.mirrorFault m 0x01)
  else s

/-- The live parameter slot's CRC every 10 s (R308). -/
def State.paramCheck (s : State) (m : Mirror) : State :=
  let x := s.mir m
  if s.mirRuns m && decide (x.paramAt + 10000000 ≤ x.time) then
    let t := s.modMir m (fun y => { y with paramAt := y.time })
    if x.live.isNone || blockValid x.block then t else t.island (fun u => u.mirrorFault m 0x06)
  else s

/-- Mirror B's program ROM every 10 s (R308). -/
def State.romCheck (s : State) (ok : Bool) : State :=
  let x := s.mir .b
  if s.mirRuns .b && decide (x.romAt + 10000000 ≤ x.time) then
    let t := s.modMir .b (fun y => { y with romAt := y.time })
    if ok then t else t.island (fun u => u.mirrorFault .b 0x07)
  else s

/-- A mirror's supply leaves its window: its outputs go off at once (R308). -/
def State.mirrorSupply (s : State) (m : Mirror) : State :=
  if (s.mir m).dead then s
  else s.island (fun t =>
    ((t.diag m 0x05).modMir m (fun x => { x.rest with dead := true, state := .fault })).modSafe (fun z => { z with armed := 0 }))

/-! ### BOOT (R297, R298, R317) -/

/-- A mirror enters BOOT: outputs off, guards pending, connections timed out; input faults and history are kept (R297, R298). -/
def MirrorSt.enterBoot (x : MirrorSt) : MirrorSt :=
  { x.rest with
    state := .boot, pend := 0xFFF, opened := 0, cycled := 0, returned := 0, seenLow := 0
    disagree := List.replicate 12 none, agree := List.replicate 12 none, pressed := List.replicate 12 none
    ov := false, conns := List.replicate 8 {}, rx := [], missed := 0, beat := true }

/-- Output faults that BOOT clears: those of outputs with RESTART AUTO (R307). -/
def State.clearAutoFaults (s : State) : State :=
  let b := if s.safe.a.live.isSome then s.safe.a.block else s.safe.b.block
  let keep := (List.range 5).foldl (fun (w : BitVec 5) k => if outManual b k then w ||| (1#5 <<< k) else w) 0
  s.modSafe (fun z => { z with ofault := z.ofault &&& keep })

/-- Both mirrors with supply enter BOOT, at SAFE_RESTART or a parameter commit; only SAFE_RESTART takes a mirror out of FAULT and clears
output faults (R295, R297, R307, R317). -/
def State.islandBoot (s : State) (restart : Bool) : State :=
  s.island (fun t =>
    let f := fun (x : MirrorSt) => if x.dead || (x.state == .fault && !restart) then x else x.enterBoot
    let t := ((if restart then t.clearAutoFaults else t).modMir .a f).modMir .b f
    t.modSafe (fun z => { z with armed := 0, cflt := 0, told := 0, faultSaid := z.faultSaid && !restart }))

/-- Power-on of a mirror's regulator: everything but its parameter store is lost (R295, R308). -/
def MirrorSt.powerOn (x : MirrorSt) : MirrorSt := { store := x.store }

/-- Power-on of one mirror after a supply fault of it alone (R295). -/
def State.mirrorPowerOn (s : State) (m : Mirror) : State :=
  if (s.mir m).dead && s.sys.phase != .keep then
    s.island (fun t => t.modMir m (fun x => x.powerOn))
  else s

/-- Power-on of both regulators, as a boot from KEEP or a supply begins (R385, R387). -/
def State.islandPowerOn (s : State) : State :=
  s.island (fun t => { t with safe := { a := t.safe.a.powerOn, b := t.safe.b.powerOn } })

/-- Both regulators off, as on entry into KEEP (R295, R319). -/
def State.islandOff (s : State) : State :=
  s.island (fun t =>
    let f := fun (x : MirrorSt) => { x.rest with dead := true }
    (t.modMir .a f).modMir .b f)

/-- The slot of a store that holds a valid block of a generation and CRC. -/
def findBlock (store : List (List Byte)) (g c : Nat) : Option Nat :=
  (List.range 2).find? (fun i => let b := nth store i []; blockValid b && blockGen b == g && fieldLe b 252 4 == c)

/-- The newest valid slot of a store. -/
def newestSlot (store : List (List Byte)) : Option Nat :=
  let v := fun i => blockValid (nth store i [])
  if v 0 && (!v 1 || decide (blockGen (nth store 1 []) ≤ blockGen (nth store 0 []))) then some 0
  else if v 1 then some 1 else none

/-- The highest PGEN that both mirrors hold valid with equal CRC: its slots (R317). -/
def State.commonBlock (s : State) : Option (Nat × Nat) :=
  let cand := (List.range 2).filterMap (fun i =>
    let b := nth s.safe.a.store i []
    if blockValid b then (findBlock s.safe.b.store (blockGen b) (fieldLe b 252 4)).map (fun j => (blockGen b, i, j)) else none)
  (cand.foldl (fun best c => match best with
    | none => some c
    | some d => if d.1 < c.1 then some c else best) none).map (fun c => (c.2.1, c.2.2))

/-- The newest valid slots of the two mirrors differ in PGEN or CRC (R317). -/
def State.newestDiffer (s : State) : Bool :=
  let v := fun (x : MirrorSt) => (newestSlot x.store).map (fun i => (blockGen (nth x.store i []), fieldLe (nth x.store i []) 252 4))
  v s.safe.a != v s.safe.b

/-- A mirror leaves BOOT: FAULT with a self-test's code, ACTIVE with a common block, else UNPARAM (R297, R298). The connections of a block that it has not
run from are timed out (R311). -/
def State.leaveBoot (s : State) (m : Mirror) (code : Nat) : State :=
  let x := s.mir m
  if x.dead || x.state != .boot then s
  else if code ≠ 0 then s.mirrorFault m code
  else if (s.mir (otherMirror m)).dead then s.mirrorFault m 0x02
  else
    let t := if s.newestDiffer then s.diag m 0x0B else s
    match s.commonBlock with
    | some (i, j) => t.modMir m (fun y =>
        let k := if m = .a then i else j
        { y with
          state := .active, live := some k, filt := y.raw, shown := y.raw, counts := List.replicate 12 0
          conns := if nth y.store k [] = y.block then y.conns else List.replicate 8 {} })
    | none => t.modMir m (fun y => { y with state := .unparam, live := none })

/-- The end of BOOT in both mirrors, with the codes of failed self-tests, 0 for none (R298). -/
def State.islandBootEnd (s : State) (codeA codeB : Nat) : State :=
  s.island (fun t => (t.leaveBoot .a codeA).leaveBoot .b codeB)

/-! ### A parameter commit (R317, R318) -/

/-- The first index below `n` that fails, as a detail with a check code. -/
def firstBad (code n : Nat) (bad : Nat → Bool) : Option (Nat × Nat) := ((List.range n).find? bad).map (fun i => (code, i))

/-- The first of two details. -/
def orElse' (a b : Option (Nat × Nat)) : Option (Nat × Nat) :=
  match a with
  | some x => some x
  | none => b

/-- Fields of a block outside their ranges, code 0x04 (R318). DEDUCED: log entry 41. -/
def blockRanges (b : List Byte) : Option (Nat × Nat) :=
  let within := fun (v lo hi : Nat) => decide (lo ≤ v) && decide (v ≤ hi)
  let named := fun (v : Nat) => decide (v < 12) || v == 15
  let whole := within (byteAt b 14) 2 50 && within (byteAt b 16) 10 100 && within (fieldLe b 18 2) 10 1000 &&
    within (byteAt b 88) 1 255 && within (byteAt b 89) 1 255 && within (fieldLe b 92 2) 0 600 &&
    within (byteAt b 10 % 8) 0 5 && decide (4 * (blockTpw b + 100) ≤ blockTpp b)
  if !whole then some (4, 0) else
    orElse' (firstBad 4 12 (fun n => !within (pairDeb b n) 0 100 || !within (pairDisc b n) 1 255 ||
      decide (pairDisc b n * 100 ≤ pairDeb b n)))
    (orElse' (firstBad 4 5 (fun k => !within (outDly b k) 0 10000 || !named (outReset b k) || !named (outEdm b k) ||
      !within (outEdmt b k) 1 15))
    (firstBad 4 8 (fun c => connOn b c && (!within (connWd b c) 20 5000 || !within (connStream b c) 0 5))))

/-- The checks of the mirrors on a block, codes 0x01 to 0x06, against the live PGEN (R318). DEDUCED: log entry 62. -/
def mirrorChecks (b : List Byte) (live : Nat) : Option (Nat × Nat) :=
  if !blockValid b then some (1, 0)
  else if blockGen b ≤ live then some (2, 0)
  else
    orElse' (firstBad 3 12 (fun n =>
      let ty := pairType b n
      decide (6 ≤ ty) || (ty == 2 && pairPulsed b .b n) || ((ty == 4 || ty == 5) && (pairPulsed b .a n || pairPulsed b .b n))))
    (orElse' (blockRanges b)
    (orElse' (firstBad 5 5 (fun k =>
      (outReset b k != 15 && pairType b (outReset b k) != 4) || (outEdm b k != 15 && pairType b (outEdm b k) != 5)))
    (orElse' (firstBad 5 12 (fun n => (pairType b n == 4 || pairType b n == 5) && pairMap b n != 0))
    (orElse' (firstBad 5 5 (fun k => outManual b k && outReset b k == 15))
    (firstBad 6 8 (fun c => connOn b c && (List.range c).any (fun d =>
      connOn b d && connNode b d == connNode b c && connStream b d == connStream b c)))))))

/-- The checks of the Steward: the command's CRC first, then codes 0x07 and 0x08; `rper` is the round period in CORE cycles
(R318). DEDUCED: log entry 62. -/
def State.stewardChecks (s : State) (b : List Byte) (rper : Nat) : Option (Nat × Nat) :=
  let tx := byteAt b 10 % 8
  if (byteAt b 10).testBit 7 && !(s.on (F.RING_TXs_EN tx) && s.on (F.RING_TXs_SAFE tx)) then some (7, 0)
  else if fieldLe b 8 2 % 1024 ≠ s.get F.RING_CFG_SLOT then some (7, 0)
  else firstBad 8 8 (fun c => connOn b c && decide (connWd b c * 40000 < 3 * rper))

/-- A mirror writes a block into its slot with the lower PGEN (R317). -/
def MirrorSt.writeBlock (x : MirrorSt) (b : List Byte) : MirrorSt :=
  let key := fun i => let y := nth x.store i []; if blockValid y then blockGen y + 1 else 0
  { x with store := upd x.store (if key 0 ≤ key 1 then 0 else 1) (fun _ => b) }

/-- Both mirrors have written the block and enter BOOT; a pair that the block gives TYPE OFF loses its input fault (R303, R317). -/
def State.commitBlock (s : State) (b : List Byte) : State :=
  let t := (s.modMir .a (fun x => x.writeBlock b)).modMir .b (fun x => x.writeBlock b)
  let t := t.forAll 12 (fun n u => if pairType b n = 0 then u.inputClear n else u)
  (t.islandBoot false).raise 0xF1

/-- Every output is OFF in both mirrors and without an output fault (R316). -/
def State.allOutsOff (s : State) : Bool :=
  s.safe.ofault == 0 && (s.safe.a.outs ++ s.safe.b.outs).all (fun o => o.st == .off)

end Sys2Proof.Machine
end

