-- ==== Sys2Proof/Machine/RingOps.lean ====
section
/-! DEFINITION. Machine/RingOps.lean: the Pelkin ring at this node (R264 to R294): rounds and copies, the receive view, messages in
the gap, rosters and generations, alignment, locks, breaks. -/

namespace Sys2Proof.Machine

/-- Change the ring state. -/
def State.modRing (s : State) (f : Ring → Ring) : State := { s with ring := f s.ring }

/-- The node's state (R276): 0 OFF, 1 LISTEN, 2 KNOCKING, 3 MEMBER, 4 REEVE. -/
def State.ringState (s : State) : Nat := s.get F.RING_STAT_STATE
def State.ringLive (s : State) : Bool := s.ringState == 3 || s.ringState == 4

/-- The ring runs in READY, RUN, LIMP and SERVICE, and at a MEMBER with DOZE_UP in DOZE; not after a clock failure (R292). -/
def State.ringRuns (s : State) : Bool :=
  s.ringState != 0 && !s.ring.silent &&
    (s.coreRuns || (s.sys.phase == .run && s.mode == .doze && s.ringState == 3 && s.on F.RING_CFG_DOZE_UP))

/-- Raise a ring event and write its log record (R294, R339). -/
def State.ringEvent (s : State) (src : Nat) (sev : Severity) : State :=
  (s.raise src).log 0x0060 11 sev (leBytes 1 src ++ leBytes 4 (s.rd R.RING_ROUND).toNat)

/-- A mean that a register shows in whole units: the nearer whole number below or above is open (R280, R281).
DESIGN CHOICE: log entry 31. -/
def wholeMean (x : Rat) : Int := x.floor + (if x.den = 1 then 0 else if Config.ringUp x then 1 else 0)

/-- The mean of some values; 0 of none. -/
def meanOf (l : List Rat) : Rat := if l.isEmpty then 0 else l.foldl (· + ·) 0 / (l.length : Rat)

/-- Measurements that a mean takes: 2^DFILT (R280, R281). -/
def State.ringDepth (s : State) : Nat := 2 ^ min 8 (s.get F.RING_TIM_DFILT)

/-! ### Ports (R267, R283, R286) -/

/-- The other port. -/
def otherPort : Port → Port
  | .a => .b
  | .b => .a

/-- The WRAP and LOCK bits of a port, and the events of its lost lock. -/
def wrapFld : Port → Fld
  | .a => F.RING_STAT_WRAP_A
  | .b => F.RING_STAT_WRAP_B
def lockFld : Port → Fld
  | .a => F.RING_STAT_LOCK_A
  | .b => F.RING_STAT_LOCK_B
def lockEvent : Port → Nat
  | .a => 0xBB
  | .b => 0xBC

/-- The port can carry copies: enabled and not wrapped. -/
def State.portUp (s : State) (p : Port) : Bool := s.portOn p && !s.on (wrapFld p)

/-- Bring a port's LOCK bit to a value; its loss raises its event. -/
def State.setPortLock (s : State) (p : Port) (b : Bool) : State :=
  if s.on (lockFld p) == b then s
  else if b then s.set1 (lockFld p) else (s.clr (lockFld p)).ringEvent (lockEvent p) .warn

/-- The input link delay of a port as RING_DLYA and RING_DLYB show it (R280). -/
def State.portDelay (s : State) : Port → Nat
  | .a => (s.rd R.RING_DLYA).toNat
  | .b => (s.rd R.RING_DLYB).toNat

/-- A port sends a copy. -/
def State.putOut (s : State) (p : Port) (bytes : List Byte) : State :=
  match p with
  | .a => s.modRing (fun r => { r with outA := r.outA ++ [bytes] })
  | .b => s.modRing (fun r => { r with outB := r.outB ++ [bytes] })

/-- What holds a port's input lost, and since when nothing has (R286, R287). -/
def Ring.loss (r : Ring) : Port → List PortLoss
  | .a => r.lossA
  | .b => r.lossB
def Ring.clearSince (r : Ring) : Port → Nat
  | .a => r.clearA
  | .b => r.clearB

/-- The state of a ring node that begins afresh; its inputs are as they are. -/
def Ring.fresh (r : Ring) : Ring := { lossA := r.lossA, lossB := r.lossB, clearA := r.clearA, clearB := r.clearB, silent := r.silent }

/-- A wrapped port sends remote fault in place of rounds and messages, so that the neighbour wraps too (R286). -/
def State.sendsFault (s : State) (p : Port) : Bool := s.ringRuns && s.portOn p && s.on (wrapFld p)

/-- Nothing of a port's own input keeps it from locking: a remote fault tells of the neighbour's (R266, R283). -/
def State.portSignal (s : State) (p : Port) : Bool := (s.ring.loss p).all (· == .remoteFault)

/-- A port wraps: event 0xBD (R286). -/
def State.wrapPort (s : State) (p : Port) : State :=
  let t := if s.portSignal p then s else s.setPortLock p false
  if s.on (wrapFld p) then t else (t.set1 (wrapFld p)).ringEvent 0xBD .info

/-- The port a copy leaves by that entered at `p`: the other one, or `p` itself where that is wrapped or not enabled; and whether
it is turned back (R267, R286). -/
def State.exitOf (s : State) (p : Port) : Port × Bool := if s.portUp (otherPort p) then (otherPort p, false) else (p, true)

/-! ### Locked and unlocked (R283, R284) -/

/-- The node stops being LOCKED: void of scope STATE, event 0xC5 (R283). The period voided is the running one of the carrier that
RING_RND names. DESIGN CHOICE: log entry 72. -/
def State.ringUnlock (s : State) : State :=
  if s.on F.RING_STAT_LOCKED then
    let c := s.get F.RING_RND_CAR
    (((s.clr F.RING_STAT_LOCKED).modRing (fun r => { r with inWin := 0 })).void .ring true c (s.valleyStamp c)).ringEvent 0xC5 .warn
  else s

/-- |θ̄| compared with a number of units. -/
def State.thetaMean (s : State) : Rat := meanOf (s.ring.thetas.map (fun (x : Int) => (x : Rat)))
def State.thetaWithin (s : State) (n : Nat) : Bool := decide (-(n : Rat) ≤ s.thetaMean) && decide (s.thetaMean ≤ (n : Rat))

/-- LOCKWIN, LOCK_N and LOST_N, with 0 as 1. -/
def State.lockWin (s : State) : Nat := max 1 (s.get F.RING_TIM_LOCKWIN)
def State.lockRounds (s : State) : Nat := max 1 (s.get F.RING_TIM_LOCK_N)
def State.lostRounds (s : State) : Nat := max 1 (s.get F.RING_TIM_LOST_N)

/-- The node becomes LOCKED, on a member after LOCK_N rounds in the window, on the Reeve while copies return (R283); not while an offset
beyond SLEWMAX holds it off (R284). -/
def State.ringLockGain (s : State) : State :=
  let held := s.ringState == 3 && s.ring.slewHeld
  let member := s.ringState == 3 && s.lockRounds ≤ s.ring.inWin && (s.on F.RING_STAT_LOCK_A || s.on F.RING_STAT_LOCK_B)
  let reeve := s.ringState == 4 && 0 < s.ring.inWin
  if s.ringRuns && !s.on F.RING_STAT_LOCKED && !held && (member || reeve) then
    ((s.set1 F.RING_STAT_LOCKED).modRing (fun r => { r with wasLocked := true, slewWatch := false })).ringEvent 0xC4 .info
  else s

/-- A member that has lost LOCKED in RUN or SERVICE and stands beyond SLEWMAX sets SLEW_FAIL and stays unlocked (R284). -/
def State.slewCheck (s : State) : State :=
  if s.ringState == 3 && s.ring.slewWatch && s.switching && !s.ring.slewHeld && !s.thetaWithin (s.get F.RING_TIM_SLEWMAX) then
    (s.set1 F.RING_ERR_SLEW_FAIL).modRing (fun r => { r with slewHeld := true })
  else s

/-- The node stops being LOCKED after 3 rounds without a header or a return, or 4 rounds far outside the window (R283, R284). -/
def State.ringLockLoss (s : State) : State :=
  if s.on F.RING_STAT_LOCKED && (3 ≤ s.ring.noHeader || (s.ringState == 3 && 4 ≤ s.ring.outWin)) then
    let watch := s.ringState == 3 && s.switching
    (s.ringUnlock.modRing (fun r => { r with wasLocked := decide (3 ≤ r.noHeader), slewWatch := watch })).slewCheck
  else s

/-! ### Copies (R269 to R271) -/

/-- The header of a copy. -/
structure CopyHead where
  round : Nat
  gen : Nat
  issuer : Nat
  wrapped : Bool
  copyB : Bool
  issue : Nat
  hops : Nat
  dacc : Nat
  ngen : Nat
  ngenAt : Nat
  deriving DecidableEq, Repr

/-- The 28 bytes before HCRC. -/
def CopyHead.bytes (h : CopyHead) : List Byte :=
  leBytes 4 h.round ++ leBytes 2 h.gen ++ leBytes 2 (h.issuer + 8192 * bit1 h.wrapped + 32768 * bit1 h.copyB)
    ++ leBytes 8 h.issue ++ zeros 2 ++ leBytes 2 h.hops ++ leBytes 4 h.dacc ++ leBytes 2 h.ngen ++ leBytes 2 h.ngenAt

/-- Read a header. -/
def headOf (b : List Byte) : CopyHead :=
  let f := fieldLe b 6 2
  { round := fieldLe b 0 4, gen := fieldLe b 4 2, issuer := f % 1024, wrapped := f.testBit 13, copyB := f.testBit 15
    issue := fieldLe b 8 8, hops := fieldLe b 18 2, dacc := fieldLe b 20 4, ngen := fieldLe b 24 2, ngenAt := fieldLe b 26 2 }

/-- HCRC is correct. -/
def headOk (b : List Byte) : Bool := 32 ≤ b.length && fieldLe b 28 4 == (crc32c (b.take 28)).toNat

/-- A header with its HCRC, correct or complemented. -/
def sealHead (h : CopyHead) (ok : Bool) : List Byte :=
  let c := crc32c h.bytes
  h.bytes ++ leBytes 4 (if ok then c else ~~~c).toNat

/-- The bytes a slot's CRC covers before its data (R270). -/
def slotSeed (round gen e : Nat) : List Byte := leBytes 4 round ++ leBytes 2 gen ++ leBytes 2 e

/-- A slot: its data words, then its CRC, complemented in an empty or withheld slot (R270, R271). -/
def slotBytes (round gen e : Nat) (words : List Word) (ok : Bool) : List Byte :=
  let data := words.flatMap (fun w => leBytes 4 w.toNat)
  let c := crc32c (slotSeed round gen e ++ data)
  data ++ leBytes 4 (if ok then c else ~~~c).toNat

/-- The slots of a layout with the byte of the copy each begins at. -/
def slotOffsets (x : Layout) : Nat → List Nat → List (Nat × Nat)
  | _, [] => []
  | o, e :: rest => (e, o) :: slotOffsets x (o + 4 * (streamSize (x.entry e) + 1)) rest

/-- Words of a byte string. -/
def wordsAt (b : List Byte) (o n : Nat) : List Word := (List.range n).map (fun i => BitVec.ofNat 32 (fieldLe b (o + 4 * i) 4))

/-- What a slot of a copy holds: its words, and whether its CRC is correct, complemented or wrong. -/
inductive SlotRead where
  | good (words : List Word)
  | empty
  | wrong
  deriving DecidableEq, Repr

/-- Judge the slot of entry `e` at byte `o` (R270, R272). DEDUCED: log entry 43. -/
def readSlot (x : Layout) (h : CopyHead) (b : List Byte) (e o : Nat) : SlotRead :=
  let n := streamSize (x.entry e)
  let c := crc32c (slotSeed h.round h.gen e ++ (b.drop o).take (4 * n))
  let got := fieldLe b (o + 4 * n) 4
  if b.length < o + 4 * n + 4 then .wrong
  else if got = c.toNat then .good (wordsAt b o n)
  else if got = (~~~c).toNat then .empty
  else .wrong

/-- Overwrite part of a byte string. -/
def overwrite (b : List Byte) (o : Nat) (new : List Byte) : List Byte := b.take o ++ new ++ b.drop (o + new.length)

/-! ### Insertion (R271, R273, R291) -/

/-- The words this node inserts for its stream `k` in one copy: the latches taken for the round, or in a SAFE stream the safety frame of the copy's
mirror, and zeros where it places none (R271, R291, R310). DEDUCED: log entry 43. -/
def State.insertWords (s : State) (k : Nat) (copyB : Bool) : List Word :=
  if s.on (F.RING_TXs_SAFE k) then
    let x := s.mir (if copyB then .b else .a)
    if blockSends x.block k then x.frame else []
  else (List.range (streamSize (s.rd (R.RING_TXs k)))).map (fun i => nth s.ring.ins (s.get (F.RING_TXs_SRC k) + i) 0)

/-- The node may insert its streams with a correct CRC: READY, RUN, SERVICE, or MEMBER in DOZE with DOZE_UP (R271). -/
def State.mayInsert (s : State) : Bool :=
  s.mode == .ready || s.switching || (s.mode == .doze && s.on F.RING_CFG_DOZE_UP)

/-- Its insertion data for the round with this issue stamp has not reached LINK (R271). In DOZE the latches stand unchanged. -/
def State.insertLate (s : State) (issue : Nat) : Bool :=
  s.mode != .doze && !(s.ring.insFor == some issue && s.ring.insAt ≤ s.count)

/-- Write this node's slots into a copy. -/
def State.insertInto (s : State) (h : CopyHead) (b : List Byte) : List Byte :=
  let late := s.insertLate h.issue
  (slotOffsets s.ring.live 32 s.ring.live.slots).foldl (fun acc (p : Nat × Nat) =>
    let k := p.1 % 6
    if p.1 / 6 = s.ringSlot then
      let ok := s.on (F.RING_TXs_SAFE k) || (s.mayInsert && !late)
      overwrite acc p.2 (slotBytes h.round h.gen p.1
        ((s.insertWords k h.copyB ++ List.replicate 15 0).take (streamSize (s.ring.live.entry p.1))) ok)
    else acc) b

/-- INS_LATE and its void, once for the round (R55, R271). DEDUCED: log entry 44. -/
def State.noteLate (s : State) (issue : Nat) : State :=
  if s.mayInsert && s.insertLate issue && (List.range 6).any (fun k => s.on (F.RING_TXs_EN k) && !s.on (F.RING_TXs_SAFE k)) then
    let c := s.get F.RING_RND_CAR
    (s.set1 F.RING_ERR_INS_LATE).void .ring false c (s.valleyStamp c)
  else s

/-- The issue stamp of the next round at this node: the issue valley on the Reeve, one period after the last on a member. -/
def State.nextIssue (s : State) : Option Nat :=
  if s.ringState = 4 then
    let c := s.get F.RING_RND_CAR
    let e := (s.car c).events
    let n := s.get F.RING_RND_DIV + 1
    if s.carState c = 2 then some ((s.car c).valley.toNat + (n - (e + n - 1) % n) * s.carPeriod c) else none
  else s.ring.lastIssue.map (· + s.ringPeriod)

/-- The insertion latches are taken 64 cycles before an issue stamp; perturbation target 3 delays their way to LINK (R58, R271). -/
def State.insertionLatch (s : State) : State :=
  match s.nextIssue with
  | some i =>
    if s.ringRuns ∧ s.ringLive ∧ s.count + 64 = i then
      let (d, t) := s.disturb 3
      t.modRing (fun r => { r with ins := (List.range 128).map (fun w => t.rd (R.RING_TXWw w)), insFor := some i, insAt := s.count + d })
    else s
  | none => s

/-! ### Alignment (R281, R282, R25) -/

/-- Correct the stored offsets by a FINE step. -/
def State.shiftThetas (s : State) (d : Int) : State :=
  s.modRing (fun r => { r with
    thetas := r.thetas.map (· + d), thetasA := r.thetasA.map (· + d), thetasB := r.thetasB.map (· + d)
    lastA := r.lastA.map (· + (d : Rat)), lastB := r.lastB.map (· + (d : Rat)) })

/-- The FINE step of a MEMBER in a round with a header (R282). -/
def State.fineAdjust (s : State) : State :=
  let m := s.thetaMean
  if 1 ≤ m then s.fineDown.shiftThetas (-1) else if m ≤ -1 then s.fineUp.shiftThetas 1 else s

/-- FINE is 0 on a node that is no ring member, and on the Reeve (R32). -/
def State.fineZero (s : State) : State :=
  (s.modClk (fun c => { c with fine := 0 })).shiftThetas (-(s.clk.fine.toNat : Int))

/-- The port that CLK_SYN0_DISC.SRC selects; port A while it is locked and else port B with 3 (R25). -/
def State.discPort (s : State) : Option Port :=
  match s.get F.CLK_SYN0_DISC_SRC with
  | 1 => some .a
  | 2 => some .b
  | 3 => some (if s.on F.RING_STAT_LOCK_A then .a else .b)
  | _ => none

/-- The copy with a correct header that a port delivered in the round. -/
def RingRound.timeAt (r : RingRound) : Port → Option CopyTime
  | .a => r.atA
  | .b => r.atB

/-- A port brought a correct header in the round. -/
def RingRound.header (r : RingRound) : Bool := r.atA.isSome || r.atB.isSome

/-- The stored offsets of a port's copies, and their mean at the round before. -/
def Ring.portThetas (r : Ring) : Port → List Int
  | .a => r.thetasA
  | .b => r.thetasB
def Ring.portLast (r : Ring) : Port → Option Rat
  | .a => r.lastA
  | .b => r.lastB

/-- The mean offset that a port measures. -/
def State.portMean (s : State) (p : Port) : Rat := meanOf ((s.ring.portThetas p).map (fun (x : Int) => (x : Rat)))

/-- A round's copy at each port goes into that port's measurement. -/
def State.takePorts (s : State) (r : RingRound) : State :=
  let add := fun (x : Option CopyTime) (l : List Int) => match x with
    | some c => (c.theta :: l).take s.ringDepth
    | none => l
  s.modRing (fun g => { g with thetasA := add r.atA g.thetasA, thetasB := add r.atB g.thetasB })

/-- Keep the means for the next round; a port that brought none has no measurement to compare with (R25). -/
def State.keepMeans (s : State) (r : RingRound) : State :=
  s.modRing (fun g => { g with lastA := r.atA.map (fun _ => s.portMean .a), lastB := r.atB.map (fun _ => s.portMean .b) })

/-- The discipline loop has no measurement: SYN0 holds its trim (R25). -/
def State.discStops (s : State) : State := s.clr F.CLK_STAT_DISC_ACTIVE

/-- SYN0 follows the Reeve: the change of the selected port's mean offset over a round period, as a frequency in 0.01 ppm, is taken out
of the trim (R25, R282); without a measurement the trim holds. Only a MEMBER follows. DESIGN CHOICE: log entry 79. -/
def State.discFollow (s : State) (r : RingRound) : State :=
  match s.discPort with
  | none => s.discStops
  | some p =>
    if s.ringState = 3 ∧ (r.timeAt p).isSome then
      let now := s.portMean p
      let f : Rat := (now - (s.ring.portLast p).getD now) * 100000000 / ((64 * max 1 s.ringPeriod : Nat) : Rat)
      (s.stepTrim (-(wholeMean f))).set1 F.CLK_STAT_DISC_ACTIVE
    else s.discStops

/-! ### Messages of a gap (R274) -/

/-- The unique ID of this device. -/
def State.uid (s : State) : Dword := BitVec.ofNat 64 ((s.rd R.RING_IDLO).toNat + 2 ^ 32 * (s.rd R.RING_IDHI).toNat)

/-- The ROSTER and PRESENT messages of the announced generation: 384 chunks of 16 entries and two halves, sent round and round. -/
def State.announcement (s : State) (i : Nat) : RingMsg :=
  let g := s.get F.RING_GEN_NGEN
  let n := i % 386
  if n < 384 then .roster g (16 * n) ((List.range 16).map (fun k => s.ring.next.entry (16 * n + k)))
  else .present g (n - 384) ((s.ring.next.present >>> (512 * (n - 384))).setWidth 512) s.ring.next.tneed

/-- The TYPE of a message (R274). -/
def RingMsg.code : RingMsg → Nat
  | .probe _ => 0x01
  | .echo _ => 0x02
  | .knock _ _ _ _ _ _ _ => 0x10
  | .admitted _ _ _ _ => 0x11
  | .refuse _ _ => 0x12
  | .leave _ => 0x13
  | .links _ _ _ => 0x14
  | .roster _ _ _ => 0x20
  | .present _ _ _ _ => 0x21

/-- A message of this node's own on both rings, as far as its ports carry them. DESIGN CHOICE: log entry 31. -/
def State.onRings (s : State) (m : RingMsg) : List (Port × RingMsg) := ([Port.a, Port.b].filter s.portUp).map (fun p => (p, m))

/-- What this node sends in the gap after round `k`: PROBE on each enabled port, KNOCK while KNOCKING, LINKS when its turn has
come, and on the Reeve 8 messages of its newest generation. DESIGN CHOICE: log entry 31. -/
def State.gapMessages (s : State) (k : Word) : List (Port × RingMsg) :=
  let knock := if s.ringState = 2 then
    [RingMsg.knock s.uid s.ringSlot s.ringRole s.ownStreams s.ringPeriod (s.portDelay .a) (s.portDelay .b)] else []
  let links := if s.ringState = 3 ∧ k.toNat % 1024 = s.ringSlot then
    [RingMsg.links s.ringSlot (s.portDelay .a) (s.portDelay .b)] else []
  let news := if s.ringState = 4 then
    (List.range 8).map (fun i => s.announcement (s.ring.sendNext + i)) else []
  ([RingMsg.probe s.now] ++ knock ++ links ++ news).flatMap s.onRings

/-- The gap after a round begins: its messages. -/
def State.openGap (s : State) (k : Word) : State :=
  s.modRing (fun r => { r with
    sent := s.gapMessages k, sendNext := if s.ringState = 4 then (r.sendNext + 8) % 386 else r.sendNext })

/-! ### Joining (R276, R277, R282) -/

/-- A LISTEN node with a locked port and the device in neither RUN nor SERVICE begins to knock; with SRC 0 it is refused locally. -/
def State.ringJoin (s : State) : State :=
  if s.ringState = 1 ∧ (s.on F.RING_STAT_LOCK_A ∨ s.on F.RING_STAT_LOCK_B) ∧ !s.switching then
    if s.get F.CLK_SYN0_DISC_SRC = 0 then s.set1 F.RING_ERR_DISC else s.put F.RING_STAT_STATE 2
  else s

/-- Every receive word becomes invalid. -/
def State.allInvalid (s : State) : State := s.forAll 8 (fun j t => t.wr (R.RING_RXVj j) 0)

/-- The node leaves the ring's layout for LISTEN: unlocked, no generation, no round in hand, no longer following the Reeve (R25, R32). -/
def State.ringListen (s : State) : State :=
  let t := s.ringUnlock.discStops.fineZero
  let t := ((t.put F.RING_STAT_STATE 1).wr R.RING_GEN 0).put F.RING_STAT_NODES 0
  t.modRing (fun r => { r with
    liveOk := false, nextGen := 0, chunks := [], halves := [], members := [], announcedIn := none, leaving := false
    cur := none, done := [], issueDue := false, inWin := 0, outWin := 0, noHeader := 0, wasLocked := false, slewWatch := false })

/-- A member sends LEAVE (R278). -/
def State.ringLeave (s : State) : State :=
  if s.ringState = 3 then
    s.modRing (fun r => { r with leaving := true, sent := r.sent ++ s.onRings (.leave s.ringSlot) })
  else s

/-! ### The end of a round (R272, R278, R283) -/

/-- The copy whose timing counts: the one with the lower HOPS, copy A on a tie, the other when one has failed (R281). -/
def RingRound.timing (r : RingRound) : Option CopyTime :=
  match r.headA, r.headB with
  | some a, some b => if b.hops < a.hops then some b else some a
  | some a, none => some a
  | none, b => b

/-- Rounds in a row in which a port has brought a correct header. -/
def Ring.run (r : Ring) : Port → Nat
  | .a => r.runA
  | .b => r.runB

/-- A port stands at a number of rounds with a header: it is locked with one in each of the last 3 and nothing held against it (R283). -/
def State.setPortRun (s : State) (p : Port) (n : Nat) : State :=
  let t := match p with
    | .a => s.modRing (fun r => { r with runA := n })
    | .b => s.modRing (fun r => { r with runB := n })
  t.setPortLock p (n == 3 && s.portOn p && s.portSignal p)

/-- Count an ended round on a port towards its lock; a port that has brought no header may still bring one before the next round begins
(R283). -/
def State.portRound (s : State) (p : Port) (got : Bool) : State :=
  if got then s.setPortRun p (min 3 (s.ring.run p + 1)) else s.modRing (fun r => { r with lateHeads := r.lateHeads ++ [p] })

/-- A header with a correct HCRC comes at a port after its round has ended (R283). -/
def State.portHeader (s : State) (p : Port) : State :=
  if p ∈ s.ring.lateHeads then
    (s.modRing (fun r => { r with lateHeads := r.lateHeads.filter (· != p) })).setPortRun p (min 3 (s.ring.run p + 1))
  else s

/-- A round begins: a port that brought no header in the one before starts to count anew (R283). -/
def State.closePorts (s : State) : State :=
  [Port.a, Port.b].foldl (fun t p => if p ∈ s.ring.lateHeads then t.setPortRun p 0 else t) (s.modRing (fun r => { r with lateHeads := [] }))

/-- Take the round's offset into θ̄ (R281). -/
def State.takeTheta (s : State) (x : CopyTime) : State :=
  let t := s.modRing (fun r => { r with thetas := (x.theta :: r.thetas).take s.ringDepth })
  let shown := clampInt (-2147483648) 2147483647 (wholeMean t.thetaMean)
  ((t.wr R.RING_THETA (BitVec.ofInt 32 shown)).wr R.RING_PATH (BitVec.ofNat 32 x.delta))

/-- The lock counters of the round (R283). -/
def State.countRound (s : State) (header : Bool) : State :=
  let near := s.ringState == 3 && s.thetaWithin s.lockWin && (s.on F.RING_STAT_LOCK_A || s.on F.RING_STAT_LOCK_B)
  let far := s.ringState == 3 && !s.thetaWithin (4 * s.lockWin)
  s.modRing (fun r => { r with
    noHeader := if header then 0 else r.noHeader + 1
    inWin := if s.ringState = 4 then bit1 header else if near then r.inWin + 1 else 0
    outWin := if far then r.outWin + 1 else 0 })

/-- The Reeve counts the rounds in a row in which a present member's slots all came back empty, on both copies (R278). -/
def State.countEmpty (s : State) (r : RingRound) : State :=
  if s.ringState = 4 then
    s.modRing (fun g => { g with members := g.members.map (fun m =>
      if s.ring.live.has m.slot then
        { m with lost := if r.readA && r.readB && !r.alive.contains m.slot then m.lost + 1 else 0 }
      else m) })
  else s

/-- The round in hand ends at an instant: offset, FINE, frequency, locks, the gap; a MEMBER or REEVE delivers it 32 cycles later,
which perturbation target 2 delays in LINK cycles (R58, R272). -/
def State.endRound (s : State) (at_ : Nat) : State :=
  match s.ring.cur with
  | none => s
  | some r =>
    let t := s.modRing (fun g => { g with cur := none })
    let t := (t.portRound .a r.atA.isSome).portRound .b r.atB.isSome
    let t := t.putB F.RING_STAT_WRAPPED r.wrapped
    let t := match r.timing with
      | some x => (t.takeTheta x).takePorts r
      | none => t
    let t := if s.ringState = 3 then t.discFollow r else t
    let t := if s.ringState = 3 ∧ r.header then t.fineAdjust else t
    let t := ((t.keepMeans r).countRound r.header).countEmpty r
    let t := t.slewCheck.openGap r.no
    let t := if s.ringLive then
        let (d, u) := t.disturb 2
        u.modRing (fun g => { g with done := g.done ++ [{ r with deliverAt := some (at_ + 32 + (d * 64 + 24) / 25) }] })
      else t
    if t.on F.RING_CFG_AUTOJOIN then t.ringJoin else t

/-- Ring time at this node, as COUNT: on a node that is no member yet, its own time less the measured offset (R277). -/
def State.ringCount (s : State) : Nat :=
  if s.ringLive then s.count else (((s.now : Int) - s.thetaMean.floor) / 64).toNat

/-- A node that issues no rounds reaches an issue stamp of which no copy has come: the round begins with nothing in it (R272, R283). -/
def State.silentRound (s : State) : State :=
  match s.ring.cur, s.ring.lastIssue with
  | none, some i =>
    if s.ringState ≠ 4 ∧ s.ringState ≠ 0 ∧ 0 < s.ringPeriod ∧ i + s.ringPeriod ≤ s.ringCount then
      s.closePorts.modRing (fun r => { r with
        cur := some { no := r.round, issue := i + s.ringPeriod }, round := r.round + 1, lastIssue := some (i + s.ringPeriod)
        outA := [], outB := [] })
    else s
  | _, _ => s

/-- The issue stamp of the next round ends the round in hand (R272). DEDUCED: log entry 44. -/
def State.endByIssue (s : State) : State :=
  match s.ring.cur with
  | some r => if 0 < s.ringPeriod ∧ r.issue + s.ringPeriod ≤ s.ringCount then s.endRound (r.issue + s.ringPeriod) else s
  | none => s

/-! ### Delivery (R272, R273, R289) -/

/-- A captured word of entry `e`: from copy A where both have it. -/
def RingRound.word (r : RingRound) (e i : Nat) : Option Word :=
  let look := fun (l : List (Nat × List Word)) => (l.lookup e).bind (fun ws => ws[i]?)
  (look r.capA).or (look r.capB)

/-- An enabled receive-map entry above `k` names receive word `d`: it supplies the word (R273). -/
def State.namedAbove (s : State) (k d : Nat) : Bool :=
  (List.range 64).any (fun j => k < j && s.on (F.RING_RXk_EN j) && s.get (F.RING_RXk_DST j) ≤ d &&
    d < s.get (F.RING_RXk_DST j) + max 1 (s.get (F.RING_RXk_LEN j)))

/-- Deliver one receive-map entry (R273). -/
def State.deliverEntry (s : State) (r : RingRound) (k : Nat) : State :=
  if s.on (F.RING_RXk_EN k) then
    let st := s.get (F.RING_RXk_STREAM k)
    let e := 6 * s.get (F.RING_RXk_NODE k) + st
    s.forAll (max 1 (s.get (F.RING_RXk_LEN k))) (fun j t =>
      let d := s.get (F.RING_RXk_DST k) + j
      let got := if st < 6 then r.word e (s.get (F.RING_RXk_FIRST k) + j) else none
      if 255 < d || s.namedAbove k d then t else
        match got with
        | some w => (t.wr (R.RING_RXWr d) w).putBit (R.RING_RXVj (d / 32)) (d % 32) true
        | none => t.putBit (R.RING_RXVj (d / 32)) (d % 32) false)
  else s

/-- Frames that should have consumed the round have begun before it was delivered (R289); while LOCKED that is an overrun, for the
period of every such frame (R53). DEDUCED: log entry 44. -/
def State.roundLate (s : State) (r : RingRound) : State :=
  let late := s.ring.lateFrames.filter (fun f => f.issue == r.issue && s.ringReader f.task)
  let s := s.modRing (fun g => { g with lateFrames := g.lateFrames.filter (fun f => r.issue < f.issue) })
  if late.isEmpty then s
  else
    let u := ((s.set1 F.RING_ERR_LATE).incS F.RING_CNT_LATES).ringEvent 0xB9 .warn
    if s.on F.RING_STAT_LOCKED then late.foldl (fun v f => v.void .ring false (s.taskCar f.task) f.valley) u else u

/-- Deliver a round to the receive view in one cycle, entries in ascending order (R272, R273). -/
def State.deliver (s : State) (r : RingRound) : State :=
  let t := s.roundLate r
  let t := if s.ringState = 3 ∧ !s.ring.liveOk then t.allInvalid else t.forAll 64 (fun k u => u.deliverEntry r k)
  (t.wr R.RING_ROUND r.no).raise 0xB8

/-- The delivery of the oldest ended round, once it is due; a round still in hand ends when the next issue stamp is reached. -/
def State.roundDelivery (s : State) : State :=
  if s.ringRuns then
    let t := s.silentRound.endByIssue
    match t.ring.done with
    | [] => t
    | r :: rest =>
      if t.due (r.deliverAt.getD 0) then (t.modRing (fun g => { g with done := rest })).deliver r else t
  else s

/-! ### Generations (R275) -/

/-- The generation after `g`: 0 is skipped. -/
def nextGeneration (g : Nat) : Nat := if (g + 1) % 65536 = 0 then 1 else (g + 1) % 65536

/-- The delays of this node's own ports as an end of links. -/
def State.reeveNeed (s : State) (x : Layout) (ms : List RingMember) : Nat :=
  ringTneed x (s.portDelay .a) (s.portDelay .b) ms (s.on F.RING_CFG_BRKTOL)

/-- The layout of a Roster with this node and some members present. -/
def State.layoutOf (s : State) (roster : WordStore) (ms : List RingMember) : Layout :=
  let present := (s.ringSlot :: ms.map (·.slot)).foldl (fun (m : BitVec 1024) n => m ||| (1#1024 <<< n)) 0
  let x : Layout := ⟨roster, present, 0⟩
  { x with tneed := s.reeveNeed x ms }

/-- Admission judges what a change of the roster generation brings; a failure is logged (R49, R50). DEDUCED: log entry 44. -/
def State.judgeGeneration (s : State) (x : Layout) (ms : List RingMember) : State :=
  let v := s.admission ⟨x, ms, x.tneed, s.cfg.gen, s.trim⟩
  if v = 0 then s else s.log 0x0004 0xFF .warn (leBytes 4 v ++ leBytes 4 s.cfg.gen)

/-- The Reeve announces a new generation; changes of one gap are one generation. It takes effect no earlier than when every message
has been sent twice, 97 gaps of 8 messages, and within the half of the counter that lies ahead (R275). DESIGN CHOICE: log entry 31. -/
def State.announce (s : State) (roster : WordStore) (ms : List RingMember) : State :=
  let pending := s.get F.RING_GEN_NGEN != s.get F.RING_GEN_GEN
  let same := pending && s.ring.announcedIn == some s.ring.round
  let g := if same then s.get F.RING_GEN_NGEN else nextGeneration (s.get F.RING_GEN_NGEN)
  let at_ := s.ring.round.toNat + 98 + Config.ringLead s.ring.round.toNat % 32000
  (s.put F.RING_GEN_NGEN g).modRing (fun r => { r with
    next := s.layoutOf roster ms, nextGen := g, members := ms, announcedIn := some r.round, sendNext := 0
    nextAt := BitVec.ofNat 16 at_ })

/-- The Roster as the Reeve's registers give it. DEDUCED: log entry 44. -/
def State.rosterRegs (s : State) : WordStore :=
  (List.range 6144).foldl (fun m e => wordSet m e (s.rd (R.RING_ROSTERe e))) []

/-- Show a layout as the live one: the Roster registers on a member, T_need, the node count, and CFG_ERR where check 0x08 fails at this
node (R290). -/
def State.showLayout (s : State) (x : Layout) : State :=
  let t := if s.ringState = 4 then s else s.forAll 6144 (fun e u => u.wr (R.RING_ROSTERe e) (x.entry e))
  let t := ((t.wr R.RING_TNEED (BitVec.ofNat 32 x.tneed)).put F.RING_STAT_NODES x.nodes.length).modRing (fun r => { r with
    live := x, liveOk := true, liveMembers := r.members })
  t.whenB (t.rosterFails x t.ring.members).isSome (·.set1 F.RING_ERR_CFG_ERR)

/-- A complete copy of a generation: all 384 Roster chunks and both halves of the present map. -/
def Ring.complete (r : Ring) : Bool := r.chunks.length == 384 && r.halves.length == 2

/-- The layout whose copy is complete becomes live; a member that it lacks goes to LISTEN (R275, R276). -/
def State.adopt (s : State) : State :=
  if s.ringState = 3 ∧ !s.ring.next.has s.ringSlot then
    let t := (s.showLayout s.ring.next).ringListen
    if s.ring.leaving then t else (t.set1 F.RING_ERR_REMOVED).ringEvent 0xC3 .info
  else s.showLayout s.ring.next

/-- The round that is in hand, or else the next one. -/
def State.roundNow (s : State) : Word :=
  match s.ring.cur with
  | some r => r.no
  | none => s.ring.round

/-- Round NGEN_AT, once the round before it has ended: the new layout, or nothing inserted and nothing valid while the copy is incomplete
(R275). -/
def State.generationChange (s : State) : State :=
  let g := s.get F.RING_GEN_NGEN
  let reached := s.roundNow.setWidth 16 == s.ring.nextAt || newer 16 (s.roundNow.toNat % 65536) s.ring.nextAt.toNat
  if s.ringRuns ∧ s.ringLive ∧ g ≠ s.get F.RING_GEN_GEN ∧ reached then
    let t := (s.put F.RING_GEN_GEN g).ringEvent 0xBF .info
    if s.ringState = 4 then t.showLayout s.ring.next
    else if s.ring.complete ∧ s.ring.nextGen = g then t.adopt
    else t.modRing (fun r => { r with liveOk := false })
  else s

/-- A member or a listening node learns of a generation: it begins a new copy unless it has begun that one already. -/
def State.learnGeneration (s : State) (g : Nat) : State :=
  if s.ring.nextGen = g then s
  else s.modRing (fun r => { r with nextGen := g, next := {}, chunks := [], halves := [] })

/-- After a message of the generation that is already live, a copy that has become complete is used at once (R275). -/
def State.adoptLate (s : State) : State :=
  if s.ringState = 3 ∧ !s.ring.liveOk ∧ s.ring.complete ∧ s.ring.nextGen = s.get F.RING_GEN_GEN then s.adopt else s

/-! ### Issuing (R268 to R271) -/

/-- A valley of a carrier: the issue valley of the Reeve when its event number is a multiple of DIV + 1 (R268). -/
def State.ringValley (s : State) (c e : Nat) : State :=
  if s.ringState = 4 ∧ s.get F.RING_RND_CAR = c ∧ e % (s.get F.RING_RND_DIV + 1) = 0 then
    s.modRing (fun r => { r with issueDue := true })
  else s

/-- A copy of the round as the Reeve sends it: its own slots, every other slot empty (R269, R270). -/
def State.issueCopy (s : State) (issue : Nat) (copyB : Bool) : List Byte :=
  let h : CopyHead :=
    { round := s.ring.round.toNat, gen := s.get F.RING_GEN_GEN, issuer := s.ringSlot, wrapped := false, copyB := copyB
      issue := issue, hops := 0, dacc := Config.ringTxLatency, ngen := s.get F.RING_GEN_NGEN, ngenAt := s.ring.nextAt.toNat }
  let x := s.ring.live
  let body := x.slots.flatMap (fun e => slotBytes h.round h.gen e (List.replicate (streamSize (x.entry e)) 0) false)
  let all := sealHead h true ++ body
  s.insertInto h (all ++ zeros ((8 - all.length % 8) % 8))

/-- The measured residence of a copy that the Reeve turns back, in 39 ps units: 36 to 40 ns (R267, R286). -/
def ownResidence (round : Nat) : Nat := 922 + Config.ringTurn round % 103

/-- The Reeve sends one of its copies: by its own port, or, where that is wrapped or not enabled, turned back into the other ring with
WRAPPED after one residence (R268, R286). -/
def State.sendCopy (s : State) (issue : Nat) (copyB : Bool) : State :=
  let p := if copyB then Port.b else Port.a
  let b := s.issueCopy issue copyB
  if s.portUp p then s.putOut p b
  else if s.portUp (otherPort p) then
    let h := headOf b
    s.putOut (otherPort p) (overwrite b 0 (sealHead { h with wrapped := true, dacc := h.dacc + ownResidence h.round } true))
  else s

/-- The number of a round issued at a COUNT: the next one; in the first after a takeover, the one of that instant as though no round had been
lost (R268, R279). -/
def State.roundNo (s : State) (issue : Nat) : Word :=
  match s.ring.tookOver, s.ring.lastIssue with
  | true, some i => s.ring.round + BitVec.ofNat 32 ((issue + s.ringPeriod / 2 - i) / max 1 s.ringPeriod) - 1
  | _, _ => s.ring.round

/-- Round k is issued in the cycle of the issue valley (R268); a generation that takes effect with it does so first (R275). -/
def State.roundIssue (s : State) : State :=
  let issue := (s.car (s.get F.RING_RND_CAR)).valley.toNat
  if s.ringRuns ∧ s.ringState = 4 ∧ s.ring.issueDue ∧ s.count = issue then
    let no := s.roundNo issue
    let t := (s.modRing (fun r => { r with round := no, tookOver := false })).endRound issue
    let t := (t.closePorts.generationChange).noteLate issue
    let t := t.modRing (fun r => { r with
      issueDue := false, lastIssue := some issue, answered := [], outA := [], outB := []
      cur := some { no := no, issue := issue } })
    ((t.sendCopy issue false).sendCopy issue true).modRing (fun r => { r with round := no + 1 })
  else s

/-! ### A copy at this node (R267, R271, R272, R279, R281) -/

/-- A header's ROUND is correct: that of a round in hand or not yet delivered, or not older than the next one; where no round has come
yet any is (R272). DEDUCED: log entry 44. -/
def State.roundOk (s : State) (h : CopyHead) : Bool :=
  let no := BitVec.ofNat 32 h.round
  s.ring.lastIssue.isNone || s.ring.cur.any (fun r => r.no == no) || s.ring.done.any (fun r => r.no == no) ||
    no == s.ring.round || newer 32 no.toNat s.ring.round.toNat

/-- The round a correct header belongs to is in hand; a new one ends the last at its issue stamp, and a generation that takes effect with it
does so first (R272, R275). -/
def State.enterRound (s : State) (h : CopyHead) : State :=
  let no := BitVec.ofNat 32 h.round
  if s.ring.cur.any (fun r => r.no == no) || s.ring.done.any (fun r => r.no == no) then s
  else
    let t := (s.endRound (min s.count h.issue)).closePorts
    (t.modRing (fun g => { g with
      cur := some { no := no, issue := h.issue }, round := no + 1, lastIssue := some h.issue, issuer := h.issuer
      outA := [], outB := [] })).generationChange

/-- Change the round a header belongs to, in hand or already ended. -/
def State.modRound (s : State) (no : Word) (f : RingRound → RingRound) : State :=
  s.modRing (fun g => { g with
    cur := g.cur.map (fun r => if r.no = no then f r else r), done := g.done.map (fun r => if r.no = no then f r else r) })

/-- Count a slot or header CRC error (R272). -/
def State.ringCrcError (s : State) (flag : Fld) : State := ((s.set1 flag).incS F.RING_CNT_CRCERR).raise 0xBA

/-- Capture the slots of a copy of the live generation: words for the receive view, safety frames for the mirror of that copy,
and the nodes whose slots are not all empty (R272, R278, R291). -/
def State.captureSlots (s : State) (h : CopyHead) (b : List Byte) : State :=
  let x := s.ring.live
  let no := BitVec.ofNat 32 h.round
  let lives := fun (r : RingRound) (n : Nat) => { r with alive := if n ∈ r.alive then r.alive else r.alive ++ [n] }
  let s := s.modRound no (fun r => if h.copyB then { r with readB := true } else { r with readA := true })
  (slotOffsets x 32 x.slots).foldl (fun t (p : Nat × Nat) =>
    let safe := bitAt (x.entry p.1) 5
    let hand := fun (u : State) (ws : List Word) (ok : Bool) =>
      if safe then u.modMir (if h.copyB then .b else .a) (fun m => { m with rx := m.rx ++ [⟨p.1 / 6, p.1 % 6, ws, ok⟩] }) else u
    match readSlot x h b p.1 p.2 with
    | .good ws =>
      hand (t.modRound no (fun r =>
        let r := lives r (p.1 / 6)
        if safe then r
        else if h.copyB then { r with capB := (p.1, ws) :: r.capB }
        else { r with capA := (p.1, ws) :: r.capA })) ws true
    | .empty => hand t [] false
    | .wrong => hand ((t.modRound no (fun r => lives r (p.1 / 6))).ringCrcError F.RING_ERR_SLOT_CRC) [] false) s

/-- A header with a correct HCRC that is of no round in hand still tells its time, and that its port brings headers (R281, R283). -/
def State.noteTime (s : State) (h : CopyHead) (p : Port) (x : CopyTime) : State :=
  if s.ring.cur.isSome then
    s.modRing (fun g => { g with cur := g.cur.map (fun r =>
      let r := if p = .a then { r with atA := r.atA.or (some x) } else { r with atB := r.atB.or (some x) }
      if h.copyB then { r with headB := r.headB.or (some x) } else { r with headA := r.headA.or (some x) }) })
  else s.portHeader p

/-- Note that a copy has passed, with its timing and the port it came by; a round whose copies have all passed ends, on the Reeve when both have
returned whatever their way, since every member's words reach it (R272, R273). DEDUCED: log entry 44. -/
def State.notePass (s : State) (h : CopyHead) (p : Port) (wrapped : Bool) (x : CopyTime) : State :=
  let no := BitVec.ofNat 32 h.round
  let t := s.modRound no (fun r =>
    let r := if p = .a then { r with atA := r.atA.or (some x) } else { r with atB := r.atB.or (some x) }
    let r := { r with wrapped := r.wrapped || wrapped }
    if h.copyB then { r with passB := true, headB := r.headB.or (some x) } else { r with passA := true, headA := r.headA.or (some x) })
  let t := t.put (if h.copyB then F.RING_HOPS_HOPS_B else F.RING_HOPS_HOPS_A) h.hops
  match t.ring.cur with
  | some r =>
    if r.no ≠ no then t.portHeader p
    else if (r.passA ∧ r.passB) ∨ (r.wrapped ∧ s.ringState ≠ 4) then t.endRound t.count else t
  | none => t.portHeader p

/-- The header's announcement (R269, R275); a generation that was never announced here is that of a new Reeve, and takes effect at once
(R279). -/
def State.noteHeader (s : State) (h : CopyHead) : State :=
  if s.ringState = 3 then
    let t := if h.ngen ≠ h.gen then
        ((s.put F.RING_GEN_NGEN h.ngen).learnGeneration h.ngen).modRing (fun r => { r with nextAt := BitVec.ofNat 16 h.ngenAt })
      else if s.get F.RING_GEN_GEN = h.gen then s.put F.RING_GEN_NGEN h.gen else s
    if h.gen ≠ s.get F.RING_GEN_GEN ∧ h.gen ≠ t.get F.RING_GEN_NGEN ∧ h.ngen = h.gen then
      ((((t.put F.RING_GEN_GEN h.gen).put F.RING_GEN_NGEN h.gen).learnGeneration h.gen).modRing (fun r =>
        { r with liveOk := false })).ringEvent 0xBF .info
    else t
  else s

/-- A Reeve that sees a valid header of a Reeve with a lower slot stops issuing (R276, R279). -/
def State.dupReeve (s : State) : State := (s.set1 F.RING_ERR_DUP_REEVE).ringListen

/-- Times a copy that arrived with a correct HCRC: stamp, path delay, offset (R281). -/
def State.copyTime (s : State) (h : CopyHead) (p : Port) (frac : Nat) : CopyTime :=
  let delta := h.dacc + s.portDelay p
  ⟨h.hops, delta, (s.now : Int) + frac - (h.issue * 64 : Nat) - delta⟩

/-- A copy passes a member or a listening node: insertion, HOPS, DACC, HCRC, capture, forwarding (R271, R272). A copy with a stale ROUND
passes and nothing is taken from it. DEDUCED: log entry 43. -/
def State.passCopy (s : State) (p : Port) (b : List Byte) (frac res : Nat) : State :=
  let h := headOf b
  let x := s.copyTime h p frac
  let (out, back) := s.exitOf p
  let fwd : CopyHead := { h with hops := h.hops + 1, dacc := x.delta + res, wrapped := h.wrapped || back }
  let fresh := s.roundOk h
  let t := if fresh then (s.enterRound h).noteHeader h else s
  let mine := t.ringState == 3 && t.ring.liveOk && h.gen == t.get F.RING_GEN_GEN
  let body := if mine then t.insertInto h b else b
  let t := if mine && fresh then (t.noteLate h.issue).captureSlots h body else t
  let t := t.putOut out (overwrite body 0 (sealHead fwd true))
  if fresh then t.notePass h p fwd.wrapped x else t.noteTime h p x

/-- A copy whose HCRC is wrong is forwarded so that it stays wrong, and nothing is taken from it. DEDUCED: log entry 43. -/
def State.passBad (s : State) (p : Port) (b : List Byte) : State :=
  let h := headOf b
  let (out, back) := s.exitOf p
  (s.ringCrcError F.RING_ERR_HDR_CRC).putOut out
    (if s.ringState = 4 then [] else overwrite b 0 (sealHead { h with wrapped := h.wrapped || back } false))

/-- A copy returns to the Reeve (R272, R279). DEDUCED: log entry 43. -/
def State.returnCopy (s : State) (p : Port) (b : List Byte) (frac : Nat) : State :=
  let h := headOf b
  if h.issuer < s.ringSlot then s.dupReeve
  else if h.issuer = s.ringSlot ∧ s.ring.cur.any (fun r => r.no.toNat == h.round) then
    let t := if h.gen = s.get F.RING_GEN_GEN then s.captureSlots h b else s
    t.notePass h p h.wrapped (s.copyTime h p frac)
  else s.noteTime h p (s.copyTime h p frac)

/-- A copy arrives at port `p`: its bytes, the part of a cycle in its stamp and its measured residence in 39 ps units, which lies
within 36 to 40 ns (R267). -/
def State.copyPassage (s : State) (p : Port) (b : List Byte) (frac res : Nat) : State :=
  if s.ringRuns ∧ s.portUp p then
    if !headOk b then s.passBad p b
    else if s.ringState = 4 then s.returnCopy p b (frac % 64)
    else s.passCopy p b (frac % 64) (max 922 (min 1024 res))
  else s

/-! ### Messages received (R274, R277, R278, R280) -/

/-- Send messages in the running gap. -/
def State.ringPut (s : State) (l : List (Port × RingMsg)) : State := s.modRing (fun r => { r with sent := r.sent ++ l })

/-- Send a message of this node's own in the running gap. -/
def State.ringSend (s : State) (m : RingMsg) : State := s.ringPut (s.onRings m)

/-- What a node other than the Reeve passes on of a message that is not for its neighbour alone: the message, on the ring on which it came at
port `p`; nothing where that ring's port carries none (R267, R274, R286). -/
def State.relayed (s : State) (p : Port) (m : RingMsg) : List (Port × RingMsg) :=
  if s.ringState ≠ 4 ∧ s.portUp (otherPort p) = true then [(otherPort p, m)] else []

/-- A message that is not for the neighbour alone arrives: it is passed on as the node stands before it, and has its effect (R274). -/
def State.ringTakes (s : State) (via : Arrival) (m : RingMsg) (f : State → State) : State := (f s).ringPut (s.relayed via.port m)

/-- A message arrives: one with a wrong CRC is flagged and discarded, and one that arrives where the ring does not run, or at a port that is
disabled or whose input is lost, has no effect (R274, R286). -/
def State.ringMessage (s : State) (via : Arrival) (f : State → State) : State :=
  if !s.ringRuns || !s.portUp via.port then s else if via.ok then f s else s.set1 F.RING_ERR_HDR_CRC

/-- The Reeve shows T_need anew, and announces it, with the delays and options as they now are (R288). -/
def State.freshNeed (s : State) : State :=
  if s.ringState = 4 then
    let t := s.modRing (fun r => { r with next := { r.next with tneed := s.reeveNeed r.next r.members } })
    t.wr R.RING_TNEED (BitVec.ofNat 32 (s.reeveNeed s.ring.live s.ring.liveMembers))
  else s

/-- PROBE from the neighbour is answered with ECHO (R280). -/
def State.ringProbe (s : State) (p : Port) (turnaround : Nat) : State :=
  s.ringPut [(p, .echo turnaround)]

/-- ECHO completes a round trip: d_in = (R − U) / 2 + ASYM, and its mean (R280). -/
def State.ringEcho (s : State) (p : Port) (r u : Nat) : State :=
    let asym := match p with
      | .a => s.getI F.RING_ASYMA_ASYM
      | .b => s.getI F.RING_ASYMB_ASYM
    let d : Rat := ((r : Rat) - (u : Rat)) / 2 + (asym : Rat)
    let l := (d :: (match p with
      | .a => s.ring.dinsA
      | .b => s.ring.dinsB)).take s.ringDepth
    let shown := BitVec.ofNat 32 (wholeMean (meanOf l)).toNat
    (match p with
    | .a => ((s.modRing (fun g => { g with dinsA := l })).wr R.RING_DLYA shown)
    | .b => ((s.modRing (fun g => { g with dinsB := l })).wr R.RING_DLYB shown)).freshNeed

/-- The reason that turns a KNOCK away, the first that applies (R277). DEDUCED: log entry 43. -/
def State.knockReason (s : State) (m : RingMember) (pos : Nat) (streams : List Word) (rper : Nat) : Option Nat :=
  let ms := s.ring.members.take pos ++ [m] ++ s.ring.members.drop pos
  let x := s.layoutOf s.ring.next.roster ms
  let entries := (List.range 6).map (fun k => rosterEntry (x.entry (6 * m.slot + k)))
  if m.slot = s.ringSlot ∨ s.ring.members.any (fun o => o.slot == m.slot) then some 1
  else if streams.map rosterEntry ≠ entries ∨ entries.all (· == 0) then some 2
  else if (s.roundFails x.tneed).isSome then some 3
  else if m.standby ∧ (s.ring.members.any (·.standby) ∨ rper ≠ s.ringPeriod) then some 4
  else if s.admission ⟨x, ms, x.tneed, s.cfg.gen, s.trim⟩ ≠ 0 then some 2
  else none

/-- The Reeve's record of a member, if it has one. -/
def State.memberAt (s : State) (slot : Nat) : Option RingMember := s.ring.members.find? (fun m => m.slot == slot)

/-- A KNOCK at the Reeve, answered once in a gap (R277): `pos` is the member's place along ring A. -/
def State.ringKnock (s : State) (m : RingMember) (pos : Nat) (streams : List Word) (rper : Nat) : State :=
  if s.ringState ≠ 4 then s
  else
    let t := s.raise 0xC0
    if m.uid ∈ s.ring.answered then t
    else
      let t := t.modRing (fun r => { r with answered := r.answered ++ [m.uid] })
      match s.knockReason m pos streams rper with
        | some why => (t.ringSend (.refuse m.uid why)).ringEvent 0xC2 .info
        | none =>
          let u := t.announce s.ring.next.roster (s.ring.members.take pos ++ [m] ++ s.ring.members.drop pos)
          (u.ringSend (.admitted m.uid m.slot (u.get F.RING_GEN_NGEN) u.ring.nextAt.toNat)).ringEvent 0xC1 .info

/-- ADMIT: every node learns the generation; the knocking node it names becomes a MEMBER and steps its timebase (R277, R33). -/
def State.ringAdmit (s : State) (uid : Dword) (g at_ : Nat) : State :=
  if s.ringState = 4 ∨ s.ringState = 0 then s
  else if s.ringState = 2 ∧ uid = s.uid then
    let off := min (s.now : Int) (wholeMean s.thetaMean)
    let t := s.timebaseStep ((s.now : Int) - off).toNat
    let t := t.shiftThetas (-off)
    let t := (((t.put F.RING_STAT_STATE 3).put F.RING_GEN_GEN 0).put F.RING_GEN_NGEN g).learnGeneration g
    let t := t.modRing (fun r => { r with
      nextAt := BitVec.ofNat 16 at_, liveOk := false, leaving := false, inWin := 0, outWin := 0, noHeader := 0, cur := none, done := []
      slewWatch := false, slewHeld := false })
    (t.ringEvent 0xC1 .info).ringEvent 0xC7 .info
  else if s.ringState = 3 then
    ((s.put F.RING_GEN_NGEN g).learnGeneration g).modRing (fun r => { r with nextAt := BitVec.ofNat 16 at_ })
  else s

/-- REFUSE to this node (R277). -/
def State.ringRefuse (s : State) (uid : Dword) (why : Nat) : State :=
  if s.ringState = 2 ∧ uid = s.uid then
    (((s.put F.RING_STAT_STATE 1).put F.RING_STAT_REFUSE why).set1 F.RING_ERR_REFUSED).ringEvent 0xC2 .info
  else s

/-- The Reeve drops a member from the next generation (R278); admission judges what is left (R49). -/
def State.dropMember (s : State) (slot : Nat) : State :=
  if s.ringState = 4 ∧ (s.memberAt slot).isSome then
    let t := s.announce s.ring.next.roster (s.ring.members.filter (fun m => m.slot != slot))
    (t.judgeGeneration t.ring.next t.ring.members).ringEvent 0xC3 .info
  else s

/-- LINKS at the Reeve (R274, R288). -/
def State.ringLinks (s : State) (slot dinA dinB : Nat) : State :=
  if s.ringState = 4 then
    let told := fun (m : RingMember) => if m.slot = slot then { m with dinA := dinA, dinB := dinB } else m
    (s.modRing (fun r => { r with members := r.members.map told, liveMembers := r.liveMembers.map told })).freshNeed
  else s

/-- ROSTER: 16 entries of an announced generation (R274, R275). -/
def State.ringRoster (s : State) (g first : Nat) (entries : List Word) : State :=
  if s.ringState = 4 then s
  else
    let t := s.learnGeneration g
    let c := first / 16
    let t := if c < 384 then t.modRing (fun r => { r with
        next := { r.next with roster := wordSetAll r.next.roster (16 * c) ((entries ++ List.replicate 16 0).take 16) }
        chunks := if c ∈ r.chunks then r.chunks else r.chunks ++ [c] })
      else t
    t.adoptLate

/-- A member shows the T_need that PRESENT gives for its live generation (R288). -/
def State.liveNeed (s : State) (g need : Nat) : State :=
  if s.ringState = 3 ∧ s.ring.liveOk ∧ g = s.get F.RING_GEN_GEN then
    (s.modRing (fun r => { r with live := { r.live with tneed := need } })).wr R.RING_TNEED (BitVec.ofNat 32 need)
  else s

/-- PRESENT: half of the present map and T_need (R274, R275). -/
def State.ringPresent (s : State) (g half : Nat) (map : BitVec 512) (need : Nat) : State :=
  if s.ringState = 4 then s
  else
    let t := s.learnGeneration g
    let n := half % 2
    let t := t.modRing (fun r =>
      let keep := if n = 0 then (r.next.present >>> 512) <<< 512 else (r.next.present <<< 512) >>> 512
      { r with
        next := { r.next with present := keep ||| ((map.setWidth 1024) <<< (512 * n)), tneed := need }
        halves := if n ∈ r.halves then r.halves else r.halves ++ [n] })
    (t.liveNeed g need).adoptLate

/-- A member whose slots came back empty for LOST_N rounds is dropped (R278). -/
def State.memberLost (s : State) (slot : Nat) : State :=
  match s.memberAt slot with
  | some m => if s.ringRuns ∧ s.lostRounds ≤ m.lost then s.dropMember slot else s
  | none => s

/-! ### Node states (R276, R279) -/

/-- The node becomes the Reeve alone in generation 1, which admission judges (R32, R49, R276). DEDUCED: log entry 44. -/
def State.becomeReeve (s : State) : State :=
  let t := (s.fineZero.put F.RING_STAT_STATE 4).wr R.RING_GEN 0x00010001
  let t := t.modRing Ring.fresh
  let x := t.layoutOf t.rosterRegs []
  ((t.modRing (fun r => { r with next := x, nextGen := 1 })).showLayout x).judgeGeneration x []

/-- What a new Reeve knows of a member: that it holds the Roster's streams, or it would not be one. -/
def Layout.memberOf (x : Layout) (n : Nat) : RingMember :=
  { slot := n, uid := 0, streams := (List.range 6).map (fun k => rosterEntry (x.entry (6 * n + k))) }

/-- A STANDBY that was LOCKED takes over after 3 rounds without a header: the generation after the last one seen, without the old Reeve, from
the next round on (R279). -/
def State.standbyTakeover (s : State) : State :=
  if s.ringRuns ∧ s.ringState = 3 ∧ s.ringRole = 2 ∧ s.ring.wasLocked ∧ 3 ≤ s.ring.noHeader then
    let t := s.ringUnlock.discStops.fineZero
    let g := nextGeneration (s.get F.RING_GEN_NGEN)
    let t := (t.put F.RING_STAT_STATE 4).wr R.RING_GEN (BitVec.ofNat 32 (g + 65536 * g))
    let ms := (s.ring.live.nodes.filter (fun n => n != s.ringSlot && n != s.ring.issuer)).map s.ring.live.memberOf
    let x := t.layoutOf s.ring.live.roster ms
    let t := t.modRing (fun r => { r with
      next := x, nextGen := g, members := ms, answered := [], announcedIn := none, sendNext := 0, cur := none, issueDue := false
      tookOver := true, wasLocked := false, noHeader := 0, inWin := 0, slewWatch := false, slewHeld := false })
    (((t.showLayout x).judgeGeneration x ms).ringEvent 0xBF .info).ringEvent 0xC6 .info
  else s

/-- Both ports disabled: OFF (R276); FINE is 0 and SYN0 follows no more (R25, R32). -/
def State.ringOff (s : State) : State :=
  let t := s.ringUnlock.discStops.fineZero
  let t := (t.setPortLock .a false).setPortLock .b false
  let keep := t.rd R.RING_STAT &&& 0xE00
  ((t.wr R.RING_STAT keep).wr R.RING_GEN 0).modRing Ring.fresh

/-- A port that has just been disabled keeps no lock and no wrap. -/
def State.portOff (s : State) (p : Port) : State :=
  if s.portOn p then s else
    let t := (s.setPortLock p false).clr (wrapFld p)
    match p with
    | .a => t.modRing (fun r => { r with runA := 0 })
    | .b => t.modRing (fun r => { r with runB := 0 })

/-- Bring the node's state in line with its port enables (R276). -/
def State.ringPorts (s : State) : State :=
  let t := (s.portOff .a).portOff .b
  if !s.ringOn then (if s.ringState = 0 then t else t.ringOff)
  else if s.ringState ≠ 0 then t
  else if s.ringRole = 1 then t.becomeReeve
  else (t.put F.RING_STAT_STATE 1).modRing Ring.fresh

/-- An enabled port whose input is lost wraps (R286). -/
def State.wrapLost (s : State) (p : Port) : State :=
  if s.ringRuns && s.portOn p && !(s.ring.loss p).isEmpty then s.wrapPort p else s

/-- The ports whose input is lost wrap, as when the ring begins to run (R286). -/
def State.wrapHeld (s : State) : State := (s.wrapLost .a).wrapLost .b

/-- Enabling a port while SYN0 spread spectrum is on is refused (R28, R292). A port enabled with its input lost wraps (R286). -/
def State.portEnables (s : State) (want : Nat) : State :=
  let now := s.get ⟨R.RING_CTRL, 0, 2⟩
  let rise := (want &&& (3 - now)) != 0
  let t := if rise && s.on F.CLK_STAT_SSC0_ON then ((s.set1 F.RING_ERR_SSC_REF).put ⟨R.RING_CTRL, 0, 2⟩ (want &&& now)).ringPorts
    else (s.put ⟨R.RING_CTRL, 0, 2⟩ want).ringPorts
  t.wrapHeld

/-- A write of RING_CTRL: enables, then JOIN and LEAVE, and the block lock (R276, R278). -/
def State.ringCtrl (s : State) (v : Word) : State :=
  let t := s.portEnables (getBits v 0 2)
  let t := t.whenB (bitAt v 2) State.ringJoin
  let t := t.whenB (bitAt v 3) State.ringLeave
  t.whenB (bitAt v 31) (·.set1 F.RING_CTRL_LOCK)

/-- A host write of RING_TXWw loads the latch (R273, R180). -/
def State.loadLatch (s : State) (w : Nat) (v : Word) : State := s.wr (R.RING_TXWw w) v

/-! ### Breaks (R286, R287, R292) -/

/-- A condition that counts as loss of a port's input comes or goes (R286): with the first the node wraps there, and after the last the
time of R287 runs. -/
def State.portLoss (s : State) (p : Port) (c : PortLoss) (on : Bool) : State :=
  let rest := (s.ring.loss p).filter (· != c)
  let now := if on then rest ++ [c] else rest
  let clear := if (s.ring.loss p).isEmpty then s.ring.clearSince p else s.count
  let t := match p with
    | .a => s.modRing (fun r => { r with lossA := now, clearA := clear, runA := if on && c != PortLoss.remoteFault then 0 else r.runA })
    | .b => s.modRing (fun r => { r with lossB := now, clearB := clear, runB := if on && c != PortLoss.remoteFault then 0 else r.runB })
  t.wrapLost p

/-- An issue stamp, as this node reckons them from the last one; any instant before one is known (R287). DEDUCED: log entry 44. -/
def State.atIssue (s : State) : Bool :=
  match s.ring.lastIssue with
  | some i => i ≤ s.ringCount && (s.ringCount - i) % max 1 s.ringPeriod == 0
  | none => true

/-- A wrapped port whose input has been free of every loss for 1 ms unwraps at an issue stamp (R287). -/
def State.unwrap (s : State) (p : Port) : State :=
  if s.ringRuns ∧ s.portOn p ∧ s.on (wrapFld p) ∧ (s.ring.loss p).isEmpty ∧ s.ring.clearSince p + 400000 ≤ s.count ∧ s.atIssue then
    (s.clr (wrapFld p)).ringEvent 0xBE .info
  else s

/-- A clock failure: both ports stop transmitting and the node leaves LOCKED (R292). -/
def State.ringClockFail (s : State) : State :=
  (s.ringUnlock.discStops).modRing (fun r => { r with silent := true, outA := [], outB := [] })

/-- Entry into RUN or SERVICE abandons a knock (R276). -/
def State.knockAbandoned (s : State) : State :=
  if s.ringState = 2 then (s.put F.RING_STAT_STATE 1).set1 F.RING_ERR_ABANDONED else s

/-- The vetoes of the ring against DOZE and KEEP (R292, R379). -/
def State.ringVetoesDoze (s : State) : Bool := s.ringState == 4 || (s.ringState == 3 && !s.on F.RING_CFG_DOZE_UP)
def State.ringVetoesKeep (s : State) : Bool := s.ringLive

end Sys2Proof.Machine
end

