-- ==== Sys2Proof/Machine/ShfOps.lean ====
section
/-! DEFINITION. Machine/ShfOps.lean: shaft feedback and encoder emulation (R252 to R264). -/

namespace Sys2Proof.Machine

def State.modShf (s : State) (f : Shf → Shf) : State := { s with shf := f s.shf }
def State.enc (s : State) (n : Nat) : EncSt := nth s.shf.encs n {}
def State.modEnc (s : State) (n : Nat) (f : EncSt → EncSt) : State := s.modShf (fun x => { x with encs := upd x.encs n f })

/-- Interface `n` runs in a mode: 1 quadrature, 2 SSI (R263). -/
def State.encRuns (s : State) (n mode : Nat) : Bool :=
  s.shf.active.getLsbD n && s.coreRuns && s.get (F.SHF_ENCn_CFG_MODE n) == mode

/-! ### Numbers of an interface -/

/-- NBITS, 8 to 32, and POSBITS, 1 to NBITS (R257). -/
def State.ssiBits (s : State) (n : Nat) : Nat := max 8 (min 32 (s.get (F.SHF_ENCn_SSI_NBITS n)))
def State.ssiPosBits (s : State) (n : Nat) : Nat := max 1 (min (s.ssiBits n) (s.get (F.SHF_ENCn_SSI_POSBITS n)))

/-- CPR: of the register, at least 4; in SSI mode 2^POSBITS (R253, R257). -/
def State.encCpr (s : State) (n : Nat) : Nat :=
  if s.get (F.SHF_ENCn_CFG_MODE n) = 2 then 2 ^ s.ssiPosBits n else max 4 (s.get (F.SHF_ENCn_CPR_VAL n))

/-- IDXPOS, modulo CPR (R255). -/
def State.idxPos (s : State) (n : Nat) : Nat := s.get (F.SHF_ENCn_IDX_VAL n) % s.encCpr n

/-- The way from `a` to `b` modulo `m`, the shorter way round; of two equally long ways either (log entry 29). -/
def wayTo (m a b : Nat) : Int :=
  let up := (b + m - a % m) % m
  if 2 * up < m ∨ (2 * up = m ∧ Config.goUp m a b) then up else (up : Int) - m

/-- POS, with the bits of an SSI position that its register has no room for. -/
def State.encPos (s : State) (n : Nat) : Nat := s.get (F.SHF_ENCn_POS_POS n) + (s.enc n).high * 2 ^ 24

/-- Where interface `n` stands. -/
def State.encRead (s : State) (n : Nat) : EncRead := ⟨s.encPos n, (s.enc n).turns, (s.enc n).net, (s.enc n).te⟩

/-- Where a latch of this cycle finds interface `n`: in SSI mode after the last good read that completed before it (R259). -/
def State.encLatched (s : State) (n : Nat) : EncRead :=
  if s.encRuns n 2 && (s.enc n).readAt == some s.count then (s.enc n).before else s.encRead n

/-- A filtered line last changed at `last` can change again: it needs FILT + 1 samples at the new level, and `k` times that for two
changes of one sense apart (R252). DEDUCED: log entry 77. -/
def State.lineMay (s : State) (n k : Nat) (last : Option Nat) : Bool :=
  match last with
  | none => true
  | some t => decide (t + k * (s.get (F.SHF_ENCn_CFG_FILT n) + 1) ≤ s.count)

/-! ### Emulation (R262) -/

/-- EPPR and the number of quadrature states of a turn. -/
def State.eppr (s : State) : Nat := s.get F.SHF_EMU_CFG_EPPR_M1 + 1

/-- The emulation's target count. -/
def State.emuTarget (s : State) : Nat :=
  let n := s.get F.SHF_EMU_CFG_SRC
  s.encPos n * 4 * s.eppr / s.encCpr n % (4 * s.eppr)

/-- States from the emulated count to the target. DESIGN CHOICE: log entry 29. -/
def State.emuWay (s : State) : Int := wayTo (4 * s.eppr) (s.get F.SHF_EMU_STAT_ECNT) s.emuTarget

/-- LAG when the emulation stands more than EPPR states behind at the end of a cycle. -/
def State.emuLag (s : State) : State :=
  if s.on F.SHF_CTRL_EMU_EN && s.coreRuns && s.eppr < s.emuWay.natAbs then s.set1 F.SHF_EMU_STAT_LAG else s

/-- The emulation starts, at count 0, the state whose outputs are those at rest. DESIGN CHOICE: log entry 77. -/
def State.emuStart (s : State) : State :=
  if s.on F.SHF_CTRL_EMU_EN then (s.put F.SHF_EMU_STAT_ECNT 0).modShf (fun x => { x with emuAt := s.count }) else s

/-- The emulation moves one quadrature state towards its target. -/
def State.emuStep (s : State) : State :=
  if s.on F.SHF_CTRL_EMU_EN && s.coreRuns && s.due (s.shf.emuAt + max 20 (s.get F.SHF_EMU_CFG_MINE)) && s.emuWay != 0 then
    let m := 4 * s.eppr
    let c := s.get F.SHF_EMU_STAT_ECNT
    let t := s.put F.SHF_EMU_STAT_ECNT (if 0 < s.emuWay then (c + 1) % m else (c + m - 1) % m)
    t.modShf (fun x => { x with emuAt := s.count })
  else s

/-- QEA, QEB and QEZ: the forward sequence 00, 10, 11, 01 from count 0 up; at rest low (R262). DESIGN CHOICE: log entry 64. -/
def State.emuPins (s : State) : Bool × Bool × Bool :=
  if s.on F.SHF_CTRL_EMU_EN && s.coreRuns then
    let c := s.get F.SHF_EMU_STAT_ECNT
    (c % 4 == 1 || c % 4 == 2, c % 4 == 2 || c % 4 == 3, c == 0)
  else (false, false, false)

/-! ### Counting (R253, R254) -/

/-- POS moves by `d` counts, less than CPR, with its wraps in TURNS. -/
def State.movePos (s : State) (n : Nat) (d : Int) : State :=
  let cpr := s.encCpr n
  let p := (s.get (F.SHF_ENCn_POS_POS n) : Int) + d
  let t := s.put (F.SHF_ENCn_POS_POS n) (p % cpr).toNat
  if (cpr : Int) ≤ p then t.modEnc n (fun e => { e with turns := e.turns + 1 })
  else if p < 0 then t.modEnc n (fun e => { e with turns := e.turns - 1 }) else t

/-- A trip of interface `n` (R258). -/
def State.encTrip (s : State) (n : Nat) : State := (s.set1 (F.SHF_ENCn_STAT_TRIP n)).raise (0xB6 + n)

/-- No step of interface `n` can come in this cycle any more: CORE takes no samples, or its index or latch has come (R19, R252, R256).
DEDUCED: log entry 9. -/
def State.encJudged (s : State) (n : Nat) : Bool :=
  !s.coreRuns || (s.enc n).qiAt == some s.count || (s.enc n).latchAt == some s.count

/-- A transition of one filtered line, QB when `qb`, else QA, that the filter can give in this cycle (R252, R253). DEDUCED: log entry 77. -/
def State.encStep (s : State) (n : Nat) (qb : Bool) : State :=
  let e := s.enc n
  let now := some s.count
  if s.encJudged n || !(s.lineMay n 1 (if qb then e.qbAt else e.qaAt)) || (if qb then e.qaAt else e.qbAt) == now then s else
  let t := s.modEnc n (fun e => if qb then { e with qb := !e.qb, qbAt := now } else { e with qa := !e.qa, qaAt := now })
  if t.encRuns n 1 then
    let e := t.enc n
    let up := if qb then e.qb == e.qa else e.qa != e.qb
    let d : Int := if up != t.on (F.SHF_ENCn_CFG_DIR n) then 1 else -1
    let t := t.movePos n d
    (t.modEnc n (fun e => { e with net := e.net + d, te := some t.count })).clr (F.SHF_ENCn_STAT_STILL n)
  else t

/-- Both filtered lines change in one cycle (R254). -/
def State.encIllegal (s : State) (n : Nat) : State :=
  let now := some s.count
  if s.encJudged n || !(s.lineMay n 1 (s.enc n).qaAt && s.lineMay n 1 (s.enc n).qbAt) then s else
  let t := s.modEnc n (fun e => { e with qa := !e.qa, qb := !e.qb, qaAt := now, qbAt := now })
  if t.encRuns n 1 then
    let t := ((t.set1 (F.SHF_ENCn_STAT_ILL n)).incS (F.SHF_ENCn_CNT_ILLCNT n)).raise (0xB2 + n)
    let t := t.modEnc n (fun e => { e with illRun := e.illRun + 1, illSince := true })
    let lim := t.get (F.SHF_ENCn_CFG_ILLN n)
    if lim ≠ 0 ∧ (t.enc n).illRun = lim then t.encTrip n else t
  else t

/-- A rising edge of the filtered index line; it is judged after a step of the same cycle and before the latch (R255, R256). -/
def State.encIndex (s : State) (n : Nat) : State :=
  if !s.coreRuns || (s.enc n).latchAt == some s.count || !(s.lineMay n 2 (s.enc n).qiAt) then s else
  let s := s.modEnc n (fun e => { e with qiAt := some s.count })
  if s.encRuns n 1 && (!s.on (F.SHF_ENCn_CFG_IDXGATE n) || ((s.enc n).qa && (s.enc n).qb)) then
    let t := s.raise (0xB0 + n)
    let p := t.get (F.SHF_ENCn_POS_POS n)
    if !t.on (F.SHF_ENCn_STAT_HOMED n) then
      (t.put (F.SHF_ENCn_POS_POS n) (t.idxPos n)).set1 (F.SHF_ENCn_STAT_HOMED n)
    else
      let d := wayTo (t.encCpr n) p (t.idxPos n)
      if d.natAbs ≤ t.get (F.SHF_ENCn_IDX_TOL n) then t
      else
        let t := (t.put (F.SHF_ENCn_IDXCAP_POS n) p).set1 (F.SHF_ENCn_STAT_IDXERR n)
        let t := (t.incS (F.SHF_ENCn_CNT_IDXERRCNT n)).raise (0xB4 + n)
        match t.get (F.SHF_ENCn_CFG_POLICY n) with
        | 0 => t
        | 1 => t.movePos n d
        | _ => t.encTrip n
  else s

/-! ### SSI (R257) -/

/-- CORE cycles of half a SCK period. -/
def State.ssiHalf (s : State) (n : Nat) : Nat := max 19 (s.get (F.SHF_ENCn_SSI_DIV n)) + 1

/-- CORE cycles from the first falling edge to the last rising edge of a frame. -/
def State.ssiLength (s : State) (n : Nat) : Nat :=
  (2 * (s.ssiBits n + s.get (F.SHF_ENCn_SSI_PAR n)) - 1) * s.ssiHalf n

/-- The binary number of a Gray code of `w` bits. -/
def grayDecode (w g : Nat) : Nat := ((List.range w).foldl (fun x k => x ^^^ (g >>> (k + 1))) g) % 2 ^ w

/-- The number of ones below bit `w`. -/
def onesBelow (w x : Nat) : Nat := ((List.range w).filter (fun k => x.testBit k)).length

/-- A latch takes the state at the end of its cycle: what the cycle still makes of the status after it shows in L3 (R256, R259). -/
def State.encRelatch (s : State) (n : Nat) : State :=
  if (s.enc n).latchAt == some s.count then
    (s.wr (R.SHF_ENCn_Li n 3) (s.rd (R.SHF_ENCn_STAT n) &&& 0xFF)).modEnc n (fun e => { e with stillWas := s.on (F.SHF_ENCn_STAT_STILL n) })
  else s

/-- A read starts at a valley, or SKIP (R257). -/
def State.ssiStart (s : State) (n : Nat) : State :=
  if s.encRuns n 2 then
    if (s.enc n).reading.isSome || s.count < (s.enc n).pauseEnd then (s.set1 (F.SHF_ENCn_STAT_SKIP n)).encRelatch n
    else s.modEnc n (fun e => { e with reading := some s.count })
  else s

/-- How far the read value `v` lies from where the interface stands, in serial-number arithmetic over POS and TURNS (R41, R257).
DEDUCED: log entry 30. -/
def State.ssiMoved (s : State) (n v : Nat) : Int :=
  let w := s.ssiBits n
  signed w (v + 2 ^ w - ((s.enc n).turns.toNat * 2 ^ s.ssiPosBits n + s.encPos n) % 2 ^ w)

/-- A good read's position and turns. DEDUCED: log entry 30. -/
def State.ssiTake (s : State) (n v stamp : Nat) : State :=
  let b := s.ssiPosBits n
  let d := if (s.enc n).good then s.ssiMoved n v else 0
  let t := s.put (F.SHF_ENCn_POS_POS n) (v % 2 ^ b % 2 ^ 24)
  let t := t.modEnc n (fun e => { e with
    turns := BitVec.ofNat 32 (v / 2 ^ b), high := v % 2 ^ b / 2 ^ 24, net := e.net + d, te := some stamp, good := true
    readAt := some s.count, before := s.encRead n })
  if d = 0 then t else (t.clr (F.SHF_ENCn_STAT_STILL n)).encRelatch n

/-- A frame has ended: `data` as shifted in, the parity bit, and SDIn before the first falling edge (R257). -/
def State.ssiDone (s : State) (n : Nat) (data : Word) (parity idleHigh : Bool) : State :=
  match (s.enc n).reading with
  | none => s
  | some stamp =>
    if s.encRuns n 2 && s.due (stamp + s.ssiLength n) then
      let w := s.ssiBits n
      let raw := data.toNat % 2 ^ w
      let v := if s.on (F.SHF_ENCn_SSI_GRAY n) then grayDecode w raw else raw
      let bad := !idleHigh || (s.on (F.SHF_ENCn_SSI_PAR n) && (onesBelow w raw + bit1 parity) % 2 == 1) ||
        ((s.enc n).good && decide (2 ^ s.ssiPosBits n / 2 < (s.ssiMoved n v).natAbs))
      let t := s.modEnc n (fun e => { e with
        reading := none, pauseEnd := stamp + s.ssiLength n + max 1 (s.get (F.SHF_ENCn_SSI_TM n)) * 400 })
      if bad then (t.set1 (F.SHF_ENCn_STAT_SSIERR n)).encRelatch n else t.ssiTake n v stamp
    else s

/-! ### The latch (R259 to R261) -/

/-- SPEED at a latch (R260). DESIGN CHOICE: log entry 29. DEDUCED: log entry 30. -/
def State.encSpeed (s : State) (n : Nat) : Word :=
  let e := s.enc n
  let r := s.encLatched n
  let k : Rat := 60 * 400000000 / (s.encCpr n : Rat)
  match r.te, e.teRef with
  | some t, some t0 =>
    if r.net ≠ 0 then (if e.stillWas then 0 else toSingle (k * r.net / ((t - t0 : Nat) : Rat)))
    else
      let last := singleRat e.speed
      let most := k / ((s.count - t : Nat) : Rat)
      if s.count = t then e.speed
      else if last < 0 then (if -last ≤ most then e.speed else toSingle (-most))
      else if last ≤ most then e.speed else toSingle most
  | some t, none => if r.net ≠ 0 then (if e.stillWas then 0 else Config.firstSpeed (s.encCpr n) r.net (s.count - t)) else e.speed
  | none, _ => e.speed

/-- Interface `n` latches L0 to L3, and its deposit is due 8 cycles later (R259, R261). -/
def State.encLatch (s : State) (n : Nat) : State :=
  let sp := s.encSpeed n
  let r := s.encLatched n
  let t := s.wr (R.SHF_ENCn_Li n 0) (BitVec.ofNat 32 (r.pos * 2 ^ 32 / s.encCpr n))
  let t := (t.wr (R.SHF_ENCn_Li n 1) sp).wr (R.SHF_ENCn_Li n 2) r.turns
  let t := t.wr (R.SHF_ENCn_Li n 3) (s.rd (R.SHF_ENCn_STAT n) &&& 0xFF)
  (t.modEnc n (fun e => { e with
    speed := sp, net := e.net - r.net, teRef := r.te, stillWas := s.on (F.SHF_ENCn_STAT_STILL n)
    illRun := if e.illSince then e.illRun else 0, illSince := false
    latchAt := some s.count, depositAt := some (s.count + 8) }))

/-- What a valley of carrier `c` does to the interfaces bound to it (R256, R257, R259). -/
def State.shfValley (s : State) (c : Nat) : State :=
  s.forAll 2 (fun n t =>
    if t.get (F.SHF_ENCn_CFG_CAR n) = c && (t.encRuns n 1 || t.encRuns n 2) then (t.encLatch n).ssiStart n else t)

/-- The deposit of R261: L0 to L3 go to data memory at ADDR, and what a lane stores there in the same cycle is lost. -/
def State.shfDeposit (s : State) (n : Nat) : State :=
  match (s.enc n).depositAt with
  | none => s
  | some d =>
    if s.due d then
      let t := s.modEnc n (fun e => { e with depositAt := none })
      let a := s.get (F.SHF_ENCn_DEP_ADDR n)
      if s.on (F.SHF_ENCn_DEP_EN n) && s.on F.MILL_CTRL_EN && (s.mode == .ready || s.switching) && a ≤ 0x1FFC then
        let words := (List.range 4).map (fun i => a + i)
        let t := t.modMill (fun m => { m with
          dmem := wordSetAll m.dmem a ((List.range 4).map (fun i => s.rd (R.SHF_ENCn_Li n i)))
          correctable := m.correctable.filter (fun k => decide (k ∉ words.map dmemWord)) })
        { t with cycle := { t.cycle with deposits := words ++ t.cycle.deposits } }
      else t
    else s

/-- Standstill: STILL ms without a counted edge, which a latch of the same cycle shows (R256, R260). DEDUCED: log entry 30. -/
def State.encStill (s : State) (n : Nat) : State :=
  let e := s.enc n
  if (s.encRuns n 1 || s.encRuns n 2) && !s.on (F.SHF_ENCn_STAT_STILL n) &&
      s.due (e.te.getD e.startAt + max 1 (s.get (F.SHF_ENCn_SPD_STILL n)) * 400000) then
    let t := ((s.modEnc n (fun x => { x with speed := 0 })).set1 (F.SHF_ENCn_STAT_STILL n)).encRelatch n
    if e.latchAt == some s.count then t.wr (R.SHF_ENCn_Li n 1) 0 else t
  else s

/-! ### Starting (R263) -/

/-- An interface starts: POS, TURNS and SPEED at 0, not homed. DEDUCED: log entry 30. -/
def State.encStart (s : State) (n : Nat) : State :=
  let t := s.modEnc n (fun e => { qa := e.qa, qb := e.qb, qaAt := e.qaAt, qbAt := e.qbAt, qiAt := e.qiAt, startAt := s.count })
  ((t.wr (R.SHF_ENCn_POS n) 0).clr (F.SHF_ENCn_STAT_HOMED n)).clr (F.SHF_ENCn_STAT_STILL n)

/-- CFG_ERR while the deposit's address has no room for four words (R261). -/
def State.depositCheck (s : State) (n : Nat) : State :=
  s.putB (F.SHF_ENCn_STAT_CFG_ERR n) (decide (0x1FFC < s.get (F.SHF_ENCn_DEP_ADDR n)))

/-- The enables as written take effect (R263); an interface that stops holds no read or deposit. -/
def State.applyShf (s : State) : State :=
  let on : BitVec 2 := (s.rd R.SHF_CTRL).setWidth 2
  let changed := on ^^^ s.shf.active
  let t := s.modShf (fun x => { x with active := on })
  t.forAll 2 (fun n u =>
    if changed.getLsbD n then
      if on.getLsbD n then (u.encStart n).depositCheck n
      else u.modEnc n (fun e => { e with reading := none, depositAt := none })
    else u)

/-- CORE has taken no sample since it stopped: the filters of interface `n` go on from where they stood (R252). -/
def State.encResume (s : State) (n : Nat) : State :=
  let later := fun (t : Option Nat) => t.map (· + (s.count - s.shf.stopAt))
  s.modEnc n (fun e => { e with qaAt := later e.qaAt, qbAt := later e.qbAt, qiAt := later e.qiAt })

/-- Every running interface and the emulation start again, on return from DOZE or KEEP (R263). -/
def State.encRestart (s : State) : State :=
  (s.forAll 2 (fun n u => let t := u.encResume n; if t.shf.active.getLsbD n then t.encStart n else t)).emuStart

end Sys2Proof.Machine
end

