-- ==== Sys2Proof/Machine/Modes.lean ====
section
/-! DEFINITION. Machine/Modes.lean: the transitions between modes, the latency policy, LIMP causes, KEEP, resets and what they keep,
the clock monitor, PFAIL and brown-out (R30, R375 to R389). -/

namespace Sys2Proof.Machine

def State.modSys (s : State) (f : Sys → Sys) : State := { s with sys := f s.sys }

/-! ### Stopping and restarting CORE (R19, R171, R216, R263) -/

/-- CORE stops but for the timebase and the sampling ticks: tasks, conversions, carriers, pulse outputs, events on their way. -/
def State.coreStops (s : State) : State :=
  let t := s.millStop
  let t := t.forAll 24 (fun l u => (u.restLeg l true).clearCarries l)
  let t := t.forAll 8 (fun c u =>
    if u.carState c = 0 then u else (u.putB (F.LOOM_CSTATc_STATE c) (u.on (F.LOOM_CARc_EN c))).abandonWindows c)
  let t := t.forAll 4 (fun k u => u.epoRest k)
  let t := t.modAcq (fun a => { a with running := false, armed := false, valleySeen := false, flight := [] })
  { t with events := [], mem := { t.mem with scrubNext := 0 }, shf := { t.shf with stopAt := t.count } }

/-- CONV starts: every slice calibrates, and acquisition waits again for its start (R70, R75). A slice or spare fault stands.
DEDUCED: log entry 5. -/
def State.convStarts (s : State) : State :=
  let t := s.clr F.ACQ_STAT_CAL_DONE
  let t := if t.on F.ACQ_STAT_SLICE_FAULT || t.on F.ACQ_STAT_SPARE_FAULT then t else t.put F.ACQ_STAT_SPARE_STATE 0
  t.modAcq (fun a => { a with
    running := false, armed := t.on F.ACQ_CTRL_EN, valleySeen := false, slotAt := none, flight := []
    slices := List.replicate 16 {}, spare := {} })

/-- Streams and samples begin afresh, sets and channels in their power-up state, windows with nothing open (R87, R97, R116). -/
def State.observersStart (s : State) : State :=
  let t := s.modPrism (fun p => { p with
    interval := s.count / 12500, ended := none, streams := List.replicate 40 {}
    wins := p.wins.map (fun w => { w with open_ := none, closed := none }) })
  let t := t.modWvn (fun w => { w with interval := s.count / 5000, ended := none })
  let t := t.forAll 4 (fun k u => if bitAt u.wvn.active k then u.setStart k else u)
  t.forAll 8 (fun m u => if bitAt u.wvn.active (8 + m) then u.mppStart m else u)

/-- CORE returns from DOZE. Carriers that wait have their EN take effect now; every window monitor is to start again. -/
def State.coreReturns (s : State) : State :=
  let t := s.forAll 8 (fun c u => if u.carState c = 1 then u.modCar c (fun x => { x with startAt := u.clk.count }) else u)
  let t := (t.convStarts).observersStart.encRestart
  t.forAll 48 (fun w u => u.modWin w (fun _ => {}))

/-! ### Transitions (R375) -/

/-- A mode in which the outputs may switch. -/
def Mode.switches (m : Mode) : Bool := m == .run || m == .service

/-- SERVICE is left: perturbation ends (R56). -/
def State.leaveService (s : State) : State :=
  (s.forAll 8 (fun k t => t.clr (F.TST_DLYk_EN k))).clr F.TST_CTRL_PERT_EN

/-- The transition's record in SYS_MODE, event 0xFB, the MODE record, and attention bit 4 when no command asked for it. -/
def State.recordMode (s : State) (was dest : Mode) (cause : Nat) (byCommand : Bool) : State :=
  let t := ((s.put F.SYS_MODE_PREV was.code).put F.SYS_MODE_MODE dest.code).incW F.SYS_MODE_CHANGES
  let t := (t.raise 0xFB).log 0x0002 0xFF (if dest = .limp then .error else .info)
    (leBytes 1 was.code ++ leBytes 1 dest.code ++ leBytes 2 cause)
  if byCommand then t else t.attend 0x10

/-- HOLD begins on an entry into READY from boot or DOZE (R379). -/
def State.holdBegins (s : State) : State :=
  let n := s.get F.SYS_PWR_CFG_HOLD
  (s.putB F.SYS_PWR_STAT_HOLDING (n != 0)).modSys (fun x => { x with holdEnd := s.count + n * 400000000 })

/-- A transition between modes other than KEEP. -/
def State.enterMode (s : State) (dest : Mode) (cause : Nat) (byCommand : Bool) : State :=
  let was := s.mode
  let t := if was = .service then s.leaveService else s
  let t := if was.switches && !dest.switches then t.forAll 24 (fun l u => (u.restLeg l true).clearCarries l) else t
  let t := match dest with
    | .doze => t.coreStops
    | .limp => t.millStop
    | _ => t
  let t := t.put F.SYS_MODE_MODE dest.code
  let t := if was = .doze then t.coreReturns else t
  let t := t.putB F.LOOM_STAT_OUT_EN dest.switches
  let t := t.recordMode was dest cause byCommand
  let t := if was = .doze ∧ dest = .ready then t.holdBegins else t
  let t := t.gdRefreshAll.brkStepAll
  let t := if was = .doze then t.wrapHeld else t
  if dest.switches then t.knockAbandoned else t

/-- A LIMP cause (R378): the first one is recorded. -/
def State.limp (s : State) (cause : Nat) : State :=
  if s.sys.phase = .run ∧ s.mode ≠ .keep ∧ s.mode ≠ .limp then
    (if s.on F.SYS_MODE_LIMP_CAUSE then s else s.put F.SYS_MODE_LIMP_CAUSE cause).enterMode .limp 7 false
  else s

/-- A FAULT of the island sends the device to LIMP (R309, R378). -/
def State.limpIf (s : State) : State :=
  if s.safe.limpDue ∧ s.sys.phase = .run then (s.modSafe (fun x => { x with limpDue := false })).limp 4 else s

/-! ### Resets and KEEP (R381 to R388) -/

/-- A register of the KEEP domain: kept by every reset but COLD (R385, R390).
CLK_RTC_TB and the latched halves of the RTC are CORE's and are reset. DESIGN CHOICE: log entry 79. -/
def keptReg (a : Nat) : Bool :=
  a == R.CLK_RTC_TRIM || isIn a (R.CMP_WAKEn 0) 4 2 || a == R.CMP_WAKE_STAT || a == R.SYS_ALARM || a == R.SYS_KCTL || a == R.SYS_SUPPLY

/-- What stands after the CORE domain is reset: OTP, MRAM, the KEEP domain, and the island or its parameter stores (R385). -/
def State.afterReset (s : State) (island : Bool) : State :=
  let t : State := { State.reset with
    regs := s.regs.filter (fun p => keptReg p.1 || (island && blockIndex p.1 == 12))
    clk := { rtcSec := s.clk.rtcSec, rtcSub := s.clk.rtcSub, rtcHeldLo := s.clk.rtcHeldLo, rtcInterval := s.clk.rtcInterval }
    sys := { bankLow := s.sys.bankLow }
    otp := s.otp
    tap := if island then s.tap else {}
    ring := if island then { lossA := s.ring.lossA, lossB := s.ring.lossB } else {}
    mem := { mram := s.mem.mram, mramBad := s.mem.mramBad, worn := s.mem.worn, spares := s.mem.spares }
    cmp := { wakes := s.cmp.wakes }
    safe := if island then s.safe else { a := { store := s.safe.a.store, hist := s.safe.a.hist, dead := true }
                                         b := { store := s.safe.b.store, hist := s.safe.b.hist, dead := true } }
    draws := s.draws
    pending := s.pending }
  t.clr F.SYS_SUPPLY_PF_SEEN

/-- A boot begins with a cause and a wake source; the island boots unless it was kept (R384, R385, R387). -/
def State.startBoot (s : State) (cause wake : Nat) (island : Bool) : State :=
  let t := ((s.afterReset island).put F.SYS_BOOT_CAUSE cause).put F.SYS_BOOT_WAKESRC wake
  if island then t else t.islandPowerOn

/-- A system reset (R384), from any phase but KEEP. -/
def State.systemReset (s : State) (cause : Nat) : State :=
  if s.sys.phase = .keep then s else s.startBoot cause 0 true

/-- Every domain but KEEP loses power. -/
def State.powerDown (s : State) : State :=
  let t := (s.afterReset false).put F.SYS_MODE_MODE 0
  t.modSys (fun x => { x with phase := .keep })

/-- KEEP is entered by the latency policy (R383): the MODE record comes first. DEDUCED: log entry 46. -/
def State.enterKeep (s : State) (cause : Nat) : State := (s.recordMode s.mode .keep cause false).powerDown

/-- A wake cause in KEEP starts a boot while the main supplies are present (R381). DEDUCED: log entry 46. -/
def State.keepWake (s : State) (source : Nat) : State :=
  if s.sys.phase = .keep ∧ !s.sys.brownOut then s.startBoot 6 source false else s

/-- A brown-out of a main supply (R388): a POWER reset, and KEEP while VBAK is present. DEDUCED: log entry 46. -/
def State.brownOut (s : State) (vbak : Bool) : State :=
  let t := if s.sys.phase = .keep then s else s.powerDown
  let t := (t.wr R.SYS_SUPPLY (BitVec.ofNat 32 (32 * bit1 vbak))).modSys (fun x => { x with phase := .keep, brownOut := true })
  if vbak then t else t.modSys (fun x => { x with keepLost := true })

/-- The KEEP domain loses its content (R383). -/
def State.keepContentLost (s : State) : State :=
  let t : State := { s with
    regs := s.regs.filter (fun p => p.1 == R.SYS_MODE)
    clk := { s.clk with rtcSec := 0, rtcSub := 0, rtcAt := none, rtcBase := 0, rtcHeldLo := 0, rtcInterval := 0 }
    cmp := { s.cmp with wakes := List.replicate 2 {} } }
  t.modSys (fun x => { x with keepLost := true })

/-- VBAK below 1.6 V: VBAK_OK clears, and with the main supplies absent the KEEP domain loses its content (R383, R390). -/
def State.vbakLoss (s : State) : State :=
  let t := s.clr F.SYS_SUPPLY_VBAK_OK
  if s.sys.phase = .keep ∧ s.sys.brownOut then t.keepContentLost else t

/-- The main supplies return after a brown-out: POWER, or COLD when the KEEP content is lost (R384, R387). DEDUCED: log entry 46. -/
def State.supplyReturn (s : State) : State :=
  if s.sys.phase = .keep ∧ s.sys.brownOut then
    if s.sys.keepLost then s.keepContentLost.startBoot 0 0 false else s.startBoot 1 0 false
  else s

/-! ### The latency policy (R379, R380) -/

/-- The vetoes, in the bit order of the LTR_SET reply. DEDUCED: log entry 45. -/
def State.vetoes (s : State) : Nat :=
  bit1 s.anyMeter + 2 * bit1 s.ringVetoesKeep + 4 * bit1 s.islandDelay +
    8 * bit1 ((List.range 2).any (fun n => s.get (F.GDP_LINKn_CFG_BRKMODE n) == 1))

/-- The vetoes that stand against DOZE, in the same order. -/
def State.dozeVetoes (s : State) : Nat := if s.ringVetoesDoze then s.vetoes else s.vetoes - 2 * bit1 s.ringVetoesKeep

/-- The candidate after the vetoes. -/
def State.candidate (s : State) : Mode :=
  let l := (s.rd R.SYS_LTR).toNat
  if 180000 ≤ l ∧ s.vetoes = 0 then .keep else if 2000 ≤ l ∧ s.dozeVetoes = 0 then .doze else .ready

/-- The mode the policy selects, as TARGET and the LTR_SET reply show it; READY where the policy does not decide. DEDUCED: log entry 45. -/
def State.policyTarget (s : State) : Mode :=
  if s.sys.phase = .run ∧ (s.mode = .ready ∨ s.mode = .doze) then s.candidate else .ready

/-- A drop waits: a long operation runs, a committed image waits for its instant, or a journal record is being written.
DEDUCED: log entry 45. -/
def State.dropWaits (s : State) : Bool :=
  s.stew.longOp.state == 1 || s.cfg.waiting.isSome || s.on F.GRN_JSTAT_BUSY

/-- TARGET, VETO and WAITING of SYS_PWR_STAT, as a read shows them. -/
def State.policyShow (s : State) : State :=
  let t := (s.put F.SYS_PWR_STAT_TARGET s.policyTarget.code).put F.SYS_PWR_STAT_VETO s.vetoes
  t.putB F.SYS_PWR_STAT_WAITING (s.mode == .ready && s.policyTarget != .ready && !s.on F.SYS_PWR_STAT_HOLDING && s.dropWaits)

/-- DOZE ends: READY, with cause code 6 (R380). DEDUCED: log entry 45. -/
def State.wake (s : State) (byCommand : Bool) : State :=
  if s.sys.phase = .run ∧ s.mode = .doze then s.enterMode .ready 6 byCommand else s

/-- The latency policy decides (R379, R380). DEDUCED: log entry 45. -/
def State.policy (s : State) : State :=
  if s.sys.phase ≠ .run then s
  else match s.mode, s.candidate with
    | .ready, .ready => s
    | .ready, dest =>
      if s.on F.SYS_PWR_STAT_HOLDING || s.dropWaits then s
      else if dest = .keep then s.enterKeep 5 else s.enterMode .doze 5 false
    | .doze, .ready => s.wake false
    | .doze, .keep => s.enterKeep 5
    | _, _ => s

/-- After an operation, and never inside it: a write of SYS_LTR, a changed veto, or the end of a wait makes the policy decide again
(R377, R379). -/
def State.policyAfter (s : State) (f : State → State) : State :=
  let t := f s
  if t.sys.ltrWritten ∨ t.vetoes ≠ s.vetoes ∨ t.dozeVetoes ≠ s.dozeVetoes ∨ (s.dropWaits ∧ !t.dropWaits) then
    (t.modSys (fun x => { x with ltrWritten := false })).policy
  else t

/-- The registers whose writes may change SYS_LTR or a veto (R379). -/
def movesPolicy (a : Nat) : Bool :=
  a == R.SYS_LTR || a == R.GRN_CTRL || a == R.RING_CTRL || isIn a (R.GDP_LINKn_CFG 0) 0x20 2

/-- A write of a register by a command or a DMA beat, the whole of it before the policy decides. -/
def State.policyFor (s : State) (a : Nat) (f : State → State) : State := if movesPolicy a then s.policyAfter f else f s

/-- HOLD ends (R379). -/
def State.holdEnds (s : State) : State :=
  if s.on F.SYS_PWR_STAT_HOLDING ∧ s.due s.sys.holdEnd then (s.clr F.SYS_PWR_STAT_HOLDING).policy else s

/-- A write of SYS_LTR (R379, R380): the policy decides when the command that writes it is over (R377). -/
def State.writeLtr (s : State) (v : Word) : State := (s.wr R.SYS_LTR v).modSys (fun x => { x with ltrWritten := true })

/-! ### MODE_SET (R376) -/

/-- A MODE_SET to a mode is refused from the present one. -/
def State.modeRefused (s : State) (dest : Mode) : Bool :=
  match s.mode, dest with
  | .ready, .run => !s.on F.CLK_STAT_SYN0_LOCKED || !s.on F.ACQ_STAT_CAL_DONE || !s.on F.LOOM_DLL_LOCKED
  | .ready, .service => false
  | .run, .ready => false
  | .service, .ready => false
  | .doze, .ready => false
  | a, b => a != b

/-- The cause code of a MODE_SET. -/
def setCause : Mode → Nat
  | .run => 1
  | .service => 4
  | _ => 2

/-- A permitted MODE_SET takes effect; one that names the present mode changes nothing. -/
def State.modeSet (s : State) (dest : Mode) : State :=
  if s.mode = dest then s else if s.mode = .doze then s.wake true else s.enterMode dest (setCause dest) true

/-! ### The clock monitor (R30) -/

/-- REF_LOST or SYN0_LOST while the device runs: outputs blocked, CORE on the monitor oscillator, the CLOCK record, the Granary's
final record, the ring silent, LIMP. DESIGN CHOICE: log entry 7. -/
def State.clockFails' (s : State) : State :=
  let t := (s.blockLegs .clk 0xFFFFFF).modClk (fun c => { c with coreOnMonitor := true })
  if s.sys.phase = .run then
    let t := t.log 0x0042 1 .fault (leBytes 4 (t.rd R.CLK_STAT).toNat)
    let t := if !s.coreRuns then t else if s.anyMeter && !s.grnFrozen then t.finalAsk 4 else t.set1 F.GRN_STAT_CLKSTOP
    (t.ringClockFail).limp 1
  else t

/-- No reference edge for 4 monitor cycles. -/
def State.refLost (s : State) : State :=
  if s.sys.phase = .keep ∨ s.clk.refMissing then s
  else
    let t := ((s.set1 F.CLK_STAT_REF_LOST).clr F.CLK_STAT_SYN0_LOCKED).clr F.CLK_STAT_SYN1_LOCKED
    (t.modClk (fun c => { c with refMissing := true, stewOnMonitor := true })).clockFails'

/-- SYN0 loses lock with the reference present. -/
def State.syn0Lost (s : State) : State :=
  if s.sys.phase = .keep ∨ s.clk.coreOnMonitor ∨ !s.on F.CLK_STAT_SYN0_LOCKED then s
  else ((s.set1 F.CLK_STAT_SYN0_LOST).clr F.CLK_STAT_SYN0_LOCKED).clockFails'

/-- SYN1 loses lock with the reference present: STEW on the monitor oscillator, and the CLOCK record. -/
def State.syn1Lost (s : State) : State :=
  if s.sys.phase = .keep ∨ s.clk.stewOnMonitor ∨ !s.on F.CLK_STAT_SYN1_LOCKED then s
  else
    let t := ((s.set1 F.CLK_STAT_SYN1_LOST).clr F.CLK_STAT_SYN1_LOCKED).modClk (fun c => { c with stewOnMonitor := true })
    if s.sys.phase = .run then t.log 0x0042 1 .warn (leBytes 4 (t.rd R.CLK_STAT).toNat) else t

/-- SYN0 or SYN1 declares lock; after a failure neither does until a reset. -/
def State.syn0Lock (s : State) : State :=
  if s.sys.phase = .keep ∨ s.clk.coreOnMonitor ∨ s.clk.refMissing then s else s.set1 F.CLK_STAT_SYN0_LOCKED
def State.syn1Lock (s : State) : State :=
  if s.sys.phase = .keep ∨ s.clk.stewOnMonitor ∨ s.clk.refMissing then s else s.set1 F.CLK_STAT_SYN1_LOCKED

/-! ### PFAIL (R389) -/

/-- The PFAIL record. DEDUCED: log entry 50. -/
def State.logPfail (s : State) (n : Nat) : State := s.log 0x0043 0xFF .warn (leBytes 1 n ++ leBytes 4 (s.rd R.SYS_SUPPLY).toNat)

/-- PFAIL is asserted. -/
def State.pfailAssert (s : State) : State :=
  if s.sys.phase = .keep ∨ s.on F.SYS_SUPPLY_PFAIL then s
  else
    let t := (s.set1 F.SYS_SUPPLY_PFAIL).set1 F.SYS_SUPPLY_PF_SEEN
    if s.sys.phase ≠ .run then t
    else
      let t := if s.anyMeter && !s.grnFrozen then t.finalAsk 2 else t
      let t := t.logPfail 0
      if s.on F.SYS_PWR_CFG_PF_STOP ∧ s.mode = .run then t.enterMode .ready 3 false else t

/-- PFAIL deasserts with the supplies present. -/
def State.pfailDeassert (s : State) : State :=
  if s.sys.phase = .keep ∨ !s.on F.SYS_SUPPLY_PFAIL then s
  else
    let t := s.clr F.SYS_SUPPLY_PFAIL
    if s.sys.phase ≠ .run then t else (t.journalAsk 0).logPfail 1

/-! ### The RTC second with the alarm (R40, R382), and the WAKE comparators (R222) -/

/-- A log record whose code the table of R339 does not give (log entry 33). -/
def State.logUnnamed (s : State) (kind : Nat) : State :=
  let sev := match Config.logOpen kind 1 % 4 with
    | 0 => Severity.info
    | 1 => .warn
    | 2 => .error
    | _ => .fault
  s.log (Config.logOpen kind 0) (Config.logOpen kind 2) sev ((List.range 10).map (fun i => BitVec.ofNat 8 (Config.logOpen kind (3 + i))))

/-- The alarm fires: it wakes DOZE and KEEP, and is logged elsewhere. -/
def State.alarm (s : State) : State :=
  if s.on F.SYS_KCTL_ALARM_EN ∧ s.clk.rtcSec.setWidth 32 = s.rd R.SYS_ALARM then
    let t := s.update F.SYS_KCTL_ALARM_EN 0
    match s.sys.phase with
    | .keep => t.keepWake 4
    | .run => if s.mode = .doze then t.wake false else t.logUnnamed 0
    | _ => t
  else s

/-- A sample of a WAKE comparator: its input is above, below or inside the hysteresis band of (TH + 1) × 0.1 V; `mv` is the pin's
voltage in mV. DEDUCED: log entry 46. -/
def State.wakeSample (s : State) (n : Nat) (mv : Int) : State :=
  if s.on (F.CMP_WAKEn_EN n) then
    let w := nth s.cmp.wakes n {}
    let th : Int := (s.get (F.CMP_WAKEn_TH n) + 1) * 100
    let low := s.on (F.CMP_WAKEn_POL n)
    let hit := if low then (if mv < th then true else if th + 40 < mv then false else w.above)
      else (if th < mv then true else if mv < th - 40 then false else w.above)
    let run := if hit then min 256 (w.run + 1) else 0
    let deb := s.get (F.CMP_WAKEn_DEB n) + 1
    let t := { s with cmp := { s.cmp with wakes := upd s.cmp.wakes n (fun _ => ⟨hit, run⟩) } }
    if deb ≤ run then
      if s.sys.phase = .keep then (if s.sys.brownOut then t else (t.set1 ⟨R.CMP_WAKE_STAT, 2 + n, 1⟩).keepWake (2 ^ n))
      else if s.on ⟨R.CMP_WAKE_STAT, n, 1⟩ then t
      else (t.set1 ⟨R.CMP_WAKE_STAT, n, 1⟩).whenB (s.sys.phase == .run) (·.logUnnamed 1)
    else t.clr ⟨R.CMP_WAKE_STAT, n, 1⟩
  else s

end Sys2Proof.Machine
end

