-- ==== Sys2Proof/Machine/EvtOps.lean ====
section
/-! DEFINITION. Machine/EvtOps.lean: how a DMA channel starts and stops, what each sink of the event matrix does (R366, R367, R369,
R371 to R374), and the perturbation and replay controls (R56, R59, R60). -/

namespace Sys2Proof.Machine

/-! ### DMA channels (R366, R367, R369, R371) -/

def State.dmaCh (s : State) (n : Nat) : DmaCh := nth s.dma n {}
def State.modDma (s : State) (n : Nat) (f : DmaCh → DmaCh) : State := { s with dma := upd s.dma n f }

/-- The word accesses of a transfer: reads and writes. -/
def DmaXfer.readCount (x : DmaXfer) : Nat := (x.src % 4 + x.len + 3) / 4
def DmaXfer.writeCount (x : DmaXfer) : Nat := (x.dst % 4 + x.len + 3) / 4

/-- The bytes of the destination range that a write beat covers, as byte lanes with their source index. -/
def DmaXfer.lanes (x : DmaXfer) (k : Nat) : List (Nat × Nat) :=
  (List.range 4).filterMap (fun i =>
    let p := 4 * k + i
    if x.dst % 4 ≤ p ∧ p < x.dst % 4 + x.len then some (i, p - x.dst % 4) else none)

/-- COUNT at which the last word that the next write beat needs was read. -/
def DmaXfer.filledAt (x : DmaXfer) : Option Nat :=
  match (x.lanes x.writes).getLast? with
  | some (_, j) => x.readAt[(x.src % 4 + j) / 4]?
  | none => some 0

/-- A beat is in progress: the words of the next write beat have been read (R369). -/
def DmaXfer.inHand (x : DmaXfer) : Bool := x.writes < x.writeCount && x.filledAt.isSome

/-- The transfer that a trigger starts: with a fixed side, LEN is rounded up to whole words and both sides start at a word (R366). -/
def State.dmaTransfer (s : State) (n : Nat) : DmaXfer :=
  let src := (s.rd (R.DMA_CHn_SRC n)).toNat
  let dst := (s.dmaCh n).ringNext.getD (s.rd (R.DMA_CHn_DST n)).toNat
  let len := s.get (F.DMA_CHn_LEN_LEN_M1 n) + 1
  if s.on (F.DMA_CHn_CFG_SINC n) ∧ s.on (F.DMA_CHn_CFG_DINC n) then { src := src, dst := dst, len := len, reads := 0, writes := 0, words := [] }
  else { src := src / 4 * 4, dst := dst / 4 * 4, len := (len + 3) / 4 * 4, reads := 0, writes := 0, words := [] }

/-- When a channel reads its next word: in the next cycle, or later while perturbation withholds the grant of the beat (R58, R368). -/
def State.dmaGrant (s : State) (n : Nat) : State :=
  let (d, t) := s.disturb 4
  t.modDma n (fun c => { c with grantAt := s.count + 1 + d })

/-- How long perturbation withholds the grant of a channel's next write beat (R58). DEDUCED: log entry 75. -/
def State.dmaHold (s : State) (n : Nat) : State :=
  let (d, t) := s.disturb 4
  t.modDma n (fun c => { c with xfer := c.xfer.map (fun x => { x with hold := d }) })

/-- A trigger reaches a channel: it starts an armed channel, and is lost with TOVR while a transfer runs; triggers of one cycle
count as one (R367). -/
def State.dmaTrigger (s : State) (n : Nat) : State :=
  if s.on (F.DMA_CHn_CFG_EN n) && (s.dmaCh n).trigAt != some s.count then
    let s := s.modDma n (fun c => { c with trigAt := some s.count })
    if (s.dmaCh n).xfer.isSome then s.set1 (F.DMA_CHn_STAT_TOVR n)
    else ((s.modDma n (fun c => { c with xfer := some (s.dmaTransfer n) })).dmaGrant n).dmaHold n
  else s

/-- A channel stops, disarmed, with no error and no event (R369). -/
def State.dmaDrop (s : State) (n : Nat) : State := (s.modDma n (fun c => { ended := c.ended })).clr (F.DMA_CHn_CFG_EN n)

/-- An ABORT: at once, or after the beat in progress, in which a word that was read is written (R369). DEDUCED: log entry 75. -/
def State.dmaAbort (s : State) (n : Nat) : State :=
  match (s.dmaCh n).xfer with
  | some x => if x.inHand then s.modDma n (fun c => { c with xfer := some { x with stopping := true } }) else s.dmaDrop n
  | none => s.dmaDrop n

/-- A channel ends its transfer and disarms itself, unless software writes EN in this cycle (R4, R367, R369). -/
def State.dmaEnd (s : State) (n : Nat) : State := (s.modDma n (fun c => { ended := c.ended })).update (F.DMA_CHn_CFG_EN n) 0

/-- A write of DMA_CHn_CFG: while EN is 1 only a write that clears EN acts, as an abort (R371).
DEDUCED: log entry 19. DEDUCED: log entry 59. -/
def State.dmaCfg (s : State) (n : Nat) (v : Word) : State :=
  if s.on (F.DMA_CHn_CFG_EN n) then (if bitAt v 0 then s else s.dmaAbort n) else s.storePlain (R.DMA_CHn_CFG n) v

/-- A write of DMA_CHn_CTRL. -/
def State.dmaCtrl (s : State) (n : Nat) (v : Word) : State :=
  (s.whenB (bitAt v 0) (·.dmaTrigger n)).whenB (bitAt v 1) (·.dmaAbort n)

/-- A write of SRC, DST or LEN, ignored while EN is 1 (R371). DEDUCED: log entry 19. -/
def State.dmaAddr (s : State) (n a : Nat) (v : Word) : State :=
  if s.on (F.DMA_CHn_CFG_EN n) then s else s.storePlain a v

/-! ### Sinks (R372) -/

/-- The EVENT command of driver `n` (R196). -/
def State.gdEvent (s : State) (n : Nat) (on : Bool) : State := (s.modGd n (fun g => { g with evt := on })).gdRefresh n

/-- An event reaches sink `k`. -/
def State.sink (s : State) (e : Raised) (k : Nat) : State :=
  if k < 0x08 then s.capture k e
  else if k < 0x10 then s.requestSwap (2 ^ (k - 0x08))
  else if k < 0x18 then s.tlAct (k - 0x10)
  else if k < 0x20 then s.gdEvent (k - 0x18) true
  else if k < 0x28 then s.gdEvent (k - 0x20) false
  else if k < 0x38 then (if s.on (F.DMA_CHn_CFG_TRIG (k - 0x28)) then s.dmaTrigger (k - 0x28) else s)
  else if k = 0x38 then s.askSnapshot false none false
  else s

/-- Sinks of an event that stand against an off event of the same cycle: an on event on that driver has no effect (R196). -/
def beaten (offs : List Nat) (ks : List Nat) : List Nat :=
  ks.filter (fun k => !(0x18 ≤ k && k < 0x20 && offs.contains (k + 8)))

/-- The oldest event reaches its sinks two cycles after it was raised (R372). Two triggers of one DMA channel in one cycle count as one
(R367), and an off event wins over an on event (R196). -/
def State.eventDelivery (s : State) : State :=
  match s.events with
  | [] => s
  | e :: rest =>
    if s.coreRuns ∧ s.due (e.count + 2).toNat then
      let mates := rest.filter (fun r => r.count == e.count)
      let offs := e.sinks ++ (mates.map (·.sinks)).flatten
      let trigs := e.sinks.filter (fun k => 0x28 ≤ k && k < 0x38)
      let rest' := rest.map (fun r => if r.count == e.count then
        { r with sinks := (beaten e.sinks r.sinks).filter (fun k => !trigs.contains k) } else r)
      (beaten offs e.sinks).foldl (fun t k => t.sink e k) { s with events := rest' }
    else s

/-- A write of EVT_FORCE: in SERVICE, GO delivers one event to the named sink in the next CORE cycle, as one that was raised a cycle ago
(R372, R374). DEDUCED: log entry 59. -/
def State.evtForce (s : State) (v : Word) : State :=
  if s.inService ∧ bitAt v 7 then
    let e : Raised := ⟨0, [getBits v 0 7], s.clk.count - 1, s.clk.fine⟩
    let old := fun (r : Raised) => r.count != s.clk.count
    { s with events := s.events.filter old ++ e :: s.events.filter (fun r => !old r) }
  else s

/-! ### Perturbation (R56, R59) -/

/-- The seed of target `k`: the seed rotated left by `k`, 0 loaded as 0xACE1. -/
def seedOf (seed : BitVec 16) (k : Nat) : BitVec 16 := (if seed = 0 then 0xACE1 else seed).rotateLeft k

/-- A write of TST_CTRL: PERT_EN is written only in SERVICE, and its rise seeds every target's LFSR. DEDUCED: log entry 19. -/
def State.pertCtrl (s : State) (v : Word) : State :=
  if s.inService then
    let t := s.storePlain R.TST_CTRL v
    if bitAt v 0 ∧ !s.on F.TST_CTRL_PERT_EN then
      { t with tst := { t.tst with lfsr := (List.range 8).map (seedOf (BitVec.ofNat 16 (s.get F.TST_SEED_SEED))) } }
    else t
  else s.storePlain R.TST_CTRL ((v &&& 0xFFFFFFFE) ||| (s.rd R.TST_CTRL &&& 1))

/-! ### Record and replay (R60) -/

def State.modTst (s : State) (f : Tst → Tst) : State := { s with tst := f s.tst }

/-- Number of slices in SLICES. -/
def State.rplCount (s : State) : Nat := ((List.range 16).filter (fun n => s.bit R.TST_RPL_CTRL (16 + n))).length

/-- The words of a range of a byte memory that are not 0, by index. -/
def wordsIn (m : Memory) (base n : Nat) : WordStore :=
  (m.filter (fun c => base ≤ c.1 && c.1 < base + 4 * n)).foldl (fun ws c =>
    let i := (c.1 - base) / 4
    wordSet ws i (wordGet ws i ||| BitVec.ofNat 32 (c.2.toNat * 2 ^ (8 * ((c.1 - base) % 4))))) []

/-- The bundles of a range of a byte memory that are not 0, by index. -/
def bundlesIn (m : Memory) (base n : Nat) : List (Nat × BitVec 128) :=
  (m.filter (fun c => base ≤ c.1 && c.1 < base + 16 * n)).foldl (fun ws c =>
    let i := (c.1 - base) / 16
    cellSet (fun _ => 0) ws i (cellGet (fun _ => 0) ws i ||| BitVec.ofNat 128 (c.2.toNat * 2 ^ (8 * ((c.1 - base) % 16))))) []

/-- Where the parts of a configuration slot lie in the MRAM window: the image, the program, the initial data-memory image and the two
banks (log entry 34). -/
def slotBase (slot : Nat) : Nat := 0x410000 + 0x40000 * slot
def slotProg (slot : Nat) : Nat := slotBase slot + 0x20000
def slotDmem (slot : Nat) : Nat := slotBase slot + 0x30000
def slotBank (slot bank : Nat) : Nat := slotBase slot + 0x38000 + 0x2000 * bank

/-- Data memory is loaded from the initial image of the live configuration (R146). -/
def State.dmemReload (s : State) : State :=
  s.modMill (fun m => { m with
    dmem := if s.cfg.gen = 0 then [] else wordsIn s.mem.mram (slotDmem s.cfg.slot) 8192
    correctable := m.correctable.filter (fun k => k < dmemWord 0 || bankWord 0 0 ≤ k) })

/-- Why a START is refused, as an ERR code (R60). -/
def State.rplRefused (s : State) : Option Nat :=
  let n := s.get F.TST_RPL_LEN_SLOTS * s.rplCount
  let base := (s.rd R.TST_RPL_BASE).toNat
  if !s.inService then some 2
  else if s.ringOn then some 5
  else if s.rplCount = 0 ∨ 393216 < n ∨ base < 0x10000000 ∨ 0x10180000 < base + 4 * n then some 1
  else none

/-- A START: refused with its reason, or the three steps of R60 and the engine armed. An accepted START clears DONE, and one with MODE
0 or 3 does nothing. DESIGN CHOICE: log entry 72. -/
def State.rplStart (s : State) : State :=
  match s.rplRefused, s.get F.TST_RPL_CTRL_MODE with
  | some e, _ => s.put F.TST_RPL_STAT_ERR e
  | none, m =>
    if m = 1 ∨ m = 2 then
      let t := (s.clr F.TST_RPL_STAT_ERR).clr F.TST_RPL_STAT_DONE
      let t := (t.set1 F.TST_RPL_STAT_BUSY).wr R.TST_RPL_POS 0
      let t := t.dmemReload.forAll 4 (fun k u => u.setStart k)
      let t := (t.modGrn (fun g => { g with rpl := List.replicate 8 0 })).forAll 8 (fun n u =>
        (u.wr (R.GRN_RPLn_LO n) 0).wr (R.GRN_RPLn_HI n) 0)
      t.modTst (fun x => { x with rpl := if m = 1 then .armedRecord else .armedReplay, valleys := 0, abort := false })
    else s

/-- A write of TST_RPL_CTRL. An ABORT of an engine that is only armed stops it at once. DEDUCED: log entry 58. -/
def State.rplCtrl (s : State) (v : Word) : State :=
  let t := (s.storePlain R.TST_RPL_CTRL v).whenB (bitAt v 2 && !s.on F.TST_RPL_STAT_BUSY) State.rplStart
  if bitAt v 3 then
    match t.tst.rpl with
    | .idle => t
    | .armedRecord | .armedReplay => (t.modTst (fun x => { x with rpl := .idle })).clr F.TST_RPL_STAT_BUSY
    | _ => t.modTst (fun x => { x with abort := true })
  else t

end Sys2Proof.Machine
end

