-- ==== Sys2Proof/Machine/Hooks.lean ====
section
/-! DEFINITION. Machine/Hooks.lean: what a register write does beyond storing its bits, register by register. `State.hook` is called
with the value that has passed the checks of Machine/Guard.lean, by every master and by a configuration commit. -/

namespace Sys2Proof.Machine

/-- The enable of block `i` (0 PRISM, 1 WVN, 2 MILL, 3 GRN, 4 SHF) was written: it waits for the next instant of R70. -/
def State.enWritten (s : State) (i : Nat) : State :=
  { s with cfg := { s.cfg with enSeen := s.cfg.enSeen &&& ~~~ (1#5 <<< i) } }

/-- SYS (R379, R390). -/
def State.hookSys (s : State) (a : Nat) (v : Word) : State := if a = R.SYS_LTR then s.writeLtr v else s.storePlain a v

/-- A write of CLK_SYN0_DISC: SRC 0 ends the discipline loop's hold of the trim (R24), and a ramp that runs
goes on beside a loop that begins. DESIGN CHOICE: log entry 79. -/
def State.discWrite (s : State) (v : Word) : State :=
  let t := s.storePlain R.CLK_SYN0_DISC v
  if t.get F.CLK_SYN0_DISC_SRC = 0 then t.clr F.CLK_STAT_DISC_ACTIVE else t

/-- CLK (R22 to R38). -/
def State.hookClk (s : State) (a : Nat) (v : Word) : State :=
  if a = R.CLK_SYN0_LOCK then s.synLockWrite v
  else if a = R.CLK_SYN0_TRIM then s.trimWrite v
  else if a = R.CLK_SYN0_DISC then s.discWrite v
  else if a = R.CLK_SYN0_SSC then s.sscWrite false v
  else if a = R.CLK_SYN1_SSC then s.sscWrite true v
  else if a = R.CLK_RAMP_CTRL then s.rampWrite v
  else if a = R.CLK_RTC_SEC_LO then s.rtcHold v
  else if a = R.CLK_RTC_SEC_HI then s.rtcLoad v
  else match idx? a (R.CLK_CMPn_LO 0) 0x10 16, idx? a (R.CLK_CMPn_HI 0) 0x10 16, idx? a (R.CLK_CMPn_CTRL 0) 0x10 16 with
    | some n, _, _ => s.cmpHold n v
    | none, some n, _ => s.cmpLoad n v
    | none, none, some n => s.cmpCtrl n v
    | none, none, none => s.storePlain a v

/-- A write of ACQ_CTRL: EN from 0 to 1 arms acquisition; EN 0 disarms it, and stops it at the next slot boundary (R70). -/
def State.acqCtrl (s : State) (v : Word) : State :=
  let t := s.storePlain R.ACQ_CTRL v
  if bitAt v 0 ∧ !s.on F.ACQ_CTRL_EN then t.modAcq (fun a => { a with armed := true, valleySeen := false })
  else if bitAt v 0 then t else t.modAcq (fun a => { a with armed := false, stopping := a.running })

/-- A write of ACQ_SPARE: EN from 0 to 1 resumes a stopped rotation at the next slice (R80). -/
def State.acqSpare (s : State) (v : Word) : State :=
  let t := s.storePlain R.ACQ_SPARE v
  if bitAt v 0 ∧ !s.on F.ACQ_SPARE_EN ∧ s.spareState = 5 ∧ !s.on F.ACQ_STAT_SPARE_FAULT then t.spareTo s.acq.spare.next else t

/-- ACQ (R70, R80). -/
def State.hookAcq (s : State) (a : Nat) (v : Word) : State :=
  if a = R.ACQ_CTRL then s.acqCtrl v else if a = R.ACQ_SPARE then s.acqSpare v else s.storePlain a v

/-- PRISM (R70, R88). -/
def State.hookPrism (s : State) (a : Nat) (v : Word) : State :=
  let t := s.storePlain a v
  if a = R.PRISM_CTRL then t.enWritten 0
  else if a = R.PRISM_SNAP_CTRL ∧ bitAt v 8 then t.snapshot
  else t

/-- WVN (R103, R109, R113, R118, R121). -/
def State.hookWvn (s : State) (a : Nat) (v : Word) : State :=
  let t := s.storePlain a v
  if a = R.WVN_CTRL then t.enWritten 1
  else match idx? a (R.WVN_SETs_ISLA 0) 0x100 4, idx? a (R.WVN_SETs_SHD 0) 0x100 4,
      idx? a (R.WVN_SETs_FRT 0) 0x100 4, idx? a (R.WVN_MPPm_CFG 0) 0x40 8 with
    | some k, _, _, _ => t.whenB (bitAt v 8) (·.islandClear k)
    | none, some k, _, _ => t.whenB (bitAt v 16) (·.resync k)
    | none, none, some k, _ =>
      let t := t.whenB (bitAt v 2) (·.frtClear k)
      if s.on (F.WVN_SETs_FRT_EN k) ∧ !bitAt v 0 then t.frtTo k 0 else t
    | none, none, none, some m => t.whenB (bitAt v 26) (·.modMpp m (fun x => { x with scanReq := true }))
    | none, none, none, none => t

/-- MILL (R139, R142, R146). -/
def State.hookMill (s : State) (a : Nat) (v : Word) : State :=
  if a = R.MILL_CTRL then (s.storePlain a v).enWritten 2
  else match idx? a (R.MILL_TASKt_CTRL 0) 0x20 8 with
    | some t => s.taskCtrl t v
    | none => s.storePlain a v

/-- A write of LOOM_CARc: EN from 0 to 1 makes a stopped carrier wait for its start; EN 0 stops a waiting one at once, and a running
one at its next valley (R170). A HOLD that is set or cleared changes what the coming reloads copy, and so what closes the pulses in
progress (R179). -/
def State.carCtrl (s : State) (c : Nat) (v : Word) : State :=
  let t := s.storePlain (R.LOOM_CARc c) v
  let t := if t.get (F.LOOM_CARc_HOLD c) = s.get (F.LOOM_CARc_HOLD c) then t else t.followLegs c
  if bitAt v 0 then
    if s.carState c = 0 then (t.put (F.LOOM_CSTATc_STATE c) 1).modCar c (fun x => { x with startAt := s.clk.count }) else t
  else if s.carState c = 1 then t.put (F.LOOM_CSTATc_STATE c) 0
  else t

/-- A write of LOOM_LEGl_CFG: a leg that is disabled, or bound to another carrier or to one that does not run, rests; else an output
that its MODE no longer drives goes off (R175). DEDUCED: log entry 67. -/
def State.legCfg (s : State) (l : Nat) (v : Word) : State :=
  let t := s.storePlain (R.LOOM_LEGl_CFG l) v
  if t.on (F.LOOM_LEGl_CFG_EN l) && t.legCar l == s.legCar l && t.carRunning (t.legCar l) then
    t.setOuts l ((t.leg l).outH && t.drives l true) ((t.leg l).outL && t.drives l false) true
  else t.restLeg l true

/-- LOOM (R170, R175, R180, R188, R191). -/
def State.hookLoom (s : State) (a : Nat) (v : Word) : State :=
  if a = R.LOOM_UNBLOCK then s.unblock (v.toNat % 2 ^ 24)
  else match idx? a (R.LOOM_CARc 0) 0x20 8, idx? a (R.LOOM_LEGl_CMPU 0) 0x20 24, idx? a (R.LOOM_LEGl_CMPD 0) 0x20 24 with
    | some c, _, _ => s.carCtrl c v
    | none, some l, _ => s.loadShadow l false v
    | none, none, some l => s.loadShadow l true v
    | none, none, none =>
      match idx? a (R.LOOM_TLk_CFG 0) 0x10 16, idx? a (R.LOOM_TLk_MASK 0) 0x10 16, idx? a (R.LOOM_LEGl_CFG 0) 0x20 24 with
      | some _, _, _ => (s.keepOld a).storePlain a v
      | none, some _, _ => (s.keepOld a).storePlain a v
      | none, none, some l => s.legCfg l v
      | none, none, none => s.storePlain a v

/-- Asserted FLT pins of enabled legs latch (R200). -/
def State.fltPins (s : State) : State :=
  s.forAll 24 (fun l t => if t.bit R.GDP_FLT_PIN l && t.bit R.GDP_FLT_EN l && !t.bit R.GDP_FLT_LATCH l then t.fltLatch l else t)

/-- A write of GDP_FLT_POL: a pin whose active level changes is asserted where it was not (R200). DEDUCED: log entry 10. -/
def State.fltPol (s : State) (v : Word) : State :=
  let t := s.storePlain R.GDP_FLT_POL v
  (t.wr R.GDP_FLT_PIN (s.rd R.GDP_FLT_PIN ^^^ (s.rd R.GDP_FLT_POL ^^^ t.rd R.GDP_FLT_POL))).fltPins

/-- A write of driver fault flags: each clears only while its cause has gone, and a driver still commanded turns on again (R198). -/
def State.gdStat (s : State) (n : Nat) (v : Word) : State :=
  let clears := fun (f : Fld) (gone : Bool) (t : State) => if bitAt v f.lo && gone then t.clr f else t
  let t := clears (F.GDP_GDn_STAT_UVLO n) (s.on F.SYS_SUPPLY_VDRV_OK) s
  let t := clears (F.GDP_GDn_STAT_CPLOW n) (n < 4 || (s.get F.GDP_CP_OK).testBit (n - 4)) t
  let t := clears (F.GDP_GDn_STAT_MISMATCH n) (s.on (F.GDP_GDn_STAT_GATE n) == s.on (F.GDP_GDn_STAT_OUT n)) t
  t.gdSummary.gdRefresh n

/-- The link's CEIL comparator is active and the link enabled: V_trip (R206). -/
def State.vtripLevel (s : State) (n : Nat) : State :=
  if s.on (F.GDP_LINKn_CFG_EN n) && s.cmpActive (s.linkWin n) 2 then s.vtrip n else s

/-- TEST_GO in TEST mode turns the chopper on for TESTLEN ms (R209). -/
def State.brkTestGo (s : State) (n : Nat) : State :=
  if s.brkMode n = 2 then
    (s.modBrk n (fun b => { b with testEnd := some (s.count + max 1 (s.get (F.GDP_LINKn_CFG_TESTLEN n)) * 400000) })).brkStep n
  else s

/-- A write of GDP_LINKn_CFG. -/
def State.linkCfg (s : State) (n : Nat) (v : Word) : State :=
  let t := s.storePlain (R.GDP_LINKn_CFG n) v
  let t := if t.brkMode n = 2 then t else t.modBrk n (fun b => { b with testEnd := none })
  (t.whenB (bitAt v 19) (·.brkTestGo n)).vtripLevel n |>.brkStep n

/-- A write of GDP_LINKn_STAT: VTRIP clears only while CEIL is inactive, else CLR_REF (R206). -/
def State.linkStat (s : State) (n : Nat) (v : Word) : State :=
  let t := s.storePlain (R.GDP_LINKn_STAT n) (v &&& 0xFFFFFFFE)
  if bitAt v 0 && t.on (F.GDP_LINKn_STAT_VTRIP n) then
    if t.cmpActive (t.linkWin n) 2 then t.set1 (F.GDP_LINKn_STAT_CLR_REF n)
    else (t.clr (F.GDP_LINKn_STAT_VTRIP n)).gdpSummary
  else t

/-- GDP (R196, R198, R200, R201, R205, R206, R209). -/
def State.hookGdp (s : State) (a : Nat) (v : Word) : State :=
  if a = R.GDP_FLT_LATCH then s.fltClear (v.toNat % 2 ^ 24)
  else if a = R.GDP_FLT_EN then (s.storePlain a v).fltPins
  else if a = R.GDP_FLT_POL then s.fltPol v
  else if a = R.GDP_CP then (s.storePlain a v).pumpFollow
  else if a = R.GDP_GRP_STAT then (s.storePlain a (v &&& 0xFFFFFF00)).grpClear (v.toNat % 256)
  else match idx? a (R.GDP_GDn_CFG 0) 0x10 8, idx? a (R.GDP_GDn_CTRL 0) 0x10 8, idx? a (R.GDP_GDn_STAT 0) 0x10 8 with
    | some n, _, _ => (s.storePlain a v).gdRefresh n
    | none, some n, _ => (s.storePlain a v).gdRefresh n
    | none, none, some n => s.gdStat n v
    | none, none, none =>
      match idx? a (R.GDP_LINKn_CFG 0) 0x20 2, idx? a (R.GDP_LINKn_STAT 0) 0x20 2, idx? a (R.GDP_LINKn_MASK 0) 0x20 2 with
      | some n, _, _ => s.linkCfg n v
      | none, some n, _ => s.linkStat n v
      | none, none, some n => (s.storePlain a v).vtripLevel n
      | none, none, none =>
        if R.GDP_LINKn_CFG 0 ≤ a ∧ a < R.GDP_LINKn_CFG 2 then (s.storePlain a v).brkStepAll else s.storePlain a v

/-- CMP (R214, R216, R218): a window whose MODE leaves 0 is to start, one whose MODE becomes 0 is off, and another runs on; the trip
lines take their routing. -/
def State.hookCmp (s : State) (a : Nat) (v : Word) : State :=
  let t := s.storePlain a v
  match idx? a (R.CMP_WINw_CFG 0) 0x10 48, idx? a (R.CMP_WAKEn 0) 4 2 with
  | some w, _ =>
    if t.get (F.CMP_WINw_CFG_MODE w) = 0 then t.winOff w
    else (t.whenB (s.get (F.CMP_WINw_CFG_MODE w) == 0) (·.modWin w (fun _ => {}))).feedLines
  | none, some n =>
    if t.on (F.CMP_WAKEn_EN n) then t
    else ({ t with cmp := { t.cmp with wakes := upd t.cmp.wakes n (fun _ => {}) } }).clr ⟨R.CMP_WAKE_STAT, n, 1⟩
  | none, none => t

/-- GRN (R239, R240, R243, R244, R247). -/
def State.hookGrn (s : State) (a : Nat) (v : Word) : State :=
  if a = R.GRN_CTRL then (s.writeMeters v).enWritten 3
  else if a = R.GRN_SNAP_CTRL then (s.storePlain a v).whenB (bitAt v 0) (·.askSnapshot (bitAt v 1) none false)
  else if a = R.GRN_JRN then (s.storePlain a v).whenB (bitAt v 16) (·.journalAsk 0)
  else match idx? a (R.GRN_EPOk_CFG 0) 0x10 4, idx? a (R.GRN_WCk_CFG 0) 0x10 16 with
    | some k, _ => (s.storePlain a v).whenB (!bitAt v 0) (·.epoRest k)
    | none, some k => s.bindWc k v
    | none, none => s.storePlain a v

/-- SHF (R256, R261, R263). -/
def State.hookShf (s : State) (a : Nat) (v : Word) : State :=
  let t := s.storePlain a v
  if a = R.SHF_CTRL then (t.enWritten 4).whenB (!s.on F.SHF_CTRL_EMU_EN) (·.emuStart)
  else match idx? a (R.SHF_ENCn_DEP 0) 0x40 2, idx? a (R.SHF_ENCn_STAT 0) 0x40 2 with
    | some n, _ => t.depositCheck n
    | none, some n => t.encRelatch n
    | none, none => t

/-- RING (R273, R276, R278). -/
def State.hookRing (s : State) (a : Nat) (v : Word) : State :=
  if a = R.RING_CTRL then s.ringCtrl v
  else match idx? a (R.RING_TXWw 0) 4 128 with
    | some w => s.loadLatch w v
    | none => s.storePlain a v

/-- DMA (R367, R369, R371). -/
def State.hookDma (s : State) (a : Nat) (v : Word) : State :=
  if R.DMA_CHn_SRC 0 ≤ a ∧ a < R.DMA_CHn_SRC 16 then
    let n := (a - R.DMA_CHn_SRC 0) / 0x20
    match (a - R.DMA_CHn_SRC 0) % 0x20 with
    | 0x0C => s.dmaCfg n v
    | 0x10 => s.dmaCtrl n v
    | _ => s.dmaAddr n a v
  else s.storePlain a v

/-- EVT (R374). -/
def State.hookEvt (s : State) (a : Nat) (v : Word) : State := if a = R.EVT_FORCE then s.evtForce v else s.storePlain a v

/-- WLD: bits 12 and 15 of WLD_BLKWORLD read 1 and ignore writes (R362); what is written takes effect in the next cycle (R365). -/
def State.hookWld (s : State) (a : Nat) (v : Word) : State :=
  (s.keepOld a).storePlain a (if a = R.WLD_BLKWORLD then v ||| 0x9000 else v)

/-- TST (R56, R59, R60): outside SERVICE, writes of PERT_EN and TST_DLYk are ignored. -/
def State.hookTst (s : State) (a : Nat) (v : Word) : State :=
  if a = R.TST_CTRL then s.pertCtrl v
  else if a = R.TST_RPL_CTRL then s.rplCtrl v
  else if isIn a (R.TST_DLYk 0) 4 8 ∧ !s.inService then s
  else s.storePlain a v

/-- What a write that has passed its checks does at a register. -/
def State.hook (s : State) (a : Nat) (v : Word) : State :=
  match blockIndex a with
  | 0 => s.hookSys a v
  | 1 => s.hookClk a v
  | 2 => s.hookAcq a v
  | 3 => s.hookPrism a v
  | 4 => s.hookWvn a v
  | 5 => s.hookMill a v
  | 6 => s.hookLoom a v
  | 7 => s.hookGdp a v
  | 8 => s.hookCmp a v
  | 9 => s.hookGrn a v
  | 10 => s.hookShf a v
  | 11 => s.hookRing a v
  | 13 => s.hookDma a v
  | 14 => s.hookEvt a v
  | 15 => s.hookWld a v
  | 16 => s.hookTst a v
  | _ => s.storePlain a v

end Sys2Proof.Machine
end

