-- ==== Sys2Proof/Machine/ConfigOps.lean ====
section
/-! DEFINITION. Machine/ConfigOps.lean: the configuration image, the state rules of a commit, the candidate that admission judges, what
a commit changes and how it applies at the instant of R70, and the slots and record rings of the MRAM (R49 to R52, R70, R140, R146,
R172, R338, R354, R355). -/

namespace Sys2Proof.Machine

/-! ### Configuration registers (log entry 35) -/

/-- Registers with writable fields that no image states: those whose content the KEEP domain preserves, and those that software operates
while the configuration stands. DEDUCED: log entry 35. -/
def operating (a : Nat) : Bool :=
  a == R.SYS_LTR || a == R.SYS_ALARM || a == R.SYS_KCTL || (R.CLK_RTC_SEC_LO ≤ a && a ≤ R.CLK_RTC_TRIM) ||
    isIn a (R.CLK_CMPn_LO 0) 4 64 || isIn a (R.GDP_GDn_CTRL 0) 0x10 8 || isIn a (R.CMP_WAKEn 0) 4 2 ||
    isIn a (R.RING_TXWw 0) 4 128 || blockIndex a == 12

/-- The bits of a register that an image states, a block's LOCK among them (R5). DEDUCED: log entry 35. -/
def configMask (a : Nat) : Word :=
  match regRow? a with
  | some r => if operating a then 0 else r.rw ||| r.rwl ||| r.rws ||| r.w1s
  | none => 0

/-! ### The image (R338) -/

/-- A register record of an image: address and value. -/
abbrev Record := Nat × Word

/-- The records of an image that holds `n` of them. DEDUCED: log entry 35. -/
def recordsOf (img : List Byte) (n : Nat) : List Record :=
  (List.range n).map (fun k => (fieldLe img (32 + 8 * k) 4, BitVec.ofNat 32 (fieldLe img (36 + 8 * k) 4)))

/-- An image of records: its header, the records and the CRC. -/
def imageOf (gen : Nat) (reinit : Bool) (verdict : Nat) (recs : List Record) : List Byte :=
  let body := leBytes 4 0x49464743 ++ leBytes 4 gen ++ leBytes 4 (36 + 8 * recs.length) ++ leBytes 4 (bit1 reinit) ++
    leBytes 4 verdict ++ leBytes 4 recs.length ++ zeros 8 ++ (recs.map (fun r => leBytes 4 r.1 ++ leBytes 4 r.2.toNat)).flatten
  body ++ leBytes 4 (crc32c body).toNat

/-- The value of a record for an address, if the image lists it. -/
def recordAt (recs : List Record) (a : Nat) : Option Word := (recs.find? (fun r => r.1 == a)).map (·.2)

/-- Put an entry before the first of a list in ascending order that is not below it. -/
def insertByKey {α : Type} (key : α → Nat) (x : α) : List α → List α
  | [] => [x]
  | y :: rest => if key x ≤ key y then x :: y :: rest else y :: insertByKey key x rest

/-- A list in ascending order of a key; entries of one key keep their order. -/
def sortByKey {α : Type} (key : α → Nat) (xs : List α) : List α := xs.foldr (insertByKey key) []

/-- Every address that an image could change: those it lists, and those that do not read their reset value, in ascending order.
DEDUCED: log entry 35. -/
def State.imageAddrs (s : State) (recs : List Record) : List Nat :=
  let listed := (recs.map (·.1)).filter (fun a => (s.rd a == regReset a))
  sortByKey id (listed ++ s.regs.map (·.1))

/-- The value that a register would have under an image: the listed value, or the reset value, in its configuration bits. The trim is
not loaded when `keepTrim`, or where the image gives hardware control of it (R24, R51), nor the Roster while the ring shows it here. -/
def State.targetOf (s : State) (recs : List Record) (keepTrim : Bool) (a : Nat) : Word :=
  let m := configMask a
  let kept := (a = R.CLK_SYN0_TRIM ∧ (((recordAt recs R.CLK_SYN0_DISC).getD 0 &&& 3) ≠ 0 ∨ keepTrim)) ∨
    (isIn a (R.RING_ROSTERe 0) 4 6144 ∧ s.ringState = 3)
  if kept then s.rd a
  else let v := ((recordAt recs a).getD (regReset a) &&& m) ||| (s.rd a &&& ~~~ m)
    if a = R.WLD_BLKWORLD then v ||| 0x9000 else v

/-- The registers that an image changes, with their new values, in ascending order. -/
def State.changesOf (s : State) (recs : List Record) (keepTrim : Bool) : List Record :=
  ((s.imageAddrs recs).map (fun a => (a, s.targetOf recs keepTrim a))).filter (fun r => r.2 != s.rd r.1)

/-- The state with the changes of an image stored, and nothing else: what admission judges (R49). -/
def State.candidateOf (s : State) (ch : List Record) : State := ch.foldl (fun t r => t.wr r.1 r.2) s

/-! ### The state rules of a commit -/

/-- A register whose change the present state refuses (R121, R172, R209, R211, R223, R293, R374). -/
def State.ruleRefuses (s : State) (a : Nat) (v : Word) : Bool :=
  let old := s.rd a
  let runs := fun c => s.carState c != 0
  let inRun := s.mode == .run
  let sync := fun c => s.on (F.LOOM_CARc_SYNC c)
  match blockIndex a with
  | 4 =>
    let k := if a < R.WVN_LVs_i 0 0 then (a - R.WVN_SETs_CFG 0) / 0x100 else (a - R.WVN_LVs_i 0 0) / 0x100
    let isSet := (R.WVN_SETs_CFG 0 ≤ a && a < R.WVN_SETs_CFG 4) || (R.WVN_LVs_i 0 0 ≤ a && a < R.WVN_LVs_i 4 0)
    isSet && (s.bit R.WVN_STAT (4 + k) || s.get (F.WVN_SETs_STAT_FRT k) != 0)
  | 6 =>
    if R.LOOM_PERc 0 ≤ a ∧ a < R.LOOM_PERc 8 then
      let c := (a - R.LOOM_PERc 0) / 0x20
      let car := R.LOOM_CARc c
      runs c && ((a == car && differs v old 8) || a == R.LOOM_PHOFFc c || (a == R.LOOM_PERc c && sync c))
    else match idx? a (R.LOOM_LEGl_CFG 0) 0x20 24 with
      | some l => runs (s.legCar l) && differs v old 0xFF
      | none => false
  | 7 =>
    (match idx? a (R.GDP_GRPg_CFG 0) 4 8 with
      | some g => s.bit R.GDP_GRP_STAT g
      | none => false) ||
    (isIn a (R.GDP_GRPMAPj 0) 4 3 && (List.range 8).any (fun k =>
      getBits v (4 * k) 4 != getBits old (4 * k) 4 && [getBits v (4 * k) 4, getBits old (4 * k) 4].any (fun n =>
        8 ≤ n && s.bit R.GDP_GRP_STAT (n - 8)))) ||
    (R.GDP_LINKn_CFG 0 ≤ a && a < R.GDP_LINKn_CFG 2 && s.on (F.GDP_LINKn_STAT_VTRIP ((a - R.GDP_LINKn_CFG 0) / 0x20))) ||
    (isIn a (R.GDP_LINKn_CFG 0) 0x20 2 && differs v old 0x30000 && getBits v 16 2 == 2 && !s.inService)
  | 8 =>
    inRun && R.CMP_WINw_CFG 0 ≤ a && a < R.CMP_WINw_CFG 48 &&
      (let w := (a - R.CMP_WINw_CFG 0) / 0x10
       s.rd (R.CMP_WINw_MASK w) != 0 || (List.range 2).any (fun n => s.on (F.GDP_LINKn_CFG_EN n) && s.linkWin n == w))
  | 11 =>
    s.ringLive && ((a == R.RING_CFG && differs v old 0x3FF03) || a == R.RING_RND || isIn a (R.RING_TXs 0) 4 6)
  | 14 => inRun && isIn a (R.EVT_SINKk 0x10) 4 24
  | _ => false

/-- A register that the changes alter in a field that a set block lock freezes, or the set LOCK bit itself (R5). DEDUCED: log entry 35. -/
def State.lockConflict (s : State) (ch : List Record) : Option Nat :=
  (ch.find? (fun r => match regRow? r.1 with
    | some row => s.blockLocked (blockIndex r.1) && differs r.2 (s.rd r.1) (s.frozenBits row ||| row.w1s)
    | none => false)).map (·.1)

/-- The first change that a state rule refuses. -/
def State.rulesRefuse (s : State) (ch : List Record) : Option Nat := (ch.find? (fun r => s.ruleRefuses r.1 r.2)).map (·.1)

/-- The DETAIL of MODE_CONFLICT for a refused register (R326). -/
def State.modeDetail (s : State) (a : Nat) : Nat := s.mode.code + (a % 65536 / 256) * 256 + blockIndex a % 65536 * 65536

/-! ### Admission of a candidate (R49) -/

/-- What a candidate is judged by: its own Roster on the Reeve, the live layout elsewhere. -/
def State.judgedOf (s c : State) : Judged :=
  if s.ringState = 4 ∨ c.ringRole = 1 then
    let x := c.layoutOf c.rosterRegs s.ring.members
    ⟨x, s.ring.members, x.tneed, s.cfg.gen, s.trim⟩
  else ⟨s.ring.live, s.ring.members, (s.rd R.RING_TNEED).toNat, s.cfg.gen, s.trim⟩

/-- The verdict on a candidate: the detail word of R52, 0 when it passes. -/
def State.verdict (s c : State) : Nat := c.admission (s.judgedOf c)

/-! ### The instant of R70 -/

/-- The changes that wait for the next valley of their running carrier (R172): the carrier, and whether the register waits whole. -/
def State.waitsValley (s : State) (a : Nat) : Option Nat :=
  if R.LOOM_PERc 0 ≤ a ∧ a < R.LOOM_PERc 8 then
    let c := (a - R.LOOM_PERc 0) / 0x20
    if s.carState c ≠ 0 then some c else none
  else if R.LOOM_LEGl_CFG 0 ≤ a ∧ a < R.LOOM_LEGl_CFG 24 ∧ (a - R.LOOM_LEGl_CFG 0) % 0x20 < 0x10 then
    let c := s.legCar ((a - R.LOOM_LEGl_CFG 0) / 0x20)
    if s.carState c ≠ 0 then some c else none
  else none

/-- What a commit does at a register: what a write does there, but that admission has judged the trim and the spread spectrum of
SYN0, against what the same changes make of their premises (R24, R28), and that WLD takes effect at once (R365).
DESIGN CHOICE: log entry 79. -/
def State.commitHook (s : State) (a : Nat) (v : Word) : State :=
  if a = R.CLK_SYN0_TRIM then s.modClk (fun c => { c with trimNext := some (signed 16 v.toNat) })
  else if a = R.CLK_SYN0_SSC then s.sscStore false v
  else if a = R.CLK_SYN1_SSC then s.sscStore true v
  else if blockIndex a = 15 then s.storePlain a v
  else s.hook a v

/-- Changes in the order in which they are stored: the ring's enables last, when its role and Roster stand (R276). -/
def storeOrder (ch : List Record) : List Record :=
  ch.filter (fun r => r.1 != R.RING_CTRL) ++ ch.filter (fun r => r.1 == R.RING_CTRL)

/-- Apply one changed register: at the next valley of the carrier it waits for (of LOOM_CARc only RELOAD waits), else at once (R172). -/
def State.applyOne (s : State) (r : Record) (waits : Option Nat) : State :=
  match waits with
  | some c =>
    let t := s.modCar c (fun x => { x with pendingCfg := x.pendingCfg ++ [r] })
    if r.1 = R.LOOM_CARc c then t.commitHook r.1 (setBits r.2 1 2 (s.get (F.LOOM_CARc_RELOAD c))) else t
  | none => s.commitHook r.1 r.2

/-- One change that waited: of LOOM_CARc only RELOAD. Under a lock of the Loom set meanwhile, a change of what it freezes is dropped
(R5). DESIGN CHOICE: log entry 73. -/
def State.applyWaited (s : State) (c : Nat) (r : Record) : State :=
  let v := if r.1 = R.LOOM_CARc c then setBits (s.rd r.1) 1 2 (getBits r.2 1 2) else r.2
  if (s.lockConflict [(r.1, v)]).isSome then s else s.storePlain r.1 v

/-- The changes that waited apply at a valley (R172), but for what a lock set meanwhile freezes (R5). DESIGN CHOICE: log entry 73. -/
def State.applyPending (s : State) (c : Nat) : State :=
  (s.car c).pendingCfg.foldl (fun u r => u.applyWaited c r) (s.modCar c (fun x => { x with pendingCfg := [] }))

/-- Some change lies in a range of addresses. -/
def touches (ch : List Record) (lo hi : Nat) : Bool := ch.any (fun r => lo ≤ r.1 && r.1 < hi)

/-- The part of an array of blocks that a change touches. -/
def touchesPart (ch : List Record) (base stride k : Nat) : Bool := touches ch (base + stride * k) (base + stride * (k + 1))

/-- The changes alter AC meter `m`, or DC meter `m`, which accumulates. -/
def State.acTouched (s : State) (ch : List Record) (m : Nat) : Bool := touchesPart ch (R.GRN_ACm_CFG 0) 0x80 m && s.meterOn m
def State.dcTouched (s : State) (ch : List Record) (m : Nat) : Bool := touchesPart ch (R.GRN_DCm_CFG 0) 0x20 m && s.meterOn (4 + m)

/-- A changed enabled meter closes its open cycle or block, at the end of the interval in progress, which is processed first (R245, R249).
DESIGN CHOICE: log entry 56. -/
def State.closeChanged (s : State) (ch : List Record) : State :=
  if (List.range 4).any (fun m => s.acTouched ch m || s.dcTouched ch m) then
    let t := s.grnFinish.forAll 4 (fun m u => if s.acTouched ch m && (u.acMeter m).cycle != [] then u.acClose m false else u)
    t.forAll 4 (fun m u => if s.dcTouched ch m && 0 < (u.dcMeter m).count then u.dcClose m else u)
  else s

/-- An enabled meter is among the changes. DEDUCED: log entry 56. -/
def State.meterChanged (s : State) (ch : List Record) : Bool :=
  (List.range 4).any (fun m => (touchesPart ch (R.GRN_ACm_CFG 0) 0x80 m && s.bit R.GRN_CTRL m) ||
    (touchesPart ch (R.GRN_DCm_CFG 0) 0x20 m && s.bit R.GRN_CTRL (4 + m)))

/-- The Prism windows that a change touches start with nothing open and no results (R87). -/
def State.restartPrism (s : State) (ch : List Record) : State :=
  s.forAll 64 (fun w t => if touchesPart ch (R.PRISM_WINw_CFG 0) 0x20 w then t.freshWindow w else t)

/-- Changed sets and channels restart in their power-up state (R121). -/
def State.restartWvn (s : State) (ch : List Record) : State :=
  let t := s.forAll 4 (fun k u =>
    if touchesPart ch (R.WVN_SETs_CFG 0) 0x100 k || touchesPart ch (R.WVN_LVs_i 0 0) 0x100 k then u.setStart k else u)
  t.forAll 8 (fun m u => if touchesPart ch (R.WVN_MPPm_CFG 0) 0x40 m then u.mppStart m else u)

/-- Changed window monitors start again (R223). -/
def State.restartCmp (s : State) (ch : List Record) : State :=
  s.forAll 48 (fun w t =>
    if touchesPart ch (R.CMP_WINw_CFG 0) 0x10 w && t.get (F.CMP_WINw_CFG_MODE w) != 0 then t.modWin w (fun _ => {}) else t)

/-- Changed shaft interfaces start again (R263). -/
def State.restartShf (s : State) (ch : List Record) : State :=
  s.forAll 2 (fun n t => if touchesPart ch (R.SHF_ENCn_CFG 0) 0x40 n && t.shf.active.getLsbD n then t.encStart n else t)

/-- MILL_CTRL.EN as written takes effect: data memory is loaded when it rises, and every task stops when it falls (R146). -/
def State.applyMill (s : State) : State :=
  let on := s.on F.MILL_CTRL_EN
  if on == s.mill.active then s
  else if on then (s.modMill (fun m => { m with active := true })).dmemReload
  else (s.modMill (fun m => { m with active := false })).millStop

/-- The enable of block `i` takes effect (R70). -/
def State.applyEnable (s : State) (i : Nat) : State :=
  match i with
  | 0 => s.applyPrism
  | 1 => s.applyWvn
  | 2 => s.applyMill
  | 3 => s.applyMeters
  | _ => s.applyShf

/-- The WCET admitted for each task of the live generation, 0 for a task that is not enabled (R136). -/
def State.showWcets (s : State) : State :=
  s.forAll 8 (fun k t => t.put (F.MILL_TASKt_WCET_WCET k) (if s.taskOn k then (s.wcet k).getD 0 else 0))

/-- Every changed register and what follows from its change. A carrier that the same changes start does not run yet (R172). -/
def State.applyChanges (s : State) (ch : List Record) : State :=
  let meters := s.meterChanged ch
  let t := (s.closeChanged ch).forAll 16 (fun n u =>
    if touchesPart ch (R.DMA_CHn_SRC 0) 0x20 n && u.on (F.DMA_CHn_CFG_EN n) then u.dmaDrop n else u)
  let t := ((storeOrder ch).foldl (fun u r => u.applyOne r (s.waitsValley r.1)) t).showWcets
  let t := (t.restartPrism ch).restartWvn ch |>.restartCmp ch
  let t := t.forAll 5 (fun i u => u.applyEnable i)
  let t := t.restartShf ch
  let t := if meters then t.journalAsk 16 else t
  let t := if touches ch R.RING_CFG (R.RING_CFG + 4) then t.freshNeed else t
  if s.ringState = 4 && touches ch (R.RING_ROSTERe 0) (R.RING_ROSTERe 6144) then t.announce t.rosterRegs t.ring.members else t

/-- The trim that an image lists may not load now: a ramp profile runs, or the applied trim has moved more than 5 ppm from it since
admission (R23, R24). DESIGN CHOICE: log entry 57. -/
def State.trimKept (s : State) (recs : List Record) : Bool :=
  s.clk.ramp.running || 500 < (signed 16 ((recordAt recs R.CLK_SYN0_TRIM).getD 0).toNat - s.trim).natAbs

/-- A committed image applies (R70): its changes, the tables restart, and data memory is loaded where R146 asks for it. A lock set since
phase two that freezes a field the image changes keeps the whole image from applying (R5). DESIGN CHOICE: log entry 73. -/
def State.applyImage (s : State) (w : Waiting) : State :=
  s.policyAfter (fun s =>
    let ch := s.changesOf w.recs (w.keepTrim || s.trimKept w.recs)
    if (s.lockConflict ch).isSome then { s with cfg := { s.cfg with waiting := none, valleySeen := false } } else
    let binding := (List.range 8).any (fun t => ch.any (fun r => r.1 == R.MILL_TASKt_BIND t))
    let t := ((s.applyChanges ch).restartTables.restartBlock).prismSummary
    let t := if w.reinit || binding then t.dmemReload else t
    { t with cfg := { t.cfg with waiting := none, valleySeen := false } })

/-- The instant of R70: a waiting image applies, and so do enables written since (R70). DEDUCED: log entry 9. -/
def State.configSync (s : State) : State :=
  let t := match s.cfg.waiting with
    | some w => if s.syncInstant s.cfg.valleySeen then s.applyImage w else s
    | none => s
  t.forAll 5 (fun i u => if u.syncInstant (s.cfg.enSeen.getLsbD i) then u.applyEnable i else u)

/-- The valley of SYNC_CAR that R70 waits for has come. -/
def State.syncValley (s : State) : State :=
  { s with cfg := { s.cfg with valleySeen := true, enSeen := 31 }
           acq := { s.acq with valleySeen := s.acq.valleySeen || s.acq.armed } }

/-! ### Configuration slots and the record ring (R350, R354, R355) -/

/-- A memory with a range emptied. -/
def memClear (m : Memory) (lo n : Nat) : Memory := m.filter (fun c => !(lo ≤ c.1 && c.1 < lo + n))

/-- A word store written into a memory from an address up. -/
def memSetWords (m : Memory) (base : Nat) (ws : WordStore) : Memory :=
  ws.foldl (fun u w => memSetWord u (base + 4 * w.1) w.2) m

/-- Bundles written into a memory. -/
def memSetBundles (m : Memory) (base : Nat) (ws : List (Nat × BitVec 128)) : Memory :=
  ws.foldl (fun u w => memSetBytes u (base + 16 * w.1) (leBytes 16 w.2.toNat)) m

/-- What a configuration slot holds: the image, the Mill program, the initial data-memory image and the banks. -/
structure SlotContent where
  image : List Byte
  prog : List (Nat × BitVec 128)
  dmem : WordStore
  bankA : WordStore
  bankB : WordStore
  deriving DecidableEq, Repr

/-- The content of the live slot. -/
def State.liveContent (s : State) : SlotContent :=
  ⟨s.mramRead (slotBase s.cfg.slot) s.cfg.len, s.mill.prog, wordsIn s.mem.mram (slotDmem s.cfg.slot) 8192, s.mill.bankA, s.mill.bankB⟩

/-- Write a slot whole. DESIGN CHOICE: log entry 34. -/
def State.writeSlot (s : State) (slot : Nat) (c : SlotContent) : State :=
  let m := memSetBytes (memClear s.mem.mram (slotBase slot) 0x40000) (slotBase slot) c.image
  let m := memSetWords (memSetBundles m (slotProg slot) c.prog) (slotDmem slot) c.dmem
  let m := memSetWords (memSetWords m (slotBank slot 0) c.bankA) (slotBank slot 1) c.bankB
  { s with mem := s.mem.rewrite (slotBase slot) 0x40000 m }

/-- A line of 256 bytes with its CRC (R354). -/
def sealLine (body : List Byte) : List Byte :=
  let b := (body ++ zeros 252).take 252
  b ++ leBytes 4 (crc32c b).toNat

/-- A line holds a valid record of a kind. -/
def lineValid (magic : Nat) (b : List Byte) : Bool := fieldLe b 0 4 == magic && fieldLe b 252 4 == (crc32c (b.take 252)).toNat

/-- The CRC-32C of an image, over the bytes before its final word, which holds it (R338). -/
def imageCrc (img : List Byte) : Nat := (crc32c (img.take (img.length - 4))).toNat

/-- The configuration record that makes a generation live. -/
def cfgRecord (gen slot len : Nat) (img : List Byte) (progLen : Nat) : List Byte :=
  sealLine (leBytes 4 0x52464743 ++ leBytes 4 gen ++ leBytes 1 slot ++ zeros 3 ++ leBytes 4 len ++ leBytes 4 (imageCrc img) ++
    zeros 28 ++ leBytes 4 progLen)

/-- The slot that does not hold the live generation; with none live, slot 0. -/
def State.idleSlot (s : State) : Nat := if s.cfg.gen = 0 then 0 else 1 - s.cfg.slot

/-- Write the commit record of a generation whose image lies in the idle slot: it is live from here (R338, R355). DEDUCED: log entry 51. -/
def State.makeLive (s : State) (gen : Nat) (img : List Byte) (progLen : Nat) : State :=
  let slot := s.idleSlot
  let t := s.mramWrite (0x8000 + 256 * s.cfg.ringNext) (cfgRecord gen slot img.length img progLen)
  let t := { t with cfg := { t.cfg with
    gen := gen, slot := slot, len := img.length, progLen := progLen, ringNext := (t.cfg.ringNext + 1) % 128 } }
  (t.clr F.SYS_BOOT_NOCFG).raise 0xFA |>.log 0x0003 0xFF .info (leBytes 4 gen)

end Sys2Proof.Machine
end

