-- ==== Sys2Proof/Machine/Bus.lean ====
section
/-! DEFINITION. Machine/Bus.lean: one access of a bus master to the address map: regions, worlds, ECC, the registers that read live or
latch, and the beats of a DMA transfer (R345 to R351, R362 to R371). -/

namespace Sys2Proof.Machine

/-! ### The address map (R345, R350) -/

/-- The regions of the address map. -/
inductive Region where
  | rom
  | sramOpen
  | sramSteward
  /-- The MRAM window below the application area. -/
  | mramFixed
  | mramApp
  | mramSpare
  | block
  | none
  deriving DecidableEq, Repr

/-- The region of an address. -/
def regionOf (a : Nat) : Region :=
  if a < 0x10000 then .rom
  else if 0x10000000 ≤ a ∧ a < 0x10180000 then .sramOpen
  else if 0x10180000 ≤ a ∧ a < 0x10200000 then .sramSteward
  else if 0x20000000 ≤ a ∧ a < 0x204D0000 then .mramFixed
  else if 0x204D0000 ≤ a ∧ a < 0x207E0000 then .mramApp
  else if 0x207E0000 ≤ a ∧ a < 0x20800000 then .mramSpare
  else if 0x40000000 ≤ a ∧ a < 0x40110000 then .block
  else .none

/-- A descriptor covers an address: enabled, and its lines from BASE to LIMIT hold it (R363). -/
def State.covers (s : State) (r a : Nat) : Bool :=
  s.nowOn (F.WLD_RGNr_ATTR_EN r) && s.nowGet (F.WLD_RGNr_BASE_LINE r) ≤ a / 256 && a / 256 ≤ s.nowGet (F.WLD_RGNr_LIMIT_LINE r)

/-- The region descriptors permit an access: the highest covering one decides, and without one every access passes (R363). -/
def State.regionAllows (s : State) (w : World) (write : Bool) (a : Nat) : Bool :=
  match ((List.range 32).filter (fun r => s.covers r a)).getLast? with
  | some r => bitAt (s.nowRd (R.WLD_RGNr_ATTR r)) ((if w = .secure then 3 else 1) + bit1 write)
  | none => true

/-- The port that an address lies behind: its peripheral block's, or the SRAM's (R349). -/
def portOf (a : Nat) : Option Nat :=
  match regionOf a with
  | .block => some (blockIndex a)
  | .sramOpen | .sramSteward => some 17
  | _ => none

/-- A granted access takes its port for the cycle. -/
def State.takePort (s : State) (a : Nat) : State :=
  match portOf a with
  | some p => { s with cycle := { s.cycle with ports := p :: s.cycle.ports } }
  | none => s

/-! ### SRAM ECC (R346, R348) -/

def State.modMem (s : State) (f : Mem → Mem) : State := { s with mem := f s.mem }

/-- A word with one wrong bit is corrected and written back (R346). -/
def State.sramCorrect (s : State) (o : Nat) : State :=
  if o ∈ s.mem.sramCorrectable then
    (s.modMem (fun m => { m with sramCorrectable := m.sramCorrectable.filter (· != o) })).incS F.WLD_ECC_CE
  else s

/-- A read meets an uncorrectable word: UE and its address, and LIMP (R348). -/
def State.sramFatal (s : State) (o : Nat) : State :=
  let t := if s.on F.WLD_ECC_UE then s else (s.set1 F.WLD_ECC_UE).wr R.WLD_ECC_ADDR (BitVec.ofNat 32 (0x10000000 + o))
  t.limp 3

/-- A word holds `wrong` wrong bits, as its next read finds (R346, R348). -/
def State.sramUpset (s : State) (o wrong : Nat) : State :=
  if wrong = 0 ∨ o ∈ s.mem.sramBad then s
  else if wrong = 1 ∧ !(o ∈ s.mem.sramCorrectable) then s.modMem (fun m => { m with sramCorrectable := o :: m.sramCorrectable })
  else s.modMem (fun m => { m with sramCorrectable := m.sramCorrectable.filter (· != o), sramBad := o :: m.sramBad })

/-- Read an SRAM word at an offset: `none` when it cannot be corrected. DESIGN CHOICE: log entry 61. -/
def State.sramRead (s : State) (o : Nat) : State × Option Word :=
  if o ∈ s.mem.sramBad then (s.sramFatal o, none) else (s.sramCorrect o, some (memWord s.mem.sram o))

/-- The bytes of a word that enables select, from `v`, and the others from `old`. DEDUCED: log entry 38. -/
def mergeBytes (old v : Word) (be : BitVec 4) : Word :=
  (List.range 4).foldl (fun x i => if be.getLsbD i then setBits x (8 * i) 8 (getBits v (8 * i) 8) else x) old

/-- Write an SRAM word: a full write repairs it, a partial write is a read-modify-write (R346, R348). -/
def State.sramWrite (s : State) (o : Nat) (v : Word) (be : BitVec 4) : State × Bool :=
  if be = 15 then
    (s.modMem (fun m => { m with
      sram := memSetWord m.sram o v
      sramCorrectable := m.sramCorrectable.filter (· != o), sramBad := m.sramBad.filter (· != o) }), true)
  else match s.sramRead o with
    | (t, none) => (t, false)
    | (t, some old) => (t.modMem (fun m => { m with sram := memSetWord m.sram o (mergeBytes old v be) }), true)

/-! ### Registers that read live, and reads that latch -/

/-- OTP as WLD_OTP shows it. -/
def State.otpWord (s : State) : Word :=
  let keys := ofBits (s.otp.keySlots.map Option.isSome)
  let hashes := ofBits (s.otp.keyHash.map (fun h => h != zeros 32))
  BitVec.ofNat 32 (bit1 s.otp.provisioned + 2 ^ 8 * s.otp.arb + 2 ^ 16 * keys + 2 ^ 24 * hashes)

/-- WLD_MRAM: the spares used, and whether the pool is empty (R353), beside REFRESH. -/
def State.mramWord (s : State) : Word :=
  setBits (setBits (s.rd R.WLD_MRAM) 0 10 s.mem.spares) 16 1 (bit1 (512 ≤ s.mem.spares))

/-- What a read of a register returns. -/
def State.shown (s : State) (a : Nat) : Word :=
  match blockIndex a with
  | 0 => s.policyShow.rd a
  | 1 => if a = R.CLK_TB_LO then s.shortStamp else if a = R.CLK_RTC_SEC_LO then s.clk.rtcSec.setWidth 32 else s.rd a
  | 2 =>
    if a = R.ACQ_STAT then
      ((s.putB F.ACQ_STAT_OVR_ANY ((List.range 16).any (fun n => s.on (F.ACQ_DATAn_OVR n)))).putB F.ACQ_STAT_OW_ANY
        ((List.range 3).any (fun j => s.rd (R.ACQ_OWSTATj j) != 0))).rd a
    else s.rd a
  | 3 => if a = R.PRISM_STAT then s.prismSummary.rd a else s.rd a
  | 6 =>
    if a = R.LOOM_STAT then (s.putB F.LOOM_STAT_OUT_EN s.switching).rd a
    else match idx? a (R.LOOM_CSTATc 0) 0x20 8 with
      | some c => s.carStatus c
      | none => s.rd a
  | 7 => if a = R.GDP_STAT then (s.gdpSummary.gdSummary).rd a else s.rd a
  | 8 =>
    if a = R.CMP_STAT then s.cmpSummary.rd a
    else match idx? a (R.CMP_WINw_STAT 0) 0x10 48 with
      | some w => (s.putB (F.CMP_WINw_STAT_FORCED w) (s.winForced w)).rd a
      | none => s.rd a
  | 9 => if a = R.GRN_STAT then (s.putB F.GRN_STAT_RPL s.replayHolds).rd a else s.rd a
  | 13 =>
    if a = R.DMA_STAT then
      BitVec.ofNat 32 (ofBits ((List.range 16).map (fun n => s.on (F.DMA_CHn_STAT_ERR n))) +
        2 ^ 16 * ofBits ((List.range 16).map (fun n => s.on (F.DMA_CHn_STAT_TOVR n))))
    else s.rd a
  | 15 => if a = R.WLD_OTP then s.otpWord else if a = R.WLD_MRAM then s.mramWord else s.rd a
  | _ => s.rd a

/-- A read of ACQ_DATAn clears VALID and latches the value's stamp (R74). -/
def State.takeData (s : State) (n : Nat) : State :=
  (s.clr (F.ACQ_DATAn_VALID n)).wr (R.ACQ_STAMPn n) (nth s.acq.dataStamps n 0)

/-- What a read of a register does besides returning its value (R34, R37, R38, R40, R74, R238). -/
def State.readEffect (s : State) (a : Nat) : State :=
  match blockIndex a with
  | 1 =>
    if a = R.CLK_TB_LO then s.latchTimebase
    else if a = R.CLK_RTC_SEC_LO then s.latchRtc
    else if a = R.CLK_RTC_TB_LO then s.latchRtcTb
    else match idx? a (R.CLK_CAPn_LO 0) 0x10 8, idx? a (R.CLK_CAPn_HI 0) 0x10 8 with
      | some n, _ => s.latchCapture n
      | none, some n => s.takeCapture n
      | none, none => s
  | 2 =>
    match idx? a (R.ACQ_DATAn 0) 8 16 with
    | some n => s.takeData n
    | none => s
  | 9 => s.grnLoRead a
  | _ => s

/-! ### One access -/

/-- A refused access of a master: captured, with the reason (R364). DEDUCED: log entry 38. -/
def State.refuse (s : State) (m : Master) (w : World) (write : Bool) (a : Nat) (why : WriteResult) : State × WriteResult :=
  (s.faultAt m w write a why, why)

/-- A master reads the word at an address: the state after it, the value (0 when refused), and the outcome. DEDUCED: log entry 38. -/
def State.busRead (s : State) (m : Master) (w : World) (a : Nat) : State × Word × WriteResult :=
  let a := a / 4 * 4
  let no := fun why => let (t, r) := s.refuse m w false a why; (t, (0 : Word), r)
  let steward := m == .steward
  match regionOf a with
  | .rom | .mramSpare => (s, 0, .written)
  | .sramOpen =>
    if s.regionAllows w false a then
      match s.sramRead (a - 0x10000000) with
      | (t, some v) => (t, v, .written)
      | (t, none) => let (u, r) := t.refuse m w false a .ecc; (u, 0, r)
    else no .region
  | .sramSteward =>
    if steward then
      match s.sramRead (a - 0x10000000) with
      | (t, some v) => (t, v, .written)
      | (t, none) => let (u, r) := t.refuse m w false a .ecc; (u, 0, r)
    else no .fixed
  | .mramFixed | .mramApp =>
    let o := a - 0x20000000
    if regionOf a = .mramFixed ∧ w = .nonSecure then no .fixed
    else if regionOf a = .mramApp ∧ !s.regionAllows w false a then no .region
    else if (o / 8 * 8) ∈ s.mem.mramBad then no .ecc
    else (s, memWord s.mem.mram o, .written)
  | .block => ((s.readEffect a), s.shown a, .written)
  | .none => no .unmapped

/-- A master writes the enabled bytes of the word at an address. A partial write of a register carries the stored bytes where no
enable is set (log entry 38). -/
def State.busWrite (s : State) (m : Master) (w : World) (a : Nat) (v : Word) (be : BitVec 4) : State × WriteResult :=
  let word := a / 4 * 4
  let steward := m == .steward
  match regionOf a with
  | .rom | .mramSpare => if steward || a < 0x10000 then s.refuse m w true word .fixed else s.refuse m w true word .mramWrite
  | .sramOpen =>
    if s.regionAllows w true word then
      match s.sramWrite (word - 0x10000000) v be with
      | (t, true) => (t, .written)
      | (t, false) => t.refuse m w true word .ecc
    else s.refuse m w true word .region
  | .sramSteward =>
    if steward then
      match s.sramWrite (word - 0x10000000) v be with
      | (t, true) => (t, .written)
      | (t, false) => t.refuse m w true word .ecc
    else s.refuse m w true word .fixed
  | .mramFixed => s.refuse m w true word (if steward then .fixed else .mramWrite)
  | .mramApp =>
    if !steward then s.refuse m w true word .mramWrite
    else if s.regionAllows w true word then
      if s.mramFails (word - 0x20000000) 4 then (s.mramWrite (word - 0x20000000) (leBytes 4 v.toNat)).refuse m w true word .ecc
      else (s.mramWrite (word - 0x20000000) (leBytes 4 v.toNat), .written)
    else s.refuse m w true word .region
  | .block =>
    let v := if be = 15 then v else mergeBytes (s.rd word &&& configBits word) v be
    s.busReg m w word v (fun t x => t.hook word x)
  | .none => s.refuse m w true word .unmapped
where
  configBits (a : Nat) : Word :=
    match regRow? a with
    | some r => r.rw ||| r.rwl ||| r.rws
    | none => 0

/-- The Steward writes a register for a host in world `w`: what a write command of the opcode table does. DEDUCED: log entry 63. -/
def State.regWrite (s : State) (w : World) (a : Nat) (v : Word) : State := (s.busReg .steward w a v (fun t x => t.hook a x)).1

/-- The Steward reads a register for a host: what a read command of the opcode table does. -/
def State.regRead (s : State) (w : World) (a : Nat) : State := (s.busRead .steward w a).1

/-- A write command of the opcode table: nobody writes registers while the device boots, waits in the recovery state, or in KEEP. -/
def State.write (s : State) (w : World) (a : Nat) (v : Word) : State :=
  if s.sys.phase = .run then s.policyFor a (fun s => (s.transact (s.regWrite w a v) 0 1).takePort a) else s

/-- A read command of the opcode table. -/
def State.read (s : State) (w : World) (a : Nat) : State := if s.sys.phase = .run then (s.transact (s.regRead w a) 0 1).takePort a else s

/-! ### DMA beats (R366 to R370) -/

/-- Byte `j` of the source range, from the words read. -/
def DmaXfer.byte (x : DmaXfer) (j : Nat) : Byte :=
  BitVec.ofNat 8 (getBits (x.words.getD ((x.src % 4 + j) / 4) 0) (8 * ((x.src % 4 + j) % 4)) 8)

/-- The next write beat may go at COUNT `now`: the last word that it needs was read 2 cycles ago, or longer while perturbation withholds
the beat's grant, and one word is written in a cycle (R58, R368). DEDUCED: log entry 75. -/
def DmaXfer.ready (x : DmaXfer) (now : Nat) : Bool :=
  x.wroteAt != some now &&
    match x.filledAt with
    | some t => decide (t + 2 + x.hold ≤ now)
    | none => false

/-- The world of a channel. -/
def State.dmaWorld (s : State) (n : Nat) : World := if s.on (F.DMA_CHn_CFG_WORLD n) then .secure else .nonSecure

/-- CAUSE of DMA_CHn_STAT for a refused beat (R369). -/
def WriteResult.dmaCause : WriteResult → Nat
  | .world => 1
  | .region => 2
  | .unmapped => 3
  | .ecc => 4
  | .mramWrite => 5
  | .mode => 6
  | .fixed => 7
  | _ => 0

/-- A refused beat stops the channel: ERR, CAUSE, EADDR, EN cleared, no completion event (R369). -/
def State.dmaStop (s : State) (n a : Nat) (why : WriteResult) : State :=
  let t := (s.dmaEnd n).set1 (F.DMA_CHn_STAT_ERR n)
  (t.put (F.DMA_CHn_STAT_CAUSE n) why.dmaCause).wr (R.DMA_CHn_EADDR n) (BitVec.ofNat 32 (a / 4 * 4))

/-- The destination of the next transfer of a ring of 2^(DRING + 8) bytes (R367). -/
def ringAdvance (base cur len dring : Nat) : Nat :=
  let size := 2 ^ (dring + 8)
  base / size * size + (cur + len) % size

/-- The end of a transfer: its event is due in the next cycle, and EN is cleared or the channel armed again (R367, R370). -/
def State.dmaDone (s : State) (n : Nat) (x : DmaXfer) : State :=
  let dring := s.get (F.DMA_CHn_CFG_DRING n)
  let t := if s.on (F.DMA_CHn_CFG_REARM n) then
      let next := if dring = 0 ∨ !s.on (F.DMA_CHn_CFG_DINC n) then none
        else some (ringAdvance (s.rd (R.DMA_CHn_DST n)).toNat x.dst x.len dring)
      s.modDma n (fun c => { trigAt := c.trigAt, ringNext := next })
    else s.dmaEnd n
  t.modDma n (fun c => { c with ended := true })

/-- Event 0x90 + n of the channels that completed a transfer in the last cycle (R370). -/
def State.dmaTick (s : State) : State :=
  s.forAll 16 (fun n t => if (t.dmaCh n).ended then (t.modDma n (fun c => { c with ended := false })).raise (0x90 + n) else t)

/-- Where write beat `k` goes: along the destination, within its ring when DRING is set. -/
def State.dmaDest (s : State) (n : Nat) (x : DmaXfer) (k : Nat) : Nat :=
  if !s.on (F.DMA_CHn_CFG_DINC n) then x.dst / 4 * 4
  else
    let dring := s.get (F.DMA_CHn_CFG_DRING n)
    let a := x.dst / 4 * 4 + 4 * k
    if dring = 0 then a else
      let size := 2 ^ (dring + 8)
      let base := (s.rd (R.DMA_CHn_DST n)).toNat / size * size
      base + (a - base) % size

/-- Where the next read beat reads: along the source, or its one word. -/
def State.dmaFrom (s : State) (n : Nat) (x : DmaXfer) : Nat :=
  if s.on (F.DMA_CHn_CFG_SINC n) then x.src / 4 * 4 + 4 * x.reads else x.src / 4 * 4

/-- The channel may read its next word now. -/
def State.dmaReads (s : State) (n : Nat) (x : DmaXfer) : Bool :=
  !x.stopping && x.reads < x.readCount && s.due (s.dmaCh n).grantAt

/-- The address of the beat for which a channel asks in this cycle: a write whose words were read 2 cycles ago before the next read. -/
def State.dmaAsks (s : State) (n : Nat) : Option Nat :=
  match (s.dmaCh n).xfer with
  | some x => if x.ready s.count then some (s.dmaDest n x x.writes) else if s.dmaReads n x then some (s.dmaFrom n x) else none
  | none => none

/-- The port of an address grants channel `n` an access in this cycle: it grants one in a cycle, the SRAM's none in the scrubber's cycle, and a
lower channel that asks for the same port goes first (R347, R349). DEDUCED: log entry 75. -/
def State.portFree (s : State) (n a : Nat) : Bool :=
  match portOf a with
  | none => true
  | some p =>
    !(p == 17 && s.count % 128 == 0) && !s.cycle.ports.contains p && (List.range n).all (fun m => (s.dmaAsks m).bind portOf != some p)

/-- A write beat: the bytes inside the range, with their enables. DEDUCED: log entry 38. -/
def State.dmaWrite (s : State) (n : Nat) (x : DmaXfer) : State :=
  let lanes := x.lanes x.writes
  let v := lanes.foldl (fun (w : Word) l => setBits w (8 * l.1) 8 (x.byte l.2).toNat) 0
  let be : BitVec 4 := lanes.foldl (fun b l => b ||| (1#4 <<< l.1)) 0
  let a := s.dmaDest n x x.writes
  s.policyFor a (fun s =>
    match (s.takePort a).busWrite (.dma n) (s.dmaWorld n) a v be with
    | (t, .written) | (t, .locked) | (t, .unlisted) =>
      let x' := { x with writes := x.writes + 1, wroteAt := some s.count, hold := 0 }
      if (t.dmaCh n).xfer.isNone then t
      else if x'.writes = x'.writeCount then t.dmaDone n x'
      else if x'.stopping && !x'.inHand then t.dmaDrop n
      else (t.modDma n (fun c => { c with xfer := some x' })).dmaHold n
    | (t, why) => t.dmaStop n a why)

/-- A read beat; `wrong` says how many bits of an SRAM word have gone wrong before it. -/
def State.dmaRead (s : State) (n : Nat) (x : DmaXfer) (wrong : Nat) : State :=
  let a := s.dmaFrom n x
  let s := if regionOf a = .sramOpen then s.sramUpset (a - 0x10000000) wrong else s
  match (s.takePort a).busRead (.dma n) (s.dmaWorld n) a with
  | (t, v, .written) =>
    let x' := { x with reads := x.reads + 1, words := x.words ++ [v], readAt := x.readAt ++ [s.count] }
    let u := t.modDma n (fun c => { c with xfer := some x' })
    if x'.reads < x'.readCount then u.dmaGrant n else u
  | (t, _, why) => t.dmaStop n a why

/-- A granted beat of a running transfer: a write whose words were read 2 cycles ago goes before the next read, and a port grants one access in
a cycle (R349, R366, R368). DEDUCED: log entry 75. -/
def State.dmaBeat (s : State) (n wrong : Nat) : State :=
  if s.coreRuns then
    match (s.dmaCh n).xfer with
    | some x =>
      if x.ready s.count && s.portFree n (s.dmaDest n x x.writes) then s.dmaWrite n x
      else if s.dmaReads n x && s.portFree n (s.dmaFrom n x) then s.dmaRead n x wrong
      else s
    | none => s
  else s

/-! ### The scrubber and the MRAM refresh (R347, R352, R353) -/

/-- The scrubber's cycle: the next word is read and corrected; `wrong` says how many of its bits have gone wrong.
DESIGN CHOICE: log entry 61. -/
def State.scrubCycle (s : State) (wrong : Nat) : State :=
  if s.coreRuns ∧ s.count % 128 = 0 then
    let i := s.mem.scrubNext
    let t := ((s.sramUpset (4 * i) wrong).sramRead (4 * i)).1
    if i + 1 < 524288 then t.modMem (fun m => { m with scrubNext := i + 1 })
    else (t.modMem (fun m => { m with scrubNext := 0 })).incW F.WLD_ECC_PASSES
  else s

/-- A line is read and written again. -/
def Mem.rewriteLine (m : Mem) (l : Nat) : Mem := m.rewrite (256 * l) 256 m.mram

/-- The Steward reads every MRAM line, once every 24 h of operation: it rewrites the lines in which it corrected an error, and an uncorrectable
word is captured as an access fault; `worn` are lines whose writes fail verification from now on (R352, R353). DESIGN CHOICE: log entry 61. -/
def State.mramRefresh (s : State) (corrected worn bad : List Nat) : State :=
  if s.sys.phase = .run ∧ s.due s.mem.refreshAt then
    let t := s.put F.WLD_MRAM_REFRESH (min 255 (s.get F.WLD_MRAM_REFRESH + corrected.length))
    let t := t.modMem (fun m => { m with
      refreshAt := s.count + 34560000000000, worn := m.worn ++ worn.filter (fun l => l < 32768 && !m.worn.contains l) })
    let t := t.modMem (fun m => corrected.foldl (fun x l => x.rewriteLine (l % 32768)) m)
    bad.foldl (fun u o =>
      let o := o % 0x800000 / 8 * 8
      (u.modMem (fun m => if o ∈ m.mramBad then m else { m with mramBad := o :: m.mramBad })).faultAt .steward .secure false
        (0x20000000 + o) .ecc) t
  else s

end Sys2Proof.Machine
end

