-- ==== Sys2Proof/Machine/RplOps.lean ====
section
/-! DEFINITION. Machine/RplOps.lean: the record and replay engine's start, slots and stops (R60 to R63). -/

namespace Sys2Proof.Machine

/-- The anchor carrier of the engine. -/
def State.rplCar (s : State) : Nat := s.get F.TST_RPL_CTRL_CAR

/-- The anchor carrier is at a valley in this cycle. -/
def State.rplValley (s : State) : Bool := s.carRunning s.rplCar && s.carElapsed s.rplCar == 0

/-- CORE cycles from now to the next slot boundary, 0 to 31 (R60). -/
def State.slotPhase (s : State) : Nat := (32 - s.count % 32) % 32

/-- The engine runs from the present valley. -/
def State.rplRun (s : State) (x : RplPhase) : State :=
  s.modTst (fun t => { t with rpl := x, slot0 := s.count + s.slotPhase, phase := s.slotPhase })

/-- An armed recording starts at the first valley of its anchor (R60). -/
def State.rplEngineStart (s : State) : State :=
  if s.tst.rpl = .armedRecord ∧ s.rplValley then s.rplRun .recording else s

/-- The phase of this valley is the recorded one (R62). -/
def State.rplMatches (s : State) : Bool := s.rplValley && s.slotPhase == s.get F.TST_RPL_PHASE_PHASE

/-- Every PWM and GD output goes off while replay runs; edges are placed as before (R62). -/
def State.replayQuiet (s : State) : State :=
  (s.forAll 24 (fun l t => (t.setOuts l false false true).modLeg l (fun x => { x with onH := none, onL := none }))).gdRefreshAll

/-- An armed replay starts at the first valley with the recorded phase (R62). -/
def State.rplReplayMatch (s : State) : State :=
  if s.tst.rpl = .armedReplay ∧ s.rplMatches then (s.rplRun .replaying).replayQuiet else s

/-- The engine stops (R60, R62). DEDUCED: log entry 58. -/
def State.rplStop (s : State) : State :=
  ((s.modTst (fun t => { t with rpl := .idle, abort := false })).clr F.TST_RPL_STAT_BUSY).gdRefreshAll

/-- No matching valley within 32 valleys (R62). -/
def State.rplPhaseTimeout (s : State) : State :=
  if s.tst.rpl = .armedReplay ∧ 32 ≤ s.tst.valleys ∧ !s.rplMatches then s.rplStop.put F.TST_RPL_STAT_ERR 4 else s

/-- A valley of carrier `c` counts towards the 32 of R62. -/
def State.rplCount' (s : State) (c : Nat) : State :=
  if s.tst.rpl = .armedReplay ∧ c = s.rplCar then s.modTst (fun t => { t with valleys := t.valleys + 1 }) else s

/-- The slices of SLICES, in ascending order; none where SLOTS is 0. -/
def State.rplSlices (s : State) : List Nat :=
  (List.range 16).filter (fun n => s.bit R.TST_RPL_CTRL (16 + n) && s.get F.TST_RPL_LEN_SLOTS != 0)

/-- The present slot is the engine's next one. DESIGN CHOICE: log entry 4. -/
def State.rplSlotDue (s : State) : Bool := s.acq.slotAt == some (s.tst.slot0 + 32 * s.get F.TST_RPL_POS_POS) && s.acq.slotAt == some s.count

/-- The CRC register starts at slot 0 (R63). -/
def State.digestStart (s : State) : State :=
  if s.get F.TST_RPL_POS_POS = 0 then { s.wr R.TST_DIGEST 0xFFFFFFFF with tst := { s.tst with crc := 0xFFFFFFFF } } else s

/-- The record of a slice's slot: 0 when it converts nothing there, and with VALUE 0 when it presents nothing. DESIGN CHOICE: log
entry 72. -/
def recordWord (o : SlotOut) : Word :=
  match o.chan with
  | none => 0
  | some c => BitVec.ofNat 32 (wrapTo 16 (o.value.getD 0) + 2 ^ 16 * bit1 o.value.isSome + 2 ^ 17 * c)

/-- The records of a slot are handled. -/
def State.rplSlotEnd (s : State) : State := s.incW F.TST_RPL_POS_POS

/-- A cycle begins. Where the last slot has ended with the cycle before it, the digest takes the replay accumulators and is complemented, and the
engine is done (R60, R61, R63). DESIGN CHOICE: log entry 4. -/
def State.rplFinish (s : State) : State :=
  let pos := s.get F.TST_RPL_POS_POS
  if s.rplRuns && pos != 0 && s.get F.TST_RPL_LEN_SLOTS ≤ pos && s.due (s.tst.slot0 + 32 * pos) then
    let u := s.digestWords (s.grn.rpl.flatMap (fun (v : Dword) => [v.setWidth 32, (v >>> 32).setWidth 32]))
    ((u.wr R.TST_DIGEST (~~~ u.tst.crc)).set1 F.TST_RPL_STAT_DONE).rplStop
  else s

/-- The address of the records of the present slot. -/
def State.rplAddr (s : State) : Nat := (s.rd R.TST_RPL_BASE).toNat + 4 * (s.get F.TST_RPL_POS_POS * s.rplCount)

/-- A slot of a recording (R61): a record for each selected slice; the phase is stored with the last slot. DEDUCED: log entry 58. -/
def State.rplRecordSlot (s : State) : State :=
  if s.tst.rpl = .recording ∧ s.rplSlotDue then
    if s.tst.abort then s.rplStop else
    let a := s.rplAddr
    let t := (s.rplSlices.zipIdx).foldl (fun (t : State) p =>
      ((t.busWrite .replay .secure (a + 4 * p.2) (recordWord (nth s.acq.outs p.1 {})) 15).1).takePort a) s.digestStart
    let t := t.update F.TST_RPL_PHASE_PHASE (if t.get F.TST_RPL_POS_POS + 1 = t.get F.TST_RPL_LEN_SLOTS then s.tst.phase
      else t.get F.TST_RPL_PHASE_PHASE)
    t.rplSlotEnd
  else s

/-- A record presents its value in place of the slice's result, with this slot's stamp and not marked open (R62).
DESIGN CHOICE: log entry 80. -/
def State.presentRecord (s : State) (n : Nat) (w : Word) : State :=
  let c := getBits w 17 7
  let diff := (s.resolve c).2
  let v : Int := if diff then signed 16 w.toNat else (getBits w 0 16 : Int)
  s.send ⟨n, s.count, s.count + 40, c, v, diff, false, s.stampsBad, s.bySpare n⟩

/-- A record's channel differs from what the slice converts in this slot (R62). DESIGN CHOICE: log entry 80. -/
def channelDiffers (o : SlotOut) (w : Word) : Bool :=
  match o.chan with
  | none => bitAt w 16
  | some c => c != getBits w 17 7

/-- One selected slice of a replayed slot; a difference stops the engine with CHAN_MISMATCH (R62). -/
def State.replaySlice (s : State) (n a : Nat) : State :=
  if s.tst.rpl = .replaying then
    match (s.takePort a).busRead .replay .secure a with
    | (t, w, _) =>
      if channelDiffers (nth t.acq.outs n {}) w then t.rplStop.put F.TST_RPL_STAT_ERR 3
      else if bitAt w 16 then t.presentRecord n w else t
  else s

/-- A slot of a replay (R62). -/
def State.rplReplaySlot (s : State) : State :=
  if s.tst.rpl = .replaying ∧ s.rplSlotDue then
    if s.tst.abort then s.rplStop else
    let a := s.rplAddr
    let t := (s.rplSlices.zipIdx).foldl (fun (t : State) p => t.replaySlice p.1 (a + 4 * p.2)) s.digestStart
    if t.tst.rpl = .replaying then t.rplSlotEnd else t
  else s

end Sys2Proof.Machine
end

