-- ==== Sys2Proof/Machine/Boot.lean ====
section
/-! DEFINITION. Machine/Boot.lean: firmware slots and their checks, the event log as a boot finds it, the choice and load of the
configuration, and the end of a boot (R339, R342, R354 to R359, R387). -/

namespace Sys2Proof.Machine

/-! ### Firmware slots (R354, R356 to R359) -/

/-- Line `i` of the firmware ring. -/
def State.fwLine (s : State) (i : Nat) : List Byte := s.mramRead (256 * i) 256

/-- The lines of the firmware ring that hold a valid record. -/
def State.fwLines (s : State) : List Nat := (List.range 128).filter (fun i => lineValid 0x52465746 (s.fwLine i))

/-- The valid record with the highest RSEQ among some lines, with its line. -/
def State.fwNewest (s : State) (p : List Byte → Bool) : Option (Nat × List Byte) :=
  s.fwLines.foldl (fun best i =>
    let b := s.fwLine i
    if p b then
      match best with
      | some (_, c) => if fieldLe c 4 4 < fieldLe b 4 4 then some (i, b) else best
      | none => some (i, b)
    else best) none

/-- The newest record of a firmware slot. -/
def State.fwRecord (s : State) (slot : Nat) : Option (List Byte) := (s.fwNewest (fun b => byteAt b 8 == slot)).map (·.2)

/-- Where a firmware slot lies in the MRAM. -/
def fwBase (slot : Nat) : Nat := 0x10000 + 0x200000 * slot

/-- The header of the image in a slot. -/
def State.fwHeader (s : State) (slot : Nat) : List Byte := s.mramRead (fwBase slot) 256

/-- LENGTH of an image's header: its body's bytes. -/
def fwBody (h : List Byte) : Nat := fieldLe h 12 4

/-- The header has its MAGIC, its HCRC and a legal LENGTH. -/
def fwHeaderOk (h : List Byte) : Bool :=
  fieldLe h 0 4 == 0x474D4957 && fieldLe h 252 4 == (crc32c (h.take 252)).toNat && 1 ≤ fwBody h && fwBody h ≤ 2096896

/-- Check 2 of R358: the vendor key, the signature and the body's hash. PRESUMED: log entry 36. -/
def State.fwAuthentic (s : State) (slot : Nat) (h : List Byte) : Bool :=
  let key := (h.drop 48).take 64
  let hash := nth s.otp.keyHash (byteAt h 9) (zeros 32)
  byteAt h 9 < 4 && hash != zeros 32 && hash == sha256 key &&
    ecdsaVerify (ofBe (key.take 32)) (ofBe (key.drop 32)) (sha256 (h.take 112)) (ofBe ((h.drop 112).take 32)) (ofBe ((h.drop 144).take 32)) &&
    sha256 (s.mramRead (fwBase slot + 256) (fwBody h)) == (h.drop 16).take 32

/-- The DETAIL of the first check of R358 that fails, `none` when all pass; `len` and `crc` are the command's. -/
def State.fwCheck (s : State) (slot len crc : Nat) : Option Nat :=
  let h := s.fwHeader slot
  if !(fwHeaderOk h && 256 + fwBody h == len && (crc32c (s.mramRead (fwBase slot) len)).toNat == crc) then some 3
  else if !s.fwAuthentic slot h then some 1
  else if byteAt h 8 < s.otp.arb then some 2
  else if 64 < byteAt h 8 then some 4
  else none

/-- A COMMITTED slot passes checks 1 to 3 at boot (R359): the record's length and hash stand in for the command's. DEDUCED: log entry 53. -/
def State.fwBoots (s : State) (slot : Nat) : Bool :=
  match s.fwRecord slot with
  | some b =>
    let h := s.fwHeader slot
    byteAt b 9 == 2 && fwHeaderOk h && 256 + fwBody h == fieldLe b 12 4 && (b.drop 16).take 32 == (h.drop 16).take 32 &&
      s.fwAuthentic slot h && s.otp.arb ≤ byteAt h 8
  | none => false

/-- RSEQ of a slot's newest record. -/
def State.fwRseq (s : State) (slot : Nat) : Nat := ((s.fwRecord slot).map (fun b => fieldLe b 4 4)).getD 0

/-- The slot that the boot ROM starts: the verified one with the higher RSEQ (R356). DESIGN CHOICE: log entry 39. -/
def State.fwChoose (s : State) : Option Nat :=
  match s.fwBoots 0, s.fwBoots 1 with
  | true, true => some (if s.fwRseq 0 < s.fwRseq 1 then 1 else 0)
  | true, false => some 0
  | false, true => some 1
  | false, false => none

/-- The version of a slot's record. -/
def State.fwVersion (s : State) (slot : Nat) : Nat := ((s.fwRecord slot).map (fun b => fieldLe b 48 4)).getD 0

/-- A firmware record is written to the next line of the ring: state 1 WRITING or 2 COMMITTED (R354, R356). DEDUCED: log entry 53. -/
def State.fwWriteRecord (s : State) (slot state len : Nat) (hash : List Byte) (version : Nat) : State :=
  let rseq := match s.fwNewest (fun _ => true) with
    | some (_, b) => fieldLe b 4 4 + 1
    | none => 1
  let line := sealLine (leBytes 4 0x52465746 ++ leBytes 4 rseq ++ leBytes 1 slot ++ leBytes 1 state ++ zeros 2 ++ leBytes 4 len ++
    hash ++ leBytes 4 version)
  let t := s.mramWrite (256 * s.cfg.fwRingNext) line
  { t with cfg := { t.cfg with fwRingNext := (s.cfg.fwRingNext + 1) % 128 } }

/-- The slot that FW_WRITE writes: the one begun since the last installation, else the one a running image does not occupy; in the
recovery state, the one with the older record. -/
def State.fwIdle (s : State) : Nat :=
  match s.cfg.fwWriting with
  | some i => i
  | none => if s.sys.phase = .recovery then bit1 (s.fwRseq 1 < s.fwRseq 0) else 1 - s.cfg.fwRunning

/-- The FW_INFO state of a slot. -/
def State.fwState (s : State) (slot : Nat) : Nat :=
  match s.fwRecord slot with
  | none => 0
  | some b =>
    if byteAt b 9 = 1 then (if slot ∈ s.cfg.fwTouched then 1 else 4)
    else if s.sys.phase ≠ .recovery ∧ slot = s.cfg.fwRunning then 3
    else if s.fwBoots slot then 2 else 0

/-! ### The event log at boot (R339) -/

/-- The record in slot `i` of the log is whole. -/
def logWhole (b : List Byte) : Bool := fieldLe b 30 2 == (crc32c (b.take 30)).toNat % 65536

/-- Slots of the log that have ever been written, in ascending order. -/
def State.logSlots (s : State) : List Nat :=
  ((s.mem.mram.filter (fun c => 0x490000 ≤ c.1 && c.1 < 0x4B0000)).map (fun c => (c.1 - 0x490000) / 32)).eraseDups

/-- The record in a slot of the log. -/
def State.logRecord (s : State) (i : Nat) : List Byte := s.mramRead (0x490000 + 32 * i) 32

/-- The log as the Steward finds it at boot: the newest and oldest whole records, and those discarded. DEDUCED: log entry 54. -/
def State.logScan (s : State) : State :=
  let whole := s.logSlots.filter (fun i => logWhole (s.logRecord i))
  let seqs := whole.map (fun i => fieldLe (s.logRecord i) 0 4)
  let newest := seqs.foldl (fun (best : Option Nat) q => match best with
    | some b => if newer 32 q b then some q else best
    | none => some q) none
  let t := { s with stew := { s.stew with logDiscarded := s.logSlots.length - whole.length } }
  match newest with
  | none => t
  | some n =>
    let held := seqs.foldl (fun (m : Nat) q => max m ((n + 2 ^ 32 - q) % 2 ^ 32 + 1)) 0
    { t with stew := { t.stew with logNext := BitVec.ofNat 32 (n + 1), logHeld := min 4096 held } }

/-! ### The configuration at boot (R355) -/

/-- Line `i` of the configuration ring. -/
def State.cfgLine (s : State) (i : Nat) : List Byte := s.mramRead (0x8000 + 256 * i) 256

/-- The image that a configuration record names, when its CRC is right. DEDUCED: log entry 69. -/
def State.cfgImage (s : State) (b : List Byte) : Option (List Byte) :=
  let img := s.mramRead (slotBase (byteAt b 8 % 2)) (min 0x20000 (fieldLe b 12 4))
  if imageCrc img = fieldLe b 16 4 ∧ fieldLe img (img.length - 4) 4 = fieldLe b 16 4 then some img else none

/-- The valid records, with their lines. -/
def State.cfgLines (s : State) : List (Nat × List Byte) :=
  ((List.range 128).map (fun i => (i, s.cfgLine i))).filter (fun r => lineValid 0x52464743 r.2)

/-- The record with the highest GEN whose image is intact, and that image. DEDUCED: log entry 69. -/
def State.cfgChoose (s : State) : Option (List Byte × List Byte) :=
  s.cfgLines.foldl (fun best r =>
    match s.cfgImage r.2 with
    | some img =>
      (match best with
       | some (b, _) => if fieldLe b 4 4 < fieldLe r.2 4 4 then some (r.2, img) else best
       | none => some (r.2, img))
    | none => best) none

/-- The line after the newest valid record. -/
def State.cfgNextLine (s : State) : Nat :=
  match s.cfgLines.foldl (fun (best : Option (Nat × List Byte)) r => match best with
      | some b => if fieldLe b.2 4 4 < fieldLe r.2 4 4 then some r else best
      | none => some r) none with
  | some r => (r.1 + 1) % 128
  | none => 0

/-- Load the chosen configuration: program, data memory, banks, the registers, the trim in one step, then the journal. DEDUCED: log
entry 69. DESIGN CHOICE: log entry 57. -/
def State.cfgLoad (s : State) : State :=
  let s := { s with cfg := { s.cfg with ringNext := s.cfgNextLine } }
  match s.cfgChoose with
  | none => (s.set1 F.SYS_BOOT_NOCFG).grnRestore
  | some (b, img) =>
    let slot := byteAt b 8 % 2
    let t := { s with cfg := { s.cfg with gen := fieldLe b 4 4, slot := slot, len := img.length, progLen := fieldLe b 48 4 } }
    let t := t.modMill (fun m => { m with
      prog := bundlesIn s.mem.mram (slotProg slot) 4096
      bankA := wordsIn s.mem.mram (slotBank slot 0) 2048, bankB := wordsIn s.mem.mram (slotBank slot 1) 2048 })
    let recs := recordsOf img (fieldLe img 20 4)
    (t.dmemReload.applyChanges (t.changesOf recs false)).grnRestore

/-! ### The end of a boot (R387) -/

/-- The slot's record says WRITING: a reset has abandoned its installation (R356). -/
def State.fwLeftWriting (s : State) (slot : Nat) : Bool := (s.fwRecord slot).any (fun b => byteAt b 9 == 1)

/-- No slot is bootable: the boot ROM's recovery state, which knows of an abandoned installation, the later one of two (R356, R359). -/
def State.recovery (s : State) : State :=
  let newer := bit1 (s.fwRseq 0 < s.fwRseq 1)
  let s := { s with cfg := { s.cfg with fwAborted := [newer, 1 - newer].find? s.fwLeftWriting } }
  ((s.put F.SYS_MODE_MODE 4).put F.SYS_MODE_LIMP_CAUSE 5).modSys (fun x => { x with phase := .recovery })

/-- The clock monitor's report on what has not locked (R387). DESIGN CHOICE: log entry 7. -/
def State.bootClocks (s : State) : State :=
  let t := if s.on F.CLK_STAT_SYN0_LOCKED then s
    else if s.clk.refMissing then s.set1 F.CLK_STAT_REF_LOST else s.set1 F.CLK_STAT_SYN0_LOST
  let lost := t.on F.CLK_STAT_REF_LOST || t.on F.CLK_STAT_SYN0_LOST
  let t := if s.on F.CLK_STAT_SYN1_LOCKED || s.clk.refMissing then t else t.set1 F.CLK_STAT_SYN1_LOST
  let stew := t.on F.CLK_STAT_SYN1_LOST || s.clk.refMissing
  let t := t.modClk (fun c => { c with coreOnMonitor := c.coreOnMonitor || lost, stewOnMonitor := c.stewOnMonitor || stew })
  let t := if lost then (t.blockLegs .clk 0xFFFFFF).set1 F.GRN_STAT_CLKSTOP else t
  if lost then t.log 0x0042 1 .fault (leBytes 4 (t.rd R.CLK_STAT).toNat)
  else if t.on F.CLK_STAT_SYN1_LOST then t.log 0x0042 1 .warn (leBytes 4 (t.rd R.CLK_STAT).toNat)
  else t

/-- The next line of the firmware ring, after the newest record. -/
def State.fwRingScan (s : State) : State :=
  let next := match s.fwNewest (fun _ => true) with
    | some (i, _) => (i + 1) % 128
    | none => 0
  { s with cfg := { s.cfg with fwRingNext := next } }

/-- Firmware starts from a slot: the anti-rollback counter follows its STEP, and an installation that a reset abandoned is noted. -/
def State.fwStart (s : State) (slot : Nat) : State :=
  let step := byteAt (s.fwHeader slot) 8
  let t := s.put F.SYS_BOOT_SLOT slot
  let t := { t with otp := { t.otp with arb := max t.otp.arb (min 64 step) } }
  let other := 1 - slot
  let aborted := s.fwLeftWriting other
  let t := { t with cfg := { t.cfg with fwRunning := slot, fwAborted := if aborted then some other else none } }
  if aborted then t.log 0x0007 0xFF .warn (leBytes 1 other) else t

/-- CONV has started and calibrated, and the delay lines are locked (R75, R177, R387). -/
def State.convReady (s : State) : State :=
  let t := (s.convStarts.set1 F.ACQ_STAT_CAL_DONE).spareNext 0
  if t.on F.LOOM_DLL_FAIL then t else t.set1 F.LOOM_DLL_LOCKED

/-- The banks take their levels at a power-up, which a system reset is not (R384, R393). -/
def State.releaseBanks (s : State) (low : BitVec 3) : State :=
  if s.get F.SYS_BOOT_CAUSE ≤ 1 then s.modSys (fun x => { x with bankLow := low }) else s

/-- The supplies as their monitors show them, VDRV and VBAK as given. -/
def State.showSupplies (s : State) (vdrv vbak : Bool) : State :=
  (((s.put ⟨R.SYS_SUPPLY, 0, 4⟩ 15).putB F.SYS_SUPPLY_VDRV_OK vdrv).putB F.SYS_SUPPLY_VBAK_OK vbak).putB F.GDP_STAT_UVLO (!vdrv)

/-- The entry into READY, or into LIMP without a clock: the BOOT record, the transition, HOLD, and the attention bits.
DESIGN CHOICE: log entry 7. -/
def State.bootEnters (s : State) (lost : Bool) : State :=
  let slot := s.get F.SYS_BOOT_SLOT
  let t := s.modSys (fun x => { x with phase := .run })
  let t := t.log 0x0001 0xFF .info (leBytes 1 (t.get F.SYS_BOOT_CAUSE) ++ leBytes 1 slot ++ leBytes 4 (s.fwVersion slot))
  let t := if lost then (t.put F.SYS_MODE_LIMP_CAUSE 1).recordMode .ready .limp 7 false else (t.recordMode .ready .ready 0 false).holdBegins
  let t := t.wrapHeld.attend (if t.on F.GRN_STAT_UNCLEAN then 0xC0 else 0x80)
  (t.gdRefreshAll.brkStepAll).limpIf

/-- The boot sequence finishes (R387). DESIGN CHOICE: log entry 39. -/
def State.bootComplete (s : State) (rails : Rails) (vbak : Bool) : State :=
  if s.sys.phase = .boot then
    let t := ((s.releaseBanks rails.low).showSupplies rails.vdrv vbak).incW F.SYS_KCTL_BOOTS
    let t := { t with mem := { t.mem with sram := [], sramCorrectable := [], sramBad := [], scrubNext := 0 } }
    let t := (t.mramMeet 0 0x4D0000).logScan.fwRingScan
    match t.fwChoose with
    | none => t.recovery
    | some slot =>
      let t := (t.fwStart slot).blockLegs .safe 0xFFFFFF
      let t := t.putB F.LOOM_STAT_GEN t.genOn
      let t := t.bootClocks.cfgLoad
      let lost := t.on F.CLK_STAT_REF_LOST || t.on F.CLK_STAT_SYN0_LOST
      ((if lost then t.ringClockFail else t).convReady.observersStart).bootEnters lost
  else s

end Sys2Proof.Machine
end

