-- ==== Sys2Proof/Machine/Packet.lean ====
section
/-! DEFINITION. Machine/Packet.lean: the Itsar packet as bytes, a command as the Steward reads it, and the framing of the two ports
(R321 to R324). -/

namespace Sys2Proof.Machine

/-- A byte string followed by its CRC-32C. -/
def withCrc (b : List Byte) : List Byte := b ++ leBytes 4 (crc32c b).toNat

/-- A 16-byte header (R324). -/
def headerBytes (type world flags opcode seq ack len ctr : Nat) : List Byte :=
  leBytes 1 0xA5 ++ leBytes 1 type ++ leBytes 1 world ++ leBytes 1 flags ++ leBytes 2 opcode ++ leBytes 2 seq ++ leBytes 2 ack ++
    leBytes 2 len ++ leBytes 4 ctr

/-- A command as the Steward reads it: what its reply takes from it, its ACK, payload and tag, and the bytes that the tag covers. -/
structure Cmd where
  asked : Asked
  ack : BitVec 16
  payload : List Byte
  tag : List Byte
  signed : List Byte
  deriving DecidableEq, Repr

/-- The WORLD byte of a world. -/
def worldCode : World → Nat
  | .nonSecure => 0
  | .secure => 1

/-- The bytes of a command packet before its tag. -/
def hdrFront (h : Hdr) (opcode : Nat) (p : List Byte) : List Byte :=
  headerBytes 1 (worldCode h.world) (bit1 h.tag.isSome) opcode h.seq.toNat h.ack.toNat p.length h.ctr.toNat ++ p

/-- The packet that carries a command. -/
def hdrPacket (h : Hdr) (opcode : Nat) (p : List Byte) : List Byte := withCrc (hdrFront h opcode p ++ h.tag.getD [])

/-- The command that the packet carries. -/
def hdrCmd (h : Hdr) (opcode : Nat) (p : List Byte) : Cmd :=
  { asked := { opcode := opcode, world := worldCode h.world, seq := h.seq, ctr := h.ctr, tagged := h.tag.isSome
               crc := crc32c (hdrFront h opcode p ++ h.tag.getD []) }
    ack := h.ack, payload := p, tag := h.tag.getD [], signed := hdrFront h opcode p }

/-- A header and payload that a packet can carry: at most 4,096 bytes, and a tag of 16 (R324). -/
def hdrFits (h : Hdr) (p : List Byte) : Bool := p.length ≤ 4096 && (h.tag.map List.length).getD 16 == 16

/-- The bytes of a packet from its first to its last, as its header announces them. -/
def packetLen (b : List Byte) : Nat := 16 + fieldLe b 10 2 + (if (byteAt b 3) % 2 = 1 then 16 else 0) + 4

/-- The command in a whole packet. -/
def readCmd (b : List Byte) : Cmd :=
  let n := fieldLe b 10 2
  let tagged := (byteAt b 3) % 2 == 1
  { asked := { opcode := fieldLe b 4 2, world := byteAt b 2, seq := BitVec.ofNat 16 (fieldLe b 6 2)
               ctr := BitVec.ofNat 32 (fieldLe b 12 4), tagged := tagged
               crc := BitVec.ofNat 32 (fieldLe b (packetLen b - 4) 4) }
    ack := BitVec.ofNat 16 (fieldLe b 8 2), payload := (b.drop 16).take n
    tag := if tagged then (b.drop (16 + n)).take 16 else [], signed := b.take (16 + n) }

/-- The packet's CRC is right. -/
def crcRight (b : List Byte) : Bool := fieldLe b (packetLen b - 4) 4 == (crc32c (b.take (packetLen b - 4))).toNat

/-! ### The UART receiver (R322) -/

/-- The packets in a run of bytes without a gap of more than 32 character times: bytes are dropped up to SOF, a header whose TYPE or LEN
is refused is dropped and the search goes on; a packet cut short by the end of the run is dropped. DEDUCED: log entry 47. -/
def uartPackets : Nat → List Byte → List (List Byte)
  | 0, _ => []
  | fuel + 1, b =>
    match b.dropWhile (· != 0xA5) with
    | [] => []
    | x :: rest =>
      let f := x :: rest
      if f.length < 16 then []
      else if byteAt f 1 ≠ 1 ∨ 4096 < fieldLe f 10 2 then uartPackets fuel (f.drop 16)
      else if f.length < packetLen f then []
      else f.take (packetLen f) :: uartPackets fuel (f.drop (packetLen f))

end Sys2Proof.Machine
end

