-- ==== Sys2Proof/Machine/Steward.lean ====
section
/-! DEFINITION. Machine/Steward.lean: what the Steward does with every command packet, whatever its opcode: transmit queues, replies
and their history, sequence numbers, sessions, the modes and worlds of commands, and long operations (R321 to R336, R341). -/

namespace Sys2Proof.Machine

/-! ### Status codes (R326) -/

namespace Status
abbrev ok : Nat := 0x0000
abbrev accepted : Nat := 0x0001
abbrev badCrc : Nat := 0x0010
abbrev badLen : Nat := 0x0011
abbrev seqGap : Nat := 0x0012
abbrev duplicate : Nat := 0x0013
abbrev worldDenied : Nat := 0x0020
abbrev authFail : Nat := 0x0021
abbrev modeConflict : Nat := 0x0030
abbrev busy : Nat := 0x0031
abbrev invalidParam : Nat := 0x0040
abbrev admissionFail : Nat := 0x0050
abbrev installAborted : Nat := 0x0060
end Status

/-- What a reply says: STATUS, DETAIL and the command's own data. -/
structure Reply where
  status : Nat := Status.ok
  detail : Nat := 0
  data : List Byte := []
  deriving DecidableEq, Repr

/-- Refusals that several commands share. -/
def Reply.invalid (offset : Nat) : Reply := { status := Status.invalidParam, detail := offset }
def State.conflict (s : State) : Reply := { status := Status.modeConflict, detail := s.mode.code }

/-! ### Attention (R341) -/

/-- The attention word of a link: bits 0 to 2 live, bits 3 to 7 latched. -/
def State.attnWord (s : State) (l : Link) : BitVec 8 :=
  let k := s.link l
  (k.attn &&& 0xF8) ||| BitVec.ofNat 8 (bit1 (l == .spi && !k.tx.isEmpty) + 2 * bit1 (k.tx.any (·.final)) + 4 * bit1 s.cmpIrq)

/-- The link has attention pending. DEDUCED: log entry 49. -/
def State.attention (s : State) (l : Link) : Bool := s.attnWord l &&& (s.link l).mask != 0

/-- HIRQ is asserted. DESIGN CHOICE: log entry 64. -/
def State.hirq (s : State) : Bool := s.attention .spi

/-! ### Transmit queues and replies (R323, R326, R328) -/

/-- A reply goes ahead of the telemetry in a queue of 8, which keeps as much telemetry as it then has room for (R323).
DESIGN CHOICE: log entry 49. -/
def queueReply (q : List TxPacket) (p : TxPacket) : List TxPacket :=
  let replies := q.filter (fun x => !x.telemetry) ++ [p]
  replies ++ (q.filter (·.telemetry)).take (8 - replies.length)

/-- Replies queued on a link, and with them those that wait for room in the queue. -/
def State.repliesQueued (s : State) (l : Link) : Nat := ((s.link l).tx.filter (fun x => !x.telemetry)).length
def State.repliesWaiting (s : State) (l : Link) : Nat := s.repliesQueued l + (s.link l).later.length

/-- The link takes no packet while 8 replies are queued (R323), nor while target 5 holds its receive FIFO full (R58). -/
def State.rxFull (s : State) (l : Link) : Bool := 8 ≤ s.repliesQueued l || s.fifoHeld

/-- Change a link's transmit queue; an attention bit 0 or 1 that newly sets raises event 0xFD. -/
def State.queueTx (s : State) (l : Link) (f : List TxPacket → List TxPacket) : State :=
  let t := s.modLink l (fun k => { k with tx := f k.tx })
  if (t.attnWord l &&& ~~~ s.attnWord l) &&& 3 = 0 then t else t.emit 0xFD

/-- A stored reply as it goes out: the flags of this sending, the tag when its command was tagged and a session is held, the CRC.
DEDUCED: log entry 48. DEDUCED: log entry 63. -/
def State.dress (s : State) (l : Link) (e : HistEntry) (again : Bool) : List Byte :=
  let ks := if e.tagged then (s.link l).session.map (·.ks) else none
  let flags := byteAt e.body 3 + bit1 ks.isSome + 4 * bit1 again + 8 * bit1 (s.attention l)
  let ctr := if ks.isSome then (e.body.drop 12).take 4 else zeros 4
  let b := e.body.take 3 ++ leBytes 1 flags ++ (e.body.drop 4).take 8 ++ ctr ++ e.body.drop 16
  match ks with
  | some k => withCrc (b ++ (hmac256 k b).take 16)
  | none => withCrc b

/-- Queue a stored reply for sending; behind 8 replies it waits for room (R323). DEDUCED: log entry 49. -/
def State.sendEntry (s : State) (l : Link) (e : HistEntry) (again : Bool) : State :=
  let p : TxPacket := ⟨s.dress l e again, false, (byteAt e.body 3).testBit 1⟩
  if 8 ≤ s.repliesQueued l then s.modLink l (fun k => { k with later := k.later ++ [p] }) else s.queueTx l (fun q => queueReply q p)

/-- The oldest packet leaves a queue, and a reply that waited for room takes its place (R321, R323). -/
def State.txGone (s : State) (l : Link) : State :=
  (s.queueTx l (fun q => q.drop 1 ++ (s.link l).later.take 1)).modLink l (fun k => { k with later := k.later.drop 1 })

/-- The packet that a port sends next; none while target 5 holds its transmit FIFO empty (R58, R321). -/
def State.txNext (s : State) (l : Link) : Option TxPacket := if s.fifoHeld then none else (s.link l).tx.head?

/-- The reply data that a status carries (R326). -/
def Reply.carried (r : Reply) : List Byte :=
  if r.status = Status.ok ∨ r.status = Status.accepted ∨ r.status = Status.installAborted then r.data else []

/-- A reply as the history keeps it. -/
def Reply.entry (r : Reply) (a : Asked) (ran final : Bool) (seq : BitVec 16) : HistEntry :=
  let p := leBytes 2 r.status ++ zeros 2 ++ leBytes 4 r.detail ++ r.carried
  { cmdSeq := a.seq, ran := if ran then some a.crc else none, replySeq := seq, tagged := a.tagged
    body := headerBytes 2 a.world (2 * bit1 final) a.opcode seq.toNat a.seq.toNat p.length a.ctr.toNat ++ p }

/-- Answer a command: the next reply SEQ, the history of 64 replies, and the queue. `ran` says that the command was executed or refused
with 0x0020 or above. -/
def State.reply (s : State) (l : Link) (a : Asked) (ran final : Bool) (r : Reply) : State :=
  let e := r.entry a ran final (s.link l).nextReply
  let t := s.modLink l (fun k => { k with
    nextReply := k.nextReply + 1, history := (k.history ++ [e]).drop (k.history.length + 1 - 64) })
  t.sendEntry l e false

/-- The oldest reply SEQ held once the reply now being formed has entered the history. -/
def State.oldestHeld (s : State) (l : Link) : BitVec 16 :=
  let k := s.link l
  k.nextReply - BitVec.ofNat 16 (min 63 k.history.length)

/-! ### The state block (R330) -/

/-- The opcode of the long operation that runs, 0 for none. -/
def State.longOpcode (s : State) : Nat := if s.stew.longOp.state = 1 then s.stew.longOp.asked.opcode else 0

/-- The running firmware's version. -/
def State.runVersion (s : State) : Nat := if s.sys.phase = .recovery then Config.noFirmware else s.fwVersion (s.get F.SYS_BOOT_SLOT)

def otherLink : Link → Link
  | .spi => .uart
  | .uart => .spi

/-- The 32 bytes of the state block, as a link sees it. -/
def State.stateBlock (s : State) (l : Link) : List Byte :=
  leBytes 1 s.mode.code ++ leBytes 1 (s.get F.SYS_BOOT_CAUSE) ++ leBytes 2 s.longOpcode ++ leBytes 4 s.cfg.gen ++
    leBytes 2 (s.get F.RING_GEN_GEN) ++ leBytes 1 (s.get F.SYS_BOOT_SLOT) ++
    leBytes 1 (bit1 (s.link l).session.isSome + 2 * bit1 (s.link (otherLink l)).session.isSome) ++ leBytes 4 s.runVersion ++
    leBytes 4 (s.rd R.SAFE_PGEN).toNat ++ leBytes 4 (s.rd R.GRN_JSEQ).toNat ++ leBytes 4 (s.stew.logNext - 1).toNat ++
    leBytes 1 (ofBits ((List.range 8).map (fun t => s.on (F.MILL_TASKt_STAT_BANK t)))) ++
    leBytes 1 (ofBits ((List.range 8).map (fun t => s.on (F.MILL_TASKt_STAT_TRIPPED t)))) ++ zeros 2

/-! ### Sessions (R335) -/

/-- A SESSION record: 0 open, 1 close, 2 AUTH_FAIL, 3 closed by failures. -/
def State.logSession (s : State) (l : Link) (what : Nat) : State :=
  s.log 0x0070 0xFF (if what < 2 then .info else .warn) (leBytes 1 (bit1 (l == .uart)) ++ leBytes 1 what)

/-- The link's session closes: event 0xFC and the record. -/
def State.closeSession (s : State) (l : Link) (what : Nat) : State :=
  if (s.link l).session.isSome then
    ((s.modLink l (fun k => { k with session := none })).emit 0xFC).logSession l what
  else s

/-- An AUTH_FAIL answer has been queued: the third in a row closes the session and blocks SESSION_OPEN. DEDUCED: log entry 48. -/
def State.authFailed (s : State) (l : Link) : State :=
  let t := (s.modLink l (fun k => { k with authFails := k.authFails + 1 })).logSession l 2
  if 3 ≤ (t.link l).authFails then
    (t.closeSession l 3).modLink l (fun k => { k with authFails := 0, blockedAt := some s.count })
  else t

/-- What follows an answer: AUTH_FAIL answers are counted in a row, and a session whose CTR has reached its end closes. -/
def State.afterAnswer (s : State) (l : Link) (status : Nat) : State :=
  if status = Status.authFail then s.authFailed l
  else
    let t := s.modLink l (fun k => { k with authFails := 0 })
    if ((t.link l).session.map (·.ctr)).getD 0 = 0xFFFFFFFF then t.closeSession l 1 else t

/-- The link holds a session under which the command's tag and CTR are right. PRESUMED: log entry 36. -/
def State.tagRight (s : State) (l : Link) (c : Cmd) : Bool :=
  match (s.link l).session with
  | some x => x.ctr < c.asked.ctr && c.tag == (hmac256 x.ks c.signed).take 16
  | none => false

/-! ### Steps 3 to 7 of R325 -/

/-- The commands that LIMP executes (R333). -/
def limpOps : List Nat := [0x0201, 0x0204, 0x0501, 0x0601]

/-- The commands that DOZE accepts beside group 0x00 (R332). -/
def dozeOps : List Nat := [0x0101, 0x0201, 0x0202, 0x0203, 0x0204, 0x0501, 0x0601, 0x0602, 0x0604, 0x0605]

/-- The commands that the recovery state serves (R359). -/
def recoveryOps : List Nat := [0x0001, 0x0002, 0x0005, 0x0006, 0x0201, 0x0204, 0x0701, 0x0702, 0x0703]

/-- The commands marked Secure (R334). -/
def secureOps : List Nat := [0x0005, 0x0006, 0x0505, 0x0702, 0x0703, 0x0902, 0x0903, 0x0906, 0x0A01]

/-- One of the four commands that LIMP takes with any SEQ, session and world. -/
def State.limpTakes (s : State) (op : Nat) : Bool := s.sys.phase == .run && s.mode == .limp && limpOps.contains op

/-- The mode accepts the opcode (R332, R333, R359). -/
def State.modeAccepts (s : State) (op : Nat) : Bool :=
  if s.sys.phase = .recovery then recoveryOps.contains op
  else match s.mode with
    | .ready | .run | .service => true
    | .doze => op / 256 == 0 || dozeOps.contains op
    | .limp => limpOps.contains op
    | .keep => false

/-- HELLO, SYNC and REPLAY: accepted with any SEQ; HELLO itself sets L, and the others never do (R329). -/
def keepsL (op : Nat) : Bool := [0x0001, 0x0002, 0x0003].contains op

/-- What the sequence check says of a command (R327). -/
inductive SeqStep where
  | go
  | gap (detail : Nat)
  | duplicate
  | again (es : List HistEntry)
  deriving DecidableEq, Repr

/-- Step 3 (R327), which LIMP's four commands skip (R333). DEDUCED: log entry 47. -/
def State.seqStep (s : State) (l : Link) (c : Cmd) : SeqStep :=
  let k := s.link l
  if s.limpTakes c.asked.opcode || keepsL c.asked.opcode then .go
  else if !k.hello then .gap (2 ^ 31)
  else if c.asked.seq = k.last + 1 then .go
  else if newer 16 c.asked.seq.toNat (k.last + 1).toNat then .gap (k.last + 1).toNat
  else match k.history.filter (fun e => e.cmdSeq == c.asked.seq && e.ran == some c.asked.crc) with
    | [] => .duplicate
    | es => .again es

/-- SESSION_OPEN, and in the recovery state of an unprovisioned device the two firmware commands, go untagged in WORLD 1 (R334, R359). -/
def State.untagged (s : State) (op : Nat) : Bool :=
  op == 0x0005 || (s.sys.phase == .recovery && !s.otp.provisioned && (op == 0x0702 || op == 0x0703))

/-- The secure commands of the island, refused with AUTH_FAIL without a valid tag (R316). -/
def safeSecure (op : Nat) : Bool := op == 0x0902 || op == 0x0903 || op == 0x0906

/-- Step 5: the refusal, if any (R334, R335). A tag that is missing is AUTH_FAIL of the island's secure commands (R316), and of every command once the
link has its session (R335); without one INVALID_PARAM (R334). DEDUCED: log entry 48. -/
def State.worldStep (s : State) (l : Link) (c : Cmd) : Option Reply :=
  let a := c.asked
  if s.limpTakes a.opcode then none
  else if a.world = 1 ∧ !a.tagged ∧ !s.untagged a.opcode ∧ (safeSecure a.opcode ∨ (s.link l).session.isSome) then
    some { status := Status.authFail }
  else if 1 < a.world || a.tagged != (a.world == 1 && !s.untagged a.opcode) then some (Reply.invalid 0)
  else if a.world = 0 ∧ secureOps.contains a.opcode then some { status := Status.worldDenied }
  else if a.tagged ∧ !s.tagRight l c then some { status := Status.authFail }
  else none

/-- A tagged command has been accepted: CTR, and the 600 s begin again (R335). -/
def State.touchSession (s : State) (l : Link) (c : Cmd) : State :=
  if c.asked.tagged ∧ s.tagRight l c then
    s.modLink l (fun k => { k with session := k.session.map (fun x => { x with ctr := c.asked.ctr, touched := s.count }) })
  else s

/-- The payload lengths that an opcode accepts: one fixed length, or a rule; `none` for an unknown opcode (R325, step 6). -/
inductive LenRule where
  | fixed (n : Nat)
  | rule (ok : Bool)
  deriving DecidableEq, Repr

/-- The length rule of an opcode, for a payload. -/
def lenRule (op : Nat) (p : List Byte) : Option LenRule :=
  let n := p.length
  match op with
  | 0x0001 | 0x0003 | 0x0007 | 0x0202 | 0x0203 | 0x0204 | 0x0405 | 0x0406 | 0x0501 | 0x0502 | 0x0504 | 0x0603 | 0x0604 | 0x0605 | 0x0804
  | 0x0903 | 0x0A03 => some (.fixed 4)
  | 0x0002 | 0x0004 | 0x0006 | 0x0201 | 0x0303 | 0x0304 | 0x0503 | 0x0506 | 0x0602 | 0x0701 | 0x0801 | 0x0802 | 0x0803 | 0x0805 | 0x0901
  | 0x0904 | 0x0905 | 0x0906 => some (.fixed 0)
  | 0x0101 | 0x0305 | 0x0601 | 0x0703 => some (.fixed 8)
  | 0x0302 => some (.fixed 12)
  | 0x0402 => some (.fixed 16)
  | 0x0005 => some (.fixed 20)
  | 0x0A01 => some (.fixed 24)
  | 0x0A02 => some (.fixed 40)
  | 0x0102 => some (.rule (4 ≤ n && n == 4 + 8 * fieldLe p 0 2))
  | 0x0301 | 0x0702 => some (.rule (4 ≤ n && n ≤ 4092))
  | 0x0401 => some (.rule (4 ≤ n && n == 4 + 16 * fieldLe p 2 2))
  | 0x0403 => some (.rule (4 ≤ n && n == 4 + 4 * fieldLe p 2 2))
  | 0x0404 => some (.rule (8 ≤ n && n == 8 + 4 * fieldLe p 4 2))
  | 0x0505 => some (.rule (if byteAt p 0 < 4 then n == 484 else if byteAt p 0 < 8 then n == 52 else n == 484 || n == 52))
  | 0x0902 => some (.rule (4 ≤ n && n == 4 + fieldLe p 2 2))
  | _ => none

/-- Step 6: the refusal, if any. -/
def lenStep (op : Nat) (p : List Byte) : Option Reply :=
  match lenRule op p with
  | none => some (Reply.invalid 0xFFFFFFFF)
  | some (.fixed n) => if p.length = n then none else some { status := Status.badLen, detail := n }
  | some (.rule true) => none
  | some (.rule false) => some { status := Status.badLen }

/-- The long operations (R336). -/
def longOps : List Nat := [0x0302, 0x0402, 0x0404, 0x0503, 0x0703, 0x0903]

/-- The long operations that make a generation. -/
def genOps : List Nat := [0x0302, 0x0402, 0x0404]

/-- Step 7: the command conflicts with the long operation that runs (R336). -/
def State.longConflict (s : State) (op : Nat) : Bool :=
  let r := s.longOpcode
  r != 0 && (longOps.contains op || ([0x0301, 0x0303, 0x0401, 0x0403].contains op && genOps.contains r) ||
    (op == 0x0702 && r == 0x0703) || (op == 0x0902 && r == 0x0903))

/-! ### Long operations (R336) -/

/-- A long operation begins. -/
def State.longBegin (s : State) (l : Link) (c : Cmd) : State :=
  { s with stew := { s.stew with longOp := { asked := c.asked, link := l, payload := c.payload, state := 1, phase := 1 } } }

/-- Change the long operation. -/
def State.modLong (s : State) (f : LongOp → LongOp) : State := { s with stew := { s.stew with longOp := f s.stew.longOp } }

/-- The long operation ends with its final reply and event 0xF9; the latency policy may decide again (R336, R343, R379). -/
def State.longEnd (s : State) (status detail : Nat) : State :=
  s.policyAfter (fun s =>
    let o := s.stew.longOp
    let t := s.modLong (fun x => { x with state := 2, phase := 0, status := status, detail := detail })
    (t.reply o.link o.asked true true { status := status, detail := detail }).emit 0xF9)

/-- The long operation `op` runs. -/
def State.longRuns (s : State) (op : Nat) : Bool := s.stew.longOp.state == 1 && s.stew.longOp.asked.opcode == op

/-! ### Receiving -/

/-- The port takes packets: in the recovery state the UART alone, and none during a boot or in KEEP (R332, R359).
DESIGN CHOICE: log entry 7. DEDUCED: log entry 47. -/
def State.serves (s : State) (l : Link) : Bool := s.sys.phase == .run || (s.sys.phase == .recovery && l == .uart)

/-- A packet or transfer of `n` bytes has led from `s` to `t`: a handshake between HOST and CORE, and the words of the port's FIFO (R58).
DESIGN CHOICE: log entry 58. -/
def State.hostMoves (s t : State) (n : Nat) : State := s.fifoMoves (s.transact t 1 1) ((n + 3) / 4)

/-- A packet discarded unanswered; the SPI link counts it (R321, R323). -/
def State.discard (s : State) (l : Link) : State :=
  match l with
  | .spi => s.modLink .spi (fun k => { k with discards := k.discards + 1 })
  | .uart => s

/-- Answer a command that no step has let through to execution; L follows from status 0x0020 on (R327). -/
def State.refuseCmd (s : State) (l : Link) (c : Cmd) (r : Reply) : State :=
  let ran := 0x20 ≤ r.status
  let t := if ran && !keepsL c.asked.opcode then s.modLink l (fun k => { k with last := c.asked.seq }) else s
  (t.reply l c.asked ran false r).afterAnswer l r.status

/-- Steps 6 and 7: the refusal, if any (R325). -/
def State.formStep (s : State) (c : Cmd) : Option Reply :=
  match lenStep c.asked.opcode c.payload with
  | some r => some r
  | none => if s.longConflict c.asked.opcode then some { status := Status.busy, detail := s.longOpcode } else none

/-- Steps 4 to 7 of a command whose SEQ is right, and its execution by `run`, with L at its SEQ. -/
def State.carryOut (s : State) (l : Link) (c : Cmd) (run : State → State) : State :=
  if !s.modeAccepts c.asked.opcode then s.refuseCmd l c s.conflict
  else match s.worldStep l c with
    | some r => s.refuseCmd l c r
    | none =>
      let t := s.touchSession l c
      match t.formStep c with
      | some r => t.refuseCmd l c r
      | none => run (if keepsL c.asked.opcode then t else t.modLink l (fun k => { k with last := c.asked.seq }))

/-- A command whose framing and CRC are right: its ACK is recorded, and the steps of R325 follow. -/
def State.receive (s : State) (l : Link) (c : Cmd) (run : State → State) : State :=
  let t := s.modLink l (fun k => { k with lastAck := c.ack })
  match t.seqStep l c with
  | .gap d => (t.reply l c.asked false false { status := Status.seqGap, detail := d }).afterAnswer l Status.seqGap
  | .duplicate =>
    (t.reply l c.asked false false { status := Status.duplicate, detail := (t.link l).last.toNat }).afterAnswer l Status.duplicate
  | .again es => es.foldl (fun u e => u.sendEntry l e true) t
  | .go => t.carryOut l c run

/-- The answer to a packet whose framing or CRC is wrong: OPCODE and ACK come from a complete header (R321, R326). -/
def State.answerRaw (s : State) (l : Link) (b : List Byte) (status detail : Nat) : State :=
  let a : Asked := if 16 ≤ b.length then { (readCmd b).asked with crc := 0 } else {}
  (s.reply l a false false { status := status, detail := detail }).afterAnswer l status

end Sys2Proof.Machine
end

