-- ==== Sys2Proof/Machine/HostLink.lean ====
section
/-! DEFINITION. Machine/HostLink.lean: what the commands of groups 0x00, 0x01, 0x02 and 0x06 do once every check of R325 has passed:
link and session, register access, modes, log, telemetry and attention (R327 to R344, R376, R379, R384). -/

namespace Sys2Proof.Machine

/-- Answer an executed command. Where its effect has taken the device into KEEP, no reply is queued (R331, R332). -/
def State.answer (s : State) (l : Link) (c : Cmd) (r : Reply) : State :=
  if s.serves l then (s.reply l c.asked true false r).afterAnswer l r.status else s

/-- The world of a command. -/
def Cmd.world (c : Cmd) : World := if c.asked.world = 1 then .secure else .nonSecure

/-! ### Group 0x00 -/

/-- HELLO's reply data. -/
def State.helloData (s : State) : List Byte :=
  leBytes 2 1 ++ leBytes 2 4096 ++ leBytes 8 Config.uniqueId.toNat ++ leBytes 1 (s.get F.SYS_BOOT_SLOT) ++ leBytes 1 s.mode.code ++
    leBytes 1 (s.get F.SYS_BOOT_CAUSE) ++ zeros 1 ++ leBytes 4 s.runVersion

/-- HELLO (R329, R342). DEDUCED: log entry 48. -/
def State.doHello (s : State) (l : Link) (c : Cmd) : State :=
  if fieldLe c.payload 0 2 ≠ 1 then s.answer l c (Reply.invalid 0)
  else
    let t := (s.closeSession l 1).modLink l (fun k => { k with hello := true, last := c.asked.seq, history := [] })
    let r : Reply := match t.cfg.fwAborted with
      | some slot => { status := Status.installAborted, detail := slot, data := t.helloData }
      | none => { data := t.helloData }
    { t with cfg := { t.cfg with fwAborted := none } }.answer l c r

/-- SYNC (R327, R329). -/
def State.doSync (s : State) (l : Link) (c : Cmd) : State :=
  let k := s.link l
  let b := s.stateBlock l
  let held := if k.hello then k.last.toNat else 0
  s.answer l c { detail := if k.hello then 0 else 2 ^ 31,
                 data := leBytes 2 held ++ leBytes 2 (k.nextReply - 1).toNat ++ leBytes 2 (s.oldestHeld l).toNat ++
                   leBytes 2 k.lastAck.toNat ++ leBytes 4 (crc32c b).toNat ++ b }

/-- The held replies that REPLAY sends: COUNT of them from FIRST, or from the oldest when FIRST is older. -/
def replayed (h : List HistEntry) (first : BitVec 16) (count : Nat) : List HistEntry :=
  let start := match h with
    | e :: _ => if newer 16 e.replySeq.toNat first.toNat then e.replySeq else first
    | [] => first
  h.filter (fun e => (e.replySeq - start).toNat < count)

/-- REPLAY (R329). DEDUCED: log entry 50. -/
def State.doReplay (s : State) (l : Link) (c : Cmd) : State :=
  let first := BitVec.ofNat 16 (fieldLe c.payload 0 2)
  let count := byteAt c.payload 2
  if count = 0 ∨ 64 < count then s.answer l c (Reply.invalid 2)
  else if newer 16 first.toNat ((s.link l).nextReply - 1).toNat then s.answer l c (Reply.invalid 0)
  else
    let es := replayed (s.link l).history first count
    let t := es.foldl (fun u e => u.sendEntry l e true) s
    t.answer l c { data := leBytes 1 es.length ++ zeros 1 ++ leBytes 2 (s.oldestHeld l).toNat }

/-- OP_STATUS (R336). -/
def State.doOpStatus (s : State) (l : Link) (c : Cmd) : State :=
  let o := s.stew.longOp
  let d := leBytes 2 o.asked.opcode ++ leBytes 2 o.asked.seq.toNat ++ leBytes 1 o.state ++ zeros 3 ++ leBytes 2 o.status ++ zeros 2 ++
    leBytes 4 o.detail
  s.answer l c { data := d }

/-- A host session key (R360): no slot counts as written until PROVISIONED. -/
def State.sessionKey (s : State) (slot : Nat) : Option (List Byte) :=
  if s.otp.provisioned then nth s.otp.keySlots slot none else none

/-- SESSION_OPEN (R335, R360). DESIGN CHOICE: log entry 37. DEDUCED: log entry 48. -/
def State.doSessionOpen (s : State) (l : Link) (c : Cmd) : State :=
  if (s.link l).blockedAt.isSome then s.answer l c { status := Status.busy }
  else match s.sessionKey (byteAt c.payload 0) with
    | none => s.answer l c { status := Status.authFail }
    | some key =>
      let nd := (List.range 16).map (fun i => Config.nonce s.draws i)
      let salt := (c.payload.drop 4).take 16 ++ nd
      let ks := hmac256 key (ascii "ITSAR-SES" ++ salt)
      let t := (s.drawn.closeSession l 1).modLink l (fun k => { k with session := some { ks := ks, touched := s.count } })
      ((t.emit 0xFC).logSession l 0).answer l c { data := nd ++ (hmac256 key (ascii "ITSAR-DEV" ++ salt)).take 16 }

/-- SESSION_CLOSE (R335): its reply carries the closing session's tag. -/
def State.doSessionClose (s : State) (l : Link) (c : Cmd) : State := (s.answer l c {}).closeSession l 1

/-- The divisor of SYN0's 400 MHz for a requested rate, and the rate it gives in whole baud: the nearest, as in
the worked rate of R401, the spec leaving only a rate that lies halfway (R322). DESIGN CHOICE: log entry 40. -/
def baudDivisor (baud : Nat) : Nat := (800000000 + baud) / (2 * baud)
def baudRate (baud : Nat) : Nat :=
  let d := baudDivisor baud
  let r := 400000000 % d
  400000000 / d + bit1 (d < 2 * r || (2 * r == d && Config.baudUp baud))

/-- PORT_SET (R322). -/
def State.doPortSet (s : State) (l : Link) (c : Cmd) : State :=
  let baud := fieldLe c.payload 0 4
  if baud < 9600 ∨ 3000000 < baud then s.answer l c (Reply.invalid 0)
  else
    let t := { s with stew := { s.stew with baudNext := some (baudRate baud, l, (s.link l).nextReply) } }
    t.answer l c { data := leBytes 4 (baudRate baud) }

/-! ### Group 0x01 -/

/-- Read `n` words from an address up: the state, the words in reverse, and the address that was refused. -/
def readRun (w : World) : Nat → Nat → State → List Word → State × List Word × Option Nat
  | 0, _, s, acc => (s, acc, none)
  | n + 1, a, s, acc =>
    match (s.takePort a).busRead .steward w a with
    | (t, v, .written) => readRun w n (a + 4) t (v :: acc)
    | (t, _, _) => (t, acc, some a)

/-- REG_READ (R7, R345). -/
def State.doRegRead (s : State) (l : Link) (c : Cmd) : State :=
  let a := fieldLe c.payload 0 4
  let n := fieldLe c.payload 4 2
  if a % 4 ≠ 0 then s.answer l c (Reply.invalid 0)
  else if n = 0 ∨ 1022 < n then s.answer l c (Reply.invalid 4)
  else if (List.range n).any (fun i => regionOf (a + 4 * i) == .none) then s.answer l c (Reply.invalid 0)
  else match readRun c.world n a s [] with
    | (t, ws, none) => t.answer l c { data := wordsLe ws.reverse }
    | (t, _, some x) => t.answer l c { status := Status.worldDenied, detail := x }

/-- One pair of REG_WRITE as a bus write; an unaligned register address is unlisted. -/
def State.writePair (s : State) (w : World) (a : Nat) (v : Word) : State × WriteResult :=
  if regionOf a = .block ∧ a % 4 ≠ 0 then s.busReg .steward w a v (fun t _ => t) else s.busWrite .steward w a v 15

/-- The pairs of a REG_WRITE in order: the state, the result bytes in reverse, and the refusal that stopped it (R337). -/
def writeRun (w : World) : List (Nat × Word) → State → List Nat → State × List Nat × Option Reply
  | [], s, acc => (s, acc, none)
  | (a, v) :: rest, s, acc =>
    match (s.takePort a).writePair w a v with
    | (t, .written) => writeRun w rest t (0 :: acc)
    | (t, .locked) => writeRun w rest t (1 :: acc)
    | (t, .unlisted) => writeRun w rest t (2 :: acc)
    | (t, .mode) => (t, acc, some { status := Status.modeConflict, detail := t.modeDetail a })
    | (t, _) => (t, acc, some { status := Status.worldDenied, detail := a })

/-- The pairs in a REG_WRITE payload. -/
def writePairs (p : List Byte) : List (Nat × Word) :=
  (List.range (fieldLe p 0 2)).map (fun i => (fieldLe p (4 + 8 * i) 4, BitVec.ofNat 32 (fieldLe p (8 + 8 * i) 4)))

/-- REG_WRITE (R337). -/
def State.doRegWrite (s : State) (l : Link) (c : Cmd) : State :=
  let n := fieldLe c.payload 0 2
  if n = 0 ∨ 511 < n then s.answer l c (Reply.invalid 0)
  else s.policyAfter (fun s =>
    match writeRun c.world (writePairs c.payload) s [] with
    | (t, _, some r) => t.answer l c r
    | (t, rs, none) => t.answer l c { detail := (rs.filter (· != 0)).length, data := rs.reverse.map (BitVec.ofNat 8) })

/-! ### Group 0x02 -/

/-- STATUS (R330, R333). -/
def State.doStatus (s : State) (l : Link) (c : Cmd) : State :=
  let k := s.link l
  let b := s.stateBlock l
  s.answer l c { data := b ++ leBytes 2 k.last.toNat ++ leBytes 2 (k.nextReply - 1).toNat ++ leBytes 4 (crc32c b).toNat }

/-- The mode that MODE_SET names. -/
def setMode (code : Nat) : Option Mode :=
  match code with
  | 2 => some .ready
  | 3 => some .run
  | 5 => some .service
  | _ => none

/-- MODE_SET (R375, R376). -/
def State.doModeSet (s : State) (l : Link) (c : Cmd) : State :=
  match setMode (byteAt c.payload 0) with
  | none => s.answer l c (Reply.invalid 0)
  | some m =>
    if s.modeRefused m then s.answer l c s.conflict
    else
      let t := s.modeSet m
      t.answer l c { data := leBytes 1 t.mode.code ++ zeros 3 }

/-- LTR_SET (R379): its reply is queued before the policy's drop. DEDUCED: log entry 50. -/
def State.doLtrSet (s : State) (l : Link) (c : Cmd) : State :=
  let t := s.storePlain R.SYS_LTR (BitVec.ofNat 32 (fieldLe c.payload 0 4))
  (t.answer l c { data := leBytes 1 t.policyTarget.code ++ leBytes 1 t.vetoes ++ zeros 2 }).policy

/-- RESET (R384): it takes effect 1 ms after its reply is queued. -/
def State.doReset (s : State) (l : Link) (c : Cmd) : State :=
  if byteAt c.payload 0 ≠ 0 then s.answer l c (Reply.invalid 0)
  else (s.answer l c {}).modSys (fun x => { x with resetDue := some (s.count + 400000) })

/-- The COMMAND reset that a RESET asked for. -/
def State.commandReset (s : State) : State :=
  match s.sys.resetDue with
  | some t => if s.due t then s.systemReset 3 else s
  | none => s

/-! ### Group 0x06 -/

/-- SEQ of the oldest record that the log holds. -/
def State.logOldest (s : State) : Word := s.stew.logNext - BitVec.ofNat 32 s.stew.logHeld

/-- Up to `n` whole records of the log from a SEQ, or from the oldest. -/
def State.logFrom (s : State) (first : Word) (n : Nat) : List (List Byte) :=
  let start := if newer 32 s.logOldest.toNat first.toNat then s.logOldest else first
  let left := if newer 32 s.stew.logNext.toNat start.toNat then (s.stew.logNext - start).toNat else 0
  let recs := (List.range (min left 4096)).map (fun i => s.mramRead (logOffset (start + BitVec.ofNat 32 i)) 32)
  (recs.filter logWhole).take n

/-- LOG_READ (R339). DEDUCED: log entry 50. -/
def State.doLogRead (s : State) (l : Link) (c : Cmd) : State :=
  let first := BitVec.ofNat 32 (fieldLe c.payload 0 4)
  let n := fieldLe c.payload 4 2
  if n = 0 ∨ 127 < n then s.answer l c (Reply.invalid 4)
  else
    let rs := s.logFrom first n
    let from_ := match rs with
      | r :: _ => fieldLe r 0 4
      | [] => first.toNat
    (s.mramMeet 0x490000 0x20000).answer l c { data := leBytes 4 from_ ++ leBytes 2 rs.length ++ zeros 2 ++ rs.flatten }

/-- LOG_INFO (R339). -/
def State.doLogInfo (s : State) (l : Link) (c : Cmd) : State :=
  let d := leBytes 4 s.logOldest.toNat ++ leBytes 4 (s.stew.logNext - 1).toNat ++ leBytes 2 s.stew.logDiscarded ++
    leBytes 2 s.stew.crier.drops
  s.answer l c { data := d }

/-- CRIER_SET (R340). -/
def State.doCrierSet (s : State) (l : Link) (c : Cmd) : State :=
  let link := byteAt c.payload 0
  let period := fieldLe c.payload 2 2
  if 2 < link then s.answer l c (Reply.invalid 0)
  else if period < 10 ∨ 60000 < period then s.answer l c (Reply.invalid 2)
  else
    let t := { s with stew := { s.stew with crier := { s.stew.crier with
      link := link, mask := BitVec.ofNat 8 (byteAt c.payload 1), period := period, nextAt := s.count + period * 400000 } } }
    t.answer l c {}

/-- ATTN_READ (R341): the word before the latched bits of the mask clear. DEDUCED: log entry 49. -/
def State.doAttnRead (s : State) (l : Link) (c : Cmd) : State :=
  let m := BitVec.ofNat 8 (byteAt c.payload 0)
  let w := s.attnWord l
  (s.modLink l (fun k => { k with attn := k.attn &&& ~~~ m })).answer l c { data := leBytes 1 w.toNat ++ zeros 3 }

/-- ATTN_MASK (R341): the mask and the log threshold of the link. DEDUCED: log entry 49. -/
def State.doAttnMask (s : State) (l : Link) (c : Cmd) : State :=
  (s.modLink l (fun k => { k with mask := BitVec.ofNat 8 (byteAt c.payload 0), threshold := byteAt c.payload 1 })).answer l c {}

/-! ### The Crier (R340) -/

/-- An item of a telemetry packet. -/
def item (type : Nat) (b : List Byte) : List Byte := leBytes 1 type ++ leBytes 1 (b.length / 4) ++ zeros 2 ++ b

/-- Bytes of registers. -/
def State.regBytes (s : State) (l : List Nat) : List Byte := (l.map (fun a => leBytes 4 (s.shown a).toNat)).flatten

/-- The items that the mask asks for, in the order of their types. -/
def State.telemetry (s : State) (l : Link) : List Byte :=
  let on := fun (i : Nat) (b : List Byte) => if s.stew.crier.mask.getLsbD i then item (i + 1) b else []
  let b := s.stateBlock l
  let meters := (List.range 4).filter (fun m => s.bit R.GRN_CTRL m)
  let dcs := (List.range 4).filter (fun m => s.bit R.GRN_CTRL (4 + m))
  let sets := (List.range 4).filter (fun k => s.bit R.WVN_CTRL k)
  on 0 (b ++ leBytes 4 (crc32c b).toNat) ++ on 1 (s.logFrom s.stew.crier.logFrom 16).flatten ++
    on 2 (s.regBytes ((meters.map (fun m => (List.range 8).map (fun n => R.GRN_ACm_LIVEn m n))).flatten ++
      dcs.map (fun m => R.GRN_DCm_PMAX m))) ++
    on 3 (s.regBytes ((sets.map (fun k => (List.range 24).map (fun n => R.WVN_Ls_n k n))).flatten)) ++
    on 4 (s.regBytes [R.RING_STAT, R.RING_ERR, R.RING_THETA, R.RING_ROUND]) ++
    on 5 (s.regBytes [R.TST_VOID_STAT, R.TST_VOID_CNT, R.TST_VOID_FIRST, R.TST_VOID_LAST]) ++
    on 6 (leBytes 4 (s.attnWord l).toNat)

/-- The telemetry packet of a link. -/
def State.telemetryPacket (s : State) (l : Link) : List Byte :=
  let p := s.telemetry l
  withCrc (headerBytes 3 0 (8 * bit1 (s.attention l)) 0 (s.link l).telSeq.toNat 0 p.length 0 ++ p)

/-- SEQ after the newest record among some, for the next LOG item. -/
def State.logCarried (s : State) : Word :=
  match (s.logFrom s.stew.crier.logFrom 16).getLast? with
  | some r => BitVec.ofNat 32 (fieldLe r 0 4 + 1)
  | none => s.stew.crier.logFrom

/-- The Crier's period ends: a packet is queued, or dropped with event 0xFE when the queue is full; either takes its SEQ (R42,
R340). -/
def State.crierSend (s : State) : State :=
  let k := s.stew.crier
  if s.sys.phase = .run ∧ k.link < 2 ∧ s.due k.nextAt then
    let l : Link := if k.link = 0 then .spi else .uart
    let t := s.modLink l (fun x => { x with telSeq := x.telSeq + 1 })
    let next := fun (u : State) (f : Crier → Crier) =>
      { u with stew := { u.stew with crier := f { u.stew.crier with nextAt := k.nextAt + k.period * 400000 } } }
    if 8 ≤ (s.link l).tx.length then (next t (fun x => { x with drops := min 65535 (x.drops + 1) })).emit 0xFE
    else
      let log := if k.mask.getLsbD 1 then s.logCarried else k.logFrom
      next (t.queueTx l (fun q => q ++ [⟨s.telemetryPacket l, true, false⟩])) (fun x => { x with logFrom := log })
  else s

/-! ### The ports -/

/-- The bytes that an SPI READ of `n` bytes returns (R321). -/
def State.spiBytes (s : State) (n : Nat) : List Byte :=
  let b := match s.txNext .spi with
    | some p => p.bytes
    | none => []
  (b ++ zeros n).take n

/-- An SPI READ: a packet whose last byte is delivered leaves the queue (R321). -/
def State.spiRead (s : State) (n : Nat) : State :=
  match s.txNext .spi with
  | some p => if s.serves .spi ∧ p.bytes.length ≤ n then s.txGone .spi else s
  | none => s

/-- The word of an SPI STATUS (R321). -/
def State.spiStatusWord (s : State) : Word :=
  let n := match s.txNext .spi with
    | some p => p.bytes.length
    | none => 0
  BitVec.ofNat 32 (bit1 (s.serves .spi && !s.rxFull .spi) + 2 * bit1 (s.txNext .spi).isSome + 4 * bit1 (s.attention .spi) + 65536 * n)

/-- The bytes of the UART's oldest packet. -/
def State.uartOldest (s : State) : Nat :=
  match (s.link .uart).tx with
  | p :: _ => p.bytes.length
  | [] => 0

/-- The UART has sent its oldest packet (R323). -/
def State.uartSent (s : State) : State :=
  if s.serves .uart && !s.fifoHeld then s.txGone .uart else s

/-- The PORT_SET reply still waits in its link's queue. -/
def State.portReplyWaits (s : State) (l : Link) (seq : BitVec 16) : Bool :=
  ((s.link l).tx ++ (s.link l).later).any (fun p => !p.telemetry && fieldLe p.bytes 6 2 == seq.toNat)

/-- A new UART rate takes effect once the PORT_SET reply has left its port (R322). -/
def State.baudChange (s : State) : State :=
  match s.stew.baudNext with
  | some (b, l, q) => if s.portReplyWaits l q then s else { s with stew := { s.stew with baud := b, baudNext := none } }
  | none => s

/-- 600 s without a tagged command (R335). DEDUCED: log entry 59. -/
def State.sessionTimeout (s : State) (l : Link) : State :=
  match (s.link l).session with
  | some x => if s.due (x.touched + 600 * 400000000) then s.closeSession l 1 else s
  | none => s

/-- 1 s after the third AUTH_FAIL answer (R335). -/
def State.sessionBlockEnd (s : State) (l : Link) : State :=
  match (s.link l).blockedAt with
  | some t => if s.due (t + 400000000) then s.modLink l (fun k => { k with blockedAt := none }) else s
  | none => s

end Sys2Proof.Machine
end

