-- ==== Sys2Proof/Machine/HostConfig.lean ====
section
/-! DEFINITION. Machine/HostConfig.lean: what the commands of groups 0x03 and 0x04 do: the staged configuration image, its commit in two
phases, the Mill program, the data-memory image and the coefficient banks (R139, R140, R146 to R148, R338). -/

namespace Sys2Proof.Machine

/-- A long command is answered ACCEPTED and runs (R336). -/
def State.accept (s : State) (l : Link) (c : Cmd) : State := (s.longBegin l c).answer l c { status := Status.accepted }

/-- The next configuration generation (R338). -/
def State.nextGen (s : State) : Nat := (s.cfg.gen + 1) % 2 ^ 32

/-! ### Staging (R338) -/

/-- CFG_WRITE. -/
def State.doCfgWrite (s : State) (l : Link) (c : Cmd) : State :=
  let o := fieldLe c.payload 0 4
  let b := c.payload.drop 4
  if 131072 < o + b.length then s.answer l c (Reply.invalid 0)
  else { s with stew := { s.stew with
    cfgStage := memSetBytes s.stew.cfgStage o b, cfgLen := if b = [] then s.stew.cfgLen else max s.stew.cfgLen (o + b.length) } }.answer l c {}

/-- CFG_ABORT. -/
def State.doCfgAbort (s : State) (l : Link) (c : Cmd) : State :=
  { s with stew := { s.stew with cfgStage := [], cfgLen := 0 } }.answer l c {}

/-- The phase that CFG_INFO reports. DEDUCED: log entry 51. -/
def State.commitPhase (s : State) : Nat := if genOps.contains s.longOpcode then s.stew.longOp.phase else 0

/-- CFG_INFO. -/
def State.doCfgInfo (s : State) (l : Link) (c : Cmd) : State :=
  let n := s.stew.cfgLen
  let d := leBytes 4 s.cfg.gen ++ leBytes 4 n ++ leBytes 4 (crc32c (memBytes s.stew.cfgStage 0 (n - 4))).toNat ++ leBytes 1 s.commitPhase ++
    zeros 3
  s.answer l c { data := d }

/-- The live image. -/
def State.liveImage (s : State) : List Byte := if s.cfg.gen = 0 then [] else s.mramRead (slotBase s.cfg.slot) s.cfg.len

/-- CFG_READ. -/
def State.doCfgRead (s : State) (l : Link) (c : Cmd) : State :=
  let o := fieldLe c.payload 0 4
  let n := fieldLe c.payload 4 2
  if n = 0 ∨ 4088 < n then s.answer l c (Reply.invalid 4)
  else if s.liveImage.length < o + n then s.answer l c (Reply.invalid 0)
  else (s.mramMeet (slotBase s.cfg.slot) s.cfg.len).answer l c { data := (s.liveImage.drop o).take n }

/-! ### Phase one (R338) -/

/-- The first record that does not follow the form: word-aligned addresses of blocks in rising order, one record each.
DEDUCED: log entry 51. -/
def badRecord : Nat → Nat → List Record → Option Nat
  | _, _, [] => none
  | k, lo, r :: rest => if r.1 < lo ∨ r.1 % 4 ≠ 0 ∨ regionOf r.1 ≠ .block then some k else badRecord (k + 1) (r.1 + 4) rest

/-- DETAIL of the first fault of a staged image of `len` bytes, against the command's length and CRC. DEDUCED: log entry 51. -/
def imageFault (img : List Byte) (len crc : Nat) : Option Nat :=
  if fieldLe img 0 4 ≠ 0x49464743 then some 0
  else if len < 36 ∨ 131072 < len ∨ fieldLe img 8 4 ≠ len then some 8
  else if imageCrc img ≠ fieldLe img (len - 4) 4 ∨ imageCrc img ≠ crc then some ((len - 4) % 65536)
  else if 36 + 8 * fieldLe img 20 4 ≠ len then some 20
  else (badRecord 0 0 (recordsOf img (fieldLe img 20 4))).map (fun k => (32 + 8 * k) % 65536 + 65536 * k)

/-- A listed register that the command's world may not write (R362). -/
def State.worldConflict (s : State) (w : World) (recs : List Record) : Option Nat :=
  (recs.find? (fun r => match regRow? r.1 with
    | some row => s.worldDenies w row r.1 r.2
    | none => w == .nonSecure && s.blockSecure r.1)).map (·.1)

/-- MODE_CONFLICT for a register. -/
def State.registerConflict (s : State) (a : Nat) : Reply := { status := Status.modeConflict, detail := s.modeDetail a }

/-- Locks, worlds, and the mode and state rules, in that order; `listed` are the records that the command's own image lists. -/
def State.changeRefusal (s : State) (w : World) (listed recs : List Record) : Option Reply :=
  let ch := s.changesOf recs s.clk.ramp.running
  match s.lockConflict ch, s.worldConflict w listed, s.rulesRefuse ch with
  | some a, _, _ => some (s.registerConflict a)
  | none, some a, _ => some { status := Status.worldDenied, detail := a }
  | none, none, some a => some (s.registerConflict a)
  | none, none, none => none

/-- Admission of a candidate against the verdict that came with it; a difference and a refusal are logged (R49, R50). -/
def State.admitImage (s cand : State) (claimed gen : Nat) : State × Nat :=
  let v := s.verdict cand
  let t := if claimed ≠ 0xFFFFFFFF ∧ claimed ≠ v then s.log 0x0005 0xFF .warn (leBytes 4 claimed ++ leBytes 4 v) else s
  (if v = 0 then t else t.log 0x0004 0xFF .warn (leBytes 4 v ++ leBytes 4 gen), v)

/-- Phase one for records and a candidate, with its end on a refusal; else the image and what belongs to it go into the idle slot.
DEDUCED: log entry 51. DEDUCED: log entry 63. -/
def State.phaseOne (s : State) (w : World) (listed recs : List Record) (cand : State) (claimed gen : Nat) (x : SlotContent) : State :=
  match s.changeRefusal w listed recs with
  | some r => s.longEnd r.status r.detail
  | none =>
    match s.admitImage cand claimed gen with
    | (t, 0) => (t.writeSlot t.idleSlot x).modLong (fun o => { o with phase := 2, keepTrim := s.clk.ramp.running })
    | (t, v) => t.longEnd Status.admissionFail v

/-- CFG_COMMIT's phase one (R338). DEDUCED: log entry 51. -/
def State.cfgPhaseOne (s : State) (c : Cmd) : State :=
  let gen := fieldLe c.payload 0 4
  let len := fieldLe c.payload 4 4
  let img := memBytes s.stew.cfgStage 0 (min len 131072)
  match imageFault img len (fieldLe c.payload 8 4) with
  | some d => s.longEnd Status.invalidParam d
  | none =>
    if fieldLe img 4 4 ≠ gen ∨ gen ≠ s.nextGen then s.longEnd Status.invalidParam 4
    else
      let recs := recordsOf img (fieldLe img 20 4)
      s.phaseOne c.world recs recs (s.candidateOf (s.changesOf recs s.clk.ramp.running)) (fieldLe img 16 4) gen { s.liveContent with image := img }

/-- CFG_COMMIT. -/
def State.doCfgCommit (s : State) (l : Link) (c : Cmd) : State := (s.accept l c).cfgPhaseOne c

/-! ### Phase two (R338) -/

/-- A generation-making operation may still complete: the locks and its mode and state rules are judged again (R5). -/
def State.phaseTwoRefusal (s : State) (modes : List Mode) (recs : List Record) : Option Reply :=
  let ch := s.changesOf recs s.stew.longOp.keepTrim
  if !modes.contains s.mode then some s.conflict
  else match s.lockConflict ch, s.rulesRefuse ch with
    | some a, _ => some (s.registerConflict a)
    | none, some a => some (s.registerConflict a)
    | none, none => none

/-- The image that phase one has written into the idle slot, of a length. DESIGN CHOICE: log entry 34. -/
def State.slotImage (s : State) (len : Nat) : List Byte := s.mramRead (slotBase s.idleSlot) len

/-- CFG_COMMIT's phase two: the generation is live, and the image waits for the instant of R70. DEDUCED: log entry 51. -/
def State.cfgPhaseTwo (s : State) : State :=
  if s.longRuns 0x0302 ∧ s.stew.longOp.phase = 2 ∧ s.cfg.waiting = none then
    let p := s.stew.longOp.payload
    let img := s.slotImage (fieldLe p 4 4)
    let recs := recordsOf img (fieldLe img 20 4)
    match s.phaseTwoRefusal [.ready, .run, .service] recs with
    | some r => s.longEnd r.status r.detail
    | none =>
      let t := s.makeLive (fieldLe p 0 4) img s.cfg.progLen
      { t with cfg := { t.cfg with waiting := some ⟨recs, fieldLe img 12 4 % 2 == 1, s.stew.longOp.keepTrim⟩, valleySeen := false }
               stew := { t.stew with cfgLen := 0 } }
  else s

/-- The instant of R70; an image that has applied ends its CFG_COMMIT (R70, R338). -/
def State.syncAndReply (s : State) : State :=
  let t := s.configSync
  if s.cfg.waiting.isSome ∧ t.cfg.waiting.isNone ∧ t.longRuns 0x0302 then t.longEnd Status.ok t.cfg.gen else t

/-! ### The Mill program (R148) -/

/-- PROG_WRITE. -/
def State.doProgWrite (s : State) (l : Link) (c : Cmd) : State :=
  let o := fieldLe c.payload 0 2
  let n := fieldLe c.payload 2 2
  if n = 0 ∨ 255 < n then s.answer l c (Reply.invalid 2)
  else if 4096 < o + n then s.answer l c (Reply.invalid 0)
  else { s with stew := { s.stew with progImage := memSetBytes s.stew.progImage (16 * o) (c.payload.drop 4) } }.answer l c {}

/-- The words of a payload from an offset. -/
def payloadWords (p : List Byte) (o n : Nat) : List Word := (List.range n).map (fun i => BitVec.ofNat 32 (fieldLe p (o + 4 * i) 4))

/-- DMEM_IMAGE_WRITE. -/
def State.doDmemWrite (s : State) (l : Link) (c : Cmd) : State :=
  let o := fieldLe c.payload 0 2
  let n := fieldLe c.payload 2 2
  if n = 0 ∨ 1022 < n then s.answer l c (Reply.invalid 2)
  else if 8192 < o + n then s.answer l c (Reply.invalid 0)
  else { s with stew := { s.stew with dmemImage := wordSetAll s.stew.dmemImage o (payloadWords c.payload 4 n) } }.answer l c {}

/-- Some lane of a bundle carries a reserved OP code (R126). DEDUCED: log entry 52. -/
def reservedOp (b : BitVec 128) : Bool := (List.range 4).any (fun ln => 0x25 ≤ b.toNat / 2 ^ (32 * ln + 26) % 64)

/-- The MILL records of an intact staged image. -/
def State.stagedMill (s : State) : List Record :=
  let img := memBytes s.stew.cfgStage 0 (min (fieldLe (memBytes s.stew.cfgStage 8 4) 0 4) 131072)
  if imageFault img img.length (imageCrc img) = none then
    (recordsOf img (fieldLe img 20 4)).filter (fun r => blockIndex r.1 == 5)
  else []

/-- The records that a PROG_COMMIT takes: the live ones, with the staged MILL records in place of theirs when there are any. -/
def State.progRecords (s : State) : List Record :=
  let live := recordsOf s.liveImage (fieldLe s.liveImage 20 4)
  if s.stagedMill = [] then live else sortByKey (·.1) (live.filter (fun r => blockIndex r.1 != 5) ++ s.stagedMill)

/-- The words of the program image and of the initial image that a PROG_COMMIT carries, as bytes. -/
def State.progBytes (s : State) (nb nw : Nat) : List Byte :=
  memBytes s.stew.progImage 0 (16 * nb) ++ wordsLe ((List.range nw).map (wordGet s.stew.dmemImage))

/-- PROG_COMMIT's phase one. DEDUCED: log entry 52. -/
def State.progPhaseOne (s : State) (c : Cmd) : State :=
  let p := c.payload
  let gen := fieldLe p 0 4
  let nb := fieldLe p 4 2
  let nw := fieldLe p 6 2
  let prog := bundlesIn s.stew.progImage 0 nb
  if (crc32c (s.progBytes nb nw)).toNat ≠ fieldLe p 12 4 then s.longEnd Status.invalidParam 12
  else match prog.find? (fun b => reservedOp b.2) with
    | some b => s.longEnd Status.invalidParam (4 + 65536 * b.1)
    | none =>
      if gen ≠ s.nextGen then s.longEnd Status.invalidParam 0
      else
        let recs := s.progRecords
        let cand := (s.candidateOf (s.changesOf recs s.clk.ramp.running)).modMill (fun m => { m with prog := prog })
        let x := s.liveContent
        let x := { x with image := imageOf gen (byteAt p 8 % 2 == 1) 0xFFFFFFFF recs, prog := prog,
                          dmem := if nw = 0 then x.dmem else s.stew.dmemImage.filter (fun w => w.1 < nw) }
        let t := s.phaseOne c.world s.stagedMill recs cand 0xFFFFFFFF gen x
        if t.longRuns 0x0402 then t.modMill (fun m => { m with halted := true }) else t

/-- PROG_COMMIT (R147, R148). -/
def State.doProgCommit (s : State) (l : Link) (c : Cmd) : State :=
  let nb := fieldLe c.payload 4 2
  if s.mode ≠ .ready ∧ s.mode ≠ .service then s.answer l c s.conflict
  else if nb = 0 ∨ 4096 < nb then s.answer l c (Reply.invalid 4)
  else if 8192 < fieldLe c.payload 6 2 then s.answer l c (Reply.invalid 6)
  else (s.accept l c).progPhaseOne c

/-- Every task has stopped at its next frame start: none executes, and none stands in a frame of a running carrier.
DEDUCED: log entry 52. -/
def State.tasksStopped (s : State) : Bool :=
  s.mill.running.isNone && (List.range 8).all (fun t => !(s.task t).inFrame || s.carState (s.taskCar t) == 0)

/-- The length of the image that phase one of a PROG_COMMIT or COEF_WRITE has written, from its header. -/
def State.writtenImage (s : State) : List Byte := s.slotImage (fieldLe (s.slotImage 12) 8 4)

/-- A commit changes the Mill program, a task binding or the initial image, or its image carries REINIT: data memory is reloaded (R146). -/
def State.reloadsDmem (s : State) (ch : List Record) (prog : List (Nat × BitVec 128)) (reinit : Bool) : Bool :=
  reinit || s.cfg.gen == 0 || prog != s.mill.prog || (List.range 8).any (fun t => ch.any (fun r => r.1 == R.MILL_TASKt_BIND t)) ||
    wordsIn s.mem.mram (slotDmem s.cfg.slot) 8192 != wordsIn s.mem.mram (slotDmem s.idleSlot) 8192

/-- PROG_COMMIT's phase two: the record, the copy, the reload, and the tasks go on at their next frame starts. DEDUCED: log entry 52. -/
def State.progPhaseTwo (s : State) : State :=
  if s.longRuns 0x0402 ∧ s.stew.longOp.phase = 2 ∧ s.tasksStopped then
    let p := s.stew.longOp.payload
    let img := s.writtenImage
    let recs := recordsOf img (fieldLe img 20 4)
    let go := s.modMill (fun m => { m with halted := false })
    match s.phaseTwoRefusal [.ready, .service] recs with
    | some r => go.longEnd r.status r.detail
    | none =>
      let prog := bundlesIn s.mem.mram (slotProg s.idleSlot) 4096
      let t := go.makeLive (fieldLe p 0 4) img (fieldLe p 4 2)
      let ch := t.changesOf recs (s.stew.longOp.keepTrim || s.trimKept recs)
      let t := (t.modMill (fun m => { m with
        prog := prog, correctable := m.correctable.filter (fun k => dmemWord 0 ≤ k) })).applyChanges ch
      let t := if s.reloadsDmem ch prog (byteAt p 8 % 2 == 1) then t.dmemReload else t
      t.longEnd Status.ok t.cfg.gen
  else s

/-! ### Coefficient banks (R139, R140) -/

/-- An enabled task has the bank active. -/
def State.bankActive (s : State) (bank : Nat) : Bool :=
  (List.range 8).any (fun t => s.on (F.MILL_TASKt_BIND_EN t) && s.get (F.MILL_TASKt_STAT_BANK t) == bank)

/-- Words written into a bank. -/
def Mill.setBank (m : Mill) (bank o : Nat) (ws : List Word) : Mill :=
  if bank = 0 then { m with bankA := wordSetAll m.bankA o ws } else { m with bankB := wordSetAll m.bankB o ws }

/-- The bank, offset and words of a COEF_WRITE. -/
def coefOf (p : List Byte) : Nat × Nat × List Word := (byteAt p 0, fieldLe p 2 2, payloadWords p 8 (fieldLe p 4 2))

/-- COEF_WRITE's phase one: admission of the live configuration with the new words, and the image with them. -/
def State.coefPhaseOne (s : State) (c : Cmd) : State :=
  let (bank, o, ws) := coefOf c.payload
  let cand := s.modMill (fun m => m.setBank bank o ws)
  let recs := recordsOf s.liveImage (fieldLe s.liveImage 20 4)
  let x := s.liveContent
  let x := { x with image := imageOf s.nextGen (fieldLe x.image 12 4 % 2 == 1) 0xFFFFFFFF recs,
                    bankA := cand.mill.bankA, bankB := cand.mill.bankB }
  match s.admitImage cand 0xFFFFFFFF s.nextGen with
  | (t, 0) => (t.writeSlot t.idleSlot x).modLong (fun y => { y with phase := 2 })
  | (t, v) => t.longEnd Status.admissionFail v

/-- COEF_WRITE (R140). -/
def State.doCoefWrite (s : State) (l : Link) (c : Cmd) : State :=
  let (bank, o, _) := coefOf c.payload
  let n := fieldLe c.payload 4 2
  if 1 < bank then s.answer l c (Reply.invalid 0)
  else if n = 0 ∨ 1022 < n then s.answer l c (Reply.invalid 4)
  else if 2048 < o + n then s.answer l c (Reply.invalid 2)
  else if s.bankActive bank then s.answer l c { status := Status.busy }
  else (s.accept l c).coefPhaseOne c

/-- COEF_WRITE's phase two (R140). -/
def State.coefPhaseTwo (s : State) : State :=
  if s.longRuns 0x0404 ∧ s.stew.longOp.phase = 2 then
    let (bank, o, ws) := coefOf s.stew.longOp.payload
    if s.bankActive bank then s.longEnd Status.busy 0
    else if !([Mode.ready, .run, .service].contains s.mode) then s.longEnd Status.modeConflict s.mode.code
    else
      let t := s.makeLive s.nextGen s.writtenImage s.cfg.progLen
      (t.modMill (fun m => m.setBank bank o ws)).longEnd Status.ok t.cfg.gen
  else s

/-- BANK_SWAP (R139). -/
def State.doBankSwap (s : State) (l : Link) (c : Cmd) : State := (s.requestSwap (byteAt c.payload 0)).answer l c {}

/-- TASK_RESUME (R142, R147). -/
def State.doTaskResume (s : State) (l : Link) (c : Cmd) : State := (s.requestResume (byteAt c.payload 0)).answer l c {}

end Sys2Proof.Machine
end

