-- ==== Sys2Proof/Machine/Acquire.lean ====
section
/-! DEFINITION. Machine/Acquire.lean: the commands of acquisition and of the Prism (R64 to R89). -/

namespace Sys2Proof.Machine

/-- R64 to R67: `raw` is what each of the seventeen converters gives at its scheduled input, S00 first and SX last, in 1/16 LSB before
its match trim. -/
def execConversionSlot (raw : List Int) (s : State) : Out := .next (s.conversionSlot raw)

/-- The next value, once it has reached the intake: to the Prism, and to the Weathervane. Values of one slot come in ascending slice
order, so that a stalled one holds those behind it (R58, R67, R91). -/
def State.intakeArrival (s : State) : State :=
  match s.acq.flight with
  | v :: rest => if s.coreRuns && s.due v.due then ((s.modAcq (fun a => { a with flight := rest })).intake v).wvnTake v else s
  | [] => s

/-- R67, R74. -/
def execIntakeArrival (s : State) : Out := .next s.intakeArrival

/-- R74. -/
def execAcqDataRead (w : World) (n : Fin 16) (s : State) : Out := .next (s.read w (R.ACQ_DATAn n))

/-- R70: a write with 1 in ACQ_CTRL.EN. -/
def execAcqEnableWrite (w : World) (v : Word) (s : State) : Out := .next (s.write w R.ACQ_CTRL (v ||| 1))

/-- R70. -/
def execAcqStart (s : State) : Out := .next s.acqStart

/-- R70. -/
def execAcqStop (s : State) : Out := .next s.acqStop

/-- R70, with the final reply of the CFG_COMMIT whose image applies (R338). -/
def execConfigSyncInstant (s : State) : Out := .next s.syncAndReply

/-- R75. -/
def execAcqCalDone (s : State) : Out := .next s.acqCalDone

/-- R77, R79: `refOk` is SX's check against the reference, which decides after the last try. -/
def execSpareBlockEnd (refOk : Bool) (s : State) : Out := .next (s.blockEnd refOk)

/-- R78, R79: `ok` says that the slice's calibration is within limits. -/
def execSliceCalEnd (ok : Bool) (s : State) : Out := .next (s.sliceCalEnd ok)

/-- R78. -/
def execTrimDecay (n : Fin 16) (s : State) : Out := .next (s.trimDecay n)

/-- R76: `refOk` is the outcome of SX's check against the references. -/
def execSpareReferenceEnd (s : State) : Out := .next s.spareReferenceEnd

/-- R80: a write of ACQ_SPARE. -/
def execSpareRotationWrite (w : World) (v : Word) (s : State) : Out := .next (s.write w R.ACQ_SPARE v)

/-- R81. -/
def execWindowOpen (w : Fin 64) (s : State) : Out := .next (s.windowOpen w)

/-- R81. -/
def execWindowClose (w : Fin 64) (s : State) : Out := .next (s.windowClose w)

/-- R83 to R86. -/
def execWindowPublish (w : Fin 64) (s : State) : Out := .next (s.windowPublish w)

/-- R88: a write with 1 in PRISM_SNAP_CTRL.GO. -/
def execPrismSnapshot (w : World) (v : Word) (s : State) : Out := .next (s.write w R.PRISM_SNAP_CTRL (v ||| 0x100))

/-- R89. -/
def execStreamIntervalEnd (s : State) : Out := .next s.streamEnd

/-- The publication of the ended stream interval, when it is due: PRISM_STRDk, event 0x36, and the Granary's intake (R89, R226). -/
def State.streamsPublish (s : State) : State :=
  match s.prism.ended with
  | some e => if s.streamDue then s.streamPublish.grnTake e else s
  | none => s

/-- R89. -/
def execStreamPublish (s : State) : Out := .next s.streamsPublish

end Sys2Proof.Machine
end

