-- ==== Sys2Proof/Machine/Carrier.lean ====
section
/-! DEFINITION. Machine/Carrier.lean: the commands of the Loom: carriers, pulses, the interlock, trip lines, and releases (R167 to
R193). -/

namespace Sys2Proof.Machine

/-! ### Carriers (R168 to R172) -/

/-- Legs of which a committed change touches dead time, minimum pulse or policy lose their carries at the valley (R183).
DEDUCED: log entry 15. -/
def State.pendingCarries (s : State) (c : Nat) : State :=
  s.forAll 24 (fun l t => if touchesPart (s.car c).pendingCfg (R.LOOM_LEGl_CFG 0) 0x20 l then t.clearCarries l else t)

/-- What bound event `e` does at a valley of carrier `c`: the event, committed changes, the reload, the latches of the blocks bound to
the carrier, the round, and the frames (R94, R133, R168, R172, R178, R256, R268). -/
def State.valleyWork (s : State) (c e : Nat) : State :=
  let t := (s.modCar c (fun x => { x with events := e + 1, committed := false, peaked := false, valley := s.clk.count })).raise c
  let t := ((t.pendingCarries c).applyPending c).whenB ((s.car c).pendingCfg != []) (·.followLegs c)
  let t := t.whenB ((t.get (F.LOOM_CARc_RELOAD c)).testBit 0) (·.reload c)
  let t := ((t.wvnLatch c).shfValley c).ringValley c e
  let t := (t.frames c false e).rplCount' c
  if c = t.syncCar then t.syncValley else t

/-- The legs of a carrier that stops rest (R175). DEDUCED: log entry 67. -/
def State.carStops (s : State) (c : Nat) : State :=
  (s.put (F.LOOM_CSTATc_STATE c) 0).forAll 24 (fun l t => if t.legCar l = c then t.restLeg l true else t)

/-- A valley of a running carrier; a carrier whose EN is 0 stops there (R168, R170). DEDUCED: log entry 9. DEDUCED: log entry 16. -/
def State.carrierValley (s : State) (c : Nat) : State :=
  if s.carRunning c && decide (s.carPeriod c ≤ s.carElapsed c) then
    let t := s.valleyWork c (s.car c).events
    if t.on (F.LOOM_CARc_EN c) then t else t.carStops c
  else s

/-- A peak of a running carrier, once in each period; it has the number of the valley before it (R133, R168). DEDUCED: log entry 16. -/
def State.carrierPeak (s : State) (c : Nat) : State :=
  if s.carRunning c && !(s.car c).peaked && decide (s.carPeriod c ≤ 2 * s.carElapsed c) && decide (s.carElapsed c < s.carPeriod c) then
    let t := (s.modCar c (fun x => { x with peaked := true })).raise (8 + c)
    let t := t.whenB ((t.get (F.LOOM_CARc_RELOAD c)).testBit 1) (·.reload c)
    t.frames c true ((s.car c).events - 1)
  else s

/-- The commit instant of the running period (R135, R169). A peak of the same cycle reloads first: what a commit brings waits for the
reload after it (R15). -/
def State.carrierCommit (s : State) (c : Nat) : State :=
  let s := s.carrierPeak c
  if s.carRunning c && !(s.car c).committed && decide (s.commitCycle c ≤ s.carElapsed c) then
    ((s.modCar c (fun x => { x with committed := true })).raise (0x10 + c)).millCommit c
  else s

/-- A waiting carrier starts at its first valley, event 0; its windows begin afresh and its legs resume (R81, R170, R183, R192). -/
def State.carrierStart (s : State) (c : Nat) : State :=
  if s.coreRuns && s.carState c == 1 && decide ((s.car c).startAt.toNat ≤ s.count) && s.carPhaseHit c then
    let t := ((s.put (F.LOOM_CSTATc_STATE c) 2).abandonWindows c).valleyWork c 0
    t.forAll 24 (fun l u => if u.legCar l = c then u.resumeLeg l else u)
  else s

/-- R168. -/
def execCarrierValley (c : Fin 8) (s : State) : Out := .next (s.carrierValley c)

/-- R168. -/
def execCarrierPeak (c : Fin 8) (s : State) : Out := .next (s.carrierPeak c)

/-- R169. -/
def execLoomCommitInstant (c : Fin 8) (s : State) : Out := .next (s.carrierCommit c)

/-- R170, R180: a write of LOOM_CARc. -/
def execCarrierControlWrite (w : World) (c : Fin 8) (v : Word) (s : State) : Out := .next (s.write w (R.LOOM_CARc c) v)

/-- R170. -/
def execCarrierStart (c : Fin 8) (s : State) : Out := .next (s.carrierStart c)

/-- R180: a write of LOOM_LEGl_CMPU, or of CMPD when `down`. -/
def execCompareShadowWrite (w : World) (l : Fin 24) (down : Bool) (v : Word) (s : State) : Out :=
  .next (s.write w (if down then R.LOOM_LEGl_CMPD l else R.LOOM_LEGl_CMPU l) v)

/-! ### Pulses (R175, R181, R182) -/

/-- The pulse in progress has reached its closing edge: as judged, or where the reference changes at a valley or a peak. -/
def State.pulseEnds (s : State) (l : Nat) : Bool :=
  match (s.leg l).pulse with
  | some p =>
    (match p.closeAt with
     | some t => s.edgeDue t
     | none => s.rawRef l != p.high)
  | none => false

/-- The next opening edge of a switching leg: the pulse is judged there (R181). DEDUCED: log entry 9. -/
def State.openingEdge (s : State) (l : Nat) : State :=
  if (s.leg l).live && s.legMay l && s.pulseEnds l then s.pulseOpens l else s

/-- The closing edge: an output whose level the reference has left turns off (R175, R181). DEDUCED: log entry 9. -/
def State.closingEdge (s : State) (l : Nat) : State :=
  let x := s.leg l
  s.setOuts l (x.outH && x.ref) (x.outL && !x.ref) true

/-- A dead time ends: the output of the reference's level turns on, where the outputs may be on (R18, R62, R175). -/
def State.deadTimeEnd (s : State) (l : Nat) (high : Bool) : State :=
  let x := s.leg l
  match if high then x.onH else x.onL with
  | some t =>
    if s.edgeDue t && x.live && x.ref == high then
      let u := s.modLeg l (fun y => if high then { y with onH := none } else { y with onL := none })
      if s.legMay l && s.outputsAllowed then u.setOuts l high (!high) true else u
    else s
  | none => s

/-- R181. -/
def execPulseOpeningEdge (l : Fin 24) (s : State) : Out := .next (s.openingEdge l)

/-- R181. -/
def execPulseClosingEdge (l : Fin 24) (s : State) : Out := .next (s.closingEdge l)

/-- R175: DTH for `high`, else DTL. -/
def execDeadTimeEnd (l : Fin 24) (high : Bool) (s : State) : Out := .next (s.deadTimeEnd l high)

/-! ### Delay lines and the interlock (R177, R187) -/

/-- R177: CONV has started and every delay line is calibrated. DEDUCED: log entry 57. -/
def execDllLocked (s : State) : Out :=
  .next (if s.sys.phase = .boot || s.sys.phase = .run then s.set1 F.LOOM_DLL_LOCKED else s)

/-- Line `o` may move its trim in this cycle: its last step lies 1,024 cycles back, and it has placed no edge in this cycle and the 8
before it (R177). -/
def State.dllMay (s : State) (o : Nat) : Bool :=
  (match nth s.loom.lineStep o none with | some t => s.due (t + 1024) | none => true) &&
    (match nth s.loom.lineEdge o none with | some t => s.due (t + 9) | none => true)

/-- A delay line moves its trim one step in a cycle that allows it, or cannot hold it in range (R177). -/
def State.dllStep (s : State) (o : Nat) (up inRange : Bool) : State :=
  if s.coreRuns && s.dllMay o then
    if inRange then
      let t := { s with loom := { s.loom with
        trims := upd s.loom.trims o (fun x => if up then x + 1 else x - 1)
        lineStep := upd s.loom.lineStep o (fun _ => some s.count) } }
      t.incW F.LOOM_DLL_UPDATES
    else s.dllFail o
  else s

/-- R177: line `o` is idle, and `inRange` says that it holds its trim. -/
def execDllTrimStep (o : Fin 48) (up inRange : Bool) (s : State) : Out := .next (s.dllStep o up inRange)

/-- The ring of balls sees both outputs of a leg on, or no longer (R187, R191). -/
def State.interlock (s : State) (l : Nat) (seen : Bool) : State :=
  if s.sys.phase = .keep then s
  else if seen then
    let t := { s with loom := { s.loom with ilkSeen := s.loom.ilkSeen ||| (1#24 <<< l) } }
    (t.blockLeg .interlock l).incS (F.LOOM_LEGl_CNT_INTERLOCK l)
  else { s with loom := { s.loom with ilkSeen := s.loom.ilkSeen &&& ~~~ (1#24 <<< l) } }

/-- R187: `seen` false says that the interlock sees both outputs of the leg on no longer. -/
def execInterlock (l : Fin 24) (seen : Bool) (s : State) : Out := .next (s.interlock l seen)

/-! ### Trip lines (R188, R189) -/

/-- Pin or comparator line `k` has been asserted for FILT + 1 cycles, or is asserted no longer (R188): a pin then stands at the level
that POL makes active, or has left it. A comparator line rests by itself when its comparators do. DEDUCED: log entry 67. -/
def State.tripLine (s : State) (k : Nat) (on : Bool) : State :=
  let s := if k < 12 then s.modTl k (fun x => { x with input := on, level := on == s.tlHigh k }) else s
  if on then
    if s.coreRuns && s.nowOn (F.LOOM_TLk_CFG_EN k) && !s.on (F.LOOM_TLk_STAT_LIVE k) &&
        s.due ((s.tl k).since + s.nowGet (F.LOOM_TLk_CFG_FILT k) + 1) && (s.tl k).input then s.tlAct k
    else s
  else if k < 12 then s.tlRest k
  else s

/-- The blanking window of a line closes (R189). -/
def State.blankClose (s : State) (k : Nat) : State :=
  match (s.tl k).blankEnd with
  | some e =>
    if s.due e then
      let t := s.modTl k (fun x => { x with blankEnd := none, acted := false })
      if t.on (F.LOOM_TLk_STAT_LIVE k) then t.tlBlock k else t
    else s
  | none => s

/-- R188: lines TL8 to TL15; `on` false says that a pin line's pin has left its active level. -/
def execTripLineAct (k : Fin 8) (on : Bool) (s : State) : Out := .next (s.tripLine (8 + k) on)

/-- R189: lines TL8 to TL15. -/
def execBlankClose (k : Fin 8) (s : State) : Out := .next (s.blankClose (8 + k))

/-- R188. -/
def execTripLineCfgWrite (w : World) (k : Fin 16) (v : Word) (s : State) : Out := .next (s.write w (R.LOOM_TLk_CFG k) v)

/-- R188. -/
def execTripLineMaskWrite (w : World) (k : Fin 16) (v : Word) (s : State) : Out := .next (s.write w (R.LOOM_TLk_MASK k) v)

/-! ### Releases (R191, R192) -/

/-- A valley of carrier `c` is in this cycle, be it the one at which the carrier stops (R168, R170). -/
def State.valleyNow (s : State) (c : Nat) : Bool := s.coreRuns && (s.car c).events != 0 && s.carElapsed c == 0

/-- At a valley of its carrier, a leg whose release is accepted is released, and a leg that is free and does not switch resumes. At the
valley at which the carrier stops, the release takes effect and the leg rests on (R170, R175). -/
def State.legResume (s : State) (l : Nat) : State :=
  if s.valleyNow (s.legCar l) then
    if s.on (F.LOOM_LEGl_STAT_PENDING l) then (s.releaseLeg l).resumeLeg l
    else if (s.leg l).live || !s.carRunning (s.legCar l) then s
    else s.resumeLeg l
  else s

/-- R191: a write of LOOM_UNBLOCK. -/
def execUnblockRequest (w : World) (v : Word) (s : State) : Out := .next (s.write w R.LOOM_UNBLOCK v)

/-- R191, R192. -/
def execLegResume (l : Fin 24) (s : State) : Out := .next (s.legResume l)

end Sys2Proof.Machine
end

