-- ==== Sys2Proof/Machine/Clock.lean ====
section
/-! DEFINITION. Machine/Clock.lean: the commands on registers at large, clocks, ramp, timebase, compare and capture units, and the RTC
(R2, R5, R22 to R40). -/

namespace Sys2Proof.Machine

/-- A bus write of a register (R2), with what its own behaviour adds. -/
def execRegisterWrite (w : World) (a v : Word) (s : State) : Out := .next (s.write w a.toNat v)

/-- A block whose first register holds a LOCK bit (R5). -/
def hasLock (i : Nat) : Bool :=
  match regRow? (blockBase i) with
  | some r => bitAt r.w1s 31
  | none => false

/-- A write with 1 in a block's LOCK bit: the RWL fields first, then the lock (R5). -/
def execBlockLock (w : World) (i : Fin 17) (v : Word) (s : State) : Out :=
  .next (if hasLock i then s.write w (blockBase i) (v ||| 0x80000000) else s)

/-- R30. -/
def execRefLost (s : State) : Out := .next s.refLost

/-- R30. -/
def execSyn0Lost (s : State) : Out := .next s.syn0Lost

/-- R30. -/
def execSyn1Lost (s : State) : Out := .next s.syn1Lost

/-- R22: the lock detector has judged its N reference cycles. -/
def execSyn0Lock (s : State) : Out := .next s.syn0Lock

/-- R22. -/
def execSyn1Lock (s : State) : Out := .next s.syn1Lock

/-- R23, R24. -/
def execTrimWrite (w : World) (v : Word) (s : State) : Out := .next (s.write w R.CLK_SYN0_TRIM v)

/-- R26: a write with 1 in START. -/
def execRampStart (w : World) (v : Word) (s : State) : Out := .next (s.write w R.CLK_RAMP_CTRL (v ||| 1))

/-- R26: a write with 1 in ABORT. -/
def execRampAbort (w : World) (v : Word) (s : State) : Out := .next (s.write w R.CLK_RAMP_CTRL (v ||| 2))

/-- R26. -/
def execRampTick (s : State) : Out := .next s.rampTick

/-- R26. -/
def execRampSegmentEnd (s : State) : Out := .next s.rampSegmentEnd

/-- R27, R28: a write of CLK_SYN0_SSC, or of CLK_SYN1_SSC when `syn1`. -/
def execSscWrite (w : World) (syn1 : Bool) (v : Word) (s : State) : Out :=
  .next (s.write w (if syn1 then R.CLK_SYN1_SSC else R.CLK_SYN0_SSC) v)

/-- R34. -/
def execTbLoRead (w : World) (s : State) : Out := .next (s.read w R.CLK_TB_LO)

/-- R35: a write of CLK_CMPn_HI. -/
def execCompareTargetLoad (w : World) (n : Fin 16) (v : Word) (s : State) : Out := .next (s.write w (R.CLK_CMPn_HI n) v)

/-- R36: a write with 1 in CLK_CMPn_CTRL.EN. -/
def execCompareEnable (w : World) (n : Fin 16) (v : Word) (s : State) : Out := .next (s.write w (R.CLK_CMPn_CTRL n) (v ||| 1))

/-- R35. -/
def execCompareMatch (n : Fin 16) (s : State) : Out := .next (s.cmpMatch n)

/-- R37. -/
def execCaptureLoRead (w : World) (n : Fin 8) (s : State) : Out := .next (s.read w (R.CLK_CAPn_LO n))

/-- R37. -/
def execCaptureHiRead (w : World) (n : Fin 8) (s : State) : Out := .next (s.read w (R.CLK_CAPn_HI n))

/-- R38: a write of CLK_RTC_SEC_HI. -/
def execRtcSet (w : World) (v : Word) (s : State) : Out := .next (s.write w R.CLK_RTC_SEC_HI v)

/-- R38. -/
def execRtcLoRead (w : World) (s : State) : Out := .next (s.read w R.CLK_RTC_SEC_LO)

/-- R40. -/
def execRtcTbLoRead (w : World) (s : State) : Out := .next (s.read w R.CLK_RTC_TB_LO)

/-- R40, R382: the alarm is judged as the seconds advance. A KEEP domain that has lost its supply holds no RTC. The second
ends when its ticks are over (R39). -/
def execRtcSecond (s : State) : Out := .next (if s.sys.keepLost || !s.rtcDue then s else s.rtcSecond.alarm)

/-- R39. -/
def execRtcTrimInterval (s : State) : Out := .next s.rtcTrimInterval

end Sys2Proof.Machine
end

