-- ==== Sys2Proof/Machine/Gate.lean ====
section
/-! DEFINITION. Machine/Gate.lean: the commands of gate drive, leg faults, groups, and the brake chopper (R194 to R211). -/

namespace Sys2Proof.Machine

/-! ### Integrated drivers (R196 to R198) -/

/-- R196: a write of GDP_GDn_CTRL. -/
def execGdCtrlWrite (w : World) (n : Fin 8) (v : Word) (s : State) : Out := .next (s.write w (R.GDP_GDn_CTRL n) v)

/-- R197: a gate supply comes up only while the pump runs. -/
def execCpOkChange (k : Fin 4) (ok : Bool) (s : State) : Out :=
  .next (if s.sys.phase = .keep || (ok && !s.pumpRuns) then s else s.cpOk k ok)

/-- The cause of UVLO stands: VDRV is low and the driver commanded on. DEDUCED: log entry 10. -/
def State.gdUvlo (s : State) (n : Nat) : Bool := !s.on F.SYS_SUPPLY_VDRV_OK && s.gdCommand n

/-- The cause of CPLOW stands: a high-side driver is on without its gate supply. -/
def State.gdCplow (s : State) (n : Nat) : Bool := 4 ≤ n && s.on (F.GDP_GDn_STAT_OUT n) && !(s.get F.GDP_CP_OK).testBit (n - 4)

/-- MON_T of driver `n` in CORE cycles; 0 counts as 1 µs. -/
def State.monTime (s : State) (n : Nat) : Nat := 400 * max 1 (s.get (F.GDP_GDn_MON_MON_T n))

/-- The cause of MISMATCH stands: the monitor is enabled, and the gate has not been where the output is for MON_T µs, from an edge that
it did not follow or from when it left its commanded state. -/
def State.gdMismatched (s : State) (n : Nat) : Bool :=
  s.on (F.GDP_GDn_MON_EN n) &&
    (match (s.gd n).awayAt with
     | some t => s.due (t + s.monTime n)
     | none => false)

/-- Every cause of R198 that stands latches its flag and turns the driver off. -/
def State.gdFaults (s : State) (n : Nat) : State :=
  let t := s.whenB (s.gdUvlo n) (·.gdFault n (F.GDP_GDn_STAT_UVLO n))
  let t := t.whenB (s.gdCplow n) (·.gdFault n (F.GDP_GDn_STAT_CPLOW n))
  t.whenB (s.gdMismatched n) (·.gdFault n (F.GDP_GDn_STAT_MISMATCH n))

/-- R198. -/
def execGdFault (n : Fin 8) (s : State) : Out := .next (s.gdFaults n)

/-- A gate voltage follows the command `on`: between the off range and the on range it does not (R399). -/
def followsGate (g : GateLevel) (on : Bool) : Bool := g == if on then .on else .off

/-- The gate monitor senses the gate of driver `n`. A gate found elsewhere than the output within MON_T µs of an edge after which it has not
been seen to follow counts from that edge; any other has left its commanded state in this cycle (R198, R399). DEDUCED: log entry 10. -/
def State.gateSensed (s : State) (n : Nat) (gate : GateLevel) : State :=
  let edge := (s.gd n).edgeAt
  let start := if (s.gd n).followed || s.due (edge + s.monTime n + 1) then s.count else edge
  let follows := followsGate gate (s.on (F.GDP_GDn_STAT_OUT n))
  let t := (s.putB (F.GDP_GDn_STAT_GATE n) (gate == .on)).modGd n (fun g => { g with
    awayAt := if follows then none else some (g.awayAt.getD start), followed := g.followed || follows })
  t.whenB (t.gdMismatched n) (·.gdFault n (F.GDP_GDn_STAT_MISMATCH n))

/-- R198: `gate` is the range in which the gate's voltage lies. -/
def execGdMismatch (n : Fin 8) (gate : GateLevel) (s : State) : Out := .next (if s.sys.phase = .keep then s else s.gateSensed n gate)

/-- R198: a write of GDP_GDn_STAT. -/
def execGdFaultClear (w : World) (n : Fin 8) (v : Word) (s : State) : Out := .next (s.write w (R.GDP_GDn_STAT n) v)

/-- VDRV falls below its undervoltage threshold, or returns above it (R197, R198). -/
def State.vdrv (s : State) (low : Bool) : State :=
  let fell := low && s.on F.SYS_SUPPLY_VDRV_OK
  let t := s.putB F.SYS_SUPPLY_VDRV_OK (!low)
  if s.sys.phase = .keep then t
  else
    let t := (t.putB F.GDP_STAT_UVLO low).whenB fell (·.raise 0xDE)
    (t.forAll 8 (fun n u => u.whenB (u.gdUvlo n) (·.gdFault n (F.GDP_GDn_STAT_UVLO n)))).pumpFollow

/-- R198: `low` false says that VDRV has returned. -/
def execVdrvUndervoltage (low : Bool) (s : State) : Out := .next (s.vdrv low)

/-! ### Leg faults and groups (R200 to R206) -/

/-- FLT of a leg asserts, or deasserts (R200). -/
def State.fltPin (s : State) (l : Nat) (on : Bool) : State :=
  let t := s.putBit R.GDP_FLT_PIN l on
  if on && t.bit R.GDP_FLT_EN l && !t.bit R.GDP_FLT_LATCH l then t.fltLatch l else t

/-- R200: `on` false says that the pin has left its active level. -/
def execFltAssert (l : Fin 24) (on : Bool) (s : State) : Out := .next (if s.sys.phase = .keep then s else s.fltPin l on)

/-- R203. -/
def execGroupStaggerBlock (g : Fin 8) (s : State) : Out := .next (s.staggerBlock g)

/-- R201: a write of GDP_FLT_LATCH. -/
def execFltLatchClear (w : World) (v : Word) (s : State) : Out := .next (s.write w R.GDP_FLT_LATCH v)

/-- R205: a write of GDP_GRP_STAT. -/
def execGroupTripClear (w : World) (v : Word) (s : State) : Out := .next (s.write w R.GDP_GRP_STAT v)

/-- R206: a write with 1 in LINKn_STAT.VTRIP. -/
def execVtripClear (w : World) (n : Fin 2) (v : Word) (s : State) : Out := .next (s.write w (R.GDP_LINKn_STAT n) (v ||| 1))

/-! ### The brake chopper (R207 to R209) -/

/-- R207. -/
def execBrkMinTimeElapsed (n : Fin 2) (s : State) : Out := .next (s.brkStep n)

/-- A tick of the resistor model, once at each COUNT that it falls on (R208). -/
def State.resistorTick (s : State) (n : Nat) : State :=
  if s.coreRuns && s.count % 400000 == 0 && (s.brk n).tickStart != s.count then s.brkTick n else s

/-- R208. -/
def execResistorModelTick (n : Fin 2) (s : State) : Out := .next (s.resistorTick n)

/-- R208. -/
def execBrkBudgetSpent (n : Fin 2) (s : State) : Out := .next (if s.brkAllowed n then s else s.brkStep n)

/-- R209: a write with 1 in LINKn_CFG.TEST_GO. -/
def execBrkTestGo (w : World) (n : Fin 2) (v : Word) (s : State) : Out := .next (s.write w (R.GDP_LINKn_CFG n) (v ||| 0x80000))

/-- The test pulse of a link ends (R209). -/
def State.brkTestEnd (s : State) (n : Nat) : State :=
  match (s.brk n).testEnd with
  | some t => if s.due t then (s.modBrk n (fun b => { b with testEnd := none })).brkStep n else s
  | none => s

/-- R209. -/
def execBrkTestEnd (n : Fin 2) (s : State) : Out := .next (s.brkTestEnd n)

end Sys2Proof.Machine
end

