-- ==== Sys2Proof/Machine/Pins.lean ====
section
/-! DEFINITION. Machine/Pins.lean: the level of every output ball that a state fixes (R13, R175, R210, R243, R257, R262, R266, R296,
R300, R361, R386). A ball is a view of the state: nothing in the block reads it. DESIGN CHOICE: log entry 64. -/

namespace Sys2Proof.Machine

/-- The output balls of the block beside its buses and serial links: the gate outputs, the choppers, the pulse outputs, the emulation, the
SSI clocks, the transmit disables, and the island's balls by mirror. -/
inductive Ball where
  | pwmh (l : Nat)
  | pwml (l : Nat)
  | gd (n : Nat)
  | brk (n : Nat)
  | epo (k : Nat)
  | qea
  | qeb
  | qez
  | sck (n : Nat)
  | txdis (p : Port)
  | gen (mirrorB : Bool)
  | so (mirrorB : Bool) (k : Nat)
  | stp (k : Nat)
  deriving DecidableEq, Repr

/-- A ball's number among the boundary cells. -/
def Ball.number : Ball → Nat
  | .pwmh l => 2 * l
  | .pwml l => 2 * l + 1
  | .gd n => 48 + n
  | .brk n => 56 + n
  | .epo k => 58 + k
  | .qea => 62
  | .qeb => 63
  | .qez => 64
  | .sck n => 65 + n
  | .txdis .a => 67
  | .txdis .b => 68
  | .gen b => 69 + bit1 b
  | .so b k => 71 + 4 * bit1 b + k
  | .stp k => 79 + k

/-- All of them. -/
def balls : List Ball :=
  (List.range 24).flatMap (fun l => [.pwmh l, .pwml l]) ++ (List.range 8).map .gd ++ (List.range 2).map .brk ++ (List.range 4).map .epo ++
    [.qea, .qeb, .qez] ++ (List.range 2).map .sck ++ [.txdis .a, .txdis .b, .gen false, .gen true] ++
    (List.range 4).map (.so false) ++ (List.range 4).map (.so true) ++ (List.range 4).map .stp

/-- The instructions of the test access port (R361). -/
inductive TapInstr where
  | bypass
  | idcode
  | sample
  | extest
  | keyLoad
  | provision
  deriving DecidableEq, Repr

/-- What a code of the instruction register selects: after PROVISIONED, EXTEST, KEY_LOAD and PROVISION act as BYPASS, as every other
code does (R361). -/
def tapInstr (provisioned : Bool) (code : BitVec 8) : TapInstr :=
  match code.toNat, provisioned with
  | 0x01, _ => .idcode
  | 0x02, _ => .sample
  | 0x00, false => .extest
  | 0x80, false => .keyLoad
  | 0x81, false => .provision
  | _, _ => .bypass

/-- The level that EXTEST puts on a ball, before PROVISIONED (R361). -/
def State.extestLevel (s : State) (b : Ball) : Option Bool :=
  if tapInstr s.otp.provisioned s.tap.ir = .extest then s.tap.cells[Config.cellOf b.number]? else none

/-- The CORE domain is out of reset and its configuration loaded: before that its outputs are low (R386). -/
def State.driven (s : State) : Bool := s.sys.phase == .run

/-- SCKn: high between frames, and in a frame low for the first half of each bit from the read's stamp on; DOZE stops the interface
and its clock (R257, R263). -/
def State.sckLevel (s : State) (n : Nat) : Bool :=
  s.get (F.SHF_ENCn_CFG_MODE n) == 2 && !(s.coreRuns && match (s.enc n).reading with
    | none => false
    | some t =>
      let k := (s.count - t) / s.ssiHalf n
      decide (k < 2 * (s.ssiBits n + s.get (F.SHF_ENCn_SSI_PAR n))) && k % 2 == 0)

/-- A mirror by which of the two it is. -/
def State.mirrorOf (s : State) (mirrorB : Bool) : MirrorSt := if mirrorB then s.safe.b else s.safe.a

/-- The level that the block's own logic gives a ball. DESIGN CHOICE: log entry 64. -/
def State.ownLevel (s : State) : Ball → Bool
  | .pwmh l => s.driven && (s.leg l).outH != s.on (F.LOOM_LEGl_CFG_POLH l)
  | .pwml l => s.driven && (s.leg l).outL != s.on (F.LOOM_LEGl_CFG_POLL l)
  | .gd n => s.driven && s.on (F.GDP_GDn_STAT_OUT n)
  | .brk n => s.driven && s.on (F.GDP_LINKn_STAT_BRK_ON n) != s.on (F.GDP_LINKn_CFG_BRKPOL n)
  | .epo k => s.driven && s.on (F.GRN_EPOk_STAT_ACTIVE k) != s.on (F.GRN_EPOk_CFG_POL k)
  | .qea => s.emuPins.1
  | .qeb => s.emuPins.2.1
  | .qez => s.emuPins.2.2
  | .sck n => s.driven && s.sckLevel n
  | .txdis p => s.sys.phase != .keep && !s.portOn p
  | .gen b => (s.mirrorOf b).cmd 0
  | .so b k => (s.mirrorOf b).cmd (k + 1)
  | .stp k => !(s.mirrorOf (decide (2 ≤ k))).dead && (nth (s.mirrorOf (decide (2 ≤ k))).pulses (k % 2) none).isNone

/-- The off level of a gate output, which the cut of R296 enforces; `none` for a ball that the cut does not reach (R13, R175, R296). -/
def State.cutLevel (s : State) : Ball → Option Bool
  | .pwmh l => some (s.driven && s.on (F.LOOM_LEGl_CFG_POLH l))
  | .pwml l => some (s.driven && s.on (F.LOOM_LEGl_CFG_POLL l))
  | .gd _ => some false
  | _ => none

/-- The level of a ball: the cut of the gate-enable stands outside the boundary cells, and those outside the block's own logic.
DESIGN CHOICE: log entry 64. -/
def State.ball (s : State) (b : Ball) : Bool :=
  let free := (s.extestLevel b).getD (s.ownLevel b)
  match s.cutLevel b with
  | some off => if s.genOn then free else off
  | none => free

/-! The rows of the ball map that a formula gives (R391). -/

/-- The row's place in the column map, J as 9: rows are lettered without I, O, Q, S and X. -/
def ballPosition (n c : Nat) : Nat := 4 * (n - 9) + c - 1

/-- The signal at position `k` of columns 1 to 4: its leg, and PWMH, PWML or FLT. -/
def legBall (k : Nat) : Nat × Nat := (k / 3, k % 3)

/-- The input of ball `c` of row A, B, C or D (0 to 3), for `c` from 1 to 24. -/
def ainBall (row c : Nat) : Nat := 48 * (row / 2) + 2 * c - 2 + row % 2

end Sys2Proof.Machine
end

