-- ==== Sys2Proof/Machine/HostUnits.lean ====
section
/-! DEFINITION. Machine/HostUnits.lean: what the commands of groups 0x05 and 0x07 to 0x0A do: Granary, firmware, ring, safety island,
perturbation and Loupe (R56, R250, R275 to R278, R308, R316 to R318, R342, R356 to R359), and the test access port (R361). -/

namespace Sys2Proof.Machine

/-! ### Group 0x05 (R250) -/

/-- The totals of the meters in a mask, from the last snapshot, in register order. -/
def State.snapBytes (s : State) (mask : Nat) : List Byte :=
  let run := fun (from_ n : Nat) => ((List.range n).map (fun i => leBytes 8 (nth s.grn.snapTotals (from_ + i) 0).toNat)).flatten
  let ac := (List.range 4).map (fun m => if mask.testBit m then run (acTotal m 0 0) 40 else [])
  let dc := (List.range 4).map (fun m => if mask.testBit (4 + m) then run (dcTotal m 0) 4 else [])
  let wc := (List.range 16).map (fun k =>
    leBytes 4 (s.rd (R.GRN_S_WCk_CNT k)).toNat ++ leBytes 2 (s.rd (R.GRN_S_WCk_WRAP k)).toNat ++ zeros 2)
  leBytes 8 s.grn.snapStamp.toNat ++ leBytes 4 (s.rd R.GRN_SNAP_CNT).toNat ++ ac.flatten ++ dc.flatten ++ wc.flatten

/-- GRANARY_READ and GRANARY_SNAPSHOT. -/
def State.doGranary (s : State) (l : Link) (c : Cmd) (ref : Bool) : State :=
  let t := s.hostSnapshot ref
  t.answer l c { data := t.snapBytes (byteAt c.payload 0) }

/-- The end of a JOURNAL_COMMIT: a record's SEQ, or what the spec leaves open where there is none (log entry 40). -/
def State.journalReply (s : State) (written : Bool) : State :=
  if written then s.longEnd Status.ok (s.rd R.GRN_JSEQ).toNat
  else s.drawn.longEnd (Config.journalEnd s.draws 0) (Config.journalEnd s.draws 1)

/-- JOURNAL_COMMIT (R244, R250): its record is the one written next, or the one queued behind it. -/
def State.doJournalCommit (s : State) (l : Link) (c : Cmd) : State :=
  let t := s.accept l c
  if t.grnFrozen then t.journalReply false
  else (t.modLong (fun o => { o with phase := if s.on F.GRN_JSTAT_BUSY then 2 else 1 })).journalAsk 0

/-- A journal record completes, and with it a JOURNAL_COMMIT that waits for it (R244, R245, R250). -/
def State.journalDoneReply (s : State) (ok : Bool) : State :=
  if s.grn.write = none ∨ s.grnFrozen then s
  else
    let t := s.journalDone ok
    if t.longRuns 0x0503 then
      if t.stew.longOp.phase ≤ 1 ∨ !t.on F.GRN_JSTAT_BUSY then t.journalReply ok else t.modLong (fun o => { o with phase := 1 })
    else t

/-- A completed record ends a wait of the latency policy (R379). -/
def State.journalRecordDone (s : State) (ok : Bool) : State := s.policyAfter (·.journalDoneReply ok)

/-- JOURNAL_READ. -/
def State.doJournalRead (s : State) (l : Link) (c : Cmd) : State :=
  let slot := byteAt c.payload 0
  let half := byteAt c.payload 1
  if 31 < slot then s.answer l c (Reply.invalid 0)
  else if 1 < half then s.answer l c (Reply.invalid 1)
  else
    let b := s.mramRead (journalOffset slot) 4096
    let v := if fieldLe b 0 4 ≠ 0x47524E4A then 1 else if journalValid b then 0 else 2
    (s.mramMeet (journalOffset slot) 4096).answer l c { data := leBytes 1 v ++ zeros 3 ++ (b.drop (2048 * half)).take 2048 }

/-- The totals that GRANARY_PRESET loads: the first one's index and their number. -/
def meterTotals (m : Nat) : Nat × Nat := if m < 4 then (acTotal m 0 0, 40) else (dcTotal (m - 4) 0, 4)

/-- GRANARY_PRESET; while replay freezes the totals and the journal it changes neither (R248). DESIGN CHOICE: log entry 56. -/
def State.doGranaryPreset (s : State) (l : Link) (c : Cmd) : State :=
  let m := byteAt c.payload 0
  if 7 < m then s.answer l c (Reply.invalid 0)
  else if !s.inService || s.bit R.GRN_CTRL m || s.meterOn m then s.answer l c s.conflict
  else
    let (i, n) := meterTotals m
    let t := if s.grnFrozen then s else s.forAll n (fun k u =>
      let v := fieldLe c.payload (4 + 12 * k) 8 * 2 ^ 32 + fieldLe c.payload (12 + 12 * k) 4
      (u.setTotal (i + k) v).wr (totalAddr (i + k) + 4) (BitVec.ofNat 32 (v / 2 ^ 64)))
    ((t.journalAsk 32).logUnnamed 2).answer l c {}

/-- UNCLEAN_READ. -/
def State.doUncleanRead (s : State) (l : Link) (c : Cmd) : State :=
  s.answer l c { data := s.regBytes (R.GRN_UNC_T :: (List.range 8).map (fun n => R.GRN_UNC_En n)) ++ leBytes 4 s.grn.restoredSeq.toNat }

/-! ### Group 0x07 (R342, R354 to R359) -/

/-- What FW_INFO says of a slot. -/
def State.fwInfo (s : State) (slot : Nat) : List Byte :=
  leBytes 1 (s.fwState slot) ++ leBytes 1 (byteAt (s.fwHeader slot) 8) ++ zeros 2 ++ leBytes 4 (s.fwVersion slot)

/-- FW_INFO. -/
def State.doFwInfo (s : State) (l : Link) (c : Cmd) : State :=
  s.answer l c { data := s.fwInfo 0 ++ s.fwInfo 1 ++ leBytes 1 (64 - s.otp.arb) ++ zeros 3 }

/-- The first FW_WRITE after an installation or a boot erases the slot's commit record. DEDUCED: log entry 53. -/
def State.fwBegin (s : State) : State :=
  match s.cfg.fwWriting with
  | some _ => s
  | none =>
    let slot := s.fwIdle
    let t := s.fwWriteRecord slot 1 0 (zeros 32) 0
    { t with cfg := { t.cfg with fwWriting := some slot, fwTouched := t.cfg.fwTouched ++ [slot] } }

/-- FW_WRITE. -/
def State.doFwWrite (s : State) (l : Link) (c : Cmd) : State :=
  let o := fieldLe c.payload 0 4
  let b := c.payload.drop 4
  if s.mode = .run then s.answer l c s.conflict
  else if 0x200000 < o + b.length then s.answer l c (Reply.invalid 0)
  else
    let t := s.fwBegin
    (t.mramWrite (fwBase t.fwIdle + o) b).answer l c {}

/-- FW_INSTALL. -/
def State.doFwInstall (s : State) (l : Link) (c : Cmd) : State :=
  if s.mode = .run then s.answer l c s.conflict else s.accept l c

/-- The checks of R358 end: the COMMITTED record and the FW_INSTALLED record, or INVALID_PARAM. DEDUCED: log entry 53. -/
def State.fwInstalled (s : State) : State :=
  if s.longRuns 0x0703 then
    let p := s.stew.longOp.payload
    let slot := s.fwIdle
    let len := fieldLe p 0 4
    let done := fun (u : State) => { u with cfg := { u.cfg with fwWriting := none } }
    match s.fwCheck slot len (fieldLe p 4 4) with
    | some d => (done s).longEnd Status.invalidParam d
    | none =>
      let h := s.fwHeader slot
      let v := fieldLe h 4 4
      let t := done (s.fwWriteRecord slot 2 len ((h.drop 16).take 32) v)
      (t.log 0x0008 0xFF .info (leBytes 1 slot ++ leBytes 4 v)).longEnd Status.ok 0
  else s

/-! ### Group 0x08 (R275, R276, R278) -/

/-- RING_STAT to RING_IDHI. -/
def ringWords : List Nat :=
  [R.RING_STAT, R.RING_ERR, R.RING_ROUND, R.RING_GEN, R.RING_THETA, R.RING_DLYA, R.RING_DLYB, R.RING_PATH, R.RING_HOPS, R.RING_TNEED,
    R.RING_CNT, R.RING_IDLO, R.RING_IDHI]

/-- RING_STATUS. -/
def State.doRingStatus (s : State) (l : Link) (c : Cmd) : State := s.answer l c { data := s.regBytes ringWords }

/-- RING_JOIN. -/
def State.doRingJoin (s : State) (l : Link) (c : Cmd) : State :=
  if s.switching || s.ringState != 1 then s.answer l c s.conflict else (s.policyAfter (·.ringJoin)).answer l c {}

/-- RING_LEAVE. -/
def State.doRingLeave (s : State) (l : Link) (c : Cmd) : State :=
  if s.ringState != 3 then s.answer l c s.conflict else (s.policyAfter (·.ringLeave)).answer l c {}

/-- ROSTER_READ. -/
def State.doRosterRead (s : State) (l : Link) (c : Cmd) : State :=
  let first := fieldLe c.payload 0 2
  let n := fieldLe c.payload 2 2
  if n = 0 ∨ 1020 < n then s.answer l c (Reply.invalid 2)
  else if 6144 < first + n then s.answer l c (Reply.invalid 0)
  else s.answer l c { data := s.regBytes (R.RING_GEN :: (List.range n).map (fun i => R.RING_ROSTERe (first + i))) }

/-- PRESENT_READ. -/
def State.doPresentRead (s : State) (l : Link) (c : Cmd) : State :=
  s.answer l c { data := leBytes 2 (s.get F.RING_GEN_GEN) ++ zeros 2 ++ leBytes 128 s.ring.live.present.toNat }

/-! ### Group 0x09 (R308, R316 to R318) -/

/-- SAFE_STAT to SAFE_CNT. -/
def safeWords : List Nat :=
  [R.SAFE_STAT, R.SAFE_PGEN, R.SAFE_PCRC, R.SAFE_INA, R.SAFE_INB, R.SAFE_INFLT, R.SAFE_GUARD, R.SAFE_OUT, R.SAFE_OSTATE, R.SAFE_CONN,
    R.SAFE_DIAG, R.SAFE_STAMP, R.SAFE_CNT]

/-- SAFE_STATUS. -/
def State.doSafeStatus (s : State) (l : Link) (c : Cmd) : State := s.answer l c { data := s.regBytes safeWords }

/-- SAFE_PARAM_WRITE. -/
def State.doSafeWrite (s : State) (l : Link) (c : Cmd) : State :=
  let o := fieldLe c.payload 0 2
  let n := fieldLe c.payload 2 2
  if !s.inService then s.answer l c s.conflict
  else if n = 0 ∨ 256 < n then s.answer l c (Reply.invalid 2)
  else if 256 < o + n then s.answer l c (Reply.invalid 0)
  else { s with stew := { s.stew with safeStage := memSetBytes s.stew.safeStage o (c.payload.drop 4) } }.answer l c {}

/-- SAFE_PARAM_COMMIT: the block goes to both mirrors. -/
def State.doSafeCommit (s : State) (l : Link) (c : Cmd) : State :=
  if !s.inService || !s.allOutsOff then s.answer l c s.conflict else s.accept l c

/-- The detail of the lowest code of R318 that fails, with its index; `none` when every check passes. DEDUCED: log entry 62. -/
def State.blockRefusal (s : State) (b : List Byte) (crc : Nat) : Option Nat :=
  let all := [if (crc32c (b.take 252)).toNat ≠ crc then some (1, 0) else none, mirrorChecks b (s.rd R.SAFE_PGEN).toNat,
    s.stewardChecks b s.ringPeriod]
  (all.foldl (fun (best x : Option (Nat × Nat)) => match best, x with
    | some p, some q => if q.1 < p.1 then some q else some p
    | some p, none => some p
    | none, q => q) none).map (fun p => p.1 + 65536 * p.2)

/-- Both mirrors have checked the block: the commit ends with the refusal, or both have written it and enter BOOT (R317).
DEDUCED: log entry 62. -/
def State.safeCommitted (s : State) : State :=
  if s.longRuns 0x0903 ∧ !s.safe.a.dead ∧ !s.safe.b.dead then
    let b := memBytes s.stew.safeStage 0 256
    match s.blockRefusal b (fieldLe s.stew.longOp.payload 0 4) with
    | some d => s.longEnd Status.invalidParam d
    | none => (s.commitBlock b).longEnd Status.ok (blockGen b)
  else s

/-- The block a mirror runs from; without one its bytes are open (log entry 40). -/
def MirrorSt.liveBlock (x : MirrorSt) : List Byte :=
  match x.live with
  | some i => (nth x.store i [] ++ zeros 256).take 256
  | none => (List.range 256).map Config.noBlock

/-- SAFE_PARAM_READ. -/
def State.doSafeRead (s : State) (l : Link) (c : Cmd) : State :=
  let crc := fun (x : MirrorSt) => leBytes 4 (crc32c (x.liveBlock.take 252)).toNat
  s.answer l c { data := s.safe.a.liveBlock ++ crc s.safe.a ++ crc s.safe.b }

/-- SAFE_DIAG_READ. -/
def State.doSafeDiag (s : State) (l : Link) (c : Cmd) : State :=
  let one := fun (x : MirrorSt) => (x.hist.map (fun e => leBytes 1 e.1 ++ zeros 3 ++ leBytes 4 e.2.toNat)).flatten
  s.answer l c { data := one s.safe.a ++ one s.safe.b }

/-- SAFE_RESTART (R295, R316). -/
def State.doSafeRestart (s : State) (l : Link) (c : Cmd) : State := (s.policyAfter (·.islandBoot true)).answer l c {}

/-! ### Group 0x0A (R56, R375) -/

/-- PERT_SET. DEDUCED: log entry 63. -/
def State.doPertSet (s : State) (l : Link) (c : Cmd) : State :=
  let p := c.payload
  if !s.inService then s.answer l c s.conflict
  else
    let t := s.regWrite .secure R.TST_SEED (BitVec.ofNat 32 (fieldLe p 0 2))
    let t := t.forAll 8 (fun k u => u.regWrite .secure (R.TST_DLYk k) (BitVec.ofNat 32 (fieldLe p (4 + 2 * k) 2)))
    (t.regWrite .secure R.TST_CTRL (setBits (t.rd R.TST_CTRL) 0 1 (byteAt p 20))).answer l c {}

/-- LOUPE_ARM. -/
def State.doLoupeArm (s : State) (l : Link) (c : Cmd) : State :=
  let p := c.payload
  let trigger := byteAt p 32
  let pre := fieldLe p 34 2
  let x : Loupe := { state := 1, mask := p.take 32, trigger := trigger, pre := pre, addr := fieldLe p 36 4 }
  if !s.inService then s.answer l c s.conflict
  else if !x.takes trigger then s.answer l c (Reply.invalid 32)
  else if 4095 < pre then s.answer l c (Reply.invalid 34)
  else { s with stew := { s.stew with loupe := x } }.answer l c {}

/-- The 16 bytes of a Loupe record. -/
def LoupeRec.bytes (r : LoupeRec) : List Byte :=
  leBytes 8 r.count.toNat ++ leBytes 1 r.fine.toNat ++ leBytes 1 r.src ++ zeros 2 ++ leBytes 4 r.value.toNat

/-- LOUPE_READ. -/
def State.doLoupeRead (s : State) (l : Link) (c : Cmd) : State :=
  let x := s.stew.loupe
  let n := fieldLe c.payload 2 2
  if n = 0 ∨ 255 < n then s.answer l c (Reply.invalid 2)
  else
    let rs := (x.recs.drop (fieldLe c.payload 0 2)).take n
    s.answer l c { data := leBytes 1 x.state ++ zeros 1 ++ leBytes 2 x.recs.length ++ (rs.map LoupeRec.bytes).flatten }

/-! ### The test access port (R361) -/

/-- The port's instruction register takes a code; without power nothing does (R383). -/
def State.tapCode (s : State) (code : BitVec 8) : State := { s with tap := { s.tap with ir := code } }

/-- KEY_LOAD: an unwritten slot takes the key, before PROVISIONED. -/
def State.keyLoad (s : State) (slot : Nat) (key : List Byte) : State :=
  if s.sys.phase = .keep then s
  else if s.otp.provisioned ∨ nth s.otp.keySlots slot (some []) ≠ none then s.tapCode 0x80
  else
    let t := s.tapCode 0x80
    { t with otp := { t.otp with keySlots := upd t.otp.keySlots slot (fun _ => some ((key ++ zeros 32).take 32)) } }

/-- PROVISION: 0xA5 burns PROVISIONED. -/
def State.provision (s : State) (v : Byte) : State :=
  if s.sys.phase = .keep then s
  else if v = 0xA5 then { s.tapCode 0x81 with otp := { s.otp with provisioned := true } } else s.tapCode 0x81

/-- What stands in a boundary cell: the level of the output ball that it drives, or of an input (R361). DESIGN CHOICE: log entry 64. -/
def State.cellLevel (s : State) (i : Nat) : Bool :=
  match balls.find? (fun b => Config.cellOf b.number == i) with
  | some b => s.ball b
  | none => Config.cellIn s.draws i

/-- A scan of any code: of a bit string that passes through BYPASS or IDCODE, what the register held comes out first; SAMPLE/PRELOAD and
EXTEST shift out the cells' levels and load their latches. DESIGN CHOICE: log entry 64. -/
def State.tapScan (s : State) (x : TapScan) : State :=
  let shown := fun out => { s with tap := { s.tap with ir := x.code, out := out } }
  let through := fun held => shown ((held ++ x.dr).take x.dr.length)
  let cells := fun (_ : Unit) =>
    let t := (shown ((List.range x.dr.length).map s.cellLevel)).drawn
    { t with tap := { t.tap with cells := x.dr } }
  if s.sys.phase = .keep then s
  else match tapInstr s.otp.provisioned x.code with
    | .bypass => through [false]
    | .idcode => through (bitsOf 32 0x174405E3)
    | .sample => cells ()
    | .extest => cells ()
    | .keyLoad => s.keyLoad (ofBits (x.dr.take 8)) ((List.range 32).map (fun i => BitVec.ofNat 8 (ofBits ((x.dr.drop (8 + 8 * i)).take 8))))
    | .provision => s.provision (BitVec.ofNat 8 (ofBits (x.dr.take 8)))

end Sys2Proof.Machine
end

