-- ==== Sys2Proof/Machine/Granary.lean ====
section
/-! DEFINITION. Machine/Granary.lean: the commands of the Granary (R226 to R247). -/

namespace Sys2Proof.Machine

/-- R226. -/
def execGranaryInterval (s : State) : Out := .next s.grnInterval

/-- R229. -/
def execZxTimeout (m : Fin 4) (s : State) : Out := .next (s.zxTimeout m)

/-- R229. -/
def execNozxCycleClose (m : Fin 4) (s : State) : Out := .next (s.nozxClose m)

/-- R235. -/
def execDcBlockClose (m : Fin 4) (s : State) : Out := .next (s.blockClose m)

/-- R243. -/
def execEpoPulseStart (k : Fin 4) (s : State) : Out := .next (s.epoPulseStart k)

/-- R243. -/
def execEpoPulseEnd (k : Fin 4) (s : State) : Out := .next (s.epoPulseEnd k)

/-- R240: a write with 1 in GRN_SNAP_CTRL.GO. -/
def execGranarySnapGo (w : World) (v : Word) (s : State) : Out := .next (s.write w R.GRN_SNAP_CTRL (v ||| 1))

/-- R240. -/
def execGranarySnapshotTaken (s : State) : Out := .next s.snapshotTaken

/-- R238: a read of a LO word, at its address in the block. -/
def execGranaryLoRead (w : World) (a : Word) (s : State) : Out := .next (s.read w a.toNat)

/-- R244. -/
def execJournalPeriod (s : State) : Out := .next s.journalTick

/-- R244: a write with 1 in GRN_JRN.COMMIT. -/
def execJournalCommitWrite (w : World) (v : Word) (s : State) : Out := .next (s.write w R.GRN_JRN (v ||| 0x10000))

/-- R244: `ok` is the read-back verification. -/
def execJournalRecordDone (ok : Bool) (s : State) : Out := .next (s.journalRecordDone ok)

/-- R247: a write of GRN_CTRL. -/
def execMeterEnableWrite (w : World) (v : Word) (s : State) : Out := .next (s.write w R.GRN_CTRL v)

end Sys2Proof.Machine
end

