-- ==== Sys2Proof/Machine/HostDispatch.lean ====
section
/-! DEFINITION. Machine/HostDispatch.lean: the execution of a command packet by its opcode, and what arrives on the two ports (R321 to
R325). -/

namespace Sys2Proof.Machine

/-- The execution of an opcode, once every check has passed. -/
def State.execute (s : State) (l : Link) (c : Cmd) : State :=
  match c.asked.opcode with
  | 0x0001 => s.doHello l c
  | 0x0002 => s.doSync l c
  | 0x0003 => s.doReplay l c
  | 0x0004 => s.doOpStatus l c
  | 0x0005 => s.doSessionOpen l c
  | 0x0006 => s.doSessionClose l c
  | 0x0007 => s.doPortSet l c
  | 0x0101 => s.doRegRead l c
  | 0x0102 => s.doRegWrite l c
  | 0x0201 => s.doStatus l c
  | 0x0202 => s.doModeSet l c
  | 0x0203 => s.doLtrSet l c
  | 0x0204 => s.doReset l c
  | 0x0301 => s.doCfgWrite l c
  | 0x0302 => s.doCfgCommit l c
  | 0x0303 => s.doCfgAbort l c
  | 0x0304 => s.doCfgInfo l c
  | 0x0305 => s.doCfgRead l c
  | 0x0401 => s.doProgWrite l c
  | 0x0402 => s.doProgCommit l c
  | 0x0403 => s.doDmemWrite l c
  | 0x0404 => s.doCoefWrite l c
  | 0x0405 => s.doBankSwap l c
  | 0x0406 => s.doTaskResume l c
  | 0x0501 => s.doGranary l c false
  | 0x0502 => s.doGranary l c true
  | 0x0503 => s.doJournalCommit l c
  | 0x0504 => s.doJournalRead l c
  | 0x0505 => s.doGranaryPreset l c
  | 0x0506 => s.doUncleanRead l c
  | 0x0601 => s.doLogRead l c
  | 0x0602 => s.doLogInfo l c
  | 0x0603 => s.doCrierSet l c
  | 0x0604 => s.doAttnRead l c
  | 0x0605 => s.doAttnMask l c
  | 0x0701 => s.doFwInfo l c
  | 0x0702 => s.doFwWrite l c
  | 0x0703 => s.doFwInstall l c
  | 0x0801 => s.doRingStatus l c
  | 0x0802 => s.doRingJoin l c
  | 0x0803 => s.doRingLeave l c
  | 0x0804 => s.doRosterRead l c
  | 0x0805 => s.doPresentRead l c
  | 0x0901 => s.doSafeStatus l c
  | 0x0902 => s.doSafeWrite l c
  | 0x0903 => s.doSafeCommit l c
  | 0x0904 => s.doSafeRead l c
  | 0x0905 => s.doSafeDiag l c
  | 0x0906 => s.doSafeRestart l c
  | 0x0A01 => s.doPertSet l c
  | 0x0A02 => s.doLoupeArm l c
  | 0x0A03 => s.doLoupeRead l c
  | _ => s

/-- A whole packet with its framing judged: a wrong CRC is answered, a command goes on (R325). -/
def State.takePacket (s : State) (l : Link) (b : List Byte) : State :=
  if !crcRight b then s.answerRaw l b Status.badCrc 0
  else let c := readCmd b; s.receive l c (fun t => t.execute l c)

/-- An SPI WRITE of some bytes (R321). DEDUCED: log entry 47. -/
def State.spiWrite (s : State) (b : List Byte) : State :=
  if !s.serves .spi then s
  else if s.rxFull .spi || (b != [] && byteAt b 0 != 0xA5) || (2 ≤ b.length && byteAt b 1 != 1) then s.discard .spi
  else if b.length < 16 ∨ b.length ≠ packetLen b then s.answerRaw .spi b Status.badLen (2 ^ 31 + b.length)
  else s.takePacket .spi b

/-- A packet that the UART receiver has assembled (R322, R323). -/
def State.uartTake (s : State) (b : List Byte) : State :=
  if !s.serves .uart ∨ s.rxFull .uart then s else s.takePacket .uart b

/-- A run of bytes on the UART, before and after which more than 32 character times pass (R322). DEDUCED: log entry 47. -/
def State.uartRun (s : State) (b : List Byte) : State := (uartPackets b.length b).foldl (fun t p => t.uartTake p) s

/-- A command packet with an opcode, header and payload is taken from a link. -/
def State.takeCommand (s : State) (opcode : Nat) (l : Link) (h : Hdr) (p : List Byte) : State :=
  if hdrFits h p then
    if !s.serves l then s
    else if s.rxFull l then s.discard l
    else let c := hdrCmd h opcode p; s.receive l c (fun t => t.execute l c)
  else match l with
    | .spi => s.spiWrite (hdrPacket h opcode p)
    | .uart => s.uartRun (hdrPacket h opcode p)

/-- A command packet arrives on a link. -/
def State.command (s : State) (opcode : Nat) (l : Link) (h : Hdr) (p : List Byte) : State :=
  s.hostMoves (s.takeCommand opcode l h p) (20 + p.length + (h.tag.getD []).length)

end Sys2Proof.Machine
end

