-- ==== Sys2Proof/Machine/Host.lean ====
section
/-! DEFINITION. Machine/Host.lean: the commands of the two links, each a whole packet given by its opcode's header and payload, and the
events of the links, of the Steward's long operations, and of the test access port (R321 to R342, R361). -/

namespace Sys2Proof.Machine

/-! ### Command packets (R324, R325) -/

/-- R329, opcode 0x0001. -/
def execHello (l : Link) (h : Hdr) (p : List Byte) (s : State) : Out := .next (s.command 0x0001 l h p)

/-- R329, opcode 0x0002. -/
def execSync (l : Link) (h : Hdr) (p : List Byte) (s : State) : Out := .next (s.command 0x0002 l h p)

/-- R329, opcode 0x0003. -/
def execReplay (l : Link) (h : Hdr) (p : List Byte) (s : State) : Out := .next (s.command 0x0003 l h p)

/-- R336, opcode 0x0004. -/
def execOpStatus (l : Link) (h : Hdr) (p : List Byte) (s : State) : Out := .next (s.command 0x0004 l h p)

/-- R335, opcode 0x0005. -/
def execSessionOpen (l : Link) (h : Hdr) (p : List Byte) (s : State) : Out := .next (s.command 0x0005 l h p)

/-- R335, opcode 0x0006. -/
def execSessionClose (l : Link) (h : Hdr) (p : List Byte) (s : State) : Out := .next (s.command 0x0006 l h p)

/-- R322, opcode 0x0007. -/
def execPortSet (l : Link) (h : Hdr) (p : List Byte) (s : State) : Out := .next (s.command 0x0007 l h p)

/-- R345, opcode 0x0101. -/
def execRegRead (l : Link) (h : Hdr) (p : List Byte) (s : State) : Out := .next (s.command 0x0101 l h p)

/-- R337, opcode 0x0102. -/
def execRegWrite (l : Link) (h : Hdr) (p : List Byte) (s : State) : Out := .next (s.command 0x0102 l h p)

/-- R333, opcode 0x0201. -/
def execStatus (l : Link) (h : Hdr) (p : List Byte) (s : State) : Out := .next (s.command 0x0201 l h p)

/-- R376, opcode 0x0202. -/
def execModeSet (l : Link) (h : Hdr) (p : List Byte) (s : State) : Out := .next (s.command 0x0202 l h p)

/-- R379, opcode 0x0203. -/
def execLtrSet (l : Link) (h : Hdr) (p : List Byte) (s : State) : Out := .next (s.command 0x0203 l h p)

/-- R384, opcode 0x0204. -/
def execReset (l : Link) (h : Hdr) (p : List Byte) (s : State) : Out := .next (s.command 0x0204 l h p)

/-- R338, opcode 0x0301. -/
def execCfgWrite (l : Link) (h : Hdr) (p : List Byte) (s : State) : Out := .next (s.command 0x0301 l h p)

/-- R338, opcode 0x0302. -/
def execCfgCommit (l : Link) (h : Hdr) (p : List Byte) (s : State) : Out := .next (s.command 0x0302 l h p)

/-- R338, opcode 0x0303. -/
def execCfgAbort (l : Link) (h : Hdr) (p : List Byte) (s : State) : Out := .next (s.command 0x0303 l h p)

/-- R338, opcode 0x0304. -/
def execCfgInfo (l : Link) (h : Hdr) (p : List Byte) (s : State) : Out := .next (s.command 0x0304 l h p)

/-- R338, opcode 0x0305. -/
def execCfgRead (l : Link) (h : Hdr) (p : List Byte) (s : State) : Out := .next (s.command 0x0305 l h p)

/-- R148, opcode 0x0401. -/
def execProgWrite (l : Link) (h : Hdr) (p : List Byte) (s : State) : Out := .next (s.command 0x0401 l h p)

/-- R148, opcode 0x0402. -/
def execProgCommit (l : Link) (h : Hdr) (p : List Byte) (s : State) : Out := .next (s.command 0x0402 l h p)

/-- R146, opcode 0x0403. -/
def execDmemImageWrite (l : Link) (h : Hdr) (p : List Byte) (s : State) : Out := .next (s.command 0x0403 l h p)

/-- R140, opcode 0x0404. -/
def execCoefWrite (l : Link) (h : Hdr) (p : List Byte) (s : State) : Out := .next (s.command 0x0404 l h p)

/-- R139, opcode 0x0405. -/
def execBankSwap (l : Link) (h : Hdr) (p : List Byte) (s : State) : Out := .next (s.command 0x0405 l h p)

/-- R147, opcode 0x0406. -/
def execTaskResume (l : Link) (h : Hdr) (p : List Byte) (s : State) : Out := .next (s.command 0x0406 l h p)

/-- R250, opcode 0x0501. -/
def execGranaryRead (l : Link) (h : Hdr) (p : List Byte) (s : State) : Out := .next (s.command 0x0501 l h p)

/-- R250, opcode 0x0502. -/
def execGranarySnapshot (l : Link) (h : Hdr) (p : List Byte) (s : State) : Out := .next (s.command 0x0502 l h p)

/-- R250, opcode 0x0503. -/
def execJournalCommit (l : Link) (h : Hdr) (p : List Byte) (s : State) : Out := .next (s.command 0x0503 l h p)

/-- R250, opcode 0x0504. -/
def execJournalRead (l : Link) (h : Hdr) (p : List Byte) (s : State) : Out := .next (s.command 0x0504 l h p)

/-- R250, opcode 0x0505. -/
def execGranaryPreset (l : Link) (h : Hdr) (p : List Byte) (s : State) : Out := .next (s.command 0x0505 l h p)

/-- R250, opcode 0x0506. -/
def execUncleanRead (l : Link) (h : Hdr) (p : List Byte) (s : State) : Out := .next (s.command 0x0506 l h p)

/-- R339, opcode 0x0601. -/
def execLogRead (l : Link) (h : Hdr) (p : List Byte) (s : State) : Out := .next (s.command 0x0601 l h p)

/-- R339, opcode 0x0602. -/
def execLogInfo (l : Link) (h : Hdr) (p : List Byte) (s : State) : Out := .next (s.command 0x0602 l h p)

/-- R340, opcode 0x0603. -/
def execCrierSet (l : Link) (h : Hdr) (p : List Byte) (s : State) : Out := .next (s.command 0x0603 l h p)

/-- R341, opcode 0x0604. -/
def execAttnRead (l : Link) (h : Hdr) (p : List Byte) (s : State) : Out := .next (s.command 0x0604 l h p)

/-- R341, opcode 0x0605. -/
def execAttnMask (l : Link) (h : Hdr) (p : List Byte) (s : State) : Out := .next (s.command 0x0605 l h p)

/-- R356, opcode 0x0701. -/
def execFwInfo (l : Link) (h : Hdr) (p : List Byte) (s : State) : Out := .next (s.command 0x0701 l h p)

/-- R342, opcode 0x0702. -/
def execFwWrite (l : Link) (h : Hdr) (p : List Byte) (s : State) : Out := .next (s.command 0x0702 l h p)

/-- R358, opcode 0x0703. -/
def execFwInstall (l : Link) (h : Hdr) (p : List Byte) (s : State) : Out := .next (s.command 0x0703 l h p)

/-- R276, opcode 0x0801. -/
def execRingStatus (l : Link) (h : Hdr) (p : List Byte) (s : State) : Out := .next (s.command 0x0801 l h p)

/-- R276, opcode 0x0802. -/
def execRingJoin (l : Link) (h : Hdr) (p : List Byte) (s : State) : Out := .next (s.command 0x0802 l h p)

/-- R278, opcode 0x0803. -/
def execRingLeave (l : Link) (h : Hdr) (p : List Byte) (s : State) : Out := .next (s.command 0x0803 l h p)

/-- R275, opcode 0x0804. -/
def execRosterRead (l : Link) (h : Hdr) (p : List Byte) (s : State) : Out := .next (s.command 0x0804 l h p)

/-- R275, opcode 0x0805. -/
def execPresentRead (l : Link) (h : Hdr) (p : List Byte) (s : State) : Out := .next (s.command 0x0805 l h p)

/-- R316, opcode 0x0901. -/
def execSafeStatus (l : Link) (h : Hdr) (p : List Byte) (s : State) : Out := .next (s.command 0x0901 l h p)

/-- R316, opcode 0x0902. -/
def execSafeParamWrite (l : Link) (h : Hdr) (p : List Byte) (s : State) : Out := .next (s.command 0x0902 l h p)

/-- R317, opcode 0x0903. -/
def execSafeParamCommit (l : Link) (h : Hdr) (p : List Byte) (s : State) : Out := .next (s.command 0x0903 l h p)

/-- R316, opcode 0x0904. -/
def execSafeParamRead (l : Link) (h : Hdr) (p : List Byte) (s : State) : Out := .next (s.command 0x0904 l h p)

/-- R308, opcode 0x0905. -/
def execSafeDiagRead (l : Link) (h : Hdr) (p : List Byte) (s : State) : Out := .next (s.command 0x0905 l h p)

/-- R295, opcode 0x0906. -/
def execSafeRestart (l : Link) (h : Hdr) (p : List Byte) (s : State) : Out := .next (s.command 0x0906 l h p)

/-- R56, opcode 0x0A01. -/
def execPertSet (l : Link) (h : Hdr) (p : List Byte) (s : State) : Out := .next (s.command 0x0A01 l h p)

/-- R375, opcode 0x0A02. -/
def execLoupeArm (l : Link) (h : Hdr) (p : List Byte) (s : State) : Out := .next (s.command 0x0A02 l h p)

/-- R375, opcode 0x0A03. -/
def execLoupeRead (l : Link) (h : Hdr) (p : List Byte) (s : State) : Out := .next (s.command 0x0A03 l h p)


/-! ### The two ports (R321 to R323) -/

/-- R321: the bytes of an SPI WRITE. -/
def execSpiWrite (b : List Byte) (s : State) : Out := .next (s.hostMoves (s.spiWrite b) b.length)

/-- R321: an SPI READ of `n` bytes. -/
def execSpiRead (n : Nat) (s : State) : Out := .next (s.hostMoves (s.spiRead n) n)

/-- R321: an SPI STATUS changes nothing; `State.spiStatusWord` is what it returns. -/
def execSpiStatus (s : State) : Out := .next s

/-- R322: a run of bytes on the UART with more than 32 character times before and after. -/
def execUartPacket (b : List Byte) (s : State) : Out := .next (s.hostMoves (s.uartRun b) b.length)

/-- R323. -/
def execUartPacketSent (s : State) : Out := .next (s.hostMoves s.uartSent s.uartOldest)

/-- R322. -/
def execBaudChange (s : State) : Out := .next s.baudChange

/-! ### Sessions, telemetry, and what ends later (R335, R338, R340, R379, R384) -/

/-- R335. -/
def execSessionTimeout (l : Link) (s : State) : Out := .next (s.sessionTimeout l)

/-- R335. -/
def execSessionBlockEnd (l : Link) (s : State) : Out := .next (s.sessionBlockEnd l)

/-- R340. -/
def execCrierTelemetry (s : State) : Out := .next s.crierSend

/-- R379. -/
def execHoldEnd (s : State) : Out := .next s.holdEnds

/-- R384. -/
def execCommandReset (s : State) : Out := .next s.commandReset

/-- R338. -/
def execCfgCommitComplete (s : State) : Out := .next s.cfgPhaseTwo

/-- R148. -/
def execProgCommitComplete (s : State) : Out := .next s.progPhaseTwo

/-- R140. -/
def execCoefWriteComplete (s : State) : Out := .next s.coefPhaseTwo

/-- R358. -/
def execFwInstallComplete (s : State) : Out := .next s.fwInstalled

/-- R317. -/
def execSafeParamCommitComplete (s : State) : Out := .next s.safeCommitted

/-- R379: a bus write of SYS_LTR. -/
def execSysLtrWrite (w : World) (v : Word) (s : State) : Out := .next (s.write w R.SYS_LTR v)

/-! ### The test access port (R361) -/

/-- R361. -/
def execKeyLoad (slot : Fin 8) (key : List Byte) (s : State) : Out := .next (s.keyLoad slot key)

/-- R361. -/
def execProvision (v : Byte) (s : State) : Out := .next (s.provision v)

/-- R361: the boundary cells, or none when the instruction is left. -/
def execExtest (x : TapScan) (s : State) : Out := .next (s.tapScan x)

end Sys2Proof.Machine
end

