-- ==== Sys2Proof/Machine/Island.lean ====
section
/-! DEFINITION. Machine/Island.lean: the commands of the safety island (R295 to R319), as the mirror `m` finds them. -/

namespace Sys2Proof.Machine

/-- Something happens in the island: a FAULT sends the device to LIMP, and a changed veto makes the latency policy decide (R309, R378,
R379). DEDUCED: log entry 42. -/
def State.islandDoes (s : State) (f : State → State) : State := s.policyAfter (fun t => (f t).limpIf)

/-- R301: the levels of the mirror's twelve channels. -/
def execInputSample (m : Mirror) (levels : BitVec 12) (s : State) : Out := .next (s.inputSample m levels)

/-- R300: test-pulse output `k` of the mirror. -/
def execTestPulseStart (m : Mirror) (k : Fin 2) (s : State) : Out := .next (s.pulseStart m k)

/-- R300. -/
def execTestPulseEnd (m : Mirror) (k : Fin 2) (s : State) : Out := .next (s.islandDoes (·.pulseEnd m k))

/-- R305: `rb` is the read-back of the five output balls and of the internal enable, `link` says that the cross-link exchange came
intact, `coded` that Mirror A's states are one-hot, and `cut` that the cut-path test of a turn-on of GEN passes. -/
def execMirrorScan (m : Mirror) (rb : BitVec 6) (link coded cut : Bool) (s : State) : Out :=
  .next (s.islandDoes (·.mirrorScan m rb link coded cut))

/-- R301: pair `n`. -/
def execDiscrepancyFault (m : Mirror) (n : Fin 12) (s : State) : Out := .next (s.islandDoes (·.discrepancy m n))

/-- R303: pair `n`. -/
def execInputFaultClear (m : Mirror) (n : Fin 12) (s : State) : Out := .next (s.islandDoes (·.faultClear m n))

/-- R304: how the mirror's SDC ball has stood. -/
def execSdcOvervoltage (m : Mirror) (x : SdcRun) (s : State) : Out := .next (s.islandDoes (·.overVoltage m x))

/-- R305: output `k`. -/
def execOutputDelayExpiry (m : Mirror) (k : Fin 5) (s : State) : Out := .next (s.islandDoes (·.delayExpiry m k))

/-- R306: output `k`. -/
def execEdmTimeout (m : Mirror) (k : Fin 5) (s : State) : Out := .next (s.islandDoes (·.edmTimeout m k))

/-- R307: output `k`. -/
def execOutputReadbackFault (m : Mirror) (k : Fin 5) (s : State) : Out := .next (s.islandDoes (·.readbackFault m k))

/-- R308. -/
def execCommandDisagreement (m : Mirror) (s : State) : Out := .next (s.islandDoes (·.commandDisagree m))

/-- R308. -/
def execCrossLinkFault (m : Mirror) (s : State) : Out := .next (s.islandDoes (·.crossLinkFault m))

/-- R308: the other mirror's cycles counted over 32,768 own ones. -/
def execOscCheck (m : Mirror) (n : Nat) (s : State) : Out := .next (s.islandDoes (·.oscCheck m n))

/-- R308. -/
def execParamCrcCheck (m : Mirror) (s : State) : Out := .next (s.islandDoes (·.paramCheck m))

/-- R308: Mirror B's program ROM has the right CRC when `ok`. -/
def execRomCrcCheck (ok : Bool) (s : State) : Out := .next (s.islandDoes (·.romCheck ok))

/-- R308. -/
def execMirrorSupplyFault (m : Mirror) (s : State) : Out := .next (s.islandDoes (·.mirrorSupply m))

/-- R312: connection `c`. -/
def execConnectionWatchdog (m : Mirror) (c : Fin 8) (s : State) : Out := .next (s.connExpire m c)

/-- R312. -/
def execConnectionFault (c : Fin 8) (s : State) : Out := .next (s.connFault c)

/-- R312. -/
def execConnectionFaultClear (c : Fin 8) (s : State) : Out := .next (s.connFaultClear c)

/-- R313. -/
def execDegradedTimeout (m : Mirror) (c : Fin 8) (s : State) : Out := .next (s.connDegradedEnd m c)

/-- R298: the codes of failed self-tests, 0 for none. -/
def execIslandBootEnd (codeA codeB : BitVec 8) (s : State) : Out :=
  .next (s.islandDoes (·.islandBootEnd codeA.toNat codeB.toNat))

/-- R295. -/
def execMirrorRegulatorPowerOn (m : Mirror) (s : State) : Out := .next (s.islandDoes (·.mirrorPowerOn m))

end Sys2Proof.Machine
end

