-- ==== Sys2Proof/Machine/MillAlu.lean ====
section
/-! DEFINITION. Machine/MillAlu.lean: the operations of the Mill's lanes (R123 to R131). Each command is the part that lane `ln` executes,
in the present cycle, of the bundle at the executing task's address: one of its ALU operation, its multiply-accumulate and its
load or store. A command whose operation the slot does not hold does nothing (log entry 2). -/

namespace Sys2Proof.Machine

/-- R126, 0x00: nothing happens. -/
def execOpNop (ln : Fin 4) (s : State) : Out :=
  .next (s.alu ln 0x00 (fun _ _ _ => s))

/-- R126, 0x01. DEDUCED: log entry 2. -/
def execOpAdd (ln : Fin 4) (s : State) : Out :=
  .next (s.aluArith ln 0x01 2 (fun v x => (v x.a).add (v x.b)))

/-- R126, 0x02. -/
def execOpSub (ln : Fin 4) (s : State) : Out :=
  .next (s.aluArith ln 0x02 2 (fun v x => (v x.a).add (v x.b).neg))

/-- R126, 0x03. -/
def execOpMul (ln : Fin 4) (s : State) : Out :=
  .next (s.aluArith ln 0x03 3 (fun v x => (v x.a).mul (v x.b)))

/-- R126, R127, 0x04. -/
def execOpMin (ln : Fin 4) (s : State) : Out :=
  .next (s.aluArith ln 0x04 2 (fun v x => (v x.a).min (v x.b)))

/-- R126, R127, 0x05. -/
def execOpMax (ln : Fin 4) (s : State) : Out :=
  .next (s.aluArith ln 0x05 2 (fun v x => (v x.a).max (v x.b)))

/-- R126, 0x06. -/
def execOpAbs (ln : Fin 4) (s : State) : Out :=
  .next (s.aluArith ln 0x06 1 (fun v x => (v x.a).abs))

/-- R126, 0x07. -/
def execOpNeg (ln : Fin 4) (s : State) : Out :=
  .next (s.aluArith ln 0x07 1 (fun v x => (v x.a).neg))

/-- R126, 0x08: between B, the low limit, and B+1, the high one. -/
def execOpSat (ln : Fin 4) (s : State) : Out :=
  .next (s.aluArith ln 0x08 2 (fun v x => (v x.a).clamp (v x.b) (v (x.b + 1))))

/-- R126, 0x09: Q1.31 to single precision. -/
def execOpCvtqf (ln : Fin 4) (s : State) : Out :=
  .next (s.alu ln 0x09 (fun t l x =>
    let (w, f) := roundSingle (.ofRat (qRat (l.get x.a)))
    (s.taskFlags t f).postReg ln 2 x.d w))

/-- R126, R127, 0x0A: single precision to Q1.31. -/
def execOpCvtfq (ln : Fin 4) (s : State) : Out :=
  .next (s.alu ln 0x0A (fun t l x =>
    let (w, f) := cvtFQ (l.get x.a)
    (s.taskFlags t f).postReg ln 2 x.d w))

/-- R126, 0x0B. -/
def execOpAnd (ln : Fin 4) (s : State) : Out :=
  .next (s.aluBits ln 0x0B (fun l x => l.get x.a &&& l.get x.b))

/-- R126, 0x0C. -/
def execOpOr (ln : Fin 4) (s : State) : Out :=
  .next (s.aluBits ln 0x0C (fun l x => l.get x.a ||| l.get x.b))

/-- R126, 0x0D. -/
def execOpXor (ln : Fin 4) (s : State) : Out :=
  .next (s.aluBits ln 0x0D (fun l x => l.get x.a ^^^ l.get x.b))

/-- R126, 0x0E. -/
def execOpShl (ln : Fin 4) (s : State) : Out :=
  .next (s.aluBits ln 0x0E (fun l x => l.get x.a <<< ((l.get x.b).toNat % 32)))

/-- R126, 0x0F. -/
def execOpShra (ln : Fin 4) (s : State) : Out :=
  .next (s.aluBits ln 0x0F (fun l x => (l.get x.a).sshiftRight ((l.get x.b).toNat % 32)))

/-- R126, R127, 0x10. -/
def execOpCmplt (ln : Fin 4) (s : State) : Out :=
  .next (s.aluCmp ln 0x10 (fun a b => a.lt b))

/-- R126, R127, 0x11. -/
def execOpCmple (ln : Fin 4) (s : State) : Out :=
  .next (s.aluCmp ln 0x11 (fun a b => a.lt b || a.eq b))

/-- R126, R127, 0x12. -/
def execOpCmpeq (ln : Fin 4) (s : State) : Out :=
  .next (s.aluCmp ln 0x12 (fun a b => a.eq b))

/-- R126, 0x13. -/
def execOpSel (ln : Fin 4) (s : State) : Out :=
  .next (s.aluBits ln 0x13 (fun l x => if l.c.getLsbD x.flag then l.get x.a else l.get x.b))

/-- R126, 0x14: the lane is named by bits 1:0 of the slot's B field. -/
def execOpMovx (ln : Fin 4) (s : State) : Out :=
  .next (s.alu ln 0x14 (fun _ _ x => s.postReg ln 2 x.d ((s.lane (x.b % 4)).get x.a)))

/-- R126, R127, 0x15. -/
def execOpMovacc (ln : Fin 4) (s : State) : Out :=
  .next (s.alu ln 0x15 (fun t l x =>
    let (w, f) := l.acc.read x.fixed
    (s.taskFlags t f).postReg ln 1 x.d w))

/-- R126, 0x16. -/
def execOpLdil (ln : Fin 4) (s : State) : Out :=
  .next (s.aluBits ln 0x16 (fun _ x => BitVec.ofNat 32 x.imm))

/-- R126, 0x17. -/
def execOpLdih (ln : Fin 4) (s : State) : Out :=
  .next (s.aluBits ln 0x17 (fun l x => setBits (l.get x.d) 16 16 x.imm))

/-- R126, 0x18. -/
def execOpSeta (ln : Fin 4) (s : State) : Out :=
  .next (s.alu ln 0x18 (fun _ _ x => s.post ln 1 (.addr (x.d % 4)) x.imm false false none))

/-- R126, 0x19. -/
def execOpClarke (ln : Fin 4) (s : State) : Out :=
  .next (s.aluPair ln 0x19 4 (fun v x => clarke (v x.a) (v (x.a + 1)) (v (x.a + 2))))

/-- R126, 0x1A: d = α cos + β sin, q = β cos − α sin. -/
def execOpPark (ln : Fin 4) (s : State) : Out :=
  .next (s.aluPair ln 0x1A 5 (fun v x => 
    let (al, be, si, co) := (v x.a, v (x.a + 1), v x.b, v (x.b + 1))
    ((al.mul co).add (be.mul si), (be.mul co).add (al.mul si).neg)))

/-- R126, 0x1B: α = d cos − q sin, β = d sin + q cos. -/
def execOpIpark (ln : Fin 4) (s : State) : Out :=
  .next (s.aluPair ln 0x1B 5 (fun v x => 
    let (di, qu, si, co) := (v x.a, v (x.a + 1), v x.b, v (x.b + 1))
    ((di.mul co).add (qu.mul si).neg, (di.mul si).add (qu.mul co))))

/-- R126, R127, 0x1C. -/
def execOpSincos (ln : Fin 4) (s : State) : Out :=
  .next (s.alu ln 0x1C (fun t l x =>
    let (w0, f0) := sincosOf x.fixed false (l.get x.a)
    let (w1, f1) := sincosOf x.fixed true (l.get x.a)
    ((s.taskFlags t (f0.or f1)).postReg ln 16 x.d w0).postReg ln 16 (x.d + 1) w1))

/-- R128, 0x1D. -/
def execOpBiq (ln : Fin 4) (s : State) : Out :=
  .next (s.alu ln 0x1D (fun t l x => s.biquad t ln l x))

/-- R129, 0x1E. -/
def execOpIntc (ln : Fin 4) (s : State) : Out :=
  .next (s.alu ln 0x1E (fun t l x => s.integrate t ln l x))

/-- R130, 0x1F. -/
def execOpInterp (ln : Fin 4) (s : State) : Out :=
  .next (s.alu ln 0x1F (fun t l x => s.interpolate t ln l x))

/-- R126, R127, 0x20. -/
def execOpDiv (ln : Fin 4) (s : State) : Out :=
  .next (s.alu ln 0x20 (fun t l x => s.divide t ln l x))

/-- R126, R127, 0x21. -/
def execOpSqrt (ln : Fin 4) (s : State) : Out :=
  .next (s.alu ln 0x21 (fun t l x => s.squareRoot t ln l x))

/-- R136, 0x22. -/
def execOpEnd (ln : Fin 4) (s : State) : Out :=
  .next (s.alu ln 0x22 (fun t _ _ => s.taskEnd t))

/-- R126, 0x23. -/
def execOpSev (ln : Fin 4) (s : State) : Out :=
  .next (s.alu ln 0x23 (fun _ _ _ => s.raise 0x5E))

/-- R126, R139, 0x24. -/
def execOpBswp (ln : Fin 4) (s : State) : Out :=
  .next (s.alu ln 0x24 (fun t _ _ => s.requestSwap (2 ^ t)))

/-- R126, 0x25 to 0x3F: a reserved code executes as NOP and sets ILL. -/
def execIllegalOp (ln : Fin 4) (s : State) : Out :=
  .next (match s.issuing ln with
    | some (t, x) => if 0x25 ≤ x.op then s.taskFlags t illegal else s
    | none => s)

/-- R123: MAC mode 1. -/
def execMacAccumulate (ln : Fin 4) (s : State) : Out :=
  .next (s.mac ln 1)

/-- R123: MAC mode 2. -/
def execMacSet (ln : Fin 4) (s : State) : Out :=
  .next (s.mac ln 2)

/-- R123: MAC mode 3. -/
def execMacSubtract (ln : Fin 4) (s : State) : Out :=
  .next (s.mac ln 3)

/-- R131. -/
def execOpLoad (ln : Fin 4) (s : State) : Out :=
  .next (s.laneLoad ln)

/-- R131. -/
def execOpStore (ln : Fin 4) (s : State) : Out :=
  .next (s.laneStore ln)

end Sys2Proof.Machine
end

