-- ==== Sys2Proof/Machine/MillCmd.lean ====
section
/-! DEFINITION. Machine/MillCmd.lean: the commands of the Mill's frames, tasks and policies (R132 to R147). -/

namespace Sys2Proof.Machine

/-- R132, R139, R141. -/
def execInputInstant (t : Fin 8) (s : State) : Out := .next (s.inputInstant t)

/-- R142. -/
def execPolicyHold (t : Fin 8) (s : State) : Out := .next (s.policyHold t)

/-- R142. -/
def execPolicyFallback (t : Fin 8) (s : State) : Out := .next (s.policyFallback t)

/-- R142. -/
def execPolicyTrip (t : Fin 8) (s : State) : Out := .next (s.policyTrip t)

/-- R133, R137. -/
def execTaskStart (t : Fin 8) (s : State) : Out := .next (s.taskStart t)

/-- R133. -/
def execProgramEndReached (s : State) : Out := .next s.programEnd

/-- R138: an access of the Mill, while the CORE domain runs, meets an uncorrectable word. -/
def execMillEccFatal (s : State) : Out := .next (if s.coreRuns then s.millFatal.limp 2 else s)

/-- R139: a write with 1 in MILL_TASKt_CTRL.SWAP. -/
def execSwapWrite (w : World) (t : Fin 8) (v : Word) (s : State) : Out := .next (s.write w (R.MILL_TASKt_CTRL t) (v ||| 2))

/-- R142: a write with 1 in MILL_TASKt_CTRL.RESUME. -/
def execResumeWrite (w : World) (t : Fin 8) (v : Word) (s : State) : Out := .next (s.write w (R.MILL_TASKt_CTRL t) (v ||| 1))

/-- R142: a write with 1 in MILL_TASKt_CTRL.REVERT. -/
def execRevertWrite (w : World) (t : Fin 8) (v : Word) (s : State) : Out := .next (s.write w (R.MILL_TASKt_CTRL t) (v ||| 4))

end Sys2Proof.Machine
end

