-- ==== Sys2Proof/Machine/Movement.lean ====
section
/-! DEFINITION. Machine/Movement.lean: the commands of memories, DMA and the event matrix (R347, R352, R366 to R374). -/

namespace Sys2Proof.Machine

/-- R347: `wrong` bits of the word that the scrubber reads have gone wrong. -/
def execScrubCycle (wrong : Nat) (s : State) : Out := .next (s.scrubCycle wrong)

/-- R352, R353: the lines corrected, the lines whose writes fail verification from now on, and the offsets of words that cannot be
corrected. -/
def execMramRefresh (corrected worn bad : List Nat) (s : State) : Out := .next (s.mramRefresh corrected worn bad)

/-- R367: a write with 1 in DMA_CHn_CTRL.GO. -/
def execDmaGo (w : World) (n : Fin 16) (v : Word) (s : State) : Out := .next (s.write w (R.DMA_CHn_CTRL n) (v ||| 1))

/-- R369: a write with 1 in DMA_CHn_CTRL.ABORT. -/
def execDmaAbort (w : World) (n : Fin 16) (v : Word) (s : State) : Out := .next (s.write w (R.DMA_CHn_CTRL n) (v ||| 2))

/-- R371: a write of DMA_CHn_CFG. -/
def execDmaCfgWrite (w : World) (n : Fin 16) (v : Word) (s : State) : Out := .next (s.write w (R.DMA_CHn_CFG n) v)

/-- R366 to R370: a granted beat of channel `n`; `wrong` bits of an SRAM word that it reads have gone wrong. -/
def execDmaBeat (n : Fin 16) (wrong : Nat) (s : State) : Out := .next (s.dmaBeat n wrong)

/-- R372. -/
def execEventDelivery (s : State) : Out := .next s.eventDelivery

/-- R374: a write with 1 in EVT_FORCE.GO. -/
def execEventForce (w : World) (v : Word) (s : State) : Out := .next (s.write w R.EVT_FORCE (v ||| 0x80))

end Sys2Proof.Machine
end

