-- ==== Sys2Proof/Machine/Power.lean ====
section
/-! DEFINITION. Machine/Power.lean: resets, supplies, boot and PFAIL (R381 to R389). -/

namespace Sys2Proof.Machine

/-- RST_N: a PIN reset, and from KEEP a wake (R381, R384). -/
def State.pinReset (s : State) : State := if s.sys.phase = .keep then s.keepWake 8 else s.systemReset 2

/-- R384. -/
def execPinReset (s : State) : Out := .next s.pinReset

/-- R384. -/
def execWatchdogReset (s : State) : Out := .next (s.systemReset 4)

/-- R384. -/
def execLockstepReset (s : State) : Out := .next (s.systemReset 5)

/-- R388: `vbak` says that VBAK is present. -/
def execBrownOut (vbak : Bool) (s : State) : Out := .next (s.brownOut vbak)

/-- R387. -/
def execSupplyReturn (s : State) : Out := .next s.supplyReturn

/-- R383. -/
def execVbakLoss (s : State) : Out := .next s.vbakLoss

/-- R387: the state of VDRV and VBAK as the boot finds them. -/
def execBootComplete (rails : Rails) (vbak : Bool) (s : State) : Out := .next (s.bootComplete rails vbak)

/-- R389. -/
def execPfailAssert (s : State) : Out := .next s.pfailAssert

/-- R389. -/
def execPfailDeassert (s : State) : Out := .next s.pfailDeassert

end Sys2Proof.Machine
end

