-- ==== Sys2Proof/Machine/Replay.lean ====
section
/-! DEFINITION. Machine/Replay.lean: the commands of perturbation, record and replay (R56 to R63). -/

namespace Sys2Proof.Machine

/-- R59: a write with 1 in TST_CTRL.PERT_EN. -/
def execPertEnable (w : World) (v : Word) (s : State) : Out := .next (s.write w R.TST_CTRL (v ||| 1))

/-- R60: a write with 1 in TST_RPL_CTRL.START. -/
def execRplStart (w : World) (v : Word) (s : State) : Out := .next (s.write w R.TST_RPL_CTRL (v ||| 4))

/-- R60: a write with 1 in TST_RPL_CTRL.ABORT. -/
def execRplAbort (w : World) (v : Word) (s : State) : Out := .next (s.write w R.TST_RPL_CTRL (v ||| 8))

/-- R60. -/
def execRplEngineStart (s : State) : Out := .next s.rplEngineStart

/-- R62. -/
def execRplReplayMatch (s : State) : Out := .next s.rplReplayMatch

/-- R62. -/
def execRplPhaseTimeout (s : State) : Out := .next s.rplPhaseTimeout

/-- R61. -/
def execRplRecordSlot (s : State) : Out := .next s.rplRecordSlot

/-- R62. -/
def execRplReplaySlot (s : State) : Out := .next s.rplReplaySlot

end Sys2Proof.Machine
end

