-- ==== Sys2Proof/Machine/RingCmd.lean ====
section
/-! DEFINITION. Machine/RingCmd.lean: the commands of the Pelkin ring (R264 to R292). A change of the node's state that lifts or raises a
veto makes the latency policy decide again (R379). -/

namespace Sys2Proof.Machine

/-- R268. -/
def execRoundIssue (s : State) : Out := .next s.roundIssue

/-- R271. -/
def execInsertionLatch (s : State) : Out := .next s.insertionLatch

/-- R271: a copy at port `p`: its bytes, the part of a cycle in its stamp, and its residence in 39 ps units. -/
def execCopyPassage (p : Port) (b : List Byte) (frac res : Nat) (s : State) : Out :=
  .next (s.policyAfter (·.copyPassage p b frac res))

/-- R272. -/
def execRoundDelivery (s : State) : Out := .next (s.policyAfter State.roundDelivery)

/-- R280: a message whose CRC is right when `ok`; `u` is this node's turnaround. -/
def execProbe (p : Port) (ok : Bool) (u : Nat) (s : State) : Out := .next (s.ringMessage ⟨p, ok⟩ (·.ringProbe p u))

/-- R280: the round trip `r` and the neighbour's turnaround `u`. -/
def execEcho (p : Port) (ok : Bool) (r u : Nat) (s : State) : Out := .next (s.ringMessage ⟨p, ok⟩ (·.ringEcho p r u))

/-- R277: `pos` is the knocking node's place along ring A. -/
def execKnock (via : Arrival) (uid : Dword) (slot : Fin 1024) (standby : Bool) (streams : List Word) (rper dinA dinB pos : Nat)
    (s : State) : Out :=
  .next (s.ringMessage via (·.ringTakes via (.knock uid slot (2 * bit1 standby) streams rper dinA dinB) (fun t =>
    t.ringKnock ⟨slot, uid, standby, streams.map rosterEntry, dinA, dinB, 0⟩ pos streams rper)))

/-- R277: the node, the generation, and the round it takes effect at. -/
def execAdmitted (via : Arrival) (node : NodeId) (gen gapAt : Nat) (s : State) : Out :=
  .next (s.policyAfter (·.ringMessage via (·.ringTakes via (.admitted node.uid node.slot gen gapAt) (·.ringAdmit node.uid gen gapAt))))

/-- R277. -/
def execRefuse (via : Arrival) (uid : Dword) (reason : Nat) (s : State) : Out :=
  .next (s.ringMessage via (·.ringTakes via (.refuse uid reason) (·.ringRefuse uid reason)))

/-- R278. -/
def execLeave (via : Arrival) (slot : Fin 1024) (s : State) : Out :=
  .next (s.ringMessage via (·.ringTakes via (.leave slot) (·.dropMember slot)))

/-- R274. -/
def execLinks (via : Arrival) (slot : Fin 1024) (dinA dinB : Nat) (s : State) : Out :=
  .next (s.ringMessage via (·.ringTakes via (.links slot dinA dinB) (·.ringLinks slot dinA dinB)))

/-- R275: 16 entries from `first` on. -/
def execRoster (via : Arrival) (gen first : Nat) (entries : List Word) (s : State) : Out :=
  .next (s.policyAfter (·.ringMessage via (·.ringTakes via (.roster gen first entries) (·.ringRoster gen first entries))))

/-- R275: a half of the present map, and T_need. -/
def execPresent (via : Arrival) (gen half : Nat) (map : BitVec 512) (need : Nat) (s : State) : Out :=
  .next (s.policyAfter (·.ringMessage via (·.ringTakes via (.present gen half map need) (·.ringPresent gen half map need))))

/-- R275. -/
def execGenerationChange (s : State) : Out := .next (s.policyAfter State.generationChange)

/-- R278. -/
def execMemberLost (slot : Fin 1024) (s : State) : Out := .next (s.memberLost slot)

/-- R279. -/
def execStandbyTakeover (s : State) : Out := .next (s.policyAfter State.standbyTakeover)

/-- R283. -/
def execRingLockGain (s : State) : Out := .next s.ringLockGain

/-- R283. -/
def execRingLockLoss (s : State) : Out := .next s.ringLockLoss

/-- R286: a condition of a lost input holds at a port, or holds no longer. DESIGN CHOICE: log entry 76. -/
def execPortInputLost (x : PortInput) (s : State) : Out :=
  .next (if s.sys.phase = .keep then s else s.portLoss x.port x.cause x.on)

/-- R287. -/
def execUnwrap (p : Port) (s : State) : Out := .next (s.unwrap p)

/-- R276: a write of RING_CTRL. -/
def execPortEnableWrite (w : World) (v : Word) (s : State) : Out := .next (s.write w R.RING_CTRL v)

/-- R276: a write with 1 in RING_CTRL.JOIN. -/
def execJoinWrite (w : World) (v : Word) (s : State) : Out := .next (s.write w R.RING_CTRL (v ||| 4))

/-- R278: a write with 1 in RING_CTRL.LEAVE. -/
def execLeaveWrite (w : World) (v : Word) (s : State) : Out := .next (s.write w R.RING_CTRL (v ||| 8))

/-- R273: a write of RING_TXWw. -/
def execTxLatchWrite (w : World) (i : Fin 128) (v : Word) (s : State) : Out := .next (s.write w (R.RING_TXWw i) v)

end Sys2Proof.Machine
end

