-- ==== Sys2Proof/Machine/Shaft.lean ====
section
/-! DEFINITION. Machine/Shaft.lean: the commands of shaft feedback (R252 to R262). -/

namespace Sys2Proof.Machine

/-- R253: a filtered transition of QB when `qb`, else of QA. -/
def execQuadratureStep (n : Fin 2) (qb : Bool) (s : State) : Out := .next (s.encStep n qb)

/-- R254. -/
def execIllegalTransition (n : Fin 2) (s : State) : Out := .next (s.encIllegal n)

/-- R255. -/
def execIndex (n : Fin 2) (s : State) : Out := .next (s.encIndex n)

/-- R257: the bits shifted in, the parity bit, and SDIn before the first falling edge. -/
def execSsiReadDone (n : Fin 2) (data : Word) (parity idleHigh : Bool) (s : State) : Out := .next (s.ssiDone n data parity idleHigh)

/-- R261. -/
def execShfDeposit (n : Fin 2) (s : State) : Out := .next (s.shfDeposit n)

/-- R260. -/
def execStillTimeout (n : Fin 2) (s : State) : Out := .next (s.encStill n)

/-- R262. -/
def execEmulationStep (s : State) : Out := .next s.emuStep

end Sys2Proof.Machine
end

