-- ==== Sys2Proof/Machine/Weather.lean ====
section
/-! DEFINITION. Machine/Weather.lean: the commands of the Weathervane (R91 to R119). -/

namespace Sys2Proof.Machine

/-- R92. -/
def execWvnSampleEnd (s : State) : Out := .next s.sampleEnd

/-- R93. -/
def execWvnSampleOutput (s : State) : Out := .next s.sampleOutput

/-- R98. -/
def execWvnLock (k : Fin 4) (s : State) : Out := .next (s.sampled k (·.wvnLock k))

/-- R93. -/
def execWvnValidLoss (k : Fin 4) (s : State) : Out := .next (s.sampled k (·.validLoss k))

/-- R100. -/
def execPhaseJump (k : Fin 4) (s : State) : Out := .next (s.sampled k (·.phaseJump k))

/-- R103: a write with 1 in WVN_SETs_SHD.RESYNC. -/
def execShadowResyncWrite (w : World) (k : Fin 4) (v : Word) (s : State) : Out :=
  .next (s.write w (R.WVN_SETs_SHD k) (v ||| 0x10000))

/-- R103. -/
def execShadowResyncDone (k : Fin 4) (s : State) : Out := .next (s.sampled k (·.resyncDone k))

/-- R105. -/
def execVsPickupHoldEnd (k : Fin 4) (s : State) : Out := .next (s.sampled k (·.vsHoldEnd k))

/-- R106, R109. -/
def execIslandDeclare (k : Fin 4) (s : State) : Out := .next (s.sampled k (·.islandDeclare k))

/-- R107. -/
def execActiveEstimate (k : Fin 4) (s : State) : Out := .next (s.activeEstimate k)

/-- R109: a write with 1 in WVN_SETs_ISLA.CLR. -/
def execIslandClear (w : World) (k : Fin 4) (v : Word) (s : State) : Out := .next (s.write w (R.WVN_SETs_ISLA k) (v ||| 0x100))

/-- R113. -/
def execFrtTransition (k : Fin 4) (s : State) : Out := .next (s.sampled k (·.frtTransition k))

/-- R113. -/
def execFrtConfirmElapsed (k : Fin 4) (s : State) : Out := .next (s.sampled k (·.frtConfirm k))

/-- R113. -/
def execFrtRecoverElapsed (k : Fin 4) (s : State) : Out := .next (s.sampled k (·.frtRecover k))

/-- R113: a write with 1 in WVN_SETs_FRT.CLR. -/
def execFrtClear (w : World) (k : Fin 4) (v : Word) (s : State) : Out := .next (s.write w (R.WVN_SETs_FRT k) (v ||| 4))

/-- R113: a write with 0 in WVN_SETs_FRT.EN. -/
def execFrtDisable (w : World) (k : Fin 4) (v : Word) (s : State) : Out := .next (s.write w (R.WVN_SETs_FRT k) (v &&& 0xFFFFFFFE))

/-- The carrier period of channel `m` that ends a dither period or a scan step has come to its valley. -/
def State.mppAtValley (s : State) (m : Nat) : Bool := s.mppOn m && s.atValley (s.get (F.WVN_MPPm_CFG_CAR m))

/-- R117: at the valley that ends the dither period. -/
def execMpptDitherEnd (m : Fin 8) (s : State) : Out :=
  .next (if s.mppAtValley m && s.ditherLast m then s.mppPeriod m else s)

/-- R118: a write with 1 in WVN_MPPm_CFG.SCAN_NOW. -/
def execMpptScanRequest (w : World) (m : Fin 8) (v : Word) (s : State) : Out :=
  .next (s.write w (R.WVN_MPPm_CFG m) (v ||| 0x4000000))

/-- R118: at the valley that ends a scan step. -/
def execMpptScanStep (m : Fin 8) (s : State) : Out :=
  .next (if s.mppAtValley m && s.scanLast m then s.mppPeriod m else s)

end Sys2Proof.Machine
end

