-- ==== Sys2Proof/Machine/Windows.lean ====
section
/-! DEFINITION. Machine/Windows.lean: the commands of the window monitors and of the WAKE comparators (R213 to R222). Voltages at
AINw are in µV. -/

namespace Sys2Proof.Machine

/-- A window compares continuously: it has started, settled, and operates so (R213 to R216). -/
def State.winCompares (s : State) (w : Nat) : Bool :=
  s.sys.phase == .run && (s.win w).running && s.winContinuous w && !s.on (F.CMP_WINw_STAT_SETTLING w)

/-- A window wakes DOZE while a comparator selected by EV_EN is active (R220). DEDUCED: log entry 13. -/
def State.winWakes (s : State) (w : Nat) : State :=
  s.whenB (s.on (F.CMP_WINw_CFG_WAKE w) && (List.range 3).any (fun i => s.bit (R.CMP_WINw_CFG w) (16 + i) && s.cmpActive w i))
    (·.wake false)

/-- CEIL of a window becomes active at a voltage (R217). -/
def State.ceilCrossing (s : State) (w : Nat) (v : Int) : State :=
  if s.winCompares w && s.cmpJudge w 2 v == some true then (s.judgeCmp w v 2).cmpSummary.winWakes w else s

/-- R217, R206. -/
def execCeilCrossing (w : Fin 48) (v : Int) (s : State) : Out := .next (s.ceilCrossing w v)

/-- R213: comparator `i` (0 LO, 1 HI, 2 CEIL) of a continuous window at a voltage. -/
def execComparatorChange (w : Fin 48) (i : Fin 3) (v : Int) (s : State) : Out :=
  .next (if s.winCompares w then ((s.judgeCmp w v i).cmpSummary).winWakes w else s)

/-- A sampling tick: every sampled window powers its comparators for 800 cycles; a continuous window that may wake DOZE is judged by
the state it holds (R214, R220). -/
def State.samplingTick (s : State) : State :=
  if s.sys.phase == .run && s.mode != .keep && s.count % (400 * max 10 (s.get F.CMP_CTRL_TICK)) == 0 then
    s.forAll 48 (fun w t =>
      if (t.win w).running && t.winSampled w then t.modWin w (fun x => { x with decideAt := some (t.count + 800) })
      else if t.winCompares w then t.winWakes w
      else t)
  else s

/-- R214. -/
def execSamplingTick (s : State) : Out := .next s.samplingTick

/-- A sampled window decides, 800 cycles after the tick (R214, R220). -/
def State.sampledDecision (s : State) (w : Nat) (v : Int) : State :=
  match (s.win w).decideAt with
  | some t =>
    if s.due t then
      let u := s.modWin w (fun x => { x with decideAt := none })
      if u.on (F.CMP_WINw_STAT_SETTLING w) then u else ((u.judgeWin w v).cmpSummary).winWakes w
    else s
  | none => s

/-- R214. -/
def execSampledDecision (w : Fin 48) (v : Int) (s : State) : Out := .next (s.sampledDecision w v)

/-- R216: MODE has left 0, the device has returned, or a commit has changed the window. -/
def execWindowMonitorStart (w : Fin 48) (s : State) : Out :=
  .next (if s.sys.phase == .run && s.mode != .keep && s.get (F.CMP_WINw_CFG_MODE w) != 0 && !(s.win w).running then s.winStart w
    else s)

/-- The end of settling (R216). -/
def State.settlingEnd (s : State) (w : Nat) (v : Int) : State :=
  if (s.win w).running && s.on (F.CMP_WINw_STAT_SETTLING w) && s.due (s.win w).settleEnd then
    let t := ((s.settleCmp w v 0).settleCmp w v 1).settleCmp w v 2
    ((t.clr (F.CMP_WINw_STAT_SETTLING w)).cmpSummary).winWakes w
  else s

/-- R216. -/
def execSettlingEnd (w : Fin 48) (v : Int) (s : State) : Out := .next (s.settlingEnd w v)

/-- R222: a sample of WAKE comparator `n` at a pin voltage in mV. -/
def execWakeSample (n : Fin 2) (v : Int) (s : State) : Out := .next (s.wakeSample n v)

end Sys2Proof.Machine
end

