-- ==== Sys2Proof/Machine/Dispatch.lean ====
section
/-! DEFINITION. Machine/Dispatch.lean: one arm for each command, calling its meaning. -/

namespace Sys2Proof.Machine

def exec (i : Instr) (s : State) : Host.Outcome State Fault Refusal :=
  match i with
  | .registerWrite w a v => Sys2Proof.Machine.execRegisterWrite w a v s
  | .blockLock w b v => Sys2Proof.Machine.execBlockLock w b v s
  | .refLost => Sys2Proof.Machine.execRefLost s
  | .syn0Lost => Sys2Proof.Machine.execSyn0Lost s
  | .syn1Lost => Sys2Proof.Machine.execSyn1Lost s
  | .syn0Lock => Sys2Proof.Machine.execSyn0Lock s
  | .trimWrite w v => Sys2Proof.Machine.execTrimWrite w v s
  | .rampStart w v => Sys2Proof.Machine.execRampStart w v s
  | .rampAbort w v => Sys2Proof.Machine.execRampAbort w v s
  | .rampTick => Sys2Proof.Machine.execRampTick s
  | .rampSegmentEnd => Sys2Proof.Machine.execRampSegmentEnd s
  | .sscWrite w syn1 v => Sys2Proof.Machine.execSscWrite w syn1 v s
  | .tbLoRead w => Sys2Proof.Machine.execTbLoRead w s
  | .compareTargetLoad w n v => Sys2Proof.Machine.execCompareTargetLoad w n v s
  | .compareEnable w n v => Sys2Proof.Machine.execCompareEnable w n v s
  | .compareMatch n => Sys2Proof.Machine.execCompareMatch n s
  | .captureLoRead w n => Sys2Proof.Machine.execCaptureLoRead w n s
  | .captureHiRead w n => Sys2Proof.Machine.execCaptureHiRead w n s
  | .rtcSet w v => Sys2Proof.Machine.execRtcSet w v s
  | .rtcLoRead w => Sys2Proof.Machine.execRtcLoRead w s
  | .rtcTbLoRead w => Sys2Proof.Machine.execRtcTbLoRead w s
  | .rtcSecond => Sys2Proof.Machine.execRtcSecond s
  | .rtcTrimInterval => Sys2Proof.Machine.execRtcTrimInterval s
  | .pertEnable w v => Sys2Proof.Machine.execPertEnable w v s
  | .rplStart w v => Sys2Proof.Machine.execRplStart w v s
  | .rplAbort w v => Sys2Proof.Machine.execRplAbort w v s
  | .rplEngineStart => Sys2Proof.Machine.execRplEngineStart s
  | .rplReplayMatch => Sys2Proof.Machine.execRplReplayMatch s
  | .rplPhaseTimeout => Sys2Proof.Machine.execRplPhaseTimeout s
  | .rplRecordSlot => Sys2Proof.Machine.execRplRecordSlot s
  | .rplReplaySlot => Sys2Proof.Machine.execRplReplaySlot s
  | .conversionSlot raw => Sys2Proof.Machine.execConversionSlot raw s
  | .intakeArrival => Sys2Proof.Machine.execIntakeArrival s
  | .acqDataRead w n => Sys2Proof.Machine.execAcqDataRead w n s
  | .acqEnableWrite w v => Sys2Proof.Machine.execAcqEnableWrite w v s
  | .acqStart => Sys2Proof.Machine.execAcqStart s
  | .acqStop => Sys2Proof.Machine.execAcqStop s
  | .configSyncInstant => Sys2Proof.Machine.execConfigSyncInstant s
  | .acqCalDone => Sys2Proof.Machine.execAcqCalDone s
  | .spareBlockEnd refOk => Sys2Proof.Machine.execSpareBlockEnd refOk s
  | .sliceCalEnd ok => Sys2Proof.Machine.execSliceCalEnd ok s
  | .trimDecay n => Sys2Proof.Machine.execTrimDecay n s
  | .spareReferenceEnd => Sys2Proof.Machine.execSpareReferenceEnd s
  | .spareRotationWrite w v => Sys2Proof.Machine.execSpareRotationWrite w v s
  | .windowOpen w => Sys2Proof.Machine.execWindowOpen w s
  | .windowClose w => Sys2Proof.Machine.execWindowClose w s
  | .windowPublish w => Sys2Proof.Machine.execWindowPublish w s
  | .prismSnapshot w v => Sys2Proof.Machine.execPrismSnapshot w v s
  | .streamIntervalEnd => Sys2Proof.Machine.execStreamIntervalEnd s
  | .streamPublish => Sys2Proof.Machine.execStreamPublish s
  | .wvnSampleEnd => Sys2Proof.Machine.execWvnSampleEnd s
  | .wvnSampleOutput => Sys2Proof.Machine.execWvnSampleOutput s
  | .wvnLock k => Sys2Proof.Machine.execWvnLock k s
  | .wvnValidLoss k => Sys2Proof.Machine.execWvnValidLoss k s
  | .phaseJump k => Sys2Proof.Machine.execPhaseJump k s
  | .shadowResyncWrite w k v => Sys2Proof.Machine.execShadowResyncWrite w k v s
  | .shadowResyncDone k => Sys2Proof.Machine.execShadowResyncDone k s
  | .vsPickupHoldEnd k => Sys2Proof.Machine.execVsPickupHoldEnd k s
  | .islandDeclare k => Sys2Proof.Machine.execIslandDeclare k s
  | .activeEstimate k => Sys2Proof.Machine.execActiveEstimate k s
  | .islandClear w k v => Sys2Proof.Machine.execIslandClear w k v s
  | .frtTransition k => Sys2Proof.Machine.execFrtTransition k s
  | .frtConfirmElapsed k => Sys2Proof.Machine.execFrtConfirmElapsed k s
  | .frtRecoverElapsed k => Sys2Proof.Machine.execFrtRecoverElapsed k s
  | .frtClear w k v => Sys2Proof.Machine.execFrtClear w k v s
  | .frtDisable w k v => Sys2Proof.Machine.execFrtDisable w k v s
  | .mpptDitherEnd m => Sys2Proof.Machine.execMpptDitherEnd m s
  | .mpptScanRequest w m v => Sys2Proof.Machine.execMpptScanRequest w m v s
  | .mpptScanStep m => Sys2Proof.Machine.execMpptScanStep m s
  | .carrierValley c => Sys2Proof.Machine.execCarrierValley c s
  | .carrierPeak c => Sys2Proof.Machine.execCarrierPeak c s
  | .loomCommitInstant c => Sys2Proof.Machine.execLoomCommitInstant c s
  | .carrierControlWrite w c v => Sys2Proof.Machine.execCarrierControlWrite w c v s
  | .carrierStart c => Sys2Proof.Machine.execCarrierStart c s
  | .compareShadowWrite w l down v => Sys2Proof.Machine.execCompareShadowWrite w l down v s
  | .pulseOpeningEdge l => Sys2Proof.Machine.execPulseOpeningEdge l s
  | .pulseClosingEdge l => Sys2Proof.Machine.execPulseClosingEdge l s
  | .deadTimeEnd l high => Sys2Proof.Machine.execDeadTimeEnd l high s
  | .dllLocked => Sys2Proof.Machine.execDllLocked s
  | .dllTrimStep o up inRange => Sys2Proof.Machine.execDllTrimStep o up inRange s
  | .interlock l seen => Sys2Proof.Machine.execInterlock l seen s
  | .tripLineAct k on => Sys2Proof.Machine.execTripLineAct k on s
  | .blankClose k => Sys2Proof.Machine.execBlankClose k s
  | .tripLineCfgWrite w k v => Sys2Proof.Machine.execTripLineCfgWrite w k v s
  | .tripLineMaskWrite w k v => Sys2Proof.Machine.execTripLineMaskWrite w k v s
  | .unblockRequest w v => Sys2Proof.Machine.execUnblockRequest w v s
  | .legResume l => Sys2Proof.Machine.execLegResume l s
  | .gdCtrlWrite w n v => Sys2Proof.Machine.execGdCtrlWrite w n v s
  | .cpOkChange k ok => Sys2Proof.Machine.execCpOkChange k ok s
  | .gdFault n => Sys2Proof.Machine.execGdFault n s
  | .gdMismatch n gate => Sys2Proof.Machine.execGdMismatch n gate s
  | .gdFaultClear w n v => Sys2Proof.Machine.execGdFaultClear w n v s
  | .fltAssert l on => Sys2Proof.Machine.execFltAssert l on s
  | .groupStaggerBlock g => Sys2Proof.Machine.execGroupStaggerBlock g s
  | .fltLatchClear w v => Sys2Proof.Machine.execFltLatchClear w v s
  | .groupTripClear w v => Sys2Proof.Machine.execGroupTripClear w v s
  | .vtripClear w n v => Sys2Proof.Machine.execVtripClear w n v s
  | .brkMinTimeElapsed n => Sys2Proof.Machine.execBrkMinTimeElapsed n s
  | .resistorModelTick n => Sys2Proof.Machine.execResistorModelTick n s
  | .brkBudgetSpent n => Sys2Proof.Machine.execBrkBudgetSpent n s
  | .brkTestGo w n v => Sys2Proof.Machine.execBrkTestGo w n v s
  | .brkTestEnd n => Sys2Proof.Machine.execBrkTestEnd n s
  | .ceilCrossing w v => Sys2Proof.Machine.execCeilCrossing w v s
  | .comparatorChange w k v => Sys2Proof.Machine.execComparatorChange w k v s
  | .samplingTick => Sys2Proof.Machine.execSamplingTick s
  | .sampledDecision w v => Sys2Proof.Machine.execSampledDecision w v s
  | .windowMonitorStart w => Sys2Proof.Machine.execWindowMonitorStart w s
  | .settlingEnd w v => Sys2Proof.Machine.execSettlingEnd w v s
  | .wakeSample n v => Sys2Proof.Machine.execWakeSample n v s
  | .granaryInterval => Sys2Proof.Machine.execGranaryInterval s
  | .zxTimeout m => Sys2Proof.Machine.execZxTimeout m s
  | .nozxCycleClose m => Sys2Proof.Machine.execNozxCycleClose m s
  | .dcBlockClose m => Sys2Proof.Machine.execDcBlockClose m s
  | .epoPulseStart k => Sys2Proof.Machine.execEpoPulseStart k s
  | .epoPulseEnd k => Sys2Proof.Machine.execEpoPulseEnd k s
  | .granarySnapGo w v => Sys2Proof.Machine.execGranarySnapGo w v s
  | .granarySnapshotTaken => Sys2Proof.Machine.execGranarySnapshotTaken s
  | .granaryLoRead w a => Sys2Proof.Machine.execGranaryLoRead w a s
  | .journalPeriod => Sys2Proof.Machine.execJournalPeriod s
  | .journalCommitWrite w v => Sys2Proof.Machine.execJournalCommitWrite w v s
  | .journalRecordDone ok => Sys2Proof.Machine.execJournalRecordDone ok s
  | .quadratureStep n qb => Sys2Proof.Machine.execQuadratureStep n qb s
  | .illegalTransition n => Sys2Proof.Machine.execIllegalTransition n s
  | .index n => Sys2Proof.Machine.execIndex n s
  | .ssiReadDone n data parity idleHigh => Sys2Proof.Machine.execSsiReadDone n data parity idleHigh s
  | .shfDeposit n => Sys2Proof.Machine.execShfDeposit n s
  | .stillTimeout n => Sys2Proof.Machine.execStillTimeout n s
  | .emulationStep => Sys2Proof.Machine.execEmulationStep s
  | .roundIssue => Sys2Proof.Machine.execRoundIssue s
  | .insertionLatch => Sys2Proof.Machine.execInsertionLatch s
  | .copyPassage p b frac res => Sys2Proof.Machine.execCopyPassage p b frac res s
  | .roundDelivery => Sys2Proof.Machine.execRoundDelivery s
  | .probe p ok u => Sys2Proof.Machine.execProbe p ok u s
  | .echo p ok r u => Sys2Proof.Machine.execEcho p ok r u s
  | .knock via uid slot standby streams rper dinA dinB pos => Sys2Proof.Machine.execKnock via uid slot standby streams rper dinA dinB pos s
  | .admitted via node gen gapAt => Sys2Proof.Machine.execAdmitted via node gen gapAt s
  | .refuse via uid reason => Sys2Proof.Machine.execRefuse via uid reason s
  | .leave via slot => Sys2Proof.Machine.execLeave via slot s
  | .links via slot dinA dinB => Sys2Proof.Machine.execLinks via slot dinA dinB s
  | .roster via gen first entries => Sys2Proof.Machine.execRoster via gen first entries s
  | .present via gen half map need => Sys2Proof.Machine.execPresent via gen half map need s
  | .generationChange => Sys2Proof.Machine.execGenerationChange s
  | .memberLost slot => Sys2Proof.Machine.execMemberLost slot s
  | .standbyTakeover => Sys2Proof.Machine.execStandbyTakeover s
  | .ringLockGain => Sys2Proof.Machine.execRingLockGain s
  | .ringLockLoss => Sys2Proof.Machine.execRingLockLoss s
  | .portInputLost x => Sys2Proof.Machine.execPortInputLost x s
  | .unwrap p => Sys2Proof.Machine.execUnwrap p s
  | .portEnableWrite w v => Sys2Proof.Machine.execPortEnableWrite w v s
  | .joinWrite w v => Sys2Proof.Machine.execJoinWrite w v s
  | .leaveWrite w v => Sys2Proof.Machine.execLeaveWrite w v s
  | .txLatchWrite w k v => Sys2Proof.Machine.execTxLatchWrite w k v s
  | .inputInstant t => Sys2Proof.Machine.execInputInstant t s
  | .policyHold t => Sys2Proof.Machine.execPolicyHold t s
  | .policyFallback t => Sys2Proof.Machine.execPolicyFallback t s
  | .policyTrip t => Sys2Proof.Machine.execPolicyTrip t s
  | .taskStart t => Sys2Proof.Machine.execTaskStart t s
  | .programEndReached => Sys2Proof.Machine.execProgramEndReached s
  | .millEccFatal => Sys2Proof.Machine.execMillEccFatal s
  | .opNop ln => Sys2Proof.Machine.execOpNop ln s
  | .opAdd ln => Sys2Proof.Machine.execOpAdd ln s
  | .opSub ln => Sys2Proof.Machine.execOpSub ln s
  | .opMul ln => Sys2Proof.Machine.execOpMul ln s
  | .opMin ln => Sys2Proof.Machine.execOpMin ln s
  | .opMax ln => Sys2Proof.Machine.execOpMax ln s
  | .opAbs ln => Sys2Proof.Machine.execOpAbs ln s
  | .opNeg ln => Sys2Proof.Machine.execOpNeg ln s
  | .opSat ln => Sys2Proof.Machine.execOpSat ln s
  | .opCvtqf ln => Sys2Proof.Machine.execOpCvtqf ln s
  | .opCvtfq ln => Sys2Proof.Machine.execOpCvtfq ln s
  | .opAnd ln => Sys2Proof.Machine.execOpAnd ln s
  | .opOr ln => Sys2Proof.Machine.execOpOr ln s
  | .opXor ln => Sys2Proof.Machine.execOpXor ln s
  | .opShl ln => Sys2Proof.Machine.execOpShl ln s
  | .opShra ln => Sys2Proof.Machine.execOpShra ln s
  | .opCmplt ln => Sys2Proof.Machine.execOpCmplt ln s
  | .opCmple ln => Sys2Proof.Machine.execOpCmple ln s
  | .opCmpeq ln => Sys2Proof.Machine.execOpCmpeq ln s
  | .opSel ln => Sys2Proof.Machine.execOpSel ln s
  | .opMovx ln => Sys2Proof.Machine.execOpMovx ln s
  | .opMovacc ln => Sys2Proof.Machine.execOpMovacc ln s
  | .opLdil ln => Sys2Proof.Machine.execOpLdil ln s
  | .opLdih ln => Sys2Proof.Machine.execOpLdih ln s
  | .opSeta ln => Sys2Proof.Machine.execOpSeta ln s
  | .opClarke ln => Sys2Proof.Machine.execOpClarke ln s
  | .opPark ln => Sys2Proof.Machine.execOpPark ln s
  | .opIpark ln => Sys2Proof.Machine.execOpIpark ln s
  | .opSincos ln => Sys2Proof.Machine.execOpSincos ln s
  | .opBiq ln => Sys2Proof.Machine.execOpBiq ln s
  | .opIntc ln => Sys2Proof.Machine.execOpIntc ln s
  | .opInterp ln => Sys2Proof.Machine.execOpInterp ln s
  | .opDiv ln => Sys2Proof.Machine.execOpDiv ln s
  | .opSqrt ln => Sys2Proof.Machine.execOpSqrt ln s
  | .opEnd ln => Sys2Proof.Machine.execOpEnd ln s
  | .opSev ln => Sys2Proof.Machine.execOpSev ln s
  | .opBswp ln => Sys2Proof.Machine.execOpBswp ln s
  | .illegalOp ln => Sys2Proof.Machine.execIllegalOp ln s
  | .macAccumulate ln => Sys2Proof.Machine.execMacAccumulate ln s
  | .macSet ln => Sys2Proof.Machine.execMacSet ln s
  | .macSubtract ln => Sys2Proof.Machine.execMacSubtract ln s
  | .opLoad ln => Sys2Proof.Machine.execOpLoad ln s
  | .opStore ln => Sys2Proof.Machine.execOpStore ln s
  | .swapWrite w t v => Sys2Proof.Machine.execSwapWrite w t v s
  | .resumeWrite w t v => Sys2Proof.Machine.execResumeWrite w t v s
  | .revertWrite w t v => Sys2Proof.Machine.execRevertWrite w t v s
  | .scrubCycle wrong => Sys2Proof.Machine.execScrubCycle wrong s
  | .mramRefresh corrected worn bad => Sys2Proof.Machine.execMramRefresh corrected worn bad s
  | .dmaGo w n v => Sys2Proof.Machine.execDmaGo w n v s
  | .dmaAbort w n v => Sys2Proof.Machine.execDmaAbort w n v s
  | .dmaCfgWrite w n v => Sys2Proof.Machine.execDmaCfgWrite w n v s
  | .dmaBeat n wrong => Sys2Proof.Machine.execDmaBeat n wrong s
  | .eventDelivery => Sys2Proof.Machine.execEventDelivery s
  | .eventForce w v => Sys2Proof.Machine.execEventForce w v s
  | .spiWrite b => Sys2Proof.Machine.execSpiWrite b s
  | .spiRead n => Sys2Proof.Machine.execSpiRead n s
  | .spiStatus => Sys2Proof.Machine.execSpiStatus s
  | .uartPacket b => Sys2Proof.Machine.execUartPacket b s
  | .baudChange => Sys2Proof.Machine.execBaudChange s
  | .sessionTimeout l => Sys2Proof.Machine.execSessionTimeout l s
  | .sessionBlockEnd l => Sys2Proof.Machine.execSessionBlockEnd l s
  | .crierTelemetry => Sys2Proof.Machine.execCrierTelemetry s
  | .hello l h p => Sys2Proof.Machine.execHello l h p s
  | .sync l h p => Sys2Proof.Machine.execSync l h p s
  | .replay l h p => Sys2Proof.Machine.execReplay l h p s
  | .opStatus l h p => Sys2Proof.Machine.execOpStatus l h p s
  | .sessionOpen l h p => Sys2Proof.Machine.execSessionOpen l h p s
  | .sessionClose l h p => Sys2Proof.Machine.execSessionClose l h p s
  | .portSet l h p => Sys2Proof.Machine.execPortSet l h p s
  | .regRead l h p => Sys2Proof.Machine.execRegRead l h p s
  | .regWrite l h p => Sys2Proof.Machine.execRegWrite l h p s
  | .status l h p => Sys2Proof.Machine.execStatus l h p s
  | .modeSet l h p => Sys2Proof.Machine.execModeSet l h p s
  | .ltrSet l h p => Sys2Proof.Machine.execLtrSet l h p s
  | .holdEnd => Sys2Proof.Machine.execHoldEnd s
  | .reset l h p => Sys2Proof.Machine.execReset l h p s
  | .commandReset => Sys2Proof.Machine.execCommandReset s
  | .cfgWrite l h p => Sys2Proof.Machine.execCfgWrite l h p s
  | .cfgCommit l h p => Sys2Proof.Machine.execCfgCommit l h p s
  | .cfgCommitComplete => Sys2Proof.Machine.execCfgCommitComplete s
  | .cfgAbort l h p => Sys2Proof.Machine.execCfgAbort l h p s
  | .cfgInfo l h p => Sys2Proof.Machine.execCfgInfo l h p s
  | .cfgRead l h p => Sys2Proof.Machine.execCfgRead l h p s
  | .progWrite l h p => Sys2Proof.Machine.execProgWrite l h p s
  | .progCommit l h p => Sys2Proof.Machine.execProgCommit l h p s
  | .progCommitComplete => Sys2Proof.Machine.execProgCommitComplete s
  | .dmemImageWrite l h p => Sys2Proof.Machine.execDmemImageWrite l h p s
  | .coefWrite l h p => Sys2Proof.Machine.execCoefWrite l h p s
  | .coefWriteComplete => Sys2Proof.Machine.execCoefWriteComplete s
  | .bankSwap l h p => Sys2Proof.Machine.execBankSwap l h p s
  | .taskResume l h p => Sys2Proof.Machine.execTaskResume l h p s
  | .granaryRead l h p => Sys2Proof.Machine.execGranaryRead l h p s
  | .granarySnapshot l h p => Sys2Proof.Machine.execGranarySnapshot l h p s
  | .journalCommit l h p => Sys2Proof.Machine.execJournalCommit l h p s
  | .journalRead l h p => Sys2Proof.Machine.execJournalRead l h p s
  | .granaryPreset l h p => Sys2Proof.Machine.execGranaryPreset l h p s
  | .uncleanRead l h p => Sys2Proof.Machine.execUncleanRead l h p s
  | .logRead l h p => Sys2Proof.Machine.execLogRead l h p s
  | .logInfo l h p => Sys2Proof.Machine.execLogInfo l h p s
  | .crierSet l h p => Sys2Proof.Machine.execCrierSet l h p s
  | .attnRead l h p => Sys2Proof.Machine.execAttnRead l h p s
  | .attnMask l h p => Sys2Proof.Machine.execAttnMask l h p s
  | .fwInfo l h p => Sys2Proof.Machine.execFwInfo l h p s
  | .fwWrite l h p => Sys2Proof.Machine.execFwWrite l h p s
  | .fwInstall l h p => Sys2Proof.Machine.execFwInstall l h p s
  | .fwInstallComplete => Sys2Proof.Machine.execFwInstallComplete s
  | .ringStatus l h p => Sys2Proof.Machine.execRingStatus l h p s
  | .ringJoin l h p => Sys2Proof.Machine.execRingJoin l h p s
  | .ringLeave l h p => Sys2Proof.Machine.execRingLeave l h p s
  | .rosterRead l h p => Sys2Proof.Machine.execRosterRead l h p s
  | .presentRead l h p => Sys2Proof.Machine.execPresentRead l h p s
  | .safeStatus l h p => Sys2Proof.Machine.execSafeStatus l h p s
  | .safeParamWrite l h p => Sys2Proof.Machine.execSafeParamWrite l h p s
  | .safeParamCommit l h p => Sys2Proof.Machine.execSafeParamCommit l h p s
  | .safeParamCommitComplete => Sys2Proof.Machine.execSafeParamCommitComplete s
  | .safeParamRead l h p => Sys2Proof.Machine.execSafeParamRead l h p s
  | .safeDiagRead l h p => Sys2Proof.Machine.execSafeDiagRead l h p s
  | .safeRestart l h p => Sys2Proof.Machine.execSafeRestart l h p s
  | .pertSet l h p => Sys2Proof.Machine.execPertSet l h p s
  | .loupeArm l h p => Sys2Proof.Machine.execLoupeArm l h p s
  | .loupeRead l h p => Sys2Proof.Machine.execLoupeRead l h p s
  | .inputSample m levels => Sys2Proof.Machine.execInputSample m levels s
  | .testPulseStart m k => Sys2Proof.Machine.execTestPulseStart m k s
  | .testPulseEnd m k => Sys2Proof.Machine.execTestPulseEnd m k s
  | .mirrorScan m rb link coded cut => Sys2Proof.Machine.execMirrorScan m rb link coded cut s
  | .discrepancyFault m n => Sys2Proof.Machine.execDiscrepancyFault m n s
  | .inputFaultClear m n => Sys2Proof.Machine.execInputFaultClear m n s
  | .sdcOvervoltage m x => Sys2Proof.Machine.execSdcOvervoltage m x s
  | .outputDelayExpiry m k => Sys2Proof.Machine.execOutputDelayExpiry m k s
  | .edmTimeout m k => Sys2Proof.Machine.execEdmTimeout m k s
  | .outputReadbackFault m k => Sys2Proof.Machine.execOutputReadbackFault m k s
  | .commandDisagreement m => Sys2Proof.Machine.execCommandDisagreement m s
  | .crossLinkFault m => Sys2Proof.Machine.execCrossLinkFault m s
  | .oscCheck m n => Sys2Proof.Machine.execOscCheck m n s
  | .paramCrcCheck m => Sys2Proof.Machine.execParamCrcCheck m s
  | .romCrcCheck ok => Sys2Proof.Machine.execRomCrcCheck ok s
  | .mirrorSupplyFault m => Sys2Proof.Machine.execMirrorSupplyFault m s
  | .connectionWatchdog m c => Sys2Proof.Machine.execConnectionWatchdog m c s
  | .connectionFault c => Sys2Proof.Machine.execConnectionFault c s
  | .connectionFaultClear c => Sys2Proof.Machine.execConnectionFaultClear c s
  | .degradedTimeout m c => Sys2Proof.Machine.execDegradedTimeout m c s
  | .islandBootEnd codeA codeB => Sys2Proof.Machine.execIslandBootEnd codeA codeB s
  | .pinReset => Sys2Proof.Machine.execPinReset s
  | .watchdogReset => Sys2Proof.Machine.execWatchdogReset s
  | .lockstepReset => Sys2Proof.Machine.execLockstepReset s
  | .brownOut vbak => Sys2Proof.Machine.execBrownOut vbak s
  | .supplyReturn => Sys2Proof.Machine.execSupplyReturn s
  | .vbakLoss => Sys2Proof.Machine.execVbakLoss s
  | .bootComplete rails vbak => Sys2Proof.Machine.execBootComplete rails vbak s
  | .pfailAssert => Sys2Proof.Machine.execPfailAssert s
  | .pfailDeassert => Sys2Proof.Machine.execPfailDeassert s
  | .syn1Lock => Sys2Proof.Machine.execSyn1Lock s
  | .meterEnableWrite w v => Sys2Proof.Machine.execMeterEnableWrite w v s
  | .sysLtrWrite w v => Sys2Proof.Machine.execSysLtrWrite w v s
  | .uartPacketSent => Sys2Proof.Machine.execUartPacketSent s
  | .mirrorRegulatorPowerOn m => Sys2Proof.Machine.execMirrorRegulatorPowerOn m s
  | .vdrvUndervoltage low => Sys2Proof.Machine.execVdrvUndervoltage low s
  | .keyLoad slot key => Sys2Proof.Machine.execKeyLoad slot key s
  | .provision v => Sys2Proof.Machine.execProvision v s
  | .extest x => Sys2Proof.Machine.execExtest x s

end Sys2Proof.Machine
end

