-- ==== Sys2Proof/Machine/Tick.lean ====
section
/-! DEFINITION. Machine/Tick.lean: one CORE cycle, which passes when no command waits (log entry 1). -/

namespace Sys2Proof.Machine

/-- A CORE cycle ends: the lanes take their stores and results and go on to the next bundle, the emulation's lag is judged, and COUNT
advances. In the next cycle the events of tasks and DMA transfers that completed are raised, what was written of trip lines takes effect,
CORE sees the comparator changes that have passed their synchronisers, and a replay ends after its last slot (R31, R63, R124, R136, R188, R219,
R262, R370). DESIGN CHOICE: log entry 1. -/
def State.tick (s : State) : State :=
  let t := if s.coreRuns then s.digestFlush.millTick.emuLag else s
  let u := { (if t.timebaseRuns then t.refTick.countTick else t) with cycle := {} }
  let u := u.endEvent s
  let u := if s.cycle.old = [] then u else u.forAll 16 (fun k v => v.tlWritten s k)
  if u.timebaseRuns then u.dmaTick.winTick.rplFinish else u

end Sys2Proof.Machine
end

