-- ==== Sys2Proof/WellFormed.lean ====
section
/-! DEFINITION. WellFormed.lean: which terms of `Instr` stand for a command that the block can be given: the bounds that the spec puts on
an operand and that its type does not (R64, R324, R271, R274, R277, R352, R361). The meanings are total, and ask for none of this. -/

namespace Sys2Proof

open Sys2Proof.Machine

/-- The operands are ones that the spec allows: seventeen converters (R64), a payload of at most 4,096 bytes and a tag of 16 (R324), a
key of 32 bytes (R361), chunks of 16 Roster entries and two halves of the present map (R274, R275), six streams in a KNOCK (R274), a part
of a cycle below 64 (R31), an address of the Granary (R238), and offsets of MRAM words (R352). -/
def Instr.wellFormed : Instr → Bool
  | .registerWrite _ _ _ | .blockLock _ _ _ | .refLost | .syn0Lost | .syn1Lost | .syn0Lock | .trimWrite _ _
  | .rampStart _ _ | .rampAbort _ _ | .rampTick | .rampSegmentEnd | .sscWrite _ _ _ | .tbLoRead _
  | .compareTargetLoad _ _ _ | .compareEnable _ _ _ | .compareMatch _ | .captureLoRead _ _ | .captureHiRead _ _
  | .rtcSet _ _ | .rtcLoRead _ | .rtcTbLoRead _ | .rtcSecond | .rtcTrimInterval | .pertEnable _ _ | .rplStart _ _
  | .rplAbort _ _ | .rplEngineStart | .rplReplayMatch | .rplPhaseTimeout | .rplRecordSlot | .rplReplaySlot => true
  | .conversionSlot raw => raw.length == 17
  | .intakeArrival | .acqDataRead _ _ | .acqEnableWrite _ _ | .acqStart | .acqStop | .configSyncInstant | .acqCalDone
  | .spareBlockEnd _ | .sliceCalEnd _ | .trimDecay _ | .spareReferenceEnd | .spareRotationWrite _ _ | .windowOpen _
  | .windowClose _ | .windowPublish _ | .prismSnapshot _ _ | .streamIntervalEnd | .streamPublish | .wvnSampleEnd
  | .wvnSampleOutput | .wvnLock _ | .wvnValidLoss _ | .phaseJump _ | .shadowResyncWrite _ _ _ | .shadowResyncDone _
  | .vsPickupHoldEnd _ | .islandDeclare _ | .activeEstimate _ | .islandClear _ _ _ | .frtTransition _
  | .frtConfirmElapsed _ | .frtRecoverElapsed _ | .frtClear _ _ _ | .frtDisable _ _ _ | .mpptDitherEnd _
  | .mpptScanRequest _ _ _ | .mpptScanStep _ | .carrierValley _ | .carrierPeak _ | .loomCommitInstant _
  | .carrierControlWrite _ _ _ | .carrierStart _ | .compareShadowWrite _ _ _ _ | .pulseOpeningEdge _
  | .pulseClosingEdge _ | .deadTimeEnd _ _ | .dllLocked | .dllTrimStep _ _ _ | .interlock _ _ | .tripLineAct _ _
  | .blankClose _ | .tripLineCfgWrite _ _ _ | .tripLineMaskWrite _ _ _ | .unblockRequest _ _ | .legResume _
  | .gdCtrlWrite _ _ _ | .cpOkChange _ _ | .gdFault _ | .gdMismatch _ _ | .gdFaultClear _ _ _ | .fltAssert _ _
  | .groupStaggerBlock _ | .fltLatchClear _ _ | .groupTripClear _ _ | .vtripClear _ _ _ | .brkMinTimeElapsed _
  | .resistorModelTick _ | .brkBudgetSpent _ | .brkTestGo _ _ _ | .brkTestEnd _ | .ceilCrossing _ _
  | .comparatorChange _ _ _ | .samplingTick | .sampledDecision _ _ | .windowMonitorStart _ | .settlingEnd _ _
  | .wakeSample _ _ | .granaryInterval | .zxTimeout _ | .nozxCycleClose _ | .dcBlockClose _ | .epoPulseStart _
  | .epoPulseEnd _ | .granarySnapGo _ _ | .granarySnapshotTaken => true
  | .granaryLoRead _ a => decide (blockBase 9 ≤ a.toNat) && decide (a.toNat < blockBase 10)
  | .journalPeriod | .journalCommitWrite _ _ | .journalRecordDone _ | .quadratureStep _ _ | .illegalTransition _
  | .index _ | .ssiReadDone _ _ _ _ | .shfDeposit _ | .stillTimeout _ | .emulationStep | .roundIssue | .insertionLatch => true
  | .copyPassage _ _ frac _ => decide (frac < 64)
  | .roundDelivery | .probe _ _ _ | .echo _ _ _ _ => true
  | .knock _ _ _ _ streams _ _ _ _ => streams.length == 6
  | .admitted _ _ _ _ | .refuse _ _ _ | .leave _ _ | .links _ _ _ _ => true
  | .roster _ _ first entries => first % 16 == 0 && decide (first < 6144) && entries.length == 16
  | .present _ _ half _ _ => decide (half < 2)
  | .generationChange | .memberLost _ | .standbyTakeover | .ringLockGain | .ringLockLoss | .portInputLost _ | .unwrap _
  | .portEnableWrite _ _ | .joinWrite _ _ | .leaveWrite _ _ | .txLatchWrite _ _ _ | .inputInstant _ | .policyHold _
  | .policyFallback _ | .policyTrip _ | .taskStart _ | .programEndReached | .millEccFatal | .opNop _ | .opAdd _
  | .opSub _ | .opMul _ | .opMin _ | .opMax _ | .opAbs _ | .opNeg _ | .opSat _ | .opCvtqf _ | .opCvtfq _ | .opAnd _
  | .opOr _ | .opXor _ | .opShl _ | .opShra _ | .opCmplt _ | .opCmple _ | .opCmpeq _ | .opSel _ | .opMovx _
  | .opMovacc _ | .opLdil _ | .opLdih _ | .opSeta _ | .opClarke _ | .opPark _ | .opIpark _ | .opSincos _ | .opBiq _
  | .opIntc _ | .opInterp _ | .opDiv _ | .opSqrt _ | .opEnd _ | .opSev _ | .opBswp _ | .illegalOp _ | .macAccumulate _
  | .macSet _ | .macSubtract _ | .opLoad _ | .opStore _ | .swapWrite _ _ _ | .resumeWrite _ _ _ | .revertWrite _ _ _
  | .scrubCycle _ => true
  | .mramRefresh corrected worn bad => (corrected ++ worn).all (fun l => decide (l < 0x8000)) && bad.all (fun o => o % 8 == 0 && decide (o < 0x800000))
  | .dmaGo _ _ _ | .dmaAbort _ _ _ | .dmaCfgWrite _ _ _ | .dmaBeat _ _ | .eventDelivery | .eventForce _ _ | .spiWrite _
  | .spiRead _ | .spiStatus | .uartPacket _ | .baudChange | .sessionTimeout _ | .sessionBlockEnd _ | .crierTelemetry => true
  | .hello _ h p => hdrFits h p
  | .sync _ h p => hdrFits h p
  | .replay _ h p => hdrFits h p
  | .opStatus _ h p => hdrFits h p
  | .sessionOpen _ h p => hdrFits h p
  | .sessionClose _ h p => hdrFits h p
  | .portSet _ h p => hdrFits h p
  | .regRead _ h p => hdrFits h p
  | .regWrite _ h p => hdrFits h p
  | .status _ h p => hdrFits h p
  | .modeSet _ h p => hdrFits h p
  | .ltrSet _ h p => hdrFits h p
  | .holdEnd => true
  | .reset _ h p => hdrFits h p
  | .commandReset => true
  | .cfgWrite _ h p => hdrFits h p
  | .cfgCommit _ h p => hdrFits h p
  | .cfgCommitComplete => true
  | .cfgAbort _ h p => hdrFits h p
  | .cfgInfo _ h p => hdrFits h p
  | .cfgRead _ h p => hdrFits h p
  | .progWrite _ h p => hdrFits h p
  | .progCommit _ h p => hdrFits h p
  | .progCommitComplete => true
  | .dmemImageWrite _ h p => hdrFits h p
  | .coefWrite _ h p => hdrFits h p
  | .coefWriteComplete => true
  | .bankSwap _ h p => hdrFits h p
  | .taskResume _ h p => hdrFits h p
  | .granaryRead _ h p => hdrFits h p
  | .granarySnapshot _ h p => hdrFits h p
  | .journalCommit _ h p => hdrFits h p
  | .journalRead _ h p => hdrFits h p
  | .granaryPreset _ h p => hdrFits h p
  | .uncleanRead _ h p => hdrFits h p
  | .logRead _ h p => hdrFits h p
  | .logInfo _ h p => hdrFits h p
  | .crierSet _ h p => hdrFits h p
  | .attnRead _ h p => hdrFits h p
  | .attnMask _ h p => hdrFits h p
  | .fwInfo _ h p => hdrFits h p
  | .fwWrite _ h p => hdrFits h p
  | .fwInstall _ h p => hdrFits h p
  | .fwInstallComplete => true
  | .ringStatus _ h p => hdrFits h p
  | .ringJoin _ h p => hdrFits h p
  | .ringLeave _ h p => hdrFits h p
  | .rosterRead _ h p => hdrFits h p
  | .presentRead _ h p => hdrFits h p
  | .safeStatus _ h p => hdrFits h p
  | .safeParamWrite _ h p => hdrFits h p
  | .safeParamCommit _ h p => hdrFits h p
  | .safeParamCommitComplete => true
  | .safeParamRead _ h p => hdrFits h p
  | .safeDiagRead _ h p => hdrFits h p
  | .safeRestart _ h p => hdrFits h p
  | .pertSet _ h p => hdrFits h p
  | .loupeArm _ h p => hdrFits h p
  | .loupeRead _ h p => hdrFits h p
  | .inputSample _ _ | .testPulseStart _ _ | .testPulseEnd _ _ | .mirrorScan _ _ _ _ _ | .discrepancyFault _ _
  | .inputFaultClear _ _ | .sdcOvervoltage _ _ | .outputDelayExpiry _ _ | .edmTimeout _ _ | .outputReadbackFault _ _
  | .commandDisagreement _ | .crossLinkFault _ | .oscCheck _ _ | .paramCrcCheck _ | .romCrcCheck _
  | .mirrorSupplyFault _ | .connectionWatchdog _ _ | .connectionFault _ | .connectionFaultClear _ | .degradedTimeout _ _
  | .islandBootEnd _ _ | .pinReset | .watchdogReset | .lockstepReset | .brownOut _ | .supplyReturn | .vbakLoss
  | .bootComplete _ _ | .pfailAssert | .pfailDeassert | .syn1Lock | .meterEnableWrite _ _ | .sysLtrWrite _ _
  | .uartPacketSent | .mirrorRegulatorPowerOn _ | .vdrvUndervoltage _ => true
  | .keyLoad _ key => key.length == 32
  | .provision _ | .extest _ => true

end Sys2Proof
end

