-- ==== Sys2Proof/Safety.lean ====
section
/-! DEFINITION. Safety.lean: the words that statements about the block use: a command completes, a write passes its checks, an event is
on its way, and the two invariants that the data of State keeps in every run. -/

namespace Sys2Proof.Machine

/-- The command completes: it answers a next state, of which `P` holds. -/
def Completes (c : Instr) (s : State) (P : State → Prop) : Prop := ∃ t, exec c s = .next t ∧ P t

/-- The device runs, and a host's write of `v` at `a` passes the world, mode and lock checks (R5, R71, R362), no set lock freezes the whole
register (R2), and hardware has set in this cycle no bit that `v` would clear (R3). -/
def State.accepts (s : State) (w : World) (a : Nat) (v : Word) : Prop :=
  s.sys.phase = .run ∧ s.checkWrite w a v = .written ∧ s.frozenWhole a = false ∧ s.presented a v = v

/-- The value that the access codes of R2 leave in a register after a write. -/
def State.stored (s : State) (a : Nat) (v : Word) : Word :=
  match regRow? a with
  | some r => mergeWrite r (s.rd a) v
  | none => s.rd a

/-- Registers that a write stores by their access codes alone, in every block that has such registers. -/
def storesPlainly (a : Nat) : Bool :=
  a == R.SYS_ALARM || a == R.CLK_RTC_TRIM || isIn a (R.CLK_CMPn_PER 0) 0x10 16 || isIn a (R.ACQ_SLCn 0) 4 16 || isIn a (R.ACQ_SEQi 0) 4 1024 ||
    isIn a (R.PRISM_WINw_PH 0) 0x20 64 || isIn a (R.WVN_SETs_LOCK 0) 0x100 4 || isIn a (R.MILL_TASKt_BIND 0) 0x20 8 ||
    isIn a (R.LOOM_PERc 0) 0x20 8 || isIn a (R.LOOM_LEGl_DTH 0) 0x20 24 || a == R.GDP_FLT_GLITCH || isIn a (R.CMP_WINw_TH 0) 0x10 48 ||
    isIn a (R.GRN_EPOk_CONST 0) 0x10 4 || isIn a (R.SHF_ENCn_IDX 0) 0x40 2 || isIn a (R.RING_ROSTERe 0) 4 6144 || isIn a (R.DMA_CHn_STAT 0) 0x20 16 ||
    (blockIndex a == 14 && a != R.EVT_FORCE) || (blockIndex a == 15 && a != R.WLD_BLKWORLD) || a == R.TST_RPL_BASE

/-- An event of the source, raised at this COUNT, is on its way in `t` (R372). -/
def State.sent (s t : State) (src : Nat) : Prop := ∃ e ∈ t.events, e.src = src ∧ e.count = s.clk.count

/-- The commands that read registers of the map: what a read of CLK_TB_LO may be part of (R34). -/
def readsRegisters : Instr → Bool
  | .tbLoRead _ | .granaryLoRead _ _ | .regRead _ _ _ | .dmaBeat _ _ | .spiWrite _ | .uartPacket _ | .rplReplaySlot => true
  | _ => false

/-- No PWM output of the Loom is on. -/
def State.legsOff (s : State) : Prop := ∀ l, (s.leg l).outH = false ∧ (s.leg l).outL = false

/-- The latency policy leaves the device where it is: it is in READY, RUN, LIMP or SERVICE, and SYS_LTR asks for no deeper mode (R379). -/
def State.policyRests (s : State) : Prop := s.coreRuns = true ∧ (s.rd R.SYS_LTR).toNat < 2000

/-- Nothing of the clocks, the timebase and the RTC changes, but that a log record may have taken a newer sub-second count of the RTC. -/
def State.clockKept (s t : State) : Prop := ∃ r, t.clk = { s.clk with rtcSub := r }

/-- The energies of phase `p` of AC meter `m`, or for `p` 3 of Σ, in its running cycle: none where the current stays below NL_I (R231, R233). -/
def State.cycleEnergy (s : State) (m : Nat) (fund : Bool) (p : Nat) : PhaseEnergy :=
  let cyc := (s.acMeter m).cycle.reverse
  let nl := s.get (F.GRN_ACm_NL_NL_I m)
  let one := fun p =>
    let a := phaseSums cyc p (s.on (F.GRN_ACm_CFG_DIR m))
    if ((nl * nl * cyc.length : Nat) : Int) ≤ a.sii then a.energy cyc.length (s.scale (R.GRN_ACm_KEp m p)) fund else {}
  if p < 3 then one p else ((one 0).add (one 1)).add (one 2)

/-- The close of AC meter `m`'s running cycle has added the cycle's energies to its totals: by sign, by quadrant, and apparent ones as they
are; the fundamental ones in a fundamental cycle alone (R231, R232, R234). -/
def State.acCloseAdds (s t : State) (m : Nat) (fund : Bool) : Prop :=
  (∀ p : Fin 4,
    let e := s.cycleEnergy m fund p
    let adds := fun (q : Nat) (x : Int) => nth t.grn.totals (acTotal m p q) 0 = (nth s.grn.totals (acTotal m p q) 0 + x.toNat) % 2 ^ 96
    adds 0 e.ap ∧ adds 1 (-e.ap) ∧ adds 8 e.ss ∧ adds 2 e.ap1 ∧ adds 3 (-e.ap1) ∧ adds 9 e.s1 ∧
    adds 4 (if 0 ≤ e.ap1 then e.rq else 0) ∧ adds 5 (if e.ap1 < 0 then e.rq else 0) ∧
    adds 6 (if e.ap1 < 0 then -e.rq else 0) ∧ adds 7 (if 0 ≤ e.ap1 then -e.rq else 0)) ∧
  (∀ i : Fin 176, i.val < acTotal m 0 0 ∨ acTotal m 3 9 < i.val → nth t.grn.totals i 0 = nth s.grn.totals i 0)

/-- What the Weathervane holds of set `k` is as it was, but for the STATE that the next latch shows (R94). -/
def State.loopKept (s t : State) (k : Nat) : Prop := ∃ st, t.wvn = (s.modSet k (fun x => { x with keepState := st })).wvn

/-- Nothing changes but what the disturbance of a transaction draws (R58, R59) and the note of what software has written in this cycle. -/
def State.unmoved (s t : State) : Prop :=
  ∃ l h f y, t = { s with tst := { s.tst with lfsr := l, held := h, fifoUntil := f }, cycle := y }

/-- A result of lane `ln` is on its way in `t`: bundles issued `latency` lane cycles from now read it (R124). -/
def State.posts (s t : State) (ln latency : Nat) (dest : Dest) (val : Nat) : Prop :=
  ∃ r ∈ t.mill.results, r.cycle = s.mill.cycle + latency ∧ r.lane = ln ∧ r.dest = dest ∧ r.val = BitVec.ofNat 64 val

/-- What a slot of task `k` leaves alone beside the registers: the lanes' registers until results arrive, the memories, the clock and the
Loom. -/
structure State.LaneKept (s t : State) : Prop where
  v : ∀ l, (t.lane l).v = (s.lane l).v
  acc : ∀ l, (t.lane l).acc = (s.lane l).acc
  addr : ∀ l, (t.lane l).a = (s.lane l).a
  flags : ∀ l, (t.lane l).c = (s.lane l).c
  dmem : t.mill.dmem = s.mill.dmem
  banks : t.mill.bankA = s.mill.bankA ∧ t.mill.bankB = s.mill.bankB
  staged : t.mill.staged = s.mill.staged
  running : t.mill.running = s.mill.running
  pc : t.mill.pc = s.mill.pc
  clk : t.clk = s.clk
  mem : t.mem = s.mem
  loom : t.loom = s.loom

/-- What a slot of task `k` leaves alone: every register of the map but the task's MILL_TASKt_STAT, too. -/
structure State.LaneFrame (s t : State) (k : Nat) : Prop extends State.LaneKept s t where
  regs : ∀ b, b ≠ R.MILL_TASKt_STAT k → t.rd b = s.rd b

/-- What a slot that reads Mill memory leaves alone: MILL_STAT takes the corrections, and there are none where no word of the Mill's
memories has an error (R138). -/
structure State.ReadFrame (s t : State) (k : Nat) : Prop extends State.LaneKept s t where
  regs : ∀ b, b ≠ R.MILL_TASKt_STAT k → b ≠ R.MILL_STAT → t.rd b = s.rd b
  clean : s.mill.correctable = [] → t.rd R.MILL_STAT = s.rd R.MILL_STAT ∧ t.mill.owed = s.mill.owed

/-- The command packets: the command that each opcode of spec/15 is, by its link, header and payload. -/
inductive PacketOp : (Link → Hdr → List Byte → Instr) → Nat → Prop where
  | hello : PacketOp .hello 0x0001
  | sync : PacketOp .sync 0x0002
  | replay : PacketOp .replay 0x0003
  | opStatus : PacketOp .opStatus 0x0004
  | sessionOpen : PacketOp .sessionOpen 0x0005
  | sessionClose : PacketOp .sessionClose 0x0006
  | portSet : PacketOp .portSet 0x0007
  | regRead : PacketOp .regRead 0x0101
  | regWrite : PacketOp .regWrite 0x0102
  | status : PacketOp .status 0x0201
  | modeSet : PacketOp .modeSet 0x0202
  | ltrSet : PacketOp .ltrSet 0x0203
  | reset : PacketOp .reset 0x0204
  | cfgWrite : PacketOp .cfgWrite 0x0301
  | cfgCommit : PacketOp .cfgCommit 0x0302
  | cfgAbort : PacketOp .cfgAbort 0x0303
  | cfgInfo : PacketOp .cfgInfo 0x0304
  | cfgRead : PacketOp .cfgRead 0x0305
  | progWrite : PacketOp .progWrite 0x0401
  | progCommit : PacketOp .progCommit 0x0402
  | dmemImageWrite : PacketOp .dmemImageWrite 0x0403
  | coefWrite : PacketOp .coefWrite 0x0404
  | bankSwap : PacketOp .bankSwap 0x0405
  | taskResume : PacketOp .taskResume 0x0406
  | granaryRead : PacketOp .granaryRead 0x0501
  | granarySnapshot : PacketOp .granarySnapshot 0x0502
  | journalCommit : PacketOp .journalCommit 0x0503
  | journalRead : PacketOp .journalRead 0x0504
  | granaryPreset : PacketOp .granaryPreset 0x0505
  | uncleanRead : PacketOp .uncleanRead 0x0506
  | logRead : PacketOp .logRead 0x0601
  | logInfo : PacketOp .logInfo 0x0602
  | crierSet : PacketOp .crierSet 0x0603
  | attnRead : PacketOp .attnRead 0x0604
  | attnMask : PacketOp .attnMask 0x0605
  | fwInfo : PacketOp .fwInfo 0x0701
  | fwWrite : PacketOp .fwWrite 0x0702
  | fwInstall : PacketOp .fwInstall 0x0703
  | ringStatus : PacketOp .ringStatus 0x0801
  | ringJoin : PacketOp .ringJoin 0x0802
  | ringLeave : PacketOp .ringLeave 0x0803
  | rosterRead : PacketOp .rosterRead 0x0804
  | presentRead : PacketOp .presentRead 0x0805
  | safeStatus : PacketOp .safeStatus 0x0901
  | safeParamWrite : PacketOp .safeParamWrite 0x0902
  | safeParamCommit : PacketOp .safeParamCommit 0x0903
  | safeParamRead : PacketOp .safeParamRead 0x0904
  | safeDiagRead : PacketOp .safeDiagRead 0x0905
  | safeRestart : PacketOp .safeRestart 0x0906
  | pertSet : PacketOp .pertSet 0x0A01
  | loupeArm : PacketOp .loupeArm 0x0A02
  | loupeRead : PacketOp .loupeRead 0x0A03

/-- Every check of R325 lets a command packet through to its execution: its framing, a free place for its reply, its SEQ, the mode, its
world and tag, its length, and the long operation that runs. -/
structure State.Passes (s : State) (op : Nat) (l : Link) (h : Hdr) (p : List Byte) : Prop where
  fits : hdrFits h p = true
  serves : s.serves l = true
  room : s.rxFull l = false
  seq : s.seqStep l (hdrCmd h op p) = .go
  mode : s.modeAccepts op = true
  world : s.worldStep l (hdrCmd h op p) = none
  form : s.formStep (hdrCmd h op p) = none

/-- The newest reply that link `l` of `t` holds answers the command with header `h`: its SEQ is the next of `s`, and it says `r`. -/
def State.answers (s t : State) (l : Link) (h : Hdr) (r : Reply) : Prop :=
  ∃ e, (t.link l).history.getLast? = some e ∧ e.cmdSeq = h.seq ∧ e.replySeq = (s.link l).nextReply ∧
    e.body.drop 16 = leBytes 2 r.status ++ zeros 2 ++ leBytes 4 r.detail ++ r.carried

/-- The newest reply is OK with DETAIL 0 and some data. -/
abbrev State.gives (s t : State) (l : Link) (h : Hdr) (d : List Byte) : Prop := s.answers t l h { data := d }

/-- Outside the Steward, the event log and the event matrix nothing has changed. -/
structure State.OnlySteward (s t : State) : Prop where
  regs : t.regs = s.regs
  clk : s.clockKept t
  sys : t.sys = s.sys
  otp : t.otp = s.otp
  sram : t.mem.sram = s.mem.sram
  dma : t.dma = s.dma
  cfg : t.cfg = s.cfg
  loom : t.loom = s.loom
  gdp : t.gdp = s.gdp
  acq : t.acq = s.acq
  mill : t.mill = s.mill
  tasks : t.tasks = s.tasks
  grn : t.grn = s.grn
  ring : t.ring = s.ring
  safe : t.safe = s.safe

/-- The lists of a mirror have their lengths. -/
structure MirrorSt.Shaped (x : MirrorSt) : Prop where
  counts : x.counts.length = 12
  pulses : x.pulses.length = 2
  holds : x.holds.length = 2
  disagree : x.disagree.length = 12
  agree : x.agree.length = 12
  pressed : x.pressed.length = 12
  outs : x.outs.length = 5
  conns : x.conns.length = 8
  hist : x.hist.length = 32
  store : x.store.length = 2

/-- Every list that stands for a fixed number of like things has its length. -/
structure State.Shaped (s : State) : Prop where
  legs : s.loom.legs.length = 24
  cars : s.loom.cars.length = 8
  tls : s.loom.tls.length = 16
  trims : s.loom.trims.length = 48
  lineEdge : s.loom.lineEdge.length = 48
  lineStep : s.loom.lineStep.length = 48
  gds : s.gdp.gds.length = 8
  groups : s.gdp.groups.length = 8
  brks : s.gdp.brks.length = 2
  wins : s.cmp.wins.length = 48
  wakes : s.cmp.wakes.length = 2
  slices : s.acq.slices.length = 16
  outs : s.acq.outs.length = 16
  stamps : s.acq.dataStamps.length = 16
  prismWins : s.prism.wins.length = 64
  streams : s.prism.streams.length = 40
  sets : s.wvn.sets.length = 4
  mpps : s.wvn.mpps.length = 8
  lanes : s.mill.lanes.length = 4
  tasks : s.tasks.length = 8
  ac : s.grn.ac.length = 4
  dc : s.grn.dc.length = 4
  totals : s.grn.totals.length = 176
  snapTotals : s.grn.snapTotals.length = 176
  snapGaps : s.grn.snapGaps.length = 8
  epoAcc : s.grn.epoAcc.length = 4
  epoStart : s.grn.epoStart.length = 4
  epoIdle : s.grn.epoIdle.length = 4
  encs : s.shf.encs.length = 2
  dma : s.dma.length = 16
  held : s.clk.cmpHeldLo.length = 16
  capHi : s.clk.capHi.length = 8
  lfsr : s.tst.lfsr.length = 8
  perturbed : s.tst.held.length = 8
  ins : s.ring.ins.length = 128
  mirA : s.safe.a.Shaped
  mirB : s.safe.b.Shaped
  keys : s.otp.keySlots.length = 8

/-- The sparse stores are in canonical form: keys strictly rising, and nothing listed that an unlisted key reads as. -/
structure State.Canonical (s : State) : Prop where
  regs : cellWf regReset 0 s.regs = true
  sram : cellWf (fun _ => (0 : Byte)) 0 s.mem.sram = true
  mram : cellWf (fun _ => (0 : Byte)) 0 s.mem.mram = true
  dmem : cellWf (fun _ => (0 : Word)) 0 s.mill.dmem = true
  bankA : cellWf (fun _ => (0 : Word)) 0 s.mill.bankA = true
  bankB : cellWf (fun _ => (0 : Word)) 0 s.mill.bankB = true

end Sys2Proof.Machine
end

