-- ==== Sys2Proof/Certificates/Slice0/Obligations.lean ====
section
/-! DEFINITION. Certificates/Slice0/Obligations.lean: the statements for the provers. -/

open Sys2Proof Sys2Proof.Machine

/-! ### The queue, the idle step and reset -/

/-- A step takes the command at the front of the queue and runs it on the state with the queue's rest. -/
def Obligations.StepRunsTheFrontCommand : Prop :=
  ∀ (s : State) (c : Instr) (rest : List Instr), s.pending = c :: rest → step s = exec c { s with pending := rest }

/-- On an empty queue one CORE cycle passes: COUNT advances by one unless a borrow out of FINE holds it, and stands in KEEP. That a step
without a command is a cycle is the model's choice (log entry 1). In KEEP only the model's own record of what the cycle has done ends. -/
def Obligations.IdleStepPassesOneCycle : Prop :=
  ∀ s : State, s.pending = [] →
    (s.sys.phase = .run → s.clk.hold = false →
      ∃ t, step s = .next t ∧ t.clk.count = s.clk.count + 1 ∧ t.clk.fine = s.clk.fine ∧ t.pending = []) ∧
    (s.sys.phase = .run → s.clk.hold = true →
      ∃ t, step s = .next t ∧ t.clk.count = s.clk.count ∧ t.clk.hold = false ∧ t.clk.fine = s.clk.fine ∧ t.pending = []) ∧
    (s.sys.phase = .keep → step s = .next { s with cycle := {} })

/-- What a reset leaves in the registers for which the spec's tables state it: READY as the mode before and after, no generation, every
leg blocked by SAFE alone until the island gives its enable, the block locks open, and an empty queue of commands. -/
def Obligations.ResetLeavesTheStatedValues : Prop :=
  State.reset.pending = [] ∧ State.reset.count = 0 ∧ State.reset.clk.fine = 0 ∧ State.reset.clk.epoch = 0 ∧
  State.reset.sys.phase = .boot ∧ State.reset.rd R.SYS_MODE = 0x22 ∧ State.reset.rd R.SYS_PWR_CFG = 0xA ∧ State.reset.rd R.SYS_LTR = 0 ∧
  State.reset.rd R.CLK_CTRL = 3 ∧ State.reset.rd R.CLK_SYN0_LOCK = 0x10100 ∧ State.reset.rd R.CLK_SYN0_TRIM = 0 ∧
  (∀ i : Fin 17, State.reset.blockLocked i = false) ∧ (∀ a, State.reset.rd a = regReset a) ∧
  (∀ l : Fin 24, (State.reset.leg l).outH = false ∧ (State.reset.leg l).outL = false) ∧
  (∀ k : Fin 5, State.reset.safe.a.cmd k = false ∧ State.reset.safe.b.cmd k = false)

/-! ### Registers, clocks, timebase and RTC -/

/-- What a write stores where the register has no behaviour of its own: what the access codes of R2 give of the value presented, in which
frozen bits stand (R5) and a bit that hardware has set in this cycle is not cleared (R3); every other register stays. A lock that freezes
all of a register leaves every register as it was (R2), and so does a write of a DMA channel's STAT while its EN is set (R371). A LOCK bit
sets and its block is locked from then on, and a block without one has nothing to lock (R5). That the bits of a register under a set lock
which nothing freezes are stored is the model's choice (log entry 70). A write that a check stops, for its mode or because the map lists
nothing there, changes no register, memory, clock, leg or task; one that is refused by world is captured besides: the first with its
address and reason, a later one as OVR alone (R6, R71, R362, R364). While the device does not run, no write does anything: that is the
model's reading (log entry 5). -/
def Obligations.RegisterWritesObeyTheirChecks : Prop :=
  (∀ (s : State) (w : World) (a v : Word), s.sys.phase = .run →
    s.checkWrite w a.toNat v = .written ∨ s.checkWrite w a.toNat v = .locked → s.frozenWhole a.toNat = false →
    storesPlainly a.toNat = true → (∀ n : Fin 16, a.toNat = R.DMA_CHn_STAT n → s.on (F.DMA_CHn_CFG_EN n) = false) →
    Completes (.registerWrite w a v) s fun t =>
      t.rd a.toNat = s.stored a.toNat (s.presented a.toNat v) ∧ (∀ b, b ≠ a.toNat → t.rd b = s.rd b) ∧ t.mem = s.mem ∧ t.clk = s.clk ∧
      t.loom = s.loom ∧ t.mill = s.mill ∧ t.ring = s.ring ∧ t.safe = s.safe ∧ t.events = s.events) ∧
  (∀ (s : State) (w : World) (a v : Word), s.sys.phase = .run →
    s.checkWrite w a.toNat v = .written ∨ s.checkWrite w a.toNat v = .locked → s.frozenWhole a.toNat = true →
    Completes (.registerWrite w a v) s fun t =>
      t.regs = s.regs ∧ t.mem = s.mem ∧ t.clk = s.clk ∧ t.loom = s.loom ∧ t.mill = s.mill ∧ t.ring = s.ring ∧ t.safe = s.safe ∧
      t.events = s.events) ∧
  (∀ (s : State) (w : World) (n : Fin 16) (v : Word), s.accepts w (R.DMA_CHn_STAT n) v → s.on (F.DMA_CHn_CFG_EN n) = true →
    Completes (.registerWrite w (BitVec.ofNat 32 (R.DMA_CHn_STAT n)) v) s fun t =>
      t.regs = s.regs ∧ t.mem = s.mem ∧ t.clk = s.clk ∧ t.dma = s.dma ∧ t.events = s.events) ∧
  (∀ (s : State) (w : World) (i : Fin 17) (v : Word), hasLock i = true → (i.val = 9 ∨ i.val = 11 → s.policyRests) →
    s.accepts w (blockBase i) (v ||| 0x80000000) →
    Completes (.blockLock w i v) s fun t =>
      t.blockLocked i = true ∧
      (i.val ≠ 9 → i.val ≠ 10 → i.val ≠ 11 → ∀ b, b ≠ blockBase i → t.rd b = s.rd b) ∧
      (i.val ≠ 9 → i.val ≠ 11 → i.val ≠ 16 → t.rd (blockBase i) = s.stored (blockBase i) (v ||| 0x80000000))) ∧
  (∀ (s : State) (w : World) (i : Fin 17) (v : Word), hasLock i = false → exec (.blockLock w i v) s = .next s) ∧
  (∀ (s : State) (w : World) (a v : Word),
     (s.sys.phase ≠ .run → exec (.registerWrite w a v) s = .next s) ∧
     (s.sys.phase = .run → s.checkWrite w a.toNat v = .mode ∨ s.checkWrite w a.toNat v = .unlisted →
       Completes (.registerWrite w a v) s fun t =>
         t.regs = s.regs ∧ t.mem = s.mem ∧ t.clk = s.clk ∧ t.loom = s.loom ∧ t.tasks = s.tasks ∧ t.mill = s.mill ∧ t.events = s.events) ∧
     (s.sys.phase = .run → s.checkWrite w a.toNat v = .world → s.on F.WLD_FAULT_INFO_VALID = false →
       Completes (.registerWrite w a v) s fun t =>
         t.rd R.WLD_FAULT_ADDR = BitVec.ofNat 32 (a.toNat / 4 * 4) ∧ t.on F.WLD_FAULT_INFO_VALID = true ∧
         t.get F.WLD_FAULT_INFO_REASON = 1 ∧ (∀ b, b ≠ R.WLD_FAULT_ADDR → b ≠ R.WLD_FAULT_INFO → t.rd b = s.rd b) ∧
         t.mem = s.mem ∧ t.clk = s.clk ∧ t.loom = s.loom ∧ t.tasks = s.tasks) ∧
     (s.sys.phase = .run → s.checkWrite w a.toNat v = .world → s.on F.WLD_FAULT_INFO_VALID = true →
       Completes (.registerWrite w a v) s fun t =>
         t.on F.WLD_FAULT_INFO_OVR = true ∧ (∀ b, b ≠ R.WLD_FAULT_INFO → t.rd b = s.rd b) ∧
         t.mem = s.mem ∧ t.clk = s.clk ∧ t.loom = s.loom ∧ t.tasks = s.tasks))

/-- The trim that software writes waits for the next reference edge when SRC is 0, no ramp profile runs, and it lies within ±30,000 and
within 500 of the applied trim; otherwise TRIM_REFUSED is set and the trim stays (R23, R24). The cycle of the reference edge applies the
trim that waits; that an edge comes every 16 cycles is the model's choice (log entry 57). The ramp profile: START begins segment 0 and
remembers the trim, or, beside a discipline or SYN0's modulation, is refused with RAMP_REFUSED; ABORT holds the present trim; each ms adds
the slope within ±500 and ±30,000, with TRIM_REFUSED where it reaches the limit; and the end of a segment leads to the next one, or after
the last to END: stop, the return to the start trim by at most 500 each ms, or segment 0 again (R26). That START of a profile that runs
begins it again with the present trim as start trim is the model's choice (log entry 71); that a ms changes the applied trim at once is
the model's choice too (log entry 79). -/
def Obligations.TrimAndRampKeepTheirLimits : Prop :=
  (∀ (s : State) (w : World) (v : Word), s.accepts w R.CLK_SYN0_TRIM v →
    (s.get F.CLK_SYN0_DISC_SRC = 0 → s.clk.ramp.running = false → -30000 ≤ signed 16 v.toNat → signed 16 v.toNat ≤ 30000 →
      (signed 16 v.toNat - s.trim).natAbs ≤ 500 →
      Completes (.trimWrite w v) s fun t =>
        t.clk = { s.clk with trimNext := some (signed 16 v.toNat) } ∧ t.regs = s.regs) ∧
    ((s.get F.CLK_SYN0_DISC_SRC ≠ 0 ∨ s.clk.ramp.running = true ∨ signed 16 v.toNat < -30000 ∨ 30000 < signed 16 v.toNat ∨
        500 < (signed 16 v.toNat - s.trim).natAbs) →
      Completes (.trimWrite w v) s fun t =>
        t.on F.CLK_STAT_TRIM_REFUSED = true ∧ t.trim = s.trim ∧ (∀ b, b ≠ R.CLK_STAT → t.rd b = s.rd b) ∧ t.clk = s.clk)) ∧
  (∀ (s : State) (x : Int), s.pending = [] → s.sys.phase = .run → s.clk.refMissing = false → s.clk.refIn = 0 → s.clk.trimNext = some x →
    -30000 ≤ x → x ≤ 30000 → ∃ t, step s = .next t ∧ t.trim = x ∧ t.clk.trimNext = none) ∧
  (∀ (s : State) (w : World) (v : Word), s.accepts w R.CLK_RAMP_CTRL (v ||| 1) → bitAt v 1 = false →
    s.get F.CLK_SYN0_DISC_SRC = 0 → s.on F.CLK_STAT_SSC0_ON = false →
    Completes (.rampStart w v) s fun t =>
      t.clk.ramp.running = true ∧ t.clk.ramp.seg = 0 ∧ t.clk.ramp.msLeft = s.get (F.CLK_RAMPSEGn_DUR 0) ∧
      t.clk.ramp.startTrim = s.trim ∧ t.on F.CLK_STAT_RAMP_BUSY = true ∧ t.trim = s.trim ∧ t.clk.count = s.clk.count) ∧
  (∀ (s : State) (w : World) (v : Word), s.accepts w R.CLK_RAMP_CTRL (v ||| 1) → bitAt v 1 = false →
    s.get F.CLK_SYN0_DISC_SRC ≠ 0 ∨ s.on F.CLK_STAT_SSC0_ON = true →
    Completes (.rampStart w v) s fun t =>
      t.on F.CLK_STAT_RAMP_REFUSED = true ∧ t.clk = s.clk ∧ t.trim = s.trim ∧
      (∀ b, b ≠ R.CLK_STAT → b ≠ R.CLK_RAMP_CTRL → t.rd b = s.rd b)) ∧
  (∀ (s : State) (w : World) (v : Word), s.accepts w R.CLK_RAMP_CTRL (v ||| 2) → bitAt v 0 = false →
    Completes (.rampAbort w v) s fun t =>
      t.clk.ramp.running = false ∧ t.on F.CLK_STAT_RAMP_BUSY = false ∧ t.trim = s.trim ∧ t.clk.count = s.clk.count) ∧
  (∀ s : State, s.clk.ramp.running = true → s.coreRuns = true → s.due s.clk.ramp.nextAt = true → s.clk.ramp.returning = false →
    0 < s.clk.ramp.msLeft →
    Completes .rampTick s fun t =>
      t.trim = clampInt (-30000) 30000 (s.trim + clampInt (-500) 500 (s.getI (F.CLK_RAMPSEGn_SLOPE s.clk.ramp.seg))) ∧
      t.clk.ramp.msLeft = s.clk.ramp.msLeft - 1 ∧ t.clk.ramp.nextAt = s.clk.ramp.nextAt + 400000 ∧ t.clk.ramp.running = true ∧
      (30000 ≤ (s.trim + clampInt (-500) 500 (s.getI (F.CLK_RAMPSEGn_SLOPE s.clk.ramp.seg))).natAbs →
        t.on F.CLK_STAT_TRIM_REFUSED = true) ∧
      (∀ b, b ≠ R.CLK_SYN0_TRIM → b ≠ R.CLK_STAT → t.rd b = s.rd b)) ∧
  (∀ s : State, s.clk.ramp.running = true → s.coreRuns = true → s.due s.clk.ramp.nextAt = true → s.clk.ramp.returning = true →
    -30000 ≤ s.clk.ramp.startTrim → s.clk.ramp.startTrim ≤ 30000 → -30000 ≤ s.trim → s.trim ≤ 30000 →
    Completes .rampTick s fun t =>
      t.trim = s.trim + clampInt (-500) 500 (s.clk.ramp.startTrim - s.trim) ∧
      ((s.clk.ramp.startTrim - s.trim).natAbs ≤ 500 → t.clk.ramp.running = false) ∧
      (∀ b, b ≠ R.CLK_SYN0_TRIM → b ≠ R.CLK_STAT → t.rd b = s.rd b)) ∧
  (∀ s : State, s.clk.ramp.running = true → s.coreRuns = true → s.clk.ramp.returning = false → s.clk.ramp.msLeft = 0 →
    (s.clk.ramp.seg < s.get F.CLK_RAMP_CTRL_NSEG →
      Completes .rampSegmentEnd s fun t =>
        t.clk.ramp.seg = s.clk.ramp.seg + 1 ∧ t.clk.ramp.msLeft = s.get (F.CLK_RAMPSEGn_DUR (s.clk.ramp.seg + 1)) ∧
        t.clk.ramp.running = true ∧ t.regs = s.regs) ∧
    (¬ s.clk.ramp.seg < s.get F.CLK_RAMP_CTRL_NSEG →
      (s.get F.CLK_RAMP_CTRL_END = 0 ∨ s.get F.CLK_RAMP_CTRL_END = 3 ∨
        (s.get F.CLK_RAMP_CTRL_END = 1 ∧ s.trim = s.clk.ramp.startTrim)) →
      Completes .rampSegmentEnd s fun t => t.clk.ramp.running = false ∧ t.on F.CLK_STAT_RAMP_BUSY = false ∧ t.trim = s.trim) ∧
    (¬ s.clk.ramp.seg < s.get F.CLK_RAMP_CTRL_NSEG → s.get F.CLK_RAMP_CTRL_END = 1 → s.trim ≠ s.clk.ramp.startTrim →
      Completes .rampSegmentEnd s fun t => t.clk.ramp.running = true ∧ t.clk.ramp.returning = true ∧ t.regs = s.regs) ∧
    (¬ s.clk.ramp.seg < s.get F.CLK_RAMP_CTRL_NSEG → s.get F.CLK_RAMP_CTRL_END = 2 →
      Completes .rampSegmentEnd s fun t => t.clk.ramp.seg = 0 ∧ t.clk.ramp.running = true ∧ t.regs = s.regs))

/-- Locks and spread spectrum: SYN0 and SYN1 declare lock while nothing has failed (R22); an accepted CLK_SYNx_SSC switches the modulation
as its EN bit says, and one with DEPTH 3, or one that sets SYN0's EN beside a ring port, a meter or a ramp profile, is refused (R27, R28);
SYN1's loss moves STEW alone to the monitor oscillator; SYN0's, which sets SYN0_LOST, moves CORE, and the reference's, which sets
REF_LOST, clears both lock bits and leaves the two LOST flags, moves both: either blocks every leg with cause CLK, turns every PWM output
and every GD output off, and leads to LIMP (R30). -/
def Obligations.ClockEventsMoveTheDomains : Prop :=
  (∀ s : State, s.sys.phase ≠ .keep → s.clk.coreOnMonitor = false → s.clk.refMissing = false →
    Completes .syn0Lock s fun t => t.on F.CLK_STAT_SYN0_LOCKED = true ∧ (∀ b, b ≠ R.CLK_STAT → t.rd b = s.rd b) ∧ t.clk = s.clk) ∧
  (∀ s : State, s.sys.phase ≠ .keep → s.clk.stewOnMonitor = false → s.clk.refMissing = false →
    Completes .syn1Lock s fun t => t.on F.CLK_STAT_SYN1_LOCKED = true ∧ (∀ b, b ≠ R.CLK_STAT → t.rd b = s.rd b) ∧ t.clk = s.clk) ∧
  (∀ (s : State) (w : World) (v : Word), s.accepts w R.CLK_SYN0_SSC v → getBits v 2 2 ≠ 3 →
    (bitAt v 0 = false ∨ (s.ringEnabled = false ∧ s.metersEnabled = false ∧ s.clk.ramp.running = false)) →
    Completes (.sscWrite w false v) s fun t =>
      t.on F.CLK_STAT_SSC0_ON = bitAt v 0 ∧ t.rd R.CLK_SYN0_SSC = s.stored R.CLK_SYN0_SSC v ∧
      (∀ b, b ≠ R.CLK_SYN0_SSC → b ≠ R.CLK_STAT → t.rd b = s.rd b) ∧ t.clk = s.clk) ∧
  (∀ (s : State) (w : World) (v : Word), s.accepts w R.CLK_SYN1_SSC v → getBits v 2 2 ≠ 3 →
    Completes (.sscWrite w true v) s fun t =>
      t.on F.CLK_STAT_SSC1_ON = bitAt v 0 ∧ t.rd R.CLK_SYN1_SSC = s.stored R.CLK_SYN1_SSC v ∧
      (∀ b, b ≠ R.CLK_SYN1_SSC → b ≠ R.CLK_STAT → t.rd b = s.rd b) ∧ t.clk = s.clk) ∧
  (∀ (s : State) (w : World) (syn1 : Bool) (v : Word),
    s.accepts w (if syn1 then R.CLK_SYN1_SSC else R.CLK_SYN0_SSC) v →
    (getBits v 2 2 = 3 ∨ (syn1 = false ∧ bitAt v 0 = true ∧ (s.ringEnabled = true ∨ s.metersEnabled = true ∨ s.clk.ramp.running = true))) →
    Completes (.sscWrite w syn1 v) s fun t =>
      t.on F.CLK_STAT_SSC_REFUSED = true ∧ (∀ b, b ≠ R.CLK_STAT → t.rd b = s.rd b) ∧ t.clk = s.clk) ∧
  (∀ s : State, s.sys.phase = .run → s.clk.stewOnMonitor = false → s.on F.CLK_STAT_SYN1_LOCKED = true →
    Completes .syn1Lost s fun t =>
      t.on F.CLK_STAT_SYN1_LOST = true ∧ t.on F.CLK_STAT_SYN1_LOCKED = false ∧ t.clk.stewOnMonitor = true ∧
      t.clk.coreOnMonitor = s.clk.coreOnMonitor ∧ t.mode = s.mode ∧ t.loom = s.loom) ∧
  (∀ s : State, s.sys.phase = .run → s.clk.coreOnMonitor = false → s.on F.CLK_STAT_SYN0_LOCKED = true →
    Completes .syn0Lost s fun t =>
      t.clk.coreOnMonitor = true ∧ t.clk.stewOnMonitor = s.clk.stewOnMonitor ∧ t.clk.count = s.clk.count ∧
      t.on F.CLK_STAT_SYN0_LOST = true ∧ t.on F.CLK_STAT_SYN0_LOCKED = false ∧
      (∀ l : Fin 24, t.bit (R.LOOM_LEGl_STAT l) Cause.clk.bit = true ∧ t.on (F.LOOM_LEGl_STAT_BLOCKED l) = true ∧
        (t.leg l).outH = false ∧ (t.leg l).outL = false) ∧
      (s.mode ≠ .keep → t.mode = .limp) ∧
      (s.mode ≠ .keep → s.mode ≠ .limp → ∀ n : Fin 8, t.on (F.GDP_GDn_STAT_OUT n) = false)) ∧
  (∀ s : State, s.sys.phase = .run → s.clk.refMissing = false →
    Completes .refLost s fun t =>
      t.clk.coreOnMonitor = true ∧ t.clk.stewOnMonitor = true ∧ t.clk.refMissing = true ∧ t.clk.count = s.clk.count ∧
      t.on F.CLK_STAT_REF_LOST = true ∧ t.on F.CLK_STAT_SYN0_LOCKED = false ∧ t.on F.CLK_STAT_SYN1_LOCKED = false ∧
      t.on F.CLK_STAT_SYN0_LOST = s.on F.CLK_STAT_SYN0_LOST ∧ t.on F.CLK_STAT_SYN1_LOST = s.on F.CLK_STAT_SYN1_LOST ∧
      (∀ l : Fin 24, t.bit (R.LOOM_LEGl_STAT l) Cause.clk.bit = true ∧ t.on (F.LOOM_LEGl_STAT_BLOCKED l) = true ∧
        (t.leg l).outH = false ∧ (t.leg l).outL = false) ∧
      (s.mode ≠ .keep → t.mode = .limp) ∧
      (s.mode ≠ .keep → s.mode ≠ .limp → ∀ n : Fin 8, t.on (F.GDP_GDn_STAT_OUT n) = false))

/-- The reads that latch: the timebase, the captures, the RTC and its recorded COUNT (R34, R37, R38, R40). Each latches its shadows, a
read of CLK_CAPn_HI clears VALID, and every other register stays. That the sub-second count never falls behind the one last shown is the
model's choice (log entry 32). Compare units: a target loads as two halves together, a unit armed with a target ahead stays armed, one
with a target at or before COUNT is MISSED, and a match emits the unit's event and advances the target by PER or disarms the unit, where
software has not written it in the same cycle; a 1 written to EN in the cycle of the match stands, whichever comes first (R4, R35, R36).
That a write of HI takes a LO half written long before is the model's choice (log entry 71). The RTC: a load takes both halves, restarts
SUB and clears RTC_BAD; a second, when its ticks are over, advances the seconds and, while CORE runs, records COUNT within one cycle; each
32 s interval adds the trim to the ticks of the second that runs (R38 to R40). -/
def Obligations.LatchesComparesAndTheRtc : Prop :=
  (∀ (s : State) (w : World), s.sys.phase = .run →
    Completes (.tbLoRead w) s fun t =>
      t.rd R.CLK_TB_HI = BitVec.ofNat 32 (s.count / 2 ^ 32) ∧
      t.rd R.CLK_TB_FINE = BitVec.ofNat 32 (s.clk.fine.toNat + 65536 * s.clk.epoch.toNat) ∧
      (∀ b, b ≠ R.CLK_TB_HI → b ≠ R.CLK_TB_FINE → t.rd b = s.rd b) ∧ t.clk = s.clk) ∧
  (∀ (s : State) (w : World) (n : Fin 8), s.sys.phase = .run →
    Completes (.captureLoRead w n) s fun t =>
      t.rd (R.CLK_CAPn_HI n) = nth s.clk.capHi n 0 ∧ (∀ b, b ≠ R.CLK_CAPn_HI n → t.rd b = s.rd b) ∧ t.clk = s.clk) ∧
  (∀ (s : State) (w : World) (n : Fin 8), s.sys.phase = .run →
    Completes (.captureHiRead w n) s fun t =>
      t.on (F.CLK_CAPn_CTRL_VALID n) = false ∧ (∀ b, b ≠ R.CLK_CAPn_CTRL n → t.rd b = s.rd b) ∧ t.clk = s.clk) ∧
  (∀ (s : State) (w : World), s.sys.phase = .run →
    Completes (.rtcLoRead w) s fun t =>
      t.rd R.CLK_RTC_SEC_HI = BitVec.ofNat 32 (s.clk.rtcSec.toNat / 2 ^ 32) ∧
      s.clk.rtcSub.toNat ≤ (t.rd R.CLK_RTC_SUB).toNat ∧ (t.rd R.CLK_RTC_SUB).toNat < 32768 ∧
      t.clk = { s.clk with rtcSub := (t.rd R.CLK_RTC_SUB).setWidth 15 } ∧
      (∀ b, b ≠ R.CLK_RTC_SEC_HI → b ≠ R.CLK_RTC_SUB → t.rd b = s.rd b)) ∧
  (∀ (s : State) (w : World), s.sys.phase = .run →
    Completes (.rtcTbLoRead w) s fun t =>
      t.rd R.CLK_RTC_TB_HI = BitVec.ofNat 32 (s.clk.rtcTb.toNat / 2 ^ 32) ∧ (∀ b, b ≠ R.CLK_RTC_TB_HI → t.rd b = s.rd b) ∧
      t.clk = s.clk) ∧
  (∀ (s : State) (w : World) (n : Fin 16) (v : Word), s.accepts w (R.CLK_CMPn_HI n) v →
    s.count < (nth s.clk.cmpHeldLo n 0).toNat + 2 ^ 32 * v.toNat →
    Completes (.compareTargetLoad w n v) s fun t =>
      t.cmpTarget n = (nth s.clk.cmpHeldLo n 0).toNat + 2 ^ 32 * v.toNat ∧ t.rd (R.CLK_CMPn_CTRL n) = s.rd (R.CLK_CMPn_CTRL n) ∧
      t.clk = s.clk) ∧
  (∀ (s : State) (w : World) (n : Fin 16) (v : Word), s.accepts w (R.CLK_CMPn_HI n) v →
    (nth s.clk.cmpHeldLo n 0).toNat + 2 ^ 32 * v.toNat ≤ s.count →
    Completes (.compareTargetLoad w n v) s fun t =>
      t.on (F.CLK_CMPn_CTRL_MISSED n) = true ∧ t.on (F.CLK_CMPn_CTRL_EN n) = false ∧ t.clk = s.clk) ∧
  (∀ (s : State) (w : World) (n : Fin 16) (v : Word), s.accepts w (R.CLK_CMPn_CTRL n) (v ||| 1) →
    s.on (F.CLK_CMPn_CTRL_EN n) = false →
    (bitAt (s.setNow (R.CLK_CMPn_CTRL n)) 9 = true → Completes (.compareEnable w n v) s fun t =>
      t.on (F.CLK_CMPn_CTRL_EN n) = true ∧ t.on (F.CLK_CMPn_CTRL_MISSED n) = (s.on (F.CLK_CMPn_CTRL_MISSED n) && !bitAt v 8)) ∧
    (s.count < s.cmpTarget n → Completes (.compareEnable w n v) s fun t =>
      t.on (F.CLK_CMPn_CTRL_EN n) = true ∧ t.cmpTarget n = s.cmpTarget n ∧ (∀ b, b ≠ R.CLK_CMPn_CTRL n → t.rd b = s.rd b)) ∧
    (s.cmpTarget n ≤ s.count → bitAt (s.setNow (R.CLK_CMPn_CTRL n)) 9 = false → Completes (.compareEnable w n v) s fun t =>
      t.on (F.CLK_CMPn_CTRL_EN n) = false ∧ t.on (F.CLK_CMPn_CTRL_MISSED n) = true ∧ t.cmpTarget n = s.cmpTarget n)) ∧
  (∀ (s : State) (n : Fin 16), s.coreRuns = true → s.on (F.CLK_CMPn_CTRL_EN n) = true → s.cmpTarget n = s.count →
    s.writtenNow (F.CLK_CMPn_CTRL_EN n) = false → marksAt s.cycle.swSet (R.CLK_CMPn_HI n) = 0 →
    Completes (.compareMatch n) s fun t =>
      s.sent t (0xE0 + n) ∧ t.on (F.CLK_CMPn_CTRL_FIRED n) = true ∧
      (s.rd (R.CLK_CMPn_PER n) = 0 → t.on (F.CLK_CMPn_CTRL_EN n) = false ∧ t.cmpTarget n = s.cmpTarget n) ∧
      (s.rd (R.CLK_CMPn_PER n) ≠ 0 → t.on (F.CLK_CMPn_CTRL_EN n) = true ∧
        t.cmpTarget n = (s.cmpTarget n + max 4 (s.rd (R.CLK_CMPn_PER n)).toNat) % 2 ^ 64)) ∧
  (∀ (s : State) (w : World) (v : Word), s.accepts w R.CLK_RTC_SEC_HI v →
    Completes (.rtcSet w v) s fun t =>
      t.clk.rtcSec = BitVec.ofNat 48 (v.toNat % 65536 * 2 ^ 32 + s.clk.rtcHeldLo.toNat) ∧ t.clk.rtcSub = 0 ∧
      t.on F.SYS_KCTL_RTC_BAD = false ∧ (∀ b, b ≠ R.SYS_KCTL → t.rd b = s.rd b) ∧ t.clk.count = s.clk.count) ∧
  (∀ s : State, s.sys.keepLost = false → s.rtcDue = true → s.on F.SYS_KCTL_ALARM_EN = false →
    Completes .rtcSecond s fun t =>
      t.clk.rtcSec = s.clk.rtcSec + 1 ∧ t.clk.rtcSub = 0 ∧ t.clk.count = s.clk.count ∧
      (s.coreRuns = true → 1 ≤ s.count → s.count + 1 < 2 ^ 64 →
        s.count - 1 ≤ t.clk.rtcTb.toNat ∧ t.clk.rtcTb.toNat ≤ s.count + 1 ∧ t.rd R.CLK_RTC_TB_LO = t.clk.rtcTb.setWidth 32) ∧
      (s.coreRuns = false → t.clk.rtcTb = s.clk.rtcTb ∧ t.regs = s.regs)) ∧
  (∀ s : State, 32 ≤ s.clk.rtcInterval →
    Completes .rtcTrimInterval s fun t =>
      t.clk.rtcInterval = 0 ∧ t.clk.rtcSec = s.clk.rtcSec ∧ t.regs = s.regs ∧
      (-127 ≤ s.getI F.CLK_RTC_TRIM_TRIM → t.clk.rtcBase = s.clk.rtcBase + s.getI F.CLK_RTC_TRIM_TRIM))

/-- R34: a read of CLK_TB_LO returns COUNT[31:0] and latches COUNT[63:32], FINE and EPOCH, and the reads of CLK_TB_HI and CLK_TB_FINE that
follow, in the same cycle or after others, return what was latched: such a read changes neither, a cycle changes neither, and of all
commands only those that read registers change what the two show, to the present instant, but for a reset or a power-down. -/
def Obligations.TimebaseReadsGiveOneInstant : Prop :=
  (∀ (s : State) (w : World), s.sys.phase = .run →
    s.shown R.CLK_TB_LO = s.clk.count.setWidth 32 ∧
    Completes (.tbLoRead w) s fun t =>
      t.shown R.CLK_TB_HI = (s.clk.count >>> 32).setWidth 32 ∧ getBits (t.shown R.CLK_TB_FINE) 0 6 = s.clk.fine.toNat ∧
      getBits (t.shown R.CLK_TB_FINE) 16 16 = s.clk.epoch.toNat ∧
      t.readEffect R.CLK_TB_HI = t ∧ t.readEffect R.CLK_TB_FINE = t) ∧
  (∀ s : State, s.tick.shown R.CLK_TB_HI = s.shown R.CLK_TB_HI ∧ s.tick.shown R.CLK_TB_FINE = s.shown R.CLK_TB_FINE) ∧
  (∀ (s t : State) (c : Instr), readsRegisters c = false → s.sys.phase = .run → exec c s = .next t → t.sys.phase = .run →
    t.shown R.CLK_TB_HI = s.shown R.CLK_TB_HI ∧ t.shown R.CLK_TB_FINE = s.shown R.CLK_TB_FINE) ∧
  (∀ (s t : State) (c : Instr), readsRegisters c = true → s.sys.phase = .run → exec c s = .next t → t.sys.phase = .run →
    (t.shown R.CLK_TB_HI = s.shown R.CLK_TB_HI ∧ t.shown R.CLK_TB_FINE = s.shown R.CLK_TB_FINE) ∨
    (t.shown R.CLK_TB_HI = s.latchTimebase.shown R.CLK_TB_HI ∧ t.shown R.CLK_TB_FINE = s.latchTimebase.shown R.CLK_TB_FINE))

/-- R36: a unit whose EN is set, or whose target is loaded, with the target at or before COUNT emits nothing, sets MISSED and clears EN;
and a match emits at most one event, whatever the target. A 1 written to EN in the very cycle of a match is R4's case, not this one. -/
def Obligations.LateTargetsAreMissed : Prop :=
  ∀ (s : State) (w : World) (n : Fin 16) (v : Word),
    (s.accepts w (R.CLK_CMPn_CTRL n) (v ||| 1) → s.on (F.CLK_CMPn_CTRL_EN n) = false → s.cmpTarget n ≤ s.count →
      bitAt (s.setNow (R.CLK_CMPn_CTRL n)) 9 = false → Completes (.compareEnable w n v) s fun t =>
        t.events = s.events ∧ t.on (F.CLK_CMPn_CTRL_MISSED n) = true ∧ t.on (F.CLK_CMPn_CTRL_EN n) = false) ∧
    (s.accepts w (R.CLK_CMPn_HI n) v → (nth s.clk.cmpHeldLo n 0).toNat + 2 ^ 32 * v.toNat ≤ s.count →
      Completes (.compareTargetLoad w n v) s fun t =>
        t.events = s.events ∧ t.on (F.CLK_CMPn_CTRL_MISSED n) = true ∧ t.on (F.CLK_CMPn_CTRL_EN n) = false) ∧
    Completes (.compareMatch n) s fun t => t.events.length ≤ s.events.length + 1

/-! ### Perturbation, record and replay -/

/-- PERT_EN written to 1 in SERVICE seeds the LFSR of every target, target k with the seed rotated left by k and 0 loaded as 0xACE1 (R59),
and written to 1 again it stores alone; outside SERVICE PERT_EN keeps its value and no LFSR changes (R56). The replay engine: START is
refused with its reason or arms the engine with the replay accumulators at 0; ABORT stops an armed engine at once and marks a running one
to stop at the end of its slot; an armed engine starts at its valley, a replay only at one of the recorded phase, and gives up with PHASE
after 32 valleys (R60, R62). That ABORT of an armed engine stops it at once is the model's reading (log entry 58). A slot of a recording
writes a record of each selected slice, in ascending order from the slot's address up, and goes on to the next slot; a slot of a replay
whose records' channels agree with the slices' schedule goes on likewise, and every record with PRESENT puts its value on the way to the
intake with the stamp of the slot, where what the slice itself converts goes nowhere; with the cycle after the last slot the engine is
done (R61, R62). The record of a slice that converts nothing is the model's choice (log entry 72), and so are a replayed value that counts
as not OPEN (log entry 80) and the end at that cycle (log entry 4). -/
def Obligations.PerturbationRecordAndReplay : Prop :=
  (∀ (s : State) (w : World) (v : Word), s.accepts w R.TST_CTRL (v ||| 1) → s.inService = true → s.on F.TST_CTRL_PERT_EN = false →
    Completes (.pertEnable w v) s fun t =>
      t.tst.lfsr = (List.range 8).map (seedOf (BitVec.ofNat 16 (s.get F.TST_SEED_SEED))) ∧
      t.rd R.TST_CTRL = s.stored R.TST_CTRL (v ||| 1) ∧ (∀ b, b ≠ R.TST_CTRL → t.rd b = s.rd b)) ∧
  (∀ (s : State) (w : World) (v : Word), s.accepts w R.TST_CTRL (v ||| 1) → s.inService = true → s.on F.TST_CTRL_PERT_EN = true →
    Completes (.pertEnable w v) s fun t =>
      t.rd R.TST_CTRL = s.stored R.TST_CTRL (v ||| 1) ∧ (∀ b, b ≠ R.TST_CTRL → t.rd b = s.rd b) ∧ t.tst.rpl = s.tst.rpl) ∧
  (∀ (s : State) (w : World) (v : Word), s.accepts w R.TST_CTRL (v ||| 1) → s.inService = false →
    Completes (.pertEnable w v) s fun t =>
      t.on F.TST_CTRL_PERT_EN = s.on F.TST_CTRL_PERT_EN ∧ t.tst = s.tst ∧ (∀ b, b ≠ R.TST_CTRL → t.rd b = s.rd b)) ∧
  (∀ (s : State) (w : World) (v : Word) (e : Nat), s.accepts w R.TST_RPL_CTRL (v ||| 4) → bitAt v 3 = false →
    s.on F.TST_RPL_STAT_BUSY = false → (s.storePlain R.TST_RPL_CTRL (v ||| 4)).rplRefused = some e →
    Completes (.rplStart w v) s fun t => t.get F.TST_RPL_STAT_ERR = e ∧ t.tst.rpl = s.tst.rpl ∧ t.grn = s.grn ∧ t.mill = s.mill) ∧
  (∀ (s : State) (w : World) (v : Word), s.accepts w R.TST_RPL_CTRL (v ||| 4) → bitAt v 3 = false →
    s.on F.TST_RPL_STAT_BUSY = false → (s.storePlain R.TST_RPL_CTRL (v ||| 4)).rplRefused = none →
    ((s.storePlain R.TST_RPL_CTRL (v ||| 4)).get F.TST_RPL_CTRL_MODE = 1 →
      Completes (.rplStart w v) s fun t =>
        t.tst.rpl = .armedRecord ∧ t.tst.valleys = 0 ∧ t.tst.abort = false ∧ t.grn.rpl = List.replicate 8 0) ∧
    ((s.storePlain R.TST_RPL_CTRL (v ||| 4)).get F.TST_RPL_CTRL_MODE = 2 →
      Completes (.rplStart w v) s fun t =>
        t.tst.rpl = .armedReplay ∧ t.tst.valleys = 0 ∧ t.tst.abort = false ∧ t.grn.rpl = List.replicate 8 0)) ∧
  (∀ (s : State) (w : World) (v : Word), s.accepts w R.TST_RPL_CTRL (v ||| 8) → bitAt v 2 = false →
    (s.tst.rpl = .armedRecord ∨ s.tst.rpl = .armedReplay →
      Completes (.rplAbort w v) s fun t => t.tst.rpl = .idle ∧ t.on F.TST_RPL_STAT_BUSY = false) ∧
    (s.tst.rpl = .recording ∨ s.tst.rpl = .replaying →
      Completes (.rplAbort w v) s fun t => t.tst.rpl = s.tst.rpl ∧ t.tst.abort = true ∧ t.rd R.TST_RPL_STAT = s.rd R.TST_RPL_STAT)) ∧
  (∀ s : State, s.tst.rpl = .armedRecord → s.rplValley = true →
    Completes .rplEngineStart s fun t =>
      t.tst.rpl = .recording ∧ t.tst.slot0 = s.count + s.slotPhase ∧ t.tst.phase = s.slotPhase ∧ t.regs = s.regs) ∧
  (∀ s : State, s.tst.rpl = .armedReplay → s.rplMatches = true →
    Completes .rplReplayMatch s fun t => t.tst.rpl = .replaying ∧ t.tst.slot0 = s.count + s.slotPhase) ∧
  (∀ s : State, s.tst.rpl = .armedReplay → 32 ≤ s.tst.valleys → s.rplMatches = false →
    Completes .rplPhaseTimeout s fun t => t.tst.rpl = .idle ∧ t.get F.TST_RPL_STAT_ERR = 4) ∧
  (∀ s : State, s.tst.rpl = .recording → s.rplSlotDue = true → s.rplRefused = none → s.tst.abort = false →
    s.get F.TST_RPL_POS_POS + 1 < s.get F.TST_RPL_LEN_SLOTS →
    Completes .rplRecordSlot s fun t =>
      t.tst.rpl = .recording ∧ t.get F.TST_RPL_POS_POS = s.get F.TST_RPL_POS_POS + 1 ∧ t.acq = s.acq ∧
      ((∀ a, s.regionAllows .secure true a = true) → s.rplAddr % 4 = 0 →
        ∀ p ∈ s.rplSlices.zipIdx, memWord t.mem.sram (s.rplAddr + 4 * p.2 - 0x10000000) = recordWord (nth s.acq.outs p.1 {}))) ∧
  (∀ s : State, s.tst.rpl = .replaying → s.rplSlotDue = true → s.rplRefused = none → s.tst.abort = false →
    s.get F.TST_RPL_POS_POS + 1 < s.get F.TST_RPL_LEN_SLOTS → s.mem.sramBad = [] → s.mem.sramCorrectable = [] →
    (∀ a, s.regionAllows .secure false a = true) →
    (∀ p ∈ s.rplSlices.zipIdx, channelDiffers (nth s.acq.outs p.1 {}) (memWord s.mem.sram (s.rplAddr + 4 * p.2 - 0x10000000)) = false) →
    Completes .rplReplaySlot s fun t => t.tst.rpl = .replaying ∧ t.get F.TST_RPL_POS_POS = s.get F.TST_RPL_POS_POS + 1 ∧
      ∀ p ∈ s.rplSlices.zipIdx, let w := memWord s.mem.sram (s.rplAddr + 4 * p.2 - 0x10000000)
        bitAt w 16 = true → ∃ x ∈ t.acq.flight, x.slice = p.1 ∧ x.stamp = s.count ∧ s.count + 40 ≤ x.due ∧ x.chan = getBits w 17 7 ∧
          x.opened = false ∧ x.diff = (s.resolve (getBits w 17 7)).2 ∧
          x.value = (if (s.resolve (getBits w 17 7)).2 = true then signed 16 w.toNat else ((getBits w 0 16 : Nat) : Int))) ∧
  (∀ (s : State) (n c : Nat) (v : Int) (diff opened : Bool), s.tst.rpl = .replaying → s.replaced n = true →
    (s.present n c v diff opened).acq.flight = s.acq.flight) ∧
  (∀ s : State, s.pending = [] → s.sys.phase = .run → s.clk.hold = false → s.rplRuns = true → 0 < s.get F.TST_RPL_POS_POS →
    s.get F.TST_RPL_LEN_SLOTS ≤ s.get F.TST_RPL_POS_POS → s.tst.slot0 + 32 * s.get F.TST_RPL_POS_POS = s.count + 1 → s.count + 1 < 2 ^ 64 →
    ∃ t, step s = .next t ∧ t.tst.rpl = .idle ∧ t.on F.TST_RPL_STAT_DONE = true ∧ t.on F.TST_RPL_STAT_BUSY = false)

/-! ### Acquisition -/

/-- A slot boundary while acquisition does not run only counts for the rotation; a slice in FIXED mode on a single-ended channel without
correction or averaging presents its code, with its trim and clamped to 0 to 65,535, at the intake 40 cycles after its stamp, behind the
values of earlier slots and of lower slices (R64, R67). The first value in order, once its time has come, reaches the intake, with its
stamp kept for its slice; ACQ_DATAn holds it, with VALID, and with OVR where the one before was not read (R67, R74). A read of ACQ_DATAn
clears VALID and latches the stamp (R74). -/
def Obligations.ConversionsAndTheirIntake : Prop :=
  (∀ (s : State) (raw : List Int), s.coreRuns = true → s.count % 32 = 0 → s.acq.slotAt ≠ some s.count → s.acq.running = false →
    s.spareState = 5 →
    Completes (.conversionSlot raw) s fun t =>
      t.acq.slotAt = some s.count ∧ t.acq.flight = s.acq.flight ∧ t.regs = s.regs ∧ t.events = s.events) ∧
  (∀ (s : State) (raw : List Int) (n : Fin 16), s.Shaped → s.coreRuns = true → s.count % 32 = 0 → s.acq.slotAt ≠ some s.count →
    s.acq.running = true → s.acq.stopping = false → s.spareState = 5 → s.on F.ACQ_STAT_CAL_DONE = true → s.inService = false →
    s.replayHolds = false → s.stampsBad = false →
    (∀ m : Fin 16, m ≠ n → s.get (F.ACQ_SLCn_MODE m) = 0) → s.get (F.ACQ_SLCn_MODE n) = 1 → s.get (F.ACQ_SLCn_CHAN n) ≤ 95 →
    s.pairOn (s.get (F.ACQ_SLCn_CHAN n) / 2) = false → s.on (F.ACQ_CHc_CORR (s.get (F.ACQ_SLCn_CHAN n))) = false →
    s.get (F.ACQ_CHc_AVG (s.get (F.ACQ_SLCn_CHAN n))) = 0 → s.get (F.ACQ_CHc_OW (s.get (F.ACQ_SLCn_CHAN n))) = 0 →
    Completes (.conversionSlot raw) s fun t =>
      t.acq.flight = insertConv ⟨n, s.count, s.count + 40, s.get (F.ACQ_SLCn_CHAN n),
        clampInt 0 65535 (divRound (nth raw n 0 + (s.slice n).trim) 16), false, false, false, false⟩ s.acq.flight) ∧
  (∀ (s : State) (v : Conv) (rest : List Conv), s.Shaped → s.coreRuns = true → s.acq.flight = v :: rest → s.due v.due = true →
    v.slice < 16 →
    Completes .intakeArrival s fun t =>
      t.acq.flight = rest ∧ nth t.acq.dataStamps v.slice 0 = BitVec.ofNat 32 v.stamp) ∧
  (∀ (s : State) (v : Conv) (rest : List Conv), s.coreRuns = true → s.acq.flight = v :: rest → s.due v.due = true → v.slice < 16 →
    v.chan < 96 →
    Completes .intakeArrival s fun t =>
      t.on (F.ACQ_DATAn_VALID v.slice) = true ∧ t.get (F.ACQ_DATAn_CHAN v.slice) = v.chan ∧
      t.get (F.ACQ_DATAn_VALUE v.slice) = wrapTo 16 v.value ∧
      (s.on (F.ACQ_DATAn_VALID v.slice) = true → t.on (F.ACQ_DATAn_OVR v.slice) = true ∧ s.sent t 0x30)) ∧
  (∀ (s : State) (w : World) (n : Fin 16), s.sys.phase = .run →
    Completes (.acqDataRead w n) s fun t =>
      t.on (F.ACQ_DATAn_VALID n) = false ∧ t.get (F.ACQ_DATAn_VALUE n) = s.get (F.ACQ_DATAn_VALUE n) ∧
      t.rd (R.ACQ_STAMPn n) = nth s.acq.dataStamps n 0 ∧
      (∀ b, b ≠ R.ACQ_DATAn n → b ≠ R.ACQ_STAMPn n → t.rd b = s.rd b) ∧ t.acq = s.acq)

/-- EN written from 0 to 1 arms acquisition; it starts at the instant of R70 once calibrated, with every table at its START and every
averaging group fresh, and stops at the slot boundary after EN went to 0; block enables written before take effect at the instant (R70).
The spare rotation: calibration done, a passing agreement block hands delivery over or back, a failing one loads the match trim, the
served slice returns or is faulted, a returned slice's trim decays, the reference interval leads back to S00, or stops the rotation when
SX fails its check (whether it passes is a free function of its codes, log entry 11), and EN resumes a stopped rotation (R75 to R80). -/
def Obligations.AcquisitionAndTheSpare : Prop :=
  (∀ (s : State) (w : World) (v : Word), s.accepts w R.ACQ_CTRL (v ||| 1) → s.on F.ACQ_CTRL_EN = false →
    Completes (.acqEnableWrite w v) s fun t =>
      t.acq.armed = true ∧ t.acq.valleySeen = false ∧ t.acq.running = s.acq.running ∧
      t.rd R.ACQ_CTRL = s.stored R.ACQ_CTRL (v ||| 1) ∧ (∀ b, b ≠ R.ACQ_CTRL → t.rd b = s.rd b)) ∧
  (∀ s : State, s.Shaped → s.acq.armed = true → s.on F.ACQ_STAT_CAL_DONE = true → s.syncInstant s.acq.valleySeen = true →
    Completes .acqStart s fun t =>
      t.acq.running = true ∧ t.acq.armed = false ∧ t.regs = s.regs ∧
      (∀ n : Fin 16, (t.slice n).entry = none ∧ (t.slice n).grpCount = 0)) ∧
  (∀ s : State, s.Shaped → s.coreRuns = true → s.acq.running = true → s.acq.stopping = true → s.count % 32 = 0 →
    Completes .acqStop s fun t =>
      t.acq.running = false ∧ t.regs = s.regs ∧ (∀ n : Fin 16, (t.slice n).grpCount = 0 ∧ (t.slice n).grpSum = 0)) ∧
  (∀ s : State, s.cfg.waiting = none → (∀ b : Bool, s.syncInstant b = true) →
    Completes .configSyncInstant s fun t =>
      t.prism.active = s.on F.PRISM_CTRL_EN ∧ t.mill.active = s.on F.MILL_CTRL_EN ∧ t.cfg.waiting = none) ∧
  (∀ s : State, s.coreRuns = true → s.on F.ACQ_STAT_CAL_DONE = false → 16256 ≤ s.acq.spare.slots → s.spareState = 0 →
    s.on F.ACQ_SPARE_EN = true →
    Completes .acqCalDone s fun t =>
      t.on F.ACQ_STAT_CAL_DONE = true ∧ t.spareSlice = 0 ∧ t.spareState = (if s.sliceActive 0 then 1 else 2) ∧
      (∀ b, b ≠ R.ACQ_STAT → t.rd b = s.rd b)) ∧
  (∀ (s : State) (ok : Bool), s.spareState = 1 → 1024 ≤ s.acq.spare.blockSlots →
    s.acq.spare.d.natAbs ≤ 64 * max 1 (s.get F.ACQ_SPARE_TOL) →
    Completes (.spareBlockEnd ok) s fun t =>
      t.spareState = 2 ∧ t.acq.spare.slots = 0 ∧
      t.get F.ACQ_SPARE_CNT_HANDOVERS = satInc F.ACQ_SPARE_CNT_HANDOVERS.width (s.get F.ACQ_SPARE_CNT_HANDOVERS) ∧
      (s.coreRuns = true → s.sent t 0x31)) ∧
  (∀ (s : State) (ok : Bool), s.spareState = 1 → 1024 ≤ s.acq.spare.blockSlots →
    64 * max 1 (s.get F.ACQ_SPARE_TOL) < s.acq.spare.d.natAbs → s.acq.spare.fails + 1 < max 1 (s.get F.ACQ_SPARE_TRIES) →
    Completes (.spareBlockEnd ok) s fun t =>
      t.spareState = 1 ∧ t.acq.spare.trim = clampInt (-1024) 1024 (-(divRound s.acq.spare.d 64)) ∧
      t.acq.spare.fails = s.acq.spare.fails + 1 ∧ t.acq.spare.blockSlots = 0 ∧ t.acq.spare.d = 0 ∧ t.regs = s.regs) ∧
  (∀ (s : State) (ok : Bool), s.spareState = 3 → 1024 ≤ s.acq.spare.blockSlots → s.spareSlice < 16 →
    s.acq.spare.d.natAbs ≤ 64 * max 1 (s.get F.ACQ_SPARE_TOL) → s.on F.ACQ_SPARE_EN = true →
    Completes (.spareBlockEnd ok) s fun t =>
      (s.spareSlice < 15 → t.spareSlice = s.spareSlice + 1) ∧ (s.spareSlice = 15 → t.spareState = 4) ∧ t.acq.spare.slots = 0 ∧
      (s.coreRuns = true → s.sent t 0x32)) ∧
  (∀ s : State, s.spareState = 2 → s.on F.ACQ_STAT_SLICE_FAULT = false → 16256 ≤ s.acq.spare.slots →
    (s.sliceActive s.spareSlice = true →
      Completes (.sliceCalEnd true) s fun t => t.spareState = 3 ∧ t.acq.spare.fails = 0 ∧ (∀ b, b ≠ R.ACQ_STAT → t.rd b = s.rd b)) ∧
    (Completes (.sliceCalEnd false) s fun t =>
      t.on F.ACQ_STAT_SLICE_FAULT = true ∧ t.get F.ACQ_STAT_FAULT_SLICE = s.spareSlice % 16 ∧ t.spareState = 2)) ∧
  (∀ (s : State) (n : Fin 16), s.Shaped → 1024 ≤ (s.slice n).decay →
    Completes (.trimDecay n) s fun t =>
      (t.slice n).trim.natAbs = (s.slice n).trim.natAbs - 1 ∧ (t.slice n).decay = (s.slice n).decay - 1024 ∧ t.regs = s.regs) ∧
  (∀ s : State, s.coreRuns = true → s.spareState = 4 → 2048 ≤ s.acq.spare.slots → s.on F.ACQ_SPARE_EN = true →
    Completes .spareReferenceEnd s fun t =>
      (Config.spareCheck s.acq.spare.refs = true →
        t.spareSlice = 0 ∧ t.spareState = (if s.sliceActive 0 then 1 else 2) ∧ t.acq.spare.refs = []) ∧
      (Config.spareCheck s.acq.spare.refs = false →
        t.on F.ACQ_STAT_SPARE_FAULT = true ∧ t.spareState = 5 ∧ s.sent t 0x37 ∧ (∀ b, b ≠ R.ACQ_STAT → t.rd b = s.rd b))) ∧
  (∀ (s : State) (w : World) (v : Word), s.accepts w R.ACQ_SPARE v →
    bitAt v 0 = false ∨ s.on F.ACQ_SPARE_EN = true ∨ s.spareState ≠ 5 ∨ s.on F.ACQ_STAT_SPARE_FAULT = true →
    Completes (.spareRotationWrite w v) s fun t =>
      t.rd R.ACQ_SPARE = s.stored R.ACQ_SPARE v ∧ (∀ b, b ≠ R.ACQ_SPARE → t.rd b = s.rd b) ∧ t.acq = s.acq) ∧
  (∀ (s : State) (w : World) (v : Word), s.accepts w R.ACQ_SPARE v → bitAt v 0 = true → s.on F.ACQ_SPARE_EN = false →
    s.spareState = 5 → s.on F.ACQ_STAT_SPARE_FAULT = false → s.acq.spare.next < 16 →
    Completes (.spareRotationWrite w v) s fun t =>
      t.rd R.ACQ_SPARE = s.stored R.ACQ_SPARE v ∧ t.spareSlice = s.acq.spare.next ∧
      t.spareState = (if s.sliceActive s.acq.spare.next then 1 else 2))

/-- A capture window opens at its START phase, closes at its END phase, in the same period when END lies after START and else in a later
one (R81), and is published 64 cycles later: the stamp of its close, its count, its number of closes, and for each position that took
values the result with AGE 0 (R82 to R84). GO copies the results of window WIN and their stamp into the snapshot and changes no other
register (R88); each 12,500-cycle boundary ends a stream interval, and 64 cycles later the enabled streams' results are published with
event 0x36 (R89). -/
def Obligations.WindowsSnapshotsAndStreams : Prop :=
  (∀ (s : State) (w : Fin 64), s.Shaped → s.winOn w = true → s.carRunning (s.get (F.PRISM_WINw_CFG_CAR w)) = true →
    (s.prismWin w).open_ = none → s.openedNow w = false →
    s.atPhase (s.get (F.PRISM_WINw_CFG_CAR w)) (s.get (F.PRISM_WINw_PH_START w)) = true →
    Completes (.windowOpen w) s fun t =>
      (t.prismWin w).open_ = some { openAt := s.count, valley := (s.car (s.get (F.PRISM_WINw_CFG_CAR w))).valley.toNat } ∧
      (t.prismWin w).closed = (s.prismWin w).closed ∧
      (∀ v : Fin 64, v ≠ w → t.prismWin v = s.prismWin v) ∧ t.regs = s.regs ∧ t.events = s.events) ∧
  (∀ (s : State) (w : Fin 64) (acc : WinAcc), s.Shaped → s.coreRuns = true → (s.prismWin w).open_ = some acc →
    s.atPhase (s.get (F.PRISM_WINw_CFG_CAR w)) (s.get (F.PRISM_WINw_PH_END w)) = true → acc.openAt ≤ s.count →
    (s.get (F.PRISM_WINw_PH_START w) < s.get (F.PRISM_WINw_PH_END w) →
      acc.valley = (s.car (s.get (F.PRISM_WINw_CFG_CAR w))).valley.toNat) →
    (¬ s.get (F.PRISM_WINw_PH_START w) < s.get (F.PRISM_WINw_PH_END w) →
      acc.valley < (s.car (s.get (F.PRISM_WINw_CFG_CAR w))).valley.toNat) →
    Completes (.windowClose w) s fun t =>
      (t.prismWin w).open_ = none ∧ (t.prismWin w).closed = some { acc with closeAt := s.count } ∧
      (∀ v : Fin 64, v ≠ w → t.prismWin v = s.prismWin v) ∧ t.regs = s.regs ∧ t.events = s.events) ∧
  (∀ (s : State) (w : Fin 64) (acc : WinAcc), s.Shaped → s.coreRuns = true → (s.prismWin w).closed = some acc →
    s.due (acc.closeAt + 64) = true →
    Completes (.windowPublish w) s fun t =>
      (t.prismWin w).closed = none ∧ t.rd (R.PRISM_WINw_STAMP w) = BitVec.ofNat 32 acc.closeAt ∧
      t.get (F.PRISM_WINw_INFO_COUNT w) =
        min 65535 ((List.range (s.winNch w)).map (fun m => (nth acc.chans m {}).count)).sum ∧
      t.get (F.PRISM_WINw_INFO_CLOSES w) = (s.get (F.PRISM_WINw_INFO_CLOSES w) + 1) % 2 ^ (F.PRISM_WINw_INFO_CLOSES w).width ∧
      (∀ m : Fin 16, m.val < s.winNch w → 0 < (nth acc.chans m {}).count →
        t.get (F.PRISM_RESw_m_VALUE w m) = wrapTo 20 ((nth acc.chans m {}).result (s.get (F.PRISM_WINw_CFG_RED w))) ∧
        t.get (F.PRISM_RESw_m_AGE w m) = 0) ∧
      (w.val < 16 → s.sent t (0x20 + w))) ∧
  (∀ (s : State) (w : World) (v : Word), s.accepts w R.PRISM_SNAP_CTRL (v ||| 0x100) →
    Completes (.prismSnapshot w v) s fun t =>
      (∀ m : Fin 16, t.rd (R.PRISM_SNAPm m) = s.rd (R.PRISM_RESw_m (getBits (s.stored R.PRISM_SNAP_CTRL (v ||| 0x100)) 0 6) m)) ∧
      t.rd R.PRISM_SNAP_STAMP = s.rd (R.PRISM_WINw_STAMP (getBits (s.stored R.PRISM_SNAP_CTRL (v ||| 0x100)) 0 6)) ∧
      (∀ b, b ≠ R.PRISM_SNAP_CTRL → b ≠ R.PRISM_SNAP_STAMP → (∀ m : Fin 16, b ≠ R.PRISM_SNAPm m) → t.rd b = s.rd b) ∧
      t.prism = s.prism) ∧
  (∀ s : State, s.coreRuns = true → s.count % 12500 = 0 → s.prism.interval < s.count / 12500 →
    Completes .streamIntervalEnd s fun t =>
      t.prism.interval = s.count / 12500 ∧ t.prism.ended = some s.count ∧ t.regs = s.regs ∧
      t.prism.streams = s.prism.streams.map (fun x => { sum := 0, count := 0, endSum := x.sum, endCount := x.count })) ∧
  (∀ (s : State) (e : Nat) (k : Fin 40), s.coreRuns = true → s.prism.ended = some e → s.due (e + 64) = true →
    s.on (F.PRISM_STRk_EN k) = true →
    Completes .streamPublish s fun t =>
      t.rd (R.PRISM_STRDk k) = (nth s.prism.streams k {}).word ∧ t.prism.ended = none ∧ s.sent t 0x36)

/-! ### The Weathervane -/

/-- A 5,000-cycle boundary ends a sample: what every set has gathered waits for its output and gathering begins anew, with STATE, SHD_FREQ
and the impedance noted as they stand then, which is the model's reading of R94 (log entry 13). 2,048 cycles later every set that runs
takes its sample, with the end of its interval and whether its three voltages were valid, and a set that does not run stays (R93). -/
def Obligations.WeathervaneSamples : Prop :=
  (∀ s : State, s.coreRuns = true → s.count % 5000 = 0 → s.wvn.interval < s.count / 5000 → s.Shaped →
    Completes .wvnSampleEnd s fun t =>
      t.wvn.interval = s.count / 5000 ∧ t.wvn.ended = some s.count ∧ t.regs = s.regs ∧ t.wvn.mpps = s.wvn.mpps ∧
      (∀ k : Fin 4, t.wset k = { s.wset k with
        acc := List.replicate 6 (0, 0), endAcc := (s.wset k).acc, endLate := false, endFreq := (s.wset k).shdFreq,
        endZ := ((s.wset k).zre, (s.wset k).zim), endState := s.rd (R.WVN_SETs_STAT k) })) ∧
  (∀ (s : State) (e : Nat), s.Shaped → s.coreRuns = true → s.wvn.ended = some e → s.due (e + 2048) = true →
    Completes .wvnSampleOutput s fun t =>
      t.wvn.ended = none ∧
      (∀ k : Fin 4, s.setOn k = true → (t.wset k).seen = true ∧ (t.wset k).lastEnd = e ∧
        (t.wset k).sampleValid = s.partValid k 0 ∧ (s.partValid k 0 = true → t.on (F.WVN_SETs_STAT_VALID k) = true)) ∧
      (∀ k : Fin 4, s.setOn k = false → t.wset k = s.wset k ∧ t.rd (R.WVN_SETs_STAT k) = s.rd (R.WVN_SETs_STAT k)))

/-- LOCKED sets after LOCK_N samples inside and clears after a quarter of them outside, with its event and with its counts begun again;
VALID clears after LOSS_N invalid samples, and with it LOCKED and the pickups that it inhibits; a phase jump is stored, flagged, counted
and emitted, and ANGLE stands unless RESEED asks for its shift (R93, R98, R100, R105). The shadow's return: a write of RESYNC takes a held
or steered shadow of a locked set to RESYNC, is answered by CLR_REF under ISLAND or without LOCKED, and RESYNC is complete after LOCK_N
samples near ANGLE; PU_VS clears at the first sample that ends VS_HOLD after it was set (R103, R105). -/
def Obligations.LockJumpAndTheShadow : Prop :=
  (∀ (s : State) (k : Fin 4), s.setOn k = true → s.on (F.WVN_SETs_STAT_LOCKED k) = false → s.lockN k ≤ (s.wset k).lockRun →
    s.on (F.WVN_SETs_STAT_RANGE k) = false →
    Completes (.wvnLock k) s fun t =>
      t.on (F.WVN_SETs_STAT_LOCKED k) = true ∧ (∀ b, b ≠ R.WVN_SETs_STAT k → t.rd b = s.rd b) ∧ s.loopKept t k) ∧
  (∀ (s : State) (k : Fin 4), s.Shaped → s.setOn k = true → s.on (F.WVN_SETs_STAT_LOCKED k) = true →
    (s.lockN k + 3) / 4 ≤ (s.wset k).unlockRun →
    Completes (.wvnLock k) s fun t =>
      t.on (F.WVN_SETs_STAT_LOCKED k) = false ∧ t.on (F.WVN_SETs_STAT_HARM_VALID k) = false ∧
      (t.wset k).lockRun = 0 ∧ (t.wset k).unlockRun = 0 ∧ (t.wset k).angle = (s.wset k).angle ∧ (t.wset k).freq = (s.wset k).freq ∧
      s.sent t (0x48 + k) ∧ (∀ b, b ≠ R.WVN_SETs_STAT k → t.rd b = s.rd b)) ∧
  (∀ (s : State) (k : Fin 4), s.Shaped → s.setOn k = true → s.on (F.WVN_SETs_STAT_VALID k) = true →
    max 1 (s.get (F.WVN_SETs_CFG_LOSS_N k)) ≤ (s.wset k).lossRun →
    Completes (.wvnValidLoss k) s fun t =>
      t.on (F.WVN_SETs_STAT_VALID k) = false ∧ t.on (F.WVN_SETs_STAT_LOCKED k) = false ∧ t.on (F.WVN_SETs_STAT_PU_F k) = false ∧
      t.on (F.WVN_SETs_STAT_PU_R k) = false ∧ t.on (F.WVN_SETs_STAT_PU_VS k) = false ∧
      t.on (F.WVN_SETs_STAT_PU_V k) = s.on (F.WVN_SETs_STAT_PU_V k) ∧ (t.wset k).heldF = none ∧ (t.wset k).heldR = none ∧
      (t.wset k).heldV = (s.wset k).heldV ∧ (t.wset k).angle = (s.wset k).angle ∧ (t.wset k).freq = (s.wset k).freq ∧
      (s.on (F.WVN_SETs_STAT_LOCKED k) = true → s.sent t (0x48 + k)) ∧ (∀ b, b ≠ R.WVN_SETs_STAT k → t.rd b = s.rd b)) ∧
  (∀ (s : State) (k : Fin 4), s.Shaped → s.setOn k = true → (s.wset k).jumpArmed = true → s.jumpN k ≤ (s.wset k).jumpRun →
    Completes (.phaseJump k) s fun t =>
      t.on (F.WVN_SETs_STAT_JUMP k) = true ∧ (t.wset k).jump = (s.wset k).err ∧ (t.wset k).jumpArmed = false ∧
      (s.on (F.WVN_SETs_CFG_RESEED k) = false → (t.wset k).angle = (s.wset k).angle) ∧
      (s.on (F.WVN_SETs_CFG_RESEED k) = true →
        (t.wset k).angle = fracTurn ((s.wset k).angle + singleRat (s.wset k).err / (2 * piRat))) ∧
      (t.wset k).freq = (s.wset k).freq ∧ (∀ b, b ≠ R.WVN_SETs_STAT k → b ≠ R.WVN_SETs_CNT k → t.rd b = s.rd b) ∧
      t.get (F.WVN_SETs_CNT_JUMPS k) = satInc (F.WVN_SETs_CNT_JUMPS k).width (s.get (F.WVN_SETs_CNT_JUMPS k)) ∧
      s.sent t (0x48 + k)) ∧
  (∀ (s : State) (w : World) (k : Fin 4) (v : Word), s.accepts w (R.WVN_SETs_SHD k) (v ||| 0x10000) →
    s.on (F.WVN_SETs_STAT_ISLAND k) = false → s.on (F.WVN_SETs_STAT_LOCKED k) = true →
    s.get (F.WVN_SETs_STAT_SHD k) = 1 ∨ s.get (F.WVN_SETs_STAT_SHD k) = 2 →
    Completes (.shadowResyncWrite w k v) s fun t =>
      t.get (F.WVN_SETs_STAT_SHD k) = 3 ∧ t.rd (R.WVN_SETs_SHD k) = s.stored (R.WVN_SETs_SHD k) (v ||| 0x10000) ∧
      (∀ b, b ≠ R.WVN_SETs_STAT k → b ≠ R.WVN_SETs_SHD k → t.rd b = s.rd b) ∧ (∀ n : Fin 4, n ≠ k → t.wset n = s.wset n)) ∧
  (∀ (s : State) (w : World) (k : Fin 4) (v : Word), s.accepts w (R.WVN_SETs_SHD k) (v ||| 0x10000) →
    s.on (F.WVN_SETs_STAT_ISLAND k) = true ∨ s.on (F.WVN_SETs_STAT_LOCKED k) = false →
    Completes (.shadowResyncWrite w k v) s fun t =>
      t.on (F.WVN_SETs_STAT_CLR_REF k) = true ∧ t.get (F.WVN_SETs_STAT_SHD k) = s.get (F.WVN_SETs_STAT_SHD k) ∧ t.wvn = s.wvn) ∧
  (∀ (s : State) (k : Fin 4), s.setOn k = true → s.get (F.WVN_SETs_STAT_SHD k) = 3 → s.lockN k ≤ (s.wset k).resyncRun →
    s.anyPickup k = false → s.get (F.WVN_SETs_STAT_FRT k) = 0 →
    Completes (.shadowResyncDone k) s fun t =>
      t.get (F.WVN_SETs_STAT_SHD k) = 0 ∧ (∀ b, b ≠ R.WVN_SETs_STAT k → t.rd b = s.rd b) ∧ s.loopKept t k) ∧
  (∀ (s : State) (k : Fin 4), s.setOn k = true → s.on (F.WVN_SETs_STAT_PU_VS k) = true → (s.wset k).vsEnd ≤ (s.wset k).lastEnd →
    Completes (.vsPickupHoldEnd k) s fun t =>
      t.on (F.WVN_SETs_STAT_PU_VS k) = false ∧ (∀ b, b ≠ R.WVN_SETs_STAT k → t.rd b = s.rd b) ∧ s.loopKept t k)

/-- ISLAND is declared with its stamp, cause, summary bit and event, and clears by a write of CLR only while every pickup is 0, a held
shadow then waiting for RESYNC; the end of an injection period puts what it gathered beside the last ACT_N − 1 periods and gathering
begins anew, but for the part of a period in which gathering began, which counts as none (R106, R107, R109). Ride-through: NORMAL leaves
for DISTURBED after DET_N samples outside the band, with its onset stamp, its count and PU_V at 0, a profile breach trips, CONFIRM leads
to RIDE and REC_TIME back to NORMAL, each with its event; CLR leaves TRIP only inside the recovery band, with the event of the transition
to NORMAL, and is refused below and above it; and a write that clears EN returns to NORMAL (R105, R113). -/
def Obligations.IslandingAndRideThrough : Prop :=
  (∀ (s : State) (k : Fin 4), s.setOn k = true → s.on (F.WVN_SETs_STAT_ISLAND k) = false → s.islandCause k ≠ 0 →
    Completes (.islandDeclare k) s fun t =>
      t.on (F.WVN_SETs_STAT_ISLAND k) = true ∧ t.get (F.WVN_SETs_ISL_CAUSE_CAUSE k) = s.islandCause k ∧
      t.rd (R.WVN_SETs_ISL_STAMP k) = BitVec.ofNat 32 (s.wset k).lastEnd ∧ t.bit R.WVN_STAT (4 + k) = true ∧
      t.get (F.WVN_SETs_STAT_FRT k) = 0 ∧ s.sent t (0x40 + k) ∧ s.loopKept t k) ∧
  (∀ (s : State) (w : World) (k : Fin 4) (v : Word), s.accepts w (R.WVN_SETs_ISLA k) (v ||| 0x100) →
    (s.anyPickup k = false → Completes (.islandClear w k v) s fun t =>
      t.on (F.WVN_SETs_STAT_ISLAND k) = false ∧ t.bit R.WVN_STAT (4 + k) = false ∧
      t.get (F.WVN_SETs_STAT_SHD k) = s.get (F.WVN_SETs_STAT_SHD k) ∧ (s.on (F.WVN_SETs_STAT_ISLAND k) = false → t.wvn = s.wvn) ∧
      (s.Shaped → s.on (F.WVN_SETs_STAT_ISLAND k) = true → s.get (F.WVN_SETs_STAT_SHD k) = 1 → (t.wset k).byResync = true)) ∧
    (s.anyPickup k = true → Completes (.islandClear w k v) s fun t =>
      t.on (F.WVN_SETs_STAT_CLR_REF k) = true ∧ t.on (F.WVN_SETs_STAT_ISLAND k) = s.on (F.WVN_SETs_STAT_ISLAND k) ∧ t.wvn = s.wvn)) ∧
  (∀ (s : State) (k : Fin 4), s.Shaped → s.setOn k = true → s.on (F.WVN_SETs_ISLA_USE_ACT k) = true → (s.wset k).wraps < s.injWraps k →
    Completes (.activeEstimate k) s fun t =>
      (t.wset k).wraps = s.injWraps k ∧ (t.wset k).inj = {} ∧
      ((s.wset k).injWhole = true → (t.wset k).periods = ((s.wset k).inj :: (s.wset k).periods).take (s.actN k)) ∧
      ((s.wset k).injWhole = false → (t.wset k).periods = (s.wset k).periods) ∧ (t.wset k).injWhole = true ∧
      (∀ b, b ≠ R.WVN_SETs_STAT k → t.rd b = s.rd b)) ∧
  (∀ (s : State) (k : Fin 4), s.frtWorks k = true → (s.wset k).sampleValid = true → s.get (F.WVN_SETs_STAT_FRT k) = 0 →
    s.detN k ≤ (s.wset k).frtOut →
    Completes (.frtTransition k) s fun t =>
      t.get (F.WVN_SETs_STAT_FRT k) = 1 ∧ t.rd (R.WVN_SETs_FRT_STAMP k) = BitVec.ofNat 32 (s.wset k).frtRunStart ∧
      t.get (F.WVN_SETs_CNT_DIPS k) = satInc (F.WVN_SETs_CNT_DIPS k).width (s.get (F.WVN_SETs_CNT_DIPS k)) ∧
      t.on (F.WVN_SETs_STAT_PU_V k) = false ∧ s.sent t (0x44 + k)) ∧
  (∀ (s : State) (k : Fin 4), s.frtWorks k = true → (s.wset k).sampleValid = true →
    s.get (F.WVN_SETs_STAT_FRT k) = 1 ∨ s.get (F.WVN_SETs_STAT_FRT k) = 2 → s.breach k = true →
    Completes (.frtTransition k) s fun t =>
      t.get (F.WVN_SETs_STAT_FRT k) = 4 ∧ t.bit R.WVN_STAT (8 + k) = true ∧
      s.sent t (0x44 + k) ∧ s.sent t 0x4C) ∧
  (∀ (s : State) (k : Fin 4), s.frtWorks k = true → s.get (F.WVN_SETs_STAT_FRT k) = 1 → s.confirmed k = true →
    (s.wset k).sampleValid = false ∨ s.breach k = false →
    Completes (.frtConfirmElapsed k) s fun t =>
      t.get (F.WVN_SETs_STAT_FRT k) = 2 ∧ s.sent t (0x44 + k)) ∧
  (∀ (s : State) (k : Fin 4), s.frtWorks k = true → s.get (F.WVN_SETs_STAT_FRT k) = 3 →
    (s.wset k).frtEntry + 400000 * s.get (F.WVN_SETs_FRT2_REC_TIME k) ≤ (s.wset k).lastEnd →
    Completes (.frtRecoverElapsed k) s fun t =>
      t.get (F.WVN_SETs_STAT_FRT k) = 0 ∧ s.sent t (0x44 + k)) ∧
  (∀ (s : State) (w : World) (k : Fin 4) (v : Word), s.accepts w (R.WVN_SETs_FRT k) (v ||| 4) → bitAt v 0 = true →
    s.get (F.WVN_SETs_STAT_FRT k) = 4 →
    (perUnit (s.get (F.WVN_SETs_FRTR_LO k)) ≤ singleRat (s.wset k).vmag →
      singleRat (s.wset k).vmag ≤ perUnit (s.get (F.WVN_SETs_FRTR_HI k)) →
      Completes (.frtClear w k v) s fun t =>
        t.get (F.WVN_SETs_STAT_FRT k) = 0 ∧ t.bit R.WVN_STAT (8 + k) = false ∧ (s.coreRuns = true → s.sent t (0x44 + k))) ∧
    (perUnit (s.get (F.WVN_SETs_FRTR_HI k)) < singleRat (s.wset k).vmag →
      Completes (.frtClear w k v) s fun t => t.get (F.WVN_SETs_STAT_FRT k) = 4 ∧ t.on (F.WVN_SETs_STAT_CLR_REF k) = true) ∧
    (singleRat (s.wset k).vmag < perUnit (s.get (F.WVN_SETs_FRTR_LO k)) →
      Completes (.frtClear w k v) s fun t => t.get (F.WVN_SETs_STAT_FRT k) = 4 ∧ t.on (F.WVN_SETs_STAT_CLR_REF k) = true)) ∧
  (∀ (s : State) (w : World) (k : Fin 4) (v : Word), s.accepts w (R.WVN_SETs_FRT k) (v &&& 0xFFFFFFFE) → bitAt v 2 = false →
    s.on (F.WVN_SETs_FRT_EN k) = true →
    Completes (.frtDisable w k v) s fun t => t.get (F.WVN_SETs_STAT_FRT k) = 0 ∧ t.bit R.WVN_STAT (8 + k) = false)

/-- Maximum-power-point tracking. The end of a dither period moves VREF by K times the difference of its two averages, clamped to
STEP_MAX, or under the limit by STEP_MAX, and holds it at VMIN to VMAX; VREF_OUT is then VREF less DITH, in the second half VREF plus
DITH, and at a scan's step j VMAX less j of 63 parts of VMAX − VMIN, rounded. SCAN_NOW asks for a scan, which begins at the end of a
dither period; a step whose average is the greatest so far is the best; the last step stores V_best as VBEST and moves VREF there where
the gain asks for it, else VREF stands, and raises event 0x4D (R117, R118). What is rounded to single precision on the way is the model's
reading (log entry 13), and so is the place of a publication among the halves and steps (log entry 14). -/
def Obligations.MaximumPowerPoint : Prop :=
  (∀ (s : State) (m : Fin 8) (u : Nat), s.Shaped → s.mppAtValley m = true → s.ditherLast m = true → (s.mpp m).doneAt ≠ some s.count →
    (s.mpp m).prevValley = some u →
    Completes (.mpptDitherEnd m) s fun t =>
      (t.mpp m).idx = 0 ∧ (t.mpp m).high = false ∧ (t.mpp m).doneAt = some s.count ∧ (t.mpp m).prevValley = some s.count ∧
      (∀ n : Fin 8, n ≠ m → t.mpp n = s.mpp n) ∧
      ((s.mpp m).scanReq = false → s.get (F.WVN_MPPm_SCAN_SCAN_INT m) = 0 →
        (t.mpp m).scan = none ∧ t.vrefOut m = singleRat (t.mpp m).vref - (s.get (F.WVN_MPPm_STEP_LO m) : Rat)) ∧
      ((s.mpp m).scanReq = true → t.on (F.WVN_MPPm_STAT_LIMITED m) = false →
        (t.mpp m).scan = some 0 ∧ t.on (F.WVN_MPPm_STAT_SCAN m) = true ∧ t.vrefOut m = (s.get (F.WVN_MPPm_VLIM_HI m) : Rat))) ∧
  (∀ (s : State) (m : Fin 8) (u : Nat) (kg v : Rat) (n n' : Bool), s.Shaped → s.mppAtValley m = true → s.ditherLast m = true →
    (s.mpp m).doneAt ≠ some s.count → (s.mpp m).prevValley = some u → s.get (F.WVN_MPPm_VLIM_LO m) ≤ s.get (F.WVN_MPPm_VLIM_HI m) →
    let x := (s.mppGather m ((s.mpp m).taken u)).mpp m
    let low := toSingle (x.sumLow / (x.cntLow : Rat))
    let high := toSingle (x.sumHigh / (x.cntHigh : Rat))
    let g := toSingle (singleRat high - singleRat low)
    let mean := toSingle ((singleRat low + singleRat high) / 2)
    let limited := s.on (F.WVN_MPPm_CFG_LIM_EN m) && (ofSingle (s.rd (R.WVN_MPPm_LIM m))).lt (ofSingle mean)
    let step : Rat := s.get (F.WVN_MPPm_STEP_HI m)
    x.cntLow ≠ 0 → x.cntHigh ≠ 0 → ofSingle (roundSingle ((ofSingle (s.rd (R.WVN_MPPm_K m))).mul (ofSingle g))).1 = .fin kg n →
    ofSingle x.vref = .fin v n' →
    Completes (.mpptDitherEnd m) s fun t =>
      t.on (F.WVN_MPPm_STAT_LIMITED m) = limited ∧
      singleRat (t.mpp m).vref = singleRat (toSingle (max (s.get (F.WVN_MPPm_VLIM_LO m) : Rat)
        (min (s.get (F.WVN_MPPm_VLIM_HI m) : Rat) (v + (if limited = true then step else max (-step) (min step kg)))))) ∧
      (t.mpp m).ditherMean = some mean) ∧
  (∀ (s : State) (m : Fin 8) (u : Nat), s.Shaped → (s.mpp m).doneAt ≠ some s.count → (s.mpp m).prevValley = some u →
    (s.mpp m).scan = none → s.on (F.WVN_MPPm_CFG_HOLD m) = false → (s.mpp m).high = false → s.mppHalf m ≤ (s.mpp m).idx + 1 →
    ((s.mppPeriod m).mpp m).high = true ∧ ((s.mppPeriod m).mpp m).idx = 0 ∧ ((s.mppPeriod m).mpp m).vref = (s.mpp m).vref ∧
    (s.mppPeriod m).vrefOut m = singleRat (s.mpp m).vref + (s.get (F.WVN_MPPm_STEP_LO m) : Rat)) ∧
  (∀ (s : State) (m : Fin 8), (s.mppLatch m).rd (R.WVN_Mm_n m 0) = toSingle (16 * s.vrefOut m)) ∧
  (∀ (s : State) (w : World) (m : Fin 8) (v : Word), s.Shaped → s.accepts w (R.WVN_MPPm_CFG m) (v ||| 0x4000000) →
    Completes (.mpptScanRequest w m v) s fun t =>
      (t.mpp m).scanReq = true ∧ t.rd (R.WVN_MPPm_CFG m) = s.stored (R.WVN_MPPm_CFG m) (v ||| 0x4000000) ∧
      (∀ b, b ≠ R.WVN_MPPm_CFG m → t.rd b = s.rd b)) ∧
  (∀ (s : State) (m : Fin 8) (u j : Nat), s.Shaped → s.mppAtValley m = true → s.scanLast m = true → (s.mpp m).scan = some j →
    (s.mpp m).doneAt ≠ some s.count → (s.mpp m).prevValley = some u →
    let x := (s.mppGather m ((s.mpp m).taken u)).mpp m
    let p := toSingle (x.stepSum / (x.stepCnt : Rat))
    let here := some (p, (s.scanVolt m j).toNat)
    let best := if x.stepCnt = 0 then x.best else
      match x.best with
      | some q => if singleRat q.1 < singleRat p then here else some q
      | none => here
    (j < 63 → Completes (.mpptScanStep m) s fun t =>
      (t.mpp m).scan = some (j + 1) ∧ (t.mpp m).idx = 0 ∧ (t.mpp m).doneAt = some s.count ∧ (t.mpp m).best = best ∧
      (t.mpp m).vref = (s.mpp m).vref ∧
      (s.on (F.WVN_MPPm_CFG_HOLD m) = false → t.vrefOut m = ((s.get (F.WVN_MPPm_VLIM_HI m) : Int) -
        ratRoundAway ((((j + 1 : Nat) : Int) * ((s.get (F.WVN_MPPm_VLIM_HI m) : Int) - (s.get (F.WVN_MPPm_VLIM_LO m) : Int)) : Int) / (63 : Rat)) :
          Int))) ∧
    (63 ≤ j → Completes (.mpptScanStep m) s fun t =>
      (t.mpp m).scan = none ∧ t.on (F.WVN_MPPm_STAT_SCAN m) = false ∧ s.sent t 0x4D ∧
      (∀ (q : Word) (v : Nat), best = some (q, v) → (t.mpp m).vbest = toSingle (v : Rat) ∧
        ∀ d : Word, (s.mpp m).ditherMean = some d →
          ((singleRat d * (1 + (s.get (F.WVN_MPPm_SCAN_GAIN m) : Rat) / 1000) < singleRat q ∧ s.on (F.WVN_MPPm_CFG_HOLD m) = false →
            s.get (F.WVN_MPPm_VLIM_LO m) ≤ v → v ≤ s.get (F.WVN_MPPm_VLIM_HI m) →
            singleRat (t.mpp m).vref = singleRat (toSingle (v : Rat))) ∧
           (¬ (singleRat d * (1 + (s.get (F.WVN_MPPm_SCAN_GAIN m) : Rat) / 1000) < singleRat q ∧ s.on (F.WVN_MPPm_CFG_HOLD m) = false) →
            (t.mpp m).vref = (s.mpp m).vref))) ∧
      (best = none → (t.mpp m).vref = (s.mpp m).vref ∧ (t.mpp m).vbest = (s.mpp m).vbest)))

/-! ### The Loom -/

/-- The bound instants of a running carrier. The valley takes the event number and the stamp, the peak comes once in a period, the commit
instant once in a period, and each raises its event; a waiting carrier starts at event 0 (R168 to R170). An enabled reload copies the
shadows of every leg of the carrier, and under HOLD, or where RELOAD does not name the instant, none is copied (R178, R179); the frames
bound to the event begin (R133); at the valley the sets of the Weathervane latch, with FREQ as it is and ANGLE advanced to the valley
(R94); at the commit instant the words that an ended task has staged take effect, and those of a task that has not ended do not (R16,
R135). A valley that is accepted late takes the present COUNT: that, and which event has which number, is the model's reading (log entry
16), and so is the instant at which a frame's commit is due (log entries 4 and 18). -/
def Obligations.CarrierInstants : Prop :=
  (∀ (s : State) (c : Fin 8), s.Shaped → s.carRunning c = true → s.carPeriod c ≤ s.carElapsed c → s.on (F.LOOM_CARc_EN c) = true →
    Completes (.carrierValley c) s fun t =>
      (t.car c).valley = s.clk.count ∧ (t.car c).events = (s.car c).events + 1 ∧ (t.car c).committed = false ∧ s.sent t c ∧
      s.clockKept t ∧ t.safe = s.safe ∧
      ((s.car c).pendingCfg = [] → ∀ l : Fin 24, s.legCar l = c →
        (s.reloads c 0 = true → (t.leg l).actU = s.get (F.LOOM_LEGl_CMPU_POS l) ∧ (t.leg l).actD = s.get (F.LOOM_LEGl_CMPD_POS l)) ∧
        (s.reloads c 0 = false → (t.leg l).actU = (s.leg l).actU ∧ (t.leg l).actD = (s.leg l).actD)) ∧
      (∀ l : Fin 24, s.legCar l ≠ c → (t.leg l).actU = (s.leg l).actU ∧ (t.leg l).actD = (s.leg l).actD) ∧
      (s.millRuns = true → s.mill.halted = false → ∀ k : Fin 8, s.on (F.MILL_TASKt_BIND_EN k) = true → s.taskCar k = c →
        s.on (F.MILL_TASKt_BIND_EDGE k) = false → (((s.car c).events : Int) - (s.taskPhase k : Int)) % (s.taskDiv k : Int) = 0 →
        (t.task k).inFrame = true ∧ (t.task k).start = s.count ∧ (t.task k).frameNo = (s.task k).nextNo ∧ (t.task k).ended = false ∧
        (t.task k).committed = false) ∧
      (s.wvn.ended = none → ∀ k : Fin 4, s.setOn k = true → s.get (F.WVN_SETs_CFG_CAR k) = c → (s.wset k).seen = true →
        (s.wset k).lastEnd + 2048 ≠ s.count →
        t.rd (R.WVN_Ls_n k 2) = (s.wset k).freq ∧
        t.rd (R.WVN_Ls_n k 0) = turnWord ((s.wset k).angle + turnsIn (s.wset k).freq (s.count - (s.wset k).lastEnd)))) ∧
  (∀ (s : State) (c : Fin 8), s.Shaped → s.carRunning c = true → (s.car c).peaked = false → s.carPeriod c ≤ 2 * s.carElapsed c →
    s.carElapsed c < s.carPeriod c →
    Completes (.carrierPeak c) s fun t =>
      (t.car c).peaked = true ∧ (t.car c).valley = (s.car c).valley ∧ (t.car c).events = (s.car c).events ∧ s.sent t (8 + c) ∧
      s.clockKept t ∧ t.safe = s.safe ∧
      (∀ l : Fin 24, s.legCar l = c →
        (s.reloads c 1 = true → (t.leg l).actU = s.get (F.LOOM_LEGl_CMPU_POS l) ∧ (t.leg l).actD = s.get (F.LOOM_LEGl_CMPD_POS l)) ∧
        (s.reloads c 1 = false → (t.leg l).actU = (s.leg l).actU ∧ (t.leg l).actD = (s.leg l).actD)) ∧
      (s.millRuns = true → s.mill.halted = false → ∀ k : Fin 8, s.on (F.MILL_TASKt_BIND_EN k) = true → s.taskCar k = c →
        s.on (F.MILL_TASKt_BIND_EDGE k) = true → 1 ≤ (s.car c).events →
        (((s.car c).events : Int) - 1 - (s.taskPhase k : Int)) % (s.taskDiv k : Int) = 0 →
        (t.task k).inFrame = true ∧ (t.task k).start = s.count ∧ (t.task k).frameNo = (s.task k).nextNo)) ∧
  (∀ (s : State) (c : Fin 8), s.Shaped → s.carRunning c = true → (s.car c).committed = false → s.commitCycle c ≤ s.carElapsed c →
    Completes (.loomCommitInstant c) s fun t =>
      (t.car c).committed = true ∧ (t.car c).valley = (s.car c).valley ∧ s.sent t (0x10 + c) ∧ s.clockKept t ∧
      t.safe = s.safe ∧
      ((s.car c).peaked = true → s.millRuns = true → ∀ i : Fin 256,
        (∀ k : Fin 8, s.stagedOwner i = some k.val → i.val ∈ s.mill.written → s.commitDue k c = true → (s.task k).skipped = false →
          (s.task k).ended = true →
          (i.val < 48 → t.get (if i.val % 2 = 1 then F.LOOM_LEGl_CMPD_POS (i / 2) else F.LOOM_LEGl_CMPU_POS (i / 2)) =
            (wordGet s.mill.staged i).toNat % 2 ^ 26) ∧
          (192 ≤ i.val → t.rd (R.MILL_OUTn (i - 192)) = wordGet s.mill.staged i)) ∧
        ((∀ k : Fin 8, s.stagedOwner i = some k.val → i.val ∈ s.mill.written → s.commitDue k c = true → (s.task k).ended = false) →
          (i.val < 48 → t.get (if i.val % 2 = 1 then F.LOOM_LEGl_CMPD_POS (i / 2) else F.LOOM_LEGl_CMPU_POS (i / 2)) =
            s.get (if i.val % 2 = 1 then F.LOOM_LEGl_CMPD_POS (i / 2) else F.LOOM_LEGl_CMPU_POS (i / 2))) ∧
          (192 ≤ i.val → t.rd (R.MILL_OUTn (i - 192)) = s.rd (R.MILL_OUTn (i - 192)))))) ∧
  (∀ (s : State) (c : Fin 8), s.Shaped → s.coreRuns = true → s.carState c = 1 → (s.car c).startAt.toNat ≤ s.count →
    s.carPhaseHit c = true →
    Completes (.carrierStart c) s fun t =>
      t.carState c = 2 ∧ (t.car c).valley = s.clk.count ∧ (t.car c).events = 1 ∧ s.sent t c ∧ s.clockKept t ∧
      t.safe = s.safe)

/-- A write of LOOM_CARc makes a stopped carrier wait or a waiting one stop (R170), and a write of a compare shadow stores its 26 bits
there and nowhere else (R178, R180). No output, reference or active value moves with either; a HOLD that changes moves the closing edges
of pulses in progress at most (R179). Writes of the trip lines and of LOOM_UNBLOCK: CFG and MASK are stored and take effect with the next
cycle, in which a new CFG restarts the filter count and ends LIVE, and the legs that a new MASK adds to a line that acts are blocked; a
release is accepted only where no cause source stands, else REL_REF sets; and a pending release takes effect at a valley of the leg's
carrier (R188, R191, R192). -/
def Obligations.LoomWrites : Prop :=
  (∀ (s : State) (w : World) (c : Fin 8) (v : Word), s.Shaped → s.accepts w (R.LOOM_CARc c) v →
    (bitAt v 0 = true → s.carState c = 0 → Completes (.carrierControlWrite w c v) s fun t =>
      t.carState c = 1 ∧ (t.car c).startAt = s.clk.count ∧ t.rd (R.LOOM_CARc c) = s.stored (R.LOOM_CARc c) v ∧
      (∀ b, b ≠ R.LOOM_CARc c → b ≠ R.LOOM_CSTATc c → t.rd b = s.rd b)) ∧
    (bitAt v 0 = false → s.carState c = 1 → Completes (.carrierControlWrite w c v) s fun t =>
      t.carState c = 0 ∧ t.rd (R.LOOM_CARc c) = s.stored (R.LOOM_CARc c) v ∧
      (∀ b, b ≠ R.LOOM_CARc c → b ≠ R.LOOM_CSTATc c → t.rd b = s.rd b)) ∧
    (s.carState c = 2 ∨ (bitAt v 0 = true ∧ s.carState c = 1) ∨ (bitAt v 0 = false ∧ s.carState c = 0) →
      Completes (.carrierControlWrite w c v) s fun t =>
        t.carState c = s.carState c ∧ t.rd (R.LOOM_CARc c) = s.stored (R.LOOM_CARc c) v ∧ t.loom.cars = s.loom.cars ∧
        (∀ b, b ≠ R.LOOM_CARc c → t.rd b = s.rd b)) ∧
    (Completes (.carrierControlWrite w c v) s fun t =>
      (t.get (F.LOOM_CARc_HOLD c) = s.get (F.LOOM_CARc_HOLD c) → t.loom.legs = s.loom.legs) ∧ t.loom.tls = s.loom.tls ∧
      (∀ l : Fin 24, (t.leg l).outH = (s.leg l).outH ∧ (t.leg l).outL = (s.leg l).outL ∧ (t.leg l).ref = (s.leg l).ref ∧
        (t.leg l).live = (s.leg l).live ∧ (t.leg l).actU = (s.leg l).actU ∧ (t.leg l).actD = (s.leg l).actD))) ∧
  (∀ (s : State) (w : World) (l : Fin 24) (down : Bool) (v : Word),
    s.accepts w (if down then R.LOOM_LEGl_CMPD l else R.LOOM_LEGl_CMPU l) v →
    Completes (.compareShadowWrite w l down v) s fun t =>
      t.get (if down then F.LOOM_LEGl_CMPD_POS l else F.LOOM_LEGl_CMPU_POS l) = v.toNat % 2 ^ 26 ∧
      (∀ b, b ≠ (if down then R.LOOM_LEGl_CMPD l else R.LOOM_LEGl_CMPU l) → t.rd b = s.rd b) ∧
      (∀ k, k ≠ l.val → t.leg k = s.leg k) ∧ (t.leg l).outH = (s.leg l).outH ∧ (t.leg l).outL = (s.leg l).outL ∧ t.clk = s.clk) ∧
  (∀ (s : State) (w : World) (k : Fin 16) (v : Word), s.accepts w (R.LOOM_TLk_CFG k) v →
    Completes (.tripLineCfgWrite w k v) s fun t =>
      t.rd (R.LOOM_TLk_CFG k) = s.stored (R.LOOM_TLk_CFG k) v ∧ t.nowRd (R.LOOM_TLk_CFG k) = s.nowRd (R.LOOM_TLk_CFG k) ∧ t.loom = s.loom ∧
      (∃ o, (R.LOOM_TLk_CFG k, o) ∈ t.cycle.old) ∧ (∀ b, b ≠ R.LOOM_TLk_CFG k → t.rd b = s.rd b)) ∧
  (∀ (s : State) (w : World) (k : Fin 16) (v : Word), s.accepts w (R.LOOM_TLk_MASK k) v →
    Completes (.tripLineMaskWrite w k v) s fun t =>
      t.rd (R.LOOM_TLk_MASK k) = s.stored (R.LOOM_TLk_MASK k) v ∧ t.nowRd (R.LOOM_TLk_MASK k) = s.nowRd (R.LOOM_TLk_MASK k) ∧
      t.loom = s.loom ∧ (∃ o, (R.LOOM_TLk_MASK k, o) ∈ t.cycle.old) ∧ (∀ b, b ≠ R.LOOM_TLk_MASK k → t.rd b = s.rd b)) ∧
  (∀ (s : State) (k : Fin 16) (o : Word), s.Shaped → s.pending = [] → s.sys.phase = .run → (R.LOOM_TLk_CFG k, o) ∈ s.cycle.old →
    ∃ t, step s = .next t ∧ t.on (F.LOOM_TLk_STAT_LIVE k) = false ∧ (t.tl k).since = s.count ∧ (t.tl k).acted = false ∧
      t.nowRd (R.LOOM_TLk_CFG k) = s.rd (R.LOOM_TLk_CFG k)) ∧
  (∀ (s : State) (k : Fin 16) (o : Word), s.Shaped → s.pending = [] → s.sys.phase = .run → (R.LOOM_TLk_MASK k, o) ∈ s.cycle.old →
    (∀ x ∈ s.cycle.old, x.1 ≠ R.LOOM_TLk_CFG k) → s.on (F.LOOM_TLk_STAT_LIVE k) = true → s.on (F.LOOM_TLk_CFG_BLANKABLE k) = false →
    ∃ t, step s = .next t ∧ ∀ l : Fin 24, bitAt (s.rd (R.LOOM_TLk_MASK k)) l = true → bitAt (s.nowRd (R.LOOM_TLk_MASK k)) l = false →
      t.on (F.LOOM_LEGl_STAT_BLOCKED l) = true ∧ (t.leg l).outH = false ∧ (t.leg l).outL = false) ∧
  (∀ (s : State) (w : World) (v : Word), s.accepts w R.LOOM_UNBLOCK v →
    Completes (.unblockRequest w v) s fun t =>
      t.loom = s.loom ∧ t.clk = s.clk ∧
      (∀ l : Fin 24, bitAt v l = true → s.on (F.LOOM_LEGl_STAT_BLOCKED l) = true → s.releasable l = true →
        t.on (F.LOOM_LEGl_STAT_PENDING l) = true) ∧
      (∀ l : Fin 24, bitAt v l = true → s.on (F.LOOM_LEGl_STAT_BLOCKED l) = true → s.releasable l = false →
        t.on (F.LOOM_LEGl_STAT_REL_REF l) = true ∧ t.get (F.LOOM_LEGl_STAT_PENDING l) = s.get (F.LOOM_LEGl_STAT_PENDING l)) ∧
      (∀ l : Fin 24, bitAt v l = false ∨ s.on (F.LOOM_LEGl_STAT_BLOCKED l) = false →
        t.rd (R.LOOM_LEGl_STAT l) = s.rd (R.LOOM_LEGl_STAT l))) ∧
  (∀ (s : State) (l : Fin 24), s.Shaped → s.valleyNow (s.legCar l) = true →
    s.on (F.LOOM_LEGl_STAT_PENDING l) = true →
    Completes (.legResume l) s fun t =>
      t.on (F.LOOM_LEGl_STAT_BLOCKED l) = false ∧ t.on (F.LOOM_LEGl_STAT_PENDING l) = false ∧ t.bit R.LOOM_STAT l = false ∧
      (t.leg l).outH = (s.leg l).outH ∧ (t.leg l).outL = (s.leg l).outL ∧ (∀ k, k ≠ l.val → t.leg k = s.leg k) ∧ t.clk = s.clk ∧
      (∀ b, b ≠ R.LOOM_LEGl_STAT l → b ≠ R.LOOM_LEGl_CNT l → b ≠ R.LOOM_STAT → t.rd b = s.rd b))

/-- The edges of a leg: an opening edge judges the pulse of the other level and moves the reference only where it is emitted, a closing
edge turns off what the reference has left, and the end of a dead time turns on the output of the reference's level alone (R175, R181).
The pulse policies of R181 on a pulse whose output would be on for less than the minimum: DROP does not emit it and carries nothing,
EXTEND gives it the minimum, CARRY does not emit it and carries its time; a pulse at or above the minimum keeps its closing edge, moved by
the carry alone. -/
def Obligations.PulsesAndTheirPolicies : Prop :=
  (∀ (s : State) (l : Fin 24) (p : Pulse) (e : Nat), s.Shaped → (s.leg l).live = true → s.legMay l = true →
    (s.leg l).pulse = some p → p.emitted = true → p.closeAt = some e → s.edgeDue e = true →
    Completes (.pulseOpeningEdge l) s fun t =>
      (∃ q, (t.leg l).pulse = some q ∧ q.high = !(s.leg l).ref ∧ q.openAt = e ∧
        (t.leg l).ref = if q.emitted then !(s.leg l).ref else (s.leg l).ref) ∧
      (t.leg l).outH = (s.leg l).outH ∧ (t.leg l).outL = (s.leg l).outL ∧ (∀ k, k ≠ l.val → t.leg k = s.leg k) ∧ t.clk = s.clk ∧
      t.mem = s.mem ∧ (∀ b, b ≠ R.LOOM_LEGl_STAT l → b ≠ R.LOOM_LEGl_CNT l → t.rd b = s.rd b)) ∧
  (∀ (s : State) (l : Fin 24), s.Shaped →
    Completes (.pulseClosingEdge l) s fun t =>
      (t.leg l).outH = ((s.leg l).outH && (s.leg l).ref) ∧ (t.leg l).outL = ((s.leg l).outL && !(s.leg l).ref) ∧
      (∀ k, k ≠ l.val → t.leg k = s.leg k) ∧ s.clockKept t ∧ t.loom.cars = s.loom.cars ∧ t.mill = s.mill) ∧
  (∀ (s : State) (l : Fin 24) (high : Bool) (e : Nat), s.Shaped → (if high then (s.leg l).onH else (s.leg l).onL) = some e →
    s.edgeDue e = true → (s.leg l).live = true → (s.leg l).ref = high → s.legMay l = true → s.outputsAllowed = true →
    Completes (.deadTimeEnd l high) s fun t =>
      (t.leg l).outH = high ∧ (t.leg l).outL = !high ∧ (t.leg l).ref = high ∧ (∀ k, k ≠ l.val → t.leg k = s.leg k) ∧
      s.clockKept t ∧ t.loom.cars = s.loom.cars ∧ t.mill = s.mill) ∧
  (∀ t0 t1 dt m carry : Nat, t1 - t0 - dt < m →
    (judgePulse 0 t0 (some t1) dt m carry).emitted = false ∧ (judgePulse 0 t0 (some t1) dt m carry).carry = carry ∧
    (judgePulse 1 t0 (some t1) dt m carry).emitted = true ∧ (judgePulse 1 t0 (some t1) dt m carry).closeAt = some (t0 + dt + m) ∧
    (judgePulse 1 t0 (some t1) dt m carry).short = true) ∧
  (∀ t0 t1 dt m carry : Nat, t1 - t0 - dt + carry < m →
    (judgePulse 2 t0 (some t1) dt m carry).emitted = false ∧
    (judgePulse 2 t0 (some t1) dt m carry).carry = carry + (t1 - t0 - dt)) ∧
  (∀ t0 t1 dt m carry : Nat, m ≤ t1 - t0 - dt + carry →
    (judgePulse 2 t0 (some t1) dt m carry).emitted = true ∧
    (judgePulse 2 t0 (some t1) dt m carry).closeAt = some (t1 + carry) ∧ (judgePulse 2 t0 (some t1) dt m carry).carry = 0) ∧
  (∀ policy t0 t1 dt m : Nat, m ≤ t1 - t0 - dt →
    (judgePulse policy t0 (some t1) dt m 0).emitted = true ∧ (judgePulse policy t0 (some t1) dt m 0).closeAt = some t1 ∧
    (judgePulse policy t0 (some t1) dt m 0).short = false)

/-- The delay lines and the interlock: LOCKED, a trim step of an idle line whose last step lies 1,024 cycles back, a line that cannot hold
its trim blocks its leg (R177), and a leg seen with both outputs on is blocked and counted (R187). -/
def Obligations.DelayLinesAndInterlock : Prop :=
  (∀ s : State, s.sys.phase = .boot ∨ s.sys.phase = .run →
    Completes .dllLocked s fun t => t.on F.LOOM_DLL_LOCKED = true ∧ (∀ b, b ≠ R.LOOM_DLL → t.rd b = s.rd b) ∧ t.loom = s.loom ∧ t.clk = s.clk) ∧
  (∀ (s : State) (o : Fin 48) (up : Bool), s.Shaped → s.coreRuns = true → s.dllMay o = true →
    Completes (.dllTrimStep o up true) s fun t =>
      nth t.loom.trims o 0 = (if up then nth s.loom.trims o 0 + 1 else nth s.loom.trims o 0 - 1) ∧
      nth t.loom.lineStep o none = some s.count ∧ t.get F.LOOM_DLL_UPDATES = (s.get F.LOOM_DLL_UPDATES + 1) % 65536 ∧ (∀ b, b ≠ R.LOOM_DLL → t.rd b = s.rd b) ∧
      t.loom.legs = s.loom.legs ∧ t.clk = s.clk) ∧
  (∀ (s : State) (o : Fin 48) (up : Bool), s.Shaped → s.coreRuns = true → s.dllMay o = true →
    Completes (.dllTrimStep o up false) s fun t =>
      t.on F.LOOM_DLL_FAIL = true ∧ t.get F.LOOM_DLL_FAIL_OUT = o ∧ t.on (F.LOOM_LEGl_STAT_BLOCKED (o / 2)) = true ∧
      t.on (F.LOOM_LEGl_STAT_DLL (o / 2)) = true ∧ (t.leg (o / 2)).outH = false ∧ (t.leg (o / 2)).outL = false ∧
      (∀ k, k ≠ o.val / 2 → t.leg k = s.leg k) ∧ t.loom.trims = s.loom.trims ∧ s.clockKept t) ∧
  (∀ (s : State) (l : Fin 24), s.Shaped → s.sys.phase ≠ .keep →
    Completes (.interlock l true) s fun t =>
      t.on (F.LOOM_LEGl_STAT_BLOCKED l) = true ∧ t.on (F.LOOM_LEGl_STAT_INTERLOCK l) = true ∧ (t.leg l).outH = false ∧
      (t.leg l).outL = false ∧ t.loom.ilkSeen.getLsbD l = true ∧
      t.get (F.LOOM_LEGl_CNT_INTERLOCK l) = satInc (F.LOOM_LEGl_CNT_INTERLOCK l).width (s.get (F.LOOM_LEGl_CNT_INTERLOCK l)) ∧
      (∀ k, k ≠ l.val → t.leg k = s.leg k) ∧ t.clk = s.clk) ∧
  (∀ (s : State) (l : Fin 24), s.sys.phase ≠ .keep →
    Completes (.interlock l false) s fun t => t.loom.ilkSeen.getLsbD l = false ∧ t.regs = s.regs ∧ t.loom.legs = s.loom.legs ∧ t.clk = s.clk)

/-- Trip lines: an enabled line that has been asserted for its filter acts, and blocks every leg of its mask unless its blanking window is
open; the window's end blocks while the line still acts. CFG and MASK count as they stood before the present cycle (R188, R189). -/
def Obligations.TripLines : Prop :=
  (∀ (s : State) (k : Fin 8), s.Shaped → s.coreRuns = true → s.nowOn (F.LOOM_TLk_CFG_EN (8 + k)) = true →
    s.on (F.LOOM_TLk_STAT_LIVE (8 + k)) = false → s.due ((s.tl (8 + k)).since + s.nowGet (F.LOOM_TLk_CFG_FILT (8 + k)) + 1) = true →
    k.val < 4 ∨ (s.tl (8 + k)).input = true →
    (s.tlBlanked (8 + k) = false → Completes (.tripLineAct k true) s fun t =>
      t.on (F.LOOM_TLk_STAT_LIVE (8 + k)) = true ∧ t.on (F.LOOM_TLk_STAT_HIT (8 + k)) = true ∧ t.clk = s.clk ∧
      (∀ l : Fin 24, (s.nowGet (F.LOOM_TLk_MASK_LEGS (8 + k))).testBit l = true →
        t.on (F.LOOM_LEGl_STAT_BLOCKED l) = true ∧ t.on (F.LOOM_LEGl_STAT_TL l) = true ∧ (t.leg l).outH = false ∧ (t.leg l).outL = false) ∧
      (∀ l : Fin 24, (s.nowGet (F.LOOM_TLk_MASK_LEGS (8 + k))).testBit l = false → t.leg l = s.leg l)) ∧
    (s.tlBlanked (8 + k) = true → Completes (.tripLineAct k true) s fun t =>
      t.on (F.LOOM_TLk_STAT_LIVE (8 + k)) = true ∧ (t.tl (8 + k)).acted = true ∧ t.loom.legs = s.loom.legs ∧ t.clk = s.clk ∧
      (∀ b, b ≠ R.LOOM_TLk_STAT (8 + k) → t.rd b = s.rd b))) ∧
  (∀ (s : State) (k : Fin 8), s.Shaped → k.val < 4 →
    Completes (.tripLineAct k false) s fun t =>
      t.on (F.LOOM_TLk_STAT_LIVE (8 + k)) = false ∧ (t.tl (8 + k)).acted = false ∧ t.loom.legs = s.loom.legs ∧
      ((s.tl (8 + k)).acted = true → t.on (F.LOOM_TLk_STAT_BLANKED (8 + k)) = true) ∧
      (∀ b, b ≠ R.LOOM_TLk_STAT (8 + k) → t.rd b = s.rd b)) ∧
  (∀ (s : State) (k : Fin 8) (e : Nat), s.Shaped → (s.tl (8 + k)).blankEnd = some e → s.due e = true →
    (s.on (F.LOOM_TLk_STAT_LIVE (8 + k)) = true → Completes (.blankClose k) s fun t =>
      (t.tl (8 + k)).acted = false ∧ t.on (F.LOOM_TLk_STAT_HIT (8 + k)) = true ∧
      (∀ l : Fin 24, (s.nowGet (F.LOOM_TLk_MASK_LEGS (8 + k))).testBit l = true → t.on (F.LOOM_LEGl_STAT_BLOCKED l) = true) ∧
      (∀ l : Fin 24, (s.nowGet (F.LOOM_TLk_MASK_LEGS (8 + k))).testBit l = false → t.leg l = s.leg l)) ∧
    (s.on (F.LOOM_TLk_STAT_LIVE (8 + k)) = false → Completes (.blankClose k) s fun t =>
      (t.tl (8 + k)).blankEnd = none ∧ t.regs = s.regs ∧ t.loom.legs = s.loom.legs ∧ t.clk = s.clk))

/-! ### Gate drive, faults, the brake chopper and the window monitors -/

/-- The integrated drivers (R196 to R198): an enabled driver that is not held follows its ON bit, a high side that is on turns off with
CPLOW when its gate supply goes, an undervoltage of VDRV latches UVLO of every driver commanded on and takes the gate supplies away,
MISMATCH latches once the gate has been elsewhere than the output for MON_T, a gate between the off range and the on range being elsewhere
whatever the output (R399), and each fault flag clears only while its cause has gone. That UVLO latches whatever EN says, that no high
side's supply is OK without the pump, and that an edge which the gate has not followed counts from the edge and a later leaving from
itself are the model's readings (log entry 10). -/
def Obligations.IntegratedDrivers : Prop :=
  (∀ (s : State) (w : World) (n : Fin 8) (v : Word), s.accepts w (R.GDP_GDn_CTRL n) v →
    s.get (F.GDP_GDn_CFG_SRC n) = 0 → s.on (F.GDP_GDn_CFG_EN n) = true → s.gdHeld n = false →
    n.val < 4 ∨ (s.get F.GDP_CP_OK).testBit (n - 4) = true →
    Completes (.gdCtrlWrite w n v) s fun t =>
      t.on (F.GDP_GDn_STAT_OUT n) = t.on (F.GDP_GDn_CTRL_ON n) ∧ t.on (F.GDP_GDn_STAT_CMD n) = t.on (F.GDP_GDn_CTRL_ON n) ∧
      t.rd (R.GDP_GDn_CTRL n) = s.stored (R.GDP_GDn_CTRL n) v ∧ t.loom = s.loom ∧ t.clk = s.clk ∧
      (∀ b, b ≠ R.GDP_GDn_CTRL n → b ≠ R.GDP_GDn_STAT n → t.rd b = s.rd b)) ∧
  (∀ (s : State) (k : Fin 4), s.sys.phase ≠ .keep → s.on (F.GDP_GDn_STAT_OUT (4 + k)) = true →
    Completes (.cpOkChange k false) s fun t =>
      t.on (F.GDP_GDn_STAT_CPLOW (4 + k)) = true ∧ t.on (F.GDP_GDn_STAT_OUT (4 + k)) = false ∧
      t.bit R.GDP_CP (4 + k) = false ∧ t.loom = s.loom ∧ s.clockKept t) ∧
  (∀ (s : State) (k : Fin 4), s.sys.phase ≠ .keep → s.pumpRuns = true → s.on (F.GDP_GDn_CFG_EN (4 + k)) = false →
    Completes (.cpOkChange k true) s fun t =>
      t.bit R.GDP_CP (4 + k) = true ∧ t.on (F.GDP_GDn_STAT_OUT (4 + k)) = false ∧ t.loom = s.loom ∧ t.clk = s.clk) ∧
  (∀ (s : State) (k : Fin 4), s.pumpRuns = false → exec (.cpOkChange k true) s = .next s) ∧
  (∀ (s : State) (n : Fin 8), s.on F.SYS_SUPPLY_VDRV_OK = false → s.gdCommand n = true →
    s.gdCplow n = false → s.gdMismatched n = false →
    Completes (.gdFault n) s fun t =>
      t.on (F.GDP_GDn_STAT_UVLO n) = true ∧ t.on (F.GDP_GDn_STAT_OUT n) = false ∧ t.loom = s.loom ∧ s.clockKept t) ∧
  (∀ (s : State) (n : Fin 8) (gate : GateLevel), s.Shaped → s.sys.phase ≠ .keep → s.on (F.GDP_GDn_MON_EN n) = true →
    followsGate gate (s.on (F.GDP_GDn_STAT_OUT n)) = false →
    ((s.gd n).awayAt = none ∧ (s.gd n).followed = false ∧ s.count = (s.gd n).edgeAt + s.monTime n ∨
      ∃ a, (s.gd n).awayAt = some a ∧ a + s.monTime n ≤ s.count) →
    Completes (.gdMismatch n gate) s fun t =>
      t.on (F.GDP_GDn_STAT_MISMATCH n) = true ∧ t.on (F.GDP_GDn_STAT_OUT n) = false ∧ t.loom = s.loom ∧ s.clockKept t) ∧
  (∀ (s : State) (n : Fin 8) (gate : GateLevel), s.Shaped → s.sys.phase ≠ .keep → followsGate gate (s.on (F.GDP_GDn_STAT_OUT n)) = false →
    (s.gd n).awayAt = none → (s.gd n).followed = true ∨ (s.gd n).edgeAt + s.monTime n < s.count →
    Completes (.gdMismatch n gate) s fun t =>
      (t.gd n).awayAt = some s.count ∧ t.get (F.GDP_GDn_STAT_MISMATCH n) = s.get (F.GDP_GDn_STAT_MISMATCH n) ∧
      t.on (F.GDP_GDn_STAT_OUT n) = s.on (F.GDP_GDn_STAT_OUT n) ∧ t.loom = s.loom ∧ t.clk = s.clk) ∧
  (followsGate .between true = false ∧ followsGate .between false = false) ∧
  (∀ (s : State) (n : Fin 8) (gate : GateLevel), s.Shaped → s.sys.phase ≠ .keep → followsGate gate (s.on (F.GDP_GDn_STAT_OUT n)) = true →
    Completes (.gdMismatch n gate) s fun t =>
      (t.gd n).awayAt = none ∧ (t.gd n).followed = true ∧ t.get (F.GDP_GDn_STAT_MISMATCH n) = s.get (F.GDP_GDn_STAT_MISMATCH n) ∧
      t.on (F.GDP_GDn_STAT_OUT n) = s.on (F.GDP_GDn_STAT_OUT n) ∧ t.loom = s.loom ∧ t.clk = s.clk) ∧
  (∀ (s : State) (w : World) (n : Fin 8) (v : Word), s.accepts w (R.GDP_GDn_STAT n) v →
    Completes (.gdFaultClear w n v) s fun t =>
      (bitAt v 4 = true → s.on F.SYS_SUPPLY_VDRV_OK = true → t.on (F.GDP_GDn_STAT_UVLO n) = false) ∧
      (bitAt v 4 = false ∨ s.on F.SYS_SUPPLY_VDRV_OK = false → t.get (F.GDP_GDn_STAT_UVLO n) = s.get (F.GDP_GDn_STAT_UVLO n)) ∧
      (bitAt v 5 = false ∨ (4 ≤ n.val ∧ (s.get F.GDP_CP_OK).testBit (n - 4) = false) → s.on (F.GDP_GDn_STAT_CPLOW n) = true →
        t.on (F.GDP_GDn_STAT_CPLOW n) = true) ∧
      (bitAt v 5 = true → n.val < 4 ∨ (s.get F.GDP_CP_OK).testBit (n - 4) = true → t.on (F.GDP_GDn_STAT_CPLOW n) = false) ∧
      (bitAt v 6 = true → s.on (F.GDP_GDn_STAT_GATE n) = s.on (F.GDP_GDn_STAT_OUT n) → t.on (F.GDP_GDn_STAT_MISMATCH n) = false) ∧
      (bitAt v 6 = false ∨ s.on (F.GDP_GDn_STAT_GATE n) ≠ s.on (F.GDP_GDn_STAT_OUT n) →
        t.get (F.GDP_GDn_STAT_MISMATCH n) = s.get (F.GDP_GDn_STAT_MISMATCH n)) ∧
      t.loom = s.loom ∧ s.clockKept t ∧ (∀ b, b ≠ R.GDP_GDn_STAT n → b ≠ R.GDP_STAT → t.rd b = s.rd b)) ∧
  (∀ s : State, s.sys.phase ≠ .keep →
    Completes (.vdrvUndervoltage true) s fun t =>
      t.on F.SYS_SUPPLY_VDRV_OK = false ∧ t.on F.GDP_STAT_UVLO = true ∧ t.get F.GDP_CP_OK = 0 ∧ t.loom = s.loom ∧ s.clockKept t ∧
      (∀ n : Fin 8, s.get (F.GDP_GDn_CFG_SRC n) = 0 → s.on (F.GDP_GDn_CTRL_ON n) = true →
        t.on (F.GDP_GDn_STAT_UVLO n) = true ∧ t.on (F.GDP_GDn_STAT_OUT n) = false))

/-- Leg faults and groups (R200, R201, R203, R205, R206): an asserted FLT whose enable is set latches and blocks its leg, a stagger
instant blocks the legs whose time has come, and latches, trips and V_trip clear only while their sources have gone. The brake chopper
(R207 to R209): AUTO conducts from HI once TOFF has passed and stops at LO once TON has passed, a spent budget ends conduction, the
resistor model takes its tick, in SERVICE a test starts, and its end turns the chopper off. -/
def Obligations.FaultsGroupsAndTheBrake : Prop :=
  (∀ (s : State) (l : Fin 24), s.Shaped → s.sys.phase ≠ .keep → s.bit R.GDP_FLT_EN l = true → s.bit R.GDP_FLT_LATCH l = false →
    Completes (.fltAssert l true) s fun t =>
      t.bit R.GDP_FLT_PIN l = true ∧ t.bit R.GDP_FLT_LATCH l = true ∧ t.on (F.LOOM_LEGl_STAT_BLOCKED l) = true ∧
      t.on (F.LOOM_LEGl_STAT_FLT l) = true ∧ (t.leg l).outH = false ∧ (t.leg l).outL = false ∧ (∀ k, k ≠ l.val → t.leg k = s.leg k) ∧
      s.clockKept t) ∧
  (∀ (s : State) (l : Fin 24), s.sys.phase ≠ .keep →
    Completes (.fltAssert l false) s fun t =>
      t.bit R.GDP_FLT_PIN l = false ∧ (∀ b, b ≠ R.GDP_FLT_PIN → t.rd b = s.rd b) ∧ t.loom = s.loom ∧ t.gdp = s.gdp) ∧
  (∀ (s : State) (g : Fin 8) (l : Fin 24) (i : Nat), s.Shaped → (l.val, i) ∈ (s.group g).queue → s.due i = true →
    Completes (.groupStaggerBlock g) s fun t =>
      (∀ j, (l.val, j) ∈ (t.group g).queue → s.due j = false) ∧ t.on (F.LOOM_LEGl_STAT_BLOCKED l) = true ∧
      t.on (F.LOOM_LEGl_STAT_GRP l) = true ∧ (t.leg l).outH = false ∧ (t.leg l).outL = false ∧ t.clk = s.clk) ∧
  (∀ (s : State) (w : World) (v : Word), s.accepts w R.GDP_FLT_LATCH v →
    Completes (.fltLatchClear w v) s fun t =>
      (∀ l : Fin 24, bitAt v l = true → s.bit R.GDP_FLT_PIN l = false → t.bit R.GDP_FLT_LATCH l = false) ∧
      (∀ l : Fin 24, bitAt v l = false ∨ s.bit R.GDP_FLT_PIN l = true → t.bit R.GDP_FLT_LATCH l = s.bit R.GDP_FLT_LATCH l) ∧
      ((∃ l : Fin 24, bitAt v l = true ∧ s.bit R.GDP_FLT_PIN l = true ∧ s.bit R.GDP_FLT_LATCH l = true) →
        t.on F.GDP_STAT_CLR_REF = true) ∧
      (∀ b, b ≠ R.GDP_FLT_LATCH → b ≠ R.GDP_STAT → t.rd b = s.rd b) ∧ t.loom = s.loom ∧ t.clk = s.clk) ∧
  (∀ (s : State) (w : World) (v : Word) (g : Fin 8), s.Shaped → s.accepts w R.GDP_GRP_STAT v → bitAt v g = true →
    s.bit R.GDP_GRP_STAT g = true →
    (s.grpQuiet g = true → Completes (.groupTripClear w v) s fun t =>
      t.bit R.GDP_GRP_STAT g = false ∧ t.group g = {} ∧ t.loom = s.loom ∧ s.clockKept t) ∧
    (s.grpQuiet g = false → Completes (.groupTripClear w v) s fun t =>
      t.bit R.GDP_GRP_STAT g = true ∧ t.on F.GDP_GRP_STAT_CLR_REF = true ∧ t.group g = s.group g ∧ t.loom = s.loom ∧ s.clockKept t)) ∧
  (∀ (s : State) (w : World) (n : Fin 2) (v : Word), s.accepts w (R.GDP_LINKn_STAT n) (v ||| 1) → s.on (F.GDP_LINKn_STAT_VTRIP n) = true →
    (s.cmpActive (s.linkWin n) 2 = false → Completes (.vtripClear w n v) s fun t =>
      t.on (F.GDP_LINKn_STAT_VTRIP n) = false ∧ t.loom = s.loom ∧ t.gdp = s.gdp ∧
      (∀ b, b ≠ R.GDP_LINKn_STAT n → b ≠ R.GDP_STAT → t.rd b = s.rd b)) ∧
    (s.cmpActive (s.linkWin n) 2 = true → Completes (.vtripClear w n v) s fun t =>
      t.on (F.GDP_LINKn_STAT_VTRIP n) = true ∧ t.on (F.GDP_LINKn_STAT_CLR_REF n) = true ∧ t.loom = s.loom ∧ t.gdp = s.gdp ∧
      (∀ b, b ≠ R.GDP_LINKn_STAT n → t.rd b = s.rd b))) ∧
  (∀ (s : State) (n : Fin 2) (d : Nat), s.Shaped → s.coreRuns = true → s.brkMode n = 1 → s.brkConfigured n = true → s.brkHard n = false →
    (s.on (F.GDP_LINKn_STAT_BRK_ON n) = false → s.on (F.CMP_WINw_STAT_CEIL (s.linkWin n)) = false →
      s.on (F.CMP_WINw_STAT_HI (s.linkWin n)) = true → s.brkAllowed n = true → (s.brk n).lastOff = some d →
      d + 40 * s.get (F.GDP_LINKn_TMIN_TOFF n) ≤ s.count →
      Completes (.brkMinTimeElapsed n) s fun t =>
        t.on (F.GDP_LINKn_STAT_BRK_ON n) = true ∧ (t.brk n).lastOn = s.count ∧ (t.brk n).theta = (s.brk n).theta ∧
        s.sent t (0xDA + n) ∧ t.loom = s.loom ∧ t.clk = s.clk ∧
        (∀ b, b ≠ R.GDP_LINKn_STAT n → b ≠ R.GDP_STAT → t.rd b = s.rd b)) ∧
    (s.on (F.GDP_LINKn_STAT_BRK_ON n) = true → s.on (F.CMP_WINw_STAT_CEIL (s.linkWin n)) = false →
      s.on (F.CMP_WINw_STAT_LO (s.linkWin n)) = true → (s.brk n).lastOn + 40 * s.get (F.GDP_LINKn_TMIN_TON n) ≤ s.count →
      Completes (.brkMinTimeElapsed n) s fun t =>
        t.on (F.GDP_LINKn_STAT_BRK_ON n) = false ∧ (t.brk n).lastOff = some s.count ∧ (t.brk n).theta = (s.brk n).theta ∧
        t.loom = s.loom ∧ t.clk = s.clk ∧ (∀ b, b ≠ R.GDP_LINKn_STAT n → b ≠ R.GDP_STAT → t.rd b = s.rd b)) ∧
    (s.on (F.GDP_LINKn_STAT_BRK_ON n) = true → s.on (F.CMP_WINw_STAT_CEIL (s.linkWin n)) = false → s.brkAllowed n = false →
      Completes (.brkBudgetSpent n) s fun t =>
        t.on (F.GDP_LINKn_STAT_BRK_ON n) = false ∧ (t.brk n).lastOff = some s.count ∧ t.loom = s.loom ∧ t.clk = s.clk ∧
        (∀ b, b ≠ R.GDP_LINKn_STAT n → b ≠ R.GDP_STAT → t.rd b = s.rd b))) ∧
  (∀ (s : State) (n : Fin 2), s.Shaped → s.coreRuns = true → s.count % 400000 = 0 → (s.brk n).tickStart ≠ s.count →
    s.get (F.GDP_LINKn_TAU_TAU n) ≠ 0 →
    Completes (.resistorModelTick n) s fun t =>
      (t.brk n).theta = (s.brk n).theta + (s.get (F.GDP_LINKn_PON_VAL n) : Rat) * (s.brkUsed n : Rat) / 400000000
        - (s.brk n).theta / (100 * (s.get (F.GDP_LINKn_TAU_TAU n) : Rat)) ∧
      (t.brk n).tickStart = s.count ∧ t.loom = s.loom ∧ t.clk = s.clk) ∧
  (∀ (s : State) (w : World) (n : Fin 2) (v : Word), s.Shaped → s.accepts w (R.GDP_LINKn_CFG n) (v ||| 0x80000) → s.inService = true →
    (s.stored (R.GDP_LINKn_CFG n) (v ||| 0x80000)).toNat / 2 ^ (F.GDP_LINKn_CFG_BRKMODE n).lo % 4 = 2 →
    (s.brk n).budget = none → s.on (F.GDP_LINKn_STAT_BRK_ON n) = false →
    Completes (.brkTestGo w n v) s fun t => t.on (F.GDP_LINKn_STAT_BRK_ON n) = true ∧ s.sent t (0xDA + n)) ∧
  (∀ (s : State) (n : Fin 2) (e : Nat), s.Shaped → (s.brk n).testEnd = some e → s.due e = true → s.brkMode n = 2 →
    s.on (F.GDP_LINKn_STAT_BRK_ON n) = true →
    Completes (.brkTestEnd n) s fun t =>
      t.on (F.GDP_LINKn_STAT_BRK_ON n) = false ∧ (t.brk n).testEnd = none ∧ t.loom = s.loom ∧ t.clk = s.clk ∧
      (∀ b, b ≠ R.GDP_LINKn_STAT n → b ≠ R.GDP_STAT → t.rd b = s.rd b))

/-- The window monitors (R213, R214, R216, R217): CEIL becoming active blocks the legs of its mask at once, LO and HI take the state the
thresholds give and that change is on its way to CORE, a tick powers the sampled windows for 800 cycles, and a window settles for 800
cycles after its start; a CEIL still in its band then stays as it is, unresolved. -/
def Obligations.WindowComparators : Prop :=
  (∀ (s : State) (w : Fin 48) (v : Int), s.Shaped → s.winCompares w = true → s.cmpJudge w 2 v = some true →
    s.on (F.CMP_WINw_STAT_CEIL w) = false → s.switching = true →
    Completes (.ceilCrossing w v) s fun t =>
      t.on (F.CMP_WINw_STAT_CEIL w) = true ∧
      (∀ l : Fin 24, (s.get (F.CMP_WINw_MASK_LEGS w)).testBit l = true →
        t.on (F.LOOM_LEGl_STAT_BLOCKED l) = true ∧ (t.leg l).outH = false ∧ (t.leg l).outL = false) ∧ t.clk = s.clk) ∧
  (∀ (s : State) (w : Fin 48) (i : Fin 2) (v : Int) (b : Bool), s.winCompares w = true → s.cmpJudge w i v = some b → s.mode ≠ .doze →
    Completes (.comparatorChange w ⟨i, by omega⟩ v) s fun t =>
      t.cmpActive w i = b ∧ (s.cmpActive w i ≠ b → ∃ x ∈ t.cmp.changes, x = { win := w, cmp := i, active := b, wait := 2 }) ∧
      t.clk = s.clk ∧ t.mem = s.mem) ∧
  (∀ (s : State) (w : Fin 48), s.Shaped → s.coreRuns = true → s.count % (400 * max 10 (s.get F.CMP_CTRL_TICK)) = 0 →
    (s.win w).running = true → s.winSampled w = true →
    Completes .samplingTick s fun t => (t.win w).decideAt = some (s.count + 800) ∧ t.regs = s.regs ∧ t.loom = s.loom ∧ t.clk = s.clk) ∧
  (∀ (s : State) (w : Fin 48) (v : Int) (b : Bool) (e : Nat), s.Shaped → s.coreRuns = true → (s.win w).decideAt = some e → s.due e = true →
    s.on (F.CMP_WINw_STAT_SETTLING w) = false → s.cmpJudge w 2 v = some b →
    Completes (.sampledDecision w v) s fun t => (t.win w).decideAt = none ∧ t.cmpActive w 2 = b ∧ t.clk = s.clk) ∧
  (∀ (s : State) (w : Fin 48), s.Shaped → s.coreRuns = true → s.get (F.CMP_WINw_CFG_MODE w) ≠ 0 → (s.win w).running = false →
    Completes (.windowMonitorStart w) s fun t =>
      (t.win w).running = true ∧ (t.win w).settleEnd = s.count + 800 ∧ t.on (F.CMP_WINw_STAT_SETTLING w) = true ∧
      t.on (F.CMP_WINw_STAT_UNRESOLVED w) = false ∧ t.cmpActive w 2 = (s.get (F.CMP_WINw_CFG_PUS w)).testBit 2 ∧ t.clk = s.clk) ∧
  (∀ (s : State) (w : Fin 48) (v : Int), s.coreRuns = true → (s.win w).running = true → s.on (F.CMP_WINw_STAT_SETTLING w) = true →
    s.due (s.win w).settleEnd = true → s.cmpJudge w 2 v = none →
    Completes (.settlingEnd w v) s fun t =>
      t.on (F.CMP_WINw_STAT_SETTLING w) = false ∧ t.bit (R.CMP_WINw_STAT w) 6 = true ∧
      t.cmpActive w 2 = s.cmpActive w 2 ∧ t.clk = s.clk ∧ t.mem = s.mem)

/-! ### The Granary -/

/-- Intervals and closes: an interval leaves the buffer for the meters that are on, a snapshot that is due being taken before it; a DC
meter takes its sample where a block is open, and one opens where the interval starts a block; a cycle without a crossing closes with NOZX
and event 0xAA, later ones after their fixed length, and a DC block at the end of its last interval (R226, R229, R230, R235, R240). A
close adds to the totals of each phase and of Σ the energies of the cycle, active and fundamental ones by their signs and the reactive one
by its quadrant, of the phases whose current reaches NL_I (R231 to R233), and of a DC meter E and Q by the signs of the energy and the
charge, unless the charge stays below NL_I (R235). That the close is judged before the next interval is taken is the model's reading (log
entry 56). Energy pulses: a pulse starts at a ms tick when the output has rested for PW ms and ends PW ms later (R243). -/
def Obligations.MetersAndTheirPulses : Prop :=
  (∀ (s : State) (e : GrnInterval) (rest : List GrnInterval), s.Shaped → s.coreRuns = true → s.grn.queue = e :: rest → s.closeDue = false →
    Completes .granaryInterval s fun t =>
      t.grn.queue = rest ∧ t.grn.lastEnd = BitVec.ofNat 64 e.stop ∧ t.clk = s.clk ∧ t.loom = s.loom ∧ (s.grn.write = none → t.mem = s.mem) ∧
      (∀ m : Fin 4, s.snapshotTaken.meterOn m = false → t.acMeter m = s.snapshotTaken.acMeter m) ∧
      (∀ m : Fin 4, s.snapshotTaken.meterOn (4 + m) = true →
        (t.dcMeter m).open_ = ((s.snapshotTaken.dcMeter m).open_ || e.stop % 4000000 == 12500) ∧
        (t.dcMeter m).count = (s.snapshotTaken.dcMeter m).count + bit1 (t.dcMeter m).open_) ∧
      (∀ m : Fin 4, s.snapshotTaken.meterOn (4 + m) = false → t.dcMeter m = s.snapshotTaken.dcMeter m)) ∧
  (∀ (s : State) (m : Fin 4), s.Shaped → s.zxTimeoutDue m = true →
    Completes (.zxTimeout m) s fun t =>
      t.on (F.GRN_ACm_STAT_NOZX m) = true ∧ (t.acMeter m).cycle = [] ∧ (t.acMeter m).began = false ∧
      t.on (F.GRN_ACm_STAT_FUND m) = false ∧ t.rd (R.GRN_ACm_LIVEn m 0) = 0 ∧ s.sent t 0xAA ∧
      (∀ k : Fin 4, k ≠ m → t.acMeter k = s.acMeter k) ∧ t.grn.dc = s.grn.dc ∧ t.clk = s.clk ∧ t.loom = s.loom ∧ t.mem = s.mem) ∧
  (∀ (s : State) (m : Fin 4), s.Shaped → s.nozxDue m = true →
    Completes (.nozxCycleClose m) s fun t =>
      (t.acMeter m).cycle = [] ∧ t.on (F.GRN_ACm_STAT_NOZX m) = true ∧ t.on (F.GRN_ACm_STAT_FUND m) = false ∧ s.sent t (0xA0 + m) ∧
      t.get (F.GRN_ACm_STAT_CLOSES m) = (s.get (F.GRN_ACm_STAT_CLOSES m) + 1) % 2 ^ (F.GRN_ACm_STAT_CLOSES m).width ∧
      (∀ k : Fin 4, k ≠ m → t.acMeter k = s.acMeter k) ∧ t.grn.dc = s.grn.dc ∧ t.clk = s.clk ∧ t.loom = s.loom ∧ t.mem = s.mem) ∧
  (∀ (s : State) (m : Fin 4), s.Shaped → s.blockDue m = true →
    Completes (.dcBlockClose m) s fun t =>
      (t.dcMeter m).open_ = false ∧ (t.dcMeter m).count = 0 ∧ (t.dcMeter m).svi = 0 ∧ (t.dcMeter m).si = 0 ∧ s.sent t (0xA4 + m) ∧
      (∀ k : Fin 4, k ≠ m → t.dcMeter k = s.dcMeter k) ∧ t.grn.ac = s.grn.ac ∧ t.clk = s.clk ∧ t.loom = s.loom ∧ t.mem = s.mem) ∧
  (∀ (s : State) (m : Fin 4), s.Shaped → s.replayHolds = false → (∀ i : Fin 176, nth s.grn.totals i 0 < 2 ^ 96) →
    (s.nozxDue m = true → Completes (.nozxCycleClose m) s fun t => s.acCloseAdds t m false) ∧
    (s.zxTimeoutDue m = true → Completes (.zxTimeout m) s fun t => s.acCloseAdds t m false) ∧
    (∀ ends : Bool, s.acCloseAdds (s.acClose m ends) m ((s.acMeter m).began && ends && (s.acMeter m).cycle.all (fun x => x.valid))) ∧
    (s.blockDue m = true → Completes (.dcBlockClose m) s fun t =>
      let e := ratRoundEven (((s.dcMeter m).svi : Rat) * s.scale (R.GRN_DCm_KE m) * pow2 32)
      let q := ratRoundEven (((s.dcMeter m).si : Rat) * s.scale (R.GRN_DCm_KQ m) * pow2 32)
      let low := decide ((s.dcMeter m).si.natAbs < s.get (F.GRN_DCm_NL_NL_I m) * 320)
      t.on (F.GRN_DCm_STAT_NOLOAD m) = low ∧
      (low = true → t.grn.totals = s.grn.totals) ∧
      (low = false →
        nth t.grn.totals (dcTotal m 0) 0 = (nth s.grn.totals (dcTotal m 0) 0 + e.toNat) % 2 ^ 96 ∧
        nth t.grn.totals (dcTotal m 1) 0 = (nth s.grn.totals (dcTotal m 1) 0 + (-e).toNat) % 2 ^ 96 ∧
        ((0 ≤ (s.dcMeter m).si) →
          nth t.grn.totals (dcTotal m 2) 0 = (nth s.grn.totals (dcTotal m 2) 0 + q.toNat) % 2 ^ 96 ∧
          nth t.grn.totals (dcTotal m 3) 0 = nth s.grn.totals (dcTotal m 3) 0) ∧
        ((s.dcMeter m).si < 0 →
          nth t.grn.totals (dcTotal m 3) 0 = (nth s.grn.totals (dcTotal m 3) 0 + (-q).toNat) % 2 ^ 96 ∧
          nth t.grn.totals (dcTotal m 2) 0 = nth s.grn.totals (dcTotal m 2) 0) ∧
        (∀ i : Fin 176, i.val < dcTotal m 0 ∨ dcTotal m 3 < i.val → nth t.grn.totals i 0 = nth s.grn.totals i 0)))) ∧
  (∀ (s : State) (k : Fin 4), s.Shaped → s.coreRuns = true → s.replayHolds = false → s.on (F.GRN_EPOk_CFG_EN k) = true →
    s.count % 400000 = 0 → 0 < s.get (F.GRN_EPOk_STAT_PENDING k) → s.on (F.GRN_EPOk_STAT_ACTIVE k) = false →
    s.due (nth s.grn.epoIdle k 0 + s.epoWidth k) = true →
    Completes (.epoPulseStart k) s fun t =>
      t.get (F.GRN_EPOk_STAT_PENDING k) = s.get (F.GRN_EPOk_STAT_PENDING k) - 1 ∧ t.on (F.GRN_EPOk_STAT_ACTIVE k) = true ∧
      nth t.grn.epoStart k 0 = s.count ∧ (∀ b, b ≠ R.GRN_EPOk_STAT k → t.rd b = s.rd b) ∧ t.grn.totals = s.grn.totals ∧ t.clk = s.clk) ∧
  (∀ (s : State) (k : Fin 4), s.Shaped → s.coreRuns = true → s.replayHolds = false → s.on (F.GRN_EPOk_STAT_ACTIVE k) = true →
    s.due (nth s.grn.epoStart k 0 + s.epoWidth k) = true →
    Completes (.epoPulseEnd k) s fun t =>
      t.on (F.GRN_EPOk_STAT_ACTIVE k) = false ∧ nth t.grn.epoIdle k 0 = s.count ∧
      t.get (F.GRN_EPOk_STAT_PENDING k) = s.get (F.GRN_EPOk_STAT_PENDING k) ∧ (∀ b, b ≠ R.GRN_EPOk_STAT k → t.rd b = s.rd b) ∧
      t.grn.totals = s.grn.totals ∧ t.clk = s.clk)

/-- Snapshots, latched reads and the journal (R236, R238, R240, R244, R247): GO asks, and the snapshot waits for an interval in progress;
it is taken with DONE and its number, and a record that waits for it begins with its flags and takes PMAX with it; a read of a LO word
latches the HI word; a record is asked for by COMMIT and each period; its completion shows its slot and SEQ, or FAIL with PMAX kept, and
begins the queued request; and a write of the meter enables waits for its instant. While replay runs no record begins or completes (R248).
That a failed record keeps its slot, its SEQ and PMAX, and that one that waits for the end of a replay takes a snapshot of its own, is the
model's reading (log entry 54), and so is the record asked for at the write of the enables (log entry 56). -/
def Obligations.SnapshotsAndJournal : Prop :=
  (∀ (s : State) (w : World) (v : Word), s.accepts w R.GRN_SNAP_CTRL (v ||| 1) →
    Completes (.granarySnapGo w v) s fun t =>
      (∃ r, t.grn.snap = some r ∧ (bitAt v 1 = true → r.ref = true) ∧ (s.grn.snap = none → r.waits = (s.grn.queue != []))) ∧ t.grn.totals = s.grn.totals ∧
      t.grn.snapTotals = s.grn.snapTotals ∧ (∀ b, b ≠ R.GRN_SNAP_CTRL → t.rd b = s.rd b) ∧ t.clk = s.clk) ∧
  (∀ (s : State) (r : SnapReq), r.waits = false → s.closeDue = false → s.grn.snap = some r → s.replayHolds = true → r.held = false →
    Completes .granarySnapshotTaken s fun t =>
      t.on F.GRN_SNAP_CTRL_DONE = true ∧ t.grn.snapStamp = s.grn.lastEnd ∧ t.grn.write = s.grn.write ∧ t.mem = s.mem ∧
      t.grn.totals = s.grn.totals ∧ (∀ n : Fin 8, t.rd (pmaxAddr n) = s.rd (pmaxAddr n)) ∧
      (r.journal = none → t.grn.snap = none) ∧
      (∀ f, r.journal = some f → t.grn.snap = some { r with ref := false, waits := false, held := true })) ∧
  (∀ (s : State) (r : SnapReq), s.grn.snap = some r → s.replayHolds = true → r.held = true → exec .granarySnapshotTaken s = .next s) ∧
  (∀ (s : State) (ok : Bool), s.policyRests → s.sys.ltrWritten = false → s.replayHolds = true →
    exec (.journalRecordDone ok) s = .next s) ∧
  (∀ (s : State) (r : SnapReq), r.waits = false → s.closeDue = false → s.grn.snap = some r → s.replayHolds = false →
    Completes .granarySnapshotTaken s fun t =>
      t.grn.snap = none ∧ t.grn.snapStamp = s.grn.lastEnd ∧ t.grn.snapTotals = t.grn.totals.map (fun x => BitVec.ofNat 64 (x / 2 ^ 32)) ∧
      t.on F.GRN_SNAP_CTRL_DONE = true ∧ t.rd R.GRN_SNAP_CNT = s.rd R.GRN_SNAP_CNT + 1 ∧ t.clk = s.clk ∧
      (r.final = false ∨ s.grn.write = none → t.mem = s.mem) ∧
      (r.final = false → t.grn.totals = s.grn.totals ∧ t.grn.ac = s.grn.ac ∧ t.grn.dc = s.grn.dc) ∧
      (r.journal = none → t.grn.write = s.grn.write) ∧
      (∀ f, r.journal = some f → (∃ x, t.grn.write = some x ∧
          x.flags = (f ||| (if r.final = true then t.grn.failedFlags else 0)) ||| bit1 (!s.anyMeter) ∧ x.final = r.final) ∧
        (∀ n : Fin 8, t.rd (pmaxAddr n) = 0))) ∧
  (∀ s : State, s.grn.snap = none → exec .granarySnapshotTaken s = .next s) ∧
  (∀ (s : State) (w : World) (i : Fin 176), s.sys.phase = .run →
    Completes (.granaryLoRead w (BitVec.ofNat 32 (totalAddr i))) s fun t =>
      t.rd (totalAddr i + 4) = BitVec.ofNat 32 (nth s.grn.totals i 0 / 2 ^ 64) ∧
      (∀ b, b ≠ totalAddr i + 4 → t.rd b = s.rd b) ∧ t.grn = s.grn ∧ t.clk = s.clk) ∧
  (∀ (s : State) (t0 : Nat), s.coreRuns = true → s.grn.period = some t0 → s.due (t0 + s.journalPeriod) = true → s.replayHolds = false →
    s.on F.GRN_JSTAT_BUSY = false →
    Completes .journalPeriod s fun t =>
      t.grn.period = some (t0 + s.journalPeriod) ∧ t.on F.GRN_JSTAT_BUSY = true ∧
      (∃ r f, t.grn.snap = some r ∧ r.journal = some f) ∧ t.grn.totals = s.grn.totals ∧ (∀ b, b ≠ R.GRN_JSTAT → t.rd b = s.rd b) ∧
      t.mem = s.mem) ∧
  (∀ (s : State) (w : World) (v : Word), s.accepts w R.GRN_JRN (v ||| 0x10000) → s.replayHolds = false →
    (s.on F.GRN_JSTAT_BUSY = false → Completes (.journalCommitWrite w v) s fun t =>
      t.on F.GRN_JSTAT_BUSY = true ∧ (∃ r f, t.grn.snap = some r ∧ r.journal = some f) ∧ t.grn.queued = s.grn.queued ∧
      (∀ b, b ≠ R.GRN_JSTAT → b ≠ R.GRN_JRN → t.rd b = s.rd b) ∧ t.mem = s.mem) ∧
    (s.on F.GRN_JSTAT_BUSY = true → Completes (.journalCommitWrite w v) s fun t =>
      t.on F.GRN_JSTAT_QUEUED = true ∧ t.grn.queued = some (s.grn.queued.getD 0) ∧ t.grn.snap = s.grn.snap ∧
      (∀ b, b ≠ R.GRN_JSTAT → b ≠ R.GRN_JRN → t.rd b = s.rd b) ∧ t.mem = s.mem)) ∧
  (∀ (s : State) (x : JournalWrite), s.policyRests → s.grn.write = some x → s.grn.queued = none → s.replayHolds = false →
    (∀ r, s.grn.snap = some r → r.journal = none) →
    (s.mramFails (journalOffset s.grn.nextSlot) x.bytes.length = false → Completes (.journalRecordDone true) s fun t =>
      t.grn.write = none ∧ t.on F.GRN_JSTAT_BUSY = false ∧ t.get F.GRN_JSTAT_SLOT = s.grn.nextSlot % 2 ^ F.GRN_JSTAT_SLOT.width ∧
      t.rd R.GRN_JSEQ = s.grn.nextSeq ∧ t.grn.nextSeq = s.grn.nextSeq + 1 ∧ s.sent t 0xA8 ∧
      (∀ a, memGet t.mem.mram a = if journalOffset s.grn.nextSlot ≤ a ∧ a < journalOffset s.grn.nextSlot + x.bytes.length
        then x.bytes.getD (a - journalOffset s.grn.nextSlot) 0 else memGet s.mem.mram a) ∧ t.grn.totals = s.grn.totals) ∧
    (Completes (.journalRecordDone false) s fun t =>
      t.grn.write = none ∧ t.on F.GRN_JSTAT_BUSY = false ∧ t.on F.GRN_JSTAT_FAIL = true ∧ s.sent t 0xA9 ∧
      t.grn.nextSeq = s.grn.nextSeq ∧ t.grn.nextSlot = s.grn.nextSlot ∧ t.grn.totals = s.grn.totals ∧
      (∀ n : Fin 8, (s.rd (pmaxAddr n)).toNat ≤ (t.rd (pmaxAddr n)).toNat ∧ (nth x.pmax n 0).toNat ≤ (t.rd (pmaxAddr n)).toNat) ∧
      (∀ a, a < journalOffset s.grn.nextSlot ∨ journalOffset s.grn.nextSlot + x.bytes.length ≤ a →
        memGet t.mem.mram a = memGet s.mem.mram a))) ∧
  (∀ (s : State) (x : JournalWrite) (f : Nat), s.policyRests → s.grn.write = some x → s.grn.queued = some f → s.replayHolds = false →
    (∀ r, s.grn.snap = some r → r.journal = none) → s.mramFails (journalOffset s.grn.nextSlot) x.bytes.length = false →
    Completes (.journalRecordDone true) s fun t =>
      t.grn.write = none ∧ t.on F.GRN_JSTAT_BUSY = true ∧ t.on F.GRN_JSTAT_QUEUED = false ∧ t.grn.queued = none ∧
      (∃ r g, t.grn.snap = some r ∧ r.journal = some g) ∧ t.rd R.GRN_JSEQ = s.grn.nextSeq ∧ s.sent t 0xA8) ∧
  (∀ (s : State) (w : World) (v : Word), s.accepts w R.GRN_CTRL v → s.policyRests → s.on F.CLK_SYN0_SSC_EN = false →
    Completes (.meterEnableWrite w v) s fun t =>
      t.rd R.GRN_CTRL = (s.rd R.GRN_CTRL &&& 0x80000000) ||| (v &&& 0x800000FF) ∧ t.grn.active = s.grn.active ∧
      t.grn.totals = s.grn.totals ∧ t.grn.ac = s.grn.ac ∧ (v &&& 0xFF ≠ 0 → t.grn.opened = true) ∧ t.loom = s.loom ∧ t.clk = s.clk)

/-! ### Shaft feedback -/

/-- Shaft feedback (R252 to R257, R260 to R262): a transition that the filter can give moves POS by one in the direction of the lines and
DIR, wraps it at CPR and counts the wrap; both lines at once are an illegal transition, and the ILLN-th in a row trips; the first index
homes, a later one beyond TOL is an index error, after which POLICY keeps POS, corrects it or trips; an SSI frame is taken or fails; the
deposit stores the latches; a shaft without edges is STILL; and the emulation moves one state towards its target. No sample is taken while
CORE does not run. The stamp of a read as t_e, STILL counted from the start where no edge came, and the compare of a read over POS and
TURNS are the model's readings (log entry 30), and so is the least spacing that the filter leaves between changes of a line (log entry
77). -/
def Obligations.ShaftFeedback : Prop :=
  (∀ (s : State) (n : Fin 2) (qb : Bool), s.Shaped → s.encRuns n 1 = true → s.encJudged n = false →
    s.lineMay n 1 (if qb then (s.enc n).qbAt else (s.enc n).qaAt) = true →
    (if qb then (s.enc n).qaAt else (s.enc n).qbAt) ≠ some s.count →
    ∀ p : Int, p = s.get (F.SHF_ENCn_POS_POS n) +
        (if (if qb then (s.enc n).qa != (s.enc n).qb else (s.enc n).qa == (s.enc n).qb) != s.on (F.SHF_ENCn_CFG_DIR n) then (1 : Int)
          else -1) →
    Completes (.quadratureStep n qb) s fun t =>
      t.get (F.SHF_ENCn_POS_POS n) = (p % s.encCpr n).toNat ∧
      (t.enc n).turns = (if (s.encCpr n : Int) ≤ p then (s.enc n).turns + 1 else if p < 0 then (s.enc n).turns - 1 else (s.enc n).turns) ∧
      (t.enc n).qa = ((s.enc n).qa != !qb) ∧ (t.enc n).qb = ((s.enc n).qb != qb) ∧
      (t.enc n).te = some s.count ∧ t.on (F.SHF_ENCn_STAT_STILL n) = false ∧ t.mem = s.mem ∧ t.clk = s.clk ∧ t.loom = s.loom ∧
      (∀ b, b ≠ R.SHF_ENCn_POS n → b ≠ R.SHF_ENCn_STAT n → b ≠ R.SHF_EMU_STAT → t.rd b = s.rd b)) ∧
  (∀ (s : State) (n : Fin 2) (qb : Bool), s.lineMay n 1 (if qb then (s.enc n).qbAt else (s.enc n).qaAt) = false →
    exec (.quadratureStep n qb) s = .next s) ∧
  (∀ (s : State) (n : Fin 2) (qb : Bool), s.coreRuns = false →
    exec (.quadratureStep n qb) s = .next s ∧ exec (.illegalTransition n) s = .next s ∧ exec (.index n) s = .next s) ∧
  (∀ (s : State) (n : Fin 2), s.Shaped → s.encRuns n 1 = true → s.encJudged n = false → s.lineMay n 1 (s.enc n).qaAt = true →
    s.lineMay n 1 (s.enc n).qbAt = true →
    Completes (.illegalTransition n) s fun t =>
      t.on (F.SHF_ENCn_STAT_ILL n) = true ∧ s.sent t (0xB2 + n) ∧ t.get (F.SHF_ENCn_POS_POS n) = s.get (F.SHF_ENCn_POS_POS n) ∧
      t.get (F.SHF_ENCn_CNT_ILLCNT n) = satInc (F.SHF_ENCn_CNT_ILLCNT n).width (s.get (F.SHF_ENCn_CNT_ILLCNT n)) ∧
      (t.enc n).illRun = (s.enc n).illRun + 1 ∧
      (s.get (F.SHF_ENCn_CFG_ILLN n) ≠ 0 → (s.enc n).illRun + 1 = s.get (F.SHF_ENCn_CFG_ILLN n) →
        t.on (F.SHF_ENCn_STAT_TRIP n) = true ∧ s.sent t (0xB6 + n)) ∧
      (∀ b, b ≠ R.SHF_ENCn_STAT n → b ≠ R.SHF_ENCn_CNT n → t.rd b = s.rd b) ∧ t.mem = s.mem ∧ t.clk = s.clk) ∧
  (∀ (s : State) (n : Fin 2), s.encRuns n 1 = true → (s.enc n).latchAt ≠ some s.count → s.lineMay n 2 (s.enc n).qiAt = true →
    s.on (F.SHF_ENCn_CFG_IDXGATE n) = false ∨ ((s.enc n).qa = true ∧ (s.enc n).qb = true) →
    (s.on (F.SHF_ENCn_STAT_HOMED n) = false → Completes (.index n) s fun t =>
      t.get (F.SHF_ENCn_POS_POS n) = s.idxPos n ∧ t.on (F.SHF_ENCn_STAT_HOMED n) = true ∧ s.sent t (0xB0 + n) ∧
      (∀ b, b ≠ R.SHF_ENCn_POS n → b ≠ R.SHF_ENCn_STAT n → b ≠ R.SHF_EMU_STAT → t.rd b = s.rd b) ∧ t.clk = s.clk ∧ t.loom = s.loom) ∧
    (s.on (F.SHF_ENCn_STAT_HOMED n) = true →
      (wayTo (s.encCpr n) (s.get (F.SHF_ENCn_POS_POS n)) (s.idxPos n)).natAbs ≤ s.get (F.SHF_ENCn_IDX_TOL n) →
      Completes (.index n) s fun t => s.sent t (0xB0 + n) ∧ t.regs = s.regs ∧ t.clk = s.clk ∧ t.loom = s.loom) ∧
    (s.on (F.SHF_ENCn_STAT_HOMED n) = true → s.get (F.SHF_ENCn_CFG_POLICY n) = 0 →
      s.get (F.SHF_ENCn_IDX_TOL n) < (wayTo (s.encCpr n) (s.get (F.SHF_ENCn_POS_POS n)) (s.idxPos n)).natAbs →
      Completes (.index n) s fun t =>
        t.get (F.SHF_ENCn_POS_POS n) = s.get (F.SHF_ENCn_POS_POS n) ∧
        t.get (F.SHF_ENCn_IDXCAP_POS n) = s.get (F.SHF_ENCn_POS_POS n) ∧ t.on (F.SHF_ENCn_STAT_IDXERR n) = true ∧
        s.sent t (0xB4 + n) ∧ t.clk = s.clk ∧ t.loom = s.loom) ∧
    (s.on (F.SHF_ENCn_STAT_HOMED n) = true → s.get (F.SHF_ENCn_CFG_POLICY n) = 1 →
      s.get (F.SHF_ENCn_IDX_TOL n) < (wayTo (s.encCpr n) (s.get (F.SHF_ENCn_POS_POS n)) (s.idxPos n)).natAbs →
      Completes (.index n) s fun t =>
        t.get (F.SHF_ENCn_POS_POS n) =
          (((s.get (F.SHF_ENCn_POS_POS n) : Int) + wayTo (s.encCpr n) (s.get (F.SHF_ENCn_POS_POS n)) (s.idxPos n)) % s.encCpr n).toNat ∧
        t.get (F.SHF_ENCn_IDXCAP_POS n) = s.get (F.SHF_ENCn_POS_POS n) ∧ t.on (F.SHF_ENCn_STAT_IDXERR n) = true ∧
        t.on (F.SHF_ENCn_STAT_TRIP n) = s.on (F.SHF_ENCn_STAT_TRIP n) ∧ s.sent t (0xB4 + n) ∧ t.clk = s.clk ∧ t.loom = s.loom) ∧
    (s.on (F.SHF_ENCn_STAT_HOMED n) = true → 2 ≤ s.get (F.SHF_ENCn_CFG_POLICY n) →
      s.get (F.SHF_ENCn_IDX_TOL n) < (wayTo (s.encCpr n) (s.get (F.SHF_ENCn_POS_POS n)) (s.idxPos n)).natAbs →
      Completes (.index n) s fun t =>
        t.get (F.SHF_ENCn_POS_POS n) = s.get (F.SHF_ENCn_POS_POS n) ∧ t.on (F.SHF_ENCn_STAT_TRIP n) = true ∧
        t.get (F.SHF_ENCn_IDXCAP_POS n) = s.get (F.SHF_ENCn_POS_POS n) ∧ t.on (F.SHF_ENCn_STAT_IDXERR n) = true ∧
        s.sent t (0xB4 + n) ∧ s.sent t (0xB6 + n) ∧ t.clk = s.clk ∧ t.loom = s.loom)) ∧
  (∀ (s : State) (n : Fin 2) (data : Word) (par : Bool) (i : Nat), s.Shaped → s.encRuns n 2 = true → (s.enc n).reading = some i →
    s.due (i + s.ssiLength n) = true →
    Completes (.ssiReadDone n data par false) s fun t =>
      (t.enc n).reading = none ∧ t.on (F.SHF_ENCn_STAT_SSIERR n) = true ∧ (t.enc n).turns = (s.enc n).turns ∧
      (∀ b, b ≠ R.SHF_ENCn_STAT n → ((s.enc n).latchAt = some s.count → b ≠ R.SHF_ENCn_Li n 3) → t.rd b = s.rd b) ∧
      t.clk = s.clk) ∧
  (∀ (s : State) (n : Fin 2) (data : Word) (par : Bool) (i v : Nat), s.Shaped → s.encRuns n 2 = true → (s.enc n).reading = some i →
    s.due (i + s.ssiLength n) = true →
    (s.on (F.SHF_ENCn_SSI_PAR n) = true → (onesBelow (s.ssiBits n) (data.toNat % 2 ^ s.ssiBits n) + bit1 par) % 2 = 0) →
    v = (if s.on (F.SHF_ENCn_SSI_GRAY n) then grayDecode (s.ssiBits n) (data.toNat % 2 ^ s.ssiBits n) else data.toNat % 2 ^ s.ssiBits n) →
    ((s.enc n).good = true → (s.ssiMoved n v).natAbs ≤ 2 ^ s.ssiPosBits n / 2) →
    Completes (.ssiReadDone n data par true) s fun t =>
      (t.enc n).reading = none ∧ (t.enc n).good = true ∧ (t.enc n).te = some i ∧ t.encPos n = v % 2 ^ s.ssiPosBits n ∧
      (t.enc n).turns = BitVec.ofNat 32 (v / 2 ^ s.ssiPosBits n) ∧ t.clk = s.clk ∧
      (∀ b, b ≠ R.SHF_ENCn_POS n → b ≠ R.SHF_ENCn_STAT n → b ≠ R.SHF_EMU_STAT →
        ((s.enc n).latchAt = some s.count → b ≠ R.SHF_ENCn_Li n 3) → t.rd b = s.rd b)) ∧
  (∀ (s : State) (n : Fin 2) (d : Nat), s.Shaped → (s.enc n).depositAt = some d → s.due d = true → s.on (F.SHF_ENCn_DEP_EN n) = true →
    s.on F.MILL_CTRL_EN = true → (s.mode = .ready ∨ s.switching = true) → s.get (F.SHF_ENCn_DEP_ADDR n) ≤ 0x1FFC →
    Completes (.shfDeposit n) s fun t =>
      (∀ i : Fin 4, wordGet t.mill.dmem (s.get (F.SHF_ENCn_DEP_ADDR n) + i) = s.rd (R.SHF_ENCn_Li n i)) ∧
      (∀ a, (a < s.get (F.SHF_ENCn_DEP_ADDR n) ∨ s.get (F.SHF_ENCn_DEP_ADDR n) + 4 ≤ a) → wordGet t.mill.dmem a = wordGet s.mill.dmem a) ∧
      (t.enc n).depositAt = none ∧ t.regs = s.regs) ∧
  (∀ (s : State) (n : Fin 2), s.Shaped → s.encRuns n 1 = true ∨ s.encRuns n 2 = true → s.on (F.SHF_ENCn_STAT_STILL n) = false →
    s.due ((s.enc n).te.getD (s.enc n).startAt + max 1 (s.get (F.SHF_ENCn_SPD_STILL n)) * 400000) = true →
    Completes (.stillTimeout n) s fun t =>
      t.on (F.SHF_ENCn_STAT_STILL n) = true ∧ (t.enc n).speed = 0 ∧
      ((s.enc n).latchAt = some s.count → t.rd (R.SHF_ENCn_Li n 1) = 0 ∧ t.rd (R.SHF_ENCn_Li n 3) = t.rd (R.SHF_ENCn_STAT n) &&& 0xFF) ∧
      (∀ b, b ≠ R.SHF_ENCn_STAT n → ((s.enc n).latchAt = some s.count → b ≠ R.SHF_ENCn_Li n 1 ∧ b ≠ R.SHF_ENCn_Li n 3) →
        t.rd b = s.rd b) ∧ t.clk = s.clk) ∧
  (∀ s : State, s.on F.SHF_CTRL_EMU_EN = true → s.coreRuns = true → s.due (s.shf.emuAt + max 20 (s.get F.SHF_EMU_CFG_MINE)) = true →
    s.emuWay ≠ 0 →
    Completes .emulationStep s fun t =>
      t.get F.SHF_EMU_STAT_ECNT = (if 0 < s.emuWay then (s.get F.SHF_EMU_STAT_ECNT + 1) % (4 * s.eppr)
        else (s.get F.SHF_EMU_STAT_ECNT + 4 * s.eppr - 1) % (4 * s.eppr)) ∧
      t.shf.emuAt = s.count ∧ (∀ b, b ≠ R.SHF_EMU_STAT → t.rd b = s.rd b) ∧ t.shf.encs = s.shf.encs ∧ t.clk = s.clk)

/-! ### The Pelkin ring -/

/-- Rounds (R268, R271, R272, R283): the Reeve issues the round of its issue valley, a node takes its insertion latches 64 cycles before
an issue stamp, an ended round is delivered with its number and event 0xB8, and with nothing valid at a member whose copy of the
generation is incomplete; LOCKED comes after LOCK_N rounds in the window, on the Reeve with a return, and goes after 3 rounds without a
header or 4 far outside the window. That rounds keep their order of numbers, and what `roundNo` says of the first one after a takeover, is
DEDUCED (log entry 44). Copies (R267, R271, R272, R279): a copy with a wrong HCRC is counted and nothing is taken from it, a copy that
passes a listening node by its other port leaves with HOPS one higher and its delay added, and a Reeve that hears a Reeve of a lower slot
listens. -/
def Obligations.RingRoundsAndCopies : Prop :=
  (∀ s : State, s.ringRuns = true → s.ringState = 4 → s.ring.issueDue = true → s.count = (s.car (s.get F.RING_RND_CAR)).valley.toNat →
    Completes .roundIssue s fun t =>
      t.ring.round = s.roundNo s.count + 1 ∧ (s.ring.tookOver = false → s.roundNo s.count = s.ring.round) ∧
      t.ring.lastIssue = some s.count ∧ t.ring.issueDue = false ∧ t.ring.tookOver = false ∧
      (∃ r, t.ring.cur = some r ∧ r.no = s.roundNo s.count ∧ r.issue = s.count) ∧ t.clk.count = s.clk.count ∧ t.loom = s.loom ∧ t.otp = s.otp) ∧
  (∀ s : State, s.ringRuns = true → s.ringLive = true → s.nextIssue = some (s.count + 64) →
    Completes .insertionLatch s fun t =>
      t.ring.insFor = some (s.count + 64) ∧ (∀ i : Fin 128, nth t.ring.ins i 0 = s.rd (R.RING_TXWw i)) ∧
      t.ring.round = s.ring.round ∧ t.regs = s.regs ∧ t.clk = s.clk) ∧
  (∀ (s : State) (r : RingRound) (rest : List RingRound) (d : Nat), s.policyRests → s.ringRuns = true → s.ringLive = true →
    (∀ x, s.ring.cur = some x → s.count < x.issue + s.ringPeriod) → (s.ring.cur = none → s.ring.lastIssue = none) →
    s.ring.done = r :: rest → r.deliverAt = some d → s.due d = true →
    Completes .roundDelivery s fun t =>
      t.ring.done = rest ∧ t.rd R.RING_ROUND = r.no ∧ s.sent t 0xB8 ∧ t.ring.cur = s.ring.cur ∧ s.clockKept t ∧ t.loom = s.loom ∧
      (s.ringState = 3 → s.ring.liveOk = false → ∀ j : Fin 8, t.rd (R.RING_RXVj j) = 0)) ∧
  (∀ s : State, s.coreRuns = true → s.ringRuns = true → s.on F.RING_STAT_LOCKED = false →
    ((s.ringState = 3 ∧ s.ring.slewHeld = false ∧ s.lockRounds ≤ s.ring.inWin ∧
        (s.on F.RING_STAT_LOCK_A = true ∨ s.on F.RING_STAT_LOCK_B = true)) ∨
      (s.ringState = 4 ∧ 0 < s.ring.inWin)) →
    Completes .ringLockGain s fun t =>
      t.on F.RING_STAT_LOCKED = true ∧ s.sent t 0xC4 ∧ (∀ b, b ≠ R.RING_STAT → t.rd b = s.rd b) ∧ s.clockKept t ∧ t.loom = s.loom) ∧
  (∀ s : State, s.coreRuns = true → s.on F.RING_STAT_LOCKED = true → 3 ≤ s.ring.noHeader ∨ (s.ringState = 3 ∧ 4 ≤ s.ring.outWin) →
    Completes .ringLockLoss s fun t =>
      t.on F.RING_STAT_LOCKED = false ∧ t.on F.TST_VOID_STAT_STATE = true ∧ s.sent t 0xC5 ∧ t.ring.inWin = 0 ∧
      t.ringState = s.ringState ∧ s.clockKept t ∧ t.loom = s.loom) ∧
  (∀ (s : State) (p : Port) (b : List Byte) (frac res : Nat), s.policyRests → s.ringRuns = true → s.portUp p = true → headOk b = false →
    Completes (.copyPassage p b frac res) s fun t =>
      t.on F.RING_ERR_HDR_CRC = true ∧ s.sent t 0xBA ∧ t.get F.RING_CNT_CRCERR = satInc 16 (s.get F.RING_CNT_CRCERR) ∧
      t.ring.cur = s.ring.cur ∧ t.ring.done = s.ring.done ∧ t.ring.round = s.ring.round ∧
      (∀ a, a ≠ R.RING_ERR → a ≠ R.RING_CNT → t.rd a = s.rd a) ∧ t.clk = s.clk ∧ t.mem = s.mem) ∧
  (∀ (s : State) (p : Port) (b : List Byte) (frac res : Nat), s.policyRests → s.ringRuns = true → s.portUp .a = true → s.portUp .b = true →
    s.ringState = 1 → headOk b = true →
    Completes (.copyPassage p b frac res) s fun t =>
      (if p = .a then t.ring.outB else t.ring.outA).getLast? = some (overwrite b 0 (sealHead { headOf b with
        hops := (headOf b).hops + 1, dacc := (headOf b).dacc + s.portDelay p + max 922 (min 1024 res) } true)) ∧
      (s.roundOk (headOf b) = true →
        t.get (if (headOf b).copyB then F.RING_HOPS_HOPS_B else F.RING_HOPS_HOPS_A) = (headOf b).hops % 2 ^ F.RING_HOPS_HOPS_A.width) ∧
      t.clk.count = s.clk.count ∧ t.clk.fine = s.clk.fine ∧ t.loom = s.loom) ∧
  (∀ (s : State) (p : Port) (b : List Byte) (frac res : Nat), s.policyRests → s.ringRuns = true → s.portUp p = true → s.ringState = 4 →
    headOk b = true → (headOf b).issuer < s.ringSlot →
    Completes (.copyPassage p b frac res) s fun t =>
      t.ringState = 1 ∧ t.on F.RING_ERR_DUP_REEVE = true ∧ t.rd R.RING_GEN = 0 ∧ t.on F.RING_STAT_LOCKED = false ∧
      t.ring.members = [] ∧ t.clk.count = s.clk.count ∧ t.clk.fine = 0 ∧ t.loom = s.loom)

/-- Messages (R33, R274, R275, R277, R278, R280): a PROBE is answered with ECHO, an ECHO gives a link delay, a KNOCK that no reason turns
away is admitted into the next generation, one of a slot in use is refused with reason 1, and one at another node than the Reeve is passed
on, on the ring on which it came; ADMIT makes the knocking node a MEMBER and steps its timebase by its mean offset, REFUSE sends it back,
LEAVE and LINKS change the Reeve's record, ROSTER and PRESENT fill the copy of the generation; a message with a wrong CRC is only flagged.
That the Reeve's answers leave by every port that carries messages is the model's choice (log entry 31). -/
def Obligations.RingMessages : Prop :=
  (∀ (s : State) (p : Port) (u : Nat), s.ringRuns = true → s.portUp p = true →
    Completes (.probe p true u) s fun t => t.ring.sent = s.ring.sent ++ [(p, .echo u)] ∧ t.regs = s.regs ∧ t.clk = s.clk ∧ t.events = s.events) ∧
  (∀ (s : State) (p : Port) (u : Nat), s.ringRuns = true → s.portUp p = true →
    Completes (.probe p false u) s fun t =>
      t.ring = s.ring ∧ t.on F.RING_ERR_HDR_CRC = true ∧ (∀ a, a ≠ R.RING_ERR → t.rd a = s.rd a) ∧ t.clk = s.clk) ∧
  (∀ (s : State) (p : Port) (r u : Nat), s.ringRuns = true → s.portUp p = true →
    Completes (.echo p true r u) s fun t =>
      (match p with
       | .a => t.ring.dinsA = ((((r : Rat) - (u : Rat)) / 2 + (s.getI F.RING_ASYMA_ASYM : Rat)) :: s.ring.dinsA).take s.ringDepth ∧
          t.ring.dinsB = s.ring.dinsB ∧ t.rd R.RING_DLYA = BitVec.ofNat 32 (wholeMean (meanOf t.ring.dinsA)).toNat ∧
          t.rd R.RING_DLYB = s.rd R.RING_DLYB
       | .b => t.ring.dinsB = ((((r : Rat) - (u : Rat)) / 2 + (s.getI F.RING_ASYMB_ASYM : Rat)) :: s.ring.dinsB).take s.ringDepth ∧
          t.ring.dinsA = s.ring.dinsA ∧ t.rd R.RING_DLYB = BitVec.ofNat 32 (wholeMean (meanOf t.ring.dinsB)).toNat ∧
          t.rd R.RING_DLYA = s.rd R.RING_DLYA) ∧
      (∀ a, a ≠ R.RING_DLYA → a ≠ R.RING_DLYB → a ≠ R.RING_TNEED → t.rd a = s.rd a) ∧ t.clk = s.clk) ∧
  (∀ (s : State) (uid : Dword) (slot : Fin 1024) (standby : Bool) (streams : List Word) (rper dinA dinB pos : Nat) (p : Port), s.coreRuns = true →
    s.ringRuns = true → s.portUp p = true → s.ringState = 4 → ¬ uid ∈ s.ring.answered →
    s.knockReason ⟨slot, uid, standby, streams.map rosterEntry, dinA, dinB, 0⟩ pos streams rper = none →
    Completes (.knock ⟨p, true⟩ uid slot standby streams rper dinA dinB pos) s fun t =>
      t.ring.members = s.ring.members.take pos ++ [⟨slot, uid, standby, streams.map rosterEntry, dinA, dinB, 0⟩] ++ s.ring.members.drop pos ∧
      (∃ at_, t.ring.sent = s.ring.sent ++ s.onRings (.admitted uid slot (t.get F.RING_GEN_NGEN) at_)) ∧ s.sent t 0xC0 ∧ s.sent t 0xC1 ∧ t.ring.live = s.ring.live ∧
      t.get F.RING_GEN_GEN = s.get F.RING_GEN_GEN ∧ (∀ a, a ≠ R.RING_GEN → t.rd a = s.rd a) ∧ s.clockKept t) ∧
  (∀ (s : State) (uid : Dword) (slot : Fin 1024) (standby : Bool) (streams : List Word) (rper dinA dinB pos : Nat) (p : Port), s.coreRuns = true →
    s.ringRuns = true → s.portUp p = true → s.ringState = 4 → ¬ uid ∈ s.ring.answered → slot.val = s.ringSlot ∨ (s.memberAt slot).isSome = true →
    Completes (.knock ⟨p, true⟩ uid slot standby streams rper dinA dinB pos) s fun t =>
      t.ring.sent = s.ring.sent ++ s.onRings (.refuse uid 1) ∧ s.sent t 0xC0 ∧ s.sent t 0xC2 ∧ t.ring.members = s.ring.members ∧ t.regs = s.regs ∧
      s.clockKept t) ∧
  (∀ (s : State) (uid : Dword) (slot : Fin 1024) (standby : Bool) (streams : List Word) (rper dinA dinB pos : Nat) (p : Port), s.ringRuns = true →
    s.portUp p = true → s.ringState ≠ 4 →
    Completes (.knock ⟨p, true⟩ uid slot standby streams rper dinA dinB pos) s fun t =>
      (s.portUp (otherPort p) = true →
        t.ring.sent = s.ring.sent ++ [(otherPort p, .knock uid slot (2 * bit1 standby) streams rper dinA dinB)]) ∧
      (s.portUp (otherPort p) = false → t.ring.sent = s.ring.sent) ∧ t.ring.members = s.ring.members ∧
      t.regs = s.regs ∧ t.clk = s.clk) ∧
  (∀ (s : State) (slot : Fin 1024) (gen at_ : Nat) (p : Port), s.Shaped → s.policyRests → s.ringRuns = true → s.portUp p = true →
    s.ringState = 2 →
    Completes (.admitted ⟨p, true⟩ ⟨s.uid, slot⟩ gen at_) s fun t =>
      t.ringState = 3 ∧ t.get F.RING_GEN_GEN = 0 ∧ t.get F.RING_GEN_NGEN = gen % 65536 ∧ t.on F.CLK_STAT_TB_STEPPED = true ∧
      (∀ n : Nat, (n : Int) = max 0 ((s.now : Int) - wholeMean s.thetaMean) →
        t.clk.count = BitVec.ofNat 64 (n / 64) ∧ t.clk.fine = BitVec.ofNat 6 n) ∧
      t.clk.epoch = s.clk.epoch + 1 ∧ t.ring.liveOk = false ∧ t.ring.nextAt = BitVec.ofNat 16 at_) ∧
  (∀ (s : State) (why : Nat) (p : Port), s.coreRuns = true → s.ringRuns = true → s.portUp p = true → s.ringState = 2 →
    Completes (.refuse ⟨p, true⟩ s.uid why) s fun t =>
      t.ringState = 1 ∧ t.get F.RING_STAT_REFUSE = why % 8 ∧ t.on F.RING_ERR_REFUSED = true ∧ s.sent t 0xC2 ∧
      (∀ a, a ≠ R.RING_STAT → a ≠ R.RING_ERR → t.rd a = s.rd a) ∧ s.clockKept t) ∧
  (∀ (s : State) (slot : Fin 1024) (p : Port), s.coreRuns = true → s.ringRuns = true → s.portUp p = true → s.ringState = 4 →
    (s.memberAt slot).isSome = true →
    Completes (.leave ⟨p, true⟩ slot) s fun t =>
      t.ring.members = s.ring.members.filter (fun m => m.slot != slot.val) ∧ t.memberAt slot = none ∧ s.sent t 0xC3 ∧
      t.get F.RING_GEN_GEN = s.get F.RING_GEN_GEN ∧ (∀ a, a ≠ R.RING_GEN → t.rd a = s.rd a) ∧ s.clockKept t) ∧
  (∀ (s : State) (slot : Fin 1024) (dinA dinB : Nat) (p : Port), s.ringRuns = true → s.portUp p = true → s.ringState = 4 →
    Completes (.links ⟨p, true⟩ slot dinA dinB) s fun t =>
      t.ring.members = s.ring.members.map (fun m => if m.slot = slot.val then { m with dinA := dinA, dinB := dinB } else m) ∧
      (∀ a, a ≠ R.RING_TNEED → t.rd a = s.rd a) ∧ t.clk = s.clk) ∧
  (∀ (s : State) (gen : Nat) (c : Fin 384) (entries : List Word) (p : Port), s.policyRests → s.ringRuns = true → s.portUp p = true →
    s.ringState = 3 → s.ring.liveOk = true → entries.length = 16 →
    Completes (.roster ⟨p, true⟩ gen (16 * c) entries) s fun t =>
      t.ring.nextGen = gen ∧ c.val ∈ t.ring.chunks ∧ (∀ k : Fin 16, t.ring.next.entry (16 * c + k) = entries.getD k 0) ∧
      t.regs = s.regs ∧ t.ring.live = s.ring.live ∧ t.clk = s.clk) ∧
  (∀ (s : State) (gen : Nat) (half : Fin 2) (map : BitVec 512) (need : Nat) (p : Port), s.policyRests → s.ringRuns = true → s.portUp p = true →
    s.ringState = 3 → s.ring.liveOk = true →
    Completes (.present ⟨p, true⟩ gen half map need) s fun t =>
      t.ring.nextGen = gen ∧ half.val ∈ t.ring.halves ∧ t.ring.next.tneed = need ∧
      (t.ring.next.present >>> (512 * half.val)).setWidth 512 = map ∧
      (gen ≠ s.get F.RING_GEN_GEN → t.regs = s.regs ∧ t.ring.live = s.ring.live) ∧
      (gen = s.get F.RING_GEN_GEN → t.rd R.RING_TNEED = BitVec.ofNat 32 need ∧ t.ring.live.tneed = need ∧
        (∀ a, a ≠ R.RING_TNEED → t.rd a = s.rd a)) ∧ t.clk = s.clk)

/-- Generations, members, ports and breaks (R275, R278, R279, R286, R287): at NGEN_AT a member whose copy of the generation is incomplete
has none, a silent member is dropped, a STANDBY takes over with the generation after the last one seen, a lost input wraps its port, and
after 1 ms without any loss it unwraps at an issue stamp. Writes of the ring's registers (R273, R276, R278): enabling a port of a node
that is OFF makes it LISTEN, JOIN makes a listening node with a locked port knock, LEAVE makes a member send LEAVE, and a write of
RING_TXWw loads the latch. -/
def Obligations.RingBreaksAndWrites : Prop :=
  (∀ s : State, s.policyRests → s.ringRuns = true → s.ringState = 3 → s.get F.RING_GEN_NGEN ≠ s.get F.RING_GEN_GEN →
    s.roundNow.setWidth 16 = s.ring.nextAt → s.ring.complete = false →
    Completes .generationChange s fun t =>
      t.get F.RING_GEN_GEN = s.get F.RING_GEN_NGEN ∧ t.get F.RING_GEN_NGEN = s.get F.RING_GEN_NGEN ∧ t.ring.liveOk = false ∧
      s.sent t 0xBF ∧ t.ring.live = s.ring.live ∧ s.clockKept t ∧ t.loom = s.loom) ∧
  (∀ (s : State) (slot : Fin 1024) (m : RingMember), s.coreRuns = true → s.ringRuns = true → s.ringState = 4 → s.memberAt slot = some m →
    s.lostRounds ≤ m.lost →
    Completes (.memberLost slot) s fun t =>
      t.memberAt slot = none ∧ s.sent t 0xC3 ∧ t.get F.RING_GEN_GEN = s.get F.RING_GEN_GEN ∧
      (∀ a, a ≠ R.RING_GEN → t.rd a = s.rd a) ∧ s.clockKept t) ∧
  (∀ s : State, s.policyRests → s.ringRuns = true → s.ringState = 3 → s.ringRole = 2 → s.ring.wasLocked = true → 3 ≤ s.ring.noHeader →
    Completes .standbyTakeover s fun t =>
      t.ringState = 4 ∧ t.get F.RING_GEN_GEN = nextGeneration (s.get F.RING_GEN_NGEN) ∧
      t.get F.RING_GEN_NGEN = nextGeneration (s.get F.RING_GEN_NGEN) ∧ t.on F.RING_STAT_LOCKED = false ∧
      s.sent t 0xBF ∧ s.sent t 0xC6 ∧ t.clk.count = s.clk.count ∧ t.clk.fine = 0 ∧ t.loom = s.loom) ∧
  (∀ (s : State) (p : Port) (c : PortLoss), s.coreRuns = true → s.ringRuns = true → s.portOn p = true → s.on (wrapFld p) = false →
    Completes (.portInputLost ⟨p, c, true⟩) s fun t =>
      t.on (wrapFld p) = true ∧ (c ≠ .remoteFault → t.on (lockFld p) = false) ∧ c ∈ t.ring.loss p ∧ s.sent t 0xBD ∧ t.ringState = s.ringState ∧
      (∀ a, a ≠ R.RING_STAT → t.rd a = s.rd a) ∧ s.clockKept t) ∧
  (∀ (s : State) (p : Port) (c : PortLoss), s.sys.phase ≠ .keep → s.ring.loss p = [c] →
    Completes (.portInputLost ⟨p, c, false⟩) s fun t =>
      t.ring.loss p = [] ∧ t.ring.clearSince p = s.count ∧ t.regs = s.regs ∧ t.clk = s.clk ∧ t.events = s.events) ∧
  (∀ (s : State) (p : Port), s.coreRuns = true → s.ringRuns = true → s.portOn p = true → s.on (wrapFld p) = true →
    s.ring.loss p = [] → s.ring.clearSince p + 400000 ≤ s.count → s.atIssue = true →
    Completes (.unwrap p) s fun t =>
      t.on (wrapFld p) = false ∧ s.sent t 0xBE ∧ t.ringState = s.ringState ∧ t.ring = s.ring ∧
      (∀ a, a ≠ R.RING_STAT → t.rd a = s.rd a) ∧ s.clockKept t) ∧
  (∀ (s : State) (w : World) (v : Word), s.accepts w R.RING_CTRL v → s.policyRests → s.ringState = 0 → s.ringRole ≠ 1 →
    s.get ⟨R.RING_CTRL, 0, 2⟩ = 0 → getBits v 0 2 ≠ 0 → getBits v 2 2 = 0 → s.on F.CLK_STAT_SSC0_ON = false →
    Completes (.portEnableWrite w v) s fun t =>
      t.ringState = 1 ∧ t.get ⟨R.RING_CTRL, 0, 2⟩ = getBits v 0 2 ∧ s.clockKept t ∧ t.loom = s.loom) ∧
  (∀ (s : State) (w : World) (v : Word), s.accepts w R.RING_CTRL (v ||| 4) → s.policyRests → s.ringState = 1 → s.switching = false →
    getBits v 0 2 = s.get ⟨R.RING_CTRL, 0, 2⟩ → bitAt v 3 = false → bitAt v 31 = false →
    (s.portOn .a = true ∧ s.on F.RING_STAT_LOCK_A = true ∧ s.ring.lossA = []) ∨
      (s.portOn .b = true ∧ s.on F.RING_STAT_LOCK_B = true ∧ s.ring.lossB = []) →
    (s.get F.CLK_SYN0_DISC_SRC ≠ 0 → Completes (.joinWrite w v) s fun t => t.ringState = 2 ∧ s.clockKept t ∧ t.loom = s.loom) ∧
    (s.get F.CLK_SYN0_DISC_SRC = 0 → Completes (.joinWrite w v) s fun t =>
      t.ringState = 1 ∧ t.on F.RING_ERR_DISC = true ∧ s.clockKept t ∧ t.loom = s.loom)) ∧
  (∀ (s : State) (w : World) (v : Word), s.accepts w R.RING_CTRL (v ||| 8) → s.policyRests → s.ringState = 3 → s.ringOn = true →
    getBits v 0 2 = s.get ⟨R.RING_CTRL, 0, 2⟩ → bitAt v 2 = false → bitAt v 31 = false →
    Completes (.leaveWrite w v) s fun t =>
      t.ring.leaving = true ∧ (∀ x ∈ s.onRings (.leave s.ringSlot), x ∈ t.ring.sent) ∧ t.ringState = 3 ∧ s.clockKept t ∧ t.loom = s.loom) ∧
  (∀ (s : State) (w : World) (i : Fin 128) (v : Word), s.accepts w (R.RING_TXWw i) v →
    Completes (.txLatchWrite w i v) s fun t =>
      t.rd (R.RING_TXWw i) = v ∧ (∀ b, b ≠ R.RING_TXWw i → t.rd b = s.rd b) ∧ t.ring = s.ring ∧ t.clk = s.clk)

/-! ### The Mill -/

/-- The arithmetic of a slot, in both formats (R124, R126): the exact result of the operands, rounded once to the slot's format, is on its
way to D with the operation's latency. Operations on bits, comparisons, selection and moves (R126), each with its result and latency. -/
def Obligations.MillArithmeticAndBits : Prop :=
  (∀ (s : State) (ln : Fin 4) (k : Nat) (x : Slot), s.issuing ln = some (k, x) →
     let v := fun r => valueOf x.fixed ((s.lane ln).get r)
     let arith := fun (c : Instr) (lat : Nat) (y : Flt) =>
       Completes c s fun t => s.posts t ln lat (.reg (x.d % 16)) (roundTo x.fixed y).1.toNat ∧ s.LaneFrame t k
     (x.op = 0x01 → arith (.opAdd ln) 2 ((v x.a).add (v x.b))) ∧
     (x.op = 0x02 → arith (.opSub ln) 2 ((v x.a).add (v x.b).neg)) ∧
     (x.op = 0x03 → arith (.opMul ln) 3 ((v x.a).mul (v x.b))) ∧
     (x.op = 0x04 → arith (.opMin ln) 2 ((v x.a).min (v x.b))) ∧
     (x.op = 0x05 → arith (.opMax ln) 2 ((v x.a).max (v x.b))) ∧
     (x.op = 0x06 → arith (.opAbs ln) 1 (v x.a).abs) ∧
     (x.op = 0x07 → arith (.opNeg ln) 1 (v x.a).neg) ∧
     (x.op = 0x08 → arith (.opSat ln) 2 (((v x.a).max (v x.b)).min (v (x.b + 1)))) ∧
     (x.op = 0x09 → Completes (.opCvtqf ln) s fun t =>
       s.posts t ln 2 (.reg (x.d % 16)) (roundSingle (.ofRat (qRat ((s.lane ln).get x.a)))).1.toNat ∧ s.LaneFrame t k) ∧
     (x.op = 0x0A → Completes (.opCvtfq ln) s fun t =>
       s.posts t ln 2 (.reg (x.d % 16)) (cvtFQ ((s.lane ln).get x.a)).1.toNat ∧ s.LaneFrame t k)) ∧
  (∀ (s : State) (ln : Fin 4) (k : Nat) (x : Slot), s.issuing ln = some (k, x) →
     let g := fun r => (s.lane ln).get r
     let v := fun r => valueOf x.fixed (g r)
     let gives := fun (i : Instr) (lat : Nat) (w : Word) =>
       Completes i s fun t => s.posts t ln lat (.reg (x.d % 16)) w.toNat ∧ s.LaneFrame t k ∧ t.regs = s.regs
     let flag := fun (i : Instr) (b : Bool) =>
       Completes i s fun t => s.posts t ln 1 (.flag (x.d % 8)) (bit1 b) ∧ s.LaneFrame t k ∧ t.regs = s.regs
     (x.op = 0x00 → exec (.opNop ln) s = .next s) ∧
     (x.op = 0x0B → gives (.opAnd ln) 1 (g x.a &&& g x.b)) ∧
     (x.op = 0x0C → gives (.opOr ln) 1 (g x.a ||| g x.b)) ∧
     (x.op = 0x0D → gives (.opXor ln) 1 (g x.a ^^^ g x.b)) ∧
     (x.op = 0x0E → gives (.opShl ln) 1 (g x.a <<< ((g x.b).toNat % 32))) ∧
     (x.op = 0x0F → gives (.opShra ln) 1 ((g x.a).sshiftRight ((g x.b).toNat % 32))) ∧
     (x.op = 0x10 → flag (.opCmplt ln) ((v x.a).lt (v x.b))) ∧
     (x.op = 0x11 → flag (.opCmple ln) ((v x.a).lt (v x.b) || (v x.a).eq (v x.b))) ∧
     (x.op = 0x12 → flag (.opCmpeq ln) ((v x.a).eq (v x.b))) ∧
     (x.op = 0x13 → (s.lane ln).c.getLsbD x.flag = true → gives (.opSel ln) 1 (g x.a)) ∧
     (x.op = 0x13 → (s.lane ln).c.getLsbD x.flag = false → gives (.opSel ln) 1 (g x.b)) ∧
     (x.op = 0x14 → gives (.opMovx ln) 2 ((s.lane (x.b % 4)).get x.a)) ∧
     (x.op = 0x15 → Completes (.opMovacc ln) s fun t =>
       s.posts t ln 1 (.reg (x.d % 16)) ((s.lane ln).acc.read x.fixed).1.toNat ∧ s.LaneFrame t k) ∧
     (x.op = 0x16 → gives (.opLdil ln) 1 (BitVec.ofNat 32 x.imm)) ∧
     (x.op = 0x17 → gives (.opLdih ln) 1 (BitVec.ofNat 32 (x.imm % 65536 * 65536 + (g x.d).toNat % 65536))) ∧
     (x.op = 0x18 → Completes (.opSeta ln) s fun t =>
       s.posts t ln 1 (.addr (x.d % 4)) x.imm ∧ s.LaneFrame t k ∧ t.regs = s.regs))

/-- Q1.31 arithmetic in integers (R126, R127): sums, differences, negation and magnitude saturate to 32 bits and set QSAT where they do, a
product is rounded to even and saturates, and the comparisons choose by the signed value. -/
def Obligations.MillFixedPoint : Prop :=
  ∀ (s : State) (ln : Fin 4) (k : Nat) (x : Slot), s.issuing ln = some (k, x) → x.fixed = true → k < 8 →
    let a := ((s.lane ln).get x.a).toInt
    let b := ((s.lane ln).get x.b).toInt
    let c := ((s.lane ln).get (x.b + 1)).toInt
    let gives := fun (i : Instr) (lat : Nat) (y : Int) =>
      Completes i s fun t => s.posts t ln lat (.reg (x.d % 16)) (BitVec.ofInt 32 (satTo 32 y)).toNat ∧
        (satTo 32 y ≠ y → t.on (F.MILL_TASKt_STAT_QSAT k) = true) ∧ (satTo 32 y = y → t.rd (R.MILL_TASKt_STAT k) = s.rd (R.MILL_TASKt_STAT k))
    (x.op = 0x01 → gives (.opAdd ln) 2 (a + b)) ∧
    (x.op = 0x02 → gives (.opSub ln) 2 (a - b)) ∧
    (x.op = 0x03 → gives (.opMul ln) 3 (ratRoundEven (((a * b : Int) : Rat) / ((2 ^ 31 : Nat) : Rat)))) ∧
    (x.op = 0x04 → gives (.opMin ln) 2 (min a b)) ∧
    (x.op = 0x05 → gives (.opMax ln) 2 (max a b)) ∧
    (x.op = 0x06 → gives (.opAbs ln) 1 (a.natAbs : Int)) ∧
    (x.op = 0x07 → gives (.opNeg ln) 1 (-a)) ∧
    (x.op = 0x08 → gives (.opSat ln) 2 (min (max a b) c))

/-- Transforms and iterative operations (R126 to R130): Clarke, Park and its inverse, sine and cosine, the biquad with its coefficients
from the bank in use, the clamped integrator with C6 and C7, the table interpolation, and division and root on their units; INTERP, DIV
and SQRT with M = 1 only set ILL. Of a biquad it is the output y that is stated, not its two states. That CLARKE, PARK and IPARK round
once, the whole of a result, is DEDUCED from R127 (log entry 17); what SINCOS gives within its tolerance is a free value of the model's
(log entry 23). -/
def Obligations.MillTransforms : Prop :=
  (∀ (s : State) (ln : Fin 4) (k : Fin 8) (x : Slot), s.issuing ln = some (k.val, x) → x.fixed = true →
    let ill := fun (i : Instr) => Completes i s fun t => t.on (F.MILL_TASKt_STAT_ILL k) = true ∧ t.mill = s.mill ∧ s.LaneFrame t k
    (x.op = 0x1F → ill (.opInterp ln)) ∧ (x.op = 0x20 → ill (.opDiv ln)) ∧ (x.op = 0x21 → ill (.opSqrt ln))) ∧
  (∀ (s : State) (ln : Fin 4) (k : Nat) (x : Slot), s.issuing ln = some (k, x) → x.void = false →
    let g := fun r => (s.lane ln).get r
    let v := fun r => valueOf x.fixed (g r)
    let ptr := (s.lane ln).ptr x.ar
    let pair := fun (i : Instr) (lat : Nat) (y z : Flt) =>
      Completes i s fun t => s.posts t ln lat (.reg (x.d % 16)) (roundTo x.fixed y).1.toNat ∧
        s.posts t ln lat (.reg ((x.d + 1) % 16)) (roundTo x.fixed z).1.toNat ∧ s.LaneFrame t k
    (x.op = 0x19 → pair (.opClarke ln) 4
      (((((Flt.ofRat 2).mul (v x.a)).add (v (x.a + 1)).neg).add (v (x.a + 2)).neg).mul (.ofRat (1 / 3)))
      ((v (x.a + 1)).add (v (x.a + 2)).neg).overRoot3) ∧
    (x.op = 0x1A → pair (.opPark ln) 5
      (((v x.a).mul (v (x.b + 1))).add ((v (x.a + 1)).mul (v x.b)))
      (((v (x.a + 1)).mul (v (x.b + 1))).add ((v x.a).mul (v x.b)).neg)) ∧
    (x.op = 0x1B → pair (.opIpark ln) 5
      (((v x.a).mul (v (x.b + 1))).add ((v (x.a + 1)).mul (v x.b)).neg)
      (((v x.a).mul (v x.b)).add ((v (x.a + 1)).mul (v (x.b + 1))))) ∧
    (x.op = 0x1C → Completes (.opSincos ln) s fun t =>
      s.posts t ln 16 (.reg (x.d % 16)) (sincosOf x.fixed false (g x.a)).1.toNat ∧
      s.posts t ln 16 (.reg ((x.d + 1) % 16)) (sincosOf x.fixed true (g x.a)).1.toNat ∧ s.LaneFrame t k) ∧
    (x.op = 0x1D → x.d % 16 ≠ x.b % 16 → x.d % 16 ≠ (x.b + 1) % 16 → Completes (.opBiq ln) s fun t =>
      s.posts t ln 8 (.reg (x.d % 16))
        (roundTo x.fixed (((valueOf x.fixed (s.coef k ptr)).mul (v x.a)).add (v x.b))).1.toNat ∧
      (x.pi = true → s.posts t ln 1 (.addr x.ar) ((ptr + 5) % 65536)) ∧ s.ReadFrame t k) ∧
    (x.op = 0x1E →
      let w := (roundTo x.fixed ((((v x.d).add (v x.a)).max (v x.b)).min (v (x.b + 1)))).1
      Completes (.opIntc ln) s fun t => s.posts t ln 3 (.reg (x.d % 16)) w.toNat ∧
        s.posts t ln 3 (.flag 6) (bit1 ((valueOf x.fixed w).eq (v (x.b + 1)))) ∧
        s.posts t ln 3 (.flag 7) (bit1 ((valueOf x.fixed w).eq (v x.b))) ∧ s.LaneFrame t k) ∧
    (x.op = 0x1F →
      let n := max 2 (min 2045 (s.coef k (ptr + 2)).toNat)
      let pt := fun i => ofSingle (s.coef k (ptr + 3 + i))
      (∀ (q : Rat) (z : Bool), (((ofSingle (g x.a)).add (ofSingle (s.coef k ptr)).neg).mul (ofSingle (s.coef k (ptr + 1)))).clamp
          (.ofRat 0) (.ofRat ((n - 1 : Nat) : Rat)) = .fin q z →
        Completes (.opInterp ln) s fun t =>
          (q = (q.floor.toNat : Rat) → s.posts t ln 6 (.reg (x.d % 16)) (roundSingle (pt q.floor.toNat)).1.toNat) ∧
          (q ≠ (q.floor.toNat : Rat) → s.posts t ln 6 (.reg (x.d % 16)) (roundSingle (((pt q.floor.toNat).mul
            (.ofRat (1 - (q - (q.floor.toNat : Rat))))).add ((pt (q.floor.toNat + 1)).mul (.ofRat (q - (q.floor.toNat : Rat)))))).1.toNat) ∧
          (x.pi = true → s.posts t ln 1 (.addr x.ar) ((ptr + (n + 3)) % 65536)) ∧ s.ReadFrame t k)) ∧
    (x.op = 0x20 → Completes (.opDiv ln) s fun t =>
      s.posts t ln 24 (.reg x.d) (roundSingle ((ofSingle (g x.a)).div (ofSingle (g x.b))).1).1.toNat ∧ s.LaneFrame t k) ∧
    (x.op = 0x21 → Completes (.opSqrt ln) s fun t =>
      s.posts t ln 20 (.reg x.d) (roundSingle (ofSingle (g x.a)).sqrt).1.toNat ∧ s.LaneFrame t k))

/-- The multiply-accumulate, loads, stores and the operations on the task (R123, R126, R131, R136, R139): in Q17.47 the accumulator takes
the product rounded to even at 2^−47, saturating; a load reads the memory that the lane sees, and one that meets a data word with an error
of one bit corrects and counts it, and the lanes owe a stall of 2 cycles (R138), which several corrections of a bundle add up to (the
model's choice: log entry 61); a store waits for the end of the cycle or, where the task may not write, sets ILL; END, SEV, BSWP and a
reserved code do what R126 says. -/
def Obligations.MillAccumulatorMemoryAndTask : Prop :=
  ∀ (s : State) (ln : Fin 4) (k : Nat) (x : Slot), s.issuing ln = some (k, x) → x.void = false → k < 8 → s.Shaped →
    let a := ((s.lane ln).get x.a).toInt
    let b := ((s.lane ln).get x.b).toInt
    let p : Int := ratRoundEven (((a * b : Int) : Rat) / ((2 ^ 15 : Nat) : Rat))
    let acc := (s.lane ln).accNext.q47
    let ptr := (s.lane ln).ptr x.ar
    let macs := fun (i : Instr) (y : Int) =>
      Completes i s fun t => s.posts t ln 1 .accNext (wrapTo 64 (satTo 64 y)) ∧ s.posts t ln 4 .acc (wrapTo 64 (satTo 64 y)) ∧
        s.LaneFrame t k ∧ (satTo 64 y ≠ y → t.on (F.MILL_TASKt_STAT_QSAT k) = true)
    (x.mac = 1 → x.fixed = true → macs (.macAccumulate ln) (acc + p)) ∧
    (x.mac = 2 → x.fixed = true → macs (.macSet ln) p) ∧
    (x.mac = 3 → x.fixed = true → macs (.macSubtract ln) (acc - p)) ∧
    (x.fixed = false →
      let fp := (ofSingle ((s.lane ln).get x.a)).mul (ofSingle ((s.lane ln).get x.b))
      let single := fun (i : Instr) (y : Flt) =>
        Completes i s fun t => s.posts t ln 1 .accNext (roundSingle y).1.toNat ∧ s.posts t ln 4 .acc (roundSingle y).1.toNat ∧ s.LaneFrame t k
      (x.mac = 1 → single (.macAccumulate ln) ((s.lane ln).accNext.single.add fp)) ∧
      (x.mac = 2 → single (.macSet ln) fp) ∧
      (x.mac = 3 → single (.macSubtract ln) ((s.lane ln).accNext.single.add fp.neg))) ∧
    (x.ls = 1 → Completes (.opLoad ln) s fun t =>
      s.posts t ln 3 (.reg x.l) (s.loadWord k ptr).toNat ∧ (x.pi = true → s.posts t ln 1 (.addr x.ar) ((ptr + 1) % 65536)) ∧
      s.ReadFrame t k ∧ t.rd (R.MILL_TASKt_STAT k) = s.rd (R.MILL_TASKt_STAT k) ∧
      (ptr < 0x2000 → dmemWord ptr ∈ s.mill.correctable →
        t.on F.MILL_STAT_ECC_CORR = true ∧ t.get F.MILL_STAT_CORR_CNT = min (s.get F.MILL_STAT_CORR_CNT + 1) 65535 ∧
        t.mill.owed = s.mill.owed + 2 ∧ t.mill.stall = s.mill.stall ∧ ¬ dmemWord ptr ∈ t.mill.correctable)) ∧
    (x.ls = 2 → s.mayStore k ptr = true → Completes (.opStore ln) s fun t =>
      t.mill.stores = s.mill.stores ++ [⟨ln, ptr, (s.lane ln).get x.l⟩] ∧
      (x.pi = true → s.posts t ln 1 (.addr x.ar) ((ptr + 1) % 65536)) ∧ s.LaneFrame t k ∧ t.regs = s.regs) ∧
    (x.ls = 2 → s.mayStore k ptr = false → Completes (.opStore ln) s fun t =>
      t.mill.stores = s.mill.stores ∧ t.on (F.MILL_TASKt_STAT_ILL k) = true ∧ s.LaneFrame t k) ∧
    (x.op = 0x22 → Completes (.opEnd ln) s fun t =>
      t.mill.ending = some k ∧ (t.task k).ended = true ∧ t.on (F.MILL_TASKt_STAT_ACTIVE k) = false ∧ s.LaneFrame t k) ∧
    (x.op = 0x23 → Completes (.opSev ln) s fun t => s.sent t 0x5E ∧ s.LaneFrame t k ∧ t.regs = s.regs) ∧
    (x.op = 0x24 → Completes (.opBswp ln) s fun t =>
      (t.task k).swap = (s.task k).swap ++ [s.count] ∧ s.LaneFrame t k ∧ t.regs = s.regs) ∧
    (0x25 ≤ x.op → Completes (.illegalOp ln) s fun t =>
      t.on (F.MILL_TASKt_STAT_ILL k) = true ∧ t.mill = s.mill ∧ s.LaneFrame t k)

/-- Frames and policies (R132, R133, R137 to R139, R142): the input instant fixes the view, with what is published by then, and takes the
swaps that were asked for in an earlier cycle, one and not several; a task starts at its offset with clean lanes, a policy acts with its
event, a program that runs off its end stops with ILL, and an uncorrectable word stops every task; the event of a task whose END has
executed comes in the cycle after it, when its lanes are free; in a cycle in which no task executes the scrub corrects and counts the word
that it reads, which one is free (the model's choice: log entry 61); the writes of MILL_TASKt_CTRL note the request that their bit makes,
with the cycle in which it arrived. -/
def Obligations.MillFrames : Prop :=
  (∀ (s : State) (k : Fin 8), s.Shaped → s.millRuns = true → (s.task k).inFrame = true → (s.task k).inputDone = false →
    s.due ((s.task k).start + 64) = true →
    Completes (.inputInstant k) s fun t =>
      (t.task k).inputDone = true ∧ (t.task k).view = s.publishWindows.regs ∧ s.clockKept t ∧ t.loom = s.loom ∧ t.mill = s.mill ∧
      (t.task k).swap = (s.task k).swap.filter (fun a => s.count ≤ a) ∧
      ((s.task k).revert = [] →
        t.on (F.MILL_TASKt_STAT_BANK k) = (s.on (F.MILL_TASKt_STAT_BANK k) != (s.task k).swap.any (· < s.count))) ∧
      (∀ j : Fin 8, j ≠ k → t.task j = s.task j)) ∧
  (∀ (s : State) (k : Fin 8), s.Shaped → s.policyDue k = true → s.policyOf k = 0 → s.on (F.MILL_TASKt_STAT_HOLDING k) = false →
    Completes (.policyHold k) s fun t =>
      t.on (F.MILL_TASKt_STAT_HOLDING k) = true ∧ (t.task k).skipped = true ∧ s.sent t 0x5C ∧ t.mill = s.mill ∧ t.loom = s.loom ∧
      t.clk = s.clk) ∧
  (∀ (s : State) (k : Fin 8), s.Shaped → s.policyDue k = true → s.policyOf k = 1 → s.on (F.MILL_TASKt_STAT_FALLBACK k) = false →
    Completes (.policyFallback k) s fun t =>
      t.on (F.MILL_TASKt_STAT_FALLBACK k) = true ∧ t.on (F.MILL_TASKt_STAT_BANK k) = s.on (F.MILL_TASKt_POL_FB_BANK k) ∧
      (t.task k).savedBank = s.get (F.MILL_TASKt_STAT_BANK k) ∧ s.sent t 0x5C ∧ t.mill = s.mill ∧ t.loom = s.loom ∧ t.clk = s.clk) ∧
  (∀ (s : State) (k : Fin 8), s.Shaped → s.policyDue k = true → s.policyOf k = 2 → s.on (F.MILL_TASKt_STAT_TRIPPED k) = false →
    Completes (.policyTrip k) s fun t =>
      t.on (F.MILL_TASKt_STAT_TRIPPED k) = true ∧ (t.task k).skipped = true ∧ s.sent t 0x5D ∧ s.clockKept t ∧
      (∀ l : Fin 24, (s.legsOf k).testBit l = true →
        t.on (F.LOOM_LEGl_STAT_BLOCKED l) = true ∧ t.on (F.LOOM_LEGl_STAT_MILL l) = true ∧ (t.leg l).outH = false ∧ (t.leg l).outL = false) ∧
      (∀ l : Fin 24, (s.legsOf k).testBit l = false → t.leg l = s.leg l)) ∧
  (∀ (s : State) (k : Fin 8), s.Shaped → s.millRuns = true → (s.task k).inFrame = true → (s.task k).inputDone = true →
    (s.task k).started = false → s.due ((s.task k).start + s.taskOffset k) = true → s.mayRun k = true → s.mill.running = none →
    Completes (.taskStart k) s fun t =>
      (t.task k).started = true ∧ t.mill.running = some k.val ∧ t.mill.pc = s.get (F.MILL_TASKt_ENTRY_ENTRY k) ∧
      t.mill.lanes = List.replicate 4 {} ∧ t.on F.MILL_STAT_BUSY = true ∧ t.mill.dmem = s.mill.dmem ∧
      (∀ b, b ≠ R.MILL_STAT → t.rd b = s.rd b) ∧ t.clk = s.clk ∧ t.loom = s.loom) ∧
  (∀ (s : State) (k : Fin 8), s.Shaped → s.mill.running = some k.val → 4096 ≤ s.mill.pc → s.mill.ending = none →
    Completes .programEndReached s fun t =>
      t.mill.running = none ∧ t.on (F.MILL_TASKt_STAT_ILL k) = true ∧ (t.task k).ended = (s.task k).ended ∧ t.mill.dmem = s.mill.dmem ∧
      t.clk = s.clk ∧ t.loom = s.loom) ∧
  (∀ s : State, s.coreRuns = true → s.Shaped →
    Completes .millEccFatal s fun t => t.on F.MILL_STAT_ECC_FATAL = true ∧ t.mill.running = none ∧ t.mode = .limp ∧
      (s.switching = true → t.legsOff) ∧ s.clockKept t ∧ t.otp = s.otp) ∧
  (∀ (s : State) (k : Fin 8), s.pending = [] → s.coreRuns = true → s.mill.ending = some k.val →
    ∃ t, step s = .next t ∧ t.mill.running = none ∧ t.mill.ending = none ∧ t.on F.MILL_STAT_BUSY = false ∧
      ∃ e ∈ t.events, e.src = 0x50 + k.val ∧ e.count = t.clk.count) ∧
  (∀ s : State, s.mill.running = none → s.mill.correctable.contains (Config.millScrub s.draws) = true →
    s.millScrub.on F.MILL_STAT_ECC_CORR = true ∧ s.millScrub.get F.MILL_STAT_CORR_CNT = min (s.get F.MILL_STAT_CORR_CNT + 1) 65535 ∧
    ¬ Config.millScrub s.draws ∈ s.millScrub.mill.correctable ∧ s.millScrub.mill.dmem = s.mill.dmem ∧
    (∀ b, b ≠ R.MILL_STAT → s.millScrub.rd b = s.rd b)) ∧
  (∀ (s : State) (w : World) (k : Fin 8) (v : Word), s.Shaped →
    (s.accepts w (R.MILL_TASKt_CTRL k) (v ||| 2) → Completes (.swapWrite w k v) s fun t =>
      (t.task k).swap = (s.task k).swap ++ [s.count] ∧ t.regs = s.regs ∧ t.mill = s.mill) ∧
    (s.accepts w (R.MILL_TASKt_CTRL k) (v ||| 1) → Completes (.resumeWrite w k v) s fun t =>
      (t.task k).resume = (s.task k).resume ++ [s.count] ∧ t.regs = s.regs ∧ t.mill = s.mill) ∧
    (s.accepts w (R.MILL_TASKt_CTRL k) (v ||| 4) → Completes (.revertWrite w k v) s fun t =>
      (t.task k).revert = (s.task k).revert ++ [s.count] ∧ t.regs = s.regs ∧ t.mill = s.mill))

/-! ### Memories, DMA and the event matrix -/

/-- The scrubber and the refresh (R347, R348, R352): every 128 cycles the next SRAM word is read, a single wrong bit is corrected and
counted, two wrong bits are recorded with their address and send the device to LIMP, and a pass ends after 524,288 words; a refresh, due
every 24 h, adds its corrections, gives a line that fails its verification a spare while there is one, and captures a word that it cannot
correct. That the refresh is one command, with its findings as operands, is the model's choice (log entry 61). The event matrix (R372,
R374): an event waits two cycles and then reaches its sink: a DMA channel whose TRIG is on starts, a task's coefficient swap is asked for,
and a capture unit takes the event's time; EVT_FORCE in SERVICE puts one event on its way to the sink that it names, which it reaches in
the next cycle. -/
def Obligations.MemoryUpkeepAndEvents : Prop :=
  (∀ s : State, s.coreRuns = true → s.count % 128 = 0 → s.mem.scrubNext < 524288 → ¬ 4 * s.mem.scrubNext ∈ s.mem.sramBad →
    ¬ 4 * s.mem.scrubNext ∈ s.mem.sramCorrectable →
    let next := if s.mem.scrubNext = 524287 then 0 else s.mem.scrubNext + 1
    let passes := if s.mem.scrubNext = 524287 then (s.get F.WLD_ECC_PASSES + 1) % 256 else s.get F.WLD_ECC_PASSES
    (Completes (.scrubCycle 0) s fun t =>
      t.mem = { s.mem with scrubNext := next } ∧ t.get F.WLD_ECC_PASSES = passes ∧ t.get F.WLD_ECC_CE = s.get F.WLD_ECC_CE ∧
      (∀ b, b ≠ R.WLD_ECC → t.rd b = s.rd b) ∧ t.clk = s.clk) ∧
    (Completes (.scrubCycle 1) s fun t =>
      t.mem = { s.mem with scrubNext := next } ∧ t.get F.WLD_ECC_PASSES = passes ∧
      t.get F.WLD_ECC_CE = min (s.get F.WLD_ECC_CE + 1) 65535 ∧ (∀ b, b ≠ R.WLD_ECC → t.rd b = s.rd b) ∧ t.clk = s.clk) ∧
    (s.on F.WLD_ECC_UE = false → Completes (.scrubCycle 2) s fun t =>
      t.mem.scrubNext = next ∧ 4 * s.mem.scrubNext ∈ t.mem.sramBad ∧ t.mem.sram = s.mem.sram ∧ t.on F.WLD_ECC_UE = true ∧
      t.rd R.WLD_ECC_ADDR = BitVec.ofNat 32 (0x10000000 + 4 * s.mem.scrubNext) ∧ t.mode = .limp ∧ s.clockKept t)) ∧
  (∀ (s : State) (corrected worn bad : List Nat), s.due s.mem.refreshAt = false → exec (.mramRefresh corrected worn bad) s = .next s) ∧
  (∀ (s : State) (corrected : List Nat), s.sys.phase = .run → s.due s.mem.refreshAt = true → s.mem.worn = [] →
    Completes (.mramRefresh corrected [] []) s fun t =>
      t.get F.WLD_MRAM_REFRESH = min 255 (s.get F.WLD_MRAM_REFRESH + corrected.length) ∧ t.mem.mram = s.mem.mram ∧
      t.mem.spares = s.mem.spares ∧ t.mem.refreshAt = s.count + 24 * 3600 * 400000000 ∧ t.mem.sram = s.mem.sram ∧
      (∀ b, b ≠ R.WLD_MRAM → t.rd b = s.rd b) ∧ t.clk = s.clk) ∧
  (∀ (s : State) (l : Fin 32768), s.sys.phase = .run → s.due s.mem.refreshAt = true → s.mem.worn = [] → s.mem.spares ≤ 512 →
    Completes (.mramRefresh [l.val] [l.val] []) s fun t =>
      (s.mem.spares < 512 → t.mem.spares = s.mem.spares + 1 ∧ t.mem.worn = []) ∧
      (s.mem.spares = 512 → t.mem.spares = 512 ∧ t.mem.worn = [l.val]) ∧
      getBits (t.shown R.WLD_MRAM) 0 10 = t.mem.spares ∧ bitAt (t.shown R.WLD_MRAM) 16 = decide (t.mem.spares = 512) ∧
      (∀ a, memGet t.mem.mram a = memGet s.mem.mram a) ∧ (∀ b, b ≠ R.WLD_MRAM → t.rd b = s.rd b) ∧ t.clk = s.clk) ∧
  (∀ (s : State) (o : Fin 1048576), s.sys.phase = .run → s.due s.mem.refreshAt = true → s.on F.WLD_FAULT_INFO_VALID = false →
    Completes (.mramRefresh [] [] [8 * o.val]) s fun t =>
      8 * o.val ∈ t.mem.mramBad ∧ t.mem.mram = s.mem.mram ∧ t.rd R.WLD_FAULT_ADDR = BitVec.ofNat 32 (0x20000000 + 8 * o.val) ∧
      t.on F.WLD_FAULT_INFO_VALID = true ∧ t.get F.WLD_FAULT_INFO_REASON = 6 ∧ t.clk = s.clk) ∧
  (∀ (s : State) (e : Raised) (rest : List Raised), s.events = e :: rest → s.due (e.count + 2).toNat = false →
    exec .eventDelivery s = .next s) ∧
  (∀ (s : State) (e : Raised) (rest : List Raised) (k : Nat), s.coreRuns = true → s.events = e :: rest → s.due (e.count + 2).toNat = true →
    (∀ r ∈ rest, r.count ≠ e.count) → e.sinks = [k] →
    (∀ n : Fin 16, s.Shaped → k = 0x28 + n.val → s.on (F.DMA_CHn_CFG_TRIG n) = true → s.on (F.DMA_CHn_CFG_EN n) = true →
      (s.dmaCh n).xfer = none → (s.dmaCh n).trigAt ≠ some s.count →
      Completes .eventDelivery s fun t =>
        t.events = rest ∧ (t.dmaCh n).xfer = some (s.dmaTransfer n) ∧ t.regs = s.regs ∧ t.mem = s.mem ∧ t.clk = s.clk) ∧
    (∀ j : Fin 8, s.Shaped → k = 0x08 + j.val →
      Completes .eventDelivery s fun t =>
        t.events = rest ∧ (t.task j).swap = (s.task j).swap ++ [s.count] ∧ (∀ i : Fin 8, i ≠ j → t.task i = s.task i) ∧
        t.regs = s.regs ∧ t.clk = s.clk) ∧
    (∀ n : Fin 8, s.Shaped → k = n.val → s.on (F.CLK_CAPn_CTRL_EN n) = true →
      Completes .eventDelivery s fun t =>
        t.events = rest ∧ t.rd (R.CLK_CAPn_LO n) = e.count.setWidth 32 ∧ nth t.clk.capHi n 0 = (e.count >>> 32).setWidth 32 ∧
        t.get (F.CLK_CAPn_CTRL_FINE n) = e.fine.toNat ∧ t.on (F.CLK_CAPn_CTRL_VALID n) = true ∧
        (s.on (F.CLK_CAPn_CTRL_VALID n) = true → t.on (F.CLK_CAPn_CTRL_OVR n) = true) ∧ t.clk.count = s.clk.count)) ∧
  (∀ (s : State) (w : World) (v : Word), s.accepts w R.EVT_FORCE (v ||| 0x80) →
    (s.inService = false → Completes (.eventForce w v) s fun t => s.unmoved t) ∧
    (s.inService = true → Completes (.eventForce w v) s fun t =>
      (∃ e ∈ t.events, e.sinks = [getBits v 0 7] ∧ e.count + 2 = s.clk.count + 1) ∧ t.events.length = s.events.length + 1 ∧
      (∀ e ∈ s.events, e ∈ t.events) ∧ t.regs = s.regs ∧ t.tasks = s.tasks ∧ t.dma = s.dma ∧ t.clk = s.clk))

/-- DMA channels (R366 to R371): GO starts an armed channel with the transfer that its registers give, is lost with TOVR on a busy one,
and does nothing on one that is not armed or that a trigger of the same cycle has reached; ABORT disarms the channel, CFG is held while EN
is 1 but for a write that clears EN; a read beat takes the word of its source address, a write beat stores the bytes of the range at its
destination, the last one ends the transfer and disarms the channel, or leaves it armed with REARM, and a read where nothing stands stops
the channel with its cause and address; an ABORT in the middle of a beat waits for its write. The beats here read and write SRAM words
with no error, and have their port. That a running channel's CFG is held in silence, that a clear of EN aborts it, and that a write goes
before the next read are DEDUCED (log entries 19, 75). -/
def Obligations.DmaTransfers : Prop :=
  (∀ (s : State) (w : World) (n : Fin 16) (v : Word), s.Shaped → s.accepts w (R.DMA_CHn_CTRL n) (v ||| 1) → bitAt v 1 = false →
    (s.on (F.DMA_CHn_CFG_EN n) = true → (s.dmaCh n).trigAt ≠ some s.count → (s.dmaCh n).xfer = none → Completes (.dmaGo w n v) s fun t =>
      (∃ x, (t.dmaCh n).xfer = some x ∧ x.reads = 0 ∧ x.writes = 0 ∧ x.words = [] ∧
        let src := (s.rd (R.DMA_CHn_SRC n)).toNat
        let dst := (s.dmaCh n).ringNext.getD (s.rd (R.DMA_CHn_DST n)).toNat
        let len := s.get (F.DMA_CHn_LEN_LEN_M1 n) + 1
        if s.on (F.DMA_CHn_CFG_SINC n) = true ∧ s.on (F.DMA_CHn_CFG_DINC n) = true then x.src = src ∧ x.dst = dst ∧ x.len = len
        else x.src = src / 4 * 4 ∧ x.dst = dst / 4 * 4 ∧ x.len = (len + 3) / 4 * 4) ∧
      (s.perturbs 4 = false → (t.dmaCh n).grantAt = s.count + 1) ∧
      (∀ j : Fin 16, j ≠ n → t.dmaCh j = s.dmaCh j) ∧ t.regs = s.regs ∧ t.mem = s.mem ∧ t.clk = s.clk) ∧
    (s.on (F.DMA_CHn_CFG_EN n) = true → (s.dmaCh n).trigAt ≠ some s.count → (s.dmaCh n).xfer.isSome = true → Completes (.dmaGo w n v) s fun t =>
      t.on (F.DMA_CHn_STAT_TOVR n) = true ∧ (t.dmaCh n).xfer = (s.dmaCh n).xfer ∧ (∀ j : Fin 16, j ≠ n → t.dmaCh j = s.dmaCh j) ∧
      (∀ b, b ≠ R.DMA_CHn_STAT n → t.rd b = s.rd b) ∧ t.mem = s.mem ∧ t.clk = s.clk) ∧
    (s.on (F.DMA_CHn_CFG_EN n) = false ∨ (s.dmaCh n).trigAt = some s.count → Completes (.dmaGo w n v) s fun t => s.unmoved t)) ∧
  (∀ (s : State) (w : World) (n : Fin 16) (v : Word), s.Shaped → s.accepts w (R.DMA_CHn_CTRL n) (v ||| 2) → bitAt v 0 = false →
    ((∀ x, (s.dmaCh n).xfer = some x → x.inHand = false) → Completes (.dmaAbort w n v) s fun t =>
      (t.dmaCh n).xfer = none ∧ t.on (F.DMA_CHn_CFG_EN n) = false ∧ (t.dmaCh n).ended = (s.dmaCh n).ended ∧ t.events = s.events ∧
      (∀ b, b ≠ R.DMA_CHn_CFG n → t.rd b = s.rd b) ∧ t.mem = s.mem ∧ t.clk = s.clk) ∧
    (∀ x, (s.dmaCh n).xfer = some x → x.inHand = true → Completes (.dmaAbort w n v) s fun t =>
      (t.dmaCh n).xfer = some { x with stopping := true } ∧ t.regs = s.regs ∧ t.events = s.events ∧ t.mem = s.mem ∧ t.clk = s.clk)) ∧
  (∀ (s : State) (w : World) (n : Fin 16) (v : Word), s.Shaped → s.accepts w (R.DMA_CHn_CFG n) v →
    (s.on (F.DMA_CHn_CFG_EN n) = false → Completes (.dmaCfgWrite w n v) s fun t =>
      t.rd (R.DMA_CHn_CFG n) = s.stored (R.DMA_CHn_CFG n) v ∧ t.dma = s.dma ∧
      (∀ b, b ≠ R.DMA_CHn_CFG n → t.rd b = s.rd b) ∧ t.mem = s.mem ∧ t.clk = s.clk) ∧
    (s.on (F.DMA_CHn_CFG_EN n) = true → bitAt v 0 = true → Completes (.dmaCfgWrite w n v) s fun t => s.unmoved t) ∧
    (s.on (F.DMA_CHn_CFG_EN n) = true → bitAt v 0 = false → (∀ x, (s.dmaCh n).xfer = some x → x.inHand = false) →
      Completes (.dmaCfgWrite w n v) s fun t =>
      (t.dmaCh n).xfer = none ∧ t.on (F.DMA_CHn_CFG_EN n) = false ∧ (∀ b, b ≠ R.DMA_CHn_CFG n → t.rd b = s.rd b) ∧ t.mem = s.mem ∧
      t.clk = s.clk)) ∧
  (∀ (s : State) (n : Fin 16) (x : DmaXfer) (o : Nat), s.Shaped → s.coreRuns = true → (s.dmaCh n).xfer = some x →
    x.ready s.count = false → x.stopping = false → x.reads < x.readCount → s.due (s.dmaCh n).grantAt = true →
    s.dmaFrom n x = 0x10000000 + 4 * o → o < 0x60000 → s.portFree n (0x10000000 + 4 * o) = true →
    s.regionAllows (s.dmaWorld n) false (0x10000000 + 4 * o) = true → ¬ 4 * o ∈ s.mem.sramBad → ¬ 4 * o ∈ s.mem.sramCorrectable →
    Completes (.dmaBeat n 0) s fun t =>
      (t.dmaCh n).xfer = some { x with
        reads := x.reads + 1, words := x.words ++ [memWord s.mem.sram (4 * o)], readAt := x.readAt ++ [s.count] } ∧
      (s.perturbs 4 = false → x.reads + 1 < x.readCount → (t.dmaCh n).grantAt = s.count + 1) ∧ (∀ j : Fin 16, j ≠ n → t.dmaCh j = s.dmaCh j) ∧
      t.regs = s.regs ∧ t.mem = s.mem ∧ t.clk = s.clk) ∧
  (∀ (s : State) (n : Fin 16) (x : DmaXfer) (o : Nat), s.Shaped → s.Canonical → s.coreRuns = true →
    (s.dmaCh n).xfer = some x → x.ready s.count = true → s.dmaDest n x x.writes = 0x10000000 + 4 * o → o < 0x60000 →
    s.portFree n (0x10000000 + 4 * o) = true →
    s.regionAllows (s.dmaWorld n) true (0x10000000 + 4 * o) = true → ¬ 4 * o ∈ s.mem.sramBad → ¬ 4 * o ∈ s.mem.sramCorrectable →
    Completes (.dmaBeat n 0) s fun t =>
      (∀ i : Fin 4, memGet t.mem.sram (4 * o + i) = match (x.lanes x.writes).find? (fun l => l.1 == i.val) with
        | some l => x.byte l.2
        | none => memGet s.mem.sram (4 * o + i)) ∧
      (∀ a, a < 4 * o ∨ 4 * o + 4 ≤ a → memGet t.mem.sram a = memGet s.mem.sram a) ∧
      t.mem.mram = s.mem.mram ∧ t.clk = s.clk ∧ t.events = s.events ∧ (∀ j : Fin 16, j ≠ n → t.dmaCh j = s.dmaCh j) ∧
      (x.writes + 1 ≠ x.writeCount → x.stopping = false → t.regs = s.regs ∧ (s.perturbs 4 = false →
        (t.dmaCh n).xfer = some { x with writes := x.writes + 1, wroteAt := some s.count, hold := 0 })) ∧
      (x.writes + 1 ≠ x.writeCount → x.stopping = true → ({ x with writes := x.writes + 1 } : DmaXfer).inHand = false →
        (t.dmaCh n).xfer = none ∧ t.on (F.DMA_CHn_CFG_EN n) = false ∧ (t.dmaCh n).ended = (s.dmaCh n).ended) ∧
      (x.writes + 1 = x.writeCount → (t.dmaCh n).xfer = none ∧ (t.dmaCh n).ended = true ∧
        (s.on (F.DMA_CHn_CFG_REARM n) = false → s.writtenNow (F.DMA_CHn_CFG_EN n) = false → t.on (F.DMA_CHn_CFG_EN n) = false) ∧
        (s.on (F.DMA_CHn_CFG_REARM n) = true → t.regs = s.regs))) ∧
  (∀ (s : State) (n : Fin 16) (x : DmaXfer), s.Shaped → s.coreRuns = true → (s.dmaCh n).xfer = some x → x.ready s.count = false →
    x.stopping = false → x.reads < x.readCount → s.due (s.dmaCh n).grantAt = true → regionOf (s.dmaFrom n x / 4 * 4) = .none →
    regionOf (s.dmaFrom n x) = .none → s.writtenNow (F.DMA_CHn_CFG_EN n) = false →
    Completes (.dmaBeat n 0) s fun t =>
      (t.dmaCh n).xfer = none ∧ t.on (F.DMA_CHn_CFG_EN n) = false ∧ t.on (F.DMA_CHn_STAT_ERR n) = true ∧
      t.get (F.DMA_CHn_STAT_CAUSE n) = 3 ∧ t.rd (R.DMA_CHn_EADDR n) = BitVec.ofNat 32 (s.dmaFrom n x / 4 * 4) ∧ t.mem = s.mem ∧
      t.events = s.events ∧ t.clk = s.clk)

/-! ### The Steward and its links -/

/-- The checks of R325, for every command packet: a full reply queue discards it, a SEQ ahead of the next one is a gap, a SEQ not newer
that no held reply answers is a duplicate, a mode that does not take the opcode is a conflict, a Secure command in WORLD 0 is refused, and
so is a payload of another length than its fixed one. None of them changes what `State.OnlySteward` lists. -/
def Obligations.PacketsAreChecked : Prop :=
  ∀ (i : Link → Hdr → List Byte → Instr) (op : Nat), PacketOp i op → ∀ (s : State) (l : Link) (h : Hdr) (p : List Byte),
    hdrFits h p = true → s.serves l = true →
    (s.rxFull .uart = true → l = .uart → Completes (i .uart h p) s fun t => s.unmoved t) ∧
    (s.rxFull .spi = true → l = .spi → Completes (i .spi h p) s fun t =>
      (t.link .spi).discards = (s.link .spi).discards + 1 ∧ (t.link .spi).history = (s.link .spi).history ∧
      (t.link .spi).tx = (s.link .spi).tx ∧ s.OnlySteward t) ∧
    (s.rxFull l = false →
      let refuses := fun (r : Reply) (last : BitVec 16) =>
        Completes (i l h p) s fun t => s.answers t l h r ∧ (t.link l).last = last ∧ s.OnlySteward t
      (s.limpTakes op = false → keepsL op = false →
        ((s.link l).hello = false → refuses { status := Status.seqGap, detail := 2 ^ 31 } (s.link l).last) ∧
        ((s.link l).hello = true → newer 16 h.seq.toNat ((s.link l).last + 1).toNat = true → h.seq ≠ (s.link l).last + 1 →
          refuses { status := Status.seqGap, detail := ((s.link l).last + 1).toNat } (s.link l).last) ∧
        ((s.link l).hello = true → newer 16 h.seq.toNat ((s.link l).last + 1).toNat = false → h.seq ≠ (s.link l).last + 1 →
          (∀ e ∈ (s.link l).history, e.cmdSeq ≠ h.seq) →
          refuses { status := Status.duplicate, detail := (s.link l).last.toNat } (s.link l).last)) ∧
      (s.seqStep l (hdrCmd h op p) = .go →
        (s.modeAccepts op = false →
          refuses { status := Status.modeConflict, detail := s.mode.code } (if keepsL op then (s.link l).last else h.seq)) ∧
        (s.modeAccepts op = true → op ∈ secureOps → h.world = .nonSecure → h.tag = none → s.limpTakes op = false →
          refuses { status := Status.worldDenied } h.seq) ∧
        (s.modeAccepts op = true → s.worldStep l (hdrCmd h op p) = none → ∀ n, lenRule op p = some (.fixed n) → p.length ≠ n →
          refuses { status := Status.badLen, detail := n } (s.link l).last)))

/-- Group 0x00 (R322, R327, R329, R335, R336): HELLO makes the link ready at its SEQ without a session, SYNC and OP_STATUS report, REPLAY
sends held replies again, a session opens with a key that OTP holds and closes, and PORT_SET plans a rate. That a HELLO that is refused
changes nothing else and that AUTH_FAIL counts without a session are DEDUCED (log entry 48), and so is REPLAY of a FIRST older than all
that is held (log entry 50); the replies that wait for room in a full queue are the model's choice (log entry 49). -/
def Obligations.LinkCommands : Prop :=
  ∀ (s : State) (l : Link) (h : Hdr) (p : List Byte),
    (s.Passes 0x0001 l h p → fieldLe p 0 2 = 1 → (s.link l).session = none → s.cfg.fwAborted = none → Completes (.hello l h p) s fun t =>
      s.gives t l h (s.helloData) ∧ (t.link l).hello = true ∧ (t.link l).last = h.seq ∧ (t.link l).session = none ∧
      (t.link l).history.length = 1 ∧ (t.link l).lastAck = h.ack ∧ s.OnlySteward t) ∧
    (s.Passes 0x0001 l h p → fieldLe p 0 2 ≠ 1 → Completes (.hello l h p) s fun t =>
      s.answers t l h { status := Status.invalidParam, detail := 0 } ∧ (t.link l).hello = (s.link l).hello ∧
      (t.link l).last = (s.link l).last ∧ s.OnlySteward t) ∧
    (s.Passes 0x0002 l h p → (s.link l).hello = true → Completes (.sync l h p) s fun t =>
      s.gives t l h (leBytes 2 (s.link l).last.toNat ++ leBytes 2 ((s.link l).nextReply - 1).toNat ++
        leBytes 2 (s.oldestHeld l).toNat ++ leBytes 2 h.ack.toNat ++ leBytes 4 (crc32c (s.stateBlock l)).toNat ++ s.stateBlock l) ∧
      (t.link l).last = (s.link l).last ∧ s.OnlySteward t) ∧
    (s.Passes 0x0003 l h p → 1 ≤ byteAt p 2 → byteAt p 2 ≤ 64 →
      newer 16 (fieldLe p 0 2) ((s.link l).nextReply - 1).toNat = false →
      let es := replayed (s.link l).history (BitVec.ofNat 16 (fieldLe p 0 2)) (byteAt p 2)
      Completes (.replay l h p) s fun t =>
        s.gives t l h (leBytes 1 es.length ++ zeros 1 ++ leBytes 2 (s.oldestHeld l).toNat) ∧
        t.repliesWaiting l = s.repliesWaiting l + es.length + 1 ∧ (t.link l).last = (s.link l).last ∧ s.OnlySteward t) ∧
    (s.Passes 0x0004 l h p → Completes (.opStatus l h p) s fun t =>
      s.gives t l h (leBytes 2 s.stew.longOp.asked.opcode ++ leBytes 2 s.stew.longOp.asked.seq.toNat ++
        leBytes 1 s.stew.longOp.state ++ zeros 3 ++ leBytes 2 s.stew.longOp.status ++ zeros 2 ++ leBytes 4 s.stew.longOp.detail) ∧
      (t.link l).last = h.seq ∧ s.OnlySteward t) ∧
    (s.Passes 0x0005 l h p → s.coreRuns = true → (s.link l).blockedAt = none → ∀ key, s.sessionKey (byteAt p 0) = some key →
      Completes (.sessionOpen l h p) s fun t =>
        (∃ x, (t.link l).session = some x ∧ x.ctr = 0 ∧ x.touched = s.count ∧
          ∃ nonce : List Byte, nonce.length = 16 ∧ x.ks = hmac256 key (ascii "ITSAR-SES" ++ ((p.drop 4).take 16 ++ nonce)) ∧
            s.gives t l h (nonce ++ (hmac256 key (ascii "ITSAR-DEV" ++ ((p.drop 4).take 16 ++ nonce))).take 16)) ∧
        s.sent t 0xFC ∧ s.OnlySteward t) ∧
    (s.Passes 0x0005 l h p → (s.link l).blockedAt = none → s.sessionKey (byteAt p 0) = none → (s.link l).authFails < 2 →
      Completes (.sessionOpen l h p) s fun t =>
        s.answers t l h { status := Status.authFail } ∧ (t.link l).session = (s.link l).session ∧
        (t.link l).authFails = (s.link l).authFails + 1 ∧ s.OnlySteward t) ∧
    (s.Passes 0x0006 l h p → s.coreRuns = true → (s.link l).session.isSome = true → Completes (.sessionClose l h p) s fun t =>
      s.answers t l h {} ∧ (t.link l).session = none ∧ s.sent t 0xFC ∧ s.OnlySteward t) ∧
    (s.Passes 0x0007 l h p → 9600 ≤ fieldLe p 0 4 → fieldLe p 0 4 ≤ 3000000 → Completes (.portSet l h p) s fun t =>
      s.gives t l h (leBytes 4 (baudRate (fieldLe p 0 4))) ∧
      t.stew.baudNext = some (baudRate (fieldLe p 0 4), l, (s.link l).nextReply) ∧ t.stew.baud = s.stew.baud ∧ s.OnlySteward t)

/-- Groups 0x01 and 0x02 (R333, R337, R345, R375, R376, R379, R384): a register is read as the bus shows it and written through the checks
of the bus, here one pair of those two blocks whose writes store and no more, with its result byte, and one pair at any register where a
check stops it, the state block is reported, MODE_SET takes the transitions that R375 allows, LTR_SET gives the policy its tolerance, and
RESET is due 1 ms later. -/
def Obligations.RegisterAndModeCommands : Prop :=
  ∀ (s : State) (l : Link) (h : Hdr) (p : List Byte),
    (∀ a, s.Passes 0x0101 l h p → fieldLe p 0 4 = a → fieldLe p 4 2 = 1 → a % 4 = 0 → regionOf a = .block →
      Completes (.regRead l h p) s fun t =>
        s.gives t l h (leBytes 4 (s.shown a).toNat) ∧ t.regs = (s.readEffect a).regs ∧ t.mem.sram = s.mem.sram ∧
        t.loom = s.loom) ∧
    (∀ a v, s.Passes 0x0102 l h p → fieldLe p 0 2 = 1 → fieldLe p 4 4 = a → BitVec.ofNat 32 (fieldLe p 8 4) = v → a % 4 = 0 →
      regionOf a = .block →
      (blockIndex a = 14 ∨ blockIndex a = 15 → a ≠ R.EVT_FORCE → a ≠ R.WLD_BLKWORLD → s.accepts h.world a v →
        Completes (.regWrite l h p) s fun t =>
          s.gives t l h ([0]) ∧ t.rd a = s.stored a v ∧ (∀ b, b ≠ a → t.rd b = s.rd b) ∧ t.mem.sram = s.mem.sram ∧
          s.clockKept t) ∧
      (s.checkWrite h.world a v = .locked → s.frozenWhole a = true → Completes (.regWrite l h p) s fun t =>
        s.answers t l h { detail := 1, data := [1] } ∧ s.OnlySteward t) ∧
      (s.checkWrite h.world a v = .world → Completes (.regWrite l h p) s fun t =>
        s.answers t l h { status := Status.worldDenied, detail := a } ∧
        (∀ b, b ≠ R.WLD_FAULT_ADDR → b ≠ R.WLD_FAULT_INFO → t.rd b = s.rd b) ∧ t.mem.sram = s.mem.sram ∧ s.clockKept t) ∧
      (s.checkWrite h.world a v = .mode → Completes (.regWrite l h p) s fun t =>
        s.answers t l h { status := Status.modeConflict, detail := s.modeDetail a } ∧ s.OnlySteward t) ∧
      (s.checkWrite h.world a v = .unlisted → Completes (.regWrite l h p) s fun t =>
        s.answers t l h { detail := 1, data := [2] } ∧ s.OnlySteward t)) ∧
    (s.Passes 0x0201 l h p → Completes (.status l h p) s fun t =>
      s.gives t l h (s.stateBlock l ++ leBytes 2 h.seq.toNat ++ leBytes 2 ((s.link l).nextReply - 1).toNat ++
        leBytes 4 (crc32c (s.stateBlock l)).toNat) ∧ s.OnlySteward t) ∧
    (s.Passes 0x0202 l h p → s.Shaped →
      (s.mode = .ready → byteAt p 0 = 5 → Completes (.modeSet l h p) s fun t =>
        t.mode = .service ∧ s.gives t l h (leBytes 1 5 ++ zeros 3) ∧ t.get F.SYS_MODE_PREV = 2 ∧
        t.on F.LOOM_STAT_OUT_EN = true ∧ s.sent t 0xFB) ∧
      (s.mode = .ready → byteAt p 0 = 3 → s.on F.CLK_STAT_SYN0_LOCKED = true → s.on F.ACQ_STAT_CAL_DONE = true →
        s.on F.LOOM_DLL_LOCKED = true → Completes (.modeSet l h p) s fun t =>
          t.mode = .run ∧ s.gives t l h (leBytes 1 3 ++ zeros 3) ∧ t.get F.SYS_MODE_PREV = 2 ∧
          t.on F.LOOM_STAT_OUT_EN = true ∧ s.sent t 0xFB) ∧
      (s.mode = .run ∨ s.mode = .service → byteAt p 0 = 2 → Completes (.modeSet l h p) s fun t =>
        t.mode = .ready ∧ s.gives t l h (leBytes 1 2 ++ zeros 3) ∧ t.get F.SYS_MODE_PREV = s.mode.code ∧ t.legsOff ∧
        t.on F.LOOM_STAT_OUT_EN = false ∧ s.sent t 0xFB) ∧
      (s.mode = .run → byteAt p 0 = 5 → Completes (.modeSet l h p) s fun t =>
        s.answers t l h { status := Status.modeConflict, detail := 3 } ∧ s.OnlySteward t)) ∧
    (∀ n, s.Passes 0x0203 l h p → fieldLe p 0 4 = n → s.coreRuns = true →
      (n < 2000 → Completes (.ltrSet l h p) s fun t =>
        s.gives t l h (leBytes 1 2 ++ leBytes 1 s.vetoes ++ zeros 2) ∧ t.rd R.SYS_LTR = BitVec.ofNat 32 n ∧
        (∀ b, b ≠ R.SYS_LTR → t.rd b = s.rd b) ∧ s.clockKept t) ∧
      (2000 ≤ n → n < 180000 → s.dozeVetoes = 0 → s.mode = .ready → s.on F.SYS_PWR_STAT_HOLDING = false → s.dropWaits = false →
        Completes (.ltrSet l h p) s fun t =>
          s.gives t l h (leBytes 1 1 ++ leBytes 1 s.vetoes ++ zeros 2) ∧ t.rd R.SYS_LTR = BitVec.ofNat 32 n ∧
          t.mode = .doze)) ∧
    (s.Passes 0x0204 l h p → byteAt p 0 = 0 → Completes (.reset l h p) s fun t =>
      s.answers t l h {} ∧ t.sys = { s.sys with resetDue := some (s.count + 400000) } ∧ t.regs = s.regs ∧ s.clockKept t ∧ t.loom = s.loom)

/-- Groups 0x03 and 0x04 (R139, R140, R142, R146 to R148, R336, R338): images are staged byte by byte, a commit whose image is whole,
permitted and admitted waits in phase two with the live configuration as it was, a broken one ends at once, and a swap or resume is asked
for each task of its mask. That phase two follows phase one as an operation of its own, and the order of the checks of phase one, are
DEDUCED (log entry 51), as are PROG_COMMIT's DETAIL 12 for a wrong CRC and the tasks that it halts (log entry 52). -/
def Obligations.ConfigurationCommands : Prop :=
  ∀ (s : State) (l : Link) (h : Hdr) (p : List Byte),
    (s.Passes 0x0301 l h p → fieldLe p 0 4 + (p.drop 4).length ≤ 131072 → Completes (.cfgWrite l h p) s fun t =>
      s.answers t l h {} ∧ (∀ j, memGet t.stew.cfgStage j = if fieldLe p 0 4 ≤ j ∧ j < fieldLe p 0 4 + (p.drop 4).length
        then (p.drop 4).getD (j - fieldLe p 0 4) 0 else memGet s.stew.cfgStage j) ∧ s.OnlySteward t) ∧
    (∀ d, s.Passes 0x0302 l h p → s.policyRests → imageFault (memBytes s.stew.cfgStage 0 (min (fieldLe p 4 4) 131072)) (fieldLe p 4 4)
      (fieldLe p 8 4) = some d → Completes (.cfgCommit l h p) s fun t =>
        t.stew.longOp.state = 2 ∧ t.stew.longOp.status = Status.invalidParam ∧ t.stew.longOp.detail = d ∧ s.sent t 0xF9 ∧
        t.stew.cfgStage = s.stew.cfgStage ∧ s.OnlySteward t) ∧
    (∀ img, s.Passes 0x0302 l h p → memBytes s.stew.cfgStage 0 (min (fieldLe p 4 4) 131072) = img →
      imageFault img (fieldLe p 4 4) (fieldLe p 8 4) = none → fieldLe img 4 4 = fieldLe p 0 4 → fieldLe p 0 4 = s.nextGen →
      s.changeRefusal h.world (recordsOf img (fieldLe img 20 4)) (recordsOf img (fieldLe img 20 4)) = none →
      s.verdict (s.candidateOf (s.changesOf (recordsOf img (fieldLe img 20 4)) s.clk.ramp.running)) = 0 → fieldLe img 16 4 = 0 →
      Completes (.cfgCommit l h p) s fun t =>
        s.answers t l h { status := Status.accepted } ∧ t.stew.longOp.state = 1 ∧ t.stew.longOp.phase = 2 ∧
        t.stew.longOp.asked.opcode = 0x0302 ∧ t.stew.longOp.keepTrim = s.clk.ramp.running ∧ s.OnlySteward t) ∧
    (s.Passes 0x0303 l h p → Completes (.cfgAbort l h p) s fun t =>
      s.answers t l h {} ∧ t.stew.cfgStage = [] ∧ t.stew.cfgLen = 0 ∧ s.OnlySteward t) ∧
    (s.Passes 0x0304 l h p → Completes (.cfgInfo l h p) s fun t =>
      s.gives t l h (leBytes 4 s.cfg.gen ++ leBytes 4 s.stew.cfgLen ++
        leBytes 4 (crc32c (memBytes s.stew.cfgStage 0 (s.stew.cfgLen - 4))).toNat ++ leBytes 1 s.commitPhase ++ zeros 3) ∧
      s.OnlySteward t) ∧
    (s.Passes 0x0305 l h p → 1 ≤ fieldLe p 4 2 → fieldLe p 4 2 ≤ 4088 → fieldLe p 0 4 + fieldLe p 4 2 ≤ s.liveImage.length →
      s.mramErr (slotBase s.cfg.slot) s.cfg.len = false → Completes (.cfgRead l h p) s fun t =>
        s.gives t l h ((s.liveImage.drop (fieldLe p 0 4)).take (fieldLe p 4 2)) ∧ s.OnlySteward t) ∧
    (s.Passes 0x0401 l h p → 1 ≤ fieldLe p 2 2 → fieldLe p 2 2 ≤ 255 → fieldLe p 0 2 + fieldLe p 2 2 ≤ 4096 →
      Completes (.progWrite l h p) s fun t =>
        s.answers t l h {} ∧ (∀ j, memGet t.stew.progImage j = if 16 * fieldLe p 0 2 ≤ j ∧ j < 16 * fieldLe p 0 2 + (p.drop 4).length
          then (p.drop 4).getD (j - 16 * fieldLe p 0 2) 0 else memGet s.stew.progImage j) ∧ s.OnlySteward t) ∧
    (s.Passes 0x0402 l h p → s.policyRests → s.mode = .ready ∨ s.mode = .service → 1 ≤ fieldLe p 4 2 → fieldLe p 4 2 ≤ 4096 →
      fieldLe p 6 2 ≤ 8192 →
      ((crc32c (s.progBytes (fieldLe p 4 2) (fieldLe p 6 2))).toNat ≠ fieldLe p 12 4 → Completes (.progCommit l h p) s fun t =>
        t.stew.longOp.state = 2 ∧ t.stew.longOp.status = Status.invalidParam ∧ t.stew.longOp.detail = 12 ∧ s.sent t 0xF9 ∧
        s.OnlySteward t) ∧
      (∀ prog, bundlesIn s.stew.progImage 0 (fieldLe p 4 2) = prog → (∀ b ∈ prog, reservedOp b.2 = false) →
        (crc32c (s.progBytes (fieldLe p 4 2) (fieldLe p 6 2))).toNat = fieldLe p 12 4 → fieldLe p 0 4 = s.nextGen →
        s.changeRefusal h.world s.stagedMill s.progRecords = none →
        s.verdict ((s.candidateOf (s.changesOf s.progRecords s.clk.ramp.running)).modMill (fun m => { m with prog := prog })) = 0 →
        Completes (.progCommit l h p) s fun t =>
          s.answers t l h { status := Status.accepted } ∧ t.stew.longOp.state = 1 ∧ t.stew.longOp.phase = 2 ∧
          t.mill = { s.mill with halted := true } ∧ t.regs = s.regs ∧ t.cfg = s.cfg ∧ s.clockKept t)) ∧
    (s.Passes 0x0403 l h p → 1 ≤ fieldLe p 2 2 → fieldLe p 2 2 ≤ 1022 → fieldLe p 0 2 + fieldLe p 2 2 ≤ 8192 →
      Completes (.dmemImageWrite l h p) s fun t =>
        s.answers t l h {} ∧ (∀ j, wordGet t.stew.dmemImage j = if fieldLe p 0 2 ≤ j ∧ j < fieldLe p 0 2 + fieldLe p 2 2
          then BitVec.ofNat 32 (fieldLe p (4 + 4 * (j - fieldLe p 0 2)) 4) else wordGet s.stew.dmemImage j) ∧ s.OnlySteward t) ∧
    (s.Passes 0x0404 l h p → byteAt p 0 ≤ 1 → 1 ≤ fieldLe p 4 2 → fieldLe p 4 2 ≤ 1022 → fieldLe p 2 2 + fieldLe p 4 2 ≤ 2048 →
      (s.bankActive (byteAt p 0) = true → Completes (.coefWrite l h p) s fun t =>
        s.answers t l h { status := Status.busy } ∧ s.OnlySteward t) ∧
      (s.bankActive (byteAt p 0) = false →
        s.verdict (s.modMill (fun m => m.setBank (byteAt p 0) (fieldLe p 2 2) (payloadWords p 8 (fieldLe p 4 2)))) = 0 →
        Completes (.coefWrite l h p) s fun t =>
          s.answers t l h { status := Status.accepted } ∧ t.stew.longOp.state = 1 ∧ t.stew.longOp.phase = 2 ∧ s.OnlySteward t)) ∧
    (s.Passes 0x0405 l h p → s.Shaped → Completes (.bankSwap l h p) s fun t =>
      s.answers t l h {} ∧ (∀ k : Fin 8, (t.task k).swap =
        if (byteAt p 0).testBit k then (s.task k).swap ++ [s.count] else (s.task k).swap) ∧ t.regs = s.regs ∧ t.mill = s.mill ∧ s.clockKept t) ∧
    (s.Passes 0x0406 l h p → s.Shaped → Completes (.taskResume l h p) s fun t =>
      s.answers t l h {} ∧ (∀ k : Fin 8, (t.task k).resume =
        if (byteAt p 0).testBit k then (s.task k).resume ++ [s.count] else (s.task k).resume) ∧ t.regs = s.regs ∧ t.mill = s.mill ∧ s.clockKept t)

/-- Groups 0x05 and 0x06 (R240, R244, R250, R339 to R341): the meters' totals are read from a snapshot, a journal record is asked for and
read, totals are preset in SERVICE, unless replay freezes them (R248), the log is read, and telemetry and attention are set. That LOG_READ
of nothing answers FIRST is DEDUCED (log entry 50); that a GRANARY_PRESET under replay is answered OK is the model's choice (log entry
56). -/
def Obligations.MeterAndLogCommands : Prop :=
  ∀ (s : State) (l : Link) (h : Hdr) (p : List Byte),
    (s.Passes 0x0501 l h p → Completes (.granaryRead l h p) s fun t =>
      s.gives t l h (t.snapBytes (byteAt p 0)) ∧ t.grn.snap = none ∧
      t.grn.snapTotals = t.grn.totals.map (fun x => BitVec.ofNat 64 (x / 2 ^ 32)) ∧ t.on F.GRN_SNAP_CTRL_DONE = true) ∧
    (s.Passes 0x0502 l h p → Completes (.granarySnapshot l h p) s fun t =>
      s.gives t l h (t.snapBytes (byteAt p 0)) ∧ t.grn.snap = none ∧
      t.grn.snapTotals = t.grn.totals.map (fun x => BitVec.ofNat 64 (x / 2 ^ 32)) ∧ t.on F.GRN_SNAP_CTRL_DONE = true ∧
      t.on F.GRN_STAT_OVR_STATE = false) ∧
    (s.Passes 0x0503 l h p → s.replayHolds = false → s.on F.GRN_JSTAT_BUSY = false → Completes (.journalCommit l h p) s fun t =>
      s.answers t l h { status := Status.accepted } ∧ t.stew.longOp.state = 1 ∧ t.on F.GRN_JSTAT_BUSY = true ∧
      (∃ r f, t.grn.snap = some r ∧ r.journal = some f) ∧ t.grn.totals = s.grn.totals ∧
      (∀ b, b ≠ R.GRN_JSTAT → t.rd b = s.rd b) ∧ s.clockKept t) ∧
    (s.Passes 0x0504 l h p → byteAt p 0 ≤ 31 → byteAt p 1 ≤ 1 → s.mramErr (journalOffset (byteAt p 0)) 4096 = false →
      let b := s.mramRead (journalOffset (byteAt p 0)) 4096
      let v := if fieldLe b 0 4 ≠ 0x47524E4A then 1 else if journalValid b then 0 else 2
      Completes (.journalRead l h p) s fun t =>
        s.gives t l h (leBytes 1 v ++ zeros 3 ++ (b.drop (2048 * byteAt p 1)).take 2048) ∧ s.OnlySteward t) ∧
    (∀ m : Fin 8, s.Passes 0x0505 l h p → s.Shaped → byteAt p 0 = m → s.inService = true → s.bit R.GRN_CTRL m = false →
      s.meterOn m = false → Completes (.granaryPreset l h p) s fun t =>
        s.answers t l h {} ∧
        (s.replayHolds = false →
          (∀ k, k < (meterTotals m).2 → nth t.grn.totals ((meterTotals m).1 + k) 0 =
            fieldLe p (4 + 12 * k) 8 * 2 ^ 32 + fieldLe p (12 + 12 * k) 4) ∧
          (∀ j, j < (meterTotals m).1 ∨ (meterTotals m).1 + (meterTotals m).2 ≤ j → nth t.grn.totals j 0 = nth s.grn.totals j 0)) ∧
        (s.replayHolds = true → t.grn.totals = s.grn.totals) ∧ s.clockKept t ∧ t.loom = s.loom) ∧
    (s.Passes 0x0506 l h p → Completes (.uncleanRead l h p) s fun t =>
      s.gives t l h (leBytes 4 (s.rd R.GRN_UNC_T).toNat ++
        ((List.range 8).map (fun n => leBytes 4 (s.rd (R.GRN_UNC_En n)).toNat)).flatten ++ leBytes 4 s.grn.restoredSeq.toNat) ∧
      s.OnlySteward t) ∧
    (s.Passes 0x0601 l h p → 1 ≤ fieldLe p 4 2 → fieldLe p 4 2 ≤ 127 → s.mramErr 0x490000 0x20000 = false →
      let rs := s.logFrom (BitVec.ofNat 32 (fieldLe p 0 4)) (fieldLe p 4 2)
      (∀ r rest, rs = r :: rest → Completes (.logRead l h p) s fun t =>
        s.gives t l h (leBytes 4 (fieldLe r 0 4) ++ leBytes 2 rs.length ++ zeros 2 ++ rs.flatten) ∧ s.OnlySteward t) ∧
      (rs = [] → Completes (.logRead l h p) s fun t =>
        s.gives t l h (leBytes 4 (fieldLe p 0 4) ++ leBytes 2 0 ++ zeros 2) ∧ s.OnlySteward t)) ∧
    (s.Passes 0x0602 l h p → Completes (.logInfo l h p) s fun t =>
      s.gives t l h (leBytes 4 (s.stew.logNext - BitVec.ofNat 32 s.stew.logHeld).toNat ++ leBytes 4 (s.stew.logNext - 1).toNat ++
        leBytes 2 s.stew.logDiscarded ++ leBytes 2 s.stew.crier.drops) ∧ s.OnlySteward t) ∧
    (s.Passes 0x0603 l h p → byteAt p 0 ≤ 2 → 10 ≤ fieldLe p 2 2 → fieldLe p 2 2 ≤ 60000 → Completes (.crierSet l h p) s fun t =>
      s.answers t l h {} ∧ t.stew.crier = { s.stew.crier with
        link := byteAt p 0, mask := BitVec.ofNat 8 (byteAt p 1), period := fieldLe p 2 2, nextAt := s.count + fieldLe p 2 2 * 400000 } ∧
      s.OnlySteward t) ∧
    (s.Passes 0x0604 l h p → (s.link l).session = none → Completes (.attnRead l h p) s fun t =>
      s.gives t l h (leBytes 1 (s.attnWord l).toNat ++ zeros 3) ∧
      (t.link l).attn = (s.link l).attn &&& ~~~ (BitVec.ofNat 8 (byteAt p 0)) ∧ s.OnlySteward t) ∧
    (s.Passes 0x0605 l h p → Completes (.attnMask l h p) s fun t =>
      s.answers t l h {} ∧ (t.link l).mask = BitVec.ofNat 8 (byteAt p 0) ∧ (t.link l).threshold = byteAt p 1 ∧ s.OnlySteward t)

/-- Groups 0x07 to 0x0A (R56, R275, R276, R278, R295, R308, R316, R317, R342, R356, R358, R375): the firmware slots are reported, written
and given over to their checks, the ring's registers and tables are read and JOIN and LEAVE asked, the island's window, history and
parameters are read, staged and committed, and the perturbation and the Loupe are set in SERVICE. -/
def Obligations.UnitCommands : Prop :=
  ∀ (s : State) (l : Link) (h : Hdr) (p : List Byte),
    let reads := fun (op : Nat) (i : Link → Hdr → List Byte → Instr) (d : List Byte) =>
      s.Passes op l h p → Completes (i l h p) s fun t => s.gives t l h (d) ∧ s.OnlySteward t
    let words := fun (as : List Nat) => (as.map (fun a => leBytes 4 (s.rd a).toNat)).flatten
    reads 0x0701 .fwInfo (s.fwInfo 0 ++ s.fwInfo 1 ++ leBytes 1 (64 - s.otp.arb) ++ zeros 3) ∧
    (s.Passes 0x0702 l h p → s.mode ≠ .run → fieldLe p 0 4 + (p.drop 4).length ≤ 0x200000 → s.fwIdle ≤ 1 → s.mem.worn = [] →
      Completes (.fwWrite l h p) s fun t =>
        s.answers t l h {} ∧ t.cfg.fwWriting = some s.fwIdle ∧
        (∀ j, j < (p.drop 4).length → memGet t.mem.mram (fwBase s.fwIdle + fieldLe p 0 4 + j) = (p.drop 4).getD j 0) ∧
        t.regs = s.regs ∧ s.clockKept t ∧ t.otp = s.otp) ∧
    (s.Passes 0x0703 l h p → s.mode ≠ .run → Completes (.fwInstall l h p) s fun t =>
      s.answers t l h { status := Status.accepted } ∧ t.stew.longOp.state = 1 ∧ t.stew.longOp.payload = p ∧ s.OnlySteward t) ∧
    (s.Passes 0x0703 l h p → s.mode = .run → Completes (.fwInstall l h p) s fun t =>
      s.answers t l h { status := Status.modeConflict, detail := 3 } ∧ s.OnlySteward t) ∧
    reads 0x0801 .ringStatus (words ringWords) ∧
    (s.Passes 0x0802 l h p → s.policyRests → s.ringState = 1 → s.switching = false →
      s.on F.RING_STAT_LOCK_A = true ∨ s.on F.RING_STAT_LOCK_B = true → s.get F.CLK_SYN0_DISC_SRC ≠ 0 →
      Completes (.ringJoin l h p) s fun t =>
        s.answers t l h {} ∧ t.ringState = 2 ∧ (∀ b, b ≠ R.RING_STAT → t.rd b = s.rd b) ∧ s.clockKept t ∧ t.loom = s.loom) ∧
    (s.Passes 0x0803 l h p → s.policyRests → s.ringState = 3 → Completes (.ringLeave l h p) s fun t =>
      s.answers t l h {} ∧ t.ring.leaving = true ∧ t.ring.sent = s.ring.sent ++ s.onRings (.leave s.ringSlot) ∧ t.regs = s.regs ∧ s.clockKept t) ∧
    (1 ≤ fieldLe p 2 2 → fieldLe p 2 2 ≤ 1020 → fieldLe p 0 2 + fieldLe p 2 2 ≤ 6144 →
      reads 0x0804 .rosterRead
        (words (R.RING_GEN :: (List.range (fieldLe p 2 2)).map (fun i => R.RING_ROSTERe (fieldLe p 0 2 + i))))) ∧
    reads 0x0805 .presentRead (leBytes 2 (s.get F.RING_GEN_GEN) ++ zeros 2 ++ leBytes 128 s.ring.live.present.toNat) ∧
    reads 0x0901 .safeStatus (words safeWords) ∧
    (s.Passes 0x0902 l h p → s.inService = true → 1 ≤ fieldLe p 2 2 → fieldLe p 0 2 + fieldLe p 2 2 ≤ 256 →
      Completes (.safeParamWrite l h p) s fun t =>
        s.answers t l h {} ∧ (∀ j, memGet t.stew.safeStage j = if fieldLe p 0 2 ≤ j ∧ j < fieldLe p 0 2 + (p.drop 4).length
          then (p.drop 4).getD (j - fieldLe p 0 2) 0 else memGet s.stew.safeStage j) ∧ s.OnlySteward t) ∧
    (s.Passes 0x0903 l h p → s.inService = true → s.allOutsOff = true → Completes (.safeParamCommit l h p) s fun t =>
      s.answers t l h { status := Status.accepted } ∧ t.stew.longOp.state = 1 ∧ t.stew.longOp.payload = p ∧ s.OnlySteward t) ∧
    (s.Passes 0x0903 l h p → s.inService = false ∨ s.allOutsOff = false → Completes (.safeParamCommit l h p) s fun t =>
      s.answers t l h { status := Status.modeConflict, detail := s.mode.code } ∧ s.OnlySteward t) ∧
    reads 0x0904 .safeParamRead (s.safe.a.liveBlock ++ leBytes 4 (crc32c (s.safe.a.liveBlock.take 252)).toNat ++
      leBytes 4 (crc32c (s.safe.b.liveBlock.take 252)).toNat) ∧
    reads 0x0905 .safeDiagRead ((s.safe.a.hist ++ s.safe.b.hist).map (fun e => leBytes 1 e.1 ++ zeros 3 ++ leBytes 4 e.2.toNat)).flatten ∧
    (s.Passes 0x0906 l h p → s.policyRests → s.safe.a.dead = false → s.safe.b.dead = false → Completes (.safeRestart l h p) s fun t =>
      s.answers t l h {} ∧ t.safe.a.state = .boot ∧ t.safe.b.state = .boot ∧ t.genOn = false ∧ t.safe.a.store = s.safe.a.store ∧
      t.safe.b.store = s.safe.b.store ∧ s.clockKept t) ∧
    (s.Passes 0x0A01 l h p → s.inService = true → s.blockLocked 16 = false → Completes (.pertSet l h p) s fun t =>
      s.answers t l h {} ∧ t.get F.TST_SEED_SEED = fieldLe p 0 2 ∧ t.on F.TST_CTRL_PERT_EN = (byteAt p 20).testBit 0 ∧
      (∀ k : Fin 8, t.rd (R.TST_DLYk k) = s.stored (R.TST_DLYk k) (BitVec.ofNat 32 (fieldLe p (4 + 2 * k) 2))) ∧
      (∀ b, b ≠ R.TST_SEED → b ≠ R.TST_CTRL → isIn b (R.TST_DLYk 0) 4 8 = false → t.rd b = s.rd b) ∧ s.clockKept t) ∧
    (s.Passes 0x0A01 l h p → s.inService = false → Completes (.pertSet l h p) s fun t =>
      s.answers t l h { status := Status.modeConflict, detail := s.mode.code } ∧ s.OnlySteward t) ∧
    (∀ x : Loupe, s.Passes 0x0A02 l h p → s.inService = true →
      x = { state := 1, mask := p.take 32, trigger := byteAt p 32, pre := fieldLe p 34 2, addr := fieldLe p 36 4, recs := [] } →
      x.takes (byteAt p 32) = true → fieldLe p 34 2 ≤ 4095 → x.takes 0xF8 = false → x.takes 0xFC = false → x.takes 0xFD = false →
      Completes (.loupeArm l h p) s fun t => s.answers t l h {} ∧ t.stew.loupe = x ∧ s.OnlySteward t) ∧
    (1 ≤ fieldLe p 2 2 → fieldLe p 2 2 ≤ 255 →
      reads 0x0A03 .loupeRead (leBytes 1 s.stew.loupe.state ++ zeros 1 ++ leBytes 2 s.stew.loupe.recs.length ++
        (((s.stew.loupe.recs.drop (fieldLe p 0 2)).take (fieldLe p 2 2)).map LoupeRec.bytes).flatten))

/-- The ports and what the Steward does by itself (R321 to R323, R335, R340, R379, R384): a whole right packet on either port completes
with its command's effect, here beside any command's the reply of a STATUS; a packet with a wrong CRC is answered, a run of bytes that is
no packet is discarded, a packet leaves once its last byte is sent, and a reply that waited for room takes a place, while target 5 of the
perturbation does not hold the FIFOs (the model's choices: log entries 49, 58), a new rate applies after its reply, sessions and their
blocks end by time, telemetry is queued or dropped, HOLD ends, a RESET takes effect, and SYS_LTR may be written on the bus. -/
def Obligations.PortsAndTimers : Prop :=
  (∀ (i : Link → Hdr → List Byte → Instr) (op : Nat), PacketOp i op → ∀ (s : State) (h : Hdr) (p : List Byte), hdrFits h p = true →
    (Completes (.spiWrite (hdrPacket h op p)) s fun t => exec (i .spi h p) s = .next t) ∧
    (Completes (.uartPacket (hdrPacket h op p)) s fun t => exec (i .uart h p) s = .next t)) ∧
  (∀ (s : State) (h : Hdr),
    let statusBytes := fun (l : Link) => s.stateBlock l ++ leBytes 2 h.seq.toNat ++ leBytes 2 ((s.link l).nextReply - 1).toNat ++
      leBytes 4 (crc32c (s.stateBlock l)).toNat
    (s.Passes 0x0201 .spi h [] → Completes (.spiWrite (hdrPacket h 0x0201 [])) s fun t => s.gives t .spi h (statusBytes .spi) ∧ s.OnlySteward t) ∧
    (s.Passes 0x0201 .uart h [] →
      Completes (.uartPacket (hdrPacket h 0x0201 [])) s fun t => s.gives t .uart h (statusBytes .uart) ∧ s.OnlySteward t)) ∧
  (∀ (s : State) (b : List Byte), s.serves .spi = true → s.rxFull .spi = false → byteAt b 0 = 0xA5 → byteAt b 1 = 1 → 16 ≤ b.length →
    b.length = packetLen b → crcRight b = false → Completes (.spiWrite b) s fun t =>
      (∃ e, (t.link .spi).history.getLast? = some e ∧ e.ran = none ∧ e.body.drop 16 = leBytes 2 0x0010 ++ zeros 2 ++ leBytes 4 0) ∧
      (t.link .spi).last = (s.link .spi).last ∧ s.OnlySteward t) ∧
  (∀ (s : State) (b : List Byte), s.serves .spi = true → b ≠ [] → byteAt b 0 ≠ 0xA5 → Completes (.spiWrite b) s fun t =>
    (t.link .spi).discards = (s.link .spi).discards + 1 ∧ (t.link .spi).tx = (s.link .spi).tx ∧ s.OnlySteward t) ∧
  (∀ (s : State) (n : Nat) (x : TxPacket) (rest : List TxPacket), s.serves .spi = true → (s.link .spi).tx = x :: rest →
    (s.fifoHeld = true → Completes (.spiRead n) s fun t => s.unmoved t) ∧
    (x.bytes.length ≤ n → s.fifoHeld = false → Completes (.spiRead n) s fun t =>
      (t.link .spi).tx = rest ++ (s.link .spi).later.take 1 ∧ (t.link .spi).later = (s.link .spi).later.drop 1 ∧ (t.link .spi).history = (s.link .spi).history ∧ s.OnlySteward t) ∧
    (n < x.bytes.length → Completes (.spiRead n) s fun t => s.unmoved t)) ∧
  (∀ s : State, exec .spiStatus s = .next s) ∧
  (∀ (s : State) (b : List Byte), ¬ (0xA5 : Byte) ∈ b → Completes (.uartPacket b) s fun t => s.unmoved t) ∧
  (∀ s : State, s.serves .uart = true → s.fifoHeld = false → Completes .uartPacketSent s fun t =>
    (t.link .uart).tx = (s.link .uart).tx.drop 1 ++ (s.link .uart).later.take 1 ∧ (t.link .uart).later = (s.link .uart).later.drop 1 ∧ (t.link .uart).history = (s.link .uart).history ∧ s.OnlySteward t) ∧
  (∀ (s : State) (b : Nat) (l : Link) (q : BitVec 16), s.stew.baudNext = some (b, l, q) →
    (s.portReplyWaits l q = false → Completes .baudChange s fun t =>
      t.stew.baud = b ∧ t.stew.baudNext = none ∧ (∀ k, t.link k = s.link k) ∧ s.OnlySteward t) ∧
    (s.portReplyWaits l q = true → exec .baudChange s = .next s)) ∧
  (∀ (s : State) (l : Link) (x : Session), s.coreRuns = true → (s.link l).session = some x → x.touched + 240000000000 ≤ s.count →
    Completes (.sessionTimeout l) s fun t => (t.link l).session = none ∧ s.sent t 0xFC ∧ s.OnlySteward t) ∧
  (∀ (s : State) (l : Link) (t0 : Nat), (s.link l).blockedAt = some t0 → t0 + 400000000 ≤ s.count →
    Completes (.sessionBlockEnd l) s fun t =>
      (t.link l).blockedAt = none ∧ (t.link l).session = (s.link l).session ∧ t.events = s.events ∧ s.OnlySteward t) ∧
  (∀ (s : State) (l : Link), s.coreRuns = true → s.stew.crier.link = (match l with | .spi => 0 | .uart => 1) →
    s.due s.stew.crier.nextAt = true →
    ((s.link l).tx.length < 8 → Completes .crierTelemetry s fun t =>
      (t.link l).tx = (s.link l).tx ++ [⟨s.telemetryPacket l, true, false⟩] ∧ (t.link l).telSeq = (s.link l).telSeq + 1 ∧
      t.stew.crier.nextAt = s.stew.crier.nextAt + s.stew.crier.period * 400000 ∧ s.OnlySteward t) ∧
    (8 ≤ (s.link l).tx.length → Completes .crierTelemetry s fun t =>
      (t.link l).tx = (s.link l).tx ∧ (t.link l).telSeq = (s.link l).telSeq + 1 ∧ t.stew.crier.drops = min 65535 (s.stew.crier.drops + 1) ∧
      s.sent t 0xFE ∧ s.OnlySteward t)) ∧
  (∀ s : State, s.policyRests → s.on F.SYS_PWR_STAT_HOLDING = true → s.due s.sys.holdEnd = true → Completes .holdEnd s fun t =>
    t.on F.SYS_PWR_STAT_HOLDING = false ∧ (∀ b, b ≠ R.SYS_PWR_STAT → t.rd b = s.rd b) ∧ t.clk = s.clk ∧ t.loom = s.loom) ∧
  (∀ (s : State) (t0 : Nat), s.sys.phase = .run → s.sys.resetDue = some t0 → s.due t0 = true → Completes .commandReset s fun t =>
    t.sys.phase = .boot ∧ t.get F.SYS_BOOT_CAUSE = 3 ∧ t.mem.mram = s.mem.mram ∧ t.otp = s.otp ∧ t.legsOff ∧ t.pending = s.pending ∧
    t.clk.count = 0) ∧
  (∀ (s : State) (w : World) (v : Word), s.accepts w R.SYS_LTR v → s.coreRuns = true → v.toNat < 2000 →
    Completes (.sysLtrWrite w v) s fun t =>
      t.rd R.SYS_LTR = v ∧ (∀ b, b ≠ R.SYS_LTR → t.rd b = s.rd b) ∧ t.clk = s.clk ∧ t.loom = s.loom)

/-- Long operations end (R70, R140, R148, R317, R336, R338, R358), and the test access port (R361): a configuration is live from the end
of phase two and waits for its instant, a program and a bank are loaded, an installation and a parameter commit end with the refusal of
their checks or with their effect, a key slot and PROVISIONED are written before PROVISIONED only, and a scan shifts the boundary cells,
drives them before PROVISIONED, inside the cut of the gate-enable, or passes through BYPASS or IDCODE. That the final reply of a
CFG_COMMIT waits for the instant of R70 is DEDUCED (log entry 51), as are a mirror in FAULT that a parameter commit leaves there and the
wait for one that is dead (log entry 62); the port in KEEP, its power-up and what a scan shifts out are the model's (log entry 64). -/
def Obligations.LongOperationsAndTestPort : Prop :=
  (∀ (s : State) (img : List Byte), s.longRuns 0x0302 = true → s.stew.longOp.phase = 2 → s.cfg.waiting = none → s.coreRuns = true →
    s.slotImage (fieldLe s.stew.longOp.payload 4 4) = img →
    s.phaseTwoRefusal [.ready, .run, .service] (recordsOf img (fieldLe img 20 4)) = none → Completes .cfgCommitComplete s fun t =>
      t.cfg.gen = fieldLe s.stew.longOp.payload 0 4 ∧ t.cfg.slot = s.idleSlot ∧ t.cfg.len = img.length ∧
      t.cfg.waiting = some ⟨recordsOf img (fieldLe img 20 4), fieldLe img 12 4 % 2 == 1, s.stew.longOp.keepTrim⟩ ∧ t.stew.longOp = s.stew.longOp ∧
      s.sent t 0xFA ∧ (∀ b, b ≠ R.SYS_BOOT → t.rd b = s.rd b) ∧ t.mill = s.mill ∧ s.clockKept t) ∧
  (∀ s : State, s.longRuns 0x0402 = true → s.stew.longOp.phase = 2 → s.tasksStopped = true → s.policyRests →
    s.mode = .run ∨ s.mode = .limp → Completes .progCommitComplete s fun t =>
      t.mill = { s.mill with halted := false } ∧ t.stew.longOp.state = 2 ∧ t.stew.longOp.status = Status.modeConflict ∧
      t.stew.longOp.detail = s.mode.code ∧ t.cfg = s.cfg ∧ t.regs = s.regs ∧ s.sent t 0xF9) ∧
  (∀ s : State, s.longRuns 0x0402 = true → s.stew.longOp.phase = 2 → s.tasksStopped = true → s.policyRests →
    s.phaseTwoRefusal [.ready, .service] (recordsOf s.writtenImage (fieldLe s.writtenImage 20 4)) = none →
    Completes .progCommitComplete s fun t =>
      t.mill.halted = false ∧ t.mill.prog = bundlesIn s.mem.mram (slotProg s.idleSlot) 4096 ∧
      t.cfg.gen = fieldLe s.stew.longOp.payload 0 4 ∧ t.cfg.slot = s.idleSlot ∧ t.stew.longOp.state = 2 ∧ t.stew.longOp.status = 0 ∧
      t.stew.longOp.detail = fieldLe s.stew.longOp.payload 0 4) ∧
  (∀ (s : State) (p : List Byte), s.longRuns 0x0404 = true → s.stew.longOp.phase = 2 → s.policyRests → s.stew.longOp.payload = p →
    (s.bankActive (byteAt p 0) = true → Completes .coefWriteComplete s fun t =>
      t.stew.longOp.state = 2 ∧ t.stew.longOp.status = Status.busy ∧ s.sent t 0xF9 ∧ s.OnlySteward t) ∧
    (s.bankActive (byteAt p 0) = false → s.mode ≠ .limp → Completes .coefWriteComplete s fun t =>
      t.cfg.gen = s.nextGen ∧ t.mill = s.mill.setBank (byteAt p 0) (fieldLe p 2 2) (payloadWords p 8 (fieldLe p 4 2)) ∧
      t.stew.longOp.state = 2 ∧ t.stew.longOp.status = 0 ∧ t.stew.longOp.detail = s.nextGen ∧ s.sent t 0xFA ∧ s.sent t 0xF9 ∧
      (∀ b, b ≠ R.SYS_BOOT → t.rd b = s.rd b) ∧ s.clockKept t)) ∧
  (∀ (s : State) (d : Nat), s.longRuns 0x0703 = true → s.policyRests →
    s.fwCheck s.fwIdle (fieldLe s.stew.longOp.payload 0 4) (fieldLe s.stew.longOp.payload 4 4) = some d →
    Completes .fwInstallComplete s fun t =>
      t.stew.longOp.state = 2 ∧ t.stew.longOp.status = Status.invalidParam ∧ t.stew.longOp.detail = d ∧ t.cfg.fwWriting = none ∧
      t.mem.mram = s.mem.mram ∧ t.regs = s.regs ∧ s.sent t 0xF9) ∧
  (∀ s : State, s.longRuns 0x0703 = true → s.policyRests →
    s.fwCheck s.fwIdle (fieldLe s.stew.longOp.payload 0 4) (fieldLe s.stew.longOp.payload 4 4) = none →
    Completes .fwInstallComplete s fun t =>
      t.stew.longOp.state = 2 ∧ t.stew.longOp.status = 0 ∧ t.stew.longOp.detail = 0 ∧ t.cfg.fwWriting = none ∧
      t.cfg.fwRingNext = (s.cfg.fwRingNext + 1) % 128 ∧ t.regs = s.regs ∧ t.otp = s.otp ∧ s.sent t 0xF9) ∧
  (∀ (s : State) (b : List Byte), s.longRuns 0x0903 = true → s.policyRests → s.safe.a.dead = false → s.safe.b.dead = false →
    memBytes s.stew.safeStage 0 256 = b →
    (∀ d, s.blockRefusal b (fieldLe s.stew.longOp.payload 0 4) = some d → Completes .safeParamCommitComplete s fun t =>
      t.stew.longOp.state = 2 ∧ t.stew.longOp.status = Status.invalidParam ∧ t.stew.longOp.detail = d ∧ s.sent t 0xF9 ∧
      s.OnlySteward t) ∧
    (s.blockRefusal b (fieldLe s.stew.longOp.payload 0 4) = none → Completes .safeParamCommitComplete s fun t =>
      t.stew.longOp.state = 2 ∧ t.stew.longOp.status = 0 ∧ t.stew.longOp.detail = blockGen b ∧
      t.safe.a.state = (if s.safe.a.state = .fault then .fault else .boot) ∧
      t.safe.b.state = (if s.safe.b.state = .fault then .fault else .boot) ∧ (s.safe.a.store.length = 2 → b ∈ t.safe.a.store) ∧ (s.safe.b.store.length = 2 → b ∈ t.safe.b.store) ∧
      s.sent t 0xF1)) ∧
  (∀ (s : State) (slot : Fin 8) (key : List Byte), s.Shaped → s.sys.phase ≠ .keep → key.length = 32 →
    (s.otp.provisioned = false → nth s.otp.keySlots slot none = none → Completes (.keyLoad slot key) s fun t =>
      nth t.otp.keySlots slot none = some key ∧ (∀ j : Fin 8, j ≠ slot → nth t.otp.keySlots j none = nth s.otp.keySlots j none) ∧
      t.otp.provisioned = false ∧ t.tap.ir = 0x80 ∧ t.regs = s.regs ∧ t.mem = s.mem) ∧
    (s.otp.provisioned = true ∨ (nth s.otp.keySlots slot none).isSome = true →
      exec (.keyLoad slot key) s = .next { s with tap := { s.tap with ir := 0x80 } })) ∧
  (∀ (s : State) (v : Byte), s.sys.phase ≠ .keep →
    (v = 0xA5 → Completes (.provision v) s fun t =>
      t.otp = { s.otp with provisioned := true } ∧ t.tap.ir = 0x81 ∧ t.regs = s.regs ∧ t.mem = s.mem) ∧
    (v ≠ 0xA5 → exec (.provision v) s = .next { s with tap := { s.tap with ir := 0x81 } })) ∧
  (∀ (s : State) (dr : List Bool), s.sys.phase ≠ .keep →
    (s.otp.provisioned = false → Completes (.extest ⟨0x00, dr⟩) s fun t =>
      t.tap.ir = 0x00 ∧ t.tap.cells = dr ∧ t.tap.out = (List.range dr.length).map s.cellLevel ∧ t.otp = s.otp ∧ t.regs = s.regs ∧
      (∀ (b : Ball) (x : Bool), dr[Config.cellOf b.number]? = some x → (∀ off, t.cutLevel b = some off → t.genOn = true) → t.ball b = x) ∧
      (∀ (b : Ball) (off : Bool), t.cutLevel b = some off → t.genOn = false → t.ball b = off)) ∧
    (s.otp.provisioned = true → Completes (.extest ⟨0x00, dr⟩) s fun t =>
      t.tap.ir = 0x00 ∧ t.tap.out = (false :: dr).take dr.length ∧ t.tap.cells = s.tap.cells ∧ t.otp = s.otp ∧ t.regs = s.regs ∧
      (∀ b : Ball, t.ball b = match s.cutLevel b with
        | some off => if s.genOn then s.ownLevel b else off
        | none => s.ownLevel b)) ∧
    (Completes (.extest ⟨0x01, dr⟩) s fun t =>
      t.tap.ir = 0x01 ∧ t.tap.out = (bitsOf 32 0x174405E3 ++ dr).take dr.length ∧ t.tap.cells = s.tap.cells ∧ t.otp = s.otp ∧ t.regs = s.regs) ∧
    (Completes (.extest ⟨0x02, dr⟩) s fun t =>
      t.tap.ir = 0x02 ∧ t.tap.cells = dr ∧ t.tap.out = (List.range dr.length).map s.cellLevel ∧ t.otp = s.otp ∧ t.regs = s.regs)) ∧
  (∀ (s : State) (x : TapScan) (slot : Fin 8) (key : List Byte) (v : Byte), s.sys.phase = .keep →
    exec (.extest x) s = .next s ∧ exec (.keyLoad slot key) s = .next s ∧ exec (.provision v) s = .next s)

/-! ### The safety island -/

/-- Inputs of a mirror (R300, R301, R303, R304): a channel follows its level DEB × 100 µs after the first sample that differed, a test
pulse starts at its phase and ends with a fault for each judged channel that read high, a discrepancy beyond DISC is a fault of the pair
in both mirrors, a RESET or EDM pair clears its faults after 1 s of agreement, and a voltage at the mirror's SDC ball above TH × 3.0 V /
256 for OVDEB µs is a demand, which ends once it has stood 30 mV below that for as long. That a channel changes DEB × 100 µs after the
first sample that differs, one sample more than DEB × 100 of them, and that one high sample of a judged channel is a fault, are DEDUCED
(log entry 41). -/
def Obligations.IslandInputs : Prop :=
  ∀ (s : State) (m : Mirror), s.Shaped → s.policyRests → (s.mir m).dead = false → s.safe.limpDue = false →
    let x := s.mir m
    let keeps := fun (t : State) =>
      t.mir (otherMirror m) = s.mir (otherMirror m) ∧ (∀ b, blockIndex b ≠ 12 → t.rd b = s.rd b) ∧ s.clockKept t ∧ t.loom = s.loom ∧
      t.mem = s.mem
    (∀ levels : BitVec 12, Completes (.inputSample m levels) s fun t =>
      (t.mir m).time = x.time + 1 ∧ keeps t ∧
      (∀ n : Fin 12, levels.getLsbD n = x.filt.getLsbD n → (t.mir m).filt.getLsbD n = x.filt.getLsbD n) ∧
      (∀ n : Fin 12, levels.getLsbD n ≠ x.filt.getLsbD n → pairPulsed x.block m n = false →
        (pairDeb x.block n * 100 ≤ nth x.counts n 0 → (t.mir m).filt.getLsbD n = levels.getLsbD n) ∧
        (nth x.counts n 0 < pairDeb x.block n * 100 →
          (t.mir m).filt.getLsbD n = x.filt.getLsbD n ∧ nth (t.mir m).counts n 0 = nth x.counts n 0 + 1))) ∧
    (∀ k : Fin 2, x.state = .active → blockTpp x.block ≠ 0 →
      x.time % blockTpp x.block = (if k.val = 0 then 0 else blockTpp x.block / 2) → nth x.pulses k none = none →
      Completes (.testPulseStart m k) s fun t =>
        nth (t.mir m).pulses k none = some x.time ∧ (t.mir m).stp k = false ∧ (t.mir m).outs = x.outs ∧ (t.mir m).filt = x.filt ∧ keeps t) ∧
    (∀ (k : Fin 2) (t0 : Nat), nth x.pulses k none = some t0 → t0 + blockTpw x.block ≤ x.time →
      ((∀ n : Fin 12, pairPulsed x.block m n = true → pairPulse x.block m n = k → (x.judged &&& x.high).getLsbD n = false) →
        Completes (.testPulseEnd m k) s fun t =>
          nth (t.mir m).pulses k none = none ∧ (t.mir m).tpf = x.tpf ∧ (t.mir m).outs = x.outs ∧ keeps t) ∧
      (∀ n : Fin 12, pairPulsed x.block m n = true → pairPulse x.block m n = k → (x.judged &&& x.high).getLsbD n = true →
        s.safe.a.tpf.getLsbD n = false → s.safe.b.tpf.getLsbD n = false →
        Completes (.testPulseEnd m k) s fun t =>
          nth (t.mir m).pulses k none = none ∧ t.safe.a.tpf.getLsbD n = true ∧ t.safe.b.tpf.getLsbD n = true ∧ s.sent t 0xF4)) ∧
    (∀ (n : Fin 12) (t0 : Nat), x.state = .active → nth x.disagree n none = some t0 → pairDisc x.block n * 10000 < x.time - t0 →
      Completes (.discrepancyFault m n) s fun t =>
        t.safe.a.discf = s.safe.a.discf ||| (1#12 <<< n.val) ∧ t.safe.b.discf = s.safe.b.discf ||| (1#12 <<< n.val) ∧
        t.safe.a.outs = s.safe.a.outs ∧ t.safe.b.outs = s.safe.b.outs ∧
        (s.safe.a.discf.getLsbD n = false → s.safe.b.discf.getLsbD n = false → s.sent t 0xF4) ∧ s.clockKept t) ∧
    (∀ (n : Fin 12) (t0 : Nat), x.state = .active → nth x.agree n none = some t0 → 1000000 ≤ x.time - t0 →
      pairType x.block n = 4 ∨ pairType x.block n = 5 →
      Completes (.inputFaultClear m n) s fun t =>
        t.safe.a.inFault n = false ∧ t.safe.b.inFault n = false ∧ t.safe.a.outs = s.safe.a.outs ∧ t.safe.b.outs = s.safe.b.outs ∧
        t.events = s.events ∧ s.clockKept t) ∧
    (∀ r : SdcRun, x.live.isSome = true → r.least ≤ r.most → Completes (.sdcOvervoltage m r) s fun t =>
      (blockOvdeb x.block ≤ r.time → blockTh x.block m * 3000000 < r.least * 256 → (t.mir m).ov = true) ∧
      (blockOvdeb x.block ≤ r.time → (r.most + 30000) * 256 < blockTh x.block m * 3000000 → (t.mir m).ov = false) ∧
      (r.time < blockOvdeb x.block → (t.mir m).ov = x.ov) ∧
      (r.least * 256 ≤ blockTh x.block m * 3000000 → blockTh x.block m * 3000000 ≤ (r.most + 30000) * 256 → (t.mir m).ov = x.ov) ∧
      (t.mir m).outs = x.outs ∧ (t.mir m).filt = x.filt ∧ keeps t)

/-- Outputs of the island (R296, R305 to R307): at the end of a scan a demand switches an output off or starts its delay, an AUTO output
without a demand or an EDM pair goes on, and the mirror's frame gets its next SEQ; a delay ends with the output off, which for GEN takes
the gate-enable away and blocks every leg; the mirror that switches off first raises 0xF0 or 0xF2; a failed EDM or stuck-off ball is an
output fault, which holds the output off. -/
def Obligations.IslandOutputs : Prop :=
  ∀ (s : State) (m : Mirror), s.Shaped → s.policyRests → (s.mir m).dead = false → (s.mir m).state = .active →
    let x := s.mir m
    (∀ (rb : BitVec 6) (link : Bool), x.scanAt + 32 ≤ x.time → x.rx = [] → (s.mir (otherMirror m)).state ≠ .fault →
      Completes (.mirrorScan m rb link true true) s fun t =>
        (t.mir m).scanAt = x.time ∧ (t.mir m).seq = x.seq + 1 ∧ (t.mir (otherMirror m)).beat = true ∧ (t.mir m).state = .active ∧
        (t.mir m).missed = (if link && x.beat then 0 else x.missed + 1) ∧
        (∀ (k : Fin 5) (n : Fin 12), (nth x.outs k {}).st = .on → s.safe.ofault.getLsbD k = false → pairType x.block n = 1 →
          x.filt.getLsbD n = false → (pairMap x.block n).testBit k = true →
          (outDly x.block k = 0 → (nth (t.mir m).outs k {}).st = .off) ∧
          (outDly x.block k ≠ 0 → (nth (t.mir m).outs k {}).st = .delay ∧ (nth (t.mir m).outs k {}).delayAt = x.time)) ∧
        (∀ k : Fin 5, (nth x.outs k {}).st = .off → s.safe.ofault.getLsbD k = false → s.outDemand m k = false →
          outEdm x.block k = 15 → outManual x.block k = false → (nth (t.mir m).outs k {}).st = .on) ∧
        (∀ k : Fin 5, (nth x.outs k {}).st = .on → s.safe.ofault.getLsbD k = false → s.outDemand m k = false →
          (nth (t.mir m).outs k {}).st = .on)) ∧
    (∀ k : Fin 5, (nth x.outs k {}).st = .delay → (nth x.outs k {}).delayAt + outDly x.block k * 1000 ≤ x.time →
      Completes (.outputDelayExpiry m k) s fun t =>
        (nth (t.mir m).outs k {}).st = .off ∧ t.bothOn k = false ∧ t.mir (otherMirror m) = s.mir (otherMirror m) ∧
        (∀ j : Fin 5, j ≠ k → (nth (t.mir m).outs j {}).st = (nth x.outs j {}).st) ∧
        (k.val = 0 → s.genOn = true → t.on F.LOOM_STAT_GEN = false ∧ s.sent t 0xF0 ∧ t.legsOff ∧
          (∀ l : Fin 24, t.on (F.LOOM_LEGl_STAT_SAFE l) = true ∧ t.on (F.LOOM_LEGl_STAT_BLOCKED l) = true)) ∧
        (k.val ≠ 0 → s.bothOn k = true ∨ s.safe.spent.getLsbD k = false → s.sent t 0xF2)) ∧
    (∀ (k : Fin 5) (t0 : Nat), (nth x.outs k {}).switchedAt = some t0 → outEdm x.block k ≠ 15 → t0 + outEdmt x.block k * 100000 ≤ x.time →
      s.safe.ofault.getLsbD k = false →
      (s.levelsOf m (outEdm x.block k) = (!x.cmd k, !x.cmd k) → x.inFault (outEdm x.block k) = false →
        Completes (.edmTimeout m k) s fun t =>
          t.safe.ofault = s.safe.ofault ∧ (nth (t.mir m).outs k {}).switchedAt = none ∧
          (nth (t.mir m).outs k {}).st = (nth x.outs k {}).st) ∧
      (s.levelsOf m (outEdm x.block k) ≠ (!x.cmd k, !x.cmd k) → Completes (.edmTimeout m k) s fun t =>
        t.safe.ofault = s.safe.ofault ||| (1#5 <<< k.val) ∧ t.safe.a.cmd k = false ∧ t.safe.b.cmd k = false)) ∧
    (∀ k : Fin 5, 3 ≤ (nth x.outs k {}).strayOff → (nth x.outs k {}).strayOn = 0 → s.safe.ofault.getLsbD k = false →
      Completes (.outputReadbackFault m k) s fun t =>
        t.safe.ofault = s.safe.ofault ||| (1#5 <<< k.val) ∧ t.safe.a.cmd k = false ∧ t.safe.b.cmd k = false ∧
        (t.mir m).state = .active)

/-- Diagnostics (R297, R298, R307 to R309): each diagnostic of a mirror that runs and fails puts it into FAULT with its code, takes the
gate-enable away, raises 0xF6 and sends the device to LIMP; one that passes leaves the mirror as it was. A supply outside its window is
another matter: it leaves the mirror dead, its outputs off and code 0x05 in its history, and raises no 0xF6 (DEDUCED: log entry 41). -/
def Obligations.IslandDiagnostics : Prop :=
  ∀ (s : State) (m : Mirror), s.Shaped → s.policyRests → (s.mir m).dead = false → (s.mir m).state = .active → s.safe.faultSaid = false →
    let x := s.mir m
    let faults := fun (i : Instr) (code : Nat) => Completes i s fun t =>
      (t.mir m).state = .fault ∧ (nth (t.mir m).hist 31 (0, 0)).1 = code ∧ t.genOn = false ∧ s.sent t 0xF6 ∧ t.mode = .limp ∧
      (t.mir m).store = x.store ∧ s.clockKept t
    let passes := fun (i : Instr) => Completes i s fun t =>
      (t.mir m).state = .active ∧ (t.mir m).outs = x.outs ∧ (t.mir m).hist = x.hist ∧ t.mir (otherMirror m) = s.mir (otherMirror m) ∧
      s.clockKept t
    (∀ k : Fin 5, 3 ≤ (nth x.outs k {}).strayOn → faults (.outputReadbackFault m k) 0x03) ∧
    (∀ t0, x.cmdDiffers = some t0 → blockCmpt x.block < x.time - t0 → faults (.commandDisagreement m) 0x04) ∧
    (4 ≤ x.missed → faults (.crossLinkFault m) 0x02) ∧
    (∀ n, x.oscAt + 1024 ≤ x.time → n < 29491 ∨ 36045 < n → faults (.oscCheck m n) 0x01) ∧
    (∀ n, x.oscAt + 1024 ≤ x.time → 29491 ≤ n → n ≤ 36045 → passes (.oscCheck m n)) ∧
    (x.paramAt + 10000000 ≤ x.time → x.live.isSome = true → blockValid x.block = false → faults (.paramCrcCheck m) 0x06) ∧
    (x.paramAt + 10000000 ≤ x.time → blockValid x.block = true → passes (.paramCrcCheck m)) ∧
    (m = .b → x.romAt + 10000000 ≤ x.time → faults (.romCrcCheck false) 0x07) ∧
    (m = .b → x.romAt + 10000000 ≤ x.time → passes (.romCrcCheck true)) ∧
    (Completes (.mirrorSupplyFault m) s fun t =>
      (t.mir m).dead = true ∧ (nth (t.mir m).hist 31 (0, 0)).1 = 0x05 ∧ t.genOn = false ∧ (∀ k, (t.mir m).cmd k = false) ∧
      (t.mir m).store = x.store ∧ s.clockKept t)

/-- Connections, BOOT and power of the mirrors (R295, R298, R311 to R313, R317): an expired watchdog leads to degraded operation or to
event 0xF5, once for an occurrence on both mirrors, differing D beyond CMPT is a connection fault that 1 s of equal D clears, degraded
operation ends after WRAP_T; BOOT ends in ACTIVE with the common block, in UNPARAM without one, or in FAULT with a self-test's code; a
regulator's power-on keeps only the store. -/
def Obligations.IslandConnectionsAndBoot : Prop :=
  (∀ (s : State) (m : Mirror) (c : Fin 8) (e : Nat), s.Shaped → s.coreRuns = true → (s.mir m).dead = false →
    (nth (s.mir m).conns c {}).wd = some e → e ≤ (s.mir m).time → (nth (s.mir (otherMirror m)).conns c {}).wd.isSome = true →
    (blockWrapT (s.mir m).block ≠ 0 → Completes (.connectionWatchdog m c) s fun t =>
      (nth (t.mir m).conns c {}).wd = none ∧ (nth (t.mir m).conns c {}).degraded = some (s.mir m).time ∧ s.sent t 0xF7 ∧
      t.mir (otherMirror m) = s.mir (otherMirror m) ∧ s.clockKept t) ∧
    (blockWrapT (s.mir m).block = 0 → (nth (s.mir (otherMirror m)).conns c {}).degraded = none →
      Completes (.connectionWatchdog m c) s fun t =>
      (nth (t.mir m).conns c {}).wd = none ∧ (nth (t.mir m).conns c {}).degraded = none ∧ s.sent t 0xF5 ∧
      t.mir (otherMirror m) = s.mir (otherMirror m) ∧ s.clockKept t)) ∧
  (∀ (s : State) (m : Mirror) (c : Fin 8) (e : Nat), s.Shaped → s.coreRuns = true → (s.mir m).dead = false →
    (nth (s.mir m).conns c {}).wd = some e → e ≤ (s.mir m).time → (nth (s.mir (otherMirror m)).conns c {}).wd = none →
    (nth (s.mir (otherMirror m)).conns c {}).degraded = none → Completes (.connectionWatchdog m c) s fun t =>
      (nth (t.mir m).conns c {}).wd = none ∧ (nth (t.mir m).conns c {}).degraded = none ∧ t.safe.told.getLsbD c = false ∧
      (s.safe.told.getLsbD c = false → s.sent t 0xF5) ∧ (s.safe.told.getLsbD c = true → t.events = s.events) ∧ s.clockKept t) ∧
  (∀ (s : State) (m : Mirror) (c : Fin 8) (t0 : Nat), s.Shaped → s.coreRuns = true →
    (nth (s.mir m).conns c {}).differs = some t0 → blockCmpt (s.mir m).block < (s.mir m).time - t0 → s.safe.cflt.getLsbD c = false →
    Completes (.connectionFault c) s fun t =>
      t.safe.cflt = s.safe.cflt ||| (1#8 <<< c.val) ∧ s.sent t 0xF5 ∧ t.safe.a = s.safe.a ∧ t.safe.b = s.safe.b ∧ s.clockKept t) ∧
  (∀ (s : State) (c : Fin 8) (ta tb : Nat), (nth s.safe.a.conns c {}).equal = some ta → (nth s.safe.b.conns c {}).equal = some tb →
    1000000 ≤ s.safe.a.time - ta → 1000000 ≤ s.safe.b.time - tb →
    Completes (.connectionFaultClear c) s fun t =>
      t.safe.cflt = s.safe.cflt &&& ~~~ (1#8 <<< c.val) ∧ t.safe.a = s.safe.a ∧ t.safe.b = s.safe.b ∧ t.events = s.events ∧ s.clockKept t) ∧
  (∀ (s : State) (m : Mirror) (c : Fin 8) (t0 : Nat), s.Shaped → s.coreRuns = true → (s.mir m).dead = false →
    (nth (s.mir m).conns c {}).degraded = some t0 → t0 + blockWrapT (s.mir m).block ≤ (s.mir m).time →
    Completes (.degradedTimeout m c) s fun t =>
      (nth (t.mir m).conns c {}).degraded = none ∧ s.sent t 0xF5 ∧ t.mir (otherMirror m) = s.mir (otherMirror m) ∧ s.clockKept t) ∧
  (∀ s : State, s.policyRests → s.safe.a.dead = false → s.safe.b.dead = false → s.safe.a.state = .boot → s.safe.b.state = .boot →
    (∀ i j, s.commonBlock = some (i, j) → Completes (.islandBootEnd 0 0) s fun t =>
      t.safe.a.state = .active ∧ t.safe.b.state = .active ∧ t.safe.a.live = some i ∧ t.safe.b.live = some j ∧
      t.safe.a.outs = s.safe.a.outs ∧ t.safe.b.outs = s.safe.b.outs ∧ s.clockKept t) ∧
    (s.commonBlock = none → Completes (.islandBootEnd 0 0) s fun t =>
      t.safe.a.state = .unparam ∧ t.safe.b.state = .unparam ∧ t.safe.a.live = none ∧ t.genOn = false ∧ s.clockKept t) ∧
    (∀ code : BitVec 8, code ≠ 0 → s.safe.faultSaid = false → Completes (.islandBootEnd code 0) s fun t =>
      t.safe.a.state = .fault ∧ t.genOn = false ∧ s.sent t 0xF6 ∧ t.mode = .limp ∧ s.clockKept t)) ∧
  (∀ (s : State) (m : Mirror), s.policyRests → (s.mir m).dead = true → Completes (.mirrorRegulatorPowerOn m) s fun t =>
    (t.mir m).dead = false ∧ (t.mir m).state = .boot ∧ (t.mir m).store = (s.mir m).store ∧ (t.mir m).live = none ∧
    t.mir (otherMirror m) = s.mir (otherMirror m) ∧ s.clockKept t)

/-! ### Power, resets and wake -/

/-- Resets and supplies (R31, R380 to R389): every reset restarts the CORE domain with COUNT 0 and its cause, a brown-out leads to KEEP
and the supplies' return to a boot, VBAK's loss clears the KEEP domain, a boot without a bootable slot ends in the recovery state and else
in READY, PFAIL is shown and may stop RUN, and a WAKE comparator wakes KEEP. That a pin reset in KEEP has cause 6 with WAKESRC 8, and the
hysteresis on a comparator's release, are DEDUCED (log entry 46), and so is the boot without a configuration (log entry 69). -/
def Obligations.ResetsSuppliesAndWake : Prop :=
  (∀ s : State, s.sys.phase ≠ .keep →
    let resets := fun (i : Instr) (cause : Nat) => Completes i s fun t =>
      t.sys.phase = .boot ∧ t.get F.SYS_BOOT_CAUSE = cause ∧ t.clk.count = 0 ∧ t.clk.fine = 0 ∧ t.clk.epoch = 0 ∧ t.legsOff ∧
      t.safe = s.safe ∧ t.otp = s.otp ∧ t.mem.mram = s.mem.mram ∧ t.clk.rtcSec = s.clk.rtcSec ∧ t.pending = s.pending
    resets .pinReset 2 ∧ resets .watchdogReset 4 ∧ resets .lockstepReset 5) ∧
  (∀ s : State, s.sys.phase = .keep → s.sys.brownOut = false → Completes .pinReset s fun t =>
    t.sys.phase = .boot ∧ t.get F.SYS_BOOT_CAUSE = 6 ∧ t.get F.SYS_BOOT_WAKESRC = 8 ∧ t.otp = s.otp ∧ t.mem.mram = s.mem.mram ∧
    t.clk.rtcSec = s.clk.rtcSec) ∧
  (∀ (s : State) (vbak : Bool), s.sys.phase ≠ .keep → Completes (.brownOut vbak) s fun t =>
    t.sys.phase = .keep ∧ t.sys.brownOut = true ∧ t.sys.keepLost = !vbak ∧ t.mode = .keep ∧ t.legsOff ∧ t.otp = s.otp ∧
    t.mem.mram = s.mem.mram ∧ t.mem.sram = [] ∧ t.on F.SYS_SUPPLY_VBAK_OK = vbak ∧ t.clk.rtcSec = s.clk.rtcSec) ∧
  (∀ s : State, s.sys.phase = .keep → s.sys.brownOut = true →
    (s.sys.keepLost = false → Completes .supplyReturn s fun t =>
      t.sys.phase = .boot ∧ t.get F.SYS_BOOT_CAUSE = 1 ∧ t.clk.rtcSec = s.clk.rtcSec ∧ t.mem.mram = s.mem.mram ∧ t.otp = s.otp) ∧
    (s.sys.keepLost = true → Completes .supplyReturn s fun t =>
      t.sys.phase = .boot ∧ t.get F.SYS_BOOT_CAUSE = 0 ∧ t.clk.rtcSec = 0 ∧ t.mem.mram = s.mem.mram ∧ t.otp = s.otp) ∧
    (Completes .vbakLoss s fun t =>
      t.sys.phase = .keep ∧ t.sys.keepLost = true ∧ t.clk.rtcSec = 0 ∧ t.rd R.SYS_ALARM = regReset R.SYS_ALARM ∧ t.mem = s.mem ∧
      t.otp = s.otp)) ∧
  (∀ s : State, s.sys.phase = .run → Completes .vbakLoss s fun t =>
    t.on F.SYS_SUPPLY_VBAK_OK = false ∧ (∀ b, b ≠ R.SYS_SUPPLY → t.rd b = s.rd b) ∧ t.clk = s.clk ∧ t.sys = s.sys ∧ t.loom = s.loom) ∧
  (∀ (s : State) (rails : Rails) (vbak : Bool), s.sys.phase = .boot →
    (s.fwChoose = none → Completes (.bootComplete rails vbak) s fun t =>
      t.sys.phase = .recovery ∧ t.mode = .limp ∧ t.get F.SYS_MODE_LIMP_CAUSE = 5 ∧ t.mem.sram = [] ∧ t.on F.SYS_SUPPLY_VDRV_OK = rails.vdrv ∧
      t.on F.SYS_SUPPLY_VBAK_OK = vbak ∧ t.otp = s.otp ∧ t.safe = s.safe) ∧
    (∀ slot : Fin 2, s.fwChoose = some slot.val → s.on F.CLK_STAT_SYN0_LOCKED = true → s.on F.CLK_STAT_SYN1_LOCKED = true →
      s.on F.CLK_STAT_REF_LOST = false → s.on F.CLK_STAT_SYN0_LOST = false → s.on F.CLK_STAT_SYN1_LOST = false → s.clk.refMissing = false →
      s.clk.coreOnMonitor = false → s.safe.limpDue = false → s.cfgChoose = none →
      (∀ b, s.fwRecord (1 - slot.val) = some b → byteAt b 9 ≠ 1) →
      Completes (.bootComplete rails vbak) s fun t =>
        t.sys.phase = .run ∧ t.mode = .ready ∧ t.get F.SYS_BOOT_SLOT = slot ∧ t.on F.SYS_BOOT_NOCFG = true ∧
        t.on F.ACQ_STAT_CAL_DONE = true ∧ t.on F.SYS_SUPPLY_VDRV_OK = rails.vdrv ∧ t.mem.sram = [] ∧ t.clk.count = s.clk.count)) ∧
  (∀ s : State, s.Shaped → s.sys.phase = .run →
    (s.on F.SYS_SUPPLY_PFAIL = false → Completes .pfailAssert s fun t =>
      t.on F.SYS_SUPPLY_PFAIL = true ∧ t.on F.SYS_SUPPLY_PF_SEEN = true ∧ s.clockKept t ∧ t.otp = s.otp ∧
      (s.on F.SYS_PWR_CFG_PF_STOP = true → s.mode = .run → t.mode = .ready ∧ t.legsOff) ∧
      (s.on F.SYS_PWR_CFG_PF_STOP = false ∨ s.mode ≠ .run → t.mode = s.mode ∧ t.loom = s.loom)) ∧
    (s.on F.SYS_SUPPLY_PFAIL = true → Completes .pfailDeassert s fun t =>
      t.on F.SYS_SUPPLY_PFAIL = false ∧ t.on F.SYS_SUPPLY_PF_SEEN = s.on F.SYS_SUPPLY_PF_SEEN ∧ t.mode = s.mode ∧ t.loom = s.loom ∧
      s.clockKept t)) ∧
  (∀ (s : State) (n : Fin 2) (mv : Int), s.on (F.CMP_WAKEn_EN n) = true → s.on (F.CMP_WAKEn_POL n) = false →
    ((s.get (F.CMP_WAKEn_TH n) + 1 : Nat) * 100 < mv → s.get (F.CMP_WAKEn_DEB n) ≤ (nth s.cmp.wakes n {}).run →
      (s.sys.phase = .run → s.on ⟨R.CMP_WAKE_STAT, n, 1⟩ = false → Completes (.wakeSample n mv) s fun t =>
        t.on ⟨R.CMP_WAKE_STAT, n, 1⟩ = true ∧ (∀ b, b ≠ R.CMP_WAKE_STAT → t.rd b = s.rd b) ∧ s.clockKept t) ∧
      (s.sys.phase = .keep → s.sys.brownOut = false → Completes (.wakeSample n mv) s fun t =>
        t.sys.phase = .boot ∧ t.get F.SYS_BOOT_CAUSE = 6 ∧ t.get F.SYS_BOOT_WAKESRC = 2 ^ n.val ∧ t.mem.mram = s.mem.mram)) ∧
    (mv < (s.get (F.CMP_WAKEn_TH n) + 1 : Nat) * 100 - 40 → Completes (.wakeSample n mv) s fun t =>
      t.on ⟨R.CMP_WAKE_STAT, n, 1⟩ = false ∧ t.sys = s.sys ∧ (∀ b, b ≠ R.CMP_WAKE_STAT → t.rd b = s.rd b) ∧ s.clockKept t))

/-! ### The packets as bytes -/

/-- A packet that carries a command reads back as that command, with its opcode, world, SEQ, ACK, CTR, payload and tag at every value that
a packet can hold; its CRC is right, and its bytes on either port do what the command itself does (R321 to R325). -/
def Obligations.PacketsReadBackAsTheirCommands : Prop :=
  ∀ (i : Link → Hdr → List Byte → Instr) (op : Nat), PacketOp i op → ∀ (h : Hdr) (p : List Byte), hdrFits h p = true →
    readCmd (hdrPacket h op p) = hdrCmd h op p ∧ crcRight (hdrPacket h op p) = true ∧
    packetLen (hdrPacket h op p) = (hdrPacket h op p).length ∧
    ∀ s : State, exec (.spiWrite (hdrPacket h op p)) s = exec (i .spi h p) s ∧ exec (.uartPacket (hdrPacket h op p)) s = exec (i .uart h p) s

/-! ### What every step keeps -/

/-- Every command completes in every state: no command ends in a fault or is refused. -/
def Obligations.EveryCommandCompletes : Prop :=
  ∀ (c : Instr) (s : State), ∃ t, exec c s = .next t

/-- No command touches the commands that wait behind it. -/
def Obligations.CommandsLeaveTheQueueAlone : Prop :=
  ∀ (c : Instr) (s t : State), exec c s = .next t → t.pending = s.pending

/-- No leg ever has both of its outputs on: a step from a state without such a leg leads to none (R175 and its note). -/
def Obligations.NoLegHasBothOutputsOn : Prop :=
  ∀ s t : State, (∀ l, ¬ ((s.leg l).outH = true ∧ (s.leg l).outL = true)) → step s = .next t →
    ∀ l, ¬ ((t.leg l).outH = true ∧ (t.leg l).outL = true)

/-- SYS_MODE.MODE always names one of the six modes (R330, R375). -/
def Obligations.TheModeStaysLegal : Prop :=
  ∀ s t : State, s.get F.SYS_MODE_MODE ≤ 5 → step s = .next t → t.get F.SYS_MODE_MODE ≤ 5

/-- Every step keeps the canonical form of the registers, the SRAM, the MRAM, the data memory and the banks: keys strictly rising, nothing
listed that an unlisted key reads as. -/
def Obligations.EveryStepKeepsTheStoresCanonical : Prop :=
  ∀ s t : State, s.Canonical → step s = .next t → t.Canonical

/-- Every step keeps the lengths of the lists that stand for a fixed number of like things. -/
def Obligations.EveryStepKeepsTheShape : Prop :=
  ∀ s t : State, s.Shaped → step s = .next t → t.Shaped

/-- The reset state has what every step keeps. -/
def Obligations.ResetHasTheInvariants : Prop :=
  State.reset.Shaped ∧ State.reset.Canonical ∧ State.reset.get F.SYS_MODE_MODE ≤ 5 ∧
  ∀ l, ¬ ((State.reset.leg l).outH = true ∧ (State.reset.leg l).outL = true)

/-! ### Comparing serial numbers -/

/-- R41: of two numbers of n bits, a is newer than b exactly when their distance (a − b) mod 2^n is more than 0 and less than 2^(n−1);
they are equal when it is 0; and in every other case, at 2^(n−1) too, a is older and never the newer one, nor is each newer than the
other. -/
def Obligations.SerialNumbersCompareByDistance : Prop :=
  ∀ n a b : Nat, 0 < n → a < 2 ^ n → b < 2 ^ n →
    let d := ((a : Int) - b) % 2 ^ n
    (newer n a b = true ↔ 0 < d ∧ d < 2 ^ (n - 1)) ∧ (d = 0 ↔ a = b) ∧ (d = 2 ^ (n - 1) → newer n a b = false) ∧
    (newer n a b = true → newer n b a = false)
end

