-- ==== Sys2Proof/Laws/Bits.lean ====
section
/-! SUPPORT. Laws/Bits.lean: what a bit field reads as after it, or another field of its word, is set. -/

namespace Sys2Proof.Machine

theorem getBits_eq (v : Word) (lo w : Nat) : getBits v lo w = (v >>> lo).toNat % 2 ^ w := by
  simp [getBits, Nat.shiftRight_eq_div_pow]

theorem getBits_lt (v : Word) (lo w : Nat) : getBits v lo w < 2 ^ w := Nat.mod_lt _ (Nat.two_pow_pos w)

theorem testBit_getBits (v : Word) (lo w i : Nat) : (getBits v lo w).testBit i = (decide (i < w) && v.getLsbD (lo + i)) := by
  simp [getBits, Nat.testBit_mod_two_pow, Nat.testBit_div_two_pow, BitVec.getLsbD, Nat.add_comm]

/-- The word with one field replaced, bit by bit. -/
theorem getLsbD_setBits (v : Word) (lo w n i : Nat) (h : lo + w ≤ 32) :
    (setBits v lo w n).getLsbD i = if lo ≤ i ∧ i < lo + w then n.testBit (i - lo) else v.getLsbD i := by
  have hv := v.isLt
  have hg : getBits v lo w < 2 ^ w := getBits_lt v lo w
  have hn : n % 2 ^ w < 2 ^ w := Nat.mod_lt _ (Nat.two_pow_pos w)
  have hsplit : v.toNat = v.toNat % 2 ^ lo + 2 ^ lo * (getBits v lo w + 2 ^ w * (v.toNat / 2 ^ (lo + w))) := by
    have e1 := Nat.mod_add_div v.toNat (2 ^ lo)
    have e2 := Nat.mod_add_div (v.toNat / 2 ^ lo) (2 ^ w)
    rw [Nat.div_div_eq_div_mul, ← Nat.pow_add] at e2
    unfold getBits
    rw [e2, e1]
  have hnew : v.toNat - getBits v lo w * 2 ^ lo + n % 2 ^ w * 2 ^ lo =
      v.toNat % 2 ^ lo + 2 ^ lo * (n % 2 ^ w + 2 ^ w * (v.toNat / 2 ^ (lo + w))) := by
    generalize hA : v.toNat % 2 ^ lo = A at *
    generalize hB : v.toNat / 2 ^ (lo + w) = B at *
    generalize hG : getBits v lo w = G at *
    generalize hN : n % 2 ^ w = N at *
    generalize hP : 2 ^ lo = P at *
    generalize hQ : 2 ^ w = Q at *
    rw [hsplit, Nat.mul_add, Nat.mul_add, Nat.mul_comm G P, Nat.mul_comm N P]
    omega
  have hlow : v.toNat % 2 ^ lo < 2 ^ lo := Nat.mod_lt _ (Nat.two_pow_pos lo)
  have hbit : ∀ m : Nat, m < 2 ^ w → ∀ j, (v.toNat % 2 ^ lo + 2 ^ lo * (m + 2 ^ w * (v.toNat / 2 ^ (lo + w)))).testBit j =
      if lo ≤ j ∧ j < lo + w then m.testBit (j - lo) else v.toNat.testBit j := by
    intro m hm j
    rw [Nat.add_comm, Nat.testBit_two_pow_mul_add _ hlow, Nat.add_comm m, ]
    by_cases h1 : j < lo
    · have : ¬ (lo ≤ j ∧ j < lo + w) := by omega
      rw [if_pos h1, if_neg this, Nat.testBit_mod_two_pow]
      simp [h1]
    · rw [if_neg h1, Nat.testBit_two_pow_mul_add _ hm]
      by_cases h2 : j - lo < w
      · have : lo ≤ j ∧ j < lo + w := by omega
        rw [if_pos h2, if_pos this]
      · have : ¬ (lo ≤ j ∧ j < lo + w) := by omega
        rw [if_neg h2, if_neg this, Nat.testBit_div_two_pow]
        congr 1
        omega
  unfold setBits
  rw [BitVec.getLsbD_ofNat, hnew, hbit _ hn]
  by_cases hi : i < 32
  · simp only [hi, decide_true, Bool.true_and, Nat.testBit_mod_two_pow, BitVec.getLsbD]
    split
    · rename_i hh
      have : i - lo < w := by omega
      simp [this]
    · rfl
  · have : ¬ (lo ≤ i ∧ i < lo + w) := by omega
    rw [if_neg this, BitVec.getLsbD_of_ge v i (by omega)]
    simp [hi]
    omega

/-- A field reads back what was put into it. -/
theorem getBits_setBits_same (v : Word) (lo w n : Nat) (h : lo + w ≤ 32) : getBits (setBits v lo w n) lo w = n % 2 ^ w := by
  apply Nat.eq_of_testBit_eq
  intro i
  rw [testBit_getBits, getLsbD_setBits v lo w n _ h, Nat.testBit_mod_two_pow]
  by_cases hi : i < w
  · have h1 : lo ≤ lo + i ∧ lo + i < lo + w := by omega
    rw [if_pos h1, Nat.add_sub_cancel_left]
  · simp [hi]

/-- A field apart from the one that was set reads as before. -/
theorem getBits_setBits_apart (v : Word) (lo w lo' w' n : Nat) (h : lo + w ≤ 32) (hd : lo' + w' ≤ lo ∨ lo + w ≤ lo') :
    getBits (setBits v lo w n) lo' w' = getBits v lo' w' := by
  apply Nat.eq_of_testBit_eq
  intro i
  rw [testBit_getBits, testBit_getBits, getLsbD_setBits v lo w n _ h]
  by_cases hi : i < w'
  · have h1 : ¬ (lo ≤ lo' + i ∧ lo' + i < lo + w) := by omega
    rw [if_neg h1]
  · simp [hi]

end Sys2Proof.Machine
end

