-- ==== Sys2Proof/Laws/Cells.lean ====
section
/-! SUPPORT. Laws/Cells.lean: what reading a sparse store gives after a write, and that a write keeps the canonical form. -/

namespace Sys2Proof.Machine

variable {α : Type}

theorem cellGet_cellDrop (d : Nat → α) (m : List (Nat × α)) (a b : Nat) :
    cellGet d (cellDrop m a) b = if b = a then d b else cellGet d m b := by
  induction m with
  | nil => simp [cellGet, cellDrop]
  | cons p m ih =>
    obtain ⟨k, w⟩ := p
    by_cases hk : k = a
    · subst hk
      simp only [cellDrop, if_true, ih, cellGet]
      split
      · rfl
      · rename_i h
        rw [if_neg (fun e => h e.symm)]
    · simp only [cellDrop, hk, if_false, cellGet, ih]
      by_cases hb : k = b
      · subst hb
        simp [hk]
      · simp [hb]

theorem cellGet_cellInsert (d : Nat → α) (m : List (Nat × α)) (a b : Nat) (v : α) (h : cellGet d m a = d a ∨ b ≠ a)
    (hm : ∀ p ∈ m, p.1 ≠ a) : cellGet d (cellInsert m a v) b = if b = a then v else cellGet d m b := by
  induction m with
  | nil =>
    simp only [cellInsert, cellGet]
    by_cases hb : b = a
    · simp [hb]
    · rw [if_neg (fun e => hb e.symm), if_neg hb]
  | cons p m ih =>
    obtain ⟨k, w⟩ := p
    have hk : k ≠ a := hm (k, w) (List.mem_cons_self ..)
    have hm' : ∀ p ∈ m, p.1 ≠ a := fun p hp => hm p (List.mem_cons_of_mem _ hp)
    have h' : cellGet d m a = d a ∨ b ≠ a := by
      rcases h with h | h
      · exact Or.inl (by simpa [cellGet, hk] using h)
      · exact Or.inr h
    unfold cellInsert
    by_cases hak : a < k
    · simp only [hak, if_true, cellGet]
      by_cases hb : b = a
      · simp [hb]
      · rw [if_neg (fun e => hb e.symm), if_neg hb]
    · simp only [hak, if_false, cellGet, ih h' hm']
      by_cases hkb : k = b
      · subst hkb
        simp [hk]
      · simp [hkb]

theorem mem_cellDrop (m : List (Nat × α)) (a : Nat) (p : Nat × α) : p ∈ cellDrop m a ↔ p ∈ m ∧ p.1 ≠ a := by
  induction m with
  | nil => simp [cellDrop]
  | cons q m ih =>
    obtain ⟨k, w⟩ := q
    by_cases hk : k = a
    · simp only [cellDrop, hk, if_true, ih, List.mem_cons]
      constructor
      · exact fun h => ⟨Or.inr h.1, h.2⟩
      · rintro ⟨rfl | h, hne⟩
        · exact absurd rfl hne
        · exact ⟨h, hne⟩
    · simp only [cellDrop, hk, if_false, List.mem_cons, ih]
      constructor
      · rintro (rfl | h)
        · exact ⟨Or.inl rfl, hk⟩
        · exact ⟨Or.inr h.1, h.2⟩
      · rintro ⟨rfl | h, hne⟩
        · exact Or.inl rfl
        · exact Or.inr ⟨h, hne⟩

/-- A store reads back what was written last at a key, and elsewhere what it read before. -/
theorem cellGet_cellSet [DecidableEq α] (d : Nat → α) (m : List (Nat × α)) (a b : Nat) (v : α) :
    cellGet d (cellSet d m a v) b = if b = a then v else cellGet d m b := by
  unfold cellSet
  by_cases hv : v = d a
  · rw [if_pos hv, cellGet_cellDrop]
    by_cases hb : b = a
    · simp [hb, hv]
    · simp [hb]
  · rw [if_neg hv, cellGet_cellInsert d _ a b v (Or.inl (by rw [cellGet_cellDrop]; simp))
      (fun p hp => ((mem_cellDrop m a p).1 hp).2), cellGet_cellDrop]
    by_cases hb : b = a <;> simp [hb]

/-! ### The canonical form -/

theorem cellWf_weaken [DecidableEq α] (d : Nat → α) (m : List (Nat × α)) (lo lo' : Nat) (h : lo' ≤ lo) (hm : cellWf d lo m = true) :
    cellWf d lo' m = true := by
  cases m with
  | nil => rfl
  | cons p m =>
    obtain ⟨k, w⟩ := p
    simp only [cellWf, Bool.and_eq_true, decide_eq_true_eq] at hm ⊢
    exact ⟨⟨Nat.le_trans h hm.1.1, hm.1.2⟩, hm.2⟩

theorem cellWf_cellDrop [DecidableEq α] (d : Nat → α) (m : List (Nat × α)) (a lo : Nat) (hm : cellWf d lo m = true) :
    cellWf d lo (cellDrop m a) = true := by
  induction m generalizing lo with
  | nil => rfl
  | cons p m ih =>
    obtain ⟨k, w⟩ := p
    simp only [cellWf, Bool.and_eq_true, decide_eq_true_eq] at hm
    by_cases hk : k = a
    · simp only [cellDrop, hk, if_true]
      exact ih lo (cellWf_weaken d m (k + 1) lo (by omega) hm.2)
    · simp only [cellDrop, hk, if_false, cellWf, Bool.and_eq_true, decide_eq_true_eq]
      exact ⟨hm.1, ih (k + 1) hm.2⟩

theorem cellWf_cellInsert [DecidableEq α] (d : Nat → α) (m : List (Nat × α)) (a lo : Nat) (v : α) (hv : v ≠ d a) (hlo : lo ≤ a)
    (hn : ∀ p ∈ m, p.1 ≠ a) (hm : cellWf d lo m = true) : cellWf d lo (cellInsert m a v) = true := by
  induction m generalizing lo with
  | nil => simp [cellInsert, cellWf, hv, hlo]
  | cons p m ih =>
    obtain ⟨k, w⟩ := p
    have hk : k ≠ a := hn (k, w) (List.mem_cons_self ..)
    simp only [cellWf, Bool.and_eq_true, decide_eq_true_eq] at hm
    unfold cellInsert
    by_cases hak : a < k
    · simp only [hak, if_true, cellWf, Bool.and_eq_true, decide_eq_true_eq]
      exact ⟨⟨hlo, hv⟩, ⟨by omega, hm.1.2⟩, hm.2⟩
    · simp only [hak, if_false, cellWf, Bool.and_eq_true, decide_eq_true_eq]
      exact ⟨hm.1, ih (k + 1) (by omega) (fun p hp => hn p (List.mem_cons_of_mem _ hp)) hm.2⟩

/-- A write keeps the canonical form, at a key not below its bound. -/
theorem cellWf_cellSet [DecidableEq α] (d : Nat → α) (m : List (Nat × α)) (a lo : Nat) (v : α) (hlo : lo ≤ a)
    (hm : cellWf d lo m = true) : cellWf d lo (cellSet d m a v) = true := by
  unfold cellSet
  by_cases hv : v = d a
  · rw [if_pos hv]
    exact cellWf_cellDrop d m a lo hm
  · rw [if_neg hv]
    exact cellWf_cellInsert d _ a lo v hv hlo (fun p hp => ((mem_cellDrop m a p).1 hp).2) (cellWf_cellDrop d m a lo hm)

/-- Taking entries out by their keys keeps the canonical form. -/
theorem cellWf_filter [DecidableEq α] (d : Nat → α) (m : List (Nat × α)) (f : Nat × α → Bool) (lo : Nat) (hm : cellWf d lo m = true) :
    cellWf d lo (m.filter f) = true := by
  induction m generalizing lo with
  | nil => rfl
  | cons p m ih =>
    obtain ⟨k, w⟩ := p
    simp only [cellWf, Bool.and_eq_true, decide_eq_true_eq] at hm
    by_cases hf : f (k, w) = true
    · simp only [List.filter_cons, hf, if_true, cellWf, Bool.and_eq_true, decide_eq_true_eq]
      exact ⟨hm.1, ih (k + 1) hm.2⟩
    · simp only [List.filter_cons, hf]
      exact ih lo (cellWf_weaken d m (k + 1) lo (by omega) hm.2)

end Sys2Proof.Machine
end

