-- ==== Sys2Proof/Laws/State.lean ====
section
/-! SUPPORT. Laws/State.lean: for each named update of the state, the fields that it leaves as they are. Generated. -/

namespace Sys2Proof.Machine

variable (s : State)

@[simp] theorem State.wr_cycle (a : Nat) (v : Word) : (s.wr a v).cycle = s.cycle := rfl
@[simp] theorem State.wr_sys (a : Nat) (v : Word) : (s.wr a v).sys = s.sys := rfl
@[simp] theorem State.wr_clk (a : Nat) (v : Word) : (s.wr a v).clk = s.clk := rfl
@[simp] theorem State.wr_otp (a : Nat) (v : Word) : (s.wr a v).otp = s.otp := rfl
@[simp] theorem State.wr_tap (a : Nat) (v : Word) : (s.wr a v).tap = s.tap := rfl
@[simp] theorem State.wr_mem (a : Nat) (v : Word) : (s.wr a v).mem = s.mem := rfl
@[simp] theorem State.wr_dma (a : Nat) (v : Word) : (s.wr a v).dma = s.dma := rfl
@[simp] theorem State.wr_events (a : Nat) (v : Word) : (s.wr a v).events = s.events := rfl
@[simp] theorem State.wr_stew (a : Nat) (v : Word) : (s.wr a v).stew = s.stew := rfl
@[simp] theorem State.wr_cfg (a : Nat) (v : Word) : (s.wr a v).cfg = s.cfg := rfl
@[simp] theorem State.wr_tst (a : Nat) (v : Word) : (s.wr a v).tst = s.tst := rfl
@[simp] theorem State.wr_loom (a : Nat) (v : Word) : (s.wr a v).loom = s.loom := rfl
@[simp] theorem State.wr_gdp (a : Nat) (v : Word) : (s.wr a v).gdp = s.gdp := rfl
@[simp] theorem State.wr_cmp (a : Nat) (v : Word) : (s.wr a v).cmp = s.cmp := rfl
@[simp] theorem State.wr_acq (a : Nat) (v : Word) : (s.wr a v).acq = s.acq := rfl
@[simp] theorem State.wr_prism (a : Nat) (v : Word) : (s.wr a v).prism = s.prism := rfl
@[simp] theorem State.wr_wvn (a : Nat) (v : Word) : (s.wr a v).wvn = s.wvn := rfl
@[simp] theorem State.wr_mill (a : Nat) (v : Word) : (s.wr a v).mill = s.mill := rfl
@[simp] theorem State.wr_tasks (a : Nat) (v : Word) : (s.wr a v).tasks = s.tasks := rfl
@[simp] theorem State.wr_grn (a : Nat) (v : Word) : (s.wr a v).grn = s.grn := rfl
@[simp] theorem State.wr_shf (a : Nat) (v : Word) : (s.wr a v).shf = s.shf := rfl
@[simp] theorem State.wr_safe (a : Nat) (v : Word) : (s.wr a v).safe = s.safe := rfl
@[simp] theorem State.wr_ring (a : Nat) (v : Word) : (s.wr a v).ring = s.ring := rfl
@[simp] theorem State.wr_draws (a : Nat) (v : Word) : (s.wr a v).draws = s.draws := rfl
@[simp] theorem State.wr_pending (a : Nat) (v : Word) : (s.wr a v).pending = s.pending := rfl

@[simp] theorem State.put_sys (f : Fld) (n : Nat) : (s.put f n).sys = s.sys := rfl
@[simp] theorem State.put_clk (f : Fld) (n : Nat) : (s.put f n).clk = s.clk := rfl
@[simp] theorem State.put_otp (f : Fld) (n : Nat) : (s.put f n).otp = s.otp := rfl
@[simp] theorem State.put_tap (f : Fld) (n : Nat) : (s.put f n).tap = s.tap := rfl
@[simp] theorem State.put_mem (f : Fld) (n : Nat) : (s.put f n).mem = s.mem := rfl
@[simp] theorem State.put_dma (f : Fld) (n : Nat) : (s.put f n).dma = s.dma := rfl
@[simp] theorem State.put_events (f : Fld) (n : Nat) : (s.put f n).events = s.events := rfl
@[simp] theorem State.put_stew (f : Fld) (n : Nat) : (s.put f n).stew = s.stew := rfl
@[simp] theorem State.put_cfg (f : Fld) (n : Nat) : (s.put f n).cfg = s.cfg := rfl
@[simp] theorem State.put_tst (f : Fld) (n : Nat) : (s.put f n).tst = s.tst := rfl
@[simp] theorem State.put_loom (f : Fld) (n : Nat) : (s.put f n).loom = s.loom := rfl
@[simp] theorem State.put_gdp (f : Fld) (n : Nat) : (s.put f n).gdp = s.gdp := rfl
@[simp] theorem State.put_cmp (f : Fld) (n : Nat) : (s.put f n).cmp = s.cmp := rfl
@[simp] theorem State.put_acq (f : Fld) (n : Nat) : (s.put f n).acq = s.acq := rfl
@[simp] theorem State.put_prism (f : Fld) (n : Nat) : (s.put f n).prism = s.prism := rfl
@[simp] theorem State.put_wvn (f : Fld) (n : Nat) : (s.put f n).wvn = s.wvn := rfl
@[simp] theorem State.put_mill (f : Fld) (n : Nat) : (s.put f n).mill = s.mill := rfl
@[simp] theorem State.put_tasks (f : Fld) (n : Nat) : (s.put f n).tasks = s.tasks := rfl
@[simp] theorem State.put_grn (f : Fld) (n : Nat) : (s.put f n).grn = s.grn := rfl
@[simp] theorem State.put_shf (f : Fld) (n : Nat) : (s.put f n).shf = s.shf := rfl
@[simp] theorem State.put_safe (f : Fld) (n : Nat) : (s.put f n).safe = s.safe := rfl
@[simp] theorem State.put_ring (f : Fld) (n : Nat) : (s.put f n).ring = s.ring := rfl
@[simp] theorem State.put_draws (f : Fld) (n : Nat) : (s.put f n).draws = s.draws := rfl
@[simp] theorem State.put_pending (f : Fld) (n : Nat) : (s.put f n).pending = s.pending := rfl

@[simp] theorem State.set1_sys (f : Fld) : (s.set1 f).sys = s.sys := rfl
@[simp] theorem State.set1_clk (f : Fld) : (s.set1 f).clk = s.clk := rfl
@[simp] theorem State.set1_otp (f : Fld) : (s.set1 f).otp = s.otp := rfl
@[simp] theorem State.set1_tap (f : Fld) : (s.set1 f).tap = s.tap := rfl
@[simp] theorem State.set1_mem (f : Fld) : (s.set1 f).mem = s.mem := rfl
@[simp] theorem State.set1_dma (f : Fld) : (s.set1 f).dma = s.dma := rfl
@[simp] theorem State.set1_events (f : Fld) : (s.set1 f).events = s.events := rfl
@[simp] theorem State.set1_stew (f : Fld) : (s.set1 f).stew = s.stew := rfl
@[simp] theorem State.set1_cfg (f : Fld) : (s.set1 f).cfg = s.cfg := rfl
@[simp] theorem State.set1_tst (f : Fld) : (s.set1 f).tst = s.tst := rfl
@[simp] theorem State.set1_loom (f : Fld) : (s.set1 f).loom = s.loom := rfl
@[simp] theorem State.set1_gdp (f : Fld) : (s.set1 f).gdp = s.gdp := rfl
@[simp] theorem State.set1_cmp (f : Fld) : (s.set1 f).cmp = s.cmp := rfl
@[simp] theorem State.set1_acq (f : Fld) : (s.set1 f).acq = s.acq := rfl
@[simp] theorem State.set1_prism (f : Fld) : (s.set1 f).prism = s.prism := rfl
@[simp] theorem State.set1_wvn (f : Fld) : (s.set1 f).wvn = s.wvn := rfl
@[simp] theorem State.set1_mill (f : Fld) : (s.set1 f).mill = s.mill := rfl
@[simp] theorem State.set1_tasks (f : Fld) : (s.set1 f).tasks = s.tasks := rfl
@[simp] theorem State.set1_grn (f : Fld) : (s.set1 f).grn = s.grn := rfl
@[simp] theorem State.set1_shf (f : Fld) : (s.set1 f).shf = s.shf := rfl
@[simp] theorem State.set1_safe (f : Fld) : (s.set1 f).safe = s.safe := rfl
@[simp] theorem State.set1_ring (f : Fld) : (s.set1 f).ring = s.ring := rfl
@[simp] theorem State.set1_draws (f : Fld) : (s.set1 f).draws = s.draws := rfl
@[simp] theorem State.set1_pending (f : Fld) : (s.set1 f).pending = s.pending := rfl

@[simp] theorem State.clr_sys (f : Fld) : (s.clr f).sys = s.sys := rfl
@[simp] theorem State.clr_clk (f : Fld) : (s.clr f).clk = s.clk := rfl
@[simp] theorem State.clr_otp (f : Fld) : (s.clr f).otp = s.otp := rfl
@[simp] theorem State.clr_tap (f : Fld) : (s.clr f).tap = s.tap := rfl
@[simp] theorem State.clr_mem (f : Fld) : (s.clr f).mem = s.mem := rfl
@[simp] theorem State.clr_dma (f : Fld) : (s.clr f).dma = s.dma := rfl
@[simp] theorem State.clr_events (f : Fld) : (s.clr f).events = s.events := rfl
@[simp] theorem State.clr_stew (f : Fld) : (s.clr f).stew = s.stew := rfl
@[simp] theorem State.clr_cfg (f : Fld) : (s.clr f).cfg = s.cfg := rfl
@[simp] theorem State.clr_tst (f : Fld) : (s.clr f).tst = s.tst := rfl
@[simp] theorem State.clr_loom (f : Fld) : (s.clr f).loom = s.loom := rfl
@[simp] theorem State.clr_gdp (f : Fld) : (s.clr f).gdp = s.gdp := rfl
@[simp] theorem State.clr_cmp (f : Fld) : (s.clr f).cmp = s.cmp := rfl
@[simp] theorem State.clr_acq (f : Fld) : (s.clr f).acq = s.acq := rfl
@[simp] theorem State.clr_prism (f : Fld) : (s.clr f).prism = s.prism := rfl
@[simp] theorem State.clr_wvn (f : Fld) : (s.clr f).wvn = s.wvn := rfl
@[simp] theorem State.clr_mill (f : Fld) : (s.clr f).mill = s.mill := rfl
@[simp] theorem State.clr_tasks (f : Fld) : (s.clr f).tasks = s.tasks := rfl
@[simp] theorem State.clr_grn (f : Fld) : (s.clr f).grn = s.grn := rfl
@[simp] theorem State.clr_shf (f : Fld) : (s.clr f).shf = s.shf := rfl
@[simp] theorem State.clr_safe (f : Fld) : (s.clr f).safe = s.safe := rfl
@[simp] theorem State.clr_ring (f : Fld) : (s.clr f).ring = s.ring := rfl
@[simp] theorem State.clr_draws (f : Fld) : (s.clr f).draws = s.draws := rfl
@[simp] theorem State.clr_pending (f : Fld) : (s.clr f).pending = s.pending := rfl

@[simp] theorem State.putB_sys (f : Fld) (b : Bool) : (s.putB f b).sys = s.sys := rfl
@[simp] theorem State.putB_clk (f : Fld) (b : Bool) : (s.putB f b).clk = s.clk := rfl
@[simp] theorem State.putB_otp (f : Fld) (b : Bool) : (s.putB f b).otp = s.otp := rfl
@[simp] theorem State.putB_tap (f : Fld) (b : Bool) : (s.putB f b).tap = s.tap := rfl
@[simp] theorem State.putB_mem (f : Fld) (b : Bool) : (s.putB f b).mem = s.mem := rfl
@[simp] theorem State.putB_dma (f : Fld) (b : Bool) : (s.putB f b).dma = s.dma := rfl
@[simp] theorem State.putB_events (f : Fld) (b : Bool) : (s.putB f b).events = s.events := rfl
@[simp] theorem State.putB_stew (f : Fld) (b : Bool) : (s.putB f b).stew = s.stew := rfl
@[simp] theorem State.putB_cfg (f : Fld) (b : Bool) : (s.putB f b).cfg = s.cfg := rfl
@[simp] theorem State.putB_tst (f : Fld) (b : Bool) : (s.putB f b).tst = s.tst := rfl
@[simp] theorem State.putB_loom (f : Fld) (b : Bool) : (s.putB f b).loom = s.loom := rfl
@[simp] theorem State.putB_gdp (f : Fld) (b : Bool) : (s.putB f b).gdp = s.gdp := rfl
@[simp] theorem State.putB_cmp (f : Fld) (b : Bool) : (s.putB f b).cmp = s.cmp := rfl
@[simp] theorem State.putB_acq (f : Fld) (b : Bool) : (s.putB f b).acq = s.acq := rfl
@[simp] theorem State.putB_prism (f : Fld) (b : Bool) : (s.putB f b).prism = s.prism := rfl
@[simp] theorem State.putB_wvn (f : Fld) (b : Bool) : (s.putB f b).wvn = s.wvn := rfl
@[simp] theorem State.putB_mill (f : Fld) (b : Bool) : (s.putB f b).mill = s.mill := rfl
@[simp] theorem State.putB_tasks (f : Fld) (b : Bool) : (s.putB f b).tasks = s.tasks := rfl
@[simp] theorem State.putB_grn (f : Fld) (b : Bool) : (s.putB f b).grn = s.grn := rfl
@[simp] theorem State.putB_shf (f : Fld) (b : Bool) : (s.putB f b).shf = s.shf := rfl
@[simp] theorem State.putB_safe (f : Fld) (b : Bool) : (s.putB f b).safe = s.safe := rfl
@[simp] theorem State.putB_ring (f : Fld) (b : Bool) : (s.putB f b).ring = s.ring := rfl
@[simp] theorem State.putB_draws (f : Fld) (b : Bool) : (s.putB f b).draws = s.draws := rfl
@[simp] theorem State.putB_pending (f : Fld) (b : Bool) : (s.putB f b).pending = s.pending := rfl

@[simp] theorem State.incW_sys (f : Fld) : (s.incW f).sys = s.sys := rfl
@[simp] theorem State.incW_clk (f : Fld) : (s.incW f).clk = s.clk := rfl
@[simp] theorem State.incW_otp (f : Fld) : (s.incW f).otp = s.otp := rfl
@[simp] theorem State.incW_tap (f : Fld) : (s.incW f).tap = s.tap := rfl
@[simp] theorem State.incW_mem (f : Fld) : (s.incW f).mem = s.mem := rfl
@[simp] theorem State.incW_dma (f : Fld) : (s.incW f).dma = s.dma := rfl
@[simp] theorem State.incW_events (f : Fld) : (s.incW f).events = s.events := rfl
@[simp] theorem State.incW_stew (f : Fld) : (s.incW f).stew = s.stew := rfl
@[simp] theorem State.incW_cfg (f : Fld) : (s.incW f).cfg = s.cfg := rfl
@[simp] theorem State.incW_tst (f : Fld) : (s.incW f).tst = s.tst := rfl
@[simp] theorem State.incW_loom (f : Fld) : (s.incW f).loom = s.loom := rfl
@[simp] theorem State.incW_gdp (f : Fld) : (s.incW f).gdp = s.gdp := rfl
@[simp] theorem State.incW_cmp (f : Fld) : (s.incW f).cmp = s.cmp := rfl
@[simp] theorem State.incW_acq (f : Fld) : (s.incW f).acq = s.acq := rfl
@[simp] theorem State.incW_prism (f : Fld) : (s.incW f).prism = s.prism := rfl
@[simp] theorem State.incW_wvn (f : Fld) : (s.incW f).wvn = s.wvn := rfl
@[simp] theorem State.incW_mill (f : Fld) : (s.incW f).mill = s.mill := rfl
@[simp] theorem State.incW_tasks (f : Fld) : (s.incW f).tasks = s.tasks := rfl
@[simp] theorem State.incW_grn (f : Fld) : (s.incW f).grn = s.grn := rfl
@[simp] theorem State.incW_shf (f : Fld) : (s.incW f).shf = s.shf := rfl
@[simp] theorem State.incW_safe (f : Fld) : (s.incW f).safe = s.safe := rfl
@[simp] theorem State.incW_ring (f : Fld) : (s.incW f).ring = s.ring := rfl
@[simp] theorem State.incW_draws (f : Fld) : (s.incW f).draws = s.draws := rfl
@[simp] theorem State.incW_pending (f : Fld) : (s.incW f).pending = s.pending := rfl

@[simp] theorem State.incS_sys (f : Fld) : (s.incS f).sys = s.sys := rfl
@[simp] theorem State.incS_clk (f : Fld) : (s.incS f).clk = s.clk := rfl
@[simp] theorem State.incS_otp (f : Fld) : (s.incS f).otp = s.otp := rfl
@[simp] theorem State.incS_tap (f : Fld) : (s.incS f).tap = s.tap := rfl
@[simp] theorem State.incS_mem (f : Fld) : (s.incS f).mem = s.mem := rfl
@[simp] theorem State.incS_dma (f : Fld) : (s.incS f).dma = s.dma := rfl
@[simp] theorem State.incS_events (f : Fld) : (s.incS f).events = s.events := rfl
@[simp] theorem State.incS_stew (f : Fld) : (s.incS f).stew = s.stew := rfl
@[simp] theorem State.incS_cfg (f : Fld) : (s.incS f).cfg = s.cfg := rfl
@[simp] theorem State.incS_tst (f : Fld) : (s.incS f).tst = s.tst := rfl
@[simp] theorem State.incS_loom (f : Fld) : (s.incS f).loom = s.loom := rfl
@[simp] theorem State.incS_gdp (f : Fld) : (s.incS f).gdp = s.gdp := rfl
@[simp] theorem State.incS_cmp (f : Fld) : (s.incS f).cmp = s.cmp := rfl
@[simp] theorem State.incS_acq (f : Fld) : (s.incS f).acq = s.acq := rfl
@[simp] theorem State.incS_prism (f : Fld) : (s.incS f).prism = s.prism := rfl
@[simp] theorem State.incS_wvn (f : Fld) : (s.incS f).wvn = s.wvn := rfl
@[simp] theorem State.incS_mill (f : Fld) : (s.incS f).mill = s.mill := rfl
@[simp] theorem State.incS_tasks (f : Fld) : (s.incS f).tasks = s.tasks := rfl
@[simp] theorem State.incS_grn (f : Fld) : (s.incS f).grn = s.grn := rfl
@[simp] theorem State.incS_shf (f : Fld) : (s.incS f).shf = s.shf := rfl
@[simp] theorem State.incS_safe (f : Fld) : (s.incS f).safe = s.safe := rfl
@[simp] theorem State.incS_ring (f : Fld) : (s.incS f).ring = s.ring := rfl
@[simp] theorem State.incS_draws (f : Fld) : (s.incS f).draws = s.draws := rfl
@[simp] theorem State.incS_pending (f : Fld) : (s.incS f).pending = s.pending := rfl

@[simp] theorem State.putBit_sys (a i : Nat) (b : Bool) : (s.putBit a i b).sys = s.sys := rfl
@[simp] theorem State.putBit_clk (a i : Nat) (b : Bool) : (s.putBit a i b).clk = s.clk := rfl
@[simp] theorem State.putBit_otp (a i : Nat) (b : Bool) : (s.putBit a i b).otp = s.otp := rfl
@[simp] theorem State.putBit_tap (a i : Nat) (b : Bool) : (s.putBit a i b).tap = s.tap := rfl
@[simp] theorem State.putBit_mem (a i : Nat) (b : Bool) : (s.putBit a i b).mem = s.mem := rfl
@[simp] theorem State.putBit_dma (a i : Nat) (b : Bool) : (s.putBit a i b).dma = s.dma := rfl
@[simp] theorem State.putBit_events (a i : Nat) (b : Bool) : (s.putBit a i b).events = s.events := rfl
@[simp] theorem State.putBit_stew (a i : Nat) (b : Bool) : (s.putBit a i b).stew = s.stew := rfl
@[simp] theorem State.putBit_cfg (a i : Nat) (b : Bool) : (s.putBit a i b).cfg = s.cfg := rfl
@[simp] theorem State.putBit_tst (a i : Nat) (b : Bool) : (s.putBit a i b).tst = s.tst := rfl
@[simp] theorem State.putBit_loom (a i : Nat) (b : Bool) : (s.putBit a i b).loom = s.loom := rfl
@[simp] theorem State.putBit_gdp (a i : Nat) (b : Bool) : (s.putBit a i b).gdp = s.gdp := rfl
@[simp] theorem State.putBit_cmp (a i : Nat) (b : Bool) : (s.putBit a i b).cmp = s.cmp := rfl
@[simp] theorem State.putBit_acq (a i : Nat) (b : Bool) : (s.putBit a i b).acq = s.acq := rfl
@[simp] theorem State.putBit_prism (a i : Nat) (b : Bool) : (s.putBit a i b).prism = s.prism := rfl
@[simp] theorem State.putBit_wvn (a i : Nat) (b : Bool) : (s.putBit a i b).wvn = s.wvn := rfl
@[simp] theorem State.putBit_mill (a i : Nat) (b : Bool) : (s.putBit a i b).mill = s.mill := rfl
@[simp] theorem State.putBit_tasks (a i : Nat) (b : Bool) : (s.putBit a i b).tasks = s.tasks := rfl
@[simp] theorem State.putBit_grn (a i : Nat) (b : Bool) : (s.putBit a i b).grn = s.grn := rfl
@[simp] theorem State.putBit_shf (a i : Nat) (b : Bool) : (s.putBit a i b).shf = s.shf := rfl
@[simp] theorem State.putBit_safe (a i : Nat) (b : Bool) : (s.putBit a i b).safe = s.safe := rfl
@[simp] theorem State.putBit_ring (a i : Nat) (b : Bool) : (s.putBit a i b).ring = s.ring := rfl
@[simp] theorem State.putBit_draws (a i : Nat) (b : Bool) : (s.putBit a i b).draws = s.draws := rfl
@[simp] theorem State.putBit_pending (a i : Nat) (b : Bool) : (s.putBit a i b).pending = s.pending := rfl

@[simp] theorem State.markSet_regs (a : Nat) (v : Word) : (s.markSet a v).regs = s.regs := rfl
@[simp] theorem State.markSet_sys (a : Nat) (v : Word) : (s.markSet a v).sys = s.sys := rfl
@[simp] theorem State.markSet_clk (a : Nat) (v : Word) : (s.markSet a v).clk = s.clk := rfl
@[simp] theorem State.markSet_otp (a : Nat) (v : Word) : (s.markSet a v).otp = s.otp := rfl
@[simp] theorem State.markSet_tap (a : Nat) (v : Word) : (s.markSet a v).tap = s.tap := rfl
@[simp] theorem State.markSet_mem (a : Nat) (v : Word) : (s.markSet a v).mem = s.mem := rfl
@[simp] theorem State.markSet_dma (a : Nat) (v : Word) : (s.markSet a v).dma = s.dma := rfl
@[simp] theorem State.markSet_events (a : Nat) (v : Word) : (s.markSet a v).events = s.events := rfl
@[simp] theorem State.markSet_stew (a : Nat) (v : Word) : (s.markSet a v).stew = s.stew := rfl
@[simp] theorem State.markSet_cfg (a : Nat) (v : Word) : (s.markSet a v).cfg = s.cfg := rfl
@[simp] theorem State.markSet_tst (a : Nat) (v : Word) : (s.markSet a v).tst = s.tst := rfl
@[simp] theorem State.markSet_loom (a : Nat) (v : Word) : (s.markSet a v).loom = s.loom := rfl
@[simp] theorem State.markSet_gdp (a : Nat) (v : Word) : (s.markSet a v).gdp = s.gdp := rfl
@[simp] theorem State.markSet_cmp (a : Nat) (v : Word) : (s.markSet a v).cmp = s.cmp := rfl
@[simp] theorem State.markSet_acq (a : Nat) (v : Word) : (s.markSet a v).acq = s.acq := rfl
@[simp] theorem State.markSet_prism (a : Nat) (v : Word) : (s.markSet a v).prism = s.prism := rfl
@[simp] theorem State.markSet_wvn (a : Nat) (v : Word) : (s.markSet a v).wvn = s.wvn := rfl
@[simp] theorem State.markSet_mill (a : Nat) (v : Word) : (s.markSet a v).mill = s.mill := rfl
@[simp] theorem State.markSet_tasks (a : Nat) (v : Word) : (s.markSet a v).tasks = s.tasks := rfl
@[simp] theorem State.markSet_grn (a : Nat) (v : Word) : (s.markSet a v).grn = s.grn := rfl
@[simp] theorem State.markSet_shf (a : Nat) (v : Word) : (s.markSet a v).shf = s.shf := rfl
@[simp] theorem State.markSet_safe (a : Nat) (v : Word) : (s.markSet a v).safe = s.safe := rfl
@[simp] theorem State.markSet_ring (a : Nat) (v : Word) : (s.markSet a v).ring = s.ring := rfl
@[simp] theorem State.markSet_draws (a : Nat) (v : Word) : (s.markSet a v).draws = s.draws := rfl
@[simp] theorem State.markSet_pending (a : Nat) (v : Word) : (s.markSet a v).pending = s.pending := rfl

@[simp] theorem State.markWritten_regs (a : Nat) (v : Word) : (s.markWritten a v).regs = s.regs := rfl
@[simp] theorem State.markWritten_sys (a : Nat) (v : Word) : (s.markWritten a v).sys = s.sys := rfl
@[simp] theorem State.markWritten_clk (a : Nat) (v : Word) : (s.markWritten a v).clk = s.clk := rfl
@[simp] theorem State.markWritten_otp (a : Nat) (v : Word) : (s.markWritten a v).otp = s.otp := rfl
@[simp] theorem State.markWritten_tap (a : Nat) (v : Word) : (s.markWritten a v).tap = s.tap := rfl
@[simp] theorem State.markWritten_mem (a : Nat) (v : Word) : (s.markWritten a v).mem = s.mem := rfl
@[simp] theorem State.markWritten_dma (a : Nat) (v : Word) : (s.markWritten a v).dma = s.dma := rfl
@[simp] theorem State.markWritten_events (a : Nat) (v : Word) : (s.markWritten a v).events = s.events := rfl
@[simp] theorem State.markWritten_stew (a : Nat) (v : Word) : (s.markWritten a v).stew = s.stew := rfl
@[simp] theorem State.markWritten_cfg (a : Nat) (v : Word) : (s.markWritten a v).cfg = s.cfg := rfl
@[simp] theorem State.markWritten_tst (a : Nat) (v : Word) : (s.markWritten a v).tst = s.tst := rfl
@[simp] theorem State.markWritten_loom (a : Nat) (v : Word) : (s.markWritten a v).loom = s.loom := rfl
@[simp] theorem State.markWritten_gdp (a : Nat) (v : Word) : (s.markWritten a v).gdp = s.gdp := rfl
@[simp] theorem State.markWritten_cmp (a : Nat) (v : Word) : (s.markWritten a v).cmp = s.cmp := rfl
@[simp] theorem State.markWritten_acq (a : Nat) (v : Word) : (s.markWritten a v).acq = s.acq := rfl
@[simp] theorem State.markWritten_prism (a : Nat) (v : Word) : (s.markWritten a v).prism = s.prism := rfl
@[simp] theorem State.markWritten_wvn (a : Nat) (v : Word) : (s.markWritten a v).wvn = s.wvn := rfl
@[simp] theorem State.markWritten_mill (a : Nat) (v : Word) : (s.markWritten a v).mill = s.mill := rfl
@[simp] theorem State.markWritten_tasks (a : Nat) (v : Word) : (s.markWritten a v).tasks = s.tasks := rfl
@[simp] theorem State.markWritten_grn (a : Nat) (v : Word) : (s.markWritten a v).grn = s.grn := rfl
@[simp] theorem State.markWritten_shf (a : Nat) (v : Word) : (s.markWritten a v).shf = s.shf := rfl
@[simp] theorem State.markWritten_safe (a : Nat) (v : Word) : (s.markWritten a v).safe = s.safe := rfl
@[simp] theorem State.markWritten_ring (a : Nat) (v : Word) : (s.markWritten a v).ring = s.ring := rfl
@[simp] theorem State.markWritten_draws (a : Nat) (v : Word) : (s.markWritten a v).draws = s.draws := rfl
@[simp] theorem State.markWritten_pending (a : Nat) (v : Word) : (s.markWritten a v).pending = s.pending := rfl

@[simp] theorem State.drawn_regs : (s.drawn).regs = s.regs := rfl
@[simp] theorem State.drawn_cycle : (s.drawn).cycle = s.cycle := rfl
@[simp] theorem State.drawn_sys : (s.drawn).sys = s.sys := rfl
@[simp] theorem State.drawn_clk : (s.drawn).clk = s.clk := rfl
@[simp] theorem State.drawn_otp : (s.drawn).otp = s.otp := rfl
@[simp] theorem State.drawn_tap : (s.drawn).tap = s.tap := rfl
@[simp] theorem State.drawn_mem : (s.drawn).mem = s.mem := rfl
@[simp] theorem State.drawn_dma : (s.drawn).dma = s.dma := rfl
@[simp] theorem State.drawn_events : (s.drawn).events = s.events := rfl
@[simp] theorem State.drawn_stew : (s.drawn).stew = s.stew := rfl
@[simp] theorem State.drawn_cfg : (s.drawn).cfg = s.cfg := rfl
@[simp] theorem State.drawn_tst : (s.drawn).tst = s.tst := rfl
@[simp] theorem State.drawn_loom : (s.drawn).loom = s.loom := rfl
@[simp] theorem State.drawn_gdp : (s.drawn).gdp = s.gdp := rfl
@[simp] theorem State.drawn_cmp : (s.drawn).cmp = s.cmp := rfl
@[simp] theorem State.drawn_acq : (s.drawn).acq = s.acq := rfl
@[simp] theorem State.drawn_prism : (s.drawn).prism = s.prism := rfl
@[simp] theorem State.drawn_wvn : (s.drawn).wvn = s.wvn := rfl
@[simp] theorem State.drawn_mill : (s.drawn).mill = s.mill := rfl
@[simp] theorem State.drawn_tasks : (s.drawn).tasks = s.tasks := rfl
@[simp] theorem State.drawn_grn : (s.drawn).grn = s.grn := rfl
@[simp] theorem State.drawn_shf : (s.drawn).shf = s.shf := rfl
@[simp] theorem State.drawn_safe : (s.drawn).safe = s.safe := rfl
@[simp] theorem State.drawn_ring : (s.drawn).ring = s.ring := rfl
@[simp] theorem State.drawn_pending : (s.drawn).pending = s.pending := rfl

@[simp] theorem State.mramWrite_regs (a : Nat) (l : List Byte) : (s.mramWrite a l).regs = s.regs := rfl
@[simp] theorem State.mramWrite_cycle (a : Nat) (l : List Byte) : (s.mramWrite a l).cycle = s.cycle := rfl
@[simp] theorem State.mramWrite_sys (a : Nat) (l : List Byte) : (s.mramWrite a l).sys = s.sys := rfl
@[simp] theorem State.mramWrite_clk (a : Nat) (l : List Byte) : (s.mramWrite a l).clk = s.clk := rfl
@[simp] theorem State.mramWrite_otp (a : Nat) (l : List Byte) : (s.mramWrite a l).otp = s.otp := rfl
@[simp] theorem State.mramWrite_tap (a : Nat) (l : List Byte) : (s.mramWrite a l).tap = s.tap := rfl
@[simp] theorem State.mramWrite_dma (a : Nat) (l : List Byte) : (s.mramWrite a l).dma = s.dma := rfl
@[simp] theorem State.mramWrite_events (a : Nat) (l : List Byte) : (s.mramWrite a l).events = s.events := rfl
@[simp] theorem State.mramWrite_stew (a : Nat) (l : List Byte) : (s.mramWrite a l).stew = s.stew := rfl
@[simp] theorem State.mramWrite_cfg (a : Nat) (l : List Byte) : (s.mramWrite a l).cfg = s.cfg := rfl
@[simp] theorem State.mramWrite_tst (a : Nat) (l : List Byte) : (s.mramWrite a l).tst = s.tst := rfl
@[simp] theorem State.mramWrite_loom (a : Nat) (l : List Byte) : (s.mramWrite a l).loom = s.loom := rfl
@[simp] theorem State.mramWrite_gdp (a : Nat) (l : List Byte) : (s.mramWrite a l).gdp = s.gdp := rfl
@[simp] theorem State.mramWrite_cmp (a : Nat) (l : List Byte) : (s.mramWrite a l).cmp = s.cmp := rfl
@[simp] theorem State.mramWrite_acq (a : Nat) (l : List Byte) : (s.mramWrite a l).acq = s.acq := rfl
@[simp] theorem State.mramWrite_prism (a : Nat) (l : List Byte) : (s.mramWrite a l).prism = s.prism := rfl
@[simp] theorem State.mramWrite_wvn (a : Nat) (l : List Byte) : (s.mramWrite a l).wvn = s.wvn := rfl
@[simp] theorem State.mramWrite_mill (a : Nat) (l : List Byte) : (s.mramWrite a l).mill = s.mill := rfl
@[simp] theorem State.mramWrite_tasks (a : Nat) (l : List Byte) : (s.mramWrite a l).tasks = s.tasks := rfl
@[simp] theorem State.mramWrite_grn (a : Nat) (l : List Byte) : (s.mramWrite a l).grn = s.grn := rfl
@[simp] theorem State.mramWrite_shf (a : Nat) (l : List Byte) : (s.mramWrite a l).shf = s.shf := rfl
@[simp] theorem State.mramWrite_safe (a : Nat) (l : List Byte) : (s.mramWrite a l).safe = s.safe := rfl
@[simp] theorem State.mramWrite_ring (a : Nat) (l : List Byte) : (s.mramWrite a l).ring = s.ring := rfl
@[simp] theorem State.mramWrite_draws (a : Nat) (l : List Byte) : (s.mramWrite a l).draws = s.draws := rfl
@[simp] theorem State.mramWrite_pending (a : Nat) (l : List Byte) : (s.mramWrite a l).pending = s.pending := rfl

@[simp] theorem State.modMem_regs (f : Mem → Mem) : (s.modMem f).regs = s.regs := rfl
@[simp] theorem State.modMem_cycle (f : Mem → Mem) : (s.modMem f).cycle = s.cycle := rfl
@[simp] theorem State.modMem_sys (f : Mem → Mem) : (s.modMem f).sys = s.sys := rfl
@[simp] theorem State.modMem_clk (f : Mem → Mem) : (s.modMem f).clk = s.clk := rfl
@[simp] theorem State.modMem_otp (f : Mem → Mem) : (s.modMem f).otp = s.otp := rfl
@[simp] theorem State.modMem_tap (f : Mem → Mem) : (s.modMem f).tap = s.tap := rfl
@[simp] theorem State.modMem_dma (f : Mem → Mem) : (s.modMem f).dma = s.dma := rfl
@[simp] theorem State.modMem_events (f : Mem → Mem) : (s.modMem f).events = s.events := rfl
@[simp] theorem State.modMem_stew (f : Mem → Mem) : (s.modMem f).stew = s.stew := rfl
@[simp] theorem State.modMem_cfg (f : Mem → Mem) : (s.modMem f).cfg = s.cfg := rfl
@[simp] theorem State.modMem_tst (f : Mem → Mem) : (s.modMem f).tst = s.tst := rfl
@[simp] theorem State.modMem_loom (f : Mem → Mem) : (s.modMem f).loom = s.loom := rfl
@[simp] theorem State.modMem_gdp (f : Mem → Mem) : (s.modMem f).gdp = s.gdp := rfl
@[simp] theorem State.modMem_cmp (f : Mem → Mem) : (s.modMem f).cmp = s.cmp := rfl
@[simp] theorem State.modMem_acq (f : Mem → Mem) : (s.modMem f).acq = s.acq := rfl
@[simp] theorem State.modMem_prism (f : Mem → Mem) : (s.modMem f).prism = s.prism := rfl
@[simp] theorem State.modMem_wvn (f : Mem → Mem) : (s.modMem f).wvn = s.wvn := rfl
@[simp] theorem State.modMem_mill (f : Mem → Mem) : (s.modMem f).mill = s.mill := rfl
@[simp] theorem State.modMem_tasks (f : Mem → Mem) : (s.modMem f).tasks = s.tasks := rfl
@[simp] theorem State.modMem_grn (f : Mem → Mem) : (s.modMem f).grn = s.grn := rfl
@[simp] theorem State.modMem_shf (f : Mem → Mem) : (s.modMem f).shf = s.shf := rfl
@[simp] theorem State.modMem_safe (f : Mem → Mem) : (s.modMem f).safe = s.safe := rfl
@[simp] theorem State.modMem_ring (f : Mem → Mem) : (s.modMem f).ring = s.ring := rfl
@[simp] theorem State.modMem_draws (f : Mem → Mem) : (s.modMem f).draws = s.draws := rfl
@[simp] theorem State.modMem_pending (f : Mem → Mem) : (s.modMem f).pending = s.pending := rfl

@[simp] theorem State.modSys_regs (f : Sys → Sys) : (s.modSys f).regs = s.regs := rfl
@[simp] theorem State.modSys_cycle (f : Sys → Sys) : (s.modSys f).cycle = s.cycle := rfl
@[simp] theorem State.modSys_clk (f : Sys → Sys) : (s.modSys f).clk = s.clk := rfl
@[simp] theorem State.modSys_otp (f : Sys → Sys) : (s.modSys f).otp = s.otp := rfl
@[simp] theorem State.modSys_tap (f : Sys → Sys) : (s.modSys f).tap = s.tap := rfl
@[simp] theorem State.modSys_mem (f : Sys → Sys) : (s.modSys f).mem = s.mem := rfl
@[simp] theorem State.modSys_dma (f : Sys → Sys) : (s.modSys f).dma = s.dma := rfl
@[simp] theorem State.modSys_events (f : Sys → Sys) : (s.modSys f).events = s.events := rfl
@[simp] theorem State.modSys_stew (f : Sys → Sys) : (s.modSys f).stew = s.stew := rfl
@[simp] theorem State.modSys_cfg (f : Sys → Sys) : (s.modSys f).cfg = s.cfg := rfl
@[simp] theorem State.modSys_tst (f : Sys → Sys) : (s.modSys f).tst = s.tst := rfl
@[simp] theorem State.modSys_loom (f : Sys → Sys) : (s.modSys f).loom = s.loom := rfl
@[simp] theorem State.modSys_gdp (f : Sys → Sys) : (s.modSys f).gdp = s.gdp := rfl
@[simp] theorem State.modSys_cmp (f : Sys → Sys) : (s.modSys f).cmp = s.cmp := rfl
@[simp] theorem State.modSys_acq (f : Sys → Sys) : (s.modSys f).acq = s.acq := rfl
@[simp] theorem State.modSys_prism (f : Sys → Sys) : (s.modSys f).prism = s.prism := rfl
@[simp] theorem State.modSys_wvn (f : Sys → Sys) : (s.modSys f).wvn = s.wvn := rfl
@[simp] theorem State.modSys_mill (f : Sys → Sys) : (s.modSys f).mill = s.mill := rfl
@[simp] theorem State.modSys_tasks (f : Sys → Sys) : (s.modSys f).tasks = s.tasks := rfl
@[simp] theorem State.modSys_grn (f : Sys → Sys) : (s.modSys f).grn = s.grn := rfl
@[simp] theorem State.modSys_shf (f : Sys → Sys) : (s.modSys f).shf = s.shf := rfl
@[simp] theorem State.modSys_safe (f : Sys → Sys) : (s.modSys f).safe = s.safe := rfl
@[simp] theorem State.modSys_ring (f : Sys → Sys) : (s.modSys f).ring = s.ring := rfl
@[simp] theorem State.modSys_draws (f : Sys → Sys) : (s.modSys f).draws = s.draws := rfl
@[simp] theorem State.modSys_pending (f : Sys → Sys) : (s.modSys f).pending = s.pending := rfl

@[simp] theorem State.modClk_regs (f : Clk → Clk) : (s.modClk f).regs = s.regs := rfl
@[simp] theorem State.modClk_cycle (f : Clk → Clk) : (s.modClk f).cycle = s.cycle := rfl
@[simp] theorem State.modClk_sys (f : Clk → Clk) : (s.modClk f).sys = s.sys := rfl
@[simp] theorem State.modClk_otp (f : Clk → Clk) : (s.modClk f).otp = s.otp := rfl
@[simp] theorem State.modClk_tap (f : Clk → Clk) : (s.modClk f).tap = s.tap := rfl
@[simp] theorem State.modClk_mem (f : Clk → Clk) : (s.modClk f).mem = s.mem := rfl
@[simp] theorem State.modClk_dma (f : Clk → Clk) : (s.modClk f).dma = s.dma := rfl
@[simp] theorem State.modClk_events (f : Clk → Clk) : (s.modClk f).events = s.events := rfl
@[simp] theorem State.modClk_stew (f : Clk → Clk) : (s.modClk f).stew = s.stew := rfl
@[simp] theorem State.modClk_cfg (f : Clk → Clk) : (s.modClk f).cfg = s.cfg := rfl
@[simp] theorem State.modClk_tst (f : Clk → Clk) : (s.modClk f).tst = s.tst := rfl
@[simp] theorem State.modClk_loom (f : Clk → Clk) : (s.modClk f).loom = s.loom := rfl
@[simp] theorem State.modClk_gdp (f : Clk → Clk) : (s.modClk f).gdp = s.gdp := rfl
@[simp] theorem State.modClk_cmp (f : Clk → Clk) : (s.modClk f).cmp = s.cmp := rfl
@[simp] theorem State.modClk_acq (f : Clk → Clk) : (s.modClk f).acq = s.acq := rfl
@[simp] theorem State.modClk_prism (f : Clk → Clk) : (s.modClk f).prism = s.prism := rfl
@[simp] theorem State.modClk_wvn (f : Clk → Clk) : (s.modClk f).wvn = s.wvn := rfl
@[simp] theorem State.modClk_mill (f : Clk → Clk) : (s.modClk f).mill = s.mill := rfl
@[simp] theorem State.modClk_tasks (f : Clk → Clk) : (s.modClk f).tasks = s.tasks := rfl
@[simp] theorem State.modClk_grn (f : Clk → Clk) : (s.modClk f).grn = s.grn := rfl
@[simp] theorem State.modClk_shf (f : Clk → Clk) : (s.modClk f).shf = s.shf := rfl
@[simp] theorem State.modClk_safe (f : Clk → Clk) : (s.modClk f).safe = s.safe := rfl
@[simp] theorem State.modClk_ring (f : Clk → Clk) : (s.modClk f).ring = s.ring := rfl
@[simp] theorem State.modClk_draws (f : Clk → Clk) : (s.modClk f).draws = s.draws := rfl
@[simp] theorem State.modClk_pending (f : Clk → Clk) : (s.modClk f).pending = s.pending := rfl

@[simp] theorem State.modRamp_regs (f : Ramp → Ramp) : (s.modRamp f).regs = s.regs := rfl
@[simp] theorem State.modRamp_cycle (f : Ramp → Ramp) : (s.modRamp f).cycle = s.cycle := rfl
@[simp] theorem State.modRamp_sys (f : Ramp → Ramp) : (s.modRamp f).sys = s.sys := rfl
@[simp] theorem State.modRamp_otp (f : Ramp → Ramp) : (s.modRamp f).otp = s.otp := rfl
@[simp] theorem State.modRamp_tap (f : Ramp → Ramp) : (s.modRamp f).tap = s.tap := rfl
@[simp] theorem State.modRamp_mem (f : Ramp → Ramp) : (s.modRamp f).mem = s.mem := rfl
@[simp] theorem State.modRamp_dma (f : Ramp → Ramp) : (s.modRamp f).dma = s.dma := rfl
@[simp] theorem State.modRamp_events (f : Ramp → Ramp) : (s.modRamp f).events = s.events := rfl
@[simp] theorem State.modRamp_stew (f : Ramp → Ramp) : (s.modRamp f).stew = s.stew := rfl
@[simp] theorem State.modRamp_cfg (f : Ramp → Ramp) : (s.modRamp f).cfg = s.cfg := rfl
@[simp] theorem State.modRamp_tst (f : Ramp → Ramp) : (s.modRamp f).tst = s.tst := rfl
@[simp] theorem State.modRamp_loom (f : Ramp → Ramp) : (s.modRamp f).loom = s.loom := rfl
@[simp] theorem State.modRamp_gdp (f : Ramp → Ramp) : (s.modRamp f).gdp = s.gdp := rfl
@[simp] theorem State.modRamp_cmp (f : Ramp → Ramp) : (s.modRamp f).cmp = s.cmp := rfl
@[simp] theorem State.modRamp_acq (f : Ramp → Ramp) : (s.modRamp f).acq = s.acq := rfl
@[simp] theorem State.modRamp_prism (f : Ramp → Ramp) : (s.modRamp f).prism = s.prism := rfl
@[simp] theorem State.modRamp_wvn (f : Ramp → Ramp) : (s.modRamp f).wvn = s.wvn := rfl
@[simp] theorem State.modRamp_mill (f : Ramp → Ramp) : (s.modRamp f).mill = s.mill := rfl
@[simp] theorem State.modRamp_tasks (f : Ramp → Ramp) : (s.modRamp f).tasks = s.tasks := rfl
@[simp] theorem State.modRamp_grn (f : Ramp → Ramp) : (s.modRamp f).grn = s.grn := rfl
@[simp] theorem State.modRamp_shf (f : Ramp → Ramp) : (s.modRamp f).shf = s.shf := rfl
@[simp] theorem State.modRamp_safe (f : Ramp → Ramp) : (s.modRamp f).safe = s.safe := rfl
@[simp] theorem State.modRamp_ring (f : Ramp → Ramp) : (s.modRamp f).ring = s.ring := rfl
@[simp] theorem State.modRamp_draws (f : Ramp → Ramp) : (s.modRamp f).draws = s.draws := rfl
@[simp] theorem State.modRamp_pending (f : Ramp → Ramp) : (s.modRamp f).pending = s.pending := rfl

@[simp] theorem State.modDma_regs (n : Nat) (f : DmaCh → DmaCh) : (s.modDma n f).regs = s.regs := rfl
@[simp] theorem State.modDma_cycle (n : Nat) (f : DmaCh → DmaCh) : (s.modDma n f).cycle = s.cycle := rfl
@[simp] theorem State.modDma_sys (n : Nat) (f : DmaCh → DmaCh) : (s.modDma n f).sys = s.sys := rfl
@[simp] theorem State.modDma_clk (n : Nat) (f : DmaCh → DmaCh) : (s.modDma n f).clk = s.clk := rfl
@[simp] theorem State.modDma_otp (n : Nat) (f : DmaCh → DmaCh) : (s.modDma n f).otp = s.otp := rfl
@[simp] theorem State.modDma_tap (n : Nat) (f : DmaCh → DmaCh) : (s.modDma n f).tap = s.tap := rfl
@[simp] theorem State.modDma_mem (n : Nat) (f : DmaCh → DmaCh) : (s.modDma n f).mem = s.mem := rfl
@[simp] theorem State.modDma_events (n : Nat) (f : DmaCh → DmaCh) : (s.modDma n f).events = s.events := rfl
@[simp] theorem State.modDma_stew (n : Nat) (f : DmaCh → DmaCh) : (s.modDma n f).stew = s.stew := rfl
@[simp] theorem State.modDma_cfg (n : Nat) (f : DmaCh → DmaCh) : (s.modDma n f).cfg = s.cfg := rfl
@[simp] theorem State.modDma_tst (n : Nat) (f : DmaCh → DmaCh) : (s.modDma n f).tst = s.tst := rfl
@[simp] theorem State.modDma_loom (n : Nat) (f : DmaCh → DmaCh) : (s.modDma n f).loom = s.loom := rfl
@[simp] theorem State.modDma_gdp (n : Nat) (f : DmaCh → DmaCh) : (s.modDma n f).gdp = s.gdp := rfl
@[simp] theorem State.modDma_cmp (n : Nat) (f : DmaCh → DmaCh) : (s.modDma n f).cmp = s.cmp := rfl
@[simp] theorem State.modDma_acq (n : Nat) (f : DmaCh → DmaCh) : (s.modDma n f).acq = s.acq := rfl
@[simp] theorem State.modDma_prism (n : Nat) (f : DmaCh → DmaCh) : (s.modDma n f).prism = s.prism := rfl
@[simp] theorem State.modDma_wvn (n : Nat) (f : DmaCh → DmaCh) : (s.modDma n f).wvn = s.wvn := rfl
@[simp] theorem State.modDma_mill (n : Nat) (f : DmaCh → DmaCh) : (s.modDma n f).mill = s.mill := rfl
@[simp] theorem State.modDma_tasks (n : Nat) (f : DmaCh → DmaCh) : (s.modDma n f).tasks = s.tasks := rfl
@[simp] theorem State.modDma_grn (n : Nat) (f : DmaCh → DmaCh) : (s.modDma n f).grn = s.grn := rfl
@[simp] theorem State.modDma_shf (n : Nat) (f : DmaCh → DmaCh) : (s.modDma n f).shf = s.shf := rfl
@[simp] theorem State.modDma_safe (n : Nat) (f : DmaCh → DmaCh) : (s.modDma n f).safe = s.safe := rfl
@[simp] theorem State.modDma_ring (n : Nat) (f : DmaCh → DmaCh) : (s.modDma n f).ring = s.ring := rfl
@[simp] theorem State.modDma_draws (n : Nat) (f : DmaCh → DmaCh) : (s.modDma n f).draws = s.draws := rfl
@[simp] theorem State.modDma_pending (n : Nat) (f : DmaCh → DmaCh) : (s.modDma n f).pending = s.pending := rfl

@[simp] theorem State.modTst_regs (f : Tst → Tst) : (s.modTst f).regs = s.regs := rfl
@[simp] theorem State.modTst_cycle (f : Tst → Tst) : (s.modTst f).cycle = s.cycle := rfl
@[simp] theorem State.modTst_sys (f : Tst → Tst) : (s.modTst f).sys = s.sys := rfl
@[simp] theorem State.modTst_clk (f : Tst → Tst) : (s.modTst f).clk = s.clk := rfl
@[simp] theorem State.modTst_otp (f : Tst → Tst) : (s.modTst f).otp = s.otp := rfl
@[simp] theorem State.modTst_tap (f : Tst → Tst) : (s.modTst f).tap = s.tap := rfl
@[simp] theorem State.modTst_mem (f : Tst → Tst) : (s.modTst f).mem = s.mem := rfl
@[simp] theorem State.modTst_dma (f : Tst → Tst) : (s.modTst f).dma = s.dma := rfl
@[simp] theorem State.modTst_events (f : Tst → Tst) : (s.modTst f).events = s.events := rfl
@[simp] theorem State.modTst_stew (f : Tst → Tst) : (s.modTst f).stew = s.stew := rfl
@[simp] theorem State.modTst_cfg (f : Tst → Tst) : (s.modTst f).cfg = s.cfg := rfl
@[simp] theorem State.modTst_loom (f : Tst → Tst) : (s.modTst f).loom = s.loom := rfl
@[simp] theorem State.modTst_gdp (f : Tst → Tst) : (s.modTst f).gdp = s.gdp := rfl
@[simp] theorem State.modTst_cmp (f : Tst → Tst) : (s.modTst f).cmp = s.cmp := rfl
@[simp] theorem State.modTst_acq (f : Tst → Tst) : (s.modTst f).acq = s.acq := rfl
@[simp] theorem State.modTst_prism (f : Tst → Tst) : (s.modTst f).prism = s.prism := rfl
@[simp] theorem State.modTst_wvn (f : Tst → Tst) : (s.modTst f).wvn = s.wvn := rfl
@[simp] theorem State.modTst_mill (f : Tst → Tst) : (s.modTst f).mill = s.mill := rfl
@[simp] theorem State.modTst_tasks (f : Tst → Tst) : (s.modTst f).tasks = s.tasks := rfl
@[simp] theorem State.modTst_grn (f : Tst → Tst) : (s.modTst f).grn = s.grn := rfl
@[simp] theorem State.modTst_shf (f : Tst → Tst) : (s.modTst f).shf = s.shf := rfl
@[simp] theorem State.modTst_safe (f : Tst → Tst) : (s.modTst f).safe = s.safe := rfl
@[simp] theorem State.modTst_ring (f : Tst → Tst) : (s.modTst f).ring = s.ring := rfl
@[simp] theorem State.modTst_draws (f : Tst → Tst) : (s.modTst f).draws = s.draws := rfl
@[simp] theorem State.modTst_pending (f : Tst → Tst) : (s.modTst f).pending = s.pending := rfl

@[simp] theorem State.modAcq_regs (f : Acq → Acq) : (s.modAcq f).regs = s.regs := rfl
@[simp] theorem State.modAcq_cycle (f : Acq → Acq) : (s.modAcq f).cycle = s.cycle := rfl
@[simp] theorem State.modAcq_sys (f : Acq → Acq) : (s.modAcq f).sys = s.sys := rfl
@[simp] theorem State.modAcq_clk (f : Acq → Acq) : (s.modAcq f).clk = s.clk := rfl
@[simp] theorem State.modAcq_otp (f : Acq → Acq) : (s.modAcq f).otp = s.otp := rfl
@[simp] theorem State.modAcq_tap (f : Acq → Acq) : (s.modAcq f).tap = s.tap := rfl
@[simp] theorem State.modAcq_mem (f : Acq → Acq) : (s.modAcq f).mem = s.mem := rfl
@[simp] theorem State.modAcq_dma (f : Acq → Acq) : (s.modAcq f).dma = s.dma := rfl
@[simp] theorem State.modAcq_events (f : Acq → Acq) : (s.modAcq f).events = s.events := rfl
@[simp] theorem State.modAcq_stew (f : Acq → Acq) : (s.modAcq f).stew = s.stew := rfl
@[simp] theorem State.modAcq_cfg (f : Acq → Acq) : (s.modAcq f).cfg = s.cfg := rfl
@[simp] theorem State.modAcq_tst (f : Acq → Acq) : (s.modAcq f).tst = s.tst := rfl
@[simp] theorem State.modAcq_loom (f : Acq → Acq) : (s.modAcq f).loom = s.loom := rfl
@[simp] theorem State.modAcq_gdp (f : Acq → Acq) : (s.modAcq f).gdp = s.gdp := rfl
@[simp] theorem State.modAcq_cmp (f : Acq → Acq) : (s.modAcq f).cmp = s.cmp := rfl
@[simp] theorem State.modAcq_prism (f : Acq → Acq) : (s.modAcq f).prism = s.prism := rfl
@[simp] theorem State.modAcq_wvn (f : Acq → Acq) : (s.modAcq f).wvn = s.wvn := rfl
@[simp] theorem State.modAcq_mill (f : Acq → Acq) : (s.modAcq f).mill = s.mill := rfl
@[simp] theorem State.modAcq_tasks (f : Acq → Acq) : (s.modAcq f).tasks = s.tasks := rfl
@[simp] theorem State.modAcq_grn (f : Acq → Acq) : (s.modAcq f).grn = s.grn := rfl
@[simp] theorem State.modAcq_shf (f : Acq → Acq) : (s.modAcq f).shf = s.shf := rfl
@[simp] theorem State.modAcq_safe (f : Acq → Acq) : (s.modAcq f).safe = s.safe := rfl
@[simp] theorem State.modAcq_ring (f : Acq → Acq) : (s.modAcq f).ring = s.ring := rfl
@[simp] theorem State.modAcq_draws (f : Acq → Acq) : (s.modAcq f).draws = s.draws := rfl
@[simp] theorem State.modAcq_pending (f : Acq → Acq) : (s.modAcq f).pending = s.pending := rfl

@[simp] theorem State.modSlice_regs (n : Nat) (f : SliceSt → SliceSt) : (s.modSlice n f).regs = s.regs := rfl
@[simp] theorem State.modSlice_cycle (n : Nat) (f : SliceSt → SliceSt) : (s.modSlice n f).cycle = s.cycle := rfl
@[simp] theorem State.modSlice_sys (n : Nat) (f : SliceSt → SliceSt) : (s.modSlice n f).sys = s.sys := rfl
@[simp] theorem State.modSlice_clk (n : Nat) (f : SliceSt → SliceSt) : (s.modSlice n f).clk = s.clk := rfl
@[simp] theorem State.modSlice_otp (n : Nat) (f : SliceSt → SliceSt) : (s.modSlice n f).otp = s.otp := rfl
@[simp] theorem State.modSlice_tap (n : Nat) (f : SliceSt → SliceSt) : (s.modSlice n f).tap = s.tap := rfl
@[simp] theorem State.modSlice_mem (n : Nat) (f : SliceSt → SliceSt) : (s.modSlice n f).mem = s.mem := rfl
@[simp] theorem State.modSlice_dma (n : Nat) (f : SliceSt → SliceSt) : (s.modSlice n f).dma = s.dma := rfl
@[simp] theorem State.modSlice_events (n : Nat) (f : SliceSt → SliceSt) : (s.modSlice n f).events = s.events := rfl
@[simp] theorem State.modSlice_stew (n : Nat) (f : SliceSt → SliceSt) : (s.modSlice n f).stew = s.stew := rfl
@[simp] theorem State.modSlice_cfg (n : Nat) (f : SliceSt → SliceSt) : (s.modSlice n f).cfg = s.cfg := rfl
@[simp] theorem State.modSlice_tst (n : Nat) (f : SliceSt → SliceSt) : (s.modSlice n f).tst = s.tst := rfl
@[simp] theorem State.modSlice_loom (n : Nat) (f : SliceSt → SliceSt) : (s.modSlice n f).loom = s.loom := rfl
@[simp] theorem State.modSlice_gdp (n : Nat) (f : SliceSt → SliceSt) : (s.modSlice n f).gdp = s.gdp := rfl
@[simp] theorem State.modSlice_cmp (n : Nat) (f : SliceSt → SliceSt) : (s.modSlice n f).cmp = s.cmp := rfl
@[simp] theorem State.modSlice_prism (n : Nat) (f : SliceSt → SliceSt) : (s.modSlice n f).prism = s.prism := rfl
@[simp] theorem State.modSlice_wvn (n : Nat) (f : SliceSt → SliceSt) : (s.modSlice n f).wvn = s.wvn := rfl
@[simp] theorem State.modSlice_mill (n : Nat) (f : SliceSt → SliceSt) : (s.modSlice n f).mill = s.mill := rfl
@[simp] theorem State.modSlice_tasks (n : Nat) (f : SliceSt → SliceSt) : (s.modSlice n f).tasks = s.tasks := rfl
@[simp] theorem State.modSlice_grn (n : Nat) (f : SliceSt → SliceSt) : (s.modSlice n f).grn = s.grn := rfl
@[simp] theorem State.modSlice_shf (n : Nat) (f : SliceSt → SliceSt) : (s.modSlice n f).shf = s.shf := rfl
@[simp] theorem State.modSlice_safe (n : Nat) (f : SliceSt → SliceSt) : (s.modSlice n f).safe = s.safe := rfl
@[simp] theorem State.modSlice_ring (n : Nat) (f : SliceSt → SliceSt) : (s.modSlice n f).ring = s.ring := rfl
@[simp] theorem State.modSlice_draws (n : Nat) (f : SliceSt → SliceSt) : (s.modSlice n f).draws = s.draws := rfl
@[simp] theorem State.modSlice_pending (n : Nat) (f : SliceSt → SliceSt) : (s.modSlice n f).pending = s.pending := rfl

@[simp] theorem State.modSpare_regs (f : SpareSt → SpareSt) : (s.modSpare f).regs = s.regs := rfl
@[simp] theorem State.modSpare_cycle (f : SpareSt → SpareSt) : (s.modSpare f).cycle = s.cycle := rfl
@[simp] theorem State.modSpare_sys (f : SpareSt → SpareSt) : (s.modSpare f).sys = s.sys := rfl
@[simp] theorem State.modSpare_clk (f : SpareSt → SpareSt) : (s.modSpare f).clk = s.clk := rfl
@[simp] theorem State.modSpare_otp (f : SpareSt → SpareSt) : (s.modSpare f).otp = s.otp := rfl
@[simp] theorem State.modSpare_tap (f : SpareSt → SpareSt) : (s.modSpare f).tap = s.tap := rfl
@[simp] theorem State.modSpare_mem (f : SpareSt → SpareSt) : (s.modSpare f).mem = s.mem := rfl
@[simp] theorem State.modSpare_dma (f : SpareSt → SpareSt) : (s.modSpare f).dma = s.dma := rfl
@[simp] theorem State.modSpare_events (f : SpareSt → SpareSt) : (s.modSpare f).events = s.events := rfl
@[simp] theorem State.modSpare_stew (f : SpareSt → SpareSt) : (s.modSpare f).stew = s.stew := rfl
@[simp] theorem State.modSpare_cfg (f : SpareSt → SpareSt) : (s.modSpare f).cfg = s.cfg := rfl
@[simp] theorem State.modSpare_tst (f : SpareSt → SpareSt) : (s.modSpare f).tst = s.tst := rfl
@[simp] theorem State.modSpare_loom (f : SpareSt → SpareSt) : (s.modSpare f).loom = s.loom := rfl
@[simp] theorem State.modSpare_gdp (f : SpareSt → SpareSt) : (s.modSpare f).gdp = s.gdp := rfl
@[simp] theorem State.modSpare_cmp (f : SpareSt → SpareSt) : (s.modSpare f).cmp = s.cmp := rfl
@[simp] theorem State.modSpare_prism (f : SpareSt → SpareSt) : (s.modSpare f).prism = s.prism := rfl
@[simp] theorem State.modSpare_wvn (f : SpareSt → SpareSt) : (s.modSpare f).wvn = s.wvn := rfl
@[simp] theorem State.modSpare_mill (f : SpareSt → SpareSt) : (s.modSpare f).mill = s.mill := rfl
@[simp] theorem State.modSpare_tasks (f : SpareSt → SpareSt) : (s.modSpare f).tasks = s.tasks := rfl
@[simp] theorem State.modSpare_grn (f : SpareSt → SpareSt) : (s.modSpare f).grn = s.grn := rfl
@[simp] theorem State.modSpare_shf (f : SpareSt → SpareSt) : (s.modSpare f).shf = s.shf := rfl
@[simp] theorem State.modSpare_safe (f : SpareSt → SpareSt) : (s.modSpare f).safe = s.safe := rfl
@[simp] theorem State.modSpare_ring (f : SpareSt → SpareSt) : (s.modSpare f).ring = s.ring := rfl
@[simp] theorem State.modSpare_draws (f : SpareSt → SpareSt) : (s.modSpare f).draws = s.draws := rfl
@[simp] theorem State.modSpare_pending (f : SpareSt → SpareSt) : (s.modSpare f).pending = s.pending := rfl

@[simp] theorem State.modPrism_regs (f : Prism → Prism) : (s.modPrism f).regs = s.regs := rfl
@[simp] theorem State.modPrism_cycle (f : Prism → Prism) : (s.modPrism f).cycle = s.cycle := rfl
@[simp] theorem State.modPrism_sys (f : Prism → Prism) : (s.modPrism f).sys = s.sys := rfl
@[simp] theorem State.modPrism_clk (f : Prism → Prism) : (s.modPrism f).clk = s.clk := rfl
@[simp] theorem State.modPrism_otp (f : Prism → Prism) : (s.modPrism f).otp = s.otp := rfl
@[simp] theorem State.modPrism_tap (f : Prism → Prism) : (s.modPrism f).tap = s.tap := rfl
@[simp] theorem State.modPrism_mem (f : Prism → Prism) : (s.modPrism f).mem = s.mem := rfl
@[simp] theorem State.modPrism_dma (f : Prism → Prism) : (s.modPrism f).dma = s.dma := rfl
@[simp] theorem State.modPrism_events (f : Prism → Prism) : (s.modPrism f).events = s.events := rfl
@[simp] theorem State.modPrism_stew (f : Prism → Prism) : (s.modPrism f).stew = s.stew := rfl
@[simp] theorem State.modPrism_cfg (f : Prism → Prism) : (s.modPrism f).cfg = s.cfg := rfl
@[simp] theorem State.modPrism_tst (f : Prism → Prism) : (s.modPrism f).tst = s.tst := rfl
@[simp] theorem State.modPrism_loom (f : Prism → Prism) : (s.modPrism f).loom = s.loom := rfl
@[simp] theorem State.modPrism_gdp (f : Prism → Prism) : (s.modPrism f).gdp = s.gdp := rfl
@[simp] theorem State.modPrism_cmp (f : Prism → Prism) : (s.modPrism f).cmp = s.cmp := rfl
@[simp] theorem State.modPrism_acq (f : Prism → Prism) : (s.modPrism f).acq = s.acq := rfl
@[simp] theorem State.modPrism_wvn (f : Prism → Prism) : (s.modPrism f).wvn = s.wvn := rfl
@[simp] theorem State.modPrism_mill (f : Prism → Prism) : (s.modPrism f).mill = s.mill := rfl
@[simp] theorem State.modPrism_tasks (f : Prism → Prism) : (s.modPrism f).tasks = s.tasks := rfl
@[simp] theorem State.modPrism_grn (f : Prism → Prism) : (s.modPrism f).grn = s.grn := rfl
@[simp] theorem State.modPrism_shf (f : Prism → Prism) : (s.modPrism f).shf = s.shf := rfl
@[simp] theorem State.modPrism_safe (f : Prism → Prism) : (s.modPrism f).safe = s.safe := rfl
@[simp] theorem State.modPrism_ring (f : Prism → Prism) : (s.modPrism f).ring = s.ring := rfl
@[simp] theorem State.modPrism_draws (f : Prism → Prism) : (s.modPrism f).draws = s.draws := rfl
@[simp] theorem State.modPrism_pending (f : Prism → Prism) : (s.modPrism f).pending = s.pending := rfl

@[simp] theorem State.modPrismWin_regs (w : Nat) (f : PrismWin → PrismWin) : (s.modPrismWin w f).regs = s.regs := rfl
@[simp] theorem State.modPrismWin_cycle (w : Nat) (f : PrismWin → PrismWin) : (s.modPrismWin w f).cycle = s.cycle := rfl
@[simp] theorem State.modPrismWin_sys (w : Nat) (f : PrismWin → PrismWin) : (s.modPrismWin w f).sys = s.sys := rfl
@[simp] theorem State.modPrismWin_clk (w : Nat) (f : PrismWin → PrismWin) : (s.modPrismWin w f).clk = s.clk := rfl
@[simp] theorem State.modPrismWin_otp (w : Nat) (f : PrismWin → PrismWin) : (s.modPrismWin w f).otp = s.otp := rfl
@[simp] theorem State.modPrismWin_tap (w : Nat) (f : PrismWin → PrismWin) : (s.modPrismWin w f).tap = s.tap := rfl
@[simp] theorem State.modPrismWin_mem (w : Nat) (f : PrismWin → PrismWin) : (s.modPrismWin w f).mem = s.mem := rfl
@[simp] theorem State.modPrismWin_dma (w : Nat) (f : PrismWin → PrismWin) : (s.modPrismWin w f).dma = s.dma := rfl
@[simp] theorem State.modPrismWin_events (w : Nat) (f : PrismWin → PrismWin) : (s.modPrismWin w f).events = s.events := rfl
@[simp] theorem State.modPrismWin_stew (w : Nat) (f : PrismWin → PrismWin) : (s.modPrismWin w f).stew = s.stew := rfl
@[simp] theorem State.modPrismWin_cfg (w : Nat) (f : PrismWin → PrismWin) : (s.modPrismWin w f).cfg = s.cfg := rfl
@[simp] theorem State.modPrismWin_tst (w : Nat) (f : PrismWin → PrismWin) : (s.modPrismWin w f).tst = s.tst := rfl
@[simp] theorem State.modPrismWin_loom (w : Nat) (f : PrismWin → PrismWin) : (s.modPrismWin w f).loom = s.loom := rfl
@[simp] theorem State.modPrismWin_gdp (w : Nat) (f : PrismWin → PrismWin) : (s.modPrismWin w f).gdp = s.gdp := rfl
@[simp] theorem State.modPrismWin_cmp (w : Nat) (f : PrismWin → PrismWin) : (s.modPrismWin w f).cmp = s.cmp := rfl
@[simp] theorem State.modPrismWin_acq (w : Nat) (f : PrismWin → PrismWin) : (s.modPrismWin w f).acq = s.acq := rfl
@[simp] theorem State.modPrismWin_wvn (w : Nat) (f : PrismWin → PrismWin) : (s.modPrismWin w f).wvn = s.wvn := rfl
@[simp] theorem State.modPrismWin_mill (w : Nat) (f : PrismWin → PrismWin) : (s.modPrismWin w f).mill = s.mill := rfl
@[simp] theorem State.modPrismWin_tasks (w : Nat) (f : PrismWin → PrismWin) : (s.modPrismWin w f).tasks = s.tasks := rfl
@[simp] theorem State.modPrismWin_grn (w : Nat) (f : PrismWin → PrismWin) : (s.modPrismWin w f).grn = s.grn := rfl
@[simp] theorem State.modPrismWin_shf (w : Nat) (f : PrismWin → PrismWin) : (s.modPrismWin w f).shf = s.shf := rfl
@[simp] theorem State.modPrismWin_safe (w : Nat) (f : PrismWin → PrismWin) : (s.modPrismWin w f).safe = s.safe := rfl
@[simp] theorem State.modPrismWin_ring (w : Nat) (f : PrismWin → PrismWin) : (s.modPrismWin w f).ring = s.ring := rfl
@[simp] theorem State.modPrismWin_draws (w : Nat) (f : PrismWin → PrismWin) : (s.modPrismWin w f).draws = s.draws := rfl
@[simp] theorem State.modPrismWin_pending (w : Nat) (f : PrismWin → PrismWin) : (s.modPrismWin w f).pending = s.pending := rfl

@[simp] theorem State.modWvn_regs (f : Wvn → Wvn) : (s.modWvn f).regs = s.regs := rfl
@[simp] theorem State.modWvn_cycle (f : Wvn → Wvn) : (s.modWvn f).cycle = s.cycle := rfl
@[simp] theorem State.modWvn_sys (f : Wvn → Wvn) : (s.modWvn f).sys = s.sys := rfl
@[simp] theorem State.modWvn_clk (f : Wvn → Wvn) : (s.modWvn f).clk = s.clk := rfl
@[simp] theorem State.modWvn_otp (f : Wvn → Wvn) : (s.modWvn f).otp = s.otp := rfl
@[simp] theorem State.modWvn_tap (f : Wvn → Wvn) : (s.modWvn f).tap = s.tap := rfl
@[simp] theorem State.modWvn_mem (f : Wvn → Wvn) : (s.modWvn f).mem = s.mem := rfl
@[simp] theorem State.modWvn_dma (f : Wvn → Wvn) : (s.modWvn f).dma = s.dma := rfl
@[simp] theorem State.modWvn_events (f : Wvn → Wvn) : (s.modWvn f).events = s.events := rfl
@[simp] theorem State.modWvn_stew (f : Wvn → Wvn) : (s.modWvn f).stew = s.stew := rfl
@[simp] theorem State.modWvn_cfg (f : Wvn → Wvn) : (s.modWvn f).cfg = s.cfg := rfl
@[simp] theorem State.modWvn_tst (f : Wvn → Wvn) : (s.modWvn f).tst = s.tst := rfl
@[simp] theorem State.modWvn_loom (f : Wvn → Wvn) : (s.modWvn f).loom = s.loom := rfl
@[simp] theorem State.modWvn_gdp (f : Wvn → Wvn) : (s.modWvn f).gdp = s.gdp := rfl
@[simp] theorem State.modWvn_cmp (f : Wvn → Wvn) : (s.modWvn f).cmp = s.cmp := rfl
@[simp] theorem State.modWvn_acq (f : Wvn → Wvn) : (s.modWvn f).acq = s.acq := rfl
@[simp] theorem State.modWvn_prism (f : Wvn → Wvn) : (s.modWvn f).prism = s.prism := rfl
@[simp] theorem State.modWvn_mill (f : Wvn → Wvn) : (s.modWvn f).mill = s.mill := rfl
@[simp] theorem State.modWvn_tasks (f : Wvn → Wvn) : (s.modWvn f).tasks = s.tasks := rfl
@[simp] theorem State.modWvn_grn (f : Wvn → Wvn) : (s.modWvn f).grn = s.grn := rfl
@[simp] theorem State.modWvn_shf (f : Wvn → Wvn) : (s.modWvn f).shf = s.shf := rfl
@[simp] theorem State.modWvn_safe (f : Wvn → Wvn) : (s.modWvn f).safe = s.safe := rfl
@[simp] theorem State.modWvn_ring (f : Wvn → Wvn) : (s.modWvn f).ring = s.ring := rfl
@[simp] theorem State.modWvn_draws (f : Wvn → Wvn) : (s.modWvn f).draws = s.draws := rfl
@[simp] theorem State.modWvn_pending (f : Wvn → Wvn) : (s.modWvn f).pending = s.pending := rfl

@[simp] theorem State.modSet_regs (k : Nat) (f : SetSt → SetSt) : (s.modSet k f).regs = s.regs := rfl
@[simp] theorem State.modSet_cycle (k : Nat) (f : SetSt → SetSt) : (s.modSet k f).cycle = s.cycle := rfl
@[simp] theorem State.modSet_sys (k : Nat) (f : SetSt → SetSt) : (s.modSet k f).sys = s.sys := rfl
@[simp] theorem State.modSet_clk (k : Nat) (f : SetSt → SetSt) : (s.modSet k f).clk = s.clk := rfl
@[simp] theorem State.modSet_otp (k : Nat) (f : SetSt → SetSt) : (s.modSet k f).otp = s.otp := rfl
@[simp] theorem State.modSet_tap (k : Nat) (f : SetSt → SetSt) : (s.modSet k f).tap = s.tap := rfl
@[simp] theorem State.modSet_mem (k : Nat) (f : SetSt → SetSt) : (s.modSet k f).mem = s.mem := rfl
@[simp] theorem State.modSet_dma (k : Nat) (f : SetSt → SetSt) : (s.modSet k f).dma = s.dma := rfl
@[simp] theorem State.modSet_events (k : Nat) (f : SetSt → SetSt) : (s.modSet k f).events = s.events := rfl
@[simp] theorem State.modSet_stew (k : Nat) (f : SetSt → SetSt) : (s.modSet k f).stew = s.stew := rfl
@[simp] theorem State.modSet_cfg (k : Nat) (f : SetSt → SetSt) : (s.modSet k f).cfg = s.cfg := rfl
@[simp] theorem State.modSet_tst (k : Nat) (f : SetSt → SetSt) : (s.modSet k f).tst = s.tst := rfl
@[simp] theorem State.modSet_loom (k : Nat) (f : SetSt → SetSt) : (s.modSet k f).loom = s.loom := rfl
@[simp] theorem State.modSet_gdp (k : Nat) (f : SetSt → SetSt) : (s.modSet k f).gdp = s.gdp := rfl
@[simp] theorem State.modSet_cmp (k : Nat) (f : SetSt → SetSt) : (s.modSet k f).cmp = s.cmp := rfl
@[simp] theorem State.modSet_acq (k : Nat) (f : SetSt → SetSt) : (s.modSet k f).acq = s.acq := rfl
@[simp] theorem State.modSet_prism (k : Nat) (f : SetSt → SetSt) : (s.modSet k f).prism = s.prism := rfl
@[simp] theorem State.modSet_mill (k : Nat) (f : SetSt → SetSt) : (s.modSet k f).mill = s.mill := rfl
@[simp] theorem State.modSet_tasks (k : Nat) (f : SetSt → SetSt) : (s.modSet k f).tasks = s.tasks := rfl
@[simp] theorem State.modSet_grn (k : Nat) (f : SetSt → SetSt) : (s.modSet k f).grn = s.grn := rfl
@[simp] theorem State.modSet_shf (k : Nat) (f : SetSt → SetSt) : (s.modSet k f).shf = s.shf := rfl
@[simp] theorem State.modSet_safe (k : Nat) (f : SetSt → SetSt) : (s.modSet k f).safe = s.safe := rfl
@[simp] theorem State.modSet_ring (k : Nat) (f : SetSt → SetSt) : (s.modSet k f).ring = s.ring := rfl
@[simp] theorem State.modSet_draws (k : Nat) (f : SetSt → SetSt) : (s.modSet k f).draws = s.draws := rfl
@[simp] theorem State.modSet_pending (k : Nat) (f : SetSt → SetSt) : (s.modSet k f).pending = s.pending := rfl

@[simp] theorem State.modMpp_regs (m : Nat) (f : MppSt → MppSt) : (s.modMpp m f).regs = s.regs := rfl
@[simp] theorem State.modMpp_cycle (m : Nat) (f : MppSt → MppSt) : (s.modMpp m f).cycle = s.cycle := rfl
@[simp] theorem State.modMpp_sys (m : Nat) (f : MppSt → MppSt) : (s.modMpp m f).sys = s.sys := rfl
@[simp] theorem State.modMpp_clk (m : Nat) (f : MppSt → MppSt) : (s.modMpp m f).clk = s.clk := rfl
@[simp] theorem State.modMpp_otp (m : Nat) (f : MppSt → MppSt) : (s.modMpp m f).otp = s.otp := rfl
@[simp] theorem State.modMpp_tap (m : Nat) (f : MppSt → MppSt) : (s.modMpp m f).tap = s.tap := rfl
@[simp] theorem State.modMpp_mem (m : Nat) (f : MppSt → MppSt) : (s.modMpp m f).mem = s.mem := rfl
@[simp] theorem State.modMpp_dma (m : Nat) (f : MppSt → MppSt) : (s.modMpp m f).dma = s.dma := rfl
@[simp] theorem State.modMpp_events (m : Nat) (f : MppSt → MppSt) : (s.modMpp m f).events = s.events := rfl
@[simp] theorem State.modMpp_stew (m : Nat) (f : MppSt → MppSt) : (s.modMpp m f).stew = s.stew := rfl
@[simp] theorem State.modMpp_cfg (m : Nat) (f : MppSt → MppSt) : (s.modMpp m f).cfg = s.cfg := rfl
@[simp] theorem State.modMpp_tst (m : Nat) (f : MppSt → MppSt) : (s.modMpp m f).tst = s.tst := rfl
@[simp] theorem State.modMpp_loom (m : Nat) (f : MppSt → MppSt) : (s.modMpp m f).loom = s.loom := rfl
@[simp] theorem State.modMpp_gdp (m : Nat) (f : MppSt → MppSt) : (s.modMpp m f).gdp = s.gdp := rfl
@[simp] theorem State.modMpp_cmp (m : Nat) (f : MppSt → MppSt) : (s.modMpp m f).cmp = s.cmp := rfl
@[simp] theorem State.modMpp_acq (m : Nat) (f : MppSt → MppSt) : (s.modMpp m f).acq = s.acq := rfl
@[simp] theorem State.modMpp_prism (m : Nat) (f : MppSt → MppSt) : (s.modMpp m f).prism = s.prism := rfl
@[simp] theorem State.modMpp_mill (m : Nat) (f : MppSt → MppSt) : (s.modMpp m f).mill = s.mill := rfl
@[simp] theorem State.modMpp_tasks (m : Nat) (f : MppSt → MppSt) : (s.modMpp m f).tasks = s.tasks := rfl
@[simp] theorem State.modMpp_grn (m : Nat) (f : MppSt → MppSt) : (s.modMpp m f).grn = s.grn := rfl
@[simp] theorem State.modMpp_shf (m : Nat) (f : MppSt → MppSt) : (s.modMpp m f).shf = s.shf := rfl
@[simp] theorem State.modMpp_safe (m : Nat) (f : MppSt → MppSt) : (s.modMpp m f).safe = s.safe := rfl
@[simp] theorem State.modMpp_ring (m : Nat) (f : MppSt → MppSt) : (s.modMpp m f).ring = s.ring := rfl
@[simp] theorem State.modMpp_draws (m : Nat) (f : MppSt → MppSt) : (s.modMpp m f).draws = s.draws := rfl
@[simp] theorem State.modMpp_pending (m : Nat) (f : MppSt → MppSt) : (s.modMpp m f).pending = s.pending := rfl

@[simp] theorem State.modMill_regs (f : Mill → Mill) : (s.modMill f).regs = s.regs := rfl
@[simp] theorem State.modMill_cycle (f : Mill → Mill) : (s.modMill f).cycle = s.cycle := rfl
@[simp] theorem State.modMill_sys (f : Mill → Mill) : (s.modMill f).sys = s.sys := rfl
@[simp] theorem State.modMill_clk (f : Mill → Mill) : (s.modMill f).clk = s.clk := rfl
@[simp] theorem State.modMill_otp (f : Mill → Mill) : (s.modMill f).otp = s.otp := rfl
@[simp] theorem State.modMill_tap (f : Mill → Mill) : (s.modMill f).tap = s.tap := rfl
@[simp] theorem State.modMill_mem (f : Mill → Mill) : (s.modMill f).mem = s.mem := rfl
@[simp] theorem State.modMill_dma (f : Mill → Mill) : (s.modMill f).dma = s.dma := rfl
@[simp] theorem State.modMill_events (f : Mill → Mill) : (s.modMill f).events = s.events := rfl
@[simp] theorem State.modMill_stew (f : Mill → Mill) : (s.modMill f).stew = s.stew := rfl
@[simp] theorem State.modMill_cfg (f : Mill → Mill) : (s.modMill f).cfg = s.cfg := rfl
@[simp] theorem State.modMill_tst (f : Mill → Mill) : (s.modMill f).tst = s.tst := rfl
@[simp] theorem State.modMill_loom (f : Mill → Mill) : (s.modMill f).loom = s.loom := rfl
@[simp] theorem State.modMill_gdp (f : Mill → Mill) : (s.modMill f).gdp = s.gdp := rfl
@[simp] theorem State.modMill_cmp (f : Mill → Mill) : (s.modMill f).cmp = s.cmp := rfl
@[simp] theorem State.modMill_acq (f : Mill → Mill) : (s.modMill f).acq = s.acq := rfl
@[simp] theorem State.modMill_prism (f : Mill → Mill) : (s.modMill f).prism = s.prism := rfl
@[simp] theorem State.modMill_wvn (f : Mill → Mill) : (s.modMill f).wvn = s.wvn := rfl
@[simp] theorem State.modMill_tasks (f : Mill → Mill) : (s.modMill f).tasks = s.tasks := rfl
@[simp] theorem State.modMill_grn (f : Mill → Mill) : (s.modMill f).grn = s.grn := rfl
@[simp] theorem State.modMill_shf (f : Mill → Mill) : (s.modMill f).shf = s.shf := rfl
@[simp] theorem State.modMill_safe (f : Mill → Mill) : (s.modMill f).safe = s.safe := rfl
@[simp] theorem State.modMill_ring (f : Mill → Mill) : (s.modMill f).ring = s.ring := rfl
@[simp] theorem State.modMill_draws (f : Mill → Mill) : (s.modMill f).draws = s.draws := rfl
@[simp] theorem State.modMill_pending (f : Mill → Mill) : (s.modMill f).pending = s.pending := rfl

@[simp] theorem State.modLane_regs (ln : Nat) (f : Lane → Lane) : (s.modLane ln f).regs = s.regs := rfl
@[simp] theorem State.modLane_cycle (ln : Nat) (f : Lane → Lane) : (s.modLane ln f).cycle = s.cycle := rfl
@[simp] theorem State.modLane_sys (ln : Nat) (f : Lane → Lane) : (s.modLane ln f).sys = s.sys := rfl
@[simp] theorem State.modLane_clk (ln : Nat) (f : Lane → Lane) : (s.modLane ln f).clk = s.clk := rfl
@[simp] theorem State.modLane_otp (ln : Nat) (f : Lane → Lane) : (s.modLane ln f).otp = s.otp := rfl
@[simp] theorem State.modLane_tap (ln : Nat) (f : Lane → Lane) : (s.modLane ln f).tap = s.tap := rfl
@[simp] theorem State.modLane_mem (ln : Nat) (f : Lane → Lane) : (s.modLane ln f).mem = s.mem := rfl
@[simp] theorem State.modLane_dma (ln : Nat) (f : Lane → Lane) : (s.modLane ln f).dma = s.dma := rfl
@[simp] theorem State.modLane_events (ln : Nat) (f : Lane → Lane) : (s.modLane ln f).events = s.events := rfl
@[simp] theorem State.modLane_stew (ln : Nat) (f : Lane → Lane) : (s.modLane ln f).stew = s.stew := rfl
@[simp] theorem State.modLane_cfg (ln : Nat) (f : Lane → Lane) : (s.modLane ln f).cfg = s.cfg := rfl
@[simp] theorem State.modLane_tst (ln : Nat) (f : Lane → Lane) : (s.modLane ln f).tst = s.tst := rfl
@[simp] theorem State.modLane_loom (ln : Nat) (f : Lane → Lane) : (s.modLane ln f).loom = s.loom := rfl
@[simp] theorem State.modLane_gdp (ln : Nat) (f : Lane → Lane) : (s.modLane ln f).gdp = s.gdp := rfl
@[simp] theorem State.modLane_cmp (ln : Nat) (f : Lane → Lane) : (s.modLane ln f).cmp = s.cmp := rfl
@[simp] theorem State.modLane_acq (ln : Nat) (f : Lane → Lane) : (s.modLane ln f).acq = s.acq := rfl
@[simp] theorem State.modLane_prism (ln : Nat) (f : Lane → Lane) : (s.modLane ln f).prism = s.prism := rfl
@[simp] theorem State.modLane_wvn (ln : Nat) (f : Lane → Lane) : (s.modLane ln f).wvn = s.wvn := rfl
@[simp] theorem State.modLane_tasks (ln : Nat) (f : Lane → Lane) : (s.modLane ln f).tasks = s.tasks := rfl
@[simp] theorem State.modLane_grn (ln : Nat) (f : Lane → Lane) : (s.modLane ln f).grn = s.grn := rfl
@[simp] theorem State.modLane_shf (ln : Nat) (f : Lane → Lane) : (s.modLane ln f).shf = s.shf := rfl
@[simp] theorem State.modLane_safe (ln : Nat) (f : Lane → Lane) : (s.modLane ln f).safe = s.safe := rfl
@[simp] theorem State.modLane_ring (ln : Nat) (f : Lane → Lane) : (s.modLane ln f).ring = s.ring := rfl
@[simp] theorem State.modLane_draws (ln : Nat) (f : Lane → Lane) : (s.modLane ln f).draws = s.draws := rfl
@[simp] theorem State.modLane_pending (ln : Nat) (f : Lane → Lane) : (s.modLane ln f).pending = s.pending := rfl

@[simp] theorem State.modTask_regs (t : Nat) (f : TaskSt → TaskSt) : (s.modTask t f).regs = s.regs := rfl
@[simp] theorem State.modTask_cycle (t : Nat) (f : TaskSt → TaskSt) : (s.modTask t f).cycle = s.cycle := rfl
@[simp] theorem State.modTask_sys (t : Nat) (f : TaskSt → TaskSt) : (s.modTask t f).sys = s.sys := rfl
@[simp] theorem State.modTask_clk (t : Nat) (f : TaskSt → TaskSt) : (s.modTask t f).clk = s.clk := rfl
@[simp] theorem State.modTask_otp (t : Nat) (f : TaskSt → TaskSt) : (s.modTask t f).otp = s.otp := rfl
@[simp] theorem State.modTask_tap (t : Nat) (f : TaskSt → TaskSt) : (s.modTask t f).tap = s.tap := rfl
@[simp] theorem State.modTask_mem (t : Nat) (f : TaskSt → TaskSt) : (s.modTask t f).mem = s.mem := rfl
@[simp] theorem State.modTask_dma (t : Nat) (f : TaskSt → TaskSt) : (s.modTask t f).dma = s.dma := rfl
@[simp] theorem State.modTask_events (t : Nat) (f : TaskSt → TaskSt) : (s.modTask t f).events = s.events := rfl
@[simp] theorem State.modTask_stew (t : Nat) (f : TaskSt → TaskSt) : (s.modTask t f).stew = s.stew := rfl
@[simp] theorem State.modTask_cfg (t : Nat) (f : TaskSt → TaskSt) : (s.modTask t f).cfg = s.cfg := rfl
@[simp] theorem State.modTask_tst (t : Nat) (f : TaskSt → TaskSt) : (s.modTask t f).tst = s.tst := rfl
@[simp] theorem State.modTask_loom (t : Nat) (f : TaskSt → TaskSt) : (s.modTask t f).loom = s.loom := rfl
@[simp] theorem State.modTask_gdp (t : Nat) (f : TaskSt → TaskSt) : (s.modTask t f).gdp = s.gdp := rfl
@[simp] theorem State.modTask_cmp (t : Nat) (f : TaskSt → TaskSt) : (s.modTask t f).cmp = s.cmp := rfl
@[simp] theorem State.modTask_acq (t : Nat) (f : TaskSt → TaskSt) : (s.modTask t f).acq = s.acq := rfl
@[simp] theorem State.modTask_prism (t : Nat) (f : TaskSt → TaskSt) : (s.modTask t f).prism = s.prism := rfl
@[simp] theorem State.modTask_wvn (t : Nat) (f : TaskSt → TaskSt) : (s.modTask t f).wvn = s.wvn := rfl
@[simp] theorem State.modTask_mill (t : Nat) (f : TaskSt → TaskSt) : (s.modTask t f).mill = s.mill := rfl
@[simp] theorem State.modTask_grn (t : Nat) (f : TaskSt → TaskSt) : (s.modTask t f).grn = s.grn := rfl
@[simp] theorem State.modTask_shf (t : Nat) (f : TaskSt → TaskSt) : (s.modTask t f).shf = s.shf := rfl
@[simp] theorem State.modTask_safe (t : Nat) (f : TaskSt → TaskSt) : (s.modTask t f).safe = s.safe := rfl
@[simp] theorem State.modTask_ring (t : Nat) (f : TaskSt → TaskSt) : (s.modTask t f).ring = s.ring := rfl
@[simp] theorem State.modTask_draws (t : Nat) (f : TaskSt → TaskSt) : (s.modTask t f).draws = s.draws := rfl
@[simp] theorem State.modTask_pending (t : Nat) (f : TaskSt → TaskSt) : (s.modTask t f).pending = s.pending := rfl

@[simp] theorem State.modLeg_regs (l : Nat) (f : LegSt → LegSt) : (s.modLeg l f).regs = s.regs := rfl
@[simp] theorem State.modLeg_cycle (l : Nat) (f : LegSt → LegSt) : (s.modLeg l f).cycle = s.cycle := rfl
@[simp] theorem State.modLeg_sys (l : Nat) (f : LegSt → LegSt) : (s.modLeg l f).sys = s.sys := rfl
@[simp] theorem State.modLeg_clk (l : Nat) (f : LegSt → LegSt) : (s.modLeg l f).clk = s.clk := rfl
@[simp] theorem State.modLeg_otp (l : Nat) (f : LegSt → LegSt) : (s.modLeg l f).otp = s.otp := rfl
@[simp] theorem State.modLeg_tap (l : Nat) (f : LegSt → LegSt) : (s.modLeg l f).tap = s.tap := rfl
@[simp] theorem State.modLeg_mem (l : Nat) (f : LegSt → LegSt) : (s.modLeg l f).mem = s.mem := rfl
@[simp] theorem State.modLeg_dma (l : Nat) (f : LegSt → LegSt) : (s.modLeg l f).dma = s.dma := rfl
@[simp] theorem State.modLeg_events (l : Nat) (f : LegSt → LegSt) : (s.modLeg l f).events = s.events := rfl
@[simp] theorem State.modLeg_stew (l : Nat) (f : LegSt → LegSt) : (s.modLeg l f).stew = s.stew := rfl
@[simp] theorem State.modLeg_cfg (l : Nat) (f : LegSt → LegSt) : (s.modLeg l f).cfg = s.cfg := rfl
@[simp] theorem State.modLeg_tst (l : Nat) (f : LegSt → LegSt) : (s.modLeg l f).tst = s.tst := rfl
@[simp] theorem State.modLeg_gdp (l : Nat) (f : LegSt → LegSt) : (s.modLeg l f).gdp = s.gdp := rfl
@[simp] theorem State.modLeg_cmp (l : Nat) (f : LegSt → LegSt) : (s.modLeg l f).cmp = s.cmp := rfl
@[simp] theorem State.modLeg_acq (l : Nat) (f : LegSt → LegSt) : (s.modLeg l f).acq = s.acq := rfl
@[simp] theorem State.modLeg_prism (l : Nat) (f : LegSt → LegSt) : (s.modLeg l f).prism = s.prism := rfl
@[simp] theorem State.modLeg_wvn (l : Nat) (f : LegSt → LegSt) : (s.modLeg l f).wvn = s.wvn := rfl
@[simp] theorem State.modLeg_mill (l : Nat) (f : LegSt → LegSt) : (s.modLeg l f).mill = s.mill := rfl
@[simp] theorem State.modLeg_tasks (l : Nat) (f : LegSt → LegSt) : (s.modLeg l f).tasks = s.tasks := rfl
@[simp] theorem State.modLeg_grn (l : Nat) (f : LegSt → LegSt) : (s.modLeg l f).grn = s.grn := rfl
@[simp] theorem State.modLeg_shf (l : Nat) (f : LegSt → LegSt) : (s.modLeg l f).shf = s.shf := rfl
@[simp] theorem State.modLeg_safe (l : Nat) (f : LegSt → LegSt) : (s.modLeg l f).safe = s.safe := rfl
@[simp] theorem State.modLeg_ring (l : Nat) (f : LegSt → LegSt) : (s.modLeg l f).ring = s.ring := rfl
@[simp] theorem State.modLeg_draws (l : Nat) (f : LegSt → LegSt) : (s.modLeg l f).draws = s.draws := rfl
@[simp] theorem State.modLeg_pending (l : Nat) (f : LegSt → LegSt) : (s.modLeg l f).pending = s.pending := rfl

@[simp] theorem State.modCar_regs (c : Nat) (f : CarSt → CarSt) : (s.modCar c f).regs = s.regs := rfl
@[simp] theorem State.modCar_cycle (c : Nat) (f : CarSt → CarSt) : (s.modCar c f).cycle = s.cycle := rfl
@[simp] theorem State.modCar_sys (c : Nat) (f : CarSt → CarSt) : (s.modCar c f).sys = s.sys := rfl
@[simp] theorem State.modCar_clk (c : Nat) (f : CarSt → CarSt) : (s.modCar c f).clk = s.clk := rfl
@[simp] theorem State.modCar_otp (c : Nat) (f : CarSt → CarSt) : (s.modCar c f).otp = s.otp := rfl
@[simp] theorem State.modCar_tap (c : Nat) (f : CarSt → CarSt) : (s.modCar c f).tap = s.tap := rfl
@[simp] theorem State.modCar_mem (c : Nat) (f : CarSt → CarSt) : (s.modCar c f).mem = s.mem := rfl
@[simp] theorem State.modCar_dma (c : Nat) (f : CarSt → CarSt) : (s.modCar c f).dma = s.dma := rfl
@[simp] theorem State.modCar_events (c : Nat) (f : CarSt → CarSt) : (s.modCar c f).events = s.events := rfl
@[simp] theorem State.modCar_stew (c : Nat) (f : CarSt → CarSt) : (s.modCar c f).stew = s.stew := rfl
@[simp] theorem State.modCar_cfg (c : Nat) (f : CarSt → CarSt) : (s.modCar c f).cfg = s.cfg := rfl
@[simp] theorem State.modCar_tst (c : Nat) (f : CarSt → CarSt) : (s.modCar c f).tst = s.tst := rfl
@[simp] theorem State.modCar_gdp (c : Nat) (f : CarSt → CarSt) : (s.modCar c f).gdp = s.gdp := rfl
@[simp] theorem State.modCar_cmp (c : Nat) (f : CarSt → CarSt) : (s.modCar c f).cmp = s.cmp := rfl
@[simp] theorem State.modCar_acq (c : Nat) (f : CarSt → CarSt) : (s.modCar c f).acq = s.acq := rfl
@[simp] theorem State.modCar_prism (c : Nat) (f : CarSt → CarSt) : (s.modCar c f).prism = s.prism := rfl
@[simp] theorem State.modCar_wvn (c : Nat) (f : CarSt → CarSt) : (s.modCar c f).wvn = s.wvn := rfl
@[simp] theorem State.modCar_mill (c : Nat) (f : CarSt → CarSt) : (s.modCar c f).mill = s.mill := rfl
@[simp] theorem State.modCar_tasks (c : Nat) (f : CarSt → CarSt) : (s.modCar c f).tasks = s.tasks := rfl
@[simp] theorem State.modCar_grn (c : Nat) (f : CarSt → CarSt) : (s.modCar c f).grn = s.grn := rfl
@[simp] theorem State.modCar_shf (c : Nat) (f : CarSt → CarSt) : (s.modCar c f).shf = s.shf := rfl
@[simp] theorem State.modCar_safe (c : Nat) (f : CarSt → CarSt) : (s.modCar c f).safe = s.safe := rfl
@[simp] theorem State.modCar_ring (c : Nat) (f : CarSt → CarSt) : (s.modCar c f).ring = s.ring := rfl
@[simp] theorem State.modCar_draws (c : Nat) (f : CarSt → CarSt) : (s.modCar c f).draws = s.draws := rfl
@[simp] theorem State.modCar_pending (c : Nat) (f : CarSt → CarSt) : (s.modCar c f).pending = s.pending := rfl

@[simp] theorem State.modTl_regs (k : Nat) (f : TlSt → TlSt) : (s.modTl k f).regs = s.regs := rfl
@[simp] theorem State.modTl_cycle (k : Nat) (f : TlSt → TlSt) : (s.modTl k f).cycle = s.cycle := rfl
@[simp] theorem State.modTl_sys (k : Nat) (f : TlSt → TlSt) : (s.modTl k f).sys = s.sys := rfl
@[simp] theorem State.modTl_clk (k : Nat) (f : TlSt → TlSt) : (s.modTl k f).clk = s.clk := rfl
@[simp] theorem State.modTl_otp (k : Nat) (f : TlSt → TlSt) : (s.modTl k f).otp = s.otp := rfl
@[simp] theorem State.modTl_tap (k : Nat) (f : TlSt → TlSt) : (s.modTl k f).tap = s.tap := rfl
@[simp] theorem State.modTl_mem (k : Nat) (f : TlSt → TlSt) : (s.modTl k f).mem = s.mem := rfl
@[simp] theorem State.modTl_dma (k : Nat) (f : TlSt → TlSt) : (s.modTl k f).dma = s.dma := rfl
@[simp] theorem State.modTl_events (k : Nat) (f : TlSt → TlSt) : (s.modTl k f).events = s.events := rfl
@[simp] theorem State.modTl_stew (k : Nat) (f : TlSt → TlSt) : (s.modTl k f).stew = s.stew := rfl
@[simp] theorem State.modTl_cfg (k : Nat) (f : TlSt → TlSt) : (s.modTl k f).cfg = s.cfg := rfl
@[simp] theorem State.modTl_tst (k : Nat) (f : TlSt → TlSt) : (s.modTl k f).tst = s.tst := rfl
@[simp] theorem State.modTl_gdp (k : Nat) (f : TlSt → TlSt) : (s.modTl k f).gdp = s.gdp := rfl
@[simp] theorem State.modTl_cmp (k : Nat) (f : TlSt → TlSt) : (s.modTl k f).cmp = s.cmp := rfl
@[simp] theorem State.modTl_acq (k : Nat) (f : TlSt → TlSt) : (s.modTl k f).acq = s.acq := rfl
@[simp] theorem State.modTl_prism (k : Nat) (f : TlSt → TlSt) : (s.modTl k f).prism = s.prism := rfl
@[simp] theorem State.modTl_wvn (k : Nat) (f : TlSt → TlSt) : (s.modTl k f).wvn = s.wvn := rfl
@[simp] theorem State.modTl_mill (k : Nat) (f : TlSt → TlSt) : (s.modTl k f).mill = s.mill := rfl
@[simp] theorem State.modTl_tasks (k : Nat) (f : TlSt → TlSt) : (s.modTl k f).tasks = s.tasks := rfl
@[simp] theorem State.modTl_grn (k : Nat) (f : TlSt → TlSt) : (s.modTl k f).grn = s.grn := rfl
@[simp] theorem State.modTl_shf (k : Nat) (f : TlSt → TlSt) : (s.modTl k f).shf = s.shf := rfl
@[simp] theorem State.modTl_safe (k : Nat) (f : TlSt → TlSt) : (s.modTl k f).safe = s.safe := rfl
@[simp] theorem State.modTl_ring (k : Nat) (f : TlSt → TlSt) : (s.modTl k f).ring = s.ring := rfl
@[simp] theorem State.modTl_draws (k : Nat) (f : TlSt → TlSt) : (s.modTl k f).draws = s.draws := rfl
@[simp] theorem State.modTl_pending (k : Nat) (f : TlSt → TlSt) : (s.modTl k f).pending = s.pending := rfl

@[simp] theorem State.modGd_regs (n : Nat) (f : GdSt → GdSt) : (s.modGd n f).regs = s.regs := rfl
@[simp] theorem State.modGd_cycle (n : Nat) (f : GdSt → GdSt) : (s.modGd n f).cycle = s.cycle := rfl
@[simp] theorem State.modGd_sys (n : Nat) (f : GdSt → GdSt) : (s.modGd n f).sys = s.sys := rfl
@[simp] theorem State.modGd_clk (n : Nat) (f : GdSt → GdSt) : (s.modGd n f).clk = s.clk := rfl
@[simp] theorem State.modGd_otp (n : Nat) (f : GdSt → GdSt) : (s.modGd n f).otp = s.otp := rfl
@[simp] theorem State.modGd_tap (n : Nat) (f : GdSt → GdSt) : (s.modGd n f).tap = s.tap := rfl
@[simp] theorem State.modGd_mem (n : Nat) (f : GdSt → GdSt) : (s.modGd n f).mem = s.mem := rfl
@[simp] theorem State.modGd_dma (n : Nat) (f : GdSt → GdSt) : (s.modGd n f).dma = s.dma := rfl
@[simp] theorem State.modGd_events (n : Nat) (f : GdSt → GdSt) : (s.modGd n f).events = s.events := rfl
@[simp] theorem State.modGd_stew (n : Nat) (f : GdSt → GdSt) : (s.modGd n f).stew = s.stew := rfl
@[simp] theorem State.modGd_cfg (n : Nat) (f : GdSt → GdSt) : (s.modGd n f).cfg = s.cfg := rfl
@[simp] theorem State.modGd_tst (n : Nat) (f : GdSt → GdSt) : (s.modGd n f).tst = s.tst := rfl
@[simp] theorem State.modGd_loom (n : Nat) (f : GdSt → GdSt) : (s.modGd n f).loom = s.loom := rfl
@[simp] theorem State.modGd_cmp (n : Nat) (f : GdSt → GdSt) : (s.modGd n f).cmp = s.cmp := rfl
@[simp] theorem State.modGd_acq (n : Nat) (f : GdSt → GdSt) : (s.modGd n f).acq = s.acq := rfl
@[simp] theorem State.modGd_prism (n : Nat) (f : GdSt → GdSt) : (s.modGd n f).prism = s.prism := rfl
@[simp] theorem State.modGd_wvn (n : Nat) (f : GdSt → GdSt) : (s.modGd n f).wvn = s.wvn := rfl
@[simp] theorem State.modGd_mill (n : Nat) (f : GdSt → GdSt) : (s.modGd n f).mill = s.mill := rfl
@[simp] theorem State.modGd_tasks (n : Nat) (f : GdSt → GdSt) : (s.modGd n f).tasks = s.tasks := rfl
@[simp] theorem State.modGd_grn (n : Nat) (f : GdSt → GdSt) : (s.modGd n f).grn = s.grn := rfl
@[simp] theorem State.modGd_shf (n : Nat) (f : GdSt → GdSt) : (s.modGd n f).shf = s.shf := rfl
@[simp] theorem State.modGd_safe (n : Nat) (f : GdSt → GdSt) : (s.modGd n f).safe = s.safe := rfl
@[simp] theorem State.modGd_ring (n : Nat) (f : GdSt → GdSt) : (s.modGd n f).ring = s.ring := rfl
@[simp] theorem State.modGd_draws (n : Nat) (f : GdSt → GdSt) : (s.modGd n f).draws = s.draws := rfl
@[simp] theorem State.modGd_pending (n : Nat) (f : GdSt → GdSt) : (s.modGd n f).pending = s.pending := rfl

@[simp] theorem State.modGroup_regs (g : Nat) (f : GroupSt → GroupSt) : (s.modGroup g f).regs = s.regs := rfl
@[simp] theorem State.modGroup_cycle (g : Nat) (f : GroupSt → GroupSt) : (s.modGroup g f).cycle = s.cycle := rfl
@[simp] theorem State.modGroup_sys (g : Nat) (f : GroupSt → GroupSt) : (s.modGroup g f).sys = s.sys := rfl
@[simp] theorem State.modGroup_clk (g : Nat) (f : GroupSt → GroupSt) : (s.modGroup g f).clk = s.clk := rfl
@[simp] theorem State.modGroup_otp (g : Nat) (f : GroupSt → GroupSt) : (s.modGroup g f).otp = s.otp := rfl
@[simp] theorem State.modGroup_tap (g : Nat) (f : GroupSt → GroupSt) : (s.modGroup g f).tap = s.tap := rfl
@[simp] theorem State.modGroup_mem (g : Nat) (f : GroupSt → GroupSt) : (s.modGroup g f).mem = s.mem := rfl
@[simp] theorem State.modGroup_dma (g : Nat) (f : GroupSt → GroupSt) : (s.modGroup g f).dma = s.dma := rfl
@[simp] theorem State.modGroup_events (g : Nat) (f : GroupSt → GroupSt) : (s.modGroup g f).events = s.events := rfl
@[simp] theorem State.modGroup_stew (g : Nat) (f : GroupSt → GroupSt) : (s.modGroup g f).stew = s.stew := rfl
@[simp] theorem State.modGroup_cfg (g : Nat) (f : GroupSt → GroupSt) : (s.modGroup g f).cfg = s.cfg := rfl
@[simp] theorem State.modGroup_tst (g : Nat) (f : GroupSt → GroupSt) : (s.modGroup g f).tst = s.tst := rfl
@[simp] theorem State.modGroup_loom (g : Nat) (f : GroupSt → GroupSt) : (s.modGroup g f).loom = s.loom := rfl
@[simp] theorem State.modGroup_cmp (g : Nat) (f : GroupSt → GroupSt) : (s.modGroup g f).cmp = s.cmp := rfl
@[simp] theorem State.modGroup_acq (g : Nat) (f : GroupSt → GroupSt) : (s.modGroup g f).acq = s.acq := rfl
@[simp] theorem State.modGroup_prism (g : Nat) (f : GroupSt → GroupSt) : (s.modGroup g f).prism = s.prism := rfl
@[simp] theorem State.modGroup_wvn (g : Nat) (f : GroupSt → GroupSt) : (s.modGroup g f).wvn = s.wvn := rfl
@[simp] theorem State.modGroup_mill (g : Nat) (f : GroupSt → GroupSt) : (s.modGroup g f).mill = s.mill := rfl
@[simp] theorem State.modGroup_tasks (g : Nat) (f : GroupSt → GroupSt) : (s.modGroup g f).tasks = s.tasks := rfl
@[simp] theorem State.modGroup_grn (g : Nat) (f : GroupSt → GroupSt) : (s.modGroup g f).grn = s.grn := rfl
@[simp] theorem State.modGroup_shf (g : Nat) (f : GroupSt → GroupSt) : (s.modGroup g f).shf = s.shf := rfl
@[simp] theorem State.modGroup_safe (g : Nat) (f : GroupSt → GroupSt) : (s.modGroup g f).safe = s.safe := rfl
@[simp] theorem State.modGroup_ring (g : Nat) (f : GroupSt → GroupSt) : (s.modGroup g f).ring = s.ring := rfl
@[simp] theorem State.modGroup_draws (g : Nat) (f : GroupSt → GroupSt) : (s.modGroup g f).draws = s.draws := rfl
@[simp] theorem State.modGroup_pending (g : Nat) (f : GroupSt → GroupSt) : (s.modGroup g f).pending = s.pending := rfl

@[simp] theorem State.modBrk_regs (n : Nat) (f : LinkBrk → LinkBrk) : (s.modBrk n f).regs = s.regs := rfl
@[simp] theorem State.modBrk_cycle (n : Nat) (f : LinkBrk → LinkBrk) : (s.modBrk n f).cycle = s.cycle := rfl
@[simp] theorem State.modBrk_sys (n : Nat) (f : LinkBrk → LinkBrk) : (s.modBrk n f).sys = s.sys := rfl
@[simp] theorem State.modBrk_clk (n : Nat) (f : LinkBrk → LinkBrk) : (s.modBrk n f).clk = s.clk := rfl
@[simp] theorem State.modBrk_otp (n : Nat) (f : LinkBrk → LinkBrk) : (s.modBrk n f).otp = s.otp := rfl
@[simp] theorem State.modBrk_tap (n : Nat) (f : LinkBrk → LinkBrk) : (s.modBrk n f).tap = s.tap := rfl
@[simp] theorem State.modBrk_mem (n : Nat) (f : LinkBrk → LinkBrk) : (s.modBrk n f).mem = s.mem := rfl
@[simp] theorem State.modBrk_dma (n : Nat) (f : LinkBrk → LinkBrk) : (s.modBrk n f).dma = s.dma := rfl
@[simp] theorem State.modBrk_events (n : Nat) (f : LinkBrk → LinkBrk) : (s.modBrk n f).events = s.events := rfl
@[simp] theorem State.modBrk_stew (n : Nat) (f : LinkBrk → LinkBrk) : (s.modBrk n f).stew = s.stew := rfl
@[simp] theorem State.modBrk_cfg (n : Nat) (f : LinkBrk → LinkBrk) : (s.modBrk n f).cfg = s.cfg := rfl
@[simp] theorem State.modBrk_tst (n : Nat) (f : LinkBrk → LinkBrk) : (s.modBrk n f).tst = s.tst := rfl
@[simp] theorem State.modBrk_loom (n : Nat) (f : LinkBrk → LinkBrk) : (s.modBrk n f).loom = s.loom := rfl
@[simp] theorem State.modBrk_cmp (n : Nat) (f : LinkBrk → LinkBrk) : (s.modBrk n f).cmp = s.cmp := rfl
@[simp] theorem State.modBrk_acq (n : Nat) (f : LinkBrk → LinkBrk) : (s.modBrk n f).acq = s.acq := rfl
@[simp] theorem State.modBrk_prism (n : Nat) (f : LinkBrk → LinkBrk) : (s.modBrk n f).prism = s.prism := rfl
@[simp] theorem State.modBrk_wvn (n : Nat) (f : LinkBrk → LinkBrk) : (s.modBrk n f).wvn = s.wvn := rfl
@[simp] theorem State.modBrk_mill (n : Nat) (f : LinkBrk → LinkBrk) : (s.modBrk n f).mill = s.mill := rfl
@[simp] theorem State.modBrk_tasks (n : Nat) (f : LinkBrk → LinkBrk) : (s.modBrk n f).tasks = s.tasks := rfl
@[simp] theorem State.modBrk_grn (n : Nat) (f : LinkBrk → LinkBrk) : (s.modBrk n f).grn = s.grn := rfl
@[simp] theorem State.modBrk_shf (n : Nat) (f : LinkBrk → LinkBrk) : (s.modBrk n f).shf = s.shf := rfl
@[simp] theorem State.modBrk_safe (n : Nat) (f : LinkBrk → LinkBrk) : (s.modBrk n f).safe = s.safe := rfl
@[simp] theorem State.modBrk_ring (n : Nat) (f : LinkBrk → LinkBrk) : (s.modBrk n f).ring = s.ring := rfl
@[simp] theorem State.modBrk_draws (n : Nat) (f : LinkBrk → LinkBrk) : (s.modBrk n f).draws = s.draws := rfl
@[simp] theorem State.modBrk_pending (n : Nat) (f : LinkBrk → LinkBrk) : (s.modBrk n f).pending = s.pending := rfl

@[simp] theorem State.modWin_regs (w : Nat) (f : CmpWin → CmpWin) : (s.modWin w f).regs = s.regs := rfl
@[simp] theorem State.modWin_cycle (w : Nat) (f : CmpWin → CmpWin) : (s.modWin w f).cycle = s.cycle := rfl
@[simp] theorem State.modWin_sys (w : Nat) (f : CmpWin → CmpWin) : (s.modWin w f).sys = s.sys := rfl
@[simp] theorem State.modWin_clk (w : Nat) (f : CmpWin → CmpWin) : (s.modWin w f).clk = s.clk := rfl
@[simp] theorem State.modWin_otp (w : Nat) (f : CmpWin → CmpWin) : (s.modWin w f).otp = s.otp := rfl
@[simp] theorem State.modWin_tap (w : Nat) (f : CmpWin → CmpWin) : (s.modWin w f).tap = s.tap := rfl
@[simp] theorem State.modWin_mem (w : Nat) (f : CmpWin → CmpWin) : (s.modWin w f).mem = s.mem := rfl
@[simp] theorem State.modWin_dma (w : Nat) (f : CmpWin → CmpWin) : (s.modWin w f).dma = s.dma := rfl
@[simp] theorem State.modWin_events (w : Nat) (f : CmpWin → CmpWin) : (s.modWin w f).events = s.events := rfl
@[simp] theorem State.modWin_stew (w : Nat) (f : CmpWin → CmpWin) : (s.modWin w f).stew = s.stew := rfl
@[simp] theorem State.modWin_cfg (w : Nat) (f : CmpWin → CmpWin) : (s.modWin w f).cfg = s.cfg := rfl
@[simp] theorem State.modWin_tst (w : Nat) (f : CmpWin → CmpWin) : (s.modWin w f).tst = s.tst := rfl
@[simp] theorem State.modWin_loom (w : Nat) (f : CmpWin → CmpWin) : (s.modWin w f).loom = s.loom := rfl
@[simp] theorem State.modWin_gdp (w : Nat) (f : CmpWin → CmpWin) : (s.modWin w f).gdp = s.gdp := rfl
@[simp] theorem State.modWin_acq (w : Nat) (f : CmpWin → CmpWin) : (s.modWin w f).acq = s.acq := rfl
@[simp] theorem State.modWin_prism (w : Nat) (f : CmpWin → CmpWin) : (s.modWin w f).prism = s.prism := rfl
@[simp] theorem State.modWin_wvn (w : Nat) (f : CmpWin → CmpWin) : (s.modWin w f).wvn = s.wvn := rfl
@[simp] theorem State.modWin_mill (w : Nat) (f : CmpWin → CmpWin) : (s.modWin w f).mill = s.mill := rfl
@[simp] theorem State.modWin_tasks (w : Nat) (f : CmpWin → CmpWin) : (s.modWin w f).tasks = s.tasks := rfl
@[simp] theorem State.modWin_grn (w : Nat) (f : CmpWin → CmpWin) : (s.modWin w f).grn = s.grn := rfl
@[simp] theorem State.modWin_shf (w : Nat) (f : CmpWin → CmpWin) : (s.modWin w f).shf = s.shf := rfl
@[simp] theorem State.modWin_safe (w : Nat) (f : CmpWin → CmpWin) : (s.modWin w f).safe = s.safe := rfl
@[simp] theorem State.modWin_ring (w : Nat) (f : CmpWin → CmpWin) : (s.modWin w f).ring = s.ring := rfl
@[simp] theorem State.modWin_draws (w : Nat) (f : CmpWin → CmpWin) : (s.modWin w f).draws = s.draws := rfl
@[simp] theorem State.modWin_pending (w : Nat) (f : CmpWin → CmpWin) : (s.modWin w f).pending = s.pending := rfl

@[simp] theorem State.modGrn_regs (f : Grn → Grn) : (s.modGrn f).regs = s.regs := rfl
@[simp] theorem State.modGrn_cycle (f : Grn → Grn) : (s.modGrn f).cycle = s.cycle := rfl
@[simp] theorem State.modGrn_sys (f : Grn → Grn) : (s.modGrn f).sys = s.sys := rfl
@[simp] theorem State.modGrn_clk (f : Grn → Grn) : (s.modGrn f).clk = s.clk := rfl
@[simp] theorem State.modGrn_otp (f : Grn → Grn) : (s.modGrn f).otp = s.otp := rfl
@[simp] theorem State.modGrn_tap (f : Grn → Grn) : (s.modGrn f).tap = s.tap := rfl
@[simp] theorem State.modGrn_mem (f : Grn → Grn) : (s.modGrn f).mem = s.mem := rfl
@[simp] theorem State.modGrn_dma (f : Grn → Grn) : (s.modGrn f).dma = s.dma := rfl
@[simp] theorem State.modGrn_events (f : Grn → Grn) : (s.modGrn f).events = s.events := rfl
@[simp] theorem State.modGrn_stew (f : Grn → Grn) : (s.modGrn f).stew = s.stew := rfl
@[simp] theorem State.modGrn_cfg (f : Grn → Grn) : (s.modGrn f).cfg = s.cfg := rfl
@[simp] theorem State.modGrn_tst (f : Grn → Grn) : (s.modGrn f).tst = s.tst := rfl
@[simp] theorem State.modGrn_loom (f : Grn → Grn) : (s.modGrn f).loom = s.loom := rfl
@[simp] theorem State.modGrn_gdp (f : Grn → Grn) : (s.modGrn f).gdp = s.gdp := rfl
@[simp] theorem State.modGrn_cmp (f : Grn → Grn) : (s.modGrn f).cmp = s.cmp := rfl
@[simp] theorem State.modGrn_acq (f : Grn → Grn) : (s.modGrn f).acq = s.acq := rfl
@[simp] theorem State.modGrn_prism (f : Grn → Grn) : (s.modGrn f).prism = s.prism := rfl
@[simp] theorem State.modGrn_wvn (f : Grn → Grn) : (s.modGrn f).wvn = s.wvn := rfl
@[simp] theorem State.modGrn_mill (f : Grn → Grn) : (s.modGrn f).mill = s.mill := rfl
@[simp] theorem State.modGrn_tasks (f : Grn → Grn) : (s.modGrn f).tasks = s.tasks := rfl
@[simp] theorem State.modGrn_shf (f : Grn → Grn) : (s.modGrn f).shf = s.shf := rfl
@[simp] theorem State.modGrn_safe (f : Grn → Grn) : (s.modGrn f).safe = s.safe := rfl
@[simp] theorem State.modGrn_ring (f : Grn → Grn) : (s.modGrn f).ring = s.ring := rfl
@[simp] theorem State.modGrn_draws (f : Grn → Grn) : (s.modGrn f).draws = s.draws := rfl
@[simp] theorem State.modGrn_pending (f : Grn → Grn) : (s.modGrn f).pending = s.pending := rfl

@[simp] theorem State.modAc_regs (m : Nat) (f : AcMeter → AcMeter) : (s.modAc m f).regs = s.regs := rfl
@[simp] theorem State.modAc_cycle (m : Nat) (f : AcMeter → AcMeter) : (s.modAc m f).cycle = s.cycle := rfl
@[simp] theorem State.modAc_sys (m : Nat) (f : AcMeter → AcMeter) : (s.modAc m f).sys = s.sys := rfl
@[simp] theorem State.modAc_clk (m : Nat) (f : AcMeter → AcMeter) : (s.modAc m f).clk = s.clk := rfl
@[simp] theorem State.modAc_otp (m : Nat) (f : AcMeter → AcMeter) : (s.modAc m f).otp = s.otp := rfl
@[simp] theorem State.modAc_tap (m : Nat) (f : AcMeter → AcMeter) : (s.modAc m f).tap = s.tap := rfl
@[simp] theorem State.modAc_mem (m : Nat) (f : AcMeter → AcMeter) : (s.modAc m f).mem = s.mem := rfl
@[simp] theorem State.modAc_dma (m : Nat) (f : AcMeter → AcMeter) : (s.modAc m f).dma = s.dma := rfl
@[simp] theorem State.modAc_events (m : Nat) (f : AcMeter → AcMeter) : (s.modAc m f).events = s.events := rfl
@[simp] theorem State.modAc_stew (m : Nat) (f : AcMeter → AcMeter) : (s.modAc m f).stew = s.stew := rfl
@[simp] theorem State.modAc_cfg (m : Nat) (f : AcMeter → AcMeter) : (s.modAc m f).cfg = s.cfg := rfl
@[simp] theorem State.modAc_tst (m : Nat) (f : AcMeter → AcMeter) : (s.modAc m f).tst = s.tst := rfl
@[simp] theorem State.modAc_loom (m : Nat) (f : AcMeter → AcMeter) : (s.modAc m f).loom = s.loom := rfl
@[simp] theorem State.modAc_gdp (m : Nat) (f : AcMeter → AcMeter) : (s.modAc m f).gdp = s.gdp := rfl
@[simp] theorem State.modAc_cmp (m : Nat) (f : AcMeter → AcMeter) : (s.modAc m f).cmp = s.cmp := rfl
@[simp] theorem State.modAc_acq (m : Nat) (f : AcMeter → AcMeter) : (s.modAc m f).acq = s.acq := rfl
@[simp] theorem State.modAc_prism (m : Nat) (f : AcMeter → AcMeter) : (s.modAc m f).prism = s.prism := rfl
@[simp] theorem State.modAc_wvn (m : Nat) (f : AcMeter → AcMeter) : (s.modAc m f).wvn = s.wvn := rfl
@[simp] theorem State.modAc_mill (m : Nat) (f : AcMeter → AcMeter) : (s.modAc m f).mill = s.mill := rfl
@[simp] theorem State.modAc_tasks (m : Nat) (f : AcMeter → AcMeter) : (s.modAc m f).tasks = s.tasks := rfl
@[simp] theorem State.modAc_shf (m : Nat) (f : AcMeter → AcMeter) : (s.modAc m f).shf = s.shf := rfl
@[simp] theorem State.modAc_safe (m : Nat) (f : AcMeter → AcMeter) : (s.modAc m f).safe = s.safe := rfl
@[simp] theorem State.modAc_ring (m : Nat) (f : AcMeter → AcMeter) : (s.modAc m f).ring = s.ring := rfl
@[simp] theorem State.modAc_draws (m : Nat) (f : AcMeter → AcMeter) : (s.modAc m f).draws = s.draws := rfl
@[simp] theorem State.modAc_pending (m : Nat) (f : AcMeter → AcMeter) : (s.modAc m f).pending = s.pending := rfl

@[simp] theorem State.modDc_regs (m : Nat) (f : DcMeter → DcMeter) : (s.modDc m f).regs = s.regs := rfl
@[simp] theorem State.modDc_cycle (m : Nat) (f : DcMeter → DcMeter) : (s.modDc m f).cycle = s.cycle := rfl
@[simp] theorem State.modDc_sys (m : Nat) (f : DcMeter → DcMeter) : (s.modDc m f).sys = s.sys := rfl
@[simp] theorem State.modDc_clk (m : Nat) (f : DcMeter → DcMeter) : (s.modDc m f).clk = s.clk := rfl
@[simp] theorem State.modDc_otp (m : Nat) (f : DcMeter → DcMeter) : (s.modDc m f).otp = s.otp := rfl
@[simp] theorem State.modDc_tap (m : Nat) (f : DcMeter → DcMeter) : (s.modDc m f).tap = s.tap := rfl
@[simp] theorem State.modDc_mem (m : Nat) (f : DcMeter → DcMeter) : (s.modDc m f).mem = s.mem := rfl
@[simp] theorem State.modDc_dma (m : Nat) (f : DcMeter → DcMeter) : (s.modDc m f).dma = s.dma := rfl
@[simp] theorem State.modDc_events (m : Nat) (f : DcMeter → DcMeter) : (s.modDc m f).events = s.events := rfl
@[simp] theorem State.modDc_stew (m : Nat) (f : DcMeter → DcMeter) : (s.modDc m f).stew = s.stew := rfl
@[simp] theorem State.modDc_cfg (m : Nat) (f : DcMeter → DcMeter) : (s.modDc m f).cfg = s.cfg := rfl
@[simp] theorem State.modDc_tst (m : Nat) (f : DcMeter → DcMeter) : (s.modDc m f).tst = s.tst := rfl
@[simp] theorem State.modDc_loom (m : Nat) (f : DcMeter → DcMeter) : (s.modDc m f).loom = s.loom := rfl
@[simp] theorem State.modDc_gdp (m : Nat) (f : DcMeter → DcMeter) : (s.modDc m f).gdp = s.gdp := rfl
@[simp] theorem State.modDc_cmp (m : Nat) (f : DcMeter → DcMeter) : (s.modDc m f).cmp = s.cmp := rfl
@[simp] theorem State.modDc_acq (m : Nat) (f : DcMeter → DcMeter) : (s.modDc m f).acq = s.acq := rfl
@[simp] theorem State.modDc_prism (m : Nat) (f : DcMeter → DcMeter) : (s.modDc m f).prism = s.prism := rfl
@[simp] theorem State.modDc_wvn (m : Nat) (f : DcMeter → DcMeter) : (s.modDc m f).wvn = s.wvn := rfl
@[simp] theorem State.modDc_mill (m : Nat) (f : DcMeter → DcMeter) : (s.modDc m f).mill = s.mill := rfl
@[simp] theorem State.modDc_tasks (m : Nat) (f : DcMeter → DcMeter) : (s.modDc m f).tasks = s.tasks := rfl
@[simp] theorem State.modDc_shf (m : Nat) (f : DcMeter → DcMeter) : (s.modDc m f).shf = s.shf := rfl
@[simp] theorem State.modDc_safe (m : Nat) (f : DcMeter → DcMeter) : (s.modDc m f).safe = s.safe := rfl
@[simp] theorem State.modDc_ring (m : Nat) (f : DcMeter → DcMeter) : (s.modDc m f).ring = s.ring := rfl
@[simp] theorem State.modDc_draws (m : Nat) (f : DcMeter → DcMeter) : (s.modDc m f).draws = s.draws := rfl
@[simp] theorem State.modDc_pending (m : Nat) (f : DcMeter → DcMeter) : (s.modDc m f).pending = s.pending := rfl

@[simp] theorem State.modShf_regs (f : Shf → Shf) : (s.modShf f).regs = s.regs := rfl
@[simp] theorem State.modShf_cycle (f : Shf → Shf) : (s.modShf f).cycle = s.cycle := rfl
@[simp] theorem State.modShf_sys (f : Shf → Shf) : (s.modShf f).sys = s.sys := rfl
@[simp] theorem State.modShf_clk (f : Shf → Shf) : (s.modShf f).clk = s.clk := rfl
@[simp] theorem State.modShf_otp (f : Shf → Shf) : (s.modShf f).otp = s.otp := rfl
@[simp] theorem State.modShf_tap (f : Shf → Shf) : (s.modShf f).tap = s.tap := rfl
@[simp] theorem State.modShf_mem (f : Shf → Shf) : (s.modShf f).mem = s.mem := rfl
@[simp] theorem State.modShf_dma (f : Shf → Shf) : (s.modShf f).dma = s.dma := rfl
@[simp] theorem State.modShf_events (f : Shf → Shf) : (s.modShf f).events = s.events := rfl
@[simp] theorem State.modShf_stew (f : Shf → Shf) : (s.modShf f).stew = s.stew := rfl
@[simp] theorem State.modShf_cfg (f : Shf → Shf) : (s.modShf f).cfg = s.cfg := rfl
@[simp] theorem State.modShf_tst (f : Shf → Shf) : (s.modShf f).tst = s.tst := rfl
@[simp] theorem State.modShf_loom (f : Shf → Shf) : (s.modShf f).loom = s.loom := rfl
@[simp] theorem State.modShf_gdp (f : Shf → Shf) : (s.modShf f).gdp = s.gdp := rfl
@[simp] theorem State.modShf_cmp (f : Shf → Shf) : (s.modShf f).cmp = s.cmp := rfl
@[simp] theorem State.modShf_acq (f : Shf → Shf) : (s.modShf f).acq = s.acq := rfl
@[simp] theorem State.modShf_prism (f : Shf → Shf) : (s.modShf f).prism = s.prism := rfl
@[simp] theorem State.modShf_wvn (f : Shf → Shf) : (s.modShf f).wvn = s.wvn := rfl
@[simp] theorem State.modShf_mill (f : Shf → Shf) : (s.modShf f).mill = s.mill := rfl
@[simp] theorem State.modShf_tasks (f : Shf → Shf) : (s.modShf f).tasks = s.tasks := rfl
@[simp] theorem State.modShf_grn (f : Shf → Shf) : (s.modShf f).grn = s.grn := rfl
@[simp] theorem State.modShf_safe (f : Shf → Shf) : (s.modShf f).safe = s.safe := rfl
@[simp] theorem State.modShf_ring (f : Shf → Shf) : (s.modShf f).ring = s.ring := rfl
@[simp] theorem State.modShf_draws (f : Shf → Shf) : (s.modShf f).draws = s.draws := rfl
@[simp] theorem State.modShf_pending (f : Shf → Shf) : (s.modShf f).pending = s.pending := rfl

@[simp] theorem State.modEnc_regs (n : Nat) (f : EncSt → EncSt) : (s.modEnc n f).regs = s.regs := rfl
@[simp] theorem State.modEnc_cycle (n : Nat) (f : EncSt → EncSt) : (s.modEnc n f).cycle = s.cycle := rfl
@[simp] theorem State.modEnc_sys (n : Nat) (f : EncSt → EncSt) : (s.modEnc n f).sys = s.sys := rfl
@[simp] theorem State.modEnc_clk (n : Nat) (f : EncSt → EncSt) : (s.modEnc n f).clk = s.clk := rfl
@[simp] theorem State.modEnc_otp (n : Nat) (f : EncSt → EncSt) : (s.modEnc n f).otp = s.otp := rfl
@[simp] theorem State.modEnc_tap (n : Nat) (f : EncSt → EncSt) : (s.modEnc n f).tap = s.tap := rfl
@[simp] theorem State.modEnc_mem (n : Nat) (f : EncSt → EncSt) : (s.modEnc n f).mem = s.mem := rfl
@[simp] theorem State.modEnc_dma (n : Nat) (f : EncSt → EncSt) : (s.modEnc n f).dma = s.dma := rfl
@[simp] theorem State.modEnc_events (n : Nat) (f : EncSt → EncSt) : (s.modEnc n f).events = s.events := rfl
@[simp] theorem State.modEnc_stew (n : Nat) (f : EncSt → EncSt) : (s.modEnc n f).stew = s.stew := rfl
@[simp] theorem State.modEnc_cfg (n : Nat) (f : EncSt → EncSt) : (s.modEnc n f).cfg = s.cfg := rfl
@[simp] theorem State.modEnc_tst (n : Nat) (f : EncSt → EncSt) : (s.modEnc n f).tst = s.tst := rfl
@[simp] theorem State.modEnc_loom (n : Nat) (f : EncSt → EncSt) : (s.modEnc n f).loom = s.loom := rfl
@[simp] theorem State.modEnc_gdp (n : Nat) (f : EncSt → EncSt) : (s.modEnc n f).gdp = s.gdp := rfl
@[simp] theorem State.modEnc_cmp (n : Nat) (f : EncSt → EncSt) : (s.modEnc n f).cmp = s.cmp := rfl
@[simp] theorem State.modEnc_acq (n : Nat) (f : EncSt → EncSt) : (s.modEnc n f).acq = s.acq := rfl
@[simp] theorem State.modEnc_prism (n : Nat) (f : EncSt → EncSt) : (s.modEnc n f).prism = s.prism := rfl
@[simp] theorem State.modEnc_wvn (n : Nat) (f : EncSt → EncSt) : (s.modEnc n f).wvn = s.wvn := rfl
@[simp] theorem State.modEnc_mill (n : Nat) (f : EncSt → EncSt) : (s.modEnc n f).mill = s.mill := rfl
@[simp] theorem State.modEnc_tasks (n : Nat) (f : EncSt → EncSt) : (s.modEnc n f).tasks = s.tasks := rfl
@[simp] theorem State.modEnc_grn (n : Nat) (f : EncSt → EncSt) : (s.modEnc n f).grn = s.grn := rfl
@[simp] theorem State.modEnc_safe (n : Nat) (f : EncSt → EncSt) : (s.modEnc n f).safe = s.safe := rfl
@[simp] theorem State.modEnc_ring (n : Nat) (f : EncSt → EncSt) : (s.modEnc n f).ring = s.ring := rfl
@[simp] theorem State.modEnc_draws (n : Nat) (f : EncSt → EncSt) : (s.modEnc n f).draws = s.draws := rfl
@[simp] theorem State.modEnc_pending (n : Nat) (f : EncSt → EncSt) : (s.modEnc n f).pending = s.pending := rfl

@[simp] theorem State.modSafe_regs (f : Safe → Safe) : (s.modSafe f).regs = s.regs := rfl
@[simp] theorem State.modSafe_cycle (f : Safe → Safe) : (s.modSafe f).cycle = s.cycle := rfl
@[simp] theorem State.modSafe_sys (f : Safe → Safe) : (s.modSafe f).sys = s.sys := rfl
@[simp] theorem State.modSafe_clk (f : Safe → Safe) : (s.modSafe f).clk = s.clk := rfl
@[simp] theorem State.modSafe_otp (f : Safe → Safe) : (s.modSafe f).otp = s.otp := rfl
@[simp] theorem State.modSafe_tap (f : Safe → Safe) : (s.modSafe f).tap = s.tap := rfl
@[simp] theorem State.modSafe_mem (f : Safe → Safe) : (s.modSafe f).mem = s.mem := rfl
@[simp] theorem State.modSafe_dma (f : Safe → Safe) : (s.modSafe f).dma = s.dma := rfl
@[simp] theorem State.modSafe_events (f : Safe → Safe) : (s.modSafe f).events = s.events := rfl
@[simp] theorem State.modSafe_stew (f : Safe → Safe) : (s.modSafe f).stew = s.stew := rfl
@[simp] theorem State.modSafe_cfg (f : Safe → Safe) : (s.modSafe f).cfg = s.cfg := rfl
@[simp] theorem State.modSafe_tst (f : Safe → Safe) : (s.modSafe f).tst = s.tst := rfl
@[simp] theorem State.modSafe_loom (f : Safe → Safe) : (s.modSafe f).loom = s.loom := rfl
@[simp] theorem State.modSafe_gdp (f : Safe → Safe) : (s.modSafe f).gdp = s.gdp := rfl
@[simp] theorem State.modSafe_cmp (f : Safe → Safe) : (s.modSafe f).cmp = s.cmp := rfl
@[simp] theorem State.modSafe_acq (f : Safe → Safe) : (s.modSafe f).acq = s.acq := rfl
@[simp] theorem State.modSafe_prism (f : Safe → Safe) : (s.modSafe f).prism = s.prism := rfl
@[simp] theorem State.modSafe_wvn (f : Safe → Safe) : (s.modSafe f).wvn = s.wvn := rfl
@[simp] theorem State.modSafe_mill (f : Safe → Safe) : (s.modSafe f).mill = s.mill := rfl
@[simp] theorem State.modSafe_tasks (f : Safe → Safe) : (s.modSafe f).tasks = s.tasks := rfl
@[simp] theorem State.modSafe_grn (f : Safe → Safe) : (s.modSafe f).grn = s.grn := rfl
@[simp] theorem State.modSafe_shf (f : Safe → Safe) : (s.modSafe f).shf = s.shf := rfl
@[simp] theorem State.modSafe_ring (f : Safe → Safe) : (s.modSafe f).ring = s.ring := rfl
@[simp] theorem State.modSafe_draws (f : Safe → Safe) : (s.modSafe f).draws = s.draws := rfl
@[simp] theorem State.modSafe_pending (f : Safe → Safe) : (s.modSafe f).pending = s.pending := rfl

@[simp] theorem State.modRing_regs (f : Ring → Ring) : (s.modRing f).regs = s.regs := rfl
@[simp] theorem State.modRing_cycle (f : Ring → Ring) : (s.modRing f).cycle = s.cycle := rfl
@[simp] theorem State.modRing_sys (f : Ring → Ring) : (s.modRing f).sys = s.sys := rfl
@[simp] theorem State.modRing_clk (f : Ring → Ring) : (s.modRing f).clk = s.clk := rfl
@[simp] theorem State.modRing_otp (f : Ring → Ring) : (s.modRing f).otp = s.otp := rfl
@[simp] theorem State.modRing_tap (f : Ring → Ring) : (s.modRing f).tap = s.tap := rfl
@[simp] theorem State.modRing_mem (f : Ring → Ring) : (s.modRing f).mem = s.mem := rfl
@[simp] theorem State.modRing_dma (f : Ring → Ring) : (s.modRing f).dma = s.dma := rfl
@[simp] theorem State.modRing_events (f : Ring → Ring) : (s.modRing f).events = s.events := rfl
@[simp] theorem State.modRing_stew (f : Ring → Ring) : (s.modRing f).stew = s.stew := rfl
@[simp] theorem State.modRing_cfg (f : Ring → Ring) : (s.modRing f).cfg = s.cfg := rfl
@[simp] theorem State.modRing_tst (f : Ring → Ring) : (s.modRing f).tst = s.tst := rfl
@[simp] theorem State.modRing_loom (f : Ring → Ring) : (s.modRing f).loom = s.loom := rfl
@[simp] theorem State.modRing_gdp (f : Ring → Ring) : (s.modRing f).gdp = s.gdp := rfl
@[simp] theorem State.modRing_cmp (f : Ring → Ring) : (s.modRing f).cmp = s.cmp := rfl
@[simp] theorem State.modRing_acq (f : Ring → Ring) : (s.modRing f).acq = s.acq := rfl
@[simp] theorem State.modRing_prism (f : Ring → Ring) : (s.modRing f).prism = s.prism := rfl
@[simp] theorem State.modRing_wvn (f : Ring → Ring) : (s.modRing f).wvn = s.wvn := rfl
@[simp] theorem State.modRing_mill (f : Ring → Ring) : (s.modRing f).mill = s.mill := rfl
@[simp] theorem State.modRing_tasks (f : Ring → Ring) : (s.modRing f).tasks = s.tasks := rfl
@[simp] theorem State.modRing_grn (f : Ring → Ring) : (s.modRing f).grn = s.grn := rfl
@[simp] theorem State.modRing_shf (f : Ring → Ring) : (s.modRing f).shf = s.shf := rfl
@[simp] theorem State.modRing_safe (f : Ring → Ring) : (s.modRing f).safe = s.safe := rfl
@[simp] theorem State.modRing_draws (f : Ring → Ring) : (s.modRing f).draws = s.draws := rfl
@[simp] theorem State.modRing_pending (f : Ring → Ring) : (s.modRing f).pending = s.pending := rfl

@[simp] theorem State.modLong_regs (f : LongOp → LongOp) : (s.modLong f).regs = s.regs := rfl
@[simp] theorem State.modLong_cycle (f : LongOp → LongOp) : (s.modLong f).cycle = s.cycle := rfl
@[simp] theorem State.modLong_sys (f : LongOp → LongOp) : (s.modLong f).sys = s.sys := rfl
@[simp] theorem State.modLong_clk (f : LongOp → LongOp) : (s.modLong f).clk = s.clk := rfl
@[simp] theorem State.modLong_otp (f : LongOp → LongOp) : (s.modLong f).otp = s.otp := rfl
@[simp] theorem State.modLong_tap (f : LongOp → LongOp) : (s.modLong f).tap = s.tap := rfl
@[simp] theorem State.modLong_mem (f : LongOp → LongOp) : (s.modLong f).mem = s.mem := rfl
@[simp] theorem State.modLong_dma (f : LongOp → LongOp) : (s.modLong f).dma = s.dma := rfl
@[simp] theorem State.modLong_events (f : LongOp → LongOp) : (s.modLong f).events = s.events := rfl
@[simp] theorem State.modLong_cfg (f : LongOp → LongOp) : (s.modLong f).cfg = s.cfg := rfl
@[simp] theorem State.modLong_tst (f : LongOp → LongOp) : (s.modLong f).tst = s.tst := rfl
@[simp] theorem State.modLong_loom (f : LongOp → LongOp) : (s.modLong f).loom = s.loom := rfl
@[simp] theorem State.modLong_gdp (f : LongOp → LongOp) : (s.modLong f).gdp = s.gdp := rfl
@[simp] theorem State.modLong_cmp (f : LongOp → LongOp) : (s.modLong f).cmp = s.cmp := rfl
@[simp] theorem State.modLong_acq (f : LongOp → LongOp) : (s.modLong f).acq = s.acq := rfl
@[simp] theorem State.modLong_prism (f : LongOp → LongOp) : (s.modLong f).prism = s.prism := rfl
@[simp] theorem State.modLong_wvn (f : LongOp → LongOp) : (s.modLong f).wvn = s.wvn := rfl
@[simp] theorem State.modLong_mill (f : LongOp → LongOp) : (s.modLong f).mill = s.mill := rfl
@[simp] theorem State.modLong_tasks (f : LongOp → LongOp) : (s.modLong f).tasks = s.tasks := rfl
@[simp] theorem State.modLong_grn (f : LongOp → LongOp) : (s.modLong f).grn = s.grn := rfl
@[simp] theorem State.modLong_shf (f : LongOp → LongOp) : (s.modLong f).shf = s.shf := rfl
@[simp] theorem State.modLong_safe (f : LongOp → LongOp) : (s.modLong f).safe = s.safe := rfl
@[simp] theorem State.modLong_ring (f : LongOp → LongOp) : (s.modLong f).ring = s.ring := rfl
@[simp] theorem State.modLong_draws (f : LongOp → LongOp) : (s.modLong f).draws = s.draws := rfl
@[simp] theorem State.modLong_pending (f : LongOp → LongOp) : (s.modLong f).pending = s.pending := rfl

@[simp] theorem State.modMir_regs (m : Mirror) (f : MirrorSt → MirrorSt) : (s.modMir m f).regs = s.regs := by cases m <;> rfl
@[simp] theorem State.modMir_cycle (m : Mirror) (f : MirrorSt → MirrorSt) : (s.modMir m f).cycle = s.cycle := by cases m <;> rfl
@[simp] theorem State.modMir_sys (m : Mirror) (f : MirrorSt → MirrorSt) : (s.modMir m f).sys = s.sys := by cases m <;> rfl
@[simp] theorem State.modMir_clk (m : Mirror) (f : MirrorSt → MirrorSt) : (s.modMir m f).clk = s.clk := by cases m <;> rfl
@[simp] theorem State.modMir_otp (m : Mirror) (f : MirrorSt → MirrorSt) : (s.modMir m f).otp = s.otp := by cases m <;> rfl
@[simp] theorem State.modMir_tap (m : Mirror) (f : MirrorSt → MirrorSt) : (s.modMir m f).tap = s.tap := by cases m <;> rfl
@[simp] theorem State.modMir_mem (m : Mirror) (f : MirrorSt → MirrorSt) : (s.modMir m f).mem = s.mem := by cases m <;> rfl
@[simp] theorem State.modMir_dma (m : Mirror) (f : MirrorSt → MirrorSt) : (s.modMir m f).dma = s.dma := by cases m <;> rfl
@[simp] theorem State.modMir_events (m : Mirror) (f : MirrorSt → MirrorSt) : (s.modMir m f).events = s.events := by cases m <;> rfl
@[simp] theorem State.modMir_stew (m : Mirror) (f : MirrorSt → MirrorSt) : (s.modMir m f).stew = s.stew := by cases m <;> rfl
@[simp] theorem State.modMir_cfg (m : Mirror) (f : MirrorSt → MirrorSt) : (s.modMir m f).cfg = s.cfg := by cases m <;> rfl
@[simp] theorem State.modMir_tst (m : Mirror) (f : MirrorSt → MirrorSt) : (s.modMir m f).tst = s.tst := by cases m <;> rfl
@[simp] theorem State.modMir_loom (m : Mirror) (f : MirrorSt → MirrorSt) : (s.modMir m f).loom = s.loom := by cases m <;> rfl
@[simp] theorem State.modMir_gdp (m : Mirror) (f : MirrorSt → MirrorSt) : (s.modMir m f).gdp = s.gdp := by cases m <;> rfl
@[simp] theorem State.modMir_cmp (m : Mirror) (f : MirrorSt → MirrorSt) : (s.modMir m f).cmp = s.cmp := by cases m <;> rfl
@[simp] theorem State.modMir_acq (m : Mirror) (f : MirrorSt → MirrorSt) : (s.modMir m f).acq = s.acq := by cases m <;> rfl
@[simp] theorem State.modMir_prism (m : Mirror) (f : MirrorSt → MirrorSt) : (s.modMir m f).prism = s.prism := by cases m <;> rfl
@[simp] theorem State.modMir_wvn (m : Mirror) (f : MirrorSt → MirrorSt) : (s.modMir m f).wvn = s.wvn := by cases m <;> rfl
@[simp] theorem State.modMir_mill (m : Mirror) (f : MirrorSt → MirrorSt) : (s.modMir m f).mill = s.mill := by cases m <;> rfl
@[simp] theorem State.modMir_tasks (m : Mirror) (f : MirrorSt → MirrorSt) : (s.modMir m f).tasks = s.tasks := by cases m <;> rfl
@[simp] theorem State.modMir_grn (m : Mirror) (f : MirrorSt → MirrorSt) : (s.modMir m f).grn = s.grn := by cases m <;> rfl
@[simp] theorem State.modMir_shf (m : Mirror) (f : MirrorSt → MirrorSt) : (s.modMir m f).shf = s.shf := by cases m <;> rfl
@[simp] theorem State.modMir_ring (m : Mirror) (f : MirrorSt → MirrorSt) : (s.modMir m f).ring = s.ring := by cases m <;> rfl
@[simp] theorem State.modMir_draws (m : Mirror) (f : MirrorSt → MirrorSt) : (s.modMir m f).draws = s.draws := by cases m <;> rfl
@[simp] theorem State.modMir_pending (m : Mirror) (f : MirrorSt → MirrorSt) : (s.modMir m f).pending = s.pending := by cases m <;> rfl

@[simp] theorem State.modLink_regs (l : Link) (f : LinkSt → LinkSt) : (s.modLink l f).regs = s.regs := by cases l <;> rfl
@[simp] theorem State.modLink_cycle (l : Link) (f : LinkSt → LinkSt) : (s.modLink l f).cycle = s.cycle := by cases l <;> rfl
@[simp] theorem State.modLink_sys (l : Link) (f : LinkSt → LinkSt) : (s.modLink l f).sys = s.sys := by cases l <;> rfl
@[simp] theorem State.modLink_clk (l : Link) (f : LinkSt → LinkSt) : (s.modLink l f).clk = s.clk := by cases l <;> rfl
@[simp] theorem State.modLink_otp (l : Link) (f : LinkSt → LinkSt) : (s.modLink l f).otp = s.otp := by cases l <;> rfl
@[simp] theorem State.modLink_tap (l : Link) (f : LinkSt → LinkSt) : (s.modLink l f).tap = s.tap := by cases l <;> rfl
@[simp] theorem State.modLink_mem (l : Link) (f : LinkSt → LinkSt) : (s.modLink l f).mem = s.mem := by cases l <;> rfl
@[simp] theorem State.modLink_dma (l : Link) (f : LinkSt → LinkSt) : (s.modLink l f).dma = s.dma := by cases l <;> rfl
@[simp] theorem State.modLink_events (l : Link) (f : LinkSt → LinkSt) : (s.modLink l f).events = s.events := by cases l <;> rfl
@[simp] theorem State.modLink_cfg (l : Link) (f : LinkSt → LinkSt) : (s.modLink l f).cfg = s.cfg := by cases l <;> rfl
@[simp] theorem State.modLink_tst (l : Link) (f : LinkSt → LinkSt) : (s.modLink l f).tst = s.tst := by cases l <;> rfl
@[simp] theorem State.modLink_loom (l : Link) (f : LinkSt → LinkSt) : (s.modLink l f).loom = s.loom := by cases l <;> rfl
@[simp] theorem State.modLink_gdp (l : Link) (f : LinkSt → LinkSt) : (s.modLink l f).gdp = s.gdp := by cases l <;> rfl
@[simp] theorem State.modLink_cmp (l : Link) (f : LinkSt → LinkSt) : (s.modLink l f).cmp = s.cmp := by cases l <;> rfl
@[simp] theorem State.modLink_acq (l : Link) (f : LinkSt → LinkSt) : (s.modLink l f).acq = s.acq := by cases l <;> rfl
@[simp] theorem State.modLink_prism (l : Link) (f : LinkSt → LinkSt) : (s.modLink l f).prism = s.prism := by cases l <;> rfl
@[simp] theorem State.modLink_wvn (l : Link) (f : LinkSt → LinkSt) : (s.modLink l f).wvn = s.wvn := by cases l <;> rfl
@[simp] theorem State.modLink_mill (l : Link) (f : LinkSt → LinkSt) : (s.modLink l f).mill = s.mill := by cases l <;> rfl
@[simp] theorem State.modLink_tasks (l : Link) (f : LinkSt → LinkSt) : (s.modLink l f).tasks = s.tasks := by cases l <;> rfl
@[simp] theorem State.modLink_grn (l : Link) (f : LinkSt → LinkSt) : (s.modLink l f).grn = s.grn := by cases l <;> rfl
@[simp] theorem State.modLink_shf (l : Link) (f : LinkSt → LinkSt) : (s.modLink l f).shf = s.shf := by cases l <;> rfl
@[simp] theorem State.modLink_safe (l : Link) (f : LinkSt → LinkSt) : (s.modLink l f).safe = s.safe := by cases l <;> rfl
@[simp] theorem State.modLink_ring (l : Link) (f : LinkSt → LinkSt) : (s.modLink l f).ring = s.ring := by cases l <;> rfl
@[simp] theorem State.modLink_draws (l : Link) (f : LinkSt → LinkSt) : (s.modLink l f).draws = s.draws := by cases l <;> rfl
@[simp] theorem State.modLink_pending (l : Link) (f : LinkSt → LinkSt) : (s.modLink l f).pending = s.pending := by cases l <;> rfl

end Sys2Proof.Machine
end

