-- ==== Sys2Proof/Laws/Ops.lean ====
section
/-! SUPPORT. Laws/Ops.lean: what the shared operations of Machine/Ops.lean do: reading registers, fields and memory after a write, and
what events, attention and log records leave as it was. -/

namespace Sys2Proof.Machine

/-! ### Registers and fields -/

/-- A register reads back what was written last; every other register reads as before. -/
@[simp] theorem State.rd_wr (s : State) (a b : Nat) (v : Word) : (s.wr a v).rd b = if b = a then v else s.rd b :=
  cellGet_cellSet regReset s.regs a b v

/-- The registers are read from their store alone. -/
theorem State.rd_congr {s t : State} (h : t.regs = s.regs) (a : Nat) : t.rd a = s.rd a := by simp only [State.rd, h]

theorem State.get_congr {s t : State} (h : t.regs = s.regs) (f : Fld) : t.get f = s.get f := by simp only [State.get, State.rd, h]

theorem State.on_congr {s t : State} (h : t.regs = s.regs) (f : Fld) : t.on f = s.on f := by simp only [State.on, State.get_congr h]

@[simp] theorem State.rd_markSet (s : State) (a : Nat) (v : Word) (b : Nat) : (s.markSet a v).rd b = s.rd b := rfl
@[simp] theorem State.rd_markWritten (s : State) (a : Nat) (v : Word) (b : Nat) : (s.markWritten a v).rd b = s.rd b := rfl

/-- A put leaves every other register as it was. -/
theorem State.rd_put (s : State) (f : Fld) (n b : Nat) :
    (s.put f n).rd b = if b = f.addr then setBits (s.rd f.addr) f.lo f.width n else s.rd b := by
  simp only [State.put, State.rd_markSet, State.rd_wr]

@[simp] theorem State.rd_put_other (s : State) (f : Fld) (n b : Nat) (h : b ≠ f.addr) : (s.put f n).rd b = s.rd b := by
  rw [State.rd_put, if_neg h]

/-- A field that lies inside its word reads back what was put. -/
theorem State.get_put_same (s : State) (f : Fld) (n : Nat) (h : f.lo + f.width ≤ 32) : (s.put f n).get f = n % 2 ^ f.width := by
  simp only [State.get, State.rd_put, if_true, getBits_setBits_same _ _ _ _ h]

/-- A field of another register, or apart from the one put, reads as before. -/
theorem State.get_put_other (s : State) (f g : Fld) (n : Nat) (h : f.lo + f.width ≤ 32)
    (hd : g.addr ≠ f.addr ∨ g.lo + g.width ≤ f.lo ∨ f.lo + f.width ≤ g.lo) : (s.put f n).get g = s.get g := by
  simp only [State.get, State.rd_put]
  by_cases ha : g.addr = f.addr
  · rw [if_pos ha, getBits_setBits_apart _ _ _ _ _ _ h (by rcases hd with hd | hd; exact absurd ha hd; exact hd), ha]
  · rw [if_neg ha]

/-- A field of a register that was written whole. -/
theorem State.get_wr (s : State) (a : Nat) (v : Word) (g : Fld) :
    (s.wr a v).get g = if g.addr = a then getBits v g.lo g.width else s.get g := by
  simp only [State.get, State.rd_wr]
  split <;> rfl

theorem State.on_put_other (s : State) (f g : Fld) (n : Nat) (h : f.lo + f.width ≤ 32)
    (hd : g.addr ≠ f.addr ∨ g.lo + g.width ≤ f.lo ∨ f.lo + f.width ≤ g.lo) : (s.put f n).on g = s.on g := by
  simp only [State.on, State.get_put_other s f g n h hd]

theorem State.on_set1_same (s : State) (f : Fld) (h : f.lo + f.width ≤ 32) (hw : 0 < f.width) : (s.set1 f).on f = true := by
  have h1 : (1 : Nat) < 2 ^ f.width := Nat.one_lt_two_pow (by omega)
  simp only [State.on, State.set1, State.get_put_same s f 1 h, Nat.mod_eq_of_lt h1]
  rfl

theorem State.on_clr_same (s : State) (f : Fld) (h : f.lo + f.width ≤ 32) : (s.clr f).on f = false := by
  simp [State.on, State.clr, State.get_put_same s f 0 h]

theorem State.get_clr_same (s : State) (f : Fld) (h : f.lo + f.width ≤ 32) : (s.clr f).get f = 0 := by
  simp [State.clr, State.get_put_same s f 0 h]

theorem State.on_putB_same (s : State) (f : Fld) (b : Bool) (h : f.lo + f.width ≤ 32) (hw : 0 < f.width) : (s.putB f b).on f = b := by
  have h1 : (1 : Nat) < 2 ^ f.width := Nat.one_lt_two_pow (by omega)
  cases b
  · simp [State.on, State.putB, bit1, State.get_put_same s f 0 h]
  · simp [State.on, State.putB, bit1, State.get_put_same s f 1 h, Nat.mod_eq_of_lt h1]

/-! ### Memories -/

theorem memGet_memSet (m : Memory) (a b : Nat) (v : Byte) : memGet (memSet m a v) b = if b = a then v else memGet m b :=
  cellGet_cellSet (fun _ => (0 : Byte)) m a b v

theorem wordGet_wordSet (m : WordStore) (a b : Nat) (v : Word) : wordGet (wordSet m a v) b = if b = a then v else wordGet m b :=
  cellGet_cellSet (fun _ => (0 : Word)) m a b v

/-- A byte string written from an address up reads back byte by byte, and every byte outside it reads as before. -/
theorem memGet_memSetBytes (m : Memory) (a b : Nat) (l : List Byte) :
    memGet (memSetBytes m a l) b = if a ≤ b ∧ b < a + l.length then l.getD (b - a) 0 else memGet m b := by
  induction l generalizing m a with
  | nil => simp [memSetBytes] <;> omega
  | cons x l ih =>
    simp only [memSetBytes, ih, memGet_memSet, List.length_cons]
    by_cases h1 : b = a
    · subst h1
      have : ¬ (b + 1 ≤ b ∧ b < b + 1 + l.length) := by omega
      simp [this]
    · by_cases h2 : a + 1 ≤ b ∧ b < a + 1 + l.length
      · have h3 : a ≤ b ∧ b < a + (l.length + 1) := by omega
        have h4 : b - a = (b - (a + 1)) + 1 := by omega
        rw [if_pos h2, if_pos h3, h4]
        rfl
      · have h3 : ¬ (a ≤ b ∧ b < a + (l.length + 1)) := by omega
        rw [if_neg h2, if_neg h3, if_neg h1]

/-- Every memory operation keeps the canonical form. -/
theorem cellWf_memSetBytes (m : Memory) (a : Nat) (l : List Byte) (h : cellWf (fun _ => (0 : Byte)) 0 m = true) :
    cellWf (fun _ => (0 : Byte)) 0 (memSetBytes m a l) = true := by
  induction l generalizing m a with
  | nil => exact h
  | cons x l ih => exact ih _ _ (cellWf_cellSet _ _ _ _ _ (Nat.zero_le _) h)

theorem cellWf_wordSetAll (m : WordStore) (a : Nat) (l : List Word) (h : cellWf (fun _ => (0 : Word)) 0 m = true) :
    cellWf (fun _ => (0 : Word)) 0 (wordSetAll m a l) = true := by
  induction l generalizing m a with
  | nil => exact h
  | cons x l ih => exact ih _ _ (cellWf_cellSet _ _ _ _ _ (Nat.zero_le _) h)

/-! ### Lists of fixed length -/

theorem nth_upd_same {α : Type} (l : List α) (i : Nat) (f : α → α) (d : α) (h : i < l.length) : nth (upd l i f) i d = f (nth l i d) := by
  simp [nth, upd, h]

theorem nth_upd_other {α : Type} (l : List α) (i j : Nat) (f : α → α) (d : α) (h : i ≠ j) : nth (upd l i f) j d = nth l j d := by
  simp [nth, upd, h]

@[simp] theorem length_upd {α : Type} (l : List α) (i : Nat) (f : α → α) : (upd l i f).length = l.length := by simp [upd]

/-! ### Events, attention and the log -/

/-- An event changes what waits in the matrix and the Loupe, and nothing else. -/
theorem State.emit_shape (s : State) (n : Nat) : ∃ e w, s.emit n = { s with events := e, stew := w } := by
  unfold State.emit State.route State.loupeSee
  split <;> split <;> exact ⟨_, _, rfl⟩

theorem State.modLink_shape (s : State) (l : Link) (f : LinkSt → LinkSt) : ∃ w, s.modLink l f = { s with stew := w } := by
  cases l <;> exact ⟨_, rfl⟩

theorem State.attendBy_shape (s : State) (f : LinkSt → BitVec 8) : ∃ e w, s.attendBy f = { s with events := e, stew := w } := by
  unfold State.attendBy
  dsimp only
  obtain ⟨w1, h1⟩ := State.modLink_shape s .spi (fun l => { l with attn := l.attn ||| f l })
  rw [h1]
  obtain ⟨w2, h2⟩ := State.modLink_shape { s with stew := w1 } .uart (fun l => { l with attn := l.attn ||| f l })
  rw [h2]
  split
  · exact ⟨_, _, rfl⟩
  · obtain ⟨e, w, h⟩ := State.emit_shape { { s with stew := w1 } with stew := w2 } 0xFD
    rw [h]
    exact ⟨_, _, rfl⟩

theorem State.attend_shape (s : State) (b : BitVec 8) : ∃ e w, s.attend b = { s with events := e, stew := w } :=
  State.attendBy_shape s _

theorem State.raise_shape (s : State) (n : Nat) : ∃ e w, s.raise n = { s with events := e, stew := w } := by
  unfold State.raise
  dsimp only
  obtain ⟨e, w, h⟩ := State.emit_shape s n
  rw [h]
  split
  · obtain ⟨e', w', h'⟩ := State.attend_shape { s with events := e, stew := w } 0x20
    rw [h']
    exact ⟨_, _, rfl⟩
  · exact ⟨_, _, rfl⟩

/-- A log record changes the MRAM, the log's place, events and attention, what is known of the RTC, and the draw number. -/
theorem State.log_shape (s : State) (code block : Nat) (sev : Severity) (data : List Byte) :
    ∃ e w m d r, s.log code block sev data = { s with events := e, stew := w, mem := m, draws := d, clk := { s.clk with rtcSub := r } } := by
  unfold State.log
  dsimp only
  generalize hu : ({ s.rtcShown.mramWrite (logOffset s.stew.logNext) (s.logBytes code block sev.code data) with stew := _ } : State) = u
  obtain ⟨e, w, h⟩ := State.raise_shape u 0xF8
  rw [h]
  obtain ⟨e', w', h'⟩ := State.attendBy_shape { u with events := e, stew := w } (fun l => if l.threshold ≤ sev.code then 0x08 else 0)
  rw [h', ← hu]
  exact ⟨_, _, _, _, _, rfl⟩

/-- A log record leaves COUNT as it stands. -/
@[simp] theorem State.log_clk_count (s : State) (code block : Nat) (sev : Severity) (data : List Byte) :
    (s.log code block sev data).clk.count = s.clk.count := by
  obtain ⟨_, _, _, _, _, h⟩ := State.log_shape s code block sev data
  rw [h]


@[simp] theorem State.emit_regs (s : State) (n : Nat) : (s.emit n).regs = s.regs := by obtain ⟨_, _, h⟩ := State.emit_shape s n; rw [h]
@[simp] theorem State.emit_cycle (s : State) (n : Nat) : (s.emit n).cycle = s.cycle := by obtain ⟨_, _, h⟩ := State.emit_shape s n; rw [h]
@[simp] theorem State.emit_sys (s : State) (n : Nat) : (s.emit n).sys = s.sys := by obtain ⟨_, _, h⟩ := State.emit_shape s n; rw [h]
@[simp] theorem State.emit_clk (s : State) (n : Nat) : (s.emit n).clk = s.clk := by obtain ⟨_, _, h⟩ := State.emit_shape s n; rw [h]
@[simp] theorem State.emit_otp (s : State) (n : Nat) : (s.emit n).otp = s.otp := by obtain ⟨_, _, h⟩ := State.emit_shape s n; rw [h]
@[simp] theorem State.emit_tap (s : State) (n : Nat) : (s.emit n).tap = s.tap := by obtain ⟨_, _, h⟩ := State.emit_shape s n; rw [h]
@[simp] theorem State.emit_mem (s : State) (n : Nat) : (s.emit n).mem = s.mem := by obtain ⟨_, _, h⟩ := State.emit_shape s n; rw [h]
@[simp] theorem State.emit_dma (s : State) (n : Nat) : (s.emit n).dma = s.dma := by obtain ⟨_, _, h⟩ := State.emit_shape s n; rw [h]
@[simp] theorem State.emit_cfg (s : State) (n : Nat) : (s.emit n).cfg = s.cfg := by obtain ⟨_, _, h⟩ := State.emit_shape s n; rw [h]
@[simp] theorem State.emit_tst (s : State) (n : Nat) : (s.emit n).tst = s.tst := by obtain ⟨_, _, h⟩ := State.emit_shape s n; rw [h]
@[simp] theorem State.emit_loom (s : State) (n : Nat) : (s.emit n).loom = s.loom := by obtain ⟨_, _, h⟩ := State.emit_shape s n; rw [h]
@[simp] theorem State.emit_gdp (s : State) (n : Nat) : (s.emit n).gdp = s.gdp := by obtain ⟨_, _, h⟩ := State.emit_shape s n; rw [h]
@[simp] theorem State.emit_cmp (s : State) (n : Nat) : (s.emit n).cmp = s.cmp := by obtain ⟨_, _, h⟩ := State.emit_shape s n; rw [h]
@[simp] theorem State.emit_acq (s : State) (n : Nat) : (s.emit n).acq = s.acq := by obtain ⟨_, _, h⟩ := State.emit_shape s n; rw [h]
@[simp] theorem State.emit_prism (s : State) (n : Nat) : (s.emit n).prism = s.prism := by obtain ⟨_, _, h⟩ := State.emit_shape s n; rw [h]
@[simp] theorem State.emit_wvn (s : State) (n : Nat) : (s.emit n).wvn = s.wvn := by obtain ⟨_, _, h⟩ := State.emit_shape s n; rw [h]
@[simp] theorem State.emit_mill (s : State) (n : Nat) : (s.emit n).mill = s.mill := by obtain ⟨_, _, h⟩ := State.emit_shape s n; rw [h]
@[simp] theorem State.emit_tasks (s : State) (n : Nat) : (s.emit n).tasks = s.tasks := by obtain ⟨_, _, h⟩ := State.emit_shape s n; rw [h]
@[simp] theorem State.emit_grn (s : State) (n : Nat) : (s.emit n).grn = s.grn := by obtain ⟨_, _, h⟩ := State.emit_shape s n; rw [h]
@[simp] theorem State.emit_shf (s : State) (n : Nat) : (s.emit n).shf = s.shf := by obtain ⟨_, _, h⟩ := State.emit_shape s n; rw [h]
@[simp] theorem State.emit_safe (s : State) (n : Nat) : (s.emit n).safe = s.safe := by obtain ⟨_, _, h⟩ := State.emit_shape s n; rw [h]
@[simp] theorem State.emit_ring (s : State) (n : Nat) : (s.emit n).ring = s.ring := by obtain ⟨_, _, h⟩ := State.emit_shape s n; rw [h]
@[simp] theorem State.emit_draws (s : State) (n : Nat) : (s.emit n).draws = s.draws := by obtain ⟨_, _, h⟩ := State.emit_shape s n; rw [h]
@[simp] theorem State.emit_pending (s : State) (n : Nat) : (s.emit n).pending = s.pending := by obtain ⟨_, _, h⟩ := State.emit_shape s n; rw [h]
@[simp] theorem State.rd_emit (s : State) (n : Nat) (b : Nat) : (s.emit n).rd b = s.rd b := State.rd_congr (by simp) b
@[simp] theorem State.get_emit (s : State) (n : Nat) (g : Fld) : (s.emit n).get g = s.get g := State.get_congr (by simp) g
@[simp] theorem State.on_emit (s : State) (n : Nat) (g : Fld) : (s.emit n).on g = s.on g := State.on_congr (by simp) g

@[simp] theorem State.attendBy_regs (s : State) (f : LinkSt → BitVec 8) : (s.attendBy f).regs = s.regs := by obtain ⟨_, _, h⟩ := State.attendBy_shape s f; rw [h]
@[simp] theorem State.attendBy_cycle (s : State) (f : LinkSt → BitVec 8) : (s.attendBy f).cycle = s.cycle := by obtain ⟨_, _, h⟩ := State.attendBy_shape s f; rw [h]
@[simp] theorem State.attendBy_sys (s : State) (f : LinkSt → BitVec 8) : (s.attendBy f).sys = s.sys := by obtain ⟨_, _, h⟩ := State.attendBy_shape s f; rw [h]
@[simp] theorem State.attendBy_clk (s : State) (f : LinkSt → BitVec 8) : (s.attendBy f).clk = s.clk := by obtain ⟨_, _, h⟩ := State.attendBy_shape s f; rw [h]
@[simp] theorem State.attendBy_otp (s : State) (f : LinkSt → BitVec 8) : (s.attendBy f).otp = s.otp := by obtain ⟨_, _, h⟩ := State.attendBy_shape s f; rw [h]
@[simp] theorem State.attendBy_tap (s : State) (f : LinkSt → BitVec 8) : (s.attendBy f).tap = s.tap := by obtain ⟨_, _, h⟩ := State.attendBy_shape s f; rw [h]
@[simp] theorem State.attendBy_mem (s : State) (f : LinkSt → BitVec 8) : (s.attendBy f).mem = s.mem := by obtain ⟨_, _, h⟩ := State.attendBy_shape s f; rw [h]
@[simp] theorem State.attendBy_dma (s : State) (f : LinkSt → BitVec 8) : (s.attendBy f).dma = s.dma := by obtain ⟨_, _, h⟩ := State.attendBy_shape s f; rw [h]
@[simp] theorem State.attendBy_cfg (s : State) (f : LinkSt → BitVec 8) : (s.attendBy f).cfg = s.cfg := by obtain ⟨_, _, h⟩ := State.attendBy_shape s f; rw [h]
@[simp] theorem State.attendBy_tst (s : State) (f : LinkSt → BitVec 8) : (s.attendBy f).tst = s.tst := by obtain ⟨_, _, h⟩ := State.attendBy_shape s f; rw [h]
@[simp] theorem State.attendBy_loom (s : State) (f : LinkSt → BitVec 8) : (s.attendBy f).loom = s.loom := by obtain ⟨_, _, h⟩ := State.attendBy_shape s f; rw [h]
@[simp] theorem State.attendBy_gdp (s : State) (f : LinkSt → BitVec 8) : (s.attendBy f).gdp = s.gdp := by obtain ⟨_, _, h⟩ := State.attendBy_shape s f; rw [h]
@[simp] theorem State.attendBy_cmp (s : State) (f : LinkSt → BitVec 8) : (s.attendBy f).cmp = s.cmp := by obtain ⟨_, _, h⟩ := State.attendBy_shape s f; rw [h]
@[simp] theorem State.attendBy_acq (s : State) (f : LinkSt → BitVec 8) : (s.attendBy f).acq = s.acq := by obtain ⟨_, _, h⟩ := State.attendBy_shape s f; rw [h]
@[simp] theorem State.attendBy_prism (s : State) (f : LinkSt → BitVec 8) : (s.attendBy f).prism = s.prism := by obtain ⟨_, _, h⟩ := State.attendBy_shape s f; rw [h]
@[simp] theorem State.attendBy_wvn (s : State) (f : LinkSt → BitVec 8) : (s.attendBy f).wvn = s.wvn := by obtain ⟨_, _, h⟩ := State.attendBy_shape s f; rw [h]
@[simp] theorem State.attendBy_mill (s : State) (f : LinkSt → BitVec 8) : (s.attendBy f).mill = s.mill := by obtain ⟨_, _, h⟩ := State.attendBy_shape s f; rw [h]
@[simp] theorem State.attendBy_tasks (s : State) (f : LinkSt → BitVec 8) : (s.attendBy f).tasks = s.tasks := by obtain ⟨_, _, h⟩ := State.attendBy_shape s f; rw [h]
@[simp] theorem State.attendBy_grn (s : State) (f : LinkSt → BitVec 8) : (s.attendBy f).grn = s.grn := by obtain ⟨_, _, h⟩ := State.attendBy_shape s f; rw [h]
@[simp] theorem State.attendBy_shf (s : State) (f : LinkSt → BitVec 8) : (s.attendBy f).shf = s.shf := by obtain ⟨_, _, h⟩ := State.attendBy_shape s f; rw [h]
@[simp] theorem State.attendBy_safe (s : State) (f : LinkSt → BitVec 8) : (s.attendBy f).safe = s.safe := by obtain ⟨_, _, h⟩ := State.attendBy_shape s f; rw [h]
@[simp] theorem State.attendBy_ring (s : State) (f : LinkSt → BitVec 8) : (s.attendBy f).ring = s.ring := by obtain ⟨_, _, h⟩ := State.attendBy_shape s f; rw [h]
@[simp] theorem State.attendBy_draws (s : State) (f : LinkSt → BitVec 8) : (s.attendBy f).draws = s.draws := by obtain ⟨_, _, h⟩ := State.attendBy_shape s f; rw [h]
@[simp] theorem State.attendBy_pending (s : State) (f : LinkSt → BitVec 8) : (s.attendBy f).pending = s.pending := by obtain ⟨_, _, h⟩ := State.attendBy_shape s f; rw [h]
@[simp] theorem State.rd_attendBy (s : State) (f : LinkSt → BitVec 8) (b : Nat) : (s.attendBy f).rd b = s.rd b := State.rd_congr (by simp) b
@[simp] theorem State.get_attendBy (s : State) (f : LinkSt → BitVec 8) (g : Fld) : (s.attendBy f).get g = s.get g := State.get_congr (by simp) g
@[simp] theorem State.on_attendBy (s : State) (f : LinkSt → BitVec 8) (g : Fld) : (s.attendBy f).on g = s.on g := State.on_congr (by simp) g

@[simp] theorem State.attend_regs (s : State) (b : BitVec 8) : (s.attend b).regs = s.regs := by obtain ⟨_, _, h⟩ := State.attend_shape s b; rw [h]
@[simp] theorem State.attend_cycle (s : State) (b : BitVec 8) : (s.attend b).cycle = s.cycle := by obtain ⟨_, _, h⟩ := State.attend_shape s b; rw [h]
@[simp] theorem State.attend_sys (s : State) (b : BitVec 8) : (s.attend b).sys = s.sys := by obtain ⟨_, _, h⟩ := State.attend_shape s b; rw [h]
@[simp] theorem State.attend_clk (s : State) (b : BitVec 8) : (s.attend b).clk = s.clk := by obtain ⟨_, _, h⟩ := State.attend_shape s b; rw [h]
@[simp] theorem State.attend_otp (s : State) (b : BitVec 8) : (s.attend b).otp = s.otp := by obtain ⟨_, _, h⟩ := State.attend_shape s b; rw [h]
@[simp] theorem State.attend_tap (s : State) (b : BitVec 8) : (s.attend b).tap = s.tap := by obtain ⟨_, _, h⟩ := State.attend_shape s b; rw [h]
@[simp] theorem State.attend_mem (s : State) (b : BitVec 8) : (s.attend b).mem = s.mem := by obtain ⟨_, _, h⟩ := State.attend_shape s b; rw [h]
@[simp] theorem State.attend_dma (s : State) (b : BitVec 8) : (s.attend b).dma = s.dma := by obtain ⟨_, _, h⟩ := State.attend_shape s b; rw [h]
@[simp] theorem State.attend_cfg (s : State) (b : BitVec 8) : (s.attend b).cfg = s.cfg := by obtain ⟨_, _, h⟩ := State.attend_shape s b; rw [h]
@[simp] theorem State.attend_tst (s : State) (b : BitVec 8) : (s.attend b).tst = s.tst := by obtain ⟨_, _, h⟩ := State.attend_shape s b; rw [h]
@[simp] theorem State.attend_loom (s : State) (b : BitVec 8) : (s.attend b).loom = s.loom := by obtain ⟨_, _, h⟩ := State.attend_shape s b; rw [h]
@[simp] theorem State.attend_gdp (s : State) (b : BitVec 8) : (s.attend b).gdp = s.gdp := by obtain ⟨_, _, h⟩ := State.attend_shape s b; rw [h]
@[simp] theorem State.attend_cmp (s : State) (b : BitVec 8) : (s.attend b).cmp = s.cmp := by obtain ⟨_, _, h⟩ := State.attend_shape s b; rw [h]
@[simp] theorem State.attend_acq (s : State) (b : BitVec 8) : (s.attend b).acq = s.acq := by obtain ⟨_, _, h⟩ := State.attend_shape s b; rw [h]
@[simp] theorem State.attend_prism (s : State) (b : BitVec 8) : (s.attend b).prism = s.prism := by obtain ⟨_, _, h⟩ := State.attend_shape s b; rw [h]
@[simp] theorem State.attend_wvn (s : State) (b : BitVec 8) : (s.attend b).wvn = s.wvn := by obtain ⟨_, _, h⟩ := State.attend_shape s b; rw [h]
@[simp] theorem State.attend_mill (s : State) (b : BitVec 8) : (s.attend b).mill = s.mill := by obtain ⟨_, _, h⟩ := State.attend_shape s b; rw [h]
@[simp] theorem State.attend_tasks (s : State) (b : BitVec 8) : (s.attend b).tasks = s.tasks := by obtain ⟨_, _, h⟩ := State.attend_shape s b; rw [h]
@[simp] theorem State.attend_grn (s : State) (b : BitVec 8) : (s.attend b).grn = s.grn := by obtain ⟨_, _, h⟩ := State.attend_shape s b; rw [h]
@[simp] theorem State.attend_shf (s : State) (b : BitVec 8) : (s.attend b).shf = s.shf := by obtain ⟨_, _, h⟩ := State.attend_shape s b; rw [h]
@[simp] theorem State.attend_safe (s : State) (b : BitVec 8) : (s.attend b).safe = s.safe := by obtain ⟨_, _, h⟩ := State.attend_shape s b; rw [h]
@[simp] theorem State.attend_ring (s : State) (b : BitVec 8) : (s.attend b).ring = s.ring := by obtain ⟨_, _, h⟩ := State.attend_shape s b; rw [h]
@[simp] theorem State.attend_draws (s : State) (b : BitVec 8) : (s.attend b).draws = s.draws := by obtain ⟨_, _, h⟩ := State.attend_shape s b; rw [h]
@[simp] theorem State.attend_pending (s : State) (b : BitVec 8) : (s.attend b).pending = s.pending := by obtain ⟨_, _, h⟩ := State.attend_shape s b; rw [h]
@[simp] theorem State.rd_attend (s : State) (b : BitVec 8) (x : Nat) : (s.attend b).rd x = s.rd x := State.rd_congr (by simp) x
@[simp] theorem State.get_attend (s : State) (b : BitVec 8) (g : Fld) : (s.attend b).get g = s.get g := State.get_congr (by simp) g
@[simp] theorem State.on_attend (s : State) (b : BitVec 8) (g : Fld) : (s.attend b).on g = s.on g := State.on_congr (by simp) g

@[simp] theorem State.raise_regs (s : State) (n : Nat) : (s.raise n).regs = s.regs := by obtain ⟨_, _, h⟩ := State.raise_shape s n; rw [h]
@[simp] theorem State.raise_cycle (s : State) (n : Nat) : (s.raise n).cycle = s.cycle := by obtain ⟨_, _, h⟩ := State.raise_shape s n; rw [h]
@[simp] theorem State.raise_sys (s : State) (n : Nat) : (s.raise n).sys = s.sys := by obtain ⟨_, _, h⟩ := State.raise_shape s n; rw [h]
@[simp] theorem State.raise_clk (s : State) (n : Nat) : (s.raise n).clk = s.clk := by obtain ⟨_, _, h⟩ := State.raise_shape s n; rw [h]
@[simp] theorem State.raise_otp (s : State) (n : Nat) : (s.raise n).otp = s.otp := by obtain ⟨_, _, h⟩ := State.raise_shape s n; rw [h]
@[simp] theorem State.raise_tap (s : State) (n : Nat) : (s.raise n).tap = s.tap := by obtain ⟨_, _, h⟩ := State.raise_shape s n; rw [h]
@[simp] theorem State.raise_mem (s : State) (n : Nat) : (s.raise n).mem = s.mem := by obtain ⟨_, _, h⟩ := State.raise_shape s n; rw [h]
@[simp] theorem State.raise_dma (s : State) (n : Nat) : (s.raise n).dma = s.dma := by obtain ⟨_, _, h⟩ := State.raise_shape s n; rw [h]
@[simp] theorem State.raise_cfg (s : State) (n : Nat) : (s.raise n).cfg = s.cfg := by obtain ⟨_, _, h⟩ := State.raise_shape s n; rw [h]
@[simp] theorem State.raise_tst (s : State) (n : Nat) : (s.raise n).tst = s.tst := by obtain ⟨_, _, h⟩ := State.raise_shape s n; rw [h]
@[simp] theorem State.raise_loom (s : State) (n : Nat) : (s.raise n).loom = s.loom := by obtain ⟨_, _, h⟩ := State.raise_shape s n; rw [h]
@[simp] theorem State.raise_gdp (s : State) (n : Nat) : (s.raise n).gdp = s.gdp := by obtain ⟨_, _, h⟩ := State.raise_shape s n; rw [h]
@[simp] theorem State.raise_cmp (s : State) (n : Nat) : (s.raise n).cmp = s.cmp := by obtain ⟨_, _, h⟩ := State.raise_shape s n; rw [h]
@[simp] theorem State.raise_acq (s : State) (n : Nat) : (s.raise n).acq = s.acq := by obtain ⟨_, _, h⟩ := State.raise_shape s n; rw [h]
@[simp] theorem State.raise_prism (s : State) (n : Nat) : (s.raise n).prism = s.prism := by obtain ⟨_, _, h⟩ := State.raise_shape s n; rw [h]
@[simp] theorem State.raise_wvn (s : State) (n : Nat) : (s.raise n).wvn = s.wvn := by obtain ⟨_, _, h⟩ := State.raise_shape s n; rw [h]
@[simp] theorem State.raise_mill (s : State) (n : Nat) : (s.raise n).mill = s.mill := by obtain ⟨_, _, h⟩ := State.raise_shape s n; rw [h]
@[simp] theorem State.raise_tasks (s : State) (n : Nat) : (s.raise n).tasks = s.tasks := by obtain ⟨_, _, h⟩ := State.raise_shape s n; rw [h]
@[simp] theorem State.raise_grn (s : State) (n : Nat) : (s.raise n).grn = s.grn := by obtain ⟨_, _, h⟩ := State.raise_shape s n; rw [h]
@[simp] theorem State.raise_shf (s : State) (n : Nat) : (s.raise n).shf = s.shf := by obtain ⟨_, _, h⟩ := State.raise_shape s n; rw [h]
@[simp] theorem State.raise_safe (s : State) (n : Nat) : (s.raise n).safe = s.safe := by obtain ⟨_, _, h⟩ := State.raise_shape s n; rw [h]
@[simp] theorem State.raise_ring (s : State) (n : Nat) : (s.raise n).ring = s.ring := by obtain ⟨_, _, h⟩ := State.raise_shape s n; rw [h]
@[simp] theorem State.raise_draws (s : State) (n : Nat) : (s.raise n).draws = s.draws := by obtain ⟨_, _, h⟩ := State.raise_shape s n; rw [h]
@[simp] theorem State.raise_pending (s : State) (n : Nat) : (s.raise n).pending = s.pending := by obtain ⟨_, _, h⟩ := State.raise_shape s n; rw [h]
@[simp] theorem State.rd_raise (s : State) (n : Nat) (b : Nat) : (s.raise n).rd b = s.rd b := State.rd_congr (by simp) b
@[simp] theorem State.get_raise (s : State) (n : Nat) (g : Fld) : (s.raise n).get g = s.get g := State.get_congr (by simp) g
@[simp] theorem State.on_raise (s : State) (n : Nat) (g : Fld) : (s.raise n).on g = s.on g := State.on_congr (by simp) g

@[simp] theorem State.log_regs (s : State) (code block : Nat) (sev : Severity) (data : List Byte) : (s.log code block sev data).regs = s.regs := by obtain ⟨_, _, _, _, _, h⟩ := State.log_shape s code block sev data; rw [h]
@[simp] theorem State.log_cycle (s : State) (code block : Nat) (sev : Severity) (data : List Byte) : (s.log code block sev data).cycle = s.cycle := by obtain ⟨_, _, _, _, _, h⟩ := State.log_shape s code block sev data; rw [h]
@[simp] theorem State.log_sys (s : State) (code block : Nat) (sev : Severity) (data : List Byte) : (s.log code block sev data).sys = s.sys := by obtain ⟨_, _, _, _, _, h⟩ := State.log_shape s code block sev data; rw [h]
@[simp] theorem State.log_otp (s : State) (code block : Nat) (sev : Severity) (data : List Byte) : (s.log code block sev data).otp = s.otp := by obtain ⟨_, _, _, _, _, h⟩ := State.log_shape s code block sev data; rw [h]
@[simp] theorem State.log_tap (s : State) (code block : Nat) (sev : Severity) (data : List Byte) : (s.log code block sev data).tap = s.tap := by obtain ⟨_, _, _, _, _, h⟩ := State.log_shape s code block sev data; rw [h]
@[simp] theorem State.log_dma (s : State) (code block : Nat) (sev : Severity) (data : List Byte) : (s.log code block sev data).dma = s.dma := by obtain ⟨_, _, _, _, _, h⟩ := State.log_shape s code block sev data; rw [h]
@[simp] theorem State.log_cfg (s : State) (code block : Nat) (sev : Severity) (data : List Byte) : (s.log code block sev data).cfg = s.cfg := by obtain ⟨_, _, _, _, _, h⟩ := State.log_shape s code block sev data; rw [h]
@[simp] theorem State.log_tst (s : State) (code block : Nat) (sev : Severity) (data : List Byte) : (s.log code block sev data).tst = s.tst := by obtain ⟨_, _, _, _, _, h⟩ := State.log_shape s code block sev data; rw [h]
@[simp] theorem State.log_loom (s : State) (code block : Nat) (sev : Severity) (data : List Byte) : (s.log code block sev data).loom = s.loom := by obtain ⟨_, _, _, _, _, h⟩ := State.log_shape s code block sev data; rw [h]
@[simp] theorem State.log_gdp (s : State) (code block : Nat) (sev : Severity) (data : List Byte) : (s.log code block sev data).gdp = s.gdp := by obtain ⟨_, _, _, _, _, h⟩ := State.log_shape s code block sev data; rw [h]
@[simp] theorem State.log_cmp (s : State) (code block : Nat) (sev : Severity) (data : List Byte) : (s.log code block sev data).cmp = s.cmp := by obtain ⟨_, _, _, _, _, h⟩ := State.log_shape s code block sev data; rw [h]
@[simp] theorem State.log_acq (s : State) (code block : Nat) (sev : Severity) (data : List Byte) : (s.log code block sev data).acq = s.acq := by obtain ⟨_, _, _, _, _, h⟩ := State.log_shape s code block sev data; rw [h]
@[simp] theorem State.log_prism (s : State) (code block : Nat) (sev : Severity) (data : List Byte) : (s.log code block sev data).prism = s.prism := by obtain ⟨_, _, _, _, _, h⟩ := State.log_shape s code block sev data; rw [h]
@[simp] theorem State.log_wvn (s : State) (code block : Nat) (sev : Severity) (data : List Byte) : (s.log code block sev data).wvn = s.wvn := by obtain ⟨_, _, _, _, _, h⟩ := State.log_shape s code block sev data; rw [h]
@[simp] theorem State.log_mill (s : State) (code block : Nat) (sev : Severity) (data : List Byte) : (s.log code block sev data).mill = s.mill := by obtain ⟨_, _, _, _, _, h⟩ := State.log_shape s code block sev data; rw [h]
@[simp] theorem State.log_tasks (s : State) (code block : Nat) (sev : Severity) (data : List Byte) : (s.log code block sev data).tasks = s.tasks := by obtain ⟨_, _, _, _, _, h⟩ := State.log_shape s code block sev data; rw [h]
@[simp] theorem State.log_grn (s : State) (code block : Nat) (sev : Severity) (data : List Byte) : (s.log code block sev data).grn = s.grn := by obtain ⟨_, _, _, _, _, h⟩ := State.log_shape s code block sev data; rw [h]
@[simp] theorem State.log_shf (s : State) (code block : Nat) (sev : Severity) (data : List Byte) : (s.log code block sev data).shf = s.shf := by obtain ⟨_, _, _, _, _, h⟩ := State.log_shape s code block sev data; rw [h]
@[simp] theorem State.log_safe (s : State) (code block : Nat) (sev : Severity) (data : List Byte) : (s.log code block sev data).safe = s.safe := by obtain ⟨_, _, _, _, _, h⟩ := State.log_shape s code block sev data; rw [h]
@[simp] theorem State.log_ring (s : State) (code block : Nat) (sev : Severity) (data : List Byte) : (s.log code block sev data).ring = s.ring := by obtain ⟨_, _, _, _, _, h⟩ := State.log_shape s code block sev data; rw [h]
@[simp] theorem State.log_pending (s : State) (code block : Nat) (sev : Severity) (data : List Byte) : (s.log code block sev data).pending = s.pending := by obtain ⟨_, _, _, _, _, h⟩ := State.log_shape s code block sev data; rw [h]
@[simp] theorem State.rd_log (s : State) (code block : Nat) (sev : Severity) (data : List Byte) (x : Nat) : (s.log code block sev data).rd x = s.rd x := State.rd_congr (by simp) x
@[simp] theorem State.get_log (s : State) (code block : Nat) (sev : Severity) (data : List Byte) (g : Fld) : (s.log code block sev data).get g = s.get g := State.get_congr (by simp) g
@[simp] theorem State.on_log (s : State) (code block : Nat) (sev : Severity) (data : List Byte) (g : Fld) : (s.log code block sev data).on g = s.on g := State.on_congr (by simp) g

/-- Where CORE runs the matrix, an event that is raised is on its way in this cycle (R372). -/
theorem State.route_arrives (s : State) (src : Nat) (h : s.coreRuns = true) :
    ∃ e ∈ (s.route src).events, e.src = src ∧ e.count = s.clk.count := by
  unfold State.route
  by_cases hx : s.events.any (fun e => e.src == src && e.count == s.clk.count) = true
  · simp only [h, hx, Bool.not_true, Bool.and_false, Bool.false_eq_true, if_false]
    obtain ⟨e, he, hp⟩ := List.any_eq_true.1 hx
    simp only [Bool.and_eq_true, beq_iff_eq] at hp
    exact ⟨e, he, hp.1, hp.2⟩
  · simp only [Bool.not_eq_true] at hx
    simp only [h, hx, Bool.not_false, Bool.and_true, if_true]
    exact ⟨_, List.mem_append_right _ (List.mem_singleton.2 rfl), rfl, rfl⟩

theorem State.loupeSee_events (s : State) (src : Nat) : (s.loupeSee src).events = s.events := by
  unfold State.loupeSee
  split <;> rfl

theorem State.emit_arrives (s : State) (src : Nat) (h : s.coreRuns = true) :
    ∃ e ∈ (s.emit src).events, e.src = src ∧ e.count = s.clk.count := by
  unfold State.emit
  rw [State.loupeSee_events]
  exact State.route_arrives s src h

/-- No event leaves the matrix when another is raised. -/
theorem State.emit_keeps (s : State) (src : Nat) (e : Raised) (he : e ∈ s.events) : e ∈ (s.emit src).events := by
  unfold State.emit
  rw [State.loupeSee_events]
  unfold State.route
  split
  · exact List.mem_append_left _ he
  · exact he


theorem State.attendBy_keeps (s : State) (f : LinkSt → BitVec 8) (e : Raised) (he : e ∈ s.events) : e ∈ (s.attendBy f).events := by
  unfold State.attendBy
  dsimp only
  split
  · simpa using he
  · exact State.emit_keeps _ _ _ (by simpa using he)

theorem State.attend_keeps (s : State) (b : BitVec 8) (e : Raised) (he : e ∈ s.events) : e ∈ (s.attend b).events :=
  State.attendBy_keeps s _ e he

theorem State.raise_keeps (s : State) (src : Nat) (e : Raised) (he : e ∈ s.events) : e ∈ (s.raise src).events := by
  unfold State.raise
  dsimp only
  split
  · exact State.attend_keeps _ _ _ (State.emit_keeps s src e he)
  · exact State.emit_keeps s src e he

theorem State.raise_arrives (s : State) (src : Nat) (h : s.coreRuns = true) :
    ∃ e ∈ (s.raise src).events, e.src = src ∧ e.count = s.clk.count := by
  obtain ⟨e, he, h1⟩ := State.emit_arrives s src h
  refine ⟨e, ?_, h1⟩
  unfold State.raise
  dsimp only
  split
  · exact State.attend_keeps _ _ _ he
  · exact he

end Sys2Proof.Machine
end

