-- ==== Sys2Proof/Laws/Bus.lean ====
section
/-! SUPPORT. Laws/Bus.lean: which behaviour a write of each register with one of its own has, and what a write that passes its checks does. -/

namespace Sys2Proof.Machine

/-- Transactions of a perturbation target move its generator and the last disturbance, and nothing else (R59). -/
theorem State.transact_shape (s t : State) (k n : Nat) :
    ∃ l h, s.transact t k n = { t with tst := { t.tst with lfsr := l, held := h } } := by
  unfold State.transact
  split
  · induction n with
    | zero => exact ⟨_, _, rfl⟩
    | succ n ih =>
      obtain ⟨l, h, e⟩ := ih
      simp only [List.range_succ, List.foldl_append, List.foldl_cons, List.foldl_nil, e]
      unfold State.disturb
      split <;> exact ⟨_, _, rfl⟩
  · exact ⟨_, _, rfl⟩

/-- What the words of a port draw: the generator, the last disturbance, and how long the FIFOs are held (R58, R59). -/
theorem State.fifoMoves_shape (s t : State) (n : Nat) :
    ∃ l h f, s.fifoMoves t n = { t with tst := { t.tst with lfsr := l, held := h, fifoUntil := f } } := by
  unfold State.fifoMoves
  split
  · induction n with
    | zero => exact ⟨_, _, _, rfl⟩
    | succ n ih =>
      obtain ⟨l, h, f, e⟩ := ih
      simp only [List.range_succ, List.foldl_append, List.foldl_cons, List.foldl_nil, e]
      unfold State.disturb
      split <;> exact ⟨_, _, _, rfl⟩
  · exact ⟨_, _, _, rfl⟩

theorem State.hostMoves_shape (s t : State) (n : Nat) :
    ∃ l h f, s.hostMoves t n = { t with tst := { t.tst with lfsr := l, held := h, fifoUntil := f } } := by
  obtain ⟨l, h, e⟩ := State.transact_shape s t 1 1
  obtain ⟨l', h', f', e'⟩ := State.fifoMoves_shape s (s.transact t 1 1) ((n + 3) / 4)
  exact ⟨l', h', f', by rw [State.hostMoves, e', e]⟩

theorem State.takePort_shape (s : State) (a : Nat) : ∃ y, s.takePort a = { s with cycle := { s.cycle with ports := y } } := by
  unfold State.takePort
  split <;> exact ⟨_, rfl⟩

/-- A write of a register that no veto and no latency value comes from leaves the latency policy alone. -/
theorem State.policyFor_plain {s : State} {a : Nat} (f : State → State) (h : movesPolicy a = false) : s.policyFor a f = f s := by
  simp [State.policyFor, h]

/-- A host's write that passes the checks does what its register does, the bits it stores count as written in this cycle, and it has its
port for the cycle; a transaction that is disturbed moves a generator besides. -/
theorem State.write_accepted {s : State} {w : World} {a : Nat} {v : Word} (h : s.accepts w a v) :
    s.write w a v = s.policyFor a (fun s => (s.transact ((s.hook a v).markWritten a (s.writable a)) 0 1).takePort a) := by
  obtain ⟨h1, h2, h3, h4⟩ := h
  unfold State.write State.policyFor State.policyAfter
  simp only [h1, if_true, State.regWrite, State.busReg, h2, State.writeThrough, h3, Bool.false_eq_true, if_false, h4]

theorem idx?_some (base stride n i : Nat) (hs : 0 < stride) (hi : i < n) : idx? (base + stride * i) base stride n = some i := by
  have h : (stride * i) / stride = i := Nat.mul_div_cancel_left i hs
  simp [idx?, h, hi]

/-- A plain store is what the access codes give. -/
theorem State.storePlain_eq {s : State} {a : Nat} {v : Word} {r : RegRow} (h : regRow? a = some r) :
    s.storePlain a v = s.wr a (mergeWrite r (s.rd a) v) := by
  unfold State.storePlain
  rw [h]

/-- A plain store leaves every other register as it was. -/
theorem State.rd_storePlain (s : State) (a b : Nat) (v : Word) : (s.storePlain a v).rd b = if b = a then s.stored a v else s.rd b := by
  unfold State.storePlain State.stored
  cases hr : regRow? a with
  | none =>
    by_cases hb : b = a
    · simp [hb]
    · simp [hb]
  | some r => simp only [State.rd_wr]

variable (s : State) (v : Word)


theorem State.hook_SYS_LTR : s.hook R.SYS_LTR v = s.writeLtr v := rfl
theorem State.hook_CLK_SYN0_TRIM : s.hook R.CLK_SYN0_TRIM v = s.trimWrite v := rfl
theorem State.hook_CLK_RAMP_CTRL : s.hook R.CLK_RAMP_CTRL v = s.rampWrite v := rfl
theorem State.hook_CLK_SYN0_SSC : s.hook R.CLK_SYN0_SSC v = s.sscWrite false v := rfl
theorem State.hook_CLK_SYN1_SSC : s.hook R.CLK_SYN1_SSC v = s.sscWrite true v := rfl
theorem State.hook_CLK_RTC_SEC_HI : s.hook R.CLK_RTC_SEC_HI v = s.rtcLoad v := rfl
theorem State.hook_TST_CTRL : s.hook R.TST_CTRL v = s.pertCtrl v := rfl
theorem State.hook_TST_RPL_CTRL : s.hook R.TST_RPL_CTRL v = s.rplCtrl v := rfl
theorem State.hook_ACQ_CTRL : s.hook R.ACQ_CTRL v = s.acqCtrl v := rfl
theorem State.hook_ACQ_SPARE : s.hook R.ACQ_SPARE v = s.acqSpare v := rfl
theorem State.hook_LOOM_UNBLOCK : s.hook R.LOOM_UNBLOCK v = s.unblock (v.toNat % 2 ^ 24) := rfl
theorem State.hook_GDP_FLT_LATCH : s.hook R.GDP_FLT_LATCH v = s.fltClear (v.toNat % 2 ^ 24) := rfl
theorem State.hook_GDP_GRP_STAT : s.hook R.GDP_GRP_STAT v = (s.storePlain R.GDP_GRP_STAT (v &&& 0xFFFFFF00)).grpClear (v.toNat % 256) := rfl
theorem State.hook_EVT_FORCE : s.hook R.EVT_FORCE v = s.evtForce v := rfl
theorem State.hook_RING_CTRL : s.hook R.RING_CTRL v = s.ringCtrl v := rfl
theorem State.hook_GRN_CTRL : s.hook R.GRN_CTRL v = (s.writeMeters v).enWritten 3 := rfl
theorem State.hook_GRN_SNAP_CTRL : s.hook R.GRN_SNAP_CTRL v = (s.storePlain R.GRN_SNAP_CTRL v).whenB (bitAt v 0) (·.askSnapshot (bitAt v 1) none false) := rfl
theorem State.hook_GRN_JRN : s.hook R.GRN_JRN v = (s.storePlain R.GRN_JRN v).whenB (bitAt v 16) (·.journalAsk 0) := rfl
theorem State.hook_CLK_CMPn_HI (n : Fin 16) : s.hook (R.CLK_CMPn_HI n) v = s.cmpLoad n v := by
  fin_cases n <;> rfl
theorem State.hook_CLK_CMPn_CTRL (n : Fin 16) : s.hook (R.CLK_CMPn_CTRL n) v = s.cmpCtrl n v := by
  fin_cases n <;> rfl
theorem State.hook_MILL_TASKt_CTRL (n : Fin 8) : s.hook (R.MILL_TASKt_CTRL n) v = s.taskCtrl n v := by
  fin_cases n <;> rfl
theorem State.hook_LOOM_CARc (n : Fin 8) : s.hook (R.LOOM_CARc n) v = s.carCtrl n v := by
  fin_cases n <;> rfl
theorem State.hook_LOOM_LEGl_CMPU (n : Fin 24) : s.hook (R.LOOM_LEGl_CMPU n) v = s.loadShadow n false v := by
  fin_cases n <;> rfl
theorem State.hook_LOOM_LEGl_CMPD (n : Fin 24) : s.hook (R.LOOM_LEGl_CMPD n) v = s.loadShadow n true v := by
  fin_cases n <;> rfl
theorem State.hook_LOOM_TLk_CFG (n : Fin 16) : s.hook (R.LOOM_TLk_CFG n) v = (s.keepOld (R.LOOM_TLk_CFG n)).storePlain (R.LOOM_TLk_CFG n) v := by
  fin_cases n <;> rfl
theorem State.hook_LOOM_TLk_MASK (n : Fin 16) : s.hook (R.LOOM_TLk_MASK n) v = (s.keepOld (R.LOOM_TLk_MASK n)).storePlain (R.LOOM_TLk_MASK n) v := by
  fin_cases n <;> rfl
theorem State.hook_GDP_GDn_CTRL (n : Fin 8) : s.hook (R.GDP_GDn_CTRL n) v = (s.storePlain (R.GDP_GDn_CTRL n) v).gdRefresh n := by
  fin_cases n <;> rfl
theorem State.hook_GDP_GDn_STAT (n : Fin 8) : s.hook (R.GDP_GDn_STAT n) v = s.gdStat n v := by
  fin_cases n <;> rfl
theorem State.hook_GDP_LINKn_CFG (n : Fin 2) : s.hook (R.GDP_LINKn_CFG n) v = s.linkCfg n v := by
  fin_cases n <;> rfl
theorem State.hook_GDP_LINKn_STAT (n : Fin 2) : s.hook (R.GDP_LINKn_STAT n) v = s.linkStat n v := by
  fin_cases n <;> rfl
theorem State.hook_RING_TXWw (n : Fin 128) : s.hook (R.RING_TXWw n) v = s.loadLatch n v := by
  fin_cases n <;> rfl
theorem State.hook_DMA_CHn_CFG (n : Fin 16) : s.hook (R.DMA_CHn_CFG n) v = s.dmaCfg n v := by
  fin_cases n <;> rfl
theorem State.hook_DMA_CHn_CTRL (n : Fin 16) : s.hook (R.DMA_CHn_CTRL n) v = s.dmaCtrl n v := by
  fin_cases n <;> rfl

end Sys2Proof.Machine
end

