-- ==== Sys2Proof/Tests/Slice0.lean ====
section
/-! SUPPORT. Tests/Slice0.lean: for every obligation with hypotheses, concrete states and operands that meet each of its clauses; the
terms that WellFormed refuses; and the spec's worked figures and published check values held against the model. -/

open Sys2Proof

namespace Sys2Proof.Machine

section

set_option Elab.async false

/-- A device that runs in READY, with every clock locked, after its calibration. -/
def dev : State :=
  { State.reset with sys := { State.reset.sys with phase := .run } } |>.put F.CLK_STAT_SYN0_LOCKED 1 |>.put F.CLK_STAT_SYN1_LOCKED 1
    |>.put F.ACQ_STAT_CAL_DONE 1

/-- The same device in the mode with this code. -/
def inMode (n : Nat) : State := dev.put F.SYS_MODE_MODE n

/-- The same device in SERVICE. -/
def svc : State := inMode 5

/-- A device at this COUNT. -/
def State.atCount (s : State) (n : Nat) : State := s.modClk (fun c => { c with count := BitVec.ofNat 64 n })

/-- The same device in a later CORE cycle. -/
def State.later (s : State) : State := { s with cycle := {} }

/-- A device with carrier `c` running in a period of 1,000 cycles since COUNT 0. -/
def State.car0 (s : State) (c : Nat) : State := s |>.put (F.LOOM_PERc_PER c) 500 |>.put (F.LOOM_CSTATc_STATE c) 2 |>.put (F.LOOM_CARc_EN c) 1

/-- A device with Weathervane set `k` on. -/
def State.set0 (s : State) (k : Nat) : State := { s with wvn := { s.wvn with active := BitVec.ofNat 32 (2 ^ k) } }

/-- A device with the slot `w` of lane 1 before it, in a bundle of task 0. -/
def issues (w : Word) : State :=
  (inMode 3).modMill (fun m => { m with active := true, running := some 0, prog := [(0, w.setWidth 128 <<< 32)] })

/-- A header with SEQ 1 in WORLD 0, without a tag. -/
def hdr0 : Hdr := { world := .nonSecure, seq := 1, ack := 0, ctr := 0, tag := none }

/-- The same header in WORLD 1. -/
def hdr1 : Hdr := { hdr0 with world := .secure }

/-- A header in WORLD 1 with CTR 1 and this tag; the tests give the tag that the session's key 1, 2, 3 makes. -/
def sealed (t : List Byte) : Hdr := { hdr1 with ctr := 1, tag := some t }

/-- A device whose SPI link is ready for SEQ 1 and holds the session with key 1, 2, 3. -/
def State.linked (s : State) : State := s.modLink .spi (fun x => { x with hello := true, session := some { ks := [1, 2, 3] } })

/-- A device whose session slot 7 holds a key. -/
def State.keyIn (s : State) : State := { s with otp := { s.otp with keySlots := upd s.otp.keySlots 7 (fun _ => some (List.replicate 32 1)), provisioned := true } }

/-- A configuration image of generation 1 with one record, and a device that has it staged. -/
def image1 : List Byte := imageOf 1 false 0 [(R.LOOM_PERc 7, 500)]
def State.staged (s : State) : State := { s with stew := { s.stew with cfgStage := memSetBytes [] 0 image1, cfgLen := image1.length } }

/-- A device whose live configuration is that image. -/
def State.live1 (s : State) : State :=
  { s with cfg := { s.cfg with gen := 1, len := image1.length }, mem := { s.mem with mram := memSetBytes [] (slotBase 0) image1 } }

/-- A parameter block of PGEN 1: pair 0 an input of output 0 that mirror A pulses with its output 0, pair 10 a RESET, pair 11 the EDM pair
of output 0, and this WRAP_T. -/
def blockOf (wrap : Nat) : List Byte :=
  let body := leBytes 4 0x53464150 ++ leBytes 4 1 ++ zeros 6 ++ [2, 0, 10, 0] ++ leBytes 2 10 ++
    ([9, 0, 1, 1] ++ (List.replicate 9 [0, 0, 1, 0]).flatten ++ [4, 0, 1, 0] ++ [5, 0, 1, 0]) ++
    ([0, 0, 0xF0, 0x1B] ++ (List.replicate 4 [0, 0, 0xF0, 0x1F]).flatten) ++ [1, 1, 0, 0] ++ leBytes 2 wrap ++ zeros 158
  body ++ leBytes 4 (crc32c body).toNat

/-- A device whose mirrors are both ACTIVE with that block, at this time of theirs. -/
def State.mirrors (s : State) (wrap time : Nat) : State :=
  let go := fun (x : MirrorSt) => { x with state := .active, live := some 0, store := [blockOf wrap, []], time := time }
  (s.modMir .a go).modMir .b go

/-- A device in which this long operation runs, in this phase and with this payload. -/
def State.longOp (s : State) (op phase : Nat) (p : List Byte) : State :=
  s.modLong (fun x => { x with asked := { x.asked with opcode := op }, state := 1, phase := phase, payload := p })

/-- A firmware image of one byte (R357), signed outside Lean with the private key 1 and the nonce 1: the key is the curve's base point, r is
its first coordinate modulo the order, and s is the sum of r and the header's hash. -/
def firmware : List Byte :=
  [87, 73, 77, 71, 1, 0, 0, 0, 0, 0, 0, 0, 1, 0, 0, 0, 202, 53, 135, 88, 246, 210, 126, 108, 244, 82, 114, 147, 121, 119, 167, 72] ++
    [253, 136, 57, 29, 182, 121, 206, 218, 125, 199, 191, 31, 0, 94, 232, 121, 107, 23, 209, 242, 225, 44, 66, 71, 248, 188, 230, 229, 99, 164, 64, 242] ++
    [119, 3, 125, 129, 45, 235, 51, 160, 244, 161, 57, 69, 216, 152, 194, 150, 79, 227, 66, 226, 254, 26, 127, 155, 142, 231, 235, 74, 124, 15, 158, 22] ++
    [43, 206, 51, 87, 107, 49, 94, 206, 203, 182, 64, 104, 55, 191, 81, 245, 107, 23, 209, 242, 225, 44, 66, 71, 248, 188, 230, 229, 99, 164, 64, 242] ++
    [119, 3, 125, 129, 45, 235, 51, 160, 244, 161, 57, 69, 216, 152, 194, 150, 186, 92, 18, 14, 104, 252, 237, 114, 94, 219, 182, 183, 124, 233, 193, 163] ++
    [48, 108, 145, 176, 94, 199, 81, 210, 28, 15, 140, 83, 2, 113, 204, 227] ++ zeros 76 ++ [41, 72, 241, 218, 7]

/-- A device with that image in firmware slot `n` and its key's hash in OTP. -/
def State.withFirmware (s : State) (n : Nat) : State :=
  { s with otp := { s.otp with keyHash := upd s.otp.keyHash 0 (fun _ => sha256 ((firmware.drop 48).take 64)) }
           mem := { s.mem with mram := (firmware.zipIdx.map (fun c => (fwBase n + c.2, c.1))).filter (fun c => c.2 != 0) } }

/-- A device whose log holds one whole record, with SEQ 0. -/
def State.logged (s : State) : State :=
  { s with stew := { s.stew with logNext := 1, logHeld := 1 }
           mem := { s.mem with mram := memSetBytes [] 0x490000 (zeros 29 ++ [1] ++ leBytes 2 (crc32c (zeros 29 ++ [1])).toNat) } }
theorem none_ne {α : Type} {o : Option α} {p : α → Prop} (h : o = none) : ∀ x, o = some x → p x := by
  intro x hx; rw [h] at hx; cases hx

theorem regions_off {s : State} {w : World} {write : Bool} (h : ∀ r ∈ List.range 32, s.nowOn (F.WLD_RGNr_ATTR_EN r) = false) :
    ∀ a, s.regionAllows w write a = true := by
  intro a
  have e : (List.range 32).filter (fun r => s.covers r a) = [] := by
    refine List.filter_eq_nil_iff.2 fun r hr => ?_
    simp [State.covers, h r hr]
  simp [State.regionAllows, e]

/-! ### What meets the hypotheses of the obligations -/

theorem test_hyps_idle_step_passes_one_cycle :
    (∃ (s : State), s.pending = [] ∧ s.sys.phase = .run ∧ s.clk.hold = false) ∧
    (∃ (s : State), s.pending = [] ∧ s.sys.phase = .run ∧ s.clk.hold = true) ∧
    (∃ (s : State), s.pending = [] ∧ s.sys.phase = .keep) := by
  refine ⟨⟨dev, ?_, ?_, ?_⟩,
    ⟨dev |>.modClk (fun c => { c with hold := true }), ?_, ?_, ?_⟩,
    ⟨dev |>.modSys (fun x => { x with phase := .keep }), ?_, ?_⟩⟩
    <;> first | decide +kernel | (constructor <;> decide +kernel)

theorem test_hyps_register_writes_obey_their_checks :
    (∃ (s : State) (w : World) (a v : Word), s.sys.phase = .run ∧ (s.checkWrite w a.toNat v = .written ∨ s.checkWrite w a.toNat v =
      .locked) ∧ s.frozenWhole a.toNat = false ∧ storesPlainly a.toNat = true ∧ (∀ n : Fin 16, a.toNat = R.DMA_CHn_STAT n → s.on
      (F.DMA_CHn_CFG_EN n) = false)) ∧
    (∃ (s : State) (w : World) (a v : Word), s.sys.phase = .run ∧ (s.checkWrite w a.toNat v = .written ∨ s.checkWrite w a.toNat v =
      .locked) ∧ s.frozenWhole a.toNat = true) ∧
    (∃ (s : State) (w : World) (n : Fin 16) (v : Word), s.accepts w (R.DMA_CHn_STAT n) v ∧ s.on (F.DMA_CHn_CFG_EN n) = true) ∧
    (∃ (s : State) (w : World) (i : Fin 17) (v : Word), hasLock i = true ∧ (i.val = 9 ∨ i.val = 11 → s.policyRests) ∧ s.accepts w
      (blockBase i) (v ||| 0x80000000)) ∧
    (∃ (s : State) (i : Fin 17), hasLock i = false) ∧
    (∃ (s : State), s.sys.phase ≠ .run) ∧
    (∃ (s : State) (w : World) (a v : Word), s.sys.phase = .run ∧ (s.checkWrite w a.toNat v = .mode ∨ s.checkWrite w a.toNat v =
      .unlisted)) ∧
    (∃ (s : State) (w : World) (a v : Word), s.sys.phase = .run ∧ s.checkWrite w a.toNat v = .world ∧ s.on F.WLD_FAULT_INFO_VALID =
      false) ∧
    (∃ (s : State) (w : World) (a v : Word), s.sys.phase = .run ∧ s.checkWrite w a.toNat v = .world ∧ s.on F.WLD_FAULT_INFO_VALID = true) := by
  refine ⟨⟨svc, .secure, BitVec.ofNat 32 (R.EVT_SINKk 0), 0x1F, ?_, ?_, ?_, ?_, ?_⟩,
    ⟨svc |>.putBit (blockBase 14) 31 true, .secure, BitVec.ofNat 32 (R.EVT_SINKk 0), 0x1F, ?_, ?_, ?_⟩,
    ⟨svc |>.put (F.DMA_CHn_CFG_EN 15) 1, .secure, 15, 0, ?_, ?_⟩,
    ⟨svc, .secure, 16, 0, by decide +kernel, fun h => absurd h (by decide), ⟨by decide +kernel, by decide +kernel, by decide +kernel, by
      decide +kernel⟩⟩,
    ⟨dev, 2, ?_⟩,
    ⟨dev |>.modSys (fun x => { x with phase := .boot }), ?_⟩,
    ⟨dev, .secure, 0x40010FFC, 0, ?_, ?_⟩,
    ⟨dev |>.put F.WLD_FAULT_INFO_VALID 0 |>.wr R.WLD_BLKWORLD 0xFFFFFFFF, .nonSecure, BitVec.ofNat 32 R.CLK_CTRL, 0, ?_, ?_, ?_⟩,
    ⟨dev |>.put F.WLD_FAULT_INFO_VALID 1 |>.wr R.WLD_BLKWORLD 0xFFFFFFFF, .nonSecure, BitVec.ofNat 32 R.CLK_CTRL, 0, ?_, ?_, ?_⟩⟩
    <;> first | decide +kernel | (constructor <;> decide +kernel)

theorem test_hyps_trim_and_ramp_keep_their_limits :
    (∃ (s : State) (w : World) (v : Word), s.accepts w R.CLK_SYN0_TRIM v ∧ s.get F.CLK_SYN0_DISC_SRC = 0 ∧ s.clk.ramp.running = false ∧
      -30000 ≤ signed 16 v.toNat ∧ signed 16 v.toNat ≤ 30000 ∧ (signed 16 v.toNat - s.trim).natAbs ≤ 500) ∧
    (∃ (s : State) (w : World) (v : Word), s.accepts w R.CLK_SYN0_TRIM v ∧ (s.get F.CLK_SYN0_DISC_SRC ≠ 0 ∨ s.clk.ramp.running = true ∨
      signed 16 v.toNat < -30000 ∨ 30000 < signed 16 v.toNat ∨ 500 < (signed 16 v.toNat - s.trim).natAbs)) ∧
    (∃ (s : State) (x : Int), s.pending = [] ∧ s.sys.phase = .run ∧ s.clk.refMissing = false ∧ s.clk.refIn = 0 ∧ s.clk.trimNext = some x
      ∧ -30000 ≤ x ∧ x ≤ 30000) ∧
    (∃ (s : State) (w : World) (v : Word), s.accepts w R.CLK_RAMP_CTRL (v ||| 1) ∧ bitAt v 1 = false ∧ s.get F.CLK_SYN0_DISC_SRC = 0 ∧
      s.on F.CLK_STAT_SSC0_ON = false) ∧
    (∃ (s : State) (w : World) (v : Word), s.accepts w R.CLK_RAMP_CTRL (v ||| 1) ∧ bitAt v 1 = false ∧ (s.get F.CLK_SYN0_DISC_SRC ≠ 0 ∨
      s.on F.CLK_STAT_SSC0_ON = true)) ∧
    (∃ (s : State) (w : World) (v : Word), s.accepts w R.CLK_RAMP_CTRL (v ||| 2) ∧ bitAt v 0 = false) ∧
    (∃ (s : State), s.clk.ramp.running = true ∧ s.coreRuns = true ∧ s.due s.clk.ramp.nextAt = true ∧ s.clk.ramp.returning = false ∧ 0 <
      s.clk.ramp.msLeft) ∧
    (∃ (s : State), s.clk.ramp.running = true ∧ s.coreRuns = true ∧ s.due s.clk.ramp.nextAt = true ∧ s.clk.ramp.returning = true ∧ -30000
      ≤ s.clk.ramp.startTrim ∧ s.clk.ramp.startTrim ≤ 30000 ∧ -30000 ≤ s.trim ∧ s.trim ≤ 30000) ∧
    (∃ (s : State), s.clk.ramp.running = true ∧ s.coreRuns = true ∧ s.clk.ramp.returning = false ∧ s.clk.ramp.msLeft = 0 ∧ s.clk.ramp.seg
      < s.get F.CLK_RAMP_CTRL_NSEG) ∧
    (∃ (s : State), s.clk.ramp.running = true ∧ s.coreRuns = true ∧ s.clk.ramp.returning = false ∧ s.clk.ramp.msLeft = 0 ∧ ¬
      s.clk.ramp.seg < s.get F.CLK_RAMP_CTRL_NSEG ∧ (s.get F.CLK_RAMP_CTRL_END = 0 ∨ s.get F.CLK_RAMP_CTRL_END = 3 ∨ (s.get
      F.CLK_RAMP_CTRL_END = 1 ∧ s.trim = s.clk.ramp.startTrim))) ∧
    (∃ (s : State), s.clk.ramp.running = true ∧ s.coreRuns = true ∧ s.clk.ramp.returning = false ∧ s.clk.ramp.msLeft = 0 ∧ ¬
      s.clk.ramp.seg < s.get F.CLK_RAMP_CTRL_NSEG ∧ s.get F.CLK_RAMP_CTRL_END = 1 ∧ s.trim ≠ s.clk.ramp.startTrim) ∧
    (∃ (s : State), s.clk.ramp.running = true ∧ s.coreRuns = true ∧ s.clk.ramp.returning = false ∧ s.clk.ramp.msLeft = 0 ∧ ¬
      s.clk.ramp.seg < s.get F.CLK_RAMP_CTRL_NSEG ∧ s.get F.CLK_RAMP_CTRL_END = 2) := by
  refine ⟨⟨svc |>.put F.CLK_SYN0_DISC_SRC 0, .secure, 500, ?_, ?_, ?_, ?_, ?_, ?_⟩,
    ⟨svc, .secure, 501, ?_, ?_⟩,
    ⟨dev |>.modClk (fun c => { c with trimNext := some (-30000), refIn := 0 }), -30000, ?_, ?_, ?_, ?_, ?_, ?_, ?_⟩,
    ⟨svc |>.put F.CLK_SYN0_DISC_SRC 0 |>.put F.CLK_STAT_SSC0_ON 0, .secure, 0, ?_, ?_, ?_, ?_⟩,
    ⟨svc |>.put F.CLK_SYN0_DISC_SRC 1, .secure, 0, ?_, ?_, ?_⟩,
    ⟨svc, .secure, 0, ?_, ?_⟩,
    ⟨dev |>.modRamp (fun r => { r with running := true, msLeft := 1 }), ?_, ?_, ?_, ?_, ?_⟩,
    ⟨dev |>.modRamp (fun r => { r with running := true, returning := true }), ?_, ?_, ?_, ?_, ?_, ?_, ?_, ?_⟩,
    ⟨dev |>.modRamp (fun r => { r with running := true, msLeft := 0 }) |>.put F.CLK_RAMP_CTRL_NSEG 1, ?_, ?_, ?_, ?_, ?_⟩,
    ⟨dev |>.modRamp (fun r => { r with running := true, msLeft := 0 }), ?_, ?_, ?_, ?_, ?_, ?_⟩,
    ⟨dev |>.put F.CLK_RAMP_CTRL_END 1 |>.modRamp (fun r => { r with running := true, startTrim := 5 }), ?_, ?_, ?_, ?_, ?_, ?_, ?_⟩,
    ⟨dev |>.put F.CLK_RAMP_CTRL_END 2 |>.modRamp (fun r => { r with running := true, msLeft := 0 }), ?_, ?_, ?_, ?_, ?_, ?_⟩⟩
    <;> first | decide +kernel | (constructor <;> decide +kernel)

theorem test_hyps_clock_events_move_the_domains :
    (∃ (s : State), s.sys.phase ≠ .keep ∧ s.clk.coreOnMonitor = false ∧ s.clk.refMissing = false) ∧
    (∃ (s : State), s.sys.phase ≠ .keep ∧ s.clk.stewOnMonitor = false ∧ s.clk.refMissing = false) ∧
    (∃ (s : State) (w : World) (v : Word), s.accepts w R.CLK_SYN0_SSC v ∧ getBits v 2 2 ≠ 3 ∧ (bitAt v 0 = false ∨ (s.ringEnabled = false
      ∧ s.metersEnabled = false ∧ s.clk.ramp.running = false))) ∧
    (∃ (s : State) (w : World) (v : Word), s.accepts w R.CLK_SYN1_SSC v ∧ getBits v 2 2 ≠ 3) ∧
    (∃ (s : State) (w : World) (syn1 : Bool) (v : Word), s.accepts w (if syn1 then R.CLK_SYN1_SSC else R.CLK_SYN0_SSC) v ∧ (getBits v 2 2
      = 3 ∨ (syn1 = false ∧ bitAt v 0 = true ∧ (s.ringEnabled = true ∨ s.metersEnabled = true ∨ s.clk.ramp.running = true)))) ∧
    (∃ (s : State), s.sys.phase = .run ∧ s.clk.stewOnMonitor = false ∧ s.on F.CLK_STAT_SYN1_LOCKED = true) ∧
    (∃ (s : State), s.sys.phase = .run ∧ s.clk.coreOnMonitor = false ∧ s.on F.CLK_STAT_SYN0_LOCKED = true) ∧
    (∃ (s : State), s.sys.phase = .run ∧ s.clk.refMissing = false) := by
  refine ⟨⟨dev, ?_, ?_, ?_⟩,
    ⟨dev, ?_, ?_, ?_⟩,
    ⟨svc, .secure, 1, ?_, ?_, ?_⟩,
    ⟨svc, .secure, 9, ?_, ?_⟩,
    ⟨svc, .secure, false, 13, ?_, ?_⟩,
    ⟨dev |>.put F.CLK_STAT_SYN1_LOCKED 1, ?_, ?_, ?_⟩,
    ⟨dev |>.put F.CLK_STAT_SYN0_LOCKED 1, ?_, ?_, ?_⟩,
    ⟨dev, ?_, ?_⟩⟩
    <;> first | decide +kernel | (constructor <;> decide +kernel)

theorem test_hyps_latches_compares_and_the_rtc :
    (∃ (s : State), s.sys.phase = .run) ∧
    (∃ (s : State), s.sys.phase = .run) ∧
    (∃ (s : State) (w : World) (n : Fin 16) (v : Word), s.accepts w (R.CLK_CMPn_HI n) v ∧ s.count < (nth s.clk.cmpHeldLo n 0).toNat + 2 ^
      32 * v.toNat) ∧
    (∃ (s : State) (w : World) (n : Fin 16) (v : Word), s.accepts w (R.CLK_CMPn_HI n) v ∧ (nth s.clk.cmpHeldLo n 0).toNat + 2 ^ 32 *
      v.toNat ≤ s.count) ∧
    (∃ (s : State) (w : World) (n : Fin 16) (v : Word), s.accepts w (R.CLK_CMPn_CTRL n) (v ||| 1) ∧ s.on (F.CLK_CMPn_CTRL_EN n) = false ∧
      bitAt (s.setNow (R.CLK_CMPn_CTRL n)) 9 = true) ∧
    (∃ (s : State) (w : World) (n : Fin 16) (v : Word), s.accepts w (R.CLK_CMPn_CTRL n) (v ||| 1) ∧ s.on (F.CLK_CMPn_CTRL_EN n) = false ∧
      s.count < s.cmpTarget n) ∧
    (∃ (s : State) (w : World) (n : Fin 16) (v : Word), s.accepts w (R.CLK_CMPn_CTRL n) (v ||| 1) ∧ s.on (F.CLK_CMPn_CTRL_EN n) = false ∧
      s.cmpTarget n ≤ s.count ∧ bitAt (s.setNow (R.CLK_CMPn_CTRL n)) 9 = false) ∧
    (∃ (s : State) (n : Fin 16), s.coreRuns = true ∧ s.on (F.CLK_CMPn_CTRL_EN n) = true ∧ s.cmpTarget n = s.count ∧ s.writtenNow
      (F.CLK_CMPn_CTRL_EN n) = false ∧ marksAt s.cycle.swSet (R.CLK_CMPn_HI n) = 0) ∧
    (∃ (s : State) (w : World) (v : Word), s.accepts w R.CLK_RTC_SEC_HI v) ∧
    (∃ (s : State), s.sys.keepLost = false ∧ s.rtcDue = true ∧ s.on F.SYS_KCTL_ALARM_EN = false) ∧
    (∃ (s : State), 32 ≤ s.clk.rtcInterval) := by
  refine ⟨⟨dev, ?_⟩,
    ⟨dev, ?_⟩,
    ⟨svc, .secure, 15, 1, ?_, ?_⟩,
    ⟨svc, .secure, 1, 0, ?_, ?_⟩,
    ⟨svc |>.put (F.CLK_CMPn_CTRL_EN 15) 0 |>.wr (R.CLK_CMPn_CTRL 15) 0 |> fun s => s.markSet (R.CLK_CMPn_CTRL 15) 0x200, .secure, 15, 0,
      ?_, ?_, ?_⟩,
    ⟨svc |>.put (F.CLK_CMPn_CTRL_EN 15) 0 |>.wr (R.CLK_CMPn_HI 15) 1, .secure, 15, 0, ?_, ?_, ?_⟩,
    ⟨svc |>.put (F.CLK_CMPn_CTRL_EN 15) 0, .secure, 15, 0, ?_, ?_, ?_, ?_⟩,
    ⟨dev |>.put (F.CLK_CMPn_CTRL_EN 15) 1, 15, ?_, ?_, ?_, ?_, ?_⟩,
    ⟨svc, .secure, 0, ?_⟩,
    ⟨dev |>.put F.SYS_KCTL_ALARM_EN 0, ?_, ?_, ?_⟩,
    ⟨dev |>.modClk (fun c => { c with rtcInterval := 32 }), ?_⟩⟩
    <;> first | decide +kernel | (constructor <;> decide +kernel)

theorem test_hyps_timebase_reads_give_one_instant :
    (∃ (s : State), s.sys.phase = .run) ∧
    (∃ (s : State) (c : Instr), readsRegisters c = false ∧ s.sys.phase = .run) ∧
    (∃ (s : State) (c : Instr), readsRegisters c = true ∧ s.sys.phase = .run) := by
  refine ⟨⟨dev, ?_⟩,
    ⟨dev, .refLost, ?_, ?_⟩,
    ⟨dev, .tbLoRead .secure, ?_, ?_⟩⟩
    <;> first | decide +kernel | (constructor <;> decide +kernel)

theorem test_hyps_late_targets_are_missed :
    (∃ (s : State) (w : World) (n : Fin 16) (v : Word), s.accepts w (R.CLK_CMPn_CTRL n) (v ||| 1) ∧ s.on (F.CLK_CMPn_CTRL_EN n) = false ∧
      s.cmpTarget n ≤ s.count ∧ bitAt (s.setNow (R.CLK_CMPn_CTRL n)) 9 = false) ∧
    (∃ (s : State) (w : World) (n : Fin 16) (v : Word), s.accepts w (R.CLK_CMPn_HI n) v ∧ (nth s.clk.cmpHeldLo n 0).toNat + 2 ^ 32 *
      v.toNat ≤ s.count) := by
  refine ⟨⟨svc |>.put (F.CLK_CMPn_CTRL_EN 1) 0, .secure, 1, 0, ?_, ?_, ?_, ?_⟩,
    ⟨svc, .secure, 1, 0, ?_, ?_⟩⟩
    <;> first | decide +kernel | (constructor <;> decide +kernel)

theorem test_hyps_perturbation_record_and_replay :
    (∃ (s : State) (w : World) (v : Word), s.accepts w R.TST_CTRL (v ||| 1) ∧ s.inService = true ∧ s.on F.TST_CTRL_PERT_EN = false) ∧
    (∃ (s : State) (w : World) (v : Word), s.accepts w R.TST_CTRL (v ||| 1) ∧ s.inService = true ∧ s.on F.TST_CTRL_PERT_EN = true) ∧
    (∃ (s : State) (w : World) (v : Word), s.accepts w R.TST_CTRL (v ||| 1) ∧ s.inService = false) ∧
    (∃ (s : State) (w : World) (v : Word) (e : Nat), s.accepts w R.TST_RPL_CTRL (v ||| 4) ∧ bitAt v 3 = false ∧ s.on F.TST_RPL_STAT_BUSY
      = false ∧ (s.storePlain R.TST_RPL_CTRL (v ||| 4)).rplRefused = some e) ∧
    (∃ (s : State) (w : World) (v : Word), s.accepts w R.TST_RPL_CTRL (v ||| 4) ∧ bitAt v 3 = false ∧ s.on F.TST_RPL_STAT_BUSY = false ∧
      (s.storePlain R.TST_RPL_CTRL (v ||| 4)).rplRefused = none ∧ (s.storePlain R.TST_RPL_CTRL (v ||| 4)).get F.TST_RPL_CTRL_MODE = 1) ∧
    (∃ (s : State) (w : World) (v : Word), s.accepts w R.TST_RPL_CTRL (v ||| 4) ∧ bitAt v 3 = false ∧ s.on F.TST_RPL_STAT_BUSY = false ∧
      (s.storePlain R.TST_RPL_CTRL (v ||| 4)).rplRefused = none ∧ (s.storePlain R.TST_RPL_CTRL (v ||| 4)).get F.TST_RPL_CTRL_MODE = 2) ∧
    (∃ (s : State) (w : World) (v : Word), s.accepts w R.TST_RPL_CTRL (v ||| 8) ∧ bitAt v 2 = false ∧ (s.tst.rpl = .armedRecord ∨
      s.tst.rpl = .armedReplay)) ∧
    (∃ (s : State) (w : World) (v : Word), s.accepts w R.TST_RPL_CTRL (v ||| 8) ∧ bitAt v 2 = false ∧ (s.tst.rpl = .recording ∨ s.tst.rpl
      = .replaying)) ∧
    (∃ (s : State), s.tst.rpl = .armedRecord ∧ s.rplValley = true) ∧
    (∃ (s : State), s.tst.rpl = .armedReplay ∧ s.rplMatches = true) ∧
    (∃ (s : State), s.tst.rpl = .armedReplay ∧ 32 ≤ s.tst.valleys ∧ s.rplMatches = false) ∧
    (∃ (s : State), s.tst.rpl = .recording ∧ s.rplSlotDue = true ∧ s.rplRefused = none ∧ s.tst.abort = false ∧ s.get F.TST_RPL_POS_POS +
      1 < s.get F.TST_RPL_LEN_SLOTS) ∧
    (∃ (s : State), s.tst.rpl = .replaying ∧ s.rplSlotDue = true ∧ s.rplRefused = none ∧ s.tst.abort = false ∧ s.get F.TST_RPL_POS_POS +
      1 < s.get F.TST_RPL_LEN_SLOTS ∧ s.mem.sramBad = [] ∧ s.mem.sramCorrectable = [] ∧ (∀ a, s.regionAllows .secure false a = true) ∧ (∀
      p ∈ s.rplSlices.zipIdx, channelDiffers (nth s.acq.outs p.1 {}) (memWord s.mem.sram (s.rplAddr + 4 * p.2 - 0x10000000)) = false)) ∧
    (∃ (s : State) (n : Nat), s.tst.rpl = .replaying ∧ s.replaced n = true) ∧
    (∃ (s : State), s.pending = [] ∧ s.sys.phase = .run ∧ s.clk.hold = false ∧ s.rplRuns = true ∧ 0 < s.get F.TST_RPL_POS_POS ∧ s.get
      F.TST_RPL_LEN_SLOTS ≤ s.get F.TST_RPL_POS_POS ∧ s.tst.slot0 + 32 * s.get F.TST_RPL_POS_POS = s.count + 1 ∧ s.count + 1 < 2 ^ 64) := by
  refine ⟨⟨svc |>.put F.TST_CTRL_PERT_EN 0, .secure, 0, ?_, ?_, ?_⟩,
    ⟨svc |>.put F.TST_CTRL_PERT_EN 1, .secure, 0, ?_, ?_, ?_⟩,
    ⟨dev, .secure, 0, ?_, ?_⟩,
    ⟨svc |>.put F.TST_RPL_STAT_BUSY 0, .secure, 0, 1, ?_, ?_, ?_, ?_⟩,
    ⟨svc |>.put F.TST_RPL_STAT_BUSY 0 |>.wr R.TST_RPL_BASE 0x10000000 |>.put F.TST_RPL_LEN_SLOTS 2, .secure, 0x10000 ||| BitVec.ofNat 32
      (1 * 2 ^ F.TST_RPL_CTRL_MODE.lo), ?_, ?_, ?_, ?_, ?_⟩,
    ⟨svc |>.put F.TST_RPL_STAT_BUSY 0 |>.wr R.TST_RPL_BASE 0x10000000 |>.put F.TST_RPL_LEN_SLOTS 2, .secure, 0x10000 ||| BitVec.ofNat 32
      (2 * 2 ^ F.TST_RPL_CTRL_MODE.lo), ?_, ?_, ?_, ?_, ?_⟩,
    ⟨svc |>.modTst (fun t => { t with rpl := .armedRecord }), .secure, 0, ?_, ?_, ?_⟩,
    ⟨svc |>.modTst (fun t => { t with rpl := .recording }), .secure, 0, ?_, ?_, ?_⟩,
    ⟨(svc.car0 0) |>.modTst (fun t => { t with rpl := .armedRecord }), ?_, ?_⟩,
    ⟨(svc.car0 0) |>.modTst (fun t => { t with rpl := .armedReplay }), ?_, ?_⟩,
    ⟨svc |>.modTst (fun t => { t with rpl := .armedReplay, valleys := 32 }), ?_, ?_, ?_⟩,
    ⟨svc |>.modTst (fun t => { t with rpl := .recording }) |>.modAcq (fun a => { a with slotAt := some 0 }) |>.wr R.TST_RPL_CTRL 0x10000
      |>.wr R.TST_RPL_BASE 0x10000000 |>.put F.TST_RPL_LEN_SLOTS 2, ?_, ?_, ?_, ?_, ?_⟩,
    ⟨svc |>.modTst (fun t => { t with rpl := .replaying }) |>.modAcq (fun a => { a with slotAt := some 0 }) |>.wr R.TST_RPL_CTRL 0x10000
      |>.wr R.TST_RPL_BASE 0x10000000 |>.put F.TST_RPL_LEN_SLOTS 2, by decide +kernel, by decide +kernel, by decide +kernel, by
      decide +kernel, by decide +kernel, by decide +kernel, by decide +kernel, regions_off (by decide +kernel), by decide +kernel⟩,
    ⟨dev |>.modTst (fun t => { t with rpl := .replaying }) |>.wr R.TST_RPL_CTRL 0x80000000, 15, ?_, ?_⟩,
    ⟨dev |>.modTst (fun t => { t with rpl := .recording, slot0 := 1 }) |>.put F.TST_RPL_POS_POS 1 |>.put F.TST_RPL_LEN_SLOTS 1 |>.atCount
      32, ?_, ?_, ?_, ?_, ?_, ?_, ?_, ?_⟩⟩
    <;> first | decide +kernel | (constructor <;> decide +kernel)

theorem test_hyps_conversions_and_their_intake :
    (∃ (s : State), s.coreRuns = true ∧ s.count % 32 = 0 ∧ s.acq.slotAt ≠ some s.count ∧ s.acq.running = false ∧ s.spareState = 5) ∧
    (∃ (s : State) (n : Fin 16), s.Shaped ∧ s.coreRuns = true ∧ s.count % 32 = 0 ∧ s.acq.slotAt ≠ some s.count ∧ s.acq.running = true ∧
      s.acq.stopping = false ∧ s.spareState = 5 ∧ s.on F.ACQ_STAT_CAL_DONE = true ∧ s.inService = false ∧ s.replayHolds = false ∧
      s.stampsBad = false ∧ (∀ m : Fin 16, m ≠ n → s.get (F.ACQ_SLCn_MODE m) = 0) ∧ s.get (F.ACQ_SLCn_MODE n) = 1 ∧ s.get
      (F.ACQ_SLCn_CHAN n) ≤ 95 ∧ s.pairOn (s.get (F.ACQ_SLCn_CHAN n) / 2) = false ∧ s.on (F.ACQ_CHc_CORR (s.get (F.ACQ_SLCn_CHAN n))) =
      false ∧ s.get (F.ACQ_CHc_AVG (s.get (F.ACQ_SLCn_CHAN n))) = 0 ∧ s.get (F.ACQ_CHc_OW (s.get (F.ACQ_SLCn_CHAN n))) = 0) ∧
    (∃ (s : State) (v : Conv) (rest : List Conv), s.Shaped ∧ s.coreRuns = true ∧ s.acq.flight = v :: rest ∧ s.due v.due = true ∧ v.slice
      < 16) ∧
    (∃ (s : State) (v : Conv) (rest : List Conv), s.coreRuns = true ∧ s.acq.flight = v :: rest ∧ s.due v.due = true ∧ v.slice < 16 ∧
      v.chan < 96) ∧
    (∃ (s : State), s.sys.phase = .run) := by
  refine ⟨⟨dev |>.put F.ACQ_STAT_SPARE_STATE 5, ?_, ?_, ?_, ?_, ?_⟩,
    ⟨dev |>.put F.ACQ_STAT_SPARE_STATE 5 |>.put F.ACQ_STAT_CAL_DONE 1 |>.put (F.ACQ_SLCn_MODE 1) 1 |>.put (F.ACQ_SLCn_MODE 1) 1 |>.modAcq
      (fun a => { a with running := true }) |>.put (F.ACQ_SLCn_CHAN 1) 95, 1,
      (by constructor <;> first | decide +kernel | (constructor <;> decide +kernel)), ?_, ?_, ?_, ?_, ?_, ?_, ?_, ?_, ?_, ?_, ?_, ?_, ?_,
      ?_, ?_, ?_, ?_⟩,
    ⟨dev |>.modAcq (fun a =>
      { a with flight := [{ slice := 15, stamp := 0, due := 40, chan := 95, value := 7, diff := false, opened := false, bad := false, spare := false }] })
      |>.atCount 40,
      { slice := 15, stamp := 0, due := 40, chan := 95, value := 7, diff := false, opened := false, bad := false, spare := false }, [],
      (by constructor <;> first | decide +kernel | (constructor <;> decide +kernel)), ?_, ?_, ?_, ?_⟩,
    ⟨dev |>.modAcq (fun a =>
      { a with flight := [{ slice := 15, stamp := 0, due := 40, chan := 95, value := 7, diff := false, opened := false, bad := false, spare := false }] })
      |>.atCount 40,
      { slice := 15, stamp := 0, due := 40, chan := 95, value := 7, diff := false, opened := false, bad := false, spare := false }, [],
      ?_, ?_, ?_, ?_, ?_⟩,
    ⟨dev, ?_⟩⟩
    <;> first | decide +kernel | (constructor <;> decide +kernel)

theorem test_hyps_acquisition_and_the_spare :
    (∃ (s : State) (w : World) (v : Word), s.accepts w R.ACQ_CTRL (v ||| 1) ∧ s.on F.ACQ_CTRL_EN = false) ∧
    (∃ (s : State), s.Shaped ∧ s.acq.armed = true ∧ s.on F.ACQ_STAT_CAL_DONE = true ∧ s.syncInstant s.acq.valleySeen = true) ∧
    (∃ (s : State), s.Shaped ∧ s.coreRuns = true ∧ s.acq.running = true ∧ s.acq.stopping = true ∧ s.count % 32 = 0) ∧
    (∃ (s : State), s.cfg.waiting = none ∧ (∀ b : Bool, s.syncInstant b = true)) ∧
    (∃ (s : State), s.coreRuns = true ∧ s.on F.ACQ_STAT_CAL_DONE = false ∧ 16256 ≤ s.acq.spare.slots ∧ s.spareState = 0 ∧ s.on
      F.ACQ_SPARE_EN = true) ∧
    (∃ (s : State), s.spareState = 1 ∧ 1024 ≤ s.acq.spare.blockSlots ∧ s.acq.spare.d.natAbs ≤ 64 * max 1 (s.get F.ACQ_SPARE_TOL)) ∧
    (∃ (s : State), s.spareState = 1 ∧ 1024 ≤ s.acq.spare.blockSlots ∧ 64 * max 1 (s.get F.ACQ_SPARE_TOL) < s.acq.spare.d.natAbs ∧
      s.acq.spare.fails + 1 < max 1 (s.get F.ACQ_SPARE_TRIES)) ∧
    (∃ (s : State), s.spareState = 3 ∧ 1024 ≤ s.acq.spare.blockSlots ∧ s.spareSlice < 16 ∧ s.acq.spare.d.natAbs ≤ 64 * max 1 (s.get
      F.ACQ_SPARE_TOL) ∧ s.on F.ACQ_SPARE_EN = true) ∧
    (∃ (s : State), s.spareState = 2 ∧ s.on F.ACQ_STAT_SLICE_FAULT = false ∧ 16256 ≤ s.acq.spare.slots ∧ s.sliceActive s.spareSlice =
      true) ∧
    (∃ (s : State), s.spareState = 2 ∧ s.on F.ACQ_STAT_SLICE_FAULT = false ∧ 16256 ≤ s.acq.spare.slots) ∧
    (∃ (s : State) (n : Fin 16), s.Shaped ∧ 1024 ≤ (s.slice n).decay) ∧
    (∃ (s : State), s.coreRuns = true ∧ s.spareState = 4 ∧ 2048 ≤ s.acq.spare.slots ∧ s.on F.ACQ_SPARE_EN = true) ∧
    (∃ (s : State) (w : World) (v : Word), s.accepts w R.ACQ_SPARE v ∧ (bitAt v 0 = false ∨ s.on F.ACQ_SPARE_EN = true ∨ s.spareState ≠ 5
      ∨ s.on F.ACQ_STAT_SPARE_FAULT = true)) ∧
    (∃ (s : State) (w : World) (v : Word), s.accepts w R.ACQ_SPARE v ∧ bitAt v 0 = true ∧ s.on F.ACQ_SPARE_EN = false ∧ s.spareState = 5
      ∧ s.on F.ACQ_STAT_SPARE_FAULT = false ∧ s.acq.spare.next < 16) := by
  refine ⟨⟨svc |>.put F.ACQ_CTRL_EN 0, .secure, 0, ?_, ?_⟩,
    ⟨dev |>.put F.ACQ_STAT_CAL_DONE 1 |>.modAcq (fun a => { a with armed := true }),
      (by constructor <;> first | decide +kernel | (constructor <;> decide +kernel)), ?_, ?_, ?_⟩,
    ⟨dev |>.modAcq (fun a => { a with running := true, stopping := true }),
      (by constructor <;> first | decide +kernel | (constructor <;> decide +kernel)), ?_, ?_, ?_, ?_⟩,
    ⟨dev, ?_, ?_⟩,
    ⟨dev |>.put F.ACQ_STAT_CAL_DONE 0 |>.put F.ACQ_STAT_SPARE_STATE 0 |>.put F.ACQ_SPARE_EN 1 |>.modSpare (fun a =>
      { a with slots := 16256 }), ?_, ?_, ?_, ?_, ?_⟩,
    ⟨dev |>.put F.ACQ_STAT_SPARE_STATE 1 |>.modSpare (fun a => { a with blockSlots := 1024, d := -64 }) |>.put F.ACQ_SPARE_TOL 1, ?_, ?_,
      ?_⟩,
    ⟨dev |>.put F.ACQ_STAT_SPARE_STATE 1 |>.modSpare (fun a => { a with blockSlots := 1024, d := 65 }) |>.put F.ACQ_SPARE_TOL 1 |>.put
      F.ACQ_SPARE_TRIES 2, ?_, ?_, ?_, ?_⟩,
    ⟨dev |>.put F.ACQ_STAT_SPARE_STATE 3 |>.put F.ACQ_SPARE_EN 1 |>.modSpare (fun a => { a with blockSlots := 1024, d := -64 }) |>.put
      F.ACQ_SPARE_TOL 1 |>.put F.ACQ_SPARE_EN 1, ?_, ?_, ?_, ?_, ?_⟩,
    ⟨dev |>.put F.ACQ_STAT_SPARE_STATE 2 |>.put F.ACQ_STAT_SLICE_FAULT 0 |>.modSpare (fun a => { a with slots := 16256 }) |>.put
      (F.ACQ_SLCn_MODE 0) 2, ?_, ?_, ?_, ?_⟩,
    ⟨dev |>.put F.ACQ_STAT_SPARE_STATE 2 |>.put F.ACQ_STAT_SLICE_FAULT 0 |>.modSpare (fun a => { a with slots := 16256 }), ?_, ?_, ?_⟩,
    ⟨dev |>.modSlice 15 (fun x => { x with decay := 1024 }), 15,
      (by constructor <;> first | decide +kernel | (constructor <;> decide +kernel)), ?_⟩,
    ⟨dev |>.put F.ACQ_STAT_SPARE_STATE 4 |>.put F.ACQ_SPARE_EN 1 |>.modSpare (fun a => { a with slots := 2048 }), ?_, ?_, ?_, ?_⟩,
    ⟨svc |>.put F.ACQ_SPARE_EN 1, .secure, 1, ?_, ?_⟩,
    ⟨svc |>.put F.ACQ_SPARE_EN 0 |>.put F.ACQ_STAT_SPARE_STATE 5 |>.put F.ACQ_STAT_SPARE_FAULT 0 |>.modSpare (fun a =>
      { a with next := 15 }), .secure, 1, ?_, ?_, ?_, ?_, ?_, ?_⟩⟩
    <;> first | decide +kernel | (constructor <;> decide +kernel)

theorem test_hyps_windows_snapshots_and_streams :
    (∃ (s : State) (w : Fin 64), s.Shaped ∧ s.winOn w = true ∧ s.carRunning (s.get (F.PRISM_WINw_CFG_CAR w)) = true ∧ (s.prismWin
      w).open_ = none ∧ s.openedNow w = false ∧ s.atPhase (s.get (F.PRISM_WINw_CFG_CAR w)) (s.get (F.PRISM_WINw_PH_START w)) = true) ∧
    (∃ (s : State) (w : Fin 64) (acc : WinAcc), s.Shaped ∧ s.coreRuns = true ∧ (s.prismWin w).open_ = some acc ∧ s.atPhase (s.get
      (F.PRISM_WINw_CFG_CAR w)) (s.get (F.PRISM_WINw_PH_END w)) = true ∧ acc.openAt ≤ s.count ∧ (s.get (F.PRISM_WINw_PH_START w) < s.get
      (F.PRISM_WINw_PH_END w) → acc.valley = (s.car (s.get (F.PRISM_WINw_CFG_CAR w))).valley.toNat) ∧ (¬ s.get (F.PRISM_WINw_PH_START w)
      < s.get (F.PRISM_WINw_PH_END w) → acc.valley < (s.car (s.get (F.PRISM_WINw_CFG_CAR w))).valley.toNat)) ∧
    (∃ (s : State) (w : Fin 64) (acc : WinAcc), s.Shaped ∧ s.coreRuns = true ∧ (s.prismWin w).closed = some acc ∧ s.due (acc.closeAt +
      64) = true) ∧
    (∃ (s : State) (w : World) (v : Word), s.accepts w R.PRISM_SNAP_CTRL (v ||| 0x100)) ∧
    (∃ (s : State), s.coreRuns = true ∧ s.count % 12500 = 0 ∧ s.prism.interval < s.count / 12500) ∧
    (∃ (s : State) (e : Nat) (k : Fin 40), s.coreRuns = true ∧ s.prism.ended = some e ∧ s.due (e + 64) = true ∧ s.on (F.PRISM_STRk_EN k)
      = true) := by
  refine ⟨⟨(dev.car0 0) |>.put (F.PRISM_WINw_CFG_EN 63) 1 |>.modPrism (fun p => { p with active := true }), 63,
      (by constructor <;> first | decide +kernel | (constructor <;> decide +kernel)), ?_, ?_, ?_, ?_, ?_⟩,
    ⟨(dev.car0 0) |>.put (F.PRISM_WINw_PH_END 63) 0x8000 |>.modPrismWin 63 (fun x =>
      { x with open_ := some { openAt := 0, valley := 0 } }) |>.atCount 500, 63, { openAt := 0, valley := 0 },
      (by constructor <;> first | decide +kernel | (constructor <;> decide +kernel)), ?_, ?_, ?_, ?_, ?_, ?_⟩,
    ⟨dev |>.modPrismWin 63 (fun x => { x with closed := some { openAt := 0, valley := 0 } }) |>.atCount 64, 63,
      { openAt := 0, valley := 0 }, (by constructor <;> first | decide +kernel | (constructor <;> decide +kernel)), ?_, ?_, ?_⟩,
    ⟨svc, .secure, 0, ?_⟩,
    ⟨dev |>.atCount 12500, ?_, ?_, ?_⟩,
    ⟨dev |>.put (F.PRISM_STRk_EN 39) 1 |>.modPrism (fun p => { p with ended := some 0 }) |>.atCount 64, 0, 39, ?_, ?_, ?_, ?_⟩⟩
    <;> first | decide +kernel | (constructor <;> decide +kernel)

theorem test_hyps_weathervane_samples :
    (∃ (s : State), s.coreRuns = true ∧ s.count % 5000 = 0 ∧ s.wvn.interval < s.count / 5000 ∧ s.Shaped) ∧
    (∃ (s : State) (e : Nat), s.Shaped ∧ s.coreRuns = true ∧ s.wvn.ended = some e ∧ s.due (e + 2048) = true) := by
  refine ⟨⟨dev |>.atCount 5000, ?_, ?_, ?_, (by constructor <;> first | decide +kernel | (constructor <;> decide +kernel))⟩,
    ⟨(dev.set0 3) |>.atCount 2048 |> fun s => { s with wvn := { s.wvn with ended := some 0 } }, 0,
      (by constructor <;> first | decide +kernel | (constructor <;> decide +kernel)), ?_, ?_, ?_⟩⟩
    <;> first | decide +kernel | (constructor <;> decide +kernel)

theorem test_hyps_lock_jump_and_the_shadow :
    (∃ (s : State) (k : Fin 4), s.setOn k = true ∧ s.on (F.WVN_SETs_STAT_LOCKED k) = false ∧ s.lockN k ≤ (s.wset k).lockRun ∧ s.on
      (F.WVN_SETs_STAT_RANGE k) = false) ∧
    (∃ (s : State) (k : Fin 4), s.Shaped ∧ s.setOn k = true ∧ s.on (F.WVN_SETs_STAT_LOCKED k) = true ∧ (s.lockN k + 3) / 4 ≤ (s.wset
      k).unlockRun) ∧
    (∃ (s : State) (k : Fin 4), s.Shaped ∧ s.setOn k = true ∧ s.on (F.WVN_SETs_STAT_VALID k) = true ∧ max 1 (s.get (F.WVN_SETs_CFG_LOSS_N
      k)) ≤ (s.wset k).lossRun) ∧
    (∃ (s : State) (k : Fin 4), s.Shaped ∧ s.setOn k = true ∧ (s.wset k).jumpArmed = true ∧ s.jumpN k ≤ (s.wset k).jumpRun) ∧
    (∃ (s : State) (w : World) (k : Fin 4) (v : Word), s.accepts w (R.WVN_SETs_SHD k) (v ||| 0x10000) ∧ s.on (F.WVN_SETs_STAT_ISLAND k) =
      false ∧ s.on (F.WVN_SETs_STAT_LOCKED k) = true ∧ (s.get (F.WVN_SETs_STAT_SHD k) = 1 ∨ s.get (F.WVN_SETs_STAT_SHD k) = 2)) ∧
    (∃ (s : State) (w : World) (k : Fin 4) (v : Word), s.accepts w (R.WVN_SETs_SHD k) (v ||| 0x10000) ∧ (s.on (F.WVN_SETs_STAT_ISLAND k)
      = true ∨ s.on (F.WVN_SETs_STAT_LOCKED k) = false)) ∧
    (∃ (s : State) (k : Fin 4), s.setOn k = true ∧ s.get (F.WVN_SETs_STAT_SHD k) = 3 ∧ s.lockN k ≤ (s.wset k).resyncRun ∧ s.anyPickup k =
      false ∧ s.get (F.WVN_SETs_STAT_FRT k) = 0) ∧
    (∃ (s : State) (k : Fin 4), s.setOn k = true ∧ s.on (F.WVN_SETs_STAT_PU_VS k) = true ∧ (s.wset k).vsEnd ≤ (s.wset k).lastEnd) := by
  refine ⟨⟨dev |>.set0 3 |>.put (F.WVN_SETs_STAT_LOCKED 3) 0 |>.put (F.WVN_SETs_STAT_RANGE 3) 0 |>.put (F.WVN_SETs_LOCK_LOCK_N 3) 2 |>.modSet 3
      (fun x => { x with lockRun := 2 }), 3, ?_, ?_, ?_, ?_⟩,
    ⟨dev |>.set0 3 |>.put (F.WVN_SETs_STAT_LOCKED 3) 1 |>.put (F.WVN_SETs_LOCK_LOCK_N 3) 2 |>.modSet 3 (fun x =>
      { x with unlockRun := 1 }), 3, (by constructor <;> first | decide +kernel | (constructor <;> decide +kernel)), ?_, ?_, ?_⟩,
    ⟨dev |>.set0 3 |>.put (F.WVN_SETs_STAT_VALID 3) 1 |>.put (F.WVN_SETs_CFG_LOSS_N 3) 0 |>.modSet 3 (fun x => { x with lossRun := 1 }),
      3, (by constructor <;> first | decide +kernel | (constructor <;> decide +kernel)), ?_, ?_, ?_⟩,
    ⟨dev |>.set0 3 |>.modSet 3 (fun x => { x with jumpRun := 1000 }), 3,
      (by constructor <;> first | decide +kernel | (constructor <;> decide +kernel)), ?_, ?_, ?_⟩,
    ⟨svc |>.put (F.WVN_SETs_STAT_ISLAND 3) 0 |>.put (F.WVN_SETs_STAT_LOCKED 3) 1 |>.put (F.WVN_SETs_STAT_SHD 3) 2, .secure, 3, svc.rd
      (R.WVN_SETs_SHD 3), ?_, ?_, ?_, ?_⟩,
    ⟨svc, .secure, 3, svc.rd (R.WVN_SETs_SHD 3), ?_, ?_⟩,
    ⟨dev |>.set0 3 |>.put (F.WVN_SETs_STAT_SHD 3) 3 |>.put (F.WVN_SETs_STAT_FRT 3) 0 |>.put (F.WVN_SETs_LOCK_LOCK_N 3) 2 |>.modSet 3 (fun
      x => { x with resyncRun := 2 }), 3, ?_, ?_, ?_, ?_, ?_⟩,
    ⟨dev |>.set0 3 |>.put (F.WVN_SETs_STAT_PU_VS 3) 1, 3, ?_, ?_, ?_⟩⟩
    <;> first | decide +kernel | (constructor <;> decide +kernel)

theorem test_hyps_islanding_and_ride_through :
    (∃ (s : State) (k : Fin 4), s.setOn k = true ∧ s.on (F.WVN_SETs_STAT_ISLAND k) = false ∧ s.islandCause k ≠ 0) ∧
    (∃ (s : State) (w : World) (k : Fin 4) (v : Word), s.accepts w (R.WVN_SETs_ISLA k) (v ||| 0x100) ∧ s.anyPickup k = false) ∧
    (∃ (s : State) (w : World) (k : Fin 4) (v : Word), s.accepts w (R.WVN_SETs_ISLA k) (v ||| 0x100) ∧ s.anyPickup k = true) ∧
    (∃ (s : State) (k : Fin 4), s.Shaped ∧ s.setOn k = true ∧ s.on (F.WVN_SETs_ISLA_USE_ACT k) = true ∧ (s.wset k).wraps < s.injWraps k) ∧
    (∃ (s : State) (k : Fin 4), s.frtWorks k = true ∧ (s.wset k).sampleValid = true ∧ s.get (F.WVN_SETs_STAT_FRT k) = 0 ∧ s.detN k ≤
      (s.wset k).frtOut) ∧
    (∃ (s : State) (k : Fin 4), s.frtWorks k = true ∧ (s.wset k).sampleValid = true ∧ (s.get (F.WVN_SETs_STAT_FRT k) = 1 ∨ s.get
      (F.WVN_SETs_STAT_FRT k) = 2) ∧ s.breach k = true) ∧
    (∃ (s : State) (k : Fin 4), s.frtWorks k = true ∧ s.get (F.WVN_SETs_STAT_FRT k) = 1 ∧ s.confirmed k = true ∧ ((s.wset k).sampleValid
      = false ∨ s.breach k = false)) ∧
    (∃ (s : State) (k : Fin 4), s.frtWorks k = true ∧ s.get (F.WVN_SETs_STAT_FRT k) = 3 ∧ (s.wset k).frtEntry + 400000 * s.get
      (F.WVN_SETs_FRT2_REC_TIME k) ≤ (s.wset k).lastEnd) ∧
    (∃ (s : State) (w : World) (k : Fin 4) (v : Word), s.accepts w (R.WVN_SETs_FRT k) (v ||| 4) ∧ bitAt v 0 = true ∧ s.get
      (F.WVN_SETs_STAT_FRT k) = 4 ∧ perUnit (s.get (F.WVN_SETs_FRTR_LO k)) ≤ singleRat (s.wset k).vmag ∧ singleRat (s.wset k).vmag ≤
      perUnit (s.get (F.WVN_SETs_FRTR_HI k))) ∧
    (∃ (s : State) (w : World) (k : Fin 4) (v : Word), s.accepts w (R.WVN_SETs_FRT k) (v ||| 4) ∧ bitAt v 0 = true ∧ s.get
      (F.WVN_SETs_STAT_FRT k) = 4 ∧ perUnit (s.get (F.WVN_SETs_FRTR_HI k)) < singleRat (s.wset k).vmag) ∧
    (∃ (s : State) (w : World) (k : Fin 4) (v : Word), s.accepts w (R.WVN_SETs_FRT k) (v ||| 4) ∧ bitAt v 0 = true ∧ s.get
      (F.WVN_SETs_STAT_FRT k) = 4 ∧ singleRat (s.wset k).vmag < perUnit (s.get (F.WVN_SETs_FRTR_LO k))) ∧
    (∃ (s : State) (w : World) (k : Fin 4) (v : Word), s.accepts w (R.WVN_SETs_FRT k) (v &&& 0xFFFFFFFE) ∧ bitAt v 2 = false ∧ s.on
      (F.WVN_SETs_FRT_EN k) = true) := by
  refine ⟨⟨dev |>.set0 3 |>.put (F.WVN_SETs_STAT_ISLAND 3) 0 |>.put (F.WVN_SETs_STAT_PU_ACT 3) 1, 3, ?_, ?_, ?_⟩,
    ⟨svc, .secure, 3, 0, ?_, ?_⟩,
    ⟨svc |>.put (F.WVN_SETs_STAT_PU_ACT 3) 1, .secure, 3, 0, ?_, ?_⟩,
    ⟨dev |>.set0 3 |>.put (F.WVN_SETs_ISLA_USE_ACT 3) 1 |>.atCount 1600000000, 3,
      (by constructor <;> first | decide +kernel | (constructor <;> decide +kernel)), ?_, ?_, ?_⟩,
    ⟨dev |>.set0 3 |>.put (F.WVN_SETs_STAT_FRT 3) 0 |>.put (F.WVN_SETs_FRT_EN 3) 1 |>.modSet 3 (fun x =>
      { x with sampleValid := true, frtOut := 1000 }), 3, ?_, ?_, ?_, ?_⟩,
    ⟨dev |>.set0 3 |>.put (F.WVN_SETs_FRT_EN 3) 1 |>.put (F.WVN_SETs_STAT_FRT 3) 2 |>.modSet 3 (fun x =>
      { x with sampleValid := true, onset := some 0, lastEnd := 400000000000 }), 3, ?_, ?_, ?_, ?_⟩,
    ⟨dev |>.set0 3 |>.put (F.WVN_SETs_STAT_FRT 3) 1 |>.put (F.WVN_SETs_FRT_EN 3) 1 |>.modSet 3 (fun x =>
      { x with lastEnd := 400000000 }), 3, ?_, ?_, ?_, ?_⟩,
    ⟨dev |>.set0 3 |>.put (F.WVN_SETs_STAT_FRT 3) 3 |>.put (F.WVN_SETs_FRT_EN 3) 1 |>.modSet 3 (fun x =>
      { x with lastEnd := 400000000 }), 3, ?_, ?_, ?_⟩,
    ⟨svc |>.put (F.WVN_SETs_STAT_FRT 3) 4 |>.modSet 3 (fun x => { x with vmag := 0x3F800000 }), .secure, 3, 1, ?_, ?_, ?_, ?_, ?_⟩,
    ⟨svc |>.put (F.WVN_SETs_STAT_FRT 3) 4 |>.modSet 3 (fun x => { x with vmag := 0x7F000000 }), .secure, 3, 1, ?_, ?_, ?_, ?_⟩,
    ⟨svc |>.put (F.WVN_SETs_STAT_FRT 3) 4, .secure, 3, 1, ?_, ?_, ?_, ?_⟩,
    ⟨svc |>.put (F.WVN_SETs_FRT_EN 3) 1, .secure, 3, 0, ?_, ?_, ?_⟩⟩
    <;> first | decide +kernel | (constructor <;> decide +kernel)

theorem test_hyps_maximum_power_point :
    (∃ (s : State) (m : Fin 8) (u : Nat), s.Shaped ∧ s.mppAtValley m = true ∧ s.ditherLast m = true ∧ (s.mpp m).doneAt ≠ some s.count ∧
      (s.mpp m).prevValley = some u) ∧
    (∃ (s : State) (m : Fin 8) (u : Nat) (kg v : Rat) (n n' : Bool), let x := (s.mppGather m ((s.mpp m).taken u)).mpp m;
      let low := toSingle (x.sumLow / (x.cntLow : Rat)); let high := toSingle (x.sumHigh / (x.cntHigh : Rat));
      let g := toSingle (singleRat high - singleRat low); s.Shaped ∧ s.mppAtValley m = true ∧ s.ditherLast m = true ∧ (s.mpp m).doneAt ≠
      some s.count ∧ (s.mpp m).prevValley = some u ∧ s.get (F.WVN_MPPm_VLIM_LO m) ≤ s.get (F.WVN_MPPm_VLIM_HI m) ∧ x.cntLow ≠ 0 ∧
      x.cntHigh ≠ 0 ∧ ofSingle (roundSingle ((ofSingle (s.rd (R.WVN_MPPm_K m))).mul (ofSingle g))).1 = .fin kg n ∧ ofSingle x.vref = .fin
      v n') ∧
    (∃ (s : State) (m : Fin 8) (u : Nat), s.Shaped ∧ (s.mpp m).doneAt ≠ some s.count ∧ (s.mpp m).prevValley = some u ∧ (s.mpp m).scan =
      none ∧ s.on (F.WVN_MPPm_CFG_HOLD m) = false ∧ (s.mpp m).high = false ∧ s.mppHalf m ≤ (s.mpp m).idx + 1) ∧
    (∃ (s : State) (w : World) (m : Fin 8) (v : Word), s.Shaped ∧ s.accepts w (R.WVN_MPPm_CFG m) (v ||| 0x4000000)) ∧
    (∃ (s : State) (m : Fin 8) (u j : Nat), s.Shaped ∧ s.mppAtValley m = true ∧ s.scanLast m = true ∧ (s.mpp m).scan = some j ∧ (s.mpp
      m).doneAt ≠ some s.count ∧ (s.mpp m).prevValley = some u ∧ j < 63) ∧
    (∃ (s : State) (m : Fin 8) (u j : Nat), s.Shaped ∧ s.mppAtValley m = true ∧ s.scanLast m = true ∧ (s.mpp m).scan = some j ∧ (s.mpp
      m).doneAt ≠ some s.count ∧ (s.mpp m).prevValley = some u ∧ 63 ≤ j) := by
  refine ⟨⟨(dev.car0 0) |>.put (F.WVN_MPPm_TIM_HALF 7) 3 |>.modMpp 7 (fun x => { x with high := true, idx := 2, prevValley := some 0 }) |>.put
      (F.WVN_MPPm_CFG_CAR 7) 0 |>.atCount 1000 |> fun s => { s with wvn := { s.wvn with active := 0x8000 } }, 7, 0,
      (by constructor <;> first | decide +kernel | (constructor <;> decide +kernel)), ?_, ?_, ?_, ?_⟩,
    ⟨(dev.car0 0) |>.put (F.WVN_MPPm_TIM_HALF 7) 3 |>.modMpp 7 (fun x =>
      { x with high := true, sumLow := 1, cntLow := 1, sumHigh := 1, cntHigh := 1, idx := 2, prevValley := some 0 }) |>.put
      (F.WVN_MPPm_CFG_CAR 7) 0 |>.atCount 1000 |> fun s => { s with wvn := { s.wvn with active := 0x8000 } }, 7, 0, 0, 0, false, false,
      (by constructor <;> first | decide +kernel | (constructor <;> decide +kernel)), ?_, ?_, ?_, ?_, ?_, ?_, ?_, ?_, ?_⟩,
    ⟨dev |>.put (F.WVN_MPPm_CFG_HOLD 7) 0 |>.put (F.WVN_MPPm_TIM_HALF 7) 3 |>.modMpp 7 (fun x =>
      { x with idx := 2, prevValley := some 0 }) |>.put (F.WVN_MPPm_CFG_CAR 7) 0 |>.atCount 1000 |> fun s =>
      { s with wvn := { s.wvn with active := 0x8000 } }, 7, 0,
      (by constructor <;> first | decide +kernel | (constructor <;> decide +kernel)), ?_, ?_, ?_, ?_, ?_, ?_⟩,
    ⟨svc, .secure, 7, 0, (by constructor <;> first | decide +kernel | (constructor <;> decide +kernel)), ?_⟩,
    ⟨(dev.car0 0) |>.put (F.WVN_MPPm_TIM_DWELL 7) 3 |>.modMpp 7 (fun x => { x with scan := some 62, idx := 2, prevValley := some 0 })
      |>.put (F.WVN_MPPm_CFG_CAR 7) 0 |>.atCount 1000 |> fun s => { s with wvn := { s.wvn with active := 0x8000 } }, 7, 0, 62,
      (by constructor <;> first | decide +kernel | (constructor <;> decide +kernel)), ?_, ?_, ?_, ?_, ?_, ?_⟩,
    ⟨(dev.car0 0) |>.put (F.WVN_MPPm_TIM_DWELL 7) 3 |>.modMpp 7 (fun x => { x with scan := some 63, idx := 2, prevValley := some 0 })
      |>.put (F.WVN_MPPm_CFG_CAR 7) 0 |>.atCount 1000 |> fun s => { s with wvn := { s.wvn with active := 0x8000 } }, 7, 0, 63,
      (by constructor <;> first | decide +kernel | (constructor <;> decide +kernel)), ?_, ?_, ?_, ?_, ?_, ?_⟩⟩
    <;> first | decide +kernel | (constructor <;> decide +kernel)

theorem test_hyps_carrier_instants :
    (∃ (s : State) (c : Fin 8), s.Shaped ∧ s.carRunning c = true ∧ s.carPeriod c ≤ s.carElapsed c ∧ s.on (F.LOOM_CARc_EN c) = true) ∧
    (∃ (s : State) (c : Fin 8), s.Shaped ∧ s.carRunning c = true ∧ (s.car c).peaked = false ∧ s.carPeriod c ≤ 2 * s.carElapsed c ∧
      s.carElapsed c < s.carPeriod c) ∧
    (∃ (s : State) (c : Fin 8), s.Shaped ∧ s.carRunning c = true ∧ (s.car c).committed = false ∧ s.commitCycle c ≤ s.carElapsed c) ∧
    (∃ (s : State) (c : Fin 8), s.Shaped ∧ s.coreRuns = true ∧ s.carState c = 1 ∧ (s.car c).startAt.toNat ≤ s.count ∧ s.carPhaseHit c =
      true) := by
  refine ⟨⟨(dev.car0 7) |>.put (F.LOOM_CARc_EN 7) 1 |>.atCount 1000, 7,
      (by constructor <;> first | decide +kernel | (constructor <;> decide +kernel)), ?_, ?_, ?_⟩,
    ⟨(dev.car0 7) |>.modCar 7 (fun x => { x with peaked := false }) |>.atCount 500, 7,
      (by constructor <;> first | decide +kernel | (constructor <;> decide +kernel)), ?_, ?_, ?_, ?_⟩,
    ⟨(dev.car0 7) |>.modCar 7 (fun x => { x with committed := false }) |>.atCount 999, 7,
      (by constructor <;> first | decide +kernel | (constructor <;> decide +kernel)), ?_, ?_, ?_⟩,
    ⟨dev |>.put (F.LOOM_CSTATc_STATE 7) 1, 7, (by constructor <;> first | decide +kernel | (constructor <;> decide +kernel)), ?_, ?_, ?_,
      ?_⟩⟩
    <;> first | decide +kernel | (constructor <;> decide +kernel)

theorem test_hyps_loom_writes :
    (∃ (s : State) (w : World) (c : Fin 8) (v : Word), s.Shaped ∧ s.accepts w (R.LOOM_CARc c) v ∧ bitAt v 0 = true ∧ s.carState c = 0) ∧
    (∃ (s : State) (w : World) (c : Fin 8) (v : Word), s.Shaped ∧ s.accepts w (R.LOOM_CARc c) v ∧ bitAt v 0 = false ∧ s.carState c = 1) ∧
    (∃ (s : State) (w : World) (c : Fin 8) (v : Word), s.Shaped ∧ s.accepts w (R.LOOM_CARc c) v ∧ (s.carState c = 2 ∨ (bitAt v 0 = true ∧
      s.carState c = 1) ∨ (bitAt v 0 = false ∧ s.carState c = 0))) ∧
    (∃ (s : State) (w : World) (c : Fin 8) (v : Word), s.Shaped ∧ s.accepts w (R.LOOM_CARc c) v) ∧
    (∃ (s : State) (w : World) (l : Fin 24) (down : Bool) (v : Word), s.accepts w (if down then R.LOOM_LEGl_CMPD l else R.LOOM_LEGl_CMPU
      l) v) ∧
    (∃ (s : State) (w : World) (k : Fin 16) (v : Word), s.accepts w (R.LOOM_TLk_CFG k) v) ∧
    (∃ (s : State) (w : World) (k : Fin 16) (v : Word), s.accepts w (R.LOOM_TLk_MASK k) v) ∧
    (∃ (s : State) (k : Fin 16) (o : Word), s.Shaped ∧ s.pending = [] ∧ s.sys.phase = .run ∧ (R.LOOM_TLk_CFG k, o) ∈ s.cycle.old) ∧
    (∃ (s : State) (k : Fin 16) (o : Word), s.Shaped ∧ s.pending = [] ∧ s.sys.phase = .run ∧ (R.LOOM_TLk_MASK k, o) ∈ s.cycle.old ∧ (∀ x
      ∈ s.cycle.old, x.1 ≠ R.LOOM_TLk_CFG k) ∧ s.on (F.LOOM_TLk_STAT_LIVE k) = true ∧ s.on (F.LOOM_TLk_CFG_BLANKABLE k) = false) ∧
    (∃ (s : State) (w : World) (v : Word), s.accepts w R.LOOM_UNBLOCK v) ∧
    (∃ (s : State) (l : Fin 24), s.Shaped ∧ s.valleyNow (s.legCar l) = true ∧ s.on (F.LOOM_LEGl_STAT_PENDING l) = true) := by
  refine ⟨⟨svc |>.put (F.LOOM_CSTATc_STATE 7) 0 |>.put (F.LOOM_PERc_PER 7) 200, .secure, 7, 1,
      (by constructor <;> first | decide +kernel | (constructor <;> decide +kernel)), ?_, ?_, ?_⟩,
    ⟨svc |>.put (F.LOOM_CSTATc_STATE 7) 1, .secure, 7, 0, (by constructor <;> first | decide +kernel | (constructor <;> decide +kernel)),
      ?_, ?_, ?_⟩,
    ⟨svc, .secure, 1, 0, (by constructor <;> first | decide +kernel | (constructor <;> decide +kernel)), ?_, ?_⟩,
    ⟨svc, .secure, 1, 0, (by constructor <;> first | decide +kernel | (constructor <;> decide +kernel)), ?_⟩,
    ⟨svc, .secure, 23, true, 0xFFFFFFFF, ?_⟩,
    ⟨svc, .secure, 15, 0, ?_⟩,
    ⟨svc, .secure, 15, 0, ?_⟩,
    ⟨dev |>.atCount 0 |> fun s => { s with cycle := { old := [(R.LOOM_TLk_CFG 15, 0)] } }, 15, 0,
      (by constructor <;> first | decide +kernel | (constructor <;> decide +kernel)), ?_, ?_, ?_⟩,
    ⟨dev |>.put (F.LOOM_TLk_STAT_LIVE 15) 1 |>.put (F.LOOM_TLk_CFG_BLANKABLE 15) 0 |>.atCount 0 |> fun s =>
      { s with cycle := { old := [(R.LOOM_TLk_MASK 15, 0)] } }, 15, 0,
      (by constructor <;> first | decide +kernel | (constructor <;> decide +kernel)), ?_, ?_, ?_, ?_, ?_, ?_⟩,
    ⟨svc, .secure, 0, ?_⟩,
    ⟨(dev.car0 0) |>.put (F.LOOM_LEGl_STAT_PENDING 23) 1 |>.modCar 0 (fun x => { x with events := 1 }), 23,
      (by constructor <;> first | decide +kernel | (constructor <;> decide +kernel)), ?_, ?_⟩⟩
    <;> first | decide +kernel | (constructor <;> decide +kernel)

theorem test_hyps_pulses_and_their_policies :
    (∃ (s : State) (l : Fin 24) (p : Pulse) (e : Nat), s.Shaped ∧ (s.leg l).live = true ∧ s.legMay l = true ∧ (s.leg l).pulse = some p ∧
      p.emitted = true ∧ p.closeAt = some e ∧ s.edgeDue e = true) ∧
    (∃ (s : State), s.Shaped) ∧
    (∃ (s : State) (l : Fin 24) (high : Bool) (e : Nat), s.Shaped ∧ (if high then (s.leg l).onH else (s.leg l).onL) = some e ∧ s.edgeDue
      e = true ∧ (s.leg l).live = true ∧ (s.leg l).ref = high ∧ s.legMay l = true ∧ s.outputsAllowed = true) ∧
    (∃ (t0 t1 dt m : Nat), t1 - t0 - dt < m) ∧
    (∃ (t0 t1 dt m carry : Nat), t1 - t0 - dt + carry < m) ∧
    (∃ (t0 t1 dt m carry : Nat), m ≤ t1 - t0 - dt + carry) ∧
    (∃ (t0 t1 dt m : Nat), m ≤ t1 - t0 - dt) := by
  refine ⟨⟨(svc.car0 0) |>.put (F.LOOM_LEGl_CFG_EN 23) 1 |>.put (F.LOOM_LEGl_STAT_BLOCKED 23) 0 |>.modLeg 23 (fun x =>
      { x with live := true, pulse := some { high := true, openAt := 0, emitted := true, closeAt := some 64, moved := 0 } }) |>.atCount
      1, 23, { high := true, openAt := 0, emitted := true, closeAt := some 64, moved := 0 }, 64,
      (by constructor <;> first | decide +kernel | (constructor <;> decide +kernel)), ?_, ?_, ?_, ?_, ?_, ?_⟩,
    ⟨dev, (by constructor <;> first | decide +kernel | (constructor <;> decide +kernel))⟩,
    ⟨(svc.car0 0) |>.put (F.LOOM_LEGl_CFG_EN 23) 1 |>.put (F.LOOM_LEGl_STAT_BLOCKED 23) 0 |>.modLeg 23 (fun x =>
      { x with live := true, ref := true, onH := some 64 }) |>.atCount 1, 23, true, 64,
      (by constructor <;> first | decide +kernel | (constructor <;> decide +kernel)), ?_, ?_, ?_, ?_, ?_, ?_⟩,
    ⟨0, 9, 4, 6, ?_⟩,
    ⟨0, 9, 4, 6, 0, ?_⟩,
    ⟨0, 9, 4, 6, 1, ?_⟩,
    ⟨0, 9, 4, 5, ?_⟩⟩
    <;> first | decide +kernel | (constructor <;> decide +kernel)

theorem test_hyps_delay_lines_and_interlock :
    (∃ (s : State), (s.sys.phase = .boot ∨ s.sys.phase = .run)) ∧
    (∃ (s : State) (o : Fin 48), s.Shaped ∧ s.coreRuns = true ∧ s.dllMay o = true) ∧
    (∃ (s : State), s.Shaped ∧ s.sys.phase ≠ .keep) ∧
    (∃ (s : State), s.sys.phase ≠ .keep) := by
  refine ⟨⟨dev, ?_⟩,
    ⟨dev, 47, (by constructor <;> first | decide +kernel | (constructor <;> decide +kernel)), ?_, ?_⟩,
    ⟨dev, (by constructor <;> first | decide +kernel | (constructor <;> decide +kernel)), ?_⟩,
    ⟨dev, ?_⟩⟩
    <;> first | decide +kernel | (constructor <;> decide +kernel)

theorem test_hyps_trip_lines :
    (∃ (s : State) (k : Fin 8), s.Shaped ∧ s.coreRuns = true ∧ s.nowOn (F.LOOM_TLk_CFG_EN (8 + k)) = true ∧ s.on (F.LOOM_TLk_STAT_LIVE (8
      + k)) = false ∧ s.due ((s.tl (8 + k)).since + s.nowGet (F.LOOM_TLk_CFG_FILT (8 + k)) + 1) = true ∧ (k.val < 4 ∨ (s.tl (8 +
      k)).input = true) ∧ s.tlBlanked (8 + k) = false) ∧
    (∃ (s : State) (k : Fin 8), s.Shaped ∧ s.coreRuns = true ∧ s.nowOn (F.LOOM_TLk_CFG_EN (8 + k)) = true ∧ s.on (F.LOOM_TLk_STAT_LIVE (8
      + k)) = false ∧ s.due ((s.tl (8 + k)).since + s.nowGet (F.LOOM_TLk_CFG_FILT (8 + k)) + 1) = true ∧ (k.val < 4 ∨ (s.tl (8 +
      k)).input = true) ∧ s.tlBlanked (8 + k) = true) ∧
    (∃ (s : State) (k : Fin 8), s.Shaped ∧ k.val < 4) ∧
    (∃ (s : State) (k : Fin 8) (e : Nat), s.Shaped ∧ (s.tl (8 + k)).blankEnd = some e ∧ s.due e = true ∧ s.on (F.LOOM_TLk_STAT_LIVE (8 +
      k)) = true) ∧
    (∃ (s : State) (k : Fin 8) (e : Nat), s.Shaped ∧ (s.tl (8 + k)).blankEnd = some e ∧ s.due e = true ∧ s.on (F.LOOM_TLk_STAT_LIVE (8 +
      k)) = false) := by
  refine ⟨⟨dev |>.put (F.LOOM_TLk_CFG_EN (8 + 7)) 1 |>.put (F.LOOM_TLk_STAT_LIVE (8 + 7)) 0 |>.modTl 15 (fun x =>
      { x with input := true, blankEnd := some 99 }) |>.put (F.LOOM_TLk_CFG_BLANKABLE 15) 0 |>.atCount 98, 7,
      (by constructor <;> first | decide +kernel | (constructor <;> decide +kernel)), ?_, ?_, ?_, ?_, ?_, ?_⟩,
    ⟨dev |>.put (F.LOOM_TLk_CFG_EN (8 + 7)) 1 |>.put (F.LOOM_TLk_STAT_LIVE (8 + 7)) 0 |>.modTl 15 (fun x =>
      { x with input := true, blankEnd := some 99 }) |>.put (F.LOOM_TLk_CFG_BLANKABLE 15) 1 |>.atCount 98, 7,
      (by constructor <;> first | decide +kernel | (constructor <;> decide +kernel)), ?_, ?_, ?_, ?_, ?_, ?_⟩,
    ⟨dev, 3, (by constructor <;> first | decide +kernel | (constructor <;> decide +kernel)), ?_⟩,
    ⟨dev |>.put (F.LOOM_TLk_STAT_LIVE (8 + 7)) 1 |>.modTl 15 (fun x => { x with blankEnd := some 99 }) |>.atCount 99, 7, 99,
      (by constructor <;> first | decide +kernel | (constructor <;> decide +kernel)), ?_, ?_, ?_⟩,
    ⟨dev |>.put (F.LOOM_TLk_STAT_LIVE (8 + 7)) 0 |>.modTl 15 (fun x => { x with blankEnd := some 99 }) |>.atCount 99, 7, 99,
      (by constructor <;> first | decide +kernel | (constructor <;> decide +kernel)), ?_, ?_, ?_⟩⟩
    <;> first | decide +kernel | (constructor <;> decide +kernel)

theorem test_hyps_integrated_drivers :
    (∃ (s : State) (w : World) (n : Fin 8) (v : Word), s.accepts w (R.GDP_GDn_CTRL n) v ∧ s.get (F.GDP_GDn_CFG_SRC n) = 0 ∧ s.on
      (F.GDP_GDn_CFG_EN n) = true ∧ s.gdHeld n = false ∧ (n.val < 4 ∨ (s.get F.GDP_CP_OK).testBit (n - 4) = true)) ∧
    (∃ (s : State) (k : Fin 4), s.sys.phase ≠ .keep ∧ s.on (F.GDP_GDn_STAT_OUT (4 + k)) = true) ∧
    (∃ (s : State) (k : Fin 4), s.sys.phase ≠ .keep ∧ s.pumpRuns = true ∧ s.on (F.GDP_GDn_CFG_EN (4 + k)) = false) ∧
    (∃ (s : State), s.pumpRuns = false) ∧
    (∃ (s : State) (n : Fin 8), s.on F.SYS_SUPPLY_VDRV_OK = false ∧ s.gdCommand n = true ∧ s.gdCplow n = false ∧ s.gdMismatched n =
      false) ∧
    (∃ (s : State) (n : Fin 8) (gate : GateLevel), s.Shaped ∧ s.sys.phase ≠ .keep ∧ s.on (F.GDP_GDn_MON_EN n) = true ∧ followsGate gate
      (s.on (F.GDP_GDn_STAT_OUT n)) = false ∧ ((s.gd n).awayAt = none ∧ (s.gd n).followed = false ∧ s.count = (s.gd n).edgeAt + s.monTime
      n ∨ ∃ a, (s.gd n).awayAt = some a ∧ a + s.monTime n ≤ s.count)) ∧
    (∃ (s : State) (n : Fin 8) (gate : GateLevel), s.Shaped ∧ s.sys.phase ≠ .keep ∧ followsGate gate (s.on (F.GDP_GDn_STAT_OUT n)) =
      false ∧ (s.gd n).awayAt = none ∧ ((s.gd n).followed = true ∨ (s.gd n).edgeAt + s.monTime n < s.count)) ∧
    (∃ (s : State) (n : Fin 8) (gate : GateLevel), s.Shaped ∧ s.sys.phase ≠ .keep ∧ followsGate gate (s.on (F.GDP_GDn_STAT_OUT n)) =
      true) ∧
    (∃ (s : State) (w : World) (n : Fin 8) (v : Word), s.accepts w (R.GDP_GDn_STAT n) v) ∧
    (∃ (s : State), s.sys.phase ≠ .keep) := by
  refine ⟨⟨svc |>.put (F.GDP_GDn_CFG_SRC 7) 0 |>.put (F.GDP_GDn_CFG_EN 7) 1 |>.put F.LOOM_STAT_GEN 1 |>.put F.GDP_CP_OK 15, .secure, 7, 0, ?_,
      ?_, ?_, ?_, ?_⟩,
    ⟨dev |>.put (F.GDP_GDn_STAT_OUT (4 + 1)) 1, 1, ?_, ?_⟩,
    ⟨dev |>.put (F.GDP_GDn_CFG_EN (4 + 3)) 0 |>.put F.GDP_CP_EN 1 |>.put F.SYS_SUPPLY_VDRV_OK 1, 3, ?_, ?_, ?_⟩,
    ⟨dev, ?_⟩,
    ⟨dev |>.put F.SYS_SUPPLY_VDRV_OK 0 |>.put (F.GDP_GDn_CTRL_ON 7) 1, 7, ?_, ?_, ?_, ?_⟩,
    ⟨dev |>.put (F.GDP_GDn_MON_EN 7) 1 |>.atCount 400 |>.put (F.GDP_GDn_MON_MON_T 7) 0, 7, .on,
      (by constructor <;> first | decide +kernel | (constructor <;> decide +kernel)), ?_, ?_, ?_, ?_⟩,
    ⟨dev |>.atCount 401 |>.put (F.GDP_GDn_MON_MON_T 7) 0, 7, .on,
      (by constructor <;> first | decide +kernel | (constructor <;> decide +kernel)), ?_, ?_, ?_, ?_⟩,
    ⟨dev, 7, .off, (by constructor <;> first | decide +kernel | (constructor <;> decide +kernel)), ?_, ?_⟩,
    ⟨svc, .secure, 3, 0xFFFFFFFF, ?_⟩,
    ⟨dev, ?_⟩⟩
    <;> first | decide +kernel | (constructor <;> decide +kernel)

theorem test_hyps_faults_groups_and_the_brake :
    (∃ (s : State) (l : Fin 24), s.Shaped ∧ s.sys.phase ≠ .keep ∧ s.bit R.GDP_FLT_EN l = true ∧ s.bit R.GDP_FLT_LATCH l = false) ∧
    (∃ (s : State), s.sys.phase ≠ .keep) ∧
    (∃ (s : State) (g : Fin 8) (l : Fin 24) (i : Nat), s.Shaped ∧ (l.val, i) ∈ (s.group g).queue ∧ s.due i = true) ∧
    (∃ (s : State) (w : World) (v : Word), s.accepts w R.GDP_FLT_LATCH v) ∧
    (∃ (s : State) (w : World) (v : Word) (g : Fin 8), s.Shaped ∧ s.accepts w R.GDP_GRP_STAT v ∧ bitAt v g = true ∧ s.bit R.GDP_GRP_STAT
      g = true ∧ s.grpQuiet g = true) ∧
    (∃ (s : State) (w : World) (v : Word) (g : Fin 8), s.Shaped ∧ s.accepts w R.GDP_GRP_STAT v ∧ bitAt v g = true ∧ s.bit R.GDP_GRP_STAT
      g = true ∧ s.grpQuiet g = false) ∧
    (∃ (s : State) (w : World) (n : Fin 2) (v : Word), s.accepts w (R.GDP_LINKn_STAT n) (v ||| 1) ∧ s.on (F.GDP_LINKn_STAT_VTRIP n) =
      true ∧ s.cmpActive (s.linkWin n) 2 = false) ∧
    (∃ (s : State) (w : World) (n : Fin 2) (v : Word), s.accepts w (R.GDP_LINKn_STAT n) (v ||| 1) ∧ s.on (F.GDP_LINKn_STAT_VTRIP n) =
      true ∧ s.cmpActive (s.linkWin n) 2 = true) ∧
    (∃ (s : State) (n : Fin 2) (d : Nat), s.Shaped ∧ s.coreRuns = true ∧ s.brkMode n = 1 ∧ s.brkConfigured n = true ∧ s.brkHard n = false
      ∧ s.on (F.GDP_LINKn_STAT_BRK_ON n) = false ∧ s.on (F.CMP_WINw_STAT_CEIL (s.linkWin n)) = false ∧ s.on (F.CMP_WINw_STAT_HI
      (s.linkWin n)) = true ∧ s.brkAllowed n = true ∧ (s.brk n).lastOff = some d ∧ d + 40 * s.get (F.GDP_LINKn_TMIN_TOFF n) ≤ s.count) ∧
    (∃ (s : State) (n : Fin 2), s.Shaped ∧ s.coreRuns = true ∧ s.brkMode n = 1 ∧ s.brkConfigured n = true ∧ s.brkHard n = false ∧ s.on
      (F.GDP_LINKn_STAT_BRK_ON n) = true ∧ s.on (F.CMP_WINw_STAT_CEIL (s.linkWin n)) = false ∧ s.on (F.CMP_WINw_STAT_LO (s.linkWin n)) =
      true ∧ (s.brk n).lastOn + 40 * s.get (F.GDP_LINKn_TMIN_TON n) ≤ s.count) ∧
    (∃ (s : State) (n : Fin 2), s.Shaped ∧ s.coreRuns = true ∧ s.brkMode n = 1 ∧ s.brkConfigured n = true ∧ s.brkHard n = false ∧ s.on
      (F.GDP_LINKn_STAT_BRK_ON n) = true ∧ s.on (F.CMP_WINw_STAT_CEIL (s.linkWin n)) = false ∧ s.brkAllowed n = false) ∧
    (∃ (s : State) (n : Fin 2), s.Shaped ∧ s.coreRuns = true ∧ s.count % 400000 = 0 ∧ (s.brk n).tickStart ≠ s.count ∧ s.get
      (F.GDP_LINKn_TAU_TAU n) ≠ 0) ∧
    (∃ (s : State) (w : World) (n : Fin 2) (v : Word), s.Shaped ∧ s.accepts w (R.GDP_LINKn_CFG n) (v ||| 0x80000) ∧ s.inService = true ∧
      (s.stored (R.GDP_LINKn_CFG n) (v ||| 0x80000)).toNat / 2 ^ (F.GDP_LINKn_CFG_BRKMODE n).lo % 4 = 2 ∧ (s.brk n).budget = none ∧ s.on
      (F.GDP_LINKn_STAT_BRK_ON n) = false) ∧
    (∃ (s : State) (n : Fin 2) (e : Nat), s.Shaped ∧ (s.brk n).testEnd = some e ∧ s.due e = true ∧ s.brkMode n = 2 ∧ s.on
      (F.GDP_LINKn_STAT_BRK_ON n) = true) := by
  refine ⟨⟨dev |>.put ⟨R.GDP_FLT_EN, 23, 1⟩ 1, 23, (by constructor <;> first | decide +kernel | (constructor <;> decide +kernel)), ?_, ?_, ?_⟩,
    ⟨dev, ?_⟩,
    ⟨dev |>.modGroup 7 (fun x => { x with queue := [(23, 5)] }) |>.atCount 5, 7, 23, 5,
      (by constructor <;> first | decide +kernel | (constructor <;> decide +kernel)), ?_, ?_⟩,
    ⟨svc, .secure, 0, ?_⟩,
    ⟨svc |>.put ⟨R.GDP_GRP_STAT, 7, 1⟩ 1 |>.later, .secure, 0xFF, 7,
      (by constructor <;> first | decide +kernel | (constructor <;> decide +kernel)), ?_, ?_, ?_, ?_⟩,
    ⟨svc |>.put ⟨R.GDP_GRP_STAT, 7, 1⟩ 1 |>.putBit R.GDP_FLT_LATCH 23 true |>.wr (R.GDP_GRPMAPj 0) 0xFFFFFFFF |>.wr (R.GDP_GRPMAPj 1)
      0xFFFFFFFF |>.wr (R.GDP_GRPMAPj 2) 0xFFFFFFFF |>.later, .secure, 0xFF, 7,
      (by constructor <;> first | decide +kernel | (constructor <;> decide +kernel)), ?_, ?_, ?_, ?_⟩,
    ⟨svc |>.put (F.GDP_LINKn_STAT_VTRIP 1) 1 |>.later, .secure, 1, 0, ?_, ?_, ?_⟩,
    ⟨svc |>.put (F.GDP_LINKn_STAT_VTRIP 1) 1 |>.putBit (R.CMP_WINw_STAT 0) 2 true |>.later, .secure, 1, 0, ?_, ?_, ?_⟩,
    ⟨dev |>.put (F.GDP_LINKn_STAT_BRK_ON 1) 0 |>.put (F.GDP_LINKn_CFG_BRKMODE 1) 1 |>.put (F.GDP_LINKn_PON_VAL 1) 1000 |>.put
      (F.GDP_LINKn_TAU_TAU 1) 10 |>.put (F.GDP_LINKn_EMAX_VAL 1) 1000 |>.put (F.GDP_LINKn_CFG_WIN 1) 47 |>.put (F.CMP_WINw_STAT_HI 47) 1
      |>.put (F.GDP_LINKn_TMIN_TOFF 1) 1 |>.modBrk 1 (fun x => { x with lastOff := some 0 }) |>.atCount 40, 1, 0,
      (by constructor <;> first | decide +kernel | (constructor <;> decide +kernel)), ?_, ?_, ?_, ?_, ?_, ?_, ?_, ?_, ?_, ?_⟩,
    ⟨dev |>.put (F.GDP_LINKn_STAT_BRK_ON 1) 1 |>.put (F.GDP_LINKn_CFG_BRKMODE 1) 1 |>.put (F.GDP_LINKn_PON_VAL 1) 1000 |>.put
      (F.GDP_LINKn_TAU_TAU 1) 10 |>.put (F.GDP_LINKn_EMAX_VAL 1) 1000 |>.put (F.GDP_LINKn_CFG_WIN 1) 47 |>.put (F.CMP_WINw_STAT_LO 47) 1
      |>.put (F.GDP_LINKn_TMIN_TON 1) 1 |>.atCount 40, 1, (by constructor <;> first | decide +kernel | (constructor <;> decide +kernel)),
      ?_, ?_, ?_, ?_, ?_, ?_, ?_, ?_⟩,
    ⟨dev |>.put (F.GDP_LINKn_STAT_BRK_ON 1) 1 |>.put (F.GDP_LINKn_CFG_BRKMODE 1) 1 |>.put (F.GDP_LINKn_PON_VAL 1) 1000 |>.put
      (F.GDP_LINKn_TAU_TAU 1) 10 |>.put (F.GDP_LINKn_EMAX_VAL 1) 1000 |>.put (F.GDP_LINKn_CFG_WIN 1) 47 |>.modBrk 1 (fun x =>
      { x with budget := some 0 }), 1, (by constructor <;> first | decide +kernel | (constructor <;> decide +kernel)), ?_, ?_, ?_, ?_,
      ?_, ?_, ?_⟩,
    ⟨dev |>.put (F.GDP_LINKn_TAU_TAU 1) 1 |>.modBrk 1 (fun x => { x with tickStart := 1 }), 1,
      (by constructor <;> first | decide +kernel | (constructor <;> decide +kernel)), ?_, ?_, ?_, ?_⟩,
    ⟨svc |>.put (F.GDP_LINKn_STAT_BRK_ON 1) 0, .secure, 1, BitVec.ofNat 32 (2 * 2 ^ (F.GDP_LINKn_CFG_BRKMODE 1).lo),
      (by constructor <;> first | decide +kernel | (constructor <;> decide +kernel)), ?_, ?_, ?_, ?_, ?_⟩,
    ⟨svc |>.put (F.GDP_LINKn_STAT_BRK_ON 1) 1 |>.put (F.GDP_LINKn_CFG_BRKMODE 1) 2 |>.modBrk 1 (fun x => { x with testEnd := some 9 })
      |>.atCount 9, 1, 9, (by constructor <;> first | decide +kernel | (constructor <;> decide +kernel)), ?_, ?_, ?_, ?_⟩⟩
    <;> first | decide +kernel | (constructor <;> decide +kernel)

theorem test_hyps_window_comparators :
    (∃ (s : State) (w : Fin 48) (v : Int), s.Shaped ∧ s.winCompares w = true ∧ s.cmpJudge w 2 v = some true ∧ s.on (F.CMP_WINw_STAT_CEIL
      w) = false ∧ s.switching = true) ∧
    (∃ (s : State) (w : Fin 48) (i : Fin 2) (v : Int) (b : Bool), s.winCompares w = true ∧ s.cmpJudge w i v = some b ∧ s.mode ≠ .doze) ∧
    (∃ (s : State) (w : Fin 48), s.Shaped ∧ s.coreRuns = true ∧ s.count % (400 * max 10 (s.get F.CMP_CTRL_TICK)) = 0 ∧ (s.win w).running
      = true ∧ s.winSampled w = true) ∧
    (∃ (s : State) (w : Fin 48) (v : Int) (b : Bool) (e : Nat), s.Shaped ∧ s.coreRuns = true ∧ (s.win w).decideAt = some e ∧ s.due e =
      true ∧ s.on (F.CMP_WINw_STAT_SETTLING w) = false ∧ s.cmpJudge w 2 v = some b) ∧
    (∃ (s : State) (w : Fin 48), s.Shaped ∧ s.coreRuns = true ∧ s.get (F.CMP_WINw_CFG_MODE w) ≠ 0 ∧ (s.win w).running = false) ∧
    (∃ (s : State) (w : Fin 48) (v : Int), s.coreRuns = true ∧ (s.win w).running = true ∧ s.on (F.CMP_WINw_STAT_SETTLING w) = true ∧
      s.due (s.win w).settleEnd = true ∧ s.cmpJudge w 2 v = none) := by
  refine ⟨⟨svc |>.put (F.CMP_WINw_STAT_CEIL 47) 0 |>.put (F.CMP_WINw_CFG_MODE 47) 1 |>.modWin 47 (fun x => { x with running := true }) |>.put
      (F.CMP_WINw_TH_CEIL 47) 100, 47, 2999999, (by constructor <;> first | decide +kernel | (constructor <;> decide +kernel)), ?_, ?_,
      ?_, ?_⟩,
    ⟨svc |>.put (F.CMP_WINw_CFG_MODE 47) 1 |>.modWin 47 (fun x => { x with running := true }) |>.put (F.CMP_WINw_STAT_SETTLING 47) 0, 47,
      0, 1, false, ?_, ?_, ?_⟩,
    ⟨dev |>.put (F.CMP_WINw_CFG_MODE 47) 1 |>.modWin 47 (fun x => { x with running := true }) |>.put (F.CMP_WINw_CFG_MODE 47) 2, 47,
      (by constructor <;> first | decide +kernel | (constructor <;> decide +kernel)), ?_, ?_, ?_, ?_⟩,
    ⟨dev |>.put (F.CMP_WINw_STAT_SETTLING 47) 0 |>.put (F.CMP_WINw_CFG_MODE 47) 1 |>.modWin 47 (fun x =>
      { x with running := true, decideAt := some 800 }) |>.put (F.CMP_WINw_TH_CEIL 47) 100 |>.atCount 800, 47, 2999999, true, 800,
      (by constructor <;> first | decide +kernel | (constructor <;> decide +kernel)), ?_, ?_, ?_, ?_, ?_⟩,
    ⟨dev |>.put (F.CMP_WINw_CFG_MODE 47) 1, 47, (by constructor <;> first | decide +kernel | (constructor <;> decide +kernel)), ?_, ?_,
      ?_⟩,
    ⟨dev |>.put (F.CMP_WINw_STAT_SETTLING 47) 1 |>.put (F.CMP_WINw_CFG_MODE 47) 1 |>.modWin 47 (fun x =>
      { x with running := true, settleEnd := 800 }) |>.put (F.CMP_WINw_TH_CEIL 47) 0 |>.put (F.CMP_WINw_CFG_HYS 47) 1 |>.put
      (F.CMP_WINw_CFG_CEIL_DIR 47) 1 |>.atCount 800, 47, 1, ?_, ?_, ?_, ?_, ?_⟩⟩
    <;> first | decide +kernel | (constructor <;> decide +kernel)

theorem test_hyps_meters_and_their_pulses :
    (∃ (s : State) (e : GrnInterval) (rest : List GrnInterval), s.Shaped ∧ s.coreRuns = true ∧ s.grn.queue = e :: rest ∧ s.closeDue =
      false) ∧
    (∃ (s : State) (m : Fin 4), s.Shaped ∧ s.zxTimeoutDue m = true) ∧
    (∃ (s : State) (m : Fin 4), s.Shaped ∧ s.nozxDue m = true) ∧
    (∃ (s : State) (m : Fin 4), s.Shaped ∧ s.blockDue m = true) ∧
    (∃ (s : State) (m : Fin 4), s.Shaped ∧ s.replayHolds = false ∧ (∀ i : Fin 176, nth s.grn.totals i 0 < 2 ^ 96) ∧ s.nozxDue m = true) ∧
    (∃ (s : State) (m : Fin 4), s.Shaped ∧ s.replayHolds = false ∧ (∀ i : Fin 176, nth s.grn.totals i 0 < 2 ^ 96) ∧ s.zxTimeoutDue m =
      true) ∧
    (∃ (s : State), s.Shaped ∧ s.replayHolds = false ∧ (∀ i : Fin 176, nth s.grn.totals i 0 < 2 ^ 96)) ∧
    (∃ (s : State) (m : Fin 4), s.Shaped ∧ s.replayHolds = false ∧ (∀ i : Fin 176, nth s.grn.totals i 0 < 2 ^ 96) ∧ s.blockDue m = true) ∧
    (∃ (s : State) (k : Fin 4), s.Shaped ∧ s.coreRuns = true ∧ s.replayHolds = false ∧ s.on (F.GRN_EPOk_CFG_EN k) = true ∧ s.count %
      400000 = 0 ∧ 0 < s.get (F.GRN_EPOk_STAT_PENDING k) ∧ s.on (F.GRN_EPOk_STAT_ACTIVE k) = false ∧ s.due (nth s.grn.epoIdle k 0 +
      s.epoWidth k) = true) ∧
    (∃ (s : State) (k : Fin 4), s.Shaped ∧ s.coreRuns = true ∧ s.replayHolds = false ∧ s.on (F.GRN_EPOk_STAT_ACTIVE k) = true ∧ s.due
      (nth s.grn.epoStart k 0 + s.epoWidth k) = true) := by
  refine ⟨⟨dev |>.modGrn (fun g => { g with active := 0xF0, queue := [{ stop := 0, words := none }] }), { stop := 0, words := none }, [],
      (by constructor <;> first | decide +kernel | (constructor <;> decide +kernel)), ?_, ?_, ?_⟩,
    ⟨dev |>.modGrn (fun g => { g with active := 8 }) |>.modAc 3 (fun x =>
      { x with cycle := List.replicate 960 { v := [0, 0, 0], i := [0, 0, 0], valid := true } }) |>.put (F.GRN_ACm_ZX_ZXTO 3) 30, 3,
      (by constructor <;> first | decide +kernel | (constructor <;> decide +kernel)), ?_⟩,
    ⟨dev |>.modGrn (fun g => { g with active := 8 }) |>.modAc 3 (fun x =>
      { x with cycle := List.replicate 640 { v := [0, 0, 0], i := [0, 0, 0], valid := true } }) |>.put (F.GRN_ACm_STAT_NOZX 3) 1, 3,
      (by constructor <;> first | decide +kernel | (constructor <;> decide +kernel)), ?_⟩,
    ⟨dev |>.modGrn (fun g => { g with active := 0x80, lastEnd := 4000000 }) |>.modDc 3 (fun x => { x with count := 320 }), 3,
      (by constructor <;> first | decide +kernel | (constructor <;> decide +kernel)), ?_⟩,
    ⟨dev |>.modGrn (fun g => { g with active := 8 }) |>.modAc 3 (fun x =>
      { x with cycle := List.replicate 640 { v := [0, 0, 0], i := [0, 0, 0], valid := true } }) |>.put (F.GRN_ACm_STAT_NOZX 3) 1, 3,
      (by constructor <;> first | decide +kernel | (constructor <;> decide +kernel)), ?_, ?_, ?_⟩,
    ⟨dev |>.modGrn (fun g => { g with active := 8 }) |>.modAc 3 (fun x =>
      { x with cycle := List.replicate 960 { v := [0, 0, 0], i := [0, 0, 0], valid := true } }) |>.put (F.GRN_ACm_ZX_ZXTO 3) 30, 3,
      (by constructor <;> first | decide +kernel | (constructor <;> decide +kernel)), ?_, ?_, ?_⟩,
    ⟨dev, (by constructor <;> first | decide +kernel | (constructor <;> decide +kernel)), ?_, ?_⟩,
    ⟨dev |>.modGrn (fun g => { g with active := 0x80, lastEnd := 4000000 }) |>.modDc 3 (fun x => { x with count := 320 }), 3,
      (by constructor <;> first | decide +kernel | (constructor <;> decide +kernel)), ?_, ?_, ?_⟩,
    ⟨dev |>.put (F.GRN_EPOk_CFG_EN 3) 1 |>.put (F.GRN_EPOk_STAT_ACTIVE 3) 0 |>.put (F.GRN_EPOk_STAT_PENDING 3) 1 |>.put
      (F.GRN_EPOk_CFG_PW 3) 1 |>.atCount 400000, 3, (by constructor <;> first | decide +kernel | (constructor <;> decide +kernel)), ?_,
      ?_, ?_, ?_, ?_, ?_, ?_⟩,
    ⟨dev |>.put (F.GRN_EPOk_STAT_ACTIVE 3) 1 |>.put (F.GRN_EPOk_CFG_PW 3) 1 |>.atCount 400000, 3,
      (by constructor <;> first | decide +kernel | (constructor <;> decide +kernel)), ?_, ?_, ?_, ?_⟩⟩
    <;> first | decide +kernel | (constructor <;> decide +kernel)

theorem test_hyps_snapshots_and_journal :
    (∃ (s : State) (w : World) (v : Word), s.accepts w R.GRN_SNAP_CTRL (v ||| 1)) ∧
    (∃ (s : State) (r : SnapReq), r.waits = false ∧ s.closeDue = false ∧ s.grn.snap = some r ∧ s.replayHolds = true ∧ r.held = false) ∧
    (∃ (s : State) (r : SnapReq), s.grn.snap = some r ∧ s.replayHolds = true ∧ r.held = true) ∧
    (∃ (s : State), s.policyRests ∧ s.sys.ltrWritten = false ∧ s.replayHolds = true) ∧
    (∃ (s : State) (r : SnapReq), r.waits = false ∧ s.closeDue = false ∧ s.grn.snap = some r ∧ s.replayHolds = false) ∧
    (∃ (s : State), s.grn.snap = none) ∧
    (∃ (s : State), s.sys.phase = .run) ∧
    (∃ (s : State) (t0 : Nat), s.coreRuns = true ∧ s.grn.period = some t0 ∧ s.due (t0 + s.journalPeriod) = true ∧ s.replayHolds = false ∧
      s.on F.GRN_JSTAT_BUSY = false) ∧
    (∃ (s : State) (w : World) (v : Word), s.accepts w R.GRN_JRN (v ||| 0x10000) ∧ s.replayHolds = false ∧ s.on F.GRN_JSTAT_BUSY = false) ∧
    (∃ (s : State) (w : World) (v : Word), s.accepts w R.GRN_JRN (v ||| 0x10000) ∧ s.replayHolds = false ∧ s.on F.GRN_JSTAT_BUSY = true) ∧
    (∃ (s : State) (x : JournalWrite), s.policyRests ∧ s.grn.write = some x ∧ s.grn.queued = none ∧ s.replayHolds = false ∧ (∀ r,
      s.grn.snap = some r → r.journal = none) ∧ s.mramFails (journalOffset s.grn.nextSlot) x.bytes.length = false) ∧
    (∃ (s : State) (x : JournalWrite), s.policyRests ∧ s.grn.write = some x ∧ s.grn.queued = none ∧ s.replayHolds = false ∧ (∀ r,
      s.grn.snap = some r → r.journal = none)) ∧
    (∃ (s : State) (x : JournalWrite) (f : Nat), s.policyRests ∧ s.grn.write = some x ∧ s.grn.queued = some f ∧ s.replayHolds = false ∧
      (∀ r, s.grn.snap = some r → r.journal = none) ∧ s.mramFails (journalOffset s.grn.nextSlot) x.bytes.length = false) ∧
    (∃ (s : State) (w : World) (v : Word), s.accepts w R.GRN_CTRL v ∧ s.policyRests ∧ s.on F.CLK_SYN0_SSC_EN = false) := by
  refine ⟨⟨svc, .secure, 2, ?_⟩,
    ⟨dev |>.modGrn (fun g => { g with snap := some {} }) |>.modTst (fun t => { t with rpl := .replaying }), {}, ?_, ?_, ?_, ?_, ?_⟩,
    ⟨dev |>.modGrn (fun g => { g with snap := some { held := true } }) |>.modTst (fun t => { t with rpl := .replaying }),
      { held := true }, ?_, ?_, ?_⟩,
    ⟨dev |>.modTst (fun t => { t with rpl := .replaying }), (by constructor <;> decide +kernel), ?_, ?_⟩,
    ⟨dev |>.modGrn (fun g => { g with snap := some {} }), {}, ?_, ?_, ?_, ?_⟩,
    ⟨dev, ?_⟩,
    ⟨dev, ?_⟩,
    ⟨dev |>.put F.GRN_JSTAT_BUSY 0 |>.modGrn (fun g => { g with period := some 0 }) |>.put F.GRN_JRN_JPER 1 |>.atCount 400000000, 0, ?_,
      ?_, ?_, ?_, ?_⟩,
    ⟨svc |>.put F.GRN_JSTAT_BUSY 0, .secure, 0, ?_, ?_, ?_⟩,
    ⟨svc |>.put F.GRN_JSTAT_BUSY 1, .secure, 0, ?_, ?_, ?_⟩,
    ⟨dev |>.modGrn (fun g => { g with write := some { flags := 0, final := false, bytes := [1], pmax := [] } }),
      { flags := 0, final := false, bytes := [1], pmax := [] }, (by constructor <;> decide +kernel), ?_, ?_, ?_, ?_, ?_⟩,
    ⟨dev |>.modGrn (fun g => { g with write := some { flags := 0, final := false, bytes := [1], pmax := [] } }),
      { flags := 0, final := false, bytes := [1], pmax := [] }, (by constructor <;> decide +kernel), ?_, ?_, ?_, ?_⟩,
    ⟨dev |>.modGrn (fun g => { g with write := some { flags := 0, final := false, bytes := [1], pmax := [] }, queued := some 2 }),
      { flags := 0, final := false, bytes := [1], pmax := [] }, 2, (by constructor <;> decide +kernel), ?_, ?_, ?_, ?_, ?_⟩,
    ⟨svc |>.put F.CLK_SYN0_SSC_EN 0, .secure, 0xFF, ?_, (by constructor <;> decide +kernel), ?_⟩⟩
    <;> first | decide +kernel | (constructor <;> decide +kernel)

theorem test_hyps_shaft_feedback :
    (∃ (s : State) (n : Fin 2) (qb : Bool) (p : Int), s.Shaped ∧ s.encRuns n 1 = true ∧ s.encJudged n = false ∧ s.lineMay n 1 (if qb then
      (s.enc n).qbAt else (s.enc n).qaAt) = true ∧ (if qb then (s.enc n).qaAt else (s.enc n).qbAt) ≠ some s.count ∧ p = s.get
      (F.SHF_ENCn_POS_POS n) + (if (if qb then (s.enc n).qa != (s.enc n).qb else (s.enc n).qa == (s.enc n).qb) != s.on
      (F.SHF_ENCn_CFG_DIR n) then (1 : Int) else -1)) ∧
    (∃ (s : State) (n : Fin 2) (qb : Bool), s.lineMay n 1 (if qb then (s.enc n).qbAt else (s.enc n).qaAt) = false) ∧
    (∃ (s : State), s.coreRuns = false) ∧
    (∃ (s : State) (n : Fin 2), s.Shaped ∧ s.encRuns n 1 = true ∧ s.encJudged n = false ∧ s.lineMay n 1 (s.enc n).qaAt = true ∧ s.lineMay
      n 1 (s.enc n).qbAt = true) ∧
    (∃ (s : State) (n : Fin 2), s.encRuns n 1 = true ∧ (s.enc n).latchAt ≠ some s.count ∧ s.lineMay n 2 (s.enc n).qiAt = true ∧ (s.on
      (F.SHF_ENCn_CFG_IDXGATE n) = false ∨ ((s.enc n).qa = true ∧ (s.enc n).qb = true)) ∧ s.on (F.SHF_ENCn_STAT_HOMED n) = false) ∧
    (∃ (s : State) (n : Fin 2), s.encRuns n 1 = true ∧ (s.enc n).latchAt ≠ some s.count ∧ s.lineMay n 2 (s.enc n).qiAt = true ∧ (s.on
      (F.SHF_ENCn_CFG_IDXGATE n) = false ∨ ((s.enc n).qa = true ∧ (s.enc n).qb = true)) ∧ s.on (F.SHF_ENCn_STAT_HOMED n) = true ∧ (wayTo
      (s.encCpr n) (s.get (F.SHF_ENCn_POS_POS n)) (s.idxPos n)).natAbs ≤ s.get (F.SHF_ENCn_IDX_TOL n)) ∧
    (∃ (s : State) (n : Fin 2), s.encRuns n 1 = true ∧ (s.enc n).latchAt ≠ some s.count ∧ s.lineMay n 2 (s.enc n).qiAt = true ∧ (s.on
      (F.SHF_ENCn_CFG_IDXGATE n) = false ∨ ((s.enc n).qa = true ∧ (s.enc n).qb = true)) ∧ s.on (F.SHF_ENCn_STAT_HOMED n) = true ∧ s.get
      (F.SHF_ENCn_CFG_POLICY n) = 0 ∧ s.get (F.SHF_ENCn_IDX_TOL n) < (wayTo (s.encCpr n) (s.get (F.SHF_ENCn_POS_POS n)) (s.idxPos
      n)).natAbs) ∧
    (∃ (s : State) (n : Fin 2), s.encRuns n 1 = true ∧ (s.enc n).latchAt ≠ some s.count ∧ s.lineMay n 2 (s.enc n).qiAt = true ∧ (s.on
      (F.SHF_ENCn_CFG_IDXGATE n) = false ∨ ((s.enc n).qa = true ∧ (s.enc n).qb = true)) ∧ s.on (F.SHF_ENCn_STAT_HOMED n) = true ∧ s.get
      (F.SHF_ENCn_CFG_POLICY n) = 1 ∧ s.get (F.SHF_ENCn_IDX_TOL n) < (wayTo (s.encCpr n) (s.get (F.SHF_ENCn_POS_POS n)) (s.idxPos
      n)).natAbs) ∧
    (∃ (s : State) (n : Fin 2), s.encRuns n 1 = true ∧ (s.enc n).latchAt ≠ some s.count ∧ s.lineMay n 2 (s.enc n).qiAt = true ∧ (s.on
      (F.SHF_ENCn_CFG_IDXGATE n) = false ∨ ((s.enc n).qa = true ∧ (s.enc n).qb = true)) ∧ s.on (F.SHF_ENCn_STAT_HOMED n) = true ∧ 2 ≤
      s.get (F.SHF_ENCn_CFG_POLICY n) ∧ s.get (F.SHF_ENCn_IDX_TOL n) < (wayTo (s.encCpr n) (s.get (F.SHF_ENCn_POS_POS n)) (s.idxPos
      n)).natAbs) ∧
    (∃ (s : State) (n : Fin 2) (i : Nat), s.Shaped ∧ s.encRuns n 2 = true ∧ (s.enc n).reading = some i ∧ s.due (i + s.ssiLength n) =
      true) ∧
    (∃ (s : State) (n : Fin 2) (data : Word) (par : Bool) (i v : Nat), s.Shaped ∧ s.encRuns n 2 = true ∧ (s.enc n).reading = some i ∧
      s.due (i + s.ssiLength n) = true ∧ (s.on (F.SHF_ENCn_SSI_PAR n) = true → (onesBelow (s.ssiBits n) (data.toNat % 2 ^ s.ssiBits n) +
      bit1 par) % 2 = 0) ∧ v = (if s.on (F.SHF_ENCn_SSI_GRAY n) then grayDecode (s.ssiBits n) (data.toNat % 2 ^ s.ssiBits n) else
      data.toNat % 2 ^ s.ssiBits n) ∧ ((s.enc n).good = true → (s.ssiMoved n v).natAbs ≤ 2 ^ s.ssiPosBits n / 2)) ∧
    (∃ (s : State) (n : Fin 2) (d : Nat), s.Shaped ∧ (s.enc n).depositAt = some d ∧ s.due d = true ∧ s.on (F.SHF_ENCn_DEP_EN n) = true ∧
      s.on F.MILL_CTRL_EN = true ∧ (s.mode = .ready ∨ s.switching = true) ∧ s.get (F.SHF_ENCn_DEP_ADDR n) ≤ 0x1FFC) ∧
    (∃ (s : State) (n : Fin 2), s.Shaped ∧ (s.encRuns n 1 = true ∨ s.encRuns n 2 = true) ∧ s.on (F.SHF_ENCn_STAT_STILL n) = false ∧ s.due
      ((s.enc n).te.getD (s.enc n).startAt + max 1 (s.get (F.SHF_ENCn_SPD_STILL n)) * 400000) = true) ∧
    (∃ (s : State), s.on F.SHF_CTRL_EMU_EN = true ∧ s.coreRuns = true ∧ s.due (s.shf.emuAt + max 20 (s.get F.SHF_EMU_CFG_MINE)) = true ∧
      s.emuWay ≠ 0) := by
  refine ⟨⟨dev |>.modShf (fun x => { x with active := 2 }) |>.put (F.SHF_ENCn_CFG_MODE 1) 1 |>.modEnc 1 (fun x => { x with startAt := 0 }), 1,
      true, -1, (by constructor <;> first | decide +kernel | (constructor <;> decide +kernel)), ?_, ?_, ?_, ?_, ?_⟩,
    ⟨dev |>.modShf (fun x => { x with active := 2 }) |>.put (F.SHF_ENCn_CFG_MODE 1) 1 |>.modEnc 1 (fun x => { x with qaAt := some 0 })
      |>.put (F.SHF_ENCn_CFG_FILT 1) 9, 1, false, ?_⟩,
    ⟨dev |>.modSys (fun x => { x with phase := .boot }), ?_⟩,
    ⟨dev |>.modShf (fun x => { x with active := 2 }) |>.put (F.SHF_ENCn_CFG_MODE 1) 1 |>.modEnc 1 (fun x => { x with qa := true }), 1,
      (by constructor <;> first | decide +kernel | (constructor <;> decide +kernel)), ?_, ?_, ?_, ?_⟩,
    ⟨dev |>.put (F.SHF_ENCn_STAT_HOMED 1) 0 |>.modShf (fun x => { x with active := 2 }) |>.put (F.SHF_ENCn_CFG_MODE 1) 1 |>.modEnc 1 (fun
      x => { x with qa := true }), 1, ?_, ?_, ?_, ?_, ?_⟩,
    ⟨dev |>.put (F.SHF_ENCn_STAT_HOMED 1) 1 |>.modShf (fun x => { x with active := 2 }) |>.put (F.SHF_ENCn_CFG_MODE 1) 1 |>.modEnc 1 (fun
      x => { x with qa := true }) |>.put (F.SHF_ENCn_STAT_HOMED 1) 1, 1, ?_, ?_, ?_, ?_, ?_, ?_⟩,
    ⟨dev |>.put (F.SHF_ENCn_STAT_HOMED 1) 1 |>.put (F.SHF_ENCn_CFG_POLICY 1) 0 |>.modShf (fun x => { x with active := 2 }) |>.put
      (F.SHF_ENCn_CFG_MODE 1) 1 |>.put (F.SHF_ENCn_POS_POS 1) 1 |>.put (F.SHF_ENCn_CPR_VAL 1) 4, 1, ?_, ?_, ?_, ?_, ?_, ?_, ?_⟩,
    ⟨dev |>.put (F.SHF_ENCn_STAT_HOMED 1) 1 |>.put (F.SHF_ENCn_CFG_POLICY 1) 1 |>.modShf (fun x => { x with active := 2 }) |>.put
      (F.SHF_ENCn_CFG_MODE 1) 1 |>.put (F.SHF_ENCn_POS_POS 1) 1 |>.put (F.SHF_ENCn_CPR_VAL 1) 4, 1, ?_, ?_, ?_, ?_, ?_, ?_, ?_⟩,
    ⟨dev |>.put (F.SHF_ENCn_STAT_HOMED 1) 1 |>.modShf (fun x => { x with active := 2 }) |>.put (F.SHF_ENCn_CFG_MODE 1) 1 |>.put
      (F.SHF_ENCn_POS_POS 1) 1 |>.put (F.SHF_ENCn_CPR_VAL 1) 4 |>.put (F.SHF_ENCn_CFG_POLICY 1) 3, 1, ?_, ?_, ?_, ?_, ?_, ?_, ?_⟩,
    ⟨dev |>.modShf (fun x => { x with active := 2 }) |>.put (F.SHF_ENCn_CFG_MODE 1) 2 |>.modEnc 1 (fun x => { x with reading := some 0 })
      |>.atCount 100000, 1, 0, (by constructor <;> first | decide +kernel | (constructor <;> decide +kernel)), ?_, ?_, ?_⟩,
    ⟨dev |>.modShf (fun x => { x with active := 2 }) |>.put (F.SHF_ENCn_CFG_MODE 1) 2 |>.modEnc 1 (fun x => { x with reading := some 0 })
      |>.atCount 100000, 1, 0x55, false, 0, 0x55, (by constructor <;> first | decide +kernel | (constructor <;> decide +kernel)), ?_, ?_,
      ?_, ?_, ?_, ?_⟩,
    ⟨svc |>.put (F.SHF_ENCn_DEP_EN 1) 1 |>.put F.MILL_CTRL_EN 1 |>.modEnc 1 (fun x => { x with depositAt := some 9 }) |>.put
      (F.SHF_ENCn_DEP_ADDR 1) 0x1FFC |>.atCount 9, 1, 9, (by constructor <;> first | decide +kernel | (constructor <;> decide +kernel)),
      ?_, ?_, ?_, ?_, ?_, ?_⟩,
    ⟨dev |>.put (F.SHF_ENCn_STAT_STILL 1) 0 |>.modShf (fun x => { x with active := 2 }) |>.put (F.SHF_ENCn_CFG_MODE 1) 1 |>.put
      (F.SHF_ENCn_SPD_STILL 1) 0 |>.atCount 400000, 1, (by constructor <;> first | decide +kernel | (constructor <;> decide +kernel)),
      ?_, ?_, ?_⟩,
    ⟨dev |>.put F.SHF_CTRL_EMU_EN 1 |>.put F.SHF_EMU_CFG_EPPR_M1 255 |>.put (F.SHF_ENCn_CPR_VAL 0) 1024 |>.put (F.SHF_ENCn_POS_POS 0) 100
      |>.atCount 20, ?_, ?_, ?_, ?_⟩⟩
    <;> first | decide +kernel | (constructor <;> decide +kernel)

theorem test_hyps_ring_rounds_and_copies :
    (∃ (s : State), s.ringRuns = true ∧ s.ringState = 4 ∧ s.ring.issueDue = true ∧ s.count = (s.car (s.get F.RING_RND_CAR)).valley.toNat) ∧
    (∃ (s : State), s.ringRuns = true ∧ s.ringLive = true ∧ s.nextIssue = some (s.count + 64)) ∧
    (∃ (s : State) (r : RingRound) (rest : List RingRound) (d : Nat), s.policyRests ∧ s.ringRuns = true ∧ s.ringLive = true ∧ (∀ x,
      s.ring.cur = some x → s.count < x.issue + s.ringPeriod) ∧ (s.ring.cur = none → s.ring.lastIssue = none) ∧ s.ring.done = r :: rest ∧
      r.deliverAt = some d ∧ s.due d = true) ∧
    (∃ (s : State), s.coreRuns = true ∧ s.ringRuns = true ∧ s.on F.RING_STAT_LOCKED = false ∧ ((s.ringState = 3 ∧ s.ring.slewHeld = false
      ∧ s.lockRounds ≤ s.ring.inWin ∧ (s.on F.RING_STAT_LOCK_A = true ∨ s.on F.RING_STAT_LOCK_B = true)) ∨ (s.ringState = 4 ∧ 0 <
      s.ring.inWin))) ∧
    (∃ (s : State), s.coreRuns = true ∧ s.on F.RING_STAT_LOCKED = true ∧ (3 ≤ s.ring.noHeader ∨ (s.ringState = 3 ∧ 4 ≤ s.ring.outWin))) ∧
    (∃ (s : State) (p : Port) (b : List Byte), s.policyRests ∧ s.ringRuns = true ∧ s.portUp p = true ∧ headOk b = false) ∧
    (∃ (s : State) (b : List Byte), s.policyRests ∧ s.ringRuns = true ∧ s.portUp .a = true ∧ s.portUp .b = true ∧ s.ringState = 1 ∧
      headOk b = true) ∧
    (∃ (s : State) (p : Port) (b : List Byte), s.policyRests ∧ s.ringRuns = true ∧ s.portUp p = true ∧ s.ringState = 4 ∧ headOk b = true
      ∧ (headOf b).issuer < s.ringSlot) := by
  refine ⟨⟨dev |>.put F.RING_STAT_STATE 4 |>.modRing (fun r => { r with issueDue := true }), ?_, ?_, ?_, ?_⟩,
    ⟨dev |>.put F.RING_STAT_STATE 3 |>.modRing (fun r => { r with lastIssue := some 64 }) |>.atCount (dev.put F.RING_STAT_STATE
      3).ringPeriod, ?_, ?_, ?_⟩,
    ⟨dev |>.put F.RING_STAT_STATE 3 |>.modRing (fun r => { r with done := [{ no := 5, issue := 0, deliverAt := some 9 }] }) |>.atCount 9,
      { no := 5, issue := 0, deliverAt := some 9 }, [], 9, ⟨by decide +kernel, by decide +kernel⟩, by decide +kernel, by decide +kernel,
      none_ne (by decide +kernel), by decide +kernel,
      by decide +kernel, by decide +kernel, by decide +kernel⟩,
    ⟨dev |>.put F.RING_STAT_LOCKED 0 |>.modRing (fun r => { r with inWin := 255 }) |>.put F.RING_STAT_STATE 3 |>.put F.RING_STAT_LOCK_B
      1, ?_, ?_, ?_, ?_⟩,
    ⟨dev |>.put F.RING_STAT_LOCKED 1 |>.modRing (fun r => { r with noHeader := 3 }), ?_, ?_, ?_⟩,
    ⟨dev |>.put F.RING_STAT_STATE 3 |>.put F.RING_CTRL_EN_A 1 |>.put F.RING_CTRL_EN_B 1, .b, List.replicate 32 1,
      (by constructor <;> decide +kernel), ?_, ?_, ?_⟩,
    ⟨dev |>.put F.RING_CTRL_EN_A 1 |>.put F.RING_CTRL_EN_B 1 |>.put F.RING_STAT_STATE 1, sealHead (headOf (List.replicate 32 0)) true,
      (by constructor <;> decide +kernel), ?_, ?_, ?_, ?_, ?_⟩,
    ⟨dev |>.put F.RING_CTRL_EN_A 1 |>.put F.RING_CTRL_EN_B 1 |>.put F.RING_STAT_STATE 4 |>.put F.RING_CFG_SLOT 1, .b, sealHead (headOf
      (List.replicate 32 0)) true, (by constructor <;> decide +kernel), ?_, ?_, ?_, ?_, ?_⟩⟩
    <;> first | decide +kernel | (constructor <;> decide +kernel)

theorem test_hyps_ring_messages :
    (∃ (s : State) (p : Port), s.ringRuns = true ∧ s.portUp p = true) ∧
    (∃ (s : State) (p : Port), s.ringRuns = true ∧ s.portUp p = true) ∧
    (∃ (s : State) (uid : Dword) (slot : Fin 1024) (standby : Bool) (streams : List Word) (rper dinA dinB pos : Nat) (p : Port),
      s.coreRuns = true ∧ s.ringRuns = true ∧ s.portUp p = true ∧ s.ringState = 4 ∧ ¬ uid ∈ s.ring.answered ∧ s.knockReason ⟨slot, uid,
      standby, streams.map rosterEntry, dinA, dinB, 0⟩ pos streams rper = none) ∧
    (∃ (s : State) (uid : Dword) (slot : Fin 1024) (p : Port), s.coreRuns = true ∧ s.ringRuns = true ∧ s.portUp p = true ∧ s.ringState =
      4 ∧ ¬ uid ∈ s.ring.answered ∧ (slot.val = s.ringSlot ∨ (s.memberAt slot).isSome = true)) ∧
    (∃ (s : State) (p : Port), s.ringRuns = true ∧ s.portUp p = true ∧ s.ringState ≠ 4) ∧
    (∃ (s : State) (p : Port), s.Shaped ∧ s.policyRests ∧ s.ringRuns = true ∧ s.portUp p = true ∧ s.ringState = 2) ∧
    (∃ (s : State) (p : Port), s.coreRuns = true ∧ s.ringRuns = true ∧ s.portUp p = true ∧ s.ringState = 2) ∧
    (∃ (s : State) (slot : Fin 1024) (p : Port), s.coreRuns = true ∧ s.ringRuns = true ∧ s.portUp p = true ∧ s.ringState = 4 ∧
      (s.memberAt slot).isSome = true) ∧
    (∃ (s : State) (p : Port), s.ringRuns = true ∧ s.portUp p = true ∧ s.ringState = 4) ∧
    (∃ (s : State) (entries : List Word) (p : Port), s.policyRests ∧ s.ringRuns = true ∧ s.portUp p = true ∧ s.ringState = 3 ∧
      s.ring.liveOk = true ∧ entries.length = 16) ∧
    (∃ (s : State) (p : Port), s.policyRests ∧ s.ringRuns = true ∧ s.portUp p = true ∧ s.ringState = 3 ∧ s.ring.liveOk = true) := by
  refine ⟨⟨dev |>.put F.RING_STAT_STATE 3 |>.put F.RING_CTRL_EN_A 1 |>.put F.RING_CTRL_EN_B 1, .b, ?_, ?_⟩,
    ⟨dev |>.put F.RING_STAT_STATE 3 |>.put F.RING_CTRL_EN_A 1 |>.put F.RING_CTRL_EN_B 1, .b, ?_, ?_⟩,
    ⟨dev |>.put F.RING_CTRL_EN_A 1 |>.put F.RING_CTRL_EN_B 1 |>.put F.RING_STAT_STATE 4 |>.modRing (fun r =>
      { r with next := { roster := [(6138, 3)] } }), 7, 1023, false, [3, 0, 0, 0, 0, 0], 0, 0, 0, 0, .a, ?_, ?_, ?_, ?_, ?_, ?_⟩,
    ⟨dev |>.put F.RING_CTRL_EN_A 1 |>.put F.RING_CTRL_EN_B 1 |>.put F.RING_STAT_STATE 4 |>.put F.RING_CFG_SLOT 1023, 7, 1023, .a, ?_, ?_,
      ?_, ?_, ?_, ?_⟩,
    ⟨dev |>.put F.RING_CTRL_EN_A 1 |>.put F.RING_CTRL_EN_B 1 |>.put F.RING_STAT_STATE 3, .b, ?_, ?_, ?_⟩,
    ⟨dev |>.put F.RING_CTRL_EN_A 1 |>.put F.RING_CTRL_EN_B 1 |>.put F.RING_STAT_STATE 2, .a,
      (by constructor <;> first | decide +kernel | (constructor <;> decide +kernel)), (by constructor <;> decide +kernel), ?_, ?_, ?_⟩,
    ⟨dev |>.put F.RING_CTRL_EN_A 1 |>.put F.RING_CTRL_EN_B 1 |>.put F.RING_STAT_STATE 2, .a, ?_, ?_, ?_, ?_⟩,
    ⟨dev |>.put F.RING_CTRL_EN_A 1 |>.put F.RING_CTRL_EN_B 1 |>.put F.RING_STAT_STATE 4 |>.modRing (fun r =>
      { r with members := [{ slot := 1023, uid := 7 }] }), 1023, .a, ?_, ?_, ?_, ?_, ?_⟩,
    ⟨dev |>.put F.RING_CTRL_EN_A 1 |>.put F.RING_CTRL_EN_B 1 |>.put F.RING_STAT_STATE 4, .b, ?_, ?_, ?_⟩,
    ⟨dev |>.put F.RING_CTRL_EN_A 1 |>.put F.RING_CTRL_EN_B 1 |>.put F.RING_STAT_STATE 3 |>.modRing (fun r => { r with liveOk := true }),
      List.replicate 16 5, .a, (by constructor <;> decide +kernel), ?_, ?_, ?_, ?_, ?_⟩,
    ⟨dev |>.put F.RING_CTRL_EN_A 1 |>.put F.RING_CTRL_EN_B 1 |>.put F.RING_STAT_STATE 3 |>.modRing (fun r => { r with liveOk := true }),
      .a, (by constructor <;> decide +kernel), ?_, ?_, ?_, ?_⟩⟩
    <;> first | decide +kernel | (constructor <;> decide +kernel)

theorem test_hyps_ring_breaks_and_writes :
    (∃ (s : State), s.policyRests ∧ s.ringRuns = true ∧ s.ringState = 3 ∧ s.get F.RING_GEN_NGEN ≠ s.get F.RING_GEN_GEN ∧
      s.roundNow.setWidth 16 = s.ring.nextAt ∧ s.ring.complete = false) ∧
    (∃ (s : State) (slot : Fin 1024) (m : RingMember), s.coreRuns = true ∧ s.ringRuns = true ∧ s.ringState = 4 ∧ s.memberAt slot = some m
      ∧ s.lostRounds ≤ m.lost) ∧
    (∃ (s : State), s.policyRests ∧ s.ringRuns = true ∧ s.ringState = 3 ∧ s.ringRole = 2 ∧ s.ring.wasLocked = true ∧ 3 ≤ s.ring.noHeader) ∧
    (∃ (s : State) (p : Port), s.coreRuns = true ∧ s.ringRuns = true ∧ s.portOn p = true ∧ s.on (wrapFld p) = false) ∧
    (∃ (s : State) (p : Port) (c : PortLoss), s.sys.phase ≠ .keep ∧ s.ring.loss p = [c]) ∧
    (∃ (s : State) (p : Port), s.coreRuns = true ∧ s.ringRuns = true ∧ s.portOn p = true ∧ s.on (wrapFld p) = true ∧ s.ring.loss p = [] ∧
      s.ring.clearSince p + 400000 ≤ s.count ∧ s.atIssue = true) ∧
    (∃ (s : State) (w : World) (v : Word), s.accepts w R.RING_CTRL v ∧ s.policyRests ∧ s.ringState = 0 ∧ s.ringRole ≠ 1 ∧ s.get
      ⟨R.RING_CTRL, 0, 2⟩ = 0 ∧ getBits v 0 2 ≠ 0 ∧ getBits v 2 2 = 0 ∧ s.on F.CLK_STAT_SSC0_ON = false) ∧
    (∃ (s : State) (w : World) (v : Word), s.accepts w R.RING_CTRL (v ||| 4) ∧ s.policyRests ∧ s.ringState = 1 ∧ s.switching = false ∧
      getBits v 0 2 = s.get ⟨R.RING_CTRL, 0, 2⟩ ∧ bitAt v 3 = false ∧ bitAt v 31 = false ∧ ((s.portOn .a = true ∧ s.on F.RING_STAT_LOCK_A
      = true ∧ s.ring.lossA = []) ∨ (s.portOn .b = true ∧ s.on F.RING_STAT_LOCK_B = true ∧ s.ring.lossB = [])) ∧ s.get
      F.CLK_SYN0_DISC_SRC ≠ 0) ∧
    (∃ (s : State) (w : World) (v : Word), s.accepts w R.RING_CTRL (v ||| 4) ∧ s.policyRests ∧ s.ringState = 1 ∧ s.switching = false ∧
      getBits v 0 2 = s.get ⟨R.RING_CTRL, 0, 2⟩ ∧ bitAt v 3 = false ∧ bitAt v 31 = false ∧ ((s.portOn .a = true ∧ s.on F.RING_STAT_LOCK_A
      = true ∧ s.ring.lossA = []) ∨ (s.portOn .b = true ∧ s.on F.RING_STAT_LOCK_B = true ∧ s.ring.lossB = [])) ∧ s.get
      F.CLK_SYN0_DISC_SRC = 0) ∧
    (∃ (s : State) (w : World) (v : Word), s.accepts w R.RING_CTRL (v ||| 8) ∧ s.policyRests ∧ s.ringState = 3 ∧ s.ringOn = true ∧
      getBits v 0 2 = s.get ⟨R.RING_CTRL, 0, 2⟩ ∧ bitAt v 2 = false ∧ bitAt v 31 = false) ∧
    (∃ (s : State) (w : World) (i : Fin 128) (v : Word), s.accepts w (R.RING_TXWw i) v) := by
  refine ⟨⟨dev |>.put F.RING_STAT_STATE 3 |>.modRing (fun r => { r with nextAt := 0 }) |>.put F.RING_GEN_NGEN 1,
      (by constructor <;> decide +kernel), ?_, ?_, ?_, ?_, ?_⟩,
    ⟨dev |>.put F.RING_STAT_STATE 4 |>.modRing (fun r => { r with members := [{ slot := 1023, uid := 7, lost := 255 }] }), 1023,
      { slot := 1023, uid := 7, lost := 255 }, ?_, ?_, ?_, ?_, ?_⟩,
    ⟨dev |>.put F.RING_STAT_STATE 3 |>.put F.RING_CFG_ROLE 2 |>.modRing (fun r => { r with wasLocked := true, noHeader := 3 }),
      (by constructor <;> decide +kernel), ?_, ?_, ?_, ?_, ?_⟩,
    ⟨dev |>.put F.RING_STAT_STATE 3 |>.put F.RING_CTRL_EN_A 1 |>.put F.RING_CTRL_EN_B 1 |>.put F.RING_STAT_WRAP_B 0, .b, ?_, ?_, ?_, ?_⟩,
    ⟨dev |>.modRing (fun r => { r with lossB := [.los] }), .b, .los, ?_, ?_⟩,
    ⟨dev |>.put F.RING_STAT_STATE 3 |>.put F.RING_CTRL_EN_A 1 |>.put F.RING_CTRL_EN_B 1 |>.put F.RING_STAT_WRAP_B 1 |>.put
      F.RING_CTRL_EN_A 1 |>.put F.RING_CTRL_EN_B 1 |>.atCount 400000, .b, ?_, ?_, ?_, ?_, ?_, ?_, ?_⟩,
    ⟨svc |>.put F.RING_STAT_STATE 0 |>.put ⟨R.RING_CTRL, 0, 2⟩ 0 |>.put F.CLK_STAT_SSC0_ON 0, .secure, 3, ?_,
      (by constructor <;> decide +kernel), ?_, ?_, ?_, ?_, ?_, ?_⟩,
    ⟨dev |>.put F.RING_CTRL_EN_A 1 |>.put F.RING_CTRL_EN_B 1 |>.put F.RING_STAT_STATE 1 |>.put F.CLK_SYN0_DISC_SRC 1 |>.put
      F.RING_CTRL_EN_A 0 |>.put F.RING_STAT_LOCK_B 1 |>.put F.CLK_SYN0_DISC_SRC 1, .secure, 2, ?_, (by constructor <;> decide +kernel),
      ?_, ?_, ?_, ?_, ?_, ?_, ?_⟩,
    ⟨dev |>.put F.RING_CTRL_EN_A 1 |>.put F.RING_CTRL_EN_B 1 |>.put F.RING_STAT_STATE 1 |>.put F.CLK_SYN0_DISC_SRC 0 |>.put
      F.RING_CTRL_EN_A 0 |>.put F.RING_STAT_LOCK_B 1 |>.put F.CLK_SYN0_DISC_SRC 0, .secure, 2, ?_, (by constructor <;> decide +kernel),
      ?_, ?_, ?_, ?_, ?_, ?_, ?_⟩,
    ⟨dev |>.put F.RING_STAT_STATE 3 |>.put F.RING_CTRL_EN_A 1, .secure, 1, ?_, (by constructor <;> decide +kernel), ?_, ?_, ?_, ?_, ?_⟩,
    ⟨svc, .secure, 127, 0, ?_⟩⟩
    <;> first | decide +kernel | (constructor <;> decide +kernel)

theorem test_hyps_mill_arithmetic_and_bits :
    (∃ (s : State) (ln : Fin 4) (k : Nat) (x : Slot), s.issuing ln = some (k, x) ∧ x.op = 0x01) ∧
    (∃ (s : State) (ln : Fin 4) (k : Nat) (x : Slot), s.issuing ln = some (k, x) ∧ x.op = 0x02) ∧
    (∃ (s : State) (ln : Fin 4) (k : Nat) (x : Slot), s.issuing ln = some (k, x) ∧ x.op = 0x03) ∧
    (∃ (s : State) (ln : Fin 4) (k : Nat) (x : Slot), s.issuing ln = some (k, x) ∧ x.op = 0x04) ∧
    (∃ (s : State) (ln : Fin 4) (k : Nat) (x : Slot), s.issuing ln = some (k, x) ∧ x.op = 0x05) ∧
    (∃ (s : State) (ln : Fin 4) (k : Nat) (x : Slot), s.issuing ln = some (k, x) ∧ x.op = 0x06) ∧
    (∃ (s : State) (ln : Fin 4) (k : Nat) (x : Slot), s.issuing ln = some (k, x) ∧ x.op = 0x07) ∧
    (∃ (s : State) (ln : Fin 4) (k : Nat) (x : Slot), s.issuing ln = some (k, x) ∧ x.op = 0x08) ∧
    (∃ (s : State) (ln : Fin 4) (k : Nat) (x : Slot), s.issuing ln = some (k, x) ∧ x.op = 0x09) ∧
    (∃ (s : State) (ln : Fin 4) (k : Nat) (x : Slot), s.issuing ln = some (k, x) ∧ x.op = 0x0A) ∧
    (∃ (s : State) (ln : Fin 4) (k : Nat) (x : Slot), s.issuing ln = some (k, x) ∧ x.op = 0x00) ∧
    (∃ (s : State) (ln : Fin 4) (k : Nat) (x : Slot), s.issuing ln = some (k, x) ∧ x.op = 0x0B) ∧
    (∃ (s : State) (ln : Fin 4) (k : Nat) (x : Slot), s.issuing ln = some (k, x) ∧ x.op = 0x0C) ∧
    (∃ (s : State) (ln : Fin 4) (k : Nat) (x : Slot), s.issuing ln = some (k, x) ∧ x.op = 0x0D) ∧
    (∃ (s : State) (ln : Fin 4) (k : Nat) (x : Slot), s.issuing ln = some (k, x) ∧ x.op = 0x0E) ∧
    (∃ (s : State) (ln : Fin 4) (k : Nat) (x : Slot), s.issuing ln = some (k, x) ∧ x.op = 0x0F) ∧
    (∃ (s : State) (ln : Fin 4) (k : Nat) (x : Slot), s.issuing ln = some (k, x) ∧ x.op = 0x10) ∧
    (∃ (s : State) (ln : Fin 4) (k : Nat) (x : Slot), s.issuing ln = some (k, x) ∧ x.op = 0x11) ∧
    (∃ (s : State) (ln : Fin 4) (k : Nat) (x : Slot), s.issuing ln = some (k, x) ∧ x.op = 0x12) ∧
    (∃ (s : State) (ln : Fin 4) (k : Nat) (x : Slot), s.issuing ln = some (k, x) ∧ x.op = 0x13 ∧ (s.lane ln).c.getLsbD x.flag = true) ∧
    (∃ (s : State) (ln : Fin 4) (k : Nat) (x : Slot), s.issuing ln = some (k, x) ∧ x.op = 0x13 ∧ (s.lane ln).c.getLsbD x.flag = false) ∧
    (∃ (s : State) (ln : Fin 4) (k : Nat) (x : Slot), s.issuing ln = some (k, x) ∧ x.op = 0x14) ∧
    (∃ (s : State) (ln : Fin 4) (k : Nat) (x : Slot), s.issuing ln = some (k, x) ∧ x.op = 0x15) ∧
    (∃ (s : State) (ln : Fin 4) (k : Nat) (x : Slot), s.issuing ln = some (k, x) ∧ x.op = 0x16) ∧
    (∃ (s : State) (ln : Fin 4) (k : Nat) (x : Slot), s.issuing ln = some (k, x) ∧ x.op = 0x17) ∧
    (∃ (s : State) (ln : Fin 4) (k : Nat) (x : Slot), s.issuing ln = some (k, x) ∧ x.op = 0x18) := by
  refine ⟨⟨issues 0x4000000, 1, 0, slotOf 0x4000000, ?_, ?_⟩,
    ⟨issues 0x8000000, 1, 0, slotOf 0x8000000, ?_, ?_⟩,
    ⟨issues 0xC000000, 1, 0, slotOf 0xC000000, ?_, ?_⟩,
    ⟨issues 0x10000000, 1, 0, slotOf 0x10000000, ?_, ?_⟩,
    ⟨issues 0x14000000, 1, 0, slotOf 0x14000000, ?_, ?_⟩,
    ⟨issues 0x18000000, 1, 0, slotOf 0x18000000, ?_, ?_⟩,
    ⟨issues 0x1C000000, 1, 0, slotOf 0x1C000000, ?_, ?_⟩,
    ⟨issues 0x20000000, 1, 0, slotOf 0x20000000, ?_, ?_⟩,
    ⟨issues 0x24000000, 1, 0, slotOf 0x24000000, ?_, ?_⟩,
    ⟨issues 0x28000000, 1, 0, slotOf 0x28000000, ?_, ?_⟩,
    ⟨issues 0x0, 1, 0, slotOf 0x0, ?_, ?_⟩,
    ⟨issues 0x2C000000, 1, 0, slotOf 0x2C000000, ?_, ?_⟩,
    ⟨issues 0x30000000, 1, 0, slotOf 0x30000000, ?_, ?_⟩,
    ⟨issues 0x34000000, 1, 0, slotOf 0x34000000, ?_, ?_⟩,
    ⟨issues 0x38000000, 1, 0, slotOf 0x38000000, ?_, ?_⟩,
    ⟨issues 0x3C000000, 1, 0, slotOf 0x3C000000, ?_, ?_⟩,
    ⟨issues 0x40000000, 1, 0, slotOf 0x40000000, ?_, ?_⟩,
    ⟨issues 0x44000000, 1, 0, slotOf 0x44000000, ?_, ?_⟩,
    ⟨issues 0x48000000, 1, 0, slotOf 0x48000000, ?_, ?_⟩,
    ⟨issues 0x4C000000 |>.modLane 1 (fun x => { x with c := 1 }), 1, 0, slotOf 0x4C000000, ?_, ?_, ?_⟩,
    ⟨issues 0x4C000000, 1, 0, slotOf 0x4C000000, ?_, ?_, ?_⟩,
    ⟨issues 0x50000000, 1, 0, slotOf 0x50000000, ?_, ?_⟩,
    ⟨issues 0x54000000, 1, 0, slotOf 0x54000000, ?_, ?_⟩,
    ⟨issues 0x58000000, 1, 0, slotOf 0x58000000, ?_, ?_⟩,
    ⟨issues 0x5C000000, 1, 0, slotOf 0x5C000000, ?_, ?_⟩,
    ⟨issues 0x60000000, 1, 0, slotOf 0x60000000, ?_, ?_⟩⟩
    <;> first | decide +kernel | (constructor <;> decide +kernel)

theorem test_hyps_mill_fixed_point :
    (∃ (s : State) (ln : Fin 4) (k : Nat) (x : Slot), s.issuing ln = some (k, x) ∧ x.fixed = true ∧ k < 8 ∧ x.op = 0x01) ∧
    (∃ (s : State) (ln : Fin 4) (k : Nat) (x : Slot), s.issuing ln = some (k, x) ∧ x.fixed = true ∧ k < 8 ∧ x.op = 0x02) ∧
    (∃ (s : State) (ln : Fin 4) (k : Nat) (x : Slot), s.issuing ln = some (k, x) ∧ x.fixed = true ∧ k < 8 ∧ x.op = 0x03) ∧
    (∃ (s : State) (ln : Fin 4) (k : Nat) (x : Slot), s.issuing ln = some (k, x) ∧ x.fixed = true ∧ k < 8 ∧ x.op = 0x04) ∧
    (∃ (s : State) (ln : Fin 4) (k : Nat) (x : Slot), s.issuing ln = some (k, x) ∧ x.fixed = true ∧ k < 8 ∧ x.op = 0x05) ∧
    (∃ (s : State) (ln : Fin 4) (k : Nat) (x : Slot), s.issuing ln = some (k, x) ∧ x.fixed = true ∧ k < 8 ∧ x.op = 0x06) ∧
    (∃ (s : State) (ln : Fin 4) (k : Nat) (x : Slot), s.issuing ln = some (k, x) ∧ x.fixed = true ∧ k < 8 ∧ x.op = 0x07) ∧
    (∃ (s : State) (ln : Fin 4) (k : Nat) (x : Slot), s.issuing ln = some (k, x) ∧ x.fixed = true ∧ k < 8 ∧ x.op = 0x08) := by
  refine ⟨⟨issues 0x4000800, 1, 0, slotOf 0x4000800, ?_, ?_, ?_, ?_⟩,
    ⟨issues 0x8000800, 1, 0, slotOf 0x8000800, ?_, ?_, ?_, ?_⟩,
    ⟨issues 0xC000800, 1, 0, slotOf 0xC000800, ?_, ?_, ?_, ?_⟩,
    ⟨issues 0x10000800, 1, 0, slotOf 0x10000800, ?_, ?_, ?_, ?_⟩,
    ⟨issues 0x14000800, 1, 0, slotOf 0x14000800, ?_, ?_, ?_, ?_⟩,
    ⟨issues 0x18000800, 1, 0, slotOf 0x18000800, ?_, ?_, ?_, ?_⟩,
    ⟨issues 0x1C000800, 1, 0, slotOf 0x1C000800, ?_, ?_, ?_, ?_⟩,
    ⟨issues 0x20000800, 1, 0, slotOf 0x20000800, ?_, ?_, ?_, ?_⟩⟩
    <;> first | decide +kernel | (constructor <;> decide +kernel)

theorem test_hyps_mill_transforms :
    (∃ (s : State) (ln : Fin 4) (k : Fin 8) (x : Slot), s.issuing ln = some (k.val, x) ∧ x.fixed = true ∧ x.op = 0x1F) ∧
    (∃ (s : State) (ln : Fin 4) (k : Fin 8) (x : Slot), s.issuing ln = some (k.val, x) ∧ x.fixed = true ∧ x.op = 0x20) ∧
    (∃ (s : State) (ln : Fin 4) (k : Fin 8) (x : Slot), s.issuing ln = some (k.val, x) ∧ x.fixed = true ∧ x.op = 0x21) ∧
    (∃ (s : State) (ln : Fin 4) (k : Nat) (x : Slot), s.issuing ln = some (k, x) ∧ x.void = false ∧ x.op = 0x19) ∧
    (∃ (s : State) (ln : Fin 4) (k : Nat) (x : Slot), s.issuing ln = some (k, x) ∧ x.void = false ∧ x.op = 0x1A) ∧
    (∃ (s : State) (ln : Fin 4) (k : Nat) (x : Slot), s.issuing ln = some (k, x) ∧ x.void = false ∧ x.op = 0x1B) ∧
    (∃ (s : State) (ln : Fin 4) (k : Nat) (x : Slot), s.issuing ln = some (k, x) ∧ x.void = false ∧ x.op = 0x1C) ∧
    (∃ (s : State) (ln : Fin 4) (k : Nat) (x : Slot), s.issuing ln = some (k, x) ∧ x.void = false ∧ x.op = 0x1D ∧ x.d % 16 ≠ x.b % 16 ∧
      x.d % 16 ≠ (x.b + 1) % 16) ∧
    (∃ (s : State) (ln : Fin 4) (k : Nat) (x : Slot), s.issuing ln = some (k, x) ∧ x.void = false ∧ x.op = 0x1E) ∧
    (∃ (s : State) (ln : Fin 4) (k : Nat) (x : Slot) (q : Rat) (z : Bool), let g := fun r => (s.lane ln).get r;
      let ptr := (s.lane ln).ptr x.ar; let n := max 2 (min 2045 (s.coef k (ptr + 2)).toNat); s.issuing ln = some (k, x) ∧ x.void = false
      ∧ x.op = 0x1F ∧ (((ofSingle (g x.a)).add (ofSingle (s.coef k ptr)).neg).mul (ofSingle (s.coef k (ptr + 1)))).clamp (.ofRat 0)
      (.ofRat ((n - 1 : Nat) : Rat)) = .fin q z) ∧
    (∃ (s : State) (ln : Fin 4) (k : Nat) (x : Slot), s.issuing ln = some (k, x) ∧ x.void = false ∧ x.op = 0x20) ∧
    (∃ (s : State) (ln : Fin 4) (k : Nat) (x : Slot), s.issuing ln = some (k, x) ∧ x.void = false ∧ x.op = 0x21) := by
  refine ⟨⟨issues 0x7C000800, 1, 0, slotOf 0x7C000800, ?_, ?_, ?_⟩,
    ⟨issues 0x80000800, 1, 0, slotOf 0x80000800, ?_, ?_, ?_⟩,
    ⟨issues 0x84000800, 1, 0, slotOf 0x84000800, ?_, ?_, ?_⟩,
    ⟨issues 0x64000000, 1, 0, slotOf 0x64000000, ?_, ?_, ?_⟩,
    ⟨issues 0x68000000, 1, 0, slotOf 0x68000000, ?_, ?_, ?_⟩,
    ⟨issues 0x6C000000, 1, 0, slotOf 0x6C000000, ?_, ?_, ?_⟩,
    ⟨issues 0x70000000, 1, 0, slotOf 0x70000000, ?_, ?_, ?_⟩,
    ⟨issues 0x75400000, 1, 0, slotOf 0x75400000, ?_, ?_, ?_, ?_, ?_⟩,
    ⟨issues 0x78000000, 1, 0, slotOf 0x78000000, ?_, ?_, ?_⟩,
    ⟨issues 0x7C000000, 1, 0, slotOf 0x7C000000, default, false, ?_, ?_, ?_, ?_⟩,
    ⟨issues 0x80000000, 1, 0, slotOf 0x80000000, ?_, ?_, ?_⟩,
    ⟨issues 0x84000000, 1, 0, slotOf 0x84000000, ?_, ?_, ?_⟩⟩
    <;> first | decide +kernel | (constructor <;> decide +kernel)

theorem test_hyps_mill_accumulator_memory_and_task :
    (∃ (s : State) (ln : Fin 4) (k : Nat) (x : Slot), s.issuing ln = some (k, x) ∧ x.void = false ∧ k < 8 ∧ s.Shaped ∧ x.mac = 1 ∧
      x.fixed = true) ∧
    (∃ (s : State) (ln : Fin 4) (k : Nat) (x : Slot), s.issuing ln = some (k, x) ∧ x.void = false ∧ k < 8 ∧ s.Shaped ∧ x.mac = 2 ∧
      x.fixed = true) ∧
    (∃ (s : State) (ln : Fin 4) (k : Nat) (x : Slot), s.issuing ln = some (k, x) ∧ x.void = false ∧ k < 8 ∧ s.Shaped ∧ x.mac = 3 ∧
      x.fixed = true) ∧
    (∃ (s : State) (ln : Fin 4) (k : Nat) (x : Slot), s.issuing ln = some (k, x) ∧ x.void = false ∧ k < 8 ∧ s.Shaped ∧ x.fixed = false ∧
      x.mac = 1) ∧
    (∃ (s : State) (ln : Fin 4) (k : Nat) (x : Slot), s.issuing ln = some (k, x) ∧ x.void = false ∧ k < 8 ∧ s.Shaped ∧ x.fixed = false ∧
      x.mac = 2) ∧
    (∃ (s : State) (ln : Fin 4) (k : Nat) (x : Slot), s.issuing ln = some (k, x) ∧ x.void = false ∧ k < 8 ∧ s.Shaped ∧ x.fixed = false ∧
      x.mac = 3) ∧
    (∃ (s : State) (ln : Fin 4) (k : Nat) (x : Slot), s.issuing ln = some (k, x) ∧ x.void = false ∧ k < 8 ∧ s.Shaped ∧ x.ls = 1) ∧
    (∃ (s : State) (ln : Fin 4) (k : Nat) (x : Slot), let ptr := (s.lane ln).ptr x.ar; s.issuing ln = some (k, x) ∧ x.void = false ∧ k <
      8 ∧ s.Shaped ∧ x.ls = 2 ∧ s.mayStore k ptr = true) ∧
    (∃ (s : State) (ln : Fin 4) (k : Nat) (x : Slot), let ptr := (s.lane ln).ptr x.ar; s.issuing ln = some (k, x) ∧ x.void = false ∧ k <
      8 ∧ s.Shaped ∧ x.ls = 2 ∧ s.mayStore k ptr = false) ∧
    (∃ (s : State) (ln : Fin 4) (k : Nat) (x : Slot), s.issuing ln = some (k, x) ∧ x.void = false ∧ k < 8 ∧ s.Shaped ∧ x.op = 0x22) ∧
    (∃ (s : State) (ln : Fin 4) (k : Nat) (x : Slot), s.issuing ln = some (k, x) ∧ x.void = false ∧ k < 8 ∧ s.Shaped ∧ x.op = 0x23) ∧
    (∃ (s : State) (ln : Fin 4) (k : Nat) (x : Slot), s.issuing ln = some (k, x) ∧ x.void = false ∧ k < 8 ∧ s.Shaped ∧ x.op = 0x24) ∧
    (∃ (s : State) (ln : Fin 4) (k : Nat) (x : Slot), s.issuing ln = some (k, x) ∧ x.void = false ∧ k < 8 ∧ s.Shaped ∧ 0x25 ≤ x.op) := by
  refine ⟨⟨issues 0x1800, 1, 0, slotOf 0x1800, ?_, ?_, ?_, (by constructor <;> first | decide +kernel | (constructor <;> decide +kernel)), ?_,
      ?_⟩,
    ⟨issues 0x2800, 1, 0, slotOf 0x2800, ?_, ?_, ?_, (by constructor <;> first | decide +kernel | (constructor <;> decide +kernel)), ?_,
      ?_⟩,
    ⟨issues 0x3800, 1, 0, slotOf 0x3800, ?_, ?_, ?_, (by constructor <;> first | decide +kernel | (constructor <;> decide +kernel)), ?_,
      ?_⟩,
    ⟨issues 0x1000, 1, 0, slotOf 0x1000, ?_, ?_, ?_, (by constructor <;> first | decide +kernel | (constructor <;> decide +kernel)), ?_,
      ?_⟩,
    ⟨issues 0x2000, 1, 0, slotOf 0x2000, ?_, ?_, ?_, (by constructor <;> first | decide +kernel | (constructor <;> decide +kernel)), ?_,
      ?_⟩,
    ⟨issues 0x3000, 1, 0, slotOf 0x3000, ?_, ?_, ?_, (by constructor <;> first | decide +kernel | (constructor <;> decide +kernel)), ?_,
      ?_⟩,
    ⟨issues 0x200, 1, 0, slotOf 0x200, ?_, ?_, ?_, (by constructor <;> first | decide +kernel | (constructor <;> decide +kernel)), ?_⟩,
    ⟨issues 0x400, 1, 0, slotOf 0x400, ?_, ?_, ?_, (by constructor <;> first | decide +kernel | (constructor <;> decide +kernel)), ?_,
      ?_⟩,
    ⟨issues 0x400 |>.modLane 1 (fun x => { x with a := [0x2000] }), 1, 0, slotOf 0x400, ?_, ?_, ?_,
      (by constructor <;> first | decide +kernel | (constructor <;> decide +kernel)), ?_, ?_⟩,
    ⟨issues 0x88000000, 1, 0, slotOf 0x88000000, ?_, ?_, ?_,
      (by constructor <;> first | decide +kernel | (constructor <;> decide +kernel)), ?_⟩,
    ⟨issues 0x8C000000, 1, 0, slotOf 0x8C000000, ?_, ?_, ?_,
      (by constructor <;> first | decide +kernel | (constructor <;> decide +kernel)), ?_⟩,
    ⟨issues 0x90000000, 1, 0, slotOf 0x90000000, ?_, ?_, ?_,
      (by constructor <;> first | decide +kernel | (constructor <;> decide +kernel)), ?_⟩,
    ⟨issues 0x94000000, 1, 0, slotOf 0x94000000, ?_, ?_, ?_,
      (by constructor <;> first | decide +kernel | (constructor <;> decide +kernel)), ?_⟩⟩
    <;> first | decide +kernel | (constructor <;> decide +kernel)

theorem test_hyps_mill_frames :
    (∃ (s : State) (k : Fin 8), s.Shaped ∧ s.millRuns = true ∧ (s.task k).inFrame = true ∧ (s.task k).inputDone = false ∧ s.due ((s.task
      k).start + 64) = true) ∧
    (∃ (s : State) (k : Fin 8), s.Shaped ∧ s.policyDue k = true ∧ s.policyOf k = 0 ∧ s.on (F.MILL_TASKt_STAT_HOLDING k) = false) ∧
    (∃ (s : State) (k : Fin 8), s.Shaped ∧ s.policyDue k = true ∧ s.policyOf k = 1 ∧ s.on (F.MILL_TASKt_STAT_FALLBACK k) = false) ∧
    (∃ (s : State) (k : Fin 8), s.Shaped ∧ s.policyDue k = true ∧ s.policyOf k = 2 ∧ s.on (F.MILL_TASKt_STAT_TRIPPED k) = false) ∧
    (∃ (s : State) (k : Fin 8), s.Shaped ∧ s.millRuns = true ∧ (s.task k).inFrame = true ∧ (s.task k).inputDone = true ∧ (s.task
      k).started = false ∧ s.due ((s.task k).start + s.taskOffset k) = true ∧ s.mayRun k = true ∧ s.mill.running = none) ∧
    (∃ (s : State) (k : Fin 8), s.Shaped ∧ s.mill.running = some k.val ∧ 4096 ≤ s.mill.pc ∧ s.mill.ending = none) ∧
    (∃ (s : State), s.coreRuns = true ∧ s.Shaped) ∧
    (∃ (s : State) (k : Fin 8), s.pending = [] ∧ s.coreRuns = true ∧ s.mill.ending = some k.val) ∧
    (∃ (s : State), s.mill.running = none ∧ s.mill.correctable.contains (Config.millScrub s.draws) = true) ∧
    (∃ (s : State) (b : Nat), s.mill.running = none ∧ s.mill.correctable.contains (Config.millScrub s.draws) = true ∧ b ≠ R.MILL_STAT) ∧
    (∃ (s : State) (w : World) (k : Fin 8) (v : Word), s.Shaped ∧ s.accepts w (R.MILL_TASKt_CTRL k) (v ||| 2)) ∧
    (∃ (s : State) (w : World) (k : Fin 8) (v : Word), s.Shaped ∧ s.accepts w (R.MILL_TASKt_CTRL k) (v ||| 1)) ∧
    (∃ (s : State) (w : World) (k : Fin 8) (v : Word), s.Shaped ∧ s.accepts w (R.MILL_TASKt_CTRL k) (v ||| 4)) := by
  refine ⟨⟨dev |>.modMill (fun m => { m with active := true }) |>.modTask 7 (fun x => { x with inFrame := true }) |>.atCount 64, 7,
      (by constructor <;> first | decide +kernel | (constructor <;> decide +kernel)), ?_, ?_, ?_, ?_⟩,
    ⟨dev |>.put (F.MILL_TASKt_STAT_HOLDING 7) 0 |>.modMill (fun m => { m with active := true }) |>.modTask 7 (fun x =>
      { x with inFrame := true, inputDone := true }) |>.put (F.MILL_TASKt_POL_POLICY 7) 0 |>.put (F.MILL_TASKt_STAT_L 7) 15 |>.put
      (F.MILL_TASKt_POL_LOSS_N 7) 15, 7, (by constructor <;> first | decide +kernel | (constructor <;> decide +kernel)), ?_, ?_, ?_⟩,
    ⟨dev |>.put (F.MILL_TASKt_STAT_FALLBACK 7) 0 |>.modMill (fun m => { m with active := true }) |>.modTask 7 (fun x =>
      { x with inFrame := true, inputDone := true }) |>.put (F.MILL_TASKt_POL_POLICY 7) 1 |>.put (F.MILL_TASKt_STAT_L 7) 15 |>.put
      (F.MILL_TASKt_POL_LOSS_N 7) 15, 7, (by constructor <;> first | decide +kernel | (constructor <;> decide +kernel)), ?_, ?_, ?_⟩,
    ⟨dev |>.put (F.MILL_TASKt_STAT_TRIPPED 7) 0 |>.modMill (fun m => { m with active := true }) |>.modTask 7 (fun x =>
      { x with inFrame := true, inputDone := true }) |>.put (F.MILL_TASKt_POL_POLICY 7) 2 |>.put (F.MILL_TASKt_STAT_L 7) 15 |>.put
      (F.MILL_TASKt_POL_LOSS_N 7) 15, 7, (by constructor <;> first | decide +kernel | (constructor <;> decide +kernel)), ?_, ?_, ?_⟩,
    ⟨dev |>.modMill (fun m => { m with active := true }) |>.modTask 7 (fun x => { x with inFrame := true, inputDone := true }) |>.put
      (F.MILL_TASKt_TIME_OFFSET 7) 64 |>.atCount 64, 7, (by constructor <;> first | decide +kernel | (constructor <;> decide +kernel)),
      ?_, ?_, ?_, ?_, ?_, ?_, ?_⟩,
    ⟨dev |>.modMill (fun m => { m with running := some 7, pc := 4096 }), 7,
      (by constructor <;> first | decide +kernel | (constructor <;> decide +kernel)), ?_, ?_, ?_⟩,
    ⟨dev, ?_, (by constructor <;> first | decide +kernel | (constructor <;> decide +kernel))⟩,
    ⟨dev |>.modMill (fun m => { m with ending := some 7 }), 7, ?_, ?_, ?_⟩,
    ⟨dev |>.modMill (fun m => { m with correctable := [Config.millScrub 0] }), by decide +kernel, List.contains_iff_mem.2
      (List.mem_singleton.2 rfl)⟩,
    ⟨dev |>.modMill (fun m => { m with correctable := [Config.millScrub 0] }), 0, by decide +kernel, List.contains_iff_mem.2
      (List.mem_singleton.2 rfl), by decide +kernel⟩,
    ⟨svc, .secure, 7, 0, (by constructor <;> first | decide +kernel | (constructor <;> decide +kernel)), ?_⟩,
    ⟨svc, .secure, 7, 0, (by constructor <;> first | decide +kernel | (constructor <;> decide +kernel)), ?_⟩,
    ⟨svc, .secure, 7, 0, (by constructor <;> first | decide +kernel | (constructor <;> decide +kernel)), ?_⟩⟩
    <;> first | decide +kernel | (constructor <;> decide +kernel)

theorem test_hyps_memory_upkeep_and_events :
    (∃ (s : State), s.coreRuns = true ∧ s.count % 128 = 0 ∧ s.mem.scrubNext < 524288 ∧ ¬ 4 * s.mem.scrubNext ∈ s.mem.sramBad ∧ ¬ 4 *
      s.mem.scrubNext ∈ s.mem.sramCorrectable) ∧
    (∃ (s : State), s.coreRuns = true ∧ s.count % 128 = 0 ∧ s.mem.scrubNext < 524288 ∧ ¬ 4 * s.mem.scrubNext ∈ s.mem.sramBad ∧ ¬ 4 *
      s.mem.scrubNext ∈ s.mem.sramCorrectable ∧ s.on F.WLD_ECC_UE = false) ∧
    (∃ (s : State), s.due s.mem.refreshAt = false) ∧
    (∃ (s : State), s.sys.phase = .run ∧ s.due s.mem.refreshAt = true ∧ s.mem.worn = []) ∧
    (∃ (s : State), s.sys.phase = .run ∧ s.due s.mem.refreshAt = true ∧ s.mem.worn = [] ∧ s.mem.spares ≤ 512) ∧
    (∃ (s : State), s.sys.phase = .run ∧ s.due s.mem.refreshAt = true ∧ s.on F.WLD_FAULT_INFO_VALID = false) ∧
    (∃ (s : State) (e : Raised) (rest : List Raised), s.events = e :: rest ∧ s.due (e.count + 2).toNat = false) ∧
    (∃ (s : State) (e : Raised) (rest : List Raised) (k : Nat) (n : Fin 16), s.coreRuns = true ∧ s.events = e :: rest ∧ s.due (e.count +
      2).toNat = true ∧ (∀ r ∈ rest, r.count ≠ e.count) ∧ e.sinks = [k] ∧ s.Shaped ∧ k = 0x28 + n.val ∧ s.on (F.DMA_CHn_CFG_TRIG n) =
      true ∧ s.on (F.DMA_CHn_CFG_EN n) = true ∧ (s.dmaCh n).xfer = none ∧ (s.dmaCh n).trigAt ≠ some s.count) ∧
    (∃ (s : State) (e : Raised) (rest : List Raised) (k : Nat) (j : Fin 8), s.coreRuns = true ∧ s.events = e :: rest ∧ s.due (e.count +
      2).toNat = true ∧ (∀ r ∈ rest, r.count ≠ e.count) ∧ e.sinks = [k] ∧ s.Shaped ∧ k = 0x08 + j.val) ∧
    (∃ (s : State) (e : Raised) (rest : List Raised) (k : Nat) (n : Fin 8), s.coreRuns = true ∧ s.events = e :: rest ∧ s.due (e.count +
      2).toNat = true ∧ (∀ r ∈ rest, r.count ≠ e.count) ∧ e.sinks = [k] ∧ s.Shaped ∧ k = n.val ∧ s.on (F.CLK_CAPn_CTRL_EN n) = true) ∧
    (∃ (s : State) (w : World) (v : Word), s.accepts w R.EVT_FORCE (v ||| 0x80) ∧ s.inService = false) ∧
    (∃ (s : State) (w : World) (v : Word), s.accepts w R.EVT_FORCE (v ||| 0x80) ∧ s.inService = true) := by
  refine ⟨⟨dev |>.modMem (fun m => { m with scrubNext := 524287 }), ?_, ?_, ?_, ?_, ?_⟩,
    ⟨dev |>.put F.WLD_ECC_UE 0 |>.modMem (fun m => { m with scrubNext := 524287 }), ?_, ?_, ?_, ?_, ?_, ?_⟩,
    ⟨dev |>.modMem (fun m => { m with refreshAt := 1 }), ?_⟩,
    ⟨dev |>.modMem (fun m => { m with refreshAt := 0 }), ?_, ?_, ?_⟩,
    ⟨dev |>.modMem (fun m => { m with refreshAt := 0 }), ?_, ?_, ?_, ?_⟩,
    ⟨dev |>.put F.WLD_FAULT_INFO_VALID 0 |>.modMem (fun m => { m with refreshAt := 0 }), ?_, ?_, ?_⟩,
    ⟨dev |>.atCount 1 |> fun s => { s with events := [{ src := 1, sinks := [0], count := 0, fine := 0 }] },
      { src := 1, sinks := [0], count := 0, fine := 0 }, [], ?_, ?_⟩,
    ⟨dev |>.put (F.DMA_CHn_CFG_TRIG 15) 1 |>.put (F.DMA_CHn_CFG_EN 15) 1 |>.atCount 2 |> fun s =>
      { s with events := [{ src := 1, sinks := [55], count := 0, fine := 0 }] }, { src := 1, sinks := [55], count := 0, fine := 0 }, [],
      55, 15, ?_, ?_, ?_, ?_, ?_, (by constructor <;> first | decide +kernel | (constructor <;> decide +kernel)), ?_, ?_, ?_, ?_, ?_⟩,
    ⟨dev |>.atCount 2 |> fun s => { s with events := [{ src := 1, sinks := [15], count := 0, fine := 0 }] },
      { src := 1, sinks := [15], count := 0, fine := 0 }, [], 15, 7, ?_, ?_, ?_, ?_, ?_,
      (by constructor <;> first | decide +kernel | (constructor <;> decide +kernel)), ?_⟩,
    ⟨dev |>.put (F.CLK_CAPn_CTRL_EN 7) 1 |>.atCount 2 |> fun s =>
      { s with events := [{ src := 1, sinks := [7], count := 0, fine := 0 }] }, { src := 1, sinks := [7], count := 0, fine := 0 }, [], 7,
      7, ?_, ?_, ?_, ?_, ?_, (by constructor <;> first | decide +kernel | (constructor <;> decide +kernel)), ?_, ?_⟩,
    ⟨dev, .secure, 0, ?_, ?_⟩,
    ⟨svc, .secure, 15, ?_, ?_⟩⟩
    <;> first | decide +kernel | (constructor <;> decide +kernel)

theorem test_hyps_dma_transfers :
    (∃ (s : State) (w : World) (n : Fin 16) (v : Word), s.Shaped ∧ s.accepts w (R.DMA_CHn_CTRL n) (v ||| 1) ∧ bitAt v 1 = false ∧ s.on
      (F.DMA_CHn_CFG_EN n) = true ∧ (s.dmaCh n).trigAt ≠ some s.count ∧ (s.dmaCh n).xfer = none) ∧
    (∃ (s : State) (w : World) (n : Fin 16) (v : Word), s.Shaped ∧ s.accepts w (R.DMA_CHn_CTRL n) (v ||| 1) ∧ bitAt v 1 = false ∧ s.on
      (F.DMA_CHn_CFG_EN n) = true ∧ (s.dmaCh n).trigAt ≠ some s.count ∧ (s.dmaCh n).xfer.isSome = true) ∧
    (∃ (s : State) (w : World) (n : Fin 16) (v : Word), s.Shaped ∧ s.accepts w (R.DMA_CHn_CTRL n) (v ||| 1) ∧ bitAt v 1 = false ∧ (s.on
      (F.DMA_CHn_CFG_EN n) = false ∨ (s.dmaCh n).trigAt = some s.count)) ∧
    (∃ (s : State) (w : World) (n : Fin 16) (v : Word), s.Shaped ∧ s.accepts w (R.DMA_CHn_CTRL n) (v ||| 2) ∧ bitAt v 0 = false ∧ (∀ x,
      (s.dmaCh n).xfer = some x → x.inHand = false)) ∧
    (∃ (s : State) (w : World) (n : Fin 16) (v : Word) (x : DmaXfer), s.Shaped ∧ s.accepts w (R.DMA_CHn_CTRL n) (v ||| 2) ∧ bitAt v 0 =
      false ∧ (s.dmaCh n).xfer = some x ∧ x.inHand = true) ∧
    (∃ (s : State) (w : World) (n : Fin 16) (v : Word), s.Shaped ∧ s.accepts w (R.DMA_CHn_CFG n) v ∧ s.on (F.DMA_CHn_CFG_EN n) = false) ∧
    (∃ (s : State) (w : World) (n : Fin 16) (v : Word), s.Shaped ∧ s.accepts w (R.DMA_CHn_CFG n) v ∧ s.on (F.DMA_CHn_CFG_EN n) = true ∧
      bitAt v 0 = true) ∧
    (∃ (s : State) (w : World) (n : Fin 16) (v : Word), s.Shaped ∧ s.accepts w (R.DMA_CHn_CFG n) v ∧ s.on (F.DMA_CHn_CFG_EN n) = true ∧
      bitAt v 0 = false ∧ (∀ x, (s.dmaCh n).xfer = some x → x.inHand = false)) ∧
    (∃ (s : State) (n : Fin 16) (x : DmaXfer) (o : Nat), s.Shaped ∧ s.coreRuns = true ∧ (s.dmaCh n).xfer = some x ∧ x.ready s.count =
      false ∧ x.stopping = false ∧ x.reads < x.readCount ∧ s.due (s.dmaCh n).grantAt = true ∧ s.dmaFrom n x = 0x10000000 + 4 * o ∧ o <
      0x60000 ∧ s.portFree n (0x10000000 + 4 * o) = true ∧ s.regionAllows (s.dmaWorld n) false (0x10000000 + 4 * o) = true ∧ ¬ 4 * o ∈
      s.mem.sramBad ∧ ¬ 4 * o ∈ s.mem.sramCorrectable) ∧
    (∃ (s : State) (n : Fin 16) (x : DmaXfer) (o : Nat), s.Shaped ∧ s.Canonical ∧ s.coreRuns = true ∧ (s.dmaCh n).xfer = some x ∧ x.ready
      s.count = true ∧ s.dmaDest n x x.writes = 0x10000000 + 4 * o ∧ o < 0x60000 ∧ s.portFree n (0x10000000 + 4 * o) = true ∧
      s.regionAllows (s.dmaWorld n) true (0x10000000 + 4 * o) = true ∧ ¬ 4 * o ∈ s.mem.sramBad ∧ ¬ 4 * o ∈ s.mem.sramCorrectable) ∧
    (∃ (s : State) (n : Fin 16) (x : DmaXfer), s.Shaped ∧ s.coreRuns = true ∧ (s.dmaCh n).xfer = some x ∧ x.ready s.count = false ∧
      x.stopping = false ∧ x.reads < x.readCount ∧ s.due (s.dmaCh n).grantAt = true ∧ regionOf (s.dmaFrom n x / 4 * 4) = .none ∧ regionOf
      (s.dmaFrom n x) = .none ∧ s.writtenNow (F.DMA_CHn_CFG_EN n) = false) := by
  refine ⟨⟨svc |>.put (F.DMA_CHn_CFG_EN 15) 1, .secure, 15, 0, (by constructor <;> first | decide +kernel | (constructor <;> decide +kernel)),
      ?_, ?_, ?_, ?_, ?_⟩,
    ⟨svc |>.put (F.DMA_CHn_CFG_EN 15) 1 |>.modDma 15 (fun c =>
      { c with xfer := some { src := 0x10000000, dst := 0x1017FFFC, len := 4, reads := 0, writes := 0, words := [] } }), .secure, 15, 0,
      (by constructor <;> first | decide +kernel | (constructor <;> decide +kernel)), ?_, ?_, ?_, ?_, ?_⟩,
    ⟨svc, .secure, 15, 0, (by constructor <;> first | decide +kernel | (constructor <;> decide +kernel)), ?_, ?_, ?_⟩,
    ⟨svc, .secure, 15, 0, (by constructor <;> first | decide +kernel | (constructor <;> decide +kernel)), ?_, ?_, ?_⟩,
    ⟨svc |>.modDma 15 (fun c =>
      { c with xfer := some { src := 0x10000000, dst := 0x1017FFFC, len := 4, reads := 1, writes := 0, words := [7], readAt := [0] } }),
      .secure, 15, 0, { src := 0x10000000, dst := 0x1017FFFC, len := 4, reads := 1, writes := 0, words := [7], readAt := [0] },
      (by constructor <;> first | decide +kernel | (constructor <;> decide +kernel)), ?_, ?_, ?_, ?_⟩,
    ⟨svc |>.put (F.DMA_CHn_CFG_EN 15) 0, .secure, 15, 0, (by constructor <;> first | decide +kernel | (constructor <;> decide +kernel)),
      ?_, ?_⟩,
    ⟨svc |>.put (F.DMA_CHn_CFG_EN 15) 1, .secure, 15, 1, (by constructor <;> first | decide +kernel | (constructor <;> decide +kernel)),
      ?_, ?_, ?_⟩,
    ⟨svc |>.put (F.DMA_CHn_CFG_EN 15) 1, .secure, 15, 0, (by constructor <;> first | decide +kernel | (constructor <;> decide +kernel)),
      ?_, ?_, ?_, ?_⟩,
    ⟨dev |>.modDma 15 (fun c =>
      { c with xfer := some { src := 0x10000000, dst := 0x1017FFFC, len := 4, reads := 0, writes := 0, words := [] } }) |>.atCount 1, 15,
      { src := 0x10000000, dst := 0x1017FFFC, len := 4, reads := 0, writes := 0, words := [] }, 0,
      (by constructor <;> first | decide +kernel | (constructor <;> decide +kernel)), ?_, ?_, ?_, ?_, ?_, ?_, ?_, ?_, ?_, ?_, ?_, ?_⟩,
    ⟨dev |>.modDma 15 (fun c =>
      { c with xfer := some { src := 0x10000000, dst := 0x1017FFFC, len := 4, reads := 1, writes := 0, words := [7], readAt := [0] } })
      |>.atCount 2, 15, { src := 0x10000000, dst := 0x1017FFFC, len := 4, reads := 1, writes := 0, words := [7], readAt := [0] },
      0x5FFFF, (by constructor <;> first | decide +kernel | (constructor <;> decide +kernel)), ?_, ?_, ?_, ?_, ?_, ?_, ?_, ?_, ?_, ?_⟩,
    ⟨dev |>.modDma 15 (fun c =>
      { c with xfer := some { src := 0x30000001, dst := 0x10000000, len := 4, reads := 0, writes := 0, words := [] } }), 15,
      { src := 0x30000001, dst := 0x10000000, len := 4, reads := 0, writes := 0, words := [] },
      (by constructor <;> first | decide +kernel | (constructor <;> decide +kernel)), ?_, ?_, ?_, ?_, ?_, ?_, ?_, ?_, ?_⟩⟩
    <;> first | decide +kernel | (constructor <;> decide +kernel)

theorem test_hyps_link_commands :
    (∃ (s : State) (l : Link) (h : Hdr) (p : List Byte), s.Passes 0x0001 l h p ∧ fieldLe p 0 2 = 1 ∧ (s.link l).session = none ∧
      s.cfg.fwAborted = none) ∧
    (∃ (s : State) (l : Link) (h : Hdr) (p : List Byte), s.Passes 0x0001 l h p ∧ fieldLe p 0 2 ≠ 1) ∧
    (∃ (s : State) (l : Link) (h : Hdr) (p : List Byte), s.Passes 0x0002 l h p ∧ (s.link l).hello = true) ∧
    (∃ (s : State) (l : Link) (h : Hdr) (p : List Byte), s.Passes 0x0003 l h p ∧ 1 ≤ byteAt p 2 ∧ byteAt p 2 ≤ 64 ∧ newer 16 (fieldLe p 0
      2) ((s.link l).nextReply - 1).toNat = false) ∧
    (∃ (s : State) (l : Link) (h : Hdr) (p : List Byte), s.Passes 0x0004 l h p) ∧
    (∃ (s : State) (l : Link) (h : Hdr) (p key : List Byte), s.Passes 0x0005 l h p ∧ s.coreRuns = true ∧ (s.link l).blockedAt = none ∧
      s.sessionKey (byteAt p 0) = some key) ∧
    (∃ (s : State) (l : Link) (h : Hdr) (p : List Byte), s.Passes 0x0005 l h p ∧ (s.link l).blockedAt = none ∧ s.sessionKey (byteAt p 0)
      = none ∧ (s.link l).authFails < 2) ∧
    (∃ (s : State) (l : Link) (h : Hdr) (p : List Byte), s.Passes 0x0006 l h p ∧ s.coreRuns = true ∧ (s.link l).session.isSome = true) ∧
    (∃ (s : State) (l : Link) (h : Hdr) (p : List Byte), s.Passes 0x0007 l h p ∧ 9600 ≤ fieldLe p 0 4 ∧ fieldLe p 0 4 ≤ 3000000) := by
  refine ⟨⟨dev |>.linked |>.modLink .spi (fun x => { x with session := none }), .spi, hdr0, leBytes 2 1 ++ zeros 2,
      (by constructor <;> decide +kernel), ?_, ?_, ?_⟩,
    ⟨dev |>.linked, .spi, hdr0, leBytes 2 2 ++ zeros 2, (by constructor <;> decide +kernel), ?_⟩,
    ⟨dev |>.linked, .spi, hdr0, [], (by constructor <;> decide +kernel), ?_⟩,
    ⟨dev |>.linked, .spi, hdr0, leBytes 2 0xFFFF ++ [64, 0], (by constructor <;> decide +kernel), ?_, ?_, ?_⟩,
    ⟨dev |>.linked, .spi, hdr0, [], (by constructor <;> decide +kernel)⟩,
    ⟨dev |>.linked |>.keyIn, .spi, hdr1, [7, 0, 0, 0] ++ zeros 16, List.replicate 32 1, (by constructor <;> decide +kernel), ?_, ?_, ?_⟩,
    ⟨dev |>.linked, .spi, hdr1, [7, 0, 0, 0] ++ zeros 16, (by constructor <;> decide +kernel), ?_, ?_, ?_⟩,
    ⟨dev |>.linked, .spi, sealed [142, 139, 190, 111, 246, 37, 66, 167, 142, 115, 75, 191, 54, 111, 62, 246], [],
      (by constructor <;> decide +kernel), ?_, ?_⟩,
    ⟨dev |>.linked, .spi, hdr0, leBytes 4 3000000, (by constructor <;> decide +kernel), ?_, ?_⟩⟩
    <;> first | decide +kernel | (constructor <;> decide +kernel)

theorem test_hyps_register_and_mode_commands :
    (∃ (s : State) (l : Link) (h : Hdr) (p : List Byte) (a : Nat), s.Passes 0x0101 l h p ∧ fieldLe p 0 4 = a ∧ fieldLe p 4 2 = 1 ∧ a % 4
      = 0 ∧ regionOf a = .block) ∧
    (∃ (s : State) (l : Link) (h : Hdr) (p : List Byte) (a : Nat) (v : Word), s.Passes 0x0102 l h p ∧ fieldLe p 0 2 = 1 ∧ fieldLe p 4 4 =
      a ∧ BitVec.ofNat 32 (fieldLe p 8 4) = v ∧ a % 4 = 0 ∧ regionOf a = .block ∧ (blockIndex a = 14 ∨ blockIndex a = 15) ∧ a ≠
      R.EVT_FORCE ∧ a ≠ R.WLD_BLKWORLD ∧ s.accepts h.world a v) ∧
    (∃ (s : State) (l : Link) (h : Hdr) (p : List Byte) (a : Nat) (v : Word), s.Passes 0x0102 l h p ∧ fieldLe p 0 2 = 1 ∧ fieldLe p 4 4 =
      a ∧ BitVec.ofNat 32 (fieldLe p 8 4) = v ∧ a % 4 = 0 ∧ regionOf a = .block ∧ s.checkWrite h.world a v = .locked ∧ s.frozenWhole a =
      true) ∧
    (∃ (s : State) (l : Link) (h : Hdr) (p : List Byte) (a : Nat) (v : Word), s.Passes 0x0102 l h p ∧ fieldLe p 0 2 = 1 ∧ fieldLe p 4 4 =
      a ∧ BitVec.ofNat 32 (fieldLe p 8 4) = v ∧ a % 4 = 0 ∧ regionOf a = .block ∧ s.checkWrite h.world a v = .world) ∧
    (∃ (s : State) (l : Link) (h : Hdr) (p : List Byte) (a : Nat) (v : Word), s.Passes 0x0102 l h p ∧ fieldLe p 0 2 = 1 ∧ fieldLe p 4 4 =
      a ∧ BitVec.ofNat 32 (fieldLe p 8 4) = v ∧ a % 4 = 0 ∧ regionOf a = .block ∧ s.checkWrite h.world a v = .mode) ∧
    (∃ (s : State) (l : Link) (h : Hdr) (p : List Byte) (a : Nat) (v : Word), s.Passes 0x0102 l h p ∧ fieldLe p 0 2 = 1 ∧ fieldLe p 4 4 =
      a ∧ BitVec.ofNat 32 (fieldLe p 8 4) = v ∧ a % 4 = 0 ∧ regionOf a = .block ∧ s.checkWrite h.world a v = .unlisted) ∧
    (∃ (s : State) (l : Link) (h : Hdr) (p : List Byte), s.Passes 0x0201 l h p) ∧
    (∃ (s : State) (l : Link) (h : Hdr) (p : List Byte), s.Passes 0x0202 l h p ∧ s.Shaped ∧ s.mode = .ready ∧ byteAt p 0 = 5) ∧
    (∃ (s : State) (l : Link) (h : Hdr) (p : List Byte), s.Passes 0x0202 l h p ∧ s.Shaped ∧ s.mode = .ready ∧ byteAt p 0 = 3 ∧ s.on
      F.CLK_STAT_SYN0_LOCKED = true ∧ s.on F.ACQ_STAT_CAL_DONE = true ∧ s.on F.LOOM_DLL_LOCKED = true) ∧
    (∃ (s : State) (l : Link) (h : Hdr) (p : List Byte), s.Passes 0x0202 l h p ∧ s.Shaped ∧ (s.mode = .run ∨ s.mode = .service) ∧ byteAt
      p 0 = 2) ∧
    (∃ (s : State) (l : Link) (h : Hdr) (p : List Byte), s.Passes 0x0202 l h p ∧ s.Shaped ∧ s.mode = .run ∧ byteAt p 0 = 5) ∧
    (∃ (s : State) (l : Link) (h : Hdr) (p : List Byte) (n : Nat), s.Passes 0x0203 l h p ∧ fieldLe p 0 4 = n ∧ s.coreRuns = true ∧ n <
      2000) ∧
    (∃ (s : State) (l : Link) (h : Hdr) (p : List Byte) (n : Nat), s.Passes 0x0203 l h p ∧ fieldLe p 0 4 = n ∧ s.coreRuns = true ∧ 2000 ≤
      n ∧ n < 180000 ∧ s.dozeVetoes = 0 ∧ s.mode = .ready ∧ s.on F.SYS_PWR_STAT_HOLDING = false ∧ s.dropWaits = false) ∧
    (∃ (s : State) (l : Link) (h : Hdr) (p : List Byte), s.Passes 0x0204 l h p ∧ byteAt p 0 = 0) := by
  refine ⟨⟨dev |>.linked, .spi, hdr0, leBytes 4 R.CLK_CTRL ++ leBytes 2 1 ++ zeros 2, R.CLK_CTRL, (by constructor <;> decide +kernel), ?_, ?_,
      ?_, ?_⟩,
    ⟨svc |>.linked, .spi, hdr0, leBytes 2 1 ++ zeros 2 ++ leBytes 4 (R.EVT_SINKk 0) ++ leBytes 4 5, R.EVT_SINKk 0, 5,
      (by constructor <;> decide +kernel), ?_, ?_, ?_, ?_, ?_, ?_, ?_, ?_, ?_⟩,
    ⟨svc |>.linked |>.putBit (blockBase 14) 31 true, .spi, hdr0, leBytes 2 1 ++ zeros 2 ++ leBytes 4 (R.EVT_SINKk 0) ++ leBytes 4 5,
      R.EVT_SINKk 0, 5, (by constructor <;> decide +kernel), ?_, ?_, ?_, ?_, ?_, ?_, ?_⟩,
    ⟨svc |>.linked |>.wr R.WLD_BLKWORLD 0xFFFFFFFF, .spi, hdr0, leBytes 2 1 ++ zeros 2 ++ leBytes 4 (R.EVT_SINKk 0) ++ leBytes 4 5,
      R.EVT_SINKk 0, 5, (by constructor <;> decide +kernel), ?_, ?_, ?_, ?_, ?_, ?_⟩,
    ⟨dev |>.linked, .spi, hdr0, leBytes 2 1 ++ zeros 2 ++ leBytes 4 (R.EVT_SINKk 0) ++ leBytes 4 5, R.EVT_SINKk 0, 5,
      (by constructor <;> decide +kernel), ?_, ?_, ?_, ?_, ?_, ?_⟩,
    ⟨dev |>.linked, .spi, hdr0, leBytes 2 1 ++ zeros 2 ++ leBytes 4 0x400EFFFC ++ leBytes 4 5, 0x400EFFFC, 5,
      (by constructor <;> decide +kernel), ?_, ?_, ?_, ?_, ?_, ?_⟩,
    ⟨dev |>.linked, .spi, hdr0, [], (by constructor <;> decide +kernel)⟩,
    ⟨dev |>.linked, .spi, hdr0, [5, 0, 0, 0], (by constructor <;> decide +kernel),
      (by constructor <;> first | decide +kernel | (constructor <;> decide +kernel)), ?_, ?_⟩,
    ⟨dev |>.linked |>.put F.CLK_STAT_SYN0_LOCKED 1 |>.put F.ACQ_STAT_CAL_DONE 1 |>.put F.LOOM_DLL_LOCKED 1, .spi, hdr0, [3, 0, 0, 0],
      (by constructor <;> decide +kernel), (by constructor <;> first | decide +kernel | (constructor <;> decide +kernel)), ?_, ?_, ?_,
      ?_, ?_⟩,
    ⟨svc |>.linked, .spi, hdr0, [2, 0, 0, 0], (by constructor <;> decide +kernel),
      (by constructor <;> first | decide +kernel | (constructor <;> decide +kernel)), ?_, ?_⟩,
    ⟨(inMode 3) |>.linked, .spi, hdr0, [5, 0, 0, 0], (by constructor <;> decide +kernel),
      (by constructor <;> first | decide +kernel | (constructor <;> decide +kernel)), ?_, ?_⟩,
    ⟨dev |>.linked, .spi, hdr0, leBytes 4 1999, 1999, (by constructor <;> decide +kernel), ?_, ?_, ?_⟩,
    ⟨dev |>.linked |>.put F.SYS_PWR_STAT_HOLDING 0, .spi, hdr0, leBytes 4 179999, 179999, (by constructor <;> decide +kernel), ?_, ?_,
      ?_, ?_, ?_, ?_, ?_, ?_⟩,
    ⟨dev |>.linked, .spi, hdr0, zeros 4, (by constructor <;> decide +kernel), ?_⟩⟩
    <;> first | decide +kernel | (constructor <;> decide +kernel)

theorem test_hyps_configuration_commands :
    (∃ (s : State) (l : Link) (h : Hdr) (p : List Byte), s.Passes 0x0301 l h p ∧ fieldLe p 0 4 + (p.drop 4).length ≤ 131072) ∧
    (∃ (s : State) (l : Link) (h : Hdr) (p : List Byte) (d : Nat), s.Passes 0x0302 l h p ∧ s.policyRests ∧ imageFault (memBytes
      s.stew.cfgStage 0 (min (fieldLe p 4 4) 131072)) (fieldLe p 4 4) (fieldLe p 8 4) = some d) ∧
    (∃ (s : State) (l : Link) (h : Hdr) (p img : List Byte), s.Passes 0x0302 l h p ∧ memBytes s.stew.cfgStage 0 (min (fieldLe p 4 4)
      131072) = img ∧ imageFault img (fieldLe p 4 4) (fieldLe p 8 4) = none ∧ fieldLe img 4 4 = fieldLe p 0 4 ∧ fieldLe p 0 4 = s.nextGen
      ∧ s.changeRefusal h.world (recordsOf img (fieldLe img 20 4)) (recordsOf img (fieldLe img 20 4)) = none ∧ s.verdict (s.candidateOf
      (s.changesOf (recordsOf img (fieldLe img 20 4)) s.clk.ramp.running)) = 0 ∧ fieldLe img 16 4 = 0) ∧
    (∃ (s : State) (l : Link) (h : Hdr) (p : List Byte), s.Passes 0x0303 l h p) ∧
    (∃ (s : State) (l : Link) (h : Hdr) (p : List Byte), s.Passes 0x0304 l h p) ∧
    (∃ (s : State) (l : Link) (h : Hdr) (p : List Byte), s.Passes 0x0305 l h p ∧ 1 ≤ fieldLe p 4 2 ∧ fieldLe p 4 2 ≤ 4088 ∧ fieldLe p 0 4
      + fieldLe p 4 2 ≤ s.liveImage.length ∧ s.mramErr (slotBase s.cfg.slot) s.cfg.len = false) ∧
    (∃ (s : State) (l : Link) (h : Hdr) (p : List Byte), s.Passes 0x0401 l h p ∧ 1 ≤ fieldLe p 2 2 ∧ fieldLe p 2 2 ≤ 255 ∧ fieldLe p 0 2
      + fieldLe p 2 2 ≤ 4096) ∧
    (∃ (s : State) (l : Link) (h : Hdr) (p : List Byte), s.Passes 0x0402 l h p ∧ s.policyRests ∧ (s.mode = .ready ∨ s.mode = .service) ∧
      1 ≤ fieldLe p 4 2 ∧ fieldLe p 4 2 ≤ 4096 ∧ fieldLe p 6 2 ≤ 8192 ∧ (crc32c (s.progBytes (fieldLe p 4 2) (fieldLe p 6 2))).toNat ≠
      fieldLe p 12 4) ∧
    (∃ (s : State) (l : Link) (h : Hdr) (p : List Byte) (prog : List (Nat × BitVec 128)), s.Passes 0x0402 l h p ∧ s.policyRests ∧ (s.mode
      = .ready ∨ s.mode = .service) ∧ 1 ≤ fieldLe p 4 2 ∧ fieldLe p 4 2 ≤ 4096 ∧ fieldLe p 6 2 ≤ 8192 ∧ bundlesIn s.stew.progImage 0
      (fieldLe p 4 2) = prog ∧ (∀ b ∈ prog, reservedOp b.2 = false) ∧ (crc32c (s.progBytes (fieldLe p 4 2) (fieldLe p 6 2))).toNat =
      fieldLe p 12 4 ∧ fieldLe p 0 4 = s.nextGen ∧ s.changeRefusal h.world s.stagedMill s.progRecords = none ∧ s.verdict ((s.candidateOf
      (s.changesOf s.progRecords s.clk.ramp.running)).modMill (fun m => { m with prog := prog })) = 0) ∧
    (∃ (s : State) (l : Link) (h : Hdr) (p : List Byte), s.Passes 0x0403 l h p ∧ 1 ≤ fieldLe p 2 2 ∧ fieldLe p 2 2 ≤ 1022 ∧ fieldLe p 0 2
      + fieldLe p 2 2 ≤ 8192) ∧
    (∃ (s : State) (l : Link) (h : Hdr) (p : List Byte), s.Passes 0x0404 l h p ∧ byteAt p 0 ≤ 1 ∧ 1 ≤ fieldLe p 4 2 ∧ fieldLe p 4 2 ≤
      1022 ∧ fieldLe p 2 2 + fieldLe p 4 2 ≤ 2048 ∧ s.bankActive (byteAt p 0) = true) ∧
    (∃ (s : State) (l : Link) (h : Hdr) (p : List Byte), s.Passes 0x0404 l h p ∧ byteAt p 0 ≤ 1 ∧ 1 ≤ fieldLe p 4 2 ∧ fieldLe p 4 2 ≤
      1022 ∧ fieldLe p 2 2 + fieldLe p 4 2 ≤ 2048 ∧ s.bankActive (byteAt p 0) = false ∧ s.verdict (s.modMill (fun m => m.setBank (byteAt
      p 0) (fieldLe p 2 2) (payloadWords p 8 (fieldLe p 4 2)))) = 0) ∧
    (∃ (s : State) (l : Link) (h : Hdr) (p : List Byte), s.Passes 0x0405 l h p ∧ s.Shaped) ∧
    (∃ (s : State) (l : Link) (h : Hdr) (p : List Byte), s.Passes 0x0406 l h p ∧ s.Shaped) := by
  refine ⟨⟨dev |>.linked, .spi, hdr0, leBytes 4 131071 ++ [9], (by constructor <;> decide +kernel), ?_⟩,
    ⟨dev |>.linked, .spi, hdr0, leBytes 4 1 ++ leBytes 4 36 ++ leBytes 4 0, 0, (by constructor <;> decide +kernel),
      (by constructor <;> decide +kernel), ?_⟩,
    ⟨svc.staged |>.linked, .spi, hdr0, leBytes 4 1 ++ leBytes 4 44 ++ leBytes 4 (imageCrc image1), image1,
      (by constructor <;> decide +kernel), ?_, ?_, ?_, ?_, ?_, ?_, ?_⟩,
    ⟨dev |>.linked, .spi, hdr0, [], (by constructor <;> decide +kernel)⟩,
    ⟨dev |>.linked, .spi, hdr0, [], (by constructor <;> decide +kernel)⟩,
    ⟨dev.live1 |>.linked, .spi, hdr0, leBytes 4 43 ++ leBytes 2 1 ++ zeros 2, (by constructor <;> decide +kernel), ?_, ?_, ?_, ?_⟩,
    ⟨dev |>.linked, .spi, hdr0, leBytes 2 4095 ++ leBytes 2 1 ++ zeros 16, (by constructor <;> decide +kernel), ?_, ?_, ?_⟩,
    ⟨dev |>.linked, .spi, hdr0, leBytes 4 1 ++ leBytes 2 1 ++ zeros 10, (by constructor <;> decide +kernel),
      (by constructor <;> decide +kernel), ?_, ?_, ?_, ?_, ?_⟩,
    ⟨dev |>.linked, .spi, hdr0, leBytes 4 1 ++ leBytes 2 1 ++ zeros 6 ++ leBytes 4 (crc32c (zeros 16)).toNat, [],
      (by constructor <;> decide +kernel), (by constructor <;> decide +kernel), ?_, ?_, ?_, ?_, ?_, ?_, ?_, ?_, ?_, ?_⟩,
    ⟨dev |>.linked, .spi, hdr0, leBytes 2 8191 ++ leBytes 2 1 ++ zeros 4, (by constructor <;> decide +kernel), ?_, ?_, ?_⟩,
    ⟨dev |>.linked |>.put (F.MILL_TASKt_BIND_EN 0) 1, .spi, hdr0, [0, 0] ++ leBytes 2 2047 ++ leBytes 2 1 ++ zeros 6,
      (by constructor <;> decide +kernel), ?_, ?_, ?_, ?_, ?_⟩,
    ⟨dev |>.linked, .spi, hdr0, [1, 0] ++ leBytes 2 2047 ++ leBytes 2 1 ++ zeros 6, (by constructor <;> decide +kernel), ?_, ?_, ?_, ?_,
      ?_, ?_⟩,
    ⟨dev |>.linked, .spi, hdr0, [0xFF, 0, 0, 0], (by constructor <;> decide +kernel),
      (by constructor <;> first | decide +kernel | (constructor <;> decide +kernel))⟩,
    ⟨dev |>.linked, .spi, hdr0, [0xFF, 0, 0, 0], (by constructor <;> decide +kernel),
      (by constructor <;> first | decide +kernel | (constructor <;> decide +kernel))⟩⟩
    <;> first | decide +kernel | (constructor <;> decide +kernel)

theorem test_hyps_meter_and_log_commands :
    (∃ (s : State) (l : Link) (h : Hdr) (p : List Byte), s.Passes 0x0501 l h p) ∧
    (∃ (s : State) (l : Link) (h : Hdr) (p : List Byte), s.Passes 0x0502 l h p) ∧
    (∃ (s : State) (l : Link) (h : Hdr) (p : List Byte), s.Passes 0x0503 l h p ∧ s.replayHolds = false ∧ s.on F.GRN_JSTAT_BUSY = false) ∧
    (∃ (s : State) (l : Link) (h : Hdr) (p : List Byte), s.Passes 0x0504 l h p ∧ byteAt p 0 ≤ 31 ∧ byteAt p 1 ≤ 1 ∧ s.mramErr
      (journalOffset (byteAt p 0)) 4096 = false) ∧
    (∃ (s : State) (l : Link) (h : Hdr) (p : List Byte) (m : Fin 8), s.Passes 0x0505 l h p ∧ s.Shaped ∧ byteAt p 0 = m ∧ s.inService =
      true ∧ s.bit R.GRN_CTRL m = false ∧ s.meterOn m = false) ∧
    (∃ (s : State) (l : Link) (h : Hdr) (p : List Byte), s.Passes 0x0506 l h p) ∧
    (∃ (s : State) (l : Link) (h : Hdr) (p r : List Byte) (rest : List (List Byte)),
      let rs := s.logFrom (BitVec.ofNat 32 (fieldLe p 0 4)) (fieldLe p 4 2); s.Passes 0x0601 l h p ∧ 1 ≤ fieldLe p 4 2 ∧ fieldLe p 4 2 ≤
      127 ∧ s.mramErr 0x490000 0x20000 = false ∧ rs = r :: rest) ∧
    (∃ (s : State) (l : Link) (h : Hdr) (p : List Byte), let rs := s.logFrom (BitVec.ofNat 32 (fieldLe p 0 4)) (fieldLe p 4 2); s.Passes
      0x0601 l h p ∧ 1 ≤ fieldLe p 4 2 ∧ fieldLe p 4 2 ≤ 127 ∧ s.mramErr 0x490000 0x20000 = false ∧ rs = []) ∧
    (∃ (s : State) (l : Link) (h : Hdr) (p : List Byte), s.Passes 0x0602 l h p) ∧
    (∃ (s : State) (l : Link) (h : Hdr) (p : List Byte), s.Passes 0x0603 l h p ∧ byteAt p 0 ≤ 2 ∧ 10 ≤ fieldLe p 2 2 ∧ fieldLe p 2 2 ≤
      60000) ∧
    (∃ (s : State) (l : Link) (h : Hdr) (p : List Byte), s.Passes 0x0604 l h p ∧ (s.link l).session = none) ∧
    (∃ (s : State) (l : Link) (h : Hdr) (p : List Byte), s.Passes 0x0605 l h p) := by
  refine ⟨⟨dev |>.linked, .spi, hdr0, [7, 0, 0, 0], (by constructor <;> decide +kernel)⟩,
    ⟨dev |>.linked, .spi, hdr0, [7, 0, 0, 0], (by constructor <;> decide +kernel)⟩,
    ⟨dev |>.linked |>.put F.GRN_JSTAT_BUSY 0, .spi, hdr0, [], (by constructor <;> decide +kernel), ?_, ?_⟩,
    ⟨dev |>.linked, .spi, hdr0, [31, 1, 0, 0], (by constructor <;> decide +kernel), ?_, ?_, ?_⟩,
    ⟨svc |>.linked, .spi, sealed [178, 7, 160, 253, 80, 44, 242, 224, 10, 122, 101, 164, 180, 96, 182, 176], [7, 0, 0, 0] ++ zeros 48, 7,
      (by constructor <;> decide +kernel), (by constructor <;> first | decide +kernel | (constructor <;> decide +kernel)), ?_, ?_, ?_,
      ?_⟩,
    ⟨dev |>.linked, .spi, hdr0, [], (by constructor <;> decide +kernel)⟩,
    ⟨dev.logged |>.linked, .spi, hdr0, leBytes 4 0 ++ leBytes 2 127 ++ zeros 2, (dev.logged.logFrom 0 127).headD [], [],
      (by constructor <;> decide +kernel), ?_, ?_, ?_, ?_⟩,
    ⟨dev |>.linked, .spi, hdr0, leBytes 4 0 ++ leBytes 2 127 ++ zeros 2, (by constructor <;> decide +kernel), ?_, ?_, ?_, ?_⟩,
    ⟨dev |>.linked, .spi, hdr0, [], (by constructor <;> decide +kernel)⟩,
    ⟨dev |>.linked, .spi, hdr0, [2, 0] ++ leBytes 2 60000, (by constructor <;> decide +kernel), ?_, ?_, ?_⟩,
    ⟨dev |>.linked |>.modLink .spi (fun x => { x with session := none }), .spi, hdr0, [0xFF, 0, 0, 0],
      (by constructor <;> decide +kernel), ?_⟩,
    ⟨dev |>.linked, .spi, hdr0, [0xFF, 3, 0, 0], (by constructor <;> decide +kernel)⟩⟩
    <;> first | decide +kernel | (constructor <;> decide +kernel)

theorem test_hyps_unit_commands :
    (∃ (s : State) (l : Link) (h : Hdr) (p : List Byte), s.Passes 0x0702 l h p ∧ s.mode ≠ .run ∧ fieldLe p 0 4 + (p.drop 4).length ≤
      0x200000 ∧ s.fwIdle ≤ 1 ∧ s.mem.worn = []) ∧
    (∃ (s : State) (l : Link) (h : Hdr) (p : List Byte), s.Passes 0x0703 l h p ∧ s.mode ≠ .run) ∧
    (∃ (s : State) (l : Link) (h : Hdr) (p : List Byte), s.Passes 0x0703 l h p ∧ s.mode = .run) ∧
    (∃ (s : State) (l : Link) (h : Hdr) (p : List Byte), s.Passes 0x0802 l h p ∧ s.policyRests ∧ s.ringState = 1 ∧ s.switching = false ∧
      (s.on F.RING_STAT_LOCK_A = true ∨ s.on F.RING_STAT_LOCK_B = true) ∧ s.get F.CLK_SYN0_DISC_SRC ≠ 0) ∧
    (∃ (s : State) (l : Link) (h : Hdr) (p : List Byte), s.Passes 0x0803 l h p ∧ s.policyRests ∧ s.ringState = 3) ∧
    (∃ (s : State) (l : Link) (h : Hdr) (p : List Byte), s.Passes 0x0902 l h p ∧ s.inService = true ∧ 1 ≤ fieldLe p 2 2 ∧ fieldLe p 0 2 +
      fieldLe p 2 2 ≤ 256) ∧
    (∃ (s : State) (l : Link) (h : Hdr) (p : List Byte), s.Passes 0x0903 l h p ∧ s.inService = true ∧ s.allOutsOff = true) ∧
    (∃ (s : State) (l : Link) (h : Hdr) (p : List Byte), s.Passes 0x0903 l h p ∧ (s.inService = false ∨ s.allOutsOff = false)) ∧
    (∃ (s : State) (l : Link) (h : Hdr) (p : List Byte), s.Passes 0x0906 l h p ∧ s.policyRests ∧ s.safe.a.dead = false ∧ s.safe.b.dead =
      false) ∧
    (∃ (s : State) (l : Link) (h : Hdr) (p : List Byte), s.Passes 0x0A01 l h p ∧ s.inService = true ∧ s.blockLocked 16 = false) ∧
    (∃ (s : State) (l : Link) (h : Hdr) (p : List Byte), s.Passes 0x0A01 l h p ∧ s.inService = false) ∧
    (∃ (s : State) (l : Link) (h : Hdr) (p : List Byte) (x : Loupe), s.Passes 0x0A02 l h p ∧ s.inService = true ∧ x =
      { state := 1, mask := p.take 32, trigger := byteAt p 32, pre := fieldLe p 34 2, addr := fieldLe p 36 4, recs := [] } ∧ x.takes
      (byteAt p 32) = true ∧ fieldLe p 34 2 ≤ 4095 ∧ x.takes 0xF8 = false ∧ x.takes 0xFC = false ∧ x.takes 0xFD = false) := by
  refine ⟨⟨dev |>.linked, .spi, sealed [194, 205, 227, 81, 187, 110, 195, 157, 170, 24, 223, 25, 197, 189, 211, 109], leBytes 4 0x1FFFFF ++
      [9], (by constructor <;> decide +kernel), ?_, ?_, ?_, ?_⟩,
    ⟨dev |>.linked, .spi, sealed [253, 188, 5, 122, 172, 217, 229, 173, 231, 103, 195, 123, 211, 141, 10, 116], zeros 8,
      (by constructor <;> decide +kernel), ?_⟩,
    ⟨(inMode 3) |>.linked, .spi, sealed [253, 188, 5, 122, 172, 217, 229, 173, 231, 103, 195, 123, 211, 141, 10, 116], zeros 8,
      (by constructor <;> decide +kernel), ?_⟩,
    ⟨dev |>.linked |>.put F.RING_STAT_STATE 1 |>.put F.CLK_SYN0_DISC_SRC 1 |>.put F.RING_STAT_STATE 1 |>.put F.RING_STAT_LOCK_B 1, .spi,
      hdr0, [], (by constructor <;> decide +kernel), (by constructor <;> decide +kernel), ?_, ?_, ?_, ?_⟩,
    ⟨dev |>.linked |>.put F.RING_STAT_STATE 3, .spi, hdr0, [], (by constructor <;> decide +kernel), (by constructor <;> decide +kernel),
      ?_⟩,
    ⟨svc |>.linked, .spi, sealed [95, 250, 213, 241, 234, 138, 75, 80, 67, 139, 241, 138, 60, 82, 170, 109], leBytes 2 255 ++ leBytes 2 1
      ++ [5], (by constructor <;> decide +kernel), ?_, ?_, ?_⟩,
    ⟨svc |>.linked, .spi, sealed [23, 100, 24, 254, 93, 202, 77, 182, 229, 249, 121, 70, 56, 31, 175, 19], zeros 4,
      (by constructor <;> decide +kernel), ?_, ?_⟩,
    ⟨dev |>.linked, .spi, sealed [23, 100, 24, 254, 93, 202, 77, 182, 229, 249, 121, 70, 56, 31, 175, 19], zeros 4,
      (by constructor <;> decide +kernel), ?_⟩,
    ⟨dev |>.linked, .spi, sealed [55, 10, 109, 161, 210, 11, 60, 237, 211, 226, 19, 192, 138, 115, 253, 248], [],
      (by constructor <;> decide +kernel), (by constructor <;> decide +kernel), ?_, ?_⟩,
    ⟨svc |>.linked, .spi, sealed [153, 166, 171, 125, 103, 16, 195, 191, 165, 27, 41, 117, 137, 161, 58, 238], zeros 24,
      (by constructor <;> decide +kernel), ?_, ?_⟩,
    ⟨dev |>.linked, .spi, sealed [153, 166, 171, 125, 103, 16, 195, 191, 165, 27, 41, 117, 137, 161, 58, 238], zeros 24,
      (by constructor <;> decide +kernel), ?_⟩,
    ⟨svc |>.linked, .spi, hdr0, [2] ++ zeros 31 ++ [1, 0] ++ leBytes 2 4095 ++ leBytes 4 0,
      { state := 1, mask := [2] ++ zeros 31, trigger := 1, pre := 4095, addr := 0, recs := [] }, (by constructor <;> decide +kernel), ?_,
      ?_, ?_, ?_, ?_, ?_, ?_⟩⟩
    <;> first | decide +kernel | (constructor <;> decide +kernel)

theorem test_hyps_ports_and_timers :
    (∃ (i : Link → Hdr → List Byte → Instr) (op : Nat) (s : State) (h : Hdr) (p : List Byte), PacketOp i op ∧ hdrFits h p = true) ∧
    (∃ (s : State) (h : Hdr), s.Passes 0x0201 .spi h []) ∧
    (∃ (s : State) (h : Hdr), s.Passes 0x0201 .uart h []) ∧
    (∃ (s : State) (b : List Byte), s.serves .spi = true ∧ s.rxFull .spi = false ∧ byteAt b 0 = 0xA5 ∧ byteAt b 1 = 1 ∧ 16 ≤ b.length ∧
      b.length = packetLen b ∧ crcRight b = false) ∧
    (∃ (s : State) (b : List Byte), s.serves .spi = true ∧ b ≠ [] ∧ byteAt b 0 ≠ 0xA5) ∧
    (∃ (s : State) (x : TxPacket) (rest : List TxPacket), s.serves .spi = true ∧ (s.link .spi).tx = x :: rest ∧ s.fifoHeld = true) ∧
    (∃ (s : State) (n : Nat) (x : TxPacket) (rest : List TxPacket), s.serves .spi = true ∧ (s.link .spi).tx = x :: rest ∧ x.bytes.length
      ≤ n ∧ s.fifoHeld = false) ∧
    (∃ (s : State) (n : Nat) (x : TxPacket) (rest : List TxPacket), s.serves .spi = true ∧ (s.link .spi).tx = x :: rest ∧ n <
      x.bytes.length) ∧
    (∃ (s : State) (b : List Byte), ¬ (0xA5 : Byte) ∈ b) ∧
    (∃ (s : State), s.serves .uart = true ∧ s.fifoHeld = false) ∧
    (∃ (s : State) (b : Nat) (l : Link) (q : BitVec 16), s.stew.baudNext = some (b, l, q) ∧ s.portReplyWaits l q = false) ∧
    (∃ (s : State) (b : Nat) (l : Link) (q : BitVec 16), s.stew.baudNext = some (b, l, q) ∧ s.portReplyWaits l q = true) ∧
    (∃ (s : State) (l : Link) (x : Session), s.coreRuns = true ∧ (s.link l).session = some x ∧ x.touched + 240000000000 ≤ s.count) ∧
    (∃ (s : State) (l : Link) (t0 : Nat), (s.link l).blockedAt = some t0 ∧ t0 + 400000000 ≤ s.count) ∧
    (∃ (s : State) (l : Link), s.coreRuns = true ∧ s.stew.crier.link = (match l with | .spi => 0 | .uart => 1) ∧ s.due
      s.stew.crier.nextAt = true ∧ (s.link l).tx.length < 8) ∧
    (∃ (s : State) (l : Link), s.coreRuns = true ∧ s.stew.crier.link = (match l with | .spi => 0 | .uart => 1) ∧ s.due
      s.stew.crier.nextAt = true ∧ 8 ≤ (s.link l).tx.length) ∧
    (∃ (s : State), s.policyRests ∧ s.on F.SYS_PWR_STAT_HOLDING = true ∧ s.due s.sys.holdEnd = true) ∧
    (∃ (s : State) (t0 : Nat), s.sys.phase = .run ∧ s.sys.resetDue = some t0 ∧ s.due t0 = true) ∧
    (∃ (s : State) (w : World) (v : Word), s.accepts w R.SYS_LTR v ∧ s.coreRuns = true ∧ v.toNat < 2000) := by
  refine ⟨⟨.hello, 0x0001, dev, hdr0, zeros 4, ?_, ?_⟩,
    ⟨dev |>.linked, hdr0, (by constructor <;> decide +kernel)⟩,
    ⟨dev |>.linked |>.modLink .uart (fun x => { x with hello := true }) |> fun s => s, hdr0, (by constructor <;> decide +kernel)⟩,
    ⟨dev, (hdrPacket hdr0 0x0201 []).take 16 ++ zeros 4, ?_, ?_, ?_, ?_, ?_, ?_, ?_⟩,
    ⟨dev, [1], ?_, ?_, ?_⟩,
    ⟨svc |>.modLink .spi (fun x => { x with tx := [{ bytes := [1, 2], telemetry := false, final := false }] }) |>.modTst (fun t =>
      { t with fifoUntil := 9 }) |>.put F.TST_CTRL_PERT_EN 1 |>.put (F.TST_DLYk_EN 5) 1,
      { bytes := [1, 2], telemetry := false, final := false }, [], ?_, ?_, ?_⟩,
    ⟨dev |>.modLink .spi (fun x => { x with tx := [{ bytes := [1, 2], telemetry := false, final := false }] }), 2,
      { bytes := [1, 2], telemetry := false, final := false }, [], ?_, ?_, ?_, ?_⟩,
    ⟨dev |>.modLink .spi (fun x => { x with tx := [{ bytes := [1, 2], telemetry := false, final := false }] }), 1,
      { bytes := [1, 2], telemetry := false, final := false }, [], ?_, ?_, ?_⟩,
    ⟨dev, [1, 2], ?_⟩,
    ⟨dev, ?_, ?_⟩,
    ⟨dev |>.modLink .spi (fun x => { x with tx := [] }) |> fun s => { s with stew := { s.stew with baudNext := some (9600, .spi, 5) } },
      9600, .spi, 5, ?_, ?_⟩,
    ⟨dev |>.modLink .spi (fun x => { x with tx := [{ bytes := zeros 8, telemetry := false, final := false }] }) |> fun s =>
      { s with stew := { s.stew with baudNext := some (9600, .spi, 0) } }, 9600, .spi, 0, ?_, ?_⟩,
    ⟨dev |>.modLink .spi (fun x => { x with session := some { ks := [] } }) |>.atCount 240000000000, .spi, { ks := [] }, ?_, ?_, ?_⟩,
    ⟨dev |>.modLink .spi (fun x => { x with blockedAt := some 0 }) |>.atCount 400000000, .spi, 0, ?_, ?_⟩,
    ⟨dev |>.modLink .uart (fun x => { x with tx := List.replicate 7 { bytes := [1, 2], telemetry := false, final := false } }) |> fun s
      => { s with stew := { s.stew with crier := { s.stew.crier with link := 1 } } }, .uart, ?_, ?_, ?_, ?_⟩,
    ⟨dev |>.modLink .uart (fun x => { x with tx := List.replicate 8 { bytes := [1, 2], telemetry := false, final := false } }) |> fun s
      => { s with stew := { s.stew with crier := { s.stew.crier with link := 1 } } }, .uart, ?_, ?_, ?_, ?_⟩,
    ⟨dev |>.put F.SYS_PWR_STAT_HOLDING 1, (by constructor <;> decide +kernel), ?_, ?_⟩,
    ⟨dev |>.modSys (fun x => { x with resetDue := some 0 }), 0, ?_, ?_, ?_⟩,
    ⟨svc, .secure, 1999, ?_, ?_, ?_⟩⟩
    <;> first | decide +kernel | (constructor <;> decide +kernel)

set_option maxRecDepth 20000 in
theorem test_hyps_long_operations_and_test_port :
    (∃ (s : State) (img : List Byte), s.longRuns 0x0302 = true ∧ s.stew.longOp.phase = 2 ∧ s.cfg.waiting = none ∧ s.coreRuns = true ∧
      s.slotImage (fieldLe s.stew.longOp.payload 4 4) = img ∧ s.phaseTwoRefusal [.ready, .run, .service] (recordsOf img (fieldLe img 20
      4)) = none) ∧
    (∃ (s : State), s.longRuns 0x0402 = true ∧ s.stew.longOp.phase = 2 ∧ s.tasksStopped = true ∧ s.policyRests ∧ (s.mode = .run ∨ s.mode
      = .limp)) ∧
    (∃ (s : State), s.longRuns 0x0402 = true ∧ s.stew.longOp.phase = 2 ∧ s.tasksStopped = true ∧ s.policyRests ∧ s.phaseTwoRefusal
      [.ready, .service] (recordsOf s.writtenImage (fieldLe s.writtenImage 20 4)) = none) ∧
    (∃ (s : State) (p : List Byte), s.longRuns 0x0404 = true ∧ s.stew.longOp.phase = 2 ∧ s.policyRests ∧ s.stew.longOp.payload = p ∧
      s.bankActive (byteAt p 0) = true) ∧
    (∃ (s : State) (p : List Byte), s.longRuns 0x0404 = true ∧ s.stew.longOp.phase = 2 ∧ s.policyRests ∧ s.stew.longOp.payload = p ∧
      s.bankActive (byteAt p 0) = false ∧ s.mode ≠ .limp) ∧
    (∃ (s : State) (d : Nat), s.longRuns 0x0703 = true ∧ s.policyRests ∧ s.fwCheck s.fwIdle (fieldLe s.stew.longOp.payload 0 4) (fieldLe
      s.stew.longOp.payload 4 4) = some d) ∧
    (∃ (s : State), s.longRuns 0x0703 = true ∧ s.policyRests ∧ s.fwCheck s.fwIdle (fieldLe s.stew.longOp.payload 0 4) (fieldLe
      s.stew.longOp.payload 4 4) = none) ∧
    (∃ (s : State) (b : List Byte) (d : Nat), s.longRuns 0x0903 = true ∧ s.policyRests ∧ s.safe.a.dead = false ∧ s.safe.b.dead = false ∧
      memBytes s.stew.safeStage 0 256 = b ∧ s.blockRefusal b (fieldLe s.stew.longOp.payload 0 4) = some d) ∧
    (∃ (s : State) (b : List Byte), s.longRuns 0x0903 = true ∧ s.policyRests ∧ s.safe.a.dead = false ∧ s.safe.b.dead = false ∧ memBytes
      s.stew.safeStage 0 256 = b ∧ s.blockRefusal b (fieldLe s.stew.longOp.payload 0 4) = none) ∧
    (∃ (s : State) (slot : Fin 8) (key : List Byte), s.Shaped ∧ s.sys.phase ≠ .keep ∧ key.length = 32 ∧ s.otp.provisioned = false ∧ nth
      s.otp.keySlots slot none = none) ∧
    (∃ (s : State) (slot : Fin 8) (key : List Byte), s.Shaped ∧ s.sys.phase ≠ .keep ∧ key.length = 32 ∧ (s.otp.provisioned = true ∨ (nth
      s.otp.keySlots slot none).isSome = true)) ∧
    (∃ (s : State) (v : Byte), s.sys.phase ≠ .keep ∧ v = 0xA5) ∧
    (∃ (s : State) (v : Byte), s.sys.phase ≠ .keep ∧ v ≠ 0xA5) ∧
    (∃ (s : State), s.sys.phase ≠ .keep ∧ s.otp.provisioned = false) ∧
    (∃ (s : State), s.sys.phase ≠ .keep ∧ s.otp.provisioned = true) ∧
    (∃ (s : State), s.sys.phase ≠ .keep) ∧
    (∃ (s : State), s.sys.phase = .keep) := by
  refine ⟨⟨svc |>.longOp 0x0302 2 (leBytes 4 1 ++ leBytes 4 44 ++ zeros 4) |>.modMem (fun m =>
      { m with mram := memSetBytes [] (slotBase 0) image1 }), image1, ?_, ?_, ?_, ?_, ?_, ?_⟩,
    ⟨(inMode 3) |>.longOp 0x0402 2 (zeros 16), ?_, ?_, ?_, (by constructor <;> decide +kernel), ?_⟩,
    ⟨svc |>.longOp 0x0402 2 (zeros 16) |>.modMem (fun m => { m with mram := memSetBytes [] (slotBase 0) image1 }), ?_, ?_, ?_,
      (by constructor <;> decide +kernel), ?_⟩,
    ⟨dev |>.longOp 0x0404 2 (zeros 12) |>.put (F.MILL_TASKt_BIND_EN 7) 1, zeros 12, ?_, ?_, (by constructor <;> decide +kernel), ?_, ?_⟩,
    ⟨dev |>.longOp 0x0404 2 ([1] ++ zeros 11) |>.put (F.MILL_TASKt_BIND_EN 7) 1, [1] ++ zeros 11, ?_, ?_,
      (by constructor <;> decide +kernel), ?_, ?_, ?_⟩,
    ⟨dev |>.longOp 0x0703 1 (zeros 8), 3, ?_, (by constructor <;> decide +kernel), ?_⟩,
    ⟨dev |>.withFirmware 1 |>.longOp 0x0703 1 (leBytes 4 257 ++ leBytes 4 0x91b812de), ?_, (by constructor <;> decide +kernel), ?_⟩,
    ⟨dev |>.longOp 0x0903 1 (leBytes 4 0), zeros 256, 1, ?_, (by constructor <;> decide +kernel), ?_, ?_, ?_, ?_⟩,
    ⟨dev |>.longOp 0x0903 1 (leBytes 4 (crc32c ((blockOf 600).take 252)).toNat) |> fun s =>
      { s with stew := { s.stew with safeStage := memSetBytes [] 0 (blockOf 600) } }, blockOf 600, ?_,
      (by constructor <;> decide +kernel), ?_, ?_, ?_, ?_⟩,
    ⟨dev, 7, List.replicate 32 1, (by constructor <;> first | decide +kernel | (constructor <;> decide +kernel)), ?_, ?_, ?_, ?_⟩,
    ⟨dev |>.keyIn, 7, List.replicate 32 1, (by constructor <;> first | decide +kernel | (constructor <;> decide +kernel)), ?_, ?_, ?_⟩,
    ⟨dev, 0xA5, ?_, ?_⟩,
    ⟨dev, 0xA4, ?_, ?_⟩,
    ⟨dev, ?_, ?_⟩,
    ⟨dev |>.keyIn, ?_, ?_⟩,
    ⟨dev, ?_⟩,
    ⟨dev |>.modSys (fun x => { x with phase := .keep }), ?_⟩⟩
    <;> first | decide +kernel | (constructor <;> decide +kernel)

theorem test_hyps_island_inputs :
    (∃ (s : State) (m : Mirror), s.Shaped ∧ s.policyRests ∧ (s.mir m).dead = false ∧ s.safe.limpDue = false) ∧
    (∃ (s : State) (m : Mirror) (k : Fin 2), let x := s.mir m; s.Shaped ∧ s.policyRests ∧ (s.mir m).dead = false ∧ s.safe.limpDue = false
      ∧ x.state = .active ∧ blockTpp x.block ≠ 0 ∧ x.time % blockTpp x.block = (if k.val = 0 then 0 else blockTpp x.block / 2) ∧ nth
      x.pulses k none = none) ∧
    (∃ (s : State) (m : Mirror) (k : Fin 2) (t0 : Nat), let x := s.mir m; s.Shaped ∧ s.policyRests ∧ (s.mir m).dead = false ∧
      s.safe.limpDue = false ∧ nth x.pulses k none = some t0 ∧ t0 + blockTpw x.block ≤ x.time ∧ (∀ n : Fin 12, pairPulsed x.block m n =
      true → pairPulse x.block m n = k → (x.judged &&& x.high).getLsbD n = false)) ∧
    (∃ (s : State) (m : Mirror) (k : Fin 2) (t0 : Nat) (n : Fin 12), let x := s.mir m; s.Shaped ∧ s.policyRests ∧ (s.mir m).dead = false
      ∧ s.safe.limpDue = false ∧ nth x.pulses k none = some t0 ∧ t0 + blockTpw x.block ≤ x.time ∧ pairPulsed x.block m n = true ∧
      pairPulse x.block m n = k ∧ (x.judged &&& x.high).getLsbD n = true ∧ s.safe.a.tpf.getLsbD n = false ∧ s.safe.b.tpf.getLsbD n =
      false) ∧
    (∃ (s : State) (m : Mirror) (n : Fin 12) (t0 : Nat), let x := s.mir m; s.Shaped ∧ s.policyRests ∧ (s.mir m).dead = false ∧
      s.safe.limpDue = false ∧ x.state = .active ∧ nth x.disagree n none = some t0 ∧ pairDisc x.block n * 10000 < x.time - t0) ∧
    (∃ (s : State) (m : Mirror) (n : Fin 12) (t0 : Nat), let x := s.mir m; s.Shaped ∧ s.policyRests ∧ (s.mir m).dead = false ∧
      s.safe.limpDue = false ∧ x.state = .active ∧ nth x.agree n none = some t0 ∧ 1000000 ≤ x.time - t0 ∧ (pairType x.block n = 4 ∨
      pairType x.block n = 5)) ∧
    (∃ (s : State) (m : Mirror) (r : SdcRun), let x := s.mir m; s.Shaped ∧ s.policyRests ∧ (s.mir m).dead = false ∧ s.safe.limpDue =
      false ∧ x.live.isSome = true ∧ r.least ≤ r.most) := by
  refine ⟨⟨dev, .a, (by constructor <;> first | decide +kernel | (constructor <;> decide +kernel)), (by constructor <;> decide +kernel), ?_,
      ?_⟩,
    ⟨(dev.mirrors 600 10000), .a, 0, (by constructor <;> first | decide +kernel | (constructor <;> decide +kernel)),
      (by constructor <;> decide +kernel), ?_, ?_, ?_, ?_, ?_, ?_⟩,
    ⟨(dev.mirrors 600 100) |>.modMir .a (fun x => { x with pulses := [none, some 0] }), .a, 1, 0,
      (by constructor <;> first | decide +kernel | (constructor <;> decide +kernel)), (by constructor <;> decide +kernel), ?_, ?_, ?_,
      ?_, ?_⟩,
    ⟨(dev.mirrors 600 100) |>.modMir .a (fun x => { x with pulses := [some 0, none], judged := 1, high := 1 }), .a, 0, 0, 0,
      (by constructor <;> first | decide +kernel | (constructor <;> decide +kernel)), (by constructor <;> decide +kernel), ?_, ?_, ?_,
      ?_, ?_, ?_, ?_, ?_, ?_⟩,
    ⟨(dev.mirrors 600 10001) |>.modMir .b (fun x => { x with disagree := (List.replicate 11 none) ++ [some 0] }), .b, 11, 0,
      (by constructor <;> first | decide +kernel | (constructor <;> decide +kernel)), (by constructor <;> decide +kernel), ?_, ?_, ?_,
      ?_, ?_⟩,
    ⟨(dev.mirrors 600 1000000) |>.modMir .b (fun x => { x with agree := (List.replicate 11 none) ++ [some 0] }), .b, 11, 0,
      (by constructor <;> first | decide +kernel | (constructor <;> decide +kernel)), (by constructor <;> decide +kernel), ?_, ?_, ?_,
      ?_, ?_, ?_⟩,
    ⟨(dev.mirrors 600 0), .b, { least := 0, most := 0, time := 0 },
      (by constructor <;> first | decide +kernel | (constructor <;> decide +kernel)), (by constructor <;> decide +kernel), ?_, ?_, ?_,
      ?_⟩⟩
    <;> first | decide +kernel | (constructor <;> decide +kernel)

theorem test_hyps_island_outputs :
    (∃ (s : State) (m : Mirror), let x := s.mir m; s.Shaped ∧ s.policyRests ∧ (s.mir m).dead = false ∧ (s.mir m).state = .active ∧
      x.scanAt + 32 ≤ x.time ∧ x.rx = [] ∧ (s.mir (otherMirror m)).state ≠ .fault) ∧
    (∃ (s : State) (m : Mirror) (k : Fin 5), let x := s.mir m; s.Shaped ∧ s.policyRests ∧ (s.mir m).dead = false ∧ (s.mir m).state =
      .active ∧ (nth x.outs k {}).st = .delay ∧ (nth x.outs k {}).delayAt + outDly x.block k * 1000 ≤ x.time) ∧
    (∃ (s : State) (m : Mirror) (k : Fin 5) (t0 : Nat), let x := s.mir m; s.Shaped ∧ s.policyRests ∧ (s.mir m).dead = false ∧ (s.mir
      m).state = .active ∧ (nth x.outs k {}).switchedAt = some t0 ∧ outEdm x.block k ≠ 15 ∧ t0 + outEdmt x.block k * 100000 ≤ x.time ∧
      s.safe.ofault.getLsbD k = false ∧ s.levelsOf m (outEdm x.block k) = (!x.cmd k, !x.cmd k) ∧ x.inFault (outEdm x.block k) = false) ∧
    (∃ (s : State) (m : Mirror) (k : Fin 5) (t0 : Nat), let x := s.mir m; s.Shaped ∧ s.policyRests ∧ (s.mir m).dead = false ∧ (s.mir
      m).state = .active ∧ (nth x.outs k {}).switchedAt = some t0 ∧ outEdm x.block k ≠ 15 ∧ t0 + outEdmt x.block k * 100000 ≤ x.time ∧
      s.safe.ofault.getLsbD k = false ∧ s.levelsOf m (outEdm x.block k) ≠ (!x.cmd k, !x.cmd k)) ∧
    (∃ (s : State) (m : Mirror) (k : Fin 5), let x := s.mir m; s.Shaped ∧ s.policyRests ∧ (s.mir m).dead = false ∧ (s.mir m).state =
      .active ∧ 3 ≤ (nth x.outs k {}).strayOff ∧ (nth x.outs k {}).strayOn = 0 ∧ s.safe.ofault.getLsbD k = false) := by
  refine ⟨⟨(dev.mirrors 600 32), .b, (by constructor <;> first | decide +kernel | (constructor <;> decide +kernel)),
      (by constructor <;> decide +kernel), ?_, ?_, ?_, ?_, ?_⟩,
    ⟨(dev.mirrors 600 0) |>.modMir .b (fun x => { x with outs := (List.replicate 4 {}) ++ [{ st := .delay }] }), .b, 4,
      (by constructor <;> first | decide +kernel | (constructor <;> decide +kernel)), (by constructor <;> decide +kernel), ?_, ?_, ?_,
      ?_⟩,
    ⟨(dev.mirrors 600 100000) |>.modMir .b (fun x =>
      { x with outs := [{ switchedAt := some 0 }] ++ List.replicate 4 {}, filt := 0x800, shown := 0x800 }) |>.modMir .a (fun x =>
      { x with filt := 0x800, shown := 0x800 }), .b, 0, 0,
      (by constructor <;> first | decide +kernel | (constructor <;> decide +kernel)), (by constructor <;> decide +kernel), ?_, ?_, ?_,
      ?_, ?_, ?_, ?_, ?_⟩,
    ⟨(dev.mirrors 600 100000) |>.modMir .b (fun x => { x with outs := [{ switchedAt := some 0 }] ++ List.replicate 4 {} }), .b, 0, 0,
      (by constructor <;> first | decide +kernel | (constructor <;> decide +kernel)), (by constructor <;> decide +kernel), ?_, ?_, ?_,
      ?_, ?_, ?_, ?_⟩,
    ⟨(dev.mirrors 600 0) |>.modMir .b (fun x => { x with outs := (List.replicate 4 {}) ++ [{ strayOff := 3 }] }), .b, 4,
      (by constructor <;> first | decide +kernel | (constructor <;> decide +kernel)), (by constructor <;> decide +kernel), ?_, ?_, ?_,
      ?_, ?_⟩⟩
    <;> first | decide +kernel | (constructor <;> decide +kernel)

set_option maxRecDepth 20000 in
theorem test_hyps_island_diagnostics :
    (∃ (s : State) (m : Mirror) (k : Fin 5), let x := s.mir m; s.Shaped ∧ s.policyRests ∧ (s.mir m).dead = false ∧ (s.mir m).state =
      .active ∧ s.safe.faultSaid = false ∧ 3 ≤ (nth x.outs k {}).strayOn) ∧
    (∃ (s : State) (m : Mirror) (t0 : Nat), let x := s.mir m; s.Shaped ∧ s.policyRests ∧ (s.mir m).dead = false ∧ (s.mir m).state =
      .active ∧ s.safe.faultSaid = false ∧ x.cmdDiffers = some t0 ∧ blockCmpt x.block < x.time - t0) ∧
    (∃ (s : State) (m : Mirror), let x := s.mir m; s.Shaped ∧ s.policyRests ∧ (s.mir m).dead = false ∧ (s.mir m).state = .active ∧
      s.safe.faultSaid = false ∧ 4 ≤ x.missed) ∧
    (∃ (s : State) (m : Mirror) (n : Nat), let x := s.mir m; s.Shaped ∧ s.policyRests ∧ (s.mir m).dead = false ∧ (s.mir m).state =
      .active ∧ s.safe.faultSaid = false ∧ x.oscAt + 1024 ≤ x.time ∧ (n < 29491 ∨ 36045 < n)) ∧
    (∃ (s : State) (m : Mirror) (n : Nat), let x := s.mir m; s.Shaped ∧ s.policyRests ∧ (s.mir m).dead = false ∧ (s.mir m).state =
      .active ∧ s.safe.faultSaid = false ∧ x.oscAt + 1024 ≤ x.time ∧ 29491 ≤ n ∧ n ≤ 36045) ∧
    (∃ (s : State) (m : Mirror), let x := s.mir m; s.Shaped ∧ s.policyRests ∧ (s.mir m).dead = false ∧ (s.mir m).state = .active ∧
      s.safe.faultSaid = false ∧ x.paramAt + 10000000 ≤ x.time ∧ x.live.isSome = true ∧ blockValid x.block = false) ∧
    (∃ (s : State) (m : Mirror), let x := s.mir m; s.Shaped ∧ s.policyRests ∧ (s.mir m).dead = false ∧ (s.mir m).state = .active ∧
      s.safe.faultSaid = false ∧ x.paramAt + 10000000 ≤ x.time ∧ blockValid x.block = true) ∧
    (∃ (s : State) (m : Mirror), let x := s.mir m; s.Shaped ∧ s.policyRests ∧ (s.mir m).dead = false ∧ (s.mir m).state = .active ∧
      s.safe.faultSaid = false ∧ m = .b ∧ x.romAt + 10000000 ≤ x.time) ∧
    (∃ (s : State) (m : Mirror), s.Shaped ∧ s.policyRests ∧ (s.mir m).dead = false ∧ (s.mir m).state = .active ∧ s.safe.faultSaid =
      false) := by
  refine ⟨⟨(dev.mirrors 600 0) |>.modMir .b (fun x => { x with outs := (List.replicate 4 {}) ++ [{ strayOn := 3 }] }), .b, 4,
      (by constructor <;> first | decide +kernel | (constructor <;> decide +kernel)), (by constructor <;> decide +kernel), ?_, ?_, ?_,
      ?_⟩,
    ⟨(dev.mirrors 600 2001) |>.modMir .b (fun x => { x with cmdDiffers := some 0 }), .b, 0,
      (by constructor <;> first | decide +kernel | (constructor <;> decide +kernel)), (by constructor <;> decide +kernel), ?_, ?_, ?_,
      ?_, ?_⟩,
    ⟨(dev.mirrors 600 0) |>.modMir .b (fun x => { x with missed := 4 }), .b,
      (by constructor <;> first | decide +kernel | (constructor <;> decide +kernel)), (by constructor <;> decide +kernel), ?_, ?_, ?_,
      ?_⟩,
    ⟨(dev.mirrors 600 1024), .b, 29490, (by constructor <;> first | decide +kernel | (constructor <;> decide +kernel)),
      (by constructor <;> decide +kernel), ?_, ?_, ?_, ?_, ?_⟩,
    ⟨(dev.mirrors 600 1024), .b, 29491, (by constructor <;> first | decide +kernel | (constructor <;> decide +kernel)),
      (by constructor <;> decide +kernel), ?_, ?_, ?_, ?_, ?_, ?_⟩,
    ⟨(dev.mirrors 600 10000000) |>.modMir .b (fun x => { x with store := [[1], []] }), .b,
      (by constructor <;> first | decide +kernel | (constructor <;> decide +kernel)), (by constructor <;> decide +kernel), ?_, ?_, ?_,
      ?_, ?_, ?_⟩,
    ⟨(dev.mirrors 600 10000000), .b, (by constructor <;> first | decide +kernel | (constructor <;> decide +kernel)),
      (by constructor <;> decide +kernel), ?_, ?_, ?_, ?_, ?_⟩,
    ⟨(dev.mirrors 600 10000000), .b, (by constructor <;> first | decide +kernel | (constructor <;> decide +kernel)),
      (by constructor <;> decide +kernel), ?_, ?_, ?_, ?_, ?_⟩,
    ⟨(dev.mirrors 600 0), .b, (by constructor <;> first | decide +kernel | (constructor <;> decide +kernel)),
      (by constructor <;> decide +kernel), ?_, ?_, ?_⟩⟩
    <;> first | decide +kernel | (constructor <;> decide +kernel)

set_option maxRecDepth 20000 in
theorem test_hyps_island_connections_and_boot :
    (∃ (s : State) (m : Mirror) (c : Fin 8) (e : Nat), s.Shaped ∧ s.coreRuns = true ∧ (s.mir m).dead = false ∧ (nth (s.mir m).conns c
      {}).wd = some e ∧ e ≤ (s.mir m).time ∧ (nth (s.mir (otherMirror m)).conns c {}).wd.isSome = true ∧ blockWrapT (s.mir m).block ≠ 0) ∧
    (∃ (s : State) (m : Mirror) (c : Fin 8) (e : Nat), s.Shaped ∧ s.coreRuns = true ∧ (s.mir m).dead = false ∧ (nth (s.mir m).conns c
      {}).wd = some e ∧ e ≤ (s.mir m).time ∧ (nth (s.mir (otherMirror m)).conns c {}).wd.isSome = true ∧ blockWrapT (s.mir m).block = 0 ∧
      (nth (s.mir (otherMirror m)).conns c {}).degraded = none) ∧
    (∃ (s : State) (m : Mirror) (c : Fin 8) (e : Nat), s.Shaped ∧ s.coreRuns = true ∧ (s.mir m).dead = false ∧ (nth (s.mir m).conns c
      {}).wd = some e ∧ e ≤ (s.mir m).time ∧ (nth (s.mir (otherMirror m)).conns c {}).wd = none ∧ (nth (s.mir (otherMirror m)).conns c
      {}).degraded = none) ∧
    (∃ (s : State) (m : Mirror) (c : Fin 8) (t0 : Nat), s.Shaped ∧ s.coreRuns = true ∧ (nth (s.mir m).conns c {}).differs = some t0 ∧
      blockCmpt (s.mir m).block < (s.mir m).time - t0 ∧ s.safe.cflt.getLsbD c = false) ∧
    (∃ (s : State) (c : Fin 8) (ta tb : Nat), (nth s.safe.a.conns c {}).equal = some ta ∧ (nth s.safe.b.conns c {}).equal = some tb ∧
      1000000 ≤ s.safe.a.time - ta ∧ 1000000 ≤ s.safe.b.time - tb) ∧
    (∃ (s : State) (m : Mirror) (c : Fin 8) (t0 : Nat), s.Shaped ∧ s.coreRuns = true ∧ (s.mir m).dead = false ∧ (nth (s.mir m).conns c
      {}).degraded = some t0 ∧ t0 + blockWrapT (s.mir m).block ≤ (s.mir m).time) ∧
    (∃ (s : State) (i j : Nat), s.policyRests ∧ s.safe.a.dead = false ∧ s.safe.b.dead = false ∧ s.safe.a.state = .boot ∧ s.safe.b.state =
      .boot ∧ s.commonBlock = some (i, j)) ∧
    (∃ (s : State), s.policyRests ∧ s.safe.a.dead = false ∧ s.safe.b.dead = false ∧ s.safe.a.state = .boot ∧ s.safe.b.state = .boot ∧
      s.commonBlock = none) ∧
    (∃ (s : State) (code : BitVec 8), s.policyRests ∧ s.safe.a.dead = false ∧ s.safe.b.dead = false ∧ s.safe.a.state = .boot ∧
      s.safe.b.state = .boot ∧ code ≠ 0 ∧ s.safe.faultSaid = false) ∧
    (∃ (s : State) (m : Mirror), s.policyRests ∧ (s.mir m).dead = true) := by
  refine ⟨⟨(dev.mirrors 600 5) |>.modMir .b (fun x => { x with conns := (List.replicate 7 {}) ++ [{ wd := some 5 }] }) |>.modMir .a (fun x =>
      { x with conns := (List.replicate 7 {}) ++ [{ wd := some 9 }] }), .b, 7, 5,
      (by constructor <;> first | decide +kernel | (constructor <;> decide +kernel)), ?_, ?_, ?_, ?_, ?_, ?_⟩,
    ⟨(dev.mirrors 0 5) |>.modMir .b (fun x => { x with conns := (List.replicate 7 {}) ++ [{ wd := some 5 }] }) |>.modMir .a (fun x =>
      { x with conns := (List.replicate 7 {}) ++ [{ wd := some 9 }] }), .b, 7, 5,
      (by constructor <;> first | decide +kernel | (constructor <;> decide +kernel)), ?_, ?_, ?_, ?_, ?_, ?_, ?_⟩,
    ⟨(dev.mirrors 600 5) |>.modMir .b (fun x => { x with conns := (List.replicate 7 {}) ++ [{ wd := some 5 }] }), .b, 7, 5,
      (by constructor <;> first | decide +kernel | (constructor <;> decide +kernel)), ?_, ?_, ?_, ?_, ?_, ?_⟩,
    ⟨(dev.mirrors 600 2001) |>.modMir .b (fun x => { x with conns := (List.replicate 7 {}) ++ [{ differs := some 0 }] }), .b, 7, 0,
      (by constructor <;> first | decide +kernel | (constructor <;> decide +kernel)), ?_, ?_, ?_, ?_⟩,
    ⟨(dev.mirrors 600 1000000) |>.modMir .a (fun x => { x with conns := (List.replicate 7 {}) ++ [{ equal := some 0 }] }) |>.modMir .b
      (fun x => { x with conns := (List.replicate 7 {}) ++ [{ equal := some 0 }] }), 7, 0, 0, ?_, ?_, ?_, ?_⟩,
    ⟨(dev.mirrors 600 600000000) |>.modMir .b (fun x => { x with conns := (List.replicate 7 {}) ++ [{ degraded := some 0 }] }), .b, 7, 0,
      (by constructor <;> first | decide +kernel | (constructor <;> decide +kernel)), ?_, ?_, ?_, ?_⟩,
    ⟨(dev.mirrors 600 0) |>.modMir .a (fun x => { x with state := .boot }) |>.modMir .b (fun x => { x with state := .boot }), 0, 0,
      (by constructor <;> decide +kernel), ?_, ?_, ?_, ?_, ?_⟩,
    ⟨dev, (by constructor <;> decide +kernel), ?_, ?_, ?_, ?_, ?_⟩,
    ⟨dev, 7, (by constructor <;> decide +kernel), ?_, ?_, ?_, ?_, ?_, ?_⟩,
    ⟨dev |>.modMir .b (fun x => { x with dead := true }), .b, (by constructor <;> decide +kernel), ?_⟩⟩
    <;> first | decide +kernel | (constructor <;> decide +kernel)

set_option maxRecDepth 20000 in
theorem test_hyps_resets_supplies_and_wake :
    (∃ (s : State), s.sys.phase ≠ .keep) ∧
    (∃ (s : State), s.sys.phase = .keep ∧ s.sys.brownOut = false) ∧
    (∃ (s : State), s.sys.phase ≠ .keep) ∧
    (∃ (s : State), s.sys.phase = .keep ∧ s.sys.brownOut = true ∧ s.sys.keepLost = false) ∧
    (∃ (s : State), s.sys.phase = .keep ∧ s.sys.brownOut = true ∧ s.sys.keepLost = true) ∧
    (∃ (s : State), s.sys.phase = .keep ∧ s.sys.brownOut = true) ∧
    (∃ (s : State), s.sys.phase = .run) ∧
    (∃ (s : State), s.sys.phase = .boot ∧ s.fwChoose = none) ∧
    (∃ (s : State) (slot : Fin 2), s.sys.phase = .boot ∧ s.fwChoose = some slot.val ∧ s.on F.CLK_STAT_SYN0_LOCKED = true ∧ s.on
      F.CLK_STAT_SYN1_LOCKED = true ∧ s.on F.CLK_STAT_REF_LOST = false ∧ s.on F.CLK_STAT_SYN0_LOST = false ∧ s.on F.CLK_STAT_SYN1_LOST =
      false ∧ s.clk.refMissing = false ∧ s.clk.coreOnMonitor = false ∧ s.safe.limpDue = false ∧ s.cfgChoose = none ∧ (∀ b, s.fwRecord (1
      - slot.val) = some b → byteAt b 9 ≠ 1)) ∧
    (∃ (s : State), s.Shaped ∧ s.sys.phase = .run ∧ s.on F.SYS_SUPPLY_PFAIL = false) ∧
    (∃ (s : State), s.Shaped ∧ s.sys.phase = .run ∧ s.on F.SYS_SUPPLY_PFAIL = true) ∧
    (∃ (s : State) (n : Fin 2) (mv : Int), s.on (F.CMP_WAKEn_EN n) = true ∧ s.on (F.CMP_WAKEn_POL n) = false ∧ (s.get (F.CMP_WAKEn_TH n)
      + 1 : Nat) * 100 < mv ∧ s.get (F.CMP_WAKEn_DEB n) ≤ (nth s.cmp.wakes n {}).run ∧ s.sys.phase = .run ∧ s.on ⟨R.CMP_WAKE_STAT, n, 1⟩
      = false) ∧
    (∃ (s : State) (n : Fin 2) (mv : Int), s.on (F.CMP_WAKEn_EN n) = true ∧ s.on (F.CMP_WAKEn_POL n) = false ∧ (s.get (F.CMP_WAKEn_TH n)
      + 1 : Nat) * 100 < mv ∧ s.get (F.CMP_WAKEn_DEB n) ≤ (nth s.cmp.wakes n {}).run ∧ s.sys.phase = .keep ∧ s.sys.brownOut = false) ∧
    (∃ (s : State) (n : Fin 2) (mv : Int), s.on (F.CMP_WAKEn_EN n) = true ∧ s.on (F.CMP_WAKEn_POL n) = false ∧ mv < (s.get
      (F.CMP_WAKEn_TH n) + 1 : Nat) * 100 - 40) := by
  refine ⟨⟨dev, ?_⟩,
    ⟨dev |>.modSys (fun x => { x with phase := .keep }), ?_, ?_⟩,
    ⟨dev, ?_⟩,
    ⟨dev |>.modSys (fun x => { x with phase := .keep, brownOut := true, keepLost := false }), ?_, ?_, ?_⟩,
    ⟨dev |>.modSys (fun x => { x with phase := .keep, brownOut := true, keepLost := true }), ?_, ?_, ?_⟩,
    ⟨dev |>.modSys (fun x => { x with phase := .keep, brownOut := true, keepLost := false }), ?_, ?_⟩,
    ⟨dev, ?_⟩,
    ⟨dev |>.modSys (fun x => { x with phase := .boot }), ?_, ?_⟩,
    ⟨dev |>.put F.CLK_STAT_SYN0_LOCKED 1 |>.put F.CLK_STAT_SYN1_LOCKED 1 |>.put F.CLK_STAT_REF_LOST 0 |>.put F.CLK_STAT_SYN0_LOST 0
      |>.put F.CLK_STAT_SYN1_LOST 0 |>.modSys (fun x => { x with phase := .boot }) |>.withFirmware 1 |>.fwWriteRecord 1 2 257
      ((firmware.drop 16).take 32) 1, 1, ?_, ?_, ?_, ?_, ?_, ?_, ?_, ?_, ?_, ?_, ?_, ?_⟩,
    ⟨dev |>.put F.SYS_SUPPLY_PFAIL 0, (by constructor <;> first | decide +kernel | (constructor <;> decide +kernel)), ?_, ?_⟩,
    ⟨dev |>.put F.SYS_SUPPLY_PFAIL 1, (by constructor <;> first | decide +kernel | (constructor <;> decide +kernel)), ?_, ?_⟩,
    ⟨dev |>.put (F.CMP_WAKEn_EN 1) 1 |>.put (F.CMP_WAKEn_POL 1) 0 |>.put ⟨R.CMP_WAKE_STAT, 1, 1⟩ 0 |>.put (F.CMP_WAKEn_TH 1) 0 |>.modSys
      (fun x => { x with phase := .run }), 1, 101, ?_, ?_, ?_, ?_, ?_, ?_⟩,
    ⟨dev |>.put (F.CMP_WAKEn_EN 1) 1 |>.put (F.CMP_WAKEn_POL 1) 0 |>.put (F.CMP_WAKEn_TH 1) 0 |>.modSys (fun x =>
      { x with phase := .keep }), 1, 101, ?_, ?_, ?_, ?_, ?_, ?_⟩,
    ⟨dev |>.put (F.CMP_WAKEn_EN 1) 1 |>.put (F.CMP_WAKEn_POL 1) 0 |>.put (F.CMP_WAKEn_TH 1) 0, 1, 59, ?_, ?_, ?_⟩⟩
    <;> first | decide +kernel | (constructor <;> decide +kernel)

theorem test_hyps_serial_numbers_compare_by_distance :
    (∃ (n a b : Nat), 0 < n ∧ a < 2 ^ n ∧ b < 2 ^ n) ∧
    (∃ (n a b : Nat), let d := ((a : Int) - b) % 2 ^ n; 0 < n ∧ a < 2 ^ n ∧ b < 2 ^ n ∧ d = 2 ^ (n - 1)) ∧
    (∃ (n a b : Nat), 0 < n ∧ a < 2 ^ n ∧ b < 2 ^ n ∧ newer n a b = true) := by
  refine ⟨⟨16, 1, 0xFFFF, ?_, ?_, ?_⟩,
    ⟨16, 0x8000, 0, ?_, ?_, ?_, ?_⟩,
    ⟨16, 1, 0xFFFF, ?_, ?_, ?_, ?_⟩⟩
    <;> first | decide +kernel | (constructor <;> decide +kernel)


/-! ### Hypotheses that a generated list does not reach -/

theorem test_hyps_step_runs_the_front_command :
    ∃ (s : State) (c : Instr) (rest : List Instr), s.pending = c :: rest ∧ ∃ t, step s = .next t ∧ t.pending = rest :=
  ⟨{ dev with pending := [.spiStatus, .spiRead 0] }, .spiStatus, [.spiRead 0], rfl, _, rfl, rfl⟩

theorem test_hyps_commands_leave_the_queue_alone :
    ∃ (c : Instr) (s t : State), exec c s = .next t ∧ s.pending = [.spiStatus] ∧ t.stew ≠ s.stew := by
  refine ⟨.spiWrite [1], { dev with pending := [.spiStatus] }, _, rfl, rfl, ?_⟩
  decide +kernel

theorem test_hyps_no_leg_has_both_outputs_on :
    ∃ s t : State, (∀ l, ¬ ((s.leg l).outH = true ∧ (s.leg l).outL = true)) ∧ step s = .next t :=
  ⟨State.reset, _, fun l => (by
    have h : ∀ l, (State.reset.leg l).outH = false := by
      intro l
      simp only [State.leg, nth, State.reset]
      rw [List.getD_eq_getElem?_getD, List.getElem?_replicate]
      split <;> rfl
    simp [h l]), rfl⟩

theorem test_hyps_the_mode_stays_legal : ∃ s t : State, s.get F.SYS_MODE_MODE ≤ 5 ∧ step s = .next t := by
  refine ⟨svc, _, ?_, rfl⟩
  decide +kernel

theorem test_hyps_every_step_keeps_the_stores_canonical : ∃ s t : State, s.Canonical ∧ step s = .next t := by
  refine ⟨State.reset, _, ?_, rfl⟩
  constructor <;> decide +kernel

theorem test_hyps_every_step_keeps_the_shape : ∃ s t : State, s.Shaped ∧ step s = .next t := by
  refine ⟨State.reset, _, ?_, rfl⟩
  constructor <;> first | decide +kernel | (constructor <;> decide +kernel)

theorem test_hyps_packets_read_back : ∃ (i : Link → Hdr → List Byte → Instr) (op : Nat) (h : Hdr) (p : List Byte),
    PacketOp i op ∧ hdrFits h p = true ∧ h.tag.isSome = true ∧ p ≠ [] :=
  ⟨_, _, { hdr1 with tag := some (zeros 16) }, [1], .fwWrite, by decide +kernel, by decide +kernel, by decide +kernel⟩

theorem test_hyps_packets_full_queue :
    (∃ (i : Link → Hdr → List Byte → Instr) (op : Nat) (s : State) (h : Hdr) (p : List Byte),
      PacketOp i op ∧ hdrFits h p = true ∧ s.serves .uart = true ∧ s.rxFull .uart = true) ∧
    (∃ (i : Link → Hdr → List Byte → Instr) (op : Nat) (s : State) (h : Hdr) (p : List Byte),
      PacketOp i op ∧ hdrFits h p = true ∧ s.serves .spi = true ∧ s.rxFull .spi = true) := by
  refine ⟨⟨_, _, dev.linked.modLink .uart (fun x => { x with tx := List.replicate 8 { bytes := zeros 8, telemetry := false, final := false } }),
    hdr0, [], .status, ?_, ?_, ?_⟩,
    ⟨_, _, dev.linked.modLink .spi (fun x => { x with tx := List.replicate 8 { bytes := zeros 8, telemetry := false, final := false } }),
    hdr0, [], .status, ?_, ?_, ?_⟩⟩ <;> decide +kernel

/-- The sequence checks: no HELLO yet, a SEQ ahead of the next, a SEQ behind it that no held reply answers. -/
theorem test_hyps_packets_sequence :
    (∃ (i : Link → Hdr → List Byte → Instr) (op : Nat) (s : State) (l : Link) (h : Hdr) (p : List Byte),
      PacketOp i op ∧ hdrFits h p = true ∧ s.serves l = true ∧ s.rxFull l = false ∧ s.limpTakes op = false ∧ keepsL op = false ∧
      (s.link l).hello = false) ∧
    (∃ (i : Link → Hdr → List Byte → Instr) (op : Nat) (s : State) (l : Link) (h : Hdr) (p : List Byte),
      PacketOp i op ∧ hdrFits h p = true ∧ s.serves l = true ∧ s.rxFull l = false ∧ s.limpTakes op = false ∧ keepsL op = false ∧
      (s.link l).hello = true ∧ newer 16 h.seq.toNat ((s.link l).last + 1).toNat = true ∧ h.seq ≠ (s.link l).last + 1) ∧
    (∃ (i : Link → Hdr → List Byte → Instr) (op : Nat) (s : State) (l : Link) (h : Hdr) (p : List Byte),
      PacketOp i op ∧ hdrFits h p = true ∧ s.serves l = true ∧ s.rxFull l = false ∧ s.limpTakes op = false ∧ keepsL op = false ∧
      (s.link l).hello = true ∧ newer 16 h.seq.toNat ((s.link l).last + 1).toNat = false ∧ h.seq ≠ (s.link l).last + 1 ∧
      ∀ e ∈ (s.link l).history, e.cmdSeq ≠ h.seq) := by
  refine ⟨⟨_, _, dev, .spi, hdr0, [], .status, ?_, ?_, ?_, ?_, ?_, ?_⟩,
    ⟨_, _, dev.linked, .spi, { hdr0 with seq := 2 }, [], .status, ?_, ?_, ?_, ?_, ?_, ?_, ?_, ?_⟩,
    ⟨_, _, dev.linked.modLink .spi (fun x => { x with last := 7 }), .spi, { hdr0 with seq := 7 }, [], .status, ?_, ?_, ?_, ?_, ?_, ?_, ?_, ?_, ?_⟩⟩
    <;> decide +kernel

/-- The checks after the sequence: a mode that does not take the opcode, a Secure command in WORLD 0, a payload of another length. -/
theorem test_hyps_packets_mode_world_length :
    (∃ (i : Link → Hdr → List Byte → Instr) (op : Nat) (s : State) (l : Link) (h : Hdr) (p : List Byte),
      PacketOp i op ∧ hdrFits h p = true ∧ s.serves l = true ∧ s.rxFull l = false ∧ s.seqStep l (hdrCmd h op p) = .go ∧
      s.modeAccepts op = false) ∧
    (∃ (i : Link → Hdr → List Byte → Instr) (op : Nat) (s : State) (l : Link) (h : Hdr) (p : List Byte),
      PacketOp i op ∧ hdrFits h p = true ∧ s.serves l = true ∧ s.rxFull l = false ∧ s.seqStep l (hdrCmd h op p) = .go ∧
      s.modeAccepts op = true ∧ op ∈ secureOps ∧ h.world = .nonSecure ∧ h.tag = none ∧ s.limpTakes op = false) ∧
    (∃ (i : Link → Hdr → List Byte → Instr) (op : Nat) (s : State) (l : Link) (h : Hdr) (p : List Byte) (n : Nat),
      PacketOp i op ∧ hdrFits h p = true ∧ s.serves l = true ∧ s.rxFull l = false ∧ s.seqStep l (hdrCmd h op p) = .go ∧
      s.modeAccepts op = true ∧ s.worldStep l (hdrCmd h op p) = none ∧ lenRule op p = some (.fixed n) ∧ p.length ≠ n) := by
  refine ⟨⟨_, _, (inMode 1).linked, .spi, hdr0, zeros 12, .progCommit, ?_, ?_, ?_, ?_, ?_⟩,
    ⟨_, _, svc.linked, .spi, hdr0, zeros 4, .safeParamCommit, ?_, ?_, ?_, ?_, ?_, ?_, ?_, ?_, ?_⟩,
    ⟨_, _, dev.linked, .spi, hdr0, [1], 0, .status, ?_, ?_, ?_, ?_, ?_, ?_, ?_, ?_⟩⟩ <;> decide +kernel

/-- Each command of groups 0x07 to 0x0A that only reads passes its checks somewhere. -/
theorem test_hyps_unit_reads :
    (∃ (s : State) (h : Hdr) (p : List Byte), s.Passes 0x0701 .spi h p) ∧ (∃ (s : State) (h : Hdr) (p : List Byte), s.Passes 0x0801 .spi h p) ∧
    (∃ (s : State) (h : Hdr) (p : List Byte),
      s.Passes 0x0804 .spi h p ∧ 1 ≤ fieldLe p 2 2 ∧ fieldLe p 2 2 ≤ 1020 ∧ fieldLe p 0 2 + fieldLe p 2 2 ≤ 6144) ∧
    (∃ (s : State) (h : Hdr) (p : List Byte), s.Passes 0x0805 .spi h p) ∧ (∃ (s : State) (h : Hdr) (p : List Byte), s.Passes 0x0901 .spi h p) ∧
    (∃ (s : State) (h : Hdr) (p : List Byte), s.Passes 0x0904 .spi h p) ∧ (∃ (s : State) (h : Hdr) (p : List Byte), s.Passes 0x0905 .spi h p) ∧
    (∃ (s : State) (h : Hdr) (p : List Byte), s.Passes 0x0A03 .spi h p ∧ 1 ≤ fieldLe p 2 2 ∧ fieldLe p 2 2 ≤ 255) := by
  refine ⟨⟨dev.linked, hdr0, [], ?_⟩, ⟨dev.linked, hdr0, [], ?_⟩,
    ⟨dev.linked, hdr0, leBytes 2 5124 ++ leBytes 2 1020, ?_, ?_, ?_, ?_⟩, ⟨dev.linked, hdr0, [], ?_⟩, ⟨dev.linked, hdr0, [], ?_⟩,
    ⟨dev.linked, hdr0, [], ?_⟩, ⟨dev.linked, hdr0, [], ?_⟩, ⟨dev.linked, hdr0, leBytes 2 0 ++ leBytes 2 255, ?_, ?_, ?_⟩⟩
    <;> first | decide +kernel | (constructor <;> decide +kernel)

/-! ### Operands that the spec does not allow -/

theorem test_wf_converters :
    (Instr.conversionSlot (List.replicate 17 0)).wellFormed = true ∧ (Instr.conversionSlot (List.replicate 16 0)).wellFormed = false := by
  decide +kernel

theorem test_wf_payload_and_tag :
    (Instr.status .spi { hdr1 with tag := some (zeros 16) } (zeros 4096)).wellFormed = true ∧
    (Instr.status .spi hdr0 (zeros 4097)).wellFormed = false ∧ (Instr.status .spi { hdr1 with tag := some (zeros 15) } []).wellFormed = false := by
  decide +kernel

theorem test_wf_key : (Instr.keyLoad 0 (zeros 32)).wellFormed = true ∧ (Instr.keyLoad 0 (zeros 31)).wellFormed = false := by
  decide +kernel

theorem test_wf_granary_address :
    (Instr.granaryLoRead .secure 0x40090000).wellFormed = true ∧ (Instr.granaryLoRead .secure 0x400A0000).wellFormed = false := by
  decide +kernel

theorem test_wf_mram_words :
    (Instr.mramRefresh [0x7FFF] [] [0x7FFFF8]).wellFormed = true ∧ (Instr.mramRefresh [] [] [4]).wellFormed = false ∧
    (Instr.mramRefresh [] [] [0x800000]).wellFormed = false ∧ (Instr.mramRefresh [] [0x8000] []).wellFormed = false := by
  decide +kernel

/-! ### The spec's worked figures -/

/-- The trim of the standalone node: −1,327, two's complement 0xFAD1, is more than 500 from 0 and is refused; the step of −500 to it is
taken at the next reference edge (the example under R25). -/
theorem test_trim_steps :
    (svc.write .secure R.CLK_SYN0_TRIM 0xFAD1).on F.CLK_STAT_TRIM_REFUSED = true ∧
    (svc.write .secure R.CLK_SYN0_TRIM 0xFAD1).clk.trimNext = none ∧ (svc.write .secure R.CLK_SYN0_TRIM 0xFE0C).clk.trimNext = some (-500) := by
  decide +kernel

/-- SM-5's commit phase of 75 % of 25,000 cycles is cycle 18,750 (the example under R52). -/
theorem test_commit_cycle :
    ((dev.wr (R.LOOM_PERc 0) 0x30D4).wr (R.LOOM_CPHc 0) 0xC000).carPeriod 0 = 25000 ∧
    ((dev.wr (R.LOOM_PERc 0) 0x30D4).wr (R.LOOM_CPHc 0) 0xC000).commitCycle 0 = 18750 := by
  decide +kernel

/-- SM-5 near full modulation: the first low pulse is carried, the second is emitted and closes 25,600 units late (the second example
under R184). -/
theorem test_carry_policy :
    judgePulse 2 768000 (some 832000) 38400 51200 0 = { emitted := false, closeAt := some 832000, moved := 0, carry := 25600, short := true } ∧
    judgePulse 2 2368000 (some 2432000) 38400 51200 25600 =
      { emitted := true, closeAt := some 2457600, moved := 25600, carry := 0, short := true } := by
  decide +kernel

/-- SM-1's bypass driver: 0x00F9_0001 is 1.0 A on (9), 1.6 A off (15), with no group (the example under R199). -/
theorem test_driver_fields :
    (dev.wr (R.GDP_GDn_CFG 4) 0x00F90001).get (F.GDP_GDn_CFG_ISRC 4) = 9 ∧ (dev.wr (R.GDP_GDn_CFG 4) 0x00F90001).get (F.GDP_GDn_CFG_ISNK 4) = 15 ∧
    (dev.wr (R.GDP_GDn_CFG 4) 0x00F90001).get (F.GDP_GDn_CFG_GRPMASK 4) = 0 := by
  decide +kernel

/-- SM-3's TL12: 0x0320_0403 is EN, BLANKABLE, FILT 4 and BLANK 800 (the example under R192). -/
theorem test_trip_line_fields :
    (dev.wr (R.LOOM_TLk_CFG 12) 0x03200403).get (F.LOOM_TLk_CFG_FILT 12) = 4 ∧ (dev.wr (R.LOOM_TLk_CFG 12) 0x03200403).get (F.LOOM_TLk_CFG_BLANK 12) = 800 ∧
    (dev.wr (R.LOOM_TLk_CFG 12) 0x03200403).on (F.LOOM_TLk_CFG_BLANKABLE 12) = true := by
  decide +kernel

/-- SM-3's encoder: 0x0428_0141 is quadrature, gated index, CORRECT, FILT 40 and ILLN 4, and the emulation divides to 1,024 pulses (the
example under R264). -/
theorem test_encoder_fields :
    (dev.wr (R.SHF_ENCn_CFG 0) 0x04280141).get (F.SHF_ENCn_CFG_FILT 0) = 40 ∧ (dev.wr (R.SHF_ENCn_CFG 0) 0x04280141).get (F.SHF_ENCn_CFG_ILLN 0) = 4 ∧
    (dev.wr R.SHF_EMU_CFG 0x03FF2800).eppr = 1024 ∧ (dev.wr R.SHF_EMU_CFG 0x03FF2800).get F.SHF_EMU_CFG_MINE = 40 := by
  decide +kernel

/-- SM-3's link window: 0x377D_233A is LO 826, HI 840 and CEIL 887 (the example under R224). -/
theorem test_window_fields :
    (dev.wr (R.CMP_WINw_TH 20) 0x377D233A).get (F.CMP_WINw_TH_LO 20) = 826 ∧ (dev.wr (R.CMP_WINw_TH 20) 0x377D233A).get (F.CMP_WINw_TH_HI 20) = 840 ∧
    (dev.wr (R.CMP_WINw_TH 20) 0x377D233A).get (F.CMP_WINw_TH_CEIL 20) = 887 := by
  decide +kernel

/-! ### Published check values -/

/-- CRC-32C of the nine digits is 0xE306_9283 (the catalogue's check value). -/
theorem test_crc32c : crc32c (ascii "123456789") = 0xE3069283 := by decide +kernel

/-- SHA-256 of "abc" begins BA78 16BF (FIPS 180-4's example). -/
theorem test_sha256 : (sha256 (ascii "abc")).take 4 = [0xBA, 0x78, 0x16, 0xBF] := by decide +kernel

/-- HMAC-SHA-256 of "what do ya want for nothing?" under "Jefe" begins 5BDC C146 (RFC 4231, case 2). -/
theorem test_hmac : (hmac256 (ascii "Jefe") (ascii "what do ya want for nothing?")).take 4 = [0x5B, 0xDC, 0xC1, 0x46] := by decide +kernel

/-! ### The queue -/

/-- An empty queue passes a cycle; a command at the front runs and the next comes to the front; no word of the table spells a command. -/
theorem test_queue :
    step State.reset = .next State.reset.tick ∧
    step { dev with pending := [.spiStatus, .spiRead 0] } = .next { dev with pending := [.spiRead 0] } ∧
    ∀ n w, State.reset.withFetchWord n w = State.reset := by
  refine ⟨rfl, rfl, fun _ _ => rfl⟩

/-! ### Ring operands that the spec does not allow -/

theorem test_wf_ring :
    (Instr.copyPassage .a [] 63 0).wellFormed = true ∧ (Instr.copyPassage .a [] 64 0).wellFormed = false ∧
    (Instr.knock ⟨.a, true⟩ 1 2 false (List.replicate 6 0) 3 4 5 6).wellFormed = true ∧
    (Instr.knock ⟨.a, true⟩ 1 2 false (List.replicate 5 0) 3 4 5 6).wellFormed = false ∧
    (Instr.roster ⟨.a, true⟩ 1 6128 (List.replicate 16 0)).wellFormed = true ∧
    (Instr.roster ⟨.a, true⟩ 1 6144 (List.replicate 16 0)).wellFormed = false ∧
    (Instr.roster ⟨.a, true⟩ 1 6121 (List.replicate 16 0)).wellFormed = false ∧
    (Instr.present ⟨.a, true⟩ 1 1 0 0).wellFormed = true ∧ (Instr.present ⟨.a, true⟩ 1 2 0 0).wellFormed = false := by
  decide +kernel

end

end Sys2Proof.Machine
end

/-! Proofs on clocks and timebase (spec/02): serial numbers (R41), late compare targets (R36), the reads of the timebase (R34). -/

namespace Sys2Proof.Machine

/-! ### Serial numbers (R41) -/

/-- The distance that `newer` takes is the distance of the integers modulo 2^n. -/
theorem newer_distance (n a b : Nat) (hb : b < 2 ^ n) : (((a + 2 ^ n - b % 2 ^ n) % 2 ^ n : Nat) : Int) = ((a : Int) - b) % 2 ^ n := by
  have hle : b ≤ a + 2 ^ n := by omega
  rw [Nat.mod_eq_of_lt hb]
  push_cast [Nat.cast_sub hle]
  rw [add_sub_right_comm, Int.add_emod_right]

theorem newer_iff_distance (n a b : Nat) (hb : b < 2 ^ n) :
    newer n a b = true ↔ 0 < ((a : Int) - b) % 2 ^ n ∧ ((a : Int) - b) % 2 ^ n < 2 ^ (n - 1) := by
  rw [← newer_distance n a b hb]
  simp only [newer, Bool.and_eq_true, decide_eq_true_eq]
  exact_mod_cast Iff.rfl

theorem distance_eq_zero_iff (n a b : Nat) (ha : a < 2 ^ n) (hb : b < 2 ^ n) : ((a : Int) - b) % 2 ^ n = 0 ↔ a = b := by
  have ha' : (a : Int) < 2 ^ n := by exact_mod_cast ha
  have hb' : (b : Int) < 2 ^ n := by exact_mod_cast hb
  rw [← Int.emod_eq_emod_iff_emod_sub_eq_zero, Int.emod_eq_of_lt (Int.natCast_nonneg a) ha', Int.emod_eq_of_lt (Int.natCast_nonneg b) hb',
    Nat.cast_inj]

/-- The distances of two numbers in either direction add up to a multiple of 2^n. -/
theorem distance_add_distance (n : Nat) (a b : Int) : ((a - b) % 2 ^ n + (b - a) % 2 ^ n) % 2 ^ n = 0 := by
  rw [← Int.add_emod, sub_add_sub_cancel, sub_self, Int.zero_emod]

/-- Of two numbers at most one is newer than the other: both distances cannot lie below half of 2^n. -/
theorem newer_asymm (n a b : Nat) (hn : 0 < n) (ha : a < 2 ^ n) (hb : b < 2 ^ n) (h : newer n a b = true) : newer n b a = false := by
  rw [Bool.eq_false_iff]
  intro h'
  obtain ⟨hpos, hlt⟩ := (newer_iff_distance n a b hb).1 h
  obtain ⟨hpos', hlt'⟩ := (newer_iff_distance n b a ha).1 h'
  have hsum := distance_add_distance n a b
  have hhalf : (2 : Int) ^ n = 2 * 2 ^ (n - 1) := by rw [← pow_succ', Nat.sub_add_cancel hn]
  rw [Int.emod_eq_of_lt (by omega) (by omega)] at hsum
  omega

/-- Settles O60: `newer` takes the distance of R41, and the distances in the two directions add up to 2^n. -/
theorem serialNumbersCompareByDistance : Obligations.SerialNumbersCompareByDistance := by
  intro n a b hn ha hb d
  have hiff : newer n a b = true ↔ 0 < d ∧ d < 2 ^ (n - 1) := newer_iff_distance n a b hb
  refine ⟨hiff, distance_eq_zero_iff n a b ha hb, fun hd => ?_, newer_asymm n a b hn ha hb⟩
  rw [Bool.eq_false_iff]
  exact fun h => absurd hd (hiff.1 h).2.ne

/-! ### Compare units (R35, R36) -/

theorem State.transact_regs (s t : State) (k n : Nat) : (s.transact t k n).regs = t.regs := by
  obtain ⟨_, _, h⟩ := State.transact_shape s t k n
  rw [h]

theorem State.transact_events (s t : State) (k n : Nat) : (s.transact t k n).events = t.events := by
  obtain ⟨_, _, h⟩ := State.transact_shape s t k n
  rw [h]

theorem State.takePort_regs (s : State) (a : Nat) : (s.takePort a).regs = s.regs := by
  obtain ⟨_, h⟩ := State.takePort_shape s a
  rw [h]

theorem State.takePort_events (s : State) (a : Nat) : (s.takePort a).events = s.events := by
  obtain ⟨_, h⟩ := State.takePort_shape s a
  rw [h]

/-- Of the registers and the events, a host's write that passes the checks changes what its register's behaviour changes. -/
theorem State.write_accepted_keeps {s : State} {w : World} {a : Nat} {v : Word} (h : s.accepts w a v) (hp : movesPolicy a = false) :
    (s.write w a v).regs = (s.hook a v).regs ∧ (s.write w a v).events = (s.hook a v).events := by
  rw [State.write_accepted h, State.policyFor_plain _ hp, State.takePort_regs, State.takePort_events, State.transact_regs,
    State.transact_events]
  exact ⟨State.markWritten_regs .., State.markWritten_events ..⟩

/-- A compare unit that is found late: no event, MISSED set and EN clear (R36). -/
def State.missed (s t : State) (n : Nat) : Prop :=
  t.events = s.events ∧ t.on (F.CLK_CMPn_CTRL_MISSED n) = true ∧ t.on (F.CLK_CMPn_CTRL_EN n) = false

theorem State.missed_congr {s t u : State} {n : Nat} (hr : u.regs = t.regs) (he : u.events = t.events) (h : s.missed t n) : s.missed u n := by
  unfold State.missed
  rw [State.on_congr hr, State.on_congr hr, he]
  exact h

theorem State.missed_cmpLate (s : State) (n : Nat) (h : s.cmpTarget n ≤ s.count) : s.missed (s.cmpLate n) n := by
  unfold State.cmpLate
  rw [if_pos h]
  refine ⟨rfl, ?_, State.on_clr_same _ _ (by simp)⟩
  rw [State.clr, State.on_put_other _ _ _ _ (by simp) (by simp)]
  exact State.on_set1_same s _ (by simp) (by simp)

theorem State.storePlain_events (s : State) (a : Nat) (v : Word) : (s.storePlain a v).events = s.events := by
  unfold State.storePlain
  split <;> rfl

theorem State.storePlain_count (s : State) (a : Nat) (v : Word) : (s.storePlain a v).count = s.count := by
  unfold State.storePlain
  split <;> rfl

/-! The halves of a unit's target and its CTRL are registers of their own. -/

theorem cmpHi_ne_cmpLo (n : Nat) : R.CLK_CMPn_HI n ≠ R.CLK_CMPn_LO n := (Nat.add_lt_add_right (by decide) _).ne'
theorem cmpLo_ne_cmpCtrl (n : Nat) : R.CLK_CMPn_LO n ≠ R.CLK_CMPn_CTRL n := (Nat.add_lt_add_right (by decide) _).ne
theorem cmpHi_ne_cmpCtrl (n : Nat) : R.CLK_CMPn_HI n ≠ R.CLK_CMPn_CTRL n := (Nat.add_lt_add_right (by decide) _).ne

theorem State.cmpTarget_storeCtrl (s : State) (n : Nat) (v : Word) :
    (s.storePlain (R.CLK_CMPn_CTRL n) v).cmpTarget n = s.cmpTarget n := by
  unfold State.cmpTarget
  rw [State.rd_storePlain, State.rd_storePlain, if_neg (cmpLo_ne_cmpCtrl n), if_neg (cmpHi_ne_cmpCtrl n)]

/-- A load of HI makes a target of the held LO half and the value written. -/
theorem State.cmpTarget_load (s : State) (n : Nat) (lo hi : Word) :
    ((s.wr (R.CLK_CMPn_LO n) lo).wr (R.CLK_CMPn_HI n) hi).cmpTarget n = lo.toNat + 2 ^ 32 * hi.toNat := by
  unfold State.cmpTarget
  simp only [State.rd_wr, if_true, if_neg (cmpHi_ne_cmpLo n).symm]

/-- EN is set with the target at or before COUNT, where no match of the cycle has gone before. -/
theorem State.missed_cmpCtrl (s : State) (n : Nat) (v : Word) (hen : bitAt v 0 = true) (hoff : s.on (F.CLK_CMPn_CTRL_EN n) = false)
    (hlate : s.cmpTarget n ≤ s.count) (hfired : bitAt (s.setNow (R.CLK_CMPn_CTRL n)) 9 = false) : s.missed (s.cmpCtrl n v) n := by
  obtain ⟨hev, hmissed, hclear⟩ := State.missed_cmpLate (s.storePlain (R.CLK_CMPn_CTRL n) v) n
    (by rw [State.cmpTarget_storeCtrl, State.storePlain_count]; exact hlate)
  rw [State.storePlain_events] at hev
  simp only [State.cmpCtrl, hen, hoff, hfired, Bool.not_false, and_self, if_true]
  exact ⟨hev, hmissed, hclear⟩

/-- A target is loaded that lies at or before COUNT. -/
theorem State.missed_cmpLoad (s : State) (n : Nat) (v : Word) (hlate : (nth s.clk.cmpHeldLo n 0).toNat + 2 ^ 32 * v.toNat ≤ s.count) :
    s.missed (s.cmpLoad n v) n :=
  State.missed_cmpLate _ n (by rw [State.cmpTarget_load]; exact hlate)

/-- An event that is not one of the safety events puts at most one more on its way. -/
theorem State.raise_events_length_le (s : State) (src : Nat) (h : ¬ (src = 0xF0 ∨ src = 0xF6)) :
    (s.raise src).events.length ≤ s.events.length + 1 := by
  unfold State.raise State.emit
  rw [if_neg h, State.loupeSee_events]
  unfold State.route
  split <;> simp

theorem State.putTarget_events (s : State) (n t : Nat) : (s.putTarget n t).events = s.events := rfl

theorem State.update_events (s : State) (f : Fld) (n : Nat) : (s.update f n).events = s.events := by
  unfold State.update
  split <;> rfl

/-- A match puts at most one event on its way: event 0xE0 + n is no safety event. -/
theorem State.cmpMatch_events_length_le (s : State) (n : Fin 16) : (s.cmpMatch n).events.length ≤ s.events.length + 1 := by
  have hraise := State.raise_events_length_le s (0xE0 + n) (by omega)
  unfold State.cmpMatch
  dsimp only
  split
  · split
    · rw [State.update_events, State.set1_events]
      exact hraise
    · split
      · rw [State.set1_events]
        exact hraise
      · rw [State.putTarget_events, State.set1_events]
        exact hraise
  · exact Nat.le_succ _

theorem movesPolicy_cmpCtrl : ∀ n : Fin 16, movesPolicy (R.CLK_CMPn_CTRL n) = false := by decide
theorem movesPolicy_cmpHi : ∀ n : Fin 16, movesPolicy (R.CLK_CMPn_HI n) = false := by decide

theorem bitAt_or_one (v : Word) : bitAt (v ||| 1) 0 = true := by simp [bitAt]

/-- Settles O9: both ways to arm a unit end in `State.cmpLate`, and a match raises one event. -/
theorem lateTargetsAreMissed : Obligations.LateTargetsAreMissed := by
  intro s w n v
  refine ⟨fun hacc hoff hlate hfired => ⟨_, rfl, ?_⟩, fun hacc hlate => ⟨_, rfl, ?_⟩, _, rfl, State.cmpMatch_events_length_le s n⟩
  · obtain ⟨hr, he⟩ := State.write_accepted_keeps hacc (movesPolicy_cmpCtrl n)
    rw [State.hook_CLK_CMPn_CTRL] at hr he
    exact State.missed_congr hr he (State.missed_cmpCtrl s n (v ||| 1) (bitAt_or_one v) hoff hlate hfired)
  · obtain ⟨hr, he⟩ := State.write_accepted_keeps hacc (movesPolicy_cmpHi n)
    rw [State.hook_CLK_CMPn_HI] at hr he
    exact State.missed_congr hr he (State.missed_cmpLoad s n v hlate)

/-! ### The reads of the timebase (R34) -/

theorem State.shown_tbFine (s : State) : s.shown R.CLK_TB_FINE = s.rd R.CLK_TB_FINE := rfl

theorem State.hostMoves_regs (s t : State) (n : Nat) : (s.hostMoves t n).regs = t.regs := by
  obtain ⟨_, _, _, h⟩ := State.hostMoves_shape s t n
  rw [h]

theorem State.hostMoves_sys (s t : State) (n : Nat) : (s.hostMoves t n).sys = t.sys := by
  obtain ⟨_, _, _, h⟩ := State.hostMoves_shape s t n
  rw [h]

/-- A ring MEMBER that runs in READY with both ports enabled, at EPOCH 1 and FINE 5, whose UART link is ready for SEQ 1. -/
def fineMember : State :=
  ((({ State.reset with sys := { State.reset.sys with phase := .run } }.put F.RING_STAT_STATE 3).set1 F.RING_CTRL_EN_A).set1 F.RING_CTRL_EN_B
    |>.modClk (fun c => { c with epoch := 1, fine := 5 })).modLink .uart (fun x => { x with hello := true })

/-- A REG_WRITE of 0 to RING_CTRL, which takes the node off the ring and so sets FINE to 0 (R32, R276). -/
def portsOffPacket : List Byte :=
  hdrPacket { world := .nonSecure, seq := 1, ack := 0, ctr := 0, tag := none } 0x0102 (leBytes 2 1 ++ zeros 2 ++ leBytes 4 R.RING_CTRL ++ zeros 4)

/-- A REG_READ of CLK_TB_LO. -/
def tbLoPacket : List Byte :=
  hdrPacket { world := .nonSecure, seq := 2, ack := 0, ctr := 0, tag := none } 0x0101 (leBytes 4 R.CLK_TB_LO ++ leBytes 2 1 ++ zeros 2)

/-- In one run of bytes the UART takes both packets: the read latches the FINE that the write has left. -/
theorem fineMember_uartRun : (fineMember.uartRun (portsOffPacket ++ tbLoPacket)).sys.phase = .run ∧
    (fineMember.uartRun (portsOffPacket ++ tbLoPacket)).rd R.CLK_TB_FINE = 0x10000 := by
  decide +kernel

theorem fineMember_tbFine : fineMember.rd R.CLK_TB_FINE = 0 ∧ fineMember.latchTimebase.rd R.CLK_TB_FINE = 0x10005 := by decide +kernel

/-- Refutes O8: a run of bytes on the UART is one command and may hold several packets. One of them can change FINE, as taking the node off
the ring does, before another reads CLK_TB_LO; what is latched then is neither the value shown before nor the instant at which the command
begins. -/
theorem not_timebaseReadsGiveOneInstant : ¬ Obligations.TimebaseReadsGiveOneInstant := by
  rintro ⟨-, -, -, hreads⟩
  obtain ⟨hrun, hfine⟩ := fineMember_uartRun
  obtain ⟨hbefore, hpresent⟩ := fineMember_tbFine
  have hclaim := hreads fineMember _ (.uartPacket (portsOffPacket ++ tbLoPacket)) rfl rfl rfl (by rw [State.hostMoves_sys]; exact hrun)
  simp only [State.shown_tbFine, State.rd_congr (State.hostMoves_regs ..), hfine, hbefore, hpresent] at hclaim
  rcases hclaim with ⟨-, h⟩ | ⟨-, h⟩
  · exact absurd h (by decide)
  · exact absurd h (by decide)

end Sys2Proof.Machine

/-! What every step keeps: one relation between a state and what an operation makes of it, one lemma for each operation of the model, and
the invariants that follow (R175, R330, and the forms of State.Shaped and State.Canonical). -/

namespace Sys2Proof.Machine

set_option Elab.async false

/-! ### The parts of `State.Shaped` -/

structure Clk.Shaped (x : Clk) : Prop where
  held : x.cmpHeldLo.length = 16
  capHi : x.capHi.length = 8

structure Loom.Shaped (x : Loom) : Prop where
  legs : x.legs.length = 24
  cars : x.cars.length = 8
  tls : x.tls.length = 16
  trims : x.trims.length = 48
  lineEdge : x.lineEdge.length = 48
  lineStep : x.lineStep.length = 48

structure Acq.Shaped (x : Acq) : Prop where
  slices : x.slices.length = 16
  outs : x.outs.length = 16
  stamps : x.dataStamps.length = 16

structure Prism.Shaped (x : Prism) : Prop where
  wins : x.wins.length = 64
  streams : x.streams.length = 40

structure Wvn.Shaped (x : Wvn) : Prop where
  sets : x.sets.length = 4
  mpps : x.mpps.length = 8

structure Grn.Shaped (x : Grn) : Prop where
  ac : x.ac.length = 4
  dc : x.dc.length = 4
  totals : x.totals.length = 176
  snapTotals : x.snapTotals.length = 176
  snapGaps : x.snapGaps.length = 8
  epoAcc : x.epoAcc.length = 4
  epoStart : x.epoStart.length = 4
  epoIdle : x.epoIdle.length = 4

structure Tst.Shaped (x : Tst) : Prop where
  lfsr : x.lfsr.length = 8
  held : x.held.length = 8

/-- The memories of the Mill in canonical form. -/
structure Mill.Canonical (x : Mill) : Prop where
  dmem : cellWf (fun _ => (0 : Word)) 0 x.dmem = true
  bankA : cellWf (fun _ => (0 : Word)) 0 x.bankA = true
  bankB : cellWf (fun _ => (0 : Word)) 0 x.bankB = true

/-- The SRAM and the MRAM in canonical form. -/
structure Mem.Canonical (x : Mem) : Prop where
  sram : cellWf (fun _ => (0 : Byte)) 0 x.sram = true
  mram : cellWf (fun _ => (0 : Byte)) 0 x.mram = true

/-! ### The relation -/

/-- No leg has both of its outputs on (R175). -/
def LegSt.apart (x : LegSt) : Prop := ¬ (x.outH = true ∧ x.outL = true)

def State.legsApart (s : State) : Prop := ∀ l, (s.leg l).apart

/-- SYS_MODE.MODE names a mode (R330). -/
def State.modeLegal (s : State) : Prop := s.get F.SYS_MODE_MODE ≤ 5

/-- From `s` to `t` the queue is left alone, and every invariant is kept. -/
structure State.Keeps (s t : State) : Prop where
  queue : t.pending = s.pending
  legal : s.modeLegal → t.modeLegal
  apart : s.legsApart → t.legsApart
  shaped : s.Shaped → t.Shaped
  canonical : s.Canonical → t.Canonical

namespace State

theorem Keeps.refl (s : State) : s.Keeps s := ⟨rfl, id, id, id, id⟩

variable {s t u : State}

theorem Keeps.trans (h : s.Keeps t) (h' : t.Keeps u) : s.Keeps u :=
  ⟨h'.queue.trans h.queue, h'.legal ∘ h.legal, h'.apart ∘ h.apart, h'.shaped ∘ h.shaped, h'.canonical ∘ h.canonical⟩

/-! ### Control -/

theorem Keeps.ite {p : Prop} [Decidable p] (ht : s.Keeps t) (hu : s.Keeps u) : s.Keeps (if p then t else u) := by
  split
  · exact ht
  · exact hu

theorem Keeps.foldl {α : Type} {f : State → α → State} {l : List α} (h : s.Keeps t) (hf : ∀ u a, s.Keeps u → s.Keeps (f u a)) :
    s.Keeps (l.foldl f t) := by
  induction l generalizing t with
  | nil => exact h
  | cons a l ih => exact ih (hf t a h)

theorem Keeps.forAll (h : s.Keeps t) {n : Nat} {f : Nat → State → State} (hf : ∀ i u, s.Keeps u → s.Keeps (f i u)) :
    s.Keeps (t.forAll n f) :=
  h.foldl fun u i => hf i u

theorem Keeps.whenB (h : s.Keeps t) {b : Bool} {f : State → State} (hf : ∀ u, s.Keeps u → s.Keeps (f u)) : s.Keeps (t.whenB b f) :=
  .ite (hf t h) h

/-! ### Updates of the state's fields -/

/-- An update of fields of which no invariant speaks. -/
theorem Keeps.record (h : s.Keeps t) (hp : u.pending = t.pending := by rfl) (hr : u.regs = t.regs := by rfl)
    (hl : u.loom.legs = t.loom.legs := by rfl) (hs : t.Shaped → u.Shaped := by exact fun h => { h with })
    (hc : t.Canonical → u.Canonical := by exact fun h => { h with }) : s.Keeps u :=
  h.trans ⟨hp, fun hm => by rw [modeLegal, get_congr hr]; exact hm, fun ha l => by rw [leg, hl]; exact ha l, hs, hc⟩

theorem Keeps.wrOther (h : s.Keeps t) {a : Nat} {v : Word} (ha : R.SYS_MODE ≠ a) : s.Keeps (t.wr a v) :=
  h.trans ⟨rfl, fun hm => by rw [modeLegal, get_wr, if_neg ha]; exact hm, id, fun hs => { hs with },
    fun hc => { hc with regs := cellWf_cellSet _ _ _ _ _ (Nat.zero_le _) hc.regs }⟩

theorem Keeps.wr (h : s.Keeps t) {a : Nat} {v : Word} (ha : R.SYS_MODE < a := by (try dsimp only) <;> (repeat' split) <;> (iterate 3 try apply Nat.lt_add_right) <;> decide) : s.Keeps (t.wr a v) :=
  h.wrOther ha.ne

/-- A put in a field of SYS_MODE other than MODE. -/
theorem Keeps.putAbove (h : s.Keeps t) {f : Fld} {n : Nat} (hf : 3 ≤ f.lo := by decide) (hw : f.lo + f.width ≤ 32 := by decide) :
    s.Keeps (t.put f n) :=
  h.trans ⟨rfl, fun hm => by rwa [modeLegal, get_put_other t f F.SYS_MODE_MODE n hw (.inr (.inl hf))], id, fun hs => { hs with },
    fun hc => { hc with regs := cellWf_cellSet _ _ _ _ _ (Nat.zero_le _) hc.regs }⟩

theorem modeLegal_putMode (s : State) (m : Mode) : (s.put F.SYS_MODE_MODE m.code).modeLegal := by
  rw [modeLegal, get_put_same _ _ _ (by decide)]
  cases m <;> decide

theorem Keeps.putMode (h : s.Keeps t) (m : Mode) : s.Keeps (t.put F.SYS_MODE_MODE m.code) :=
  h.trans ⟨rfl, fun _ => modeLegal_putMode t m, id, fun hs => { hs with },
    fun hc => { hc with regs := cellWf_cellSet _ _ _ _ _ (Nat.zero_le _) hc.regs }⟩

/-! ### Updates of registers other than SYS_MODE -/

theorem Keeps.markSet (h : s.Keeps t) {a : Nat} {v : Word} : s.Keeps (t.markSet a v) := h.record
theorem Keeps.markWritten (h : s.Keeps t) {a : Nat} {v : Word} : s.Keeps (t.markWritten a v) := h.record
theorem Keeps.load (h : s.Keeps t) {a : Nat} {v : Word} (ha : R.SYS_MODE < a := by (try dsimp only) <;> (repeat' split) <;> (iterate 3 try apply Nat.lt_add_right) <;> decide) : s.Keeps (t.load a v) := (h.wr ha).markSet
theorem Keeps.put (h : s.Keeps t) {f : Fld} {n : Nat} (ha : R.SYS_MODE < f.addr := by (try dsimp only) <;> (repeat' split) <;> (iterate 3 try apply Nat.lt_add_right) <;> decide) : s.Keeps (t.put f n) := (h.wr ha).markSet
theorem Keeps.update (h : s.Keeps t) {f : Fld} {n : Nat} (ha : R.SYS_MODE < f.addr := by (try dsimp only) <;> (repeat' split) <;> (iterate 3 try apply Nat.lt_add_right) <;> decide) : s.Keeps (t.update f n) := .ite h (h.put ha)
theorem Keeps.set1 (h : s.Keeps t) {f : Fld} (ha : R.SYS_MODE < f.addr := by (try dsimp only) <;> (repeat' split) <;> (iterate 3 try apply Nat.lt_add_right) <;> decide) : s.Keeps (t.set1 f) := h.put ha
theorem Keeps.clr (h : s.Keeps t) {f : Fld} (ha : R.SYS_MODE < f.addr := by (try dsimp only) <;> (repeat' split) <;> (iterate 3 try apply Nat.lt_add_right) <;> decide) : s.Keeps (t.clr f) := h.put ha
theorem Keeps.putB (h : s.Keeps t) {f : Fld} {b : Bool} (ha : R.SYS_MODE < f.addr := by (try dsimp only) <;> (repeat' split) <;> (iterate 3 try apply Nat.lt_add_right) <;> decide) : s.Keeps (t.putB f b) := h.put ha
theorem Keeps.incW (h : s.Keeps t) {f : Fld} (ha : R.SYS_MODE < f.addr := by (try dsimp only) <;> (repeat' split) <;> (iterate 3 try apply Nat.lt_add_right) <;> decide) : s.Keeps (t.incW f) := h.put ha
theorem Keeps.incS (h : s.Keeps t) {f : Fld} (ha : R.SYS_MODE < f.addr := by (try dsimp only) <;> (repeat' split) <;> (iterate 3 try apply Nat.lt_add_right) <;> decide) : s.Keeps (t.incS f) := h.put ha
theorem Keeps.putBit (h : s.Keeps t) {a i : Nat} {b : Bool} (ha : R.SYS_MODE < a := by (try dsimp only) <;> (repeat' split) <;> (iterate 3 try apply Nat.lt_add_right) <;> decide) : s.Keeps (t.putBit a i b) := h.put ha

/-! ### Updates of one subsystem -/

theorem Keeps.modCar (h : s.Keeps t) {c : Nat} {f : CarSt → CarSt} : s.Keeps (t.modCar c f) :=
  h.record (hs := fun hs => { hs with cars := (length_upd _ _ _).trans hs.cars })

theorem Keeps.modTl (h : s.Keeps t) {k : Nat} {f : TlSt → TlSt} : s.Keeps (t.modTl k f) :=
  h.record (hs := fun hs => { hs with tls := (length_upd _ _ _).trans hs.tls })

theorem Keeps.modGd (h : s.Keeps t) {n : Nat} {f : GdSt → GdSt} : s.Keeps (t.modGd n f) :=
  h.record (hs := fun hs => { hs with gds := (length_upd _ _ _).trans hs.gds })

theorem Keeps.modGroup (h : s.Keeps t) {g : Nat} {f : GroupSt → GroupSt} : s.Keeps (t.modGroup g f) :=
  h.record (hs := fun hs => { hs with groups := (length_upd _ _ _).trans hs.groups })

theorem Keeps.modBrk (h : s.Keeps t) {n : Nat} {f : LinkBrk → LinkBrk} : s.Keeps (t.modBrk n f) :=
  h.record (hs := fun hs => { hs with brks := (length_upd _ _ _).trans hs.brks })

theorem Keeps.modWin (h : s.Keeps t) {w : Nat} {f : CmpWin → CmpWin} : s.Keeps (t.modWin w f) :=
  h.record (hs := fun hs => { hs with wins := (length_upd _ _ _).trans hs.wins })

theorem Keeps.modSlice (h : s.Keeps t) {n : Nat} {f : SliceSt → SliceSt} : s.Keeps (t.modSlice n f) :=
  h.record (hs := fun hs => { hs with slices := (length_upd _ _ _).trans hs.slices })

theorem Keeps.modPrismWin (h : s.Keeps t) {w : Nat} {f : PrismWin → PrismWin} : s.Keeps (t.modPrismWin w f) :=
  h.record (hs := fun hs => { hs with prismWins := (length_upd _ _ _).trans hs.prismWins })

theorem Keeps.modAc (h : s.Keeps t) {m : Nat} {f : AcMeter → AcMeter} : s.Keeps (t.modAc m f) :=
  h.record (hs := fun hs => { hs with ac := (length_upd _ _ _).trans hs.ac })

theorem Keeps.modDc (h : s.Keeps t) {m : Nat} {f : DcMeter → DcMeter} : s.Keeps (t.modDc m f) :=
  h.record (hs := fun hs => { hs with dc := (length_upd _ _ _).trans hs.dc })

theorem Keeps.modSet (h : s.Keeps t) {k : Nat} {f : SetSt → SetSt} : s.Keeps (t.modSet k f) :=
  h.record (hs := fun hs => { hs with sets := (length_upd _ _ _).trans hs.sets })

theorem Keeps.modMpp (h : s.Keeps t) {m : Nat} {f : MppSt → MppSt} : s.Keeps (t.modMpp m f) :=
  h.record (hs := fun hs => { hs with mpps := (length_upd _ _ _).trans hs.mpps })

theorem Keeps.modTask (h : s.Keeps t) {k : Nat} {f : TaskSt → TaskSt} : s.Keeps (t.modTask k f) :=
  h.record (hs := fun hs => { hs with tasks := (length_upd _ _ _).trans hs.tasks })

theorem Keeps.modLane (h : s.Keeps t) {ln : Nat} {f : Lane → Lane} : s.Keeps (t.modLane ln f) :=
  h.record (hs := fun hs => { hs with lanes := (length_upd _ _ _).trans hs.lanes })

theorem Keeps.modEnc (h : s.Keeps t) {n : Nat} {f : EncSt → EncSt} : s.Keeps (t.modEnc n f) :=
  h.record (hs := fun hs => { hs with encs := (length_upd _ _ _).trans hs.encs })

theorem Keeps.modDma (h : s.Keeps t) {n : Nat} {f : DmaCh → DmaCh} : s.Keeps (t.modDma n f) :=
  h.record (hs := fun hs => { hs with dma := (length_upd _ _ _).trans hs.dma })

theorem Keeps.modSpare (h : s.Keeps t) {f : SpareSt → SpareSt} : s.Keeps (t.modSpare f) := h.record
theorem Keeps.modRamp (h : s.Keeps t) {f : Ramp → Ramp} : s.Keeps (t.modRamp f) := h.record
theorem Keeps.modSys (h : s.Keeps t) {f : Sys → Sys} : s.Keeps (t.modSys f) := h.record
theorem Keeps.modLong (h : s.Keeps t) {f : LongOp → LongOp} : s.Keeps (t.modLong f) := h.record
theorem Keeps.modRound (h : s.Keeps t) {n : Word} {f : RingRound → RingRound} : s.Keeps (t.modRound n f) := h.record

theorem Keeps.modLink (h : s.Keeps t) {l : Link} {f : LinkSt → LinkSt} : s.Keeps (t.modLink l f) := by
  cases l <;> exact h.record

theorem Keeps.modClk (h : s.Keeps t) {f : Clk → Clk} (hf : t.clk.Shaped → (f t.clk).Shaped := by rintro ⟨h1, h2⟩; constructor <;> simp only [length_upd, List.length_map, List.length_replicate, List.length_zipWith, List.length_range, Nat.min_self, h1, h2]) :
    s.Keeps (t.modClk f) :=
  h.record (hs := fun hs => { hs with held := (hf ⟨hs.held, hs.capHi⟩).held, capHi := (hf ⟨hs.held, hs.capHi⟩).capHi })

theorem Keeps.modAcq (h : s.Keeps t) {f : Acq → Acq} (hf : t.acq.Shaped → (f t.acq).Shaped := by rintro ⟨h1, h2, h3⟩; constructor <;> simp only [length_upd, List.length_map, List.length_replicate, List.length_zipWith, List.length_range, Nat.min_self, h1, h2, h3]) :
    s.Keeps (t.modAcq f) :=
  h.record (hs := fun hs => by
    obtain ⟨h1, h2, h3⟩ := hf ⟨hs.slices, hs.outs, hs.stamps⟩
    exact { hs with slices := h1, outs := h2, stamps := h3 })

theorem Keeps.modPrism (h : s.Keeps t) {f : Prism → Prism} (hf : t.prism.Shaped → (f t.prism).Shaped := by rintro ⟨h1, h2⟩; constructor <;> simp only [length_upd, List.length_map, List.length_replicate, List.length_zipWith, List.length_range, Nat.min_self, h1, h2]) :
    s.Keeps (t.modPrism f) :=
  h.record (hs := fun hs => by
    obtain ⟨h1, h2⟩ := hf ⟨hs.prismWins, hs.streams⟩
    exact { hs with prismWins := h1, streams := h2 })

theorem Keeps.modWvn (h : s.Keeps t) {f : Wvn → Wvn} (hf : t.wvn.Shaped → (f t.wvn).Shaped := by rintro ⟨h1, h2⟩; constructor <;> simp only [length_upd, List.length_map, List.length_replicate, List.length_zipWith, List.length_range, Nat.min_self, h1, h2]) :
    s.Keeps (t.modWvn f) :=
  h.record (hs := fun hs => by
    obtain ⟨h1, h2⟩ := hf ⟨hs.sets, hs.mpps⟩
    exact { hs with sets := h1, mpps := h2 })

theorem Keeps.modGrn (h : s.Keeps t) {f : Grn → Grn} (hf : t.grn.Shaped → (f t.grn).Shaped := by rintro ⟨h1, h2, h3, h4, h5, h6, h7, h8⟩; constructor <;> simp only [length_upd, List.length_map, List.length_replicate, List.length_zipWith, List.length_range, Nat.min_self, h1, h2, h3, h4, h5, h6, h7, h8]) :
    s.Keeps (t.modGrn f) :=
  h.record (hs := fun hs => by
    obtain ⟨h1, h2, h3, h4, h5, h6, h7, h8⟩ :=
      hf ⟨hs.ac, hs.dc, hs.totals, hs.snapTotals, hs.snapGaps, hs.epoAcc, hs.epoStart, hs.epoIdle⟩
    exact { hs with
      ac := h1, dc := h2, totals := h3, snapTotals := h4, snapGaps := h5, epoAcc := h6, epoStart := h7, epoIdle := h8 })

theorem Keeps.modTst (h : s.Keeps t) {f : Tst → Tst} (hf : t.tst.Shaped → (f t.tst).Shaped := by rintro ⟨h1, h2⟩; constructor <;> simp only [length_upd, List.length_map, List.length_replicate, List.length_zipWith, List.length_range, Nat.min_self, h1, h2]) :
    s.Keeps (t.modTst f) :=
  h.record (hs := fun hs => by
    obtain ⟨h1, h2⟩ := hf ⟨hs.lfsr, hs.perturbed⟩
    exact { hs with lfsr := h1, perturbed := h2 })

theorem Keeps.modShf (h : s.Keeps t) {f : Shf → Shf} (hf : t.shf.encs.length = 2 → (f t.shf).encs.length = 2 := by simp) :
    s.Keeps (t.modShf f) :=
  h.record (hs := fun hs => { hs with encs := hf hs.encs })

theorem Keeps.modRing (h : s.Keeps t) {f : Ring → Ring} (hf : t.ring.ins.length = 128 → (f t.ring).ins.length = 128 := by simp) :
    s.Keeps (t.modRing f) :=
  h.record (hs := fun hs => { hs with ins := hf hs.ins })

theorem Keeps.modMem (h : s.Keeps t) {f : Mem → Mem} (hf : t.mem.Canonical → (f t.mem).Canonical := by exact fun h => { h with }) :
    s.Keeps (t.modMem f) :=
  h.record (hc := fun hc => by
    obtain ⟨h1, h2⟩ := hf ⟨hc.sram, hc.mram⟩
    exact { hc with sram := h1, mram := h2 })

theorem Keeps.modMill (h : s.Keeps t) {f : Mill → Mill} (hf : t.mill.lanes.length = 4 → (f t.mill).lanes.length = 4 := by simp)
    (hm : t.mill.Canonical → (f t.mill).Canonical := by exact fun h => { h with }) : s.Keeps (t.modMill f) :=
  h.record (hs := fun hs => { hs with lanes := hf hs.lanes }) (hc := fun hc => by
    obtain ⟨h1, h2, h3⟩ := hm ⟨hc.dmem, hc.bankA, hc.bankB⟩
    exact { hc with dmem := h1, bankA := h2, bankB := h3 })

theorem Keeps.modSafe (h : s.Keeps t) {f : Safe → Safe} (ha : t.safe.a.Shaped → (f t.safe).a.Shaped := by exact id)
    (hb : t.safe.b.Shaped → (f t.safe).b.Shaped := by exact id) : s.Keeps (t.modSafe f) :=
  h.record (hs := fun hs => { hs with mirA := ha hs.mirA, mirB := hb hs.mirB })

theorem Keeps.modMir (h : s.Keeps t) {m : Mirror} {f : MirrorSt → MirrorSt}
    (hf : ∀ x, x.Shaped → (f x).Shaped := by
      rintro x ⟨h1, h2, h3, h4, h5, h6, h7, h8, h9, h10⟩
      constructor <;> simp only [MirrorSt.modOut, MirrorSt.rest, length_upd, List.length_replicate, List.length_zipWith, List.length_range,
        Nat.min_self, h1, h2, h3, h4, h5, h6, h7, h8, h9, h10]) : s.Keeps (t.modMir m f) := by
  cases m
  · exact h.modSafe (f := fun x => { x with a := f x.a }) (hf _) id
  · exact h.modSafe (f := fun x => { x with b := f x.b }) id (hf _)

theorem nth_upd_eq {α : Type} (l : List α) (i j : Nat) (f : α → α) (d : α) :
    nth (upd l i f) j d = nth l j d ∨ i = j ∧ nth (upd l i f) j d = f (nth l j d) := by
  by_cases hij : i = j
  · subst hij
    by_cases hi : i < l.length
    · exact .inr ⟨rfl, nth_upd_same l i f d hi⟩
    · left
      simp [nth, upd, hi]
  · exact .inl (nth_upd_other l i j f d hij)

/-- An update of a leg that does not turn on an output beside the other. -/
theorem Keeps.modLeg (h : s.Keeps t) {l : Nat} {f : LegSt → LegSt} (hf : (t.leg l).apart → (f (t.leg l)).apart := by exact fun h => h) :
    s.Keeps (t.modLeg l f) :=
  h.trans ⟨rfl, id, fun ha k => by
      obtain e | ⟨rfl, e⟩ := nth_upd_eq t.loom.legs l k f {}
      · exact (congrArg LegSt.apart e).mpr (ha k)
      · exact (congrArg LegSt.apart e).mpr (hf (ha _)),
    fun hs => { hs with legs := (length_upd _ _ _).trans hs.legs }, fun hc => { hc with }⟩

/-! ### Operations of Machine/Ops.lean -/

theorem Keeps.keepOld (h : s.Keeps t) {a : Nat} : s.Keeps (State.keepOld t a) := by
  unfold State.keepOld
  exact .ite h h.record

theorem Keeps.drawn (h : s.Keeps t) : s.Keeps (State.drawn t) := by
  unfold State.drawn
  exact h.record

theorem Keeps.rtcShown (h : s.Keeps t) : s.Keeps (State.rtcShown t) := by
  unfold State.rtcShown
  exact h.drawn.record

theorem cellWf_foldl_memSetBytes {α : Type} (l : List α) (a : α → Nat) (b : α → List Byte) (m : Memory)
    (h : cellWf (fun _ => (0 : Byte)) 0 m = true) : cellWf (fun _ => (0 : Byte)) 0 (l.foldl (fun x i => memSetBytes x (a i) (b i)) m) = true := by
  induction l generalizing m with
  | nil => exact h
  | cons i l ih => exact ih _ (cellWf_memSetBytes _ _ _ h)

theorem memRewrite_canonical {new : Memory} {x : Mem} {a n : Nat} (h : x.Canonical) (hn : cellWf (fun _ => (0 : Byte)) 0 new = true) :
    (x.rewrite a n new).Canonical :=
  ⟨h.sram, cellWf_foldl_memSetBytes _ _ _ _ hn⟩

theorem Keeps.mramWrite (h : s.Keeps t) {a : Nat} {l : List Byte} : s.Keeps (t.mramWrite a l) :=
  h.record (hc := fun hc => by
    obtain ⟨h1, h2⟩ := memRewrite_canonical (a := a) (n := l.length) ⟨hc.sram, hc.mram⟩ (cellWf_memSetBytes _ a l hc.mram)
    exact { hc with sram := h1, mram := h2 })

theorem Keeps.route (h : s.Keeps t) {src : Nat} : s.Keeps (State.route t src) := by
  unfold State.route
  exact .ite h.record h

theorem Keeps.loupeSee (h : s.Keeps t) {src : Nat} : s.Keeps (State.loupeSee t src) := by
  unfold State.loupeSee
  exact .ite h.record h

theorem Keeps.emit (h : s.Keeps t) {src : Nat} : s.Keeps (State.emit t src) := by
  unfold State.emit
  exact h.route.loupeSee

theorem Keeps.attendBy (h : s.Keeps t) {f : LinkSt → BitVec 8} : s.Keeps (State.attendBy t f) := by
  unfold State.attendBy
  extract_lets -underBinder -merge _ _ t1
  have h1 : s.Keeps t1 := h.modLink.modLink
  exact .ite h1 h1.emit

theorem Keeps.attend (h : s.Keeps t) {bits : BitVec 8} : s.Keeps (State.attend t bits) := by
  unfold State.attend
  exact h.attendBy

theorem Keeps.raise (h : s.Keeps t) {src : Nat} : s.Keeps (State.raise t src) := by
  unfold State.raise
  extract_lets -underBinder -merge t1
  have h1 : s.Keeps t1 := h.emit
  exact .ite h1.attend h1

theorem Keeps.log (h : s.Keeps t) {code : Nat} {block : Nat} {sev : Severity} {data : List Byte} : s.Keeps (State.log t code block sev data) := by
  unfold State.log
  exact h.rtcShown.mramWrite.record.raise.attendBy

/-! ### Operations of Machine/LoomOps.lean -/

theorem Keeps.noteVoid (h : s.Keeps t) {c : Nat} {stamp : Word} : s.Keeps (State.noteVoid t c stamp) := by
  unfold State.noteVoid
  exact h.record

theorem Keeps.void (h : s.Keeps t) {src : VoidSrc} {state : Bool} {c : Nat} {stamp : Word} : s.Keeps (State.void t src state c stamp) := by
  unfold State.void
  extract_lets -underBinder -merge _ _ t1 t2 t3 t4 t5
  have h1 : s.Keeps t1 := .whenB h.putBit (fun _ h1 => h1.set1)
  have h2 : s.Keeps t2 := h1.wr
  have h3 : s.Keeps t3 := .ite h2.wr h2
  have h4 : s.Keeps t4 := .ite h3 h3.incS
  have h5 : s.Keeps t5 := h4.noteVoid
  exact .ite h5 h5.log

theorem Keeps.gdSummary (h : s.Keeps t) : s.Keeps (State.gdSummary t) := by
  unfold State.gdSummary
  exact h.putB

theorem Keeps.gdLatch (h : s.Keeps t) {n : Nat} {flag : Fld}
    (ha : R.SYS_MODE < flag.addr := by (try dsimp only) <;> (repeat' split) <;> (iterate 3 try apply Nat.lt_add_right) <;> decide) : s.Keeps (t.gdLatch n flag) := by
  unfold State.gdLatch
  exact .ite h (h.set1 ha).gdSummary.raise.log

theorem Keeps.gdDrive (h : s.Keeps t) {n : Nat} {on : Bool} : s.Keeps (State.gdDrive t n on) := by
  unfold State.gdDrive
  exact .ite h h.modGd.putB.putB

theorem Keeps.gdRefresh (h : s.Keeps t) {n : Nat} : s.Keeps (State.gdRefresh t n) := by
  unfold State.gdRefresh
  extract_lets -underBinder -merge _ _ _ t1 t2
  have h1 : s.Keeps t1 := h.putB
  have h2 : s.Keeps t2 := .ite h1.gdLatch h1
  exact h2.gdDrive.putB

theorem Keeps.gdRefreshAll (h : s.Keeps t) : s.Keeps (State.gdRefreshAll t) := by
  unfold State.gdRefreshAll
  exact .forAll h (fun _ _ h1 => h1.gdRefresh)

theorem Keeps.gdFollow (h : s.Keeps t) {l : Nat} : s.Keeps (State.gdFollow t l) := by
  unfold State.gdFollow
  exact .forAll h (fun _ _ h1 => .ite h1.gdRefresh h1)

theorem Keeps.gdFault (h : s.Keeps t) {n : Nat} {flag : Fld}
    (ha : R.SYS_MODE < flag.addr := by (try dsimp only) <;> (repeat' split) <;> (iterate 3 try apply Nat.lt_add_right) <;> decide) : s.Keeps (t.gdFault n flag) := by
  unfold State.gdFault
  exact (h.gdLatch ha).gdRefresh

theorem Keeps.openBlanking (h : s.Keeps t) {l : Nat} : s.Keeps (State.openBlanking t l) := by
  unfold State.openBlanking
  exact .forAll h (fun _ _ h1 => .ite h1.modTl h1)

theorem Keeps.lineEdges (h : s.Keeps t) {o : Nat} {b : Bool} : s.Keeps (t.lineEdges o b) := by
  unfold State.lineEdges
  exact .ite (h.record (hs := fun hs => { hs with lineEdge := (length_upd _ _ _).trans hs.lineEdge })) h

theorem lineEdges_leg (s : State) (o : Nat) (b : Bool) (l : Nat) : (s.lineEdges o b).leg l = s.leg l := by
  unfold State.lineEdges
  split <;> rfl

theorem Keeps.setOuts (h : s.Keeps t) {l : Nat} {hi lo edge : Bool} (ho : (t.leg l).apart → ¬ (hi = true ∧ lo = true)) :
    s.Keeps (t.setOuts l hi lo edge) := by
  unfold State.setOuts
  extract_lets +onlyGivenNames _ t1 t2 t3
  have h2 : s.Keeps t2 := h.lineEdges.lineEdges.modLeg fun ha => ho (by rwa [lineEdges_leg, lineEdges_leg] at ha)
  have h3 : s.Keeps t3 := .ite h2.openBlanking h2
  exact .ite h3.gdFollow h3

theorem Keeps.clearCarries (h : s.Keeps t) {l : Nat} : s.Keeps (State.clearCarries t l) := by
  unfold State.clearCarries
  exact h.modLeg.clr.clr

theorem Keeps.restLeg (h : s.Keeps t) {l : Nat} {edge : Bool} : s.Keeps (t.restLeg l edge) := by
  unfold State.restLeg
  exact (h.setOuts (fun _ => by decide)).modLeg

theorem Keeps.blockLeg (h : s.Keeps t) {cause : Cause} {l : Nat} : s.Keeps (State.blockLeg t cause l) := by
  unfold State.blockLeg
  extract_lets -underBinder -merge _ _ t2 t3 t4
  have h2 : s.Keeps t2 := h.putBit.set1.clr.putBit
  have h3 : s.Keeps t3 := .ite h2.set1 h2
  have h4 : s.Keeps t4 := h3.restLeg.clearCarries
  exact .ite h4.raise h4

theorem Keeps.blockLegs (h : s.Keeps t) {cause : Cause} {mask : Nat} : s.Keeps (State.blockLegs t cause mask) := by
  unfold State.blockLegs
  exact .forAll h (fun _ _ h1 => .ite h1.blockLeg h1)

theorem Keeps.putCarry (h : s.Keeps t) {l : Nat} {high : Bool} {n : Nat} : s.Keeps (State.putCarry t l high n) := by
  unfold State.putCarry
  exact .ite h.modLeg.putB h.modLeg.putB

theorem Keeps.openPulse (h : s.Keeps t) {l : Nat} {high : Bool} {t0 : Nat} : s.Keeps (t.openPulse l high t0) := by
  unfold State.openPulse
  extract_lets +onlyGivenNames _ _ _ _ t1 t2 _
  have h1 : s.Keeps t1 := .ite h.incS h
  have h2 : s.Keeps t2 := .ite h1.putCarry h1
  refine h2.modLeg fun hx => ?_
  split
  · exact hx
  · exact hx

theorem Keeps.pulseOpens (h : s.Keeps t) {l : Nat} : s.Keeps (State.pulseOpens t l) := by
  unfold State.pulseOpens
  extract_lets -underBinder -merge _
  split
  · exact .ite h.openPulse h.modLeg
  · exact h.openPulse

theorem Keeps.followShadow (h : s.Keeps t) {l : Nat} : s.Keeps (State.followShadow t l) := by
  unfold State.followShadow
  split
  · exact .ite h h.modLeg
  · exact h

theorem Keeps.reload (h : s.Keeps t) {c : Nat} : s.Keeps (State.reload t c) := by
  unfold State.reload
  exact .ite h (.forAll h (fun _ _ h1 => .ite h1.modLeg.followShadow h1))

theorem Keeps.followLegs (h : s.Keeps t) {c : Nat} : s.Keeps (State.followLegs t c) := by
  unfold State.followLegs
  exact .forAll h (fun _ _ h1 => .ite h1.followShadow h1)

theorem Keeps.loadShadow (h : s.Keeps t) {l : Nat} {down : Bool} {v : Word} : s.Keeps (t.loadShadow l down v) := by
  unfold State.loadShadow
  split
  · exact h.put.followShadow
  · exact h.put.followShadow

theorem Keeps.resumeLeg (h : s.Keeps t) {l : Nat} : s.Keeps (State.resumeLeg t l) := by
  unfold State.resumeLeg
  extract_lets -underBinder -merge t1 _
  have h1 : s.Keeps t1 := h.clearCarries
  exact .ite h1.modLeg.openPulse h1

theorem Keeps.tlBlock (h : s.Keeps t) {k : Nat} : s.Keeps (State.tlBlock t k) := by
  unfold State.tlBlock
  exact h.blockLegs.set1.incS

theorem Keeps.tlAct (h : s.Keeps t) {k : Nat} : s.Keeps (State.tlAct t k) := by
  unfold State.tlAct
  exact .ite (by
    extract_lets -underBinder -merge t1
    have h1 : s.Keeps t1 := .ite h.set1 h
    exact .ite h1.modTl h1.tlBlock) h

theorem Keeps.tlRest (h : s.Keeps t) {k : Nat} : s.Keeps (State.tlRest t k) := by
  unfold State.tlRest
  extract_lets -underBinder -merge t1 t2
  have h1 : s.Keeps t1 := h.clr
  have h2 : s.Keeps t2 := .ite h1.set1 h1
  exact h2.modTl

theorem Keeps.tlWritten (h : s.Keeps t) {was : State} {k : Nat} : s.Keeps (State.tlWritten t was k) := by
  unfold State.tlWritten
  extract_lets -underBinder -merge _ t1
  have h1 : s.Keeps t1 := .ite h.clr.modTl h
  exact .ite h1.blockLegs h1

theorem Keeps.unblock (h : s.Keeps t) {mask : Nat} : s.Keeps (State.unblock t mask) := by
  unfold State.unblock
  exact .forAll h (fun _ _ h1 => .ite (.ite h1.set1 h1.set1) h1)

theorem Keeps.releaseLeg (h : s.Keeps t) {l : Nat} : s.Keeps (State.releaseLeg t l) := by
  unfold State.releaseLeg
  exact h.wr.putBit.putB

theorem Keeps.dllFail (h : s.Keeps t) {o : Nat} : s.Keeps (State.dllFail t o) := by
  unfold State.dllFail
  exact h.set1.put.set1.blockLeg.log

/-! ### Operations of Machine/GdpOps.lean -/

theorem Keeps.gdpSummary (h : s.Keeps t) : s.Keeps (State.gdpSummary t) := by
  unfold State.gdpSummary
  exact h.putB.put.putB.putB

theorem Keeps.groupTrip (h : s.Keeps t) {g : Nat} : s.Keeps (State.groupTrip t g) := by
  unfold State.groupTrip
  extract_lets -underBinder -merge t1 t2
  have h1 : s.Keeps t1 := h.putBit.raise
  have h2 : s.Keeps t2 := .ite h1.modGroup h1
  exact h2.gdpSummary.gdRefreshAll

theorem Keeps.leaveQueue (h : s.Keeps t) {g : Nat} {l : Nat} : s.Keeps (State.leaveQueue t g l) := by
  unfold State.leaveQueue
  exact h.modGroup

theorem Keeps.fltLatch (h : s.Keeps t) {l : Nat} : s.Keeps (State.fltLatch t l) := by
  unfold State.fltLatch
  extract_lets -underBinder -merge _ _ t3 _
  have h3 : s.Keeps t3 := .forAll h.putBit.blockLeg.raise (fun _ _ h1 => h1.leaveQueue)
  exact .ite h3.groupTrip h3.gdpSummary

theorem Keeps.staggerBlock (h : s.Keeps t) {g : Nat} : s.Keeps (State.staggerBlock t g) := by
  unfold State.staggerBlock
  exact .foldl h.modGroup (fun _ _ h1 => h1.blockLeg)

theorem Keeps.fltClear (h : s.Keeps t) {mask : Nat} : s.Keeps (State.fltClear t mask) := by
  unfold State.fltClear
  extract_lets -underBinder -merge _ _ _ t1
  have h1 : s.Keeps t1 := h.put
  exact .gdpSummary (.ite h1 h1.set1)

theorem Keeps.grpClear (h : s.Keeps t) {mask : Nat} : s.Keeps (State.grpClear t mask) := by
  unfold State.grpClear
  exact .gdRefreshAll (.gdpSummary (.forAll h (fun _ _ h1 => .ite (.ite h1.putBit.modGroup h1.set1) h1)))

theorem Keeps.cpOk (h : s.Keeps t) {k : Nat} {ok : Bool} : s.Keeps (State.cpOk t k ok) := by
  unfold State.cpOk
  extract_lets -underBinder -merge t1
  have h1 : s.Keeps t1 := h.putBit
  exact .ite h1.gdFault h1.gdRefresh

theorem Keeps.pumpFollow (h : s.Keeps t) : s.Keeps (State.pumpFollow t) := by
  unfold State.pumpFollow
  exact .ite h (.forAll h (fun _ _ h1 => .ite h1.cpOk h1))

theorem Keeps.brkOn (h : s.Keeps t) {n : Nat} : s.Keeps (State.brkOn t n) := by
  unfold State.brkOn
  exact .ite h h.set1.putBit.modBrk.incW.raise

theorem Keeps.brkOff (h : s.Keeps t) {n : Nat} : s.Keeps (State.brkOff t n) := by
  unfold State.brkOff
  exact .ite h.clr.putBit.modBrk h

theorem Keeps.brkStep (h : s.Keeps t) {n : Nat} : s.Keeps (State.brkStep t n) := by
  unfold State.brkStep
  extract_lets -underBinder -merge t1
  have h1 : s.Keeps t1 := h.putB
  split
  · exact h1.brkOn
  · extract_lets -underBinder -merge t2
    have h2 : s.Keeps t2 := h1.brkOff
    exact .ite h2.set1 h2
  · exact h1

theorem Keeps.brkStepAll (h : s.Keeps t) : s.Keeps (State.brkStepAll t) := by
  unfold State.brkStepAll
  exact h.brkStep.brkStep

theorem Keeps.brkTick (h : s.Keeps t) {n : Nat} : s.Keeps (State.brkTick t n) := by
  unfold State.brkTick
  extract_lets -underBinder -merge _ _ _ _ _ _ _ _ _ _ _ t2
  have h2 : s.Keeps t2 := h.modBrk.putB.wr
  exact .brkStep (.ite h2.raise h2)

theorem Keeps.vtrip (h : s.Keeps t) {n : Nat} : s.Keeps (State.vtrip t n) := by
  unfold State.vtrip
  exact h.set1.gdpSummary.blockLegs.raise

theorem Keeps.feedLines (h : s.Keeps t) : s.Keeps (State.feedLines t) := by
  unfold State.feedLines
  exact .forAll h (fun _ _ h1 => .ite h1 (.ite h1 (.ite h1.modTl h1.tlRest)))

theorem Keeps.winEvent (h : s.Keeps t) {w : Nat} : s.Keeps (State.winEvent t w) := by
  unfold State.winEvent
  extract_lets -underBinder -merge t1 t2
  have h1 : s.Keeps t1 := h.raise
  have h2 : s.Keeps t2 := h1.putBit
  exact .ite (.ite h2 h2.emit) h1

theorem Keeps.cmpChanges (h : s.Keeps t) {w : Nat} {i : Nat} {b : Bool} : s.Keeps (State.cmpChanges t w i b) := by
  unfold State.cmpChanges
  exact h.record

theorem Keeps.winTick (h : s.Keeps t) : s.Keeps (State.winTick t) := by
  unfold State.winTick
  exact .ite h (.foldl h.record (fun _ _ h1 => h1.winEvent))

theorem Keeps.ceilActs (h : s.Keeps t) {w : Nat} : s.Keeps (State.ceilActs t w) := by
  unfold State.ceilActs
  exact .forAll h.blockLegs (fun _ _ h1 => .ite h1.vtrip h1)

theorem Keeps.setCmp (h : s.Keeps t) {w : Nat} {i : Nat} {b : Bool} {counts : Bool} : s.Keeps (State.setCmp t w i b counts) := by
  unfold State.setCmp
  extract_lets -underBinder -merge _ t1 t2 _
  have h1 : s.Keeps t1 := h.putBit
  have h2 : s.Keeps t2 := .ite h1.ceilActs h1
  exact .ite (.forAll h2.feedLines.cmpChanges (fun _ _ h1 => .ite h1.brkStep h1)) h1

theorem Keeps.judgeCmp (h : s.Keeps t) {w : Nat} {v : Int} {i : Nat} : s.Keeps (State.judgeCmp t w v i) := by
  unfold State.judgeCmp
  split
  · exact h.setCmp.putBit
  · exact h

theorem Keeps.judgeWin (h : s.Keeps t) {w : Nat} {v : Int} : s.Keeps (State.judgeWin t w v) := by
  unfold State.judgeWin
  exact h.judgeCmp.judgeCmp.judgeCmp

theorem Keeps.cmpSummary (h : s.Keeps t) : s.Keeps (State.cmpSummary t) := by
  unfold State.cmpSummary
  exact h.putB.putB.putB

theorem Keeps.winStart (h : s.Keeps t) {w : Nat} : s.Keeps (State.winStart t w) := by
  unfold State.winStart
  exact h.modWin.set1.clr.setCmp.setCmp.setCmp.cmpSummary

theorem Keeps.winOff (h : s.Keeps t) {w : Nat} : s.Keeps (State.winOff t w) := by
  unfold State.winOff
  exact h.modWin.setCmp.setCmp.setCmp.wr.cmpSummary

theorem Keeps.settleCmp (h : s.Keeps t) {w : Nat} {v : Int} {i : Nat} : s.Keeps (State.settleCmp t w v i) := by
  unfold State.settleCmp
  split
  · exact h.setCmp
  · exact h.putBit

/-! ### Operations of Machine/AcqOps.lean -/

theorem Keeps.disturb (h : s.Keeps t) {k : Nat} : s.Keeps (t.disturb k).2 := by
  unfold State.disturb
  split
  · exact h.record (hs := fun hs => { hs with
      lfsr := (length_upd _ _ _).trans hs.lfsr, perturbed := (length_upd _ _ _).trans hs.perturbed })
  · exact h

theorem Keeps.transact (h : s.Keeps t) {u : State} {k n : Nat} : s.Keeps (u.transact t k n) := by
  unfold State.transact
  exact .ite (h.foldl fun _ _ hu => hu.disturb) h

theorem Keeps.fifoMoves (h : s.Keeps t) {u : State} {n : Nat} : s.Keeps (u.fifoMoves t n) := by
  unfold State.fifoMoves
  refine .ite (h.foldl fun v _ hv => ?_) h
  have hd := hv.disturb (k := 5)
  exact hd.record

theorem Keeps.enterEntry (h : s.Keeps t) {n : Nat} {e : Nat} : s.Keeps (State.enterEntry t n e) := by
  unfold State.enterEntry
  exact h.modSlice

theorem Keeps.standEntry (h : s.Keeps t) {n : Nat} : s.Keeps (State.standEntry t n) := by
  unfold State.standEntry
  split
  · exact h.enterEntry
  · exact .ite h.enterEntry h

theorem Keeps.send (h : s.Keeps t) {v : Conv} : s.Keeps (t.send v) := by
  unfold State.send
  exact (h.disturb (k := 6)).modAcq

theorem Keeps.present (h : s.Keeps t) {n : Nat} {c : Nat} {v : Int} {diff : Bool} {opened : Bool} : s.Keeps (State.present t n c v diff opened) := by
  unfold State.present
  extract_lets -underBinder -merge t1
  have h1 : s.Keeps t1 := h.modAcq
  exact .ite h1 h1.send

theorem Keeps.average (h : s.Keeps t) {n : Nat} {c : Nat} {v : Int} {diff : Bool} {opened : Bool} : s.Keeps (State.average t n c v diff opened) := by
  unfold State.average
  exact .ite h.modSlice.present (.ite h.present (.ite h.modSlice.present h.modSlice))

theorem Keeps.accrue (h : s.Keeps t) {n : Nat} {own : Int} {sx : Int} : s.Keeps (State.accrue t n own sx) := by
  unfold State.accrue
  exact .ite (by
    split
    · exact h.modSpare
    · exact h.modSpare
    · exact h) h

theorem Keeps.flagOpen (h : s.Keeps t) {c : Nat} : s.Keeps (State.flagOpen t c) := by
  unfold State.flagOpen
  exact h.putBit.set1.raise

theorem Keeps.schedule (h : s.Keeps t) {n : Nat} : s.Keeps (t.schedule n).1 := by
  unfold State.schedule
  extract_lets
  split
  · exact h
  · split
    · exact h.standEntry.modSlice
    · exact h.standEntry.modSlice
  · exact h

theorem Keeps.slotSlice (h : s.Keeps t) {raw : List Int} {n : Nat} : s.Keeps (t.slotSlice raw n) := by
  unfold State.slotSlice
  have hs := h.schedule (n := n)
  generalize t.schedule n = x at hs ⊢
  obtain ⟨u, c⟩ := x
  cases c with
  | none => exact hs.modAcq
  | some c0 =>
    dsimp only
    exact .average (.ite (hs.accrue.modAcq (f := fun a => { a with outs := upd a.outs n (fun _ => { chan := some _ }) })).flagOpen hs.accrue.modAcq)

theorem Keeps.readback (h : s.Keeps t) {i sum : Nat} : s.Keeps (t.readback i sum) := by
  unfold State.readback
  extract_lets +onlyGivenNames _ _ _ f t1
  have hf : R.SYS_MODE < f.addr := by
    unfold f
    split <;> exact Nat.lt_add_right _ (by decide)
  have h1 : s.Keeps t1 := .incW (h.put hf)
  exact .ite h1.putBit.cmpSummary.log h1

theorem Keeps.readbackSlot (h : s.Keeps t) {code : Nat} : s.Keeps (State.readbackSlot t code) := by
  unfold State.readbackSlot
  split
  · exact h
  · exact .ite h.record.readback h.record

theorem Keeps.freshBlock (h : s.Keeps t) : s.Keeps (State.freshBlock t) := by
  unfold State.freshBlock
  exact h.modSpare

theorem Keeps.spareTo (h : s.Keeps t) {n : Nat} : s.Keeps (t.spareTo n) := by
  unfold State.spareTo
  exact .ite (.record (h.modSpare.put (f := F.ACQ_STAT_SPARE_STATE))) (.put (.put h.modSpare))

theorem Keeps.spareNext (h : s.Keeps t) {n : Nat} : s.Keeps (State.spareNext t n) := by
  unfold State.spareNext
  exact .ite h.spareTo h.modSpare.put

theorem Keeps.logSpare (h : s.Keeps t) {row : Nat} {n : Nat} : s.Keeps (State.logSpare t row n) := by
  unfold State.logSpare
  exact h.log

theorem Keeps.takeOver (h : s.Keeps t) : s.Keeps (State.takeOver t) := by
  unfold State.takeOver
  exact h.put.modSpare.incS.raise

theorem Keeps.sliceFault (h : s.Keeps t) {n : Nat} : s.Keeps (State.sliceFault t n) := by
  unfold State.sliceFault
  exact h.set1.put.put.raise.logSpare

theorem Keeps.spareFault (h : s.Keeps t) {n : Nat} : s.Keeps (State.spareFault t n) := by
  unfold State.spareFault
  exact h.set1.put.raise.logSpare

theorem Keeps.triesExhausted (h : s.Keeps t) {n : Nat} {refOk : Bool} : s.Keeps (State.triesExhausted t n refOk) := by
  unfold State.triesExhausted
  exact .ite (.ite h.set1.incS.takeOver.logSpare h.spareFault) (.ite h.modSpare.put.logSpare h.sliceFault)

theorem Keeps.loadTrim (h : s.Keeps t) {n : Nat} {d : Int} : s.Keeps (State.loadTrim t n d) := by
  unfold State.loadTrim
  exact .ite h.modSpare h.modSlice.modSpare

theorem Keeps.blockEnd (h : s.Keeps t) {refOk : Bool} : s.Keeps (State.blockEnd t refOk) := by
  unfold State.blockEnd
  extract_lets -underBinder -merge _ _ _ _ t1
  have h1 : s.Keeps t1 := h.loadTrim.freshBlock.modSpare
  exact .ite (.ite (.ite h.takeOver h.spareNext.raise) (.ite h1.triesExhausted h1)) h

theorem Keeps.sliceCalEnd (h : s.Keeps t) {ok : Bool} : s.Keeps (State.sliceCalEnd t ok) := by
  unfold State.sliceCalEnd
  exact .ite (.ite h.sliceFault (.ite h.put.freshBlock.modSpare h.spareNext)) h

theorem Keeps.trimDecay (h : s.Keeps t) {n : Nat} : s.Keeps (State.trimDecay t n) := by
  unfold State.trimDecay
  exact .ite h.modSlice h

theorem Keeps.referenceSlot (h : s.Keeps t) {code : Nat} : s.Keeps (State.referenceSlot t code) := by
  unfold State.referenceSlot
  exact .ite h.modSpare (.ite h.readbackSlot h)

theorem Keeps.spareSlot (h : s.Keeps t) {raw : List Int} : s.Keeps (State.spareSlot t raw) := by
  unfold State.spareSlot
  extract_lets -underBinder -merge _ t1 _
  have h1 : s.Keeps t1 := .ite h.referenceSlot h
  exact .forAll (.ite h1.modSpare h1) (fun _ _ h1 => .ite h1.modSlice h1)

theorem Keeps.conversionSlot (h : s.Keeps t) {raw : List Int} : s.Keeps (t.conversionSlot raw) := by
  unfold State.conversionSlot
  refine .ite ?_ h
  extract_lets t1
  have h1 : s.Keeps t1 := h.modAcq.spareSlot
  clear_value t1
  exact .ite (h1.forAll fun _ _ h => h.slotSlice) (h1.modAcq fun ha => ⟨ha.slices, List.length_replicate .., ha.stamps⟩)

theorem Keeps.restartTables (h : s.Keeps t) : s.Keeps (State.restartTables t) := by
  unfold State.restartTables
  exact .forAll h (fun _ _ h1 => h1.modSlice)

theorem Keeps.restartBlock (h : s.Keeps t) : s.Keeps (State.restartBlock t) := by
  unfold State.restartBlock
  exact .ite h.freshBlock h

theorem Keeps.acqStart (h : s.Keeps t) : s.Keeps (State.acqStart t) := by
  unfold State.acqStart
  exact .ite h.modAcq.restartTables h

theorem Keeps.acqStop (h : s.Keeps t) : s.Keeps (State.acqStop t) := by
  unfold State.acqStop
  exact .ite (.forAll h.modAcq (fun _ _ h1 => h1.modSlice)) h

theorem Keeps.acqCalDone (h : s.Keeps t) : s.Keeps (State.acqCalDone t) := by
  unfold State.acqCalDone
  exact .ite (by
    extract_lets -underBinder -merge t1
    have h1 : s.Keeps t1 := h.set1
    exact .ite h1.spareNext h1.modSpare) h

theorem Keeps.spareReferenceEnd (h : s.Keeps t) : s.Keeps (State.spareReferenceEnd t) := by
  unfold State.spareReferenceEnd
  exact .ite (.ite h.spareNext h.spareFault) h

theorem Keeps.windowOpen (h : s.Keeps t) {w : Nat} : s.Keeps (State.windowOpen t w) := by
  unfold State.windowOpen
  exact .ite h.modPrismWin h

theorem Keeps.windowClose (h : s.Keeps t) {w : Nat} : s.Keeps (State.windowClose t w) := by
  unfold State.windowClose
  extract_lets -underBinder -merge _
  split
  · exact h
  · exact .ite h.modPrismWin h

theorem Keeps.abandonWindows (h : s.Keeps t) {c : Nat} : s.Keeps (State.abandonWindows t c) := by
  unfold State.abandonWindows
  exact .forAll h (fun _ _ h1 => .ite h1.modPrismWin h1)

theorem Keeps.freshWindow (h : s.Keeps t) {w : Nat} : s.Keeps (State.freshWindow t w) := by
  unfold State.freshWindow
  extract_lets -underBinder -merge t1
  have h1 : s.Keeps t1 := .forAll h.modPrismWin (fun _ _ h1 => h1.wr)
  exact h1.putBit

theorem Keeps.prismSummary (h : s.Keeps t) : s.Keeps (State.prismSummary t) := by
  unfold State.prismSummary
  exact h.putB.putB.putB

theorem Keeps.applyPrism (h : s.Keeps t) : s.Keeps (State.applyPrism t) := by
  unfold State.applyPrism
  extract_lets -underBinder -merge _ t1
  have h1 : s.Keeps t1 := h.modPrism
  exact .ite h (.ite (.prismSummary (.forAll h1 (fun _ _ h1 => .ite h1.freshWindow h1))) (.forAll h1 (fun _ _ h1 => h1.modPrismWin)))

theorem Keeps.publishChan (h : s.Keeps t) {w m : Nat} {a : ChanAcc} : s.Keeps (t.publishChan w m a).1 := by
  unfold State.publishChan
  exact h.wr.modPrismWin

/-- A fold over a state with a value beside it. -/
theorem Keeps.foldlPair {α β : Type} {f : State × β → α → State × β} {l : List α} {x : State × β} (h : s.Keeps x.1)
    (hf : ∀ y a, s.Keeps y.1 → s.Keeps (f y a).1) : s.Keeps (l.foldl f x).1 := by
  induction l generalizing x with
  | nil => exact h
  | cons a l ih => exact ih (hf x a h)

theorem Keeps.publish (h : s.Keeps t) {w : Nat} {acc : WinAcc} : s.Keeps (t.publish w acc) := by
  unfold State.publish
  extract_lets +onlyGivenNames n
  have hx : s.Keeps ((List.range n).foldl (fun (x : State × Bool) m =>
      ((x.1.publishChan w m (nth acc.chans m {})).1, x.2 || (x.1.publishChan w m (nth acc.chans m {})).2)) (t, false)).1 :=
    .foldlPair h fun _ _ hy => hy.publishChan
  exact .ite (.raise (.ite (.raise (.prismSummary (.modPrismWin (.putBit (.wr (.incW (.put hx)))))))
    (.prismSummary (.modPrismWin (.putBit (.wr (.incW (.put hx)))))))) (.ite (.raise (.prismSummary (.modPrismWin (.putBit (.wr (.incW (.put hx)))))))
    (.prismSummary (.modPrismWin (.putBit (.wr (.incW (.put hx)))))))

theorem Keeps.lateValue (h : s.Keeps t) {w : Nat} {v : Conv} {p : PubWin} : s.Keeps (State.lateValue t w v p) := by
  unfold State.lateValue
  exact .ite h h.modPrismWin.putBit.set1.raise.void

theorem Keeps.takePublished (h : s.Keeps t) {v : Conv} {w : Nat} : s.Keeps (State.takePublished t v w) := by
  unfold State.takePublished
  split
  · exact .ite h.lateValue h
  · exact h

theorem Keeps.takeClosed (h : s.Keeps t) {v : Conv} {w : Nat} : s.Keeps (State.takeClosed t v w) := by
  unfold State.takeClosed
  split
  · exact .ite (.ite h.publish.takePublished h.modPrismWin) h.takePublished
  · exact h.takePublished

theorem Keeps.windowTake (h : s.Keeps t) {v : Conv} {w : Nat} : s.Keeps (State.windowTake t v w) := by
  unfold State.windowTake
  exact .ite (by
    split
    · exact .ite h.modPrismWin h.takeClosed
    · exact h.takeClosed) h

theorem Keeps.streamTake (h : s.Keeps t) {v : Conv} : s.Keeps (t.streamTake v) := by
  unfold State.streamTake
  refine .ite h (h.modPrism fun hp => ⟨hp.wins, ?_⟩)
  simp only [List.length_zipWith, List.length_range, hp.streams, Nat.min_self]

theorem Keeps.dataTake (h : s.Keeps t) {v : Conv} : s.Keeps (State.dataTake t v) := by
  unfold State.dataTake
  extract_lets -underBinder -merge _ _ _ t1
  have h1 : s.Keeps t1 := h.load.modAcq
  exact .ite h1.set1.raise h1

theorem Keeps.intake (h : s.Keeps t) {v : Conv} : s.Keeps (State.intake t v) := by
  unfold State.intake
  exact .streamTake (.forAll h.dataTake (fun _ _ h1 => h1.windowTake))

theorem Keeps.snapshot (h : s.Keeps t) : s.Keeps (State.snapshot t) := by
  unfold State.snapshot
  exact .wr (.forAll h (fun _ _ h1 => h1.wr))

theorem Keeps.streamEnd (h : s.Keeps t) : s.Keeps (State.streamEnd t) := by
  unfold State.streamEnd
  exact .ite h.modPrism h

theorem Keeps.streamPublish (h : s.Keeps t) : s.Keeps (State.streamPublish t) := by
  unfold State.streamPublish
  extract_lets -underBinder -merge t1
  have h1 : s.Keeps t1 := .forAll h (fun _ _ h1 => .ite h1.wr h1)
  exact h1.modPrism.raise

/-! ### Operations of Machine/GrnOps.lean -/

theorem Keeps.grnGap (h : s.Keeps t) {n : Nat} {first : Bool} : s.Keeps (State.grnGap t n first) := by
  unfold State.grnGap
  extract_lets -underBinder -merge t1 t2
  have h1 : s.Keeps t1 := .ite h h.incS
  have h2 : s.Keeps t2 := h1.set1
  exact .ite h2.raise h2

theorem mode_lt_totalAddr (i : Nat) : R.SYS_MODE < totalAddr i := by
  unfold totalAddr
  split
  · exact Nat.lt_add_right _ (Nat.lt_add_right _ (Nat.lt_add_right _ (by decide)))
  · exact Nat.lt_add_right _ (Nat.lt_add_right _ (by decide))

theorem Keeps.setTotal (h : s.Keeps t) {i v : Nat} : s.Keeps (t.setTotal i v) := by
  unfold State.setTotal
  exact h.modGrn.wr (mode_lt_totalAddr i)

theorem Keeps.queuePulses (h : s.Keeps t) {k : Nat} {n : Nat} : s.Keeps (State.queuePulses t k n) := by
  unfold State.queuePulses
  extract_lets -underBinder -merge _ t1
  have h1 : s.Keeps t1 := h.put
  exact .ite h1.put.set1.raise h1

theorem Keeps.epoAdd (h : s.Keeps t) {i : Nat} {e : Nat} {k : Nat} : s.Keeps (State.epoAdd t i e k) := by
  unfold State.epoAdd
  exact .ite h.modGrn.queuePulses h

theorem Keeps.wcAdd (h : s.Keeps t) {i : Nat} {d : Nat} {k : Nat} : s.Keeps (State.wcAdd t i d k) := by
  unfold State.wcAdd
  exact .ite h.put.put h

theorem Keeps.addTotal (h : s.Keeps t) {i : Nat} {e : Int} : s.Keeps (State.addTotal t i e) := by
  unfold State.addTotal
  exact .ite h (.forAll (.forAll h.setTotal (fun _ _ h1 => h1.wcAdd)) (fun _ _ h1 => h1.epoAdd))

theorem Keeps.addDirected (h : s.Keeps t) {imp : Nat} {exp : Nat} {e : Int} : s.Keeps (State.addDirected t imp exp e) := by
  unfold State.addDirected
  exact .ite h.addTotal h.addTotal

theorem Keeps.addReactive (h : s.Keeps t) {m : Nat} {p : Nat} {ep : Int} {eq : Int} : s.Keeps (State.addReactive t m p ep eq) := by
  unfold State.addReactive
  exact .ite h.addTotal (.ite h.addTotal (.ite h.addTotal h.addTotal))

theorem Keeps.rplAdd (h : s.Keeps t) {n : Nat} {e : Int} : s.Keeps (State.rplAdd t n e) := by
  unfold State.rplAdd
  exact .ite h.modGrn.wr h

theorem Keeps.pmaxTake (h : s.Keeps t) {f : Fld} {e n : Nat}
    (ha : R.SYS_MODE < f.addr := by (try dsimp only) <;> (repeat' split) <;> (iterate 3 try apply Nat.lt_add_right) <;> decide) : s.Keeps (t.pmaxTake f e n) := by
  unfold State.pmaxTake
  exact .ite h (h.put ha)

theorem Keeps.addPhase (h : s.Keeps t) {m : Nat} {p : Nat} {e : PhaseEnergy} {fund : Bool} : s.Keeps (State.addPhase t m p e fund) := by
  unfold State.addPhase
  extract_lets -underBinder -merge t1 t2 t3
  have h1 : s.Keeps t1 := h.addDirected
  have h2 : s.Keeps t2 := .ite h1.addDirected.addReactive h1
  have h3 : s.Keeps t3 := h2.addTotal
  exact .ite h3.addTotal h3

theorem Keeps.acClose (h : s.Keeps t) {m : Nat} {ends : Bool} : s.Keeps (State.acClose t m ends) := by
  unfold State.acClose
  extract_lets -underBinder -merge _ _ _ _ _ _ _ _ _ _ t1 _ _ _ _ t6 _ _
  have h1 : s.Keeps t1 := .forAll h (fun _ _ h1 => .ite h1.addPhase h1)
  have h6 : s.Keeps t6 := .forAll h1.addPhase.put.putB.incW.wr (fun _ _ h1 => h1.wr.wr)
  exact h6.pmaxTake.rplAdd.modAc.raise

theorem Keeps.dcClose (h : s.Keeps t) {m : Nat} : s.Keeps (t.dcClose m) := by
  unfold State.dcClose
  extract_lets +onlyGivenNames _ _ _ _ t1 t2 t3 t4 t5
  have h1 : s.Keeps t1 := h.addDirected
  have h2 : s.Keeps t2 := .ite h (.ite h1.addTotal h1.addTotal)
  have h3 : s.Keeps t3 := h2.putB.incW
  exact h3.pmaxTake.rplAdd.modDc.raise

theorem Keeps.acCrossing (h : s.Keeps t) {m : Nat} {v : Int} : s.Keeps (State.acCrossing t m v) := by
  unfold State.acCrossing
  exact h.modAc.clr.acClose

theorem Keeps.acSample (h : s.Keeps t) {m : Nat} {e : GrnInterval} : s.Keeps (State.acSample t m e) := by
  unfold State.acSample
  extract_lets -underBinder -merge _ _ _ _ _ _ _ _ _ _ t1 t2 t3
  have h1 : s.Keeps t1 := .ite h h.grnGap
  have h2 : s.Keeps t2 := h1.modAc
  have h3 : s.Keeps t3 := .ite h2.acCrossing h2
  exact h3.modAc

theorem Keeps.dcOpen (h : s.Keeps t) {m : Nat} {e : GrnInterval} : s.Keeps (State.dcOpen t m e) := by
  unfold State.dcOpen
  exact .ite h.modDc h

theorem Keeps.dcSample (h : s.Keeps t) {m : Nat} {e : GrnInterval} : s.Keeps (State.dcSample t m e) := by
  unfold State.dcSample
  extract_lets -underBinder -merge t1 _
  have h1 : s.Keeps t1 := h.dcOpen
  split
  · exact h1.modDc
  · exact h1.grnGap.modDc

theorem Keeps.zxTimeout (h : s.Keeps t) {m : Nat} : s.Keeps (State.zxTimeout t m) := by
  unfold State.zxTimeout
  exact .ite h.set1.acClose.raise h

theorem Keeps.nozxClose (h : s.Keeps t) {m : Nat} : s.Keeps (State.nozxClose t m) := by
  unfold State.nozxClose
  exact .ite h.acClose h

theorem Keeps.blockClose (h : s.Keeps t) {m : Nat} : s.Keeps (State.blockClose t m) := by
  unfold State.blockClose
  exact .ite h.dcClose h

theorem Keeps.takeSnapshot (h : s.Keeps t) {ref : Bool} : s.Keeps (t.takeSnapshot ref) := by
  unfold State.takeSnapshot
  extract_lets t1 t2 t3 t4 t5
  have h1 : s.Keeps t1 := h.modGrn fun hg =>
    { hg with snapTotals := (List.length_map _).trans hg.totals, snapGaps := (List.length_map _).trans List.length_range }
  have h2 : s.Keeps t2 := h1.forAll fun i _ hu => hu.wr (Nat.lt_add_right _ (mode_lt_totalAddr i))
  have h3 : s.Keeps t3 := h2.forAll fun _ _ hu => hu.wr.wr
  have h5 : s.Keeps t5 := h3.wr.incW.set1
  exact .ite h5.clr h5

theorem Keeps.askSnapshot (h : s.Keeps t) {ref : Bool} {journal : Option Nat} {final : Bool} : s.Keeps (State.askSnapshot t ref journal final) := by
  unfold State.askSnapshot
  exact h.modGrn

theorem Keeps.closeOpen (h : s.Keeps t) : s.Keeps (State.closeOpen t) := by
  unfold State.closeOpen
  extract_lets -underBinder -merge t1
  have h1 : s.Keeps t1 := .forAll h (fun _ _ h1 => .ite h1.acClose h1)
  exact .forAll h1 (fun _ _ h1 => .ite h1.dcClose h1)

theorem Keeps.tearSlot (h : s.Keeps t) {bytes : List Byte} : s.Keeps (State.tearSlot t bytes) := by
  unfold State.tearSlot
  exact h.mramWrite.drawn

theorem mode_lt_pmaxAddr (n : Nat) : R.SYS_MODE < pmaxAddr n := by
  unfold pmaxAddr
  split
  · exact Nat.lt_add_right _ (Nat.lt_add_right _ (by decide))
  · exact Nat.lt_add_right _ (by decide)

theorem Keeps.keepPmax (h : s.Keeps t) {w : JournalWrite} : s.Keeps (t.keepPmax w) := by
  unfold State.keepPmax
  exact h.forAll fun n _ hu => hu.wr (mode_lt_pmaxAddr n)

theorem Keeps.abandonWrite (h : s.Keeps t) : s.Keeps (State.abandonWrite t) := by
  unfold State.abandonWrite
  split
  · exact h.tearSlot.keepPmax.modGrn
  · exact h

theorem Keeps.snapshotNow (h : s.Keeps t) : s.Keeps (State.snapshotNow t) := by
  unfold State.snapshotNow
  split
  · exact h
  · extract_lets +onlyGivenNames t1 t2
    have h1 : s.Keeps t1 := .ite h.closeOpen h
    have h2 : s.Keeps t2 := h1.modGrn.takeSnapshot
    split
    · exact h2
    · refine .ite h2.modGrn ?_
      extract_lets +onlyGivenNames t3 _ _ _ t5
      have h3 : s.Keeps t3 := .ite h2.abandonWrite h2
      have h5 : s.Keeps t5 := .forAll h3.modGrn fun n _ h => h.wr (mode_lt_pmaxAddr n)
      exact .ite h5.set1 h5

theorem Keeps.snapshotTaken (h : s.Keeps t) : s.Keeps (State.snapshotTaken t) := by
  unfold State.snapshotTaken
  exact .ite h.snapshotNow h

theorem Keeps.grnInterval (h : s.Keeps t) : s.Keeps (State.grnInterval t) := by
  unfold State.grnInterval
  split
  · exact h
  · exact .ite (by
    extract_lets -underBinder -merge _ t2 t3
    have h2 : s.Keeps t2 := .forAll h.snapshotTaken.modGrn (fun _ _ h1 => .ite h1.acSample h1)
    have h3 : s.Keeps t3 := .forAll h2 (fun _ _ h1 => .ite h1.dcSample h1)
    exact h3.modGrn) h

theorem Keeps.grnCloses (h : s.Keeps t) : s.Keeps (State.grnCloses t) := by
  unfold State.grnCloses
  exact .forAll (.forAll h (fun _ _ h1 => h1.zxTimeout.nozxClose)) (fun _ _ h1 => h1.blockClose)

theorem Keeps.grnFinish (h : s.Keeps t) : s.Keeps (State.grnFinish t) := by
  unfold State.grnFinish
  exact h.grnCloses.grnInterval.grnCloses

theorem Keeps.grnTake (h : s.Keeps t) {e : Nat} : s.Keeps (State.grnTake t e) := by
  unfold State.grnTake
  exact .ite h (.ite h.modGrn h.modGrn.set1.set1.raise.void)

theorem Keeps.epoPulseStart (h : s.Keeps t) {k : Nat} : s.Keeps (State.epoPulseStart t k) := by
  unfold State.epoPulseStart
  exact .ite h.put.set1.modGrn h

theorem Keeps.epoRest (h : s.Keeps t) {k : Nat} : s.Keeps (State.epoRest t k) := by
  unfold State.epoRest
  exact .ite h.clr.modGrn h

theorem Keeps.epoPulseEnd (h : s.Keeps t) {k : Nat} : s.Keeps (State.epoPulseEnd t k) := by
  unfold State.epoPulseEnd
  exact .ite h.epoRest h

theorem Keeps.journalAsk (h : s.Keeps t) {flags : Nat} : s.Keeps (State.journalAsk t flags) := by
  unfold State.journalAsk
  exact .ite h (.ite h.modGrn.set1 h.set1.askSnapshot)

theorem Keeps.finalAsk (h : s.Keeps t) {flags : Nat} : s.Keeps (State.finalAsk t flags) := by
  unfold State.finalAsk
  exact h.modGrn.clr.set1.askSnapshot

theorem Keeps.hostSnapshot (h : s.Keeps t) {ref : Bool} : s.Keeps (State.hostSnapshot t ref) := by
  unfold State.hostSnapshot
  exact h.grnFinish.askSnapshot.snapshotNow

theorem Keeps.journalDone (h : s.Keeps t) {ok : Bool} : s.Keeps (State.journalDone t ok) := by
  unfold State.journalDone
  split
  · exact h
  · exact .ite h (by
    extract_lets -underBinder -merge _ t1 _ _ _ t5 _ _ t8 t9
    have h1 : s.Keeps t1 := h.modGrn
    have h5 : s.Keeps t5 := h1.mramWrite.put.wr.modGrn.raise
    have h8 : s.Keeps t8 := .ite (.ite h5.raise h5) h1.tearSlot.keepPmax.modGrn.set1.incS.raise
    have h9 : s.Keeps t9 := h8.clr
    exact .ite h8 (by
      split
      · exact h9
      · exact h9.modGrn.clr.journalAsk))

theorem Keeps.journalTick (h : s.Keeps t) : s.Keeps (State.journalTick t) := by
  unfold State.journalTick
  split
  · exact h
  · exact .ite h.modGrn.journalAsk h

theorem Keeps.writeMeters (h : s.Keeps t) {v : Word} : s.Keeps (State.writeMeters t v) := by
  unfold State.writeMeters
  extract_lets -underBinder -merge _ _ _ t1 _ _ t2
  have h1 : s.Keeps t1 := .whenB h.wr (fun _ h1 => h1.set1)
  have h2 : s.Keeps t2 := .ite h1.modGrn.journalAsk h1
  exact .ite h2.journalAsk h2

theorem Keeps.meterFresh (h : s.Keeps t) {n : Nat} : s.Keeps (State.meterFresh t n) := by
  unfold State.meterFresh
  exact .ite h.modAc h.modDc

theorem Keeps.applyMeters (h : s.Keeps t) : s.Keeps (State.applyMeters t) := by
  unfold State.applyMeters
  exact .modGrn (.forAll h (fun _ _ h1 => .ite h1.meterFresh h1))

theorem Keeps.bindWc (h : s.Keeps t) {k : Nat} {v : Word} : s.Keeps (State.bindWc t k v) := by
  unfold State.bindWc
  extract_lets -underBinder -merge _ t1
  have h1 : s.Keeps t1 := h.wr
  exact .ite h1.wr.wr h1

/-- A word of the Granary that latches a HI word lies above SYS_MODE. -/
theorem mode_lt_of_grnHi {a : Nat} {w : Word} (h : s.grnHi a = some w) : R.SYS_MODE < a := by
  unfold grnHi at h
  split at h
  case isTrue ha => exact ha ▸ by decide
  case isFalse =>
    split at h
    case h_1 n hn =>
      have hn := List.find?_some hn
      rw [← beq_iff_eq.mp hn]
      exact Nat.lt_add_right _ (by decide)
    case h_2 =>
      split at h
      case h_1 i hi =>
        have hi := List.find?_some hi
        simp only [Bool.or_eq_true, beq_iff_eq] at hi
        obtain rfl | rfl := hi
        · exact mode_lt_totalAddr i
        · exact Nat.lt_add_right _ (mode_lt_totalAddr i)
      case h_2 => cases h

theorem Keeps.grnLoRead (h : s.Keeps t) {a : Nat} : s.Keeps (t.grnLoRead a) := by
  unfold State.grnLoRead
  split
  case h_1 w hw => exact h.wr (Nat.lt_add_right _ (mode_lt_of_grnHi hw))
  case h_2 => exact h

theorem Keeps.restoreFrom (h : s.Keeps t) {b : List Byte} : s.Keeps (t.restoreFrom b) := by
  unfold State.restoreFrom
  extract_lets t1 t2 t3
  have h1 : s.Keeps t1 := h.forAll fun i _ hu => hu.setTotal.wr (Nat.lt_add_right _ (mode_lt_totalAddr i))
  have h2 : s.Keeps t2 := h1.forAll fun _ _ hu => hu.wr.wr
  clear_value t2
  have h3 : s.Keeps t3 := h2.modGrn fun hg => { hg with epoAcc := (List.length_map _).trans List.length_range }
  exact h3.forAll fun _ _ hu => hu.wr

theorem Keeps.unclean (h : s.Keeps t) {b : List Byte} : s.Keeps (State.unclean t b) := by
  unfold State.unclean
  extract_lets -underBinder -merge _ _ _ _ _ t2
  have h2 : s.Keeps t2 := .forAll h.set1.wr (fun _ _ h1 => h1.wr)
  exact h2.log

theorem Keeps.grnRestore (h : s.Keeps t) : s.Keeps (State.grnRestore t) := by
  unfold State.grnRestore
  extract_lets -underBinder -merge t1
  have h1 : s.Keeps t1 := .forAll h (fun _ _ h1 => .ite h1.log h1)
  split
  · exact h1.log
  · extract_lets -underBinder -merge t2
    have h2 : s.Keeps t2 := h1.restoreFrom.modGrn
    exact .ite h2.unclean h2

/-! ### Operations of Machine/Rebase.lean -/

theorem Keeps.injAnew (h : s.Keeps t) : s.Keeps t.injAnew := by
  unfold State.injAnew
  exact h.record (hs := fun hs => { hs with sets := (List.length_map _).trans ((List.length_zipIdx).trans hs.sets) })

theorem Keeps.rebase (h : s.Keeps t) {d : Int} : s.Keeps (t.rebase d) := by
  refine h.trans ⟨rfl, id, fun ha l => ?_, fun hs => ?_, fun hc => { hc with }⟩
  · have e : (t.rebase d).leg l = (t.leg l).rebase d := by
      simp only [leg, nth, State.rebase, Loom.rebase, List.getD_map]
      rw [← List.getD_map (f := (LegSt.rebase d))]
      rfl
    rw [e]
    exact ha l
  · cases hs
    constructor <;> simp [State.rebase, Clk.rebase, Tst.rebase, Loom.rebase, Gdp.rebase, Cmp.rebase, Acq.rebase, Prism.rebase, Wvn.rebase,
      Grn.rebase, Shf.rebase, Ring.rebase, *]

/-! ### Operations of Machine/WvnOps.lean -/

theorem Keeps.digest (h : s.Keeps t) {key : Nat} {ws : List Word} : s.Keeps (State.digest t key ws) := by
  unfold State.digest
  exact .ite h h.record

theorem Keeps.digestWords (h : s.Keeps t) {ws : List Word} : s.Keeps (t.digestWords ws) := by
  unfold State.digestWords
  exact .record (h.wr (a := R.TST_DIGEST))

theorem Keeps.digestFlush (h : s.Keeps t) : s.Keeps (State.digestFlush t) := by
  unfold State.digestFlush
  extract_lets -underBinder -merge t1 _
  have h1 : s.Keeps t1 := .ite (.foldl h (fun _ _ h1 => .foldl h1 (fun _ _ h2 => h2.digestWords))) h
  exact h1.record

theorem Keeps.setTake (h : s.Keeps t) {v : Conv} {k : Nat} : s.Keeps (State.setTake t v k) := by
  unfold State.setTake
  exact .ite (.ite h.modSet (by
    split
    · exact .ite (.ite h.modSet h.modSet) h
    · exact .ite h.modSet.set1 h)) h

theorem Keeps.wvnTake (h : s.Keeps t) {v : Conv} : s.Keeps (State.wvnTake t v) := by
  unfold State.wvnTake
  exact .forAll h (fun _ _ h1 => h1.setTake)

theorem Keeps.sampleEnd (h : s.Keeps t) : s.Keeps (State.sampleEnd t) := by
  unfold State.sampleEnd
  exact .ite (.forAll h.modWvn (fun _ _ h1 => h1.modSet)) h

theorem Keeps.sampled (h : s.Keeps t) {k : Nat} {f : State → State} (hf : ∀ u, s.Keeps u → s.Keeps (f u)) : s.Keeps (t.sampled k f) := by
  unfold State.sampled
  exact (hf t h).modSet

theorem Keeps.unlock (h : s.Keeps t) {k : Nat} : s.Keeps (State.unlock t k) := by
  unfold State.unlock
  extract_lets -underBinder -merge t1
  have h1 : s.Keeps t1 := h.modSet
  exact .ite h1.modSet.clr.clr.raise h1

theorem Keeps.harmTake (h : s.Keeps t) {k : Nat} {theta : Rat} : s.Keeps (State.harmTake t k theta) := by
  unfold State.harmTake
  exact .ite h.modSet h

theorem Keeps.harmPublish (h : s.Keeps t) {k : Nat} {before : Rat} {d : Rat} : s.Keeps (State.harmPublish t k before d) := by
  unfold State.harmPublish
  exact .ite h.modSet.set1 h

theorem Keeps.loopStep (h : s.Keeps t) {k : Nat} : s.Keeps (State.loopStep t k) := by
  unfold State.loopStep
  extract_lets -underBinder -merge _ _ _ _ _ _ _ _ _ _ _ _ _ _ _ _ _ t2 t3
  have h2 : s.Keeps t2 := h.modSet.putB.putB
  have h3 : s.Keeps t3 := .harmTake (.ite h2.unlock h2)
  exact h3.harmPublish

theorem Keeps.countRuns (h : s.Keeps t) {k : Nat} : s.Keeps (State.countRuns t k) := by
  unfold State.countRuns
  exact h.modSet

theorem Keeps.loopValid (h : s.Keeps t) {k : Nat} : s.Keeps (State.loopValid t k) := by
  unfold State.loopValid
  exact h.set1.loopStep.putB.countRuns

theorem Keeps.loopInvalid (h : s.Keeps t) {k : Nat} : s.Keeps (State.loopInvalid t k) := by
  unfold State.loopInvalid
  exact h.modSet.putB.harmPublish

theorem Keeps.pickups (h : s.Keeps t) {k : Nat} : s.Keeps (State.pickups t k) := by
  unfold State.pickups
  exact h.putB.putB.putB.putB.modSet

theorem Keeps.frtTo (h : s.Keeps t) {k : Nat} {dest : Nat} : s.Keeps (State.frtTo t k dest) := by
  unfold State.frtTo
  extract_lets -underBinder -merge _ t2 _ t3 t4
  have h2 : s.Keeps t2 := h.put.putBit.modSet
  have h3 : s.Keeps t3 := .ite h2.modSet.putB h2
  have h4 : s.Keeps t4 := .ite h3 h3.raise
  exact .ite h4.raise h4

theorem Keeps.shadowTo (h : s.Keeps t) {k : Nat} {c : Nat} : s.Keeps (State.shadowTo t k c) := by
  unfold State.shadowTo
  exact h.modSet

theorem Keeps.shadowHold (h : s.Keeps t) {k : Nat} : s.Keeps (State.shadowHold t k) := by
  unfold State.shadowHold
  extract_lets -underBinder -merge _
  split
  · exact .ite h h.put
  · exact .ite h.put h
  · exact h

theorem Keeps.shadowSample (h : s.Keeps t) {k : Nat} : s.Keeps (State.shadowSample t k) := by
  unfold State.shadowSample
  extract_lets -underBinder -merge t1 _ _
  have h1 : s.Keeps t1 := h.shadowTo
  split
  · exact .ite h1.modSet h1
  · extract_lets -underBinder -merge _ t2 _
    have h2 : s.Keeps t2 := h1.modSet
    exact .ite h2.modSet h2
  · exact h1

theorem Keeps.steer (h : s.Keeps t) {k : Nat} {w : Word} : s.Keeps (t.steer k w) := by
  unfold State.steer
  extract_lets t1 take
  have ht : s.Keeps (take t1) := by
    unfold take
    split <;> exact h.shadowTo.modSet
  split
  · exact .ite ht.put h
  · exact ht
  · exact h.set1

theorem Keeps.injTake (h : s.Keeps t) {k : Nat} : s.Keeps (State.injTake t k) := by
  unfold State.injTake
  exact .ite h.modSet h.modSet

theorem Keeps.setSample (h : s.Keeps t) {e : Nat} {k : Nat} : s.Keeps (State.setSample t e k) := by
  unfold State.setSample
  extract_lets -underBinder -merge t1 t2 t3 _
  have h1 : s.Keeps t1 := h.modSet
  have h2 : s.Keeps t2 := .ite h1.set1 h1
  have h3 : s.Keeps t3 := .ite h2.loopValid h2.loopInvalid
  exact h3.modSet.injTake.pickups.shadowHold.shadowSample

theorem Keeps.sampleOutput (h : s.Keeps t) : s.Keeps (State.sampleOutput t) := by
  unfold State.sampleOutput
  split
  · exact .ite (.modWvn (.forAll h (fun _ _ h1 => .ite (.sampled h1.modSet (fun _ h2 => h2.setSample)) h1))) h
  · exact h

theorem Keeps.wvnLock (h : s.Keeps t) {k : Nat} : s.Keeps (State.wvnLock t k) := by
  unfold State.wvnLock
  exact .ite (.ite (.ite h.unlock h) (.ite h.set1 h)) h

theorem Keeps.validLoss (h : s.Keeps t) {k : Nat} : s.Keeps (State.validLoss t k) := by
  unfold State.validLoss
  exact .ite h.clr.unlock.modSet.clr.clr.clr.shadowHold h

theorem Keeps.phaseJump (h : s.Keeps t) {k : Nat} : s.Keeps (State.phaseJump t k) := by
  unfold State.phaseJump
  extract_lets -underBinder -merge _ _ t1 t2
  have h1 : s.Keeps t1 := h.modSet
  have h2 : s.Keeps t2 := .ite h1.harmPublish h1
  exact .ite h2.set1.incS.raise h

theorem Keeps.resync (h : s.Keeps t) {k : Nat} : s.Keeps (State.resync t k) := by
  unfold State.resync
  exact .ite h.set1 (.ite h.shadowTo.modSet.put h)

theorem Keeps.resyncDone (h : s.Keeps t) {k : Nat} : s.Keeps (State.resyncDone t k) := by
  unfold State.resyncDone
  exact .ite h.put.shadowHold h

theorem Keeps.vsHoldEnd (h : s.Keeps t) {k : Nat} : s.Keeps (State.vsHoldEnd t k) := by
  unfold State.vsHoldEnd
  exact .ite h.clr.shadowHold h

theorem Keeps.islandDeclare (h : s.Keeps t) {k : Nat} : s.Keeps (State.islandDeclare t k) := by
  unfold State.islandDeclare
  exact .ite h.set1.wr.put.putBit.put.putBit.raise h

theorem Keeps.activeEstimate (h : s.Keeps t) {k : Nat} : s.Keeps (State.activeEstimate t k) := by
  unfold State.activeEstimate
  extract_lets -underBinder -merge _ _ t1 _ _ _ _ _ _ _ _ _ _
  have h1 : s.Keeps t1 := h.modSet
  exact .ite (.ite h1 (.ite h1.modSet.clr.shadowHold h1.modSet.putB.shadowHold)) h

theorem Keeps.islandClear (h : s.Keeps t) {k : Nat} : s.Keeps (State.islandClear t k) := by
  unfold State.islandClear
  exact .ite h.set1 (by
    extract_lets -underBinder -merge t1
    have h1 : s.Keeps t1 := h.clr.putBit
    exact .ite h1.modSet h1)

theorem Keeps.disturbed (h : s.Keeps t) {k : Nat} : s.Keeps (State.disturbed t k) := by
  unfold State.disturbed
  exact h.modSet.putB.wr.incS.frtTo

theorem Keeps.frtTransition (h : s.Keeps t) {k : Nat} : s.Keeps (State.frtTransition t k) := by
  unfold State.frtTransition
  extract_lets -underBinder -merge _ t1
  have h1 : s.Keeps t1 := by
    unfold t1
    split
    · exact .ite h.disturbed h
    · exact .ite h.frtTo (.ite h.frtTo h)
    · exact .ite h.frtTo (.ite h.frtTo h)
    · exact .ite h.disturbed h
    · exact h
  exact .ite h1.shadowHold h

theorem Keeps.frtConfirm (h : s.Keeps t) {k : Nat} : s.Keeps (State.frtConfirm t k) := by
  unfold State.frtConfirm
  exact .ite h.frtTo h

theorem Keeps.frtRecover (h : s.Keeps t) {k : Nat} : s.Keeps (State.frtRecover t k) := by
  unfold State.frtRecover
  exact .ite h.frtTo.shadowHold h

theorem Keeps.frtClear (h : s.Keeps t) {k : Nat} : s.Keeps (State.frtClear t k) := by
  unfold State.frtClear
  exact .ite (.ite h.frtTo.shadowHold h.set1) h

theorem Keeps.setStart (h : s.Keeps t) {k : Nat} : s.Keeps (State.setStart t k) := by
  unfold State.setStart
  exact .forAll (.forAll h.modSet.wr.putBit.putBit (fun _ _ h1 => h1.wr)) (fun _ _ h1 => h1.wr)

theorem Keeps.setLatch (h : s.Keeps t) {k : Nat} : s.Keeps (State.setLatch t k) := by
  unfold State.setLatch
  extract_lets -underBinder -merge _ _ _ t2 t3 _ t4 _
  have h2 : s.Keeps t2 := .forAll (.forAll h (fun _ _ h1 => h1.wr)) (fun _ _ h1 => h1.wr)
  have h3 : s.Keeps t3 := h2.incW.digest
  have h4 : s.Keeps t4 := .ite h3.putBit.raise.void h3
  exact .ite h h4.modSet.clr.clr

theorem Keeps.mppPublish (h : s.Keeps t) {w : Nat} : s.Keeps (State.mppPublish t w) := by
  unfold State.mppPublish
  exact .forAll h (fun _ _ h1 => .ite h1.modMpp.putB h1)

theorem Keeps.windowPublish (h : s.Keeps t) {w : Nat} : s.Keeps (State.windowPublish t w) := by
  unfold State.windowPublish
  split
  · exact h.publish.mppPublish
  · exact h

theorem Keeps.publishWindows (h : s.Keeps t) : s.Keeps (State.publishWindows t) := by
  unfold State.publishWindows
  exact .forAll h (fun _ _ h1 => h1.windowPublish)

theorem Keeps.putVref (h : s.Keeps t) {m : Nat} {v : Flt} : s.Keeps (State.putVref t m v) := by
  unfold State.putVref
  exact h.modMpp.putB.putB

theorem Keeps.ditherUpdate (h : s.Keeps t) {m : Nat} : s.Keeps (State.ditherUpdate t m) := by
  unfold State.ditherUpdate
  exact .ite h h.modMpp.putB.putVref

theorem Keeps.ditherEnd (h : s.Keeps t) {m : Nat} : s.Keeps (State.ditherEnd t m) := by
  unfold State.ditherEnd
  extract_lets -underBinder -merge t1
  have h1 : s.Keeps t1 := h.ditherUpdate.modMpp
  exact .ite h1.modMpp.set1 h1

theorem Keeps.scanEnd (h : s.Keeps t) {m : Nat} : s.Keeps (State.scanEnd t m) := by
  unfold State.scanEnd
  extract_lets -underBinder -merge _ _ t1 _
  have h1 : s.Keeps t1 := by
    unfold t1
    split
    · extract_lets -underBinder -merge t2
      have h2 : s.Keeps t2 := h.modMpp
      split
      · exact .ite h2.putVref h2
      · exact h2
    · exact h
  exact h1.modMpp.clr.raise

theorem Keeps.scanStep (h : s.Keeps t) {m : Nat} {j : Nat} : s.Keeps (State.scanStep t m j) := by
  unfold State.scanStep
  extract_lets -underBinder -merge _ _ _ _ t1
  have h1 : s.Keeps t1 := .ite h h.modMpp
  exact .ite h1.scanEnd h1.modMpp

theorem Keeps.mppTurn (h : s.Keeps t) {m : Nat} : s.Keeps (State.mppTurn t m) := by
  unfold State.mppTurn
  extract_lets -underBinder -merge _
  split
  · exact .ite h.scanStep h.modMpp
  · exact .ite h.modMpp (.ite h.ditherEnd (.ite h.modMpp h.modMpp))

theorem Keeps.mppGather (h : s.Keeps t) {m : Nat} {ps : List Rat} : s.Keeps (State.mppGather t m ps) := by
  unfold State.mppGather
  extract_lets -underBinder -merge _ _
  split
  · exact .ite h.modMpp h
  · exact .ite (.ite h.modMpp h.modMpp) h

theorem Keeps.mppPeriod (h : s.Keeps t) {m : Nat} : s.Keeps (State.mppPeriod t m) := by
  unfold State.mppPeriod
  extract_lets -underBinder -merge _ t1 _ _
  have h1 : s.Keeps t1 := by
    unfold t1
    split
    · exact h
    · exact h.mppGather.modMpp.mppTurn
  exact .ite h h1.modMpp.putB.putB.putB

theorem Keeps.mppLatch (h : s.Keeps t) {m : Nat} : s.Keeps (State.mppLatch t m) := by
  unfold State.mppLatch
  exact .digest (.forAll h (fun _ _ h1 => h1.wr))

theorem Keeps.mppStart (h : s.Keeps t) {m : Nat} : s.Keeps (State.mppStart t m) := by
  unfold State.mppStart
  exact .forAll h.modMpp.wr (fun _ _ h1 => h1.wr)

theorem Keeps.sampleEvents (h : s.Keeps t) {k : Nat} : s.Keeps (t.sampleEvents k) := by
  unfold State.sampleEvents
  refine .ite ?_ h
  simp only [List.foldl_cons, List.foldl_nil]
  have h3 : s.Keeps (((t.sampled k (State.wvnLock · k)).sampled k (State.validLoss · k)).sampled k (State.phaseJump · k)) :=
    ((h.sampled fun _ h => h.wvnLock).sampled fun _ h => h.validLoss).sampled fun _ h => h.phaseJump
  have h6 := ((h3.sampled (k := k) (f := (State.frtTransition · k)) fun _ h => h.frtTransition).sampled (k := k)
    (f := (State.frtConfirm · k)) fun _ h => h.frtConfirm).sampled (k := k) (f := (State.frtRecover · k)) fun _ h => h.frtRecover
  exact ((h6.sampled fun _ h => h.vsHoldEnd).sampled fun _ h => h.islandDeclare).sampled fun _ h => h.resyncDone

theorem Keeps.wvnLatch (h : s.Keeps t) {c : Nat} : s.Keeps (State.wvnLatch t c) := by
  unfold State.wvnLatch
  extract_lets -underBinder -merge t1 t2
  have h1 : s.Keeps t1 := .forAll h.sampleOutput (fun _ _ h1 => h1.sampleEvents)
  have h2 : s.Keeps t2 := .forAll h1 (fun _ _ h1 => .ite h1.setLatch h1)
  exact .forAll h2 (fun _ _ h1 => .ite h1.mppPeriod.mppLatch h1)

theorem Keeps.applyWvn (h : s.Keeps t) : s.Keeps (State.applyWvn t) := by
  unfold State.applyWvn
  extract_lets -underBinder -merge _ _ _ t2
  have h2 : s.Keeps t2 := .forAll h.modWvn (fun _ _ h1 => .ite h1.setStart h1)
  exact .forAll h2 (fun _ _ h1 => .ite h1.mppStart h1)

/-! ### Operations of Machine/MillOps.lean -/

theorem Keeps.correctWord (h : s.Keeps t) {k : Nat} : s.Keeps (State.correctWord t k) := by
  unfold State.correctWord
  exact .ite h.modMill.set1.incS h

theorem Keeps.fetchBundle (h : s.Keeps t) : s.Keeps (State.fetchBundle t) := by
  unfold State.fetchBundle
  exact .modMill (.ite h.correctWord h)

theorem Keeps.millScrub (h : s.Keeps t) : s.Keeps (State.millScrub t) := by
  unfold State.millScrub
  exact .ite h h.drawn.correctWord

theorem Keeps.taskFlags (h : s.Keeps t) {t' : Nat} {f : Flags} : s.Keeps (State.taskFlags t t' f) := by
  unfold State.taskFlags
  exact .ite h (by
    extract_lets -underBinder -merge t1 t2 t3 _ t4
    have h1 : s.Keeps t1 := .whenB (.whenB h (fun _ h1 => h1.set1)) (fun _ h1 => h1.set1)
    have h2 : s.Keeps t2 := .whenB (.whenB h1 (fun _ h1 => h1.set1)) (fun _ h1 => h1.set1)
    have h3 : s.Keeps t3 := .whenB h2 (fun _ h1 => h1.set1)
    have h4 : s.Keeps t4 := h3.modTask
    exact .ite h4.raise h4)

theorem Keeps.post (h : s.Keeps t) {ln : Nat} {latency : Nat} {dest : Dest} {val : Nat} {fixed : Bool} {load : Bool} {unit : Option Nat} : s.Keeps (State.post t ln latency dest val fixed load unit) := by
  unfold State.post
  exact h.modMill

theorem Keeps.postReg (h : s.Keeps t) {ln : Nat} {latency : Nat} {r : Nat} {w : Word} : s.Keeps (State.postReg t ln latency r w) := by
  unfold State.postReg
  exact h.post

theorem Keeps.retire (h : s.Keeps t) {load : Bool} : s.Keeps (State.retire t load) := by
  unfold State.retire
  exact .foldl h (fun _ _ h1 => h1.modLane)

theorem Keeps.storeNow (h : s.Keeps t) {p : PendStore} : s.Keeps (t.storeNow p) := by
  unfold State.storeNow
  exact .ite h (.ite (h.modMill (hm := fun hc => { hc with dmem := cellWf_cellSet _ _ _ _ _ (Nat.zero_le _) hc.dmem })) h.modMill)

theorem Keeps.laneCycle (h : s.Keeps t) : s.Keeps (State.laneCycle t) := by
  unfold State.laneCycle
  exact .ite h.modMill (by
    extract_lets -underBinder -merge t1 _ _ t4
    have h1 : s.Keeps t1 := .foldl h (fun _ _ h1 => .foldl h1 (fun _ _ h2 => h2.storeNow))
    have h4 : s.Keeps t4 := h1.modMill.retire.retire.modMill
    exact .ite h4.fetchBundle h4)

theorem Keeps.millTick (h : s.Keeps t) : s.Keeps (State.millTick t) := by
  unfold State.millTick
  extract_lets -underBinder -merge t1
  have h1 : s.Keeps t1 := h.millScrub.laneCycle
  exact .ite h1.modMill.clr h1

theorem Keeps.endEvent (h : s.Keeps t) {was : State} : s.Keeps (State.endEvent t was) := by
  unfold State.endEvent
  split
  · exact .ite h.raise h
  · exact h

theorem Keeps.claim (h : s.Keeps t) {t' : Nat} {ln : Nat} {unit : Nat} {interval : Nat} {latency : Nat} : s.Keeps (State.claim t t' ln unit interval latency) := by
  unfold State.claim
  extract_lets -underBinder -merge _ _ t1
  have h1 : s.Keeps t1 := .ite h.modMill.taskFlags h
  exact h1.modLane

theorem Keeps.alu (h : s.Keeps t) {ln code : Nat} {f : Nat → Lane → Slot → State} (hf : ∀ k l x, s.Keeps (f k l x)) :
    s.Keeps (t.alu ln code f) := by
  unfold State.alu
  split
  · exact .ite (.ite h.taskFlags (hf ..)) h
  · exact h

theorem Keeps.aluArith (h : s.Keeps t) {ln code latency : Nat} {f : (Nat → Flt) → Slot → Flt} : s.Keeps (t.aluArith ln code latency f) := by
  unfold State.aluArith
  exact h.alu fun _ _ _ => h.taskFlags.postReg

theorem Keeps.aluPair (h : s.Keeps t) {ln code latency : Nat} {f : (Nat → Flt) → Slot → Flt × Flt} :
    s.Keeps (t.aluPair ln code latency f) := by
  unfold State.aluPair
  exact h.alu fun _ _ _ => h.taskFlags.postReg.postReg

theorem Keeps.aluBits (h : s.Keeps t) {ln code : Nat} {f : Lane → Slot → Word} : s.Keeps (t.aluBits ln code f) := by
  unfold State.aluBits
  exact h.alu fun _ _ _ => h.postReg

theorem Keeps.aluCmp (h : s.Keeps t) {ln code : Nat} {f : Flt → Flt → Bool} : s.Keeps (t.aluCmp ln code f) := by
  unfold State.aluCmp
  exact h.alu fun _ _ _ => h.post

theorem Keeps.readCoef (h : s.Keeps t) {t' : Nat} {a : Nat} : s.Keeps (State.readCoef t t' a) := by
  unfold State.readCoef
  exact h.correctWord

theorem Keeps.bump (h : s.Keeps t) {ln : Nat} {x : Slot} {n : Nat} : s.Keeps (State.bump t ln x n) := by
  unfold State.bump
  exact .ite h.post h

theorem Keeps.biquad (h : s.Keeps t) {t' ln : Nat} {l : Lane} {x : Slot} : s.Keeps (t.biquad t' ln l x) := by
  unfold State.biquad
  extract_lets t1 _ _ _ _ _
  have h1 : s.Keeps t1 := .claim (h.foldl fun _ _ hu => hu.readCoef)
  clear_value t1
  dsimp only
  exact .bump (.ite h1.taskFlags.post.post.post.post h1.taskFlags.post.post.post)

theorem Keeps.integrate (h : s.Keeps t) {t' : Nat} {ln : Nat} {l : Lane} {x : Slot} : s.Keeps (State.integrate t t' ln l x) := by
  unfold State.integrate
  extract_lets -underBinder -merge _ _ _
  split
  · exact h.taskFlags.postReg.post.post

theorem Keeps.interpolate (h : s.Keeps t) {t' : Nat} {ln : Nat} {l : Lane} {x : Slot} : s.Keeps (State.interpolate t t' ln l x) := by
  unfold State.interpolate
  extract_lets -underBinder -merge _ _ _ _ _ t1 _
  have h1 : s.Keeps t1 := .foldl h (fun _ _ h1 => h1.readCoef)
  split
  · exact h1.taskFlags.postReg.bump

theorem Keeps.divide (h : s.Keeps t) {t' : Nat} {ln : Nat} {l : Lane} {x : Slot} : s.Keeps (State.divide t t' ln l x) := by
  unfold State.divide
  extract_lets -underBinder -merge _
  split
  · split
    · exact h.claim.taskFlags.post

theorem Keeps.squareRoot (h : s.Keeps t) {t' : Nat} {ln : Nat} {l : Lane} {x : Slot} : s.Keeps (State.squareRoot t t' ln l x) := by
  unfold State.squareRoot
  extract_lets -underBinder -merge _
  split
  · exact h.claim.taskFlags.post

theorem Keeps.mac (h : s.Keeps t) {ln : Nat} {mode : Nat} : s.Keeps (State.mac t ln mode) := by
  unfold State.mac
  split
  · exact .ite (by
    extract_lets -underBinder -merge _ _ _ _ _ _ _
    split
    · exact h.taskFlags.post.post) h
  · exact h

theorem Keeps.laneLoad (h : s.Keeps t) {ln : Nat} : s.Keeps (State.laneLoad t ln) := by
  unfold State.laneLoad
  split
  · exact .ite (by
    extract_lets -underBinder -merge _ t1
    have h1 : s.Keeps t1 := .ite h.correctWord (.ite h.readCoef h)
    exact h1.post.bump) h
  · exact h

theorem Keeps.laneStore (h : s.Keeps t) {ln : Nat} : s.Keeps (State.laneStore t ln) := by
  unfold State.laneStore
  split
  · exact .ite (by
    extract_lets -underBinder -merge _ t1
    have h1 : s.Keeps t1 := .ite h.modMill h.taskFlags
    exact h1.bump) h
  · exact h

theorem Keeps.overrun (h : s.Keeps t) {t' : Nat} {state : Bool} : s.Keeps (State.overrun t t' state) := by
  unfold State.overrun
  extract_lets -underBinder -merge _ _ t1 t2
  have h1 : s.Keeps t1 := .ite h h.modTask.set1.incS.raise
  have h2 : s.Keeps t2 := .ite h1.set1 h1
  exact h2.void

theorem Keeps.millHalt (h : s.Keeps t) : s.Keeps (State.millHalt t) := by
  unfold State.millHalt
  exact h.modMill.clr

theorem Keeps.millStop (h : s.Keeps t) : s.Keeps (State.millStop t) := by
  unfold State.millStop
  exact .forAll h.millHalt (fun _ _ h1 => h1.modTask.clr)

theorem Keeps.frameStart (h : s.Keeps t) {t' : Nat} : s.Keeps (t.frameStart t') := by
  unfold State.frameStart
  extract_lets -underBinder t1 t2 t3 _ t4
  have h1 : s.Keeps t1 := .ite h.millHalt.overrun h
  clear_value t1
  have h2 : s.Keeps t2 := h1.modMill
  have h3 : s.Keeps t3 := h2.modTask
  have h4 : s.Keeps t4 := by
    unfold t4
    exact h3.record
  exact .ite h1.modTask.clr h4.set1.raise

theorem Keeps.frames (h : s.Keeps t) {c : Nat} {peak : Bool} {e : Nat} : s.Keeps (State.frames t c peak e) := by
  unfold State.frames
  exact .ite (.forAll h (fun _ _ h1 => .ite h1.frameStart h1)) h

theorem Keeps.setBank (h : s.Keeps t) {t' : Nat} {b : Bool} : s.Keeps (State.setBank t t' b) := by
  unfold State.setBank
  exact .ite h h.putB.raise

theorem Keeps.evaluate (h : s.Keeps t) {t' : Nat} : s.Keeps (t.evaluate t') := by
  unfold State.evaluate
  extract_lets _ bad t1 t2 _
  have h1 : s.Keeps t1 := .ite h.set1 h
  have h2 : s.Keeps t2 := h1.modTask
  clear_value t2
  cases bad with
  | nil => exact h2.put.clr
  | cons k _ => exact .ite h2.put.put.incS.put.set1.raise.log h2.put.put.incS.put.set1

theorem Keeps.inputInstant (h : s.Keeps t) {t' : Nat} : s.Keeps (State.inputInstant t t') := by
  unfold State.inputInstant
  extract_lets -underBinder -merge t1 _ _ _ t2 t3 t4 t5 t6
  have h1 : s.Keeps t1 := h.publishWindows
  have h2 : s.Keeps t2 := h1.modTask
  have h3 : s.Keeps t3 := .ite h2.setBank h2
  have h4 : s.Keeps t4 := .ite h3.clr.setBank h3
  have h5 : s.Keeps t5 := h4.evaluate
  have h6 : s.Keeps t6 := h5.clr
  exact .ite (.ite (.ite h6.clr.modTask h6) h5) h1

theorem Keeps.policyHold (h : s.Keeps t) {t' : Nat} : s.Keeps (State.policyHold t t') := by
  unfold State.policyHold
  exact .ite (by
    extract_lets -underBinder -merge t1
    have h1 : s.Keeps t1 := h.modTask
    exact .ite h1 h1.set1.raise) h

theorem Keeps.policyFallback (h : s.Keeps t) {t' : Nat} : s.Keeps (State.policyFallback t t') := by
  unfold State.policyFallback
  exact .ite (by
    extract_lets -underBinder -merge t1 t2
    have h1 : s.Keeps t1 := h.modTask
    have h2 : s.Keeps t2 := .ite h1 h1.modTask.set1.raise
    exact h2.setBank) h

theorem Keeps.policyTrip (h : s.Keeps t) {t' : Nat} : s.Keeps (State.policyTrip t t') := by
  unfold State.policyTrip
  exact .ite (by
    extract_lets -underBinder -merge t1 _
    have h1 : s.Keeps t1 := h.modTask.blockLegs
    exact .ite h1 h1.set1.raise.log) h

theorem Keeps.taskStart (h : s.Keeps t) {t' : Nat} : s.Keeps (State.taskStart t t') := by
  unfold State.taskStart
  extract_lets -underBinder -merge _ t1 _ t3
  have h1 : s.Keeps t1 := h.modTask
  have h3 : s.Keeps t3 := h1.modMill.fetchBundle
  exact .ite (.ite h1.modTask (.ite h1.overrun.modTask h3.put.set1)) h

theorem Keeps.taskEnd (h : s.Keeps t) {t' : Nat} : s.Keeps (State.taskEnd t t') := by
  unfold State.taskEnd
  exact h.modMill.modTask.clr

theorem Keeps.programEnd (h : s.Keeps t) : s.Keeps (State.programEnd t) := by
  unfold State.programEnd
  split
  · exact .ite h.millHalt.taskFlags h
  · exact h

theorem Keeps.commitWord (h : s.Keeps t) {i : Nat} : s.Keeps (State.commitWord t i) := by
  unfold State.commitWord
  exact .ite h.loadShadow (.ite h.steer (.ite h.wr h.wr))

theorem Keeps.taskCommit (h : s.Keeps t) {t' : Nat} {c : Nat} : s.Keeps (State.taskCommit t t' c) := by
  unfold State.taskCommit
  exact .ite (by
    extract_lets -underBinder -merge _ t1
    have h1 : s.Keeps t1 := h.modTask
    exact .ite h1 (.ite (.foldl h1 (fun _ _ h1 => h1.commitWord)) h1.overrun)) h

theorem Keeps.millCommit (h : s.Keeps t) {c : Nat} : s.Keeps (State.millCommit t c) := by
  unfold State.millCommit
  exact .ite (.digest (.forAll h (fun _ _ h1 => h1.taskCommit))) h

theorem Keeps.millFatal (h : s.Keeps t) : s.Keeps (State.millFatal t) := by
  unfold State.millFatal
  exact h.millStop.blockLegs.set1

theorem Keeps.requestSwap (h : s.Keeps t) {mask : Nat} : s.Keeps (State.requestSwap t mask) := by
  unfold State.requestSwap
  exact .forAll h (fun _ _ h1 => .ite h1.modTask h1)

theorem Keeps.requestResume (h : s.Keeps t) {mask : Nat} : s.Keeps (State.requestResume t mask) := by
  unfold State.requestResume
  exact .forAll h (fun _ _ h1 => .ite h1.modTask h1)

theorem Keeps.taskCtrl (h : s.Keeps t) {t' : Nat} {v : Word} : s.Keeps (State.taskCtrl t t' v) := by
  unfold State.taskCtrl
  exact h.modTask

/-! ### Operations of Machine/Guard.lean -/

theorem Keeps.faultAt (h : s.Keeps t) {m : Master} {w : World} {write : Bool} {a : Nat} {why : WriteResult} : s.Keeps (State.faultAt t m w write a why) := by
  unfold State.faultAt
  exact .ite h.set1 h.wr.load

theorem Keeps.mramMeet (h : s.Keeps t) {a : Nat} {n : Nat} : s.Keeps (State.mramMeet t a n) := by
  unfold State.mramMeet
  exact .foldl h (fun _ _ h1 => h1.faultAt)

/-- No bit of SYS_MODE can be written. -/
theorem mergeWrite_mode : ∃ r, regRow? R.SYS_MODE = some r ∧ ∀ v w, mergeWrite r v w = v := by
  refine ⟨_, rfl, fun v w => ?_⟩
  have h0 : (0 : Word) ||| 0 ||| 0 = 0 := rfl
  have h1 : ~~~ (0 : Word) = BitVec.allOnes 32 := rfl
  simp only [mergeWrite, h0, show ∀ x : Word, x &&& 0 = 0 from fun _ => BitVec.and_zero, show ∀ x : Word, x ||| 0 = x from fun _ => BitVec.or_zero, h1, BitVec.and_allOnes]

theorem Keeps.storePlain (h : s.Keeps t) {a : Nat} {v : Word} : s.Keeps (t.storePlain a v) := by
  unfold State.storePlain
  by_cases ha : R.SYS_MODE = a
  · obtain ⟨r, hr, hv⟩ := mergeWrite_mode
    subst ha
    rw [hr]
    dsimp only
    rw [hv]
    exact h.trans ⟨rfl, fun hm => by rw [modeLegal, get_wr, if_pos rfl]; exact hm, id, fun hs => { hs with },
      fun hc => { hc with regs := cellWf_cellSet _ _ _ _ _ (Nat.zero_le _) hc.regs }⟩
  · split
    · exact h
    · exact h.wrOther ha

theorem Keeps.writeThrough (h : s.Keeps t) {a : Nat} {v : Word} {f : State → Word → State} (hf : ∀ w, s.Keeps (f t w)) :
    s.Keeps (t.writeThrough a v f) := by
  unfold State.writeThrough
  exact .ite h (hf _).markWritten

/-! ### Operations of Machine/ClkOps.lean -/

theorem Keeps.synLockWrite (h : s.Keeps t) {v : Word} : s.Keeps (State.synLockWrite t v) := by
  unfold State.synLockWrite
  exact h.storePlain.put

theorem Keeps.putTrim (h : s.Keeps t) {x : Int} : s.Keeps (State.putTrim t x) := by
  unfold State.putTrim
  exact h.put

theorem Keeps.stepTrim (h : s.Keeps t) {d : Int} : s.Keeps (State.stepTrim t d) := by
  unfold State.stepTrim
  exact h.putTrim

theorem Keeps.trimWrite (h : s.Keeps t) {v : Word} : s.Keeps (State.trimWrite t v) := by
  unfold State.trimWrite
  exact .ite h.modClk h.set1

theorem Keeps.refEdge (h : s.Keeps t) : s.Keeps (State.refEdge t) := by
  unfold State.refEdge
  split
  · exact h.putTrim.modClk
  · exact h

theorem Keeps.refTick (h : s.Keeps t) : s.Keeps (State.refTick t) := by
  unfold State.refTick
  exact .ite h (.ite h.refEdge.modClk h.modClk)

theorem Keeps.sscStore (h : s.Keeps t) {syn1 : Bool} {v : Word} : s.Keeps (State.sscStore t syn1 v) := by
  unfold State.sscStore
  exact .ite h.storePlain.putB h.storePlain.putB

theorem Keeps.sscWrite (h : s.Keeps t) {syn1 : Bool} {v : Word} : s.Keeps (State.sscWrite t syn1 v) := by
  unfold State.sscWrite
  exact .ite h.set1 h.sscStore

theorem Keeps.rampStop (h : s.Keeps t) : s.Keeps (State.rampStop t) := by
  unfold State.rampStop
  exact h.modRamp.clr

theorem Keeps.rampEnter (h : s.Keeps t) {n : Nat} : s.Keeps (State.rampEnter t n) := by
  unfold State.rampEnter
  exact h.modRamp

theorem Keeps.rampStart (h : s.Keeps t) : s.Keeps (State.rampStart t) := by
  unfold State.rampStart
  exact .ite h.modRamp.rampEnter.set1 h.set1

theorem Keeps.rampWrite (h : s.Keeps t) {v : Word} : s.Keeps (State.rampWrite t v) := by
  unfold State.rampWrite
  exact .whenB (.whenB h.storePlain (fun _ h1 => h1.rampStart)) (fun _ h1 => h1.rampStop)

theorem Keeps.rampSlope (h : s.Keeps t) : s.Keeps (State.rampSlope t) := by
  unfold State.rampSlope
  exact .whenB h.putTrim.modRamp (fun _ h1 => h1.set1)

theorem Keeps.rampBack (h : s.Keeps t) : s.Keeps (State.rampBack t) := by
  unfold State.rampBack
  extract_lets -underBinder -merge t1
  have h1 : s.Keeps t1 := h.stepTrim
  exact .ite h1.rampStop h1

theorem Keeps.rampTick (h : s.Keeps t) : s.Keeps (State.rampTick t) := by
  unfold State.rampTick
  extract_lets -underBinder -merge _ t1
  have h1 : s.Keeps t1 := h.modRamp
  exact .ite (.ite h1.rampBack h1.rampSlope) h

theorem Keeps.rampSegmentEnd (h : s.Keeps t) : s.Keeps (State.rampSegmentEnd t) := by
  unfold State.rampSegmentEnd
  exact .ite (.ite h.rampEnter (by
    split
    · exact .ite h.rampStop h.modRamp
    · exact h.rampEnter
    · exact h.rampStop)) h

theorem Keeps.fineUp (h : s.Keeps t) : s.Keeps (State.fineUp t) := by
  unfold State.fineUp
  exact .ite h.modClk h.modClk

theorem Keeps.fineDown (h : s.Keeps t) : s.Keeps (State.fineDown t) := by
  unfold State.fineDown
  exact .ite h.modClk h.modClk

theorem Keeps.countTick (h : s.Keeps t) : s.Keeps (State.countTick t) := by
  unfold State.countTick
  exact .ite h.modClk h.modClk

theorem Keeps.latchTimebase (h : s.Keeps t) : s.Keeps (State.latchTimebase t) := by
  unfold State.latchTimebase
  exact h.wr.wr

theorem Keeps.putTarget (h : s.Keeps t) {n : Nat} {t' : Nat} : s.Keeps (State.putTarget t n t') := by
  unfold State.putTarget
  exact h.wr.wr

theorem Keeps.cmpLate (h : s.Keeps t) {n : Nat} : s.Keeps (State.cmpLate t n) := by
  unfold State.cmpLate
  exact .ite h.set1.clr h

theorem Keeps.cmpHold (h : s.Keeps t) {n : Nat} {v : Word} : s.Keeps (State.cmpHold t n v) := by
  unfold State.cmpHold
  exact h.modClk

theorem Keeps.cmpLoad (h : s.Keeps t) {n : Nat} {v : Word} : s.Keeps (State.cmpLoad t n v) := by
  unfold State.cmpLoad
  exact h.wr.wr.cmpLate

theorem Keeps.cmpCtrl (h : s.Keeps t) {n : Nat} {v : Word} : s.Keeps (State.cmpCtrl t n v) := by
  unfold State.cmpCtrl
  extract_lets -underBinder -merge t1 _
  have h1 : s.Keeps t1 := h.storePlain
  exact .ite h1.cmpLate h1

theorem Keeps.cmpMatch (h : s.Keeps t) {n : Nat} : s.Keeps (State.cmpMatch t n) := by
  unfold State.cmpMatch
  exact .ite (by
    extract_lets -underBinder -merge t1 _
    have h1 : s.Keeps t1 := h.raise.set1
    exact .ite h1.update (.ite h1 h1.putTarget)) h

theorem Keeps.capture (h : s.Keeps t) {n : Nat} {e : Raised} : s.Keeps (State.capture t n e) := by
  unfold State.capture
  exact .ite (by
    extract_lets -underBinder -merge t1 _
    have h1 : s.Keeps t1 := .whenB h (fun _ h1 => h1.set1)
    exact h1.wr.modClk.put.set1) h

theorem Keeps.latchCapture (h : s.Keeps t) {n : Nat} : s.Keeps (State.latchCapture t n) := by
  unfold State.latchCapture
  exact h.wr

theorem Keeps.takeCapture (h : s.Keeps t) {n : Nat} : s.Keeps (State.takeCapture t n) := by
  unfold State.takeCapture
  exact h.clr

theorem Keeps.carrierWaits (h : s.Keeps t) {c : Nat} : s.Keeps (State.carrierWaits t c) := by
  unfold State.carrierWaits
  exact .ite (.abandonWindows (.forAll h.put (fun _ _ h1 => .ite h1.restLeg h1))) h

theorem Keeps.timebaseStep (h : s.Keeps t) {t' : Nat} : s.Keeps (State.timebaseStep t t') := by
  unfold State.timebaseStep
  extract_lets -underBinder -merge _ _ t3 _ t5 _ _
  have h3 : s.Keeps t3 := .forAll h.rebase.modClk.injAnew.set1 (fun _ _ h1 => h1.takeCapture)
  have h5 : s.Keeps t5 := .forAll (.forAll h3 (fun _ _ h1 => .ite h1.cmpLate h1)) (fun _ _ h1 => h1.carrierWaits)
  exact h5.record

theorem Keeps.rtcHold (h : s.Keeps t) {v : Word} : s.Keeps (State.rtcHold t v) := by
  unfold State.rtcHold
  exact h.modClk

theorem Keeps.rtcLoad (h : s.Keeps t) {v : Word} : s.Keeps (State.rtcLoad t v) := by
  unfold State.rtcLoad
  exact h.modClk.clr

theorem Keeps.latchRtc (h : s.Keeps t) : s.Keeps (State.latchRtc t) := by
  unfold State.latchRtc
  exact h.wr.wr.rtcShown

theorem Keeps.latchRtcTb (h : s.Keeps t) : s.Keeps (State.latchRtcTb t) := by
  unfold State.latchRtcTb
  exact h.wr

theorem Keeps.rtcSecond (h : s.Keeps t) : s.Keeps (State.rtcSecond t) := by
  unfold State.rtcSecond
  extract_lets -underBinder -merge t1 _
  have h1 : s.Keeps t1 := h.modClk
  exact .ite h1.modClk.wr.drawn h1

theorem Keeps.rtcTrimInterval (h : s.Keeps t) : s.Keeps (State.rtcTrimInterval t) := by
  unfold State.rtcTrimInterval
  exact .ite h.modClk h

/-! ### Operations of Machine/SafeOps.lean -/

theorem Keeps.safeShow (h : s.Keeps t) : s.Keeps (State.safeShow t) := by
  unfold State.safeShow
  exact h.wr.wr.wr.wr.wr.wr.wr.put.put.wr.wr.wr

theorem shaped_judged {x : MirrorSt} {n : Nat} {f g : Option Nat → Option Nat} (h : x.Shaped) :
    MirrorSt.Shaped { x with disagree := upd x.disagree n f, agree := upd x.agree n g } :=
  { h with disagree := (length_upd _ _ _).trans h.disagree, agree := (length_upd _ _ _).trans h.agree }

theorem Keeps.settleOuts (h : s.Keeps t) {was : State} : s.Keeps (State.settleOuts t was) := by
  unfold State.settleOuts
  extract_lets -underBinder -merge _ t1 t2 _
  have h1 : s.Keeps t1 := .ite h.clr.blockLegs.gdRefreshAll (.ite h.set1.gdRefreshAll.raise h)
  have h2 : s.Keeps t2 := .foldl h1 (fun _ _ h1 => .ite h1.raise h1)
  exact h2.modSafe.safeShow

theorem Keeps.island (h : s.Keeps t) {f : State → State} (hf : ∀ u, s.Keeps u → s.Keeps (f u)) : s.Keeps (State.island t f) := by
  unfold State.island
  exact (hf _ h).settleOuts

theorem Keeps.demandEvent (h : s.Keeps t) : s.Keeps (State.demandEvent t) := by
  unfold State.demandEvent
  exact h.wr.incS.raise

theorem Keeps.diag (h : s.Keeps t) {m : Mirror} {code : Nat} : s.Keeps (t.diag m code) := by
  unfold State.diag
  exact h.modMir (hf := fun _ hx => { hx with hist := by simp [hx.hist] })

theorem Keeps.mirrorFault (h : s.Keeps t) {m : Mirror} {code : Nat} : s.Keeps (State.mirrorFault t m code) := by
  unfold State.mirrorFault
  extract_lets -underBinder -merge _ _ t2 _
  have h2 : s.Keeps t2 := h.diag.modMir.modSafe
  exact .ite (.ite h2 h2.modSafe.raise.log) h

theorem Keeps.inputFault (h : s.Keeps t) {n : Nat} {pulse : Bool} : s.Keeps (t.inputFault n pulse) := by
  unfold State.inputFault
  extract_lets _ _ f t1
  have hf : ∀ x : MirrorSt, x.Shaped → (f x).Shaped := fun _ hx => { hx with }
  have h1 : s.Keeps t1 := (h.modMir hf).modMir hf
  exact .ite h1.incS.raise h1

theorem Keeps.inputClear (h : s.Keeps t) {n : Nat} : s.Keeps (State.inputClear t n) := by
  unfold State.inputClear
  exact h.modMir.modMir

theorem Keeps.outputFault (h : s.Keeps t) {k : Nat} : s.Keeps (State.outputFault t k) := by
  unfold State.outputFault
  exact .ite h h.modMir.modMir.modSafe.incS

theorem shaped_sampleChannel {x : MirrorSt} {m : Mirror} {level : Bool} {n : Nat} (h : x.Shaped) : (x.sampleChannel m level n).Shaped := by
  unfold MirrorSt.sampleChannel
  extract_lets
  split
  · exact { h with counts := (length_upd _ _ _).trans h.counts }
  · exact { h with counts := (length_upd _ _ _).trans h.counts }

theorem shaped_foldl {α : Type} {l : List α} {f : MirrorSt → α → MirrorSt} {x : MirrorSt} (h : x.Shaped)
    (hf : ∀ y a, y.Shaped → (f y a).Shaped) : (l.foldl f x).Shaped := by
  induction l generalizing x with
  | nil => exact h
  | cons a l ih => exact ih (hf x a h)

theorem Keeps.inputSample (h : s.Keeps t) {m : Mirror} {levels : BitVec 12} : s.Keeps (t.inputSample m levels) := by
  unfold State.inputSample
  exact .ite (.safeShow (h.modMir fun _ hx => shaped_foldl { hx with } fun _ _ hy => shaped_sampleChannel hy)) h

theorem Keeps.pulseStart (h : s.Keeps t) {m : Mirror} {k : Nat} : s.Keeps (State.pulseStart t m k) := by
  unfold State.pulseStart
  exact .ite h.modMir.safeShow h

theorem Keeps.pulseEnd (h : s.Keeps t) {m : Mirror} {k : Nat} : s.Keeps (State.pulseEnd t m k) := by
  unfold State.pulseEnd
  extract_lets -underBinder -merge _ _
  split
  · exact h
  · exact .ite (.safeShow (.forAll h.modMir (fun _ _ h1 => .ite h1.inputFault h1))) h

theorem Keeps.overVoltage (h : s.Keeps t) {m : Mirror} {x : SdcRun} : s.Keeps (State.overVoltage t m x) := by
  unfold State.overVoltage
  exact .ite h.modMir.safeShow h

theorem Keeps.pairReturns (h : s.Keeps t) {n : Nat} : s.Keeps (State.pairReturns t n) := by
  unfold State.pairReturns
  exact h.modMir.modMir

theorem Keeps.pairHeals (h : s.Keeps t) {m : Mirror} {n : Nat} : s.Keeps (State.pairHeals t m n) := by
  unfold State.pairHeals
  exact .ite h.inputClear h

theorem Keeps.discrepancy (h : s.Keeps t) {m : Mirror} {n : Nat} : s.Keeps (State.discrepancy t m n) := by
  unfold State.discrepancy
  extract_lets -underBinder -merge _
  split
  · exact .ite h.inputFault.safeShow h
  · exact h

theorem Keeps.faultClear (h : s.Keeps t) {m : Mirror} {n : Nat} : s.Keeps (State.faultClear t m n) := by
  unfold State.faultClear
  extract_lets -underBinder -merge _ _
  split
  · exact .ite h.inputClear.safeShow h
  · exact h

theorem Keeps.takePeer (h : s.Keeps t) {m : Mirror} {link : Bool} : s.Keeps (State.takePeer t m link) := by
  unfold State.takePeer
  exact .ite h.modMir h

theorem Keeps.connsBack (h : s.Keeps t) : s.Keeps (State.connsBack t) := by
  unfold State.connsBack
  exact h.modSafe

theorem Keeps.compareConns (h : s.Keeps t) {m : Mirror} : s.Keeps (State.compareConns t m) := by
  unfold State.compareConns
  exact h.modMir

theorem Keeps.connTimesOut (h : s.Keeps t) {c : Nat} {was : Bool} {still : Bool} : s.Keeps (State.connTimesOut t c was still) := by
  unfold State.connTimesOut
  extract_lets -underBinder -merge _ t1
  have h1 : s.Keeps t1 := .ite h.raise h
  exact h1.modSafe

theorem Keeps.connExpire (h : s.Keeps t) {m : Mirror} {c : Nat} : s.Keeps (State.connExpire t m c) := by
  unfold State.connExpire
  extract_lets -underBinder -merge _ _ _
  split
  · exact .ite (by
    extract_lets -underBinder -merge _ t1 _
    have h1 : s.Keeps t1 := h.modMir
    exact .safeShow (.ite h1.raise h1.modMir.connTimesOut)) h
  · exact h

theorem Keeps.connDegradedEnd (h : s.Keeps t) {m : Mirror} {c : Nat} : s.Keeps (State.connDegradedEnd t m c) := by
  unfold State.connDegradedEnd
  extract_lets -underBinder -merge _
  split
  · exact .ite h.modMir.connTimesOut.safeShow h
  · exact h

theorem Keeps.connFault (h : s.Keeps t) {c : Nat} : s.Keeps (State.connFault t c) := by
  unfold State.connFault
  exact .ite h.modSafe.incS.raise.safeShow h

theorem Keeps.connFaultClear (h : s.Keeps t) {c : Nat} : s.Keeps (State.connFaultClear t c) := by
  unfold State.connFaultClear
  exact .ite h.modSafe.safeShow h

theorem Keeps.buildFrame (h : s.Keeps t) {m : Mirror} : s.Keeps (State.buildFrame t m) := by
  unfold State.buildFrame
  exact h.modMir

theorem Keeps.setOut (h : s.Keeps t) {m : Mirror} {k : Nat} {st : OutSt} : s.Keeps (State.setOut t m k st) := by
  unfold State.setOut
  extract_lets -underBinder -merge _ t1
  have h1 : s.Keeps t1 := h.modMir
  exact .ite h1 h1.modMir

theorem Keeps.judgePair (h : s.Keeps t) {m : Mirror} {n : Nat} : s.Keeps (t.judgePair m n).1 := by
  unfold State.judgePair
  extract_lets _ _ bitN
  generalize t.levelsOf m n = lv
  obtain ⟨la, lb⟩ := lv
  dsimp -zeta only
  extract_lets bad t1 high _ _ _ t2
  have h1 : s.Keeps t1 := h.modMir fun _ hx => shaped_judged hx
  clear_value t1
  have h2 : s.Keeps t2 := .ite h1.modMir h1
  clear_value t2
  split
  · exact h
  split
  · have hp : s.Keeps (t1.modMir m fun y => { y with pressed := upd y.pressed n (timer high y.time) }) := h1.modMir
    exact hp
  split
  · exact h1
  split
  · have hp : s.Keeps (t1.modMir m fun y => { y with cycled := y.cycled ||| bitN, opened := y.opened ||| bitN }) := h1.modMir
    exact hp
  split
  · exact .pairHeals (.ite h2.pairReturns h2)
  · exact h1.pairHeals

theorem Keeps.stepOut (h : s.Keeps t) {m : Mirror} {presses : List Nat} {cut : Bool} {k : Nat} : s.Keeps (t.stepOut m presses cut k).1 := by
  unfold State.stepOut
  extract_lets _ _ t1 _ turnOn
  have h1 : s.Keeps t1 := h.modMir
  clear_value t1
  have ht : s.Keeps (turnOn t1) := .ite h1.mirrorFault h1.setOut
  split
  · exact .ite h1.modSafe h1
  split
  · split
    · exact h1.setOut
    · exact h1
  · exact h1
  · split
    · exact h1
    · split
      · exact h1.setOut
      · exact ht
  · split
    · exact h1.setOut
    · split
      · exact ht
      · exact h1

theorem Keeps.stepOuts (h : s.Keeps t) {m : Mirror} {presses : List Nat} {cut : Bool} : s.Keeps (t.stepOuts m presses cut) := by
  unfold State.stepOuts
  have hp : s.Keeps ((List.range 5).foldl (fun (p : State × BitVec 5) k =>
      ((p.1.stepOut m presses cut k).1, if (p.1.stepOut m presses cut k).2 then p.2 ||| (1#5 <<< k) else p.2)) (t, 0)).1 :=
    .foldlPair h fun _ _ hy => hy.stepOut
  exact .ite hp.modSafe hp.modSafe.demandEvent

theorem Keeps.delayExpiry (h : s.Keeps t) {m : Mirror} {k : Nat} : s.Keeps (State.delayExpiry t m k) := by
  unfold State.delayExpiry
  exact .ite (.island h (fun _ h1 => h1.setOut)) h

theorem Keeps.edmTimeout (h : s.Keeps t) {m : Mirror} {k : Nat} : s.Keeps (State.edmTimeout t m k) := by
  unfold State.edmTimeout
  extract_lets -underBinder -merge _ _
  split
  · exact .ite (.island h (fun _ h1 => by
    extract_lets -underBinder -merge t1 _
    have h1 : s.Keeps t1 := h1.modMir
    split
    · exact .ite h1 h1.outputFault)) h
  · exact h

theorem Keeps.readBack (h : s.Keeps t) {m : Mirror} {rb : BitVec 6} : s.Keeps (State.readBack t m rb) := by
  unfold State.readBack
  exact h.modMir.put

theorem Keeps.readbackFault (h : s.Keeps t) {m : Mirror} {k : Nat} : s.Keeps (State.readbackFault t m k) := by
  unfold State.readbackFault
  exact .ite (.island h (fun _ h1 => h1.mirrorFault)) (.ite (.island h (fun _ h1 => h1.outputFault)) h)

theorem shaped_takeFrames {x : MirrorSt} {m : Mirror} (h : x.Shaped) : (x.takeFrames m).Shaped :=
  { h with conns := by simp [MirrorSt.takeFrames, h.conns] }

theorem Keeps.mirrorScan (h : s.Keeps t) {m : Mirror} {rb : BitVec 6} {link coded cut : Bool} :
    s.Keeps (t.mirrorScan m rb link coded cut) := by
  unfold State.mirrorScan
  refine .ite (h.island fun u hu => ?_) h
  extract_lets _ t1 t2 t3 t4 t5 _ t6 t7
  have h1 : s.Keeps t1 := hu.modMir
  have h2 : s.Keeps t2 := .ite h1.mirrorFault h1
  have h3 : s.Keeps t3 := .ite h2.mirrorFault h2
  clear_value t3
  have h4 : s.Keeps t4 := (h3.modMir fun _ hx => shaped_takeFrames hx).connsBack.takePeer.compareConns
  clear_value t4
  have hp : s.Keeps ((List.range 12).foldl (fun (p : State × List Nat) n =>
      ((p.1.judgePair m n).1, if (p.1.judgePair m n).2 then n :: p.2 else p.2)) (t4, [])).1 :=
    .foldlPair h4 fun _ _ hy => hy.judgePair
  have h5 : s.Keeps t5 := .ite hp.stepOuts h4
  clear_value t5
  have h6 : s.Keeps t6 := h5.modMir
  exact h6.readBack.buildFrame.modMir

theorem Keeps.commandDisagree (h : s.Keeps t) {m : Mirror} : s.Keeps (State.commandDisagree t m) := by
  unfold State.commandDisagree
  extract_lets -underBinder -merge _
  split
  · exact .ite (.island h (fun _ h1 => h1.mirrorFault)) h
  · exact h

theorem Keeps.crossLinkFault (h : s.Keeps t) {m : Mirror} : s.Keeps (State.crossLinkFault t m) := by
  unfold State.crossLinkFault
  exact .ite (.island h (fun _ h1 => h1.mirrorFault)) h

theorem Keeps.oscCheck (h : s.Keeps t) {m : Mirror} {n : Nat} : s.Keeps (State.oscCheck t m n) := by
  unfold State.oscCheck
  extract_lets -underBinder -merge _ t1
  have h1 : s.Keeps t1 := h.modMir
  exact .ite (.ite h1 (.island h1 (fun _ h1 => h1.mirrorFault))) h

theorem Keeps.paramCheck (h : s.Keeps t) {m : Mirror} : s.Keeps (State.paramCheck t m) := by
  unfold State.paramCheck
  extract_lets -underBinder -merge _ t1
  have h1 : s.Keeps t1 := h.modMir
  exact .ite (.ite h1 (.island h1 (fun _ h1 => h1.mirrorFault))) h

theorem Keeps.romCheck (h : s.Keeps t) {ok : Bool} : s.Keeps (State.romCheck t ok) := by
  unfold State.romCheck
  extract_lets -underBinder -merge _ t1
  have h1 : s.Keeps t1 := h.modMir
  exact .ite (.ite h1 (.island h1 (fun _ h1 => h1.mirrorFault))) h

theorem Keeps.mirrorSupply (h : s.Keeps t) {m : Mirror} : s.Keeps (State.mirrorSupply t m) := by
  unfold State.mirrorSupply
  exact .ite h (.island h (fun _ h1 => h1.diag.modMir.modSafe))

theorem Keeps.clearAutoFaults (h : s.Keeps t) : s.Keeps (State.clearAutoFaults t) := by
  unfold State.clearAutoFaults
  exact h.modSafe

theorem shaped_enterBoot {x : MirrorSt} (h : x.Shaped) : x.enterBoot.Shaped :=
  { h with pulses := rfl, disagree := rfl, agree := rfl, pressed := rfl, outs := rfl, conns := rfl }

theorem Keeps.islandBoot (h : s.Keeps t) {restart : Bool} : s.Keeps (t.islandBoot restart) := by
  unfold State.islandBoot
  refine h.island fun u hu => ?_
  extract_lets f t1
  have hf : ∀ x : MirrorSt, x.Shaped → (f x).Shaped := fun x hx => by
    unfold f
    split
    · exact hx
    · exact shaped_enterBoot hx
  have h1 : s.Keeps t1 := (Keeps.ite hu.clearAutoFaults hu).modMir hf |>.modMir hf
  exact h1.modSafe

theorem shaped_powerOn {x : MirrorSt} (h : x.Shaped) : x.powerOn.Shaped :=
  ⟨rfl, rfl, rfl, rfl, rfl, rfl, rfl, rfl, rfl, h.store⟩

theorem Keeps.mirrorPowerOn (h : s.Keeps t) {m : Mirror} : s.Keeps (t.mirrorPowerOn m) := by
  unfold State.mirrorPowerOn
  exact .ite (h.island fun _ hu => hu.modMir fun _ hx => shaped_powerOn hx) h

theorem Keeps.islandPowerOn (h : s.Keeps t) : s.Keeps t.islandPowerOn := by
  unfold State.islandPowerOn
  exact h.island fun _ hu => hu.record (hs := fun hs => { hs with mirA := shaped_powerOn hs.mirA, mirB := shaped_powerOn hs.mirB })

theorem Keeps.islandOff (h : s.Keeps t) : s.Keeps (State.islandOff t) := by
  unfold State.islandOff
  exact .island h (fun _ h1 => h1.modMir.modMir)

theorem Keeps.leaveBoot (h : s.Keeps t) {m : Mirror} {code : Nat} : s.Keeps (t.leaveBoot m code) := by
  unfold State.leaveBoot
  extract_lets _ t1
  have h1 : s.Keeps t1 := .ite h.diag h
  clear_value t1
  refine .ite h (.ite h.mirrorFault (.ite h.mirrorFault ?_))
  split
  · refine h1.modMir fun x hx => { hx with counts := List.length_replicate .., conns := ?_ }
    dsimp only
    split_ifs <;> simp only [hx.conns, List.length_replicate]
  · exact h1.modMir

theorem Keeps.islandBootEnd (h : s.Keeps t) {codeA : Nat} {codeB : Nat} : s.Keeps (State.islandBootEnd t codeA codeB) := by
  unfold State.islandBootEnd
  exact .island h (fun _ h1 => h1.leaveBoot.leaveBoot)

theorem shaped_writeBlock {x : MirrorSt} {b : List Byte} (h : x.Shaped) : (x.writeBlock b).Shaped :=
  { h with store := (length_upd _ _ _).trans h.store }

theorem Keeps.commitBlock (h : s.Keeps t) {b : List Byte} : s.Keeps (t.commitBlock b) := by
  unfold State.commitBlock
  extract_lets t1 t2
  have h1 : s.Keeps t1 := (h.modMir fun _ hx => shaped_writeBlock hx).modMir fun _ hx => shaped_writeBlock hx
  have h2 : s.Keeps t2 := h1.forAll fun _ _ hu => .ite hu.inputClear hu
  exact h2.islandBoot.raise

/-! ### Operations of Machine/RingOps.lean -/

theorem Keeps.ringEvent (h : s.Keeps t) {src : Nat} {sev : Severity} : s.Keeps (State.ringEvent t src sev) := by
  unfold State.ringEvent
  exact h.raise.log

theorem mode_lt_lockFld (p : Port) : R.SYS_MODE < (lockFld p).addr := by
  cases p <;> decide

theorem mode_lt_wrapFld (p : Port) : R.SYS_MODE < (wrapFld p).addr := by
  cases p <;> decide

theorem Keeps.setPortLock (h : s.Keeps t) {p : Port} {b : Bool} : s.Keeps (t.setPortLock p b) := by
  unfold State.setPortLock
  exact .ite h (.ite (h.set1 (mode_lt_lockFld p)) (h.clr (mode_lt_lockFld p)).ringEvent)

theorem Keeps.putOut (h : s.Keeps t) {p : Port} {bytes : List Byte} : s.Keeps (State.putOut t p bytes) := by
  unfold State.putOut
  split
  · exact h.modRing
  · exact h.modRing

theorem Keeps.wrapPort (h : s.Keeps t) {p : Port} : s.Keeps (t.wrapPort p) := by
  unfold State.wrapPort
  extract_lets t1
  have h1 : s.Keeps t1 := .ite h h.setPortLock
  exact .ite h1 (h1.set1 (mode_lt_wrapFld p)).ringEvent

theorem Keeps.ringUnlock (h : s.Keeps t) : s.Keeps (State.ringUnlock t) := by
  unfold State.ringUnlock
  exact .ite h.clr.modRing.void.ringEvent h

theorem Keeps.ringLockGain (h : s.Keeps t) : s.Keeps (State.ringLockGain t) := by
  unfold State.ringLockGain
  exact .ite h.set1.modRing.ringEvent h

theorem Keeps.slewCheck (h : s.Keeps t) : s.Keeps (State.slewCheck t) := by
  unfold State.slewCheck
  exact .ite h.set1.modRing h

theorem Keeps.ringLockLoss (h : s.Keeps t) : s.Keeps (State.ringLockLoss t) := by
  unfold State.ringLockLoss
  exact .ite h.ringUnlock.modRing.slewCheck h

theorem Keeps.noteLate (h : s.Keeps t) {issue : Nat} : s.Keeps (State.noteLate t issue) := by
  unfold State.noteLate
  exact .ite h.set1.void h

theorem Keeps.insertionLatch (h : s.Keeps t) : s.Keeps t.insertionLatch := by
  unfold State.insertionLatch
  split
  · refine .ite ?_ h
    exact (h.disturb (k := 3)).modRing fun _ => (List.length_map _).trans List.length_range
  · exact h

theorem Keeps.shiftThetas (h : s.Keeps t) {d : Int} : s.Keeps (State.shiftThetas t d) := by
  unfold State.shiftThetas
  exact h.modRing

theorem Keeps.fineAdjust (h : s.Keeps t) : s.Keeps (State.fineAdjust t) := by
  unfold State.fineAdjust
  exact .ite h.fineDown.shiftThetas (.ite h.fineUp.shiftThetas h)

theorem Keeps.fineZero (h : s.Keeps t) : s.Keeps (State.fineZero t) := by
  unfold State.fineZero
  exact h.modClk.shiftThetas

theorem Keeps.takePorts (h : s.Keeps t) {r : RingRound} : s.Keeps (State.takePorts t r) := by
  unfold State.takePorts
  exact h.modRing

theorem Keeps.keepMeans (h : s.Keeps t) {r : RingRound} : s.Keeps (State.keepMeans t r) := by
  unfold State.keepMeans
  exact h.modRing

theorem Keeps.discStops (h : s.Keeps t) : s.Keeps (State.discStops t) := by
  unfold State.discStops
  exact h.clr

theorem Keeps.discFollow (h : s.Keeps t) {r : RingRound} : s.Keeps (State.discFollow t r) := by
  unfold State.discFollow
  split
  · exact h.discStops
  · exact .ite h.stepTrim.set1 h.discStops

theorem Keeps.openGap (h : s.Keeps t) {k : Word} : s.Keeps (State.openGap t k) := by
  unfold State.openGap
  exact h.modRing

theorem Keeps.ringJoin (h : s.Keeps t) : s.Keeps (State.ringJoin t) := by
  unfold State.ringJoin
  exact .ite (.ite h.set1 h.put) h

theorem Keeps.allInvalid (h : s.Keeps t) : s.Keeps (State.allInvalid t) := by
  unfold State.allInvalid
  exact .forAll h (fun _ _ h1 => h1.wr)

theorem Keeps.ringListen (h : s.Keeps t) : s.Keeps (State.ringListen t) := by
  unfold State.ringListen
  exact h.ringUnlock.discStops.fineZero.put.wr.put.modRing

theorem Keeps.ringLeave (h : s.Keeps t) : s.Keeps (State.ringLeave t) := by
  unfold State.ringLeave
  exact .ite h.modRing h

theorem Keeps.setPortRun (h : s.Keeps t) {p : Port} {n : Nat} : s.Keeps (State.setPortRun t p n) := by
  unfold State.setPortRun
  extract_lets -underBinder -merge t1
  have h1 : s.Keeps t1 := by
    unfold t1
    split
    · exact h.modRing
    · exact h.modRing
  exact h1.setPortLock

theorem Keeps.portRound (h : s.Keeps t) {p : Port} {got : Bool} : s.Keeps (State.portRound t p got) := by
  unfold State.portRound
  exact .ite h.setPortRun h.modRing

theorem Keeps.portHeader (h : s.Keeps t) {p : Port} : s.Keeps (State.portHeader t p) := by
  unfold State.portHeader
  exact .ite h.modRing.setPortRun h

theorem Keeps.closePorts (h : s.Keeps t) : s.Keeps (State.closePorts t) := by
  unfold State.closePorts
  exact .foldl h.modRing (fun _ _ h1 => .ite h1.setPortRun h1)

theorem Keeps.takeTheta (h : s.Keeps t) {x : CopyTime} : s.Keeps (State.takeTheta t x) := by
  unfold State.takeTheta
  exact h.modRing.wr.wr

theorem Keeps.countRound (h : s.Keeps t) {header : Bool} : s.Keeps (State.countRound t header) := by
  unfold State.countRound
  exact h.modRing

theorem Keeps.countEmpty (h : s.Keeps t) {r : RingRound} : s.Keeps (State.countEmpty t r) := by
  unfold State.countEmpty
  exact .ite h.modRing h

theorem Keeps.endRound (h : s.Keeps t) {at_ : Nat} : s.Keeps (t.endRound at_) := by
  unfold State.endRound
  split
  · exact h
  · extract_lets t1 t2 t3 t4 t5 t6 t7 t8 t9
    have h3 : s.Keeps t3 := h.modRing.portRound.portRound.putB
    have h4 : s.Keeps t4 := by
      unfold t4
      split
      · exact h3.takeTheta.takePorts
      · exact h3
    have h5 : s.Keeps t5 := .ite h4.discFollow h4
    have h6 : s.Keeps t6 := .ite h5.fineAdjust h5
    have h8 : s.Keeps t8 := h6.keepMeans.countRound.countEmpty.slewCheck.openGap
    clear_value t8
    have h9 : s.Keeps t9 := .ite (h8.disturb (k := 2)).modRing h8
    exact .ite h9.ringJoin h9

theorem Keeps.silentRound (h : s.Keeps t) : s.Keeps (State.silentRound t) := by
  unfold State.silentRound
  split
  · exact .ite h.closePorts.modRing h
  · exact h

theorem Keeps.endByIssue (h : s.Keeps t) : s.Keeps (State.endByIssue t) := by
  unfold State.endByIssue
  split
  · exact .ite h.endRound h
  · exact h

theorem Keeps.deliverEntry (h : s.Keeps t) {r : RingRound} {k : Nat} : s.Keeps (State.deliverEntry t r k) := by
  unfold State.deliverEntry
  exact .ite (.forAll h (fun _ _ h1 => .ite h1 (by
    split
    · exact h1.wr.putBit
    · exact h1.putBit))) h

theorem Keeps.roundLate (h : s.Keeps t) {r : RingRound} : s.Keeps (State.roundLate t r) := by
  unfold State.roundLate
  extract_lets -underBinder -merge _ t1 t2
  have h1 : s.Keeps t1 := h.modRing
  have h2 : s.Keeps t2 := h1.set1.incS.ringEvent
  exact .ite h1 (.ite (.foldl h2 (fun _ _ h1 => h1.void)) h2)

theorem Keeps.deliver (h : s.Keeps t) {r : RingRound} : s.Keeps (State.deliver t r) := by
  unfold State.deliver
  extract_lets -underBinder -merge t1 t2
  have h1 : s.Keeps t1 := h.roundLate
  have h2 : s.Keeps t2 := .ite h1.allInvalid (.forAll h1 (fun _ _ h1 => h1.deliverEntry))
  exact h2.wr.raise

theorem Keeps.roundDelivery (h : s.Keeps t) : s.Keeps (State.roundDelivery t) := by
  unfold State.roundDelivery
  exact .ite (by
    extract_lets -underBinder -merge t1
    have h1 : s.Keeps t1 := h.silentRound.endByIssue
    split
    · exact h1
    · exact .ite h1.modRing.deliver h1) h

theorem Keeps.judgeGeneration (h : s.Keeps t) {x : Layout} {ms : List RingMember} : s.Keeps (State.judgeGeneration t x ms) := by
  unfold State.judgeGeneration
  exact .ite h h.log

theorem Keeps.announce (h : s.Keeps t) {roster : WordStore} {ms : List RingMember} : s.Keeps (State.announce t roster ms) := by
  unfold State.announce
  exact h.put.modRing

theorem Keeps.showLayout (h : s.Keeps t) {x : Layout} : s.Keeps (State.showLayout t x) := by
  unfold State.showLayout
  extract_lets -underBinder -merge t1 _
  have h1 : s.Keeps t1 := .ite h (.forAll h (fun _ _ h1 => h1.wr))
  exact .whenB h1.wr.put.modRing (fun _ h1 => h1.set1)

theorem Keeps.adopt (h : s.Keeps t) : s.Keeps (State.adopt t) := by
  unfold State.adopt
  exact .ite (by
    extract_lets -underBinder -merge t1
    have h1 : s.Keeps t1 := h.showLayout.ringListen
    exact .ite h1 h1.set1.ringEvent) h.showLayout

theorem Keeps.generationChange (h : s.Keeps t) : s.Keeps (State.generationChange t) := by
  unfold State.generationChange
  extract_lets -underBinder -merge _ _ t1
  have h1 : s.Keeps t1 := h.put.ringEvent
  exact .ite (.ite h1.showLayout (.ite h1.adopt h1.modRing)) h

theorem Keeps.learnGeneration (h : s.Keeps t) {g : Nat} : s.Keeps (State.learnGeneration t g) := by
  unfold State.learnGeneration
  exact .ite h h.modRing

theorem Keeps.adoptLate (h : s.Keeps t) : s.Keeps (State.adoptLate t) := by
  unfold State.adoptLate
  exact .ite h.adopt h

theorem Keeps.ringValley (h : s.Keeps t) {c : Nat} {e : Nat} : s.Keeps (State.ringValley t c e) := by
  unfold State.ringValley
  exact .ite h.modRing h

theorem Keeps.sendCopy (h : s.Keeps t) {issue : Nat} {copyB : Bool} : s.Keeps (State.sendCopy t issue copyB) := by
  unfold State.sendCopy
  exact .ite h.putOut (.ite h.putOut h)

theorem Keeps.roundIssue (h : s.Keeps t) : s.Keeps (State.roundIssue t) := by
  unfold State.roundIssue
  exact .ite h.modRing.endRound.closePorts.generationChange.noteLate.modRing.sendCopy.sendCopy.modRing h

theorem Keeps.enterRound (h : s.Keeps t) {h' : CopyHead} : s.Keeps (State.enterRound t h') := by
  unfold State.enterRound
  exact .ite h h.endRound.closePorts.modRing.generationChange

theorem Keeps.ringCrcError (h : s.Keeps t) {flag : Fld}
    (ha : R.SYS_MODE < flag.addr := by (try dsimp only) <;> (repeat' split) <;> (iterate 3 try apply Nat.lt_add_right) <;> decide) : s.Keeps (t.ringCrcError flag) := by
  unfold State.ringCrcError
  exact (h.set1 ha).incS.raise

theorem Keeps.captureSlots (h : s.Keeps t) {x : CopyHead} {b : List Byte} : s.Keeps (t.captureSlots x b) := by
  unfold State.captureSlots
  extract_lets _ _ _ t1
  have h1 : s.Keeps t1 := h.modRound
  clear_value t1
  refine h1.foldl fun u p hu => ?_
  extract_lets _ hand
  have hh : ∀ v ws ok, s.Keeps v → s.Keeps (hand v ws ok) := fun v ws ok hv => .ite (hv.modMir fun _ hx => { hx with }) hv
  split
  · exact hh _ _ _ hu.modRound
  · exact hh _ _ _ hu
  · exact hh _ _ _ hu.modRound.ringCrcError

theorem Keeps.noteTime (h : s.Keeps t) {h' : CopyHead} {p : Port} {x : CopyTime} : s.Keeps (State.noteTime t h' p x) := by
  unfold State.noteTime
  exact .ite h.modRing h.portHeader

theorem Keeps.notePass (h : s.Keeps t) {h' : CopyHead} {p : Port} {wrapped : Bool} {x : CopyTime} : s.Keeps (State.notePass t h' p wrapped x) := by
  unfold State.notePass
  extract_lets -underBinder -merge _ _ t2
  have h2 : s.Keeps t2 := h.modRound.put
  split
  · exact .ite h2.portHeader (.ite h2.endRound h2)
  · exact h2.portHeader

theorem Keeps.noteHeader (h : s.Keeps t) {h' : CopyHead} : s.Keeps (State.noteHeader t h') := by
  unfold State.noteHeader
  exact .ite (by
    extract_lets -underBinder -merge t1
    have h1 : s.Keeps t1 := .ite h.put.learnGeneration.modRing (.ite h.put h)
    exact .ite h1.put.put.learnGeneration.modRing.ringEvent h1) h

theorem Keeps.dupReeve (h : s.Keeps t) : s.Keeps (State.dupReeve t) := by
  unfold State.dupReeve
  exact h.set1.ringListen

theorem Keeps.passCopy (h : s.Keeps t) {p : Port} {b : List Byte} {frac : Nat} {res : Nat} : s.Keeps (State.passCopy t p b frac res) := by
  unfold State.passCopy
  extract_lets -underBinder -merge _ _
  split
  · extract_lets -underBinder -merge _ _ t1 _ _ t2 t3
    have h1 : s.Keeps t1 := .ite h.enterRound.noteHeader h
    have h2 : s.Keeps t2 := .ite h1.noteLate.captureSlots h1
    have h3 : s.Keeps t3 := h2.putOut
    exact .ite h3.notePass h3.noteTime

theorem Keeps.passBad (h : s.Keeps t) {p : Port} {b : List Byte} : s.Keeps (State.passBad t p b) := by
  unfold State.passBad
  extract_lets -underBinder -merge _
  split
  · exact h.ringCrcError.putOut

theorem Keeps.returnCopy (h : s.Keeps t) {p : Port} {b : List Byte} {frac : Nat} : s.Keeps (State.returnCopy t p b frac) := by
  unfold State.returnCopy
  extract_lets -underBinder -merge _ t1
  have h1 : s.Keeps t1 := .ite h.captureSlots h
  exact .ite h.dupReeve (.ite h1.notePass h.noteTime)

theorem Keeps.copyPassage (h : s.Keeps t) {p : Port} {b : List Byte} {frac : Nat} {res : Nat} : s.Keeps (State.copyPassage t p b frac res) := by
  unfold State.copyPassage
  exact .ite (.ite h.passBad (.ite h.returnCopy h.passCopy)) h

theorem Keeps.ringPut (h : s.Keeps t) {l : List (Port × RingMsg)} : s.Keeps (State.ringPut t l) := by
  unfold State.ringPut
  exact h.modRing

theorem Keeps.ringSend (h : s.Keeps t) {m : RingMsg} : s.Keeps (State.ringSend t m) := by
  unfold State.ringSend
  exact h.ringPut

theorem Keeps.ringTakes (h : s.Keeps t) {via : Arrival} {m : RingMsg} {f : State → State} (hf : ∀ u, s.Keeps u → s.Keeps (f u)) : s.Keeps (State.ringTakes t via m f) := by
  unfold State.ringTakes
  exact (hf _ h).ringPut

theorem Keeps.ringMessage (h : s.Keeps t) {via : Arrival} {f : State → State} (hf : ∀ u, s.Keeps u → s.Keeps (f u)) : s.Keeps (State.ringMessage t via f) := by
  unfold State.ringMessage
  exact .ite h (.ite ((hf _ h)) h.set1)

theorem Keeps.freshNeed (h : s.Keeps t) : s.Keeps (State.freshNeed t) := by
  unfold State.freshNeed
  exact .ite h.modRing.wr h

theorem Keeps.ringProbe (h : s.Keeps t) {p : Port} {turnaround : Nat} : s.Keeps (State.ringProbe t p turnaround) := by
  unfold State.ringProbe
  exact h.ringPut

theorem Keeps.ringEcho (h : s.Keeps t) {p : Port} {r : Nat} {u : Nat} : s.Keeps (State.ringEcho t p r u) := by
  unfold State.ringEcho
  exact .freshNeed (by
    split
    · exact h.modRing.wr
    · exact h.modRing.wr)

theorem Keeps.ringKnock (h : s.Keeps t) {m : RingMember} {pos : Nat} {streams : List Word} {rper : Nat} : s.Keeps (State.ringKnock t m pos streams rper) := by
  unfold State.ringKnock
  exact .ite h (by
    extract_lets -underBinder -merge t1 t2
    have h1 : s.Keeps t1 := h.raise
    have h2 : s.Keeps t2 := h1.modRing
    exact .ite h1 (by
      split
      · exact h2.ringSend.ringEvent
      · exact h2.announce.ringSend.ringEvent))

theorem Keeps.ringAdmit (h : s.Keeps t) {uid : Dword} {g : Nat} {at_ : Nat} : s.Keeps (State.ringAdmit t uid g at_) := by
  unfold State.ringAdmit
  exact .ite h (.ite h.timebaseStep.shiftThetas.put.put.put.learnGeneration.modRing.ringEvent.ringEvent (.ite h.put.learnGeneration.modRing h))

theorem Keeps.ringRefuse (h : s.Keeps t) {uid : Dword} {why : Nat} : s.Keeps (State.ringRefuse t uid why) := by
  unfold State.ringRefuse
  exact .ite h.put.put.set1.ringEvent h

theorem Keeps.dropMember (h : s.Keeps t) {slot : Nat} : s.Keeps (State.dropMember t slot) := by
  unfold State.dropMember
  exact .ite h.announce.judgeGeneration.ringEvent h

theorem Keeps.ringLinks (h : s.Keeps t) {slot : Nat} {dinA : Nat} {dinB : Nat} : s.Keeps (State.ringLinks t slot dinA dinB) := by
  unfold State.ringLinks
  exact .ite h.modRing.freshNeed h

theorem Keeps.ringRoster (h : s.Keeps t) {g : Nat} {first : Nat} {entries : List Word} : s.Keeps (State.ringRoster t g first entries) := by
  unfold State.ringRoster
  exact .ite h (by
    extract_lets -underBinder -merge t1 _ t2
    have h1 : s.Keeps t1 := h.learnGeneration
    have h2 : s.Keeps t2 := .ite h1.modRing h1
    exact h2.adoptLate)

theorem Keeps.liveNeed (h : s.Keeps t) {g : Nat} {need : Nat} : s.Keeps (State.liveNeed t g need) := by
  unfold State.liveNeed
  exact .ite h.modRing.wr h

theorem Keeps.ringPresent (h : s.Keeps t) {g : Nat} {half : Nat} {map : BitVec 512} {need : Nat} : s.Keeps (State.ringPresent t g half map need) := by
  unfold State.ringPresent
  exact .ite h h.learnGeneration.modRing.liveNeed.adoptLate

theorem Keeps.memberLost (h : s.Keeps t) {slot : Nat} : s.Keeps (State.memberLost t slot) := by
  unfold State.memberLost
  split
  · exact .ite h.dropMember h
  · exact h

theorem Keeps.ringFresh (h : s.Keeps t) : s.Keeps (t.modRing Ring.fresh) := h.modRing fun _ => List.length_replicate ..

theorem Keeps.becomeReeve (h : s.Keeps t) : s.Keeps t.becomeReeve := by
  unfold State.becomeReeve
  exact h.fineZero.put.wr.ringFresh.modRing.showLayout.judgeGeneration

theorem Keeps.standbyTakeover (h : s.Keeps t) : s.Keeps (State.standbyTakeover t) := by
  unfold State.standbyTakeover
  exact .ite h.ringUnlock.discStops.fineZero.put.wr.modRing.showLayout.judgeGeneration.ringEvent.ringEvent h

theorem Keeps.ringOff (h : s.Keeps t) : s.Keeps t.ringOff := by
  unfold State.ringOff
  exact h.ringUnlock.discStops.fineZero.setPortLock.setPortLock.wr.wr.ringFresh

theorem Keeps.portOff (h : s.Keeps t) {p : Port} : s.Keeps (t.portOff p) := by
  unfold State.portOff
  refine .ite h ?_
  extract_lets t1
  have h1 : s.Keeps t1 := h.setPortLock.clr (mode_lt_wrapFld p)
  split
  · exact h1.modRing
  · exact h1.modRing

theorem Keeps.ringPorts (h : s.Keeps t) : s.Keeps t.ringPorts := by
  unfold State.ringPorts
  extract_lets t1
  have h1 : s.Keeps t1 := h.portOff.portOff
  exact .ite (.ite h1 h1.ringOff) (.ite h1 (.ite h1.becomeReeve h1.put.ringFresh))

theorem Keeps.wrapLost (h : s.Keeps t) {p : Port} : s.Keeps (State.wrapLost t p) := by
  unfold State.wrapLost
  exact .ite h.wrapPort h

theorem Keeps.wrapHeld (h : s.Keeps t) : s.Keeps (State.wrapHeld t) := by
  unfold State.wrapHeld
  exact h.wrapLost.wrapLost

theorem Keeps.portEnables (h : s.Keeps t) {want : Nat} : s.Keeps (State.portEnables t want) := by
  unfold State.portEnables
  extract_lets -underBinder -merge _ _ t1
  have h1 : s.Keeps t1 := .ite h.set1.put.ringPorts h.put.ringPorts
  exact h1.wrapHeld

theorem Keeps.ringCtrl (h : s.Keeps t) {v : Word} : s.Keeps (State.ringCtrl t v) := by
  unfold State.ringCtrl
  extract_lets -underBinder -merge _ _ t3
  have h3 : s.Keeps t3 := .whenB (.whenB h.portEnables (fun _ h1 => h1.ringJoin)) (fun _ h1 => h1.ringLeave)
  exact .whenB h3 (fun _ h1 => h1.set1)

theorem Keeps.loadLatch (h : s.Keeps t) {w : Nat} {v : Word} : s.Keeps (State.loadLatch t w v) := by
  unfold State.loadLatch
  exact h.wr

theorem Keeps.portLoss (h : s.Keeps t) {p : Port} {c : PortLoss} {on : Bool} : s.Keeps (State.portLoss t p c on) := by
  unfold State.portLoss
  extract_lets -underBinder -merge _ _ _ t1
  have h1 : s.Keeps t1 := by
    unfold t1
    split
    · exact h.modRing
    · exact h.modRing
  exact h1.wrapLost

theorem Keeps.unwrap (h : s.Keeps t) {p : Port} : s.Keeps (t.unwrap p) := by
  unfold State.unwrap
  exact .ite (h.clr (mode_lt_wrapFld p)).ringEvent h

theorem Keeps.ringClockFail (h : s.Keeps t) : s.Keeps (State.ringClockFail t) := by
  unfold State.ringClockFail
  exact h.ringUnlock.discStops.modRing

theorem Keeps.knockAbandoned (h : s.Keeps t) : s.Keeps (State.knockAbandoned t) := by
  unfold State.knockAbandoned
  exact .ite h.put.set1 h

/-! ### Operations of Machine/ShfOps.lean -/

theorem Keeps.emuLag (h : s.Keeps t) : s.Keeps (State.emuLag t) := by
  unfold State.emuLag
  exact .ite h.set1 h

theorem Keeps.emuStart (h : s.Keeps t) : s.Keeps (State.emuStart t) := by
  unfold State.emuStart
  exact .ite h.put.modShf h

theorem Keeps.emuStep (h : s.Keeps t) : s.Keeps t.emuStep := by
  unfold State.emuStep
  refine .ite ?_ h
  extract_lets _ _ t1
  have h1 : s.Keeps t1 := h.put
  clear_value t1
  exact h1.modShf

theorem Keeps.movePos (h : s.Keeps t) {n : Nat} {d : Int} : s.Keeps (State.movePos t n d) := by
  unfold State.movePos
  extract_lets -underBinder -merge _ _ t1
  have h1 : s.Keeps t1 := h.put
  exact .ite h1.modEnc (.ite h1.modEnc h1)

theorem Keeps.encTrip (h : s.Keeps t) {n : Nat} : s.Keeps (State.encTrip t n) := by
  unfold State.encTrip
  exact h.set1.raise

theorem Keeps.encStep (h : s.Keeps t) {n : Nat} {qb : Bool} : s.Keeps (State.encStep t n qb) := by
  unfold State.encStep
  extract_lets -underBinder -merge _ _ t1 _ _ _ _
  have h1 : s.Keeps t1 := h.modEnc
  exact .ite h (.ite h1.movePos.modEnc.clr h1)

theorem Keeps.encIllegal (h : s.Keeps t) {n : Nat} : s.Keeps (State.encIllegal t n) := by
  unfold State.encIllegal
  extract_lets -underBinder -merge _ t1 _ t3 _
  have h1 : s.Keeps t1 := h.modEnc
  have h3 : s.Keeps t3 := h1.set1.incS.raise.modEnc
  exact .ite h (.ite (.ite h3.encTrip h3) h1)

theorem Keeps.encIndex (h : s.Keeps t) {n : Nat} : s.Keeps (State.encIndex t n) := by
  unfold State.encIndex
  exact .ite h (by
    extract_lets -underBinder -merge t1 t2 _ _ _ t4
    have h1 : s.Keeps t1 := h.modEnc
    have h2 : s.Keeps t2 := h1.raise
    have h4 : s.Keeps t4 := h2.put.set1.incS.raise
    exact .ite (.ite h2.put.set1 (.ite h2 (by
      split
      · exact h4
      · exact h4.movePos
      · exact h4.encTrip))) h1)

theorem Keeps.encRelatch (h : s.Keeps t) {n : Nat} : s.Keeps (State.encRelatch t n) := by
  unfold State.encRelatch
  exact .ite h.wr.modEnc h

theorem Keeps.ssiStart (h : s.Keeps t) {n : Nat} : s.Keeps (State.ssiStart t n) := by
  unfold State.ssiStart
  exact .ite (.ite h.set1.encRelatch h.modEnc) h

theorem Keeps.ssiTake (h : s.Keeps t) {n : Nat} {v : Nat} {stamp : Nat} : s.Keeps (State.ssiTake t n v stamp) := by
  unfold State.ssiTake
  extract_lets -underBinder -merge _ _ _ t2
  have h2 : s.Keeps t2 := h.put.modEnc
  exact .ite h2 h2.clr.encRelatch

theorem Keeps.ssiDone (h : s.Keeps t) {n : Nat} {data : Word} {parity : Bool} {idleHigh : Bool} : s.Keeps (State.ssiDone t n data parity idleHigh) := by
  unfold State.ssiDone
  split
  · exact h
  · exact .ite (by
    extract_lets -underBinder -merge _ _ _ _ t1
    have h1 : s.Keeps t1 := h.modEnc
    exact .ite h1.set1.encRelatch h1.ssiTake) h

theorem Keeps.encLatch (h : s.Keeps t) {n : Nat} : s.Keeps (State.encLatch t n) := by
  unfold State.encLatch
  exact h.wr.wr.wr.wr.modEnc

theorem Keeps.shfValley (h : s.Keeps t) {c : Nat} : s.Keeps (State.shfValley t c) := by
  unfold State.shfValley
  exact .forAll h (fun _ _ h1 => .ite h1.encLatch.ssiStart h1)

theorem Keeps.shfDeposit (h : s.Keeps t) {n : Nat} : s.Keeps (t.shfDeposit n) := by
  unfold State.shfDeposit
  split
  · exact h
  · refine .ite ?_ h
    extract_lets t1 _ words t2
    have h1 : s.Keeps t1 := h.modEnc
    clear_value t1
    have h2 : s.Keeps t2 := h1.modMill (hm := fun hc => { hc with dmem := cellWf_wordSetAll _ _ _ hc.dmem })
    clear_value t2
    exact .ite h2.record h1

theorem Keeps.encStill (h : s.Keeps t) {n : Nat} : s.Keeps (State.encStill t n) := by
  unfold State.encStill
  extract_lets -underBinder -merge _ t1
  have h1 : s.Keeps t1 := h.modEnc.set1.encRelatch
  exact .ite (.ite h1.wr h1) h

theorem Keeps.encStart (h : s.Keeps t) {n : Nat} : s.Keeps (State.encStart t n) := by
  unfold State.encStart
  exact h.modEnc.wr.clr.clr

theorem Keeps.depositCheck (h : s.Keeps t) {n : Nat} : s.Keeps (State.depositCheck t n) := by
  unfold State.depositCheck
  exact h.putB

theorem Keeps.applyShf (h : s.Keeps t) : s.Keeps (State.applyShf t) := by
  unfold State.applyShf
  exact .forAll h.modShf (fun _ _ h1 => .ite (.ite h1.encStart.depositCheck h1.modEnc) h1)

theorem Keeps.encResume (h : s.Keeps t) {n : Nat} : s.Keeps (State.encResume t n) := by
  unfold State.encResume
  exact h.modEnc

theorem Keeps.encRestart (h : s.Keeps t) : s.Keeps t.encRestart := by
  unfold State.encRestart
  refine .emuStart (h.forAll fun n u hu => ?_)
  extract_lets t1
  have h1 : s.Keeps t1 := hu.encResume
  exact .ite h1.encStart h1

/-! ### Operations of Machine/Modes.lean -/

theorem Keeps.coreStops (h : s.Keeps t) : s.Keeps t.coreStops := by
  unfold State.coreStops
  extract_lets -underBinder t1 t2 t3 t4 t5
  have h2 : s.Keeps t2 := h.millStop.forAll fun _ _ hu => hu.restLeg.clearCarries
  have h3 : s.Keeps t3 := h2.forAll fun _ _ hu => .ite hu hu.putB.abandonWindows
  have h4 : s.Keeps t4 := h3.forAll fun _ _ hu => hu.epoRest
  clear_value t4
  have h5 : s.Keeps t5 := h4.modAcq
  clear_value t5
  exact h5.record

theorem Keeps.convStarts (h : s.Keeps t) : s.Keeps t.convStarts := by
  unfold State.convStarts
  extract_lets t1 t2
  have h1 : s.Keeps t1 := h.clr
  have h2 : s.Keeps t2 := .ite h1 h1.put
  clear_value t2
  exact h2.modAcq fun ha => { ha with slices := List.length_replicate .. }

theorem Keeps.observersStart (h : s.Keeps t) : s.Keeps t.observersStart := by
  unfold State.observersStart
  extract_lets -underBinder t1 t2 t3
  have h1 : s.Keeps t1 := h.modPrism fun hp => ⟨(List.length_map _).trans hp.wins, List.length_replicate ..⟩
  have h2 : s.Keeps t2 := h1.modWvn
  have h3 : s.Keeps t3 := h2.forAll fun _ _ hu => .ite hu.setStart hu
  exact h3.forAll fun _ _ hu => .ite hu.mppStart hu

theorem Keeps.coreReturns (h : s.Keeps t) : s.Keeps (State.coreReturns t) := by
  unfold State.coreReturns
  extract_lets -underBinder -merge t1 _
  have h1 : s.Keeps t1 := .forAll h (fun _ _ h1 => .ite h1.modCar h1)
  exact .forAll h1.convStarts.observersStart.encRestart (fun _ _ h1 => h1.modWin)

theorem Keeps.leaveService (h : s.Keeps t) : s.Keeps (State.leaveService t) := by
  unfold State.leaveService
  exact .clr (.forAll h (fun _ _ h1 => h1.clr))

theorem Keeps.recordMode (h : s.Keeps t) {was dest : Mode} {cause : Nat} {byCommand : Bool} : s.Keeps (t.recordMode was dest cause byCommand) := by
  unfold State.recordMode
  extract_lets t1 t2
  have h1 : s.Keeps t1 := .putAbove (.putMode h.putAbove dest)
  have h2 : s.Keeps t2 := h1.raise.log
  exact .ite h2 h2.attend

theorem Keeps.holdBegins (h : s.Keeps t) : s.Keeps (State.holdBegins t) := by
  unfold State.holdBegins
  exact h.putB.modSys

theorem Keeps.enterMode (h : s.Keeps t) {dest : Mode} {cause : Nat} {byCommand : Bool} : s.Keeps (t.enterMode dest cause byCommand) := by
  unfold State.enterMode
  extract_lets _ t1 t2 t3 t4 t5 t6 t7 t8 t9 t10
  have h1 : s.Keeps t1 := .ite h.leaveService h
  have h2 : s.Keeps t2 := .ite (h1.forAll fun _ _ hu => hu.restLeg.clearCarries) h1
  have h3 : s.Keeps t3 := by
    unfold t3
    split
    · exact h2.coreStops
    · exact h2.millStop
    · exact h2
  have h4 : s.Keeps t4 := h3.putMode dest
  have h5 : s.Keeps t5 := .ite h4.coreReturns h4
  have h7 : s.Keeps t7 := h5.putB.recordMode
  have h8 : s.Keeps t8 := .ite h7.holdBegins h7
  have h9 : s.Keeps t9 := h8.gdRefreshAll.brkStepAll
  have h10 : s.Keeps t10 := .ite h9.wrapHeld h9
  exact .ite h10.knockAbandoned h10

theorem Keeps.limp (h : s.Keeps t) {cause : Nat} : s.Keeps (t.limp cause) := by
  unfold State.limp
  exact .ite (.enterMode (.ite h h.putAbove)) h

theorem Keeps.limpIf (h : s.Keeps t) : s.Keeps (State.limpIf t) := by
  unfold State.limpIf
  exact .ite h.modSafe.limp h

theorem cellGet_filter {α : Type} (d : Nat → α) (m : List (Nat × α)) (f : Nat → Bool) (a : Nat) :
    cellGet d (m.filter fun p => f p.1) a = if f a then cellGet d m a else d a := by
  induction m with
  | nil => simp [cellGet]
  | cons p m ih =>
    obtain ⟨k, w⟩ := p
    by_cases hk : k = a
    · subst hk
      by_cases hf : f k <;> simp [cellGet, hf, ih]
    · by_cases hf : f k <;> simp [cellGet, hf, hk, ih]

/-- Every leg of a fresh Loom has its outputs off. -/
theorem legsApart_fresh (h : t.loom = {}) : t.legsApart := by
  intro l
  have e : nth (List.replicate 24 ({} : LegSt)) l {} = {} := by
    unfold nth
    rw [List.getD_eq_getElem?_getD, List.getElem?_replicate]
    split <;> rfl
  rw [leg, h]
  exact (congrArg LegSt.apart e).mpr fun ha => absurd ha.1 (by decide)

theorem shaped_mirror : MirrorSt.Shaped {} := ⟨rfl, rfl, rfl, rfl, rfl, rfl, rfl, rfl, rfl, rfl⟩

theorem shaped_reset : State.reset.Shaped :=
  ⟨rfl, rfl, rfl, rfl, rfl, rfl, rfl, rfl, rfl, rfl, rfl, rfl, rfl, rfl, rfl, rfl, rfl, rfl, rfl, rfl, rfl, rfl, rfl, rfl, rfl, rfl, rfl,
    rfl, rfl, rfl, rfl, rfl, rfl, rfl, rfl, shaped_mirror, shaped_mirror, rfl⟩

theorem Keeps.afterReset (h : s.Keeps t) {island : Bool} : s.Keeps (t.afterReset island) := by
  unfold State.afterReset
  extract_lets -underBinder _ t1
  have h1 : s.Keeps t1 := by
    refine h.trans ⟨rfl, fun hm => ?_, fun _ => legsApart_fresh rfl, fun hs => ?_, fun hc => ?_⟩
    · have e := cellGet_filter regReset t.regs (fun a => keptReg a || (island && blockIndex a == 12)) R.SYS_MODE
      rw [modeLegal, get, rd, e, if_neg (by cases island <;> decide)]
      decide
    · cases island with
      | true => exact { shaped_reset with wakes := hs.wakes, mirA := hs.mirA, mirB := hs.mirB, keys := hs.keys }
      | false =>
        exact { shaped_reset with
          wakes := hs.wakes, keys := hs.keys
          mirA := { shaped_reset.mirA with hist := hs.mirA.hist, store := hs.mirA.store }
          mirB := { shaped_reset.mirB with hist := hs.mirB.hist, store := hs.mirB.store } }
    · exact ⟨cellWf_filter _ _ _ _ hc.regs, rfl, hc.mram, rfl, rfl, rfl⟩
  exact h1.clr

theorem Keeps.startBoot (h : s.Keeps t) {cause : Nat} {wake : Nat} {island : Bool} : s.Keeps (State.startBoot t cause wake island) := by
  unfold State.startBoot
  extract_lets -underBinder -merge t1
  have h1 : s.Keeps t1 := h.afterReset.put.put
  exact .ite h1 h1.islandPowerOn

theorem Keeps.systemReset (h : s.Keeps t) {cause : Nat} : s.Keeps (State.systemReset t cause) := by
  unfold State.systemReset
  exact .ite h h.startBoot

theorem Keeps.powerDown (h : s.Keeps t) : s.Keeps t.powerDown := by
  unfold State.powerDown
  exact (h.afterReset.putMode .keep).modSys

theorem Keeps.enterKeep (h : s.Keeps t) {cause : Nat} : s.Keeps (State.enterKeep t cause) := by
  unfold State.enterKeep
  exact h.recordMode.powerDown

theorem Keeps.keepWake (h : s.Keeps t) {source : Nat} : s.Keeps (State.keepWake t source) := by
  unfold State.keepWake
  exact .ite h.startBoot h

theorem Keeps.brownOut (h : s.Keeps t) {vbak : Bool} : s.Keeps (State.brownOut t vbak) := by
  unfold State.brownOut
  extract_lets -underBinder -merge t1 t2
  have h1 : s.Keeps t1 := .ite h h.powerDown
  have h2 : s.Keeps t2 := h1.wr.modSys
  exact .ite h2 h2.modSys

theorem Keeps.keepContentLost (h : s.Keeps t) : s.Keeps t.keepContentLost := by
  unfold State.keepContentLost
  extract_lets _ _ t1
  have h1 : s.Keeps t1 := h.trans ⟨rfl, fun hm => by
      rw [modeLegal, get, rd, cellGet_filter regReset t.regs (fun a => a == R.SYS_MODE)]
      exact hm,
    id, fun hs => { hs with wakes := rfl }, fun hc => { hc with regs := cellWf_filter _ _ _ _ hc.regs }⟩
  exact h1.modSys

theorem Keeps.vbakLoss (h : s.Keeps t) : s.Keeps (State.vbakLoss t) := by
  unfold State.vbakLoss
  extract_lets -underBinder -merge t1
  have h1 : s.Keeps t1 := h.clr
  exact .ite h1.keepContentLost h1

theorem Keeps.supplyReturn (h : s.Keeps t) : s.Keeps (State.supplyReturn t) := by
  unfold State.supplyReturn
  exact .ite (.ite h.keepContentLost.startBoot h.startBoot) h

theorem Keeps.policyShow (h : s.Keeps t) : s.Keeps (State.policyShow t) := by
  unfold State.policyShow
  exact h.put.put.putB

theorem Keeps.wake (h : s.Keeps t) {byCommand : Bool} : s.Keeps (State.wake t byCommand) := by
  unfold State.wake
  exact .ite h.enterMode h

theorem Keeps.policy (h : s.Keeps t) : s.Keeps (State.policy t) := by
  unfold State.policy
  exact .ite h (by
    split
    · exact h
    · exact .ite h (.ite h.enterKeep h.enterMode)
    · exact h.wake
    · exact h.enterKeep
    · exact h)

theorem Keeps.policyAfter (h : s.Keeps t) {f : State → State} (hf : ∀ u, s.Keeps u → s.Keeps (f u)) : s.Keeps (State.policyAfter t f) := by
  unfold State.policyAfter
  extract_lets -underBinder -merge t1
  have h1 : s.Keeps t1 := (hf _ h)
  exact .ite h1.modSys.policy h1

theorem Keeps.policyFor (h : s.Keeps t) {a : Nat} {f : State → State} (hf : ∀ u, s.Keeps u → s.Keeps (f u)) : s.Keeps (State.policyFor t a f) := by
  unfold State.policyFor
  exact .ite (.policyAfter h (fun _ h1 => (hf _ h1))) ((hf _ h))

theorem Keeps.holdEnds (h : s.Keeps t) : s.Keeps (State.holdEnds t) := by
  unfold State.holdEnds
  exact .ite h.clr.policy h

theorem Keeps.writeLtr (h : s.Keeps t) {v : Word} : s.Keeps (State.writeLtr t v) := by
  unfold State.writeLtr
  exact h.wr.modSys

theorem Keeps.modeSet (h : s.Keeps t) {dest : Mode} : s.Keeps (State.modeSet t dest) := by
  unfold State.modeSet
  exact .ite h (.ite h.wake h.enterMode)

theorem Keeps.clockFails' (h : s.Keeps t) : s.Keeps (State.clockFails' t) := by
  unfold State.clockFails'
  extract_lets -underBinder -merge t1 t2 t3
  have h1 : s.Keeps t1 := h.blockLegs.modClk
  have h2 : s.Keeps t2 := h1.log
  have h3 : s.Keeps t3 := .ite h2 (.ite h2.finalAsk h2.set1)
  exact .ite h3.ringClockFail.limp h1

theorem Keeps.refLost (h : s.Keeps t) : s.Keeps (State.refLost t) := by
  unfold State.refLost
  exact .ite h (h.set1.clr.clr.modClk.clockFails')

theorem Keeps.syn0Lost (h : s.Keeps t) : s.Keeps (State.syn0Lost t) := by
  unfold State.syn0Lost
  exact .ite h (h.set1.clr.clockFails')

theorem Keeps.syn1Lost (h : s.Keeps t) : s.Keeps (State.syn1Lost t) := by
  unfold State.syn1Lost
  exact .ite h (by
    extract_lets -underBinder -merge t1
    have h1 : s.Keeps t1 := h.set1.clr.modClk
    exact .ite h1.log h1)

theorem Keeps.syn0Lock (h : s.Keeps t) : s.Keeps (State.syn0Lock t) := by
  unfold State.syn0Lock
  exact .ite h h.set1

theorem Keeps.syn1Lock (h : s.Keeps t) : s.Keeps (State.syn1Lock t) := by
  unfold State.syn1Lock
  exact .ite h h.set1

theorem Keeps.logPfail (h : s.Keeps t) {n : Nat} : s.Keeps (State.logPfail t n) := by
  unfold State.logPfail
  exact h.log

theorem Keeps.pfailAssert (h : s.Keeps t) : s.Keeps (State.pfailAssert t) := by
  unfold State.pfailAssert
  exact .ite h (by
    extract_lets -underBinder -merge t1 t2 t3
    have h1 : s.Keeps t1 := h.set1.set1
    have h2 : s.Keeps t2 := .ite h1.finalAsk h1
    have h3 : s.Keeps t3 := h2.logPfail
    exact .ite h1 (.ite h3.enterMode h3))

theorem Keeps.pfailDeassert (h : s.Keeps t) : s.Keeps (State.pfailDeassert t) := by
  unfold State.pfailDeassert
  exact .ite h (by
    extract_lets -underBinder -merge t1
    have h1 : s.Keeps t1 := h.clr
    exact .ite h1 h1.journalAsk.logPfail)

theorem Keeps.logUnnamed (h : s.Keeps t) {kind : Nat} : s.Keeps (State.logUnnamed t kind) := by
  unfold State.logUnnamed
  exact h.log

theorem Keeps.alarm (h : s.Keeps t) : s.Keeps (State.alarm t) := by
  unfold State.alarm
  exact .ite (by
    extract_lets -underBinder -merge t1
    have h1 : s.Keeps t1 := h.update
    split
    · exact h1.keepWake
    · exact .ite h1.wake h1.logUnnamed
    · exact h1) h

theorem Keeps.wakeSample (h : s.Keeps t) {n : Nat} {mv : Int} : s.Keeps (t.wakeSample n mv) := by
  unfold State.wakeSample
  refine .ite ?_ h
  extract_lets -underBinder _ _ _ _ _ _ _ t1
  have h1 : s.Keeps t1 := h.record (hs := fun hs => { hs with wakes := (length_upd _ _ _).trans hs.wakes })
  clear_value t1
  exact .ite (.ite (.ite h1 h1.set1.keepWake) (.ite h1 (h1.set1.whenB fun _ hu => hu.logUnnamed))) h1.clr

/-! ### Operations of Machine/EvtOps.lean -/

theorem Keeps.dmaGrant (h : s.Keeps t) {n : Nat} : s.Keeps (t.dmaGrant n) := by
  unfold State.dmaGrant
  exact (h.disturb (k := 4)).modDma

theorem Keeps.dmaHold (h : s.Keeps t) {n : Nat} : s.Keeps (t.dmaHold n) := by
  unfold State.dmaHold
  exact (h.disturb (k := 4)).modDma

theorem Keeps.dmaTrigger (h : s.Keeps t) {n : Nat} : s.Keeps (State.dmaTrigger t n) := by
  unfold State.dmaTrigger
  exact .ite (by
    extract_lets -underBinder -merge t1
    have h1 : s.Keeps t1 := h.modDma
    exact .ite h1.set1 h1.modDma.dmaGrant.dmaHold) h

theorem Keeps.dmaDrop (h : s.Keeps t) {n : Nat} : s.Keeps (State.dmaDrop t n) := by
  unfold State.dmaDrop
  exact h.modDma.clr

theorem Keeps.dmaAbort (h : s.Keeps t) {n : Nat} : s.Keeps (State.dmaAbort t n) := by
  unfold State.dmaAbort
  split
  · exact .ite h.modDma h.dmaDrop
  · exact h.dmaDrop

theorem Keeps.dmaEnd (h : s.Keeps t) {n : Nat} : s.Keeps (State.dmaEnd t n) := by
  unfold State.dmaEnd
  exact h.modDma.update

theorem Keeps.dmaCfg (h : s.Keeps t) {n : Nat} {v : Word} : s.Keeps (State.dmaCfg t n v) := by
  unfold State.dmaCfg
  exact .ite (.ite h h.dmaAbort) h.storePlain

theorem Keeps.dmaCtrl (h : s.Keeps t) {n : Nat} {v : Word} : s.Keeps (State.dmaCtrl t n v) := by
  unfold State.dmaCtrl
  exact .whenB (.whenB h (fun _ h1 => h1.dmaTrigger)) (fun _ h1 => h1.dmaAbort)

theorem Keeps.dmaAddr (h : s.Keeps t) {n : Nat} {a : Nat} {v : Word} : s.Keeps (State.dmaAddr t n a v) := by
  unfold State.dmaAddr
  exact .ite h h.storePlain

theorem Keeps.gdEvent (h : s.Keeps t) {n : Nat} {on : Bool} : s.Keeps (State.gdEvent t n on) := by
  unfold State.gdEvent
  exact h.modGd.gdRefresh

theorem Keeps.sink (h : s.Keeps t) {e : Raised} {k : Nat} : s.Keeps (State.sink t e k) := by
  unfold State.sink
  exact .ite h.capture (.ite h.requestSwap (.ite h.tlAct (.ite h.gdEvent (.ite h.gdEvent (.ite (.ite h.dmaTrigger h) (.ite h.askSnapshot h))))))

theorem Keeps.eventDelivery (h : s.Keeps t) : s.Keeps (State.eventDelivery t) := by
  unfold State.eventDelivery
  split
  · exact h
  · exact .ite (.foldl h.record (fun _ _ h1 => h1.sink)) h

theorem Keeps.evtForce (h : s.Keeps t) {v : Word} : s.Keeps (State.evtForce t v) := by
  unfold State.evtForce
  exact .ite h.record h

theorem Keeps.pertCtrl (h : s.Keeps t) {v : Word} : s.Keeps (t.pertCtrl v) := by
  unfold State.pertCtrl
  refine .ite ?_ h.storePlain
  extract_lets t1
  have h1 : s.Keeps t1 := h.storePlain
  clear_value t1
  exact .ite (h1.record (hs := fun hs => { hs with lfsr := (List.length_map _).trans List.length_range })) h1

theorem cellWf_wordsIn (m : Memory) (base n : Nat) : cellWf (fun _ => (0 : Word)) 0 (wordsIn m base n) = true := by
  suffices h : ∀ (l : Memory) (ws : WordStore), cellWf (fun _ => (0 : Word)) 0 ws = true → cellWf (fun _ => (0 : Word)) 0
      (l.foldl (fun ws c => wordSet ws ((c.1 - base) / 4)
        (wordGet ws ((c.1 - base) / 4) ||| BitVec.ofNat 32 (c.2.toNat * 2 ^ (8 * ((c.1 - base) % 4))))) ws) = true from h _ [] rfl
  intro l
  induction l with
  | nil => exact fun _ h => h
  | cons c l ih => exact fun ws h => ih _ (cellWf_cellSet _ _ _ _ _ (Nat.zero_le _) h)

theorem Keeps.dmemReload (h : s.Keeps t) : s.Keeps t.dmemReload := by
  unfold State.dmemReload
  refine h.modMill (hm := fun hc => { hc with dmem := ?_ })
  dsimp only
  split
  · rfl
  · exact cellWf_wordsIn ..

theorem Keeps.rplStart (h : s.Keeps t) : s.Keeps (State.rplStart t) := by
  unfold State.rplStart
  split
  · exact h.put
  · exact .ite (by
    extract_lets -underBinder -merge _ _ t3 t4
    have h3 : s.Keeps t3 := .forAll h.clr.clr.set1.wr.dmemReload (fun _ _ h1 => h1.setStart)
    have h4 : s.Keeps t4 := .forAll h3.modGrn (fun _ _ h1 => h1.wr.wr)
    exact h4.modTst) h

theorem Keeps.rplCtrl (h : s.Keeps t) {v : Word} : s.Keeps (State.rplCtrl t v) := by
  unfold State.rplCtrl
  extract_lets -underBinder -merge t1
  have h1 : s.Keeps t1 := .whenB h.storePlain (fun _ h1 => h1.rplStart)
  exact .ite (by
    split
    · exact h1
    · exact h1.modTst.clr
    · exact h1.modTst.clr
    · exact h1.modTst) h1

/-! ### Operations of Machine/Hooks.lean -/

theorem Keeps.enWritten (h : s.Keeps t) {i : Nat} : s.Keeps (State.enWritten t i) := by
  unfold State.enWritten
  exact h.record

theorem Keeps.hookSys (h : s.Keeps t) {a : Nat} {v : Word} : s.Keeps (State.hookSys t a v) := by
  unfold State.hookSys
  exact .ite h.writeLtr h.storePlain

theorem Keeps.discWrite (h : s.Keeps t) {v : Word} : s.Keeps (State.discWrite t v) := by
  unfold State.discWrite
  extract_lets -underBinder -merge t1
  have h1 : s.Keeps t1 := h.storePlain
  exact .ite h1.clr h1

theorem Keeps.hookClk (h : s.Keeps t) {a : Nat} {v : Word} : s.Keeps (State.hookClk t a v) := by
  unfold State.hookClk
  exact .ite h.synLockWrite (.ite h.trimWrite (.ite h.discWrite (.ite h.sscWrite (.ite h.sscWrite (.ite h.rampWrite (.ite h.rtcHold (.ite h.rtcLoad (by
    split
    · exact h.cmpHold
    · exact h.cmpLoad
    · exact h.cmpCtrl
    · exact h.storePlain))))))))

theorem Keeps.acqCtrl (h : s.Keeps t) {v : Word} : s.Keeps (State.acqCtrl t v) := by
  unfold State.acqCtrl
  extract_lets -underBinder -merge t1
  have h1 : s.Keeps t1 := h.storePlain
  exact .ite h1.modAcq (.ite h1 h1.modAcq)

theorem Keeps.acqSpare (h : s.Keeps t) {v : Word} : s.Keeps (State.acqSpare t v) := by
  unfold State.acqSpare
  extract_lets -underBinder -merge t1
  have h1 : s.Keeps t1 := h.storePlain
  exact .ite h1.spareTo h1

theorem Keeps.hookAcq (h : s.Keeps t) {a : Nat} {v : Word} : s.Keeps (State.hookAcq t a v) := by
  unfold State.hookAcq
  exact .ite h.acqCtrl (.ite h.acqSpare h.storePlain)

theorem Keeps.hookPrism (h : s.Keeps t) {a : Nat} {v : Word} : s.Keeps (State.hookPrism t a v) := by
  unfold State.hookPrism
  extract_lets -underBinder -merge t1
  have h1 : s.Keeps t1 := h.storePlain
  exact .ite h1.enWritten (.ite h1.snapshot h1)

theorem Keeps.hookWvn (h : s.Keeps t) {a : Nat} {v : Word} : s.Keeps (State.hookWvn t a v) := by
  unfold State.hookWvn
  extract_lets -underBinder -merge t1
  have h1 : s.Keeps t1 := h.storePlain
  exact .ite h1.enWritten (by
    split
    · exact .whenB h1 (fun _ h1 => h1.islandClear)
    · exact .whenB h1 (fun _ h1 => h1.resync)
    · extract_lets -underBinder -merge t2
      have h2 : s.Keeps t2 := .whenB h1 (fun _ h1 => h1.frtClear)
      exact .ite h2.frtTo h2
    · exact .whenB h1 (fun _ h1 => h1.modMpp)
    · exact h1)

theorem Keeps.hookMill (h : s.Keeps t) {a : Nat} {v : Word} : s.Keeps (State.hookMill t a v) := by
  unfold State.hookMill
  exact .ite h.storePlain.enWritten (by
    split
    · exact h.taskCtrl
    · exact h.storePlain)

theorem Keeps.carCtrl (h : s.Keeps t) {c : Nat} {v : Word} : s.Keeps (State.carCtrl t c v) := by
  unfold State.carCtrl
  extract_lets -underBinder -merge t1 t2
  have h1 : s.Keeps t1 := h.storePlain
  have h2 : s.Keeps t2 := .ite h1 h1.followLegs
  exact .ite (.ite h2.put.modCar h2) (.ite h2.put h2)

theorem Keeps.legCfg (h : s.Keeps t) {l : Nat} {v : Word} : s.Keeps (t.legCfg l v) := by
  unfold State.legCfg
  extract_lets t1
  have h1 : s.Keeps t1 := h.storePlain
  refine .ite (h1.setOuts fun ha ho => ha ?_) h1.restLeg
  simp only [Bool.and_eq_true] at ho
  exact ⟨ho.1.1, ho.2.1⟩

theorem Keeps.hookLoom (h : s.Keeps t) {a : Nat} {v : Word} : s.Keeps (State.hookLoom t a v) := by
  unfold State.hookLoom
  exact .ite h.unblock (by
    split
    · exact h.carCtrl
    · exact h.loadShadow
    · exact h.loadShadow
    · split
      · exact h.keepOld.storePlain
      · exact h.keepOld.storePlain
      · exact h.legCfg
      · exact h.storePlain)

theorem Keeps.fltPins (h : s.Keeps t) : s.Keeps (State.fltPins t) := by
  unfold State.fltPins
  exact .forAll h (fun _ _ h1 => .ite h1.fltLatch h1)

theorem Keeps.fltPol (h : s.Keeps t) {v : Word} : s.Keeps (State.fltPol t v) := by
  unfold State.fltPol
  exact h.storePlain.wr.fltPins

theorem Keeps.gdStat (h : s.Keeps t) {n : Nat} {v : Word} : s.Keeps (t.gdStat n v) := by
  unfold State.gdStat
  extract_lets clears t1 t2 t3
  have h1 : s.Keeps t1 := .ite h.clr h
  have h2 : s.Keeps t2 := .ite h1.clr h1
  have h3 : s.Keeps t3 := .ite h2.clr h2
  exact h3.gdSummary.gdRefresh

theorem Keeps.vtripLevel (h : s.Keeps t) {n : Nat} : s.Keeps (State.vtripLevel t n) := by
  unfold State.vtripLevel
  exact .ite h.vtrip h

theorem Keeps.brkTestGo (h : s.Keeps t) {n : Nat} : s.Keeps (State.brkTestGo t n) := by
  unfold State.brkTestGo
  exact .ite h.modBrk.brkStep h

theorem Keeps.linkCfg (h : s.Keeps t) {n : Nat} {v : Word} : s.Keeps (State.linkCfg t n v) := by
  unfold State.linkCfg
  extract_lets -underBinder -merge t1 _
  have h1 : s.Keeps t1 := h.storePlain
  exact .brkStep (.vtripLevel (.whenB (.ite h1 h1.modBrk) (fun _ h1 => h1.brkTestGo)))

theorem Keeps.linkStat (h : s.Keeps t) {n : Nat} {v : Word} : s.Keeps (State.linkStat t n v) := by
  unfold State.linkStat
  extract_lets -underBinder -merge t1
  have h1 : s.Keeps t1 := h.storePlain
  exact .ite (.ite h1.set1 h1.clr.gdpSummary) h1

theorem Keeps.hookGdp (h : s.Keeps t) {a : Nat} {v : Word} : s.Keeps (State.hookGdp t a v) := by
  unfold State.hookGdp
  exact .ite h.fltClear (.ite h.storePlain.fltPins (.ite h.fltPol (.ite h.storePlain.pumpFollow (.ite h.storePlain.grpClear (by
    split
    · exact h.storePlain.gdRefresh
    · exact h.storePlain.gdRefresh
    · exact h.gdStat
    · split
      · exact h.linkCfg
      · exact h.linkStat
      · exact h.storePlain.vtripLevel
      · exact .ite h.storePlain.brkStepAll h.storePlain)))))

theorem Keeps.hookCmp (h : s.Keeps t) {a : Nat} {v : Word} : s.Keeps (t.hookCmp a v) := by
  unfold State.hookCmp
  extract_lets t1
  have h1 : s.Keeps t1 := h.storePlain
  clear_value t1
  split
  · exact .ite h1.winOff (.feedLines (h1.whenB fun _ hu => hu.modWin))
  · refine .ite h1 (.clr (f := ⟨R.CMP_WAKE_STAT, _, 1⟩) ?_)
    exact h1.record (hs := fun hs => { hs with wakes := (length_upd _ _ _).trans hs.wakes })
  · exact h1

theorem Keeps.hookGrn (h : s.Keeps t) {a : Nat} {v : Word} : s.Keeps (State.hookGrn t a v) := by
  unfold State.hookGrn
  exact .ite h.writeMeters.enWritten (.ite (.whenB h.storePlain (fun _ h1 => h1.askSnapshot)) (.ite (.whenB h.storePlain (fun _ h1 => h1.journalAsk)) (by
    split
    · exact .whenB h.storePlain (fun _ h1 => h1.epoRest)
    · exact h.bindWc
    · exact h.storePlain)))

theorem Keeps.hookShf (h : s.Keeps t) {a : Nat} {v : Word} : s.Keeps (State.hookShf t a v) := by
  unfold State.hookShf
  extract_lets -underBinder -merge t1
  have h1 : s.Keeps t1 := h.storePlain
  exact .ite (.whenB h1.enWritten (fun _ h1 => h1.emuStart)) (by
    split
    · exact h1.depositCheck
    · exact h1.encRelatch
    · exact h1)

theorem Keeps.hookRing (h : s.Keeps t) {a : Nat} {v : Word} : s.Keeps (State.hookRing t a v) := by
  unfold State.hookRing
  exact .ite h.ringCtrl (by
    split
    · exact h.loadLatch
    · exact h.storePlain)

theorem Keeps.hookDma (h : s.Keeps t) {a : Nat} {v : Word} : s.Keeps (State.hookDma t a v) := by
  unfold State.hookDma
  exact .ite (by
    extract_lets -underBinder -merge _
    split
    · exact h.dmaCfg
    · exact h.dmaCtrl
    · exact h.dmaAddr) h.storePlain

theorem Keeps.hookEvt (h : s.Keeps t) {a : Nat} {v : Word} : s.Keeps (State.hookEvt t a v) := by
  unfold State.hookEvt
  exact .ite h.evtForce h.storePlain

theorem Keeps.hookWld (h : s.Keeps t) {a : Nat} {v : Word} : s.Keeps (State.hookWld t a v) := by
  unfold State.hookWld
  exact h.keepOld.storePlain

theorem Keeps.hookTst (h : s.Keeps t) {a : Nat} {v : Word} : s.Keeps (State.hookTst t a v) := by
  unfold State.hookTst
  exact .ite h.pertCtrl (.ite h.rplCtrl (.ite h h.storePlain))

theorem Keeps.hook (h : s.Keeps t) {a : Nat} {v : Word} : s.Keeps (State.hook t a v) := by
  unfold State.hook
  split
  · exact h.hookSys
  · exact h.hookClk
  · exact h.hookAcq
  · exact h.hookPrism
  · exact h.hookWvn
  · exact h.hookMill
  · exact h.hookLoom
  · exact h.hookGdp
  · exact h.hookCmp
  · exact h.hookGrn
  · exact h.hookShf
  · exact h.hookRing
  · exact h.hookDma
  · exact h.hookEvt
  · exact h.hookWld
  · exact h.hookTst
  · exact h.storePlain

/-! ### Operations of Machine/ConfigOps.lean -/

theorem Keeps.commitHook (h : s.Keeps t) {a : Nat} {v : Word} : s.Keeps (State.commitHook t a v) := by
  unfold State.commitHook
  exact .ite h.modClk (.ite h.sscStore (.ite h.sscStore (.ite h.storePlain h.hook)))

theorem Keeps.applyOne (h : s.Keeps t) {r : Record} {waits : Option Nat} : s.Keeps (State.applyOne t r waits) := by
  unfold State.applyOne
  split
  · extract_lets -underBinder -merge t1
    have h1 : s.Keeps t1 := h.modCar
    exact .ite h1.commitHook h1
  · exact h.commitHook

theorem Keeps.applyWaited (h : s.Keeps t) {c : Nat} {r : Record} : s.Keeps (State.applyWaited t c r) := by
  unfold State.applyWaited
  exact .ite h h.storePlain

theorem Keeps.applyPending (h : s.Keeps t) {c : Nat} : s.Keeps (State.applyPending t c) := by
  unfold State.applyPending
  exact .foldl h.modCar (fun _ _ h1 => h1.applyWaited)

theorem Keeps.closeChanged (h : s.Keeps t) {ch : List Record} : s.Keeps (State.closeChanged t ch) := by
  unfold State.closeChanged
  exact .ite (by
    extract_lets -underBinder -merge t1
    have h1 : s.Keeps t1 := .forAll h.grnFinish (fun _ _ h1 => .ite h1.acClose h1)
    exact .forAll h1 (fun _ _ h1 => .ite h1.dcClose h1)) h

theorem Keeps.restartPrism (h : s.Keeps t) {ch : List Record} : s.Keeps (State.restartPrism t ch) := by
  unfold State.restartPrism
  exact .forAll h (fun _ _ h1 => .ite h1.freshWindow h1)

theorem Keeps.restartWvn (h : s.Keeps t) {ch : List Record} : s.Keeps (State.restartWvn t ch) := by
  unfold State.restartWvn
  extract_lets -underBinder -merge t1
  have h1 : s.Keeps t1 := .forAll h (fun _ _ h1 => .ite h1.setStart h1)
  exact .forAll h1 (fun _ _ h1 => .ite h1.mppStart h1)

theorem Keeps.restartCmp (h : s.Keeps t) {ch : List Record} : s.Keeps (State.restartCmp t ch) := by
  unfold State.restartCmp
  exact .forAll h (fun _ _ h1 => .ite h1.modWin h1)

theorem Keeps.restartShf (h : s.Keeps t) {ch : List Record} : s.Keeps (State.restartShf t ch) := by
  unfold State.restartShf
  exact .forAll h (fun _ _ h1 => .ite h1.encStart h1)

theorem Keeps.applyMill (h : s.Keeps t) : s.Keeps (State.applyMill t) := by
  unfold State.applyMill
  exact .ite h (.ite h.modMill.dmemReload h.modMill.millStop)

theorem Keeps.applyEnable (h : s.Keeps t) {i : Nat} : s.Keeps (State.applyEnable t i) := by
  unfold State.applyEnable
  split
  · exact h.applyPrism
  · exact h.applyWvn
  · exact h.applyMill
  · exact h.applyMeters
  · exact h.applyShf

theorem Keeps.showWcets (h : s.Keeps t) : s.Keeps (State.showWcets t) := by
  unfold State.showWcets
  exact .forAll h (fun _ _ h1 => h1.put)

theorem Keeps.applyChanges (h : s.Keeps t) {ch : List Record} : s.Keeps (State.applyChanges t ch) := by
  unfold State.applyChanges
  extract_lets -underBinder -merge _ t1 t2 _ t4 t5 t6 t7
  have h1 : s.Keeps t1 := .forAll h.closeChanged (fun _ _ h1 => .ite h1.dmaDrop h1)
  have h2 : s.Keeps t2 := .showWcets (.foldl h1 (fun _ _ h1 => h1.applyOne))
  have h4 : s.Keeps t4 := .forAll h2.restartPrism.restartWvn.restartCmp (fun _ _ h1 => h1.applyEnable)
  have h5 : s.Keeps t5 := h4.restartShf
  have h6 : s.Keeps t6 := .ite h5.journalAsk h5
  have h7 : s.Keeps t7 := .ite h6.freshNeed h6
  exact .ite h7.announce h7

theorem Keeps.applyImage (h : s.Keeps t) {w : Waiting} : s.Keeps (t.applyImage w) := by
  unfold State.applyImage
  refine h.policyAfter fun u hu => ?_
  extract_lets -underBinder ch _ _ t1 t2
  refine .ite hu.record ?_
  have h1 : s.Keeps t1 := hu.applyChanges.restartTables.restartBlock.prismSummary
  have h2 : s.Keeps t2 := .ite h1.dmemReload h1
  clear_value t2
  exact h2.record

theorem Keeps.configSync (h : s.Keeps t) : s.Keeps (State.configSync t) := by
  unfold State.configSync
  extract_lets -underBinder -merge t1
  have h1 : s.Keeps t1 := by
    unfold t1
    split
    · exact .ite h.applyImage h
    · exact h
  exact .forAll h1 (fun _ _ h1 => .ite h1.applyEnable h1)

theorem Keeps.syncValley (h : s.Keeps t) : s.Keeps (State.syncValley t) := by
  unfold State.syncValley
  exact h.record

theorem cellWf_memSetWords {m : Memory} {base : Nat} {ws : WordStore} (h : cellWf (fun _ => (0 : Byte)) 0 m = true) :
    cellWf (fun _ => (0 : Byte)) 0 (memSetWords m base ws) = true :=
  cellWf_foldl_memSetBytes ws _ _ _ h

theorem Keeps.writeSlot (h : s.Keeps t) {slot : Nat} {c : SlotContent} : s.Keeps (t.writeSlot slot c) := by
  unfold State.writeSlot
  refine h.record (hc := fun hc => ?_)
  have hm : cellWf (fun _ => (0 : Byte)) 0 (memSetBundles (memSetBytes (memClear t.mem.mram (slotBase slot) 0x40000) (slotBase slot) c.image)
      (slotProg slot) c.prog) = true :=
    cellWf_foldl_memSetBytes c.prog _ _ _ (cellWf_memSetBytes _ _ _ (cellWf_filter _ _ _ _ hc.mram))
  obtain ⟨h1, h2⟩ := memRewrite_canonical (a := slotBase slot) (n := 0x40000) ⟨hc.sram, hc.mram⟩
    (cellWf_memSetWords (base := slotBank slot 1) (ws := c.bankB) (cellWf_memSetWords (base := slotBank slot 0) (ws := c.bankA)
      (cellWf_memSetWords (base := slotDmem slot) (ws := c.dmem) hm)))
  exact { hc with sram := h1, mram := h2 }

theorem Keeps.makeLive (h : s.Keeps t) {gen : Nat} {img : List Byte} {progLen : Nat} : s.Keeps (t.makeLive gen img progLen) := by
  unfold State.makeLive
  extract_lets -underBinder _ t1 _ t2
  have h1 : s.Keeps t1 := h.mramWrite
  clear_value t1
  have h2 : s.Keeps t2 := h1.record
  exact h2.clr.raise.log

/-! ### Operations of Machine/Bus.lean -/

theorem Keeps.takePort (h : s.Keeps t) {a : Nat} : s.Keeps (State.takePort t a) := by
  unfold State.takePort
  split
  · exact h.record
  · exact h

theorem Keeps.sramCorrect (h : s.Keeps t) {o : Nat} : s.Keeps (State.sramCorrect t o) := by
  unfold State.sramCorrect
  exact .ite h.modMem.incS h

theorem Keeps.sramFatal (h : s.Keeps t) {o : Nat} : s.Keeps (State.sramFatal t o) := by
  unfold State.sramFatal
  extract_lets -underBinder -merge t1
  have h1 : s.Keeps t1 := .ite h h.set1.wr
  exact h1.limp

theorem Keeps.sramUpset (h : s.Keeps t) {o : Nat} {wrong : Nat} : s.Keeps (State.sramUpset t o wrong) := by
  unfold State.sramUpset
  exact .ite h (.ite h.modMem h.modMem)

theorem Keeps.takeData (h : s.Keeps t) {n : Nat} : s.Keeps (State.takeData t n) := by
  unfold State.takeData
  exact h.clr.wr

theorem Keeps.readEffect (h : s.Keeps t) {a : Nat} : s.Keeps (State.readEffect t a) := by
  unfold State.readEffect
  split
  · exact .ite h.latchTimebase (.ite h.latchRtc (.ite h.latchRtcTb (by
    split
    · exact h.latchCapture
    · exact h.takeCapture
    · exact h)))
  · split
    · exact h.takeData
    · exact h
  · exact h.grnLoRead
  · exact h

theorem Keeps.sramRead (h : s.Keeps t) {o : Nat} : s.Keeps (t.sramRead o).1 := by
  unfold State.sramRead
  split
  · exact h.sramFatal
  · exact h.sramCorrect

theorem Keeps.sramWrite (h : s.Keeps t) {o : Nat} {v : Word} {be : BitVec 4} : s.Keeps (t.sramWrite o v be).1 := by
  unfold State.sramWrite
  split
  · exact h.modMem (f := fun m => { m with
      sram := memSetWord m.sram o v
      sramCorrectable := m.sramCorrectable.filter (· != o), sramBad := m.sramBad.filter (· != o) })
      fun hm => ⟨cellWf_memSetBytes _ _ _ hm.sram, hm.mram⟩
  · have hr := h.sramRead (o := o)
    generalize t.sramRead o = x at hr ⊢
    obtain ⟨u, _ | old⟩ := x
    · exact hr
    · exact Keeps.modMem (f := fun m => { m with sram := memSetWord m.sram o (mergeBytes old v be) }) hr
        fun hm => ⟨cellWf_memSetBytes _ _ _ hm.sram, hm.mram⟩

theorem Keeps.refuse (h : s.Keeps t) {m : Master} {w : World} {write : Bool} {a : Nat} {why : WriteResult} :
    s.Keeps (t.refuse m w write a why).1 := h.faultAt

theorem Keeps.busRead (h : s.Keeps t) {m : Master} {w : World} {a : Nat} : s.Keeps (t.busRead m w a).1 := by
  unfold State.busRead
  extract_lets a no _
  have hn : ∀ why, s.Keeps (no why).1 := fun _ => h.refuse
  have hsram : s.Keeps (match t.sramRead (a - 0x10000000) with
      | (t, some v) => (t, v, WriteResult.written)
      | (t, none) => let (u, r) := t.refuse m w false a .ecc; (u, 0, r)).1 := by
    have hr := h.sramRead (o := a - 0x10000000)
    generalize t.sramRead (a - 0x10000000) = x at hr ⊢
    obtain ⟨u, _ | v⟩ := x
    · exact hr.refuse
    · exact hr
  split
  · exact h
  · exact h
  · split
    · exact hsram
    · exact hn _
  · split
    · exact hsram
    · exact hn _
  · split_ifs
    · exact hn _
    · exact hn _
    · exact hn _
    · exact h
  · split_ifs
    · exact hn _
    · exact hn _
    · exact hn _
    · exact h
  · exact h.readEffect
  · exact hn _

theorem Keeps.busReg (h : s.Keeps t) {m : Master} {w : World} {a : Nat} {v : Word} {f : State → Word → State} (hf : ∀ x, s.Keeps (f t x)) :
    s.Keeps (t.busReg m w a v f).1 := by
  unfold State.busReg
  split
  · exact h.writeThrough hf
  · exact h.writeThrough hf
  · exact h.faultAt
  · exact h

theorem Keeps.busWrite (h : s.Keeps t) {m : Master} {w : World} {a : Nat} {v : Word} {be : BitVec 4} : s.Keeps (t.busWrite m w a v be).1 := by
  unfold State.busWrite
  extract_lets word _
  have hsram : s.Keeps (match t.sramWrite (word - 0x10000000) v be with
      | (t, true) => (t, WriteResult.written)
      | (t, false) => t.refuse m w true word .ecc).1 := by
    have hr := h.sramWrite (o := word - 0x10000000) (v := v) (be := be)
    generalize t.sramWrite (word - 0x10000000) v be = x at hr ⊢
    obtain ⟨u, _ | _⟩ := x
    · exact hr.refuse
    · exact hr
  split
  · split
    · exact h.refuse
    · exact h.refuse
  · split
    · exact h.refuse
    · exact h.refuse
  · split
    · exact hsram
    · exact h.refuse
  · split
    · exact hsram
    · exact h.refuse
  · exact h.refuse
  · split
    · exact h.refuse
    · split
      · split
        · exact h.mramWrite.refuse
        · exact h.mramWrite
      · exact h.refuse
  · exact h.busReg fun _ => h.hook
  · exact h.refuse

theorem Keeps.regWrite (h : s.Keeps t) {w : World} {a : Nat} {v : Word} : s.Keeps (t.regWrite w a v) := h.busReg fun _ => h.hook

theorem Keeps.regRead (h : s.Keeps t) {w : World} {a : Nat} : s.Keeps (t.regRead w a) := h.busRead

theorem Keeps.write (h : s.Keeps t) {w : World} {a : Nat} {v : Word} : s.Keeps (State.write t w a v) := by
  unfold State.write
  exact .ite (.policyFor h (fun _ h1 => h1.regWrite.transact.takePort)) h

theorem Keeps.read (h : s.Keeps t) {w : World} {a : Nat} : s.Keeps (State.read t w a) := by
  unfold State.read
  exact .ite h.regRead.transact.takePort h

theorem Keeps.dmaStop (h : s.Keeps t) {n : Nat} {a : Nat} {why : WriteResult} : s.Keeps (State.dmaStop t n a why) := by
  unfold State.dmaStop
  exact h.dmaEnd.set1.put.wr

theorem Keeps.dmaDone (h : s.Keeps t) {n : Nat} {x : DmaXfer} : s.Keeps (State.dmaDone t n x) := by
  unfold State.dmaDone
  extract_lets -underBinder -merge _ _ t1
  have h1 : s.Keeps t1 := .ite h.modDma h.dmaEnd
  exact h1.modDma

theorem Keeps.dmaTick (h : s.Keeps t) : s.Keeps (State.dmaTick t) := by
  unfold State.dmaTick
  exact .forAll h (fun _ _ h1 => .ite h1.modDma.raise h1)

theorem Keeps.dmaWrite (h : s.Keeps t) {n : Nat} {x : DmaXfer} : s.Keeps (t.dmaWrite n x) := by
  unfold State.dmaWrite
  extract_lets lanes v be a
  refine h.policyFor fun u hu => ?_
  have hw := hu.takePort (a := a) |>.busWrite (m := .dma n) (w := u.dmaWorld n) (a := a) (v := v) (be := be)
  generalize (u.takePort a).busWrite (.dma n) (u.dmaWorld n) a v be = y at hw ⊢
  obtain ⟨u', why⟩ := y
  have hd : ∀ (x : DmaXfer), s.Keeps (if (u'.dmaCh n).xfer.isNone = true then u' else if x.writes = x.writeCount then u'.dmaDone n x
      else if (x.stopping && !x.inHand) = true then u'.dmaDrop n else (u'.modDma n (fun c => { c with xfer := some x })).dmaHold n) :=
    fun x => .ite hw (.ite (Keeps.dmaDone hw) (.ite (Keeps.dmaDrop hw) (Keeps.modDma hw).dmaHold))
  cases why
  case written => exact hd _
  case locked => exact hd _
  case unlisted => exact hd _
  all_goals exact Keeps.dmaStop hw

theorem Keeps.dmaRead (h : s.Keeps t) {n : Nat} {x : DmaXfer} {wrong : Nat} : s.Keeps (t.dmaRead n x wrong) := by
  unfold State.dmaRead
  extract_lets a t1
  have h1 : s.Keeps t1 := .ite h.sramUpset h
  have hr := h1.takePort (a := a) |>.busRead (m := .dma n) (w := t1.dmaWorld n) (a := a)
  generalize (t1.takePort a).busRead (.dma n) (t1.dmaWorld n) a = y at hr ⊢
  obtain ⟨u, v, why⟩ := y
  cases why
  case written => exact .ite (Keeps.modDma hr).dmaGrant (Keeps.modDma hr)
  all_goals exact Keeps.dmaStop hr

theorem Keeps.dmaBeat (h : s.Keeps t) {n : Nat} {wrong : Nat} : s.Keeps (State.dmaBeat t n wrong) := by
  unfold State.dmaBeat
  exact .ite (by
    split
    · exact .ite h.dmaWrite (.ite h.dmaRead h)
    · exact h) h

theorem Keeps.scrubCycle (h : s.Keeps t) {wrong : Nat} : s.Keeps (State.scrubCycle t wrong) := by
  unfold State.scrubCycle
  exact .ite (by
    extract_lets -underBinder -merge _ t1
    have h1 : s.Keeps t1 := h.sramUpset.sramRead
    exact .ite h1.modMem h1.modMem.incW) h

theorem mem_foldl_canonical {α : Type} {l : List α} {f : Mem → α → Mem} {x : Mem} (h : x.Canonical)
    (hf : ∀ y a, y.Canonical → (f y a).Canonical) : (l.foldl f x).Canonical := by
  induction l generalizing x with
  | nil => exact h
  | cons a l ih => exact ih (hf x a h)

theorem Keeps.mramRefresh (h : s.Keeps t) {corrected worn bad : List Nat} : s.Keeps (t.mramRefresh corrected worn bad) := by
  unfold State.mramRefresh
  refine .ite ?_ h
  extract_lets -underBinder t1 t2 t3
  have h2 : s.Keeps t2 := h.put.modMem
  clear_value t2
  have h3 : s.Keeps t3 := h2.modMem fun hm => mem_foldl_canonical hm fun y _ hy => memRewrite_canonical hy hy.mram
  clear_value t3
  refine h3.foldl fun u o hu => ?_
  extract_lets a
  refine .faultAt (hu.modMem fun hm => ?_)
  split
  · exact hm
  · exact ⟨hm.sram, hm.mram⟩

/-! ### Operations of Machine/RplOps.lean -/

theorem Keeps.rplRun (h : s.Keeps t) {x : RplPhase} : s.Keeps (State.rplRun t x) := by
  unfold State.rplRun
  exact h.modTst

theorem Keeps.rplEngineStart (h : s.Keeps t) : s.Keeps (State.rplEngineStart t) := by
  unfold State.rplEngineStart
  exact .ite h.rplRun h

theorem Keeps.replayQuiet (h : s.Keeps t) : s.Keeps t.replayQuiet := by
  unfold State.replayQuiet
  exact .gdRefreshAll (h.forAll fun _ _ hu => (hu.setOuts (fun _ => by decide)).modLeg)

theorem Keeps.rplReplayMatch (h : s.Keeps t) : s.Keeps (State.rplReplayMatch t) := by
  unfold State.rplReplayMatch
  exact .ite h.rplRun.replayQuiet h

theorem Keeps.rplStop (h : s.Keeps t) : s.Keeps (State.rplStop t) := by
  unfold State.rplStop
  exact h.modTst.clr.gdRefreshAll

theorem Keeps.rplPhaseTimeout (h : s.Keeps t) : s.Keeps (State.rplPhaseTimeout t) := by
  unfold State.rplPhaseTimeout
  exact .ite h.rplStop.put h

theorem Keeps.rplCount' (h : s.Keeps t) {c : Nat} : s.Keeps (State.rplCount' t c) := by
  unfold State.rplCount'
  exact .ite h.modTst h

theorem Keeps.digestStart (h : s.Keeps t) : s.Keeps t.digestStart := by
  unfold State.digestStart
  have h1 : s.Keeps (t.wr R.TST_DIGEST 0xFFFFFFFF) := h.wr
  exact .ite h1.record h

theorem Keeps.rplSlotEnd (h : s.Keeps t) : s.Keeps (State.rplSlotEnd t) := by
  unfold State.rplSlotEnd
  exact h.incW

theorem Keeps.rplFinish (h : s.Keeps t) : s.Keeps (State.rplFinish t) := by
  unfold State.rplFinish
  exact .ite h.digestWords.wr.set1.rplStop h

theorem Keeps.rplRecordSlot (h : s.Keeps t) : s.Keeps t.rplRecordSlot := by
  unfold State.rplRecordSlot
  refine .ite (.ite h.rplStop ?_) h
  extract_lets a t1 t2
  have h1 : s.Keeps t1 := h.digestStart.foldl fun _ _ hu => hu.busWrite.takePort
  exact h1.update.rplSlotEnd

theorem Keeps.presentRecord (h : s.Keeps t) {n : Nat} {w : Word} : s.Keeps (State.presentRecord t n w) := by
  unfold State.presentRecord
  exact h.send

theorem Keeps.replaySlice (h : s.Keeps t) {n a : Nat} : s.Keeps (t.replaySlice n a) := by
  unfold State.replaySlice
  refine .ite ?_ h
  have hr := h.takePort (a := a) |>.busRead (m := .replay) (w := .secure) (a := a)
  generalize (t.takePort a).busRead .replay .secure a = y at hr ⊢
  obtain ⟨u, w, why⟩ := y
  exact .ite (Keeps.rplStop hr).put (.ite (Keeps.presentRecord hr) hr)

theorem Keeps.rplReplaySlot (h : s.Keeps t) : s.Keeps (State.rplReplaySlot t) := by
  unfold State.rplReplaySlot
  exact .ite (.ite h.rplStop (by
    extract_lets -underBinder -merge _ t1
    have h1 : s.Keeps t1 := .foldl h.digestStart (fun _ _ h1 => h1.replaySlice)
    exact .ite h1.rplSlotEnd h1)) h

/-! ### Operations of Machine/Boot.lean -/

theorem Keeps.fwWriteRecord (h : s.Keeps t) {slot : Nat} {state : Nat} {len : Nat} {hash : List Byte} {version : Nat} : s.Keeps (State.fwWriteRecord t slot state len hash version) := by
  unfold State.fwWriteRecord
  exact h.mramWrite.record

theorem Keeps.logScan (h : s.Keeps t) : s.Keeps t.logScan := by
  unfold State.logScan
  extract_lets -underBinder _ _ newest _ t1
  have h1 : s.Keeps t1 := h.record
  clear_value newest t1
  cases newest with
  | none => exact h1
  | some n => exact h1.record

theorem Keeps.cfgLoad (h : s.Keeps t) : s.Keeps t.cfgLoad := by
  unfold State.cfgLoad
  extract_lets -underBinder _ t1
  have h1 : s.Keeps t1 := h.record
  clear_value t1
  split
  · exact h1.set1.grnRestore
  · extract_lets -underBinder _ _ t2 t3
    have h2 : s.Keeps t2 := h1.record
    clear_value t2
    have h3 : s.Keeps t3 := h2.modMill (hm := fun hc => { hc with bankA := cellWf_wordsIn .., bankB := cellWf_wordsIn .. })
    exact h3.dmemReload.applyChanges.grnRestore

theorem Keeps.recovery (h : s.Keeps t) : s.Keeps t.recovery := by
  unfold State.recovery
  extract_lets -underBinder _ _ t1
  have h1 : s.Keeps t1 := h.record
  exact ((h1.putMode .limp).putAbove).modSys

theorem Keeps.bootClocks (h : s.Keeps t) : s.Keeps (State.bootClocks t) := by
  unfold State.bootClocks
  extract_lets -underBinder -merge t1 _ t2 _ t3 t4
  have h1 : s.Keeps t1 := .ite h (.ite h.set1 h.set1)
  have h2 : s.Keeps t2 := .ite h1 h1.set1
  have h3 : s.Keeps t3 := h2.modClk
  have h4 : s.Keeps t4 := .ite h3.blockLegs.set1 h3
  exact .ite h4.log (.ite h4.log h4)

theorem Keeps.fwRingScan (h : s.Keeps t) : s.Keeps (State.fwRingScan t) := by
  unfold State.fwRingScan
  exact h.record

theorem Keeps.fwStart (h : s.Keeps t) {slot : Nat} : s.Keeps (t.fwStart slot) := by
  unfold State.fwStart
  extract_lets -underBinder _ t1 _ t2 _ _ _ t3
  have h1 : s.Keeps t1 := h.put
  clear_value t1
  have h2 : s.Keeps t2 := h1.record
  clear_value t2
  have h3 : s.Keeps t3 := h2.record
  exact .ite h3.log h3

theorem Keeps.convReady (h : s.Keeps t) : s.Keeps (State.convReady t) := by
  unfold State.convReady
  extract_lets -underBinder -merge t1
  have h1 : s.Keeps t1 := h.convStarts.set1.spareNext
  exact .ite h1 h1.set1

theorem Keeps.releaseBanks (h : s.Keeps t) {low : BitVec 3} : s.Keeps (State.releaseBanks t low) := by
  unfold State.releaseBanks
  exact .ite h.modSys h

theorem Keeps.showSupplies (h : s.Keeps t) {vdrv : Bool} {vbak : Bool} : s.Keeps (State.showSupplies t vdrv vbak) := by
  unfold State.showSupplies
  exact h.put.putB.putB.putB

theorem Keeps.bootEnters (h : s.Keeps t) {lost : Bool} : s.Keeps (t.bootEnters lost) := by
  unfold State.bootEnters
  extract_lets _ t1 t2 t3 t4
  have h2 : s.Keeps t2 := h.modSys.log
  have h3 : s.Keeps t3 := .ite h2.putAbove.recordMode h2.recordMode.holdBegins
  exact h3.wrapHeld.attend.gdRefreshAll.brkStepAll.limpIf

theorem Keeps.bootComplete (h : s.Keeps t) {rails : Rails} {vbak : Bool} : s.Keeps (t.bootComplete rails vbak) := by
  unfold State.bootComplete
  refine .ite ?_ h
  extract_lets -underBinder t1 _ t2 t3
  have h1 : s.Keeps t1 := h.releaseBanks.showSupplies.incW
  clear_value t1
  have h2 : s.Keeps t2 := h1.record (hc := fun hc => { hc with sram := rfl })
  clear_value t2
  have h3 : s.Keeps t3 := h2.mramMeet.logScan.fwRingScan
  clear_value t3
  split
  · exact h3.recovery
  · extract_lets t4 t5 t6 _
    have h4 : s.Keeps t4 := h3.fwStart.blockLegs
    have h6 : s.Keeps t6 := h4.putB.bootClocks.cfgLoad
    clear_value t6
    exact .bootEnters (.observersStart (.convReady (.ite h6.ringClockFail h6)))

/-! ### Operations of Machine/Steward.lean -/

theorem Keeps.queueTx (h : s.Keeps t) {l : Link} {f : List TxPacket → List TxPacket} : s.Keeps (State.queueTx t l f) := by
  unfold State.queueTx
  extract_lets -underBinder -merge t1
  have h1 : s.Keeps t1 := h.modLink
  exact .ite h1 h1.emit

theorem Keeps.sendEntry (h : s.Keeps t) {l : Link} {e : HistEntry} {again : Bool} : s.Keeps (State.sendEntry t l e again) := by
  unfold State.sendEntry
  exact .ite h.modLink h.queueTx

theorem Keeps.txGone (h : s.Keeps t) {l : Link} : s.Keeps (State.txGone t l) := by
  unfold State.txGone
  exact h.queueTx.modLink

theorem Keeps.reply (h : s.Keeps t) {l : Link} {a : Asked} {ran : Bool} {final : Bool} {r : Reply} : s.Keeps (State.reply t l a ran final r) := by
  unfold State.reply
  exact h.modLink.sendEntry

theorem Keeps.logSession (h : s.Keeps t) {l : Link} {what : Nat} : s.Keeps (State.logSession t l what) := by
  unfold State.logSession
  exact h.log

theorem Keeps.closeSession (h : s.Keeps t) {l : Link} {what : Nat} : s.Keeps (State.closeSession t l what) := by
  unfold State.closeSession
  exact .ite h.modLink.emit.logSession h

theorem Keeps.authFailed (h : s.Keeps t) {l : Link} : s.Keeps (State.authFailed t l) := by
  unfold State.authFailed
  extract_lets -underBinder -merge t1
  have h1 : s.Keeps t1 := h.modLink.logSession
  exact .ite h1.closeSession.modLink h1

theorem Keeps.afterAnswer (h : s.Keeps t) {l : Link} {status : Nat} : s.Keeps (State.afterAnswer t l status) := by
  unfold State.afterAnswer
  exact .ite h.authFailed (by
    extract_lets -underBinder -merge t1
    have h1 : s.Keeps t1 := h.modLink
    exact .ite h1.closeSession h1)

theorem Keeps.touchSession (h : s.Keeps t) {l : Link} {c : Cmd} : s.Keeps (State.touchSession t l c) := by
  unfold State.touchSession
  exact .ite h.modLink h

theorem Keeps.longBegin (h : s.Keeps t) {l : Link} {c : Cmd} : s.Keeps (State.longBegin t l c) := by
  unfold State.longBegin
  exact h.record

theorem Keeps.longEnd (h : s.Keeps t) {status : Nat} {detail : Nat} : s.Keeps (State.longEnd t status detail) := by
  unfold State.longEnd
  exact .policyAfter h (fun _ h1 => h1.modLong.reply.emit)

theorem Keeps.hostMoves (h : s.Keeps t) {s' : State} {n : Nat} : s.Keeps (State.hostMoves s' t n) := by
  unfold State.hostMoves
  exact h.transact.fifoMoves

theorem Keeps.discard (h : s.Keeps t) {l : Link} : s.Keeps (State.discard t l) := by
  unfold State.discard
  split
  · exact h.modLink
  · exact h

theorem Keeps.refuseCmd (h : s.Keeps t) {l : Link} {c : Cmd} {r : Reply} : s.Keeps (State.refuseCmd t l c r) := by
  unfold State.refuseCmd
  extract_lets -underBinder -merge _ t1
  have h1 : s.Keeps t1 := .ite h.modLink h
  exact h1.reply.afterAnswer

theorem Keeps.carryOut (h : s.Keeps t) {l : Link} {c : Cmd} {run : State → State} (hrun : ∀ u, s.Keeps u → s.Keeps (run u)) : s.Keeps (State.carryOut t l c run) := by
  unfold State.carryOut
  exact .ite h.refuseCmd (by
    split
    · exact h.refuseCmd
    · extract_lets -underBinder -merge t1
      have h1 : s.Keeps t1 := h.touchSession
      split
      · exact h1.refuseCmd
      · exact (hrun _ (.ite h1 h1.modLink)))

theorem Keeps.receive (h : s.Keeps t) {l : Link} {c : Cmd} {run : State → State} (hrun : ∀ u, s.Keeps u → s.Keeps (run u)) : s.Keeps (State.receive t l c run) := by
  unfold State.receive
  extract_lets -underBinder -merge t1
  have h1 : s.Keeps t1 := h.modLink
  split
  · exact h1.reply.afterAnswer
  · exact h1.reply.afterAnswer
  · exact .foldl h1 (fun _ _ h1 => h1.sendEntry)
  · exact .carryOut h1 (fun _ h1 => (hrun _ h1))

theorem Keeps.answerRaw (h : s.Keeps t) {l : Link} {b : List Byte} {status : Nat} {detail : Nat} : s.Keeps (State.answerRaw t l b status detail) := by
  unfold State.answerRaw
  exact h.reply.afterAnswer

/-! ### Operations of Machine/HostLink.lean -/

theorem Keeps.answer (h : s.Keeps t) {l : Link} {c : Cmd} {r : Reply} : s.Keeps (State.answer t l c r) := by
  unfold State.answer
  exact .ite h.reply.afterAnswer h

theorem Keeps.doHello (h : s.Keeps t) {l : Link} {c : Cmd} : s.Keeps (State.doHello t l c) := by
  unfold State.doHello
  exact .ite h.answer h.closeSession.modLink.record.answer

theorem Keeps.doSync (h : s.Keeps t) {l : Link} {c : Cmd} : s.Keeps (State.doSync t l c) := by
  unfold State.doSync
  exact h.answer

theorem Keeps.doReplay (h : s.Keeps t) {l : Link} {c : Cmd} : s.Keeps (State.doReplay t l c) := by
  unfold State.doReplay
  extract_lets -underBinder -merge _ _ _ t1
  have h1 : s.Keeps t1 := .foldl h (fun _ _ h1 => h1.sendEntry)
  exact .ite h.answer (.ite h.answer h1.answer)

theorem Keeps.doOpStatus (h : s.Keeps t) {l : Link} {c : Cmd} : s.Keeps (State.doOpStatus t l c) := by
  unfold State.doOpStatus
  exact h.answer

theorem Keeps.doSessionOpen (h : s.Keeps t) {l : Link} {c : Cmd} : s.Keeps (State.doSessionOpen t l c) := by
  unfold State.doSessionOpen
  exact .ite h.answer (by
    split
    · exact h.answer
    · exact h.drawn.closeSession.modLink.emit.logSession.answer)

theorem Keeps.doSessionClose (h : s.Keeps t) {l : Link} {c : Cmd} : s.Keeps (State.doSessionClose t l c) := by
  unfold State.doSessionClose
  exact h.answer.closeSession

theorem Keeps.doPortSet (h : s.Keeps t) {l : Link} {c : Cmd} : s.Keeps (State.doPortSet t l c) := by
  unfold State.doPortSet
  exact .ite h.answer h.record.answer

theorem Keeps.writePair (h : s.Keeps t) {w : World} {a : Nat} {v : Word} : s.Keeps (t.writePair w a v).1 := by
  unfold State.writePair
  split
  · exact h.busReg fun _ => h
  · exact h.busWrite

theorem Keeps.writeRun (h : s.Keeps t) {w : World} {l : List (Nat × Word)} {acc : List Nat} : s.Keeps (Machine.writeRun w l t acc).1 := by
  induction l generalizing t acc with
  | nil => exact h
  | cons p l ih =>
    obtain ⟨a, v⟩ := p
    unfold Machine.writeRun
    have hw := h.takePort (a := a) |>.writePair (w := w) (a := a) (v := v)
    generalize (t.takePort a).writePair w a v = y at hw ⊢
    obtain ⟨u, why⟩ := y
    cases why
    case written => exact ih hw
    case locked => exact ih hw
    case unlisted => exact ih hw
    all_goals exact hw

theorem Keeps.readRun (h : s.Keeps t) {w : World} {n a : Nat} {acc : List Word} : s.Keeps (Machine.readRun w n a t acc).1 := by
  induction n generalizing t a acc with
  | zero => exact h
  | succ n ih =>
    unfold Machine.readRun
    have hr := h.takePort (a := a) |>.busRead (m := .steward) (w := w) (a := a)
    generalize (t.takePort a).busRead .steward w a = y at hr ⊢
    obtain ⟨u, v, why⟩ := y
    cases why
    case written => exact ih hr
    all_goals exact hr

theorem Keeps.doRegRead (h : s.Keeps t) {l : Link} {c : Cmd} : s.Keeps (t.doRegRead l c) := by
  unfold State.doRegRead
  extract_lets a n
  refine .ite h.answer (.ite h.answer (.ite h.answer ?_))
  have hr := h.readRun (w := c.world) (n := n) (a := a) (acc := [])
  generalize Machine.readRun c.world n a t [] = y at hr ⊢
  obtain ⟨u, ws, _ | x⟩ := y
  · exact Keeps.answer hr
  · exact Keeps.answer hr

theorem Keeps.doRegWrite (h : s.Keeps t) {l : Link} {c : Cmd} : s.Keeps (t.doRegWrite l c) := by
  unfold State.doRegWrite
  extract_lets n
  refine .ite h.answer (h.policyAfter fun u hu => ?_)
  have hw := hu.writeRun (w := c.world) (l := writePairs c.payload) (acc := [])
  generalize Machine.writeRun c.world (writePairs c.payload) u [] = y at hw ⊢
  obtain ⟨u, rs, _ | r⟩ := y
  · exact Keeps.answer hw
  · exact Keeps.answer hw

theorem Keeps.doStatus (h : s.Keeps t) {l : Link} {c : Cmd} : s.Keeps (State.doStatus t l c) := by
  unfold State.doStatus
  exact h.answer

theorem Keeps.doModeSet (h : s.Keeps t) {l : Link} {c : Cmd} : s.Keeps (State.doModeSet t l c) := by
  unfold State.doModeSet
  split
  · exact h.answer
  · exact .ite h.answer h.modeSet.answer

theorem Keeps.doLtrSet (h : s.Keeps t) {l : Link} {c : Cmd} : s.Keeps (State.doLtrSet t l c) := by
  unfold State.doLtrSet
  exact h.storePlain.answer.policy

theorem Keeps.doReset (h : s.Keeps t) {l : Link} {c : Cmd} : s.Keeps (State.doReset t l c) := by
  unfold State.doReset
  exact .ite h.answer h.answer.modSys

theorem Keeps.commandReset (h : s.Keeps t) : s.Keeps (State.commandReset t) := by
  unfold State.commandReset
  split
  · exact .ite h.systemReset h
  · exact h

theorem Keeps.doLogRead (h : s.Keeps t) {l : Link} {c : Cmd} : s.Keeps (State.doLogRead t l c) := by
  unfold State.doLogRead
  exact .ite h.answer h.mramMeet.answer

theorem Keeps.doLogInfo (h : s.Keeps t) {l : Link} {c : Cmd} : s.Keeps (State.doLogInfo t l c) := by
  unfold State.doLogInfo
  exact h.answer

theorem Keeps.doCrierSet (h : s.Keeps t) {l : Link} {c : Cmd} : s.Keeps (State.doCrierSet t l c) := by
  unfold State.doCrierSet
  exact .ite h.answer (.ite h.answer h.record.answer)

theorem Keeps.doAttnRead (h : s.Keeps t) {l : Link} {c : Cmd} : s.Keeps (State.doAttnRead t l c) := by
  unfold State.doAttnRead
  exact h.modLink.answer

theorem Keeps.doAttnMask (h : s.Keeps t) {l : Link} {c : Cmd} : s.Keeps (State.doAttnMask t l c) := by
  unfold State.doAttnMask
  exact h.modLink.answer

theorem Keeps.crierSend (h : s.Keeps t) : s.Keeps t.crierSend := by
  unfold State.crierSend
  extract_lets -underBinder k _ t1 next log
  refine .ite ?_ h
  have hn : ∀ u f, s.Keeps u → s.Keeps (next u f) := fun _ _ hu => hu.record
  have h1 : s.Keeps t1 := h.modLink
  clear_value t1 next
  exact .ite (hn _ _ h1).emit (hn _ _ h1.queueTx)

theorem Keeps.spiRead (h : s.Keeps t) {n : Nat} : s.Keeps (State.spiRead t n) := by
  unfold State.spiRead
  split
  · exact .ite h.txGone h
  · exact h

theorem Keeps.uartSent (h : s.Keeps t) : s.Keeps (State.uartSent t) := by
  unfold State.uartSent
  exact .ite h.txGone h

theorem Keeps.baudChange (h : s.Keeps t) : s.Keeps (State.baudChange t) := by
  unfold State.baudChange
  split
  · exact .ite h h.record
  · exact h

theorem Keeps.sessionTimeout (h : s.Keeps t) {l : Link} : s.Keeps (State.sessionTimeout t l) := by
  unfold State.sessionTimeout
  split
  · exact .ite h.closeSession h
  · exact h

theorem Keeps.sessionBlockEnd (h : s.Keeps t) {l : Link} : s.Keeps (State.sessionBlockEnd t l) := by
  unfold State.sessionBlockEnd
  split
  · exact .ite h.modLink h
  · exact h

/-! ### Operations of Machine/HostConfig.lean -/

theorem Keeps.accept (h : s.Keeps t) {l : Link} {c : Cmd} : s.Keeps (State.accept t l c) := by
  unfold State.accept
  exact h.longBegin.answer

theorem Keeps.doCfgWrite (h : s.Keeps t) {l : Link} {c : Cmd} : s.Keeps (State.doCfgWrite t l c) := by
  unfold State.doCfgWrite
  exact .ite h.answer h.record.answer

theorem Keeps.doCfgAbort (h : s.Keeps t) {l : Link} {c : Cmd} : s.Keeps (State.doCfgAbort t l c) := by
  unfold State.doCfgAbort
  exact h.record.answer

theorem Keeps.doCfgInfo (h : s.Keeps t) {l : Link} {c : Cmd} : s.Keeps (State.doCfgInfo t l c) := by
  unfold State.doCfgInfo
  exact h.answer

theorem Keeps.doCfgRead (h : s.Keeps t) {l : Link} {c : Cmd} : s.Keeps (State.doCfgRead t l c) := by
  unfold State.doCfgRead
  exact .ite h.answer (.ite h.answer h.mramMeet.answer)

theorem Keeps.admitImage (h : s.Keeps t) {cand : State} {claimed gen : Nat} : s.Keeps (t.admitImage cand claimed gen).1 := by
  unfold State.admitImage
  extract_lets _ t1
  have h1 : s.Keeps t1 := .ite h.log h
  exact .ite h1 h1.log

theorem Keeps.phaseOne (h : s.Keeps t) {w : World} {listed recs : List Record} {cand : State} {claimed gen : Nat} {x : SlotContent} :
    s.Keeps (t.phaseOne w listed recs cand claimed gen x) := by
  unfold State.phaseOne
  split
  · exact h.longEnd
  · have ha := h.admitImage (cand := cand) (claimed := claimed) (gen := gen)
    generalize t.admitImage cand claimed gen = y at ha ⊢
    obtain ⟨u, v⟩ := y
    cases v with
    | zero => exact (Keeps.writeSlot ha).modLong
    | succ v => exact Keeps.longEnd ha

theorem Keeps.cfgPhaseOne (h : s.Keeps t) {c : Cmd} : s.Keeps (State.cfgPhaseOne t c) := by
  unfold State.cfgPhaseOne
  extract_lets -underBinder -merge _ _ _
  split
  · exact h.longEnd
  · exact .ite h.longEnd h.phaseOne

theorem Keeps.doCfgCommit (h : s.Keeps t) {l : Link} {c : Cmd} : s.Keeps (State.doCfgCommit t l c) := by
  unfold State.doCfgCommit
  exact h.accept.cfgPhaseOne

theorem Keeps.cfgPhaseTwo (h : s.Keeps t) : s.Keeps (State.cfgPhaseTwo t) := by
  unfold State.cfgPhaseTwo
  exact .ite (by
    extract_lets -underBinder -merge _ _ _
    split
    · exact h.longEnd
    · exact h.makeLive.record) h

theorem Keeps.syncAndReply (h : s.Keeps t) : s.Keeps (State.syncAndReply t) := by
  unfold State.syncAndReply
  extract_lets -underBinder -merge t1
  have h1 : s.Keeps t1 := h.configSync
  exact .ite h1.longEnd h1

theorem Keeps.doProgWrite (h : s.Keeps t) {l : Link} {c : Cmd} : s.Keeps (State.doProgWrite t l c) := by
  unfold State.doProgWrite
  exact .ite h.answer (.ite h.answer h.record.answer)

theorem Keeps.doDmemWrite (h : s.Keeps t) {l : Link} {c : Cmd} : s.Keeps (State.doDmemWrite t l c) := by
  unfold State.doDmemWrite
  exact .ite h.answer (.ite h.answer h.record.answer)

theorem Keeps.progPhaseOne (h : s.Keeps t) {c : Cmd} : s.Keeps (t.progPhaseOne c) := by
  unfold State.progPhaseOne
  extract_lets p gen nb nw prog recs cand x x' t1
  refine .ite h.longEnd ?_
  split
  · exact h.longEnd
  · refine .ite h.longEnd ?_
    have h1 : s.Keeps t1 := h.phaseOne
    clear_value t1
    exact .ite h1.modMill h1

theorem Keeps.doProgCommit (h : s.Keeps t) {l : Link} {c : Cmd} : s.Keeps (State.doProgCommit t l c) := by
  unfold State.doProgCommit
  exact .ite h.answer (.ite h.answer (.ite h.answer h.accept.progPhaseOne))

theorem Keeps.progPhaseTwo (h : s.Keeps t) : s.Keeps (State.progPhaseTwo t) := by
  unfold State.progPhaseTwo
  exact .ite (by
    extract_lets -underBinder -merge _ _ _ t1
    have h1 : s.Keeps t1 := h.modMill
    split
    · exact h1.longEnd
    · extract_lets -underBinder -merge _ _ _ t3 t4
      have h3 : s.Keeps t3 := h1.makeLive.modMill.applyChanges
      have h4 : s.Keeps t4 := .ite h3.dmemReload h3
      exact h4.longEnd) h

theorem Keeps.coefPhaseOne (h : s.Keeps t) {c : Cmd} : s.Keeps (t.coefPhaseOne c) := by
  unfold State.coefPhaseOne
  generalize coefOf c.payload = b
  obtain ⟨bank, o, ws⟩ := b
  dsimp -zeta only
  extract_lets -underBinder cand
  have ha := h.admitImage (cand := cand) (claimed := 0xFFFFFFFF) (gen := t.nextGen)
  generalize t.admitImage cand 0xFFFFFFFF t.nextGen = y at ha ⊢
  obtain ⟨u, v⟩ := y
  cases v with
  | zero => exact (Keeps.writeSlot ha).modLong
  | succ v => exact Keeps.longEnd ha

theorem Keeps.doCoefWrite (h : s.Keeps t) {l : Link} {c : Cmd} : s.Keeps (State.doCoefWrite t l c) := by
  unfold State.doCoefWrite
  split
  · exact .ite h.answer (.ite h.answer (.ite h.answer (.ite h.answer h.accept.coefPhaseOne)))

theorem setBank_canonical {x : Mill} {bank o : Nat} {ws : List Word} (h : x.Canonical) : (x.setBank bank o ws).Canonical := by
  unfold Mill.setBank
  split
  · exact { h with bankA := cellWf_wordSetAll _ _ _ h.bankA }
  · exact { h with bankB := cellWf_wordSetAll _ _ _ h.bankB }

theorem setBank_lanes (x : Mill) {bank o : Nat} {ws : List Word} (h : x.lanes.length = 4) : (x.setBank bank o ws).lanes.length = 4 := by
  unfold Mill.setBank
  split <;> exact h

theorem Keeps.coefPhaseTwo (h : s.Keeps t) : s.Keeps t.coefPhaseTwo := by
  unfold State.coefPhaseTwo
  refine .ite ?_ h
  generalize coefOf t.stew.longOp.payload = b
  obtain ⟨bank, o, ws⟩ := b
  dsimp -zeta only
  refine .ite h.longEnd (.ite h.longEnd ?_)
  extract_lets t1
  have h1 : s.Keeps t1 := h.makeLive
  clear_value t1
  exact .longEnd (h1.modMill (setBank_lanes _ ·) setBank_canonical)

theorem Keeps.doBankSwap (h : s.Keeps t) {l : Link} {c : Cmd} : s.Keeps (State.doBankSwap t l c) := by
  unfold State.doBankSwap
  exact h.requestSwap.answer

theorem Keeps.doTaskResume (h : s.Keeps t) {l : Link} {c : Cmd} : s.Keeps (State.doTaskResume t l c) := by
  unfold State.doTaskResume
  exact h.requestResume.answer

/-! ### Operations of Machine/Acquire.lean -/

theorem Keeps.intakeArrival (h : s.Keeps t) : s.Keeps (State.intakeArrival t) := by
  unfold State.intakeArrival
  split
  · exact .ite h.modAcq.intake.wvnTake h
  · exact h

theorem Keeps.streamsPublish (h : s.Keeps t) : s.Keeps (State.streamsPublish t) := by
  unfold State.streamsPublish
  split
  · exact .ite h.streamPublish.grnTake h
  · exact h

/-! ### Operations of Machine/Carrier.lean -/

theorem Keeps.pendingCarries (h : s.Keeps t) {c : Nat} : s.Keeps (State.pendingCarries t c) := by
  unfold State.pendingCarries
  exact .forAll h (fun _ _ h1 => .ite h1.clearCarries h1)

theorem Keeps.valleyWork (h : s.Keeps t) {c : Nat} {e : Nat} : s.Keeps (State.valleyWork t c e) := by
  unfold State.valleyWork
  extract_lets -underBinder -merge _ t2 t3 _ t5
  have h2 : s.Keeps t2 := .whenB h.modCar.raise.pendingCarries.applyPending (fun _ h1 => h1.followLegs)
  have h3 : s.Keeps t3 := .whenB h2 (fun _ h1 => h1.reload)
  have h5 : s.Keeps t5 := h3.wvnLatch.shfValley.ringValley.frames.rplCount'
  exact .ite h5.syncValley h5

theorem Keeps.carStops (h : s.Keeps t) {c : Nat} : s.Keeps (State.carStops t c) := by
  unfold State.carStops
  exact .forAll h.put (fun _ _ h1 => .ite h1.restLeg h1)

theorem Keeps.carrierValley (h : s.Keeps t) {c : Nat} : s.Keeps (State.carrierValley t c) := by
  unfold State.carrierValley
  exact .ite (by
    extract_lets -underBinder -merge t1
    have h1 : s.Keeps t1 := h.valleyWork
    exact .ite h1 h1.carStops) h

theorem Keeps.carrierPeak (h : s.Keeps t) {c : Nat} : s.Keeps (State.carrierPeak t c) := by
  unfold State.carrierPeak
  exact .ite (by
    extract_lets -underBinder -merge _ t2
    have h2 : s.Keeps t2 := .whenB h.modCar.raise (fun _ h1 => h1.reload)
    exact h2.frames) h

theorem Keeps.carrierCommit (h : s.Keeps t) {c : Nat} : s.Keeps (State.carrierCommit t c) := by
  unfold State.carrierCommit
  extract_lets -underBinder -merge t1
  have h1 : s.Keeps t1 := h.carrierPeak
  exact .ite h1.modCar.raise.millCommit h1

theorem Keeps.carrierStart (h : s.Keeps t) {c : Nat} : s.Keeps (State.carrierStart t c) := by
  unfold State.carrierStart
  exact .ite (.forAll h.put.abandonWindows.valleyWork (fun _ _ h1 => .ite h1.resumeLeg h1)) h

theorem Keeps.openingEdge (h : s.Keeps t) {l : Nat} : s.Keeps (State.openingEdge t l) := by
  unfold State.openingEdge
  exact .ite h.pulseOpens h

theorem Keeps.closingEdge (h : s.Keeps t) {l : Nat} : s.Keeps (t.closingEdge l) := by
  unfold State.closingEdge
  extract_lets x
  exact h.setOuts (fun _ => by cases x.ref <;> simp)

theorem Keeps.deadTimeEnd (h : s.Keeps t) {l : Nat} {high : Bool} : s.Keeps (t.deadTimeEnd l high) := by
  unfold State.deadTimeEnd
  extract_lets x t1
  split
  · refine .ite ?_ h
    have h1 : s.Keeps t1 := h.modLeg fun ha => by
      cases high <;> exact ha
    clear_value t1
    exact .ite (h1.setOuts (fun _ => by cases high <;> simp)) h1
  · exact h

theorem Keeps.dllStep (h : s.Keeps t) {o : Nat} {up inRange : Bool} : s.Keeps (t.dllStep o up inRange) := by
  unfold State.dllStep
  refine .ite (.ite ?_ h.dllFail) h
  extract_lets -underBinder _ t1
  have h1 : s.Keeps t1 :=
    h.record (hs := fun hs => { hs with trims := (length_upd _ _ _).trans hs.trims, lineStep := (length_upd _ _ _).trans hs.lineStep })
  exact h1.incW

theorem Keeps.interlock (h : s.Keeps t) {l : Nat} {seen : Bool} : s.Keeps (State.interlock t l seen) := by
  unfold State.interlock
  exact .ite h (.ite h.record.blockLeg.incS h.record)

theorem Keeps.tripLine (h : s.Keeps t) {k : Nat} {on : Bool} : s.Keeps (State.tripLine t k on) := by
  unfold State.tripLine
  extract_lets -underBinder -merge t1
  have h1 : s.Keeps t1 := .ite h.modTl h
  exact .ite (.ite h1.tlAct h1) (.ite h1.tlRest h1)

theorem Keeps.blankClose (h : s.Keeps t) {k : Nat} : s.Keeps (State.blankClose t k) := by
  unfold State.blankClose
  split
  · exact .ite (by
    extract_lets -underBinder -merge t1
    have h1 : s.Keeps t1 := h.modTl
    exact .ite h1.tlBlock h1) h
  · exact h

theorem Keeps.legResume (h : s.Keeps t) {l : Nat} : s.Keeps (State.legResume t l) := by
  unfold State.legResume
  exact .ite (.ite h.releaseLeg.resumeLeg (.ite h h.resumeLeg)) h

/-! ### Operations of Machine/Gate.lean -/

theorem Keeps.gdFaults (h : s.Keeps t) {n : Nat} : s.Keeps (State.gdFaults t n) := by
  unfold State.gdFaults
  extract_lets -underBinder -merge _ t2
  have h2 : s.Keeps t2 := .whenB (.whenB h (fun _ h1 => h1.gdFault)) (fun _ h1 => h1.gdFault)
  exact .whenB h2 (fun _ h1 => h1.gdFault)

theorem Keeps.gateSensed (h : s.Keeps t) {n : Nat} {gate : GateLevel} : s.Keeps (State.gateSensed t n gate) := by
  unfold State.gateSensed
  exact .whenB h.putB.modGd (fun _ h1 => h1.gdFault)

theorem Keeps.vdrv (h : s.Keeps t) {low : Bool} : s.Keeps (State.vdrv t low) := by
  unfold State.vdrv
  extract_lets -underBinder -merge _ t1 t2
  have h1 : s.Keeps t1 := h.putB
  have h2 : s.Keeps t2 := .whenB h1.putB (fun _ h1 => h1.raise)
  exact .ite h1 (.pumpFollow (.forAll h2 (fun _ _ h1 => .whenB h1 (fun _ h2 => h2.gdFault))))

theorem Keeps.fltPin (h : s.Keeps t) {l : Nat} {on : Bool} : s.Keeps (State.fltPin t l on) := by
  unfold State.fltPin
  extract_lets -underBinder -merge t1
  have h1 : s.Keeps t1 := h.putBit
  exact .ite h1.fltLatch h1

theorem Keeps.resistorTick (h : s.Keeps t) {n : Nat} : s.Keeps (State.resistorTick t n) := by
  unfold State.resistorTick
  exact .ite h.brkTick h

theorem Keeps.brkTestEnd (h : s.Keeps t) {n : Nat} : s.Keeps (State.brkTestEnd t n) := by
  unfold State.brkTestEnd
  split
  · exact .ite h.modBrk.brkStep h
  · exact h

/-! ### Operations of Machine/HostUnits.lean -/

theorem Keeps.doGranary (h : s.Keeps t) {l : Link} {c : Cmd} {ref : Bool} : s.Keeps (State.doGranary t l c ref) := by
  unfold State.doGranary
  exact h.hostSnapshot.answer

theorem Keeps.journalReply (h : s.Keeps t) {written : Bool} : s.Keeps (State.journalReply t written) := by
  unfold State.journalReply
  exact .ite h.longEnd h.drawn.longEnd

theorem Keeps.doJournalCommit (h : s.Keeps t) {l : Link} {c : Cmd} : s.Keeps (State.doJournalCommit t l c) := by
  unfold State.doJournalCommit
  extract_lets -underBinder -merge t1
  have h1 : s.Keeps t1 := h.accept
  exact .ite h1.journalReply h1.modLong.journalAsk

theorem Keeps.journalDoneReply (h : s.Keeps t) {ok : Bool} : s.Keeps (State.journalDoneReply t ok) := by
  unfold State.journalDoneReply
  exact .ite h (by
    extract_lets -underBinder -merge t1
    have h1 : s.Keeps t1 := h.journalDone
    exact .ite (.ite h1.journalReply h1.modLong) h1)

theorem Keeps.journalRecordDone (h : s.Keeps t) {ok : Bool} : s.Keeps (State.journalRecordDone t ok) := by
  unfold State.journalRecordDone
  exact .policyAfter h (fun _ h1 => h1.journalDoneReply)

theorem Keeps.doJournalRead (h : s.Keeps t) {l : Link} {c : Cmd} : s.Keeps (State.doJournalRead t l c) := by
  unfold State.doJournalRead
  exact .ite h.answer (.ite h.answer h.mramMeet.answer)

theorem Keeps.doGranaryPreset (h : s.Keeps t) {l : Link} {c : Cmd} : s.Keeps (t.doGranaryPreset l c) := by
  unfold State.doGranaryPreset
  extract_lets m
  refine .ite h.answer (.ite h.answer ?_)
  generalize meterTotals m = y
  obtain ⟨i, n⟩ := y
  dsimp -zeta only
  extract_lets t1
  have h1 : s.Keeps t1 := .ite h (h.forAll fun k _ hu => hu.setTotal.wr (Nat.lt_add_right _ (mode_lt_totalAddr (i + k))))
  exact h1.journalAsk.logUnnamed.answer

theorem Keeps.doUncleanRead (h : s.Keeps t) {l : Link} {c : Cmd} : s.Keeps (State.doUncleanRead t l c) := by
  unfold State.doUncleanRead
  exact h.answer

theorem Keeps.doFwInfo (h : s.Keeps t) {l : Link} {c : Cmd} : s.Keeps (State.doFwInfo t l c) := by
  unfold State.doFwInfo
  exact h.answer

theorem Keeps.fwBegin (h : s.Keeps t) : s.Keeps t.fwBegin := by
  unfold State.fwBegin
  split
  · exact h
  · extract_lets _ t1
    have h1 : s.Keeps t1 := h.fwWriteRecord
    clear_value t1
    exact h1.record

theorem Keeps.doFwWrite (h : s.Keeps t) {l : Link} {c : Cmd} : s.Keeps (State.doFwWrite t l c) := by
  unfold State.doFwWrite
  exact .ite h.answer (.ite h.answer h.fwBegin.mramWrite.answer)

theorem Keeps.doFwInstall (h : s.Keeps t) {l : Link} {c : Cmd} : s.Keeps (State.doFwInstall t l c) := by
  unfold State.doFwInstall
  exact .ite h.answer h.accept

theorem Keeps.fwInstalled (h : s.Keeps t) : s.Keeps t.fwInstalled := by
  unfold State.fwInstalled
  refine .ite ?_ h
  extract_lets _ _ _ done
  have hd : ∀ u, s.Keeps u → s.Keeps (done u) := fun _ hu => hu.record
  split
  · exact (hd _ h).longEnd
  · exact (hd _ h.fwWriteRecord).log.longEnd

theorem Keeps.doRingStatus (h : s.Keeps t) {l : Link} {c : Cmd} : s.Keeps (State.doRingStatus t l c) := by
  unfold State.doRingStatus
  exact h.answer

theorem Keeps.doRingJoin (h : s.Keeps t) {l : Link} {c : Cmd} : s.Keeps (State.doRingJoin t l c) := by
  unfold State.doRingJoin
  exact .ite h.answer (.answer (.policyAfter h (fun _ h1 => h1.ringJoin)))

theorem Keeps.doRingLeave (h : s.Keeps t) {l : Link} {c : Cmd} : s.Keeps (State.doRingLeave t l c) := by
  unfold State.doRingLeave
  exact .ite h.answer (.answer (.policyAfter h (fun _ h1 => h1.ringLeave)))

theorem Keeps.doRosterRead (h : s.Keeps t) {l : Link} {c : Cmd} : s.Keeps (State.doRosterRead t l c) := by
  unfold State.doRosterRead
  exact .ite h.answer (.ite h.answer h.answer)

theorem Keeps.doPresentRead (h : s.Keeps t) {l : Link} {c : Cmd} : s.Keeps (State.doPresentRead t l c) := by
  unfold State.doPresentRead
  exact h.answer

theorem Keeps.doSafeStatus (h : s.Keeps t) {l : Link} {c : Cmd} : s.Keeps (State.doSafeStatus t l c) := by
  unfold State.doSafeStatus
  exact h.answer

theorem Keeps.doSafeWrite (h : s.Keeps t) {l : Link} {c : Cmd} : s.Keeps (State.doSafeWrite t l c) := by
  unfold State.doSafeWrite
  exact .ite h.answer (.ite h.answer (.ite h.answer h.record.answer))

theorem Keeps.doSafeCommit (h : s.Keeps t) {l : Link} {c : Cmd} : s.Keeps (State.doSafeCommit t l c) := by
  unfold State.doSafeCommit
  exact .ite h.answer h.accept

theorem Keeps.safeCommitted (h : s.Keeps t) : s.Keeps (State.safeCommitted t) := by
  unfold State.safeCommitted
  exact .ite (by
    extract_lets -underBinder -merge _
    split
    · exact h.longEnd
    · exact h.commitBlock.longEnd) h

theorem Keeps.doSafeRead (h : s.Keeps t) {l : Link} {c : Cmd} : s.Keeps (State.doSafeRead t l c) := by
  unfold State.doSafeRead
  exact h.answer

theorem Keeps.doSafeDiag (h : s.Keeps t) {l : Link} {c : Cmd} : s.Keeps (State.doSafeDiag t l c) := by
  unfold State.doSafeDiag
  exact h.answer

theorem Keeps.doSafeRestart (h : s.Keeps t) {l : Link} {c : Cmd} : s.Keeps (State.doSafeRestart t l c) := by
  unfold State.doSafeRestart
  exact .answer (.policyAfter h (fun _ h1 => h1.islandBoot))

theorem Keeps.doPertSet (h : s.Keeps t) {l : Link} {c : Cmd} : s.Keeps (State.doPertSet t l c) := by
  unfold State.doPertSet
  extract_lets -underBinder -merge _ _ t2
  have h2 : s.Keeps t2 := .forAll h.regWrite (fun _ _ h1 => h1.regWrite)
  exact .ite h.answer h2.regWrite.answer

theorem Keeps.doLoupeArm (h : s.Keeps t) {l : Link} {c : Cmd} : s.Keeps (State.doLoupeArm t l c) := by
  unfold State.doLoupeArm
  exact .ite h.answer (.ite h.answer (.ite h.answer h.record.answer))

theorem Keeps.doLoupeRead (h : s.Keeps t) {l : Link} {c : Cmd} : s.Keeps (State.doLoupeRead t l c) := by
  unfold State.doLoupeRead
  exact .ite h.answer h.answer

theorem Keeps.tapCode (h : s.Keeps t) {code : BitVec 8} : s.Keeps (State.tapCode t code) := by
  unfold State.tapCode
  exact h.record

theorem Keeps.keyLoad (h : s.Keeps t) {slot : Nat} {key : List Byte} : s.Keeps (t.keyLoad slot key) := by
  unfold State.keyLoad
  refine .ite h (.ite h.tapCode ?_)
  extract_lets -underBinder t1
  have h1 : s.Keeps t1 := h.tapCode
  clear_value t1
  exact h1.record (hs := fun hs => { hs with keys := (length_upd _ _ _).trans hs.keys })

theorem Keeps.provision (h : s.Keeps t) {v : Byte} : s.Keeps (State.provision t v) := by
  unfold State.provision
  exact .ite h (.ite h.tapCode.record h.tapCode)

theorem Keeps.tapScan (h : s.Keeps t) {x : TapScan} : s.Keeps (t.tapScan x) := by
  unfold State.tapScan
  extract_lets -underBinder shown through cells
  have hs : ∀ out, s.Keeps (shown out) := fun _ => h.record
  have hc : s.Keeps (cells ()) := by
    unfold cells
    extract_lets -underBinder t1
    have h1 : s.Keeps t1 := (hs _).drawn
    exact h1.record
  refine .ite h ?_
  split
  · exact hs _
  · exact hs _
  · exact hc
  · exact hc
  · exact h.keyLoad
  · exact h.provision

/-! ### Operations of Machine/HostDispatch.lean -/

theorem Keeps.execute (h : s.Keeps t) {l : Link} {c : Cmd} : s.Keeps (State.execute t l c) := by
  unfold State.execute
  split
  · exact h.doHello
  · exact h.doSync
  · exact h.doReplay
  · exact h.doOpStatus
  · exact h.doSessionOpen
  · exact h.doSessionClose
  · exact h.doPortSet
  · exact h.doRegRead
  · exact h.doRegWrite
  · exact h.doStatus
  · exact h.doModeSet
  · exact h.doLtrSet
  · exact h.doReset
  · exact h.doCfgWrite
  · exact h.doCfgCommit
  · exact h.doCfgAbort
  · exact h.doCfgInfo
  · exact h.doCfgRead
  · exact h.doProgWrite
  · exact h.doProgCommit
  · exact h.doDmemWrite
  · exact h.doCoefWrite
  · exact h.doBankSwap
  · exact h.doTaskResume
  · exact h.doGranary
  · exact h.doGranary
  · exact h.doJournalCommit
  · exact h.doJournalRead
  · exact h.doGranaryPreset
  · exact h.doUncleanRead
  · exact h.doLogRead
  · exact h.doLogInfo
  · exact h.doCrierSet
  · exact h.doAttnRead
  · exact h.doAttnMask
  · exact h.doFwInfo
  · exact h.doFwWrite
  · exact h.doFwInstall
  · exact h.doRingStatus
  · exact h.doRingJoin
  · exact h.doRingLeave
  · exact h.doRosterRead
  · exact h.doPresentRead
  · exact h.doSafeStatus
  · exact h.doSafeWrite
  · exact h.doSafeCommit
  · exact h.doSafeRead
  · exact h.doSafeDiag
  · exact h.doSafeRestart
  · exact h.doPertSet
  · exact h.doLoupeArm
  · exact h.doLoupeRead
  · exact h

theorem Keeps.takePacket (h : s.Keeps t) {l : Link} {b : List Byte} : s.Keeps (State.takePacket t l b) := by
  unfold State.takePacket
  exact .ite h.answerRaw (.receive h (fun _ h1 => h1.execute))

theorem Keeps.spiWrite (h : s.Keeps t) {b : List Byte} : s.Keeps (State.spiWrite t b) := by
  unfold State.spiWrite
  exact .ite h (.ite h.discard (.ite h.answerRaw h.takePacket))

theorem Keeps.uartTake (h : s.Keeps t) {b : List Byte} : s.Keeps (State.uartTake t b) := by
  unfold State.uartTake
  exact .ite h h.takePacket

theorem Keeps.uartRun (h : s.Keeps t) {b : List Byte} : s.Keeps (State.uartRun t b) := by
  unfold State.uartRun
  exact .foldl h (fun _ _ h1 => h1.uartTake)

theorem Keeps.takeCommand (h : s.Keeps t) {opcode : Nat} {l : Link} {h' : Hdr} {p : List Byte} : s.Keeps (State.takeCommand t opcode l h' p) := by
  unfold State.takeCommand
  exact .ite (.ite h (.ite h.discard (.receive h (fun _ h1 => h1.execute)))) (by
    split
    · exact h.spiWrite
    · exact h.uartRun)

theorem Keeps.command (h : s.Keeps t) {opcode : Nat} {l : Link} {h' : Hdr} {p : List Byte} : s.Keeps (State.command t opcode l h' p) := by
  unfold State.command
  exact h.takeCommand.hostMoves

/-! ### Operations of Machine/Island.lean -/

theorem Keeps.islandDoes (h : s.Keeps t) {f : State → State} (hf : ∀ u, s.Keeps u → s.Keeps (f u)) : s.Keeps (State.islandDoes t f) := by
  unfold State.islandDoes
  exact .policyAfter h (fun _ h1 => (hf _ h1).limpIf)

/-! ### Operations of Machine/Power.lean -/

theorem Keeps.pinReset (h : s.Keeps t) : s.Keeps (State.pinReset t) := by
  unfold State.pinReset
  exact .ite h.keepWake h.systemReset

/-! ### Operations of Machine/Windows.lean -/

theorem Keeps.winWakes (h : s.Keeps t) {w : Nat} : s.Keeps (State.winWakes t w) := by
  unfold State.winWakes
  exact .whenB h (fun _ h1 => h1.wake)

theorem Keeps.ceilCrossing (h : s.Keeps t) {w : Nat} {v : Int} : s.Keeps (State.ceilCrossing t w v) := by
  unfold State.ceilCrossing
  exact .ite h.judgeCmp.cmpSummary.winWakes h

theorem Keeps.samplingTick (h : s.Keeps t) : s.Keeps (State.samplingTick t) := by
  unfold State.samplingTick
  exact .ite (.forAll h (fun _ _ h1 => .ite h1.modWin (.ite h1.winWakes h1))) h

theorem Keeps.sampledDecision (h : s.Keeps t) {w : Nat} {v : Int} : s.Keeps (State.sampledDecision t w v) := by
  unfold State.sampledDecision
  split
  · exact .ite (by
    extract_lets -underBinder -merge t1
    have h1 : s.Keeps t1 := h.modWin
    exact .ite h1 h1.judgeWin.cmpSummary.winWakes) h
  · exact h

theorem Keeps.settlingEnd (h : s.Keeps t) {w : Nat} {v : Int} : s.Keeps (State.settlingEnd t w v) := by
  unfold State.settlingEnd
  exact .ite h.settleCmp.settleCmp.settleCmp.clr.cmpSummary.winWakes h

/-! ### Operations of Machine/Tick.lean -/

theorem Keeps.tick (h : s.Keeps t) : s.Keeps (State.tick t) := by
  unfold State.tick
  extract_lets -underBinder -merge t1 t2 _ t4 t5
  have h1 : s.Keeps t1 := .ite h.digestFlush.millTick.emuLag h
  have h2 : s.Keeps t2 := .ite h1.refTick.countTick h1
  have h4 : s.Keeps t4 := h2.record.endEvent
  have h5 : s.Keeps t5 := .ite h4 (.forAll h4 (fun _ _ h1 => h1.tlWritten))
  exact .ite h5.dmaTick.winTick.rplFinish h5

/-! ### Operations of Machine/Step.lean -/

end State

/-! ### Every command -/

/-- A command answers a next state, which its meaning leads to by operations that keep the invariants. -/
theorem exec_keeps (c : Instr) (s : State) : ∃ t, exec c s = .next t ∧ s.Keeps t := by
  have h := State.Keeps.refl s
  cases c with
  | registerWrite => exact ⟨_, rfl, h.write⟩
  | blockLock => exact ⟨_, rfl, .ite h.write h⟩
  | refLost => exact ⟨_, rfl, h.refLost⟩
  | syn0Lost => exact ⟨_, rfl, h.syn0Lost⟩
  | syn1Lost => exact ⟨_, rfl, h.syn1Lost⟩
  | syn0Lock => exact ⟨_, rfl, h.syn0Lock⟩
  | trimWrite => exact ⟨_, rfl, h.write⟩
  | rampStart => exact ⟨_, rfl, h.write⟩
  | rampAbort => exact ⟨_, rfl, h.write⟩
  | rampTick => exact ⟨_, rfl, h.rampTick⟩
  | rampSegmentEnd => exact ⟨_, rfl, h.rampSegmentEnd⟩
  | sscWrite => exact ⟨_, rfl, h.write⟩
  | tbLoRead => exact ⟨_, rfl, h.read⟩
  | compareTargetLoad => exact ⟨_, rfl, h.write⟩
  | compareEnable => exact ⟨_, rfl, h.write⟩
  | compareMatch => exact ⟨_, rfl, h.cmpMatch⟩
  | captureLoRead => exact ⟨_, rfl, h.read⟩
  | captureHiRead => exact ⟨_, rfl, h.read⟩
  | rtcSet => exact ⟨_, rfl, h.write⟩
  | rtcLoRead => exact ⟨_, rfl, h.read⟩
  | rtcTbLoRead => exact ⟨_, rfl, h.read⟩
  | rtcSecond => exact ⟨_, rfl, .ite h h.rtcSecond.alarm⟩
  | rtcTrimInterval => exact ⟨_, rfl, h.rtcTrimInterval⟩
  | pertEnable => exact ⟨_, rfl, h.write⟩
  | rplStart => exact ⟨_, rfl, h.write⟩
  | rplAbort => exact ⟨_, rfl, h.write⟩
  | rplEngineStart => exact ⟨_, rfl, h.rplEngineStart⟩
  | rplReplayMatch => exact ⟨_, rfl, h.rplReplayMatch⟩
  | rplPhaseTimeout => exact ⟨_, rfl, h.rplPhaseTimeout⟩
  | rplRecordSlot => exact ⟨_, rfl, h.rplRecordSlot⟩
  | rplReplaySlot => exact ⟨_, rfl, h.rplReplaySlot⟩
  | conversionSlot => exact ⟨_, rfl, h.conversionSlot⟩
  | intakeArrival => exact ⟨_, rfl, h.intakeArrival⟩
  | acqDataRead => exact ⟨_, rfl, h.read⟩
  | acqEnableWrite => exact ⟨_, rfl, h.write⟩
  | acqStart => exact ⟨_, rfl, h.acqStart⟩
  | acqStop => exact ⟨_, rfl, h.acqStop⟩
  | configSyncInstant => exact ⟨_, rfl, h.syncAndReply⟩
  | acqCalDone => exact ⟨_, rfl, h.acqCalDone⟩
  | spareBlockEnd => exact ⟨_, rfl, h.blockEnd⟩
  | sliceCalEnd => exact ⟨_, rfl, h.sliceCalEnd⟩
  | trimDecay => exact ⟨_, rfl, h.trimDecay⟩
  | spareReferenceEnd => exact ⟨_, rfl, h.spareReferenceEnd⟩
  | spareRotationWrite => exact ⟨_, rfl, h.write⟩
  | windowOpen => exact ⟨_, rfl, h.windowOpen⟩
  | windowClose => exact ⟨_, rfl, h.windowClose⟩
  | windowPublish => exact ⟨_, rfl, h.windowPublish⟩
  | prismSnapshot => exact ⟨_, rfl, h.write⟩
  | streamIntervalEnd => exact ⟨_, rfl, h.streamEnd⟩
  | streamPublish => exact ⟨_, rfl, h.streamsPublish⟩
  | wvnSampleEnd => exact ⟨_, rfl, h.sampleEnd⟩
  | wvnSampleOutput => exact ⟨_, rfl, h.sampleOutput⟩
  | wvnLock => exact ⟨_, rfl, h.sampled fun _ h1 => h1.wvnLock⟩
  | wvnValidLoss => exact ⟨_, rfl, h.sampled fun _ h1 => h1.validLoss⟩
  | phaseJump => exact ⟨_, rfl, h.sampled fun _ h1 => h1.phaseJump⟩
  | shadowResyncWrite => exact ⟨_, rfl, h.write⟩
  | shadowResyncDone => exact ⟨_, rfl, h.sampled fun _ h1 => h1.resyncDone⟩
  | vsPickupHoldEnd => exact ⟨_, rfl, h.sampled fun _ h1 => h1.vsHoldEnd⟩
  | islandDeclare => exact ⟨_, rfl, h.sampled fun _ h1 => h1.islandDeclare⟩
  | activeEstimate => exact ⟨_, rfl, h.activeEstimate⟩
  | islandClear => exact ⟨_, rfl, h.write⟩
  | frtTransition => exact ⟨_, rfl, h.sampled fun _ h1 => h1.frtTransition⟩
  | frtConfirmElapsed => exact ⟨_, rfl, h.sampled fun _ h1 => h1.frtConfirm⟩
  | frtRecoverElapsed => exact ⟨_, rfl, h.sampled fun _ h1 => h1.frtRecover⟩
  | frtClear => exact ⟨_, rfl, h.write⟩
  | frtDisable => exact ⟨_, rfl, h.write⟩
  | mpptDitherEnd => exact ⟨_, rfl, .ite h.mppPeriod h⟩
  | mpptScanRequest => exact ⟨_, rfl, h.write⟩
  | mpptScanStep => exact ⟨_, rfl, .ite h.mppPeriod h⟩
  | carrierValley => exact ⟨_, rfl, h.carrierValley⟩
  | carrierPeak => exact ⟨_, rfl, h.carrierPeak⟩
  | loomCommitInstant => exact ⟨_, rfl, h.carrierCommit⟩
  | carrierControlWrite => exact ⟨_, rfl, h.write⟩
  | carrierStart => exact ⟨_, rfl, h.carrierStart⟩
  | compareShadowWrite => exact ⟨_, rfl, h.write⟩
  | pulseOpeningEdge => exact ⟨_, rfl, h.openingEdge⟩
  | pulseClosingEdge => exact ⟨_, rfl, h.closingEdge⟩
  | deadTimeEnd => exact ⟨_, rfl, h.deadTimeEnd⟩
  | dllLocked => exact ⟨_, rfl, .ite h.set1 h⟩
  | dllTrimStep => exact ⟨_, rfl, h.dllStep⟩
  | interlock => exact ⟨_, rfl, h.interlock⟩
  | tripLineAct => exact ⟨_, rfl, h.tripLine⟩
  | blankClose => exact ⟨_, rfl, h.blankClose⟩
  | tripLineCfgWrite => exact ⟨_, rfl, h.write⟩
  | tripLineMaskWrite => exact ⟨_, rfl, h.write⟩
  | unblockRequest => exact ⟨_, rfl, h.write⟩
  | legResume => exact ⟨_, rfl, h.legResume⟩
  | gdCtrlWrite => exact ⟨_, rfl, h.write⟩
  | cpOkChange => exact ⟨_, rfl, .ite h h.cpOk⟩
  | gdFault => exact ⟨_, rfl, h.gdFaults⟩
  | gdMismatch => exact ⟨_, rfl, .ite h h.gateSensed⟩
  | gdFaultClear => exact ⟨_, rfl, h.write⟩
  | fltAssert => exact ⟨_, rfl, .ite h h.fltPin⟩
  | groupStaggerBlock => exact ⟨_, rfl, h.staggerBlock⟩
  | fltLatchClear => exact ⟨_, rfl, h.write⟩
  | groupTripClear => exact ⟨_, rfl, h.write⟩
  | vtripClear => exact ⟨_, rfl, h.write⟩
  | brkMinTimeElapsed => exact ⟨_, rfl, h.brkStep⟩
  | resistorModelTick => exact ⟨_, rfl, h.resistorTick⟩
  | brkBudgetSpent => exact ⟨_, rfl, .ite h h.brkStep⟩
  | brkTestGo => exact ⟨_, rfl, h.write⟩
  | brkTestEnd => exact ⟨_, rfl, h.brkTestEnd⟩
  | ceilCrossing => exact ⟨_, rfl, h.ceilCrossing⟩
  | comparatorChange => exact ⟨_, rfl, .ite h.judgeCmp.cmpSummary.winWakes h⟩
  | samplingTick => exact ⟨_, rfl, h.samplingTick⟩
  | sampledDecision => exact ⟨_, rfl, h.sampledDecision⟩
  | windowMonitorStart => exact ⟨_, rfl, .ite h.winStart h⟩
  | settlingEnd => exact ⟨_, rfl, h.settlingEnd⟩
  | wakeSample => exact ⟨_, rfl, h.wakeSample⟩
  | granaryInterval => exact ⟨_, rfl, h.grnInterval⟩
  | zxTimeout => exact ⟨_, rfl, h.zxTimeout⟩
  | nozxCycleClose => exact ⟨_, rfl, h.nozxClose⟩
  | dcBlockClose => exact ⟨_, rfl, h.blockClose⟩
  | epoPulseStart => exact ⟨_, rfl, h.epoPulseStart⟩
  | epoPulseEnd => exact ⟨_, rfl, h.epoPulseEnd⟩
  | granarySnapGo => exact ⟨_, rfl, h.write⟩
  | granarySnapshotTaken => exact ⟨_, rfl, h.snapshotTaken⟩
  | granaryLoRead => exact ⟨_, rfl, h.read⟩
  | journalPeriod => exact ⟨_, rfl, h.journalTick⟩
  | journalCommitWrite => exact ⟨_, rfl, h.write⟩
  | journalRecordDone => exact ⟨_, rfl, h.journalRecordDone⟩
  | quadratureStep => exact ⟨_, rfl, h.encStep⟩
  | illegalTransition => exact ⟨_, rfl, h.encIllegal⟩
  | index => exact ⟨_, rfl, h.encIndex⟩
  | ssiReadDone => exact ⟨_, rfl, h.ssiDone⟩
  | shfDeposit => exact ⟨_, rfl, h.shfDeposit⟩
  | stillTimeout => exact ⟨_, rfl, h.encStill⟩
  | emulationStep => exact ⟨_, rfl, h.emuStep⟩
  | roundIssue => exact ⟨_, rfl, h.roundIssue⟩
  | insertionLatch => exact ⟨_, rfl, h.insertionLatch⟩
  | copyPassage => exact ⟨_, rfl, h.policyAfter fun _ h1 => h1.copyPassage⟩
  | roundDelivery => exact ⟨_, rfl, h.policyAfter fun _ h1 => h1.roundDelivery⟩
  | probe => exact ⟨_, rfl, h.ringMessage fun _ h1 => h1.ringProbe⟩
  | echo => exact ⟨_, rfl, h.ringMessage fun _ h1 => h1.ringEcho⟩
  | knock => exact ⟨_, rfl, h.ringMessage (fun _ h1 => h1.ringTakes (fun _ h2 => h2.ringKnock))⟩
  | admitted => exact ⟨_, rfl, h.policyAfter (fun _ h1 => h1.ringMessage (fun _ h2 => h2.ringTakes (fun _ h3 => h3.ringAdmit)))⟩
  | refuse => exact ⟨_, rfl, h.ringMessage (fun _ h1 => h1.ringTakes (fun _ h2 => h2.ringRefuse))⟩
  | leave => exact ⟨_, rfl, h.ringMessage (fun _ h1 => h1.ringTakes (fun _ h2 => h2.dropMember))⟩
  | links => exact ⟨_, rfl, h.ringMessage (fun _ h1 => h1.ringTakes (fun _ h2 => h2.ringLinks))⟩
  | roster => exact ⟨_, rfl, h.policyAfter (fun _ h1 => h1.ringMessage (fun _ h2 => h2.ringTakes (fun _ h3 => h3.ringRoster)))⟩
  | present => exact ⟨_, rfl, h.policyAfter (fun _ h1 => h1.ringMessage (fun _ h2 => h2.ringTakes (fun _ h3 => h3.ringPresent)))⟩
  | generationChange => exact ⟨_, rfl, h.policyAfter fun _ h1 => h1.generationChange⟩
  | memberLost => exact ⟨_, rfl, h.memberLost⟩
  | standbyTakeover => exact ⟨_, rfl, h.policyAfter fun _ h1 => h1.standbyTakeover⟩
  | ringLockGain => exact ⟨_, rfl, h.ringLockGain⟩
  | ringLockLoss => exact ⟨_, rfl, h.ringLockLoss⟩
  | portInputLost => exact ⟨_, rfl, .ite h h.portLoss⟩
  | unwrap => exact ⟨_, rfl, h.unwrap⟩
  | portEnableWrite => exact ⟨_, rfl, h.write⟩
  | joinWrite => exact ⟨_, rfl, h.write⟩
  | leaveWrite => exact ⟨_, rfl, h.write⟩
  | txLatchWrite => exact ⟨_, rfl, h.write⟩
  | inputInstant => exact ⟨_, rfl, h.inputInstant⟩
  | policyHold => exact ⟨_, rfl, h.policyHold⟩
  | policyFallback => exact ⟨_, rfl, h.policyFallback⟩
  | policyTrip => exact ⟨_, rfl, h.policyTrip⟩
  | taskStart => exact ⟨_, rfl, h.taskStart⟩
  | programEndReached => exact ⟨_, rfl, h.programEnd⟩
  | millEccFatal => exact ⟨_, rfl, .ite h.millFatal.limp h⟩
  | opNop => exact ⟨_, rfl, h.alu fun _ _ _ => h⟩
  | opAdd => exact ⟨_, rfl, h.aluArith⟩
  | opSub => exact ⟨_, rfl, h.aluArith⟩
  | opMul => exact ⟨_, rfl, h.aluArith⟩
  | opMin => exact ⟨_, rfl, h.aluArith⟩
  | opMax => exact ⟨_, rfl, h.aluArith⟩
  | opAbs => exact ⟨_, rfl, h.aluArith⟩
  | opNeg => exact ⟨_, rfl, h.aluArith⟩
  | opSat => exact ⟨_, rfl, h.aluArith⟩
  | opCvtqf => exact ⟨_, rfl, h.alu fun _ _ _ => h.taskFlags.postReg⟩
  | opCvtfq => exact ⟨_, rfl, h.alu fun _ _ _ => h.taskFlags.postReg⟩
  | opAnd => exact ⟨_, rfl, h.aluBits⟩
  | opOr => exact ⟨_, rfl, h.aluBits⟩
  | opXor => exact ⟨_, rfl, h.aluBits⟩
  | opShl => exact ⟨_, rfl, h.aluBits⟩
  | opShra => exact ⟨_, rfl, h.aluBits⟩
  | opCmplt => exact ⟨_, rfl, h.aluCmp⟩
  | opCmple => exact ⟨_, rfl, h.aluCmp⟩
  | opCmpeq => exact ⟨_, rfl, h.aluCmp⟩
  | opSel => exact ⟨_, rfl, h.aluBits⟩
  | opMovx => exact ⟨_, rfl, h.alu fun _ _ _ => h.postReg⟩
  | opMovacc => exact ⟨_, rfl, h.alu fun _ _ _ => h.taskFlags.postReg⟩
  | opLdil => exact ⟨_, rfl, h.aluBits⟩
  | opLdih => exact ⟨_, rfl, h.aluBits⟩
  | opSeta => exact ⟨_, rfl, h.alu fun _ _ _ => h.post⟩
  | opClarke => exact ⟨_, rfl, h.aluPair⟩
  | opPark => exact ⟨_, rfl, h.aluPair⟩
  | opIpark => exact ⟨_, rfl, h.aluPair⟩
  | opSincos => exact ⟨_, rfl, h.alu fun _ _ _ => h.taskFlags.postReg.postReg⟩
  | opBiq => exact ⟨_, rfl, h.alu fun _ _ _ => h.biquad⟩
  | opIntc => exact ⟨_, rfl, h.alu fun _ _ _ => h.integrate⟩
  | opInterp => exact ⟨_, rfl, h.alu fun _ _ _ => h.interpolate⟩
  | opDiv => exact ⟨_, rfl, h.alu fun _ _ _ => h.divide⟩
  | opSqrt => exact ⟨_, rfl, h.alu fun _ _ _ => h.squareRoot⟩
  | opEnd => exact ⟨_, rfl, h.alu fun _ _ _ => h.taskEnd⟩
  | opSev => exact ⟨_, rfl, h.alu fun _ _ _ => h.raise⟩
  | opBswp => exact ⟨_, rfl, h.alu fun _ _ _ => h.requestSwap⟩
  | illegalOp =>
    refine ⟨_, rfl, ?_⟩
    split
    · exact .ite h.taskFlags h
    · exact h
  | macAccumulate => exact ⟨_, rfl, h.mac⟩
  | macSet => exact ⟨_, rfl, h.mac⟩
  | macSubtract => exact ⟨_, rfl, h.mac⟩
  | opLoad => exact ⟨_, rfl, h.laneLoad⟩
  | opStore => exact ⟨_, rfl, h.laneStore⟩
  | swapWrite => exact ⟨_, rfl, h.write⟩
  | resumeWrite => exact ⟨_, rfl, h.write⟩
  | revertWrite => exact ⟨_, rfl, h.write⟩
  | scrubCycle => exact ⟨_, rfl, h.scrubCycle⟩
  | mramRefresh => exact ⟨_, rfl, h.mramRefresh⟩
  | dmaGo => exact ⟨_, rfl, h.write⟩
  | dmaAbort => exact ⟨_, rfl, h.write⟩
  | dmaCfgWrite => exact ⟨_, rfl, h.write⟩
  | dmaBeat => exact ⟨_, rfl, h.dmaBeat⟩
  | eventDelivery => exact ⟨_, rfl, h.eventDelivery⟩
  | eventForce => exact ⟨_, rfl, h.write⟩
  | spiWrite => exact ⟨_, rfl, h.spiWrite.hostMoves⟩
  | spiRead => exact ⟨_, rfl, h.spiRead.hostMoves⟩
  | spiStatus => exact ⟨_, rfl, h⟩
  | uartPacket => exact ⟨_, rfl, h.uartRun.hostMoves⟩
  | baudChange => exact ⟨_, rfl, h.baudChange⟩
  | sessionTimeout => exact ⟨_, rfl, h.sessionTimeout⟩
  | sessionBlockEnd => exact ⟨_, rfl, h.sessionBlockEnd⟩
  | crierTelemetry => exact ⟨_, rfl, h.crierSend⟩
  | hello => exact ⟨_, rfl, h.command⟩
  | sync => exact ⟨_, rfl, h.command⟩
  | replay => exact ⟨_, rfl, h.command⟩
  | opStatus => exact ⟨_, rfl, h.command⟩
  | sessionOpen => exact ⟨_, rfl, h.command⟩
  | sessionClose => exact ⟨_, rfl, h.command⟩
  | portSet => exact ⟨_, rfl, h.command⟩
  | regRead => exact ⟨_, rfl, h.command⟩
  | regWrite => exact ⟨_, rfl, h.command⟩
  | status => exact ⟨_, rfl, h.command⟩
  | modeSet => exact ⟨_, rfl, h.command⟩
  | ltrSet => exact ⟨_, rfl, h.command⟩
  | holdEnd => exact ⟨_, rfl, h.holdEnds⟩
  | reset => exact ⟨_, rfl, h.command⟩
  | commandReset => exact ⟨_, rfl, h.commandReset⟩
  | cfgWrite => exact ⟨_, rfl, h.command⟩
  | cfgCommit => exact ⟨_, rfl, h.command⟩
  | cfgCommitComplete => exact ⟨_, rfl, h.cfgPhaseTwo⟩
  | cfgAbort => exact ⟨_, rfl, h.command⟩
  | cfgInfo => exact ⟨_, rfl, h.command⟩
  | cfgRead => exact ⟨_, rfl, h.command⟩
  | progWrite => exact ⟨_, rfl, h.command⟩
  | progCommit => exact ⟨_, rfl, h.command⟩
  | progCommitComplete => exact ⟨_, rfl, h.progPhaseTwo⟩
  | dmemImageWrite => exact ⟨_, rfl, h.command⟩
  | coefWrite => exact ⟨_, rfl, h.command⟩
  | coefWriteComplete => exact ⟨_, rfl, h.coefPhaseTwo⟩
  | bankSwap => exact ⟨_, rfl, h.command⟩
  | taskResume => exact ⟨_, rfl, h.command⟩
  | granaryRead => exact ⟨_, rfl, h.command⟩
  | granarySnapshot => exact ⟨_, rfl, h.command⟩
  | journalCommit => exact ⟨_, rfl, h.command⟩
  | journalRead => exact ⟨_, rfl, h.command⟩
  | granaryPreset => exact ⟨_, rfl, h.command⟩
  | uncleanRead => exact ⟨_, rfl, h.command⟩
  | logRead => exact ⟨_, rfl, h.command⟩
  | logInfo => exact ⟨_, rfl, h.command⟩
  | crierSet => exact ⟨_, rfl, h.command⟩
  | attnRead => exact ⟨_, rfl, h.command⟩
  | attnMask => exact ⟨_, rfl, h.command⟩
  | fwInfo => exact ⟨_, rfl, h.command⟩
  | fwWrite => exact ⟨_, rfl, h.command⟩
  | fwInstall => exact ⟨_, rfl, h.command⟩
  | fwInstallComplete => exact ⟨_, rfl, h.fwInstalled⟩
  | ringStatus => exact ⟨_, rfl, h.command⟩
  | ringJoin => exact ⟨_, rfl, h.command⟩
  | ringLeave => exact ⟨_, rfl, h.command⟩
  | rosterRead => exact ⟨_, rfl, h.command⟩
  | presentRead => exact ⟨_, rfl, h.command⟩
  | safeStatus => exact ⟨_, rfl, h.command⟩
  | safeParamWrite => exact ⟨_, rfl, h.command⟩
  | safeParamCommit => exact ⟨_, rfl, h.command⟩
  | safeParamCommitComplete => exact ⟨_, rfl, h.safeCommitted⟩
  | safeParamRead => exact ⟨_, rfl, h.command⟩
  | safeDiagRead => exact ⟨_, rfl, h.command⟩
  | safeRestart => exact ⟨_, rfl, h.command⟩
  | pertSet => exact ⟨_, rfl, h.command⟩
  | loupeArm => exact ⟨_, rfl, h.command⟩
  | loupeRead => exact ⟨_, rfl, h.command⟩
  | inputSample => exact ⟨_, rfl, h.inputSample⟩
  | testPulseStart => exact ⟨_, rfl, h.pulseStart⟩
  | testPulseEnd => exact ⟨_, rfl, h.islandDoes fun _ h1 => h1.pulseEnd⟩
  | mirrorScan => exact ⟨_, rfl, h.islandDoes fun _ h1 => h1.mirrorScan⟩
  | discrepancyFault => exact ⟨_, rfl, h.islandDoes fun _ h1 => h1.discrepancy⟩
  | inputFaultClear => exact ⟨_, rfl, h.islandDoes fun _ h1 => h1.faultClear⟩
  | sdcOvervoltage => exact ⟨_, rfl, h.islandDoes fun _ h1 => h1.overVoltage⟩
  | outputDelayExpiry => exact ⟨_, rfl, h.islandDoes fun _ h1 => h1.delayExpiry⟩
  | edmTimeout => exact ⟨_, rfl, h.islandDoes fun _ h1 => h1.edmTimeout⟩
  | outputReadbackFault => exact ⟨_, rfl, h.islandDoes fun _ h1 => h1.readbackFault⟩
  | commandDisagreement => exact ⟨_, rfl, h.islandDoes fun _ h1 => h1.commandDisagree⟩
  | crossLinkFault => exact ⟨_, rfl, h.islandDoes fun _ h1 => h1.crossLinkFault⟩
  | oscCheck => exact ⟨_, rfl, h.islandDoes fun _ h1 => h1.oscCheck⟩
  | paramCrcCheck => exact ⟨_, rfl, h.islandDoes fun _ h1 => h1.paramCheck⟩
  | romCrcCheck => exact ⟨_, rfl, h.islandDoes fun _ h1 => h1.romCheck⟩
  | mirrorSupplyFault => exact ⟨_, rfl, h.islandDoes fun _ h1 => h1.mirrorSupply⟩
  | connectionWatchdog => exact ⟨_, rfl, h.connExpire⟩
  | connectionFault => exact ⟨_, rfl, h.connFault⟩
  | connectionFaultClear => exact ⟨_, rfl, h.connFaultClear⟩
  | degradedTimeout => exact ⟨_, rfl, h.connDegradedEnd⟩
  | islandBootEnd => exact ⟨_, rfl, h.islandDoes fun _ h1 => h1.islandBootEnd⟩
  | pinReset => exact ⟨_, rfl, h.pinReset⟩
  | watchdogReset => exact ⟨_, rfl, h.systemReset⟩
  | lockstepReset => exact ⟨_, rfl, h.systemReset⟩
  | brownOut => exact ⟨_, rfl, h.brownOut⟩
  | supplyReturn => exact ⟨_, rfl, h.supplyReturn⟩
  | vbakLoss => exact ⟨_, rfl, h.vbakLoss⟩
  | bootComplete => exact ⟨_, rfl, h.bootComplete⟩
  | pfailAssert => exact ⟨_, rfl, h.pfailAssert⟩
  | pfailDeassert => exact ⟨_, rfl, h.pfailDeassert⟩
  | syn1Lock => exact ⟨_, rfl, h.syn1Lock⟩
  | meterEnableWrite => exact ⟨_, rfl, h.write⟩
  | sysLtrWrite => exact ⟨_, rfl, h.write⟩
  | uartPacketSent => exact ⟨_, rfl, h.uartSent.hostMoves⟩
  | mirrorRegulatorPowerOn => exact ⟨_, rfl, h.islandDoes fun _ h1 => h1.mirrorPowerOn⟩
  | vdrvUndervoltage => exact ⟨_, rfl, h.vdrv⟩
  | keyLoad => exact ⟨_, rfl, h.keyLoad⟩
  | provision => exact ⟨_, rfl, h.provision⟩
  | extest => exact ⟨_, rfl, h.tapScan⟩

/-! ### Every step -/

/-- A step keeps the invariants, from the state with the queue as the step leaves it. -/
theorem step_keeps {s t : State} (h : step s = .next t) : State.Keeps { s with pending := t.pending } t := by
  unfold step at h
  split at h
  · have hk : s.Keeps s.tick := (State.Keeps.refl s).tick
    cases h
    rw [hk.queue]
    exact hk
  · rename_i c rest _
    obtain ⟨u, hu, hk⟩ := exec_keeps c { s with pending := rest }
    obtain rfl : u = t := by
      rw [hu] at h
      cases h
      rfl
    rw [hk.queue]
    exact hk

/-! ### The obligations -/

/-- Settles O53: every arm of `exec` answers `.next`. -/
theorem everyCommandCompletes : Obligations.EveryCommandCompletes := by
  intro c s
  obtain ⟨t, ht, _⟩ := exec_keeps c s
  exact ⟨t, ht⟩

/-- Settles O54: no operation of a command's meaning names the queue. -/
theorem commandsLeaveTheQueueAlone : Obligations.CommandsLeaveTheQueueAlone := by
  intro c s t h
  obtain ⟨u, hu, hk⟩ := exec_keeps c s
  rw [hu] at h
  cases h
  exact hk.queue

/-- Settles O55: an output goes on beside the other one in no operation on a leg. -/
theorem noLegHasBothOutputsOn : Obligations.NoLegHasBothOutputsOn :=
  fun _ _ hs h => (step_keeps h).apart hs

/-- Settles O56: only a mode's code is put into SYS_MODE.MODE, and no write on the bus reaches the field. -/
theorem theModeStaysLegal : Obligations.TheModeStaysLegal :=
  fun _ _ hs h => (step_keeps h).legal hs

/-- Settles O57: every store is changed by writes that keep its form, or replaced by one that is built so. -/
theorem everyStepKeepsTheStoresCanonical : Obligations.EveryStepKeepsTheStoresCanonical :=
  fun _ _ hs h => (step_keeps h).canonical { hs with }

/-- Settles O58: the lists are updated in place, mapped, or replaced by lists of their length. -/
theorem everyStepKeepsTheShape : Obligations.EveryStepKeepsTheShape :=
  fun _ _ hs h => (step_keeps h).shaped { hs with }

/-- Settles O59. -/
theorem resetHasTheInvariants : Obligations.ResetHasTheInvariants :=
  ⟨State.shaped_reset, ⟨rfl, rfl, rfl, rfl, rfl, rfl⟩, by decide, State.legsApart_fresh (t := State.reset) rfl⟩

end Sys2Proof.Machine

/-! The queue, the idle step and reset. -/

namespace Sys2Proof.Machine

set_option Elab.async false

/-- Settles O1: a step is by definition the front command on the rest of the queue. -/
theorem stepRunsTheFrontCommand : Obligations.StepRunsTheFrontCommand := by
  intro s c rest h
  simp only [step, h]

/-- Settles O3: the reset state lists no register, and its records hold their defaults. -/
theorem resetLeavesTheStatedValues : Obligations.ResetLeavesTheStatedValues := by
  unfold Obligations.ResetLeavesTheStatedValues
  refine ⟨rfl, rfl, rfl, rfl, rfl, ?_, ?_, ?_, ?_, ?_, ?_, ?_, fun _ => rfl, ?_, ?_⟩ <;> decide

/-! ### The idle step -/

/-- A device in KEEP that has noted a write of LOOM_TL0_CFG in the cycle of its power-down, with COUNT at 5. -/
def keepWithWrite : State :=
  { State.reset with
    sys := { State.reset.sys with phase := .keep }
    clk := { State.reset.clk with count := 5 }
    cycle := { old := [(R.LOOM_TLk_CFG 0, 0)] } }

theorem keepWithWrite_since : (nth keepWithWrite.tick.loom.tls 0 {}).since = 5 ∧ (nth keepWithWrite.loom.tls 0 {}).since = 0 := by
  decide +kernel

/-- Refutes O2: what a cycle has noted of a write of a trip line takes effect at its end in KEEP, too, where more than that note changes. -/
theorem not_idleStepPassesOneCycle : ¬ Obligations.IdleStepPassesOneCycle := by
  intro h
  obtain ⟨-, -, hkeep⟩ := h keepWithWrite rfl
  have hstep : keepWithWrite.tick = { keepWithWrite with cycle := {} } := Host.Outcome.next.inj (hkeep rfl)
  obtain ⟨hnew, hold⟩ := keepWithWrite_since
  rw [hstep] at hnew
  exact absurd (hnew.symm.trans hold) (by decide)
end Sys2Proof.Machine

/-! Which parts of the state an operation may change: one relation with a list of parts, and one lemma for each operation that the proofs below
follow. -/

namespace Sys2Proof.Machine

set_option Elab.async false

/-- The parts of the state; `rtc` is what is known of the RTC's sub-second count, `clk` the rest of the clocks; `mram` is the MRAM with its
errors and spare lines, `mem` the rest of the memories. -/
inductive Part where
  | regs | cycle | sys | clk | rtc | otp | tap | mem | mram | dma | events | stew | cfg | tst | loom | gdp | cmp | acq | prism | wvn | mill
  | tasks | grn | shf | safe | ring | draws | pending
  deriving DecidableEq

/-- `s` with the parts of `F` taken from `t`. -/
def State.patch (s : State) (F : List Part) (t : State) : State where
  clk := bif F.elem .clk then t.clk else { s.clk with rtcSub := bif F.elem .rtc then t.clk.rtcSub else s.clk.rtcSub }
  mem := bif F.elem .mem then t.mem else { s.mem with
    mram := bif F.elem .mram then t.mem.mram else s.mem.mram
    mramBad := bif F.elem .mram then t.mem.mramBad else s.mem.mramBad
    worn := bif F.elem .mram then t.mem.worn else s.mem.worn
    spares := bif F.elem .mram then t.mem.spares else s.mem.spares }
  regs := bif F.elem .regs then t.regs else s.regs
  cycle := bif F.elem .cycle then t.cycle else s.cycle
  sys := bif F.elem .sys then t.sys else s.sys
  otp := bif F.elem .otp then t.otp else s.otp
  tap := bif F.elem .tap then t.tap else s.tap
  dma := bif F.elem .dma then t.dma else s.dma
  events := bif F.elem .events then t.events else s.events
  stew := bif F.elem .stew then t.stew else s.stew
  cfg := bif F.elem .cfg then t.cfg else s.cfg
  tst := bif F.elem .tst then t.tst else s.tst
  loom := bif F.elem .loom then t.loom else s.loom
  gdp := bif F.elem .gdp then t.gdp else s.gdp
  cmp := bif F.elem .cmp then t.cmp else s.cmp
  acq := bif F.elem .acq then t.acq else s.acq
  prism := bif F.elem .prism then t.prism else s.prism
  wvn := bif F.elem .wvn then t.wvn else s.wvn
  mill := bif F.elem .mill then t.mill else s.mill
  tasks := bif F.elem .tasks then t.tasks else s.tasks
  grn := bif F.elem .grn then t.grn else s.grn
  shf := bif F.elem .shf then t.shf else s.shf
  safe := bif F.elem .safe then t.safe else s.safe
  ring := bif F.elem .ring then t.ring else s.ring
  draws := bif F.elem .draws then t.draws else s.draws
  pending := bif F.elem .pending then t.pending else s.pending

/-- From `s` to `t` nothing changes but the parts of `F`. -/
def State.Moves (F : List Part) (s t : State) : Prop := t = s.patch F t

namespace State

variable {F G : List Part} {s t u : State}

/-! ### What is left alone -/

theorem Moves.regs (h : Moves F s t) (hF : F.elem .regs = false := by decide) : t.regs = s.regs :=
  (congrArg State.regs h).trans (by simp only [patch, hF, cond_false])
theorem Moves.cycle (h : Moves F s t) (hF : F.elem .cycle = false := by decide) : t.cycle = s.cycle :=
  (congrArg State.cycle h).trans (by simp only [patch, hF, cond_false])
theorem Moves.sys (h : Moves F s t) (hF : F.elem .sys = false := by decide) : t.sys = s.sys :=
  (congrArg State.sys h).trans (by simp only [patch, hF, cond_false])
theorem Moves.otp (h : Moves F s t) (hF : F.elem .otp = false := by decide) : t.otp = s.otp :=
  (congrArg State.otp h).trans (by simp only [patch, hF, cond_false])
theorem Moves.tap (h : Moves F s t) (hF : F.elem .tap = false := by decide) : t.tap = s.tap :=
  (congrArg State.tap h).trans (by simp only [patch, hF, cond_false])
theorem Moves.dma (h : Moves F s t) (hF : F.elem .dma = false := by decide) : t.dma = s.dma :=
  (congrArg State.dma h).trans (by simp only [patch, hF, cond_false])
theorem Moves.events (h : Moves F s t) (hF : F.elem .events = false := by decide) : t.events = s.events :=
  (congrArg State.events h).trans (by simp only [patch, hF, cond_false])
theorem Moves.stew (h : Moves F s t) (hF : F.elem .stew = false := by decide) : t.stew = s.stew :=
  (congrArg State.stew h).trans (by simp only [patch, hF, cond_false])
theorem Moves.cfg (h : Moves F s t) (hF : F.elem .cfg = false := by decide) : t.cfg = s.cfg :=
  (congrArg State.cfg h).trans (by simp only [patch, hF, cond_false])
theorem Moves.tst (h : Moves F s t) (hF : F.elem .tst = false := by decide) : t.tst = s.tst :=
  (congrArg State.tst h).trans (by simp only [patch, hF, cond_false])
theorem Moves.loom (h : Moves F s t) (hF : F.elem .loom = false := by decide) : t.loom = s.loom :=
  (congrArg State.loom h).trans (by simp only [patch, hF, cond_false])
theorem Moves.gdp (h : Moves F s t) (hF : F.elem .gdp = false := by decide) : t.gdp = s.gdp :=
  (congrArg State.gdp h).trans (by simp only [patch, hF, cond_false])
theorem Moves.cmp (h : Moves F s t) (hF : F.elem .cmp = false := by decide) : t.cmp = s.cmp :=
  (congrArg State.cmp h).trans (by simp only [patch, hF, cond_false])
theorem Moves.acq (h : Moves F s t) (hF : F.elem .acq = false := by decide) : t.acq = s.acq :=
  (congrArg State.acq h).trans (by simp only [patch, hF, cond_false])
theorem Moves.prism (h : Moves F s t) (hF : F.elem .prism = false := by decide) : t.prism = s.prism :=
  (congrArg State.prism h).trans (by simp only [patch, hF, cond_false])
theorem Moves.wvn (h : Moves F s t) (hF : F.elem .wvn = false := by decide) : t.wvn = s.wvn :=
  (congrArg State.wvn h).trans (by simp only [patch, hF, cond_false])
theorem Moves.mill (h : Moves F s t) (hF : F.elem .mill = false := by decide) : t.mill = s.mill :=
  (congrArg State.mill h).trans (by simp only [patch, hF, cond_false])
theorem Moves.tasks (h : Moves F s t) (hF : F.elem .tasks = false := by decide) : t.tasks = s.tasks :=
  (congrArg State.tasks h).trans (by simp only [patch, hF, cond_false])
theorem Moves.grn (h : Moves F s t) (hF : F.elem .grn = false := by decide) : t.grn = s.grn :=
  (congrArg State.grn h).trans (by simp only [patch, hF, cond_false])
theorem Moves.shf (h : Moves F s t) (hF : F.elem .shf = false := by decide) : t.shf = s.shf :=
  (congrArg State.shf h).trans (by simp only [patch, hF, cond_false])
theorem Moves.safe (h : Moves F s t) (hF : F.elem .safe = false := by decide) : t.safe = s.safe :=
  (congrArg State.safe h).trans (by simp only [patch, hF, cond_false])
theorem Moves.ring (h : Moves F s t) (hF : F.elem .ring = false := by decide) : t.ring = s.ring :=
  (congrArg State.ring h).trans (by simp only [patch, hF, cond_false])
theorem Moves.draws (h : Moves F s t) (hF : F.elem .draws = false := by decide) : t.draws = s.draws :=
  (congrArg State.draws h).trans (by simp only [patch, hF, cond_false])
theorem Moves.pending (h : Moves F s t) (hF : F.elem .pending = false := by decide) : t.pending = s.pending :=
  (congrArg State.pending h).trans (by simp only [patch, hF, cond_false])
theorem Moves.clockKept (h : Moves F s t) (hF : F.elem .clk = false := by decide) : s.clockKept t :=
  ⟨_, (congrArg State.clk h).trans (by simp only [patch, hF, cond_false]; rfl)⟩
theorem Moves.clk (h : Moves F s t) (hF : F.elem .clk = false := by decide) (hR : F.elem .rtc = false := by decide) : t.clk = s.clk :=
  (congrArg State.clk h).trans (by simp only [patch, hF, hR, cond_false])
theorem Moves.memKept (h : Moves F s t) (hF : F.elem .mem = false := by decide) :
    ∃ m b w k, t.mem = { s.mem with mram := m, mramBad := b, worn := w, spares := k } :=
  ⟨_, _, _, _, (congrArg State.mem h).trans (by simp only [patch, hF, cond_false]; rfl)⟩
theorem Moves.mem (h : Moves F s t) (hF : F.elem .mem = false := by decide) (hR : F.elem .mram = false := by decide) : t.mem = s.mem :=
  (congrArg State.mem h).trans (by simp only [patch, hF, hR, cond_false])
theorem Moves.sram (h : Moves F s t) (hF : F.elem .mem = false := by decide) : t.mem.sram = s.mem.sram := by
  obtain ⟨_, _, _, _, hm⟩ := h.memKept hF
  rw [hm]

/-! ### Building the relation -/

theorem eq_cond_of_imp {α : Type} {b : Bool} {x y : α} (h : b = false → x = y) : x = bif b then x else y := by
  cases b
  · exact h rfl
  · rfl

theorem Moves.of (clk : F.elem .clk = false → t.clk = { s.clk with rtcSub := bif F.elem .rtc then t.clk.rtcSub else s.clk.rtcSub })
    (mem : F.elem .mem = false → t.mem = { s.mem with
      mram := bif F.elem .mram then t.mem.mram else s.mem.mram
      mramBad := bif F.elem .mram then t.mem.mramBad else s.mem.mramBad
      worn := bif F.elem .mram then t.mem.worn else s.mem.worn
      spares := bif F.elem .mram then t.mem.spares else s.mem.spares })
    (regs : F.elem .regs = false → t.regs = s.regs) (cycle : F.elem .cycle = false → t.cycle = s.cycle) (sys : F.elem .sys = false → t.sys = s.sys)
    (otp : F.elem .otp = false → t.otp = s.otp) (tap : F.elem .tap = false → t.tap = s.tap) (dma : F.elem .dma = false → t.dma = s.dma)
    (events : F.elem .events = false → t.events = s.events) (stew : F.elem .stew = false → t.stew = s.stew) (cfg : F.elem .cfg = false → t.cfg = s.cfg)
    (tst : F.elem .tst = false → t.tst = s.tst) (loom : F.elem .loom = false → t.loom = s.loom) (gdp : F.elem .gdp = false → t.gdp = s.gdp)
    (cmp : F.elem .cmp = false → t.cmp = s.cmp) (acq : F.elem .acq = false → t.acq = s.acq) (prism : F.elem .prism = false → t.prism = s.prism)
    (wvn : F.elem .wvn = false → t.wvn = s.wvn) (mill : F.elem .mill = false → t.mill = s.mill) (tasks : F.elem .tasks = false → t.tasks = s.tasks)
    (grn : F.elem .grn = false → t.grn = s.grn) (shf : F.elem .shf = false → t.shf = s.shf) (safe : F.elem .safe = false → t.safe = s.safe)
    (ring : F.elem .ring = false → t.ring = s.ring) (draws : F.elem .draws = false → t.draws = s.draws) (pending : F.elem .pending = false → t.pending = s.pending) : Moves F s t := by
  cases t
  unfold Moves patch
  rw [State.mk.injEq]
  exact ⟨eq_cond_of_imp regs, eq_cond_of_imp cycle, eq_cond_of_imp sys, eq_cond_of_imp clk, eq_cond_of_imp otp, eq_cond_of_imp tap,
  eq_cond_of_imp mem, eq_cond_of_imp dma, eq_cond_of_imp events, eq_cond_of_imp stew, eq_cond_of_imp cfg, eq_cond_of_imp tst, eq_cond_of_imp
  loom, eq_cond_of_imp gdp, eq_cond_of_imp cmp, eq_cond_of_imp acq, eq_cond_of_imp prism, eq_cond_of_imp wvn, eq_cond_of_imp mill,
  eq_cond_of_imp tasks, eq_cond_of_imp grn, eq_cond_of_imp shf, eq_cond_of_imp safe, eq_cond_of_imp ring, eq_cond_of_imp draws,
  eq_cond_of_imp pending⟩

theorem Moves.refl (s : State) : Moves F s s :=
  .of (fun _ => by rw [Bool.cond_self]) (fun _ => by simp only [Bool.cond_self]) (fun _ => rfl) (fun _ => rfl) (fun _ => rfl) (fun _ => rfl) (fun _ => rfl) (fun _ => rfl) (fun _ => rfl) (fun _ => rfl) (fun _ => rfl) (fun _ => rfl) (fun _ => rfl) (fun _ => rfl)
    (fun _ => rfl) (fun _ => rfl) (fun _ => rfl) (fun _ => rfl) (fun _ => rfl) (fun _ => rfl) (fun _ => rfl) (fun _ => rfl) (fun _ => rfl) (fun _ => rfl) (fun _ => rfl) (fun _ => rfl)

theorem Moves.trans (h : Moves F s t) (h' : Moves F t u) : Moves F s u :=
  .of
    (fun hF => by
      obtain ⟨r, hr⟩ := h.clockKept hF
      obtain ⟨q, hq⟩ := h'.clockKept hF
      cases hR : F.elem .rtc
      · rw [h'.clk hF hR, h.clk hF hR, cond_false]
      · rw [hq, hr, cond_true])
    (fun hF => by
      obtain ⟨_, _, _, _, hr⟩ := h.memKept hF
      obtain ⟨_, _, _, _, hq⟩ := h'.memKept hF
      cases hR : F.elem .mram
      · rw [h'.mem hF hR, h.mem hF hR]
        simp only [cond_false]
      · rw [hq, hr]
        simp only [cond_true])
    (fun hF => (h'.regs hF).trans (h.regs hF))
    (fun hF => (h'.cycle hF).trans (h.cycle hF))
    (fun hF => (h'.sys hF).trans (h.sys hF))
    (fun hF => (h'.otp hF).trans (h.otp hF))
    (fun hF => (h'.tap hF).trans (h.tap hF))
    (fun hF => (h'.dma hF).trans (h.dma hF))
    (fun hF => (h'.events hF).trans (h.events hF))
    (fun hF => (h'.stew hF).trans (h.stew hF))
    (fun hF => (h'.cfg hF).trans (h.cfg hF))
    (fun hF => (h'.tst hF).trans (h.tst hF))
    (fun hF => (h'.loom hF).trans (h.loom hF))
    (fun hF => (h'.gdp hF).trans (h.gdp hF))
    (fun hF => (h'.cmp hF).trans (h.cmp hF))
    (fun hF => (h'.acq hF).trans (h.acq hF))
    (fun hF => (h'.prism hF).trans (h.prism hF))
    (fun hF => (h'.wvn hF).trans (h.wvn hF))
    (fun hF => (h'.mill hF).trans (h.mill hF))
    (fun hF => (h'.tasks hF).trans (h.tasks hF))
    (fun hF => (h'.grn hF).trans (h.grn hF))
    (fun hF => (h'.shf hF).trans (h.shf hF))
    (fun hF => (h'.safe hF).trans (h.safe hF))
    (fun hF => (h'.ring hF).trans (h.ring hF))
    (fun hF => (h'.draws hF).trans (h.draws hF))
    (fun hF => (h'.pending hF).trans (h.pending hF))

theorem elem_eq_false_of_subset (hFG : F ⊆ G) {p : Part} (hG : G.elem p = false) : F.elem p = false := by
  rw [Bool.eq_false_iff] at hG ⊢
  exact fun hF => hG (List.elem_iff.2 (hFG (List.elem_iff.1 hF)))

theorem Moves.mono (h : Moves F s t) (hFG : F ⊆ G) : Moves G s t :=
  .of
    (fun hG => by
      obtain ⟨r, hr⟩ := h.clockKept (elem_eq_false_of_subset hFG hG)
      cases hR : G.elem .rtc
      · rw [h.clk (elem_eq_false_of_subset hFG hG) (elem_eq_false_of_subset hFG hR), cond_false]
      · rw [hr, cond_true])
    (fun hG => by
      obtain ⟨_, _, _, _, hr⟩ := h.memKept (elem_eq_false_of_subset hFG hG)
      cases hR : G.elem .mram
      · rw [h.mem (elem_eq_false_of_subset hFG hG) (elem_eq_false_of_subset hFG hR)]
        simp only [cond_false]
      · rw [hr]
        simp only [cond_true])
    (fun hG => h.regs (elem_eq_false_of_subset hFG hG))
    (fun hG => h.cycle (elem_eq_false_of_subset hFG hG))
    (fun hG => h.sys (elem_eq_false_of_subset hFG hG))
    (fun hG => h.otp (elem_eq_false_of_subset hFG hG))
    (fun hG => h.tap (elem_eq_false_of_subset hFG hG))
    (fun hG => h.dma (elem_eq_false_of_subset hFG hG))
    (fun hG => h.events (elem_eq_false_of_subset hFG hG))
    (fun hG => h.stew (elem_eq_false_of_subset hFG hG))
    (fun hG => h.cfg (elem_eq_false_of_subset hFG hG))
    (fun hG => h.tst (elem_eq_false_of_subset hFG hG))
    (fun hG => h.loom (elem_eq_false_of_subset hFG hG))
    (fun hG => h.gdp (elem_eq_false_of_subset hFG hG))
    (fun hG => h.cmp (elem_eq_false_of_subset hFG hG))
    (fun hG => h.acq (elem_eq_false_of_subset hFG hG))
    (fun hG => h.prism (elem_eq_false_of_subset hFG hG))
    (fun hG => h.wvn (elem_eq_false_of_subset hFG hG))
    (fun hG => h.mill (elem_eq_false_of_subset hFG hG))
    (fun hG => h.tasks (elem_eq_false_of_subset hFG hG))
    (fun hG => h.grn (elem_eq_false_of_subset hFG hG))
    (fun hG => h.shf (elem_eq_false_of_subset hFG hG))
    (fun hG => h.safe (elem_eq_false_of_subset hFG hG))
    (fun hG => h.ring (elem_eq_false_of_subset hFG hG))
    (fun hG => h.draws (elem_eq_false_of_subset hFG hG))
    (fun hG => h.pending (elem_eq_false_of_subset hFG hG))

/-- An operation that moves some of the parts, after what has gone before. -/
theorem Moves.andThen (h : Moves F s t) (hG : G ⊆ F) (hu : Moves G t t → Moves G t u) : Moves F s u :=
  h.trans ((hu (.refl t)).mono hG)

/-! ### Control -/

theorem Moves.ite {p : Prop} [Decidable p] (ht : Moves F s t) (hu : Moves F s u) : Moves F s (if p then t else u) := by
  split
  · exact ht
  · exact hu

theorem Moves.foldl {α : Type} {f : State → α → State} {l : List α} (h : Moves F s t) (hf : ∀ u a, Moves F s u → Moves F s (f u a)) :
    Moves F s (l.foldl f t) := by
  induction l generalizing t with
  | nil => exact h
  | cons a l ih => exact ih (hf t a h)

theorem Moves.forAll (h : Moves F s t) {n : Nat} {f : Nat → State → State} (hf : ∀ i u, Moves F s u → Moves F s (f i u)) :
    Moves F s (t.forAll n f) :=
  h.foldl fun u i => hf i u

theorem Moves.whenB (h : Moves F s t) {b : Bool} {f : State → State} (hf : ∀ u, Moves F s u → Moves F s (f u)) : Moves F s (t.whenB b f) :=
  .ite (hf t h) h

theorem Moves.record (h : Moves F s t) (hu : u = t.patch F u := by rfl) : Moves F s u := h.trans hu

end State
end Sys2Proof.Machine

namespace Sys2Proof.Machine

set_option Elab.async false
namespace State
variable {F G : List Part} {s t u : State}

theorem Moves.mramWrite (h : Moves F s t) {a : Nat} {l : List Byte} (hG : [.mram] ⊆ F := by decide) :
    Moves F s (State.mramWrite t a l) :=
  h.andThen hG fun h => h.record

theorem Moves.drawn (h : Moves F s t) (hG : [.draws] ⊆ F := by decide) :
    Moves F s (State.drawn t) :=
  h.andThen hG fun h => h.record

theorem Moves.rtcShown (h : Moves F s t) (hG : [.rtc, .draws] ⊆ F := by decide) :
    Moves F s (State.rtcShown t) := by
  refine h.andThen hG fun h => ?_
  unfold State.rtcShown
  exact h.drawn.record

theorem Moves.loupeSee (h : Moves F s t) {src : Nat} (hG : [.stew] ⊆ F := by decide) :
    Moves F s (State.loupeSee t src) := by
  refine h.andThen hG fun h => ?_
  unfold State.loupeSee
  exact .ite h.record h

theorem Moves.route (h : Moves F s t) {src : Nat} (hG : [.events] ⊆ F := by decide) :
    Moves F s (State.route t src) := by
  refine h.andThen hG fun h => ?_
  unfold State.route
  exact .ite h.record h

theorem Moves.emit (h : Moves F s t) {src : Nat} (hG : [.events, .stew] ⊆ F := by decide) :
    Moves F s (State.emit t src) := by
  refine h.andThen hG fun h => ?_
  unfold State.emit
  exact h.route.loupeSee

theorem Moves.modLink (h : Moves F s t) {l : Link} {f : LinkSt → LinkSt} (hG : [.stew] ⊆ F := by decide) :
    Moves F s (State.modLink t l f) := by
  refine h.andThen hG fun h => ?_
  unfold State.modLink
  split
  · exact h.record
  · exact h.record

theorem Moves.attendBy (h : Moves F s t) {f : LinkSt → BitVec 8} (hG : [.events, .stew] ⊆ F := by decide) :
    Moves F s (State.attendBy t f) := by
  refine h.andThen hG fun h => ?_
  unfold State.attendBy
  extract_lets -underBinder -merge _ _ t1
  have h1 : Moves _ t t1 := h.modLink.modLink
  exact .ite h1 h1.emit

theorem Moves.attend (h : Moves F s t) {bits : BitVec 8} (hG : [.events, .stew] ⊆ F := by decide) :
    Moves F s (State.attend t bits) := by
  refine h.andThen hG fun h => ?_
  unfold State.attend
  exact h.attendBy

theorem Moves.raise (h : Moves F s t) {src : Nat} (hG : [.events, .stew] ⊆ F := by decide) :
    Moves F s (State.raise t src) := by
  refine h.andThen hG fun h => ?_
  unfold State.raise
  extract_lets -underBinder -merge t1
  have h1 : Moves _ t t1 := h.emit
  exact .ite h1.attend h1

theorem Moves.log (h : Moves F s t) {code : Nat} {block : Nat} {sev : Severity} {data : List Byte} (hG : [.rtc, .mram, .events, .stew, .draws] ⊆ F := by decide) :
    Moves F s (State.log t code block sev data) := by
  refine h.andThen hG fun h => ?_
  unfold State.log
  exact h.rtcShown.mramWrite.record.raise.attendBy

theorem Moves.logSession (h : Moves F s t) {l : Link} {what : Nat} (hG : [.rtc, .mram, .events, .stew, .draws] ⊆ F := by decide) :
    Moves F s (State.logSession t l what) := by
  refine h.andThen hG fun h => ?_
  unfold State.logSession
  exact h.log

theorem Moves.closeSession (h : Moves F s t) {l : Link} {what : Nat} (hG : [.rtc, .mram, .events, .stew, .draws] ⊆ F := by decide) :
    Moves F s (State.closeSession t l what) := by
  refine h.andThen hG fun h => ?_
  unfold State.closeSession
  exact .ite h.modLink.emit.logSession h

theorem Moves.authFailed (h : Moves F s t) {l : Link} (hG : [.rtc, .mram, .events, .stew, .draws] ⊆ F := by decide) :
    Moves F s (State.authFailed t l) := by
  refine h.andThen hG fun h => ?_
  unfold State.authFailed
  extract_lets -underBinder -merge t1
  have h1 : Moves _ t t1 := h.modLink.logSession
  exact .ite h1.closeSession.modLink h1

theorem Moves.afterAnswer (h : Moves F s t) {l : Link} {status : Nat} (hG : [.rtc, .mram, .events, .stew, .draws] ⊆ F := by decide) :
    Moves F s (State.afterAnswer t l status) := by
  refine h.andThen hG fun h => ?_
  unfold State.afterAnswer
  exact .ite h.authFailed (by
    extract_lets -underBinder -merge t1
    have h1 : Moves _ t t1 := h.modLink
    exact .ite h1.closeSession h1)

theorem Moves.queueTx (h : Moves F s t) {l : Link} {f : List TxPacket → List TxPacket} (hG : [.events, .stew] ⊆ F := by decide) :
    Moves F s (State.queueTx t l f) := by
  refine h.andThen hG fun h => ?_
  unfold State.queueTx
  extract_lets -underBinder -merge t1
  have h1 : Moves _ t t1 := h.modLink
  exact .ite h1 h1.emit

theorem Moves.sendEntry (h : Moves F s t) {l : Link} {e : HistEntry} {again : Bool} (hG : [.events, .stew] ⊆ F := by decide) :
    Moves F s (State.sendEntry t l e again) := by
  refine h.andThen hG fun h => ?_
  unfold State.sendEntry
  exact .ite h.modLink h.queueTx

theorem Moves.reply (h : Moves F s t) {l : Link} {a : Asked} {ran : Bool} {final : Bool} {r : Reply} (hG : [.events, .stew] ⊆ F := by decide) :
    Moves F s (State.reply t l a ran final r) := by
  refine h.andThen hG fun h => ?_
  unfold State.reply
  exact h.modLink.sendEntry

theorem Moves.answer (h : Moves F s t) {l : Link} {c : Cmd} {r : Reply} (hG : [.rtc, .mram, .events, .stew, .draws] ⊆ F := by decide) :
    Moves F s (State.answer t l c r) := by
  refine h.andThen hG fun h => ?_
  unfold State.answer
  exact .ite h.reply.afterAnswer h

theorem Moves.refuseCmd (h : Moves F s t) {l : Link} {c : Cmd} {r : Reply} (hG : [.rtc, .mram, .events, .stew, .draws] ⊆ F := by decide) :
    Moves F s (State.refuseCmd t l c r) := by
  refine h.andThen hG fun h => ?_
  unfold State.refuseCmd
  extract_lets -underBinder -merge _ t1
  have h1 : Moves _ t t1 := .ite h.modLink h
  exact h1.reply.afterAnswer

theorem Moves.touchSession (h : Moves F s t) {l : Link} {c : Cmd} (hG : [.stew] ⊆ F := by decide) :
    Moves F s (State.touchSession t l c) := by
  refine h.andThen hG fun h => ?_
  unfold State.touchSession
  exact .ite h.modLink h

theorem Moves.doHello (h : Moves F s t) {l : Link} {c : Cmd} (hG : [.rtc, .mram, .events, .stew, .cfg, .draws] ⊆ F := by decide) :
    Moves F s (State.doHello t l c) := by
  refine h.andThen hG fun h => ?_
  unfold State.doHello
  exact .ite h.answer h.closeSession.modLink.record.answer

theorem Moves.doSync (h : Moves F s t) {l : Link} {c : Cmd} (hG : [.rtc, .mram, .events, .stew, .draws] ⊆ F := by decide) :
    Moves F s (State.doSync t l c) := by
  refine h.andThen hG fun h => ?_
  unfold State.doSync
  exact h.answer

theorem Moves.doReplay (h : Moves F s t) {l : Link} {c : Cmd} (hG : [.rtc, .mram, .events, .stew, .draws] ⊆ F := by decide) :
    Moves F s (State.doReplay t l c) := by
  refine h.andThen hG fun h => ?_
  unfold State.doReplay
  extract_lets -underBinder -merge _ _ _ t1
  have h1 : Moves _ t t1 := .foldl h (fun _ _ h1 => h1.sendEntry)
  exact .ite h.answer (.ite h.answer h1.answer)

theorem Moves.doOpStatus (h : Moves F s t) {l : Link} {c : Cmd} (hG : [.rtc, .mram, .events, .stew, .draws] ⊆ F := by decide) :
    Moves F s (State.doOpStatus t l c) := by
  refine h.andThen hG fun h => ?_
  unfold State.doOpStatus
  exact h.answer

theorem Moves.doSessionOpen (h : Moves F s t) {l : Link} {c : Cmd} (hG : [.rtc, .mram, .events, .stew, .draws] ⊆ F := by decide) :
    Moves F s (State.doSessionOpen t l c) := by
  refine h.andThen hG fun h => ?_
  unfold State.doSessionOpen
  exact .ite h.answer (by
    split
    · exact h.answer
    · exact h.drawn.closeSession.modLink.emit.logSession.answer)

theorem Moves.doSessionClose (h : Moves F s t) {l : Link} {c : Cmd} (hG : [.rtc, .mram, .events, .stew, .draws] ⊆ F := by decide) :
    Moves F s (State.doSessionClose t l c) := by
  refine h.andThen hG fun h => ?_
  unfold State.doSessionClose
  exact h.answer.closeSession

theorem Moves.doPortSet (h : Moves F s t) {l : Link} {c : Cmd} (hG : [.rtc, .mram, .events, .stew, .draws] ⊆ F := by decide) :
    Moves F s (State.doPortSet t l c) := by
  refine h.andThen hG fun h => ?_
  unfold State.doPortSet
  exact .ite h.answer h.record.answer

theorem Moves.discard (h : Moves F s t) {l : Link} (hG : [.stew] ⊆ F := by decide) :
    Moves F s (State.discard t l) := by
  refine h.andThen hG fun h => ?_
  unfold State.discard
  split
  · exact h.modLink
  · exact h

theorem Moves.tearSlot (h : Moves F s t) {bytes : List Byte} (hG : [.mram, .draws] ⊆ F := by decide) :
    Moves F s (State.tearSlot t bytes) := by
  refine h.andThen hG fun h => ?_
  unfold State.tearSlot
  exact h.mramWrite.drawn

theorem Moves.wr (h : Moves F s t) {a : Nat} {v : Word} (hG : [.regs] ⊆ F := by decide) :
    Moves F s (State.wr t a v) :=
  h.andThen hG fun h => h.record

theorem Moves.keepPmax (h : Moves F s t) {w : JournalWrite} (hG : [.regs] ⊆ F := by decide) :
    Moves F s (State.keepPmax t w) := by
  refine h.andThen hG fun h => ?_
  unfold State.keepPmax
  exact .forAll h (fun _ _ h1 => h1.wr)

theorem Moves.modGrn (h : Moves F s t) {f : Grn → Grn} (hG : [.grn] ⊆ F := by decide) :
    Moves F s (State.modGrn t f) :=
  h.andThen hG fun h => h.record

theorem Moves.askSnapshot (h : Moves F s t) {ref : Bool} {journal : Option Nat} {final : Bool} (hG : [.grn] ⊆ F := by decide) :
    Moves F s (State.askSnapshot t ref journal final) := by
  refine h.andThen hG fun h => ?_
  unfold State.askSnapshot
  exact h.modGrn

theorem Moves.markSet (h : Moves F s t) {a : Nat} {v : Word} (hG : [.cycle] ⊆ F := by decide) :
    Moves F s (State.markSet t a v) :=
  h.andThen hG fun h => h.record

theorem Moves.put (h : Moves F s t) {f : Fld} {n : Nat} (hG : [.regs, .cycle] ⊆ F := by decide) :
    Moves F s (State.put t f n) := by
  refine h.andThen hG fun h => ?_
  unfold State.put
  exact h.wr.markSet

theorem Moves.set1 (h : Moves F s t) {f : Fld} (hG : [.regs, .cycle] ⊆ F := by decide) :
    Moves F s (State.set1 t f) := by
  refine h.andThen hG fun h => ?_
  unfold State.set1
  exact h.put

theorem Moves.journalAsk (h : Moves F s t) {flags : Nat} (hG : [.regs, .cycle, .grn] ⊆ F := by decide) :
    Moves F s (State.journalAsk t flags) := by
  refine h.andThen hG fun h => ?_
  unfold State.journalAsk
  exact .ite h (.ite h.modGrn.set1 h.set1.askSnapshot)

theorem Moves.incS (h : Moves F s t) {f : Fld} (hG : [.regs, .cycle] ⊆ F := by decide) :
    Moves F s (State.incS t f) := by
  refine h.andThen hG fun h => ?_
  unfold State.incS
  exact h.put

theorem Moves.clr (h : Moves F s t) {f : Fld} (hG : [.regs, .cycle] ⊆ F := by decide) :
    Moves F s (State.clr t f) := by
  refine h.andThen hG fun h => ?_
  unfold State.clr
  exact h.put

end State
end Sys2Proof.Machine

/-! Packets as bytes: the fields of a header, and how the two ports find the command again (R321 to R325). -/

namespace Sys2Proof.Machine

set_option Elab.async false

/-! ### Bytes and numbers -/

@[simp] theorem length_leBytes (n x : Nat) : (leBytes n x).length = n := by
  induction n generalizing x with
  | zero => rfl
  | succ n ih => rw [leBytes, List.length_cons, ih]

/-- A number reads back from its bytes. -/
theorem ofLe_leBytes (n x : Nat) : ofLe (leBytes n x) = x % 256 ^ n := by
  induction n generalizing x with
  | zero => rw [leBytes, ofLe, pow_zero, Nat.mod_one]
  | succ n ih =>
    rw [leBytes, ofLe, ih, BitVec.toNat_ofNat, pow_succ' 256 n]
    exact (Nat.mod_mul (a := 256)).symm

theorem ofLe_leBytes_of_lt {n x : Nat} (h : x < 256 ^ n) : ofLe (leBytes n x) = x := by rw [ofLe_leBytes, Nat.mod_eq_of_lt h]

/-- A field that stands behind `o` bytes. -/
theorem fieldLe_append (a : List Byte) (n x : Nat) (b : List Byte) : fieldLe (a ++ (leBytes n x ++ b)) a.length n = x % 256 ^ n := by
  unfold fieldLe
  rw [List.drop_left, List.take_left' (length_leBytes n x), ofLe_leBytes]

@[simp] theorem length_headerBytes (type world flags opcode seq ack len ctr : Nat) :
    (headerBytes type world flags opcode seq ack len ctr).length = 16 := by simp [headerBytes]

@[simp] theorem length_withCrc (b : List Byte) : (withCrc b).length = b.length + 4 := by simp [withCrc]

/-! ### The fields of a header (R324) -/

section
variable (type world flags opcode seq ack len ctr : Nat) (b : List Byte)

theorem byteAt_header_sof : byteAt (headerBytes type world flags opcode seq ack len ctr ++ b) 0 = 0xA5 := rfl

theorem byteAt_header_type : byteAt (headerBytes type world flags opcode seq ack len ctr ++ b) 1 = type % 256 := rfl

theorem byteAt_header_world : byteAt (headerBytes type world flags opcode seq ack len ctr ++ b) 2 = world % 256 := rfl

theorem byteAt_header_flags : byteAt (headerBytes type world flags opcode seq ack len ctr ++ b) 3 = flags % 256 := rfl

theorem fieldLe_header_opcode : fieldLe (headerBytes type world flags opcode seq ack len ctr ++ b) 4 2 = opcode % 65536 :=
  ofLe_leBytes 2 opcode

theorem fieldLe_header_seq : fieldLe (headerBytes type world flags opcode seq ack len ctr ++ b) 6 2 = seq % 65536 := ofLe_leBytes 2 seq

theorem fieldLe_header_ack : fieldLe (headerBytes type world flags opcode seq ack len ctr ++ b) 8 2 = ack % 65536 := ofLe_leBytes 2 ack

theorem fieldLe_header_len : fieldLe (headerBytes type world flags opcode seq ack len ctr ++ b) 10 2 = len % 65536 := ofLe_leBytes 2 len

theorem fieldLe_header_ctr : fieldLe (headerBytes type world flags opcode seq ack len ctr ++ b) 12 4 = ctr % 4294967296 := ofLe_leBytes 4 ctr
end

/-! ### A command packet -/

theorem worldCode_lt (w : World) : worldCode w < 2 := by cases w <;> decide

theorem hdrFits_iff (h : Hdr) (p : List Byte) : hdrFits h p = true ↔ p.length ≤ 4096 ∧ ∀ g, h.tag = some g → g.length = 16 := by
  unfold hdrFits
  cases h.tag <;> simp

/-- What stands behind the header: payload, tag and CRC. -/
def hdrBack (h : Hdr) (op : Nat) (p : List Byte) : List Byte :=
  p ++ (h.tag.getD [] ++ leBytes 4 (crc32c (hdrFront h op p ++ h.tag.getD [])).toNat)

theorem hdrPacket_eq (h : Hdr) (op : Nat) (p : List Byte) :
    hdrPacket h op p =
      headerBytes 1 (worldCode h.world) (bit1 h.tag.isSome) op h.seq.toNat h.ack.toNat p.length h.ctr.toNat ++ hdrBack h op p := by
  simp only [hdrPacket, withCrc, hdrFront, hdrBack, List.append_assoc]

theorem length_hdrPacket (h : Hdr) (op : Nat) (p : List Byte) : (hdrPacket h op p).length = 20 + p.length + (h.tag.getD []).length := by
  simp only [hdrPacket_eq, hdrBack, List.length_append, length_headerBytes, length_leBytes]
  omega

section
variable {h : Hdr} {op : Nat} {p : List Byte} (hf : hdrFits h p = true)
include hf

theorem length_tag : (h.tag.getD []).length = if h.tag.isSome then 16 else 0 := by
  obtain ⟨-, htag⟩ := (hdrFits_iff h p).1 hf
  cases hg : h.tag with
  | none => rfl
  | some g => exact htag g hg

theorem fieldLe_hdrPacket_len : fieldLe (hdrPacket h op p) 10 2 = p.length := by
  obtain ⟨hp, -⟩ := (hdrFits_iff h p).1 hf
  rw [hdrPacket_eq, fieldLe_header_len, Nat.mod_eq_of_lt (by omega)]

omit hf in
theorem byteAt_hdrPacket_flags : byteAt (hdrPacket h op p) 3 % 2 = if h.tag.isSome then 1 else 0 := by
  rw [hdrPacket_eq, byteAt_header_flags]
  cases h.tag <;> rfl

theorem packetLen_hdrPacket : packetLen (hdrPacket h op p) = (hdrPacket h op p).length := by
  rw [packetLen, fieldLe_hdrPacket_len hf, byteAt_hdrPacket_flags, length_hdrPacket, length_tag hf]
  split <;> simp_all <;> omega

/-- The bytes that the CRC covers. -/
theorem take_hdrPacket_crc :
    (hdrPacket h op p).take (packetLen (hdrPacket h op p) - 4) = hdrFront h op p ++ h.tag.getD [] := by
  rw [packetLen_hdrPacket hf, hdrPacket, length_withCrc, Nat.add_sub_cancel, withCrc, List.take_left]

theorem fieldLe_hdrPacket_crc :
    fieldLe (hdrPacket h op p) (packetLen (hdrPacket h op p) - 4) 4 = (crc32c (hdrFront h op p ++ h.tag.getD [])).toNat := by
  rw [packetLen_hdrPacket hf, hdrPacket, length_withCrc, Nat.add_sub_cancel, withCrc, ← List.append_nil (leBytes _ _), fieldLe_append]
  exact Nat.mod_eq_of_lt (BitVec.isLt _)

theorem crcRight_hdrPacket : crcRight (hdrPacket h op p) = true := by
  rw [crcRight, take_hdrPacket_crc hf, fieldLe_hdrPacket_crc hf, beq_self_eq_true]

omit hf in
theorem length_hdrFront : (hdrFront h op p).length = 16 + p.length := by simp [hdrFront]

/-- A command reads back whole. -/
theorem readCmd_hdrPacket (hop : op < 65536) : readCmd (hdrPacket h op p) = hdrCmd h op p := by
  have hcrc := fieldLe_hdrPacket_crc (op := op) hf
  have hlen := fieldLe_hdrPacket_len (op := op) hf
  have hflag := byteAt_hdrPacket_flags (h := h) (op := op) (p := p)
  have hfront : (hdrPacket h op p).take (16 + p.length) = hdrFront h op p := by
    rw [hdrPacket, withCrc, List.append_assoc, List.take_left' length_hdrFront]
  have htail : (hdrPacket h op p).drop (16 + p.length) = h.tag.getD [] ++ leBytes 4 (crc32c (hdrFront h op p ++ h.tag.getD [])).toNat := by
    rw [hdrPacket, withCrc, List.append_assoc, List.drop_left' length_hdrFront]
  have hpay : ((hdrPacket h op p).drop 16).take p.length = p := by
    rw [hdrPacket_eq, List.drop_left' (length_headerBytes ..), hdrBack, List.take_left]
  have hworld : byteAt (hdrPacket h op p) 2 = worldCode h.world := by
    rw [hdrPacket_eq, byteAt_header_world, Nat.mod_eq_of_lt (by have := worldCode_lt h.world; omega)]
  have hopc : fieldLe (hdrPacket h op p) 4 2 = op := by rw [hdrPacket_eq, fieldLe_header_opcode, Nat.mod_eq_of_lt hop]
  have hseq : fieldLe (hdrPacket h op p) 6 2 = h.seq.toNat := by
    rw [hdrPacket_eq, fieldLe_header_seq]; exact Nat.mod_eq_of_lt h.seq.isLt
  have hack : fieldLe (hdrPacket h op p) 8 2 = h.ack.toNat := by
    rw [hdrPacket_eq, fieldLe_header_ack]; exact Nat.mod_eq_of_lt h.ack.isLt
  have hctr : fieldLe (hdrPacket h op p) 12 4 = h.ctr.toNat := by
    rw [hdrPacket_eq, fieldLe_header_ctr]; exact Nat.mod_eq_of_lt h.ctr.isLt
  have htagged : (byteAt (hdrPacket h op p) 3 % 2 == 1) = h.tag.isSome := by
    rw [hflag]; cases h.tag <;> rfl
  have htag : (if h.tag.isSome then ((hdrPacket h op p).drop (16 + p.length)).take 16 else []) = h.tag.getD [] := by
    rw [htail]
    have hl := length_tag hf
    cases hg : h.tag with
    | none => rfl
    | some g =>
      rw [hg] at hl
      exact List.take_left' hl
  simp only [readCmd, hdrCmd, hcrc, hlen, htagged, hfront, hpay, hworld, hopc, hseq, hack, hctr, htag, BitVec.ofNat_toNat, BitVec.setWidth_eq]

/-- The Steward takes the packet of a command as the command itself. -/
theorem State.takePacket_hdrPacket (hop : op < 65536) (s : State) (l : Link) :
    s.takePacket l (hdrPacket h op p) = s.receive l (hdrCmd h op p) (fun t => t.execute l (hdrCmd h op p)) := by
  simp only [State.takePacket, crcRight_hdrPacket hf, readCmd_hdrPacket hf hop, Bool.not_true, Bool.false_eq_true, if_false]

omit hf in
theorem byteAt_hdrPacket_sof : byteAt (hdrPacket h op p) 0 = 0xA5 := by rw [hdrPacket_eq, byteAt_header_sof]

omit hf in
theorem byteAt_hdrPacket_type : byteAt (hdrPacket h op p) 1 = 1 := by rw [hdrPacket_eq, byteAt_header_type]

/-- An SPI WRITE of the packet's bytes. -/
theorem State.spiWrite_hdrPacket (hop : op < 65536) (s : State) : s.spiWrite (hdrPacket h op p) = s.takeCommand op .spi h p := by
  have hlen : ¬ ((hdrPacket h op p).length < 16 ∨ (hdrPacket h op p).length ≠ packetLen (hdrPacket h op p)) := by
    rw [packetLen_hdrPacket hf, length_hdrPacket]; omega
  simp only [State.spiWrite, State.takeCommand, hf, byteAt_hdrPacket_sof, byteAt_hdrPacket_type, if_neg hlen, takePacket_hdrPacket hf hop,
    bne_self_eq_false, Bool.and_false, Bool.or_false, if_true]

/-- The UART receiver finds one packet in the bytes of one. -/
theorem uartPackets_hdrPacket : uartPackets (hdrPacket h op p).length (hdrPacket h op p) = [hdrPacket h op p] := by
  have hl := length_hdrPacket h op p
  have hp := ((hdrFits_iff h p).1 hf).1
  obtain ⟨b, hb⟩ : ∃ b, hdrPacket h op p = 0xA5 :: b := ⟨_, hdrPacket_eq h op p⟩
  have hdw : (hdrPacket h op p).dropWhile (· != 0xA5) = hdrPacket h op p := by rw [hb]; rfl
  have hend : ∀ n, uartPackets n [] = [] := fun n => by cases n <;> rfl
  have hbad : ¬ (byteAt (hdrPacket h op p) 1 ≠ 1 ∨ 4096 < fieldLe (hdrPacket h op p) 10 2) := by
    rw [byteAt_hdrPacket_type, fieldLe_hdrPacket_len hf]; omega
  rw [hl, Nat.add_assoc, Nat.add_comm, uartPackets, hdw, hb]
  dsimp only
  rw [← hb, if_neg (by omega), if_neg hbad, packetLen_hdrPacket hf, if_neg (Nat.lt_irrefl _), List.take_length, List.drop_length, hend]

theorem State.uartRun_hdrPacket (hop : op < 65536) (s : State) : s.uartRun (hdrPacket h op p) = s.takeCommand op .uart h p := by
  rw [State.uartRun, uartPackets_hdrPacket hf, List.foldl_cons, List.foldl_nil, State.uartTake, State.takeCommand, if_pos hf,
    takePacket_hdrPacket hf hop]
  cases s.serves .uart
  · rfl
  · cases s.rxFull .uart <;> rfl

end

/-- The command of an opcode, for either link. -/
theorem PacketOp.exec_eq {i : Link → Hdr → List Byte → Instr} {op : Nat} (hi : PacketOp i op) (l : Link) (h : Hdr) (p : List Byte) (s : State) :
    exec (i l h p) s = .next (s.command op l h p) := by
  cases hi <;> rfl

theorem PacketOp.lt {i : Link → Hdr → List Byte → Instr} {op : Nat} (hi : PacketOp i op) : op < 65536 := by
  cases hi <;> decide

/-- Settles O52: the fields of the header stand at fixed places, the payload, tag and CRC behind it, and so both ports find the command. -/
theorem packetsReadBackAsTheirCommands : Obligations.PacketsReadBackAsTheirCommands := by
  intro i op hi h p hf
  have hop := hi.lt
  refine ⟨readCmd_hdrPacket hf hop, crcRight_hdrPacket hf, packetLen_hdrPacket hf, fun s => ⟨?_, ?_⟩⟩
  · rw [hi.exec_eq, State.command, ← length_hdrPacket h op p, ← State.spiWrite_hdrPacket hf hop]
    rfl
  · rw [hi.exec_eq, State.command, ← length_hdrPacket h op p, ← State.uartRun_hdrPacket hf hop]
    rfl
end Sys2Proof.Machine

/-! The Steward's own work: attention, queues, sessions and replies, and what they leave alone. -/

namespace Sys2Proof.Machine

set_option Elab.async false

/-! ### What the Steward does beside executing commands -/

/-- What a link remembers of commands and replies is the same. -/
structure LinkSt.SameAnswers (x y : LinkSt) : Prop where
  hello : y.hello = x.hello
  last : y.last = x.last
  nextReply : y.nextReply = x.nextReply
  lastAck : y.lastAck = x.lastAck
  history : y.history = x.history

/-- What a link holds of its session is the same. -/
structure LinkSt.SameSession (x y : LinkSt) : Prop where
  session : y.session = x.session
  authFails : y.authFails = x.authFails
  blockedAt : y.blockedAt = x.blockedAt

/-- What the Steward holds beside the links, the log's place and the Loupe is the same. -/
structure Steward.SameTasks (x y : Steward) : Prop where
  baud : y.baud = x.baud
  baudNext : y.baudNext = x.baudNext
  longOp : y.longOp = x.longOp
  cfgStage : y.cfgStage = x.cfgStage
  cfgLen : y.cfgLen = x.cfgLen
  progImage : y.progImage = x.progImage
  dmemImage : y.dmemImage = x.dmemImage
  safeStage : y.safeStage = x.safeStage
  logDiscarded : y.logDiscarded = x.logDiscarded
  crier : y.crier = x.crier

/-- The Steward has queued, logged and called for attention: outside itself, the log and the matrix nothing has changed, and no event has
gone. -/
structure State.Tended (s t : State) : Prop where
  moves : State.Moves [.events, .stew, .mram, .rtc, .draws] s t
  answers : ∀ l, (s.link l).SameAnswers (t.link l)
  tasks : s.stew.SameTasks t.stew
  events : ∀ e ∈ s.events, e ∈ t.events

/-- No link's session has changed. -/
structure State.SessionsKept (s t : State) : Prop where
  links : ∀ l, (s.link l).SameSession (t.link l)

theorem LinkSt.SameAnswers.refl (x : LinkSt) : x.SameAnswers x := ⟨rfl, rfl, rfl, rfl, rfl⟩
theorem LinkSt.SameSession.refl (x : LinkSt) : x.SameSession x := ⟨rfl, rfl, rfl⟩
theorem Steward.SameTasks.refl (x : Steward) : x.SameTasks x := ⟨rfl, rfl, rfl, rfl, rfl, rfl, rfl, rfl, rfl, rfl⟩

theorem LinkSt.SameAnswers.trans {x y z : LinkSt} (h : x.SameAnswers y) (k : y.SameAnswers z) : x.SameAnswers z :=
  ⟨k.hello.trans h.hello, k.last.trans h.last, k.nextReply.trans h.nextReply, k.lastAck.trans h.lastAck, k.history.trans h.history⟩

theorem LinkSt.SameSession.trans {x y z : LinkSt} (h : x.SameSession y) (k : y.SameSession z) : x.SameSession z :=
  ⟨k.session.trans h.session, k.authFails.trans h.authFails, k.blockedAt.trans h.blockedAt⟩

theorem Steward.SameTasks.trans {x y z : Steward} (h : x.SameTasks y) (k : y.SameTasks z) : x.SameTasks z :=
  ⟨k.baud.trans h.baud, k.baudNext.trans h.baudNext, k.longOp.trans h.longOp, k.cfgStage.trans h.cfgStage, k.cfgLen.trans h.cfgLen,
    k.progImage.trans h.progImage, k.dmemImage.trans h.dmemImage, k.safeStage.trans h.safeStage, k.logDiscarded.trans h.logDiscarded,
    k.crier.trans h.crier⟩

namespace State
variable {s t u : State} {l k : Link}

theorem Tended.refl (s : State) : s.Tended s := ⟨.refl s, fun _ => .refl _, .refl _, fun _ => id⟩

theorem Tended.trans (h : s.Tended t) (k : t.Tended u) : s.Tended u :=
  ⟨h.moves.trans k.moves, fun l => (h.answers l).trans (k.answers l), h.tasks.trans k.tasks, fun e he => k.events e (h.events e he)⟩

theorem SessionsKept.refl (s : State) : s.SessionsKept s := ⟨fun _ => .refl _⟩

theorem SessionsKept.trans (h : s.SessionsKept t) (k : t.SessionsKept u) : s.SessionsKept u :=
  ⟨fun l => (h.links l).trans (k.links l)⟩

/-! ### One link -/

@[simp] theorem link_modLink_same (s : State) (l : Link) (f : LinkSt → LinkSt) : (s.modLink l f).link l = f (s.link l) := by
  cases l <;> rfl

theorem link_modLink_other (s : State) {l k : Link} (f : LinkSt → LinkSt) (h : k ≠ l) : (s.modLink l f).link k = s.link k := by
  cases l <;> cases k
  · exact absurd rfl h
  · rfl
  · rfl
  · exact absurd rfl h

theorem Tended.modLink (h : s.Tended t) {f : LinkSt → LinkSt} (hf : ∀ x : LinkSt, x.SameAnswers (f x) := by exact fun _ => ⟨rfl, rfl, rfl, rfl, rfl⟩) :
    s.Tended (t.modLink l f) := by
  refine h.trans ⟨(Moves.refl t).modLink, fun k => ?_, ?_, ?_⟩
  · by_cases hk : k = l
    · rw [hk, link_modLink_same]
      exact hf _
    · rw [link_modLink_other _ _ hk]
      exact .refl _
  · cases l <;> exact ⟨rfl, rfl, rfl, rfl, rfl, rfl, rfl, rfl, rfl, rfl⟩
  · cases l <;> exact fun _ => id

theorem SessionsKept.modLink (h : s.SessionsKept t) {f : LinkSt → LinkSt} (hf : ∀ x : LinkSt, x.SameSession (f x) := by exact fun _ => ⟨rfl, rfl, rfl⟩) :
    s.SessionsKept (t.modLink l f) := by
  refine h.trans ⟨fun k => ?_⟩
  by_cases hk : k = l
  · rw [hk, link_modLink_same]
    exact hf _
  · rw [link_modLink_other _ _ hk]
    exact .refl _

/-! ### Events, attention and the log -/

theorem emit_stew (s : State) (n : Nat) : ∃ x, (s.emit n).stew = { s.stew with loupe := x } := by
  have hr : ∀ u : State, (u.route n).stew = u.stew := fun u => by
    unfold State.route
    split <;> rfl
  unfold State.emit State.loupeSee
  split
  · exact ⟨_, by rw [hr]⟩
  · exact ⟨_, by rw [hr]⟩

theorem link_emit (s : State) (n : Nat) (l : Link) : (s.emit n).link l = s.link l := by
  obtain ⟨x, hx⟩ := s.emit_stew n
  cases l <;> simp only [State.link, hx]

theorem Tended.emit (h : s.Tended t) {n : Nat} : s.Tended (t.emit n) := by
  refine h.trans ⟨(Moves.refl t).emit, fun l => ?_, ?_, fun e => State.emit_keeps t n e⟩
  · rw [link_emit]
    exact .refl _
  · obtain ⟨x, hx⟩ := t.emit_stew n
    rw [hx]
    exact ⟨rfl, rfl, rfl, rfl, rfl, rfl, rfl, rfl, rfl, rfl⟩

theorem SessionsKept.emit (h : s.SessionsKept t) {n : Nat} : s.SessionsKept (t.emit n) :=
  h.trans ⟨fun l => by rw [link_emit]; exact .refl _⟩

theorem Tended.ite {p : Prop} [Decidable p] (ht : s.Tended t) (hu : s.Tended u) : s.Tended (if p then t else u) := by
  split
  · exact ht
  · exact hu

theorem SessionsKept.ite {p : Prop} [Decidable p] (ht : s.SessionsKept t) (hu : s.SessionsKept u) : s.SessionsKept (if p then t else u) := by
  split
  · exact ht
  · exact hu

theorem Tended.attendBy (h : s.Tended t) {f : LinkSt → BitVec 8} : s.Tended (t.attendBy f) := by
  unfold State.attendBy
  exact .ite h.modLink.modLink h.modLink.modLink.emit

theorem SessionsKept.attendBy (h : s.SessionsKept t) {f : LinkSt → BitVec 8} : s.SessionsKept (t.attendBy f) := by
  unfold State.attendBy
  exact .ite h.modLink.modLink h.modLink.modLink.emit

theorem Tended.raise (h : s.Tended t) {n : Nat} : s.Tended (t.raise n) := by
  unfold State.raise
  exact .ite h.emit.attendBy h.emit

theorem SessionsKept.raise (h : s.SessionsKept t) {n : Nat} : s.SessionsKept (t.raise n) := by
  unfold State.raise
  exact .ite h.emit.attendBy h.emit

theorem Tended.rtcShown (h : s.Tended t) : s.Tended t.rtcShown :=
  h.trans ⟨(Moves.refl t).rtcShown, fun _ => .refl _, .refl _, fun _ => id⟩

theorem SessionsKept.rtcShown (h : s.SessionsKept t) : s.SessionsKept t.rtcShown := h.trans ⟨fun _ => .refl _⟩

theorem Tended.mramWrite (h : s.Tended t) {a : Nat} {b : List Byte} : s.Tended (t.mramWrite a b) :=
  h.trans ⟨(Moves.refl t).mramWrite, fun _ => .refl _, .refl _, fun _ => id⟩

theorem SessionsKept.mramWrite (h : s.SessionsKept t) {a : Nat} {b : List Byte} : s.SessionsKept (t.mramWrite a b) :=
  h.trans ⟨fun _ => .refl _⟩

/-- The log's place. -/
theorem Tended.logPlace (h : s.Tended t) {n : Word} {m : Nat} : s.Tended { t with stew := { t.stew with logNext := n, logHeld := m } } :=
  h.trans ⟨(Moves.refl t).record, fun l => by cases l <;> exact .refl _, ⟨rfl, rfl, rfl, rfl, rfl, rfl, rfl, rfl, rfl, rfl⟩, fun _ => id⟩

theorem SessionsKept.logPlace (h : s.SessionsKept t) {n : Word} {m : Nat} :
    s.SessionsKept { t with stew := { t.stew with logNext := n, logHeld := m } } :=
  h.trans ⟨fun l => by cases l <;> exact .refl _⟩

theorem Tended.log (h : s.Tended t) {code block : Nat} {sev : Severity} {data : List Byte} : s.Tended (t.log code block sev data) := by
  unfold State.log
  exact h.rtcShown.mramWrite.logPlace.raise.attendBy

theorem SessionsKept.log (h : s.SessionsKept t) {code block : Nat} {sev : Severity} {data : List Byte} :
    s.SessionsKept (t.log code block sev data) := by
  unfold State.log
  exact h.rtcShown.mramWrite.logPlace.raise.attendBy

/-! ### Queues -/

theorem Tended.queueTx (h : s.Tended t) {f : List TxPacket → List TxPacket} : s.Tended (t.queueTx l f) := by
  unfold State.queueTx
  exact .ite h.modLink h.modLink.emit

theorem SessionsKept.queueTx (h : s.SessionsKept t) {f : List TxPacket → List TxPacket} : s.SessionsKept (t.queueTx l f) := by
  unfold State.queueTx
  exact .ite h.modLink h.modLink.emit

theorem Tended.sendEntry (h : s.Tended t) {e : HistEntry} {again : Bool} : s.Tended (t.sendEntry l e again) := by
  unfold State.sendEntry
  exact .ite h.modLink h.queueTx

theorem SessionsKept.sendEntry (h : s.SessionsKept t) {e : HistEntry} {again : Bool} : s.SessionsKept (t.sendEntry l e again) := by
  unfold State.sendEntry
  exact .ite h.modLink h.queueTx

/-! ### Sessions -/

theorem Tended.logSession (h : s.Tended t) {what : Nat} : s.Tended (t.logSession l what) := h.log

theorem Tended.closeSession (h : s.Tended t) {what : Nat} : s.Tended (t.closeSession l what) := by
  unfold State.closeSession
  exact .ite h.modLink.emit.logSession h

theorem Tended.authFailed (h : s.Tended t) : s.Tended (t.authFailed l) := by
  unfold State.authFailed
  have h1 : s.Tended ((t.modLink l (fun k => { k with authFails := k.authFails + 1 })).logSession l 2) := h.modLink.logSession
  exact .ite h1.closeSession.modLink h1

theorem Tended.afterAnswer (h : s.Tended t) {status : Nat} : s.Tended (t.afterAnswer l status) := by
  unfold State.afterAnswer
  exact .ite h.authFailed (.ite h.modLink.closeSession h.modLink)

theorem Tended.touchSession (h : s.Tended t) {c : Cmd} : s.Tended (t.touchSession l c) := by
  unfold State.touchSession
  exact .ite h.modLink h

/-! ### Replies -/

/-- The history and SEQ of a reply, before it is queued. -/
def noted (s : State) (l : Link) (e : HistEntry) : State :=
  s.modLink l (fun k => { k with nextReply := k.nextReply + 1, history := (k.history ++ [e]).drop (k.history.length + 1 - 64) })

theorem reply_eq (s : State) (l : Link) (a : Asked) (ran final : Bool) (r : Reply) :
    s.reply l a ran final r =
      (s.noted l (r.entry a ran final (s.link l).nextReply)).sendEntry l (r.entry a ran final (s.link l).nextReply) false := rfl

theorem getLast?_drop_append_singleton {α : Type} (h : List α) (e : α) (n : Nat) (hn : n ≤ h.length) :
    ((h ++ [e]).drop n).getLast? = some e := by
  rw [List.drop_append_of_le_length hn, List.getLast?_append, List.getLast?_singleton, Option.some_or]

theorem getLast?_noted (s : State) (l : Link) (e : HistEntry) : ((s.noted l e).link l).history.getLast? = some e := by
  rw [noted, link_modLink_same]
  exact getLast?_drop_append_singleton _ _ _ (by omega)

theorem drop_entry_body (r : Reply) (a : Asked) (ran final : Bool) (n : BitVec 16) :
    (r.entry a ran final n).body.drop 16 = leBytes 2 r.status ++ zeros 2 ++ leBytes 4 r.detail ++ r.carried := by
  simp only [Reply.entry, List.drop_left' (length_headerBytes ..)]

/-- A state in which the newest reply held answers the command. -/
theorem answers_of_history {h : Hdr} {r : Reply} {a : Asked} {ran final : Bool} (ha : a.seq = h.seq)
    (ht : (t.link l).history.getLast? = some (r.entry a ran final (s.link l).nextReply)) : s.answers t l h r :=
  ⟨_, ht, ha, rfl, drop_entry_body ..⟩

/-- What a reply leaves alone, and what it leaves in the history. -/
structure Replied (s t : State) (l : Link) (e : HistEntry) : Prop where
  moves : Moves [.events, .stew, .mram, .rtc, .draws] s t
  newest : (t.link l).history.getLast? = some e
  history : (t.link l).history = ((s.link l).history ++ [e]).drop ((s.link l).history.length + 1 - 64)
  hello : (t.link l).hello = (s.link l).hello
  last : (t.link l).last = (s.link l).last
  lastAck : (t.link l).lastAck = (s.link l).lastAck
  others : ∀ k, k ≠ l → (s.link k).SameAnswers (t.link k)
  tasks : s.stew.SameTasks t.stew
  events : ∀ e ∈ s.events, e ∈ t.events

theorem replied_noted (s : State) (l : Link) (e : HistEntry) : Replied s (s.noted l e) l e where
  moves := (Moves.refl s).modLink
  newest := getLast?_noted s l e
  history := by rw [noted, link_modLink_same]
  hello := by rw [noted, link_modLink_same]
  last := by rw [noted, link_modLink_same]
  lastAck := by rw [noted, link_modLink_same]
  others k hk := by rw [noted, link_modLink_other _ _ hk]; exact .refl _
  tasks := by cases l <;> exact ⟨rfl, rfl, rfl, rfl, rfl, rfl, rfl, rfl, rfl, rfl⟩
  events := by cases l <;> exact fun _ => id

theorem Replied.tended {e : HistEntry} (h : Replied s t l e) (k : t.Tended u) : Replied s u l e where
  moves := h.moves.trans k.moves
  newest := by rw [(k.answers l).history]; exact h.newest
  history := (k.answers l).history.trans h.history
  hello := (k.answers l).hello.trans h.hello
  last := (k.answers l).last.trans h.last
  lastAck := (k.answers l).lastAck.trans h.lastAck
  others j hj := (h.others j hj).trans (k.answers j)
  tasks := h.tasks.trans k.tasks
  events x hx := k.events x (h.events x hx)

theorem replied_reply (s : State) (l : Link) (a : Asked) (ran final : Bool) (r : Reply) :
    Replied s (s.reply l a ran final r) l (r.entry a ran final (s.link l).nextReply) :=
  (replied_noted s l _).tended (Tended.refl _).sendEntry

theorem replied_answer (s : State) (l : Link) (c : Cmd) (r : Reply) (hs : s.serves l = true) :
    Replied s (s.answer l c r) l (r.entry c.asked true false (s.link l).nextReply) := by
  unfold State.answer
  rw [if_pos hs]
  exact (replied_reply ..).tended (Tended.refl _).afterAnswer

theorem OnlySteward.of_moves (h : Moves [.events, .stew, .mram, .rtc, .draws, .tst] s t) : s.OnlySteward t :=
  ⟨h.regs, h.clockKept, h.sys, h.otp, h.sram, h.dma, h.cfg, h.loom, h.gdp, h.acq, h.mill, h.tasks, h.grn, h.ring, h.safe⟩

end State
end Sys2Proof.Machine

/-! The checks that a command packet goes through (R325). -/

namespace Sys2Proof.Machine

set_option Elab.async false

/-! ### What a command packet goes through (R325) -/

namespace State
variable {s t u : State} {l : Link} {h : Hdr} {op : Nat} {p : List Byte} {r : Reply}

theorem hostMoves_moves (s t : State) (n : Nat) : Moves [.tst] t (s.hostMoves t n) := by
  obtain ⟨_, _, _, e⟩ := State.hostMoves_shape s t n
  rw [e]
  exact (Moves.refl t).record

theorem link_congr (h : t.stew = s.stew) (l : Link) : t.link l = s.link l := by
  cases l <;> simp only [link, h]

@[simp] theorem link_hostMoves (s t : State) (n : Nat) (l : Link) : (s.hostMoves t n).link l = t.link l :=
  link_congr (hostMoves_moves s t n).stew l

theorem hostMoves_unmoved (s : State) (n : Nat) : s.unmoved (s.hostMoves s n) := by
  obtain ⟨x, y, z, e⟩ := State.hostMoves_shape s s n
  exact ⟨x, y, z, s.cycle, e⟩

/-- The command has been heard: its ACK is recorded. -/
def heard (s : State) (l : Link) (c : Cmd) : State := s.modLink l (fun k => { k with lastAck := c.ack })

theorem heard_moves (s : State) (l : Link) (c : Cmd) : Moves [.stew] s (s.heard l c) := (Moves.refl s).modLink

theorem link_heard (s : State) (l : Link) (c : Cmd) : (s.heard l c).link l = { s.link l with lastAck := c.ack } := link_modLink_same ..

/-- A packet that a port takes, and whose framing is right. -/
theorem command_eq (hf : hdrFits h p = true) (hs : s.serves l = true) (hr : s.rxFull l = false) :
    s.command op l h p =
      s.hostMoves (s.receive l (hdrCmd h op p) (fun t => t.execute l (hdrCmd h op p))) (20 + p.length + (h.tag.getD []).length) := by
  simp only [command, takeCommand, hf, hs, hr, if_true, Bool.not_true, Bool.false_eq_true, if_false]

theorem get_heard (c : Cmd) (f : Fld) : (s.heard l c).get f = s.get f := get_congr (heard_moves s l c).regs f

theorem mode_congr (h : t.regs = s.regs) : t.mode = s.mode := by simp only [mode, get_congr h]

theorem limpTakes_congr (hr : t.regs = s.regs) (hs : t.sys = s.sys) (op : Nat) : t.limpTakes op = s.limpTakes op := by
  simp only [limpTakes, mode_congr hr, hs]

theorem modeAccepts_congr (hr : t.regs = s.regs) (hs : t.sys = s.sys) (op : Nat) : t.modeAccepts op = s.modeAccepts op := by
  simp only [modeAccepts, mode_congr hr, hs]

theorem seqStep_heard (c : Cmd) : (s.heard l c).seqStep l c = s.seqStep l c := by
  have hm := heard_moves s l c
  simp only [seqStep, limpTakes_congr hm.regs hm.sys, link_heard]

theorem tagRight_congr (h : (t.link l).session = (s.link l).session) (c : Cmd) : t.tagRight l c = s.tagRight l c := by
  unfold tagRight
  rw [h]

theorem untagged_congr (hs : t.sys = s.sys) (ho : t.otp = s.otp) (op : Nat) : t.untagged op = s.untagged op := by
  simp only [untagged, hs, ho]

theorem worldStep_heard (c : Cmd) : (s.heard l c).worldStep l c = s.worldStep l c := by
  have hm := heard_moves s l c
  have hk : ((s.heard l c).link l).session = (s.link l).session := by rw [link_heard]
  simp only [worldStep, limpTakes_congr hm.regs hm.sys, untagged_congr hm.sys hm.otp, tagRight_congr hk, hk]

/-- The reply of `t` answers the command that `s` took, with L at `last` and nothing else changed outside the Steward. -/
structure Refuses (s t : State) (l : Link) (h : Hdr) (r : Reply) (last : BitVec 16) : Prop where
  answers : s.answers t l h r
  last : (t.link l).last = last
  only : s.OnlySteward t

theorem Refuses.of_replied {a : Asked} {ran final : Bool} (hu : Moves [.stew] s u) (hn : (u.link l).nextReply = (s.link l).nextReply)
    (ht : Replied u t l (r.entry a ran final (u.link l).nextReply)) (ha : a.seq = h.seq) (n : Nat) :
    Refuses s (s.hostMoves t n) l h r (u.link l).last where
  answers := answers_of_history ha (by rw [link_hostMoves, ht.newest, hn])
  last := by rw [link_hostMoves, ht.last]
  only := .of_moves (((hu.mono (by decide)).trans (ht.moves.mono (by decide))).trans ((hostMoves_moves s t n).mono (by decide)))

theorem replied_refusal (s : State) (l : Link) (a : Asked) (ran final : Bool) (r : Reply) (status : Nat) :
    Replied s ((s.reply l a ran final r).afterAnswer l status) l (r.entry a ran final (s.link l).nextReply) :=
  (replied_reply ..).tended (Tended.refl _).afterAnswer

/-- L after a refusal of `status`. -/
theorem refuses_refuseCmd {c : Cmd} (hu : Moves [.stew] s u) (hn : (u.link l).nextReply = (s.link l).nextReply) (ha : c.asked.seq = h.seq)
    (r : Reply) (n : Nat) :
    Refuses s (s.hostMoves (u.refuseCmd l c r) n) l h r
      (if (decide (0x20 ≤ r.status) && !keepsL c.asked.opcode) = true then h.seq else (u.link l).last) := by
  unfold refuseCmd
  extract_lets ran t
  have ht : Moves [.stew] s t := .ite hu.modLink hu
  have hnt : (t.link l).nextReply = (s.link l).nextReply := by
    unfold t
    split
    · rw [link_modLink_same]; exact hn
    · exact hn
  have hl : (t.link l).last = if (ran && !keepsL c.asked.opcode) = true then h.seq else (u.link l).last := by
    unfold t
    split
    · rw [link_modLink_same]; exact ha
    · rfl
  rw [← hl]
  exact .of_replied ht hnt (replied_refusal ..) ha n

/-- A refusal of the sequence check leaves L alone. -/
theorem refuses_heard {c : Cmd} (ha : c.asked.seq = h.seq) (r : Reply) (n : Nat) :
    Refuses s (s.hostMoves (((s.heard l c).reply l c.asked false false r).afterAnswer l r.status) n) l h r (s.link l).last := by
  have h1 := Refuses.of_replied (u := s.heard l c) (heard_moves s l c) (by rw [link_heard]) (replied_refusal (s.heard l c) l c.asked false false r r.status) ha n
  rwa [link_heard] at h1

/-- A command that comes with the right SEQ goes on to the checks of mode, world and form. -/
theorem receive_of_go {c : Cmd} (hgo : s.seqStep l c = .go) (run : State → State) : s.receive l c run = (s.heard l c).carryOut l c run := by
  rw [receive, ← heard, seqStep_heard, hgo]

theorem hdrCmd_opcode : (hdrCmd h op p).asked.opcode = op := rfl
theorem hdrCmd_seq : (hdrCmd h op p).asked.seq = h.seq := rfl
theorem hdrCmd_ack : (hdrCmd h op p).ack = h.ack := rfl
theorem hdrCmd_payload : (hdrCmd h op p).payload = p := rfl

section
variable (hf : hdrFits h p = true) (hs : s.serves l = true) (hr : s.rxFull l = false)
include hf hs hr

/-- A SEQ that the sequence check does not take. -/
theorem refuses_gap {d : Nat} (hgap : s.seqStep l (hdrCmd h op p) = .gap d) :
    Refuses s (s.command op l h p) l h { status := Status.seqGap, detail := d } (s.link l).last := by
  rw [command_eq hf hs hr, receive, ← heard, seqStep_heard, hgap]
  exact refuses_heard rfl _ _

theorem refuses_duplicate (hdup : s.seqStep l (hdrCmd h op p) = .duplicate) :
    Refuses s (s.command op l h p) l h { status := Status.duplicate, detail := (s.link l).last.toNat } (s.link l).last := by
  have hl : ((s.heard l (hdrCmd h op p)).link l).last = (s.link l).last := by rw [link_heard]
  rw [command_eq hf hs hr, receive, ← heard, seqStep_heard, hdup, ← hl]
  have h1 := refuses_heard (s := s) (l := l) (h := h) (c := hdrCmd h op p) rfl
    { status := Status.duplicate, detail := ((s.heard l (hdrCmd h op p)).link l).last.toNat } (20 + p.length + (h.tag.getD []).length)
  rwa [← hl] at h1

theorem refuses_mode (hgo : s.seqStep l (hdrCmd h op p) = .go) (hm : s.modeAccepts op = false) :
    Refuses s (s.command op l h p) l h s.conflict (if keepsL op then (s.link l).last else h.seq) := by
  have hu := heard_moves s l (hdrCmd h op p)
  have hc : (s.heard l (hdrCmd h op p)).conflict = s.conflict := by simp only [conflict, mode_congr hu.regs]
  rw [command_eq hf hs hr, receive_of_go hgo, carryOut, hdrCmd_opcode, modeAccepts_congr hu.regs hu.sys, hm, hc, Bool.not_false, if_pos rfl]
  have h1 := refuses_refuseCmd (c := hdrCmd h op p) hu (by rw [link_heard]) rfl s.conflict (20 + p.length + (h.tag.getD []).length)
  rw [link_heard, hdrCmd_opcode] at h1
  cases hk : keepsL op <;> rw [hk] at h1 <;> exact h1

theorem refuses_world {r : Reply} (hgo : s.seqStep l (hdrCmd h op p) = .go) (hm : s.modeAccepts op = true)
    (hw : s.worldStep l (hdrCmd h op p) = some r) :
    Refuses s (s.command op l h p) l h r (if (decide (0x20 ≤ r.status) && !keepsL op) = true then h.seq else (s.link l).last) := by
  have hu := heard_moves s l (hdrCmd h op p)
  rw [command_eq hf hs hr, receive_of_go hgo, carryOut, hdrCmd_opcode, modeAccepts_congr hu.regs hu.sys, hm, worldStep_heard, hw]
  have h1 := refuses_refuseCmd (c := hdrCmd h op p) hu (by rw [link_heard]) rfl r (20 + p.length + (h.tag.getD []).length)
  rwa [link_heard, hdrCmd_opcode] at h1

theorem refuses_form {r : Reply} (hgo : s.seqStep l (hdrCmd h op p) = .go) (hm : s.modeAccepts op = true)
    (hw : s.worldStep l (hdrCmd h op p) = none) (hform : lenStep op p = some r) :
    Refuses s (s.command op l h p) l h r (if (decide (0x20 ≤ r.status) && !keepsL op) = true then h.seq else (s.link l).last) := by
  have hu := heard_moves s l (hdrCmd h op p)
  have ht := Tended.touchSession (l := l) (c := hdrCmd h op p) (.refl (s.heard l (hdrCmd h op p)))
  rw [command_eq hf hs hr, receive_of_go hgo, carryOut, hdrCmd_opcode, modeAccepts_congr hu.regs hu.sys, hm, worldStep_heard, hw]
  simp only [Bool.not_true, Bool.false_eq_true, if_false, formStep, hdrCmd_opcode, hdrCmd_payload, hform]
  have h1 := refuses_refuseCmd (c := hdrCmd h op p) (hu.touchSession (l := l) (c := hdrCmd h op p))
    (by rw [(ht.answers l).nextReply, link_heard]) rfl r (20 + p.length + (h.tag.getD []).length)
  rwa [(ht.answers l).last, link_heard, hdrCmd_opcode] at h1

end

theorem seqStep_eq (hl : s.limpTakes op = false) (hk : keepsL op = false) :
    s.seqStep l (hdrCmd h op p) =
      if !(s.link l).hello then .gap (2 ^ 31)
      else if h.seq = (s.link l).last + 1 then .go
      else if newer 16 h.seq.toNat ((s.link l).last + 1).toNat then .gap ((s.link l).last + 1).toNat
      else match (s.link l).history.filter (fun e => e.cmdSeq == h.seq && e.ran == some (hdrCmd h op p).asked.crc) with
        | [] => .duplicate
        | es => .again es := by
  simp only [seqStep, hdrCmd_opcode, hl, hk, Bool.or_false, Bool.false_eq_true, if_false]
  rfl

theorem worldStep_secure (hop : op ∈ secureOps) (hw : h.world = .nonSecure) (hg : h.tag = none) (hl : s.limpTakes op = false) :
    s.worldStep l (hdrCmd h op p) = some { status := Status.worldDenied } := by
  have hc : secureOps.contains op = true := by simpa using hop
  simp only [worldStep, hdrCmd, hl, hw, hg, worldCode, hc]
  rfl

end State

theorem keepsL_of_secure {op : Nat} (hop : op ∈ secureOps) : keepsL op = false := by
  revert hop op
  decide

/-- Settles O39: each check answers with `State.refuseCmd` or leaves the packet, and both stay inside the Steward. -/
theorem packetsAreChecked : Obligations.PacketsAreChecked := by
  intro i op hi s l h p hf hs
  refine ⟨fun hfull hl => ?_, fun hfull hl => ?_, fun hr => ?_⟩
  · subst hl
    refine ⟨_, hi.exec_eq .., ?_⟩
    rw [State.command, State.takeCommand, if_pos hf, hs, hfull]
    exact State.hostMoves_unmoved ..
  · subst hl
    refine ⟨_, hi.exec_eq .., ?_⟩
    rw [State.command, State.takeCommand, if_pos hf, hs, hfull]
    dsimp only [Bool.not_true, Bool.false_eq_true, if_false, if_true]
    simp only [State.link_hostMoves]
    exact ⟨rfl, rfl, rfl, .of_moves (((State.Moves.refl s).discard (l := .spi)).trans ((State.hostMoves_moves ..).mono (by decide)))⟩
  · intro refuses
    have hdone : ∀ r last, State.Refuses s (s.command op l h p) l h r last → refuses r last :=
      fun r last hx => ⟨_, hi.exec_eq .., hx.answers, hx.last, hx.only⟩
    refine ⟨fun hlimp hk => ⟨fun hh => ?_, fun hh hn hne => ?_, fun hh hn hne hno => ?_⟩, fun hgo => ⟨fun hm => ?_, fun hm hop hw hg hlimp => ?_, fun hm hw n hrule hne => ?_⟩⟩
    · exact hdone _ _ (State.refuses_gap hf hs hr (by rw [State.seqStep_eq hlimp hk, hh]; rfl))
    · exact hdone _ _ (State.refuses_gap hf hs hr (by rw [State.seqStep_eq hlimp hk, hh, if_neg hne, hn]; rfl))
    · refine hdone _ _ (State.refuses_duplicate hf hs hr ?_)
      have hnone : (s.link l).history.filter (fun e => e.cmdSeq == h.seq && e.ran == some (hdrCmd h op p).asked.crc) = [] :=
        List.filter_eq_nil_iff.2 fun e he => by simp [hno e he]
      rw [State.seqStep_eq hlimp hk, hh, if_neg hne, hn, hnone]
      rfl
    · exact hdone _ _ (State.refuses_mode hf hs hr hgo hm)
    · have h1 := State.refuses_world hf hs hr hgo hm (State.worldStep_secure hop hw hg hlimp)
      rw [keepsL_of_secure hop] at h1
      exact hdone _ _ h1
    · exact hdone _ _ (State.refuses_form hf hs hr hgo hm hw (by rw [lenStep, hrule]; exact if_neg hne))
end Sys2Proof.Machine

/-! Commands that pass every check, and the link, session and port commands (R322, R327, R329, R335, R336). -/

namespace Sys2Proof.Machine

set_option Elab.async false

/-! ### Commands that pass every check -/

namespace State
variable {s t u : State} {l : Link} {h : Hdr} {op : Nat} {p : List Byte} {r : Reply}

/-- The state in which a command that passes every check is executed: its ACK recorded, its session touched, L at its SEQ. -/
def ready (s : State) (l : Link) (c : Cmd) : State :=
  let t := (s.heard l c).touchSession l c
  if keepsL c.asked.opcode then t else t.modLink l (fun k => { k with last := c.asked.seq })

theorem fwRecord_congr (h : t.mem = s.mem) (slot : Nat) : t.fwRecord slot = s.fwRecord slot := by
  have hline : ∀ i, t.fwLine i = s.fwLine i := fun i => by
    unfold fwLine mramRead mramErr
    rw [h]
  unfold fwRecord fwNewest fwLines
  simp only [hline]

theorem runVersion_congr (hr : t.regs = s.regs) (hs : t.sys = s.sys) (hm : t.mem = s.mem) : t.runVersion = s.runVersion := by
  simp only [runVersion, hs, get_congr hr, fwVersion, fwRecord_congr hm]

theorem longOpcode_congr (h : t.stew.longOp = s.stew.longOp) : t.longOpcode = s.longOpcode := by simp only [longOpcode, h]

theorem formStep_congr (h : t.stew.longOp = s.stew.longOp) (c : Cmd) : t.formStep c = s.formStep c := by
  unfold formStep longConflict
  rw [longOpcode_congr h]

/-- The tagged command touches the session that it came under. -/
theorem link_touchSession (s : State) (l : Link) (c : Cmd) :
    ∃ x, (s.touchSession l c).link l = { s.link l with session := x } ∧ x.isSome = (s.link l).session.isSome ∧
      (c.asked.tagged = false → x = (s.link l).session) := by
  unfold touchSession
  split
  · next hc =>
    refine ⟨_, link_modLink_same .., by simp, fun hno => ?_⟩
    rw [hno] at hc
    exact absurd hc.1 (by decide)
  · exact ⟨_, rfl, rfl, fun _ => rfl⟩

/-- What the state of execution keeps of the state before the packet. -/
structure Ready (s u : State) (l : Link) (h : Hdr) (op : Nat) : Prop where
  moves : Moves [.stew] s u
  link : ∃ x, u.link l = { s.link l with lastAck := h.ack, last := if keepsL op then (s.link l).last else h.seq, session := x } ∧
    x.isSome = (s.link l).session.isSome ∧ (h.tag = none → x = (s.link l).session)
  others : ∀ k, k ≠ l → u.link k = s.link k
  tasks : s.stew.SameTasks u.stew
  loupe : u.stew.loupe = s.stew.loupe
  logNext : u.stew.logNext = s.stew.logNext
  logHeld : u.stew.logHeld = s.stew.logHeld

theorem stew_modLink (s : State) (l : Link) (f : LinkSt → LinkSt) :
    (s.modLink l f).stew = { s.stew with spi := (s.modLink l f).stew.spi, uart := (s.modLink l f).stew.uart } := by
  cases l <;> rfl

theorem stew_touchSession (s : State) (l : Link) (c : Cmd) :
    (s.touchSession l c).stew = { s.stew with spi := (s.touchSession l c).stew.spi, uart := (s.touchSession l c).stew.uart } := by
  unfold touchSession
  split
  · exact stew_modLink ..
  · rfl

theorem link_touchSession_other (s : State) {l k : Link} (c : Cmd) (hk : k ≠ l) : (s.touchSession l c).link k = s.link k := by
  unfold touchSession
  split
  · exact link_modLink_other _ _ hk
  · rfl

theorem ready_ready (s : State) (l : Link) (h : Hdr) (op : Nat) (p : List Byte) : Ready s (s.ready l (hdrCmd h op p)) l h op := by
  have hstew : ∃ x y, (s.ready l (hdrCmd h op p)).stew = { s.stew with spi := x, uart := y } := by
    unfold ready heard
    split
    · rw [stew_touchSession, stew_modLink]
      exact ⟨_, _, rfl⟩
    · rw [stew_modLink, stew_touchSession, stew_modLink]
      exact ⟨_, _, rfl⟩
  obtain ⟨a, b, hstew⟩ := hstew
  refine ⟨.ite (heard_moves ..).touchSession (heard_moves ..).touchSession.modLink, ?_, fun k hk => ?_, ?_, ?_, ?_, ?_⟩
  · obtain ⟨x, hx, hsome, htag⟩ := link_touchSession (s.heard l (hdrCmd h op p)) l (hdrCmd h op p)
    rw [link_heard] at hx hsome htag
    refine ⟨x, ?_, hsome, fun hg => htag (by simp only [hdrCmd, hg, Option.isSome_none])⟩
    unfold ready
    rw [hdrCmd_opcode]
    dsimp only
    split
    · rw [hx, hdrCmd_ack]
    · rw [link_modLink_same, hx, hdrCmd_ack, hdrCmd_seq]
  · unfold ready
    dsimp only
    split
    · rw [link_touchSession_other _ _ hk, heard, link_modLink_other _ _ hk]
    · rw [link_modLink_other _ _ hk, link_touchSession_other _ _ hk, heard, link_modLink_other _ _ hk]
  · rw [hstew]; exact ⟨rfl, rfl, rfl, rfl, rfl, rfl, rfl, rfl, rfl, rfl⟩
  all_goals rw [hstew]

section
variable (hu : Ready s u l h op)
include hu

theorem Ready.last : (u.link l).last = if keepsL op then (s.link l).last else h.seq := by
  obtain ⟨_, e, -⟩ := hu.link; rw [e]
theorem Ready.lastAck : (u.link l).lastAck = h.ack := by obtain ⟨_, e, -⟩ := hu.link; rw [e]
theorem Ready.hello : (u.link l).hello = (s.link l).hello := by obtain ⟨_, e, -⟩ := hu.link; rw [e]
theorem Ready.nextReply : (u.link l).nextReply = (s.link l).nextReply := by obtain ⟨_, e, -⟩ := hu.link; rw [e]
theorem Ready.history : (u.link l).history = (s.link l).history := by obtain ⟨_, e, -⟩ := hu.link; rw [e]
theorem Ready.authFails : (u.link l).authFails = (s.link l).authFails := by obtain ⟨_, e, -⟩ := hu.link; rw [e]
theorem Ready.blockedAt : (u.link l).blockedAt = (s.link l).blockedAt := by obtain ⟨_, e, -⟩ := hu.link; rw [e]
theorem Ready.tx : (u.link l).tx = (s.link l).tx := by obtain ⟨_, e, -⟩ := hu.link; rw [e]
theorem Ready.later : (u.link l).later = (s.link l).later := by obtain ⟨_, e, -⟩ := hu.link; rw [e]
theorem Ready.hasSession (k : Link) : (u.link k).session.isSome = (s.link k).session.isSome := by
  by_cases hk : k = l
  · obtain ⟨_, e, hx, -⟩ := hu.link
    rw [hk, e]
    exact hx
  · rw [hu.others k hk]
theorem Ready.serves (hs : s.serves l = true) : u.serves l = true := by
  simpa only [State.serves, hu.moves.sys] using hs
theorem Ready.get (f : Fld) : u.get f = s.get f := get_congr hu.moves.regs f
theorem Ready.on (f : Fld) : u.on f = s.on f := on_congr hu.moves.regs f
theorem Ready.rd (a : Nat) : u.rd a = s.rd a := rd_congr hu.moves.regs a
theorem Ready.mode : u.mode = s.mode := mode_congr hu.moves.regs
theorem Ready.stateBlock : u.stateBlock l = s.stateBlock l := by
  have hv := runVersion_congr hu.moves.regs hu.moves.sys hu.moves.mem
  simp only [State.stateBlock, hu.mode, hu.get, longOpcode, hu.tasks.longOp, hu.moves.cfg, hu.hasSession, hv, hu.rd, hu.logNext, hu.on]
end

/-- A packet that passes every check is executed. -/
theorem Passes.command_eq (hp : s.Passes op l h p) :
    s.command op l h p =
      s.hostMoves ((s.ready l (hdrCmd h op p)).execute l (hdrCmd h op p)) (20 + p.length + (h.tag.getD []).length) := by
  have hm := heard_moves s l (hdrCmd h op p)
  have htask := (Tended.touchSession (l := l) (c := hdrCmd h op p) (.refl (s.heard l (hdrCmd h op p)))).tasks.longOp
  have hlong : (s.heard l (hdrCmd h op p)).stew.longOp = s.stew.longOp := by rw [heard, stew_modLink]
  rw [State.command_eq hp.fits hp.serves hp.room, receive_of_go hp.seq, carryOut, hdrCmd_opcode, modeAccepts_congr hm.regs hm.sys, hp.mode,
    worldStep_heard, hp.world]
  simp only [Bool.not_true, Bool.false_eq_true, if_false, formStep_congr (htask.trans hlong), hp.form]
  rfl

theorem answers_hostMoves_answer {c : Cmd} (hc : c.asked.seq = h.seq) (hn : (u.link l).nextReply = (s.link l).nextReply)
    (hs : u.serves l = true) (r : Reply) (n : Nat) : s.answers (s.hostMoves (u.answer l c r) n) l h r :=
  answers_of_history hc (by rw [link_hostMoves, (replied_answer u l c r hs).newest, hn])

/-! ### Sessions after an answer -/

theorem sessionsKept_reply (s : State) (l : Link) (a : Asked) (ran final : Bool) (r : Reply) : s.SessionsKept (s.reply l a ran final r) := by
  rw [reply_eq]
  exact (SessionsKept.refl s).modLink.sendEntry

/-- The session stays where the answer is no AUTH_FAIL and CTR is not at its end. -/
theorem session_answer {c : Cmd} {x : Option Session} (hs : u.serves l = true) (hr : r.status ≠ Status.authFail) (hx : (u.link l).session = x)
    (hend : (x.map (·.ctr)).getD 0 ≠ 0xFFFFFFFF) : ((u.answer l c r).link l).session = x := by
  have hk := ((sessionsKept_reply u l c.asked true false r).links l).session.trans hx
  rw [answer, if_pos hs, afterAnswer, if_neg hr]
  dsimp only
  rw [link_modLink_same]
  dsimp only
  rw [hk, if_neg hend, link_modLink_same]
  exact hk

theorem coreRuns_congr (hr : t.regs = s.regs) (hs : t.sys = s.sys) : t.coreRuns = s.coreRuns := by
  simp only [coreRuns, mode_congr hr, hs]

theorem Moves.coreRuns (h : Moves F s t) (hr : F.elem .regs = false := by decide) (hs : F.elem .sys = false := by decide) :
    t.coreRuns = s.coreRuns := coreRuns_congr (h.regs hr) (h.sys hs)

theorem clockKept.count (h : s.clockKept t) : t.clk.count = s.clk.count := by
  obtain ⟨_, e⟩ := h
  rw [e]

theorem clockKept.stateCount (h : s.clockKept t) : t.count = s.count := by rw [State.count, h.count]; rfl

/-- An event raised at the same COUNT, before others. -/
theorem sent.of_kept {n : Nat} (hc : u.clk.count = s.clk.count) (h : u.sent t n) : s.sent t n := by
  obtain ⟨e, he, hsrc, hcnt⟩ := h
  exact ⟨e, he, hsrc, hcnt.trans hc⟩

theorem sent.mono {n : Nat} (h : s.sent t n) (hk : ∀ e ∈ t.events, e ∈ u.events) : s.sent u n := by
  obtain ⟨e, he, hx⟩ := h
  exact ⟨e, hk e he, hx⟩

/-- A session that closes sends its event. -/
theorem sent_closeSession {what : Nat} (h : (u.link l).session.isSome = true) (hc : u.coreRuns = true) : u.sent (u.closeSession l what) 0xFC := by
  have hm : Moves [.stew] u (u.modLink l (fun k => { k with session := none })) := (Moves.refl u).modLink
  have hs := emit_arrives (u.modLink l (fun k => { k with session := none })) 0xFC (hm.coreRuns.trans hc)
  rw [closeSession, if_pos h]
  exact sent.mono (sent.of_kept (congrArg Clk.count hm.clk) hs) (Tended.refl _).logSession.events

theorem session_closeSession (s : State) (l : Link) (what : Nat) : ((s.closeSession l what).link l).session = none := by
  have hk := (SessionsKept.refl ((s.modLink l (fun k => { k with session := none })).emit 0xFC)).log (code := 0x0070) (block := 0xFF)
    (sev := if what < 2 then .info else .warn) (data := leBytes 1 (bit1 (l == .uart)) ++ leBytes 1 what)
  unfold closeSession
  split
  · rw [logSession, (hk.links l).session, link_emit, link_modLink_same]
  · next hno => simpa using hno

/-! ### Group 0x00 (R322, R327, R329, R335, R336) -/

theorem OnlySteward.hostMoves {F : List Part} (h : Moves F s t) (v : State) (n : Nat)
    (hF : F ⊆ [.events, .stew, .mram, .rtc, .draws, .tst] := by decide) : s.OnlySteward (v.hostMoves t n) :=
  .of_moves ((h.mono hF).trans ((hostMoves_moves v t n).mono (by decide)))

theorem Ready.helloData (hu : Ready s u l h op) : u.helloData = s.helloData := by
  simp only [State.helloData, hu.get, hu.mode, runVersion_congr hu.moves.regs hu.moves.sys hu.moves.mem]

/-- What is common to the commands that only answer: the reply, L, and the frame. -/
theorem Ready.answered {c : Cmd} (hu : Ready s u l h op) (hs : s.serves l = true) (hc : c.asked.seq = h.seq) (r : Reply) (n : Nat) :
    Refuses s (s.hostMoves (u.answer l c r) n) l h r (if keepsL op then (s.link l).last else h.seq) where
  answers := answers_hostMoves_answer hc hu.nextReply (hu.serves hs) r n
  last := by rw [link_hostMoves, (replied_answer u l c r (hu.serves hs)).last, hu.last]
  only := .hostMoves ((hu.moves.mono (by decide)).trans (replied_answer u l c r (hu.serves hs)).moves) s n


theorem doHello_bad {c : Cmd} (hv : fieldLe c.payload 0 2 ≠ 1) : u.doHello l c = u.answer l c (Reply.invalid 0) := if_pos hv

/-- HELLO of the version spoken, without a session and without an abandoned installation. -/
theorem doHello_good {c : Cmd} (hv : fieldLe c.payload 0 2 = 1) (hs : (u.link l).session = none) (hf : u.cfg.fwAborted = none) :
    u.doHello l c =
      (u.modLink l (fun k => { k with hello := true, last := c.asked.seq, history := [] })).answer l c { data := u.helloData } := by
  have hm : Moves [.stew] u (u.modLink l (fun k => { k with hello := true, last := c.asked.seq, history := [] })) := (Moves.refl u).modLink
  have hd : (u.modLink l (fun k => { k with hello := true, last := c.asked.seq, history := [] })).helloData = u.helloData := by
    simp only [helloData, get_congr hm.regs, mode_congr hm.regs, runVersion_congr hm.regs hm.sys hm.mem]
  have hcl : u.closeSession l 1 = u := by rw [closeSession, hs]; rfl
  rw [doHello, if_neg (not_not.2 hv), hcl]
  dsimp only
  rw [hm.cfg, hf, hd]
  congr 1
  have hc : ({ u.cfg with fwAborted := none } : Cfg) = u.cfg := by rw [← hf]
  rw [hc, ← hm.cfg]

/-- A SEQ that is right needs no HELLO: HELLO itself is taken with any. -/
theorem hello_command (hp : s.Passes 0x0001 l h p) (hv : fieldLe p 0 2 = 1) (hses : (s.link l).session = none)
    (hfw : s.cfg.fwAborted = none) : Completes (.hello l h p) s fun t =>
      s.gives t l h (s.helloData) ∧ (t.link l).hello = true ∧ (t.link l).last = h.seq ∧ (t.link l).session = none ∧
      (t.link l).history.length = 1 ∧ (t.link l).lastAck = h.ack ∧ s.OnlySteward t := by
  refine ⟨_, rfl, ?_⟩
  rw [hp.command_eq]
  have hu := ready_ready s l h 0x0001 p
  generalize s.ready l (hdrCmd h 0x0001 p) = u at hu
  have hnone : (u.link l).session = none := by
    have := hu.hasSession l
    rw [hses] at this
    simpa using this
  have hx : u.execute l (hdrCmd h 0x0001 p) = u.doHello l (hdrCmd h 0x0001 p) := rfl
  rw [hx, doHello_good hv hnone (by rw [hu.moves.cfg, hfw]), hu.helloData]
  generalize ht : u.modLink l (fun k => { k with hello := true, last := (hdrCmd h 0x0001 p).asked.seq, history := [] }) = t
  have hm : Moves [.stew] s t := by rw [← ht]; exact hu.moves.modLink
  have hl : t.link l = { u.link l with hello := true, last := h.seq, history := [] } := by rw [← ht, link_modLink_same]; rfl
  have hs : t.serves l = true := by simpa only [serves, hm.sys] using hp.serves
  have hr := replied_answer t l (hdrCmd h 0x0001 p) { data := s.helloData } hs
  simp only [link_hostMoves]
  refine ⟨answers_hostMoves_answer rfl (by rw [hl, ← hu.nextReply]) hs _ _, ?_, ?_, ?_, ?_, ?_, ?_⟩
  · rw [hr.hello, hl]
  · rw [hr.last, hl]
  · exact session_answer hs (show Status.ok ≠ Status.authFail by decide) (by rw [hl]; exact hnone) (by decide)
  · rw [hr.history, hl]; rfl
  · rw [hr.lastAck, hl]; exact hu.lastAck
  · exact .hostMoves ((hm.mono (by decide)).trans hr.moves) ..

theorem sync_command (hp : s.Passes 0x0002 l h p) (hh : (s.link l).hello = true) : Completes (.sync l h p) s fun t =>
      s.gives t l h (leBytes 2 (s.link l).last.toNat ++ leBytes 2 ((s.link l).nextReply - 1).toNat ++
        leBytes 2 (s.oldestHeld l).toNat ++ leBytes 2 h.ack.toNat ++ leBytes 4 (crc32c (s.stateBlock l)).toNat ++ s.stateBlock l) ∧
      (t.link l).last = (s.link l).last ∧ s.OnlySteward t := by
  refine ⟨_, rfl, ?_⟩
  rw [hp.command_eq]
  have hu := ready_ready s l h 0x0002 p
  generalize s.ready l (hdrCmd h 0x0002 p) = u at hu
  have ho : u.oldestHeld l = s.oldestHeld l := by simp only [oldestHeld, hu.nextReply, hu.history]
  have hx : u.execute l (hdrCmd h 0x0002 p) = u.answer l (hdrCmd h 0x0002 p)
      { data := leBytes 2 (s.link l).last.toNat ++ leBytes 2 ((s.link l).nextReply - 1).toNat ++
        leBytes 2 (s.oldestHeld l).toNat ++ leBytes 2 h.ack.toNat ++ leBytes 4 (crc32c (s.stateBlock l)).toNat ++ s.stateBlock l } := by
    have hd : u.execute l (hdrCmd h 0x0002 p) = u.doSync l (hdrCmd h 0x0002 p) := rfl
    simp only [hd, doSync, hu.hello, hh, if_true, hu.last, hu.nextReply, ho, hu.lastAck, hu.stateBlock]
    rfl
  rw [hx]
  obtain ⟨h1, h2, h3⟩ := hu.answered hp.serves (c := hdrCmd h 0x0002 p) rfl _ _
  exact ⟨h1, h2, h3⟩

theorem opStatus_command (hp : s.Passes 0x0004 l h p) : Completes (.opStatus l h p) s fun t =>
      s.gives t l h (leBytes 2 s.stew.longOp.asked.opcode ++ leBytes 2 s.stew.longOp.asked.seq.toNat ++
        leBytes 1 s.stew.longOp.state ++ zeros 3 ++ leBytes 2 s.stew.longOp.status ++ zeros 2 ++ leBytes 4 s.stew.longOp.detail) ∧
      (t.link l).last = h.seq ∧ s.OnlySteward t := by
  refine ⟨_, rfl, ?_⟩
  rw [hp.command_eq]
  have hu := ready_ready s l h 0x0004 p
  generalize s.ready l (hdrCmd h 0x0004 p) = u at hu
  have hx : u.execute l (hdrCmd h 0x0004 p) = u.doOpStatus l (hdrCmd h 0x0004 p) := rfl
  rw [hx, doOpStatus, hu.tasks.longOp]
  obtain ⟨h1, h2, h3⟩ := hu.answered hp.serves (c := hdrCmd h 0x0004 p) rfl _ _
  exact ⟨h1, h2, h3⟩

/-! #### REPLAY -/

theorem ofLe_lt (b : List Byte) : ofLe b < 256 ^ b.length := by
  induction b with
  | nil => decide
  | cons x b ih =>
    rw [ofLe, List.length_cons, pow_succ]
    have := x.isLt
    omega

theorem fieldLe_lt (b : List Byte) (o n : Nat) : fieldLe b o n < 256 ^ n :=
  (ofLe_lt _).trans_le (Nat.pow_le_pow_right (by decide) (List.length_take_le ..))

/-- The replies that wait on a link, before and after the Steward has tended it. -/
theorem length_filter_replies_queueReply (q : List TxPacket) (x : TxPacket) (hx : x.telemetry = false) :
    ((queueReply q x).filter (fun y => !y.telemetry)).length = (q.filter (fun y => !y.telemetry)).length + 1 := by
  have htel : ∀ n, ((q.filter (·.telemetry)).take n).filter (fun y => !y.telemetry) = [] := fun n =>
    List.filter_eq_nil_iff.2 fun y hy => by simpa using (List.mem_filter.1 (List.mem_of_mem_take hy)).2
  simp only [queueReply, List.filter_append, List.filter_filter, Bool.and_self, htel, List.append_nil, List.length_append]
  simp [hx]

/-- A reply that is sent waits in the queue or behind it. -/
theorem repliesWaiting_sendEntry (s : State) (l : Link) (e : HistEntry) (again : Bool) :
    (s.sendEntry l e again).repliesWaiting l = s.repliesWaiting l + 1 := by
  unfold sendEntry repliesWaiting repliesQueued queueTx
  dsimp only
  split
  · rw [link_modLink_same]
    simp only [List.length_append, List.length_singleton, Nat.add_assoc]
  · split
    · rw [link_modLink_same]
      dsimp only
      rw [length_filter_replies_queueReply _ _ rfl]
      omega
    · rw [link_emit, link_modLink_same]
      dsimp only
      rw [length_filter_replies_queueReply _ _ rfl]
      omega

theorem repliesWaiting_foldl_sendEntry (es : List HistEntry) (s : State) (l : Link) :
    (es.foldl (fun u e => u.sendEntry l e true) s).repliesWaiting l = s.repliesWaiting l + es.length := by
  induction es generalizing s with
  | nil => rfl
  | cons e es ih => rw [List.foldl_cons, ih, repliesWaiting_sendEntry, List.length_cons]; omega

theorem Tended.foldl_sendEntry (h : s.Tended t) (es : List HistEntry) : s.Tended (es.foldl (fun u e => u.sendEntry l e true) t) := by
  induction es generalizing t with
  | nil => exact h
  | cons e es ih => exact ih h.sendEntry

/-- The queues of the links are the same. -/
structure QueuesKept (s t : State) : Prop where
  tx : ∀ k, (t.link k).tx = (s.link k).tx
  later : ∀ k, (t.link k).later = (s.link k).later

theorem QueuesKept.refl (s : State) : s.QueuesKept s := ⟨fun _ => rfl, fun _ => rfl⟩
theorem QueuesKept.trans (h : s.QueuesKept t) (k : t.QueuesKept u) : s.QueuesKept u :=
  ⟨fun j => (k.tx j).trans (h.tx j), fun j => (k.later j).trans (h.later j)⟩

theorem QueuesKept.ite {p : Prop} [Decidable p] (ht : s.QueuesKept t) (hu : s.QueuesKept u) : s.QueuesKept (if p then t else u) := by
  split
  · exact ht
  · exact hu

theorem QueuesKept.of_stew (h : s.QueuesKept t) (hx : ∀ k, u.link k = t.link k := by intro k; rfl) : s.QueuesKept u :=
  h.trans ⟨fun k => by rw [hx], fun k => by rw [hx]⟩

theorem QueuesKept.modLink (h : s.QueuesKept t) {f : LinkSt → LinkSt} (htx : ∀ x, (f x).tx = x.tx := by intro x; rfl)
    (hl : ∀ x, (f x).later = x.later := by intro x; rfl) : s.QueuesKept (t.modLink l f) := by
  refine h.trans ⟨fun k => ?_, fun k => ?_⟩ <;> by_cases hk : k = l
  · rw [hk, link_modLink_same, htx]
  · rw [link_modLink_other _ _ hk]
  · rw [hk, link_modLink_same, hl]
  · rw [link_modLink_other _ _ hk]

theorem QueuesKept.emit (h : s.QueuesKept t) {n : Nat} : s.QueuesKept (t.emit n) := h.of_stew fun k => link_emit t n k

theorem QueuesKept.attendBy (h : s.QueuesKept t) {f : LinkSt → BitVec 8} : s.QueuesKept (t.attendBy f) := by
  unfold State.attendBy
  exact .ite h.modLink.modLink h.modLink.modLink.emit

theorem QueuesKept.raise (h : s.QueuesKept t) {n : Nat} : s.QueuesKept (t.raise n) := by
  unfold State.raise
  exact .ite h.emit.attendBy h.emit

theorem QueuesKept.log (h : s.QueuesKept t) {code block : Nat} {sev : Severity} {data : List Byte} : s.QueuesKept (t.log code block sev data) := by
  unfold State.log
  have h1 : s.QueuesKept t.rtcShown := h.of_stew
  have h2 : s.QueuesKept (t.rtcShown.mramWrite (logOffset t.stew.logNext) (t.logBytes code block sev.code data)) := h1.of_stew
  exact (h2.of_stew fun k => by cases k <;> rfl).raise.attendBy

theorem QueuesKept.closeSession (h : s.QueuesKept t) {what : Nat} : s.QueuesKept (t.closeSession l what) := by
  unfold State.closeSession
  exact .ite h.modLink.emit.log h

theorem QueuesKept.authFailed (h : s.QueuesKept t) : s.QueuesKept (t.authFailed l) := by
  unfold State.authFailed
  have h1 : s.QueuesKept ((t.modLink l (fun k => { k with authFails := k.authFails + 1 })).logSession l 2) := h.modLink.log
  exact .ite h1.closeSession.modLink h1

theorem QueuesKept.afterAnswer (h : s.QueuesKept t) {status : Nat} : s.QueuesKept (t.afterAnswer l status) := by
  unfold State.afterAnswer
  exact .ite h.authFailed (.ite h.modLink.closeSession h.modLink)

theorem QueuesKept.repliesWaiting (h : s.QueuesKept t) (k : Link) : t.repliesWaiting k = s.repliesWaiting k := by
  simp only [State.repliesWaiting, repliesQueued, h.tx, h.later]

theorem repliesWaiting_answer {c : Cmd} (hs : u.serves l = true) (r : Reply) :
    (u.answer l c r).repliesWaiting l = u.repliesWaiting l + 1 := by
  rw [answer, if_pos hs, (QueuesKept.refl _).afterAnswer.repliesWaiting, reply_eq, repliesWaiting_sendEntry]
  congr 1
  exact ((QueuesKept.refl u).modLink).repliesWaiting l

theorem replay_command (hp : s.Passes 0x0003 l h p) (h1 : 1 ≤ byteAt p 2) (h64 : byteAt p 2 ≤ 64)
    (hn : newer 16 (fieldLe p 0 2) ((s.link l).nextReply - 1).toNat = false) :
    let es := replayed (s.link l).history (BitVec.ofNat 16 (fieldLe p 0 2)) (byteAt p 2)
    Completes (.replay l h p) s fun t =>
      s.gives t l h (leBytes 1 es.length ++ zeros 1 ++ leBytes 2 (s.oldestHeld l).toNat) ∧
      t.repliesWaiting l = s.repliesWaiting l + es.length + 1 ∧ (t.link l).last = (s.link l).last ∧ s.OnlySteward t := by
  intro es
  refine ⟨_, rfl, ?_⟩
  rw [hp.command_eq]
  have hu := ready_ready s l h 0x0003 p
  generalize s.ready l (hdrCmd h 0x0003 p) = u at hu
  have hlt : fieldLe p 0 2 < 2 ^ 16 := fieldLe_lt p 0 2
  have ho : u.oldestHeld l = s.oldestHeld l := by simp only [oldestHeld, hu.nextReply, hu.history]
  have hx : u.execute l (hdrCmd h 0x0003 p) = (es.foldl (fun u e => u.sendEntry l e true) u).answer l (hdrCmd h 0x0003 p)
      { data := leBytes 1 es.length ++ zeros 1 ++ leBytes 2 (s.oldestHeld l).toNat } := by
    have hd : u.execute l (hdrCmd h 0x0003 p) = u.doReplay l (hdrCmd h 0x0003 p) := rfl
    have hnew : newer 16 (BitVec.ofNat 16 (fieldLe p 0 2)).toNat ((u.link l).nextReply - 1).toNat = false := by
      rw [BitVec.toNat_ofNat, Nat.mod_eq_of_lt hlt, hu.nextReply, hn]
    rw [hd, doReplay, hdrCmd_payload, if_neg (by omega), hnew, ho, hu.history]
    rfl
  rw [hx]
  have ht := (Tended.refl u).foldl_sendEntry (l := l) es
  have hs := hu.serves hp.serves
  have hs' : (es.foldl (fun u e => u.sendEntry l e true) u).serves l = true := by simpa only [serves, ht.moves.sys] using hs
  have hr := replied_answer (es.foldl (fun u e => u.sendEntry l e true) u) l (hdrCmd h 0x0003 p)
    { data := leBytes 1 es.length ++ zeros 1 ++ leBytes 2 (s.oldestHeld l).toNat } hs'
  refine ⟨answers_hostMoves_answer rfl (by rw [(ht.answers l).nextReply, hu.nextReply]) hs' _ _, ?_, ?_, ?_⟩
  · have hq : u.repliesWaiting l = s.repliesWaiting l := by simp only [repliesWaiting, repliesQueued, hu.tx, hu.later]
    have hh : ∀ (v : State) n, (s.hostMoves v n).repliesWaiting l = v.repliesWaiting l := fun v n => by
      simp only [repliesWaiting, repliesQueued, link_hostMoves]
    rw [hh, repliesWaiting_answer hs', repliesWaiting_foldl_sendEntry, hq]
  · rw [link_hostMoves, hr.last, (ht.answers l).last, hu.last]
    rfl
  · exact .hostMoves (((hu.moves.mono (by decide)).trans ht.moves).trans hr.moves) ..

/-! #### Sessions and the rate -/

/-- SESSION_OPEN comes untagged. -/
theorem tag_none_of_sessionOpen (hp : s.Passes 0x0005 l h p) : h.tag = none := by
  have hl : s.limpTakes 0x0005 = false := by simp only [limpTakes, show limpOps.contains 0x0005 = false by decide, Bool.and_false]
  have hw := hp.world
  have hun : s.untagged 0x0005 = true := rfl
  simp only [worldStep, hl, hun, hdrCmd, Bool.not_true, Bool.and_false, Bool.false_eq_true, false_and, and_false, if_false] at hw
  cases hg : h.tag with
  | none => rfl
  | some g =>
    simp only [hg, Option.isSome_some, Bool.true_bne, Bool.not_false, Bool.or_true, if_true] at hw
    exact absurd hw (by simp)

theorem sessionOpen_command (hp : s.Passes 0x0005 l h p) (hc : s.coreRuns = true) (hb : (s.link l).blockedAt = none) (key : List Byte)
    (hkey : s.sessionKey (byteAt p 0) = some key) : Completes (.sessionOpen l h p) s fun t =>
        (∃ x, (t.link l).session = some x ∧ x.ctr = 0 ∧ x.touched = s.count ∧
          ∃ nonce : List Byte, nonce.length = 16 ∧ x.ks = hmac256 key (ascii "ITSAR-SES" ++ ((p.drop 4).take 16 ++ nonce)) ∧
            s.gives t l h (nonce ++ (hmac256 key (ascii "ITSAR-DEV" ++ ((p.drop 4).take 16 ++ nonce))).take 16)) ∧
        s.sent t 0xFC ∧ s.OnlySteward t := by
  refine ⟨_, rfl, ?_⟩
  rw [hp.command_eq]
  have hu := ready_ready s l h 0x0005 p
  generalize s.ready l (hdrCmd h 0x0005 p) = u at hu
  generalize hnd : (List.range 16).map (fun i => Config.nonce u.draws i) = nonce
  generalize hses : ({ ks := hmac256 key (ascii "ITSAR-SES" ++ ((p.drop 4).take 16 ++ nonce)), touched := s.count } : Session) = x
  have hcount : u.count = s.count := by rw [State.count, hu.moves.clk]; rfl
  have hk : u.sessionKey (byteAt p 0) = some key := by rw [← hkey]; simp only [sessionKey, hu.moves.otp]
  have hd : u.execute l (hdrCmd h 0x0005 p) = u.doSessionOpen l (hdrCmd h 0x0005 p) := rfl
  have hx : u.execute l (hdrCmd h 0x0005 p) =
      ((((u.drawn.closeSession l 1).modLink l (fun k => { k with session := some x })).emit 0xFC).logSession l 0).answer l
        (hdrCmd h 0x0005 p) { data := nonce ++ (hmac256 key (ascii "ITSAR-DEV" ++ ((p.drop 4).take 16 ++ nonce))).take 16 } := by
    rw [hd, doSessionOpen, hu.blockedAt, hb, hdrCmd_payload, hk, hcount, hnd, ← hses]
    rfl
  rw [hx]
  have hdrawn : u.Tended u.drawn := ⟨(Moves.refl u).drawn, fun _ => .refl _, .refl _, fun _ => id⟩
  have h1 : u.Tended ((u.drawn.closeSession l 1).modLink l (fun k => { k with session := some x })) := hdrawn.closeSession.modLink
  have hx1 := link_modLink_same (u.drawn.closeSession l 1) l (fun k => { k with session := some x })
  generalize (u.drawn.closeSession l 1).modLink l (fun k => { k with session := some x }) = v at h1 hx1
  have h2 : v.Tended ((v.emit 0xFC).logSession l 0) := (Tended.refl v).emit.logSession
  have hs2 : v.SessionsKept ((v.emit 0xFC).logSession l 0) := (SessionsKept.refl v).emit.log
  have hv : u.Tended ((v.emit 0xFC).logSession l 0) := h1.trans h2
  have hsent : s.sent ((v.emit 0xFC).logSession l 0) 0xFC :=
    sent.mono (sent.of_kept (h1.moves.clockKept.count.trans (by rw [hu.moves.clk]))
      (emit_arrives v 0xFC (h1.moves.coreRuns.trans (hu.moves.coreRuns.trans hc)))) (Tended.refl _).logSession.events
  generalize (v.emit 0xFC).logSession l 0 = w at h2 hs2 hv hsent
  have hserve : w.serves l = true := by
    rw [serves, hv.moves.sys]
    exact hu.serves hp.serves
  have hr := replied_answer w l (hdrCmd h 0x0005 p)
    { data := nonce ++ (hmac256 key (ascii "ITSAR-DEV" ++ ((p.drop 4).take 16 ++ nonce))).take 16 } hserve
  refine ⟨⟨x, ?_, by rw [← hses], by rw [← hses], nonce, by rw [← hnd, List.length_map, List.length_range], by rw [← hses], ?_⟩, ?_, ?_⟩
  · rw [link_hostMoves]
    exact session_answer hserve (show Status.ok ≠ Status.authFail by decide) ((hs2.links l).session.trans (by rw [hx1]))
      (by rw [← hses]; exact (by decide : (0 : Word) ≠ 0xFFFFFFFF))
  · exact answers_hostMoves_answer rfl (by rw [(hv.answers l).nextReply, hu.nextReply]) hserve _ _
  · exact sent.mono hsent fun e he => by rw [(hostMoves_moves s _ _).events]; exact hr.events e he
  · exact .hostMoves (((hu.moves.mono (by decide)).trans hv.moves).trans hr.moves) ..

/-- An AUTH_FAIL that is not the third in a row. -/
theorem authFailed_first (ha : (u.link l).authFails < 2) : ((u.authFailed l).link l).session = (u.link l).session ∧
    ((u.authFailed l).link l).authFails = (u.link l).authFails + 1 := by
  have hk := (SessionsKept.refl (u.modLink l (fun k => { k with authFails := k.authFails + 1 }))).log (code := 0x0070) (block := 0xFF)
    (sev := if 2 < 2 then .info else .warn) (data := leBytes 1 (bit1 (l == .uart)) ++ leBytes 1 2)
  obtain ⟨hses, hfails, -⟩ := hk.links l
  rw [link_modLink_same] at hses hfails
  have hno : ¬ 3 ≤ (((u.modLink l (fun k => { k with authFails := k.authFails + 1 })).logSession l 2).link l).authFails := by
    rw [logSession, hfails]
    dsimp only
    omega
  rw [authFailed]
  rw [if_neg hno]
  exact ⟨hses, hfails⟩

theorem sessionOpen_refused (hp : s.Passes 0x0005 l h p) (hb : (s.link l).blockedAt = none) (hkey : s.sessionKey (byteAt p 0) = none)
    (ha : (s.link l).authFails < 2) : Completes (.sessionOpen l h p) s fun t =>
      s.answers t l h { status := Status.authFail } ∧ (t.link l).session = (s.link l).session ∧
      (t.link l).authFails = (s.link l).authFails + 1 ∧ s.OnlySteward t := by
  refine ⟨_, rfl, ?_⟩
  rw [hp.command_eq]
  have hu := ready_ready s l h 0x0005 p
  generalize s.ready l (hdrCmd h 0x0005 p) = u at hu
  have hk : u.sessionKey (byteAt p 0) = none := by rw [← hkey]; simp only [sessionKey, hu.moves.otp]
  have hd : u.execute l (hdrCmd h 0x0005 p) = u.doSessionOpen l (hdrCmd h 0x0005 p) := rfl
  have hx : u.execute l (hdrCmd h 0x0005 p) = u.answer l (hdrCmd h 0x0005 p) { status := Status.authFail } := by
    rw [hd, doSessionOpen, hu.blockedAt, hb, hdrCmd_payload, hk]
    rfl
  obtain ⟨x, hlink, -, htag⟩ := hu.link
  have hses : (u.link l).session = (s.link l).session := by rw [hlink]; exact htag (tag_none_of_sessionOpen hp)
  have hkept := (sessionsKept_reply u l (hdrCmd h 0x0005 p).asked true false { status := Status.authFail }).links l
  have hfirst := authFailed_first (l := l) (u := u.reply l (hdrCmd h 0x0005 p).asked true false { status := Status.authFail })
    (by rw [hkept.authFails, hu.authFails]; exact ha)
  have hw : u.answer l (hdrCmd h 0x0005 p) { status := Status.authFail } =
      (u.reply l (hdrCmd h 0x0005 p).asked true false { status := Status.authFail }).authFailed l := by
    rw [answer, if_pos (hu.serves hp.serves), afterAnswer, if_pos rfl]
  rw [hx]
  have h1 := hu.answered hp.serves (c := hdrCmd h 0x0005 p) rfl { status := Status.authFail } (20 + p.length + (h.tag.getD []).length)
  refine ⟨h1.answers, ?_, ?_, h1.only⟩
  · rw [link_hostMoves, hw, hfirst.1, hkept.session, hses]
  · rw [link_hostMoves, hw, hfirst.2, hkept.authFails, hu.authFails]

/-- The answer to SESSION_CLOSE, and then the close: the session ends with its event, whichever of the two ends it. -/
theorem sent_answer_closeSession {c : Cmd} (hs : u.serves l = true) (hc : u.coreRuns = true) (hses : (u.link l).session.isSome = true) :
    u.sent ((u.answer l c {}).closeSession l 1) 0xFC := by
  have hk := ((sessionsKept_reply u l c.asked true false {}).links l).session
  have hm := replied_reply u l c.asked true false {}
  rw [answer, if_pos hs, afterAnswer, if_neg (show Status.ok ≠ Status.authFail by decide)]
  dsimp only
  generalize hv : (u.reply l c.asked true false {}).modLink l (fun k => { k with authFails := 0 }) = v
  have hvm : Moves [.events, .stew, .mram, .rtc, .draws] u v := by rw [← hv]; exact hm.moves.modLink
  have hvs : (v.link l).session.isSome = true := by rw [← hv, link_modLink_same]; dsimp only; rw [hk]; exact hses
  have hsent := sent_closeSession (what := 1) hvs (hvm.coreRuns.trans hc)
  have hsent' : u.sent (v.closeSession l 1) 0xFC := sent.of_kept hvm.clockKept.count hsent
  split
  · exact sent.mono hsent' (Tended.refl _).closeSession.events
  · exact hsent'

theorem sessionClose_command (hp : s.Passes 0x0006 l h p) (hc : s.coreRuns = true) (hses : (s.link l).session.isSome = true) :
    Completes (.sessionClose l h p) s fun t =>
      s.answers t l h {} ∧ (t.link l).session = none ∧ s.sent t 0xFC ∧ s.OnlySteward t := by
  refine ⟨_, rfl, ?_⟩
  rw [hp.command_eq]
  have hu := ready_ready s l h 0x0006 p
  generalize s.ready l (hdrCmd h 0x0006 p) = u at hu
  have hx : u.execute l (hdrCmd h 0x0006 p) = (u.answer l (hdrCmd h 0x0006 p) {}).closeSession l 1 := rfl
  have hs := hu.serves hp.serves
  have hr := (replied_answer u l (hdrCmd h 0x0006 p) {} hs).tended (.closeSession (l := l) (what := 1) (.refl _))
  rw [hx]
  refine ⟨answers_of_history rfl (by rw [link_hostMoves, hr.newest, hu.nextReply]), ?_, ?_, ?_⟩
  · rw [link_hostMoves, session_closeSession]
  · have hsent := sent_answer_closeSession (c := hdrCmd h 0x0006 p) hs (hu.moves.coreRuns.trans hc) ((hu.hasSession l).trans hses)
    exact sent.mono (sent.of_kept (congrArg Clk.count hu.moves.clk) hsent) fun e he => by rwa [(hostMoves_moves s _ _).events]
  · exact .hostMoves ((hu.moves.mono (by decide)).trans hr.moves) ..

theorem portSet_command (hp : s.Passes 0x0007 l h p) (hlo : 9600 ≤ fieldLe p 0 4) (hhi : fieldLe p 0 4 ≤ 3000000) :
    Completes (.portSet l h p) s fun t =>
      s.gives t l h (leBytes 4 (baudRate (fieldLe p 0 4))) ∧
      t.stew.baudNext = some (baudRate (fieldLe p 0 4), l, (s.link l).nextReply) ∧ t.stew.baud = s.stew.baud ∧ s.OnlySteward t := by
  refine ⟨_, rfl, ?_⟩
  rw [hp.command_eq]
  have hu := ready_ready s l h 0x0007 p
  generalize s.ready l (hdrCmd h 0x0007 p) = u at hu
  have hd : u.execute l (hdrCmd h 0x0007 p) = u.doPortSet l (hdrCmd h 0x0007 p) := rfl
  have hx : u.execute l (hdrCmd h 0x0007 p) =
      ({ u with stew := { u.stew with baudNext := some (baudRate (fieldLe p 0 4), l, (s.link l).nextReply) } } : State).answer l
        (hdrCmd h 0x0007 p) { data := leBytes 4 (baudRate (fieldLe p 0 4)) } := by
    rw [hd, doPortSet, hdrCmd_payload, if_neg (by omega), hu.nextReply]
  rw [hx]
  generalize hv : ({ u with stew := { u.stew with baudNext := some (baudRate (fieldLe p 0 4), l, (s.link l).nextReply) } } : State) = v
  have hm : Moves [.stew] s v := by rw [← hv]; exact hu.moves.record
  have hl : v.link l = u.link l := by rw [← hv]; cases l <;> rfl
  have hs : v.serves l = true := by rw [serves, hm.sys]; exact hp.serves
  have hr := replied_answer v l (hdrCmd h 0x0007 p) { data := leBytes 4 (baudRate (fieldLe p 0 4)) } hs
  refine ⟨answers_hostMoves_answer rfl (by rw [hl, hu.nextReply]) hs _ _, ?_, ?_, ?_⟩
  · rw [(hostMoves_moves s _ _).stew, hr.tasks.baudNext, ← hv]
  · rw [(hostMoves_moves s _ _).stew, hr.tasks.baud, ← hv]
    exact hu.tasks.baud
  · exact .hostMoves ((hm.mono (by decide)).trans hr.moves) ..

theorem hello_refused (hp : s.Passes 0x0001 l h p) (hv : fieldLe p 0 2 ≠ 1) : Completes (.hello l h p) s fun t =>
      s.answers t l h { status := Status.invalidParam, detail := 0 } ∧ (t.link l).hello = (s.link l).hello ∧
      (t.link l).last = (s.link l).last ∧ s.OnlySteward t := by
  refine ⟨_, rfl, ?_⟩
  rw [hp.command_eq]
  have hu := ready_ready s l h 0x0001 p
  generalize s.ready l (hdrCmd h 0x0001 p) = u at hu
  have hx : u.execute l (hdrCmd h 0x0001 p) = u.answer l (hdrCmd h 0x0001 p) (Reply.invalid 0) := doHello_bad hv
  rw [hx]
  have h1 := hu.answered hp.serves (c := hdrCmd h 0x0001 p) rfl (Reply.invalid 0) (20 + p.length + (h.tag.getD []).length)
  refine ⟨h1.answers, ?_, h1.last, h1.only⟩
  rw [link_hostMoves, (replied_answer u l _ _ (hu.serves hp.serves)).hello, hu.hello]

end State

/-- Settles O40, command by command. -/
theorem linkCommands : Obligations.LinkCommands := fun _ _ _ _ =>
  ⟨State.hello_command, State.hello_refused, State.sync_command, State.replay_command, State.opStatus_command, State.sessionOpen_command,
    State.sessionOpen_refused, State.sessionClose_command, State.portSet_command⟩
end Sys2Proof.Machine

namespace Sys2Proof.Machine

set_option Elab.async false

/-- A running device whose policy still has the write of SYS_LTR to act on. -/
def ltrPending : State :=
  { State.reset with
    sys := { State.reset.sys with phase := .run, ltrWritten := true }
    stew := { State.reset.stew with spi := { State.reset.stew.spi with hello := true } } }

/-- The header of the first command after HELLO. -/
def firstHdr : Hdr := { world := .nonSecure, seq := 1, ack := 0, ctr := 0, tag := none }

/-- A REG_WRITE of one pair, at an address of a block where the map lists nothing. -/
def strayPair : List Byte := leBytes 2 1 ++ zeros 2 ++ leBytes 4 0x4000FFFC ++ leBytes 4 0

theorem ltrPending_passes : ltrPending.Passes 0x0102 .spi firstHdr strayPair := by
  constructor <;> decide +kernel

/-- Refutes O41: a REG_WRITE that its checks stop still ends with the policy's look at a pending write of SYS_LTR. -/
theorem not_registerAndModeCommands : ¬ Obligations.RegisterAndModeCommands := by
  intro h
  obtain ⟨-, hwrite, -⟩ := h ltrPending .spi firstHdr strayPair
  obtain ⟨-, -, -, -, hunlisted⟩ :=
    hwrite 0x4000FFFC 0 ltrPending_passes (by decide +kernel) (by decide +kernel) (by decide +kernel) (by decide) (by decide)
  obtain ⟨t, hexec, -, hkept⟩ := hunlisted (by decide +kernel)
  have hact : (ltrPending.command 0x0102 .spi firstHdr strayPair).sys.ltrWritten = false := by decide +kernel
  rw [Host.Outcome.next.inj hexec, hkept.sys] at hact
  exact absurd hact (by decide)
end Sys2Proof.Machine

namespace Sys2Proof.Machine

set_option Elab.async false

/-- A CFG_COMMIT of an image of which nothing has been staged. -/
def emptyCommit : List Byte := zeros 12

theorem ltrPending_takesCommit : ltrPending.Passes 0x0302 .spi firstHdr emptyCommit := by
  constructor <;> decide +kernel

/-- Refutes O42: the end of a broken commit brings the policy's look at a pending write of SYS_LTR with it. -/
theorem not_configurationCommands : ¬ Obligations.ConfigurationCommands := by
  intro h
  obtain ⟨-, hbroken, -⟩ := h ltrPending .spi firstHdr emptyCommit
  obtain ⟨t, hexec, -, -, -, -, -, hkept⟩ :=
    hbroken 0 ltrPending_takesCommit ⟨by decide, by decide⟩ (by decide +kernel)
  have hact : (ltrPending.command 0x0302 .spi firstHdr emptyCommit).sys.ltrWritten = false := by decide +kernel
  rw [Host.Outcome.next.inj hexec, hkept.sys] at hact
  exact absurd hact (by decide)
end Sys2Proof.Machine

namespace Sys2Proof.Machine

set_option Elab.async false

/-- What a failed record writes into the MRAM is what stands in its torn slot. -/
theorem journalDone_failed_mem {s : State} {w : JournalWrite} (hw : s.grn.write = some w) (hf : s.grnFrozen = false) :
    (s.journalDone false).mem = (s.tearSlot w.bytes).mem := by
  have hwritten : State.Moves [.regs, .cycle, .grn, .events, .stew] (s.tearSlot w.bytes)
      ((s.tearSlot w.bytes).modGrn (fun g => { g with write := none })) :=
    (State.Moves.refl _).modGrn
  have htorn : State.Moves [.regs, .cycle, .grn, .events, .stew] (s.tearSlot w.bytes)
      ((s.modGrn (fun g => { g with write := none })).tearSlot w.bytes) := hwritten
  have hmoves : State.Moves [.regs, .cycle, .grn, .events, .stew] (s.tearSlot w.bytes) (s.journalDone false) := by
    unfold State.journalDone
    simp only [hw, hf, Bool.false_and, Bool.false_eq_true, if_false]
    split
    · exact htorn.keepPmax.modGrn.set1.incS.raise
    · split
      · exact htorn.keepPmax.modGrn.set1.incS.raise.clr
      · exact htorn.keepPmax.modGrn.set1.incS.raise.clr.modGrn.clr.journalAsk
  exact hmoves.mem

/-- A record's write is in progress, its slot's first line is worn with no spare left, and the MRAM lists that line's cells out of order. -/
def wornSlot : State :=
  { State.reset with
    sys := { State.reset.sys with phase := .run }
    grn := { State.reset.grn with write := some ⟨0, false, [1], []⟩, nextSlot := 0, queued := none, snap := none }
    mem := { State.reset.mem with mram := [(0x4B0005, 1), (0x4B0002, 7)], worn := [0x4B00], spares := 512 } }

theorem wornSlot_torn : memGet (wornSlot.tearSlot [1]).mem.mram 0x4B0002 = 0 := by
  have hcut : [(1 : Byte)].take (8 + Config.tornCut wornSlot.draws % 4084) = [1] := List.take_of_length_le (by simp; omega)
  have htear : (wornSlot.tearSlot [1]).mem = (wornSlot.mramWrite (journalOffset 0) ([1].take (8 + Config.tornCut wornSlot.draws % 4084))).mem :=
    rfl
  rw [htear, hcut]
  decide +kernel

theorem wornSlot_failed : (wornSlot.journalRecordDone false).mem = (wornSlot.tearSlot [1]).mem := by
  have hdone : (wornSlot.journalDoneReply false).mem = (wornSlot.journalDone false).mem := by
    have hlong : (wornSlot.journalDone false).longRuns 0x0503 = false := by decide +kernel
    unfold State.journalDoneReply
    rw [if_neg (by decide +kernel)]
    dsimp only
    rw [hlong, if_neg Bool.false_ne_true]
  unfold State.journalRecordDone State.policyAfter
  have hrest : ¬ ((wornSlot.journalDoneReply false).sys.ltrWritten = true ∨ (wornSlot.journalDoneReply false).vetoes ≠ wornSlot.vetoes ∨
      (wornSlot.journalDoneReply false).dozeVetoes ≠ wornSlot.dozeVetoes ∨
      (wornSlot.dropWaits = true ∧ (!(wornSlot.journalDoneReply false).dropWaits) = true)) := by
    decide +kernel
  dsimp only
  rw [if_neg hrest, hdone]
  exact journalDone_failed_mem (s := wornSlot) (w := ⟨0, false, [1], []⟩) rfl (by decide)

/-- Refutes O27: a worn line keeps what `memBytes` reads of it, which is not each cell's byte where the cells stand out of order. -/
theorem not_snapshotsAndJournal : ¬ Obligations.SnapshotsAndJournal := by
  intro h
  obtain ⟨-, -, -, -, -, -, -, -, -, hdone, -, -⟩ := h
  obtain ⟨-, hfailed⟩ := hdone wornSlot ⟨0, false, [1], []⟩ ⟨by decide, by decide⟩ rfl rfl rfl (fun _ hr => nomatch hr)
  obtain ⟨t, hexec, -, -, -, -, -, -, -, -, hkept⟩ := hfailed
  have hlost := wornSlot_torn
  rw [← wornSlot_failed, Host.Outcome.next.inj hexec, hkept 0x4B0002 (Or.inr (by decide))] at hlost
  exact absurd hlost (by decide)
end Sys2Proof.Machine

namespace Sys2Proof.Machine

set_option Elab.async false

/-- A COEF_WRITE of an active bank is in its second phase on a device whose policy still has a write of SYS_LTR to act on. -/
def busyBank : State :=
  (ltrPending.modLong (fun o => { o with asked := { o.asked with opcode := 0x0404 }, state := 1, phase := 2 })).wr
    (F.MILL_TASKt_BIND_EN 0).addr (setBits 0 (F.MILL_TASKt_BIND_EN 0).lo 1 1)

/-- Refutes O46: a COEF_WRITE that ends as BUSY brings the policy's look at a pending write of SYS_LTR with it. -/
theorem not_longOperationsAndTestPort : ¬ Obligations.LongOperationsAndTestPort := by
  intro h
  obtain ⟨-, -, -, hcoef, -⟩ := h
  obtain ⟨hbusy, -⟩ := hcoef busyBank [] (by decide +kernel) rfl ⟨by decide +kernel, by decide +kernel⟩ rfl
  obtain ⟨t, hexec, -, -, -, hkept⟩ := hbusy (by decide +kernel)
  have hact : busyBank.coefPhaseTwo.sys.ltrWritten = false := by decide +kernel
  rw [Host.Outcome.next.inj hexec, hkept.sys] at hact
  exact absurd hact (by decide)
end Sys2Proof.Machine

namespace Sys2Proof.Machine

set_option Elab.async false

/-- A write of SYS_LTR that asks for DOZE is still to be acted on, and the Granary belongs to the Secure world. -/
def dozeAsked : State :=
  (ltrPending.wr R.SYS_LTR 2000).wr R.WLD_BLKWORLD 0x9200


/-- Refutes O4: behind a write that the world check stops the policy still acts on the pending write of SYS_LTR, and leads to DOZE. -/
theorem not_registerWritesObeyTheirChecks : ¬ Obligations.RegisterWritesObeyTheirChecks := by
  intro h
  obtain ⟨-, -, -, -, -, hstopped⟩ := h
  obtain ⟨-, -, hworld, -⟩ := hstopped dozeAsked .nonSecure (BitVec.ofNat 32 R.GRN_CTRL) 0
  obtain ⟨t, hexec, -, -, -, hkept, -⟩ := hworld rfl (by decide +kernel) (by decide +kernel)
  have hmode : (dozeAsked.write .nonSecure R.GRN_CTRL 0).rd R.SYS_MODE ≠ dozeAsked.rd R.SYS_MODE := by decide +kernel
  have ht : dozeAsked.write .nonSecure R.GRN_CTRL 0 = t := Host.Outcome.next.inj hexec
  exact hmode (ht ▸ hkept R.SYS_MODE (by decide) (by decide))
end Sys2Proof.Machine

namespace Sys2Proof.Machine

set_option Elab.async false

/-- SERVICE, a recording of slice 0 in its first slot of two, with its records from SRAM byte 4 up, whose cells stand out of order. -/
def strayRecording : State :=
  let s : State := { State.reset with
    sys := { State.reset.sys with phase := .run }
    tst := { State.reset.tst with rpl := .recording, slot0 := 0 }
    acq := { State.reset.acq with slotAt := some 0, outs := [{ chan := some 0, value := some 1 }] }
    mem := { State.reset.mem with sram := [(6, 5), (3, 5)] } }
  (((s.put F.SYS_MODE_MODE 5).wr R.TST_RPL_BASE 0x10000004).put F.TST_RPL_LEN_SLOTS 2).wr R.TST_RPL_CTRL 0x10000

theorem strayRecording_allows (a : Nat) : strayRecording.regionAllows .secure true a = true := by
  have hoff : ∀ r < 32, strayRecording.nowOn (F.WLD_RGNr_ATTR_EN r) = false := by decide +kernel
  have hnone : (List.range 32).filter (fun r => strayRecording.covers r a) = [] := by
    refine List.filter_eq_nil_iff.mpr fun r hr => ?_
    simp [State.covers, hoff r (List.mem_range.mp hr)]
  simp [State.regionAllows, hnone]

/-- Refutes O10: `memWord` reads cells in the order in which they are listed, and so misses a record's third byte behind a lower cell. -/
theorem not_perturbationRecordAndReplay : ¬ Obligations.PerturbationRecordAndReplay := by
  intro h
  obtain ⟨-, -, -, -, -, -, -, -, -, hrecord, -⟩ := h
  obtain ⟨t, hexec, -, -, -, hword⟩ := hrecord strayRecording rfl (by decide +kernel) (by decide +kernel) rfl (by decide +kernel)
  have hread := hword strayRecording_allows (by decide +kernel) (0, 0) (by decide +kernel)
  rw [← Host.Outcome.next.inj hexec] at hread
  exact absurd hread (by decide +kernel)
end Sys2Proof.Machine

namespace Sys2Proof.Machine

set_option Elab.async false

/-- Carrier 0 runs and is at a valley, with a waiting change that binds leg 0, which is bound to carrier 1, to carrier 0. -/
def rebindingValley : State :=
  let s : State := { State.reset with
    sys := { State.reset.sys with phase := .run }
    loom := { State.reset.loom with cars := upd State.reset.loom.cars 0 fun x => { x with pendingCfg := [(R.LOOM_LEGl_CFG 0, 0)] } } }
  (((s.put (F.LOOM_CSTATc_STATE 0) 2).wr (R.LOOM_CARc 0) 7).put (F.LOOM_LEGl_CFG_CAR 0) 1).put (F.LOOM_LEGl_CMPU_POS 0) 5

theorem rebindingValley_shaped : rebindingValley.Shaped :=
  { resetHasTheInvariants.1 with cars := by decide +kernel }

/-- Refutes O18: a waiting change that rebinds a leg to the carrier applies before the reload, which then copies that leg's shadows. -/
theorem not_carrierInstants : ¬ Obligations.CarrierInstants := by
  intro h
  obtain ⟨hvalley, -⟩ := h
  obtain ⟨t, hexec, -, -, -, -, -, -, -, hother, -⟩ :=
    hvalley rebindingValley 0 rebindingValley_shaped (by decide +kernel) (by decide +kernel) (by decide +kernel)
  have hact := (hother 0 (by decide +kernel)).1
  rw [← Host.Outcome.next.inj hexec] at hact
  exact absurd hact (by decide +kernel)
end Sys2Proof.Machine

namespace Sys2Proof.Machine

set_option Elab.async false

/-- A member in READY whose enabled port A has lost its input and is not wrapped. -/
def unwrappedLoss : State :=
  let s : State := { State.reset with
    sys := { State.reset.sys with phase := .run }
    ring := { State.reset.ring with lossA := [.blockLock] } }
  (s.put F.RING_STAT_STATE 3).put F.RING_CTRL_EN_A 1

/-- Refutes O31: the write of RING_CTRL wraps a port whose input is lost, and the LEAVE it asks for then does not go there. -/
theorem not_ringBreaksAndWrites : ¬ Obligations.RingBreaksAndWrites := by
  intro h
  obtain ⟨-, -, -, -, -, -, -, -, hleave, -⟩ := h
  have haccepts : unwrappedLoss.accepts .secure R.RING_CTRL (1 ||| 8) := by
    refine ⟨?_, ?_, ?_, ?_⟩ <;> decide +kernel
  obtain ⟨t, hexec, -, hsent, -⟩ :=
    hleave unwrappedLoss .secure 1 haccepts ⟨by decide +kernel, by decide +kernel⟩ (by decide +kernel) (by decide +kernel)
      (by decide +kernel) (by decide) (by decide)
  rw [← Host.Outcome.next.inj hexec] at hsent
  exact absurd hsent (by decide +kernel)
end Sys2Proof.Machine

namespace Sys2Proof.Machine

set_option Elab.async false

/-- SERVICE with perturbation of the DMA grants by 3 cycles, and an event on its way to channel 0, which is armed and takes triggers. -/
def withheldGrant : State :=
  let s : State := { State.reset with
    sys := { State.reset.sys with phase := .run }
    clk := { State.reset.clk with count := 2 }
    events := [⟨0, [0x28], 0, 0⟩] }
  ((((((s.put F.SYS_MODE_MODE 5).put F.TST_CTRL_PERT_EN 1).put (F.TST_DLYk_EN 4) 1).put (F.TST_DLYk_DLY 4) 3).put
    (F.DMA_CHn_CFG_TRIG 0) 1).put (F.DMA_CHn_CFG_EN 0) 1)

theorem withheldGrant_shaped : withheldGrant.Shaped := { resetHasTheInvariants.1 with }

/-- Refutes O37: where perturbation withholds the grants of the DMA, the transfer that an event starts carries the hold of its first write. -/
theorem not_memoryUpkeepAndEvents : ¬ Obligations.MemoryUpkeepAndEvents := by
  intro h
  obtain ⟨-, -, -, -, -, -, hsink, -⟩ := h
  obtain ⟨hdma, -⟩ := hsink withheldGrant ⟨0, [0x28], 0, 0⟩ [] 0x28 (by decide +kernel) rfl (by decide +kernel) (by simp) rfl
  obtain ⟨t, hexec, -, hxfer, -⟩ :=
    hdma 0 withheldGrant_shaped rfl (by decide +kernel) (by decide +kernel) (by decide +kernel) (by decide +kernel)
  rw [← Host.Outcome.next.inj hexec] at hxfer
  exact absurd hxfer (by decide +kernel)
end Sys2Proof.Machine

namespace Sys2Proof.Machine

set_option Elab.async false

/-- A device that replays, with a journal record that waits for a snapshot, and a link that has said HELLO. -/
def replayedRequest : State :=
  { State.reset with
    sys := { State.reset.sys with phase := .run }
    tst := { State.reset.tst with rpl := .replaying }
    grn := { State.reset.grn with snap := some { journal := some 0 } }
    stew := { State.reset.stew with spi := { State.reset.stew.spi with hello := true } } }

theorem replayedRequest_passes : replayedRequest.Passes 0x0501 .spi firstHdr (zeros 4) := by
  constructor <;> decide +kernel

/-- Refutes O43: while replay holds the journal, the record that a GRANARY_READ's snapshot serves goes on waiting, for one of its own. -/
theorem not_meterAndLogCommands : ¬ Obligations.MeterAndLogCommands := by
  intro h
  obtain ⟨hread, -⟩ := h replayedRequest .spi firstHdr (zeros 4)
  obtain ⟨t, hexec, -, hsnap, -⟩ := hread replayedRequest_passes
  rw [← Host.Outcome.next.inj hexec] at hsnap
  exact absurd hsnap (by decide +kernel)
end Sys2Proof.Machine

namespace Sys2Proof.Machine

set_option Elab.async false

/-- A parameter block whose first connection is on and demands on output 1. -/
def linkedBlock : List Byte := zeros 97 ++ [0x80] ++ zeros 6 ++ [2]

/-- A connection in degraded operation on a frame of the other mirror that demands nothing. -/
def borrowedConn : MirConn :=
  let words : List Word := [0, 0xFFFF, 0]
  { degraded := some 0, peer := some (words ++ [frameCrc 0 words]) }

/-- Mirror A at the end of a scan, its output 1 on, its one connection on Mirror B's frame, which Mirror B no longer has. -/
def borrowedLink : State :=
  { State.reset with
    sys := { State.reset.sys with phase := .run }
    safe := { State.reset.safe with
      a := { State.reset.safe.a with
        state := .active, dead := false, time := 32, scanAt := 0, rx := []
        store := [linkedBlock, []], live := some 0
        outs := upd State.reset.safe.a.outs 1 (fun o => { o with st := .on })
        conns := upd State.reset.safe.a.conns 0 (fun _ => borrowedConn) } } }

theorem borrowedLink_shaped : borrowedLink.Shaped :=
  { resetHasTheInvariants.1 with mirA := by constructor <;> decide +kernel }

/-- Refutes O48: the exchange at the end of the scan takes back the frame that the connection ran on, so that the output, on and without a
demand before the scan, goes off in it. -/
theorem not_islandOutputs : ¬ Obligations.IslandOutputs := by
  intro h
  obtain ⟨hscan, -⟩ := h borrowedLink .a borrowedLink_shaped ⟨by decide +kernel, by decide +kernel⟩ (by decide +kernel)
    (by decide +kernel)
  obtain ⟨t, hexec, -, -, -, -, -, -, -, hstays⟩ :=
    hscan 0 true (by decide +kernel) (by decide +kernel) (by decide +kernel)
  have hon := hstays 1 (by decide +kernel) (by decide +kernel) (by decide +kernel)
  rw [← Host.Outcome.next.inj hexec] at hon
  exact absurd hon (by decide +kernel)
end Sys2Proof.Machine

/-! Which registers an operation may write, one combinator for each way to write one. -/

namespace Sys2Proof.Machine

set_option Elab.async false

/-- From `s` to `t` no register changes but those that `P` names. -/
def State.Writes (P : Nat → Prop) (s t : State) : Prop := ∀ b, ¬ P b → t.rd b = s.rd b

namespace State

variable {P Q : Nat → Prop} {s t u : State}

theorem Writes.refl (s : State) : s.Writes P s := fun _ _ => rfl

theorem Writes.trans (h : s.Writes P t) (h' : t.Writes P u) : s.Writes P u := fun b hb => (h' b hb).trans (h b hb)

theorem Writes.mono (h : s.Writes P t) (hPQ : ∀ b, P b → Q b) : s.Writes Q t := fun b hb => h b fun hp => hb (hPQ b hp)

theorem Writes.of_regs (h : t.regs = s.regs) : s.Writes P t := fun b _ => rd_congr h b

theorem Writes.regs (h : s.Writes P t) (hu : u.regs = t.regs) : s.Writes P u := h.trans (.of_regs hu)

/-- A register outside `P` shows what it showed. -/
theorem Writes.rd (h : s.Writes P t) {b : Nat} (hb : ¬ P b) : t.rd b = s.rd b := h b hb

theorem Writes.get (h : s.Writes P t) {f : Fld} (hf : ¬ P f.addr) : t.get f = s.get f := by rw [State.get, h _ hf, State.get]

theorem Writes.on (h : s.Writes P t) {f : Fld} (hf : ¬ P f.addr) : t.on f = s.on f := by rw [State.on, h.get hf, State.on]

theorem Writes.wr (h : s.Writes P t) {a : Nat} {v : Word} (ha : P a) : s.Writes P (t.wr a v) := fun b hb => by
  have hne : b ≠ a := fun e => hb (e ▸ ha)
  rw [rd_wr, if_neg hne, h b hb]

theorem Writes.put (h : s.Writes P t) {f : Fld} {n : Nat} (hf : P f.addr) : s.Writes P (t.put f n) := fun b hb => by
  have hne : b ≠ f.addr := fun e => hb (e ▸ hf)
  rw [rd_put_other _ _ _ _ hne, h b hb]

theorem Writes.set1 (h : s.Writes P t) {f : Fld} (hf : P f.addr) : s.Writes P (t.set1 f) := h.put hf

theorem Writes.clr (h : s.Writes P t) {f : Fld} (hf : P f.addr) : s.Writes P (t.clr f) := h.put hf

theorem Writes.putB (h : s.Writes P t) {f : Fld} {b : Bool} (hf : P f.addr) : s.Writes P (t.putB f b) := by
  unfold State.putB; exact h.put hf

theorem Writes.incW (h : s.Writes P t) {f : Fld} (hf : P f.addr) : s.Writes P (t.incW f) := by unfold State.incW; exact h.put hf

theorem Writes.incS (h : s.Writes P t) {f : Fld} (hf : P f.addr) : s.Writes P (t.incS f) := by
  unfold State.incS; exact h.put hf

theorem Writes.raise (h : s.Writes P t) {src : Nat} : s.Writes P (t.raise src) := h.regs (raise_regs t src)

theorem Writes.ite {p : Prop} [Decidable p] (ht : s.Writes P t) (hu : s.Writes P u) : s.Writes P (if p then t else u) := by
  split
  · exact ht
  · exact hu

theorem Writes.whenB (h : s.Writes P t) {b : Bool} {f : State → State} (hf : ∀ u, s.Writes P u → s.Writes P (f u)) :
    s.Writes P (t.whenB b f) := by
  unfold State.whenB
  exact .ite (hf t h) h

theorem Writes.foldl {α : Type} {f : State → α → State} {l : List α} (h : s.Writes P t)
    (hf : ∀ u a, a ∈ l → s.Writes P u → s.Writes P (f u a)) : s.Writes P (l.foldl f t) := by
  induction l generalizing t with
  | nil => exact h
  | cons a l ih => exact ih (hf t a List.mem_cons_self h) fun u b hb => hf u b (List.mem_cons_of_mem a hb)

theorem Writes.forAll (h : s.Writes P t) {n : Nat} {f : Nat → State → State}
    (hf : ∀ i u, i < n → s.Writes P u → s.Writes P (f i u)) : s.Writes P (t.forAll n f) :=
  h.foldl fun u i hi => hf i u (List.mem_range.mp hi)

end State
end Sys2Proof.Machine

/-! The Mill's slots: which slot a lane issues, what setting flags, posting a result, correcting a word and claiming a unit leave alone, and
what of each stands in the state afterwards. -/

namespace Sys2Proof.Machine

set_option Elab.async false
namespace State

variable {A : List Part} {P : Nat → Prop} {s t u : State} {ln k : Nat} {x : Slot}

/-! ### The slot that a lane issues -/

theorem alu_of_issuing {code : Nat} {f : Nat → Lane → Slot → State} (h : s.issuing ln = some (k, x)) (hop : x.op = code)
    (hv : x.void = false) : s.alu ln code f = f k (s.lane ln) x := by
  unfold alu; simp [h, hop, hv]

theorem alu_of_void {code : Nat} {f : Nat → Lane → Slot → State} (h : s.issuing ln = some (k, x)) (hop : x.op = code)
    (hv : x.void = true) : s.alu ln code f = s.taskFlags k illegal := by
  unfold alu; simp [h, hop, hv]

theorem void_of_op {code : Nat} (hop : x.op = code) (hc : singleOnly code = false := by decide) : x.void = false := by
  simp [Slot.void, hop, hc]

/-! ### What is left alone -/

theorem LaneKept.refl (s : State) : s.LaneKept s :=
  ⟨fun _ => rfl, fun _ => rfl, fun _ => rfl, fun _ => rfl, rfl, ⟨rfl, rfl⟩, rfl, rfl, rfl, rfl, rfl, rfl⟩

theorem LaneKept.trans (h : s.LaneKept t) (h' : t.LaneKept u) : s.LaneKept u where
  v l := (h'.v l).trans (h.v l)
  acc l := (h'.acc l).trans (h.acc l)
  addr l := (h'.addr l).trans (h.addr l)
  flags l := (h'.flags l).trans (h.flags l)
  dmem := h'.dmem.trans h.dmem
  banks := ⟨h'.banks.1.trans h.banks.1, h'.banks.2.trans h.banks.2⟩
  staged := h'.staged.trans h.staged
  running := h'.running.trans h.running
  pc := h'.pc.trans h.pc
  clk := h'.clk.trans h.clk
  mem := h'.mem.trans h.mem
  loom := h'.loom.trans h.loom

theorem LaneKept.of_mill (hm : t.mill = s.mill) (hc : t.clk = s.clk) (hM : t.mem = s.mem) (hl : t.loom = s.loom) : s.LaneKept t := by
  constructor <;> simp [State.lane, *]

theorem LaneKept.of_moves (h : Moves [.regs, .cycle, .tasks, .events, .stew, .draws] s t) : s.LaneKept t :=
  .of_mill h.mill h.clk h.mem h.loom

/-- Results, stores and what the corrections count may change. -/
theorem LaneKept.modMill (h : s.LaneKept t) {f : Mill → Mill}
    (hl : (f t.mill).lanes = t.mill.lanes := by rfl) (hd : (f t.mill).dmem = t.mill.dmem := by rfl)
    (ha : (f t.mill).bankA = t.mill.bankA := by rfl) (hb : (f t.mill).bankB = t.mill.bankB := by rfl)
    (hs : (f t.mill).staged = t.mill.staged := by rfl) (hr : (f t.mill).running = t.mill.running := by rfl)
    (hp : (f t.mill).pc = t.mill.pc := by rfl) : s.LaneKept (t.modMill f) := by
  refine h.trans ?_
  constructor <;> simp [State.lane, State.modMill, *]

theorem LaneKept.modLaneFree (h : s.LaneKept t) {n : Nat} {f : List Nat → List Nat} :
    s.LaneKept (t.modLane n (fun x => { x with free := f x.free })) := by
  refine h.trans ?_
  have hlane : ∀ l, ∃ y, (t.modLane n (fun x => { x with free := f x.free })).lane l = { t.lane l with free := y } := fun l => by
    rcases nth_upd_eq t.mill.lanes n l (fun x => { x with free := f x.free }) {} with hsame | ⟨-, hupd⟩
    · exact ⟨_, hsame⟩
    · exact ⟨_, hupd⟩
  constructor
  case v | acc | addr | flags => intro l; obtain ⟨y, hy⟩ := hlane l; rw [hy]
  case banks => exact ⟨rfl, rfl⟩
  all_goals rfl

/-! ### Flags of a task -/

theorem Moves.modTask (h : Moves A s t) {f : TaskSt → TaskSt} (hG : [.tasks] ⊆ A := by decide) : Moves A s (t.modTask k f) :=
  h.andThen hG fun h => h.record

theorem Moves.taskFlags (h : Moves A s t) {f : Flags} (hG : [.regs, .cycle, .tasks, .events, .stew] ⊆ A := by decide) :
    Moves A s (t.taskFlags k f) := by
  refine h.andThen hG fun h => ?_
  unfold State.taskFlags
  refine .ite h ?_
  refine .ite (.raise (.modTask ?_)) (.modTask ?_) <;>
    exact (((((h.whenB fun _ h => .put h).whenB fun _ h => .put h).whenB fun _ h => .put h).whenB fun _ h => .put h).whenB fun _ h => .put h)

theorem Writes.taskFlags (h : s.Writes P t) {f : Flags} (hP : P (R.MILL_TASKt_STAT k)) : s.Writes P (t.taskFlags k f) := by
  unfold State.taskFlags
  refine .ite h ?_
  have hset := (((((h.whenB (b := f.nan) fun _ h => .set1 (f := F.MILL_TASKt_STAT_NAN k) h hP).whenB (b := f.inf)
    fun _ h => .set1 (f := F.MILL_TASKt_STAT_INF k) h hP).whenB (b := f.qsat)
    fun _ h => .set1 (f := F.MILL_TASKt_STAT_QSAT k) h hP).whenB (b := f.div0)
    fun _ h => .set1 (f := F.MILL_TASKt_STAT_DIV0 k) h hP).whenB (b := f.ill)
    fun _ h => .set1 (f := F.MILL_TASKt_STAT_ILL k) h hP)
  exact .ite (Writes.raise (t := modTask _ _ _) (hset.regs rfl)) (hset.regs rfl)

@[simp] theorem taskFlags_none (s : State) (k : Nat) : s.taskFlags k {} = s := if_pos rfl

/-- The flags of a task that a set of flags names, in the order of the register. -/
theorem on_taskFlags_ill (s : State) (k : Nat) (f : Flags) (hf : f.ill = true) : (s.taskFlags k f).on (F.MILL_TASKt_STAT_ILL k) = true := by
  have hne : f ≠ {} := fun e => by simp [e] at hf
  unfold taskFlags
  rw [if_neg hne]
  simp only [hf, State.whenB, if_true]
  split
  · rw [on_raise, on_congr (modTask_regs _ _ _), on_set1_same _ _ (by simp) (by simp)]
  · rw [on_congr (modTask_regs _ _ _), on_set1_same _ _ (by simp) (by simp)]

theorem on_taskFlags_qsat (s : State) (k : Nat) (f : Flags) (hf : f.qsat = true) : (s.taskFlags k f).on (F.MILL_TASKt_STAT_QSAT k) = true := by
  have hne : f ≠ {} := fun e => by simp [e] at hf
  have hset : ∀ (u : State) (b : Bool) (g : Fld), g.addr = R.MILL_TASKt_STAT k → g.lo = 11 ∨ g.lo = 12 → g.width = 1 →
      u.on (F.MILL_TASKt_STAT_QSAT k) = true → (u.whenB b (·.set1 g)).on (F.MILL_TASKt_STAT_QSAT k) = true := fun u b g _ hlo hw hu => by
    cases b
    · exact hu
    · refine (on_put_other u g _ 1 (by omega) (Or.inr ?_)).trans hu
      simp only
      omega
  unfold taskFlags
  rw [if_neg hne]
  simp only [hf]
  split
  · rw [on_raise, on_congr (modTask_regs _ _ _)]
    exact hset _ _ _ rfl (Or.inr rfl) rfl (hset _ _ _ rfl (Or.inl rfl) rfl (on_set1_same _ _ (by simp) (by simp)))
  · rw [on_congr (modTask_regs _ _ _)]
    exact hset _ _ _ rfl (Or.inr rfl) rfl (hset _ _ _ rfl (Or.inl rfl) rfl (on_set1_same _ _ (by simp) (by simp)))

end State
end Sys2Proof.Machine

/-! Results on their way, corrected words and claimed units, and the frames of a slot that posts a result. -/

namespace Sys2Proof.Machine

set_option Elab.async false
namespace State

variable {A : List Part} {P : Nat → Prop} {s t u : State} {ln k latency val : Nat} {x : Slot} {dest : Dest}

/-! ### The frames of a slot -/

/-- A slot that changes no register but its task's flags. -/
theorem LaneFrame.of (h : s.LaneKept t) (hw : s.Writes (· = R.MILL_TASKt_STAT k) t) : s.LaneFrame t k := ⟨h, fun b hb => hw b hb⟩

theorem LaneFrame.refl (s : State) (k : Nat) : s.LaneFrame s k := .of (.refl s) (.refl s)

theorem LaneFrame.taskFlags (s : State) (k : Nat) (f : Flags) : s.LaneFrame (s.taskFlags k f) k :=
  .of (.of_moves (.taskFlags (.refl s))) (.taskFlags (.refl s) rfl)

theorem LaneFrame.post (h : s.LaneFrame t k) {fixed load : Bool} {unit : Option Nat} :
    s.LaneFrame (t.post ln latency dest val fixed load unit) k := ⟨h.toLaneKept.modMill, h.regs⟩

theorem LaneFrame.bump (h : s.LaneFrame t k) {n : Nat} : s.LaneFrame (t.bump ln x n) k := by
  unfold State.bump
  split
  · exact h.post
  · exact h

theorem ReadFrame.post (h : s.ReadFrame t k) {fixed load : Bool} {unit : Option Nat} :
    s.ReadFrame (t.post ln latency dest val fixed load unit) k := ⟨h.toLaneKept.modMill, h.regs, h.clean⟩

theorem ReadFrame.bump (h : s.ReadFrame t k) {n : Nat} : s.ReadFrame (t.bump ln x n) k := by
  unfold State.bump
  split
  · exact h.post
  · exact h

/-! ### Results on their way -/

theorem posts_post (h : t.mill.cycle = s.mill.cycle) {fixed load : Bool} {unit : Option Nat} :
    s.posts (t.post ln latency dest val fixed load unit) ln latency dest val :=
  ⟨_, List.mem_append_right _ List.mem_cons_self, congrArg (· + latency) h, rfl, rfl, rfl⟩

theorem posts.post (h : s.posts t ln latency dest val) {ln' latency' val' : Nat} {dest' : Dest} {fixed load : Bool} {unit : Option Nat} :
    s.posts (t.post ln' latency' dest' val' fixed load unit) ln latency dest val := by
  obtain ⟨r, hr, hrest⟩ := h
  exact ⟨r, List.mem_append_left _ hr, hrest⟩

theorem posts.of_mill (h : s.posts t ln latency dest val) (hm : u.mill = t.mill) : s.posts u ln latency dest val := by
  unfold posts at *
  rw [hm]
  exact h

theorem posts.bump (h : s.posts t ln latency dest val) {n : Nat} : s.posts (t.bump ln x n) ln latency dest val := by
  unfold State.bump
  split
  · exact h.post
  · exact h

theorem post_cycle (s : State) {fixed load : Bool} {unit : Option Nat} :
    (s.post ln latency dest val fixed load unit).mill.cycle = s.mill.cycle := rfl

/-- With PI the address register is on its way with the number of words added, as the lane holds it. -/
theorem posts_bump (hc : t.mill.cycle = s.mill.cycle) (ha : (t.lane ln).a = (s.lane ln).a) (hpi : x.pi = true) (n : Nat) :
    s.posts (t.bump ln x n) ln 1 (.addr x.ar) (((s.lane ln).ptr x.ar + n) % 65536) := by
  unfold State.bump Lane.ptr
  rw [if_pos hpi, ha]
  exact posts_post hc

theorem cycle_taskFlags (s : State) (k : Nat) (f : Flags) : (s.taskFlags k f).mill.cycle = s.mill.cycle :=
  congrArg Mill.cycle (Moves.mill (F := [.regs, .cycle, .tasks, .events, .stew]) (.taskFlags (.refl s)))

theorem mill_taskFlags (s : State) (k : Nat) (f : Flags) : (s.taskFlags k f).mill = s.mill :=
  Moves.mill (F := [.regs, .cycle, .tasks, .events, .stew]) (.taskFlags (.refl s))

/-- One result with the flags of its rounding. -/
theorem flagged_postReg (s : State) (ln k lat d : Nat) (w : Word) (f : Flags) :
    s.posts ((s.taskFlags k f).postReg ln lat d w) ln lat (.reg (d % 16)) w.toNat ∧
      s.LaneFrame ((s.taskFlags k f).postReg ln lat d w) k :=
  ⟨posts_post (cycle_taskFlags s k f), (LaneFrame.taskFlags s k f).post⟩

/-- Two results, to D and D+1, with the flags of both. -/
theorem flagged_postPair (s : State) (ln k lat d : Nat) (w z : Word) (f : Flags) :
    let t := ((s.taskFlags k f).postReg ln lat d w).postReg ln lat (d + 1) z
    s.posts t ln lat (.reg (d % 16)) w.toNat ∧ s.posts t ln lat (.reg ((d + 1) % 16)) z.toNat ∧ s.LaneFrame t k := by
  obtain ⟨hposts, hframe⟩ := flagged_postReg s ln k lat d w f
  exact ⟨hposts.post, posts_post (t := (s.taskFlags k f).postReg ln lat d w) (cycle_taskFlags s k f), hframe.post⟩

/-- One result of an operation on bits, which sets no flag. -/
theorem plain_post (s : State) (ln k lat val : Nat) (dest : Dest) {fixed load : Bool} {unit : Option Nat} :
    s.posts (s.post ln lat dest val fixed load unit) ln lat dest val ∧ s.LaneFrame (s.post ln lat dest val fixed load unit) k ∧
      (s.post ln lat dest val fixed load unit).regs = s.regs :=
  ⟨posts_post rfl, (LaneFrame.refl s k).post, rfl⟩

/-! ### Corrections and units -/

theorem correctWord_clean (s : State) (n : Nat) (h : s.mill.correctable = []) : s.correctWord n = s := by
  unfold correctWord; simp [h]

theorem LaneKept.correctWord (h : s.LaneKept t) {n : Nat} : s.LaneKept (t.correctWord n) := by
  unfold State.correctWord
  split
  · exact h.trans ⟨fun _ => rfl, fun _ => rfl, fun _ => rfl, fun _ => rfl, rfl, ⟨rfl, rfl⟩, rfl, rfl, rfl, rfl, rfl, rfl⟩
  · exact h

theorem Writes.correctWord (h : s.Writes P t) {n : Nat} (hP : P R.MILL_STAT) : s.Writes P (t.correctWord n) := by
  unfold State.correctWord
  exact .ite (.incS (.set1 (h.regs rfl) hP) hP) h

theorem cycle_correctWord (s : State) (n : Nat) : (s.correctWord n).mill.cycle = s.mill.cycle := by
  unfold State.correctWord
  split <;> rfl

/-- A read of a word may correct it. -/
theorem ReadFrame.correctWord (h : s.ReadFrame t k) {n : Nat} (hc : s.mill.correctable = [] → t.mill.correctable = []) :
    s.ReadFrame (t.correctWord n) k where
  toLaneKept := h.toLaneKept.correctWord
  regs b hb hb' := (Writes.correctWord (.refl t) (P := (· = R.MILL_STAT)) rfl b hb').trans (h.regs b hb hb')
  clean hs := by rw [correctWord_clean t n (hc hs)]; exact h.clean hs

end State
end Sys2Proof.Machine

/-! The operations of a slot that post one result in their latency: arithmetic, bits, comparisons and moves. -/

namespace Sys2Proof.Machine

set_option Elab.async false
namespace State

variable {s : State} {ln k : Nat} {x : Slot} {code : Nat}

/-- An operation on a lane, where the slot that the lane issues holds it. -/
theorem alu_of_op {f : Nat → Lane → Slot → State} (h : s.issuing ln = some (k, x)) (hop : x.op = code)
    (hc : singleOnly code = false := by decide) : s.alu ln code f = f k (s.lane ln) x :=
  alu_of_issuing h hop (void_of_op hop hc)

theorem aluArith_gives {lat : Nat} {f : (Nat → Flt) → Slot → Flt} (h : s.issuing ln = some (k, x)) (hop : x.op = code)
    (hc : singleOnly code = false := by decide) :
    let y := roundTo x.fixed (f (fun r => valueOf x.fixed ((s.lane ln).get r)) x)
    s.posts (s.aluArith ln code lat f) ln lat (.reg (x.d % 16)) y.1.toNat ∧ s.LaneFrame (s.aluArith ln code lat f) k := by
  unfold aluArith
  rw [alu_of_op h hop hc]
  exact flagged_postReg ..

theorem aluBits_gives {f : Lane → Slot → Word} (h : s.issuing ln = some (k, x)) (hop : x.op = code)
    (hc : singleOnly code = false := by decide) :
    s.posts (s.aluBits ln code f) ln 1 (.reg (x.d % 16)) (f (s.lane ln) x).toNat ∧ s.LaneFrame (s.aluBits ln code f) k ∧
      (s.aluBits ln code f).regs = s.regs := by
  unfold aluBits
  rw [alu_of_op h hop hc]
  exact plain_post ..

theorem aluCmp_gives {f : Flt → Flt → Bool} (h : s.issuing ln = some (k, x)) (hop : x.op = code)
    (hc : singleOnly code = false := by decide) :
    let v := fun r => valueOf x.fixed ((s.lane ln).get r)
    s.posts (s.aluCmp ln code f) ln 1 (.flag (x.d % 8)) (bit1 (f (v x.a) (v x.b))) ∧ s.LaneFrame (s.aluCmp ln code f) k ∧
      (s.aluCmp ln code f).regs = s.regs := by
  unfold aluCmp
  rw [alu_of_op h hop hc]
  exact plain_post ..

end State

/-- The upper half of a word replaced. -/
theorem setBits_upper (v : Word) (n : Nat) : setBits v 16 16 n = BitVec.ofNat 32 (n % 65536 * 65536 + v.toNat % 65536) := by
  unfold setBits getBits
  have hv := v.isLt
  congr 1
  omega

open State in
/-- Settles O32: each operation posts its result, rounded once where it rounds, and changes the flags of its task at most. -/
theorem millArithmeticAndBits : Obligations.MillArithmeticAndBits := by
  unfold Obligations.MillArithmeticAndBits
  refine ⟨fun s ln k x h => ?_, fun s ln k x h => ?_⟩
  · refine ⟨fun hop => ⟨_, rfl, aluArith_gives h hop⟩, fun hop => ⟨_, rfl, aluArith_gives h hop⟩, fun hop => ⟨_, rfl, aluArith_gives h hop⟩,
      fun hop => ⟨_, rfl, aluArith_gives h hop⟩, fun hop => ⟨_, rfl, aluArith_gives h hop⟩, fun hop => ⟨_, rfl, aluArith_gives h hop⟩,
      fun hop => ⟨_, rfl, aluArith_gives h hop⟩, fun hop => ⟨_, rfl, aluArith_gives h hop⟩, fun hop => ⟨_, rfl, ?_⟩, fun hop => ⟨_, rfl, ?_⟩⟩
    · rw [alu_of_op h hop]
      exact flagged_postReg ..
    · rw [alu_of_op h hop]
      exact flagged_postReg ..
  · refine ⟨fun hop => ?_, fun hop => ⟨_, rfl, aluBits_gives h hop⟩, fun hop => ⟨_, rfl, aluBits_gives h hop⟩,
      fun hop => ⟨_, rfl, aluBits_gives h hop⟩, fun hop => ⟨_, rfl, aluBits_gives h hop⟩, fun hop => ⟨_, rfl, aluBits_gives h hop⟩,
      fun hop => ⟨_, rfl, aluCmp_gives h hop⟩, fun hop => ⟨_, rfl, aluCmp_gives h hop⟩, fun hop => ⟨_, rfl, aluCmp_gives h hop⟩,
      fun hop hc => ⟨_, rfl, ?_⟩, fun hop hc => ⟨_, rfl, ?_⟩, fun hop => ⟨_, rfl, ?_⟩, fun hop => ⟨_, rfl, ?_⟩,
      fun hop => ⟨_, rfl, aluBits_gives h hop⟩, fun hop => ⟨_, rfl, ?_⟩, fun hop => ⟨_, rfl, ?_⟩⟩
    · exact congrArg Host.Outcome.next (alu_of_op h hop)
    · have hsel := aluBits_gives (f := fun l x => if l.c.getLsbD x.flag then l.get x.a else l.get x.b) h hop
      rw [if_pos hc] at hsel
      exact hsel
    · have hsel := aluBits_gives (f := fun l x => if l.c.getLsbD x.flag then l.get x.a else l.get x.b) h hop
      rw [if_neg (by simp [hc])] at hsel
      exact hsel
    · rw [alu_of_op h hop]
      exact plain_post ..
    · rw [alu_of_op h hop]
      exact flagged_postReg ..
    · rw [← setBits_upper]
      exact aluBits_gives h hop
    · rw [alu_of_op h hop]
      exact plain_post ..

end Sys2Proof.Machine

/-! Q1.31 in integers: what rounding to the format makes of sums, products and comparisons of register values. -/

namespace Sys2Proof.Machine

set_option Elab.async false

theorem ratRoundEven_intCast (z : Int) : ratRoundEven (z : Rat) = z := by
  have hround : roundEven z.natAbs 1 = z.natAbs := by simp [roundEven, Nat.mod_one]
  unfold ratRoundEven
  simp only [Rat.num_intCast, Rat.den_intCast, hround]
  split <;> omega

/-- The value of a register in Q1.31 with a magnitude of `z` units of the last place. -/
def qUnits (z : Int) : Rat := (z : Rat) / ((2 ^ 31 : Nat) : Rat)

theorem qRat_eq_qUnits (w : Word) : qRat w = qUnits w.toInt := rfl

theorem qUnits_add (a b : Int) : qUnits a + qUnits b = qUnits (a + b) := by unfold qUnits; push_cast; ring

theorem qUnits_neg (a : Int) : -qUnits a = qUnits (-a) := by unfold qUnits; push_cast; ring

theorem qUnits_lt (a b : Int) : qUnits a < qUnits b ↔ a < b := by
  unfold qUnits
  rw [div_lt_div_iff_of_pos_right (by norm_num)]
  exact_mod_cast Iff.rfl

theorem roundQ_qUnits (z : Int) : roundQ (qUnits z) = satQ z := by
  have hz : qUnits z * ((2 ^ 31 : Nat) : Rat) = (z : Rat) := by unfold qUnits; push_cast; ring
  unfold roundQ
  rw [hz, ratRoundEven_intCast]

theorem roundQ_qUnits_mul (a b : Int) :
    roundQ (qUnits a * qUnits b) = satQ (ratRoundEven (((a * b : Int) : Rat) / ((2 ^ 31 : Nat) : Rat))) := by
  have hz : qUnits a * qUnits b * ((2 ^ 31 : Nat) : Rat) = ((a * b : Int) : Rat) / ((2 ^ 31 : Nat) : Rat) := by
    unfold qUnits; push_cast; ring
  unfold roundQ
  rw [hz]

/-- A number that stands for `z` units of Q1.31, with either sign of zero. -/
def Flt.IsUnits (y : Flt) (z : Int) : Prop := ∃ n, y = .fin (qUnits z) n

namespace Flt.IsUnits

variable {x y : Flt} {a b : Int}

theorem valueOf (w : Word) : (valueOf true w).IsUnits w.toInt := ⟨false, rfl⟩

theorem add (hx : x.IsUnits a) (hy : y.IsUnits b) : (x.add y).IsUnits (a + b) := by
  obtain ⟨_, rfl⟩ := hx
  obtain ⟨_, rfl⟩ := hy
  exact ⟨_, by rw [Flt.add, qUnits_add]⟩

theorem neg (hx : x.IsUnits a) : x.neg.IsUnits (-a) := by
  obtain ⟨_, rfl⟩ := hx
  exact ⟨_, by rw [Flt.neg, qUnits_neg]⟩

theorem abs (hx : x.IsUnits a) : x.abs.IsUnits (a.natAbs : Int) := by
  obtain ⟨_, rfl⟩ := hx
  have hsign : qUnits a < 0 ↔ a < 0 := by
    have h := qUnits_lt a 0
    simpa [qUnits] using h
  refine ⟨false, ?_⟩
  rw [Flt.abs, qUnits_neg]
  by_cases ha : a < 0
  · rw [if_pos (hsign.mpr ha), show -a = (a.natAbs : Int) by omega]
  · rw [if_neg (mt hsign.mp ha), show (a.natAbs : Int) = a by omega]

theorem min (hx : x.IsUnits a) (hy : y.IsUnits b) : (x.min y).IsUnits (Min.min a b) := by
  obtain ⟨m, rfl⟩ := hx
  obtain ⟨n, rfl⟩ := hy
  simp only [Flt.min, Flt.lt, qUnits_lt, reduceCtorEq, or_self, if_false, decide_eq_true_eq]
  by_cases hab : a < b
  · rw [if_pos hab, min_eq_left hab.le]; exact ⟨m, rfl⟩
  · by_cases hba : b < a
    · rw [if_neg hab, if_pos hba, min_eq_right hba.le]; exact ⟨n, rfl⟩
    · obtain rfl : a = b := by omega
      rw [if_neg hab, if_neg hba, min_self]
      split
      · exact ⟨m, rfl⟩
      · exact ⟨n, rfl⟩

theorem max (hx : x.IsUnits a) (hy : y.IsUnits b) : (x.max y).IsUnits (Max.max a b) := by
  obtain ⟨m, rfl⟩ := hx
  obtain ⟨n, rfl⟩ := hy
  simp only [Flt.max, Flt.lt, qUnits_lt, reduceCtorEq, or_self, if_false, decide_eq_true_eq]
  by_cases hba : b < a
  · rw [if_pos hba, max_eq_left hba.le]; exact ⟨m, rfl⟩
  · by_cases hab : a < b
    · rw [if_neg hba, if_pos hab, max_eq_right hab.le]; exact ⟨n, rfl⟩
    · obtain rfl : a = b := by omega
      rw [if_neg hba, if_neg hab, max_self]
      split
      · exact ⟨n, rfl⟩
      · exact ⟨m, rfl⟩

theorem roundTo (hx : x.IsUnits a) : roundTo true x = satQ a := by
  obtain ⟨_, rfl⟩ := hx
  exact roundQ_qUnits a

end Flt.IsUnits

theorem roundTo_mul (v w : Word) :
    roundTo true ((valueOf true v).mul (valueOf true w)) =
      satQ (ratRoundEven (((v.toInt * w.toInt : Int) : Rat) / ((2 ^ 31 : Nat) : Rat))) :=
  roundQ_qUnits_mul v.toInt w.toInt

theorem satQ_word (y : Int) : (satQ y).1 = BitVec.ofInt 32 (satTo 32 y) := by
  unfold satQ wrapTo
  apply BitVec.eq_of_toNat_eq
  rw [BitVec.toNat_ofNat, BitVec.toNat_ofInt]
  omega

namespace State

variable {s : State} {ln k : Nat} {x : Slot} {code : Nat}

/-- What a slot posts of a saturated integer, and what becomes of its task's flags. -/
theorem saturated_postReg (s : State) (ln k lat d : Nat) (y : Int) :
    let t := (s.taskFlags k (satQ y).2).postReg ln lat d (satQ y).1
    s.posts t ln lat (.reg (d % 16)) (BitVec.ofInt 32 (satTo 32 y)).toNat ∧
      (satTo 32 y ≠ y → t.on (F.MILL_TASKt_STAT_QSAT k) = true) ∧ (satTo 32 y = y → t.rd (R.MILL_TASKt_STAT k) = s.rd (R.MILL_TASKt_STAT k)) := by
  refine ⟨?_, fun hsat => on_taskFlags_qsat s k _ (by simpa [satQ] using hsat), fun hsat => ?_⟩
  · rw [← satQ_word]
    exact (flagged_postReg ..).1
  · have hnone : (satQ y).2 = {} := by simp [satQ, hsat]
    rw [hnone, taskFlags_none]
    rfl

theorem aluArith_saturates {lat : Nat} {f : (Nat → Flt) → Slot → Flt} {y : Int} (h : s.issuing ln = some (k, x)) (hop : x.op = code)
    (hfix : x.fixed = true) (hround : roundTo true (f (fun r => valueOf true ((s.lane ln).get r)) x) = satQ y)
    (hc : singleOnly code = false := by decide) :
    let t := s.aluArith ln code lat f
    s.posts t ln lat (.reg (x.d % 16)) (BitVec.ofInt 32 (satTo 32 y)).toNat ∧
      (satTo 32 y ≠ y → t.on (F.MILL_TASKt_STAT_QSAT k) = true) ∧ (satTo 32 y = y → t.rd (R.MILL_TASKt_STAT k) = s.rd (R.MILL_TASKt_STAT k)) := by
  unfold aluArith
  rw [alu_of_op h hop hc, hfix]
  simp only [hround]
  exact saturated_postReg ..

end State

open State Flt.IsUnits in
/-- Settles O33: in Q1.31 a register's value is its integer in units of 2^−31, so each operation rounds and saturates an integer. -/
theorem millFixedPoint : Obligations.MillFixedPoint := by
  unfold Obligations.MillFixedPoint
  intro s ln k x h hfix _
  have hv : ∀ r, (Machine.valueOf true ((s.lane ln).get r)).IsUnits ((s.lane ln).get r).toInt := fun r => Flt.IsUnits.valueOf _
  refine ⟨fun hop => ⟨_, rfl, aluArith_saturates h hop hfix ((hv x.a).add (hv x.b)).roundTo⟩,
    fun hop => ⟨_, rfl, aluArith_saturates h hop hfix ((hv x.a).add (hv x.b).neg).roundTo⟩,
    fun hop => ⟨_, rfl, aluArith_saturates h hop hfix (roundTo_mul _ _)⟩,
    fun hop => ⟨_, rfl, aluArith_saturates h hop hfix ((hv x.a).min (hv x.b)).roundTo⟩,
    fun hop => ⟨_, rfl, aluArith_saturates h hop hfix ((hv x.a).max (hv x.b)).roundTo⟩,
    fun hop => ⟨_, rfl, aluArith_saturates h hop hfix (hv x.a).abs.roundTo⟩,
    fun hop => ⟨_, rfl, aluArith_saturates h hop hfix (hv x.a).neg.roundTo⟩,
    fun hop => ⟨_, rfl, aluArith_saturates h hop hfix (((hv x.a).max (hv x.b)).min (hv (x.b + 1))).roundTo⟩⟩

end Sys2Proof.Machine

/-! Transforms, filters and the iterative units of a lane, and the coefficients that they read. -/

namespace Sys2Proof.Machine

set_option Elab.async false
namespace State

variable {P : Nat → Prop} {s t u : State} {ln k : Nat} {x : Slot} {code : Nat}

theorem millStat_ne_taskStat (k : Nat) : R.MILL_STAT ≠ R.MILL_TASKt_STAT k := by simp only [R.MILL_STAT, R.MILL_TASKt_STAT]; omega

/-! ### Claiming a unit -/

theorem LaneKept.claim (h : s.LaneKept t) {unit interval lat : Nat} : s.LaneKept (t.claim k ln unit interval lat) := by
  unfold State.claim
  extract_lets now busy v
  have hv : s.LaneKept v := by
    unfold v
    split
    · exact .trans h.modMill (LaneFrame.taskFlags ..).toLaneKept
    · exact h
  exact hv.modLaneFree

theorem Writes.claim (h : s.Writes P t) {unit interval lat : Nat} (hP : P (R.MILL_TASKt_STAT k)) :
    s.Writes P (t.claim k ln unit interval lat) := by
  unfold State.claim
  extract_lets now busy v
  have hv : s.Writes P v := by
    unfold v
    exact .ite (Writes.taskFlags (t := t.modMill _) (h.regs rfl) hP) h
  exact hv.regs rfl

/-- What a claim keeps of the Mill's own counts. -/
theorem counts_claim (s : State) (k ln unit interval lat : Nat) :
    (s.claim k ln unit interval lat).mill.cycle = s.mill.cycle ∧ (s.claim k ln unit interval lat).mill.owed = s.mill.owed := by
  unfold State.claim
  extract_lets now busy v
  have hv : v.mill.cycle = s.mill.cycle ∧ v.mill.owed = s.mill.owed := by
    unfold v
    split
    · rw [mill_taskFlags]; exact ⟨rfl, rfl⟩
    · exact ⟨rfl, rfl⟩
  exact hv

theorem LaneFrame.claim (s : State) (k ln unit interval lat : Nat) : s.LaneFrame (s.claim k ln unit interval lat) k :=
  .of (.claim (.refl s)) (.claim (.refl s) rfl)

theorem LaneFrame.trans (h : s.LaneFrame t k) (h' : t.LaneFrame u k) : s.LaneFrame u k :=
  ⟨h.toLaneKept.trans h'.toLaneKept, fun b hb => (h'.regs b hb).trans (h.regs b hb)⟩

theorem LaneFrame.postFlagged (h : s.LaneFrame t k) {f : Flags} {lat val : Nat} {dest : Dest} {fixed load : Bool} {unit : Option Nat} :
    s.LaneFrame ((t.taskFlags k f).post ln lat dest val fixed load unit) k := (h.trans (LaneFrame.taskFlags t k f)).post

/-! ### Reading words -/

theorem ReadFrame.refl (s : State) (k : Nat) : s.ReadFrame s k := ⟨.refl s, fun _ _ _ => rfl, fun _ => ⟨rfl, rfl⟩⟩

/-- What changes no register but the task's flags, and no correction. -/
theorem ReadFrame.lane (h : s.ReadFrame t k) (h' : t.LaneFrame u k) (ho : u.mill.owed = t.mill.owed) : s.ReadFrame u k where
  toLaneKept := h.toLaneKept.trans h'.toLaneKept
  regs b hb hb' := (h'.regs b hb).trans (h.regs b hb hb')
  clean hc := ⟨(h'.regs _ (millStat_ne_taskStat k)).trans (h.clean hc).1, ho.trans (h.clean hc).2⟩

theorem ReadFrame.taskFlags (h : s.ReadFrame t k) {f : Flags} : s.ReadFrame (t.taskFlags k f) k :=
  h.lane (.taskFlags t k f) (congrArg Mill.owed (mill_taskFlags t k f))

theorem ReadFrame.claim (h : s.ReadFrame t k) {unit interval lat : Nat} : s.ReadFrame (t.claim k ln unit interval lat) k :=
  h.lane (.claim t k ln unit interval lat) (counts_claim ..).2

/-- Coefficients read one after the other: each may correct a word. -/
theorem readCoefs_frame {α : Type} (s : State) (k : Nat) (l : List α) (g : α → Nat) :
    s.ReadFrame (l.foldl (fun v a => v.readCoef k (g a)) s) k ∧ (l.foldl (fun v a => v.readCoef k (g a)) s).mill.cycle = s.mill.cycle := by
  have hfold : ∀ (l : List α) (t : State), s.ReadFrame t k → t.mill.cycle = s.mill.cycle →
      (s.mill.correctable = [] → t.mill.correctable = []) →
      s.ReadFrame (l.foldl (fun v a => v.readCoef k (g a)) t) k ∧ (l.foldl (fun v a => v.readCoef k (g a)) t).mill.cycle = s.mill.cycle := by
    intro l
    induction l with
    | nil => exact fun t ht hcyc _ => ⟨ht, hcyc⟩
    | cons a l ih =>
      intro t ht hcyc hclean
      refine ih _ (ht.correctWord hclean) ((cycle_correctWord ..).trans hcyc) fun hs => ?_
      exact (congrArg (·.mill.correctable) (correctWord_clean t _ (hclean hs))).trans (hclean hs)
  exact hfold l s (.refl s k) rfl id

/-! ### The operations -/

theorem aluPair_gives {lat : Nat} {f : (Nat → Flt) → Slot → Flt × Flt} (h : s.issuing ln = some (k, x)) (hop : x.op = code)
    (hc : singleOnly code = false := by decide) :
    let y := f (fun r => valueOf x.fixed ((s.lane ln).get r)) x
    s.posts (s.aluPair ln code lat f) ln lat (.reg (x.d % 16)) (roundTo x.fixed y.1).1.toNat ∧
      s.posts (s.aluPair ln code lat f) ln lat (.reg ((x.d + 1) % 16)) (roundTo x.fixed y.2).1.toNat ∧
      s.LaneFrame (s.aluPair ln code lat f) k := by
  unfold aluPair
  rw [alu_of_op h hop hc]
  exact flagged_postPair ..

/-- A slot of an operation in single precision only, with M = 1. -/
theorem voidAlu_frame {f : Nat → Lane → Slot → State} (h : s.issuing ln = some (k, x)) (hfix : x.fixed = true) (hop : x.op = code)
    (hc : singleOnly code = true := by decide) :
    (s.alu ln code f).on (F.MILL_TASKt_STAT_ILL k) = true ∧ (s.alu ln code f).mill = s.mill ∧ s.LaneFrame (s.alu ln code f) k := by
  rw [alu_of_void h hop (by simp [Slot.void, hfix, hop, hc])]
  exact ⟨on_taskFlags_ill s k illegal rfl, mill_taskFlags .., LaneFrame.taskFlags ..⟩

/-- A biquad step whose output goes to a register of its own: corrections, the unit, the flags, then the output and the two states. -/
theorem biquad_eq (s : State) (k ln : Nat) (x : Slot) (hb : x.d % 16 ≠ x.b % 16) (hb' : x.d % 16 ≠ (x.b + 1) % 16) :
    ∃ (f : Flags) (w1 w2 : Word), s.biquad k ln (s.lane ln) x =
      (((((((List.range 5).foldl (fun v i => v.readCoef k ((s.lane ln).ptr x.ar + i)) s).claim k ln 0 2 8).taskFlags k f).post ln 8
        (.reg (x.d % 16)) (roundTo x.fixed (((valueOf x.fixed (s.coef k ((s.lane ln).ptr x.ar))).mul
          (valueOf x.fixed ((s.lane ln).get x.a))).add (valueOf x.fixed ((s.lane ln).get x.b)))).1.toNat false false (some 0)).post ln 8
        (.reg (x.b % 16)) w1.toNat false false (some 0)).post ln 8 (.reg ((x.b + 1) % 16)) w2.toNat false false (some 0)).bump ln x 5 := by
  have hclash : ¬ (x.d % 16 = x.b % 16 ∨ x.d % 16 = (x.b + 1) % 16) := fun h => h.elim hb hb'
  rcases hy : roundTo x.fixed (((valueOf x.fixed (s.coef k ((s.lane ln).ptr x.ar))).mul
    (valueOf x.fixed ((s.lane ln).get x.a))).add (valueOf x.fixed ((s.lane ln).get x.b))) with ⟨yw, fy⟩
  unfold biquad
  simp only [Nat.add_zero, hy, if_neg hclash]
  exact ⟨_, _, _, rfl⟩

theorem biquad_gives (s : State) (k ln : Nat) (x : Slot) (hb : x.d % 16 ≠ x.b % 16) (hb' : x.d % 16 ≠ (x.b + 1) % 16) :
    let t := s.biquad k ln (s.lane ln) x
    let v := fun r => valueOf x.fixed ((s.lane ln).get r)
    let ptr := (s.lane ln).ptr x.ar
    s.posts t ln 8 (.reg (x.d % 16)) (roundTo x.fixed (((valueOf x.fixed (s.coef k ptr)).mul (v x.a)).add (v x.b))).1.toNat ∧
      (x.pi = true → s.posts t ln 1 (.addr x.ar) ((ptr + 5) % 65536)) ∧ s.ReadFrame t k := by
  obtain ⟨f, w1, w2, heq⟩ := biquad_eq s k ln x hb hb'
  obtain ⟨hread, hcyc⟩ := readCoefs_frame s k (List.range 5) (fun i => (s.lane ln).ptr x.ar + i)
  have hu := hread.claim (ln := ln) (unit := 0) (interval := 2) (lat := 8) |>.taskFlags (f := f)
  have hucyc := (cycle_taskFlags _ k f).trans ((counts_claim _ k ln 0 2 8).1.trans hcyc)
  simp only [heq]
  refine ⟨(posts_post hucyc).post.post.bump, fun hpi => posts_bump ?_ ?_ hpi 5, hu.post.post.post.bump⟩
  · rw [post_cycle, post_cycle, post_cycle]
    exact hucyc
  · exact hu.post.post.post.addr ln

theorem integrate_gives (s : State) (k ln : Nat) (x : Slot) :
    let t := s.integrate k ln (s.lane ln) x
    let v := fun r => valueOf x.fixed ((s.lane ln).get r)
    let w := (roundTo x.fixed ((((v x.d).add (v x.a)).max (v x.b)).min (v (x.b + 1)))).1
    s.posts t ln 3 (.reg (x.d % 16)) w.toNat ∧ s.posts t ln 3 (.flag 6) (bit1 ((valueOf x.fixed w).eq (v (x.b + 1)))) ∧
      s.posts t ln 3 (.flag 7) (bit1 ((valueOf x.fixed w).eq (v x.b))) ∧ s.LaneFrame t k := by
  intro t v w
  have hflags := flagged_postReg s ln k 3 x.d w (roundTo x.fixed ((((v x.d).add (v x.a)).max (v x.b)).min (v (x.b + 1)))).2
  obtain ⟨hposts, hframe⟩ := hflags
  have hcyc := cycle_taskFlags s k (roundTo x.fixed ((((v x.d).add (v x.a)).max (v x.b)).min (v (x.b + 1)))).2
  refine ⟨hposts.post.post, .post (posts_post (t := postReg _ ln 3 x.d w) hcyc), ?_, hframe.post.post⟩
  exact posts_post (t := post (postReg _ ln 3 x.d w) ln 3 (.flag 6) _ false false none) hcyc

/-- What an interpolation in a table reads: its head, then the two points about the abscissa. -/
theorem interpolate_gives (s : State) (k ln : Nat) (x : Slot) (q : Rat) (z : Bool)
    (hq : let ptr := (s.lane ln).ptr x.ar
      (((ofSingle ((s.lane ln).get x.a)).add (ofSingle (s.coef k ptr)).neg).mul (ofSingle (s.coef k (ptr + 1)))).clamp (.ofRat 0)
        (.ofRat ((max 2 (min 2045 (s.coef k (ptr + 2)).toNat) - 1 : Nat) : Rat)) = .fin q z) :
    let t := s.interpolate k ln (s.lane ln) x
    let ptr := (s.lane ln).ptr x.ar
    let n := max 2 (min 2045 (s.coef k (ptr + 2)).toNat)
    let pt := fun i => ofSingle (s.coef k (ptr + 3 + i))
    let i := q.floor.toNat
    let f := q - (i : Rat)
    s.posts t ln 6 (.reg (x.d % 16))
        (roundSingle (if f = 0 then pt i else ((pt i).mul (.ofRat (1 - f))).add ((pt (i + 1)).mul (.ofRat f)))).1.toNat ∧
      (x.pi = true → s.posts t ln 1 (.addr x.ar) ((ptr + (n + 3)) % 65536)) ∧ s.ReadFrame t k := by
  intro t ptr n pt i f
  have ht : ∃ fl, t = (((([ptr, ptr + 1, ptr + 2, ptr + 3 + i, ptr + 4 + i].foldl (fun v a => v.readCoef k a) s).taskFlags k fl).postReg
      ln 6 x.d (roundSingle (if f = 0 then pt i else ((pt i).mul (.ofRat (1 - f))).add ((pt (i + 1)).mul (.ofRat f)))).1).bump ln x (n + 3)) := by
    unfold t interpolate
    dsimp only at hq ⊢
    simp only [hq]
    exact ⟨_, rfl⟩
  obtain ⟨fl, ht⟩ := ht
  obtain ⟨hread, hcyc⟩ := readCoefs_frame s k [ptr, ptr + 1, ptr + 2, ptr + 3 + i, ptr + 4 + i] id
  have hu := hread.taskFlags (f := fl)
  have hucyc := (cycle_taskFlags _ k fl).trans hcyc
  rw [ht]
  refine ⟨(posts_post hucyc).bump, fun hpi => posts_bump ?_ ?_ hpi (n + 3), hu.post.bump⟩
  · exact hucyc
  · exact hu.addr ln

/-- A result of one of the iterative units. -/
theorem claimed_post (s : State) (k ln unit interval lat : Nat) (f : Flags) (d val : Nat) :
    let t := ((s.claim k ln unit interval lat).taskFlags k f).post ln lat (.reg d) val false false (some unit)
    s.posts t ln lat (.reg d) val ∧ s.LaneFrame t k :=
  ⟨posts_post ((cycle_taskFlags ..).trans (counts_claim ..).1), (LaneFrame.claim s k ln unit interval lat).postFlagged⟩

end State

open State in
/-- Settles O34: the transforms post their rounded results; the biquad and the table read coefficients, which may correct words. -/
theorem millTransforms : Obligations.MillTransforms := by
  unfold Obligations.MillTransforms
  refine ⟨fun s ln k x h hfix => ?_, fun s ln k x h hvoid => ?_⟩
  · exact ⟨fun hop => ⟨_, rfl, voidAlu_frame h hfix hop⟩, fun hop => ⟨_, rfl, voidAlu_frame h hfix hop⟩,
      fun hop => ⟨_, rfl, voidAlu_frame h hfix hop⟩⟩
  · refine ⟨fun hop => ⟨_, rfl, aluPair_gives h hop⟩, fun hop => ⟨_, rfl, aluPair_gives h hop⟩, fun hop => ⟨_, rfl, aluPair_gives h hop⟩,
      fun hop => ⟨_, rfl, ?_⟩, fun hop hb hb' => ⟨_, rfl, ?_⟩, fun hop => ⟨_, rfl, ?_⟩, fun hop q z hq => ⟨_, rfl, ?_⟩,
      fun hop => ⟨_, rfl, ?_⟩, fun hop => ⟨_, rfl, ?_⟩⟩ <;> rw [alu_of_issuing h hop hvoid]
    · exact flagged_postPair ..
    · exact biquad_gives s k ln x hb hb'
    · exact integrate_gives s k ln x
    · obtain ⟨hposts, hrest⟩ := interpolate_gives s k ln x q z hq
      refine ⟨fun hint => ?_, fun hfrac => ?_, hrest⟩
      · rwa [if_pos (sub_eq_zero.mpr hint)] at hposts
      · rwa [if_neg (sub_ne_zero.mpr hfrac)] at hposts
    · exact claimed_post ..
    · exact claimed_post ..

end Sys2Proof.Machine

/-! The accumulators, loads and stores of a lane, and the operations on its task. -/

namespace Sys2Proof.Machine

set_option Elab.async false
namespace State

variable {P : Nat → Prop} {s t u : State} {ln k : Nat} {x : Slot} {code : Nat}

/-- A pass in which one index alone acts. -/
theorem forAll_single {n i : Nat} {f : Nat → State → State} (s : State) (hi : i < n) (hf : ∀ j u, j ≠ i → f j u = u) :
    s.forAll n f = f i s := by
  have hskip : ∀ (l : List Nat) (u : State), i ∉ l → l.foldl (fun t j => f j t) u = u := fun l => by
    induction l with
    | nil => exact fun _ _ => rfl
    | cons j l ih =>
      intro u hj
      simp only [List.mem_cons, not_or] at hj
      rw [List.foldl_cons, hf j u (Ne.symm hj.1), ih u hj.2]
  have hpass : ∀ (l : List Nat) (u : State), l.Nodup → i ∈ l → l.foldl (fun t j => f j t) u = f i u := fun l => by
    induction l with
    | nil => intro _ _ h; simp at h
    | cons j l ih =>
      intro u hnd hmem
      obtain ⟨hj, hl⟩ := List.nodup_cons.mp hnd
      by_cases hij : j = i
      · subst hij
        rw [List.foldl_cons, hskip l _ hj]
      · rw [List.foldl_cons, hf j u hij, ih u hl (by simpa [Ne.symm hij] using hmem)]
  exact hpass (List.range n) s List.nodup_range (List.mem_range.mpr hi)

theorem coreRuns_of_issuing (h : s.issuing ln = some (k, x)) : s.coreRuns = true := by
  unfold issuing at h
  split at h
  · split at h
    · rename_i hruns
      simp only [Bool.and_eq_true] at hruns
      exact hruns.1.1
    · cases h
  · cases h

/-! ### Accumulators -/

/-- A sum on its way to the next bundle's accumulation and to MOVACC, with its flags. -/
theorem accumulated_posts (s : State) (ln k bits : Nat) (fixed : Bool) (f : Flags) :
    let t := ((s.taskFlags k f).post ln 1 .accNext bits fixed false none).post ln 4 .acc bits fixed false none
    s.posts t ln 1 .accNext bits ∧ s.posts t ln 4 .acc bits ∧ s.LaneFrame t k := by
  have hcyc := cycle_taskFlags s k f
  refine ⟨(posts_post hcyc).post, posts_post ?_, (LaneFrame.taskFlags s k f).post.post⟩
  rw [post_cycle]
  exact hcyc

theorem mac_fixed {mode : Nat} {y : Int} (h : s.issuing ln = some (k, x)) (hm : x.mac = mode) (hv : x.void = false) (hfix : x.fixed = true)
    (hy : y = (match (generalizing := false) mode with
      | 1 => (s.lane ln).accNext.q47 + ratRoundEven (((qInt ((s.lane ln).get x.a) * qInt ((s.lane ln).get x.b) : Int) : Rat) / ((2 ^ 15 : Nat) : Rat))
      | 2 => ratRoundEven (((qInt ((s.lane ln).get x.a) * qInt ((s.lane ln).get x.b) : Int) : Rat) / ((2 ^ 15 : Nat) : Rat))
      | _ => (s.lane ln).accNext.q47 - ratRoundEven (((qInt ((s.lane ln).get x.a) * qInt ((s.lane ln).get x.b) : Int) : Rat) / ((2 ^ 15 : Nat) : Rat)))) :
    s.posts (s.mac ln mode) ln 1 .accNext (wrapTo 64 (satTo 64 y)) ∧ s.posts (s.mac ln mode) ln 4 .acc (wrapTo 64 (satTo 64 y)) ∧
      s.LaneFrame (s.mac ln mode) k ∧ (satTo 64 y ≠ y → (s.mac ln mode).on (F.MILL_TASKt_STAT_QSAT k) = true) := by
  have heq : s.mac ln mode = ((s.taskFlags k { qsat := satTo 64 y != y }).post ln 1 .accNext (wrapTo 64 (satTo 64 y)) true false none).post ln 4
      .acc (wrapTo 64 (satTo 64 y)) true false none := by
    unfold mac
    simp only [h, hm, hv, hfix, Bool.not_false, and_self, if_true, hy] <;> rfl
  rw [heq]
  obtain ⟨hnext, hacc, hframe⟩ := accumulated_posts s ln k (wrapTo 64 (satTo 64 y)) true { qsat := satTo 64 y != y }
  exact ⟨hnext, hacc, hframe, fun hsat => on_taskFlags_qsat s k _ (by simpa using hsat)⟩

theorem mac_single {mode : Nat} {y : Flt} (h : s.issuing ln = some (k, x)) (hm : x.mac = mode) (hv : x.void = false) (hfix : x.fixed = false)
    (hy : y = (match (generalizing := false) mode with
      | 1 => (s.lane ln).accNext.single.add ((ofSingle ((s.lane ln).get x.a)).mul (ofSingle ((s.lane ln).get x.b)))
      | 2 => (ofSingle ((s.lane ln).get x.a)).mul (ofSingle ((s.lane ln).get x.b))
      | _ => (s.lane ln).accNext.single.add ((ofSingle ((s.lane ln).get x.a)).mul (ofSingle ((s.lane ln).get x.b))).neg)) :
    s.posts (s.mac ln mode) ln 1 .accNext (roundSingle y).1.toNat ∧ s.posts (s.mac ln mode) ln 4 .acc (roundSingle y).1.toNat ∧
      s.LaneFrame (s.mac ln mode) k := by
  have heq : s.mac ln mode = ((s.taskFlags k (roundSingle y).2).post ln 1 .accNext (roundSingle y).1.toNat false false none).post ln 4
      .acc (roundSingle y).1.toNat false false none := by
    unfold mac
    simp only [h, hm, hv, hfix, Bool.not_false, and_self, if_true, Bool.false_eq_true, if_false, hy] <;> rfl
  rw [heq]
  exact accumulated_posts ..

/-! ### Corrections that a load meets -/

/-- A word with an error of one bit: corrected, counted, and the stall owed for it. -/
theorem correctWord_meets {n : Nat} (h : n ∈ s.mill.correctable) :
    (s.correctWord n).on F.MILL_STAT_ECC_CORR = true ∧
      (s.correctWord n).get F.MILL_STAT_CORR_CNT = min (s.get F.MILL_STAT_CORR_CNT + 1) 65535 ∧
      (s.correctWord n).mill.owed = s.mill.owed + 2 ∧ (s.correctWord n).mill.stall = s.mill.stall ∧
      ¬ n ∈ (s.correctWord n).mill.correctable := by
  unfold correctWord
  rw [if_pos (by simpa using h)]
  refine ⟨?_, ?_, rfl, rfl, fun hmem => ?_⟩
  · exact (on_put_other _ _ _ _ (by decide) (by decide)).trans (on_set1_same _ _ (by decide) (by decide))
  · rw [incS, get_put_same _ _ _ (by decide), set1, get_put_other _ _ _ _ (by decide) (by decide)]
    show satInc 16 (s.get F.MILL_STAT_CORR_CNT) % 2 ^ 16 = _
    unfold satInc
    omega
  · have hleft : n ∈ s.mill.correctable.filter (· != n) := hmem
    simp at hleft

theorem bump_regs (s : State) (ln n : Nat) (x : Slot) : (s.bump ln x n).regs = s.regs := by unfold bump; split <;> rfl

theorem bump_counts (s : State) (ln n : Nat) (x : Slot) :
    (s.bump ln x n).mill.owed = s.mill.owed ∧ (s.bump ln x n).mill.stall = s.mill.stall ∧
      (s.bump ln x n).mill.correctable = s.mill.correctable ∧ (s.bump ln x n).mill.stores = s.mill.stores := by
  unfold bump; split <;> exact ⟨rfl, rfl, rfl, rfl⟩

/-- What a load reads, by its address, before the word comes. -/
def afterRead (s : State) (k a : Nat) : State :=
  if a < 0x2000 then s.correctWord (dmemWord a) else if a < 0x2800 then s.readCoef k (a - 0x2000) else s

theorem laneLoad_eq (h : s.issuing ln = some (k, x)) (hls : x.ls = 1) (hv : x.void = false) :
    s.laneLoad ln = ((s.afterRead k ((s.lane ln).ptr x.ar)).post ln 3 (.reg x.l) (s.loadWord k ((s.lane ln).ptr x.ar)).toNat false true
      none).bump ln x 1 := by
  unfold laneLoad
  simp only [h, hls, hv, Bool.not_false, and_self, if_true]
  rfl

theorem afterRead_frame (s : State) (k a : Nat) :
    s.ReadFrame (s.afterRead k a) k ∧ (s.afterRead k a).mill.cycle = s.mill.cycle ∧
      (s.afterRead k a).rd (R.MILL_TASKt_STAT k) = s.rd (R.MILL_TASKt_STAT k) := by
  have hone : ∀ n, s.ReadFrame (s.correctWord n) k ∧ (s.correctWord n).mill.cycle = s.mill.cycle ∧
      (s.correctWord n).rd (R.MILL_TASKt_STAT k) = s.rd (R.MILL_TASKt_STAT k) := fun n =>
    ⟨(ReadFrame.refl s k).correctWord id, cycle_correctWord s n,
      Writes.correctWord (.refl s) (P := (· = R.MILL_STAT)) rfl _ (millStat_ne_taskStat k).symm⟩
  unfold afterRead
  split
  · exact hone _
  · split
    · exact hone _
    · exact ⟨.refl s k, rfl, rfl⟩

theorem laneLoad_gives (h : s.issuing ln = some (k, x)) (hls : x.ls = 1) (hv : x.void = false) :
    let t := s.laneLoad ln
    let ptr := (s.lane ln).ptr x.ar
    s.posts t ln 3 (.reg x.l) (s.loadWord k ptr).toNat ∧ (x.pi = true → s.posts t ln 1 (.addr x.ar) ((ptr + 1) % 65536)) ∧
      s.ReadFrame t k ∧ t.rd (R.MILL_TASKt_STAT k) = s.rd (R.MILL_TASKt_STAT k) ∧
      (ptr < 0x2000 → dmemWord ptr ∈ s.mill.correctable →
        t.on F.MILL_STAT_ECC_CORR = true ∧ t.get F.MILL_STAT_CORR_CNT = min (s.get F.MILL_STAT_CORR_CNT + 1) 65535 ∧
        t.mill.owed = s.mill.owed + 2 ∧ t.mill.stall = s.mill.stall ∧ ¬ dmemWord ptr ∈ t.mill.correctable) := by
  intro t ptr
  obtain ⟨hframe, hcyc, hstat⟩ := afterRead_frame s k ptr
  have hmeets : ptr < 0x2000 → s.afterRead k ptr = s.correctWord (dmemWord ptr) := fun hd => if_pos hd
  have ht : t = ((s.afterRead k ptr).post ln 3 (.reg x.l) (s.loadWord k ptr).toNat false true none).bump ln x 1 := laneLoad_eq h hls hv
  generalize s.afterRead k ptr = u at *
  have hregs : t.regs = u.regs := by rw [ht, bump_regs]; rfl
  obtain ⟨howed, hstall, hcorr, -⟩ := bump_counts (u.post ln 3 (.reg x.l) (s.loadWord k ptr).toNat false true none) ln 1 x
  rw [← ht] at howed hstall hcorr
  refine ⟨?_, fun hpi => ?_, ?_, (rd_congr hregs _).trans hstat, fun hd hmem => ?_⟩
  · rw [ht]
    exact (posts_post hcyc).bump
  · rw [ht]
    exact posts_bump (t := u.post ..) hcyc (hframe.addr ln) hpi 1
  · rw [ht]
    exact hframe.post.bump
  · rw [howed, hstall, hcorr, on_congr hregs, get_congr hregs, hmeets hd]
    exact correctWord_meets hmem

theorem laneStore_eq (h : s.issuing ln = some (k, x)) (hls : x.ls = 2) (hv : x.void = false) :
    s.laneStore ln = (if s.mayStore k ((s.lane ln).ptr x.ar) then
      s.modMill (fun m => { m with stores := m.stores ++ [⟨ln, (s.lane ln).ptr x.ar, (s.lane ln).get x.l⟩] })
      else s.taskFlags k illegal).bump ln x 1 := by
  unfold laneStore
  simp only [h, hls, hv, Bool.not_false, and_self, if_true]

/-! ### The task -/

theorem task_modTask_same (s : State) {k : Nat} (f : TaskSt → TaskSt) (hk : k < s.tasks.length) : (s.modTask k f).task k = f (s.task k) :=
  nth_upd_same _ _ _ _ hk

theorem taskEnd_gives (s : State) (k : Nat) (hk : k < s.tasks.length) :
    (s.taskEnd k).mill.ending = some k ∧ ((s.taskEnd k).task k).ended = true ∧ (s.taskEnd k).on (F.MILL_TASKt_STAT_ACTIVE k) = false ∧
      s.LaneFrame (s.taskEnd k) k := by
  refine ⟨rfl, ?_, on_clr_same _ _ (by simp), .of ?_ ?_⟩
  · exact congrArg TaskSt.ended (task_modTask_same (s.modMill _) _ hk)
  · exact ⟨fun _ => rfl, fun _ => rfl, fun _ => rfl, fun _ => rfl, rfl, ⟨rfl, rfl⟩, rfl, rfl, rfl, rfl, rfl, rfl⟩
  · exact .clr (f := F.MILL_TASKt_STAT_ACTIVE k) (.of_regs rfl) rfl

theorem requestSwap_one (s : State) (k : Nat) (hk : k < 8) :
    s.requestSwap (2 ^ k) = s.modTask k (fun x => { x with swap := x.swap ++ [s.count] }) := by
  unfold requestSwap
  rw [forAll_single s hk fun j u hj => by simp [Ne.symm hj]]
  simp

theorem raise_laneFrame (s : State) (k n : Nat) : s.LaneFrame (s.raise n) k := .of (.of_moves (.raise (.refl s))) (.raise (.refl s))

end State

open State in
/-- Settles O35: sums saturate and are posted twice, a load corrects the word that it meets, a store waits, and the operations on the task
change it alone. -/
theorem millAccumulatorMemoryAndTask : Obligations.MillAccumulatorMemoryAndTask := by
  unfold Obligations.MillAccumulatorMemoryAndTask
  intro s ln k x h hv hk hshape
  have hlen : k < s.tasks.length := hshape.tasks ▸ hk
  refine ⟨fun hm hfix => ⟨_, rfl, mac_fixed h hm hv hfix rfl⟩, fun hm hfix => ⟨_, rfl, mac_fixed h hm hv hfix rfl⟩,
    fun hm hfix => ⟨_, rfl, mac_fixed h hm hv hfix rfl⟩,
    fun hfix => ⟨fun hm => ⟨_, rfl, mac_single h hm hv hfix rfl⟩, fun hm => ⟨_, rfl, mac_single h hm hv hfix rfl⟩,
      fun hm => ⟨_, rfl, mac_single h hm hv hfix rfl⟩⟩,
    fun hls => ⟨_, rfl, ?_⟩, fun hls hmay => ⟨_, rfl, ?_⟩, fun hls hmay => ⟨_, rfl, ?_⟩,
    fun hop => ⟨_, rfl, ?_⟩, fun hop => ⟨_, rfl, ?_⟩, fun hop => ⟨_, rfl, ?_⟩, fun hop => ⟨_, rfl, ?_⟩⟩
  · exact laneLoad_gives h hls hv
  · rw [laneStore_eq h hls hv, if_pos hmay]
    exact ⟨(bump_counts ..).2.2.2, fun hpi => posts_bump rfl rfl hpi 1,
      LaneFrame.bump ⟨(LaneKept.refl s).modMill, fun _ _ => rfl⟩, bump_regs ..⟩
  · rw [laneStore_eq h hls hv, if_neg (by simp [hmay])]
    refine ⟨(bump_counts ..).2.2.2.trans (congrArg Mill.stores (mill_taskFlags ..)), ?_, (LaneFrame.taskFlags ..).bump⟩
    rw [on_congr (bump_regs ..)]
    exact on_taskFlags_ill s k illegal rfl
  · rw [alu_of_op h hop]
    exact taskEnd_gives s k hlen
  · rw [alu_of_op h hop]
    exact ⟨raise_arrives s 0x5E (coreRuns_of_issuing h), raise_laneFrame s k _, raise_regs s _⟩
  · rw [alu_of_op h hop, requestSwap_one s k hk]
    exact ⟨congrArg TaskSt.swap (task_modTask_same s _ hlen),
      .of (.of_moves (.modTask (.refl s))) (.of_regs rfl), rfl⟩
  · simp only [h, hop, if_true]
    exact ⟨on_taskFlags_ill s k illegal rfl, mill_taskFlags .., LaneFrame.taskFlags ..⟩

end Sys2Proof.Machine

/-! Events on their way, and when the CORE domain runs. -/

namespace Sys2Proof.Machine

set_option Elab.async false
namespace State

variable {s t u : State} {src : Nat}

/-! ### Flags of one bit beside others -/

theorem get_set1_other (s : State) (f g : Fld) (h : f.lo + f.width ≤ 32)
    (hd : g.addr ≠ f.addr ∨ g.lo + g.width ≤ f.lo ∨ f.lo + f.width ≤ g.lo) : (s.set1 f).get g = s.get g := get_put_other s f g 1 h hd

theorem get_clr_other (s : State) (f g : Fld) (h : f.lo + f.width ≤ 32)
    (hd : g.addr ≠ f.addr ∨ g.lo + g.width ≤ f.lo ∨ f.lo + f.width ≤ g.lo) : (s.clr f).get g = s.get g := get_put_other s f g 0 h hd

theorem on_set1_other (s : State) (f g : Fld) (h : f.lo + f.width ≤ 32)
    (hd : g.addr ≠ f.addr ∨ g.lo + g.width ≤ f.lo ∨ f.lo + f.width ≤ g.lo) : (s.set1 f).on g = s.on g := on_put_other s f g 1 h hd

theorem on_clr_other (s : State) (f g : Fld) (h : f.lo + f.width ≤ 32)
    (hd : g.addr ≠ f.addr ∨ g.lo + g.width ≤ f.lo ∨ f.lo + f.width ≤ g.lo) : (s.clr f).on g = s.on g := on_put_other s f g 0 h hd

/-! ### Modes and events -/

theorem mode_of_rd (h : t.rd R.SYS_MODE = s.rd R.SYS_MODE) : t.mode = s.mode := by
  simp only [mode, get, h]

theorem coreRuns_of_rd (hs : t.sys = s.sys) (hm : t.rd R.SYS_MODE = s.rd R.SYS_MODE) : t.coreRuns = s.coreRuns := by
  simp only [coreRuns, hs, mode_of_rd hm]

theorem coreRuns_of_writes {P : Nat → Prop} (h : s.Writes P t) (hs : t.sys = s.sys) (hP : ¬ P R.SYS_MODE) : t.coreRuns = s.coreRuns :=
  coreRuns_of_rd hs (h _ hP)

/-- An event that is raised in a state of the same time is on its way. -/
theorem sent_raise (hruns : t.coreRuns = true) (hclk : t.clk = s.clk) (src : Nat) : s.sent (t.raise src) src := by
  obtain ⟨e, he, hsrc, hcount⟩ := raise_arrives t src hruns
  exact ⟨e, he, hsrc, hcount.trans (congrArg Clk.count hclk)⟩

theorem sent.of_events (h : s.sent t src) (he : u.events = t.events) : s.sent u src := by
  unfold sent at *
  rw [he]
  exact h

theorem sent.keeps (h : s.sent t src) (hk : ∀ e ∈ t.events, e ∈ u.events) : s.sent u src := by
  obtain ⟨e, he, hrest⟩ := h
  exact ⟨e, hk e he, hrest⟩

theorem sent.raise (h : s.sent t src) (n : Nat) : s.sent (t.raise n) src := h.keeps (fun e he => raise_keeps t n e he)

end State
end Sys2Proof.Machine

/-! Shaft feedback: what a count, a trip and a latch of the cycle change, and what each event of an interface leads to. -/

namespace Sys2Proof.Machine

set_option Elab.async false

/-- A filtered line changes, QB when `qb`, else QA. -/
def EncSt.flip (e : EncSt) (qb : Bool) (now : Option Nat) : EncSt :=
  if qb then { e with qb := !e.qb, qbAt := now } else { e with qa := !e.qa, qaAt := now }

/-- Both filtered lines change. -/
def EncSt.flipBoth (e : EncSt) (now : Option Nat) : EncSt := { e with qa := !e.qa, qb := !e.qb, qaAt := now, qbAt := now }

namespace State

variable {A : List Part} {P : Nat → Prop} {s t u : State} {n : Nat}

/-! ### An interface -/

theorem enc_modEnc_same (s : State) (f : EncSt → EncSt) (hn : n < s.shf.encs.length) : (s.modEnc n f).enc n = f (s.enc n) :=
  nth_upd_same _ _ _ _ hn

theorem length_modEnc (s : State) (n : Nat) (f : EncSt → EncSt) : (s.modEnc n f).shf.encs.length = s.shf.encs.length := by
  simp [modEnc, modShf, upd]

theorem Moves.modEnc (h : Moves A s t) {f : EncSt → EncSt} (hG : [.shf] ⊆ A := by decide) : Moves A s (t.modEnc n f) :=
  h.andThen hG fun h => h.record

theorem Writes.modEnc (h : s.Writes P t) {f : EncSt → EncSt} : s.Writes P (t.modEnc n f) := h.regs rfl

/-! ### Numbers in their fields -/

theorem two_pow_ssiPosBits_pos (s : State) (n : Nat) : 0 < 2 ^ s.ssiPosBits n := Nat.two_pow_pos _

theorem get_lt (s : State) (f : Fld) : s.get f < 2 ^ f.width := getBits_lt ..

/-- In quadrature CPR fits the register of POS. -/
theorem encCpr_le (hq : s.get (F.SHF_ENCn_CFG_MODE n) ≠ 2) : 0 < s.encCpr n ∧ s.encCpr n ≤ 2 ^ 24 := by
  have hcpr : s.get (F.SHF_ENCn_CPR_VAL n) < 2 ^ 24 := get_lt s (F.SHF_ENCn_CPR_VAL n)
  unfold encCpr
  rw [if_neg hq]
  omega

theorem mode_of_encRuns {m : Nat} (h : s.encRuns n m = true) : s.get (F.SHF_ENCn_CFG_MODE n) = m ∧ s.coreRuns = true := by
  simp only [encRuns, Bool.and_eq_true, beq_iff_eq] at h
  exact ⟨h.2, h.1.2⟩

theorem encCpr_of_regs (h : t.regs = s.regs) (n : Nat) : t.encCpr n = s.encCpr n := by
  unfold encCpr ssiPosBits ssiBits
  simp only [get_congr h]

/-! ### Counting -/

theorem movePos_pos (s : State) (d : Int) (hcpr : 0 < s.encCpr n) (hfit : s.encCpr n ≤ 2 ^ 24) :
    (s.movePos n d).get (F.SHF_ENCn_POS_POS n) = (((s.get (F.SHF_ENCn_POS_POS n) : Int) + d) % s.encCpr n).toNat := by
  have hput : ∀ k : Nat, k < s.encCpr n → (s.put (F.SHF_ENCn_POS_POS n) k).get (F.SHF_ENCn_POS_POS n) = k := fun k hk => by
    rw [get_put_same _ _ _ (by simp)]
    exact Nat.mod_eq_of_lt (lt_of_lt_of_le hk hfit)
  have hlt : (((s.get (F.SHF_ENCn_POS_POS n) : Int) + d) % s.encCpr n).toNat < s.encCpr n := by
    have := Int.emod_lt_of_pos ((s.get (F.SHF_ENCn_POS_POS n) : Int) + d) (b := s.encCpr n) (by exact_mod_cast hcpr)
    omega
  unfold movePos
  dsimp only
  split
  · exact hput _ hlt
  · split
    · exact hput _ hlt
    · exact hput _ hlt

theorem movePos_writes (s : State) (n : Nat) (d : Int) : s.Writes (· = R.SHF_ENCn_POS n) (s.movePos n d) := by
  have hput : s.Writes (· = R.SHF_ENCn_POS n) (s.put (F.SHF_ENCn_POS_POS n) ((((s.get (F.SHF_ENCn_POS_POS n) : Int) + d) % s.encCpr n).toNat)) :=
    .put (.refl s) rfl
  unfold movePos
  exact .ite (hput.regs rfl) (.ite (hput.regs rfl) hput)

theorem Moves.movePos (h : Moves A s t) {d : Int} (hG : [.regs, .cycle, .shf] ⊆ A := by decide) : Moves A s (t.movePos n d) := by
  refine h.andThen hG fun h => ?_
  unfold State.movePos
  exact .ite (.modEnc (.put h)) (.ite (.modEnc (.put h)) (.put h))

/-- The turns that a count has completed, and the rest of the interface as it was. -/
theorem enc_movePos (s : State) (d : Int) (hn : n < s.shf.encs.length) :
    (s.movePos n d).enc n = { s.enc n with
      turns := if (s.encCpr n : Int) ≤ (s.get (F.SHF_ENCn_POS_POS n) : Int) + d then (s.enc n).turns + 1
        else if (s.get (F.SHF_ENCn_POS_POS n) : Int) + d < 0 then (s.enc n).turns - 1 else (s.enc n).turns } := by
  unfold movePos
  dsimp only
  split
  · exact enc_modEnc_same (s.put ..) _ hn
  · split
    · exact enc_modEnc_same (s.put ..) _ hn
    · rfl

theorem length_movePos (s : State) (n : Nat) (d : Int) : (s.movePos n d).shf.encs.length = s.shf.encs.length := by
  unfold movePos
  dsimp only
  split
  · exact length_modEnc ..
  · split
    · exact length_modEnc ..
    · rfl

theorem encTrip_writes (s : State) (n : Nat) : s.Writes (· = R.SHF_ENCn_STAT n) (s.encTrip n) :=
  Writes.raise (P := (· = R.SHF_ENCn_STAT n)) (.set1 (f := F.SHF_ENCn_STAT_TRIP n) (.refl s) rfl)

theorem Moves.encTrip (h : Moves A s t) (hG : [.regs, .cycle, .events, .stew] ⊆ A := by decide) : Moves A s (t.encTrip n) := by
  refine h.andThen hG fun h => ?_
  unfold State.encTrip
  exact .raise (.put h)

theorem encTrip_on (s : State) (n : Nat) : (s.encTrip n).on (F.SHF_ENCn_STAT_TRIP n) = true := by
  unfold encTrip
  rw [on_raise, on_set1_same _ _ (by simp) (by simp)]

theorem sent_encTrip (hruns : t.coreRuns = true) (hclk : t.clk = s.clk) (n : Nat) : s.sent (t.encTrip n) (0xB6 + n) := by
  unfold encTrip
  refine sent_raise ((coreRuns_of_rd (set1_sys ..) (rd_put_other _ _ _ _ ?_)).trans hruns) hclk _
  simp only [R.SYS_MODE, R.SHF_ENCn_STAT]
  omega

/-! ### Transitions of the lines (R252 to R254) -/

theorem encStep_waits (n : Nat) (qb : Bool) (h : s.lineMay n 1 (if qb then (s.enc n).qbAt else (s.enc n).qaAt) = false) :
    s.encStep n qb = s := by
  unfold encStep
  simp [h]

theorem encJudged_of_stopped (n : Nat) (h : s.coreRuns = false) : s.encJudged n = true := by simp [encJudged, h]

theorem count_movePos (s : State) (n : Nat) (d : Int) : (s.movePos n d).count = s.count := by
  have h : Moves [.regs, .cycle, .shf] s (s.movePos n d) := .movePos (.refl s)
  rw [count, h.clk, count]

/-- A filtered transition that counts: the line, POS with TURNS, the net count and the time of the edge, and standstill ends. -/
theorem encStep_eq {qb : Bool} (hn : n < s.shf.encs.length) (hruns : s.encRuns n 1 = true) (hjudged : s.encJudged n = false)
    (hmay : s.lineMay n 1 (if qb then (s.enc n).qbAt else (s.enc n).qaAt) = true)
    (hother : (if qb then (s.enc n).qaAt else (s.enc n).qbAt) ≠ some s.count) {d : Int}
    (hd : d = if (if qb then (s.enc n).qa != (s.enc n).qb else (s.enc n).qa == (s.enc n).qb) != s.on (F.SHF_ENCn_CFG_DIR n) then (1 : Int)
          else -1) :
    s.encStep n qb = (((s.modEnc n (·.flip qb (some s.count))).movePos n d).modEnc n
      (fun e => { e with net := e.net + d, te := some s.count })).clr (F.SHF_ENCn_STAT_STILL n) := by
  let t := s.modEnc n (·.flip qb (some s.count))
  have ht : t.enc n = (s.enc n).flip qb (some s.count) := enc_modEnc_same s _ hn
  have hsign : (if (if qb then (t.enc n).qb == (t.enc n).qa else (t.enc n).qa != (t.enc n).qb) != t.on (F.SHF_ENCn_CFG_DIR n)
      then (1 : Int) else -1) = d := by
    rw [hd, ht, show t.on (F.SHF_ENCn_CFG_DIR n) = s.on (F.SHF_ENCn_CFG_DIR n) from rfl]
    cases qb <;> cases hqa : (s.enc n).qa <;> cases hqb : (s.enc n).qb <;> simp [EncSt.flip, hqa, hqb]
  have hgo : ¬ (s.encJudged n || !(s.lineMay n 1 (if qb then (s.enc n).qbAt else (s.enc n).qaAt)) ||
      (if qb then (s.enc n).qaAt else (s.enc n).qbAt) == some s.count) = true := by
    simp only [hjudged, hmay, Bool.not_true, Bool.or_self, Bool.false_or, beq_iff_eq]
    exact hother
  unfold encStep
  dsimp only
  rw [if_neg hgo]
  show (if t.encRuns n 1 = true then _ else t) = _
  have hrun : t.encRuns n 1 = true := hruns
  rw [if_pos hrun]
  show ((t.movePos n (if (if qb then (t.enc n).qb == (t.enc n).qa else (t.enc n).qa != (t.enc n).qb) != t.on (F.SHF_ENCn_CFG_DIR n)
      then (1 : Int) else -1)).modEnc n fun e => { e with
        net := e.net + (if (if qb then (t.enc n).qb == (t.enc n).qa else (t.enc n).qa != (t.enc n).qb) != t.on (F.SHF_ENCn_CFG_DIR n)
          then (1 : Int) else -1)
        te := some (t.movePos n (if (if qb then (t.enc n).qb == (t.enc n).qa else (t.enc n).qa != (t.enc n).qb) !=
          t.on (F.SHF_ENCn_CFG_DIR n) then (1 : Int) else -1)).count }).clr _ = _
  rw [hsign, count_movePos]
  rfl

/-- What a counted transition leaves in the interface. -/
theorem enc_counted (s : State) (qb : Bool) (d : Int) (hn : n < s.shf.encs.length) :
    ((((s.modEnc n (·.flip qb (some s.count))).movePos n d).modEnc n
      (fun e => { e with net := e.net + d, te := some s.count })).clr (F.SHF_ENCn_STAT_STILL n)).enc n =
    { (s.enc n).flip qb (some s.count) with
      turns := if (s.encCpr n : Int) ≤ (s.get (F.SHF_ENCn_POS_POS n) : Int) + d then ((s.enc n).flip qb (some s.count)).turns + 1
        else if (s.get (F.SHF_ENCn_POS_POS n) : Int) + d < 0 then ((s.enc n).flip qb (some s.count)).turns - 1
        else ((s.enc n).flip qb (some s.count)).turns
      net := ((s.enc n).flip qb (some s.count)).net + d, te := some s.count } := by
  have hlen : n < (s.modEnc n (·.flip qb (some s.count))).shf.encs.length := (length_modEnc s n _).symm ▸ hn
  have hlen' : n < ((s.modEnc n (·.flip qb (some s.count))).movePos n d).shf.encs.length := (length_movePos _ n d).symm ▸ hlen
  show (((s.modEnc n (·.flip qb (some s.count))).movePos n d).modEnc n _).enc n = _
  rw [enc_modEnc_same _ _ hlen', enc_movePos _ d hlen, enc_modEnc_same s _ hn]
  rfl

/-! ### The index (R255) -/

/-- An index that is judged: it comes with its event, and leads to what follows in `f`. -/
theorem encIndex_eq (hruns : s.encRuns n 1 = true) (hlatch : (s.enc n).latchAt ≠ some s.count) (hmay : s.lineMay n 2 (s.enc n).qiAt = true)
    (hgate : s.on (F.SHF_ENCn_CFG_IDXGATE n) = false ∨ ((s.enc n).qa = true ∧ (s.enc n).qb = true)) :
    let t := (s.modEnc n (fun e => { e with qiAt := some s.count })).raise (0xB0 + n)
    let p := t.get (F.SHF_ENCn_POS_POS n)
    let d := wayTo (t.encCpr n) p (t.idxPos n)
    let erred := (((t.put (F.SHF_ENCn_IDXCAP_POS n) p).set1 (F.SHF_ENCn_STAT_IDXERR n)).incS (F.SHF_ENCn_CNT_IDXERRCNT n)).raise (0xB4 + n)
    s.encIndex n =
      if !t.on (F.SHF_ENCn_STAT_HOMED n) then (t.put (F.SHF_ENCn_POS_POS n) (t.idxPos n)).set1 (F.SHF_ENCn_STAT_HOMED n)
      else if d.natAbs ≤ t.get (F.SHF_ENCn_IDX_TOL n) then t
      else if erred.get (F.SHF_ENCn_CFG_POLICY n) = 0 then erred
      else if erred.get (F.SHF_ENCn_CFG_POLICY n) = 1 then erred.movePos n d
      else erred.encTrip n := by
  intro t p d erred
  have hlines : ((s.modEnc n (fun e => { e with qiAt := some s.count })).enc n).qa = (s.enc n).qa ∧
      ((s.modEnc n (fun e => { e with qiAt := some s.count })).enc n).qb = (s.enc n).qb := by
    rcases nth_upd_eq s.shf.encs n n (fun e => { e with qiAt := some s.count }) {} with h | ⟨-, h⟩
    · exact ⟨(congrArg EncSt.qa h :), (congrArg EncSt.qb h :)⟩
    · exact ⟨(congrArg EncSt.qa h :), (congrArg EncSt.qb h :)⟩
  have hskip : ¬ (!s.coreRuns || (s.enc n).latchAt == some s.count || !(s.lineMay n 2 (s.enc n).qiAt)) = true := by
    simp [(mode_of_encRuns hruns).2, hmay, hlatch]
  have hjudge : ((s.modEnc n (fun e => { e with qiAt := some s.count })).encRuns n 1 &&
      (!(s.modEnc n (fun e => { e with qiAt := some s.count })).on (F.SHF_ENCn_CFG_IDXGATE n) ||
        (((s.modEnc n (fun e => { e with qiAt := some s.count })).enc n).qa &&
          ((s.modEnc n (fun e => { e with qiAt := some s.count })).enc n).qb))) = true := by
    rw [hlines.1, hlines.2]
    refine Bool.and_eq_true_iff.mpr ⟨hruns, ?_⟩
    rcases hgate with hg | ⟨ha, hb⟩
    · exact Bool.or_eq_true_iff.mpr (.inl (congrArg not hg))
    · exact Bool.or_eq_true_iff.mpr (.inr (by rw [ha, hb]; rfl))
  unfold encIndex
  rw [if_neg hskip]
  dsimp only
  rw [if_pos hjudge]
  split
  · rfl
  · split
    · rfl
    · split
      · next hpol => exact (if_pos hpol).symm
      · next hpol => exact ((if_neg (by rw [hpol]; decide)).trans (if_pos hpol)).symm
      · next h0 h1 => exact ((if_neg h0).trans (if_neg h1)).symm

end State
end Sys2Proof.Machine

/-! Shaft feedback: the index and its errors, SSI frames, the deposit, standstill and the emulation (R255 to R262). -/

namespace Sys2Proof.Machine

set_option Elab.async false
namespace State

variable {A : List Part} {P : Nat → Prop} {s t u : State} {n : Nat}

/-! ### Indexes -/

/-- The index line has risen, and its event is on its way. -/
def indexSeen (s : State) (n : Nat) : State := (s.modEnc n (fun e => { e with qiAt := some s.count })).raise (0xB0 + n)

/-- An index error is captured, shown and counted. -/
def indexErred (s : State) (n : Nat) : State :=
  (((s.put (F.SHF_ENCn_IDXCAP_POS n) (s.get (F.SHF_ENCn_POS_POS n))).set1 (F.SHF_ENCn_STAT_IDXERR n)).incS (F.SHF_ENCn_CNT_IDXERRCNT n)).raise
    (0xB4 + n)

theorem indexSeen_moves (s : State) (n : Nat) : Moves [.events, .stew, .shf] s (s.indexSeen n) := .raise (.modEnc (.refl s))

theorem indexErred_moves (s : State) (n : Nat) : Moves [.regs, .cycle, .events, .stew] s (s.indexErred n) :=
  .raise (.incS (.put (.put (.refl s))))

theorem sent_indexSeen (hruns : s.coreRuns = true) (n : Nat) : s.sent (s.indexSeen n) (0xB0 + n) :=
  sent_raise (t := s.modEnc n _) hruns rfl _

theorem indexErred_writes (s : State) (n : Nat) :
    s.Writes (fun b => b = R.SHF_ENCn_IDXCAP n ∨ b = R.SHF_ENCn_STAT n ∨ b = R.SHF_ENCn_CNT n) (s.indexErred n) :=
  .raise (.incS (.set1 (.put (.refl s) (.inl rfl)) (.inr (.inl rfl))) (.inr (.inr rfl)))

/-- What an index error shows: the position at the index, the flag and the event, while POS stands. -/
theorem indexErred_shows (s : State) (n : Nat) (hruns : s.coreRuns = true) :
    (s.indexErred n).get (F.SHF_ENCn_POS_POS n) = s.get (F.SHF_ENCn_POS_POS n) ∧
      (s.indexErred n).get (F.SHF_ENCn_IDXCAP_POS n) = s.get (F.SHF_ENCn_POS_POS n) ∧
      (s.indexErred n).on (F.SHF_ENCn_STAT_IDXERR n) = true ∧
      (s.indexErred n).on (F.SHF_ENCn_STAT_TRIP n) = s.on (F.SHF_ENCn_STAT_TRIP n) ∧ s.sent (s.indexErred n) (0xB4 + n) ∧
      (s.indexErred n).coreRuns = true := by
  have hrun : (s.indexErred n).coreRuns = true :=
    (coreRuns_of_rd (indexErred_moves s n).sys (indexErred_writes s n _ (by simp only [R.SYS_MODE, R.SHF_ENCn_IDXCAP, R.SHF_ENCn_STAT, R.SHF_ENCn_CNT]; omega))).trans hruns
  have hbefore : ((((s.put (F.SHF_ENCn_IDXCAP_POS n) (s.get (F.SHF_ENCn_POS_POS n))).set1 (F.SHF_ENCn_STAT_IDXERR n)).incS
      (F.SHF_ENCn_CNT_IDXERRCNT n))).coreRuns = true := by
    refine (coreRuns_of_rd ?_ ?_).trans hrun
    · simp [indexErred]
    · simp [indexErred]
  refine ⟨(indexErred_writes s n).get ?_, ?_, ?_, ?_, sent_raise hbefore rfl _, hrun⟩
  · simp only [R.SHF_ENCn_POS, R.SHF_ENCn_IDXCAP, R.SHF_ENCn_STAT, R.SHF_ENCn_CNT]
    omega
  · have hpos : s.get (F.SHF_ENCn_POS_POS n) < 2 ^ 24 := get_lt s (F.SHF_ENCn_POS_POS n)
    unfold indexErred incS set1
    rw [get_raise, get_put_other _ _ _ _ (by simp) (.inl (by simp only [R.SHF_ENCn_IDXCAP, R.SHF_ENCn_CNT]; omega)),
      get_put_other _ _ _ _ (by simp) (.inl (by simp only [R.SHF_ENCn_IDXCAP, R.SHF_ENCn_STAT]; omega)), get_put_same _ _ _ (by simp)]
    exact Nat.mod_eq_of_lt hpos
  · unfold indexErred incS
    rw [on_raise, on_put_other _ _ _ _ (by simp) (.inl (by simp only [R.SHF_ENCn_STAT, R.SHF_ENCn_CNT]; omega)),
      on_set1_same _ _ (by simp) (by simp)]
  · unfold indexErred incS set1
    rw [on_raise, on_put_other _ _ _ _ (by simp) (.inl (by simp only [R.SHF_ENCn_STAT, R.SHF_ENCn_CNT]; omega)),
      on_put_other _ _ _ _ (by simp) (.inr (by simp)), on_put_other _ _ _ _ (by simp) (.inl (by simp only [R.SHF_ENCn_STAT, R.SHF_ENCn_IDXCAP]; omega))]

/-- An index that is judged, by what it finds (R255). -/
theorem encIndex_cases (hruns : s.encRuns n 1 = true) (hlatch : (s.enc n).latchAt ≠ some s.count) (hmay : s.lineMay n 2 (s.enc n).qiAt = true)
    (hgate : s.on (F.SHF_ENCn_CFG_IDXGATE n) = false ∨ ((s.enc n).qa = true ∧ (s.enc n).qb = true)) :
    let d := wayTo (s.encCpr n) (s.get (F.SHF_ENCn_POS_POS n)) (s.idxPos n)
    s.encIndex n =
      if s.on (F.SHF_ENCn_STAT_HOMED n) = false then
        ((s.indexSeen n).put (F.SHF_ENCn_POS_POS n) (s.idxPos n)).set1 (F.SHF_ENCn_STAT_HOMED n)
      else if d.natAbs ≤ s.get (F.SHF_ENCn_IDX_TOL n) then s.indexSeen n
      else if s.get (F.SHF_ENCn_CFG_POLICY n) = 0 then (s.indexSeen n).indexErred n
      else if s.get (F.SHF_ENCn_CFG_POLICY n) = 1 then ((s.indexSeen n).indexErred n).movePos n d
      else ((s.indexSeen n).indexErred n).encTrip n := by
  have hregs : (s.indexSeen n).regs = s.regs := (indexSeen_moves s n).regs
  have hpol : ((s.indexSeen n).indexErred n).get (F.SHF_ENCn_CFG_POLICY n) = s.get (F.SHF_ENCn_CFG_POLICY n) := by
    rw [(indexErred_writes (s.indexSeen n) n).get, get_congr hregs]
    simp only [R.SHF_ENCn_CFG, R.SHF_ENCn_IDXCAP, R.SHF_ENCn_STAT, R.SHF_ENCn_CNT]
    omega
  have hidx : (s.indexSeen n).idxPos n = s.idxPos n := by unfold idxPos; rw [get_congr hregs, encCpr_of_regs hregs]
  have h := encIndex_eq hruns hlatch hmay hgate
  change s.encIndex n = if !(s.indexSeen n).on (F.SHF_ENCn_STAT_HOMED n) then
      ((s.indexSeen n).put (F.SHF_ENCn_POS_POS n) ((s.indexSeen n).idxPos n)).set1 (F.SHF_ENCn_STAT_HOMED n)
    else if (wayTo ((s.indexSeen n).encCpr n) ((s.indexSeen n).get (F.SHF_ENCn_POS_POS n)) ((s.indexSeen n).idxPos n)).natAbs ≤
      (s.indexSeen n).get (F.SHF_ENCn_IDX_TOL n) then s.indexSeen n
    else if ((s.indexSeen n).indexErred n).get (F.SHF_ENCn_CFG_POLICY n) = 0 then (s.indexSeen n).indexErred n
    else if ((s.indexSeen n).indexErred n).get (F.SHF_ENCn_CFG_POLICY n) = 1 then ((s.indexSeen n).indexErred n).movePos n
      (wayTo ((s.indexSeen n).encCpr n) ((s.indexSeen n).get (F.SHF_ENCn_POS_POS n)) ((s.indexSeen n).idxPos n))
    else ((s.indexSeen n).indexErred n).encTrip n at h
  simpa only [hpol, hidx, on_congr hregs, get_congr hregs, encCpr_of_regs hregs, Bool.not_eq_true'] using h

/-! ### SSI frames (R257) -/

theorem encRelatch_writes (s : State) (n : Nat) :
    s.Writes (fun b => (s.enc n).latchAt = some s.count ∧ b = R.SHF_ENCn_Li n 3) (s.encRelatch n) := by
  unfold encRelatch
  split
  · next h => exact .regs (.wr (.refl s) ⟨by simpa using h, rfl⟩) rfl
  · exact .refl s

theorem Moves.encRelatch (h : Moves A s t) (hG : [.regs, .shf] ⊆ A := by decide) : Moves A s (t.encRelatch n) := by
  refine h.andThen hG fun h => ?_
  unfold State.encRelatch
  exact .ite (.modEnc (.wr h)) h

/-- A latch of the cycle changes only what it notes of standstill. -/
theorem enc_encRelatch (s : State) (n : Nat) : ∃ b, (s.encRelatch n).enc n = { s.enc n with stillWas := b } := by
  unfold encRelatch
  split
  · rcases nth_upd_eq s.shf.encs n n (fun e => { e with stillWas := s.on (F.SHF_ENCn_STAT_STILL n) }) {} with h | ⟨-, h⟩
    · exact ⟨_, h⟩
    · exact ⟨_, h⟩
  · exact ⟨_, rfl⟩

end State
end Sys2Proof.Machine

/-! Shaft feedback: SSI frames, the deposit, standstill and the emulation, and the statement about them all (R252 to R262). -/

namespace Sys2Proof.Machine

set_option Elab.async false
namespace State

variable {A : List Part} {P : Nat → Prop} {s t u : State} {n : Nat}

/-- A frame has ended, and the pause after it begins. -/
def readEnded (s : State) (n stamp : Nat) : State :=
  s.modEnc n (fun e => { e with
    reading := none, pauseEnd := stamp + s.ssiLength n + max 1 (s.get (F.SHF_ENCn_SSI_TM n)) * 400 })

theorem enc_readEnded (s : State) (stamp : Nat) (hn : n < s.shf.encs.length) :
    (s.readEnded n stamp).enc n = { s.enc n with
      reading := none, pauseEnd := stamp + s.ssiLength n + max 1 (s.get (F.SHF_ENCn_SSI_TM n)) * 400 } := enc_modEnc_same s _ hn

theorem ssiMoved_readEnded (s : State) (stamp v : Nat) (hn : n < s.shf.encs.length) : (s.readEnded n stamp).ssiMoved n v = s.ssiMoved n v := by
  unfold ssiMoved encPos
  rw [enc_readEnded s stamp hn]
  rfl

/-! ### Frames that fail (R257) -/

theorem ssiDone_fails {stamp : Nat} (data : Word) (par : Bool) (hruns : s.encRuns n 2 = true) (hread : (s.enc n).reading = some stamp)
    (hdue : s.due (stamp + s.ssiLength n) = true) :
    s.ssiDone n data par false = ((s.readEnded n stamp).set1 (F.SHF_ENCn_STAT_SSIERR n)).encRelatch n := by
  unfold ssiDone
  simp only [hread, hruns, hdue, Bool.and_self, if_true, Bool.not_false, Bool.true_or]
  rfl

/-- A failed frame is flagged, and leaves the interface where it stood. -/
theorem failedRead_gives (s : State) (n stamp : Nat) (hn : n < s.shf.encs.length) :
    let t := ((s.readEnded n stamp).set1 (F.SHF_ENCn_STAT_SSIERR n)).encRelatch n
    (t.enc n).reading = none ∧ t.on (F.SHF_ENCn_STAT_SSIERR n) = true ∧ (t.enc n).turns = (s.enc n).turns ∧
      (∀ b, b ≠ R.SHF_ENCn_STAT n → ((s.enc n).latchAt = some s.count → b ≠ R.SHF_ENCn_Li n 3) → t.rd b = s.rd b) ∧ t.clk = s.clk := by
  intro t
  let u := (s.readEnded n stamp).set1 (F.SHF_ENCn_STAT_SSIERR n)
  have hu : u.enc n = (s.readEnded n stamp).enc n := rfl
  have hrelatch := encRelatch_writes u n
  obtain ⟨b, hb⟩ := enc_encRelatch u n
  have henc : t.enc n = { (s.readEnded n stamp).enc n with stillWas := b } := hb.trans (by rw [hu])
  have hlatch : (u.enc n).latchAt = (s.enc n).latchAt := by rw [hu, enc_readEnded s stamp hn]
  refine ⟨?_, ?_, ?_, fun a ha hli => ?_, ?_⟩
  · rw [henc, enc_readEnded s stamp hn]
  · rw [show t = u.encRelatch n from rfl, hrelatch.on, on_set1_same _ _ (by simp) (by simp)]
    simp only [R.SHF_ENCn_STAT, R.SHF_ENCn_Li]
    omega
  · rw [henc, enc_readEnded s stamp hn]
  · refine (hrelatch a fun ⟨hl, ha'⟩ => hli (hlatch.symm.trans hl) ha').trans ?_
    exact (rd_put_other _ (F.SHF_ENCn_STAT_SSIERR n) 1 a ha).trans rfl
  · have hmoves : Moves [.regs, .cycle, .shf] s t := .encRelatch (.put (.modEnc (.refl s)))
    exact hmoves.clk

/-! ### Frames that are taken (R257) -/

theorem ssiDone_takes {stamp v : Nat} {data : Word} {par : Bool} (hruns : s.encRuns n 2 = true)
    (hread : (s.enc n).reading = some stamp) (hdue : s.due (stamp + s.ssiLength n) = true)
    (hpar : s.on (F.SHF_ENCn_SSI_PAR n) = true → (onesBelow (s.ssiBits n) (data.toNat % 2 ^ s.ssiBits n) + bit1 par) % 2 = 0)
    (hv : v = if s.on (F.SHF_ENCn_SSI_GRAY n) then grayDecode (s.ssiBits n) (data.toNat % 2 ^ s.ssiBits n)
      else data.toNat % 2 ^ s.ssiBits n)
    (hnear : (s.enc n).good = true → (s.ssiMoved n v).natAbs ≤ 2 ^ s.ssiPosBits n / 2) :
    s.ssiDone n data par true = (s.readEnded n stamp).ssiTake n v stamp := by
  have hgood : ¬ (!true || (s.on (F.SHF_ENCn_SSI_PAR n) &&
      (onesBelow (s.ssiBits n) (data.toNat % 2 ^ s.ssiBits n) + bit1 par) % 2 == 1) ||
      ((s.enc n).good && decide (2 ^ s.ssiPosBits n / 2 < (s.ssiMoved n v).natAbs))) = true := by
    simp only [Bool.not_true, Bool.false_or, Bool.or_eq_true, Bool.and_eq_true, beq_iff_eq, decide_eq_true_eq, not_or, not_and, not_lt]
    exact ⟨fun hp => by rw [hpar hp]; decide, hnear⟩
  unfold ssiDone
  simp only [hread, hruns, hdue, Bool.and_self, if_true, ← hv]
  rw [if_neg hgood]
  rfl

/-- The position and turns of a good read, before standstill is judged. -/
def readTaken (s : State) (n v stamp : Nat) : State :=
  (s.put (F.SHF_ENCn_POS_POS n) (v % 2 ^ s.ssiPosBits n % 2 ^ 24)).modEnc n (fun e => { e with
    turns := BitVec.ofNat 32 (v / 2 ^ s.ssiPosBits n), high := v % 2 ^ s.ssiPosBits n / 2 ^ 24
    net := e.net + (if (s.enc n).good then s.ssiMoved n v else 0), te := some stamp, good := true
    readAt := some s.count, before := s.encRead n })

theorem ssiTake_eq (s : State) (n v stamp : Nat) :
    s.ssiTake n v stamp = s.readTaken n v stamp ∨
      s.ssiTake n v stamp = ((s.readTaken n v stamp).clr (F.SHF_ENCn_STAT_STILL n)).encRelatch n := by
  by_cases hd : (if (s.enc n).good then s.ssiMoved n v else 0) = 0
  · exact .inl (if_pos hd)
  · exact .inr (if_neg hd)

/-- What a good read leaves in the interface. -/
structure TakenRead (s t : State) (n v stamp : Nat) : Prop where
  reading : (t.enc n).reading = (s.enc n).reading
  latch : (t.enc n).latchAt = (s.enc n).latchAt
  good : (t.enc n).good = true
  te : (t.enc n).te = some stamp
  turns : (t.enc n).turns = BitVec.ofNat 32 (v / 2 ^ s.ssiPosBits n)
  high : (t.enc n).high = v % 2 ^ s.ssiPosBits n / 2 ^ 24
  pos : t.get (F.SHF_ENCn_POS_POS n) = v % 2 ^ s.ssiPosBits n % 2 ^ 24
  regs : s.Writes (fun b => b = R.SHF_ENCn_POS n ∨ b = R.SHF_ENCn_STAT n ∨ ((s.enc n).latchAt = some s.count ∧ b = R.SHF_ENCn_Li n 3)) t
  clk : t.clk = s.clk

theorem readTaken_taken (s : State) (v stamp : Nat) (hn : n < s.shf.encs.length) : s.TakenRead (s.readTaken n v stamp) n v stamp := by
  have henc := enc_modEnc_same (s.put (F.SHF_ENCn_POS_POS n) (v % 2 ^ s.ssiPosBits n % 2 ^ 24)) (fun e => { e with
    turns := BitVec.ofNat 32 (v / 2 ^ s.ssiPosBits n), high := v % 2 ^ s.ssiPosBits n / 2 ^ 24
    net := e.net + (if (s.enc n).good then s.ssiMoved n v else 0), te := some stamp, good := true
    readAt := some s.count, before := s.encRead n }) hn
  refine ⟨(congrArg EncSt.reading henc).trans rfl, (congrArg EncSt.latchAt henc).trans rfl, congrArg EncSt.good henc, congrArg EncSt.te henc, congrArg EncSt.turns henc,
    congrArg EncSt.high henc, ?_, ?_, rfl⟩
  · refine (get_put_same _ _ _ (by simp)).trans (Nat.mod_eq_of_lt (Nat.mod_lt _ (by decide)))
  · exact .regs (.put (.refl s) (.inl rfl)) rfl

theorem TakenRead.relatched {v stamp : Nat} (h : s.TakenRead t n v stamp) :
    s.TakenRead ((t.clr (F.SHF_ENCn_STAT_STILL n)).encRelatch n) n v stamp := by
  have hw := encRelatch_writes (t.clr (F.SHF_ENCn_STAT_STILL n)) n
  obtain ⟨b, hb⟩ := enc_encRelatch (t.clr (F.SHF_ENCn_STAT_STILL n)) n
  have henc : ((t.clr (F.SHF_ENCn_STAT_STILL n)).encRelatch n).enc n = { t.enc n with stillWas := b } := hb
  have hcount : t.count = s.count := congrArg (·.count.toNat) h.clk
  have hmoves : Moves [.regs, .cycle, .shf] t ((t.clr (F.SHF_ENCn_STAT_STILL n)).encRelatch n) := .encRelatch (.put (.refl t))
  refine ⟨?_, ?_, ?_, ?_, ?_, ?_, ?_, ?_, hmoves.clk.trans h.clk⟩
  · rw [henc]; exact h.reading
  · rw [henc]; exact h.latch
  · rw [henc]; exact h.good
  · rw [henc]; exact h.te
  · rw [henc]; exact h.turns
  · rw [henc]; exact h.high
  · rw [hw.get, get_clr_other _ _ _ (by simp) (.inl (by simp only [R.SHF_ENCn_POS, R.SHF_ENCn_STAT]; omega)), h.pos]
    simp only [R.SHF_ENCn_POS, R.SHF_ENCn_Li]
    omega
  · refine (h.regs.clr (f := F.SHF_ENCn_STAT_STILL n) (.inr (.inl rfl))).trans (hw.mono fun b hb => .inr (.inr ⟨?_, hb.2⟩))
    rw [← h.latch, ← hcount]
    exact hb.1

theorem ssiTake_taken (s : State) (v stamp : Nat) (hn : n < s.shf.encs.length) : s.TakenRead (s.ssiTake n v stamp) n v stamp := by
  have htaken := readTaken_taken s v stamp hn
  rcases ssiTake_eq s n v stamp with h | h
  · rw [h]; exact htaken
  · rw [h]; exact htaken.relatched

/-! ### The deposit (R261) -/

theorem wordGet_wordSetAll (m : WordStore) (a b : Nat) (l : List Word) :
    wordGet (wordSetAll m a l) b = if a ≤ b ∧ b < a + l.length then nth l (b - a) 0 else wordGet m b := by
  induction l generalizing m a with
  | nil =>
    rw [if_neg (by simp)]
    rfl
  | cons w l ih =>
    rw [wordSetAll, ih]
    have hset : wordGet (wordSet m a w) b = if b = a then w else wordGet m b := cellGet_cellSet ..
    by_cases hb : b = a
    · subst hb
      rw [if_neg (by omega), hset, if_pos rfl, if_pos (by simp), Nat.sub_self]
      rfl
    · rw [hset, if_neg hb]
      by_cases hin : a + 1 ≤ b ∧ b < a + 1 + l.length
      · rw [if_pos hin, if_pos (by simp only [List.length_cons]; omega), show b - a = (b - (a + 1)) + 1 by omega]
        rfl
      · rw [if_neg hin, if_neg (by simp only [List.length_cons]; omega)]

/-! ### The emulation (R262) -/

theorem emuStep_ecnt (s : State) (c : Nat) (hc : c < 2 ^ 18) : (s.put F.SHF_EMU_STAT_ECNT c).get F.SHF_EMU_STAT_ECNT = c :=
  (get_put_same _ _ _ (by decide)).trans (Nat.mod_eq_of_lt hc)

end State
end Sys2Proof.Machine

/-! Shaft feedback: what each event of an interface leaves in the state, and the statement about them all (R252 to R262). -/

namespace Sys2Proof.Machine

set_option Elab.async false
namespace State

variable {s t u : State} {n : Nat}

/-! ### Standstill (R260) -/

theorem encRelatch_eq (h : (s.enc n).latchAt = some s.count) :
    s.encRelatch n = (s.wr (R.SHF_ENCn_Li n 3) (s.rd (R.SHF_ENCn_STAT n) &&& 0xFF)).modEnc n
      (fun e => { e with stillWas := s.on (F.SHF_ENCn_STAT_STILL n) }) := by
  unfold encRelatch
  rw [if_pos (by simp [h])]

theorem encRelatch_idle (h : (s.enc n).latchAt ≠ some s.count) : s.encRelatch n = s := by
  unfold encRelatch
  rw [if_neg (by simpa using h)]

/-- A shaft without edges stands still: the flag, speed 0, and both in what the present cycle has latched. -/
theorem encStill_gives (hn : n < s.shf.encs.length) (hruns : s.encRuns n 1 = true ∨ s.encRuns n 2 = true)
    (hmoves : s.on (F.SHF_ENCn_STAT_STILL n) = false)
    (hdue : s.due ((s.enc n).te.getD (s.enc n).startAt + max 1 (s.get (F.SHF_ENCn_SPD_STILL n)) * 400000) = true) :
    let t := s.encStill n
    t.on (F.SHF_ENCn_STAT_STILL n) = true ∧ (t.enc n).speed = 0 ∧
      ((s.enc n).latchAt = some s.count → t.rd (R.SHF_ENCn_Li n 1) = 0 ∧ t.rd (R.SHF_ENCn_Li n 3) = t.rd (R.SHF_ENCn_STAT n) &&& 0xFF) ∧
      (∀ b, b ≠ R.SHF_ENCn_STAT n → ((s.enc n).latchAt = some s.count → b ≠ R.SHF_ENCn_Li n 1 ∧ b ≠ R.SHF_ENCn_Li n 3) →
        t.rd b = s.rd b) ∧ t.clk = s.clk := by
  let u := (s.modEnc n (fun x => { x with speed := 0 })).set1 (F.SHF_ENCn_STAT_STILL n)
  have henc : u.enc n = { s.enc n with speed := 0 } := enc_modEnc_same s _ hn
  have hstill : u.on (F.SHF_ENCn_STAT_STILL n) = true := on_set1_same _ _ (by simp) (by simp)
  have hne1 : R.SHF_ENCn_STAT n ≠ R.SHF_ENCn_Li n 1 := by simp only [R.SHF_ENCn_STAT, R.SHF_ENCn_Li]; omega
  have hne3 : R.SHF_ENCn_STAT n ≠ R.SHF_ENCn_Li n 3 := by simp only [R.SHF_ENCn_STAT, R.SHF_ENCn_Li]; omega
  have hli : R.SHF_ENCn_Li n 3 ≠ R.SHF_ENCn_Li n 1 := by simp only [R.SHF_ENCn_Li]; omega
  have hother : ∀ b, b ≠ R.SHF_ENCn_STAT n → u.rd b = s.rd b := fun b hb => rd_put_other _ (F.SHF_ENCn_STAT_STILL n) 1 b hb
  have ht : s.encStill n = if (s.enc n).latchAt == some s.count then (u.encRelatch n).wr (R.SHF_ENCn_Li n 1) 0 else u.encRelatch n := by
    have hgo : ((s.encRuns n 1 || s.encRuns n 2) && !s.on (F.SHF_ENCn_STAT_STILL n) &&
        s.due ((s.enc n).te.getD (s.enc n).startAt + max 1 (s.get (F.SHF_ENCn_SPD_STILL n)) * 400000)) = true := by
      simp [hruns, hmoves, hdue]
    unfold encStill
    dsimp only
    rw [if_pos hgo]
  have hclk : (u.encRelatch n).clk = s.clk :=
    Moves.clk (F := [.regs, .cycle, .shf]) (.encRelatch (.put (.modEnc (.refl s))))
  intro t
  by_cases hl : (s.enc n).latchAt = some s.count
  · have hul : (u.enc n).latchAt = some u.count := by rw [henc]; exact hl
    have htl : t = ((u.wr (R.SHF_ENCn_Li n 3) (u.rd (R.SHF_ENCn_STAT n) &&& 0xFF)).modEnc n
        (fun e => { e with stillWas := u.on (F.SHF_ENCn_STAT_STILL n) })).wr (R.SHF_ENCn_Li n 1) 0 := by
      rw [show t = s.encStill n from rfl, ht, if_pos (by simp [hl]), encRelatch_eq hul]
    have hrd : ∀ b, t.rd b = if b = R.SHF_ENCn_Li n 1 then 0 else if b = R.SHF_ENCn_Li n 3 then u.rd (R.SHF_ENCn_STAT n) &&& 0xFF
        else u.rd b := fun b => by
      rw [htl, rd_wr, rd_congr (modEnc_regs ..), rd_wr]
    have hstat : t.rd (R.SHF_ENCn_STAT n) = u.rd (R.SHF_ENCn_STAT n) := by rw [hrd, if_neg hne1, if_neg hne3]
    refine ⟨?_, ?_, fun _ => ⟨by rw [hrd, if_pos rfl], by rw [hrd, if_neg hli, if_pos rfl, hstat]⟩, fun b hb hblk => ?_, ?_⟩
    · rw [← hstill]
      simp only [State.on, State.get, hstat]
    · rw [htl]
      have hlen : n < (u.wr (R.SHF_ENCn_Li n 3) (u.rd (R.SHF_ENCn_STAT n) &&& 0xFF)).shf.encs.length := (length_modEnc s n _).symm ▸ hn
      exact (congrArg EncSt.speed (enc_modEnc_same _ _ hlen)).trans (congrArg EncSt.speed henc)
    · rw [hrd, if_neg (hblk hl).1, if_neg (hblk hl).2, hother b hb]
    · rw [htl]
      rfl
  · have hul : (u.enc n).latchAt ≠ some u.count := by rw [henc]; exact hl
    have htu : t = u := by rw [show t = s.encStill n from rfl, ht, if_neg (by simpa using hl), encRelatch_idle hul]
    rw [htu]
    exact ⟨hstill, congrArg EncSt.speed henc, fun h => absurd h hl, fun b hb _ => hother b hb, rfl⟩

/-! ### Counts and illegal transitions (R252 to R254) -/

theorem encStep_gives {qb : Bool} {p : Int} (hn : n < s.shf.encs.length) (hruns : s.encRuns n 1 = true) (hjudged : s.encJudged n = false)
    (hmay : s.lineMay n 1 (if qb then (s.enc n).qbAt else (s.enc n).qaAt) = true)
    (hother : (if qb then (s.enc n).qaAt else (s.enc n).qbAt) ≠ some s.count)
    (hp : p = s.get (F.SHF_ENCn_POS_POS n) +
      (if (if qb then (s.enc n).qa != (s.enc n).qb else (s.enc n).qa == (s.enc n).qb) != s.on (F.SHF_ENCn_CFG_DIR n) then (1 : Int)
        else -1)) :
    let t := s.encStep n qb
    t.get (F.SHF_ENCn_POS_POS n) = (p % s.encCpr n).toNat ∧
      (t.enc n).turns = (if (s.encCpr n : Int) ≤ p then (s.enc n).turns + 1 else if p < 0 then (s.enc n).turns - 1 else (s.enc n).turns) ∧
      (t.enc n).qa = ((s.enc n).qa != !qb) ∧ (t.enc n).qb = ((s.enc n).qb != qb) ∧
      (t.enc n).te = some s.count ∧ t.on (F.SHF_ENCn_STAT_STILL n) = false ∧ t.mem = s.mem ∧ t.clk = s.clk ∧ t.loom = s.loom ∧
      (∀ b, b ≠ R.SHF_ENCn_POS n → b ≠ R.SHF_ENCn_STAT n → b ≠ R.SHF_EMU_STAT → t.rd b = s.rd b) := by
  intro t
  obtain ⟨d, hd⟩ : ∃ d, d = if (if qb then (s.enc n).qa != (s.enc n).qb else (s.enc n).qa == (s.enc n).qb) != s.on (F.SHF_ENCn_CFG_DIR n)
    then (1 : Int) else -1 := ⟨_, rfl⟩
  rw [← hd] at hp
  have ht : t = _ := encStep_eq hn hruns hjudged hmay hother hd
  let u := s.modEnc n (·.flip qb (some s.count))
  have hmode : u.get (F.SHF_ENCn_CFG_MODE n) ≠ 2 := by
    rw [show u.get (F.SHF_ENCn_CFG_MODE n) = s.get (F.SHF_ENCn_CFG_MODE n) from rfl, (mode_of_encRuns hruns).1]
    decide
  obtain ⟨hcpr, hfit⟩ := encCpr_le hmode
  have hmoves : Moves [.regs, .cycle, .shf] s t := by
    rw [ht]
    exact .put (.modEnc (.movePos (.modEnc (.refl s))))
  have henc := enc_counted s qb d hn
  rw [← ht, ← hp] at henc
  refine ⟨?_, ?_, ?_, ?_, by rw [henc], ?_, hmoves.mem, hmoves.clk, hmoves.loom, fun b hpos hstat _ => ?_⟩
  · rw [ht, get_clr_other _ _ _ (by simp) (.inl (by simp only [R.SHF_ENCn_POS, R.SHF_ENCn_STAT]; omega)), get_congr (modEnc_regs ..), hp]
    exact movePos_pos u d hcpr hfit
  · rw [henc]
    cases qb <;> rfl
  · rw [henc]
    cases qb <;> simp [EncSt.flip]
  · rw [henc]
    cases qb <;> simp [EncSt.flip]
  · rw [ht, on_clr_same _ _ (by simp)]
  · rw [ht]
    refine (rd_put_other _ (F.SHF_ENCn_STAT_STILL n) 0 b hstat).trans ?_
    rw [rd_congr (modEnc_regs ..)]
    exact movePos_writes u n d b hpos

/-- Both lines have changed at once: shown, counted, and in the run of such transitions. -/
def illegalSeen (s : State) (n : Nat) : State :=
  ((((s.modEnc n (·.flipBoth (some s.count))).set1
    (F.SHF_ENCn_STAT_ILL n)).incS (F.SHF_ENCn_CNT_ILLCNT n)).raise (0xB2 + n)).modEnc n
    (fun e => { e with illRun := e.illRun + 1, illSince := true })

/-- The registers that an illegal transition shows itself in. -/
def illegalReg (n b : Nat) : Prop := b = R.SHF_ENCn_STAT n ∨ b = R.SHF_ENCn_CNT n

theorem illegalSeen_moves (s : State) (n : Nat) : Moves [.regs, .cycle, .events, .stew, .shf] s (s.illegalSeen n) :=
  .modEnc (.raise (.incS (.put (.modEnc (.refl s)))))

theorem illegalSeen_writes (s : State) (n : Nat) : s.Writes (illegalReg n) (s.illegalSeen n) :=
  .modEnc (.raise (.incS (.set1 (.modEnc (.refl s)) (.inl rfl)) (.inr rfl)))

theorem sent_illegalSeen (s : State) (n : Nat) (hruns : s.coreRuns = true) : s.sent (s.illegalSeen n) (0xB2 + n) := by
  have hw : s.Writes (illegalReg n) (((s.modEnc n (·.flipBoth (some s.count))).set1
      (F.SHF_ENCn_STAT_ILL n)).incS (F.SHF_ENCn_CNT_ILLCNT n)) :=
    .incS (.set1 (.modEnc (.refl s)) (.inl rfl)) (.inr rfl)
  have hrun := (coreRuns_of_writes hw rfl (by simp only [illegalReg, R.SYS_MODE, R.SHF_ENCn_STAT, R.SHF_ENCn_CNT]; omega)).trans hruns
  exact (sent_raise hrun rfl _).of_events rfl

theorem illRun_illegalSeen (s : State) (hn : n < s.shf.encs.length) : ((s.illegalSeen n).enc n).illRun = (s.enc n).illRun + 1 := by
  let v := ((s.modEnc n (·.flipBoth (some s.count))).set1
    (F.SHF_ENCn_STAT_ILL n)).incS (F.SHF_ENCn_CNT_ILLCNT n)
  have hshf : (v.raise (0xB2 + n)).shf = (s.modEnc n (·.flipBoth (some s.count))).shf :=
    raise_shf v _
  have hlen : n < (v.raise (0xB2 + n)).shf.encs.length := by rw [hshf, length_modEnc]; exact hn
  have henc : ((v.raise (0xB2 + n)).enc n).illRun = (s.enc n).illRun := by
    rw [enc, hshf]
    exact (congrArg EncSt.illRun (enc_modEnc_same s _ hn)).trans rfl
  exact (congrArg EncSt.illRun (enc_modEnc_same (v.raise (0xB2 + n)) _ hlen)).trans (congrArg (· + 1) henc)

theorem illegalSeen_shows (s : State) (n : Nat) :
    (s.illegalSeen n).on (F.SHF_ENCn_STAT_ILL n) = true ∧
      (s.illegalSeen n).get (F.SHF_ENCn_CNT_ILLCNT n) = satInc 16 (s.get (F.SHF_ENCn_CNT_ILLCNT n)) := by
  have hcnt : R.SHF_ENCn_CNT n ≠ R.SHF_ENCn_STAT n := by simp only [R.SHF_ENCn_CNT, R.SHF_ENCn_STAT]; omega
  unfold illegalSeen incS
  constructor
  · rw [on_congr (modEnc_regs ..), on_raise, on_put_other _ _ _ _ (by simp) (.inl hcnt.symm), on_set1_same _ _ (by simp) (by simp)]
  · rw [get_congr (modEnc_regs ..), get_raise, get_put_same _ _ _ (by simp), get_set1_other _ _ _ (by simp) (.inl hcnt),
      get_congr (modEnc_regs ..)]
    unfold satInc
    exact Nat.mod_eq_of_lt (by simp only; omega)

theorem encIllegal_eq (hruns : s.encRuns n 1 = true) (hjudged : s.encJudged n = false)
    (hqa : s.lineMay n 1 (s.enc n).qaAt = true) (hqb : s.lineMay n 1 (s.enc n).qbAt = true) :
    s.encIllegal n = if (s.illegalSeen n).get (F.SHF_ENCn_CFG_ILLN n) ≠ 0 ∧
        ((s.illegalSeen n).enc n).illRun = (s.illegalSeen n).get (F.SHF_ENCn_CFG_ILLN n)
      then (s.illegalSeen n).encTrip n else s.illegalSeen n := by
  have hgo : ¬ (s.encJudged n || !(s.lineMay n 1 (s.enc n).qaAt && s.lineMay n 1 (s.enc n).qbAt)) = true := by simp [hjudged, hqa, hqb]
  have hrun : (s.modEnc n (fun e => { e with qa := !e.qa, qb := !e.qb, qaAt := some s.count, qbAt := some s.count })).encRuns n 1 = true := hruns
  unfold encIllegal
  dsimp only
  rw [if_neg hgo, if_pos hrun]
  rfl

theorem encIllegal_gives (hn : n < s.shf.encs.length) (hruns : s.encRuns n 1 = true) (hjudged : s.encJudged n = false)
    (hqa : s.lineMay n 1 (s.enc n).qaAt = true) (hqb : s.lineMay n 1 (s.enc n).qbAt = true) :
    let t := s.encIllegal n
    t.on (F.SHF_ENCn_STAT_ILL n) = true ∧ s.sent t (0xB2 + n) ∧ t.get (F.SHF_ENCn_POS_POS n) = s.get (F.SHF_ENCn_POS_POS n) ∧
      t.get (F.SHF_ENCn_CNT_ILLCNT n) = satInc (F.SHF_ENCn_CNT_ILLCNT n).width (s.get (F.SHF_ENCn_CNT_ILLCNT n)) ∧
      (t.enc n).illRun = (s.enc n).illRun + 1 ∧
      (s.get (F.SHF_ENCn_CFG_ILLN n) ≠ 0 → (s.enc n).illRun + 1 = s.get (F.SHF_ENCn_CFG_ILLN n) →
        t.on (F.SHF_ENCn_STAT_TRIP n) = true ∧ s.sent t (0xB6 + n)) ∧
      (∀ b, b ≠ R.SHF_ENCn_STAT n → b ≠ R.SHF_ENCn_CNT n → t.rd b = s.rd b) ∧ t.mem = s.mem ∧ t.clk = s.clk := by
  intro t
  have hw := illegalSeen_writes s n
  have hmoves := illegalSeen_moves s n
  have hsent := sent_illegalSeen s n (mode_of_encRuns hruns).2
  have hill := illRun_illegalSeen s hn
  obtain ⟨hon, hcount⟩ := illegalSeen_shows s n
  have hrun : (s.illegalSeen n).coreRuns = true := (coreRuns_of_writes hw hmoves.sys
    (by simp only [illegalReg, R.SYS_MODE, R.SHF_ENCn_STAT, R.SHF_ENCn_CNT]; omega)).trans (mode_of_encRuns hruns).2
  have hilln : (s.illegalSeen n).get (F.SHF_ENCn_CFG_ILLN n) = s.get (F.SHF_ENCn_CFG_ILLN n) :=
    hw.get (by simp only [illegalReg, R.SHF_ENCn_CFG, R.SHF_ENCn_STAT, R.SHF_ENCn_CNT]; omega)
  have hpos : (s.illegalSeen n).get (F.SHF_ENCn_POS_POS n) = s.get (F.SHF_ENCn_POS_POS n) :=
    hw.get (by simp only [illegalReg, R.SHF_ENCn_POS, R.SHF_ENCn_STAT, R.SHF_ENCn_CNT]; omega)
  have ht : t = _ := encIllegal_eq hruns hjudged hqa hqb
  rw [hilln, hill] at ht
  generalize s.illegalSeen n = u at *
  by_cases htrip : s.get (F.SHF_ENCn_CFG_ILLN n) ≠ 0 ∧ (s.enc n).illRun + 1 = s.get (F.SHF_ENCn_CFG_ILLN n)
  · rw [if_pos htrip] at ht
    have hwt := encTrip_writes u n
    have hm : Moves [.regs, .cycle, .events, .stew] u (u.encTrip n) := .encTrip (.refl u)
    rw [ht]
    refine ⟨?_, ?_, ?_, ?_, ?_, fun _ _ => ⟨encTrip_on u n, sent_encTrip hrun hmoves.clk n⟩,
      fun b hs hc => (hwt b hs).trans (hw b fun h => h.elim hs hc), hm.mem.trans hmoves.mem, hm.clk.trans hmoves.clk⟩
    · rw [encTrip, on_raise, on_set1_other _ _ _ (by simp) (.inr (by simp)), hon]
    · exact (hsent.of_events (u := u.set1 _) rfl).raise (0xB6 + n)
    · exact (hwt.get (by simp only [R.SHF_ENCn_POS, R.SHF_ENCn_STAT]; omega)).trans hpos
    · exact (hwt.get (by simp only [R.SHF_ENCn_CNT, R.SHF_ENCn_STAT]; omega)).trans hcount
    · rw [show (u.encTrip n).enc n = u.enc n by rw [enc, hm.shf, enc]]
      exact hill
  · rw [if_neg htrip] at ht
    rw [ht]
    exact ⟨hon, hsent, hpos, hcount, hill, fun h0 h1 => absurd ⟨h0, h1⟩ htrip, fun b hs hc => hw b fun h => h.elim hs hc,
      hmoves.mem, hmoves.clk⟩

/-! ### The deposit (R261) and the emulation (R262) -/

/-- L0 to L3 have gone to data memory, where a lane's store of the cycle is lost. -/
def deposited (s : State) (n : Nat) : State :=
  let words := (List.range 4).map (fun i => s.get (F.SHF_ENCn_DEP_ADDR n) + i)
  let t := (s.modEnc n (fun e => { e with depositAt := none })).modMill (fun m => { m with
    dmem := wordSetAll m.dmem (s.get (F.SHF_ENCn_DEP_ADDR n)) ((List.range 4).map (fun i => s.rd (R.SHF_ENCn_Li n i)))
    correctable := m.correctable.filter (fun k => decide (k ∉ words.map dmemWord)) })
  { t with cycle := { t.cycle with deposits := words ++ t.cycle.deposits } }

theorem shfDeposit_eq {d : Nat} (hat : (s.enc n).depositAt = some d) (hdue : s.due d = true)
    (hen : s.on (F.SHF_ENCn_DEP_EN n) = true) (hmill : s.on F.MILL_CTRL_EN = true) (hmode : s.mode = .ready ∨ s.switching = true)
    (haddr : s.get (F.SHF_ENCn_DEP_ADDR n) ≤ 0x1FFC) : s.shfDeposit n = s.deposited n := by
  have hgo : (s.on (F.SHF_ENCn_DEP_EN n) && s.on F.MILL_CTRL_EN && (s.mode == .ready || s.switching) &&
      decide (s.get (F.SHF_ENCn_DEP_ADDR n) ≤ 0x1FFC)) = true := by
    rw [hen, hmill, decide_eq_true haddr]
    simpa using hmode
  unfold shfDeposit
  rw [hat]
  dsimp only
  rw [if_pos hdue, if_pos hgo]
  rfl

theorem deposited_gives (hn : n < s.shf.encs.length) :
    let t := s.deposited n
    (∀ i : Fin 4, wordGet t.mill.dmem (s.get (F.SHF_ENCn_DEP_ADDR n) + i) = s.rd (R.SHF_ENCn_Li n i)) ∧
      (∀ a, (a < s.get (F.SHF_ENCn_DEP_ADDR n) ∨ s.get (F.SHF_ENCn_DEP_ADDR n) + 4 ≤ a) → wordGet t.mill.dmem a = wordGet s.mill.dmem a) ∧
      (t.enc n).depositAt = none ∧ t.regs = s.regs := by
  intro t
  have hdmem : t.mill.dmem = wordSetAll s.mill.dmem (s.get (F.SHF_ENCn_DEP_ADDR n)) ((List.range 4).map (fun i => s.rd (R.SHF_ENCn_Li n i))) := rfl
  refine ⟨fun i => ?_, fun a ha => ?_, congrArg EncSt.depositAt (enc_modEnc_same s (fun e => { e with depositAt := none }) hn), rfl⟩
  · rw [hdmem, wordGet_wordSetAll, if_pos (by simp), Nat.add_sub_cancel_left]
    simp [nth]
  · rw [hdmem, wordGet_wordSetAll, if_neg (by simp only [List.length_map, List.length_range]; omega)]

/-- The emulated count fits its field. -/
theorem eppr_fits (s : State) : 0 < 4 * s.eppr ∧ 4 * s.eppr ≤ 2 ^ 18 := by
  have hwidth : s.get F.SHF_EMU_CFG_EPPR_M1 < 2 ^ 16 := get_lt s F.SHF_EMU_CFG_EPPR_M1
  unfold eppr
  omega

/-- One quadrature state of the emulation, to `c`. -/
def emulated (s : State) (c : Nat) : State := (s.put F.SHF_EMU_STAT_ECNT c).modShf (fun x => { x with emuAt := s.count })

theorem emuStep_eq (hen : s.on F.SHF_CTRL_EMU_EN = true) (hruns : s.coreRuns = true)
    (hdue : s.due (s.shf.emuAt + max 20 (s.get F.SHF_EMU_CFG_MINE)) = true) (hway : s.emuWay ≠ 0) :
    s.emuStep = s.emulated (if 0 < s.emuWay then (s.get F.SHF_EMU_STAT_ECNT + 1) % (4 * s.eppr)
      else (s.get F.SHF_EMU_STAT_ECNT + 4 * s.eppr - 1) % (4 * s.eppr)) := by
  have hgo : (s.on F.SHF_CTRL_EMU_EN && s.coreRuns && s.due (s.shf.emuAt + max 20 (s.get F.SHF_EMU_CFG_MINE)) && s.emuWay != 0) = true := by
    simp [hen, hruns, hdue, hway]
  unfold emuStep
  rw [if_pos hgo]
  rfl

theorem emulated_gives (s : State) (c : Nat) (hc : c < 2 ^ 18) :
    let t := s.emulated c
    t.get F.SHF_EMU_STAT_ECNT = c ∧ t.shf.emuAt = s.count ∧ (∀ b, b ≠ R.SHF_EMU_STAT → t.rd b = s.rd b) ∧ t.shf.encs = s.shf.encs ∧
      t.clk = s.clk :=
  ⟨emuStep_ecnt s c hc, rfl, fun b hb => rd_put_other s F.SHF_EMU_STAT_ECNT c b hb, rfl, rfl⟩

/-! ### The index (R255) -/

/-- An index error: what it shows, and what it leaves to the policy. -/
theorem index_errs (s : State) (n : Nat) (hruns : s.coreRuns = true) :
    let u := (s.indexSeen n).indexErred n
    u.get (F.SHF_ENCn_POS_POS n) = s.get (F.SHF_ENCn_POS_POS n) ∧ u.get (F.SHF_ENCn_IDXCAP_POS n) = s.get (F.SHF_ENCn_POS_POS n) ∧
      u.on (F.SHF_ENCn_STAT_IDXERR n) = true ∧ u.on (F.SHF_ENCn_STAT_TRIP n) = s.on (F.SHF_ENCn_STAT_TRIP n) ∧ s.sent u (0xB4 + n) ∧
      u.coreRuns = true ∧ u.encCpr n = s.encCpr n ∧ u.clk = s.clk ∧ u.loom = s.loom := by
  have hseen := indexSeen_moves s n
  have hrun : (s.indexSeen n).coreRuns = true := (coreRuns_of_rd hseen.sys (rd_congr hseen.regs _)).trans hruns
  obtain ⟨hpos, hcap, herr, htrip, hsent, hcore⟩ := indexErred_shows (s.indexSeen n) n hrun
  have hm := indexErred_moves (s.indexSeen n) n
  have hw := indexErred_writes (s.indexSeen n) n
  rw [get_congr hseen.regs] at hpos hcap
  rw [on_congr hseen.regs] at htrip
  have hsent' : s.sent ((s.indexSeen n).indexErred n) (0xB4 + n) := by
    obtain ⟨e, he, hsrc, hcount⟩ := hsent
    exact ⟨e, he, hsrc, hcount.trans (congrArg Clk.count hseen.clk)⟩
  refine ⟨hpos, hcap, herr, htrip, hsent', hcore, ?_, hm.clk.trans hseen.clk, hm.loom.trans hseen.loom⟩
  rw [← encCpr_of_regs hseen.regs]
  unfold encCpr ssiPosBits ssiBits
  rw [hw.get, hw.get, hw.get, hw.get] <;>
    simp only [R.SHF_ENCn_CFG, R.SHF_ENCn_CPR, R.SHF_ENCn_SSI, R.SHF_ENCn_IDXCAP, R.SHF_ENCn_STAT, R.SHF_ENCn_CNT] <;> omega

/-- The first index homes the interface. -/
theorem index_homes (hruns : s.encRuns n 1 = true) :
    let t := ((s.indexSeen n).put (F.SHF_ENCn_POS_POS n) (s.idxPos n)).set1 (F.SHF_ENCn_STAT_HOMED n)
    t.get (F.SHF_ENCn_POS_POS n) = s.idxPos n ∧ t.on (F.SHF_ENCn_STAT_HOMED n) = true ∧ s.sent t (0xB0 + n) ∧
      (∀ b, b ≠ R.SHF_ENCn_POS n → b ≠ R.SHF_ENCn_STAT n → b ≠ R.SHF_EMU_STAT → t.rd b = s.rd b) ∧ t.clk = s.clk ∧ t.loom = s.loom := by
  obtain ⟨hmode, hcore⟩ := mode_of_encRuns hruns
  obtain ⟨hcpr, hfit⟩ := encCpr_le (s := s) (n := n) (by rw [hmode]; decide)
  have hidx : s.idxPos n < 2 ^ 24 := lt_of_lt_of_le (Nat.mod_lt _ hcpr) hfit
  have hmoves : Moves [.regs, .cycle, .events, .stew, .shf] s
      (((s.indexSeen n).put (F.SHF_ENCn_POS_POS n) (s.idxPos n)).set1 (F.SHF_ENCn_STAT_HOMED n)) :=
    .put (.put ((indexSeen_moves s n).mono (by decide)))
  refine ⟨?_, on_set1_same _ _ (by simp) (by simp), (sent_indexSeen hcore n).of_events rfl, fun b hpos hstat _ => ?_, hmoves.clk, hmoves.loom⟩
  · rw [get_set1_other _ _ _ (by simp) (.inl (by simp only [R.SHF_ENCn_POS, R.SHF_ENCn_STAT]; omega)), get_put_same _ _ _ (by simp)]
    exact Nat.mod_eq_of_lt hidx
  · refine (rd_put_other _ (F.SHF_ENCn_STAT_HOMED n) 1 b hstat).trans ?_
    exact (rd_put_other _ (F.SHF_ENCn_POS_POS n) _ b hpos).trans (rd_congr (indexSeen_moves s n).regs b)

/-- An index error under the policy that corrects. -/
theorem index_corrects (hruns : s.encRuns n 1 = true) (d : Int) :
    let t := ((s.indexSeen n).indexErred n).movePos n d
    t.get (F.SHF_ENCn_POS_POS n) = (((s.get (F.SHF_ENCn_POS_POS n) : Int) + d) % s.encCpr n).toNat ∧
      t.get (F.SHF_ENCn_IDXCAP_POS n) = s.get (F.SHF_ENCn_POS_POS n) ∧ t.on (F.SHF_ENCn_STAT_IDXERR n) = true ∧
      t.on (F.SHF_ENCn_STAT_TRIP n) = s.on (F.SHF_ENCn_STAT_TRIP n) ∧ s.sent t (0xB4 + n) ∧ t.clk = s.clk ∧ t.loom = s.loom := by
  obtain ⟨hmode, hcore⟩ := mode_of_encRuns hruns
  obtain ⟨hcpr, hfit⟩ := encCpr_le (s := s) (n := n) (by rw [hmode]; decide)
  obtain ⟨hpos, hcap, herr, htrip, hsent, -, hucpr, hclk, hloom⟩ := index_errs s n hcore
  generalize (s.indexSeen n).indexErred n = u at *
  have hw := movePos_writes u n d
  have hm : Moves [.regs, .cycle, .shf] u (u.movePos n d) := .movePos (.refl u)
  have hstat : ¬ R.SHF_ENCn_STAT n = R.SHF_ENCn_POS n := by simp only [R.SHF_ENCn_STAT, R.SHF_ENCn_POS]; omega
  refine ⟨?_, (hw.get (by simp only [R.SHF_ENCn_IDXCAP, R.SHF_ENCn_POS]; omega)).trans hcap, (hw.on hstat).trans herr,
    (hw.on hstat).trans htrip, hsent.of_events hm.events, hm.clk.trans hclk, hm.loom.trans hloom⟩
  rw [← hucpr] at hcpr hfit
  rw [movePos_pos u d hcpr hfit, hpos, hucpr]

/-- An index error under the policy that trips. -/
theorem index_trips (hcore : s.coreRuns = true) (n : Nat) :
    let t := ((s.indexSeen n).indexErred n).encTrip n
    t.get (F.SHF_ENCn_POS_POS n) = s.get (F.SHF_ENCn_POS_POS n) ∧ t.on (F.SHF_ENCn_STAT_TRIP n) = true ∧
      t.get (F.SHF_ENCn_IDXCAP_POS n) = s.get (F.SHF_ENCn_POS_POS n) ∧ t.on (F.SHF_ENCn_STAT_IDXERR n) = true ∧
      s.sent t (0xB4 + n) ∧ s.sent t (0xB6 + n) ∧ t.clk = s.clk ∧ t.loom = s.loom := by
  obtain ⟨hpos, hcap, herr, -, hsent, hrun, -, hclk, hloom⟩ := index_errs s n hcore
  generalize (s.indexSeen n).indexErred n = u at *
  have hw := encTrip_writes u n
  have hm : Moves [.regs, .cycle, .events, .stew] u (u.encTrip n) := .encTrip (.refl u)
  refine ⟨(hw.get (by simp only [R.SHF_ENCn_POS, R.SHF_ENCn_STAT]; omega)).trans hpos, encTrip_on u n,
    (hw.get (by simp only [R.SHF_ENCn_IDXCAP, R.SHF_ENCn_STAT]; omega)).trans hcap, ?_,
    (hsent.of_events (u := u.set1 _) rfl).raise (0xB6 + n), sent_encTrip hrun hclk n, hm.clk.trans hclk, hm.loom.trans hloom⟩
  rw [encTrip, on_raise, on_set1_other _ _ _ (by simp) (.inr (by simp)), herr]

/-! ### Good reads (R257) -/

theorem ssiDone_gives {stamp v : Nat} {data : Word} {par : Bool} (hn : n < s.shf.encs.length) (hruns : s.encRuns n 2 = true)
    (hread : (s.enc n).reading = some stamp) (hdue : s.due (stamp + s.ssiLength n) = true)
    (hpar : s.on (F.SHF_ENCn_SSI_PAR n) = true → (onesBelow (s.ssiBits n) (data.toNat % 2 ^ s.ssiBits n) + bit1 par) % 2 = 0)
    (hv : v = if s.on (F.SHF_ENCn_SSI_GRAY n) then grayDecode (s.ssiBits n) (data.toNat % 2 ^ s.ssiBits n)
      else data.toNat % 2 ^ s.ssiBits n)
    (hnear : (s.enc n).good = true → (s.ssiMoved n v).natAbs ≤ 2 ^ s.ssiPosBits n / 2) :
    let t := s.ssiDone n data par true
    (t.enc n).reading = none ∧ (t.enc n).good = true ∧ (t.enc n).te = some stamp ∧ t.encPos n = v % 2 ^ s.ssiPosBits n ∧
      (t.enc n).turns = BitVec.ofNat 32 (v / 2 ^ s.ssiPosBits n) ∧ t.clk = s.clk ∧
      (∀ b, b ≠ R.SHF_ENCn_POS n → b ≠ R.SHF_ENCn_STAT n → b ≠ R.SHF_EMU_STAT →
        ((s.enc n).latchAt = some s.count → b ≠ R.SHF_ENCn_Li n 3) → t.rd b = s.rd b) := by
  have hlen : n < (s.readEnded n stamp).shf.encs.length := by rw [readEnded, length_modEnc]; exact hn
  have henc := enc_readEnded s stamp hn
  have htaken := ssiTake_taken (s.readEnded n stamp) v stamp hlen
  rw [← ssiDone_takes hruns hread hdue hpar hv hnear] at htaken
  have hlatch : ((s.readEnded n stamp).enc n).latchAt = (s.enc n).latchAt := by rw [henc]
  intro t
  refine ⟨htaken.reading.trans (by rw [henc]), htaken.good, htaken.te, ?_, htaken.turns, htaken.clk, fun b hpos hstat _ hli => ?_⟩
  · rw [encPos, htaken.pos, htaken.high]
    exact Nat.mod_add_div' _ _
  · exact htaken.regs b fun h => h.elim hpos fun h => h.elim hstat fun ⟨hl, hb⟩ => hli (hlatch.symm.trans hl) hb

end State

open State in
/-- Settles O28: each event of an interface, by its guard and by what it writes. -/
theorem shaftFeedback : Obligations.ShaftFeedback := by
  unfold Obligations.ShaftFeedback
  refine ⟨fun s n qb hshape hruns hjudged hmay hother p hp => ⟨_, rfl, ?_⟩, fun s n qb hmay => congrArg Host.Outcome.next (encStep_waits n qb hmay),
    fun s n qb hstop => ⟨congrArg Host.Outcome.next ?_, congrArg Host.Outcome.next ?_, congrArg Host.Outcome.next ?_⟩,
    fun s n hshape hruns hjudged hqa hqb => ⟨_, rfl, ?_⟩,
    fun s n hruns hlatch hmay hgate => ⟨fun hhomed => ⟨_, rfl, ?_⟩, fun hhomed htol => ⟨_, rfl, ?_⟩, fun hhomed hpol htol => ⟨_, rfl, ?_⟩,
      fun hhomed hpol htol => ⟨_, rfl, ?_⟩, fun hhomed hpol htol => ⟨_, rfl, ?_⟩⟩,
    fun s n data par i hshape hruns hread hdue => ⟨_, rfl, ?_⟩,
    fun s n data par i v hshape hruns hread hdue hpar hv hnear => ⟨_, rfl, ?_⟩,
    fun s n d hshape hat hdue hen hmill hmode haddr => ⟨_, rfl, ?_⟩,
    fun s n hshape hruns hmoves hdue => ⟨_, rfl, encStill_gives (by rw [hshape.encs]; exact n.isLt) hruns hmoves hdue⟩,
    fun s hen hruns hdue hway => ⟨_, rfl, ?_⟩⟩
  · exact encStep_gives (by rw [hshape.encs]; exact n.isLt) hruns hjudged hmay hother hp
  · unfold encStep; simp [encJudged_of_stopped _ hstop]
  · unfold encIllegal; simp [encJudged_of_stopped _ hstop]
  · unfold encIndex; simp [hstop]
  · exact encIllegal_gives (by rw [hshape.encs]; exact n.isLt) hruns hjudged hqa hqb
  · rw [encIndex_cases hruns hlatch hmay hgate, if_pos hhomed]
    exact index_homes hruns
  · have hseen := indexSeen_moves s n
    rw [encIndex_cases hruns hlatch hmay hgate, if_neg (by simp [hhomed]), if_pos htol]
    exact ⟨sent_indexSeen (mode_of_encRuns hruns).2 n, hseen.regs, hseen.clk, hseen.loom⟩
  · rw [encIndex_cases hruns hlatch hmay hgate, if_neg (by simp [hhomed]), if_neg (not_le.mpr htol), if_pos hpol]
    obtain ⟨hpos, hcap, herr, -, hsent, -, -, hclk, hloom⟩ := index_errs s n (mode_of_encRuns hruns).2
    exact ⟨hpos, hcap, herr, hsent, hclk, hloom⟩
  · rw [encIndex_cases hruns hlatch hmay hgate, if_neg (by simp [hhomed]), if_neg (not_le.mpr htol), if_neg (by omega), if_pos hpol]
    exact index_corrects hruns _
  · rw [encIndex_cases hruns hlatch hmay hgate, if_neg (by simp [hhomed]), if_neg (not_le.mpr htol), if_neg (by omega), if_neg (by omega)]
    exact index_trips (mode_of_encRuns hruns).2 n
  · rw [ssiDone_fails data par hruns hread hdue]
    exact failedRead_gives s n i (by rw [hshape.encs]; exact n.isLt)
  · exact ssiDone_gives (by rw [hshape.encs]; exact n.isLt) hruns hread hdue hpar hv hnear
  · rw [shfDeposit_eq hat hdue hen hmill hmode haddr]
    exact deposited_gives (by rw [hshape.encs]; exact n.isLt)
  · rw [emuStep_eq hen hruns hdue hway]
    refine emulated_gives s _ ?_
    split
    · exact lt_of_lt_of_le (Nat.mod_lt _ s.eppr_fits.1) s.eppr_fits.2
    · exact lt_of_lt_of_le (Nat.mod_lt _ s.eppr_fits.1) s.eppr_fits.2

end Sys2Proof.Machine

/-! Accesses of a host to registers: what a write that passes its checks and a read leave beside their registers' own behaviour, and
what the access codes of R2 give a field. -/

namespace Sys2Proof.Machine

set_option Elab.async false

/-! ### Bits of a word -/

theorem bitAt_eq_getLsbD (v : Word) (i : Nat) : bitAt v i = v.getLsbD i := rfl

/-- Words that agree in the bits of a field agree in the field. -/
theorem getBits_congr {u v : Word} {lo w : Nat} (h : ∀ i < w, u.getLsbD (lo + i) = v.getLsbD (lo + i)) : getBits u lo w = getBits v lo w := by
  refine Nat.eq_of_testBit_eq fun i => ?_
  rw [testBit_getBits, testBit_getBits]
  by_cases hi : i < w
  · rw [h i hi]
  · simp [hi]

theorem getBits_one_eq_bit1 (v : Word) (lo : Nat) : getBits v lo 1 = bit1 (v.getLsbD lo) := by
  refine Nat.eq_of_testBit_eq fun i => ?_
  rw [testBit_getBits]
  cases i with
  | zero => cases v.getLsbD lo <;> simp [bit1]
  | succ i => cases v.getLsbD lo <;> simp [bit1, Nat.testBit_succ]

theorem getBits_one_bne_zero (v : Word) (lo : Nat) : (getBits v lo 1 != 0) = v.getLsbD lo := by
  rw [getBits_one_eq_bit1]
  cases v.getLsbD lo <;> rfl

/-- A flag of one bit is that bit of its register. -/
theorem State.on_eq_getLsbD (s : State) (a lo : Nat) : s.on ⟨a, lo, 1⟩ = (s.rd a).getLsbD lo := getBits_one_bne_zero ..

/-! ### The access codes (R2) -/

/-- The bits that a write stores as presented: those with code RW, RWL or RWS. -/
def RegRow.plain (r : RegRow) : Word := r.rw ||| r.rwl ||| r.rws

theorem getLsbD_mergeWrite (r : RegRow) (old v : Word) {i : Nat} (hi : i < 32) :
    (mergeWrite r old v).getLsbD i =
      ((((old.getLsbD i && !r.plain.getLsbD i) || (v.getLsbD i && r.plain.getLsbD i)) && !(v.getLsbD i && r.w1c.getLsbD i)) ||
        (v.getLsbD i && r.w1s.getLsbD i)) := by
  have hw : ∀ m : Word, (~~~ m).getLsbD i = !m.getLsbD i := fun m => by rw [BitVec.getLsbD_not, decide_eq_true hi, Bool.true_and]
  simp only [mergeWrite, BitVec.getLsbD_or, BitVec.getLsbD_and, hw, RegRow.plain]

/-- A field whose bits are all of the codes RW, RWL or RWS takes the value presented. -/
theorem getBits_mergeWrite_plain {r : RegRow} {lo w : Nat} (old v : Word) (hw : lo + w ≤ 32)
    (hm : ∀ i < w, r.plain.getLsbD (lo + i) = true) (hc : ∀ i < w, r.w1c.getLsbD (lo + i) = false)
    (hs : ∀ i < w, r.w1s.getLsbD (lo + i) = false) : getBits (mergeWrite r old v) lo w = getBits v lo w := by
  refine getBits_congr fun i hi => ?_
  rw [getLsbD_mergeWrite _ _ _ (by omega), hm i hi, hc i hi, hs i hi]
  simp

/-- A field none of whose bits software changes stays. -/
theorem getBits_mergeWrite_kept {r : RegRow} {lo w : Nat} (old v : Word) (hw : lo + w ≤ 32)
    (hm : ∀ i < w, r.plain.getLsbD (lo + i) = false) (hc : ∀ i < w, r.w1c.getLsbD (lo + i) = false)
    (hs : ∀ i < w, r.w1s.getLsbD (lo + i) = false) : getBits (mergeWrite r old v) lo w = getBits old lo w := by
  refine getBits_congr fun i hi => ?_
  rw [getLsbD_mergeWrite _ _ _ (by omega), hm i hi, hc i hi, hs i hi]
  simp

/-- A W1C bit clears where the value has a 1. -/
theorem getLsbD_mergeWrite_w1c {r : RegRow} {i : Nat} (old v : Word) (hi : i < 32) (hm : r.plain.getLsbD i = false)
    (hc : r.w1c.getLsbD i = true) (hs : r.w1s.getLsbD i = false) : (mergeWrite r old v).getLsbD i = (old.getLsbD i && !v.getLsbD i) := by
  rw [getLsbD_mergeWrite _ _ _ hi, hm, hc, hs]
  simp

namespace State

variable {s t u : State} {a : Nat} {v : Word} {w : World} {r : RegRow}

theorem stored_eq (s : State) (v : Word) (h : regRow? a = some r) : s.stored a v = mergeWrite r (s.rd a) v := by
  rw [stored, h]

theorem storePlain_moves (s : State) (a : Nat) (v : Word) : Moves [.regs] s (s.storePlain a v) := by
  unfold storePlain
  split
  · exact .refl s
  · exact Moves.wr (.refl s)

theorem rd_storePlain_same (s : State) (a : Nat) (v : Word) : (s.storePlain a v).rd a = s.stored a v := by
  rw [rd_storePlain, if_pos rfl]

theorem rd_storePlain_other (s : State) {a b : Nat} (v : Word) (h : b ≠ a) : (s.storePlain a v).rd b = s.rd b := by
  rw [rd_storePlain, if_neg h]

/-- A plain store leaves the fields of the other registers. -/
theorem get_storePlain_other (s : State) {a : Nat} {f : Fld} (v : Word) (h : f.addr ≠ a) : (s.storePlain a v).get f = s.get f := by
  rw [get, rd_storePlain_other _ _ h, get]

theorem on_storePlain_other (s : State) {a : Nat} {f : Fld} (v : Word) (h : f.addr ≠ a) : (s.storePlain a v).on f = s.on f := by
  rw [on, get_storePlain_other _ _ h, on]

theorem Writes.storePlain {P : Nat → Prop} (h : s.Writes P t) (ha : P a) : s.Writes P (t.storePlain a v) := fun b hb => by
  have hne : b ≠ a := fun e => hb (e ▸ ha)
  rw [rd_storePlain_other _ _ hne, h b hb]

/-- A field that software writes takes the value's bits at a plain store. -/
theorem get_storePlain_plain (s : State) {f : Fld} (v : Word) (hr : regRow? f.addr = some r) (hw : f.lo + f.width ≤ 32)
    (hm : ∀ i < f.width, r.plain.getLsbD (f.lo + i) = true) (hc : ∀ i < f.width, r.w1c.getLsbD (f.lo + i) = false)
    (hs : ∀ i < f.width, r.w1s.getLsbD (f.lo + i) = false) : (s.storePlain f.addr v).get f = getBits v f.lo f.width := by
  rw [get, rd_storePlain_same, stored_eq s v hr, getBits_mergeWrite_plain _ _ hw hm hc hs]

theorem get_storePlain_kept (s : State) {f : Fld} (v : Word) (hr : regRow? f.addr = some r) (hw : f.lo + f.width ≤ 32)
    (hm : ∀ i < f.width, r.plain.getLsbD (f.lo + i) = false) (hc : ∀ i < f.width, r.w1c.getLsbD (f.lo + i) = false)
    (hs : ∀ i < f.width, r.w1s.getLsbD (f.lo + i) = false) : (s.storePlain f.addr v).get f = s.get f := by
  rw [get, rd_storePlain_same, stored_eq s v hr, getBits_mergeWrite_kept _ _ hw hm hc hs, get]

/-! ### A host's access -/

theorem transact_moves (s t : State) (k n : Nat) : Moves [.tst] t (s.transact t k n) := by
  obtain ⟨_, _, e⟩ := transact_shape s t k n
  rw [e]
  exact (Moves.refl t).record

theorem takePort_moves (s : State) (a : Nat) : Moves [.cycle] s (s.takePort a) := by
  obtain ⟨_, e⟩ := takePort_shape s a
  rw [e]
  exact (Moves.refl s).record

theorem markWritten_moves (s : State) (a : Nat) (m : Word) : Moves [.cycle] s (s.markWritten a m) := (Moves.refl s).record

/-- A write that passes its checks, of a register that the latency policy does not watch, leaves what the register's behaviour leaves
but for the cycle's record and a generator's draw. -/
theorem write_moves (h : s.accepts w a v) (hp : movesPolicy a = false) : Moves [.cycle, .tst] (s.hook a v) (s.write w a v) := by
  rw [write_accepted h, policyFor_plain _ hp]
  exact (((markWritten_moves ..).mono (by decide)).trans ((transact_moves ..).mono (by decide))).trans ((takePort_moves ..).mono (by decide))

theorem busRead_block (s : State) (m : Master) (w : World) (ha : a % 4 = 0) (hb : regionOf a = .block) :
    s.busRead m w a = (s.readEffect a, s.shown a, .written) := by
  have hw : a / 4 * 4 = a := by omega
  simp only [busRead, hw, hb]

/-- A read of a register leaves what the register's behaviour leaves but for the cycle's record and a generator's draw. -/
theorem read_moves (h : s.sys.phase = .run) (w : World) (ha : a % 4 = 0) (hb : regionOf a = .block) :
    Moves [.cycle, .tst] (s.readEffect a) (s.read w a) := by
  rw [read, if_pos h, regRead, busRead_block s _ w ha hb]
  exact ((transact_moves ..).mono (by decide)).trans ((takePort_moves ..).mono (by decide))

end State
end Sys2Proof.Machine

/-! Latched reads, compare units and the RTC (R34 to R40). -/

namespace Sys2Proof.Machine

set_option Elab.async false
namespace State

variable {s t : State} {v : Word} {w : World}

/-! ### Reads that latch -/

/-- What a read leaves when its register's behaviour writes only registers of `P` and leaves the clock as `u` has it. -/
theorem read_rd {a : Nat} (h : s.sys.phase = .run) (w : World) (ha : a % 4 = 0) (hb : regionOf a = .block) (b : Nat) :
    (s.read w a).rd b = (s.readEffect a).rd b := rd_congr (read_moves h w ha hb).regs b

theorem read_clk {a : Nat} (h : s.sys.phase = .run) (w : World) (ha : a % 4 = 0) (hb : regionOf a = .block) :
    (s.read w a).clk = (s.readEffect a).clk := (read_moves h w ha hb).clk

theorem readEffect_CLK_CAPn_LO (s : State) (n : Fin 8) : s.readEffect (R.CLK_CAPn_LO n) = s.latchCapture n := by
  fin_cases n <;> rfl

theorem readEffect_CLK_CAPn_HI (s : State) (n : Fin 8) : s.readEffect (R.CLK_CAPn_HI n) = s.takeCapture n := by
  fin_cases n <;> rfl

theorem CLK_CAPn_LO_isRegister (n : Fin 8) : R.CLK_CAPn_LO n % 4 = 0 ∧ regionOf (R.CLK_CAPn_LO n) = .block := by
  fin_cases n <;> exact ⟨rfl, rfl⟩

theorem CLK_CAPn_HI_isRegister (n : Fin 8) : R.CLK_CAPn_HI n % 4 = 0 ∧ regionOf (R.CLK_CAPn_HI n) = .block := by
  fin_cases n <;> exact ⟨rfl, rfl⟩

theorem tbLoRead_gives (hrun : s.sys.phase = .run) : Completes (.tbLoRead w) s fun t =>
    t.rd R.CLK_TB_HI = BitVec.ofNat 32 (s.count / 2 ^ 32) ∧
    t.rd R.CLK_TB_FINE = BitVec.ofNat 32 (s.clk.fine.toNat + 65536 * s.clk.epoch.toNat) ∧
    (∀ b, b ≠ R.CLK_TB_HI → b ≠ R.CLK_TB_FINE → t.rd b = s.rd b) ∧ t.clk = s.clk := by
  have hrd : ∀ b, (s.read w R.CLK_TB_LO).rd b = s.latchTimebase.rd b := read_rd hrun w rfl rfl
  refine ⟨_, rfl, (hrd _).trans ?_, (hrd _).trans ?_, fun b h1 h2 => (hrd b).trans ?_, read_clk hrun w rfl rfl⟩
  · rw [latchTimebase, rd_wr, if_neg (by decide), rd_wr, if_pos rfl]
  · rw [latchTimebase, rd_wr, if_pos rfl]
  · rw [latchTimebase, rd_wr, if_neg h2, rd_wr, if_neg h1]

theorem captureLoRead_gives (hrun : s.sys.phase = .run) (n : Fin 8) : Completes (.captureLoRead w n) s fun t =>
    t.rd (R.CLK_CAPn_HI n) = nth s.clk.capHi n 0 ∧ (∀ b, b ≠ R.CLK_CAPn_HI n → t.rd b = s.rd b) ∧ t.clk = s.clk := by
  obtain ⟨ha, hb⟩ := CLK_CAPn_LO_isRegister n
  have heff := readEffect_CLK_CAPn_LO s n
  have hrd := fun b => read_rd hrun w ha hb b
  have hclk := read_clk hrun w ha hb
  rw [heff] at hclk
  simp only [heff, latchCapture, rd_wr] at hrd
  exact ⟨_, rfl, (hrd _).trans (if_pos rfl), fun b h => (hrd b).trans (if_neg h), hclk⟩

theorem captureHiRead_gives (hrun : s.sys.phase = .run) (n : Fin 8) : Completes (.captureHiRead w n) s fun t =>
    t.on (F.CLK_CAPn_CTRL_VALID n) = false ∧ (∀ b, b ≠ R.CLK_CAPn_CTRL n → t.rd b = s.rd b) ∧ t.clk = s.clk := by
  obtain ⟨ha, hb⟩ := CLK_CAPn_HI_isRegister n
  have heff := readEffect_CLK_CAPn_HI s n
  have hmoves := read_moves hrun w ha hb
  rw [heff] at hmoves
  refine ⟨_, rfl, (on_congr hmoves.regs _).trans (on_clr_same _ _ (by simp)), fun b h => (rd_congr hmoves.regs b).trans ?_,
    hmoves.clk.trans (clr_clk ..)⟩
  exact rd_put_other _ _ _ _ h

theorem rtcTbLoRead_gives (hrun : s.sys.phase = .run) : Completes (.rtcTbLoRead w) s fun t =>
    t.rd R.CLK_RTC_TB_HI = BitVec.ofNat 32 (s.clk.rtcTb.toNat / 2 ^ 32) ∧ (∀ b, b ≠ R.CLK_RTC_TB_HI → t.rd b = s.rd b) ∧ t.clk = s.clk := by
  have hrd : ∀ b, (s.read w R.CLK_RTC_TB_LO).rd b = s.latchRtcTb.rd b := read_rd hrun w rfl rfl
  simp only [latchRtcTb, rd_wr] at hrd
  exact ⟨_, rfl, (hrd _).trans (if_pos rfl), fun b h => (hrd b).trans (if_neg h), read_clk hrun w rfl rfl⟩

/-- The sub-second count that is shown lies between the last one shown and its greatest value. -/
theorem rtcSubNow_bounds (s : State) : s.clk.rtcSub.toNat ≤ s.rtcSubNow ∧ s.rtcSubNow < 32768 := by
  have hknown : s.clk.rtcSub.toNat < 32768 := s.clk.rtcSub.isLt
  unfold rtcSubNow
  dsimp only
  split
  · have := Nat.mod_lt (Config.rtcTicks s.draws) (y := 32768 - s.clk.rtcSub.toNat) (by omega)
    omega
  · next t _ =>
    split
    · exact ⟨le_rfl, hknown⟩
    · generalize (s.rtcNominal t - 8).toNat = lo
      generalize (s.rtcNominal t + 8).toNat = hi
      have := Nat.mod_lt (Config.rtcTicks s.draws) (y := min 32767 hi - min 32767 (max s.clk.rtcSub.toNat lo) + 1) (by omega)
      omega

theorem rtcLoRead_gives (hrun : s.sys.phase = .run) : Completes (.rtcLoRead w) s fun t =>
    t.rd R.CLK_RTC_SEC_HI = BitVec.ofNat 32 (s.clk.rtcSec.toNat / 2 ^ 32) ∧
    s.clk.rtcSub.toNat ≤ (t.rd R.CLK_RTC_SUB).toNat ∧ (t.rd R.CLK_RTC_SUB).toNat < 32768 ∧
    t.clk = { s.clk with rtcSub := (t.rd R.CLK_RTC_SUB).setWidth 15 } ∧
    (∀ b, b ≠ R.CLK_RTC_SEC_HI → b ≠ R.CLK_RTC_SUB → t.rd b = s.rd b) := by
  obtain ⟨hlo, hhi⟩ := rtcSubNow_bounds s
  have hrd : ∀ b, (s.read w R.CLK_RTC_SEC_LO).rd b = if b = R.CLK_RTC_SUB then BitVec.ofNat 32 s.rtcSubNow else
      if b = R.CLK_RTC_SEC_HI then BitVec.ofNat 32 (s.clk.rtcSec.toNat / 2 ^ 32) else s.rd b := fun b => by
    refine (read_rd hrun w rfl rfl b).trans ((rd_congr (t := s.latchRtc) (s := (s.wr R.CLK_RTC_SEC_HI _).wr R.CLK_RTC_SUB _) rfl b).trans ?_)
    simp only [rd_wr]
  have hsub : (s.read w R.CLK_RTC_SEC_LO).rd R.CLK_RTC_SUB = BitVec.ofNat 32 s.rtcSubNow := (hrd _).trans (if_pos rfl)
  have hnat : (BitVec.ofNat 32 s.rtcSubNow).toNat = s.rtcSubNow := by simp; omega
  have hwidth : BitVec.ofNat 15 s.rtcSubNow = (BitVec.ofNat 32 s.rtcSubNow).setWidth 15 := by
    apply BitVec.eq_of_toNat_eq; simp
  refine ⟨_, rfl, (hrd _).trans rfl, ?_, ?_, (read_clk hrun w rfl rfl).trans ?_,
    fun b h1 h2 => (hrd b).trans ((if_neg h2).trans (if_neg h1))⟩
  · rw [hsub, hnat]; exact hlo
  · rw [hsub, hnat]; exact hhi
  · rw [hsub, ← hwidth]
    rfl

/-! ### Compare units (R35, R36) -/

theorem cmpTarget_congr (n : Nat) (hlo : t.rd (R.CLK_CMPn_LO n) = s.rd (R.CLK_CMPn_LO n)) (hhi : t.rd (R.CLK_CMPn_HI n) = s.rd (R.CLK_CMPn_HI n)) :
    t.cmpTarget n = s.cmpTarget n := by
  rw [cmpTarget, hlo, hhi, cmpTarget]

/-- A unit whose target is to come is left alone. -/
theorem cmpLate_ahead (s : State) (n : Nat) (h : s.count < s.cmpTarget n) : s.cmpLate n = s := if_neg (Nat.not_le.mpr h)

/-- A unit whose target has gone is MISSED and no longer armed, and only its own CTRL tells. -/
structure MissedUnit (s t : State) (n : Nat) : Prop where
  missed : t.on (F.CLK_CMPn_CTRL_MISSED n) = true
  disarmed : t.on (F.CLK_CMPn_CTRL_EN n) = false
  clk : t.clk = s.clk
  regs : s.Writes (· = R.CLK_CMPn_CTRL n) t

theorem cmpLate_missed (s : State) (n : Nat) (h : s.cmpTarget n ≤ s.count) : s.MissedUnit (s.cmpLate n) n := by
  have hwrites : s.Writes (· = R.CLK_CMPn_CTRL n) ((s.set1 (F.CLK_CMPn_CTRL_MISSED n)).clr (F.CLK_CMPn_CTRL_EN n)) :=
    Writes.clr (P := (· = R.CLK_CMPn_CTRL n)) (f := F.CLK_CMPn_CTRL_EN n)
      (Writes.set1 (P := (· = R.CLK_CMPn_CTRL n)) (f := F.CLK_CMPn_CTRL_MISSED n) (.refl s) rfl) rfl
  rw [cmpLate, if_pos h]
  refine ⟨?_, on_clr_same _ _ (by simp), rfl, hwrites⟩
  rw [on_clr_other _ _ _ (by simp) (.inr (.inr (by decide : 0 + 1 ≤ 8))), on_set1_same _ _ (by simp) (by simp)]

/-- The state with both halves of a unit's target loaded. -/
def targetLoaded (s : State) (n : Nat) (v : Word) : State := (s.wr (R.CLK_CMPn_LO n) (nth s.clk.cmpHeldLo n 0)).wr (R.CLK_CMPn_HI n) v

theorem cmpTarget_targetLoaded (s : State) (n : Nat) (v : Word) :
    (s.targetLoaded n v).cmpTarget n = (nth s.clk.cmpHeldLo n 0).toNat + 2 ^ 32 * v.toNat := by
  have hne : R.CLK_CMPn_LO n ≠ R.CLK_CMPn_HI n := by simp only [R.CLK_CMPn_LO, R.CLK_CMPn_HI]; omega
  simp only [cmpTarget, targetLoaded, rd_wr, if_neg hne, if_true]

theorem targetLoaded_writes (s : State) (n : Nat) (v : Word) :
    s.Writes (fun b => b = R.CLK_CMPn_LO n ∨ b = R.CLK_CMPn_HI n) (s.targetLoaded n v) := ((Writes.refl s).wr (.inl rfl)).wr (.inr rfl)

theorem compareTargetLoad_ahead (n : Fin 16) (ha : s.accepts w (R.CLK_CMPn_HI n) v)
    (hlt : s.count < (nth s.clk.cmpHeldLo n 0).toNat + 2 ^ 32 * v.toNat) : Completes (.compareTargetLoad w n v) s fun t =>
      t.cmpTarget n = (nth s.clk.cmpHeldLo n 0).toNat + 2 ^ 32 * v.toNat ∧ t.rd (R.CLK_CMPn_CTRL n) = s.rd (R.CLK_CMPn_CTRL n) ∧
      t.clk = s.clk := by
  have hmoves := write_moves ha (movesPolicy_cmpHi n)
  have hcmp : s.cmpLoad n v = s.targetLoaded n v := cmpLate_ahead (s.targetLoaded n v) n (by rw [cmpTarget_targetLoaded]; exact hlt)
  rw [hook_CLK_CMPn_HI, hcmp] at hmoves
  refine ⟨_, rfl, ?_, (rd_congr hmoves.regs _).trans ((targetLoaded_writes s n v).rd ?_), hmoves.clk⟩
  · rw [← cmpTarget_targetLoaded]
    exact cmpTarget_congr n (rd_congr hmoves.regs _) (rd_congr hmoves.regs _)
  · simp only [R.CLK_CMPn_LO, R.CLK_CMPn_HI, R.CLK_CMPn_CTRL]; omega

theorem compareTargetLoad_late (n : Fin 16) (ha : s.accepts w (R.CLK_CMPn_HI n) v)
    (hle : (nth s.clk.cmpHeldLo n 0).toNat + 2 ^ 32 * v.toNat ≤ s.count) : Completes (.compareTargetLoad w n v) s fun t =>
      t.on (F.CLK_CMPn_CTRL_MISSED n) = true ∧ t.on (F.CLK_CMPn_CTRL_EN n) = false ∧ t.clk = s.clk := by
  have hmoves := write_moves ha (movesPolicy_cmpHi n)
  rw [hook_CLK_CMPn_HI] at hmoves
  have hlate := cmpLate_missed (s.targetLoaded n v) n (by rw [cmpTarget_targetLoaded]; exact hle)
  exact ⟨_, rfl, (on_congr hmoves.regs _).trans hlate.missed, (on_congr hmoves.regs _).trans hlate.disarmed, hmoves.clk.trans hlate.clk⟩

/-- How software reaches CLK_CMPn_CTRL: EN is RW, MISSED and FIRED are W1C. -/
def cmpCtrlRow : RegRow := { base := 0x4001010C, dims := [(0x10, 16)], reset := 0x0, rw := 0x1, w1c := 0x300 }

theorem regRow?_CLK_CMPn_CTRL (n : Fin 16) : regRow? (R.CLK_CMPn_CTRL n) = some cmpCtrlRow := by
  fin_cases n <;> rfl

theorem on_EN_cmpCtrl_store (s : State) (n : Fin 16) (v : Word) :
    (s.storePlain (R.CLK_CMPn_CTRL n) (v ||| 1)).on (F.CLK_CMPn_CTRL_EN n) = true := by
  rw [on_eq_getLsbD, rd_storePlain_same, stored_eq s _ (regRow?_CLK_CMPn_CTRL n), getLsbD_mergeWrite _ _ _ (by decide), BitVec.getLsbD_or]
  simp [RegRow.plain, cmpCtrlRow]

theorem on_MISSED_cmpCtrl_store (s : State) (n : Fin 16) (v : Word) :
    (s.storePlain (R.CLK_CMPn_CTRL n) (v ||| 1)).on (F.CLK_CMPn_CTRL_MISSED n) = (s.on (F.CLK_CMPn_CTRL_MISSED n) && !bitAt v 8) := by
  have hor : (v ||| 1).getLsbD 8 = v.getLsbD 8 := by rw [BitVec.getLsbD_or]; exact Bool.or_false _
  rw [on_eq_getLsbD, rd_storePlain_same, stored_eq s _ (regRow?_CLK_CMPn_CTRL n),
    getLsbD_mergeWrite_w1c _ _ (by decide) (by decide) (by decide) (by decide), hor, on_eq_getLsbD, bitAt_eq_getLsbD]

theorem storePlain_CTRL_writes (s : State) (n : Nat) (v : Word) : s.Writes (· = R.CLK_CMPn_CTRL n) (s.storePlain (R.CLK_CMPn_CTRL n) v) :=
  (Writes.refl s).storePlain rfl

theorem Writes.cmpTarget {n : Nat} (h : s.Writes (· = R.CLK_CMPn_CTRL n) t) : t.cmpTarget n = s.cmpTarget n :=
  cmpTarget_congr n (h.rd (by simp only [R.CLK_CMPn_LO, R.CLK_CMPn_CTRL]; omega)) (h.rd (by simp only [R.CLK_CMPn_HI, R.CLK_CMPn_CTRL]; omega))

/-- A unit that has fired in this cycle, or whose target is to come, stores the write alone. -/
theorem cmpCtrl_stores (n : Fin 16) (h : bitAt (s.setNow (R.CLK_CMPn_CTRL n)) 9 = true ∨ s.count < s.cmpTarget n) :
    s.cmpCtrl n (v ||| 1) = s.storePlain (R.CLK_CMPn_CTRL n) (v ||| 1) := by
  unfold cmpCtrl
  dsimp only
  split
  · next hgo =>
    obtain ⟨-, -, hfired⟩ := hgo
    rcases h with h | h
    · rw [h] at hfired; cases hfired
    · refine cmpLate_ahead _ n ?_
      rw [(storePlain_CTRL_writes s n _).cmpTarget, storePlain_count]
      exact h
  · rfl

/-- A unit that is armed when its target has gone is missed. -/
theorem cmpCtrl_late (n : Fin 16) (hen : s.on (F.CLK_CMPn_CTRL_EN n) = false)
    (hf : bitAt (s.setNow (R.CLK_CMPn_CTRL n)) 9 = false) :
    s.cmpCtrl n (v ||| 1) = (s.storePlain (R.CLK_CMPn_CTRL n) (v ||| 1)).cmpLate n := by
  have hbit : bitAt (v ||| 1) 0 = true := by rw [bitAt_eq_getLsbD, BitVec.getLsbD_or]; exact Bool.or_true _
  unfold cmpCtrl
  simp only [hbit, hen, hf, Bool.not_false, and_self, if_true]

theorem compareEnable_gives (n : Fin 16) (ha : s.accepts w (R.CLK_CMPn_CTRL n) (v ||| 1)) (hen : s.on (F.CLK_CMPn_CTRL_EN n) = false) :
    (bitAt (s.setNow (R.CLK_CMPn_CTRL n)) 9 = true → Completes (.compareEnable w n v) s fun t =>
      t.on (F.CLK_CMPn_CTRL_EN n) = true ∧ t.on (F.CLK_CMPn_CTRL_MISSED n) = (s.on (F.CLK_CMPn_CTRL_MISSED n) && !bitAt v 8)) ∧
    (s.count < s.cmpTarget n → Completes (.compareEnable w n v) s fun t =>
      t.on (F.CLK_CMPn_CTRL_EN n) = true ∧ t.cmpTarget n = s.cmpTarget n ∧ (∀ b, b ≠ R.CLK_CMPn_CTRL n → t.rd b = s.rd b)) ∧
    (s.cmpTarget n ≤ s.count → bitAt (s.setNow (R.CLK_CMPn_CTRL n)) 9 = false → Completes (.compareEnable w n v) s fun t =>
      t.on (F.CLK_CMPn_CTRL_EN n) = false ∧ t.on (F.CLK_CMPn_CTRL_MISSED n) = true ∧ t.cmpTarget n = s.cmpTarget n) := by
  have hmoves := write_moves ha (movesPolicy_cmpCtrl n)
  have hwrites := storePlain_CTRL_writes s n (v ||| 1)
  rw [hook_CLK_CMPn_CTRL] at hmoves
  refine ⟨fun hf => ⟨_, rfl, ?_⟩, fun hlt => ⟨_, rfl, ?_⟩, fun hle hf => ⟨_, rfl, ?_⟩⟩
  · rw [cmpCtrl_stores n (.inl hf)] at hmoves
    exact ⟨(on_congr hmoves.regs _).trans (on_EN_cmpCtrl_store s n v), (on_congr hmoves.regs _).trans (on_MISSED_cmpCtrl_store s n v)⟩
  · rw [cmpCtrl_stores n (.inr hlt)] at hmoves
    exact ⟨(on_congr hmoves.regs _).trans (on_EN_cmpCtrl_store s n v), (hwrites.regs hmoves.regs).cmpTarget,
      fun b hb => (hwrites.regs hmoves.regs).rd hb⟩
  · rw [cmpCtrl_late n hen hf] at hmoves
    have hlate := cmpLate_missed (s.storePlain (R.CLK_CMPn_CTRL n) (v ||| 1)) n
      (hwrites.cmpTarget.trans_le (hle.trans_eq (storePlain_count ..).symm))
    exact ⟨(on_congr hmoves.regs _).trans hlate.disarmed, (on_congr hmoves.regs _).trans hlate.missed,
      ((hwrites.trans hlate.regs).regs hmoves.regs).cmpTarget⟩

/-- A unit whose target has come, with its event raised and FIRED set. -/
def matched (s : State) (n : Nat) : State := (s.raise (0xE0 + n)).set1 (F.CLK_CMPn_CTRL_FIRED n)

theorem matched_writes (s : State) (n : Nat) : s.Writes (· = R.CLK_CMPn_CTRL n) (s.matched n) :=
  .set1 (f := F.CLK_CMPn_CTRL_FIRED n) (.raise (.refl s)) rfl

theorem on_EN_matched (s : State) (n : Nat) : (s.matched n).on (F.CLK_CMPn_CTRL_EN n) = s.on (F.CLK_CMPn_CTRL_EN n) := by
  rw [matched, on_set1_other _ _ _ (by simp) (.inr (.inl (by decide : 0 + 1 ≤ 9))), on_raise]

theorem on_FIRED_matched (s : State) (n : Nat) : (s.matched n).on (F.CLK_CMPn_CTRL_FIRED n) = true := on_set1_same _ _ (by simp) (by simp)

theorem sent_matched (hruns : s.coreRuns = true) (n : Nat) : s.sent (s.matched n) (0xE0 + n) :=
  (sent_raise (t := s) (s := s) hruns rfl (0xE0 + n)).of_events (set1_events ..)

/-- The two halves of a target make it up again. -/
theorem cmpTarget_putTarget (s : State) (n x : Nat) : (s.putTarget n x).cmpTarget n = x % 2 ^ 64 := by
  have hne : R.CLK_CMPn_LO n ≠ R.CLK_CMPn_HI n := by simp only [R.CLK_CMPn_LO, R.CLK_CMPn_HI]; omega
  simp only [cmpTarget, putTarget, rd_wr, if_neg hne, if_true, BitVec.toNat_ofNat]
  omega

theorem putTarget_writes (s : State) (n x : Nat) : s.Writes (fun b => b = R.CLK_CMPn_LO n ∨ b = R.CLK_CMPn_HI n) (s.putTarget n x) :=
  .wr (.wr (.refl s) (.inl rfl)) (.inr rfl)

theorem matched_writtenNow (s : State) (n : Nat) (f : Fld) : (s.matched n).writtenNow f = s.writtenNow f :=
  congrArg (fun m => getBits (marksAt m f.addr) f.lo f.width != 0) (congrArg Cycle.swSet (raise_cycle s (0xE0 + n)) :)

/-- A match of a unit without a period disarms it. -/
theorem cmpMatch_once (n : Nat) (hgo : s.coreRuns = true ∧ s.on (F.CLK_CMPn_CTRL_EN n) = true ∧ s.cmpTarget n = s.count)
    (hw : s.writtenNow (F.CLK_CMPn_CTRL_EN n) = false) (hper : s.rd (R.CLK_CMPn_PER n) = 0) :
    s.cmpMatch n = (s.matched n).clr (F.CLK_CMPn_CTRL_EN n) := by
  unfold cmpMatch
  rw [if_pos hgo]
  dsimp only
  rw [if_pos (by rw [hper]; rfl)]
  change (s.matched n).update _ 0 = _
  rw [update, matched_writtenNow, hw, if_neg Bool.false_ne_true, clr]

/-- A match of a unit with a period advances its target. -/
theorem cmpMatch_again (n : Nat) (hgo : s.coreRuns = true ∧ s.on (F.CLK_CMPn_CTRL_EN n) = true ∧ s.cmpTarget n = s.count)
    (hh : marksAt s.cycle.swSet (R.CLK_CMPn_HI n) = 0) (hper : s.rd (R.CLK_CMPn_PER n) ≠ 0) :
    s.cmpMatch n = (s.matched n).putTarget n (s.cmpTarget n + max 4 (s.rd (R.CLK_CMPn_PER n)).toNat) := by
  have hnat : (s.rd (R.CLK_CMPn_PER n)).toNat ≠ 0 := fun h => hper (BitVec.eq_of_toNat_eq h)
  unfold cmpMatch
  rw [if_pos hgo]
  dsimp only
  rw [if_neg hnat, hh, if_neg (by simp)]
  rfl

theorem compareMatch_gives (n : Fin 16) (hruns : s.coreRuns = true) (hen : s.on (F.CLK_CMPn_CTRL_EN n) = true)
    (ht : s.cmpTarget n = s.count) (hw : s.writtenNow (F.CLK_CMPn_CTRL_EN n) = false) (hh : marksAt s.cycle.swSet (R.CLK_CMPn_HI n) = 0) :
    Completes (.compareMatch n) s fun t =>
      s.sent t (0xE0 + n) ∧ t.on (F.CLK_CMPn_CTRL_FIRED n) = true ∧
      (s.rd (R.CLK_CMPn_PER n) = 0 → t.on (F.CLK_CMPn_CTRL_EN n) = false ∧ t.cmpTarget n = s.cmpTarget n) ∧
      (s.rd (R.CLK_CMPn_PER n) ≠ 0 → t.on (F.CLK_CMPn_CTRL_EN n) = true ∧
        t.cmpTarget n = (s.cmpTarget n + max 4 (s.rd (R.CLK_CMPn_PER n)).toNat) % 2 ^ 64) := by
  have hgo : s.coreRuns = true ∧ s.on (F.CLK_CMPn_CTRL_EN n) = true ∧ s.cmpTarget n = s.count := ⟨hruns, hen, ht⟩
  have hfired := on_FIRED_matched s n
  refine ⟨_, rfl, ?_⟩
  by_cases hper : s.rd (R.CLK_CMPn_PER n) = 0
  · rw [cmpMatch_once n hgo hw hper]
    refine ⟨(sent_matched hruns n).of_events (clr_events ..), ?_, fun _ => ⟨on_clr_same _ _ (by simp), ?_⟩, fun h => absurd hper h⟩
    · rw [on_clr_other _ (F.CLK_CMPn_CTRL_EN n) _ (by simp) (.inr (.inr (by decide : 0 + 1 ≤ 9))), hfired]
    · exact ((matched_writes s n).clr (f := F.CLK_CMPn_CTRL_EN n) rfl).cmpTarget
  · have hlt := putTarget_writes (s.matched n) n (s.cmpTarget n + max 4 (s.rd (R.CLK_CMPn_PER n)).toNat)
    have hctrl : ¬ (R.CLK_CMPn_CTRL n = R.CLK_CMPn_LO n ∨ R.CLK_CMPn_CTRL n = R.CLK_CMPn_HI n) := by
      simp only [R.CLK_CMPn_LO, R.CLK_CMPn_HI, R.CLK_CMPn_CTRL]; omega
    rw [cmpMatch_again n hgo hh hper]
    refine ⟨(sent_matched hruns n).of_events (putTarget_events ..), ?_, fun h => absurd h hper, fun _ => ⟨?_, cmpTarget_putTarget ..⟩⟩
    · rw [hlt.on (f := F.CLK_CMPn_CTRL_FIRED n) hctrl, hfired]
    · rw [hlt.on (f := F.CLK_CMPn_CTRL_EN n) hctrl, on_EN_matched, hen]

/-! ### The RTC (R38 to R40) -/

/-- The state whose RTC holds the seconds that a write loads. -/
def rtcLoaded (s : State) (v : Word) : State := s.modClk (fun c => { c with
  rtcSec := BitVec.ofNat 48 (v.toNat % 65536 * 2 ^ 32 + c.rtcHeldLo.toNat), rtcSub := 0, rtcBase := 0, rtcAt := s.rtcMark })

theorem rtcLoaded_regs (s : State) (v : Word) : (s.rtcLoaded v).regs = s.regs := modClk_regs ..

theorem rtcLoaded_clk (s : State) (v : Word) : (s.rtcLoaded v).clk = { s.clk with
    rtcSec := BitVec.ofNat 48 (v.toNat % 65536 * 2 ^ 32 + s.clk.rtcHeldLo.toNat), rtcSub := 0, rtcBase := 0, rtcAt := s.rtcMark } := rfl

theorem rtcLoad_eq (s : State) (v : Word) : s.rtcLoad v = (s.rtcLoaded v).clr F.SYS_KCTL_RTC_BAD := rfl

theorem rtcSet_gives (ha : s.accepts w R.CLK_RTC_SEC_HI v) : Completes (.rtcSet w v) s fun t =>
    t.clk.rtcSec = BitVec.ofNat 48 (v.toNat % 65536 * 2 ^ 32 + s.clk.rtcHeldLo.toNat) ∧ t.clk.rtcSub = 0 ∧
    t.on F.SYS_KCTL_RTC_BAD = false ∧ (∀ b, b ≠ R.SYS_KCTL → t.rd b = s.rd b) ∧ t.clk.count = s.clk.count := by
  have hmoves := write_moves ha (by decide)
  rw [hook_CLK_RTC_SEC_HI, rtcLoad_eq] at hmoves
  have hclk := (hmoves.clk.trans (clr_clk ..)).trans (rtcLoaded_clk s v)
  have hrd : ∀ b, b ≠ R.SYS_KCTL → ((s.rtcLoaded v).clr F.SYS_KCTL_RTC_BAD).rd b = s.rd b := fun b hb =>
    (rd_put_other (s.rtcLoaded v) F.SYS_KCTL_RTC_BAD 0 b hb).trans (rd_congr (rtcLoaded_regs s v) b)
  exact ⟨_, rfl, congrArg Clk.rtcSec hclk, congrArg Clk.rtcSub hclk, (on_congr hmoves.regs _).trans (on_clr_same _ _ (by simp)),
    fun b hb => (rd_congr hmoves.regs b).trans (hrd b hb), by rw [hclk]⟩

theorem alarm_off (h : s.on F.SYS_KCTL_ALARM_EN = false) : s.alarm = s := by
  unfold alarm
  rw [if_neg]
  rw [h]
  simp

theorem rtcSecond_writes (s : State) : s.Writes (· = R.CLK_RTC_TB_LO) s.rtcSecond := by
  unfold rtcSecond
  dsimp only
  split
  · exact .regs (.wr (.of_regs rfl) rfl) rfl
  · exact .of_regs rfl

/-- The recorded COUNT lies within one cycle of COUNT. -/
theorem rtcOffset_near (s : State) (h1 : 1 ≤ s.count) (h2 : s.count + 1 < 2 ^ 64) :
    s.count - 1 ≤ (BitVec.ofNat 64 (s.count + Config.rtcOffset s.draws % 3 - 1)).toNat ∧
      (BitVec.ofNat 64 (s.count + Config.rtcOffset s.draws % 3 - 1)).toNat ≤ s.count + 1 := by
  rw [BitVec.toNat_ofNat]
  omega

theorem rtcSecond_gives (hk : s.sys.keepLost = false) (hdue : s.rtcDue = true) (ha : s.on F.SYS_KCTL_ALARM_EN = false) :
    Completes .rtcSecond s fun t =>
      t.clk.rtcSec = s.clk.rtcSec + 1 ∧ t.clk.rtcSub = 0 ∧ t.clk.count = s.clk.count ∧
      (s.coreRuns = true → 1 ≤ s.count → s.count + 1 < 2 ^ 64 →
        s.count - 1 ≤ t.clk.rtcTb.toNat ∧ t.clk.rtcTb.toNat ≤ s.count + 1 ∧ t.rd R.CLK_RTC_TB_LO = t.clk.rtcTb.setWidth 32) ∧
      (s.coreRuns = false → t.clk.rtcTb = s.clk.rtcTb ∧ t.regs = s.regs) := by
  have hoff : s.rtcSecond.on F.SYS_KCTL_ALARM_EN = false := ((rtcSecond_writes s).on (by decide)).trans ha
  have hskip : ¬ (s.sys.keepLost || !s.rtcDue) = true := by simp [hk, hdue]
  refine ⟨s.rtcSecond, ?_, ?_⟩
  · change Host.Outcome.next _ = _
    rw [if_neg hskip, alarm_off hoff]
  · unfold rtcSecond
    cases hruns : s.coreRuns with
    | true =>
      refine ⟨rfl, rfl, rfl, fun _ h1 h2 => ?_, fun h => Bool.noConfusion h⟩
      obtain ⟨hlo, hhi⟩ := rtcOffset_near s h1 h2
      refine ⟨hlo, hhi, ?_⟩
      simp only [if_true]
      exact (rd_wr ..).trans (if_pos rfl)
    | false => exact ⟨rfl, rfl, rfl, fun h => Bool.noConfusion h, fun _ => ⟨rfl, rfl⟩⟩

theorem rtcTrimInterval_gives (h : 32 ≤ s.clk.rtcInterval) : Completes .rtcTrimInterval s fun t =>
    t.clk.rtcInterval = 0 ∧ t.clk.rtcSec = s.clk.rtcSec ∧ t.regs = s.regs ∧
    (-127 ≤ s.getI F.CLK_RTC_TRIM_TRIM → t.clk.rtcBase = s.clk.rtcBase + s.getI F.CLK_RTC_TRIM_TRIM) := by
  refine ⟨_, rfl, ?_⟩
  unfold rtcTrimInterval
  rw [if_pos h]
  refine ⟨rfl, rfl, rfl, fun hx => ?_⟩
  change s.clk.rtcBase + max (-127) (s.getI F.CLK_RTC_TRIM_TRIM) = _
  rw [max_eq_right hx]

end State

/-- Settles O7: each command's own lemma. -/
theorem latchesComparesAndTheRtc : Obligations.LatchesComparesAndTheRtc :=
  ⟨fun _ _ h => State.tbLoRead_gives h, fun _ _ n h => State.captureLoRead_gives h n, fun _ _ n h => State.captureHiRead_gives h n,
    fun _ _ h => State.rtcLoRead_gives h, fun _ _ h => State.rtcTbLoRead_gives h,
    fun _ _ n _ ha h => State.compareTargetLoad_ahead n ha h, fun _ _ n _ ha h => State.compareTargetLoad_late n ha h,
    fun _ _ n _ ha h => State.compareEnable_gives n ha h, fun _ n h1 h2 h3 h4 h5 => State.compareMatch_gives n h1 h2 h3 h4 h5,
    fun _ _ _ h => State.rtcSet_gives h, fun _ h1 h2 h3 => State.rtcSecond_gives h1 h2 h3, fun _ h => State.rtcTrimInterval_gives h⟩

end Sys2Proof.Machine

/-! Passes over a list of like things, counters, and what a log record leaves. -/

namespace Sys2Proof.Machine

set_option Elab.async false
namespace State

variable {s t u : State}

/-- A pass that runs for each index leads from `p 0` to `p n` when each turn leads from `p i` to `p (i + 1)`. -/
theorem forAll_rec {p : Nat → State → Prop} {n : Nat} {f : Nat → State → State} (h0 : p 0 s)
    (hs : ∀ i u, i < n → p i u → p (i + 1) (f i u)) : p n (s.forAll n f) := by
  unfold forAll
  induction n with
  | zero => exact h0
  | succ n ih =>
    rw [List.range_succ, List.foldl_append]
    exact hs n _ (Nat.lt_succ_self n) (ih fun i u hi => hs i u (Nat.lt_succ_of_lt hi))

theorem log_keeps (s : State) (code block : Nat) (sev : Severity) (data : List Byte) {e : Raised} (he : e ∈ s.events) :
    e ∈ (s.log code block sev data).events := by
  unfold log
  exact attendBy_keeps _ _ _ (raise_keeps _ _ _ he)

theorem sent.log {src : Nat} (h : s.sent t src) (code block : Nat) (sev : Severity) (data : List Byte) :
    s.sent (t.log code block sev data) src := h.keeps fun _ he => log_keeps t code block sev data he

theorem Writes.log {P : Nat → Prop} (h : s.Writes P t) {code block : Nat} {sev : Severity} {data : List Byte} :
    s.Writes P (t.log code block sev data) := h.regs (log_regs ..)

/-- A counter that sticks at its greatest value counts one on. -/
theorem get_incS_same (s : State) (f : Fld) (h : f.lo + f.width ≤ 32) : (s.incS f).get f = satInc f.width (s.get f) := by
  have hlt : satInc f.width (s.get f) < 2 ^ f.width := by
    have := Nat.two_pow_pos f.width
    unfold satInc
    omega
  rw [incS, get_put_same _ _ _ h, Nat.mod_eq_of_lt hlt]

theorem get_incS_other (s : State) (f g : Fld) (h : f.lo + f.width ≤ 32)
    (hd : g.addr ≠ f.addr ∨ g.lo + g.width ≤ f.lo ∨ f.lo + f.width ≤ g.lo) : (s.incS f).get g = s.get g := get_put_other s f g _ h hd

/-- A field is what its register shows of it. -/
theorem get_of_rd {f : Fld} (h : t.rd f.addr = s.rd f.addr) : t.get f = s.get f := by rw [get, h, get]

theorem on_of_rd {f : Fld} (h : t.rd f.addr = s.rd f.addr) : t.on f = s.on f := by rw [on, get_of_rd h, on]

/-! ### One register alone is written -/

variable {a : Nat}

theorem Writes.putAt (h : s.Writes (· = a) t) {f : Fld} {n : Nat} (hf : f.addr = a := by rfl) : s.Writes (· = a) (t.put f n) := h.put hf

theorem Writes.set1At (h : s.Writes (· = a) t) {f : Fld} (hf : f.addr = a := by rfl) : s.Writes (· = a) (t.set1 f) := h.put hf

theorem Writes.clrAt (h : s.Writes (· = a) t) {f : Fld} (hf : f.addr = a := by rfl) : s.Writes (· = a) (t.clr f) := h.put hf

theorem Writes.putBAt (h : s.Writes (· = a) t) {f : Fld} {b : Bool} (hf : f.addr = a := by rfl) : s.Writes (· = a) (t.putB f b) := h.putB hf

end State
end Sys2Proof.Machine

/-! Acquisition starts and stops, and the spare rotates (R70, R75 to R80). -/

namespace Sys2Proof.Machine

set_option Elab.async false
namespace State

variable {s t u : State} {v : Word} {w : World} {n : Nat}

/-! ### The slices -/

theorem slice_modSlice_same (s : State) (f : SliceSt → SliceSt) (hn : n < s.acq.slices.length) : (s.modSlice n f).slice n = f (s.slice n) :=
  nth_upd_same _ _ _ _ hn

theorem slice_modSlice_other (s : State) (f : SliceSt → SliceSt) {k : Nat} (hk : n ≠ k) : (s.modSlice n f).slice k = s.slice k :=
  nth_upd_other _ _ _ _ _ hk

theorem slices_length_modSlice (s : State) (n : Nat) (f : SliceSt → SliceSt) : (s.modSlice n f).acq.slices.length = s.acq.slices.length :=
  length_upd ..

/-- A change of every slice changes each, and nothing but the slices. -/
theorem slice_forAll_modSlice (s : State) (f : SliceSt → SliceSt) (hs : s.acq.slices.length = 16) (k : Fin 16) :
    (s.forAll 16 (fun n u => u.modSlice n f)).slice k = f (s.slice k) := by
  have h : (s.forAll 16 (fun n u => u.modSlice n f)).acq.slices.length = 16 ∧
      ∀ k, (s.forAll 16 (fun n u => u.modSlice n f)).slice k = if k < 16 then f (s.slice k) else s.slice k := by
    refine forAll_rec (p := fun i u => u.acq.slices.length = 16 ∧ ∀ k, u.slice k = if k < i then f (s.slice k) else s.slice k)
      ⟨hs, fun k => rfl⟩ fun i u hi hu => ?_
    obtain ⟨hlen, hk⟩ := hu
    refine ⟨(slices_length_modSlice ..).trans hlen, fun k => ?_⟩
    by_cases hik : i = k
    · subst hik
      rw [slice_modSlice_same _ _ (hi.trans_eq hlen.symm), hk, if_neg (Nat.lt_irrefl i), if_pos (Nat.lt_succ_self i)]
    · rw [slice_modSlice_other _ _ hik, hk]
      have hiff : k < i ↔ k < i + 1 := by omega
      simp only [hiff]
  rw [h.2 k, if_pos k.isLt]

theorem forAll_modSlice_moves (s : State) (f : Nat → SliceSt → SliceSt) : Moves [.acq] s (s.forAll 16 (fun n u => u.modSlice n (f n))) :=
  (Moves.refl s).forAll fun _ _ h => h.record

/-- Starting and stopping leave the run flags as they were set. -/
theorem forAll_modSlice_flags (s : State) (f : SliceSt → SliceSt) :
    (s.forAll 16 (fun n u => u.modSlice n f)).acq.running = s.acq.running ∧ (s.forAll 16 (fun n u => u.modSlice n f)).acq.armed = s.acq.armed :=
  forAll_rec (p := fun _ u => u.acq.running = s.acq.running ∧ u.acq.armed = s.acq.armed) ⟨rfl, rfl⟩ fun _ _ _ h => h

/-! ### Starting and stopping (R70) -/

theorem acqEnableWrite_gives (ha : s.accepts w R.ACQ_CTRL (v ||| 1)) (hen : s.on F.ACQ_CTRL_EN = false) :
    Completes (.acqEnableWrite w v) s fun t =>
      t.acq.armed = true ∧ t.acq.valleySeen = false ∧ t.acq.running = s.acq.running ∧
      t.rd R.ACQ_CTRL = s.stored R.ACQ_CTRL (v ||| 1) ∧ (∀ b, b ≠ R.ACQ_CTRL → t.rd b = s.rd b) := by
  have hmoves := write_moves ha (by decide)
  have hgo : bitAt (v ||| 1) 0 = true ∧ (!s.on F.ACQ_CTRL_EN) = true := ⟨bitAt_or_one v, by rw [hen]; rfl⟩
  rw [hook_ACQ_CTRL, acqCtrl, if_pos hgo] at hmoves
  have hacq := hmoves.acq
  have hstore := (storePlain_moves s R.ACQ_CTRL (v ||| 1)).acq
  have hregs := hmoves.regs.trans (modAcq_regs ..)
  refine ⟨_, rfl, by rw [hacq]; rfl, by rw [hacq]; rfl, ?_, ?_, fun b hb => ?_⟩
  · rw [hacq]; exact (congrArg Acq.running hstore :)
  · exact (rd_congr hregs _).trans (rd_storePlain_same ..)
  · exact (rd_congr hregs _).trans (rd_storePlain_other _ _ hb)

theorem acqStart_gives (hs : s.Shaped) (ha : s.acq.armed = true) (hcal : s.on F.ACQ_STAT_CAL_DONE = true)
    (hi : s.syncInstant s.acq.valleySeen = true) : Completes .acqStart s fun t =>
      t.acq.running = true ∧ t.acq.armed = false ∧ t.regs = s.regs ∧ (∀ n : Fin 16, (t.slice n).entry = none ∧ (t.slice n).grpCount = 0) := by
  refine ⟨_, rfl, ?_⟩
  unfold acqStart restartTables
  simp only [ha, hcal, hi, Bool.and_self, if_true]
  obtain ⟨hrun, harmed⟩ := forAll_modSlice_flags (s.modAcq (fun a => { a with running := true, armed := false, stopping := false, valleySeen := false }))
    (fun x => { x with entry := none, idleLeft := 0, convLeft := 0, grpCount := 0, grpSum := 0 })
  refine ⟨hrun, harmed, (forAll_modSlice_moves ..).regs, fun n => ?_⟩
  rw [slice_forAll_modSlice _ _ (by exact hs.slices)]
  exact ⟨rfl, rfl⟩

theorem acqStop_gives (hs : s.Shaped) (hruns : s.coreRuns = true) (hrun : s.acq.running = true) (hstop : s.acq.stopping = true)
    (hc : s.count % 32 = 0) : Completes .acqStop s fun t =>
      t.acq.running = false ∧ t.regs = s.regs ∧ (∀ n : Fin 16, (t.slice n).grpCount = 0 ∧ (t.slice n).grpSum = 0) := by
  refine ⟨_, rfl, ?_⟩
  unfold acqStop
  simp only [hruns, hrun, hstop, hc, Bool.and_self, beq_self_eq_true, if_true]
  obtain ⟨hrun', -⟩ := forAll_modSlice_flags (s.modAcq (fun a => { a with running := false, stopping := false }))
    (fun x => { x with grpCount := 0, grpSum := 0 })
  refine ⟨hrun', (forAll_modSlice_moves ..).regs, fun n => ?_⟩
  rw [slice_forAll_modSlice _ _ (by exact hs.slices)]
  exact ⟨rfl, rfl⟩

/-! ### The rotation's register and its turns (R76) -/

/-- The rotation's slice and state as a turn to `n` puts them. -/
def turned (s : State) (n st : Nat) : State := (s.put F.ACQ_STAT_SPARE_SLICE n).put F.ACQ_STAT_SPARE_STATE st

theorem spareState_put (s : State) (st : Nat) : (s.put F.ACQ_STAT_SPARE_STATE st).spareState = st % 8 := get_put_same _ _ _ (by simp)

theorem spareSlice_turned (s : State) (n st : Nat) : (s.turned n st).spareSlice = n % 16 := by
  rw [spareSlice, turned, get_put_other _ _ _ _ (by simp) (.inr (by decide)), get_put_same _ _ _ (by simp)]
  rfl

theorem calDone_turned (s : State) (n st : Nat) : (s.turned n st).on F.ACQ_STAT_CAL_DONE = s.on F.ACQ_STAT_CAL_DONE := by
  rw [turned, on_put_other _ _ _ _ (by simp) (.inr (by decide)), on_put_other _ _ _ _ (by simp) (.inr (by decide))]

theorem put_ACQ_STAT_writes (s : State) {f : Fld} (k : Nat) (hf : f.addr = R.ACQ_STAT) : s.Writes (· = R.ACQ_STAT) (s.put f k) :=
  (Writes.refl s).put hf

/-- Nothing of a turn is left in the spare. -/
def freshTurn (s : State) : State := s.modSpare (fun p => { p with
  slots := 0, blockSlots := 0, d := 0, fails := 0, failedReturns := 0, matched := false, trim := 0, refs := [] })

theorem spareTo_slice (s : State) {n : Nat} (hn : n < 16) : s.spareTo n = s.freshTurn.turned n (if s.sliceActive n then 1 else 2) :=
  if_neg (Nat.not_le.mpr hn)

/-- What stands after the rotation has gone to slice `n`. -/
structure TurnedTo (s t : State) (n : Nat) : Prop where
  slice : t.spareSlice = n
  state : t.spareState = if s.sliceActive n then 1 else 2
  slots : t.acq.spare.slots = 0
  refs : t.acq.spare.refs = []
  calDone : t.on F.ACQ_STAT_CAL_DONE = s.on F.ACQ_STAT_CAL_DONE
  regs : s.Writes (· = R.ACQ_STAT) t
  moves : Moves [.regs, .cycle, .acq] s t

theorem spareTo_turnedTo (s : State) {n : Nat} (hn : n < 16) : s.TurnedTo (s.spareTo n) n := by
  rw [spareTo_slice s hn]
  refine ⟨?_, ?_, rfl, rfl, ?_, ?_, ?_⟩
  · rw [spareSlice_turned, Nat.mod_eq_of_lt hn]
  · rw [turned, spareState_put]
    cases s.sliceActive n <;> rfl
  · rw [calDone_turned]
    exact on_congr rfl _
  · exact ((Writes.of_regs rfl).trans (put_ACQ_STAT_writes s.freshTurn n rfl)).trans (put_ACQ_STAT_writes _ _ rfl)
  · exact Moves.put (Moves.put (Moves.record (.refl s)))

theorem spareNext_on (s : State) (n : Nat) (h : s.on F.ACQ_SPARE_EN = true) : s.spareNext n = s.spareTo n := if_pos h

theorem spareTo_reference (s : State) : (s.spareTo 16).spareState = 4 ∧ (s.spareTo 16).acq.spare.slots = 0 ∧
    s.Writes (· = R.ACQ_STAT) (s.spareTo 16) ∧ Moves [.regs, .cycle, .acq, .cmp] s (s.spareTo 16) := by
  rw [spareTo, if_pos (le_refl 16)]
  refine ⟨?_, rfl, ?_, ?_⟩
  · exact (get_congr rfl _).trans (spareState_put s.freshTurn 4)
  · exact ((Writes.of_regs rfl).trans (put_ACQ_STAT_writes s.freshTurn 4 rfl)).regs rfl
  · have hput : Moves [.regs, .cycle, .acq, .cmp] s (s.freshTurn.put F.ACQ_STAT_SPARE_STATE 4) := Moves.put (Moves.record (.refl s))
    exact hput.record

theorem Writes.sliceActive (h : s.Writes (· = R.ACQ_STAT) t) (n : Nat) : t.sliceActive n = s.sliceActive n := by
  have hne : R.ACQ_SLCn n ≠ R.ACQ_STAT := by simp only [R.ACQ_SLCn, R.ACQ_STAT]; omega
  simp only [State.sliceActive, State.get, h _ hne]

/-! ### The calibration is done (R75) -/

theorem acqCalDone_gives (hruns : s.coreRuns = true) (hcal : s.on F.ACQ_STAT_CAL_DONE = false) (hslots : 16256 ≤ s.acq.spare.slots)
    (hst : s.spareState = 0) (hen : s.on F.ACQ_SPARE_EN = true) : Completes .acqCalDone s fun t =>
      t.on F.ACQ_STAT_CAL_DONE = true ∧ t.spareSlice = 0 ∧ t.spareState = (if s.sliceActive 0 then 1 else 2) ∧
      (∀ b, b ≠ R.ACQ_STAT → t.rd b = s.rd b) := by
  have hwrites : s.Writes (· = R.ACQ_STAT) (s.set1 F.ACQ_STAT_CAL_DONE) := put_ACQ_STAT_writes s 1 rfl
  have hst' : (s.set1 F.ACQ_STAT_CAL_DONE).spareState = 0 := (get_set1_other _ _ _ (by simp) (.inr (by decide))).trans hst
  have hen' : (s.set1 F.ACQ_STAT_CAL_DONE).on F.ACQ_SPARE_EN = true := (hwrites.on (by decide)).trans hen
  have hturn := spareTo_turnedTo (s.set1 F.ACQ_STAT_CAL_DONE) (n := 0) (by decide)
  refine ⟨_, rfl, ?_⟩
  unfold acqCalDone
  simp only [hruns, hcal, hslots, Bool.not_false, decide_true, Bool.and_self, if_true, hst', spareNext_on _ 0 hen']
  refine ⟨hturn.calDone.trans (on_set1_same _ _ (by simp) (by simp)), hturn.slice, ?_, fun b hb => (hwrites.trans hturn.regs).rd hb⟩
  rw [hturn.state, hwrites.sliceActive]

theorem spareSlice_raise (s : State) (src : Nat) : (s.raise src).spareSlice = s.spareSlice := get_raise ..

theorem spareState_raise (s : State) (src : Nat) : (s.raise src).spareState = s.spareState := get_raise ..

/-! ### Agreement blocks (R77 to R79) -/

theorem coreRuns_of_acq (hm : Moves [.regs, .cycle, .acq, .cmp] s t) (hw : s.Writes (· = R.ACQ_STAT) t) : t.coreRuns = s.coreRuns :=
  coreRuns_of_writes hw hm.sys (by decide)

/-- SX has taken over; its handover is counted next. -/
def sxServes (s : State) : State :=
  (s.put F.ACQ_STAT_SPARE_STATE 2).modSpare (fun p => { p with slots := 0, blockSlots := 0, d := 0, fails := 0 })

theorem takeOver_eq (s : State) : s.takeOver = ((s.sxServes).incS F.ACQ_SPARE_CNT_HANDOVERS).raise 0x31 := rfl

theorem sxServes_writes (s : State) : s.Writes (· = R.ACQ_STAT) s.sxServes := (put_ACQ_STAT_writes s 2 rfl).regs rfl

theorem takeOver_gives (s : State) : s.takeOver.spareState = 2 ∧ s.takeOver.acq.spare.slots = 0 ∧
    s.takeOver.get F.ACQ_SPARE_CNT_HANDOVERS = satInc F.ACQ_SPARE_CNT_HANDOVERS.width (s.get F.ACQ_SPARE_CNT_HANDOVERS) ∧
    (s.coreRuns = true → s.sent s.takeOver 0x31) := by
  have hst : s.sxServes.spareState = 2 := (get_congr rfl _).trans (spareState_put s 2)
  have hcnt : s.sxServes.get F.ACQ_SPARE_CNT_HANDOVERS = s.get F.ACQ_SPARE_CNT_HANDOVERS := (sxServes_writes s).get (by decide)
  rw [takeOver_eq]
  refine ⟨?_, ?_, ?_, fun hruns => ?_⟩
  · rw [spareState, get_raise, get_incS_other _ _ _ (by simp) (.inl (by decide))]
    exact hst
  · rw [raise_acq]
    rfl
  · rw [get_raise, get_incS_same _ _ (by simp), hcnt]
  · refine sent_raise (hruns := ?_) (hclk := rfl) 0x31
    exact (coreRuns_of_writes (((sxServes_writes s).mono fun _ => .inl).put (f := F.ACQ_SPARE_CNT_HANDOVERS) (P := fun b => b = R.ACQ_STAT ∨ b = R.ACQ_SPARE_CNT) (.inr rfl)) rfl (by decide)).trans hruns

/-- The rotation's state is neither kept nor read elsewhere in ACQ_STAT, so it tells which handover is in hand. -/
theorem inHandover_of_state {k : Nat} (h : s.spareState = k) (hk : k = 1 ∨ k = 3) : s.spareState = 1 ∨ s.spareState = 3 := h ▸ hk

theorem blockEnd_handover (ok : Bool) (hst : s.spareState = 1) (hb : 1024 ≤ s.acq.spare.blockSlots)
    (hd : s.acq.spare.d.natAbs ≤ 64 * max 1 (s.get F.ACQ_SPARE_TOL)) : s.blockEnd ok = s.takeOver := by
  unfold blockEnd
  dsimp only
  rw [if_pos ⟨.inl hst, hb⟩, if_pos hd, if_pos hst]

theorem blockEnd_return (ok : Bool) (hst : s.spareState = 3) (hb : 1024 ≤ s.acq.spare.blockSlots)
    (hd : s.acq.spare.d.natAbs ≤ 64 * max 1 (s.get F.ACQ_SPARE_TOL)) : s.blockEnd ok = (s.spareNext (s.spareSlice + 1)).raise 0x32 := by
  unfold blockEnd
  dsimp only
  rw [if_pos ⟨.inr hst, hb⟩, if_pos hd, if_neg (by rw [hst]; decide)]

/-- The state after a failing block of a handover: the match trim is loaded and a fresh block counts one more failure. -/
def retried (s : State) : State :=
  (((s.modSpare (fun p => { p with trim := clampInt (-1024) 1024 (-(divRound s.acq.spare.d 64)) })).freshBlock).modSpare
    (fun p => { p with fails := p.fails + 1 }))

theorem blockEnd_fails (ok : Bool) (hst : s.spareState = 1) (hb : 1024 ≤ s.acq.spare.blockSlots)
    (hd : 64 * max 1 (s.get F.ACQ_SPARE_TOL) < s.acq.spare.d.natAbs) (hf : s.acq.spare.fails + 1 < max 1 (s.get F.ACQ_SPARE_TRIES)) :
    s.blockEnd ok = s.retried := by
  have hload : ∀ n, ((s.loadTrim n s.acq.spare.d).freshBlock).modSpare (fun p => { p with fails := p.fails + 1 }) = s.retried := fun n => by
    unfold loadTrim
    dsimp only
    rw [if_pos hst]
    rfl
  unfold blockEnd
  dsimp only
  rw [if_pos ⟨.inl hst, hb⟩, if_neg (Nat.not_le.mpr hd), hload, if_neg]
  exact Nat.not_le.mpr hf

theorem spareBlockEnd_handover (ok : Bool) (hst : s.spareState = 1) (hb : 1024 ≤ s.acq.spare.blockSlots)
    (hd : s.acq.spare.d.natAbs ≤ 64 * max 1 (s.get F.ACQ_SPARE_TOL)) : Completes (.spareBlockEnd ok) s fun t =>
      t.spareState = 2 ∧ t.acq.spare.slots = 0 ∧
      t.get F.ACQ_SPARE_CNT_HANDOVERS = satInc F.ACQ_SPARE_CNT_HANDOVERS.width (s.get F.ACQ_SPARE_CNT_HANDOVERS) ∧
      (s.coreRuns = true → s.sent t 0x31) :=
  ⟨_, rfl, by rw [blockEnd_handover ok hst hb hd]; exact takeOver_gives s⟩

theorem spareBlockEnd_fails (ok : Bool) (hst : s.spareState = 1) (hb : 1024 ≤ s.acq.spare.blockSlots)
    (hd : 64 * max 1 (s.get F.ACQ_SPARE_TOL) < s.acq.spare.d.natAbs) (hf : s.acq.spare.fails + 1 < max 1 (s.get F.ACQ_SPARE_TRIES)) :
    Completes (.spareBlockEnd ok) s fun t =>
      t.spareState = 1 ∧ t.acq.spare.trim = clampInt (-1024) 1024 (-(divRound s.acq.spare.d 64)) ∧
      t.acq.spare.fails = s.acq.spare.fails + 1 ∧ t.acq.spare.blockSlots = 0 ∧ t.acq.spare.d = 0 ∧ t.regs = s.regs := by
  refine ⟨_, rfl, ?_⟩
  rw [blockEnd_fails ok hst hb hd hf]
  exact ⟨(get_congr rfl _).trans hst, rfl, rfl, rfl, rfl, rfl⟩

theorem spareBlockEnd_return (ok : Bool) (hst : s.spareState = 3) (hb : 1024 ≤ s.acq.spare.blockSlots) (hn : s.spareSlice < 16)
    (hd : s.acq.spare.d.natAbs ≤ 64 * max 1 (s.get F.ACQ_SPARE_TOL)) (hen : s.on F.ACQ_SPARE_EN = true) :
    Completes (.spareBlockEnd ok) s fun t =>
      (s.spareSlice < 15 → t.spareSlice = s.spareSlice + 1) ∧ (s.spareSlice = 15 → t.spareState = 4) ∧ t.acq.spare.slots = 0 ∧
      (s.coreRuns = true → s.sent t 0x32) := by
  refine ⟨_, rfl, ?_⟩
  rw [blockEnd_return ok hst hb hd, spareNext_on _ _ hen]
  beta_reduce
  rw [spareSlice_raise, spareState_raise, raise_acq]
  rcases Nat.lt_or_ge s.spareSlice 15 with hlt | hge
  · have hturn := spareTo_turnedTo s (n := s.spareSlice + 1) (by omega)
    refine ⟨fun _ => hturn.slice, fun h => absurd h hlt.ne, hturn.slots, fun hruns => sent_raise (hruns := ?_) hturn.moves.clk _⟩
    exact (coreRuns_of_acq (hturn.moves.mono (by decide)) hturn.regs).trans hruns
  · have h15 : s.spareSlice = 15 := by omega
    rw [h15]
    obtain ⟨h4, hslots, hw, hm⟩ := spareTo_reference s
    exact ⟨fun h => absurd h (by decide), fun _ => h4, hslots, fun hruns => sent_raise (hruns := (coreRuns_of_acq hm hw).trans hruns) hm.clk _⟩

/-! ### The served slice's calibration (R76, R78, R79) -/

theorem logSpare_regs (s : State) (row n : Nat) : (s.logSpare row n).regs = s.regs := log_regs ..

/-- The state in which SX delivers for a slice for good, before the event and the record. -/
def sliceGivenUp (s : State) (n : Nat) : State :=
  ((s.set1 F.ACQ_STAT_SLICE_FAULT).put F.ACQ_STAT_FAULT_SLICE n).put F.ACQ_STAT_SPARE_STATE 2

theorem sliceFault_regs (s : State) (n : Nat) : (s.sliceFault n).regs = (s.sliceGivenUp n).regs :=
  (logSpare_regs ..).trans (raise_regs ..)

theorem sliceFault_gives (s : State) (n : Nat) : (s.sliceFault n).on F.ACQ_STAT_SLICE_FAULT = true ∧
    (s.sliceFault n).get F.ACQ_STAT_FAULT_SLICE = n % 16 ∧ (s.sliceFault n).spareState = 2 := by
  have hregs := sliceFault_regs s n
  refine ⟨(on_congr hregs _).trans ?_, (get_congr hregs _).trans ?_, (get_congr hregs _).trans (spareState_put _ 2)⟩
  · rw [sliceGivenUp, on_put_other _ _ _ _ (by simp) (.inr (by decide)), on_put_other _ _ _ _ (by simp) (.inr (by decide)),
      on_set1_same _ _ (by simp) (by simp)]
  · rw [sliceGivenUp, get_put_other _ _ _ _ (by simp) (.inr (by decide)), get_put_same _ _ _ (by simp)]
    rfl

theorem sliceCalEnd_gives (hst : s.spareState = 2) (hf : s.on F.ACQ_STAT_SLICE_FAULT = false) (hslots : 16256 ≤ s.acq.spare.slots) :
    (s.sliceActive s.spareSlice = true →
      Completes (.sliceCalEnd true) s fun t => t.spareState = 3 ∧ t.acq.spare.fails = 0 ∧ (∀ b, b ≠ R.ACQ_STAT → t.rd b = s.rd b)) ∧
    (Completes (.sliceCalEnd false) s fun t =>
      t.on F.ACQ_STAT_SLICE_FAULT = true ∧ t.get F.ACQ_STAT_FAULT_SLICE = s.spareSlice % 16 ∧ t.spareState = 2) := by
  have hgo : s.spareState = 2 ∧ (!s.on F.ACQ_STAT_SLICE_FAULT) = true ∧ 16256 ≤ s.acq.spare.slots := ⟨hst, by rw [hf]; rfl, hslots⟩
  refine ⟨fun hact => ⟨_, rfl, ?_⟩, ⟨_, rfl, ?_⟩⟩
  · have hw : s.Writes (· = R.ACQ_STAT) (((s.put F.ACQ_STAT_SPARE_STATE 3).freshBlock).modSpare (fun p => { p with fails := 0, matched := false })) :=
      (put_ACQ_STAT_writes s 3 rfl).regs rfl
    unfold sliceCalEnd
    simp only [if_pos hgo, Bool.not_true, Bool.false_eq_true, if_false, hact, if_true]
    exact ⟨(get_congr rfl _).trans (spareState_put s 3), rfl, fun b hb => hw.rd hb⟩
  · unfold sliceCalEnd
    simp only [if_pos hgo, Bool.not_false, if_true]
    exact sliceFault_gives s s.spareSlice

theorem trimDecay_gives (n : Fin 16) (hs : s.Shaped) (hd : 1024 ≤ (s.slice n).decay) : Completes (.trimDecay n) s fun t =>
    (t.slice n).trim.natAbs = (s.slice n).trim.natAbs - 1 ∧ (t.slice n).decay = (s.slice n).decay - 1024 ∧ t.regs = s.regs := by
  refine ⟨_, rfl, ?_⟩
  unfold trimDecay
  beta_reduce
  rw [if_pos hd, slice_modSlice_same _ _ (hs.slices.symm ▸ n.isLt)]
  refine ⟨?_, rfl, rfl⟩
  dsimp only
  split
  · omega
  · split <;> omega

/-! ### The reference interval (R76, R79) -/

/-- The state in which the rotation has stopped because SX fails its check, before the event and the record. -/
def spareGivenUp (s : State) : State := (s.set1 F.ACQ_STAT_SPARE_FAULT).put F.ACQ_STAT_SPARE_STATE 5

theorem spareGivenUp_writes (s : State) : s.Writes (· = R.ACQ_STAT) s.spareGivenUp :=
  (put_ACQ_STAT_writes s (f := F.ACQ_STAT_SPARE_FAULT) 1 rfl).trans (put_ACQ_STAT_writes _ 5 rfl)

theorem spareFault_gives (n : Nat) (hruns : s.coreRuns = true) :
    (s.spareFault n).on F.ACQ_STAT_SPARE_FAULT = true ∧ (s.spareFault n).spareState = 5 ∧ s.sent (s.spareFault n) 0x37 ∧
      ∀ b, b ≠ R.ACQ_STAT → (s.spareFault n).rd b = s.rd b := by
  have hregs : (s.spareFault n).regs = s.spareGivenUp.regs := (logSpare_regs ..).trans (raise_regs ..)
  have hruns' : s.spareGivenUp.coreRuns = true := (coreRuns_of_writes (spareGivenUp_writes s) ((put_sys ..).trans (set1_sys ..)) (by decide)).trans hruns
  refine ⟨(on_congr hregs _).trans ?_, (get_congr hregs _).trans (spareState_put _ 5),
    (sent_raise (t := s.spareGivenUp) (s := s) hruns' ((put_clk ..).trans (set1_clk ..)) 0x37).log .., fun b hb => ((spareGivenUp_writes s).regs hregs).rd hb⟩
  rw [spareGivenUp, on_put_other _ _ _ _ (by simp) (.inr (by decide)), on_set1_same _ _ (by simp) (by simp)]

theorem spareReferenceEnd_gives (hruns : s.coreRuns = true) (hst : s.spareState = 4) (hslots : 2048 ≤ s.acq.spare.slots)
    (hen : s.on F.ACQ_SPARE_EN = true) : Completes .spareReferenceEnd s fun t =>
      (Config.spareCheck s.acq.spare.refs = true →
        t.spareSlice = 0 ∧ t.spareState = (if s.sliceActive 0 then 1 else 2) ∧ t.acq.spare.refs = []) ∧
      (Config.spareCheck s.acq.spare.refs = false →
        t.on F.ACQ_STAT_SPARE_FAULT = true ∧ t.spareState = 5 ∧ s.sent t 0x37 ∧ (∀ b, b ≠ R.ACQ_STAT → t.rd b = s.rd b)) := by
  have hturn := spareTo_turnedTo s (n := 0) (by decide)
  refine ⟨_, rfl, ?_⟩
  unfold spareReferenceEnd
  simp only [hruns, hst, hslots, beq_self_eq_true, decide_true, Bool.and_self, if_true]
  refine ⟨fun hok => ?_, fun hbad => ?_⟩
  · rw [if_pos hok, spareNext_on _ _ hen]
    exact ⟨hturn.slice, hturn.state, hturn.refs⟩
  · rw [if_neg (by rw [hbad]; decide)]
    exact spareFault_gives 16 hruns

/-! ### Writes of ACQ_SPARE (R80) -/

theorem acqSpare_stores (h : bitAt v 0 = false ∨ s.on F.ACQ_SPARE_EN = true ∨ s.spareState ≠ 5 ∨ s.on F.ACQ_STAT_SPARE_FAULT = true) :
    s.acqSpare v = s.storePlain R.ACQ_SPARE v := by
  unfold acqSpare
  dsimp only
  rw [if_neg]
  rintro ⟨hv, hen, hst, hf⟩
  rcases h with h | h | h | h
  · rw [h] at hv; cases hv
  · rw [h] at hen; cases hen
  · exact h hst
  · rw [h] at hf; cases hf

theorem spareRotationWrite_stores (ha : s.accepts w R.ACQ_SPARE v)
    (h : bitAt v 0 = false ∨ s.on F.ACQ_SPARE_EN = true ∨ s.spareState ≠ 5 ∨ s.on F.ACQ_STAT_SPARE_FAULT = true) :
    Completes (.spareRotationWrite w v) s fun t =>
      t.rd R.ACQ_SPARE = s.stored R.ACQ_SPARE v ∧ (∀ b, b ≠ R.ACQ_SPARE → t.rd b = s.rd b) ∧ t.acq = s.acq := by
  have hmoves := write_moves ha (by decide)
  rw [hook_ACQ_SPARE, acqSpare_stores h] at hmoves
  exact ⟨_, rfl, (rd_congr hmoves.regs _).trans (rd_storePlain_same ..), fun b hb => (rd_congr hmoves.regs b).trans (rd_storePlain_other _ _ hb),
    hmoves.acq.trans (storePlain_moves ..).acq⟩

theorem spareRotationWrite_resumes (ha : s.accepts w R.ACQ_SPARE v) (hv : bitAt v 0 = true) (hen : s.on F.ACQ_SPARE_EN = false)
    (hst : s.spareState = 5) (hf : s.on F.ACQ_STAT_SPARE_FAULT = false) (hn : s.acq.spare.next < 16) :
    Completes (.spareRotationWrite w v) s fun t =>
      t.rd R.ACQ_SPARE = s.stored R.ACQ_SPARE v ∧ t.spareSlice = s.acq.spare.next ∧
      t.spareState = (if s.sliceActive s.acq.spare.next then 1 else 2) := by
  have hmoves := write_moves ha (by decide)
  have hgo : bitAt v 0 = true ∧ (!s.on F.ACQ_SPARE_EN) = true ∧ s.spareState = 5 ∧ (!s.on F.ACQ_STAT_SPARE_FAULT) = true :=
    ⟨hv, by rw [hen]; rfl, hst, by rw [hf]; rfl⟩
  have hturn := spareTo_turnedTo (s.storePlain R.ACQ_SPARE v) hn
  rw [hook_ACQ_SPARE, acqSpare, if_pos hgo] at hmoves
  refine ⟨_, rfl, (rd_congr hmoves.regs _).trans ((hturn.regs.rd (by decide)).trans (rd_storePlain_same ..)),
    (get_congr hmoves.regs _).trans hturn.slice, (get_congr hmoves.regs _).trans (hturn.state.trans ?_)⟩
  have hne : R.ACQ_SLCn s.acq.spare.next ≠ R.ACQ_SPARE := by simp only [R.ACQ_SLCn, R.ACQ_SPARE]; omega
  have hact : (s.storePlain R.ACQ_SPARE v).sliceActive s.acq.spare.next = s.sliceActive s.acq.spare.next := by
    simp only [sliceActive, get_storePlain_other s (f := F.ACQ_SLCn_MODE s.acq.spare.next) v hne]
  rw [hact]

end State
end Sys2Proof.Machine

/-! The instant of R70 without a waiting image: the block enables take effect. -/

namespace Sys2Proof.Machine

set_option Elab.async false

/-- The addresses of one block's registers. -/
def inBlock (i b : Nat) : Prop := blockBase i ≤ b ∧ b < blockBase (i + 1)

namespace State

variable {s t u : State} {i : Nat}

theorem Writes.putBit {P : Nat → Prop} (h : s.Writes P t) {a k : Nat} {b : Bool} (ha : P a) : s.Writes P (t.putBit a k b) := by
  unfold State.putBit
  exact h.put ha

/-- A register of an earlier block is not written by what stays in block `i`. -/
theorem not_inBlock_of_lt {i b : Nat} (h : b < blockBase i) : ¬ inBlock i b := fun hb => absurd h (Nat.not_lt.mpr hb.1)

theorem not_inBlock_of_ge {i b : Nat} (h : blockBase (i + 1) ≤ b) : ¬ inBlock i b := fun hb => absurd h (Nat.not_le.mpr hb.2)

/-! ### The Prism (R70, R87) -/

theorem freshWindow_moves (s : State) (w : Nat) : Moves [.regs, .cycle, .prism] s (s.freshWindow w) := by
  unfold freshWindow
  dsimp only
  exact .put (.forAll (.record (.refl s) (by rfl)) fun _ _ h => .wr h)

theorem freshWindow_writes (h : s.Writes (inBlock 3) t) {w : Nat} (hw : w < 64) : s.Writes (inBlock 3) (t.freshWindow w) := by
  unfold freshWindow
  dsimp only
  refine .putBit (.forAll (.regs h (by rfl)) fun m u hm hu => .wr hu ?_) ?_
  · simp only [inBlock, blockBase, R.PRISM_RESw_m]; omega
  · split
    · simp only [inBlock, blockBase, R.PRISM_FRZ0]; omega
    · simp only [inBlock, blockBase, R.PRISM_FRZ1]; omega

theorem freshWindow_active (s : State) (w : Nat) : (s.freshWindow w).prism.active = s.prism.active := by
  have h : Moves [.regs, .cycle] (s.modPrismWin w (fun _ => {})) (s.freshWindow w) := by
    unfold freshWindow
    dsimp only
    exact .put (.forAll (.refl _) fun _ _ h => .wr h)
  rw [h.prism]
  rfl

theorem prismSummary_writes (h : s.Writes (inBlock 3) t) : s.Writes (inBlock 3) t.prismSummary := by
  have hstat : inBlock 3 R.PRISM_STAT := by simp only [inBlock, blockBase, R.PRISM_STAT]; omega
  unfold prismSummary
  dsimp only
  exact .putB (.putB (.putB h hstat) hstat) hstat

theorem putB_moves (h : Moves A s t) (f : Fld) (b : Bool) (hA : [.regs, .cycle] ⊆ A := by decide) : Moves A s (t.putB f b) := by
  unfold putB
  exact Moves.put h hA

theorem prismSummary_moves (s : State) : Moves [.regs, .cycle] s s.prismSummary :=
  putB_moves (putB_moves (putB_moves (.refl s) _ _) _ _) _ _

theorem applyPrism_moves (s : State) : Moves [.regs, .cycle, .prism] s s.applyPrism := by
  unfold applyPrism
  dsimp only
  refine .ite (.refl s) (.ite ?_ ?_)
  · refine Moves.trans (.forAll (.record (.refl s) (by rfl)) fun w u h => .ite (h.trans (freshWindow_moves u w)) h) ((prismSummary_moves _).mono (by decide))
  · exact .forAll (.record (.refl s) (by rfl)) fun _ _ h => h.record

theorem applyPrism_writes (s : State) : s.Writes (inBlock 3) s.applyPrism := by
  unfold applyPrism
  dsimp only
  refine .ite (.refl s) (.ite ?_ ?_)
  · exact prismSummary_writes (.forAll (.of_regs (by rfl)) fun w u hw h => .ite (freshWindow_writes h hw) h)
  · exact .forAll (.of_regs (by rfl)) fun _ _ _ h => h.regs (by rfl)

theorem applyPrism_active (s : State) : s.applyPrism.prism.active = s.on F.PRISM_CTRL_EN := by
  unfold applyPrism
  dsimp only
  split
  · next h => exact (eq_of_beq h).symm
  · split
    · rw [(prismSummary_moves _).prism]
      refine forAll_rec (p := fun _ u => u.prism.active = s.on F.PRISM_CTRL_EN) rfl fun w u _ h => ?_
      split
      · rw [freshWindow_active, h]
      · exact h
    · exact forAll_rec (p := fun _ u => u.prism.active = s.on F.PRISM_CTRL_EN) rfl fun _ _ _ h => h

/-! ### The Weathervane -/

theorem setStart_moves (s : State) (k : Nat) : Moves [.regs, .cycle, .wvn] s (s.setStart k) := by
  unfold setStart
  dsimp only
  refine .forAll (.forAll (.put (.put (.wr ?_))) fun _ _ h => .wr h) fun _ _ h => .wr h
  exact .record (.refl s) (by rfl)

theorem setStart_writes (h : s.Writes (inBlock 4) t) {k : Nat} (hk : k < 4) : s.Writes (inBlock 4) (t.setStart k) := by
  have hstat : inBlock 4 R.WVN_STAT := by simp only [inBlock, blockBase, R.WVN_STAT]; omega
  unfold setStart
  dsimp only
  refine .forAll (.forAll (.putBit (.putBit (.wr (.regs h (by rfl)) ?_) hstat) hstat) fun n u hn hu => .wr hu ?_) fun j u hj hu => .wr hu ?_
  · simp only [inBlock, blockBase, R.WVN_SETs_STAT]; omega
  · simp only [inBlock, blockBase, R.WVN_Ls_n]; omega
  · simp only [inBlock, blockBase, R.WVN_Hs_p_h]; omega

theorem mppStart_moves (s : State) (m : Nat) : Moves [.regs, .cycle, .wvn] s (s.mppStart m) := by
  unfold mppStart
  dsimp only
  refine .forAll (.wr ?_) fun _ _ h => .wr h
  exact .record (.refl s) (by rfl)

theorem mppStart_writes (h : s.Writes (inBlock 4) t) {m : Nat} (hm : m < 8) : s.Writes (inBlock 4) (t.mppStart m) := by
  unfold mppStart
  dsimp only
  refine .forAll (.wr (.regs h (by rfl)) ?_) fun n u hn hu => .wr hu ?_
  · simp only [inBlock, blockBase, R.WVN_MPPm_STAT]; omega
  · simp only [inBlock, blockBase, R.WVN_Mm_n]; omega

theorem applyWvn_moves (s : State) : Moves [.regs, .cycle, .wvn] s s.applyWvn := by
  unfold applyWvn
  dsimp only
  refine .forAll (.forAll ?_ fun k u h => .ite (h.trans (setStart_moves u k)) h) fun m u h => .ite (h.trans (mppStart_moves u m)) h
  exact .record (.refl s) (by rfl)

theorem applyWvn_writes (s : State) : s.Writes (inBlock 4) s.applyWvn := by
  unfold applyWvn
  dsimp only
  refine .forAll (.forAll (.of_regs (by rfl)) fun k u hk h => .ite (setStart_writes h hk) h) fun m u hm h => .ite (mppStart_writes h hm) h

/-! ### The Mill, the meters and the shaft interfaces -/

theorem applyMill_moves (s : State) : Moves [.regs, .cycle, .mill, .tasks] s s.applyMill := by
  unfold applyMill
  dsimp only
  refine .ite (.refl s) (.ite (.record (.refl s) (by rfl)) ?_)
  unfold millStop millHalt
  exact .forAll (.put (.record (.refl s) (by rfl))) fun _ _ h => .put (.record h)

theorem applyMill_active (s : State) : s.applyMill.mill.active = s.on F.MILL_CTRL_EN := by
  unfold applyMill
  dsimp only
  split
  · next h => exact (eq_of_beq h).symm
  · split
    · next h => exact h.symm
    · next h =>
      have hoff : s.on F.MILL_CTRL_EN = false := Bool.eq_false_iff.mpr h
      rw [hoff]
      unfold millStop
      exact forAll_rec (p := fun _ u => u.mill.active = false) rfl fun _ _ _ h => h

theorem applyMeters_moves (s : State) : Moves [.grn] s s.applyMeters := by
  unfold applyMeters
  dsimp only
  refine .record (.forAll (.refl s) fun n u h => .ite ?_ h)
  unfold meterFresh
  exact .ite h.record h.record

theorem applyShf_moves (s : State) : Moves [.regs, .cycle, .shf] s s.applyShf := by
  unfold applyShf
  dsimp only
  refine .forAll (.record (.refl s) (by rfl)) fun n u h => .ite (.ite ?_ h.record) h
  unfold depositCheck encStart
  exact putB_moves (.put (.put (.wr h.record))) _ _

/-! ### The instant (R70) -/

/-- Nothing that the instant of R70 is judged by has changed. -/
theorem syncInstant_congr (hsys : t.sys = s.sys) (hclk : t.clk = s.clk) (hmode : t.rd R.SYS_MODE = s.rd R.SYS_MODE)
    (hacq : t.rd R.ACQ_CTRL = s.rd R.ACQ_CTRL) (hcar : ∀ c, t.rd (R.LOOM_CSTATc c) = s.rd (R.LOOM_CSTATc c)) (b : Bool) :
    t.syncInstant b = s.syncInstant b := by
  simp only [syncInstant, coreRuns_of_rd hsys hmode, count, hclk, carState, syncCar, get, hacq, hcar]

theorem syncInstant_applyPrism (s : State) (b : Bool) : s.applyPrism.syncInstant b = s.syncInstant b := by
  have hm := applyPrism_moves s
  have hw := applyPrism_writes s
  refine syncInstant_congr hm.sys hm.clk (hw.rd ?_) (hw.rd ?_) (fun c => hw.rd ?_) b
  · exact not_inBlock_of_lt (by decide)
  · exact not_inBlock_of_lt (by decide)
  · exact not_inBlock_of_ge (by simp only [blockBase, R.LOOM_CSTATc]; omega)

theorem syncInstant_applyWvn (s : State) (b : Bool) : s.applyWvn.syncInstant b = s.syncInstant b := by
  have hm := applyWvn_moves s
  have hw := applyWvn_writes s
  refine syncInstant_congr hm.sys hm.clk (hw.rd ?_) (hw.rd ?_) (fun c => hw.rd ?_) b
  · exact not_inBlock_of_lt (by decide)
  · exact not_inBlock_of_lt (by decide)
  · exact not_inBlock_of_ge (by simp only [blockBase, R.LOOM_CSTATc]; omega)

/-- The enables of the Prism, the Weathervane and the Mill have taken effect. -/
def threeApplied (s : State) : State := s.applyPrism.applyWvn.applyMill

theorem configSync_eq (hw : s.cfg.waiting = none) (hi : ∀ b, s.syncInstant b = true) :
    Moves [.regs, .cycle, .grn, .shf] s.threeApplied s.configSync := by
  have h0 : ∀ b, s.applyPrism.syncInstant b = true := fun b => (syncInstant_applyPrism s b).trans (hi b)
  have h1 : ∀ b, s.applyPrism.applyWvn.syncInstant b = true := fun b => (syncInstant_applyWvn _ b).trans (h0 b)
  have h3 : ∀ u : State, Moves [.regs, .cycle, .grn, .shf] u u.applyMeters := fun u => (applyMeters_moves u).mono (by decide)
  have h4 : ∀ u : State, Moves [.regs, .cycle, .grn, .shf] u u.applyShf := fun u => (applyShf_moves u).mono (by decide)
  have hrange : List.range 5 = [0, 1, 2, 3, 4] := rfl
  unfold configSync forAll
  simp only [hw, hrange, List.foldl_cons, List.foldl_nil, hi, h0, h1, applyEnable, if_true]
  refine Moves.ite ?_ ?_
  · exact (Moves.ite (h3 _) (.refl _)).trans (h4 _)
  · exact Moves.ite (h3 _) (.refl _)

theorem configSyncInstant_gives (hw : s.cfg.waiting = none) (hi : ∀ b : Bool, s.syncInstant b = true) :
    Completes .configSyncInstant s fun t =>
      t.prism.active = s.on F.PRISM_CTRL_EN ∧ t.mill.active = s.on F.MILL_CTRL_EN ∧ t.cfg.waiting = none := by
  have hrest := configSync_eq hw hi
  have hmill := applyMill_moves s.applyPrism.applyWvn
  have hwvn := applyWvn_moves s.applyPrism
  have hreply : s.syncAndReply = s.configSync := by
    unfold syncAndReply
    dsimp only
    rw [if_neg]
    rw [hw]
    simp
  refine ⟨_, rfl, ?_⟩
  rw [hreply]
  refine ⟨?_, ?_, ?_⟩
  · rw [hrest.prism, threeApplied, hmill.prism, hwvn.prism, applyPrism_active]
  · rw [hrest.mill, threeApplied, applyMill_active, (applyWvn_writes _).on (not_inBlock_of_ge (by decide)),
      (applyPrism_writes _).on (not_inBlock_of_ge (by decide))]
  · rw [hrest.cfg, threeApplied, hmill.cfg, hwvn.cfg, (applyPrism_moves s).cfg, hw]

end State

/-- Settles O12: each command's own lemma. -/
theorem acquisitionAndTheSpare : Obligations.AcquisitionAndTheSpare :=
  ⟨fun _ _ _ h1 h2 => State.acqEnableWrite_gives h1 h2, fun _ h1 h2 h3 h4 => State.acqStart_gives h1 h2 h3 h4,
    fun _ h1 h2 h3 h4 h5 => State.acqStop_gives h1 h2 h3 h4 h5, fun _ h1 h2 => State.configSyncInstant_gives h1 h2,
    fun _ h1 h2 h3 h4 h5 => State.acqCalDone_gives h1 h2 h3 h4 h5, fun _ ok h1 h2 h3 => State.spareBlockEnd_handover ok h1 h2 h3,
    fun _ ok h1 h2 h3 h4 => State.spareBlockEnd_fails ok h1 h2 h3 h4,
    fun _ ok h1 h2 h3 h4 h5 => State.spareBlockEnd_return ok h1 h2 h3 h4 h5, fun _ h1 h2 h3 => State.sliceCalEnd_gives h1 h2 h3,
    fun _ n h1 h2 => State.trimDecay_gives n h1 h2, fun _ h1 h2 h3 h4 => State.spareReferenceEnd_gives h1 h2 h3 h4,
    fun _ _ _ h1 h2 => State.spareRotationWrite_stores h1 h2, fun _ _ _ h1 h2 h3 h4 h5 h6 => State.spareRotationWrite_resumes h1 h2 h3 h4 h5 h6⟩

end Sys2Proof.Machine

/-! The sets of the Weathervane: one set's state and status, and what a sample's work leaves alone. -/

namespace Sys2Proof.Machine

set_option Elab.async false

theorem upd_upd {α : Type} (l : List α) (i : Nat) (f g : α → α) : upd (upd l i f) i g = upd l i (fun x => g (f x)) :=
  List.modify_modify_eq f g i l

theorem upd_self {α : Type} (l : List α) (i : Nat) : upd l i (fun x => x) = l := List.modify_id ..

/-- What the output of a sample fixes first: that it came, the end of its interval, and whether it was valid. -/
def SetSt.output (x : SetSt) : Bool × Nat × Bool := (x.seen, x.lastEnd, x.sampleValid)

namespace State

variable {s t u : State} {k : Nat}

/-! ### One set -/

theorem wset_congr (h : t.wvn = s.wvn) (k : Nat) : t.wset k = s.wset k := by
  rw [wset, h, wset]

theorem wset_modSet_same (s : State) (f : SetSt → SetSt) (hk : k < s.wvn.sets.length) : (s.modSet k f).wset k = f (s.wset k) :=
  nth_upd_same _ _ _ _ hk

theorem wset_modSet_other (s : State) (f : SetSt → SetSt) {j : Nat} (hj : k ≠ j) : (s.modSet k f).wset j = s.wset j :=
  nth_upd_other _ _ _ _ _ hj

theorem Moves.modSet {A : List Part} (h : Moves A s t) (f : SetSt → SetSt) (hA : [.wvn] ⊆ A := by decide) : Moves A s (t.modSet k f) :=
  h.andThen hA fun h => h.record

/-- The work of set `k`: of the Weathervane it changes that set alone, of the registers the set's status alone, and else events. -/
structure SetWork (s t : State) (k : Nat) : Prop where
  wvn : ∃ f, t.wvn = { s.wvn with sets := upd s.wvn.sets k f }
  regs : s.Writes (· = R.WVN_SETs_STAT k) t
  moves : Moves [.regs, .cycle, .wvn, .events, .stew] s t

namespace SetWork

theorem refl (s : State) (k : Nat) : s.SetWork s k := ⟨⟨fun x => x, by rw [upd_self]⟩, .refl s, .refl s⟩

theorem active (h : s.SetWork t k) : t.wvn.active = s.wvn.active := by
  obtain ⟨f, e⟩ := h.wvn
  rw [e]

theorem sets_length (h : s.SetWork t k) : t.wvn.sets.length = s.wvn.sets.length := by
  obtain ⟨f, e⟩ := h.wvn
  rw [e]
  exact length_upd ..

theorem other (h : s.SetWork t k) {j : Nat} (hj : k ≠ j) : t.wset j = s.wset j := by
  obtain ⟨f, e⟩ := h.wvn
  rw [wset, e]
  exact nth_upd_other _ _ _ _ _ hj

theorem coreRuns (h : s.SetWork t k) : t.coreRuns = s.coreRuns := by
  refine coreRuns_of_writes h.regs h.moves.sys ?_
  simp only [R.SYS_MODE, R.WVN_SETs_STAT]
  omega

theorem setOn (h : s.SetWork t k) (j : Nat) : t.setOn j = s.setOn j := by
  rw [State.setOn, h.coreRuns, h.active, State.setOn]

theorem modSet (h : s.SetWork t k) (f : SetSt → SetSt) : s.SetWork (t.modSet k f) k := by
  obtain ⟨g, e⟩ := h.wvn
  refine ⟨⟨fun x => f (g x), ?_⟩, h.regs.regs rfl, h.moves.modSet f⟩
  change { t.wvn with sets := upd t.wvn.sets k f } = _
  rw [e, upd_upd]

theorem put (h : s.SetWork t k) {f : Fld} (n : Nat) (hf : f.addr = R.WVN_SETs_STAT k) : s.SetWork (t.put f n) k :=
  ⟨h.wvn, h.regs.put hf, h.moves.put⟩

theorem raise (h : s.SetWork t k) (src : Nat) : s.SetWork (t.raise src) k := by
  refine ⟨?_, h.regs.raise, h.moves.raise⟩
  rw [raise_wvn]
  exact h.wvn

end SetWork

/-! ### What the later steps of a sample leave alone -/

/-- Work of set `k` that leaves VALID and what the sample's output has fixed. -/
structure SampleWork (s t : State) (k : Nat) : Prop extends s.SetWork t k where
  output : k < s.wvn.sets.length → SetSt.output (t.wset k) = SetSt.output (s.wset k)
  valid : t.on (F.WVN_SETs_STAT_VALID k) = s.on (F.WVN_SETs_STAT_VALID k)

namespace SampleWork

theorem refl (s : State) (k : Nat) : s.SampleWork s k := ⟨.refl s k, fun _ => rfl, rfl⟩

theorem modSet (h : s.SampleWork t k) {f : SetSt → SetSt} (hf : ∀ x, SetSt.output (f x) = SetSt.output x := by intro x; rfl) :
    s.SampleWork (t.modSet k f) k := by
  refine ⟨h.toSetWork.modSet f, fun hk => ?_, (on_congr rfl _).trans h.valid⟩
  rw [wset_modSet_same _ _ (h.sets_length.symm ▸ hk), hf, h.output hk]

theorem put (h : s.SampleWork t k) {f : Fld} {n : Nat} (hf : f.addr = R.WVN_SETs_STAT k := by rfl) (hw : f.lo + f.width ≤ 32 := by simp)
    (hlo : 1 ≤ f.lo := by simp) : s.SampleWork (t.put f n) k :=
  ⟨h.toSetWork.put n hf, h.output, (on_put_other t f (F.WVN_SETs_STAT_VALID k) n hw (.inr (.inl hlo))).trans h.valid⟩

theorem raise (h : s.SampleWork t k) {src : Nat} : s.SampleWork (t.raise src) k := by
  refine ⟨h.toSetWork.raise src, fun hk => ?_, (on_raise ..).trans h.valid⟩
  rw [wset_congr (raise_wvn ..), h.output hk]

theorem ite {p : Prop} [Decidable p] (ht : s.SampleWork t k) (hu : s.SampleWork u k) : s.SampleWork (if p then t else u) k := by
  split
  · exact ht
  · exact hu

theorem putB (h : s.SampleWork t k) {f : Fld} {b : Bool} (hf : f.addr = R.WVN_SETs_STAT k := by rfl) (hw : f.lo + f.width ≤ 32 := by simp)
    (hlo : 1 ≤ f.lo := by simp) : s.SampleWork (t.putB f b) k := by
  unfold State.putB
  exact h.put hf hw hlo

theorem set1 (h : s.SampleWork t k) {f : Fld} (hf : f.addr = R.WVN_SETs_STAT k := by rfl) (hw : f.lo + f.width ≤ 32 := by simp)
    (hlo : 1 ≤ f.lo := by simp) : s.SampleWork (t.set1 f) k := h.put hf hw hlo

theorem clr (h : s.SampleWork t k) {f : Fld} (hf : f.addr = R.WVN_SETs_STAT k := by rfl) (hw : f.lo + f.width ≤ 32 := by simp)
    (hlo : 1 ≤ f.lo := by simp) : s.SampleWork (t.clr f) k := h.put hf hw hlo

theorem unlock (h : s.SampleWork t k) : s.SampleWork (t.unlock k) k := by
  unfold State.unlock
  exact .ite (.raise (.clr (.clr (.modSet h.modSet)))) h.modSet

theorem harmTake (h : s.SampleWork t k) {theta : Rat} : s.SampleWork (t.harmTake k theta) k := by
  unfold State.harmTake
  exact .ite h.modSet h

theorem harmPublish (h : s.SampleWork t k) {before d : Rat} : s.SampleWork (t.harmPublish k before d) k := by
  unfold State.harmPublish
  exact .ite (.set1 h.modSet) h

theorem loopStep (h : s.SampleWork t k) : s.SampleWork (t.loopStep k) k := by
  unfold State.loopStep
  dsimp only
  exact .harmPublish (.harmTake (.ite (.unlock (.putB (.putB h.modSet))) (.putB (.putB h.modSet))))

theorem injTake (h : s.SampleWork t k) : s.SampleWork (t.injTake k) k := by
  unfold State.injTake
  exact .ite h.modSet h.modSet

theorem pickups (h : s.SampleWork t k) : s.SampleWork (t.pickups k) k := by
  unfold State.pickups
  dsimp only
  exact .modSet (.putB (.putB (.putB (.putB h))))

theorem shadowHold (h : s.SampleWork t k) : s.SampleWork (t.shadowHold k) k := by
  unfold State.shadowHold
  dsimp only
  split
  · exact .ite h h.put
  · exact .ite h.put h
  · exact h

theorem shadowTo (h : s.SampleWork t k) {c : Nat} : s.SampleWork (t.shadowTo k c) k := by
  unfold State.shadowTo
  refine h.modSet fun x => ?_
  split <;> rfl

theorem shadowSample (h : s.SampleWork t k) : s.SampleWork (t.shadowSample k) k := by
  unfold State.shadowSample
  dsimp only
  split
  · exact .ite (.modSet h.shadowTo) h.shadowTo
  · exact .ite (.modSet (.modSet h.shadowTo)) (.modSet h.shadowTo)
  · exact h.shadowTo

end SampleWork

end State
end Sys2Proof.Machine

/-! Samples of the Weathervane (R92, R93). -/

namespace Sys2Proof.Machine

set_option Elab.async false
theorem nth_map {α : Type} (l : List α) (f : α → α) (i : Nat) (d : α) (hi : i < l.length) : nth (l.map f) i d = f (nth l i d) := by
  unfold nth
  rw [List.getD_eq_getElem _ _ (by rwa [List.length_map]), List.getD_eq_getElem _ _ hi, List.getElem_map]

/-- What the end of an interval makes of one set, but for the status. -/
def SetSt.intervalEnded (x : SetSt) : SetSt := { x with
  acc := List.replicate 6 (0, 0), endAcc := x.acc, endLate := false, endFreq := x.shdFreq, endZ := (x.zre, x.zim) }

namespace State

variable {s t u : State} {k e : Nat}

/-! ### The end of a sample interval -/

/-- The Weathervane at the end of an interval, before each set has noted its status. -/
def intervalEnded (s : State) : State := s.modWvn (fun w => { w with
  interval := s.count / 5000, ended := some s.count, sets := w.sets.map SetSt.intervalEnded })

/-- A pass that changes each set by its own function. -/
theorem wset_forAll_modSet (s : State) (f : Nat → SetSt → SetSt) (hs : s.wvn.sets.length = 4) (k : Fin 4) :
    (s.forAll 4 (fun n u => u.modSet n (f n))).wset k = f k (s.wset k) := by
  have h : (s.forAll 4 (fun n u => u.modSet n (f n))).wvn.sets.length = 4 ∧
      ∀ j, (s.forAll 4 (fun n u => u.modSet n (f n))).wset j = if j < 4 then f j (s.wset j) else s.wset j := by
    refine forAll_rec (p := fun i u => u.wvn.sets.length = 4 ∧ ∀ j, u.wset j = if j < i then f j (s.wset j) else s.wset j)
      ⟨hs, fun j => rfl⟩ fun i u hi hu => ?_
    obtain ⟨hlen, hj⟩ := hu
    refine ⟨(length_upd ..).trans hlen, fun j => ?_⟩
    by_cases hij : i = j
    · subst hij
      rw [wset_modSet_same _ _ (hi.trans_eq hlen.symm), hj, if_neg (Nat.lt_irrefl i), if_pos (Nat.lt_succ_self i)]
    · rw [wset_modSet_other _ _ hij, hj]
      have hiff : j < i ↔ j < i + 1 := by omega
      simp only [hiff]
  rw [h.2 k, if_pos k.isLt]

/-- Changes of sets leave the rest of the Weathervane. -/
theorem forAll_modSet_wvn (s : State) (f : Nat → SetSt → SetSt) :
    ∃ l, (s.forAll 4 (fun n u => u.modSet n (f n))).wvn = { s.wvn with sets := l } := by
  refine forAll_rec (p := fun _ u => ∃ l, u.wvn = { s.wvn with sets := l }) ⟨_, rfl⟩ fun i u _ hu => ?_
  obtain ⟨l, hl⟩ := hu
  exact ⟨_, by rw [modSet, modWvn]; dsimp only; rw [hl]⟩

theorem sampleEnd_eq (hruns : s.coreRuns = true) (hc : s.count % 5000 = 0) (hi : s.wvn.interval < s.count / 5000) :
    s.sampleEnd = s.intervalEnded.forAll 4 (fun k u => u.modSet k (fun x => { x with endState := s.rd (R.WVN_SETs_STAT k) })) := by
  unfold sampleEnd
  simp only [hruns, hc, hi, beq_self_eq_true, decide_true, Bool.and_self, if_true]
  rfl

theorem wvnSampleEnd_gives (hs : s.Shaped) (hruns : s.coreRuns = true) (hc : s.count % 5000 = 0) (hi : s.wvn.interval < s.count / 5000) :
    Completes .wvnSampleEnd s fun t =>
      t.wvn.interval = s.count / 5000 ∧ t.wvn.ended = some s.count ∧ t.regs = s.regs ∧ t.wvn.mpps = s.wvn.mpps ∧
      (∀ k : Fin 4, t.wset k = { s.wset k with
        acc := List.replicate 6 (0, 0), endAcc := (s.wset k).acc, endLate := false, endFreq := (s.wset k).shdFreq,
        endZ := ((s.wset k).zre, (s.wset k).zim), endState := s.rd (R.WVN_SETs_STAT k) }) := by
  refine ⟨_, rfl, ?_⟩
  rw [sampleEnd_eq hruns hc hi]
  have hlen : s.intervalEnded.wvn.sets.length = 4 := (List.length_map ..).trans hs.sets
  have hregs : Moves [.wvn] s.intervalEnded (s.intervalEnded.forAll 4 fun k u =>
      u.modSet k (fun x => { x with endState := s.rd (R.WVN_SETs_STAT k) })) := Moves.forAll (.refl _) fun _ _ h => h.modSet _
  obtain ⟨l, hl⟩ := forAll_modSet_wvn s.intervalEnded (fun k x => { x with endState := s.rd (R.WVN_SETs_STAT k) })
  refine ⟨by rw [hl]; rfl, by rw [hl]; rfl, hregs.regs, by rw [hl]; rfl, fun k => ?_⟩
  rw [wset_forAll_modSet _ (fun k x => { x with endState := s.rd (R.WVN_SETs_STAT k) }) hlen]
  have hset : s.intervalEnded.wset k = (s.wset k).intervalEnded := nth_map _ _ _ _ (k.isLt.trans_eq hs.sets.symm)
  rw [hset]
  rfl

/-! ### The output of a sample (R93) -/

/-- What a set shows once it has taken its sample. -/
structure SampleTaken (s t : State) (k e : Nat) : Prop extends s.SetWork t k where
  output : k < s.wvn.sets.length → SetSt.output (t.wset k) = (true, e, s.partValid k 0)
  valid : s.partValid k 0 = true → t.on (F.WVN_SETs_STAT_VALID k) = true

theorem SampleTaken.later (h : s.SampleTaken t k e) (hw : t.SampleWork u k) (hlen : k < t.wvn.sets.length) : s.SampleTaken u k e := by
  obtain ⟨f, hf⟩ := h.wvn
  obtain ⟨g, hg⟩ := hw.wvn
  refine ⟨⟨⟨fun x => g (f x), ?_⟩, h.regs.trans hw.regs, h.moves.trans hw.moves⟩, fun hk => (hw.output hlen).trans (h.output hk),
    fun hv => hw.valid.trans (h.valid hv)⟩
  rw [hg, hf, upd_upd]

theorem SetWork.trans (h : s.SetWork t k) (h' : t.SetWork u k) : s.SetWork u k := by
  obtain ⟨f, hf⟩ := h.wvn
  obtain ⟨g, hg⟩ := h'.wvn
  refine ⟨⟨fun x => g (f x), ?_⟩, h.regs.trans h'.regs, h.moves.trans h'.moves⟩
  rw [hg, hf, upd_upd]

/-- A valid sample is marked as one. -/
theorem loopValid_sample (s : State) (k : Nat) : s.SetWork (s.loopValid k) k ∧ (s.loopValid k).on (F.WVN_SETs_STAT_VALID k) = true ∧
    (k < s.wvn.sets.length → SetSt.output ((s.loopValid k).wset k) = ((s.wset k).seen, (s.wset k).lastEnd, true)) := by
  have hset : s.SetWork (s.set1 (F.WVN_SETs_STAT_VALID k)) k := (SetWork.refl s k).put 1 rfl
  have hloop : (s.set1 (F.WVN_SETs_STAT_VALID k)).SampleWork
      (((s.set1 (F.WVN_SETs_STAT_VALID k)).loopStep k).putB (F.WVN_SETs_STAT_CURR_VALID k) (s.currentsIn k)) k := (SampleWork.refl _ k).loopStep.putB
  unfold loopValid countRuns
  refine ⟨(hset.trans hloop.toSetWork).modSet _, (on_congr rfl _).trans (hloop.valid.trans (on_set1_same _ _ (by simp) (by simp))), fun hk => ?_⟩
  have hout := hloop.output (hk.trans_eq hset.sets_length.symm)
  rw [wset_modSet_same _ _ (hk.trans_eq (hset.trans hloop.toSetWork).sets_length.symm)]
  simp only [SetSt.output, Prod.mk.injEq] at hout ⊢
  exact ⟨hout.1.trans rfl, hout.2.1.trans rfl, trivial⟩

theorem loopInvalid_sample (s : State) (k : Nat) : s.SetWork (s.loopInvalid k) k ∧
    (k < s.wvn.sets.length → SetSt.output ((s.loopInvalid k).wset k) = ((s.wset k).seen, (s.wset k).lastEnd, false)) := by
  unfold loopInvalid
  dsimp only
  have hrest : ∀ t : State, ∀ b d : Rat, ∀ c : Bool, t.SampleWork ((t.putB (F.WVN_SETs_STAT_CURR_VALID k) c).harmPublish k b d) k :=
    fun t b d c => (SampleWork.refl t k).putB.harmPublish
  refine ⟨((SetWork.refl s k).modSet _).trans (hrest _ _ _ _).toSetWork, fun hk => ?_⟩
  rw [(hrest _ _ _ _).output (hk.trans_eq (length_upd ..).symm), wset_modSet_same _ _ hk]
  rfl

/-- The state of a set that begins to process the sample of an interval that ended at `e`. -/
def sampleBegun (s : State) (e k : Nat) : State :=
  if (s.wset k).endLate then (s.modSet k (fun x => { x with
    seen := true, lastEnd := e, lastLate := x.endLate, lateSince := x.lateSince || x.endLate, frtMoved := false })).set1 (F.WVN_SETs_STAT_LATE k)
  else s.modSet k (fun x => { x with
    seen := true, lastEnd := e, lastLate := x.endLate, lateSince := x.lateSince || x.endLate, frtMoved := false })

theorem sampleBegun_sample (s : State) (e k : Nat) : s.SetWork (s.sampleBegun e k) k ∧
    (k < s.wvn.sets.length → ((s.sampleBegun e k).wset k).seen = true ∧ ((s.sampleBegun e k).wset k).lastEnd = e) := by
  unfold sampleBegun
  split
  · refine ⟨((SetWork.refl s k).modSet _).put 1 rfl, fun hk => ?_⟩
    rw [wset_congr (set1_wvn ..), wset_modSet_same _ _ hk]
    exact ⟨rfl, rfl⟩
  · refine ⟨(SetWork.refl s k).modSet _, fun hk => ?_⟩
    rw [wset_modSet_same _ _ hk]
    exact ⟨rfl, rfl⟩

/-- The loop's part of a sample. -/
def sampleLooped (s : State) (e k : Nat) : State :=
  if s.partValid k 0 then (s.sampleBegun e k).loopValid k else (s.sampleBegun e k).loopInvalid k

theorem sampleLooped_taken (s : State) (e k : Nat) : s.SampleTaken (s.sampleLooped e k) k e := by
  obtain ⟨hbegun, hset⟩ := sampleBegun_sample s e k
  unfold sampleLooped
  split
  · next hv =>
    obtain ⟨hwork, hvalid, hout⟩ := loopValid_sample (s.sampleBegun e k) k
    refine ⟨hbegun.trans hwork, fun hk => ?_, fun _ => hvalid⟩
    rw [hout (hk.trans_eq hbegun.sets_length.symm), (hset hk).1, (hset hk).2, hv]
  · next hv =>
    obtain ⟨hwork, hout⟩ := loopInvalid_sample (s.sampleBegun e k) k
    refine ⟨hbegun.trans hwork, fun hk => ?_, fun h => absurd h hv⟩
    rw [hout (hk.trans_eq hbegun.sets_length.symm), (hset hk).1, (hset hk).2, Bool.eq_false_iff.mpr hv]

theorem setSample_taken (s : State) (e k : Nat) (hk : k < s.wvn.sets.length) : s.SampleTaken (s.setSample e k) k e := by
  have hlooped := sampleLooped_taken s e k
  have hrest : ∀ t : State, ∀ f : SetSt → SetSt, (∀ x, SetSt.output (f x) = SetSt.output x) →
      t.SampleWork (((((t.modSet k f).injTake k).pickups k).shadowHold k).shadowSample k) k :=
    fun t f hf => ((SampleWork.refl t k).modSet hf).injTake.pickups.shadowHold.shadowSample
  exact hlooped.later (hrest _ _ fun _ => rfl) (hk.trans_eq hlooped.sets_length.symm)

theorem sampled_taken (f : State → State) (h : s.SampleTaken (f s) k e) (hk : k < s.wvn.sets.length) : s.SampleTaken (s.sampled k f) k e :=
  h.later (SampleWork.modSet (.refl _ k)) (hk.trans_eq h.sets_length.symm)

/-- One set's turn in the output of a sample. -/
def outputTurn (s : State) (e k : Nat) : State :=
  if s.setOn k then (s.modSet k (fun x => { x with keepState := x.endState, keepFreq := x.endFreq, keepZ := x.endZ })).sampled k (·.setSample e k)
  else s

theorem outputTurn_off (h : s.setOn k = false) : s.outputTurn e k = s := if_neg (by rw [h]; decide)

theorem outputTurn_on (h : s.setOn k = true) (hk : k < s.wvn.sets.length) : s.SampleTaken (s.outputTurn e k) k e := by
  have hkept : s.SetWork (s.modSet k (fun x => { x with keepState := x.endState, keepFreq := x.endFreq, keepZ := x.endZ })) k :=
    (SetWork.refl s k).modSet _
  have hk' := hk.trans_eq hkept.sets_length.symm
  have htaken := sampled_taken (·.setSample e k) (setSample_taken _ e k hk') hk'
  have hpart : (s.modSet k (fun x => { x with keepState := x.endState, keepFreq := x.endFreq, keepZ := x.endZ })).partValid k 0 = s.partValid k 0 := by
    unfold partValid
    rw [wset_modSet_same _ _ hk]
  rw [outputTurn, if_pos h]
  refine ⟨hkept.trans htaken.toSetWork, fun _ => ?_, fun hv => htaken.valid (hpart.trans hv)⟩
  rw [htaken.output hk', hpart]

theorem outputTurn_work (s : State) (e k : Nat) (hk : k < s.wvn.sets.length) : s.SetWork (s.outputTurn e k) k := by
  cases h : s.setOn k with
  | true => exact (outputTurn_on h hk).toSetWork
  | false => rw [outputTurn_off h]; exact .refl s k

/-- What one set shows after its turn. -/
def TurnDone (s t : State) (e j : Nat) : Prop :=
  if s.setOn j then SetSt.output (t.wset j) = (true, e, s.partValid j 0) ∧ (s.partValid j 0 = true → t.on (F.WVN_SETs_STAT_VALID j) = true)
  else t.wset j = s.wset j ∧ t.rd (R.WVN_SETs_STAT j) = s.rd (R.WVN_SETs_STAT j)

/-- The output's pass before its turn `i`: the sets before it have had theirs, the others are as they were. -/
structure OutputPass (s : State) (e i : Nat) (t : State) : Prop where
  len : t.wvn.sets.length = 4
  on : ∀ j, t.setOn j = s.setOn j
  done : ∀ j, j < i → s.TurnDone t e j
  todo : ∀ j, i ≤ j → t.wset j = s.wset j ∧ t.rd (R.WVN_SETs_STAT j) = s.rd (R.WVN_SETs_STAT j)

theorem TurnDone.congr {j : Nat} (h : s.TurnDone t e j) (hw : u.wset j = t.wset j) (hr : u.rd (R.WVN_SETs_STAT j) = t.rd (R.WVN_SETs_STAT j)) :
    s.TurnDone u e j := by
  have hon : u.on (F.WVN_SETs_STAT_VALID j) = t.on (F.WVN_SETs_STAT_VALID j) := by rw [State.on, State.get, hr, State.on, State.get]
  unfold TurnDone at *
  rw [hw, hr, hon]
  exact h

theorem OutputPass.turn {i : Nat} (h : s.OutputPass e i t) (hi : i < 4) : s.OutputPass e (i + 1) (t.outputTurn e i) := by
  have hlen : i < t.wvn.sets.length := hi.trans_eq h.len.symm
  have hwork := outputTurn_work t e i hlen
  obtain ⟨hset, hstat⟩ := h.todo i le_rfl
  have hother : ∀ j, j ≠ i → (t.outputTurn e i).wset j = t.wset j ∧
      (t.outputTurn e i).rd (R.WVN_SETs_STAT j) = t.rd (R.WVN_SETs_STAT j) := fun j hj =>
    ⟨hwork.other hj.symm, hwork.regs.rd (by simp only [R.WVN_SETs_STAT]; omega)⟩
  have hpart : t.partValid i 0 = s.partValid i 0 := by unfold partValid; rw [hset]
  refine ⟨hwork.sets_length.trans h.len, fun j => (hwork.setOn j).trans (h.on j), fun j hj => ?_, fun j hj => ?_⟩
  · by_cases hji : j = i
    · subst hji
      unfold TurnDone
      rw [← h.on j]
      cases hon : t.setOn j with
      | true =>
        have htaken := outputTurn_on (e := e) hon hlen
        rw [if_pos rfl, ← hpart]
        exact ⟨htaken.output hlen, htaken.valid⟩
      | false =>
        rw [if_neg Bool.false_ne_true, outputTurn_off hon]
        exact ⟨hset, hstat⟩
    · exact (h.done j (by omega)).congr (hother j hji).1 (hother j hji).2
  · obtain ⟨h1, h2⟩ := hother j (by omega)
    obtain ⟨h3, h4⟩ := h.todo j (by omega)
    exact ⟨h1.trans h3, h2.trans h4⟩

theorem wset_ended (t : State) (k : Nat) : (t.modWvn (fun w => { w with ended := none })).wset k = t.wset k := rfl

theorem sampleOutput_eq (hruns : s.coreRuns = true) (he : s.wvn.ended = some e) (hdue : s.due (e + 2048) = true) :
    s.sampleOutput = (s.forAll 4 (fun k t => t.outputTurn e k)).modWvn (fun w => { w with ended := none }) := by
  unfold sampleOutput
  simp only [he, hruns, hdue, Bool.and_self, if_true]
  rfl

theorem wvnSampleOutput_gives (hs : s.Shaped) (hruns : s.coreRuns = true) (he : s.wvn.ended = some e) (hdue : s.due (e + 2048) = true) :
    Completes .wvnSampleOutput s fun t =>
      t.wvn.ended = none ∧
      (∀ k : Fin 4, s.setOn k = true → (t.wset k).seen = true ∧ (t.wset k).lastEnd = e ∧
        (t.wset k).sampleValid = s.partValid k 0 ∧ (s.partValid k 0 = true → t.on (F.WVN_SETs_STAT_VALID k) = true)) ∧
      (∀ k : Fin 4, s.setOn k = false → t.wset k = s.wset k ∧ t.rd (R.WVN_SETs_STAT k) = s.rd (R.WVN_SETs_STAT k)) := by
  have hpass : s.OutputPass e 4 (s.forAll 4 (fun k t => t.outputTurn e k)) :=
    forAll_rec ⟨hs.sets, fun _ => rfl, fun j hj => absurd hj (Nat.not_lt_zero j), fun _ _ => ⟨rfl, rfl⟩⟩ fun i u hi hu => hu.turn hi
  have hdone : ∀ k : Fin 4, s.TurnDone ((s.forAll 4 (fun k t => t.outputTurn e k)).modWvn (fun w => { w with ended := none })) e k :=
    fun k => (hpass.done k k.isLt).congr (wset_ended ..) (rd_congr (modWvn_regs ..) _)
  refine ⟨_, rfl, ?_⟩
  rw [sampleOutput_eq hruns he hdue]
  refine ⟨rfl, fun k hon => ?_, fun k hoff => ?_⟩
  · have h := hdone k
    rw [TurnDone, if_pos hon] at h
    obtain ⟨hout, hvalid⟩ := h
    simp only [SetSt.output, Prod.mk.injEq] at hout
    exact ⟨hout.1, hout.2.1, hout.2.2, hvalid⟩
  · have h := hdone k
    rwa [TurnDone, if_neg (by rw [hoff]; decide)] at h

end State

/-- Settles O14: each command's own lemma. -/
theorem weathervaneSamples : Obligations.WeathervaneSamples :=
  ⟨fun _ h1 h2 h3 h4 => State.wvnSampleEnd_gives h4 h1 h2 h3, fun _ _ h1 h2 h3 h4 => State.wvnSampleOutput_gives h1 h2 h3 h4⟩

end Sys2Proof.Machine

/-! LOCKED, VALID, phase jumps and the shadow's return (R93, R98, R100, R103, R105). -/

namespace Sys2Proof.Machine

set_option Elab.async false
/-- Only what a change makes of the one entry matters. -/
theorem upd_congr {α : Type} (l : List α) (i : Nat) (f g : α → α) (d : α) (h : f (nth l i d) = g (nth l i d)) : upd l i f = upd l i g := by
  refine List.ext_getElem? fun j => ?_
  rw [upd, upd, List.getElem?_modify, List.getElem?_modify]
  by_cases hij : i = j
  · subst hij
    cases hl : l[i]? with
    | none => rfl
    | some x =>
      have hx : nth l i d = x := by rw [nth, List.getD_eq_getElem?_getD, hl, Option.getD_some]
      rw [hx] at h
      simp [h]
  · simp [hij]

namespace State

variable {s t u : State} {k : Nat} {v : Word} {w : World}

/-! ### The shadow's moves -/

/-- The shadow's moves put at most the shadow's state. -/
theorem shadowHold_eq (s : State) (k : Nat) : s.shadowHold k = s ∨ ∃ n, s.shadowHold k = s.put (F.WVN_SETs_STAT_SHD k) n := by
  unfold shadowHold
  dsimp only
  split
  · split
    · exact .inl rfl
    · exact .inr ⟨_, rfl⟩
  · split
    · exact .inr ⟨_, rfl⟩
    · exact .inl rfl
  · exact .inl rfl

theorem shadowHold_moves (s : State) (k : Nat) : Moves [.regs, .cycle] s (s.shadowHold k) := by
  rcases shadowHold_eq s k with h | ⟨n, h⟩
  · rw [h]; exact .refl s
  · rw [h]; exact .put (.refl s)

theorem shadowHold_writes (s : State) (k : Nat) : s.Writes (· = R.WVN_SETs_STAT k) (s.shadowHold k) := by
  rcases shadowHold_eq s k with h | ⟨n, h⟩
  · rw [h]; exact .refl s
  · rw [h]; exact (Writes.refl s).put rfl

theorem get_shadowHold (s : State) (k : Nat) (g : Fld) (h : g.lo + g.width ≤ 18 ∨ 20 ≤ g.lo) : (s.shadowHold k).get g = s.get g := by
  rcases shadowHold_eq s k with h' | ⟨n, h'⟩
  · rw [h']
  · rw [h', get_put_other s (F.WVN_SETs_STAT_SHD k) g n (by simp) (.inr h)]

theorem on_shadowHold (s : State) (k : Nat) (g : Fld) (h : g.lo + g.width ≤ 18 ∨ 20 ≤ g.lo) : (s.shadowHold k).on g = s.on g := by
  rw [on, get_shadowHold _ _ _ h, on]

theorem sent.shadowHold {src : Nat} (h : s.sent t src) (k : Nat) : s.sent (t.shadowHold k) src := h.of_events (shadowHold_moves t k).events

theorem wset_shadowHold (s : State) (k j : Nat) : (s.shadowHold k).wset j = s.wset j := wset_congr (shadowHold_moves s k).wvn j

/-! ### What a sample itself causes (R94) -/

theorem sampled_regs (s : State) (k : Nat) (f : State → State) : (s.sampled k f).regs = (f s).regs := rfl

theorem sampled_events (s : State) (k : Nat) (f : State → State) : (s.sampled k f).events = (f s).events := rfl

/-- What is shown of the set's status and shadow follows; the rest of the set is as the change has left it. -/
theorem wset_sampled (s : State) (k : Nat) (f : State → State) (hk : k < (f s).wvn.sets.length) :
    ∃ st fr, (s.sampled k f).wset k = { (f s).wset k with keepState := st, keepFreq := fr } :=
  ⟨_, _, wset_modSet_same _ _ hk⟩

theorem modSet_wvn_congr {f g : SetSt → SetSt} (h : t.wvn = s.wvn) (hf : f (s.wset k) = g (s.wset k)) :
    (t.modSet k f).wvn = (s.modSet k g).wvn := by
  have hsets : upd s.wvn.sets k f = upd s.wvn.sets k g := upd_congr _ _ _ _ {} hf
  unfold modSet modWvn
  dsimp only
  rw [h, hsets]

/-- A change that leaves the Weathervane's state shows in the noted status at most. -/
theorem sampled_loopKept (f : State → State) (h : (f s).wvn = s.wvn) : s.loopKept (s.sampled k f) k := by
  have hset : (f s).wset k = s.wset k := wset_congr h k
  refine ⟨((s.wset k).keepState &&& ~~~(s.rd (R.WVN_SETs_STAT k) ^^^ (f s).rd (R.WVN_SETs_STAT k))) |||
    ((f s).rd (R.WVN_SETs_STAT k) &&& (s.rd (R.WVN_SETs_STAT k) ^^^ (f s).rd (R.WVN_SETs_STAT k))), ?_⟩
  unfold sampled
  simp only [hset, ne_eq, not_true_eq_false, if_false]
  exact modSet_wvn_congr h rfl

theorem coreRuns_of_setOn (h : s.setOn k = true) : s.coreRuns = true := (Bool.and_eq_true_iff.mp h).1

theorem SYS_MODE_ne_STAT (k : Nat) : R.SYS_MODE ≠ R.WVN_SETs_STAT k := by simp only [R.SYS_MODE, R.WVN_SETs_STAT]; omega

/-! ### LOCKED (R98) -/

/-- A set without its lock, and with its counts begun again. -/
def unlocked (s : State) (k : Nat) : State :=
  (((s.modSet k (fun x => { x with lockRun := 0, unlockRun := 0 })).modSet k (fun x => { x with points := [], prevPhase := none })).clr
    (F.WVN_SETs_STAT_LOCKED k)).clr (F.WVN_SETs_STAT_HARM_VALID k)

theorem unlock_on (h : s.on (F.WVN_SETs_STAT_LOCKED k) = true) : s.unlock k = (s.unlocked k).raise (0x48 + k) :=
  if_pos ((on_congr rfl _).trans h)

theorem unlock_off (h : s.on (F.WVN_SETs_STAT_LOCKED k) = false) : s.unlock k = s.modSet k (fun x => { x with lockRun := 0, unlockRun := 0 }) :=
  if_neg (Bool.eq_false_iff.mp ((on_congr rfl _).trans h))

theorem unlocked_writes (s : State) (k : Nat) : s.Writes (· = R.WVN_SETs_STAT k) (s.unlocked k) := by
  unfold unlocked
  exact .clrAt (.clrAt (.of_regs (by rfl)))

theorem wset_unlocked (s : State) (hk : k < s.wvn.sets.length) :
    (s.unlocked k).wset k = { s.wset k with lockRun := 0, unlockRun := 0, points := [], prevPhase := none } := by
  unfold unlocked
  rw [wset_congr (clr_wvn ..), wset_congr (clr_wvn ..), wset_modSet_same _ _ (hk.trans_eq (length_upd ..).symm), wset_modSet_same _ _ hk]

theorem coreRuns_unlocked (s : State) (k : Nat) : (s.unlocked k).coreRuns = s.coreRuns :=
  coreRuns_of_writes (unlocked_writes s k) (by unfold unlocked; rw [clr_sys, clr_sys]; rfl) (SYS_MODE_ne_STAT k)

theorem unlocked_clk (s : State) (k : Nat) : (s.unlocked k).clk = s.clk := by unfold unlocked; rw [clr_clk, clr_clk]; rfl

/-- What the loss of a lock leaves. -/
structure LockLost (s t : State) (k : Nat) : Prop where
  locked : t.on (F.WVN_SETs_STAT_LOCKED k) = false
  sent : s.on (F.WVN_SETs_STAT_LOCKED k) = true → s.coreRuns = true → s.sent t (0x48 + k)
  harm : s.on (F.WVN_SETs_STAT_LOCKED k) = true → t.on (F.WVN_SETs_STAT_HARM_VALID k) = false
  set : ∃ p q, t.wset k = { s.wset k with lockRun := 0, unlockRun := 0, points := p, prevPhase := q }
  len : t.wvn.sets.length = s.wvn.sets.length
  regs : s.Writes (· = R.WVN_SETs_STAT k) t
  rest : ∀ g : Fld, g.lo + g.width ≤ 1 ∨ (2 ≤ g.lo ∧ g.lo + g.width ≤ 4) ∨ 5 ≤ g.lo → t.get g = s.get g

theorem unlock_lost (s : State) (hk : k < s.wvn.sets.length) : s.LockLost (s.unlock k) k := by
  cases h : s.on (F.WVN_SETs_STAT_LOCKED k) with
  | true =>
    rw [unlock_on h]
    refine ⟨?_, fun _ hruns => ?_, fun _ => ?_, ⟨_, _, (wset_congr (raise_wvn ..) k).trans (wset_unlocked s hk)⟩, ?_,
      (unlocked_writes s k).raise, fun g hg => ?_⟩
    · rw [on_raise, unlocked, on_clr_other _ (F.WVN_SETs_STAT_HARM_VALID k) (F.WVN_SETs_STAT_LOCKED k) (by simp) (.inr (.inl (by simp))),
        on_clr_same _ _ (by simp)]
    · exact sent_raise ((coreRuns_unlocked s k).trans hruns) (unlocked_clk s k) _
    · rw [on_raise]
      exact on_clr_same _ _ (by simp)
    · rw [raise_wvn]
      exact (length_upd ..).trans (length_upd ..)
    · rw [get_raise, unlocked, get_clr_other _ (F.WVN_SETs_STAT_HARM_VALID k) g (by simp) (.inr (by simp only; omega)),
        get_clr_other _ (F.WVN_SETs_STAT_LOCKED k) g (by simp) (.inr (by simp only; omega))]
      exact get_congr rfl g
  | false =>
    rw [unlock_off h]
    exact ⟨(on_congr rfl _).trans h, fun h' => absurd (h.symm.trans h') (by decide), fun h' => absurd (h.symm.trans h') (by decide),
      ⟨_, _, wset_modSet_same _ _ hk⟩, length_upd .., .of_regs rfl, fun g _ => get_congr rfl g⟩

theorem wvnLock_sets (k : Fin 4) (hon : s.setOn k = true) (hl : s.on (F.WVN_SETs_STAT_LOCKED k) = false) (hrun : s.lockN k ≤ (s.wset k).lockRun)
    (hr : s.on (F.WVN_SETs_STAT_RANGE k) = false) : Completes (.wvnLock k) s fun t =>
      t.on (F.WVN_SETs_STAT_LOCKED k) = true ∧ (∀ b, b ≠ R.WVN_SETs_STAT k → t.rd b = s.rd b) ∧ s.loopKept t k := by
  have hlock : s.wvnLock k = s.set1 (F.WVN_SETs_STAT_LOCKED k) := by
    unfold wvnLock
    simp only [hon, hl, hrun, hr, Bool.false_eq_true, if_true, if_false, decide_true, Bool.not_false, Bool.and_self]
  refine ⟨_, rfl, ?_, fun b hb => ?_, sampled_loopKept _ ?_⟩
  · rw [on_congr (sampled_regs ..), hlock, on_set1_same _ _ (by simp) (by simp)]
  · rw [rd_congr (sampled_regs ..), hlock]
    exact rd_put_other s _ _ _ hb
  · rw [hlock, set1_wvn]

theorem wvnLock_clears (k : Fin 4) (hs : s.Shaped) (hon : s.setOn k = true) (hl : s.on (F.WVN_SETs_STAT_LOCKED k) = true)
    (hrun : (s.lockN k + 3) / 4 ≤ (s.wset k).unlockRun) : Completes (.wvnLock k) s fun t =>
      t.on (F.WVN_SETs_STAT_LOCKED k) = false ∧ t.on (F.WVN_SETs_STAT_HARM_VALID k) = false ∧
      (t.wset k).lockRun = 0 ∧ (t.wset k).unlockRun = 0 ∧ (t.wset k).angle = (s.wset k).angle ∧ (t.wset k).freq = (s.wset k).freq ∧
      s.sent t (0x48 + k) ∧ (∀ b, b ≠ R.WVN_SETs_STAT k → t.rd b = s.rd b) := by
  have hunlock : s.wvnLock k = s.unlock k := by
    unfold wvnLock
    simp only [hon, hl, hrun, if_true]
  have hk : k < s.wvn.sets.length := k.isLt.trans_eq hs.sets.symm
  have hlost := unlock_lost s hk
  obtain ⟨p, q, hset⟩ := hlost.set
  rw [← hunlock] at hlost hset
  obtain ⟨st, fr, hw⟩ := wset_sampled s k (·.wvnLock k) (hk.trans_eq hlost.len.symm)
  refine ⟨_, rfl, ?_, ?_, ?_, ?_, ?_, ?_, ?_, fun b hb => ?_⟩
  · exact (on_congr (sampled_regs ..) _).trans hlost.locked
  · exact (on_congr (sampled_regs ..) _).trans (hlost.harm hl)
  · rw [hw, hset]
  · rw [hw, hset]
  · rw [hw, hset]
  · rw [hw, hset]
  · exact (hlost.sent hl (coreRuns_of_setOn hon)).of_events (sampled_events ..)
  · exact (rd_congr (sampled_regs ..) b).trans (hlost.regs.rd hb)

/-! ### VALID (R93, R105) -/

/-- A set that has lost VALID and its lock, before the pickups clear. -/
def validLost (s : State) (k : Nat) : State := (s.clr (F.WVN_SETs_STAT_VALID k)).unlock k

/-- The pickups that VALID inhibits are clear. -/
def pickupsCleared (s : State) (k : Nat) : State :=
  (((s.modSet k (fun x => { x with heldF := none, heldR := none })).clr (F.WVN_SETs_STAT_PU_F k)).clr (F.WVN_SETs_STAT_PU_R k)).clr
    (F.WVN_SETs_STAT_PU_VS k)

theorem pickupsCleared_writes (s : State) (k : Nat) : s.Writes (· = R.WVN_SETs_STAT k) (s.pickupsCleared k) := by
  unfold pickupsCleared
  exact .clrAt (.clrAt (.clrAt (.of_regs (by rfl))))

theorem pickupsCleared_events (s : State) (k : Nat) : (s.pickupsCleared k).events = s.events := by
  unfold pickupsCleared
  rw [clr_events, clr_events, clr_events]
  rfl

theorem get_pickupsCleared (s : State) (k : Nat) (g : Fld) (hg : g.lo + g.width ≤ 14 ∨ 17 ≤ g.lo) : (s.pickupsCleared k).get g = s.get g := by
  unfold pickupsCleared
  rw [get_clr_other _ (F.WVN_SETs_STAT_PU_VS k) g (by simp) (.inr (by simp only; omega)),
    get_clr_other _ (F.WVN_SETs_STAT_PU_R k) g (by simp) (.inr (by simp only; omega)),
    get_clr_other _ (F.WVN_SETs_STAT_PU_F k) g (by simp) (.inr (by simp only; omega))]
  exact get_congr rfl g

theorem on_pickupsCleared (s : State) (k : Nat) : (s.pickupsCleared k).on (F.WVN_SETs_STAT_PU_F k) = false ∧
    (s.pickupsCleared k).on (F.WVN_SETs_STAT_PU_R k) = false ∧ (s.pickupsCleared k).on (F.WVN_SETs_STAT_PU_VS k) = false := by
  unfold pickupsCleared
  refine ⟨?_, ?_, on_clr_same _ _ (by simp)⟩
  · rw [on_clr_other _ (F.WVN_SETs_STAT_PU_VS k) (F.WVN_SETs_STAT_PU_F k) (by simp) (.inr (by simp)),
      on_clr_other _ (F.WVN_SETs_STAT_PU_R k) (F.WVN_SETs_STAT_PU_F k) (by simp) (.inr (by simp)), on_clr_same _ _ (by simp)]
  · rw [on_clr_other _ (F.WVN_SETs_STAT_PU_VS k) (F.WVN_SETs_STAT_PU_R k) (by simp) (.inr (by simp)), on_clr_same _ _ (by simp)]

theorem wset_pickupsCleared (s : State) (hk : k < s.wvn.sets.length) :
    (s.pickupsCleared k).wset k = { s.wset k with heldF := none, heldR := none } := by
  unfold pickupsCleared
  rw [wset_congr (clr_wvn ..), wset_congr (clr_wvn ..), wset_congr (clr_wvn ..), wset_modSet_same _ _ hk]

theorem validLoss_eq (hon : s.setOn k = true) (hv : s.on (F.WVN_SETs_STAT_VALID k) = true)
    (hrun : max 1 (s.get (F.WVN_SETs_CFG_LOSS_N k)) ≤ (s.wset k).lossRun) :
    s.validLoss k = ((s.validLost k).pickupsCleared k).shadowHold k := by
  unfold validLoss
  simp only [hon, hv, hrun, decide_true, Bool.and_self, if_true]
  rfl

theorem wvnValidLoss_gives (k : Fin 4) (hs : s.Shaped) (hon : s.setOn k = true) (hv : s.on (F.WVN_SETs_STAT_VALID k) = true)
    (hrun : max 1 (s.get (F.WVN_SETs_CFG_LOSS_N k)) ≤ (s.wset k).lossRun) : Completes (.wvnValidLoss k) s fun t =>
      t.on (F.WVN_SETs_STAT_VALID k) = false ∧ t.on (F.WVN_SETs_STAT_LOCKED k) = false ∧ t.on (F.WVN_SETs_STAT_PU_F k) = false ∧
      t.on (F.WVN_SETs_STAT_PU_R k) = false ∧ t.on (F.WVN_SETs_STAT_PU_VS k) = false ∧
      t.on (F.WVN_SETs_STAT_PU_V k) = s.on (F.WVN_SETs_STAT_PU_V k) ∧ (t.wset k).heldF = none ∧ (t.wset k).heldR = none ∧
      (t.wset k).heldV = (s.wset k).heldV ∧ (t.wset k).angle = (s.wset k).angle ∧ (t.wset k).freq = (s.wset k).freq ∧
      (s.on (F.WVN_SETs_STAT_LOCKED k) = true → s.sent t (0x48 + k)) ∧ (∀ b, b ≠ R.WVN_SETs_STAT k → t.rd b = s.rd b) := by
  have hk : k < s.wvn.sets.length := k.isLt.trans_eq hs.sets.symm
  have hlost := unlock_lost (s.clr (F.WVN_SETs_STAT_VALID k)) (k := k) (by rw [clr_wvn]; exact hk)
  obtain ⟨p, q, hset⟩ := hlost.set
  rw [← validLost, wset_congr (clr_wvn ..)] at hset
  rw [← validLost] at hlost
  have hlen : k < (s.validLost k).wvn.sets.length := hk.trans_eq (hlost.len.trans (by rw [clr_wvn])).symm
  have hkeep : ∀ g : Fld, g.lo + g.width ≤ 14 ∨ 20 ≤ g.lo → (s.validLoss k).get g = (s.validLost k).get g := fun g hg => by
    rw [validLoss_eq hon hv hrun, get_shadowHold _ _ _ (by omega), get_pickupsCleared _ _ _ (by omega)]
  have hclear : ∀ g : Fld, g.lo + g.width ≤ 18 → (s.validLoss k).on g = ((s.validLost k).pickupsCleared k).on g := fun g hg => by
    rw [validLoss_eq hon hv hrun, on_shadowHold _ _ _ (.inl hg)]
  obtain ⟨hf, hr, hvs⟩ := on_pickupsCleared (s.validLost k) k
  have hwset : (s.validLoss k).wset k = { s.wset k with heldF := none, heldR := none, lockRun := 0, unlockRun := 0, points := p, prevPhase := q } := by
    rw [validLoss_eq hon hv hrun, wset_shadowHold, wset_pickupsCleared _ hlen, hset]
  have hwvnlen : k < (s.validLoss k).wvn.sets.length := by
    rw [validLoss_eq hon hv hrun, (shadowHold_moves _ _).wvn]
    exact hlen.trans_eq (length_upd ..).symm
  obtain ⟨st, fr, hw⟩ := wset_sampled s k (·.validLoss k) hwvnlen
  have hon' : ∀ g, (s.sampled k (·.validLoss k)).on g = (s.validLoss k).on g := fun g => on_congr (sampled_regs ..) g
  have hcleared : s.Writes (· = R.WVN_SETs_STAT k) (s.clr (F.WVN_SETs_STAT_VALID k)) := (Writes.refl s).clr rfl
  refine ⟨_, rfl, (hon' _).trans ?_, (hon' _).trans ?_, (hon' _).trans ?_, (hon' _).trans ?_, (hon' _).trans ?_, (hon' _).trans ?_, ?_, ?_,
    ?_, ?_, ?_, fun hl => ?_, fun b hb => ?_⟩
  · rw [on, hkeep _ (by simp), hlost.rest _ (by simp)]
    exact on_clr_same _ _ (by simp)
  · rw [on, hkeep _ (by simp)]
    exact hlost.locked
  · rw [hclear _ (by simp), hf]
  · rw [hclear _ (by simp), hr]
  · rw [hclear _ (by simp), hvs]
  · rw [on, hkeep _ (by simp), hlost.rest _ (by simp), get_clr_other _ (F.WVN_SETs_STAT_VALID k) _ (by simp) (.inr (by simp)), on]
  · rw [hw, hwset]
  · rw [hw, hwset]
  · rw [hw, hwset]
  · rw [hw, hwset]
  · rw [hw, hwset]
  · have hl' : (s.clr (F.WVN_SETs_STAT_VALID k)).on (F.WVN_SETs_STAT_LOCKED k) = true :=
      (on_clr_other _ _ _ (by simp) (.inr (by simp))).trans hl
    have hruns : (s.clr (F.WVN_SETs_STAT_VALID k)).coreRuns = true :=
      (coreRuns_of_writes hcleared (clr_sys ..) (SYS_MODE_ne_STAT k)).trans (coreRuns_of_setOn hon)
    refine (sent.of_events ?_ (sampled_events ..) : s.sent _ _)
    rw [validLoss_eq hon hv hrun]
    exact sent.shadowHold (sent.of_events (hlost.sent hl' hruns) (pickupsCleared_events ..)) k
  · refine (rd_congr (sampled_regs ..) b).trans ?_
    rw [validLoss_eq hon hv hrun]
    exact ((hcleared.trans hlost.regs).trans ((pickupsCleared_writes _ k).trans (shadowHold_writes _ k))).rd hb

end State
end Sys2Proof.Machine

/-! Phase jumps and the shadow's return (R100, R103, R105). -/

namespace Sys2Proof.Machine

set_option Elab.async false
namespace State

variable {s t u : State} {k : Nat} {v : Word} {w : World}

/-! ### Phase jumps (R100) -/

theorem harmPublish_eq (s : State) (k : Nat) (before d : Rat) : s.harmPublish k before d = s ∨
    ∃ h d', s.harmPublish k before d = (s.modSet k (fun x => { x with harm := h, thd := d' })).set1 (F.WVN_SETs_STAT_HARM_VALID k) := by
  unfold harmPublish
  split
  · exact .inr ⟨_, _, rfl⟩
  · exact .inl rfl

/-- What the harmonics' publication leaves of a set and of the registers. -/
structure HarmOnly (s t : State) (k : Nat) : Prop where
  set : k < s.wvn.sets.length → ∃ h d, t.wset k = { s.wset k with harm := h, thd := d }
  len : t.wvn.sets.length = s.wvn.sets.length
  regs : s.Writes (· = R.WVN_SETs_STAT k) t
  moves : Moves [.regs, .cycle, .wvn] s t

theorem harmPublish_only (s : State) (k : Nat) (before d : Rat) : s.HarmOnly (s.harmPublish k before d) k := by
  rcases harmPublish_eq s k before d with h | ⟨a, b, h⟩
  · rw [h]
    exact ⟨fun _ => ⟨_, _, rfl⟩, rfl, .refl s, .refl s⟩
  · rw [h]
    refine ⟨fun hk => ⟨a, b, ?_⟩, (congrArg (·.sets.length) (set1_wvn ..) :).trans (length_upd ..), .set1At (.of_regs rfl), .put ((Moves.refl s).modSet _)⟩
    rw [wset_congr (set1_wvn ..), wset_modSet_same _ _ hk]

/-- A set whose jump has been taken, before its flag, its count and its event. -/
def jumpTaken (s : State) (k : Nat) : State := s.modSet k (fun y => { y with
  jump := y.err, jumpArmed := false, quietRun := 0
  prevPhase := if s.on (F.WVN_SETs_CFG_RESEED k) then none else y.prevPhase
  angle := if s.on (F.WVN_SETs_CFG_RESEED k) then fracTurn (y.angle + singleRat y.err / (2 * piRat)) else y.angle })

/-- Where ANGLE is reseeded, the bank may publish. -/
def jumpSeen (s : State) (k : Nat) : State :=
  if s.on (F.WVN_SETs_CFG_RESEED k) then (s.jumpTaken k).harmPublish k (s.wset k).angle (singleRat (s.wset k).err / (2 * piRat)) else s.jumpTaken k

theorem jumpSeen_only (s : State) (k : Nat) : (s.jumpTaken k).HarmOnly (s.jumpSeen k) k := by
  unfold jumpSeen
  split
  · exact harmPublish_only ..
  · exact ⟨fun _ => ⟨_, _, rfl⟩, rfl, .refl _, .refl _⟩

theorem phaseJump_eq (hon : s.setOn k = true) (ha : (s.wset k).jumpArmed = true) (hn : s.jumpN k ≤ (s.wset k).jumpRun) :
    s.phaseJump k = (((s.jumpSeen k).set1 (F.WVN_SETs_STAT_JUMP k)).incS (F.WVN_SETs_CNT_JUMPS k)).raise (0x48 + k) := by
  unfold phaseJump
  simp only [hon, ha, hn, decide_true, Bool.and_self, if_true]
  rfl

theorem CNT_ne_STAT (k : Nat) : R.WVN_SETs_CNT k ≠ R.WVN_SETs_STAT k := by simp only [R.WVN_SETs_CNT, R.WVN_SETs_STAT]; omega

theorem phaseJump_gives (k : Fin 4) (hs : s.Shaped) (hon : s.setOn k = true) (ha : (s.wset k).jumpArmed = true)
    (hn : s.jumpN k ≤ (s.wset k).jumpRun) : Completes (.phaseJump k) s fun t =>
      t.on (F.WVN_SETs_STAT_JUMP k) = true ∧ (t.wset k).jump = (s.wset k).err ∧ (t.wset k).jumpArmed = false ∧
      (s.on (F.WVN_SETs_CFG_RESEED k) = false → (t.wset k).angle = (s.wset k).angle) ∧
      (s.on (F.WVN_SETs_CFG_RESEED k) = true →
        (t.wset k).angle = fracTurn ((s.wset k).angle + singleRat (s.wset k).err / (2 * piRat))) ∧
      (t.wset k).freq = (s.wset k).freq ∧ (∀ b, b ≠ R.WVN_SETs_STAT k → b ≠ R.WVN_SETs_CNT k → t.rd b = s.rd b) ∧
      t.get (F.WVN_SETs_CNT_JUMPS k) = satInc (F.WVN_SETs_CNT_JUMPS k).width (s.get (F.WVN_SETs_CNT_JUMPS k)) ∧
      s.sent t (0x48 + k) := by
  have hk : k < s.wvn.sets.length := k.isLt.trans_eq hs.sets.symm
  have hk' : k < (s.jumpTaken k).wvn.sets.length := hk.trans_eq (length_upd ..).symm
  have honly := jumpSeen_only s k
  obtain ⟨h, d, hset⟩ := honly.set hk'
  have htaken : (s.jumpTaken k).wset k = { s.wset k with
      jump := (s.wset k).err, jumpArmed := false, quietRun := 0
      prevPhase := if s.on (F.WVN_SETs_CFG_RESEED k) then none else (s.wset k).prevPhase
      angle := if s.on (F.WVN_SETs_CFG_RESEED k) then fracTurn ((s.wset k).angle + singleRat (s.wset k).err / (2 * piRat)) else (s.wset k).angle } :=
    wset_modSet_same _ _ hk
  rw [htaken] at hset
  have hstat : s.Writes (· = R.WVN_SETs_STAT k) ((s.jumpSeen k).set1 (F.WVN_SETs_STAT_JUMP k)) :=
    .set1At ((Writes.of_regs (by unfold jumpTaken; rfl)).trans honly.regs)
  have hwrites : s.Writes (fun b => b = R.WVN_SETs_STAT k ∨ b = R.WVN_SETs_CNT k) (s.phaseJump k) := by
    rw [phaseJump_eq hon ha hn]
    exact ((hstat.mono fun _ => .inl).incS (.inr rfl)).raise
  have hwvn : (s.phaseJump k).wvn = (s.jumpSeen k).wvn := by
    rw [phaseJump_eq hon ha hn, raise_wvn]
    rfl
  have hw' : (s.phaseJump k).wset k = (s.jumpSeen k).wset k := wset_congr hwvn k
  rw [hset] at hw'
  obtain ⟨st, fr, hw⟩ := wset_sampled s k (·.phaseJump k) (by rw [hwvn, honly.len]; exact hk')
  have hclk : (((s.jumpSeen k).set1 (F.WVN_SETs_STAT_JUMP k)).incS (F.WVN_SETs_CNT_JUMPS k)).clk = s.clk := by
    rw [incS, put_clk, set1_clk, honly.moves.clk]
    rfl
  have hsys : (((s.jumpSeen k).set1 (F.WVN_SETs_STAT_JUMP k)).incS (F.WVN_SETs_CNT_JUMPS k)).sys = s.sys := by
    rw [incS, put_sys, set1_sys, honly.moves.sys]
    rfl
  refine ⟨_, rfl, (on_congr (sampled_regs ..) _).trans ?_, ?_, ?_, fun hoff => ?_, fun hseed => ?_, ?_, fun b h1 h2 => ?_,
    (get_congr (sampled_regs ..) _).trans ?_, sent.of_events ?_ (sampled_events ..)⟩
  · rw [phaseJump_eq hon ha hn, on_raise, incS, on_put_other _ (F.WVN_SETs_CNT_JUMPS k) (F.WVN_SETs_STAT_JUMP k) _ (by simp)
      (.inl (CNT_ne_STAT k).symm), on_set1_same _ _ (by simp) (by simp)]
  · rw [hw, hw']
  · rw [hw, hw']
  · rw [hw, hw']
    simp only [hoff, Bool.false_eq_true, if_false]
  · rw [hw, hw']
    simp only [hseed, if_true]
  · rw [hw, hw']
  · exact (rd_congr (sampled_regs ..) b).trans (hwrites.rd (by rintro (h | h); exact h1 h; exact h2 h))
  · rw [phaseJump_eq hon ha hn, get_raise, get_incS_same _ _ (by simp), hstat.get (f := F.WVN_SETs_CNT_JUMPS k) (CNT_ne_STAT k)]
  · rw [phaseJump_eq hon ha hn]
    refine sent_raise (t := ((s.jumpSeen k).set1 (F.WVN_SETs_STAT_JUMP k)).incS (F.WVN_SETs_CNT_JUMPS k)) ?_ hclk _
    refine (coreRuns_of_writes (P := fun b => b = R.WVN_SETs_STAT k ∨ b = R.WVN_SETs_CNT k) ((hstat.mono fun _ => .inl).incS (.inr rfl)) hsys ?_).trans
      (coreRuns_of_setOn hon)
    simp only [R.SYS_MODE, R.WVN_SETs_STAT, R.WVN_SETs_CNT]
    omega

/-! ### The shadow's return (R103) -/

theorem hook_WVN_SETs_SHD (s : State) (k : Fin 4) (v : Word) :
    s.hook (R.WVN_SETs_SHD k) v = (s.storePlain (R.WVN_SETs_SHD k) v).whenB (bitAt v 16) (·.resync k) := by
  fin_cases k <;> rfl

theorem movesPolicy_WVN_SETs_SHD : ∀ k : Fin 4, movesPolicy (R.WVN_SETs_SHD k) = false := by decide

theorem bitAt_or (v m : Word) {i : Nat} (hm : m.getLsbD i = true) : bitAt (v ||| m) i = true := by
  rw [bitAt_eq_getLsbD, BitVec.getLsbD_or, hm, Bool.or_true]

theorem SHD_ne_STAT (k : Nat) : R.WVN_SETs_STAT k ≠ R.WVN_SETs_SHD k := by simp only [R.WVN_SETs_SHD, R.WVN_SETs_STAT]; omega

/-- A set whose shadow begins its return. -/
def returning (s : State) (k : Nat) : State :=
  ((s.shadowTo k s.count).modSet k (fun x => { x with resyncRun := 0, byResync := false })).put (F.WVN_SETs_STAT_SHD k) 3

theorem resync_returns (hi : s.on (F.WVN_SETs_STAT_ISLAND k) = false) (hl : s.on (F.WVN_SETs_STAT_LOCKED k) = true)
    (hst : s.get (F.WVN_SETs_STAT_SHD k) = 1 ∨ s.get (F.WVN_SETs_STAT_SHD k) = 2) : s.resync k = s.returning k := by
  unfold resync
  simp only [hi, hl, hst, Bool.not_true, Bool.or_self, Bool.false_eq_true, if_false, if_true]
  rfl

theorem resync_refused (h : s.on (F.WVN_SETs_STAT_ISLAND k) = true ∨ s.on (F.WVN_SETs_STAT_LOCKED k) = false) :
    s.resync k = s.set1 (F.WVN_SETs_STAT_CLR_REF k) := by
  have hgo : (s.on (F.WVN_SETs_STAT_ISLAND k) || !s.on (F.WVN_SETs_STAT_LOCKED k)) = true := by
    rcases h with h | h <;> simp [h]
  unfold resync
  dsimp only
  rw [if_pos hgo]

theorem resyncWrite_moves (k : Fin 4) (ha : s.accepts w (R.WVN_SETs_SHD k) (v ||| 0x10000)) :
    Moves [.cycle, .tst] ((s.storePlain (R.WVN_SETs_SHD k) (v ||| 0x10000)).resync k) (s.write w (R.WVN_SETs_SHD k) (v ||| 0x10000)) := by
  have hmoves := write_moves ha (movesPolicy_WVN_SETs_SHD k)
  rw [hook_WVN_SETs_SHD, bitAt_or v 0x10000 (by decide)] at hmoves
  exact hmoves

theorem shadowResyncWrite_returns (k : Fin 4) (ha : s.accepts w (R.WVN_SETs_SHD k) (v ||| 0x10000))
    (hi : s.on (F.WVN_SETs_STAT_ISLAND k) = false) (hl : s.on (F.WVN_SETs_STAT_LOCKED k) = true)
    (hst : s.get (F.WVN_SETs_STAT_SHD k) = 1 ∨ s.get (F.WVN_SETs_STAT_SHD k) = 2) : Completes (.shadowResyncWrite w k v) s fun t =>
      t.get (F.WVN_SETs_STAT_SHD k) = 3 ∧ t.rd (R.WVN_SETs_SHD k) = s.stored (R.WVN_SETs_SHD k) (v ||| 0x10000) ∧
      (∀ b, b ≠ R.WVN_SETs_STAT k → b ≠ R.WVN_SETs_SHD k → t.rd b = s.rd b) ∧ (∀ n : Fin 4, n ≠ k → t.wset n = s.wset n) := by
  have hmoves := resyncWrite_moves k ha
  have hget : ∀ g : Fld, g.addr = R.WVN_SETs_STAT k → (s.storePlain (R.WVN_SETs_SHD k) (v ||| 0x10000)).get g = s.get g :=
    fun g hg => get_storePlain_other s _ (hg ▸ SHD_ne_STAT k)
  have hon : ∀ g : Fld, g.addr = R.WVN_SETs_STAT k → (s.storePlain (R.WVN_SETs_SHD k) (v ||| 0x10000)).on g = s.on g :=
    fun g hg => by rw [on, hget g hg, on]
  rw [resync_returns ((hon _ rfl).trans hi) ((hon _ rfl).trans hl) (by rw [hget _ rfl]; exact hst)] at hmoves
  have hrd : ∀ b, b ≠ R.WVN_SETs_STAT k → (s.write w (R.WVN_SETs_SHD k) (v ||| 0x10000)).rd b =
      (s.storePlain (R.WVN_SETs_SHD k) (v ||| 0x10000)).rd b := fun b hb =>
    (rd_congr hmoves.regs b).trans ((rd_put_other _ (F.WVN_SETs_STAT_SHD k) 3 b hb).trans (rd_congr rfl b))
  refine ⟨_, rfl, (get_congr hmoves.regs _).trans (get_put_same _ _ _ (by simp)), (hrd _ (SHD_ne_STAT k).symm).trans (rd_storePlain_same ..),
    fun b h1 h2 => (hrd b h1).trans (rd_storePlain_other _ _ h2), fun n hn => ?_⟩
  have hnk : (k : Nat) ≠ n := fun h => hn (Fin.ext h.symm)
  rw [wset_congr hmoves.wvn, returning, wset_congr (put_wvn ..), wset_modSet_other _ _ hnk, shadowTo, wset_modSet_other _ _ hnk,
    wset_congr (storePlain_moves ..).wvn]

theorem shadowResyncWrite_refused (k : Fin 4) (ha : s.accepts w (R.WVN_SETs_SHD k) (v ||| 0x10000))
    (h : s.on (F.WVN_SETs_STAT_ISLAND k) = true ∨ s.on (F.WVN_SETs_STAT_LOCKED k) = false) : Completes (.shadowResyncWrite w k v) s fun t =>
      t.on (F.WVN_SETs_STAT_CLR_REF k) = true ∧ t.get (F.WVN_SETs_STAT_SHD k) = s.get (F.WVN_SETs_STAT_SHD k) ∧ t.wvn = s.wvn := by
  have hmoves := resyncWrite_moves k ha
  have hon : ∀ g : Fld, g.addr = R.WVN_SETs_STAT k → (s.storePlain (R.WVN_SETs_SHD k) (v ||| 0x10000)).on g = s.on g :=
    fun g hg => on_storePlain_other s _ (hg ▸ SHD_ne_STAT k)
  rw [resync_refused (h.imp (hon _ rfl).trans (hon _ rfl).trans)] at hmoves
  refine ⟨_, rfl, (on_congr hmoves.regs _).trans (on_set1_same _ _ (by simp) (by simp)), (get_congr hmoves.regs _).trans ?_, ?_⟩
  · rw [get_set1_other _ (F.WVN_SETs_STAT_CLR_REF k) _ (by simp) (.inr (by simp)), get_storePlain_other s _ (SHD_ne_STAT k)]
  · rw [hmoves.wvn, set1_wvn, (storePlain_moves ..).wvn]

theorem shadowHold_tracks (h : s.get (F.WVN_SETs_STAT_SHD k) = 0) (hp : s.anyPickup k = false) (hf : s.get (F.WVN_SETs_STAT_FRT k) = 0) :
    s.shadowHold k = s := by
  unfold shadowHold
  simp only [h, hp, hf, Bool.not_false, beq_self_eq_true, Bool.and_self, if_true]

theorem shadowResyncDone_gives (k : Fin 4) (hon : s.setOn k = true) (hst : s.get (F.WVN_SETs_STAT_SHD k) = 3)
    (hn : s.lockN k ≤ (s.wset k).resyncRun) (hp : s.anyPickup k = false) (hf : s.get (F.WVN_SETs_STAT_FRT k) = 0) :
    Completes (.shadowResyncDone k) s fun t =>
      t.get (F.WVN_SETs_STAT_SHD k) = 0 ∧ (∀ b, b ≠ R.WVN_SETs_STAT k → t.rd b = s.rd b) ∧ s.loopKept t k := by
  have hother : ∀ g : Fld, g.lo + g.width ≤ 18 → (s.put (F.WVN_SETs_STAT_SHD k) 0).get g = s.get g := fun g hg =>
    get_put_other s (F.WVN_SETs_STAT_SHD k) g 0 (by simp) (.inr (.inl hg))
  have hshd : (s.put (F.WVN_SETs_STAT_SHD k) 0).get (F.WVN_SETs_STAT_SHD k) = 0 := get_put_same _ _ _ (by simp)
  have hpick : (s.put (F.WVN_SETs_STAT_SHD k) 0).anyPickup k = false := by
    rw [anyPickup, hother _ (by simp)]
    exact hp
  have hdone : s.resyncDone k = s.put (F.WVN_SETs_STAT_SHD k) 0 := by
    unfold resyncDone
    simp only [hon, hst, hn, beq_self_eq_true, decide_true, Bool.and_self, if_true]
    exact shadowHold_tracks hshd hpick ((hother _ (by simp)).trans hf)
  refine ⟨_, rfl, (get_congr (sampled_regs ..) _).trans ?_, fun b hb => (rd_congr (sampled_regs ..) b).trans ?_, sampled_loopKept _ ?_⟩
  · rw [hdone]; exact hshd
  · rw [hdone]; exact rd_put_other _ _ _ _ hb
  · rw [hdone, put_wvn]

theorem vsPickupHoldEnd_gives (k : Fin 4) (hon : s.setOn k = true) (hp : s.on (F.WVN_SETs_STAT_PU_VS k) = true)
    (he : (s.wset k).vsEnd ≤ (s.wset k).lastEnd) : Completes (.vsPickupHoldEnd k) s fun t =>
      t.on (F.WVN_SETs_STAT_PU_VS k) = false ∧ (∀ b, b ≠ R.WVN_SETs_STAT k → t.rd b = s.rd b) ∧ s.loopKept t k := by
  have hend : s.vsHoldEnd k = (s.clr (F.WVN_SETs_STAT_PU_VS k)).shadowHold k := by
    unfold vsHoldEnd
    simp only [hon, hp, he, decide_true, Bool.and_self, if_true]
  have hclr : s.Writes (· = R.WVN_SETs_STAT k) (s.clr (F.WVN_SETs_STAT_PU_VS k)) := .clrAt (.refl s)
  refine ⟨_, rfl, (on_congr (sampled_regs ..) _).trans ?_, fun b hb => (rd_congr (sampled_regs ..) b).trans ?_, sampled_loopKept _ ?_⟩
  · rw [hend, on_shadowHold _ _ _ (by simp)]
    exact on_clr_same _ _ (by simp)
  · rw [hend]
    exact (hclr.trans (shadowHold_writes _ k)).rd hb
  · rw [hend, (shadowHold_moves _ k).wvn, clr_wvn]

end State

/-- Settles O15: each command's own lemma. -/
theorem lockJumpAndTheShadow : Obligations.LockJumpAndTheShadow :=
  ⟨fun _ k h1 h2 h3 h4 => State.wvnLock_sets k h1 h2 h3 h4, fun _ k h1 h2 h3 h4 => State.wvnLock_clears k h1 h2 h3 h4,
    fun _ k h1 h2 h3 h4 => State.wvnValidLoss_gives k h1 h2 h3 h4, fun _ k h1 h2 h3 h4 => State.phaseJump_gives k h1 h2 h3 h4,
    fun _ _ k _ h1 h2 h3 h4 => State.shadowResyncWrite_returns k h1 h2 h3 h4, fun _ _ k _ h1 h2 => State.shadowResyncWrite_refused k h1 h2,
    fun _ k h1 h2 h3 h4 h5 => State.shadowResyncDone_gives k h1 h2 h3 h4 h5, fun _ k h1 h2 h3 => State.vsPickupHoldEnd_gives k h1 h2 h3⟩

end Sys2Proof.Machine

/-! Islanding detection and ride-through (R105 to R107, R109, R113). -/

namespace Sys2Proof.Machine

set_option Elab.async false
namespace State

variable {s t u : State} {k : Nat} {v : Word} {w : World}

/-! ### The summary bits -/

theorem bit_putBit_same (s : State) (a : Nat) {i : Nat} (b : Bool) (hi : i < 32) : (s.putBit a i b).bit a i = b := by
  have hw : (⟨a, i, 1⟩ : Fld).lo + (⟨a, i, 1⟩ : Fld).width ≤ 32 := hi
  rw [bit, putBit, get_put_same _ _ _ hw]
  cases b <;> rfl

theorem bit_putBit_other (s : State) (a : Nat) {i j : Nat} (b : Bool) (hi : i < 32) (hij : j ≠ i) : (s.putBit a i b).bit a j = s.bit a j := by
  have hw : (⟨a, i, 1⟩ : Fld).lo + (⟨a, i, 1⟩ : Fld).width ≤ 32 := hi
  have hd : (⟨a, j, 1⟩ : Fld).lo + (⟨a, j, 1⟩ : Fld).width ≤ (⟨a, i, 1⟩ : Fld).lo ∨ (⟨a, i, 1⟩ : Fld).lo + (⟨a, i, 1⟩ : Fld).width ≤ (⟨a, j, 1⟩ : Fld).lo := by
    change j + 1 ≤ i ∨ i + 1 ≤ j
    omega
  rw [bit, putBit, get_put_other _ _ _ _ hw (.inr hd), bit]

theorem bit_congr {a i : Nat} (h : t.rd a = s.rd a) : t.bit a i = s.bit a i := by
  rw [bit, get, h, bit, get]

theorem rd_putBit_other (s : State) {a b : Nat} (i : Nat) (x : Bool) (h : b ≠ a) : (s.putBit a i x).rd b = s.rd b := rd_put_other s ⟨a, i, 1⟩ _ b h

theorem WVN_STAT_ne_STAT (k : Nat) : R.WVN_SETs_STAT k ≠ R.WVN_STAT := by simp only [R.WVN_STAT, R.WVN_SETs_STAT]; omega

/-! ### ISLAND is declared (R106, R109) -/

theorem islandCause_lt (s : State) (k : Nat) : s.islandCause k < 32 := by
  have hbit : ∀ b : Bool, bit1 b ≤ 1 := fun b => by cases b <;> decide
  unfold islandCause
  dsimp only
  generalize (heldFor _ _ : Bool) = a
  generalize (heldFor _ _ : Bool) = b
  generalize (_ && _ : Bool) = c
  generalize (_ && _ : Bool) = d
  generalize s.on (F.WVN_SETs_STAT_PU_ACT k) = e
  have := hbit a
  have := hbit b
  have := hbit c
  have := hbit d
  have := hbit e
  omega

/-- The state in which ISLAND stands with its stamp and its cause. -/
def islandNoted (s : State) (k : Nat) : State :=
  ((s.set1 (F.WVN_SETs_STAT_ISLAND k)).wr (R.WVN_SETs_ISL_STAMP k) (BitVec.ofNat 32 (s.wset k).lastEnd)).put (F.WVN_SETs_ISL_CAUSE_CAUSE k)
    (s.islandCause k)

/-- The same state with its summary bit, and ride-through back in NORMAL. -/
def islandShown (s : State) (k : Nat) : State :=
  (((s.islandNoted k).putBit R.WVN_STAT (4 + k) true).put (F.WVN_SETs_STAT_FRT k) 0).putBit R.WVN_STAT (8 + k) false

theorem islandDeclare_eq (hon : s.setOn k = true) (hi : s.on (F.WVN_SETs_STAT_ISLAND k) = false) (hc : s.islandCause k ≠ 0) :
    s.islandDeclare k = (s.islandShown k).raise (0x40 + k) := by
  have hcause : (s.islandCause k != 0) = true := bne_iff_ne.mpr hc
  unfold islandDeclare
  simp only [hon, hi, hcause, Bool.not_false, Bool.and_self, if_true]
  rfl

/-- What ISLAND's declaration shows of registers other than the set's status and the summary. -/
theorem rd_islandShown (s : State) (k : Nat) {b : Nat} (h1 : b ≠ R.WVN_SETs_STAT k) (h2 : b ≠ R.WVN_STAT) :
    (s.islandShown k).rd b = (s.islandNoted k).rd b := by
  unfold islandShown
  rw [rd_putBit_other _ _ _ h2, rd_put_other _ (F.WVN_SETs_STAT_FRT k) _ _ h1, rd_putBit_other _ _ _ h2]

theorem islandShown_rest (s : State) (k : Nat) : (s.islandShown k).wvn = s.wvn ∧ (s.islandShown k).clk = s.clk ∧ (s.islandShown k).sys = s.sys := by
  simp only [islandShown, islandNoted, putBit, put_wvn, put_clk, put_sys, wr_wvn, wr_clk, wr_sys, set1_wvn, set1_clk, set1_sys, and_self]

theorem rd_islandNoted_stat (s : State) (k : Nat) : (s.islandNoted k).rd (R.WVN_SETs_STAT k) = (s.set1 (F.WVN_SETs_STAT_ISLAND k)).rd (R.WVN_SETs_STAT k) := by
  have h1 : R.WVN_SETs_STAT k ≠ R.WVN_SETs_ISL_CAUSE k := by simp only [R.WVN_SETs_STAT, R.WVN_SETs_ISL_CAUSE]; omega
  have h2 : R.WVN_SETs_STAT k ≠ R.WVN_SETs_ISL_STAMP k := by simp only [R.WVN_SETs_STAT, R.WVN_SETs_ISL_STAMP]; omega
  unfold islandNoted
  rw [rd_put_other _ (F.WVN_SETs_ISL_CAUSE_CAUSE k) _ _ h1, rd_wr, if_neg h2]

theorem islandDeclare_gives (k : Fin 4) (hon : s.setOn k = true) (hi : s.on (F.WVN_SETs_STAT_ISLAND k) = false) (hc : s.islandCause k ≠ 0) :
    Completes (.islandDeclare k) s fun t =>
      t.on (F.WVN_SETs_STAT_ISLAND k) = true ∧ t.get (F.WVN_SETs_ISL_CAUSE_CAUSE k) = s.islandCause k ∧
      t.rd (R.WVN_SETs_ISL_STAMP k) = BitVec.ofNat 32 (s.wset k).lastEnd ∧ t.bit R.WVN_STAT (4 + k) = true ∧
      t.get (F.WVN_SETs_STAT_FRT k) = 0 ∧ s.sent t (0x40 + k) ∧ s.loopKept t k := by
  have heq := islandDeclare_eq hon hi hc
  obtain ⟨hwvn, hclk, hsys⟩ := islandShown_rest s k
  have hregs : (s.sampled k (·.islandDeclare k)).regs = (s.islandShown k).regs := (sampled_regs ..).trans (by rw [heq, raise_regs])
  have h1 : R.WVN_SETs_ISL_CAUSE k ≠ R.WVN_SETs_STAT k := by simp only [R.WVN_SETs_STAT, R.WVN_SETs_ISL_CAUSE]; omega
  have h2 : R.WVN_SETs_ISL_CAUSE k ≠ R.WVN_STAT := by simp only [R.WVN_STAT, R.WVN_SETs_ISL_CAUSE]; omega
  have h3 : R.WVN_SETs_ISL_STAMP k ≠ R.WVN_SETs_STAT k := by simp only [R.WVN_SETs_STAT, R.WVN_SETs_ISL_STAMP]; omega
  have h4 : R.WVN_SETs_ISL_STAMP k ≠ R.WVN_STAT := by simp only [R.WVN_STAT, R.WVN_SETs_ISL_STAMP]; omega
  have h5 : R.WVN_SETs_ISL_STAMP k ≠ R.WVN_SETs_ISL_CAUSE k := by simp only [R.WVN_SETs_ISL_CAUSE, R.WVN_SETs_ISL_STAMP]; omega
  have hstat : (s.islandShown k).rd (R.WVN_SETs_STAT k) =
      (((s.islandNoted k).putBit R.WVN_STAT (4 + k) true).put (F.WVN_SETs_STAT_FRT k) 0).rd (R.WVN_SETs_STAT k) :=
    rd_putBit_other _ _ _ (WVN_STAT_ne_STAT k)
  refine ⟨_, rfl, (on_congr hregs _).trans ?_, (get_congr hregs _).trans ?_, (rd_congr hregs _).trans ?_, (bit_congr (rd_congr hregs _)).trans ?_,
    (get_congr hregs _).trans ?_, ?_, sampled_loopKept _ ?_⟩
  · rw [on_of_rd hstat, on_put_other _ (F.WVN_SETs_STAT_FRT k) (F.WVN_SETs_STAT_ISLAND k) _ (by simp) (.inr (by simp)),
      on_of_rd (rd_putBit_other _ _ _ (WVN_STAT_ne_STAT k)), on_of_rd (rd_islandNoted_stat s k)]
    exact on_set1_same s (F.WVN_SETs_STAT_ISLAND k) (by simp) (by simp)
  · rw [get_of_rd (rd_islandShown s k h1 h2), islandNoted, get_put_same _ _ _ (by simp)]
    exact Nat.mod_eq_of_lt (islandCause_lt s k)
  · rw [rd_islandShown s k h3 h4, islandNoted, rd_put_other _ (F.WVN_SETs_ISL_CAUSE_CAUSE k) _ _ h5, rd_wr, if_pos rfl]
  · have hk := k.isLt
    rw [islandShown, bit_putBit_other _ _ _ (by omega) (by omega), bit_congr (rd_put_other _ (F.WVN_SETs_STAT_FRT k) _ _ (WVN_STAT_ne_STAT k).symm),
      bit_putBit_same _ _ _ (by omega)]
  · rw [get_of_rd hstat]
    exact get_put_same _ (F.WVN_SETs_STAT_FRT k) 0 (by simp)
  · refine sent.of_events ?_ (sampled_events ..)
    rw [heq]
    have hmode : (s.islandShown k).rd R.SYS_MODE = s.rd R.SYS_MODE := by
      rw [rd_islandShown s k (SYS_MODE_ne_STAT k) (by decide), islandNoted, rd_put_other _ (F.WVN_SETs_ISL_CAUSE_CAUSE k) _ _ ?_, rd_wr, if_neg ?_]
      · exact rd_put_other s (F.WVN_SETs_STAT_ISLAND k) 1 _ (SYS_MODE_ne_STAT k)
      · simp only [R.SYS_MODE, R.WVN_SETs_ISL_STAMP]; omega
      · simp only [R.SYS_MODE, R.WVN_SETs_ISL_CAUSE]; omega
    exact sent_raise ((coreRuns_of_rd hsys hmode).trans (coreRuns_of_setOn hon)) hclk _
  · rw [heq, raise_wvn, hwvn]

/-! ### ISLAND is cleared (R109) -/

theorem hook_WVN_SETs_ISLA (s : State) (k : Fin 4) (v : Word) :
    s.hook (R.WVN_SETs_ISLA k) v = (s.storePlain (R.WVN_SETs_ISLA k) v).whenB (bitAt v 8) (·.islandClear k) := by
  fin_cases k <;> rfl

theorem movesPolicy_WVN_SETs_ISLA : ∀ k : Fin 4, movesPolicy (R.WVN_SETs_ISLA k) = false := by decide

theorem STAT_ne_ISLA (k : Nat) : R.WVN_SETs_STAT k ≠ R.WVN_SETs_ISLA k := by simp only [R.WVN_SETs_ISLA, R.WVN_SETs_STAT]; omega

theorem islandClearWrite_moves (k : Fin 4) (ha : s.accepts w (R.WVN_SETs_ISLA k) (v ||| 0x100)) :
    Moves [.cycle, .tst] ((s.storePlain (R.WVN_SETs_ISLA k) (v ||| 0x100)).islandClear k) (s.write w (R.WVN_SETs_ISLA k) (v ||| 0x100)) := by
  have hmoves := write_moves ha (movesPolicy_WVN_SETs_ISLA k)
  rw [hook_WVN_SETs_ISLA, bitAt_or v 0x100 (by decide)] at hmoves
  exact hmoves

/-- The state whose ISLAND and summary bit have been cleared. -/
def islandGone (s : State) (k : Nat) : State := (s.clr (F.WVN_SETs_STAT_ISLAND k)).putBit R.WVN_STAT (4 + k) false

theorem islandGone_wvn (s : State) (k : Nat) : (s.islandGone k).wvn = s.wvn := by rw [islandGone, putBit, put_wvn, clr_wvn]

theorem islandClear_eq (hp : s.anyPickup k = false) : s.islandClear k = if s.on (F.WVN_SETs_STAT_ISLAND k) then
    (s.islandGone k).modSet k (fun x => { x with byResync := x.byResync || s.get (F.WVN_SETs_STAT_SHD k) == 1 }) else s.islandGone k := by
  unfold islandClear
  rw [if_neg (by rw [hp]; decide)]
  rfl

theorem islandClear_regs (hp : s.anyPickup k = false) : (s.islandClear k).regs = (s.islandGone k).regs := by
  rw [islandClear_eq hp]
  split <;> rfl

theorem islandClear_gives (k : Fin 4) (ha : s.accepts w (R.WVN_SETs_ISLA k) (v ||| 0x100)) :
    (s.anyPickup k = false → Completes (.islandClear w k v) s fun t =>
      t.on (F.WVN_SETs_STAT_ISLAND k) = false ∧ t.bit R.WVN_STAT (4 + k) = false ∧
      t.get (F.WVN_SETs_STAT_SHD k) = s.get (F.WVN_SETs_STAT_SHD k) ∧ (s.on (F.WVN_SETs_STAT_ISLAND k) = false → t.wvn = s.wvn) ∧
      (s.Shaped → s.on (F.WVN_SETs_STAT_ISLAND k) = true → s.get (F.WVN_SETs_STAT_SHD k) = 1 → (t.wset k).byResync = true)) ∧
    (s.anyPickup k = true → Completes (.islandClear w k v) s fun t =>
      t.on (F.WVN_SETs_STAT_CLR_REF k) = true ∧ t.on (F.WVN_SETs_STAT_ISLAND k) = s.on (F.WVN_SETs_STAT_ISLAND k) ∧ t.wvn = s.wvn) := by
  have hmoves := islandClearWrite_moves k ha
  have hget : ∀ g : Fld, g.addr = R.WVN_SETs_STAT k → (s.storePlain (R.WVN_SETs_ISLA k) (v ||| 0x100)).get g = s.get g :=
    fun g hg => get_storePlain_other s _ (hg ▸ STAT_ne_ISLA k)
  have hwvn : (s.storePlain (R.WVN_SETs_ISLA k) (v ||| 0x100)).wvn = s.wvn := (storePlain_moves ..).wvn
  have hk := k.isLt
  generalize s.storePlain (R.WVN_SETs_ISLA k) (v ||| 0x100) = u at hmoves hget hwvn
  have hpick : u.anyPickup k = s.anyPickup k := by rw [anyPickup, hget _ rfl, anyPickup]
  have hisland : u.on (F.WVN_SETs_STAT_ISLAND k) = s.on (F.WVN_SETs_STAT_ISLAND k) := by rw [on, hget _ rfl, on]
  refine ⟨fun hp => ⟨_, rfl, ?_⟩, fun hp => ⟨_, rfl, ?_⟩⟩
  · have hregs := hmoves.regs.trans (islandClear_regs (hpick.trans hp))
    have hset := hmoves.wvn
    rw [islandClear_eq (hpick.trans hp), hisland] at hset
    refine ⟨(on_congr hregs _).trans ?_, (bit_congr (rd_congr hregs _)).trans (bit_putBit_same _ _ _ (by omega)), (get_congr hregs _).trans ?_,
      fun hi => ?_, fun hs hi hshd => ?_⟩
    · rw [islandGone, on_of_rd (rd_putBit_other _ _ _ (WVN_STAT_ne_STAT k))]
      exact on_clr_same u _ (by simp)
    · rw [islandGone, get_of_rd (rd_putBit_other _ _ _ (WVN_STAT_ne_STAT k)), get_clr_other _ (F.WVN_SETs_STAT_ISLAND k) _ (by simp) (.inr (by simp)), hget _ rfl]
    · rw [hset, if_neg (by rw [hi]; decide)]
      exact (islandGone_wvn u k).trans hwvn
    · rw [if_pos hi] at hset
      have hlen : (k : Nat) < (u.islandGone k).wvn.sets.length := by
        rw [islandGone_wvn, hwvn, hs.sets]
        exact hk
      rw [wset_congr hset, wset_modSet_same _ _ hlen, hget _ rfl, hshd]
      exact Bool.or_true _
  · have hclear : u.islandClear k = u.set1 (F.WVN_SETs_STAT_CLR_REF k) := if_pos (hpick.trans hp)
    rw [hclear] at hmoves
    refine ⟨(on_congr hmoves.regs _).trans (on_set1_same _ _ (by simp) (by simp)), (on_congr hmoves.regs _).trans ?_, ?_⟩
    · rw [on_set1_other _ (F.WVN_SETs_STAT_CLR_REF k) _ (by simp) (.inr (by simp)), hisland]
    · rw [hmoves.wvn, set1_wvn, hwvn]

end State
end Sys2Proof.Machine

/-! The impedance estimate and ride-through (R105, R107, R113). -/

namespace Sys2Proof.Machine

set_option Elab.async false
namespace State

variable {s t u : State} {k : Nat} {v : Word} {w : World}

/-! ### The end of an injection period (R107) -/

/-- The set with a fresh gathering, and what it had gathered beside the periods before. -/
def periodEnded (s : State) (k : Nat) : State := s.modSet k (fun y => { y with
  wraps := s.injWraps k, inj := {}, injWhole := true
  periods := if (s.wset k).injWhole then ((s.wset k).inj :: (s.wset k).periods).take (s.actN k) else y.periods })

/-- What the estimate of an ended period leaves of the set's gathering and of the registers. -/
structure PeriodKept (s t : State) (k : Nat) : Prop where
  wraps : (t.wset k).wraps = (s.wset k).wraps
  inj : (t.wset k).inj = (s.wset k).inj
  periods : (t.wset k).periods = (s.wset k).periods
  whole : (t.wset k).injWhole = (s.wset k).injWhole
  regs : s.Writes (· = R.WVN_SETs_STAT k) t

theorem PeriodKept.judged (k : Nat) (hk : k < s.wvn.sets.length) {f : SetSt → SetSt}
    (hf : ∀ x, (f x).wraps = x.wraps ∧ (f x).inj = x.inj ∧ (f x).periods = x.periods ∧ (f x).injWhole = x.injWhole) {fld : Fld} {n : Nat}
    (hfld : fld.addr = R.WVN_SETs_STAT k) : s.PeriodKept (((s.modSet k f).put fld n).shadowHold k) k := by
  have hset : (((s.modSet k f).put fld n).shadowHold k).wset k = f (s.wset k) := by
    rw [wset_shadowHold, wset_congr (put_wvn ..), wset_modSet_same _ _ hk]
  obtain ⟨h1, h2, h3, h4⟩ := hf (s.wset k)
  refine ⟨by rw [hset, h1], by rw [hset, h2], by rw [hset, h3], by rw [hset, h4], ?_⟩
  exact ((Writes.of_regs (t := s.modSet k f) rfl).putAt hfld).trans (shadowHold_writes _ k)

theorem PeriodKept.ite {c : Prop} [Decidable c] {a b : State} (ha : s.PeriodKept a k) (hb : s.PeriodKept b k) : s.PeriodKept (if c then a else b) k := by
  split <;> assumption

/-- The estimate's judgement of an ended period changes the set outside its gathering, and PU_ACT. -/
theorem activeEstimate_kept (hs : k < s.wvn.sets.length) (hon : s.setOn k = true) (ha : s.on (F.WVN_SETs_ISLA_USE_ACT k) = true)
    (hw : (s.wset k).wraps < s.injWraps k) : (s.periodEnded k).PeriodKept (s.activeEstimate k) k := by
  have hlen : k < (s.periodEnded k).wvn.sets.length := hs.trans_eq (length_upd ..).symm
  have hgo : (s.setOn k && s.on (F.WVN_SETs_ISLA_USE_ACT k) && decide ((s.wset k).wraps < s.injWraps k)) = true := by simp [hon, ha, hw]
  unfold activeEstimate
  extract_lets x ps p vr vi ir ii i2 zre zim n conf t
  rw [if_pos hgo]
  clear_value n conf zre zim
  apply PeriodKept.ite
  · exact ⟨rfl, rfl, rfl, rfl, .refl _⟩
  · apply PeriodKept.ite
    · exact PeriodKept.judged (f := fun y => { y with actRun := 0 }) k hlen (fun _ => ⟨rfl, rfl, rfl, rfl⟩) (fld := F.WVN_SETs_STAT_PU_ACT k) (n := 0) rfl
    · exact PeriodKept.judged (f := fun y => { y with zre := zre, zim := zim, actRun := n }) k hlen (fun _ => ⟨rfl, rfl, rfl, rfl⟩)
        (fld := F.WVN_SETs_STAT_PU_ACT k) (n := bit1 (decide (conf ≤ n))) rfl

theorem activeEstimate_gives (k : Fin 4) (hs : s.Shaped) (hon : s.setOn k = true) (ha : s.on (F.WVN_SETs_ISLA_USE_ACT k) = true)
    (hw : (s.wset k).wraps < s.injWraps k) : Completes (.activeEstimate k) s fun t =>
      (t.wset k).wraps = s.injWraps k ∧ (t.wset k).inj = {} ∧
      ((s.wset k).injWhole = true → (t.wset k).periods = ((s.wset k).inj :: (s.wset k).periods).take (s.actN k)) ∧
      ((s.wset k).injWhole = false → (t.wset k).periods = (s.wset k).periods) ∧ (t.wset k).injWhole = true ∧
      (∀ b, b ≠ R.WVN_SETs_STAT k → t.rd b = s.rd b) := by
  have hk : k < s.wvn.sets.length := k.isLt.trans_eq hs.sets.symm
  have hkept := activeEstimate_kept hk hon ha hw
  have hset : (s.periodEnded k).wset k = { s.wset k with
      wraps := s.injWraps k, inj := {}, injWhole := true
      periods := if (s.wset k).injWhole then ((s.wset k).inj :: (s.wset k).periods).take (s.actN k) else (s.wset k).periods } :=
    wset_modSet_same _ _ hk
  refine ⟨_, rfl, hkept.wraps.trans (by rw [hset]), hkept.inj.trans (by rw [hset]), fun h => hkept.periods.trans ?_,
    fun h => hkept.periods.trans ?_, hkept.whole.trans (by rw [hset]), fun b hb => (hkept.regs.rd hb).trans (rd_congr rfl b)⟩
  · rw [hset]
    simp only [h, if_true]
  · rw [hset]
    simp only [h, Bool.false_eq_true, if_false]

/-! ### A transition of ride-through (R113) -/

/-- The registers of a transition: the set's status and the summary. -/
def frtRegs (k b : Nat) : Prop := b = R.WVN_SETs_STAT k ∨ b = R.WVN_STAT

theorem SYS_MODE_not_frtRegs (k : Nat) : ¬ frtRegs k R.SYS_MODE := by
  simp only [frtRegs, R.SYS_MODE, R.WVN_SETs_STAT, R.WVN_STAT]
  omega

/-- What a transition to a state leaves. -/
structure FrtMoved (s t : State) (k dest : Nat) : Prop where
  frt : t.get (F.WVN_SETs_STAT_FRT k) = dest % 8
  trip : 8 + k < 32 → t.bit R.WVN_STAT (8 + k) = (dest == 4)
  event : s.coreRuns = true → s.get (F.WVN_SETs_STAT_FRT k) ≠ dest → s.sent t (0x44 + k)
  tripEvent : s.coreRuns = true → dest = 4 → s.sent t 0x4C
  pickup : dest = 1 ∨ dest = 2 → t.on (F.WVN_SETs_STAT_PU_V k) = false
  regs : s.Writes (frtRegs k) t

/-- The new state stands with its summary bit and the sample that caused it. -/
def frtStands (s : State) (k dest : Nat) : State :=
  ((s.put (F.WVN_SETs_STAT_FRT k) dest).putBit R.WVN_STAT (8 + k) (dest == 4)).modSet k (fun x => { x with frtEntry := x.lastEnd, frtMoved := true })

/-- Where PU_V is held or released, its timer begins again. -/
def frtPickup (s : State) (k dest : Nat) : State :=
  if dest = 1 ∨ dest = 2 ∨ s.get (F.WVN_SETs_STAT_FRT k) = 1 ∨ s.get (F.WVN_SETs_STAT_FRT k) = 2 then
    ((s.frtStands k dest).modSet k (fun x => { x with heldV := held ((s.frtStands k dest).voltPick k) none })).putB (F.WVN_SETs_STAT_PU_V k)
      ((s.frtStands k dest).voltPick k)
  else s.frtStands k dest

theorem frtTo_eq (s : State) (k dest : Nat) : s.frtTo k dest =
    if dest = 4 then (if s.get (F.WVN_SETs_STAT_FRT k) = dest then s.frtPickup k dest else (s.frtPickup k dest).raise (0x44 + k)).raise 0x4C
    else if s.get (F.WVN_SETs_STAT_FRT k) = dest then s.frtPickup k dest else (s.frtPickup k dest).raise (0x44 + k) := rfl

theorem frtTo_regs (s : State) (k dest : Nat) : (s.frtTo k dest).regs = (s.frtPickup k dest).regs := by
  rw [frtTo_eq]
  split <;> split <;> simp only [raise_regs]

theorem rd_frtStands (s : State) (k dest : Nat) : (s.frtStands k dest).rd (R.WVN_SETs_STAT k) = (s.put (F.WVN_SETs_STAT_FRT k) dest).rd (R.WVN_SETs_STAT k) :=
  (rd_congr rfl _).trans (rd_putBit_other _ _ _ (WVN_STAT_ne_STAT k))

theorem frtStands_frt (s : State) (k dest : Nat) : (s.frtStands k dest).get (F.WVN_SETs_STAT_FRT k) = dest % 8 := by
  rw [get_of_rd (rd_frtStands s k dest)]
  exact get_put_same _ _ _ (by simp)

theorem frtStands_writes (s : State) (k dest : Nat) : s.Writes (frtRegs k) (s.frtStands k dest) := by
  unfold frtStands
  exact Writes.regs (Writes.putBit (Writes.put (.refl s) (.inl rfl)) (.inr rfl)) rfl

theorem frtPickup_writes (s : State) (k dest : Nat) : s.Writes (frtRegs k) (s.frtPickup k dest) := by
  unfold frtPickup
  split
  · exact (Writes.regs (frtStands_writes s k dest) (by rfl)).putB (.inl rfl)
  · exact frtStands_writes s k dest

theorem frtPickup_moves (s : State) (k dest : Nat) : Moves [.regs, .cycle, .wvn] s (s.frtPickup k dest) := by
  have hstands : Moves [.regs, .cycle, .wvn] s (s.frtStands k dest) := (Moves.put (Moves.put (.refl s))).modSet _
  unfold frtPickup
  exact .ite (putB_moves (hstands.modSet _) _ _) hstands

theorem voltPick_held (h : s.get (F.WVN_SETs_STAT_FRT k) = 1 ∨ s.get (F.WVN_SETs_STAT_FRT k) = 2) : s.voltPick k = false := by
  unfold voltPick
  rcases h with h | h <;> simp [h]

theorem frtPickup_of_stands (s : State) (k dest : Nat) (f : Fld) (hf : f.lo + f.width ≤ 13 ∨ 14 ≤ f.lo) :
    (s.frtPickup k dest).get f = (s.frtStands k dest).get f := by
  unfold frtPickup
  split
  · rw [putB, get_put_other _ (F.WVN_SETs_STAT_PU_V k) f _ (by simp) (.inr hf)]
    exact get_congr rfl f
  · rfl

theorem rd_frtPickup_summary (s : State) (k dest : Nat) : (s.frtPickup k dest).rd R.WVN_STAT = (s.frtStands k dest).rd R.WVN_STAT := by
  unfold frtPickup
  split
  · exact (rd_put_other _ (F.WVN_SETs_STAT_PU_V k) _ _ (WVN_STAT_ne_STAT k).symm).trans (rd_congr rfl _)
  · rfl

theorem coreRuns_frtPickup (s : State) (k dest : Nat) : (s.frtPickup k dest).coreRuns = s.coreRuns :=
  coreRuns_of_writes (frtPickup_writes s k dest) (frtPickup_moves s k dest).sys (SYS_MODE_not_frtRegs k)

theorem frtTo_moved (s : State) (k dest : Nat) : s.FrtMoved (s.frtTo k dest) k dest := by
  have hregs := frtTo_regs s k dest
  have hclk := (frtPickup_moves s k dest).clk
  refine ⟨(get_congr hregs _).trans ?_, fun hk => (bit_congr (rd_congr hregs _)).trans ?_, fun hruns hne => ?_, fun hruns h4 => ?_,
    fun hd => (on_congr hregs _).trans ?_, (frtPickup_writes s k dest).regs hregs⟩
  · rw [frtPickup_of_stands s k dest _ (by simp), frtStands_frt]
  · rw [bit_congr (rd_frtPickup_summary s k dest), frtStands, bit_congr (rd_congr (modSet_regs ..) _), bit_putBit_same _ _ _ hk]
  · have hsent : s.sent ((s.frtPickup k dest).raise (0x44 + k)) (0x44 + k) := sent_raise ((coreRuns_frtPickup s k dest).trans hruns) hclk _
    rw [frtTo_eq, if_neg hne]
    split
    · exact hsent.raise _
    · exact hsent
  · rw [frtTo_eq, if_pos h4]
    split
    · exact sent_raise ((coreRuns_frtPickup s k dest).trans hruns) hclk _
    · refine sent_raise ((coreRuns_of_rd (raise_sys ..) (rd_raise ..)).trans ((coreRuns_frtPickup s k dest).trans hruns)) ((raise_clk ..).trans hclk) _
  · have hfrt : (s.frtStands k dest).get (F.WVN_SETs_STAT_FRT k) = 1 ∨ (s.frtStands k dest).get (F.WVN_SETs_STAT_FRT k) = 2 := by
      rw [frtStands_frt]
      omega
    rw [frtPickup, if_pos (by tauto), voltPick_held hfrt]
    exact on_putB_same _ _ _ (by simp) (by simp)

/-! ### The transitions of a sample -/

theorem coreRuns_of_frtWorks (h : s.frtWorks k = true) : s.coreRuns = true := by
  unfold frtWorks at h
  simp only [Bool.and_eq_true] at h
  exact coreRuns_of_setOn h.1.1.1

/-- The onset of a disturbance is noted and counted. -/
def onsetNoted (s : State) (k : Nat) : State :=
  let hi := perUnit (s.get (F.WVN_SETs_FRTB_HI k)) < singleRat (s.wset k).vmag
  (((s.modSet k (fun y => { y with onset := some y.frtRunStart })).putB (F.WVN_SETs_STAT_FRT_DIR k) hi).wr (R.WVN_SETs_FRT_STAMP k)
    (BitVec.ofNat 32 (s.wset k).frtRunStart)).incS (F.WVN_SETs_CNT_DIPS k)

theorem disturbed_eq (s : State) (k : Nat) : s.disturbed k = (s.onsetNoted k).frtTo k 1 := rfl

/-- The onset's registers: the direction, the stamp and the count. -/
def onsetRegs (k b : Nat) : Prop := b = R.WVN_SETs_STAT k ∨ b = R.WVN_SETs_FRT_STAMP k ∨ b = R.WVN_SETs_CNT k

theorem onsetNoted_writes (s : State) (k : Nat) : s.Writes (onsetRegs k) (s.onsetNoted k) := by
  unfold onsetNoted
  exact Writes.incS (Writes.wr (Writes.putB (Writes.of_regs (by rfl)) (.inl rfl)) (.inr (.inl rfl))) (.inr (.inr rfl))

theorem onsetNoted_shows (s : State) (k : Nat) : (s.onsetNoted k).rd (R.WVN_SETs_FRT_STAMP k) = BitVec.ofNat 32 (s.wset k).frtRunStart ∧
    (s.onsetNoted k).get (F.WVN_SETs_CNT_DIPS k) = satInc (F.WVN_SETs_CNT_DIPS k).width (s.get (F.WVN_SETs_CNT_DIPS k)) ∧
    (s.onsetNoted k).get (F.WVN_SETs_STAT_FRT k) = s.get (F.WVN_SETs_STAT_FRT k) := by
  have h1 : R.WVN_SETs_FRT_STAMP k ≠ R.WVN_SETs_CNT k := by simp only [R.WVN_SETs_FRT_STAMP, R.WVN_SETs_CNT]; omega
  have h2 : R.WVN_SETs_STAT k ≠ R.WVN_SETs_CNT k := by simp only [R.WVN_SETs_STAT, R.WVN_SETs_CNT]; omega
  have h3 : R.WVN_SETs_STAT k ≠ R.WVN_SETs_FRT_STAMP k := by simp only [R.WVN_SETs_STAT, R.WVN_SETs_FRT_STAMP]; omega
  unfold onsetNoted
  dsimp only
  refine ⟨?_, ?_, ?_⟩
  · rw [incS, rd_put_other _ (F.WVN_SETs_CNT_DIPS k) _ _ h1, rd_wr, if_pos rfl]
  · rw [get_incS_same _ _ (by simp), get_of_rd (s := s) ?_]
    rw [rd_wr, if_neg h1.symm, putB, rd_put_other _ (F.WVN_SETs_STAT_FRT_DIR k) _ _ h2.symm]
    exact rd_congr rfl _
  · rw [get_incS_other _ _ _ (by simp) (.inl h2), get_of_rd (f := F.WVN_SETs_STAT_FRT k) ((rd_wr ..).trans (if_neg h3)), putB,
      get_put_other _ (F.WVN_SETs_STAT_FRT_DIR k) _ _ (by simp) (.inr (by simp))]
    exact get_congr rfl _

theorem onsetNoted_time (s : State) (k : Nat) : (s.onsetNoted k).clk = s.clk ∧ (s.onsetNoted k).coreRuns = s.coreRuns := by
  have hsys : (s.onsetNoted k).sys = s.sys := by simp only [onsetNoted, incS, put_sys, wr_sys, putB_sys, modSet_sys]
  refine ⟨by simp only [onsetNoted, incS, put_clk, wr_clk, putB_clk, modSet_clk], coreRuns_of_writes (onsetNoted_writes s k) hsys ?_⟩
  simp only [onsetRegs, R.SYS_MODE, R.WVN_SETs_STAT, R.WVN_SETs_FRT_STAMP, R.WVN_SETs_CNT]
  omega

/-- An event that is sent in a state of the same time is sent. -/
theorem sent_of_clk {src : Nat} (h : t.sent u src) (hclk : t.clk = s.clk) : s.sent u src := by
  unfold sent at *
  rw [← hclk]
  exact h

theorem frtTransition_disturbs (k : Fin 4) (hworks : s.frtWorks k = true) (hv : (s.wset k).sampleValid = true)
    (hfrt : s.get (F.WVN_SETs_STAT_FRT k) = 0) (hn : s.detN k ≤ (s.wset k).frtOut) : Completes (.frtTransition k) s fun t =>
      t.get (F.WVN_SETs_STAT_FRT k) = 1 ∧ t.rd (R.WVN_SETs_FRT_STAMP k) = BitVec.ofNat 32 (s.wset k).frtRunStart ∧
      t.get (F.WVN_SETs_CNT_DIPS k) = satInc (F.WVN_SETs_CNT_DIPS k).width (s.get (F.WVN_SETs_CNT_DIPS k)) ∧
      t.on (F.WVN_SETs_STAT_PU_V k) = false ∧ s.sent t (0x44 + k) := by
  have heq : s.frtTransition k = ((s.onsetNoted k).frtTo k 1).shadowHold k := by
    unfold frtTransition
    simp only [hworks, hv, Bool.and_self, if_true, hfrt, hn]
    rfl
  have hmoved := frtTo_moved (s.onsetNoted k) k 1
  obtain ⟨hstamp, hcnt, hfrt'⟩ := onsetNoted_shows s k
  obtain ⟨hclk, hruns⟩ := onsetNoted_time s k
  have hrd : ∀ b, ¬ frtRegs k b → (s.sampled k (·.frtTransition k)).rd b = (s.onsetNoted k).rd b := fun b hb => by
    refine (rd_congr (sampled_regs ..) b).trans ?_
    rw [heq]
    exact ((shadowHold_writes _ k).rd fun h => hb (.inl h)).trans (hmoved.regs.rd hb)
  refine ⟨_, rfl, (get_congr (sampled_regs ..) _).trans ?_, (hrd _ ?_).trans hstamp, (get_of_rd (hrd _ ?_)).trans hcnt,
    (on_congr (sampled_regs ..) _).trans ?_, sent.of_events ?_ (sampled_events ..)⟩
  · rw [heq, get_shadowHold _ _ _ (by simp)]
    exact hmoved.frt
  · simp only [frtRegs, R.WVN_SETs_STAT, R.WVN_SETs_FRT_STAMP, R.WVN_STAT]; omega
  · simp only [frtRegs, R.WVN_SETs_STAT, R.WVN_SETs_CNT, R.WVN_STAT]; omega
  · rw [heq, on_shadowHold _ _ _ (by simp)]
    exact hmoved.pickup (.inl rfl)
  · rw [heq]
    refine sent_of_clk (sent.shadowHold (hmoved.event (hruns.trans (coreRuns_of_frtWorks hworks)) ?_) k) hclk
    rw [hfrt', hfrt]
    decide

theorem frtTransition_trips (k : Fin 4) (hworks : s.frtWorks k = true) (hv : (s.wset k).sampleValid = true)
    (hfrt : s.get (F.WVN_SETs_STAT_FRT k) = 1 ∨ s.get (F.WVN_SETs_STAT_FRT k) = 2) (hb : s.breach k = true) :
    Completes (.frtTransition k) s fun t =>
      t.get (F.WVN_SETs_STAT_FRT k) = 4 ∧ t.bit R.WVN_STAT (8 + k) = true ∧ s.sent t (0x44 + k) ∧ s.sent t 0x4C := by
  have heq : s.frtTransition k = (s.frtTo k 4).shadowHold k := by
    unfold frtTransition
    rcases hfrt with h | h <;> simp only [hworks, hv, Bool.and_self, if_true, h, hb]
  have hmoved := frtTo_moved s k 4
  have hruns := coreRuns_of_frtWorks hworks
  have hk := k.isLt
  refine ⟨_, rfl, (get_congr (sampled_regs ..) _).trans ?_, (bit_congr (rd_congr (sampled_regs ..) _)).trans ?_,
    sent.of_events ?_ (sampled_events ..), sent.of_events ?_ (sampled_events ..)⟩
  · rw [heq, get_shadowHold _ _ _ (by simp)]
    exact hmoved.frt
  · rw [heq, bit_congr ((shadowHold_writes _ k).rd (WVN_STAT_ne_STAT k).symm), hmoved.trip (by omega)]
    rfl
  · rw [heq]
    exact sent.shadowHold (hmoved.event hruns (by omega)) k
  · rw [heq]
    exact sent.shadowHold (hmoved.tripEvent hruns rfl) k

theorem frtConfirmElapsed_gives (k : Fin 4) (hworks : s.frtWorks k = true) (hfrt : s.get (F.WVN_SETs_STAT_FRT k) = 1)
    (hc : s.confirmed k = true) (hb : (s.wset k).sampleValid = false ∨ s.breach k = false) : Completes (.frtConfirmElapsed k) s fun t =>
      t.get (F.WVN_SETs_STAT_FRT k) = 2 ∧ s.sent t (0x44 + k) := by
  have hno : ((s.wset k).sampleValid && s.breach k) = false := by
    rcases hb with h | h <;> simp [h]
  have heq : s.frtConfirm k = s.frtTo k 2 := by
    unfold frtConfirm
    simp only [hworks, hfrt, hc, hno, beq_self_eq_true, Bool.not_false, Bool.and_self, if_true]
  have hmoved := frtTo_moved s k 2
  refine ⟨_, rfl, (get_congr (sampled_regs ..) _).trans ?_, sent.of_events ?_ (sampled_events ..)⟩
  · rw [heq]
    exact hmoved.frt
  · rw [heq]
    exact hmoved.event (coreRuns_of_frtWorks hworks) (by omega)

theorem frtRecoverElapsed_gives (k : Fin 4) (hworks : s.frtWorks k = true) (hfrt : s.get (F.WVN_SETs_STAT_FRT k) = 3)
    (he : (s.wset k).frtEntry + 400000 * s.get (F.WVN_SETs_FRT2_REC_TIME k) ≤ (s.wset k).lastEnd) : Completes (.frtRecoverElapsed k) s fun t =>
      t.get (F.WVN_SETs_STAT_FRT k) = 0 ∧ s.sent t (0x44 + k) := by
  have heq : s.frtRecover k = (s.frtTo k 0).shadowHold k := by
    unfold frtRecover
    simp only [hworks, hfrt, he, beq_self_eq_true, decide_true, Bool.and_self, if_true]
  have hmoved := frtTo_moved s k 0
  refine ⟨_, rfl, (get_congr (sampled_regs ..) _).trans ?_, sent.of_events ?_ (sampled_events ..)⟩
  · rw [heq, get_shadowHold _ _ _ (by simp)]
    exact hmoved.frt
  · rw [heq]
    exact sent.shadowHold (hmoved.event (coreRuns_of_frtWorks hworks) (by omega)) k

/-! ### Writes of WVN_SETs_FRT (R113) -/

theorem hook_WVN_SETs_FRT (s : State) (k : Fin 4) (v : Word) : s.hook (R.WVN_SETs_FRT k) v =
    if s.on (F.WVN_SETs_FRT_EN k) ∧ !bitAt v 0 then ((s.storePlain (R.WVN_SETs_FRT k) v).whenB (bitAt v 2) (·.frtClear k)).frtTo k 0
    else (s.storePlain (R.WVN_SETs_FRT k) v).whenB (bitAt v 2) (·.frtClear k) := by
  fin_cases k <;> rfl

theorem movesPolicy_WVN_SETs_FRT : ∀ k : Fin 4, movesPolicy (R.WVN_SETs_FRT k) = false := by decide

theorem STAT_ne_FRT (k : Nat) : R.WVN_SETs_STAT k ≠ R.WVN_SETs_FRT k := by simp only [R.WVN_SETs_FRT, R.WVN_SETs_STAT]; omega
theorem FRTR_ne_FRT (k : Nat) : R.WVN_SETs_FRTR k ≠ R.WVN_SETs_FRT k := by simp only [R.WVN_SETs_FRT, R.WVN_SETs_FRTR]; omega

theorem frtClear_inside (hfrt : s.get (F.WVN_SETs_STAT_FRT k) = 4) (hlo : perUnit (s.get (F.WVN_SETs_FRTR_LO k)) ≤ singleRat (s.wset k).vmag)
    (hhi : singleRat (s.wset k).vmag ≤ perUnit (s.get (F.WVN_SETs_FRTR_HI k))) : s.frtClear k = (s.frtTo k 0).shadowHold k := by
  unfold frtClear
  simp only [hfrt, hlo, hhi, decide_true, Bool.and_self, if_true]

theorem frtClear_outside (hfrt : s.get (F.WVN_SETs_STAT_FRT k) = 4) (h : ¬ (perUnit (s.get (F.WVN_SETs_FRTR_LO k)) ≤ singleRat (s.wset k).vmag ∧
    singleRat (s.wset k).vmag ≤ perUnit (s.get (F.WVN_SETs_FRTR_HI k)))) : s.frtClear k = s.set1 (F.WVN_SETs_STAT_CLR_REF k) := by
  unfold frtClear
  rw [if_pos hfrt]
  dsimp only
  rw [if_neg]
  simpa only [Bool.and_eq_true, decide_eq_true_eq] using h

theorem frtClearWrite_moves (k : Fin 4) (ha : s.accepts w (R.WVN_SETs_FRT k) (v ||| 4)) (hv : bitAt v 0 = true) :
    Moves [.cycle, .tst] ((s.storePlain (R.WVN_SETs_FRT k) (v ||| 4)).frtClear k) (s.write w (R.WVN_SETs_FRT k) (v ||| 4)) := by
  have hmoves := write_moves ha (movesPolicy_WVN_SETs_FRT k)
  have h0 : bitAt (v ||| 4) 0 = true := by
    rw [bitAt_eq_getLsbD] at hv ⊢
    rw [BitVec.getLsbD_or, hv, Bool.true_or]
  have h2 : bitAt (v ||| 4) 2 = true := bitAt_or v 4 (by decide)
  rw [hook_WVN_SETs_FRT, h0, h2, if_neg (by simp), whenB, if_pos rfl] at hmoves
  exact hmoves

theorem frtClearWrite_refused (k : Fin 4) (ha : s.accepts w (R.WVN_SETs_FRT k) (v ||| 4)) (hv : bitAt v 0 = true)
    (hfrt : s.get (F.WVN_SETs_STAT_FRT k) = 4) (h : ¬ (perUnit (s.get (F.WVN_SETs_FRTR_LO k)) ≤ singleRat (s.wset k).vmag ∧
      singleRat (s.wset k).vmag ≤ perUnit (s.get (F.WVN_SETs_FRTR_HI k)))) : Completes (.frtClear w k v) s fun t =>
        t.get (F.WVN_SETs_STAT_FRT k) = 4 ∧ t.on (F.WVN_SETs_STAT_CLR_REF k) = true := by
  have hmoves := frtClearWrite_moves k ha hv
  have hstat := get_storePlain_other s (f := F.WVN_SETs_STAT_FRT k) (v ||| 4) (STAT_ne_FRT k)
  have hclear : (s.storePlain (R.WVN_SETs_FRT k) (v ||| 4)).frtClear k = (s.storePlain (R.WVN_SETs_FRT k) (v ||| 4)).set1 (F.WVN_SETs_STAT_CLR_REF k) := by
    refine frtClear_outside (hstat.trans hfrt) ?_
    rw [get_storePlain_other s (f := F.WVN_SETs_FRTR_LO k) _ (FRTR_ne_FRT k), get_storePlain_other s (f := F.WVN_SETs_FRTR_HI k) _ (FRTR_ne_FRT k),
      wset_congr (storePlain_moves ..).wvn]
    exact h
  rw [hclear] at hmoves
  refine ⟨_, rfl, (get_congr hmoves.regs _).trans ?_, (on_congr hmoves.regs _).trans (on_set1_same _ _ (by simp) (by simp))⟩
  rw [get_set1_other _ (F.WVN_SETs_STAT_CLR_REF k) _ (by simp) (.inr (by simp)), hstat, hfrt]

theorem frtClear_gives (k : Fin 4) (ha : s.accepts w (R.WVN_SETs_FRT k) (v ||| 4)) (hv : bitAt v 0 = true)
    (hfrt : s.get (F.WVN_SETs_STAT_FRT k) = 4) :
    (perUnit (s.get (F.WVN_SETs_FRTR_LO k)) ≤ singleRat (s.wset k).vmag →
      singleRat (s.wset k).vmag ≤ perUnit (s.get (F.WVN_SETs_FRTR_HI k)) →
      Completes (.frtClear w k v) s fun t =>
        t.get (F.WVN_SETs_STAT_FRT k) = 0 ∧ t.bit R.WVN_STAT (8 + k) = false ∧ (s.coreRuns = true → s.sent t (0x44 + k))) ∧
    (perUnit (s.get (F.WVN_SETs_FRTR_HI k)) < singleRat (s.wset k).vmag →
      Completes (.frtClear w k v) s fun t => t.get (F.WVN_SETs_STAT_FRT k) = 4 ∧ t.on (F.WVN_SETs_STAT_CLR_REF k) = true) ∧
    (singleRat (s.wset k).vmag < perUnit (s.get (F.WVN_SETs_FRTR_LO k)) →
      Completes (.frtClear w k v) s fun t => t.get (F.WVN_SETs_STAT_FRT k) = 4 ∧ t.on (F.WVN_SETs_STAT_CLR_REF k) = true) := by
  refine ⟨fun hlo hhi => ?_, fun h => frtClearWrite_refused k ha hv hfrt fun hin => absurd h (not_lt.mpr hin.2),
    fun h => frtClearWrite_refused k ha hv hfrt fun hin => absurd h (not_lt.mpr hin.1)⟩
  have hmoves := frtClearWrite_moves k ha hv
  have hstore := storePlain_moves s (R.WVN_SETs_FRT k) (v ||| 4)
  have hwrites : s.Writes (· = R.WVN_SETs_FRT k) (s.storePlain (R.WVN_SETs_FRT k) (v ||| 4)) := (Writes.refl s).storePlain rfl
  have hstat := get_storePlain_other s (f := F.WVN_SETs_STAT_FRT k) (v ||| 4) (STAT_ne_FRT k)
  have hlo' := get_storePlain_other s (f := F.WVN_SETs_FRTR_LO k) (v ||| 4) (FRTR_ne_FRT k)
  have hhi' := get_storePlain_other s (f := F.WVN_SETs_FRTR_HI k) (v ||| 4) (FRTR_ne_FRT k)
  have hruns : (s.storePlain (R.WVN_SETs_FRT k) (v ||| 4)).coreRuns = s.coreRuns :=
    coreRuns_of_writes hwrites hstore.sys (by simp only [R.SYS_MODE, R.WVN_SETs_FRT]; omega)
  generalize s.storePlain (R.WVN_SETs_FRT k) (v ||| 4) = u at *
  have hset := wset_congr hstore.wvn k
  rw [frtClear_inside (hstat.trans hfrt) (by rw [hlo', hset]; exact hlo) (by rw [hhi', hset]; exact hhi)] at hmoves
  have hmoved := frtTo_moved u k 0
  have hk := k.isLt
  refine ⟨_, rfl, (get_congr hmoves.regs _).trans ?_, (bit_congr (rd_congr hmoves.regs _)).trans ?_, fun hr => sent.of_events ?_ hmoves.events⟩
  · rw [get_shadowHold _ _ _ (by simp)]
    exact hmoved.frt
  · rw [bit_congr ((shadowHold_writes _ k).rd (WVN_STAT_ne_STAT k).symm), hmoved.trip (by omega)]
    rfl
  · exact sent_of_clk (sent.shadowHold (hmoved.event (hruns.trans hr) (by omega)) k) hstore.clk

theorem frtDisable_gives (k : Fin 4) (ha : s.accepts w (R.WVN_SETs_FRT k) (v &&& 0xFFFFFFFE)) (hv : bitAt v 2 = false)
    (hen : s.on (F.WVN_SETs_FRT_EN k) = true) : Completes (.frtDisable w k v) s fun t =>
      t.get (F.WVN_SETs_STAT_FRT k) = 0 ∧ t.bit R.WVN_STAT (8 + k) = false := by
  have hmoves := write_moves ha (movesPolicy_WVN_SETs_FRT k)
  have h0 : bitAt (v &&& 0xFFFFFFFE) 0 = false := by
    rw [bitAt_eq_getLsbD, BitVec.getLsbD_and]
    exact Bool.and_false _
  have h2 : bitAt (v &&& 0xFFFFFFFE) 2 = false := by
    rw [bitAt_eq_getLsbD] at hv ⊢
    rw [BitVec.getLsbD_and, hv, Bool.false_and]
  rw [hook_WVN_SETs_FRT, if_pos ⟨hen, by rw [h0]; rfl⟩, h2] at hmoves
  have hk := k.isLt
  exact ⟨_, rfl, (get_congr hmoves.regs _).trans (frtTo_moved _ k 0).frt,
    (bit_congr (rd_congr hmoves.regs _)).trans ((frtTo_moved _ k 0).trip (by omega))⟩

end State

/-- Settles O16: each command's own lemma. -/
theorem islandingAndRideThrough : Obligations.IslandingAndRideThrough :=
  ⟨fun _ k h1 h2 h3 => State.islandDeclare_gives k h1 h2 h3, fun _ _ k _ h => State.islandClear_gives k h,
    fun _ k h1 h2 h3 h4 => State.activeEstimate_gives k h1 h2 h3 h4, fun _ k h1 h2 h3 h4 => State.frtTransition_disturbs k h1 h2 h3 h4,
    fun _ k h1 h2 h3 h4 => State.frtTransition_trips k h1 h2 h3 h4, fun _ k h1 h2 h3 h4 => State.frtConfirmElapsed_gives k h1 h2 h3 h4,
    fun _ k h1 h2 h3 => State.frtRecoverElapsed_gives k h1 h2 h3, fun _ _ k _ h1 h2 h3 => State.frtClear_gives k h1 h2 h3,
    fun _ _ k _ h1 h2 h3 => State.frtDisable_gives k h1 h2 h3⟩

end Sys2Proof.Machine

/-! Rules that the units below share: what a loop leaves at one index, which events outlast an operation, and the bits of a packed word. -/

namespace Sys2Proof.Machine

set_option Elab.async false
namespace State

variable {s t u : State}

/-- What step `i` of a loop leaves, where the other steps keep it; `I` holds throughout. -/
theorem forAll_at {n i : Nat} {f : Nat → State → State} (q : State → Prop) (I : State → Prop) (h0 : I s) (hI : ∀ j u, j < n → I u → I (f j u))
    (hstep : ∀ u, I u → q (f i u)) (hkeep : ∀ j u, j ≠ i → I u → q u → q (f j u)) (hi : i < n) : q (s.forAll n f) := by
  have hrec : ∀ m ≤ n, I (s.forAll m f) ∧ (i < m → q (s.forAll m f)) := by
    intro m
    induction m with
    | zero => exact fun _ => ⟨h0, fun h => absurd h (Nat.not_lt_zero i)⟩
    | succ m ih =>
      intro hle
      obtain ⟨hm, hq⟩ := ih (by omega)
      have hs : s.forAll (m + 1) f = f m (s.forAll m f) := by
        simp only [forAll, List.range_succ, List.foldl_append, List.foldl_cons, List.foldl_nil]
      rw [hs]
      refine ⟨hI m _ (by omega) hm, fun h => ?_⟩
      by_cases hmi : i = m
      · exact hmi ▸ hstep _ (hmi ▸ hm)
      · exact hkeep m _ (Ne.symm hmi) hm (hq (by omega))
  exact (hrec n le_rfl).2 hi

/-- Every event of `s` is one of `t`. -/
def EventsLast (s t : State) : Prop := ∀ e ∈ s.events, e ∈ t.events

theorem EventsLast.refl (s : State) : s.EventsLast s := fun _ he => he
theorem EventsLast.trans (h : s.EventsLast t) (h' : t.EventsLast u) : s.EventsLast u := fun e he => h' e (h e he)
theorem EventsLast.same (h : s.EventsLast t) (he : u.events = t.events) : s.EventsLast u := fun e hm => he ▸ h e hm
theorem EventsLast.raise (h : s.EventsLast t) (src : Nat) : s.EventsLast (t.raise src) := fun e he => raise_keeps t src e (h e he)
theorem EventsLast.log (h : s.EventsLast t) {code block : Nat} {sev : Severity} {data : List Byte} : s.EventsLast (t.log code block sev data) :=
  fun e he => log_keeps t code block sev data (h e he)
theorem EventsLast.ite {c : Prop} [Decidable c] (ht : s.EventsLast t) (hu : s.EventsLast u) : s.EventsLast (if c then t else u) := by
  split <;> assumption
theorem EventsLast.foldl {α : Type} {f : State → α → State} {l : List α} (h : s.EventsLast t) (hf : ∀ u x, s.EventsLast u → s.EventsLast (f u x)) :
    s.EventsLast (l.foldl f t) := by
  induction l generalizing t with
  | nil => exact h
  | cons x xs ih => exact ih (hf t x h)
theorem EventsLast.forAll (h : s.EventsLast t) {n : Nat} {f : Nat → State → State} (hf : ∀ i u, s.EventsLast u → s.EventsLast (f i u)) :
    s.EventsLast (t.forAll n f) := EventsLast.foldl h fun u i hu => hf i u hu

/-- A field of a word that is given as a number. -/
theorem getBits_ofNat (n : Nat) {lo w : Nat} (h : lo + w ≤ 32) : getBits (BitVec.ofNat 32 n) lo w = n / 2 ^ lo % 2 ^ w := by
  refine Nat.eq_of_testBit_eq fun i => ?_
  rw [testBit_getBits, Nat.testBit_mod_two_pow, Nat.testBit_div_two_pow, BitVec.getLsbD_ofNat]
  by_cases hi : i < w
  · have : lo + i < 32 := by omega
    simp [hi, this, Nat.add_comm]
  · simp [hi]

theorem get_wr_same (s : State) (f : Fld) (v : Word) : (s.wr f.addr v).get f = getBits v f.lo f.width := by
  rw [State.get, rd_wr, if_pos rfl]

theorem wrapTo_lt (w : Nat) (x : Int) : wrapTo w x < 2 ^ w := by
  have hpos : (0 : Int) < 2 ^ w := by positivity
  unfold wrapTo
  rw [Int.toNat_lt (Int.emod_nonneg x hpos.ne')]
  exact_mod_cast Int.emod_lt_of_pos x hpos

theorem bit1_lt (b : Bool) : bit1 b < 2 := by cases b <;> decide

theorem prismWin_modPrismWin_same {w : Nat} (s : State) (f : PrismWin → PrismWin) (hw : w < s.prism.wins.length) :
    (s.modPrismWin w f).prismWin w = f (s.prismWin w) := nth_upd_same _ _ _ _ hw

theorem prismWin_modPrismWin_other {w v : Nat} (s : State) (f : PrismWin → PrismWin) (hv : v ≠ w) :
    (s.modPrismWin w f).prismWin v = s.prismWin v := nth_upd_other _ _ _ _ _ hv.symm

theorem get_putB_other (s : State) (f g : Fld) (b : Bool) (h : f.lo + f.width ≤ 32)
    (hd : g.addr ≠ f.addr ∨ g.lo + g.width ≤ f.lo ∨ f.lo + f.width ≤ g.lo) : (s.putB f b).get g = s.get g := get_put_other s f g _ h hd

theorem on_putB_other (s : State) (f g : Fld) (b : Bool) (h : f.lo + f.width ≤ 32)
    (hd : g.addr ≠ f.addr ∨ g.lo + g.width ≤ f.lo ∨ f.lo + f.width ≤ g.lo) : (s.putB f b).on g = s.on g := on_put_other s f g _ h hd

/-! ### A void record -/

/-- A record's registers and its note, before the log takes it. -/
def voidNoted (s : State) (src : VoidSrc) (state : Bool) (c : Nat) (stamp : Word) : State :=
  let t := ((s.putBit R.TST_VOID_STAT src.bit true).whenB state (fun u => u.set1 F.TST_VOID_STAT_STATE)).wr R.TST_VOID_LAST stamp
  let t := if (s.rd R.TST_VOID_STAT).toNat % 32 = 0 then t.wr R.TST_VOID_FIRST stamp else t
  (if s.voidedBefore c stamp then t else t.incS F.TST_VOID_CNT_CNT).noteVoid c stamp

theorem void_eq (s : State) (src : VoidSrc) (state : Bool) (c : Nat) (stamp : Word) : s.void src state c stamp =
    if s.voidedBefore c stamp then s.voidNoted src state c stamp else (s.voidNoted src state c stamp).log 0x0006 16 .warn
      (leBytes 4 ((s.voidNoted src state c stamp).rd R.TST_VOID_STAT).toNat ++ leBytes 4 stamp.toNat) := rfl

theorem voidNoted_writes (s : State) (src : VoidSrc) (state : Bool) (c : Nat) (stamp : Word) :
    s.Writes (0x40100000 ≤ ·) (s.voidNoted src state c stamp) := by
  unfold voidNoted
  dsimp only
  have hlast : s.Writes (0x40100000 ≤ ·) (((s.putBit R.TST_VOID_STAT src.bit true).whenB state (fun u => u.set1 F.TST_VOID_STAT_STATE)).wr
      R.TST_VOID_LAST stamp) := .wr (.whenB (.putBit (.refl s) (by decide)) fun _ hu => hu.set1 (by decide)) (by decide)
  have hfirst := Writes.ite (p := (s.rd R.TST_VOID_STAT).toNat % 32 = 0) (hlast.wr (a := R.TST_VOID_FIRST) (v := stamp) (by decide)) hlast
  exact Writes.regs (.ite hfirst (.incS (f := F.TST_VOID_CNT_CNT) hfirst (by decide))) (by rfl)

theorem voidNoted_moves (s : State) (src : VoidSrc) (state : Bool) (c : Nat) (stamp : Word) :
    Moves [.regs, .cycle, .tst] s (s.voidNoted src state c stamp) := by
  unfold voidNoted
  dsimp only
  have hlast : Moves [.regs, .cycle, .tst] s (((s.putBit R.TST_VOID_STAT src.bit true).whenB state (fun u => u.set1 F.TST_VOID_STAT_STATE)).wr
      R.TST_VOID_LAST stamp) := .wr (.whenB (.put (.refl s)) fun _ hu => .put hu)
  have hfirst := Moves.ite (p := (s.rd R.TST_VOID_STAT).toNat % 32 = 0) (hlast.wr (a := R.TST_VOID_FIRST) (v := stamp)) hlast
  exact Moves.record (.ite hfirst (.put hfirst)) (by rfl)

theorem Writes.void {P : Nat → Prop} (h : s.Writes P t) (hP : ∀ b, 0x40100000 ≤ b → P b) {src : VoidSrc} {state : Bool} {c : Nat} {stamp : Word} :
    s.Writes P (t.void src state c stamp) := by
  have hnote := h.trans ((voidNoted_writes t src state c stamp).mono hP)
  rw [void_eq]
  exact .ite hnote hnote.log

theorem Moves.void {A : List Part} (h : Moves A s t) {src : VoidSrc} {state : Bool} {c : Nat} {stamp : Word}
    (hA : [.regs, .cycle, .tst, .rtc, .mram, .events, .stew, .draws] ⊆ A := by decide) : Moves A s (t.void src state c stamp) := by
  have hnote := (voidNoted_moves t src state c stamp).mono (G := [.regs, .cycle, .tst, .rtc, .mram, .events, .stew, .draws]) (by decide)
  refine h.trans (Moves.mono ?_ hA)
  rw [void_eq]
  exact .ite hnote hnote.log

theorem EventsLast.void (h : s.EventsLast t) {src : VoidSrc} {state : Bool} {c : Nat} {stamp : Word} : s.EventsLast (t.void src state c stamp) := by
  have hnote := h.same (voidNoted_moves t src state c stamp).events
  rw [void_eq]
  exact .ite hnote hnote.log

end State
end Sys2Proof.Machine

/-! The Prism's windows, its snapshot and its streams (R81 to R84, R88, R89). -/

namespace Sys2Proof.Machine

set_option Elab.async false
namespace State

variable {s t u : State} {w : Nat} {acc : WinAcc}

/-! ### A window opens and closes (R81) -/

theorem windowOpen_gives (w : Fin 64) (hs : s.Shaped) (hon : s.winOn w = true) (hrun : s.carRunning (s.get (F.PRISM_WINw_CFG_CAR w)) = true)
    (hopen : (s.prismWin w).open_ = none) (hnow : s.openedNow w = false)
    (hat : s.atPhase (s.get (F.PRISM_WINw_CFG_CAR w)) (s.get (F.PRISM_WINw_PH_START w)) = true) : Completes (.windowOpen w) s fun t =>
      (t.prismWin w).open_ = some { openAt := s.count, valley := (s.car (s.get (F.PRISM_WINw_CFG_CAR w))).valley.toNat } ∧
      (t.prismWin w).closed = (s.prismWin w).closed ∧
      (∀ v : Fin 64, v ≠ w → t.prismWin v = s.prismWin v) ∧ t.regs = s.regs ∧ t.events = s.events := by
  have hw : w < s.prism.wins.length := w.isLt.trans_eq hs.prismWins.symm
  have heq : s.windowOpen w = s.modPrismWin w (fun p => { p with
      open_ := some { openAt := s.count, valley := (s.car (s.get (F.PRISM_WINw_CFG_CAR w))).valley.toNat } }) := by
    unfold windowOpen
    simp only [hon, hrun, hopen, Option.isNone_none, hat, hnow, Bool.not_false, Bool.and_self, if_true]
  refine ⟨_, rfl, ?_⟩
  rw [heq]
  refine ⟨?_, ?_, fun v hv => prismWin_modPrismWin_other s _ (by omega), rfl, rfl⟩ <;> rw [prismWin_modPrismWin_same s _ hw]

theorem windowClose_gives (w : Fin 64) (hs : s.Shaped) (hruns : s.coreRuns = true) (hopen : (s.prismWin w).open_ = some acc)
    (hat : s.atPhase (s.get (F.PRISM_WINw_CFG_CAR w)) (s.get (F.PRISM_WINw_PH_END w)) = true) (hle : acc.openAt ≤ s.count)
    (hsame : s.get (F.PRISM_WINw_PH_START w) < s.get (F.PRISM_WINw_PH_END w) →
      acc.valley = (s.car (s.get (F.PRISM_WINw_CFG_CAR w))).valley.toNat)
    (hlater : ¬ s.get (F.PRISM_WINw_PH_START w) < s.get (F.PRISM_WINw_PH_END w) →
      acc.valley < (s.car (s.get (F.PRISM_WINw_CFG_CAR w))).valley.toNat) : Completes (.windowClose w) s fun t =>
      (t.prismWin w).open_ = none ∧ (t.prismWin w).closed = some { acc with closeAt := s.count } ∧
      (∀ v : Fin 64, v ≠ w → t.prismWin v = s.prismWin v) ∧ t.regs = s.regs ∧ t.events = s.events := by
  have hw : w < s.prism.wins.length := w.isLt.trans_eq hs.prismWins.symm
  have heq : s.windowClose w = s.modPrismWin w (fun p => { p with open_ := none, closed := some { acc with closeAt := s.count } }) := by
    unfold windowClose
    simp only [hopen]
    rw [if_pos]
    by_cases hph : s.get (F.PRISM_WINw_PH_START w) < s.get (F.PRISM_WINw_PH_END w)
    · simp [hruns, hat, hle, hph, hsame hph]
    · simp [hruns, hat, hle, hph, hlater hph]
  refine ⟨_, rfl, ?_⟩
  rw [heq]
  refine ⟨?_, ?_, fun v hv => prismWin_modPrismWin_other s _ (by omega), rfl, rfl⟩ <;> rw [prismWin_modPrismWin_same s _ hw]

/-! ### A publication (R83 to R86) -/

theorem publishChan_writes (s : State) (w m : Nat) (a : ChanAcc) : s.Writes (· = R.PRISM_RESw_m w m) (s.publishChan w m a).1 :=
  Writes.regs (Writes.wr (.refl s) rfl) (by rfl)

theorem publishChan_moves (s : State) (w m : Nat) (a : ChanAcc) : Moves [.regs, .cycle, .prism] s (s.publishChan w m a).1 :=
  Moves.record (Moves.wr (.refl s)) (by rfl)

/-- A position that took values shows its result, with AGE 0. -/
def chanShown (s t : State) (w m : Nat) (a : ChanAcc) : Prop :=
  t.get (F.PRISM_RESw_m_VALUE w m) = wrapTo 20 (a.result (s.get (F.PRISM_WINw_CFG_RED w))) ∧ t.get (F.PRISM_RESw_m_AGE w m) = 0

theorem chanShown.of_rd {m : Nat} {a : ChanAcc} (h : s.chanShown t w m a) (hrd : u.rd (R.PRISM_RESw_m w m) = t.rd (R.PRISM_RESw_m w m)) :
    s.chanShown u w m a := by
  obtain ⟨hv, hage⟩ := h
  exact ⟨(get_of_rd hrd).trans hv, (get_of_rd hrd).trans hage⟩

/-- The packed result: VALUE below AGE 0 below the four flags. -/
theorem resultWord_bits (value : Nat) (hv : value < 2 ^ 20) (a b c d : Bool) :
    getBits (BitVec.ofNat 32 (value + 2 ^ 20 * 0 + 2 ^ 28 * bit1 a + 2 ^ 29 * bit1 b + 2 ^ 30 * bit1 c + 2 ^ 31 * bit1 d)) 0 20 = value ∧
    getBits (BitVec.ofNat 32 (value + 2 ^ 20 * 0 + 2 ^ 28 * bit1 a + 2 ^ 29 * bit1 b + 2 ^ 30 * bit1 c + 2 ^ 31 * bit1 d)) 20 8 = 0 := by
  rw [getBits_ofNat _ (by decide), getBits_ofNat _ (by decide)]
  omega

theorem publishChan_shows (s : State) (w m : Nat) {a : ChanAcc} (ha : 0 < a.count) : s.chanShown (s.publishChan w m a).1 w m a := by
  unfold publishChan
  simp only [ha, decide_true, if_true, Bool.true_and]
  have hbits := resultWord_bits _ (wrapTo_lt 20 (a.result (s.get (F.PRISM_WINw_CFG_RED w))))
  refine ⟨?_, ?_⟩
  · rw [get_congr (modPrismWin_regs ..), get_wr_same s (F.PRISM_RESw_m_VALUE w m)]
    exact (hbits ..).1
  · rw [get_congr (modPrismWin_regs ..), get_wr_same s (F.PRISM_RESw_m_AGE w m)]
    exact (hbits ..).2

/-- The positions of a window, published one after the other; whether one has newly frozen. -/
def publishedChans (x : State × Bool) (w : Nat) (acc : WinAcc) (ms : List Nat) : State × Bool :=
  ms.foldl (fun (x : State × Bool) m =>
    ((x.1.publishChan w m (nth acc.chans m {})).1, x.2 || (x.1.publishChan w m (nth acc.chans m {})).2)) x

theorem publishedChans_writes (x : State × Bool) (w : Nat) (acc : WinAcc) (ms : List Nat) :
    x.1.Writes (fun b => ∃ m ∈ ms, b = R.PRISM_RESw_m w m) (publishedChans x w acc ms).1 := by
  induction ms generalizing x with
  | nil => exact .refl _
  | cons m ms ih =>
    refine Writes.trans ((publishChan_writes x.1 w m _).mono fun b hb => ⟨m, by simp, hb⟩) ((ih _).mono ?_)
    rintro b ⟨n, hn, rfl⟩
    exact ⟨n, by simp [hn], rfl⟩

theorem publishedChans_moves (x : State × Bool) (w : Nat) (acc : WinAcc) (ms : List Nat) :
    Moves [.regs, .cycle, .prism] x.1 (publishedChans x w acc ms).1 := by
  induction ms generalizing x with
  | nil => exact .refl _
  | cons m ms ih => exact (publishChan_moves x.1 w m _).trans (ih _)

theorem publishedChans_shows (x : State × Bool) (w : Nat) (acc : WinAcc) {ms : List Nat} (hd : ms.Nodup) (hms : ∀ m ∈ ms, m < 16) (hw : w < 64)
    {m : Nat} (hm : m ∈ ms) (ha : 0 < (nth acc.chans m {}).count) : x.1.chanShown (publishedChans x w acc ms).1 w m (nth acc.chans m {}) := by
  induction ms generalizing x with
  | nil => exact absurd hm (List.not_mem_nil)
  | cons n ms ih =>
    obtain ⟨hn, hd'⟩ := List.nodup_cons.mp hd
    rcases List.mem_cons.mp hm with rfl | hm'
    · refine (publishChan_shows x.1 w m ha).of_rd ((publishedChans_writes _ w acc ms).rd ?_)
      rintro ⟨n, hn', heq⟩
      simp only [R.PRISM_RESw_m] at heq
      exact hn ((by omega : n = m) ▸ hn')
    · have hred : (x.1.publishChan w n (nth acc.chans n {})).1.get (F.PRISM_WINw_CFG_RED w) = x.1.get (F.PRISM_WINw_CFG_RED w) :=
        (publishChan_writes x.1 w n _).get (by simp only [R.PRISM_WINw_CFG, R.PRISM_RESw_m]; omega)
      have h := ih ((x.1.publishChan w n (nth acc.chans n {})).1, x.2 || (x.1.publishChan w n (nth acc.chans n {})).2) hd'
        (fun k hk => hms k (by simp [hk])) hm'
      unfold chanShown at h ⊢
      rwa [hred] at h

/-- The count, the number of closes and the stamp of a publication of `s`. -/
def infoShownOf (s t : State) (w : Nat) (acc : WinAcc) : State :=
  ((t.put (F.PRISM_WINw_INFO_COUNT w) (min 65535 ((List.range (s.winNch w)).map (fun m => (nth acc.chans m {}).count)).sum)).incW
    (F.PRISM_WINw_INFO_CLOSES w)).wr (R.PRISM_WINw_STAMP w) (BitVec.ofNat 32 acc.closeAt)

/-- The registers that a publication writes beside its results, its count and its stamp. -/
def publishFlags (b : Nat) : Prop := (0x40030000 ≤ b ∧ b < 0x40030040) ∨ 0x40032000 ≤ b

theorem mppPublish_writes (s : State) (w : Nat) : s.Writes publishFlags (s.mppPublish w) := by
  unfold mppPublish
  refine Writes.forAll (.refl s) fun m u _ hu => .ite ?_ hu
  refine Writes.putB (Writes.regs hu (by rfl)) ?_
  simp only [publishFlags, R.WVN_MPPm_STAT]
  omega

theorem mppPublish_moves (s : State) (w : Nat) : Moves [.regs, .cycle, .wvn] s (s.mppPublish w) := by
  unfold mppPublish
  exact Moves.forAll (.refl s) fun _ _ h => .ite (putB_moves (h.record (by rfl)) _ _) h

/-- What a publication sets beside its registers: the frozen bit, the closed window gone and the one published last. -/
def publishClosed (s t : State) (w : Nat) (acc : WinAcc) : State :=
  (((t.putBit (if w < 32 then R.PRISM_FRZ0 else R.PRISM_FRZ1) (w % 32)
    ((List.range (s.winNch w)).any (fun m => t.on (F.PRISM_RESw_m_FROZEN w m)))).modPrismWin w (fun x => { x with
      closed := none, late := 0, published := some ⟨acc.openAt, acc.closeAt, s.valleyStamp (s.get (F.PRISM_WINw_CFG_CAR w))⟩ })).prismSummary)

theorem publish_eq (s : State) (w : Nat) (acc : WinAcc) :
    let x := publishedChans (s, false) w acc (List.range (s.winNch w))
    let t := s.publishClosed (s.infoShownOf x.1 w acc) w acc
    s.publish w acc =
      if x.2 then (if w < 16 then t.raise (0x20 + w) else t).raise 0x34 else if w < 16 then t.raise (0x20 + w) else t := rfl

theorem publishClosed_writes (s t : State) (w : Nat) (acc : WinAcc) : t.Writes publishFlags (s.publishClosed t w acc) := by
  have hstat : publishFlags R.PRISM_STAT := .inl ⟨by decide, by decide⟩
  have hfrz : publishFlags (if w < 32 then R.PRISM_FRZ0 else R.PRISM_FRZ1) := by
    split <;> exact .inl ⟨by decide, by decide⟩
  unfold publishClosed prismSummary
  exact .putB (.putB (.putB (Writes.regs (Writes.putBit (.refl t) hfrz) (by rfl)) hstat) hstat) hstat

theorem publishClosed_moves (s t : State) (w : Nat) (acc : WinAcc) : Moves [.regs, .cycle, .prism] t (s.publishClosed t w acc) :=
  Moves.trans (Moves.record (Moves.put (.refl t)) (by rfl)) ((prismSummary_moves _).mono (by decide))

theorem publish_writes (s : State) (w : Nat) (acc : WinAcc) :
    (s.infoShownOf (publishedChans (s, false) w acc (List.range (s.winNch w))).1 w acc).Writes publishFlags (s.publish w acc) := by
  have h := publishClosed_writes s (s.infoShownOf (publishedChans (s, false) w acc (List.range (s.winNch w))).1 w acc) w acc
  rw [publish_eq]
  exact .ite (.raise (.ite h.raise h)) (.ite h.raise h)

/-- A closed window that is taken is gone, in range or not. -/
theorem closed_modPrismWin (s : State) (w : Nat) {f : PrismWin → PrismWin} (hf : ∀ x, (f x).closed = none) :
    ((s.modPrismWin w f).prismWin w).closed = none := by
  by_cases hw : w < s.prism.wins.length
  · rw [prismWin_modPrismWin_same s f hw]
    exact hf _
  · have hlen : ¬ w < (s.modPrismWin w f).prism.wins.length := fun h => hw (h.trans_eq (List.length_modify ..))
    rw [prismWin, nth, List.getD_eq_default _ _ (not_lt.mp hlen)]

theorem prismWin_congr (h : t.prism = s.prism) (w : Nat) : t.prismWin w = s.prismWin w := by rw [prismWin, h, prismWin]

theorem publish_closed (s : State) (w : Nat) (acc : WinAcc) : ((s.publish w acc).prismWin w).closed = none := by
  have h (t : State) : ((s.publishClosed t w acc).prismWin w).closed = none := by
    rw [publishClosed, prismWin_congr (prismSummary_moves _).prism]
    exact closed_modPrismWin _ w fun _ => rfl
  have hraise (t : State) (n : Nat) : (t.raise n).prismWin w = t.prismWin w := prismWin_congr (raise_prism ..) w
  rw [publish_eq]
  split <;> split <;> simp only [hraise, h]

/-- The state in which a publication raises its event. -/
def publishing (s : State) (w : Nat) (acc : WinAcc) : State :=
  s.publishClosed (s.infoShownOf (publishedChans (s, false) w acc (List.range (s.winNch w))).1 w acc) w acc

theorem infoShownOf_writes (s t : State) (w : Nat) (acc : WinAcc) :
    t.Writes (fun b => b = R.PRISM_WINw_INFO w ∨ b = R.PRISM_WINw_STAMP w) (s.infoShownOf t w acc) :=
  .wr (Writes.incW (Writes.put (.refl t) (.inl rfl)) (.inl rfl)) (.inr rfl)

theorem publishing_moves (s : State) (w : Nat) (acc : WinAcc) : Moves [.regs, .cycle, .prism] s (s.publishing w acc) :=
  Moves.trans (t := s.infoShownOf (publishedChans (s, false) w acc (List.range (s.winNch w))).1 w acc)
    (Moves.wr (Moves.put (Moves.put (publishedChans_moves (s, false) w acc _)))) (publishClosed_moves ..)

theorem publishing_mode (s : State) (w : Nat) (acc : WinAcc) : (s.publishing w acc).rd R.SYS_MODE = s.rd R.SYS_MODE := by
  refine (Writes.rd (publishClosed_writes s _ w acc) ?_).trans ((Writes.rd (infoShownOf_writes s _ w acc) ?_).trans
    (Writes.rd (publishedChans_writes (s, false) w acc _) ?_))
  · simp only [publishFlags, R.SYS_MODE]
    omega
  · simp only [R.SYS_MODE, R.PRISM_WINw_INFO, R.PRISM_WINw_STAMP]
    omega
  · simp only [R.SYS_MODE, R.PRISM_RESw_m]
    rintro ⟨m, -, h⟩
    omega

theorem publish_sends (s : State) {w : Nat} (acc : WinAcc) (hw : w < 16) (hruns : s.coreRuns = true) : s.sent (s.publish w acc) (0x20 + w) := by
  have hmoves := publishing_moves s w acc
  have hsent : s.sent ((s.publishing w acc).raise (0x20 + w)) (0x20 + w) :=
    sent_raise ((coreRuns_of_rd hmoves.sys (publishing_mode s w acc)).trans hruns) hmoves.clk _
  rw [publish_eq]
  simp only [hw, if_true]
  split
  · exact hsent.raise _
  · exact hsent

theorem incW_get_same (s : State) (f : Fld) (h : f.lo + f.width ≤ 32) : (s.incW f).get f = (s.get f + 1) % 2 ^ f.width := get_put_same s f _ h

theorem windowPublish_gives (w : Fin 64) (hruns : s.coreRuns = true) (hc : (s.prismWin w).closed = some acc)
    (hdue : s.due (acc.closeAt + 64) = true) : Completes (.windowPublish w) s fun t =>
      (t.prismWin w).closed = none ∧ t.rd (R.PRISM_WINw_STAMP w) = BitVec.ofNat 32 acc.closeAt ∧
      t.get (F.PRISM_WINw_INFO_COUNT w) =
        min 65535 ((List.range (s.winNch w)).map (fun m => (nth acc.chans m {}).count)).sum ∧
      t.get (F.PRISM_WINw_INFO_CLOSES w) = (s.get (F.PRISM_WINw_INFO_CLOSES w) + 1) % 2 ^ (F.PRISM_WINw_INFO_CLOSES w).width ∧
      (∀ m : Fin 16, m.val < s.winNch w → 0 < (nth acc.chans m {}).count →
        t.get (F.PRISM_RESw_m_VALUE w m) = wrapTo 20 ((nth acc.chans m {}).result (s.get (F.PRISM_WINw_CFG_RED w))) ∧
        t.get (F.PRISM_RESw_m_AGE w m) = 0) ∧
      (w.val < 16 → s.sent t (0x20 + w)) := by
  have heq : s.windowPublish w = (s.publish w acc).mppPublish w := by
    unfold windowPublish publishDue
    simp only [hc, hruns, hdue, Bool.and_self, if_true]
  have hw := w.isLt
  have hn : s.winNch w ≤ 16 := by unfold winNch; omega
  have hchans := publishedChans_writes (s, false) w acc (List.range (s.winNch w))
  have hshown : ∀ m, m ∈ List.range (s.winNch w) → 0 < (nth acc.chans m {}).count →
      s.chanShown (publishedChans (s, false) w acc (List.range (s.winNch w))).1 w m (nth acc.chans m {}) := fun m hm =>
    publishedChans_shows (s, false) w acc List.nodup_range (fun n hn' => by rw [List.mem_range] at hn'; omega) hw hm
  have hinfo := infoShownOf_writes s (publishedChans (s, false) w acc (List.range (s.winNch w))).1 w acc
  have hflags := (publish_writes s w acc).trans (mppPublish_writes (s.publish w acc) w)
  have hrd : ∀ b, 0x40030040 ≤ b → b < 0x40032000 → (s.windowPublish w).rd b =
      (s.infoShownOf (publishedChans (s, false) w acc (List.range (s.winNch w))).1 w acc).rd b := fun b h1 h2 => by
    rw [heq]
    exact hflags.rd (by simp only [publishFlags]; omega)
  have hclosed : ((s.windowPublish w).prismWin w).closed = none := by
    rw [heq, prismWin_congr (mppPublish_moves _ w).prism]
    exact publish_closed s w acc
  have hsent : w.val < 16 → s.sent (s.windowPublish w) (0x20 + w) := fun h => by
    rw [heq]
    exact (publish_sends s acc h hruns).of_events (mppPublish_moves _ w).events
  have hstamp : R.PRISM_WINw_INFO w ≠ R.PRISM_WINw_STAMP w := by simp only [R.PRISM_WINw_INFO, R.PRISM_WINw_STAMP]; omega
  have hcloses : (publishedChans (s, false) w acc (List.range (s.winNch w))).1.get (F.PRISM_WINw_INFO_CLOSES w) = s.get (F.PRISM_WINw_INFO_CLOSES w) :=
    hchans.get (by simp only [R.PRISM_RESw_m, R.PRISM_WINw_INFO]; rintro ⟨m, -, h⟩; omega)
  generalize (publishedChans (s, false) w acc (List.range (s.winNch w))).1 = x at *
  refine ⟨_, rfl, hclosed, (hrd _ ?_ ?_).trans ?_, (get_of_rd (hrd _ ?_ ?_)).trans ?_, (get_of_rd (hrd _ ?_ ?_)).trans ?_, fun m hm hcnt => ?_, hsent⟩
  · simp only [R.PRISM_WINw_STAMP]; omega
  · simp only [R.PRISM_WINw_STAMP]; omega
  · rw [infoShownOf, rd_wr, if_pos rfl]
  · simp only [R.PRISM_WINw_INFO]; omega
  · simp only [R.PRISM_WINw_INFO]; omega
  · rw [infoShownOf, get_of_rd (f := F.PRISM_WINw_INFO_COUNT w) ((rd_wr ..).trans (if_neg hstamp)), incW,
      get_put_other _ (F.PRISM_WINw_INFO_CLOSES w) _ _ (by simp) (.inr (by simp)), get_put_same _ _ _ (by simp)]
    exact Nat.mod_eq_of_lt (Nat.lt_of_le_of_lt (Nat.min_le_left ..) (by simp))
  · simp only [R.PRISM_WINw_INFO]; omega
  · simp only [R.PRISM_WINw_INFO]; omega
  · rw [infoShownOf, get_of_rd (f := F.PRISM_WINw_INFO_CLOSES w) ((rd_wr ..).trans (if_neg hstamp)), incW_get_same _ _ (by simp),
      get_put_other _ (F.PRISM_WINw_INFO_COUNT w) _ _ (by simp) (.inr (by simp)), hcloses]
  · have h := hshown m (List.mem_range.mpr hm) hcnt
    have hm' := m.isLt
    refine h.of_rd ((hrd _ ?_ ?_).trans (hinfo.rd ?_)) <;> simp only [R.PRISM_RESw_m, R.PRISM_WINw_INFO, R.PRISM_WINw_STAMP] <;> omega

/-! ### The snapshot (R88) -/

/-- The registers of the snapshot. -/
def snapRegs (b : Nat) : Prop := b = R.PRISM_SNAP_STAMP ∨ ∃ m : Fin 16, b = R.PRISM_SNAPm m

theorem RES_not_snapRegs (w m : Nat) : ¬ snapRegs (R.PRISM_RESw_m w m) := by
  simp only [snapRegs, R.PRISM_RESw_m, R.PRISM_SNAP_STAMP, R.PRISM_SNAPm]
  rintro (h | ⟨m, h⟩) <;> omega

theorem snapCopies_writes (s : State) (w : Nat) :
    s.Writes snapRegs (s.forAll 16 (fun m t => t.wr (R.PRISM_SNAPm m) (t.rd (R.PRISM_RESw_m w m)))) :=
  Writes.forAll (.refl s) fun m _ hm hu => hu.wr (.inr ⟨⟨m, hm⟩, rfl⟩)

theorem snapshot_copies (s : State) (m : Fin 16) : s.snapshot.rd (R.PRISM_SNAPm m) = s.rd (R.PRISM_RESw_m (s.get F.PRISM_SNAP_CTRL_WIN) m) := by
  have hstamp : R.PRISM_SNAPm m ≠ R.PRISM_SNAP_STAMP := by simp only [R.PRISM_SNAPm, R.PRISM_SNAP_STAMP]; omega
  unfold snapshot
  dsimp only
  rw [rd_wr, if_neg hstamp]
  generalize s.get F.PRISM_SNAP_CTRL_WIN = w
  refine forAll_at (fun u => u.rd (R.PRISM_SNAPm m) = s.rd (R.PRISM_RESw_m w m)) (fun u => ∀ n, u.rd (R.PRISM_RESw_m w n) = s.rd (R.PRISM_RESw_m w n)) (fun _ => rfl) (fun j u hj hu n => ?_) (fun u hu => ?_)
    (fun j u hj _ hu => ?_) m.isLt
  · rw [rd_wr, if_neg (by simp only [R.PRISM_RESw_m, R.PRISM_SNAPm]; omega), hu]
  · rw [rd_wr, if_pos rfl, hu]
  · rw [rd_wr, if_neg (by simp only [R.PRISM_SNAPm]; omega), hu]

theorem snapshot_writes (s : State) : s.Writes snapRegs s.snapshot := Writes.wr (snapCopies_writes s _) (.inl rfl)

theorem snapshot_moves (s : State) : Moves [.regs, .cycle] s s.snapshot :=
  Moves.wr (Moves.forAll (.refl s) fun _ _ h => h.wr)

theorem prismSnapshot_gives {w : World} {v : Word} (ha : s.accepts w R.PRISM_SNAP_CTRL (v ||| 0x100)) : Completes (.prismSnapshot w v) s fun t =>
      (∀ m : Fin 16, t.rd (R.PRISM_SNAPm m) = s.rd (R.PRISM_RESw_m (getBits (s.stored R.PRISM_SNAP_CTRL (v ||| 0x100)) 0 6) m)) ∧
      t.rd R.PRISM_SNAP_STAMP = s.rd (R.PRISM_WINw_STAMP (getBits (s.stored R.PRISM_SNAP_CTRL (v ||| 0x100)) 0 6)) ∧
      (∀ b, b ≠ R.PRISM_SNAP_CTRL → b ≠ R.PRISM_SNAP_STAMP → (∀ m : Fin 16, b ≠ R.PRISM_SNAPm m) → t.rd b = s.rd b) ∧
      t.prism = s.prism := by
  have hgo : bitAt (v ||| 0x100) 8 = true := bitAt_or v 0x100 (by decide)
  have hhook : s.hook R.PRISM_SNAP_CTRL (v ||| 0x100) = (s.storePlain R.PRISM_SNAP_CTRL (v ||| 0x100)).snapshot := by
    have h : s.hook R.PRISM_SNAP_CTRL (v ||| 0x100) = if R.PRISM_SNAP_CTRL = R.PRISM_SNAP_CTRL ∧ bitAt (v ||| 0x100) 8
      then (s.storePlain R.PRISM_SNAP_CTRL (v ||| 0x100)).snapshot else s.storePlain R.PRISM_SNAP_CTRL (v ||| 0x100) := rfl
    rw [h, if_pos ⟨rfl, hgo⟩]
  have hmoves := write_moves ha (by decide)
  rw [hhook] at hmoves
  have hstored : (s.storePlain R.PRISM_SNAP_CTRL (v ||| 0x100)).get F.PRISM_SNAP_CTRL_WIN = getBits (s.stored R.PRISM_SNAP_CTRL (v ||| 0x100)) 0 6 := by
    rw [State.get, rd_storePlain_same]
  have hother := fun b (hb : b ≠ R.PRISM_SNAP_CTRL) => rd_storePlain_other s (v ||| 0x100) hb
  have hkept := storePlain_moves s R.PRISM_SNAP_CTRL (v ||| 0x100)
  generalize s.storePlain R.PRISM_SNAP_CTRL (v ||| 0x100) = u at *
  refine ⟨_, rfl, fun m => (rd_congr hmoves.regs _).trans ?_, (rd_congr hmoves.regs _).trans ?_, fun b h1 h2 h3 => (rd_congr hmoves.regs b).trans ?_,
    hmoves.prism.trans ((snapshot_moves u).prism.trans hkept.prism)⟩
  · rw [snapshot_copies, hother _ (by simp only [R.PRISM_RESw_m, R.PRISM_SNAP_CTRL]; omega), hstored]
  · rw [snapshot, rd_wr, if_pos rfl, hother _ (by simp only [R.PRISM_WINw_STAMP, R.PRISM_SNAP_CTRL]; omega), hstored]
  · rw [(snapshot_writes u).rd (by simp only [snapRegs]; exact fun h => h.elim h2 fun ⟨m, hm⟩ => h3 m hm), hother b h1]

/-! ### The streams (R89) -/

theorem streamIntervalEnd_gives (hruns : s.coreRuns = true) (hb : s.count % 12500 = 0) (hi : s.prism.interval < s.count / 12500) :
    Completes .streamIntervalEnd s fun t =>
      t.prism.interval = s.count / 12500 ∧ t.prism.ended = some s.count ∧ t.regs = s.regs ∧
      t.prism.streams = s.prism.streams.map (fun x => { sum := 0, count := 0, endSum := x.sum, endCount := x.count }) := by
  have heq : s.streamEnd = s.modPrism (fun p => { p with
      interval := s.count / 12500
      ended := some s.count
      streams := p.streams.map (fun x => { sum := 0, count := 0, endSum := x.sum, endCount := x.count }) }) := by
    unfold streamEnd
    simp only [hruns, hb, hi, beq_self_eq_true, decide_true, Bool.and_self, if_true]
  refine ⟨_, rfl, ?_⟩
  rw [heq]
  exact ⟨rfl, rfl, rfl, rfl⟩

/-- The words of the enabled streams. -/
def streamWords (s : State) : State :=
  s.forAll 40 (fun k u => if u.on (F.PRISM_STRk_EN k) then u.wr (R.PRISM_STRDk k) (nth u.prism.streams k {}).word else u)

theorem streamWords_moves (s : State) : Moves [.regs, .cycle] s s.streamWords :=
  Moves.forAll (.refl s) fun _ _ h => .ite h.wr h

theorem streamWords_writes (s : State) : s.Writes (fun b => 0x40030B00 ≤ b ∧ b < 0x40030C00) s.streamWords :=
  Writes.forAll (.refl s) fun k _ hk hu => .ite (hu.wr ⟨by simp only [R.PRISM_STRDk]; omega, by simp only [R.PRISM_STRDk]; omega⟩) hu

theorem streamWords_at (k : Fin 40) (hon : s.on (F.PRISM_STRk_EN k) = true) : s.streamWords.rd (R.PRISM_STRDk k) = (nth s.prism.streams k {}).word := by
  refine forAll_at (fun u => u.rd (R.PRISM_STRDk k) = (nth s.prism.streams k {}).word)
    (fun u => u.on (F.PRISM_STRk_EN k) = s.on (F.PRISM_STRk_EN k) ∧ u.prism = s.prism) ⟨rfl, rfl⟩ (fun j u hj hu => ?_) (fun u hu => ?_)
    (fun j u hj _ hu => ?_) k.isLt
  · split
    · refine ⟨(on_of_rd ((rd_wr ..).trans (if_neg ?_))).trans hu.1, (wr_prism ..).trans hu.2⟩
      simp only [R.PRISM_STRk, R.PRISM_STRDk]
      omega
    · exact hu
  · rw [hu.1, if_pos hon, rd_wr, if_pos rfl, hu.2]
  · split
    · rw [rd_wr, if_neg (by simp only [R.PRISM_STRDk]; omega), hu]
    · exact hu

/-- What the Granary's buffer takes of an interval reaches no register of the Prism. -/
theorem grnTake_writes (s : State) (e : Nat) : s.Writes (0x40090000 ≤ ·) (s.grnTake e) := by
  have hovr : s.Writes (0x40090000 ≤ ·) (((s.modGrn (fun g => { g with queue := g.queue ++ [⟨e, none⟩] })).set1 F.GRN_STAT_OVR).set1
      F.GRN_STAT_OVR_STATE) := .set1 (.set1 (.of_regs (by rfl)) (by decide)) (by decide)
  unfold grnTake
  dsimp only
  exact .ite (.refl s) (.ite (.of_regs (by rfl)) (.void hovr.raise fun b hb => le_trans (by decide) hb))

theorem grnTake_moves (s : State) (e : Nat) : Moves [.regs, .cycle, .tst, .rtc, .mram, .events, .stew, .draws, .grn] s (s.grnTake e) := by
  unfold grnTake
  dsimp only
  exact .ite (.refl s) (.ite (.record (.refl s) (by rfl)) (.void (.raise (.put (.put (.record (.refl s) (by rfl)))))))

theorem grnTake_lasts (s : State) (e : Nat) : s.EventsLast (s.grnTake e) := by
  have hovr : s.EventsLast (((s.modGrn (fun g => { g with queue := g.queue ++ [⟨e, none⟩] })).set1 F.GRN_STAT_OVR).set1 F.GRN_STAT_OVR_STATE) :=
    EventsLast.same (.refl s) (by simp only [set1_events, modGrn_events])
  unfold grnTake
  dsimp only
  exact .ite (.refl s) (.ite (EventsLast.same (.refl s) (modGrn_events ..)) (.void (hovr.raise _)))

theorem streamPublish_gives (e : Nat) (k : Fin 40) (hruns : s.coreRuns = true) (he : s.prism.ended = some e) (hdue : s.due (e + 64) = true)
    (hon : s.on (F.PRISM_STRk_EN k) = true) : Completes .streamPublish s fun t =>
      t.rd (R.PRISM_STRDk k) = (nth s.prism.streams k {}).word ∧ t.prism.ended = none ∧ s.sent t 0x36 := by
  have hdue' : s.streamDue = true := by
    unfold streamDue
    rw [he]
    simp only [hruns, hdue, Bool.and_self]
  have heq : s.streamsPublish = s.streamPublish.grnTake e := by
    unfold streamsPublish
    rw [he]
    exact if_pos hdue'
  have hmoves := streamWords_moves s
  have hmode : (s.streamWords.modPrism (fun p => { p with ended := none })).rd R.SYS_MODE = s.rd R.SYS_MODE :=
    (rd_congr (modPrism_regs ..) _).trans ((streamWords_writes s).rd (by decide))
  have hsent : s.sent s.streamPublish 0x36 :=
    sent_raise ((coreRuns_of_rd ((modPrism_sys ..).trans hmoves.sys) hmode).trans hruns) ((modPrism_clk ..).trans hmoves.clk) _
  refine ⟨_, rfl, ?_⟩
  rw [heq]
  refine ⟨((grnTake_writes _ e).rd (by simp only [R.PRISM_STRDk]; omega)).trans ?_, (congrArg Prism.ended (grnTake_moves _ e).prism).trans ?_,
    hsent.keeps (grnTake_lasts _ e)⟩
  · exact ((rd_raise ..).trans (rd_congr (modPrism_regs ..) _)).trans (streamWords_at k hon)
  · exact congrArg Prism.ended (raise_prism ..)

end State

/-- Settles O13: each command's own lemma. -/
theorem windowsSnapshotsAndStreams : Obligations.WindowsSnapshotsAndStreams :=
  ⟨fun _ w h1 h2 h3 h4 h5 h6 => State.windowOpen_gives w h1 h2 h3 h4 h5 h6, fun _ w _ h1 h2 h3 h4 h5 h6 h7 => State.windowClose_gives w h1 h2 h3 h4 h5 h6 h7,
    fun _ w _ _ h1 h2 h3 => State.windowPublish_gives w h1 h2 h3, fun _ _ _ h => State.prismSnapshot_gives h,
    fun _ h1 h2 h3 => State.streamIntervalEnd_gives h1 h2 h3, fun _ e k h1 h2 h3 h4 => State.streamPublish_gives e k h1 h2 h3 h4⟩

end Sys2Proof.Machine

/-! Maximum-power-point tracking (R116 to R118). -/

namespace Sys2Proof.Machine

set_option Elab.async false

/-- Sums and counts apart, nothing of the channel has changed. -/
def MppSt.SumsOnly (x y : MppSt) : Prop := ∃ a b c d e f, y = { x with sumLow := a, cntLow := b, sumHigh := c, cntHigh := d, stepSum := e, stepCnt := f }

/-- The update changes VREF and the means alone. -/
def MppSt.Updated (x y : MppSt) : Prop := ∃ a b c, y = { x with vref := a, mean := b, ditherMean := c }

/-- The difference of the two averages, and their mean. -/
def MppSt.diff (x : MppSt) : Word := toSingle (singleRat (toSingle (x.sumHigh / x.cntHigh)) - singleRat (toSingle (x.sumLow / x.cntLow)))
def MppSt.middle (x : MppSt) : Word := toSingle ((singleRat (toSingle (x.sumLow / x.cntLow)) + singleRat (toSingle (x.sumHigh / x.cntHigh))) / 2)

/-- The best step once the step in hand, at a voltage, has ended (R118). -/
def MppSt.bestAfter (x : MppSt) (volt : Nat) : Option (Word × Nat) :=
  if x.stepCnt = 0 then x.best else
    match x.best with
    | some q => if singleRat q.1 < singleRat (toSingle (x.stepSum / (x.stepCnt : Rat))) then some (toSingle (x.stepSum / (x.stepCnt : Rat)), volt) else some q
    | none => some (toSingle (x.stepSum / (x.stepCnt : Rat)), volt)

namespace State

variable {s t u v : State} {m : Nat}

theorem mpp_congr (h : t.wvn = s.wvn) (m : Nat) : t.mpp m = s.mpp m := by rw [mpp, h, mpp]

theorem mpp_modMpp_same (s : State) (f : MppSt → MppSt) (hm : m < s.wvn.mpps.length) : (s.modMpp m f).mpp m = f (s.mpp m) :=
  nth_upd_same _ _ _ _ hm

theorem mpp_modMpp_other (s : State) (f : MppSt → MppSt) {n : Nat} (hn : n ≠ m) : (s.modMpp m f).mpp n = s.mpp n :=
  nth_upd_other _ _ _ _ _ hn.symm

/-! ### What the work of one channel leaves alone -/

/-- Channel `m` alone has worked, and of the registers on its status alone. -/
structure MppWork (s t : State) (m : Nat) : Prop where
  wvn : ∃ f, t.wvn = { s.wvn with mpps := upd s.wvn.mpps m f }
  regs : s.Writes (· = R.WVN_MPPm_STAT m) t
  clk : t.clk = s.clk
  sys : t.sys = s.sys

namespace MppWork

theorem refl (s : State) (m : Nat) : s.MppWork s m := ⟨⟨fun x => x, by rw [upd_self]⟩, .refl s, rfl, rfl⟩

theorem modMpp (h : s.MppWork t m) (f : MppSt → MppSt) : s.MppWork (t.modMpp m f) m := by
  obtain ⟨g, e⟩ := h.wvn
  refine ⟨⟨fun x => f (g x), ?_⟩, h.regs.regs rfl, h.clk, h.sys⟩
  change { t.wvn with mpps := upd t.wvn.mpps m f } = _
  rw [e, upd_upd]

theorem put (h : s.MppWork t m) {f : Fld} {n : Nat} (hf : f.addr = R.WVN_MPPm_STAT m := by rfl) : s.MppWork (t.put f n) m :=
  ⟨h.wvn, h.regs.put hf, (put_clk ..).trans h.clk, (put_sys ..).trans h.sys⟩

theorem putB (h : s.MppWork t m) {f : Fld} {b : Bool} (hf : f.addr = R.WVN_MPPm_STAT m := by rfl) : s.MppWork (t.putB f b) m := by
  unfold State.putB
  exact h.put hf

theorem set1 (h : s.MppWork t m) {f : Fld} (hf : f.addr = R.WVN_MPPm_STAT m := by rfl) : s.MppWork (t.set1 f) m := h.put hf

theorem clr (h : s.MppWork t m) {f : Fld} (hf : f.addr = R.WVN_MPPm_STAT m := by rfl) : s.MppWork (t.clr f) m := h.put hf

theorem raise (h : s.MppWork t m) (src : Nat) : s.MppWork (t.raise src) m :=
  ⟨by rw [raise_wvn]; exact h.wvn, h.regs.raise, (raise_clk ..).trans h.clk, (raise_sys ..).trans h.sys⟩

theorem ite {p : Prop} [Decidable p] (ht : s.MppWork t m) (hu : s.MppWork u m) : s.MppWork (if p then t else u) m := by
  split <;> assumption

theorem length (h : s.MppWork t m) : t.wvn.mpps.length = s.wvn.mpps.length := by
  obtain ⟨f, e⟩ := h.wvn
  rw [e]
  exact length_upd ..

theorem other (h : s.MppWork t m) {n : Nat} (hn : n ≠ m) : t.mpp n = s.mpp n := by
  obtain ⟨f, e⟩ := h.wvn
  rw [mpp, e]
  exact nth_upd_other _ _ _ _ _ hn.symm

theorem get (h : s.MppWork t m) {f : Fld} (hf : f.addr ≠ R.WVN_MPPm_STAT m) : t.get f = s.get f := h.regs.get hf
theorem on (h : s.MppWork t m) {f : Fld} (hf : f.addr ≠ R.WVN_MPPm_STAT m) : t.on f = s.on f := h.regs.on hf
theorem count (h : s.MppWork t m) : t.count = s.count := by rw [State.count, h.clk, State.count]

end MppWork

theorem CFG_ne_STAT (m : Nat) : R.WVN_MPPm_CFG m ≠ R.WVN_MPPm_STAT m := by simp only [R.WVN_MPPm_CFG, R.WVN_MPPm_STAT]; omega
theorem TIM_ne_STAT (m : Nat) : R.WVN_MPPm_TIM m ≠ R.WVN_MPPm_STAT m := by simp only [R.WVN_MPPm_TIM, R.WVN_MPPm_STAT]; omega
theorem VLIM_ne_STAT (m : Nat) : R.WVN_MPPm_VLIM m ≠ R.WVN_MPPm_STAT m := by simp only [R.WVN_MPPm_VLIM, R.WVN_MPPm_STAT]; omega
theorem STEP_ne_STAT (m : Nat) : R.WVN_MPPm_STEP m ≠ R.WVN_MPPm_STAT m := by simp only [R.WVN_MPPm_STEP, R.WVN_MPPm_STAT]; omega
theorem K_ne_STAT (m : Nat) : R.WVN_MPPm_K m ≠ R.WVN_MPPm_STAT m := by simp only [R.WVN_MPPm_K, R.WVN_MPPm_STAT]; omega
theorem LIM_ne_STAT (m : Nat) : R.WVN_MPPm_LIM m ≠ R.WVN_MPPm_STAT m := by simp only [R.WVN_MPPm_LIM, R.WVN_MPPm_STAT]; omega
theorem SCAN_ne_STAT (m : Nat) : R.WVN_MPPm_SCAN m ≠ R.WVN_MPPm_STAT m := by simp only [R.WVN_MPPm_SCAN, R.WVN_MPPm_STAT]; omega

theorem scanVolt_congr (h : s.MppWork t m) (j : Nat) : t.scanVolt m j = s.scanVolt m j := by
  rw [scanVolt, h.get (VLIM_ne_STAT m), h.get (VLIM_ne_STAT m), scanVolt]

/-- VREF_OUT in a scan, and in the two halves of a dither period, beside the work of its channel. -/
theorem vrefOut_scan (h : s.MppWork t m) (hh : s.on (F.WVN_MPPm_CFG_HOLD m) = false) {j : Nat} (hj : (t.mpp m).scan = some j) :
    t.vrefOut m = s.scanVolt m j := by
  unfold vrefOut
  simp only [h.on (f := F.WVN_MPPm_CFG_HOLD m) (CFG_ne_STAT m), hh, hj, scanVolt_congr h, Bool.false_eq_true, if_false]

theorem vrefOut_low (h : s.MppWork t m) (hh : s.on (F.WVN_MPPm_CFG_HOLD m) = false) (hj : (t.mpp m).scan = none) (hlow : (t.mpp m).high = false) :
    t.vrefOut m = singleRat (t.mpp m).vref - (s.get (F.WVN_MPPm_STEP_LO m) : Rat) := by
  unfold vrefOut
  simp only [h.on (f := F.WVN_MPPm_CFG_HOLD m) (CFG_ne_STAT m), hh, hj, hlow, h.get (f := F.WVN_MPPm_STEP_LO m) (STEP_ne_STAT m), Bool.false_eq_true,
    if_false]

theorem vrefOut_high (h : s.MppWork t m) (hh : s.on (F.WVN_MPPm_CFG_HOLD m) = false) (hj : (t.mpp m).scan = none) (hhigh : (t.mpp m).high = true) :
    t.vrefOut m = singleRat (t.mpp m).vref + (s.get (F.WVN_MPPm_STEP_LO m) : Rat) := by
  unfold vrefOut
  simp only [h.on (f := F.WVN_MPPm_CFG_HOLD m) (CFG_ne_STAT m), hh, hj, hhigh, h.get (f := F.WVN_MPPm_STEP_LO m) (STEP_ne_STAT m), Bool.false_eq_true,
    if_false, if_true]

theorem scanVolt_zero (s : State) (m : Nat) : s.scanVolt m 0 = (s.get (F.WVN_MPPm_VLIM_HI m) : Int) := by
  simp [scanVolt, ratRoundAway]

/-! ### What a valley takes (R116) -/

theorem mppGather_work (s : State) (m : Nat) (ps : List Rat) : s.MppWork (s.mppGather m ps) m := by
  have h := MppWork.refl s m
  unfold mppGather
  dsimp only
  split
  · exact .ite (h.modMpp _) h
  · exact .ite (.ite (h.modMpp _) (h.modMpp _)) h

theorem mppGather_sums (s : State) (ps : List Rat) (hm : m < s.wvn.mpps.length) : MppSt.SumsOnly (s.mpp m) ((s.mppGather m ps).mpp m) := by
  unfold mppGather
  dsimp only
  have hrefl : MppSt.SumsOnly (s.mpp m) (s.mpp m) := ⟨_, _, _, _, _, _, rfl⟩
  split
  · split
    · rw [mpp_modMpp_same s _ hm]
      exact ⟨_, _, _, _, _, _, rfl⟩
    · exact hrefl
  · split
    · split
      · rw [mpp_modMpp_same s _ hm]
        exact ⟨_, _, _, _, _, _, rfl⟩
      · rw [mpp_modMpp_same s _ hm]
        exact ⟨_, _, _, _, _, _, rfl⟩
    · exact hrefl

/-- The channel with the publications up to the valley before taken. -/
def mppTaken (s : State) (m u : Nat) : State :=
  (s.mppGather m ((s.mpp m).taken u)).modMpp m (fun y => { y with pubs := y.pubs.filter (fun p => u < p.1) })

theorem mppTaken_work (s : State) (m u : Nat) : s.MppWork (s.mppTaken m u) m := (mppGather_work s m _).modMpp _

theorem mppTaken_regs (s : State) (m u : Nat) : (s.mppTaken m u).regs = s.regs := by
  unfold mppTaken mppGather
  dsimp only
  split
  · split <;> rfl
  · split
    · split <;> rfl
    · rfl

theorem mppTaken_mpp (s : State) (u : Nat) (hm : m < s.wvn.mpps.length) : (s.mppTaken m u).mpp m =
    { (s.mppGather m ((s.mpp m).taken u)).mpp m with
      pubs := ((s.mppGather m ((s.mpp m).taken u)).mpp m).pubs.filter (fun p => u < p.1) } :=
  mpp_modMpp_same _ _ ((mppGather_work s m _).length ▸ hm)

/-- The valley and its flags, after the turn of the period. -/
def mppMarked (s t : State) (m : Nat) : State :=
  let t := t.modMpp m (fun y => { y with prevValley := some s.count, doneAt := some s.count })
  let t := (t.putB (F.WVN_MPPm_STAT_HIGH m) (t.mpp m).high).putB (F.WVN_MPPm_STAT_HOLD m) (t.on (F.WVN_MPPm_CFG_HOLD m))
  t.putB (F.WVN_MPPm_STAT_DWELL_CLAMPED m) (t.dwellClamped m)

theorem mppPeriod_eq {u : Nat} (hd : (s.mpp m).doneAt ≠ some s.count) (hu : (s.mpp m).prevValley = some u) :
    s.mppPeriod m = s.mppMarked ((s.mppTaken m u).mppTurn m) m := by
  unfold mppPeriod
  dsimp only
  rw [if_neg hd, hu]
  rfl

theorem mppMarked_work (h : u.MppWork t m) : u.MppWork (s.mppMarked t m) m := (((h.modMpp _).putB).putB).putB

theorem mppMarked_mpp (s : State) (hm : m < t.wvn.mpps.length) :
    (s.mppMarked t m).mpp m = { t.mpp m with prevValley := some s.count, doneAt := some s.count } := mpp_modMpp_same t _ hm

theorem mppMarked_on (s t : State) (m : Nat) (f : Fld) (hlo : 2 ≤ f.lo) (hhi : f.lo + f.width ≤ 4) : (s.mppMarked t m).on f = t.on f := by
  unfold mppMarked
  dsimp only
  rw [on_putB_other _ _ _ _ (by simp) (.inr (by simp; omega)), on_putB_other _ _ _ _ (by simp) (.inr (by simp; omega)),
    on_putB_other _ _ _ _ (by simp) (.inr (by simp; omega))]
  exact on_congr (modMpp_regs ..) f

/-! ### The end of a dither period (R117) -/

theorem putVref_work (h : u.MppWork s m) (w : Flt) : u.MppWork (s.putVref m w) m := ((h.modMpp _).putB).putB

theorem ditherUpdate_work (s : State) (m : Nat) : s.MppWork (s.ditherUpdate m) m := by
  unfold ditherUpdate
  dsimp only
  exact .ite (.refl s m) (putVref_work (((MppWork.refl s m).modMpp _).putB) _)

theorem putVref_mpp (s : State) (w : Flt) (hm : m < s.wvn.mpps.length) : ∃ a, (s.putVref m w).mpp m = { s.mpp m with vref := a } :=
  ⟨_, (mpp_modMpp_same s _ hm)⟩

theorem ditherUpdate_updates (s : State) (hm : m < s.wvn.mpps.length) : MppSt.Updated (s.mpp m) ((s.ditherUpdate m).mpp m) := by
  unfold ditherUpdate
  dsimp only
  split
  · exact ⟨_, _, _, rfl⟩
  · obtain ⟨a, ha⟩ := putVref_mpp ((s.modMpp m _).putB (F.WVN_MPPm_STAT_LIMITED m) _) _ ((((MppWork.refl s m).modMpp _).putB (f := F.WVN_MPPm_STAT_LIMITED m)).length ▸ hm)
    exact ⟨a, _, _, ha.trans (congrArg (fun x : MppSt => { x with vref := a }) (mpp_modMpp_same s _ hm))⟩

/-- The updated channel at the start of its next dither period. -/
def ditherReset (s : State) (m : Nat) : State :=
  (s.ditherUpdate m).modMpp m (fun x => { x with idx := 0, high := false, sumLow := 0, cntLow := 0, sumHigh := 0, cntHigh := 0 })

/-- A due scan begins with its first step. -/
def scanBegun (s : State) (m : Nat) : State :=
  (s.modMpp m (fun x => { x with scan := some 0, scanReq := false, scanStart := s.count, stepSum := 0, stepCnt := 0, best := none })).set1
    (F.WVN_MPPm_STAT_SCAN m)

theorem ditherEnd_eq (s : State) (m : Nat) : s.ditherEnd m = if (s.ditherReset m).scanDue m then (s.ditherReset m).scanBegun m else s.ditherReset m := rfl

theorem ditherReset_work (s : State) (m : Nat) : s.MppWork (s.ditherReset m) m := (ditherUpdate_work s m).modMpp _

theorem ditherReset_mpp (s : State) (hm : m < s.wvn.mpps.length) : (s.ditherReset m).mpp m =
    { (s.ditherUpdate m).mpp m with idx := 0, high := false, sumLow := 0, cntLow := 0, sumHigh := 0, cntHigh := 0 } :=
  mpp_modMpp_same _ _ ((ditherUpdate_work s m).length ▸ hm)

theorem scanBegun_work (h : u.MppWork s m) : u.MppWork (s.scanBegun m) m := (h.modMpp _).set1

theorem scanBegun_mpp (s : State) (hm : m < s.wvn.mpps.length) : (s.scanBegun m).mpp m =
    { s.mpp m with scan := some 0, scanReq := false, scanStart := s.count, stepSum := 0, stepCnt := 0, best := none } := mpp_modMpp_same s _ hm

theorem ditherEnd_work (s : State) (m : Nat) : s.MppWork (s.ditherEnd m) m := by
  rw [ditherEnd_eq]
  exact .ite (scanBegun_work (ditherReset_work s m)) (ditherReset_work s m)

/-- What an end of a dither period leaves whether a scan begins or not. -/
theorem ditherEnd_mpp (s : State) (hm : m < s.wvn.mpps.length) : ((s.ditherEnd m).mpp m).idx = 0 ∧ ((s.ditherEnd m).mpp m).high = false ∧
    ((s.ditherEnd m).mpp m).vref = ((s.ditherUpdate m).mpp m).vref ∧ ((s.ditherEnd m).mpp m).ditherMean = ((s.ditherUpdate m).mpp m).ditherMean := by
  rw [ditherEnd_eq]
  split
  · rw [scanBegun_mpp _ ((ditherReset_work s m).length ▸ hm), ditherReset_mpp s hm]
    exact ⟨rfl, rfl, rfl, rfl⟩
  · rw [ditherReset_mpp s hm]
    exact ⟨rfl, rfl, rfl, rfl⟩

theorem ditherEnd_limited (s : State) (m : Nat) : (s.ditherEnd m).on (F.WVN_MPPm_STAT_LIMITED m) = (s.ditherUpdate m).on (F.WVN_MPPm_STAT_LIMITED m) := by
  have hreset : (s.ditherReset m).on (F.WVN_MPPm_STAT_LIMITED m) = (s.ditherUpdate m).on (F.WVN_MPPm_STAT_LIMITED m) := on_congr (modMpp_regs ..) _
  rw [ditherEnd_eq]
  split
  · rw [scanBegun, on_set1_other _ _ _ (by simp) (.inr (by simp)), on_congr (modMpp_regs ..), hreset]
  · exact hreset

theorem scanDue_reset (s : State) (hm : m < s.wvn.mpps.length) : (s.ditherReset m).scanDue m =
    (((s.mpp m).scanReq || (s.get (F.WVN_MPPm_SCAN_SCAN_INT m) != 0 &&
      decide ((s.mpp m).scanStart + s.get (F.WVN_MPPm_SCAN_SCAN_INT m) * 400000000 ≤ s.count))) &&
      !s.on (F.WVN_MPPm_CFG_HOLD m) && !(s.ditherUpdate m).on (F.WVN_MPPm_STAT_LIMITED m)) := by
  have hwork := ditherReset_work s m
  have hlim : (s.ditherReset m).on (F.WVN_MPPm_STAT_LIMITED m) = (s.ditherUpdate m).on (F.WVN_MPPm_STAT_LIMITED m) := on_congr (modMpp_regs ..) _
  obtain ⟨a, b, c, hup⟩ := ditherUpdate_updates s hm
  unfold scanDue
  dsimp only
  rw [hwork.get (SCAN_ne_STAT m), hwork.on (CFG_ne_STAT m), hwork.count, hlim, ditherReset_mpp s hm, hup]

/-- What the gathering of a valley leaves of its channel. -/
theorem mppTaken_keeps (s : State) (u : Nat) (hm : m < s.wvn.mpps.length) : ∃ a b c d e f g, (s.mppTaken m u).mpp m =
    { s.mpp m with sumLow := a, cntLow := b, sumHigh := c, cntHigh := d, stepSum := e, stepCnt := f, pubs := g } := by
  obtain ⟨a, b, c, d, e, f, h⟩ := mppGather_sums s ((s.mpp m).taken u) hm
  rw [mppTaken_mpp s u hm, h]
  exact ⟨a, b, c, d, e, f, _, rfl⟩

theorem mppHalf_congr (h : t.regs = s.regs) (m : Nat) : t.mppHalf m = s.mppHalf m := by rw [mppHalf, get_congr h, mppHalf]

theorem ditherLast_iff : s.ditherLast m = true ↔ (s.mpp m).scan = none ∧ s.on (F.WVN_MPPm_CFG_HOLD m) = false ∧ (s.mpp m).high = true ∧
    s.mppHalf m ≤ (s.mpp m).idx + 1 := by
  simp only [ditherLast, Bool.and_eq_true, Option.isNone_iff_eq_none, Bool.not_eq_true', decide_eq_true_eq, and_assoc]

theorem ditherLast_taken (s : State) (u : Nat) (hm : m < s.wvn.mpps.length) : (s.mppTaken m u).ditherLast m = s.ditherLast m := by
  obtain ⟨a, b, c, d, e, f, g, h⟩ := mppTaken_keeps s u hm
  unfold ditherLast
  rw [mppHalf_congr (mppTaken_regs s m u), on_congr (mppTaken_regs s m u), h]

theorem mppTurn_dither (hl : s.ditherLast m = true) : s.mppTurn m = s.ditherEnd m := by
  obtain ⟨hscan, hhold, hhigh, hidx⟩ := ditherLast_iff.mp hl
  unfold mppTurn
  simp only [hscan, hhold, hl, Bool.false_eq_true, if_false, if_true]

theorem mppPeriod_dither {u : Nat} (hm : m < s.wvn.mpps.length) (hl : s.ditherLast m = true) (hd : (s.mpp m).doneAt ≠ some s.count)
    (hu : (s.mpp m).prevValley = some u) : s.mppPeriod m = s.mppMarked ((s.mppTaken m u).ditherEnd m) m := by
  rw [mppPeriod_eq hd hu, mppTurn_dither ((ditherLast_taken s u hm).trans hl)]

theorem MppWork.trans (h : s.MppWork t m) (h' : t.MppWork u m) : s.MppWork u m := by
  obtain ⟨f, e⟩ := h.wvn
  obtain ⟨g, e'⟩ := h'.wvn
  refine ⟨⟨fun x => g (f x), ?_⟩, h.regs.trans h'.regs, h'.clk.trans h.clk, h'.sys.trans h.sys⟩
  rw [e', e, upd_upd]

theorem mppPeriod_dither_work (s : State) (m u : Nat) : s.MppWork (s.mppMarked ((s.mppTaken m u).ditherEnd m) m) m :=
  mppMarked_work ((mppTaken_work s m u).trans (ditherEnd_work _ m))

/-- Without a request and without an interval no scan begins. -/
theorem ditherEnd_noScan (hm : m < s.wvn.mpps.length) (hr : (s.mpp m).scanReq = false) (hi : s.get (F.WVN_MPPm_SCAN_SCAN_INT m) = 0) :
    ((s.ditherEnd m).mpp m).scan = (s.mpp m).scan := by
  obtain ⟨a, b, c, hup⟩ := ditherUpdate_updates s hm
  have hdue : (s.ditherReset m).scanDue m = false := by
    rw [scanDue_reset s hm, hr, hi]
    rfl
  rw [ditherEnd_eq, hdue, if_neg Bool.false_ne_true, ditherReset_mpp s hm, hup]

/-- A scan that was asked for begins, unless the limit holds VREF. -/
theorem ditherEnd_scan (hm : m < s.wvn.mpps.length) (hr : (s.mpp m).scanReq = true) (hh : s.on (F.WVN_MPPm_CFG_HOLD m) = false)
    (hlim : (s.ditherUpdate m).on (F.WVN_MPPm_STAT_LIMITED m) = false) :
    ((s.ditherEnd m).mpp m).scan = some 0 ∧ (s.ditherEnd m).on (F.WVN_MPPm_STAT_SCAN m) = true := by
  have hdue : (s.ditherReset m).scanDue m = true := by
    rw [scanDue_reset s hm, hr, hh, hlim]
    rfl
  rw [ditherEnd_eq, hdue, if_pos rfl, scanBegun_mpp _ ((ditherReset_work s m).length ▸ hm)]
  exact ⟨rfl, on_set1_same _ _ (by simp) (by simp)⟩

theorem mpptDitherEnd_exec {u : Nat} (hm : m < s.wvn.mpps.length) (hv : s.mppAtValley m = true) (hl : s.ditherLast m = true)
    (hd : (s.mpp m).doneAt ≠ some s.count) (hu : (s.mpp m).prevValley = some u) :
    (if s.mppAtValley m && s.ditherLast m then s.mppPeriod m else s) = s.mppMarked ((s.mppTaken m u).ditherEnd m) m := by
  rw [hv, hl, Bool.and_self, if_pos rfl, mppPeriod_dither hm hl hd hu]

theorem mpptDitherEnd_gives (m : Fin 8) {u : Nat} (hs : s.Shaped) (hv : s.mppAtValley m = true) (hl : s.ditherLast m = true)
    (hd : (s.mpp m).doneAt ≠ some s.count) (hu : (s.mpp m).prevValley = some u) : Completes (.mpptDitherEnd m) s fun t =>
      (t.mpp m).idx = 0 ∧ (t.mpp m).high = false ∧ (t.mpp m).doneAt = some s.count ∧ (t.mpp m).prevValley = some s.count ∧
      (∀ n : Fin 8, n ≠ m → t.mpp n = s.mpp n) ∧
      ((s.mpp m).scanReq = false → s.get (F.WVN_MPPm_SCAN_SCAN_INT m) = 0 →
        (t.mpp m).scan = none ∧ t.vrefOut m = singleRat (t.mpp m).vref - (s.get (F.WVN_MPPm_STEP_LO m) : Rat)) ∧
      ((s.mpp m).scanReq = true → t.on (F.WVN_MPPm_STAT_LIMITED m) = false →
        (t.mpp m).scan = some 0 ∧ t.on (F.WVN_MPPm_STAT_SCAN m) = true ∧ t.vrefOut m = (s.get (F.WVN_MPPm_VLIM_HI m) : Rat)) := by
  have hm : m < s.wvn.mpps.length := m.isLt.trans_eq hs.mpps.symm
  have hm' : m < (s.mppTaken m u).wvn.mpps.length := (mppTaken_work s m u).length ▸ hm
  obtain ⟨hscan, hhold, -, -⟩ := ditherLast_iff.mp hl
  obtain ⟨a, b, c, d, e, f, g, htaken⟩ := mppTaken_keeps s u hm
  obtain ⟨hidx, hhigh, -, -⟩ := ditherEnd_mpp (s.mppTaken m u) hm'
  have hmpp := mppMarked_mpp s ((ditherEnd_work (s.mppTaken m u) m).length ▸ hm')
  have hwork := mppPeriod_dither_work s m u
  have hregs := mppTaken_regs s m u
  refine ⟨_, rfl, ?_⟩
  rw [mpptDitherEnd_exec hm hv hl hd hu]
  refine ⟨by rw [hmpp]; exact hidx, by rw [hmpp]; exact hhigh, by rw [hmpp], by rw [hmpp], fun n hn => hwork.other (by omega), fun hr hi => ?_,
    fun hr hlim => ?_⟩
  · have hno : ((s.mppMarked ((s.mppTaken m u).ditherEnd m) m).mpp m).scan = none := by
      rw [hmpp]
      refine (ditherEnd_noScan hm' (by rw [htaken]; exact hr) (by rw [get_congr hregs]; exact hi)).trans ?_
      rw [htaken]
      exact hscan
    exact ⟨hno, vrefOut_low hwork hhold hno (by rw [hmpp]; exact hhigh)⟩
  · rw [mppMarked_on _ _ _ _ (by simp) (by simp), ditherEnd_limited] at hlim
    obtain ⟨h0, hon⟩ := ditherEnd_scan hm' (by rw [htaken]; exact hr) (by rw [on_congr hregs]; exact hhold) hlim
    have hsome : ((s.mppMarked ((s.mppTaken m u).ditherEnd m) m).mpp m).scan = some 0 := by
      rw [hmpp]
      exact h0
    refine ⟨hsome, (mppMarked_on _ _ _ _ (by simp) (by simp)).trans hon, ?_⟩
    rw [vrefOut_scan hwork hhold hsome, scanVolt_zero]
    simp

/-! ### The value of VREF (R117) -/

/-- The sign of a zero does not show in the number that a single stands for. -/
theorem singleRat_round (q : Rat) (n : Bool) : singleRat (roundSingle (.fin q n)).1 = singleRat (toSingle q) := by
  by_cases hq : q = 0
  · subst hq
    cases n <;> rfl
  · simp only [toSingle, Flt.ofRat, roundSingle, hq, if_false]

theorem putVref_vref (s : State) (q : Rat) (n : Bool) (hm : m < s.wvn.mpps.length)
    (hlim : s.get (F.WVN_MPPm_VLIM_LO m) ≤ s.get (F.WVN_MPPm_VLIM_HI m)) : singleRat ((s.putVref m (.fin q n)).mpp m).vref =
      singleRat (toSingle (max (s.get (F.WVN_MPPm_VLIM_LO m) : Rat) (min (s.get (F.WVN_MPPm_VLIM_HI m) : Rat) q))) := by
  have hle : (s.get (F.WVN_MPPm_VLIM_LO m) : Rat) ≤ s.get (F.WVN_MPPm_VLIM_HI m) := by exact_mod_cast hlim
  have hmpp : ((s.putVref m (.fin q n)).mpp m).vref =
      if decide (q < (s.get (F.WVN_MPPm_VLIM_LO m) : Rat)) then toSingle (s.get (F.WVN_MPPm_VLIM_LO m) : Rat)
      else if decide ((s.get (F.WVN_MPPm_VLIM_HI m) : Rat) < q) then toSingle (s.get (F.WVN_MPPm_VLIM_HI m) : Rat)
      else (roundSingle (.fin q n)).1 := congrArg MppSt.vref (mpp_modMpp_same s _ hm)
  rw [hmpp]
  split
  next hlo =>
    have hlo := of_decide_eq_true hlo
    rw [max_eq_left ((min_le_right _ _).trans hlo.le)]
  next hlo =>
    have hlo := not_lt.mp (of_decide_eq_false (Bool.eq_false_iff.mpr hlo))
    split
    next hhi =>
      have hhi := of_decide_eq_true hhi
      rw [min_eq_left hhi.le, max_eq_right hle]
    next hhi =>
      have hhi := not_lt.mp (of_decide_eq_false (Bool.eq_false_iff.mpr hhi))
      rw [min_eq_right hhi, max_eq_right hlo, singleRat_round]

/-- The step of VREF: the limit's, or K times the difference between −STEP and STEP. -/
theorem ditherStep_clamped (limited : Bool) {step : Rat} (hstep : 0 ≤ step) (kg : Rat) (n : Bool) : ∃ n',
    (if limited then Flt.ofRat step else if (Flt.fin kg n).lt (.ofRat (-step)) then .ofRat (-step)
      else if (Flt.ofRat step).lt (.fin kg n) then .ofRat step else .fin kg n) =
    .fin (if limited = true then step else max (-step) (min step kg)) n' := by
  cases limited with
  | true => exact ⟨false, rfl⟩
  | false =>
    simp only [Bool.false_eq_true, if_false, Flt.lt, Flt.ofRat, decide_eq_true_eq]
    split
    next h => exact ⟨false, by rw [min_eq_right (by linarith), max_eq_left h.le]⟩
    next h =>
      split
      next h' => exact ⟨false, by rw [min_eq_left h'.le, max_eq_right (by linarith)]⟩
      next h' => exact ⟨n, by rw [min_eq_right (not_lt.mp h'), max_eq_right (not_lt.mp h)]⟩

/-- The limit acts on the mean of a dither period. -/
def mppLimited (s : State) (m : Nat) (mean : Word) : Bool :=
  s.on (F.WVN_MPPm_CFG_LIM_EN m) && (ofSingle (s.rd (R.WVN_MPPm_LIM m))).lt (ofSingle mean)

/-- The channel with the mean of the period that ends, and LIMITED. -/
def ditherJudged (s : State) (m : Nat) : State :=
  (s.modMpp m (fun y => { y with mean := (s.mpp m).middle, ditherMean := some (s.mpp m).middle })).putB (F.WVN_MPPm_STAT_LIMITED m)
    (s.mppLimited m (s.mpp m).middle)

theorem ditherUpdate_eq (hlow : (s.mpp m).cntLow ≠ 0) (hhigh : (s.mpp m).cntHigh ≠ 0) : s.ditherUpdate m = (s.ditherJudged m).putVref m
    ((ofSingle (s.mpp m).vref).add (if s.mppLimited m (s.mpp m).middle then Flt.ofRat (s.get (F.WVN_MPPm_STEP_HI m) : Rat)
      else if (ofSingle (roundSingle ((ofSingle (s.rd (R.WVN_MPPm_K m))).mul (ofSingle (s.mpp m).diff))).1).lt
        (.ofRat (-(s.get (F.WVN_MPPm_STEP_HI m) : Rat))) then .ofRat (-(s.get (F.WVN_MPPm_STEP_HI m) : Rat))
      else if (Flt.ofRat (s.get (F.WVN_MPPm_STEP_HI m) : Rat)).lt
        (ofSingle (roundSingle ((ofSingle (s.rd (R.WVN_MPPm_K m))).mul (ofSingle (s.mpp m).diff))).1) then .ofRat (s.get (F.WVN_MPPm_STEP_HI m) : Rat)
      else ofSingle (roundSingle ((ofSingle (s.rd (R.WVN_MPPm_K m))).mul (ofSingle (s.mpp m).diff))).1)) := by
  unfold ditherUpdate
  dsimp only
  rw [if_neg (by tauto)]
  rfl

theorem ditherJudged_work (s : State) (m : Nat) : s.MppWork (s.ditherJudged m) m := ((MppWork.refl s m).modMpp _).putB

theorem ditherUpdate_shows (hm : m < s.wvn.mpps.length) (hlow : (s.mpp m).cntLow ≠ 0) (hhigh : (s.mpp m).cntHigh ≠ 0)
    (hlim : s.get (F.WVN_MPPm_VLIM_LO m) ≤ s.get (F.WVN_MPPm_VLIM_HI m)) {kg q : Rat} {n n' : Bool}
    (hk : ofSingle (roundSingle ((ofSingle (s.rd (R.WVN_MPPm_K m))).mul (ofSingle (s.mpp m).diff))).1 = .fin kg n)
    (hv : ofSingle (s.mpp m).vref = .fin q n') :
    (s.ditherUpdate m).on (F.WVN_MPPm_STAT_LIMITED m) = s.mppLimited m (s.mpp m).middle ∧
    ((s.ditherUpdate m).mpp m).ditherMean = some (s.mpp m).middle ∧
    singleRat ((s.ditherUpdate m).mpp m).vref = singleRat (toSingle (max (s.get (F.WVN_MPPm_VLIM_LO m) : Rat)
      (min (s.get (F.WVN_MPPm_VLIM_HI m) : Rat) (q + (if s.mppLimited m (s.mpp m).middle = true then (s.get (F.WVN_MPPm_STEP_HI m) : Rat)
        else max (-(s.get (F.WVN_MPPm_STEP_HI m) : Rat)) (min (s.get (F.WVN_MPPm_STEP_HI m) : Rat) kg)))))) := by
  have hwork := ditherJudged_work s m
  have hm' : m < (s.ditherJudged m).wvn.mpps.length := hwork.length ▸ hm
  have hjudged : (s.ditherJudged m).mpp m = { s.mpp m with mean := (s.mpp m).middle, ditherMean := some (s.mpp m).middle } :=
    mpp_modMpp_same s _ hm
  obtain ⟨z, hz⟩ := ditherStep_clamped (s.mppLimited m (s.mpp m).middle) (step := (s.get (F.WVN_MPPm_STEP_HI m) : Rat)) (by positivity) kg n
  rw [ditherUpdate_eq hlow hhigh, hk, hz, hv]
  refine ⟨?_, ?_, ?_⟩
  · unfold putVref
    dsimp only
    rw [on_putB_other _ _ _ _ (by simp) (.inr (by simp)), on_putB_other _ _ _ _ (by simp) (.inr (by simp)), on_congr (modMpp_regs ..)]
    exact on_putB_same _ _ _ (by simp) (by simp)
  · obtain ⟨a, ha⟩ := putVref_mpp (s.ditherJudged m) (.add (.fin q n') (.fin _ z)) hm'
    rw [ha, hjudged]
  · rw [Flt.add, putVref_vref _ _ _ hm' (by rw [hwork.get (VLIM_ne_STAT m), hwork.get (VLIM_ne_STAT m)]; exact hlim),
      hwork.get (VLIM_ne_STAT m), hwork.get (VLIM_ne_STAT m)]

theorem mpptDitherEnd_moves (m : Fin 8) {u : Nat} {kg q : Rat} {n n' : Bool} (hs : s.Shaped) (hv : s.mppAtValley m = true) (hl : s.ditherLast m = true)
    (hd : (s.mpp m).doneAt ≠ some s.count) (hu : (s.mpp m).prevValley = some u)
    (hlim : s.get (F.WVN_MPPm_VLIM_LO m) ≤ s.get (F.WVN_MPPm_VLIM_HI m)) :
    let x := (s.mppGather m ((s.mpp m).taken u)).mpp m
    let low := toSingle (x.sumLow / (x.cntLow : Rat))
    let high := toSingle (x.sumHigh / (x.cntHigh : Rat))
    let g := toSingle (singleRat high - singleRat low)
    let mean := toSingle ((singleRat low + singleRat high) / 2)
    let limited := s.on (F.WVN_MPPm_CFG_LIM_EN m) && (ofSingle (s.rd (R.WVN_MPPm_LIM m))).lt (ofSingle mean)
    let step : Rat := s.get (F.WVN_MPPm_STEP_HI m)
    x.cntLow ≠ 0 → x.cntHigh ≠ 0 → ofSingle (roundSingle ((ofSingle (s.rd (R.WVN_MPPm_K m))).mul (ofSingle g))).1 = .fin kg n →
    ofSingle x.vref = .fin q n' →
    Completes (.mpptDitherEnd m) s fun t =>
      t.on (F.WVN_MPPm_STAT_LIMITED m) = limited ∧
      singleRat (t.mpp m).vref = singleRat (toSingle (max (s.get (F.WVN_MPPm_VLIM_LO m) : Rat)
        (min (s.get (F.WVN_MPPm_VLIM_HI m) : Rat) (q + (if limited = true then step else max (-step) (min step kg)))))) ∧
      (t.mpp m).ditherMean = some mean := by
  intro x low high g mean limited step hlow hhigh hk hq
  have hm : m < s.wvn.mpps.length := m.isLt.trans_eq hs.mpps.symm
  have hm' : m < (s.mppTaken m u).wvn.mpps.length := (mppTaken_work s m u).length ▸ hm
  have hregs := mppTaken_regs s m u
  have htaken := mppTaken_mpp s u hm
  have hmid : ((s.mppTaken m u).mpp m).middle = mean := by rw [htaken]; rfl
  have hdiff : ((s.mppTaken m u).mpp m).diff = g := by rw [htaken]; rfl
  have hlimited : (s.mppTaken m u).mppLimited m mean = limited := by rw [mppLimited, on_congr hregs, rd_congr hregs]
  obtain ⟨h1, h2, h3⟩ := ditherUpdate_shows (s := s.mppTaken m u) hm' (by rw [htaken]; exact hlow) (by rw [htaken]; exact hhigh)
    (by rw [get_congr hregs, get_congr hregs]; exact hlim) (by rw [hdiff, rd_congr hregs]; exact hk) (by rw [htaken]; exact hq)
  rw [hmid, hlimited] at h1 h3
  rw [hmid] at h2
  rw [get_congr hregs, get_congr hregs, get_congr hregs] at h3
  obtain ⟨-, -, hvref, hmean⟩ := ditherEnd_mpp (s.mppTaken m u) hm'
  have hmpp := mppMarked_mpp s ((ditherEnd_work (s.mppTaken m u) m).length ▸ hm')
  refine ⟨_, rfl, ?_⟩
  beta_reduce
  rw [mpptDitherEnd_exec hm hv hl hd hu, hmpp, mppMarked_on _ _ _ _ (by simp) (by simp), ditherEnd_limited]
  exact ⟨h1, (congrArg singleRat hvref).trans h3, hmean.trans h2⟩

/-! ### The first half ends, and a latch -/

theorem mppTurn_half (hscan : (s.mpp m).scan = none) (hh : s.on (F.WVN_MPPm_CFG_HOLD m) = false) (hlow : (s.mpp m).high = false)
    (hidx : s.mppHalf m ≤ (s.mpp m).idx + 1) : s.mppTurn m = s.modMpp m (fun y => { y with idx := 0, high := true }) := by
  have hl : s.ditherLast m = false := by simp [ditherLast, hlow]
  unfold mppTurn
  simp only [hscan, hh, hl, hidx, Bool.false_eq_true, if_false, if_true]

theorem mppPeriod_half (m : Fin 8) {u : Nat} (hs : s.Shaped) (hd : (s.mpp m).doneAt ≠ some s.count) (hu : (s.mpp m).prevValley = some u)
    (hscan : (s.mpp m).scan = none) (hh : s.on (F.WVN_MPPm_CFG_HOLD m) = false) (hlow : (s.mpp m).high = false)
    (hidx : s.mppHalf m ≤ (s.mpp m).idx + 1) :
    ((s.mppPeriod m).mpp m).high = true ∧ ((s.mppPeriod m).mpp m).idx = 0 ∧ ((s.mppPeriod m).mpp m).vref = (s.mpp m).vref ∧
    (s.mppPeriod m).vrefOut m = singleRat (s.mpp m).vref + (s.get (F.WVN_MPPm_STEP_LO m) : Rat) := by
  have hm : m < s.wvn.mpps.length := m.isLt.trans_eq hs.mpps.symm
  have hm' : m < (s.mppTaken m u).wvn.mpps.length := (mppTaken_work s m u).length ▸ hm
  have hregs := mppTaken_regs s m u
  obtain ⟨a, b, c, d, e, f, g, htaken⟩ := mppTaken_keeps s u hm
  have hturn : (s.mppTaken m u).mppTurn m = (s.mppTaken m u).modMpp m (fun y => { y with idx := 0, high := true }) :=
    mppTurn_half (by rw [htaken]; exact hscan) (by rw [on_congr hregs]; exact hh) (by rw [htaken]; exact hlow)
      (by rw [mppHalf_congr hregs, htaken]; exact hidx)
  have hwork : s.MppWork (s.mppMarked ((s.mppTaken m u).modMpp m (fun y => { y with idx := 0, high := true })) m) m :=
    mppMarked_work ((mppTaken_work s m u).modMpp _)
  have hmpp := mppMarked_mpp (t := (s.mppTaken m u).modMpp m (fun y => { y with idx := 0, high := true })) s
    ((((MppWork.refl _ m).modMpp _).length (s := s.mppTaken m u)) ▸ hm')
  rw [mpp_modMpp_same _ _ hm', htaken] at hmpp
  rw [mppPeriod_eq hd hu, hturn, vrefOut_high hwork hh (by rw [hmpp]; exact hscan) (by rw [hmpp]), hmpp]
  exact ⟨rfl, rfl, rfl, rfl⟩

theorem mppLatch_vref (s : State) (m : Fin 8) : (s.mppLatch m).rd (R.WVN_Mm_n m 0) = toSingle (16 * s.vrefOut m) := by
  have hdigest (t : State) (key : Nat) (ws : List Word) : (t.digest key ws).regs = t.regs := by
    unfold digest
    split <;> rfl
  unfold mppLatch
  rw [rd_congr (hdigest ..)]
  refine forAll_at (i := 0) (fun u => u.rd (R.WVN_Mm_n m 0) = toSingle (16 * s.vrefOut m)) (fun _ => True) trivial (fun _ _ _ _ => trivial)
    (fun u _ => ?_) (fun j u hj _ hu => ?_) (by decide)
  · rw [rd_wr, if_pos rfl]
    rfl
  · rw [rd_wr, if_neg (by simp only [R.WVN_Mm_n]; omega), hu]

/-! ### A scan is asked for -/

theorem hook_WVN_MPPm_CFG (s : State) (m : Fin 8) (v : Word) : s.hook (R.WVN_MPPm_CFG m) v =
    (s.storePlain (R.WVN_MPPm_CFG m) v).whenB (bitAt v 26) (·.modMpp m (fun x => { x with scanReq := true })) := by
  fin_cases m <;> rfl

theorem movesPolicy_WVN_MPPm_CFG : ∀ m : Fin 8, movesPolicy (R.WVN_MPPm_CFG m) = false := by decide

theorem mpptScanRequest_gives {w : World} (m : Fin 8) {v : Word} (hs : s.Shaped) (ha : s.accepts w (R.WVN_MPPm_CFG m) (v ||| 0x4000000)) :
    Completes (.mpptScanRequest w m v) s fun t =>
      (t.mpp m).scanReq = true ∧ t.rd (R.WVN_MPPm_CFG m) = s.stored (R.WVN_MPPm_CFG m) (v ||| 0x4000000) ∧
      (∀ b, b ≠ R.WVN_MPPm_CFG m → t.rd b = s.rd b) := by
  have hmoves := write_moves ha (movesPolicy_WVN_MPPm_CFG m)
  have hkept := storePlain_moves s (R.WVN_MPPm_CFG m) (v ||| 0x4000000)
  have hlen : m < (s.storePlain (R.WVN_MPPm_CFG m) (v ||| 0x4000000)).wvn.mpps.length := by
    rw [hkept.wvn]
    exact m.isLt.trans_eq hs.mpps.symm
  rw [hook_WVN_MPPm_CFG, bitAt_or v 0x4000000 (by decide), whenB, if_pos rfl] at hmoves
  refine ⟨_, rfl, ?_, ?_, fun b hb => ?_⟩
  · rw [mpp_congr hmoves.wvn, mpp_modMpp_same _ _ hlen]
  · exact (rd_congr hmoves.regs _).trans ((rd_congr (modMpp_regs ..) _).trans (rd_storePlain_same ..))
  · exact (rd_congr hmoves.regs _).trans ((rd_congr (modMpp_regs ..) _).trans (rd_storePlain_other _ _ hb))

/-! ### A scan step ends (R118) -/

theorem scanLast_taken (s : State) (u : Nat) (hm : m < s.wvn.mpps.length) : (s.mppTaken m u).scanLast m = s.scanLast m := by
  obtain ⟨a, b, c, d, e, f, g, h⟩ := mppTaken_keeps s u hm
  have hregs := mppTaken_regs s m u
  unfold scanLast mppDwell carPeriod
  simp only [get_congr hregs, h]

/-- The step's mean, and the best so far. -/
def stepJudged (s : State) (m j : Nat) : State :=
  let x := s.mpp m
  if x.stepCnt = 0 then s else
    let p := toSingle (x.stepSum / x.stepCnt)
    let better : Bool := match x.best with
      | some (q, _) => singleRat q < singleRat p
      | none => true
    s.modMpp m (fun y => { y with mean := p, best := if better then some (p, (s.scanVolt m j).toNat) else y.best })

theorem scanStep_eq (s : State) (m j : Nat) : s.scanStep m j = if 63 ≤ j then (s.stepJudged m j).scanEnd m
    else (s.stepJudged m j).modMpp m (fun y => { y with scan := some (j + 1), idx := 0, stepSum := 0, stepCnt := 0 }) := rfl

theorem stepJudged_work (s : State) (m j : Nat) : s.MppWork (s.stepJudged m j) m := .ite (.refl s m) ((MppWork.refl s m).modMpp _)

theorem stepJudged_regs (s : State) (m j : Nat) : (s.stepJudged m j).regs = s.regs := by
  unfold stepJudged
  dsimp only
  split <;> rfl

theorem stepJudged_mpp (s : State) (j : Nat) (hm : m < s.wvn.mpps.length) : ∃ a, (s.stepJudged m j).mpp m =
    { s.mpp m with mean := a, best := (s.mpp m).bestAfter (s.scanVolt m j).toNat } := by
  unfold stepJudged MppSt.bestAfter
  dsimp only
  by_cases hc : (s.mpp m).stepCnt = 0
  · rw [if_pos hc, if_pos hc]
    exact ⟨_, rfl⟩
  · rw [if_neg hc, if_neg hc, mpp_modMpp_same s _ hm]
    refine ⟨_, congrArg (fun b => { s.mpp m with mean := toSingle ((s.mpp m).stepSum / (s.mpp m).stepCnt), best := b }) ?_⟩
    cases (s.mpp m).best with
    | none => rfl
    | some q => simp only [decide_eq_true_eq]

theorem scanLast_iff : s.scanLast m = true ↔ (s.mpp m).scan.isSome = true ∧ s.mppDwell m ≤ (s.mpp m).idx + 1 := by
  simp only [scanLast, Bool.and_eq_true, decide_eq_true_eq]

/-- The state that takes the end of scan step `j`. -/
theorem mppPeriod_scan {u j : Nat} (hm : m < s.wvn.mpps.length) (hl : s.scanLast m = true) (hj : (s.mpp m).scan = some j)
    (hd : (s.mpp m).doneAt ≠ some s.count) (hu : (s.mpp m).prevValley = some u) :
    s.mppPeriod m = s.mppMarked ((s.mppTaken m u).scanStep m j) m := by
  have hl' := (scanLast_taken s u hm).trans hl
  obtain ⟨a, b, c, d, e, f, g, htaken⟩ := mppTaken_keeps s u hm
  have hj' : ((s.mppTaken m u).mpp m).scan = some j := by rw [htaken]; exact hj
  rw [mppPeriod_eq hd hu, mppTurn]
  simp only [hj', hl', if_true]

theorem mpptScanStep_exec {u j : Nat} (hm : m < s.wvn.mpps.length) (hv : s.mppAtValley m = true) (hl : s.scanLast m = true)
    (hj : (s.mpp m).scan = some j) (hd : (s.mpp m).doneAt ≠ some s.count) (hu : (s.mpp m).prevValley = some u) :
    (if s.mppAtValley m && s.scanLast m then s.mppPeriod m else s) = s.mppMarked ((s.mppTaken m u).scanStep m j) m := by
  rw [hv, hl, Bool.and_self, if_pos rfl, mppPeriod_scan hm hl hj hd hu]

/-- The best step of a channel whose publications of the valley are taken. -/
theorem bestAfter_taken (s : State) (u j : Nat) (hm : m < s.wvn.mpps.length) :
    ((s.mppTaken m u).mpp m).bestAfter ((s.mppTaken m u).scanVolt m j).toNat =
    ((s.mppGather m ((s.mpp m).taken u)).mpp m).bestAfter (s.scanVolt m j).toNat := by
  rw [scanVolt_congr (mppTaken_work s m u), mppTaken_mpp s u hm]
  rfl

theorem mpptScanStep_next (m : Fin 8) {u j : Nat} (hs : s.Shaped) (hv : s.mppAtValley m = true) (hl : s.scanLast m = true)
    (hj : (s.mpp m).scan = some j) (hd : (s.mpp m).doneAt ≠ some s.count) (hu : (s.mpp m).prevValley = some u) (hlt : j < 63) :
    Completes (.mpptScanStep m) s fun t =>
      (t.mpp m).scan = some (j + 1) ∧ (t.mpp m).idx = 0 ∧ (t.mpp m).doneAt = some s.count ∧
      (t.mpp m).best = ((s.mppGather m ((s.mpp m).taken u)).mpp m).bestAfter (s.scanVolt m j).toNat ∧
      (t.mpp m).vref = (s.mpp m).vref ∧
      (s.on (F.WVN_MPPm_CFG_HOLD m) = false → t.vrefOut m = s.scanVolt m (j + 1)) := by
  have hm : m < s.wvn.mpps.length := m.isLt.trans_eq hs.mpps.symm
  have hm' : m < (s.mppTaken m u).wvn.mpps.length := (mppTaken_work s m u).length ▸ hm
  have hm'' : m < ((s.mppTaken m u).stepJudged m j).wvn.mpps.length := (stepJudged_work (s.mppTaken m u) m j).length ▸ hm'
  obtain ⟨a, b, c, d, e, f, g, htaken⟩ := mppTaken_keeps s u hm
  obtain ⟨mean, hjudged⟩ := stepJudged_mpp (s.mppTaken m u) j hm'
  rw [bestAfter_taken s u j hm] at hjudged
  have heq : (s.mppTaken m u).scanStep m j = ((s.mppTaken m u).stepJudged m j).modMpp m
      (fun y => { y with scan := some (j + 1), idx := 0, stepSum := 0, stepCnt := 0 }) := by
    rw [scanStep_eq, if_neg (by omega)]
  have hstep := ((mppTaken_work s m u).trans (stepJudged_work _ m j)).modMpp
      (fun y => { y with scan := some (j + 1), idx := 0, stepSum := 0, stepCnt := 0 })
  have hmpp := mppMarked_mpp s (t := (s.mppTaken m u).scanStep m j) (heq ▸ hstep.length ▸ hm)
  rw [← heq] at hstep
  have hwork : s.MppWork (s.mppMarked ((s.mppTaken m u).scanStep m j) m) m := mppMarked_work hstep
  rw [heq, mpp_modMpp_same _ _ hm'', hjudged, htaken, ← heq] at hmpp
  refine ⟨_, rfl, ?_⟩
  rw [mpptScanStep_exec hm hv hl hj hd hu]
  refine ⟨by rw [hmpp], by rw [hmpp], by rw [hmpp], by rw [hmpp], by rw [hmpp], fun hh => ?_⟩
  rw [vrefOut_scan hwork hh (by rw [hmpp])]

/-! ### The last scan step (R118) -/

/-- The best step moves VREF to its voltage. -/
def scanMoves (s : State) (m : Nat) (p : Word) : Prop :=
  ∃ d, (s.mpp m).ditherMean = some d ∧ singleRat d * (1 + (s.get (F.WVN_MPPm_SCAN_GAIN m) : Rat) / 1000) < singleRat p ∧
    s.on (F.WVN_MPPm_CFG_HOLD m) = false

/-- VBEST, and VREF where the gain asks for it. -/
def scanTaken (s : State) (m : Nat) : State :=
  match (s.mpp m).best with
  | some (p, v) =>
    let u := s.modMpp m (fun y => { y with vbest := toSingle (v : Rat) })
    (match (s.mpp m).ditherMean with
     | some d => if singleRat d * (1 + (s.get (F.WVN_MPPm_SCAN_GAIN m) : Rat) / 1000) < singleRat p ∧ !s.on (F.WVN_MPPm_CFG_HOLD m) then
         u.putVref m (.ofRat v) else u
     | none => u)
  | none => s

/-- The scan is over. -/
def scanOver (s : State) (m : Nat) : State :=
  (s.modMpp m (fun y => { y with scan := none, idx := 0, high := false, stepSum := 0, stepCnt := 0 })).clr (F.WVN_MPPm_STAT_SCAN m)

theorem scanEnd_eq (s : State) (m : Nat) : s.scanEnd m = ((s.scanTaken m).scanOver m).raise 0x4D := rfl

theorem scanTaken_none (h : (s.mpp m).best = none) : s.scanTaken m = s := by
  unfold scanTaken
  rw [h]

theorem scanTaken_stays {p : Word} {v : Nat} (h : (s.mpp m).best = some (p, v)) (hno : ¬ s.scanMoves m p) :
    s.scanTaken m = s.modMpp m (fun y => { y with vbest := toSingle (v : Rat) }) := by
  unfold scanTaken
  rw [h]
  dsimp only
  split
  next d hd =>
    rw [if_neg]
    rintro ⟨h1, h2⟩
    exact hno ⟨d, hd, h1, by simpa using h2⟩
  next => rfl

theorem scanTaken_moves {p : Word} {v : Nat} (h : (s.mpp m).best = some (p, v)) (hyes : s.scanMoves m p) :
    s.scanTaken m = (s.modMpp m (fun y => { y with vbest := toSingle (v : Rat) })).putVref m (.ofRat v) := by
  obtain ⟨d, hd, h1, h2⟩ := hyes
  unfold scanTaken
  rw [h, hd]
  dsimp only
  rw [if_pos ⟨h1, by simp [h2]⟩]

theorem scanTaken_vbest (hm : m < s.wvn.mpps.length) {p : Word} {v : Nat} (h : (s.mpp m).best = some (p, v)) :
    ((s.scanTaken m).mpp m).vbest = toSingle (v : Rat) := by
  by_cases hmoves : s.scanMoves m p
  · rw [scanTaken_moves h hmoves]
    obtain ⟨a, ha⟩ := putVref_mpp (s.modMpp m (fun y => { y with vbest := toSingle (v : Rat) })) (.ofRat v)
      (hm.trans_eq (length_upd ..).symm)
    rw [ha, mpp_modMpp_same s _ hm]
  · rw [scanTaken_stays h hmoves, mpp_modMpp_same s _ hm]

/-- A best voltage inside the limits is VREF as it is. -/
theorem scanTaken_vref (hm : m < s.wvn.mpps.length) {v : Nat} (hlo : s.get (F.WVN_MPPm_VLIM_LO m) ≤ v) (hhi : v ≤ s.get (F.WVN_MPPm_VLIM_HI m)) :
    singleRat (((s.modMpp m (fun y => { y with vbest := toSingle (v : Rat) })).putVref m (.ofRat v)).mpp m).vref = singleRat (toSingle (v : Rat)) := by
  have hregs : (s.modMpp m (fun y => { y with vbest := toSingle (v : Rat) })).regs = s.regs := rfl
  rw [Flt.ofRat, putVref_vref _ _ _ (hm.trans_eq (length_upd ..).symm) (by rw [get_congr hregs, get_congr hregs]; exact hlo.trans hhi),
    get_congr hregs, get_congr hregs, min_eq_right (by exact_mod_cast hhi), max_eq_right (by exact_mod_cast hlo)]

theorem scanTaken_work (s : State) (m : Nat) : s.MppWork (s.scanTaken m) m := by
  unfold scanTaken
  split
  · split
    · exact .ite (putVref_work ((MppWork.refl s m).modMpp _) _) ((MppWork.refl s m).modMpp _)
    · exact (MppWork.refl s m).modMpp _
  · exact .refl s m

theorem scanOver_work (h : u.MppWork s m) : u.MppWork (s.scanOver m) m := (h.modMpp _).clr

/-- What the end of a scan leaves of the channel as the best step left it. -/
theorem scanEnd_mpp (s : State) (hm : m < s.wvn.mpps.length) : ((s.scanEnd m).mpp m).scan = none ∧
    ((s.scanEnd m).mpp m).vref = ((s.scanTaken m).mpp m).vref ∧ ((s.scanEnd m).mpp m).vbest = ((s.scanTaken m).mpp m).vbest := by
  have h : (s.scanEnd m).mpp m = { (s.scanTaken m).mpp m with scan := none, idx := 0, high := false, stepSum := 0, stepCnt := 0 } := by
    rw [scanEnd_eq, mpp_congr (raise_wvn ..), scanOver, mpp_congr (clr_wvn ..), mpp_modMpp_same _ _ ((scanTaken_work s m).length ▸ hm)]
  rw [h]
  exact ⟨rfl, rfl, rfl⟩

theorem scanEnd_work (s : State) (m : Nat) : s.MppWork (s.scanEnd m) m := (scanOver_work (scanTaken_work s m)).raise 0x4D

theorem coreRuns_of_mppAtValley (h : s.mppAtValley m = true) : s.coreRuns = true := by
  unfold mppAtValley mppOn at h
  simp only [Bool.and_eq_true] at h
  exact h.1.1

theorem MppWork.coreRuns (h : s.MppWork t m) : t.coreRuns = s.coreRuns :=
  coreRuns_of_writes h.regs h.sys (by simp only [R.SYS_MODE, R.WVN_MPPm_STAT]; omega)

theorem scanEnd_sends (s : State) (m : Nat) (hruns : s.coreRuns = true) : s.sent (s.scanEnd m) 0x4D :=
  sent_raise ((scanOver_work (scanTaken_work s m)).coreRuns.trans hruns) (scanOver_work (scanTaken_work s m)).clk 0x4D

theorem scanEnd_off (s : State) (m : Nat) : (s.scanEnd m).on (F.WVN_MPPm_STAT_SCAN m) = false := by
  rw [scanEnd_eq, on_raise]
  exact on_clr_same _ _ (by simp)

theorem mppMarked_events (s t : State) (m : Nat) : (s.mppMarked t m).events = t.events := by
  simp only [mppMarked, putB_events, modMpp_events]

theorem mpptScanStep_last (m : Fin 8) {u j : Nat} (hs : s.Shaped) (hv : s.mppAtValley m = true) (hl : s.scanLast m = true)
    (hj : (s.mpp m).scan = some j) (hd : (s.mpp m).doneAt ≠ some s.count) (hu : (s.mpp m).prevValley = some u) (hle : 63 ≤ j)
    {best : Option (Word × Nat)} (hbest : ((s.mppGather m ((s.mpp m).taken u)).mpp m).bestAfter (s.scanVolt m j).toNat = best) :
    Completes (.mpptScanStep m) s fun t =>
      (t.mpp m).scan = none ∧ t.on (F.WVN_MPPm_STAT_SCAN m) = false ∧ s.sent t 0x4D ∧
      (∀ (q : Word) (v : Nat), best = some (q, v) → (t.mpp m).vbest = toSingle (v : Rat) ∧
        ∀ d : Word, (s.mpp m).ditherMean = some d →
          ((singleRat d * (1 + (s.get (F.WVN_MPPm_SCAN_GAIN m) : Rat) / 1000) < singleRat q ∧ s.on (F.WVN_MPPm_CFG_HOLD m) = false →
            s.get (F.WVN_MPPm_VLIM_LO m) ≤ v → v ≤ s.get (F.WVN_MPPm_VLIM_HI m) →
            singleRat (t.mpp m).vref = singleRat (toSingle (v : Rat))) ∧
           (¬ (singleRat d * (1 + (s.get (F.WVN_MPPm_SCAN_GAIN m) : Rat) / 1000) < singleRat q ∧ s.on (F.WVN_MPPm_CFG_HOLD m) = false) →
            (t.mpp m).vref = (s.mpp m).vref))) ∧
      (best = none → (t.mpp m).vref = (s.mpp m).vref ∧ (t.mpp m).vbest = (s.mpp m).vbest) := by
  have hm : m < s.wvn.mpps.length := m.isLt.trans_eq hs.mpps.symm
  have hm' : m < (s.mppTaken m u).wvn.mpps.length := (mppTaken_work s m u).length ▸ hm
  have hm'' : m < ((s.mppTaken m u).stepJudged m j).wvn.mpps.length := (stepJudged_work (s.mppTaken m u) m j).length ▸ hm'
  obtain ⟨a, b, c, d, e, f, g, htaken⟩ := mppTaken_keeps s u hm
  obtain ⟨mean, hjudged⟩ := stepJudged_mpp (s.mppTaken m u) j hm'
  have hregs := (stepJudged_regs (s.mppTaken m u) m j).trans (mppTaken_regs s m u)
  rw [bestAfter_taken s u j hm, hbest, htaken] at hjudged
  have hwork := (mppTaken_work s m u).trans (stepJudged_work _ m j)
  have heq : (s.mppTaken m u).scanStep m j = ((s.mppTaken m u).stepJudged m j).scanEnd m := by
    rw [scanStep_eq, if_pos hle]
  generalize (s.mppTaken m u).stepJudged m j = w at *
  obtain ⟨hscan, hvref, hvbest⟩ := scanEnd_mpp w hm''
  have hmpp := mppMarked_mpp s ((scanEnd_work w m).length ▸ hm'')
  have hruns := hwork.coreRuns.trans (coreRuns_of_mppAtValley hv)
  refine ⟨_, rfl, ?_⟩
  rw [mpptScanStep_exec hm hv hl hj hd hu, heq]
  refine ⟨by rw [hmpp]; exact hscan, (mppMarked_on _ _ _ _ (by simp) (by simp)).trans (scanEnd_off w m),
    (sent_of_clk (scanEnd_sends w m hruns) hwork.clk).of_events (mppMarked_events ..), fun q v hq => ?_, fun hnone => ?_⟩
  · have hbest' : (w.mpp m).best = some (q, v) := by rw [hjudged]; exact hq
    have hmoves : ∀ d : Word, (s.mpp m).ditherMean = some d → (w.scanMoves m q ↔
        singleRat d * (1 + (s.get (F.WVN_MPPm_SCAN_GAIN m) : Rat) / 1000) < singleRat q ∧ s.on (F.WVN_MPPm_CFG_HOLD m) = false) := fun d hd => by
      have hdw : (w.mpp m).ditherMean = some d := by rw [hjudged]; exact hd
      simp only [scanMoves, hdw, Option.some.injEq, get_congr hregs, on_congr hregs, exists_eq_left']
    refine ⟨?_, fun d hd => ⟨fun hyes hlo hhi => ?_, fun hno => ?_⟩⟩
    · rw [hmpp]
      exact hvbest.trans (scanTaken_vbest hm'' hbest')
    · rw [hmpp]
      refine (congrArg singleRat hvref).trans ?_
      rw [scanTaken_moves hbest' ((hmoves d hd).mpr hyes)]
      exact scanTaken_vref hm'' (by rw [get_congr hregs]; exact hlo) (by rw [get_congr hregs]; exact hhi)
    · rw [hmpp]
      refine hvref.trans ?_
      rw [scanTaken_stays hbest' fun h => hno ((hmoves d hd).mp h), mpp_modMpp_same _ _ hm'', hjudged]
  · have htak := scanTaken_none (s := w) (m := m) (by rw [hjudged]; exact hnone)
    rw [hmpp]
    refine ⟨hvref.trans ?_, hvbest.trans ?_⟩ <;> rw [htak, hjudged]

end State

/-- Settles O17: each command's own lemma. -/
theorem maximumPowerPoint : Obligations.MaximumPowerPoint :=
  ⟨fun _ m _ h1 h2 h3 h4 h5 => State.mpptDitherEnd_gives m h1 h2 h3 h4 h5,
    fun _ m _ _ _ _ _ h1 h2 h3 h4 h5 h6 => State.mpptDitherEnd_moves m h1 h2 h3 h4 h5 h6,
    fun _ m _ h1 h2 h3 h4 h5 h6 h7 => State.mppPeriod_half m h1 h2 h3 h4 h5 h6 h7, fun s m => State.mppLatch_vref s m,
    fun _ _ m _ h1 h2 => State.mpptScanRequest_gives m h1 h2,
    fun _ m _ _ h1 h2 h3 h4 h5 h6 => ⟨fun hlt => State.mpptScanStep_next m h1 h2 h3 h4 h5 h6 hlt,
      fun hle => State.mpptScanStep_last m h1 h2 h3 h4 h5 h6 hle rfl⟩⟩

end Sys2Proof.Machine

/-! Legs and integrated drivers: what their shared operations leave alone, and what a block leaves (R175, R185, R194 to R199). -/

namespace Sys2Proof.Machine

set_option Elab.async false
namespace State

variable {s t u : State} {l n : Nat}

/-! ### Bits as fields -/

theorem bit_eq_on (s : State) (a i : Nat) : s.bit a i = s.on ⟨a, i, 1⟩ := rfl

theorem on_putBit_same (s : State) (a i : Nat) (b : Bool) (h : i + 1 ≤ 32) : (s.putBit a i b).on ⟨a, i, 1⟩ = b := on_putB_same _ ⟨a, i, 1⟩ b h Nat.one_pos

theorem on_putBit_other (s : State) (a i : Nat) (g : Fld) (b : Bool) (h : i + 1 ≤ 32) (hd : g.addr ≠ a ∨ g.lo + g.width ≤ i ∨ i + 1 ≤ g.lo) :
    (s.putBit a i b).on g = s.on g := on_put_other s ⟨a, i, 1⟩ g _ h hd

/-! ### One leg -/

theorem leg_congr (h : t.loom = s.loom) (l : Nat) : t.leg l = s.leg l := by rw [leg, h, leg]

theorem leg_modLeg_same (s : State) (f : LegSt → LegSt) (hl : l < s.loom.legs.length) : (s.modLeg l f).leg l = f (s.leg l) := nth_upd_same _ _ _ _ hl

theorem leg_modLeg_other (s : State) (f : LegSt → LegSt) {k : Nat} (hk : k ≠ l) : (s.modLeg l f).leg k = s.leg k := nth_upd_other _ _ _ _ _ hk.symm

/-- A change of a leg shows what it makes of every leg, or the power-up state of a leg that is not there. -/
theorem leg_modLeg_of (s : State) {f : LegSt → LegSt} {p : LegSt → Prop} (hf : p (f (s.leg l))) (h0 : p {}) : p ((s.modLeg l f).leg l) := by
  by_cases hl : l < s.loom.legs.length
  · rw [leg_modLeg_same s f hl]
    exact hf
  · have hlen : ¬ l < (s.modLeg l f).loom.legs.length := fun h => hl (h.trans_eq (length_upd ..))
    rw [leg, nth, List.getD_eq_default _ _ (not_lt.mp hlen)]
    exact h0

/-! ### Drivers (R194 to R199) -/

/-- The registers of driver `n` that its own state shows: its status, and the summary. -/
def gdRegs (n b : Nat) : Prop := b = R.GDP_GDn_STAT n ∨ b = R.GDP_STAT

theorem gdDrive_writes (s : State) (n : Nat) (on : Bool) : s.Writes (· = R.GDP_GDn_STAT n) (s.gdDrive n on) := by
  unfold gdDrive
  dsimp only
  exact .ite (.refl s) (.putBAt (f := F.GDP_GDn_STAT_GATE n) (.putBAt (f := F.GDP_GDn_STAT_OUT n) (.of_regs (by rfl))))

theorem gdDrive_moves (s : State) (n : Nat) (on : Bool) : Moves [.regs, .cycle, .gdp] s (s.gdDrive n on) := by
  unfold gdDrive
  dsimp only
  exact .ite (.refl s) (putB_moves (putB_moves (.record (.refl s) (by rfl)) _ _) _ _)

/-- The driver's output is what it is driven to. -/
theorem gdDrive_out (s : State) (n : Nat) (on : Bool) : (s.gdDrive n on).on (F.GDP_GDn_STAT_OUT n) = on := by
  unfold gdDrive
  dsimp only
  split
  next h => exact beq_iff_eq.mp h
  next => rw [on_putB_other _ _ _ _ (by simp) (.inr (by simp)), on_putB_same _ _ _ (by simp) (by simp)]

theorem gdDrive_other (s : State) (n : Nat) (on : Bool) {g : Fld} (hg : g.addr ≠ R.GDP_GDn_STAT n ∨ g.lo + g.width ≤ 1 ∨ 3 ≤ g.lo) :
    (s.gdDrive n on).get g = s.get g := by
  unfold gdDrive
  dsimp only
  split
  · rfl
  · rw [get_putB_other _ (F.GDP_GDn_STAT_GATE n) _ _ (by simp) (by rcases hg with h | h | h <;> simp <;> omega),
      get_putB_other _ (F.GDP_GDn_STAT_OUT n) _ _ (by simp) (by rcases hg with h | h | h <;> simp <;> omega)]
    exact get_congr rfl g

/-- The driver wants to be on: commanded, enabled, and not held. -/
def gdWants (s : State) (n : Nat) : Bool := s.gdCommand n && s.on (F.GDP_GDn_CFG_EN n) && !s.gdHeld n

/-- A high side that wants to turn on finds no gate supply (R197). -/
def gdLow (s : State) (n : Nat) : Bool :=
  decide (4 ≤ n) && s.gdWants n && !s.on (F.GDP_GDn_STAT_OUT n) && !bitAt (BitVec.ofNat 32 (s.get F.GDP_CP_OK)) (n - 4)

theorem gdRefresh_eq (s : State) (n : Nat) : s.gdRefresh n =
    (((if s.gdLow n then (s.putB (F.GDP_GDn_STAT_CMD n) (s.gdCommand n)).gdLatch n (F.GDP_GDn_STAT_CPLOW n)
      else s.putB (F.GDP_GDn_STAT_CMD n) (s.gdCommand n)).gdDrive n (s.gdWants n && !s.gdLow n)).putB (F.GDP_GDn_STAT_HELD n)
      ((if s.gdLow n then (s.putB (F.GDP_GDn_STAT_CMD n) (s.gdCommand n)).gdLatch n (F.GDP_GDn_STAT_CPLOW n)
        else s.putB (F.GDP_GDn_STAT_CMD n) (s.gdCommand n)).gdHeld n)) := rfl

/-- Without a missing supply a refresh sets the command, the output and HELD alone. -/
theorem gdRefresh_quiet (h : s.gdLow n = false) : s.gdRefresh n =
    (((s.putB (F.GDP_GDn_STAT_CMD n) (s.gdCommand n)).gdDrive n (s.gdWants n)).putB (F.GDP_GDn_STAT_HELD n)
      ((s.putB (F.GDP_GDn_STAT_CMD n) (s.gdCommand n)).gdHeld n)) := by
  rw [gdRefresh_eq, h, if_neg Bool.false_ne_true, Bool.not_false, Bool.and_true]

theorem gdLow_of_command (h : s.gdCommand n = false) : s.gdLow n = false := by simp [gdLow, gdWants, h]

theorem gdRefresh_quiet_writes (h : s.gdLow n = false) : s.Writes (· = R.GDP_GDn_STAT n) (s.gdRefresh n) := by
  rw [gdRefresh_quiet h]
  exact Writes.putBAt (f := F.GDP_GDn_STAT_HELD n) (Writes.trans (Writes.putBAt (f := F.GDP_GDn_STAT_CMD n) (.refl s)) (gdDrive_writes _ n _))

theorem gdRefresh_quiet_moves (h : s.gdLow n = false) : Moves [.regs, .cycle, .gdp] s (s.gdRefresh n) := by
  rw [gdRefresh_quiet h]
  exact putB_moves (Moves.trans (putB_moves (.refl s) _ _) (gdDrive_moves _ n _)) _ _

theorem gdLatch_writes (s : State) (n : Nat) {flag : Fld} (hf : flag.addr = R.GDP_GDn_STAT n) : s.Writes (gdRegs n) (s.gdLatch n flag) := by
  unfold gdLatch gdSummary
  dsimp only
  exact .ite (.refl s) (.log (.raise (.putB (.set1 (.refl s) (.inl hf)) (.inr rfl))))

theorem gdLatch_moves (s : State) (n : Nat) (flag : Fld) : Moves [.regs, .cycle, .rtc, .mram, .events, .stew, .draws] s (s.gdLatch n flag) := by
  unfold gdLatch gdSummary
  dsimp only
  exact .ite (.refl s) (.log (.raise (putB_moves (.put (.refl s)) _ _)))

theorem gdLatch_lasts (s : State) (n : Nat) (flag : Fld) : s.EventsLast (s.gdLatch n flag) := by
  unfold gdLatch gdSummary
  dsimp only
  exact .ite (.refl s) (.log (.raise (.same (.refl s) (by simp only [putB_events, set1_events])) _))

/-- A fault flag that is latched is set. -/
theorem gdLatch_on (s : State) (n : Nat) {flag : Fld} (hw : flag.width = 1) (hlo : flag.lo + flag.width ≤ 32) (hf : flag.addr ≠ R.GDP_STAT) :
    (s.gdLatch n flag).on flag = true := by
  unfold gdLatch gdSummary
  dsimp only
  split
  next h => exact h
  next =>
    rw [on_congr (log_regs ..), on_raise, on_putB_other _ _ _ _ (by simp) (.inl hf)]
    exact on_set1_same _ _ hlo (hw ▸ Nat.one_pos)

theorem gdRefresh_writes (s : State) (n : Nat) : s.Writes (gdRegs n) (s.gdRefresh n) := by
  have hcmd : s.Writes (gdRegs n) (s.putB (F.GDP_GDn_STAT_CMD n) (s.gdCommand n)) := .putB (.refl s) (.inl rfl)
  rw [gdRefresh_eq]
  exact .putB (Writes.trans (.ite (hcmd.trans (gdLatch_writes _ n rfl)) hcmd) ((gdDrive_writes _ n _).mono fun _ h => .inl h)) (.inl rfl)

theorem gdRefresh_moves (s : State) (n : Nat) : Moves [.regs, .cycle, .gdp, .rtc, .mram, .events, .stew, .draws] s (s.gdRefresh n) := by
  have hcmd : Moves [.regs, .cycle, .gdp, .rtc, .mram, .events, .stew, .draws] s (s.putB (F.GDP_GDn_STAT_CMD n) (s.gdCommand n)) :=
    putB_moves (.refl s) _ _
  rw [gdRefresh_eq]
  exact putB_moves (Moves.trans (.ite (hcmd.trans ((gdLatch_moves _ n _).mono (by decide))) hcmd) ((gdDrive_moves _ n _).mono (by decide))) _ _

theorem gdRefresh_lasts (s : State) (n : Nat) : s.EventsLast (s.gdRefresh n) := by
  have hcmd : s.EventsLast (s.putB (F.GDP_GDn_STAT_CMD n) (s.gdCommand n)) := EventsLast.same (.refl s) (putB_events ..)
  rw [gdRefresh_eq]
  refine EventsLast.same (EventsLast.same (.ite (hcmd.trans (gdLatch_lasts _ n _)) hcmd) (gdDrive_moves _ n _).events) (putB_events ..)

theorem gdRefreshAll_writes (s : State) : s.Writes (inBlock 7) s.gdRefreshAll :=
  Writes.forAll (.refl s) fun n u hn hu => hu.trans ((gdRefresh_writes u n).mono fun b hb => by
    simp only [gdRegs, inBlock, blockBase, R.GDP_GDn_STAT, R.GDP_STAT] at hb ⊢
    omega)

theorem gdRefreshAll_moves (s : State) : Moves [.regs, .cycle, .gdp, .rtc, .mram, .events, .stew, .draws] s s.gdRefreshAll :=
  Moves.forAll (.refl s) fun n u hu => hu.trans (gdRefresh_moves u n)

theorem gdRefreshAll_lasts (s : State) : s.EventsLast s.gdRefreshAll := EventsLast.forAll (.refl s) fun n u hu => hu.trans (gdRefresh_lasts u n)

/-- The drivers that follow a leg whose high side is off take no command. -/
theorem gdFollow_command (h : (s.leg l).outH = false) (hsrc : s.get (F.GDP_GDn_CFG_SRC n) = 2) (hleg : min 23 (s.get (F.GDP_GDn_CFG_LEG n)) = l) :
    s.gdCommand n = false := by
  unfold gdCommand
  rw [hsrc, hleg]
  exact h

theorem gdFollow_writes (s : State) (l : Nat) : s.Writes (inBlock 7) (s.gdFollow l) :=
  Writes.forAll (.refl s) fun n u hn hu => .ite (hu.trans ((gdRefresh_writes u n).mono fun b hb => by
    simp only [gdRegs, inBlock, blockBase, R.GDP_GDn_STAT, R.GDP_STAT] at hb ⊢
    omega)) hu

theorem gdFollow_moves (s : State) (l : Nat) : Moves [.regs, .cycle, .gdp, .rtc, .mram, .events, .stew, .draws] s (s.gdFollow l) :=
  Moves.forAll (.refl s) fun n u hu => .ite (hu.trans (gdRefresh_moves u n)) hu

theorem gdFollow_lasts (s : State) (l : Nat) : s.EventsLast (s.gdFollow l) :=
  EventsLast.forAll (.refl s) fun n u hu => .ite (hu.trans (gdRefresh_lasts u n)) hu

/-- The drivers of a leg whose high side is off follow it without a fault. -/
theorem gdFollow_quiet (h : (s.leg l).outH = false) : Moves [.regs, .cycle, .gdp] s (s.gdFollow l) := by
  unfold gdFollow
  refine Moves.forAll (.refl s) fun n u hu => ?_
  split
  next hn =>
    have hoff : (u.leg l).outH = false := by rw [leg_congr hu.loom]; exact h
    exact hu.trans (gdRefresh_quiet_moves (gdLow_of_command (gdFollow_command hoff hn.1 hn.2)))
  next => exact hu

end State
end Sys2Proof.Machine

/-! Legs at work: outputs, rests and blocks (R175, R183, R185, R186, R189). -/

namespace Sys2Proof.Machine

set_option Elab.async false
namespace State

variable {s t u : State} {l n : Nat} {cause : Cause}

/-- Leg `l` alone of the legs has worked; of the rest of the Loom only blanking windows and the delay lines' edges may have changed. -/
structure LegWork (s t : State) (l : Nat) : Prop where
  legs : ∃ f, t.loom.legs = upd s.loom.legs l f
  loom : ∃ ls ts es, t.loom = { s.loom with legs := ls, tls := ts, lineEdge := es }

namespace LegWork

theorem refl (s : State) (l : Nat) : s.LegWork s l := ⟨⟨fun x => x, by rw [upd_self]⟩, s.loom.legs, s.loom.tls, s.loom.lineEdge, rfl⟩

theorem trans (h : s.LegWork t l) (h' : t.LegWork u l) : s.LegWork u l := by
  obtain ⟨f, hf⟩ := h.legs
  obtain ⟨g, hg⟩ := h'.legs
  obtain ⟨a, b, c, hl⟩ := h.loom
  obtain ⟨a', b', c', hl'⟩ := h'.loom
  refine ⟨⟨fun x => g (f x), ?_⟩, a', b', c', ?_⟩
  · rw [hg, hf, upd_upd]
  · rw [hl', hl]

theorem same (h : s.LegWork t l) (hl : u.loom = t.loom) : s.LegWork u l := ⟨hl ▸ h.legs, hl ▸ h.loom⟩

theorem modLeg (h : s.LegWork t l) (f : LegSt → LegSt) : s.LegWork (t.modLeg l f) l :=
  h.trans ⟨⟨f, rfl⟩, _, t.loom.tls, t.loom.lineEdge, rfl⟩

theorem lines (h : s.LegWork t l) (hlegs : u.loom.legs = t.loom.legs) (hl : ∃ ts es, u.loom = { t.loom with tls := ts, lineEdge := es }) :
    s.LegWork u l := by
  obtain ⟨ts, es, hl⟩ := hl
  refine h.trans ⟨⟨fun x => x, by rw [upd_self, hlegs]⟩, t.loom.legs, ts, es, hl⟩

theorem ite {p : Prop} [Decidable p] (ht : s.LegWork t l) (hu : s.LegWork u l) : s.LegWork (if p then t else u) l := by
  split <;> assumption

theorem other (h : s.LegWork t l) {k : Nat} (hk : k ≠ l) : t.leg k = s.leg k := by
  obtain ⟨f, hf⟩ := h.legs
  rw [leg, hf]
  exact nth_upd_other _ _ _ _ _ hk.symm

theorem length (h : s.LegWork t l) : t.loom.legs.length = s.loom.legs.length := by
  obtain ⟨f, hf⟩ := h.legs
  rw [hf]
  exact length_upd ..

theorem cars (h : s.LegWork t l) : t.loom.cars = s.loom.cars := by
  obtain ⟨a, b, c, hl⟩ := h.loom
  rw [hl]

theorem trims (h : s.LegWork t l) : t.loom.trims = s.loom.trims := by
  obtain ⟨a, b, c, hl⟩ := h.loom
  rw [hl]

theorem ilkSeen (h : s.LegWork t l) : t.loom.ilkSeen = s.loom.ilkSeen := by
  obtain ⟨a, b, c, hl⟩ := h.loom
  rw [hl]

end LegWork

/-! ### Outputs (R175, R177, R189) -/

theorem openBlanking_moves (s : State) (l : Nat) : Moves [.loom] s (s.openBlanking l) :=
  Moves.forAll (.refl s) fun _ _ h => .ite (h.record (by rfl)) h

theorem openBlanking_loom (s : State) (l : Nat) : ∃ ts, (s.openBlanking l).loom = { s.loom with tls := ts } := by
  refine forAll_rec (p := fun _ u => ∃ ts, u.loom = { s.loom with tls := ts }) ⟨s.loom.tls, rfl⟩ fun k u _ hu => ?_
  obtain ⟨ts, h⟩ := hu
  split
  · exact ⟨upd u.loom.tls k _, by rw [modTl, h]⟩
  · exact ⟨ts, h⟩

theorem lineEdges_moves (s : State) (o : Nat) (b : Bool) : Moves [.loom] s (s.lineEdges o b) := by
  unfold lineEdges
  exact .ite (.record (.refl s) (by rfl)) (.refl s)

theorem lineEdges_loom (s : State) (o : Nat) (b : Bool) : ∃ es, (s.lineEdges o b).loom = { s.loom with lineEdge := es } := by
  unfold lineEdges
  split
  · exact ⟨_, rfl⟩
  · exact ⟨s.loom.lineEdge, rfl⟩

/-- The leg with its outputs given, before its blanking windows and its drivers follow. -/
def outsGiven (s : State) (l : Nat) (h lo : Bool) : State :=
  ((s.lineEdges (2 * l) ((s.leg l).outH != h)).lineEdges (2 * l + 1) ((s.leg l).outL != lo)).modLeg l (fun x => { x with outH := h, outL := lo })

/-- The leg with its outputs given and the blanking windows of their edges open. -/
def outsPlaced (s : State) (l : Nat) (h lo edge : Bool) : State :=
  if ((s.leg l).outH != h || (s.leg l).outL != lo) && edge then (s.outsGiven l h lo).openBlanking l else s.outsGiven l h lo

theorem setOuts_eq (s : State) (l : Nat) (h lo edge : Bool) : s.setOuts l h lo edge =
    if (s.leg l).outH != h || (s.leg l).outL != lo then (s.outsPlaced l h lo edge).gdFollow l else s.outsPlaced l h lo edge := rfl

theorem lineEdges_legs (s : State) (o : Nat) (b : Bool) : (s.lineEdges o b).loom.legs = s.loom.legs := by
  obtain ⟨es, h⟩ := lineEdges_loom s o b
  rw [h]

theorem outsGiven_moves (s : State) (l : Nat) (h lo : Bool) : Moves [.loom] s (s.outsGiven l h lo) :=
  Moves.record (Moves.trans (lineEdges_moves s _ _) (lineEdges_moves _ _ _)) (by rfl)

theorem outsPlaced_moves (s : State) (l : Nat) (h lo edge : Bool) : Moves [.loom] s (s.outsPlaced l h lo edge) := by
  unfold outsPlaced
  exact .ite ((outsGiven_moves s l h lo).trans (openBlanking_moves _ l)) (outsGiven_moves s l h lo)

theorem outsGiven_work (s : State) (l : Nat) (h lo : Bool) : s.LegWork (s.outsGiven l h lo) l := by
  refine LegWork.modLeg ?_ _
  have hline (v : State) (o : Nat) (b : Bool) : v.LegWork (v.lineEdges o b) l := by
    obtain ⟨es, he⟩ := lineEdges_loom v o b
    exact (LegWork.refl v l).lines (lineEdges_legs v o b) ⟨v.loom.tls, es, he⟩
  exact (hline s _ _).trans (hline _ _ _)

theorem outsGiven_leg (s : State) (h lo : Bool) (hl : l < s.loom.legs.length) :
    (s.outsGiven l h lo).leg l = { s.leg l with outH := h, outL := lo } := by
  have hleg : ((s.lineEdges (2 * l) ((s.leg l).outH != h)).lineEdges (2 * l + 1) ((s.leg l).outL != lo)).loom.legs = s.loom.legs := by
    rw [lineEdges_legs, lineEdges_legs]
  rw [outsGiven, leg_modLeg_same _ _ (hleg ▸ hl), leg, hleg, leg]

theorem outsGiven_off (s : State) (l : Nat) : ((s.outsGiven l false false).leg l).outH = false ∧ ((s.outsGiven l false false).leg l).outL = false :=
  leg_modLeg_of _ (p := fun x => x.outH = false ∧ x.outL = false) ⟨rfl, rfl⟩ ⟨rfl, rfl⟩

theorem openBlanking_work (s : State) (l : Nat) : s.LegWork (s.openBlanking l) l := by
  obtain ⟨ts, h⟩ := openBlanking_loom s l
  exact (LegWork.refl s l).lines (by rw [h]) ⟨ts, s.loom.lineEdge, h⟩

theorem openBlanking_legs (s : State) (l : Nat) : (s.openBlanking l).loom.legs = s.loom.legs := by
  obtain ⟨ts, h⟩ := openBlanking_loom s l
  rw [h]

theorem outsPlaced_legs (s : State) (l : Nat) (h lo edge : Bool) : (s.outsPlaced l h lo edge).loom.legs = (s.outsGiven l h lo).loom.legs := by
  unfold outsPlaced
  split
  · exact openBlanking_legs _ l
  · rfl

theorem leg_of_legs (h : t.loom.legs = s.loom.legs) (l : Nat) : t.leg l = s.leg l := by rw [leg, h, leg]

theorem outsPlaced_work (s : State) (l : Nat) (h lo edge : Bool) : s.LegWork (s.outsPlaced l h lo edge) l := by
  unfold outsPlaced
  exact .ite ((outsGiven_work s l h lo).trans (openBlanking_work _ l)) (outsGiven_work s l h lo)

theorem setOuts_work (s : State) (l : Nat) (h lo edge : Bool) : s.LegWork (s.setOuts l h lo edge) l := by
  rw [setOuts_eq]
  exact .ite ((outsPlaced_work s l h lo edge).same (gdFollow_moves _ l).loom) (outsPlaced_work s l h lo edge)

theorem setOuts_legs (s : State) (l : Nat) (h lo edge : Bool) : (s.setOuts l h lo edge).loom.legs = (s.outsGiven l h lo).loom.legs := by
  rw [setOuts_eq]
  split
  · rw [(gdFollow_moves _ l).loom, outsPlaced_legs]
  · exact outsPlaced_legs s l h lo edge

theorem setOuts_leg (s : State) (h lo edge : Bool) (hl : l < s.loom.legs.length) :
    (s.setOuts l h lo edge).leg l = { s.leg l with outH := h, outL := lo } :=
  (leg_of_legs (setOuts_legs s l h lo edge) l).trans (outsGiven_leg s h lo hl)

theorem setOuts_off (s : State) (l : Nat) (edge : Bool) :
    ((s.setOuts l false false edge).leg l).outH = false ∧ ((s.setOuts l false false edge).leg l).outL = false := by
  rw [leg_of_legs (setOuts_legs s l false false edge) l]
  exact outsGiven_off s l

theorem setOuts_writes (s : State) (l : Nat) (h lo edge : Bool) : s.Writes (inBlock 7) (s.setOuts l h lo edge) := by
  have hplaced : s.Writes (inBlock 7) (s.outsPlaced l h lo edge) := .of_regs (outsPlaced_moves s l h lo edge).regs
  rw [setOuts_eq]
  exact .ite (hplaced.trans (gdFollow_writes _ l)) hplaced

theorem setOuts_moves (s : State) (l : Nat) (h lo edge : Bool) :
    Moves [.regs, .cycle, .loom, .gdp, .rtc, .mram, .events, .stew, .draws] s (s.setOuts l h lo edge) := by
  have hplaced := (outsPlaced_moves s l h lo edge).mono (G := [.regs, .cycle, .loom, .gdp, .rtc, .mram, .events, .stew, .draws]) (by decide)
  rw [setOuts_eq]
  exact .ite (hplaced.trans ((gdFollow_moves _ l).mono (by decide))) hplaced

theorem setOuts_lasts (s : State) (l : Nat) (h lo edge : Bool) : s.EventsLast (s.setOuts l h lo edge) := by
  have hplaced : s.EventsLast (s.outsPlaced l h lo edge) := EventsLast.same (.refl s) (outsPlaced_moves s l h lo edge).events
  rw [setOuts_eq]
  exact .ite (hplaced.trans (gdFollow_lasts _ l)) hplaced

/-- Where the high side goes off or stays off, the drivers follow without a fault. -/
theorem setOuts_quiet (s : State) (l : Nat) (lo edge : Bool) : Moves [.regs, .cycle, .loom, .gdp] s (s.setOuts l false lo edge) := by
  have hplaced := (outsPlaced_moves s l false lo edge).mono (G := [.regs, .cycle, .loom, .gdp]) (by decide)
  have hoff : ((s.outsPlaced l false lo edge).leg l).outH = false := by
    rw [leg_of_legs (outsPlaced_legs s l false lo edge)]
    exact leg_modLeg_of _ (p := fun x => x.outH = false) rfl rfl
  rw [setOuts_eq]
  exact .ite (hplaced.trans ((gdFollow_quiet hoff).mono (by decide))) hplaced

/-! ### Rests and blocks (R183, R185, R186) -/

theorem restLeg_work (s : State) (l : Nat) (edge : Bool) : s.LegWork (s.restLeg l edge) l := (setOuts_work s l false false edge).modLeg _

theorem restLeg_writes (s : State) (l : Nat) (edge : Bool) : s.Writes (inBlock 7) (s.restLeg l edge) := (setOuts_writes s l false false edge).regs rfl

theorem restLeg_moves (s : State) (l : Nat) (edge : Bool) : Moves [.regs, .cycle, .loom, .gdp] s (s.restLeg l edge) :=
  (setOuts_quiet s l false edge).record (by rfl)

theorem restLeg_off (s : State) (l : Nat) (edge : Bool) : ((s.restLeg l edge).leg l).outH = false ∧ ((s.restLeg l edge).leg l).outL = false :=
  leg_modLeg_of _ (p := fun x => x.outH = false ∧ x.outL = false) (setOuts_off s l edge) ⟨rfl, rfl⟩

theorem clearCarries_work (h : u.LegWork s l) : u.LegWork (s.clearCarries l) l :=
  (h.modLeg (fun x => { x with carryH := 0, carryL := 0 })).same ((clr_loom ..).trans (clr_loom ..))

theorem clearCarries_writes (s : State) (l : Nat) : s.Writes (· = R.LOOM_LEGl_STAT l) (s.clearCarries l) :=
  .clrAt (f := F.LOOM_LEGl_STAT_CARRY_L l) (.clrAt (f := F.LOOM_LEGl_STAT_CARRY_H l) (.of_regs (by rfl)))

theorem clearCarries_moves (s : State) (l : Nat) : Moves [.regs, .cycle, .loom] s (s.clearCarries l) :=
  .put (.put (.record (.refl s) (by rfl)))

theorem clearCarries_off (s : State) (l : Nat) (h : (s.leg l).outH = false ∧ (s.leg l).outL = false) :
    ((s.clearCarries l).leg l).outH = false ∧ ((s.clearCarries l).leg l).outL = false := by
  rw [clearCarries, leg_congr ((clr_loom ..).trans (clr_loom ..))]
  exact leg_modLeg_of s (p := fun x => x.outH = false ∧ x.outL = false) h ⟨rfl, rfl⟩

theorem clearCarries_on (s : State) (l : Nat) {g : Fld} (hg : g.addr ≠ R.LOOM_LEGl_STAT l ∨ g.lo + g.width ≤ 13) : (s.clearCarries l).on g = s.on g := by
  unfold clearCarries
  rw [on_clr_other _ (F.LOOM_LEGl_STAT_CARRY_L l) g (by simp) (by rcases hg with h | h <;> simp <;> omega),
    on_clr_other _ (F.LOOM_LEGl_STAT_CARRY_H l) g (by simp) (by rcases hg with h | h <;> simp <;> omega)]
  exact on_congr rfl g

/-- The causes stand in the leg's status with BLOCKED, and in the summary. -/
def causeShown (s : State) (cause : Cause) (l : Nat) : State :=
  let t := (s.putBit (R.LOOM_LEGl_STAT l) cause.bit true).set1 (F.LOOM_LEGl_STAT_BLOCKED l)
  let t := (t.clr (F.LOOM_LEGl_STAT_PENDING l)).putBit R.LOOM_STAT l true
  if cause = .interlock then t.set1 F.LOOM_STAT_ILK_ANY else t

theorem blockLeg_eq (s : State) (cause : Cause) (l : Nat) : s.blockLeg cause l =
    if !s.bit (R.LOOM_LEGl_STAT l) cause.bit then
      (((s.causeShown cause l).restLeg l false).clearCarries l).raise (0x18 + (((s.causeShown cause l).restLeg l false).clearCarries l).legCar l)
    else ((s.causeShown cause l).restLeg l false).clearCarries l := rfl

/-- The registers of a block of leg `l`: its status, the summary, and the drivers'. -/
def blockRegs (l b : Nat) : Prop := b = R.LOOM_LEGl_STAT l ∨ b = R.LOOM_STAT ∨ inBlock 7 b

theorem causeShown_writes (s : State) (cause : Cause) (l : Nat) : s.Writes (blockRegs l) (s.causeShown cause l) := by
  have h : s.Writes (blockRegs l) ((((s.putBit (R.LOOM_LEGl_STAT l) cause.bit true).set1 (F.LOOM_LEGl_STAT_BLOCKED l)).clr
      (F.LOOM_LEGl_STAT_PENDING l)).putBit R.LOOM_STAT l true) :=
    .putBit (.clr (.set1 (.putBit (.refl s) (.inl rfl)) (.inl rfl)) (.inl rfl)) (.inr (.inl rfl))
  unfold causeShown
  dsimp only
  exact .ite (h.set1 (.inr (.inl rfl))) h

theorem causeShown_moves (s : State) (cause : Cause) (l : Nat) : Moves [.regs, .cycle] s (s.causeShown cause l) := by
  unfold causeShown
  dsimp only
  exact .ite (.put (.put (.put (.put (.put (.refl s)))))) (.put (.put (.put (.put (.refl s)))))

theorem causeBit_bounds (cause : Cause) : 1 ≤ cause.bit ∧ cause.bit ≤ 10 := by cases cause <;> decide

theorem STAT_ne_LOOM_STAT (l : Nat) : R.LOOM_LEGl_STAT l ≠ R.LOOM_STAT := by simp only [R.LOOM_LEGl_STAT, R.LOOM_STAT]; omega

/-- The part of a cause beside the leg's own status leaves the status alone. -/
theorem causeShown_rd (s : State) (cause : Cause) (l : Nat) : (s.causeShown cause l).rd (R.LOOM_LEGl_STAT l) =
    (((s.putBit (R.LOOM_LEGl_STAT l) cause.bit true).set1 (F.LOOM_LEGl_STAT_BLOCKED l)).clr (F.LOOM_LEGl_STAT_PENDING l)).rd (R.LOOM_LEGl_STAT l) := by
  unfold causeShown
  dsimp only
  split
  · rw [set1, rd_put_other _ F.LOOM_STAT_ILK_ANY _ _ (STAT_ne_LOOM_STAT l), rd_putBit_other _ _ _ (STAT_ne_LOOM_STAT l)]
  · rw [rd_putBit_other _ _ _ (STAT_ne_LOOM_STAT l)]

theorem causeShown_on (s : State) (cause : Cause) (l : Nat) : (s.causeShown cause l).on (F.LOOM_LEGl_STAT_BLOCKED l) = true ∧
    (s.causeShown cause l).bit (R.LOOM_LEGl_STAT l) cause.bit = true ∧ (s.causeShown cause l).on (F.LOOM_LEGl_STAT_PENDING l) = false := by
  obtain ⟨h1, h10⟩ := causeBit_bounds cause
  refine ⟨(on_of_rd (f := F.LOOM_LEGl_STAT_BLOCKED l) (causeShown_rd s cause l)).trans ?_, ?_,
    (on_of_rd (f := F.LOOM_LEGl_STAT_PENDING l) (causeShown_rd s cause l)).trans (on_clr_same _ _ (by simp))⟩
  · rw [on_clr_other _ (F.LOOM_LEGl_STAT_PENDING l) _ (by simp) (.inr (by simp))]
    exact on_set1_same _ _ (by simp) (by simp)
  · rw [bit_eq_on, on_of_rd (f := ⟨R.LOOM_LEGl_STAT l, cause.bit, 1⟩) (causeShown_rd s cause l),
      on_clr_other _ (F.LOOM_LEGl_STAT_PENDING l) _ (by simp) (.inr (.inl (by simp; omega))),
      on_set1_other _ (F.LOOM_LEGl_STAT_BLOCKED l) _ (by simp) (.inr (.inr (by simp; omega)))]
    exact on_putBit_same _ _ _ _ (by omega)

/-- The blocked leg before its event. -/
def blockedLeg (s : State) (cause : Cause) (l : Nat) : State := ((s.causeShown cause l).restLeg l false).clearCarries l

theorem blockedLeg_writes (s : State) (cause : Cause) (l : Nat) : s.Writes (blockRegs l) (s.blockedLeg cause l) :=
  ((causeShown_writes s cause l).trans ((restLeg_writes _ l false).mono fun _ h => .inr (.inr h))).trans
    ((clearCarries_writes _ l).mono fun _ h => .inl h)

theorem blockedLeg_moves (s : State) (cause : Cause) (l : Nat) : Moves [.regs, .cycle, .loom, .gdp] s (s.blockedLeg cause l) :=
  (((causeShown_moves s cause l).mono (by decide)).trans (restLeg_moves _ l false)).trans ((clearCarries_moves _ l).mono (by decide))

theorem blockedLeg_work (s : State) (cause : Cause) (l : Nat) : s.LegWork (s.blockedLeg cause l) l :=
  clearCarries_work ((LegWork.same (.refl s l) (causeShown_moves s cause l).loom).trans (restLeg_work _ l false))

theorem STAT_not_block7 (hl : l < 24) : ¬ inBlock 7 (R.LOOM_LEGl_STAT l) :=
  not_inBlock_of_lt (by simp only [blockBase, R.LOOM_LEGl_STAT]; omega)

theorem blockedLeg_on (s : State) (cause : Cause) (hl : l < 24) {g : Fld} (ha : g.addr = R.LOOM_LEGl_STAT l) (hg : g.lo + g.width ≤ 13) :
    (s.blockedLeg cause l).on g = (s.causeShown cause l).on g := by
  rw [blockedLeg, clearCarries_on _ _ (.inr hg)]
  exact (restLeg_writes _ l false).on (ha ▸ STAT_not_block7 hl)

theorem blockedLeg_off (s : State) (cause : Cause) (l : Nat) : ((s.blockedLeg cause l).leg l).outH = false ∧ ((s.blockedLeg cause l).leg l).outL = false :=
  clearCarries_off _ l (restLeg_off _ l false)

theorem blockLeg_cases {p : State → Prop} (h : p (s.blockedLeg cause l)) (hr : ∀ n, p ((s.blockedLeg cause l).raise n)) : p (s.blockLeg cause l) := by
  rw [blockLeg_eq]
  split
  · exact hr _
  · exact h

theorem blockLeg_writes (s : State) (cause : Cause) (l : Nat) : s.Writes (blockRegs l) (s.blockLeg cause l) :=
  blockLeg_cases (p := fun u => s.Writes (blockRegs l) u) (blockedLeg_writes s cause l) fun _ => (blockedLeg_writes s cause l).raise

theorem blockLeg_moves (s : State) (cause : Cause) (l : Nat) : Moves [.regs, .cycle, .loom, .gdp, .events, .stew] s (s.blockLeg cause l) :=
  blockLeg_cases ((blockedLeg_moves s cause l).mono (by decide)) fun _ => Moves.raise ((blockedLeg_moves s cause l).mono (by decide))

theorem blockLeg_lasts (s : State) (cause : Cause) (l : Nat) : s.EventsLast (s.blockLeg cause l) :=
  have h : s.EventsLast (s.blockedLeg cause l) := EventsLast.same (.refl s) (blockedLeg_moves s cause l).events
  blockLeg_cases h fun n => h.raise n

theorem blockLeg_work (s : State) (cause : Cause) (l : Nat) : s.LegWork (s.blockLeg cause l) l :=
  blockLeg_cases (p := fun u => s.LegWork u l) (blockedLeg_work s cause l) fun _ => (blockedLeg_work s cause l).same (raise_loom ..)

/-- Leg `l` is blocked by a cause, with both outputs off. -/
structure Blocked (t : State) (cause : Cause) (l : Nat) : Prop where
  blocked : t.on (F.LOOM_LEGl_STAT_BLOCKED l) = true
  cause : t.bit (R.LOOM_LEGl_STAT l) cause.bit = true
  outH : (t.leg l).outH = false
  outL : (t.leg l).outL = false

theorem Blocked.same (h : t.Blocked cause l) (hrd : u.rd (R.LOOM_LEGl_STAT l) = t.rd (R.LOOM_LEGl_STAT l)) (hleg : u.leg l = t.leg l) :
    u.Blocked cause l :=
  ⟨(on_of_rd (f := F.LOOM_LEGl_STAT_BLOCKED l) hrd).trans h.blocked, (bit_congr hrd).trans h.cause, hleg ▸ h.outH, hleg ▸ h.outL⟩

theorem blockLeg_blocked (s : State) (cause : Cause) (hl : l < 24) : (s.blockLeg cause l).Blocked cause l := by
  obtain ⟨hb, hc, -⟩ := causeShown_on s cause l
  obtain ⟨hH, hL⟩ := blockedLeg_off s cause l
  have h10 := (causeBit_bounds cause).2
  have h : (s.blockedLeg cause l).Blocked cause l :=
    ⟨(blockedLeg_on s cause hl rfl (by simp)).trans hb, (blockedLeg_on s cause (g := ⟨R.LOOM_LEGl_STAT l, cause.bit, 1⟩) hl rfl (by simp; omega)).trans hc, hH, hL⟩
  exact blockLeg_cases (p := fun u => u.Blocked cause l) h fun n => h.same (rd_raise ..) (leg_congr (raise_loom ..) l)

theorem STAT_not_blockRegs {k : Nat} (hl : l < 24) (hk : k ≠ l) : ¬ blockRegs k (R.LOOM_LEGl_STAT l) := by
  rintro (h | h | h)
  · simp only [R.LOOM_LEGl_STAT] at h
    omega
  · exact STAT_ne_LOOM_STAT l h
  · exact STAT_not_block7 hl h

/-- A block of another leg leaves a leg and its status alone. -/
theorem blockLeg_other (s : State) (cause : Cause) {k : Nat} (hl : l < 24) (hk : k ≠ l) :
    (s.blockLeg cause k).rd (R.LOOM_LEGl_STAT l) = s.rd (R.LOOM_LEGl_STAT l) ∧ (s.blockLeg cause k).leg l = s.leg l :=
  ⟨(blockLeg_writes s cause k).rd (STAT_not_blockRegs hl hk), (blockLeg_work s cause k).other hk.symm⟩

theorem blockLegs_in (s : State) (cause : Cause) {mask : Nat} (hl : l < 24) (hm : mask.testBit l = true) : (s.blockLegs cause mask).Blocked cause l := by
  refine forAll_at (fun u => u.Blocked cause l) (fun _ => True) trivial (fun _ _ _ _ => trivial) (fun u _ => ?_) (fun k u hk _ hu => ?_) hl
  · rw [if_pos hm]
    exact blockLeg_blocked u cause hl
  · split
    · obtain ⟨hrd, hleg⟩ := blockLeg_other u cause hl hk
      exact hu.same hrd hleg
    · exact hu

theorem blockLegs_out (s : State) (cause : Cause) {mask : Nat} (hl : l < 24) (hm : mask.testBit l = false) :
    (s.blockLegs cause mask).rd (R.LOOM_LEGl_STAT l) = s.rd (R.LOOM_LEGl_STAT l) ∧ (s.blockLegs cause mask).leg l = s.leg l := by
  refine forAll_rec (p := fun _ u => u.rd (R.LOOM_LEGl_STAT l) = s.rd (R.LOOM_LEGl_STAT l) ∧ u.leg l = s.leg l) ⟨rfl, rfl⟩ fun k u _ hu => ?_
  split
  next hk =>
    have hne : k ≠ l := fun h => by
      rw [h, hm] at hk
      exact Bool.false_ne_true hk
    obtain ⟨hrd, hleg⟩ := blockLeg_other u cause hl hne
    exact ⟨hrd.trans hu.1, hleg.trans hu.2⟩
  next => exact hu

/-- The registers of the Loom and of the gate drive. -/
def driveBlocks (b : Nat) : Prop := inBlock 6 b ∨ inBlock 7 b

theorem blockRegs_drive (hl : l < 24) {b : Nat} (h : blockRegs l b) : driveBlocks b := by
  rcases h with rfl | rfl | h
  · exact .inl (by simp only [inBlock, blockBase, R.LOOM_LEGl_STAT]; omega)
  · exact .inl (by simp only [inBlock, blockBase, R.LOOM_STAT]; omega)
  · exact .inr h

theorem blockLegs_writes (s : State) (cause : Cause) (mask : Nat) : s.Writes (fun b => ∃ l < 24, blockRegs l b) (s.blockLegs cause mask) :=
  Writes.forAll (.refl s) fun l u hl hu => .ite (hu.trans ((blockLeg_writes u cause l).mono fun _ hb => ⟨l, hl, hb⟩)) hu

theorem blockLegs_moves (s : State) (cause : Cause) (mask : Nat) : Moves [.regs, .cycle, .loom, .gdp, .events, .stew] s (s.blockLegs cause mask) :=
  Moves.forAll (.refl s) fun l u hu => .ite (hu.trans (blockLeg_moves u cause l)) hu

theorem blockLegs_lasts (s : State) (cause : Cause) (mask : Nat) : s.EventsLast (s.blockLegs cause mask) :=
  EventsLast.forAll (.refl s) fun l u hu => .ite (hu.trans (blockLeg_lasts u cause l)) hu

end State
end Sys2Proof.Machine

/-! Trip lines, delay lines and the interlock (R177, R187 to R189). -/

namespace Sys2Proof.Machine

set_option Elab.async false
namespace State

variable {s t u : State} {l n k : Nat} {cause : Cause}

/-! ### A block leaves the trip lines as they are -/

theorem setOuts_tls (s : State) (l : Nat) (h lo : Bool) : (s.setOuts l h lo false).loom.tls = s.loom.tls := by
  have hplaced : (s.outsPlaced l h lo false).loom.tls = s.loom.tls := by
    obtain ⟨es, he⟩ := lineEdges_loom (s.lineEdges (2 * l) ((s.leg l).outH != h)) (2 * l + 1) ((s.leg l).outL != lo)
    obtain ⟨es', he'⟩ := lineEdges_loom s (2 * l) ((s.leg l).outH != h)
    rw [outsPlaced, Bool.and_false, if_neg Bool.false_ne_true, outsGiven, State.modLeg]
    simp only [he, he']
  rw [setOuts_eq]
  split
  · rw [(gdFollow_moves _ l).loom, hplaced]
  · exact hplaced

theorem blockLeg_tls (s : State) (cause : Cause) (l : Nat) : (s.blockLeg cause l).loom.tls = s.loom.tls := by
  have h : (s.blockedLeg cause l).loom.tls = s.loom.tls := by
    rw [blockedLeg, clearCarries, clr_loom, clr_loom, State.modLeg, restLeg, State.modLeg]
    exact (setOuts_tls _ l false false).trans (congrArg Loom.tls (causeShown_moves s cause l).loom)
  exact blockLeg_cases (p := fun u => u.loom.tls = s.loom.tls) h fun n => by rw [raise_loom, h]

theorem blockLegs_tls (s : State) (cause : Cause) (mask : Nat) : (s.blockLegs cause mask).loom.tls = s.loom.tls :=
  forAll_rec (p := fun _ u => u.loom.tls = s.loom.tls) rfl fun l u _ hu => by
    split
    · rw [blockLeg_tls, hu]
    · exact hu

/-! ### Trip lines (R188, R189) -/

theorem tl_congr (h : t.loom.tls = s.loom.tls) (k : Nat) : t.tl k = s.tl k := by rw [tl, h, tl]

theorem tl_modTl_same (s : State) (f : TlSt → TlSt) (hk : k < s.loom.tls.length) : (s.modTl k f).tl k = f (s.tl k) := nth_upd_same _ _ _ _ hk

theorem tlBlock_loom (s : State) (k : Nat) : (s.tlBlock k).loom = (s.blockLegs .tl (s.nowGet (F.LOOM_TLk_MASK_LEGS k))).loom := rfl

theorem tlBlock_clk (s : State) (k : Nat) : (s.tlBlock k).clk = s.clk := (blockLegs_moves s .tl (s.nowGet (F.LOOM_TLk_MASK_LEGS k))).clk

theorem tlBlock_tl (s : State) (k i : Nat) : (s.tlBlock k).tl i = s.tl i := tl_congr (blockLegs_tls s .tl (s.nowGet (F.LOOM_TLk_MASK_LEGS k))) i

theorem TLSTAT_ne_STAT (k : Nat) (hl : l < 24) : R.LOOM_LEGl_STAT l ≠ R.LOOM_TLk_STAT k := by
  simp only [R.LOOM_LEGl_STAT, R.LOOM_TLk_STAT]
  omega

/-- What the line's own status shows of a block beside the blocked legs. -/
theorem tlBlock_rd (s : State) (k : Nat) {b : Nat} (hb : b ≠ R.LOOM_TLk_STAT k) :
    (s.tlBlock k).rd b = (s.blockLegs .tl (s.nowGet (F.LOOM_TLk_MASK_LEGS k))).rd b := by
  rw [tlBlock, incS, rd_put_other _ (F.LOOM_TLk_STAT_HITS k) _ _ hb, set1, rd_put_other _ (F.LOOM_TLk_STAT_HIT k) _ _ hb]

/-- A line's status is no register of a blocked leg. -/
theorem TLSTAT_free (hk : k < 16) : ¬ ∃ l < 24, blockRegs l (R.LOOM_TLk_STAT k) := by
  rintro ⟨l, hl, h | h | h⟩
  · exact TLSTAT_ne_STAT k hl h.symm
  · simp only [R.LOOM_TLk_STAT, R.LOOM_STAT] at h
    omega
  · exact not_inBlock_of_lt (by simp only [blockBase, R.LOOM_TLk_STAT]; omega) h

theorem tlBlock_hit (s : State) (k : Nat) : (s.tlBlock k).on (F.LOOM_TLk_STAT_HIT k) = true := by
  rw [tlBlock, incS, on_put_other _ (F.LOOM_TLk_STAT_HITS k) _ _ (by simp) (.inr (by simp))]
  exact on_set1_same _ _ (by simp) (by simp)

theorem tlBlock_live (s : State) (hk : k < 16) : (s.tlBlock k).on (F.LOOM_TLk_STAT_LIVE k) = s.on (F.LOOM_TLk_STAT_LIVE k) := by
  rw [tlBlock, incS, on_put_other _ (F.LOOM_TLk_STAT_HITS k) _ _ (by simp) (.inr (by simp)),
    on_set1_other _ (F.LOOM_TLk_STAT_HIT k) _ (by simp) (.inr (by simp))]
  exact (blockLegs_writes s _ _).on (TLSTAT_free hk)

theorem tlBlock_in (s : State) (k : Nat) (hl : l < 24) (hm : (s.nowGet (F.LOOM_TLk_MASK_LEGS k)).testBit l = true) : (s.tlBlock k).Blocked .tl l :=
  (blockLegs_in s .tl hl hm).same (tlBlock_rd s k (TLSTAT_ne_STAT k hl)) (leg_congr (tlBlock_loom s k) l)

theorem tlBlock_out (s : State) (k : Nat) (hl : l < 24) (hm : (s.nowGet (F.LOOM_TLk_MASK_LEGS k)).testBit l = false) : (s.tlBlock k).leg l = s.leg l :=
  (leg_congr (tlBlock_loom s k) l).trans (blockLegs_out s .tl hl hm).2

/-- The line as the pin or the window gives it now: asserted lines 8 to 11 are those of the pins. -/
def tlSeen (s : State) (k : Nat) (on : Bool) : State := if k < 12 then s.modTl k (fun x => { x with input := on, level := on == s.tlHigh k }) else s

theorem tlSeen_regs (s : State) (k : Nat) (on : Bool) : (s.tlSeen k on).regs = s.regs := by unfold tlSeen; split <;> rfl
theorem tlSeen_cycle (s : State) (k : Nat) (on : Bool) : (s.tlSeen k on).cycle = s.cycle := by unfold tlSeen; split <;> rfl
theorem tlSeen_clk (s : State) (k : Nat) (on : Bool) : (s.tlSeen k on).clk = s.clk := by unfold tlSeen; split <;> rfl
theorem tlSeen_sys (s : State) (k : Nat) (on : Bool) : (s.tlSeen k on).sys = s.sys := by unfold tlSeen; split <;> rfl
theorem tlSeen_legs (s : State) (k : Nat) (on : Bool) : (s.tlSeen k on).loom.legs = s.loom.legs := by unfold tlSeen; split <;> rfl
theorem tlSeen_length (s : State) (k : Nat) (on : Bool) : (s.tlSeen k on).loom.tls.length = s.loom.tls.length := by
  unfold tlSeen
  split
  · exact length_upd ..
  · rfl

theorem tlSeen_tl (s : State) (k : Nat) (on : Bool) (hk : k < s.loom.tls.length) (hin : k < 12 ∨ (s.tl k).input = on) :
    ((s.tlSeen k on).tl k).input = on ∧ ((s.tlSeen k on).tl k).since = (s.tl k).since ∧
      ((s.tlSeen k on).tl k).blankEnd = (s.tl k).blankEnd ∧ ((s.tlSeen k on).tl k).acted = (s.tl k).acted := by
  unfold tlSeen
  split
  · rw [tl_modTl_same s _ hk]
    exact ⟨rfl, rfl, rfl, rfl⟩
  next h => exact ⟨hin.resolve_left h, rfl, rfl, rfl⟩

theorem tripLine_eq (s : State) (k : Nat) (on : Bool) : s.tripLine k on =
    if on then
      if (s.tlSeen k on).coreRuns && (s.tlSeen k on).nowOn (F.LOOM_TLk_CFG_EN k) && !(s.tlSeen k on).on (F.LOOM_TLk_STAT_LIVE k) &&
          (s.tlSeen k on).due (((s.tlSeen k on).tl k).since + (s.tlSeen k on).nowGet (F.LOOM_TLk_CFG_FILT k) + 1) && ((s.tlSeen k on).tl k).input then
        (s.tlSeen k on).tlAct k
      else s.tlSeen k on
    else if k < 12 then (s.tlSeen k on).tlRest k else s.tlSeen k on := rfl

theorem nowRd_of_now (hr : t.regs = s.regs) (hc : t.cycle = s.cycle) (a : Nat) : t.nowRd a = s.nowRd a := by rw [nowRd, nowRd, hc, rd_congr hr]

theorem nowGet_of_now (hr : t.regs = s.regs) (hc : t.cycle = s.cycle) (f : Fld) : t.nowGet f = s.nowGet f := by
  rw [nowGet, nowGet, nowRd_of_now hr hc]

theorem nowOn_of_now (hr : t.regs = s.regs) (hc : t.cycle = s.cycle) (f : Fld) : t.nowOn f = s.nowOn f := by rw [nowOn, nowOn, nowGet_of_now hr hc]

theorem nowRd_set1_other (s : State) (f : Fld) {a : Nat} (h : a ≠ f.addr) : (s.set1 f).nowRd a = s.nowRd a := by
  have hold : (s.set1 f).cycle.old = s.cycle.old := rfl
  rw [nowRd, hold, set1, rd_put_other _ _ _ _ h, nowRd]

theorem nowGet_set1_other (s : State) (f g : Fld) (h : g.addr ≠ f.addr) : (s.set1 f).nowGet g = s.nowGet g := by
  rw [nowGet, nowRd_set1_other s f h, nowGet]

theorem due_of_clk (h : t.clk = s.clk) (e : Nat) : t.due e = s.due e := by rw [due, count, h, due, count]

theorem coreRuns_of_regs (hs : t.sys = s.sys) (hr : t.regs = s.regs) : t.coreRuns = s.coreRuns := coreRuns_of_rd hs (rd_congr hr _)

/-- A line that acts acts on the line as it is seen. -/
theorem tripLine_acts (s : State) (hk : k < s.loom.tls.length) (h8 : 8 ≤ k) (hruns : s.coreRuns = true) (hen : s.nowOn (F.LOOM_TLk_CFG_EN k) = true)
    (hlive : s.on (F.LOOM_TLk_STAT_LIVE k) = false) (hdue : s.due ((s.tl k).since + s.nowGet (F.LOOM_TLk_CFG_FILT k) + 1) = true)
    (hin : k < 12 ∨ (s.tl k).input = true) : s.tripLine k true =
      if ((s.tlSeen k true).set1 (F.LOOM_TLk_STAT_LIVE k)).tlBlanked k then
        ((s.tlSeen k true).set1 (F.LOOM_TLk_STAT_LIVE k)).modTl k (fun x => { x with acted := true })
      else ((s.tlSeen k true).set1 (F.LOOM_TLk_STAT_LIVE k)).tlBlock k := by
  obtain ⟨hinput, hsince, -, -⟩ := tlSeen_tl s k true hk hin
  have hr := tlSeen_regs s k true
  have hc := tlSeen_cycle s k true
  have hen' : (s.tlSeen k true).nowOn (F.LOOM_TLk_CFG_EN k) = true := (nowOn_of_now hr hc _).trans hen
  rw [tripLine_eq, if_pos rfl, if_pos]
  · unfold tlAct
    rw [if_pos hen']
    dsimp only
    rw [if_pos h8]
  · rw [coreRuns_of_regs (tlSeen_sys s k true) hr, hruns, hen', on_congr hr, hlive, hsince, nowGet_of_now hr hc, due_of_clk (tlSeen_clk s k true), hdue, hinput]
    rfl

/-- Whether a line is blanked counts its CFG as in force, and its window. -/
theorem tlSeen_blanked (s : State) (hk : k < s.loom.tls.length) (hin : k < 12 ∨ (s.tl k).input = true) :
    ((s.tlSeen k true).set1 (F.LOOM_TLk_STAT_LIVE k)).tlBlanked k = s.tlBlanked k := by
  obtain ⟨-, -, hend, -⟩ := tlSeen_tl s k true hk hin
  have hcfg : ((s.tlSeen k true).set1 (F.LOOM_TLk_STAT_LIVE k)).nowOn (F.LOOM_TLk_CFG_BLANKABLE k) = s.nowOn (F.LOOM_TLk_CFG_BLANKABLE k) := by
    rw [nowOn, nowGet_set1_other _ _ _ (by simp only [R.LOOM_TLk_CFG, R.LOOM_TLk_STAT]; omega)]
    exact nowOn_of_now (tlSeen_regs s k true) (tlSeen_cycle s k true) _
  have htl : (((s.tlSeen k true).set1 (F.LOOM_TLk_STAT_LIVE k)).tl k).blankEnd = (s.tl k).blankEnd := hend
  have hcount : ((s.tlSeen k true).set1 (F.LOOM_TLk_STAT_LIVE k)).count = s.count := congrArg (fun c : Clk => c.count.toNat) (tlSeen_clk s k true)
  rw [tlBlanked, tlBlanked, hcfg, htl, hcount]

theorem tripLineAct_blocks (k : Fin 8) (hs : s.Shaped) (hruns : s.coreRuns = true) (hen : s.nowOn (F.LOOM_TLk_CFG_EN (8 + k)) = true)
    (hlive : s.on (F.LOOM_TLk_STAT_LIVE (8 + k)) = false)
    (hdue : s.due ((s.tl (8 + k)).since + s.nowGet (F.LOOM_TLk_CFG_FILT (8 + k)) + 1) = true) (hin : k.val < 4 ∨ (s.tl (8 + k)).input = true)
    (hblank : s.tlBlanked (8 + k) = false) : Completes (.tripLineAct k true) s fun t =>
      t.on (F.LOOM_TLk_STAT_LIVE (8 + k)) = true ∧ t.on (F.LOOM_TLk_STAT_HIT (8 + k)) = true ∧ t.clk = s.clk ∧
      (∀ l : Fin 24, (s.nowGet (F.LOOM_TLk_MASK_LEGS (8 + k))).testBit l = true →
        t.on (F.LOOM_LEGl_STAT_BLOCKED l) = true ∧ t.on (F.LOOM_LEGl_STAT_TL l) = true ∧ (t.leg l).outH = false ∧ (t.leg l).outL = false) ∧
      (∀ l : Fin 24, (s.nowGet (F.LOOM_TLk_MASK_LEGS (8 + k))).testBit l = false → t.leg l = s.leg l) := by
  have hk : 8 + k.val < s.loom.tls.length := by rw [hs.tls]; omega
  have hin' : 8 + k.val < 12 ∨ (s.tl (8 + k)).input = true := hin.imp_left (by omega)
  refine ⟨_, rfl, ?_⟩
  rw [tripLine_acts s hk (by omega) hruns hen hlive hdue hin', tlSeen_blanked s hk hin', hblank, if_neg Bool.false_ne_true]
  have hmask : ((s.tlSeen (8 + k) true).set1 (F.LOOM_TLk_STAT_LIVE (8 + k))).nowGet (F.LOOM_TLk_MASK_LEGS (8 + k)) = s.nowGet (F.LOOM_TLk_MASK_LEGS (8 + k)) := by
    rw [nowGet_set1_other _ _ _ (by simp only [R.LOOM_TLk_MASK, R.LOOM_TLk_STAT]; omega)]
    exact nowGet_of_now (tlSeen_regs s _ true) (tlSeen_cycle s _ true) _
  refine ⟨?_, tlBlock_hit _ _, ?_, fun l hl => ?_, fun l hl => ?_⟩
  · rw [tlBlock_live _ (by omega)]
    exact on_set1_same _ _ (by simp) (by simp)
  · rw [tlBlock_clk, set1_clk, tlSeen_clk]
  · obtain ⟨hb, hc, hH, hL⟩ := tlBlock_in _ (8 + k.val) l.isLt (hmask ▸ hl)
    exact ⟨hb, hc, hH, hL⟩
  · rw [tlBlock_out _ (8 + k.val) l.isLt (hmask ▸ hl), leg_congr (set1_loom ..), leg_of_legs (tlSeen_legs s _ true)]

theorem tripLineAct_blanked (k : Fin 8) (hs : s.Shaped) (hruns : s.coreRuns = true) (hen : s.nowOn (F.LOOM_TLk_CFG_EN (8 + k)) = true)
    (hlive : s.on (F.LOOM_TLk_STAT_LIVE (8 + k)) = false)
    (hdue : s.due ((s.tl (8 + k)).since + s.nowGet (F.LOOM_TLk_CFG_FILT (8 + k)) + 1) = true) (hin : k.val < 4 ∨ (s.tl (8 + k)).input = true)
    (hblank : s.tlBlanked (8 + k) = true) : Completes (.tripLineAct k true) s fun t =>
      t.on (F.LOOM_TLk_STAT_LIVE (8 + k)) = true ∧ (t.tl (8 + k)).acted = true ∧ t.loom.legs = s.loom.legs ∧ t.clk = s.clk ∧
      (∀ b, b ≠ R.LOOM_TLk_STAT (8 + k) → t.rd b = s.rd b) := by
  have hk : 8 + k.val < s.loom.tls.length := by rw [hs.tls]; omega
  have hin' : 8 + k.val < 12 ∨ (s.tl (8 + k)).input = true := hin.imp_left (by omega)
  refine ⟨_, rfl, ?_⟩
  rw [tripLine_acts s hk (by omega) hruns hen hlive hdue hin', tlSeen_blanked s hk hin', hblank, if_pos rfl]
  refine ⟨(on_congr rfl _).trans (on_set1_same _ (F.LOOM_TLk_STAT_LIVE (8 + k)) (by simp) (by simp)), ?_, tlSeen_legs s _ true, tlSeen_clk s _ true,
    fun b hb => ?_⟩
  · rw [tl_modTl_same _ _ (by rw [set1_loom, tlSeen_length]; exact hk)]
  · exact (rd_put_other _ (F.LOOM_TLk_STAT_LIVE (8 + k)) _ _ hb).trans (rd_congr (tlSeen_regs s _ true) b)

theorem tlRest_writes (s : State) (k : Nat) : s.Writes (· = R.LOOM_TLk_STAT k) (s.tlRest k) := by
  have h : s.Writes (· = R.LOOM_TLk_STAT k) (s.clr (F.LOOM_TLk_STAT_LIVE k)) := .clrAt (f := F.LOOM_TLk_STAT_LIVE k) (.refl s)
  unfold tlRest
  dsimp only
  exact Writes.regs (.ite (.set1At (f := F.LOOM_TLk_STAT_BLANKED k) h) h) (by rfl)

theorem tlRest_live (s : State) (k : Nat) : (s.tlRest k).on (F.LOOM_TLk_STAT_LIVE k) = false := by
  have h : (s.clr (F.LOOM_TLk_STAT_LIVE k)).on (F.LOOM_TLk_STAT_LIVE k) = false := on_clr_same _ _ (by simp)
  unfold tlRest
  refine (on_congr (by rfl) _).trans (?_ : State.on (if ((s.clr (F.LOOM_TLk_STAT_LIVE k)).tl k).acted then
    (s.clr (F.LOOM_TLk_STAT_LIVE k)).set1 (F.LOOM_TLk_STAT_BLANKED k) else s.clr (F.LOOM_TLk_STAT_LIVE k)) _ = _)
  split
  · rw [on_set1_other _ (F.LOOM_TLk_STAT_BLANKED k) _ (by simp) (.inr (by simp)), h]
  · exact h

theorem tlRest_loom (s : State) (k : Nat) : (s.tlRest k).loom = (s.modTl k (fun x => { x with acted := false, input := false })).loom := by
  unfold tlRest
  dsimp only
  split <;> rfl

theorem tlRest_shown (s : State) (k : Nat) (h : (s.tl k).acted = true) : (s.tlRest k).on (F.LOOM_TLk_STAT_BLANKED k) = true := by
  have hact : ((s.clr (F.LOOM_TLk_STAT_LIVE k)).tl k).acted = true := h
  unfold tlRest
  refine (on_congr rfl _).trans ?_
  dsimp only
  rw [if_pos hact]
  exact on_set1_same _ _ (by simp) (by simp)

theorem tripLineAct_rests (k : Fin 8) (hs : s.Shaped) (hk4 : k.val < 4) : Completes (.tripLineAct k false) s fun t =>
      t.on (F.LOOM_TLk_STAT_LIVE (8 + k)) = false ∧ (t.tl (8 + k)).acted = false ∧ t.loom.legs = s.loom.legs ∧
      ((s.tl (8 + k)).acted = true → t.on (F.LOOM_TLk_STAT_BLANKED (8 + k)) = true) ∧
      (∀ b, b ≠ R.LOOM_TLk_STAT (8 + k) → t.rd b = s.rd b) := by
  have hk : 8 + k.val < s.loom.tls.length := by rw [hs.tls]; omega
  have h12 : 8 + k.val < 12 := by omega
  refine ⟨_, rfl, ?_⟩
  rw [tripLine_eq, if_neg Bool.false_ne_true, if_pos h12]
  obtain ⟨-, -, -, hacted⟩ := tlSeen_tl s (8 + k) false hk (.inl h12)
  have hlen := tlSeen_length s (8 + k) false
  have hlegs := tlSeen_legs s (8 + k) false
  have hregs := tlSeen_regs s (8 + k) false
  generalize s.tlSeen (8 + k) false = u at *
  refine ⟨tlRest_live u _, ?_, ?_, fun h => tlRest_shown u _ (hacted.trans h), fun b hb => ((tlRest_writes u _).rd hb).trans (rd_congr hregs b)⟩
  · rw [tl_congr (congrArg Loom.tls (tlRest_loom u _)), tl_modTl_same u _ (hlen ▸ hk)]
  · rw [tlRest_loom]
    exact hlegs

/-- The line after its blanking window has ended. -/
def windowEnded (s : State) (k : Nat) : State := s.modTl k (fun x => { x with blankEnd := none, acted := false })

theorem blankClose_eq {e : Nat} (he : (s.tl k).blankEnd = some e) (hdue : s.due e = true) : s.blankClose k =
    if s.on (F.LOOM_TLk_STAT_LIVE k) then (s.windowEnded k).tlBlock k else s.windowEnded k := by
  unfold blankClose
  rw [he]
  dsimp only
  rw [if_pos hdue]
  rfl

theorem blankClose_blocks (k : Fin 8) {e : Nat} (hs : s.Shaped) (he : (s.tl (8 + k)).blankEnd = some e) (hdue : s.due e = true)
    (hlive : s.on (F.LOOM_TLk_STAT_LIVE (8 + k)) = true) : Completes (.blankClose k) s fun t =>
      (t.tl (8 + k)).acted = false ∧ t.on (F.LOOM_TLk_STAT_HIT (8 + k)) = true ∧
      (∀ l : Fin 24, (s.nowGet (F.LOOM_TLk_MASK_LEGS (8 + k))).testBit l = true → t.on (F.LOOM_LEGl_STAT_BLOCKED l) = true) ∧
      (∀ l : Fin 24, (s.nowGet (F.LOOM_TLk_MASK_LEGS (8 + k))).testBit l = false → t.leg l = s.leg l) := by
  have hk : 8 + k.val < s.loom.tls.length := by rw [hs.tls]; omega
  refine ⟨_, rfl, ?_⟩
  rw [blankClose_eq he hdue, if_pos hlive]
  refine ⟨?_, tlBlock_hit _ _, fun l hl => (tlBlock_in (s.windowEnded (8 + k)) _ l.isLt hl).blocked, fun l hl => tlBlock_out (s.windowEnded (8 + k)) _ l.isLt hl⟩
  rw [tlBlock_tl, windowEnded, tl_modTl_same s _ hk]

theorem blankClose_ends (k : Fin 8) {e : Nat} (hs : s.Shaped) (he : (s.tl (8 + k)).blankEnd = some e) (hdue : s.due e = true)
    (hlive : s.on (F.LOOM_TLk_STAT_LIVE (8 + k)) = false) : Completes (.blankClose k) s fun t =>
      (t.tl (8 + k)).blankEnd = none ∧ t.regs = s.regs ∧ t.loom.legs = s.loom.legs ∧ t.clk = s.clk := by
  have hk : 8 + k.val < s.loom.tls.length := by rw [hs.tls]; omega
  refine ⟨_, rfl, ?_⟩
  rw [blankClose_eq he hdue, if_neg (by rw [hlive]; exact Bool.false_ne_true)]
  exact ⟨by rw [windowEnded, tl_modTl_same s _ hk], rfl, rfl, rfl⟩

/-! ### Delay lines and the interlock (R177, R187) -/

theorem dllLocked_gives (h : s.sys.phase = .boot ∨ s.sys.phase = .run) : Completes .dllLocked s fun t =>
    t.on F.LOOM_DLL_LOCKED = true ∧ (∀ b, b ≠ R.LOOM_DLL → t.rd b = s.rd b) ∧ t.loom = s.loom ∧ t.clk = s.clk := by
  refine ⟨s.set1 F.LOOM_DLL_LOCKED, ?_, on_set1_same _ _ (by simp) (by simp), fun b hb => rd_put_other _ _ _ _ hb, rfl, rfl⟩
  exact congrArg Host.Outcome.next (if_pos (by simpa using h))

/-- Line `o` has taken one trim step. -/
def lineStepped (s : State) (o : Nat) (up : Bool) : State :=
  { s with loom := { s.loom with
    trims := upd s.loom.trims o (fun x => if up then x + 1 else x - 1)
    lineStep := upd s.loom.lineStep o (fun _ => some s.count) } }

theorem dllStep_eq (hruns : s.coreRuns = true) {o : Nat} (hmay : s.dllMay o = true) (up inRange : Bool) : s.dllStep o up inRange =
    if inRange then (s.lineStepped o up).incW F.LOOM_DLL_UPDATES else s.dllFail o := by
  unfold dllStep
  rw [hruns, hmay, Bool.and_self, if_pos rfl]
  rfl

theorem dllTrimStep_steps (o : Fin 48) (up : Bool) (hs : s.Shaped) (hruns : s.coreRuns = true) (hmay : s.dllMay o = true) :
    Completes (.dllTrimStep o up true) s fun t =>
      nth t.loom.trims o 0 = (if up then nth s.loom.trims o 0 + 1 else nth s.loom.trims o 0 - 1) ∧
      nth t.loom.lineStep o none = some s.count ∧ t.get F.LOOM_DLL_UPDATES = (s.get F.LOOM_DLL_UPDATES + 1) % 65536 ∧
      (∀ b, b ≠ R.LOOM_DLL → t.rd b = s.rd b) ∧ t.loom.legs = s.loom.legs ∧ t.clk = s.clk := by
  refine ⟨(s.lineStepped o up).incW F.LOOM_DLL_UPDATES, congrArg Host.Outcome.next (dllStep_eq hruns hmay up true), ?_, ?_, ?_,
    fun b hb => rd_put_other _ F.LOOM_DLL_UPDATES _ _ hb, rfl, rfl⟩
  · exact nth_upd_same _ _ _ _ (o.isLt.trans_eq hs.trims.symm)
  · exact nth_upd_same _ _ _ _ (o.isLt.trans_eq hs.lineStep.symm)
  · exact get_put_same (s.lineStepped o up) F.LOOM_DLL_UPDATES _ (by simp)

/-- The failed line stands in DLL and in the summary. -/
def lineFailed (s : State) (o : Nat) : State := ((s.set1 F.LOOM_DLL_FAIL).put F.LOOM_DLL_FAIL_OUT o).set1 F.LOOM_STAT_DLL_FAIL

theorem lineFailed_loom (s : State) (o : Nat) : (s.lineFailed o).loom = s.loom := by rw [lineFailed, set1_loom, put_loom, set1_loom]

theorem dllFail_eq (s : State) (o : Nat) : s.dllFail o =
    ((s.lineFailed o).blockLeg .dll (o / 2)).log 0x0041 6 .fault (leBytes 4 (((s.lineFailed o).blockLeg .dll (o / 2)).rd R.LOOM_DLL).toNat) := rfl

theorem DLL_free (hl : l < 24) : ¬ blockRegs l R.LOOM_DLL := by
  simp only [blockRegs, inBlock, blockBase, R.LOOM_DLL, R.LOOM_STAT, R.LOOM_LEGl_STAT]
  omega

theorem dllTrimStep_fails (o : Fin 48) (up : Bool) (hruns : s.coreRuns = true) (hmay : s.dllMay o = true) :
    Completes (.dllTrimStep o up false) s fun t =>
      t.on F.LOOM_DLL_FAIL = true ∧ t.get F.LOOM_DLL_FAIL_OUT = o ∧ t.on (F.LOOM_LEGl_STAT_BLOCKED (o / 2)) = true ∧
      t.on (F.LOOM_LEGl_STAT_DLL (o / 2)) = true ∧ (t.leg (o / 2)).outH = false ∧ (t.leg (o / 2)).outL = false ∧
      (∀ k, k ≠ o.val / 2 → t.leg k = s.leg k) ∧ t.loom.trims = s.loom.trims ∧ s.clockKept t := by
  refine ⟨s.dllFail o, congrArg Host.Outcome.next ((dllStep_eq hruns hmay up false).trans (if_neg Bool.false_ne_true)), ?_⟩
  have hl : o.val / 2 < 24 := by omega
  have hwrites := blockLeg_writes (s.lineFailed o) .dll (o.val / 2)
  have hwork := blockLeg_work (s.lineFailed o) .dll (o.val / 2)
  have hclock : s.clockKept (s.dllFail o) := by
    have hm : Moves [.regs, .cycle, .loom, .gdp, .events, .stew, .rtc, .mram, .draws] s ((s.lineFailed o).blockLeg .dll (o / 2)) :=
      Moves.trans (.put (.put (.put (.refl s)))) ((blockLeg_moves _ .dll _).mono (by decide))
    exact Moves.clockKept (Moves.log hm)
  obtain ⟨hb, hc, hH, hL⟩ := blockLeg_blocked (s.lineFailed o) .dll hl
  rw [dllFail_eq] at hclock ⊢
  beta_reduce
  generalize (s.lineFailed o).blockLeg .dll (o / 2) = u at *
  rw [on_congr (log_regs ..), get_congr (log_regs ..), on_congr (log_regs ..), on_congr (log_regs ..), log_loom, leg_congr (log_loom ..)]
  refine ⟨(hwrites.on (DLL_free hl)).trans ?_, (hwrites.get (DLL_free hl)).trans ?_, hb, hc, hH, hL, fun k hk => ?_,
    hwork.trims.trans (congrArg Loom.trims (lineFailed_loom s o)), hclock⟩
  · rw [lineFailed, on_set1_other _ F.LOOM_STAT_DLL_FAIL _ (by simp) (by simp), on_put_other _ F.LOOM_DLL_FAIL_OUT _ _ (by simp) (.inr (by simp))]
    exact on_set1_same _ _ (by simp) (by simp)
  · rw [lineFailed, get_set1_other _ F.LOOM_STAT_DLL_FAIL _ (by simp) (by simp), get_put_same _ _ _ (by simp)]
    exact Nat.mod_eq_of_lt (by simp; omega)
  · rw [leg_congr (log_loom ..), hwork.other hk]
    exact leg_congr (lineFailed_loom s o) k

/-- The model's own mark that the leg has been seen with both outputs on. -/
def ilkMarked (s : State) (l : Nat) : State := { s with loom := { s.loom with ilkSeen := s.loom.ilkSeen ||| (1#24 <<< l) } }

theorem getLsbD_bit24 (l : Fin 24) (i : Nat) : (1#24 <<< l.val).getLsbD i = decide (i = l.val) := by
  rw [BitVec.getLsbD_shiftLeft, BitVec.getLsbD_one]
  have := l.isLt
  by_cases h : i = l.val <;> simp [h]; omega

theorem interlock_eq (h : s.sys.phase ≠ .keep) (l : Nat) : s.interlock l true =
    ((s.ilkMarked l).blockLeg .interlock l).incS (F.LOOM_LEGl_CNT_INTERLOCK l) := by
  unfold interlock
  rw [if_neg h, if_pos rfl]
  rfl

theorem LEGCNT_ne_LEGSTAT (l k : Nat) : R.LOOM_LEGl_STAT l ≠ R.LOOM_LEGl_CNT k := by
  simp only [R.LOOM_LEGl_STAT, R.LOOM_LEGl_CNT]
  omega

theorem CNT_free (hl : l < 24) : ¬ blockRegs l (R.LOOM_LEGl_CNT l) := by
  simp only [blockRegs, inBlock, blockBase, R.LOOM_LEGl_CNT, R.LOOM_STAT, R.LOOM_LEGl_STAT]
  omega

theorem interlock_blocks (l : Fin 24) (h : s.sys.phase ≠ .keep) : Completes (.interlock l true) s fun t =>
      t.on (F.LOOM_LEGl_STAT_BLOCKED l) = true ∧ t.on (F.LOOM_LEGl_STAT_INTERLOCK l) = true ∧ (t.leg l).outH = false ∧
      (t.leg l).outL = false ∧ t.loom.ilkSeen.getLsbD l = true ∧
      t.get (F.LOOM_LEGl_CNT_INTERLOCK l) = satInc (F.LOOM_LEGl_CNT_INTERLOCK l).width (s.get (F.LOOM_LEGl_CNT_INTERLOCK l)) ∧
      (∀ k, k ≠ l.val → t.leg k = s.leg k) ∧ t.clk = s.clk := by
  refine ⟨_, congrArg Host.Outcome.next (interlock_eq h l), ?_⟩
  have hwork := blockLeg_work (s.ilkMarked l) .interlock l
  have hclk := (blockLeg_moves (s.ilkMarked l) .interlock l).clk
  have hcnt := (blockLeg_writes (s.ilkMarked l) .interlock l).get (f := F.LOOM_LEGl_CNT_INTERLOCK l) (CNT_free l.isLt)
  have hblocked := blockLeg_blocked (s.ilkMarked l) .interlock l.isLt
  generalize (s.ilkMarked l).blockLeg .interlock l = u at *
  obtain ⟨hb, hc, hH, hL⟩ := hblocked.same (u := u.incS (F.LOOM_LEGl_CNT_INTERLOCK l)) (rd_put_other _ (F.LOOM_LEGl_CNT_INTERLOCK l) _ _ (LEGCNT_ne_LEGSTAT l l)) rfl
  refine ⟨hb, hc, hH, hL, ?_, ?_, fun k hk => hwork.other hk, hclk⟩
  · rw [incS_loom, hwork.ilkSeen, ilkMarked, BitVec.getLsbD_or, getLsbD_bit24, decide_eq_true rfl, Bool.or_true]
  · rw [get_incS_same _ _ (by simp), hcnt]
    exact congrArg _ (get_congr rfl _)

theorem interlock_clears (l : Fin 24) (h : s.sys.phase ≠ .keep) : Completes (.interlock l false) s fun t =>
    t.loom.ilkSeen.getLsbD l = false ∧ t.regs = s.regs ∧ t.loom.legs = s.loom.legs ∧ t.clk = s.clk := by
  refine ⟨{ s with loom := { s.loom with ilkSeen := s.loom.ilkSeen &&& ~~~ (1#24 <<< l.val) } }, ?_, ?_, rfl, rfl, rfl⟩
  · exact congrArg Host.Outcome.next (if_neg h)
  · simp

end State

/-- Settles O22: what each command does to the line it names. -/
theorem tripLines : Obligations.TripLines :=
  ⟨fun _ k h1 h2 h3 h4 h5 h6 => ⟨fun hb => State.tripLineAct_blocks k h1 h2 h3 h4 h5 h6 hb, fun hb => State.tripLineAct_blanked k h1 h2 h3 h4 h5 h6 hb⟩,
    fun _ k h1 h2 => State.tripLineAct_rests k h1 h2,
    fun _ k _ h1 h2 h3 => ⟨fun hl => State.blankClose_blocks k h1 h2 h3 hl, fun hl => State.blankClose_ends k h1 h2 h3 hl⟩⟩

/-- Settles O21: each command's own lemma. -/
theorem delayLinesAndInterlock : Obligations.DelayLinesAndInterlock :=
  ⟨fun _ h => State.dllLocked_gives h, fun _ o up h1 h2 h3 => State.dllTrimStep_steps o up h1 h2 h3,
    fun _ o up _ h2 h3 => State.dllTrimStep_fails o up h2 h3, fun _ l _ h => State.interlock_blocks l h, fun _ l h => State.interlock_clears l h⟩

end Sys2Proof.Machine

/-! Pulses of a leg, their policies and their edges (R175, R181). -/

namespace Sys2Proof.Machine

set_option Elab.async false
namespace State

variable {s t u : State} {l n k : Nat} {high : Bool}

/-! ### An opened pulse (R181) -/

/-- What the policy says of a pulse of leg `l` that opens at `t0`. -/
def openVerdict (s : State) (l : Nat) (high : Bool) (t0 : Nat) : Verdict :=
  judgePulse (s.get (F.LOOM_LEGl_CFG_POLICY l)) t0 (if high then s.closeHigh l t0 else s.closeLow l t0) (s.deadTime l high) (s.minPulse l)
    (if high then (s.leg l).carryH else (s.leg l).carryL)

/-- The short pulse is counted and the carry kept. -/
def pulseNoted (s : State) (l : Nat) (high : Bool) (v : Verdict) : State :=
  if 2 ≤ s.get (F.LOOM_LEGl_CFG_POLICY l) then (if v.short then s.incS (F.LOOM_LEGl_CNT_SHORT l) else s).putCarry l high v.carry
  else if v.short then s.incS (F.LOOM_LEGl_CNT_SHORT l) else s

/-- The leg with the pulse as judged; `due` is the end of its dead time. -/
def pulsePlaced (v : Verdict) (high : Bool) (t0 : Nat) (due : Option Nat) (x : LegSt) : LegSt :=
  if v.emitted then { x with ref := high, pulse := some ⟨high, t0, true, v.closeAt, v.moved⟩,
                             onH := if high then due else none, onL := if high then none else due }
  else { x with pulse := some ⟨high, t0, false, v.closeAt, 0⟩ }

theorem openPulse_eq (s : State) (l : Nat) (high : Bool) (t0 : Nat) : s.openPulse l high t0 =
    (s.pulseNoted l high (s.openVerdict l high t0)).modLeg l (pulsePlaced (s.openVerdict l high t0) high t0
      (if (s.pulseNoted l high (s.openVerdict l high t0)).drives l high then some (t0 + s.deadTime l high) else none)) := rfl

/-- The registers of a pulse: the leg's status with its carries, and its counts. -/
def pulseRegs (l b : Nat) : Prop := b = R.LOOM_LEGl_STAT l ∨ b = R.LOOM_LEGl_CNT l

theorem shortCounted_writes (s : State) (l : Nat) (b : Bool) : s.Writes (pulseRegs l) (if b then s.incS (F.LOOM_LEGl_CNT_SHORT l) else s) :=
  .ite (.incS (.refl s) (.inr rfl)) (.refl s)

theorem shortCounted_moves (s : State) (l : Nat) (b : Bool) : Moves [.regs, .cycle, .loom] s (if b then s.incS (F.LOOM_LEGl_CNT_SHORT l) else s) :=
  .ite (.put (.refl s)) (.refl s)

theorem shortCounted_loom (s : State) (l : Nat) (b : Bool) : (if b then s.incS (F.LOOM_LEGl_CNT_SHORT l) else s).loom = s.loom := by
  split
  · exact incS_loom ..
  · rfl

theorem putCarry_writes (s : State) (l : Nat) (high : Bool) (n : Nat) : s.Writes (· = R.LOOM_LEGl_STAT l) (s.putCarry l high n) := by
  unfold putCarry
  exact .ite (.putBAt (f := F.LOOM_LEGl_STAT_CARRY_H l) (.of_regs (by rfl))) (.putBAt (f := F.LOOM_LEGl_STAT_CARRY_L l) (.of_regs (by rfl)))

theorem putCarry_moves (s : State) (l : Nat) (high : Bool) (n : Nat) : Moves [.regs, .cycle, .loom] s (s.putCarry l high n) := by
  unfold putCarry
  exact .ite (putB_moves (.record (.refl s) (by rfl)) _ _) (putB_moves (.record (.refl s) (by rfl)) _ _)

/-- Two legs of which one shows other carries. -/
def SameButCarries (x y : LegSt) : Prop := ∃ a b, y = { x with carryH := a, carryL := b }

theorem SameButCarries.refl (x : LegSt) : SameButCarries x x := ⟨x.carryH, x.carryL, rfl⟩

theorem putCarry_loom (s : State) (l : Nat) (high : Bool) (n : Nat) : ∃ f : LegSt → LegSt, (∀ x, SameButCarries x (f x)) ∧
    (s.putCarry l high n).loom = (s.modLeg l f).loom := by
  unfold putCarry
  split
  · exact ⟨_, fun x => ⟨n, x.carryL, rfl⟩, putB_loom ..⟩
  · exact ⟨_, fun x => ⟨x.carryH, n, rfl⟩, putB_loom ..⟩

theorem pulseNoted_loom (s : State) (l : Nat) (high : Bool) (v : Verdict) : ∃ f : LegSt → LegSt, (∀ x, SameButCarries x (f x)) ∧
    (s.pulseNoted l high v).loom = (s.modLeg l f).loom := by
  have hshort := shortCounted_loom s l v.short
  unfold pulseNoted
  split
  · obtain ⟨f, hf, hloom⟩ := putCarry_loom (if v.short then s.incS (F.LOOM_LEGl_CNT_SHORT l) else s) l high v.carry
    exact ⟨f, hf, by rw [hloom, modLeg, modLeg, hshort]⟩
  · exact ⟨fun x => x, SameButCarries.refl, by rw [hshort, modLeg, upd_self]⟩

theorem pulseNoted_work (s : State) (l : Nat) (high : Bool) (v : Verdict) : s.LegWork (s.pulseNoted l high v) l := by
  obtain ⟨f, -, hf⟩ := pulseNoted_loom s l high v
  exact ((LegWork.refl s l).modLeg f).same hf

theorem pulseNoted_leg (s : State) (high : Bool) (v : Verdict) (hl : l < s.loom.legs.length) :
    SameButCarries (s.leg l) ((s.pulseNoted l high v).leg l) := by
  obtain ⟨f, hf, hloom⟩ := pulseNoted_loom s l high v
  rw [leg_congr hloom, leg_modLeg_same s f hl]
  exact hf _

theorem pulseNoted_writes (s : State) (l : Nat) (high : Bool) (v : Verdict) : s.Writes (pulseRegs l) (s.pulseNoted l high v) := by
  have h := shortCounted_writes s l v.short
  unfold pulseNoted
  exact .ite (h.trans ((putCarry_writes _ l high v.carry).mono fun _ hb => .inl hb)) h

theorem pulseNoted_moves (s : State) (l : Nat) (high : Bool) (v : Verdict) : Moves [.regs, .cycle, .loom] s (s.pulseNoted l high v) := by
  have h := shortCounted_moves s l v.short
  unfold pulseNoted
  exact .ite (h.trans (putCarry_moves _ l high v.carry)) h

theorem openPulse_work (s : State) (l : Nat) (high : Bool) (t0 : Nat) : s.LegWork (s.openPulse l high t0) l := by
  rw [openPulse_eq]
  exact (pulseNoted_work s l high _).modLeg _

theorem openPulse_writes (s : State) (l : Nat) (high : Bool) (t0 : Nat) : s.Writes (pulseRegs l) (s.openPulse l high t0) := by
  rw [openPulse_eq]
  exact (pulseNoted_writes s l high _).regs rfl

theorem openPulse_moves (s : State) (l : Nat) (high : Bool) (t0 : Nat) : Moves [.regs, .cycle, .loom] s (s.openPulse l high t0) := by
  rw [openPulse_eq]
  exact (pulseNoted_moves s l high _).record (by rfl)

/-- A leg at an opening edge: the pulse of `high` from `t0`, the reference where it is emitted, and the outputs as they were. -/
structure Opened (x y : LegSt) (high : Bool) (t0 : Nat) : Prop where
  pulse : ∃ q, y.pulse = some q ∧ q.high = high ∧ q.openAt = t0 ∧ y.ref = if q.emitted then high else x.ref
  outH : y.outH = x.outH
  outL : y.outL = x.outL

theorem pulsePlaced_opened {x y : LegSt} (h : SameButCarries x y) (v : Verdict) (high : Bool) (t0 : Nat) (due : Option Nat) :
    Opened x (pulsePlaced v high t0 due y) high t0 := by
  obtain ⟨a, b, rfl⟩ := h
  unfold pulsePlaced
  split
  next he => exact ⟨⟨_, rfl, rfl, rfl, rfl⟩, rfl, rfl⟩
  next he => exact ⟨⟨_, rfl, rfl, rfl, rfl⟩, rfl, rfl⟩

theorem openPulse_opened (s : State) (high : Bool) (t0 : Nat) (hl : l < s.loom.legs.length) :
    Opened (s.leg l) ((s.openPulse l high t0).leg l) high t0 := by
  rw [openPulse_eq, leg_modLeg_same _ _ ((pulseNoted_work s l high _).length ▸ hl)]
  exact pulsePlaced_opened (pulseNoted_leg s high _ hl) _ high t0 _

/-! ### The edges (R175, R181) -/

theorem pulseOpeningEdge_gives (l : Fin 24) {p : Pulse} {e : Nat} (hs : s.Shaped) (hlive : (s.leg l).live = true) (hmay : s.legMay l = true)
    (hp : (s.leg l).pulse = some p) (hem : p.emitted = true) (hclose : p.closeAt = some e) (hdue : s.edgeDue e = true) :
    Completes (.pulseOpeningEdge l) s fun t =>
      (∃ q, (t.leg l).pulse = some q ∧ q.high = !(s.leg l).ref ∧ q.openAt = e ∧
        (t.leg l).ref = if q.emitted then !(s.leg l).ref else (s.leg l).ref) ∧
      (t.leg l).outH = (s.leg l).outH ∧ (t.leg l).outL = (s.leg l).outL ∧ (∀ k, k ≠ l.val → t.leg k = s.leg k) ∧ t.clk = s.clk ∧
      t.mem = s.mem ∧ (∀ b, b ≠ R.LOOM_LEGl_STAT l → b ≠ R.LOOM_LEGl_CNT l → t.rd b = s.rd b) := by
  have hends : s.pulseEnds l = true := by
    unfold pulseEnds
    simp only [hp, hclose, hdue]
  have heq : s.openingEdge l = s.openPulse l (!(s.leg l).ref) e := by
    unfold openingEdge pulseOpens
    simp only [hlive, hmay, hends, Bool.and_self, if_true, hp, hem, hclose, Option.getD_some]
  refine ⟨_, congrArg Host.Outcome.next heq, ?_⟩
  obtain ⟨hpulse, hH, hL⟩ := openPulse_opened s (!(s.leg l).ref) e (l.isLt.trans_eq hs.legs.symm)
  have hmoves := openPulse_moves s l (!(s.leg l).ref) e
  exact ⟨hpulse, hH, hL, fun k hk => (openPulse_work s l _ e).other hk, hmoves.clk, hmoves.mem (by decide) (by decide),
    fun b h1 h2 => (openPulse_writes s l _ e).rd (not_or.mpr ⟨h1, h2⟩)⟩

theorem pulseClosingEdge_gives (l : Fin 24) (hs : s.Shaped) : Completes (.pulseClosingEdge l) s fun t =>
      (t.leg l).outH = ((s.leg l).outH && (s.leg l).ref) ∧ (t.leg l).outL = ((s.leg l).outL && !(s.leg l).ref) ∧
      (∀ k, k ≠ l.val → t.leg k = s.leg k) ∧ s.clockKept t ∧ t.loom.cars = s.loom.cars ∧ t.mill = s.mill := by
  refine ⟨s.setOuts l ((s.leg l).outH && (s.leg l).ref) ((s.leg l).outL && !(s.leg l).ref) true, rfl, ?_⟩
  have hleg := setOuts_leg s ((s.leg l).outH && (s.leg l).ref) ((s.leg l).outL && !(s.leg l).ref) true (l.isLt.trans_eq hs.legs.symm)
  have hwork := setOuts_work s l ((s.leg l).outH && (s.leg l).ref) ((s.leg l).outL && !(s.leg l).ref) true
  have hmoves := setOuts_moves s l ((s.leg l).outH && (s.leg l).ref) ((s.leg l).outL && !(s.leg l).ref) true
  exact ⟨by rw [hleg], by rw [hleg], fun k hk => hwork.other hk, hmoves.clockKept, hwork.cars, hmoves.mill⟩

/-- The dead time of the level `high` has ended. -/
def deadTimeOver (s : State) (l : Nat) (high : Bool) : State := s.modLeg l (fun y => if high then { y with onH := none } else { y with onL := none })

theorem deadTimeEnd_gives (l : Fin 24) (high : Bool) {e : Nat} (hs : s.Shaped) (hon : (if high then (s.leg l).onH else (s.leg l).onL) = some e)
    (hdue : s.edgeDue e = true) (hlive : (s.leg l).live = true) (href : (s.leg l).ref = high) (hmay : s.legMay l = true)
    (hallowed : s.outputsAllowed = true) : Completes (.deadTimeEnd l high) s fun t =>
      (t.leg l).outH = high ∧ (t.leg l).outL = !high ∧ (t.leg l).ref = high ∧ (∀ k, k ≠ l.val → t.leg k = s.leg k) ∧
      s.clockKept t ∧ t.loom.cars = s.loom.cars ∧ t.mill = s.mill := by
  have hl : l < s.loom.legs.length := l.isLt.trans_eq hs.legs.symm
  have heq : s.deadTimeEnd l high = (s.deadTimeOver l high).setOuts l high (!high) true := by
    unfold deadTimeEnd
    simp only [hon, hdue, hlive, href, beq_self_eq_true, Bool.and_self, if_true, hmay, hallowed]
    rfl
  refine ⟨_, congrArg Host.Outcome.next heq, ?_⟩
  have hover : (s.deadTimeOver l high).loom.legs.length = s.loom.legs.length := length_upd ..
  have href' : ((s.deadTimeOver l high).leg l).ref = high := by
    rw [deadTimeOver, leg_modLeg_same s _ hl]
    split <;> exact href
  have hleg := setOuts_leg (s.deadTimeOver l high) high (!high) true (hover ▸ hl)
  have hwork := ((LegWork.refl s l).modLeg _).trans (setOuts_work (s.deadTimeOver l high) l high (!high) true)
  have hend : Moves [.regs, .cycle, .loom, .gdp, .rtc, .mram, .events, .stew, .draws] s (s.deadTimeOver l high) := .record (.refl s) (by rfl)
  have hmoves := hend.trans (setOuts_moves (s.deadTimeOver l high) l high (!high) true)
  exact ⟨by rw [hleg], by rw [hleg], by rw [hleg]; exact href', fun k hk => hwork.other hk, hmoves.clockKept, hwork.cars, hmoves.mill⟩

/-! ### The policies (R181) -/

theorem judgePulse_below {t0 t1 dt m carry : Nat} (h : t1 - t0 - dt < m) :
    (judgePulse 0 t0 (some t1) dt m carry).emitted = false ∧ (judgePulse 0 t0 (some t1) dt m carry).carry = carry ∧
    (judgePulse 1 t0 (some t1) dt m carry).emitted = true ∧ (judgePulse 1 t0 (some t1) dt m carry).closeAt = some (t0 + dt + m) ∧
    (judgePulse 1 t0 (some t1) dt m carry).short = true := by
  have hm : ¬ m ≤ t1 - t0 - dt := not_le.mpr h
  simp [judgePulse, hm, h]

theorem judgePulse_carries {t0 t1 dt m carry : Nat} (h : t1 - t0 - dt + carry < m) :
    (judgePulse 2 t0 (some t1) dt m carry).emitted = false ∧
    (judgePulse 2 t0 (some t1) dt m carry).carry = carry + (t1 - t0 - dt) := by
  have hm : ¬ m ≤ t1 - t0 - dt + carry := not_le.mpr h
  simp [judgePulse, hm]

theorem judgePulse_spends {t0 t1 dt m carry : Nat} (h : m ≤ t1 - t0 - dt + carry) :
    (judgePulse 2 t0 (some t1) dt m carry).emitted = true ∧
    (judgePulse 2 t0 (some t1) dt m carry).closeAt = some (t1 + carry) ∧ (judgePulse 2 t0 (some t1) dt m carry).carry = 0 := by
  simp [judgePulse, h]

theorem judgePulse_whole {t0 t1 dt m : Nat} (policy : Nat) (h : m ≤ t1 - t0 - dt) :
    (judgePulse policy t0 (some t1) dt m 0).emitted = true ∧ (judgePulse policy t0 (some t1) dt m 0).closeAt = some t1 ∧
    (judgePulse policy t0 (some t1) dt m 0).short = false := by
  simp [judgePulse, h]

end State

/-- Settles O20: an edge's command each, and the policies case by case. -/
theorem pulsesAndTheirPolicies : Obligations.PulsesAndTheirPolicies :=
  ⟨fun _ l _ _ h1 h2 h3 h4 h5 h6 h7 => State.pulseOpeningEdge_gives l h1 h2 h3 h4 h5 h6 h7, fun _ l hs => State.pulseClosingEdge_gives l hs,
    fun _ l high _ h1 h2 h3 h4 h5 h6 h7 => State.deadTimeEnd_gives l high h1 h2 h3 h4 h5 h6 h7,
    fun _ _ _ _ _ h => State.judgePulse_below h, fun _ _ _ _ _ h => State.judgePulse_carries h, fun _ _ _ _ _ h => State.judgePulse_spends h,
    fun policy _ _ _ _ h => State.judgePulse_whole policy h⟩

end Sys2Proof.Machine

/-! One CORE cycle that passes: its stages, and what each leaves alone (R31, R63, R124, R136, R188, R219, R262, R370). -/

namespace Sys2Proof.Machine

set_option Elab.async false
namespace State

variable {s t u : State} {l n k : Nat}

/-! ### The stages -/

/-- The end of the cycle: the digest, the Mill and the emulation's lag. -/
def tickWork (s : State) : State := if s.coreRuns then s.digestFlush.millTick.emuLag else s

/-- The next cycle has begun: the reference's edge, and COUNT. -/
def tickCount (s : State) : State := { (if s.tickWork.timebaseRuns then s.tickWork.refTick.countTick else s.tickWork) with cycle := {} }

/-- What was written of trip lines takes effect. -/
def tickLines (s : State) : State :=
  if s.cycle.old = [] then s.tickCount.endEvent s else (s.tickCount.endEvent s).forAll 16 (fun k v => v.tlWritten s k)

theorem tick_eq (s : State) : s.tick = if s.tickLines.timebaseRuns then s.tickLines.dmaTick.winTick.rplFinish else s.tickLines := rfl

/-! ### The Mill, the digest and the emulation -/

theorem digestWords_moves (s : State) (ws : List Word) : Moves [.regs, .tst] s (s.digestWords ws) := (Moves.refl s).record (by rfl)

theorem digestWords_writes (s : State) (ws : List Word) : s.Writes (inBlock 16) (s.digestWords ws) :=
  Writes.regs (Writes.wr (.refl s) (a := R.TST_DIGEST) (by simp only [inBlock, blockBase, R.TST_DIGEST]; omega)) (by rfl)

/-- The words that a recording or a replay has gathered are in its digest. -/
def partsDigested (s : State) : State :=
  if s.digesting then (List.range 20).foldl (fun (u : State) k =>
    (s.tst.parts.filter (fun p => p.1 == k)).foldl (fun v p => v.digestWords p.2) u) s
  else s

theorem partsDigested_moves (s : State) : Moves [.regs, .tst] s s.partsDigested :=
  .ite (Moves.foldl (.refl s) fun _ _ hu => Moves.foldl hu fun _ _ hv => hv.trans (digestWords_moves _ _)) (.refl s)

theorem partsDigested_writes (s : State) : s.Writes (inBlock 16) s.partsDigested :=
  .ite (Writes.foldl (.refl s) fun _ _ _ hu => Writes.foldl hu fun _ _ _ hv => hv.trans (digestWords_writes _ _)) (.refl s)

theorem digestFlush_eq (s : State) : s.digestFlush = { s.partsDigested with tst := { s.partsDigested.tst with parts := [] } } := rfl

theorem digestFlush_moves (s : State) : Moves [.regs, .tst] s s.digestFlush := by
  rw [digestFlush_eq]
  exact (partsDigested_moves s).record (by rfl)

theorem digestFlush_writes (s : State) : s.Writes (inBlock 16) s.digestFlush := by
  rw [digestFlush_eq]
  exact (partsDigested_writes s).regs (by rfl)

theorem MILL_STAT_block : inBlock 5 R.MILL_STAT := by simp only [inBlock, blockBase, R.MILL_STAT]; omega

theorem correctWord_moves (s : State) (k : Nat) : Moves [.regs, .cycle, .mill] s (s.correctWord k) := by
  unfold correctWord
  exact .ite (.put (.put (.record (.refl s) (by rfl)))) (.refl s)

theorem correctWord_writes (s : State) (k : Nat) : s.Writes (inBlock 5) (s.correctWord k) := by
  unfold correctWord
  exact .ite (.incS (.set1 (.of_regs (by rfl)) MILL_STAT_block) MILL_STAT_block) (.refl s)

theorem millScrub_moves (s : State) : Moves [.regs, .cycle, .mill, .draws] s s.millScrub := by
  unfold millScrub
  exact .ite (.refl s) ((Moves.drawn (.refl s)).trans ((correctWord_moves _ _).mono (by decide)))

theorem millScrub_writes (s : State) : s.Writes (inBlock 5) s.millScrub := by
  unfold millScrub
  exact .ite (.refl s) (Writes.trans (.of_regs (by rfl)) (correctWord_writes _ _))

theorem fetchBundle_moves (s : State) : Moves [.regs, .cycle, .mill] s s.fetchBundle := by
  unfold fetchBundle
  exact Moves.record (.ite (correctWord_moves s _) (.refl s)) (by rfl)

theorem fetchBundle_writes (s : State) : s.Writes (inBlock 5) s.fetchBundle := by
  unfold fetchBundle
  exact Writes.regs (.ite (correctWord_writes s _) (.refl s)) (by rfl)

theorem storeNow_moves (s : State) (p : PendStore) : Moves [.mill] s (s.storeNow p) := by
  unfold storeNow
  exact .ite (.refl s) (.ite (.record (.refl s) (by rfl)) (.record (.refl s) (by rfl)))

theorem retire_moves (s : State) (load : Bool) : Moves [.mill] s (s.retire load) :=
  Moves.foldl (.refl s) fun u r hu => hu.record (by rfl)

/-- The stores that wait have reached the memory. -/
def storesDone (s : State) : State := [0, 1, 2, 3].foldl (fun u ln => (s.mill.stores.filter (fun p => p.lane == ln)).foldl State.storeNow u) s

theorem storesDone_moves (s : State) : Moves [.mill] s s.storesDone :=
  Moves.foldl (.refl s) fun _ _ hu => Moves.foldl hu fun v p hv => hv.trans (storeNow_moves v p)

/-- The lane cycle before the next bundle is fetched. -/
def lanesMoved (s : State) : State :=
  (((s.storesDone.modMill (fun m => { m with stores := [], cycle := m.cycle + 1 })).retire false).retire true).modMill (fun m =>
      { m with results := m.results.filter (fun r => m.cycle < r.cycle), pc := if m.running.isSome then min 4096 (m.pc + 1) else m.pc })

theorem laneCycle_eq (s : State) : s.laneCycle =
    if s.mill.stall ≠ 0 then s.modMill (fun m => { m with stall := m.stall - 1 })
    else if s.lanesMoved.mill.ending.isNone then s.lanesMoved.fetchBundle else s.lanesMoved := rfl

theorem lanesMoved_moves (s : State) : Moves [.mill] s s.lanesMoved := by
  have h : Moves [.mill] s (s.storesDone.modMill (fun m => { m with stores := [], cycle := m.cycle + 1 })) := (storesDone_moves s).record (by rfl)
  exact Moves.record ((h.trans (retire_moves _ false)).trans (retire_moves _ true)) (by rfl)

theorem laneCycle_moves (s : State) : Moves [.regs, .cycle, .mill] s s.laneCycle := by
  have h := (lanesMoved_moves s).mono (G := [.regs, .cycle, .mill]) (by decide)
  rw [laneCycle_eq]
  exact .ite (.record (.refl s) (by rfl)) (.ite (h.trans (fetchBundle_moves _)) h)

theorem laneCycle_writes (s : State) : s.Writes (inBlock 5) s.laneCycle := by
  have h : s.Writes (inBlock 5) s.lanesMoved := .of_regs (lanesMoved_moves s).regs
  rw [laneCycle_eq]
  exact .ite (.of_regs (by rfl)) (.ite (h.trans (fetchBundle_writes _)) h)

theorem millTick_moves (s : State) : Moves [.regs, .cycle, .mill, .draws] s s.millTick := by
  have h : Moves [.regs, .cycle, .mill, .draws] s s.millScrub.laneCycle := (millScrub_moves s).trans ((laneCycle_moves _).mono (by decide))
  unfold millTick
  exact .ite (.put (h.record (by rfl))) h

theorem millTick_writes (s : State) : s.Writes (inBlock 5) s.millTick := by
  have h : s.Writes (inBlock 5) s.millScrub.laneCycle := (millScrub_writes s).trans (laneCycle_writes _)
  unfold millTick
  exact .ite (.clr (h.regs (by rfl)) MILL_STAT_block) h

theorem emuLag_moves (s : State) : Moves [.regs, .cycle] s s.emuLag := by
  unfold emuLag
  exact .ite (.put (.refl s)) (.refl s)

theorem emuLag_writes (s : State) : s.Writes (inBlock 10) s.emuLag := by
  unfold emuLag
  exact .ite (.set1 (.refl s) (by simp only [inBlock, blockBase, R.SHF_EMU_STAT]; omega)) (.refl s)

/-- The registers of the work at the end of a cycle: the Mill's, the shaft's and the test block's. -/
def workBlocks (b : Nat) : Prop := inBlock 5 b ∨ inBlock 10 b ∨ inBlock 16 b

theorem tickWork_moves (s : State) : Moves [.regs, .cycle, .mill, .draws, .tst] s s.tickWork := by
  unfold tickWork
  exact .ite ((((digestFlush_moves s).mono (by decide)).trans ((millTick_moves _).mono (by decide))).trans ((emuLag_moves _).mono (by decide))) (.refl s)

theorem tickWork_writes (s : State) : s.Writes workBlocks s.tickWork := by
  unfold tickWork
  exact .ite ((((digestFlush_writes s).mono fun _ h => .inr (.inr h)).trans ((millTick_writes _).mono fun _ h => .inl h)).trans
    ((emuLag_writes _).mono fun _ h => .inr (.inl h))) (.refl s)

/-! ### The reference and COUNT -/

theorem refEdge_moves (s : State) : Moves [.regs, .cycle, .clk] s s.refEdge := by
  unfold refEdge
  split
  · exact Moves.record (.put (.refl s)) (by rfl)
  · exact .refl s

theorem refEdge_writes (s : State) : s.Writes (· = R.CLK_SYN0_TRIM) s.refEdge := by
  unfold refEdge
  split
  · exact Writes.regs (Writes.putAt (f := F.CLK_SYN0_TRIM_TRIM) (.refl s)) (by rfl)
  · exact .refl s

theorem refTick_moves (s : State) : Moves [.regs, .cycle, .clk] s s.refTick := by
  unfold refTick
  exact .ite (.refl s) (.ite ((refEdge_moves s).record (by rfl)) (.record (.refl s) (by rfl)))

theorem refTick_writes (s : State) : s.Writes (· = R.CLK_SYN0_TRIM) s.refTick := by
  unfold refTick
  exact .ite (.refl s) (.ite ((refEdge_writes s).regs (by rfl)) (.of_regs (by rfl)))

theorem countTick_moves (s : State) : Moves [.clk] s s.countTick := by
  unfold countTick
  exact .ite (.record (.refl s) (by rfl)) (.record (.refl s) (by rfl))

theorem tickCount_moves (s : State) : Moves [.regs, .cycle, .mill, .draws, .tst, .clk] s s.tickCount := by
  have h := (tickWork_moves s).mono (G := [.regs, .cycle, .mill, .draws, .tst, .clk]) (by decide)
  unfold tickCount
  exact Moves.record (.ite ((h.trans ((refTick_moves _).mono (by decide))).trans ((countTick_moves _).mono (by decide))) h) (by rfl)

/-- The registers of a cycle before the trip lines: those of its work, and the trim. -/
def countBlocks (b : Nat) : Prop := workBlocks b ∨ b = R.CLK_SYN0_TRIM

theorem tickCount_writes (s : State) : s.Writes countBlocks s.tickCount := by
  have h : s.Writes countBlocks s.tickWork := (tickWork_writes s).mono fun _ hb => .inl hb
  unfold tickCount
  exact Writes.regs (.ite (Writes.regs (h.trans ((refTick_writes _).mono fun _ hb => .inr hb)) (countTick_moves _).regs) h) (by rfl)

theorem tickCount_old (s : State) : s.tickCount.cycle.old = [] := rfl

theorem endEvent_moves (s was : State) : Moves [.events, .stew] s (s.endEvent was) := by
  unfold endEvent
  split
  · exact .ite (.raise (.refl s)) (.refl s)
  · exact .refl s

/-! ### The trip lines written -/

/-- What of line `k` was written to its CFG: its count begins anew. -/
def lineRestarted (s was : State) (k : Nat) : State :=
  if was.cycle.old.any (fun x => x.1 == R.LOOM_TLk_CFG k) then (s.clr (F.LOOM_TLk_STAT_LIVE k)).modTl k (fun x => { x with
    since := was.count, acted := false, input := if 8 ≤ k ∧ k < 12 then x.level == s.tlHigh k else x.input })
  else s

/-- The legs that a write adds to the mask of line `k`. -/
def legsAdded (s was : State) (k : Nat) : Nat :=
  ofBits ((List.range 24).map (fun l => s.bit (R.LOOM_TLk_MASK k) l && !bitAt (was.nowRd (R.LOOM_TLk_MASK k)) l))

theorem tlWritten_eq (s was : State) (k : Nat) : s.tlWritten was k =
    if was.cycle.old.any (fun x => x.1 == R.LOOM_TLk_MASK k) && (s.lineRestarted was k).on (F.LOOM_TLk_STAT_LIVE k) &&
        !(s.lineRestarted was k).tlBlanked k then
      (s.lineRestarted was k).blockLegs .tl ((s.lineRestarted was k).legsAdded was k)
    else s.lineRestarted was k := rfl

theorem tlWritten_cases {p : State → Prop} {was : State} (h : p (s.lineRestarted was k))
    (hb : ∀ mask, p ((s.lineRestarted was k).blockLegs .tl mask)) : p (s.tlWritten was k) := by
  rw [tlWritten_eq]
  split
  · exact hb _
  · exact h

theorem lineRestarted_writes (s was : State) (k : Nat) : s.Writes (· = R.LOOM_TLk_STAT k) (s.lineRestarted was k) := by
  unfold lineRestarted
  exact .ite (Writes.regs (Writes.clrAt (f := F.LOOM_TLk_STAT_LIVE k) (.refl s)) (by rfl)) (.refl s)

theorem lineRestarted_moves (s was : State) (k : Nat) : Moves [.regs, .cycle, .loom] s (s.lineRestarted was k) := by
  unfold lineRestarted
  exact .ite (Moves.record (.put (.refl s)) (by rfl)) (.refl s)

/-- The registers of written line `k`: its status, and those of blocked legs. -/
def lineRegs (k b : Nat) : Prop := b = R.LOOM_TLk_STAT k ∨ ∃ l < 24, blockRegs l b

theorem tlWritten_writes (s was : State) (k : Nat) : s.Writes (lineRegs k) (s.tlWritten was k) :=
  have h : s.Writes (lineRegs k) (s.lineRestarted was k) := (lineRestarted_writes s was k).mono fun _ hb => .inl hb
  tlWritten_cases (p := fun u => s.Writes (lineRegs k) u) h fun mask => h.trans ((blockLegs_writes _ .tl mask).mono fun _ hb => .inr hb)

theorem tlWritten_moves (s was : State) (k : Nat) : Moves [.regs, .cycle, .loom, .gdp, .events, .stew] s (s.tlWritten was k) :=
  have h := (lineRestarted_moves s was k).mono (G := [.regs, .cycle, .loom, .gdp, .events, .stew]) (by decide)
  tlWritten_cases h fun mask => h.trans (blockLegs_moves _ .tl mask)

theorem tickLines_moves (s : State) :
    Moves [.regs, .cycle, .mill, .draws, .tst, .clk, .loom, .gdp, .events, .stew] s s.tickLines := by
  have h : Moves [.regs, .cycle, .mill, .draws, .tst, .clk, .loom, .gdp, .events, .stew] s (s.tickCount.endEvent s) :=
    ((tickCount_moves s).mono (by decide)).trans ((endEvent_moves _ s).mono (by decide))
  unfold tickLines
  exact .ite h (Moves.forAll h fun k v hv => hv.trans ((tlWritten_moves v s k).mono (by decide)))

theorem lineRegs_drive (hk : k < 16) {b : Nat} (h : lineRegs k b) : driveBlocks b := by
  rcases h with rfl | ⟨l, hl, h⟩
  · exact .inl (by simp only [inBlock, blockBase, R.LOOM_TLk_STAT]; omega)
  · exact blockRegs_drive hl h

/-- The registers of a cycle up to its trip lines, line by line. -/
def writtenRegs (b : Nat) : Prop := countBlocks b ∨ ∃ k < 16, lineRegs k b

theorem tickLines_writes (s : State) : s.Writes writtenRegs s.tickLines := by
  have h : s.Writes writtenRegs (s.tickCount.endEvent s) :=
    Writes.regs ((tickCount_writes s).mono fun _ hb => .inl hb) (endEvent_moves _ s).regs
  unfold tickLines
  exact .ite h (Writes.forAll h fun k v hk hv => hv.trans ((tlWritten_writes v s k).mono fun _ hb => .inr ⟨k, hk, hb⟩))

/-! ### Transfers, comparators and the replay -/

theorem dmaTick_moves (s : State) : Moves [.dma, .events, .stew] s s.dmaTick :=
  Moves.forAll (.refl s) fun n u hu => .ite (.raise (hu.record (by rfl))) hu

theorem winEvent_moves (s : State) (w : Nat) : Moves [.regs, .cycle, .events, .stew] s (s.winEvent w) := by
  have h : Moves [.regs, .cycle, .events, .stew] s (s.raise (0x60 + w)) := .raise (.refl s)
  have hput : Moves [.regs, .cycle, .events, .stew] s ((s.raise (0x60 + w)).putBit (R.CMP_IRQSTATj (w / 32)) (w % 32) true) := h.put
  unfold winEvent
  dsimp only
  exact .ite (.ite hput hput.emit) h

/-- The registers of comparator events. -/
def irqRegs (b : Nat) : Prop := ∃ j, b = R.CMP_IRQSTATj j

theorem winEvent_writes (s : State) (w : Nat) : s.Writes irqRegs (s.winEvent w) := by
  have hput : s.Writes irqRegs ((s.raise (0x60 + w)).putBit (R.CMP_IRQSTATj (w / 32)) (w % 32) true) :=
    .putBit (.raise (.refl s)) ⟨_, rfl⟩
  unfold winEvent
  dsimp only
  exact .ite (.ite hput (hput.regs (emit_regs ..))) (.raise (.refl s))

theorem winTick_moves (s : State) : Moves [.cmp, .regs, .cycle, .events, .stew] s s.winTick := by
  unfold winTick
  exact .ite (.refl s) (Moves.foldl (.record (.refl s) (by rfl)) fun u w hu => hu.trans ((winEvent_moves u w).mono (by decide)))

theorem winTick_writes (s : State) : s.Writes irqRegs s.winTick := by
  unfold winTick
  exact .ite (.refl s) (Writes.foldl (.of_regs (by rfl)) fun u w _ hu => hu.trans (winEvent_writes u w))

/-- The registers of the replay's end: the drivers', and the test block's. -/
def stopBlocks (b : Nat) : Prop := inBlock 7 b ∨ inBlock 16 b

theorem rplStop_moves (s : State) : Moves [.regs, .cycle, .tst, .gdp, .rtc, .mram, .events, .stew, .draws] s s.rplStop := by
  unfold rplStop
  exact Moves.trans (.put (.record (.refl s) (by rfl))) ((gdRefreshAll_moves _).mono (by decide))

theorem TST_RPL_STAT_block : stopBlocks R.TST_RPL_STAT := .inr (by simp only [inBlock, blockBase, R.TST_RPL_STAT]; omega)

theorem rplStop_writes (s : State) : s.Writes stopBlocks s.rplStop := by
  unfold rplStop
  exact Writes.trans (Writes.clr (Writes.of_regs (by rfl)) TST_RPL_STAT_block) ((gdRefreshAll_writes _).mono fun _ h => .inl h)

theorem rplFinish_moves (s : State) : Moves [.regs, .cycle, .tst, .gdp, .rtc, .mram, .events, .stew, .draws] s s.rplFinish := by
  unfold rplFinish
  dsimp only
  exact .ite (Moves.trans (.put (.wr ((digestWords_moves s _).mono (by decide)))) (rplStop_moves _)) (.refl s)

theorem rplFinish_writes (s : State) : s.Writes stopBlocks s.rplFinish := by
  unfold rplFinish
  dsimp only
  exact .ite (Writes.trans (Writes.set1 (Writes.wr ((digestWords_writes s _).mono fun _ h => .inr h)
    (.inr (by simp only [inBlock, blockBase, R.TST_DIGEST]; omega))) TST_RPL_STAT_block) (rplStop_writes _)) (.refl s)

/-- What a cycle does after its trip lines. -/
def tickRest (s : State) : State := if s.timebaseRuns then s.dmaTick.winTick.rplFinish else s

theorem tickRest_moves (s : State) : Moves [.dma, .cmp, .regs, .cycle, .tst, .gdp, .rtc, .mram, .events, .stew, .draws] s s.tickRest := by
  unfold tickRest
  exact .ite ((((dmaTick_moves s).mono (by decide)).trans ((winTick_moves _).mono (by decide))).trans ((rplFinish_moves _).mono (by decide))) (.refl s)

/-- The registers after the trip lines. -/
def restBlocks (b : Nat) : Prop := irqRegs b ∨ stopBlocks b

theorem tickRest_writes (s : State) : s.Writes restBlocks s.tickRest := by
  unfold tickRest
  exact .ite ((Writes.trans (.of_regs (dmaTick_moves s).regs) ((winTick_writes _).mono fun _ h => .inl h)).trans
    ((rplFinish_writes _).mono fun _ h => .inr h)) (.refl s)

theorem tick_rest (s : State) : s.tick = s.tickLines.tickRest := rfl

/-! ### What holds as it stood before the cycle (R188, R365) -/

/-- The registers held as they stood are the same. -/
structure OldLast (s t : State) : Prop where
  old : t.cycle.old = s.cycle.old

namespace OldLast

theorem refl (s : State) : s.OldLast s := ⟨rfl⟩
theorem trans (h : s.OldLast t) (h' : t.OldLast u) : s.OldLast u := ⟨h'.old.trans h.old⟩
theorem same (h : s.OldLast t) (hc : u.cycle = t.cycle) : s.OldLast u := ⟨(congrArg Cycle.old hc).trans h.old⟩
theorem put (h : s.OldLast t) {f : Fld} {n : Nat} : s.OldLast (t.put f n) := ⟨h.old⟩
theorem set1 (h : s.OldLast t) {f : Fld} : s.OldLast (t.set1 f) := ⟨h.old⟩
theorem clr (h : s.OldLast t) {f : Fld} : s.OldLast (t.clr f) := ⟨h.old⟩
theorem putB (h : s.OldLast t) {f : Fld} {b : Bool} : s.OldLast (t.putB f b) := ⟨h.old⟩
theorem putBit (h : s.OldLast t) {a i : Nat} {b : Bool} : s.OldLast (t.putBit a i b) := ⟨h.old⟩
theorem raise (h : s.OldLast t) {src : Nat} : s.OldLast (t.raise src) := h.same (Moves.cycle (F := [.events, .stew]) (.raise (.refl t)))
theorem log (h : s.OldLast t) {code block : Nat} {sev : Severity} {data : List Byte} : s.OldLast (t.log code block sev data) :=
  h.same (Moves.cycle (F := [.rtc, .mram, .events, .stew, .draws]) (.log (.refl t)))
theorem ite {p : Prop} [Decidable p] (ht : s.OldLast t) (hu : s.OldLast u) : s.OldLast (if p then t else u) := by split <;> assumption
theorem forAll (h : s.OldLast t) {n : Nat} {f : Nat → State → State} (hf : ∀ i u, s.OldLast u → s.OldLast (f i u)) : s.OldLast (t.forAll n f) :=
  forAll_rec (p := fun _ u => s.OldLast u) h fun i u _ hu => hf i u hu
theorem foldl (h : s.OldLast t) {α : Type} {f : State → α → State} {xs : List α} (hf : ∀ u x, s.OldLast u → s.OldLast (f u x)) :
    s.OldLast (xs.foldl f t) := by
  induction xs generalizing t with
  | nil => exact h
  | cons x xs ih => exact ih (hf t x h)

end OldLast

theorem gdDrive_old (s : State) (n : Nat) (on : Bool) : s.OldLast (s.gdDrive n on) := by
  unfold gdDrive
  exact .ite (.refl s) (.putB (.putB (.same (.refl s) (by rfl))))

theorem gdLatch_old (s : State) (n : Nat) (flag : Fld) : s.OldLast (s.gdLatch n flag) := by
  unfold gdLatch gdSummary
  exact .ite (.refl s) (.log (.raise (.putB (.set1 (.refl s)))))

theorem gdRefresh_old (s : State) (n : Nat) : s.OldLast (s.gdRefresh n) := by
  have hcmd : s.OldLast (s.putB (F.GDP_GDn_STAT_CMD n) (s.gdCommand n)) := .putB (.refl s)
  rw [gdRefresh_eq]
  exact .putB (OldLast.trans (.ite (hcmd.trans (gdLatch_old _ n _)) hcmd) (gdDrive_old _ n _))

theorem gdFollow_old (s : State) (l : Nat) : s.OldLast (s.gdFollow l) :=
  OldLast.forAll (.refl s) fun n u hu => .ite (hu.trans (gdRefresh_old u n)) hu

theorem setOuts_old (s : State) (l : Nat) (h lo edge : Bool) : s.OldLast (s.setOuts l h lo edge) := by
  have hplaced : s.OldLast (s.outsPlaced l h lo edge) := .same (.refl s) (outsPlaced_moves s l h lo edge).cycle
  rw [setOuts_eq]
  exact .ite (hplaced.trans (gdFollow_old _ l)) hplaced

theorem causeShown_old (s : State) (cause : Cause) (l : Nat) : s.OldLast (s.causeShown cause l) := by
  unfold causeShown
  exact .ite (.set1 (.putBit (.clr (.set1 (.putBit (.refl s)))))) (.putBit (.clr (.set1 (.putBit (.refl s)))))

theorem blockedLeg_old (s : State) (cause : Cause) (l : Nat) : s.OldLast (s.blockedLeg cause l) :=
  .clr (.clr (.same (.same ((causeShown_old s cause l).trans (setOuts_old _ l false false false)) (by rfl)) (by rfl)))

theorem blockLegs_old (s : State) (cause : Cause) (mask : Nat) : s.OldLast (s.blockLegs cause mask) :=
  OldLast.forAll (.refl s) fun l u hu => .ite (hu.trans (blockLeg_cases (p := fun v => u.OldLast v) (blockedLeg_old u cause l)
    fun _ => (blockedLeg_old u cause l).raise)) hu

theorem tlWritten_old (s was : State) (k : Nat) : s.OldLast (s.tlWritten was k) := by
  have h : s.OldLast (s.lineRestarted was k) := by
    unfold lineRestarted
    exact .ite (.same (OldLast.clr (.refl s)) (by rfl)) (.refl s)
  exact tlWritten_cases (p := fun u => s.OldLast u) h fun mask => h.trans (blockLegs_old _ .tl mask)

theorem tickLines_old (s : State) : s.tickLines.cycle.old = [] := by
  have h : s.tickCount.OldLast (s.tickCount.endEvent s) := .same (.refl _) (endEvent_moves _ s).cycle
  have hall : s.tickCount.OldLast s.tickLines := by
    unfold tickLines
    exact .ite h (OldLast.forAll h fun k v hv => hv.trans (tlWritten_old v s k))
  exact hall.old.trans (tickCount_old s)

theorem winEvent_old (s : State) (w : Nat) : s.OldLast (s.winEvent w) := by
  have hput : s.OldLast ((s.raise (0x60 + w)).putBit (R.CMP_IRQSTATj (w / 32)) (w % 32) true) := .putBit (.raise (.refl s))
  unfold winEvent
  exact .ite (.ite hput (hput.same (Moves.cycle (F := [.events, .stew]) (.emit (.refl _))))) (.raise (.refl s))

theorem gdRefreshAll_old (s : State) : s.OldLast s.gdRefreshAll := OldLast.forAll (.refl s) fun n u hu => hu.trans (gdRefresh_old u n)

theorem rplStop_old (s : State) : s.OldLast s.rplStop := by
  unfold rplStop
  exact OldLast.trans (.clr (.same (.refl s) (by rfl))) (gdRefreshAll_old _)

theorem rplFinish_old (s : State) : s.OldLast s.rplFinish := by
  have hwr (u : State) (a : Nat) (v : Word) : u.OldLast (u.wr a v) := ⟨rfl⟩
  unfold rplFinish
  dsimp only
  exact .ite (OldLast.trans (OldLast.set1 (OldLast.trans (OldLast.same (.refl s) (digestWords_moves s _).cycle) (hwr _ _ _))) (rplStop_old _)) (.refl s)

theorem winTick_old (s : State) : s.OldLast s.winTick := by
  unfold winTick
  exact .ite (.refl s) (OldLast.foldl (.same (.refl s) (by rfl)) fun u w hu => hu.trans (winEvent_old u w))

theorem tickRest_old (s : State) : s.OldLast s.tickRest := by
  have hdma : s.OldLast s.dmaTick := .same (.refl s) (dmaTick_moves s).cycle
  have hwin : s.OldLast s.dmaTick.winTick := hdma.trans (winTick_old _)
  unfold tickRest
  exact .ite (hwin.trans (rplFinish_old _)) (.refl s)

/-- A cycle that has passed holds nothing as it stood before. -/
theorem tick_old (s : State) : s.tick.cycle.old = [] := by rw [tick_rest]; exact (tickRest_old _).old.trans (tickLines_old s)

end State
end Sys2Proof.Machine

/-! Writes of the Loom: carriers, compare shadows, trip lines and releases (R170, R178 to R180, R188, R191, R192). -/

namespace Sys2Proof.Machine

set_option Elab.async false
namespace State

variable {s t u : State} {l n k : Nat} {v : Word} {w : World}

/-- A loop of which step `i` makes `q` of `before`: the steps before it keep the one, and the steps after it the other. -/
theorem forAll_turn {n i : Nat} {f : Nat → State → State} (before q : State → Prop) (h0 : before s)
    (hbefore : ∀ j u, j < n → j ≠ i → before u → before (f j u)) (hstep : ∀ u, before u → q (f i u))
    (hafter : ∀ j u, j < n → j ≠ i → q u → q (f j u)) (hi : i < n) : q (s.forAll n f) := by
  refine (forAll_rec (p := fun m u => (m ≤ i → before u) ∧ (i < m → q u)) ⟨fun _ => h0, fun h => absurd h (Nat.not_lt_zero i)⟩
    fun m u hm ⟨hb, hq⟩ => ⟨fun hle => hbefore m u hm (by omega) (hb (by omega)), fun hlt => ?_⟩).2 hi
  by_cases hmi : m = i
  · exact hmi ▸ hstep u (hb (by omega))
  · exact hafter m u hm hmi (hq (by omega))

/-! ### Pulses follow what closes them (R179, R182) -/

/-- Of the whole state only the pulses of legs may have changed. -/
structure PulsesFollow (s t : State) : Prop where
  rest : ∃ ls, t = { s with loom := { s.loom with legs := ls } }
  length : t.loom.legs.length = s.loom.legs.length
  leg : ∀ l, ∃ p, t.leg l = { s.leg l with pulse := p }

namespace PulsesFollow

theorem refl (s : State) : s.PulsesFollow s := ⟨⟨s.loom.legs, rfl⟩, rfl, fun l => ⟨(s.leg l).pulse, rfl⟩⟩

theorem trans (h : s.PulsesFollow t) (h' : t.PulsesFollow u) : s.PulsesFollow u := by
  obtain ⟨ls, hl⟩ := h.rest
  obtain ⟨ls', hl'⟩ := h'.rest
  refine ⟨⟨ls', by rw [hl', hl]⟩, h'.length.trans h.length, fun l => ?_⟩
  obtain ⟨p, hp⟩ := h.leg l
  obtain ⟨p', hp'⟩ := h'.leg l
  exact ⟨p', by rw [hp', hp]⟩

theorem ite {p : Prop} [Decidable p] (ht : s.PulsesFollow t) (hu : s.PulsesFollow u) : s.PulsesFollow (if p then t else u) := by
  split <;> assumption

theorem modLeg (s : State) (l : Nat) (p : Option Pulse) : s.PulsesFollow (s.modLeg l (fun x => { x with pulse := p })) := by
  refine ⟨⟨_, rfl⟩, length_upd .., fun k => ?_⟩
  by_cases hk : k = l
  · subst hk
    by_cases hl : k < s.loom.legs.length
    · exact ⟨p, leg_modLeg_same s _ hl⟩
    · refine ⟨(s.leg k).pulse, ?_⟩
      have hlen : (upd s.loom.legs k (fun x => { x with pulse := p })).length ≤ k := (length_upd ..).trans_le (not_lt.mp hl)
      rw [State.leg, State.leg, nth, nth, State.modLeg, List.getD_eq_default _ _ hlen, List.getD_eq_default _ _ (not_lt.mp hl)]
  · exact ⟨(s.leg k).pulse, leg_modLeg_other s _ hk⟩

theorem forAll (h : s.PulsesFollow t) {n : Nat} {f : Nat → State → State} (hf : ∀ i u, s.PulsesFollow u → s.PulsesFollow (f i u)) :
    s.PulsesFollow (t.forAll n f) := forAll_rec (p := fun _ u => s.PulsesFollow u) h fun i u _ hu => hf i u hu

theorem moves (h : s.PulsesFollow t) : Moves [.loom] s t := by
  obtain ⟨ls, hl⟩ := h.rest
  rw [hl]
  exact .record (.refl s) (by rfl)

theorem cars (h : s.PulsesFollow t) : t.loom.cars = s.loom.cars := by
  obtain ⟨ls, hl⟩ := h.rest
  rw [hl]

theorem tls (h : s.PulsesFollow t) : t.loom.tls = s.loom.tls := by
  obtain ⟨ls, hl⟩ := h.rest
  rw [hl]

end PulsesFollow

theorem followShadow_follows (s : State) (l : Nat) : s.PulsesFollow (s.followShadow l) := by
  unfold followShadow
  split
  · exact .ite (.refl s) (.modLeg s l _)
  · exact .refl s

theorem followShadow_other (s : State) (l : Nat) (hk : k ≠ l) : (s.followShadow l).leg k = s.leg k := by
  unfold followShadow
  split
  · dsimp only
    split
    · rfl
    · exact leg_modLeg_other s _ hk
  · rfl

theorem followLegs_follows (s : State) (c : Nat) : s.PulsesFollow (s.followLegs c) :=
  PulsesFollow.forAll (.refl s) fun l u hu => .ite (hu.trans (followShadow_follows u l)) hu

/-! ### A write of LOOM_CARc (R170, R179) -/

/-- The control word is stored, and the closing edges follow a HOLD that has changed. -/
def carStored (s : State) (c : Nat) (v : Word) : State :=
  if (s.storePlain (R.LOOM_CARc c) v).get (F.LOOM_CARc_HOLD c) = s.get (F.LOOM_CARc_HOLD c) then s.storePlain (R.LOOM_CARc c) v
  else (s.storePlain (R.LOOM_CARc c) v).followLegs c

theorem carCtrl_eq (s : State) (c : Nat) (v : Word) : s.carCtrl c v =
    if bitAt v 0 then
      if s.carState c = 0 then ((s.carStored c v).put (F.LOOM_CSTATc_STATE c) 1).modCar c (fun x => { x with startAt := s.clk.count })
      else s.carStored c v
    else if s.carState c = 1 then (s.carStored c v).put (F.LOOM_CSTATc_STATE c) 0 else s.carStored c v := rfl

theorem carStored_follows (s : State) (c : Nat) (v : Word) : (s.storePlain (R.LOOM_CARc c) v).PulsesFollow (s.carStored c v) :=
  .ite (.refl _) (followLegs_follows _ c)

theorem carStored_regs (s : State) (c : Nat) (v : Word) : (s.carStored c v).regs = (s.storePlain (R.LOOM_CARc c) v).regs :=
  (carStored_follows s c v).moves.regs

theorem carStored_cars (s : State) (c : Nat) (v : Word) : (s.carStored c v).loom.cars = s.loom.cars :=
  (carStored_follows s c v).cars.trans (congrArg Loom.cars (storePlain_moves s (R.LOOM_CARc c) v).loom)

theorem CSTAT_ne_CAR (c d : Nat) : R.LOOM_CSTATc c ≠ R.LOOM_CARc d := by simp only [R.LOOM_CSTATc, R.LOOM_CARc]; omega

theorem carStored_state (s : State) (c : Nat) (v : Word) : (s.carStored c v).carState c = s.carState c := by
  rw [carState, get_congr (carStored_regs s c v)]
  exact get_storePlain_other s v (CSTAT_ne_CAR c c)

theorem carStored_same (s : State) (c : Nat) (v : Word) : (s.carStored c v).rd (R.LOOM_CARc c) = s.stored (R.LOOM_CARc c) v :=
  (rd_congr (carStored_regs s c v) _).trans (rd_storePlain_same ..)

theorem carStored_other (s : State) (c : Nat) (v : Word) {b : Nat} (hb : b ≠ R.LOOM_CARc c) : (s.carStored c v).rd b = s.rd b :=
  (rd_congr (carStored_regs s c v) _).trans (rd_storePlain_other _ _ hb)

theorem movesPolicy_LOOM_CARc : ∀ c : Fin 8, movesPolicy (R.LOOM_CARc c) = false := by decide

theorem carWrite_moves (c : Fin 8) (ha : s.accepts w (R.LOOM_CARc c) v) : Moves [.cycle, .tst] (s.carCtrl c v) (s.write w (R.LOOM_CARc c) v) :=
  hook_LOOM_CARc (s := s) (v := v) c ▸ write_moves ha (movesPolicy_LOOM_CARc c)

theorem modCar_rd (s : State) (c : Nat) (f : CarSt → CarSt) (b : Nat) : (s.modCar c f).rd b = s.rd b := rd_congr (modCar_regs ..) b
theorem modCar_legs (s : State) (c : Nat) (f : CarSt → CarSt) : (s.modCar c f).loom.legs = s.loom.legs := rfl
theorem modCar_tls (s : State) (c : Nat) (f : CarSt → CarSt) : (s.modCar c f).loom.tls = s.loom.tls := rfl

/-- The carrier's state put on a stored control word. -/
theorem carPut_rd (s : State) (c : Nat) (v : Word) (n : Nat) {b : Nat} (hb : b ≠ R.LOOM_CSTATc c) :
    ((s.carStored c v).put (F.LOOM_CSTATc_STATE c) n).rd b = (s.carStored c v).rd b := rd_put_other _ (F.LOOM_CSTATc_STATE c) _ _ hb

theorem carrierControlWrite_waits (c : Fin 8) (hs : s.Shaped) (ha : s.accepts w (R.LOOM_CARc c) v) (hb : bitAt v 0 = true) (h0 : s.carState c = 0) :
    Completes (.carrierControlWrite w c v) s fun t =>
      t.carState c = 1 ∧ (t.car c).startAt = s.clk.count ∧ t.rd (R.LOOM_CARc c) = s.stored (R.LOOM_CARc c) v ∧
      (∀ b, b ≠ R.LOOM_CARc c → b ≠ R.LOOM_CSTATc c → t.rd b = s.rd b) := by
  have hmoves := carWrite_moves c ha
  rw [carCtrl_eq, if_pos hb, if_pos h0] at hmoves
  refine ⟨_, rfl, ?_, ?_, ?_, fun b h1 h2 => ?_⟩
  · exact (get_congr (hmoves.regs.trans (modCar_regs ..)) _).trans (get_put_same (s.carStored c v) (F.LOOM_CSTATc_STATE c) 1 (by simp))
  · have hlen : c < ((s.carStored c v).put (F.LOOM_CSTATc_STATE c) 1).loom.cars.length := by
      rw [put_loom, carStored_cars]
      exact c.isLt.trans_eq hs.cars.symm
    rw [car, hmoves.loom]
    exact congrArg (·.startAt) (nth_upd_same _ _ _ _ hlen)
  · exact (rd_congr hmoves.regs _).trans (((modCar_rd ..).trans (carPut_rd s c v 1 (CSTAT_ne_CAR c c).symm)).trans (carStored_same s c v))
  · exact (rd_congr hmoves.regs _).trans (((modCar_rd ..).trans (carPut_rd s c v 1 h2)).trans (carStored_other s c v h1))

theorem carrierControlWrite_stops (c : Fin 8) (ha : s.accepts w (R.LOOM_CARc c) v) (hb : bitAt v 0 = false) (h1 : s.carState c = 1) :
    Completes (.carrierControlWrite w c v) s fun t =>
      t.carState c = 0 ∧ t.rd (R.LOOM_CARc c) = s.stored (R.LOOM_CARc c) v ∧
      (∀ b, b ≠ R.LOOM_CARc c → b ≠ R.LOOM_CSTATc c → t.rd b = s.rd b) := by
  have hmoves := carWrite_moves c ha
  rw [carCtrl_eq, if_neg (by rw [hb]; exact Bool.false_ne_true), if_pos h1] at hmoves
  refine ⟨_, rfl, ?_, ?_, fun b h1 h2 => ?_⟩
  · exact (get_congr hmoves.regs _).trans (get_put_same (s.carStored c v) (F.LOOM_CSTATc_STATE c) 0 (by simp))
  · exact (rd_congr hmoves.regs _).trans ((carPut_rd s c v 0 (CSTAT_ne_CAR c c).symm).trans (carStored_same s c v))
  · exact (rd_congr hmoves.regs _).trans ((carPut_rd s c v 0 h2).trans (carStored_other s c v h1))

theorem carCtrl_stays {c : Nat} (h : s.carState c = 2 ∨ (bitAt v 0 = true ∧ s.carState c = 1) ∨ (bitAt v 0 = false ∧ s.carState c = 0)) :
    s.carCtrl c v = s.carStored c v := by
  rw [carCtrl_eq]
  rcases h with h | ⟨hb, h⟩ | ⟨hb, h⟩ <;> simp [*]

theorem carrierControlWrite_stays (c : Fin 8) (ha : s.accepts w (R.LOOM_CARc c) v)
    (h : s.carState c = 2 ∨ (bitAt v 0 = true ∧ s.carState c = 1) ∨ (bitAt v 0 = false ∧ s.carState c = 0)) :
    Completes (.carrierControlWrite w c v) s fun t =>
        t.carState c = s.carState c ∧ t.rd (R.LOOM_CARc c) = s.stored (R.LOOM_CARc c) v ∧ t.loom.cars = s.loom.cars ∧
        (∀ b, b ≠ R.LOOM_CARc c → t.rd b = s.rd b) := by
  have hmoves := carWrite_moves c ha
  rw [carCtrl_stays h] at hmoves
  refine ⟨_, rfl, ?_, ?_, ?_, fun b hb => ?_⟩
  · exact (get_congr hmoves.regs _).trans (carStored_state s c v)
  · exact (rd_congr hmoves.regs _).trans (carStored_same s c v)
  · rw [hmoves.loom, carStored_cars]
  · exact (rd_congr hmoves.regs _).trans (carStored_other s c v hb)

/-- Whatever becomes of the carrier, the legs and the trip lines are those of the stored word. -/
theorem carCtrl_cases {p : State → Prop} {c : Nat} (h : p (s.carStored c v))
    (hp : ∀ n, p ((s.carStored c v).put (F.LOOM_CSTATc_STATE c) n))
    (hm : ∀ n x, p (((s.carStored c v).put (F.LOOM_CSTATc_STATE c) n).modCar c (fun y => { y with startAt := x }))) : p (s.carCtrl c v) := by
  rw [carCtrl_eq]
  split
  · split
    · exact hm 1 _
    · exact h
  · split
    · exact hp 0
    · exact h

theorem carCtrl_legs (s : State) (c : Nat) (v : Word) : (s.carCtrl c v).loom.legs = (s.carStored c v).loom.legs :=
  carCtrl_cases (p := fun t => t.loom.legs = (s.carStored c v).loom.legs) rfl (fun _ => by rw [put_loom])
    (fun _ _ => by rw [modCar_legs, put_loom])

theorem carCtrl_tls (s : State) (c : Nat) (v : Word) : (s.carCtrl c v).loom.tls = s.loom.tls :=
  (carCtrl_cases (p := fun t => t.loom.tls = (s.carStored c v).loom.tls) rfl (fun _ => by rw [put_loom])
    (fun _ _ => by rw [modCar_tls, put_loom])).trans
    ((carStored_follows s c v).tls.trans (congrArg Loom.tls (storePlain_moves s (R.LOOM_CARc c) v).loom))

theorem carCtrl_rd (s : State) (c : Nat) (v : Word) : (s.carCtrl c v).rd (R.LOOM_CARc c) = (s.carStored c v).rd (R.LOOM_CARc c) :=
  carCtrl_cases (p := fun t => t.rd (R.LOOM_CARc c) = (s.carStored c v).rd (R.LOOM_CARc c)) rfl
    (fun n => carPut_rd s c v n (CSTAT_ne_CAR c c).symm) (fun n _ => (modCar_rd ..).trans (carPut_rd s c v n (CSTAT_ne_CAR c c).symm))

/-- Without a change of HOLD no leg changes. -/
theorem carStored_legs {c : Nat} (h : (s.carStored c v).get (F.LOOM_CARc_HOLD c) = s.get (F.LOOM_CARc_HOLD c)) :
    (s.carStored c v).loom.legs = s.loom.legs := by
  have hget : (s.storePlain (R.LOOM_CARc c) v).get (F.LOOM_CARc_HOLD c) = s.get (F.LOOM_CARc_HOLD c) :=
    (get_congr (carStored_regs s c v) _).symm.trans h
  rw [carStored, if_pos hget]
  exact congrArg Loom.legs (storePlain_moves s (R.LOOM_CARc c) v).loom

theorem carrierControlWrite_keeps (c : Fin 8) (ha : s.accepts w (R.LOOM_CARc c) v) : Completes (.carrierControlWrite w c v) s fun t =>
      (t.get (F.LOOM_CARc_HOLD c) = s.get (F.LOOM_CARc_HOLD c) → t.loom.legs = s.loom.legs) ∧ t.loom.tls = s.loom.tls ∧
      (∀ l : Fin 24, (t.leg l).outH = (s.leg l).outH ∧ (t.leg l).outL = (s.leg l).outL ∧ (t.leg l).ref = (s.leg l).ref ∧
        (t.leg l).live = (s.leg l).live ∧ (t.leg l).actU = (s.leg l).actU ∧ (t.leg l).actD = (s.leg l).actD) := by
  have hmoves := carWrite_moves c ha
  refine ⟨_, rfl, fun h => ?_, ?_, fun l => ?_⟩
  · have hget : (s.carStored c v).get (F.LOOM_CARc_HOLD c) = s.get (F.LOOM_CARc_HOLD c) :=
      (get_of_rd (f := F.LOOM_CARc_HOLD c) (carCtrl_rd s c v)).symm.trans ((get_congr hmoves.regs _).symm.trans h)
    rw [hmoves.loom, carCtrl_legs, carStored_legs hget]
  · rw [hmoves.loom, carCtrl_tls]
  · obtain ⟨p, hp⟩ := (carStored_follows s c v).leg l
    rw [leg_congr hmoves.loom, leg_of_legs (carCtrl_legs s c v), hp, leg_congr (storePlain_moves s (R.LOOM_CARc c) v).loom]
    exact ⟨rfl, rfl, rfl, rfl, rfl, rfl⟩

/-! ### A write of a compare shadow (R178, R180) -/

/-- The shadow's register and field. -/
def shadowReg (l : Nat) (down : Bool) : Nat := if down then R.LOOM_LEGl_CMPD l else R.LOOM_LEGl_CMPU l
def shadowFld (l : Nat) (down : Bool) : Fld := if down then F.LOOM_LEGl_CMPD_POS l else F.LOOM_LEGl_CMPU_POS l

theorem shadowFld_addr (l : Nat) (down : Bool) : (shadowFld l down).addr = shadowReg l down := by cases down <;> rfl
theorem shadowFld_width (l : Nat) (down : Bool) : (shadowFld l down).lo = 0 ∧ (shadowFld l down).width = 26 := by cases down <;> exact ⟨rfl, rfl⟩

theorem movesPolicy_shadow (l : Fin 24) (down : Bool) : movesPolicy (shadowReg l down) = false := by revert l down; decide

theorem hook_shadow (s : State) (l : Fin 24) (down : Bool) (v : Word) : s.hook (shadowReg l down) v = s.loadShadow l down v := by
  cases down
  · exact hook_LOOM_LEGl_CMPU s v l
  · exact hook_LOOM_LEGl_CMPD s v l

theorem compareShadowWrite_gives (l : Fin 24) (down : Bool) (ha : s.accepts w (if down then R.LOOM_LEGl_CMPD l else R.LOOM_LEGl_CMPU l) v) :
    Completes (.compareShadowWrite w l down v) s fun t =>
      t.get (if down then F.LOOM_LEGl_CMPD_POS l else F.LOOM_LEGl_CMPU_POS l) = v.toNat % 2 ^ 26 ∧
      (∀ b, b ≠ (if down then R.LOOM_LEGl_CMPD l else R.LOOM_LEGl_CMPU l) → t.rd b = s.rd b) ∧
      (∀ k, k ≠ l.val → t.leg k = s.leg k) ∧ (t.leg l).outH = (s.leg l).outH ∧ (t.leg l).outL = (s.leg l).outL ∧ t.clk = s.clk := by
  have hmoves : Moves [.cycle, .tst] (s.loadShadow l down v) (s.write w (shadowReg l down) v) :=
    hook_shadow s l down v ▸ write_moves ha (movesPolicy_shadow l down)
  have hfollow := followShadow_follows (s.put (shadowFld l down) (v.toNat % 2 ^ 26)) l
  have hother (k : Nat) (hk : k ≠ l.val) := followShadow_other (s.put (shadowFld l down) (v.toNat % 2 ^ 26)) l.val hk
  have hload : s.loadShadow l down v = (s.put (shadowFld l down) (v.toNat % 2 ^ 26)).followShadow l := rfl
  rw [hload] at hmoves
  obtain ⟨hlo, hwidth⟩ := shadowFld_width l down
  refine ⟨_, rfl, (?_ : (s.write w (shadowReg l down) v).get (shadowFld l down) = _), fun b hb => ?_, fun k hk => ?_, ?_⟩
  · rw [get_congr hmoves.regs, get_congr hfollow.moves.regs, get_put_same _ _ _ (by omega), hwidth, Nat.mod_mod]
  · refine (rd_congr hmoves.regs b).trans ((rd_congr hfollow.moves.regs b).trans (rd_put_other _ _ _ _ ?_))
    exact fun h => hb (h.trans (shadowFld_addr l down))
  · exact (leg_congr hmoves.loom k).trans ((hother k hk).trans (leg_congr (put_loom ..) k))
  · obtain ⟨p, hp⟩ := hfollow.leg l
    have hleg : (s.write w (shadowReg l down) v).leg l = { s.leg l with pulse := p } := (leg_congr hmoves.loom l).trans hp
    exact ⟨(congrArg LegSt.outH hleg :), (congrArg LegSt.outL hleg :), hmoves.clk.trans hfollow.moves.clk⟩

/-! ### Writes of the trip lines (R188) -/

theorem transact_old (s t : State) (k n : Nat) : t.OldLast (s.transact t k n) := .same (.refl t) (transact_moves s t k n).cycle

theorem takePort_old (s : State) (a : Nat) : s.OldLast (s.takePort a) := by
  unfold takePort
  split
  · exact ⟨rfl⟩
  · exact .refl s

theorem write_old {a : Nat} (h : s.accepts w a v) (hp : movesPolicy a = false) : (s.hook a v).OldLast (s.write w a v) := by
  rw [write_accepted h, policyFor_plain _ hp]
  have hmark (u : State) (m : Word) : u.OldLast (u.markWritten a m) := ⟨rfl⟩
  exact ((hmark _ _).trans (transact_old ..)).trans (takePort_old ..)

theorem any_old_iff (s : State) (a : Nat) : s.cycle.old.any (fun x => x.1 == a) = true ↔ ∃ o, (a, o) ∈ s.cycle.old := by
  rw [List.any_eq_true]
  constructor
  · rintro ⟨⟨b, o⟩, hx, hb⟩
    obtain rfl : b = a := beq_iff_eq.mp hb
    exact ⟨o, hx⟩
  · rintro ⟨o, ho⟩
    exact ⟨(a, o), ho, beq_self_eq_true a⟩

/-- A held register is in the list, with what it held. -/
theorem keepOld_holds (s : State) (a : Nat) : ∃ o, (a, o) ∈ (s.keepOld a).cycle.old := by
  unfold keepOld
  split
  next h => exact (any_old_iff s a).mp h
  next => exact ⟨s.rd a, List.mem_cons_self⟩

theorem keepOld_moves (s : State) (a : Nat) : Moves [.cycle] s (s.keepOld a) := by
  unfold keepOld
  exact .ite (.refl s) (.record (.refl s) (by rfl))

/-- What is in force in this cycle stands when a held register takes another value. -/
theorem nowRd_keepOld {a : Nat} (ht : t.cycle.old = (s.keepOld a).cycle.old) : t.nowRd a = s.nowRd a := by
  unfold keepOld at ht
  split at ht
  next h =>
    obtain ⟨x, hx⟩ := Option.isSome_iff_exists.mp (List.find?_isSome.mpr (List.any_eq_true.mp h))
    rw [nowRd, nowRd, ht, hx]
    rfl
  next h =>
    have hnone : s.cycle.old.find? (fun x => x.1 == a) = none := List.find?_eq_none.mpr fun x hx hxa => h (List.any_eq_true.mpr ⟨x, hx, hxa⟩)
    have hfirst : ((a, s.rd a) :: s.cycle.old).find? (fun x => x.1 == a) = some (a, s.rd a) := List.find?_cons_of_pos (beq_self_eq_true a)
    rw [nowRd, nowRd, hnone, show t.cycle.old = (a, s.rd a) :: s.cycle.old from ht, hfirst]
    rfl

theorem heldWrite_gives {a : Nat} (ha : s.accepts w a v) (hp : movesPolicy a = false) (hh : s.hook a v = (s.keepOld a).storePlain a v) :
      (s.write w a v).rd a = s.stored a v ∧ (s.write w a v).nowRd a = s.nowRd a ∧ (s.write w a v).loom = s.loom ∧
      (∃ o, (a, o) ∈ (s.write w a v).cycle.old) ∧ (∀ b, b ≠ a → (s.write w a v).rd b = s.rd b) := by
  have hmoves := write_moves ha hp
  have hold := (write_old ha hp).old
  have hkeep := keepOld_moves s a
  have hstore := storePlain_moves (s.keepOld a) a v
  rw [hh] at hmoves hold
  have hold' := hold.trans (congrArg Cycle.old hstore.cycle)
  refine ⟨?_, nowRd_keepOld hold', ?_, ?_, fun b hb => ?_⟩
  · rw [rd_congr hmoves.regs, rd_storePlain_same]
    simp only [stored, rd_congr hkeep.regs]
  · rw [hmoves.loom, hstore.loom, hkeep.loom]
  · rw [hold']
    exact keepOld_holds s a
  · rw [rd_congr hmoves.regs, rd_storePlain_other _ _ hb, rd_congr hkeep.regs]

theorem movesPolicy_LOOM_TLk : ∀ k : Fin 16, movesPolicy (R.LOOM_TLk_CFG k) = false ∧ movesPolicy (R.LOOM_TLk_MASK k) = false := by decide

theorem tripLineCfgWrite_gives (k : Fin 16) (ha : s.accepts w (R.LOOM_TLk_CFG k) v) : Completes (.tripLineCfgWrite w k v) s fun t =>
      t.rd (R.LOOM_TLk_CFG k) = s.stored (R.LOOM_TLk_CFG k) v ∧ t.nowRd (R.LOOM_TLk_CFG k) = s.nowRd (R.LOOM_TLk_CFG k) ∧ t.loom = s.loom ∧
      (∃ o, (R.LOOM_TLk_CFG k, o) ∈ t.cycle.old) ∧ (∀ b, b ≠ R.LOOM_TLk_CFG k → t.rd b = s.rd b) :=
  ⟨_, rfl, heldWrite_gives ha (movesPolicy_LOOM_TLk k).1 (hook_LOOM_TLk_CFG s v k)⟩

theorem tripLineMaskWrite_gives (k : Fin 16) (ha : s.accepts w (R.LOOM_TLk_MASK k) v) : Completes (.tripLineMaskWrite w k v) s fun t =>
      t.rd (R.LOOM_TLk_MASK k) = s.stored (R.LOOM_TLk_MASK k) v ∧ t.nowRd (R.LOOM_TLk_MASK k) = s.nowRd (R.LOOM_TLk_MASK k) ∧
      t.loom = s.loom ∧ (∃ o, (R.LOOM_TLk_MASK k, o) ∈ t.cycle.old) ∧ (∀ b, b ≠ R.LOOM_TLk_MASK k → t.rd b = s.rd b) :=
  ⟨_, rfl, heldWrite_gives ha (movesPolicy_LOOM_TLk k).2 (hook_LOOM_TLk_MASK s v k)⟩

end State
end Sys2Proof.Machine

/-! Trip lines written in the cycle before, and releases (R188, R191, R192). -/

namespace Sys2Proof.Machine

set_option Elab.async false
namespace State

variable {s t u : State} {l n k : Nat} {v : Word} {w : World}

/-! ### The cycle after a write of a line's CFG (R188) -/

theorem TLSTAT_ne (h : n ≠ k) : R.LOOM_TLk_STAT k ≠ R.LOOM_TLk_STAT n := by simp only [R.LOOM_TLk_STAT]; omega

/-- Another line's status is no register of a written line. -/
theorem TLSTAT_not_lineRegs (hk : k < 16) (h : n ≠ k) : ¬ lineRegs n (R.LOOM_TLk_STAT k) := not_or.mpr ⟨TLSTAT_ne h, TLSTAT_free hk⟩

theorem lineRestarted_other (s was : State) (h : n ≠ k) : (s.lineRestarted was n).tl k = s.tl k := by
  unfold lineRestarted
  split
  · exact nth_upd_other _ _ _ _ _ h
  · rfl

theorem lineRestarted_length (s was : State) (n : Nat) : (s.lineRestarted was n).loom.tls.length = s.loom.tls.length := by
  unfold lineRestarted
  split
  · exact length_upd ..
  · rfl

theorem tlWritten_tls (s was : State) (n : Nat) : (s.tlWritten was n).loom.tls = (s.lineRestarted was n).loom.tls :=
  tlWritten_cases (p := fun t => t.loom.tls = (s.lineRestarted was n).loom.tls) rfl fun mask => blockLegs_tls _ .tl mask

theorem tlWritten_tl_other (s was : State) (h : n ≠ k) : (s.tlWritten was n).tl k = s.tl k :=
  (tl_congr (tlWritten_tls s was n) k).trans (lineRestarted_other s was h)

theorem tlWritten_length (s was : State) (n : Nat) : (s.tlWritten was n).loom.tls.length = s.loom.tls.length := by
  rw [tlWritten_tls, lineRestarted_length]

/-- A written CFG ends LIVE and begins the count anew. -/
theorem tlWritten_restarts {was : State} {o : Word} (ho : (R.LOOM_TLk_CFG k, o) ∈ was.cycle.old) (hk : k < 16) (hlen : k < s.loom.tls.length) :
    (s.tlWritten was k).on (F.LOOM_TLk_STAT_LIVE k) = false ∧ ((s.tlWritten was k).tl k).since = was.count ∧
      ((s.tlWritten was k).tl k).acted = false := by
  have hlive : (s.lineRestarted was k).on (F.LOOM_TLk_STAT_LIVE k) = false ∧ ((s.lineRestarted was k).tl k).since = was.count ∧
      ((s.lineRestarted was k).tl k).acted = false := by
    rw [lineRestarted, if_pos ((any_old_iff was _).mpr ⟨o, ho⟩)]
    refine ⟨(on_congr rfl _).trans (on_clr_same s (F.LOOM_TLk_STAT_LIVE k) (by simp)), ?_, ?_⟩ <;>
      rw [tl_modTl_same _ _ (by rw [clr_loom]; exact hlen)]
  obtain ⟨h1, h2, h3⟩ := hlive
  rw [tl_congr (tlWritten_tls s was k)]
  exact ⟨tlWritten_cases (p := fun t => t.on (F.LOOM_TLk_STAT_LIVE k) = false) h1
    fun mask => ((blockLegs_writes _ .tl mask).on (TLSTAT_free hk)).trans h1, h2, h3⟩

theorem TLSTAT_not_rest (k : Nat) (hk : k < 16) : ¬ restBlocks (R.LOOM_TLk_STAT k) := by
  simp only [restBlocks, irqRegs, stopBlocks, inBlock, blockBase, R.LOOM_TLk_STAT, R.CMP_IRQSTATj]
  rintro (⟨j, h⟩ | h) <;> omega

/-- The registers of the Loom below its drivers' block. -/
theorem loom_not_rest {b : Nat} (hb : inBlock 6 b) : ¬ restBlocks b := by
  simp only [restBlocks, irqRegs, stopBlocks, inBlock, blockBase, R.CMP_IRQSTATj] at hb ⊢
  rintro (⟨j, h⟩ | h) <;> omega

theorem loom_not_count {b : Nat} (hb : inBlock 6 b) : ¬ countBlocks b := by
  simp only [countBlocks, workBlocks, inBlock, blockBase, R.CLK_SYN0_TRIM] at hb ⊢
  omega

/-- What software writes of a trip line is no register of a written line. -/
theorem TLCFG_not_lineRegs (hk : k < 16) (n : Nat) : ¬ lineRegs n (R.LOOM_TLk_CFG k) ∧ ¬ lineRegs n (R.LOOM_TLk_MASK k) := by
  constructor <;>
  · simp only [lineRegs, blockRegs, inBlock, blockBase, R.LOOM_TLk_STAT, R.LOOM_TLk_CFG, R.LOOM_TLk_MASK, R.LOOM_LEGl_STAT, R.LOOM_STAT]
    rintro (h | ⟨l, hl, h⟩) <;> omega

theorem TLCFG_block (hk : k < 16) : inBlock 6 (R.LOOM_TLk_CFG k) ∧ inBlock 6 (R.LOOM_TLk_MASK k) := by
  simp only [inBlock, blockBase, R.LOOM_TLk_CFG, R.LOOM_TLk_MASK]
  omega

/-- A cycle leaves the CFG and the MASK of a line as they are. -/
theorem tick_lineCfg (s : State) (hk : k < 16) : s.tick.rd (R.LOOM_TLk_CFG k) = s.rd (R.LOOM_TLk_CFG k) ∧
    s.tick.rd (R.LOOM_TLk_MASK k) = s.rd (R.LOOM_TLk_MASK k) := by
  obtain ⟨hc, hm⟩ := TLCFG_block hk
  have hrd {b : Nat} (hb : inBlock 6 b) (hl : ∀ n, ¬ lineRegs n b) : s.tick.rd b = s.rd b := by
    rw [tick_rest]
    exact ((tickRest_writes _).rd (loom_not_rest hb)).trans ((tickLines_writes s).rd (not_or.mpr ⟨loom_not_count hb, fun ⟨n, _, h⟩ => hl n h⟩))
  exact ⟨hrd hc fun n => (TLCFG_not_lineRegs hk n).1, hrd hm fun n => (TLCFG_not_lineRegs hk n).2⟩

theorem nowRd_of_old (h : s.cycle.old = []) (a : Nat) : s.nowRd a = s.rd a := by rw [nowRd, h]; rfl

/-- The loop over the lines runs where something was written. -/
theorem tickLines_loop (h : s.cycle.old ≠ []) : s.tickLines = (s.tickCount.endEvent s).forAll 16 (fun k v => v.tlWritten s k) := by
  rw [tickLines, if_neg h]

theorem beforeLines_loom (s : State) : (s.tickCount.endEvent s).loom = s.loom := (endEvent_moves _ s).loom.trans (tickCount_moves s).loom

theorem cfgWritten_step (k : Fin 16) {o : Word} (hs : s.Shaped) (hp : s.pending = []) (ho : (R.LOOM_TLk_CFG k, o) ∈ s.cycle.old) :
    ∃ t, step s = .next t ∧ t.on (F.LOOM_TLk_STAT_LIVE k) = false ∧ (t.tl k).since = s.count ∧ (t.tl k).acted = false ∧
      t.nowRd (R.LOOM_TLk_CFG k) = s.rd (R.LOOM_TLk_CFG k) := by
  have hlines : s.tickLines.on (F.LOOM_TLk_STAT_LIVE k) = false ∧ (s.tickLines.tl k).since = s.count ∧ (s.tickLines.tl k).acted = false := by
    rw [tickLines_loop (List.ne_nil_of_mem ho)]
    refine forAll_turn (fun u => u.loom.tls.length = 16)
      (fun u => u.on (F.LOOM_TLk_STAT_LIVE k) = false ∧ (u.tl k).since = s.count ∧ (u.tl k).acted = false) ?_ (fun j u _ _ hu => ?_) (fun u hu => ?_)
      (fun j u _ hj hu => ?_) k.isLt
    · rw [beforeLines_loom, hs.tls]
    · rw [tlWritten_length, hu]
    · exact tlWritten_restarts ho k.isLt (k.isLt.trans_eq hu.symm)
    · rw [(tlWritten_writes u s j).on (TLSTAT_not_lineRegs k.isLt hj), tlWritten_tl_other u s hj]
      exact hu
  obtain ⟨h1, h2, h3⟩ := hlines
  refine ⟨s.tick, by rw [step, hp], ?_, ?_, ?_, ?_⟩
  · rw [tick_rest, (tickRest_writes _).on (TLSTAT_not_rest k k.isLt), h1]
  · rw [tick_rest, tl_congr (congrArg Loom.tls (tickRest_moves _).loom), h2]
  · rw [tick_rest, tl_congr (congrArg Loom.tls (tickRest_moves _).loom), h3]
  · rw [nowRd_of_old (tick_old s), (tick_lineCfg s k.isLt).1]

/-! ### The cycle after a write of a line's MASK (R188) -/

theorem testBit_ofBits (l : List Bool) (i : Nat) : (ofBits l).testBit i = l.getD i false := by
  have hcons (b : Bool) (xs : List Bool) : ofBits (b :: xs) = bit1 b + 2 * ofBits xs := rfl
  induction l generalizing i with
  | nil => exact Nat.zero_testBit i
  | cons b xs ih =>
    rw [hcons]
    cases i with
    | zero => cases b <;> simp [bit1, Nat.testBit_zero]
    | succ i =>
      have hdiv : (bit1 b + 2 * ofBits xs) / 2 = ofBits xs := by have := bit1_lt b; omega
      rw [Nat.testBit_succ, hdiv, ih, List.getD_cons_succ]

/-- A leg that is blocked, with both outputs off. -/
structure Off (t : State) (l : Nat) : Prop where
  blocked : t.on (F.LOOM_LEGl_STAT_BLOCKED l) = true
  outH : (t.leg l).outH = false
  outL : (t.leg l).outL = false

theorem Off.same (h : t.Off l) (hrd : u.rd (R.LOOM_LEGl_STAT l) = t.rd (R.LOOM_LEGl_STAT l)) (hleg : u.leg l = t.leg l) : u.Off l :=
  ⟨(on_of_rd (f := F.LOOM_LEGl_STAT_BLOCKED l) hrd).trans h.blocked, hleg ▸ h.outH, hleg ▸ h.outL⟩

theorem Blocked.off {cause : Cause} (h : t.Blocked cause l) : t.Off l := ⟨h.blocked, h.outH, h.outL⟩

/-- More blocks leave a leg off that is off. -/
theorem Off.blockLegs (h : t.Off l) (hl : l < 24) (cause : Cause) (mask : Nat) : (t.blockLegs cause mask).Off l := by
  cases hm : mask.testBit l with
  | true => exact (blockLegs_in t cause hl hm).off
  | false =>
    obtain ⟨hrd, hleg⟩ := blockLegs_out t cause hl hm
    exact h.same hrd hleg

theorem lineRestarted_legs (s was : State) (n : Nat) : (s.lineRestarted was n).loom.legs = s.loom.legs := by
  unfold lineRestarted
  split <;> rfl

theorem Off.tlWritten (h : t.Off l) (hl : l < 24) (was : State) (n : Nat) : (t.tlWritten was n).Off l := by
  have hrest : (t.lineRestarted was n).Off l :=
    h.same ((lineRestarted_writes t was n).rd (TLSTAT_ne_STAT n hl)) (leg_of_legs (lineRestarted_legs t was n) l)
  exact tlWritten_cases (p := fun u => u.Off l) hrest fun mask => hrest.blockLegs hl .tl mask

/-- The legs that a new MASK adds to a line that acts unblanked are blocked. -/
theorem tlWritten_blocks {was : State} {o : Word} (ho : (R.LOOM_TLk_MASK k, o) ∈ was.cycle.old) (hcfg : ∀ x ∈ was.cycle.old, x.1 ≠ R.LOOM_TLk_CFG k)
    (hlive : s.on (F.LOOM_TLk_STAT_LIVE k) = true) (hblank : s.nowOn (F.LOOM_TLk_CFG_BLANKABLE k) = false) (hl : l < 24)
    (hnew : bitAt (s.rd (R.LOOM_TLk_MASK k)) l = true) (hwas : bitAt (was.nowRd (R.LOOM_TLk_MASK k)) l = false) : (s.tlWritten was k).Off l := by
  have hnone : ¬ was.cycle.old.any (fun x => x.1 == R.LOOM_TLk_CFG k) = true := fun h => by
    obtain ⟨o', ho'⟩ := (any_old_iff was _).mp h
    exact hcfg _ ho' rfl
  have hrest : s.lineRestarted was k = s := if_neg hnone
  have hunblanked : s.tlBlanked k = false := by rw [tlBlanked, hblank, Bool.and_false, Bool.false_and]
  rw [tlWritten_eq, hrest, (any_old_iff was _).mpr ⟨o, ho⟩, hlive, hunblanked, Bool.not_false, Bool.and_self, Bool.and_self, if_pos rfl]
  refine (blockLegs_in s .tl hl ?_).off
  have hbit : s.bit (R.LOOM_TLk_MASK k) l = true := (on_eq_getLsbD s _ l).trans hnew
  rw [legsAdded, testBit_ofBits, List.getD_eq_getElem _ _ (by simpa using hl), List.getElem_map, List.getElem_range, hbit, hwas]
  rfl

/-- What the turn of line `k` finds: LIVE, its CFG and its MASK as they stand. -/
structure LineStands (s u : State) (k : Nat) : Prop where
  live : u.on (F.LOOM_TLk_STAT_LIVE k) = true
  cfg : u.rd (R.LOOM_TLk_CFG k) = s.rd (R.LOOM_TLk_CFG k)
  mask : u.rd (R.LOOM_TLk_MASK k) = s.rd (R.LOOM_TLk_MASK k)
  old : u.cycle.old = []

theorem maskWritten_step (k : Fin 16) {o : Word} (hp : s.pending = []) (ho : (R.LOOM_TLk_MASK k, o) ∈ s.cycle.old)
    (hcfg : ∀ x ∈ s.cycle.old, x.1 ≠ R.LOOM_TLk_CFG k) (hlive : s.on (F.LOOM_TLk_STAT_LIVE k) = true)
    (hblank : s.on (F.LOOM_TLk_CFG_BLANKABLE k) = false) :
    ∃ t, step s = .next t ∧ ∀ l : Fin 24, bitAt (s.rd (R.LOOM_TLk_MASK k)) l = true → bitAt (s.nowRd (R.LOOM_TLk_MASK k)) l = false →
      t.on (F.LOOM_LEGl_STAT_BLOCKED l) = true ∧ (t.leg l).outH = false ∧ (t.leg l).outL = false := by
  refine ⟨s.tick, by rw [step, hp], fun l hnew hwas => ?_⟩
  have hlines : s.tickLines.Off l := by
    rw [tickLines_loop (List.ne_nil_of_mem ho)]
    refine forAll_turn (fun u => s.LineStands u k) (fun u => u.Off l) ?_ (fun j u _ hj hu => ?_) (fun u hu => ?_) (fun j u _ _ hu => hu.tlWritten l.isLt s j) k.isLt
    · have hw : s.Writes countBlocks (s.tickCount.endEvent s) := Writes.regs (tickCount_writes s) (endEvent_moves _ s).regs
      obtain ⟨hc, hm⟩ := TLCFG_block k.isLt
      exact ⟨(hw.on (loom_not_count (by simp only [inBlock, blockBase, R.LOOM_TLk_STAT]; omega))).trans hlive, hw.rd (loom_not_count hc),
        hw.rd (loom_not_count hm), (congrArg Cycle.old (endEvent_moves _ s).cycle).trans (tickCount_old s)⟩
    · obtain ⟨h1, h2, h3, h4⟩ := hu
      obtain ⟨hc, hm⟩ := TLCFG_not_lineRegs k.isLt j
      have hw := tlWritten_writes u s j
      exact ⟨(hw.on (TLSTAT_not_lineRegs k.isLt hj)).trans h1, (hw.rd hc).trans h2, (hw.rd hm).trans h3, (tlWritten_old u s j).old.trans h4⟩
    · have hnow : u.nowOn (F.LOOM_TLk_CFG_BLANKABLE k) = false := by
        rw [nowOn, nowGet, nowRd_of_old hu.old, hu.cfg]
        exact hblank
      exact tlWritten_blocks ho hcfg hu.live hnow l.isLt (hu.mask ▸ hnew) hwas
  have hstat : inBlock 6 (R.LOOM_LEGl_STAT l) := by simp only [inBlock, blockBase, R.LOOM_LEGl_STAT]; omega
  obtain ⟨h1, h2, h3⟩ := hlines.same (u := s.tick) ((tickRest_writes _).rd (loom_not_rest hstat)) (leg_congr (tickRest_moves _).loom l)
  exact ⟨h1, h2, h3⟩

/-! ### A write of LOOM_UNBLOCK (R191) -/

/-- The registers that a release of leg `l` looks at: all but the status of other legs. -/
def releaseReads (l b : Nat) : Prop := b < 0x40060200 ∨ 0x40060600 ≤ b ∨ b = R.LOOM_LEGl_STAT l

theorem stagedOwner_lt {i : Nat} (h : s.stagedOwner i = some k) : k < 8 := by
  unfold stagedOwner at h
  dsimp only at h
  split at h
  · have := Option.some.inj h
    omega
  · exact absurd h (by simp)

theorem releasable_of_reads (hl : l < 24) (hr : ∀ b, releaseReads l b → t.rd b = s.rd b) (hm : Moves [.regs, .cycle] s t) (ho : t.cycle.old = s.cycle.old) :
    t.releasable l = s.releasable l := by
  have hon {f : Fld} (hf : releaseReads l f.addr) : t.on f = s.on f := on_of_rd (hr _ hf)
  have hget {f : Fld} (hf : releaseReads l f.addr) : t.get f = s.get f := get_of_rd (hr _ hf)
  have hbit {a i : Nat} (ha : releaseReads l a) : t.bit a i = s.bit a i := bit_congr (hr a ha)
  have hnow {a : Nat} (ha : releaseReads l a) : t.nowRd a = s.nowRd a := by rw [nowRd, nowRd, ho, hr a ha]
  have howner (i : Nat) (hi : i < 48) : t.stagedOwner i = s.stagedOwner i := by
    unfold stagedOwner
    rw [hget (f := ⟨R.MILL_STGOWNj (i / 8), 4 * (i % 8), 4⟩) (by simp only [releaseReads, R.MILL_STGOWNj]; omega)]
  have hcmp (w : Nat) : t.bit (R.CMP_WINw_MASK w) l = s.bit (R.CMP_WINw_MASK w) l ∧ t.on (F.CMP_WINw_STAT_CEIL w) = s.on (F.CMP_WINw_STAT_CEIL w) :=
    ⟨hbit (by simp only [releaseReads, R.CMP_WINw_MASK]; omega), hon (by simp only [releaseReads, R.CMP_WINw_STAT]; omega)⟩
  have hlink (n : Nat) : t.bit (R.GDP_LINKn_MASK n) l = s.bit (R.GDP_LINKn_MASK n) l ∧ t.on (F.GDP_LINKn_STAT_VTRIP n) = s.on (F.GDP_LINKn_STAT_VTRIP n) :=
    ⟨hbit (by simp only [releaseReads, R.GDP_LINKn_MASK]; omega), hon (by simp only [releaseReads, R.GDP_LINKn_STAT]; omega)⟩
  have hline (k : Nat) : t.nowRd (R.LOOM_TLk_MASK k) = s.nowRd (R.LOOM_TLk_MASK k) ∧ t.on (F.LOOM_TLk_STAT_LIVE k) = s.on (F.LOOM_TLk_STAT_LIVE k) :=
    ⟨hnow (by simp only [releaseReads, R.LOOM_TLk_MASK]; omega), hon (by simp only [releaseReads, R.LOOM_TLk_STAT]; omega)⟩
  have htrip {i k : Nat} (hk : s.stagedOwner i = some k) : t.on (F.MILL_TASKt_STAT_TRIPPED k) = s.on (F.MILL_TASKt_STAT_TRIPPED k) := by
    have := stagedOwner_lt hk
    exact hon (by simp only [releaseReads, R.MILL_TASKt_STAT]; omega)
  have hmill : t.millHolds l = s.millHolds l := by
    unfold millHolds
    simp only [List.any_cons, List.any_nil, howner (2 * l) (by omega), howner (2 * l + 1) (by omega)]
    rw [hon (f := F.MILL_STAT_ECC_FATAL) (by simp only [releaseReads, R.MILL_STAT]; omega)]
    cases h1 : s.stagedOwner (2 * l) with
    | none => cases h2 : s.stagedOwner (2 * l + 1) with
      | none => rfl
      | some _ => simp only [htrip h2]
    | some _ => cases h2 : s.stagedOwner (2 * l + 1) with
      | none => simp only [htrip h1]
      | some _ => simp only [htrip h1, htrip h2]
  have hgrp (g : Nat) : t.bit R.GDP_GRP_STAT g = s.bit R.GDP_GRP_STAT g ∧ t.group g = s.group g :=
    ⟨hbit (by simp only [releaseReads, R.GDP_GRP_STAT]; omega), by rw [group, hm.gdp, group]⟩
  have hclk {lo wd : Nat} : t.on ⟨R.CLK_STAT, lo, wd⟩ = s.on ⟨R.CLK_STAT, lo, wd⟩ := hon (by simp only [releaseReads, R.CLK_STAT]; omega)
  unfold releasable
  simp only [hcmp, hlink, hline, hgrp, hmill]
  rw [hbit (a := R.GDP_FLT_LATCH) (by simp only [releaseReads, R.GDP_FLT_LATCH]; omega),
    hon (f := F.LOOM_STAT_GEN) (by simp only [releaseReads, R.LOOM_STAT]; omega), hclk, hclk, hclk, hm.clk,
    hon (f := F.LOOM_DLL_FAIL) (by simp only [releaseReads, R.LOOM_DLL]; omega), hon (f := F.LOOM_LEGl_STAT_DLL l) (.inr (.inr rfl)), hm.loom]

/-- The turn of leg `l` in a write of LOOM_UNBLOCK. -/
def unblockTurn (mask l : Nat) (t : State) : State :=
  if mask.testBit l && t.on (F.LOOM_LEGl_STAT_BLOCKED l) then
    (if t.releasable l then t.set1 (F.LOOM_LEGl_STAT_PENDING l) else t.set1 (F.LOOM_LEGl_STAT_REL_REF l))
  else t

theorem unblock_eq (s : State) (mask : Nat) : s.unblock mask = s.forAll 24 (unblockTurn mask) := rfl

theorem unblockTurn_writes (mask l : Nat) (t : State) : t.Writes (· = R.LOOM_LEGl_STAT l) (unblockTurn mask l t) :=
  .ite (.ite (.set1At (f := F.LOOM_LEGl_STAT_PENDING l) (.refl t)) (.set1At (f := F.LOOM_LEGl_STAT_REL_REF l) (.refl t))) (.refl t)

theorem unblockTurn_moves (mask l : Nat) (t : State) : Moves [.regs, .cycle] t (unblockTurn mask l t) :=
  .ite (.ite (.put (.refl t)) (.put (.refl t))) (.refl t)

theorem unblockTurn_old (mask l : Nat) (t : State) : t.OldLast (unblockTurn mask l t) :=
  .ite (.ite (.set1 (.refl t)) (.set1 (.refl t))) (.refl t)

theorem unblock_moves (s : State) (mask : Nat) : Moves [.regs, .cycle] s (s.unblock mask) :=
  Moves.forAll (.refl s) fun l u hu => hu.trans (unblockTurn_moves mask l u)

/-- The turns of other legs leave leg `l` as it was asked. -/
structure OthersAsked (s u : State) (l : Nat) : Prop where
  reads : ∀ b, releaseReads l b → u.rd b = s.rd b
  moves : Moves [.regs, .cycle] s u
  old : s.OldLast u

theorem STAT_not_read {j : Nat} (hj : j < 24) (h : j ≠ l) {b : Nat} (hb : releaseReads l b) : b ≠ R.LOOM_LEGl_STAT j := by
  simp only [releaseReads, R.LOOM_LEGl_STAT] at hb ⊢
  omega

/-- What a write of LOOM_UNBLOCK leaves in a leg's status is what the leg's own turn leaves. -/
theorem unblock_turn (s : State) (mask : Nat) (hl : l < 24) :
    ∃ u, s.OthersAsked u l ∧ (s.unblock mask).rd (R.LOOM_LEGl_STAT l) = (unblockTurn mask l u).rd (R.LOOM_LEGl_STAT l) := by
  rw [unblock_eq]
  refine forAll_turn (fun u => s.OthersAsked u l) (fun t => ∃ u, s.OthersAsked u l ∧ t.rd (R.LOOM_LEGl_STAT l) = (unblockTurn mask l u).rd (R.LOOM_LEGl_STAT l))
    ⟨fun _ _ => rfl, .refl s, .refl s⟩ (fun j u hj hjl hu => ?_) (fun u hu => ⟨u, hu, rfl⟩) (fun j u hj hjl hu => ?_) hl
  · exact ⟨fun b hb => ((unblockTurn_writes mask j u).rd (STAT_not_read hj hjl hb)).trans (hu.reads b hb),
      hu.moves.trans (unblockTurn_moves mask j u), hu.old.trans (unblockTurn_old mask j u)⟩
  · obtain ⟨u', hu', hrd⟩ := hu
    exact ⟨u', hu', ((unblockTurn_writes mask j u).rd (STAT_not_read hj hjl (.inr (.inr rfl)))).trans hrd⟩

theorem OthersAsked.blocked (h : s.OthersAsked u l) : u.on (F.LOOM_LEGl_STAT_BLOCKED l) = s.on (F.LOOM_LEGl_STAT_BLOCKED l) :=
  on_of_rd (h.reads _ (.inr (.inr rfl)))

theorem OthersAsked.releasable (h : s.OthersAsked u l) (hl : l < 24) : u.releasable l = s.releasable l := releasable_of_reads hl h.reads h.moves h.old.old

theorem bitAt_testBit (v : Word) (l : Fin 24) : (v.toNat % 2 ^ 24).testBit l = bitAt v l := by
  rw [Nat.testBit_mod_two_pow, bitAt_eq_getLsbD, decide_eq_true l.isLt, Bool.true_and]
  rfl

theorem unblockRequest_gives (ha : s.accepts w R.LOOM_UNBLOCK v) : Completes (.unblockRequest w v) s fun t =>
      t.loom = s.loom ∧ t.clk = s.clk ∧
      (∀ l : Fin 24, bitAt v l = true → s.on (F.LOOM_LEGl_STAT_BLOCKED l) = true → s.releasable l = true →
        t.on (F.LOOM_LEGl_STAT_PENDING l) = true) ∧
      (∀ l : Fin 24, bitAt v l = true → s.on (F.LOOM_LEGl_STAT_BLOCKED l) = true → s.releasable l = false →
        t.on (F.LOOM_LEGl_STAT_REL_REF l) = true ∧ t.get (F.LOOM_LEGl_STAT_PENDING l) = s.get (F.LOOM_LEGl_STAT_PENDING l)) ∧
      (∀ l : Fin 24, bitAt v l = false ∨ s.on (F.LOOM_LEGl_STAT_BLOCKED l) = false →
        t.rd (R.LOOM_LEGl_STAT l) = s.rd (R.LOOM_LEGl_STAT l)) := by
  have hmoves := write_moves ha (by decide)
  rw [hook_LOOM_UNBLOCK] at hmoves
  have hask := unblock_moves s (v.toNat % 2 ^ 24)
  refine ⟨_, rfl, hmoves.loom.trans hask.loom, hmoves.clk.trans hask.clk, fun l hv hb hr => ?_, fun l hv hb hr => ?_, fun l hno => ?_⟩ <;>
    obtain ⟨u, hu, hrd⟩ := unblock_turn s (v.toNat % 2 ^ 24) l.isLt <;>
    rw [unblockTurn, bitAt_testBit, hu.blocked] at hrd
  · rw [hv, hb, hu.releasable l.isLt, hr, Bool.and_self, if_pos rfl, if_pos rfl] at hrd
    exact (on_of_rd (f := F.LOOM_LEGl_STAT_PENDING l) ((rd_congr hmoves.regs _).trans hrd)).trans (on_set1_same _ _ (by simp) (by simp))
  · rw [hv, hb, hu.releasable l.isLt, hr, Bool.and_self, if_pos rfl, if_neg Bool.false_ne_true] at hrd
    constructor
    · exact (on_of_rd (f := F.LOOM_LEGl_STAT_REL_REF l) ((rd_congr hmoves.regs _).trans hrd)).trans (on_set1_same _ _ (by simp) (by simp))
    · rw [get_of_rd (f := F.LOOM_LEGl_STAT_PENDING l) ((rd_congr hmoves.regs _).trans hrd),
        get_set1_other _ (F.LOOM_LEGl_STAT_REL_REF l) _ (by simp) (.inr (by simp))]
      exact get_of_rd (hu.reads _ (.inr (.inr rfl)))
  · have hfalse : (bitAt v l && s.on (F.LOOM_LEGl_STAT_BLOCKED l)) = false := by rcases hno with h | h <;> simp [h]
    rw [hfalse, if_neg Bool.false_ne_true] at hrd
    exact (rd_congr hmoves.regs _).trans (hrd.trans (hu.reads _ (.inr (.inr rfl))))

/-! ### A release takes effect (R191, R192) -/

/-- The registers of a release: the leg's status, and the summary. -/
def releaseRegs (l b : Nat) : Prop := b = R.LOOM_LEGl_STAT l ∨ b = R.LOOM_STAT

theorem releaseLeg_writes (s : State) (l : Nat) : s.Writes (releaseRegs l) (s.releaseLeg l) :=
  .putB (.putBit (.wr (.refl s) (.inl rfl)) (.inr rfl)) (.inr rfl)

theorem releaseLeg_moves (s : State) (l : Nat) : Moves [.regs, .cycle] s (s.releaseLeg l) := putB_moves (.put (.wr (.refl s))) _ _

theorem releaseLeg_stat (s : State) (l : Nat) : (s.releaseLeg l).rd (R.LOOM_LEGl_STAT l) =
    setBits (setBits (s.rd (R.LOOM_LEGl_STAT l)) 0 12 0) 13 2 0 := by
  have hwr : (s.wr (R.LOOM_LEGl_STAT l) (setBits (setBits (s.rd (R.LOOM_LEGl_STAT l)) 0 12 0) 13 2 0)).rd (R.LOOM_LEGl_STAT l) = _ :=
    (rd_wr ..).trans (if_pos rfl)
  unfold releaseLeg
  dsimp only
  rw [putB, rd_put_other _ F.LOOM_STAT_ILK_ANY _ _ (STAT_ne_LOOM_STAT l), rd_putBit_other _ _ _ (STAT_ne_LOOM_STAT l), hwr]

theorem releaseLeg_on (s : State) (l : Nat) {lo : Nat} (hlo : lo < 12) : (s.releaseLeg l).on ⟨R.LOOM_LEGl_STAT l, lo, 1⟩ = false := by
  rw [on_eq_getLsbD, releaseLeg_stat, getLsbD_setBits _ _ _ _ _ (by omega), if_neg (by omega), getLsbD_setBits _ _ _ _ _ (by omega),
    if_pos (by omega), Nat.zero_testBit]

theorem releaseLeg_summary (s : State) (hl : l < 24) : (s.releaseLeg l).bit R.LOOM_STAT l = false := by
  unfold releaseLeg
  dsimp only
  rw [bit_eq_on, on_putB_other _ F.LOOM_STAT_ILK_ANY _ _ (by simp) (.inr (.inl (by simp; omega)))]
  exact on_putBit_same _ _ _ _ (by omega)

/-- The leg that resumes has the pulse of its valley before it. -/
def resumeReady (s : State) (l : Nat) : State :=
  (s.clearCarries l).modLeg l (fun x => { x with live := true, ref := !decide (0 < ((s.clearCarries l).leg l).actU) })

theorem resumeLeg_eq (s : State) (l : Nat) : s.resumeLeg l = if (s.clearCarries l).legMay l then
    (s.resumeReady l).openPulse l (decide (0 < ((s.clearCarries l).leg l).actU)) (s.clearCarries l).now else s.clearCarries l := rfl

theorem resumeReady_writes (s : State) (l : Nat) : s.Writes (· = R.LOOM_LEGl_STAT l) (s.resumeReady l) := by
  unfold resumeReady
  exact (clearCarries_writes s l).regs (modLeg_regs ..)

theorem modLeg_moves (s : State) (l : Nat) (f : LegSt → LegSt) : Moves [.loom] s (s.modLeg l f) := .record (.refl s) (by rfl)

theorem resumeReady_moves (s : State) (l : Nat) : Moves [.regs, .cycle, .loom] s (s.resumeReady l) := by
  unfold resumeReady
  exact (clearCarries_moves s l).trans ((modLeg_moves _ l _).mono (by decide))

theorem resumeReady_work (s : State) (l : Nat) : s.LegWork (s.resumeReady l) l := by
  unfold resumeReady
  exact (clearCarries_work (.refl s l)).modLeg _

theorem resumeLeg_writes (s : State) (l : Nat) : s.Writes (pulseRegs l) (s.resumeLeg l) := by
  have h : s.Writes (pulseRegs l) (s.clearCarries l) := (clearCarries_writes s l).mono fun _ hb => .inl hb
  rw [resumeLeg_eq]
  exact .ite (Writes.trans ((resumeReady_writes s l).mono fun _ hb => .inl hb) (openPulse_writes _ l _ _)) h

theorem resumeLeg_moves (s : State) (l : Nat) : Moves [.regs, .cycle, .loom] s (s.resumeLeg l) := by
  have h := clearCarries_moves s l
  rw [resumeLeg_eq]
  exact .ite ((resumeReady_moves s l).trans (openPulse_moves _ l _ _)) h

theorem resumeLeg_work (s : State) (l : Nat) : s.LegWork (s.resumeLeg l) l := by
  have h : s.LegWork (s.clearCarries l) l := clearCarries_work (.refl s l)
  rw [resumeLeg_eq]
  exact .ite ((resumeReady_work s l).trans (openPulse_work _ l _ _)) h

theorem clearCarries_leg (s : State) (hl : l < s.loom.legs.length) : (s.clearCarries l).leg l = { s.leg l with carryH := 0, carryL := 0 } := by
  rw [clearCarries, leg_congr ((clr_loom ..).trans (clr_loom ..)), leg_modLeg_same s _ hl]

/-- A leg that resumes keeps its outputs. -/
theorem resumeLeg_outs (s : State) (hl : l < s.loom.legs.length) :
    ((s.resumeLeg l).leg l).outH = (s.leg l).outH ∧ ((s.resumeLeg l).leg l).outL = (s.leg l).outL := by
  have hleg := clearCarries_leg s hl
  have hlen : l < (s.clearCarries l).loom.legs.length := by rw [(clearCarries_work (LegWork.refl s l)).length]; exact hl
  have hlen' : l < (s.resumeReady l).loom.legs.length := hlen.trans_eq (length_upd ..).symm
  have hready : ((s.resumeReady l).leg l).outH = (s.leg l).outH ∧ ((s.resumeReady l).leg l).outL = (s.leg l).outL := by
    rw [resumeReady, leg_modLeg_same _ _ hlen, hleg]
    exact ⟨rfl, rfl⟩
  rw [resumeLeg_eq]
  split
  · obtain ⟨-, hH, hL⟩ := openPulse_opened (s.resumeReady l) (decide (0 < ((s.clearCarries l).leg l).actU)) (s.clearCarries l).now hlen'
    exact ⟨hH.trans hready.1, hL.trans hready.2⟩
  · rw [hleg]
    exact ⟨rfl, rfl⟩

theorem pulseNoted_on (s : State) (l : Nat) (high : Bool) (v : Verdict) {g : Fld} (ha : g.addr = R.LOOM_LEGl_STAT l) (hg : g.lo + g.width ≤ 13) :
    (s.pulseNoted l high v).on g = s.on g := by
  have hshort : (if v.short then s.incS (F.LOOM_LEGl_CNT_SHORT l) else s).on g = s.on g := by
    split
    · exact on_put_other _ (F.LOOM_LEGl_CNT_SHORT l) _ _ (by simp) (.inl (ha ▸ LEGCNT_ne_LEGSTAT l l))
    · rfl
  unfold pulseNoted
  split
  · rw [← hshort]
    generalize (if v.short then s.incS (F.LOOM_LEGl_CNT_SHORT l) else s) = u
    unfold putCarry
    split
    · rw [on_putB_other _ (F.LOOM_LEGl_STAT_CARRY_H l) _ _ (by simp) (.inr (.inl hg))]
      exact on_congr rfl g
    · rw [on_putB_other _ (F.LOOM_LEGl_STAT_CARRY_L l) _ _ (by simp) (.inr (.inl (by simp; omega)))]
      exact on_congr rfl g
  · exact hshort

theorem resumeLeg_on (s : State) (l : Nat) {g : Fld} (ha : g.addr = R.LOOM_LEGl_STAT l) (hg : g.lo + g.width ≤ 13) : (s.resumeLeg l).on g = s.on g := by
  have h := clearCarries_on s l (.inr hg)
  rw [resumeLeg_eq]
  split
  · rw [openPulse_eq]
    refine (on_congr (modLeg_regs ..) g).trans ((pulseNoted_on _ l _ _ ha hg).trans ?_)
    exact (on_congr (modLeg_regs ..) g).trans h
  · exact h

theorem legResume_gives (l : Fin 24) (hs : s.Shaped) (hv : s.valleyNow (s.legCar l) = true) (hp : s.on (F.LOOM_LEGl_STAT_PENDING l) = true) :
    Completes (.legResume l) s fun t =>
      t.on (F.LOOM_LEGl_STAT_BLOCKED l) = false ∧ t.on (F.LOOM_LEGl_STAT_PENDING l) = false ∧ t.bit R.LOOM_STAT l = false ∧
      (t.leg l).outH = (s.leg l).outH ∧ (t.leg l).outL = (s.leg l).outL ∧ (∀ k, k ≠ l.val → t.leg k = s.leg k) ∧ t.clk = s.clk ∧
      (∀ b, b ≠ R.LOOM_LEGl_STAT l → b ≠ R.LOOM_LEGl_CNT l → b ≠ R.LOOM_STAT → t.rd b = s.rd b) := by
  have heq : s.legResume l = (s.releaseLeg l).resumeLeg l := by
    unfold legResume
    rw [if_pos hv, if_pos hp]
  refine ⟨_, congrArg Host.Outcome.next heq, ?_⟩
  have hloom := (releaseLeg_moves s l).loom
  obtain ⟨hH, hL⟩ := resumeLeg_outs (s.releaseLeg l) (l := l) (by rw [hloom]; exact l.isLt.trans_eq hs.legs.symm)
  rw [leg_congr hloom] at hH hL
  refine ⟨(resumeLeg_on _ l rfl (by simp)).trans (releaseLeg_on s l (by omega)), (resumeLeg_on _ l rfl (by simp)).trans (releaseLeg_on s l (by omega)), ?_, hH,
    hL, fun k hk => ?_, (resumeLeg_moves _ l).clk.trans (releaseLeg_moves s l).clk, fun b h1 h2 h3 => ?_⟩
  · have hrd : ((s.releaseLeg l).resumeLeg l).rd R.LOOM_STAT = (s.releaseLeg l).rd R.LOOM_STAT :=
      (resumeLeg_writes _ l).rd (not_or.mpr ⟨(STAT_ne_LOOM_STAT l).symm, by simp only [R.LOOM_STAT, R.LOOM_LEGl_CNT]; omega⟩)
    exact (bit_congr hrd).trans (releaseLeg_summary s l.isLt)
  · rw [(resumeLeg_work _ l).other hk, leg_congr hloom]
  · exact ((resumeLeg_writes _ l).rd (not_or.mpr ⟨h1, h2⟩)).trans ((releaseLeg_writes s l).rd (not_or.mpr ⟨h1, h3⟩))

end State

/-- Settles O19: a write's or a cycle's own lemma each. -/
theorem loomWrites : Obligations.LoomWrites :=
  ⟨fun _ _ c _ hs ha => ⟨State.carrierControlWrite_waits c hs ha, State.carrierControlWrite_stops c ha, State.carrierControlWrite_stays c ha,
      State.carrierControlWrite_keeps c ha⟩,
    fun _ _ l down _ ha => State.compareShadowWrite_gives l down ha, fun _ _ k _ ha => State.tripLineCfgWrite_gives k ha,
    fun _ _ k _ ha => State.tripLineMaskWrite_gives k ha, fun _ k _ hs hp _ ho => State.cfgWritten_step k hs hp ho,
    fun _ k _ _ hp _ ho hcfg hlive hblank => State.maskWritten_step k hp ho hcfg hlive hblank, fun _ _ _ ha => State.unblockRequest_gives ha,
    fun _ l hs hv hp => State.legResume_gives l hs hv hp⟩

end Sys2Proof.Machine

/-! Transitions between modes: what a transition leaves alone, and LIMP (R30, R375, R378). -/

namespace Sys2Proof.Machine

set_option Elab.async false
namespace State

variable {s t u : State} {l n k : Nat}

/-! ### Steps beside the legs and the clock -/

/-- The registers beside those of SYS, of CLK and of the legs. -/
abbrev asideRegs (b : Nat) : Prop := 0x40020000 ≤ b ∧ (b < 0x40060200 ∨ 0x40060600 ≤ b)

/-- All parts but the clock, the Loom, and what no transition of a mode touches. -/
abbrev asideParts : List Part :=
  [.regs, .cycle, .rtc, .mram, .events, .stew, .draws, .tst, .gdp, .cmp, .acq, .prism, .wvn, .mill, .tasks, .grn, .shf, .ring]

/-- A step that leaves the legs, the clock and the mode alone. -/
structure Aside (s t : State) : Prop where
  moves : Moves asideParts s t
  writes : s.Writes asideRegs t

namespace Aside

theorem refl (s : State) : s.Aside s := ⟨.refl s, .refl s⟩
theorem trans (h : s.Aside t) (h' : t.Aside u) : s.Aside u := ⟨h.moves.trans h'.moves, h.writes.trans h'.writes⟩
theorem of {F : List Part} {P : Nat → Prop} (hm : Moves F s t) (hw : s.Writes P t) (hP : ∀ b, P b → asideRegs b) (hF : F ⊆ asideParts := by decide) :
    s.Aside t := ⟨hm.mono hF, hw.mono hP⟩
theorem still {F : List Part} (hm : Moves F s t) (hr : F.elem .regs = false := by decide) (hF : F ⊆ asideParts := by decide) : s.Aside t :=
  ⟨hm.mono hF, .of_regs (hm.regs hr)⟩
theorem put (h : s.Aside t) {f : Fld} {n : Nat} (hf : asideRegs f.addr) : s.Aside (t.put f n) := ⟨h.moves.put, h.writes.put hf⟩
theorem set1 (h : s.Aside t) {f : Fld} (hf : asideRegs f.addr) : s.Aside (t.set1 f) := h.put hf
theorem clr (h : s.Aside t) {f : Fld} (hf : asideRegs f.addr) : s.Aside (t.clr f) := h.put hf
theorem incW (h : s.Aside t) {f : Fld} (hf : asideRegs f.addr) : s.Aside (t.incW f) := h.put hf
theorem putB (h : s.Aside t) {f : Fld} {b : Bool} (hf : asideRegs f.addr) : s.Aside (t.putB f b) := h.put hf
theorem putBit (h : s.Aside t) {a i : Nat} {b : Bool} (ha : asideRegs a) : s.Aside (t.putBit a i b) := ⟨h.moves.put, h.writes.putBit ha⟩
theorem wr (h : s.Aside t) {a : Nat} {v : Word} (ha : asideRegs a) : s.Aside (t.wr a v) := ⟨h.moves.wr, h.writes.wr ha⟩
theorem raise (h : s.Aside t) {src : Nat} : s.Aside (t.raise src) := ⟨h.moves.raise, h.writes.raise⟩
theorem log (h : s.Aside t) {code block : Nat} {sev : Severity} {data : List Byte} : s.Aside (t.log code block sev data) := ⟨h.moves.log, h.writes.log⟩
theorem record (h : s.Aside t) (hr : u.regs = t.regs) (hu : u = t.patch asideParts u := by rfl) : s.Aside u := ⟨h.moves.record hu, h.writes.regs hr⟩
theorem ite {p : Prop} [Decidable p] (ht : s.Aside t) (hu : s.Aside u) : s.Aside (if p then t else u) := by split <;> assumption
theorem forAll (h : s.Aside t) {n : Nat} {f : Nat → State → State} (hf : ∀ i u, i < n → s.Aside u → s.Aside (f i u)) : s.Aside (t.forAll n f) :=
  forAll_rec (p := fun _ u => s.Aside u) h fun i u hi hu => hf i u hi hu

end Aside

theorem aside_block {i b : Nat} (hi : 2 ≤ i) (h6 : i ≠ 6) (h : inBlock i b) : asideRegs b := by
  simp only [asideRegs, inBlock, blockBase] at h ⊢
  omega

/-! ### The blocks at a transition -/

theorem leaveService_aside (s : State) : s.Aside s.leaveService := by
  unfold leaveService
  exact .clr (.forAll (.refl s) fun k u _ hu => hu.clr (by simp only [asideRegs, R.TST_DLYk]; omega)) (by decide)

theorem millHalt_aside (s : State) : s.Aside s.millHalt := by
  unfold millHalt
  exact Aside.clr (f := F.MILL_STAT_BUSY) (.record (.refl s) (by rfl) (by rfl)) (by decide)

theorem millStop_aside (s : State) : s.Aside s.millStop := by
  unfold millStop
  exact (millHalt_aside s).forAll fun k u hk hu => Aside.clr (f := F.MILL_TASKt_STAT_ACTIVE k) (.record hu (by rfl) (by rfl))
    (by simp only [asideRegs, R.MILL_TASKt_STAT]; omega)

theorem convStarts_aside (s : State) : s.Aside s.convStarts := by
  have hcal : s.Aside (s.clr F.ACQ_STAT_CAL_DONE) := .clr (.refl s) (by decide)
  unfold convStarts
  dsimp only
  exact .record (.ite hcal (hcal.put (by decide))) rfl

theorem setStart_aside (s : State) (hk : k < 4) : s.Aside (s.setStart k) :=
  .of (setStart_moves s k) (setStart_writes (.refl s) hk) fun _ => aside_block (by decide) (by decide)

theorem mppStart_aside (s : State) (hk : k < 8) : s.Aside (s.mppStart k) :=
  .of (mppStart_moves s k) (mppStart_writes (.refl s) hk) fun _ => aside_block (by decide) (by decide)

/-- The streams and the windows begin afresh. -/
def streamsStart (s : State) : State :=
  (s.modPrism (fun p => { p with
    interval := s.count / 12500, ended := none, streams := List.replicate 40 {}
    wins := p.wins.map (fun w => { w with open_ := none, closed := none }) })).modWvn (fun w => { w with interval := s.count / 5000, ended := none })

theorem streamsStart_aside (s : State) : s.Aside s.streamsStart := .still (F := [.prism, .wvn]) (.record (.refl s) (by rfl))

theorem observersStart_eq (s : State) : s.observersStart =
    (s.streamsStart.forAll 4 (fun k u => if bitAt u.wvn.active k then u.setStart k else u)).forAll 8
      (fun m u => if bitAt u.wvn.active (8 + m) then u.mppStart m else u) := rfl

theorem observersStart_aside (s : State) : s.Aside s.observersStart := by
  rw [observersStart_eq]
  exact ((streamsStart_aside s).forAll fun k u hk hu => .ite (hu.trans (setStart_aside u hk)) hu).forAll fun m u hm hu =>
    .ite (hu.trans (mppStart_aside u hm)) hu

theorem encResume_aside (s : State) (n : Nat) : s.Aside (s.encResume n) := .still (F := [.shf]) (.record (.refl s) (by rfl))

theorem encStart_aside (s : State) (hn : n < 2) : s.Aside (s.encStart n) := by
  unfold encStart
  have hstat : asideRegs (R.SHF_ENCn_STAT n) := by simp only [asideRegs, R.SHF_ENCn_STAT]; omega
  exact .clr (.clr (.wr (.still (F := [.shf]) (.record (.refl s) (by rfl))) (by simp only [asideRegs, R.SHF_ENCn_POS]; omega)) hstat) hstat

theorem emuStart_aside (s : State) : s.Aside s.emuStart := by
  unfold emuStart
  exact .ite (.record (.put (.refl s) (by decide)) rfl) (.refl s)

/-- Encoder `n` takes its samples again. -/
def encReturns (s : State) (n : Nat) : State := if (s.encResume n).shf.active.getLsbD n then (s.encResume n).encStart n else s.encResume n

theorem encRestart_eq (s : State) : s.encRestart = (s.forAll 2 (fun n u => u.encReturns n)).emuStart := rfl

theorem encRestart_aside (s : State) : s.Aside s.encRestart := by
  rw [encRestart_eq]
  exact (Aside.forAll (.refl s) fun n u hn hu => hu.trans (.ite ((encResume_aside u n).trans (encStart_aside _ hn)) (encResume_aside u n))).trans
    (emuStart_aside _)

theorem modWin_aside (s : State) (w : Nat) (f : CmpWin → CmpWin) : s.Aside (s.modWin w f) := .still (F := [.cmp]) (.record (.refl s) (by rfl))

theorem gdRefreshAll_aside (s : State) : s.Aside s.gdRefreshAll :=
  .of (gdRefreshAll_moves s) (gdRefreshAll_writes s) fun _ => aside_block (by decide) (by decide)

/-- The registers of chopper `n`: its status, and the summary. -/
def linkRegs (n b : Nat) : Prop := b = R.GDP_LINKn_STAT n ∨ b = R.GDP_STAT

theorem brkOn_writes (s : State) (n : Nat) : s.Writes (linkRegs n) (s.brkOn n) := by
  unfold brkOn
  dsimp only
  exact .ite (.refl s) (.raise (Writes.incW (f := F.GDP_LINKn_STAT_ONCNT n) (Writes.regs (Writes.putBit (Writes.set1 (.refl s) (.inl rfl)) (.inr rfl)) (by rfl))
    (.inl rfl)))

theorem brkOn_moves (s : State) (n : Nat) : Moves [.regs, .cycle, .gdp, .events, .stew] s (s.brkOn n) := by
  unfold brkOn
  dsimp only
  exact .ite (.refl s) (.raise (.put (Moves.record (.put (.put (.refl s))) (by rfl))))

theorem brkOff_writes (s : State) (n : Nat) : s.Writes (linkRegs n) (s.brkOff n) := by
  unfold brkOff
  dsimp only
  exact .ite (Writes.regs (Writes.putBit (Writes.clr (.refl s) (.inl rfl)) (.inr rfl)) (by rfl)) (.refl s)

theorem brkOff_moves (s : State) (n : Nat) : Moves [.regs, .cycle, .gdp] s (s.brkOff n) := by
  unfold brkOff
  dsimp only
  exact .ite (Moves.record (.put (.put (.refl s))) (by rfl)) (.refl s)

theorem brkStep_writes (s : State) (n : Nat) : s.Writes (linkRegs n) (s.brkStep n) := by
  unfold brkStep
  extract_lets -underBinder t
  have ht : s.Writes (linkRegs n) t := .putB (.refl s) (.inl rfl)
  split
  · exact ht.trans (brkOn_writes t n)
  · have hoff := ht.trans (brkOff_writes t n)
    exact .ite (hoff.set1 (.inl rfl)) hoff
  · exact ht

theorem brkStep_moves (s : State) (n : Nat) : Moves [.regs, .cycle, .gdp, .events, .stew] s (s.brkStep n) := by
  unfold brkStep
  extract_lets -underBinder t
  have ht : Moves [.regs, .cycle, .gdp, .events, .stew] s t := putB_moves (.refl s) _ _
  split
  · exact ht.trans (brkOn_moves t n)
  · have hoff := ht.trans ((brkOff_moves t n).mono (by decide))
    exact .ite hoff.set1 hoff
  · exact ht

/-- The registers of both choppers. -/
def brkRegs (b : Nat) : Prop := linkRegs 0 b ∨ linkRegs 1 b

theorem brkStepAll_writes (s : State) : s.Writes brkRegs s.brkStepAll :=
  ((brkStep_writes s 0).mono fun _ h => .inl h).trans ((brkStep_writes _ 1).mono fun _ h => .inr h)

theorem brkStepAll_moves (s : State) : Moves [.regs, .cycle, .gdp, .events, .stew] s s.brkStepAll := (brkStep_moves s 0).trans (brkStep_moves _ 1)

theorem brkStepAll_aside (s : State) : s.Aside s.brkStepAll :=
  .of (brkStepAll_moves s) (brkStepAll_writes s) fun b hb => by
    simp only [brkRegs, linkRegs, asideRegs, R.GDP_LINKn_STAT, R.GDP_STAT] at hb ⊢
    omega

theorem ringEvent_aside (s : State) (src : Nat) (sev : Severity) : s.Aside (s.ringEvent src sev) := .log (.raise (.refl s))

theorem RING_STAT_aside : asideRegs R.RING_STAT := by decide

theorem ringEvent_writes (s : State) (src : Nat) (sev : Severity) {P : Nat → Prop} : s.Writes P (s.ringEvent src sev) := .log (.raise (.refl s))

theorem lockFld_addr (p : Port) : (lockFld p).addr = R.RING_STAT := by cases p <;> rfl
theorem wrapFld_addr (p : Port) : (wrapFld p).addr = R.RING_STAT := by cases p <;> rfl

theorem setPortLock_writes (s : State) (p : Port) (b : Bool) : s.Writes (· = R.RING_STAT) (s.setPortLock p b) := by
  unfold setPortLock
  exact .ite (.refl s) (.ite (.set1 (.refl s) (lockFld_addr p)) (Writes.trans (.clr (.refl s) (lockFld_addr p)) (ringEvent_writes _ _ _)))

theorem setPortLock_aside (s : State) (p : Port) (b : Bool) : s.Aside (s.setPortLock p b) := by
  have hf : asideRegs (lockFld p).addr := lockFld_addr p ▸ RING_STAT_aside
  unfold setPortLock
  exact .ite (.refl s) (.ite (.set1 (.refl s) hf) (Aside.trans (.clr (.refl s) hf) (ringEvent_aside _ _ _)))

theorem wrapPort_writes (s : State) (p : Port) : s.Writes (· = R.RING_STAT) (s.wrapPort p) := by
  have h : s.Writes (· = R.RING_STAT) (if s.portSignal p then s else s.setPortLock p false) := .ite (.refl s) (setPortLock_writes s p false)
  unfold wrapPort
  dsimp only
  exact .ite h ((h.set1 (wrapFld_addr p)).trans (ringEvent_writes _ _ _))

theorem wrapPort_aside (s : State) (p : Port) : s.Aside (s.wrapPort p) := by
  have hf : asideRegs (wrapFld p).addr := wrapFld_addr p ▸ RING_STAT_aside
  have h : s.Aside (if s.portSignal p then s else s.setPortLock p false) := .ite (.refl s) (setPortLock_aside s p false)
  unfold wrapPort
  dsimp only
  exact .ite h ((h.set1 hf).trans (ringEvent_aside _ _ _))

theorem wrapLost_writes (s : State) (p : Port) : s.Writes (· = R.RING_STAT) (s.wrapLost p) := by
  unfold wrapLost
  exact .ite (wrapPort_writes s p) (.refl s)

theorem wrapLost_aside (s : State) (p : Port) : s.Aside (s.wrapLost p) := by
  unfold wrapLost
  exact .ite (wrapPort_aside s p) (.refl s)

theorem wrapHeld_writes (s : State) : s.Writes (· = R.RING_STAT) s.wrapHeld := (wrapLost_writes s .a).trans (wrapLost_writes _ .b)

theorem wrapHeld_aside (s : State) : s.Aside s.wrapHeld := (wrapLost_aside s .a).trans (wrapLost_aside _ .b)

theorem knockAbandoned_aside (s : State) : s.Aside s.knockAbandoned := by
  unfold knockAbandoned
  exact .ite (.set1 (.put (.refl s) RING_STAT_aside) (by decide)) (.refl s)

theorem void_aside (s : State) (src : VoidSrc) (state : Bool) (c : Nat) (stamp : Word) : s.Aside (s.void src state c stamp) :=
  ⟨.void (.refl s), Writes.void (.refl s) fun b hb => ⟨by omega, by omega⟩⟩

/-! ### The legs and the clock stand -/

/-- What stands of the clock and of blocked legs: the clock but for the RTC's fraction, the clock's status but for DISC_ACTIVE, what a leg's
status shows beside its carries, and outputs that are off. -/
structure Stands (s t : State) : Prop where
  clock : s.clockKept t
  stat : ∀ g : Fld, g.addr = R.CLK_STAT → g.lo + g.width ≤ 2 ∨ 3 ≤ g.lo → t.on g = s.on g
  leg : ∀ l < 24, ∀ g : Fld, g.addr = R.LOOM_LEGl_STAT l → g.lo + g.width ≤ 13 → t.on g = s.on g
  outH : ∀ l, (s.leg l).outH = false → (t.leg l).outH = false
  outL : ∀ l, (s.leg l).outL = false → (t.leg l).outL = false

namespace Stands

theorem refl (s : State) : s.Stands s :=
  ⟨⟨s.clk.rtcSub, rfl⟩, fun _ _ _ => rfl, fun _ _ _ _ _ => rfl, fun _ h => h, fun _ h => h⟩

theorem trans (h : s.Stands t) (h' : t.Stands u) : s.Stands u := by
  obtain ⟨r, hr⟩ := h.clock
  obtain ⟨r', hr'⟩ := h'.clock
  exact ⟨⟨r', by rw [hr', hr]⟩, fun g ha hg => (h'.stat g ha hg).trans (h.stat g ha hg), fun l hl g ha hg => (h'.leg l hl g ha hg).trans (h.leg l hl g ha hg),
    fun l hl => h'.outH l (h.outH l hl), fun l hl => h'.outL l (h.outL l hl)⟩

/-- A step that writes neither the clock's status nor a leg's. -/
theorem of_writes {P : Nat → Prop} (hw : s.Writes P t) (hclk : ¬ P R.CLK_STAT) (hleg : ∀ l < 24, ¬ P (R.LOOM_LEGl_STAT l)) (hc : s.clockKept t)
    (hlegs : t.loom.legs = s.loom.legs) : s.Stands t :=
  ⟨hc, fun _ ha _ => hw.on (ha ▸ hclk), fun l hl _ ha _ => hw.on (ha ▸ hleg l hl), fun l h => (leg_of_legs hlegs l).symm ▸ h,
    fun l h => (leg_of_legs hlegs l).symm ▸ h⟩

theorem ite {p : Prop} [Decidable p] (ht : s.Stands t) (hu : s.Stands u) : s.Stands (if p then t else u) := by split <;> assumption

theorem forAll (h : s.Stands t) {n : Nat} {f : Nat → State → State} (hf : ∀ i u, i < n → s.Stands u → s.Stands (f i u)) : s.Stands (t.forAll n f) :=
  forAll_rec (p := fun _ u => s.Stands u) h fun i u hi hu => hf i u hi hu

end Stands

theorem CLK_not_aside : ¬ asideRegs R.CLK_STAT := by decide

theorem LEGSTAT_not_aside (hl : l < 24) : ¬ asideRegs (R.LOOM_LEGl_STAT l) := by
  simp only [asideRegs, R.LOOM_LEGl_STAT]
  omega

theorem SYS_MODE_not_aside : ¬ asideRegs R.SYS_MODE := by decide

theorem Aside.stands (h : s.Aside t) : s.Stands t :=
  .of_writes h.writes CLK_not_aside (fun _ hl => LEGSTAT_not_aside hl) h.moves.clockKept (congrArg Loom.legs h.moves.loom)

theorem Aside.mode (h : s.Aside t) : t.mode = s.mode := mode_of_rd (h.writes.rd SYS_MODE_not_aside)

/-- A register outside the clock and the legs takes a value. -/
theorem put_stands (s : State) (f : Fld) (n : Nat) (hclk : f.addr ≠ R.CLK_STAT) (hleg : ∀ l < 24, f.addr ≠ R.LOOM_LEGl_STAT l) : s.Stands (s.put f n) :=
  .of_writes (P := (· = f.addr)) (.put (.refl s) rfl) (fun h => hclk h.symm) (fun l hl h => hleg l hl h.symm) ⟨s.clk.rtcSub, rfl⟩ (by rw [put_loom])

/-- A leg that rests, and loses its carries. -/
theorem restLeg_stands (s : State) (hl : l < 24) (edge : Bool) : s.Stands ((s.restLeg l edge).clearCarries l) := by
  have hclk7 : ¬ inBlock 7 R.CLK_STAT := not_inBlock_of_lt (by decide)
  have hwork := clearCarries_work (restLeg_work s l edge)
  have hoff := clearCarries_off _ l (restLeg_off s l edge)
  refine ⟨((restLeg_moves s l edge).trans ((clearCarries_moves _ l).mono (by decide))).clockKept, fun g ha hg => ?_, fun k hk g ha hg => ?_,
    fun k h => ?_, fun k h => ?_⟩
  · exact ((clearCarries_writes _ l).on (by rw [ha]; simp only [R.CLK_STAT, R.LOOM_LEGl_STAT]; omega)).trans ((restLeg_writes s l edge).on (ha ▸ hclk7))
  · exact (clearCarries_on _ l (.inr hg)).trans ((restLeg_writes s l edge).on (ha ▸ STAT_not_block7 hk))
  · by_cases hkl : k = l
    · subst hkl
      exact hoff.1
    · rw [hwork.other hkl, h]
  · by_cases hkl : k = l
    · subst hkl
      exact hoff.2
    · rw [hwork.other hkl, h]

theorem modCar_stands (s : State) (c : Nat) (f : CarSt → CarSt) : s.Stands (s.modCar c f) :=
  .of_writes (P := fun _ => False) (.of_regs (modCar_regs ..)) id (fun _ _ => id) ⟨s.clk.rtcSub, rfl⟩ rfl

theorem coreReturns_stands (s : State) : s.Stands s.coreReturns := by
  have hcars : s.Stands (s.forAll 8 (fun c u => if u.carState c = 1 then u.modCar c (fun x => { x with startAt := u.clk.count }) else u)) :=
    Stands.forAll (.refl s) fun c u _ hu => .ite (hu.trans (modCar_stands u c _)) hu
  unfold coreReturns
  exact hcars.trans (Aside.forAll ((convStarts_aside _).trans ((observersStart_aside _).trans (encRestart_aside _))) fun w u _ hu =>
    hu.trans (modWin_aside u w _)).stands

theorem coreReturns_mode (s : State) : s.coreReturns.rd R.SYS_MODE = s.rd R.SYS_MODE := by
  have hcars : s.Writes asideRegs (s.forAll 8 (fun c u => if u.carState c = 1 then u.modCar c (fun x => { x with startAt := u.clk.count }) else u)) :=
    Writes.forAll (.refl s) fun c u _ hu => .ite (hu.regs (modCar_regs ..)) hu
  unfold coreReturns
  exact ((Aside.forAll ((convStarts_aside _).trans ((observersStart_aside _).trans (encRestart_aside _))) fun w u _ hu =>
    hu.trans (modWin_aside u w _)).writes.rd SYS_MODE_not_aside).trans (hcars.rd SYS_MODE_not_aside)

/-! ### A transition between modes (R375) -/

/-- The mode's record before its event. -/
def modeWritten (s : State) (was dest : Mode) : State :=
  ((s.put F.SYS_MODE_PREV was.code).put F.SYS_MODE_MODE dest.code).incW F.SYS_MODE_CHANGES

/-- The record with its event and its log. -/
def modeLogged (s : State) (was dest : Mode) (cause : Nat) : State :=
  ((s.modeWritten was dest).raise 0xFB).log 0x0002 0xFF (if dest = .limp then .error else .info)
    (leBytes 1 was.code ++ leBytes 1 dest.code ++ leBytes 2 cause)

theorem recordMode_eq (s : State) (was dest : Mode) (cause : Nat) (byCommand : Bool) : s.recordMode was dest cause byCommand =
    if byCommand then s.modeLogged was dest cause else (s.modeLogged was dest cause).attend 0x10 := rfl

theorem put_SYS_MODE_stands (s : State) (f : Fld) (n : Nat) (h : f.addr = R.SYS_MODE) : s.Stands (s.put f n) :=
  put_stands s f n (by rw [h]; decide) fun l hl => by rw [h]; simp only [R.SYS_MODE, R.LOOM_LEGl_STAT]; omega

theorem recordMode_after (s : State) (was dest : Mode) (cause : Nat) (byCommand : Bool) :
    (s.modeWritten was dest).Aside (s.recordMode was dest cause byCommand) := by
  have hlog : (s.modeWritten was dest).Aside (s.modeLogged was dest cause) := .log (.raise (.refl _))
  rw [recordMode_eq]
  exact .ite hlog (hlog.trans (.still (F := [.events, .stew]) (.attend (.refl _))))

theorem modeWritten_stands (s : State) (was dest : Mode) : s.Stands (s.modeWritten was dest) :=
  ((put_SYS_MODE_stands s F.SYS_MODE_PREV _ rfl).trans (put_SYS_MODE_stands _ F.SYS_MODE_MODE _ rfl)).trans (put_SYS_MODE_stands _ F.SYS_MODE_CHANGES _ rfl)

theorem modeOf_code (m : Mode) : modeOf (m.code % 2 ^ 3) = m := by cases m <;> rfl

theorem modeWritten_mode (s : State) (was dest : Mode) : (s.modeWritten was dest).mode = dest := by
  have hget : (s.modeWritten was dest).get F.SYS_MODE_MODE = dest.code % 2 ^ 3 := by
    rw [modeWritten, incW, get_put_other _ F.SYS_MODE_CHANGES F.SYS_MODE_MODE _ (by simp) (by simp), get_put_same _ _ _ (by simp)]
  rw [mode, hget, modeOf_code]

/-- A transition up to its record. -/
def modeLeft (s : State) (dest : Mode) : State :=
  let t := if s.mode = .service then s.leaveService else s
  if s.mode.switches && !dest.switches then t.forAll 24 (fun l u => (u.restLeg l true).clearCarries l) else t

/-- The blocks that the mode stops have stopped. -/
def modeStops (s : State) (dest : Mode) : State :=
  match dest with
  | .doze => (s.modeLeft dest).coreStops
  | .limp => (s.modeLeft dest).millStop
  | _ => s.modeLeft dest

/-- The mode is taken. -/
def modePut (s : State) (dest : Mode) : State := (s.modeStops dest).put F.SYS_MODE_MODE dest.code

/-- What DOZE has stopped runs again, and OUT_EN follows. -/
def modeBack (s : State) (dest : Mode) : State :=
  (if s.mode = .doze then (s.modePut dest).coreReturns else s.modePut dest).putB F.LOOM_STAT_OUT_EN dest.switches

/-- The transition with its record. -/
def modeTaken (s : State) (dest : Mode) (cause : Nat) (byCommand : Bool) : State := (s.modeBack dest).recordMode s.mode dest cause byCommand

/-- The drivers and the choppers follow. -/
def modeFollowed (s : State) (dest : Mode) (cause : Nat) (byCommand : Bool) : State :=
  (if s.mode = .doze ∧ dest = .ready then (s.modeTaken dest cause byCommand).holdBegins else s.modeTaken dest cause byCommand).gdRefreshAll.brkStepAll

theorem enterMode_eq (s : State) (dest : Mode) (cause : Nat) (byCommand : Bool) : s.enterMode dest cause byCommand =
    if dest.switches then (if s.mode = .doze then (s.modeFollowed dest cause byCommand).wrapHeld else s.modeFollowed dest cause byCommand).knockAbandoned
    else if s.mode = .doze then (s.modeFollowed dest cause byCommand).wrapHeld else s.modeFollowed dest cause byCommand := rfl

theorem modeLeft_stands (s : State) (dest : Mode) : s.Stands (s.modeLeft dest) := by
  have h : s.Stands (if s.mode = .service then s.leaveService else s) := .ite (leaveService_aside s).stands (.refl s)
  unfold modeLeft
  exact .ite (h.forAll fun l u hl hu => hu.trans (restLeg_stands u hl true)) h

theorem modeStops_stands (s : State) {dest : Mode} (hd : dest ≠ .doze) : s.Stands (s.modeStops dest) := by
  have h := modeLeft_stands s dest
  cases dest with
  | doze => exact absurd rfl hd
  | limp => exact h.trans (millStop_aside _).stands
  | keep | ready | run | service => exact h

theorem putB_OUT_EN_stands (s : State) (b : Bool) : s.Stands (s.putB F.LOOM_STAT_OUT_EN b) :=
  put_stands s F.LOOM_STAT_OUT_EN _ (by decide) fun l hl => by simp only [R.LOOM_STAT, R.LOOM_LEGl_STAT]; omega

theorem modePut_stands (s : State) {dest : Mode} (hd : dest ≠ .doze) : s.Stands (s.modePut dest) :=
  (modeStops_stands s hd).trans (put_SYS_MODE_stands _ F.SYS_MODE_MODE dest.code rfl)

theorem modeBack_stands (s : State) {dest : Mode} (hd : dest ≠ .doze) : s.Stands (s.modeBack dest) := by
  have hput := modePut_stands s hd
  unfold modeBack
  exact (Stands.ite (hput.trans (coreReturns_stands _)) hput).trans (putB_OUT_EN_stands _ _)

theorem modeTaken_stands (s : State) {dest : Mode} (hd : dest ≠ .doze) (cause : Nat) (byCommand : Bool) : s.Stands (s.modeTaken dest cause byCommand) := by
  unfold modeTaken
  exact ((modeBack_stands s hd).trans (modeWritten_stands _ s.mode dest)).trans (recordMode_after _ _ _ _ _).stands

theorem modeTaken_mode (s : State) (dest : Mode) (cause : Nat) (byCommand : Bool) : (s.modeTaken dest cause byCommand).mode = dest := by
  unfold modeTaken
  rw [(recordMode_after _ _ _ _ _).mode, modeWritten_mode]

theorem modSys_moves (s : State) (f : Sys → Sys) : Moves [.sys] s (s.modSys f) := .record (.refl s) (by rfl)

theorem holdBegins_writes (s : State) : s.Writes (· = R.SYS_PWR_STAT) s.holdBegins := by
  unfold holdBegins
  exact Writes.regs (.putBAt (f := F.SYS_PWR_STAT_HOLDING) (.refl s)) (modSys_moves _ _).regs

theorem holdBegins_moves (s : State) : Moves [.regs, .cycle, .sys] s s.holdBegins := by
  unfold holdBegins
  exact Moves.trans (putB_moves (.refl s) _ _) ((modSys_moves _ _).mono (by decide))

theorem holdBegins_stands (s : State) : s.Stands s.holdBegins :=
  .of_writes (holdBegins_writes s) (by decide) (fun l hl => by simp only [R.SYS_PWR_STAT, R.LOOM_LEGl_STAT]; omega) (holdBegins_moves s).clockKept
    (congrArg Loom.legs (holdBegins_moves s).loom)

theorem holdBegins_mode (s : State) : s.holdBegins.mode = s.mode := mode_of_rd ((holdBegins_writes s).rd (by decide))

/-- The drivers and the choppers follow a mode that has been taken. -/
theorem modeFollowed_after (s : State) (dest : Mode) (cause : Nat) (byCommand : Bool) :
    (if s.mode = .doze ∧ dest = .ready then (s.modeTaken dest cause byCommand).holdBegins else s.modeTaken dest cause byCommand).Aside
      (s.modeFollowed dest cause byCommand) := (gdRefreshAll_aside _).trans (brkStepAll_aside _)

theorem modeFollowed_mode (s : State) (dest : Mode) (cause : Nat) (byCommand : Bool) : (s.modeFollowed dest cause byCommand).mode = dest := by
  rw [(modeFollowed_after s dest cause byCommand).mode]
  split
  · rw [holdBegins_mode, modeTaken_mode]
  · exact modeTaken_mode ..

theorem modeFollowed_stands (s : State) {dest : Mode} (hd : dest ≠ .doze) (cause : Nat) (byCommand : Bool) :
    s.Stands (s.modeFollowed dest cause byCommand) := by
  have h := modeTaken_stands s hd cause byCommand
  exact (Stands.ite (h.trans (holdBegins_stands _)) h).trans (modeFollowed_after s dest cause byCommand).stands

/-- What follows the drivers. -/
theorem enterMode_after (s : State) (dest : Mode) (cause : Nat) (byCommand : Bool) :
    (s.modeFollowed dest cause byCommand).Aside (s.enterMode dest cause byCommand) := by
  have h : (s.modeFollowed dest cause byCommand).Aside
      (if s.mode = .doze then (s.modeFollowed dest cause byCommand).wrapHeld else s.modeFollowed dest cause byCommand) := .ite (wrapHeld_aside _) (.refl _)
  rw [enterMode_eq]
  exact .ite (h.trans (knockAbandoned_aside _)) h

/-- A transition takes the mode it names. -/
theorem enterMode_mode (s : State) (dest : Mode) (cause : Nat) (byCommand : Bool) : (s.enterMode dest cause byCommand).mode = dest :=
  (enterMode_after s dest cause byCommand).mode.trans (modeFollowed_mode ..)

theorem enterMode_stands (s : State) {dest : Mode} (hd : dest ≠ .doze) (cause : Nat) (byCommand : Bool) : s.Stands (s.enterMode dest cause byCommand) :=
  (modeFollowed_stands s hd cause byCommand).trans (enterMode_after s dest cause byCommand).stands

/-! ### LIMP (R378) -/

theorem GD_STAT_ne (h : n ≠ k) : R.GDP_GDn_STAT n ≠ R.GDP_GDn_STAT k := by simp only [R.GDP_GDn_STAT]; omega

theorem GD_STAT_ne_STAT (hn : n < 8) : R.GDP_GDn_STAT n ≠ R.GDP_STAT := by simp only [R.GDP_GDn_STAT, R.GDP_STAT]; omega

/-- A driver that is held is off after it has been refreshed. -/
theorem gdRefresh_held (h : s.gdHeld n = true) : (s.gdRefresh n).on (F.GDP_GDn_STAT_OUT n) = false := by
  have hwants : s.gdWants n = false := by simp [gdWants, h]
  have hlow : s.gdLow n = false := by simp [gdLow, hwants]
  rw [gdRefresh_quiet hlow, on_putB_other _ _ _ _ (by simp) (.inr (by simp)), gdDrive_out, hwants]

theorem outputsAllowed_of_mode (h1 : s.mode ≠ .run) (h2 : s.mode ≠ .service) : s.outputsAllowed = false := by
  simp [outputsAllowed, switching, h1, h2]

/-- Outside RUN and SERVICE every driver goes off. -/
theorem gdRefreshAll_off (h1 : s.mode ≠ .run) (h2 : s.mode ≠ .service) (hn : n < 8) : s.gdRefreshAll.on (F.GDP_GDn_STAT_OUT n) = false := by
  have hw (i : Nat) (u : State) (hi : i < 8) : u.Aside (u.gdRefresh i) :=
    .of (gdRefresh_moves u i) (gdRefresh_writes u i) fun b hb => by
      simp only [gdRegs, asideRegs, R.GDP_GDn_STAT, R.GDP_STAT] at hb ⊢
      omega
  refine forAll_turn (fun u => u.mode = s.mode) (fun u => u.on (F.GDP_GDn_STAT_OUT n) = false) rfl (fun j u hj _ hu => ((hw j u hj).mode).trans hu)
    (fun u hu => gdRefresh_held ?_) (fun j u _ hjn hu => ?_) hn
  · simp [gdHeld, outputsAllowed_of_mode (hu ▸ h1) (hu ▸ h2)]
  · exact ((gdRefresh_writes u j).on (not_or.mpr ⟨(GD_STAT_ne hjn).symm, GD_STAT_ne_STAT hn⟩)).trans hu

/-- LIMP turns every driver off. -/
theorem enterLimp_gdOff (s : State) (cause : Nat) (byCommand : Bool) (hn : n < 8) : (s.enterMode .limp cause byCommand).on (F.GDP_GDn_STAT_OUT n) = false := by
  have hoff : (s.modeTaken .limp cause byCommand).gdRefreshAll.on (F.GDP_GDn_STAT_OUT n) = false :=
    gdRefreshAll_off (by rw [modeTaken_mode]; decide) (by rw [modeTaken_mode]; decide) hn
  have hfollow : (s.modeFollowed .limp cause byCommand).on (F.GDP_GDn_STAT_OUT n) = false := by
    unfold modeFollowed
    rw [if_neg fun h => absurd h.2 (by decide)]
    exact ((brkStepAll_writes _).on (by simp only [brkRegs, linkRegs, R.GDP_GDn_STAT, R.GDP_LINKn_STAT, R.GDP_STAT]; omega)).trans hoff
  rw [enterMode_eq, if_neg (by decide)]
  split
  · exact ((wrapHeld_writes _).on (by simp only [R.GDP_GDn_STAT, R.RING_STAT]; omega)).trans hfollow
  · exact hfollow

/-- The cause of LIMP is recorded. -/
def limpCaused (s : State) (cause : Nat) : State := if s.on F.SYS_MODE_LIMP_CAUSE then s else s.put F.SYS_MODE_LIMP_CAUSE cause

theorem limp_eq (s : State) (cause : Nat) : s.limp cause =
    if s.sys.phase = .run ∧ s.mode ≠ .keep ∧ s.mode ≠ .limp then (s.limpCaused cause).enterMode .limp 7 false else s := rfl

theorem limp_stands (s : State) (cause : Nat) : s.Stands (s.limp cause) := by
  have hcause : s.Stands (s.limpCaused cause) := .ite (.refl s) (put_SYS_MODE_stands s _ _ rfl)
  rw [limp_eq]
  exact .ite (hcause.trans (enterMode_stands _ (by decide) 7 false)) (.refl s)

/-- A LIMP cause leads to LIMP from every mode but KEEP. -/
theorem limp_mode (hp : s.sys.phase = .run) (hm : s.mode ≠ .keep) (cause : Nat) : (s.limp cause).mode = .limp := by
  rw [limp_eq]
  split
  · exact enterMode_mode ..
  next h => exact not_not.mp fun hl => h ⟨hp, hm, hl⟩

/-- From another mode every driver is off in LIMP. -/
theorem limp_gdOff (hp : s.sys.phase = .run) (hm : s.mode ≠ .keep) (hl : s.mode ≠ .limp) (cause : Nat) (hn : n < 8) :
    (s.limp cause).on (F.GDP_GDn_STAT_OUT n) = false := by
  rw [limp_eq, if_pos ⟨hp, hm, hl⟩]
  exact enterLimp_gdOff _ 7 false hn

end State
end Sys2Proof.Machine

/-! Clocks: locks, losses and spread spectrum, SYN0's trim and its ramp profile (R22 to R30). -/

namespace Sys2Proof.Machine

set_option Elab.async false
namespace State

variable {s t u : State} {l n k : Nat} {v : Word} {w : World}

/-! ### Locks and spread spectrum (R22, R27, R28) -/

theorem syn0Lock_gives (h : s.sys.phase ≠ .keep) (hm : s.clk.coreOnMonitor = false) (hr : s.clk.refMissing = false) :
    Completes .syn0Lock s fun t => t.on F.CLK_STAT_SYN0_LOCKED = true ∧ (∀ b, b ≠ R.CLK_STAT → t.rd b = s.rd b) ∧ t.clk = s.clk := by
  have heq : s.syn0Lock = s.set1 F.CLK_STAT_SYN0_LOCKED := if_neg (by simp [h, hm, hr])
  exact ⟨_, congrArg Host.Outcome.next heq, on_set1_same _ _ (by decide) (by decide), fun b hb => rd_put_other _ _ _ _ hb, set1_clk ..⟩

theorem syn1Lock_gives (h : s.sys.phase ≠ .keep) (hm : s.clk.stewOnMonitor = false) (hr : s.clk.refMissing = false) :
    Completes .syn1Lock s fun t => t.on F.CLK_STAT_SYN1_LOCKED = true ∧ (∀ b, b ≠ R.CLK_STAT → t.rd b = s.rd b) ∧ t.clk = s.clk := by
  have heq : s.syn1Lock = s.set1 F.CLK_STAT_SYN1_LOCKED := if_neg (by simp [h, hm, hr])
  exact ⟨_, congrArg Host.Outcome.next heq, on_set1_same _ _ (by decide) (by decide), fun b hb => rd_put_other _ _ _ _ hb, set1_clk ..⟩

/-- The register of a synthesiser's modulation, and the flag that shows it. -/
def sscReg (syn1 : Bool) : Nat := if syn1 then R.CLK_SYN1_SSC else R.CLK_SYN0_SSC
def sscOn (syn1 : Bool) : Fld := if syn1 then F.CLK_STAT_SSC1_ON else F.CLK_STAT_SSC0_ON

theorem sscReg_ne (syn1 : Bool) : sscReg syn1 ≠ R.CLK_STAT := by cases syn1 <;> decide
theorem sscOn_addr (syn1 : Bool) : (sscOn syn1).addr = R.CLK_STAT := by cases syn1 <;> rfl

theorem sscStore_eq (s : State) (syn1 : Bool) (v : Word) : s.sscStore syn1 v = (s.storePlain (sscReg syn1) v).putB (sscOn syn1) (bitAt v 0) := by
  cases syn1 <;> rfl

theorem hook_ssc (s : State) (syn1 : Bool) (v : Word) : s.hook (sscReg syn1) v = s.sscWrite syn1 v := by cases syn1 <;> rfl

theorem movesPolicy_ssc (syn1 : Bool) : movesPolicy (sscReg syn1) = false := by cases syn1 <;> decide

theorem sscWrite_moves (ha : s.accepts w (sscReg syn1) v) : Moves [.cycle, .tst] (s.sscWrite syn1 v) (s.write w (sscReg syn1) v) :=
  hook_ssc s syn1 v ▸ write_moves ha (movesPolicy_ssc syn1)

theorem sscStore_gives (s : State) (syn1 : Bool) (v : Word) : (s.sscStore syn1 v).on (sscOn syn1) = bitAt v 0 ∧
    (s.sscStore syn1 v).rd (sscReg syn1) = s.stored (sscReg syn1) v ∧
    (∀ b, b ≠ sscReg syn1 → b ≠ R.CLK_STAT → (s.sscStore syn1 v).rd b = s.rd b) ∧ (s.sscStore syn1 v).clk = s.clk := by
  rw [sscStore_eq]
  have hother {b : Nat} (hb : b ≠ R.CLK_STAT) : ((s.storePlain (sscReg syn1) v).putB (sscOn syn1) (bitAt v 0)).rd b = (s.storePlain (sscReg syn1) v).rd b :=
    rd_put_other _ _ _ _ fun h => hb (h.trans (sscOn_addr syn1))
  refine ⟨on_putB_same _ _ _ (by cases syn1 <;> decide) (by cases syn1 <;> decide), ?_, fun b h1 h2 => ?_, ?_⟩
  · rw [hother (sscReg_ne syn1), rd_storePlain_same]
  · rw [hother h2, rd_storePlain_other _ _ h1]
  · rw [putB_clk, (storePlain_moves s _ v).clk]

theorem sscWrite_accepts (ha : s.accepts w (sscReg syn1) v) (hd : getBits v 2 2 ≠ 3)
    (hok : syn1 = true ∨ bitAt v 0 = false ∨ (s.ringEnabled = false ∧ s.metersEnabled = false ∧ s.clk.ramp.running = false)) :
    Completes (.sscWrite w syn1 v) s fun t => t.on (sscOn syn1) = bitAt v 0 ∧ t.rd (sscReg syn1) = s.stored (sscReg syn1) v ∧
      (∀ b, b ≠ sscReg syn1 → b ≠ R.CLK_STAT → t.rd b = s.rd b) ∧ t.clk = s.clk := by
  have heq : s.sscWrite syn1 v = s.sscStore syn1 v := by
    unfold sscWrite
    rcases hok with h | h | ⟨h1, h2, h3⟩ <;> simp [*]
  have hmoves := sscWrite_moves ha
  rw [heq] at hmoves
  obtain ⟨hon, hrd, hother, hclk⟩ := sscStore_gives s syn1 v
  exact ⟨_, rfl, (on_congr hmoves.regs _).trans hon, (rd_congr hmoves.regs _).trans hrd, fun b h1 h2 => (rd_congr hmoves.regs b).trans (hother b h1 h2),
    hmoves.clk.trans hclk⟩

theorem sscWrite_refuses (syn1 : Bool) (ha : s.accepts w (if syn1 then R.CLK_SYN1_SSC else R.CLK_SYN0_SSC) v)
    (hno : getBits v 2 2 = 3 ∨ (syn1 = false ∧ bitAt v 0 = true ∧ (s.ringEnabled = true ∨ s.metersEnabled = true ∨ s.clk.ramp.running = true))) :
    Completes (.sscWrite w syn1 v) s fun t =>
      t.on F.CLK_STAT_SSC_REFUSED = true ∧ (∀ b, b ≠ R.CLK_STAT → t.rd b = s.rd b) ∧ t.clk = s.clk := by
  have heq : s.sscWrite syn1 v = s.set1 F.CLK_STAT_SSC_REFUSED := by
    unfold sscWrite
    rcases hno with h | ⟨h1, h2, h3 | h3 | h3⟩ <;> simp [*]
  have hmoves := sscWrite_moves ha
  rw [heq] at hmoves
  exact ⟨_, rfl, (on_congr hmoves.regs _).trans (on_set1_same _ _ (by decide) (by decide)),
    fun b hb => (rd_congr hmoves.regs b).trans (rd_put_other _ F.CLK_STAT_SSC_REFUSED _ _ hb), hmoves.clk.trans (set1_clk ..)⟩

/-! ### Losses (R30) -/


/-- SYN1's loss before its log record. -/
def syn1Failed (s : State) : State := ((s.set1 F.CLK_STAT_SYN1_LOST).clr F.CLK_STAT_SYN1_LOCKED).modClk (fun c => { c with stewOnMonitor := true })

theorem syn1Lost_gives (h : s.sys.phase = .run) (hm : s.clk.stewOnMonitor = false) (hl : s.on F.CLK_STAT_SYN1_LOCKED = true) :
    Completes .syn1Lost s fun t =>
      t.on F.CLK_STAT_SYN1_LOST = true ∧ t.on F.CLK_STAT_SYN1_LOCKED = false ∧ t.clk.stewOnMonitor = true ∧
      t.clk.coreOnMonitor = s.clk.coreOnMonitor ∧ t.mode = s.mode ∧ t.loom = s.loom := by
  have heq : s.syn1Lost = s.syn1Failed.log 0x0042 1 .warn (leBytes 4 (s.syn1Failed.rd R.CLK_STAT).toNat) := by
    unfold syn1Lost
    rw [if_neg (by simp [h, hm, hl]), if_pos h]
    rfl
  refine ⟨_, congrArg Host.Outcome.next heq, ?_⟩
  obtain ⟨r, hr⟩ := Moves.clockKept (F := [.rtc, .mram, .events, .stew, .draws])
    (Moves.log (.refl s.syn1Failed) (code := 0x0042) (block := 1) (sev := .warn) (data := leBytes 4 (s.syn1Failed.rd R.CLK_STAT).toNat))
  have hlost : s.syn1Failed.on F.CLK_STAT_SYN1_LOST = true := by
    rw [syn1Failed, on_congr (modClk_regs ..), on_clr_other _ F.CLK_STAT_SYN1_LOCKED _ (by decide) (by decide)]
    exact on_set1_same _ _ (by decide) (by decide)
  have hlocked : s.syn1Failed.on F.CLK_STAT_SYN1_LOCKED = false := (on_congr (modClk_regs ..) _).trans (on_clr_same _ _ (by decide))
  have hmode : s.syn1Failed.mode = s.mode := mode_of_rd ((rd_congr (modClk_regs ..) _).trans
    ((rd_put_other _ F.CLK_STAT_SYN1_LOCKED _ _ (by decide)).trans (rd_put_other _ F.CLK_STAT_SYN1_LOST _ _ (by decide))))
  refine ⟨(on_congr (log_regs ..) _).trans hlost, (on_congr (log_regs ..) _).trans hlocked, ?_, ?_, (mode_of_rd (rd_congr (log_regs ..) _)).trans hmode, ?_⟩
  · rw [hr]
    rfl
  · rw [hr]
    rfl
  · rw [log_loom, syn1Failed, modClk_loom, clr_loom, set1_loom]

/-- Every leg is blocked, and CORE has moved to the monitor oscillator. -/
def clockBlocked (s : State) : State := (s.blockLegs .clk 0xFFFFFF).modClk (fun c => { c with coreOnMonitor := true })

/-- The record of a clock failure. -/
def clockLogged (s : State) : State := s.clockBlocked.log 0x0042 1 .fault (leBytes 4 (s.clockBlocked.rd R.CLK_STAT).toNat)

/-- The meters' last record of a clock failure. -/
def clockMetered (s : State) : State :=
  if !s.coreRuns then s.clockLogged
  else if s.anyMeter && !s.grnFrozen then s.clockLogged.finalAsk 4 else s.clockLogged.set1 F.GRN_STAT_CLKSTOP

theorem clockFails'_cases (s : State) : s.clockFails' = if s.sys.phase = .run then s.clockMetered.ringClockFail.limp 1 else s.clockBlocked := rfl

theorem clockFails'_eq (h : s.sys.phase = .run) : s.clockFails' = s.clockMetered.ringClockFail.limp 1 := by rw [clockFails'_cases, if_pos h]

theorem finalAsk_aside (s : State) (flags : Nat) : s.Aside (s.finalAsk flags) := by
  have hclr (v : State) (f : Grn → Grn) : v.Aside (v.modGrn f) := .still (F := [.grn]) (.record (.refl v) (by rfl))
  unfold finalAsk
  exact Aside.trans (.set1 (.clr (hclr s _) (by decide)) (by decide)) (.still (F := [.grn]) (.askSnapshot (.refl _)))

theorem clockMetered_aside (s : State) : s.clockBlocked.Aside s.clockMetered := by
  have hlog : s.clockBlocked.Aside s.clockLogged := .log (.refl _)
  unfold clockMetered
  exact .ite hlog (.ite (hlog.trans (finalAsk_aside _ 4)) (hlog.set1 (by decide)))

theorem ringUnlock_aside (s : State) : s.Aside s.ringUnlock := by
  unfold ringUnlock
  dsimp only
  exact .ite (Aside.trans (Aside.trans (Aside.trans (.clr (.refl s) RING_STAT_aside) (.still (F := [.ring]) (.record (.refl _) (by rfl)))) (void_aside _ _ _ _ _))
    (ringEvent_aside _ _ _)) (.refl s)

theorem discStops_stands (s : State) : s.Stands s.discStops := by
  have hw : s.Writes (· = R.CLK_STAT) s.discStops := Writes.clrAt (f := F.CLK_STAT_DISC_ACTIVE) (.refl s)
  refine ⟨⟨s.clk.rtcSub, rfl⟩, fun g _ hg => on_clr_other s F.CLK_STAT_DISC_ACTIVE g (by decide) (.inr hg), fun l hl g hleg _ => ?_, fun l h => h, fun l h => h⟩
  exact hw.on (by rw [hleg]; simp only [R.LOOM_LEGl_STAT, R.CLK_STAT]; omega)

theorem discStops_mode (s : State) : s.discStops.mode = s.mode := mode_of_rd (rd_put_other s F.CLK_STAT_DISC_ACTIVE _ R.SYS_MODE (by decide))

/-- The ring is silent. -/
def ringSilenced (s : State) : State := s.modRing (fun r => { r with silent := true, outA := [], outB := [] })

theorem ringSilenced_aside (s : State) : s.Aside s.ringSilenced := .still (F := [.ring]) (.record (.refl s) (by rfl))

theorem ringClockFail_eq (s : State) : s.ringClockFail = s.ringUnlock.discStops.ringSilenced := rfl

theorem ringClockFail_stands (s : State) : s.Stands s.ringClockFail := by
  rw [ringClockFail_eq]
  exact ((ringUnlock_aside s).stands.trans (discStops_stands _)).trans (ringSilenced_aside _).stands

theorem ringClockFail_mode (s : State) : s.ringClockFail.mode = s.mode := by
  rw [ringClockFail_eq, (ringSilenced_aside _).mode, discStops_mode, (ringUnlock_aside s).mode]

theorem ringClockFail_sys (s : State) : s.ringClockFail.sys = s.sys := by
  rw [ringClockFail_eq, (ringSilenced_aside _).moves.sys, discStops, clr_sys, (ringUnlock_aside s).moves.sys]

theorem clockBlocked_mode (s : State) : s.clockBlocked.mode = s.mode :=
  mode_of_rd ((rd_congr (modClk_regs ..) _).trans ((blockLegs_writes s .clk _).rd (by
    simp only [blockRegs, inBlock, blockBase, R.SYS_MODE, R.LOOM_STAT, R.LOOM_LEGl_STAT]
    rintro ⟨l, hl, h⟩
    omega)))

/-- What a clock failure leaves of the state in which it was noticed. -/
structure ClockFailed (s t : State) : Prop where
  clock : ∃ r, t.clk = { s.clk with coreOnMonitor := true, rtcSub := r }
  stat : ∀ g : Fld, g.addr = R.CLK_STAT → g.lo + g.width ≤ 2 ∨ 3 ≤ g.lo → t.on g = s.on g
  legs : ∀ l : Fin 24, t.bit (R.LOOM_LEGl_STAT l) Cause.clk.bit = true ∧ t.on (F.LOOM_LEGl_STAT_BLOCKED l) = true ∧
    (t.leg l).outH = false ∧ (t.leg l).outL = false
  mode : s.mode ≠ .keep → t.mode = .limp
  drivers : s.mode ≠ .keep → s.mode ≠ .limp → ∀ n : Fin 8, t.on (F.GDP_GDn_STAT_OUT n) = false

theorem clockFails'_gives (h : s.sys.phase = .run) : s.ClockFailed s.clockFails' := by
  have hmoves := blockLegs_moves s .clk 0xFFFFFF
  have hblocked (l : Fin 24) : (s.blockLegs .clk 0xFFFFFF).Blocked .clk l := blockLegs_in s .clk l.isLt (by revert l; decide)
  have hstat : (s.blockLegs .clk 0xFFFFFF).rd R.CLK_STAT = s.rd R.CLK_STAT := (blockLegs_writes s .clk _).rd (by
    simp only [blockRegs, inBlock, blockBase, R.CLK_STAT, R.LOOM_STAT, R.LOOM_LEGl_STAT]
    rintro ⟨l, hl, h⟩
    omega)
  have hmeter := clockMetered_aside s
  have hstand : s.clockBlocked.Stands (s.clockMetered.ringClockFail.limp 1) :=
    (hmeter.stands.trans (ringClockFail_stands _)).trans (limp_stands _ 1)
  have hsys : s.clockMetered.ringClockFail.sys.phase = .run := by
    rw [ringClockFail_sys, hmeter.moves.sys]
    exact (congrArg Sys.phase hmoves.sys).trans h
  have hmode : s.clockMetered.ringClockFail.mode = s.mode := by rw [ringClockFail_mode, hmeter.mode, clockBlocked_mode]
  rw [clockFails'_eq h]
  obtain ⟨⟨r, hr⟩, hst, hleg, hH, hL⟩ := hstand
  refine ⟨⟨r, ?_⟩, fun g ha hg => ?_, fun l => ?_, fun hk => limp_mode hsys (by rw [hmode]; exact hk) 1,
    fun hk hl n => limp_gdOff hsys (by rw [hmode]; exact hk) (by rw [hmode]; exact hl) 1 n.isLt⟩
  · rw [hr]
    exact congrArg (fun c : Clk => { c with coreOnMonitor := true, rtcSub := r }) hmoves.clk
  · exact (hst g ha hg).trans (on_of_rd (ha ▸ (rd_congr (modClk_regs ..) _).trans hstat))
  · obtain ⟨hb, hc, hh, hlo⟩ := hblocked l
    exact ⟨(hleg l l.isLt ⟨R.LOOM_LEGl_STAT l, Cause.clk.bit, 1⟩ rfl (by simp [Cause.bit])).trans hc, (hleg l l.isLt _ rfl (by simp)).trans hb, hH l hh, hL l hlo⟩

/-- SYN0's loss as it is noticed. -/
def syn0Failed (s : State) : State := (s.set1 F.CLK_STAT_SYN0_LOST).clr F.CLK_STAT_SYN0_LOCKED

theorem syn0Lost_gives (h : s.sys.phase = .run) (hm : s.clk.coreOnMonitor = false) (hl : s.on F.CLK_STAT_SYN0_LOCKED = true) :
    Completes .syn0Lost s fun t =>
      t.clk.coreOnMonitor = true ∧ t.clk.stewOnMonitor = s.clk.stewOnMonitor ∧ t.clk.count = s.clk.count ∧
      t.on F.CLK_STAT_SYN0_LOST = true ∧ t.on F.CLK_STAT_SYN0_LOCKED = false ∧
      (∀ l : Fin 24, t.bit (R.LOOM_LEGl_STAT l) Cause.clk.bit = true ∧ t.on (F.LOOM_LEGl_STAT_BLOCKED l) = true ∧
        (t.leg l).outH = false ∧ (t.leg l).outL = false) ∧
      (s.mode ≠ .keep → t.mode = .limp) ∧
      (s.mode ≠ .keep → s.mode ≠ .limp → ∀ n : Fin 8, t.on (F.GDP_GDn_STAT_OUT n) = false) := by
  have heq : s.syn0Lost = s.syn0Failed.clockFails' := if_neg (by simp [h, hm, hl])
  refine ⟨_, congrArg Host.Outcome.next heq, ?_⟩
  have hmode : s.syn0Failed.mode = s.mode := mode_of_rd ((rd_put_other _ F.CLK_STAT_SYN0_LOCKED _ R.SYS_MODE (by decide)).trans
    (rd_put_other _ F.CLK_STAT_SYN0_LOST _ _ (by decide)))
  obtain ⟨⟨r, hr⟩, hst, hlegs, hlimp, hgd⟩ := clockFails'_gives (s := s.syn0Failed) h
  rw [hmode] at hlimp hgd
  refine ⟨by rw [hr], by rw [hr]; rfl, by rw [hr]; rfl, (hst _ rfl (by decide)).trans ?_, (hst _ rfl (by decide)).trans (on_clr_same _ _ (by decide)), hlegs, hlimp, hgd⟩
  rw [syn0Failed, on_clr_other _ F.CLK_STAT_SYN0_LOCKED _ (by decide) (by decide)]
  exact on_set1_same _ _ (by decide) (by decide)

/-- The reference's loss in the clock's status. -/
def refShown (s : State) : State := ((s.set1 F.CLK_STAT_REF_LOST).clr F.CLK_STAT_SYN0_LOCKED).clr F.CLK_STAT_SYN1_LOCKED

/-- The reference's loss as it is noticed. -/
def refFailed (s : State) : State := s.refShown.modClk (fun c => { c with refMissing := true, stewOnMonitor := true })

theorem refShown_other (s : State) {g : Fld} (h0 : g.addr ≠ R.CLK_STAT ∨ g.lo + g.width ≤ 0 ∨ 2 ≤ g.lo)
    (h1 : g.addr ≠ R.CLK_STAT ∨ g.lo + g.width ≤ 10 ∨ 11 ≤ g.lo) : s.refShown.on g = s.on g := by
  rw [refShown, on_clr_other _ F.CLK_STAT_SYN1_LOCKED _ (by decide) (by rcases h0 with h | h | h <;> simp <;> omega),
    on_clr_other _ F.CLK_STAT_SYN0_LOCKED _ (by decide) (by rcases h0 with h | h | h <;> simp <;> omega), on_set1_other _ F.CLK_STAT_REF_LOST _ (by decide) h1]

theorem refLost_gives (h : s.sys.phase = .run) (hm : s.clk.refMissing = false) : Completes .refLost s fun t =>
      t.clk.coreOnMonitor = true ∧ t.clk.stewOnMonitor = true ∧ t.clk.refMissing = true ∧ t.clk.count = s.clk.count ∧
      t.on F.CLK_STAT_REF_LOST = true ∧ t.on F.CLK_STAT_SYN0_LOCKED = false ∧ t.on F.CLK_STAT_SYN1_LOCKED = false ∧
      t.on F.CLK_STAT_SYN0_LOST = s.on F.CLK_STAT_SYN0_LOST ∧ t.on F.CLK_STAT_SYN1_LOST = s.on F.CLK_STAT_SYN1_LOST ∧
      (∀ l : Fin 24, t.bit (R.LOOM_LEGl_STAT l) Cause.clk.bit = true ∧ t.on (F.LOOM_LEGl_STAT_BLOCKED l) = true ∧
        (t.leg l).outH = false ∧ (t.leg l).outL = false) ∧
      (s.mode ≠ .keep → t.mode = .limp) ∧
      (s.mode ≠ .keep → s.mode ≠ .limp → ∀ n : Fin 8, t.on (F.GDP_GDn_STAT_OUT n) = false) := by
  have heq : s.refLost = s.refFailed.clockFails' := if_neg (by simp [h, hm])
  refine ⟨_, congrArg Host.Outcome.next heq, ?_⟩
  have hmode : s.refFailed.mode = s.mode := mode_of_rd ((rd_congr (modClk_regs ..) _).trans
    ((rd_put_other _ F.CLK_STAT_SYN1_LOCKED _ R.SYS_MODE (by decide)).trans ((rd_put_other _ F.CLK_STAT_SYN0_LOCKED _ R.SYS_MODE (by decide)).trans
      (rd_put_other _ F.CLK_STAT_REF_LOST _ _ (by decide)))))
  obtain ⟨⟨r, hr⟩, hst, hlegs, hlimp, hgd⟩ := clockFails'_gives (s := s.refFailed) h
  rw [hmode] at hlimp hgd
  have hshown {g : Fld} (ha : g.addr = R.CLK_STAT) (hg : g.lo + g.width ≤ 2 ∨ 3 ≤ g.lo) : s.refFailed.clockFails'.on g = s.refShown.on g :=
    (hst g ha hg).trans (on_congr (modClk_regs ..) g)
  refine ⟨by rw [hr], by rw [hr]; rfl, by rw [hr]; rfl, by rw [hr]; rfl, (hshown rfl (by decide)).trans ?_, (hshown rfl (by decide)).trans ?_,
    (hshown rfl (by decide)).trans (on_clr_same _ _ (by decide)), (hshown rfl (by decide)).trans (refShown_other s (by decide) (by decide)),
    (hshown rfl (by decide)).trans (refShown_other s (by decide) (by decide)), hlegs, hlimp, hgd⟩
  · rw [refShown, on_clr_other _ F.CLK_STAT_SYN1_LOCKED _ (by decide) (by decide), on_clr_other _ F.CLK_STAT_SYN0_LOCKED _ (by decide) (by decide)]
    exact on_set1_same _ _ (by decide) (by decide)
  · rw [refShown, on_clr_other _ F.CLK_STAT_SYN1_LOCKED _ (by decide) (by decide)]
    exact on_clr_same _ _ (by decide)

end State

/-- Settles O6: each command's own lemma. -/
theorem clockEventsMoveTheDomains : Obligations.ClockEventsMoveTheDomains :=
  ⟨fun _ h1 h2 h3 => State.syn0Lock_gives h1 h2 h3, fun _ h1 h2 h3 => State.syn1Lock_gives h1 h2 h3,
    fun _ _ _ ha hd hok => State.sscWrite_accepts (syn1 := false) ha hd (.inr hok), fun _ _ _ ha hd => State.sscWrite_accepts (syn1 := true) ha hd (.inl rfl),
    fun _ _ syn1 _ ha hno => State.sscWrite_refuses syn1 ha hno, fun _ h1 h2 h3 => State.syn1Lost_gives h1 h2 h3,
    fun _ h1 h2 h3 => State.syn0Lost_gives h1 h2 h3, fun _ h1 h2 => State.refLost_gives h1 h2⟩

end Sys2Proof.Machine

/-! SYN0's trim and the ramp profile (R23, R24, R26). -/

namespace Sys2Proof.Machine

set_option Elab.async false
namespace State

variable {s t u : State} {l n k : Nat} {v : Word} {w : World}

/-! ### The trim (R23, R24) -/

theorem signed_wrapTo {x : Int} (h1 : -32768 ≤ x) (h2 : x < 32768) : signed 16 (wrapTo 16 x) = x := by
  simp only [signed, wrapTo]
  omega

/-- A trim within the field's range reads back. -/
theorem trim_putTrim (s : State) {x : Int} (h1 : -32768 ≤ x) (h2 : x < 32768) : (s.putTrim x).trim = x := by
  have hget : (s.putTrim x).get F.CLK_SYN0_TRIM_TRIM = wrapTo 16 x :=
    (get_put_same _ _ _ (by decide)).trans (Nat.mod_eq_of_lt (wrapTo_lt 16 x))
  rw [trim, getI, hget]
  exact signed_wrapTo h1 h2

theorem trim_of_rd (h : t.rd R.CLK_SYN0_TRIM = s.rd R.CLK_SYN0_TRIM) : t.trim = s.trim := by
  rw [trim, getI, get_of_rd (f := F.CLK_SYN0_TRIM_TRIM) h, trim, getI]

theorem putTrim_writes (s : State) (x : Int) : s.Writes (· = R.CLK_SYN0_TRIM) (s.putTrim x) := Writes.putAt (f := F.CLK_SYN0_TRIM_TRIM) (.refl s)

theorem putTrim_moves (s : State) (x : Int) : Moves [.regs, .cycle] s (s.putTrim x) := .put (.refl s)

theorem trimWrite_moves (ha : s.accepts w R.CLK_SYN0_TRIM v) : Moves [.cycle, .tst] (s.trimWrite v) (s.write w R.CLK_SYN0_TRIM v) :=
  hook_CLK_SYN0_TRIM s v ▸ write_moves ha (by decide)

theorem trimWrite_waits (ha : s.accepts w R.CLK_SYN0_TRIM v) (h1 : s.get F.CLK_SYN0_DISC_SRC = 0) (h2 : s.clk.ramp.running = false)
    (h3 : -30000 ≤ signed 16 v.toNat) (h4 : signed 16 v.toNat ≤ 30000) (h5 : (signed 16 v.toNat - s.trim).natAbs ≤ 500) :
    Completes (.trimWrite w v) s fun t => t.clk = { s.clk with trimNext := some (signed 16 v.toNat) } ∧ t.regs = s.regs := by
  have heq : s.trimWrite v = s.modClk (fun c => { c with trimNext := some (signed 16 v.toNat) }) := if_pos ⟨h1, by rw [h2]; rfl, h3, h4, h5⟩
  have hmoves := trimWrite_moves ha
  rw [heq] at hmoves
  exact ⟨_, rfl, hmoves.clk, hmoves.regs⟩

theorem trimWrite_refuses (ha : s.accepts w R.CLK_SYN0_TRIM v) (hno : s.get F.CLK_SYN0_DISC_SRC ≠ 0 ∨ s.clk.ramp.running = true ∨
    signed 16 v.toNat < -30000 ∨ 30000 < signed 16 v.toNat ∨ 500 < (signed 16 v.toNat - s.trim).natAbs) :
    Completes (.trimWrite w v) s fun t =>
        t.on F.CLK_STAT_TRIM_REFUSED = true ∧ t.trim = s.trim ∧ (∀ b, b ≠ R.CLK_STAT → t.rd b = s.rd b) ∧ t.clk = s.clk := by
  have heq : s.trimWrite v = s.set1 F.CLK_STAT_TRIM_REFUSED := if_neg fun ⟨h1, h2, h3, h4, h5⟩ => by
    rcases hno with h | h | h | h | h
    · exact h h1
    · simp [h] at h2
    all_goals omega
  have hmoves := trimWrite_moves ha
  rw [heq] at hmoves
  have hother {b : Nat} (hb : b ≠ R.CLK_STAT) : (s.write w R.CLK_SYN0_TRIM v).rd b = s.rd b :=
    (rd_congr hmoves.regs b).trans (rd_put_other _ F.CLK_STAT_TRIM_REFUSED _ _ hb)
  exact ⟨_, rfl, (on_congr hmoves.regs _).trans (on_set1_same _ _ (by decide) (by decide)), trim_of_rd (hother (by decide)), fun b hb => hother hb,
    hmoves.clk.trans (set1_clk ..)⟩

/-! ### The reference's edge (R23) -/

theorem refTick_edge {x : Int} (hm : s.clk.refMissing = false) (hi : s.clk.refIn = 0) (hx : s.clk.trimNext = some x) :
    s.refTick = ((s.putTrim x).modClk (fun c => { c with trimNext := none })).modClk (fun c => { c with refIn := 15 }) := by
  unfold refTick refEdge
  rw [hm, if_neg Bool.false_ne_true, if_pos hi, hx]

theorem countTick_trimNext (s : State) : s.countTick.clk.trimNext = s.clk.trimNext := by
  unfold countTick
  split <;> rfl

theorem TRIM_not_lines : ¬ ∃ k < 16, lineRegs k R.CLK_SYN0_TRIM := by
  rintro ⟨k, hk, h⟩
  have := lineRegs_drive hk h
  simp only [driveBlocks, inBlock, blockBase, R.CLK_SYN0_TRIM] at this
  omega

theorem TRIM_not_rest : ¬ restBlocks R.CLK_SYN0_TRIM := by
  simp only [restBlocks, irqRegs, stopBlocks, inBlock, blockBase, R.CMP_IRQSTATj, R.CLK_SYN0_TRIM]
  rintro (⟨j, h⟩ | h) <;> omega

/-- What comes after the reference's edge in a cycle leaves the trim alone. -/
theorem tick_trim (s : State) : s.tick.trim = s.tickCount.trim ∧ s.tick.clk.trimNext = s.tickCount.clk.trimNext := by
  have hend := endEvent_moves s.tickCount s
  have hlines : Moves [.regs, .cycle, .loom, .gdp, .events, .stew] s.tickCount s.tickLines := by
    unfold tickLines
    exact .ite (hend.mono (by decide)) (Moves.forAll (hend.mono (by decide)) fun k v hv => hv.trans (tlWritten_moves v s k))
  have hwrites : s.tickCount.Writes (fun b => ∃ k < 16, lineRegs k b) s.tickLines := by
    unfold tickLines
    exact .ite (.of_regs hend.regs) (Writes.forAll (.of_regs hend.regs) fun k v hk hv => hv.trans ((tlWritten_writes v s k).mono fun _ hb => ⟨k, hk, hb⟩))
  rw [tick_rest]
  constructor
  · exact trim_of_rd (((tickRest_writes _).rd TRIM_not_rest).trans (hwrites.rd TRIM_not_lines))
  · obtain ⟨r, hr⟩ := (tickRest_moves s.tickLines).clockKept
    obtain ⟨r', hr'⟩ := hlines.clockKept
    rw [hr, hr']

theorem refEdge_step {x : Int} (hp : s.pending = []) (hrun : s.sys.phase = .run) (hm : s.clk.refMissing = false) (hi : s.clk.refIn = 0)
    (hx : s.clk.trimNext = some x) (h1 : -30000 ≤ x) (h2 : x ≤ 30000) : ∃ t, step s = .next t ∧ t.trim = x ∧ t.clk.trimNext = none := by
  obtain ⟨htrim, hnext⟩ := tick_trim s
  have hwork := tickWork_moves s
  have hclk := hwork.clk
  have hruns : s.tickWork.timebaseRuns = true := by
    unfold timebaseRuns
    rw [hwork.sys, hrun]
  have hcount : s.tickCount = { s.tickWork.refTick.countTick with cycle := {} } := by rw [tickCount, hruns, if_pos rfl]
  have hedge := refTick_edge (s := s.tickWork) (x := x) (by rw [hclk, hm]) (by rw [hclk, hi]) (by rw [hclk, hx])
  refine ⟨s.tick, by rw [step, hp], htrim.trans ?_, hnext.trans ?_⟩
  · rw [hcount, trim_of_rd (rd_congr (t := { s.tickWork.refTick.countTick with cycle := {} }) (countTick_moves _).regs _), hedge,
      trim_of_rd (rd_congr ((modClk_regs ..).trans (modClk_regs ..)) _), trim_putTrim _ (by omega) (by omega)]
  · rw [hcount]
    refine (countTick_trimNext _).trans ?_
    rw [hedge]
    rfl

/-! ### The ramp profile (R26) -/

theorem RAMP_ne : R.CLK_RAMP_CTRL ≠ R.CLK_STAT := by decide

theorem rampCtrl_moves {m : Word} (ha : s.accepts w R.CLK_RAMP_CTRL (v ||| m)) :
    Moves [.cycle, .tst] (s.rampWrite (v ||| m)) (s.write w R.CLK_RAMP_CTRL (v ||| m)) :=
  hook_CLK_RAMP_CTRL s (v ||| m) ▸ write_moves ha (by decide)

theorem bitAt_or_other (v m : Word) {i : Nat} (hm : bitAt m i = false) : bitAt (v ||| m) i = bitAt v i := by
  rw [bitAt_eq_getLsbD] at hm ⊢
  rw [BitVec.getLsbD_or, hm, Bool.or_false, bitAt_eq_getLsbD]

/-- The control word stored, as START and ABORT find it. -/
def rampStored (s : State) (v : Word) : State := s.storePlain R.CLK_RAMP_CTRL v

theorem rampStored_moves (s : State) (v : Word) : Moves [.regs] s (s.rampStored v) := storePlain_moves s _ v

theorem rampStored_other (s : State) (v : Word) {b : Nat} (h : b ≠ R.CLK_RAMP_CTRL) : (s.rampStored v).rd b = s.rd b := rd_storePlain_other _ _ h

theorem rampWrite_eq (s : State) (v : Word) : s.rampWrite v =
    if bitAt v 1 then (if bitAt v 0 then (s.rampStored v).rampStart else s.rampStored v).rampStop
    else if bitAt v 0 then (s.rampStored v).rampStart else s.rampStored v := rfl

theorem rampWrite_start (h : bitAt v 1 = false) : s.rampWrite (v ||| 1) = (s.rampStored (v ||| 1)).rampStart := by
  rw [rampWrite_eq, bitAt_or_other v 1 (by decide), h, if_neg Bool.false_ne_true, bitAt_or v 1 (by decide), if_pos rfl]

theorem rampWrite_abort (h : bitAt v 0 = false) : s.rampWrite (v ||| 2) = (s.rampStored (v ||| 2)).rampStop := by
  rw [rampWrite_eq, bitAt_or v 2 (by decide), if_pos rfl, bitAt_or_other v 2 (by decide), h, if_neg Bool.false_ne_true]

/-- The profile at the start of segment 0. -/
def rampBegun (s : State) : State := (s.modRamp (fun _ => { running := true, nextAt := s.count + 400000, startTrim := s.trim })).rampEnter 0

theorem rampBegun_clk (s : State) : s.rampBegun.clk = { s.clk with ramp :=
    { running := true, nextAt := s.count + 400000, startTrim := s.trim, seg := 0, msLeft := s.get (F.CLK_RAMPSEGn_DUR 0) } } := rfl

theorem rampBegun_regs (s : State) : s.rampBegun.regs = s.regs := rfl

theorem rampStart_begins (h1 : s.get F.CLK_SYN0_DISC_SRC = 0) (h2 : s.on F.CLK_STAT_SSC0_ON = false) :
    s.rampStart = s.rampBegun.set1 F.CLK_STAT_RAMP_BUSY := if_pos ⟨h1, by rw [h2]; rfl⟩

theorem rampStart_refuses (h : s.get F.CLK_SYN0_DISC_SRC ≠ 0 ∨ s.on F.CLK_STAT_SSC0_ON = true) : s.rampStart = s.set1 F.CLK_STAT_RAMP_REFUSED :=
  if_neg fun ⟨h1, h2⟩ => by
    rcases h with h | h
    · exact h h1
    · simp [h] at h2

theorem rampStart_gives (ha : s.accepts w R.CLK_RAMP_CTRL (v ||| 1)) (hb : bitAt v 1 = false) (h1 : s.get F.CLK_SYN0_DISC_SRC = 0)
    (h2 : s.on F.CLK_STAT_SSC0_ON = false) : Completes (.rampStart w v) s fun t =>
      t.clk.ramp.running = true ∧ t.clk.ramp.seg = 0 ∧ t.clk.ramp.msLeft = s.get (F.CLK_RAMPSEGn_DUR 0) ∧
      t.clk.ramp.startTrim = s.trim ∧ t.on F.CLK_STAT_RAMP_BUSY = true ∧ t.trim = s.trim ∧ t.clk.count = s.clk.count := by
  have hmoves := rampCtrl_moves ha
  have hstored := (rampStored_moves s (v ||| 1)).clk
  have hrd {b : Nat} (hb : b ≠ R.CLK_RAMP_CTRL) := rampStored_other s (v ||| 1) hb
  rw [rampWrite_start hb, rampStart_begins ((get_of_rd (f := F.CLK_SYN0_DISC_SRC) (hrd (by decide))).trans h1)
    ((on_of_rd (f := F.CLK_STAT_SSC0_ON) (hrd (by decide))).trans h2)] at hmoves
  have hclk := (hmoves.clk.trans (set1_clk ..)).trans (rampBegun_clk _)
  rw [hstored, trim_of_rd (hrd (by decide)), get_of_rd (f := F.CLK_RAMPSEGn_DUR 0) (hrd (by decide))] at hclk
  refine ⟨_, rfl, ?_, ?_, ?_, ?_, (on_congr hmoves.regs _).trans (on_set1_same _ _ (by decide) (by decide)), ?_, ?_⟩
  · rw [hclk]
  · rw [hclk]
  · rw [hclk]
  · rw [hclk]
  · exact trim_of_rd ((rd_congr hmoves.regs _).trans ((rd_put_other _ F.CLK_STAT_RAMP_BUSY _ _ (by decide)).trans
      ((rd_congr (rampBegun_regs _) _).trans (hrd (by decide)))))
  · rw [hclk]

theorem rampStart_refused (ha : s.accepts w R.CLK_RAMP_CTRL (v ||| 1)) (hb : bitAt v 1 = false)
    (h : s.get F.CLK_SYN0_DISC_SRC ≠ 0 ∨ s.on F.CLK_STAT_SSC0_ON = true) : Completes (.rampStart w v) s fun t =>
      t.on F.CLK_STAT_RAMP_REFUSED = true ∧ t.clk = s.clk ∧ t.trim = s.trim ∧
      (∀ b, b ≠ R.CLK_STAT → b ≠ R.CLK_RAMP_CTRL → t.rd b = s.rd b) := by
  have hmoves := rampCtrl_moves ha
  have hrd {b : Nat} (hb : b ≠ R.CLK_RAMP_CTRL) := rampStored_other s (v ||| 1) hb
  have hno : (s.rampStored (v ||| 1)).get F.CLK_SYN0_DISC_SRC ≠ 0 ∨ (s.rampStored (v ||| 1)).on F.CLK_STAT_SSC0_ON = true := by
    rw [get_of_rd (f := F.CLK_SYN0_DISC_SRC) (hrd (by decide)), on_of_rd (f := F.CLK_STAT_SSC0_ON) (hrd (by decide))]
    exact h
  rw [rampWrite_start hb, rampStart_refuses hno] at hmoves
  have hother {b : Nat} (h1 : b ≠ R.CLK_STAT) (h2 : b ≠ R.CLK_RAMP_CTRL) : (s.write w R.CLK_RAMP_CTRL (v ||| 1)).rd b = s.rd b :=
    (rd_congr hmoves.regs b).trans ((rd_put_other _ F.CLK_STAT_RAMP_REFUSED _ _ h1).trans (hrd h2))
  exact ⟨_, rfl, (on_congr hmoves.regs _).trans (on_set1_same _ _ (by decide) (by decide)),
    (hmoves.clk.trans (set1_clk ..)).trans (rampStored_moves s _).clk, trim_of_rd (hother (by decide) (by decide)), fun b h1 h2 => hother h1 h2⟩

/-- The profile that has stopped, before its flag. -/
def rampHalted (s : State) : State := s.modRamp (fun r => { r with running := false, returning := false })

theorem rampHalted_regs (s : State) : s.rampHalted.regs = s.regs := rfl

theorem rampStop_eq (s : State) : s.rampStop = s.rampHalted.clr F.CLK_STAT_RAMP_BUSY := rfl

theorem rampStop_running (s : State) : s.rampStop.clk.ramp.running = false := by rw [rampStop_eq, clr_clk]; rfl

theorem rampStop_count (s : State) : s.rampStop.clk.count = s.clk.count := by rw [rampStop_eq, clr_clk]; rfl

theorem rampStop_busy (s : State) : s.rampStop.on F.CLK_STAT_RAMP_BUSY = false := on_clr_same _ _ (by decide)

theorem rampStop_rd (s : State) {b : Nat} (hb : b ≠ R.CLK_STAT) : s.rampStop.rd b = s.rd b :=
  (rd_put_other _ F.CLK_STAT_RAMP_BUSY _ _ hb).trans (rd_congr (rampHalted_regs s) b)

theorem rampAbort_gives (ha : s.accepts w R.CLK_RAMP_CTRL (v ||| 2)) (hb : bitAt v 0 = false) : Completes (.rampAbort w v) s fun t =>
      t.clk.ramp.running = false ∧ t.on F.CLK_STAT_RAMP_BUSY = false ∧ t.trim = s.trim ∧ t.clk.count = s.clk.count := by
  have hmoves := rampCtrl_moves ha
  rw [rampWrite_abort hb] at hmoves
  refine ⟨_, rfl, ?_, (on_congr hmoves.regs _).trans (rampStop_busy _), trim_of_rd ((rd_congr hmoves.regs _).trans
    ((rampStop_rd _ (by decide)).trans (rampStored_other s _ (by decide)))), ?_⟩
  · rw [hmoves.clk, rampStop_running]
  · rw [hmoves.clk, rampStop_count, (rampStored_moves s _).clk]

/-- The profile with its next ms tick planned. -/
def rampTicked (s : State) : State := s.modRamp (fun r => { r with nextAt := r.nextAt + 400000 })

theorem rampTicked_regs (s : State) : s.rampTicked.regs = s.regs := rfl
theorem rampTicked_clk (s : State) : s.rampTicked.clk = { s.clk with ramp := { s.clk.ramp with nextAt := s.clk.ramp.nextAt + 400000 } } := rfl

theorem rampTick_eq (h1 : s.clk.ramp.running = true) (h2 : s.coreRuns = true) (h3 : s.due s.clk.ramp.nextAt = true)
    (h4 : s.clk.ramp.returning = true ∨ 0 < s.clk.ramp.msLeft) :
    s.rampTick = if s.clk.ramp.returning then s.rampTicked.rampBack else s.rampTicked.rampSlope := if_pos ⟨h1, h2, h3, h4⟩

/-- The trim that a ms of the slope asks for, before it is held. -/
def rampAsked (s : State) : Int := s.trim + clampInt (-500) 500 (s.getI (F.CLK_RAMPSEGn_SLOPE s.clk.ramp.seg))

/-- The slope's ms, before its flag. -/
def rampSloped (s : State) : State := (s.putTrim (clampInt (-30000) 30000 s.rampAsked)).modRamp (fun r => { r with msLeft := r.msLeft - 1 })

theorem rampSlope_eq (s : State) : s.rampSlope =
    if decide (s.rampAsked ≤ -30000) || decide (30000 ≤ s.rampAsked) then s.rampSloped.set1 F.CLK_STAT_TRIM_REFUSED else s.rampSloped := rfl

theorem rampSloped_regs (s : State) : s.rampSloped.regs = (s.putTrim (clampInt (-30000) 30000 s.rampAsked)).regs := rfl

theorem rampSloped_clk (s : State) : s.rampSloped.clk = { s.clk with ramp := { s.clk.ramp with msLeft := s.clk.ramp.msLeft - 1 } } :=
  congrArg (fun c : Clk => { c with ramp := { c.ramp with msLeft := c.ramp.msLeft - 1 } }) (putTrim_moves s _).clk

theorem rampSlope_clk (s : State) : s.rampSlope.clk = s.rampSloped.clk := by
  rw [rampSlope_eq]
  split
  · rw [set1_clk]
  · rfl

theorem rampSlope_rd (s : State) {b : Nat} (hb : b ≠ R.CLK_STAT) : s.rampSlope.rd b = s.rampSloped.rd b := by
  rw [rampSlope_eq]
  split
  · exact rd_put_other _ F.CLK_STAT_TRIM_REFUSED _ _ hb
  · rfl

theorem clampInt_bounds {lo hi : Int} (h : lo ≤ hi) (x : Int) : lo ≤ clampInt lo hi x ∧ clampInt lo hi x ≤ hi := by
  unfold clampInt
  split
  · omega
  · split <;> omega

theorem rampTick_slopes (h1 : s.clk.ramp.running = true) (h2 : s.coreRuns = true) (h3 : s.due s.clk.ramp.nextAt = true)
    (h4 : s.clk.ramp.returning = false) (h5 : 0 < s.clk.ramp.msLeft) : Completes .rampTick s fun t =>
      t.trim = clampInt (-30000) 30000 (s.trim + clampInt (-500) 500 (s.getI (F.CLK_RAMPSEGn_SLOPE s.clk.ramp.seg))) ∧
      t.clk.ramp.msLeft = s.clk.ramp.msLeft - 1 ∧ t.clk.ramp.nextAt = s.clk.ramp.nextAt + 400000 ∧ t.clk.ramp.running = true ∧
      (30000 ≤ (s.trim + clampInt (-500) 500 (s.getI (F.CLK_RAMPSEGn_SLOPE s.clk.ramp.seg))).natAbs →
        t.on F.CLK_STAT_TRIM_REFUSED = true) ∧
      (∀ b, b ≠ R.CLK_SYN0_TRIM → b ≠ R.CLK_STAT → t.rd b = s.rd b) := by
  have heq : s.rampTick = s.rampTicked.rampSlope := by rw [rampTick_eq h1 h2 h3 (.inr h5), h4, if_neg Bool.false_ne_true]
  have hasked : s.rampTicked.rampAsked = s.rampAsked := by
    rw [rampAsked, trim_of_rd (rd_congr (rampTicked_regs s) _), getI, get_congr (rampTicked_regs s)]
    rfl
  have hclk : s.rampTicked.rampSlope.clk = _ := (rampSlope_clk _).trans (rampSloped_clk _)
  rw [rampTicked_clk] at hclk
  obtain ⟨hlo, hhi⟩ := clampInt_bounds (lo := -30000) (hi := 30000) (by omega) s.rampAsked
  refine ⟨_, congrArg Host.Outcome.next heq, ?_, ?_, ?_, ?_, fun hlim => ?_, fun b hb1 hb2 => ?_⟩
  · rw [trim_of_rd (rampSlope_rd _ (by decide)), trim_of_rd (rd_congr (rampSloped_regs _) _), hasked, trim_putTrim _ (by omega) (by omega)]
    rfl
  · rw [hclk]
  · rw [hclk]
  · rw [hclk]
    exact h1
  · have hcond : (decide (s.rampAsked ≤ -30000) || decide (30000 ≤ s.rampAsked)) = true := by
      have hlim' : 30000 ≤ s.rampAsked.natAbs := hlim
      simp only [Bool.or_eq_true, decide_eq_true_eq]
      omega
    rw [rampSlope_eq, hasked, hcond, if_pos rfl]
    exact on_set1_same _ _ (by decide) (by decide)
  · rw [rampSlope_rd _ hb2, rd_congr (rampSloped_regs _), (putTrim_writes _ _).rd hb1, rd_congr (rampTicked_regs s)]

theorem rampBack_eq (s : State) : s.rampBack =
    if (s.stepTrim (s.clk.ramp.startTrim - s.trim)).trim = s.clk.ramp.startTrim then (s.stepTrim (s.clk.ramp.startTrim - s.trim)).rampStop
    else s.stepTrim (s.clk.ramp.startTrim - s.trim) := rfl

/-- A step towards a trim that lies within the limits is not held. -/
theorem stepTrim_trim {y : Int} (h1 : -30000 ≤ y) (h2 : y ≤ 30000) (h3 : -30000 ≤ s.trim) (h4 : s.trim ≤ 30000) :
    (s.stepTrim (y - s.trim)).trim = s.trim + clampInt (-500) 500 (y - s.trim) := by
  have hhold : clampInt (-30000) 30000 (s.trim + clampInt (-500) 500 (y - s.trim)) = s.trim + clampInt (-500) 500 (y - s.trim) ∧
      -30000 ≤ s.trim + clampInt (-500) 500 (y - s.trim) ∧ s.trim + clampInt (-500) 500 (y - s.trim) ≤ 30000 := by
    simp only [clampInt]
    split_ifs <;> omega
  obtain ⟨heq, hlo, hhi⟩ := hhold
  rw [stepTrim, heq, trim_putTrim _ (by omega) (by omega)]

theorem rampTick_returns (h1 : s.clk.ramp.running = true) (h2 : s.coreRuns = true) (h3 : s.due s.clk.ramp.nextAt = true)
    (h4 : s.clk.ramp.returning = true) (h5 : -30000 ≤ s.clk.ramp.startTrim) (h6 : s.clk.ramp.startTrim ≤ 30000) (h7 : -30000 ≤ s.trim)
    (h8 : s.trim ≤ 30000) : Completes .rampTick s fun t =>
      t.trim = s.trim + clampInt (-500) 500 (s.clk.ramp.startTrim - s.trim) ∧
      ((s.clk.ramp.startTrim - s.trim).natAbs ≤ 500 → t.clk.ramp.running = false) ∧
      (∀ b, b ≠ R.CLK_SYN0_TRIM → b ≠ R.CLK_STAT → t.rd b = s.rd b) := by
  have heq : s.rampTick = s.rampTicked.rampBack := by rw [rampTick_eq h1 h2 h3 (.inl h4), h4, if_pos rfl]
  have htrim : s.rampTicked.trim = s.trim := trim_of_rd (rd_congr (rampTicked_regs s) _)
  have hstart : s.rampTicked.clk.ramp.startTrim = s.clk.ramp.startTrim := rfl
  have hstep : (s.rampTicked.stepTrim (s.clk.ramp.startTrim - s.trim)).trim = s.trim + clampInt (-500) 500 (s.clk.ramp.startTrim - s.trim) := by
    have := stepTrim_trim (s := s.rampTicked) h5 h6 (by rw [htrim]; exact h7) (by rw [htrim]; exact h8)
    rwa [htrim] at this
  have hback : s.rampTicked.rampBack = if (s.rampTicked.stepTrim (s.clk.ramp.startTrim - s.trim)).trim = s.clk.ramp.startTrim then
      (s.rampTicked.stepTrim (s.clk.ramp.startTrim - s.trim)).rampStop else s.rampTicked.stepTrim (s.clk.ramp.startTrim - s.trim) := by
    rw [rampBack_eq, htrim, hstart]
  have hw : s.Writes (· = R.CLK_SYN0_TRIM) (s.rampTicked.stepTrim (s.clk.ramp.startTrim - s.trim)) :=
    Writes.trans (.of_regs (rampTicked_regs s)) (putTrim_writes _ _)
  refine ⟨_, congrArg Host.Outcome.next (heq.trans hback), ?_⟩
  generalize s.rampTicked.stepTrim (s.clk.ramp.startTrim - s.trim) = u at *
  by_cases hend : u.trim = s.clk.ramp.startTrim
  · rw [if_pos hend]
    exact ⟨(trim_of_rd (rampStop_rd u (by decide))).trans hstep, fun _ => rampStop_running u, fun b hb1 hb2 => (rampStop_rd u hb2).trans (hw.rd hb1)⟩
  · rw [if_neg hend]
    refine ⟨hstep, fun hnear => absurd ?_ hend, fun b hb1 _ => hw.rd hb1⟩
    rw [hstep, clampInt]
    split_ifs <;> omega

theorem rampEnter_regs (s : State) (n : Nat) : (s.rampEnter n).regs = s.regs := rfl

/-- The end of a segment of a running profile. -/
theorem rampSegmentEnd_if (h1 : s.clk.ramp.running = true) (h2 : s.coreRuns = true) (h3 : s.clk.ramp.returning = false) (h4 : s.clk.ramp.msLeft = 0) :
    s.rampSegmentEnd = if s.clk.ramp.seg < s.get F.CLK_RAMP_CTRL_NSEG then s.rampEnter (s.clk.ramp.seg + 1)
      else if s.get F.CLK_RAMP_CTRL_END = 1 then
        if s.trim = s.clk.ramp.startTrim then s.rampStop else s.modRamp (fun r => { r with returning := true })
      else if s.get F.CLK_RAMP_CTRL_END = 2 then s.rampEnter 0 else s.rampStop := by
  unfold rampSegmentEnd
  rw [if_pos ⟨h1, h2, by rw [h3]; rfl, h4⟩]
  refine if_congr Iff.rfl rfl ?_
  split
  next h => rw [if_pos h]
  next h => rw [if_neg (by omega), if_pos h]
  next h h' => rw [if_neg h, if_neg h']

theorem rampSegmentEnd_gives (h1 : s.clk.ramp.running = true) (h2 : s.coreRuns = true) (h3 : s.clk.ramp.returning = false) (h4 : s.clk.ramp.msLeft = 0) :
    (s.clk.ramp.seg < s.get F.CLK_RAMP_CTRL_NSEG →
      Completes .rampSegmentEnd s fun t =>
        t.clk.ramp.seg = s.clk.ramp.seg + 1 ∧ t.clk.ramp.msLeft = s.get (F.CLK_RAMPSEGn_DUR (s.clk.ramp.seg + 1)) ∧
        t.clk.ramp.running = true ∧ t.regs = s.regs) ∧
    (¬ s.clk.ramp.seg < s.get F.CLK_RAMP_CTRL_NSEG →
      (s.get F.CLK_RAMP_CTRL_END = 0 ∨ s.get F.CLK_RAMP_CTRL_END = 3 ∨
        (s.get F.CLK_RAMP_CTRL_END = 1 ∧ s.trim = s.clk.ramp.startTrim)) →
      Completes .rampSegmentEnd s fun t => t.clk.ramp.running = false ∧ t.on F.CLK_STAT_RAMP_BUSY = false ∧ t.trim = s.trim) ∧
    (¬ s.clk.ramp.seg < s.get F.CLK_RAMP_CTRL_NSEG → s.get F.CLK_RAMP_CTRL_END = 1 → s.trim ≠ s.clk.ramp.startTrim →
      Completes .rampSegmentEnd s fun t => t.clk.ramp.running = true ∧ t.clk.ramp.returning = true ∧ t.regs = s.regs) ∧
    (¬ s.clk.ramp.seg < s.get F.CLK_RAMP_CTRL_NSEG → s.get F.CLK_RAMP_CTRL_END = 2 →
      Completes .rampSegmentEnd s fun t => t.clk.ramp.seg = 0 ∧ t.clk.ramp.running = true ∧ t.regs = s.regs) := by
  have hend := rampSegmentEnd_if h1 h2 h3 h4
  refine ⟨fun hlt => ?_, fun hge hstop => ?_, fun hge h1' hne => ?_, fun hge h2' => ?_⟩
  · rw [if_pos hlt] at hend
    exact ⟨_, congrArg Host.Outcome.next hend, rfl, rfl, h1, rampEnter_regs s _⟩
  · have hend' : s.rampSegmentEnd = s.rampStop := by
      rw [hend, if_neg hge]
      rcases hstop with h | h | ⟨h, ht⟩
      · rw [if_neg (by omega), if_neg (by omega)]
      · rw [if_neg (by omega), if_neg (by omega)]
      · rw [if_pos h, if_pos ht]
    exact ⟨_, congrArg Host.Outcome.next hend', rampStop_running s, rampStop_busy s, trim_of_rd (rampStop_rd s (by decide))⟩
  · rw [if_neg hge, if_pos h1', if_neg hne] at hend
    exact ⟨_, congrArg Host.Outcome.next hend, h1, rfl, rfl⟩
  · rw [if_neg hge, if_neg (by omega), if_pos h2'] at hend
    exact ⟨_, congrArg Host.Outcome.next hend, rfl, h1, rampEnter_regs s _⟩

end State

/-- Settles O5: each command's own lemma, and the cycle of the reference's edge. -/
theorem trimAndRampKeepTheirLimits : Obligations.TrimAndRampKeepTheirLimits :=
  ⟨fun _ _ _ ha => ⟨fun h1 h2 h3 h4 h5 => State.trimWrite_waits ha h1 h2 h3 h4 h5, fun h => State.trimWrite_refuses ha h⟩,
    fun _ _ h1 h2 h3 h4 h5 h6 h7 => State.refEdge_step h1 h2 h3 h4 h5 h6 h7, fun _ _ _ ha hb h1 h2 => State.rampStart_gives ha hb h1 h2,
    fun _ _ _ ha hb h => State.rampStart_refused ha hb h, fun _ _ _ ha hb => State.rampAbort_gives ha hb,
    fun _ h1 h2 h3 h4 h5 => State.rampTick_slopes h1 h2 h3 h4 h5, fun _ h1 h2 h3 h4 h5 h6 h7 h8 => State.rampTick_returns h1 h2 h3 h4 h5 h6 h7 h8,
    fun _ h1 h2 h3 h4 => State.rampSegmentEnd_gives h1 h2 h3 h4⟩

end Sys2Proof.Machine

/-! Integrated drivers: command, faults, gate monitor and the charge pump (R194 to R199, R399). -/

namespace Sys2Proof.Machine

set_option Elab.async false
namespace State

variable {s t u : State} {n : Nat}

/-! ### Fault flags -/

/-- The flags of R198 of driver `n`. -/
def driverFlag (n : Nat) (f : Fld) : Prop := f = F.GDP_GDn_STAT_UVLO n ∨ f = F.GDP_GDn_STAT_CPLOW n ∨ f = F.GDP_GDn_STAT_MISMATCH n

theorem driverFlag.place {f : Fld} (hf : driverFlag n f) : f.addr = R.GDP_GDn_STAT n ∧ f.width = 1 ∧ 4 ≤ f.lo ∧ f.lo + f.width ≤ 32 := by
  rcases hf with rfl | rfl | rfl <;> simp

theorem gdHeld_of_flag {f : Fld} (hf : driverFlag n f) (h : s.on f = true) : s.gdHeld n = true := by
  have hfault : s.gdFaulted n = true := by rcases hf with rfl | rfl | rfl <;> simp [gdFaulted, h]
  simp [gdHeld, hfault]

theorem gdLow_of_held (h : s.gdHeld n = true) : s.gdLow n = false := by simp [gdLow, gdWants, h]

/-- Without a missing supply a refresh leaves every field but the driver's command, output, gate and HELD. -/
theorem gdRefresh_quiet_get (h : s.gdLow n = false) {g : Fld} (hg : g.addr ≠ R.GDP_GDn_STAT n ∨ 4 ≤ g.lo) : (s.gdRefresh n).get g = s.get g := by
  rw [gdRefresh_quiet h, get_putB_other _ _ _ _ (by simp) (hg.imp_right fun h => .inr (by simpa using h)),
    gdDrive_other _ _ _ (hg.imp_right fun h => .inr (by omega)),
    get_putB_other _ _ _ _ (by simp) (hg.imp_right fun h => .inr (by simp; omega))]

/-- What a latched fault leaves: every field but its flag and the summary of faults. -/
theorem gdLatch_get {f g : Fld} (hf : f.lo + f.width ≤ 32) (hg : g.addr ≠ f.addr ∨ g.lo + g.width ≤ f.lo ∨ f.lo + f.width ≤ g.lo)
    (hs : g.addr ≠ R.GDP_STAT ∨ g.lo + g.width ≤ 4 ∨ 5 ≤ g.lo) : (s.gdLatch n f).get g = s.get g := by
  unfold gdLatch gdSummary
  dsimp only
  split
  · rfl
  · rw [get_congr (log_regs ..), get_congr (raise_regs ..), get_putB_other _ _ _ _ (by simp) hs, get_set1_other _ _ _ hf hg]

/-- What a refresh leaves: of the driver's status UVLO and MISMATCH, of the summary all but DRV_FAULT, and every other register. -/
theorem gdRefresh_get {g : Fld} (hg : g.addr ≠ R.GDP_GDn_STAT n ∨ 6 ≤ g.lo ∨ 4 ≤ g.lo ∧ g.lo + g.width ≤ 5)
    (hs : g.addr ≠ R.GDP_STAT ∨ g.lo + g.width ≤ 4 ∨ 5 ≤ g.lo) : (s.gdRefresh n).get g = s.get g := by
  have hcmd : (s.putB (F.GDP_GDn_STAT_CMD n) (s.gdCommand n)).get g = s.get g :=
    get_putB_other _ _ _ _ (by simp) (hg.imp_right fun h => .inr (by simp; omega))
  have hlatch : ((s.putB (F.GDP_GDn_STAT_CMD n) (s.gdCommand n)).gdLatch n (F.GDP_GDn_STAT_CPLOW n)).get g = s.get g :=
    (gdLatch_get (by simp) (hg.imp_right fun h => by simp; omega) hs).trans hcmd
  rw [gdRefresh_eq, get_putB_other _ _ _ _ (by simp) (hg.imp_right fun h => .inr (by simp; omega)),
    gdDrive_other _ _ _ (hg.imp_right fun h => .inr (by omega))]
  split
  · exact hlatch
  · exact hcmd

/-- A refresh takes no fault flag back. -/
theorem gdRefresh_flag {f : Fld} (hf : driverFlag n f) (h : s.on f = true) : (s.gdRefresh n).on f = true := by
  obtain ⟨-, -, hlo, -⟩ := hf.place
  rw [on, gdRefresh_quiet_get (gdLow_of_held (gdHeld_of_flag hf h)) (.inr hlo)]
  exact h

/-! ### A fault turns its driver off (R198) -/

/-- The fault `f` of driver `n` is latched, and its output is off. -/
structure Down (n : Nat) (f : Fld) (s : State) : Prop where
  flag : s.on f = true
  out : s.on (F.GDP_GDn_STAT_OUT n) = false

theorem Down.of_writes {P : Nat → Prop} {f : Fld} (hf : driverFlag n f) (h : Down n f s) (hw : s.Writes P t) (hP : ¬ P (R.GDP_GDn_STAT n)) : Down n f t :=
  ⟨(hw.on (by rw [hf.place.1]; exact hP)).trans h.flag, (hw.on hP).trans h.out⟩

theorem gdRefresh_down {f : Fld} (hf : driverFlag n f) (h : s.on f = true) : Down n f (s.gdRefresh n) :=
  ⟨gdRefresh_flag hf h, gdRefresh_held (gdHeld_of_flag hf h)⟩

theorem gdLatch_flag {f : Fld} (hn : n < 8) (hf : driverFlag n f) : (s.gdLatch n f).on f = true := by
  obtain ⟨haddr, hwidth, -, hin⟩ := hf.place
  exact gdLatch_on s n hwidth hin (haddr ▸ GD_STAT_ne_STAT hn)

theorem gdFault_down {f : Fld} (hn : n < 8) (hf : driverFlag n f) : Down n f (s.gdFault n f) := gdRefresh_down hf (gdLatch_flag hn hf)

/-- A fault of another kind keeps a fault that stands. -/
theorem gdFault_keeps {f g : Fld} (hn : n < 8) (hf : driverFlag n f) (hg : driverFlag n g) (h : s.on g = true) : Down n g (s.gdFault n f) := by
  refine gdRefresh_down hg ?_
  by_cases he : g = f
  · subst he
    exact gdLatch_flag hn hg
  · obtain ⟨haddr, -, -, -⟩ := hg.place
    obtain ⟨-, -, -, hin⟩ := hf.place
    have hd : g.lo + g.width ≤ f.lo ∨ f.lo + f.width ≤ g.lo := by
      rcases hf with rfl | rfl | rfl <;> rcases hg with rfl | rfl | rfl <;> simp_all
    rw [on, gdLatch_get hin (.inr hd) (.inl (haddr ▸ GD_STAT_ne_STAT hn))]
    exact h

theorem gdFault_writes {f : Fld} (hf : f.addr = R.GDP_GDn_STAT n) : s.Writes (gdRegs n) (s.gdFault n f) :=
  (gdLatch_writes s n hf).trans (gdRefresh_writes _ n)

theorem gdFault_moves (s : State) (n : Nat) (f : Fld) : Moves [.regs, .cycle, .gdp, .rtc, .mram, .events, .stew, .draws] s (s.gdFault n f) :=
  ((gdLatch_moves s n f).mono (by decide)).trans (gdRefresh_moves _ n)

/-! ### The command (R196) -/

theorem gdCommand_soft (h : s.get (F.GDP_GDn_CFG_SRC n) = 0) : s.gdCommand n = s.on (F.GDP_GDn_CTRL_ON n) := by
  simp only [gdCommand, h]

/-- A low side, or a high side whose gate supply is OK, misses no supply. -/
theorem gdLow_supplied (h : n < 4 ∨ (s.get F.GDP_CP_OK).testBit (n - 4) = true) : s.gdLow n = false := by
  rcases h with h | h
  · simp [gdLow, h]
  · have hlt : n - 4 < 32 := by
      by_contra hge
      have hcap : s.get F.GDP_CP_OK < 2 ^ (n - 4) := lt_of_lt_of_le (getBits_lt _ 4 4) (Nat.pow_le_pow_right (by omega) (by omega))
      simp [Nat.testBit_lt_two_pow hcap] at h
    have hbit : bitAt (BitVec.ofNat 32 (s.get F.GDP_CP_OK)) (n - 4) = true := by
      rw [bitAt_eq_getLsbD, BitVec.getLsbD_ofNat, h]
      simp [hlt]
    simp [gdLow, hbit]

/-- A driver that is enabled, not held and supplied follows its command. -/
theorem gdRefresh_follows (hen : s.on (F.GDP_GDn_CFG_EN n) = true) (hheld : s.gdHeld n = false) (hlow : s.gdLow n = false) :
    (s.gdRefresh n).on (F.GDP_GDn_STAT_OUT n) = s.gdCommand n ∧ (s.gdRefresh n).on (F.GDP_GDn_STAT_CMD n) = s.gdCommand n := by
  constructor
  · rw [gdRefresh_quiet hlow, on_putB_other _ _ _ _ (by simp) (.inr (by simp)), gdDrive_out]
    simp [gdWants, hen, hheld]
  · rw [gdRefresh_quiet hlow, on_putB_other _ _ _ _ (by simp) (.inr (by simp)), on, gdDrive_other _ _ _ (.inr (.inl (by simp))), ← on,
      on_putB_same _ _ _ (by simp) (by simp)]

/-- What decides whether driver `n` is held, by register. -/
theorem gdHeld_congr (hout : t.outputsAllowed = s.outputsAllowed) (hgen : t.rd R.LOOM_STAT = s.rd R.LOOM_STAT)
    (hgrp : t.rd R.GDP_GRP_STAT = s.rd R.GDP_GRP_STAT) (hcfg : t.rd (R.GDP_GDn_CFG n) = s.rd (R.GDP_GDn_CFG n))
    (hstat : t.rd (R.GDP_GDn_STAT n) = s.rd (R.GDP_GDn_STAT n)) : t.gdHeld n = s.gdHeld n := by
  simp only [gdHeld, hout, hgen, gdGroupHeld, gdFaulted, bit, on, get, hgrp, hcfg, hstat]

end State
end Sys2Proof.Machine

/-! What the commands of the integrated drivers give (R196 to R198, R399). -/

namespace Sys2Proof.Machine

set_option Elab.async false
namespace State

variable {s t u : State} {n : Nat} {w : World} {v : Word}

/-! ### A write of a driver's command (R196) -/

theorem gdCtrlWrite_gives (n : Fin 8) (ha : s.accepts w (R.GDP_GDn_CTRL n) v) (hsrc : s.get (F.GDP_GDn_CFG_SRC n) = 0)
    (hen : s.on (F.GDP_GDn_CFG_EN n) = true) (hheld : s.gdHeld n = false) (hsup : n.val < 4 ∨ (s.get F.GDP_CP_OK).testBit (n - 4) = true) :
    Completes (.gdCtrlWrite w n v) s fun t =>
      t.on (F.GDP_GDn_STAT_OUT n) = t.on (F.GDP_GDn_CTRL_ON n) ∧ t.on (F.GDP_GDn_STAT_CMD n) = t.on (F.GDP_GDn_CTRL_ON n) ∧
      t.rd (R.GDP_GDn_CTRL n) = s.stored (R.GDP_GDn_CTRL n) v ∧ t.loom = s.loom ∧ t.clk = s.clk ∧
      (∀ b, b ≠ R.GDP_GDn_CTRL n → b ≠ R.GDP_GDn_STAT n → t.rd b = s.rd b) := by
  have hplain : ∀ n : Fin 8, movesPolicy (R.GDP_GDn_CTRL n) = false := by decide
  have hm : Moves [.cycle, .tst] (s.hook (R.GDP_GDn_CTRL n) v) (s.write w (R.GDP_GDn_CTRL n) v) := write_moves ha (hplain n)
  rw [hook_GDP_GDn_CTRL] at hm
  have hlim := n.isLt
  have hstore := storePlain_moves s (R.GDP_GDn_CTRL n) v
  have hrd {b : Nat} (hb : b ≠ R.GDP_GDn_CTRL n) : (s.storePlain (R.GDP_GDn_CTRL n) v).rd b = s.rd b := rd_storePlain_other s v hb
  have hst : (s.storePlain (R.GDP_GDn_CTRL n) v).gdHeld n = s.gdHeld n := gdHeld_congr
    (by simp only [outputsAllowed, switching, replayHolds, mode_of_rd (hrd (b := R.SYS_MODE) (by simp only [R.SYS_MODE, R.GDP_GDn_CTRL]; omega)), hstore.tst])
    (hrd (by simp only [R.LOOM_STAT, R.GDP_GDn_CTRL]; omega)) (hrd (by simp only [R.GDP_GRP_STAT, R.GDP_GDn_CTRL]; omega))
    (hrd (by simp only [R.GDP_GDn_CFG, R.GDP_GDn_CTRL]; omega)) (hrd (by simp only [R.GDP_GDn_STAT, R.GDP_GDn_CTRL]; omega))
  have hcfg : (R.GDP_GDn_CFG n) ≠ R.GDP_GDn_CTRL n := by simp only [R.GDP_GDn_CFG, R.GDP_GDn_CTRL]; omega
  have hlow := gdLow_supplied (s := s.storePlain (R.GDP_GDn_CTRL n) v) (n := n)
    (by rw [get_storePlain_other s v (by simp only [R.GDP_CP, R.GDP_GDn_CTRL]; omega)]; exact hsup)
  obtain ⟨hout, hcmd⟩ := gdRefresh_follows (s := s.storePlain (R.GDP_GDn_CTRL n) v) (n := n) ((on_storePlain_other s v hcfg).trans hen)
    (hst.trans hheld) hlow
  have hcommand := gdCommand_soft (s := s.storePlain (R.GDP_GDn_CTRL n) v) (n := n) ((get_storePlain_other s v hcfg).trans hsrc)
  have hwr := gdRefresh_quiet_writes hlow
  have hne : R.GDP_GDn_CTRL n ≠ R.GDP_GDn_STAT n := by simp only [R.GDP_GDn_CTRL, R.GDP_GDn_STAT]; omega
  have hon : (s.write w (R.GDP_GDn_CTRL n) v).on (F.GDP_GDn_CTRL_ON n) = (s.storePlain (R.GDP_GDn_CTRL n) v).gdCommand n :=
    ((on_congr hm.regs _).trans (hwr.on hne)).trans hcommand.symm
  refine ⟨_, rfl, ?_, ?_, ?_, hm.loom.trans ((gdRefresh_quiet_moves hlow).loom.trans hstore.loom),
    hm.clk.trans ((gdRefresh_quiet_moves hlow).clk.trans hstore.clk), fun b h1 h2 => ?_⟩
  · rw [hon, on_congr hm.regs]
    exact hout
  · rw [hon, on_congr hm.regs]
    exact hcmd
  · rw [rd_congr hm.regs, hwr.rd hne, rd_storePlain_same]
  · rw [rd_congr hm.regs, hwr.rd h2, hrd h1]

/-! ### The charge pump (R197) -/

/-- The registers that a change of OK of high side `k` may write. -/
def supplyRegs (k b : Nat) : Prop := b = R.GDP_CP ∨ gdRegs (4 + k) b

theorem putBit_writes (s : State) (a i : Nat) (b : Bool) : s.Writes (· = a) (s.putBit a i b) := .putBit (.refl s) rfl

theorem cpOk_writes (s : State) (k : Nat) (ok : Bool) : s.Writes (supplyRegs k) (s.cpOk k ok) := by
  have hbit : s.Writes (supplyRegs k) (s.putBit R.GDP_CP (4 + k) ok) := .putBit (.refl s) (.inl rfl)
  exact .ite (hbit.trans ((gdFault_writes rfl).mono fun _ h => .inr h)) (hbit.trans ((gdRefresh_writes _ _).mono fun _ h => .inr h))

theorem cpOk_moves (s : State) (k : Nat) (ok : Bool) :
    Moves [.regs, .cycle, .gdp, .rtc, .mram, .events, .stew, .draws] s (s.cpOk k ok) := by
  have hbit : Moves [.regs, .cycle, .gdp, .rtc, .mram, .events, .stew, .draws] s (s.putBit R.GDP_CP (4 + k) ok) := putB_moves (.refl s) _ _
  exact .ite (hbit.trans (gdFault_moves _ _ _)) (hbit.trans (gdRefresh_moves _ _))

/-- A driver that loses its gate supply takes CPLOW, and any other one refreshes. -/
theorem cpOk_lost {k : Nat} (h : s.on (F.GDP_GDn_STAT_OUT (4 + k)) = true) :
    s.cpOk k false = (s.putBit R.GDP_CP (4 + k) false).gdFault (4 + k) (F.GDP_GDn_STAT_CPLOW (4 + k)) := by
  have hout : (s.putBit R.GDP_CP (4 + k) false).on (F.GDP_GDn_STAT_OUT (4 + k)) = true :=
    ((putBit_writes s _ _ _).on (by simp only [R.GDP_GDn_STAT, R.GDP_CP]; omega)).trans h
  unfold cpOk
  dsimp only
  rw [hout]
  rfl

theorem cpOk_refreshes {k : Nat} {ok : Bool} (h : ok = true ∨ s.on (F.GDP_GDn_STAT_OUT (4 + k)) = false) :
    s.cpOk k ok = (s.putBit R.GDP_CP (4 + k) ok).gdRefresh (4 + k) := by
  have hout : (s.putBit R.GDP_CP (4 + k) ok).on (F.GDP_GDn_STAT_OUT (4 + k)) = s.on (F.GDP_GDn_STAT_OUT (4 + k)) :=
    (putBit_writes s _ _ _).on (by simp only [R.GDP_GDn_STAT, R.GDP_CP]; omega)
  unfold cpOk
  dsimp only
  rw [hout, if_neg (by rcases h with h | h <;> simp [h])]

theorem bit_cpOk_same (s : State) {k : Nat} (hk : k < 4) (ok : Bool) : (s.cpOk k ok).bit R.GDP_CP (4 + k) = ok := by
  have hbit := bit_putBit_same s R.GDP_CP ok (i := 4 + k) (by omega)
  have hne : ¬ gdRegs (4 + k) R.GDP_CP := by simp only [gdRegs, R.GDP_CP, R.GDP_GDn_STAT, R.GDP_STAT]; omega
  unfold cpOk
  dsimp only
  split
  · exact ((gdFault_writes rfl).on hne).trans hbit
  · exact ((gdRefresh_writes _ _).on hne).trans hbit

theorem bit_cpOk_other (s : State) {k j : Nat} (hk : k < 4) (hj : j ≠ 4 + k) (ok : Bool) : (s.cpOk k ok).bit R.GDP_CP j = s.bit R.GDP_CP j := by
  have hbit := bit_putBit_other s R.GDP_CP ok (i := 4 + k) (j := j) (by omega) hj
  have hne : ¬ gdRegs (4 + k) R.GDP_CP := by simp only [gdRegs, R.GDP_CP, R.GDP_GDn_STAT, R.GDP_STAT]; omega
  unfold cpOk
  dsimp only
  split
  · exact ((gdFault_writes rfl).on hne).trans hbit
  · exact ((gdRefresh_writes _ _).on hne).trans hbit

theorem cpOkChange_loses (k : Fin 4) (hp : s.sys.phase ≠ .keep) (ho : s.on (F.GDP_GDn_STAT_OUT (4 + k)) = true) :
    Completes (.cpOkChange k false) s fun t =>
      t.on (F.GDP_GDn_STAT_CPLOW (4 + k)) = true ∧ t.on (F.GDP_GDn_STAT_OUT (4 + k)) = false ∧
      t.bit R.GDP_CP (4 + k) = false ∧ t.loom = s.loom ∧ s.clockKept t := by
  have heq : (if s.sys.phase = .keep || (false && !s.pumpRuns) then s else s.cpOk k false) = s.cpOk k false := if_neg (by simp [hp])
  have hdown : Down (4 + k) (F.GDP_GDn_STAT_CPLOW (4 + k)) (s.cpOk k false) := by
    rw [cpOk_lost ho]
    exact gdFault_down (by omega) (.inr (.inl rfl))
  exact ⟨_, congrArg Host.Outcome.next heq, hdown.flag, hdown.out, bit_cpOk_same s k.isLt false, (cpOk_moves ..).loom, (cpOk_moves ..).clockKept⟩

theorem cpOkChange_returns (k : Fin 4) (hp : s.sys.phase ≠ .keep) (hpump : s.pumpRuns = true) (hen : s.on (F.GDP_GDn_CFG_EN (4 + k)) = false) :
    Completes (.cpOkChange k true) s fun t =>
      t.bit R.GDP_CP (4 + k) = true ∧ t.on (F.GDP_GDn_STAT_OUT (4 + k)) = false ∧ t.loom = s.loom ∧ t.clk = s.clk := by
  have heq : (if s.sys.phase = .keep || (true && !s.pumpRuns) then s else s.cpOk k true) = s.cpOk k true := if_neg (by simp [hp, hpump])
  have hen' : (s.putBit R.GDP_CP (4 + k) true).on (F.GDP_GDn_CFG_EN (4 + k)) = false :=
    ((putBit_writes s _ _ _).on (by simp only [R.GDP_GDn_CFG, R.GDP_CP]; omega)).trans hen
  have hwants : (s.putBit R.GDP_CP (4 + k) true).gdWants (4 + k) = false := by simp [gdWants, hen']
  have hlow : (s.putBit R.GDP_CP (4 + k) true).gdLow (4 + k) = false := by simp [gdLow, hwants]
  have hm : Moves [.regs, .cycle, .gdp] s (s.cpOk k true) := by
    rw [cpOk_refreshes (.inl rfl)]
    exact Moves.trans (putB_moves (.refl s) _ _) (gdRefresh_quiet_moves hlow)
  refine ⟨_, congrArg Host.Outcome.next heq, bit_cpOk_same s k.isLt true, ?_, hm.loom, hm.clk⟩
  rw [cpOk_refreshes (.inl rfl), gdRefresh_quiet hlow, on_putB_other _ _ _ _ (by simp) (.inr (by simp)), gdDrive_out, hwants]

theorem cpOkChange_idle (k : Fin 4) (h : s.pumpRuns = false) : exec (.cpOkChange k true) s = .next s :=
  congrArg Host.Outcome.next (if_pos (by simp [h]))

/-! ### Faults that are found (R198) -/

theorem gdFault_uvlo (n : Fin 8) (hv : s.on F.SYS_SUPPLY_VDRV_OK = false) (hc : s.gdCommand n = true) (hm : s.gdMismatched n = false)
    (hl : s.gdCplow n = false) : Completes (.gdFault n) s fun t =>
      t.on (F.GDP_GDn_STAT_UVLO n) = true ∧ t.on (F.GDP_GDn_STAT_OUT n) = false ∧ t.loom = s.loom ∧ s.clockKept t := by
  have hdown : Down n (F.GDP_GDn_STAT_UVLO n) (s.gdFault n (F.GDP_GDn_STAT_UVLO n)) := gdFault_down n.isLt (.inl rfl)
  have heq : s.gdFaults n = s.gdFault n (F.GDP_GDn_STAT_UVLO n) := by
    have h1 : s.gdUvlo n = true := by simp [gdUvlo, hv, hc]
    simp only [gdFaults, whenB, h1, if_true, hl, hm, Bool.false_eq_true, if_false]
  exact ⟨_, congrArg Host.Outcome.next heq, hdown.flag, hdown.out, (gdFault_moves ..).loom, (gdFault_moves ..).clockKept⟩

/-! ### The gate monitor (R198, R399) -/

/-- What the monitor notes: the gate's range, and from when it has been elsewhere than the output. -/
def gateNoted (s : State) (n : Nat) (gate : GateLevel) : State :=
  (s.putB (F.GDP_GDn_STAT_GATE n) (gate == .on)).modGd n (fun g => { g with
    awayAt := if followsGate gate (s.on (F.GDP_GDn_STAT_OUT n)) then none else some (g.awayAt.getD
      (if (s.gd n).followed || s.due ((s.gd n).edgeAt + s.monTime n + 1) then s.count else (s.gd n).edgeAt)),
    followed := g.followed || followsGate gate (s.on (F.GDP_GDn_STAT_OUT n)) })

theorem gateSensed_eq (s : State) (n : Nat) (gate : GateLevel) : s.gateSensed n gate =
    (s.gateNoted n gate).whenB ((s.gateNoted n gate).gdMismatched n) (·.gdFault n (F.GDP_GDn_STAT_MISMATCH n)) := rfl

theorem gateNoted_writes (s : State) (n : Nat) (gate : GateLevel) : s.Writes (· = R.GDP_GDn_STAT n) (s.gateNoted n gate) :=
  Writes.regs (Writes.putBAt (f := F.GDP_GDn_STAT_GATE n) (.refl s)) (by rfl)

theorem gateNoted_moves (s : State) (n : Nat) (gate : GateLevel) : Moves [.regs, .cycle, .gdp] s (s.gateNoted n gate) :=
  .record (putB_moves (.refl s) _ _) (by rfl)

theorem gateNoted_get (s : State) (gate : GateLevel) {g : Fld} (hg : g.addr ≠ R.GDP_GDn_STAT n ∨ g.lo + g.width ≤ 2 ∨ 3 ≤ g.lo) :
    (s.gateNoted n gate).get g = s.get g :=
  (get_congr (by rfl) g).trans (get_putB_other s (F.GDP_GDn_STAT_GATE n) g _ (by simp) hg)

theorem gateNoted_gd (s : State) (gate : GateLevel) (hn : n < s.gdp.gds.length) : (s.gateNoted n gate).gd n = { s.gd n with
    awayAt := if followsGate gate (s.on (F.GDP_GDn_STAT_OUT n)) then none else some ((s.gd n).awayAt.getD
      (if (s.gd n).followed || s.due ((s.gd n).edgeAt + s.monTime n + 1) then s.count else (s.gd n).edgeAt)),
    followed := (s.gd n).followed || followsGate gate (s.on (F.GDP_GDn_STAT_OUT n)) } := nth_upd_same _ _ _ _ hn

theorem gateNoted_follows {gate : GateLevel} (h : ((s.gateNoted n gate).gd n).awayAt = none) : (s.gateNoted n gate).gdMismatched n = false := by
  simp [gdMismatched, h]

/-- A gate elsewhere is a MISMATCH once the monitor's time has passed. -/
theorem gateNoted_away {gate : GateLevel} {a : Nat} (h : ((s.gateNoted n gate).gd n).awayAt = some a) :
    (s.gateNoted n gate).gdMismatched n = (s.on (F.GDP_GDn_MON_EN n) && s.due (a + s.monTime n)) := by
  have hne : R.GDP_GDn_MON n ≠ R.GDP_GDn_STAT n := by simp only [R.GDP_GDn_MON, R.GDP_GDn_STAT]; omega
  have hen := gateNoted_get (n := n) s gate (g := F.GDP_GDn_MON_EN n) (.inl hne)
  have ht := gateNoted_get (n := n) s gate (g := F.GDP_GDn_MON_MON_T n) (.inl hne)
  have hcount : (s.gateNoted n gate).count = s.count := congrArg (fun c : Clk => c.count.toNat) (gateNoted_moves s n gate).clk
  simp only [gdMismatched, h, due, monTime, hcount, on, hen, ht] <;> rfl

theorem monTime_pos (s : State) (n : Nat) : 0 < s.monTime n := by
  unfold monTime
  omega

/-- A monitor that finds no MISMATCH only notes what it senses. -/
theorem gateSensed_notes {gate : GateLevel} {P : State → Prop} (n : Fin 8) (hp : s.sys.phase ≠ .keep)
    (h : (s.gateNoted n gate).gdMismatched n = false) (hP : P (s.gateNoted n gate)) : Completes (.gdMismatch n gate) s P := by
  have heq : (if s.sys.phase = .keep then s else s.gateSensed n gate) = s.gateNoted n gate := by
    rw [if_neg hp, gateSensed_eq, h]
    rfl
  exact ⟨_, congrArg Host.Outcome.next heq, hP⟩

theorem gdMismatch_latches (n : Fin 8) (gate : GateLevel) (hs : s.Shaped) (hp : s.sys.phase ≠ .keep) (hen : s.on (F.GDP_GDn_MON_EN n) = true)
    (hg : followsGate gate (s.on (F.GDP_GDn_STAT_OUT n)) = false)
    (ht : (s.gd n).awayAt = none ∧ (s.gd n).followed = false ∧ s.count = (s.gd n).edgeAt + s.monTime n ∨
      ∃ a, (s.gd n).awayAt = some a ∧ a + s.monTime n ≤ s.count) : Completes (.gdMismatch n gate) s fun t =>
      t.on (F.GDP_GDn_STAT_MISMATCH n) = true ∧ t.on (F.GDP_GDn_STAT_OUT n) = false ∧ t.loom = s.loom ∧ s.clockKept t := by
  have hmis : (s.gateNoted n gate).gdMismatched n = true := by
    have hgd := gateNoted_gd (n := n) s gate (n.isLt.trans_eq hs.gds.symm)
    rw [hg] at hgd
    rcases ht with ⟨haway, hfol, hcount⟩ | ⟨a, haway, hle⟩
    · have hat : ((s.gateNoted n gate).gd n).awayAt = some (s.gd n).edgeAt := by
        rw [hgd]
        simp [haway, hfol, due, hcount]
      rw [gateNoted_away hat, hen]
      simp [due, hcount]
    · have hat : ((s.gateNoted n gate).gd n).awayAt = some a := by
        rw [hgd]
        simp [haway]
      rw [gateNoted_away hat, hen]
      simpa [due] using hle
  have heq : (if s.sys.phase = .keep then s else s.gateSensed n gate) = (s.gateNoted n gate).gdFault n (F.GDP_GDn_STAT_MISMATCH n) := by
    rw [if_neg hp, gateSensed_eq, hmis]
    rfl
  have hdown : Down n (F.GDP_GDn_STAT_MISMATCH n) ((s.gateNoted n gate).gdFault n (F.GDP_GDn_STAT_MISMATCH n)) :=
    gdFault_down n.isLt (.inr (.inr rfl))
  have hm := Moves.trans ((gateNoted_moves s n gate).mono (by decide)) (gdFault_moves (s.gateNoted n gate) n (F.GDP_GDn_STAT_MISMATCH n))
  exact ⟨_, congrArg Host.Outcome.next heq, hdown.flag, hdown.out, hm.loom, hm.clockKept⟩

theorem gdMismatch_leaves (n : Fin 8) (gate : GateLevel) (hs : s.Shaped) (hp : s.sys.phase ≠ .keep)
    (hg : followsGate gate (s.on (F.GDP_GDn_STAT_OUT n)) = false) (haway : (s.gd n).awayAt = none)
    (ht : (s.gd n).followed = true ∨ (s.gd n).edgeAt + s.monTime n < s.count) : Completes (.gdMismatch n gate) s fun t =>
      (t.gd n).awayAt = some s.count ∧ t.get (F.GDP_GDn_STAT_MISMATCH n) = s.get (F.GDP_GDn_STAT_MISMATCH n) ∧
      t.on (F.GDP_GDn_STAT_OUT n) = s.on (F.GDP_GDn_STAT_OUT n) ∧ t.loom = s.loom ∧ t.clk = s.clk := by
  have hgd := gateNoted_gd (n := n) s gate (n.isLt.trans_eq hs.gds.symm)
  have hnow : ((s.gateNoted n gate).gd n).awayAt = some s.count := by
    rw [hgd, hg, haway]
    rcases ht with h | h
    · simp [h]
    · simp [due, Nat.succ_le_of_lt h]
  refine gateSensed_notes n hp ?_ ⟨hnow, gateNoted_get s gate (.inr (.inr (by simp))), ?_, (gateNoted_moves ..).loom, (gateNoted_moves ..).clk⟩
  · have := monTime_pos s n
    rw [gateNoted_away hnow]
    simp [due]
    omega
  · rw [on, gateNoted_get s gate (.inr (.inl (by simp))), on]

theorem gdMismatch_follows (n : Fin 8) (gate : GateLevel) (hs : s.Shaped) (hp : s.sys.phase ≠ .keep)
    (hg : followsGate gate (s.on (F.GDP_GDn_STAT_OUT n)) = true) : Completes (.gdMismatch n gate) s fun t =>
      (t.gd n).awayAt = none ∧ (t.gd n).followed = true ∧ t.get (F.GDP_GDn_STAT_MISMATCH n) = s.get (F.GDP_GDn_STAT_MISMATCH n) ∧
      t.on (F.GDP_GDn_STAT_OUT n) = s.on (F.GDP_GDn_STAT_OUT n) ∧ t.loom = s.loom ∧ t.clk = s.clk := by
  have hgd := gateNoted_gd (n := n) s gate (n.isLt.trans_eq hs.gds.symm)
  have hnone : ((s.gateNoted n gate).gd n).awayAt = none := by rw [hgd, hg]; rfl
  refine gateSensed_notes n hp (gateNoted_follows hnone) ⟨hnone, ?_, gateNoted_get s gate (.inr (.inr (by simp))), ?_, (gateNoted_moves ..).loom, (gateNoted_moves ..).clk⟩
  · rw [hgd, hg]
    exact Bool.or_true _
  · rw [on, gateNoted_get s gate (.inr (.inl (by simp))), on]

end State
end Sys2Proof.Machine

/-! Driver faults that clear, and VDRV's undervoltage (R197, R198). -/

namespace Sys2Proof.Machine

set_option Elab.async false
namespace State

variable {s t u : State} {n : Nat} {w : World} {v : Word}

/-! ### A write of the fault flags -/

/-- A flag clears where the write asks for it and its cause has gone. -/
def clearIf (s : State) (b : Bool) (f : Fld) : State := if b then s.clr f else s

theorem clearIf_writes {f : Fld} {a : Nat} (b : Bool) (hf : f.addr = a) : s.Writes (· = a) (s.clearIf b f) := .ite (.clr (.refl s) hf) (.refl s)

theorem clearIf_moves (s : State) (b : Bool) (f : Fld) : Moves [.regs, .cycle] s (s.clearIf b f) := .ite (.put (.refl s)) (.refl s)

theorem clearIf_on {f : Fld} (b : Bool) (h : f.lo + f.width ≤ 32) : (s.clearIf b f).on f = (s.on f && !b) := by
  cases b with
  | false => exact (Bool.and_true _).symm
  | true =>
    rw [Bool.not_true, Bool.and_false]
    exact on_clr_same s f h

theorem clearIf_other {f g : Fld} (b : Bool) (h : f.lo + f.width ≤ 32) (hd : g.addr ≠ f.addr ∨ g.lo + g.width ≤ f.lo ∨ f.lo + f.width ≤ g.lo) :
    (s.clearIf b f).get g = s.get g := by
  cases b with
  | false => rfl
  | true => exact get_clr_other s f g h hd

/-- The driver's flags after the write's clears, before its refresh. -/
def gdCleared (s : State) (n : Nat) (v : Word) : State :=
  ((s.clearIf (bitAt v 4 && s.on F.SYS_SUPPLY_VDRV_OK) (F.GDP_GDn_STAT_UVLO n)).clearIf
    (bitAt v 5 && (n < 4 || (s.get F.GDP_CP_OK).testBit (n - 4))) (F.GDP_GDn_STAT_CPLOW n)).clearIf
    (bitAt v 6 && s.on (F.GDP_GDn_STAT_GATE n) == s.on (F.GDP_GDn_STAT_OUT n)) (F.GDP_GDn_STAT_MISMATCH n)

theorem gdStat_eq (s : State) (n : Nat) (v : Word) : s.gdStat n v = (s.gdCleared n v).gdSummary.gdRefresh n := rfl

theorem gdCleared_writes (s : State) (n : Nat) (v : Word) : s.Writes (· = R.GDP_GDn_STAT n) (s.gdCleared n v) :=
  ((clearIf_writes (f := F.GDP_GDn_STAT_UVLO n) _ rfl).trans (clearIf_writes (f := F.GDP_GDn_STAT_CPLOW n) _ rfl)).trans
    (clearIf_writes (f := F.GDP_GDn_STAT_MISMATCH n) _ rfl)

theorem gdCleared_moves (s : State) (n : Nat) (v : Word) : Moves [.regs, .cycle] s (s.gdCleared n v) :=
  ((clearIf_moves s _ _).trans (clearIf_moves _ _ _)).trans (clearIf_moves _ _ _)

theorem gdCleared_uvlo (s : State) (n : Nat) (v : Word) :
    (s.gdCleared n v).get (F.GDP_GDn_STAT_UVLO n) =
      (s.clearIf (bitAt v 4 && s.on F.SYS_SUPPLY_VDRV_OK) (F.GDP_GDn_STAT_UVLO n)).get (F.GDP_GDn_STAT_UVLO n) := by
  rw [gdCleared, clearIf_other _ (by simp) (.inr (by simp)), clearIf_other _ (by simp) (.inr (by simp))]

theorem gdCleared_cplow (s : State) (n : Nat) (v : Word) : (s.gdCleared n v).on (F.GDP_GDn_STAT_CPLOW n) =
    (s.on (F.GDP_GDn_STAT_CPLOW n) && !(bitAt v 5 && (n < 4 || (s.get F.GDP_CP_OK).testBit (n - 4)))) := by
  rw [gdCleared, on, clearIf_other _ (by simp) (.inr (by simp)), ← on, clearIf_on _ (by simp), on,
    clearIf_other _ (by simp) (.inr (by simp)), ← on]

theorem gdCleared_mismatch (s : State) (n : Nat) (v : Word) : (s.gdCleared n v).get (F.GDP_GDn_STAT_MISMATCH n) =
    (s.clearIf (bitAt v 6 && s.on (F.GDP_GDn_STAT_GATE n) == s.on (F.GDP_GDn_STAT_OUT n)) (F.GDP_GDn_STAT_MISMATCH n)).get
      (F.GDP_GDn_STAT_MISMATCH n) := by
  have hbefore (g : Fld) (hg : g = F.GDP_GDn_STAT_MISMATCH n) : (((s.clearIf (bitAt v 4 && s.on F.SYS_SUPPLY_VDRV_OK) (F.GDP_GDn_STAT_UVLO n)).clearIf
      (bitAt v 5 && (n < 4 || (s.get F.GDP_CP_OK).testBit (n - 4))) (F.GDP_GDn_STAT_CPLOW n))).get g = s.get g := by
    subst hg
    rw [clearIf_other _ (by simp) (.inr (by simp)), clearIf_other _ (by simp) (.inr (by simp))]
  cases hb : bitAt v 6 && s.on (F.GDP_GDn_STAT_GATE n) == s.on (F.GDP_GDn_STAT_OUT n) with
  | false =>
    rw [gdCleared, hb]
    exact hbefore _ rfl
  | true =>
    rw [gdCleared, hb]
    exact (get_put_same _ _ 0 (by simp)).trans (get_put_same _ _ 0 (by simp)).symm

theorem gdSummary_get {g : Fld} (hs : g.addr ≠ R.GDP_STAT) : s.gdSummary.get g = s.get g := get_putB_other _ _ _ _ (by simp) (.inl hs)

theorem gdFaultClear_gives (n : Fin 8) (ha : s.accepts w (R.GDP_GDn_STAT n) v) : Completes (.gdFaultClear w n v) s fun t =>
      (bitAt v 4 = true → s.on F.SYS_SUPPLY_VDRV_OK = true → t.on (F.GDP_GDn_STAT_UVLO n) = false) ∧
      (bitAt v 4 = false ∨ s.on F.SYS_SUPPLY_VDRV_OK = false → t.get (F.GDP_GDn_STAT_UVLO n) = s.get (F.GDP_GDn_STAT_UVLO n)) ∧
      (bitAt v 5 = false ∨ (4 ≤ n.val ∧ (s.get F.GDP_CP_OK).testBit (n - 4) = false) → s.on (F.GDP_GDn_STAT_CPLOW n) = true →
        t.on (F.GDP_GDn_STAT_CPLOW n) = true) ∧
      (bitAt v 5 = true → n.val < 4 ∨ (s.get F.GDP_CP_OK).testBit (n - 4) = true → t.on (F.GDP_GDn_STAT_CPLOW n) = false) ∧
      (bitAt v 6 = true → s.on (F.GDP_GDn_STAT_GATE n) = s.on (F.GDP_GDn_STAT_OUT n) → t.on (F.GDP_GDn_STAT_MISMATCH n) = false) ∧
      (bitAt v 6 = false ∨ s.on (F.GDP_GDn_STAT_GATE n) ≠ s.on (F.GDP_GDn_STAT_OUT n) →
        t.get (F.GDP_GDn_STAT_MISMATCH n) = s.get (F.GDP_GDn_STAT_MISMATCH n)) ∧
      t.loom = s.loom ∧ s.clockKept t ∧ (∀ b, b ≠ R.GDP_GDn_STAT n → b ≠ R.GDP_STAT → t.rd b = s.rd b) := by
  have hplain : ∀ n : Fin 8, movesPolicy (R.GDP_GDn_STAT n) = false := by decide
  have hmw : Moves [.cycle, .tst] (s.hook (R.GDP_GDn_STAT n) v) (s.write w (R.GDP_GDn_STAT n) v) := write_moves ha (hplain n)
  rw [hook_GDP_GDn_STAT, gdStat_eq] at hmw
  have hlim := n.isLt
  have hstat : R.GDP_GDn_STAT n ≠ R.GDP_STAT := GD_STAT_ne_STAT n.isLt
  have hsum (g : Fld) (hg : g.addr = R.GDP_GDn_STAT n) : (s.gdCleared n v).gdSummary.get g = (s.gdCleared n v).get g := gdSummary_get (hg ▸ hstat)
  have huvlo : ((s.gdCleared n v).gdSummary.gdRefresh n).get (F.GDP_GDn_STAT_UVLO n) =
      (s.clearIf (bitAt v 4 && s.on F.SYS_SUPPLY_VDRV_OK) (F.GDP_GDn_STAT_UVLO n)).get (F.GDP_GDn_STAT_UVLO n) := by
    rw [gdRefresh_get (.inr (by simp)) (.inl hstat), gdSummary_get hstat, gdCleared_uvlo]
  have hmis : ((s.gdCleared n v).gdSummary.gdRefresh n).get (F.GDP_GDn_STAT_MISMATCH n) =
      (s.clearIf (bitAt v 6 && s.on (F.GDP_GDn_STAT_GATE n) == s.on (F.GDP_GDn_STAT_OUT n)) (F.GDP_GDn_STAT_MISMATCH n)).get
        (F.GDP_GDn_STAT_MISMATCH n) := by
    rw [gdRefresh_get (.inr (by simp)) (.inl hstat), gdSummary_get hstat, gdCleared_mismatch]
  have hlowbit : (s.gdCleared n v).gdSummary.on (F.GDP_GDn_STAT_CPLOW n) =
      (s.on (F.GDP_GDn_STAT_CPLOW n) && !(bitAt v 5 && (decide (n.val < 4) || (s.get F.GDP_CP_OK).testBit (n - 4)))) := by
    rw [on, gdSummary_get hstat, ← on, gdCleared_cplow]
  have hw : s.Writes (gdRegs n) (s.gdCleared n v).gdSummary := .putB ((gdCleared_writes s n v).mono fun _ h => .inl h) (.inr rfl)
  have hm : Moves [.regs, .cycle] s (s.gdCleared n v).gdSummary := putB_moves (gdCleared_moves s n v) _ _
  have hcp : (s.gdCleared n v).gdSummary.get F.GDP_CP_OK = s.get F.GDP_CP_OK :=
    hw.get (by simp only [gdRegs, R.GDP_CP, R.GDP_GDn_STAT, R.GDP_STAT]; omega)
  have hwt := hw.trans (gdRefresh_writes (s.gdCleared n v).gdSummary n)
  have hmt := (hm.mono (by decide)).trans (gdRefresh_moves (s.gdCleared n v).gdSummary n)
  refine ⟨_, rfl, fun h1 h2 => ?_, fun h => ?_, fun h hlow => ?_, fun h1 h2 => ?_, fun h1 h2 => ?_, fun h => ?_,
    hmw.loom.trans hmt.loom, ?_, fun b h1 h2 => ?_⟩
  · rw [on_congr hmw.regs, on, huvlo, ← on, clearIf_on _ (by simp)]
    simp [h1, h2]
  · rw [get_congr hmw.regs, huvlo]
    rcases h with h | h <;> rw [h] <;> simp [clearIf]
  · rw [on_congr hmw.regs]
    refine gdRefresh_flag (.inr (.inl rfl)) (hlowbit.trans ?_)
    rcases h with h | ⟨h4, h⟩
    · simp [hlow, h]
    · simp [hlow, h, h4]
  · have hoff : (s.gdCleared n v).gdSummary.on (F.GDP_GDn_STAT_CPLOW n) = false := by
      rw [hlowbit]
      rcases h2 with h2 | h2 <;> simp [h1, h2]
    have hquiet := gdLow_supplied (s := (s.gdCleared n v).gdSummary) (n := n) (hcp.symm ▸ h2)
    rw [on_congr hmw.regs, on, gdRefresh_quiet_get hquiet (.inr (by simp))]
    exact hoff
  · rw [on_congr hmw.regs, on, hmis, ← on, clearIf_on _ (by simp)]
    simp [h1, h2]
  · rw [get_congr hmw.regs, hmis]
    have hno : (bitAt v 6 && s.on (F.GDP_GDn_STAT_GATE n) == s.on (F.GDP_GDn_STAT_OUT n)) = false := by
      rcases h with h | h <;> simp [h]
    rw [hno]
    rfl
  · obtain ⟨r, hr⟩ := hmt.clockKept
    exact ⟨r, hmw.clk.trans hr⟩
  · rw [rd_congr hmw.regs, hwt.rd (by simp [gdRegs, h1, h2])]

/-! ### VDRV's undervoltage (R197, R198) -/

/-- The registers that VDRV's undervoltage may write beside its own flag. -/
def driverRegs (b : Nat) : Prop := b = R.GDP_STAT ∨ b = R.GDP_CP ∨ ∃ i < 8, b = R.GDP_GDn_STAT i

theorem driverRegs_of_gdRegs {i b : Nat} (hi : i < 8) (h : gdRegs i b) : driverRegs b := h.elim (fun h => .inr (.inr ⟨i, hi, h⟩)) .inl

theorem driverRegs_of_supplyRegs {k b : Nat} (hk : k < 4) (h : supplyRegs k b) : driverRegs b :=
  h.elim (fun h => .inr (.inl h)) (driverRegs_of_gdRegs (by omega))

/-- VDRV has been seen to fall: the flags, and event 0xDE where it stood before. -/
def vdrvLow (s : State) : State :=
  ((s.putB F.SYS_SUPPLY_VDRV_OK false).putB F.GDP_STAT_UVLO true).whenB (s.on F.SYS_SUPPLY_VDRV_OK) (·.raise 0xDE)

/-- Every driver commanded on takes UVLO. -/
def uvloAll (s : State) : State := s.forAll 8 (fun n u => u.whenB (u.gdUvlo n) (·.gdFault n (F.GDP_GDn_STAT_UVLO n)))

theorem vdrv_low_eq (h : s.sys.phase ≠ .keep) : s.vdrv true = s.vdrvLow.uvloAll.pumpFollow := by
  have hl : (true && s.on F.SYS_SUPPLY_VDRV_OK) = s.on F.SYS_SUPPLY_VDRV_OK := Bool.true_and _
  unfold vdrv
  dsimp only
  rw [if_neg h, hl]
  rfl

theorem vdrvLow_regs (s : State) : s.vdrvLow.regs = ((s.putB F.SYS_SUPPLY_VDRV_OK false).putB F.GDP_STAT_UVLO true).regs := by
  unfold vdrvLow whenB
  split
  · exact raise_regs ..
  · rfl

theorem vdrvLow_moves (s : State) : Moves [.regs, .cycle, .events, .stew] s s.vdrvLow := by
  have h : Moves [.regs, .cycle, .events, .stew] s ((s.putB F.SYS_SUPPLY_VDRV_OK false).putB F.GDP_STAT_UVLO true) :=
    putB_moves (putB_moves (.refl s) _ _) _ _
  unfold vdrvLow whenB
  exact .ite (.raise h) h

theorem vdrvLow_writes (s : State) : s.Writes (fun b => b = R.SYS_SUPPLY ∨ b = R.GDP_STAT) s.vdrvLow :=
  Writes.regs (Writes.putB (f := F.GDP_STAT_UVLO) (Writes.putB (f := F.SYS_SUPPLY_VDRV_OK) (.refl s) (.inl rfl)) (.inr rfl)) (vdrvLow_regs s)

theorem uvloTurn_writes (s : State) {i : Nat} (hi : i < 8) : s.Writes driverRegs (s.whenB (s.gdUvlo i) (·.gdFault i (F.GDP_GDn_STAT_UVLO i))) :=
  .whenB (.refl s) fun _ hu => hu.trans ((gdFault_writes rfl).mono fun _ h => driverRegs_of_gdRegs hi h)

theorem uvloTurn_moves (s : State) (i : Nat) :
    Moves [.regs, .cycle, .gdp, .rtc, .mram, .events, .stew, .draws] s (s.whenB (s.gdUvlo i) (·.gdFault i (F.GDP_GDn_STAT_UVLO i))) := by
  unfold whenB
  exact .ite (gdFault_moves ..) (.refl s)

theorem pumpTurn_writes (s : State) {k : Nat} (hk : k < 4) : s.Writes driverRegs (if (s.get F.GDP_CP_OK).testBit k then s.cpOk k false else s) :=
  .ite ((cpOk_writes s k false).mono fun _ h => driverRegs_of_supplyRegs hk h) (.refl s)

theorem uvloAll_writes (s : State) : s.Writes driverRegs s.uvloAll := Writes.forAll (.refl s) fun _ u hi hu => hu.trans (uvloTurn_writes u hi)

theorem uvloAll_moves (s : State) : Moves [.regs, .cycle, .gdp, .rtc, .mram, .events, .stew, .draws] s s.uvloAll :=
  Moves.forAll (.refl s) fun i u hu => hu.trans (uvloTurn_moves u i)

theorem pumpFollow_writes (s : State) : s.Writes driverRegs s.pumpFollow :=
  .ite (.refl s) (Writes.forAll (.refl s) fun _ u hk hu => hu.trans (pumpTurn_writes u hk))

theorem pumpFollow_moves (s : State) : Moves [.regs, .cycle, .gdp, .rtc, .mram, .events, .stew, .draws] s s.pumpFollow :=
  .ite (.refl s) (Moves.forAll (.refl s) fun k u hu => hu.trans (.ite (cpOk_moves u k false) (.refl u)))

/-- A driver's fault leaves GDP_STAT.UVLO. -/
theorem gdFault_summary {f : Fld} (hn : n < 8) (hf : driverFlag n f) : (s.gdFault n f).get F.GDP_STAT_UVLO = s.get F.GDP_STAT_UVLO := by
  obtain ⟨haddr, -, -, hin⟩ := hf.place
  have hne := (GD_STAT_ne_STAT hn).symm
  exact (gdRefresh_get (.inl hne) (.inr (by simp))).trans (gdLatch_get hin (.inl (haddr ▸ hne)) (.inr (by simp)))

theorem uvloAll_summary (s : State) : s.uvloAll.get F.GDP_STAT_UVLO = s.get F.GDP_STAT_UVLO :=
  forAll_rec (p := fun _ u => u.get F.GDP_STAT_UVLO = s.get F.GDP_STAT_UVLO) rfl fun i u hi hu => by
    unfold whenB
    split
    · exact (gdFault_summary hi (.inl rfl)).trans hu
    · exact hu

theorem cpOk_summary (s : State) {k : Nat} (hk : k < 4) (ok : Bool) : (s.cpOk k ok).get F.GDP_STAT_UVLO = s.get F.GDP_STAT_UVLO := by
  have hbit : (s.putBit R.GDP_CP (4 + k) ok).get F.GDP_STAT_UVLO = s.get F.GDP_STAT_UVLO := (putBit_writes s _ _ _).get (by decide)
  unfold cpOk
  dsimp only
  split
  · exact (gdFault_summary (by omega) (.inr (.inl rfl))).trans hbit
  · exact (gdRefresh_get (.inl (GD_STAT_ne_STAT (by omega)).symm) (.inr (by simp))).trans hbit

theorem pumpFollow_summary (s : State) : s.pumpFollow.get F.GDP_STAT_UVLO = s.get F.GDP_STAT_UVLO := by
  unfold pumpFollow
  split
  · rfl
  · exact forAll_rec (p := fun _ u => u.get F.GDP_STAT_UVLO = s.get F.GDP_STAT_UVLO) rfl fun k u hk hu => by
      split
      · exact (cpOk_summary u hk false).trans hu
      · exact hu

/-- A driver commanded on by its register takes UVLO when VDRV is low, and stays off while the others take theirs. -/
theorem uvloAll_down (hn : n < 8) (hv : s.on F.SYS_SUPPLY_VDRV_OK = false) (hsrc : s.get (F.GDP_GDn_CFG_SRC n) = 0)
    (hon : s.on (F.GDP_GDn_CTRL_ON n) = true) : Down n (F.GDP_GDn_STAT_UVLO n) s.uvloAll := by
  refine forAll_turn (fun u => s.Writes driverRegs u) (Down n (F.GDP_GDn_STAT_UVLO n)) (.refl s) (fun j u hj _ hu => hu.trans (uvloTurn_writes u hj))
    (fun u hu => ?_) (fun j u hj hjn hu => ?_) hn
  · have hcfg : ¬ driverRegs (R.GDP_GDn_CFG n) := by
      rintro (h | h | ⟨i, hi, h⟩) <;> simp only [R.GDP_GDn_CFG, R.GDP_STAT, R.GDP_CP, R.GDP_GDn_STAT] at h <;> omega
    have hctrl : ¬ driverRegs (R.GDP_GDn_CTRL n) := by
      rintro (h | h | ⟨i, hi, h⟩) <;> simp only [R.GDP_GDn_CTRL, R.GDP_STAT, R.GDP_CP, R.GDP_GDn_STAT] at h <;> omega
    have hsup : ¬ driverRegs R.SYS_SUPPLY := by
      rintro (h | h | ⟨i, hi, h⟩) <;> simp only [R.SYS_SUPPLY, R.GDP_STAT, R.GDP_CP, R.GDP_GDn_STAT] at h <;> omega
    have huv : u.gdUvlo n = true := by
      rw [gdUvlo, gdCommand_soft ((hu.get (f := F.GDP_GDn_CFG_SRC n) hcfg).trans hsrc), hu.on (f := F.GDP_GDn_CTRL_ON n) hctrl,
        hu.on (f := F.SYS_SUPPLY_VDRV_OK) hsup, hv, hon]
      rfl
    rw [huv]
    exact gdFault_down hn (.inl rfl)
  · unfold whenB
    split
    · exact hu.of_writes (.inl rfl) (gdFault_writes (n := j) (f := F.GDP_GDn_STAT_UVLO j) rfl)
        (not_or.mpr ⟨(GD_STAT_ne hjn).symm, GD_STAT_ne_STAT hn⟩)
    · exact hu

/-- A change of a gate supply leaves a driver off that a fault holds. -/
theorem cpOk_down {f : Fld} {k : Nat} (hn : n < 8) (hk : k < 4) (hf : driverFlag n f) (h : Down n f s) : Down n f (s.cpOk k false) := by
  have hbit : Down n f (s.putBit R.GDP_CP (4 + k) false) := h.of_writes hf (putBit_writes s _ _ _) (by simp only [R.GDP_GDn_STAT, R.GDP_CP]; omega)
  by_cases hnk : n = 4 + k
  · subst hnk
    rw [cpOk_refreshes (.inr h.out)]
    exact gdRefresh_down hf hbit.flag
  · refine h.of_writes hf (cpOk_writes s k false) ?_
    simp only [supplyRegs, gdRegs, R.GDP_GDn_STAT, R.GDP_CP, R.GDP_STAT]
    omega

theorem pumpFollow_down {f : Fld} (hn : n < 8) (hf : driverFlag n f) (h : Down n f s) : Down n f s.pumpFollow := by
  unfold pumpFollow
  split
  · exact h
  · exact forAll_rec (p := fun _ u => Down n f u) h fun k u hk hu => by
      split
      · exact cpOk_down hn hk hf hu
      · exact hu

/-- The bits of GDP_CP.OK. -/
theorem testBit_cpOk (s : State) {k : Nat} (hk : k < 4) : (s.get F.GDP_CP_OK).testBit k = s.bit R.GDP_CP (4 + k) := by
  rw [get, testBit_getBits, bit_eq_on, on_eq_getLsbD]
  simp [hk]

/-- Without the pump no gate supply stands. -/
theorem pumpFollow_none (h : s.pumpRuns = false) : s.pumpFollow.get F.GDP_CP_OK = 0 := by
  have hbits : ∀ k < 4, s.pumpFollow.bit R.GDP_CP (4 + k) = false := fun k hk => by
    rw [pumpFollow, h, if_neg Bool.false_ne_true]
    refine forAll_turn (fun _ => True) (fun u => u.bit R.GDP_CP (4 + k) = false) trivial (fun _ _ _ _ _ => trivial) (fun u _ => ?_)
      (fun j u hj hjk hu => ?_) hk
    · split
      next => exact bit_cpOk_same u hk false
      next hb => rw [← testBit_cpOk u hk]; exact Bool.eq_false_of_not_eq_true hb
    · split
      · rw [bit_cpOk_other u hj (by omega)]
        exact hu
      · exact hu
  refine Nat.eq_of_testBit_eq fun k => ?_
  rw [Nat.zero_testBit]
  by_cases hk : k < 4
  · rw [testBit_cpOk _ hk, hbits k hk]
  · exact Nat.testBit_lt_two_pow (lt_of_lt_of_le (getBits_lt _ 4 4) (Nat.pow_le_pow_right (by omega) (by omega)))

theorem vdrvUndervoltage_gives (h : s.sys.phase ≠ .keep) : Completes (.vdrvUndervoltage true) s fun t =>
      t.on F.SYS_SUPPLY_VDRV_OK = false ∧ t.on F.GDP_STAT_UVLO = true ∧ t.get F.GDP_CP_OK = 0 ∧ t.loom = s.loom ∧ s.clockKept t ∧
      (∀ n : Fin 8, s.get (F.GDP_GDn_CFG_SRC n) = 0 → s.on (F.GDP_GDn_CTRL_ON n) = true →
        t.on (F.GDP_GDn_STAT_UVLO n) = true ∧ t.on (F.GDP_GDn_STAT_OUT n) = false) := by
  have hsup : ¬ driverRegs R.SYS_SUPPLY := by
    rintro (h | h | ⟨i, hi, h⟩) <;> simp only [R.SYS_SUPPLY, R.GDP_STAT, R.GDP_CP, R.GDP_GDn_STAT] at h <;> omega
  have hlow : s.vdrvLow.on F.SYS_SUPPLY_VDRV_OK = false := by
    rw [on_congr (vdrvLow_regs s), on_putB_other _ _ _ _ (by simp) (.inl (by decide)), on_putB_same _ _ _ (by simp) (by simp)]
  have hflag : s.vdrvLow.on F.GDP_STAT_UVLO = true := by
    rw [on_congr (vdrvLow_regs s), on_putB_same _ _ _ (by simp) (by simp)]
  have hlow' : s.vdrvLow.uvloAll.on F.SYS_SUPPLY_VDRV_OK = false := ((uvloAll_writes _).on hsup).trans hlow
  have hm := ((vdrvLow_moves s).mono (by decide)).trans ((uvloAll_moves s.vdrvLow).trans (pumpFollow_moves s.vdrvLow.uvloAll))
  refine ⟨_, congrArg Host.Outcome.next (vdrv_low_eq h), ((pumpFollow_writes _).on hsup).trans hlow', ?_, pumpFollow_none ?_, hm.loom, hm.clockKept,
    fun n hsrc hon => ?_⟩
  · rw [on, pumpFollow_summary, uvloAll_summary]
    exact hflag
  · simp [pumpRuns, hlow']
  · have hdown := pumpFollow_down n.isLt (.inl rfl) (uvloAll_down (s := s.vdrvLow) n.isLt hlow
      (((vdrvLow_writes s).get (by simp only [R.GDP_GDn_CFG, R.SYS_SUPPLY, R.GDP_STAT]; omega)).trans hsrc)
      (((vdrvLow_writes s).on (by simp only [R.GDP_GDn_CTRL, R.SYS_SUPPLY, R.GDP_STAT]; omega)).trans hon))
    exact ⟨hdown.flag, hdown.out⟩

end State

/-- Settles O23: each clause is the lemma about its command above. -/
theorem integratedDrivers : Obligations.IntegratedDrivers := by
  unfold Obligations.IntegratedDrivers
  exact ⟨fun _ _ n _ ha hsrc hen hheld hsup => State.gdCtrlWrite_gives n ha hsrc hen hheld hsup,
    fun _ k hp ho => State.cpOkChange_loses k hp ho,
    fun _ k hp hpump hen => State.cpOkChange_returns k hp hpump hen,
    fun _ k h => State.cpOkChange_idle k h,
    fun _ n hv hc hl hm => State.gdFault_uvlo n hv hc hm hl,
    fun _ n gate hs hp hen hg ht => State.gdMismatch_latches n gate hs hp hen hg ht,
    fun _ n gate hs hp hg haway ht => State.gdMismatch_leaves n gate hs hp hg haway ht,
    ⟨rfl, rfl⟩,
    fun _ n gate hs hp hg => State.gdMismatch_follows n gate hs hp hg,
    fun _ _ n _ ha => State.gdFaultClear_gives n ha,
    fun _ h => State.vdrvUndervoltage_gives h⟩

end Sys2Proof.Machine

/-! Leg blocks in the gate drive: of its registers they write the drivers' states alone, and of its records the drivers' (R185, R194). -/

namespace Sys2Proof.Machine

set_option Elab.async false
namespace State

variable {s t u : State} {l n : Nat}

/-! ### Numbers as sets of bits -/

/-- Taking common bits off a number clears them. -/
theorem testBit_sub_and (x y i : Nat) : (x - (x &&& y)).testBit i = (x.testBit i && !y.testBit i) := by
  have hhalf (a b : Nat) : (a - (a &&& b)) % 2 = a % 2 - a % 2 * (b % 2) ∧ (a - (a &&& b)) / 2 = a / 2 - (a / 2 &&& b / 2) := by
    have hdiv : (a &&& b) / 2 = a / 2 &&& b / 2 := Nat.and_div_two
    have hmod : (a &&& b) % 2 = a % 2 * (b % 2) := by
      have hbit := Nat.testBit_and a b 0
      simp only [Nat.testBit_zero] at hbit
      rcases Nat.mod_two_eq_zero_or_one a with ha | ha <;> rcases Nat.mod_two_eq_zero_or_one b with hb | hb <;>
        rcases Nat.mod_two_eq_zero_or_one (a &&& b) with hc | hc <;> simp [ha, hb, hc] at hbit ⊢
    have hle : a / 2 &&& b / 2 ≤ a / 2 := Nat.and_le_left
    have hprod : a % 2 * (b % 2) ≤ a % 2 := (Nat.mul_le_mul_left _ (by omega : b % 2 ≤ 1)).trans_eq (Nat.mul_one _)
    generalize a % 2 * (b % 2) = p at *
    generalize a / 2 &&& b / 2 = q at *
    omega
  induction i generalizing x y with
  | zero =>
    rw [Nat.testBit_zero, Nat.testBit_zero, Nat.testBit_zero, (hhalf x y).1]
    rcases Nat.mod_two_eq_zero_or_one x with hx | hx <;> rcases Nat.mod_two_eq_zero_or_one y with hy | hy <;> simp [hx, hy]
  | succ i ih => rw [Nat.testBit_succ, (hhalf x y).2, ih, ← Nat.testBit_succ, ← Nat.testBit_succ]

/-! ### The drivers' records -/

/-- Of the gate drive's records only the drivers' may have changed. -/
def DriversOnly (s t : State) : Prop := ∃ ds, t.gdp = { s.gdp with gds := ds }

namespace DriversOnly

theorem same (h : t.gdp = s.gdp) : s.DriversOnly t := ⟨s.gdp.gds, h⟩

theorem trans (h : s.DriversOnly t) (h' : t.DriversOnly u) : s.DriversOnly u := by
  obtain ⟨ds, hd⟩ := h
  obtain ⟨es, he⟩ := h'
  exact ⟨es, by rw [he, hd]⟩

theorem ite {p : Prop} [Decidable p] (ht : s.DriversOnly t) (hu : s.DriversOnly u) : s.DriversOnly (if p then t else u) := by
  split <;> assumption

theorem group (h : s.DriversOnly t) (g : Nat) : t.group g = s.group g := by
  obtain ⟨ds, hd⟩ := h
  rw [State.group, hd, State.group]

theorem brk (h : s.DriversOnly t) (k : Nat) : t.brk k = s.brk k := by
  obtain ⟨ds, hd⟩ := h
  rw [State.brk, hd, State.brk]

theorem brks (h : s.DriversOnly t) : t.gdp.brks = s.gdp.brks := by
  obtain ⟨ds, hd⟩ := h
  rw [hd]

theorem groups (h : s.DriversOnly t) : t.gdp.groups = s.gdp.groups := by
  obtain ⟨ds, hd⟩ := h
  rw [hd]

theorem forAll (h : s.DriversOnly t) {m : Nat} {f : Nat → State → State} (hf : ∀ i u, s.DriversOnly u → s.DriversOnly (f i u)) :
    s.DriversOnly (t.forAll m f) :=
  forAll_rec (p := fun _ u => s.DriversOnly u) h fun i u _ hu => hf i u hu

end DriversOnly

theorem gdDrive_drivers (s : State) (n : Nat) (on : Bool) : s.DriversOnly (s.gdDrive n on) := by
  unfold gdDrive
  dsimp only
  exact .ite (.same rfl) (DriversOnly.trans (t := s.modGd n _) ⟨_, rfl⟩ (.same ((putB_gdp ..).trans (putB_gdp ..))))

theorem gdRefresh_drivers (s : State) (n : Nat) : s.DriversOnly (s.gdRefresh n) := by
  have hcmd : s.DriversOnly (s.putB (F.GDP_GDn_STAT_CMD n) (s.gdCommand n)) := .same (putB_gdp ..)
  rw [gdRefresh_eq]
  exact ((DriversOnly.ite (hcmd.trans (.same (gdLatch_moves _ n _).gdp)) hcmd).trans (gdDrive_drivers _ n _)).trans (.same (putB_gdp ..))

theorem gdRefreshAll_drivers (s : State) : s.DriversOnly s.gdRefreshAll := .forAll (.same rfl) fun i u hu => hu.trans (gdRefresh_drivers u i)

theorem gdFault_drivers (s : State) (n : Nat) (f : Fld) : s.DriversOnly (s.gdFault n f) :=
  DriversOnly.trans (.same (gdLatch_moves s n f).gdp) (gdRefresh_drivers _ n)

theorem gdFollow_drivers (s : State) (l : Nat) : s.DriversOnly (s.gdFollow l) :=
  .forAll (.same rfl) fun i u hu => .ite (hu.trans (gdRefresh_drivers u i)) hu

theorem setOuts_drivers (s : State) (l : Nat) (h lo edge : Bool) : s.DriversOnly (s.setOuts l h lo edge) := by
  have hplaced : s.DriversOnly (s.outsPlaced l h lo edge) := .same (outsPlaced_moves s l h lo edge).gdp
  rw [setOuts_eq]
  exact .ite (hplaced.trans (gdFollow_drivers _ l)) hplaced

theorem restLeg_drivers (s : State) (l : Nat) (edge : Bool) : s.DriversOnly (s.restLeg l edge) :=
  (setOuts_drivers s l false false edge).trans (.same rfl)

theorem blockLeg_drivers (s : State) (cause : Cause) (l : Nat) : s.DriversOnly (s.blockLeg cause l) := by
  have h : s.DriversOnly (s.blockedLeg cause l) :=
    (DriversOnly.trans (.same (causeShown_moves s cause l).gdp) (restLeg_drivers _ l false)).trans (.same (clearCarries_moves _ l).gdp)
  exact blockLeg_cases (p := fun u => s.DriversOnly u) h fun k => h.trans (.same (raise_gdp ..))

theorem blockLegs_drivers (s : State) (cause : Cause) (mask : Nat) : s.DriversOnly (s.blockLegs cause mask) :=
  .forAll (.same rfl) fun i u hu => .ite (hu.trans (blockLeg_drivers u cause i)) hu

/-! ### The drivers' registers -/

/-- The registers that show the drivers' states. -/
def driverStats (b : Nat) : Prop := b = R.GDP_STAT ∨ ∃ i < 8, b = R.GDP_GDn_STAT i

theorem driverStats_of_gdRegs {i b : Nat} (hi : i < 8) (h : gdRegs i b) : driverStats b := h.elim (fun h => .inr ⟨i, hi, h⟩) .inl

theorem gdRefreshAll_stats (s : State) : s.Writes driverStats s.gdRefreshAll :=
  Writes.forAll (.refl s) fun i u hi hu => hu.trans ((gdRefresh_writes u i).mono fun _ h => driverStats_of_gdRegs hi h)

theorem gdFollow_stats (s : State) (l : Nat) : s.Writes driverStats (s.gdFollow l) :=
  Writes.forAll (.refl s) fun i u hi hu => .ite (hu.trans ((gdRefresh_writes u i).mono fun _ h => driverStats_of_gdRegs hi h)) hu

theorem setOuts_stats (s : State) (l : Nat) (h lo edge : Bool) : s.Writes driverStats (s.setOuts l h lo edge) := by
  have hplaced : s.Writes driverStats (s.outsPlaced l h lo edge) := .of_regs (outsPlaced_moves s l h lo edge).regs
  rw [setOuts_eq]
  exact .ite (hplaced.trans (gdFollow_stats _ l)) hplaced

theorem restLeg_stats (s : State) (l : Nat) (edge : Bool) : s.Writes driverStats (s.restLeg l edge) :=
  (setOuts_stats s l false false edge).regs (by rfl)

/-- The registers of a block of leg `l`: its status, the summary, and the drivers' states. -/
def legBlockRegs (l b : Nat) : Prop := b = R.LOOM_LEGl_STAT l ∨ b = R.LOOM_STAT ∨ driverStats b

theorem causeShown_stats (s : State) (cause : Cause) (l : Nat) : s.Writes (legBlockRegs l) (s.causeShown cause l) := by
  have h : s.Writes (legBlockRegs l) ((((s.putBit (R.LOOM_LEGl_STAT l) cause.bit true).set1 (F.LOOM_LEGl_STAT_BLOCKED l)).clr
      (F.LOOM_LEGl_STAT_PENDING l)).putBit R.LOOM_STAT l true) :=
    .putBit (.clr (.set1 (.putBit (.refl s) (.inl rfl)) (.inl rfl)) (.inl rfl)) (.inr (.inl rfl))
  unfold causeShown
  dsimp only
  exact .ite (h.set1 (.inr (.inl rfl))) h

theorem blockLeg_stats (s : State) (cause : Cause) (l : Nat) : s.Writes (legBlockRegs l) (s.blockLeg cause l) := by
  have h : s.Writes (legBlockRegs l) (s.blockedLeg cause l) :=
    ((causeShown_stats s cause l).trans ((restLeg_stats _ l false).mono fun _ h => .inr (.inr h))).trans
      ((clearCarries_writes _ l).mono fun _ h => .inl h)
  exact blockLeg_cases (p := fun u => s.Writes (legBlockRegs l) u) h fun _ => h.raise

theorem blockLegs_stats (s : State) (cause : Cause) (mask : Nat) : s.Writes (fun b => ∃ l < 24, legBlockRegs l b) (s.blockLegs cause mask) :=
  Writes.forAll (.refl s) fun l u hl hu => .ite (hu.trans ((blockLeg_stats u cause l).mono fun _ hb => ⟨l, hl, hb⟩)) hu

/-- A register of the gate drive that shows no driver's state stays at a leg's block. -/
theorem not_legBlockRegs {b : Nat} (hl : l < 24) (h7 : inBlock 7 b) (hb : ¬ driverStats b) : ¬ legBlockRegs l b := by
  simp only [inBlock, blockBase] at h7
  rintro (rfl | rfl | h)
  · simp only [R.LOOM_LEGl_STAT] at h7
    omega
  · simp only [R.LOOM_STAT] at h7
    omega
  · exact hb h

/-- The registers below the drivers', and from the last one's up, show no driver's state. -/
theorem not_driverStats {b : Nat} (h0 : b ≠ R.GDP_STAT) (h : b < R.GDP_GDn_STAT 0 ∨ R.GDP_GDn_STAT 7 < b) : ¬ driverStats b := by
  rintro (rfl | ⟨i, hi, rfl⟩)
  · exact h0 rfl
  · simp only [R.GDP_GDn_STAT] at h
    omega

end State
end Sys2Proof.Machine

/-! Leg faults, groups, and V_trip (R200 to R206). -/

namespace Sys2Proof.Machine

set_option Elab.async false
namespace State

variable {s t u : State} {l n : Nat} {w : World} {v : Word}

/-! ### The summary and a group's trip (R202 to R204) -/

theorem gdpSummary_writes (s : State) : s.Writes (· = R.GDP_STAT) s.gdpSummary := by
  unfold gdpSummary
  dsimp only
  exact .putBAt (f := F.GDP_STAT_VTRIP1) (.putBAt (f := F.GDP_STAT_VTRIP0) (.putAt (f := F.GDP_STAT_GRP) (.putBAt (f := F.GDP_STAT_FLT_ANY) (.refl s))))

theorem gdpSummary_moves (s : State) : Moves [.regs, .cycle] s s.gdpSummary := by
  unfold gdpSummary
  dsimp only
  exact putB_moves (putB_moves (.put (putB_moves (.refl s) _ _)) _ _) _ _

/-- The summary leaves CLR_REF. -/
theorem gdpSummary_clrRef (s : State) : s.gdpSummary.on F.GDP_STAT_CLR_REF = s.on F.GDP_STAT_CLR_REF := by
  unfold gdpSummary
  dsimp only
  rw [on_putB_other _ _ _ _ (by simp) (.inr (by simp)), on_putB_other _ _ _ _ (by simp) (.inr (by simp)),
    on_put_other _ _ _ _ (by simp) (.inr (by simp)), on_putB_other _ _ _ _ (by simp) (.inr (by simp))]

/-- The registers of a group's trip. -/
def tripRegs (b : Nat) : Prop := b = R.GDP_GRP_STAT ∨ driverStats b

theorem groupTrip_writes (s : State) (g : Nat) : s.Writes tripRegs (s.groupTrip g) := by
  unfold groupTrip
  extract_lets -underBinder t x
  have ht : s.Writes tripRegs t := .raise (.putBit (.refl s) (.inl rfl))
  have hx : s.Writes tripRegs x := .ite (ht.regs (by rfl)) ht
  exact (hx.trans ((gdpSummary_writes x).mono fun _ h => .inr (.inl h))).trans ((gdRefreshAll_stats _).mono fun _ h => .inr h)

theorem groupTrip_moves (s : State) (g : Nat) : Moves [.regs, .cycle, .gdp, .rtc, .mram, .events, .stew, .draws] s (s.groupTrip g) := by
  unfold groupTrip
  extract_lets -underBinder t x
  have ht : Moves [.regs, .cycle, .gdp, .rtc, .mram, .events, .stew, .draws] s t := .raise (putB_moves (.refl s) _ _)
  have hx : Moves [.regs, .cycle, .gdp, .rtc, .mram, .events, .stew, .draws] s x := .ite (.record ht (by rfl)) ht
  exact (hx.trans ((gdpSummary_moves x).mono (by decide))).trans (gdRefreshAll_moves _)

/-! ### A leg's fault (R200) -/

/-- The fault of leg `l` is noted: its latch, the leg's block, and its place in every group's sequence. -/
def faultNoted (s : State) (l : Nat) : State :=
  (((s.putBit R.GDP_FLT_LATCH l true).blockLeg .flt l).raise 0xD8).forAll 8 (fun g u => u.leaveQueue g l)

theorem fltLatch_eq (s : State) (l : Nat) : s.fltLatch l =
    if 8 ≤ (s.faultNoted l).grpNibble l then (s.faultNoted l).groupTrip ((s.faultNoted l).grpNibble l - 8) else (s.faultNoted l).gdpSummary := rfl

theorem leaveQueues_moves (s : State) (l : Nat) : Moves [.gdp] s (s.forAll 8 (fun g u => u.leaveQueue g l)) :=
  Moves.forAll (.refl s) fun _ _ hu => .record hu (by rfl)

theorem faultNoted_writes (s : State) (l : Nat) : s.Writes (fun b => b = R.GDP_FLT_LATCH ∨ legBlockRegs l b) (s.faultNoted l) :=
  Writes.regs (Writes.raise (Writes.trans (Writes.putBit (.refl s) (.inl rfl)) ((blockLeg_stats _ .flt l).mono fun _ h => .inr h)))
    (leaveQueues_moves _ l).regs

theorem faultNoted_moves (s : State) (l : Nat) : Moves [.regs, .cycle, .loom, .gdp, .events, .stew] s (s.faultNoted l) := by
  have hbit : Moves [.regs, .cycle, .loom, .gdp, .events, .stew] s (s.putBit R.GDP_FLT_LATCH l true) := putB_moves (.refl s) _ _
  exact (Moves.raise (hbit.trans (blockLeg_moves _ .flt l))).trans ((leaveQueues_moves _ l).mono (by decide))

theorem FLT_LATCH_free (hl : l < 24) : ¬ legBlockRegs l R.GDP_FLT_LATCH :=
  not_legBlockRegs hl (by simp only [inBlock, blockBase, R.GDP_FLT_LATCH]; omega)
    (not_driverStats (by decide) (.inl (by decide)))

theorem faultNoted_latch (s : State) (hl : l < 24) : (s.faultNoted l).bit R.GDP_FLT_LATCH l = true := by
  have hnoted : (s.faultNoted l).rd R.GDP_FLT_LATCH = (s.putBit R.GDP_FLT_LATCH l true).rd R.GDP_FLT_LATCH := by
    rw [faultNoted, rd_congr (leaveQueues_moves _ l).regs, rd_raise, (blockLeg_stats _ .flt l).rd (FLT_LATCH_free hl)]
  rw [bit_congr hnoted]
  exact bit_putBit_same s _ true (by omega)

theorem faultNoted_blocked (s : State) (hl : l < 24) : (s.faultNoted l).Blocked .flt l := by
  have hq := leaveQueues_moves (((s.putBit R.GDP_FLT_LATCH l true).blockLeg .flt l).raise 0xD8) l
  exact ((blockLeg_blocked (s.putBit R.GDP_FLT_LATCH l true) .flt hl).same (rd_raise ..) (leg_congr (raise_loom ..) l)).same
    (rd_congr hq.regs _) (leg_congr hq.loom l)

theorem faultNoted_other (s : State) {k : Nat} (hk : k ≠ l) : (s.faultNoted l).leg k = s.leg k := by
  have hloom : (s.faultNoted l).loom = ((s.putBit R.GDP_FLT_LATCH l true).blockLeg .flt l).loom :=
    (leaveQueues_moves _ l).loom.trans (raise_loom ..)
  rw [leg_congr hloom, (blockLeg_work _ .flt l).other hk]
  exact leg_congr (putB_loom ..) k

/-- What follows a noted fault: its group trips, or the summary shows it. -/
theorem fltLatch_after (s : State) (l : Nat) : (s.faultNoted l).Writes tripRegs (s.fltLatch l) ∧
    Moves [.regs, .cycle, .gdp, .rtc, .mram, .events, .stew, .draws] (s.faultNoted l) (s.fltLatch l) := by
  rw [fltLatch_eq]
  split
  · exact ⟨groupTrip_writes _ _, groupTrip_moves _ _⟩
  · exact ⟨(gdpSummary_writes _).mono fun _ h => .inr (.inl h), (gdpSummary_moves _).mono (by decide)⟩

theorem STAT_not_tripRegs (l : Nat) (hl : l < 24) : ¬ tripRegs (R.LOOM_LEGl_STAT l) := by
  rintro (h | h | ⟨i, hi, h⟩) <;> simp only [R.LOOM_LEGl_STAT, R.GDP_GRP_STAT, R.GDP_STAT, R.GDP_GDn_STAT] at h <;> omega

theorem not_tripRegs {b : Nat} (h : ¬ driverStats b) (hne : b ≠ R.GDP_GRP_STAT) : ¬ tripRegs b := fun hb => hb.elim hne h

theorem fltAssert_gives (l : Fin 24) (hp : s.sys.phase ≠ .keep) (hen : s.bit R.GDP_FLT_EN l = true) (hlatch : s.bit R.GDP_FLT_LATCH l = false) :
    Completes (.fltAssert l true) s fun t =>
      t.bit R.GDP_FLT_PIN l = true ∧ t.bit R.GDP_FLT_LATCH l = true ∧ t.on (F.LOOM_LEGl_STAT_BLOCKED l) = true ∧
      t.on (F.LOOM_LEGl_STAT_FLT l) = true ∧ (t.leg l).outH = false ∧ (t.leg l).outL = false ∧ (∀ k, k ≠ l.val → t.leg k = s.leg k) ∧
      s.clockKept t := by
  have hpin := bit_putBit_same s R.GDP_FLT_PIN (i := l) true (by omega)
  have hrest := putBit_writes s R.GDP_FLT_PIN l true
  have heq : (if s.sys.phase = .keep then s else s.fltPin l true) = (s.putBit R.GDP_FLT_PIN l true).fltLatch l := by
    have h1 : (s.putBit R.GDP_FLT_PIN l true).bit R.GDP_FLT_EN l = true := (hrest.on (f := ⟨R.GDP_FLT_EN, l, 1⟩) (show R.GDP_FLT_EN ≠ R.GDP_FLT_PIN by decide)).trans hen
    have h2 : (s.putBit R.GDP_FLT_PIN l true).bit R.GDP_FLT_LATCH l = false := (hrest.on (f := ⟨R.GDP_FLT_LATCH, l, 1⟩) (show R.GDP_FLT_LATCH ≠ R.GDP_FLT_PIN by decide)).trans hlatch
    rw [if_neg hp, fltPin]
    simp only [h1, h2]
    rfl
  have hpins : Moves [.regs, .cycle] s (s.putBit R.GDP_FLT_PIN l true) := putB_moves (.refl s) _ _
  obtain ⟨hw, hm⟩ := fltLatch_after (s.putBit R.GDP_FLT_PIN l true) l
  obtain ⟨hb, hc, hH, hL⟩ := (faultNoted_blocked (s.putBit R.GDP_FLT_PIN l true) l.isLt).same (hw.rd (STAT_not_tripRegs l l.isLt)) (leg_congr hm.loom l)
  have hlow (b : Nat) (h0 : b ≠ R.GDP_STAT) (h1 : b < R.GDP_GDn_STAT 0) : ¬ driverStats b := not_driverStats h0 (.inl h1)
  refine ⟨_, congrArg Host.Outcome.next heq, ?_, ?_, hb, hc, hH, hL, fun k hk => ?_, ?_⟩
  · rw [bit_congr (hw.rd (not_tripRegs (hlow R.GDP_FLT_PIN (by decide) (by decide)) (by decide))), bit_congr ((faultNoted_writes _ l).rd ?_)]
    · exact hpin
    · rintro (h | h)
      · exact absurd h (by decide)
      · exact not_legBlockRegs l.isLt (by simp only [inBlock, blockBase, R.GDP_FLT_PIN]; omega) (hlow _ (by decide) (by decide)) h
  · rw [bit_congr (hw.rd (not_tripRegs (hlow R.GDP_FLT_LATCH (by decide) (by decide)) (by decide)))]
    exact faultNoted_latch _ l.isLt
  · rw [leg_congr hm.loom, faultNoted_other _ hk]
    exact leg_congr hpins.loom k
  · exact ((hpins.mono (by decide)).trans (((faultNoted_moves _ l).mono (by decide)).trans (hm.mono (by decide))) :
      Moves [.regs, .cycle, .loom, .gdp, .rtc, .mram, .events, .stew, .draws] s _).clockKept

theorem fltAssert_ends (l : Fin 24) (hp : s.sys.phase ≠ .keep) : Completes (.fltAssert l false) s fun t =>
      t.bit R.GDP_FLT_PIN l = false ∧ (∀ b, b ≠ R.GDP_FLT_PIN → t.rd b = s.rd b) ∧ t.loom = s.loom ∧ t.gdp = s.gdp := by
  have heq : (if s.sys.phase = .keep then s else s.fltPin l false) = s.putBit R.GDP_FLT_PIN l false := by
    rw [if_neg hp, fltPin, Bool.false_and, Bool.false_and]
    rfl
  exact ⟨_, congrArg Host.Outcome.next heq, bit_putBit_same s _ false (by omega), fun b hb => (putBit_writes s _ _ _).rd hb, putB_loom .., putB_gdp ..⟩

/-! ### Stagger (R203) -/

/-- What blocks leg `l` for a cause stays while other legs, or the leg itself, are blocked. -/
theorem blockEach_in {cause : Cause} {q : List (Nat × Nat)} {i : Nat} (hl : l < 24) (hq : (l, i) ∈ q) :
    (q.foldl (fun u x => u.blockLeg cause x.1) s).Blocked cause l := by
  have hkeep (q : List (Nat × Nat)) (u : State) (hu : u.Blocked cause l) : (q.foldl (fun u x => u.blockLeg cause x.1) u).Blocked cause l := by
    induction q generalizing u with
    | nil => exact hu
    | cons x xs ih =>
      refine ih _ ?_
      by_cases hx : x.1 = l
      · exact hx ▸ blockLeg_blocked u cause (hx ▸ hl)
      · obtain ⟨hrd, hleg⟩ := blockLeg_other u cause hl hx
        exact hu.same hrd hleg
  induction q generalizing s with
  | nil => exact absurd hq List.not_mem_nil
  | cons x xs ih =>
    rcases List.mem_cons.mp hq with h | h
    · exact hkeep xs _ (h ▸ blockLeg_blocked s cause hl)
    · exact ih h

theorem blockEach_drivers (s : State) (cause : Cause) (q : List (Nat × Nat)) : s.DriversOnly (q.foldl (fun u x => u.blockLeg cause x.1) s) := by
  induction q generalizing s with
  | nil => exact .same rfl
  | cons x xs ih => exact (blockLeg_drivers s cause x.1).trans (ih _)

theorem blockEach_moves (s : State) (cause : Cause) (q : List (Nat × Nat)) :
    Moves [.regs, .cycle, .loom, .gdp, .events, .stew] s (q.foldl (fun u x => u.blockLeg cause x.1) s) := by
  induction q generalizing s with
  | nil => exact .refl s
  | cons x xs ih => exact (blockLeg_moves s cause x.1).trans (ih _)

/-- The legs of group `g` whose instants have come leave its queue. -/
def queueServed (s : State) (g : Nat) : State :=
  s.modGroup g (fun x => { x with
    queue := (s.group g).queue.filter (fun y => !s.due y.2),
    legs := x.legs ||| legMask (((s.group g).queue.filter (fun x => s.due x.2)).map (·.1)) })

theorem staggerBlock_eq (s : State) (g : Nat) : s.staggerBlock g =
    ((s.group g).queue.filter (fun x => s.due x.2)).foldl (fun u x => u.blockLeg .grp x.1) (s.queueServed g) := rfl

theorem groupStagger_gives (g : Fin 8) (l : Fin 24) (i : Nat) (hs : s.Shaped) (hq : (l.val, i) ∈ (s.group g).queue) (hi : s.due i = true) :
    Completes (.groupStaggerBlock g) s fun t =>
      (∀ j, (l.val, j) ∈ (t.group g).queue → s.due j = false) ∧ t.on (F.LOOM_LEGl_STAT_BLOCKED l) = true ∧
      t.on (F.LOOM_LEGl_STAT_GRP l) = true ∧ (t.leg l).outH = false ∧ (t.leg l).outL = false ∧ t.clk = s.clk := by
  obtain ⟨hb, hc, hH, hL⟩ := blockEach_in (s := s.queueServed g) (cause := .grp) (q := (s.group g).queue.filter (fun x => s.due x.2))
    l.isLt (List.mem_filter.mpr ⟨hq, hi⟩)
  refine ⟨_, congrArg Host.Outcome.next (staggerBlock_eq s g), fun j hj => ?_, hb, hc, hH, hL, (blockEach_moves _ _ _).clk⟩
  rw [(blockEach_drivers _ _ _).group] at hj
  have hgrp : ((s.queueServed g).group g).queue = (s.group g).queue.filter (fun y => !s.due y.2) :=
    congrArg GroupSt.queue (nth_upd_same _ _ _ _ (g.isLt.trans_eq hs.groups.symm))
  rw [hgrp] at hj
  simpa using (List.mem_filter.mp hj).2

end State
end Sys2Proof.Machine

/-! What clears the latches of leg faults, the trips of groups, and V_trip (R201, R205, R206). -/

namespace Sys2Proof.Machine

set_option Elab.async false
namespace State

variable {s t u : State} {l n : Nat} {w : World} {v : Word}

/-! ### Leg fault latches (R201) -/

/-- A bit of a register is that bit of its field from bit 0 up. -/
theorem testBit_get (s : State) (a : Nat) {width i : Nat} (hi : i < width) : (s.get ⟨a, 0, width⟩).testBit i = s.bit a i := by
  rw [get, testBit_getBits, bit_eq_on, on_eq_getLsbD, Nat.zero_add]
  simp [hi]

/-- The latches after a write that asks for the bits of `mask`. -/
def fltLeft (s : State) (mask : Nat) : Nat :=
  s.get F.GDP_FLT_LATCH_LEG - ((s.get F.GDP_FLT_LATCH_LEG &&& mask) - ((s.get F.GDP_FLT_LATCH_LEG &&& mask) &&& s.get F.GDP_FLT_PIN_LEG))

theorem fltLeft_testBit (s : State) (mask : Nat) (hl : l < 24) :
    (s.fltLeft mask).testBit l = (s.bit R.GDP_FLT_LATCH l && !(mask.testBit l && !s.bit R.GDP_FLT_PIN l)) := by
  have hin (x y z : Nat) : (x &&& y) - ((x &&& y) &&& z) = x &&& ((x &&& y) - ((x &&& y) &&& z)) := by
    refine Nat.eq_of_testBit_eq fun i => ?_
    simp only [testBit_sub_and, Nat.testBit_and]
    cases x.testBit i <;> simp
  rw [fltLeft, hin, testBit_sub_and, testBit_sub_and, Nat.testBit_and, testBit_get s R.GDP_FLT_LATCH hl, testBit_get s R.GDP_FLT_PIN hl]
  cases s.bit R.GDP_FLT_LATCH l <;> simp

theorem fltLeft_lt (s : State) (mask : Nat) : s.fltLeft mask < 2 ^ 24 := lt_of_le_of_lt (Nat.sub_le ..) (getBits_lt _ 0 24)

/-- The latches are left as given, and CLR_REF set where a bit asked for stays. -/
def fltCleared (s : State) (mask : Nat) : State :=
  if (s.get F.GDP_FLT_LATCH_LEG &&& mask) &&& s.get F.GDP_FLT_PIN_LEG = 0 then s.put F.GDP_FLT_LATCH_LEG (s.fltLeft mask)
  else (s.put F.GDP_FLT_LATCH_LEG (s.fltLeft mask)).set1 F.GDP_STAT_CLR_REF

theorem fltClear_eq (s : State) (mask : Nat) : s.fltClear mask = (s.fltCleared mask).gdpSummary := rfl

theorem fltCleared_writes (s : State) (mask : Nat) : s.Writes (fun b => b = R.GDP_FLT_LATCH ∨ b = R.GDP_STAT) (s.fltCleared mask) := by
  have h : s.Writes (fun b => b = R.GDP_FLT_LATCH ∨ b = R.GDP_STAT) (s.put F.GDP_FLT_LATCH_LEG (s.fltLeft mask)) := .put (.refl s) (.inl rfl)
  unfold fltCleared
  exact .ite h (h.set1 (.inr rfl))

theorem fltCleared_moves (s : State) (mask : Nat) : Moves [.regs, .cycle] s (s.fltCleared mask) := by
  unfold fltCleared
  exact .ite (.put (.refl s)) (.put (.put (.refl s)))

theorem fltClear_latch (s : State) (mask : Nat) (hl : l < 24) :
    (s.fltClear mask).bit R.GDP_FLT_LATCH l = (s.bit R.GDP_FLT_LATCH l && !(mask.testBit l && !s.bit R.GDP_FLT_PIN l)) := by
  have hput : (s.fltCleared mask).rd R.GDP_FLT_LATCH = (s.put F.GDP_FLT_LATCH_LEG (s.fltLeft mask)).rd R.GDP_FLT_LATCH := by
    unfold fltCleared
    split
    · rfl
    · exact rd_put_other _ F.GDP_STAT_CLR_REF _ _ (by decide)
  rw [fltClear_eq, bit_congr ((gdpSummary_writes _).rd (by decide)), bit_congr hput, ← testBit_get _ R.GDP_FLT_LATCH hl,
    get_put_same s F.GDP_FLT_LATCH_LEG _ (by simp), Nat.mod_eq_of_lt (fltLeft_lt s mask), fltLeft_testBit s mask hl]

theorem fltLatchClear_gives (ha : s.accepts w R.GDP_FLT_LATCH v) : Completes (.fltLatchClear w v) s fun t =>
      (∀ l : Fin 24, bitAt v l = true → s.bit R.GDP_FLT_PIN l = false → t.bit R.GDP_FLT_LATCH l = false) ∧
      (∀ l : Fin 24, bitAt v l = false ∨ s.bit R.GDP_FLT_PIN l = true → t.bit R.GDP_FLT_LATCH l = s.bit R.GDP_FLT_LATCH l) ∧
      ((∃ l : Fin 24, bitAt v l = true ∧ s.bit R.GDP_FLT_PIN l = true ∧ s.bit R.GDP_FLT_LATCH l = true) →
        t.on F.GDP_STAT_CLR_REF = true) ∧
      (∀ b, b ≠ R.GDP_FLT_LATCH → b ≠ R.GDP_STAT → t.rd b = s.rd b) ∧ t.loom = s.loom ∧ t.clk = s.clk := by
  have hm : Moves [.cycle, .tst] (s.hook R.GDP_FLT_LATCH v) (s.write w R.GDP_FLT_LATCH v) := write_moves ha (by decide)
  rw [hook_GDP_FLT_LATCH] at hm
  have hbit (l : Fin 24) : (s.write w R.GDP_FLT_LATCH v).bit R.GDP_FLT_LATCH l =
      (s.bit R.GDP_FLT_LATCH l && !(bitAt v l && !s.bit R.GDP_FLT_PIN l)) := by
    rw [bit_congr (rd_congr hm.regs _), fltClear_latch s _ l.isLt, bitAt_testBit]
  have hmoves := (fltCleared_moves s (v.toNat % 2 ^ 24)).trans (gdpSummary_moves _)
  refine ⟨_, rfl, fun l h1 h2 => ?_, fun l h => ?_, ?_, fun b h1 h2 => ?_, hm.loom.trans hmoves.loom, hm.clk.trans hmoves.clk⟩
  · rw [hbit, h1, h2]
    simp
  · rw [hbit]
    rcases h with h | h <;> simp [h]
  · rintro ⟨l, h1, h2, h3⟩
    have hne : ¬ (s.get F.GDP_FLT_LATCH_LEG &&& (v.toNat % 2 ^ 24)) &&& s.get F.GDP_FLT_PIN_LEG = 0 := fun h0 => by
      have hz := congrArg (fun x => x.testBit l) h0
      simp only [Nat.testBit_and, testBit_get s R.GDP_FLT_LATCH l.isLt, testBit_get s R.GDP_FLT_PIN l.isLt, bitAt_testBit, h1, h2, h3,
        Nat.zero_testBit, Bool.and_self] at hz
      exact Bool.false_ne_true hz.symm
    rw [on_congr hm.regs, fltClear_eq, gdpSummary_clrRef, fltCleared, if_neg hne]
    exact on_set1_same _ _ (by simp) (by simp)
  · rw [rd_congr hm.regs, fltClear_eq, (gdpSummary_writes _).rd h2, (fltCleared_writes s _).rd (not_or.mpr ⟨h1, h2⟩)]

/-! ### A group's trip (R205) -/

/-- How software reaches GDP_GRP_STAT: TRIPPED and CLR_REF are W1C. -/
def grpStatRow : RegRow := { base := 0x40070060, dims := [], reset := 0x0, w1c := 0x1FF }

theorem regRow?_GDP_GRP_STAT : regRow? R.GDP_GRP_STAT = some grpStatRow := by decide

/-- Group `g`'s turn in a write of TRIPPED. -/
def grpTurn (mask g : Nat) (t : State) : State :=
  if mask.testBit g && t.bit R.GDP_GRP_STAT g then
    (if t.grpQuiet g then (t.putBit R.GDP_GRP_STAT g false).modGroup g (fun _ => {})
     else t.set1 F.GDP_GRP_STAT_CLR_REF)
  else t

theorem grpClear_eq (s : State) (mask : Nat) : s.grpClear mask = (s.forAll 8 (grpTurn mask)).gdpSummary.gdRefreshAll := rfl

theorem grpTurn_writes (s : State) (mask g : Nat) : s.Writes (· = R.GDP_GRP_STAT) (grpTurn mask g s) := by
  unfold grpTurn
  exact .ite (.ite (Writes.regs (putBit_writes s _ _ _) (by rfl)) (.set1At (f := F.GDP_GRP_STAT_CLR_REF) (.refl s))) (.refl s)

theorem grpTurn_moves (s : State) (mask g : Nat) : Moves [.regs, .cycle, .gdp] s (grpTurn mask g s) := by
  unfold grpTurn
  exact .ite (.ite (.record (putB_moves (.refl s) _ _) (by rfl)) (.put (.refl s))) (.refl s)

theorem grpQuiet_congr (h : s.Writes (· = R.GDP_GRP_STAT) t) (g : Nat) : t.grpQuiet g = s.grpQuiet g := by
  have hmap (l : Nat) (hl : l < 24) : t.grpNibble l = s.grpNibble l := h.get (f := ⟨R.GDP_GRPMAPj (l / 8), 4 * (l % 8), 4⟩)
    (show R.GDP_GRPMAPj (l / 8) ≠ R.GDP_GRP_STAT by simp only [R.GDP_GRPMAPj, R.GDP_GRP_STAT]; omega)
  have hlatch (l : Nat) : t.bit R.GDP_FLT_LATCH l = s.bit R.GDP_FLT_LATCH l := bit_congr (h.rd (by decide))
  unfold grpQuiet inGroup
  rw [Bool.eq_iff_iff, List.all_eq_true, List.all_eq_true]
  refine forall₂_congr fun l hl => ?_
  rw [hmap l (List.mem_range.mp hl), hlatch]

/-- A group's turn leaves the other groups' bits and records. -/
theorem grpTurn_other (s : State) (mask : Nat) {g j : Nat} (hj : j < 8) (hg : g < 8) (hne : j ≠ g) :
    (grpTurn mask j s).bit R.GDP_GRP_STAT g = s.bit R.GDP_GRP_STAT g ∧ (grpTurn mask j s).group g = s.group g ∧
    (grpTurn mask j s).gdp.groups.length = s.gdp.groups.length := by
  unfold grpTurn
  split
  · split
    · exact ⟨bit_putBit_other s _ _ (by omega) hne.symm, nth_upd_other _ _ _ _ _ hne, length_upd ..⟩
    · exact ⟨on_set1_other s _ _ (by simp) (.inr (.inl (by simp; omega))), rfl, rfl⟩
  · exact ⟨rfl, rfl, rfl⟩

/-- CLR_REF stays while the other groups have their turns. -/
theorem grpTurn_clrRef (s : State) (mask : Nat) {j : Nat} (hj : j < 8) (h : s.on F.GDP_GRP_STAT_CLR_REF = true) :
    (grpTurn mask j s).on F.GDP_GRP_STAT_CLR_REF = true := by
  unfold grpTurn
  split
  · split
    · exact (on_putBit_other s R.GDP_GRP_STAT j F.GDP_GRP_STAT_CLR_REF false (by omega) (.inr (.inr (by simp; omega)))).trans h
    · exact on_set1_same _ _ (by simp) (by simp)
  · exact h

/-- Group `g` before its turn: tripped, quiet or not, with its record as it was. -/
structure GroupStands (s : State) (g : Nat) (t : State) : Prop where
  tripped : t.bit R.GDP_GRP_STAT g = true
  quiet : t.grpQuiet g = s.grpQuiet g
  record : t.group g = s.group g
  place : g < t.gdp.groups.length

/-- Group `g` after its turn. -/
structure GroupCleared (s : State) (g : Nat) (t : State) : Prop where
  tripped : t.bit R.GDP_GRP_STAT g = !s.grpQuiet g
  record : t.group g = if s.grpQuiet g then {} else s.group g
  refused : s.grpQuiet g = false → t.on F.GDP_GRP_STAT_CLR_REF = true

theorem GroupCleared.same {g : Nat} (h : GroupCleared s g t) (hb : u.rd R.GDP_GRP_STAT = t.rd R.GDP_GRP_STAT) (hg : u.group g = t.group g) :
    GroupCleared s g u :=
  ⟨(bit_congr hb).trans h.tripped, hg.trans h.record, fun hq => (on_of_rd (f := F.GDP_GRP_STAT_CLR_REF) hb).trans (h.refused hq)⟩

theorem grpTurn_gives {g mask : Nat} (hg : g < 8) (hmask : mask.testBit g = true) (h : GroupStands s g t) : GroupCleared s g (grpTurn mask g t) := by
  obtain ⟨htrip, hquiet, hrec, hplace⟩ := h
  unfold grpTurn
  rw [hmask, htrip, hquiet]
  cases hq : s.grpQuiet g with
  | true => exact ⟨(bit_putBit_same t _ false (by omega)).trans (by rw [hq]; rfl), (nth_upd_same _ _ _ _ hplace).trans (by rw [hq]; rfl),
      fun h => absurd (hq.symm.trans h) Bool.noConfusion⟩
  | false => exact ⟨((on_set1_other t F.GDP_GRP_STAT_CLR_REF _ (by simp) (.inr (.inl (by simp; omega)))).trans htrip).trans (by rw [hq]; rfl),
      hrec.trans (by rw [hq]; rfl), fun _ => on_set1_same _ _ (by simp) (by simp)⟩

theorem grpTurns_give {g mask : Nat} (hg : g < 8) (hmask : mask.testBit g = true) (h : s.bit R.GDP_GRP_STAT g = true)
    (hplace : g < s.gdp.groups.length) : GroupCleared s g (s.forAll 8 (grpTurn mask)) := by
  refine forAll_turn (GroupStands s g) (GroupCleared s g) ⟨h, rfl, rfl, hplace⟩ (fun j u hj hne hu => ?_) (fun u hu => grpTurn_gives hg hmask hu)
    (fun j u hj hne hu => ?_) hg
  · obtain ⟨h1, h2, h3⟩ := grpTurn_other u mask hj hg hne
    exact ⟨h1.trans hu.tripped, (grpQuiet_congr (grpTurn_writes u mask j) g).trans hu.quiet, h2.trans hu.record, h3.symm ▸ hu.place⟩
  · obtain ⟨h1, h2, -⟩ := grpTurn_other u mask hj hg hne
    exact ⟨h1.trans hu.tripped, h2.trans hu.record, fun hq => grpTurn_clrRef u mask hj (hu.refused hq)⟩

theorem grpTurns_moves (s : State) (mask : Nat) : Moves [.regs, .cycle, .gdp] s (s.forAll 8 (grpTurn mask)) :=
  Moves.forAll (.refl s) fun g u hu => hu.trans (grpTurn_moves u mask g)

theorem grpClear_moves (s : State) (mask : Nat) :
    Moves [.regs, .cycle, .gdp, .rtc, .mram, .events, .stew, .draws] s (s.grpClear mask) :=
  ((grpTurns_moves s mask).mono (by decide)).trans (((gdpSummary_moves _).mono (by decide)).trans (gdRefreshAll_moves _))

theorem grpClear_gives {g mask : Nat} (hg : g < 8) (hmask : mask.testBit g = true) (h : s.bit R.GDP_GRP_STAT g = true)
    (hplace : g < s.gdp.groups.length) : GroupCleared s g (s.grpClear mask) := by
  have hsum : ((s.forAll 8 (grpTurn mask)).gdpSummary).rd R.GDP_GRP_STAT = (s.forAll 8 (grpTurn mask)).rd R.GDP_GRP_STAT :=
    (gdpSummary_writes _).rd (by decide)
  have hsame : (s.forAll 8 (grpTurn mask)).gdpSummary.gdp = (s.forAll 8 (grpTurn mask)).gdp := (gdpSummary_moves _).gdp
  rw [grpClear_eq]
  refine (grpTurns_give hg hmask h hplace).same (((gdRefreshAll_stats _).rd ?_).trans hsum) (((gdRefreshAll_drivers _).group g).trans ?_)
  · exact not_driverStats (by decide) (.inl (by decide))
  · rw [group, hsame, group]

theorem groupTripClear_gives (g : Fin 8) (hs : s.Shaped) (ha : s.accepts w R.GDP_GRP_STAT v) (hv : bitAt v g = true) (hb : s.bit R.GDP_GRP_STAT g = true) :
    Completes (.groupTripClear w v) s fun t =>
      t.bit R.GDP_GRP_STAT g = (!s.grpQuiet g) ∧ (s.grpQuiet g = false → t.on F.GDP_GRP_STAT_CLR_REF = true) ∧
      t.group g = (if s.grpQuiet g then {} else s.group g) ∧ t.loom = s.loom ∧ s.clockKept t := by
  have hlim := g.isLt
  have hm : Moves [.cycle, .tst] (s.hook R.GDP_GRP_STAT v) (s.write w R.GDP_GRP_STAT v) := write_moves ha (by decide)
  rw [hook_GDP_GRP_STAT] at hm
  have hstore := storePlain_moves s R.GDP_GRP_STAT (v &&& 0xFFFFFF00)
  have hkeep : (s.storePlain R.GDP_GRP_STAT (v &&& 0xFFFFFF00)).bit R.GDP_GRP_STAT g = s.bit R.GDP_GRP_STAT g := by
    have hlow : ∀ g : Fin 8, (0xFFFFFF00 : Word).getLsbD g = false := by decide
    have hplain : ∀ g : Fin 8, grpStatRow.plain.getLsbD g = false ∧ grpStatRow.w1c.getLsbD g = true ∧ grpStatRow.w1s.getLsbD g = false := by decide
    obtain ⟨h1, h2, h3⟩ := hplain g
    rw [bit_eq_on, bit_eq_on, on_eq_getLsbD, on_eq_getLsbD, rd_storePlain_same, stored_eq s _ regRow?_GDP_GRP_STAT,
      getLsbD_mergeWrite_w1c _ _ (by omega) h1 h2 h3, BitVec.getLsbD_and, hlow g, Bool.and_false, Bool.not_false, Bool.and_true]
  have hmask : (v.toNat % 256).testBit g = true := by
    rw [show 256 = 2 ^ 8 from rfl, Nat.testBit_mod_two_pow, decide_eq_true g.isLt, Bool.true_and]
    exact hv
  have hquiet : (s.storePlain R.GDP_GRP_STAT (v &&& 0xFFFFFF00)).grpQuiet g = s.grpQuiet g := grpQuiet_congr (.storePlain (.refl s) rfl) g
  have hgrp : (s.storePlain R.GDP_GRP_STAT (v &&& 0xFFFFFF00)).group g = s.group g := by rw [group, hstore.gdp, group]
  have hclear := grpClear_gives g.isLt hmask (hkeep.trans hb) (hstore.gdp ▸ g.isLt.trans_eq hs.groups.symm)
  have hmoves := (hstore.mono (by decide)).trans (grpClear_moves (s.storePlain R.GDP_GRP_STAT (v &&& 0xFFFFFF00)) (v.toNat % 256))
  obtain ⟨h1, h2, h3⟩ := hclear.same (u := s.write w R.GDP_GRP_STAT v) (rd_congr hm.regs _) (by rw [group, hm.gdp, group])
  rw [hquiet] at h1 h2 h3
  rw [hgrp] at h2
  obtain ⟨r, hr⟩ := hmoves.clockKept
  exact ⟨_, rfl, h1, h3, h2, hm.loom.trans hmoves.loom, r, hm.clk.trans hr⟩

/-! ### V_trip (R206) -/

/-- How software reaches GDP_LINKn_STAT: VTRIP, HARD and CLR_REF are W1C. -/
def linkStatRow : RegRow := { base := 0x4007009C, dims := [(0x20, 2)], reset := 0x0, w1c := 0x29 }

theorem regRow?_GDP_LINKn_STAT (n : Fin 2) : regRow? (R.GDP_LINKn_STAT n) = some linkStatRow := by fin_cases n <;> rfl

/-- A store without a 1 in VTRIP leaves VTRIP. -/
theorem linkStored_vtrip (s : State) (n : Fin 2) (v : Word) :
    (s.storePlain (R.GDP_LINKn_STAT n) (v &&& 0xFFFFFFFE)).on (F.GDP_LINKn_STAT_VTRIP n) = s.on (F.GDP_LINKn_STAT_VTRIP n) := by
  have hlow : (0xFFFFFFFE : Word).getLsbD 0 = false := by decide
  rw [on_eq_getLsbD, on_eq_getLsbD, rd_storePlain_same, stored_eq s _ (regRow?_GDP_LINKn_STAT n),
    getLsbD_mergeWrite_w1c _ _ (by decide) (by decide) (by decide) (by decide), BitVec.getLsbD_and, hlow, Bool.and_false, Bool.not_false, Bool.and_true]

theorem vtripClear_eq (n : Fin 2) (h : s.on (F.GDP_LINKn_STAT_VTRIP n) = true) : s.linkStat n (v ||| 1) =
    if s.cmpActive (s.linkWin n) 2 then (s.storePlain (R.GDP_LINKn_STAT n) ((v ||| 1) &&& 0xFFFFFFFE)).set1 (F.GDP_LINKn_STAT_CLR_REF n)
    else ((s.storePlain (R.GDP_LINKn_STAT n) ((v ||| 1) &&& 0xFFFFFFFE)).clr (F.GDP_LINKn_STAT_VTRIP n)).gdpSummary := by
  have hbit : bitAt (v ||| 1) 0 = true := by
    rw [bitAt_eq_getLsbD, BitVec.getLsbD_or]
    simp
  have hrd {b : Nat} (hb : b ≠ R.GDP_LINKn_STAT n) : (s.storePlain (R.GDP_LINKn_STAT n) ((v ||| 1) &&& 0xFFFFFFFE)).rd b = s.rd b :=
    rd_storePlain_other s _ hb
  have hn := n.isLt
  have hwin : (s.storePlain (R.GDP_LINKn_STAT n) ((v ||| 1) &&& 0xFFFFFFFE)).linkWin n = s.linkWin n :=
    congrArg (min 47) (get_of_rd (f := F.GDP_LINKn_CFG_WIN n) (hrd (by simp only [R.GDP_LINKn_CFG, R.GDP_LINKn_STAT]; omega)))
  have hcmp : (s.storePlain (R.GDP_LINKn_STAT n) ((v ||| 1) &&& 0xFFFFFFFE)).cmpActive (s.linkWin n) 2 = s.cmpActive (s.linkWin n) 2 :=
    bit_congr (hrd (by have := Nat.min_le_left 47 (s.get (F.GDP_LINKn_CFG_WIN n)); simp only [linkWin, R.CMP_WINw_STAT, R.GDP_LINKn_STAT]; omega))
  unfold linkStat
  dsimp only
  rw [hbit, linkStored_vtrip, h, hwin, hcmp]
  rfl

theorem vtripClear_gives (n : Fin 2) (ha : s.accepts w (R.GDP_LINKn_STAT n) (v ||| 1)) (h : s.on (F.GDP_LINKn_STAT_VTRIP n) = true) :
    (s.cmpActive (s.linkWin n) 2 = false → Completes (.vtripClear w n v) s fun t =>
      t.on (F.GDP_LINKn_STAT_VTRIP n) = false ∧ t.loom = s.loom ∧ t.gdp = s.gdp ∧
      (∀ b, b ≠ R.GDP_LINKn_STAT n → b ≠ R.GDP_STAT → t.rd b = s.rd b)) ∧
    (s.cmpActive (s.linkWin n) 2 = true → Completes (.vtripClear w n v) s fun t =>
      t.on (F.GDP_LINKn_STAT_VTRIP n) = true ∧ t.on (F.GDP_LINKn_STAT_CLR_REF n) = true ∧ t.loom = s.loom ∧ t.gdp = s.gdp ∧
      (∀ b, b ≠ R.GDP_LINKn_STAT n → t.rd b = s.rd b)) := by
  have hplain : ∀ n : Fin 2, movesPolicy (R.GDP_LINKn_STAT n) = false := by decide
  have hm : Moves [.cycle, .tst] (s.hook (R.GDP_LINKn_STAT n) (v ||| 1)) (s.write w (R.GDP_LINKn_STAT n) (v ||| 1)) := write_moves ha (hplain n)
  rw [hook_GDP_LINKn_STAT, vtripClear_eq n h] at hm
  have hne : R.GDP_LINKn_STAT n ≠ R.GDP_STAT := by simp only [R.GDP_LINKn_STAT, R.GDP_STAT]; omega
  have hstore := storePlain_moves s (R.GDP_LINKn_STAT n) ((v ||| 1) &&& 0xFFFFFFFE)
  constructor
  · intro hc
    rw [hc, if_neg Bool.false_ne_true] at hm
    have hsum := gdpSummary_moves ((s.storePlain (R.GDP_LINKn_STAT n) ((v ||| 1) &&& 0xFFFFFFFE)).clr (F.GDP_LINKn_STAT_VTRIP n))
    have hwr := gdpSummary_writes ((s.storePlain (R.GDP_LINKn_STAT n) ((v ||| 1) &&& 0xFFFFFFFE)).clr (F.GDP_LINKn_STAT_VTRIP n))
    refine ⟨_, rfl, ?_, hm.loom.trans (hsum.loom.trans ((clr_loom ..).trans hstore.loom)), hm.gdp.trans (hsum.gdp.trans ((clr_gdp ..).trans hstore.gdp)),
      fun b h1 h2 => ?_⟩
    · rw [on_congr hm.regs, hwr.on hne]
      exact on_clr_same _ _ (by simp)
    · rw [rd_congr hm.regs, hwr.rd h2, clr, rd_put_other _ _ _ _ h1, rd_storePlain_other _ _ h1]
  · intro hc
    rw [hc, if_pos rfl] at hm
    refine ⟨_, rfl, ?_, ?_, hm.loom.trans ((set1_loom ..).trans hstore.loom), hm.gdp.trans ((set1_gdp ..).trans hstore.gdp), fun b h1 => ?_⟩
    · rw [on_congr hm.regs, on_set1_other _ _ _ (by simp) (.inr (by simp)), linkStored_vtrip]
      exact h
    · rw [on_congr hm.regs]
      exact on_set1_same _ _ (by simp) (by simp)
    · rw [rd_congr hm.regs, set1, rd_put_other _ _ _ _ h1, rd_storePlain_other _ _ h1]

end State
end Sys2Proof.Machine

/-! The brake chopper: what moves it, and what its steps leave (R207 to R209). -/

namespace Sys2Proof.Machine

set_option Elab.async false
namespace State

variable {s t u : State} {n : Nat} {w : World} {v : Word}

/-! ### What moves the chopper (R207) -/

/-- The registers from which chopper `n` decides, beside its own status. -/
def brkReads (n b : Nat) : Prop :=
  b = R.SYS_MODE ∨ b = R.GDP_LINKn_CFG n ∨ b = R.GDP_LINKn_PON n ∨ b = R.GDP_LINKn_TAU n ∨ b = R.GDP_LINKn_EMAX n ∨ b = R.GDP_LINKn_TMIN n ∨
    ∃ k < 48, b = R.CMP_WINw_STAT k

theorem brkMode_congr (hcfg : t.get (F.GDP_LINKn_CFG_BRKMODE n) = s.get (F.GDP_LINKn_CFG_BRKMODE n)) (hmode : t.mode = s.mode) :
    t.brkMode n = s.brkMode n := by
  unfold brkMode inService
  rw [hcfg, hmode]

/-- What chopper `n` decides from is the same in both states. -/
structure BrakeSees (n : Nat) (s t : State) : Prop where
  regs : s.Writes (fun b => ¬ brkReads n b) t
  on : t.on (F.GDP_LINKn_STAT_BRK_ON n) = s.on (F.GDP_LINKn_STAT_BRK_ON n)
  brk : t.brk n = s.brk n
  clk : t.clk = s.clk
  sys : t.sys = s.sys

namespace BrakeSees

theorem rd (h : BrakeSees n s t) {b : Nat} (hb : brkReads n b) : t.rd b = s.rd b := h.regs.rd (not_not.mpr hb)

theorem acts (h : BrakeSees n s t) : t.brkActs = s.brkActs := coreRuns_of_rd h.sys (h.rd (.inl rfl))

theorem mode (h : BrakeSees n s t) : t.brkMode n = s.brkMode n :=
  brkMode_congr (get_of_rd (f := F.GDP_LINKn_CFG_BRKMODE n) (h.rd (.inr (.inl rfl)))) (mode_of_rd (h.rd (.inl rfl)))

theorem configured (h : BrakeSees n s t) : t.brkConfigured n = s.brkConfigured n := by
  simp only [brkConfigured, get_of_rd (f := F.GDP_LINKn_PON_VAL n) (h.rd (.inr (.inr (.inl rfl)))),
    get_of_rd (f := F.GDP_LINKn_TAU_TAU n) (h.rd (.inr (.inr (.inr (.inl rfl))))),
    get_of_rd (f := F.GDP_LINKn_EMAX_VAL n) (h.rd (.inr (.inr (.inr (.inr (.inl rfl))))))]

theorem hard (h : BrakeSees n s t) : t.brkHard n = s.brkHard n := by
  simp only [brkHard, get_of_rd (f := F.GDP_LINKn_EMAX_VAL n) (h.rd (.inr (.inr (.inr (.inr (.inl rfl)))))), h.brk]

theorem used (h : BrakeSees n s t) : t.brkUsed n = s.brkUsed n := by simp only [brkUsed, h.brk, h.on, count, h.clk]

theorem allowed (h : BrakeSees n s t) : t.brkAllowed n = s.brkAllowed n := by simp only [brkAllowed, h.brk, h.used]

theorem win (h : BrakeSees n s t) : t.linkWin n = s.linkWin n :=
  congrArg (min 47) (get_of_rd (f := F.GDP_LINKn_CFG_WIN n) (h.rd (.inr (.inl rfl))))

theorem cmp (h : BrakeSees n s t) : t.rd (R.CMP_WINw_STAT (s.linkWin n)) = s.rd (R.CMP_WINw_STAT (s.linkWin n)) :=
  h.rd (.inr (.inr (.inr (.inr (.inr (.inr ⟨_, Nat.lt_succ_of_le (Nat.min_le_left ..), rfl⟩))))))

theorem wants (h : BrakeSees n s t) : t.brkWants n = s.brkWants n := by
  simp only [brkWants, h.acts, h.mode, h.configured, h.hard, h.allowed, h.win, h.on, h.brk, count, h.clk,
    on_of_rd (f := F.CMP_WINw_STAT_CEIL (s.linkWin n)) h.cmp, on_of_rd (f := F.CMP_WINw_STAT_LO (s.linkWin n)) h.cmp,
    on_of_rd (f := F.CMP_WINw_STAT_HI (s.linkWin n)) h.cmp, get_of_rd (f := F.GDP_LINKn_TMIN_TON n) (h.rd (.inr (.inr (.inr (.inr (.inr (.inl rfl))))))),
    get_of_rd (f := F.GDP_LINKn_TMIN_TOFF n) (h.rd (.inr (.inr (.inr (.inr (.inr (.inl rfl)))))))] <;> rfl

end BrakeSees

theorem not_brkReads_linkRegs {b : Nat} (hn : n < 2) (hb : linkRegs n b) : ¬ brkReads n b := by
  rcases hb with rfl | rfl <;> rintro (h | h | h | h | h | h | ⟨k, hk, h⟩) <;>
    simp only [R.GDP_LINKn_STAT, R.GDP_STAT, R.SYS_MODE, R.GDP_LINKn_CFG, R.GDP_LINKn_PON, R.GDP_LINKn_TAU, R.GDP_LINKn_EMAX, R.GDP_LINKn_TMIN,
      R.CMP_WINw_STAT] at h <;> omega

/-- CFG_ERR shows an AUTO chopper that is not configured (R209). -/
def cfgErr (s : State) (n : Nat) : State :=
  s.putB (F.GDP_LINKn_STAT_CFG_ERR n) (s.get (F.GDP_LINKn_CFG_BRKMODE n) == 1 && !s.brkConfigured n)

theorem cfgErr_moves (s : State) (n : Nat) : Moves [.regs, .cycle] s (s.cfgErr n) := putB_moves (.refl s) _ _

theorem cfgErr_sees (s : State) (hn : n < 2) : BrakeSees n s (s.cfgErr n) where
  regs := .putB (.refl s) (not_brkReads_linkRegs hn (.inl rfl))
  on := on_putB_other _ _ _ _ (by simp) (.inr (by simp))
  brk := congrArg (fun g : Gdp => nth g.brks n {}) (cfgErr_moves s n).gdp
  clk := (cfgErr_moves s n).clk
  sys := (cfgErr_moves s n).sys

/-! ### The steps -/

theorem brkStep_turnsOn (hn : n < 2) (h : s.brkWants n = some true) : s.brkStep n = (s.cfgErr n).brkOn n := by
  have hw : (s.cfgErr n).brkWants n = some true := (cfgErr_sees s hn).wants.trans h
  unfold brkStep
  unfold cfgErr at hw
  dsimp only
  rw [hw]
  rfl

theorem brkStep_turnsOff (hn : n < 2) (h : s.brkWants n = some false)
    (hard : ¬ (s.brkMode n = 1 ∧ s.brkConfigured n = true ∧ s.brkHard n = true)) : s.brkStep n = (s.cfgErr n).brkOff n := by
  have hsees := cfgErr_sees s hn
  have hw : (s.cfgErr n).brkWants n = some false := hsees.wants.trans h
  have hard' : ¬ ((s.cfgErr n).brkMode n = 1 ∧ (s.cfgErr n).brkConfigured n = true ∧ (s.cfgErr n).brkHard n = true) := by
    rwa [hsees.mode, hsees.configured, hsees.hard]
  unfold brkStep
  unfold cfgErr at hw hard' ⊢
  dsimp only
  rw [hw]
  exact if_neg hard'

theorem brkStep_stays (hn : n < 2) (h : s.brkWants n = none) : s.brkStep n = s.cfgErr n := by
  have hw : (s.cfgErr n).brkWants n = none := (cfgErr_sees s hn).wants.trans h
  unfold brkStep
  unfold cfgErr at hw ⊢
  dsimp only
  rw [hw]

theorem brk_modBrk_same (s : State) (f : LinkBrk → LinkBrk) (hn : n < s.gdp.brks.length) : (s.modBrk n f).brk n = f (s.brk n) := nth_upd_same _ _ _ _ hn

/-- Chopper `n` shows that it conducts, and from when. -/
def onMarked (s : State) (n : Nat) : State :=
  ((s.set1 (F.GDP_LINKn_STAT_BRK_ON n)).putBit R.GDP_STAT (5 + n) true).modBrk n (fun b => { b with lastOn := s.count })

theorem brkOn_eq (h : s.on (F.GDP_LINKn_STAT_BRK_ON n) = false) :
    s.brkOn n = ((s.onMarked n).incW (F.GDP_LINKn_STAT_ONCNT n)).raise (0xDA + n) := by
  unfold brkOn
  rw [h, if_neg Bool.false_ne_true]
  rfl

theorem onMarked_moves (s : State) (n : Nat) : Moves [.regs, .cycle, .gdp] s (s.onMarked n) := .record (putB_moves (.put (.refl s)) _ _) (by rfl)

theorem onMarked_on (s : State) (n : Nat) : (s.onMarked n).on (F.GDP_LINKn_STAT_BRK_ON n) = true := by
  have hne : R.GDP_LINKn_STAT n ≠ R.GDP_STAT := by simp only [R.GDP_LINKn_STAT, R.GDP_STAT]; omega
  rw [onMarked, on_congr (by rfl : _ = ((s.set1 (F.GDP_LINKn_STAT_BRK_ON n)).putBit R.GDP_STAT (5 + n) true).regs),
    (putBit_writes _ _ _ _).on hne]
  exact on_set1_same _ _ (by simp) (by simp)

theorem onMarked_brk (s : State) (hn : n < s.gdp.brks.length) : (s.onMarked n).brk n = { s.brk n with lastOn := s.count } := by
  have hgdp : ((s.set1 (F.GDP_LINKn_STAT_BRK_ON n)).putBit R.GDP_STAT (5 + n) true).gdp = s.gdp := (putB_gdp ..).trans (set1_gdp ..)
  rw [onMarked, brk_modBrk_same _ _ (hgdp ▸ hn), brk, hgdp, brk]

/-- A chopper that turns on: its flag, its instant and its event. -/
theorem brkOn_gives (h : s.on (F.GDP_LINKn_STAT_BRK_ON n) = false) (hn2 : n < 2) (hn : n < s.gdp.brks.length) (hruns : s.coreRuns = true) :
    (s.brkOn n).on (F.GDP_LINKn_STAT_BRK_ON n) = true ∧ (s.brkOn n).brk n = { s.brk n with lastOn := s.count } ∧ s.sent (s.brkOn n) (0xDA + n) := by
  have hm := onMarked_moves s n
  have hcore : ((s.onMarked n).incW (F.GDP_LINKn_STAT_ONCNT n)).coreRuns = true := by
    have hw : s.Writes (linkRegs n) ((s.onMarked n).incW (F.GDP_LINKn_STAT_ONCNT n)) :=
      .incW (Writes.regs (Writes.putBit (Writes.set1 (.refl s) (.inl rfl)) (.inr rfl)) (by rfl)) (.inl rfl)
    rw [coreRuns_of_writes hw ((put_sys ..).trans hm.sys) (by simp only [linkRegs, R.SYS_MODE, R.GDP_LINKn_STAT, R.GDP_STAT]; omega)]
    exact hruns
  rw [brkOn_eq h]
  refine ⟨?_, ?_, sent_raise hcore ((put_clk ..).trans hm.clk) _⟩
  · rw [on_raise, incW, on_put_other _ _ _ _ (by simp) (.inr (by simp))]
    exact onMarked_on s n
  · have hgdp : (((s.onMarked n).incW (F.GDP_LINKn_STAT_ONCNT n)).raise (0xDA + n)).gdp = (s.onMarked n).gdp := (raise_gdp ..).trans (put_gdp ..)
    rw [brk, hgdp]
    exact onMarked_brk s hn

theorem brkOff_gives (h : s.on (F.GDP_LINKn_STAT_BRK_ON n) = true) (hn : n < s.gdp.brks.length) :
    (s.brkOff n).on (F.GDP_LINKn_STAT_BRK_ON n) = false ∧
    (s.brkOff n).brk n = { s.brk n with lastOff := some s.count, onCycles := s.brkUsed n } := by
  have hne : R.GDP_LINKn_STAT n ≠ R.GDP_STAT := by simp only [R.GDP_LINKn_STAT, R.GDP_STAT]; omega
  have hgdp : ((s.clr (F.GDP_LINKn_STAT_BRK_ON n)).putBit R.GDP_STAT (5 + n) false).gdp = s.gdp := (putB_gdp ..).trans (clr_gdp ..)
  have heq : s.brkOff n = ((s.clr (F.GDP_LINKn_STAT_BRK_ON n)).putBit R.GDP_STAT (5 + n) false).modBrk n
      (fun b => { b with lastOff := some s.count, onCycles := s.brkUsed n }) := by
    unfold brkOff
    rw [h, if_pos rfl]
    rfl
  rw [heq]
  refine ⟨?_, ?_⟩
  · rw [on_congr (by rfl : _ = ((s.clr (F.GDP_LINKn_STAT_BRK_ON n)).putBit R.GDP_STAT (5 + n) false).regs), (putBit_writes _ _ _ _).on hne]
    exact on_clr_same _ _ (by simp)
  · rw [brk_modBrk_same _ _ (hgdp ▸ hn), brk, hgdp, brk]

/-! ### What a step gives -/

/-- A step that turns the chopper on. -/
theorem brkStep_on (hn : n < 2) (hlen : n < s.gdp.brks.length) (hruns : s.coreRuns = true) (hoff : s.on (F.GDP_LINKn_STAT_BRK_ON n) = false)
    (h : s.brkWants n = some true) : (s.brkStep n).on (F.GDP_LINKn_STAT_BRK_ON n) = true ∧ (s.brkStep n).brk n = { s.brk n with lastOn := s.count } ∧
      s.sent (s.brkStep n) (0xDA + n) := by
  have hsees := cfgErr_sees s hn
  obtain ⟨h1, h2, h3⟩ := brkOn_gives (s := s.cfgErr n) (hsees.on.trans hoff) hn ((cfgErr_moves s n).gdp ▸ hlen) (hsees.acts.trans hruns)
  rw [brkStep_turnsOn hn h]
  exact ⟨h1, by rw [h2, hsees.brk, count, hsees.clk, count], sent_of_clk h3 hsees.clk⟩

/-- A step that turns the chopper off. -/
theorem brkStep_off (hn : n < 2) (hlen : n < s.gdp.brks.length) (hon : s.on (F.GDP_LINKn_STAT_BRK_ON n) = true) (h : s.brkWants n = some false)
    (hard : ¬ (s.brkMode n = 1 ∧ s.brkConfigured n = true ∧ s.brkHard n = true)) : (s.brkStep n).on (F.GDP_LINKn_STAT_BRK_ON n) = false ∧
      (s.brkStep n).brk n = { s.brk n with lastOff := some s.count, onCycles := s.brkUsed n } := by
  have hsees := cfgErr_sees s hn
  obtain ⟨h1, h2⟩ := brkOff_gives (s := s.cfgErr n) (hsees.on.trans hon) ((cfgErr_moves s n).gdp ▸ hlen)
  rw [brkStep_turnsOff hn h hard]
  exact ⟨h1, by rw [h2, hsees.brk, hsees.used, count, hsees.clk, count]⟩

/-- A step keeps what the resistor model knows. -/
theorem brkStep_thermal (s : State) (hn : n < 2) (hlen : n < s.gdp.brks.length) :
    ((s.brkStep n).brk n).theta = (s.brk n).theta ∧ ((s.brkStep n).brk n).tickStart = (s.brk n).tickStart := by
  have hsees := cfgErr_sees s hn
  have hlen' : n < (s.cfgErr n).gdp.brks.length := (cfgErr_moves s n).gdp ▸ hlen
  have hoff : (((s.cfgErr n).brkOff n).brk n).theta = (s.brk n).theta ∧ (((s.cfgErr n).brkOff n).brk n).tickStart = (s.brk n).tickStart := by
    cases hb : (s.cfgErr n).on (F.GDP_LINKn_STAT_BRK_ON n) with
    | true => rw [(brkOff_gives hb hlen').2, hsees.brk]; exact ⟨rfl, rfl⟩
    | false => rw [brkOff, hb, if_neg Bool.false_ne_true, hsees.brk]; exact ⟨rfl, rfl⟩
  have hon : (((s.cfgErr n).brkOn n).brk n).theta = (s.brk n).theta ∧ (((s.cfgErr n).brkOn n).brk n).tickStart = (s.brk n).tickStart := by
    cases hb : (s.cfgErr n).on (F.GDP_LINKn_STAT_BRK_ON n) with
    | true => rw [brkOn, hb, if_pos rfl, hsees.brk]; exact ⟨rfl, rfl⟩
    | false =>
      have hgdp : ((((s.cfgErr n).onMarked n).incW (F.GDP_LINKn_STAT_ONCNT n)).raise (0xDA + n)).gdp = ((s.cfgErr n).onMarked n).gdp :=
        (raise_gdp ..).trans (put_gdp ..)
      rw [brkOn_eq hb, brk, hgdp, ← brk, onMarked_brk _ hlen', hsees.brk]
      exact ⟨rfl, rfl⟩
  cases hw : s.brkWants n with
  | none => rw [brkStep_stays hn hw, hsees.brk]; exact ⟨rfl, rfl⟩
  | some b =>
    cases b with
    | true => rw [brkStep_turnsOn hn hw]; exact hon
    | false =>
      have hw' : (s.cfgErr n).brkWants n = some false := hsees.wants.trans hw
      have heq : (s.brkStep n).gdp = ((s.cfgErr n).brkOff n).gdp := by
        unfold brkStep
        unfold cfgErr at hw' ⊢
        dsimp only
        rw [hw']
        dsimp only
        split
        · exact set1_gdp ..
        · rfl
      rw [brk, heq]
      exact hoff

end State
end Sys2Proof.Machine

/-! What the commands of the brake chopper give (R207 to R209). -/

namespace Sys2Proof.Machine

set_option Elab.async false
namespace State

variable {s t u : State} {n : Nat} {w : World} {v : Word}

/-! ### AUTO (R207) -/

section Auto

variable (hruns : s.coreRuns = true) (hmode : s.brkMode n = 1) (hconf : s.brkConfigured n = true) (hhard : s.brkHard n = false)
include hruns hmode hconf hhard

theorem brkWants_hi {d : Nat} (hoff : s.on (F.GDP_LINKn_STAT_BRK_ON n) = false) (hceil : s.on (F.CMP_WINw_STAT_CEIL (s.linkWin n)) = false)
    (hhi : s.on (F.CMP_WINw_STAT_HI (s.linkWin n)) = true) (hall : s.brkAllowed n = true) (hd : (s.brk n).lastOff = some d)
    (ht : d + 40 * s.get (F.GDP_LINKn_TMIN_TOFF n) ≤ s.count) : s.brkWants n = some true := by
  have hacts : s.brkActs = true := hruns
  simp [brkWants, hacts, hmode, hconf, hhard, hoff, hceil, hhi, hall, hd, ht]

theorem brkWants_lo (hon : s.on (F.GDP_LINKn_STAT_BRK_ON n) = true) (hceil : s.on (F.CMP_WINw_STAT_CEIL (s.linkWin n)) = false)
    (hlo : s.on (F.CMP_WINw_STAT_LO (s.linkWin n)) = true) (ht : (s.brk n).lastOn + 40 * s.get (F.GDP_LINKn_TMIN_TON n) ≤ s.count) :
    s.brkWants n = some false := by
  have hacts : s.brkActs = true := hruns
  simp [brkWants, hacts, hmode, hconf, hhard, hon, hceil, hlo, ht]

theorem brkWants_spent (hon : s.on (F.GDP_LINKn_STAT_BRK_ON n) = true) (hceil : s.on (F.CMP_WINw_STAT_CEIL (s.linkWin n)) = false)
    (hall : s.brkAllowed n = false) : s.brkWants n = some false := by
  have hacts : s.brkActs = true := hruns
  simp [brkWants, hacts, hmode, hconf, hhard, hon, hceil, hall]

end Auto

/-- What a step leaves beside its chopper. -/
theorem brkStep_rest (s : State) (n : Nat) : (s.brkStep n).loom = s.loom ∧ (s.brkStep n).clk = s.clk ∧
    (∀ b, b ≠ R.GDP_LINKn_STAT n → b ≠ R.GDP_STAT → (s.brkStep n).rd b = s.rd b) :=
  ⟨(brkStep_moves s n).loom, (brkStep_moves s n).clk, fun _ h1 h2 => (brkStep_writes s n).rd (not_or.mpr ⟨h1, h2⟩)⟩

theorem brkAuto_gives (n : Fin 2) (d : Nat) (hs : s.Shaped) (hruns : s.coreRuns = true) (hmode : s.brkMode n = 1) (hconf : s.brkConfigured n = true)
    (hhard : s.brkHard n = false) :
    (s.on (F.GDP_LINKn_STAT_BRK_ON n) = false → s.on (F.CMP_WINw_STAT_CEIL (s.linkWin n)) = false →
      s.on (F.CMP_WINw_STAT_HI (s.linkWin n)) = true → s.brkAllowed n = true → (s.brk n).lastOff = some d →
      d + 40 * s.get (F.GDP_LINKn_TMIN_TOFF n) ≤ s.count →
      Completes (.brkMinTimeElapsed n) s fun t =>
        t.on (F.GDP_LINKn_STAT_BRK_ON n) = true ∧ (t.brk n).lastOn = s.count ∧ (t.brk n).theta = (s.brk n).theta ∧
        s.sent t (0xDA + n) ∧ t.loom = s.loom ∧ t.clk = s.clk ∧
        (∀ b, b ≠ R.GDP_LINKn_STAT n → b ≠ R.GDP_STAT → t.rd b = s.rd b)) ∧
    (s.on (F.GDP_LINKn_STAT_BRK_ON n) = true → s.on (F.CMP_WINw_STAT_CEIL (s.linkWin n)) = false →
      s.on (F.CMP_WINw_STAT_LO (s.linkWin n)) = true → (s.brk n).lastOn + 40 * s.get (F.GDP_LINKn_TMIN_TON n) ≤ s.count →
      Completes (.brkMinTimeElapsed n) s fun t =>
        t.on (F.GDP_LINKn_STAT_BRK_ON n) = false ∧ (t.brk n).lastOff = some s.count ∧ (t.brk n).theta = (s.brk n).theta ∧
        t.loom = s.loom ∧ t.clk = s.clk ∧ (∀ b, b ≠ R.GDP_LINKn_STAT n → b ≠ R.GDP_STAT → t.rd b = s.rd b)) ∧
    (s.on (F.GDP_LINKn_STAT_BRK_ON n) = true → s.on (F.CMP_WINw_STAT_CEIL (s.linkWin n)) = false → s.brkAllowed n = false →
      Completes (.brkBudgetSpent n) s fun t =>
        t.on (F.GDP_LINKn_STAT_BRK_ON n) = false ∧ (t.brk n).lastOff = some s.count ∧ t.loom = s.loom ∧ t.clk = s.clk ∧
        (∀ b, b ≠ R.GDP_LINKn_STAT n → b ≠ R.GDP_STAT → t.rd b = s.rd b)) := by
  have hlen : n.val < s.gdp.brks.length := n.isLt.trans_eq hs.brks.symm
  obtain ⟨hloom, hclk, hrd⟩ := brkStep_rest s n
  have hcool : ¬ (s.brkMode n = 1 ∧ s.brkConfigured n = true ∧ s.brkHard n = true) := fun h => absurd (hhard.symm.trans h.2.2) Bool.noConfusion
  refine ⟨fun hoff hceil hhi hall hd ht => ?_, fun hon hceil hlo ht => ?_, fun hon hceil hall => ?_⟩
  · obtain ⟨h1, h2, h3⟩ := brkStep_on n.isLt hlen hruns hoff (brkWants_hi hruns hmode hconf hhard hoff hceil hhi hall hd ht)
    exact ⟨_, rfl, h1, by rw [h2], by rw [h2], h3, hloom, hclk, hrd⟩
  · obtain ⟨h1, h2⟩ := brkStep_off n.isLt hlen hon (brkWants_lo hruns hmode hconf hhard hon hceil hlo ht) hcool
    exact ⟨_, rfl, h1, by rw [h2], by rw [h2], hloom, hclk, hrd⟩
  · obtain ⟨h1, h2⟩ := brkStep_off n.isLt hlen hon (brkWants_spent hruns hmode hconf hhard hon hceil hall) hcool
    have heq : (if s.brkAllowed n then s else s.brkStep n) = s.brkStep n := by rw [hall, if_neg Bool.false_ne_true]
    exact ⟨_, congrArg Host.Outcome.next heq, h1, by rw [h2], hloom, hclk, hrd⟩

/-! ### The resistor model (R208) -/

/-- θ after a tick in which the resistor has been heated and has cooled. -/
def thetaTicked (s : State) (n : Nat) : Rat :=
  (s.brk n).theta + (s.get (F.GDP_LINKn_PON_VAL n) : Rat) * (s.brkUsed n : Rat) / 400000000 -
    (if s.get (F.GDP_LINKn_TAU_TAU n) = 0 then 0 else (s.brk n).theta / (100 * s.get (F.GDP_LINKn_TAU_TAU n) : Rat))

/-- The limit acts from this tick on. -/
def limitReached (s : State) (n : Nat) : Bool :=
  s.get (F.GDP_LINKn_PON_VAL n) != 0 && s.get (F.GDP_LINKn_TAU_TAU n) != 0 && decide ((s.get (F.GDP_LINKn_EMAX_VAL n) : Rat) ≤ s.thetaTicked n)

/-- The budget of the next tick, where the limit acts. -/
def tickBudget (s : State) (n : Nat) : Option Nat :=
  if s.limitReached n then
    some (400000 * s.get (F.GDP_LINKn_EMAX_VAL n) * 10 / (s.get (F.GDP_LINKn_PON_VAL n) * s.get (F.GDP_LINKn_TAU_TAU n)))
  else none

/-- The model's record begins a new tick. -/
def tickNoted (s : State) (n : Nat) : State :=
  s.modBrk n (fun b => { b with theta := s.thetaTicked n, onCycles := 0, tickStart := s.count, budget := s.tickBudget n })

/-- LIMIT and THETA show the new tick. -/
def tickShown (s : State) (n : Nat) : State :=
  ((s.tickNoted n).putB (F.GDP_LINKn_STAT_LIMIT n) (s.limitReached n)).wr (R.GDP_LINKn_THETA n)
    (BitVec.ofNat 32 (min (2 ^ 32 - 1) (s.thetaTicked n).floor.toNat))

theorem brkTick_eq (s : State) (n : Nat) : s.brkTick n =
    (if s.limitReached n && !s.on (F.GDP_LINKn_STAT_LIMIT n) then (s.tickShown n).raise 0xDC else s.tickShown n).brkStep n := rfl

/-- A tick is shown before the chopper steps. -/
theorem brkTick_shape (s : State) (n : Nat) : ∃ u, s.brkTick n = u.brkStep n ∧ u.gdp = (s.tickNoted n).gdp ∧
    Moves [.regs, .cycle, .gdp, .events, .stew] s u := by
  have hm : Moves [.regs, .cycle, .gdp, .events, .stew] s (s.tickShown n) := Moves.wr (putB_moves (.record (.refl s) (by rfl)) _ _)
  have hg : (s.tickShown n).gdp = (s.tickNoted n).gdp := (wr_gdp ..).trans (putB_gdp ..)
  refine ⟨_, brkTick_eq s n, ?_, .ite (.raise hm) hm⟩
  split
  · exact (raise_gdp ..).trans hg
  · exact hg

theorem resistorTick_gives (n : Fin 2) (hs : s.Shaped) (hruns : s.coreRuns = true) (hc : s.count % 400000 = 0) (ht : (s.brk n).tickStart ≠ s.count)
    (htau : s.get (F.GDP_LINKn_TAU_TAU n) ≠ 0) : Completes (.resistorModelTick n) s fun t =>
      (t.brk n).theta = (s.brk n).theta + (s.get (F.GDP_LINKn_PON_VAL n) : Rat) * (s.brkUsed n : Rat) / 400000000
        - (s.brk n).theta / (100 * (s.get (F.GDP_LINKn_TAU_TAU n) : Rat)) ∧
      (t.brk n).tickStart = s.count ∧ t.loom = s.loom ∧ t.clk = s.clk := by
  have hlen : n.val < s.gdp.brks.length := n.isLt.trans_eq hs.brks.symm
  have heq : s.resistorTick n = s.brkTick n := by
    unfold resistorTick
    rw [if_pos (by simp [hruns, hc, ht])]
  obtain ⟨u, hu, hgdp, hm⟩ := brkTick_shape s n
  have hbrk : u.brk n = { s.brk n with theta := s.thetaTicked n, onCycles := 0, tickStart := s.count, budget := s.tickBudget n } := by
    rw [brk, hgdp]
    exact brk_modBrk_same s _ hlen
  obtain ⟨h1, h2⟩ := brkStep_thermal u n.isLt (by rw [hgdp]; exact hlen.trans_eq (length_upd ..).symm)
  obtain ⟨hloom, hclk, -⟩ := brkStep_rest u n
  refine ⟨_, congrArg Host.Outcome.next (heq.trans hu), ?_, ?_, hloom.trans hm.loom, hclk.trans hm.clk⟩
  · rw [h1, hbrk]
    simp only [thetaTicked, if_neg htau]
  · rw [h2, hbrk]

/-! ### TEST (R209) -/

theorem brkWants_test {e : Nat} (hruns : s.coreRuns = true) (hmode : s.brkMode n = 2) (he : (s.brk n).testEnd = some e) (hb : (s.brk n).budget = none) :
    s.brkWants n = if s.on (F.GDP_LINKn_STAT_BRK_ON n) then none else some true := by
  have hacts : s.brkActs = true := hruns
  have hall : s.brkAllowed n = true := by simp only [brkAllowed, hb]
  cases hon : s.on (F.GDP_LINKn_STAT_BRK_ON n) <;> simp [brkWants, hacts, hmode, he, hall, hon]

theorem brkTestEnd_gives (n : Fin 2) (e : Nat) (hs : s.Shaped) (he : (s.brk n).testEnd = some e) (hdue : s.due e = true) (hmode : s.brkMode n = 2)
    (hon : s.on (F.GDP_LINKn_STAT_BRK_ON n) = true) : Completes (.brkTestEnd n) s fun t =>
      t.on (F.GDP_LINKn_STAT_BRK_ON n) = false ∧ (t.brk n).testEnd = none ∧ t.loom = s.loom ∧ t.clk = s.clk ∧
      (∀ b, b ≠ R.GDP_LINKn_STAT n → b ≠ R.GDP_STAT → t.rd b = s.rd b) := by
  have hlen : n.val < s.gdp.brks.length := n.isLt.trans_eq hs.brks.symm
  have heq : s.brkTestEnd n = (s.modBrk n (fun b => { b with testEnd := none })).brkStep n := by
    simp only [brkTestEnd, he, hdue, if_true]
  have hended : (s.modBrk n (fun b => { b with testEnd := none })).brk n = { s.brk n with testEnd := none } := brk_modBrk_same s _ hlen
  have hm : Moves [.gdp] s (s.modBrk n (fun b => { b with testEnd := none })) := .record (.refl s) (by rfl)
  have hmode' : (s.modBrk n (fun b => { b with testEnd := none })).brkMode n = 2 := hmode
  have hon' : (s.modBrk n (fun b => { b with testEnd := none })).on (F.GDP_LINKn_STAT_BRK_ON n) = true := hon
  have hlen' : n.val < (s.modBrk n (fun b => { b with testEnd := none })).gdp.brks.length := hlen.trans_eq (length_upd ..).symm
  generalize s.modBrk n (fun b => { b with testEnd := none }) = u at *
  have hw : u.brkWants n = some false := by
    have hnone : (u.brk n).testEnd = none := by rw [hended]
    cases ha : u.brkActs <;> simp [brkWants, ha, hmode', hnone, hon']
  obtain ⟨h1, h2⟩ := brkStep_off n.isLt hlen' hon' hw (fun h => absurd (hmode'.symm.trans h.1) (by decide))
  obtain ⟨hloom, hclk, hrd⟩ := brkStep_rest u n
  exact ⟨_, congrArg Host.Outcome.next heq, h1, by rw [h2, hended], hloom.trans hm.loom, hclk.trans hm.clk,
    fun b hb1 hb2 => (hrd b hb1 hb2).trans (rd_congr hm.regs b)⟩

/-! ### A write of a link's configuration (R206, R209) -/

theorem vtrip_writes (s : State) (n : Nat) : s.Writes (fun b => b = R.GDP_LINKn_STAT n ∨ b = R.GDP_STAT ∨ ∃ l < 24, legBlockRegs l b) (s.vtrip n) := by
  unfold vtrip
  dsimp only
  have hset : s.Writes (fun b => b = R.GDP_LINKn_STAT n ∨ b = R.GDP_STAT ∨ ∃ l < 24, legBlockRegs l b) (s.set1 (F.GDP_LINKn_STAT_VTRIP n)).gdpSummary :=
    Writes.trans (.set1 (.refl s) (.inl rfl)) ((gdpSummary_writes _).mono fun _ h => .inr (.inl h))
  exact .raise (hset.trans ((blockLegs_stats _ _ _).mono fun _ h => .inr (.inr h)))

theorem vtrip_moves (s : State) (n : Nat) : Moves [.regs, .cycle, .loom, .gdp, .events, .stew] s (s.vtrip n) := by
  unfold vtrip
  dsimp only
  have hset : Moves [.regs, .cycle, .loom, .gdp, .events, .stew] s (s.set1 (F.GDP_LINKn_STAT_VTRIP n)).gdpSummary :=
    Moves.trans (.put (.refl s)) ((gdpSummary_moves _).mono (by decide))
  exact .raise (hset.trans (blockLegs_moves _ _ _))

theorem vtrip_drivers (s : State) (n : Nat) : s.DriversOnly (s.vtrip n) := by
  unfold vtrip
  dsimp only
  exact ((DriversOnly.same ((gdpSummary_moves _).gdp.trans (set1_gdp ..))).trans (blockLegs_drivers _ _ _)).trans (.same (raise_gdp ..))

theorem vtrip_lasts (s : State) (n : Nat) : s.EventsLast (s.vtrip n) := by
  unfold vtrip
  dsimp only
  exact .raise ((EventsLast.same (.refl s) ((gdpSummary_moves _).events.trans (set1_events ..))).trans (blockLegs_lasts _ _ _)) _

/-- V_trip leaves the chopper's flag. -/
theorem vtrip_brkOn (s : State) (hn : n < 2) : (s.vtrip n).on (F.GDP_LINKn_STAT_BRK_ON n) = s.on (F.GDP_LINKn_STAT_BRK_ON n) := by
  have hne : R.GDP_LINKn_STAT n ≠ R.GDP_STAT := by simp only [R.GDP_LINKn_STAT, R.GDP_STAT]; omega
  have hfree : ¬ ∃ l < 24, legBlockRegs l (R.GDP_LINKn_STAT n) := by
    rintro ⟨l, hl, h⟩
    refine not_legBlockRegs hl ?_ (not_driverStats hne (.inl ?_)) h
    · simp only [inBlock, blockBase, R.GDP_LINKn_STAT]
      omega
    · simp only [R.GDP_LINKn_STAT, R.GDP_GDn_STAT]
      omega
  unfold vtrip
  dsimp only
  rw [on_raise, (blockLegs_stats _ _ _).on hfree, (gdpSummary_writes _).on hne]
  exact on_set1_other _ _ _ (by simp) (.inr (by simp))

theorem not_brkReads_vtrip {b : Nat} (hn : n < 2) (hb : b = R.GDP_LINKn_STAT n ∨ b = R.GDP_STAT ∨ ∃ l < 24, legBlockRegs l b) : ¬ brkReads n b := by
  rcases hb with h | h | ⟨l, hl, rfl | rfl | rfl | ⟨i, hi, rfl⟩⟩
  · exact not_brkReads_linkRegs hn (.inl h)
  · exact not_brkReads_linkRegs hn (.inr h)
  all_goals
    rintro (h | h | h | h | h | h | ⟨k, hk, h⟩) <;>
    simp only [R.LOOM_LEGl_STAT, R.LOOM_STAT, R.GDP_STAT, R.GDP_GDn_STAT, R.SYS_MODE, R.GDP_LINKn_CFG, R.GDP_LINKn_PON, R.GDP_LINKn_TAU,
      R.GDP_LINKn_EMAX, R.GDP_LINKn_TMIN, R.CMP_WINw_STAT] at h <;> omega

theorem vtrip_sees (s : State) (hn : n < 2) : BrakeSees n s (s.vtrip n) where
  regs := (vtrip_writes s n).mono fun _ h => not_brkReads_vtrip hn h
  on := vtrip_brkOn s hn
  brk := (vtrip_drivers s n).brk n
  clk := (vtrip_moves s n).clk
  sys := (vtrip_moves s n).sys

theorem BrakeSees.refl (s : State) : BrakeSees n s s := ⟨.refl s, rfl, rfl, rfl, rfl⟩

theorem vtripLevel_sees (s : State) (hn : n < 2) : BrakeSees n s (s.vtripLevel n) := by
  unfold vtripLevel
  split
  · exact vtrip_sees s hn
  · exact .refl s

theorem vtripLevel_lasts (s : State) (n : Nat) : s.EventsLast (s.vtripLevel n) := .ite (vtrip_lasts s n) (.refl s)

/-- A link's configuration is stored, and a test of its chopper has begun. -/
def testBegun (s : State) (n : Nat) (v : Word) : State :=
  (s.storePlain (R.GDP_LINKn_CFG n) v).modBrk n (fun b => { b with
    testEnd := some (s.count + max 1 ((s.storePlain (R.GDP_LINKn_CFG n) v).get (F.GDP_LINKn_CFG_TESTLEN n)) * 400000) })

theorem linkCfg_eq (n : Nat) (hmode : (s.storePlain (R.GDP_LINKn_CFG n) v).brkMode n = 2) (hgo : bitAt v 19 = true) :
    s.linkCfg n v = (((s.testBegun n v).brkStep n).vtripLevel n).brkStep n := by
  have hcount : (s.storePlain (R.GDP_LINKn_CFG n) v).count = s.count := congrArg (fun c : Clk => c.count.toNat) (storePlain_moves s _ v).clk
  unfold linkCfg
  dsimp only
  rw [if_pos hmode, hgo, whenB, if_pos rfl, brkTestGo, if_pos hmode, hcount, testBegun]

/-- In SERVICE the latency policy decides nothing. -/
theorem modSys_policy_service {f : Sys → Sys} (h : t.mode = .service) : (t.modSys f).policy = t.modSys f := by
  have hmode : (t.modSys f).mode = .service := h
  unfold policy
  rw [hmode]
  split <;> rfl

/-- A write in SERVICE that the policy watches changes nothing more than its register's behaviour does. -/
theorem write_service {a : Nat} (h : s.accepts w a v) (hmode : (s.hook a v).mode = .service) : Moves [.cycle, .tst, .sys] (s.hook a v) (s.write w a v) := by
  have hacc : Moves [.cycle, .tst, .sys] (s.hook a v) ((s.transact ((s.hook a v).markWritten a (s.writable a)) 0 1).takePort a) :=
    (((markWritten_moves ..).mono (by decide)).trans ((transact_moves ..).mono (by decide))).trans ((takePort_moves ..).mono (by decide))
  have hmode' : ((s.transact ((s.hook a v).markWritten a (s.writable a)) 0 1).takePort a).mode = .service := by
    rw [mode_of_rd (rd_congr hacc.regs _)]
    exact hmode
  rw [write_accepted h]
  unfold policyFor policyAfter
  split
  · dsimp only
    split
    · rw [modSys_policy_service hmode']
      exact .record hacc (by rfl)
    · exact hacc
  · exact hacc

theorem brkTestGo_gives (n : Fin 2) (hs : s.Shaped) (ha : s.accepts w (R.GDP_LINKn_CFG n) (v ||| 0x80000)) (hsvc : s.inService = true)
    (hmode : (s.stored (R.GDP_LINKn_CFG n) (v ||| 0x80000)).toNat / 2 ^ (F.GDP_LINKn_CFG_BRKMODE n).lo % 4 = 2)
    (hb : (s.brk n).budget = none) (hoff : s.on (F.GDP_LINKn_STAT_BRK_ON n) = false) :
    Completes (.brkTestGo w n v) s fun t => t.on (F.GDP_LINKn_STAT_BRK_ON n) = true ∧ s.sent t (0xDA + n) := by
  have hn := n.isLt
  have hlen : n.val < s.gdp.brks.length := n.isLt.trans_eq hs.brks.symm
  have hgo : bitAt (v ||| 0x80000) 19 = true := by
    rw [bitAt_eq_getLsbD, BitVec.getLsbD_or]
    simp
  have hstore := storePlain_moves s (R.GDP_LINKn_CFG n) (v ||| 0x80000)
  have hrd {b : Nat} (hne : b ≠ R.GDP_LINKn_CFG n) : (s.storePlain (R.GDP_LINKn_CFG n) (v ||| 0x80000)).rd b = s.rd b := rd_storePlain_other s _ hne
  have hsmode : (s.storePlain (R.GDP_LINKn_CFG n) (v ||| 0x80000)).mode = .service :=
    (mode_of_rd (hrd (by simp only [R.SYS_MODE, R.GDP_LINKn_CFG]; omega))).trans (by simpa [inService] using hsvc)
  have hstored : (s.storePlain (R.GDP_LINKn_CFG n) (v ||| 0x80000)).brkMode n = 2 := by
    have hfield : (s.storePlain (R.GDP_LINKn_CFG n) (v ||| 0x80000)).get (F.GDP_LINKn_CFG_BRKMODE n) = 2 := by
      rw [get, rd_storePlain_same]
      exact hmode
    simp only [brkMode, hfield, inService, hsmode]
    rfl
  have hbegun : (s.testBegun n (v ||| 0x80000)).brk n = { (s.storePlain (R.GDP_LINKn_CFG n) (v ||| 0x80000)).brk n with
      testEnd := some (s.count + max 1 ((s.storePlain (R.GDP_LINKn_CFG n) (v ||| 0x80000)).get (F.GDP_LINKn_CFG_TESTLEN n)) * 400000) } :=
    brk_modBrk_same _ _ (hstore.gdp ▸ hlen)
  have hbudget : ((s.testBegun n (v ||| 0x80000)).brk n).budget = none := by
    rw [hbegun, brk, hstore.gdp]
    exact hb
  have hend : ((s.testBegun n (v ||| 0x80000)).brk n).testEnd =
      some (s.count + max 1 ((s.storePlain (R.GDP_LINKn_CFG n) (v ||| 0x80000)).get (F.GDP_LINKn_CFG_TESTLEN n)) * 400000) := by rw [hbegun]
  have hm : Moves [.regs, .gdp] s (s.testBegun n (v ||| 0x80000)) := .record (hstore.mono (by decide)) (by rfl)
  have hregs : (s.testBegun n (v ||| 0x80000)).regs = (s.storePlain (R.GDP_LINKn_CFG n) (v ||| 0x80000)).regs := by rfl
  have hmode2 : (s.testBegun n (v ||| 0x80000)).brkMode n = 2 := hstored
  have hservice : (s.testBegun n (v ||| 0x80000)).mode = .service := (mode_of_rd (rd_congr hregs _)).trans hsmode
  have hoff' : (s.testBegun n (v ||| 0x80000)).on (F.GDP_LINKn_STAT_BRK_ON n) = false :=
    ((on_congr hregs _).trans (on_storePlain_other s _ (by simp only [R.GDP_LINKn_STAT, R.GDP_LINKn_CFG]; omega))).trans hoff
  have hruns : (s.testBegun n (v ||| 0x80000)).coreRuns = true := by
    have hphase : s.sys.phase = .run := ha.1
    rw [coreRuns, hm.sys, hphase, hservice]
    rfl
  have hlen' : n.val < (s.testBegun n (v ||| 0x80000)).gdp.brks.length := by
    rw [show (s.testBegun n (v ||| 0x80000)).gdp.brks.length = (s.storePlain (R.GDP_LINKn_CFG n) (v ||| 0x80000)).gdp.brks.length from length_upd .., hstore.gdp]
    exact hlen
  have hhook : s.hook (R.GDP_LINKn_CFG n) (v ||| 0x80000) = (((s.testBegun n (v ||| 0x80000)).brkStep n).vtripLevel n).brkStep n := by
    rw [hook_GDP_LINKn_CFG, linkCfg_eq n hstored hgo]
  generalize s.testBegun n (v ||| 0x80000) = u at *
  obtain ⟨hon, hbrk, hsent⟩ := brkStep_on hn hlen' hruns hoff' ((brkWants_test hruns hmode2 hend hbudget).trans (by rw [hoff']; rfl))
  have hstep := brkStep_writes u n
  have hmodeAddr : ¬ linkRegs n R.SYS_MODE := by simp only [linkRegs, R.SYS_MODE, R.GDP_LINKn_STAT, R.GDP_STAT]; omega
  have hsvc1 : (u.brkStep n).mode = .service := (mode_of_rd (hstep.rd hmodeAddr)).trans hservice
  have hmode1 : (u.brkStep n).brkMode n = 2 := by
    have hcfg := hstep.get (f := F.GDP_LINKn_CFG_BRKMODE n) (by simp only [linkRegs, R.GDP_LINKn_CFG, R.GDP_LINKn_STAT, R.GDP_STAT]; omega)
    exact (brkMode_congr hcfg (hsvc1.trans hservice.symm)).trans hmode2
  have hruns1 : (u.brkStep n).coreRuns = true := (coreRuns_of_writes hstep (brkStep_moves u n).sys hmodeAddr).trans hruns
  have hsees := vtripLevel_sees (u.brkStep n) hn
  have hnone : ((u.brkStep n).vtripLevel n).brkWants n = none := by
    rw [hsees.wants, brkWants_test hruns1 hmode1 (by rw [hbrk]; exact hend) (by rw [hbrk]; exact hbudget), hon]
    rfl
  have hlast : (((u.brkStep n).vtripLevel n).brkStep n).on (F.GDP_LINKn_STAT_BRK_ON n) = true := by
    rw [brkStep_stays hn hnone, (cfgErr_sees _ hn).on, hsees.on]
    exact hon
  have hfinal : (((u.brkStep n).vtripLevel n).brkStep n).mode = .service := by
    rw [brkStep_stays hn hnone, mode_of_rd ((cfgErr_sees _ hn).rd (.inl rfl)), mode_of_rd (hsees.rd (.inl rfl))]
    exact hsvc1
  have hwrite := write_service ha (hhook ▸ hfinal)
  rw [hhook] at hwrite
  refine ⟨_, rfl, (on_congr hwrite.regs _).trans hlast, sent.of_events (sent_of_clk (sent.keeps hsent ?_) hm.clk) hwrite.events⟩
  rw [brkStep_stays hn hnone]
  exact (vtripLevel_lasts (u.brkStep n) n).same (cfgErr_moves _ n).events

end State

/-- Settles O24: each clause is the lemma about its command above. -/
theorem faultsGroupsAndTheBrake : Obligations.FaultsGroupsAndTheBrake := by
  unfold Obligations.FaultsGroupsAndTheBrake
  refine ⟨fun _ l _ hp hen hlatch => State.fltAssert_gives l hp hen hlatch, fun _ l hp => State.fltAssert_ends l hp,
    fun _ g l i hs hq hi => State.groupStagger_gives g l i hs hq hi, fun _ _ _ ha => State.fltLatchClear_gives ha,
    fun s w v g hs ha hv hb => ?_, fun _ _ n _ ha h => State.vtripClear_gives n ha h,
    fun _ n d hs hruns hmode hconf hhard => State.brkAuto_gives n d hs hruns hmode hconf hhard,
    fun _ n hs hruns hc ht htau => State.resistorTick_gives n hs hruns hc ht htau,
    fun _ _ n _ hs ha hsvc hmode hb hoff => State.brkTestGo_gives n hs ha hsvc hmode hb hoff,
    fun _ n e hs he hdue hmode hon => State.brkTestEnd_gives n e hs he hdue hmode hon⟩
  obtain ⟨t, ht, h1, h2, h3, h4, h5⟩ := State.groupTripClear_gives g hs ha hv hb
  constructor
  · intro hq
    rw [hq] at h1 h3
    exact ⟨t, ht, h1, h3, h4, h5⟩
  · intro hq
    rw [hq] at h1 h3
    exact ⟨t, ht, h1, h2 hq, h3, h4, h5⟩

end Sys2Proof.Machine

/-! The window comparators: what a change of a comparator does, and what it leaves alone (R213 to R219). -/

namespace Sys2Proof.Machine

set_option Elab.async false
namespace State

variable {s t u : State} {w i l : Nat} {v : Int}

/-! ### Work on one window -/

/-- The registers that work on window `w` may write: its status, the summary, and those of the Loom and the gate drive. -/
def winRegs (w b : Nat) : Prop := b = R.CMP_WINw_STAT w ∨ b = R.CMP_STAT ∨ driveBlocks b

/-- From `s` to `t` only what work on window `w` may change has changed. -/
structure WinWork (w : Nat) (s t : State) : Prop where
  regs : s.Writes (winRegs w) t
  moves : Moves [.regs, .cycle, .loom, .gdp, .cmp, .events, .stew] s t
  wins : t.cmp.wins = s.cmp.wins

namespace WinWork

theorem refl (s : State) : WinWork w s s := ⟨.refl s, .refl s, rfl⟩

theorem trans (h : WinWork w s t) (h' : WinWork w t u) : WinWork w s u := ⟨h.regs.trans h'.regs, h.moves.trans h'.moves, h'.wins.trans h.wins⟩

theorem of (hw : s.Writes (winRegs w) t) (hm : Moves [.regs, .cycle, .loom, .gdp, .events, .stew] s t) : WinWork w s t :=
  ⟨hw, hm.mono (by decide), congrArg Cmp.wins hm.cmp⟩

theorem ite {p : Prop} [Decidable p] (ht : WinWork w s t) (hu : WinWork w s u) : WinWork w s (if p then t else u) := by
  split <;> assumption

theorem win (h : WinWork w s t) (k : Nat) : t.win k = s.win k := by rw [State.win, h.wins, State.win]

theorem mode (h : WinWork w s t) : t.mode = s.mode := mode_of_rd (h.regs.rd (by
  rintro (h | h | h | h) <;> simp only [R.SYS_MODE, R.CMP_WINw_STAT, R.CMP_STAT, inBlock, blockBase] at h <;> omega))

theorem clk (h : WinWork w s t) : t.clk = s.clk := h.moves.clk

theorem mem (h : WinWork w s t) : t.mem = s.mem := h.moves.mem

/-- What a window is set to stays while it is worked on. -/
theorem rd (h : WinWork w s t) {b : Nat} (hb : b = R.CMP_WINw_CFG w ∨ b = R.CMP_WINw_TH w ∨ b = R.CMP_WINw_MASK w) : t.rd b = s.rd b := h.regs.rd (by
  rintro (h | h | h | h) <;> rcases hb with rfl | rfl | rfl <;>
    simp only [R.CMP_WINw_CFG, R.CMP_WINw_TH, R.CMP_WINw_MASK, R.CMP_WINw_STAT, R.CMP_STAT, inBlock, blockBase] at h <;> omega)

theorem judge (h : WinWork w s t) (i : Nat) (v : Int) : t.cmpJudge w i v = s.cmpJudge w i v := by
  have hth (f : Fld) (hf : f.addr = R.CMP_WINw_TH w) : t.get f = s.get f := get_of_rd (by rw [hf]; exact h.rd (.inr (.inl rfl)))
  have hcfg (f : Fld) (hf : f.addr = R.CMP_WINw_CFG w) : t.get f = s.get f := get_of_rd (by rw [hf]; exact h.rd (.inl rfl))
  simp only [cmpJudge, on, hth (F.CMP_WINw_TH_LO w) rfl, hth (F.CMP_WINw_TH_HI w) rfl, hth (F.CMP_WINw_TH_CEIL w) rfl,
    hcfg (F.CMP_WINw_CFG_CEIL_DIR w) rfl, hcfg (F.CMP_WINw_CFG_HYS w) rfl] <;> rfl

end WinWork

theorem winStat_work (s : State) (w i : Nat) (b : Bool) : WinWork w s (s.putBit (R.CMP_WINw_STAT w) i b) :=
  .of ((putBit_writes s _ _ _).mono fun _ h => .inl h) (putB_moves (.refl s) _ _)

theorem cmpSummary_writes (s : State) : s.Writes (· = R.CMP_STAT) s.cmpSummary := by
  unfold cmpSummary
  dsimp only
  exact .putBAt (f := F.CMP_STAT_RB_FAULT) (.putBAt (f := F.CMP_STAT_SETTLE_ANY) (.putBAt (f := F.CMP_STAT_UNRES_ANY) (.refl s)))

theorem cmpSummary_work (s : State) (w : Nat) : WinWork w s s.cmpSummary := by
  refine .of ((cmpSummary_writes s).mono fun _ h => .inr (.inl h)) ?_
  unfold cmpSummary
  dsimp only
  exact putB_moves (putB_moves (putB_moves (.refl s) _ _) _ _) _ _

/-- The summary leaves every window's status. -/
theorem cmpSummary_stat (s : State) (w : Nat) : s.cmpSummary.rd (R.CMP_WINw_STAT w) = s.rd (R.CMP_WINw_STAT w) :=
  (cmpSummary_writes s).rd (by simp only [R.CMP_WINw_STAT, R.CMP_STAT]; omega)

/-- Outside DOZE a window wakes nothing. -/
theorem winWakes_idle (w : Nat) (h : s.mode ≠ .doze) : s.winWakes w = s := by
  unfold winWakes whenB wake
  split
  · exact if_neg fun hd => h hd.2
  · rfl

/-! ### What a change brings about (R206, R217, R218) -/

theorem tlRest_moves (s : State) (k : Nat) : Moves [.regs, .cycle, .loom] s (s.tlRest k) := by
  have hclr : Moves [.regs, .cycle, .loom] s (s.clr (F.LOOM_TLk_STAT_LIVE k)) := .put (.refl s)
  unfold tlRest
  dsimp only
  exact .record (.ite (.put hclr) hclr) (by rfl)

theorem modTl_legs (s : State) (k : Nat) (f : TlSt → TlSt) : (s.modTl k f).loom.legs = s.loom.legs := rfl

theorem tlRest_legs (s : State) (k : Nat) : (s.tlRest k).loom.legs = s.loom.legs := by
  have hclr : (s.clr (F.LOOM_TLk_STAT_LIVE k)).loom = s.loom := clr_loom ..
  unfold tlRest
  dsimp only
  rw [modTl_legs]
  split
  · rw [set1_loom, hclr]
  · rw [hclr]

/-- One line's turn when the comparators feed the trip lines. -/
def feedTurn (k : Nat) (t : State) : State :=
  if k < 12 then t else
    if t.lineFed k == (t.tl k).input then t
    else if t.lineFed k then t.modTl k (fun x => { x with input := true, since := t.count })
    else t.tlRest k

theorem feedLines_eq (s : State) : s.feedLines = s.forAll 16 feedTurn := rfl

/-- The statuses of the trip lines. -/
def tlStats (b : Nat) : Prop := ∃ k < 16, b = R.LOOM_TLk_STAT k

theorem feedLines_writes (s : State) : s.Writes tlStats s.feedLines :=
  Writes.forAll (.refl s) fun k _ hk hu =>
    .ite hu (.ite hu (.ite (hu.regs (by rfl)) (hu.trans ((tlRest_writes _ k).mono fun _ h => ⟨k, hk, h⟩))))

theorem feedLines_moves (s : State) : Moves [.regs, .cycle, .loom] s s.feedLines :=
  Moves.forAll (.refl s) fun k _ hu => .ite hu (.ite hu (.ite (.record hu (by rfl)) (hu.trans (tlRest_moves _ k))))

theorem feedLines_legs (s : State) : s.feedLines.loom.legs = s.loom.legs := by
  rw [feedLines_eq]
  refine forAll_rec (p := fun _ u => u.loom.legs = s.loom.legs) rfl fun k u _ hu => ?_
  unfold feedTurn
  split
  · exact hu
  · split
    · exact hu
    · split
      · exact hu
      · exact (tlRest_legs u k).trans hu

theorem tlStats_drive {b : Nat} (h : tlStats b) : driveBlocks b := by
  obtain ⟨k, hk, rfl⟩ := h
  exact .inl (by simp only [inBlock, blockBase, R.LOOM_TLk_STAT]; omega)

theorem linkRegs_drive {n b : Nat} (hn : n < 2) (h : linkRegs n b) : driveBlocks b := by
  rcases h with rfl | rfl
  · exact .inr (by simp only [inBlock, blockBase, R.GDP_LINKn_STAT]; omega)
  · exact .inr (by simp only [inBlock, blockBase, R.GDP_STAT]; omega)

theorem blockLegs_drive (s : State) (cause : Cause) (mask : Nat) : s.Writes driveBlocks (s.blockLegs cause mask) :=
  (blockLegs_writes s cause mask).mono fun _ ⟨_, hl, h⟩ => blockRegs_drive hl h

theorem vtrip_drive (s : State) {n : Nat} (hn : n < 2) : s.Writes driveBlocks (s.vtrip n) := by
  unfold vtrip
  dsimp only
  have hset : s.Writes driveBlocks (s.set1 (F.GDP_LINKn_STAT_VTRIP n)).gdpSummary :=
    Writes.trans (.set1 (.refl s) (linkRegs_drive hn (.inl rfl))) ((gdpSummary_writes _).mono fun _ h => linkRegs_drive hn (.inr h))
  exact .raise (hset.trans (blockLegs_drive _ _ _))

theorem ceilActs_writes (s : State) (w : Nat) : s.Writes driveBlocks (s.ceilActs w) :=
  Writes.forAll (blockLegs_drive s _ _) fun _ u hn hu => .ite (hu.trans (vtrip_drive u hn)) hu

theorem ceilActs_moves (s : State) (w : Nat) : Moves [.regs, .cycle, .loom, .gdp, .events, .stew] s (s.ceilActs w) :=
  Moves.forAll (blockLegs_moves s _ _) fun n u hu => .ite (hu.trans (vtrip_moves u n)) hu

/-- What a change of comparator `i` brings about beside its status. -/
def cmpFollowed (s : State) (w i : Nat) (b : Bool) : State :=
  (((if i = 2 ∧ b then s.ceilActs w else s).feedLines).cmpChanges w i b).forAll 2 (fun n u => if u.linkWin n = w then u.brkStep n else u)

theorem setCmp_eq (s : State) (w i : Nat) (b counts : Bool) : s.setCmp w i b counts =
    if s.cmpActive w i != b || (counts && b) then (s.putBit (R.CMP_WINw_STAT w) i b).cmpFollowed w i b else s.putBit (R.CMP_WINw_STAT w) i b := rfl

/-- The choppers of the links that name window `w` step. -/
def linkSteps (s : State) (w : Nat) : State := s.forAll 2 (fun n u => if u.linkWin n = w then u.brkStep n else u)

theorem linkSteps_writes (s : State) (w : Nat) : s.Writes (fun b => ∃ n < 2, linkRegs n b) (s.linkSteps w) :=
  Writes.forAll (.refl s) fun n u hn hu => .ite (hu.trans ((brkStep_writes u n).mono fun _ h => ⟨n, hn, h⟩)) hu

theorem linkSteps_moves (s : State) (w : Nat) : Moves [.regs, .cycle, .gdp, .events, .stew] s (s.linkSteps w) :=
  Moves.forAll (.refl s) fun n u hu => .ite (hu.trans (brkStep_moves u n)) hu

theorem cmpFollowed_eq (s : State) (w i : Nat) (b : Bool) : s.cmpFollowed w i b =
    ((((if i = 2 ∧ b then s.ceilActs w else s).feedLines).cmpChanges w i b).linkSteps w) := rfl

theorem ceilPart_writes (s : State) (w : Nat) (p : Prop) [Decidable p] : s.Writes driveBlocks (if p then s.ceilActs w else s).feedLines :=
  Writes.trans (.ite (ceilActs_writes s w) (.refl s)) ((feedLines_writes _).mono fun _ h => tlStats_drive h)

theorem ceilPart_moves (s : State) (w : Nat) (p : Prop) [Decidable p] :
    Moves [.regs, .cycle, .loom, .gdp, .events, .stew] s (if p then s.ceilActs w else s).feedLines :=
  Moves.trans (.ite (ceilActs_moves s w) (.refl s)) ((feedLines_moves _).mono (by decide))

theorem cmpFollowed_writes (s : State) (w i : Nat) (b : Bool) : s.Writes driveBlocks (s.cmpFollowed w i b) := by
  rw [cmpFollowed_eq]
  exact (Writes.regs (ceilPart_writes s w _) (by rfl)).trans ((linkSteps_writes _ w).mono fun _ ⟨_, hn, h⟩ => linkRegs_drive hn h)

theorem cmpChanges_wins (s : State) (w i : Nat) (b : Bool) : (s.cmpChanges w i b).cmp.wins = s.cmp.wins := rfl

theorem cmpFollowed_work (s : State) (w i : Nat) (b : Bool) : WinWork w s (s.cmpFollowed w i b) := by
  refine ⟨(cmpFollowed_writes s w i b).mono fun _ h => .inr (.inr h), ?_, ?_⟩
  · rw [cmpFollowed_eq]
    exact (Moves.record ((ceilPart_moves s w _).mono (by decide)) (by rfl)).trans ((linkSteps_moves _ w).mono (by decide))
  · rw [cmpFollowed_eq, (linkSteps_moves _ w).cmp]
    exact (cmpChanges_wins _ w i b).trans (congrArg Cmp.wins (ceilPart_moves s w (i = 2 ∧ b)).cmp)

theorem setCmp_work (s : State) (w i : Nat) (b counts : Bool) : WinWork w s (s.setCmp w i b counts) := by
  rw [setCmp_eq]
  exact .ite ((winStat_work s w i b).trans (cmpFollowed_work _ w i b)) (winStat_work s w i b)

theorem STAT_not_drive (w : Nat) : ¬ driveBlocks (R.CMP_WINw_STAT w) := by
  rintro (h | h) <;> simp only [R.CMP_WINw_STAT, inBlock, blockBase] at h <;> omega

/-- Of the window's status a change sets the comparator's bit alone. -/
theorem setCmp_stat (s : State) (w i : Nat) (b counts : Bool) :
    (s.setCmp w i b counts).rd (R.CMP_WINw_STAT w) = (s.putBit (R.CMP_WINw_STAT w) i b).rd (R.CMP_WINw_STAT w) := by
  rw [setCmp_eq]
  split
  · exact (cmpFollowed_writes _ w i b).rd (STAT_not_drive w)
  · rfl

/-- A change that takes place is on its way to CORE. -/
theorem setCmp_changes (b counts : Bool) (h : s.cmpActive w i ≠ b) :
    ∃ x ∈ (s.setCmp w i b counts).cmp.changes, x = { win := w, cmp := i, active := b, wait := 2 } := by
  have hc : (s.cmpActive w i != b || (counts && b)) = true := by simp [h]
  rw [setCmp_eq, hc, if_pos rfl, cmpFollowed_eq, (linkSteps_moves _ w).cmp]
  exact ⟨_, List.mem_append_right _ (List.mem_singleton.mpr rfl), rfl⟩

theorem setCmp_active (s : State) {i : Nat} (hi : i < 32) (b counts : Bool) : (s.setCmp w i b counts).cmpActive w i = b :=
  (bit_congr (setCmp_stat s w i b counts)).trans (bit_putBit_same s _ b hi)

theorem setCmp_field (s : State) {i : Nat} (hi : i < 32) (b counts : Bool) {g : Fld} (ha : g.addr = R.CMP_WINw_STAT w)
    (hg : g.lo + g.width ≤ i ∨ i + 1 ≤ g.lo) : (s.setCmp w i b counts).get g = s.get g := by
  have hstat : (s.setCmp w i b counts).rd g.addr = (s.putBit (R.CMP_WINw_STAT w) i b).rd g.addr := by rw [ha, setCmp_stat]
  exact (get_of_rd (f := g) hstat).trans (get_putB_other s ⟨R.CMP_WINw_STAT w, i, 1⟩ g b hi (.inr hg))

/-! ### Judgements (R213, R216) -/

/-- The unresolved bit of comparator `i` takes a value. -/
theorem judgeCmp_some {b : Bool} (h : s.cmpJudge w i v = some b) :
    s.judgeCmp w v i = (s.setCmp w i b false).putBit (R.CMP_WINw_STAT w) (4 + i) false := by
  unfold judgeCmp
  rw [h]

theorem judgeCmp_none (h : s.cmpJudge w i v = none) : s.judgeCmp w v i = s := by
  unfold judgeCmp
  rw [h]

theorem settleCmp_some {b : Bool} (h : s.cmpJudge w i v = some b) : s.settleCmp w v i = s.setCmp w i b false := by
  unfold settleCmp
  rw [h]

theorem settleCmp_none (h : s.cmpJudge w i v = none) : s.settleCmp w v i = s.putBit (R.CMP_WINw_STAT w) (4 + i) true := by
  unfold settleCmp
  rw [h]

theorem judgeCmp_work (s : State) (w : Nat) (v : Int) (i : Nat) : WinWork w s (s.judgeCmp w v i) := by
  cases h : s.cmpJudge w i v with
  | none => rw [judgeCmp_none h]; exact .refl s
  | some b => rw [judgeCmp_some h]; exact (setCmp_work s w i b false).trans (winStat_work _ w _ _)

theorem settleCmp_work (s : State) (w : Nat) (v : Int) (i : Nat) : WinWork w s (s.settleCmp w v i) := by
  cases h : s.cmpJudge w i v with
  | none => rw [settleCmp_none h]; exact winStat_work s w _ _
  | some b => rw [settleCmp_some h]; exact setCmp_work s w i b false

theorem judgeCmp_active {b : Bool} (hi : i < 3) (h : s.cmpJudge w i v = some b) : (s.judgeCmp w v i).cmpActive w i = b := by
  rw [judgeCmp_some h, cmpActive, bit_putBit_other _ _ _ (by omega) (by omega)]
  exact setCmp_active s (by omega) b false

/-- The settling of another comparator leaves CEIL. -/
theorem settleCmp_ceil (s : State) (w : Nat) (v : Int) (hi : i < 2) : (s.settleCmp w v i).cmpActive w 2 = s.cmpActive w 2 := by
  cases h : s.cmpJudge w i v with
  | none => rw [settleCmp_none h]; exact bit_putBit_other s _ _ (by omega) (by omega)
  | some b => rw [settleCmp_some h, cmpActive, bit_congr (setCmp_stat s w i b false)]; exact bit_putBit_other s _ _ (by omega) (by omega)

/-! ### Legs that CEIL blocks (R217) -/

theorem Off.vtrip (h : s.Off l) (hl : l < 24) (n : Nat) : (s.vtrip n).Off l := by
  have hset : (s.set1 (F.GDP_LINKn_STAT_VTRIP n)).gdpSummary.Off l := by
    refine h.same ?_ (leg_congr ((gdpSummary_moves _).loom.trans (set1_loom ..)) l)
    rw [(gdpSummary_writes _).rd (by simp only [R.LOOM_LEGl_STAT, R.GDP_STAT]; omega), set1,
      rd_put_other _ _ _ _ (by simp only [R.LOOM_LEGl_STAT, R.GDP_LINKn_STAT]; omega)]
  exact (hset.blockLegs hl .vtrip _).same (rd_raise ..) (leg_congr (raise_loom ..) l)

theorem ceilActs_off (s : State) (w : Nat) (hl : l < 24) (hm : (s.get (F.CMP_WINw_MASK_LEGS w)).testBit l = true) : (s.ceilActs w).Off l :=
  forAll_rec (p := fun _ u => u.Off l) (blockLegs_in s .ceil hl hm).off fun n u _ hu => by
    split
    · exact hu.vtrip hl n
    · exact hu

theorem Off.followed (h : (s.ceilActs w).Off l) (hl : l < 24) : (s.cmpFollowed w 2 true).Off l := by
  have hfed : (s.ceilActs w).feedLines.Off l := by
    refine h.same ((feedLines_writes _).rd ?_) (leg_of_legs (feedLines_legs _) l)
    rintro ⟨k, hk, h⟩
    exact TLSTAT_ne_STAT k hl h
  have hloom := (linkSteps_moves ((s.ceilActs w).feedLines.cmpChanges w 2 true) w).loom
  rw [cmpFollowed_eq, if_pos ⟨rfl, rfl⟩]
  refine hfed.same (((linkSteps_writes _ w).rd ?_).trans (rd_congr (by rfl) _)) (leg_congr hloom l)
  rintro ⟨n, hn, h | h⟩ <;> simp only [R.LOOM_LEGl_STAT, R.GDP_LINKn_STAT, R.GDP_STAT] at h <;> omega

end State
end Sys2Proof.Machine

/-! What the commands of the window comparators give (R213, R214, R216, R217). -/

namespace Sys2Proof.Machine

set_option Elab.async false
namespace State

variable {s t u : State} {v : Int}

theorem coreRuns_not_doze (h : s.coreRuns = true) : s.mode ≠ .doze := fun hd => by simp [coreRuns, hd] at h

theorem coreRuns_phase (h : s.coreRuns = true) : s.sys.phase = .run := by
  simp only [coreRuns, Bool.and_eq_true, beq_iff_eq] at h
  exact h.1

theorem switching_not_doze (h : s.switching = true) : s.mode ≠ .doze := fun hd => by simp [switching, hd] at h

/-- After work on a window outside DOZE the summary is the last thing that changes. -/
theorem winSummary_wakes {w : Nat} (h : WinWork w s u) (hm : s.mode ≠ .doze) : u.cmpSummary.winWakes w = u.cmpSummary :=
  winWakes_idle w (by rw [(cmpSummary_work u w).mode, h.mode]; exact hm)

theorem ceilCrossing_gives (w : Fin 48) (hc : s.winCompares w = true) (hj : s.cmpJudge w 2 v = some true)
    (hoff : s.on (F.CMP_WINw_STAT_CEIL w) = false) (hsw : s.switching = true) : Completes (.ceilCrossing w v) s fun t =>
      t.on (F.CMP_WINw_STAT_CEIL w) = true ∧
      (∀ l : Fin 24, (s.get (F.CMP_WINw_MASK_LEGS w)).testBit l = true →
        t.on (F.LOOM_LEGl_STAT_BLOCKED l) = true ∧ (t.leg l).outH = false ∧ (t.leg l).outL = false) ∧ t.clk = s.clk := by
  have hwork := judgeCmp_work s w v 2
  have heq : s.ceilCrossing w v = (s.judgeCmp w v 2).cmpSummary := by
    rw [ceilCrossing, hc, hj, if_pos (by decide), winSummary_wakes hwork (switching_not_doze hsw)]
  refine ⟨_, congrArg Host.Outcome.next heq, (bit_congr (cmpSummary_stat _ w)).trans (judgeCmp_active (by decide) hj), fun l hl => ?_,
    (cmpSummary_work _ w).clk.trans hwork.clk⟩
  have hchange : s.judgeCmp w v 2 = ((s.putBit (R.CMP_WINw_STAT w) 2 true).cmpFollowed w 2 true).putBit (R.CMP_WINw_STAT w) (4 + 2) false := by
    have hactive : s.cmpActive w 2 = false := hoff
    rw [judgeCmp_some hj, setCmp_eq, hactive]
    rfl
  have hmask : ((s.putBit (R.CMP_WINw_STAT w) 2 true).get (F.CMP_WINw_MASK_LEGS w)).testBit l = true := by
    rw [get_of_rd (f := F.CMP_WINw_MASK_LEGS w) ((winStat_work s w 2 true).rd (.inr (.inr rfl)))]
    exact hl
  have hstat (b : Nat) (hb : b = R.CMP_WINw_STAT w ∨ b = R.CMP_STAT) : R.LOOM_LEGl_STAT l ≠ b := by
    rcases hb with rfl | rfl
    · simp only [R.LOOM_LEGl_STAT, R.CMP_WINw_STAT]
      omega
    · simp only [R.LOOM_LEGl_STAT, R.CMP_STAT]
      omega
  have hlegs := (ceilActs_off _ w l.isLt hmask).followed l.isLt
  have hjudged : (s.judgeCmp w v 2).Off l := by
    rw [hchange]
    exact hlegs.same ((putBit_writes _ _ _ _).rd (hstat _ (.inl rfl))) (leg_congr (putB_loom ..) l)
  obtain ⟨h1, h2, h3⟩ := hjudged.same (u := (s.judgeCmp w v 2).cmpSummary) ((cmpSummary_writes _).rd (hstat _ (.inr rfl)))
    (leg_congr (by unfold cmpSummary; rw [putB_loom, putB_loom, putB_loom]) l)
  exact ⟨h1, h2, h3⟩

theorem comparatorChange_gives (w : Fin 48) (i : Fin 2) {b : Bool} (hc : s.winCompares w = true) (hj : s.cmpJudge w i v = some b) (hm : s.mode ≠ .doze) :
    Completes (.comparatorChange w ⟨i, by omega⟩ v) s fun t =>
      t.cmpActive w i = b ∧ (s.cmpActive w i ≠ b → ∃ x ∈ t.cmp.changes, x = { win := w, cmp := i, active := b, wait := 2 }) ∧
      t.clk = s.clk ∧ t.mem = s.mem := by
  have hwork := judgeCmp_work s w v i
  have heq : (if s.winCompares w then ((s.judgeCmp w v i).cmpSummary).winWakes w else s) = (s.judgeCmp w v i).cmpSummary := by
    rw [hc, if_pos rfl, winSummary_wakes hwork hm]
  have hsum := cmpSummary_work (s.judgeCmp w v i) w
  refine ⟨_, congrArg Host.Outcome.next heq, (bit_congr (cmpSummary_stat _ w)).trans (judgeCmp_active (by omega) hj), fun hne => ?_,
    hsum.clk.trans hwork.clk, hsum.mem.trans hwork.mem⟩
  obtain ⟨x, hx, he⟩ := setCmp_changes b false hne
  refine ⟨x, ?_, he⟩
  have hcmp : (s.judgeCmp w v i).cmpSummary.cmp = (s.setCmp w i b false).cmp := by
    unfold cmpSummary
    rw [putB_cmp, putB_cmp, putB_cmp, judgeCmp_some hj]
    exact putB_cmp ..
  rw [hcmp]
  exact hx

/-! ### Sampled windows (R214) -/

/-- Window `w`'s turn in a sampling tick. -/
def sampleTurn (w : Nat) (t : State) : State :=
  if (t.win w).running && t.winSampled w then t.modWin w (fun x => { x with decideAt := some (t.count + 800) })
  else if t.winCompares w then t.winWakes w
  else t

theorem modWin_moves (s : State) (w : Nat) (f : CmpWin → CmpWin) : Moves [.cmp] s (s.modWin w f) := .record (.refl s) (by rfl)

/-- Outside DOZE a window's turn changes its record alone. -/
theorem sampleTurn_moves (s : State) (w : Nat) (h : s.mode ≠ .doze) : Moves [.cmp] s (sampleTurn w s) := by
  unfold sampleTurn
  rw [winWakes_idle w h]
  exact .ite (modWin_moves s w _) (.ite (.refl s) (.refl s))

theorem sampleTurn_other (s : State) {k w : Nat} (hk : k ≠ w) (h : s.mode ≠ .doze) :
    (sampleTurn k s).win w = s.win w ∧ (sampleTurn k s).cmp.wins.length = s.cmp.wins.length := by
  unfold sampleTurn
  rw [winWakes_idle k h]
  split
  · exact ⟨nth_upd_other _ _ _ _ _ hk, length_upd ..⟩
  · split <;> exact ⟨rfl, rfl⟩

theorem mode_of_regs (h : t.regs = s.regs) : t.mode = s.mode := mode_of_rd (rd_congr h _)

/-- Whether a window samples is a matter of the registers. -/
theorem winSampled_of_regs (h : t.regs = s.regs) (w : Nat) : t.winSampled w = s.winSampled w := by
  have hg (f : Fld) := get_congr h f
  have ho (f : Fld) := on_congr h f
  simp only [winSampled, winContinuous, winForced, switching, linkWin, mode_of_regs h, hg, ho]

theorem samplingTick_gives (w : Fin 48) (hs : s.Shaped) (hruns : s.coreRuns = true) (hc : s.count % (400 * max 10 (s.get F.CMP_CTRL_TICK)) = 0)
    (hr : (s.win w).running = true) (hsmp : s.winSampled w = true) : Completes .samplingTick s fun t =>
      (t.win w).decideAt = some (s.count + 800) ∧ t.regs = s.regs ∧ t.loom = s.loom ∧ t.clk = s.clk := by
  have hdoze := coreRuns_not_doze hruns
  have hkeep : s.mode ≠ .keep := fun h => by simp [coreRuns, h] at hruns
  have heq : s.samplingTick = s.forAll 48 sampleTurn := by
    rw [samplingTick, if_pos (by simp [coreRuns_phase hruns, hkeep, hc])]
    rfl
  have hmoves : Moves [.cmp] s (s.forAll 48 sampleTurn) :=
    Moves.forAll (.refl s) fun k u hu => hu.trans (sampleTurn_moves u k (mode_of_regs hu.regs ▸ hdoze))
  refine ⟨_, congrArg Host.Outcome.next heq, ?_, hmoves.regs, hmoves.loom, hmoves.clk⟩
  refine (forAll_turn (fun u => Moves [.cmp] s u ∧ u.win w = s.win w ∧ u.cmp.wins.length = s.cmp.wins.length)
    (fun u => Moves [.cmp] s u ∧ (u.win w).decideAt = some (s.count + 800)) ⟨.refl s, rfl, rfl⟩ (fun k u _ hk ⟨hu, hwin, hlen⟩ => ?_)
    (fun u ⟨hu, hwin, hlen⟩ => ?_) (fun k u _ hk ⟨hu, hd⟩ => ?_) w.isLt).2
  · have hm : u.mode ≠ .doze := mode_of_regs hu.regs ▸ hdoze
    obtain ⟨h1, h2⟩ := sampleTurn_other u hk hm
    exact ⟨hu.trans (sampleTurn_moves u k hm), h1.trans hwin, h2.trans hlen⟩
  · have hm : u.mode ≠ .doze := mode_of_regs hu.regs ▸ hdoze
    refine ⟨hu.trans (sampleTurn_moves u w hm), ?_⟩
    have hcount : u.count = s.count := congrArg (fun c : Clk => c.count.toNat) hu.clk
    have hturn : sampleTurn w u = u.modWin w (fun x => { x with decideAt := some (u.count + 800) }) := by
      rw [sampleTurn, hwin, hr, winSampled_of_regs hu.regs, hsmp]
      rfl
    rw [hturn, hcount]
    exact congrArg CmpWin.decideAt (nth_upd_same _ _ _ _ (hlen ▸ w.isLt.trans_eq hs.wins.symm))
  · have hm : u.mode ≠ .doze := mode_of_regs hu.regs ▸ hdoze
    exact ⟨hu.trans (sampleTurn_moves u k hm), (congrArg CmpWin.decideAt (sampleTurn_other u hk hm).1).trans hd⟩

/-- The three judgements of a window are work on it, and CEIL takes what its own judgement gives. -/
theorem judgeWin_gives {w : Nat} {b : Bool} (hj : s.cmpJudge w 2 v = some b) :
    WinWork w s (s.judgeWin w v) ∧ (s.judgeWin w v).cmpActive w 2 = b := by
  have hfirst := (judgeCmp_work s w v 0).trans (judgeCmp_work (s.judgeCmp w v 0) w v 1)
  exact ⟨hfirst.trans (judgeCmp_work _ w v 2), judgeCmp_active (by decide) ((hfirst.judge 2 v).trans hj)⟩

theorem sampledDecision_gives (w : Fin 48) {b : Bool} (e : Nat) (hs : s.Shaped) (hruns : s.coreRuns = true) (he : (s.win w).decideAt = some e)
    (hdue : s.due e = true) (hset : s.on (F.CMP_WINw_STAT_SETTLING w) = false) (hj : s.cmpJudge w 2 v = some b) :
    Completes (.sampledDecision w v) s fun t => (t.win w).decideAt = none ∧ t.cmpActive w 2 = b ∧ t.clk = s.clk := by
  have hset' : (s.modWin w (fun x => { x with decideAt := none })).on (F.CMP_WINw_STAT_SETTLING w) = false := hset
  have hj' : (s.modWin w (fun x => { x with decideAt := none })).cmpJudge w 2 v = some b := hj
  have hdoze : (s.modWin w (fun x => { x with decideAt := none })).mode ≠ .doze := coreRuns_not_doze hruns
  have hwin : ((s.modWin w (fun x => { x with decideAt := none })).win w).decideAt = none :=
    congrArg CmpWin.decideAt (nth_upd_same _ _ _ _ (w.isLt.trans_eq hs.wins.symm))
  have hclk := (modWin_moves s w (fun x => { x with decideAt := none })).clk
  have hdec : s.sampledDecision w v = if (s.modWin w (fun x => { x with decideAt := none })).on (F.CMP_WINw_STAT_SETTLING w) then
      s.modWin w (fun x => { x with decideAt := none })
      else (((s.modWin w (fun x => { x with decideAt := none })).judgeWin w v).cmpSummary).winWakes w := by
    simp only [sampledDecision, he, hdue, if_true]
  generalize s.modWin w (fun x => { x with decideAt := none }) = u at *
  obtain ⟨hwork, hceil⟩ := judgeWin_gives hj'
  have heq : s.sampledDecision w v = (u.judgeWin w v).cmpSummary := by
    rw [hdec, hset', if_neg Bool.false_ne_true, winSummary_wakes hwork hdoze]
  have hsum := cmpSummary_work (u.judgeWin w v) w
  exact ⟨_, congrArg Host.Outcome.next heq, by rw [hsum.win, hwork.win]; exact hwin, (bit_congr (cmpSummary_stat _ w)).trans hceil,
    hsum.clk.trans (hwork.clk.trans hclk)⟩

/-! ### Start and settling (R216) -/

/-- The window has begun to settle, with no comparator unresolved. -/
def winBegun (s : State) (w : Nat) : State :=
  ((s.modWin w (fun _ => { running := true, settleEnd := s.count + 800, decideAt := none })).set1 (F.CMP_WINw_STAT_SETTLING w)).clr
    (F.CMP_WINw_STAT_UNRESOLVED w)

/-- Its comparators take their power-up states. -/
def winPowered (s : State) (w : Nat) : State :=
  ((s.setCmp w 0 ((s.get (F.CMP_WINw_CFG_PUS w)).testBit 0) true).setCmp w 1 ((s.get (F.CMP_WINw_CFG_PUS w)).testBit 1) true).setCmp w 2
    ((s.get (F.CMP_WINw_CFG_PUS w)).testBit 2) true

theorem winStart_eq (s : State) (w : Nat) : s.winStart w = ((s.winBegun w).winPowered w).cmpSummary := rfl

theorem winBegun_moves (s : State) (w : Nat) : Moves [.regs, .cycle, .cmp] s (s.winBegun w) := .put (.put (.record (.refl s) (by rfl)))

theorem winPowered_work (s : State) (w : Nat) : WinWork w s (s.winPowered w) :=
  ((setCmp_work s w 0 _ true).trans (setCmp_work _ w 1 _ true)).trans (setCmp_work _ w 2 _ true)

/-- The power-up states leave the window's other fields. -/
theorem winPowered_field (s : State) (w : Nat) {g : Fld} (ha : g.addr = R.CMP_WINw_STAT w) (hg : 3 ≤ g.lo) : (s.winPowered w).get g = s.get g := by
  rw [winPowered, setCmp_field _ (by decide) _ _ ha (.inr hg), setCmp_field _ (by decide) _ _ ha (.inr (by omega)),
    setCmp_field _ (by decide) _ _ ha (.inr (by omega))]

theorem winMonitorStart_gives (w : Fin 48) (hs : s.Shaped) (hruns : s.coreRuns = true) (hmode : s.get (F.CMP_WINw_CFG_MODE w) ≠ 0)
    (hr : (s.win w).running = false) : Completes (.windowMonitorStart w) s fun t =>
      (t.win w).running = true ∧ (t.win w).settleEnd = s.count + 800 ∧ t.on (F.CMP_WINw_STAT_SETTLING w) = true ∧
      t.on (F.CMP_WINw_STAT_UNRESOLVED w) = false ∧ t.cmpActive w 2 = (s.get (F.CMP_WINw_CFG_PUS w)).testBit 2 ∧ t.clk = s.clk := by
  have hkeep : s.mode ≠ .keep := fun h => by simp [coreRuns, h] at hruns
  have heq : (if s.sys.phase == .run && s.mode != .keep && s.get (F.CMP_WINw_CFG_MODE w) != 0 && !(s.win w).running then s.winStart w
      else s) = ((s.winBegun w).winPowered w).cmpSummary := by
    rw [if_pos (by simp [coreRuns_phase hruns, hkeep, hmode, hr]), winStart_eq]
  have hstat (g : Fld) (ha : g.addr = R.CMP_WINw_STAT w) : ((s.winBegun w).winPowered w).cmpSummary.get g = ((s.winBegun w).winPowered w).get g :=
    get_of_rd (by rw [ha]; exact cmpSummary_stat _ w)
  have hwork := winPowered_work (s.winBegun w) w
  have hsum := cmpSummary_work ((s.winBegun w).winPowered w) w
  have hwin : (((s.winBegun w).winPowered w).cmpSummary).win w = { running := true, settleEnd := s.count + 800, decideAt := none } := by
    have hcmp : (s.winBegun w).cmp = (s.modWin w (fun _ => { running := true, settleEnd := s.count + 800, decideAt := none })).cmp :=
      (clr_cmp ..).trans (set1_cmp ..)
    rw [hsum.win, hwork.win, win, hcmp]
    exact nth_upd_same _ _ _ _ (w.isLt.trans_eq hs.wins.symm)
  have hpus : (s.winBegun w).get (F.CMP_WINw_CFG_PUS w) = s.get (F.CMP_WINw_CFG_PUS w) := by
    have hne : R.CMP_WINw_CFG w ≠ R.CMP_WINw_STAT w := by simp only [R.CMP_WINw_CFG, R.CMP_WINw_STAT]; omega
    rw [winBegun, get_clr_other _ _ _ (by simp) (.inl hne), get_set1_other _ _ _ (by simp) (.inl hne)]
    exact get_congr (modWin_moves s w _).regs _
  refine ⟨_, congrArg Host.Outcome.next heq, by rw [hwin], by rw [hwin], ?_, ?_, ?_, hsum.clk.trans (hwork.clk.trans (winBegun_moves s w).clk)⟩
  · rw [on, hstat _ rfl, winPowered_field _ _ rfl (by simp), ← on, winBegun, on_clr_other _ _ _ (by simp) (.inr (by simp))]
    exact on_set1_same _ _ (by simp) (by simp)
  · rw [on, hstat _ rfl, winPowered_field _ _ rfl (by simp), ← on]
    exact on_clr_same _ _ (by simp)
  · rw [cmpActive, bit_congr (cmpSummary_stat _ w), ← hpus]
    exact setCmp_active _ (by decide) _ true

theorem settlingEnd_gives (w : Fin 48) (hruns : s.coreRuns = true) (hr : (s.win w).running = true) (hset : s.on (F.CMP_WINw_STAT_SETTLING w) = true)
    (hdue : s.due (s.win w).settleEnd = true) (hj : s.cmpJudge w 2 v = none) : Completes (.settlingEnd w v) s fun t =>
      t.on (F.CMP_WINw_STAT_SETTLING w) = false ∧ t.bit (R.CMP_WINw_STAT w) 6 = true ∧
      t.cmpActive w 2 = s.cmpActive w 2 ∧ t.clk = s.clk ∧ t.mem = s.mem := by
  have hfirst := (settleCmp_work s w v 0).trans (settleCmp_work (s.settleCmp w v 0) w v 1)
  have hceil : ((s.settleCmp w v 0).settleCmp w v 1).cmpActive w 2 = s.cmpActive w 2 :=
    (settleCmp_ceil _ w v (by decide)).trans (settleCmp_ceil s w v (by decide))
  have hlast : ((s.settleCmp w v 0).settleCmp w v 1).settleCmp w v 2 =
      ((s.settleCmp w v 0).settleCmp w v 1).putBit (R.CMP_WINw_STAT w) (4 + 2) true := settleCmp_none ((hfirst.judge 2 v).trans hj)
  have hdec : s.settlingEnd w v = ((((((s.settleCmp w v 0).settleCmp w v 1).settleCmp w v 2).clr (F.CMP_WINw_STAT_SETTLING w)).cmpSummary).winWakes w) := by
    rw [settlingEnd, hr, hset, hdue]
    rfl
  rw [hlast] at hdec
  generalize (s.settleCmp w v 0).settleCmp w v 1 = u at *
  have hclr : WinWork w (u.putBit (R.CMP_WINw_STAT w) (4 + 2) true) ((u.putBit (R.CMP_WINw_STAT w) (4 + 2) true).clr (F.CMP_WINw_STAT_SETTLING w)) :=
    .of (.clr (.refl _) (.inl rfl)) (.put (.refl _))
  have hwork := (hfirst.trans (winStat_work u w (4 + 2) true)).trans hclr
  have hsum := cmpSummary_work ((u.putBit (R.CMP_WINw_STAT w) (4 + 2) true).clr (F.CMP_WINw_STAT_SETTLING w)) w
  rw [winSummary_wakes hwork (coreRuns_not_doze hruns)] at hdec
  have hstat := cmpSummary_stat ((u.putBit (R.CMP_WINw_STAT w) (4 + 2) true).clr (F.CMP_WINw_STAT_SETTLING w)) w
  refine ⟨_, congrArg Host.Outcome.next hdec, ?_, ?_, ?_, hsum.clk.trans hwork.clk, hsum.mem.trans hwork.mem⟩
  · exact (on_of_rd (f := F.CMP_WINw_STAT_SETTLING w) hstat).trans (on_clr_same _ _ (by simp))
  · rw [bit_congr hstat, bit_eq_on, on_clr_other _ _ _ (by simp) (.inr (by simp))]
    exact bit_putBit_same u _ true (by decide)
  · rw [cmpActive, bit_congr hstat, bit_eq_on, on_clr_other _ _ _ (by simp) (.inr (by simp)), ← bit_eq_on, bit_putBit_other _ _ _ (by decide) (by decide)]
    exact hceil

end State

/-- Settles O25: each clause is the lemma about its command above. -/
theorem windowComparators : Obligations.WindowComparators := by
  unfold Obligations.WindowComparators
  exact ⟨fun _ w _ _ hc hj hoff hsw => State.ceilCrossing_gives w hc hj hoff hsw,
    fun _ w i _ _ hc hj hm => State.comparatorChange_gives w i hc hj hm,
    fun _ w hs hruns hc hr hsmp => State.samplingTick_gives w hs hruns hc hr hsmp,
    fun _ w _ _ e hs hruns he hdue hset hj => State.sampledDecision_gives w e hs hruns he hdue hset hj,
    fun _ w hs hruns hmode hr => State.winMonitorStart_gives w hs hruns hmode hr,
    fun _ w _ hruns hr hset hdue hj => State.settlingEnd_gives w hruns hr hset hdue hj⟩

end Sys2Proof.Machine

/-! What an operation of the safety island brings about beside the island: LIMP, and the latency policy (R309, R378, R379). -/

namespace Sys2Proof.Machine

set_option Elab.async false
namespace State

variable {s t u : State} {m : Mirror}

/-! ### LIMP from a mode in which CORE runs -/

/-- The parts that the entry into LIMP may change. -/
abbrev leadParts : List Part := [.regs, .cycle, .loom, .gdp, .rtc, .mram, .events, .stew, .draws, .tst, .mill, .tasks]

/-- A step that leaves the island, the phase and SYS_LTR alone, and drops no event. -/
structure Leads (s t : State) : Prop where
  moves : Moves leadParts s t
  lasts : s.EventsLast t
  ltr : t.rd R.SYS_LTR = s.rd R.SYS_LTR

namespace Leads

theorem refl (s : State) : s.Leads s := ⟨.refl s, .refl s, rfl⟩

theorem trans (h : s.Leads t) (h' : t.Leads u) : s.Leads u := ⟨h.moves.trans h'.moves, h.lasts.trans h'.lasts, h'.ltr.trans h.ltr⟩

theorem ite {p : Prop} [Decidable p] (ht : s.Leads t) (hu : s.Leads u) : s.Leads (if p then t else u) := by
  split <;> assumption

/-- A step that raises nothing. -/
theorem quiet {F : List Part} {P : Nat → Prop} (hm : Moves F s t) (hw : s.Writes P t) (hP : ¬ P R.SYS_LTR) (he : F.elem .events = false := by decide)
    (hF : F ⊆ leadParts := by decide) : s.Leads t :=
  ⟨hm.mono hF, EventsLast.same (.refl s) (hm.events he), hw.rd hP⟩

theorem loud {F : List Part} {P : Nat → Prop} (hm : Moves F s t) (hw : s.Writes P t) (hP : ¬ P R.SYS_LTR) (hl : s.EventsLast t)
    (hF : F ⊆ leadParts := by decide) : s.Leads t := ⟨hm.mono hF, hl, hw.rd hP⟩

theorem put (h : s.Leads t) {f : Fld} {n : Nat} (hf : f.addr ≠ R.SYS_LTR) : s.Leads (t.put f n) :=
  h.trans (.quiet (F := [.regs, .cycle]) (P := (· = f.addr)) (.put (.refl t)) (.put (.refl t) rfl) hf.symm)

theorem forAll (h : s.Leads t) {n : Nat} {f : Nat → State → State} (hf : ∀ i u, i < n → s.Leads u → s.Leads (f i u)) : s.Leads (t.forAll n f) :=
  forAll_rec (p := fun _ u => s.Leads u) h fun i u hi hu => hf i u hi hu

theorem raise (h : s.Leads t) (src : Nat) : s.Leads (t.raise src) := ⟨h.moves.raise, h.lasts.raise src, (rd_raise ..).trans h.ltr⟩

theorem log (h : s.Leads t) {code block : Nat} {sev : Severity} {data : List Byte} : s.Leads (t.log code block sev data) :=
  ⟨h.moves.log, h.lasts.log, (rd_congr (log_regs ..) _).trans h.ltr⟩

theorem safe (h : s.Leads t) : t.safe = s.safe := h.moves.safe
theorem sys (h : s.Leads t) : t.sys = s.sys := h.moves.sys

end Leads

theorem SYS_LTR_not_block {i : Nat} (hi : 1 ≤ i) : ¬ inBlock i R.SYS_LTR := fun h => by
  have := h.1
  simp only [blockBase, R.SYS_LTR] at this
  omega

theorem not_LTR_of_aside : ¬ asideRegs R.SYS_LTR := by decide

theorem restLeg_leads (s : State) (l : Nat) (edge : Bool) : s.Leads (s.restLeg l edge) :=
  .quiet (restLeg_moves s l edge) (restLeg_writes s l edge) (SYS_LTR_not_block (by decide))

theorem clearCarries_leads (s : State) (l : Nat) : s.Leads (s.clearCarries l) :=
  .quiet (clearCarries_moves s l) (clearCarries_writes s l) (by simp only [R.SYS_LTR, R.LOOM_LEGl_STAT]; omega)

theorem leaveService_leads (s : State) : s.Leads s.leaveService := by
  unfold leaveService
  exact .put (.forAll (.refl s) fun k u _ hu => hu.put (by simp only [R.SYS_LTR, R.TST_DLYk]; omega)) (by decide)

theorem modeLeft_leads (s : State) (dest : Mode) : s.Leads (s.modeLeft dest) := by
  have h : s.Leads (if s.mode = .service then s.leaveService else s) := .ite (leaveService_leads s) (.refl s)
  unfold modeLeft
  exact .ite (h.forAll fun l u _ hu => hu.trans ((restLeg_leads u l true).trans (clearCarries_leads _ l))) h

theorem millHalt_moves (s : State) : Moves [.regs, .cycle, .mill] s s.millHalt := by
  unfold millHalt
  exact .put (.record (.refl s) (by rfl))

theorem millStop_moves (s : State) : Moves [.regs, .cycle, .mill, .tasks] s s.millStop := by
  unfold millStop
  exact ((millHalt_moves s).mono (by decide)).forAll fun k u hu => .put (.record hu (by rfl))

theorem millStop_leads (s : State) : s.Leads s.millStop := .quiet (millStop_moves s) (millStop_aside s).writes not_LTR_of_aside

theorem brkOn_lasts (s : State) (n : Nat) : s.EventsLast (s.brkOn n) := by
  have hm := (onMarked_moves s n).events
  cases h : s.on (F.GDP_LINKn_STAT_BRK_ON n) with
  | true => rw [brkOn, h, if_pos rfl]; exact .refl s
  | false => rw [brkOn_eq h]; exact (EventsLast.same (.refl s) ((put_events ..).trans hm)).raise _

theorem brkStep_lasts (s : State) (n : Nat) : s.EventsLast (s.brkStep n) := by
  unfold brkStep
  extract_lets -underBinder t
  have ht : s.EventsLast t := .same (.refl s) (putB_events ..)
  split
  · exact ht.trans (brkOn_lasts t n)
  · have hoff : s.EventsLast (t.brkOff n) := .same ht (brkOff_moves t n).events
    exact .ite (.same hoff (set1_events ..)) hoff
  · exact ht

theorem brkStepAll_leads (s : State) : s.Leads s.brkStepAll :=
  .loud (brkStepAll_moves s) (brkStepAll_writes s) (by simp only [brkRegs, linkRegs, R.SYS_LTR, R.GDP_LINKn_STAT, R.GDP_STAT]; omega)
    ((brkStep_lasts s 0).trans (brkStep_lasts _ 1))

theorem gdRefreshAll_leads (s : State) : s.Leads s.gdRefreshAll :=
  .loud (gdRefreshAll_moves s) (gdRefreshAll_writes s) (SYS_LTR_not_block (by decide)) (gdRefreshAll_lasts s)

theorem recordMode_leads (s : State) (was dest : Mode) (cause : Nat) (byCommand : Bool) : s.Leads (s.recordMode was dest cause byCommand) := by
  have hlog : s.Leads (s.modeLogged was dest cause) := .log (.raise (.put (.put (.put (.refl s) (by decide)) (by decide)) (by decide)) _)
  rw [recordMode_eq]
  exact .ite hlog ⟨hlog.moves.attend, hlog.lasts.trans fun e he => attend_keeps _ _ e he, (rd_congr (attend_regs ..) _).trans hlog.ltr⟩

/-- From a mode in which CORE runs the entry into LIMP leads. -/
theorem enterLimp_leads (h : s.mode ≠ .doze) (cause : Nat) (byCommand : Bool) : s.Leads (s.enterMode .limp cause byCommand) := by
  have hstop : s.Leads (s.modeStops .limp) := (modeLeft_leads s .limp).trans (millStop_leads _)
  have hback : s.Leads (s.modeBack .limp) := by
    unfold modeBack
    rw [if_neg h]
    exact .put (.put hstop (by decide)) (by decide)
  rw [enterMode_eq, if_neg (by decide), if_neg h, modeFollowed, if_neg (fun hd => h hd.1)]
  exact ((hback.trans (recordMode_leads _ _ _ _ _)).trans (gdRefreshAll_leads _)).trans (brkStepAll_leads _)

theorem limpCaused_mode (s : State) (cause : Nat) : (s.limpCaused cause).mode = s.mode := by
  unfold limpCaused
  split
  · rfl
  · simp only [mode]
    rw [get_put_other _ F.SYS_MODE_LIMP_CAUSE F.SYS_MODE_MODE _ (by simp) (.inr (by simp))]

theorem limp_leads (h : s.mode ≠ .doze) (cause : Nat) : s.Leads (s.limp cause) := by
  have hcause : s.Leads (s.limpCaused cause) := .ite (.refl s) (.put (.refl s) (by decide))
  rw [limp_eq]
  exact .ite (hcause.trans (enterLimp_leads ((limpCaused_mode s cause).symm ▸ h) 7 false)) (.refl s)

/-! ### An operation of the island with what follows it (R309, R378, R379) -/

/-- The latency policy leaves a state alone in which it has nothing to decide. -/
theorem policy_rests (hm : s.mode ≠ .doze) (hltr : (s.rd R.SYS_LTR).toNat < 2000) : s.policy = s := by
  have hc : s.candidate = .ready := by
    unfold candidate
    rw [if_neg (by omega), if_neg (by omega)]
  unfold policy
  rw [hc]
  split
  · rfl
  · cases hmode : s.mode with
    | doze => exact absurd hmode hm
    | _ => rfl

/-- Where the policy rests, the island's operation leaves what it has done with the LIMP that it asks for. -/
theorem islandDoes_rests {f : State → State} (hm : (f s).limpIf.mode ≠ .doze) (hltr : ((f s).limpIf.rd R.SYS_LTR).toNat < 2000) :
    Moves [.sys] (f s).limpIf (s.islandDoes f) := by
  unfold islandDoes policyAfter
  dsimp only
  split
  · have hrest : (((f s).limpIf).modSys (fun x => { x with ltrWritten := false })).policy = ((f s).limpIf).modSys (fun x => { x with ltrWritten := false }) :=
      policy_rests hm hltr
    rw [hrest]
    exact modSys_moves _ _
  · exact .refl _

theorem limpIf_quiet (h : s.safe.limpDue = false) : s.limpIf = s := if_neg fun hd => Bool.false_ne_true (h.symm.trans hd.1)

end State
end Sys2Proof.Machine

/-! The inputs of a mirror of the safety island (R300, R301, R303, R304). -/

namespace Sys2Proof.Machine

set_option Elab.async false

/-- A fold over the numbers below `n` of which step `i` makes `q` of `before`: the steps before it keep the one, and the steps after it the other. -/
theorem foldl_range_turn {α : Type} {f : α → Nat → α} {a : α} {n i : Nat} (before q : α → Prop) (h0 : before a)
    (hbefore : ∀ j x, j ≠ i → before x → before (f x j)) (hstep : ∀ x, before x → q (f x i)) (hafter : ∀ j x, j ≠ i → q x → q (f x j)) (hi : i < n) :
    q ((List.range n).foldl f a) := by
  have hrec : ∀ m, (m ≤ i → before ((List.range m).foldl f a)) ∧ (i < m → q ((List.range m).foldl f a)) := by
    intro m
    induction m with
    | zero => exact ⟨fun _ => h0, fun h => absurd h (Nat.not_lt_zero i)⟩
    | succ m ih =>
      rw [List.range_succ, List.foldl_append]
      refine ⟨fun hle => hbefore m _ (by omega) (ih.1 (by omega)), fun hlt => ?_⟩
      by_cases hmi : m = i
      · exact hmi ▸ hstep _ (hmi ▸ ih.1 hmi.le)
      · exact hafter m _ hmi (ih.2 (by omega))
  exact (hrec n).2 hi

/-! ### One channel's sample (R301) -/

namespace MirrorSt

variable {x y : MirrorSt} {m : Mirror} {level : Bool} {n k : Nat}

/-- The samples in a row that differ from channel `n`'s filtered level, with this one; none while its pulse's hold lasts. -/
def differing (x : MirrorSt) (m : Mirror) (level : Bool) (n : Nat) : Nat :=
  if (pairPulsed x.block m n && decide (x.time < nth x.holds (pairPulse x.block m n) 0)) || level == x.filt.getLsbD n then 0 else nth x.counts n 0 + 1

/-- The levels with channel `n` at a level. -/
def withLevel (w : BitVec 12) (level : Bool) (n : Nat) : BitVec 12 := if level then w ||| (1#12 <<< n) else w &&& ~~~ (1#12 <<< n)

theorem getLsbD_withLevel_same (w : BitVec 12) (level : Bool) (hn : n < 12) : (withLevel w level n).getLsbD n = level := by
  unfold withLevel
  cases level <;> simp [hn]

theorem getLsbD_withLevel_other (w : BitVec 12) (level : Bool) (hk : k ≠ n) : (withLevel w level n).getLsbD k = w.getLsbD k := by
  have hbit : (1#12 <<< n).getLsbD k = false := by
    rw [BitVec.getLsbD_shiftLeft, BitVec.getLsbD_one]
    simp
    omega
  unfold withLevel
  cases level
  · rw [if_neg Bool.false_ne_true, BitVec.getLsbD_and, BitVec.getLsbD_not, hbit]
    by_cases h12 : k < 12
    · simp [h12]
    · simp [BitVec.getLsbD_of_ge w k (by omega)]
  · rw [if_pos rfl, BitVec.getLsbD_or, hbit, Bool.or_false]

/-- A sample changes the filtered level once it has differed for long enough, and the count. -/
theorem sampleChannel_eq (x : MirrorSt) (m : Mirror) (level : Bool) (n : Nat) : ∃ h r, x.sampleChannel m level n = { x with
    high := h, raw := r
    filt := if pairDeb x.block n * 100 < x.differing m level n then withLevel x.filt level n else x.filt
    counts := upd x.counts n (fun _ => if pairDeb x.block n * 100 < x.differing m level n then 0 else x.differing m level n) } := by
  have hshape : ∃ h r, x.sampleChannel m level n = if pairDeb x.block n * 100 < x.differing m level n then
      { x with high := h, raw := r, filt := withLevel x.filt level n, counts := upd x.counts n (fun _ => 0) }
      else { x with high := h, raw := r, counts := upd x.counts n (fun _ => x.differing m level n) } := ⟨_, _, rfl⟩
  obtain ⟨h, r, he⟩ := hshape
  refine ⟨h, r, he.trans ?_⟩
  by_cases hc : pairDeb x.block n * 100 < x.differing m level n
  · rw [if_pos hc, if_pos hc, if_pos hc]
  · rw [if_neg hc, if_neg hc, if_neg hc]

theorem block_congr (hl : y.live = x.live) (hs : y.store = x.store) : y.block = x.block := by
  unfold block
  rw [hl, hs]

/-- What decides of channel `n`, as the samples of the other channels leave it. -/
structure ChannelStands (n : Nat) (x y : MirrorSt) : Prop where
  block : y.block = x.block
  filt : y.filt.getLsbD n = x.filt.getLsbD n
  count : nth y.counts n 0 = nth x.counts n 0
  length : y.counts.length = x.counts.length

theorem ChannelStands.sample (h : ChannelStands n x y) (m : Mirror) (level : Bool) (hk : k ≠ n) : ChannelStands n x (y.sampleChannel m level k) := by
  obtain ⟨hi, r, he⟩ := sampleChannel_eq y m level k
  rw [he]
  refine ⟨(block_congr (by rfl) (by rfl)).trans h.block, ?_, (nth_upd_other _ _ _ _ _ hk).trans h.count, (length_upd ..).trans h.length⟩
  dsimp only
  split
  · exact (getLsbD_withLevel_other _ _ hk.symm).trans h.filt
  · exact h.filt

/-- What a sample of channel `n` makes of its level and its count. -/
structure ChannelSampled (n : Nat) (m : Mirror) (level : Bool) (x y : MirrorSt) : Prop where
  same : level = x.filt.getLsbD n → y.filt.getLsbD n = x.filt.getLsbD n
  turned : level ≠ x.filt.getLsbD n → pairPulsed x.block m n = false → pairDeb x.block n * 100 ≤ nth x.counts n 0 → y.filt.getLsbD n = level
  counted : level ≠ x.filt.getLsbD n → pairPulsed x.block m n = false → nth x.counts n 0 < pairDeb x.block n * 100 →
    y.filt.getLsbD n = x.filt.getLsbD n ∧ nth y.counts n 0 = nth x.counts n 0 + 1

theorem ChannelStands.sampled (h : ChannelStands n x y) (m : Mirror) (level : Bool) (hn : n < 12) (hlen : n < x.counts.length) :
    ChannelSampled n m level x (y.sampleChannel m level n) := by
  obtain ⟨hi, r, he⟩ := sampleChannel_eq y m level n
  have hdiffer : level ≠ x.filt.getLsbD n → pairPulsed x.block m n = false → y.differing m level n = nth x.counts n 0 + 1 := fun hne hp => by
    have hb : (level == x.filt.getLsbD n) = false := beq_eq_false_iff_ne.mpr hne
    rw [differing, h.block, hp, h.filt, hb, h.count]
    rfl
  have hsame : level = x.filt.getLsbD n → y.differing m level n = 0 := fun heq => by
    have hb : (level == x.filt.getLsbD n) = true := beq_iff_eq.mpr heq
    rw [differing, h.filt, hb, Bool.or_true, if_pos rfl]
  rw [he]
  refine ⟨fun heq => ?_, fun hne hp hle => ?_, fun hne hp hlt => ⟨?_, ?_⟩⟩
  · dsimp only
    rw [hsame heq, if_neg (by omega)]
    exact h.filt
  · dsimp only
    rw [hdiffer hne hp, h.block, if_pos (by omega)]
    exact getLsbD_withLevel_same _ _ hn
  · dsimp only
    rw [hdiffer hne hp, h.block, if_neg (by omega)]
    exact h.filt
  · rw [show nth (_ : MirrorSt).counts n 0 = _ from nth_upd_same _ _ _ _ (hlen.trans_eq h.length.symm), hdiffer hne hp, h.block, if_neg (by omega)]

theorem ChannelSampled.keep {z : MirrorSt} (h : ChannelSampled n m level x y) (hf : z.filt.getLsbD n = y.filt.getLsbD n) (hc : nth z.counts n 0 = nth y.counts n 0) :
    ChannelSampled n m level x z :=
  ⟨fun h1 => hf.trans (h.same h1), fun h1 h2 h3 => hf.trans (h.turned h1 h2 h3), fun h1 h2 h3 => ⟨hf.trans (h.counted h1 h2 h3).1, hc.trans (h.counted h1 h2 h3).2⟩⟩

/-- A sample of all twelve channels. -/
def sampleAll (x : MirrorSt) (m : Mirror) (levels : BitVec 12) : MirrorSt :=
  (List.range 12).foldl (fun z n => z.sampleChannel m (levels.getLsbD n) n) { x with time := x.time + 1 }

theorem sampleAll_time (x : MirrorSt) (m : Mirror) (levels : BitVec 12) : (x.sampleAll m levels).time = x.time + 1 := by
  have hrec : ∀ (l : List Nat) (z : MirrorSt), (l.foldl (fun (z : MirrorSt) n => z.sampleChannel m (levels.getLsbD n) n) z).time = z.time := by
    intro l
    induction l with
    | nil => exact fun _ => rfl
    | cons n l ih =>
      intro z
      obtain ⟨h, r, he⟩ := sampleChannel_eq z m (levels.getLsbD n) n
      have htime : (z.sampleChannel m (levels.getLsbD n) n).time = z.time := by rw [he]
      exact (ih _).trans htime
  exact hrec (List.range 12) _

theorem sampleAll_channel (x : MirrorSt) (m : Mirror) (levels : BitVec 12) (hn : n < 12) (hlen : n < x.counts.length) :
    ChannelSampled n m (levels.getLsbD n) x (x.sampleAll m levels) := by
  refine foldl_range_turn (ChannelStands n x) (ChannelSampled n m (levels.getLsbD n) x) ⟨block_congr (by rfl) (by rfl), rfl, rfl, rfl⟩
    (fun j y hj hy => hy.sample m _ hj) (fun y hy => hy.sampled m _ hn hlen) (fun j y hj hy => ?_) hn
  obtain ⟨h, r, he⟩ := sampleChannel_eq y m (levels.getLsbD j) j
  rw [he]
  refine hy.keep ?_ (nth_upd_other _ _ _ _ _ hj)
  dsimp only
  split
  · exact getLsbD_withLevel_other _ _ hj.symm
  · rfl

end MirrorSt
end Sys2Proof.Machine

/-! Operations of the safety island on its inputs: what they leave alone, and what they give (R300, R301, R303, R304). -/

namespace Sys2Proof.Machine

set_option Elab.async false
namespace State

variable {s t u : State} {m : Mirror} {n : Nat}

/-! ### The mirrors -/

theorem mir_modMir_same (s : State) (m : Mirror) (f : MirrorSt → MirrorSt) : (s.modMir m f).mir m = f (s.mir m) := by cases m <;> rfl

theorem mir_modMir_other (s : State) (m : Mirror) (f : MirrorSt → MirrorSt) : (s.modMir m f).mir (otherMirror m) = s.mir (otherMirror m) := by
  cases m <;> rfl

theorem mir_congr (h : t.safe = s.safe) (m : Mirror) : t.mir m = s.mir m := by cases m <;> simp only [mir, h]

theorem modMir_moves (s : State) (m : Mirror) (f : MirrorSt → MirrorSt) : Moves [.safe] s (s.modMir m f) := by
  cases m
  · exact .record (.refl s) (by rfl)
  · exact .record (.refl s) (by rfl)

theorem modSafe_moves (s : State) (f : Safe → Safe) : Moves [.safe] s (s.modSafe f) := .record (.refl s) (by rfl)

/-- What the island notes of its common state beside the mirrors stays at a change of a mirror. -/
theorem modMir_limpDue (s : State) (m : Mirror) (f : MirrorSt → MirrorSt) : (s.modMir m f).safe.limpDue = s.safe.limpDue := by cases m <;> rfl

theorem shaped_mir (hs : s.Shaped) (m : Mirror) : (s.mir m).Shaped := by
  cases m
  · exact hs.mirA
  · exact hs.mirB

/-! ### Work inside the island -/

/-- Work of the island that reaches nothing beside its own registers, its state and the events that it raises. -/
structure IsleWork (s t : State) : Prop where
  moves : Moves [.regs, .cycle, .safe, .events, .stew] s t
  regs : s.Writes (inBlock 12) t
  lasts : s.EventsLast t
  limpDue : t.safe.limpDue = s.safe.limpDue

namespace IsleWork

theorem refl (s : State) : s.IsleWork s := ⟨.refl s, .refl s, .refl s, rfl⟩
theorem trans (h : s.IsleWork t) (h' : t.IsleWork u) : s.IsleWork u :=
  ⟨h.moves.trans h'.moves, h.regs.trans h'.regs, h.lasts.trans h'.lasts, h'.limpDue.trans h.limpDue⟩
theorem ite {p : Prop} [Decidable p] (ht : s.IsleWork t) (hu : s.IsleWork u) : s.IsleWork (if p then t else u) := by
  split <;> assumption
theorem modMir (h : s.IsleWork t) (m : Mirror) (f : MirrorSt → MirrorSt) : s.IsleWork (t.modMir m f) :=
  h.trans ⟨(modMir_moves t m f).mono (by decide), .of_regs (modMir_moves t m f).regs, EventsLast.same (.refl t) (modMir_moves t m f).events, modMir_limpDue t m f⟩
theorem incS (h : s.IsleWork t) {f : Fld} (hf : inBlock 12 f.addr) : s.IsleWork (t.incS f) :=
  h.trans ⟨.put (.refl t), .incS (.refl t) hf, EventsLast.same (.refl t) (incS_events ..), rfl⟩
theorem raise (h : s.IsleWork t) (src : Nat) : s.IsleWork (t.raise src) :=
  h.trans ⟨.raise (.refl t), .raise (.refl t), (EventsLast.refl t).raise src, congrArg Safe.limpDue (raise_safe ..)⟩
theorem forAll (h : s.IsleWork t) {k : Nat} {f : Nat → State → State} (hf : ∀ i u, s.IsleWork u → s.IsleWork (f i u)) : s.IsleWork (t.forAll k f) :=
  forAll_rec (p := fun _ u => s.IsleWork u) h fun i u _ hu => hf i u hu

theorem mode (h : s.IsleWork t) : t.mode = s.mode := mode_of_rd (h.regs.rd (not_inBlock_of_lt (by decide)))
theorem coreRuns (h : s.IsleWork t) : t.coreRuns = s.coreRuns := coreRuns_of_rd h.moves.sys (h.regs.rd (not_inBlock_of_lt (by decide)))
theorem ltr (h : s.IsleWork t) : t.rd R.SYS_LTR = s.rd R.SYS_LTR := h.regs.rd (not_inBlock_of_lt (by decide))

/-- The registers of the other blocks stay. -/
theorem outside (h : s.IsleWork t) {b : Nat} (hb : blockIndex b ≠ 12) : t.rd b = s.rd b := h.regs.rd fun hin => hb (by
  simp only [inBlock, blockBase] at hin
  unfold blockIndex
  omega)

end IsleWork

theorem safeShow_writes (s : State) : s.Writes (inBlock 12) s.safeShow := by
  have hin (b : Nat) (h : R.SAFE_STAT ≤ b ∧ b ≤ R.SAFE_CNT) : inBlock 12 b := by
    simp only [inBlock, blockBase, R.SAFE_STAT, R.SAFE_CNT] at h ⊢
    omega
  unfold safeShow
  extract_lets
  exact .wr (.wr (.wr (.put (.put (.wr (.wr (.wr (.wr (.wr (.wr (.wr (.refl s) (hin _ (by decide))) (hin _ (by decide))) (hin _ (by decide)))
    (hin _ (by decide))) (hin _ (by decide))) (hin _ (by decide))) (hin _ (by decide))) (hin _ (by decide))) (hin _ (by decide))) (hin _ (by decide)))
    (hin _ (by decide))) (hin _ (by decide))

theorem safeShow_moves (s : State) : Moves [.regs, .cycle] s s.safeShow := by
  unfold safeShow
  extract_lets
  exact .wr (.wr (.wr (.put (.put (.wr (.wr (.wr (.wr (.wr (.wr (.wr (.refl s))))))))))))

theorem safeShow_work (s : State) : s.IsleWork s.safeShow :=
  ⟨(safeShow_moves s).mono (by decide), safeShow_writes s, EventsLast.same (.refl s) (safeShow_moves s).events, congrArg Safe.limpDue (safeShow_moves s).safe⟩

theorem safeShow_mir (s : State) (m : Mirror) : s.safeShow.mir m = s.mir m := mir_congr (safeShow_moves s).safe m

/-- Where the policy rests and no LIMP is due, an operation of the island ends with what its work leaves. -/
theorem islandDoes_work {f : State → State} (h : s.IsleWork (f s)) (hr : s.policyRests) (hd : s.safe.limpDue = false) : Moves [.sys] (f s) (s.islandDoes f) := by
  have hlimp : (f s).limpIf = f s := limpIf_quiet (h.limpDue.trans hd)
  have hrest := islandDoes_rests (s := s) (f := f) (by rw [hlimp, h.mode]; exact coreRuns_not_doze hr.1) (by rw [hlimp, h.ltr]; exact hr.2)
  rwa [hlimp] at hrest

/-- What an operation on mirror `m` keeps. -/
structure InputKeeps (s : State) (m : Mirror) (t : State) : Prop where
  other : t.mir (otherMirror m) = s.mir (otherMirror m)
  regs : ∀ b, blockIndex b ≠ 12 → t.rd b = s.rd b
  clock : s.clockKept t
  loom : t.loom = s.loom
  mem : t.mem = s.mem

theorem InputKeeps.of (h : s.IsleWork t) (ho : t.mir (otherMirror m) = s.mir (otherMirror m)) : InputKeeps s m t :=
  ⟨ho, fun _ hb => h.outside hb, h.moves.clockKept, h.moves.loom, h.moves.mem⟩

theorem InputKeeps.after (h : InputKeeps s m t) (hm : Moves [.sys] t u) : InputKeeps s m u := by
  obtain ⟨r, hr⟩ := h.clock
  exact ⟨(mir_congr hm.safe _).trans h.other, fun b hb => (rd_congr hm.regs b).trans (h.regs b hb), ⟨r, hm.clk.trans hr⟩, hm.loom.trans h.loom, hm.mem.trans h.mem⟩

theorem InputKeeps.all (h : InputKeeps s m t) : t.mir (otherMirror m) = s.mir (otherMirror m) ∧ (∀ b, blockIndex b ≠ 12 → t.rd b = s.rd b) ∧ s.clockKept t ∧
    t.loom = s.loom ∧ t.mem = s.mem := ⟨h.other, h.regs, h.clock, h.loom, h.mem⟩

/-! ### Samples and test pulses (R300, R301) -/

theorem mirRuns_of (hd : (s.mir m).dead = false) (hr : s.coreRuns = true) : s.mirRuns m = true := by simp [mirRuns, hd, coreRuns_phase hr]

/-- A change of one mirror that the window then shows. -/
theorem shown_work (s : State) (m : Mirror) (f : MirrorSt → MirrorSt) : s.IsleWork (s.modMir m f).safeShow :=
  ((IsleWork.refl s).modMir m f).trans (safeShow_work _)

theorem shown_mir (s : State) (m : Mirror) (f : MirrorSt → MirrorSt) : ((s.modMir m f).safeShow).mir m = f (s.mir m) :=
  (safeShow_mir _ m).trans (mir_modMir_same s m f)

theorem shown_keeps (s : State) (m : Mirror) (f : MirrorSt → MirrorSt) : InputKeeps s m (s.modMir m f).safeShow :=
  .of (shown_work s m f) ((safeShow_mir _ _).trans (mir_modMir_other s m f))

theorem inputSample_gives (m : Mirror) (levels : BitVec 12) (hs : s.Shaped) (hr : s.policyRests) (hd : (s.mir m).dead = false) :
    Completes (.inputSample m levels) s fun t => (t.mir m).time = (s.mir m).time + 1 ∧ InputKeeps s m t ∧
      ∀ n : Fin 12, (s.mir m).ChannelSampled n m (levels.getLsbD n) (t.mir m) := by
  have heq : s.inputSample m levels = (s.modMir m (fun x => x.sampleAll m levels)).safeShow := by
    rw [inputSample, mirRuns_of hd hr.1, if_pos rfl]
    rfl
  refine ⟨_, congrArg Host.Outcome.next heq, ?_, shown_keeps s m _, fun n => ?_⟩
  · rw [shown_mir]
    exact MirrorSt.sampleAll_time _ m levels
  · rw [shown_mir]
    exact MirrorSt.sampleAll_channel _ m levels n.isLt (n.isLt.trans_eq (shaped_mir hs m).counts.symm)

end State
end Sys2Proof.Machine

/-! Test pulses, discrepancies and over-voltage of the safety island (R300, R301, R303, R304). -/

namespace Sys2Proof.Machine

set_option Elab.async false

/-- A mirror that holds an input fault of pair `n`. -/
def MirrorSt.faulted (x : MirrorSt) (n : Nat) (pulse : Bool) : MirrorSt := { x with
  tpf := if pulse then x.tpf ||| (1#12 <<< n) else x.tpf
  discf := if pulse then x.discf else x.discf ||| (1#12 <<< n)
  cycled := x.cycled &&& ~~~ (1#12 <<< n), returned := x.returned &&& ~~~ (1#12 <<< n) }

/-- A mirror that holds no input fault of pair `n`. -/
def MirrorSt.healed (x : MirrorSt) (n : Nat) : MirrorSt := { x with
  tpf := x.tpf &&& ~~~ (1#12 <<< n), discf := x.discf &&& ~~~ (1#12 <<< n), returned := x.returned &&& ~~~ (1#12 <<< n) }

theorem getLsbD_bit12 (n i : Nat) (hn : n < 12) : (1#12 <<< n).getLsbD i = decide (i = n) := by
  rw [BitVec.getLsbD_shiftLeft, BitVec.getLsbD_one]
  by_cases h : i = n
  · simp [h, hn]
  · simp [h]
    omega

theorem MirrorSt.healed_inFault (x : MirrorSt) (hn : n < 12) : (x.healed n).inFault n = false := by
  simp [MirrorSt.inFault, MirrorSt.healed, hn]

namespace State

variable {s t u : State} {m : Mirror} {n k : Nat}

/-! ### Input faults (R303) -/

/-- Both mirrors hold an input fault of pair `n`. -/
def bothFaulted (s : State) (n : Nat) (pulse : Bool) : State := (s.modMir .a (fun x => x.faulted n pulse)).modMir .b (fun x => x.faulted n pulse)

/-- No fault of this kind of pair `n` stands. -/
def faultFresh (s : State) (n : Nat) (pulse : Bool) : Bool :=
  !(if pulse then s.safe.a.tpf.getLsbD n || s.safe.b.tpf.getLsbD n else s.safe.a.discf.getLsbD n || s.safe.b.discf.getLsbD n)

theorem inputFault_eq (s : State) (n : Nat) (pulse : Bool) : s.inputFault n pulse =
    if s.faultFresh n pulse then ((s.bothFaulted n pulse).incS F.SAFE_CNT_FAULTS).raise 0xF4 else s.bothFaulted n pulse := rfl

theorem bothFaulted_work (s : State) (n : Nat) (pulse : Bool) : s.IsleWork (s.bothFaulted n pulse) := ((IsleWork.refl s).modMir _ _).modMir _ _

theorem SAFE_CNT_in : inBlock 12 R.SAFE_CNT := by
  simp only [inBlock, blockBase, R.SAFE_CNT]
  omega

theorem inputFault_work (s : State) (n : Nat) (pulse : Bool) : s.IsleWork (s.inputFault n pulse) := by
  rw [inputFault_eq]
  exact .ite (((bothFaulted_work s n pulse).incS (f := F.SAFE_CNT_FAULTS) SAFE_CNT_in).raise _) (bothFaulted_work s n pulse)

theorem inputFault_safe (s : State) (n : Nat) (pulse : Bool) : (s.inputFault n pulse).safe = (s.bothFaulted n pulse).safe := by
  rw [inputFault_eq]
  split
  · exact (raise_safe ..).trans (incS_safe ..)
  · rfl

theorem inputFault_mir (s : State) (n : Nat) (pulse : Bool) (m : Mirror) : (s.inputFault n pulse).mir m = (s.mir m).faulted n pulse := by
  rw [mir_congr (inputFault_safe s n pulse)]
  cases m <;> rfl

theorem inputFault_sent {pulse : Bool} (hf : s.faultFresh n pulse = true) (hr : s.coreRuns = true) : s.sent (s.inputFault n pulse) 0xF4 := by
  have hw := (bothFaulted_work s n pulse).incS (f := F.SAFE_CNT_FAULTS) SAFE_CNT_in
  rw [inputFault_eq, hf, if_pos rfl]
  exact sent_raise (hw.coreRuns.trans hr) hw.moves.clk _

/-! ### Test pulses (R300) -/

theorem testPulseStart_gives (m : Mirror) (k : Fin 2) (hs : s.Shaped) (hr : s.policyRests) (hd : (s.mir m).dead = false) (hact : (s.mir m).state = .active)
    (htpp : blockTpp (s.mir m).block ≠ 0)
    (hphase : (s.mir m).time % blockTpp (s.mir m).block = (if k.val = 0 then 0 else blockTpp (s.mir m).block / 2))
    (hnone : nth (s.mir m).pulses k none = none) : Completes (.testPulseStart m k) s fun t =>
      nth (t.mir m).pulses k none = some (s.mir m).time ∧ (t.mir m).stp k = false ∧ (t.mir m).outs = (s.mir m).outs ∧
      (t.mir m).filt = (s.mir m).filt ∧ InputKeeps s m t := by
  have hruns := mirRuns_of hd hr.1
  obtain ⟨f, heq, hf⟩ : ∃ f : MirrorSt → MirrorSt, s.pulseStart m k = (s.modMir m f).safeShow ∧
      ∀ y, (f y).pulses = upd y.pulses k (fun _ => some y.time) ∧ (f y).outs = y.outs ∧ (f y).filt = y.filt := by
    refine ⟨_, if_pos ?_, fun _ => ⟨rfl, rfl, rfl⟩⟩
    rw [hruns, hact, hphase, hnone]
    simp [htpp]
  obtain ⟨hp, ho, hfl⟩ := hf (s.mir m)
  have hpulse : nth ((s.modMir m f).safeShow.mir m).pulses k none = some (s.mir m).time := by
    rw [shown_mir, hp]
    exact nth_upd_same _ _ _ _ (k.isLt.trans_eq (shaped_mir hs m).pulses.symm)
  refine ⟨_, congrArg Host.Outcome.next heq, hpulse, ?_, by rw [shown_mir, ho], by rw [shown_mir, hfl], shown_keeps s m f⟩
  rw [MirrorSt.stp, hpulse]
  exact Bool.and_false _

/-- The pulse has ended in the mirror that gave it. -/
def pulseDone (s : State) (m : Mirror) (k : Nat) : State :=
  s.modMir m (fun y => { y with
    pulses := upd y.pulses k (fun _ => none)
    seenLow := y.seenLow ||| pick 12 (fun n => (pairPulsed (s.mir m).block m n && pairPulse (s.mir m).block m n == k) && !(s.mir m).high.getLsbD n) })

/-- The end of the pulse finds a fault of pair `n`. -/
def pulseFinds (s : State) (m : Mirror) (k n : Nat) : Bool :=
  (pairPulsed (s.mir m).block m n && pairPulse (s.mir m).block m n == k) && (s.mir m).judged.getLsbD n && (s.mir m).high.getLsbD n

/-- Pair `n`'s turn at the end of a pulse. -/
def pulseTurn (s : State) (m : Mirror) (k n : Nat) (u : State) : State := if s.pulseFinds m k n then u.inputFault n true else u

theorem pulseEnd_eq {t0 : Nat} (hruns : s.mirRuns m = true) (ht : nth (s.mir m).pulses k none = some t0) (hover : t0 + blockTpw (s.mir m).block ≤ (s.mir m).time) :
    s.pulseEnd m k = ((s.pulseDone m k).forAll 12 (s.pulseTurn m k)).safeShow := by
  unfold pulseEnd
  dsimp only
  rw [ht, hruns]
  exact if_pos (by simp [hover])

theorem pulseDone_work (s : State) (m : Mirror) (k : Nat) : s.IsleWork (s.pulseDone m k) := (IsleWork.refl s).modMir m _

theorem pulseTurn_work (s : State) (m : Mirror) (k n : Nat) (u : State) : u.IsleWork (s.pulseTurn m k n u) := .ite (inputFault_work u n true) (.refl u)

theorem pulseEnd_work (s : State) (m : Mirror) (k : Nat) : s.IsleWork ((s.pulseDone m k).forAll 12 (s.pulseTurn m k)).safeShow :=
  ((pulseDone_work s m k).forAll fun i u hu => hu.trans (pulseTurn_work s m k i u)).trans (safeShow_work _)

/-- The pairs' turns leave the pulses of every mirror. -/
theorem pulseTurns_pulses (s : State) (m : Mirror) (k : Nat) :
    (((s.pulseDone m k).forAll 12 (s.pulseTurn m k)).mir m).pulses = upd (s.mir m).pulses k (fun _ => none) := by
  refine forAll_rec (p := fun _ u => (u.mir m).pulses = upd (s.mir m).pulses k (fun _ => none)) ?_ fun n u _ hu => ?_
  · rw [pulseDone, mir_modMir_same]
  · unfold pulseTurn
    split
    · rw [inputFault_mir]
      exact hu
    · exact hu

theorem pulseDone_none (hs : s.Shaped) (hk : k < 2) : nth (upd (s.mir m).pulses k (fun _ => none)) k none = none :=
  nth_upd_same _ _ _ _ (hk.trans_eq (shaped_mir hs m).pulses.symm)

section PulseEnd

variable {t0 : Nat} (k : Fin 2) (hs : s.Shaped) (hr : s.policyRests) (hd : (s.mir m).dead = false) (hdue : s.safe.limpDue = false)
  (ht : nth (s.mir m).pulses k none = some t0) (hover : t0 + blockTpw (s.mir m).block ≤ (s.mir m).time)
include hs hr hd hdue ht hover

theorem testPulseEnd_clean (hclean : ∀ n : Fin 12, pairPulsed (s.mir m).block m n = true → pairPulse (s.mir m).block m n = k →
    ((s.mir m).judged &&& (s.mir m).high).getLsbD n = false) : Completes (.testPulseEnd m k) s fun t =>
      nth (t.mir m).pulses k none = none ∧ (t.mir m).tpf = (s.mir m).tpf ∧ (t.mir m).outs = (s.mir m).outs ∧ InputKeeps s m t := by
  have hno : ∀ n < 12, s.pulseFinds m k n = false := fun n hn => by
    cases hp : pairPulsed (s.mir m).block m n with
    | false => simp [pulseFinds, hp]
    | true =>
      by_cases hk : pairPulse (s.mir m).block m n = k
      · have := hclean ⟨n, hn⟩ hp hk
        rw [BitVec.getLsbD_and] at this
        rw [pulseFinds, Bool.and_assoc, this, Bool.and_false]
      · simp [pulseFinds, hk]
  have hturns : (s.pulseDone m k).forAll 12 (s.pulseTurn m k) = s.pulseDone m k :=
    forAll_rec (p := fun _ u => u = s.pulseDone m k) rfl fun n u hn hu => by
      rw [pulseTurn, hno n hn, if_neg Bool.false_ne_true]
      exact hu
  have heq : s.pulseEnd m k = (s.pulseDone m k).safeShow := (pulseEnd_eq (mirRuns_of hd hr.1) ht hover).trans (by rw [hturns])
  have hm : Moves [.sys] (s.pulseEnd m k) (s.islandDoes (·.pulseEnd m k)) :=
    islandDoes_work (f := (·.pulseEnd m k)) (by rw [heq]; exact shown_work s m _) hr hdue
  rw [heq] at hm
  have hmir : (s.islandDoes (·.pulseEnd m k)).mir m = (s.pulseDone m k).mir m := (mir_congr hm.safe m).trans (safeShow_mir _ m)
  have hdone : ((s.pulseDone m k).mir m).pulses = upd (s.mir m).pulses k (fun _ => none) ∧ ((s.pulseDone m k).mir m).tpf = (s.mir m).tpf ∧
      ((s.pulseDone m k).mir m).outs = (s.mir m).outs := by
    rw [pulseDone, mir_modMir_same]
    exact ⟨rfl, rfl, rfl⟩
  obtain ⟨h1, h2, h3⟩ := hdone
  refine ⟨_, rfl, ?_, by rw [hmir, h2], by rw [hmir, h3], (shown_keeps s m _).after hm⟩
  rw [hmir, h1]
  exact pulseDone_none hs k.isLt

theorem testPulseEnd_faults (n : Fin 12) (hp : pairPulsed (s.mir m).block m n = true) (hk : pairPulse (s.mir m).block m n = k)
    (hhigh : ((s.mir m).judged &&& (s.mir m).high).getLsbD n = true) (ha : s.safe.a.tpf.getLsbD n = false) (hb : s.safe.b.tpf.getLsbD n = false) :
    Completes (.testPulseEnd m k) s fun t =>
      nth (t.mir m).pulses k none = none ∧ t.safe.a.tpf.getLsbD n = true ∧ t.safe.b.tpf.getLsbD n = true ∧ s.sent t 0xF4 := by
  have hfinds : s.pulseFinds m k n = true := by
    rw [BitVec.getLsbD_and] at hhigh
    rw [pulseFinds, Bool.and_assoc, hhigh, hp, hk]
    simp
  have hturns : ((s.pulseDone m k).forAll 12 (s.pulseTurn m k)).safe.a.tpf.getLsbD n = true ∧
      ((s.pulseDone m k).forAll 12 (s.pulseTurn m k)).safe.b.tpf.getLsbD n = true ∧ s.sent ((s.pulseDone m k).forAll 12 (s.pulseTurn m k)) 0xF4 := by
    refine forAll_turn (fun u => s.IsleWork u ∧ (u.mir .a).tpf.getLsbD n = false ∧ (u.mir .b).tpf.getLsbD n = false)
      (fun u => (u.mir .a).tpf.getLsbD n = true ∧ (u.mir .b).tpf.getLsbD n = true ∧ s.sent u 0xF4) ?_ (fun j u hj hne ⟨hu, h1, h2⟩ => ?_)
      (fun u ⟨hu, h1, h2⟩ => ?_) (fun j u hj hne ⟨h1, h2, h3⟩ => ?_) n.isLt
    · refine ⟨pulseDone_work s m k, ?_⟩
      cases m
      · exact ⟨ha, hb⟩
      · exact ⟨ha, hb⟩
    · refine ⟨hu.trans (pulseTurn_work s m k j u), ?_⟩
      unfold pulseTurn
      split
      · have hbit : (1#12 <<< j).getLsbD n = false := by rw [getLsbD_bit12 j n hj]; simp; omega
        simp only [inputFault_mir, MirrorSt.faulted, if_true, BitVec.getLsbD_or, hbit, h1, h2, Bool.or_false, and_self]
      · exact ⟨h1, h2⟩
    · have hfresh : u.faultFresh n true = true := by
        have h1' : u.safe.a.tpf.getLsbD n = false := h1
        have h2' : u.safe.b.tpf.getLsbD n = false := h2
        rw [faultFresh, if_pos rfl, h1', h2']
        rfl
      have hbit : (1#12 <<< n.val).getLsbD n = true := by rw [getLsbD_bit12 n n n.isLt]; simp
      rw [pulseTurn, hfinds, if_pos rfl]
      simp only [inputFault_mir, MirrorSt.faulted, if_true, BitVec.getLsbD_or, hbit, Bool.or_true, true_and]
      exact sent_of_clk (inputFault_sent hfresh (hu.coreRuns.trans hr.1)) hu.moves.clk
    · have hlast := (pulseTurn_work s m k j u).lasts
      refine ⟨?_, ?_, h3.keeps hlast⟩
      · unfold pulseTurn
        split
        · simp only [inputFault_mir, MirrorSt.faulted, if_true, BitVec.getLsbD_or, h1, Bool.true_or]
        · exact h1
      · unfold pulseTurn
        split
        · simp only [inputFault_mir, MirrorSt.faulted, if_true, BitVec.getLsbD_or, h2, Bool.true_or]
        · exact h2
  have heq : s.pulseEnd m k = ((s.pulseDone m k).forAll 12 (s.pulseTurn m k)).safeShow := pulseEnd_eq (mirRuns_of hd hr.1) ht hover
  have hm : Moves [.sys] (s.pulseEnd m k) (s.islandDoes (·.pulseEnd m k)) :=
    islandDoes_work (f := (·.pulseEnd m k)) (by rw [heq]; exact pulseEnd_work s m k) hr hdue
  rw [heq] at hm
  have hsafe : (s.islandDoes (·.pulseEnd m k)).safe = ((s.pulseDone m k).forAll 12 (s.pulseTurn m k)).safe := hm.safe.trans (safeShow_moves _).safe
  obtain ⟨h1, h2, h3⟩ := hturns
  refine ⟨_, rfl, ?_, by rw [hsafe]; exact h1, by rw [hsafe]; exact h2, h3.of_events (hm.events.trans (safeShow_moves _).events)⟩
  rw [mir_congr hsafe m, pulseTurns_pulses]
  exact pulseDone_none hs k.isLt

end PulseEnd

/-! ### Discrepancies (R301, R303) -/

theorem discrepancyFault_gives (m : Mirror) (n : Fin 12) {t0 : Nat} (hr : s.policyRests) (hd : (s.mir m).dead = false) (hdue : s.safe.limpDue = false)
    (hact : (s.mir m).state = .active) (ht : nth (s.mir m).disagree n none = some t0) (hlong : pairDisc (s.mir m).block n * 10000 < (s.mir m).time - t0) :
    Completes (.discrepancyFault m n) s fun t =>
        t.safe.a.discf = s.safe.a.discf ||| (1#12 <<< n.val) ∧ t.safe.b.discf = s.safe.b.discf ||| (1#12 <<< n.val) ∧
        t.safe.a.outs = s.safe.a.outs ∧ t.safe.b.outs = s.safe.b.outs ∧
        (s.safe.a.discf.getLsbD n = false → s.safe.b.discf.getLsbD n = false → s.sent t 0xF4) ∧ s.clockKept t := by
  have heq : s.discrepancy m n = (s.inputFault n false).safeShow := by
    unfold discrepancy
    dsimp only
    rw [ht, mirRuns_of hd hr.1, hact]
    exact if_pos (by simp [hlong])
  have hwork := (inputFault_work s n false).trans (safeShow_work _)
  have hm : Moves [.sys] (s.discrepancy m n) (s.islandDoes (·.discrepancy m n)) :=
    islandDoes_work (f := (·.discrepancy m n)) (by rw [heq]; exact hwork) hr hdue
  rw [heq] at hm
  have hsafe : (s.islandDoes (·.discrepancy m n)).safe = (s.bothFaulted n false).safe :=
    hm.safe.trans ((safeShow_moves _).safe.trans (inputFault_safe s n false))
  obtain ⟨r, hclk⟩ := hwork.moves.clockKept
  refine ⟨_, rfl, by rw [hsafe]; rfl, by rw [hsafe]; rfl, by rw [hsafe]; rfl, by rw [hsafe]; rfl, fun ha hb => ?_, r, hm.clk.trans hclk⟩
  have hfresh : s.faultFresh n false = true := by rw [faultFresh, if_neg Bool.false_ne_true, ha, hb]; rfl
  exact (inputFault_sent hfresh hr.1).of_events (hm.events.trans (safeShow_moves _).events)

theorem inputFaultClear_gives (m : Mirror) (n : Fin 12) {t0 : Nat} (hr : s.policyRests) (hd : (s.mir m).dead = false) (hdue : s.safe.limpDue = false)
    (hact : (s.mir m).state = .active) (ht : nth (s.mir m).agree n none = some t0) (hlong : 1000000 ≤ (s.mir m).time - t0)
    (hty : pairType (s.mir m).block n = 4 ∨ pairType (s.mir m).block n = 5) : Completes (.inputFaultClear m n) s fun t =>
        t.safe.a.inFault n = false ∧ t.safe.b.inFault n = false ∧ t.safe.a.outs = s.safe.a.outs ∧ t.safe.b.outs = s.safe.b.outs ∧
        t.events = s.events ∧ s.clockKept t := by
  have hclear : s.inputClear n = (s.modMir .a (fun x => x.healed n)).modMir .b (fun x => x.healed n) := rfl
  have heq : s.faultClear m n = (s.inputClear n).safeShow := by
    unfold faultClear
    dsimp only
    rw [ht, mirRuns_of hd hr.1, hact]
    refine if_pos ?_
    rcases hty with h | h <;> simp [h, hlong]
  have hwork : s.IsleWork (s.inputClear n).safeShow := by
    rw [hclear]
    exact (((IsleWork.refl s).modMir _ _).modMir _ _).trans (safeShow_work _)
  have hm : Moves [.sys] (s.faultClear m n) (s.islandDoes (·.faultClear m n)) :=
    islandDoes_work (f := (·.faultClear m n)) (by rw [heq]; exact hwork) hr hdue
  rw [heq] at hm
  have hsafe : (s.islandDoes (·.faultClear m n)).safe = (s.inputClear n).safe := hm.safe.trans (safeShow_moves _).safe
  have hevents : (s.inputClear n).events = s.events := by
    rw [hclear]
    exact (modMir_moves _ _ _).events.trans (modMir_moves _ _ _).events
  obtain ⟨r, hclk⟩ := hwork.moves.clockKept
  exact ⟨_, rfl, by rw [hsafe]; exact MirrorSt.healed_inFault _ n.isLt, by rw [hsafe]; exact MirrorSt.healed_inFault _ n.isLt, by rw [hsafe]; rfl,
    by rw [hsafe]; rfl, hm.events.trans ((safeShow_moves _).events.trans hevents), r, hm.clk.trans hclk⟩

/-! ### Over-voltage (R304) -/

/-- What a stretch of the SDC ball makes of the over-voltage. -/
def ovAfter (s : State) (m : Mirror) (r : SdcRun) : Bool :=
  if r.time < blockOvdeb (s.mir m).block then (s.mir m).ov
  else if blockTh (s.mir m).block m * 3000000 < r.least * 256 then true
  else if r.most * 256 + 30000 * 256 < blockTh (s.mir m).block m * 3000000 then false
  else (s.mir m).ov

theorem sdcOvervoltage_gives (m : Mirror) (r : SdcRun) (hr : s.policyRests) (hd : (s.mir m).dead = false) (hdue : s.safe.limpDue = false)
    (hlive : (s.mir m).live.isSome = true) : Completes (.sdcOvervoltage m r) s fun t =>
      (t.mir m).ov = s.ovAfter m r ∧ (t.mir m).outs = (s.mir m).outs ∧ (t.mir m).filt = (s.mir m).filt ∧ InputKeeps s m t := by
  have heq : s.overVoltage m r = (s.modMir m (fun y => { y with ov := s.ovAfter m r })).safeShow := by
    unfold overVoltage
    dsimp only
    rw [mirRuns_of hd hr.1, hlive]
    exact if_pos rfl
  have hm : Moves [.sys] (s.overVoltage m r) (s.islandDoes (·.overVoltage m r)) :=
    islandDoes_work (f := (·.overVoltage m r)) (by rw [heq]; exact shown_work s m _) hr hdue
  rw [heq] at hm
  have hmir : (s.islandDoes (·.overVoltage m r)).mir m = { s.mir m with ov := s.ovAfter m r } :=
    (mir_congr hm.safe m).trans (shown_mir s m (fun y => { y with ov := s.ovAfter m r }))
  exact ⟨_, rfl, by rw [hmir], by rw [hmir], by rw [hmir], (shown_keeps s m _).after hm⟩

theorem ovAfter_over {r : SdcRun} (ht : blockOvdeb (s.mir m).block ≤ r.time) (hth : blockTh (s.mir m).block m * 3000000 < r.least * 256) :
    s.ovAfter m r = true := by
  unfold ovAfter
  exact (if_neg (not_lt.mpr ht)).trans (if_pos hth)

theorem ovAfter_under {r : SdcRun} (hr : r.least ≤ r.most) (ht : blockOvdeb (s.mir m).block ≤ r.time)
    (hth : (r.most + 30000) * 256 < blockTh (s.mir m).block m * 3000000) : s.ovAfter m r = false := by
  rw [Nat.add_mul] at hth
  have hlow : r.least * 256 ≤ r.most * 256 + 30000 * 256 := (Nat.mul_le_mul_right 256 hr).trans (Nat.le_add_right _ _)
  unfold ovAfter
  exact (if_neg (not_lt.mpr ht)).trans ((if_neg (not_lt.mpr (hlow.trans hth.le))).trans (if_pos hth))

theorem ovAfter_short {r : SdcRun} (ht : r.time < blockOvdeb (s.mir m).block) : s.ovAfter m r = (s.mir m).ov := if_pos ht

theorem ovAfter_band {r : SdcRun} (hlo : r.least * 256 ≤ blockTh (s.mir m).block m * 3000000)
    (hhi : blockTh (s.mir m).block m * 3000000 ≤ (r.most + 30000) * 256) : s.ovAfter m r = (s.mir m).ov := by
  rw [Nat.add_mul] at hhi
  unfold ovAfter
  split
  · rfl
  · exact (if_neg (not_lt.mpr hlo)).trans (if_neg (not_lt.mpr hhi))

end State

/-- Settles O47: each clause is the lemma about its command above. -/
theorem islandInputs : Obligations.IslandInputs := by
  unfold Obligations.IslandInputs
  intro s m hs hr hd hdue
  refine ⟨fun levels => ?_, fun k hact htpp hphase hnone => ?_, fun k t0 ht hover => ⟨fun hclean => ?_, fun n hp hk hhigh ha hb => ?_⟩,
    fun n t0 hact ht hlong => State.discrepancyFault_gives m n hr hd hdue hact ht hlong,
    fun n t0 hact ht hlong hty => State.inputFaultClear_gives m n hr hd hdue hact ht hlong hty, fun r hlive hrun => ?_⟩
  · obtain ⟨t, he, htime, hkeeps, hch⟩ := State.inputSample_gives m levels hs hr hd
    exact ⟨t, he, htime, hkeeps.all, fun n => (hch n).same, fun n hne hp => ⟨(hch n).turned hne hp, (hch n).counted hne hp⟩⟩
  · obtain ⟨t, he, h1, h2, h3, h4, hkeeps⟩ := State.testPulseStart_gives m k hs hr hd hact htpp hphase hnone
    exact ⟨t, he, h1, h2, h3, h4, hkeeps.all⟩
  · obtain ⟨t, he, h1, h2, h3, hkeeps⟩ := State.testPulseEnd_clean k hs hr hd hdue ht hover hclean
    exact ⟨t, he, h1, h2, h3, hkeeps.all⟩
  · exact State.testPulseEnd_faults k hs hr hd hdue ht hover n hp hk hhigh ha hb
  · obtain ⟨t, he, hov, h1, h2, hkeeps⟩ := State.sdcOvervoltage_gives m r hr hd hdue hlive
    exact ⟨t, he, fun h3 h4 => hov.trans (State.ovAfter_over h3 h4), fun h3 h4 => hov.trans (State.ovAfter_under hrun h3 h4),
      fun h3 => hov.trans (State.ovAfter_short h3), fun h3 h4 => hov.trans (State.ovAfter_band h3 h4), h1, h2, hkeeps.all⟩

end Sys2Proof.Machine

/-! What follows an operation of the safety island: the settled outputs, a diagnostic that leads to FAULT, and LIMP (R296, R305, R308, R309). -/

namespace Sys2Proof.Machine

set_option Elab.async false
namespace State

variable {s t u : State} {m : Mirror}

/-! ### The settled outputs (R296, R305, R320) -/

/-- The gate-enable as a change of the commands leaves it: taken away with every leg's outputs, or given with event 0xF1. -/
def gateSettled (s was : State) : State :=
  if was.genOn && !s.genOn then (((s.clr F.LOOM_STAT_GEN).blockLegs .safe 0xFFFFFF).gdRefreshAll)
  else if !was.genOn && s.genOn then ((s.set1 F.LOOM_STAT_GEN).gdRefreshAll).raise 0xF1
  else s

/-- The events of the outputs that a mirror has switched off. -/
def outsTold (s was : State) : State :=
  (List.range 5).foldl (fun u k => if s.outFell was k then u.raise (if k = 0 then 0xF0 else 0xF2) else u) (s.gateSettled was)

/-- What the island notes of its outputs for the next change. -/
def outsNoted (s was : State) (z : Safe) : Safe :=
  { z with
    armed := z.armed ||| pick 5 s.bothHold
    spent := pick 5 (fun k => (s.safe.a.cmd k != s.safe.b.cmd k) && (s.outFell was k || z.spent.getLsbD k)) }

theorem settleOuts_eq (s was : State) : s.settleOuts was = ((s.outsTold was).modSafe (s.outsNoted was)).safeShow := rfl

/-- The parts that settled outputs may change. -/
abbrev settleParts : List Part := [.regs, .cycle, .loom, .gdp, .rtc, .mram, .events, .stew, .draws]

/-- A step outside the island that reaches nothing but the outputs of the Loom and of the gate drive, and drops no event. -/
structure OutsMove (s t : State) : Prop where
  moves : Moves settleParts s t
  writes : s.Writes driveBlocks t
  lasts : s.EventsLast t

theorem OutsMove.refl (s : State) : s.OutsMove s := ⟨.refl s, .refl s, .refl s⟩
theorem OutsMove.trans (h : s.OutsMove t) (h' : t.OutsMove u) : s.OutsMove u :=
  ⟨h.moves.trans h'.moves, h.writes.trans h'.writes, h.lasts.trans h'.lasts⟩
theorem OutsMove.ite {p : Prop} [Decidable p] (ht : s.OutsMove t) (hu : s.OutsMove u) : s.OutsMove (if p then t else u) := by
  split <;> assumption
theorem OutsMove.raise (h : s.OutsMove t) (src : Nat) : s.OutsMove (t.raise src) := ⟨h.moves.raise, h.writes.raise, h.lasts.raise src⟩
theorem OutsMove.put (h : s.OutsMove t) {f : Fld} {n : Nat} (hf : inBlock 6 f.addr) : s.OutsMove (t.put f n) :=
  ⟨h.moves.put, h.writes.put (.inl hf), .same h.lasts (put_events ..)⟩

theorem blockLegs_outsMove (s : State) (cause : Cause) (mask : Nat) : s.OutsMove (s.blockLegs cause mask) :=
  ⟨(blockLegs_moves s cause mask).mono (by decide), blockLegs_drive s cause mask, blockLegs_lasts s cause mask⟩

theorem gdRefreshAll_outsMove (s : State) : s.OutsMove s.gdRefreshAll :=
  ⟨(gdRefreshAll_moves s).mono (by decide), (gdRefreshAll_writes s).mono fun _ => .inr, gdRefreshAll_lasts s⟩

theorem LOOM_STAT_in : inBlock 6 F.LOOM_STAT_GEN.addr :=
  (by decide : blockBase 6 ≤ F.LOOM_STAT_GEN.addr ∧ F.LOOM_STAT_GEN.addr < blockBase 7)

theorem gateSettled_outsMove (s was : State) : s.OutsMove (s.gateSettled was) := by
  have hclr : s.OutsMove (s.clr F.LOOM_STAT_GEN) := (OutsMove.refl s).put LOOM_STAT_in
  have hset : s.OutsMove (s.set1 F.LOOM_STAT_GEN) := (OutsMove.refl s).put LOOM_STAT_in
  exact .ite ((hclr.trans (blockLegs_outsMove _ _ _)).trans (gdRefreshAll_outsMove _)) (.ite ((hset.trans (gdRefreshAll_outsMove _)).raise _) (.refl s))

theorem outsTold_outsMove (s was : State) : s.OutsMove (s.outsTold was) := by
  have hrec : ∀ l : List Nat, s.OutsMove (l.foldl (fun u k => if s.outFell was k then u.raise (if k = 0 then 0xF0 else 0xF2) else u) (s.gateSettled was)) := by
    intro l
    induction l using List.reverseRecOn with
    | nil => exact gateSettled_outsMove s was
    | append_singleton l k ih =>
      rw [List.foldl_append]
      exact .ite (ih.raise _) ih
  exact hrec _

theorem not_driveBlocks {b : Nat} (h : b < 0x40060000) : ¬ driveBlocks b := by
  simp only [driveBlocks, inBlock, blockBase]
  omega

/-- The parts that an operation of the island may change before LIMP. -/
abbrev isleParts : List Part := .safe :: settleParts

/-- A step of the island with its settled outputs: it stays in its mode, keeps SYS_LTR and drops no event. -/
structure IsleStep (s t : State) : Prop where
  moves : Moves isleParts s t
  lasts : s.EventsLast t
  mode : t.mode = s.mode
  ltr : t.rd R.SYS_LTR = s.rd R.SYS_LTR

namespace IsleStep

theorem refl (s : State) : s.IsleStep s := ⟨.refl s, .refl s, rfl, rfl⟩
theorem trans (h : s.IsleStep t) (h' : t.IsleStep u) : s.IsleStep u :=
  ⟨h.moves.trans h'.moves, h.lasts.trans h'.lasts, h'.mode.trans h.mode, h'.ltr.trans h.ltr⟩
theorem of_safe (h : Moves [.safe] s t) : s.IsleStep t :=
  ⟨h.mono (by decide), EventsLast.same (.refl s) h.events, mode_of_regs h.regs, rd_congr h.regs _⟩
theorem modSafe (h : s.IsleStep t) (f : Safe → Safe) : s.IsleStep (t.modSafe f) := h.trans (.of_safe (modSafe_moves t f))
theorem modMir (h : s.IsleStep t) (m : Mirror) (f : MirrorSt → MirrorSt) : s.IsleStep (t.modMir m f) := h.trans (.of_safe (modMir_moves t m f))
theorem raise (h : s.IsleStep t) (src : Nat) : s.IsleStep (t.raise src) :=
  ⟨h.moves.raise, h.lasts.raise src, (mode_of_rd (rd_raise ..)).trans h.mode, (rd_raise ..).trans h.ltr⟩
theorem log (h : s.IsleStep t) {code block : Nat} {sev : Severity} {data : List Byte} : s.IsleStep (t.log code block sev data) :=
  ⟨h.moves.log, h.lasts.log, (mode_of_regs (log_regs ..)).trans h.mode, (rd_congr (log_regs ..) _).trans h.ltr⟩
theorem ite {p : Prop} [Decidable p] (ht : s.IsleStep t) (hu : s.IsleStep u) : s.IsleStep (if p then t else u) := by
  split <;> assumption
theorem of_work (h : s.IsleWork t) : s.IsleStep t := ⟨h.moves.mono (by decide), h.lasts, h.mode, h.ltr⟩
theorem of_outs (h : s.OutsMove t) : s.IsleStep t :=
  ⟨h.moves.mono (by decide), h.lasts, mode_of_rd (h.writes.rd (not_driveBlocks (by decide))), h.writes.rd (not_driveBlocks (by decide))⟩

theorem coreRuns (h : s.IsleStep t) (hr : s.coreRuns = true) : t.coreRuns = true := by
  have hsys : t.sys = s.sys := h.moves.sys
  unfold State.coreRuns at hr ⊢
  rwa [hsys, h.mode]

end IsleStep

theorem settleOuts_step (s was : State) : s.IsleStep (s.settleOuts was) :=
  ((IsleStep.of_outs (outsTold_outsMove s was)).modSafe _).trans (.of_work (safeShow_work _))

theorem settleOuts_safe (s was : State) : (s.settleOuts was).safe = s.outsNoted was s.safe :=
  (safeShow_moves _).safe.trans (congrArg (s.outsNoted was) (outsTold_outsMove s was).moves.safe)

theorem island_step {f : State → State} (h : s.IsleStep (f s)) : s.IsleStep (s.island f) := h.trans (settleOuts_step (f s) s)

theorem island_mir (s : State) (f : State → State) (m : Mirror) : (s.island f).mir m = (f s).mir m := by
  have hsafe : (s.island f).safe = (f s).outsNoted s (f s).safe := settleOuts_safe (f s) s
  cases m <;> simp only [mir, hsafe] <;> rfl

theorem island_limpDue (s : State) (f : State → State) : (s.island f).safe.limpDue = (f s).safe.limpDue :=
  (congrArg Safe.limpDue (settleOuts_safe (f s) s)).trans rfl

/-! ### LIMP where it is due (R309) -/

theorem clockKept_trans (h : s.clockKept t) (h' : t.clockKept u) : s.clockKept u := by
  obtain ⟨r, hr⟩ := h
  obtain ⟨r', hr'⟩ := h'
  exact ⟨r', by rw [hr', hr]⟩

/-- LIMP, where it is due, leaves the mirrors. -/
theorem limpIf_leads (h : s.mode ≠ .doze) : (s.limpIf.safe.a = s.safe.a ∧ s.limpIf.safe.b = s.safe.b) ∧ s.EventsLast s.limpIf ∧
    s.limpIf.rd R.SYS_LTR = s.rd R.SYS_LTR := by
  unfold limpIf
  split
  · have hm := modSafe_moves s (fun x => { x with limpDue := false })
    have hl := limp_leads ((mode_of_regs hm.regs).trans_ne h) 4
    refine ⟨⟨(congrArg Safe.a hl.safe).trans rfl, (congrArg Safe.b hl.safe).trans rfl⟩, ?_, hl.ltr.trans (rd_congr hm.regs _)⟩
    exact EventsLast.trans (.same (.refl s) hm.events) hl.lasts
  · exact ⟨⟨rfl, rfl⟩, .refl s, rfl⟩

theorem limpIf_clock (s : State) : s.clockKept s.limpIf := by
  unfold limpIf
  split
  · exact clockKept_trans (modSafe_moves s _).clockKept (limp_stands _ 4).clock
  · exact (Moves.refl (F := []) s).clockKept

theorem limpIf_mode (hr : s.coreRuns = true) : s.limpIf.mode = if s.safe.limpDue then .limp else s.mode := by
  have hp := coreRuns_phase hr
  unfold limpIf
  by_cases hd : s.safe.limpDue = true
  · rw [if_pos ⟨hd, hp⟩, if_pos hd]
    have hm := modSafe_moves s (fun x => { x with limpDue := false })
    refine limp_mode ((congrArg Sys.phase hm.sys).trans hp) ((mode_of_regs hm.regs).trans_ne fun hk => ?_) 4
    simp [coreRuns, hk] at hr
  · rw [if_neg fun h => hd h.1, if_neg hd]

/-- What an operation of the island leaves of what it has done, where the policy rests. -/
structure IsleEnd (s t u : State) : Prop where
  mir : ∀ m, u.mir m = t.mir m
  lasts : t.EventsLast u
  clock : s.clockKept u
  mode : u.mode = if t.safe.limpDue then .limp else s.mode

theorem islandDoes_ends {f : State → State} (h : s.IsleStep (f s)) (hr : s.policyRests) : IsleEnd s (f s) (s.islandDoes f) := by
  have hruns := h.coreRuns hr.1
  have hdoze := coreRuns_not_doze hruns
  obtain ⟨⟨ha, hb⟩, hlasts, hltr⟩ := limpIf_leads hdoze
  have hmode := limpIf_mode hruns
  have hend : Moves [.sys] (f s).limpIf (s.islandDoes f) := by
    refine islandDoes_rests ?_ (by rw [hltr, h.ltr]; exact hr.2)
    rw [hmode]
    split
    · decide
    · exact hdoze
  obtain ⟨r, hclk⟩ := clockKept_trans h.moves.clockKept (limpIf_clock (f s))
  refine ⟨fun m => ?_, .same hlasts hend.events, ⟨r, hend.clk.trans hclk⟩, (mode_of_regs hend.regs).trans (hmode.trans (by rw [h.mode]))⟩
  cases m
  · exact (congrArg Safe.a hend.safe).trans ha
  · exact (congrArg Safe.b hend.safe).trans hb

end State
end Sys2Proof.Machine

/-! Diagnostics of the safety island lead to FAULT (R297, R298, R307 to R309). -/

namespace Sys2Proof.Machine

set_option Elab.async false

/-- A mirror in FAULT with the code of its diagnostic. -/
def MirrorSt.failed (x : MirrorSt) (code : Nat) (stamp : Word) : MirrorSt :=
  { ({ x with hist := (x.hist ++ [(code, stamp)]).drop (x.hist.length + 1 - 32) }).rest with state := .fault }

/-- The newest entry of a full history is the code that has come last. -/
theorem nth_hist_newest {α : Type} {l : List α} (h : l.length = 32) (x d : α) : nth ((l ++ [x]).drop (l.length + 1 - 32)) 31 d = x := by
  rw [h]
  simp [nth, h]

theorem MirrorSt.cmd_of_state {x : MirrorSt} (h : x.state ≠ .active) (k : Nat) : x.cmd k = false := by
  simp [MirrorSt.cmd, h]

theorem MirrorSt.cmd_of_dead {x : MirrorSt} (h : x.dead = true) (k : Nat) : x.cmd k = false := by
  simp [MirrorSt.cmd, h]

namespace State

variable {s t u : State} {m : Mirror} {code : Nat} {f : State → State}

/-- The gate-enable does not stand where a mirror does not command it. -/
theorem genOn_of_cmd (h : (s.mir m).cmd 0 = false) : s.genOn = false := by
  cases m <;> simp_all [mir, genOn, bothOn]

/-! ### FAULT (R297, R309) -/

/-- The island with mirror `m` in FAULT. -/
def faultTaken (s : State) (m : Mirror) (code : Nat) : State :=
  (((s.diag m code).modMir m (fun x => { x.rest with state := .fault })).modSafe (fun z => { z with armed := 0 })).modSafe
    (fun z => { z with faultSaid := true, limpDue := true })

/-- What the log holds of a mirror's FAULT. -/
def faultData (s : State) : List Byte :=
  [BitVec.ofNat 8 (nth s.safe.a.hist 31 (0, 0)).1, BitVec.ofNat 8 (nth s.safe.b.hist 31 (0, 0)).1] ++ leBytes 4 s.shortStamp.toNat

theorem mirrorFault_eq (hd : (s.mir m).dead = false) (hst : (s.mir m).state = .boot ∨ (s.mir m).state = .active) (hsaid : s.safe.faultSaid = false) :
    s.mirrorFault m code = ((s.faultTaken m code).raise 0xF6).log 0x0050 12 .fault ((s.faultTaken m code).raise 0xF6).faultData := by
  have hguard : (!(s.mir m).dead && ((s.mir m).state == .boot || (s.mir m).state == .active)) = true := by
    rw [hd]
    rcases hst with h | h <;> rw [h] <;> rfl
  have hsaid' : (((s.diag m code).modMir m (fun x => { x.rest with state := .fault })).modSafe (fun z => { z with armed := 0 })).safe.faultSaid = false := by
    cases m <;> exact hsaid
  unfold mirrorFault
  dsimp only
  rw [hguard, hsaid']
  rfl

theorem diag_moves (s : State) (m : Mirror) (code : Nat) : Moves [.safe] s (s.diag m code) := modMir_moves s m _

theorem faultTaken_moves (s : State) (m : Mirror) (code : Nat) : Moves [.safe] s (s.faultTaken m code) := by
  unfold faultTaken
  exact (((diag_moves s m code).trans (modMir_moves _ m _)).trans (modSafe_moves _ _)).trans (modSafe_moves _ _)

theorem mir_modSafe {f : Safe → Safe} (ha : (f s.safe).a = s.safe.a) (hb : (f s.safe).b = s.safe.b) (m : Mirror) : (s.modSafe f).mir m = s.mir m := by
  cases m
  · exact ha
  · exact hb

theorem faultTaken_of_diag (s : State) (m n : Mirror) (code : Nat) :
    (s.faultTaken m code).mir n = ((s.diag m code).modMir m (fun x => { x.rest with state := .fault })).mir n := by
  rw [faultTaken, mir_modSafe rfl rfl, mir_modSafe rfl rfl]

theorem faultTaken_mir (s : State) (m : Mirror) (code : Nat) : (s.faultTaken m code).mir m = (s.mir m).failed code s.shortStamp := by
  rw [faultTaken_of_diag, mir_modMir_same, diag, mir_modMir_same, MirrorSt.failed]

theorem faultTaken_other (s : State) (m : Mirror) (code : Nat) : (s.faultTaken m code).mir (otherMirror m) = s.mir (otherMirror m) := by
  rw [faultTaken_of_diag, mir_modMir_other, diag, mir_modMir_other]

theorem faultTaken_limpDue (s : State) (m : Mirror) (code : Nat) : (s.faultTaken m code).safe.limpDue = true := rfl

/-- What a mirror's first FAULT of the island leaves. -/
structure FaultMade (s : State) (m : Mirror) (code : Nat) (t : State) : Prop where
  step : s.IsleStep t
  mir : t.mir m = (s.mir m).failed code s.shortStamp
  other : t.mir (otherMirror m) = s.mir (otherMirror m)
  limpDue : t.safe.limpDue = true
  sent : s.sent t 0xF6

theorem mirrorFault_made (hd : (s.mir m).dead = false) (hst : (s.mir m).state = .boot ∨ (s.mir m).state = .active) (hsaid : s.safe.faultSaid = false)
    (hr : s.coreRuns = true) : FaultMade s m code (s.mirrorFault m code) := by
  have hstep : s.IsleStep (s.faultTaken m code) := .of_safe (faultTaken_moves s m code)
  rw [mirrorFault_eq hd hst hsaid]
  have hsafe := (log_safe ((s.faultTaken m code).raise 0xF6) 0x0050 12 .fault ((s.faultTaken m code).raise 0xF6).faultData).trans (raise_safe ..)
  exact ⟨(hstep.raise _).log, (mir_congr hsafe m).trans (faultTaken_mir s m code), (mir_congr hsafe _).trans (faultTaken_other s m code),
    (congrArg Safe.limpDue hsafe).trans (faultTaken_limpDue s m code), (sent_raise (hstep.coreRuns hr) (faultTaken_moves s m code).clk 0xF6).log ..⟩

/-- What a failed diagnostic of mirror `m` leads to. -/
def FaultEntered (s : State) (m : Mirror) (code : Nat) (t : State) : Prop :=
  (t.mir m).state = .fault ∧ (nth (t.mir m).hist 31 (0, 0)).1 = code ∧ t.genOn = false ∧ s.sent t 0xF6 ∧ t.mode = .limp ∧
    (t.mir m).store = (s.mir m).store ∧ s.clockKept t

/-- Mirror `m` as a diagnostic finds it; `u` differs from `s` by the time of the check alone. -/
structure Checked (s : State) (m : Mirror) (u : State) : Prop where
  step : s.IsleStep u
  clk : u.clk = s.clk
  dead : (u.mir m).dead = (s.mir m).dead
  state : (u.mir m).state = (s.mir m).state
  hist : (u.mir m).hist = (s.mir m).hist
  store : (u.mir m).store = (s.mir m).store
  faultSaid : u.safe.faultSaid = s.safe.faultSaid

theorem Checked.refl (s : State) (m : Mirror) : Checked s m s := ⟨.refl s, rfl, rfl, rfl, rfl, rfl, rfl⟩

theorem fault_entered (hu : Checked s m u) (heq : f s = u.island (·.mirrorFault m code)) (hs : s.Shaped) (hr : s.policyRests)
    (hd : (s.mir m).dead = false) (hact : (s.mir m).state = .active) (hsaid : s.safe.faultSaid = false) : FaultEntered s m code (s.islandDoes f) := by
  have hmade : FaultMade u m code (u.mirrorFault m code) :=
    mirrorFault_made (hu.dead.trans hd) (.inr (hu.state.trans hact)) (hu.faultSaid.trans hsaid) (hu.step.coreRuns hr.1)
  have hisle := island_step (s := u) (f := (·.mirrorFault m code)) hmade.step
  have hend := islandDoes_ends (s := s) (f := f) (heq ▸ hu.step.trans hisle) hr
  rw [heq] at hend
  have hmir : (s.islandDoes f).mir m = (u.mir m).failed code u.shortStamp := (hend.mir m).trans ((island_mir ..).trans hmade.mir)
  have hsent : s.sent (s.islandDoes f) 0xF6 := by
    have h : u.sent (s.islandDoes f) 0xF6 := (hmade.sent.keeps (settleOuts_step _ u).lasts).keeps hend.lasts
    unfold sent at h ⊢
    rwa [hu.clk] at h
  have hlen : (u.mir m).hist.length = 32 := hu.hist ▸ (shaped_mir hs m).hist
  refine ⟨by rw [hmir]; rfl, ?_, genOn_of_cmd (m := m) (MirrorSt.cmd_of_state (by rw [hmir]; exact MirState.noConfusion) 0), hsent, ?_, by rw [hmir]; exact hu.store, hend.clock⟩
  · rw [hmir]
    exact congrArg Prod.fst (nth_hist_newest hlen (code, u.shortStamp) (0, 0))
  · rw [hend.mode, island_limpDue, hmade.limpDue, if_pos rfl]

/-! ### Passing diagnostics -/

/-- What a passing diagnostic of mirror `m` leaves. -/
def CheckPassed (s : State) (m : Mirror) (t : State) : Prop :=
  (t.mir m).state = .active ∧ (t.mir m).outs = (s.mir m).outs ∧ (t.mir m).hist = (s.mir m).hist ∧ t.mir (otherMirror m) = s.mir (otherMirror m) ∧
    s.clockKept t

theorem check_passed (heq : f s = u) (hu : Checked s m u) (houts : (u.mir m).outs = (s.mir m).outs) (ho : u.mir (otherMirror m) = s.mir (otherMirror m))
    (hr : s.policyRests) (hact : (s.mir m).state = .active) : CheckPassed s m (s.islandDoes f) := by
  have hend := islandDoes_ends (s := s) (f := f) (heq ▸ hu.step) hr
  rw [heq] at hend
  exact ⟨by rw [hend.mir, hu.state, hact], by rw [hend.mir, houts], by rw [hend.mir, hu.hist], by rw [hend.mir, ho], hend.clock⟩

/-! ### The checks -/

def oscChecked (s : State) (m : Mirror) : State := s.modMir m (fun y => { y with oscAt := y.time })
def paramChecked (s : State) (m : Mirror) : State := s.modMir m (fun y => { y with paramAt := y.time })
def romChecked (s : State) (m : Mirror) : State := s.modMir m (fun y => { y with romAt := y.time })

theorem oscChecked_checked (s : State) (m : Mirror) : Checked s m (s.oscChecked m) := by
  have h := (IsleStep.refl s).modMir m (fun y => { y with oscAt := y.time })
  cases m <;> exact ⟨h, rfl, rfl, rfl, rfl, rfl, rfl⟩

theorem paramChecked_checked (s : State) (m : Mirror) : Checked s m (s.paramChecked m) := by
  have h := (IsleStep.refl s).modMir m (fun y => { y with paramAt := y.time })
  cases m <;> exact ⟨h, rfl, rfl, rfl, rfl, rfl, rfl⟩

theorem romChecked_checked (s : State) (m : Mirror) : Checked s m (s.romChecked m) := by
  have h := (IsleStep.refl s).modMir m (fun y => { y with romAt := y.time })
  cases m <;> exact ⟨h, rfl, rfl, rfl, rfl, rfl, rfl⟩

theorem oscChecked_outs (s : State) (m : Mirror) : ((s.oscChecked m).mir m).outs = (s.mir m).outs := by cases m <;> rfl
theorem paramChecked_outs (s : State) (m : Mirror) : ((s.paramChecked m).mir m).outs = (s.mir m).outs := by cases m <;> rfl
theorem romChecked_outs (s : State) (m : Mirror) : ((s.romChecked m).mir m).outs = (s.mir m).outs := by cases m <;> rfl

section checks

variable (hs : s.Shaped) (hr : s.policyRests) (hd : (s.mir m).dead = false) (hact : (s.mir m).state = .active) (hsaid : s.safe.faultSaid = false)
include hs hr hd hact hsaid

theorem readbackFault_faults (k : Fin 5) (h : 3 ≤ (nth (s.mir m).outs k {}).strayOn) :
    Completes (.outputReadbackFault m k) s (s.FaultEntered m 0x03) := by
  refine ⟨_, rfl, fault_entered (.refl s m) ?_ hs hr hd hact hsaid⟩
  unfold readbackFault
  dsimp only
  rw [mirRuns_of hd hr.1, decide_eq_true h]
  rfl

theorem commandDisagree_faults {t0 : Nat} (h : (s.mir m).cmdDiffers = some t0) (hlong : blockCmpt (s.mir m).block < (s.mir m).time - t0) :
    Completes (.commandDisagreement m) s (s.FaultEntered m 0x04) := by
  refine ⟨_, rfl, fault_entered (.refl s m) ?_ hs hr hd hact hsaid⟩
  unfold commandDisagree
  dsimp only
  rw [h, mirRuns_of hd hr.1]
  exact if_pos (decide_eq_true hlong)

theorem crossLink_faults (h : 4 ≤ (s.mir m).missed) : Completes (.crossLinkFault m) s (s.FaultEntered m 0x02) := by
  refine ⟨_, rfl, fault_entered (.refl s m) ?_ hs hr hd hact hsaid⟩
  unfold State.crossLinkFault
  rw [mirRuns_of hd hr.1, decide_eq_true h]
  rfl

theorem oscCheck_faults (n : Nat) (h : (s.mir m).oscAt + 1024 ≤ (s.mir m).time) (hn : n < 29491 ∨ 36045 < n) :
    Completes (.oscCheck m n) s (s.FaultEntered m 0x01) := by
  refine ⟨_, rfl, fault_entered (oscChecked_checked s m) ?_ hs hr hd hact hsaid⟩
  unfold State.oscCheck
  dsimp only
  rw [mirRuns_of hd hr.1, decide_eq_true h, if_neg (show ¬ (29491 ≤ n ∧ n ≤ 36045) by omega)]
  rfl

theorem paramCheck_faults (h : (s.mir m).paramAt + 10000000 ≤ (s.mir m).time) (hlive : (s.mir m).live.isSome = true)
    (hv : blockValid (s.mir m).block = false) : Completes (.paramCrcCheck m) s (s.FaultEntered m 0x06) := by
  refine ⟨_, rfl, fault_entered (paramChecked_checked s m) ?_ hs hr hd hact hsaid⟩
  have hnone : (s.mir m).live.isNone = false := by rw [← Option.not_isSome, hlive]; rfl
  unfold paramCheck
  dsimp only
  rw [mirRuns_of hd hr.1, decide_eq_true h, hnone, hv]
  rfl

theorem romCheck_faults (hm : m = .b) (h : (s.mir m).romAt + 10000000 ≤ (s.mir m).time) :
    Completes (.romCrcCheck false) s (s.FaultEntered m 0x07) := by
  subst hm
  refine ⟨_, rfl, fault_entered (romChecked_checked s .b) ?_ hs hr hd hact hsaid⟩
  unfold romCheck
  dsimp only
  rw [mirRuns_of hd hr.1, decide_eq_true h]
  rfl

end checks

section passes

variable (hr : s.policyRests) (hd : (s.mir m).dead = false) (hact : (s.mir m).state = .active)
include hr hd hact

theorem oscCheck_passes (n : Nat) (h : (s.mir m).oscAt + 1024 ≤ (s.mir m).time) (hlo : 29491 ≤ n) (hhi : n ≤ 36045) :
    Completes (.oscCheck m n) s (s.CheckPassed m) := by
  refine ⟨_, rfl, check_passed ?_ (oscChecked_checked s m) (oscChecked_outs s m) (mir_modMir_other ..) hr hact⟩
  unfold State.oscCheck
  dsimp only
  rw [mirRuns_of hd hr.1, decide_eq_true h, if_pos (show 29491 ≤ n ∧ n ≤ 36045 from ⟨hlo, hhi⟩)]
  rfl

theorem paramCheck_passes (h : (s.mir m).paramAt + 10000000 ≤ (s.mir m).time) (hv : blockValid (s.mir m).block = true) :
    Completes (.paramCrcCheck m) s (s.CheckPassed m) := by
  refine ⟨_, rfl, check_passed ?_ (paramChecked_checked s m) (paramChecked_outs s m) (mir_modMir_other ..) hr hact⟩
  unfold paramCheck
  dsimp only
  rw [mirRuns_of hd hr.1, decide_eq_true h, hv, Bool.or_true]
  rfl

theorem romCheck_passes (hm : m = .b) (h : (s.mir m).romAt + 10000000 ≤ (s.mir m).time) : Completes (.romCrcCheck true) s (s.CheckPassed m) := by
  subst hm
  refine ⟨_, rfl, check_passed ?_ (romChecked_checked s .b) (romChecked_outs s .b) (mir_modMir_other ..) hr hact⟩
  unfold romCheck
  dsimp only
  rw [mirRuns_of hd hr.1, decide_eq_true h]
  rfl

end passes

/-! ### A supply outside its window -/

/-- The island with the supply of mirror `m` gone. -/
def supplyGone (s : State) (m : Mirror) : State :=
  ((s.diag m 0x05).modMir m (fun x => { x.rest with dead := true, state := .fault })).modSafe (fun z => { z with armed := 0 })

theorem supplyGone_mir (s : State) (m : Mirror) : (s.supplyGone m).mir m = { (s.mir m).failed 0x05 s.shortStamp with dead := true } := by
  rw [supplyGone, mir_modSafe rfl rfl, mir_modMir_same, diag, mir_modMir_same, MirrorSt.failed]

theorem supplyGone_step (s : State) (m : Mirror) : s.IsleStep (s.supplyGone m) := by
  unfold supplyGone
  exact ((IsleStep.of_safe (diag_moves s m _)).modMir m _).modSafe _

theorem mirrorSupply_gives (hs : s.Shaped) (hr : s.policyRests) (hd : (s.mir m).dead = false) :
    Completes (.mirrorSupplyFault m) s fun t =>
      (t.mir m).dead = true ∧ (nth (t.mir m).hist 31 (0, 0)).1 = 0x05 ∧ t.genOn = false ∧ (∀ k, (t.mir m).cmd k = false) ∧
      (t.mir m).store = (s.mir m).store ∧ s.clockKept t := by
  have heq : s.mirrorSupply m = s.island (·.supplyGone m) := by
    unfold mirrorSupply
    rw [hd]
    rfl
  have hend := islandDoes_ends (s := s) (f := (·.mirrorSupply m)) (by rw [heq]; exact island_step (supplyGone_step s m)) hr
  have hmir : (s.islandDoes (·.mirrorSupply m)).mir m = { (s.mir m).failed 0x05 s.shortStamp with dead := true } := by
    rw [hend.mir, heq, island_mir]
    exact supplyGone_mir s m
  have hdead : ((s.islandDoes (·.mirrorSupply m)).mir m).dead = true := by rw [hmir]
  refine ⟨_, rfl, hdead, ?_, genOn_of_cmd (m := m) (MirrorSt.cmd_of_dead hdead 0), MirrorSt.cmd_of_dead hdead, by rw [hmir]; rfl, hend.clock⟩
  rw [hmir]
  exact congrArg Prod.fst (nth_hist_newest (shaped_mir hs m).hist (0x05, s.shortStamp) (0, 0))

end State

/-- Settles O49: a failing check is one FAULT of the mirror, with its settled outputs and the LIMP that follows; a passing one notes its time alone. -/
theorem islandDiagnostics : Obligations.IslandDiagnostics := by
  intro s m hs hr hd hact hsaid
  exact ⟨fun k h => State.readbackFault_faults hs hr hd hact hsaid k h, fun _ h hlong => State.commandDisagree_faults hs hr hd hact hsaid h hlong,
    State.crossLink_faults hs hr hd hact hsaid, fun n h hn => State.oscCheck_faults hs hr hd hact hsaid n h hn,
    fun n h hlo hhi => State.oscCheck_passes hr hd hact n h hlo hhi, State.paramCheck_faults hs hr hd hact hsaid, State.paramCheck_passes hr hd hact,
    State.romCheck_faults hs hr hd hact hsaid, State.romCheck_passes hr hd hact, State.mirrorSupply_gives hs hr hd⟩

end Sys2Proof.Machine

/-! Connections, BOOT and power of the mirrors (R295, R298, R311 to R313, R317). -/

namespace Sys2Proof.Machine

set_option Elab.async false

/-- A change that leaves the item it meets leaves the list. -/
theorem upd_fixed {α : Type} {l : List α} {i : Nat} {f : α → α} (d : α) (hi : i < l.length) (h : f (nth l i d) = nth l i d) : upd l i f = l := by
  have hget : f l[i] = l[i] := by
    have hnth : nth l i d = l[i] := by simp [nth, hi]
    rwa [hnth] at h
  unfold upd
  refine List.ext_getElem? fun j => ?_
  by_cases hj : i = j
  · subst hj
    simp [hi, hget]
  · exact List.getElem?_modify_ne f l hj

/-- A mirror with one of its connections changed. -/
def MirrorSt.modConn (x : MirrorSt) (c : Nat) (f : MirConn → MirConn) : MirrorSt := { x with conns := upd x.conns c f }

theorem MirrorSt.modConn_same {x : MirrorSt} (hx : x.Shaped) (c : Fin 8) (f : MirConn → MirConn) :
    nth (x.modConn c f).conns c {} = f (nth x.conns c {}) := nth_upd_same _ _ _ _ (c.isLt.trans_eq hx.conns.symm)

/-- A connection without degraded operation. -/
def MirConn.restored (k : MirConn) : MirConn := { k with degraded := none }

theorem MirConn.restored_of {k : MirConn} (h : k.degraded = none) : k.restored = k := by
  cases k
  exact congrArg (MirConn.mk _ _ _ _ _ · _ _ _) h.symm

/-- A connection whose watchdog has expired. -/
def MirConn.expired (k : MirConn) (since : Option Nat) : MirConn := { k with wd := none, degraded := since }

theorem MirrorSt.modConn_restored {x : MirrorSt} (hx : x.Shaped) (c : Fin 8) (h : (nth x.conns c {}).degraded = none) :
    x.modConn c MirConn.restored = x := by
  have hfix : MirConn.restored (nth x.conns c {}) = nth x.conns c {} := MirConn.restored_of h
  rw [MirrorSt.modConn, upd_fixed {} (c.isLt.trans_eq hx.conns.symm) hfix]

namespace State

variable {s t u : State} {m : Mirror} {c : Fin 8}

theorem shaped_mir_conns (hs : s.Shaped) (m : Mirror) (c : Fin 8) (f : MirConn → MirConn) :
    nth ((s.modMir m (·.modConn c f)).mir m).conns c {} = f (nth (s.mir m).conns c {}) := by
  rw [mir_modMir_same]
  exact MirrorSt.modConn_same (shaped_mir hs m) c f

/-! ### An occurrence of a timeout (R320) -/

/-- The note of a timeout that has been told. -/
def toldNoted (s : State) (c : Nat) (still : Bool) : State :=
  s.modSafe (fun z => { z with told := if still then z.told ||| (1#8 <<< c) else z.told &&& ~~~ (1#8 <<< c) })

theorem connTimesOut_eq (s : State) (c : Nat) (was still : Bool) :
    s.connTimesOut c was still = (if was || !s.safe.told.getLsbD c then s.raise 0xF5 else s).toldNoted c still := rfl

theorem toldNoted_mir (s : State) (c : Nat) (still : Bool) (m : Mirror) : (s.toldNoted c still).mir m = s.mir m := mir_modSafe rfl rfl m

theorem connTimesOut_mir (s : State) (c : Nat) (was still : Bool) (m : Mirror) : (s.connTimesOut c was still).mir m = s.mir m := by
  rw [connTimesOut_eq, toldNoted_mir]
  split
  · exact mir_congr (raise_safe ..) m
  · rfl

theorem connTimesOut_step (s : State) (c : Nat) (was still : Bool) : s.IsleStep (s.connTimesOut c was still) := by
  have h : s.IsleStep (if was || !s.safe.told.getLsbD c then s.raise 0xF5 else s) := .ite ((IsleStep.refl s).raise _) (.refl s)
  rw [connTimesOut_eq]
  unfold toldNoted
  exact h.trans (.of_safe (modSafe_moves _ _))

theorem connTimesOut_sent {was still : Bool} (h : (was || !s.safe.told.getLsbD c) = true) (hr : s.coreRuns = true) :
    s.sent (s.connTimesOut c was still) 0xF5 := by
  rw [connTimesOut_eq, h]
  exact (sent_raise hr rfl 0xF5).of_events (modSafe_moves _ _).events

theorem connTimesOut_quiet {was still : Bool} (h : (was || !s.safe.told.getLsbD c) = false) : (s.connTimesOut c was still).events = s.events := by
  rw [connTimesOut_eq, h]
  exact (modSafe_moves _ _).events

theorem connTimesOut_told (s : State) (c : Fin 8) (was : Bool) : (s.connTimesOut c was false).safe.told.getLsbD c = false := by
  have hbit : (1#8 <<< c.val).getLsbD c = true := by revert c; decide
  have hclear (x : BitVec 8) : (x &&& ~~~ (1#8 <<< c.val)).getLsbD c = false := by
    simp only [BitVec.getLsbD_and, BitVec.getLsbD_not, hbit, Bool.not_true, Bool.and_false]
  exact hclear _

/-! ### An expired watchdog (R312, R313) -/

/-- What the window shows of a step of the island is that step. -/
theorem shown_clock (h : s.IsleStep t) : s.clockKept t.safeShow := (h.trans (.of_work (safeShow_work t))).moves.clockKept

section watchdog

variable {e : Nat} (hr : s.coreRuns = true) (hd : (s.mir m).dead = false) (hwd : (nth (s.mir m).conns c {}).wd = some e)
  (he : e ≤ (s.mir m).time)
include hr hd hwd he

theorem connExpire_degrades (ho : (nth (s.mir (otherMirror m)).conns c {}).wd.isSome = true) (hw : blockWrapT (s.mir m).block ≠ 0) :
    s.connExpire m c = ((s.modMir m (·.modConn c (·.expired (some (s.mir m).time)))).raise 0xF7).safeShow := by
  have hdeg : ((nth (s.mir (otherMirror m)).conns c {}).wd.isSome && blockWrapT (s.mir m).block != 0) = true := by
    rw [ho, Bool.true_and]
    exact bne_iff_ne.mpr hw
  unfold connExpire
  dsimp only
  rw [hwd, mirRuns_of hd hr]
  refine (if_pos (decide_eq_true he)).trans ?_
  rw [hdeg]
  rfl

theorem connExpire_ends (hdeg : ((nth (s.mir (otherMirror m)).conns c {}).wd.isSome && blockWrapT (s.mir m).block != 0) = false) :
    s.connExpire m c = (((s.modMir m (·.modConn c (·.expired none))).modMir (otherMirror m) (·.modConn c MirConn.restored)).connTimesOut c
      ((nth (s.mir (otherMirror m)).conns c {}).wd.isSome || (nth (s.mir (otherMirror m)).conns c {}).degraded.isSome)
      (nth (s.mir (otherMirror m)).conns c {}).wd.isSome).safeShow := by
  unfold connExpire
  dsimp only
  rw [hwd, mirRuns_of hd hr]
  refine (if_pos (decide_eq_true he)).trans ?_
  rw [hdeg]
  rfl

theorem watchdog_degrades (hs : s.Shaped) (ho : (nth (s.mir (otherMirror m)).conns c {}).wd.isSome = true) (hw : blockWrapT (s.mir m).block ≠ 0) :
    Completes (.connectionWatchdog m c) s fun t =>
      (nth (t.mir m).conns c {}).wd = none ∧ (nth (t.mir m).conns c {}).degraded = some (s.mir m).time ∧ s.sent t 0xF7 ∧
      t.mir (otherMirror m) = s.mir (otherMirror m) ∧ s.clockKept t := by
  refine ⟨_, congrArg Host.Outcome.next (connExpire_degrades hr hd hwd he ho hw), ?_⟩
  have hm := modMir_moves s m (·.modConn c (·.expired (some (s.mir m).time)))
  have hconn := shaped_mir_conns hs m c (·.expired (some (s.mir m).time))
  have ho' := mir_modMir_other s m (·.modConn c (·.expired (some (s.mir m).time)))
  generalize s.modMir m (·.modConn c (·.expired (some (s.mir m).time))) = u at hm hconn ho' ⊢
  have hu : s.IsleStep u := .of_safe hm
  have hmir (n : Mirror) : (u.raise 0xF7).safeShow.mir n = u.mir n := (safeShow_mir _ n).trans (mir_congr (raise_safe ..) n)
  exact ⟨by rw [hmir, hconn]; rfl, by rw [hmir, hconn]; rfl, (sent_raise (hu.coreRuns hr) hm.clk 0xF7).of_events (safeShow_moves _).events,
    by rw [hmir, ho'], shown_clock (hu.raise _)⟩

omit hr hd hwd he in
/-- The state in which both mirrors have ended the connection. -/
theorem ended_state (hs : s.Shaped) (hdeg : (nth (s.mir (otherMirror m)).conns c {}).degraded = none) :
    Moves [.safe] s ((s.modMir m (·.modConn c (·.expired none))).modMir (otherMirror m) (·.modConn c MirConn.restored)) ∧
    nth ((((s.modMir m (·.modConn c (·.expired none))).modMir (otherMirror m) (·.modConn c MirConn.restored))).mir m).conns c {} =
      (nth (s.mir m).conns c {}).expired none ∧
    ((s.modMir m (·.modConn c (·.expired none))).modMir (otherMirror m) (·.modConn c MirConn.restored)).mir (otherMirror m) = s.mir (otherMirror m) := by
  have hsame : ((s.modMir m (·.modConn c (·.expired none))).modMir (otherMirror m) (·.modConn c MirConn.restored)).mir m =
      (s.modMir m (·.modConn c (·.expired none))).mir m := by cases m <;> rfl
  refine ⟨(modMir_moves s m _).trans (modMir_moves _ _ _), ?_, ?_⟩
  · rw [hsame]
    exact shaped_mir_conns hs m c _
  · rw [mir_modMir_same, mir_modMir_other]
    exact MirrorSt.modConn_restored (shaped_mir hs _) c hdeg

theorem watchdog_ends (hs : s.Shaped) (ho : (nth (s.mir (otherMirror m)).conns c {}).wd.isSome = true) (hw : blockWrapT (s.mir m).block = 0)
    (hod : (nth (s.mir (otherMirror m)).conns c {}).degraded = none) :
    Completes (.connectionWatchdog m c) s fun t =>
      (nth (t.mir m).conns c {}).wd = none ∧ (nth (t.mir m).conns c {}).degraded = none ∧ s.sent t 0xF5 ∧
      t.mir (otherMirror m) = s.mir (otherMirror m) ∧ s.clockKept t := by
  have hdeg : ((nth (s.mir (otherMirror m)).conns c {}).wd.isSome && blockWrapT (s.mir m).block != 0) = false := by rw [hw]; exact Bool.and_false _
  refine ⟨_, congrArg Host.Outcome.next (connExpire_ends hr hd hwd he hdeg), ?_⟩
  obtain ⟨hm, hconn, ho'⟩ := ended_state hs hod
  generalize (s.modMir m (·.modConn c (·.expired none))).modMir (otherMirror m) (·.modConn c MirConn.restored) = u at hm hconn ho' ⊢
  have hu : s.IsleStep u := .of_safe hm
  rw [ho, Bool.true_or]
  have hmir (n : Mirror) : (u.connTimesOut c true true).safeShow.mir n = u.mir n := (safeShow_mir _ n).trans (connTimesOut_mir ..)
  have hsent : u.sent (u.connTimesOut c true true).safeShow 0xF5 := (connTimesOut_sent rfl (hu.coreRuns hr)).of_events (safeShow_moves _).events
  exact ⟨by rw [hmir, hconn]; rfl, by rw [hmir, hconn]; rfl, sent_of_clk hsent hm.clk, by rw [hmir, ho'], shown_clock (hu.trans (connTimesOut_step ..))⟩

theorem watchdog_later (hs : s.Shaped) (ho : (nth (s.mir (otherMirror m)).conns c {}).wd = none)
    (hod : (nth (s.mir (otherMirror m)).conns c {}).degraded = none) :
    Completes (.connectionWatchdog m c) s fun t =>
      (nth (t.mir m).conns c {}).wd = none ∧ (nth (t.mir m).conns c {}).degraded = none ∧ t.safe.told.getLsbD c = false ∧
      (s.safe.told.getLsbD c = false → s.sent t 0xF5) ∧ (s.safe.told.getLsbD c = true → t.events = s.events) ∧ s.clockKept t := by
  have hdeg : ((nth (s.mir (otherMirror m)).conns c {}).wd.isSome && blockWrapT (s.mir m).block != 0) = false := by rw [ho]; rfl
  refine ⟨_, congrArg Host.Outcome.next (connExpire_ends hr hd hwd he hdeg), ?_⟩
  obtain ⟨hm, hconn, -⟩ := ended_state hs hod
  have htold : ((s.modMir m (·.modConn c (·.expired none))).modMir (otherMirror m) (·.modConn c MirConn.restored)).safe.told = s.safe.told := by
    cases m <;> rfl
  generalize (s.modMir m (·.modConn c (·.expired none))).modMir (otherMirror m) (·.modConn c MirConn.restored) = u at hm hconn htold ⊢
  have hu : s.IsleStep u := .of_safe hm
  simp only [ho, hod, Option.isSome_none, Bool.or_false]
  have hmir : (u.connTimesOut c false false).safeShow.mir m = u.mir m := (safeShow_mir _ m).trans (connTimesOut_mir ..)
  have hev := (safeShow_moves (u.connTimesOut c false false)).events
  refine ⟨by rw [hmir, hconn]; rfl, by rw [hmir, hconn]; rfl, by rw [(safeShow_moves _).safe]; exact connTimesOut_told u c false, fun h => ?_, fun h => ?_,
    shown_clock (hu.trans (connTimesOut_step ..))⟩
  · exact sent_of_clk ((connTimesOut_sent (by rw [htold, h]; rfl) (hu.coreRuns hr)).of_events hev) hm.clk
  · exact hev.trans ((connTimesOut_quiet (by rw [htold, h]; rfl)).trans hm.events)

end watchdog

theorem connDegradedEnd_eq {t0 : Nat} (hr : s.coreRuns = true) (hd : (s.mir m).dead = false)
    (hdeg : (nth (s.mir m).conns c {}).degraded = some t0) (ht : t0 + blockWrapT (s.mir m).block ≤ (s.mir m).time) :
    s.connDegradedEnd m c = ((s.modMir m (·.modConn c MirConn.restored)).connTimesOut c true
      (nth (s.mir (otherMirror m)).conns c {}).wd.isSome).safeShow := by
  unfold connDegradedEnd
  dsimp only
  rw [hdeg, mirRuns_of hd hr]
  have hdue : (true && decide (t0 + blockWrapT (s.mir m).block ≤ (s.mir m).time)) = true := by rw [Bool.true_and, decide_eq_true ht]
  exact if_pos hdue

theorem degradedEnd_gives {t0 : Nat} (hs : s.Shaped) (hr : s.coreRuns = true) (hd : (s.mir m).dead = false)
    (hdeg : (nth (s.mir m).conns c {}).degraded = some t0) (ht : t0 + blockWrapT (s.mir m).block ≤ (s.mir m).time) :
    Completes (.degradedTimeout m c) s fun t =>
      (nth (t.mir m).conns c {}).degraded = none ∧ s.sent t 0xF5 ∧ t.mir (otherMirror m) = s.mir (otherMirror m) ∧ s.clockKept t := by
  refine ⟨_, congrArg Host.Outcome.next (connDegradedEnd_eq hr hd hdeg ht), ?_⟩
  have hm := modMir_moves s m (·.modConn c MirConn.restored)
  have hconn := shaped_mir_conns hs m c MirConn.restored
  have ho := mir_modMir_other s m (·.modConn c MirConn.restored)
  generalize s.modMir m (·.modConn c MirConn.restored) = u at hm hconn ho ⊢
  generalize (nth (s.mir (otherMirror m)).conns c {}).wd.isSome = still
  have hu : s.IsleStep u := .of_safe hm
  have hmir (n : Mirror) : (u.connTimesOut c true still).safeShow.mir n = u.mir n := (safeShow_mir _ n).trans (connTimesOut_mir ..)
  have hsent : u.sent (u.connTimesOut c true still).safeShow 0xF5 := (connTimesOut_sent rfl (hu.coreRuns hr)).of_events (safeShow_moves _).events
  exact ⟨by rw [hmir, hconn]; rfl, sent_of_clk hsent hm.clk, by rw [hmir, ho], shown_clock (hu.trans (connTimesOut_step ..))⟩

/-! ### A connection fault (R312) -/

/-- The mirror's D have differed for longer than CMPT. -/
def differsLong (x : MirrorSt) (c : Nat) : Bool :=
  match (nth x.conns c {}).differs with
  | some t0 => decide (blockCmpt x.block < x.time - t0)
  | none => false

/-- The mirror's D have been equal for 1 s. -/
def equalLong (x : MirrorSt) (c : Nat) : Bool :=
  match (nth x.conns c {}).equal with
  | some t0 => decide (1000000 ≤ x.time - t0)
  | none => false

theorem differsLong_of {x : MirrorSt} {t0 : Nat} (h : (nth x.conns c {}).differs = some t0) (ht : blockCmpt x.block < x.time - t0) : differsLong x c = true := by
  rw [differsLong, h]
  exact decide_eq_true ht

theorem equalLong_of {x : MirrorSt} {t0 : Nat} (h : (nth x.conns c {}).equal = some t0) (ht : 1000000 ≤ x.time - t0) : equalLong x c = true := by
  rw [equalLong, h]
  exact decide_eq_true ht

theorem connFault_eq (s : State) (c : Nat) : s.connFault c =
    if (differsLong s.safe.a c || differsLong s.safe.b c) && !s.safe.cflt.getLsbD c then
      (((s.modSafe (fun z => { z with cflt := z.cflt ||| (1#8 <<< c) })).incS F.SAFE_CNT_FAULTS).raise 0xF5).safeShow
    else s := rfl

theorem connFaultClear_eq (s : State) (c : Nat) : s.connFaultClear c =
    if equalLong s.safe.a c && equalLong s.safe.b c then (s.modSafe (fun z => { z with cflt := z.cflt &&& ~~~(1#8 <<< c) })).safeShow else s := rfl

theorem connFault_gives {t0 : Nat} (hr : s.coreRuns = true) (hdiff : (nth (s.mir m).conns c {}).differs = some t0)
    (ht : blockCmpt (s.mir m).block < (s.mir m).time - t0) (hc : s.safe.cflt.getLsbD c = false) : Completes (.connectionFault c) s fun t =>
      t.safe.cflt = s.safe.cflt ||| (1#8 <<< c.val) ∧ s.sent t 0xF5 ∧ t.safe.a = s.safe.a ∧ t.safe.b = s.safe.b ∧ s.clockKept t := by
  have hlong : (differsLong s.safe.a c || differsLong s.safe.b c) = true := by
    have h := differsLong_of hdiff ht
    cases m
    · exact Bool.or_eq_true_iff.mpr (.inl h)
    · exact Bool.or_eq_true_iff.mpr (.inr h)
  have heq : s.connFault c = (((s.modSafe (fun z => { z with cflt := z.cflt ||| (1#8 <<< c.val) })).incS F.SAFE_CNT_FAULTS).raise 0xF5).safeShow := by
    rw [connFault_eq, hlong, hc]
    rfl
  refine ⟨_, congrArg Host.Outcome.next heq, ?_⟩
  have hm := modSafe_moves s (fun z => { z with cflt := z.cflt ||| (1#8 <<< c.val) })
  have hsafe : (s.modSafe (fun z => { z with cflt := z.cflt ||| (1#8 <<< c.val) })).safe = { s.safe with cflt := s.safe.cflt ||| (1#8 <<< c.val) } := rfl
  generalize s.modSafe (fun z => { z with cflt := z.cflt ||| (1#8 <<< c.val) }) = u at hm hsafe ⊢
  have hu : s.IsleStep (u.incS F.SAFE_CNT_FAULTS) :=
    (IsleStep.of_safe hm).trans (.of_work ((IsleWork.refl u).incS (f := F.SAFE_CNT_FAULTS) SAFE_CNT_in))
  have hend : ((u.incS F.SAFE_CNT_FAULTS).raise 0xF5).safeShow.safe = u.safe := (safeShow_moves _).safe.trans ((raise_safe ..).trans rfl)
  have hclk : (u.incS F.SAFE_CNT_FAULTS).clk = s.clk := (incS_clk ..).trans hm.clk
  exact ⟨by rw [hend, hsafe], (sent_raise (hu.coreRuns hr) hclk 0xF5).of_events (safeShow_moves _).events, by rw [hend, hsafe], by rw [hend, hsafe],
    shown_clock (hu.raise _)⟩

theorem connFaultClear_gives {ta tb : Nat} (ha : (nth s.safe.a.conns c {}).equal = some ta) (hb : (nth s.safe.b.conns c {}).equal = some tb)
    (hta : 1000000 ≤ s.safe.a.time - ta) (htb : 1000000 ≤ s.safe.b.time - tb) : Completes (.connectionFaultClear c) s fun t =>
      t.safe.cflt = s.safe.cflt &&& ~~~ (1#8 <<< c.val) ∧ t.safe.a = s.safe.a ∧ t.safe.b = s.safe.b ∧ t.events = s.events ∧ s.clockKept t := by
  have heq : s.connFaultClear c = (s.modSafe (fun z => { z with cflt := z.cflt &&& ~~~(1#8 <<< c.val) })).safeShow := by
    rw [connFaultClear_eq, equalLong_of ha hta, equalLong_of hb htb]
    rfl
  refine ⟨_, congrArg Host.Outcome.next heq, ?_⟩
  have hm := modSafe_moves s (fun z => { z with cflt := z.cflt &&& ~~~(1#8 <<< c.val) })
  have hsafe : (s.modSafe (fun z => { z with cflt := z.cflt &&& ~~~(1#8 <<< c.val) })).safe = { s.safe with cflt := s.safe.cflt &&& ~~~ (1#8 <<< c.val) } := rfl
  generalize s.modSafe (fun z => { z with cflt := z.cflt &&& ~~~(1#8 <<< c.val) }) = u at hm hsafe ⊢
  have hend : u.safeShow.safe = u.safe := (safeShow_moves _).safe
  exact ⟨by rw [hend, hsafe], by rw [hend, hsafe], by rw [hend, hsafe], (safeShow_moves _).events.trans hm.events, shown_clock (.of_safe hm)⟩

end State
end Sys2Proof.Machine

/-! The end of BOOT and power-on of a mirror (R295, R298, R317). -/

namespace Sys2Proof.Machine

set_option Elab.async false
namespace State

variable {s t u : State} {m : Mirror}

/-! ### A mirror leaves BOOT (R297, R298) -/

/-- The note of newest blocks that differ. -/
def bootNoted (s : State) (m : Mirror) : State := if s.newestDiffer then s.diag m 0x0B else s

/-- A mirror that has left BOOT with good self-tests. -/
def bootLeft (s : State) (m : Mirror) (x : MirrorSt) : MirrorSt :=
  match s.commonBlock with
  | some (i, j) =>
    { x with
      state := .active, live := some (if m = .a then i else j), filt := x.raw, shown := x.raw, counts := List.replicate 12 0
      conns := if nth x.store (if m = .a then i else j) [] = x.block then x.conns else List.replicate 8 {} }
  | none => { x with state := .unparam, live := none }

theorem leaveBoot_eq (hd : (s.mir m).dead = false) (hst : (s.mir m).state = .boot) (ho : (s.mir (otherMirror m)).dead = false) :
    s.leaveBoot m 0 = (s.bootNoted m).modMir m (s.bootLeft m) := by
  have hguard : ((s.mir m).dead || (s.mir m).state != .boot) = false := by rw [hd, hst]; rfl
  unfold leaveBoot
  dsimp only
  rw [hguard, ho, if_neg Bool.false_ne_true, if_neg (not_not.mpr rfl), if_neg Bool.false_ne_true]
  unfold bootLeft
  cases s.commonBlock <;> rfl

theorem leaveBoot_fails {code : Nat} (hd : (s.mir m).dead = false) (hst : (s.mir m).state = .boot) (hcode : code ≠ 0) :
    s.leaveBoot m code = s.mirrorFault m code := by
  have hguard : ((s.mir m).dead || (s.mir m).state != .boot) = false := by rw [hd, hst]; rfl
  unfold leaveBoot
  dsimp only
  rw [hguard, if_neg Bool.false_ne_true, if_pos hcode]

theorem bootNoted_moves (s : State) (m : Mirror) : Moves [.safe] s (s.bootNoted m) := .ite (diag_moves s m 0x0B) (.refl s)

theorem bootNoted_other (s : State) (m : Mirror) : (s.bootNoted m).mir (otherMirror m) = s.mir (otherMirror m) := by
  unfold bootNoted
  split
  · exact mir_modMir_other ..
  · rfl

/-- What the note of BOOT leaves of a mirror: all but its history. -/
theorem bootNoted_mir (s : State) (m : Mirror) : ∃ h, (s.bootNoted m).mir m = { s.mir m with hist := h } := by
  unfold bootNoted
  split
  · exact ⟨_, mir_modMir_same ..⟩
  · exact ⟨(s.mir m).hist, rfl⟩

/-- What a mirror that leaves BOOT with good self-tests leaves. -/
structure BootEnded (s : State) (m : Mirror) (t : State) : Prop where
  moves : Moves [.safe] s t
  mir : ∃ h, t.mir m = s.bootLeft m { s.mir m with hist := h }
  other : t.mir (otherMirror m) = s.mir (otherMirror m)
  limpDue : t.safe.limpDue = s.safe.limpDue

theorem bootNoted_limpDue (s : State) (m : Mirror) : (s.bootNoted m).safe.limpDue = s.safe.limpDue := by
  unfold bootNoted
  split
  · exact modMir_limpDue ..
  · rfl

theorem leaveBoot_ended (hd : (s.mir m).dead = false) (hst : (s.mir m).state = .boot) (ho : (s.mir (otherMirror m)).dead = false) :
    BootEnded s m (s.leaveBoot m 0) := by
  obtain ⟨h, hmir⟩ := bootNoted_mir s m
  rw [leaveBoot_eq hd hst ho]
  exact ⟨(bootNoted_moves s m).trans (modMir_moves _ m _), ⟨h, by rw [mir_modMir_same, hmir]⟩, by rw [mir_modMir_other, bootNoted_other],
    (modMir_limpDue ..).trans (bootNoted_limpDue s m)⟩

theorem bootLeft_none (h : s.commonBlock = none) (x : MirrorSt) : s.bootLeft m x = { x with state := .unparam, live := none } := by
  rw [bootLeft, h]

theorem bootLeft_store (s : State) (m : Mirror) (x : MirrorSt) : (s.bootLeft m x).store = x.store := by
  unfold bootLeft
  split <;> rfl

theorem bootLeft_outs (s : State) (m : Mirror) (x : MirrorSt) : (s.bootLeft m x).outs = x.outs := by
  unfold bootLeft
  split <;> rfl

theorem bootLeft_dead (s : State) (m : Mirror) (x : MirrorSt) : (s.bootLeft m x).dead = x.dead := by
  unfold bootLeft
  split <;> rfl

/-- The block that both mirrors hold is a matter of their stores. -/
theorem commonBlock_congr (ha : t.safe.a.store = s.safe.a.store) (hb : t.safe.b.store = s.safe.b.store) : t.commonBlock = s.commonBlock := by
  unfold commonBlock
  rw [ha, hb]

/-! ### The end of BOOT in both mirrors -/

section bothBoot

variable (hda : s.safe.a.dead = false) (hdb : s.safe.b.dead = false) (hsa : s.safe.a.state = .boot) (hsb : s.safe.b.state = .boot)
include hda hdb hsa hsb

/-- Both mirrors leave BOOT with what their common block gives. -/
theorem bothBoot_mir : ∃ ha hb, ((s.leaveBoot .a 0).leaveBoot .b 0).safe.a = s.bootLeft .a { s.safe.a with hist := ha } ∧
    ((s.leaveBoot .a 0).leaveBoot .b 0).safe.b = s.bootLeft .b { s.safe.b with hist := hb } := by
  have h1 : BootEnded s .a (s.leaveBoot .a 0) := leaveBoot_ended hda hsa hdb
  obtain ⟨ha, hmira⟩ := h1.mir
  have hb1 : (s.leaveBoot .a 0).safe.b = s.safe.b := h1.other
  have ha1 : (s.leaveBoot .a 0).safe.a = s.bootLeft .a { s.safe.a with hist := ha } := hmira
  have h2 : BootEnded (s.leaveBoot .a 0) .b ((s.leaveBoot .a 0).leaveBoot .b 0) := by
    refine leaveBoot_ended ((congrArg MirrorSt.dead hb1).trans hdb) ((congrArg MirrorSt.state hb1).trans hsb) ?_
    exact (congrArg MirrorSt.dead ha1).trans ((bootLeft_dead ..).trans hda)
  obtain ⟨hb, hmirb⟩ := h2.mir
  have hcommon : (s.leaveBoot .a 0).commonBlock = s.commonBlock :=
    commonBlock_congr ((congrArg MirrorSt.store ha1).trans (bootLeft_store ..)) (congrArg MirrorSt.store hb1)
  refine ⟨ha, hb, Eq.trans h2.other ha1, Eq.trans hmirb ?_⟩
  have hleft (x : MirrorSt) : (s.leaveBoot .a 0).bootLeft .b x = s.bootLeft .b x := by rw [bootLeft, bootLeft, hcommon]
  rw [hleft]
  exact congrArg (fun y : MirrorSt => s.bootLeft .b { y with hist := hb }) hb1

theorem bothBoot_step : s.IsleStep (s.islandBootEnd 0 0) := by
  have h1 : BootEnded s .a (s.leaveBoot .a 0) := leaveBoot_ended hda hsa hdb
  have hb1 : (s.leaveBoot .a 0).safe.b = s.safe.b := h1.other
  obtain ⟨ha, hmira⟩ := h1.mir
  have h2 : BootEnded (s.leaveBoot .a 0) .b ((s.leaveBoot .a 0).leaveBoot .b 0) := by
    refine leaveBoot_ended ((congrArg MirrorSt.dead hb1).trans hdb) ((congrArg MirrorSt.state hb1).trans hsb) ?_
    exact (congrArg MirrorSt.dead hmira).trans ((bootLeft_dead ..).trans hda)
  exact island_step (f := fun t => (t.leaveBoot .a 0).leaveBoot .b 0) (.of_safe (h1.moves.trans h2.moves))

theorem bothBoot_ends (hr : s.policyRests) : ∃ ha hb, (s.islandDoes (·.islandBootEnd 0 0)).safe.a = s.bootLeft .a { s.safe.a with hist := ha } ∧
    (s.islandDoes (·.islandBootEnd 0 0)).safe.b = s.bootLeft .b { s.safe.b with hist := hb } ∧ s.clockKept (s.islandDoes (·.islandBootEnd 0 0)) := by
  obtain ⟨ha, hb, hmira, hmirb⟩ := bothBoot_mir hda hdb hsa hsb
  have hend := islandDoes_ends (s := s) (f := (·.islandBootEnd 0 0)) (bothBoot_step hda hdb hsa hsb) hr
  have hisle (n : Mirror) : (s.islandBootEnd 0 0).mir n = ((s.leaveBoot .a 0).leaveBoot .b 0).mir n :=
    island_mir s (fun t => (t.leaveBoot .a 0).leaveBoot .b 0) n
  exact ⟨ha, hb, (hend.mir .a).trans ((hisle .a).trans hmira), (hend.mir .b).trans ((hisle .b).trans hmirb), hend.clock⟩

theorem bootEnd_active (hr : s.policyRests) (i j : Nat) (hc : s.commonBlock = some (i, j)) : Completes (.islandBootEnd 0 0) s fun t =>
    t.safe.a.state = .active ∧ t.safe.b.state = .active ∧ t.safe.a.live = some i ∧ t.safe.b.live = some j ∧
    t.safe.a.outs = s.safe.a.outs ∧ t.safe.b.outs = s.safe.b.outs ∧ s.clockKept t := by
  obtain ⟨ha, hb, hmira, hmirb, hclk⟩ := bothBoot_ends hda hdb hsa hsb hr
  have hact (n : Mirror) (x : MirrorSt) : (s.bootLeft n x).state = .active ∧ (s.bootLeft n x).live = some (if n = .a then i else j) := by
    rw [bootLeft, hc]
    exact ⟨rfl, rfl⟩
  exact ⟨_, rfl, (congrArg MirrorSt.state hmira).trans (hact .a _).1, (congrArg MirrorSt.state hmirb).trans (hact .b _).1,
    (congrArg MirrorSt.live hmira).trans (hact .a _).2, (congrArg MirrorSt.live hmirb).trans (hact .b _).2,
    (congrArg MirrorSt.outs hmira).trans (bootLeft_outs ..), (congrArg MirrorSt.outs hmirb).trans (bootLeft_outs ..), hclk⟩

theorem bootEnd_unparam (hr : s.policyRests) (hc : s.commonBlock = none) : Completes (.islandBootEnd 0 0) s fun t =>
    t.safe.a.state = .unparam ∧ t.safe.b.state = .unparam ∧ t.safe.a.live = none ∧ t.genOn = false ∧ s.clockKept t := by
  obtain ⟨ha, hb, hmira, hmirb, hclk⟩ := bothBoot_ends hda hdb hsa hsb hr
  rw [bootLeft_none hc] at hmira hmirb
  have hstate := congrArg MirrorSt.state hmira
  exact ⟨_, rfl, hstate, congrArg MirrorSt.state hmirb, congrArg MirrorSt.live hmira,
    genOn_of_cmd (m := .a) (MirrorSt.cmd_of_state (hstate.trans_ne MirState.noConfusion) 0), hclk⟩

theorem bootEnd_fault (hr : s.policyRests) {code : BitVec 8} (hcode : code ≠ 0) (hsaid : s.safe.faultSaid = false) :
    Completes (.islandBootEnd code 0) s fun t => t.safe.a.state = .fault ∧ t.genOn = false ∧ s.sent t 0xF6 ∧ t.mode = .limp ∧ s.clockKept t := by
  have hne : code.toNat ≠ 0 := fun h => hcode (BitVec.eq_of_toNat_eq h)
  have h1 : FaultMade s .a code.toNat (s.leaveBoot .a code.toNat) := by
    rw [leaveBoot_fails (m := .a) hda hsa hne]
    exact mirrorFault_made hda (.inl hsa) hsaid hr.1
  have ha1 : (s.leaveBoot .a code.toNat).safe.a = s.safe.a.failed code.toNat s.shortStamp := h1.mir
  have hb1 : (s.leaveBoot .a code.toNat).safe.b = s.safe.b := h1.other
  have h2 : BootEnded (s.leaveBoot .a code.toNat) .b ((s.leaveBoot .a code.toNat).leaveBoot .b 0) :=
    leaveBoot_ended ((congrArg MirrorSt.dead hb1).trans hdb) ((congrArg MirrorSt.state hb1).trans hsb) ((congrArg MirrorSt.dead ha1).trans hda)
  have hstep : s.IsleStep ((s.leaveBoot .a code.toNat).leaveBoot .b 0) := h1.step.trans (.of_safe h2.moves)
  have hend := islandDoes_ends (s := s) (f := (·.islandBootEnd code.toNat 0))
    (island_step (f := fun t => (t.leaveBoot .a code.toNat).leaveBoot .b 0) hstep) hr
  have hisle : (s.islandBootEnd code.toNat 0).mir .a = ((s.leaveBoot .a code.toNat).leaveBoot .b 0).mir .a :=
    island_mir s (fun t => (t.leaveBoot .a code.toNat).leaveBoot .b 0) .a
  have hmira : (s.islandDoes (·.islandBootEnd code.toNat 0)).safe.a = s.safe.a.failed code.toNat s.shortStamp :=
    Eq.trans (hend.mir .a) (hisle.trans (Eq.trans h2.other ha1))
  have hstate := congrArg MirrorSt.state hmira
  have hdue : (s.islandBootEnd code.toNat 0).safe.limpDue = true :=
    (island_limpDue s (fun t => (t.leaveBoot .a code.toNat).leaveBoot .b 0)).trans (h2.limpDue.trans h1.limpDue)
  have hsent : s.sent (s.islandBootEnd code.toNat 0) 0xF6 :=
    (h1.sent.of_events h2.moves.events).keeps (settleOuts_step _ s).lasts
  exact ⟨_, rfl, hstate, genOn_of_cmd (m := .a) (MirrorSt.cmd_of_state (hstate.trans_ne MirState.noConfusion) 0), hsent.keeps hend.lasts,
    hend.mode.trans (by rw [hdue, if_pos rfl]), hend.clock⟩

end bothBoot

/-! ### Power-on of a mirror (R295) -/

theorem mirrorPowerOn_gives (hr : s.policyRests) (hd : (s.mir m).dead = true) : Completes (.mirrorRegulatorPowerOn m) s fun t =>
    (t.mir m).dead = false ∧ (t.mir m).state = .boot ∧ (t.mir m).store = (s.mir m).store ∧ (t.mir m).live = none ∧
    t.mir (otherMirror m) = s.mir (otherMirror m) ∧ s.clockKept t := by
  have heq : s.mirrorPowerOn m = s.island (·.modMir m (·.powerOn)) := by
    unfold mirrorPowerOn
    rw [hd, coreRuns_phase hr.1]
    rfl
  have hend := islandDoes_ends (s := s) (f := (·.mirrorPowerOn m)) (by rw [heq]; exact island_step ((IsleStep.refl s).modMir m _)) hr
  have hmir (n : Mirror) : (s.islandDoes (·.mirrorPowerOn m)).mir n = (s.modMir m (·.powerOn)).mir n := by
    rw [hend.mir, heq, island_mir]
  have hsame : (s.islandDoes (·.mirrorPowerOn m)).mir m = (s.mir m).powerOn := (hmir m).trans (mir_modMir_same ..)
  exact ⟨_, rfl, by rw [hsame]; rfl, by rw [hsame]; rfl, by rw [hsame]; rfl, by rw [hsame]; rfl, (hmir _).trans (mir_modMir_other ..), hend.clock⟩

end State

/-- Settles O50: the watchdogs and faults of the connections, the end of BOOT by the common block or a self-test's code, and power-on. -/
theorem islandConnectionsAndBoot : Obligations.IslandConnectionsAndBoot :=
  ⟨fun _ _ _ _ hs hr hd hwd he ho =>
      ⟨State.watchdog_degrades hr hd hwd he hs ho, State.watchdog_ends hr hd hwd he hs ho⟩,
    fun _ _ _ _ hs hr hd hwd he ho hod => State.watchdog_later hr hd hwd he hs ho hod,
    fun _ _ _ _ _ hr hdiff ht hc => State.connFault_gives hr hdiff ht hc,
    fun _ _ _ _ ha hb hta htb => State.connFaultClear_gives ha hb hta htb,
    fun _ _ _ _ hs hr hd hdeg ht => State.degradedEnd_gives hs hr hd hdeg ht,
    fun _ hr hda hdb hsa hsb => ⟨State.bootEnd_active hda hdb hsa hsb hr, State.bootEnd_unparam hda hdb hsa hsb hr,
      fun _ hcode hsaid => State.bootEnd_fault hda hdb hsa hsb hr hcode hsaid⟩,
    fun _ _ hr hd => State.mirrorPowerOn_gives hr hd⟩

end Sys2Proof.Machine

/-! The intake of a converted value, and the read of its data register (R67, R74). -/

namespace Sys2Proof.Machine

set_option Elab.async false
namespace State

variable {s t u : State} {v : Conv} {w : Nat}

/-! ### What lies behind ACQ_DATAn: the windows, the streams and the Weathervane -/

/-- The parts that an intake value may change behind its data register. -/
abbrev intakeParts : List Part := [.regs, .cycle, .prism, .wvn, .tst, .rtc, .mram, .events, .stew, .draws]

/-- Work of the Prism, the Weathervane and the marks of the test unit, which leaves the registers below the Prism's and drops no event. -/
structure Behind (s t : State) : Prop where
  moves : Moves intakeParts s t
  writes : s.Writes (0x40030000 ≤ ·) t
  lasts : s.EventsLast t

namespace Behind

theorem refl (s : State) : s.Behind s := ⟨.refl s, .refl s, .refl s⟩
theorem trans (h : s.Behind t) (h' : t.Behind u) : s.Behind u := ⟨h.moves.trans h'.moves, h.writes.trans h'.writes, h.lasts.trans h'.lasts⟩
theorem ite {p : Prop} [Decidable p] (ht : s.Behind t) (hu : s.Behind u) : s.Behind (if p then t else u) := by split <;> assumption
theorem raise (h : s.Behind t) {src : Nat} : s.Behind (t.raise src) := ⟨h.moves.raise, h.writes.raise, h.lasts.raise src⟩
theorem put (h : s.Behind t) {f : Fld} {n : Nat} (hf : 0x40030000 ≤ f.addr) : s.Behind (t.put f n) :=
  ⟨h.moves.put, h.writes.put hf, .same h.lasts (put_events ..)⟩
theorem putBit (h : s.Behind t) {a i : Nat} {b : Bool} (ha : 0x40030000 ≤ a) : s.Behind (t.putBit a i b) := h.put (f := ⟨a, i, 1⟩) ha
theorem void (h : s.Behind t) {src : VoidSrc} {state : Bool} {c : Nat} {stamp : Word} : s.Behind (t.void src state c stamp) :=
  ⟨h.moves.void, h.writes.void (fun b (hb : 0x40100000 ≤ b) => (by omega : 0x40030000 ≤ b)), h.lasts.void⟩
/-- A change of records that are no registers. -/
theorem still {A : List Part} (hm : Moves A s t) (hr : A.elem .regs = false := by decide) (he : A.elem .events = false := by decide)
    (hA : A ⊆ intakeParts := by decide) : s.Behind t := ⟨hm.mono hA, .of_regs (hm.regs hr), .same (.refl s) (hm.events he)⟩
theorem forAll (h : s.Behind t) {n : Nat} {f : Nat → State → State} (hf : ∀ i u, s.Behind u → s.Behind (f i u)) : s.Behind (t.forAll n f) :=
  forAll_rec (p := fun _ u => s.Behind u) h fun i u _ hu => hf i u hu

end Behind

theorem modPrism_behind (s : State) (f : Prism → Prism) : s.Behind (s.modPrism f) := .still (A := [.prism]) (.record (.refl s) (by rfl))
theorem modPrismWin_behind (s : State) (w : Nat) (f : PrismWin → PrismWin) : s.Behind (s.modPrismWin w f) := modPrism_behind s _
theorem modSet_behind (s : State) (k : Nat) (f : SetSt → SetSt) : s.Behind (s.modSet k f) := .still (A := [.wvn]) (.record (.refl s) (by rfl))

theorem publishing_behind (s : State) (w : Nat) (acc : WinAcc) : s.Behind (s.publishing w acc) := by
  refine ⟨(publishing_moves s w acc).mono (by decide), ?_, .same (.refl s) (publishing_moves s w acc).events⟩
  have hchans := (publishedChans_writes (s, false) w acc (List.range (s.winNch w))).mono (Q := (0x40030000 ≤ ·)) fun b hb => by
    obtain ⟨m, -, rfl⟩ := hb
    simp only [R.PRISM_RESw_m]
    omega
  have hinfo := (infoShownOf_writes s (publishedChans (s, false) w acc (List.range (s.winNch w))).1 w acc).mono (Q := (0x40030000 ≤ ·)) fun b hb => by
    simp only [R.PRISM_WINw_INFO, R.PRISM_WINw_STAMP] at hb
    omega
  have hclosed := (publishClosed_writes s (s.infoShownOf (publishedChans (s, false) w acc (List.range (s.winNch w))).1 w acc) w acc).mono
    (Q := (0x40030000 ≤ ·)) fun b hb => by
      simp only [publishFlags] at hb
      omega
  exact (hchans.trans hinfo).trans hclosed

theorem publish_behind (s : State) (w : Nat) (acc : WinAcc) : s.Behind (s.publish w acc) := by
  have h := publishing_behind s w acc
  rw [publish_eq]
  exact .ite (Behind.raise (.ite h.raise h)) (.ite h.raise h)

theorem PRISM_LATE_above (w : Nat) : 0x40030000 ≤ (if w < 32 then R.PRISM_LATE0 else R.PRISM_LATE1) := by split <;> decide

theorem lateValue_behind (s : State) (w : Nat) (v : Conv) (p : PubWin) : s.Behind (s.lateValue w v p) := by
  unfold lateValue
  dsimp only
  exact .ite (.refl s) (Behind.void (Behind.raise (Behind.put (Behind.putBit (modPrismWin_behind s w _) (PRISM_LATE_above w)) (by decide))))

theorem takePublished_behind (s : State) (v : Conv) (w : Nat) : s.Behind (s.takePublished v w) := by
  unfold takePublished
  split
  · exact .ite (lateValue_behind s w v _) (.refl s)
  · exact .refl s

theorem takeClosed_behind (s : State) (v : Conv) (w : Nat) : s.Behind (s.takeClosed v w) := by
  unfold takeClosed
  split
  · exact .ite (.ite ((publish_behind s w _).trans (takePublished_behind _ v w)) (modPrismWin_behind s w _)) (takePublished_behind s v w)
  · exact takePublished_behind s v w

theorem windowTake_behind (s : State) (v : Conv) (w : Nat) : s.Behind (s.windowTake v w) := by
  unfold windowTake
  refine .ite ?_ (.refl s)
  split
  · exact .ite (modPrismWin_behind s w _) (takeClosed_behind s v w)
  · exact takeClosed_behind s v w

theorem streamTake_behind (s : State) (v : Conv) : s.Behind (s.streamTake v) := by
  unfold streamTake
  exact .ite (.refl s) (modPrism_behind s _)

theorem setTake_behind (s : State) (v : Conv) (k : Nat) : s.Behind (s.setTake v k) := by
  have hlate : s.Behind ((s.modSet k (fun x => { x with lastLate := true })).set1 (F.WVN_SETs_STAT_LATE k)) := by
    refine Behind.put (modSet_behind s k _) ?_
    simp only [R.WVN_SETs_STAT]
    omega
  unfold setTake
  extract_lets
  refine .ite (.ite (modSet_behind s k _) ?_) (.refl s)
  split
  · exact .ite (.ite (modSet_behind s k _) (modSet_behind s k _)) (.refl s)
  · exact .ite hlate (.refl s)

theorem wvnTake_behind (s : State) (v : Conv) : s.Behind (s.wvnTake v) := .forAll (.refl s) fun k u hu => hu.trans (setTake_behind u v k)

/-- A value goes on from its data register to the windows, the streams and the sets. -/
def passOn (s : State) (v : Conv) : State := ((s.forAll 64 (fun w u => u.windowTake v w)).streamTake v).wvnTake v

theorem passOn_behind (s : State) (v : Conv) : s.Behind (s.passOn v) :=
  ((Behind.forAll (.refl s) fun w u hu => hu.trans (windowTake_behind u v w)).trans (streamTake_behind _ v)).trans (wvnTake_behind _ v)

/-! ### The data register (R74) -/

/-- The word that ACQ_DATAn takes with a value. -/
def dataWord (s : State) (v : Conv) : Word :=
  BitVec.ofNat 32 (wrapTo 16 v.value + 2 ^ 16 * v.chan + 2 ^ 24 * bit1 v.opened + 2 ^ 25 * bit1 v.spare +
    2 ^ 26 * bit1 v.bad + 2 ^ 30 * bit1 (s.on (F.ACQ_DATAn_VALID v.slice) || s.on (F.ACQ_DATAn_OVR v.slice)) + 2 ^ 31)

/-- A word in the data register of a slice, with its stamp. -/
def dataStored (s : State) (n : Nat) (x stamp : Word) : State :=
  (s.load (R.ACQ_DATAn n) x).modAcq (fun a => { a with dataStamps := upd a.dataStamps n (fun _ => stamp) })

theorem dataStored_acq (s : State) (n : Nat) (x stamp : Word) :
    (s.dataStored n x stamp).acq = { s.acq with dataStamps := upd s.acq.dataStamps n (fun _ => stamp) } := rfl

theorem load_moves (s : State) (a : Nat) (x : Word) : Moves [.regs, .cycle] s (s.load a x) := .record (.wr (.refl s) (a := a) (v := x)) (by rfl)

theorem modAcq_moves (s : State) (f : Acq → Acq) : Moves [.acq] s (s.modAcq f) := .record (.refl s) (by rfl)

theorem dataStored_moves (s : State) (n : Nat) (x stamp : Word) : Moves [.regs, .cycle, .acq] s (s.dataStored n x stamp) :=
  ((load_moves s (R.ACQ_DATAn n) x).mono (by decide)).trans ((modAcq_moves _ _).mono (by decide))

theorem dataStored_rd (s : State) (n : Nat) (x stamp : Word) (b : Nat) :
    (s.dataStored n x stamp).rd b = if b = R.ACQ_DATAn n then x else s.rd b := by
  unfold dataStored
  rw [rd_congr (modAcq_moves (s.load (R.ACQ_DATAn n) x) _).regs b]
  exact rd_wr ..

/-- The value in its data register, with its stamp. -/
def dataHeld (s : State) (v : Conv) : State := s.dataStored v.slice (s.dataWord v) (BitVec.ofNat 32 v.stamp)

theorem dataTake_eq (s : State) (v : Conv) : s.dataTake v =
    if s.on (F.ACQ_DATAn_VALID v.slice) then ((s.dataHeld v).set1 F.ACQ_STAT_OVR_ANY).raise 0x30 else s.dataHeld v := by
  unfold dataTake dataHeld dataStored dataWord
  rfl

theorem dataHeld_acq (s : State) (v : Conv) :
    (s.dataHeld v).acq = { s.acq with dataStamps := upd s.acq.dataStamps v.slice (fun _ => BitVec.ofNat 32 v.stamp) } := dataStored_acq ..

theorem dataHeld_moves (s : State) (v : Conv) : Moves [.regs, .cycle, .acq] s (s.dataHeld v) := dataStored_moves ..

theorem dataHeld_rd (s : State) (v : Conv) (b : Nat) : (s.dataHeld v).rd b = if b = R.ACQ_DATAn v.slice then s.dataWord v else s.rd b :=
  dataStored_rd ..

theorem dataTake_acq (s : State) (v : Conv) : (s.dataTake v).acq = (s.dataHeld v).acq := by
  rw [dataTake_eq]
  split
  · exact (raise_acq ..).trans (set1_acq ..)
  · rfl

theorem dataTake_rd (s : State) (v : Conv) (hv : v.slice < 16) : (s.dataTake v).rd (R.ACQ_DATAn v.slice) = s.dataWord v := by
  have hheld : (s.dataHeld v).rd (R.ACQ_DATAn v.slice) = s.dataWord v := (dataHeld_rd ..).trans (if_pos rfl)
  rw [dataTake_eq]
  split
  · have hne : R.ACQ_DATAn v.slice ≠ R.ACQ_STAT := by simp only [R.ACQ_STAT, R.ACQ_DATAn]; omega
    exact (rd_raise ..).trans ((rd_put_other (s.dataHeld v) F.ACQ_STAT_OVR_ANY 1 _ hne).trans hheld)
  · exact hheld

/-- The packed value: VALUE, CHAN, OVR and VALID. -/
theorem dataWord_bits {value chan : Nat} (hv : value < 2 ^ 16) (hc : chan < 96) (a b c d : Bool) :
    let x := BitVec.ofNat 32 (value + 2 ^ 16 * chan + 2 ^ 24 * bit1 a + 2 ^ 25 * bit1 b + 2 ^ 26 * bit1 c + 2 ^ 30 * bit1 d + 2 ^ 31)
    getBits x 0 16 = value ∧ getBits x 16 7 = chan ∧ getBits x 30 1 = bit1 d ∧ getBits x 31 1 = 1 := by
  dsimp only
  rw [getBits_ofNat _ (by decide), getBits_ofNat _ (by decide), getBits_ofNat _ (by decide), getBits_ofNat _ (by decide)]
  cases a <;> cases b <;> cases c <;> cases d <;> simp only [bit1, if_true, if_false, Bool.false_eq_true] <;> omega

/-! ### The first value in order reaches the intake -/

/-- The intake without the first value in order. -/
def flightLeft (s : State) (rest : List Conv) : State := s.modAcq (fun a => { a with flight := rest })

theorem intakeArrival_eq {rest : List Conv} (hr : s.coreRuns = true) (hf : s.acq.flight = v :: rest) (hdue : s.due v.due = true) :
    s.intakeArrival = ((s.flightLeft rest).dataTake v).passOn v := by
  unfold intakeArrival
  rw [hf, hr]
  exact if_pos hdue

theorem intake_flight {rest : List Conv} (hs : s.Shaped) (hr : s.coreRuns = true) (hf : s.acq.flight = v :: rest) (hdue : s.due v.due = true)
    (hv : v.slice < 16) : Completes .intakeArrival s fun t =>
      t.acq.flight = rest ∧ nth t.acq.dataStamps v.slice 0 = BitVec.ofNat 32 v.stamp := by
  have hacq : (((s.flightLeft rest).dataTake v).passOn v).acq = ((s.flightLeft rest).dataHeld v).acq :=
    (passOn_behind _ v).moves.acq.trans (dataTake_acq _ v)
  refine ⟨_, congrArg Host.Outcome.next (intakeArrival_eq hr hf hdue), ?_⟩
  dsimp only
  rw [hacq, dataHeld_acq]
  exact ⟨rfl, nth_upd_same _ _ _ _ (hv.trans_eq hs.stamps.symm)⟩

theorem intake_data {rest : List Conv} (hr : s.coreRuns = true) (hf : s.acq.flight = v :: rest) (hdue : s.due v.due = true) (hv : v.slice < 16)
    (hc : v.chan < 96) : Completes .intakeArrival s fun t =>
      t.on (F.ACQ_DATAn_VALID v.slice) = true ∧ t.get (F.ACQ_DATAn_CHAN v.slice) = v.chan ∧
      t.get (F.ACQ_DATAn_VALUE v.slice) = wrapTo 16 v.value ∧
      (s.on (F.ACQ_DATAn_VALID v.slice) = true → t.on (F.ACQ_DATAn_OVR v.slice) = true ∧ s.sent t 0x30) := by
  refine ⟨_, congrArg Host.Outcome.next (intakeArrival_eq hr hf hdue), ?_⟩
  have hleft : Moves [.acq] s (s.flightLeft rest) := .record (.refl s) (by rfl)
  generalize s.flightLeft rest = u at hleft ⊢
  have hbehind := passOn_behind (u.dataTake v) v
  have hrd : ((u.dataTake v).passOn v).rd (R.ACQ_DATAn v.slice) = u.dataWord v :=
    (hbehind.writes.rd (by simp only [R.ACQ_DATAn]; omega)).trans (dataTake_rd u v hv)
  have hget (f : Fld) (h : f.addr = R.ACQ_DATAn v.slice) : ((u.dataTake v).passOn v).get f = getBits (u.dataWord v) f.lo f.width := by
    rw [get, h, hrd]
  obtain ⟨hvalue, hchan, hovr, hvalid⟩ := dataWord_bits (wrapTo_lt 16 v.value) hc v.opened v.spare v.bad
    (u.on (F.ACQ_DATAn_VALID v.slice) || u.on (F.ACQ_DATAn_OVR v.slice))
  refine ⟨?_, (hget _ rfl).trans hchan, (hget _ rfl).trans hvalue, fun hold => ⟨?_, ?_⟩⟩
  · exact bne_iff_ne.mpr (((hget (F.ACQ_DATAn_VALID v.slice) rfl).trans hvalid).trans_ne one_ne_zero)
  · have hold' : u.on (F.ACQ_DATAn_VALID v.slice) = true := (on_congr hleft.regs _).trans hold
    have hbit : bit1 (u.on (F.ACQ_DATAn_VALID v.slice) || u.on (F.ACQ_DATAn_OVR v.slice)) = 1 := by rw [hold']; rfl
    exact bne_iff_ne.mpr (((hget (F.ACQ_DATAn_OVR v.slice) rfl).trans (hovr.trans hbit)).trans_ne one_ne_zero)
  · have hold' : u.on (F.ACQ_DATAn_VALID v.slice) = true := (on_congr hleft.regs _).trans hold
    have hheld := dataHeld_moves u v
    have hruns : ((u.dataHeld v).set1 F.ACQ_STAT_OVR_ANY).coreRuns = true := by
      refine (coreRuns_of_rd ((hleft.mono (by decide)).trans (Moves.put hheld (f := F.ACQ_STAT_OVR_ANY) (n := 1))).sys ?_).trans hr
      have hne : R.SYS_MODE ≠ R.ACQ_DATAn v.slice := by simp only [R.ACQ_DATAn, R.SYS_MODE]; omega
      exact (rd_put_other (u.dataHeld v) F.ACQ_STAT_OVR_ANY 1 _ (by decide)).trans
        ((dataHeld_rd ..).trans ((if_neg hne).trans (rd_congr hleft.regs _)))
    have hclk : ((u.dataHeld v).set1 F.ACQ_STAT_OVR_ANY).clk = s.clk := (set1_clk ..).trans (hheld.clk.trans hleft.clk)
    have hsent : s.sent (u.dataTake v) 0x30 := by
      rw [dataTake_eq, if_pos hold']
      exact sent_raise hruns hclk 0x30
    exact hsent.keeps hbehind.lasts

/-! ### A read of ACQ_DATAn -/

theorem readEffect_ACQ_DATAn (s : State) (n : Fin 16) : s.readEffect (R.ACQ_DATAn n) = s.takeData n := by
  fin_cases n <;> rfl

theorem ACQ_DATAn_isRegister (n : Fin 16) : R.ACQ_DATAn n % 4 = 0 ∧ regionOf (R.ACQ_DATAn n) = .block := by
  fin_cases n <;> exact ⟨rfl, rfl⟩

theorem acqDataRead_gives (hrun : s.sys.phase = .run) (w : World) (n : Fin 16) : Completes (.acqDataRead w n) s fun t =>
    t.on (F.ACQ_DATAn_VALID n) = false ∧ t.get (F.ACQ_DATAn_VALUE n) = s.get (F.ACQ_DATAn_VALUE n) ∧
    t.rd (R.ACQ_STAMPn n) = nth s.acq.dataStamps n 0 ∧
    (∀ b, b ≠ R.ACQ_DATAn n → b ≠ R.ACQ_STAMPn n → t.rd b = s.rd b) ∧ t.acq = s.acq := by
  obtain ⟨ha, hb⟩ := ACQ_DATAn_isRegister n
  have hm := read_moves hrun w ha hb
  rw [readEffect_ACQ_DATAn] at hm
  have hacq : (s.takeData n).acq = s.acq := (wr_acq ..).trans (clr_acq ..)
  have hne : R.ACQ_DATAn n ≠ R.ACQ_STAMPn n := by simp only [R.ACQ_STAMPn, R.ACQ_DATAn]; omega
  refine ⟨_, rfl, (on_congr hm.regs _).trans ?_, (get_congr hm.regs _).trans ?_, (rd_congr hm.regs _).trans ?_,
    fun b h1 h2 => (rd_congr hm.regs b).trans ?_, hm.acq.trans hacq⟩
  · refine Eq.trans (on_of_rd ?_) (on_clr_same s (F.ACQ_DATAn_VALID n) (by simp))
    exact (rd_wr ..).trans (if_neg hne)
  · refine Eq.trans (get_of_rd ((rd_wr ..).trans (if_neg hne))) ?_
    exact get_put_other s (F.ACQ_DATAn_VALID n) (F.ACQ_DATAn_VALUE n) 0 (by simp) (.inr (by simp))
  · exact (rd_wr ..).trans (if_pos rfl)
  · refine ((rd_wr (s.clr (F.ACQ_DATAn_VALID n)) (R.ACQ_STAMPn n) b _).trans (if_neg h2)).trans ?_
    exact rd_put_other s (F.ACQ_DATAn_VALID n) 0 b h1

end State
end Sys2Proof.Machine

/-! A conversion slot (R64, R67). -/

namespace Sys2Proof.Machine

set_option Elab.async false
namespace State

variable {s t u : State} {n c : Nat} {raw : List Int}

/-! ### What a slot leaves where nothing converts -/

/-- A slot's work so far: acquisition alone has moved, and no trim and no value on its way. -/
structure Slotted (s t : State) : Prop where
  moves : Moves [.acq] s t
  trim : ∀ n, (t.slice n).trim = (s.slice n).trim
  flight : t.acq.flight = s.acq.flight
  running : t.acq.running = s.acq.running
  stopping : t.acq.stopping = s.acq.stopping
  slotAt : t.acq.slotAt = s.acq.slotAt

namespace Slotted

theorem refl (s : State) : s.Slotted s := ⟨.refl s, fun _ => rfl, rfl, rfl, rfl, rfl⟩
theorem trans (h : s.Slotted t) (h' : t.Slotted u) : s.Slotted u :=
  ⟨h.moves.trans h'.moves, fun n => (h'.trim n).trans (h.trim n), h'.flight.trans h.flight, h'.running.trans h.running, h'.stopping.trans h.stopping,
    h'.slotAt.trans h.slotAt⟩
theorem ite {p : Prop} [Decidable p] (ht : s.Slotted t) (hu : s.Slotted u) : s.Slotted (if p then t else u) := by split <;> assumption
theorem forAll (h : s.Slotted t) {n : Nat} {f : Nat → State → State} (hf : ∀ i u, s.Slotted u → s.Slotted (f i u)) : s.Slotted (t.forAll n f) :=
  forAll_rec (p := fun _ u => s.Slotted u) h fun i u _ hu => hf i u hu

end Slotted

/-- A slice as its slot's decay count leaves it. -/
def SliceCounted (f : SliceSt → SliceSt) : Prop := ∀ x, (f x).trim = x.trim

theorem modSlice_trim {f : SliceSt → SliceSt} (hf : SliceCounted f) (s : State) (n m : Nat) : ((s.modSlice n f).slice m).trim = (s.slice m).trim := by
  by_cases hnm : n = m
  · subst hnm
    by_cases hn : n < s.acq.slices.length
    · rw [slice_modSlice_same _ _ hn, hf]
    · have hlen : ¬ n < (s.modSlice n f).acq.slices.length := fun h => hn (h.trans_eq (List.length_modify ..))
      rw [slice, slice, nth, nth, List.getD_eq_default _ _ (not_lt.mp hlen), List.getD_eq_default _ _ (not_lt.mp hn)]
  · rw [slice_modSlice_other _ _ hnm]

theorem modSlice_slotted {f : SliceSt → SliceSt} (hf : SliceCounted f) (s : State) (n : Nat) : s.Slotted (s.modSlice n f) :=
  ⟨modAcq_moves s _, modSlice_trim hf s n, rfl, rfl, rfl, rfl⟩

theorem modSpare_slotted (s : State) (f : SpareSt → SpareSt) : s.Slotted (s.modSpare f) :=
  ⟨modAcq_moves s _, fun _ => rfl, rfl, rfl, rfl, rfl⟩

theorem modOuts_slotted (s : State) (f : List SlotOut → List SlotOut) : s.Slotted (s.modAcq (fun a => { a with outs := f a.outs })) :=
  ⟨modAcq_moves s _, fun _ => rfl, rfl, rfl, rfl, rfl⟩

/-- A stopped rotation counts in a slot for its calibration and for the decay of trims alone. -/
theorem spareSlot_slotted (h5 : s.spareState = 5) (raw : List Int) : s.Slotted (s.spareSlot raw) := by
  unfold spareSlot
  rw [h5]
  exact .forAll (.ite (modSpare_slotted s _) (.refl s)) fun n u hu => .ite (hu.trans (modSlice_slotted (f := fun x => { x with decay := x.decay + 1 }) (fun _ => rfl) u n)) hu

/-! ### The slot of one slice -/

theorem schedule_off (h : s.get (F.ACQ_SLCn_MODE n) = 0) : s.schedule n = (s, none) := by
  unfold schedule
  rw [h]
  rfl

theorem schedule_fixed (h : s.get (F.ACQ_SLCn_MODE n) = 1) (hc : s.get (F.ACQ_SLCn_CHAN n) ≤ 95) : s.schedule n = (s, some (s.get (F.ACQ_SLCn_CHAN n))) := by
  unfold schedule
  rw [h]
  exact congrArg (Prod.mk s) (if_pos hc)

theorem slotSlice_off (h : s.get (F.ACQ_SLCn_MODE n) = 0) (raw : List Int) :
    s.slotSlice raw n = s.modAcq (fun a => { a with outs := upd a.outs n (fun _ => {}) }) := by
  unfold slotSlice
  rw [schedule_off h]

theorem resolve_single (h : s.pairOn (c / 2) = false) : s.resolve c = (c, false) := by
  rw [resolve, h, if_neg Bool.false_ne_true]

theorem openConv_off (h : s.get (F.ACQ_CHc_OW c) = 0) (diff : Bool) (x : Int) : s.openConv c diff x = false := by
  unfold openConv
  rw [h]
  rfl

theorem correct_off (h : s.on (F.ACQ_CHc_CORR c) = false) (diff : Bool) (x : Int) : s.correct c diff x = x := by
  rw [correct, h, if_neg Bool.false_ne_true]

theorem average_single (h : s.get (F.ACQ_CHc_AVG c) = 0) (hb : s.stampsBad = false) (v : Int) (diff : Bool) :
    s.average n c v diff false = s.present n c v diff false := by
  unfold average
  rw [h, hb]
  rfl

theorem accrue_rests (h5 : s.spareState = 5) (own sx : Int) : s.accrue n own sx = s := by
  unfold accrue
  rw [h5]
  exact ite_self s

theorem bySpare_rests (h5 : s.spareState = 5) : s.bySpare n = false := by
  rw [bySpare, h5]
  exact Bool.and_false _

theorem disturb_rests (h : s.inService = false) (k : Nat) : s.disturb k = (0, s) := by
  have hp : s.perturbs k = false := by rw [perturbs, h]; rfl
  rw [disturb, hp, if_neg Bool.false_ne_true]

theorem present_slotted (hi : s.inService = false) (hr : s.replayHolds = false) (v : Int) (diff opened : Bool) :
    Moves [.acq] s (s.present n c v diff opened) ∧ (s.present n c v diff opened).acq.flight =
      insertConv ⟨n, s.count, s.count + 40, c, v, diff, opened, s.stampsBad, s.bySpare n⟩ s.acq.flight := by
  have hm := modAcq_moves s (fun a => { a with outs := upd a.outs n (fun o => { o with value := some v }) })
  have hflight : (s.modAcq (fun a => { a with outs := upd a.outs n (fun o => { o with value := some v }) })).acq.flight = s.acq.flight := rfl
  unfold present
  dsimp only
  generalize s.modAcq (fun a => { a with outs := upd a.outs n (fun o => { o with value := some v }) }) = u at hm hflight ⊢
  have hrep : u.replaced n = false := by
    rw [replaced, replayHolds, hm.tst]
    exact Bool.and_eq_false_imp.mpr fun h => absurd (hr.symm.trans h) Bool.false_ne_true
  have hserv : u.inService = false := by rw [inService, mode_of_regs hm.regs]; exact hi
  rw [hrep, if_neg Bool.false_ne_true, send, disturb_rests hserv]
  exact ⟨hm.trans (modAcq_moves u _), congrArg (insertConv _) hflight⟩

/-- A slice in FIXED mode on a single-ended channel that is neither corrected nor averaged nor checked for an open wire. -/
structure FixedSingle (s : State) (n : Nat) : Prop where
  mode : s.get (F.ACQ_SLCn_MODE n) = 1
  chan : s.get (F.ACQ_SLCn_CHAN n) ≤ 95
  single : s.pairOn (s.get (F.ACQ_SLCn_CHAN n) / 2) = false
  corr : s.on (F.ACQ_CHc_CORR (s.get (F.ACQ_SLCn_CHAN n))) = false
  avg : s.get (F.ACQ_CHc_AVG (s.get (F.ACQ_SLCn_CHAN n))) = 0
  ow : s.get (F.ACQ_CHc_OW (s.get (F.ACQ_SLCn_CHAN n))) = 0

/-- The value that such a slice presents. -/
def fixedConv (s : State) (raw : List Int) (n : Nat) : Conv :=
  ⟨n, s.count, s.count + 40, s.get (F.ACQ_SLCn_CHAN n), clampInt 0 65535 (divRound (nth raw n 0 + (s.slice n).trim) 16), false, false, false, false⟩

/-- A state whose rotation rests, outside SERVICE and replay, with good stamps. -/
structure PlainSlots (s : State) : Prop where
  spare : s.spareState = 5
  service : s.inService = false
  replay : s.replayHolds = false
  stamps : s.stampsBad = false

theorem PlainSlots.of_moves (h : PlainSlots s) (hm : Moves [.acq] s t) : PlainSlots t :=
  ⟨(get_congr hm.regs _).trans h.spare, by rw [inService, mode_of_regs hm.regs]; exact h.service, by rw [replayHolds, hm.tst]; exact h.replay,
    (congrArg Clk.coreOnMonitor hm.clk).trans h.stamps⟩

theorem pairOn_of_regs (h : t.regs = s.regs) (p : Nat) : t.pairOn p = s.pairOn p := by
  rw [pairOn, pairOn, bit_congr (rd_congr h _), bit_congr (rd_congr h _)]

theorem FixedSingle.of_regs (h : FixedSingle s n) (hr : t.regs = s.regs) : FixedSingle t n := by
  have hc : t.get (F.ACQ_SLCn_CHAN n) = s.get (F.ACQ_SLCn_CHAN n) := get_congr hr _
  exact ⟨(get_congr hr _).trans h.mode, hc.trans_le h.chan, by rw [hc, pairOn_of_regs hr]; exact h.single, by rw [hc, on_congr hr]; exact h.corr,
    by rw [hc, get_congr hr]; exact h.avg, by rw [hc, get_congr hr]; exact h.ow⟩

theorem slotSlice_fixed (hf : FixedSingle s n) (hp : PlainSlots s) (raw : List Int) :
    Moves [.acq] s (s.slotSlice raw n) ∧ (s.slotSlice raw n).acq.flight = insertConv (s.fixedConv raw n) s.acq.flight := by
  unfold slotSlice
  rw [schedule_fixed hf.mode hf.chan]
  dsimp only
  rw [resolve_single hf.single]
  dsimp only
  rw [accrue_rests hp.spare]
  have hm := modAcq_moves s (fun a => { a with outs := upd a.outs n (fun _ => { chan := some (s.get (F.ACQ_SLCn_CHAN n)) }) })
  have hflight : (s.modAcq (fun a => { a with outs := upd a.outs n (fun _ => { chan := some (s.get (F.ACQ_SLCn_CHAN n)) }) })).acq.flight = s.acq.flight := rfl
  generalize s.modAcq (fun a => { a with outs := upd a.outs n (fun _ => { chan := some (s.get (F.ACQ_SLCn_CHAN n)) }) }) = u at hm hflight ⊢
  have hpu := hp.of_moves hm
  have hcorr : u.on (F.ACQ_CHc_CORR (s.get (F.ACQ_SLCn_CHAN n))) = false := (on_congr hm.regs _).trans hf.corr
  have havg : u.get (F.ACQ_CHc_AVG (s.get (F.ACQ_SLCn_CHAN n))) = 0 := (get_congr hm.regs _).trans hf.avg
  have how : u.get (F.ACQ_CHc_OW (s.get (F.ACQ_SLCn_CHAN n))) = 0 := (get_congr hm.regs _).trans hf.ow
  rw [bySpare_rests hpu.spare, if_neg Bool.false_ne_true, openConv_off how, if_neg Bool.false_ne_true, correct_off hcorr,
    average_single havg hpu.stamps]
  obtain ⟨hm', hflight'⟩ := present_slotted (n := n) (c := s.get (F.ACQ_SLCn_CHAN n)) hpu.service hpu.replay (codeOf false (nth raw n 0 + (s.slice n).trim))
    false false
  refine ⟨hm.trans hm', hflight'.trans ?_⟩
  have hcount : u.count = s.count := congrArg (fun c : Clk => c.count.toNat) hm.clk
  rw [hflight, hcount, hpu.stamps, bySpare_rests hpu.spare]
  rfl

/-! ### The slot -/

/-- The slot as the rotation has counted it. -/
def slotCounted (s : State) (raw : List Int) : State := (s.modAcq (fun a => { a with slotAt := some s.count })).spareSlot raw

/-- A slot in which acquisition does not run. -/
def slotIdle (s : State) : State := s.modAcq (fun a => { a with outs := List.replicate 16 {} })

theorem conversionSlot_eq (hr : s.coreRuns = true) (hc : s.count % 32 = 0) (hat : s.acq.slotAt ≠ some s.count) (raw : List Int) :
    s.conversionSlot raw =
      if (s.slotCounted raw).acq.running && !(s.slotCounted raw).acq.stopping then (s.slotCounted raw).forAll 16 (fun n u => u.slotSlice raw n)
      else (s.slotCounted raw).slotIdle := by
  have hguard : (s.coreRuns && s.count % 32 == 0 && s.acq.slotAt != some s.count) = true := by
    rw [hr, hc, Bool.and_eq_true]
    exact ⟨rfl, bne_iff_ne.mpr hat⟩
  unfold conversionSlot slotIdle slotCounted
  exact if_pos hguard

theorem slotCounted_slotted (h5 : s.spareState = 5) (raw : List Int) :
    (s.modAcq (fun a => { a with slotAt := some s.count })).Slotted (s.slotCounted raw) := by
  have hm := modAcq_moves s (fun a => { a with slotAt := some s.count })
  unfold slotCounted
  exact spareSlot_slotted ((get_congr hm.regs _).trans h5) raw

theorem conversionSlot_stopped (raw : List Int) (hr : s.coreRuns = true) (hc : s.count % 32 = 0) (hat : s.acq.slotAt ≠ some s.count)
    (hrun : s.acq.running = false) (h5 : s.spareState = 5) : Completes (.conversionSlot raw) s fun t =>
      t.acq.slotAt = some s.count ∧ t.acq.flight = s.acq.flight ∧ t.regs = s.regs ∧ t.events = s.events := by
  have hslot := slotCounted_slotted h5 raw
  have heq : s.conversionSlot raw = (s.slotCounted raw).slotIdle := by
    rw [conversionSlot_eq hr hc hat, hslot.running.trans hrun]
    rfl
  have hall := hslot.trans (modOuts_slotted (s.slotCounted raw) (fun _ => List.replicate 16 {}))
  have hm : Moves [.acq] s (s.slotCounted raw).slotIdle := (modAcq_moves s _).trans hall.moves
  exact ⟨_, congrArg Host.Outcome.next heq, hall.slotAt, hall.flight, hm.regs, hm.events⟩

theorem conversionSlot_fixed (raw : List Int) (n : Fin 16) (hr : s.coreRuns = true) (hc : s.count % 32 = 0) (hat : s.acq.slotAt ≠ some s.count)
    (hrun : s.acq.running = true) (hstop : s.acq.stopping = false) (hp : PlainSlots s)
    (hoff : ∀ m : Fin 16, m ≠ n → s.get (F.ACQ_SLCn_MODE m) = 0) (hf : FixedSingle s n) : Completes (.conversionSlot raw) s fun t =>
      t.acq.flight = insertConv (s.fixedConv raw n) s.acq.flight := by
  have hslot := slotCounted_slotted hp.spare raw
  have hm : Moves [.acq] s (s.slotCounted raw) := (modAcq_moves s _).trans hslot.moves
  have heq : s.conversionSlot raw = (s.slotCounted raw).forAll 16 (fun n u => u.slotSlice raw n) := by
    rw [conversionSlot_eq hr hc hat, hslot.running.trans hrun, hslot.stopping.trans hstop]
    rfl
  refine ⟨_, congrArg Host.Outcome.next heq, ?_⟩
  have hidle (j : Nat) (u : State) (hj : j < 16) (hjn : j ≠ n.val) (hu : Moves [.acq] s u) :
      u.slotSlice raw j = u.modAcq (fun a => { a with outs := upd a.outs j (fun _ => {}) }) :=
    slotSlice_off ((get_congr hu.regs _).trans (hoff ⟨j, hj⟩ fun h => hjn (congrArg Fin.val h))) raw
  refine (forAll_turn (n := 16) (i := n.val) (f := fun n u => u.slotSlice raw n)
    (fun u => Moves [.acq] s u ∧ (∀ k, (u.slice k).trim = (s.slice k).trim) ∧ u.acq.flight = s.acq.flight)
    (fun u => Moves [.acq] s u ∧ u.acq.flight = insertConv (s.fixedConv raw n) s.acq.flight)
    ⟨hm, hslot.trim, hslot.flight⟩ (fun j u hj hjn ⟨hu, htrim, hflight⟩ => ?_) (fun u ⟨hu, htrim, hflight⟩ => ?_)
    (fun j u hj hjn ⟨hu, hflight⟩ => ?_) n.isLt).2
  · have hout := modOuts_slotted u (fun l => upd l j (fun _ => {}))
    rw [hidle j u hj hjn hu]
    exact ⟨hu.trans hout.moves, fun k => (hout.trim k).trans (htrim k), hout.flight.trans hflight⟩
  · obtain ⟨hu', hflight'⟩ := slotSlice_fixed (hf.of_regs hu.regs) (hp.of_moves hu) raw
    have hconv : u.fixedConv raw n = s.fixedConv raw n := by
      have hcount : u.count = s.count := congrArg (fun c : Clk => c.count.toNat) hu.clk
      rw [fixedConv, fixedConv, hcount, get_congr hu.regs, htrim]
    exact ⟨hu.trans hu', by rw [hflight', hconv, hflight]⟩
  · have hout := modOuts_slotted u (fun l => upd l j (fun _ => {}))
    rw [hidle j u hj hjn hu]
    exact ⟨hu.trans hout.moves, hout.flight.trans hflight⟩

end State

/-- Settles O11: a slot with one slice that converts, the intake of the first value in order, and the read of its data register. -/
theorem conversionsAndTheirIntake : Obligations.ConversionsAndTheirIntake :=
  ⟨fun _ raw hr hc hat hrun h5 => State.conversionSlot_stopped raw hr hc hat hrun h5,
    fun _ raw n _ hr hc hat hrun hstop h5 _ hserv hrep hbad hoff hmode hchan hpair hcorr havg how =>
      State.conversionSlot_fixed raw n hr hc hat hrun hstop ⟨h5, hserv, hrep, hbad⟩ hoff ⟨hmode, hchan, hpair, hcorr, havg, how⟩,
    fun _ _ _ hs hr hf hdue hv => State.intake_flight hs hr hf hdue hv,
    fun _ _ _ hr hf hdue hv hc => State.intake_data hr hf hdue hv hc,
    fun _ w n hrun => State.acqDataRead_gives hrun w n⟩

end Sys2Proof.Machine

/-! The Granary's totals: what an energy adds to them, and what follows them (R232 to R234, R239, R242). -/

namespace Sys2Proof.Machine

set_option Elab.async false
namespace State

variable {s t u : State} {i k m p : Nat} {f g : Nat → Nat}

/-! ### What follows a total -/

/-- The registers that follow the totals: pulse outputs, replay accumulators, window counters and the totals' words. -/
def tallyRegs (b : Nat) : Prop := (0x40090080 ≤ b ∧ b < 0x400900C0) ∨ 0x40090600 ≤ b

/-- The Granary with other totals, pulse accumulators and replay accumulators. -/
def GrnTallied (a b : Grn) : Prop := b = { a with totals := b.totals, epoAcc := b.epoAcc, rpl := b.rpl }

/-- Work on the totals and on what follows them, which writes registers of `P` alone. -/
structure Tally (P : Nat → Prop) (s t : State) : Prop where
  moves : Moves [.regs, .cycle, .grn, .events, .stew] s t
  writes : s.Writes P t
  lasts : s.EventsLast t
  grn : GrnTallied s.grn t.grn

namespace Tally

variable {P : Nat → Prop}

theorem refl (s : State) : Tally P s s := ⟨.refl s, .refl s, .refl s, rfl⟩
theorem trans (h : Tally P s t) (h' : Tally P t u) : Tally P s u := by
  have hg := h'.grn
  refine ⟨h.moves.trans h'.moves, h.writes.trans h'.writes, h.lasts.trans h'.lasts, ?_⟩
  unfold GrnTallied at hg ⊢
  rw [h.grn] at hg
  exact hg
theorem ite {c : Prop} [Decidable c] (ht : Tally P s t) (hu : Tally P s u) : Tally P s (if c then t else u) := by split <;> assumption
theorem wr (h : Tally P s t) {a : Nat} {v : Word} (ha : P a) : Tally P s (t.wr a v) :=
  h.trans ⟨.wr (.refl t), .wr (.refl t) ha, .same (.refl t) (wr_events ..), rfl⟩
theorem put (h : Tally P s t) {f : Fld} {n : Nat} (hf : P f.addr) : Tally P s (t.put f n) :=
  h.trans ⟨.put (.refl t), .put (.refl t) hf, .same (.refl t) (put_events ..), rfl⟩
theorem raise (h : Tally P s t) (src : Nat) : Tally P s (t.raise src) :=
  h.trans ⟨.raise (.refl t), .raise (.refl t), (EventsLast.refl t).raise src, by rw [GrnTallied, raise_grn]⟩
theorem modGrn (h : Tally P s t) {f : Grn → Grn} (hf : GrnTallied t.grn (f t.grn)) : Tally P s (t.modGrn f) :=
  h.trans ⟨.record (.refl t) (by rfl), .of_regs (by rfl), .same (.refl t) (by rfl), hf⟩
theorem modTotals (h : Tally P s t) (f : Grn → List Nat) : Tally P s (t.modGrn (fun g => { g with totals := f g })) := h.modGrn rfl
theorem modEpoAcc (h : Tally P s t) (f : Grn → List Nat) : Tally P s (t.modGrn (fun g => { g with epoAcc := f g })) := h.modGrn rfl
theorem modRpl (h : Tally P s t) (f : Grn → List Dword) : Tally P s (t.modGrn (fun g => { g with rpl := f g })) := h.modGrn rfl
theorem forAll (h : Tally P s t) {n : Nat} {f : Nat → State → State} (hf : ∀ i u, i < n → Tally P s u → Tally P s (f i u)) : Tally P s (t.forAll n f) :=
  forAll_rec (p := fun _ u => Tally P s u) h fun i u hi hu => hf i u hi hu

theorem ac (h : Tally P s t) : t.grn.ac = s.grn.ac := by rw [h.grn]
theorem dc (h : Tally P s t) : t.grn.dc = s.grn.dc := by rw [h.grn]
theorem active (h : Tally P s t) : t.grn.active = s.grn.active := by rw [h.grn]
theorem write (h : Tally P s t) : t.grn.write = s.grn.write := by rw [h.grn]
theorem queue (h : Tally P s t) : t.grn.queue = s.grn.queue := by rw [h.grn]
theorem frozen (h : Tally P s t) : t.grnFrozen = s.grnFrozen := by rw [grnFrozen, replayHolds, h.moves.tst]; rfl

theorem mono {Q : Nat → Prop} (h : Tally P s t) (hPQ : ∀ b, P b → Q b) : Tally Q s t := ⟨h.moves, h.writes.mono hPQ, h.lasts, h.grn⟩

/-- A register of the Granary that does not follow the totals. -/
theorem rd (h : Tally tallyRegs s t) {b : Nat} (hb : b < 0x40090080 ∨ (0x400900C0 ≤ b ∧ b < 0x40090600)) : t.rd b = s.rd b :=
  h.writes.rd (by simp only [tallyRegs]; omega)

end Tally

theorem totalAddr_tally (i : Nat) : tallyRegs (totalAddr i) := by
  unfold totalAddr
  split
  · simp only [tallyRegs, R.GRN_ACm_p_q_LO]
    omega
  · simp only [tallyRegs, R.GRN_DCm_q_LO]
    omega

theorem EPO_STAT_tally (hk : k < 4) : tallyRegs (R.GRN_EPOk_STAT k) := by
  simp only [tallyRegs, R.GRN_EPOk_STAT]
  omega

theorem setTotal_tally (s : State) (i v : Nat) : Tally tallyRegs s (s.setTotal i v) :=
  Tally.wr (Tally.modTotals (.refl s) _) (totalAddr_tally i)

theorem queuePulses_tally (s : State) (hk : k < 4) (n : Nat) : Tally tallyRegs s (s.queuePulses k n) := by
  have hpend : Tally tallyRegs s (s.put (F.GRN_EPOk_STAT_PENDING k)
      (s.get (F.GRN_EPOk_STAT_PENDING k) + min n (65535 - s.get (F.GRN_EPOk_STAT_PENDING k)))) := Tally.put (.refl s) (EPO_STAT_tally hk)
  unfold queuePulses
  exact .ite (Tally.raise (Tally.put (Tally.put hpend (EPO_STAT_tally hk)) (EPO_STAT_tally hk)) _) hpend

theorem epoAdd_tally (s : State) (i e : Nat) (hk : k < 4) : Tally tallyRegs s (s.epoAdd i e k) := by
  unfold epoAdd
  exact .ite ((Tally.modEpoAcc (.refl s) _).trans (queuePulses_tally _ hk _)) (.refl s)

theorem wcAdd_tally (s : State) (i d k : Nat) : Tally tallyRegs s (s.wcAdd i d k) := by
  have hcnt : tallyRegs (R.GRN_WCk_CNT k) := .inr (by simp only [R.GRN_WCk_CNT]; omega)
  have hwrap : tallyRegs (R.GRN_WCk_WRAP k) := .inr (by simp only [R.GRN_WCk_WRAP]; omega)
  unfold wcAdd
  exact .ite (Tally.put (Tally.put (.refl s) hcnt) hwrap) (.refl s)

/-- What follows an increase of a total: window counters and pulse outputs. -/
def totalFollowed (s : State) (i d e : Nat) : State := (s.forAll 16 (fun k u => u.wcAdd i d k)).forAll 4 (fun k u => u.epoAdd i e k)

theorem totalFollowed_tally (s : State) (i d e : Nat) : Tally tallyRegs s (s.totalFollowed i d e) :=
  (Tally.forAll (.refl s) fun k u _ hu => hu.trans (wcAdd_tally u i d k)).forAll fun _ u hk hu => hu.trans (epoAdd_tally u i e hk)

/-! ### The totals (R232, R234) -/

theorem wcAdd_totals (s : State) (i d k : Nat) : (s.wcAdd i d k).grn.totals = s.grn.totals := by
  unfold wcAdd
  dsimp only
  split
  · exact congrArg Grn.totals ((put_grn ..).trans (put_grn ..))
  · rfl

theorem queuePulses_grn (s : State) (k n : Nat) : (s.queuePulses k n).grn = s.grn := by
  unfold queuePulses
  dsimp only
  split
  · exact (raise_grn ..).trans ((set1_grn ..).trans ((put_grn ..).trans (put_grn ..)))
  · exact put_grn ..

theorem epoAdd_totals (s : State) (i e k : Nat) : (s.epoAdd i e k).grn.totals = s.grn.totals := by
  unfold epoAdd
  dsimp only
  split
  · exact (congrArg Grn.totals (queuePulses_grn ..)).trans rfl
  · rfl

theorem totalFollowed_totals (s : State) (i d e : Nat) : (s.totalFollowed i d e).grn.totals = s.grn.totals := by
  have hwc : (s.forAll 16 (fun k u => u.wcAdd i d k)).grn.totals = s.grn.totals :=
    forAll_rec (p := fun _ u => u.grn.totals = s.grn.totals) rfl fun k u _ hu => (wcAdd_totals u i d k).trans hu
  exact forAll_rec (p := fun _ u => u.grn.totals = s.grn.totals) hwc fun k u _ hu => (epoAdd_totals u i e k).trans hu

theorem addTotal_eq (h : s.replayHolds = false) (i : Nat) (e : Int) : s.addTotal i e =
    (s.setTotal i ((nth s.grn.totals i 0 + e.toNat) % 2 ^ 96)).totalFollowed i
      ((nth s.grn.totals i 0 + e.toNat) % 2 ^ 96 / 2 ^ 32 - nth s.grn.totals i 0 / 2 ^ 32) e.toNat := by
  unfold addTotal
  rw [grnFrozen, h, if_neg Bool.false_ne_true]
  rfl

theorem addTotal_tally (s : State) (i : Nat) (e : Int) : Tally tallyRegs s (s.addTotal i e) := by
  unfold addTotal
  exact .ite (.refl s) ((setTotal_tally s i _).trans (totalFollowed_tally _ i _ _))

/-- The totals take what they are given: replay does not freeze them, and each is one of 96 bits. -/
structure Counting (s : State) : Prop where
  free : s.replayHolds = false
  length : s.grn.totals.length = 176
  bound : ∀ i < 176, nth s.grn.totals i 0 < 2 ^ 96

/-- Total `i` has taken `f i`. -/
structure Adds (f : Nat → Nat) (s t : State) : Prop where
  tally : Tally tallyRegs s t
  length : t.grn.totals.length = s.grn.totals.length
  sums : ∀ i < 176, nth t.grn.totals i 0 = (nth s.grn.totals i 0 + f i) % 2 ^ 96

theorem Adds.counting (h : Adds f s t) (hs : s.Counting) : t.Counting :=
  ⟨by rw [replayHolds, h.tally.moves.tst]; exact hs.free, h.length.trans hs.length, fun i hi => (h.sums i hi).trans_lt (Nat.mod_lt _ (by decide))⟩

theorem Adds.congr (h : Adds f s t) (hfg : ∀ i < 176, f i = g i) : Adds g s t :=
  ⟨h.tally, h.length, fun i hi => (h.sums i hi).trans (by rw [hfg i hi])⟩

theorem Adds.trans (h : Adds f s t) (h' : Adds g t u) : Adds (fun i => f i + g i) s u :=
  ⟨h.tally.trans h'.tally, h'.length.trans h.length, fun i hi => by rw [h'.sums i hi, h.sums i hi, Nat.mod_add_mod, Nat.add_assoc]⟩

theorem Adds.none (hs : s.Counting) (h : Tally tallyRegs s t) (ht : t.grn.totals = s.grn.totals) : Adds (fun _ => 0) s t :=
  ⟨h, by rw [ht], fun i hi => by rw [ht, Nat.add_zero, Nat.mod_eq_of_lt (hs.bound i hi)]⟩

/-- An amount for one total. -/
def only (i x : Nat) (j : Nat) : Nat := if j = i then x else 0

theorem addTotal_adds (hs : s.Counting) (i : Nat) (e : Int) : Adds (only i e.toNat) s (s.addTotal i e) := by
  have htotals : (s.addTotal i e).grn.totals = upd s.grn.totals i (fun _ => (nth s.grn.totals i 0 + e.toNat) % 2 ^ 96) := by
    rw [addTotal_eq hs.free, totalFollowed_totals]
    rfl
  refine ⟨addTotal_tally s i e, by rw [htotals, length_upd], fun j hj => ?_⟩
  rw [htotals, only]
  by_cases hji : j = i
  · subst hji
    rw [nth_upd_same _ _ _ _ (hs.length.symm ▸ hj), if_pos rfl]
  · rw [nth_upd_other _ _ _ _ _ (Ne.symm hji), if_neg hji, Nat.add_zero, Nat.mod_eq_of_lt (hs.bound j hj)]

theorem addDirected_adds (hs : s.Counting) (imp exp : Nat) (e : Int) :
    Adds (fun i => only imp e.toNat i + only exp (-e).toNat i) s (s.addDirected imp exp e) := by
  unfold addDirected
  by_cases he : 0 ≤ e
  · rw [if_pos he]
    refine (addTotal_adds hs imp e).congr fun i _ => ?_
    have hneg : (-e).toNat = 0 := by omega
    simp [only, hneg]
  · rw [if_neg he]
    refine (addTotal_adds hs exp (-e)).congr fun i _ => ?_
    have hpos : e.toNat = 0 := by omega
    simp [only, hpos]

/-- What a reactive energy adds to the four quadrants. -/
def quadrants (m p : Nat) (ep eq : Int) (i : Nat) : Nat :=
  only (acTotal m p 4) (if 0 ≤ ep then eq else 0).toNat i + only (acTotal m p 5) (if ep < 0 then eq else 0).toNat i +
    only (acTotal m p 6) (if ep < 0 then -eq else 0).toNat i + only (acTotal m p 7) (if 0 ≤ ep then -eq else 0).toNat i

theorem addReactive_adds (hs : s.Counting) (m p : Nat) (ep eq : Int) : Adds (quadrants m p ep eq) s (s.addReactive m p ep eq) := by
  have hzero (j : Nat) (x : Int) (hx : x ≤ 0) (i : Nat) : only j x.toNat i = 0 := by
    have : x.toNat = 0 := by omega
    simp [only, this]
  unfold addReactive
  by_cases hp : 0 ≤ ep <;> by_cases hq : 0 ≤ eq
  · rw [if_pos ⟨hp, hq⟩]
    refine (addTotal_adds hs _ eq).congr fun i _ => ?_
    rw [quadrants, if_pos hp, if_neg (not_lt.mpr hp), if_neg (not_lt.mpr hp), if_pos hp, hzero _ 0 le_rfl, hzero _ 0 le_rfl, hzero _ (-eq) (by omega)]
    rfl
  · rw [if_neg fun h => hq h.2, if_neg fun h => absurd h.1 (not_lt.mpr hp), if_neg (not_lt.mpr hp)]
    refine (addTotal_adds hs _ (-eq)).congr fun i _ => ?_
    rw [quadrants, if_pos hp, if_neg (not_lt.mpr hp), if_neg (not_lt.mpr hp), if_pos hp, hzero _ 0 le_rfl, hzero _ 0 le_rfl, hzero _ eq (by omega)]
    exact (Nat.zero_add _).symm
  · rw [if_neg fun h => hp h.1, if_pos ⟨not_le.mp hp, hq⟩]
    refine (addTotal_adds hs _ eq).congr fun i _ => ?_
    rw [quadrants, if_neg hp, if_pos (not_le.mp hp), if_pos (not_le.mp hp), if_neg hp, hzero _ 0 le_rfl, hzero _ 0 le_rfl, hzero _ (-eq) (by omega)]
    exact (Nat.zero_add _).symm
  · rw [if_neg fun h => hp h.1, if_neg fun h => hq h.2, if_pos (not_le.mp hp)]
    refine (addTotal_adds hs _ (-eq)).congr fun i _ => ?_
    rw [quadrants, if_neg hp, if_pos (not_le.mp hp), if_pos (not_le.mp hp), if_neg hp, hzero _ 0 le_rfl, hzero _ 0 le_rfl, hzero _ eq (by omega)]
    exact (Nat.zero_add _).symm

/-! ### A phase's energies (R232, R233) -/

/-- What the energies of phase `p` add to each total. -/
def phaseAdds (m p : Nat) (e : PhaseEnergy) (i : Nat) : Nat :=
  only (acTotal m p 0) e.ap.toNat i + only (acTotal m p 1) (-e.ap).toNat i + (only (acTotal m p 2) e.ap1.toNat i +
    only (acTotal m p 3) (-e.ap1).toNat i + quadrants m p e.ap1 e.rq i) + only (acTotal m p 8) e.ss.toNat i + only (acTotal m p 9) e.s1.toNat i

/-- Energies of a cycle that is no fundamental one have no fundamental parts. -/
def PlainEnergy (fund : Bool) (e : PhaseEnergy) : Prop := fund = false → e.ap1 = 0 ∧ e.rq = 0 ∧ e.s1 = 0

theorem only_zero (i j : Nat) : only i 0 j = 0 := ite_self 0

theorem quadrants_zero (m p i : Nat) : quadrants m p 0 0 i = 0 := by
  simp [quadrants, only_zero]

theorem addPhase_adds (hs : s.Counting) (m p : Nat) {e : PhaseEnergy} {fund : Bool} (he : PlainEnergy fund e) :
    Adds (phaseAdds m p e) s (s.addPhase m p e fund) := by
  have h1 := addDirected_adds hs (acTotal m p 0) (acTotal m p 1) e.ap
  have hs1 := h1.counting hs
  unfold addPhase
  dsimp only
  cases hf : fund with
  | true =>
    have h2 := addDirected_adds hs1 (acTotal m p 2) (acTotal m p 3) e.ap1
    have h3 := addReactive_adds (h2.counting hs1) m p e.ap1 e.rq
    have hs3 := h3.counting (h2.counting hs1)
    have h4 := addTotal_adds hs3 (acTotal m p 8) e.ss
    have h5 := addTotal_adds (h4.counting hs3) (acTotal m p 9) e.s1
    exact (((h1.trans (h2.trans h3)).trans h4).trans h5)
  | false =>
    obtain ⟨hap1, hrq, hs1'⟩ := he hf
    have h4 := addTotal_adds hs1 (acTotal m p 8) e.ss
    refine (h1.trans h4).congr fun i _ => ?_
    rw [phaseAdds, hap1, hrq, hs1', quadrants_zero]
    simp only [Int.toNat_zero, neg_zero, only_zero, Nat.add_zero]

end State
end Sys2Proof.Machine

/-! The close of a cycle and of a block: what it adds and shows (R229 to R236). -/

namespace Sys2Proof.Machine

set_option Elab.async false
namespace State

variable {s t u : State} {m p : Nat} {fund ends : Bool}

/-! ### The energies of a cycle (R231, R233) -/

/-- The cycle of AC meter `m`, oldest sample first. -/
def cycleOf (s : State) (m : Nat) : List GrnSample := (s.acMeter m).cycle.reverse

/-- The sums of its three phases. -/
def cycleSums (s : State) (m : Nat) : List PhaseSums := (List.range 3).map (fun p => phaseSums (s.cycleOf m) p (s.on (F.GRN_ACm_CFG_DIR m)))

/-- The current of phase `p` reaches NL_I. -/
def phaseLoaded (s : State) (m p : Nat) : Bool :=
  decide (((s.get (F.GRN_ACm_NL_NL_I m) * s.get (F.GRN_ACm_NL_NL_I m) * (s.cycleOf m).length : Nat) : Int) ≤ (nth (s.cycleSums m) p {}).sii)

/-- The energies of phase `p`. -/
def phaseEnergy (s : State) (m : Nat) (fund : Bool) (p : Nat) : PhaseEnergy :=
  (nth (s.cycleSums m) p {}).energy (s.cycleOf m).length (s.scale (R.GRN_ACm_KEp m p)) fund

/-- The energies of the phases that count. -/
def sigmaEnergy (s : State) (m : Nat) (fund : Bool) : PhaseEnergy :=
  ((List.range 3).filter (s.phaseLoaded m)).foldl (fun a p => a.add (s.phaseEnergy m fund p)) ({} : PhaseEnergy)

/-- The totals with the energies of a cycle. -/
def cycleBilled (s : State) (m : Nat) (fund : Bool) : State :=
  (s.forAll 3 (fun p u => if s.phaseLoaded m p then u.addPhase m p (s.phaseEnergy m fund p) fund else u)).addPhase m 3 (s.sigmaEnergy m fund) fund

theorem PhaseEnergy.add_zero (e : PhaseEnergy) : e.add {} = e := by simp [PhaseEnergy.add]
theorem PhaseEnergy.zero_add (e : PhaseEnergy) : PhaseEnergy.add {} e = e := by simp [PhaseEnergy.add]

theorem cycleEnergy_phase (hp : p < 3) : s.cycleEnergy m fund p = if s.phaseLoaded m p then s.phaseEnergy m fund p else {} := by
  have hsum : nth (s.cycleSums m) p {} = phaseSums (s.cycleOf m) p (s.on (F.GRN_ACm_CFG_DIR m)) := by
    rw [nth, cycleSums, List.getD_eq_getElem _ _ (by simpa using hp), List.getElem_map, List.getElem_range]
  unfold cycleEnergy phaseLoaded phaseEnergy
  rw [hsum, if_pos hp]
  simp only [decide_eq_true_eq]
  rfl

theorem cycleEnergy_sigma : s.cycleEnergy m fund 3 =
    ((s.cycleEnergy m fund 0).add (s.cycleEnergy m fund 1)).add (s.cycleEnergy m fund 2) := rfl

theorem sigmaEnergy_eq (s : State) (m : Nat) (fund : Bool) : s.sigmaEnergy m fund = s.cycleEnergy m fund 3 := by
  rw [cycleEnergy_sigma, cycleEnergy_phase (by decide), cycleEnergy_phase (by decide), cycleEnergy_phase (by decide), sigmaEnergy]
  have hrange : List.range 3 = [0, 1, 2] := rfl
  cases h0 : s.phaseLoaded m 0 <;> cases h1 : s.phaseLoaded m 1 <;> cases h2 : s.phaseLoaded m 2 <;>
    simp [hrange, h0, h1, h2, PhaseEnergy.add_zero, PhaseEnergy.zero_add]

theorem energy_plain (a : PhaseSums) (N : Nat) (ke : Rat) (fund : Bool) : PlainEnergy fund (a.energy N ke fund) := by
  rintro rfl
  exact ⟨rfl, rfl, rfl⟩

theorem PlainEnergy.add {a b : PhaseEnergy} (ha : PlainEnergy fund a) (hb : PlainEnergy fund b) : PlainEnergy fund (a.add b) := fun h => by
  obtain ⟨h1, h2, h3⟩ := ha h
  obtain ⟨h1', h2', h3'⟩ := hb h
  simp [PhaseEnergy.add, h1, h2, h3, h1', h2', h3']

theorem cycleEnergy_plain (s : State) (m : Nat) (fund : Bool) (p : Fin 4) : PlainEnergy fund (s.cycleEnergy m fund p) := by
  have hone (q : Nat) (hq : q < 3) : PlainEnergy fund (s.cycleEnergy m fund q) := by
    rw [cycleEnergy_phase hq]
    split
    · exact energy_plain _ _ _ _
    · exact fun _ => ⟨rfl, rfl, rfl⟩
  by_cases hp : p.val < 3
  · exact hone p hp
  · have hp3 : p.val = 3 := by omega
    rw [hp3, cycleEnergy_sigma]
    exact ((hone 0 (by decide)).add (hone 1 (by decide))).add (hone 2 (by decide))

/-! ### What a close adds (R232) -/

/-- What a cycle adds to each total: the energies of its phases and of Σ. -/
def cycleAdds (s : State) (m : Nat) (fund : Bool) (i : Nat) : Nat :=
  phaseAdds m 0 (s.cycleEnergy m fund 0) i + phaseAdds m 1 (s.cycleEnergy m fund 1) i + phaseAdds m 2 (s.cycleEnergy m fund 2) i +
    phaseAdds m 3 (s.cycleEnergy m fund 3) i

theorem phaseAdds_zero (m p i : Nat) : phaseAdds m p {} i = 0 := by
  simp [phaseAdds, only_zero, quadrants_zero]

theorem phaseLoaded_adds (ht : t.Counting) (hp : p < 3) : Adds (phaseAdds m p (s.cycleEnergy m fund p)) t
    (if s.phaseLoaded m p then t.addPhase m p (s.phaseEnergy m fund p) fund else t) := by
  rw [cycleEnergy_phase hp]
  split
  · exact addPhase_adds ht m p (energy_plain _ _ _ _)
  · exact (Adds.none ht (.refl t) rfl).congr fun i _ => (phaseAdds_zero m p i).symm

theorem cycleBilled_adds (hs : s.Counting) (m : Nat) (fund : Bool) : Adds (s.cycleAdds m fund) s (s.cycleBilled m fund) := by
  have h0 := phaseLoaded_adds (s := s) (m := m) (fund := fund) hs (p := 0) (by decide)
  have hs0 := h0.counting hs
  have h1 := phaseLoaded_adds (s := s) (m := m) (fund := fund) hs0 (p := 1) (by decide)
  have hs1 := h1.counting hs0
  have h2 := phaseLoaded_adds (s := s) (m := m) (fund := fund) hs1 (p := 2) (by decide)
  have h3 := addPhase_adds (h2.counting hs1) m 3 (fund := fund) (cycleEnergy_plain s m fund 3)
  rw [cycleBilled, sigmaEnergy_eq]
  exact ((h0.trans h1).trans h2).trans h3

theorem addPhase_tally (s : State) (m p : Nat) (e : PhaseEnergy) (fund : Bool) : Tally tallyRegs s (s.addPhase m p e fund) := by
  have hdir (t : State) (a b : Nat) (x : Int) : Tally tallyRegs t (t.addDirected a b x) := .ite (addTotal_tally t a x) (addTotal_tally t b (-x))
  have hre (t : State) (x y : Int) : Tally tallyRegs t (t.addReactive m p x y) :=
    .ite (addTotal_tally ..) (.ite (addTotal_tally ..) (.ite (addTotal_tally ..) (addTotal_tally ..)))
  unfold addPhase
  extract_lets t1 t2 t3
  have h1 : Tally tallyRegs s t1 := hdir ..
  have h2 : Tally tallyRegs s t2 := .ite ((h1.trans (hdir ..)).trans (hre ..)) h1
  have h3 : Tally tallyRegs s t3 := h2.trans (addTotal_tally ..)
  exact .ite (h3.trans (addTotal_tally ..)) h3

theorem cycleBilled_tally (s : State) (m : Nat) (fund : Bool) : Tally tallyRegs s (s.cycleBilled m fund) :=
  (Tally.forAll (.refl s) fun p u _ hu => .ite (hu.trans (addPhase_tally u m p _ _)) hu).trans (addPhase_tally _ m 3 _ _)

/-- The part of quantity `q` in an energy. -/
def share (e : PhaseEnergy) : Nat → Nat
  | 0 => e.ap.toNat
  | 1 => (-e.ap).toNat
  | 2 => e.ap1.toNat
  | 3 => (-e.ap1).toNat
  | 4 => (if 0 ≤ e.ap1 then e.rq else 0).toNat
  | 5 => (if e.ap1 < 0 then e.rq else 0).toNat
  | 6 => (if e.ap1 < 0 then -e.rq else 0).toNat
  | 7 => (if 0 ≤ e.ap1 then -e.rq else 0).toNat
  | 8 => e.ss.toNat
  | 9 => e.s1.toNat
  | _ => 0

theorem only_eq {i j : Nat} (h : j = i) (x : Nat) : only i x j = x := if_pos h
theorem only_ne {i j : Nat} (h : j ≠ i) (x : Nat) : only i x j = 0 := if_neg h

/-- The quantities of one phase have ten totals in a row. -/
theorem phaseAdds_eq (m p : Nat) (e : PhaseEnergy) (i : Nat) : phaseAdds m p e i = if i / 10 = m * 4 + p then share e (i % 10) else 0 := by
  have honly (q x : Nat) (hq : q < 10) : only (acTotal m p q) x i = if i / 10 = m * 4 + p then (if i % 10 = q then x else 0) else 0 := by
    unfold only acTotal
    by_cases h : i / 10 = m * 4 + p
    · rw [if_pos h]
      exact if_congr (by omega) rfl rfl
    · rw [if_neg h, if_neg (by omega)]
  unfold phaseAdds quadrants
  rw [honly 0 _ (by decide), honly 1 _ (by decide), honly 2 _ (by decide), honly 3 _ (by decide), honly 4 _ (by decide), honly 5 _ (by decide),
    honly 6 _ (by decide), honly 7 _ (by decide), honly 8 _ (by decide), honly 9 _ (by decide)]
  by_cases h : i / 10 = m * 4 + p
  · simp only [if_pos h]
    have hlt : i % 10 < 10 := Nat.mod_lt _ (by decide)
    interval_cases i % 10 <;> simp [share]
  · simp only [if_neg h, Nat.add_zero]

theorem cycleAdds_total (s : State) (m : Nat) (fund : Bool) (p : Fin 4) (q : Fin 10) :
    s.cycleAdds m fund (acTotal m p q) = share (s.cycleEnergy m fund p) q := by
  have hdiv : acTotal m p q / 10 = m * 4 + p.val := by unfold acTotal; omega
  have hmod : acTotal m p q % 10 = q.val := by unfold acTotal; omega
  unfold cycleAdds
  simp only [phaseAdds_eq, hdiv, hmod]
  fin_cases p <;> simp

theorem cycleAdds_outside {i : Nat} (h : i < acTotal m 0 0 ∨ acTotal m 3 9 < i) : s.cycleAdds m fund i = 0 := by
  unfold acTotal at h
  unfold cycleAdds
  simp only [phaseAdds_eq]
  rw [if_neg (by omega), if_neg (by omega), if_neg (by omega), if_neg (by omega)]

/-- Totals that have taken a cycle's energies have each quantity of each phase. -/
theorem Adds.closeAdds (hs : s.Counting) (hm : m < 4) (h : Adds (s.cycleAdds m fund) s t) : s.acCloseAdds t m fund := by
  have hq (p : Fin 4) (q : Fin 10) : nth t.grn.totals (acTotal m p q) 0 = (nth s.grn.totals (acTotal m p q) 0 + share (s.cycleEnergy m fund p) q) % 2 ^ 96 := by
    rw [h.sums _ (by unfold acTotal; omega), cycleAdds_total]
  refine ⟨fun p => ⟨hq p 0, hq p 1, hq p 8, hq p 2, hq p 3, hq p 9, hq p 4, hq p 5, hq p 6, hq p 7⟩, fun i hi => ?_⟩
  rw [h.sums i i.isLt, cycleAdds_outside hi, Nat.add_zero, Nat.mod_eq_of_lt (hs.bound i i.isLt)]

end State
end Sys2Proof.Machine

/-! The closes of the meters: what they show, keep and send (R229, R230, R235). -/

namespace Sys2Proof.Machine

set_option Elab.async false
namespace State

variable {s t u : State} {m k : Nat} {fund ends : Bool}

/-! ### The meters -/

theorem acMeter_congr (h : t.grn.ac = s.grn.ac) (k : Nat) : t.acMeter k = s.acMeter k := by rw [acMeter, h, acMeter]
theorem dcMeter_congr (h : t.grn.dc = s.grn.dc) (k : Nat) : t.dcMeter k = s.dcMeter k := by rw [dcMeter, h, dcMeter]

theorem acMeter_modAc_same (s : State) (f : AcMeter → AcMeter) (hm : m < s.grn.ac.length) : (s.modAc m f).acMeter m = f (s.acMeter m) :=
  nth_upd_same _ _ _ _ hm
theorem acMeter_modAc_other (s : State) (f : AcMeter → AcMeter) (hk : k ≠ m) : (s.modAc m f).acMeter k = s.acMeter k := nth_upd_other _ _ _ _ _ hk.symm
theorem dcMeter_modDc_same (s : State) (f : DcMeter → DcMeter) (hm : m < s.grn.dc.length) : (s.modDc m f).dcMeter m = f (s.dcMeter m) :=
  nth_upd_same _ _ _ _ hm
theorem dcMeter_modDc_other (s : State) (f : DcMeter → DcMeter) (hk : k ≠ m) : (s.modDc m f).dcMeter k = s.dcMeter k := nth_upd_other _ _ _ _ _ hk.symm

theorem modAc_moves (s : State) (m : Nat) (f : AcMeter → AcMeter) : Moves [.grn] s (s.modAc m f) := .record (.refl s) (by rfl)
theorem modDc_moves (s : State) (m : Nat) (f : DcMeter → DcMeter) : Moves [.grn] s (s.modDc m f) := .record (.refl s) (by rfl)

theorem rplAdd_tally (s : State) (n : Nat) (e : Int) : Tally tallyRegs s (s.rplAdd n e) := by
  have hrpl : tallyRegs (R.GRN_RPLn_LO n) := .inr (by simp only [R.GRN_RPLn_LO]; omega)
  unfold rplAdd
  exact .ite (Tally.wr (Tally.modRpl (.refl s) _) hrpl) (.refl s)

theorem rplAdd_totals (s : State) (n : Nat) (e : Int) : (s.rplAdd n e).grn.totals = s.grn.totals := by
  unfold rplAdd
  dsimp only
  split
  · exact (congrArg Grn.totals (wr_grn ..)).trans rfl
  · rfl

theorem pmaxTake_grn (s : State) (f : Fld) (e n : Nat) : (s.pmaxTake f e n).grn = s.grn := by
  unfold pmaxTake
  dsimp only
  split
  · rfl
  · exact put_grn ..

theorem pmaxTake_tally {P : Nat → Prop} (s : State) {f : Fld} (hf : P f.addr) (e n : Nat) : Tally P s (s.pmaxTake f e n) := by
  unfold pmaxTake
  exact .ite (.refl s) (Tally.put (.refl s) hf)

/-! ### The close of an AC cycle -/

/-- The registers that show the close of AC meter `m`, and those that follow the totals. -/
def acRegs (m b : Nat) : Prop := b = R.GRN_ACm_STAT m ∨ (R.GRN_ACm_LIVEn m 0 ≤ b ∧ b ≤ R.GRN_ACm_LIVEn m 7) ∨ tallyRegs b

/-- The registers that a close writes after its status and its frequency. -/
def acLateRegs (m b : Nat) : Prop := (R.GRN_ACm_LIVEn m 0 < b ∧ b ≤ R.GRN_ACm_LIVEn m 7) ∨ tallyRegs b

/-- The close is a fundamental cycle. -/
def closesFund (s : State) (m : Nat) (ends : Bool) : Bool := (s.acMeter m).began && ends && (s.cycleOf m).all (fun x => x.valid)

/-- The status of a close: the phases below NL_I, whether it is fundamental, and one more close. -/
def closeMarked (s t : State) (m : Nat) (fund : Bool) : State :=
  ((t.put (F.GRN_ACm_STAT_NOLOAD m) (((List.range 3).filter (fun p => !s.phaseLoaded m p)).foldl (fun a p => a + 2 ^ p) 0)).putB
    (F.GRN_ACm_STAT_FUND m) fund).incW (F.GRN_ACm_STAT_CLOSES m)

/-- The frequency of a close. -/
def closeFreq (s t : State) (m : Nat) : State := t.wr (R.GRN_ACm_LIVEn m 0) (if t.on (F.GRN_ACm_STAT_NOZX m) then 0 else (s.acMeter m).freq)

/-- The voltages and currents of a close, its largest power, and the replay accumulator. -/
def closeLived (s t : State) (m : Nat) (fund : Bool) : State :=
  (((t.forAll 3 (fun p u =>
    (u.wr (R.GRN_ACm_LIVEn m (1 + p)) (rmsWord (u.rd (R.GRN_ACm_KVp m p)) (nth (s.cycleSums m) p {}).svv (s.cycleOf m).length)).wr
      (R.GRN_ACm_LIVEn m (4 + p)) (rmsWord (u.rd (R.GRN_ACm_KIp m p)) (nth (s.cycleSums m) p {}).sii (s.cycleOf m).length))).pmaxTake
    (F.GRN_ACm_LIVEn_WORD m 7) (s.sigmaEnergy m fund).ss.toNat (s.cycleOf m).length).rplAdd m (s.sigmaEnergy m fund).ap)

/-- The state of a close before the cycle begins anew. -/
def acClosing (s : State) (m : Nat) (fund : Bool) : State :=
  s.closeLived (s.closeFreq (s.closeMarked (s.cycleBilled m fund) m fund) m) m fund

theorem acClose_eq (s : State) (m : Nat) (ends : Bool) : s.acClose m ends =
    ((s.acClosing m (s.closesFund m ends)).modAc m (fun x => { x with cycle := [], began := ends })).raise (0xA0 + m) := rfl

theorem closeMarked_tally (s t : State) (m : Nat) (fund : Bool) : Tally (acRegs m) t (s.closeMarked t m fund) :=
  Tally.put (Tally.put (Tally.put (.refl t) (.inl rfl)) (.inl rfl)) (.inl rfl)

theorem closeFreq_tally (s t : State) (m : Nat) : Tally (acRegs m) t (s.closeFreq t m) :=
  Tally.wr (.refl t) (.inr (.inl ⟨le_rfl, by simp only [R.GRN_ACm_LIVEn]; omega⟩))

theorem closeLived_tally (s t : State) (m : Nat) (fund : Bool) : Tally (acLateRegs m) t (s.closeLived t m fund) := by
  have hlive (n : Nat) (h1 : 1 ≤ n) (h7 : n ≤ 7) : acLateRegs m (R.GRN_ACm_LIVEn m n) := .inl (by simp only [R.GRN_ACm_LIVEn]; omega)
  have hloop : Tally (acLateRegs m) t (t.forAll 3 (fun p u =>
      (u.wr (R.GRN_ACm_LIVEn m (1 + p)) (rmsWord (u.rd (R.GRN_ACm_KVp m p)) (nth (s.cycleSums m) p {}).svv (s.cycleOf m).length)).wr
        (R.GRN_ACm_LIVEn m (4 + p)) (rmsWord (u.rd (R.GRN_ACm_KIp m p)) (nth (s.cycleSums m) p {}).sii (s.cycleOf m).length))) :=
    Tally.forAll (.refl t) fun p u hp hu => Tally.wr (Tally.wr hu (hlive (1 + p) (by omega) (by omega))) (hlive (4 + p) (by omega) (by omega))
  unfold closeLived
  exact (hloop.trans (pmaxTake_tally _ (hlive 7 (by decide) (by decide)) _ _)).trans ((rplAdd_tally _ m _).mono fun _ => .inr)

theorem closeLived_totals (s t : State) (m : Nat) (fund : Bool) : (s.closeLived t m fund).grn.totals = t.grn.totals := by
  unfold closeLived
  rw [rplAdd_totals, pmaxTake_grn]
  exact forAll_rec (p := fun _ u => u.grn.totals = t.grn.totals) rfl fun p u _ hu => by
    rw [wr_grn, wr_grn]
    exact hu

theorem acLateRegs_acRegs {b : Nat} (h : acLateRegs m b) : acRegs m b := by
  rcases h with ⟨h0, h7⟩ | h
  · exact .inr (.inl ⟨h0.le, h7⟩)
  · exact .inr (.inr h)

theorem acClosing_tally (s : State) (m : Nat) (fund : Bool) : Tally (acRegs m) s (s.acClosing m fund) := by
  have hb : Tally (acRegs m) s (s.cycleBilled m fund) := (cycleBilled_tally s m fund).mono fun _ h => .inr (.inr h)
  have hf := (hb.trans (closeMarked_tally s _ m fund)).trans (closeFreq_tally s _ m)
  exact hf.trans ((closeLived_tally s _ m fund).mono fun _ => acLateRegs_acRegs)

theorem acClosing_totals (s : State) (m : Nat) (fund : Bool) : (s.acClosing m fund).grn.totals = (s.cycleBilled m fund).grn.totals := by
  unfold acClosing
  rw [closeLived_totals, closeFreq, wr_grn, closeMarked, incW_grn, putB_grn, put_grn]

/-- The status as the close has marked it. -/
theorem acClosing_stat (s : State) (hm : m < 4) (fund : Bool) :
    (s.acClosing m fund).rd (R.GRN_ACm_STAT m) = (s.closeMarked (s.cycleBilled m fund) m fund).rd (R.GRN_ACm_STAT m) := by
  refine ((closeLived_tally s _ m fund).writes.rd ?_).trans ((rd_wr ..).trans (if_neg ?_))
  · simp only [acLateRegs, tallyRegs, R.GRN_ACm_LIVEn, R.GRN_ACm_STAT]
    omega
  · simp only [R.GRN_ACm_LIVEn, R.GRN_ACm_STAT]
    omega

/-- The status that stood before the close is that of the state whose totals it has changed. -/
theorem cycleBilled_stat (s : State) (hm : m < 4) (fund : Bool) : (s.cycleBilled m fund).rd (R.GRN_ACm_STAT m) = s.rd (R.GRN_ACm_STAT m) :=
  (cycleBilled_tally s m fund).rd (by simp only [R.GRN_ACm_STAT]; omega)

theorem closeMarked_nozx (s t : State) (m : Nat) (fund : Bool) : (s.closeMarked t m fund).on (F.GRN_ACm_STAT_NOZX m) = t.on (F.GRN_ACm_STAT_NOZX m) := by
  unfold closeMarked
  rw [incW, on_put_other _ (F.GRN_ACm_STAT_CLOSES m) (F.GRN_ACm_STAT_NOZX m) _ (by simp) (.inr (by simp)),
    on_putB_other _ (F.GRN_ACm_STAT_FUND m) (F.GRN_ACm_STAT_NOZX m) _ (by simp) (.inr (by simp)),
    on_put_other _ (F.GRN_ACm_STAT_NOLOAD m) (F.GRN_ACm_STAT_NOZX m) _ (by simp) (.inr (by simp))]

theorem closeMarked_fund (s t : State) (m : Nat) (fund : Bool) : (s.closeMarked t m fund).on (F.GRN_ACm_STAT_FUND m) = fund := by
  unfold closeMarked
  rw [incW, on_put_other _ (F.GRN_ACm_STAT_CLOSES m) (F.GRN_ACm_STAT_FUND m) _ (by simp) (.inr (by simp)),
    on_putB_same _ (F.GRN_ACm_STAT_FUND m) fund (by simp) (by simp)]

theorem closeMarked_closes (s t : State) (m : Nat) (fund : Bool) : (s.closeMarked t m fund).get (F.GRN_ACm_STAT_CLOSES m) =
    (t.get (F.GRN_ACm_STAT_CLOSES m) + 1) % 2 ^ (F.GRN_ACm_STAT_CLOSES m).width := by
  unfold closeMarked
  rw [incW_get_same _ _ (by simp), get_putB_other _ (F.GRN_ACm_STAT_FUND m) (F.GRN_ACm_STAT_CLOSES m) _ (by simp) (.inr (by simp)),
    get_put_other _ (F.GRN_ACm_STAT_NOLOAD m) (F.GRN_ACm_STAT_CLOSES m) _ (by simp) (.inr (by simp))]

theorem acClosing_freq (s : State) (hm : m < 4) (fund : Bool) :
    (s.acClosing m fund).rd (R.GRN_ACm_LIVEn m 0) = if s.on (F.GRN_ACm_STAT_NOZX m) then 0 else (s.acMeter m).freq := by
  have hlate : ¬ acLateRegs m (R.GRN_ACm_LIVEn m 0) := by
    simp only [acLateRegs, tallyRegs, R.GRN_ACm_LIVEn]
    omega
  refine ((closeLived_tally s _ m fund).writes.rd hlate).trans ((rd_wr ..).trans ((if_pos rfl).trans ?_))
  rw [closeMarked_nozx, on_of_rd (cycleBilled_stat s hm fund)]

/-- What the close of AC meter `m` leaves. -/
structure AcClosed (s : State) (m : Nat) (ends : Bool) (t : State) : Prop where
  moves : Moves [.regs, .cycle, .grn, .events, .stew] s t
  writes : s.Writes (acRegs m) t
  lasts : s.EventsLast t
  meter : t.acMeter m = { s.acMeter m with cycle := [], began := ends }
  others : ∀ k, k ≠ m → t.acMeter k = s.acMeter k
  dc : t.grn.dc = s.grn.dc
  active : t.grn.active = s.grn.active
  queue : t.grn.queue = s.grn.queue
  length : t.grn.ac.length = s.grn.ac.length
  nozx : t.on (F.GRN_ACm_STAT_NOZX m) = s.on (F.GRN_ACm_STAT_NOZX m)
  fund : t.on (F.GRN_ACm_STAT_FUND m) = s.closesFund m ends
  closes : t.get (F.GRN_ACm_STAT_CLOSES m) = (s.get (F.GRN_ACm_STAT_CLOSES m) + 1) % 2 ^ (F.GRN_ACm_STAT_CLOSES m).width
  freq : t.rd (R.GRN_ACm_LIVEn m 0) = if s.on (F.GRN_ACm_STAT_NOZX m) then 0 else (s.acMeter m).freq

theorem not_acRegs_low {b : Nat} (h : b < 0x40090080) : ¬ acRegs m b := by
  simp only [acRegs, tallyRegs, R.GRN_ACm_STAT, R.GRN_ACm_LIVEn]
  omega

theorem acClose_closed (hlen : s.grn.ac.length = 4) (hm : m < 4) (ends : Bool) : AcClosed s m ends (s.acClose m ends) := by
  have htally := acClosing_tally s m (s.closesFund m ends)
  have hstat := acClosing_stat s hm (s.closesFund m ends)
  have hfreq := acClosing_freq s hm (s.closesFund m ends)
  rw [acClose_eq]
  generalize s.acClosing m (s.closesFund m ends) = u at htally hstat hfreq ⊢
  have hmod := modAc_moves u m (fun x => { x with cycle := [], began := ends })
  have hgrn : ((u.modAc m (fun x => { x with cycle := [], began := ends })).raise (0xA0 + m)).grn =
      (u.modAc m (fun x => { x with cycle := [], began := ends })).grn := raise_grn ..
  have hrd (b : Nat) : ((u.modAc m (fun x => { x with cycle := [], began := ends })).raise (0xA0 + m)).rd b = u.rd b :=
    (rd_raise ..).trans (rd_congr hmod.regs b)
  have hac := htally.ac
  refine ⟨(htally.moves.trans (hmod.mono (by decide))).raise, Writes.raise (htally.writes.trans (.of_regs hmod.regs)),
    (EventsLast.same htally.lasts hmod.events).raise _, ?_, fun k hk => ?_, ?_, ?_, ?_, ?_, ?_, ?_, ?_, (hrd _).trans hfreq⟩
  · rw [acMeter_congr (congrArg Grn.ac hgrn), acMeter_modAc_same _ _ (hm.trans_eq (by rw [hac, hlen])), acMeter_congr hac]
  · rw [acMeter_congr (congrArg Grn.ac hgrn), acMeter_modAc_other _ _ hk, acMeter_congr hac]
  · exact (congrArg Grn.dc hgrn).trans htally.dc
  · exact (congrArg Grn.active hgrn).trans htally.active
  · exact (congrArg Grn.queue hgrn).trans htally.queue
  · exact (congrArg (fun g : Grn => g.ac.length) hgrn).trans ((length_upd ..).trans (congrArg List.length hac))
  · exact (on_of_rd ((hrd _).trans hstat)).trans ((closeMarked_nozx ..).trans (on_of_rd (cycleBilled_stat s hm _)))
  · exact (on_of_rd ((hrd _).trans hstat)).trans (closeMarked_fund ..)
  · refine (get_of_rd ((hrd _).trans hstat)).trans ((closeMarked_closes ..).trans ?_)
    rw [get_of_rd (f := F.GRN_ACm_STAT_CLOSES m) (cycleBilled_stat s hm _)]

theorem acClose_totals (s : State) (m : Nat) (ends : Bool) : (s.acClose m ends).grn.totals = (s.cycleBilled m (s.closesFund m ends)).grn.totals := by
  rw [acClose_eq, raise_grn]
  exact acClosing_totals s m _

theorem acClose_adds (hs : s.Counting) (hm : m < 4) (ends : Bool) : s.acCloseAdds (s.acClose m ends) m (s.closesFund m ends) := by
  have h := cycleBilled_adds hs m (s.closesFund m ends)
  have hadds := h.closeAdds hs hm
  unfold acCloseAdds at hadds ⊢
  rw [acClose_totals]
  exact hadds

theorem acClose_sent (hr : s.coreRuns = true) (m : Nat) (ends : Bool) : s.sent (s.acClose m ends) (0xA0 + m) := by
  have htally := acClosing_tally s m (s.closesFund m ends)
  rw [acClose_eq]
  have hmod := modAc_moves (s.acClosing m (s.closesFund m ends)) m (fun x => { x with cycle := [], began := ends })
  refine sent_raise ?_ (hmod.clk.trans htally.moves.clk) _
  exact (coreRuns_of_rd (hmod.sys.trans htally.moves.sys) ((rd_congr hmod.regs _).trans (htally.writes.rd (not_acRegs_low (by decide))))).trans hr

end State
end Sys2Proof.Machine

/-! The closes that are due: of a cycle without a crossing, of a cycle of fixed length and of a DC block (R229, R230, R235). -/

namespace Sys2Proof.Machine

set_option Elab.async false
namespace State

variable {s t u : State} {m k : Nat} {fund ends : Bool}

/-! ### Closes of AC cycles -/

theorem scale_congr {a : Nat} (h : t.rd a = s.rd a) : t.scale a = s.scale a := by rw [scale, h, scale]

/-- The energies of a cycle are a matter of the cycle and of the meter's settings. -/
theorem cycleEnergy_congr (hg : t.grn = s.grn) (hrd : ∀ b, b ≠ R.GRN_ACm_STAT m → t.rd b = s.rd b) (fund : Bool) (p : Nat) :
    t.cycleEnergy m fund p = s.cycleEnergy m fund p := by
  have hcyc : t.acMeter m = s.acMeter m := acMeter_congr (congrArg Grn.ac hg) m
  have hnl : t.get (F.GRN_ACm_NL_NL_I m) = s.get (F.GRN_ACm_NL_NL_I m) := get_of_rd (hrd _ (by simp only [R.GRN_ACm_NL, R.GRN_ACm_STAT]; omega))
  have hdir : t.on (F.GRN_ACm_CFG_DIR m) = s.on (F.GRN_ACm_CFG_DIR m) := on_of_rd (hrd _ (by simp only [R.GRN_ACm_CFG, R.GRN_ACm_STAT]; omega))
  have hke (q : Nat) : t.scale (R.GRN_ACm_KEp m q) = s.scale (R.GRN_ACm_KEp m q) :=
    scale_congr (hrd _ (by simp only [R.GRN_ACm_KEp, R.GRN_ACm_STAT]; omega))
  unfold cycleEnergy
  simp only [hcyc, hnl, hdir, hke]

/-- What a close adds counts from the state before a change of its status. -/
theorem acCloseAdds_congr (hg : t.grn = s.grn) (hrd : ∀ b, b ≠ R.GRN_ACm_STAT m → t.rd b = s.rd b) (h : t.acCloseAdds u m fund) :
    s.acCloseAdds u m fund := by
  unfold acCloseAdds at h ⊢
  simp only [cycleEnergy_congr hg hrd, hg] at h
  exact h

theorem acCloseAdds_totals (h : s.acCloseAdds t m fund) (ht : u.grn.totals = t.grn.totals) : s.acCloseAdds u m fund := by
  unfold acCloseAdds at h ⊢
  rw [ht]
  exact h

theorem meterOn_runs {n : Nat} (h : s.meterOn n = true) : s.coreRuns = true := by
  simp only [meterOn, Bool.and_eq_true] at h
  exact h.1.2

theorem zxTimeoutDue_split (h : s.zxTimeoutDue m = true) : s.coreRuns = true ∧ s.on (F.GRN_ACm_STAT_NOZX m) = false := by
  simp only [zxTimeoutDue, Bool.and_eq_true, Bool.not_eq_true'] at h
  exact ⟨meterOn_runs h.1.1, h.1.2⟩

theorem nozxDue_split (h : s.nozxDue m = true) : s.coreRuns = true ∧ s.on (F.GRN_ACm_STAT_NOZX m) = true := by
  simp only [nozxDue, Bool.and_eq_true] at h
  exact ⟨meterOn_runs h.1.1, h.1.2⟩

theorem closesFund_false (s : State) (m : Nat) : s.closesFund m false = false := by
  rw [closesFund, Bool.and_false, Bool.false_and]

/-- AC meter `m` marked as without a crossing. -/
def noCrossing (s : State) (m : Nat) : State := s.set1 (F.GRN_ACm_STAT_NOZX m)

theorem noCrossing_moves (s : State) (m : Nat) : Moves [.regs, .cycle] s (s.noCrossing m) := .put (.refl s)

theorem noCrossing_rd (s : State) {b : Nat} (hb : b ≠ R.GRN_ACm_STAT m) : (s.noCrossing m).rd b = s.rd b :=
  rd_put_other s (F.GRN_ACm_STAT_NOZX m) 1 b hb

theorem noCrossing_runs (hr : s.coreRuns = true) (m : Nat) : (s.noCrossing m).coreRuns = true :=
  (coreRuns_of_rd (noCrossing_moves s m).sys (noCrossing_rd s (by simp only [R.SYS_MODE, R.GRN_ACm_STAT]; omega))).trans hr

theorem zxTimeout_eq (h : s.zxTimeoutDue m = true) : s.zxTimeout m = ((s.noCrossing m).acClose m false).raise 0xAA := if_pos h

theorem zxTimeout_gives (hs : s.Shaped) (m : Fin 4) (h : s.zxTimeoutDue m = true) : Completes (.zxTimeout m) s fun t =>
    t.on (F.GRN_ACm_STAT_NOZX m) = true ∧ (t.acMeter m).cycle = [] ∧ (t.acMeter m).began = false ∧
    t.on (F.GRN_ACm_STAT_FUND m) = false ∧ t.rd (R.GRN_ACm_LIVEn m 0) = 0 ∧ s.sent t 0xAA ∧
    (∀ k : Fin 4, k ≠ m → t.acMeter k = s.acMeter k) ∧ t.grn.dc = s.grn.dc ∧ t.clk = s.clk ∧ t.loom = s.loom ∧ t.mem = s.mem := by
  obtain ⟨hr, -⟩ := zxTimeoutDue_split h
  have hmark := noCrossing_moves s m
  have hc : AcClosed (s.noCrossing m) m false ((s.noCrossing m).acClose m false) := acClose_closed ((congrArg (fun g : Grn => g.ac.length) hmark.grn).trans hs.ac) m.isLt false
  have hnozx : (s.noCrossing m).on (F.GRN_ACm_STAT_NOZX m) = true := on_set1_same s (F.GRN_ACm_STAT_NOZX m) (by simp) (by simp)
  have hruns : ((s.noCrossing m).acClose m false).coreRuns = true :=
    (coreRuns_of_rd hc.moves.sys (hc.writes.rd (not_acRegs_low (by decide)))).trans (noCrossing_runs hr m)
  have hmoves := (hmark.mono (by decide)).trans hc.moves
  refine ⟨_, congrArg Host.Outcome.next (zxTimeout_eq h), ?_⟩
  generalize (s.noCrossing m).acClose m false = u at hc hruns hmoves ⊢
  have hmeter (j : Nat) : (u.raise 0xAA).acMeter j = u.acMeter j := acMeter_congr (congrArg Grn.ac (raise_grn ..)) j
  have hbefore (j : Nat) : (s.noCrossing m).acMeter j = s.acMeter j := acMeter_congr (congrArg Grn.ac hmark.grn) j
  refine ⟨(on_of_rd (rd_raise ..)).trans (hc.nozx.trans hnozx), by rw [hmeter, hc.meter], by rw [hmeter, hc.meter],
    (on_of_rd (rd_raise ..)).trans (hc.fund.trans (closesFund_false _ m)), (rd_raise ..).trans (hc.freq.trans (if_pos hnozx)),
    sent_raise hruns hmoves.clk _, fun k hk => ?_, (congrArg Grn.dc (raise_grn ..)).trans (hc.dc.trans (congrArg Grn.dc hmark.grn)),
    (raise_clk ..).trans hmoves.clk, (raise_loom ..).trans hmoves.loom, (raise_mem ..).trans hmoves.mem⟩
  rw [hmeter, hc.others k fun hv => hk (Fin.ext hv), hbefore]

theorem nozxClose_eq (h : s.nozxDue m = true) : s.nozxClose m = s.acClose m false := if_pos h

theorem nozxClose_gives (hs : s.Shaped) (m : Fin 4) (h : s.nozxDue m = true) : Completes (.nozxCycleClose m) s fun t =>
    (t.acMeter m).cycle = [] ∧ t.on (F.GRN_ACm_STAT_NOZX m) = true ∧ t.on (F.GRN_ACm_STAT_FUND m) = false ∧ s.sent t (0xA0 + m) ∧
    t.get (F.GRN_ACm_STAT_CLOSES m) = (s.get (F.GRN_ACm_STAT_CLOSES m) + 1) % 2 ^ (F.GRN_ACm_STAT_CLOSES m).width ∧
    (∀ k : Fin 4, k ≠ m → t.acMeter k = s.acMeter k) ∧ t.grn.dc = s.grn.dc ∧ t.clk = s.clk ∧ t.loom = s.loom ∧ t.mem = s.mem := by
  obtain ⟨hr, hnozx⟩ := nozxDue_split h
  have hc : AcClosed s m false (s.acClose m false) := acClose_closed hs.ac m.isLt false
  have hsent := acClose_sent hr m.val false
  refine ⟨_, congrArg Host.Outcome.next (nozxClose_eq h), ?_⟩
  generalize s.acClose m false = u at hc hsent ⊢
  exact ⟨by rw [hc.meter], hc.nozx.trans hnozx, hc.fund.trans (closesFund_false s m), hsent, hc.closes, fun k hk => hc.others k fun hv => hk (Fin.ext hv),
    hc.dc, hc.moves.clk, hc.moves.loom, hc.moves.mem⟩

theorem nozxClose_adds (hs : s.Counting) (m : Fin 4) (h : s.nozxDue m = true) : Completes (.nozxCycleClose m) s fun t => s.acCloseAdds t m false := by
  have hadds := acClose_adds hs m.isLt false
  rw [closesFund_false] at hadds
  exact ⟨_, congrArg Host.Outcome.next (nozxClose_eq h), hadds⟩

theorem zxTimeout_adds (hs : s.Counting) (m : Fin 4) (h : s.zxTimeoutDue m = true) : Completes (.zxTimeout m) s fun t => s.acCloseAdds t m false := by
  have hmark := noCrossing_moves s m
  have hcount : (s.noCrossing m).Counting := ⟨by rw [replayHolds, hmark.tst]; exact hs.free, by rw [hmark.grn]; exact hs.length, by rw [hmark.grn]; exact hs.bound⟩
  have hadds := acClose_adds hcount m.isLt false
  rw [closesFund_false] at hadds
  exact ⟨_, congrArg Host.Outcome.next (zxTimeout_eq h), acCloseAdds_totals (acCloseAdds_congr hmark.grn (fun b hb => noCrossing_rd s hb) hadds)
    (congrArg Grn.totals (raise_grn ..))⟩

theorem acClose_adds_all (hs : s.Counting) (m : Fin 4) (ends : Bool) :
    s.acCloseAdds (s.acClose m ends) m ((s.acMeter m).began && ends && (s.acMeter m).cycle.all (fun x => x.valid)) := by
  have h := acClose_adds hs m.isLt ends
  rwa [closesFund, cycleOf, List.all_reverse] at h

/-! ### The close of a DC block (R235) -/

/-- The registers that show the close of DC meter `m`, and those that follow the totals. -/
def dcRegs (m b : Nat) : Prop := b = R.GRN_DCm_STAT m ∨ b = R.GRN_DCm_PMAX m ∨ tallyRegs b

/-- The charge of a block stays below NL_I. -/
def blockIdle (s : State) (m : Nat) : Bool := decide ((s.dcMeter m).si.natAbs < s.get (F.GRN_DCm_NL_NL_I m) * 320)

/-- The energy and the charge of a block. -/
def blockEnergy (s : State) (m : Nat) : Int := ratRoundEven (((s.dcMeter m).svi : Rat) * s.scale (R.GRN_DCm_KE m) * pow2 32)
def blockCharge (s : State) (m : Nat) : Int := ratRoundEven (((s.dcMeter m).si : Rat) * s.scale (R.GRN_DCm_KQ m) * pow2 32)

/-- The totals with a block's energy and charge. -/
def blockBilled (s : State) (m : Nat) : State :=
  if s.blockIdle m then s
  else if 0 ≤ (s.dcMeter m).si then (s.addDirected (dcTotal m 0) (dcTotal m 1) (s.blockEnergy m)).addTotal (dcTotal m 2) (s.blockCharge m)
  else (s.addDirected (dcTotal m 0) (dcTotal m 1) (s.blockEnergy m)).addTotal (dcTotal m 3) (-(s.blockCharge m))

/-- The status of a closed block. -/
def blockMarked (s t : State) (m : Nat) : State := (t.putB (F.GRN_DCm_STAT_NOLOAD m) (s.blockIdle m)).incW (F.GRN_DCm_STAT_CLOSES m)

/-- The state of a close before the block begins anew. -/
def dcClosing (s : State) (m : Nat) : State :=
  ((s.blockMarked (s.blockBilled m) m).pmaxTake (F.GRN_DCm_PMAX_WORD m) (if s.blockIdle m then 0 else (s.blockEnergy m).natAbs) (s.dcMeter m).count).rplAdd
    (4 + m) (if s.blockIdle m then 0 else s.blockEnergy m)

theorem dcClose_eq (s : State) (m : Nat) : s.dcClose m =
    ((s.dcClosing m).modDc m (fun x => { x with open_ := false, count := 0, svi := 0, si := 0 })).raise (0xA4 + m) := rfl

theorem blockBilled_tally (s : State) (m : Nat) : Tally tallyRegs s (s.blockBilled m) := by
  have hdir : Tally tallyRegs s (s.addDirected (dcTotal m 0) (dcTotal m 1) (s.blockEnergy m)) := .ite (addTotal_tally ..) (addTotal_tally ..)
  exact .ite (.refl s) (.ite (hdir.trans (addTotal_tally ..)) (hdir.trans (addTotal_tally ..)))

theorem dcClosing_tally (s : State) (m : Nat) : Tally (dcRegs m) s (s.dcClosing m) := by
  have hb : Tally (dcRegs m) s (s.blockBilled m) := (blockBilled_tally s m).mono fun _ h => .inr (.inr h)
  have hmark : Tally (dcRegs m) s (s.blockMarked (s.blockBilled m) m) := Tally.put (Tally.put hb (.inl rfl)) (.inl rfl)
  exact (hmark.trans (pmaxTake_tally _ (.inr (.inl rfl)) _ _)).trans ((rplAdd_tally _ _ _).mono fun _ h => .inr (.inr h))

theorem dcClosing_totals (s : State) (m : Nat) : (s.dcClosing m).grn.totals = (s.blockBilled m).grn.totals := by
  unfold dcClosing
  rw [rplAdd_totals, pmaxTake_grn, blockMarked, incW_grn, putB_grn]

theorem dcClosing_noload (s : State) (hm : m < 4) : (s.dcClosing m).on (F.GRN_DCm_STAT_NOLOAD m) = s.blockIdle m := by
  have hlate : (s.dcClosing m).rd (R.GRN_DCm_STAT m) = (s.blockMarked (s.blockBilled m) m).rd (R.GRN_DCm_STAT m) := by
    refine ((rplAdd_tally _ _ _).rd (by simp only [R.GRN_DCm_STAT]; omega)).trans ((pmaxTake_tally (P := (· = R.GRN_DCm_PMAX m)) _ rfl _ _).writes.rd ?_)
    simp only [R.GRN_DCm_STAT, R.GRN_DCm_PMAX]
    omega
  refine (on_of_rd hlate).trans ?_
  unfold blockMarked
  rw [incW, on_put_other _ (F.GRN_DCm_STAT_CLOSES m) (F.GRN_DCm_STAT_NOLOAD m) _ (by simp) (.inr (by simp)),
    on_putB_same _ (F.GRN_DCm_STAT_NOLOAD m) _ (by simp) (by simp)]

theorem not_dcRegs_low {b : Nat} (h : b < 0x40090080) : ¬ dcRegs m b := by
  simp only [dcRegs, tallyRegs, R.GRN_DCm_STAT, R.GRN_DCm_PMAX]
  omega

theorem blockClose_eq (h : s.blockDue m = true) : s.blockClose m = s.dcClose m := if_pos h

theorem blockDue_runs (h : s.blockDue m = true) : s.coreRuns = true := by
  simp only [blockDue, Bool.and_eq_true] at h
  exact meterOn_runs h.1.1

theorem blockClose_gives (hs : s.Shaped) (m : Fin 4) (h : s.blockDue m = true) : Completes (.dcBlockClose m) s fun t =>
    (t.dcMeter m).open_ = false ∧ (t.dcMeter m).count = 0 ∧ (t.dcMeter m).svi = 0 ∧ (t.dcMeter m).si = 0 ∧ s.sent t (0xA4 + m) ∧
    (∀ k : Fin 4, k ≠ m → t.dcMeter k = s.dcMeter k) ∧ t.grn.ac = s.grn.ac ∧ t.clk = s.clk ∧ t.loom = s.loom ∧ t.mem = s.mem := by
  refine ⟨_, congrArg Host.Outcome.next ((blockClose_eq h).trans (dcClose_eq s m)), ?_⟩
  have htally := dcClosing_tally s m
  generalize s.dcClosing m = u at htally ⊢
  have hmod := modDc_moves u m (fun x => { x with open_ := false, count := 0, svi := 0, si := 0 })
  have hruns : (u.modDc m (fun x => { x with open_ := false, count := 0, svi := 0, si := 0 })).coreRuns = true :=
    (coreRuns_of_rd (hmod.sys.trans htally.moves.sys) ((rd_congr hmod.regs _).trans (htally.writes.rd (not_dcRegs_low (by decide))))).trans (blockDue_runs h)
  have hsame := dcMeter_modDc_same u (fun x => { x with open_ := false, count := 0, svi := 0, si := 0 })
    (m.isLt.trans_eq ((congrArg List.length htally.dc).trans hs.dc).symm)
  have hother (k : Nat) (hk : k ≠ m) := dcMeter_modDc_other u (fun x => { x with open_ := false, count := 0, svi := 0, si := 0 }) hk
  have hac : (u.modDc m (fun x => { x with open_ := false, count := 0, svi := 0, si := 0 })).grn.ac = s.grn.ac := Eq.trans rfl htally.ac
  have hsent := sent_raise hruns (hmod.clk.trans htally.moves.clk) (0xA4 + m)
  have hclk := hmod.clk.trans htally.moves.clk
  have hloom := hmod.loom.trans htally.moves.loom
  have hmem := hmod.mem.trans htally.moves.mem
  have hdc := dcMeter_congr htally.dc
  generalize u.modDc m (fun x => { x with open_ := false, count := 0, svi := 0, si := 0 }) = v at hsame hother hac hsent hclk hloom hmem ⊢
  have hmeter (j : Nat) : (v.raise (0xA4 + m)).dcMeter j = v.dcMeter j := dcMeter_congr (congrArg Grn.dc (raise_grn ..)) j
  refine ⟨by rw [hmeter, hsame], by rw [hmeter, hsame], by rw [hmeter, hsame], by rw [hmeter, hsame], hsent, fun k hk => ?_,
    (congrArg Grn.ac (raise_grn ..)).trans hac, (raise_clk ..).trans hclk, (raise_loom ..).trans hloom, (raise_mem ..).trans hmem⟩
  rw [hmeter, hother k fun hv => hk (Fin.ext hv), hdc]

theorem dcClose_totals (s : State) (m : Nat) : (s.dcClose m).grn.totals = (s.blockBilled m).grn.totals := by
  rw [dcClose_eq, raise_grn]
  exact dcClosing_totals s m

theorem dcClose_noload (s : State) (hm : m < 4) : (s.dcClose m).on (F.GRN_DCm_STAT_NOLOAD m) = s.blockIdle m := by
  rw [dcClose_eq]
  refine (on_of_rd ?_).trans (dcClosing_noload s hm)
  exact (rd_raise ..).trans (rd_congr (modDc_moves _ m _).regs _)

/-- What a block that is not idle adds to each total. -/
def blockAdds (s : State) (m i : Nat) : Nat :=
  only (dcTotal m 0) (s.blockEnergy m).toNat i + only (dcTotal m 1) (-(s.blockEnergy m)).toNat i +
    if 0 ≤ (s.dcMeter m).si then only (dcTotal m 2) (s.blockCharge m).toNat i else only (dcTotal m 3) (-(s.blockCharge m)).toNat i

theorem blockBilled_adds (hs : s.Counting) (h : s.blockIdle m = false) : Adds (s.blockAdds m) s (s.blockBilled m) := by
  have hdir := addDirected_adds hs (dcTotal m 0) (dcTotal m 1) (s.blockEnergy m)
  have hs1 := hdir.counting hs
  unfold blockBilled
  rw [h, if_neg Bool.false_ne_true]
  unfold blockAdds
  by_cases hsi : 0 ≤ (s.dcMeter m).si
  · simp only [if_pos hsi]
    exact hdir.trans (addTotal_adds hs1 _ _)
  · simp only [if_neg hsi]
    exact hdir.trans (addTotal_adds hs1 _ _)

theorem blockClose_adds (hs : s.Counting) (m : Fin 4) (h : s.blockDue m = true) : Completes (.dcBlockClose m) s fun t =>
    t.on (F.GRN_DCm_STAT_NOLOAD m) = s.blockIdle m ∧
    (s.blockIdle m = true → t.grn.totals = s.grn.totals) ∧
    (s.blockIdle m = false →
      nth t.grn.totals (dcTotal m 0) 0 = (nth s.grn.totals (dcTotal m 0) 0 + (s.blockEnergy m).toNat) % 2 ^ 96 ∧
      nth t.grn.totals (dcTotal m 1) 0 = (nth s.grn.totals (dcTotal m 1) 0 + (-(s.blockEnergy m)).toNat) % 2 ^ 96 ∧
      ((0 ≤ (s.dcMeter m).si) →
        nth t.grn.totals (dcTotal m 2) 0 = (nth s.grn.totals (dcTotal m 2) 0 + (s.blockCharge m).toNat) % 2 ^ 96 ∧
        nth t.grn.totals (dcTotal m 3) 0 = nth s.grn.totals (dcTotal m 3) 0) ∧
      ((s.dcMeter m).si < 0 →
        nth t.grn.totals (dcTotal m 3) 0 = (nth s.grn.totals (dcTotal m 3) 0 + (-(s.blockCharge m)).toNat) % 2 ^ 96 ∧
        nth t.grn.totals (dcTotal m 2) 0 = nth s.grn.totals (dcTotal m 2) 0) ∧
      (∀ i : Fin 176, i.val < dcTotal m 0 ∨ dcTotal m 3 < i.val → nth t.grn.totals i 0 = nth s.grn.totals i 0)) := by
  refine ⟨_, congrArg Host.Outcome.next (blockClose_eq h), dcClose_noload s m.isLt, fun hlow => ?_, fun hlow => ?_⟩
  · rw [dcClose_totals, blockBilled, if_pos hlow]
  · have hadds := blockBilled_adds hs hlow
    have hsum (i : Nat) (hi : i < 176) : nth (s.dcClose m).grn.totals i 0 = (nth s.grn.totals i 0 + s.blockAdds m i) % 2 ^ 96 := by
      rw [dcClose_totals]
      exact hadds.sums i hi
    have hnone (i : Nat) (hi : i < 176) (hz : s.blockAdds m i = 0) : nth (s.dcClose m).grn.totals i 0 = nth s.grn.totals i 0 := by
      rw [hsum i hi, hz, Nat.add_zero, Nat.mod_eq_of_lt (hs.bound i hi)]
    have hm := m.isLt
    refine ⟨?_, ?_, fun hsi => ⟨?_, ?_⟩, fun hsi => ⟨?_, ?_⟩, fun i hi => hnone i i.isLt ?_⟩
    · rw [hsum _ (by unfold dcTotal; omega)]
      simp [blockAdds, only, dcTotal]
    · rw [hsum _ (by unfold dcTotal; omega)]
      simp [blockAdds, only, dcTotal]
    · rw [hsum _ (by unfold dcTotal; omega)]
      simp [blockAdds, only, dcTotal, hsi]
    · refine hnone _ (by unfold dcTotal; omega) ?_
      simp [blockAdds, only, dcTotal, hsi]
    · rw [hsum _ (by unfold dcTotal; omega)]
      simp [blockAdds, only, dcTotal, not_le.mpr hsi]
    · refine hnone _ (by unfold dcTotal; omega) ?_
      simp [blockAdds, only, dcTotal, not_le.mpr hsi]
    · unfold dcTotal at hi
      have hne (q : Nat) (hq : q < 4) (x : Nat) : only (dcTotal m q) x i = 0 := only_ne (by unfold dcTotal; omega) x
      unfold blockAdds
      rw [hne 0 (by decide), hne 1 (by decide), hne 2 (by decide), hne 3 (by decide), ite_self]

end State
end Sys2Proof.Machine

/-! Intervals of the meters, and energy pulses (R226, R230, R240, R243). -/

namespace Sys2Proof.Machine

set_option Elab.async false
namespace State

variable {s t u : State} {m k : Nat} {e : GrnInterval} {A : List Part}

/-! ### The snapshot before an interval (R240) -/

/-- The parts that a snapshot without a write to abandon may change. -/
abbrev snapParts : List Part := [.regs, .cycle, .grn, .events, .stew]

theorem acClose_moves (s : State) (m : Nat) (ends : Bool) : Moves snapParts s (s.acClose m ends) := by
  have htally := (acClosing_tally s m (s.closesFund m ends)).moves
  rw [acClose_eq]
  exact (htally.trans ((modAc_moves _ m _).mono (by decide))).raise

theorem acClose_write (s : State) (m : Nat) (ends : Bool) : (s.acClose m ends).grn.write = s.grn.write := by
  rw [acClose_eq, raise_grn]
  exact (acClosing_tally s m (s.closesFund m ends)).write

theorem dcClose_moves (s : State) (m : Nat) : Moves snapParts s (s.dcClose m) := by
  have htally := (dcClosing_tally s m).moves
  rw [dcClose_eq]
  exact (htally.trans ((modDc_moves _ m _).mono (by decide))).raise

theorem dcClose_write (s : State) (m : Nat) : (s.dcClose m).grn.write = s.grn.write := by
  rw [dcClose_eq, raise_grn]
  exact (dcClosing_tally s m).write

/-- A step of a snapshot that leaves a write in hand as it is. -/
def WriteKept (s t : State) : Prop := Moves snapParts s t ∧ t.grn.write = s.grn.write

theorem closeOpen_kept (s : State) : s.WriteKept s.closeOpen := by
  have hac : s.WriteKept (s.forAll 4 (fun m u => if u.meterOn m && (u.acMeter m).cycle != [] then u.acClose m false else u)) :=
    forAll_rec (p := fun _ u => s.WriteKept u) ⟨.refl s, rfl⟩ fun m u _ hu => by
      split
      · exact ⟨hu.1.trans (acClose_moves u m false), (acClose_write u m false).trans hu.2⟩
      · exact hu
  unfold closeOpen
  exact forAll_rec (p := fun _ u => s.WriteKept u) hac fun m u _ hu => by
    split
    · exact ⟨hu.1.trans (dcClose_moves u m), (dcClose_write u m).trans hu.2⟩
    · exact hu

theorem takeSnapshot_kept (s : State) (ref : Bool) : s.WriteKept (s.takeSnapshot ref) := by
  have hstep (u : State) (a : Nat) (v : Word) (hu : s.WriteKept u) : s.WriteKept (u.wr a v) := ⟨hu.1.wr, (congrArg Grn.write (wr_grn ..)).trans hu.2⟩
  have hput (u : State) (f : Fld) (n : Nat) (hu : s.WriteKept u) : s.WriteKept (u.put f n) := ⟨hu.1.put, (congrArg Grn.write (put_grn ..)).trans hu.2⟩
  unfold takeSnapshot
  extract_lets t0 t1 t2 t3 t4
  have h0 : s.WriteKept t0 := ⟨.modGrn (.refl s), rfl⟩
  have h1 : s.WriteKept t1 := forAll_rec (p := fun _ u => s.WriteKept u) h0 fun i u _ hu => hstep u _ _ hu
  have h2 : s.WriteKept t2 := forAll_rec (p := fun _ u => s.WriteKept u) h1 fun i u _ hu => hstep _ _ _ (hstep u _ _ hu)
  have h4 : s.WriteKept t4 := hput _ _ _ (hput _ _ _ (hstep t2 _ _ h2))
  split
  · exact hput t4 _ _ h4
  · exact h4

theorem abandonWrite_moves (s : State) : Moves (.mram :: .draws :: snapParts) s s.abandonWrite := by
  unfold abandonWrite
  split
  · exact .modGrn (.keepPmax (.tearSlot (.refl s)))
  · exact .refl s

theorem abandonWrite_none (h : s.grn.write = none) : s.abandonWrite = s := by rw [abandonWrite, h]

/-- A snapshot moves what the abandoned write moves, and its own parts. -/
theorem snapshotNow_moves (hA : snapParts ⊆ A) (hab : ∀ u, u.grn.write = s.grn.write → Moves A u u.abandonWrite) : Moves A s s.snapshotNow := by
  unfold snapshotNow
  split
  · exact .refl s
  next r _ =>
    extract_lets -underBinder t0 t1
    have h0 : s.WriteKept t0 := by
      unfold t0
      split
      · exact closeOpen_kept s
      · exact ⟨.refl s, rfl⟩
    have htaken := takeSnapshot_kept (t0.modGrn (fun g => { g with snap := none })) r.ref
    have h1 : s.WriteKept t1 := ⟨(h0.1.trans (.modGrn (.refl t0))).trans htaken.1, htaken.2.trans h0.2⟩
    split
    · exact h1.1.mono hA
    · refine .ite ((Moves.modGrn h1.1).mono hA) ?_
      extract_lets -underBinder t2 flags w t3 t4
      have h2 : Moves A s t2 := .ite ((h1.1.mono hA).trans (hab t1 h1.2)) (h1.1.mono hA)
      have h4 : Moves snapParts t2 t4 := Moves.forAll (.modGrn (.refl t2)) fun n u hu => hu.wr
      exact .ite (h2.trans ((Moves.set1 h4).mono hA)) (h2.trans (h4.mono hA))

theorem snapshotTaken_moves (s : State) : Moves (.mram :: .draws :: snapParts) s s.snapshotTaken :=
  .ite (snapshotNow_moves (by decide) fun u _ => abandonWrite_moves u) (.refl s)

theorem snapshotTaken_quiet (h : s.grn.write = none) : Moves snapParts s s.snapshotTaken := by
  refine .ite (snapshotNow_moves (fun _ h => h) fun u hu => ?_) (.refl s)
  rw [abandonWrite_none (hu.trans h)]
  exact .refl u

/-! ### The meters take an interval (R226) -/

/-- Work of the meters, which leaves alone whether a meter is on. -/
structure Metering (s t : State) : Prop where
  moves : Moves snapParts s t
  writes : s.Writes (0x40090040 ≤ ·) t
  active : t.grn.active = s.grn.active
  acLen : t.grn.ac.length = s.grn.ac.length
  dcLen : t.grn.dc.length = s.grn.dc.length
  queue : t.grn.queue = s.grn.queue

namespace Metering

theorem refl (s : State) : s.Metering s := ⟨.refl s, .refl s, rfl, rfl, rfl, rfl⟩
theorem trans (h : s.Metering t) (h' : t.Metering u) : s.Metering u :=
  ⟨h.moves.trans h'.moves, h.writes.trans h'.writes, h'.active.trans h.active, h'.acLen.trans h.acLen, h'.dcLen.trans h.dcLen, h'.queue.trans h.queue⟩
theorem ite {c : Prop} [Decidable c] (ht : s.Metering t) (hu : s.Metering u) : s.Metering (if c then t else u) := by split <;> assumption
theorem put (h : s.Metering t) {f : Fld} {n : Nat} (hf : 0x40090040 ≤ f.addr) : s.Metering (t.put f n) :=
  h.trans ⟨.put (.refl t), .put (.refl t) hf, congrArg Grn.active (put_grn ..), congrArg (fun g : Grn => g.ac.length) (put_grn ..),
    congrArg (fun g : Grn => g.dc.length) (put_grn ..), congrArg Grn.queue (put_grn ..)⟩
theorem raise (h : s.Metering t) (src : Nat) : s.Metering (t.raise src) :=
  h.trans ⟨.raise (.refl t), .raise (.refl t), congrArg Grn.active (raise_grn ..), congrArg (fun g : Grn => g.ac.length) (raise_grn ..),
    congrArg (fun g : Grn => g.dc.length) (raise_grn ..), congrArg Grn.queue (raise_grn ..)⟩
theorem modAc (h : s.Metering t) (m : Nat) (f : AcMeter → AcMeter) : s.Metering (t.modAc m f) :=
  h.trans ⟨(modAc_moves t m f).mono (by decide), .of_regs (modAc_moves t m f).regs, rfl, length_upd .., rfl, rfl⟩
theorem modDc (h : s.Metering t) (m : Nat) (f : DcMeter → DcMeter) : s.Metering (t.modDc m f) :=
  h.trans ⟨(modDc_moves t m f).mono (by decide), .of_regs (modDc_moves t m f).regs, rfl, rfl, length_upd .., rfl⟩

theorem meterOn (h : s.Metering t) (n : Nat) : t.meterOn n = s.meterOn n := by
  have hruns : t.coreRuns = s.coreRuns := coreRuns_of_rd h.moves.sys (h.writes.rd (by decide))
  have hstop : t.on F.GRN_STAT_CLKSTOP = s.on F.GRN_STAT_CLKSTOP := h.writes.on (by decide)
  rw [State.meterOn, h.active, hruns, hstop, State.meterOn]

end Metering

theorem GAP_above (n : Nat) : 0x40090040 ≤ (if n < 4 then F.GRN_ACm_STAT_GAP n else F.GRN_DCm_STAT_GAP (n - 4)).addr := by
  split
  · simp only [R.GRN_ACm_STAT]
    omega
  · simp only [R.GRN_DCm_STAT]
    omega

theorem grnGap_metering (s : State) (n : Nat) (first : Bool) : s.Metering (s.grnGap n first) := by
  have hcount : s.Metering (if s.grnFrozen then s else s.incS (F.GRN_GAPn_VALUE n)) :=
    .ite (.refl s) (Metering.put (.refl s) (by simp only [R.GRN_GAPn]; omega))
  have hmark := Metering.put hcount (n := 1) (GAP_above n)
  unfold grnGap
  exact .ite (hmark.raise _) hmark

theorem grnGap_grn (s : State) (n : Nat) (first : Bool) : (s.grnGap n first).grn = s.grn := by
  unfold grnGap
  dsimp only
  have hcount : (if s.grnFrozen then s else s.incS (F.GRN_GAPn_VALUE n)).grn = s.grn := by
    split
    · rfl
    · exact incS_grn ..
  split
  · exact (raise_grn ..).trans ((set1_grn ..).trans hcount)
  · exact (set1_grn ..).trans hcount

/-- What an interval leaves for the meters other than AC meter `m`. -/
structure AcSampled (s : State) (m : Nat) (t : State) : Prop where
  work : s.Metering t
  others : ∀ k, k ≠ m → t.acMeter k = s.acMeter k
  dc : t.grn.dc = s.grn.dc

namespace AcSampled

theorem refl (s : State) (m : Nat) : AcSampled s m s := ⟨.refl s, fun _ _ => rfl, rfl⟩
theorem trans (h : AcSampled s m t) (h' : AcSampled t m u) : AcSampled s m u :=
  ⟨h.work.trans h'.work, fun k hk => (h'.others k hk).trans (h.others k hk), h'.dc.trans h.dc⟩
theorem ite {c : Prop} [Decidable c] (ht : AcSampled s m t) (hu : AcSampled s m u) : AcSampled s m (if c then t else u) := by split <;> assumption
theorem modAc (h : AcSampled s m t) (f : AcMeter → AcMeter) : AcSampled s m (t.modAc m f) :=
  h.trans ⟨(Metering.refl t).modAc m f, fun _ hk => acMeter_modAc_other t f hk, rfl⟩
theorem of_grn (hw : s.Metering t) (hg : t.grn = s.grn) : AcSampled s m t :=
  ⟨hw, fun k _ => acMeter_congr (congrArg Grn.ac hg) k, congrArg Grn.dc hg⟩

end AcSampled

theorem acRegs_above {b : Nat} (h : acRegs m b) : 0x40090040 ≤ b := by
  simp only [acRegs, tallyRegs, R.GRN_ACm_STAT, R.GRN_ACm_LIVEn] at h
  omega

theorem acClose_sampled (hlen : s.grn.ac.length = 4) (hm : m < 4) (ends : Bool) : AcSampled s m (s.acClose m ends) := by
  have hc := acClose_closed hlen hm ends
  exact ⟨⟨hc.moves, hc.writes.mono fun _ => acRegs_above, hc.active, hc.length, congrArg List.length hc.dc, hc.queue⟩, hc.others, hc.dc⟩

theorem acCrossing_sampled (hlen : s.grn.ac.length = 4) (hm : m < 4) (v : Int) : AcSampled s m (s.acCrossing m v) := by
  unfold acCrossing
  extract_lets mt tc freq t
  have hmod := (AcSampled.refl s m).modAc (fun x => { x with freq := freq, tPrev := some tc })
  have ht : AcSampled s m t := hmod.trans (.of_grn (Metering.put (.refl _) (by simp only [R.GRN_ACm_STAT]; omega)) (clr_grn ..))
  exact ht.trans (acClose_sampled (ht.work.acLen.trans hlen) hm true)

theorem acSample_sampled (hlen : s.grn.ac.length = 4) (hm : m < 4) (e : GrnInterval) : AcSampled s m (s.acSample m e) := by
  unfold acSample
  extract_lets -underBinder ins valid mt dcb chans z src v armed crossing t1 t2 t3
  have h1 : AcSampled s m t1 := .ite (.refl s m) (.of_grn (grnGap_metering ..) (grnGap_grn ..))
  have h2 : AcSampled s m t2 := h1.modAc _
  have h3 : AcSampled s m t3 := .ite (h2.trans (acCrossing_sampled (h2.work.acLen.trans hlen) hm v)) h2
  exact h3.modAc _

/-- What an interval leaves for the meters other than DC meter `m`, and for the open block of that meter. -/
structure DcSampled (s : State) (m : Nat) (open_ : Bool) (n : Nat) (t : State) : Prop where
  work : s.Metering t
  others : ∀ k, k ≠ m → t.dcMeter k = s.dcMeter k
  ac : t.grn.ac = s.grn.ac
  opened : (t.dcMeter m).open_ = open_
  count : (t.dcMeter m).count = n

theorem dcOpen_metering (s : State) (m : Nat) (e : GrnInterval) : s.Metering (s.dcOpen m e) := .ite ((Metering.refl s).modDc m _) (.refl s)

theorem dcOpen_others (s : State) (e : GrnInterval) (hk : k ≠ m) : (s.dcOpen m e).dcMeter k = s.dcMeter k := by
  unfold dcOpen
  split
  · exact dcMeter_modDc_other s _ hk
  · rfl

theorem dcOpen_ac (s : State) (m : Nat) (e : GrnInterval) : (s.dcOpen m e).grn.ac = s.grn.ac := by
  unfold dcOpen
  split <;> rfl

/-- The block of DC meter `m` after an interval: open before, or opened by it. -/
def blockOpen (s : State) (m : Nat) (e : GrnInterval) : Bool := (s.dcMeter m).open_ || e.stop % 4000000 == 12500

theorem dcOpen_open (hm : m < s.grn.dc.length) (e : GrnInterval) :
    ((s.dcOpen m e).dcMeter m).open_ = s.blockOpen m e ∧ ((s.dcOpen m e).dcMeter m).count = (s.dcMeter m).count := by
  unfold dcOpen blockOpen
  by_cases h : e.stop % 4000000 = 12500
  · rw [if_pos h, dcMeter_modDc_same _ _ hm]
    simp [h]
  · rw [if_neg h]
    simp [h]

/-- A sample in the open block of a meter: its products and charge, or the mark of a gap. -/
def dcEntered (svi si : Int) (gap : Bool) (x : DcMeter) : DcMeter :=
  { (if x.open_ then { x with count := x.count + 1, svi := x.svi + svi, si := x.si + si } else x) with gapRun := gap }

theorem dcEntered_block (svi si : Int) (gap : Bool) (x : DcMeter) :
    (dcEntered svi si gap x).open_ = x.open_ ∧ (dcEntered svi si gap x).count = x.count + bit1 x.open_ := by
  unfold dcEntered
  cases h : x.open_ <;> simp [h, bit1]

/-- An interval's sample of DC meter `m`: of two valid streams its product, else a gap. -/
theorem dcSample_eq (s : State) (m : Nat) (e : GrnInterval) : ∃ t svi si gap, s.dcSample m e = t.modDc m (dcEntered svi si gap) ∧
    (s.dcOpen m e).Metering t ∧ t.grn = (s.dcOpen m e).grn := by
  unfold dcSample
  dsimp only
  split
  · exact ⟨s.dcOpen m e, _, _, false, rfl, .refl _, rfl⟩
  · exact ⟨_, 0, 0, true, rfl, grnGap_metering .., grnGap_grn ..⟩

theorem dcSample_sampled (hm : m < s.grn.dc.length) (e : GrnInterval) :
    DcSampled s m (s.blockOpen m e) ((s.dcMeter m).count + bit1 (s.blockOpen m e)) (s.dcSample m e) := by
  obtain ⟨t, svi, si, gap, heq, hwork, hgrn⟩ := dcSample_eq s m e
  obtain ⟨hopen, hcount⟩ := dcOpen_open hm e
  have hlen : m < t.grn.dc.length := hm.trans_eq ((dcOpen_metering s m e).dcLen.symm.trans (congrArg (fun g : Grn => g.dc.length) hgrn).symm)
  have hmeter (j : Nat) : t.dcMeter j = (s.dcOpen m e).dcMeter j := dcMeter_congr (congrArg Grn.dc hgrn) j
  obtain ⟨hkeeps, hadds⟩ := dcEntered_block svi si gap (t.dcMeter m)
  rw [heq]
  refine ⟨((dcOpen_metering s m e).trans hwork).modDc m _, fun k hk => ?_, Eq.trans rfl ((congrArg Grn.ac hgrn).trans (dcOpen_ac s m e)), ?_, ?_⟩
  · rw [dcMeter_modDc_other _ _ hk, hmeter, dcOpen_others s e hk]
  · rw [dcMeter_modDc_same _ _ hlen, hkeeps, hmeter, hopen]
  · rw [dcMeter_modDc_same _ _ hlen, hadds, hmeter, hopen, hcount]

/-! ### An interval (R226) -/

/-- The AC meters and then the DC meters take an interval. -/
def acTaken (s : State) (e : GrnInterval) : State := s.forAll 4 (fun m u => if u.meterOn m then u.acSample m e else u)
def dcTaken (s : State) (e : GrnInterval) : State := s.forAll 4 (fun m u => if u.meterOn (4 + m) then u.dcSample m e else u)

theorem acTaken_step (hs : s.Metering t) (hlen : s.grn.ac.length = 4) (hm : m < 4) (e : GrnInterval) :
    AcSampled t m (if t.meterOn m then t.acSample m e else t) :=
  .ite (acSample_sampled (hs.acLen.trans hlen) hm e) (.refl t m)

theorem acTaken_work (hlen : s.grn.ac.length = 4) (e : GrnInterval) : s.Metering (s.acTaken e) ∧ (s.acTaken e).grn.dc = s.grn.dc :=
  forAll_rec (p := fun _ u => s.Metering u ∧ u.grn.dc = s.grn.dc) ⟨.refl s, rfl⟩ fun m u hm ⟨hu, hdc⟩ =>
    ⟨hu.trans (acTaken_step hu hlen hm e).work, (acTaken_step hu hlen hm e).dc.trans hdc⟩

theorem acTaken_off (hlen : s.grn.ac.length = 4) (e : GrnInterval) (hm : m < 4) (hoff : s.meterOn m = false) : (s.acTaken e).acMeter m = s.acMeter m := by
  refine (forAll_rec (p := fun _ u => s.Metering u ∧ u.acMeter m = s.acMeter m) ⟨.refl s, rfl⟩ fun j u hj ⟨hu, hmeter⟩ => ?_).2
  have hstep := acTaken_step hu hlen hj e
  refine ⟨hu.trans hstep.work, ?_⟩
  by_cases hjm : m = j
  · rw [if_neg (by rw [hu.meterOn, ← hjm, hoff]; exact Bool.false_ne_true)]
    exact hmeter
  · exact (hstep.others m hjm).trans hmeter

theorem dcTaken_work (hlen : s.grn.dc.length = 4) (e : GrnInterval) : s.Metering (s.dcTaken e) ∧ (s.dcTaken e).grn.ac = s.grn.ac := by
  refine forAll_rec (p := fun _ u => s.Metering u ∧ u.grn.ac = s.grn.ac) ⟨.refl s, rfl⟩ fun m u hm ⟨hu, hac⟩ => ?_
  split
  · have hstep := dcSample_sampled (s := u) (hm.trans_eq (hu.dcLen.trans hlen).symm) e
    exact ⟨hu.trans hstep.work, hstep.ac.trans hac⟩
  · exact ⟨hu, hac⟩

theorem dcTaken_meter (hlen : s.grn.dc.length = 4) (e : GrnInterval) (hm : m < 4) :
    (s.meterOn (4 + m) = true → ((s.dcTaken e).dcMeter m).open_ = s.blockOpen m e ∧
      ((s.dcTaken e).dcMeter m).count = (s.dcMeter m).count + bit1 (s.blockOpen m e)) ∧
    (s.meterOn (4 + m) = false → (s.dcTaken e).dcMeter m = s.dcMeter m) := by
  have hother (j : Nat) (u : State) (hj : j < 4) (hjm : j ≠ m) (hu : s.Metering u) :
      s.Metering (if u.meterOn (4 + j) then u.dcSample j e else u) ∧ (if u.meterOn (4 + j) then u.dcSample j e else u).dcMeter m = u.dcMeter m := by
    split
    · have hstep := dcSample_sampled (s := u) (hj.trans_eq (hu.dcLen.trans hlen).symm) e
      exact ⟨hu.trans hstep.work, hstep.others m hjm.symm⟩
    · exact ⟨hu, rfl⟩
  refine (forAll_turn (i := m) (fun u => s.Metering u ∧ u.dcMeter m = s.dcMeter m) (fun u => s.Metering u ∧
    ((s.meterOn (4 + m) = true → (u.dcMeter m).open_ = s.blockOpen m e ∧ (u.dcMeter m).count = (s.dcMeter m).count + bit1 (s.blockOpen m e)) ∧
      (s.meterOn (4 + m) = false → u.dcMeter m = s.dcMeter m))) ⟨.refl s, rfl⟩ (fun j u hj hjm ⟨hu, hmeter⟩ => ?_) (fun u ⟨hu, hmeter⟩ => ?_)
    (fun j u hj hjm ⟨hu, hon, hoff⟩ => ?_) hm).2
  · obtain ⟨hw, hk⟩ := hother j u hj hjm hu
    exact ⟨hw, hk.trans hmeter⟩
  · rw [hu.meterOn]
    cases hon : s.meterOn (4 + m) with
    | true =>
      have hstep := dcSample_sampled (s := u) (hm.trans_eq (hu.dcLen.trans hlen).symm) e
      have hblock : u.blockOpen m e = s.blockOpen m e := by rw [blockOpen, hmeter, blockOpen]
      exact ⟨hu.trans hstep.work, fun _ => ⟨hstep.opened.trans hblock, hstep.count.trans (by rw [hmeter, hblock])⟩, fun h => absurd h Bool.noConfusion⟩
    | false => exact ⟨hu, fun h => absurd h Bool.noConfusion, fun _ => hmeter⟩
  · obtain ⟨hw, hk⟩ := hother j u hj hjm hu
    rw [hk]
    exact ⟨hw, hon, hoff⟩

/-- The end of a processed interval. -/
def intervalNoted (s : State) (e : GrnInterval) : State :=
  s.modGrn (fun g => { g with lastEnd := BitVec.ofNat 64 e.stop, snap := g.snap.map (fun r => { r with waits := false }) })

/-- The queue without its first interval. -/
def intervalLeft (s : State) (rest : List GrnInterval) : State := s.modGrn (fun g => { g with queue := rest })

theorem grnInterval_eq {rest : List GrnInterval} (hq : s.grn.queue = e :: rest) (hr : s.coreRuns = true) (hc : s.closeDue = false) :
    s.grnInterval = (((s.snapshotTaken.intervalLeft rest).acTaken e).dcTaken e).intervalNoted e := by
  unfold grnInterval
  rw [hq, hr, hc]
  rfl

theorem intervalLeft_moves (s : State) (rest : List GrnInterval) : Moves [.grn] s (s.intervalLeft rest) := .modGrn (.refl s)
theorem intervalNoted_moves (s : State) (e : GrnInterval) : Moves [.grn] s (s.intervalNoted e) := .modGrn (.refl s)

theorem meterOn_left (s : State) (rest : List GrnInterval) (n : Nat) : (s.intervalLeft rest).meterOn n = s.meterOn n := rfl

end State
end Sys2Proof.Machine

/-! The statements on the meters and their pulses (R226 to R243). -/

namespace Sys2Proof.Machine

set_option Elab.async false
namespace State

variable {s t u : State} {e : GrnInterval}

/-! ### An interval (R226) -/

theorem grnInterval_gives {rest : List GrnInterval} (hs : s.Shaped) (hr : s.coreRuns = true) (hq : s.grn.queue = e :: rest) (hc : s.closeDue = false) :
    Completes .granaryInterval s fun t =>
      t.grn.queue = rest ∧ t.grn.lastEnd = BitVec.ofNat 64 e.stop ∧ t.clk = s.clk ∧ t.loom = s.loom ∧ (s.grn.write = none → t.mem = s.mem) ∧
      (∀ m : Fin 4, s.snapshotTaken.meterOn m = false → t.acMeter m = s.snapshotTaken.acMeter m) ∧
      (∀ m : Fin 4, s.snapshotTaken.meterOn (4 + m) = true →
        (t.dcMeter m).open_ = ((s.snapshotTaken.dcMeter m).open_ || e.stop % 4000000 == 12500) ∧
        (t.dcMeter m).count = (s.snapshotTaken.dcMeter m).count + bit1 (t.dcMeter m).open_) ∧
      (∀ m : Fin 4, s.snapshotTaken.meterOn (4 + m) = false → t.dcMeter m = s.snapshotTaken.dcMeter m) := by
  have hshape := (Keeps.snapshotTaken (.refl s)).shaped hs
  have hsnap := snapshotTaken_moves s
  have hquiet := snapshotTaken_quiet (s := s)
  refine ⟨_, congrArg Host.Outcome.next (grnInterval_eq hq hr hc), ?_⟩
  generalize s.snapshotTaken = v at hshape hsnap hquiet ⊢
  have hleft := intervalLeft_moves v rest
  obtain ⟨hac, hacdc⟩ := acTaken_work (s := v.intervalLeft rest) hshape.ac e
  have hdcLen : ((v.intervalLeft rest).acTaken e).grn.dc.length = 4 := hac.dcLen.trans hshape.dc
  obtain ⟨hdc, hdcac⟩ := dcTaken_work (s := (v.intervalLeft rest).acTaken e) hdcLen e
  have hall : Moves snapParts v ((((v.intervalLeft rest).acTaken e).dcTaken e).intervalNoted e) :=
    (((hleft.mono (by decide)).trans hac.moves).trans hdc.moves).trans ((intervalNoted_moves _ e).mono (by decide))
  refine ⟨hdc.queue.trans (hac.queue.trans rfl), rfl, hall.clk.trans hsnap.clk, hall.loom.trans hsnap.loom, fun hw => hall.mem.trans (hquiet hw).mem,
    fun m hoff => ?_, fun m hon => ?_, fun m hoff => ?_⟩
  · have hnoted := acMeter_congr (t := (((v.intervalLeft rest).acTaken e).dcTaken e).intervalNoted e) (s := (v.intervalLeft rest).acTaken e) hdcac m
    exact hnoted.trans (acTaken_off (s := v.intervalLeft rest) hshape.ac e m.isLt hoff)
  · obtain ⟨hopen, hcount⟩ := (dcTaken_meter hdcLen e m.isLt).1 ((hac.meterOn _).trans hon)
    have hblock : ((v.intervalLeft rest).acTaken e).blockOpen m e = v.blockOpen m e := by
      rw [blockOpen, dcMeter_congr (s := v.intervalLeft rest) hacdc]
      rfl
    have hbefore : ((v.intervalLeft rest).acTaken e).dcMeter m = v.dcMeter m := dcMeter_congr hacdc m
    rw [hblock] at hopen hcount
    rw [hbefore] at hcount
    exact ⟨hopen, hcount.trans (congrArg (fun b => (v.dcMeter m).count + bit1 b) hopen.symm)⟩
  · exact ((dcTaken_meter hdcLen e m.isLt).2 ((hac.meterOn _).trans hoff)).trans (dcMeter_congr (s := v.intervalLeft rest) hacdc m)

/-! ### Energy pulses (R243) -/

theorem epoPulseStart_gives (k : Fin 4) (hs : s.Shaped) (hr : s.coreRuns = true) (hrep : s.replayHolds = false) (hen : s.on (F.GRN_EPOk_CFG_EN k) = true)
    (hms : s.count % 400000 = 0) (hp : 0 < s.get (F.GRN_EPOk_STAT_PENDING k)) (ha : s.on (F.GRN_EPOk_STAT_ACTIVE k) = false)
    (hdue : s.due (nth s.grn.epoIdle k 0 + s.epoWidth k) = true) : Completes (.epoPulseStart k) s fun t =>
      t.get (F.GRN_EPOk_STAT_PENDING k) = s.get (F.GRN_EPOk_STAT_PENDING k) - 1 ∧ t.on (F.GRN_EPOk_STAT_ACTIVE k) = true ∧
      nth t.grn.epoStart k 0 = s.count ∧ (∀ b, b ≠ R.GRN_EPOk_STAT k → t.rd b = s.rd b) ∧ t.grn.totals = s.grn.totals ∧ t.clk = s.clk := by
  have hpend : s.on (F.GRN_EPOk_STAT_PENDING k) = true := bne_iff_ne.mpr hp.ne'
  have hguard : (s.coreRuns && !s.grnFrozen && s.on (F.GRN_EPOk_CFG_EN k) && s.count % 400000 == 0 && s.on (F.GRN_EPOk_STAT_PENDING k) &&
      !s.on (F.GRN_EPOk_STAT_ACTIVE k) && s.due (nth s.grn.epoIdle k 0 + s.epoWidth k)) = true := by
    rw [hr, grnFrozen, hrep, hen, hms, hpend, ha, hdue]
    rfl
  have heq : s.epoPulseStart k = ((s.put (F.GRN_EPOk_STAT_PENDING k) (s.get (F.GRN_EPOk_STAT_PENDING k) - 1)).set1 (F.GRN_EPOk_STAT_ACTIVE k)).modGrn
      (fun g => { g with epoStart := upd g.epoStart k (fun _ => s.count) }) := by
    unfold State.epoPulseStart
    exact if_pos hguard
  refine ⟨_, congrArg Host.Outcome.next heq, ?_⟩
  have hget : ((s.put (F.GRN_EPOk_STAT_PENDING k) (s.get (F.GRN_EPOk_STAT_PENDING k) - 1)).set1 (F.GRN_EPOk_STAT_ACTIVE k)).get
      (F.GRN_EPOk_STAT_PENDING k) = s.get (F.GRN_EPOk_STAT_PENDING k) - 1 := by
    rw [set1, get_put_other _ (F.GRN_EPOk_STAT_ACTIVE k) (F.GRN_EPOk_STAT_PENDING k) _ (by simp) (.inr (by simp)), get_put_same _ _ _ (by simp)]
    have hlt : s.get (F.GRN_EPOk_STAT_PENDING k) < 2 ^ 16 := Nat.mod_lt _ (Nat.two_pow_pos 16)
    exact Nat.mod_eq_of_lt (lt_of_le_of_lt (Nat.sub_le _ _) hlt)
  have hon := on_set1_same (s.put (F.GRN_EPOk_STAT_PENDING k) (s.get (F.GRN_EPOk_STAT_PENDING k) - 1)) (F.GRN_EPOk_STAT_ACTIVE k) (by simp) (by simp)
  have hw : s.Writes (· = R.GRN_EPOk_STAT k) ((s.put (F.GRN_EPOk_STAT_PENDING k) (s.get (F.GRN_EPOk_STAT_PENDING k) - 1)).set1 (F.GRN_EPOk_STAT_ACTIVE k)) :=
    Writes.set1 (P := (· = R.GRN_EPOk_STAT k)) (f := F.GRN_EPOk_STAT_ACTIVE k) (Writes.put (f := F.GRN_EPOk_STAT_PENDING k) (.refl s) rfl) rfl
  have hm : Moves [.regs, .cycle] s ((s.put (F.GRN_EPOk_STAT_PENDING k) (s.get (F.GRN_EPOk_STAT_PENDING k) - 1)).set1 (F.GRN_EPOk_STAT_ACTIVE k)) :=
    .set1 (.put (.refl s))
  generalize (s.put (F.GRN_EPOk_STAT_PENDING k) (s.get (F.GRN_EPOk_STAT_PENDING k) - 1)).set1 (F.GRN_EPOk_STAT_ACTIVE k) = u at hget hon hw hm ⊢
  have htotals : u.grn.totals = s.grn.totals := congrArg Grn.totals hm.grn
  have hmod : Moves [.grn] u (u.modGrn (fun g => { g with epoStart := upd g.epoStart k (fun _ => s.count) })) := .modGrn (.refl u)
  exact ⟨(get_congr hmod.regs _).trans hget, (on_congr hmod.regs _).trans hon,
    nth_upd_same _ _ _ _ (k.isLt.trans_eq ((congrArg (fun g : Grn => g.epoStart.length) hm.grn).trans hs.epoStart).symm),
    fun b hb => (rd_congr hmod.regs b).trans (hw.rd hb), htotals, hmod.clk.trans hm.clk⟩

theorem epoPulseEnd_gives (k : Fin 4) (hs : s.Shaped) (hr : s.coreRuns = true) (hrep : s.replayHolds = false) (ha : s.on (F.GRN_EPOk_STAT_ACTIVE k) = true)
    (hdue : s.due (nth s.grn.epoStart k 0 + s.epoWidth k) = true) : Completes (.epoPulseEnd k) s fun t =>
      t.on (F.GRN_EPOk_STAT_ACTIVE k) = false ∧ nth t.grn.epoIdle k 0 = s.count ∧
      t.get (F.GRN_EPOk_STAT_PENDING k) = s.get (F.GRN_EPOk_STAT_PENDING k) ∧ (∀ b, b ≠ R.GRN_EPOk_STAT k → t.rd b = s.rd b) ∧
      t.grn.totals = s.grn.totals ∧ t.clk = s.clk := by
  have hguard : (s.coreRuns && !s.grnFrozen && s.on (F.GRN_EPOk_STAT_ACTIVE k) && s.due (nth s.grn.epoStart k 0 + s.epoWidth k)) = true := by
    rw [hr, grnFrozen, hrep, ha, hdue]
    rfl
  have heq : s.epoPulseEnd k = (s.clr (F.GRN_EPOk_STAT_ACTIVE k)).modGrn (fun g => { g with epoIdle := upd g.epoIdle k (fun _ => s.count) }) := by
    unfold State.epoPulseEnd epoRest
    exact (if_pos hguard).trans (if_pos ha)
  refine ⟨_, congrArg Host.Outcome.next heq, ?_⟩
  have hoff := on_clr_same s (F.GRN_EPOk_STAT_ACTIVE k) (by simp)
  have hget : (s.clr (F.GRN_EPOk_STAT_ACTIVE k)).get (F.GRN_EPOk_STAT_PENDING k) = s.get (F.GRN_EPOk_STAT_PENDING k) :=
    get_put_other s (F.GRN_EPOk_STAT_ACTIVE k) (F.GRN_EPOk_STAT_PENDING k) 0 (by simp) (.inr (by simp))
  have hw : s.Writes (· = R.GRN_EPOk_STAT k) (s.clr (F.GRN_EPOk_STAT_ACTIVE k)) := .clr (.refl s) rfl
  have hm : Moves [.regs, .cycle] s (s.clr (F.GRN_EPOk_STAT_ACTIVE k)) := .clr (.refl s)
  generalize s.clr (F.GRN_EPOk_STAT_ACTIVE k) = u at hoff hget hw hm ⊢
  have htotals : u.grn.totals = s.grn.totals := congrArg Grn.totals hm.grn
  have hmod : Moves [.grn] u (u.modGrn (fun g => { g with epoIdle := upd g.epoIdle k (fun _ => s.count) })) := .modGrn (.refl u)
  exact ⟨(on_congr hmod.regs _).trans hoff,
    nth_upd_same _ _ _ _ (k.isLt.trans_eq ((congrArg (fun g : Grn => g.epoIdle.length) hm.grn).trans hs.epoIdle).symm),
    (get_congr hmod.regs _).trans hget, fun b hb => (rd_congr hmod.regs b).trans (hw.rd hb), htotals, hmod.clk.trans hm.clk⟩

theorem counting_of_shaped (hs : s.Shaped) (hrep : s.replayHolds = false) (hb : ∀ i : Fin 176, nth s.grn.totals i 0 < 2 ^ 96) : s.Counting :=
  ⟨hrep, hs.totals, fun i hi => hb ⟨i, hi⟩⟩

end State

/-- Settles O26: intervals, the closes with what they add to the totals, and the energy pulses. -/
theorem metersAndTheirPulses : Obligations.MetersAndTheirPulses :=
  ⟨fun _ _ _ hs hr hq hc => State.grnInterval_gives hs hr hq hc, fun _ m hs h => State.zxTimeout_gives hs m h, fun _ m hs h => State.nozxClose_gives hs m h,
    fun _ m hs h => State.blockClose_gives hs m h,
    fun _ m hs hrep hb => ⟨State.nozxClose_adds (State.counting_of_shaped hs hrep hb) m, State.zxTimeout_adds (State.counting_of_shaped hs hrep hb) m,
      State.acClose_adds_all (State.counting_of_shaped hs hrep hb) m, State.blockClose_adds (State.counting_of_shaped hs hrep hb) m⟩,
    fun _ k hs hr hrep hen hms hp ha hdue => State.epoPulseStart_gives k hs hr hrep hen hms hp ha hdue,
    fun _ k hs hr hrep ha hdue => State.epoPulseEnd_gives k hs hr hrep ha hdue⟩

end Sys2Proof.Machine

/-! The ring's own work: what the rounds and the messages of the Pelkin ring may move, for a node that is no MEMBER (R272, R275, R283). -/

namespace Sys2Proof.Machine

set_option Elab.async false
namespace State

variable {s t u : State}

/-- The registers of the ring and of the test block, but for the hop counts. -/
def ringRegs (b : Nat) : Prop := 0x400B0000 ≤ b ∧ b ≠ R.RING_HOPS

theorem ringRegs_of {b : Nat} (hlo : 0x400B0000 ≤ b) (hne : b ≠ R.RING_HOPS) : ringRegs b := ⟨hlo, hne⟩

/-- The parts that the ring's work moves. -/
abbrev ringParts : List Part := [.regs, .cycle, .tst, .ring, .rtc, .mram, .events, .stew, .draws]

/-- Work of a node's ring that sends no copy and brings the node at most from LISTEN to KNOCKING. -/
structure RingWork (s t : State) : Prop where
  moves : Moves ringParts s t
  writes : s.Writes ringRegs t
  lasts : s.EventsLast t
  outA : t.ring.outA = s.ring.outA
  outB : t.ring.outB = s.ring.outB
  tookOver : t.ring.tookOver = s.ring.tookOver
  state : t.ringState = s.ringState ∨ (s.ringState = 1 ∧ t.ringState = 2)

/-- What leaves the ring's record alone and RING_STAT.STATE with it. -/
theorem RingWork.of_moves (hm : Moves [.regs, .cycle, .tst, .rtc, .mram, .events, .stew, .draws] s t) (hw : s.Writes ringRegs t) (hl : s.EventsLast t)
    (hstate : t.ringState = s.ringState) : RingWork s t :=
  ⟨hm.mono (by decide), hw, hl, congrArg Ring.outA hm.ring, congrArg Ring.outB hm.ring, congrArg Ring.tookOver hm.ring, .inl hstate⟩

namespace RingWork

theorem refl (s : State) : RingWork s s := ⟨.refl s, .refl s, .refl s, rfl, rfl, rfl, .inl rfl⟩

theorem trans (h : RingWork s t) (h' : RingWork t u) : RingWork s u := by
  refine ⟨h.moves.trans h'.moves, h.writes.trans h'.writes, h.lasts.trans h'.lasts, h'.outA.trans h.outA, h'.outB.trans h.outB,
    h'.tookOver.trans h.tookOver, ?_⟩
  have hs := h.state
  have ht := h'.state
  omega

theorem ite {c : Prop} [Decidable c] (ht : RingWork s t) (hu : RingWork s u) : RingWork s (if c then t else u) := by split <;> assumption

theorem put (h : RingWork s t) {f : Fld} {n : Nat} (hf : ringRegs f.addr) (hb : f.lo + f.width ≤ 32)
    (hd : R.RING_STAT ≠ f.addr ∨ 0 + 3 ≤ f.lo ∨ f.lo + f.width ≤ 0) : RingWork s (t.put f n) :=
  h.trans (.of_moves (.put (.refl t)) (.put (.refl t) hf) (.same (.refl t) (put_events ..)) (get_put_other t f F.RING_STAT_STATE n hb hd))

theorem wr (h : RingWork s t) {a : Nat} {v : Word} (ha : ringRegs a) (hne : a ≠ R.RING_STAT) : RingWork s (t.wr a v) :=
  h.trans (.of_moves (.wr (.refl t)) (.wr (.refl t) ha) (.same (.refl t) (wr_events ..)) (by
    rw [ringState, State.get, rd_wr, if_neg hne.symm]
    rfl))

theorem putB (h : RingWork s t) {f : Fld} {b : Bool} (hf : ringRegs f.addr) (hb : f.lo + f.width ≤ 32)
    (hd : R.RING_STAT ≠ f.addr ∨ 0 + 3 ≤ f.lo ∨ f.lo + f.width ≤ 0) : RingWork s (t.putB f b) := by
  unfold State.putB
  exact h.put hf hb hd

theorem ringEvent (h : RingWork s t) (src : Nat) (sev : Severity) : RingWork s (t.ringEvent src sev) :=
  h.trans (.of_moves (.log (.raise (.refl t))) (ringEvent_writes t src sev) (.log (.raise (.refl t) src))
    ((ringEvent_writes t src sev (P := fun _ => False)).get id))

theorem log (h : RingWork s t) (code block : Nat) (sev : Severity) (data : List Byte) : RingWork s (t.log code block sev data) :=
  h.trans (.of_moves (.log (.refl t)) (.log (.refl t)) (.log (.refl t)) (Writes.get (P := fun _ => False) (.log (.refl t)) id))

theorem void (h : RingWork s t) (src : VoidSrc) (state : Bool) (c : Nat) (stamp : Word) : RingWork s (t.void src state c stamp) :=
  h.trans (.of_moves (.void (.refl t)) (.void (.refl t) fun b hb => ringRegs_of (by omega) (by simp only [R.RING_HOPS]; omega))
    (.void (.refl t)) (Writes.get (P := (0x40100000 ≤ ·)) (.void (.refl t) fun _ hb => hb) (by decide)))

theorem modRing (h : RingWork s t) {f : Ring → Ring} (hA : (f t.ring).outA = t.ring.outA) (hB : (f t.ring).outB = t.ring.outB)
    (hT : (f t.ring).tookOver = t.ring.tookOver) : RingWork s (t.modRing f) :=
  h.trans ⟨.record (.refl t) (by rfl), .of_regs rfl, .same (.refl t) rfl, hA, hB, hT, .inl rfl⟩

/-- A perturbation's delay moves the LFSR and the held delays alone. -/
theorem disturb (h : RingWork s t) (k : Nat) : RingWork s (t.disturb k).2 := by
  refine h.trans (.of_moves ?_ ?_ ?_ ?_) <;> unfold State.disturb <;> split
  · exact .record (.refl t) (by rfl)
  · exact .refl t
  · exact .of_regs (by rfl)
  · exact .refl t
  · exact .same (.refl t) (by rfl)
  · exact .refl t
  · rfl
  · rfl

theorem forAll (h : RingWork s t) {n : Nat} {f : Nat → State → State} (hf : ∀ i u, i < n → RingWork s u → RingWork s (f i u)) :
    RingWork s (t.forAll n f) := forAll_rec (p := fun _ u => RingWork s u) h fun i u hi hu => hf i u hi hu

theorem mode (h : RingWork s t) : t.mode = s.mode := mode_of_rd (h.writes.rd (by simp only [ringRegs]; decide))
theorem clockKept (h : RingWork s t) : s.clockKept t := h.moves.clockKept
theorem loom (h : RingWork s t) : t.loom = s.loom := h.moves.loom

/-- A node that holds no place in the ring does not come to one by its own work. -/
theorem notLive (h : RingWork s t) (hl : s.ringLive = false) : t.ringLive = false := by
  simp only [ringLive, Bool.or_eq_false_iff, beq_eq_false_iff_ne] at hl ⊢
  have hs := h.state
  omega

end RingWork

/-! ### Ports and rounds -/

theorem lockFld_fits (p : Port) : (lockFld p).lo + (lockFld p).width ≤ 32 := by cases p <;> decide
theorem lockFld_aboveState (p : Port) : 3 ≤ (lockFld p).lo := by cases p <;> decide
theorem lockFld_ringRegs (p : Port) : ringRegs (lockFld p).addr := lockFld_addr p ▸ ringRegs_of (by decide) (by decide)

theorem setPortLock_work (s : State) (p : Port) (b : Bool) : RingWork s (s.setPortLock p b) := by
  have hp : ∀ n, RingWork s (s.put (lockFld p) n) := fun n =>
    .put (.refl s) (lockFld_ringRegs p) (lockFld_fits p) (.inr (.inl (lockFld_aboveState p)))
  unfold setPortLock
  exact .ite (.refl s) (.ite (hp 1) ((hp 0).ringEvent (lockEvent p) .warn))

theorem setPortRun_work (s : State) (p : Port) (n : Nat) : RingWork s (s.setPortRun p n) := by
  cases p with
  | a => exact .trans (.modRing (.refl s) (f := fun r => { r with runA := n }) rfl rfl rfl) (setPortLock_work ..)
  | b => exact .trans (.modRing (.refl s) (f := fun r => { r with runB := n }) rfl rfl rfl) (setPortLock_work ..)

theorem portRound_work (s : State) (p : Port) (got : Bool) : RingWork s (s.portRound p got) := by
  unfold portRound
  exact .ite (setPortRun_work ..) (.modRing (.refl s) (f := fun r => { r with lateHeads := r.lateHeads ++ [p] }) rfl rfl rfl)

theorem portHeader_work (s : State) (p : Port) : RingWork s (s.portHeader p) := by
  unfold portHeader
  exact .ite (.trans (.modRing (.refl s) (f := fun r => { r with lateHeads := r.lateHeads.filter (· != p) }) rfl rfl rfl) (setPortRun_work ..)) (.refl s)

theorem closePorts_work (s : State) : RingWork s s.closePorts := by
  have h0 : RingWork s (s.modRing (fun r => { r with lateHeads := [] })) := .modRing (.refl s) rfl rfl rfl
  have ha := h0.trans (RingWork.ite (c := Port.a ∈ s.ring.lateHeads) (setPortRun_work (s.modRing (fun r => { r with lateHeads := [] })) .a 0) (.refl _))
  exact ha.trans (.ite (setPortRun_work _ .b 0) (.refl _))

theorem takeTheta_work (s : State) (x : CopyTime) : RingWork s (s.takeTheta x) := by
  unfold takeTheta
  exact .wr (.wr (.modRing (.refl s) (f := fun r => { r with thetas := (x.theta :: r.thetas).take s.ringDepth }) rfl rfl rfl)
    (ringRegs_of (by decide) (by decide)) (by decide)) (ringRegs_of (by decide) (by decide)) (by decide)

theorem takePorts_work (s : State) (r : RingRound) : RingWork s (s.takePorts r) := by
  unfold takePorts
  exact .modRing (.refl s) rfl rfl rfl
theorem keepMeans_work (s : State) (r : RingRound) : RingWork s (s.keepMeans r) := .modRing (.refl s) rfl rfl rfl
theorem countRound_work (s : State) (b : Bool) : RingWork s (s.countRound b) := by
  unfold countRound
  exact .modRing (.refl s) rfl rfl rfl
theorem openGap_work (s : State) (k : Word) : RingWork s (s.openGap k) := .modRing (.refl s) rfl rfl rfl

theorem countEmpty_work (s : State) (r : RingRound) : RingWork s (s.countEmpty r) := by
  unfold countEmpty
  exact .ite (.modRing (.refl s) rfl rfl rfl) (.refl s)

theorem slewCheck_work (s : State) : RingWork s s.slewCheck := by
  unfold slewCheck
  exact .ite (.modRing (.put (.refl s) (f := F.RING_ERR_SLEW_FAIL) (ringRegs_of (by decide) (by decide)) (by decide) (.inl (by decide)))
    rfl rfl rfl) (.refl s)

theorem ringJoin_work (s : State) : RingWork s s.ringJoin := by
  unfold ringJoin
  split
  case isTrue h =>
    refine .ite (.put (.refl s) (f := F.RING_ERR_DISC) (ringRegs_of (by decide) (by decide)) (by decide) (.inl (by decide)))
      ⟨.put (.refl s), .put (.refl s) (ringRegs_of (by decide) (by decide)), .same (.refl s) (put_events ..), ?_, ?_, ?_,
        .inr ⟨h.1, get_put_same s F.RING_STAT_STATE 2 (by decide)⟩⟩ <;> rw [put_ring]
  case isFalse => exact .refl s

/-- The end of a round at a node that is no MEMBER. -/
theorem endRound_work (s : State) (at_ : Nat) (hs : s.ringState ≠ 3) : RingWork s (s.endRound at_) := by
  unfold endRound
  split
  case h_1 => exact .refl s
  case h_2 r hr =>
    extract_lets t1 t2 t3 t4 t5 t6 t7 t8 t9
    have h1 : RingWork s t1 := .modRing (.refl s) rfl rfl rfl
    have h2 : RingWork s t2 := (h1.trans (portRound_work t1 .a r.atA.isSome)).trans (portRound_work _ .b r.atB.isSome)
    have h3 : RingWork s t3 := h2.putB (ringRegs_of (by decide) (by decide)) (by decide) (.inr (.inl (by decide)))
    have h4 : RingWork s t4 := by
      show RingWork s (match r.timing with
        | some x => (t3.takeTheta x).takePorts r
        | none => t3)
      split
      · exact (h3.trans (takeTheta_work t3 _)).trans (takePorts_work _ r)
      · exact h3
    have h5 : RingWork s t5 := by
      rw [show t5 = t4 from if_neg hs]
      exact h4
    have h6 : RingWork s t6 := by
      rw [show t6 = t5 from if_neg fun h => hs h.1]
      exact h5
    have h7 : RingWork s t7 := ((h6.trans (keepMeans_work t6 r)).trans (countRound_work _ r.header)).trans (countEmpty_work _ r)
    have h8 : RingWork s t8 := (h7.trans (slewCheck_work t7)).trans (openGap_work _ r.no)
    have h9 : RingWork s t9 := .ite (.modRing (h8.disturb 2) rfl rfl rfl) h8
    exact .ite (h9.trans (ringJoin_work t9)) h9

end State
end Sys2Proof.Machine

/-! The issue of a round and the insertion latches (R268, R271). -/

namespace Sys2Proof.Machine

set_option Elab.async false
namespace State

variable {s t u : State}

theorem showLayout_work (s : State) (x : Layout) (hs : s.ringState = 4) : RingWork s (s.showLayout x) := by
  unfold showLayout
  rw [if_pos hs]
  dsimp only
  have hput : RingWork s ((s.wr R.RING_TNEED (BitVec.ofNat 32 x.tneed)).put F.RING_STAT_NODES x.nodes.length) :=
    .put (.wr (.refl s) (ringRegs_of (by decide) (by decide)) (by decide)) (ringRegs_of (by decide) (by decide)) (by decide) (.inr (.inl (by decide)))
  have hlive := hput.modRing (f := fun r => { r with live := x, liveOk := true, liveMembers := r.members }) rfl rfl rfl
  exact .ite (hlive.put (f := F.RING_ERR_CFG_ERR) (ringRegs_of (by decide) (by decide)) (by decide) (.inl (by decide))) hlive

/-- A node without a place in the ring knows of no generation that could take effect. -/
theorem generationChange_notLive (h : s.ringLive = false) : s.generationChange = s :=
  if_neg fun hc => Bool.false_ne_true (h.symm.trans hc.2.1)

theorem generationChange_work (h : s.ringState = 4) : RingWork s s.generationChange := by
  have hput : RingWork s (s.put F.RING_GEN_GEN (s.get F.RING_GEN_NGEN)) := .put (.refl s) (ringRegs_of (by decide) (by decide)) (by decide) (.inl (by decide))
  have hev := hput.ringEvent 0xBF .info
  have hstate : ((s.put F.RING_GEN_GEN (s.get F.RING_GEN_NGEN)).ringEvent 0xBF .info).ringState = 4 := by
    have := hev.state
    omega
  unfold generationChange
  dsimp only
  rw [if_pos h]
  exact .ite (hev.trans (showLayout_work _ _ hstate)) (.refl s)

theorem noteLate_work (s : State) (issue : Nat) : RingWork s (s.noteLate issue) := by
  unfold noteLate
  exact .ite ((RingWork.put (.refl s) (f := F.RING_ERR_INS_LATE) (n := 1) (ringRegs_of (by decide) (by decide)) (by decide) (.inl (by decide))).void ..)
    (.refl s)

/-- What a copy that leaves changes: the bytes on their way at one port. -/
def CopiesOut (s t : State) : Prop := ∃ a b, t = s.modRing (fun r => { r with outA := a, outB := b })

theorem CopiesOut.refl (s : State) : CopiesOut s s := ⟨s.ring.outA, s.ring.outB, rfl⟩

theorem CopiesOut.trans (h : CopiesOut s t) (h' : CopiesOut t u) : CopiesOut s u := by
  obtain ⟨_, _, rfl⟩ := h
  obtain ⟨a, b, rfl⟩ := h'
  exact ⟨a, b, rfl⟩

theorem CopiesOut.ite {c : Prop} [Decidable c] (ht : CopiesOut s t) (hu : CopiesOut s u) : CopiesOut s (if c then t else u) := by split <;> assumption

theorem putOut_copies (s : State) (p : Port) (b : List Byte) : CopiesOut s (s.putOut p b) := by
  cases p
  · exact ⟨_, s.ring.outB, rfl⟩
  · exact ⟨s.ring.outA, _, rfl⟩

theorem sendCopy_copies (s : State) (issue : Nat) (copyB : Bool) : CopiesOut s (s.sendCopy issue copyB) := by
  unfold sendCopy
  exact .ite (putOut_copies ..) (.ite (putOut_copies ..) (.refl s))

/-- What goes before the copies of a round: the round before ends, and a generation that takes effect with it does so. -/
def issuePrepared (s : State) (issue : Nat) : State :=
  ((((s.modRing (fun r => { r with round := s.roundNo issue, tookOver := false })).endRound issue).closePorts).generationChange).noteLate issue

/-- The state in which the copies of the round are made. -/
def issueOpened (s : State) (issue : Nat) : State :=
  (s.issuePrepared issue).modRing (fun r => { r with
    issueDue := false, lastIssue := some issue, answered := [], outA := [], outB := []
    cur := some { no := s.roundNo issue, issue := issue } })

theorem issuePrepared_work (s : State) (issue : Nat) (hs : s.ringState = 4) :
    RingWork (s.modRing (fun r => { r with round := s.roundNo issue, tookOver := false })) (s.issuePrepared issue) := by
  generalize hu : s.modRing (fun r => { r with round := s.roundNo issue, tookOver := false }) = u
  have hus : u.ringState = 4 := hu ▸ hs
  have hend := endRound_work u issue (by omega)
  have hclose := hend.trans (closePorts_work (u.endRound issue))
  have hgen := hclose.trans (generationChange_work (s := (u.endRound issue).closePorts) (by have := hclose.state; omega))
  unfold issuePrepared
  rw [hu]
  exact hgen.trans (noteLate_work _ issue)

theorem roundIssue_eq (hruns : s.ringRuns = true) (hs : s.ringState = 4) (hdue : s.ring.issueDue = true)
    (hcount : s.count = (s.car (s.get F.RING_RND_CAR)).valley.toNat) :
    s.roundIssue = (((s.issueOpened s.count).sendCopy s.count false).sendCopy s.count true).modRing (fun r => { r with round := s.roundNo s.count + 1 }) := by
  unfold roundIssue
  rw [← hcount]
  exact if_pos ⟨hruns, hs, hdue, rfl⟩

/-- What a copy that leaves does not touch. -/
theorem issueOpened_sent (s : State) (issue : Nat) :
    CopiesOut (s.issueOpened issue) (((s.issueOpened issue).sendCopy issue false).sendCopy issue true) :=
  (sendCopy_copies ..).trans (sendCopy_copies ..)

/-- The round that has been issued, with the bytes of its copies. -/
theorem roundIssue_leaves (hruns : s.ringRuns = true) (hs : s.ringState = 4) (hdue : s.ring.issueDue = true)
    (hcount : s.count = (s.car (s.get F.RING_RND_CAR)).valley.toNat) :
    ∃ a b, s.roundIssue = (s.issuePrepared s.count).modRing (fun r => { r with
      issueDue := false, lastIssue := some s.count, answered := [], outA := a, outB := b
      cur := some { no := s.roundNo s.count, issue := s.count }, round := s.roundNo s.count + 1 }) := by
  obtain ⟨a, b, hout⟩ := issueOpened_sent s s.count
  refine ⟨a, b, (roundIssue_eq hruns hs hdue hcount).trans ?_⟩
  rw [hout]
  unfold issueOpened
  generalize s.issuePrepared s.count = u
  rfl

theorem roundIssue_gives (s : State) (hruns : s.ringRuns = true) (hs : s.ringState = 4) (hdue : s.ring.issueDue = true)
    (hcount : s.count = (s.car (s.get F.RING_RND_CAR)).valley.toNat) :
    Completes .roundIssue s fun t =>
      t.ring.round = s.roundNo s.count + 1 ∧ (s.ring.tookOver = false → s.roundNo s.count = s.ring.round) ∧
      t.ring.lastIssue = some s.count ∧ t.ring.issueDue = false ∧ t.ring.tookOver = false ∧
      (∃ r, t.ring.cur = some r ∧ r.no = s.roundNo s.count ∧ r.issue = s.count) ∧ t.clk.count = s.clk.count ∧ t.loom = s.loom ∧ t.otp = s.otp := by
  have hw := issuePrepared_work s s.count hs
  obtain ⟨a, b, hout⟩ := roundIssue_leaves hruns hs hdue hcount
  generalize s.issuePrepared s.count = u at hw hout
  obtain ⟨x, hclk⟩ := hw.clockKept
  have hcnt : u.clk.count = s.clk.count := (congrArg Clk.count hclk).trans rfl
  refine ⟨_, congrArg Host.Outcome.next hout, rfl, fun hto => ?_, rfl, rfl, hw.tookOver, ⟨_, rfl, rfl, rfl⟩, hcnt, hw.loom, hw.moves.otp⟩
  rw [roundNo, hto]

/-! ### The insertion latches (R271) -/

/-- The latches of an issue stamp, as they stand. -/
def latchesTaken (s : State) (issue : Nat) : State :=
  (s.disturb 3).2.modRing (fun r => { r with
    ins := (List.range 128).map (fun w => (s.disturb 3).2.rd (R.RING_TXWw w)), insFor := some issue, insAt := s.count + (s.disturb 3).1 })

theorem insertionLatch_eq (hruns : s.ringRuns = true) (hlive : s.ringLive = true) (hn : s.nextIssue = some (s.count + 64)) :
    s.insertionLatch = s.latchesTaken (s.count + 64) := by
  unfold insertionLatch
  rw [hn]
  exact if_pos ⟨hruns, hlive, rfl⟩

theorem disturb_moves (s : State) (k : Nat) : Moves [.tst] s (s.disturb k).2 := by
  unfold disturb
  split
  · exact .record (.refl s) (by rfl)
  · exact .refl s

theorem insertionLatch_gives (s : State) (hruns : s.ringRuns = true) (hlive : s.ringLive = true) (hn : s.nextIssue = some (s.count + 64)) :
    Completes .insertionLatch s fun t =>
      t.ring.insFor = some (s.count + 64) ∧ (∀ i : Fin 128, nth t.ring.ins i 0 = s.rd (R.RING_TXWw i)) ∧
      t.ring.round = s.ring.round ∧ t.regs = s.regs ∧ t.clk = s.clk := by
  have hd := disturb_moves s 3
  refine ⟨_, congrArg Host.Outcome.next (insertionLatch_eq hruns hlive hn), rfl, fun i => ?_, congrArg (·.round) hd.ring, hd.regs, hd.clk⟩
  show nth ((List.range 128).map (fun w => (s.disturb 3).2.rd (R.RING_TXWw w))) i 0 = _
  rw [nth, List.getD_eq_getElem?_getD, List.getElem?_map, List.getElem?_range i.isLt]
  exact rd_congr hd.regs _

/-! ### LOCKED (R283) -/

/-- A ring event is on its way. -/
theorem sent_ringEvent (hruns : t.coreRuns = true) (hclk : t.clk = s.clk) (src : Nat) (sev : Severity) : s.sent (t.ringEvent src sev) src :=
  sent.log (sent_raise hruns hclk src) ..

theorem ringEvent_moves (s : State) (src : Nat) (sev : Severity) : Moves [.rtc, .mram, .events, .stew, .draws] s (s.ringEvent src sev) := .log (.raise (.refl s))

theorem ringLockGain_gives (s : State) (hruns : s.coreRuns = true) (hring : s.ringRuns = true) (hoff : s.on F.RING_STAT_LOCKED = false)
    (hcase : (s.ringState = 3 ∧ s.ring.slewHeld = false ∧ s.lockRounds ≤ s.ring.inWin ∧
        (s.on F.RING_STAT_LOCK_A = true ∨ s.on F.RING_STAT_LOCK_B = true)) ∨ (s.ringState = 4 ∧ 0 < s.ring.inWin)) :
    Completes .ringLockGain s fun t =>
      t.on F.RING_STAT_LOCKED = true ∧ s.sent t 0xC4 ∧ (∀ b, b ≠ R.RING_STAT → t.rd b = s.rd b) ∧ s.clockKept t ∧ t.loom = s.loom := by
  have heq : s.ringLockGain = ((s.set1 F.RING_STAT_LOCKED).modRing (fun r => { r with wasLocked := true, slewWatch := false })).ringEvent 0xC4 .info := by
    unfold ringLockGain
    refine if_pos ?_
    rw [hring, hoff]
    rcases hcase with ⟨h3, hheld, hin, hl⟩ | ⟨h4, hin⟩
    · simpa [h3, hheld, hin] using hl
    · simp [h4, hin]
  generalize hu : (s.set1 F.RING_STAT_LOCKED).modRing (fun r => { r with wasLocked := true, slewWatch := false }) = u at heq
  have hm : Moves [.regs, .cycle, .ring] s u := hu ▸ .record (.put (.refl s)) (by rfl)
  have hw : s.Writes (· = R.RING_STAT) u := hu ▸ .regs (.put (.refl s) (f := F.RING_STAT_LOCKED) rfl) rfl
  have hev := ringEvent_writes u 0xC4 .info (P := fun _ => False)
  refine ⟨_, congrArg Host.Outcome.next heq, ?_, ?_, ?_, ?_, ?_⟩
  · rw [hev.on id, ← hu]
    exact on_set1_same s _ (by decide) (by decide)
  · exact sent_ringEvent ((coreRuns_of_writes hw hm.sys (by decide)).trans hruns) hm.clk 0xC4 .info
  · exact fun b hb => (hev.rd id).trans (hw.rd hb)
  · exact Moves.clockKept (F := ringParts) ((hm.mono (by decide)).trans ((ringEvent_moves u 0xC4 .info).mono (by decide)))
  · exact (ringEvent_moves u 0xC4 .info).loom.trans hm.loom

end State
end Sys2Proof.Machine

/-! The loss of LOCKED (R283), and what the ring notes and counts. -/

namespace Sys2Proof.Machine

set_option Elab.async false
namespace State

variable {s t u : State}

/-- Where the policy rests and an operation leaves the mode and SYS_LTR, the policy adds nothing to it (R379). -/
theorem policyAfter_rests {f : State → State} (h : s.policyRests) (hmode : (f s).mode = s.mode) (hltr : (f s).rd R.SYS_LTR = s.rd R.SYS_LTR) :
    Moves [.sys] (f s) (s.policyAfter f) := by
  have hm : (f s).mode ≠ .doze := hmode ▸ coreRuns_not_doze h.1
  have hl : ((f s).rd R.SYS_LTR).toNat < 2000 := hltr ▸ h.2
  unfold policyAfter
  dsimp only
  split
  · have hrest : ((f s).modSys (fun x => { x with ltrWritten := false })).policy = (f s).modSys (fun x => { x with ltrWritten := false }) :=
      policy_rests hm hl
    rw [hrest]
    exact modSys_moves _ _
  · exact .refl _

theorem Writes.modRing {P : Nat → Prop} (h : s.Writes P t) {f : Ring → Ring} : s.Writes P (t.modRing f) := h.regs rfl
theorem Moves.modRing {A : List Part} (h : Moves A s t) {f : Ring → Ring} (hA : [.ring] ⊆ A := by decide) : Moves A s (t.modRing f) :=
  h.trans (Moves.mono (.record (.refl t) (F := [.ring]) (by rfl)) hA)

/-- What notes and counts in the ring's and the test block's registers, and leaves the ring's record. -/
structure Noted (s t : State) : Prop where
  moves : Moves [.regs, .cycle, .tst, .rtc, .mram, .events, .stew, .draws] s t
  writes : s.Writes (fun b => ringRegs b ∧ b ≠ R.RING_STAT) t
  lasts : s.EventsLast t

namespace Noted

theorem refl (s : State) : Noted s s := ⟨.refl s, .refl s, .refl s⟩
theorem trans (h : Noted s t) (h' : Noted t u) : Noted s u := ⟨h.moves.trans h'.moves, h.writes.trans h'.writes, h.lasts.trans h'.lasts⟩
theorem ite {c : Prop} [Decidable c] (ht : Noted s t) (hu : Noted s u) : Noted s (if c then t else u) := by split <;> assumption
theorem wr (h : Noted s t) {a : Nat} {v : Word} (ha : ringRegs a ∧ a ≠ R.RING_STAT) : Noted s (t.wr a v) :=
  h.trans ⟨.wr (.refl t), .wr (.refl t) ha, .same (.refl t) (wr_events ..)⟩
theorem put (h : Noted s t) {f : Fld} {n : Nat} (hf : ringRegs f.addr ∧ f.addr ≠ R.RING_STAT) : Noted s (t.put f n) :=
  h.trans ⟨.put (.refl t), .put (.refl t) hf, .same (.refl t) (put_events ..)⟩
theorem ringEvent (h : Noted s t) (src : Nat) (sev : Severity) : Noted s (t.ringEvent src sev) :=
  h.trans ⟨.log (.raise (.refl t)), ringEvent_writes t src sev, .log (.raise (.refl t) src)⟩
theorem void (h : Noted s t) (src : VoidSrc) (state : Bool) (c : Nat) (stamp : Word) : Noted s (t.void src state c stamp) :=
  h.trans ⟨.void (.refl t), .void (.refl t) (fun b hb => by simp only [ringRegs, R.RING_HOPS, R.RING_STAT]; omega), .void (.refl t)⟩
theorem forAll (h : Noted s t) {n : Nat} {f : Nat → State → State} (hf : ∀ i u, i < n → Noted s u → Noted s (f i u)) : Noted s (t.forAll n f) :=
  forAll_rec (p := fun _ u => Noted s u) h fun i u hi hu => hf i u hi hu
theorem foldl {α : Type} {f : State → α → State} {l : List α} (h : Noted s t) (hf : ∀ u a, Noted s u → Noted s (f u a)) : Noted s (l.foldl f t) := by
  induction l generalizing t with
  | nil => exact h
  | cons a l ih => exact ih (hf t a h)
theorem mode (h : Noted s t) : t.mode = s.mode := mode_of_rd (h.writes.rd (by simp only [ringRegs]; decide))
theorem ltr (h : Noted s t) : t.rd R.SYS_LTR = s.rd R.SYS_LTR := h.writes.rd (by simp only [ringRegs]; decide)
theorem ringState (h : Noted s t) : t.ringState = s.ringState := h.writes.get (by simp only [ringRegs]; decide)
theorem coreRuns (h : Noted s t) : t.coreRuns = s.coreRuns := coreRuns_of_writes h.writes h.moves.sys (by simp only [ringRegs]; decide)
theorem count (h : Noted s t) : t.clk.count = s.clk.count := by
  obtain ⟨x, hx⟩ := h.moves.clockKept
  exact (congrArg Clk.count hx).trans rfl

end Noted

/-! ### The loss of LOCKED (R283) -/

/-- A void of scope STATE shows STATE. -/
theorem void_state (s : State) (src : VoidSrc) (c : Nat) (stamp : Word) : (s.void src true c stamp).on F.TST_VOID_STAT_STATE = true := by
  have hfirst : ((s.putBit R.TST_VOID_STAT src.bit true).set1 F.TST_VOID_STAT_STATE).on F.TST_VOID_STAT_STATE = true := on_set1_same _ _ (by decide) (by decide)
  have hnote : ((s.putBit R.TST_VOID_STAT src.bit true).set1 F.TST_VOID_STAT_STATE).Writes (0x40100044 ≤ ·) (s.voidNoted src true c stamp) := by
    unfold voidNoted
    dsimp only
    have hlast : ((s.putBit R.TST_VOID_STAT src.bit true).set1 F.TST_VOID_STAT_STATE).Writes (0x40100044 ≤ ·)
        (((s.putBit R.TST_VOID_STAT src.bit true).set1 F.TST_VOID_STAT_STATE).wr R.TST_VOID_LAST stamp) := .wr (.refl _) (by decide)
    have hrest := Writes.ite (p := (s.rd R.TST_VOID_STAT).toNat % 32 = 0) (hlast.wr (a := R.TST_VOID_FIRST) (v := stamp) (by decide)) hlast
    exact Writes.trans (.of_regs rfl) (Writes.regs (Writes.ite (p := s.voidedBefore c stamp = true) hrest (hrest.incS (f := F.TST_VOID_CNT_CNT) (by decide))) rfl)
  have hon := (hnote.on (f := F.TST_VOID_STAT_STATE) (by decide)).trans hfirst
  rw [void_eq]
  split
  · exact hon
  · exact (Writes.on (P := fun _ => False) (.log (.refl _)) id).trans hon

/-- The node as it stands once it has stopped being LOCKED, with a void of its running period. -/
def ringUnlocked (s : State) : State :=
  (((s.clr F.RING_STAT_LOCKED).modRing (fun r => { r with inWin := 0 })).void .ring true (s.get F.RING_RND_CAR)
    (s.valleyStamp (s.get F.RING_RND_CAR))).ringEvent 0xC5 .warn

theorem ringUnlock_eq (h : s.on F.RING_STAT_LOCKED = true) : s.ringUnlock = s.ringUnlocked := if_pos h

theorem ringUnlocked_noted (s : State) : Noted ((s.clr F.RING_STAT_LOCKED).modRing (fun r => { r with inWin := 0 })) s.ringUnlocked :=
  (Noted.void (.refl _) ..).ringEvent 0xC5 .warn

theorem ringUnlocked_locked (s : State) : s.ringUnlocked.on F.RING_STAT_LOCKED = false :=
  ((ringUnlocked_noted s).writes.on (by simp only [ringRegs]; decide)).trans ((on_congr rfl _).trans (on_clr_same s F.RING_STAT_LOCKED (by decide)))

theorem ringUnlocked_ringState (s : State) : s.ringUnlocked.ringState = s.ringState :=
  (ringUnlocked_noted s).ringState.trans ((get_congr rfl _).trans (get_clr_other s F.RING_STAT_LOCKED F.RING_STAT_STATE (by decide) (.inr (by decide))))

theorem ringUnlocked_ring (s : State) : s.ringUnlocked.ring = { s.ring with inWin := 0 } :=
  (ringUnlocked_noted s).moves.ring.trans rfl

theorem ringUnlocked_moves (s : State) : Moves ringParts s s.ringUnlocked :=
  (Moves.record (.put (.refl s) (f := F.RING_STAT_LOCKED) (n := 0)) (by rfl)).trans ((ringUnlocked_noted s).moves.mono (by decide))

theorem ringUnlocked_void (s : State) : s.ringUnlocked.on F.TST_VOID_STAT_STATE = true :=
  (Writes.on (P := fun _ => False) (ringEvent_writes _ 0xC5 .warn) id).trans (void_state ..)

theorem ringUnlocked_sent (s : State) (hruns : s.coreRuns = true) : s.sent s.ringUnlocked 0xC5 := by
  generalize hu : ((s.clr F.RING_STAT_LOCKED).modRing (fun r => { r with inWin := 0 })).void .ring true (s.get F.RING_RND_CAR)
    (s.valleyStamp (s.get F.RING_RND_CAR)) = u
  have hn : Noted ((s.clr F.RING_STAT_LOCKED).modRing (fun r => { r with inWin := 0 })) u := hu ▸ Noted.void (.refl _) ..
  have hc : u.coreRuns = s.coreRuns :=
    hn.coreRuns.trans (coreRuns_of_writes (P := (· = R.RING_STAT)) (.regs (.clr (.refl s) (f := F.RING_STAT_LOCKED) rfl) rfl) rfl (by decide))
  have hsent : u.sent (u.ringEvent 0xC5 .warn) 0xC5 := sent_ringEvent (hc.trans hruns) rfl 0xC5 .warn
  unfold ringUnlocked
  rw [hu]
  have hcount := hn.count
  rw [modRing_clk, clr_clk] at hcount
  exact .of_kept hcount hsent

theorem slewCheck_writes (s : State) : s.Writes (· = R.RING_ERR) s.slewCheck := by
  unfold slewCheck
  exact .ite (Writes.modRing (P := (· = R.RING_ERR)) (.set1 (.refl s) (f := F.RING_ERR_SLEW_FAIL) rfl)) (.refl s)

theorem slewCheck_inWin (s : State) : s.slewCheck.ring.inWin = s.ring.inWin := by
  unfold slewCheck
  split
  · show (s.set1 F.RING_ERR_SLEW_FAIL).ring.inWin = s.ring.inWin
    rw [set1_ring]
  · rfl

theorem ringLockLoss_gives (s : State) (hruns : s.coreRuns = true) (hlocked : s.on F.RING_STAT_LOCKED = true)
    (hcase : 3 ≤ s.ring.noHeader ∨ (s.ringState = 3 ∧ 4 ≤ s.ring.outWin)) :
    Completes .ringLockLoss s fun t =>
      t.on F.RING_STAT_LOCKED = false ∧ t.on F.TST_VOID_STAT_STATE = true ∧ s.sent t 0xC5 ∧ t.ring.inWin = 0 ∧
      t.ringState = s.ringState ∧ s.clockKept t ∧ t.loom = s.loom := by
  have hguard : (s.on F.RING_STAT_LOCKED && (3 ≤ s.ring.noHeader || (s.ringState == 3 && 4 ≤ s.ring.outWin))) = true := by
    simpa [hlocked] using hcase
  have heq : s.ringLockLoss = (s.ringUnlocked.modRing (fun r =>
      { r with wasLocked := decide (3 ≤ r.noHeader), slewWatch := s.ringState == 3 && s.switching })).slewCheck := by
    rw [← ringUnlock_eq hlocked]
    exact if_pos hguard
  generalize hv : s.ringUnlocked.modRing (fun r => { r with wasLocked := decide (3 ≤ r.noHeader), slewWatch := s.ringState == 3 && s.switching }) = v at heq
  have hregs : v.regs = s.ringUnlocked.regs := hv ▸ rfl
  have hmoves : Moves ringParts s v := hv ▸ .record (ringUnlocked_moves s) (by rfl)
  have hin : v.ring.inWin = 0 := by
    rw [← hv]
    show s.ringUnlocked.ring.inWin = 0
    rw [ringUnlocked_ring]
  have hsent : s.sent v 0xC5 := (ringUnlocked_sent s hruns).of_events (hv ▸ rfl)
  have hw := slewCheck_writes v
  have hwork := slewCheck_work v
  refine ⟨_, congrArg Host.Outcome.next heq, ?_, ?_, hsent.keeps hwork.lasts, (slewCheck_inWin v).trans hin, ?_, ?_, ?_⟩
  · exact (hw.on (by decide)).trans ((on_congr hregs _).trans (ringUnlocked_locked s))
  · exact (hw.on (by decide)).trans ((on_congr hregs _).trans (ringUnlocked_void s))
  · exact (hw.get (f := F.RING_STAT_STATE) (by decide)).trans ((get_congr hregs _).trans (ringUnlocked_ringState s))
  · exact clockKept_trans hmoves.clockKept hwork.clockKept
  · exact hwork.loom.trans hmoves.loom

end State
end Sys2Proof.Machine

/-! The delivery of a round (R272, R273, R289). -/

namespace Sys2Proof.Machine

set_option Elab.async false
namespace State

variable {s t u : State} {r : RingRound}

theorem RING_RXWr_noted {d : Nat} : ringRegs (R.RING_RXWr d) ∧ R.RING_RXWr d ≠ R.RING_STAT := by
  simp only [ringRegs, R.RING_RXWr, R.RING_HOPS, R.RING_STAT]
  omega

theorem RING_RXVj_noted {j : Nat} : ringRegs (R.RING_RXVj j) ∧ R.RING_RXVj j ≠ R.RING_STAT := by
  simp only [ringRegs, R.RING_RXVj, R.RING_HOPS, R.RING_STAT]
  omega

theorem deliverEntry_noted (s : State) (r : RingRound) (k : Nat) : Noted s (s.deliverEntry r k) := by
  unfold deliverEntry
  refine .ite (Noted.forAll (.refl s) fun j u _ hu => ?_) (.refl s)
  refine .ite hu ?_
  split
  · exact (hu.wr RING_RXWr_noted).put RING_RXVj_noted
  · exact hu.put RING_RXVj_noted

theorem allInvalid_noted (s : State) : Noted s s.allInvalid := .forAll (.refl s) fun _ _ _ hu => hu.wr RING_RXVj_noted

theorem RING_RXVj_inj {i j : Nat} (h : i ≠ j) : R.RING_RXVj i ≠ R.RING_RXVj j := by
  simp only [R.RING_RXVj]
  omega

/-- Once all receive words are invalid, no validity word has a bit. -/
theorem allInvalid_rd (s : State) {j : Nat} (hj : j < 8) : s.allInvalid.rd (R.RING_RXVj j) = 0 :=
  forAll_at (fun u => u.rd (R.RING_RXVj j) = 0) (fun _ => True) trivial (fun _ _ _ _ => trivial)
    (fun u _ => by rw [rd_wr, if_pos rfl])
    (fun i u hi _ hu => by rw [rd_wr, if_neg (RING_RXVj_inj (Ne.symm hi)), hu]) hj

/-- A late round: the frames that have waited for it are let go, and the lateness is noted. -/
theorem roundLate_noted (s : State) (r : RingRound) :
    Noted (s.modRing (fun g => { g with lateFrames := g.lateFrames.filter (fun f => r.issue < f.issue) })) (s.roundLate r) := by
  unfold roundLate
  dsimp only
  generalize s.modRing (fun g => { g with lateFrames := g.lateFrames.filter (fun f => r.issue < f.issue) }) = u
  have hlate : Noted u (((u.set1 F.RING_ERR_LATE).incS F.RING_CNT_LATES).ringEvent 0xB9 .warn) :=
    (Noted.put (.put (.refl u) (f := F.RING_ERR_LATE) (by simp only [ringRegs]; decide)) (f := F.RING_CNT_LATES) (by simp only [ringRegs]; decide)).ringEvent 0xB9 .warn
  exact .ite (.refl u) (.ite (.foldl hlate fun _ _ hv => hv.void ..) hlate)

/-- The receive view of a round, as it stands with the round's own number still to come. -/
def viewed (s : State) (r : RingRound) : State :=
  if s.ringState = 3 ∧ !s.ring.liveOk then (s.roundLate r).allInvalid else (s.roundLate r).forAll 64 (fun k u => u.deliverEntry r k)

theorem deliver_eq (s : State) (r : RingRound) : s.deliver r = ((s.viewed r).wr R.RING_ROUND r.no).raise 0xB8 := rfl

theorem viewed_noted (s : State) (r : RingRound) :
    Noted (s.modRing (fun g => { g with lateFrames := g.lateFrames.filter (fun f => r.issue < f.issue) })) (s.viewed r) := by
  have hl := roundLate_noted s r
  unfold viewed
  exact .ite (hl.trans (allInvalid_noted _)) (.forAll hl fun k u _ hu => hu.trans (deliverEntry_noted u r k))

theorem viewed_invalid (h3 : s.ringState = 3) (hok : s.ring.liveOk = false) {j : Nat} (hj : j < 8) : (s.viewed r).rd (R.RING_RXVj j) = 0 := by
  have hv : s.viewed r = (s.roundLate r).allInvalid := if_pos ⟨h3, by rw [hok]; rfl⟩
  rw [hv]
  exact allInvalid_rd _ hj

/-- No round is due to begin by itself, and the one in hand has not reached the next issue stamp. -/
theorem noneEnds (hlive : s.ringLive = true) (hcur : ∀ x, s.ring.cur = some x → s.count < x.issue + s.ringPeriod)
    (hnone : s.ring.cur = none → s.ring.lastIssue = none) : s.silentRound.endByIssue = s := by
  have hsilent : s.silentRound = s := by
    unfold silentRound
    split
    · rename_i i hc hi
      exact absurd (hnone hc) (hi ▸ Option.some_ne_none i)
    · rfl
  rw [hsilent]
  unfold endByIssue
  split
  · rename_i x hx
    have hcount : s.ringCount = s.count := if_pos hlive
    refine if_neg fun h => ?_
    have := hcur x hx
    omega
  · rfl

theorem roundDelivery_eq {rest : List RingRound} {d : Nat} (hring : s.ringRuns = true) (hlive : s.ringLive = true)
    (hcur : ∀ x, s.ring.cur = some x → s.count < x.issue + s.ringPeriod) (hnone : s.ring.cur = none → s.ring.lastIssue = none)
    (hdone : s.ring.done = r :: rest) (hd : r.deliverAt = some d) (hdue : s.due d = true) :
    s.roundDelivery = (s.modRing (fun g => { g with done := rest })).deliver r := by
  unfold roundDelivery
  rw [if_pos hring, noneEnds hlive hcur hnone]
  dsimp only
  rw [hdone]
  dsimp only
  rw [hd]
  exact if_pos hdue

theorem roundDelivery_gives (s : State) (r : RingRound) (rest : List RingRound) (d : Nat) (hrests : s.policyRests) (hring : s.ringRuns = true)
    (hlive : s.ringLive = true) (hcur : ∀ x, s.ring.cur = some x → s.count < x.issue + s.ringPeriod)
    (hnone : s.ring.cur = none → s.ring.lastIssue = none) (hdone : s.ring.done = r :: rest) (hd : r.deliverAt = some d) (hdue : s.due d = true) :
    Completes .roundDelivery s fun t =>
      t.ring.done = rest ∧ t.rd R.RING_ROUND = r.no ∧ s.sent t 0xB8 ∧ t.ring.cur = s.ring.cur ∧ s.clockKept t ∧ t.loom = s.loom ∧
      (s.ringState = 3 → s.ring.liveOk = false → ∀ j : Fin 8, t.rd (R.RING_RXVj j) = 0) := by
  have heq := (roundDelivery_eq hring hlive hcur hnone hdone hd hdue).trans (deliver_eq ..)
  generalize hv : (s.modRing (fun g => { g with done := rest })).viewed r = v at heq
  have hn : Noted ((s.modRing (fun g => { g with done := rest })).modRing (fun g => { g with lateFrames := g.lateFrames.filter (fun f => r.issue < f.issue) })) v :=
    hv ▸ viewed_noted _ r
  have hmode : (v.wr R.RING_ROUND r.no).mode = s.mode :=
    (mode_of_rd ((rd_wr ..).trans (if_neg (by decide)))).trans (hn.mode.trans rfl)
  have hruns : (v.wr R.RING_ROUND r.no).coreRuns = true :=
    (coreRuns_of_rd (wr_sys ..) ((rd_wr ..).trans (if_neg (by decide)))).trans (hn.coreRuns.trans hrests.1)
  have hpol : Moves [.sys] s.roundDelivery (s.policyAfter roundDelivery) := by
    refine policyAfter_rests hrests ?_ ?_ <;> rw [heq]
    · exact (mode_of_rd (rd_raise ..)).trans hmode
    · rw [rd_raise, rd_wr, if_neg (by decide), hn.ltr]
      rfl
  rw [heq] at hpol
  have hring' : (s.policyAfter roundDelivery).ring = v.ring := by rw [hpol.ring, raise_ring, wr_ring]
  refine ⟨s.policyAfter roundDelivery, rfl, ?_, ?_, ?_, ?_, ?_, ?_, fun h3 hok j => ?_⟩
  · rw [hring', hn.moves.ring]
    rfl
  · rw [rd_congr hpol.regs, rd_raise, rd_wr, if_pos rfl]
  · have hcount : v.clk.count = s.clk.count := hn.count.trans rfl
    have hsent : v.sent ((v.wr R.RING_ROUND r.no).raise 0xB8) 0xB8 := sent_raise hruns (wr_clk ..) 0xB8
    exact (sent.of_kept hcount hsent).of_events hpol.events
  · rw [hring', hn.moves.ring]
    rfl
  · refine clockKept_trans (t := v) ?_ ?_
    · obtain ⟨x, hx⟩ := hn.moves.clockKept
      exact ⟨x, hx⟩
    · exact ⟨v.clk.rtcSub, by rw [hpol.clk, raise_clk, wr_clk]⟩
  · rw [hpol.loom, raise_loom, wr_loom, hn.moves.loom]
    rfl
  · rw [rd_congr hpol.regs, rd_raise, rd_wr, if_neg (by simp only [R.RING_RXVj, R.RING_ROUND]; omega), ← hv]
    have h3' : (s.modRing (fun g => { g with done := rest })).ringState = 3 := (get_congr rfl _).trans h3
    exact viewed_invalid h3' hok j.isLt

end State
end Sys2Proof.Machine

/-! Copies at this node (R267, R271, R272, R279), and the settling of the ring's rounds and copies. -/

namespace Sys2Proof.Machine

set_option Elab.async false
namespace State

variable {s t u : State} {p : Port} {b : List Byte} {frac res : Nat}

/-- What a copy does at a port that carries copies, where the ring runs. -/
theorem copyPassage_eq (hring : s.ringRuns = true) (hup : s.portUp p = true) :
    s.copyPassage p b frac res = if !headOk b then s.passBad p b
      else if s.ringState = 4 then s.returnCopy p b (frac % 64) else s.passCopy p b (frac % 64) (max 922 (min 1024 res)) := if_pos ⟨hring, hup⟩

/-! ### A copy with a wrong HCRC (R272) -/

/-- The header CRC error, flagged and counted. -/
def headErred (s : State) : State := (s.set1 F.RING_ERR_HDR_CRC).incS F.RING_CNT_CRCERR

theorem headErred_moves (s : State) : Moves [.regs, .cycle] s s.headErred := .incS (.put (.refl s))
theorem headErred_writes (s : State) : s.Writes (fun a => a = R.RING_ERR ∨ a = R.RING_CNT) s.headErred :=
  .incS (.set1 (.refl s) (f := F.RING_ERR_HDR_CRC) (.inl rfl)) (f := F.RING_CNT_CRCERR) (.inr rfl)

theorem headErred_flag (s : State) : s.headErred.on F.RING_ERR_HDR_CRC = true := by
  unfold headErred incS
  rw [on_put_other _ F.RING_CNT_CRCERR F.RING_ERR_HDR_CRC _ (by decide) (.inl (by decide))]
  exact on_set1_same s F.RING_ERR_HDR_CRC (by decide) (by decide)

theorem headErred_count (s : State) : s.headErred.get F.RING_CNT_CRCERR = satInc 16 (s.get F.RING_CNT_CRCERR) := by
  unfold headErred incS
  rw [get_put_same _ F.RING_CNT_CRCERR _ (by decide), get_set1_other s F.RING_ERR_HDR_CRC F.RING_CNT_CRCERR (by decide) (.inl (by decide)),
    Nat.mod_eq_of_lt]
  exact Nat.lt_of_le_of_lt (Nat.min_le_right ..) (by decide)

theorem CopiesOut.moves (h : CopiesOut s t) : Moves [.ring] s t := by
  obtain ⟨a, b, rfl⟩ := h
  exact .modRing (.refl s)

theorem copyPassage_badHead (s : State) (p : Port) (b : List Byte) (frac res : Nat) (hrests : s.policyRests) (hring : s.ringRuns = true)
    (hup : s.portUp p = true) (hbad : headOk b = false) :
    Completes (.copyPassage p b frac res) s fun t =>
      t.on F.RING_ERR_HDR_CRC = true ∧ s.sent t 0xBA ∧ t.get F.RING_CNT_CRCERR = satInc 16 (s.get F.RING_CNT_CRCERR) ∧
      t.ring.cur = s.ring.cur ∧ t.ring.done = s.ring.done ∧ t.ring.round = s.ring.round ∧
      (∀ a, a ≠ R.RING_ERR → a ≠ R.RING_CNT → t.rd a = s.rd a) ∧ t.clk = s.clk ∧ t.mem = s.mem := by
  have heq : s.copyPassage p b frac res = s.passBad p b := by
    rw [copyPassage_eq hring hup, hbad]
    rfl
  obtain ⟨oa, ob, hout⟩ : CopiesOut (s.headErred.raise 0xBA) (s.passBad p b) := putOut_copies ..
  have hm := headErred_moves s
  have hw := headErred_writes s
  have hregs : (s.copyPassage p b frac res).regs = s.headErred.regs := by
    rw [heq, hout]
    exact raise_regs ..
  have hpol : Moves [.sys] (s.copyPassage p b frac res) (s.policyAfter (·.copyPassage p b frac res)) :=
    policyAfter_rests (f := (·.copyPassage p b frac res)) hrests (mode_of_rd ((rd_congr hregs _).trans (hw.rd (by decide))))
      ((rd_congr hregs _).trans (hw.rd (by decide)))
  have hregs' := hpol.regs.trans hregs
  have hruns : s.headErred.coreRuns = true := (coreRuns_of_writes hw hm.sys (by decide)).trans hrests.1
  have hringEq : (s.policyAfter (·.copyPassage p b frac res)).ring = { s.ring with outA := oa, outB := ob } := by
    rw [hpol.ring, heq, hout]
    show { (s.headErred.raise 0xBA).ring with outA := oa, outB := ob } = _
    rw [raise_ring, hm.ring]
  have hsent : s.sent (s.copyPassage p b frac res) 0xBA := by
    rw [heq, hout]
    exact sent.of_events (sent_raise hruns hm.clk 0xBA) rfl
  refine ⟨s.policyAfter (·.copyPassage p b frac res), rfl, (on_congr hregs' _).trans (headErred_flag s), hsent.of_events hpol.events,
    (get_congr hregs' _).trans (headErred_count s), by rw [hringEq], by rw [hringEq], by rw [hringEq], fun a h1 h2 => ?_, ?_, ?_⟩
  · exact (rd_congr hregs' a).trans (hw.rd (not_or.2 ⟨h1, h2⟩))
  · rw [hpol.clk, heq, hout]
    exact (raise_clk ..).trans hm.clk
  · rw [hpol.mem, heq, hout]
    exact (raise_mem ..).trans hm.mem

/-! ### A copy at a listening node (R271) -/

/-- The ring's work together with the copies that leave. -/
structure RingStep (s t : State) : Prop where
  moves : Moves ringParts s t
  writes : s.Writes (0x400B0000 ≤ ·) t
  state : t.ringState = s.ringState ∨ (s.ringState = 1 ∧ t.ringState = 2)

theorem RingWork.step (h : RingWork s t) : RingStep s t := ⟨h.moves, h.writes.mono fun _ hb => hb.1, h.state⟩

namespace RingStep

theorem refl (s : State) : RingStep s s := (RingWork.refl s).step
theorem trans (h : RingStep s t) (h' : RingStep t u) : RingStep s u := by
  refine ⟨h.moves.trans h'.moves, h.writes.trans h'.writes, ?_⟩
  have hs := h.state
  have ht := h'.state
  omega
theorem modRing (h : RingStep s t) {f : Ring → Ring} : RingStep s (t.modRing f) := ⟨h.moves.modRing, h.writes.modRing, h.state⟩
theorem hops (h : RingStep s t) {f : Fld} {n : Nat} (hf : f.addr = R.RING_HOPS) (hb : f.lo + f.width ≤ 32) : RingStep s (t.put f n) :=
  h.trans ⟨.put (.refl t), .put (.refl t) (hf ▸ by decide), .inl (get_put_other t f F.RING_STAT_STATE n hb (.inl (hf ▸ by decide)))⟩

end RingStep

theorem enterRound_step (s : State) (h : CopyHead) (hs : s.ringState = 1) : RingStep s (s.enterRound h) := by
  unfold enterRound
  dsimp only
  split
  · exact .refl s
  · have hclose := ((endRound_work s (min s.count h.issue) (by omega)).trans (closePorts_work _)).step
    have hopen := hclose.modRing (f := fun g => { g with
      cur := some { no := BitVec.ofNat 32 h.round, issue := h.issue }, round := BitVec.ofNat 32 h.round + 1, lastIssue := some h.issue
      issuer := h.issuer, outA := [], outB := [] })
    have hl := hopen.state
    rw [generationChange_notLive]
    · exact hopen
    · simp only [ringLive, Bool.or_eq_false_iff, beq_eq_false_iff_ne]
      omega

/-- The field that shows the hop count of a copy. -/
def hopsFld (h : CopyHead) : Fld := if h.copyB then F.RING_HOPS_HOPS_B else F.RING_HOPS_HOPS_A

theorem hopsFld_addr (h : CopyHead) : (hopsFld h).addr = R.RING_HOPS := by unfold hopsFld; split <;> rfl
theorem hopsFld_fits (h : CopyHead) : (hopsFld h).lo + (hopsFld h).width ≤ 32 := by unfold hopsFld; split <;> decide
theorem hopsFld_width (h : CopyHead) : (hopsFld h).width = 16 := by unfold hopsFld; split <;> rfl

/-- A copy that has passed is noted in its round, and its hop count is shown; what follows is the ring's work. -/
theorem notePass_work (s : State) (h : CopyHead) (p : Port) (w : Bool) (x : CopyTime) (hs : s.ringState ≠ 3) :
    ∃ f, RingWork ((s.modRound (BitVec.ofNat 32 h.round) f).put (hopsFld h) h.hops) (s.notePass h p w x) := by
  unfold notePass
  extract_lets no t1 t2
  have h2 : t2.ringState = s.ringState :=
    get_put_other t1 (hopsFld h) F.RING_STAT_STATE h.hops (hopsFld_fits h) (.inl (hopsFld_addr h ▸ by decide))
  refine ⟨_, (?_ : RingWork t2 _)⟩
  split
  · exact .ite (portHeader_work t2 p) (.ite (endRound_work t2 t2.count (by omega)) (.refl t2))
  · exact portHeader_work t2 p

theorem noteTime_work (s : State) (h : CopyHead) (p : Port) (x : CopyTime) : RingWork s (s.noteTime h p x) := by
  unfold noteTime
  exact .ite (.modRing (.refl s) rfl rfl rfl) (portHeader_work s p)

/-- The copies that have left by a port. -/
def outOf (s : State) (p : Port) : List (List Byte) := if p = .a then s.ring.outA else s.ring.outB

theorem outOf_putOut (s : State) (p : Port) (b : List Byte) : (s.putOut p b).outOf p = s.outOf p ++ [b] := by cases p <;> rfl

theorem RingWork.outOf (h : RingWork s t) (p : Port) : t.outOf p = s.outOf p := by
  unfold State.outOf
  rw [h.outA, h.outB]

/-- The round that a copy belongs to, once the copy has come. -/
def roundEntered (s : State) (h : CopyHead) : State := if s.roundOk h then s.enterRound h else s

theorem roundEntered_step (s : State) (h : CopyHead) (hs : s.ringState = 1) : RingStep s (s.roundEntered h) := by
  unfold roundEntered
  split
  · exact enterRound_step s h hs
  · exact .refl s

/-- The header with which a copy leaves by the other port. -/
def headOn (s : State) (p : Port) (b : List Byte) (res : Nat) : CopyHead :=
  { headOf b with hops := (headOf b).hops + 1, dacc := (headOf b).dacc + s.portDelay p + res }

/-- The copy has left by the other port. -/
def copyLeft (s : State) (p : Port) (b : List Byte) (res : Nat) : State :=
  (s.roundEntered (headOf b)).putOut (otherPort p) (overwrite b 0 (sealHead (s.headOn p b res) true))

theorem passCopy_listen (s : State) (p : Port) (b : List Byte) (frac res : Nat) (hup : s.portUp (otherPort p) = true) (hs : s.ringState = 1) :
    s.passCopy p b frac res = if s.roundOk (headOf b) then (s.copyLeft p b res).notePass (headOf b) p (headOf b).wrapped (s.copyTime (headOf b) p frac)
      else (s.copyLeft p b res).noteTime (headOf b) p (s.copyTime (headOf b) p frac) := by
  have hexit : s.exitOf p = (otherPort p, false) := if_pos hup
  have hent := (roundEntered_step s (headOf b) hs).state
  have hnote : (if s.roundOk (headOf b) then (s.enterRound (headOf b)).noteHeader (headOf b) else s) = s.roundEntered (headOf b) := by
    unfold roundEntered at hent ⊢
    split
    · rename_i hok
      rw [if_pos hok] at hent
      exact if_neg (by omega)
    · rfl
  have hmine : (s.roundEntered (headOf b)).ringState ≠ 3 := by omega
  unfold passCopy copyLeft headOn
  dsimp only
  rw [hexit, hnote]
  simp only [beq_eq_false_iff_ne.2 hmine, Bool.false_and, Bool.or_false, Bool.false_eq_true, if_false]
  rfl

end State
end Sys2Proof.Machine

/-! A listening node's passage of a copy, a Reeve that finds another one, and the settling of the ring's rounds and copies (R267 to R283). -/

namespace Sys2Proof.Machine

set_option Elab.async false
namespace State

variable {s t u : State} {p : Port} {b : List Byte} {frac res : Nat}

theorem putOut_step (s : State) (p : Port) (b : List Byte) : RingStep s (s.putOut p b) := by
  cases p with
  | a => exact (RingStep.refl s).modRing (f := fun r => { r with outA := r.outA ++ [b] })
  | b => exact (RingStep.refl s).modRing (f := fun r => { r with outB := r.outB ++ [b] })

theorem copyLeft_step (s : State) (p : Port) (b : List Byte) (res : Nat) (hs : s.ringState = 1) : RingStep s (s.copyLeft p b res) :=
  (roundEntered_step s (headOf b) hs).trans (putOut_step ..)

theorem copyLeft_out (s : State) (p : Port) (b : List Byte) (res : Nat) :
    ((s.copyLeft p b res).outOf (otherPort p)).getLast? = some (overwrite b 0 (sealHead (s.headOn p b res) true)) := by
  unfold copyLeft
  rw [outOf_putOut]
  exact List.getLast?_concat

/-- A copy that passes a listening node: what it has left, and what it may move. -/
theorem passCopy_leaves (s : State) (p : Port) (b : List Byte) (frac res : Nat) (hup : s.portUp (otherPort p) = true) (hs : s.ringState = 1) :
    RingStep s (s.passCopy p b frac res) ∧
      ((s.passCopy p b frac res).outOf (otherPort p)).getLast? = some (overwrite b 0 (sealHead (s.headOn p b res) true)) ∧
      (s.roundOk (headOf b) = true → (s.passCopy p b frac res).get (hopsFld (headOf b)) = (headOf b).hops % 2 ^ 16) := by
  have hleft := copyLeft_step s p b res hs
  have hout := copyLeft_out s p b res
  rw [passCopy_listen s p b frac res hup hs]
  generalize s.copyLeft p b res = v at hleft hout
  have hv : v.ringState ≠ 3 := by
    have := hleft.state
    omega
  split
  case isTrue hok =>
    obtain ⟨f, hw⟩ := notePass_work v (headOf b) p (headOf b).wrapped (s.copyTime (headOf b) p frac) hv
    have hput : RingStep s ((v.modRound (BitVec.ofNat 32 (headOf b).round) f).put (hopsFld (headOf b)) (headOf b).hops) :=
      (hleft.modRing).hops (hopsFld_addr _) (hopsFld_fits _)
    refine ⟨hput.trans hw.step, ?_, fun _ => ?_⟩
    · rw [hw.outOf, State.outOf, put_ring]
      exact hout
    · rw [hw.writes.get (by rw [hopsFld_addr]; exact fun h => h.2 rfl), get_put_same _ _ _ (hopsFld_fits _), hopsFld_width]
  case isFalse hok =>
    have hw := noteTime_work v (headOf b) p (s.copyTime (headOf b) p frac)
    exact ⟨hleft.trans hw.step, by rw [hw.outOf]; exact hout, fun h => absurd h hok⟩

theorem copyPassage_listens (s : State) (p : Port) (b : List Byte) (frac res : Nat) (hrests : s.policyRests) (hring : s.ringRuns = true)
    (ha : s.portUp .a = true) (hb : s.portUp .b = true) (hs : s.ringState = 1) (hok : headOk b = true) :
    Completes (.copyPassage p b frac res) s fun t =>
      (if p = .a then t.ring.outB else t.ring.outA).getLast? = some (overwrite b 0 (sealHead { headOf b with
        hops := (headOf b).hops + 1, dacc := (headOf b).dacc + s.portDelay p + max 922 (min 1024 res) } true)) ∧
      (s.roundOk (headOf b) = true →
        t.get (if (headOf b).copyB then F.RING_HOPS_HOPS_B else F.RING_HOPS_HOPS_A) = (headOf b).hops % 2 ^ F.RING_HOPS_HOPS_A.width) ∧
      t.clk.count = s.clk.count ∧ t.clk.fine = s.clk.fine ∧ t.loom = s.loom := by
  have hup : ∀ q, s.portUp q = true := fun q => by cases q <;> assumption
  have heq : s.copyPassage p b frac res = s.passCopy p b (frac % 64) (max 922 (min 1024 res)) := by
    rw [copyPassage_eq hring (hup p), hok, if_neg (by decide), if_neg (by omega)]
  obtain ⟨hstep, hout, hhops⟩ := passCopy_leaves s p b (frac % 64) (max 922 (min 1024 res)) (hup _) hs
  rw [← heq] at hstep hout hhops
  have hpol : Moves [.sys] (s.copyPassage p b frac res) (s.policyAfter (·.copyPassage p b frac res)) :=
    policyAfter_rests (f := (·.copyPassage p b frac res)) hrests (mode_of_rd (hstep.writes.rd (by decide))) (hstep.writes.rd (by decide))
  obtain ⟨x, hclk⟩ := hstep.moves.clockKept
  have hclk' : (s.policyAfter (·.copyPassage p b frac res)).clk = { s.clk with rtcSub := x } := hpol.clk.trans hclk
  refine ⟨s.policyAfter (·.copyPassage p b frac res), rfl, ?_, fun h => (get_congr hpol.regs _).trans (hhops h), by rw [hclk'], by rw [hclk'],
    hpol.loom.trans hstep.moves.loom⟩
  rw [hpol.ring]
  cases p <;> exact hout

/-! ### A Reeve that hears a Reeve of a lower slot (R279) -/

/-- The registers that a node's return to LISTEN writes. -/
def listenRegs (a : Nat) : Prop := a = R.RING_STAT ∨ a = R.RING_GEN ∨ a = R.CLK_STAT ∨ 0x40100000 ≤ a

theorem ringUnlock_writes (s : State) : s.Writes listenRegs s.ringUnlock := by
  unfold ringUnlock
  have hclr : s.Writes listenRegs ((s.clr F.RING_STAT_LOCKED).modRing (fun r => { r with inWin := 0 })) :=
    .modRing (.clr (.refl s) (f := F.RING_STAT_LOCKED) (.inl rfl))
  have hvoid : s.Writes listenRegs (((s.clr F.RING_STAT_LOCKED).modRing (fun r => { r with inWin := 0 })).void .ring true (s.get F.RING_RND_CAR)
    (s.valleyStamp (s.get F.RING_RND_CAR))) := hclr.void fun b hb => .inr (.inr (.inr hb))
  exact .ite (hvoid.trans (ringEvent_writes _ 0xC5 .warn)) (.refl s)

theorem ringUnlock_moves (s : State) : Moves ringParts s s.ringUnlock := by
  by_cases h : s.on F.RING_STAT_LOCKED = true
  · exact ringUnlock_eq h ▸ ringUnlocked_moves s
  · rw [show s.ringUnlock = s from if_neg h]
    exact .refl s

theorem ringUnlock_locked (s : State) : s.ringUnlock.on F.RING_STAT_LOCKED = false := by
  by_cases h : s.on F.RING_STAT_LOCKED = true
  · exact ringUnlock_eq h ▸ ringUnlocked_locked s
  · rw [show s.ringUnlock = s from if_neg h]
    exact Bool.eq_false_iff.2 h

/-- The node unlocked, no longer following the Reeve, with FINE at 0. -/
def ringReleased (s : State) : State := s.ringUnlock.discStops.fineZero

theorem ringReleased_writes (s : State) : s.Writes listenRegs s.ringReleased := by
  have h : s.Writes listenRegs s.ringUnlock.discStops := (ringUnlock_writes s).clr (f := F.CLK_STAT_DISC_ACTIVE) (.inr (.inr (.inl rfl)))
  exact h.regs rfl

theorem ringReleased_loom (s : State) : s.ringReleased.loom = s.loom := (clr_loom s.ringUnlock F.CLK_STAT_DISC_ACTIVE).trans (ringUnlock_moves s).loom

theorem ringReleased_sys (s : State) : s.ringReleased.sys = s.sys := (clr_sys s.ringUnlock F.CLK_STAT_DISC_ACTIVE).trans (ringUnlock_moves s).sys

theorem ringReleased_clk (s : State) : ∃ x, s.ringReleased.clk = { s.clk with fine := 0, rtcSub := x } := by
  obtain ⟨x, hx⟩ := (ringUnlock_moves s).clockKept
  refine ⟨x, ?_⟩
  show { s.ringUnlock.discStops.clk with fine := 0 } = _
  have hclk : s.ringUnlock.discStops.clk = s.ringUnlock.clk := clr_clk ..
  rw [hclk, hx]

theorem ringReleased_locked (s : State) : s.ringReleased.on F.RING_STAT_LOCKED = false := by
  have hd : s.ringReleased.on F.RING_STAT_LOCKED = s.ringUnlock.on F.RING_STAT_LOCKED :=
    (on_congr rfl _).trans (on_put_other s.ringUnlock F.CLK_STAT_DISC_ACTIVE F.RING_STAT_LOCKED 0 (by decide) (.inl (by decide)))
  exact hd.trans (ringUnlock_locked s)

/-- The node's registers as those of a listening node. -/
def listenShown (s : State) : State := ((s.put F.RING_STAT_STATE 1).wr R.RING_GEN 0).put F.RING_STAT_NODES 0

theorem listenShown_writes (s : State) : s.Writes listenRegs s.listenShown :=
  .put (.wr (.put (.refl s) (f := F.RING_STAT_STATE) (.inl rfl)) (.inr (.inl rfl))) (f := F.RING_STAT_NODES) (.inl rfl)

theorem listenShown_moves (s : State) : Moves [.regs, .cycle] s s.listenShown := .put (.wr (.put (.refl s)))

theorem listenShown_state (s : State) : s.listenShown.ringState = 1 := by
  unfold listenShown ringState
  rw [get_put_other _ F.RING_STAT_NODES F.RING_STAT_STATE 0 (by decide) (.inr (by decide)), State.get, rd_wr, if_neg (by decide)]
  exact get_put_same s F.RING_STAT_STATE 1 (by decide)

theorem listenShown_locked (s : State) : s.listenShown.on F.RING_STAT_LOCKED = s.on F.RING_STAT_LOCKED := by
  unfold listenShown
  rw [on_put_other _ F.RING_STAT_NODES F.RING_STAT_LOCKED 0 (by decide) (.inr (by decide)),
    on_of_rd (t := (s.put F.RING_STAT_STATE 1).wr R.RING_GEN 0) (s := s.put F.RING_STAT_STATE 1) ((rd_wr ..).trans (if_neg (by decide)))]
  exact on_put_other s F.RING_STAT_STATE F.RING_STAT_LOCKED 1 (by decide) (.inr (by decide))

theorem listenShown_gen (s : State) : s.listenShown.rd R.RING_GEN = 0 := by
  unfold listenShown
  rw [rd_put_other _ F.RING_STAT_NODES 0 R.RING_GEN (by decide), rd_wr, if_pos rfl]

/-- The ring's record of a node that has gone back to LISTEN. -/
def listenRing (r : Ring) : Ring := { r with
  liveOk := false, nextGen := 0, chunks := [], halves := [], members := [], announcedIn := none, leaving := false
  cur := none, done := [], issueDue := false, inWin := 0, outWin := 0, noHeader := 0, wasLocked := false, slewWatch := false }

theorem ringListen_eq (s : State) : s.ringListen = s.ringReleased.listenShown.modRing listenRing := rfl

theorem copyPassage_dupReeve (s : State) (p : Port) (b : List Byte) (frac res : Nat) (hrests : s.policyRests) (hring : s.ringRuns = true)
    (hup : s.portUp p = true) (hs : s.ringState = 4) (hok : headOk b = true) (hslot : (headOf b).issuer < s.ringSlot) :
    Completes (.copyPassage p b frac res) s fun t =>
      t.ringState = 1 ∧ t.on F.RING_ERR_DUP_REEVE = true ∧ t.rd R.RING_GEN = 0 ∧ t.on F.RING_STAT_LOCKED = false ∧
      t.ring.members = [] ∧ t.clk.count = s.clk.count ∧ t.clk.fine = 0 ∧ t.loom = s.loom := by
  generalize hv : s.set1 F.RING_ERR_DUP_REEVE = v
  have heq : s.copyPassage p b frac res = v.ringReleased.listenShown.modRing listenRing := by
    rw [copyPassage_eq hring hup, hok, if_neg (by decide), if_pos hs, ← ringListen_eq, ← hv]
    exact if_pos hslot
  have hrel := ringReleased_writes v
  have hshow := listenShown_writes v.ringReleased
  have hw := hrel.trans hshow
  have hdup : v.on F.RING_ERR_DUP_REEVE = true := hv ▸ on_set1_same s F.RING_ERR_DUP_REEVE (by decide) (by decide)
  have hset : s.Writes (· = R.RING_ERR) v := hv ▸ Writes.set1 (.refl s) (f := F.RING_ERR_DUP_REEVE) rfl
  have hregs : (s.copyPassage p b frac res).regs = v.ringReleased.listenShown.regs := heq ▸ rfl
  have hrd : ∀ a, ¬ listenRegs a → (s.copyPassage p b frac res).rd a = v.rd a := fun a ha => (rd_congr hregs a).trans (hw.rd ha)
  have hmode : (s.copyPassage p b frac res).rd R.SYS_MODE = s.rd R.SYS_MODE :=
    (hrd _ (by simp only [listenRegs]; decide)).trans (hset.rd (by decide))
  have hltr : (s.copyPassage p b frac res).rd R.SYS_LTR = s.rd R.SYS_LTR :=
    (hrd _ (by simp only [listenRegs]; decide)).trans (hset.rd (by decide))
  have hpol : Moves [.sys] (s.copyPassage p b frac res) (s.policyAfter (·.copyPassage p b frac res)) :=
    policyAfter_rests (f := (·.copyPassage p b frac res)) hrests (mode_of_rd hmode) hltr
  have hregs' := hpol.regs.trans hregs
  have hm := listenShown_moves v.ringReleased
  obtain ⟨x, hclk⟩ := ringReleased_clk v
  have hclk' : (s.policyAfter (·.copyPassage p b frac res)).clk = { s.clk with fine := 0, rtcSub := x } := by
    have hvclk : v.clk = s.clk := hv ▸ set1_clk ..
    rw [hpol.clk, heq, modRing_clk, hm.clk, hclk, hvclk]
  refine ⟨s.policyAfter (·.copyPassage p b frac res), rfl, ?_, ?_, ?_, ?_, ?_, by rw [hclk'], by rw [hclk'], ?_⟩
  · exact (get_congr hregs' _).trans (listenShown_state _)
  · exact (on_congr hregs' _).trans ((hw.on (by simp only [listenRegs]; decide)).trans hdup)
  · exact (rd_congr hregs' _).trans (listenShown_gen _)
  · exact (on_congr hregs' _).trans ((listenShown_locked _).trans (ringReleased_locked v))
  · rw [hpol.ring, heq]
    rfl
  · have hvloom : v.loom = s.loom := hv ▸ set1_loom ..
    rw [hpol.loom, heq, modRing_loom, hm.loom, ringReleased_loom, hvloom]

end State

/-- Settles O29: rounds are issued, ended and delivered by the ring's work, and a copy that passes leaves all else. -/
theorem ringRoundsAndCopies : Obligations.RingRoundsAndCopies :=
  ⟨fun s hr hs hd hc => State.roundIssue_gives s hr hs hd hc,
   fun s hr hl hn => State.insertionLatch_gives s hr hl hn,
   fun s r rest d hp hr hl hc hn hd hd' hdue => State.roundDelivery_gives s r rest d hp hr hl hc hn hd hd' hdue,
   fun s hc hr hoff hcase => State.ringLockGain_gives s hc hr hoff hcase,
   fun s hc hl hcase => State.ringLockLoss_gives s hc hl hcase,
   fun s p b frac res hp hr hu hb => State.copyPassage_badHead s p b frac res hp hr hu hb,
   fun s p b frac res hp hr ha hb hs hok => State.copyPassage_listens s p b frac res hp hr ha hb hs hok,
   fun s p b frac res hp hr hu hs hok hslot => State.copyPassage_dupReeve s p b frac res hp hr hu hs hok hslot⟩

end Sys2Proof.Machine

/-! Messages between neighbours, and those of a knocking node (R274, R277, R280). -/

namespace Sys2Proof.Machine

set_option Elab.async false
namespace State

variable {s t u : State} {p : Port}

/-! ### Arrival and what is passed on (R274) -/

theorem ringMessage_eq (hring : s.ringRuns = true) (hup : s.portUp p = true) (f : State → State) : s.ringMessage ⟨p, true⟩ f = f s := by
  have hguard : (!s.ringRuns || !s.portUp p) = false := by rw [hring, hup]; rfl
  exact (if_neg (by rw [hguard]; decide)).trans (if_pos rfl)

theorem ringMessage_bad (hring : s.ringRuns = true) (hup : s.portUp p = true) (f : State → State) :
    s.ringMessage ⟨p, false⟩ f = s.set1 F.RING_ERR_HDR_CRC := by
  have hguard : (!s.ringRuns || !s.portUp p) = false := by rw [hring, hup]; rfl
  exact (if_neg (by rw [hguard]; decide)).trans (if_neg Bool.false_ne_true)

theorem ringPut_nil (s : State) : s.ringPut [] = s := by
  show { s with ring := { s.ring with sent := s.ring.sent ++ [] } } = s
  rw [List.append_nil]

/-- The Reeve passes nothing on. -/
theorem ringTakes_reeve (hs : s.ringState = 4) (via : Arrival) (m : RingMsg) (f : State → State) : s.ringTakes via m f = f s := by
  have hrel : s.relayed via.port m = [] := if_neg fun h => h.1 hs
  unfold ringTakes
  rw [hrel]
  exact ringPut_nil (f s)

/-- What a node sends of its own depends on its ports alone. -/
theorem onRings_of_rd (hc : t.rd R.RING_CTRL = s.rd R.RING_CTRL) (hst : t.rd R.RING_STAT = s.rd R.RING_STAT) (m : RingMsg) : t.onRings m = s.onRings m := by
  have hup : t.portUp = s.portUp := by
    funext p
    unfold portUp portOn
    cases p <;> simp only [on_of_rd (f := F.RING_CTRL_EN_A) hc, on_of_rd (f := F.RING_CTRL_EN_B) hc, on_of_rd (f := wrapFld .a) hst,
      on_of_rd (f := wrapFld .b) hst]
  unfold onRings
  rw [hup]

/-! ### PROBE and ECHO (R280) -/

theorem probe_answered (s : State) (p : Port) (u : Nat) (hring : s.ringRuns = true) (hup : s.portUp p = true) :
    Completes (.probe p true u) s fun t => t.ring.sent = s.ring.sent ++ [(p, .echo u)] ∧ t.regs = s.regs ∧ t.clk = s.clk ∧ t.events = s.events :=
  ⟨_, congrArg Host.Outcome.next (ringMessage_eq hring hup _), rfl, rfl, rfl, rfl⟩

theorem probe_flagged (s : State) (p : Port) (u : Nat) (hring : s.ringRuns = true) (hup : s.portUp p = true) :
    Completes (.probe p false u) s fun t =>
      t.ring = s.ring ∧ t.on F.RING_ERR_HDR_CRC = true ∧ (∀ a, a ≠ R.RING_ERR → t.rd a = s.rd a) ∧ t.clk = s.clk :=
  ⟨_, congrArg Host.Outcome.next (ringMessage_bad hring hup _), set1_ring .., on_set1_same s F.RING_ERR_HDR_CRC (by decide) (by decide),
    fun a ha => rd_put_other s F.RING_ERR_HDR_CRC 1 a ha, set1_clk ..⟩

theorem freshNeed_moves (s : State) : Moves [.regs, .cycle, .ring] s s.freshNeed := by
  unfold freshNeed
  exact .ite (.wr (.modRing (.refl s))) (.refl s)

theorem freshNeed_writes (s : State) : s.Writes (· = R.RING_TNEED) s.freshNeed := by
  unfold freshNeed
  exact .ite (.wr (.modRing (.refl s)) rfl) (.refl s)

/-- T_need is shown anew, and nothing else of the ring's record changes. -/
theorem freshNeed_ring (s : State) : ∃ x, s.freshNeed.ring = { s.ring with next := x } := by
  unfold freshNeed
  split
  · exact ⟨_, wr_ring ..⟩
  · exact ⟨s.ring.next, rfl⟩

/-- A port's asymmetry, its stored link delays, and the register that shows their mean. -/
def asymOf (s : State) : Port → Int
  | .a => s.getI F.RING_ASYMA_ASYM
  | .b => s.getI F.RING_ASYMB_ASYM
def dinsOf (r : Ring) : Port → List Rat
  | .a => r.dinsA
  | .b => r.dinsB
def withDins (r : Ring) (l : List Rat) : Port → Ring
  | .a => { r with dinsA := l }
  | .b => { r with dinsB := l }
def delayReg : Port → Nat
  | .a => R.RING_DLYA
  | .b => R.RING_DLYB

/-- The link delays of a port with the one that a round trip has just given. -/
def delaysWith (s : State) (p : Port) (r u : Nat) : List Rat :=
  ((((r : Rat) - (u : Rat)) / 2 + (s.asymOf p : Rat)) :: dinsOf s.ring p).take s.ringDepth

/-- The new mean as the port's register shows it. -/
def delayShown (s : State) (p : Port) (l : List Rat) : State :=
  (s.modRing (withDins · l p)).wr (delayReg p) (BitVec.ofNat 32 (wholeMean (meanOf l)).toNat)

theorem ringEcho_eq (s : State) (p : Port) (r u : Nat) : s.ringEcho p r u = (s.delayShown p (s.delaysWith p r u)).freshNeed := by cases p <;> rfl

theorem delayReg_ne (p : Port) : delayReg p ≠ R.RING_TNEED := by cases p <;> decide

theorem echo_shown (s : State) (p : Port) (r u : Nat) (hring : s.ringRuns = true) (hup : s.portUp p = true) :
    Completes (.echo p true r u) s fun t =>
      (∃ x, t.ring = { withDins s.ring (s.delaysWith p r u) p with next := x }) ∧
      t.rd (delayReg p) = BitVec.ofNat 32 (wholeMean (meanOf (s.delaysWith p r u))).toNat ∧
      (∀ a, a ≠ delayReg p → a ≠ R.RING_TNEED → t.rd a = s.rd a) ∧ t.clk = s.clk := by
  have hexec : exec (.echo p true r u) s = .next _ := congrArg Host.Outcome.next ((ringMessage_eq hring hup _).trans (ringEcho_eq s p r u))
  generalize s.delaysWith p r u = l at *
  have hw := freshNeed_writes (s.delayShown p l)
  have hrd : ∀ a, (s.delayShown p l).rd a = if a = delayReg p then BitVec.ofNat 32 (wholeMean (meanOf l)).toNat else s.rd a := fun a => rd_wr ..
  obtain ⟨x, hx⟩ := freshNeed_ring (s.delayShown p l)
  have hr : (s.delayShown p l).ring = withDins s.ring l p := wr_ring ..
  refine ⟨_, hexec, ⟨x, by rw [hx, hr]⟩, ?_, fun a h1 h2 => (hw.rd h2).trans ((hrd a).trans (if_neg h1)), ?_⟩
  · rw [hw.rd (delayReg_ne p), hrd, if_pos rfl]
  · exact (freshNeed_moves _).clk.trans (wr_clk ..)

theorem echo_measuredA (s : State) (r u : Nat) (hring : s.ringRuns = true) (hup : s.portUp .a = true) :
    Completes (.echo .a true r u) s fun t =>
      (t.ring.dinsA = ((((r : Rat) - (u : Rat)) / 2 + (s.getI F.RING_ASYMA_ASYM : Rat)) :: s.ring.dinsA).take s.ringDepth ∧
        t.ring.dinsB = s.ring.dinsB ∧ t.rd R.RING_DLYA = BitVec.ofNat 32 (wholeMean (meanOf t.ring.dinsA)).toNat ∧
        t.rd R.RING_DLYB = s.rd R.RING_DLYB) ∧
      (∀ a, a ≠ R.RING_DLYA → a ≠ R.RING_DLYB → a ≠ R.RING_TNEED → t.rd a = s.rd a) ∧ t.clk = s.clk := by
  obtain ⟨t, hexec, ⟨x, hx⟩, hdly, hrd, hclk⟩ := echo_shown s .a r u hring hup
  refine ⟨t, hexec, ⟨by rw [hx]; rfl, by rw [hx]; rfl, ?_, hrd _ (by decide) (by decide)⟩, fun a h1 _ h3 => hrd a h1 h3, hclk⟩
  rw [hx]
  exact hdly

theorem echo_measuredB (s : State) (r u : Nat) (hring : s.ringRuns = true) (hup : s.portUp .b = true) :
    Completes (.echo .b true r u) s fun t =>
      (t.ring.dinsB = ((((r : Rat) - (u : Rat)) / 2 + (s.getI F.RING_ASYMB_ASYM : Rat)) :: s.ring.dinsB).take s.ringDepth ∧
        t.ring.dinsA = s.ring.dinsA ∧ t.rd R.RING_DLYB = BitVec.ofNat 32 (wholeMean (meanOf t.ring.dinsB)).toNat ∧
        t.rd R.RING_DLYA = s.rd R.RING_DLYA) ∧
      (∀ a, a ≠ R.RING_DLYA → a ≠ R.RING_DLYB → a ≠ R.RING_TNEED → t.rd a = s.rd a) ∧ t.clk = s.clk := by
  obtain ⟨t, hexec, ⟨x, hx⟩, hdly, hrd, hclk⟩ := echo_shown s .b r u hring hup
  refine ⟨t, hexec, ⟨by rw [hx]; rfl, by rw [hx]; rfl, ?_, hrd _ (by decide) (by decide)⟩, fun a _ h2 h3 => hrd a h2 h3, hclk⟩
  rw [hx]
  exact hdly

/-! ### LINKS and REFUSE (R274, R277) -/

theorem links_told (s : State) (slot : Fin 1024) (dinA dinB : Nat) (p : Port) (hring : s.ringRuns = true) (hup : s.portUp p = true) (hs : s.ringState = 4) :
    Completes (.links ⟨p, true⟩ slot dinA dinB) s fun t =>
      t.ring.members = s.ring.members.map (fun m => if m.slot = slot.val then { m with dinA := dinA, dinB := dinB } else m) ∧
      (∀ a, a ≠ R.RING_TNEED → t.rd a = s.rd a) ∧ t.clk = s.clk := by
  let told := fun (m : RingMember) => if m.slot = slot.val then { m with dinA := dinA, dinB := dinB } else m
  have heq : s.ringLinks slot dinA dinB =
      (s.modRing (fun r => { r with members := r.members.map told, liveMembers := r.liveMembers.map told })).freshNeed := if_pos hs
  have hexec : exec (.links ⟨p, true⟩ slot dinA dinB) s = .next _ := congrArg Host.Outcome.next ((ringMessage_eq hring hup _).trans
    ((ringTakes_reeve hs ⟨p, true⟩ (.links slot dinA dinB) (·.ringLinks slot dinA dinB)).trans heq))
  obtain ⟨x, hx⟩ := freshNeed_ring (s.modRing (fun r => { r with members := r.members.map told, liveMembers := r.liveMembers.map told }))
  refine ⟨_, hexec, ?_, fun a ha => (freshNeed_writes _).rd ha, (freshNeed_moves _).clk⟩
  rw [hx]
  rfl

theorem refuse_heard (s : State) (why : Nat) (p : Port) (hruns : s.coreRuns = true) (hring : s.ringRuns = true) (hup : s.portUp p = true) (hs : s.ringState = 2) :
    Completes (.refuse ⟨p, true⟩ s.uid why) s fun t =>
      t.ringState = 1 ∧ t.get F.RING_STAT_REFUSE = why % 8 ∧ t.on F.RING_ERR_REFUSED = true ∧ s.sent t 0xC2 ∧
      (∀ a, a ≠ R.RING_STAT → a ≠ R.RING_ERR → t.rd a = s.rd a) ∧ s.clockKept t := by
  generalize hv : ((s.put F.RING_STAT_STATE 1).put F.RING_STAT_REFUSE why).set1 F.RING_ERR_REFUSED = v
  have heq : s.ringRefuse s.uid why = v.ringEvent 0xC2 .info := by
    rw [← hv]
    exact if_pos ⟨hs, rfl⟩
  have hw : s.Writes (fun a => a = R.RING_STAT ∨ a = R.RING_ERR) v :=
    hv ▸ .put (.put (.put (.refl s) (f := F.RING_STAT_STATE) (.inl rfl)) (f := F.RING_STAT_REFUSE) (.inl rfl)) (f := F.RING_ERR_REFUSED) (.inr rfl)
  have hm : Moves [.regs, .cycle] s v := hv ▸ .put (.put (.put (.refl s)))
  have hev := ringEvent_moves v 0xC2 .info
  have hevw := ringEvent_writes v 0xC2 .info (P := fun _ => False)
  have hsent : s.sent (v.ringEvent 0xC2 .info) 0xC2 := sent_ringEvent ((coreRuns_of_writes hw hm.sys (by decide)).trans hruns) hm.clk 0xC2 .info
  refine ⟨_, congrArg Host.Outcome.next ((ringMessage_eq hring hup _).trans (congrArg (fun x => State.ringPut x _) heq)), ?_, ?_, ?_, ?_, fun a h1 h2 => ?_, ?_⟩
  · refine (get_congr rfl _).trans ((hevw.get id).trans ?_)
    rw [← hv, get_set1_other _ F.RING_ERR_REFUSED F.RING_STAT_STATE (by decide) (.inl (by decide)),
      get_put_other _ F.RING_STAT_REFUSE F.RING_STAT_STATE why (by decide) (.inr (by decide))]
    exact get_put_same s F.RING_STAT_STATE 1 (by decide)
  · refine (get_congr rfl _).trans ((hevw.get id).trans ?_)
    rw [← hv, get_set1_other _ F.RING_ERR_REFUSED F.RING_STAT_REFUSE (by decide) (.inl (by decide))]
    exact get_put_same _ F.RING_STAT_REFUSE why (by decide)
  · refine (on_congr rfl _).trans ((hevw.on id).trans ?_)
    rw [← hv]
    exact on_set1_same _ F.RING_ERR_REFUSED (by decide) (by decide)
  · exact hsent.of_events rfl
  · exact (rd_congr rfl a).trans ((hevw.rd id).trans (hw.rd (not_or.2 ⟨h1, h2⟩)))
  · exact clockKept_trans ⟨s.clk.rtcSub, hm.clk⟩ (Moves.modRing (A := ringParts) (hev.mono (by decide))).clockKept

end State
end Sys2Proof.Machine

/-! KNOCK and LEAVE at the Reeve (R275, R277, R278). -/

namespace Sys2Proof.Machine

set_option Elab.async false
namespace State

variable {s t u : State} {p : Port}

/-! ### Announcements (R275) -/

/-- A generation as announced: its number, its layout, its members and the round it takes effect at. -/
def announcedAs (s : State) (g : Nat) (x : Layout) (ms : List RingMember) (at_ : BitVec 16) : State :=
  (s.put F.RING_GEN_NGEN g).modRing (fun r => { r with
    next := x, nextGen := g, members := ms, announcedIn := some r.round, sendNext := 0, nextAt := at_ })

theorem announce_eq (s : State) (roster : WordStore) (ms : List RingMember) : ∃ g x at_, s.announce roster ms = s.announcedAs g x ms at_ := ⟨_, _, _, rfl⟩

theorem announce_moves (s : State) (roster : WordStore) (ms : List RingMember) : Moves [.regs, .cycle, .ring] s (s.announce roster ms) := by
  obtain ⟨g, x, at_, h⟩ := announce_eq s roster ms
  rw [h]
  exact .modRing (.put (.refl s))

theorem announce_writes (s : State) (roster : WordStore) (ms : List RingMember) : s.Writes (· = R.RING_GEN) (s.announce roster ms) := by
  obtain ⟨g, x, at_, h⟩ := announce_eq s roster ms
  rw [h]
  exact Writes.modRing (P := (· = R.RING_GEN)) (.put (.refl s) (f := F.RING_GEN_NGEN) rfl)

theorem announce_gen (s : State) (roster : WordStore) (ms : List RingMember) : (s.announce roster ms).get F.RING_GEN_GEN = s.get F.RING_GEN_GEN := by
  obtain ⟨g, x, at_, h⟩ := announce_eq s roster ms
  rw [h]
  exact (get_congr rfl _).trans (get_put_other s F.RING_GEN_NGEN F.RING_GEN_GEN g (by decide) (.inr (by decide)))

/-- Of the ring's record an announcement keeps what is to be sent and the live layout, and names the new members. -/
theorem announce_ring (s : State) (roster : WordStore) (ms : List RingMember) :
    (s.announce roster ms).ring.members = ms ∧ (s.announce roster ms).ring.sent = s.ring.sent ∧ (s.announce roster ms).ring.live = s.ring.live := by
  obtain ⟨g, x, at_, h⟩ := announce_eq s roster ms
  have hput : (s.put F.RING_GEN_NGEN g).ring = s.ring := put_ring ..
  rw [h]
  exact ⟨rfl, congrArg (·.sent) hput, congrArg (·.live) hput⟩

theorem announce_members (s : State) (roster : WordStore) (ms : List RingMember) : (s.announce roster ms).ring.members = ms := (announce_ring s roster ms).1
theorem announce_sent (s : State) (roster : WordStore) (ms : List RingMember) : (s.announce roster ms).ring.sent = s.ring.sent := (announce_ring s roster ms).2.1
theorem announce_live (s : State) (roster : WordStore) (ms : List RingMember) : (s.announce roster ms).ring.live = s.ring.live := (announce_ring s roster ms).2.2

theorem announce_coreRuns (s : State) (roster : WordStore) (ms : List RingMember) : (s.announce roster ms).coreRuns = s.coreRuns :=
  coreRuns_of_writes (announce_writes s roster ms) (announce_moves s roster ms).sys (by decide)

/-- A message of the node's own leaves what a port needs as it is. -/
theorem announce_onRings (s : State) (roster : WordStore) (ms : List RingMember) (m : RingMsg) : (s.announce roster ms).onRings m = s.onRings m :=
  onRings_of_rd ((announce_writes s roster ms).rd (by decide)) ((announce_writes s roster ms).rd (by decide)) m

/-! ### KNOCK (R277) -/

/-- The Reeve has heard a knock: event 0xC0, and the knock counts as answered in this gap. -/
def knockHeard (s : State) (uid : Dword) : State := (s.raise 0xC0).modRing (fun r => { r with answered := r.answered ++ [uid] })

theorem knockHeard_moves (s : State) (uid : Dword) : Moves [.ring, .events, .stew] s (s.knockHeard uid) := .modRing (.raise (.refl s))
theorem knockHeard_regs (s : State) (uid : Dword) : (s.knockHeard uid).regs = s.regs := (knockHeard_moves s uid).regs
theorem knockHeard_ring (s : State) (uid : Dword) : (s.knockHeard uid).ring = { s.ring with answered := s.ring.answered ++ [uid] } := by
  show { (s.raise 0xC0).ring with answered := (s.raise 0xC0).ring.answered ++ [uid] } = _
  rw [raise_ring]
theorem knockHeard_sent (uid : Dword) (hruns : s.coreRuns = true) : s.sent (s.knockHeard uid) 0xC0 := (sent_raise hruns rfl 0xC0).of_events rfl
theorem knockHeard_coreRuns (s : State) (uid : Dword) : (s.knockHeard uid).coreRuns = s.coreRuns :=
  coreRuns_of_rd (knockHeard_moves s uid).sys (rd_congr (knockHeard_regs s uid) _)
theorem knockHeard_onRings (s : State) (uid : Dword) (m : RingMsg) : (s.knockHeard uid).onRings m = s.onRings m :=
  onRings_of_rd (rd_congr (knockHeard_regs s uid) _) (rd_congr (knockHeard_regs s uid) _) m

/-- A knock that a reason turns away. -/
def knockRefused (s : State) (uid : Dword) (why : Nat) : State := ((s.knockHeard uid).ringSend (.refuse uid why)).ringEvent 0xC2 .info

/-- The generation with the knocking node in it, announced. -/
def knockTaken (s : State) (m : RingMember) (pos : Nat) : State :=
  (s.knockHeard m.uid).announce s.ring.next.roster (s.ring.members.take pos ++ [m] ++ s.ring.members.drop pos)

/-- A knock that is admitted. -/
def knockAdmitted (s : State) (m : RingMember) (pos : Nat) : State :=
  ((s.knockTaken m pos).ringSend (.admitted m.uid m.slot ((s.knockTaken m pos).get F.RING_GEN_NGEN) (s.knockTaken m pos).ring.nextAt.toNat)).ringEvent 0xC1 .info

theorem ringKnock_eq {m : RingMember} {pos : Nat} {streams : List Word} {rper : Nat} (hs : s.ringState = 4) (hnew : ¬ m.uid ∈ s.ring.answered) :
    s.ringKnock m pos streams rper = match s.knockReason m pos streams rper with
      | some why => s.knockRefused m.uid why
      | none => s.knockAdmitted m pos := by
  unfold ringKnock
  rw [if_neg (fun h => h hs)]
  exact if_neg hnew

theorem exec_knock {uid : Dword} {slot : Fin 1024} {standby : Bool} {streams : List Word} {rper dinA dinB pos : Nat}
    (hring : s.ringRuns = true) (hup : s.portUp p = true) (hs : s.ringState = 4) :
    exec (.knock ⟨p, true⟩ uid slot standby streams rper dinA dinB pos) s =
      .next (s.ringKnock ⟨slot, uid, standby, streams.map rosterEntry, dinA, dinB, 0⟩ pos streams rper) :=
  congrArg Host.Outcome.next ((ringMessage_eq hring hup _).trans (ringTakes_reeve hs ..))

theorem ringSend_moves (s : State) (m : RingMsg) : Moves [.ring] s (s.ringSend m) := by
  unfold ringSend ringPut
  exact Moves.modRing (A := [.ring]) (.refl s)

theorem ringSend_coreRuns (s : State) (m : RingMsg) : (s.ringSend m).coreRuns = s.coreRuns := coreRuns_of_rd rfl rfl

theorem knock_admitted (s : State) (uid : Dword) (slot : Fin 1024) (standby : Bool) (streams : List Word) (rper dinA dinB pos : Nat) (p : Port)
    (hruns : s.coreRuns = true) (hring : s.ringRuns = true) (hup : s.portUp p = true) (hs : s.ringState = 4) (hnew : ¬ uid ∈ s.ring.answered)
    (hreason : s.knockReason ⟨slot, uid, standby, streams.map rosterEntry, dinA, dinB, 0⟩ pos streams rper = none) :
    Completes (.knock ⟨p, true⟩ uid slot standby streams rper dinA dinB pos) s fun t =>
      t.ring.members = s.ring.members.take pos ++ [⟨slot, uid, standby, streams.map rosterEntry, dinA, dinB, 0⟩] ++ s.ring.members.drop pos ∧
      (∃ at_, t.ring.sent = s.ring.sent ++ s.onRings (.admitted uid slot (t.get F.RING_GEN_NGEN) at_)) ∧ s.sent t 0xC0 ∧ s.sent t 0xC1 ∧ t.ring.live = s.ring.live ∧
      t.get F.RING_GEN_GEN = s.get F.RING_GEN_GEN ∧ (∀ a, a ≠ R.RING_GEN → t.rd a = s.rd a) ∧ s.clockKept t := by
  generalize hm : (⟨slot, uid, standby, streams.map rosterEntry, dinA, dinB, 0⟩ : RingMember) = m at hreason
  have huid : m.uid = uid := hm ▸ rfl
  have hslot : m.slot = slot := hm ▸ rfl
  have heq : exec (.knock ⟨p, true⟩ uid slot standby streams rper dinA dinB pos) s = .next (s.knockAdmitted m pos) := by
    rw [exec_knock hring hup hs, hm, ringKnock_eq hs (huid.symm ▸ hnew), hreason]
  have hwt : s.Writes (· = R.RING_GEN) (s.knockTaken m pos) := .trans (.of_regs (knockHeard_regs s m.uid)) (announce_writes _ _ _)
  have hmt : Moves [.regs, .cycle, .ring, .events, .stew] s (s.knockTaken m pos) :=
    .trans ((knockHeard_moves s m.uid).mono (by decide)) ((announce_moves ..).mono (by decide))
  have hgen : (s.knockTaken m pos).get F.RING_GEN_GEN = s.get F.RING_GEN_GEN := (announce_gen ..).trans (get_congr (knockHeard_regs s m.uid) _)
  have hmem : (s.knockTaken m pos).ring.members = s.ring.members.take pos ++ [m] ++ s.ring.members.drop pos := announce_members ..
  have hsentR : (s.knockTaken m pos).ring.sent = s.ring.sent := (announce_sent ..).trans (congrArg (·.sent) (knockHeard_ring s m.uid))
  have hlive : (s.knockTaken m pos).ring.live = s.ring.live := (announce_live ..).trans (congrArg (·.live) (knockHeard_ring s m.uid))
  have hon : ∀ x, (s.knockTaken m pos).onRings x = s.onRings x := fun x => (announce_onRings ..).trans (knockHeard_onRings s m.uid x)
  have hcore : (s.knockTaken m pos).coreRuns = true := (announce_coreRuns ..).trans ((knockHeard_coreRuns s m.uid).trans hruns)
  have hc0 : s.sent (s.knockTaken m pos) 0xC0 := (knockHeard_sent m.uid hruns).of_events (announce_moves ..).events
  refine ⟨_, heq, ?_⟩
  unfold knockAdmitted
  generalize s.knockTaken m pos = v at *
  generalize hmsg : RingMsg.admitted m.uid m.slot (v.get F.RING_GEN_NGEN) v.ring.nextAt.toNat = msg
  have hev := ringEvent_moves (v.ringSend msg) 0xC1 .info
  have hregs : ((v.ringSend msg).ringEvent 0xC1 .info).regs = v.regs := hev.regs
  have hr : ((v.ringSend msg).ringEvent 0xC1 .info).ring = { v.ring with sent := v.ring.sent ++ v.onRings msg } := hev.ring
  refine ⟨?_, ⟨v.ring.nextAt.toNat, ?_⟩, ?_, ?_, ?_, (get_congr hregs _).trans hgen, fun a ha => (rd_congr hregs a).trans (hwt.rd ha), ?_⟩
  · rw [hr]
    exact hmem
  · rw [hr, get_congr hregs, ← huid, ← hslot, hmsg]
    show v.ring.sent ++ v.onRings msg = _
    rw [hsentR, hon]
  · exact hc0.keeps fun e he => (EventsLast.log (.raise (.refl (v.ringSend msg)) 0xC1)) e he
  · exact sent_ringEvent ((ringSend_coreRuns v msg).trans hcore) ((ringSend_moves v msg).clk.trans hmt.clk) 0xC1 .info
  · rw [hr]
    exact hlive
  · exact clockKept_trans ⟨s.clk.rtcSub, hmt.clk⟩ hev.clockKept

theorem knockReason_slotTaken {m : RingMember} {pos : Nat} {streams : List Word} {rper : Nat}
    (h : m.slot = s.ringSlot ∨ (s.memberAt m.slot).isSome = true) : s.knockReason m pos streams rper = some 1 := by
  have hguard : m.slot = s.ringSlot ∨ s.ring.members.any (fun o => o.slot == m.slot) = true := by
    rcases h with h | h
    · exact .inl h
    · exact .inr (by rwa [memberAt, List.find?_isSome, ← List.any_eq_true] at h)
  exact if_pos hguard

theorem knock_refused (s : State) (uid : Dword) (slot : Fin 1024) (standby : Bool) (streams : List Word) (rper dinA dinB pos : Nat) (p : Port)
    (hruns : s.coreRuns = true) (hring : s.ringRuns = true) (hup : s.portUp p = true) (hs : s.ringState = 4) (hnew : ¬ uid ∈ s.ring.answered)
    (htaken : slot.val = s.ringSlot ∨ (s.memberAt slot).isSome = true) :
    Completes (.knock ⟨p, true⟩ uid slot standby streams rper dinA dinB pos) s fun t =>
      t.ring.sent = s.ring.sent ++ s.onRings (.refuse uid 1) ∧ s.sent t 0xC0 ∧ s.sent t 0xC2 ∧ t.ring.members = s.ring.members ∧ t.regs = s.regs ∧
      s.clockKept t := by
  generalize hm : (⟨slot, uid, standby, streams.map rosterEntry, dinA, dinB, 0⟩ : RingMember) = m
  have huid : m.uid = uid := hm ▸ rfl
  have hslot : m.slot = slot := hm ▸ rfl
  have heq : exec (.knock ⟨p, true⟩ uid slot standby streams rper dinA dinB pos) s = .next (s.knockRefused m.uid 1) := by
    rw [exec_knock hring hup hs, hm, ringKnock_eq hs (huid.symm ▸ hnew), knockReason_slotTaken (hslot.symm ▸ htaken)]
  have hmoves := knockHeard_moves s m.uid
  have hring' := knockHeard_ring s m.uid
  have hon := knockHeard_onRings s m.uid (.refuse m.uid 1)
  have hcore := (knockHeard_coreRuns s m.uid).trans hruns
  have hc0 := knockHeard_sent m.uid hruns
  refine ⟨_, heq, ?_⟩
  unfold knockRefused
  generalize s.knockHeard m.uid = v at *
  have hev := ringEvent_moves (v.ringSend (.refuse m.uid 1)) 0xC2 .info
  have hr : ((v.ringSend (.refuse m.uid 1)).ringEvent 0xC2 .info).ring = { v.ring with sent := v.ring.sent ++ v.onRings (.refuse m.uid 1) } := hev.ring
  refine ⟨?_, ?_, ?_, ?_, hev.regs.trans hmoves.regs, ?_⟩
  · rw [hr, hon, hring', huid]
  · exact hc0.keeps fun e he => (EventsLast.log (.raise (.refl (v.ringSend (.refuse m.uid 1))) 0xC2)) e he
  · exact sent_ringEvent ((ringSend_coreRuns v _).trans hcore) ((ringSend_moves v _).clk.trans hmoves.clk) 0xC2 .info
  · rw [hr, hring']
  · exact clockKept_trans ⟨s.clk.rtcSub, hmoves.clk⟩ hev.clockKept

theorem knock_passedOn (s : State) (uid : Dword) (slot : Fin 1024) (standby : Bool) (streams : List Word) (rper dinA dinB pos : Nat) (p : Port)
    (hring : s.ringRuns = true) (hup : s.portUp p = true) (hs : s.ringState ≠ 4) :
    Completes (.knock ⟨p, true⟩ uid slot standby streams rper dinA dinB pos) s fun t =>
      (s.portUp (otherPort p) = true →
        t.ring.sent = s.ring.sent ++ [(otherPort p, .knock uid slot (2 * bit1 standby) streams rper dinA dinB)]) ∧
      (s.portUp (otherPort p) = false → t.ring.sent = s.ring.sent) ∧ t.ring.members = s.ring.members ∧
      t.regs = s.regs ∧ t.clk = s.clk := by
  generalize hmsg : RingMsg.knock uid slot (2 * bit1 standby) streams rper dinA dinB = msg
  have hknock : s.ringKnock ⟨slot, uid, standby, streams.map rosterEntry, dinA, dinB, 0⟩ pos streams rper = s := if_pos hs
  have heq : exec (.knock ⟨p, true⟩ uid slot standby streams rper dinA dinB pos) s = .next (s.ringPut (s.relayed p msg)) := by
    refine congrArg Host.Outcome.next ((ringMessage_eq hring hup _).trans ?_)
    rw [← hmsg]
    exact congrArg (fun x => State.ringPut x _) hknock
  refine ⟨_, heq, fun h => ?_, fun h => ?_, rfl, rfl, rfl⟩
  · exact congrArg (s.ring.sent ++ ·) (if_pos ⟨hs, h⟩)
  · have hnone : s.relayed p msg = [] := if_neg fun hc => Bool.false_ne_true (h.symm.trans hc.2)
    rw [hnone, ringPut_nil]

/-! ### LEAVE (R278) -/

theorem judgeGeneration_moves (s : State) (x : Layout) (ms : List RingMember) : Moves [.rtc, .mram, .events, .stew, .draws] s (s.judgeGeneration x ms) := by
  unfold judgeGeneration
  exact .ite (.refl s) (.log (.refl s))

theorem leave_heard (s : State) (slot : Fin 1024) (p : Port) (hruns : s.coreRuns = true) (hring : s.ringRuns = true) (hup : s.portUp p = true)
    (hs : s.ringState = 4) (hmember : (s.memberAt slot).isSome = true) :
    Completes (.leave ⟨p, true⟩ slot) s fun t =>
      t.ring.members = s.ring.members.filter (fun m => m.slot != slot.val) ∧ t.memberAt slot = none ∧ s.sent t 0xC3 ∧
      t.get F.RING_GEN_GEN = s.get F.RING_GEN_GEN ∧ (∀ a, a ≠ R.RING_GEN → t.rd a = s.rd a) ∧ s.clockKept t := by
  generalize hv : s.announce s.ring.next.roster (s.ring.members.filter (fun m => m.slot != slot.val)) = v
  have hdrop : s.dropMember slot = (v.judgeGeneration v.ring.next v.ring.members).ringEvent 0xC3 .info := by
    rw [← hv]
    exact if_pos ⟨hs, hmember⟩
  have heq : exec (.leave ⟨p, true⟩ slot) s = .next ((v.judgeGeneration v.ring.next v.ring.members).ringEvent 0xC3 .info) :=
    congrArg Host.Outcome.next ((ringMessage_eq hring hup _).trans ((ringTakes_reeve hs ..).trans hdrop))
  have hmem : v.ring.members = s.ring.members.filter (fun m => m.slot != slot.val) := hv ▸ announce_members ..
  have hw : s.Writes (· = R.RING_GEN) v := hv ▸ announce_writes _ _ _
  have hm : Moves [.regs, .cycle, .ring] s v := hv ▸ announce_moves ..
  have hgen : v.get F.RING_GEN_GEN = s.get F.RING_GEN_GEN := hv ▸ announce_gen ..
  have hcore : v.coreRuns = true := (hv ▸ announce_coreRuns ..).trans hruns
  have hj := judgeGeneration_moves v v.ring.next v.ring.members
  generalize v.judgeGeneration v.ring.next v.ring.members = j at heq hj
  have hev := ringEvent_moves j 0xC3 .info
  have hring' : (j.ringEvent 0xC3 .info).ring.members = s.ring.members.filter (fun m => m.slot != slot.val) := by rw [hev.ring, hj.ring, hmem]
  have hregs : (j.ringEvent 0xC3 .info).regs = v.regs := hev.regs.trans hj.regs
  have hjk : s.clockKept j := clockKept_trans ⟨s.clk.rtcSub, hm.clk⟩ hj.clockKept
  refine ⟨_, heq, hring', ?_, ?_, (get_congr hregs _).trans hgen, fun a ha => (rd_congr hregs a).trans (hw.rd ha), clockKept_trans hjk hev.clockKept⟩
  · rw [memberAt, hring', List.find?_eq_none]
    intro m hm' hslot
    have := (List.mem_filter.1 hm').2
    simp_all
  · obtain ⟨x, hx⟩ := hjk
    have hsent : j.sent (j.ringEvent 0xC3 .info) 0xC3 := sent_ringEvent ((coreRuns_of_rd hj.sys (rd_congr hj.regs _)).trans hcore) rfl 0xC3 .info
    exact sent.of_kept (by rw [hx]) hsent

end State
end Sys2Proof.Machine

/-! The step of the timebase, and ADMIT to a knocking node (R33, R277). -/

namespace Sys2Proof.Machine

set_option Elab.async false
namespace State

variable {s t u : State} {p : Port}

/-! ### The step of the timebase (R33) -/

/-- The captures, the compare units, the carriers and the gate drivers: what a step of the timebase writes besides CLK_STAT. -/
def steppedRegs (b : Nat) : Prop := 0x40010100 ≤ b ∧ b < 0x40080000

theorem takeCapture_writes (s : State) {n : Nat} (hn : n < 8) : s.Writes steppedRegs (s.takeCapture n) :=
  .clr (.refl s) (f := F.CLK_CAPn_CTRL_VALID n) (by simp only [steppedRegs, R.CLK_CAPn_CTRL]; omega)

theorem cmpLate_writes (s : State) {n : Nat} (hn : n < 16) : s.Writes steppedRegs (s.cmpLate n) := by
  have ha : steppedRegs (R.CLK_CMPn_CTRL n) := by
    simp only [steppedRegs, R.CLK_CMPn_CTRL]
    omega
  unfold cmpLate
  exact .ite (.clr (.set1 (.refl s) (f := F.CLK_CMPn_CTRL_MISSED n) ha) (f := F.CLK_CMPn_CTRL_EN n) ha) (.refl s)

theorem cmpLate_moves (s : State) (n : Nat) : Moves [.regs, .cycle] s (s.cmpLate n) := by
  unfold cmpLate
  exact .ite (.put (.put (.refl s))) (.refl s)

theorem abandonWindows_moves (s : State) (c : Nat) : Moves [.prism] s (s.abandonWindows c) :=
  .forAll (.refl s) fun w u hu => .ite (.record hu (by rfl)) hu

/-- A carrier that waits anew, with its legs at rest. -/
def carrierRested (s : State) (c : Nat) : State :=
  (s.put (F.LOOM_CSTATc_STATE c) 1).forAll 24 (fun l u => if u.legCar l = c then u.restLeg l true else u)

theorem carrierWaits_eq (s : State) (c : Nat) : s.carrierWaits c =
    if s.carState c = 2 ∧ s.on (F.LOOM_CARc_SYNC c) then (s.carrierRested c).abandonWindows c else s := rfl

theorem carrierRested_moves (s : State) (c : Nat) : Moves [.regs, .cycle, .loom, .gdp] s (s.carrierRested c) :=
  .forAll (.put (.refl s)) fun l u hu => .ite (hu.trans (restLeg_moves u l true)) hu

theorem gateRegs_stepped {b : Nat} (h : inBlock 7 b) : steppedRegs b := by
  obtain ⟨h1, h2⟩ := h
  exact ⟨Nat.le_trans (by decide) h1, Nat.lt_of_lt_of_le h2 (by decide)⟩

theorem carrierRested_writes (s : State) {c : Nat} (hc : c < 8) : s.Writes steppedRegs (s.carrierRested c) := by
  have ha : steppedRegs (F.LOOM_CSTATc_STATE c).addr := by
    simp only [steppedRegs, R.LOOM_CSTATc]
    omega
  exact .forAll (.put (.refl s) ha) fun l u _ hu => .ite (hu.trans ((restLeg_writes u l true).mono fun _ => gateRegs_stepped)) hu

theorem carrierWaits_moves (s : State) (c : Nat) : Moves [.regs, .cycle, .loom, .gdp, .prism] s (s.carrierWaits c) := by
  rw [carrierWaits_eq]
  exact .ite (((carrierRested_moves s c).mono (by decide)).trans ((abandonWindows_moves _ c).mono (by decide))) (.refl s)

theorem carrierWaits_writes (s : State) {c : Nat} (hc : c < 8) : s.Writes steppedRegs (s.carrierWaits c) := by
  rw [carrierWaits_eq]
  exact .ite ((carrierRested_writes s hc).trans (.of_regs (abandonWindows_moves _ c).regs)) (.refl s)

/-- The timebase at its new place, with every stored instant moved along. -/
def timebaseMoved (s : State) (n : Nat) : State :=
  ((s.rebase ((n / 64 : Nat) - s.count)).modClk (fun c => { c with
    count := BitVec.ofNat 64 (n / 64), fine := BitVec.ofNat 6 n, epoch := c.epoch + 1, hold := false })).injAnew

/-- What a step does to the captures, the compare units and the carriers. -/
def timebaseSettled (s : State) : State :=
  ((s.forAll 8 (fun n v => v.takeCapture n)).forAll 16 (fun n v => if v.on (F.CLK_CMPn_CTRL_EN n) then v.cmpLate n else v)).forAll 8
    (fun c v => v.carrierWaits c)

theorem timebaseStep_eq (s : State) (n : Nat) : ∃ f g, s.timebaseStep n =
    { ((s.timebaseMoved n).set1 F.CLK_STAT_TB_STEPPED).timebaseSettled with prism := f, wvn := g } := ⟨_, _, rfl⟩

theorem timebaseSettled_moves (s : State) : Moves [.regs, .cycle, .loom, .gdp, .prism] s s.timebaseSettled :=
  .forAll (.forAll (.forAll (.refl s) fun _ _ hu => .put hu) fun n u hu => .ite (hu.trans ((cmpLate_moves u n).mono (by decide))) hu)
    fun c u hu => hu.trans (carrierWaits_moves u c)

theorem timebaseSettled_writes (s : State) : s.Writes steppedRegs s.timebaseSettled :=
  .forAll (.forAll (.forAll (.refl s) fun _ u hn hu => hu.trans (takeCapture_writes u hn)) fun _ u hn hu => .ite (hu.trans (cmpLate_writes u hn)) hu)
    fun _ u hc hu => hu.trans (carrierWaits_writes u hc)

/-- The registers after a step of the timebase, but for those that it writes. -/
theorem timebaseStep_rd (s : State) (n : Nat) {b : Nat} (hb : ¬ steppedRegs b) (hst : b ≠ R.CLK_STAT) : (s.timebaseStep n).rd b = s.rd b := by
  obtain ⟨f, g, h⟩ := timebaseStep_eq s n
  rw [h]
  refine (rd_congr rfl b).trans (((timebaseSettled_writes _).rd hb).trans ?_)
  rw [set1, rd_put_other _ F.CLK_STAT_TB_STEPPED 1 b hst]
  exact rd_congr rfl b

theorem timebaseStep_stepped (s : State) (n : Nat) : (s.timebaseStep n).on F.CLK_STAT_TB_STEPPED = true := by
  obtain ⟨f, g, h⟩ := timebaseStep_eq s n
  rw [h]
  refine (on_congr rfl _).trans (((timebaseSettled_writes _).on (by simp only [steppedRegs]; decide)).trans ?_)
  exact on_set1_same _ F.CLK_STAT_TB_STEPPED (by decide) (by decide)

theorem timebaseStep_clk (s : State) (n : Nat) :
    (s.timebaseStep n).clk.count = BitVec.ofNat 64 (n / 64) ∧ (s.timebaseStep n).clk.fine = BitVec.ofNat 6 n ∧ (s.timebaseStep n).clk.epoch = s.clk.epoch + 1 := by
  obtain ⟨f, g, h⟩ := timebaseStep_eq s n
  have hclk : (s.timebaseStep n).clk = (s.timebaseMoved n).clk := by
    rw [h]
    exact (timebaseSettled_moves _).clk.trans (set1_clk ..)
  rw [hclk]
  exact ⟨rfl, rfl, rfl⟩

theorem timebaseStep_sys (s : State) (n : Nat) : (s.timebaseStep n).sys.phase = s.sys.phase := by
  obtain ⟨f, g, h⟩ := timebaseStep_eq s n
  have hsys : (s.timebaseStep n).sys = (s.timebaseMoved n).sys := by
    rw [h]
    exact (timebaseSettled_moves _).sys.trans (set1_sys ..)
  rw [hsys]
  rfl

end State
end Sys2Proof.Machine

/-! ADMIT to a knocking node, ROSTER and PRESENT at a MEMBER, and the settling of the ring's messages (R275, R277, R288). -/

namespace Sys2Proof.Machine

set_option Elab.async false
namespace State

variable {s t u : State} {p : Port} {gen : Nat}

/-- A node that learns of a generation begins the copy of it unless it has begun it. -/
theorem learnGeneration_eq (s : State) (g : Nat) : ∃ x c h, s.learnGeneration g = s.modRing (fun r => { r with nextGen := g, next := x, chunks := c, halves := h }) := by
  unfold learnGeneration
  split
  case isTrue hg => exact ⟨s.ring.next, s.ring.chunks, s.ring.halves, by rw [← hg]; rfl⟩
  case isFalse => exact ⟨_, _, _, rfl⟩

/-! ### ADMIT (R277) -/

/-- The registers of a new MEMBER, before its generation is live. -/
def memberShown (s : State) (g : Nat) : State := ((s.put F.RING_STAT_STATE 3).put F.RING_GEN_GEN 0).put F.RING_GEN_NGEN g

theorem memberShown_writes (s : State) (g : Nat) : s.Writes (fun b => b = R.RING_STAT ∨ b = R.RING_GEN) (s.memberShown g) :=
  .put (.put (.put (.refl s) (f := F.RING_STAT_STATE) (.inl rfl)) (f := F.RING_GEN_GEN) (.inr rfl)) (f := F.RING_GEN_NGEN) (.inr rfl)

theorem memberShown_moves (s : State) (g : Nat) : Moves [.regs, .cycle] s (s.memberShown g) := .put (.put (.put (.refl s)))

theorem memberShown_state (s : State) (g : Nat) : (s.memberShown g).ringState = 3 := by
  unfold memberShown ringState
  rw [get_put_other _ F.RING_GEN_NGEN F.RING_STAT_STATE g (by decide) (.inl (by decide)),
    get_put_other _ F.RING_GEN_GEN F.RING_STAT_STATE 0 (by decide) (.inl (by decide))]
  exact get_put_same s F.RING_STAT_STATE 3 (by decide)

theorem memberShown_gen (s : State) (g : Nat) : (s.memberShown g).get F.RING_GEN_GEN = 0 := by
  unfold memberShown
  rw [get_put_other _ F.RING_GEN_NGEN F.RING_GEN_GEN g (by decide) (.inr (by decide))]
  exact get_put_same _ F.RING_GEN_GEN 0 (by decide)

theorem memberShown_ngen (s : State) (g : Nat) : (s.memberShown g).get F.RING_GEN_NGEN = g % 65536 := get_put_same _ F.RING_GEN_NGEN g (by decide)

/-- The node on the Reeve's time, and a MEMBER without a live generation. -/
def admittedTo (s : State) (g at_ n : Nat) (off : Int) : State :=
  ((((s.timebaseStep n).shiftThetas (-off)).memberShown g).learnGeneration g).modRing (fun r => { r with
    nextAt := BitVec.ofNat 16 at_, liveOk := false, leaving := false, inWin := 0, outWin := 0, noHeader := 0, cur := none, done := []
    slewWatch := false, slewHeld := false })

theorem ringAdmit_knocking (hs : s.ringState = 2) (g at_ : Nat) : s.ringAdmit s.uid g at_ =
    ((s.admittedTo g at_ ((s.now : Int) - min (s.now : Int) (wholeMean s.thetaMean)).toNat (min (s.now : Int) (wholeMean s.thetaMean))).ringEvent
      0xC1 .info).ringEvent 0xC7 .info := by
  unfold ringAdmit
  rw [if_neg (by omega), if_pos ⟨hs, rfl⟩]
  rfl

theorem admittedTo_regs (s : State) (g at_ n : Nat) (off : Int) :
    (s.admittedTo g at_ n off).regs = (((s.timebaseStep n).shiftThetas (-off)).memberShown g).regs := by
  obtain ⟨x, c, h, heq⟩ := learnGeneration_eq (((s.timebaseStep n).shiftThetas (-off)).memberShown g) g
  unfold admittedTo
  rw [heq]
  rfl

theorem admittedTo_clk (s : State) (g at_ n : Nat) (off : Int) : (s.admittedTo g at_ n off).clk = (s.timebaseStep n).clk := by
  obtain ⟨x, c, h, heq⟩ := learnGeneration_eq (((s.timebaseStep n).shiftThetas (-off)).memberShown g) g
  unfold admittedTo
  rw [heq]
  rw [modRing_clk, modRing_clk, (memberShown_moves ((s.timebaseStep n).shiftThetas (-off)) g).clk, shiftThetas, modRing_clk]

theorem admittedTo_rd (s : State) (g at_ n : Nat) (off : Int) {b : Nat} (h1 : ¬ steppedRegs b) (h2 : b ≠ R.CLK_STAT) (h3 : b ≠ R.RING_STAT)
    (h4 : b ≠ R.RING_GEN) : (s.admittedTo g at_ n off).rd b = s.rd b := by
  have hshift : ((s.timebaseStep n).shiftThetas (-off)).regs = (s.timebaseStep n).regs := rfl
  rw [rd_congr (admittedTo_regs s g at_ n off), (memberShown_writes ((s.timebaseStep n).shiftThetas (-off)) g).rd (not_or.2 ⟨h3, h4⟩),
    rd_congr hshift, timebaseStep_rd s n h1 h2]

theorem ringPut_ring (s : State) (l : List (Port × RingMsg)) : (s.ringPut l).ring = { s.ring with sent := s.ring.sent ++ l } := rfl

theorem admitted_taken (s : State) (slot : Fin 1024) (gen at_ : Nat) (p : Port) (hrests : s.policyRests) (hring : s.ringRuns = true)
    (hup : s.portUp p = true) (hs : s.ringState = 2) :
    Completes (.admitted ⟨p, true⟩ ⟨s.uid, slot⟩ gen at_) s fun t =>
      t.ringState = 3 ∧ t.get F.RING_GEN_GEN = 0 ∧ t.get F.RING_GEN_NGEN = gen % 65536 ∧ t.on F.CLK_STAT_TB_STEPPED = true ∧
      (∀ n : Nat, (n : Int) = max 0 ((s.now : Int) - wholeMean s.thetaMean) →
        t.clk.count = BitVec.ofNat 64 (n / 64) ∧ t.clk.fine = BitVec.ofNat 6 n) ∧
      t.clk.epoch = s.clk.epoch + 1 ∧ t.ring.liveOk = false ∧ t.ring.nextAt = BitVec.ofNat 16 at_ := by
  generalize hn : ((s.now : Int) - min (s.now : Int) (wholeMean s.thetaMean)).toNat = n
  generalize hoff : min (s.now : Int) (wholeMean s.thetaMean) = off at hn
  let f : State → State := (·.ringMessage ⟨p, true⟩ (·.ringTakes ⟨p, true⟩ (.admitted s.uid slot gen at_) (·.ringAdmit s.uid gen at_)))
  generalize ha : s.admittedTo gen at_ n off = a
  have hf : f s = ((a.ringEvent 0xC1 .info).ringEvent 0xC7 .info).ringPut (s.relayed p (.admitted s.uid slot gen at_)) := by
    refine (ringMessage_eq hring hup _).trans (congrArg (fun x => State.ringPut x _) ?_)
    show s.ringAdmit s.uid gen at_ = _
    rw [ringAdmit_knocking hs, hoff, hn, ha]
  have hev : Moves [.rtc, .mram, .events, .stew, .draws] a ((a.ringEvent 0xC1 .info).ringEvent 0xC7 .info) :=
    (ringEvent_moves a 0xC1 .info).trans (ringEvent_moves _ 0xC7 .info)
  have hregs : (f s).regs = a.regs := by
    rw [hf]
    exact hev.regs
  have hrd : ∀ b, ¬ steppedRegs b → b ≠ R.CLK_STAT → b ≠ R.RING_STAT → b ≠ R.RING_GEN → (f s).rd b = s.rd b := fun b h1 h2 h3 h4 =>
    (rd_congr hregs b).trans (ha ▸ admittedTo_rd s gen at_ n off h1 h2 h3 h4)
  have hpol : Moves [.sys] (f s) (s.policyAfter f) := policyAfter_rests hrests
    (mode_of_rd (hrd _ (by simp only [steppedRegs]; decide) (by decide) (by decide) (by decide)))
    (hrd _ (by simp only [steppedRegs]; decide) (by decide) (by decide) (by decide))
  generalize hv : (s.timebaseStep n).shiftThetas (-off) = v
  have haregs : a.regs = (v.memberShown gen).regs := hv ▸ ha ▸ admittedTo_regs s gen at_ n off
  have hregs' : (s.policyAfter f).regs = (v.memberShown gen).regs := hpol.regs.trans (hregs.trans haregs)
  have haclk : a.clk = (s.timebaseStep n).clk := ha ▸ admittedTo_clk s gen at_ n off
  obtain ⟨x, hx⟩ := hev.clockKept
  have hclk : (s.policyAfter f).clk = { (s.timebaseStep n).clk with rtcSub := x } := by
    rw [hpol.clk, hf, ← haclk]
    exact hx
  have haring : a.ring.liveOk = false ∧ a.ring.nextAt = BitVec.ofNat 16 at_ := ha ▸ ⟨rfl, rfl⟩
  have hring' : (s.policyAfter f).ring = { a.ring with sent := a.ring.sent ++ s.relayed p (.admitted s.uid slot gen at_) } := by
    rw [hpol.ring, hf, ringPut_ring, hev.ring]
  obtain ⟨hcount, hfine, hepoch⟩ := timebaseStep_clk s n
  refine ⟨s.policyAfter f, rfl, (get_congr hregs' _).trans (memberShown_state v gen), (get_congr hregs' _).trans (memberShown_gen v gen),
    (get_congr hregs' _).trans (memberShown_ngen v gen), ?_, fun m hm => ?_, ?_, ?_, ?_⟩
  · refine (on_congr hregs' _).trans (((memberShown_writes v gen).on (by decide)).trans ?_)
    exact hv ▸ timebaseStep_stepped s n
  · have hmn : n = m := by omega
    rw [hclk, ← hmn]
    exact ⟨hcount, hfine⟩
  · rw [hclk]
    exact hepoch
  · rw [hring']
    exact haring.1
  · rw [hring']
    exact haring.2

/-! ### ROSTER and PRESENT (R275, R288) -/

/-- A MEMBER whose copy is complete has none to take up late. -/
theorem adoptLate_live (h : s.ring.liveOk = true) : s.adoptLate = s := if_neg fun hc => by simp [h] at hc

theorem roster_entry (m : WordStore) (c : Nat) (entries : List Word) (hlen : entries.length = 16) {k : Nat} (hk : k < 16) :
    wordGet (wordSetAll m (16 * c) ((entries ++ List.replicate 16 0).take 16)) (16 * c + k) = entries.getD k 0 := by
  have htake : (entries ++ List.replicate 16 (0 : Word)).take 16 = entries := by
    rw [← hlen, List.take_left]
  rw [htake, wordGet_wordSetAll, if_pos (by omega), Nat.add_sub_cancel_left]
  rfl

theorem roster_filled (s : State) (gen : Nat) (c : Fin 384) (entries : List Word) (p : Port) (hrests : s.policyRests) (hring : s.ringRuns = true)
    (hup : s.portUp p = true) (hs : s.ringState = 3) (hlive : s.ring.liveOk = true) (hlen : entries.length = 16) :
    Completes (.roster ⟨p, true⟩ gen (16 * c) entries) s fun t =>
      t.ring.nextGen = gen ∧ c.val ∈ t.ring.chunks ∧ (∀ k : Fin 16, t.ring.next.entry (16 * c + k) = entries.getD k 0) ∧
      t.regs = s.regs ∧ t.ring.live = s.ring.live ∧ t.clk = s.clk := by
  obtain ⟨x, ch, ha, hlearn⟩ := learnGeneration_eq s gen
  generalize hv : s.modRing (fun r => { r with
    nextGen := gen, halves := ha
    next := { x with roster := wordSetAll x.roster (16 * c.val) ((entries ++ List.replicate 16 0).take 16) }
    chunks := if c.val ∈ ch then ch else ch ++ [c.val] }) = v
  have hchunk : 16 * c.val / 16 = c.val := Nat.mul_div_cancel_left c.val (by decide)
  have hvlive : v.ring.liveOk = true := hv ▸ hlive
  have hroster : s.ringRoster gen (16 * c) entries = v := by
    unfold ringRoster
    rw [if_neg (by omega), hlearn, hchunk]
    dsimp only
    rw [if_pos c.isLt]
    have : (s.modRing (fun r => { r with nextGen := gen, next := x, chunks := ch, halves := ha })).modRing (fun r => { r with
        next := { r.next with roster := wordSetAll r.next.roster (16 * c.val) ((entries ++ List.replicate 16 0).take 16) }
        chunks := if c.val ∈ r.chunks then r.chunks else r.chunks ++ [c.val] }) = v := hv ▸ rfl
    rw [this]
    exact adoptLate_live hvlive
  let f : State → State := (·.ringMessage ⟨p, true⟩ (·.ringTakes ⟨p, true⟩ (.roster gen (16 * c) entries) (·.ringRoster gen (16 * c) entries)))
  have hf : f s = v.ringPut (s.relayed p (.roster gen (16 * c) entries)) :=
    (ringMessage_eq hring hup _).trans (congrArg (fun x => State.ringPut x _) hroster)
  have hm : Moves [.ring] s (f s) := by
    rw [hf, ← hv]
    exact Moves.modRing (A := [.ring]) (.modRing (.refl s))
  have hpol : Moves [.sys] (f s) (s.policyAfter f) := policyAfter_rests hrests (mode_of_rd (rd_congr hm.regs _)) (rd_congr hm.regs _)
  refine ⟨s.policyAfter f, rfl, ?_, ?_, fun k => ?_, hpol.regs.trans hm.regs, ?_, hpol.clk.trans hm.clk⟩ <;> rw [hpol.ring, hf, ← hv]
  · rfl
  · show c.val ∈ (if c.val ∈ ch then ch else ch ++ [c.val])
    split
    · assumption
    · exact List.mem_append_right ch (List.mem_singleton_self _)
  · exact roster_entry x.roster c entries hlen k.isLt
  · rfl

/-- The present map with one of its halves from a message. -/
def presentWith (old : BitVec 1024) (half : Nat) (map : BitVec 512) : BitVec 1024 :=
  (if half = 0 then (old >>> 512) <<< 512 else (old <<< 512) >>> 512) ||| ((map.setWidth 1024) <<< (512 * half))

theorem presentWith_half (old : BitVec 1024) (half : Fin 2) (map : BitVec 512) :
    (presentWith old half map >>> (512 * half.val)).setWidth 512 = map := by
  have hhalf : half.val = 0 ∨ half.val = 1 := by omega
  apply BitVec.eq_of_getLsbD_eq
  intro i hi
  have hover : ¬ 512 + (512 + i) < 1024 := by omega
  have hin : 512 + i < 1024 := by omega
  have hwide : i < 1024 := by omega
  unfold presentWith
  rcases hhalf with h | h
  · rw [h]
    simp [hi]
  · rw [h]
    simp [hi, hover, hin, hwide]

/-- A MEMBER's copy of the present map, with a half from a message. -/
theorem present_filled (s : State) (gen : Nat) (half : Fin 2) (map : BitVec 512) (need : Nat) (p : Port) (hrests : s.policyRests) (hring : s.ringRuns = true)
    (hup : s.portUp p = true) (hs : s.ringState = 3) (hlive : s.ring.liveOk = true) :
    Completes (.present ⟨p, true⟩ gen half map need) s fun t =>
      t.ring.nextGen = gen ∧ half.val ∈ t.ring.halves ∧ t.ring.next.tneed = need ∧
      (t.ring.next.present >>> (512 * half.val)).setWidth 512 = map ∧
      (gen ≠ s.get F.RING_GEN_GEN → t.regs = s.regs ∧ t.ring.live = s.ring.live) ∧
      (gen = s.get F.RING_GEN_GEN → t.rd R.RING_TNEED = BitVec.ofNat 32 need ∧ t.ring.live.tneed = need ∧
        (∀ a, a ≠ R.RING_TNEED → t.rd a = s.rd a)) ∧ t.clk = s.clk := by
  obtain ⟨x, ch, ha, hlearn⟩ := learnGeneration_eq s gen
  generalize hv : s.modRing (fun r => { r with
    nextGen := gen, chunks := ch
    next := { x with present := presentWith x.present half map, tneed := need }
    halves := if half.val ∈ ha then ha else ha ++ [half.val] }) = v
  have hhalf : half.val % 2 = half.val := Nat.mod_eq_of_lt half.isLt
  have hvlive : v.ring.liveOk = true := hv ▸ hlive
  have hvstate : v.ringState = 3 := hv ▸ hs
  have hvgen : v.get F.RING_GEN_GEN = s.get F.RING_GEN_GEN := hv ▸ rfl
  have hpresent : s.ringPresent gen half map need = (v.liveNeed gen need).adoptLate := by
    unfold ringPresent
    rw [if_neg (by omega), hlearn, hhalf, ← hv]
    rfl
  have hlv : (v.liveNeed gen need).ring.liveOk = true := by
    unfold liveNeed
    split
    · rw [wr_ring]
      exact hvlive
    · exact hvlive
  let f : State → State := (·.ringMessage ⟨p, true⟩ (·.ringTakes ⟨p, true⟩ (.present gen half map need) (·.ringPresent gen half map need)))
  have hf : f s = (v.liveNeed gen need).ringPut (s.relayed p (.present gen half map need)) :=
    (ringMessage_eq hring hup _).trans (congrArg (fun x => State.ringPut x _) (hpresent.trans (adoptLate_live hlv)))
  have hmv : Moves [.ring] s v := hv ▸ Moves.modRing (A := [.ring]) (.refl s)
  have hml : Moves [.regs, .cycle, .ring] v (v.liveNeed gen need) := .ite (.wr (.modRing (.refl v))) (.refl v)
  have hwl : v.Writes (· = R.RING_TNEED) (v.liveNeed gen need) := by
    unfold liveNeed
    exact .ite (.wr (.modRing (.refl v)) rfl) (.refl v)
  have hregs : (f s).regs = (v.liveNeed gen need).regs := hf ▸ rfl
  have hrd : ∀ a, a ≠ R.RING_TNEED → (f s).rd a = s.rd a := fun a h =>
    (rd_congr hregs a).trans ((hwl.rd h).trans (rd_congr hmv.regs a))
  have hpol : Moves [.sys] (f s) (s.policyAfter f) := policyAfter_rests hrests (mode_of_rd (hrd _ (by decide))) (hrd _ (by decide))
  have hring' : (s.policyAfter f).ring = { (v.liveNeed gen need).ring with
      sent := (v.liveNeed gen need).ring.sent ++ s.relayed p (.present gen half map need) } := by
    rw [hpol.ring, hf, ringPut_ring]
  have hclk : (s.policyAfter f).clk = s.clk := by
    rw [hpol.clk, hf]
    exact hml.clk.trans hmv.clk
  have hkeep : ∃ l, (v.liveNeed gen need).ring = { v.ring with live := l } := by
    unfold liveNeed
    split
    · exact ⟨_, wr_ring ..⟩
    · exact ⟨v.ring.live, rfl⟩
  obtain ⟨l, hl⟩ := hkeep
  refine ⟨s.policyAfter f, rfl, ?_, ?_, ?_, ?_, fun hne => ⟨?_, ?_⟩, fun heq => ⟨?_, ?_, fun a h => (rd_congr hpol.regs a).trans (hrd a h)⟩, hclk⟩
  · rw [hring', hl, ← hv]
    rfl
  · rw [hring', hl, ← hv]
    show half.val ∈ (if half.val ∈ ha then ha else ha ++ [half.val])
    split
    · assumption
    · exact List.mem_append_right ha (List.mem_singleton_self _)
  · rw [hring', hl, ← hv]
    rfl
  · rw [hring', hl, ← hv]
    exact presentWith_half x.present half map
  · have hsame : v.liveNeed gen need = v := if_neg fun h => hne (h.2.2.trans hvgen)
    rw [hpol.regs, hregs, hsame]
    exact hmv.regs
  · have hsame : v.liveNeed gen need = v := if_neg fun h => hne (h.2.2.trans hvgen)
    rw [hring', hsame, ← hv]
    rfl
  · have hshow : v.liveNeed gen need = (v.modRing (fun r => { r with live := { r.live with tneed := need } })).wr R.RING_TNEED (BitVec.ofNat 32 need) :=
      if_pos ⟨hvstate, hvlive, heq.trans hvgen.symm⟩
    rw [rd_congr hpol.regs, rd_congr hregs, hshow, rd_wr, if_pos rfl]
  · have hshow : v.liveNeed gen need = (v.modRing (fun r => { r with live := { r.live with tneed := need } })).wr R.RING_TNEED (BitVec.ofNat 32 need) :=
      if_pos ⟨hvstate, hvlive, heq.trans hvgen.symm⟩
    rw [hring', hshow, wr_ring]
    rfl

end State

/-- Settles O30: a message that arrives whole is passed on and has its effect, one with a wrong CRC is flagged alone. -/
theorem ringMessages : Obligations.RingMessages :=
  ⟨fun s p u hr hu => State.probe_answered s p u hr hu,
   fun s p u hr hu => State.probe_flagged s p u hr hu,
   fun s p r u hr hu => match p with
     | .a => State.echo_measuredA s r u hr hu
     | .b => State.echo_measuredB s r u hr hu,
   fun s uid slot sb st rp da db pos p hc hr hu hs hn hk => State.knock_admitted s uid slot sb st rp da db pos p hc hr hu hs hn hk,
   fun s uid slot sb st rp da db pos p hc hr hu hs hn ht => State.knock_refused s uid slot sb st rp da db pos p hc hr hu hs hn ht,
   fun s uid slot sb st rp da db pos p hr hu hs => State.knock_passedOn s uid slot sb st rp da db pos p hr hu hs,
   fun s slot gen at_ p _ hp hr hu hs => State.admitted_taken s slot gen at_ p hp hr hu hs,
   fun s why p hc hr hu hs => State.refuse_heard s why p hc hr hu hs,
   fun s slot p hc hr hu hs hm => State.leave_heard s slot p hc hr hu hs hm,
   fun s slot da db p hr hu hs => State.links_told s slot da db p hr hu hs,
   fun s gen c entries p hp hr hu hs hl hlen => State.roster_filled s gen c entries p hp hr hu hs hl hlen,
   fun s gen half map need p hp hr hu hs hl => State.present_filled s gen half map need p hp hr hu hs hl⟩

end Sys2Proof.Machine

/-! DMA channels: what a trigger, an abort and a write of their registers do (R366, R367, R369, R371). -/

namespace Sys2Proof.Machine

set_option Elab.async false
namespace State

variable {s t u : State} {n : Nat} {w : World} {v : Word} {a : Nat}

/-- A write that passes its checks and at whose register nothing happens. -/
theorem write_unmoved (h : s.accepts w a v) (hp : movesPolicy a = false) (hhook : s.hook a v = s) : s.unmoved (s.write w a v) := by
  rw [write_accepted h, policyFor_plain _ hp, hhook]
  obtain ⟨x, y, hx⟩ := transact_shape s (s.markWritten a (s.writable a)) 0 1
  obtain ⟨c, hc⟩ := takePort_shape (s.transact (s.markWritten a (s.writable a)) 0 1) a
  exact ⟨x, y, s.tst.fifoUntil, _, hc.trans (by rw [hx]; rfl)⟩

/-! ### One channel's record -/

/-- Work on one channel's record and on the perturbation's draws. -/
structure ChannelWork (n : Nat) (s t : State) : Prop where
  moves : Moves [.tst, .dma] s t
  length : t.dma.length = s.dma.length
  other : ∀ j, j ≠ n → t.dmaCh j = s.dmaCh j

namespace ChannelWork

theorem refl (s : State) : ChannelWork n s s := ⟨.refl s, rfl, fun _ _ => rfl⟩
theorem trans (h : ChannelWork n s t) (h' : ChannelWork n t u) : ChannelWork n s u :=
  ⟨h.moves.trans h'.moves, h'.length.trans h.length, fun j hj => (h'.other j hj).trans (h.other j hj)⟩
theorem modDma (h : ChannelWork n s t) (f : DmaCh → DmaCh) : ChannelWork n s (t.modDma n f) :=
  h.trans ⟨.record (.refl t) (by rfl), length_upd .., fun _ hj => nth_upd_other _ _ _ _ _ hj.symm⟩
theorem ite {c : Prop} [Decidable c] (ht : ChannelWork n s t) (hu : ChannelWork n s u) : ChannelWork n s (if c then t else u) := by split <;> assumption
theorem disturb (h : ChannelWork n s t) (k : Nat) : ChannelWork n s (t.disturb k).2 := by
  have hd := disturb_moves t k
  exact h.trans ⟨hd.mono (by decide), congrArg List.length hd.dma, fun j _ => congrArg (nth · j ({} : DmaCh)) hd.dma⟩
theorem dmaGrant (h : ChannelWork n s t) : ChannelWork n s (t.dmaGrant n) := (h.disturb 4).modDma (fun c => { c with grantAt := t.count + 1 + (t.disturb 4).1 })
theorem dmaHold (h : ChannelWork n s t) : ChannelWork n s (t.dmaHold n) :=
  (h.disturb 4).modDma (fun c => { c with xfer := c.xfer.map (fun x => { x with hold := (t.disturb 4).1 }) })

end ChannelWork

theorem dmaCh_modDma_same (s : State) (f : DmaCh → DmaCh) (hn : n < s.dma.length) : (s.modDma n f).dmaCh n = f (s.dmaCh n) := nth_upd_same _ _ _ _ hn

theorem dmaCh_disturb (s : State) (k j : Nat) : (s.disturb k).2.dmaCh j = s.dmaCh j := congrArg (nth · j ({} : DmaCh)) (disturb_moves s k).dma

theorem disturb_length (s : State) (k : Nat) : (s.disturb k).2.dma.length = s.dma.length := congrArg List.length (disturb_moves s k).dma

theorem dmaCh_dmaGrant (s : State) (hn : n < s.dma.length) :
    (s.dmaGrant n).dmaCh n = { s.dmaCh n with grantAt := s.count + 1 + (s.disturb 4).1 } := by
  have hlen : n < (s.disturb 4).2.dma.length := (disturb_length s 4).symm ▸ hn
  have h := dmaCh_modDma_same (s.disturb 4).2 (fun c => { c with grantAt := s.count + 1 + (s.disturb 4).1 }) hlen
  rw [dmaCh_disturb] at h
  exact h

theorem dmaCh_dmaHold (s : State) (hn : n < s.dma.length) :
    (s.dmaHold n).dmaCh n = { s.dmaCh n with xfer := (s.dmaCh n).xfer.map (fun x => { x with hold := (s.disturb 4).1 }) } := by
  have hlen : n < (s.disturb 4).2.dma.length := (disturb_length s 4).symm ▸ hn
  have h := dmaCh_modDma_same (s.disturb 4).2 (fun c => { c with xfer := c.xfer.map (fun x => { x with hold := (s.disturb 4).1 }) }) hlen
  rw [dmaCh_disturb] at h
  exact h

/-- Target 4 of the perturbation, where it does not perturb, withholds nothing. -/
theorem disturb_quiet {k : Nat} (h : s.perturbs k = false) : s.disturb k = (0, s) := if_neg (by rw [h]; exact Bool.false_ne_true)

theorem perturbs_of_regs (h : t.regs = s.regs) (k : Nat) : t.perturbs k = s.perturbs k := by
  unfold perturbs inService
  rw [mode_of_rd (rd_congr h _), on_congr h, on_congr h]

/-! ### GO (R366, R367) -/

/-- An armed and idle channel starts: its record, with what perturbation withholds of the first read and of the first write. -/
theorem dmaTrigger_starts (hn : n < s.dma.length) (hen : s.on (F.DMA_CHn_CFG_EN n) = true) (hnew : (s.dmaCh n).trigAt ≠ some s.count)
    (hidle : (s.dmaCh n).xfer = none) : ChannelWork n s (s.dmaTrigger n) ∧
      (∃ d, ((s.dmaTrigger n).dmaCh n).xfer = some { s.dmaTransfer n with hold := d }) ∧
      (s.perturbs 4 = false → ((s.dmaTrigger n).dmaCh n).grantAt = s.count + 1) := by
  generalize hu : s.modDma n (fun c => { c with trigAt := some s.count }) = u
  generalize hv : u.modDma n (fun c => { c with xfer := some (u.dmaTransfer n) }) = v
  have hsu : ChannelWork n s u := hu ▸ (ChannelWork.refl s).modDma _
  have hsv : ChannelWork n s v := hv ▸ hsu.modDma _
  have huch : u.dmaCh n = { s.dmaCh n with trigAt := some s.count } := hu ▸ dmaCh_modDma_same s _ hn
  have huidle : (u.dmaCh n).xfer = none := by rw [huch, hidle]
  have htransfer : u.dmaTransfer n = s.dmaTransfer n := by
    have hring : (u.dmaCh n).ringNext = (s.dmaCh n).ringNext := by rw [huch]
    have hregs := hsu.moves.regs
    unfold dmaTransfer
    rw [hring, rd_congr hregs, rd_congr hregs, get_congr hregs, on_congr hregs, on_congr hregs]
  have hvch : v.dmaCh n = { u.dmaCh n with xfer := some (s.dmaTransfer n) } := by
    rw [← htransfer, ← hv]
    exact dmaCh_modDma_same u _ (hsu.length.symm ▸ hn)
  have heq : s.dmaTrigger n = (v.dmaGrant n).dmaHold n := by
    have hguard : (s.on (F.DMA_CHn_CFG_EN n) && (s.dmaCh n).trigAt != some s.count) = true := by
      rw [hen, Bool.true_and, bne_iff_ne]
      exact hnew
    unfold dmaTrigger
    rw [if_pos hguard]
    dsimp only
    rw [hu, huidle, hv]
    exact if_neg (by decide)
  have hvn : n < v.dma.length := hsv.length.symm ▸ hn
  have hgn : n < (v.dmaGrant n).dma.length := ((ChannelWork.refl v).dmaGrant (n := n)).length.symm ▸ hvn
  have hch := dmaCh_dmaHold (v.dmaGrant n) hgn
  rw [dmaCh_dmaGrant v hvn, hvch] at hch
  rw [heq, hch]
  refine ⟨hsv.dmaGrant.dmaHold, ⟨_, rfl⟩, fun hq => ?_⟩
  have hvq : v.perturbs 4 = false := (perturbs_of_regs hsv.moves.regs 4).trans hq
  have hcount : v.count = s.count := congrArg (fun c : Clk => c.count.toNat) hsv.moves.clk
  show v.count + 1 + (v.disturb 4).1 = _
  rw [disturb_quiet hvq, hcount]
  rfl

/-- A trigger at a busy channel is lost with TOVR. -/
theorem dmaTrigger_lost (hn : n < s.dma.length) (hen : s.on (F.DMA_CHn_CFG_EN n) = true) (hnew : (s.dmaCh n).trigAt ≠ some s.count)
    (hbusy : (s.dmaCh n).xfer.isSome = true) :
    s.dmaTrigger n = (s.modDma n (fun c => { c with trigAt := some s.count })).set1 (F.DMA_CHn_STAT_TOVR n) := by
  have hguard : (s.on (F.DMA_CHn_CFG_EN n) && (s.dmaCh n).trigAt != some s.count) = true := by
    rw [hen, Bool.true_and, bne_iff_ne]
    exact hnew
  have hxfer : ((s.modDma n (fun c => { c with trigAt := some s.count })).dmaCh n).xfer.isSome = true := by
    rw [dmaCh_modDma_same s _ hn]
    exact hbusy
  unfold dmaTrigger
  rw [if_pos hguard]
  exact if_pos hxfer

theorem dmaTrigger_idle (h : s.on (F.DMA_CHn_CFG_EN n) = false ∨ (s.dmaCh n).trigAt = some s.count) : s.dmaTrigger n = s := by
  refine if_neg fun hg => ?_
  simp only [Bool.and_eq_true, bne_iff_ne] at hg
  rcases h with h | h
  · exact Bool.false_ne_true (h.symm.trans hg.1)
  · exact hg.2 h

end State
end Sys2Proof.Machine

/-! Writes of a channel's CTRL and CFG (R366, R367, R369, R371). -/

namespace Sys2Proof.Machine

set_option Elab.async false
namespace State

variable {s t u : State} {n : Nat} {w : World} {v : Word}

theorem dmaCh_of_dma (h : t.dma = s.dma) (j : Nat) : t.dmaCh j = s.dmaCh j := congrArg (nth · j ({} : DmaCh)) h

theorem DMA_CTRL_plain : ∀ n : Fin 16, movesPolicy (R.DMA_CHn_CTRL n) = false := by decide
theorem DMA_CFG_plain : ∀ n : Fin 16, movesPolicy (R.DMA_CHn_CFG n) = false := by decide

/-! ### GO -/

theorem hook_go (n : Fin 16) (hv : bitAt v 1 = false) : s.hook (R.DMA_CHn_CTRL n) (v ||| 1) = s.dmaTrigger n := by
  rw [hook_DMA_CHn_CTRL, dmaCtrl, bitAt_or v 1 (i := 0) (by decide), bitAt_or_other v 1 (i := 1) (by decide), hv]
  rfl

theorem dmaGo_moves (n : Fin 16) (hacc : s.accepts w (R.DMA_CHn_CTRL n) (v ||| 1)) (hv : bitAt v 1 = false) :
    Moves [.cycle, .tst] (s.dmaTrigger n) (s.write w (R.DMA_CHn_CTRL n) (v ||| 1)) := by
  have h := write_moves hacc (DMA_CTRL_plain n)
  rwa [hook_go n hv] at h

theorem dmaGo_starts (s : State) (w : World) (n : Fin 16) (v : Word) (hs : s.Shaped) (hacc : s.accepts w (R.DMA_CHn_CTRL n) (v ||| 1))
    (hv : bitAt v 1 = false) (hen : s.on (F.DMA_CHn_CFG_EN n) = true) (hnew : (s.dmaCh n).trigAt ≠ some s.count) (hidle : (s.dmaCh n).xfer = none) :
    Completes (.dmaGo w n v) s fun t =>
      (∃ x, (t.dmaCh n).xfer = some x ∧ x.reads = 0 ∧ x.writes = 0 ∧ x.words = [] ∧
        let src := (s.rd (R.DMA_CHn_SRC n)).toNat
        let dst := (s.dmaCh n).ringNext.getD (s.rd (R.DMA_CHn_DST n)).toNat
        let len := s.get (F.DMA_CHn_LEN_LEN_M1 n) + 1
        if s.on (F.DMA_CHn_CFG_SINC n) = true ∧ s.on (F.DMA_CHn_CFG_DINC n) = true then x.src = src ∧ x.dst = dst ∧ x.len = len
        else x.src = src / 4 * 4 ∧ x.dst = dst / 4 * 4 ∧ x.len = (len + 3) / 4 * 4) ∧
      (s.perturbs 4 = false → (t.dmaCh n).grantAt = s.count + 1) ∧
      (∀ j : Fin 16, j ≠ n → t.dmaCh j = s.dmaCh j) ∧ t.regs = s.regs ∧ t.mem = s.mem ∧ t.clk = s.clk := by
  have hm := dmaGo_moves n hacc hv
  obtain ⟨hwork, ⟨d, hx⟩, hgrant⟩ := dmaTrigger_starts (hs.dma.symm ▸ n.isLt) hen hnew hidle
  have hch := dmaCh_of_dma hm.dma
  refine ⟨_, rfl, ⟨{ s.dmaTransfer n with hold := d }, (congrArg DmaCh.xfer (hch n)).trans hx, ?_⟩, fun hq => (congrArg DmaCh.grantAt (hch n)).trans (hgrant hq),
    fun j hj => (hch j).trans (hwork.other j (Fin.val_ne_of_ne hj)), hm.regs.trans hwork.moves.regs, hm.mem.trans hwork.moves.mem,
    hm.clk.trans hwork.moves.clk⟩
  unfold dmaTransfer
  dsimp only
  split
  · exact ⟨rfl, rfl, rfl, rfl, rfl, rfl⟩
  · exact ⟨rfl, rfl, rfl, rfl, rfl, rfl⟩

theorem dmaGo_lost (s : State) (w : World) (n : Fin 16) (v : Word) (hs : s.Shaped) (hacc : s.accepts w (R.DMA_CHn_CTRL n) (v ||| 1))
    (hv : bitAt v 1 = false) (hen : s.on (F.DMA_CHn_CFG_EN n) = true) (hnew : (s.dmaCh n).trigAt ≠ some s.count) (hbusy : (s.dmaCh n).xfer.isSome = true) :
    Completes (.dmaGo w n v) s fun t =>
      t.on (F.DMA_CHn_STAT_TOVR n) = true ∧ (t.dmaCh n).xfer = (s.dmaCh n).xfer ∧ (∀ j : Fin 16, j ≠ n → t.dmaCh j = s.dmaCh j) ∧
      (∀ b, b ≠ R.DMA_CHn_STAT n → t.rd b = s.rd b) ∧ t.mem = s.mem ∧ t.clk = s.clk := by
  have hn : n.val < s.dma.length := hs.dma.symm ▸ n.isLt
  have hm := dmaGo_moves n hacc hv
  rw [dmaTrigger_lost hn hen hnew hbusy] at hm
  have hwork := (ChannelWork.refl s).modDma (n := n) (fun c => { c with trigAt := some s.count })
  have hch := dmaCh_modDma_same s (fun c => { c with trigAt := some s.count }) hn
  generalize s.modDma n (fun c => { c with trigAt := some s.count }) = u at hm hwork hch
  have hset : Moves [.regs, .cycle] u (u.set1 (F.DMA_CHn_STAT_TOVR n)) := .put (.refl u)
  have htch := fun j => (dmaCh_of_dma hm.dma j).trans (dmaCh_of_dma hset.dma j)
  refine ⟨_, rfl, (on_congr hm.regs _).trans (on_set1_same u _ (by simp) (by simp)), ?_, fun j hj => (htch j).trans (hwork.other j (Fin.val_ne_of_ne hj)),
    fun b hb => (rd_congr hm.regs b).trans ((rd_put_other u (F.DMA_CHn_STAT_TOVR n) 1 b hb).trans (rd_congr hwork.moves.regs b)),
    hm.mem.trans (hset.mem.trans hwork.moves.mem), hm.clk.trans (hset.clk.trans hwork.moves.clk)⟩
  rw [htch, hch]

theorem dmaGo_idle (s : State) (w : World) (n : Fin 16) (v : Word) (hacc : s.accepts w (R.DMA_CHn_CTRL n) (v ||| 1)) (hv : bitAt v 1 = false)
    (h : s.on (F.DMA_CHn_CFG_EN n) = false ∨ (s.dmaCh n).trigAt = some s.count) : Completes (.dmaGo w n v) s fun t => s.unmoved t :=
  ⟨_, rfl, write_unmoved hacc (DMA_CTRL_plain n) ((hook_go n hv).trans (dmaTrigger_idle h))⟩

/-! ### ABORT and CFG -/

/-- A channel that stops is disarmed, and has lost its transfer. -/
theorem dmaDrop_gives (hn : n < s.dma.length) : ((s.dmaDrop n).dmaCh n).xfer = none ∧ (s.dmaDrop n).on (F.DMA_CHn_CFG_EN n) = false ∧
    ((s.dmaDrop n).dmaCh n).ended = (s.dmaCh n).ended ∧ s.Writes (· = R.DMA_CHn_CFG n) (s.dmaDrop n) ∧ Moves [.regs, .cycle, .dma] s (s.dmaDrop n) ∧
    (∀ j, j ≠ n → (s.dmaDrop n).dmaCh j = s.dmaCh j) := by
  have hwork := (ChannelWork.refl s).modDma (n := n) (fun c => { ended := c.ended })
  have hch := dmaCh_modDma_same s (fun c => { ended := c.ended }) hn
  have hregs : (s.modDma n (fun c => { ended := c.ended })).regs = s.regs := rfl
  unfold dmaDrop
  have hmod : Moves [.regs, .cycle, .dma] s (s.modDma n (fun c => { ended := c.ended })) := .record (.refl s) (by rfl)
  generalize s.modDma n (fun c => { ended := c.ended }) = u at *
  have hd : (u.clr (F.DMA_CHn_CFG_EN n)).dma = u.dma := clr_dma ..
  refine ⟨?_, on_clr_same u _ (by simp), ?_, ?_, .put hmod, fun j hj => (dmaCh_of_dma hd j).trans (hwork.other j hj)⟩
  · rw [dmaCh_of_dma hd, hch]
  · rw [dmaCh_of_dma hd, hch]
  · exact .clr (.of_regs hregs) (f := F.DMA_CHn_CFG_EN n) rfl

theorem dmaAbort_drops (h : ∀ x, (s.dmaCh n).xfer = some x → x.inHand = false) : s.dmaAbort n = s.dmaDrop n := by
  unfold dmaAbort
  split
  · rename_i x hx
    exact if_neg (by rw [h x hx]; exact Bool.false_ne_true)
  · rfl

theorem dmaAbort_waits {x : DmaXfer} (hx : (s.dmaCh n).xfer = some x) (hin : x.inHand = true) :
    s.dmaAbort n = s.modDma n (fun c => { c with xfer := some { x with stopping := true } }) := by
  unfold dmaAbort
  rw [hx]
  exact if_pos hin

theorem hook_abort (n : Fin 16) (hv : bitAt v 0 = false) : s.hook (R.DMA_CHn_CTRL n) (v ||| 2) = s.dmaAbort n := by
  rw [hook_DMA_CHn_CTRL, dmaCtrl, bitAt_or v 2 (i := 1) (by decide), bitAt_or_other v 2 (i := 0) (by decide), hv]
  rfl

theorem dmaAbort_stops (s : State) (w : World) (n : Fin 16) (v : Word) (hs : s.Shaped) (hacc : s.accepts w (R.DMA_CHn_CTRL n) (v ||| 2))
    (hv : bitAt v 0 = false) (h : ∀ x, (s.dmaCh n).xfer = some x → x.inHand = false) :
    Completes (.dmaAbort w n v) s fun t =>
      (t.dmaCh n).xfer = none ∧ t.on (F.DMA_CHn_CFG_EN n) = false ∧ (t.dmaCh n).ended = (s.dmaCh n).ended ∧ t.events = s.events ∧
      (∀ b, b ≠ R.DMA_CHn_CFG n → t.rd b = s.rd b) ∧ t.mem = s.mem ∧ t.clk = s.clk := by
  have hm := write_moves hacc (DMA_CTRL_plain n)
  rw [hook_abort n hv, dmaAbort_drops h] at hm
  obtain ⟨hx, hen, hended, hw, hmd, _⟩ := dmaDrop_gives (s := s) (n := n) (hs.dma.symm ▸ n.isLt)
  have hch := dmaCh_of_dma hm.dma n
  exact ⟨_, rfl, (congrArg DmaCh.xfer hch).trans hx, (on_congr hm.regs _).trans hen, (congrArg DmaCh.ended hch).trans hended, hm.events.trans hmd.events,
    fun b hb => (rd_congr hm.regs b).trans (hw.rd hb), hm.mem.trans hmd.mem, hm.clk.trans hmd.clk⟩

theorem dmaAbort_defers (s : State) (w : World) (n : Fin 16) (v : Word) (hs : s.Shaped) (hacc : s.accepts w (R.DMA_CHn_CTRL n) (v ||| 2))
    (hv : bitAt v 0 = false) (x : DmaXfer) (hx : (s.dmaCh n).xfer = some x) (hin : x.inHand = true) :
    Completes (.dmaAbort w n v) s fun t =>
      (t.dmaCh n).xfer = some { x with stopping := true } ∧ t.regs = s.regs ∧ t.events = s.events ∧ t.mem = s.mem ∧ t.clk = s.clk := by
  have hm := write_moves hacc (DMA_CTRL_plain n)
  rw [hook_abort n hv, dmaAbort_waits hx hin] at hm
  have hmd := ((ChannelWork.refl s).modDma (n := n) (fun c => { c with xfer := some { x with stopping := true } })).moves
  have hch := (dmaCh_of_dma hm.dma n).trans (dmaCh_modDma_same s (fun c => { c with xfer := some { x with stopping := true } }) (hs.dma.symm ▸ n.isLt))
  exact ⟨_, rfl, congrArg DmaCh.xfer hch, hm.regs.trans hmd.regs, hm.events.trans hmd.events, hm.mem.trans hmd.mem, hm.clk.trans hmd.clk⟩

theorem dmaCfg_stored (s : State) (w : World) (n : Fin 16) (v : Word) (hacc : s.accepts w (R.DMA_CHn_CFG n) v) (hen : s.on (F.DMA_CHn_CFG_EN n) = false) :
    Completes (.dmaCfgWrite w n v) s fun t =>
      t.rd (R.DMA_CHn_CFG n) = s.stored (R.DMA_CHn_CFG n) v ∧ t.dma = s.dma ∧
      (∀ b, b ≠ R.DMA_CHn_CFG n → t.rd b = s.rd b) ∧ t.mem = s.mem ∧ t.clk = s.clk := by
  have hhook : s.hook (R.DMA_CHn_CFG n) v = s.storePlain (R.DMA_CHn_CFG n) v :=
    (hook_DMA_CHn_CFG s v n).trans (if_neg (by rw [hen]; exact Bool.false_ne_true))
  have hm := write_moves hacc (DMA_CFG_plain n)
  rw [hhook] at hm
  have hp := storePlain_moves s (R.DMA_CHn_CFG n) v
  exact ⟨_, rfl, (rd_congr hm.regs _).trans (rd_storePlain_same ..), hm.dma.trans hp.dma, fun b hb => (rd_congr hm.regs b).trans (rd_storePlain_other s v hb),
    hm.mem.trans hp.mem, hm.clk.trans hp.clk⟩

theorem dmaCfg_held (s : State) (w : World) (n : Fin 16) (v : Word) (hacc : s.accepts w (R.DMA_CHn_CFG n) v) (hen : s.on (F.DMA_CHn_CFG_EN n) = true)
    (hv : bitAt v 0 = true) : Completes (.dmaCfgWrite w n v) s fun t => s.unmoved t :=
  ⟨_, rfl, write_unmoved hacc (DMA_CFG_plain n) ((hook_DMA_CHn_CFG s v n).trans ((if_pos hen).trans (if_pos hv)))⟩

theorem dmaCfg_aborts (s : State) (w : World) (n : Fin 16) (v : Word) (hs : s.Shaped) (hacc : s.accepts w (R.DMA_CHn_CFG n) v)
    (hen : s.on (F.DMA_CHn_CFG_EN n) = true) (hv : bitAt v 0 = false) (h : ∀ x, (s.dmaCh n).xfer = some x → x.inHand = false) :
    Completes (.dmaCfgWrite w n v) s fun t =>
      (t.dmaCh n).xfer = none ∧ t.on (F.DMA_CHn_CFG_EN n) = false ∧ (∀ b, b ≠ R.DMA_CHn_CFG n → t.rd b = s.rd b) ∧ t.mem = s.mem ∧
      t.clk = s.clk := by
  have hhook : s.hook (R.DMA_CHn_CFG n) v = s.dmaDrop n :=
    (hook_DMA_CHn_CFG s v n).trans ((if_pos hen).trans ((if_neg (by rw [hv]; exact Bool.false_ne_true)).trans (dmaAbort_drops h)))
  have hm := write_moves hacc (DMA_CFG_plain n)
  rw [hhook] at hm
  obtain ⟨hx, hoff, _, hw, hmd, _⟩ := dmaDrop_gives (s := s) (n := n) (hs.dma.symm ▸ n.isLt)
  exact ⟨_, rfl, (congrArg DmaCh.xfer (dmaCh_of_dma hm.dma n)).trans hx, (on_congr hm.regs _).trans hoff, fun b hb => (rd_congr hm.regs b).trans (hw.rd hb),
    hm.mem.trans hmd.mem, hm.clk.trans hmd.clk⟩

end State
end Sys2Proof.Machine

/-! A word of a memory and its bytes, and the byte lanes of a write beat (R366, log entry 38). -/

namespace Sys2Proof.Machine

set_option Elab.async false

/-! ### The bytes of a memory, read in a row -/

theorem cellGet_below {α : Type} [DecidableEq α] (d : Nat → α) : ∀ (m : List (Nat × α)) (lo a : Nat), cellWf d lo m = true → a < lo → cellGet d m a = d a
  | [], _, _, _, _ => rfl
  | (k, v) :: rest, lo, a, h, ha => by
    simp only [cellWf, Bool.and_eq_true, decide_eq_true_eq] at h
    rw [cellGet, if_neg (by omega)]
    exact cellGet_below d rest (k + 1) a h.2 (by omega)

/-- A canonical memory whose cells lie at or above `a` fills a row from `a` on with what it holds there. -/
theorem fillBytes_eq : ∀ (n a : Nat) (m : Memory), cellWf (fun _ => (0 : Byte)) a m = true → fillBytes n a m = (List.range' a n).map (memGet m)
  | 0, _, _, _ => rfl
  | n + 1, a, [], _ => by
    rw [fillBytes, fillBytes_eq n (a + 1) [] rfl, List.range'_succ, List.map_cons]
    rfl
  | n + 1, a, (k, v) :: rest, h => by
    simp only [cellWf, Bool.and_eq_true, decide_eq_true_eq] at h
    obtain ⟨⟨hk, hv⟩, hrest⟩ := h
    rw [fillBytes, List.range'_succ, List.map_cons]
    split
    case isTrue hka =>
      subst hka
      rw [fillBytes_eq n (k + 1) rest hrest]
      refine congrArg₂ List.cons (if_pos rfl).symm (List.map_congr_left fun b hb => ?_)
      have hb' := (List.mem_range'_1.1 hb).1
      exact (if_neg (by omega)).symm
    case isFalse hka =>
      have hge : cellWf (fun _ => (0 : Byte)) (a + 1) ((k, v) :: rest) = true := by
        simp only [cellWf, Bool.and_eq_true, decide_eq_true_eq]
        exact ⟨⟨by omega, hv⟩, hrest⟩
      rw [fillBytes_eq n (a + 1) _ hge]
      exact congrArg₂ List.cons (cellGet_below _ _ (a + 1) a hge (by omega)).symm rfl

theorem dropWhile_wf : ∀ (m : Memory) (lo a : Nat), cellWf (fun _ => (0 : Byte)) lo m = true →
    cellWf (fun _ => (0 : Byte)) a (m.dropWhile (fun c => c.1 < a)) = true
  | [], _, _, _ => rfl
  | (k, v) :: rest, lo, a, h => by
    have hall := h
    simp only [cellWf, Bool.and_eq_true, decide_eq_true_eq] at h
    rw [List.dropWhile_cons]
    split
    · exact dropWhile_wf rest (k + 1) a h.2
    · rename_i hk
      simp only [decide_eq_true_eq, Nat.not_lt] at hk
      simp only [cellWf, Bool.and_eq_true, decide_eq_true_eq]
      exact ⟨⟨hk, h.1.2⟩, h.2⟩

theorem memGet_dropWhile : ∀ (m : Memory) (a b : Nat), a ≤ b → memGet (m.dropWhile (fun c => c.1 < a)) b = memGet m b
  | [], _, _, _ => rfl
  | (k, v) :: rest, a, b, hab => by
    rw [List.dropWhile_cons]
    split
    · rename_i hk
      simp only [decide_eq_true_eq] at hk
      exact (memGet_dropWhile rest a b hab).trans (if_neg (by omega)).symm
    · rfl

theorem memBytes_eq (m : Memory) (a n : Nat) (h : cellWf (fun _ => (0 : Byte)) 0 m = true) : memBytes m a n = (List.range' a n).map (memGet m) := by
  rw [memBytes, fillBytes_eq n a _ (dropWhile_wf m 0 a h)]
  exact List.map_congr_left fun b hb => memGet_dropWhile m a b (List.mem_range'_1.1 hb).1

/-- A byte of a word. -/
def laneByte (v : Word) (i : Nat) : Byte := BitVec.ofNat 8 (getBits v (8 * i) 8)

theorem laneByte_memWord (m : Memory) (a : Nat) (h : cellWf (fun _ => (0 : Byte)) 0 m = true) {i : Nat} (hi : i < 4) :
    laneByte (memWord m a) i = memGet m (a + i) := by
  have hb0 := (memGet m a).isLt
  have hb1 := (memGet m (a + 1)).isLt
  have hb2 := (memGet m (a + 2)).isLt
  have hb3 := (memGet m (a + 3)).isLt
  have hword : (memWord m a).toNat = (memGet m a).toNat + 256 * ((memGet m (a + 1)).toNat + 256 * ((memGet m (a + 2)).toNat + 256 * (memGet m (a + 3)).toNat)) := by
    rw [memWord, memBytes_eq m a 4 h]
    show (BitVec.ofNat 32 ((memGet m a).toNat + 256 * ((memGet m (a + 1)).toNat + 256 * ((memGet m (a + 2)).toNat + 256 * ((memGet m (a + 3)).toNat + 256 * 0))))).toNat = _
    rw [BitVec.toNat_ofNat, Nat.mod_eq_of_lt (by omega), Nat.mul_zero, Nat.add_zero (memGet m (a + 3)).toNat]
  apply BitVec.eq_of_toNat_eq
  rw [laneByte, getBits, hword, BitVec.toNat_ofNat]
  interval_cases i <;> simp only [Nat.reduceMul, Nat.reducePow, Nat.add_zero, Nat.pow_zero] <;> omega

/-- A word stored at a memory's address, byte by byte. -/
theorem memGet_memSetWord (m : Memory) (a : Nat) (v : Word) {i : Nat} (hi : i < 4) : memGet (memSetWord m a v) (a + i) = laneByte v i := by
  have hlen : (leBytes 4 v.toNat).length = 4 := rfl
  rw [memSetWord, memGet_memSetBytes, hlen, if_pos (by omega), Nat.add_sub_cancel_left]
  apply BitVec.eq_of_toNat_eq
  rw [laneByte, getBits]
  interval_cases i <;> simp only [leBytes, List.getD_cons_zero, List.getD_cons_succ, BitVec.toNat_ofNat] <;> omega

theorem memGet_memSetWord_other (m : Memory) (a b : Nat) (v : Word) (h : b < a ∨ a + 4 ≤ b) : memGet (memSetWord m a v) b = memGet m b := by
  have hlen : (leBytes 4 v.toNat).length = 4 := rfl
  rw [memSetWord, memGet_memSetBytes, hlen, if_neg (by omega)]

/-! ### Enabled bytes (log entry 38) -/

theorem laneByte_setBits (v : Word) {i j : Nat} (n : Nat) (hi : i < 4) (hj : j < 4) :
    laneByte (setBits v (8 * j) 8 n) i = if j = i then BitVec.ofNat 8 n else laneByte v i := by
  unfold laneByte
  split
  · rename_i h
    rw [h, getBits_setBits_same _ _ _ _ (by omega)]
    apply BitVec.eq_of_toNat_eq
    rw [BitVec.toNat_ofNat, BitVec.toNat_ofNat, Nat.mod_mod]
  · rw [getBits_setBits_apart v (8 * j) 8 (8 * i) 8 n (by omega) (by omega)]

theorem laneByte_foldl_merge (v : Word) (be : BitVec 4) (l : List Nat) (hl : ∀ j ∈ l, j < 4) (old : Word) {i : Nat} (hi : i < 4) :
    laneByte (l.foldl (fun x j => if be.getLsbD j then setBits x (8 * j) 8 (getBits v (8 * j) 8) else x) old) i =
      if i ∈ l ∧ be.getLsbD i = true then laneByte v i else laneByte old i := by
  induction l generalizing old with
  | nil => rw [if_neg fun h => List.not_mem_nil h.1]; rfl
  | cons j l ih =>
    rw [List.foldl_cons, ih (fun k hk => hl k (List.mem_cons_of_mem j hk))]
    have hj := hl j List.mem_cons_self
    by_cases hb : be.getLsbD j = true
    · rw [if_pos hb, laneByte_setBits _ _ hi hj]
      by_cases hji : j = i
      · subst hji
        simp [hb, laneByte]
      · simp [hji, Ne.symm hji]
    · rw [if_neg hb]
      by_cases hji : j = i
      · subst hji
        simp [hb]
      · simp [Ne.symm hji]

theorem laneByte_mergeBytes (old v : Word) (be : BitVec 4) {i : Nat} (hi : i < 4) :
    laneByte (mergeBytes old v be) i = if be.getLsbD i = true then laneByte v i else laneByte old i := by
  rw [mergeBytes, laneByte_foldl_merge v be (List.range 4) (fun _ h => List.mem_range.1 h) old hi]
  simp [hi]

/-! ### The lanes of a write beat (R366) -/

/-- Lanes made from a condition and a source for each byte of the word. -/
def lanesOf (c : Nat → Bool) (g : Nat → Nat) (l : List Nat) : List (Nat × Nat) := l.filterMap (fun i => if c i then some (i, g i) else none)

theorem lanes_eq (x : DmaXfer) (k : Nat) :
    x.lanes k = lanesOf (fun i => decide (x.dst % 4 ≤ 4 * k + i ∧ 4 * k + i < x.dst % 4 + x.len)) (fun i => 4 * k + i - x.dst % 4) (List.range 4) := by
  unfold DmaXfer.lanes lanesOf
  simp only [decide_eq_true_eq]

variable {c : Nat → Bool} {g : Nat → Nat} {i : Nat}

theorem lanesOf_cons (j : Nat) (l : List Nat) : lanesOf c g (j :: l) = if c j = true then (j, g j) :: lanesOf c g l else lanesOf c g l := by
  unfold lanesOf
  rw [List.filterMap_cons]
  by_cases hj : c j = true
  · rw [if_pos hj, if_pos hj]
  · rw [if_neg hj, if_neg hj]

theorem find_lanesOf (l : List Nat) : (lanesOf c g l).find? (fun p => p.1 == i) = if i ∈ l ∧ c i = true then some (i, g i) else none := by
  induction l with
  | nil => rw [if_neg fun h => List.not_mem_nil h.1]; rfl
  | cons j l ih =>
    by_cases hj : c j = true
    · rw [lanesOf_cons, if_pos hj, List.find?_cons]
      by_cases hji : j = i
      · subst hji
        simp [hj]
      · have hne : (j == i) = false := beq_eq_false_iff_ne.2 hji
        rw [hne]
        simp only [ih, List.mem_cons, Ne.symm hji, false_or]
    · rw [lanesOf_cons, if_neg hj, ih]
      by_cases hji : j = i
      · subst hji
        simp [hj]
      · simp [Ne.symm hji]

theorem laneByte_lanesOf (f : Nat → Byte) (l : List Nat) (hl : ∀ j ∈ l, j < 4) (old : Word) (hi : i < 4) :
    laneByte ((lanesOf c g l).foldl (fun (w : Word) p => setBits w (8 * p.1) 8 (f p.2).toNat) old) i =
      if i ∈ l ∧ c i = true then f (g i) else laneByte old i := by
  induction l generalizing old with
  | nil => rw [if_neg fun h => List.not_mem_nil h.1]; rfl
  | cons j l ih =>
    have hl' := fun k hk => hl k (List.mem_cons_of_mem j hk)
    have hj4 := hl j List.mem_cons_self
    by_cases hj : c j = true
    · rw [lanesOf_cons, if_pos hj, List.foldl_cons, ih hl', laneByte_setBits _ _ hi hj4]
      by_cases hji : j = i
      · subst hji
        simp [hj]
      · simp [hji, Ne.symm hji]
    · rw [lanesOf_cons, if_neg hj, ih hl']
      by_cases hji : j = i
      · subst hji
        simp [hj]
      · simp [Ne.symm hji]

theorem enables_lanesOf (l : List Nat) (hl : ∀ j ∈ l, j < 4) (old : BitVec 4) (hi : i < 4) :
    ((lanesOf c g l).foldl (fun (b : BitVec 4) p => b ||| (1#4 <<< p.1)) old).getLsbD i = (old.getLsbD i || decide (i ∈ l ∧ c i = true)) := by
  induction l generalizing old with
  | nil => simp [lanesOf]
  | cons j l ih =>
    have hl' := fun k hk => hl k (List.mem_cons_of_mem j hk)
    have hj4 := hl j List.mem_cons_self
    have hshift : (1#4 <<< j).getLsbD i = decide (j = i) := by
      rw [BitVec.getLsbD_shiftLeft, BitVec.getLsbD_one]
      by_cases hji : j = i
      · subst hji
        simp [hi]
      · simp [hji]
        omega
    by_cases hj : c j = true
    · rw [lanesOf_cons, if_pos hj, List.foldl_cons, ih hl', BitVec.getLsbD_or, hshift]
      by_cases hji : j = i
      · subst hji
        simp [hj]
      · simp [hji, Ne.symm hji]
    · rw [lanesOf_cons, if_neg hj, ih hl']
      by_cases hji : j = i
      · subst hji
        simp [hj]
      · simp [Ne.symm hji]

end Sys2Proof.Machine

/-! Beats of a DMA channel, and the settling of the DMA's transfers (R366 to R371). -/

namespace Sys2Proof.Machine

set_option Elab.async false
namespace State

variable {s t u : State} {n o : Nat} {x : DmaXfer}

/-! ### The bus at an open SRAM word (R346, R364) -/

theorem regionOf_sram (ho : o < 0x60000) : regionOf (0x10000000 + 4 * o) = .sramOpen := by
  unfold regionOf
  rw [if_neg (by omega), if_pos (by omega)]

theorem sram_aligned (o : Nat) : (0x10000000 + 4 * o) / 4 * 4 = 0x10000000 + 4 * o := by omega

theorem regionAllows_takePort (s : State) (a : Nat) (w : World) (write : Bool) (b : Nat) : (s.takePort a).regionAllows w write b = s.regionAllows w write b := by
  obtain ⟨y, hy⟩ := takePort_shape s a
  rw [hy]
  rfl

/-- A word without an error is read as it is. -/
theorem sramRead_clean (hgood : ¬ 4 * o ∈ s.mem.sramBad) (hcorrect : ¬ 4 * o ∈ s.mem.sramCorrectable) :
    s.sramRead (4 * o) = (s, some (memWord s.mem.sram (4 * o))) := by
  unfold sramRead sramCorrect
  rw [if_neg hgood, if_neg hcorrect]

theorem busRead_sram (m : Master) (w : World) (ho : o < 0x60000) (hallow : s.regionAllows w false (0x10000000 + 4 * o) = true)
    (hgood : ¬ 4 * o ∈ s.mem.sramBad) (hcorrect : ¬ 4 * o ∈ s.mem.sramCorrectable) :
    s.busRead m w (0x10000000 + 4 * o) = (s, memWord s.mem.sram (4 * o), .written) := by
  have hread := sramRead_clean hgood hcorrect
  unfold busRead
  dsimp only
  rw [sram_aligned, regionOf_sram ho]
  dsimp only
  rw [if_pos hallow, Nat.add_sub_cancel_left, hread]

/-- The word that a write with these enables leaves. -/
def wordWritten (s : State) (o : Nat) (v : Word) (be : BitVec 4) : Word := if be = 15 then v else mergeBytes (memWord s.mem.sram (4 * o)) v be

theorem busWrite_sram (m : Master) (w : World) (v : Word) (be : BitVec 4) (ho : o < 0x60000)
    (hallow : s.regionAllows w true (0x10000000 + 4 * o) = true) (hgood : ¬ 4 * o ∈ s.mem.sramBad) (hcorrect : ¬ 4 * o ∈ s.mem.sramCorrectable) :
    ∃ c b, s.busWrite m w (0x10000000 + 4 * o) v be =
      (s.modMem (fun y => { y with sram := memSetWord y.sram (4 * o) (s.wordWritten o v be), sramCorrectable := c, sramBad := b }), .written) := by
  have hread := sramRead_clean hgood hcorrect
  have hwrite : ∃ c b, s.sramWrite (4 * o) v be =
      (s.modMem (fun y => { y with sram := memSetWord y.sram (4 * o) (s.wordWritten o v be), sramCorrectable := c, sramBad := b }), true) := by
    unfold sramWrite wordWritten
    by_cases hbe : be = 15
    · rw [if_pos hbe, if_pos hbe]
      exact ⟨_, _, rfl⟩
    · rw [if_neg hbe, if_neg hbe, hread]
      exact ⟨s.mem.sramCorrectable, s.mem.sramBad, rfl⟩
  obtain ⟨c, b, hw⟩ := hwrite
  refine ⟨c, b, ?_⟩
  unfold busWrite
  dsimp only
  rw [sram_aligned, regionOf_sram ho]
  dsimp only
  rw [if_pos hallow, Nat.add_sub_cancel_left, hw]

theorem takePort_dma (s : State) (a : Nat) : (s.takePort a).dma = s.dma := (takePort_moves s a).dma

/-! ### A read beat (R368) -/

/-- The transfer with one word more. -/
def readInto (s : State) (x : DmaXfer) (v : Word) : DmaXfer := { x with reads := x.reads + 1, words := x.words ++ [v], readAt := x.readAt ++ [s.count] }

theorem dmaBeat_reads {wrong : Nat} (hruns : s.coreRuns = true) (hx : (s.dmaCh n).xfer = some x) (hready : x.ready s.count = false)
    (hstop : x.stopping = false) (hmore : x.reads < x.readCount) (hdue : s.due (s.dmaCh n).grantAt = true) (hport : s.portFree n (s.dmaFrom n x) = true) :
    s.dmaBeat n wrong = s.dmaRead n x wrong := by
  have hreads : s.dmaReads n x = true := by
    rw [dmaReads, hstop, hdue]
    simpa using hmore
  unfold dmaBeat
  rw [if_pos hruns, hx]
  dsimp only
  rw [hready, hreads, hport]
  rfl

theorem dmaRead_sram (hfrom : s.dmaFrom n x = 0x10000000 + 4 * o) (ho : o < 0x60000)
    (hallow : s.regionAllows (s.dmaWorld n) false (0x10000000 + 4 * o) = true) (hgood : ¬ 4 * o ∈ s.mem.sramBad) (hcorrect : ¬ 4 * o ∈ s.mem.sramCorrectable) :
    s.dmaRead n x 0 =
      let v := (s.takePort (0x10000000 + 4 * o)).modDma n (fun c => { c with xfer := some (s.readInto x (memWord s.mem.sram (4 * o))) })
      if x.reads + 1 < x.readCount then v.dmaGrant n else v := by
  have hp := takePort_moves s (0x10000000 + 4 * o)
  have hbus : (s.takePort (0x10000000 + 4 * o)).busRead (.dma n) (s.dmaWorld n) (0x10000000 + 4 * o) =
      (s.takePort (0x10000000 + 4 * o), memWord s.mem.sram (4 * o), .written) := by
    rw [busRead_sram _ _ ho ((regionAllows_takePort ..).trans hallow) (hp.mem.symm ▸ hgood) (hp.mem.symm ▸ hcorrect), hp.mem]
  have hupset : (if regionOf (0x10000000 + 4 * o) = .sramOpen then s.sramUpset (0x10000000 + 4 * o - 0x10000000) 0 else s) = s :=
    (if_pos (regionOf_sram ho)).trans (if_pos (.inl rfl))
  unfold dmaRead
  dsimp only
  rw [hfrom, hupset, hbus]
  rfl

theorem dmaRead_takes (s : State) (n : Fin 16) (x : DmaXfer) (o : Nat) (hs : s.Shaped) (hruns : s.coreRuns = true) (hx : (s.dmaCh n).xfer = some x)
    (hready : x.ready s.count = false) (hstop : x.stopping = false) (hmore : x.reads < x.readCount) (hdue : s.due (s.dmaCh n).grantAt = true)
    (hfrom : s.dmaFrom n x = 0x10000000 + 4 * o) (ho : o < 0x60000) (hport : s.portFree n (0x10000000 + 4 * o) = true)
    (hallow : s.regionAllows (s.dmaWorld n) false (0x10000000 + 4 * o) = true) (hgood : ¬ 4 * o ∈ s.mem.sramBad) (hcorrect : ¬ 4 * o ∈ s.mem.sramCorrectable) :
    Completes (.dmaBeat n 0) s fun t =>
      (t.dmaCh n).xfer = some { x with
        reads := x.reads + 1, words := x.words ++ [memWord s.mem.sram (4 * o)], readAt := x.readAt ++ [s.count] } ∧
      (s.perturbs 4 = false → x.reads + 1 < x.readCount → (t.dmaCh n).grantAt = s.count + 1) ∧ (∀ j : Fin 16, j ≠ n → t.dmaCh j = s.dmaCh j) ∧
      t.regs = s.regs ∧ t.mem = s.mem ∧ t.clk = s.clk := by
  have hexec : exec (.dmaBeat n 0) s = .next _ := congrArg Host.Outcome.next
    ((dmaBeat_reads (wrong := 0) hruns hx hready hstop hmore hdue (hfrom.symm ▸ hport)).trans (dmaRead_sram hfrom ho hallow hgood hcorrect))
  have hp := takePort_moves s (0x10000000 + 4 * o)
  generalize s.takePort (0x10000000 + 4 * o) = u at hexec hp
  have hun : n.val < u.dma.length := by
    rw [hp.dma, hs.dma]
    exact n.isLt
  have hwork := (ChannelWork.refl u).modDma (n := n) (fun c => { c with xfer := some (s.readInto x (memWord s.mem.sram (4 * o))) })
  have hch := dmaCh_modDma_same u (fun c => { c with xfer := some (s.readInto x (memWord s.mem.sram (4 * o))) }) hun
  generalize u.modDma n (fun c => { c with xfer := some (s.readInto x (memWord s.mem.sram (4 * o))) }) = v at hexec hwork hch
  have hvn : n.val < v.dma.length := hwork.length.symm ▸ hun
  have hmv : Moves [.cycle, .tst, .dma] s v := (hp.mono (by decide)).trans (hwork.moves.mono (by decide))
  have hother : ∀ j, j ≠ n.val → v.dmaCh j = s.dmaCh j := fun j hj => (hwork.other j hj).trans (dmaCh_of_dma hp.dma j)
  refine ⟨_, hexec, ?_⟩
  dsimp only
  split
  case isTrue hlast =>
    have hg := (ChannelWork.refl v).dmaGrant (n := n)
    have hgch := dmaCh_dmaGrant v hvn
    have hm := hmv.trans (hg.moves.mono (by decide))
    refine ⟨?_, fun hq _ => ?_, fun j hj => (hg.other j (Fin.val_ne_of_ne hj)).trans (hother j (Fin.val_ne_of_ne hj)), hm.regs, hm.mem, hm.clk⟩
    · rw [hgch, hch]
      rfl
    · have hvq : v.perturbs 4 = false := (perturbs_of_regs hmv.regs 4).trans hq
      have hcount : v.count = s.count := congrArg (fun c : Clk => c.count.toNat) hmv.clk
      rw [hgch, disturb_quiet hvq, hcount]
      rfl
  case isFalse hlast =>
    refine ⟨?_, fun _ h => absurd h hlast, fun j hj => hother j (Fin.val_ne_of_ne hj), hmv.regs, hmv.mem, hmv.clk⟩
    rw [hch]
    rfl

/-! ### A write beat (R366 to R370) -/

/-- The data and the enables of a write beat. -/
def beatData (x : DmaXfer) : Word := (x.lanes x.writes).foldl (fun (w : Word) l => setBits w (8 * l.1) 8 (x.byte l.2).toNat) 0
def beatEnables (x : DmaXfer) : BitVec 4 := (x.lanes x.writes).foldl (fun b l => b ||| (1#4 <<< l.1)) 0

/-- The transfer with one write more. -/
def wroteOn (s : State) (x : DmaXfer) : DmaXfer := { x with writes := x.writes + 1, wroteAt := some s.count, hold := 0 }

/-- What follows a write beat that was taken. -/
def beatTaken (t : State) (n : Nat) (y : DmaXfer) : State :=
  if y.writes = y.writeCount then t.dmaDone n y
  else if y.stopping && !y.inHand then t.dmaDrop n
  else (t.modDma n (fun c => { c with xfer := some y })).dmaHold n

theorem dmaWrite_sram (hx : (s.dmaCh n).xfer = some x) (hdest : s.dmaDest n x x.writes = 0x10000000 + 4 * o) (ho : o < 0x60000)
    (hallow : s.regionAllows (s.dmaWorld n) true (0x10000000 + 4 * o) = true) (hgood : ¬ 4 * o ∈ s.mem.sramBad) (hcorrect : ¬ 4 * o ∈ s.mem.sramCorrectable) :
    ∃ c b, s.dmaWrite n x = beatTaken ((s.takePort (0x10000000 + 4 * o)).modMem (fun y => { y with
      sram := memSetWord y.sram (4 * o) (s.wordWritten o (beatData x) (beatEnables x)), sramCorrectable := c, sramBad := b })) n (s.wroteOn x) := by
  have hp := takePort_moves s (0x10000000 + 4 * o)
  have hplain : movesPolicy (0x10000000 + 4 * o) = false := by
    have hlt : 0x10000000 + 4 * o < 0x40000000 := by omega
    generalize 0x10000000 + 4 * o = a at hlt
    have hlink : isIn a (R.GDP_LINKn_CFG 0) 0x20 2 = false := by
      simp only [isIn, idx?, R.GDP_LINKn_CFG]
      rw [if_neg (by omega)]
      rfl
    simp only [movesPolicy, hlink, Bool.or_false, Bool.or_eq_false_iff, beq_eq_false_iff_ne, R.SYS_LTR, R.GRN_CTRL, R.RING_CTRL]
    omega
  obtain ⟨c, b, hbus⟩ := busWrite_sram (s := s.takePort (0x10000000 + 4 * o)) (.dma n) (s.dmaWorld n) (beatData x) (beatEnables x) ho
    ((regionAllows_takePort ..).trans hallow) (hp.mem.symm ▸ hgood) (hp.mem.symm ▸ hcorrect)
  have hword : (s.takePort (0x10000000 + 4 * o)).wordWritten o (beatData x) (beatEnables x) = s.wordWritten o (beatData x) (beatEnables x) := by
    unfold wordWritten
    rw [hp.mem]
  rw [hword] at hbus
  refine ⟨c, b, ?_⟩
  unfold dmaWrite
  dsimp only
  rw [hdest, policyFor_plain _ hplain]
  show (match (s.takePort (0x10000000 + 4 * o)).busWrite (.dma n) (s.dmaWorld n) (0x10000000 + 4 * o) (beatData x) (beatEnables x) with
    | (t, .written) | (t, .locked) | (t, .unlisted) =>
      if (t.dmaCh n).xfer.isNone then t
      else if (s.wroteOn x).writes = (s.wroteOn x).writeCount then t.dmaDone n (s.wroteOn x)
      else if (s.wroteOn x).stopping && !(s.wroteOn x).inHand then t.dmaDrop n
      else (t.modDma n (fun c => { c with xfer := some (s.wroteOn x) })).dmaHold n
    | (t, why) => t.dmaStop n (0x10000000 + 4 * o) why) = _
  rw [hbus]
  refine (if_neg ?_).trans rfl
  have hdma : (s.takePort (0x10000000 + 4 * o)).dmaCh n = s.dmaCh n := dmaCh_of_dma (takePort_dma ..) n
  show ¬ ((s.takePort (0x10000000 + 4 * o)).dmaCh n).xfer.isNone = true
  rw [hdma, hx]
  exact Bool.false_ne_true

end State
end Sys2Proof.Machine

/-! What follows a write beat, a beat that stops its channel, and the settling of the DMA's transfers (R366 to R371). -/

namespace Sys2Proof.Machine

set_option Elab.async false
namespace State

variable {s t u : State} {n o : Nat} {x y : DmaXfer}

/-! ### The end of a transfer (R367, R370) -/

theorem update_moves (s : State) (f : Fld) (k : Nat) : Moves [.regs, .cycle] s (s.update f k) := .ite (.refl s) (.put (.refl s))

/-- A channel that ends or stops by itself: its record, and EN where software writes nothing to it in this cycle. -/
theorem dmaEnd_gives (hn : n < s.dma.length) : Moves [.regs, .cycle, .dma] s (s.dmaEnd n) ∧
    (s.dmaEnd n).dma.length = s.dma.length ∧ (s.dmaEnd n).dmaCh n = { ended := (s.dmaCh n).ended } ∧
    (∀ j, j ≠ n → (s.dmaEnd n).dmaCh j = s.dmaCh j) ∧ s.Writes (· = R.DMA_CHn_CFG n) (s.dmaEnd n) ∧
    (s.writtenNow (F.DMA_CHn_CFG_EN n) = false → (s.dmaEnd n).on (F.DMA_CHn_CFG_EN n) = false) := by
  have hwork := (ChannelWork.refl s).modDma (n := n) (fun c => { ended := c.ended })
  have hch := dmaCh_modDma_same s (fun c => { ended := c.ended }) hn
  have hmod : Moves [.regs, .cycle, .dma] s (s.modDma n (fun c => { ended := c.ended })) := .record (.refl s) (by rfl)
  have hwritten : (s.modDma n (fun c => { ended := c.ended })).writtenNow (F.DMA_CHn_CFG_EN n) = s.writtenNow (F.DMA_CHn_CFG_EN n) := rfl
  unfold dmaEnd
  generalize s.modDma n (fun c => { ended := c.ended }) = u at *
  have hu := update_moves u (F.DMA_CHn_CFG_EN n) 0
  refine ⟨hmod.trans (hu.mono (by decide)), (congrArg List.length hu.dma).trans hwork.length, (dmaCh_of_dma hu.dma n).trans hch,
    fun j hj => (dmaCh_of_dma hu.dma j).trans (hwork.other j hj), ?_, fun h => ?_⟩
  · exact .ite (.of_regs hwork.moves.regs) (.put (.of_regs hwork.moves.regs) (f := F.DMA_CHn_CFG_EN n) rfl)
  · rw [update, if_neg (by rw [hwritten, h]; exact Bool.false_ne_true)]
    exact on_clr_same u (F.DMA_CHn_CFG_EN n) (by simp)

/-- A transfer that has completed: armed again with REARM, else disarmed; its event is due. -/
theorem dmaDone_gives (hn : n < s.dma.length) : Moves [.regs, .cycle, .dma] s (s.dmaDone n y) ∧
    ((s.dmaDone n y).dmaCh n).xfer = none ∧ ((s.dmaDone n y).dmaCh n).ended = true ∧ (∀ j, j ≠ n → (s.dmaDone n y).dmaCh j = s.dmaCh j) ∧
    (s.on (F.DMA_CHn_CFG_REARM n) = false → s.writtenNow (F.DMA_CHn_CFG_EN n) = false → (s.dmaDone n y).on (F.DMA_CHn_CFG_EN n) = false) ∧
    (s.on (F.DMA_CHn_CFG_REARM n) = true → (s.dmaDone n y).regs = s.regs) := by
  unfold dmaDone
  dsimp only
  by_cases hre : s.on (F.DMA_CHn_CFG_REARM n) = true
  · rw [if_pos hre]
    generalize (if s.get (F.DMA_CHn_CFG_DRING n) = 0 ∨ (!s.on (F.DMA_CHn_CFG_DINC n)) = true then none
      else some (ringAdvance (s.rd (R.DMA_CHn_DST n)).toNat y.dst y.len (s.get (F.DMA_CHn_CFG_DRING n)))) = next
    have hwork := ((ChannelWork.refl s).modDma (n := n) (fun c => { trigAt := c.trigAt, ringNext := next })).modDma (fun c => { c with ended := true })
    have hch := dmaCh_modDma_same s (fun c => { trigAt := c.trigAt, ringNext := next }) hn
    have hmod : Moves [.regs, .cycle, .dma] s ((s.modDma n (fun c => { trigAt := c.trigAt, ringNext := next })).modDma n (fun c => { c with ended := true })) :=
      .record (.refl s) (by rfl)
    have hch' := dmaCh_modDma_same (s.modDma n (fun c => { trigAt := c.trigAt, ringNext := next })) (fun c => { c with ended := true })
      ((length_upd s.dma n _).symm ▸ hn)
    rw [hch] at hch'
    exact ⟨hmod, congrArg DmaCh.xfer hch', congrArg DmaCh.ended hch', hwork.other, fun h => absurd hre (by rw [h]; exact Bool.false_ne_true),
      fun _ => hwork.moves.regs⟩
  · rw [if_neg hre]
    obtain ⟨hm, hlen, hch, hother, _, hen⟩ := dmaEnd_gives (s := s) hn
    generalize s.dmaEnd n = u at *
    have hwork := (ChannelWork.refl u).modDma (n := n) (fun c => { c with ended := true })
    have hch' := dmaCh_modDma_same u (fun c => { c with ended := true }) (hlen.symm ▸ hn)
    rw [hch] at hch'
    exact ⟨hm.record (by rfl), congrArg DmaCh.xfer hch', congrArg DmaCh.ended hch', fun j hj => (hwork.other j hj).trans (hother j hj),
      fun _ h => (on_congr hwork.moves.regs _).trans (hen h), fun h => absurd h hre⟩

/-- What a write beat leaves, however it goes on. -/
theorem beatTaken_gives (hn : n < s.dma.length) : Moves [.regs, .cycle, .dma, .tst] s (beatTaken s n y) ∧
    (∀ j, j ≠ n → (beatTaken s n y).dmaCh j = s.dmaCh j) ∧
    (y.writes ≠ y.writeCount → (y.stopping && !y.inHand) = false → (beatTaken s n y).regs = s.regs ∧
      (s.perturbs 4 = false → y.hold = 0 → ((beatTaken s n y).dmaCh n).xfer = some y)) ∧
    (y.writes ≠ y.writeCount → y.stopping = true → y.inHand = false → ((beatTaken s n y).dmaCh n).xfer = none ∧
      (beatTaken s n y).on (F.DMA_CHn_CFG_EN n) = false ∧ ((beatTaken s n y).dmaCh n).ended = (s.dmaCh n).ended) ∧
    (y.writes = y.writeCount → ((beatTaken s n y).dmaCh n).xfer = none ∧ ((beatTaken s n y).dmaCh n).ended = true ∧
      (s.on (F.DMA_CHn_CFG_REARM n) = false → s.writtenNow (F.DMA_CHn_CFG_EN n) = false → (beatTaken s n y).on (F.DMA_CHn_CFG_EN n) = false) ∧
      (s.on (F.DMA_CHn_CFG_REARM n) = true → (beatTaken s n y).regs = s.regs)) := by
  unfold beatTaken
  split
  case isTrue hlast =>
    obtain ⟨hm, hxfer, hended, hother, hen, hregs⟩ := dmaDone_gives (s := s) (y := y) hn
    exact ⟨hm.mono (by decide), hother, fun h => absurd hlast h, fun h => absurd hlast h, fun _ => ⟨hxfer, hended, hen, hregs⟩⟩
  case isFalse hlast =>
    split
    case isTrue hdrop =>
      obtain ⟨hxfer, hen, hended, _, hm, hother⟩ := dmaDrop_gives (s := s) hn
      exact ⟨hm.mono (by decide), hother, fun _ h => absurd hdrop (by rw [h]; exact Bool.false_ne_true), fun _ _ _ => ⟨hxfer, hen, hended⟩,
        fun h => absurd h hlast⟩
    case isFalse hgo =>
      have hwork := (ChannelWork.refl s).modDma (n := n) (fun c => { c with xfer := some y })
      have hch := dmaCh_modDma_same s (fun c => { c with xfer := some y }) hn
      generalize s.modDma n (fun c => { c with xfer := some y }) = u at *
      have hhold := hwork.dmaHold
      have hch' := dmaCh_dmaHold u (hwork.length.symm ▸ hn)
      refine ⟨hhold.moves.mono (by decide), hhold.other, fun _ _ => ⟨hhold.moves.regs, fun hq h0 => ?_⟩, fun _ h1 h2 => ?_, fun h => absurd h hlast⟩
      · have huq : u.perturbs 4 = false := (perturbs_of_regs hwork.moves.regs 4).trans hq
        rw [hch', hch, disturb_quiet huq]
        exact congrArg some (by rw [← h0])
      · exact absurd (by rw [h1, h2]; rfl) hgo

/-! ### The bytes that a write beat stores (R366) -/

theorem beat_bytes (hcanon : s.Canonical) {i : Nat} (hi : i < 4) :
    memGet (memSetWord s.mem.sram (4 * o) (s.wordWritten o (beatData x) (beatEnables x))) (4 * o + i) =
      match (x.lanes x.writes).find? (fun l => l.1 == i) with
      | some l => x.byte l.2
      | none => memGet s.mem.sram (4 * o + i) := by
  have hrange : ∀ j ∈ List.range 4, j < 4 := fun _ h => List.mem_range.1 h
  have hmem : i ∈ List.range 4 := List.mem_range.2 hi
  rw [memGet_memSetWord _ _ _ hi, lanes_eq]
  generalize hc : (fun i => decide (x.dst % 4 ≤ 4 * x.writes + i ∧ 4 * x.writes + i < x.dst % 4 + x.len)) = c
  generalize hg : (fun i => 4 * x.writes + i - x.dst % 4) = g
  have hdata : laneByte (beatData x) i = if i ∈ List.range 4 ∧ c i = true then x.byte (g i) else laneByte 0 i := by
    rw [beatData, lanes_eq, hc, hg]
    exact laneByte_lanesOf x.byte (List.range 4) hrange 0 hi
  have hen : (beatEnables x).getLsbD i = c i := by
    rw [beatEnables, lanes_eq, hc, hg, enables_lanesOf (List.range 4) hrange 0 hi]
    simp [hi]
  have hword : laneByte (s.wordWritten o (beatData x) (beatEnables x)) i = if c i = true then laneByte (beatData x) i else memGet s.mem.sram (4 * o + i) := by
    unfold wordWritten
    split
    case isTrue hall =>
      have hci : c i = true := by
        rw [← hen, hall]
        interval_cases i <;> rfl
      rw [if_pos hci]
    case isFalse =>
      rw [laneByte_mergeBytes _ _ _ hi, hen, laneByte_memWord _ _ hcanon.sram hi]
  rw [hword, hdata, find_lanesOf]
  by_cases hci : c i = true
  · rw [if_pos hci, if_pos ⟨hmem, hci⟩, if_pos ⟨hmem, hci⟩]
  · rw [if_neg hci, if_neg fun h => hci h.2]

theorem dmaBeat_writes {wrong : Nat} (hruns : s.coreRuns = true) (hx : (s.dmaCh n).xfer = some x) (hready : x.ready s.count = true)
    (hport : s.portFree n (s.dmaDest n x x.writes) = true) : s.dmaBeat n wrong = s.dmaWrite n x := by
  unfold dmaBeat
  rw [if_pos hruns, hx]
  dsimp only
  rw [hready, hport]
  rfl

theorem dmaWrite_stores (s : State) (n : Fin 16) (x : DmaXfer) (o : Nat) (hs : s.Shaped) (hcanon : s.Canonical) (hruns : s.coreRuns = true)
    (hx : (s.dmaCh n).xfer = some x) (hready : x.ready s.count = true) (hdest : s.dmaDest n x x.writes = 0x10000000 + 4 * o) (ho : o < 0x60000)
    (hport : s.portFree n (0x10000000 + 4 * o) = true) (hallow : s.regionAllows (s.dmaWorld n) true (0x10000000 + 4 * o) = true)
    (hgood : ¬ 4 * o ∈ s.mem.sramBad) (hcorrect : ¬ 4 * o ∈ s.mem.sramCorrectable) :
    Completes (.dmaBeat n 0) s fun t =>
      (∀ i : Fin 4, memGet t.mem.sram (4 * o + i) = match (x.lanes x.writes).find? (fun l => l.1 == i.val) with
        | some l => x.byte l.2
        | none => memGet s.mem.sram (4 * o + i)) ∧
      (∀ a, a < 4 * o ∨ 4 * o + 4 ≤ a → memGet t.mem.sram a = memGet s.mem.sram a) ∧
      t.mem.mram = s.mem.mram ∧ t.clk = s.clk ∧ t.events = s.events ∧ (∀ j : Fin 16, j ≠ n → t.dmaCh j = s.dmaCh j) ∧
      (x.writes + 1 ≠ x.writeCount → x.stopping = false → t.regs = s.regs ∧ (s.perturbs 4 = false →
        (t.dmaCh n).xfer = some { x with writes := x.writes + 1, wroteAt := some s.count, hold := 0 })) ∧
      (x.writes + 1 ≠ x.writeCount → x.stopping = true → ({ x with writes := x.writes + 1 } : DmaXfer).inHand = false →
        (t.dmaCh n).xfer = none ∧ t.on (F.DMA_CHn_CFG_EN n) = false ∧ (t.dmaCh n).ended = (s.dmaCh n).ended) ∧
      (x.writes + 1 = x.writeCount → (t.dmaCh n).xfer = none ∧ (t.dmaCh n).ended = true ∧
        (s.on (F.DMA_CHn_CFG_REARM n) = false → s.writtenNow (F.DMA_CHn_CFG_EN n) = false → t.on (F.DMA_CHn_CFG_EN n) = false) ∧
        (s.on (F.DMA_CHn_CFG_REARM n) = true → t.regs = s.regs)) := by
  obtain ⟨c, b, hwrite⟩ := dmaWrite_sram hx hdest ho hallow hgood hcorrect
  have hexec : exec (.dmaBeat n 0) s = .next _ := congrArg Host.Outcome.next
    ((dmaBeat_writes (wrong := 0) hruns hx hready (hdest.symm ▸ hport)).trans hwrite)
  obtain ⟨ports, hport'⟩ := takePort_shape s (0x10000000 + 4 * o)
  generalize hu : (s.takePort (0x10000000 + 4 * o)).modMem (fun y => { y with
      sram := memSetWord y.sram (4 * o) (s.wordWritten o (beatData x) (beatEnables x)), sramCorrectable := c, sramBad := b }) = u at hexec
  have hregs : u.regs = s.regs := by rw [← hu, hport']; rfl
  have hdma : u.dma = s.dma := by rw [← hu, hport']; rfl
  have hclk : u.clk = s.clk := by rw [← hu, hport']; rfl
  have hevents : u.events = s.events := by rw [← hu, hport']; rfl
  have hmem : u.mem = { s.mem with
      sram := memSetWord s.mem.sram (4 * o) (s.wordWritten o (beatData x) (beatEnables x)), sramCorrectable := c, sramBad := b } := by
    rw [← hu, hport']
    rfl
  have hwritten : u.writtenNow (F.DMA_CHn_CFG_EN n) = s.writtenNow (F.DMA_CHn_CFG_EN n) := by rw [← hu, hport']; rfl
  have huch := dmaCh_of_dma hdma
  have hun : n.val < u.dma.length := by
    rw [hdma, hs.dma]
    exact n.isLt
  obtain ⟨hm, hother, hgoes, hdrops, hends⟩ := beatTaken_gives (y := s.wroteOn x) hun
  rw [huch n] at hdrops
  rw [hregs] at hgoes
  rw [hwritten, hregs, on_congr hregs] at hends
  refine ⟨_, hexec, fun i => ?_, fun a ha => ?_, ?_, hm.clk.trans hclk, hm.events.trans hevents,
    fun j hj => (hother j (Fin.val_ne_of_ne hj)).trans (huch j), fun hne hst => ?_, hdrops, hends⟩
  · rw [hm.mem, hmem]
    exact beat_bytes hcanon i.isLt
  · rw [hm.mem, hmem]
    exact memGet_memSetWord_other _ _ _ _ ha
  · rw [hm.mem, hmem]
  · have hgo : ((s.wroteOn x).stopping && !(s.wroteOn x).inHand) = false := by
      show (x.stopping && _) = false
      rw [hst, Bool.false_and]
    obtain ⟨hr, hxf⟩ := hgoes hne hgo
    exact ⟨hr, fun hq => hxf ((perturbs_of_regs hregs 4).trans hq) rfl⟩

end State
end Sys2Proof.Machine

/-! A read beat where nothing stands, and the settling of the DMA's transfers (R364, R366 to R371). -/

namespace Sys2Proof.Machine

set_option Elab.async false
namespace State

variable {s t u : State} {n a : Nat} {x : DmaXfer}

theorem Moves.load {A : List Part} (h : Moves A s t) {a : Nat} {v : Word} (hA : [.regs, .cycle] ⊆ A := by decide) : Moves A s (t.load a v) :=
  h.andThen hA fun hu => .record (.wr hu) (by rfl)

theorem load_swSet (s : State) (a : Nat) (v : Word) : (s.load a v).cycle.swSet = s.cycle.swSet := rfl
theorem put_swSet (s : State) (f : Fld) (k : Nat) : (s.put f k).cycle.swSet = s.cycle.swSet := rfl
theorem wr_swSet (s : State) (a : Nat) (v : Word) : (s.wr a v).cycle.swSet = s.cycle.swSet := rfl

theorem faultAt_moves (s : State) (m : Master) (w : World) (write : Bool) (a : Nat) (why : WriteResult) :
    Moves [.regs, .cycle] s (s.faultAt m w write a why) := by
  unfold faultAt
  exact .ite (.put (.refl s)) (.load (.wr (.refl s)))

theorem faultAt_writtenNow (s : State) (m : Master) (w : World) (write : Bool) (a : Nat) (why : WriteResult) (f : Fld) :
    (s.faultAt m w write a why).writtenNow f = s.writtenNow f := by
  have hsw : (s.faultAt m w write a why).cycle.swSet = s.cycle.swSet := by
    unfold faultAt
    split
    · exact put_swSet ..
    · exact (load_swSet ..).trans (wr_swSet ..)
  unfold writtenNow
  rw [hsw]

theorem dmaRead_unmapped (hlow : regionOf (s.dmaFrom n x / 4 * 4) = .none) (ha : regionOf (s.dmaFrom n x) = .none) :
    s.dmaRead n x 0 = (s.faultAt (.dma n) (s.dmaWorld n) false (s.dmaFrom n x / 4 * 4) .unmapped).dmaStop n (s.dmaFrom n x) .unmapped := by
  generalize hfrom : s.dmaFrom n x = a at *
  have hport : s.takePort a = s := by
    unfold takePort portOf
    rw [ha]
  have hbus : s.busRead (.dma n) (s.dmaWorld n) a = (s.faultAt (.dma n) (s.dmaWorld n) false (a / 4 * 4) .unmapped, 0, .unmapped) := by
    unfold busRead
    dsimp only
    rw [hlow]
    rfl
  have hsame : (if regionOf a = .sramOpen then s.sramUpset (a - 0x10000000) 0 else s) = s := if_neg (by rw [ha]; exact Region.noConfusion)
  unfold dmaRead
  dsimp only
  rw [hfrom, hsame, hport, hbus]

theorem dmaRead_stops (s : State) (n : Fin 16) (x : DmaXfer) (hs : s.Shaped) (hruns : s.coreRuns = true) (hx : (s.dmaCh n).xfer = some x)
    (hready : x.ready s.count = false) (hstop : x.stopping = false) (hmore : x.reads < x.readCount) (hdue : s.due (s.dmaCh n).grantAt = true)
    (hlow : regionOf (s.dmaFrom n x / 4 * 4) = .none) (hnone : regionOf (s.dmaFrom n x) = .none) (hw : s.writtenNow (F.DMA_CHn_CFG_EN n) = false) :
    Completes (.dmaBeat n 0) s fun t =>
      (t.dmaCh n).xfer = none ∧ t.on (F.DMA_CHn_CFG_EN n) = false ∧ t.on (F.DMA_CHn_STAT_ERR n) = true ∧
      t.get (F.DMA_CHn_STAT_CAUSE n) = 3 ∧ t.rd (R.DMA_CHn_EADDR n) = BitVec.ofNat 32 (s.dmaFrom n x / 4 * 4) ∧ t.mem = s.mem ∧
      t.events = s.events ∧ t.clk = s.clk := by
  have hport : s.portFree n (s.dmaFrom n x) = true := by
    unfold portFree portOf
    rw [hnone]
  have hexec : exec (.dmaBeat n 0) s = .next _ := congrArg Host.Outcome.next
    ((dmaBeat_reads (wrong := 0) hruns hx hready hstop hmore hdue hport).trans (dmaRead_unmapped hlow hnone))
  have hf := faultAt_moves s (.dma n) (s.dmaWorld n) false (s.dmaFrom n x / 4 * 4) .unmapped
  have hfw := faultAt_writtenNow s (.dma n) (s.dmaWorld n) false (s.dmaFrom n x / 4 * 4) .unmapped (F.DMA_CHn_CFG_EN n)
  generalize s.faultAt (.dma n) (s.dmaWorld n) false (s.dmaFrom n x / 4 * 4) .unmapped = u at hexec hf hfw
  have hun : n.val < u.dma.length := by
    rw [hf.dma, hs.dma]
    exact n.isLt
  obtain ⟨hm, _, hch, _, _, hen⟩ := dmaEnd_gives (s := u) hun
  refine ⟨_, hexec, ?_⟩
  unfold dmaStop
  dsimp only
  generalize hv : ((u.dmaEnd n).set1 (F.DMA_CHn_STAT_ERR n)).put (F.DMA_CHn_STAT_CAUSE n) WriteResult.unmapped.dmaCause = v
  have hmv : Moves [.regs, .cycle] (u.dmaEnd n) v := hv ▸ .put (.put (.refl _))
  have hwv : (u.dmaEnd n).Writes (· = R.DMA_CHn_STAT n) v :=
    hv ▸ Writes.put (P := (· = R.DMA_CHn_STAT n)) (.put (.refl _) (f := F.DMA_CHn_STAT_ERR n) rfl) (f := F.DMA_CHn_STAT_CAUSE n) rfl
  have hrd : ∀ b, b ≠ R.DMA_CHn_EADDR n → (v.wr (R.DMA_CHn_EADDR n) (BitVec.ofNat 32 (s.dmaFrom n x / 4 * 4))).rd b = v.rd b := fun b hb =>
    (rd_wr ..).trans (if_neg hb)
  have hne : R.DMA_CHn_STAT n ≠ R.DMA_CHn_EADDR n := by
    simp only [R.DMA_CHn_STAT, R.DMA_CHn_EADDR]
    omega
  have hcfg : R.DMA_CHn_CFG n ≠ R.DMA_CHn_EADDR n ∧ R.DMA_CHn_CFG n ≠ R.DMA_CHn_STAT n := by
    simp only [R.DMA_CHn_CFG, R.DMA_CHn_EADDR, R.DMA_CHn_STAT]
    omega
  have hmem := (wr_mem v (R.DMA_CHn_EADDR n) (BitVec.ofNat 32 (s.dmaFrom n x / 4 * 4))).trans (hmv.mem.trans (hm.mem.trans hf.mem))
  have hevents := (wr_events v (R.DMA_CHn_EADDR n) (BitVec.ofNat 32 (s.dmaFrom n x / 4 * 4))).trans (hmv.events.trans (hm.events.trans hf.events))
  have hclk := (wr_clk v (R.DMA_CHn_EADDR n) (BitVec.ofNat 32 (s.dmaFrom n x / 4 * 4))).trans (hmv.clk.trans (hm.clk.trans hf.clk))
  have hxfer : (v.dmaCh n).xfer = none := by rw [dmaCh_of_dma hmv.dma, hch]
  refine ⟨(congrArg DmaCh.xfer (dmaCh_of_dma (wr_dma ..) n)).trans hxfer, ?_, ?_, ?_, (rd_wr ..).trans (if_pos rfl), hmem, hevents, hclk⟩
  · exact (on_of_rd (hrd _ hcfg.1)).trans ((hwv.on hcfg.2).trans (hen (hfw.trans hw)))
  · refine (on_of_rd (hrd _ hne)).trans ?_
    rw [← hv, on_put_other _ (F.DMA_CHn_STAT_CAUSE n) (F.DMA_CHn_STAT_ERR n) _ (by simp) (.inr (by simp))]
    exact on_set1_same _ (F.DMA_CHn_STAT_ERR n) (by simp) (by simp)
  · refine (get_of_rd (hrd _ hne)).trans ?_
    rw [← hv, get_put_same _ (F.DMA_CHn_STAT_CAUSE n) _ (by simp)]
    rfl

end State

/-- Settles O38: GO, ABORT and a write of CFG act on one channel's record, and a beat moves one word, ends its transfer or stops its channel. -/
theorem dmaTransfers : Obligations.DmaTransfers :=
  ⟨fun s w n v hs ha hv =>
    ⟨fun hen hnew hidle => State.dmaGo_starts s w n v hs ha hv hen hnew hidle,
     fun hen hnew hbusy => State.dmaGo_lost s w n v hs ha hv hen hnew hbusy,
     fun h => State.dmaGo_idle s w n v ha hv h⟩,
   fun s w n v hs ha hv =>
    ⟨fun h => State.dmaAbort_stops s w n v hs ha hv h, fun x hx hin => State.dmaAbort_defers s w n v hs ha hv x hx hin⟩,
   fun s w n v hs ha =>
    ⟨fun hen => State.dmaCfg_stored s w n v ha hen, fun hen hv => State.dmaCfg_held s w n v ha hen hv,
     fun hen hv h => State.dmaCfg_aborts s w n v hs ha hen hv h⟩,
   fun s n x o hs hc hx hr hst hm hd hf ho hp hal hg hcor => State.dmaRead_takes s n x o hs hc hx hr hst hm hd hf ho hp hal hg hcor,
   fun s n x o hs hcan hc hx hr hd ho hp hal hg hcor => State.dmaWrite_stores s n x o hs hcan hc hx hr hd ho hp hal hg hcor,
   fun s n x hs hc hx hr hst hm hd hl hn hw => State.dmaRead_stops s n x hs hc hx hr hst hm hd hl hn hw⟩

end Sys2Proof.Machine

/-! Tasks of the Mill: requests, the view of an input instant, and the swaps that it takes (R132, R139, R141, R142). -/

namespace Sys2Proof.Machine

set_option Elab.async false
namespace State

variable {s t u : State} {j k : Nat} {w : World} {v : Word}

/-! ### The record of a task -/

theorem task_modTask_other (s : State) (f : TaskSt → TaskSt) (h : j ≠ k) : (s.modTask k f).task j = s.task j := nth_upd_other _ _ _ _ _ h.symm

theorem task_congr (h : t.tasks = s.tasks) (k : Nat) : t.task k = s.task k := by rw [task, h, task]

/-- A property of a task's record that an update of the record keeps. -/
theorem task_modTask_of {p : TaskSt → Prop} (s : State) (f : TaskSt → TaskSt) (h : p (s.task k)) (hf : ∀ x, p x → p (f x)) :
    p ((s.modTask k f).task k) := by
  by_cases hk : k < s.tasks.length
  · rw [task_modTask_same s f hk]
    exact hf _ h
  · have hout : ¬ k < (s.modTask k f).tasks.length := fun h' => hk (h'.trans_eq (length_upd ..))
    rw [task, nth, List.getD_eq_default _ _ (not_lt.mp hk)] at h
    rw [task, nth, List.getD_eq_default _ _ (not_lt.mp hout)]
    exact h

/-! ### Requests (R139, R142) -/

theorem taskCtrl_task (s : State) (hk : k < s.tasks.length) (v : Word) : (s.taskCtrl k v).task k = { s.task k with
    resume := if bitAt v 0 then (s.task k).resume ++ [s.count] else (s.task k).resume
    swap := if bitAt v 1 then (s.task k).swap ++ [s.count] else (s.task k).swap
    revert := if bitAt v 2 then (s.task k).revert ++ [s.count] else (s.task k).revert } := task_modTask_same s _ hk

/-- A write of a task's control word is its request and nothing else. -/
theorem taskCtrl_write (k : Fin 8) (h : s.accepts w (R.MILL_TASKt_CTRL k) v) :
    Moves [.cycle, .tst] (s.taskCtrl k v) (s.write w (R.MILL_TASKt_CTRL k) v) := by
  have hp : movesPolicy (R.MILL_TASKt_CTRL k) = false := (by decide : ∀ n : Fin 8, movesPolicy (R.MILL_TASKt_CTRL n) = false) k
  have hhook : s.hook (R.MILL_TASKt_CTRL k) v = s.taskCtrl k v := hook_MILL_TASKt_CTRL s v k
  exact hhook ▸ write_moves h hp

theorem swapWrite_gives (k : Fin 8) (hs : s.Shaped) (h : s.accepts w (R.MILL_TASKt_CTRL k) (v ||| 2)) :
    Completes (.swapWrite w k v) s fun t => (t.task k).swap = (s.task k).swap ++ [s.count] ∧ t.regs = s.regs ∧ t.mill = s.mill := by
  have hm := taskCtrl_write k h
  refine ⟨_, rfl, ?_, hm.regs, hm.mill⟩
  rw [task_congr hm.tasks, taskCtrl_task s (k.isLt.trans_eq hs.tasks.symm)]
  exact if_pos (bitAt_or v 2 (i := 1) (by decide))

theorem resumeWrite_gives (k : Fin 8) (hs : s.Shaped) (h : s.accepts w (R.MILL_TASKt_CTRL k) (v ||| 1)) :
    Completes (.resumeWrite w k v) s fun t => (t.task k).resume = (s.task k).resume ++ [s.count] ∧ t.regs = s.regs ∧ t.mill = s.mill := by
  have hm := taskCtrl_write k h
  refine ⟨_, rfl, ?_, hm.regs, hm.mill⟩
  rw [task_congr hm.tasks, taskCtrl_task s (k.isLt.trans_eq hs.tasks.symm)]
  exact if_pos (bitAt_or v 1 (i := 0) (by decide))

theorem revertWrite_gives (k : Fin 8) (hs : s.Shaped) (h : s.accepts w (R.MILL_TASKt_CTRL k) (v ||| 4)) :
    Completes (.revertWrite w k v) s fun t => (t.task k).revert = (s.task k).revert ++ [s.count] ∧ t.regs = s.regs ∧ t.mill = s.mill := by
  have hm := taskCtrl_write k h
  refine ⟨_, rfl, ?_, hm.regs, hm.mill⟩
  rw [task_congr hm.tasks, taskCtrl_task s (k.isLt.trans_eq hs.tasks.symm)]
  exact if_pos (bitAt_or v 4 (i := 2) (by decide))

/-! ### What is published by an input instant (R83) -/

/-- The registers of the Prism and of the Weathervane. -/
def viewBlocks (b : Nat) : Prop := inBlock 3 b ∨ inBlock 4 b

theorem publish_blocks (s : State) {n : Nat} (hn : n < 64) (acc : WinAcc) : s.Writes viewBlocks (s.publish n acc) := by
  have hnch : s.winNch n ≤ 16 := by unfold winNch; omega
  have hchans : s.Writes viewBlocks (publishedChans (s, false) n acc (List.range (s.winNch n))).1 :=
    (publishedChans_writes (s, false) n acc _).mono fun b hb => by
      obtain ⟨m, hm, rfl⟩ := hb
      rw [List.mem_range] at hm
      exact .inl (by simp only [inBlock, blockBase, R.PRISM_RESw_m]; omega)
  have hinfo : s.Writes viewBlocks (s.infoShownOf (publishedChans (s, false) n acc (List.range (s.winNch n))).1 n acc) :=
    hchans.trans ((infoShownOf_writes s _ n acc).mono fun b hb => .inl (by
      rcases hb with rfl | rfl <;> simp only [inBlock, blockBase, R.PRISM_WINw_INFO, R.PRISM_WINw_STAMP] <;> omega))
  have hstat : viewBlocks R.PRISM_STAT := .inl (by simp only [inBlock, blockBase, R.PRISM_STAT]; omega)
  have hfrz : viewBlocks (if n < 32 then R.PRISM_FRZ0 else R.PRISM_FRZ1) := by
    split <;> exact .inl (by simp only [inBlock, blockBase, R.PRISM_FRZ0, R.PRISM_FRZ1]; omega)
  have hclosed (t : State) : t.Writes viewBlocks (s.publishClosed t n acc) := by
    unfold publishClosed prismSummary
    exact .putB (.putB (.putB (Writes.regs (Writes.putBit (.refl t) hfrz) (by rfl)) hstat) hstat) hstat
  have h := hinfo.trans (hclosed _)
  rw [publish_eq]
  exact .ite (.raise (.ite h.raise h)) (.ite h.raise h)

theorem publish_moves (s : State) (n : Nat) (acc : WinAcc) : Moves [.regs, .cycle, .prism, .events, .stew] s (s.publish n acc) := by
  have h : Moves [.regs, .cycle, .prism, .events, .stew] s
      (s.publishClosed (s.infoShownOf (publishedChans (s, false) n acc (List.range (s.winNch n))).1 n acc) n acc) :=
    (publishing_moves s n acc).mono (by decide)
  rw [publish_eq]
  exact .ite (.raise (.ite h.raise h)) (.ite h.raise h)

theorem mppPublish_blocks (s : State) (n : Nat) : s.Writes viewBlocks (s.mppPublish n) := by
  unfold mppPublish
  refine Writes.forAll (.refl s) fun _ u hm hu => .ite ?_ hu
  exact Writes.putB (Writes.regs hu (by rfl)) (.inr (by simp only [inBlock, blockBase, R.WVN_MPPm_STAT]; omega))

theorem windowPublish_blocks (s : State) {n : Nat} (hn : n < 64) : s.Writes viewBlocks (s.windowPublish n) := by
  unfold windowPublish
  split
  · exact (publish_blocks s hn _).trans (mppPublish_blocks _ n)
  · exact .refl s

theorem windowPublish_moves (s : State) (n : Nat) : Moves [.regs, .cycle, .prism, .wvn, .events, .stew] s (s.windowPublish n) := by
  unfold windowPublish
  split
  · exact ((publish_moves s n _).mono (by decide)).trans ((mppPublish_moves _ n).mono (by decide))
  · exact .refl s

theorem publishWindows_blocks (s : State) : s.Writes viewBlocks s.publishWindows :=
  Writes.forAll (.refl s) fun _ u hn hu => hu.trans (windowPublish_blocks u hn)

theorem publishWindows_moves (s : State) : Moves [.regs, .cycle, .prism, .wvn, .events, .stew] s s.publishWindows :=
  Moves.forAll (.refl s) fun n u hu => hu.trans (windowPublish_moves u n)

/-! ### The checks and the ends of HOLD and TRIP (R141, R142) -/

/-- A step within the frame of task `k` that leaves its view, its swaps and its bank, and the other tasks. -/
structure Judged (k : Nat) (s t : State) : Prop where
  moves : Moves [.regs, .cycle, .tasks, .rtc, .mram, .events, .stew, .draws] s t
  other : ∀ j, j ≠ k → t.task j = s.task j
  done : (s.task k).inputDone = true → (t.task k).inputDone = true
  view : (t.task k).view = (s.task k).view
  swap : (t.task k).swap = (s.task k).swap
  bank : t.on (F.MILL_TASKt_STAT_BANK k) = s.on (F.MILL_TASKt_STAT_BANK k)

namespace Judged

theorem refl (k : Nat) (s : State) : Judged k s s := ⟨.refl s, fun _ _ => rfl, id, rfl, rfl, rfl⟩

theorem trans (h : Judged k s t) (h' : Judged k t u) : Judged k s u :=
  ⟨h.moves.trans h'.moves, fun j hj => (h'.other j hj).trans (h.other j hj), fun hd => h'.done (h.done hd), h'.view.trans h.view,
    h'.swap.trans h.swap, h'.bank.trans h.bank⟩

/-- A step that leaves the tasks' records and the bank. -/
theorem still {A : List Part} (hm : Moves A s t) (hb : t.on (F.MILL_TASKt_STAT_BANK k) = s.on (F.MILL_TASKt_STAT_BANK k))
    (ht : A.elem .tasks = false := by decide) (hF : A ⊆ [.regs, .cycle, .tasks, .rtc, .mram, .events, .stew, .draws] := by decide) :
    Judged k s t :=
  have h := task_congr (hm.tasks ht)
  ⟨hm.mono hF, fun j _ => h j, fun hd => (congrArg TaskSt.inputDone (h k)).trans hd, congrArg TaskSt.view (h k), congrArg TaskSt.swap (h k), hb⟩

theorem put (h : Judged k s t) {f : Fld} {n : Nat} (hw : f.lo + f.width ≤ 32)
    (hf : f.addr ≠ R.MILL_TASKt_STAT k ∨ f.lo + f.width ≤ 1 ∨ 2 ≤ f.lo) : Judged k s (t.put f n) := by
  refine h.trans (.still (A := [.regs, .cycle]) (.put (.refl t)) (on_put_other t f _ n hw ?_))
  rcases hf with hf | hf | hf
  · exact .inl hf.symm
  · exact .inr (.inr (by simpa using hf))
  · exact .inr (.inl (by simpa using hf))

theorem incS (h : Judged k s t) {f : Fld} (hw : f.lo + f.width ≤ 32) (hf : f.addr ≠ R.MILL_TASKt_STAT k ∨ f.lo + f.width ≤ 1 ∨ 2 ≤ f.lo) :
    Judged k s (t.incS f) := h.put hw hf

theorem raise (h : Judged k s t) {src : Nat} : Judged k s (t.raise src) :=
  h.trans (.still (A := [.events, .stew]) (.raise (.refl t)) (on_congr (raise_regs ..) _))

theorem log (h : Judged k s t) {code block : Nat} {sev : Severity} {data : List Byte} : Judged k s (t.log code block sev data) :=
  h.trans (.still (A := [.rtc, .mram, .events, .stew, .draws]) (.log (.refl t)) (on_congr (log_regs ..) _))

theorem ite {p : Prop} [Decidable p] (ht : Judged k s t) (hu : Judged k s u) : Judged k s (if p then t else u) := by split <;> assumption

/-- An update of the task's record that leaves its view and its swaps. -/
theorem task (h : Judged k s t) {f : TaskSt → TaskSt} (hd : ∀ x, (f x).inputDone = x.inputDone) (hv : ∀ x, (f x).view = x.view)
    (hs : ∀ x, (f x).swap = x.swap) : Judged k s (t.modTask k f) := by
  refine h.trans ⟨.record (.refl t) (by rfl), fun j hj => task_modTask_other t f hj, fun hdone => ?_, ?_, ?_, on_congr rfl _⟩
  · exact task_modTask_of t f (p := fun x => x.inputDone = true) hdone fun x hx => (hd x).trans hx
  · exact task_modTask_of t f (p := fun x => x.view = (t.task k).view) rfl fun x hx => (hv x).trans hx
  · exact task_modTask_of t f (p := fun x => x.swap = (t.task k).swap) rfl fun x hx => (hs x).trans hx

end Judged

theorem TASK_LOSS_ne_STAT (k : Nat) : R.MILL_TASKt_LOSS k ≠ R.MILL_TASKt_STAT k := by simp only [R.MILL_TASKt_LOSS, R.MILL_TASKt_STAT]; omega

theorem evaluate_judged (s : State) (k : Nat) : Judged k s (s.evaluate k) := by
  unfold evaluate
  extract_lets ks bad u1 u2 was
  have h1 : Judged k s u1 := .ite ((Judged.refl k s).put (by decide) (.inl (millStat_ne_taskStat k))) (.refl k s)
  have h2 : Judged k s u2 := h1.task (fun _ => rfl) (fun _ => rfl) (fun _ => rfl)
  clear_value u2 was
  clear_value bad
  split
  · exact (h2.put (by simp) (.inr (.inr (by simp)))).put (by simp) (.inr (.inr (by simp)))
  · extract_lets cause u3 u4 u5
    have h3 : Judged k s u3 := (h2.put (by simp) (.inl (TASK_LOSS_ne_STAT k))).put (by simp) (.inl (TASK_LOSS_ne_STAT k))
    have h4 : Judged k s u4 := (h3.incS (by simp) (.inl (TASK_LOSS_ne_STAT k))).put (by simp) (.inr (.inr (by simp)))
    have h5 : Judged k s u5 := h4.put (by simp) (.inr (.inr (by simp)))
    exact .ite h5.raise.log h5

end State
end Sys2Proof.Machine

/-! Frames of the Mill: the input instant, the policies, the start and the end of a task, and the scrub (R132, R133, R137 to R139, R142). -/

namespace Sys2Proof.Machine

set_option Elab.async false
namespace State

variable {s t u : State} {j k : Nat}

/-! ### The input instant (R132, R139) -/

/-- The requests of a list that have come in the present cycle. -/
def lateOf (s : State) (l : List Nat) : List Nat := l.filter (fun a => s.count ≤ a)

/-- The view is fixed, and the requests of earlier cycles are taken. -/
def viewTaken (s : State) (k : Nat) : State :=
  s.modTask k (fun y => { y with inputDone := true, view := s.regs, swap := s.lateOf y.swap, revert := s.lateOf y.revert })

/-- A swap of an earlier cycle turns the bank. -/
def swapTaken (s : State) (k : Nat) : State :=
  if (s.task k).swap.any (fun a => a < s.count) then (s.viewTaken k).setBank k (!s.on (F.MILL_TASKt_STAT_BANK k)) else s.viewTaken k

/-- A revert of an earlier cycle ends FALLBACK. -/
def revertTaken (s : State) (k : Nat) : State :=
  if (s.task k).revert.any (fun a => a < s.count) && s.on (F.MILL_TASKt_STAT_FALLBACK k) then
    ((s.swapTaken k).clr (F.MILL_TASKt_STAT_FALLBACK k)).setBank k ((s.task k).savedBank == 1)
  else s.swapTaken k

/-- Without a loss HOLD ends, and TRIP where RESUME was written. -/
def lossEnded (t s : State) (k : Nat) : State :=
  if (s.task k).resume.any (fun a => a < s.count) then
    ((t.clr (F.MILL_TASKt_STAT_HOLDING k)).clr (F.MILL_TASKt_STAT_TRIPPED k)).modTask k (fun y => { y with resume := s.lateOf y.resume })
  else t.clr (F.MILL_TASKt_STAT_HOLDING k)

theorem inputInstant_eq (s : State) (k : Nat) : s.inputInstant k =
    if s.publishWindows.millRuns && (s.publishWindows.task k).inFrame && !(s.publishWindows.task k).inputDone &&
        s.publishWindows.due ((s.publishWindows.task k).start + 64) then
      if ((s.publishWindows.revertTaken k).evaluate k).get (F.MILL_TASKt_STAT_L k) = 0 then
        ((s.publishWindows.revertTaken k).evaluate k).lossEnded s.publishWindows k
      else (s.publishWindows.revertTaken k).evaluate k
    else s.publishWindows := rfl

theorem lossEnded_judged (t s : State) (k : Nat) : Judged k t (t.lossEnded s k) := by
  have h : Judged k t (t.clr (F.MILL_TASKt_STAT_HOLDING k)) := (Judged.refl k t).put (by simp) (.inr (.inr (by simp)))
  unfold lossEnded
  exact .ite ((h.put (by simp) (.inr (.inr (by simp)))).task (fun _ => rfl) (fun _ => rfl) (fun _ => rfl)) h

theorem setBank_moves (s : State) (k : Nat) (b : Bool) : Moves [.regs, .cycle, .events, .stew] s (s.setBank k b) := by
  unfold setBank
  exact .ite (.refl s) (.raise (putB_moves (.refl s) _ _))

theorem setBank_on (s : State) (k : Nat) (b : Bool) : (s.setBank k b).on (F.MILL_TASKt_STAT_BANK k) = b := by
  unfold setBank
  split
  next h => exact beq_iff_eq.mp h
  · exact (on_congr (raise_regs ..) _).trans (on_putB_same _ _ _ (by simp) (by simp))

theorem setBank_other (s : State) {g : Fld} (b : Bool) (hg : g.addr ≠ R.MILL_TASKt_STAT k ∨ 2 ≤ g.lo) : (s.setBank k b).on g = s.on g := by
  unfold setBank
  split
  · rfl
  · refine (on_congr (raise_regs ..) _).trans (on_putB_other _ _ _ _ (by simp) ?_)
    rcases hg with hg | hg
    · exact .inl hg
    · exact .inr (.inr (by simpa using hg))

/-- From the fixed view to the checks only the bank and FALLBACK move. -/
theorem revertTaken_moves (s : State) (k : Nat) : Moves [.regs, .cycle, .events, .stew] (s.viewTaken k) (s.revertTaken k) := by
  have hswap : Moves [.regs, .cycle, .events, .stew] (s.viewTaken k) (s.swapTaken k) := .ite (setBank_moves ..) (.refl _)
  unfold revertTaken
  exact .ite (hswap.put.trans (setBank_moves ..)) hswap

theorem viewTaken_moves (s : State) (k : Nat) : Moves [.tasks] s (s.viewTaken k) := .record (.refl s) (by rfl)

theorem viewTaken_task (s : State) (hk : k < s.tasks.length) : (s.viewTaken k).task k =
    { s.task k with inputDone := true, view := s.regs, swap := s.lateOf (s.task k).swap, revert := s.lateOf (s.task k).revert } :=
  task_modTask_same s _ hk

/-- Where no revert is asked for, the bank turns with a swap of an earlier cycle. -/
theorem revertTaken_bank (s : State) (k : Nat) (h : (s.task k).revert = []) : (s.revertTaken k).on (F.MILL_TASKt_STAT_BANK k) =
    (s.on (F.MILL_TASKt_STAT_BANK k) != (s.task k).swap.any (fun a => a < s.count)) := by
  unfold revertTaken
  rw [h, List.any_nil, Bool.false_and, if_neg (by decide), swapTaken]
  cases hs : (s.task k).swap.any (fun a => a < s.count) with
  | true => rw [if_pos rfl, setBank_on, Bool.bne_true]
  | false => rw [if_neg (by decide), Bool.bne_false]; exact on_congr rfl _

theorem viewBlocks_not_mill {b : Nat} (h : blockBase 5 ≤ b) : ¬ viewBlocks b := by
  simp only [viewBlocks, inBlock, blockBase] at h ⊢
  omega

theorem TASK_STAT_ge (k : Nat) : blockBase 5 ≤ R.MILL_TASKt_STAT k := by simp only [blockBase, R.MILL_TASKt_STAT]; omega

theorem millRuns_congr (hsys : t.sys = s.sys) (hmill : t.mill = s.mill) (hmode : t.rd R.SYS_MODE = s.rd R.SYS_MODE)
    (hstat : t.rd R.MILL_STAT = s.rd R.MILL_STAT) : t.millRuns = s.millRuns := by
  rw [millRuns, coreRuns_of_rd hsys hmode, mode_of_rd hmode, hmill, on_of_rd (f := F.MILL_STAT_ECC_FATAL) hstat, millRuns]

theorem publishWindows_millRuns (s : State) : s.publishWindows.millRuns = s.millRuns := by
  have hm := publishWindows_moves s
  have hw := publishWindows_blocks s
  exact millRuns_congr hm.sys hm.mill (hw.rd (by simp only [viewBlocks, inBlock, blockBase, R.SYS_MODE]; omega)) (hw.rd (viewBlocks_not_mill (by decide)))

theorem inputInstant_gives (k : Fin 8) (hs : s.Shaped) (hrun : s.millRuns = true) (hin : (s.task k).inFrame = true)
    (hdone : (s.task k).inputDone = false) (hdue : s.due ((s.task k).start + 64) = true) :
    Completes (.inputInstant k) s fun t =>
      (t.task k).inputDone = true ∧ (t.task k).view = s.publishWindows.regs ∧ s.clockKept t ∧ t.loom = s.loom ∧ t.mill = s.mill ∧
      (t.task k).swap = (s.task k).swap.filter (fun a => s.count ≤ a) ∧
      ((s.task k).revert = [] →
        t.on (F.MILL_TASKt_STAT_BANK k) = (s.on (F.MILL_TASKt_STAT_BANK k) != (s.task k).swap.any (· < s.count))) ∧
      (∀ j : Fin 8, j ≠ k → t.task j = s.task j) := by
  have hm := publishWindows_moves s
  have htask := task_congr hm.tasks
  have hcount : s.publishWindows.count = s.count := hm.clockKept.stateCount
  have hbank := (publishWindows_blocks s).on (f := F.MILL_TASKt_STAT_BANK k) (viewBlocks_not_mill (TASK_STAT_ge k))
  have hguard : (s.publishWindows.millRuns && (s.publishWindows.task k).inFrame && !(s.publishWindows.task k).inputDone &&
      s.publishWindows.due ((s.publishWindows.task k).start + 64)) = true := by
    rw [publishWindows_millRuns, htask, hrun, hin, hdone, due, hcount]
    exact hdue
  have heq := inputInstant_eq s k
  rw [if_pos hguard] at heq
  have hlen : k.val < s.publishWindows.tasks.length := by rw [hm.tasks, hs.tasks]; exact k.isLt
  refine ⟨_, congrArg Host.Outcome.next heq, ?_⟩
  have hview := viewTaken_task s.publishWindows hlen
  have hrev := revertTaken_moves s.publishWindows k
  have hrtask := task_congr hrev.tasks
  have hrevert : (s.publishWindows.task k).revert = (s.task k).revert := congrArg TaskSt.revert (htask k)
  have hjudged : Judged k (s.publishWindows.revertTaken k)
      (if ((s.publishWindows.revertTaken k).evaluate k).get (F.MILL_TASKt_STAT_L k) = 0 then
        ((s.publishWindows.revertTaken k).evaluate k).lossEnded s.publishWindows k
      else (s.publishWindows.revertTaken k).evaluate k) :=
    .ite ((evaluate_judged _ k).trans (lossEnded_judged _ _ k)) (evaluate_judged _ k)
  have hrdone : ((s.publishWindows.revertTaken k).task k).inputDone = true := by rw [hrtask, hview]
  have hrview : ((s.publishWindows.revertTaken k).task k).view = s.publishWindows.regs := by rw [hrtask, hview]
  have hrswap : ((s.publishWindows.revertTaken k).task k).swap = s.publishWindows.lateOf (s.task k).swap := by rw [hrtask, hview, htask]
  have hall : Moves [.regs, .cycle, .prism, .wvn, .tasks, .rtc, .mram, .events, .stew, .draws] s
      (if ((s.publishWindows.revertTaken k).evaluate k).get (F.MILL_TASKt_STAT_L k) = 0 then
        ((s.publishWindows.revertTaken k).evaluate k).lossEnded s.publishWindows k
      else (s.publishWindows.revertTaken k).evaluate k) :=
    ((hm.mono (by decide)).trans (((viewTaken_moves _ k).mono (by decide)).trans (hrev.mono (by decide)))).trans (hjudged.moves.mono (by decide))
  generalize (if ((s.publishWindows.revertTaken k).evaluate k).get (F.MILL_TASKt_STAT_L k) = 0 then
        ((s.publishWindows.revertTaken k).evaluate k).lossEnded s.publishWindows k
      else (s.publishWindows.revertTaken k).evaluate k) = t at hjudged hall ⊢
  refine ⟨hjudged.done hrdone, hjudged.view.trans hrview, hall.clockKept, hall.loom, hall.mill, ?_, fun hnone => ?_,
    fun j hj => ?_⟩
  · rw [hjudged.swap, hrswap]
    simp only [lateOf, hcount]
  · rw [hjudged.bank, revertTaken_bank _ _ (hrevert.trans hnone), hbank, htask, hcount]
  · have hne : j.val ≠ k.val := fun h => hj (Fin.ext h)
    rw [hjudged.other j hne, hrtask, viewTaken, task_modTask_other _ _ hne, htask]

end State
end Sys2Proof.Machine

/-! Policies, starts and ends of the Mill's tasks, and the scrub (R133, R137, R138, R142). -/

namespace Sys2Proof.Machine

set_option Elab.async false
namespace State

variable {s t u : State} {j k : Nat}

/-! ### Policies (R142) -/

theorem policyDue_coreRuns (h : s.policyDue k = true) : s.coreRuns = true := by
  simp only [policyDue, millRuns, Bool.and_eq_true] at h
  exact h.1.1.1.1.1.1.1.1

theorem modTask_moves (s : State) (k : Nat) (f : TaskSt → TaskSt) : Moves [.tasks] s (s.modTask k f) := .record (.refl s) (by rfl)

/-- A flag of a task's status is set, and its event is raised. -/
theorem set1_raise (hr : t.coreRuns = s.coreRuns) (hclk : t.clk = s.clk) (hruns : s.coreRuns = true) (f : Fld) (ha : f.addr ≠ R.SYS_MODE) (src : Nat) :
    s.sent ((t.set1 f).raise src) src :=
  sent_raise ((coreRuns_of_writes (P := (· = f.addr)) (.set1 (.refl t) rfl) rfl ha.symm).trans (hr.trans hruns)) hclk src

theorem TASK_STAT_ne_MODE (k : Nat) : R.MILL_TASKt_STAT k ≠ R.SYS_MODE := by simp only [R.MILL_TASKt_STAT, R.SYS_MODE]; omega

/-- The task is skipped under HOLD. -/
def heldTask (s : State) (k : Nat) : State := s.modTask k (fun x => { x with acted := true, skipped := true })

theorem heldTask_skipped (s : State) (hk : k < s.tasks.length) : ((s.heldTask k).task k).skipped = true := by
  rw [heldTask, task_modTask_same s _ hk]

theorem heldTask_coreRuns (s : State) (k : Nat) : (s.heldTask k).coreRuns = s.coreRuns := coreRuns_of_rd rfl rfl

theorem policyHold_eq (hdue : s.policyDue k = true) (hpol : s.policyOf k = 0) (hoff : s.on (F.MILL_TASKt_STAT_HOLDING k) = false) :
    s.policyHold k = ((s.heldTask k).set1 (F.MILL_TASKt_STAT_HOLDING k)).raise 0x5C := by
  unfold policyHold
  rw [hdue, hpol, hoff]
  rfl

theorem policyHold_gives (k : Fin 8) (hs : s.Shaped) (hdue : s.policyDue k = true) (hpol : s.policyOf k = 0)
    (hoff : s.on (F.MILL_TASKt_STAT_HOLDING k) = false) : Completes (.policyHold k) s fun t =>
      t.on (F.MILL_TASKt_STAT_HOLDING k) = true ∧ (t.task k).skipped = true ∧ s.sent t 0x5C ∧ t.mill = s.mill ∧ t.loom = s.loom ∧
      t.clk = s.clk := by
  have hm : Moves [.regs, .cycle, .events, .stew] (s.heldTask k) (((s.heldTask k).set1 (F.MILL_TASKt_STAT_HOLDING k)).raise 0x5C) :=
    .raise (.put (.refl _))
  refine ⟨_, congrArg Host.Outcome.next (policyHold_eq hdue hpol hoff), ?_, ?_, ?_, hm.mill, hm.loom, hm.clk⟩
  · exact (on_congr (raise_regs ..) _).trans (on_set1_same _ _ (by simp) (by simp))
  · rw [task_congr hm.tasks]
    exact heldTask_skipped s (k.isLt.trans_eq hs.tasks.symm)
  · exact set1_raise (heldTask_coreRuns s k) rfl (policyDue_coreRuns hdue) _ (TASK_STAT_ne_MODE k) _

/-- FALLBACK saves the bank in use. -/
def bankSaved (s : State) (k : Nat) : State :=
  (s.modTask k (fun x => { x with acted := true })).modTask k (fun x => { x with savedBank := s.get (F.MILL_TASKt_STAT_BANK k) })

theorem bankSaved_moves (s : State) (k : Nat) : Moves [.tasks] s (s.bankSaved k) := (modTask_moves s k _).trans (modTask_moves _ k _)

/-- FALLBACK begins. -/
def fallenBack (s : State) (k : Nat) : State := ((s.bankSaved k).set1 (F.MILL_TASKt_STAT_FALLBACK k)).raise 0x5C

theorem policyFallback_eq (hdue : s.policyDue k = true) (hpol : s.policyOf k = 1) (hoff : s.on (F.MILL_TASKt_STAT_FALLBACK k) = false) :
    s.policyFallback k = (s.fallenBack k).setBank k (s.on (F.MILL_TASKt_POL_FB_BANK k)) := by
  unfold policyFallback
  rw [hdue, hpol, hoff]
  rfl

theorem fallenBack_moves (s : State) (k : Nat) : Moves [.regs, .cycle, .tasks, .events, .stew] s (s.fallenBack k) :=
  .raise (.put ((bankSaved_moves s k).mono (by decide)))

theorem fallenBack_saved (s : State) (hk : k < s.tasks.length) : ((s.fallenBack k).task k).savedBank = s.get (F.MILL_TASKt_STAT_BANK k) := by
  have hlen : k < (s.modTask k (fun x => { x with acted := true })).tasks.length := hk.trans_eq (length_upd ..).symm
  have hm : Moves [.regs, .cycle, .events, .stew] (s.bankSaved k) (s.fallenBack k) := .raise (.put (.refl _))
  rw [task_congr hm.tasks, bankSaved, task_modTask_same _ _ hlen]

theorem policyFallback_gives (k : Fin 8) (hs : s.Shaped) (hdue : s.policyDue k = true) (hpol : s.policyOf k = 1)
    (hoff : s.on (F.MILL_TASKt_STAT_FALLBACK k) = false) : Completes (.policyFallback k) s fun t =>
      t.on (F.MILL_TASKt_STAT_FALLBACK k) = true ∧ t.on (F.MILL_TASKt_STAT_BANK k) = s.on (F.MILL_TASKt_POL_FB_BANK k) ∧
      (t.task k).savedBank = s.get (F.MILL_TASKt_STAT_BANK k) ∧ s.sent t 0x5C ∧ t.mill = s.mill ∧ t.loom = s.loom ∧ t.clk = s.clk := by
  have hbank := setBank_moves (s.fallenBack k) k (s.on (F.MILL_TASKt_POL_FB_BANK k))
  have hm := (fallenBack_moves s k).trans (hbank.mono (by decide))
  have hsaved := bankSaved_moves s k
  have hsent : s.sent (s.fallenBack k) 0x5C :=
    set1_raise (coreRuns_of_rd hsaved.sys (rd_congr hsaved.regs _)) hsaved.clk (policyDue_coreRuns hdue) _ (TASK_STAT_ne_MODE k) _
  refine ⟨_, congrArg Host.Outcome.next (policyFallback_eq hdue hpol hoff), ?_, setBank_on .., ?_, ?_, hm.mill, hm.loom, hm.clk⟩
  · rw [setBank_other _ _ (.inr (by simp))]
    exact (on_congr (raise_regs ..) _).trans (on_set1_same _ _ (by simp) (by simp))
  · rw [task_congr hbank.tasks]
    exact fallenBack_saved s (k.isLt.trans_eq hs.tasks.symm)
  · unfold setBank
    split
    · exact hsent
    · exact (hsent.of_events (Moves.events (F := [.regs, .cycle]) (putB_moves (.refl _) _ _))).raise _

/-- TRIP blocks the task's legs. -/
def tripBlocks (s : State) (k : Nat) : State := (s.heldTask k).blockLegs .mill (s.legsOf k)

/-- TRIP with its event. -/
def tripRaised (s : State) (k : Nat) : State := ((s.tripBlocks k).set1 (F.MILL_TASKt_STAT_TRIPPED k)).raise 0x5D

theorem policyTrip_eq (hdue : s.policyDue k = true) (hpol : s.policyOf k = 2) (hoff : s.on (F.MILL_TASKt_STAT_TRIPPED k) = false) :
    s.policyTrip k = (s.tripRaised k).log 0x0011 5 .error (BitVec.ofNat 8 k :: leBytes 4 ((s.tripRaised k).rd (R.MILL_TASKt_LOSS k)).toNat) := by
  unfold policyTrip
  rw [hdue, hpol, hoff]
  rfl

theorem tripBlocks_moves (s : State) (k : Nat) : Moves [.regs, .cycle, .loom, .gdp, .events, .stew] (s.heldTask k) (s.tripBlocks k) :=
  blockLegs_moves ..

theorem tripBlocks_sent (hruns : s.coreRuns = true) (k : Nat) : s.sent (s.tripRaised k) 0x5D := by
  have hw : (s.heldTask k).Writes driveBlocks (s.tripBlocks k) := (blockLegs_writes (s.heldTask k) .mill (s.legsOf k)).mono fun b ⟨l, hl, hb⟩ => blockRegs_drive hl hb
  have hc := coreRuns_of_writes hw (tripBlocks_moves s k).sys (by simp only [driveBlocks, inBlock, blockBase, R.SYS_MODE]; omega)
  exact set1_raise (hc.trans (heldTask_coreRuns s k)) (tripBlocks_moves s k).clk hruns _ (TASK_STAT_ne_MODE k) _

/-- The event and its record leave the legs and their status. -/
theorem tripRaised_rd (s : State) (k l : Nat) : (s.tripRaised k).rd (R.LOOM_LEGl_STAT l) = (s.tripBlocks k).rd (R.LOOM_LEGl_STAT l) :=
  (rd_raise ..).trans (rd_put_other _ _ _ _ (by simp only [R.LOOM_LEGl_STAT, R.MILL_TASKt_STAT]; omega))

theorem policyTrip_gives (k : Fin 8) (hs : s.Shaped) (hdue : s.policyDue k = true) (hpol : s.policyOf k = 2)
    (hoff : s.on (F.MILL_TASKt_STAT_TRIPPED k) = false) : Completes (.policyTrip k) s fun t =>
      t.on (F.MILL_TASKt_STAT_TRIPPED k) = true ∧ (t.task k).skipped = true ∧ s.sent t 0x5D ∧ s.clockKept t ∧
      (∀ l : Fin 24, (s.legsOf k).testBit l = true →
        t.on (F.LOOM_LEGl_STAT_BLOCKED l) = true ∧ t.on (F.LOOM_LEGl_STAT_MILL l) = true ∧ (t.leg l).outH = false ∧ (t.leg l).outL = false) ∧
      (∀ l : Fin 24, (s.legsOf k).testBit l = false → t.leg l = s.leg l) := by
  have hraised : Moves [.regs, .cycle, .events, .stew] (s.tripBlocks k) (s.tripRaised k) := .raise (.put (.refl _))
  have hlog : Moves [.rtc, .mram, .events, .stew, .draws] (s.tripRaised k)
      ((s.tripRaised k).log 0x0011 5 .error (BitVec.ofNat 8 k :: leBytes 4 ((s.tripRaised k).rd (R.MILL_TASKt_LOSS k)).toNat)) := .log (.refl _)
  refine ⟨_, congrArg Host.Outcome.next (policyTrip_eq hdue hpol hoff), ?_⟩
  have hsent : s.sent _ 0x5D := (tripBlocks_sent (policyDue_coreRuns hdue) k).log (code := 0x0011) (block := 5) (sev := .error)
    (data := BitVec.ofNat 8 k :: leBytes 4 ((s.tripRaised k).rd (R.MILL_TASKt_LOSS k)).toNat)
  generalize (s.tripRaised k).log 0x0011 5 .error (BitVec.ofNat 8 k :: leBytes 4 ((s.tripRaised k).rd (R.MILL_TASKt_LOSS k)).toNat) = t at hlog hsent ⊢
  have hleg (l : Nat) : t.leg l = (s.tripBlocks k).leg l := leg_congr (hlog.loom.trans hraised.loom) l
  have hrd (l : Fin 24) : t.rd (R.LOOM_LEGl_STAT l) = (s.tripBlocks k).rd (R.LOOM_LEGl_STAT l) :=
    (rd_congr hlog.regs _).trans (tripRaised_rd s k l)
  have hblocks := tripBlocks_moves s k
  have hm : Moves [.regs, .cycle, .tasks, .loom, .gdp, .rtc, .mram, .events, .stew, .draws] s t :=
    Moves.trans (.mono (modTask_moves s k _) (by decide)) ((hblocks.mono (by decide)).trans ((hraised.mono (by decide)).trans (hlog.mono (by decide))))
  refine ⟨?_, ?_, hsent, hm.clockKept, fun l hl => ?_, fun l hl => ?_⟩
  · exact (on_congr hlog.regs _).trans ((on_congr (raise_regs ..) _).trans (on_set1_same _ _ (by simp) (by simp)))
  · rw [task_congr ((hlog.tasks.trans hraised.tasks).trans hblocks.tasks)]
    exact heldTask_skipped s (k.isLt.trans_eq hs.tasks.symm)
  · have hb : t.Blocked .mill l := (blockLegs_in (s.heldTask k) .mill l.isLt hl).same (hrd l) (hleg l)
    exact ⟨hb.blocked, (bit_eq_on ..).symm.trans hb.cause, hb.outH, hb.outL⟩
  · exact (hleg l).trans (blockLegs_out (s.heldTask k) .mill l.isLt hl).2

/-! ### Starts and ends of programs (R133, R137) -/

/-- The lanes are clean, and the task executes from its entry. -/
def taskPlaced (s : State) (k : Nat) : State :=
  (s.modTask k (fun y => { y with started := true })).modMill (fun m => { m with
    lanes := List.replicate 4 {}, results := [], stores := [], running := some k, pc := s.get (F.MILL_TASKt_ENTRY_ENTRY k) })

theorem taskStart_eq (hrun : s.millRuns = true) (hin : (s.task k).inFrame = true) (hdone : (s.task k).inputDone = true)
    (hst : (s.task k).started = false) (hdue : s.due ((s.task k).start + s.taskOffset k) = true) (hmay : s.mayRun k = true)
    (hidle : s.mill.running = none) :
    s.taskStart k = ((s.taskPlaced k).fetchBundle.put F.MILL_STAT_TASK k).set1 F.MILL_STAT_BUSY := by
  unfold taskStart
  dsimp only
  rw [hrun, hin, hdone, hst, hdue, hmay, hidle]
  rfl

/-- A fetch leaves what a task executes. -/
theorem fetchBundle_mill (s : State) : s.fetchBundle.mill.running = s.mill.running ∧ s.fetchBundle.mill.pc = s.mill.pc ∧
    s.fetchBundle.mill.lanes = s.mill.lanes ∧ s.fetchBundle.mill.dmem = s.mill.dmem ∧ s.fetchBundle.mill.ending = s.mill.ending := by
  have hword (n : Nat) : (s.correctWord n).mill.running = s.mill.running ∧ (s.correctWord n).mill.pc = s.mill.pc ∧
      (s.correctWord n).mill.lanes = s.mill.lanes ∧ (s.correctWord n).mill.dmem = s.mill.dmem ∧ (s.correctWord n).mill.ending = s.mill.ending := by
    unfold correctWord
    split <;> exact ⟨rfl, rfl, rfl, rfl, rfl⟩
  unfold fetchBundle
  split
  · exact hword _
  · exact ⟨rfl, rfl, rfl, rfl, rfl⟩

theorem fetchBundle_stat (s : State) : s.Writes (· = R.MILL_STAT) s.fetchBundle := by
  unfold fetchBundle
  exact Writes.regs (.ite (.correctWord (.refl s) rfl) (.refl s)) (by rfl)

theorem taskStart_gives (k : Fin 8) (hs : s.Shaped) (hrun : s.millRuns = true) (hin : (s.task k).inFrame = true)
    (hdone : (s.task k).inputDone = true) (hst : (s.task k).started = false) (hdue : s.due ((s.task k).start + s.taskOffset k) = true)
    (hmay : s.mayRun k = true) (hidle : s.mill.running = none) : Completes (.taskStart k) s fun t =>
      (t.task k).started = true ∧ t.mill.running = some k.val ∧ t.mill.pc = s.get (F.MILL_TASKt_ENTRY_ENTRY k) ∧
      t.mill.lanes = List.replicate 4 {} ∧ t.on F.MILL_STAT_BUSY = true ∧ t.mill.dmem = s.mill.dmem ∧
      (∀ b, b ≠ R.MILL_STAT → t.rd b = s.rd b) ∧ t.clk = s.clk ∧ t.loom = s.loom := by
  have hfetch := fetchBundle_moves (s.taskPlaced k)
  have hshow : Moves [.regs, .cycle] (s.taskPlaced k).fetchBundle (((s.taskPlaced k).fetchBundle.put F.MILL_STAT_TASK k).set1 F.MILL_STAT_BUSY) :=
    .put (.put (.refl _))
  have hplaced : Moves [.tasks, .mill] s (s.taskPlaced k) := .record (.refl s) (by rfl)
  have hm : Moves [.regs, .cycle, .mill, .tasks] s (((s.taskPlaced k).fetchBundle.put F.MILL_STAT_TASK k).set1 F.MILL_STAT_BUSY) :=
    (hplaced.mono (by decide)).trans ((hfetch.mono (by decide)).trans (hshow.mono (by decide)))
  have hw : s.Writes (· = R.MILL_STAT) (((s.taskPlaced k).fetchBundle.put F.MILL_STAT_TASK k).set1 F.MILL_STAT_BUSY) :=
    .set1 (.put ((Writes.of_regs hplaced.regs).trans (fetchBundle_stat _)) rfl) rfl
  obtain ⟨hrunning, hpc, hlanes, hdmem, -⟩ := fetchBundle_mill (s.taskPlaced k)
  have htask : ((s.taskPlaced k).fetchBundle.task k).started = true := by
    rw [task_congr hfetch.tasks]
    exact congrArg TaskSt.started (task_modTask_same s _ (k.isLt.trans_eq hs.tasks.symm))
  refine ⟨_, congrArg Host.Outcome.next (taskStart_eq hrun hin hdone hst hdue hmay hidle), ?_, ?_, ?_, ?_, on_set1_same _ _ (by decide) (by decide), ?_,
    fun b hb => hw.rd hb, hm.clk, hm.loom⟩
  · rw [task_congr hshow.tasks]
    exact htask
  · rw [hshow.mill]
    exact hrunning
  · rw [hshow.mill]
    exact hpc
  · rw [hshow.mill]
    exact hlanes
  · rw [hshow.mill]
    exact hdmem

theorem programEnd_eq (hrun : s.mill.running = some k) (hpc : 4096 ≤ s.mill.pc) (hend : s.mill.ending = none) :
    s.programEnd = s.millHalt.taskFlags k illegal := by
  unfold programEnd
  rw [hrun]
  exact if_pos ⟨hpc, hend⟩

theorem taskFlags_ended (s : State) (k : Nat) (f : Flags) : ((s.taskFlags k f).task k).ended = (s.task k).ended := by
  have h (u : State) (hu : u.tasks = s.tasks) : ((u.modTask k (fun x => { x with flagged := true })).task k).ended = (s.task k).ended :=
    task_modTask_of (p := fun x => x.ended = (s.task k).ended) u _ (congrArg TaskSt.ended (task_congr hu k)) fun _ hx => hx
  unfold taskFlags
  split
  · rfl
  · extract_lets u1 u2 u3 first u4
    have hall : Moves [.regs, .cycle] s u3 := .whenB (.whenB (.whenB (.whenB (.whenB (.refl s) fun _ hu => hu.put) fun _ hu => hu.put)
      fun _ hu => hu.put) fun _ hu => hu.put) fun _ hu => hu.put
    have h4 : (u4.task k).ended = (s.task k).ended := h u3 hall.tasks
    split
    · rw [task_congr (raise_tasks ..)]
      exact h4
    · exact h4

theorem programEndReached_gives (k : Fin 8) (hrun : s.mill.running = some k.val) (hpc : 4096 ≤ s.mill.pc) (hend : s.mill.ending = none) :
    Completes .programEndReached s fun t =>
      t.mill.running = none ∧ t.on (F.MILL_TASKt_STAT_ILL k) = true ∧ (t.task k).ended = (s.task k).ended ∧ t.mill.dmem = s.mill.dmem ∧
      t.clk = s.clk ∧ t.loom = s.loom := by
  have hhalt := millHalt_moves s
  have hflags : Moves [.regs, .cycle, .tasks, .events, .stew] s.millHalt (s.millHalt.taskFlags k illegal) := .taskFlags (.refl _)
  refine ⟨_, congrArg Host.Outcome.next (programEnd_eq hrun hpc hend), ?_, on_taskFlags_ill _ _ _ rfl, ?_, ?_, hflags.clk.trans hhalt.clk,
    hflags.loom.trans hhalt.loom⟩
  · rw [hflags.mill]
    rfl
  · rw [taskFlags_ended, task_congr hhalt.tasks]
  · rw [hflags.mill]
    rfl

/-! ### The scrub (R138) -/

theorem millScrub_gives (hidle : s.mill.running = none) (hbad : s.mill.correctable.contains (Config.millScrub s.draws) = true) :
    s.millScrub.on F.MILL_STAT_ECC_CORR = true ∧ s.millScrub.get F.MILL_STAT_CORR_CNT = min (s.get F.MILL_STAT_CORR_CNT + 1) 65535 ∧
    ¬ Config.millScrub s.draws ∈ s.millScrub.mill.correctable ∧ s.millScrub.mill.dmem = s.mill.dmem ∧
    (∀ b, b ≠ R.MILL_STAT → s.millScrub.rd b = s.rd b) := by
  have hmem : Config.millScrub s.draws ∈ s.drawn.mill.correctable := by simpa using hbad
  have hne : s.mill.correctable.isEmpty = false := by
    cases h : s.mill.correctable with
    | nil => simp [h] at hbad
    | cons _ _ => rfl
  have heq : s.millScrub = s.drawn.correctWord (Config.millScrub s.draws) := by
    unfold millScrub
    rw [hidle, hne]
    rfl
  obtain ⟨hcorr, hcnt, -, -, hgone⟩ := correctWord_meets hmem
  have hw : s.drawn.Writes (· = R.MILL_STAT) (s.drawn.correctWord (Config.millScrub s.draws)) := .correctWord (.refl _) rfl
  rw [heq]
  refine ⟨hcorr, hcnt.trans rfl, hgone, ?_, fun b hb => hw.rd hb⟩
  unfold correctWord
  split <;> rfl

end State
end Sys2Proof.Machine

/-! An uncorrectable word of the Mill's memories: every task stops, its legs are blocked, and the device goes to LIMP (R138, R378). -/

namespace Sys2Proof.Machine

set_option Elab.async false
namespace State

variable {s t u : State} {k l : Nat}

/-! ### Steps beside the Mill -/

/-- A step that leaves the Mill and its status. -/
structure MillRests (s t : State) : Prop where
  stat : t.rd R.MILL_STAT = s.rd R.MILL_STAT
  mill : t.mill = s.mill

namespace MillRests

theorem refl (s : State) : s.MillRests s := ⟨rfl, rfl⟩

theorem trans (h : s.MillRests t) (h' : t.MillRests u) : s.MillRests u := ⟨h'.stat.trans h.stat, h'.mill.trans h.mill⟩

theorem of {A : List Part} {P : Nat → Prop} (hm : Moves A s t) (hw : s.Writes P t) (hP : ¬ P R.MILL_STAT) (ha : A.elem .mill = false := by decide) :
    s.MillRests t := ⟨hw.rd hP, hm.mill ha⟩

theorem put (h : s.MillRests t) {f : Fld} {n : Nat} (hf : f.addr ≠ R.MILL_STAT) : s.MillRests (t.put f n) :=
  h.trans (.of (A := [.regs, .cycle]) (P := (· = f.addr)) (.put (.refl t)) (.put (.refl t) rfl) hf.symm)

theorem raise (h : s.MillRests t) {src : Nat} : s.MillRests (t.raise src) := h.trans ⟨rd_raise .., raise_mill ..⟩

theorem log (h : s.MillRests t) {code block : Nat} {sev : Severity} {data : List Byte} : s.MillRests (t.log code block sev data) :=
  h.trans ⟨rd_congr (log_regs ..) _, Moves.mill (F := [.rtc, .mram, .events, .stew, .draws]) (.log (.refl t))⟩

theorem ite {p : Prop} [Decidable p] (ht : s.MillRests t) (hu : s.MillRests u) : s.MillRests (if p then t else u) := by split <;> assumption

theorem forAll (h : s.MillRests t) {n : Nat} {f : Nat → State → State} (hf : ∀ i u, i < n → s.MillRests u → s.MillRests (f i u)) :
    s.MillRests (t.forAll n f) := forAll_rec (p := fun _ u => s.MillRests u) h fun i u hi hu => hf i u hi hu

end MillRests

theorem MILL_STAT_not_block {i : Nat} (hi : i ≠ 5) : ¬ inBlock i R.MILL_STAT := by
  simp only [inBlock, blockBase, R.MILL_STAT]
  omega

theorem legRested_rests (s : State) (l : Nat) : s.MillRests ((s.restLeg l true).clearCarries l) :=
  (MillRests.of (restLeg_moves s l true) (restLeg_writes s l true) (MILL_STAT_not_block (by decide))).trans
    (.of (clearCarries_moves _ l) (clearCarries_writes _ l) (by simp only [R.MILL_STAT, R.LOOM_LEGl_STAT]; omega))

theorem leaveService_rests (s : State) : s.MillRests s.leaveService := by
  unfold leaveService
  exact .put (.forAll (.refl s) fun i u _ hu => hu.put (by simp only [R.TST_DLYk, R.MILL_STAT]; omega)) (by decide)

theorem modeLeft_rests (s : State) (dest : Mode) : s.MillRests (s.modeLeft dest) := by
  have h : s.MillRests (if s.mode = .service then s.leaveService else s) := .ite (leaveService_rests s) (.refl s)
  unfold modeLeft
  exact .ite (h.forAll fun l u _ hu => hu.trans (legRested_rests u l)) h

theorem recordMode_rests (s : State) (was dest : Mode) (cause : Nat) (byCommand : Bool) : s.MillRests (s.recordMode was dest cause byCommand) := by
  have hlog : s.MillRests (s.modeLogged was dest cause) := .log (.raise (.put (.put (.put (.refl s) (by decide)) (by decide)) (by decide)))
  rw [recordMode_eq]
  exact .ite hlog (hlog.trans ⟨rd_congr (attend_regs ..) _, Moves.mill (F := [.events, .stew]) (.attend (.refl _))⟩)

/-- What the entry into LIMP does once the Mill has stopped. -/
theorem enterLimp_rests (h : s.mode ≠ .doze) (cause : Nat) (byCommand : Bool) : (s.modeStops .limp).MillRests (s.enterMode .limp cause byCommand) := by
  have hback : (s.modeStops .limp).MillRests (s.modeBack .limp) := by
    unfold modeBack
    rw [if_neg h]
    exact .put (.put (.refl _) (by decide)) (by decide)
  rw [enterMode_eq, if_neg (by decide), if_neg h, modeFollowed, if_neg (fun hd => h hd.1)]
  refine ((hback.trans (recordMode_rests _ _ _ _ _)).trans (.of (gdRefreshAll_moves _) (gdRefreshAll_writes _) (MILL_STAT_not_block (by decide)))).trans
    (.of (brkStepAll_moves _) (brkStepAll_writes _) ?_)
  simp only [brkRegs, linkRegs, R.MILL_STAT, R.GDP_LINKn_STAT, R.GDP_STAT]
  omega

/-! ### The Mill at rest after a fatal word -/

/-- ECC_FATAL stands, and no task executes. -/
def Fatal (s : State) : Prop := s.on F.MILL_STAT_ECC_FATAL = true ∧ s.mill.running = none

theorem Fatal.rests (h : s.Fatal) (hr : s.MillRests t) : t.Fatal := ⟨(on_of_rd hr.stat).trans h.1, (congrArg Mill.running hr.mill).trans h.2⟩

theorem millHalt_fatal (h : s.Fatal) : s.millHalt.Fatal := ⟨by
  unfold millHalt
  rw [on_clr_other _ _ _ (by decide) (by decide)]
  exact (on_congr rfl _).trans h.1, rfl⟩

theorem millStop_running (s : State) : s.millStop.mill.running = none := by
  refine forAll_rec (p := fun _ u => u.mill.running = none) rfl fun i u _ hu => ?_
  exact (congrArg Mill.running (Moves.mill (F := [.regs, .cycle, .tasks]) (.put (modTask_moves u i _ |>.mono (by decide))))).trans hu

theorem millStop_fatal (h : s.Fatal) : s.millStop.Fatal := by
  refine ⟨?_, millStop_running s⟩
  have hw : s.millHalt.Writes (fun b => ∃ i, b = R.MILL_TASKt_STAT i) s.millStop :=
    Writes.forAll (.refl _) fun i u _ hu => Writes.clr (hu.regs (by rfl)) ⟨i, rfl⟩
  exact (hw.on (f := F.MILL_STAT_ECC_FATAL) fun ⟨i, hi⟩ => millStat_ne_taskStat i hi).trans (millHalt_fatal h).1

theorem limpCaused_rests (s : State) (cause : Nat) : s.MillRests (s.limpCaused cause) := .ite (.refl s) (.put (.refl s) (by decide))

theorem limp_fatal (h : s.Fatal) (hm : s.mode ≠ .doze) (cause : Nat) : (s.limp cause).Fatal := by
  rw [limp_eq]
  split
  · have hstop : ((s.limpCaused cause).modeStops .limp).Fatal := millStop_fatal (h.rests ((limpCaused_rests s cause).trans (modeLeft_rests _ .limp)))
    exact hstop.rests (enterLimp_rests ((limpCaused_mode s cause).symm ▸ hm) 7 false)
  · exact h

/-! ### The legs at the end of RUN and SERVICE -/

/-- Where a leg stands for no pair of outputs, it is off. -/
theorem leg_out_of_range (h : s.loom.legs.length ≤ l) : s.leg l = {} := by
  rw [leg, nth, List.getD_eq_default _ _ h]

/-- Every leg rests. -/
theorem legsRested_off (h : s.loom.legs.length = 24) : (s.forAll 24 (fun l u => (u.restLeg l true).clearCarries l)).legsOff := by
  have hwork (u : State) (i : Nat) : u.LegWork ((u.restLeg i true).clearCarries i) i := clearCarries_work (restLeg_work u i true)
  have hlen : (s.forAll 24 (fun l u => (u.restLeg l true).clearCarries l)).loom.legs.length = 24 :=
    forAll_rec (p := fun _ u => u.loom.legs.length = 24) h fun i u _ hu => (hwork u i).length.trans hu
  intro l
  by_cases hl : l < 24
  · refine forAll_at (fun u => (u.leg l).outH = false ∧ (u.leg l).outL = false) (fun _ => True) trivial (fun _ _ _ _ => trivial)
      (fun u _ => clearCarries_off _ l (restLeg_off u l true)) (fun j u hj _ hu => ?_) hl
    rw [(hwork u j).other hj.symm]
    exact hu
  · rw [leg_out_of_range (hlen.trans_le (not_lt.mp hl))]
    exact ⟨rfl, rfl⟩

theorem Stands.legsOff (h : s.Stands t) (hs : s.legsOff) : t.legsOff := fun l => ⟨h.outH l (hs l).1, h.outL l (hs l).2⟩

theorem enterLimp_after (s : State) (cause : Nat) (byCommand : Bool) : (s.modeLeft .limp).Stands (s.enterMode .limp cause byCommand) := by
  have hput : (s.modeLeft .limp).Stands (s.modePut .limp) := (millStop_aside _).stands.trans (put_SYS_MODE_stands _ F.SYS_MODE_MODE Mode.limp.code rfl)
  have hback : (s.modeLeft .limp).Stands (s.modeBack .limp) := by
    unfold modeBack
    exact (Stands.ite (hput.trans (coreReturns_stands _)) hput).trans (putB_OUT_EN_stands _ _)
  have htaken : (s.modeLeft .limp).Stands (s.modeTaken .limp cause byCommand) := by
    unfold modeTaken
    exact (hback.trans (modeWritten_stands _ s.mode .limp)).trans (recordMode_after _ _ _ _ _).stands
  exact ((Stands.ite (htaken.trans (holdBegins_stands _)) htaken).trans (modeFollowed_after s .limp cause byCommand).stands).trans
    (enterMode_after s .limp cause byCommand).stands

/-- LIMP takes every output of a device that switches away. -/
theorem limp_legsOff (hlen : s.loom.legs.length = 24) (hp : s.sys.phase = .run) (hsw : s.switching = true) (cause : Nat) : (s.limp cause).legsOff := by
  have hmode : s.mode = .run ∨ s.mode = .service := by simpa [switching] using hsw
  have hgo : s.sys.phase = .run ∧ s.mode ≠ .keep ∧ s.mode ≠ .limp := ⟨hp, by rcases hmode with h | h <;> simp [h], by rcases hmode with h | h <;> simp [h]⟩
  rw [limp_eq, if_pos hgo]
  refine (enterLimp_after _ 7 false).legsOff ?_
  have hm := limpCaused_mode s cause
  have hl : (s.limpCaused cause).loom = s.loom := Moves.loom (F := [.regs, .cycle]) (.ite (.refl s) (.put (.refl s)))
  generalize s.limpCaused cause = u at hm hl ⊢
  have hserv : (if u.mode = .service then u.leaveService else u).loom = u.loom := by
    split
    · exact (leaveService_aside u).moves.loom
    · rfl
  unfold modeLeft
  have hsw' : (u.mode.switches && !Mode.limp.switches) = true := by
    rw [hm]
    rcases hmode with h | h <;> rw [h] <;> rfl
  dsimp only
  rw [if_pos hsw']
  exact legsRested_off (by rw [hserv, hl]; exact hlen)

/-! ### The fatal word (R138) -/

/-- The legs with an owned compare word. -/
def ownedLegs (s : State) : Nat :=
  (List.range 24).foldl (fun m l => if (s.stagedOwner (2 * l)).isSome || (s.stagedOwner (2 * l + 1)).isSome then m + 2 ^ l else m) 0

theorem millFatal_eq (s : State) : s.millFatal = (s.millStop.blockLegs .mill s.ownedLegs).set1 F.MILL_STAT_ECC_FATAL := rfl

theorem millFatal_moves (s : State) : Moves [.regs, .cycle, .mill, .tasks, .loom, .gdp, .events, .stew] s s.millFatal :=
  .put (((millStop_moves s).mono (by decide)).trans ((blockLegs_moves _ .mill s.ownedLegs).mono (by decide)))

theorem millFatal_fatal (s : State) : s.millFatal.Fatal := by
  refine ⟨on_set1_same _ _ (by decide) (by decide), ?_⟩
  have hm : Moves [.regs, .cycle, .loom, .gdp, .events, .stew] s.millStop s.millFatal := .put (blockLegs_moves _ .mill s.ownedLegs)
  rw [hm.mill]
  exact millStop_running s

theorem millFatal_mode (s : State) : s.millFatal.rd R.SYS_MODE = s.rd R.SYS_MODE := by
  have hblock : s.millStop.Writes driveBlocks (s.millStop.blockLegs .mill s.ownedLegs) :=
    (blockLegs_writes s.millStop .mill s.ownedLegs).mono fun b ⟨l, hl, hb⟩ => blockRegs_drive hl hb
  have hset : (s.millStop.blockLegs .mill s.ownedLegs).Writes (· = R.MILL_STAT) s.millFatal := .set1 (.refl _) rfl
  rw [hset.rd (by decide), hblock.rd (by simp only [driveBlocks, inBlock, blockBase, R.SYS_MODE]; omega), (millStop_aside s).writes.rd SYS_MODE_not_aside]

theorem coreRuns_not_keep (h : s.coreRuns = true) : s.mode ≠ .keep := fun hk => by simp [coreRuns, hk] at h

theorem millEccFatal_gives (hruns : s.coreRuns = true) (hs : s.Shaped) :
    Completes .millEccFatal s fun t => t.on F.MILL_STAT_ECC_FATAL = true ∧ t.mill.running = none ∧ t.mode = .limp ∧
      (s.switching = true → t.legsOff) ∧ s.clockKept t ∧ t.otp = s.otp := by
  have hexec : exec .millEccFatal s = .next (s.millFatal.limp 2) := congrArg Host.Outcome.next (if_pos hruns)
  have hm := millFatal_moves s
  have hmode := mode_of_rd (millFatal_mode s)
  have hdoze : s.millFatal.mode ≠ .doze := hmode.symm ▸ coreRuns_not_doze hruns
  have hphase : s.millFatal.sys.phase = .run := (congrArg Sys.phase hm.sys).trans (coreRuns_phase hruns)
  have hleads : Moves _ s.millFatal (s.millFatal.limp 2) := (limp_leads hdoze 2).moves
  have hsw : s.millFatal.switching = s.switching := by rw [switching, hmode, switching]
  have hall : Moves [.regs, .cycle, .loom, .gdp, .rtc, .mram, .events, .stew, .draws, .tst, .mill, .tasks] s (s.millFatal.limp 2) :=
    (hm.mono (by decide)).trans (hleads.mono (by decide))
  obtain ⟨hfatal, hrunning⟩ := limp_fatal (millFatal_fatal s) hdoze 2
  exact ⟨_, hexec, hfatal, hrunning, limp_mode hphase (hmode.symm ▸ coreRuns_not_keep hruns) 2,
    fun h => limp_legsOff ((Keeps.millFatal (.refl s)).shaped hs).legs hphase (hsw.trans h) 2, hall.clockKept, hall.otp⟩

end State
end Sys2Proof.Machine

/-! The cycle after a task's END, and obligation O36 (R132 to R142). -/

namespace Sys2Proof.Machine

set_option Elab.async false
namespace State

variable {s t u : State} {k : Nat}

/-! ### The task that ends stays until its cycle is over -/

theorem correctWord_ending (s : State) (n : Nat) : (s.correctWord n).mill.ending = s.mill.ending := by
  unfold correctWord
  split <;> rfl

theorem millScrub_ending (s : State) : s.millScrub.mill.ending = s.mill.ending := by
  unfold millScrub
  split
  · rfl
  · exact (correctWord_ending ..).trans rfl

theorem storeNow_ending (s : State) (p : PendStore) : (s.storeNow p).mill.ending = s.mill.ending := by
  unfold storeNow
  split
  · rfl
  · split <;> rfl

theorem foldl_ending {α : Type} {f : State → α → State} (xs : List α) (hf : ∀ u x, (f u x).mill.ending = u.mill.ending) :
    (xs.foldl f s).mill.ending = s.mill.ending := by
  induction xs generalizing s with
  | nil => rfl
  | cons x xs ih => exact (ih (s := f s x)).trans (hf s x)

theorem storesDone_ending (s : State) : s.storesDone.mill.ending = s.mill.ending := foldl_ending _ fun _ _ => foldl_ending _ storeNow_ending

theorem retire_ending (s : State) (load : Bool) : (s.retire load).mill.ending = s.mill.ending := foldl_ending _ fun _ _ => rfl

theorem lanesMoved_ending (s : State) : s.lanesMoved.mill.ending = s.mill.ending :=
  ((retire_ending _ true).trans (retire_ending _ false)).trans (storesDone_ending s)

theorem laneCycle_ending (s : State) : s.laneCycle.mill.ending = s.mill.ending := by
  rw [laneCycle_eq]
  split
  · rfl
  · split
    · exact (fetchBundle_mill s.lanesMoved).2.2.2.2.trans (lanesMoved_ending s)
    · exact lanesMoved_ending s

/-- No task executes or ends, and BUSY is clear. -/
structure MillIdle (s : State) : Prop where
  running : s.mill.running = none
  ending : s.mill.ending = none
  busy : s.on F.MILL_STAT_BUSY = false

theorem MillIdle.rests (h : s.MillIdle) (hr : s.MillRests t) : t.MillIdle :=
  ⟨(congrArg Mill.running hr.mill).trans h.running, (congrArg Mill.ending hr.mill).trans h.ending, (on_of_rd hr.stat).trans h.busy⟩

theorem millTick_idle (h : s.mill.ending = some k) : s.millTick.MillIdle := by
  have hend : s.millScrub.laneCycle.mill.ending = some k := (laneCycle_ending _).trans ((millScrub_ending s).trans h)
  unfold millTick
  dsimp only
  rw [hend, Option.isSome_some, if_pos rfl]
  exact ⟨rfl, rfl, on_clr_same _ _ (by decide)⟩

/-! ### The rest of the cycle -/

theorem tickWork_idle (hruns : s.coreRuns = true) (h : s.mill.ending = some k) : s.tickWork.MillIdle := by
  have hend : s.digestFlush.mill.ending = some k := (congrArg Mill.ending (digestFlush_moves s).mill).trans h
  unfold tickWork
  rw [if_pos hruns]
  exact (millTick_idle hend).rests (.of (emuLag_moves _) (emuLag_writes _) (MILL_STAT_not_block (by decide)))

theorem tickCount_rests (s : State) : s.tickWork.MillRests s.tickCount := by
  have hcount : s.tickWork.MillRests (if s.tickWork.timebaseRuns then s.tickWork.refTick.countTick else s.tickWork) := by
    refine .ite (.trans (.of (refTick_moves _) (refTick_writes _) (by decide)) ?_) (.refl _)
    exact .of (P := fun _ => False) (countTick_moves _) (.of_regs (countTick_moves _).regs) id
  exact hcount.trans ⟨rfl, rfl⟩

theorem endEvent_rests (s was : State) : s.MillRests (s.endEvent was) :=
  .of (P := fun _ => False) (endEvent_moves s was) (.of_regs (endEvent_moves s was).regs) id

theorem tickLines_rests (s : State) : s.tickCount.MillRests s.tickLines := by
  have h := endEvent_rests s.tickCount s
  unfold tickLines
  refine .ite h (h.forAll fun i v hi hv => hv.trans (.of (tlWritten_moves v s i) (tlWritten_writes v s i) fun hb => ?_))
  have := lineRegs_drive hi hb
  simp only [driveBlocks, inBlock, blockBase, R.MILL_STAT] at this
  omega

theorem tickRest_rests (s : State) : s.MillRests s.tickRest := by
  refine .of (tickRest_moves s) (tickRest_writes s) ?_
  simp only [restBlocks, irqRegs, stopBlocks, inBlock, blockBase, R.MILL_STAT, R.CMP_IRQSTATj]
  rintro (⟨j, h⟩ | h) <;> omega

theorem tick_idle (hruns : s.coreRuns = true) (h : s.mill.ending = some k) : s.tick.MillIdle := by
  rw [tick_rest]
  exact (((tickWork_idle hruns h).rests (tickCount_rests s)).rests (tickLines_rests s)).rests (tickRest_rests _)

/-! ### The event of END (R136) -/

theorem tlWritten_lasts (s was : State) (i : Nat) : s.EventsLast (s.tlWritten was i) :=
  have h : s.EventsLast (s.lineRestarted was i) := .same (.refl s) (lineRestarted_moves s was i).events
  tlWritten_cases (p := fun u => s.EventsLast u) h fun mask => h.trans (blockLegs_lasts _ .tl mask)

theorem winEvent_lasts (s : State) (w : Nat) : s.EventsLast (s.winEvent w) := by
  have h : s.EventsLast (s.raise (0x60 + w)) := .raise (.refl s) _
  have hput : s.EventsLast ((s.raise (0x60 + w)).putBit (R.CMP_IRQSTATj (w / 32)) (w % 32) true) := .same h (putBit_events ..)
  unfold winEvent
  exact .ite (.ite hput (hput.trans fun e he => emit_keeps _ _ e he)) h

theorem dmaTick_lasts (s : State) : s.EventsLast s.dmaTick := EventsLast.forAll (.refl s) fun _ _ hu => .ite (EventsLast.trans (t := State.modDma _ _ _) (.same hu rfl) (.raise (.refl _) _)) hu

theorem winTick_lasts (s : State) : s.EventsLast s.winTick := by
  unfold winTick
  exact .ite (.refl s) (EventsLast.foldl (.same (.refl s) rfl) fun u w hu => hu.trans (winEvent_lasts u w))

theorem rplStop_lasts (s : State) : s.EventsLast s.rplStop := by
  unfold rplStop
  exact EventsLast.trans (.same (.refl s) (Moves.events (F := [.regs, .cycle, .tst]) (.put (.record (.refl s) (by rfl))))) (gdRefreshAll_lasts _)

theorem rplFinish_lasts (s : State) : s.EventsLast s.rplFinish := by
  unfold rplFinish
  dsimp only
  refine .ite (EventsLast.trans (.same (.refl s) (Moves.events (F := [.regs, .cycle, .tst]) ?_)) (rplStop_lasts _)) (.refl s)
  exact .put (.wr ((digestWords_moves s _).mono (by decide)))

theorem tickRest_lasts (s : State) : s.EventsLast s.tickRest := by
  unfold tickRest
  exact .ite (((dmaTick_lasts s).trans (winTick_lasts _)).trans (rplFinish_lasts _)) (.refl s)

theorem tickLines_lasts (s : State) : (s.tickCount.endEvent s).EventsLast s.tickLines := by
  unfold tickLines
  exact .ite (.refl _) (EventsLast.forAll (.refl _) fun i u hu => hu.trans (tlWritten_lasts u s i))

theorem tickLines_clk (s : State) : s.tickLines.clk = s.tickCount.clk := by
  have h : Moves [.regs, .cycle, .loom, .gdp, .events, .stew] s.tickCount (s.tickCount.endEvent s) := (endEvent_moves _ s).mono (by decide)
  have hall : Moves [.regs, .cycle, .loom, .gdp, .events, .stew] s.tickCount s.tickLines := by
    unfold tickLines
    exact .ite h (Moves.forAll h fun i v hv => hv.trans (tlWritten_moves v s i))
  exact hall.clk

/-- The end of a task is on its way at the present time of the next cycle. -/
theorem tick_sends (hruns : s.coreRuns = true) (h : s.mill.ending = some k) : s.tick.sent s.tick (0x50 + k) := by
  have hmode : s.tickCount.coreRuns = true := by
    refine (coreRuns_of_writes (tickCount_writes s) (tickCount_moves s).sys ?_).trans hruns
    simp only [countBlocks, workBlocks, inBlock, blockBase, R.SYS_MODE, R.CLK_SYN0_TRIM]
    omega
  have hend : s.tickCount.endEvent s = s.tickCount.raise (0x50 + k) := by
    unfold endEvent
    rw [h]
    exact if_pos hruns
  have hlasts : (s.tickCount.raise (0x50 + k)).EventsLast s.tick := by
    rw [tick_rest]
    exact hend ▸ (tickLines_lasts s).trans (tickRest_lasts _)
  have hsent : s.tickCount.sent s.tick (0x50 + k) := (sent_raise hmode rfl _).keeps hlasts
  have hcount : s.tick.clk.count = s.tickCount.clk.count := by
    rw [tick_rest, (tickRest_moves _).clockKept.count, tickLines_clk]
  obtain ⟨e, he, hsrc, hat⟩ := hsent
  exact ⟨e, he, hsrc, hat.trans hcount.symm⟩

theorem taskEnds_gives (hp : s.pending = []) (hruns : s.coreRuns = true) (h : s.mill.ending = some k) :
    ∃ t, step s = .next t ∧ t.mill.running = none ∧ t.mill.ending = none ∧ t.on F.MILL_STAT_BUSY = false ∧
      ∃ e ∈ t.events, e.src = 0x50 + k ∧ e.count = t.clk.count := by
  have hstep : step s = .next s.tick := by unfold step; rw [hp]
  obtain ⟨hrun, hend, hbusy⟩ := tick_idle hruns h
  exact ⟨s.tick, hstep, hrun, hend, hbusy, tick_sends hruns h⟩

end State

/-- Settles O36: each clause by the operation's own lemma. -/
theorem millFrames : Obligations.MillFrames :=
  ⟨fun _ k hs h1 h2 h3 h4 => State.inputInstant_gives k hs h1 h2 h3 h4, fun _ k hs h1 h2 h3 => State.policyHold_gives k hs h1 h2 h3,
    fun _ k hs h1 h2 h3 => State.policyFallback_gives k hs h1 h2 h3, fun _ k hs h1 h2 h3 => State.policyTrip_gives k hs h1 h2 h3,
    fun _ k hs h1 h2 h3 h4 h5 h6 h7 => State.taskStart_gives k hs h1 h2 h3 h4 h5 h6 h7,
    fun _ k _ h1 h2 h3 => State.programEndReached_gives k h1 h2 h3, fun _ h hs => State.millEccFatal_gives h hs,
    fun _ _ hp hruns h => State.taskEnds_gives hp hruns h, fun _ h1 h2 => State.millScrub_gives h1 h2,
    fun _ _ k _ hs => ⟨fun h => State.swapWrite_gives k hs h, fun h => State.resumeWrite_gives k hs h, fun h => State.revertWrite_gives k hs h⟩⟩

end Sys2Proof.Machine

/-! Ports and timers of the Steward (R321 to R323, R335, R340, R379). -/

namespace Sys2Proof.Machine

set_option Elab.async false
namespace State

variable {s t u : State} {l : Link} {h : Hdr} {b : List Byte} {n : Nat}

/-! ### Packets as bytes (R321, R322) -/

theorem packet_completes {i : Link → Hdr → List Byte → Instr} {op : Nat} (hi : PacketOp i op) (s : State) (h : Hdr) (p : List Byte)
    (hf : hdrFits h p = true) :
    (Completes (.spiWrite (hdrPacket h op p)) s fun t => exec (i .spi h p) s = .next t) ∧
    (Completes (.uartPacket (hdrPacket h op p)) s fun t => exec (i .uart h p) s = .next t) := by
  obtain ⟨-, -, -, hboth⟩ := packetsReadBackAsTheirCommands i op hi h p hf
  obtain ⟨hspi, huart⟩ := hboth s
  have hrun (l : Link) : exec (i l h p) s = .next (s.command op l h p) := hi.exec_eq l h p s
  exact ⟨⟨_, hspi.trans (hrun .spi), hrun .spi⟩, ⟨_, huart.trans (hrun .uart), hrun .uart⟩⟩

theorem status_command (p : List Byte) (hp : s.Passes 0x0201 l h p) : Completes (.status l h p) s fun t =>
    s.gives t l h (s.stateBlock l ++ leBytes 2 h.seq.toNat ++ leBytes 2 ((s.link l).nextReply - 1).toNat ++ leBytes 4 (crc32c (s.stateBlock l)).toNat) ∧
      s.OnlySteward t := by
  refine ⟨_, rfl, ?_⟩
  rw [hp.command_eq]
  have hu := ready_ready s l h 0x0201 p
  generalize s.ready l (hdrCmd h 0x0201 p) = u at hu
  have hlast : (u.link l).last = h.seq := hu.last
  have hx : u.execute l (hdrCmd h 0x0201 p) = u.doStatus l (hdrCmd h 0x0201 p) := rfl
  rw [hx, doStatus]
  dsimp only
  rw [hu.stateBlock, hlast, hu.nextReply]
  obtain ⟨hans, -, honly⟩ := hu.answered hp.serves (c := hdrCmd h 0x0201 p) rfl _ _
  exact ⟨hans, honly⟩

theorem status_bytes (s : State) (h : Hdr) :
    let statusBytes := fun (l : Link) => s.stateBlock l ++ leBytes 2 h.seq.toNat ++ leBytes 2 ((s.link l).nextReply - 1).toNat ++
      leBytes 4 (crc32c (s.stateBlock l)).toNat
    (s.Passes 0x0201 .spi h [] → Completes (.spiWrite (hdrPacket h 0x0201 [])) s fun t => s.gives t .spi h (statusBytes .spi) ∧ s.OnlySteward t) ∧
    (s.Passes 0x0201 .uart h [] →
      Completes (.uartPacket (hdrPacket h 0x0201 [])) s fun t => s.gives t .uart h (statusBytes .uart) ∧ s.OnlySteward t) := by
  have hboth (hf : hdrFits h [] = true) := (packetsReadBackAsTheirCommands .status 0x0201 .status h [] hf).2.2.2 s
  refine ⟨fun hp => ?_, fun hp => ?_⟩
  · obtain ⟨t, ht, hgives⟩ := status_command [] hp
    exact ⟨t, (hboth hp.fits).1.trans ht, hgives⟩
  · obtain ⟨t, ht, hgives⟩ := status_command [] hp
    exact ⟨t, (hboth hp.fits).2.trans ht, hgives⟩

/-- An SPI WRITE of a whole packet with a wrong CRC is answered. -/
theorem spiWrite_badCrc (hs : s.serves .spi = true) (hr : s.rxFull .spi = false) (h0 : byteAt b 0 = 0xA5) (h1 : byteAt b 1 = 1)
    (hlen : 16 ≤ b.length) (hall : b.length = packetLen b) (hcrc : crcRight b = false) :
    s.spiWrite b = s.answerRaw .spi b Status.badCrc 0 := by
  have hok : (s.rxFull .spi || (b != [] && byteAt b 0 != 0xA5) || (2 ≤ b.length && byteAt b 1 != 1)) = false := by
    simp [hr, h0, h1]
  unfold spiWrite
  rw [hs, if_neg (by decide), hok, if_neg (by decide), if_neg (not_or.mpr ⟨not_lt.mpr hlen, not_not.mpr hall⟩), takePacket, hcrc]
  rfl

theorem replied_answerRaw (s : State) (l : Link) (b : List Byte) (status detail : Nat) : ∃ a,
    Replied s (s.answerRaw l b status detail) l (Reply.entry { status := status, detail := detail } a false false (s.link l).nextReply) :=
  ⟨_, (replied_reply ..).tended (Tended.refl _).afterAnswer⟩

theorem badCrc_gives (hs : s.serves .spi = true) (hr : s.rxFull .spi = false) (h0 : byteAt b 0 = 0xA5) (h1 : byteAt b 1 = 1)
    (hlen : 16 ≤ b.length) (hall : b.length = packetLen b) (hcrc : crcRight b = false) : Completes (.spiWrite b) s fun t =>
      (∃ e, (t.link .spi).history.getLast? = some e ∧ e.ran = none ∧ e.body.drop 16 = leBytes 2 0x0010 ++ zeros 2 ++ leBytes 4 0) ∧
      (t.link .spi).last = (s.link .spi).last ∧ s.OnlySteward t := by
  refine ⟨_, rfl, ?_⟩
  rw [spiWrite_badCrc hs hr h0 h1 hlen hall hcrc]
  obtain ⟨a, ha⟩ := replied_answerRaw s .spi b Status.badCrc 0
  rw [link_hostMoves]
  exact ⟨⟨_, ha.newest, rfl, (drop_entry_body ..).trans (List.append_nil _)⟩, ha.last, .hostMoves ha.moves ..⟩

/-- An SPI WRITE that begins otherwise is discarded. -/
theorem discard_gives (hs : s.serves .spi = true) (hb : b ≠ []) (h0 : byteAt b 0 ≠ 0xA5) : Completes (.spiWrite b) s fun t =>
    (t.link .spi).discards = (s.link .spi).discards + 1 ∧ (t.link .spi).tx = (s.link .spi).tx ∧ s.OnlySteward t := by
  have hno : (s.rxFull .spi || (b != [] && byteAt b 0 != 0xA5) || (2 ≤ b.length && byteAt b 1 != 1)) = true := by simp [hb, h0]
  have heq : s.spiWrite b = s.modLink .spi (fun k => { k with discards := k.discards + 1 }) := by
    unfold spiWrite
    rw [hs, if_neg (by decide), hno, if_pos rfl]
    rfl
  refine ⟨_, rfl, ?_⟩
  rw [heq]
  beta_reduce
  rw [link_hostMoves, link_modLink_same]
  exact ⟨rfl, rfl, .hostMoves (F := [.stew]) (Moves.refl s).modLink ..⟩

theorem dropWhile_of_no_start (hb : ¬ (0xA5 : Byte) ∈ b) : b.dropWhile (· != 0xA5) = [] :=
  List.dropWhile_eq_nil_iff.mpr fun _ hx => bne_iff_ne.mpr fun h => hb (h ▸ hx)

theorem uartPackets_of_no_start (n : Nat) (hb : ¬ (0xA5 : Byte) ∈ b) : uartPackets n b = [] := by
  cases n with
  | zero => rfl
  | succ n => rw [uartPackets, dropWhile_of_no_start hb]

theorem uartNoise_gives (s : State) (hb : ¬ (0xA5 : Byte) ∈ b) : Completes (.uartPacket b) s fun t => s.unmoved t := by
  refine ⟨_, rfl, ?_⟩
  rw [uartRun, uartPackets_of_no_start _ hb]
  exact hostMoves_unmoved ..

/-! ### Packets that leave (R321, R323) -/

theorem link_queueTx (s : State) (l : Link) (f : List TxPacket → List TxPacket) : (s.queueTx l f).link l = { s.link l with tx := f (s.link l).tx } := by
  unfold queueTx
  dsimp only
  split
  · exact link_modLink_same ..
  · rw [link_emit, link_modLink_same]

theorem queueTx_moves (s : State) (l : Link) (f : List TxPacket → List TxPacket) : Moves [.events, .stew] s (s.queueTx l f) := by
  unfold queueTx
  have hm : Moves [.events, .stew] s (s.modLink l (fun k => { k with tx := f k.tx })) := (Moves.refl s).modLink
  exact .ite hm hm.emit

theorem txGone_link (s : State) (l : Link) : (s.txGone l).link l =
    { s.link l with tx := (s.link l).tx.drop 1 ++ (s.link l).later.take 1, later := (s.link l).later.drop 1 } := by
  rw [txGone, link_modLink_same, link_queueTx]

theorem txGone_moves (s : State) (l : Link) : Moves [.events, .stew] s (s.txGone l) := (queueTx_moves s l _).modLink

theorem spiRead_held (hx : s.fifoHeld = true) (n : Nat) : s.spiRead n = s := by
  unfold spiRead txNext
  rw [hx, if_pos rfl]

theorem spiRead_short {x : TxPacket} {rest : List TxPacket} (htx : (s.link .spi).tx = x :: rest) (hn : n < x.bytes.length) : s.spiRead n = s := by
  unfold spiRead txNext
  split
  next p hp =>
    have hpx : x = p := by
      split at hp
      · cases hp
      · rw [htx] at hp
        exact Option.some.inj hp
    exact if_neg fun h => absurd h.2 (not_le.mpr (hpx ▸ hn))
  · rfl

theorem spiRead_whole {x : TxPacket} {rest : List TxPacket} (hs : s.serves .spi = true) (htx : (s.link .spi).tx = x :: rest)
    (hn : x.bytes.length ≤ n) (hx : s.fifoHeld = false) : s.spiRead n = s.txGone .spi := by
  unfold spiRead txNext
  rw [hx, if_neg (by decide), htx]
  exact if_pos ⟨hs, hn⟩

theorem spiRead_gives {x : TxPacket} {rest : List TxPacket} (hs : s.serves .spi = true) (htx : (s.link .spi).tx = x :: rest) :
    (s.fifoHeld = true → Completes (.spiRead n) s fun t => s.unmoved t) ∧
    (x.bytes.length ≤ n → s.fifoHeld = false → Completes (.spiRead n) s fun t =>
      (t.link .spi).tx = rest ++ (s.link .spi).later.take 1 ∧ (t.link .spi).later = (s.link .spi).later.drop 1 ∧
        (t.link .spi).history = (s.link .spi).history ∧ s.OnlySteward t) ∧
    (n < x.bytes.length → Completes (.spiRead n) s fun t => s.unmoved t) := by
  refine ⟨fun hx => ⟨_, rfl, ?_⟩, fun hn hx => ⟨_, rfl, ?_⟩, fun hn => ⟨_, rfl, ?_⟩⟩
  · rw [spiRead_held hx]
    exact hostMoves_unmoved ..
  · rw [spiRead_whole hs htx hn hx]
    beta_reduce
    rw [link_hostMoves, txGone_link, htx]
    exact ⟨rfl, rfl, rfl, .hostMoves (txGone_moves s .spi) ..⟩
  · rw [spiRead_short htx hn]
    exact hostMoves_unmoved ..

theorem uartSent_gives (hs : s.serves .uart = true) (hx : s.fifoHeld = false) : Completes .uartPacketSent s fun t =>
    (t.link .uart).tx = (s.link .uart).tx.drop 1 ++ (s.link .uart).later.take 1 ∧ (t.link .uart).later = (s.link .uart).later.drop 1 ∧
      (t.link .uart).history = (s.link .uart).history ∧ s.OnlySteward t := by
  have heq : s.uartSent = s.txGone .uart := by
    unfold uartSent
    rw [hs, hx]
    rfl
  refine ⟨_, rfl, ?_⟩
  rw [heq]
  beta_reduce
  rw [link_hostMoves, txGone_link]
  exact ⟨rfl, rfl, rfl, .hostMoves (txGone_moves s .uart) ..⟩

/-! ### What the Steward does by time (R322, R335, R340) -/

theorem baudChange_gives {bd : Nat} {q : BitVec 16} (hb : s.stew.baudNext = some (bd, l, q)) :
    (s.portReplyWaits l q = false → Completes .baudChange s fun t =>
      t.stew.baud = bd ∧ t.stew.baudNext = none ∧ (∀ k, t.link k = s.link k) ∧ s.OnlySteward t) ∧
    (s.portReplyWaits l q = true → exec .baudChange s = .next s) := by
  have heq : s.baudChange = if s.portReplyWaits l q then s else { s with stew := { s.stew with baud := bd, baudNext := none } } := by
    unfold baudChange
    rw [hb]
  refine ⟨fun hw => ⟨_, congrArg Host.Outcome.next (heq.trans (if_neg (by rw [hw]; decide))), rfl, rfl, fun k => by cases k <;> rfl, ?_⟩,
    fun hw => congrArg Host.Outcome.next (heq.trans (if_pos hw))⟩
  exact .of_moves (.record (.refl s) (by rfl))

theorem sessionTimeout_gives {x : Session} (hruns : s.coreRuns = true) (hx : (s.link l).session = some x)
    (hdue : x.touched + 240000000000 ≤ s.count) : Completes (.sessionTimeout l) s fun t =>
      (t.link l).session = none ∧ s.sent t 0xFC ∧ s.OnlySteward t := by
  have heq : s.sessionTimeout l = s.closeSession l 1 := by
    unfold sessionTimeout
    rw [hx]
    exact if_pos (decide_eq_true hdue)
  have hclosed := (Tended.refl s).closeSession (l := l) (what := 1)
  exact ⟨_, congrArg Host.Outcome.next heq, session_closeSession s l 1, sent_closeSession (by rw [hx]; rfl) hruns, .of_moves (hclosed.moves.mono (by decide))⟩

theorem sessionBlockEnd_gives {t0 : Nat} (hb : (s.link l).blockedAt = some t0) (hdue : t0 + 400000000 ≤ s.count) :
    Completes (.sessionBlockEnd l) s fun t =>
      (t.link l).blockedAt = none ∧ (t.link l).session = (s.link l).session ∧ t.events = s.events ∧ s.OnlySteward t := by
  have heq : s.sessionBlockEnd l = s.modLink l (fun k => { k with blockedAt := none }) := by
    unfold sessionBlockEnd
    rw [hb]
    exact if_pos (decide_eq_true hdue)
  have hm : Moves [.stew] s (s.modLink l (fun k => { k with blockedAt := none })) := (Moves.refl s).modLink
  refine ⟨_, congrArg Host.Outcome.next heq, ?_, ?_, hm.events, .of_moves (hm.mono (by decide))⟩
  · rw [link_modLink_same]
  · rw [link_modLink_same]

/-- The telemetry's SEQ is taken. -/
def telTaken (s : State) (l : Link) : State := s.modLink l (fun x => { x with telSeq := x.telSeq + 1 })

/-- The telemetry's next period. -/
def telNext (s t : State) (f : Crier → Crier) : State :=
  { t with stew := { t.stew with crier := f { t.stew.crier with nextAt := s.stew.crier.nextAt + s.stew.crier.period * 400000 } } }

theorem crierSend_eq (hruns : s.coreRuns = true) (hl : s.stew.crier.link = (match l with | .spi => 0 | .uart => 1))
    (hdue : s.due s.stew.crier.nextAt = true) :
    s.crierSend = if 8 ≤ (s.link l).tx.length then (s.telNext (s.telTaken l) (fun x => { x with drops := min 65535 (x.drops + 1) })).emit 0xFE
      else s.telNext ((s.telTaken l).queueTx l (fun q => q ++ [⟨s.telemetryPacket l, true, false⟩]))
        (fun x => { x with logFrom := if s.stew.crier.mask.getLsbD 1 then s.logCarried else s.stew.crier.logFrom }) := by
  have hlt : s.stew.crier.link < 2 := by rw [hl]; cases l <;> decide
  have hlink : (if s.stew.crier.link = 0 then Link.spi else .uart) = l := by rw [hl]; cases l <;> rfl
  unfold crierSend
  dsimp only
  rw [if_pos ⟨coreRuns_phase hruns, hlt, hdue⟩, hlink]
  rfl

theorem link_telNext (s t : State) (f : Crier → Crier) (l : Link) : (s.telNext t f).link l = t.link l := by cases l <;> rfl

theorem telTaken_moves (s : State) (l : Link) : Moves [.events, .stew] s (s.telTaken l) := (Moves.refl s).modLink

theorem telNext_moves (s t : State) (f : Crier → Crier) : Moves [.events, .stew] t (s.telNext t f) := .record (.refl t) (by rfl)

theorem crier_queueTx (s : State) (l : Link) (f : List TxPacket → List TxPacket) : (s.queueTx l f).stew.crier = s.stew.crier := by
  have h : (s.modLink l (fun k => { k with tx := f k.tx })).stew.crier = s.stew.crier := by cases l <;> rfl
  unfold queueTx
  dsimp only
  split
  · exact h
  · obtain ⟨x, hx⟩ := emit_stew (s.modLink l (fun k => { k with tx := f k.tx })) 0xFD
    rw [hx]
    exact h

theorem crier_telTaken (s : State) (l : Link) : (s.telTaken l).stew.crier = s.stew.crier := by cases l <;> rfl

theorem crierTelemetry_queued (hruns : s.coreRuns = true) (hl : s.stew.crier.link = (match l with | .spi => 0 | .uart => 1))
    (hdue : s.due s.stew.crier.nextAt = true) (hroom : (s.link l).tx.length < 8) : Completes .crierTelemetry s fun t =>
      (t.link l).tx = (s.link l).tx ++ [⟨s.telemetryPacket l, true, false⟩] ∧ (t.link l).telSeq = (s.link l).telSeq + 1 ∧
      t.stew.crier.nextAt = s.stew.crier.nextAt + s.stew.crier.period * 400000 ∧ s.OnlySteward t := by
  refine ⟨_, congrArg Host.Outcome.next ((crierSend_eq hruns hl hdue).trans (if_neg (not_le.mpr hroom))), ?_⟩
  have hm := ((telTaken_moves s l).trans (queueTx_moves _ l (fun q => q ++ [⟨s.telemetryPacket l, true, false⟩]))).trans
    (telNext_moves s _ (fun x => { x with logFrom := if s.stew.crier.mask.getLsbD 1 then s.logCarried else s.stew.crier.logFrom }))
  beta_reduce
  rw [link_telNext, link_queueTx, telTaken, link_modLink_same]
  exact ⟨rfl, rfl, rfl, .of_moves (hm.mono (by decide))⟩

theorem crierTelemetry_dropped (hruns : s.coreRuns = true) (hl : s.stew.crier.link = (match l with | .spi => 0 | .uart => 1))
    (hdue : s.due s.stew.crier.nextAt = true) (hfull : 8 ≤ (s.link l).tx.length) : Completes .crierTelemetry s fun t =>
      (t.link l).tx = (s.link l).tx ∧ (t.link l).telSeq = (s.link l).telSeq + 1 ∧ t.stew.crier.drops = min 65535 (s.stew.crier.drops + 1) ∧
      s.sent t 0xFE ∧ s.OnlySteward t := by
  refine ⟨_, congrArg Host.Outcome.next ((crierSend_eq hruns hl hdue).trans (if_pos hfull)), ?_⟩
  have hm := (telTaken_moves s l).trans (telNext_moves s _ (fun x => { x with drops := min 65535 (x.drops + 1) }))
  have hdrops : (s.telNext (s.telTaken l) (fun x => { x with drops := min 65535 (x.drops + 1) })).stew.crier.drops = min 65535 (s.stew.crier.drops + 1) := by
    show min 65535 ((s.telTaken l).stew.crier.drops + 1) = _
    rw [crier_telTaken]
  have hlink : (s.telNext (s.telTaken l) (fun x => { x with drops := min 65535 (x.drops + 1) })).link l =
      { s.link l with telSeq := (s.link l).telSeq + 1 } := by rw [link_telNext, telTaken, link_modLink_same]
  generalize s.telNext (s.telTaken l) (fun x => { x with drops := min 65535 (x.drops + 1) }) = v at hm hdrops hlink ⊢
  obtain ⟨x, hx⟩ := emit_stew v 0xFE
  have hsent : s.sent (v.emit 0xFE) 0xFE := sent.of_kept (congrArg Clk.count hm.clk) (emit_arrives v 0xFE (hm.coreRuns.trans hruns))
  refine ⟨?_, ?_, ?_, hsent, .of_moves (hm.emit.mono (by decide))⟩
  · rw [link_emit, hlink]
  · rw [link_emit, hlink]
  · rw [hx]
    exact hdrops

end State
end Sys2Proof.Machine

/-! The end of HOLD, resets, SYS_LTR, and obligation O45 (R321 to R323, R335, R340, R379, R384). -/

namespace Sys2Proof.Machine

set_option Elab.async false
namespace State

variable {s t u : State} {w : World} {v : Word}

/-! ### HOLD and SYS_LTR (R379) -/

theorem holdEnd_gives (hrests : s.policyRests) (hon : s.on F.SYS_PWR_STAT_HOLDING = true) (hdue : s.due s.sys.holdEnd = true) :
    Completes .holdEnd s fun t =>
      t.on F.SYS_PWR_STAT_HOLDING = false ∧ (∀ b, b ≠ R.SYS_PWR_STAT → t.rd b = s.rd b) ∧ t.clk = s.clk ∧ t.loom = s.loom := by
  have hw : s.Writes (· = R.SYS_PWR_STAT) (s.clr F.SYS_PWR_STAT_HOLDING) := .clr (.refl s) rfl
  have hmode : (s.clr F.SYS_PWR_STAT_HOLDING).mode = s.mode := mode_of_rd (hw.rd (by decide))
  have hrest : (s.clr F.SYS_PWR_STAT_HOLDING).policy = s.clr F.SYS_PWR_STAT_HOLDING :=
    policy_rests (hmode ▸ coreRuns_not_doze hrests.1) (hw.rd (b := R.SYS_LTR) (by decide) ▸ hrests.2)
  have heq : s.holdEnds = s.clr F.SYS_PWR_STAT_HOLDING := by
    unfold holdEnds
    rw [if_pos ⟨hon, hdue⟩, hrest]
  exact ⟨_, congrArg Host.Outcome.next heq, on_clr_same _ _ (by decide), fun b hb => hw.rd hb, rfl, rfl⟩

/-- The latency policy leaves what has been done in a mode in which CORE runs, with a short tolerance. -/
theorem policyAfter_short {f : State → State} (hm : (f s).mode ≠ .doze) (hltr : ((f s).rd R.SYS_LTR).toNat < 2000) :
    Moves [.sys] (f s) (s.policyAfter f) := by
  unfold policyAfter
  dsimp only
  split
  · have hrest : ((f s).modSys (fun x => { x with ltrWritten := false })).policy = (f s).modSys (fun x => { x with ltrWritten := false }) :=
      policy_rests hm hltr
    rw [hrest]
    exact modSys_moves _ _
  · exact .refl _

/-- What a write of SYS_LTR does before the policy. -/
theorem ltrWrite_moves (s : State) (v : Word) : Moves [.sys, .cycle, .tst] (s.wr R.SYS_LTR v)
    ((s.transact ((s.hook R.SYS_LTR v).markWritten R.SYS_LTR (s.writable R.SYS_LTR)) 0 1).takePort R.SYS_LTR) := by
  have hltr : Moves [.sys] (s.wr R.SYS_LTR v) (s.hook R.SYS_LTR v) := by
    rw [hook_SYS_LTR]
    exact modSys_moves _ _
  exact (((hltr.mono (by decide)).trans ((markWritten_moves ..).mono (by decide))).trans ((transact_moves ..).mono (by decide))).trans
    ((takePort_moves ..).mono (by decide))

theorem sysLtrWrite_gives (h : s.accepts w R.SYS_LTR v) (hruns : s.coreRuns = true) (hv : v.toNat < 2000) :
    Completes (.sysLtrWrite w v) s fun t =>
      t.rd R.SYS_LTR = v ∧ (∀ b, b ≠ R.SYS_LTR → t.rd b = s.rd b) ∧ t.clk = s.clk ∧ t.loom = s.loom := by
  have heq : s.write w R.SYS_LTR v = s.policyAfter (fun s => (s.transact ((s.hook R.SYS_LTR v).markWritten R.SYS_LTR (s.writable R.SYS_LTR)) 0 1).takePort R.SYS_LTR) := by
    rw [write_accepted h]
    exact if_pos (by decide)
  have hm := ltrWrite_moves s v
  have hltr : ((s.transact ((s.hook R.SYS_LTR v).markWritten R.SYS_LTR (s.writable R.SYS_LTR)) 0 1).takePort R.SYS_LTR).rd R.SYS_LTR = v :=
    (rd_congr hm.regs _).trans ((rd_wr ..).trans (if_pos rfl))
  have hother (b : Nat) (hb : b ≠ R.SYS_LTR) :
      ((s.transact ((s.hook R.SYS_LTR v).markWritten R.SYS_LTR (s.writable R.SYS_LTR)) 0 1).takePort R.SYS_LTR).rd b = s.rd b :=
    (rd_congr hm.regs _).trans ((rd_wr ..).trans (if_neg hb))
  have hmode := mode_of_rd (hother R.SYS_MODE (by decide))
  have hpol : Moves [.sys] _ (s.policyAfter (fun s => (s.transact ((s.hook R.SYS_LTR v).markWritten R.SYS_LTR (s.writable R.SYS_LTR)) 0 1).takePort R.SYS_LTR)) :=
    policyAfter_short (hmode ▸ coreRuns_not_doze hruns) (hltr.symm ▸ hv)
  refine ⟨_, congrArg Host.Outcome.next heq, (rd_congr hpol.regs _).trans hltr, fun b hb => (rd_congr hpol.regs _).trans (hother b hb), ?_, ?_⟩
  · exact hpol.clk.trans (hm.clk.trans (wr_clk ..))
  · exact hpol.loom.trans (hm.loom.trans (wr_loom ..))

/-! ### Resets (R384, R385) -/

/-- What stands as a boot begins, before the island's power. -/
def bootBegun (s : State) (cause wake : Nat) (island : Bool) : State :=
  ((s.afterReset island).put F.SYS_BOOT_CAUSE cause).put F.SYS_BOOT_WAKESRC wake

/-- The CORE domain as a reset leaves it, with the MRAM, OTP and the calendar as they were. -/
structure Restarted (s t : State) : Prop where
  count : t.clk.count = 0
  fine : t.clk.fine = 0
  epoch : t.clk.epoch = 0
  legs : t.legsOff
  otp : t.otp = s.otp
  mram : t.mem.mram = s.mem.mram
  sram : t.mem.sram = []
  rtcSec : t.clk.rtcSec = s.clk.rtcSec
  pending : t.pending = s.pending

/-- A step that leaves what a reset sets. -/
theorem Restarted.moves {A : List Part} (h : s.Restarted t) (hm : Moves A t u)
    (hc : A.elem .clk = false := by decide) (hr : A.elem .rtc = false := by decide) (hl : A.elem .loom = false := by decide)
    (ho : A.elem .otp = false := by decide) (hmem : A.elem .mem = false := by decide) (hmram : A.elem .mram = false := by decide)
    (hp : A.elem .pending = false := by decide) : s.Restarted u := by
  have hclk := hm.clk hc hr
  have hmm := hm.mem hmem hmram
  refine ⟨(congrArg Clk.count hclk).trans h.count, (congrArg Clk.fine hclk).trans h.fine, (congrArg Clk.epoch hclk).trans h.epoch, fun l => ?_,
    (hm.otp ho).trans h.otp, (congrArg Mem.mram hmm).trans h.mram, (congrArg Mem.sram hmm).trans h.sram, (congrArg Clk.rtcSec hclk).trans h.rtcSec,
    (hm.pending hp).trans h.pending⟩
  rw [leg_congr (hm.loom hl) l]
  exact h.legs l

theorem reset_leg (l : Nat) : State.reset.leg l = {} := by
  by_cases hl : l < 24
  · exact (by decide : ∀ k : Fin 24, State.reset.leg k = {}) ⟨l, hl⟩
  · exact leg_out_of_range (not_lt.mp hl)

theorem afterReset_restarted (s : State) (island : Bool) : s.Restarted (s.afterReset island) :=
  ⟨rfl, rfl, rfl, fun l => by
    have hleg : (s.afterReset island).leg l = {} := (leg_congr (s := State.reset) (by rfl) l).trans (reset_leg l)
    rw [hleg]
    exact ⟨rfl, rfl⟩, rfl, rfl, rfl, rfl, rfl⟩

theorem bootBegun_moves (s : State) (cause wake : Nat) (island : Bool) : Moves [.regs, .cycle] (s.afterReset island) (s.bootBegun cause wake island) :=
  .put (.put (.refl _))

theorem bootBegun_restarted (s : State) (cause wake : Nat) (island : Bool) : s.Restarted (s.bootBegun cause wake island) :=
  (afterReset_restarted s island).moves (bootBegun_moves s cause wake island)

theorem bootBegun_phase (s : State) (cause wake : Nat) (island : Bool) : (s.bootBegun cause wake island).sys.phase = .boot := rfl

theorem bootBegun_cause (s : State) {cause : Nat} (wake : Nat) (island : Bool) (h : cause < 16) :
    (s.bootBegun cause wake island).get F.SYS_BOOT_CAUSE = cause := by
  rw [bootBegun, get_put_other _ F.SYS_BOOT_WAKESRC F.SYS_BOOT_CAUSE _ (by decide) (by decide), get_put_same _ _ _ (by decide)]
  exact Nat.mod_eq_of_lt h

theorem bootBegun_wake (s : State) (cause : Nat) {wake : Nat} (island : Bool) (h : wake < 16) :
    (s.bootBegun cause wake island).get F.SYS_BOOT_WAKESRC = wake := by
  rw [bootBegun, get_put_same _ _ _ (by decide)]
  exact Nat.mod_eq_of_lt h

/-- A system reset from any phase but KEEP leaves the island as it is. -/
theorem systemReset_eq (h : s.sys.phase ≠ .keep) (cause : Nat) : s.systemReset cause = s.bootBegun cause 0 true := if_neg h

theorem commandReset_gives {t0 : Nat} (hp : s.sys.phase = .run) (hr : s.sys.resetDue = some t0) (hdue : s.due t0 = true) :
    Completes .commandReset s fun t =>
      t.sys.phase = .boot ∧ t.get F.SYS_BOOT_CAUSE = 3 ∧ t.mem.mram = s.mem.mram ∧ t.otp = s.otp ∧ t.legsOff ∧ t.pending = s.pending ∧
      t.clk.count = 0 := by
  have heq : s.commandReset = s.bootBegun 3 0 true := by
    unfold commandReset
    rw [hr]
    exact (if_pos hdue).trans (systemReset_eq (by rw [hp]; decide) 3)
  have h := bootBegun_restarted s 3 0 true
  exact ⟨_, congrArg Host.Outcome.next heq, bootBegun_phase .., bootBegun_cause s 0 true (by decide), h.mram, h.otp, h.legs, h.pending, h.count⟩

end State

/-- Settles O45: each clause by the operation's own lemma; the packets by O52. -/
theorem portsAndTimers : Obligations.PortsAndTimers :=
  ⟨fun _ _ hi s h p hf => State.packet_completes hi s h p hf, fun s h => State.status_bytes s h,
    fun _ _ h1 h2 h3 h4 h5 h6 h7 => State.badCrc_gives h1 h2 h3 h4 h5 h6 h7, fun _ _ h1 h2 h3 => State.discard_gives h1 h2 h3,
    fun _ _ _ _ h1 h2 => State.spiRead_gives h1 h2, fun _ => rfl, fun s _ h => State.uartNoise_gives s h, fun _ h1 h2 => State.uartSent_gives h1 h2,
    fun _ _ _ _ h => State.baudChange_gives h, fun _ _ _ h1 h2 h3 => State.sessionTimeout_gives h1 h2 h3,
    fun _ _ _ h1 h2 => State.sessionBlockEnd_gives h1 h2,
    fun _ _ h1 h2 h3 => ⟨fun h => State.crierTelemetry_queued h1 h2 h3 h, fun h => State.crierTelemetry_dropped h1 h2 h3 h⟩,
    fun _ h1 h2 h3 => State.holdEnd_gives h1 h2 h3, fun _ _ h1 h2 h3 => State.commandReset_gives h1 h2 h3,
    fun _ _ _ h1 h2 h3 => State.sysLtrWrite_gives h1 h2 h3⟩

end Sys2Proof.Machine

/-! Resets, supplies and the wake from KEEP (R381 to R388). -/

namespace Sys2Proof.Machine

set_option Elab.async false
namespace State

variable {s t u : State} {n : Nat}

/-! ### The island's power (R295, R385) -/

/-- Where the gate-enable stays as it was, the settled outputs are told and shown, and that is all. -/
theorem settleOuts_told (h : s.genOn = t.genOn) : Moves [.regs, .cycle, .safe, .events, .stew] s (s.settleOuts t) ∧ s.Writes (inBlock 12) (s.settleOuts t) := by
  have hsame : s.gateSettled t = s := by
    unfold gateSettled
    rw [h]
    cases t.genOn <;> rfl
  have hm : Moves [.regs, .cycle, .safe, .events, .stew] s (s.outsTold t) := by
    unfold outsTold
    rw [hsame]
    exact Moves.foldl (.refl s) fun u k hu => .ite hu.raise hu
  have hw : s.Writes (inBlock 12) (s.outsTold t) := by
    unfold outsTold
    rw [hsame]
    exact Writes.foldl (.refl s) fun u k _ hu => .ite hu.raise hu
  have hnoted : Moves [.safe] (s.outsTold t) ((s.outsTold t).modSafe (s.outsNoted t)) := modSafe_moves _ _
  rw [settleOuts_eq]
  exact ⟨(hm.trans (hnoted.mono (by decide))).trans ((safeShow_moves _).mono (by decide)), (hw.regs hnoted.regs).trans (safeShow_writes _)⟩

/-- Both mirrors powered up. -/
def powered (s : State) : State := { s with safe := { a := s.safe.a.powerOn, b := s.safe.b.powerOn } }

theorem powered_moves (s : State) : Moves [.safe] s s.powered := .record (.refl s) (by rfl)

/-- A mirror without power, or one in BOOT, commands no output. -/
theorem cmd_of_dead {x : MirrorSt} (h : x.dead = true) (k : Nat) : x.cmd k = false := by rw [MirrorSt.cmd, h]; rfl

theorem cmd_of_boot {x : MirrorSt} (h : x.state = .boot) (k : Nat) : x.cmd k = false := by
  rw [MirrorSt.cmd, h, (by decide : (MirState.boot == MirState.active) = false), Bool.and_false, Bool.false_and]

/-- A boot from KEEP, and one after the supplies' return, powers the island up. -/
theorem islandPowerOn_begun (s : State) (cause wake : Nat) :
    Moves [.regs, .cycle, .safe, .events, .stew] (s.bootBegun cause wake false) (s.bootBegun cause wake false).islandPowerOn ∧
      (s.bootBegun cause wake false).Writes (inBlock 12) (s.bootBegun cause wake false).islandPowerOn := by
  have hsafe : (s.bootBegun cause wake false).safe = (s.afterReset false).safe := (bootBegun_moves s cause wake false).safe
  have hwas : (s.bootBegun cause wake false).genOn = false := by
    rw [genOn, bothOn, hsafe, cmd_of_dead (x := (s.afterReset false).safe.a) rfl, Bool.false_and]
  generalize s.bootBegun cause wake false = u at hwas ⊢
  have hgen : u.powered.genOn = u.genOn := by
    rw [hwas, genOn, bothOn, cmd_of_boot (x := u.powered.safe.a) rfl, Bool.false_and]
  obtain ⟨hmoves, hwrites⟩ := settleOuts_told hgen
  exact ⟨((powered_moves u).mono (by decide)).trans hmoves, (Writes.of_regs (powered_moves u).regs).trans hwrites⟩

/-- A boot that powers the island up. -/
theorem startBoot_eq (s : State) (cause wake : Nat) : s.startBoot cause wake false = (s.bootBegun cause wake false).islandPowerOn := by
  unfold startBoot bootBegun
  exact if_neg (by decide)

theorem startBoot_restarted (s : State) (cause wake : Nat) : s.Restarted (s.startBoot cause wake false) := by
  rw [startBoot_eq]
  exact (bootBegun_restarted s cause wake false).moves (islandPowerOn_begun s cause wake).1

theorem startBoot_phase (s : State) (cause wake : Nat) : (s.startBoot cause wake false).sys.phase = .boot := by
  rw [startBoot_eq, (islandPowerOn_begun s cause wake).1.sys]
  rfl

theorem SYS_BOOT_not_island : ¬ inBlock 12 R.SYS_BOOT := by
  simp only [inBlock, blockBase, R.SYS_BOOT]
  omega

theorem startBoot_cause (s : State) {cause : Nat} (wake : Nat) (h : cause < 16) : (s.startBoot cause wake false).get F.SYS_BOOT_CAUSE = cause := by
  rw [startBoot_eq, (islandPowerOn_begun s cause wake).2.get SYS_BOOT_not_island]
  exact bootBegun_cause s wake false h

theorem startBoot_wake (s : State) (cause : Nat) {wake : Nat} (h : wake < 16) : (s.startBoot cause wake false).get F.SYS_BOOT_WAKESRC = wake := by
  rw [startBoot_eq, (islandPowerOn_begun s cause wake).2.get SYS_BOOT_not_island]
  exact bootBegun_wake s cause false h

/-! ### Resets from the phases with power (R384) -/

theorem systemReset_gives (h : s.sys.phase ≠ .keep) {cause : Nat} (hc : cause < 16) :
    (s.systemReset cause).sys.phase = .boot ∧ (s.systemReset cause).get F.SYS_BOOT_CAUSE = cause ∧ (s.systemReset cause).clk.count = 0 ∧
      (s.systemReset cause).clk.fine = 0 ∧ (s.systemReset cause).clk.epoch = 0 ∧ (s.systemReset cause).legsOff ∧ (s.systemReset cause).safe = s.safe ∧
      (s.systemReset cause).otp = s.otp ∧ (s.systemReset cause).mem.mram = s.mem.mram ∧ (s.systemReset cause).clk.rtcSec = s.clk.rtcSec ∧
      (s.systemReset cause).pending = s.pending := by
  have hr := bootBegun_restarted s cause 0 true
  rw [systemReset_eq h]
  exact ⟨rfl, bootBegun_cause s 0 true hc, hr.count, hr.fine, hr.epoch, hr.legs, rfl, hr.otp, hr.mram, hr.rtcSec, hr.pending⟩

theorem pinReset_boots (h : s.sys.phase ≠ .keep) : s.pinReset = s.systemReset 2 := if_neg h

/-! ### Wakes from KEEP (R381) -/

theorem keepWake_eq (h : s.sys.phase = .keep) (hb : s.sys.brownOut = false) (source : Nat) : s.keepWake source = s.startBoot 6 source false :=
  if_pos ⟨h, by rw [hb]; rfl⟩

theorem pinReset_wakes (h : s.sys.phase = .keep) (hb : s.sys.brownOut = false) : Completes .pinReset s fun t =>
    t.sys.phase = .boot ∧ t.get F.SYS_BOOT_CAUSE = 6 ∧ t.get F.SYS_BOOT_WAKESRC = 8 ∧ t.otp = s.otp ∧ t.mem.mram = s.mem.mram ∧
    t.clk.rtcSec = s.clk.rtcSec := by
  have heq : s.pinReset = s.startBoot 6 8 false := (if_pos h).trans (keepWake_eq h hb 8)
  have hr := startBoot_restarted s 6 8
  exact ⟨_, congrArg Host.Outcome.next heq, startBoot_phase .., startBoot_cause s 8 (by decide), startBoot_wake s 6 (by decide), hr.otp, hr.mram, hr.rtcSec⟩

/-! ### Brown-outs and the supplies' return (R383, R387, R388) -/

theorem brownOut_eq (h : s.sys.phase ≠ .keep) (vbak : Bool) : s.brownOut vbak =
    if vbak then (s.powerDown.wr R.SYS_SUPPLY (BitVec.ofNat 32 (32 * bit1 vbak))).modSys (fun x => { x with phase := .keep, brownOut := true })
    else ((s.powerDown.wr R.SYS_SUPPLY (BitVec.ofNat 32 (32 * bit1 vbak))).modSys (fun x => { x with phase := .keep, brownOut := true })).modSys
      (fun x => { x with keepLost := true }) := by
  unfold brownOut
  rw [if_neg h]

theorem powerDown_moves (s : State) : Moves [.regs, .cycle, .sys] (s.afterReset false) s.powerDown := .record (.put (.refl _)) (by rfl)

theorem powerDown_mode (s : State) : s.powerDown.get F.SYS_MODE_MODE = 0 := get_put_same _ F.SYS_MODE_MODE 0 (by decide)

theorem brownOut_gives (vbak : Bool) (h : s.sys.phase ≠ .keep) : Completes (.brownOut vbak) s fun t =>
    t.sys.phase = .keep ∧ t.sys.brownOut = true ∧ t.sys.keepLost = !vbak ∧ t.mode = .keep ∧ t.legsOff ∧ t.otp = s.otp ∧
    t.mem.mram = s.mem.mram ∧ t.mem.sram = [] ∧ t.on F.SYS_SUPPLY_VBAK_OK = vbak ∧ t.clk.rtcSec = s.clk.rtcSec := by
  have hm : Moves [.regs, .cycle, .sys] s.powerDown (s.brownOut vbak) := by
    have hw : Moves [.regs, .cycle, .sys] s.powerDown
        ((s.powerDown.wr R.SYS_SUPPLY (BitVec.ofNat 32 (32 * bit1 vbak))).modSys (fun x => { x with phase := .keep, brownOut := true })) :=
      .record (.wr (.refl _)) (by rfl)
    rw [brownOut_eq h]
    exact .ite hw (.record hw (by rfl))
  have hregs : (s.brownOut vbak).regs = (s.powerDown.wr R.SYS_SUPPLY (BitVec.ofNat 32 (32 * bit1 vbak))).regs := by
    rw [brownOut_eq h]
    split <;> rfl
  have hr : s.Restarted (s.brownOut vbak) := ((afterReset_restarted s false).moves (powerDown_moves s)).moves hm
  have hsys : (s.brownOut vbak).sys.phase = .keep ∧ (s.brownOut vbak).sys.brownOut = true ∧ (s.brownOut vbak).sys.keepLost = !vbak := by
    rw [brownOut_eq h]
    cases vbak <;> exact ⟨rfl, rfl, rfl⟩
  have hrd (b : Nat) : (s.brownOut vbak).rd b = if b = R.SYS_SUPPLY then BitVec.ofNat 32 (32 * bit1 vbak) else s.powerDown.rd b :=
    (rd_congr hregs b).trans (rd_wr ..)
  have hmode : (s.brownOut vbak).mode = .keep := by
    rw [mode, get_of_rd (f := F.SYS_MODE_MODE) ((hrd _).trans (if_neg (by decide))), powerDown_mode]
    rfl
  have hvbak : (s.brownOut vbak).on F.SYS_SUPPLY_VBAK_OK = vbak := by
    rw [on, get, (hrd R.SYS_SUPPLY).trans (if_pos rfl)]
    cases vbak <;> decide
  obtain ⟨hphase, hbrown, hlost⟩ := hsys
  exact ⟨_, rfl, hphase, hbrown, hlost, hmode, hr.legs, hr.otp, hr.mram, hr.sram, hvbak, hr.rtcSec⟩

theorem supplyReturn_gives (h : s.sys.phase = .keep) (hb : s.sys.brownOut = true) :
    (s.sys.keepLost = false → Completes .supplyReturn s fun t =>
      t.sys.phase = .boot ∧ t.get F.SYS_BOOT_CAUSE = 1 ∧ t.clk.rtcSec = s.clk.rtcSec ∧ t.mem.mram = s.mem.mram ∧ t.otp = s.otp) ∧
    (s.sys.keepLost = true → Completes .supplyReturn s fun t =>
      t.sys.phase = .boot ∧ t.get F.SYS_BOOT_CAUSE = 0 ∧ t.clk.rtcSec = 0 ∧ t.mem.mram = s.mem.mram ∧ t.otp = s.otp) ∧
    (Completes .vbakLoss s fun t =>
      t.sys.phase = .keep ∧ t.sys.keepLost = true ∧ t.clk.rtcSec = 0 ∧ t.rd R.SYS_ALARM = regReset R.SYS_ALARM ∧ t.mem = s.mem ∧
      t.otp = s.otp) := by
  have heq : s.supplyReturn = if s.sys.keepLost then s.keepContentLost.startBoot 0 0 false else s.startBoot 1 0 false := if_pos ⟨h, hb⟩
  refine ⟨fun hk => ?_, fun hk => ?_, ?_⟩
  · have hr := startBoot_restarted s 1 0
    exact ⟨_, congrArg Host.Outcome.next (heq.trans (if_neg (by rw [hk]; decide))), startBoot_phase .., startBoot_cause s 0 (by decide), hr.rtcSec, hr.mram, hr.otp⟩
  · have hr := startBoot_restarted s.keepContentLost 0 0
    exact ⟨_, congrArg Host.Outcome.next (heq.trans (if_pos hk)), startBoot_phase .., startBoot_cause _ 0 (by decide), hr.rtcSec.trans rfl,
      hr.mram.trans rfl, hr.otp.trans rfl⟩
  · have hloss : s.vbakLoss = (s.clr F.SYS_SUPPLY_VBAK_OK).keepContentLost := if_pos ⟨h, hb⟩
    have halarm : (s.clr F.SYS_SUPPLY_VBAK_OK).keepContentLost.rd R.SYS_ALARM = regReset R.SYS_ALARM := by
      have h := cellGet_filter regReset (s.clr F.SYS_SUPPLY_VBAK_OK).regs (fun a => a == R.SYS_MODE) R.SYS_ALARM
      exact h.trans (if_neg (by decide))
    exact ⟨_, congrArg Host.Outcome.next hloss, h, rfl, rfl, halarm, rfl, rfl⟩

theorem vbakLoss_runs (h : s.sys.phase = .run) : Completes .vbakLoss s fun t =>
    t.on F.SYS_SUPPLY_VBAK_OK = false ∧ (∀ b, b ≠ R.SYS_SUPPLY → t.rd b = s.rd b) ∧ t.clk = s.clk ∧ t.sys = s.sys ∧ t.loom = s.loom := by
  have heq : s.vbakLoss = s.clr F.SYS_SUPPLY_VBAK_OK := if_neg fun hk => by rw [h] at hk; cases hk.1
  exact ⟨_, congrArg Host.Outcome.next heq, on_clr_same _ _ (by decide), fun b hb => rd_put_other _ _ _ _ hb, rfl, rfl, rfl⟩

/-! ### Samples of a WAKE comparator (R381) -/

/-- The comparator has taken a sample. -/
def wakeTaken (s : State) (n : Nat) (hit : Bool) : State :=
  { s with cmp := { s.cmp with wakes := upd s.cmp.wakes n (fun _ => ⟨hit, if hit then min 256 ((nth s.cmp.wakes n {}).run + 1) else 0⟩) } }

theorem wakeTaken_moves (s : State) (n : Nat) (hit : Bool) : Moves [.cmp] s (s.wakeTaken n hit) := .record (.refl s) (by rfl)

/-- A sample above the threshold of a comparator that looks above, once it has stood for the debounce. -/
theorem wakeSample_hit {mv : Int} (hen : s.on (F.CMP_WAKEn_EN n) = true) (hpol : s.on (F.CMP_WAKEn_POL n) = false)
    (hmv : (s.get (F.CMP_WAKEn_TH n) + 1 : Nat) * 100 < mv) (hrun : s.get (F.CMP_WAKEn_DEB n) ≤ (nth s.cmp.wakes n {}).run) :
    s.wakeSample n mv =
      if s.sys.phase = .keep then
        (if s.sys.brownOut then s.wakeTaken n true else ((s.wakeTaken n true).set1 ⟨R.CMP_WAKE_STAT, 2 + n, 1⟩).keepWake (2 ^ n))
      else if s.on ⟨R.CMP_WAKE_STAT, n, 1⟩ then s.wakeTaken n true
      else ((s.wakeTaken n true).set1 ⟨R.CMP_WAKE_STAT, n, 1⟩).whenB (s.sys.phase == .run) (·.logUnnamed 1) := by
  have hdeb : s.get (F.CMP_WAKEn_DEB n) + 1 ≤ min 256 ((nth s.cmp.wakes n {}).run + 1) := by
    have : s.get (F.CMP_WAKEn_DEB n) < 2 ^ 2 := get_lt s (F.CMP_WAKEn_DEB n)
    omega
  have hth : ((s.get (F.CMP_WAKEn_TH n) : Int) + 1) * 100 < mv := by simpa using hmv
  unfold wakeSample
  rw [if_pos hen]
  dsimp only
  rw [hpol]
  simp only [Bool.false_eq_true, if_false, hth, if_true, hdeb]
  rfl

/-- A sample 40 mV below the threshold. -/
theorem wakeSample_clear {mv : Int} (hen : s.on (F.CMP_WAKEn_EN n) = true) (hpol : s.on (F.CMP_WAKEn_POL n) = false)
    (hmv : mv < (s.get (F.CMP_WAKEn_TH n) + 1 : Nat) * 100 - 40) :
    s.wakeSample n mv = (s.wakeTaken n false).clr ⟨R.CMP_WAKE_STAT, n, 1⟩ := by
  have hlow : mv < ((s.get (F.CMP_WAKEn_TH n) : Int) + 1) * 100 - 40 := by simpa using hmv
  have hth : ¬ ((s.get (F.CMP_WAKEn_TH n) : Int) + 1) * 100 < mv := by omega
  unfold wakeSample
  rw [if_pos hen]
  dsimp only
  rw [hpol]
  simp only [Bool.false_eq_true, if_false, hth, hlow, if_true]
  rfl

theorem wakeSample_gives (n : Fin 2) (mv : Int) (hen : s.on (F.CMP_WAKEn_EN n) = true) (hpol : s.on (F.CMP_WAKEn_POL n) = false) :
    ((s.get (F.CMP_WAKEn_TH n) + 1 : Nat) * 100 < mv → s.get (F.CMP_WAKEn_DEB n) ≤ (nth s.cmp.wakes n {}).run →
      (s.sys.phase = .run → s.on ⟨R.CMP_WAKE_STAT, n, 1⟩ = false → Completes (.wakeSample n mv) s fun t =>
        t.on ⟨R.CMP_WAKE_STAT, n, 1⟩ = true ∧ (∀ b, b ≠ R.CMP_WAKE_STAT → t.rd b = s.rd b) ∧ s.clockKept t) ∧
      (s.sys.phase = .keep → s.sys.brownOut = false → Completes (.wakeSample n mv) s fun t =>
        t.sys.phase = .boot ∧ t.get F.SYS_BOOT_CAUSE = 6 ∧ t.get F.SYS_BOOT_WAKESRC = 2 ^ n.val ∧ t.mem.mram = s.mem.mram)) ∧
    (mv < (s.get (F.CMP_WAKEn_TH n) + 1 : Nat) * 100 - 40 → Completes (.wakeSample n mv) s fun t =>
      t.on ⟨R.CMP_WAKE_STAT, n, 1⟩ = false ∧ t.sys = s.sys ∧ (∀ b, b ≠ R.CMP_WAKE_STAT → t.rd b = s.rd b) ∧ s.clockKept t) := by
  have hn := n.isLt
  refine ⟨fun hmv hdeb => ⟨fun hp hoff => ?_, fun hp hb => ?_⟩, fun hmv => ?_⟩
  · have heq : s.wakeSample n mv = ((s.wakeTaken n true).set1 ⟨R.CMP_WAKE_STAT, n, 1⟩).logUnnamed 1 := by
      rw [wakeSample_hit hen hpol hmv hdeb, if_neg (by rw [hp]; decide), hoff, if_neg (by decide), hp]
      rfl
    have hlog : ((s.wakeTaken n true).set1 ⟨R.CMP_WAKE_STAT, n, 1⟩).regs = (((s.wakeTaken n true).set1 ⟨R.CMP_WAKE_STAT, n, 1⟩).logUnnamed 1).regs :=
      (log_regs ..).symm
    have hm : Moves [.cmp, .regs, .cycle, .rtc, .mram, .events, .stew, .draws] s (((s.wakeTaken n true).set1 ⟨R.CMP_WAKE_STAT, n, 1⟩).logUnnamed 1) :=
      Moves.log (.put ((wakeTaken_moves s n true).mono (by decide)))
    refine ⟨_, congrArg Host.Outcome.next heq, ?_, fun b hb => ?_, hm.clockKept⟩
    · exact (on_congr hlog.symm _).trans (on_set1_same _ _ (by simp; omega) (by simp))
    · exact (rd_congr hlog.symm b).trans (rd_put_other _ _ _ _ hb)
  · have hwoken : Moves [.cmp, .regs, .cycle] s ((s.wakeTaken n true).set1 ⟨R.CMP_WAKE_STAT, 2 + n, 1⟩) :=
      .put ((wakeTaken_moves s n true).mono (by decide))
    have heq : s.wakeSample n mv = ((s.wakeTaken n true).set1 ⟨R.CMP_WAKE_STAT, 2 + n, 1⟩).keepWake (2 ^ n.val) := by
      rw [wakeSample_hit hen hpol hmv hdeb, if_pos hp, hb, if_neg (by decide)]
    have hpow : 2 ^ n.val < 16 := (by decide : ∀ k : Fin 2, 2 ^ k.val < 16) n
    generalize (s.wakeTaken n true).set1 ⟨R.CMP_WAKE_STAT, 2 + n, 1⟩ = v at hwoken heq
    have hwake : v.keepWake (2 ^ n.val) = v.startBoot 6 (2 ^ n.val) false := keepWake_eq (by rw [hwoken.sys]; exact hp) (by rw [hwoken.sys]; exact hb) _
    exact ⟨_, congrArg Host.Outcome.next (heq.trans hwake), startBoot_phase .., startBoot_cause _ _ (by decide), startBoot_wake _ _ hpow,
      (startBoot_restarted v 6 _).mram.trans (congrArg Mem.mram hwoken.mem)⟩
  · have hm : Moves [.cmp, .regs, .cycle] s ((s.wakeTaken n false).clr ⟨R.CMP_WAKE_STAT, n, 1⟩) := .put ((wakeTaken_moves s n false).mono (by decide))
    exact ⟨_, congrArg Host.Outcome.next (wakeSample_clear hen hpol hmv), on_clr_same _ _ (by simp; omega), hm.sys, fun b hb => rd_put_other _ _ _ _ hb,
      hm.clockKept⟩

end State
end Sys2Proof.Machine

/-! PFAIL: the record, the meters' request, and the stop of RUN (R389). -/

namespace Sys2Proof.Machine

set_option Elab.async false
namespace State

variable {s t u : State} {l n : Nat}

/-! ### RUN is left for READY (R375) -/

/-- The registers but SYS_SUPPLY. -/
abbrev notSupply (b : Nat) : Prop := b ≠ R.SYS_SUPPLY

theorem notSupply_of_block {i b : Nat} (hi : 1 ≤ i) (h : inBlock i b) : notSupply b := by
  simp only [notSupply, inBlock, blockBase, R.SYS_SUPPLY] at h ⊢
  omega

theorem notSupply_of_aside {b : Nat} (h : asideRegs b) : notSupply b := by
  simp only [notSupply, asideRegs, R.SYS_SUPPLY] at h ⊢
  omega

theorem runLeft_eq (h : s.mode = .run) : s.modeLeft .ready = s.forAll 24 (fun l u => (u.restLeg l true).clearCarries l) := by
  unfold modeLeft
  rw [h]
  rfl

theorem runLeft_writes (h : s.mode = .run) : s.Writes notSupply (s.modeLeft .ready) := by
  rw [runLeft_eq h]
  exact Writes.forAll (.refl s) fun l u _ hu => hu.trans (((restLeg_writes u l true).mono fun _ hb => notSupply_of_block (by decide) hb).trans
    ((clearCarries_writes _ l).mono fun b hb => by simp only [notSupply, hb, R.LOOM_LEGl_STAT, R.SYS_SUPPLY]; omega))

/-- RUN left for READY: what the transition does once the legs rest. -/
theorem runStops_eq (h : s.mode = .run) (cause : Nat) : s.enterMode .ready cause false =
    ((((s.modeLeft .ready).put F.SYS_MODE_MODE Mode.ready.code).putB F.LOOM_STAT_OUT_EN false).recordMode .run .ready cause false).gdRefreshAll.brkStepAll := by
  have hd : s.mode ≠ .doze := by rw [h]; decide
  rw [enterMode_eq, if_neg (by decide), if_neg hd, modeFollowed, if_neg (fun hx => hd hx.1), modeTaken, modeBack, if_neg hd, modePut, h]
  rfl

theorem recordMode_writes (s : State) (was dest : Mode) (cause : Nat) (byCommand : Bool) : s.Writes (· = R.SYS_MODE) (s.recordMode was dest cause byCommand) := by
  have hput : s.Writes (· = R.SYS_MODE) (s.put F.SYS_MODE_PREV was.code) := .put (.refl s) rfl
  have hmode : s.Writes (· = R.SYS_MODE) ((s.put F.SYS_MODE_PREV was.code).put F.SYS_MODE_MODE dest.code) := .put hput rfl
  have hwritten : s.Writes (· = R.SYS_MODE) (s.modeWritten was dest) := .incW hmode rfl
  have hlog : s.Writes (· = R.SYS_MODE) (s.modeLogged was dest cause) := .log (.raise hwritten)
  rw [recordMode_eq]
  exact .ite hlog (hlog.regs (attend_regs ..))

theorem runStops_writes (h : s.mode = .run) (cause : Nat) : s.Writes notSupply (s.enterMode .ready cause false) := by
  have hrecord : s.Writes notSupply ((((s.modeLeft .ready).put F.SYS_MODE_MODE Mode.ready.code).putB F.LOOM_STAT_OUT_EN false).recordMode .run .ready cause false) :=
    (Writes.putB (.put (runLeft_writes h) (by decide)) (by decide)).trans ((recordMode_writes _ _ _ _ _).mono fun b hb => by rw [hb]; decide)
  rw [runStops_eq h]
  exact (hrecord.trans ((gdRefreshAll_writes _).mono fun _ hb => notSupply_of_block (by decide) hb)).trans
    ((brkStepAll_writes _).mono fun b hb => by simp only [notSupply, brkRegs, linkRegs, R.GDP_LINKn_STAT, R.GDP_STAT, R.SYS_SUPPLY] at hb ⊢; omega)

theorem runStops_moves (h : s.mode = .run) (cause : Nat) : Moves leadParts s (s.enterMode .ready cause false) := by
  have hback : Moves leadParts s (((s.modeLeft .ready).put F.SYS_MODE_MODE Mode.ready.code).putB F.LOOM_STAT_OUT_EN false) :=
    .put (.put (modeLeft_leads s .ready).moves)
  rw [runStops_eq h]
  exact ((hback.trans (recordMode_leads _ _ _ _ _).moves).trans (gdRefreshAll_leads _).moves).trans (brkStepAll_leads _).moves

theorem runStops_after (h : s.mode = .run) (cause : Nat) : (s.modeLeft .ready).Stands (s.enterMode .ready cause false) := by
  rw [runStops_eq h]
  exact (((((put_SYS_MODE_stands _ F.SYS_MODE_MODE _ rfl).trans (putB_OUT_EN_stands _ false)).trans (modeWritten_stands _ .run .ready)).trans
    (recordMode_after _ _ _ _ _).stands).trans (gdRefreshAll_aside _).stands).trans (brkStepAll_aside _).stands

/-- READY takes every output of a device in RUN away. -/
theorem runStops_legsOff (hlen : s.loom.legs.length = 24) (h : s.mode = .run) (cause : Nat) : (s.enterMode .ready cause false).legsOff :=
  (runStops_after h cause).legsOff (runLeft_eq h ▸ legsRested_off hlen)

/-! ### PFAIL is asserted (R389) -/

/-- PFAIL is shown. -/
def pfailShown (s : State) : State := (s.set1 F.SYS_SUPPLY_PFAIL).set1 F.SYS_SUPPLY_PF_SEEN

/-- The meters' last record is asked for, and PFAIL is logged. -/
def pfailLogged (s : State) : State :=
  (if s.anyMeter && !s.grnFrozen then s.pfailShown.finalAsk 2 else s.pfailShown).logPfail 0

theorem pfailAssert_eq (h : s.sys.phase = .run) (hp : s.on F.SYS_SUPPLY_PFAIL = false) : s.pfailAssert =
    if s.on F.SYS_PWR_CFG_PF_STOP = true ∧ s.mode = .run then s.pfailLogged.enterMode .ready 3 false else s.pfailLogged := by
  unfold pfailAssert
  rw [if_neg (by rw [h, hp]; decide)]
  dsimp only
  rw [if_neg (not_not.mpr h), pfailLogged, pfailShown]

theorem pfailLogged_moves (s : State) : Moves [.regs, .cycle, .grn, .rtc, .mram, .events, .stew, .draws] s s.pfailLogged := by
  have hshow : Moves [.regs, .cycle, .grn, .rtc, .mram, .events, .stew, .draws] s s.pfailShown := .put (.put (.refl s))
  have hask : Moves [.regs, .cycle, .grn, .rtc, .mram, .events, .stew, .draws] s (s.pfailShown.finalAsk 2) :=
    Moves.askSnapshot (.put (.put (.record hshow (by rfl))))
  exact .log (.ite hask hshow)

theorem pfailLogged_aside (s : State) : s.pfailShown.Aside s.pfailLogged := .log (.ite (finalAsk_aside _ 2) (.refl _))

theorem pfailLogged_shows (s : State) : s.pfailLogged.on F.SYS_SUPPLY_PFAIL = true ∧ s.pfailLogged.on F.SYS_SUPPLY_PF_SEEN = true := by
  have haside : ¬ asideRegs R.SYS_SUPPLY := by decide
  rw [(pfailLogged_aside s).writes.on haside, (pfailLogged_aside s).writes.on haside]
  exact ⟨(on_set1_other _ F.SYS_SUPPLY_PF_SEEN F.SYS_SUPPLY_PFAIL (by simp) (.inr (by simp))).trans (on_set1_same s F.SYS_SUPPLY_PFAIL (by decide) (by decide)),
    on_set1_same _ F.SYS_SUPPLY_PF_SEEN (by decide) (by decide)⟩

theorem pfailLogged_mode (s : State) : s.pfailLogged.mode = s.mode :=
  mode_of_rd (((pfailLogged_aside s).writes.rd (by decide)).trans ((rd_put_other _ F.SYS_SUPPLY_PF_SEEN _ _ (by decide)).trans
    (rd_put_other _ F.SYS_SUPPLY_PFAIL _ _ (by decide))))

theorem pfailAssert_gives (hs : s.Shaped) (h : s.sys.phase = .run) (hp : s.on F.SYS_SUPPLY_PFAIL = false) : Completes .pfailAssert s fun t =>
    t.on F.SYS_SUPPLY_PFAIL = true ∧ t.on F.SYS_SUPPLY_PF_SEEN = true ∧ s.clockKept t ∧ t.otp = s.otp ∧
    (s.on F.SYS_PWR_CFG_PF_STOP = true → s.mode = .run → t.mode = .ready ∧ t.legsOff) ∧
    (s.on F.SYS_PWR_CFG_PF_STOP = false ∨ s.mode ≠ .run → t.mode = s.mode ∧ t.loom = s.loom) := by
  refine ⟨_, congrArg Host.Outcome.next (pfailAssert_eq h hp), ?_⟩
  have hm := pfailLogged_moves s
  have hmode := pfailLogged_mode s
  obtain ⟨hfail, hseen⟩ := pfailLogged_shows s
  have hlen : s.pfailLogged.loom.legs.length = 24 := by rw [hm.loom]; exact hs.legs
  generalize s.pfailLogged = u at *
  split
  next hstop =>
    obtain ⟨hcfg, hrun⟩ := hstop
    have hu : u.mode = .run := hmode.trans hrun
    have hw := runStops_writes hu 3
    have hstep := runStops_moves hu 3
    exact ⟨(hw.on (by simp [notSupply])).trans hfail, (hw.on (by simp [notSupply])).trans hseen, clockKept_trans hm.clockKept hstep.clockKept,
      hstep.otp.trans hm.otp, fun _ _ => ⟨enterMode_mode .., runStops_legsOff hlen hu 3⟩,
      fun hx => hx.elim (fun hx => absurd hcfg (by rw [hx]; decide)) (absurd hrun)⟩
  next hgo => exact ⟨hfail, hseen, hm.clockKept, hm.otp, fun hx hy => absurd ⟨hx, hy⟩ hgo, fun _ => ⟨hmode, hm.loom⟩⟩

/-! ### PFAIL deasserts (R389) -/

/-- PFAIL goes, and a record of the meters is asked for. -/
def pfailGone (s : State) : State := ((s.clr F.SYS_SUPPLY_PFAIL).journalAsk 0).logPfail 1

theorem pfailDeassert_eq (h : s.sys.phase = .run) (hp : s.on F.SYS_SUPPLY_PFAIL = true) : s.pfailDeassert = s.pfailGone :=
  (if_neg (by rw [h, hp]; decide)).trans (if_neg (not_not.mpr h))

theorem journalAsk_moves (s : State) (flags : Nat) : Moves [.regs, .cycle, .grn] s (s.journalAsk flags) := by
  unfold journalAsk
  exact .ite (.refl s) (.ite (.put (.record (.refl s) (by rfl))) (Moves.askSnapshot (.put (.refl s))))

theorem journalAsk_aside (s : State) (flags : Nat) : s.Aside (s.journalAsk flags) := by
  have hrec (v : State) (f : Grn → Grn) : v.Aside (v.modGrn f) := .still (F := [.grn]) (.record (.refl v) (by rfl))
  unfold journalAsk
  exact .ite (.refl s) (.ite (.set1 (hrec s _) (by decide)) (Aside.trans (.set1 (.refl s) (by decide)) (.still (F := [.grn]) (.askSnapshot (.refl _)))))

theorem pfailDeassert_gives (h : s.sys.phase = .run) (hp : s.on F.SYS_SUPPLY_PFAIL = true) : Completes .pfailDeassert s fun t =>
    t.on F.SYS_SUPPLY_PFAIL = false ∧ t.on F.SYS_SUPPLY_PF_SEEN = s.on F.SYS_SUPPLY_PF_SEEN ∧ t.mode = s.mode ∧ t.loom = s.loom ∧
    s.clockKept t := by
  have hm : Moves [.regs, .cycle, .grn, .rtc, .mram, .events, .stew, .draws] s s.pfailGone :=
    .log (Moves.trans (.put (.refl s)) ((journalAsk_moves _ 0).mono (by decide)))
  have hw : (s.clr F.SYS_SUPPLY_PFAIL).Writes asideRegs s.pfailGone := .log (journalAsk_aside _ 0).writes
  have haside : ¬ asideRegs R.SYS_SUPPLY := by decide
  refine ⟨_, congrArg Host.Outcome.next (pfailDeassert_eq h hp), (hw.on haside).trans (on_clr_same s _ (by decide)), (hw.on haside).trans
    (on_clr_other s F.SYS_SUPPLY_PFAIL F.SYS_SUPPLY_PF_SEEN (by simp) (.inr (by simp))),
    mode_of_rd ((hw.rd (by decide)).trans (rd_put_other s F.SYS_SUPPLY_PFAIL _ _ (by decide))), hm.loom, hm.clockKept⟩

end State
end Sys2Proof.Machine

/-! The end of a boot: what the boot ROM reads, and the recovery state (R356, R359, R387). -/

namespace Sys2Proof.Machine

set_option Elab.async false
namespace State

variable {s t u : State} {n : Nat}

/-! ### What the boot ROM reads -/

/-- The MRAM and its errors as before. -/
structure RomKept (s t : State) : Prop where
  mram : t.mem.mram = s.mem.mram
  bad : t.mem.mramBad = s.mem.mramBad

namespace RomKept

theorem of_mem (h : t.mem = s.mem) : s.RomKept t := ⟨congrArg Mem.mram h, congrArg Mem.mramBad h⟩

theorem trans (h : s.RomKept t) (h' : t.RomKept u) : s.RomKept u := ⟨h'.mram.trans h.mram, h'.bad.trans h.bad⟩

theorem mramErr (h : s.RomKept t) (a n : Nat) : t.mramErr a n = s.mramErr a n := by
  rw [State.mramErr, h.bad, State.mramErr]

theorem mramRead (h : s.RomKept t) (a n : Nat) : t.mramRead a n = s.mramRead a n := by
  rw [State.mramRead, h.mramErr, h.mram, State.mramRead]

theorem fwLine (h : s.RomKept t) (i : Nat) : t.fwLine i = s.fwLine i := h.mramRead _ _

theorem fwLines (h : s.RomKept t) : t.fwLines = s.fwLines := by
  simp only [State.fwLines, h.fwLine]

theorem fwRecord (h : s.RomKept t) (slot : Nat) : t.fwRecord slot = s.fwRecord slot := by
  simp only [State.fwRecord, State.fwNewest, h.fwLine, h.fwLines]

theorem fwRseq (h : s.RomKept t) (slot : Nat) : t.fwRseq slot = s.fwRseq slot := by
  rw [State.fwRseq, h.fwRecord, State.fwRseq]

theorem fwHeader (h : s.RomKept t) (slot : Nat) : t.fwHeader slot = s.fwHeader slot := h.mramRead _ _

theorem fwBoots (h : s.RomKept t) (ho : t.otp = s.otp) (slot : Nat) : t.fwBoots slot = s.fwBoots slot := by
  simp only [State.fwBoots, State.fwAuthentic, h.fwRecord, h.fwHeader, h.mramRead, ho]

theorem fwChoose (h : s.RomKept t) (ho : t.otp = s.otp) : t.fwChoose = s.fwChoose := by
  rw [State.fwChoose, h.fwBoots ho, h.fwBoots ho, h.fwRseq, h.fwRseq, State.fwChoose]

theorem cfgLines (h : s.RomKept t) : t.cfgLines = s.cfgLines := by
  simp only [State.cfgLines, State.cfgLine, h.mramRead]

theorem cfgChoose (h : s.RomKept t) : t.cfgChoose = s.cfgChoose := by
  simp only [State.cfgChoose, h.cfgLines, State.cfgImage, h.mramRead]

end RomKept

/-! ### What a boot finds -/

/-- The banks and the supplies are shown, and the boot is counted. -/
def bootShown (s : State) (rails : Rails) (vbak : Bool) : State :=
  ((s.releaseBanks rails.low).showSupplies rails.vdrv vbak).incW F.SYS_KCTL_BOOTS

/-- The SRAM begins empty. -/
def sramWiped (s : State) : State := { s with mem := { s.mem with sram := [], sramCorrectable := [], sramBad := [], scrubNext := 0 } }

/-- The boot ROM has read the log and the rings. -/
def romRead (s : State) : State := (s.mramMeet 0 0x4D0000).logScan.fwRingScan

/-- The state in which the boot ROM chooses a slot. -/
def bootFound (s : State) (rails : Rails) (vbak : Bool) : State := (s.bootShown rails vbak).sramWiped.romRead

/-- Firmware has started, with every leg blocked until the island gives its enable. -/
def fwRuns (s : State) (slot : Nat) : State :=
  ((s.fwStart slot).blockLegs .safe 0xFFFFFF).putB F.LOOM_STAT_GEN ((s.fwStart slot).blockLegs .safe 0xFFFFFF).genOn

/-- The clock monitor has reported, and the configuration is loaded. -/
def bootLoaded (s : State) (slot : Nat) : State := (s.fwRuns slot).bootClocks.cfgLoad

/-- The clocks that have not locked (R387). -/
def clocksLost (s : State) : Bool := s.on F.CLK_STAT_REF_LOST || s.on F.CLK_STAT_SYN0_LOST

/-- From the loaded configuration to READY. -/
def bootRuns (s : State) : State := ((if s.clocksLost then s.ringClockFail else s).convReady.observersStart).bootEnters s.clocksLost

theorem bootComplete_eq (h : s.sys.phase = .boot) (rails : Rails) (vbak : Bool) : s.bootComplete rails vbak =
    match (s.bootFound rails vbak).fwChoose with
    | none => (s.bootFound rails vbak).recovery
    | some slot => ((s.bootFound rails vbak).bootLoaded slot).bootRuns := by
  unfold bootComplete
  rw [if_pos h]
  extract_lets shown mem wiped found
  have hshown : s.bootShown rails vbak = shown := rfl
  have hwiped : shown.sramWiped = wiped := rfl
  have hfound : wiped.romRead = found := rfl
  rw [bootFound, hshown, hwiped, hfound]
  clear_value found
  cases found.fwChoose with
  | none => rfl
  | some slot => rfl

/-! ### What the boot ROM leaves alone -/

theorem bootShown_moves (s : State) (rails : Rails) (vbak : Bool) : Moves [.regs, .cycle, .sys] s (s.bootShown rails vbak) := by
  have hbanks : Moves [.regs, .cycle, .sys] s (s.releaseBanks rails.low) := .ite (.record (.refl s) (by rfl)) (.refl s)
  exact .put (putB_moves (putB_moves (putB_moves (.put hbanks) _ _) _ _) _ _)

theorem releaseBanks_phase (s : State) (low : BitVec 3) : (s.releaseBanks low).sys.phase = s.sys.phase := by
  unfold releaseBanks
  split <;> rfl

theorem releaseBanks_writes (s : State) (low : BitVec 3) {P : Nat → Prop} : s.Writes P (s.releaseBanks low) := by
  unfold releaseBanks
  exact .ite (.of_regs rfl) (.refl s)

/-- The registers that show a boot's supplies and count it. -/
abbrev shownRegs (b : Nat) : Prop := b = R.SYS_SUPPLY ∨ b = R.GDP_STAT ∨ b = R.SYS_KCTL

theorem bootShown_writes (s : State) (rails : Rails) (vbak : Bool) : s.Writes shownRegs (s.bootShown rails vbak) := by
  have hok : s.Writes shownRegs ((s.releaseBanks rails.low).put ⟨R.SYS_SUPPLY, 0, 4⟩ 15) := .put (releaseBanks_writes s _) (.inl rfl)
  have hsupply : s.Writes shownRegs ((s.releaseBanks rails.low).showSupplies rails.vdrv vbak) :=
    .putB (.putB (.putB hok (.inl rfl)) (.inl rfl)) (.inr (.inl rfl))
  exact .incW hsupply (.inr (.inr rfl))

/-- The supplies as they have been given. -/
theorem bootShown_supplies (s : State) (rails : Rails) (vbak : Bool) : (s.bootShown rails vbak).on F.SYS_SUPPLY_VDRV_OK = rails.vdrv ∧
    (s.bootShown rails vbak).on F.SYS_SUPPLY_VBAK_OK = vbak := by
  have hlast : ((s.releaseBanks rails.low).put ⟨R.SYS_SUPPLY, 0, 4⟩ 15 |>.putB F.SYS_SUPPLY_VDRV_OK rails.vdrv |>.putB F.SYS_SUPPLY_VBAK_OK vbak).Writes
      (fun b => b = R.GDP_STAT ∨ b = R.SYS_KCTL) (s.bootShown rails vbak) := .incW (.putB (.refl _) (.inl rfl)) (.inr rfl)
  have hsupply : ¬ (R.SYS_SUPPLY = R.GDP_STAT ∨ R.SYS_SUPPLY = R.SYS_KCTL) := by decide
  rw [hlast.on hsupply, hlast.on hsupply]
  exact ⟨(on_putB_other _ _ _ _ (by simp) (.inr (by simp))).trans (on_putB_same _ _ _ (by simp) (by simp)), on_putB_same _ _ _ (by simp) (by simp)⟩

theorem mramMeet_moves (s : State) (a n : Nat) : Moves [.regs, .cycle] s (s.mramMeet a n) :=
  Moves.foldl (.refl s) fun u _ hu => hu.trans (faultAt_moves u _ _ _ _ _)

theorem WLD_FAULT_ADDR_block : inBlock 15 R.WLD_FAULT_ADDR := by
  simp only [inBlock, blockBase, R.WLD_FAULT_ADDR]
  omega

theorem WLD_FAULT_INFO_block : inBlock 15 R.WLD_FAULT_INFO := by
  simp only [inBlock, blockBase, R.WLD_FAULT_INFO]
  omega

theorem faultAt_writes (s : State) (m : Master) (w : World) (write : Bool) (a : Nat) (why : WriteResult) :
    s.Writes (inBlock 15) (s.faultAt m w write a why) := by
  unfold faultAt load
  exact .ite (.set1 (.refl s) WLD_FAULT_INFO_block) (Writes.regs (.wr (.wr (.refl s) WLD_FAULT_ADDR_block) WLD_FAULT_INFO_block) (markSet_regs ..))

theorem logScan_moves (s : State) : Moves [.stew] s s.logScan := by
  unfold logScan
  extract_lets whole seqs newest st t
  have ht : Moves [.stew] s t := .record (.refl s) (by rfl)
  clear_value t newest
  cases newest with
  | none => exact ht
  | some n => exact .record ht (by rfl)

theorem fwRingScan_moves (s : State) : Moves [.cfg] s s.fwRingScan := .record (.refl s) (by rfl)

theorem romRead_moves (s : State) : Moves [.regs, .cycle, .stew, .cfg] s s.romRead :=
  (((mramMeet_moves s _ _).mono (by decide)).trans ((logScan_moves _).mono (by decide))).trans ((fwRingScan_moves _).mono (by decide))

theorem romRead_writes (s : State) : s.Writes (inBlock 15) s.romRead := by
  have hmeet : s.Writes (inBlock 15) (s.mramMeet 0 0x4D0000) := Writes.foldl (.refl s) fun u _ _ hu => hu.trans (faultAt_writes u _ _ _ _ _)
  exact (hmeet.regs (logScan_moves _).regs).regs (fwRingScan_moves _).regs

/-- The registers that a boot writes before it chooses a slot. -/
abbrev foundRegs (b : Nat) : Prop := shownRegs b ∨ inBlock 15 b

/-- What a boot has brought about when it chooses a slot. -/
structure Found (rails : Rails) (vbak : Bool) (s t : State) : Prop where
  moves : Moves [.regs, .cycle, .sys, .mem, .stew, .cfg] s t
  writes : s.Writes foundRegs t
  rom : s.RomKept t
  phase : t.sys.phase = s.sys.phase
  sram : t.mem.sram = []
  vdrv : t.on F.SYS_SUPPLY_VDRV_OK = rails.vdrv
  vbak : t.on F.SYS_SUPPLY_VBAK_OK = vbak

theorem bootFound_found (s : State) (rails : Rails) (vbak : Bool) : Found rails vbak s (s.bootFound rails vbak) := by
  have hshown := bootShown_moves s rails vbak
  have hphase : (s.bootShown rails vbak).sys.phase = s.sys.phase := releaseBanks_phase s rails.low
  have hwrites := bootShown_writes s rails vbak
  obtain ⟨hvdrv, hvbak⟩ := bootShown_supplies s rails vbak
  unfold bootFound
  generalize s.bootShown rails vbak = u at *
  have hwipe : Moves [.mem] u u.sramWiped := .record (.refl u) (by rfl)
  have hrom : u.RomKept u.sramWiped := ⟨rfl, rfl⟩
  have hsram : u.sramWiped.mem.sram = [] := rfl
  generalize u.sramWiped = v at *
  have hread := romRead_moves v
  have hsupply : ¬ inBlock 15 R.SYS_SUPPLY := not_inBlock_of_lt (by decide)
  have hw : u.Writes (inBlock 15) v.romRead := (Writes.of_regs hwipe.regs).trans (romRead_writes v)
  exact {
    moves := ((hshown.mono (by decide)).trans (hwipe.mono (by decide))).trans (hread.mono (by decide))
    writes := (hwrites.mono fun _ hb => .inl hb).trans (hw.mono fun _ hb => .inr hb)
    rom := ((RomKept.of_mem hshown.mem).trans hrom).trans (.of_mem hread.mem)
    phase := (congrArg Sys.phase (hread.sys.trans hwipe.sys)).trans hphase
    sram := (congrArg Mem.sram hread.mem).trans hsram
    vdrv := (hw.on hsupply).trans hvdrv
    vbak := (hw.on hsupply).trans hvbak }

/-! ### The recovery state (R356, R359) -/

/-- The abandoned installation is known. -/
def recoveryKnown (s : State) : State :=
  { s with cfg := { s.cfg with fwAborted := [bit1 (s.fwRseq 0 < s.fwRseq 1), 1 - bit1 (s.fwRseq 0 < s.fwRseq 1)].find? s.fwLeftWriting } }

theorem recovery_eq (s : State) : s.recovery =
    ((s.recoveryKnown.put F.SYS_MODE_MODE 4).put F.SYS_MODE_LIMP_CAUSE 5).modSys (fun x => { x with phase := .recovery }) := rfl

theorem recovery_moves (s : State) : Moves [.regs, .cycle, .sys, .cfg] s s.recovery := by
  have hknown : Moves [.cfg] s s.recoveryKnown := .record (.refl s) (by rfl)
  rw [recovery_eq]
  exact (Moves.put (.put (hknown.mono (by decide)))).trans ((modSys_moves _ _).mono (by decide))

theorem recovery_writes (s : State) : s.Writes (· = R.SYS_MODE) s.recovery := by
  have hmode : s.Writes (· = R.SYS_MODE) (s.recoveryKnown.put F.SYS_MODE_MODE 4) := .put (.of_regs rfl) rfl
  have hcause : s.Writes (· = R.SYS_MODE) ((s.recoveryKnown.put F.SYS_MODE_MODE 4).put F.SYS_MODE_LIMP_CAUSE 5) := .put hmode rfl
  rw [recovery_eq]
  exact hcause.regs (modSys_moves _ _).regs

theorem recovery_limp (s : State) : s.recovery.mode = .limp ∧ s.recovery.get F.SYS_MODE_LIMP_CAUSE = 5 := by
  have hregs : s.recovery.regs = ((s.recoveryKnown.put F.SYS_MODE_MODE 4).put F.SYS_MODE_LIMP_CAUSE 5).regs := (modSys_moves _ _).regs
  have hmode : s.recovery.get F.SYS_MODE_MODE = 4 :=
    (get_congr hregs _).trans ((get_put_other _ _ _ _ (by simp) (.inr (by simp))).trans (get_put_same _ _ _ (by simp)))
  exact ⟨by rw [mode, hmode]; rfl, (get_congr hregs _).trans (get_put_same _ _ _ (by simp))⟩

theorem bootComplete_recovers (h : s.sys.phase = .boot) (rails : Rails) (vbak : Bool) (hnone : s.fwChoose = none) :
    Completes (.bootComplete rails vbak) s fun t =>
      t.sys.phase = .recovery ∧ t.mode = .limp ∧ t.get F.SYS_MODE_LIMP_CAUSE = 5 ∧ t.mem.sram = [] ∧ t.on F.SYS_SUPPLY_VDRV_OK = rails.vdrv ∧
      t.on F.SYS_SUPPLY_VBAK_OK = vbak ∧ t.otp = s.otp ∧ t.safe = s.safe := by
  have hfound := bootFound_found s rails vbak
  have heq := bootComplete_eq h rails vbak
  rw [(hfound.rom.fwChoose hfound.moves.otp).trans hnone] at heq
  refine ⟨_, congrArg Host.Outcome.next heq, ?_⟩
  beta_reduce
  generalize s.bootFound rails vbak = u at *
  have hm := recovery_moves u
  have hsupply : ¬ R.SYS_SUPPLY = R.SYS_MODE := by decide
  obtain ⟨hmode, hcause⟩ := recovery_limp u
  exact ⟨rfl, hmode, hcause, (congrArg Mem.sram hm.mem).trans hfound.sram, ((recovery_writes u).on hsupply).trans hfound.vdrv,
    ((recovery_writes u).on hsupply).trans hfound.vbak, hm.otp.trans hfound.moves.otp, hm.safe.trans hfound.moves.safe⟩

end State
end Sys2Proof.Machine

/-! The end of a boot: firmware starts, and the meters' totals come back from the journal (R244, R356, R387). -/

namespace Sys2Proof.Machine

set_option Elab.async false
namespace State

variable {s t u : State} {n : Nat}

/-! ### Steps beside SYS and CLK -/

/-- The registers beside those of SYS and CLK. -/
abbrev loadRegs (b : Nat) : Prop := 0x40020000 ≤ b

/-- The parts that the start of firmware may change once the slot is noted. -/
abbrev loadParts : List Part := [.regs, .cycle, .rtc, .mram, .events, .stew, .draws, .mill, .grn, .loom, .gdp, .cfg]

/-- A step that leaves SYS, CLK and the safety island alone. -/
structure Loads (s t : State) : Prop where
  moves : Moves loadParts s t
  writes : s.Writes loadRegs t

namespace Loads

theorem refl (s : State) : s.Loads s := ⟨.refl s, .refl s⟩
theorem trans (h : s.Loads t) (h' : t.Loads u) : s.Loads u := ⟨h.moves.trans h'.moves, h.writes.trans h'.writes⟩
theorem of {A : List Part} {P : Nat → Prop} (hm : Moves A s t) (hw : s.Writes P t) (hP : ∀ b, P b → loadRegs b) (hA : A ⊆ loadParts := by decide) :
    s.Loads t := ⟨hm.mono hA, hw.mono hP⟩
theorem still {A : List Part} (hm : Moves A s t) (hr : A.elem .regs = false := by decide) (hA : A ⊆ loadParts := by decide) : s.Loads t :=
  ⟨hm.mono hA, .of_regs (hm.regs hr)⟩
theorem put (h : s.Loads t) {f : Fld} {n : Nat} (hf : loadRegs f.addr) : s.Loads (t.put f n) := ⟨h.moves.put, h.writes.put hf⟩
theorem set1 (h : s.Loads t) {f : Fld} (hf : loadRegs f.addr) : s.Loads (t.set1 f) := h.put hf
theorem putB (h : s.Loads t) {f : Fld} {b : Bool} (hf : loadRegs f.addr) : s.Loads (t.putB f b) := ⟨putB_moves h.moves _ _, h.writes.putB hf⟩
theorem wr (h : s.Loads t) {a : Nat} {v : Word} (ha : loadRegs a) : s.Loads (t.wr a v) := ⟨h.moves.wr, h.writes.wr ha⟩
theorem log (h : s.Loads t) {code block : Nat} {sev : Severity} {data : List Byte} : s.Loads (t.log code block sev data) := ⟨h.moves.log, h.writes.log⟩
theorem modGrn (h : s.Loads t) {f : Grn → Grn} : s.Loads (t.modGrn f) := h.trans (.still (A := [.grn]) (.modGrn (.refl t)))
theorem ite {p : Prop} [Decidable p] (ht : s.Loads t) (hu : s.Loads u) : s.Loads (if p then t else u) := by split <;> assumption
theorem forAll (h : s.Loads t) {n : Nat} {f : Nat → State → State} (hf : ∀ i u, i < n → s.Loads u → s.Loads (f i u)) : s.Loads (t.forAll n f) :=
  forAll_rec (p := fun _ u => s.Loads u) h fun i u hi hu => hf i u hi hu

end Loads

theorem loadRegs_drive {b : Nat} (h : driveBlocks b) : loadRegs b := by
  simp only [driveBlocks, inBlock, blockBase, loadRegs] at h ⊢
  omega

theorem loadRegs_tally {b : Nat} (h : tallyRegs b) : loadRegs b := by
  simp only [tallyRegs, loadRegs] at h ⊢
  omega

theorem blockLegs_loads (s : State) (cause : Cause) (mask : Nat) : s.Loads (s.blockLegs cause mask) :=
  .of (blockLegs_moves s cause mask) (blockLegs_writes s cause mask) fun _ ⟨_, hl, hb⟩ => loadRegs_drive (blockRegs_drive hl hb)

/-! ### The journal comes back (R244, R245) -/

theorem restoreFrom_loads (s : State) (b : List Byte) : s.Loads (s.restoreFrom b) := by
  have htotal (u : State) (i v : Nat) : u.Loads (u.setTotal i v) := (Loads.modGrn (.refl u)).wr (loadRegs_tally (totalAddr_tally i))
  have htotals := Loads.forAll (n := 176) (.refl s) (f := fun i u =>
    (u.setTotal i (fieldLe b (32 + 8 * i) 8 * 2 ^ 32 + fieldLe b (1440 + 4 * i) 4)).wr (totalAddr i + 4)
      (BitVec.ofNat 32 ((fieldLe b (32 + 8 * i) 8 * 2 ^ 32 + fieldLe b (1440 + 4 * i) 4) / 2 ^ 64)))
    fun i u _ hu => (hu.trans (htotal u i _)).wr (Nat.le_add_right_of_le (loadRegs_tally (totalAddr_tally i)))
  have hcounts := htotals.forAll (n := 16) (f := fun k u =>
    (u.wr (R.GRN_WCk_CNT k) (BitVec.ofNat 32 (fieldLe b (2144 + 8 * k) 4))).wr (R.GRN_WCk_WRAP k) (BitVec.ofNat 32 (fieldLe b (2148 + 8 * k) 2)))
    fun k u _ hu => (hu.wr (by simp only [loadRegs, R.GRN_WCk_CNT]; omega)).wr (by simp only [loadRegs, R.GRN_WCk_WRAP]; omega)
  exact hcounts.modGrn.forAll fun n u _ hu => hu.wr (by simp only [loadRegs, R.GRN_GAPn]; omega)

theorem unclean_loads (s : State) (b : List Byte) : s.Loads (s.unclean b) := by
  unfold unclean
  exact (((Loads.refl s).set1 (by decide)).wr (by decide)).forAll (fun n u _ hu => hu.wr (by simp only [loadRegs, R.GRN_UNC_En]; omega)) |>.log

theorem grnRestore_loads (s : State) : s.Loads s.grnRestore := by
  unfold grnRestore
  extract_lets t
  have ht : s.Loads t := Loads.forAll (.refl s) fun i u _ hu => .ite hu.log hu
  clear_value t
  generalize t.newestRecord = r
  cases r with
  | none => exact ht.log
  | some p =>
    obtain ⟨i, b⟩ := p
    have hu := (ht.trans (restoreFrom_loads t b)).modGrn (f := fun g => { g with
      nextSlot := (i + 1) % 32, nextSeq := BitVec.ofNat 32 (fieldLe b 4 4 + 1), restoredSeq := BitVec.ofNat 32 (fieldLe b 4 4) })
    exact .ite (hu.trans (unclean_loads _ b)) hu

/-! ### Firmware starts (R356, R387) -/

/-- The slot is noted, with its anti-rollback step and an abandoned installation. -/
def fwStarted (s : State) (slot : Nat) : State :=
  { s.put F.SYS_BOOT_SLOT slot with
    otp := { s.otp with arb := max s.otp.arb (min 64 (byteAt (s.fwHeader slot) 8)) }
    cfg := { s.cfg with fwRunning := slot, fwAborted := if s.fwLeftWriting (1 - slot) then some (1 - slot) else none } }

theorem fwStart_cases (s : State) (slot : Nat) : s.fwStart slot =
    if s.fwLeftWriting (1 - slot) then (s.fwStarted slot).log 0x0007 0xFF .warn (leBytes 1 (1 - slot)) else s.fwStarted slot := rfl

theorem fwStart_eq {slot : Nat} (h : s.fwLeftWriting (1 - slot) = false) : s.fwStart slot = s.fwStarted slot := by
  rw [fwStart_cases, h]
  exact if_neg (by decide)

theorem fwStarted_moves (s : State) (slot : Nat) : Moves [.regs, .cycle, .otp, .cfg] s (s.fwStarted slot) :=
  .record (.put (.refl s) (f := F.SYS_BOOT_SLOT) (n := slot)) (by rfl)

theorem fwStarted_regs (s : State) (slot : Nat) : (s.fwStarted slot).regs = (s.put F.SYS_BOOT_SLOT slot).regs := rfl

theorem fwRuns_moves {slot : Nat} (h : s.fwLeftWriting (1 - slot) = false) :
    Moves [.regs, .cycle, .loom, .gdp, .events, .stew] (s.fwStarted slot) (s.fwRuns slot) := by
  unfold fwRuns
  rw [fwStart_eq h]
  exact putB_moves (blockLegs_moves _ _ _) _ _

theorem fwRuns_writes {slot : Nat} (h : s.fwLeftWriting (1 - slot) = false) : (s.fwStarted slot).Writes loadRegs (s.fwRuns slot) := by
  unfold fwRuns
  rw [fwStart_eq h]
  exact .putB (blockLegs_loads _ _ _).writes (by decide)

/-- The clocks have locked, and none was lost. -/
structure ClocksRight (s : State) : Prop where
  syn0 : s.on F.CLK_STAT_SYN0_LOCKED = true
  syn1 : s.on F.CLK_STAT_SYN1_LOCKED = true
  ref : s.on F.CLK_STAT_REF_LOST = false
  syn0Lost : s.on F.CLK_STAT_SYN0_LOST = false
  syn1Lost : s.on F.CLK_STAT_SYN1_LOST = false
  present : s.clk.refMissing = false

theorem ClocksRight.of (h : s.ClocksRight) (hr : t.rd R.CLK_STAT = s.rd R.CLK_STAT) (hm : t.clk.refMissing = s.clk.refMissing) : t.ClocksRight :=
  ⟨(on_of_rd hr).trans h.syn0, (on_of_rd hr).trans h.syn1, (on_of_rd hr).trans h.ref, (on_of_rd hr).trans h.syn0Lost, (on_of_rd hr).trans h.syn1Lost,
    hm.trans h.present⟩

theorem ClocksRight.kept (h : s.ClocksRight) : s.clocksLost = false := by
  rw [clocksLost, h.ref, h.syn0Lost]
  rfl

theorem bootClocks_eq (h : s.ClocksRight) : s.bootClocks =
    s.modClk (fun c => { c with coreOnMonitor := c.coreOnMonitor || false, stewOnMonitor := c.stewOnMonitor || false }) := by
  have hon (f : Clk → Clk) : (s.modClk f).on F.CLK_STAT_SYN1_LOST = false := h.syn1Lost
  simp only [bootClocks, h.syn0, h.syn1, h.ref, h.syn0Lost, h.syn1Lost, h.present, hon, if_true, Bool.or_false, Bool.false_eq_true, if_false]

theorem bootClocks_moves (h : s.ClocksRight) : Moves [.clk] s s.bootClocks ∧ s.bootClocks.clk.count = s.clk.count ∧
    s.bootClocks.clk.refMissing = s.clk.refMissing := by
  rw [bootClocks_eq h]
  exact ⟨.record (.refl s) (by rfl), rfl, rfl⟩

/-- The next line of the configuration ring is known. -/
def cfgScanned (s : State) : State := { s with cfg := { s.cfg with ringNext := s.cfgNextLine } }

theorem cfgLoad_eq (h : s.cfgChoose = none) : s.cfgLoad = (s.cfgScanned.set1 F.SYS_BOOT_NOCFG).grnRestore := by
  have hrom : s.RomKept s.cfgScanned := ⟨rfl, rfl⟩
  unfold cfgLoad
  extract_lets c u
  have hu : s.cfgScanned = u := rfl
  have hnone : u.cfgChoose = none := hu ▸ hrom.cfgChoose.trans h
  rw [hu]
  clear_value u
  rw [hnone]

theorem cfgScanned_moves (s : State) : Moves [.cfg] s s.cfgScanned := .record (.refl s) (by rfl)

/-- The parts that a boot may change from the choice of a slot to the loaded configuration. -/
abbrev bootParts : List Part := .clk :: .otp :: loadParts

/-- What a boot without a configuration has brought about when it starts the blocks. -/
structure Loaded (slot : Nat) (s t : State) : Prop where
  moves : Moves bootParts s t
  count : t.clk.count = s.clk.count
  clocks : t.rd R.CLK_STAT = s.rd R.CLK_STAT
  supply : t.rd R.SYS_SUPPLY = s.rd R.SYS_SUPPLY
  slot : t.get F.SYS_BOOT_SLOT = slot
  nocfg : t.on F.SYS_BOOT_NOCFG = true

theorem bootLoaded_loaded {slot : Nat} (hslot : slot < 2) (hright : s.ClocksRight) (hleft : s.fwLeftWriting (1 - slot) = false) (hnone : s.cfgChoose = none) :
    Loaded slot s (s.bootLoaded slot) := by
  have hstart := fwStarted_moves s slot
  have hboot : s.Writes (· = R.SYS_BOOT) (s.fwStarted slot) := Writes.regs (.put (f := F.SYS_BOOT_SLOT) (.refl s) rfl) (fwStarted_regs s slot)
  have hget : (s.fwStarted slot).get F.SYS_BOOT_SLOT = slot :=
    (get_congr (fwStarted_regs s slot) _).trans ((get_put_same _ _ _ (by simp)).trans (Nat.mod_eq_of_lt hslot))
  have hmoves := fwRuns_moves hleft
  have hwrites := fwRuns_writes hleft
  unfold bootLoaded
  generalize s.fwStarted slot = a at *
  generalize s.fwRuns slot = b at *
  have hlow : ¬ loadRegs R.CLK_STAT ∧ ¬ loadRegs R.SYS_SUPPLY ∧ ¬ loadRegs R.SYS_BOOT := by decide
  obtain ⟨hc, hs, hb⟩ := hlow
  have hstat : b.rd R.CLK_STAT = s.rd R.CLK_STAT := (hwrites.rd hc).trans (hboot.rd (by decide))
  have hclk : b.clk = s.clk := hmoves.clk.trans hstart.clk
  obtain ⟨hclocks, hcount, -⟩ := bootClocks_moves (hright.of hstat (congrArg Clk.refMissing hclk))
  rw [cfgLoad_eq (((RomKept.of_mem hstart.mem).trans ((RomKept.of_mem hmoves.mem).trans (.of_mem hclocks.mem))).cfgChoose.trans hnone)]
  generalize b.bootClocks = c at *
  have hscan := cfgScanned_moves c
  generalize c.cfgScanned = d at *
  have hmark : d.Writes (· = R.SYS_BOOT) (d.set1 F.SYS_BOOT_NOCFG) := .set1 (.refl d) rfl
  have hrestore := grnRestore_loads (d.set1 F.SYS_BOOT_NOCFG)
  have hregs : d.regs = b.regs := hscan.regs.trans hclocks.regs
  exact {
    moves := ((((hstart.mono (by decide)).trans (hmoves.mono (by decide))).trans (hclocks.mono (by decide))).trans (hscan.mono (by decide))).trans
      (Moves.trans (.put (.refl d)) (hrestore.moves.mono (by decide)))
    count := hrestore.moves.clockKept.count.trans ((congrArg Clk.count ((set1_clk d _).trans hscan.clk)).trans (hcount.trans (congrArg Clk.count hclk)))
    clocks := (hrestore.writes.rd hc).trans ((hmark.rd (by decide)).trans ((rd_congr hregs _).trans hstat))
    supply := (hrestore.writes.rd hs).trans ((hmark.rd (by decide)).trans ((rd_congr hregs _).trans ((hwrites.rd hs).trans (hboot.rd (by decide)))))
    slot := (hrestore.writes.get hb).trans ((get_put_other d F.SYS_BOOT_NOCFG F.SYS_BOOT_SLOT 1 (by simp) (.inr (by simp))).trans
      ((get_congr hregs _).trans ((hwrites.get hb).trans hget)))
    nocfg := (hrestore.writes.on hb).trans (on_set1_same d _ (by simp) (by simp)) }

end State
end Sys2Proof.Machine

/-! The end of a boot: CONV is calibrated, and the device enters READY (R75, R177, R387). -/

namespace Sys2Proof.Machine

set_option Elab.async false
namespace State

variable {s t u : State} {n : Nat}

/-! ### CONV and the delay lines are ready (R75, R177) -/

theorem spareNext_aside (s : State) : s.Aside (s.spareNext 0) := by
  have hturn := spareTo_turnedTo s (n := 0) (by decide)
  have hmod (f : SpareSt → SpareSt) : s.Aside (s.modSpare f) := .still (F := [.acq]) (.record (.refl s) (by rfl))
  unfold spareNext
  exact .ite (.of hturn.moves hturn.regs fun b hb => by rw [hb]; decide) (.put (hmod _) (by decide))

theorem spareNext_calibrated (s : State) : (s.spareNext 0).on F.ACQ_STAT_CAL_DONE = s.on F.ACQ_STAT_CAL_DONE := by
  have hregs (f : SpareSt → SpareSt) : (s.modSpare f).regs = s.regs := rfl
  unfold spareNext
  split
  · exact (spareTo_turnedTo s (by decide)).calDone
  · exact (on_put_other _ _ _ _ (by simp) (.inr (by simp))).trans (on_congr (hregs _) _)

theorem convReady_aside (s : State) : s.Aside s.convReady := by
  have hspare : s.Aside ((s.convStarts.set1 F.ACQ_STAT_CAL_DONE).spareNext 0) := ((convStarts_aside s).set1 (by decide)).trans (spareNext_aside _)
  unfold convReady
  exact .ite hspare (hspare.set1 (by decide))

theorem convReady_calibrated (s : State) : s.convReady.on F.ACQ_STAT_CAL_DONE = true := by
  have hspare : ((s.convStarts.set1 F.ACQ_STAT_CAL_DONE).spareNext 0).on F.ACQ_STAT_CAL_DONE = true :=
    (spareNext_calibrated _).trans (on_set1_same _ _ (by simp) (by simp))
  unfold convReady
  dsimp only
  split
  · exact hspare
  · exact (on_put_other _ _ _ _ (by simp) (.inl (by decide))).trans hspare

theorem observersStart_writes (s : State) : s.Writes (inBlock 4) s.observersStart := by
  have hstreams : Moves [.prism, .wvn] s s.streamsStart := .record (.refl s) (by rfl)
  rw [observersStart_eq]
  exact Writes.forAll (.forAll (.of_regs hstreams.regs) fun k u hk hu => .ite (setStart_writes hu hk) hu) fun m u hm hu => .ite (mppStart_writes hu hm) hu

/-- The blocks have started. -/
def blocksStarted (s : State) : State := s.convReady.observersStart

theorem blocksStarted_aside (s : State) : s.Aside s.blocksStarted := (convReady_aside s).trans (observersStart_aside _)

theorem blocksStarted_calibrated (s : State) : s.blocksStarted.on F.ACQ_STAT_CAL_DONE = true :=
  ((observersStart_writes _).on (by simp only [inBlock, blockBase, R.ACQ_STAT]; omega)).trans (convReady_calibrated s)

theorem clocksLost_congr (h : t.rd R.CLK_STAT = s.rd R.CLK_STAT) : t.clocksLost = s.clocksLost := by
  simp only [clocksLost, on_of_rd (f := F.CLK_STAT_REF_LOST) h, on_of_rd (f := F.CLK_STAT_SYN0_LOST) h]

theorem bootRuns_eq (h : s.clocksLost = false) : s.bootRuns = s.blocksStarted.bootEnters false := by
  rw [bootRuns, h]
  rfl

/-! ### READY is entered (R387) -/

/-- The device runs, and the boot is logged. -/
def bootLogged (s : State) : State :=
  (s.modSys (fun x => { x with phase := .run })).log 0x0001 0xFF .info
    (leBytes 1 ((s.modSys (fun x => { x with phase := .run })).get F.SYS_BOOT_CAUSE) ++ leBytes 1 (s.get F.SYS_BOOT_SLOT) ++
      leBytes 4 (s.fwVersion (s.get F.SYS_BOOT_SLOT)))

/-- READY is recorded, and HOLD begins. -/
def readyHeld (s : State) : State := (s.recordMode .ready .ready 0 false).holdBegins

/-- The ring's ports, the attention bits, the drivers and the choppers follow. -/
def readyShown (s : State) : State := ((s.wrapHeld.attend (if s.on F.GRN_STAT_UNCLEAN then 0xC0 else 0x80)).gdRefreshAll).brkStepAll

theorem bootEnters_eq (s : State) : s.bootEnters false = s.bootLogged.readyHeld.readyShown.limpIf := rfl

/-- The registers but those that the end of a boot must leave. -/
abbrev enterRegs (b : Nat) : Prop := b ≠ R.SYS_BOOT ∧ b ≠ R.SYS_SUPPLY ∧ b ≠ R.ACQ_STAT

/-- The parts that the entry into READY may change beside the phase. -/
abbrev enterParts : List Part := .ring :: leadParts

theorem bootLogged_moves (s : State) : Moves [.sys, .rtc, .mram, .events, .stew, .draws] s s.bootLogged :=
  .log ((modSys_moves s _).mono (by decide))

theorem bootLogged_phase (s : State) : s.bootLogged.sys.phase = .run := by
  have hm : Moves [.rtc, .mram, .events, .stew, .draws] (s.modSys (fun x => { x with phase := .run })) s.bootLogged := .log (.refl _)
  exact congrArg Sys.phase hm.sys

theorem readyHeld_moves (s : State) : Moves (.sys :: leadParts) s s.readyHeld :=
  ((recordMode_leads s _ _ _ _).moves.mono (by decide)).trans ((holdBegins_moves _).mono (by decide))

theorem readyHeld_phase (s : State) : s.readyHeld.sys.phase = s.sys.phase := by
  have hend (u : State) (n : Nat) : (u.modSys (fun x => { x with holdEnd := n })).sys.phase = u.sys.phase := rfl
  have hrecord := (recordMode_leads s .ready .ready 0 false).sys
  unfold readyHeld
  generalize s.recordMode .ready .ready 0 false = u at *
  exact ((hend _ _).trans (congrArg Sys.phase (putB_sys ..))).trans (congrArg Sys.phase hrecord)

theorem readyHeld_mode (s : State) : s.readyHeld.mode = .ready :=
  (holdBegins_mode _).trans ((recordMode_after s _ _ _ _).mode.trans (modeWritten_mode s _ _))

theorem readyHeld_writes (s : State) : s.Writes enterRegs s.readyHeld :=
  ((recordMode_writes s _ _ _ _).mono fun b hb => by rw [hb]; decide).trans ((holdBegins_writes _).mono fun b hb => by rw [hb]; decide)

theorem readyShown_aside (s : State) : s.Aside s.readyShown :=
  (((wrapHeld_aside s).trans (.still (F := [.events, .stew]) (.attend (.refl _)))).trans (gdRefreshAll_aside _)).trans (brkStepAll_aside _)

theorem readyShown_writes (s : State) : s.Writes enterRegs s.readyShown := by
  have hwrap : s.Writes enterRegs (s.wrapHeld.attend (if s.on F.GRN_STAT_UNCLEAN then 0xC0 else 0x80)) :=
    Writes.regs ((wrapHeld_writes s).mono fun b hb => by rw [hb]; decide) (attend_regs ..)
  refine (hwrap.trans ((gdRefreshAll_writes _).mono fun b hb => ?_)).trans ((brkStepAll_writes _).mono fun b hb => ?_)
  · simp only [inBlock, blockBase, enterRegs, R.SYS_BOOT, R.SYS_SUPPLY, R.ACQ_STAT] at hb ⊢
    omega
  · simp only [brkRegs, linkRegs, enterRegs, R.GDP_LINKn_STAT, R.GDP_STAT, R.SYS_BOOT, R.SYS_SUPPLY, R.ACQ_STAT] at hb ⊢
    omega

/-- The device has entered READY. -/
structure Entered (s t : State) : Prop where
  moves : Moves (.sys :: .ring :: loadParts ++ asideParts) s t
  writes : s.Writes enterRegs t
  phase : t.sys.phase = .run
  mode : t.mode = .ready

theorem bootEnters_entered (h : s.safe.limpDue = false) : s.Entered (s.bootEnters false) := by
  have hlog := bootLogged_moves s
  have hphase := bootLogged_phase s
  have hlogged : s.Writes enterRegs s.bootLogged := .log (.of_regs (modSys_moves _ _).regs)
  rw [bootEnters_eq]
  generalize s.bootLogged = a at *
  have hready := readyHeld_moves a
  have hkept := readyHeld_phase a
  have hmode := readyHeld_mode a
  have hheld := readyHeld_writes a
  generalize a.readyHeld = b at *
  have hshown := readyShown_aside b
  have hwrites := readyShown_writes b
  have hsafe : b.readyShown.safe = s.safe := hshown.moves.safe.trans (hready.safe.trans hlog.safe)
  rw [limpIf_quiet ((congrArg Safe.limpDue hsafe).trans h)]
  exact {
    moves := ((hlog.mono (by decide)).trans (hready.mono (by decide))).trans (hshown.moves.mono (by decide))
    writes := (hlogged.trans hheld).trans hwrites
    phase := (congrArg Sys.phase hshown.moves.sys).trans (hkept.trans hphase)
    mode := hshown.mode.trans hmode }

theorem bootComplete_runs (h : s.sys.phase = .boot) (rails : Rails) (vbak : Bool) (slot : Fin 2) (hslot : s.fwChoose = some slot.val)
    (hclk : s.ClocksRight) (hlimp : s.safe.limpDue = false) (hcfg : s.cfgChoose = none)
    (hleft : ∀ b, s.fwRecord (1 - slot.val) = some b → byteAt b 9 ≠ 1) : Completes (.bootComplete rails vbak) s fun t =>
      t.sys.phase = .run ∧ t.mode = .ready ∧ t.get F.SYS_BOOT_SLOT = slot ∧ t.on F.SYS_BOOT_NOCFG = true ∧
      t.on F.ACQ_STAT_CAL_DONE = true ∧ t.on F.SYS_SUPPLY_VDRV_OK = rails.vdrv ∧ t.mem.sram = [] ∧ t.clk.count = s.clk.count := by
  have hfound := bootFound_found s rails vbak
  have heq : s.bootComplete rails vbak = ((s.bootFound rails vbak).bootLoaded slot.val).bootRuns := by
    rw [bootComplete_eq h, (hfound.rom.fwChoose hfound.moves.otp).trans hslot]
  refine ⟨_, congrArg Host.Outcome.next heq, ?_⟩
  beta_reduce
  generalize s.bootFound rails vbak = u at *
  have hwriting : u.fwLeftWriting (1 - slot.val) = false := by
    rw [fwLeftWriting, hfound.rom.fwRecord, Option.any_eq_false]
    exact fun b hb => by simpa using hleft b hb
  have hstat : ¬ foundRegs R.CLK_STAT := by
    simp only [foundRegs, shownRegs, inBlock, blockBase, R.CLK_STAT, R.SYS_SUPPLY, R.GDP_STAT, R.SYS_KCTL]
    omega
  have hright : u.ClocksRight := hclk.of (hfound.writes.rd hstat) (congrArg Clk.refMissing hfound.moves.clk)
  have hload := bootLoaded_loaded slot.isLt hright hwriting (hfound.rom.cfgChoose.trans hcfg)
  generalize u.bootLoaded slot.val = v at *
  rw [bootRuns_eq ((clocksLost_congr hload.clocks).trans hright.kept)]
  have hstart := blocksStarted_aside v
  have hcal := blocksStarted_calibrated v
  generalize v.blocksStarted = w at *
  have henter := bootEnters_entered (s := w) ((congrArg Safe.limpDue (hstart.moves.safe.trans (hload.moves.safe.trans hfound.moves.safe))).trans hlimp)
  generalize w.bootEnters false = x at *
  have hboot : ¬ asideRegs R.SYS_BOOT := by decide
  have hsupply : ¬ asideRegs R.SYS_SUPPLY := by decide
  have hregs : ¬ enterRegs R.SYS_BOOT ∧ ¬ enterRegs R.SYS_SUPPLY ∧ ¬ enterRegs R.ACQ_STAT := by decide
  obtain ⟨hb, hs, ha⟩ := hregs
  refine ⟨henter.phase, henter.mode, ?_, ?_, (henter.writes.on ha).trans hcal, ?_, ?_, ?_⟩
  · exact (henter.writes.get hb).trans ((hstart.writes.get hboot).trans hload.slot)
  · exact (henter.writes.on hb).trans ((hstart.writes.on hboot).trans hload.nocfg)
  · exact (henter.writes.on hs).trans ((hstart.writes.on hsupply).trans ((on_of_rd hload.supply).trans hfound.vdrv))
  · exact henter.moves.sram.trans (hstart.moves.sram.trans (hload.moves.sram.trans hfound.sram))
  · exact henter.moves.clockKept.count.trans (hstart.moves.clockKept.count.trans (hload.count.trans (congrArg Clk.count hfound.moves.clk)))

end State

/-- Settles O51, by what each reset, supply and wake does: the restart of the CORE domain, the two ends of a boot, PFAIL, and a WAKE comparator. -/
theorem resetsSuppliesAndWake : Obligations.ResetsSuppliesAndWake := by
  refine ⟨fun s h => ⟨?_, ?_, ?_⟩, fun s h hb => State.pinReset_wakes h hb, fun s vbak h => State.brownOut_gives vbak h,
    fun s h hb => State.supplyReturn_gives h hb, fun s h => State.vbakLoss_runs h,
    fun s rails vbak h => ⟨State.bootComplete_recovers h rails vbak, fun slot hslot h0 h1 href h0l h1l hmiss _ hlimp hcfg hleft =>
      State.bootComplete_runs h rails vbak slot hslot ⟨h0, h1, href, h0l, h1l, hmiss⟩ hlimp hcfg hleft⟩,
    fun s hs h => ⟨State.pfailAssert_gives hs h, State.pfailDeassert_gives h⟩,
    fun s n mv hen hpol => State.wakeSample_gives n mv hen hpol⟩
  · exact ⟨_, congrArg Host.Outcome.next (State.pinReset_boots h), State.systemReset_gives h (by decide)⟩
  · exact ⟨_, rfl, State.systemReset_gives h (by decide)⟩
  · exact ⟨_, rfl, State.systemReset_gives h (by decide)⟩

end Sys2Proof.Machine

/-! Firmware, ring, island and test commands: those that only report, are refused, or begin a long operation (R316, R317, R342, R356, R358). -/

namespace Sys2Proof.Machine

set_option Elab.async false
namespace State

variable {s t u v : State} {l : Link} {h : Hdr} {op : Nat} {p : List Byte} {i : Instr} {r : Reply}

/-! ### What the steps of a reply leave alone -/

theorem capture_deaf {x : Loupe} {k : Nat} (hx : x.takes k = false) (r : LoupeRec) : x.capture k r = x := by
  rw [Loupe.capture, hx, Bool.and_false]
  rfl

theorem emit_deaf {k : Nat} (hx : s.stew.loupe.takes k = false) : (s.emit k).stew.loupe = s.stew.loupe := by
  have hroute : (s.route k).stew = s.stew := by
    unfold route
    split <;> rfl
  unfold emit loupeSee
  split
  · dsimp only
    rw [hroute, capture_deaf hx]
  · rw [hroute]

/-- Where no line is worn, the MRAM takes what is written. -/
theorem rewrite_unworn {m : Mem} (hm : m.worn = []) (a n : Nat) (new : Memory) : (m.rewrite a n new).mram = new ∧ (m.rewrite a n new).worn = [] := by
  have hhit : m.wornIn a n = [] := by rw [Mem.wornIn, hm]; rfl
  simp only [Mem.rewrite, hhit, hm, List.take_nil, List.drop_nil, List.foldl_nil, List.filter_nil, and_self]

theorem mramWrite_unworn (hm : s.mem.worn = []) (a : Nat) (b : List Byte) :
    (s.mramWrite a b).mem.mram = memSetBytes s.mem.mram a b ∧ (s.mramWrite a b).mem.worn = [] := rewrite_unworn hm _ _ _

/-- What the steps of a reply leave alone: a Loupe that takes none of their events, which are a record of the log, the end of a session, and
attention; and, where no line of the MRAM is worn, every byte below the log. -/
structure ReplyKept (s t : State) : Prop where
  loupe : s.stew.loupe.takes 0xF8 = false → s.stew.loupe.takes 0xFC = false → s.stew.loupe.takes 0xFD = false → t.stew.loupe = s.stew.loupe
  low : s.mem.worn = [] → t.mem.worn = [] ∧ ∀ a, a < 0x490000 → memGet t.mem.mram a = memGet s.mem.mram a

namespace ReplyKept

theorem refl (s : State) : s.ReplyKept s := ⟨fun _ _ _ => rfl, fun hw => ⟨hw, fun _ _ => rfl⟩⟩

theorem trans (h : s.ReplyKept t) (h' : t.ReplyKept u) : s.ReplyKept u where
  loupe h1 h2 h3 := by
    have ht := h.loupe h1 h2 h3
    exact (h'.loupe (ht ▸ h1) (ht ▸ h2) (ht ▸ h3)).trans ht
  low hw := by
    obtain ⟨hw', hlow⟩ := h.low hw
    obtain ⟨hw'', hlow'⟩ := h'.low hw'
    exact ⟨hw'', fun a ha => (hlow' a ha).trans (hlow a ha)⟩

/-- A step beside the Loupe and the memories. -/
theorem of (h : s.ReplyKept t) (hl : u.stew.loupe = t.stew.loupe) (hm : u.mem = t.mem) : s.ReplyKept u :=
  h.trans ⟨fun _ _ _ => hl, fun hw => ⟨(congrArg Mem.worn hm).trans hw, fun a _ => by rw [hm]⟩⟩

theorem ite {c : Prop} [Decidable c] (ht : s.ReplyKept t) (hu : s.ReplyKept u) : s.ReplyKept (if c then t else u) := by split <;> assumption

theorem modLink (h : s.ReplyKept t) {k : Link} {f : LinkSt → LinkSt} : s.ReplyKept (t.modLink k f) :=
  h.of (by rw [stew_modLink]) (Moves.modLink (F := [.stew]) (.refl t)).mem

theorem emitted (h : s.ReplyKept t) {k : Nat} (hk : t.stew.loupe.takes 0xF8 = false → t.stew.loupe.takes 0xFC = false → t.stew.loupe.takes 0xFD = false →
    t.stew.loupe.takes k = false) : s.ReplyKept (t.emit k) := by
  have hm : (t.emit k).mem = t.mem := (Moves.emit (F := [.events, .stew]) (.refl t)).mem
  exact h.trans ⟨fun h1 h2 h3 => emit_deaf (hk h1 h2 h3), fun hw => ⟨(congrArg Mem.worn hm).trans hw, fun a _ => by rw [hm]⟩⟩

theorem emitLog (h : s.ReplyKept t) : s.ReplyKept (t.emit 0xF8) := h.emitted fun h1 _ _ => h1
theorem emitSession (h : s.ReplyKept t) : s.ReplyKept (t.emit 0xFC) := h.emitted fun _ h2 _ => h2
theorem emitAttention (h : s.ReplyKept t) : s.ReplyKept (t.emit 0xFD) := h.emitted fun _ _ h3 => h3

theorem attendBy (h : s.ReplyKept t) {f : LinkSt → BitVec 8} : s.ReplyKept (t.attendBy f) := by
  unfold State.attendBy
  exact .ite h.modLink.modLink h.modLink.modLink.emitAttention

theorem queueTx (h : s.ReplyKept t) {k : Link} {f : List TxPacket → List TxPacket} : s.ReplyKept (t.queueTx k f) := by
  unfold State.queueTx
  exact .ite h.modLink h.modLink.emitAttention

theorem sendEntry (h : s.ReplyKept t) {k : Link} {e : HistEntry} {again : Bool} : s.ReplyKept (t.sendEntry k e again) := by
  unfold State.sendEntry
  exact .ite h.modLink h.queueTx

/-- A record of the log stands at 0x490000 or above. -/
theorem logWritten (h : s.ReplyKept t) (seq : Word) (b : List Byte) : s.ReplyKept (t.rtcShown.mramWrite (logOffset seq) b) := by
  refine h.trans ⟨fun _ _ _ => rfl, fun hw => ?_⟩
  obtain ⟨hnew, hworn⟩ := mramWrite_unworn (s := t.rtcShown) hw (logOffset seq) b
  refine ⟨hworn, fun a ha => ?_⟩
  rw [hnew, memGet_memSetBytes, if_neg (by simp only [logOffset]; omega)]
  rfl

theorem log (h : s.ReplyKept t) {code block : Nat} {sev : Severity} {data : List Byte} : s.ReplyKept (t.log code block sev data) := by
  unfold State.log
  refine attendBy ?_
  rw [State.raise, if_neg (by decide)]
  exact emitLog ((h.logWritten _ _).of rfl rfl)

theorem closeSession (h : s.ReplyKept t) {k : Link} {what : Nat} : s.ReplyKept (t.closeSession k what) := by
  unfold State.closeSession logSession
  exact .ite h.modLink.emitSession.log h

theorem answer (h : s.ReplyKept t) {k : Link} {c : Cmd} {r : Reply} (hr : r.status ≠ Status.authFail) : s.ReplyKept (t.answer k c r) := by
  have hreply : s.ReplyKept (t.reply k c.asked true false r) := h.modLink.sendEntry
  unfold State.answer afterAnswer
  rw [if_neg hr]
  exact .ite (.ite hreply.modLink.closeSession hreply.modLink) h

end ReplyKept

/-! ### What a command that is executed leaves -/

/-- What stands after a command that ran from `s`, reached `v`, and was answered. -/
structure Acted (s v t : State) (l : Link) (h : Hdr) (r : Reply) : Prop where
  answers : s.answers t l h r
  moves : Moves [.events, .stew, .mram, .rtc, .draws, .tst] v t
  tasks : v.stew.SameTasks t.stew
  kept : v.ReplyKept t

/-- A command whose execution from the state that has heard it ends with its answer. -/
theorem acted_command (hi : exec i s = .next (s.command op l h p)) (hp : s.Passes op l h p) (hr : r.status ≠ Status.authFail) (f : State → State)
    (hx : ∀ u, Ready s u l h op → u.execute l (hdrCmd h op p) = (f u).answer l (hdrCmd h op p) r)
    (hf : ∀ u, Ready s u l h op → (f u).sys.phase = u.sys.phase ∧ ((f u).link l).nextReply = (u.link l).nextReply) :
    ∃ u, Ready s u l h op ∧ Completes i s fun t => Acted s (f u) t l h r := by
  have hu := ready_ready s l h op p
  have hcmd := hp.command_eq
  generalize s.ready l (hdrCmd h op p) = u at hu hcmd
  obtain ⟨hphase, hnext⟩ := hf u hu
  have hs : (f u).serves l = true := by
    rw [serves, hphase]
    exact hu.serves hp.serves
  rw [hx u hu] at hcmd
  rw [hcmd] at hi
  have hrep := replied_answer (f u) l (hdrCmd h op p) r hs
  refine ⟨u, hu, _, hi, answers_hostMoves_answer rfl (hnext.trans hu.nextReply) hs _ _, (hrep.moves.mono (by decide)).trans
    ((hostMoves_moves ..).mono (by decide)), ?_, ?_⟩
  all_goals have hm := hostMoves_moves s ((f u).answer l (hdrCmd h op p) r) (20 + p.length + (h.tag.getD []).length)
  · rw [hm.stew]
    exact hrep.tasks
  · exact (ReplyKept.answer (.refl _) hr).of (congrArg Steward.loupe hm.stew) hm.mem

theorem ok_ne_authFail : Status.ok ≠ Status.authFail := by decide
theorem modeConflict_ne_authFail : Status.modeConflict ≠ Status.authFail := by decide

/-- A command that only answers. -/
theorem answered_command (hi : exec i s = .next (s.command op l h p)) (hp : s.Passes op l h p) (hr : r.status ≠ Status.authFail)
    (hx : ∀ u, Ready s u l h op → u.execute l (hdrCmd h op p) = u.answer l (hdrCmd h op p) r) :
    Completes i s fun t => s.answers t l h r ∧ s.OnlySteward t := by
  obtain ⟨u, hu, t, ht, hact⟩ := acted_command hi hp hr id hx fun _ _ => ⟨rfl, rfl⟩
  exact ⟨t, ht, hact.answers, .of_moves ((hu.moves.mono (by decide)).trans hact.moves)⟩

/-- A command that begins a long operation. -/
theorem accepted_command (hi : exec i s = .next (s.command op l h p)) (hp : s.Passes op l h p)
    (hx : ∀ u, Ready s u l h op → u.execute l (hdrCmd h op p) = u.accept l (hdrCmd h op p)) :
    Completes i s fun t => s.answers t l h { status := Status.accepted } ∧ t.stew.longOp.state = 1 ∧ t.stew.longOp.payload = p ∧ s.OnlySteward t := by
  have hlink (u : State) : (u.longBegin l (hdrCmd h op p)).link l = u.link l := by cases l <;> rfl
  obtain ⟨u, hu, t, ht, hact⟩ := acted_command hi hp (by decide) (fun u => u.longBegin l (hdrCmd h op p)) (r := { status := Status.accepted }) hx
    fun u _ => ⟨rfl, congrArg LinkSt.nextReply (hlink u)⟩
  have hbegin : Moves [.stew] u (u.longBegin l (hdrCmd h op p)) := .record (.refl u) (by rfl)
  exact ⟨t, ht, hact.answers, by rw [hact.tasks.longOp]; rfl, by rw [hact.tasks.longOp]; rfl,
    .of_moves (((hu.moves.trans hbegin).mono (by decide)).trans hact.moves)⟩

/-! ### Reports -/

theorem shown_of_block {a : Nat} (hb : blockIndex a = 11 ∨ blockIndex a = 12) : s.shown a = s.rd a := by
  rcases hb with hb | hb
  · simp only [shown, hb]
  · simp only [shown, hb]

/-- The words of registers of the ring or the island are their values. -/
theorem regBytes_of_block {as : List Nat} (h : ∀ a ∈ as, blockIndex a = 11 ∨ blockIndex a = 12) :
    s.regBytes as = (as.map (fun a => leBytes 4 (s.rd a).toNat)).flatten := by
  have hmap : as.map (fun a => leBytes 4 (s.shown a).toNat) = as.map (fun a => leBytes 4 (s.rd a).toNat) :=
    List.map_congr_left fun a ha => by rw [shown_of_block (h a ha)]
  rw [regBytes, hmap]

theorem Ready.words (hu : Ready s u l h op) (as : List Nat) :
    (as.map (fun a => leBytes 4 (u.rd a).toNat)).flatten = (as.map (fun a => leBytes 4 (s.rd a).toNat)).flatten := by
  simp only [hu.rd]

theorem fwInfo_congr (hr : s.RomKept t) (ho : t.otp = s.otp) (hs : t.sys = s.sys) (hc : t.cfg = s.cfg) (slot : Nat) : t.fwInfo slot = s.fwInfo slot := by
  simp only [fwInfo, fwState, fwVersion, hr.fwRecord, hr.fwHeader, hr.fwBoots ho, hs, hc]

theorem fwInfo_command (hp : s.Passes 0x0701 l h p) : Completes (.fwInfo l h p) s fun t =>
    s.gives t l h (s.fwInfo 0 ++ s.fwInfo 1 ++ leBytes 1 (64 - s.otp.arb) ++ zeros 3) ∧ s.OnlySteward t := by
  refine answered_command rfl hp ok_ne_authFail fun u hu => ?_
  have hinfo (slot : Nat) := fwInfo_congr (.of_mem hu.moves.mem) hu.moves.otp hu.moves.sys hu.moves.cfg slot
  have hx : u.execute l (hdrCmd h 0x0701 p) = u.doFwInfo l (hdrCmd h 0x0701 p) := rfl
  rw [hx, doFwInfo, hinfo, hinfo, hu.moves.otp]

theorem ringStatus_command (hp : s.Passes 0x0801 l h p) : Completes (.ringStatus l h p) s fun t =>
    s.gives t l h ((ringWords.map (fun a => leBytes 4 (s.rd a).toNat)).flatten) ∧ s.OnlySteward t := by
  refine answered_command rfl hp ok_ne_authFail fun u hu => ?_
  have hx : u.execute l (hdrCmd h 0x0801 p) = u.doRingStatus l (hdrCmd h 0x0801 p) := rfl
  rw [hx, doRingStatus, regBytes_of_block (by decide), hu.words]

theorem safeStatus_command (hp : s.Passes 0x0901 l h p) : Completes (.safeStatus l h p) s fun t =>
    s.gives t l h ((safeWords.map (fun a => leBytes 4 (s.rd a).toNat)).flatten) ∧ s.OnlySteward t := by
  refine answered_command rfl hp ok_ne_authFail fun u hu => ?_
  have hx : u.execute l (hdrCmd h 0x0901 p) = u.doSafeStatus l (hdrCmd h 0x0901 p) := rfl
  rw [hx, doSafeStatus, regBytes_of_block (by decide), hu.words]

theorem roster_block {e : Nat} (h : e < 6144) : blockIndex (R.RING_ROSTERe e) = 11 := by
  simp only [blockIndex, R.RING_ROSTERe]
  omega

theorem rosterRead_command (h1 : 1 ≤ fieldLe p 2 2) (h2 : fieldLe p 2 2 ≤ 1020) (h3 : fieldLe p 0 2 + fieldLe p 2 2 ≤ 6144)
    (hp : s.Passes 0x0804 l h p) : Completes (.rosterRead l h p) s fun t =>
      s.gives t l h (((R.RING_GEN :: (List.range (fieldLe p 2 2)).map (fun i => R.RING_ROSTERe (fieldLe p 0 2 + i))).map
        (fun a => leBytes 4 (s.rd a).toNat)).flatten) ∧ s.OnlySteward t := by
  refine answered_command rfl hp ok_ne_authFail fun u hu => ?_
  have hx : u.execute l (hdrCmd h 0x0804 p) = u.doRosterRead l (hdrCmd h 0x0804 p) := rfl
  have hblock : ∀ a ∈ R.RING_GEN :: (List.range (fieldLe p 2 2)).map (fun i => R.RING_ROSTERe (fieldLe p 0 2 + i)), blockIndex a = 11 ∨ blockIndex a = 12 := by
    intro a ha
    rw [List.mem_cons, List.mem_map] at ha
    rcases ha with rfl | ⟨k, hk, rfl⟩
    · decide
    · exact .inl (roster_block (by have := List.mem_range.mp hk; omega))
  rw [hx, doRosterRead, hdrCmd_payload, if_neg (by omega), if_neg (by omega), regBytes_of_block hblock, hu.words]

theorem presentRead_command (hp : s.Passes 0x0805 l h p) : Completes (.presentRead l h p) s fun t =>
    s.gives t l h (leBytes 2 (s.get F.RING_GEN_GEN) ++ zeros 2 ++ leBytes 128 s.ring.live.present.toNat) ∧ s.OnlySteward t := by
  refine answered_command rfl hp ok_ne_authFail fun u hu => ?_
  have hx : u.execute l (hdrCmd h 0x0805 p) = u.doPresentRead l (hdrCmd h 0x0805 p) := rfl
  rw [hx, doPresentRead, hu.get, hu.moves.ring]

theorem safeParamRead_command (hp : s.Passes 0x0904 l h p) : Completes (.safeParamRead l h p) s fun t =>
    s.gives t l h (s.safe.a.liveBlock ++ leBytes 4 (crc32c (s.safe.a.liveBlock.take 252)).toNat ++
      leBytes 4 (crc32c (s.safe.b.liveBlock.take 252)).toNat) ∧ s.OnlySteward t := by
  refine answered_command rfl hp ok_ne_authFail fun u hu => ?_
  have hx : u.execute l (hdrCmd h 0x0904 p) = u.doSafeRead l (hdrCmd h 0x0904 p) := rfl
  rw [hx, doSafeRead, hu.moves.safe]

theorem safeDiagRead_command (hp : s.Passes 0x0905 l h p) : Completes (.safeDiagRead l h p) s fun t =>
    s.gives t l h (((s.safe.a.hist ++ s.safe.b.hist).map (fun e => leBytes 1 e.1 ++ zeros 3 ++ leBytes 4 e.2.toNat)).flatten) ∧ s.OnlySteward t := by
  refine answered_command rfl hp ok_ne_authFail fun u hu => ?_
  have hx : u.execute l (hdrCmd h 0x0905 p) = u.doSafeDiag l (hdrCmd h 0x0905 p) := rfl
  rw [hx, doSafeDiag, hu.moves.safe, List.map_append, List.flatten_append]

theorem loupeRead_command (h1 : 1 ≤ fieldLe p 2 2) (h2 : fieldLe p 2 2 ≤ 255) (hp : s.Passes 0x0A03 l h p) : Completes (.loupeRead l h p) s fun t =>
    s.gives t l h (leBytes 1 s.stew.loupe.state ++ zeros 1 ++ leBytes 2 s.stew.loupe.recs.length ++
      (((s.stew.loupe.recs.drop (fieldLe p 0 2)).take (fieldLe p 2 2)).map LoupeRec.bytes).flatten) ∧ s.OnlySteward t := by
  refine answered_command rfl hp ok_ne_authFail fun u hu => ?_
  have hx : u.execute l (hdrCmd h 0x0A03 p) = u.doLoupeRead l (hdrCmd h 0x0A03 p) := rfl
  rw [hx, doLoupeRead, hu.loupe, hdrCmd_payload]
  dsimp only
  rw [if_neg (by omega)]

/-! ### Refusals for the mode, and long operations -/

theorem Ready.conflict (hu : Ready s u l h op) : u.conflict = { status := Status.modeConflict, detail := s.mode.code } := by
  rw [State.conflict, hu.mode]

theorem Ready.inService (hu : Ready s u l h op) : u.inService = s.inService := by
  rw [State.inService, hu.mode, State.inService]

theorem fwInstall_accepted (hp : s.Passes 0x0703 l h p) (hm : s.mode ≠ .run) : Completes (.fwInstall l h p) s fun t =>
    s.answers t l h { status := Status.accepted } ∧ t.stew.longOp.state = 1 ∧ t.stew.longOp.payload = p ∧ s.OnlySteward t :=
  accepted_command rfl hp fun u hu => if_neg (by rw [hu.mode]; exact hm)

theorem fwInstall_refused (hp : s.Passes 0x0703 l h p) (hm : s.mode = .run) : Completes (.fwInstall l h p) s fun t =>
    s.answers t l h { status := Status.modeConflict, detail := 3 } ∧ s.OnlySteward t := by
  refine answered_command rfl hp modeConflict_ne_authFail fun u hu => ?_
  have hx : u.execute l (hdrCmd h 0x0703 p) = u.doFwInstall l (hdrCmd h 0x0703 p) := rfl
  rw [hx, doFwInstall, hu.mode, if_pos hm, hu.conflict, hm]
  rfl

theorem Ready.allOutsOff (hu : Ready s u l h op) : u.allOutsOff = s.allOutsOff := by
  rw [State.allOutsOff, hu.moves.safe, State.allOutsOff]

theorem safeCommit_accepted (hp : s.Passes 0x0903 l h p) (hs : s.inService = true) (ho : s.allOutsOff = true) :
    Completes (.safeParamCommit l h p) s fun t =>
      s.answers t l h { status := Status.accepted } ∧ t.stew.longOp.state = 1 ∧ t.stew.longOp.payload = p ∧ s.OnlySteward t :=
  accepted_command rfl hp fun u hu => if_neg (by rw [hu.inService, hu.allOutsOff, hs, ho]; decide)

theorem safeCommit_refused (hp : s.Passes 0x0903 l h p) (hno : s.inService = false ∨ s.allOutsOff = false) :
    Completes (.safeParamCommit l h p) s fun t =>
      s.answers t l h { status := Status.modeConflict, detail := s.mode.code } ∧ s.OnlySteward t := by
  refine answered_command rfl hp modeConflict_ne_authFail fun u hu => ?_
  have hx : u.execute l (hdrCmd h 0x0903 p) = u.doSafeCommit l (hdrCmd h 0x0903 p) := rfl
  have hrefuse : (!s.inService || !s.allOutsOff) = true := by rcases hno with hno | hno <;> rw [hno] <;> simp
  rw [hx, doSafeCommit, hu.inService, hu.allOutsOff, if_pos hrefuse, hu.conflict]

theorem pertSet_refused (hp : s.Passes 0x0A01 l h p) (hs : s.inService = false) : Completes (.pertSet l h p) s fun t =>
    s.answers t l h { status := Status.modeConflict, detail := s.mode.code } ∧ s.OnlySteward t := by
  refine answered_command rfl hp modeConflict_ne_authFail fun u hu => ?_
  have hx : u.execute l (hdrCmd h 0x0A01 p) = u.doPertSet l (hdrCmd h 0x0A01 p) := rfl
  rw [hx, doPertSet]
  dsimp only
  rw [hu.inService, hs, if_pos (by decide), hu.conflict]

end State
end Sys2Proof.Machine

/-! Commands of the island's window, of the Loupe and of the ring (R58, R276, R278, R316). -/

namespace Sys2Proof.Machine

set_option Elab.async false
namespace State

variable {s t u v : State} {l : Link} {h : Hdr} {op : Nat} {p : List Byte} {x : Loupe} {n : Nat}

/-! ### The island's window (R316) -/

/-- The bytes of the payload stand in the window. -/
def safeStaged (s : State) (p : List Byte) : State :=
  { s with stew := { s.stew with safeStage := memSetBytes s.stew.safeStage (fieldLe p 0 2) (p.drop 4) } }

theorem safeStaged_moves (s : State) (p : List Byte) : Moves [.stew] s (s.safeStaged p) := .record (.refl s) (by rfl)

theorem safeParamWrite_command (hp : s.Passes 0x0902 l h p) (hs : s.inService = true) (h1 : 1 ≤ fieldLe p 2 2)
    (h2 : fieldLe p 0 2 + fieldLe p 2 2 ≤ 256) : Completes (.safeParamWrite l h p) s fun t =>
      s.answers t l h {} ∧ (∀ j, memGet t.stew.safeStage j = if fieldLe p 0 2 ≤ j ∧ j < fieldLe p 0 2 + (p.drop 4).length
        then (p.drop 4).getD (j - fieldLe p 0 2) 0 else memGet s.stew.safeStage j) ∧ s.OnlySteward t := by
  have hlink (u : State) : (u.safeStaged p).link l = u.link l := by cases l <;> rfl
  obtain ⟨u, hu, t, ht, hact⟩ := acted_command (i := .safeParamWrite l h p) (r := {}) rfl hp (by decide) (fun u => u.safeStaged p) (fun u hu => by
    have hx : u.execute l (hdrCmd h 0x0902 p) = u.doSafeWrite l (hdrCmd h 0x0902 p) := rfl
    rw [hx, doSafeWrite, hdrCmd_payload, hu.inService, hs]
    dsimp only
    rw [if_neg (by decide), if_neg (by omega), if_neg (by omega)]
    rfl) fun u _ => ⟨rfl, congrArg LinkSt.nextReply (hlink u)⟩
  refine ⟨t, ht, hact.answers, fun j => ?_, .of_moves (((hu.moves.trans (safeStaged_moves u p)).mono (by decide)).trans hact.moves)⟩
  have hstage : t.stew.safeStage = memSetBytes s.stew.safeStage (fieldLe p 0 2) (p.drop 4) :=
    hact.tasks.safeStage.trans (congrArg (memSetBytes · _ _) hu.tasks.safeStage)
  rw [hstage, memGet_memSetBytes]

/-! ### The Loupe (R58) -/

/-- The Loupe is armed. -/
def loupeSet (s : State) (x : Loupe) : State := { s with stew := { s.stew with loupe := x } }

theorem loupeSet_moves (s : State) (x : Loupe) : Moves [.stew] s (s.loupeSet x) := .record (.refl s) (by rfl)

theorem doLoupeArm_eq (hs : s.inService = true)
    (hx : x = { state := 1, mask := p.take 32, trigger := byteAt p 32, pre := fieldLe p 34 2, addr := fieldLe p 36 4, recs := [] })
    (ht : x.takes (byteAt p 32) = true) (hpre : fieldLe p 34 2 ≤ 4095) :
    s.doLoupeArm l (hdrCmd h op p) = (s.loupeSet x).answer l (hdrCmd h op p) {} := by
  rw [doLoupeArm, hdrCmd_payload]
  dsimp only
  rw [← hx, hs, ht, if_neg (by decide), if_neg (by decide), if_neg (by omega)]
  rfl

theorem loupeArm_command (hp : s.Passes 0x0A02 l h p) (hs : s.inService = true)
    (hx : x = { state := 1, mask := p.take 32, trigger := byteAt p 32, pre := fieldLe p 34 2, addr := fieldLe p 36 4, recs := [] })
    (htakes : x.takes (byteAt p 32) = true) (hpre : fieldLe p 34 2 ≤ 4095) (hlog : x.takes 0xF8 = false) (hses : x.takes 0xFC = false)
    (hattn : x.takes 0xFD = false) : Completes (.loupeArm l h p) s fun t => s.answers t l h {} ∧ t.stew.loupe = x ∧ s.OnlySteward t := by
  have hlink (u : State) : (u.loupeSet x).link l = u.link l := by cases l <;> rfl
  obtain ⟨u, hu, t, ht, hact⟩ := acted_command (i := .loupeArm l h p) (r := {}) rfl hp (by decide) (fun u => u.loupeSet x)
    (fun u hu => doLoupeArm_eq (hu.inService.trans hs) hx htakes hpre) fun u _ => ⟨rfl, congrArg LinkSt.nextReply (hlink u)⟩
  exact ⟨t, ht, hact.answers, hact.kept.loupe hlog hses hattn,
    .of_moves (((hu.moves.trans (loupeSet_moves u x)).mono (by decide)).trans hact.moves)⟩

/-! ### The ring (R276, R278) -/

/-- Under a policy that rests only the part of it that is no phase may change with it. -/
theorem policyAfter_stays {f : State → State} (h : s.policyRests) (hf : f s = v) (hmode : v.mode = s.mode) (hltr : v.rd R.SYS_LTR = s.rd R.SYS_LTR) :
    Moves [.sys] v (s.policyAfter f) ∧ (s.policyAfter f).sys.phase = v.sys.phase := by
  subst hf
  have hm : (f s).mode ≠ .doze := hmode ▸ coreRuns_not_doze h.1
  have hl : ((f s).rd R.SYS_LTR).toNat < 2000 := hltr ▸ h.2
  have hrest : ((f s).modSys (fun x => { x with ltrWritten := false })).policy = (f s).modSys (fun x => { x with ltrWritten := false }) :=
    policy_rests hm hl
  refine ⟨policyAfter_rests h hmode hltr, ?_⟩
  unfold policyAfter
  dsimp only
  split
  · rw [hrest]
    rfl
  · rfl

theorem Ready.policyRests (hu : Ready s u l h op) (hr : s.policyRests) : u.policyRests :=
  ⟨(coreRuns_congr hu.moves.regs hu.moves.sys).trans hr.1, (congrArg BitVec.toNat (hu.rd _)).trans_lt hr.2⟩

theorem Ready.ringState (hu : Ready s u l h op) : u.ringState = s.ringState := hu.get _

theorem ringJoin_eq (h1 : s.ringState = 1) (hsw : s.switching = false) (hlock : s.on F.RING_STAT_LOCK_A = true ∨ s.on F.RING_STAT_LOCK_B = true)
    (hdisc : s.get F.CLK_SYN0_DISC_SRC ≠ 0) : s.ringJoin = s.put F.RING_STAT_STATE 2 := by
  unfold ringJoin
  rw [if_pos ⟨h1, hlock, by rw [hsw]; rfl⟩, if_neg hdisc]

theorem ringJoin_command (hp : s.Passes 0x0802 l h p) (hr : s.policyRests) (h1 : s.ringState = 1) (hsw : s.switching = false)
    (hlock : s.on F.RING_STAT_LOCK_A = true ∨ s.on F.RING_STAT_LOCK_B = true) (hdisc : s.get F.CLK_SYN0_DISC_SRC ≠ 0) :
    Completes (.ringJoin l h p) s fun t =>
      s.answers t l h {} ∧ t.ringState = 2 ∧ (∀ b, b ≠ R.RING_STAT → t.rd b = s.rd b) ∧ s.clockKept t ∧ t.loom = s.loom := by
  have hjoin (u : State) (hu : Ready s u l h 0x0802) : u.ringJoin = u.put F.RING_STAT_STATE 2 :=
    ringJoin_eq (hu.ringState.trans h1) (by rw [switching, hu.mode]; exact hsw) (by rw [hu.on, hu.on]; exact hlock) (by rw [hu.get]; exact hdisc)
  have hmode (u : State) : (u.put F.RING_STAT_STATE 2).mode = u.mode := mode_of_rd (rd_put_other u _ _ _ (by decide))
  have hltr (u : State) : (u.put F.RING_STAT_STATE 2).rd R.SYS_LTR = u.rd R.SYS_LTR := rd_put_other u _ _ _ (by decide)
  have hpolicy (u : State) (hu : Ready s u l h 0x0802) := policyAfter_stays (hu.policyRests hr) (hjoin u hu) (hmode u) (hltr u)
  obtain ⟨u, hu, t, ht, hact⟩ := acted_command (i := .ringJoin l h p) (r := {}) rfl hp (by decide) (fun u => u.policyAfter (·.ringJoin)) (fun u hu => by
    have hx : u.execute l (hdrCmd h 0x0802 p) = u.doRingJoin l (hdrCmd h 0x0802 p) := rfl
    have hstays : u.switching = false := by
      rw [switching, hu.mode]
      exact hsw
    rw [hx, doRingJoin, hstays, hu.ringState, h1]
    rfl) fun u hu => ⟨(hpolicy u hu).2.trans (congrArg Sys.phase (put_sys ..)),
    by rw [link_congr ((hpolicy u hu).1.stew.trans (put_stew ..))]⟩
  have hm := (hpolicy u hu).1
  have hput : u.Writes (· = R.RING_STAT) (u.put F.RING_STAT_STATE 2) := .put (.refl u) rfl
  have hregs : t.regs = (u.put F.RING_STAT_STATE 2).regs := hact.moves.regs.trans hm.regs
  have hclk : s.clockKept (u.put F.RING_STAT_STATE 2) := ((hu.moves.mono (by decide)).trans (Moves.put (F := [.regs, .cycle, .stew]) (.refl u))).clockKept
  refine ⟨t, ht, hact.answers, ?_, fun b hb => ?_, clockKept_trans hclk (clockKept_trans hm.clockKept hact.moves.clockKept), ?_⟩
  · exact (get_congr hregs _).trans (get_put_same _ _ _ (by simp))
  · exact (rd_congr hregs b).trans ((hput.rd hb).trans (hu.rd b))
  · exact hact.moves.loom.trans (hm.loom.trans ((put_loom ..).trans hu.moves.loom))

/-- LEAVE goes out on every port. -/
def ringLeft (s : State) : State := s.modRing (fun r => { r with leaving := true, sent := r.sent ++ s.onRings (.leave s.ringSlot) })

theorem ringLeft_moves (s : State) : Moves [.ring] s s.ringLeft := .record (.refl s) (by rfl)

theorem Ready.onRings (hu : Ready s u l h op) (m : RingMsg) : u.onRings m = s.onRings m := by
  have hup : u.portUp = s.portUp := by
    funext q
    cases q <;> simp only [portUp, portOn, hu.on]
  rw [State.onRings, hup, State.onRings]

theorem ringLeave_command (hp : s.Passes 0x0803 l h p) (hr : s.policyRests) (h3 : s.ringState = 3) : Completes (.ringLeave l h p) s fun t =>
    s.answers t l h {} ∧ t.ring.leaving = true ∧ t.ring.sent = s.ring.sent ++ s.onRings (.leave s.ringSlot) ∧ t.regs = s.regs ∧ s.clockKept t := by
  have hleave (u : State) (hu : Ready s u l h 0x0803) : u.ringLeave = u.ringLeft := if_pos (hu.ringState.trans h3)
  have hpolicy (u : State) (hu : Ready s u l h 0x0803) := policyAfter_stays (hu.policyRests hr) (hleave u hu) (mode_congr (ringLeft_moves u).regs)
    (rd_congr (ringLeft_moves u).regs _)
  obtain ⟨u, hu, t, ht, hact⟩ := acted_command (i := .ringLeave l h p) (r := {}) rfl hp (by decide) (fun u => u.policyAfter (·.ringLeave)) (fun u hu => by
    have hx : u.execute l (hdrCmd h 0x0803 p) = u.doRingLeave l (hdrCmd h 0x0803 p) := rfl
    rw [hx, doRingLeave, hu.ringState, h3]
    rfl) fun u hu => ⟨(hpolicy u hu).2.trans (congrArg Sys.phase (ringLeft_moves u).sys),
    by rw [link_congr ((hpolicy u hu).1.stew.trans (ringLeft_moves u).stew)]⟩
  have hm := (hpolicy u hu).1
  have hring : t.ring = u.ringLeft.ring := hact.moves.ring.trans hm.ring
  have hslot : u.ringSlot = s.ringSlot := hu.get _
  refine ⟨t, ht, hact.answers, congrArg Ring.leaving hring, ?_, hact.moves.regs.trans (hm.regs.trans ((ringLeft_moves u).regs.trans hu.moves.regs)),
    clockKept_trans hu.moves.clockKept (clockKept_trans (ringLeft_moves u).clockKept (clockKept_trans hm.clockKept hact.moves.clockKept))⟩
  have hsent : u.ringLeft.ring.sent = u.ring.sent ++ u.onRings (.leave u.ringSlot) := rfl
  rw [hring, hsent, hslot, hu.onRings, hu.moves.ring]

end State
end Sys2Proof.Machine

/-! The restart of the safety island by a command, and the Steward's links beside it (R295, R316). -/

namespace Sys2Proof.Machine

set_option Elab.async false
namespace State

variable {s t u : State} {l : Link} {h : Hdr} {p : List Byte} {n k : Nat} {m : Mirror}

/-! ### Links beside the outputs -/

/-- What every link remembers of commands and replies stays. -/
def LinksKept (s t : State) : Prop := ∀ l, (s.link l).SameAnswers (t.link l)

namespace LinksKept

theorem refl (s : State) : s.LinksKept s := fun _ => .refl _
theorem trans (h : s.LinksKept t) (h' : t.LinksKept u) : s.LinksKept u := fun l => (h l).trans (h' l)
theorem same (h : s.LinksKept t) (hs : u.stew = t.stew) : s.LinksKept u := fun l => link_congr hs l ▸ h l
theorem raise (h : s.LinksKept t) (src : Nat) : s.LinksKept (t.raise src) := h.trans (Tended.raise (.refl t)).answers
theorem log (h : s.LinksKept t) {code block : Nat} {sev : Severity} {data : List Byte} : s.LinksKept (t.log code block sev data) :=
  h.trans (Tended.log (.refl t)).answers
theorem ite {c : Prop} [Decidable c] (ht : s.LinksKept t) (hu : s.LinksKept u) : s.LinksKept (if c then t else u) := by split <;> assumption
theorem foldl {α : Type} {f : State → α → State} {as : List α} (h : s.LinksKept t) (hf : ∀ u a, s.LinksKept u → s.LinksKept (f u a)) :
    s.LinksKept (as.foldl f t) := by
  induction as generalizing t with
  | nil => exact h
  | cons a as ih => exact ih (hf t a h)
theorem forAll (h : s.LinksKept t) {n : Nat} {f : Nat → State → State} (hf : ∀ i u, s.LinksKept u → s.LinksKept (f i u)) : s.LinksKept (t.forAll n f) :=
  foldl h fun u i hu => hf i u hu

end LinksKept

theorem gdLatch_links (s : State) (n : Nat) (flag : Fld) : s.LinksKept (s.gdLatch n flag) := by
  unfold gdLatch gdSummary
  dsimp only
  exact .ite (.refl s) (.log (.raise (.same (.refl s) (by simp only [putB_stew, set1_stew])) _))

theorem gdRefresh_links (s : State) (n : Nat) : s.LinksKept (s.gdRefresh n) := by
  have hcmd : s.LinksKept (s.putB (F.GDP_GDn_STAT_CMD n) (s.gdCommand n)) := .same (.refl s) (putB_stew ..)
  rw [gdRefresh_eq]
  exact .same (.same (.ite (hcmd.trans (gdLatch_links _ n _)) hcmd) (gdDrive_moves _ n _).stew) (putB_stew ..)

theorem gdRefreshAll_links (s : State) : s.LinksKept s.gdRefreshAll := .forAll (.refl s) fun n u hu => hu.trans (gdRefresh_links u n)

theorem blockLegs_links (s : State) (cause : Cause) (mask : Nat) : s.LinksKept (s.blockLegs cause mask) := by
  have hleg (u : State) (l : Nat) : u.LinksKept (u.blockLeg cause l) :=
    have hblocked : u.LinksKept (u.blockedLeg cause l) := .same (.refl u) (blockedLeg_moves u cause l).stew
    blockLeg_cases hblocked fun n => hblocked.raise n
  exact .forAll (.refl s) fun l u hu => .ite (hu.trans (hleg u l)) hu

theorem gateSettled_links (s was : State) : s.LinksKept (s.gateSettled was) := by
  have hclr : s.LinksKept (s.clr F.LOOM_STAT_GEN) := .same (.refl s) (clr_stew ..)
  have hset : s.LinksKept (s.set1 F.LOOM_STAT_GEN) := .same (.refl s) (set1_stew ..)
  exact .ite ((hclr.trans (blockLegs_links _ _ _)).trans (gdRefreshAll_links _)) (.ite ((hset.trans (gdRefreshAll_links _)).raise _) (.refl s))

theorem settleOuts_links (s was : State) : s.LinksKept (s.settleOuts was) := by
  have htold : s.LinksKept (s.outsTold was) := LinksKept.foldl (gateSettled_links s was) fun u k hu => .ite (hu.raise _) hu
  rw [settleOuts_eq]
  exact htold.same (safeShow_moves _).stew

/-! ### Both mirrors enter BOOT (R295) -/

/-- A mirror with its supply enters BOOT at a restart. -/
def bootAgain (x : MirrorSt) : MirrorSt := if x.dead || (x.state == .fault && !true) then x else x.enterBoot

theorem bootAgain_live {x : MirrorSt} (h : x.dead = false) : bootAgain x = x.enterBoot := by
  rw [bootAgain, h, Bool.not_true, Bool.and_false]
  rfl

/-- Both mirrors have entered BOOT. -/
def mirrorsRestarted (s : State) : State :=
  ((s.clearAutoFaults.modMir .a bootAgain).modMir .b bootAgain).modSafe (fun z => { z with armed := 0, cflt := 0, told := 0, faultSaid := z.faultSaid && !true })

theorem islandBoot_eq (s : State) : s.islandBoot true = s.island mirrorsRestarted := rfl

theorem clearAutoFaults_moves (s : State) : Moves [.safe] s s.clearAutoFaults := by
  unfold clearAutoFaults
  exact modSafe_moves _ _

theorem mirrorsRestarted_moves (s : State) : Moves [.safe] s s.mirrorsRestarted :=
  (((clearAutoFaults_moves s).trans (modMir_moves _ .a _)).trans (modMir_moves _ .b _)).trans (modSafe_moves _ _)

theorem mirrorsRestarted_mir (h : (s.mir m).dead = false) : s.mirrorsRestarted.mir m = (s.mir m).enterBoot := by
  have hmir : s.mirrorsRestarted.mir m = bootAgain (s.mir m) := by cases m <;> rfl
  rw [hmir, bootAgain_live h]

theorem islandBoot_step (s : State) : s.IsleStep (s.islandBoot true) := island_step (.of_safe (mirrorsRestarted_moves s))

theorem islandBoot_links (s : State) : s.LinksKept (s.islandBoot true) := by
  have hlinks : s.LinksKept s.mirrorsRestarted := .same (.refl s) (mirrorsRestarted_moves s).stew
  exact hlinks.trans (settleOuts_links _ s)

theorem islandBoot_mir (h : (s.mir m).dead = false) : (s.islandBoot true).mir m = (s.mir m).enterBoot := by
  rw [islandBoot_eq, island_mir, mirrorsRestarted_mir h]

/-- SAFE_RESTART: both mirrors enter BOOT with their stores, and the gate-enable is off. -/
theorem safeRestart_command (hp : s.Passes 0x0906 l h p) (hr : s.policyRests) (hda : s.safe.a.dead = false) (hdb : s.safe.b.dead = false) :
    Completes (.safeRestart l h p) s fun t =>
      s.answers t l h {} ∧ t.safe.a.state = .boot ∧ t.safe.b.state = .boot ∧ t.genOn = false ∧ t.safe.a.store = s.safe.a.store ∧
      t.safe.b.store = s.safe.b.store ∧ s.clockKept t := by
  have hpolicy (u : State) (hu : Ready s u l h 0x0906) := policyAfter_stays (f := (·.islandBoot true)) (hu.policyRests hr) rfl (islandBoot_step u).mode
    (islandBoot_step u).ltr
  obtain ⟨u, hu, t, ht, hact⟩ := acted_command (i := .safeRestart l h p) (r := {}) rfl hp (by decide) (fun u => u.policyAfter (·.islandBoot true))
    (fun u _ => rfl) fun u hu => ⟨(hpolicy u hu).2.trans (congrArg Sys.phase (islandBoot_step u).moves.sys),
      ((congrArg LinkSt.nextReply (link_congr (hpolicy u hu).1.stew l)).trans (islandBoot_links u l).nextReply)⟩
  have hm := (hpolicy u hu).1
  have hsafe : t.safe = (u.islandBoot true).safe := hact.moves.safe.trans hm.safe
  have hsame : u.safe = s.safe := hu.moves.safe
  have hmira : t.safe.a = s.safe.a.enterBoot := by
    rw [hsafe, ← hsame]
    exact islandBoot_mir (m := .a) ((congrArg (fun z => z.a.dead) hsame).trans hda)
  have hmirb : t.safe.b = s.safe.b.enterBoot := by
    rw [hsafe, ← hsame]
    exact islandBoot_mir (m := .b) ((congrArg (fun z => z.b.dead) hsame).trans hdb)
  have hclk : s.clockKept t := clockKept_trans hu.moves.clockKept (clockKept_trans (islandBoot_step u).moves.clockKept
    (clockKept_trans hm.clockKept hact.moves.clockKept))
  exact ⟨t, ht, hact.answers, congrArg MirrorSt.state hmira, congrArg MirrorSt.state hmirb,
    genOn_of_cmd (m := .a) (MirrorSt.cmd_of_state ((congrArg MirrorSt.state hmira).trans_ne MirState.noConfusion) 0),
    (congrArg MirrorSt.store hmira).trans rfl, (congrArg MirrorSt.store hmirb).trans rfl, hclk⟩

end State
end Sys2Proof.Machine

/-! FW_WRITE: the commit record of the slot goes, and the bytes stand in it (R354 to R357). -/

namespace Sys2Proof.Machine

set_option Elab.async false
namespace State

variable {s t u : State} {l : Link} {h : Hdr} {op : Nat} {p : List Byte}

theorem fwIdle_of_writing {i : Nat} (h : s.cfg.fwWriting = some i) : s.fwIdle = i := by
  rw [fwIdle, h]

theorem Ready.fwIdle (hu : Ready s u l h op) : u.fwIdle = s.fwIdle := by
  have hrom : s.RomKept u := .of_mem hu.moves.mem
  rw [State.fwIdle, hu.moves.cfg, hu.moves.sys, hrom.fwRseq, hrom.fwRseq, State.fwIdle]

/-- What the first FW_WRITE, or a later one, has begun: the slot is known, the MRAM has its record, and nothing else has changed. -/
structure FwBegun (s t : State) : Prop where
  moves : Moves [.mram, .cfg] s t
  writing : t.cfg.fwWriting = some s.fwIdle
  worn : t.mem.worn = []

theorem fwWriteRecord_moves (s : State) (slot state len : Nat) (hash : List Byte) (version : Nat) :
    Moves [.mram, .cfg] s (s.fwWriteRecord slot state len hash version) := .record (.mramWrite (.refl s)) (by rfl)

theorem fwBegin_begun (hw : s.mem.worn = []) : s.FwBegun s.fwBegin := by
  unfold fwBegin
  split
  next i hi => exact ⟨.refl s, by rw [fwIdle_of_writing hi, hi], hw⟩
  next =>
    exact ⟨.record (fwWriteRecord_moves s _ _ _ _ _) (by rfl), rfl, (mramWrite_unworn hw _ _).2⟩

/-- The bytes of FW_WRITE stand in the slot. -/
def fwStored (s : State) (p : List Byte) : State := s.fwBegin.mramWrite (fwBase s.fwBegin.fwIdle + fieldLe p 0 4) (p.drop 4)

theorem fwWrite_command (hp : s.Passes 0x0702 l h p) (hm : s.mode ≠ .run) (hlen : fieldLe p 0 4 + (p.drop 4).length ≤ 0x200000) (hi : s.fwIdle ≤ 1)
    (hw : s.mem.worn = []) : Completes (.fwWrite l h p) s fun t =>
      s.answers t l h {} ∧ t.cfg.fwWriting = some s.fwIdle ∧
      (∀ j, j < (p.drop 4).length → memGet t.mem.mram (fwBase s.fwIdle + fieldLe p 0 4 + j) = (p.drop 4).getD j 0) ∧
      t.regs = s.regs ∧ s.clockKept t ∧ t.otp = s.otp := by
  have hbegun (u : State) (hu : Ready s u l h 0x0702) : u.FwBegun u.fwBegin := fwBegin_begun ((congrArg Mem.worn hu.moves.mem).trans hw)
  have hstored (u : State) (hu : Ready s u l h 0x0702) : Moves [.mram, .cfg] u (u.fwStored p) := .mramWrite (hbegun u hu).moves
  obtain ⟨u, hu, t, ht, hact⟩ := acted_command (i := .fwWrite l h p) (r := {}) rfl hp (by decide) (fun u => u.fwStored p) (fun u hu => by
    have hx : u.execute l (hdrCmd h 0x0702 p) = u.doFwWrite l (hdrCmd h 0x0702 p) := rfl
    rw [hx, doFwWrite, hdrCmd_payload, hu.mode]
    dsimp only
    rw [if_neg hm, if_neg (not_lt.mpr hlen)]
    rfl) fun u hu => ⟨congrArg Sys.phase (hstored u hu).sys, congrArg LinkSt.nextReply (link_congr (hstored u hu).stew l)⟩
  have hb := hbegun u hu
  have hidle : u.fwBegin.fwIdle = s.fwIdle := (fwIdle_of_writing hb.writing).trans hu.fwIdle
  obtain ⟨hnew, hworn⟩ := mramWrite_unworn (s := u.fwBegin) hb.worn (fwBase u.fwBegin.fwIdle + fieldLe p 0 4) (p.drop 4)
  have hall : Moves [.events, .stew, .mram, .rtc, .draws, .tst, .cfg] s t :=
    ((hu.moves.mono (by decide)).trans ((hstored u hu).mono (by decide))).trans (hact.moves.mono (by decide))
  have hcfg : t.cfg = u.fwBegin.cfg := hact.moves.cfg
  refine ⟨t, ht, hact.answers, (congrArg Cfg.fwWriting hcfg).trans (hb.writing.trans (congrArg some hu.fwIdle)), fun j hj => ?_, hall.regs, hall.clockKept,
    hall.otp⟩
  have hlow : fwBase s.fwIdle + fieldLe p 0 4 + j < 0x490000 := by
    simp only [fwBase]
    omega
  rw [(hact.kept.low hworn).2 _ hlow, fwStored, hnew, hidle, memGet_memSetBytes, if_pos (by omega), Nat.add_sub_cancel_left]

end State
end Sys2Proof.Machine

/-! PERT_SET, and the unit commands together (R56, R59, R375). -/

namespace Sys2Proof.Machine

set_option Elab.async false
namespace State

variable {s t u : State} {l : Link} {h : Hdr} {p : List Byte} {a k : Nat} {v : Word} {r : RegRow}

/-! ### The registers of the perturbation -/

/-- How software reaches TST_SEED. -/
def seedRow : RegRow := { base := 0x40100004, dims := [], reset := 0xACE1, rws := 0xFFFF, secure := true, lockRws := true }
/-- How software reaches TST_DLYk. -/
def delayRow : RegRow := { base := 0x40100010, dims := [(0x4, 8)], reset := 0x0, rws := 0x3FF, secure := true, lockRws := true }
/-- How software reaches TST_CTRL. -/
def testRow : RegRow := { base := 0x40100000, dims := [], reset := 0x0, w1s := 0x80000000, rws := 0x1, secure := true, lockRws := true }

theorem regRow?_TST_SEED : regRow? R.TST_SEED = some seedRow := by rfl
theorem regRow?_TST_DLYk (k : Fin 8) : regRow? (R.TST_DLYk k) = some delayRow := by fin_cases k <;> rfl
theorem regRow?_TST_CTRL : regRow? R.TST_CTRL = some testRow := by rfl

/-- A write of a row of the test block by the Steward, while the block is open, reaches the register's own behaviour. -/
theorem regWrite_test (hr : regRow? a = some r) (ha : blockIndex a = 16) (hb : blockIndex r.base = 16) (hc : r.w1c = 0)
    (hl : s.blockLocked 16 = false) : s.regWrite .secure a v = (s.hook a v).markWritten a (s.writable a) := by
  have hfree : s.frozenBits r = 0 := by rw [frozenBits, hb, hl]; rfl
  have hmode : s.modeRefuses a v = false := by simp only [modeRefuses, ha]
  have hcheck : s.checkWrite .secure a v = .written := by
    simp [checkWrite, hr, hmode, worldDenies, differs, hfree]
  have hwhole : s.frozenWhole a = false := by simp [frozenWhole, hr, hfree]
  have hall (x : Word) : x &&& 0xFFFFFFFF#32 = x := BitVec.and_allOnes
  have hval : s.presented a v = v := by simp [presented, hr, hfree, hc, hall]
  simp only [regWrite, busReg, hcheck, writeThrough, hwhole, hval, Bool.false_eq_true, if_false]

/-- A plain register of the test block takes a value. -/
def testStored (s : State) (a : Nat) (v : Word) : State := (s.storePlain a v).markWritten a (s.writable a)

theorem testStored_moves (s : State) (a : Nat) (v : Word) : Moves [.regs, .cycle] s (s.testStored a v) :=
  ((storePlain_moves s a v).mono (by decide)).trans ((markWritten_moves _ _ _).mono (by decide))

theorem testStored_regs (s : State) (a : Nat) (v : Word) : (s.testStored a v).regs = (s.storePlain a v).regs := rfl

/-- The block is open, and the device is in SERVICE. -/
structure TestOpen (s : State) : Prop where
  service : s.inService = true
  unlocked : s.blockLocked 16 = false

theorem TestOpen.of_rd (h : s.TestOpen) (hmode : t.rd R.SYS_MODE = s.rd R.SYS_MODE) (hctrl : t.rd R.TST_CTRL = s.rd R.TST_CTRL) : t.TestOpen := by
  refine ⟨?_, ?_⟩
  · rw [inService, mode_of_rd hmode]
    exact h.service
  · have hbase : blockBase 16 = R.TST_CTRL := rfl
    have hlock := h.unlocked
    rw [blockLocked, hbase] at hlock ⊢
    rw [hctrl]
    exact hlock

theorem regWrite_seed (h : s.TestOpen) (v : Word) : s.regWrite .secure R.TST_SEED v = s.testStored R.TST_SEED v := by
  rw [regWrite_test regRow?_TST_SEED (by decide) (by decide) rfl h.unlocked]
  have hhook : s.hook R.TST_SEED v = s.storePlain R.TST_SEED v := by
    have hno : ¬ (isIn R.TST_SEED (R.TST_DLYk 0) 4 8 = true ∧ (!s.inService) = true) := fun hx => absurd hx.2 (by rw [h.service]; decide)
    have hx : s.hook R.TST_SEED v = s.hookTst R.TST_SEED v := rfl
    rw [hx, hookTst, if_neg (by decide), if_neg (by decide), if_neg hno]
  rw [hhook, testStored]

theorem TST_DLYk_block (k : Fin 8) : blockIndex (R.TST_DLYk k) = 16 := by
  simp only [blockIndex, R.TST_DLYk]
  omega

theorem regWrite_delay (h : s.TestOpen) (k : Fin 8) (v : Word) : s.regWrite .secure (R.TST_DLYk k) v = s.testStored (R.TST_DLYk k) v := by
  rw [regWrite_test (regRow?_TST_DLYk k) (TST_DLYk_block k) (by decide) rfl h.unlocked]
  have hhook : s.hook (R.TST_DLYk k) v = s.storePlain (R.TST_DLYk k) v := by
    have hno : ¬ (isIn (R.TST_DLYk k) (R.TST_DLYk 0) 4 8 = true ∧ (!s.inService) = true) := fun hx => absurd hx.2 (by rw [h.service]; decide)
    have hx : s.hook (R.TST_DLYk k) v = s.hookTst (R.TST_DLYk k) v := by simp only [hook, TST_DLYk_block]
    rw [hx, hookTst, if_neg (by simp only [R.TST_DLYk, R.TST_CTRL]; omega), if_neg (by simp only [R.TST_DLYk, R.TST_RPL_CTRL]; omega), if_neg hno]
  rw [hhook, testStored]

/-! ### PERT_SET (R56) -/

/-- The value for target `k`'s delay. -/
def delayOf (p : List Byte) (k : Nat) : Word := BitVec.ofNat 32 (fieldLe p (4 + 2 * k) 2)

/-- The delays of the first `i` targets have been written, and nothing else. -/
structure Delayed (p : List Byte) (i : Nat) (s t : State) : Prop where
  moves : Moves [.regs, .cycle] s t
  done : ∀ k, k < i → t.rd (R.TST_DLYk k) = s.stored (R.TST_DLYk k) (delayOf p k)
  rest : ∀ b, (∀ k, k < i → b ≠ R.TST_DLYk k) → t.rd b = s.rd b

theorem Delayed.next {i : Nat} (h : Delayed p i s t) : Delayed p (i + 1) s (t.testStored (R.TST_DLYk i) (delayOf p i)) := by
  have hne {j k : Nat} (hjk : j ≠ k) : R.TST_DLYk j ≠ R.TST_DLYk k := by simp only [R.TST_DLYk]; omega
  refine ⟨h.moves.trans (testStored_moves t _ _), fun k hk => ?_, fun b hb => ?_⟩
  · rw [rd_congr (testStored_regs t _ _)]
    rcases Nat.lt_succ_iff_lt_or_eq.mp hk with hlt | rfl
    · rw [rd_storePlain_other _ _ (hne (Nat.ne_of_lt hlt)), h.done k hlt]
    · rw [rd_storePlain_same, stored, stored, h.rest _ fun j hj => hne (Nat.ne_of_gt hj)]
  · rw [rd_congr (testStored_regs t _ _), rd_storePlain_other _ _ (hb i (Nat.lt_succ_self i))]
    exact h.rest b fun k hk => hb k (Nat.lt_succ_of_lt hk)

/-- The delays of every target are written. -/
def delaysWritten (s : State) (p : List Byte) : State := s.forAll 8 (fun k u => u.regWrite .secure (R.TST_DLYk k) (delayOf p k))

theorem delaysWritten_delayed (h : s.TestOpen) (p : List Byte) : Delayed p 8 s (s.delaysWritten p) := by
  refine forAll_rec (p := fun i u => Delayed p i s u) ⟨.refl s, fun _ hk => absurd hk (Nat.not_lt_zero _), fun _ _ => rfl⟩ fun i u hi hu => ?_
  have hopen : u.TestOpen := h.of_rd (hu.rest _ fun k _ => by simp only [R.SYS_MODE, R.TST_DLYk]; omega)
    (hu.rest _ fun k _ => by simp only [R.TST_CTRL, R.TST_DLYk]; omega)
  rw [regWrite_delay hopen ⟨i, hi⟩]
  exact hu.next

theorem pertCtrl_moves (s : State) (v : Word) : Moves [.regs, .tst] s (s.pertCtrl v) := by
  have hstore (x : Word) : Moves [.regs, .tst] s (s.storePlain R.TST_CTRL x) := (storePlain_moves s _ x).mono (by decide)
  unfold pertCtrl
  exact .ite (.ite (.record (hstore v) (by rfl)) (hstore v)) (hstore _)

theorem pertCtrl_regs (h : s.inService = true) (v : Word) : (s.pertCtrl v).regs = (s.storePlain R.TST_CTRL v).regs := by
  unfold pertCtrl
  rw [if_pos h]
  dsimp only
  split <;> rfl

theorem regWrite_ctrl (h : s.TestOpen) (v : Word) : s.regWrite .secure R.TST_CTRL v = (s.pertCtrl v).markWritten R.TST_CTRL (s.writable R.TST_CTRL) :=
  regWrite_test regRow?_TST_CTRL (by decide) (by decide) rfl h.unlocked

/-- The registers of PERT_SET are written, in their order. -/
def pertWritten (s : State) (p : List Byte) : State :=
  ((s.regWrite .secure R.TST_SEED (BitVec.ofNat 32 (fieldLe p 0 2))).delaysWritten p).regWrite .secure R.TST_CTRL
    (setBits (((s.regWrite .secure R.TST_SEED (BitVec.ofNat 32 (fieldLe p 0 2))).delaysWritten p).rd R.TST_CTRL) 0 1 (byteAt p 20))

theorem doPertSet_eq (h : s.inService = true) {op : Nat} {hd : Hdr} : s.doPertSet l (hdrCmd hd op p) = (s.pertWritten p).answer l (hdrCmd hd op p) {} := by
  rw [doPertSet, h]
  rfl

/-- What PERT_SET leaves in the registers. -/
structure PertSet (p : List Byte) (s t : State) : Prop where
  moves : Moves [.regs, .cycle, .tst] s t
  seed : t.get F.TST_SEED_SEED = fieldLe p 0 2
  enable : t.on F.TST_CTRL_PERT_EN = (byteAt p 20).testBit 0
  delays : ∀ k : Fin 8, t.rd (R.TST_DLYk k) = s.stored (R.TST_DLYk k) (delayOf p k)
  rest : ∀ b, b ≠ R.TST_SEED → b ≠ R.TST_CTRL → isIn b (R.TST_DLYk 0) 4 8 = false → t.rd b = s.rd b

theorem seed_read (n : Nat) (h : n < 65536) : getBits (BitVec.ofNat 32 n) 0 16 = n := by
  rw [getBits_ofNat n (by decide)]
  omega

theorem get_seed_stored (s : State) (n : Nat) (h : n < 65536) : (s.storePlain R.TST_SEED (BitVec.ofNat 32 n)).get F.TST_SEED_SEED = n := by
  have hplain : ∀ i < 16, seedRow.plain.getLsbD (0 + i) = true := by decide
  have hnone : ∀ i < 16, (0 : Word).getLsbD (0 + i) = false := by decide
  exact (get_storePlain_plain s (f := F.TST_SEED_SEED) _ regRow?_TST_SEED (by simp) hplain hnone hnone).trans (seed_read n h)

/-- A bit of a byte as PERT_EN takes it. -/
theorem enable_read (v : Word) (n : Nat) : (getBits (setBits v 0 1 n) 0 1 != 0) = n.testBit 0 := by
  rw [getBits_setBits_same v 0 1 n (by decide), Nat.testBit_zero]
  rcases Nat.mod_two_eq_zero_or_one n with h | h
  · rw [pow_one, h]; rfl
  · rw [pow_one, h]; rfl

theorem on_enable_stored (s : State) (v : Word) (n : Nat) : (s.storePlain R.TST_CTRL (setBits v 0 1 n)).on F.TST_CTRL_PERT_EN = n.testBit 0 := by
  have hplain : ∀ i < 1, testRow.plain.getLsbD (0 + i) = true := by decide
  have hnone : ∀ i < 1, (0 : Word).getLsbD (0 + i) = false := by decide
  have hset : ∀ i < 1, testRow.w1s.getLsbD (0 + i) = false := by decide
  rw [on, get_storePlain_plain s (f := F.TST_CTRL_PERT_EN) _ regRow?_TST_CTRL (by simp) hplain hnone hset]
  exact enable_read v n

theorem ne_delay {b : Nat} (h : isIn b (R.TST_DLYk 0) 4 8 = false) (k : Nat) (hk : k < 8) : b ≠ R.TST_DLYk k := by
  rintro rfl
  have hin : isIn (R.TST_DLYk k) (R.TST_DLYk 0) 4 8 = true := congrArg Option.isSome (idx?_some (R.TST_DLYk 0) 4 8 k (by decide) hk)
  exact Bool.false_ne_true (h.symm.trans hin)

theorem pertWritten_set (h : s.TestOpen) (p : List Byte) : PertSet p s (s.pertWritten p) := by
  have hseed : s.regWrite .secure R.TST_SEED (BitVec.ofNat 32 (fieldLe p 0 2)) = s.testStored R.TST_SEED (BitVec.ofNat 32 (fieldLe p 0 2)) := regWrite_seed h _
  unfold pertWritten
  rw [hseed]
  have hmoves := testStored_moves s R.TST_SEED (BitVec.ofNat 32 (fieldLe p 0 2))
  have hget := (get_congr (testStored_regs s R.TST_SEED (BitVec.ofNat 32 (fieldLe p 0 2))) F.TST_SEED_SEED).trans (get_seed_stored s _ (fieldLe_lt p 0 2))
  have hother (b : Nat) (hb : b ≠ R.TST_SEED) := (rd_congr (testStored_regs s R.TST_SEED (BitVec.ofNat 32 (fieldLe p 0 2))) b).trans (rd_storePlain_other s _ hb)
  generalize s.testStored R.TST_SEED (BitVec.ofNat 32 (fieldLe p 0 2)) = a at *
  have hopen : a.TestOpen := h.of_rd (hother _ (by decide)) (hother _ (by decide))
  have hdelay := delaysWritten_delayed hopen p
  generalize a.delaysWritten p = b at *
  have hopen' : b.TestOpen := hopen.of_rd (hdelay.rest _ fun k _ => by simp only [R.SYS_MODE, R.TST_DLYk]; omega)
    (hdelay.rest _ fun k _ => by simp only [R.TST_CTRL, R.TST_DLYk]; omega)
  rw [regWrite_ctrl hopen']
  have hregs : ((b.pertCtrl (setBits (b.rd R.TST_CTRL) 0 1 (byteAt p 20))).markWritten R.TST_CTRL (b.writable R.TST_CTRL)).regs =
      (b.storePlain R.TST_CTRL (setBits (b.rd R.TST_CTRL) 0 1 (byteAt p 20))).regs := (markWritten_moves ..).regs.trans (pertCtrl_regs hopen'.service _)
  have hctrl (c : Nat) (hc : c ≠ R.TST_CTRL) := (rd_congr hregs c).trans (rd_storePlain_other b _ hc)
  have hseedFree : b.rd R.TST_SEED = a.rd R.TST_SEED := hdelay.rest _ fun k _ => by simp only [R.TST_SEED, R.TST_DLYk]; omega
  refine ⟨?_, ?_, ?_, fun k => ?_, fun c h1 h2 h3 => ?_⟩
  · exact ((hmoves.mono (by decide)).trans (hdelay.moves.mono (by decide))).trans (((pertCtrl_moves b _).mono (by decide)).trans
      ((markWritten_moves ..).mono (by decide)))
  · exact (get_of_rd ((hctrl _ (by decide)).trans hseedFree)).trans hget
  · exact (on_congr hregs _).trans (on_enable_stored b _ _)
  · rw [hctrl _ (by simp only [R.TST_CTRL, R.TST_DLYk]; omega), hdelay.done k k.isLt, stored, stored, hother _ (by simp only [R.TST_SEED, R.TST_DLYk]; omega)]
  · exact (hctrl c h2).trans ((hdelay.rest c fun k hk => ne_delay h3 k hk).trans (hother c h1))

theorem pertSet_command (hp : s.Passes 0x0A01 l h p) (hs : s.inService = true) (hl : s.blockLocked 16 = false) : Completes (.pertSet l h p) s fun t =>
    s.answers t l h {} ∧ t.get F.TST_SEED_SEED = fieldLe p 0 2 ∧ t.on F.TST_CTRL_PERT_EN = (byteAt p 20).testBit 0 ∧
    (∀ k : Fin 8, t.rd (R.TST_DLYk k) = s.stored (R.TST_DLYk k) (BitVec.ofNat 32 (fieldLe p (4 + 2 * k) 2))) ∧
    (∀ b, b ≠ R.TST_SEED → b ≠ R.TST_CTRL → isIn b (R.TST_DLYk 0) 4 8 = false → t.rd b = s.rd b) ∧ s.clockKept t := by
  have hset (u : State) (hu : Ready s u l h 0x0A01) : PertSet p u (u.pertWritten p) :=
    pertWritten_set (TestOpen.of_rd ⟨hs, hl⟩ (hu.rd _) (hu.rd _)) p
  obtain ⟨u, hu, t, ht, hact⟩ := acted_command (i := .pertSet l h p) (r := {}) rfl hp (by decide) (fun u => u.pertWritten p)
    (fun u hu => doPertSet_eq (hu.inService.trans hs)) fun u hu =>
      ⟨congrArg Sys.phase (hset u hu).moves.sys, congrArg LinkSt.nextReply (link_congr (hset u hu).moves.stew l)⟩
  have hw := hset u hu
  have hregs : t.regs = (u.pertWritten p).regs := hact.moves.regs
  refine ⟨t, ht, hact.answers, (get_congr hregs _).trans hw.seed, (on_congr hregs _).trans hw.enable, fun k => ?_, fun b h1 h2 h3 => ?_,
    clockKept_trans hu.moves.clockKept (clockKept_trans hw.moves.clockKept hact.moves.clockKept)⟩
  · rw [rd_congr hregs, hw.delays k, stored, stored, hu.rd]
    rfl
  · exact (rd_congr hregs b).trans ((hw.rest b h1 h2 h3).trans (hu.rd b))

end State

/-- Settles O44, by the state that each command reaches before its answer, and by what the answer leaves alone. -/
theorem unitCommands : Obligations.UnitCommands := fun _ _ _ _ =>
  ⟨State.fwInfo_command, State.fwWrite_command, State.fwInstall_accepted, State.fwInstall_refused, State.ringStatus_command, State.ringJoin_command,
    State.ringLeave_command, State.rosterRead_command, State.presentRead_command, State.safeStatus_command,
    fun hp hs h1 h2 => State.safeParamWrite_command hp hs h1 h2, State.safeCommit_accepted, State.safeCommit_refused, State.safeParamRead_command,
    State.safeDiagRead_command, State.safeRestart_command, State.pertSet_command, State.pertSet_refused,
    fun _ hp hs hx ht hpre => State.loupeArm_command hp hs hx ht hpre, State.loupeRead_command⟩

end Sys2Proof.Machine
